-- ==== Sys2Proof/Word.lean ====
section
/-!
DEFINITION. The word types of the part: a register is 32 bits (R49), memory is bytes, a program word is 64 bits (R167),
and a bit range of a register is named by its highest and lowest bit (R8).
-/
namespace Sys2Proof

/-- A register's contents (R49). -/
abbrev Word := BitVec 32

/-- One byte of DRAM, SRAM or FeRAM. -/
abbrev Byte := BitVec 8

/-- A bit range [msb:lsb] of a register, written as in R8. -/
abbrev Field := Nat × Nat

end Sys2Proof
end

