-- ==== Sys2Proof/Syntax.lean ====
section
/-!
DEFINITION. The commands of the device: one constructor per row of spec/opcode_table.json, with the operands that the
row's rules give it. A command is a write or a read of a register, a packet or message received, an event on a pin, or
the coming about of an event that the rules time (a launch, a timeout, the end of an operation).
-/
namespace Sys2Proof

/-- The six requesters of register accesses (R50): the control cores, the PCIe Control window, the SPI target. -/
inductive Requester where
  | cc0 | cc1 | cc2 | cc3 | pcie | spi
  deriving DecidableEq, Repr

/-- One round of die temperatures (R630, R631): the reading of each replica 3 t + r in 1/16 °C, the replicas that hold a broken
oscillator, and the hottest oscillator of unit pages. -/
structure Thermals where
  reading : List Int
  broken : List Nat
  units : List (Nat × Int)
  deriving DecidableEq, Repr

/-- A Tsudex frame as a lane receives it (R539): the lane, whether its CRC is good, SEQ, ACK, GEN and the payload. Its TYPE is
the row's. -/
structure TsxMsg where
  lane : Fin 2
  good : Bool
  seq : Nat
  ack : Nat
  gen : Nat
  payload : List Byte
  deriving DecidableEq, Repr

inductive Instr where
  /-- REGISTER_WRITE (R49). A 32-bit write to a register that has no row of its own, checked for size, access code, ARMED, STOP and value range. -/
  | registerWrite (req : Requester) (addr size : Nat) (value : BitVec 64)
  /-- SET_ALIAS_WRITE (R13). A write through the SET alias sets the written RW and RWS bits of an SC register. -/
  | setAliasWrite (req : Requester) (page off : Nat) (value : Word)
  /-- CLR_ALIAS_WRITE (R13). A write through the CLR alias clears the written RW and RWS bits of an SC register, with a same-cycle hardware set winning; `hwSet` are the bits that the hardware sets in that cycle, `captured` the capture registers that it loads. -/
  | clrAliasWrite (req : Requester) (page off : Nat) (value hwSet : Word) (captured : List (Nat × Word)) (presenceLow : Bool)
  /-- PAGE_ENABLE (R56). PAGE_CTRL.ENABLE is written, enabling the instance or turning it OFF. -/
  | pageEnable (req : Requester) (page : Nat) (on : Bool)
  /-- PAGE_STOP (R56). PAGE_CTRL.STOP is written, asking the instance to stop at its safe point or to leave STOPPED. -/
  | pageStop (req : Requester) (page : Nat) (on : Bool)
  /-- PAGE_RESET (R57). PAGE_CTRL.RESET requests a reset at RESET_SCOPE, which is carried out or refused with SCOPE. -/
  | pageReset (req : Requester) (page scope : Nat)
  /-- ARM (R62). PAGE_COMMIT.ARM arms every shadow of the commit group, and MISSED is set when the ARM falls inside the guard. -/
  | arm (req : Requester) (page : Nat)
  /-- DISARM (R60). PAGE_COMMIT.DISARM returns every shadow of the group to its live value and clears ARMED. -/
  | disarm (req : Requester) (page : Nat)
  /-- RESET_COMPLETE (R70). A unit, cluster or region reset finishes, and BUSY clears. -/
  | resetComplete (level inst : Nat)
  /-- UNMAPPED_ACCESS (R43). An access to a reserved range or an unassigned page reads 0 or is dropped, and sets UNMAPPED. -/
  | unmappedAccess (req : Requester) (addr : Nat) (write : Bool)
  /-- PARITY_ERROR (R59). A parity error in live register storage fences the instance at the page's level; `masked`: a fault of a higher level is raised in the same cycle (R22). -/
  | parityError (page : Nat) (masked : Bool)
  /-- DIE_FAULT (R23). A die-level fault asserts FAULT_N and drops the Stile rail, and the wired outputs are released within 1 µs. -/
  | dieFault
  /-- CONTAINMENT_TIMEOUT (R21). Containment does not complete within 1 ms, and the fault is raised one level higher. -/
  | containmentTimeout (level inst : Nat)
  /-- DRAM_ECC_ERROR (R38). A DRAM read that the ECC cannot correct raises a package-level fault; a corrected one is counted. -/
  | dramEccError (corrected : Bool)
  /-- SRAM_ECC_ERROR (R39). An uncorrectable region SRAM or program-memory word raises a region-level fault, unless `masked` by a higher one of the same cycle (R22); a corrected one is counted. -/
  | sramEccError (region : Fin 4) (corrected masked : Bool)
  /-- POR (R718). POR_N goes low after the supply ramps have elapsed, and a package reset follows. -/
  | por (roleB testMode : Bool)
  /-- RESET_N_LOW (R20). RESET_N goes low and requests a die reset, or a wake in Retain or Heath. -/
  | resetNLow
  /-- VCORE_BROWNOUT (R20). VCORE stays below 0.55 V for more than 1 µs while PWR_EN_CORE is high, and a package reset follows. -/
  | vcoreBrownout
  /-- CLOCK_MOVE (R36). A CLK_CTRL.ON_ROOT_REQ write moves ACLK and FCLK between FIO and ROOT, glitch-free, over 16 FIO cycles. -/
  | clockMove (req : Requester) (toRoot : Bool)
  /-- ROOT_LOCK (R34). The ROOT PLL reports lock. -/
  | rootLock (micros fioKhz : Nat)
  /-- ROOT_LOST (R35). ROOT leaves lock, so clocks fall back to FIO, TCLK and PCLK stop, and the outputs are released. -/
  | rootLost
  /-- XTAL_STOP (R35). XTAL_IN stops for 2 µs, which is handled as a loss of ROOT. -/
  | xtalStop
  /-- NOW_LATCH (R81). A read of TLN.NOW_S_LO latches the rest of the time for that requester. -/
  | nowLatch (req : Requester)
  /-- STEP (R82). TL_ACTION.STEP sets the timeline to the SET value, or is refused while a Swath is not STOPPED. -/
  | step (req : Requester)
  /-- SLEW (R82). TL_ACTION.SLEW starts or extends a gradual slew of SLEW_OFFSET, or is refused unless SRC is NONE. -/
  | slew (req : Requester)
  /-- SLEW_ABORT (R83). TL_ACTION.SLEW_ABORT discards the part of a slew not yet applied. -/
  | slewAbort (req : Requester)
  /-- SLEW_DONE (R83). The last part of a slew accrues, and SLEWING clears. -/
  | slewDone
  /-- SERVO_EVENT (R85). A source's phase error, exact in 1/256 ns, updates the servo's rate, its integrator and the timeline state. -/
  | servoEvent (e : Rat) (interval : Option Nat)
  /-- HOLD_EXPIRED (R88). UNCERT in HOLDOVER first exceeds HOLD_LIMIT. -/
  | holdExpired
  /-- SYN_EDGE (R90). An edge on a SYN input is captured and judged valid or a glitch, and may advance INPUT_STATE; `alt`: falling, on SYN[0] a tri-level zero crossing (R113); `ltc`: the bits of an LTC frame. -/
  | synEdge (k : Fin 8) (alt : Bool) (lines : Nat) (ltc : BitVec 80)
  /-- SYN_MISS (R90). An expected instant passes without a valid edge, which counts a miss and may make the input LOST. -/
  | synMiss (k : Fin 8)
  /-- LEAP_APPLY (R104). The timeline reaches LEAP_AT_S, and UTC_OFFSET changes by one. -/
  | leapApply
  /-- PPS_OUT_PULSE (R101). A PPS_OUT pulse begins at a whole second plus OFFSET, subject to its gate. -/
  | ppsOutPulse
  /-- LTC_OUT_FRAME (R101). An LTC_OUT frame begins at an alignment instant plus OFFSET. -/
  | ltcOutFrame
  /-- FRAME_OUT_PULSE (R101). A FRAME_OUT pulse begins at a frame start of its Swath plus OFFSET. -/
  | frameOutPulse
  /-- RELEASE (R251). The Swath releases content frame F once its conditions hold. -/
  | release (k : Fin 16) (told : Option TsxMsg)
  /-- LIST_GO (R211). LIST_GO launches a non-AUTO list, or is ignored with BAD_VALUE. -/
  | listGo (req : Requester) (n : Fin 4) (k : Fin 8)
  /-- LIST_DESCRIPTOR_READ (R209). One descriptor of a launched list is read and submitted, and reading pauses while there is no room. -/
  | listDescriptorRead (n : Fin 4) (k : Fin 8)
  /-- JOB_SUBMIT (R202). A write to SUB_D[7] submits the staged descriptor, which is checked and stored, spilled or dropped. -/
  | jobSubmit (req : Requester) (n : Fin 4) (d7 : Word)
  /-- SUB_D_STAGE (R239). A write to SUB_D[0–6] stages a descriptor word for the requester. -/
  | subDStage (req : Requester) (n : Fin 4) (k : Fin 7) (value : Word)
  /-- CTR_VALUE_WRITE (R204). A write to CTR_VALUE sets the selected dependence counter. -/
  | ctrValueWrite (req : Requester) (n : Fin 4) (value : Word)
  /-- CTR_SIGNAL (R207). A write to CTR_SIGNAL subtracts from the selected counter, saturating at 0. -/
  | ctrSignal (req : Requester) (n : Fin 4) (value : Word)
  /-- COUNTER_DECREMENT (R205). A retiring job's signal reaches a counter, and the jobs waiting on it become READY at 0. -/
  | counterDecrement (n : Fin 4) (c : Fin 4096)
  /-- DOM_HEAD_SET (R217). A write to DOM_HEAD_SET moves a domain's HEAD, or is dropped while jobs of the domain are in flight. -/
  | domHeadSet (req : Requester) (n : Fin 4) (value : Word)
  /-- JOB_DISPATCH (R219). The dispatcher gives the oldest eligible READY job to an available executor. -/
  | jobDispatch (n : Fin 4) (cls : Fin 4)
  /-- JOB_COMPLETE (R203). An executor finishes a job. -/
  | jobComplete (n : Fin 4) (executor : Fin 128) (cycles : Nat)
  /-- JOB_RETIRE (R215). A completed job retires, which takes effect on its signals, IRQ, dose sums and fault status. -/
  | jobRetire (n : Fin 4) (dom : Fin 4096)
  /-- JOB_TIMEOUT (R225). A job stays DISPATCHED longer than JOB_TIMEOUT, and its executor is fenced. -/
  | jobTimeout (n : Fin 4) (executor : Fin 128)
  /-- ORDER_STALL (R217). HEAD does not advance for ORDER_TIMEOUT while a later job is COMPLETED. -/
  | orderStall (n : Fin 4) (dom : Fin 4096)
  /-- LAG_BLOCK_END (R227). A PLU completes a block of 1,000 jobs, and its mean is compared with the region median for LAGGING. -/
  | lagBlockEnd (plu : Fin 32)
  /-- SPILL_READBACK (R229). A spilled descriptor is read back into the job store once room frees. -/
  | spillReadback (n : Fin 4)
  /-- THREAD_PLACE (R234). A READY thread is placed on an idle or pre-empted control core. -/
  | threadPlace
  /-- THREAD_QUANTUM (R235). A thread runs QUANTUM cycles with an equal-priority thread waiting, and it is rotated. -/
  | threadQuantum (core : Fin 4)
  /-- THR_END (R233). The firmware writes THR_END, and the thread returns to READY with a pending wake, or to IDLE. -/
  | thrEnd (req : Requester) (n : Fin 4) (thread : Nat)
  /-- PIXEL_RUN (R159). A PLU begins the program run of the next pixel of a TILE job with fresh registers, after `waits` cycles of waiting for the gather unit (R187). -/
  | pixelRun (plu : Fin 32) (waits : Nat)
  /-- NOP (R171). No operation. -/
  | nop (plu : Fin 32)
  /-- END (R171). Ends the pixel's run, and raises NO_STORE when no ST was executed. -/
  | endRun (plu : Fin 32)
  /-- REP (R180). Opens a repeat block over the selected layers, or skips it. -/
  | rep (plu : Fin 32)
  /-- ENDR (R180). Closes a repeat block, looping to the next layer or falling through. -/
  | endr (plu : Fin 32)
  /-- PSET (R171). Sets predicate lanes from an immediate. -/
  | pset (plu : Fin 32)
  /-- PLOG (R171). Combines two predicates by AND, OR, XOR or ANDN. -/
  | plog (plu : Fin 32)
  /-- CMP (R173). Compares lanes into a predicate. -/
  | cmp (plu : Fin 32)
  /-- MOV (R171). Copies a V register. -/
  | mov (plu : Fin 32)
  /-- VLDI (R171). Loads an immediate into V lanes. -/
  | vldi (plu : Fin 32)
  /-- VSPLAT (R171). Splats an S register into V lanes. -/
  | vsplat (plu : Fin 32)
  /-- VEXT (R171). Extracts a V lane into an S register. -/
  | vext (plu : Fin 32)
  /-- SWZ (R171). Swizzles lanes. -/
  | swz (plu : Fin 32)
  /-- SEL (R171). Selects between two V registers per predicate lane. -/
  | sel (plu : Fin 32)
  /-- SLDI (R171). Loads an immediate into an S register. -/
  | sldi (plu : Fin 32)
  /-- SADD (R171). Scalar saturating add. -/
  | sadd (plu : Fin 32)
  /-- SSUB (R171). Scalar saturating subtract. -/
  | ssub (plu : Fin 32)
  /-- SMUL (R171). Scalar saturating multiply. -/
  | smul (plu : Fin 32)
  /-- SMIN (R171). Scalar minimum. -/
  | smin (plu : Fin 32)
  /-- SMAX (R171). Scalar maximum. -/
  | smax (plu : Fin 32)
  /-- SGET (R175). Loads an implicit value into an S register. -/
  | sget (plu : Fin 32)
  /-- SMP (R182). Samples a layer at the pixel's canvas point, nearest or bilinear. -/
  | smp (plu : Fin 32)
  /-- BLND (R176). Blends a source pixel onto a destination pixel in one of eight modes. -/
  | blnd (plu : Fin 32)
  /-- ADDS (R171). Lane saturating add. -/
  | adds (plu : Fin 32)
  /-- SUBS (R171). Lane saturating subtract. -/
  | subs (plu : Fin 32)
  /-- MUL (R174). Lane multiply by a Q1.15 value. -/
  | mul (plu : Fin 32)
  /-- MAD (R171). Lane multiply-add. -/
  | mad (plu : Fin 32)
  /-- MIN (R171). Lane minimum. -/
  | min (plu : Fin 32)
  /-- MAX (R171). Lane maximum. -/
  | max (plu : Fin 32)
  /-- ABSD (R171). Lane absolute difference. -/
  | absd (plu : Fin 32)
  /-- AVG (R171). Lane rounded average. -/
  | avg (plu : Fin 32)
  /-- SHR (R171). Lane rounded right shift. -/
  | shr (plu : Fin 32)
  /-- SHL (R171). Lane saturating left shift. -/
  | shl (plu : Fin 32)
  /-- LERP (R171). Lane linear interpolation. -/
  | lerp (plu : Fin 32)
  /-- MAT (R137). Applies the pixel's correction record. -/
  | mat (plu : Fin 32)
  /-- LUT (R139). Transfer lookup with the map's LUT_SET. -/
  | lut (plu : Fin 32)
  /-- LUTS (R139). Transfer lookup with a named set. -/
  | luts (plu : Fin 32)
  /-- DOSE (R177). Applies the dose gain and accumulates the tile's sums. -/
  | dose (plu : Fin 32)
  /-- DITH (R149). Dithers lanes to the map's depth. -/
  | dith (plu : Fin 32)
  /-- ST (R178). Stores the pixel into the output frame buffer slot. -/
  | st (plu : Fin 32)
  /-- PROG_DATA_LO_WRITE (R193). A write to PROG_DATA_LO stages the low half of a program word. -/
  | progDataLoWrite (req : Requester) (n : Fin 4) (value : Word)
  /-- PROG_DATA_HI_WRITE (R193). A write to PROG_DATA_HI writes the staged word to program memory, with optional broadcast and increment. -/
  | progDataHiWrite (req : Requester) (n : Fin 4) (value : Word)
  /-- MEMORY_WINDOW_WRITE (R128). A host write through the Memory window lands in DRAM, with BUFFER_REUSE reported and mirroring where configured. -/
  | memoryWindowWrite (addr : Nat) (data : List Byte)
  /-- INGEST_WRITE_RESUME (R127). An ingest write stalled on SCAN_REF proceeds once SCAN_REF reads 0. -/
  | ingestWriteResume (k : Fin 4)
  /-- FRAME_READY_WRITE (R252). FRAME_READY.READY marks the oldest released frame ready, or sets READY_OVERRUN. -/
  | frameReadyWrite (req : Requester) (k : Fin 16)
  /-- NEW_FRAME_FIX (R256). The Swath fixes a start for a waiting ready frame. -/
  | newFrameFix (k : Fin 16)
  /-- REPEAT_FIX (R256). The repeat deadline passes with no ready frame, and a repeated start is fixed at C_Z. -/
  | repeatFix (k : Fin 16)
  /-- FRAME_START (R260). A fixed start passes, so the content frame changes and commits, flushes and counts apply. -/
  | frameStart (k : Fin 16)
  /-- SWATH_HOLD (R265). With STOP set and no start pending, the Swath enters HOLDING at S_last + FRAME_MIN. -/
  | swathHold (k : Fin 16)
  /-- HOLD_LIMIT_EXPIRE (R267). The hold limit of 2 × P expires, so the Swath goes STOPPED and its outputs are released to idle. -/
  | holdLimitExpire (k : Fin 16)
  /-- RECT_CRC_RESULT (R271). A rectangle CRC completes and is checked, captured or discarded. -/
  | rectCrcResult (k : Fin 16) (r : Fin 8)
  /-- PORT_SLOT_CHECK (R292). At L − 2,000 ns the port checks its filled slot and applies the underrun policy. -/
  | portSlotCheck (k : Fin 64)
  /-- PORT_LAUNCH (R291). A pixel port begins emitting a frame at its launch instant. -/
  | portLaunch (k : Fin 64)
  /-- PORT_EMISSION_END (R293). A pixel port's frame and latch gap end; `conflicts` samples of R298 differed. -/
  | portEmissionEnd (k : Fin 64) (conflicts : Nat)
  /-- DMX_SLOT_CHECK (R312). The DMX port checks its filled buffer before launch. -/
  | dmxSlotCheck (k : Fin 12)
  /-- DMX_LAUNCH (R313). A DMX packet's break begins at its launch instant. -/
  | dmxLaunch (k : Fin 12)
  /-- DMX_PACKET_END (R310). A transmitted DMX packet ends, or the message of an RDM request; `conflicts` samples of R321 differed. -/
  | dmxPacketEnd (k : Fin 12) (conflicts : Nat)
  /-- DMX_RX_PACKET (R315). A received DMX packet is accepted into the merge or the queue, or discarded: `line` gives the
  levels of DMXk_RX up to now as runs of the samples of R314. -/
  | dmxRxPacket (k : Fin 12) (line : List (Bool × Nat))
  /-- DMX_RX_LOSS (R315). RX_LOSS_MS passes without a packet, and the input becomes LOST. -/
  | dmxRxLoss (k : Fin 12)
  /-- RDM_GO (R316). RDM_GO.GO queues an RDM transaction as WAITING, or is refused. -/
  | rdmGo (req : Requester) (k : Fin 12)
  /-- RDM_ABORT (R322). RDM_GO.ABORT ends a BUSY transaction at once. -/
  | rdmAbort (req : Requester) (k : Fin 12)
  /-- RDM_BEGIN (R317). A WAITING transaction becomes BUSY once its reservation fits before the next launch. -/
  | rdmBegin (k : Fin 12)
  /-- RDM_RESPONSE (R318). A response to a REQUEST is received and judged OK or BAD_RESPONSE: it begins `start` and
  ends `stop` ns after the port began to listen; `faulty` says that it is truncated or has a framing error. -/
  | rdmResponse (k : Fin 12) (start stop : Nat) (faulty : Bool) (data : List Byte)
  /-- RDM_NO_RESPONSE (R318). No response break arrives within RSP_TIMEOUT_US. -/
  | rdmNoResponse (k : Fin 12)
  /-- RDM_DISCOVERY_END (R319). The discovery window ends and is judged OK, COLLISION or NO_RESPONSE. -/
  | rdmDiscoveryEnd (k : Fin 12) (heard : Option (List Byte)) (framing : Bool)
  /-- RDM_WINDOW_END (R320). The listen window W ends, DE rises and the gap runs. -/
  | rdmWindowEnd (k : Fin 12)
  /-- TXR_TAIL_WRITE (R337). A write to a TX ring's TAIL makes descriptors available. -/
  | txrTailWrite (req : Requester) (m : Fin 4) (r : Fin 4) (value : Word)
  /-- RXR_TAIL_WRITE (R350). A write to an RX ring's TAIL posts buffers. -/
  | rxrTailWrite (req : Requester) (m : Fin 4) (r : Fin 4) (value : Word)
  /-- MAC_TX_START (R331). At a frame boundary the MAC chooses and starts the next frame. -/
  | macTxStart (m : Fin 4)
  /-- PLACED_LAUNCH (R334). A placed frame's launch value is reached, or it is found late under R336. -/
  | placedLaunch (m : Fin 4)
  /-- MAC_TX_DONE (R338). A frame is sent and its descriptors are written back. -/
  | macTxDone (m : Fin 4)
  /-- MAC_RX_FRAME (R349). A good received frame is handled by PAUSE, bridge, engines and host filters; RS FEC corrected `corrected` code words and could not correct `lost`. -/
  | macRxFrame (m : Fin 4) (ago : Nat) (err : Fin 3) (corrected lost : Nat) (data : List Byte)
  /-- PAUSE_END (R342). The pause in force runs out. -/
  | pauseEnd (m : Fin 4)
  /-- PAUSE_SEND (R344). The MAC sends a generated PAUSE at XOFF, at half-pause repeats, or with 0 at XON. -/
  | pauseSend (m : Fin 4)
  /-- MOD_TIMER_EXPIRE (R345). A ring's moderation timer reaches MOD_TIME_US, and RING_IRQ is raised. -/
  | modTimerExpire (m : Fin 4) (ring : Fin 8)
  /-- ETH_LINK_CHANGE (R361). A MAC's link comes up or goes down. -/
  | ethLinkChange (m : Fin 4) (up : Bool)
  /-- PREEMPT_VERIFY (R341). A preemption verify attempt is made or times out. -/
  | preemptVerify (m : Fin 4) (answered : Bool)
  /-- FDB_ADD (R355). FDB_CMD.ADD writes a static entry. -/
  | fdbAdd (req : Requester)
  /-- FDB_DELETE (R355). FDB_CMD.DELETE removes an entry. -/
  | fdbDelete (req : Requester)
  /-- FDB_LOOKUP (R355). FDB_CMD.LOOKUP reads an entry into FDB_PORTS. -/
  | fdbLookup (req : Requester)
  /-- FDB_FLUSH (R355). FDB_CMD.FLUSH removes every dynamic entry. -/
  | fdbFlush (req : Requester)
  /-- FDB_DONE (R355). An FDB command completes, and FDB_BUSY clears. -/
  | fdbDone
  /-- FDB_AGE (R354). A dynamic entry not refreshed for its age time is removed. -/
  | fdbAge (mac : BitVec 48)
  /-- MERGE_APPLY (R374). Queued merge packets are applied into a new merge epoch. -/
  | mergeApply
  /-- MERGE_SOURCE_LOSS (R373). A merge source record sees no packet for SRC_LOSS_MS and is removed. -/
  | mergeSourceLoss (k : Fin 4096) (r : Fin 4)
  /-- STR_UNDERRUN_CHECK (R381). STR checks that a stream's segments are packed and applies the underrun policy. -/
  | strUnderrunCheck (e : Fin 4096)
  /-- STREAM_LAUNCH (R379). A stream's burst or synchronisation packet is queued for its launch. -/
  | streamLaunch (e : Fin 4096)
  /-- STREAM_TERMINATE_SEND (R382). After entry to STOPPED, the E1.31 universes are sent with Stream_Terminated, three times 1 ms apart. -/
  | streamTerminateSend (k : Fin 16)
  /-- E131_DISCOVERY_SEND (R383). Every 10 s, E1.31 universe discovery is sent. -/
  | e131DiscoverySend
  /-- PTP_SYNC_SEND (R406). A MASTER port sends a launch-timed one-step Sync. -/
  | ptpSyncSend (m : Fin 4)
  /-- PTP_ANNOUNCE_SEND (R406). A MASTER port sends an Announce from its template. -/
  | ptpAnnounceSend (m : Fin 4)
  /-- PTP_DELAY_REQ_SEND (R407). A slave port sends a Delay_Req at a random interval. -/
  | ptpDelayReqSend
  /-- PTP_DELAY_RESP_TIMEOUT (R407). An outstanding Delay_Req gets no Delay_Resp in time and is abandoned. -/
  | ptpDelayRespTimeout
  /-- PTP_DELAY_REQ_RX (R403). A Delay_Req is received on a MASTER port. -/
  | ptpDelayReqRx (m : Fin 4) (ago : Nat) (frame : List Byte)
  /-- PTP_DELAY_RESP_SEND (R403). The Delay_Resp to a received Delay_Req is sent. -/
  | ptpDelayRespSend
  /-- PTP_SYNC_RX (R409). A Sync is received and accepted or rejected, which may produce a servo event. -/
  | ptpSyncRx (m : Fin 4) (ago : Nat) (frame : List Byte)
  /-- PTP_FOLLOW_UP_RX (R409). A Follow_Up completes a two-step Sync. -/
  | ptpFollowUpRx (m : Fin 4) (frame : List Byte)
  /-- PTP_DELAY_RESP_RX (R411). A matching Delay_Resp yields a delay sample that updates D. -/
  | ptpDelayRespRx (m : Fin 4) (frame : List Byte)
  /-- PTP_SYNC_LOSS (R413). SYNC_LOSS intervals pass without an accepted Sync, and PTP becomes LOST. -/
  | ptpSyncLoss
  /-- PORT_STATE_WRITE (R405). The firmware writes a PTP port's state. -/
  | portStateWrite (req : Requester) (m : Fin 4) (value : Word)
  /-- TSQ_HI_READ (R419). A read of TSQ_HI returns the head timestamp entry and removes it. -/
  | tsqHiRead (req : Requester)
  /-- LINK_SETTLE_END (R400). 1 ms after LINK_UP the receive delay has settled, and timestamps become valid. -/
  | linkSettleEnd (m : Fin 4)
  /-- FIELD_SLOT_CHECK (R434). A field port checks its filled slot and applies the underrun policy. -/
  | fieldSlotCheck (k : Fin 8)
  /-- FIELD_RELEASE (R435). A field port's scheduled frames are released at S + REL_OFFSET. -/
  | fieldRelease (k : Fin 8)
  /-- FIELD_TX_ATTEMPT (R436). A field port starts a transmit attempt when the medium is granted. -/
  | fieldTxAttempt (k : Fin 8)
  /-- FIELD_COLLISION (R437). A collision jams the frame and draws a backoff, or abandons the frame. -/
  | fieldCollision (k : Fin 8) (late : Bool)
  /-- FIELD_BACKOFF_END (R437). A backoff wait ends, and the frame is retried. -/
  | fieldBackoffEnd (k : Fin 8)
  /-- FIELD_TX_DONE (R436). A field-port frame finishes on the wire. -/
  | fieldTxDone (k : Fin 8)
  /-- FIELD_RX_FRAME (R439). A field-port frame is received and accepted into the queue or dropped. -/
  | fieldRxFrame (k : Fin 8) (good : Bool) (ago : Nat) (data : List Byte)
  /-- PLCA_STATUS_CHANGE (R438). plca_status changes, and the port falls back to CSMA/CD or resumes PLCA. -/
  | plcaStatusChange (k : Fin 8) (on : Bool)
  /-- LAMP_SLOT_CHECK (R450). A lamp cluster checks its filled slot and applies the underrun policy. -/
  | lampSlotCheck (n : Fin 4)
  /-- LAMP_LAUNCH (R451). A lamp cluster's frame values are launched, and they take effect at the next PWM boundary. -/
  | lampLaunch (n : Fin 4)
  /-- PWM_PERIOD_BOUNDARY (R454). At each period boundary a channel computes its duty, carry, probe, latch and derate. -/
  | pwmPeriodBoundary (n : Fin 4)
  /-- LAMP_ON_SAMPLE (R456). The sense input is sampled after an active edge and classified. -/
  | lampOnSample (k : Fin 32) (code : Fin 4096)
  /-- LAMP_OFF_SAMPLE (R456). The sense input is sampled after an inactive edge and classified. -/
  | lampOffSample (k : Fin 32) (code : Fin 4096)
  /-- DIAG_TIMEOUT (R458). No on-sample arrives for PROBE_MS plus a period, and DIAG_STATE becomes UNKNOWN. -/
  | diagTimeout (k : Fin 32)
  /-- RETRY (R459). LMP_ACTION.RETRY clears a latched channel. -/
  | retry (req : Requester) (k : Fin 32)
  /-- KEEPER_OFF (R447). 1 ms after a gate enters RELEASED, its keeper switches off. -/
  | keeperOff (n : Fin 4)
  /-- TSNS_MEASURE (R468). The remote sensor is measured, or found broken. -/
  | tsnsMeasure (n : Fin 4) (v1 v2 : Nat)
  /-- DERATE_UPDATE (R470). Every 10 ms the cluster updates DERATE and its trip state. -/
  | derateUpdate (n : Fin 4)
  /-- QUEUE_WRITE (R483). A write packs bytes into the tentative packet of a queue, or overruns. -/
  | queueWrite (who : Option Requester) (j : Fin 16) (q : Fin 4) (data : List Byte) (last : Bool)
  /-- Q_COMMIT (R486). Q_ACTION.COMMIT makes the packet in progress visible. -/
  | qCommit (req : Requester) (j : Fin 16) (q : Fin 4) (lastBytes : Fin 8)
  /-- Q_REWIND (R487). Q_ACTION.REWIND abandons the packet in progress. -/
  | qRewind (who : Option Requester) (j : Fin 16) (q : Fin 4)
  /-- Q_POP (R491). Q_ACTION.POP removes the head word of a queue. -/
  | qPop (req : Requester) (j : Fin 16) (q : Fin 4)
  /-- Q_CTRL_WRITE (R489). A write to Q_CTRL sets EN, THRESH and IRQ_EN, and EN 0 empties the queue. -/
  | qCtrlWrite (req : Requester) (j : Fin 16) (q : Fin 4) (value : Word)
  /-- INTERRUPT_EDGE (R504). An edge source's cause occurs and sets PENDING or counts. -/
  | interruptEdge (src : Nat)
  /-- LEVEL_CHANGE (R505). A level source's level changes and, in normal service, PENDING follows it. -/
  | levelChange (src : Nat) (level : Bool)
  /-- ICU_CLAIM (R508). A read of CLAIM[t] takes the top claimable source into service. -/
  | icuClaim (req : Requester) (t : Fin 8)
  /-- ICU_COMPLETE (R510). A write of COMPLETE[t] ends a source's service and re-samples its level. -/
  | icuComplete (req : Requester) (t : Fin 8) (src : Fin 1024)
  /-- COUNT_CLR (R520). SRC_CFG.COUNT_CLR clears a source's ACCOUNT count. -/
  | countClr (req : Requester) (src : Fin 512)
  /-- MSIX_SEND (R517). A due MSI-X message for a host group is issued, or held in the PBA while masked. -/
  | msixSend (group : Fin 4)
  /-- PEER_RAIL_FALL (R532). STILE_PEER falls, allowing a fast claim or restarting the holdoff. -/
  | peerRailFall
  /-- PEER_RAIL_RISE (R531). STILE_PEER rises, which gives CONFLICT or ends a holdoff attempt. -/
  | peerRailRise
  /-- HOLDOFF_CLAIM (R532). The peer rail stays low for the holdoff, and the own rail rises. -/
  | holdoffClaim
  /-- HOLDOFF_CONFIRM (R532). The peer rail stays low a further 100 ns, and the wired drivers turn on. -/
  | holdoffConfirm
  /-- STILE_CONFLICT (R534). CONFLICT lasts more than 1 ns, and the device releases. -/
  | stileConflict
  /-- HELLO (R526). A HELLO message from the partner is received and its identity and roles are checked. -/
  | hello (m : TsxMsg)
  /-- HELLO_SEND (R541). Every 10 µs a device sends IDLE or HELLO on each lane. -/
  | helloSend (lane : Fin 2)
  /-- STILE_MISMATCH_TIMEOUT (R537). The reported and read rails disagree for more than 10 µs. -/
  | stileMismatchTimeout
  /-- TSX_LANE_LOCK (R541). A Tsudex lane gains or loses block lock. -/
  | tsxLaneLock (lane : Fin 2) (lock : Bool)
  /-- TSX_LANE_TIMEOUT (R541). No valid frame is received on a lane for 20 µs, and the lane is no longer UP. -/
  | tsxLaneTimeout (lane : Fin 2)
  /-- TSX_RETX_TIMEOUT (R540). An unacknowledged frame passes RETX_TIMEOUT, and the frames from ACK onward are resent. -/
  | tsxRetxTimeout
  /-- NAK (R542). A received NAK makes the sender resend from the named SEQ. -/
  | nak (m : TsxMsg)
  /-- TIME_REQ (R549). The standby sends a TIME_REQ every millisecond, and the active answers it. -/
  | timeReq (m : TsxMsg)
  /-- TIME_RSP (R549). A received TIME_RSP completes a peer exchange, which is a servo event. -/
  | timeRsp (m : TsxMsg)
  /-- INPUT (R546). A replayed input is applied on the standby as if received. -/
  | input (m : TsxMsg)
  /-- MEMWRITE (R545). A mirrored memory write is applied on the standby. -/
  | memwrite (m : TsxMsg)
  /-- REGWRITE (R547). A mirrored register write or ARM is applied on the standby. -/
  | regwrite (m : TsxMsg)
  /-- FIX (R546). The standby takes a fixed start from the active. -/
  | fix (m : TsxMsg)
  /-- READY (R552). The standby takes a ready frame from the active and checks its lag. -/
  | ready (m : TsxMsg)
  /-- DIGEST (R551). The standby compares the active's output digest with its own. -/
  | digest (m : TsxMsg)
  /-- SENSE (R472). The standby takes a replayed lamp sample or sensor measurement. -/
  | sense (m : TsxMsg)
  /-- OUTCOME (R545). The standby takes a replayed field-port, RDM or RETRY outcome. -/
  | outcome (m : TsxMsg)
  /-- SWAP_REQ (R564). A ROLE SWAP_REQ asks the active to plan a swap. -/
  | swapReq (m : TsxMsg)
  /-- SWAP_AT (R564). The active names the swap instant to the standby. -/
  | swapAt (m : TsxMsg)
  /-- SWAP_ACK (R564). The standby acknowledges the swap when SYNCED and ALIGNED. -/
  | swapAck (m : TsxMsg)
  /-- SWAP_CANCEL (R564). The active cancels a planned swap. -/
  | swapCancel (m : TsxMsg)
  /-- REVERT_REQ (R566). Device A asks for the outputs back. -/
  | revertReq (m : TsxMsg)
  /-- RESYNC_REQ (R555). The standby asks the active for a resynchronisation. -/
  | resyncReq (m : TsxMsg)
  /-- COPY_BEGIN (R555). The active begins a resynchronisation copy and increments SYNC_GEN. -/
  | copyBegin (m : TsxMsg)
  /-- CUTOVER (R555). The active names the cutover start and sends the hardware image. -/
  | cutover (m : TsxMsg)
  /-- BREAK (R544). A SYNC BREAK makes the standby UNSYNCED. -/
  | syncBreak (m : TsxMsg)
  /-- CONVERGED (R556). A SYNC CONVERGED marks the convergence start. -/
  | converged (m : TsxMsg)
  /-- COPY (R555). A resynchronisation copy block is applied on the standby. -/
  | copy (m : TsxMsg)
  /-- THERMAL (R645). A partner's thermal report updates PEER_THERMAL. -/
  | thermal (m : TsxMsg)
  /-- THERMAL_SEND (R645). A device sends THERMAL every second, at a zone change, or at shutdown. -/
  | thermalSend
  /-- RECORD (R593). A partner's cross-reference record loads PEER_REC_SEQ and PEER_REC_CODE. -/
  | record (m : TsxMsg)
  /-- IMAGE_BEGIN (R679). An IMAGE BEGIN starts staging the partner's Shelf slot. -/
  | imageBegin (m : TsxMsg)
  /-- IMAGE_DATA (R679). An IMAGE DATA writes slot bytes. -/
  | imageData (m : TsxMsg)
  /-- IMAGE_END (R679). An IMAGE END checks the staged image. -/
  | imageEnd (m : TsxMsg)
  /-- IMAGE_ABORT (R679). An IMAGE ABORT ends the copy as BAD with reason ABORTED. -/
  | imageAbort (m : TsxMsg)
  /-- FIX_APPLY_DEADLINE (R552). A FIX not applied 2,000 ns before its start makes the standby UNSYNCED. -/
  | fixApplyDeadline
  /-- SWAP (R564). PAIR_ACTION.SWAP requests a planned swap. -/
  | swap (req : Requester)
  /-- RESYNC (R554). PAIR_ACTION.RESYNC requests a resynchronisation. -/
  | resync (req : Requester)
  /-- DETACH (R558). PAIR_ACTION.DETACH detaches the standby. -/
  | detach (req : Requester)
  /-- FALLBACK_END (R562). PAIR_ACTION.FALLBACK_END ends FALLBACK. -/
  | fallbackEnd (req : Requester)
  /-- SAFE_STORE (R563). PAIR_ACTION.SAFE_STORE stores the safe scene in FeRAM, or sets SAFE_BAD. -/
  | safeStore (req : Requester)
  /-- SWAP_INSTANT (R564). At S_w the active releases when SWAP_ACK has arrived, or cancels. -/
  | swapInstant
  /-- SWAP_SEARCH_TIMEOUT (R564). No swap instant is found within 1 s, and the swap is cancelled. -/
  | swapSearchTimeout
  /-- SWAP_PATH_CHECK (R565). 10 ns after a planned release the peer rail is checked, and the device reclaims when it is low. -/
  | swapPathCheck
  /-- PATH_CHECK_END (R565). 1 ms of net sampling after S_w ends, and the swap is counted or PATH_FAULT is set. -/
  | pathCheckEnd (mismatches : Nat)
  /-- REVERT_HOLD_EXPIRE (R566). Device A has been SYNCED for REVERT_HOLD, and it sends REVERT_REQ. -/
  | revertHoldExpire
  /-- DRILL_DUE (R567). DRILL_AGE passes 7 days, and DRILL_DUE rises. -/
  | drillDue
  /-- RECORDER_TRIGGER (R584). A trigger is checked against its bucket and queued, dropped or lost. -/
  | recorderTrigger (code : Fin 4096) (page : Fin 1024)
  /-- TOKEN_REFILL (R584). A code's bucket gains a token. -/
  | tokenRefill (code : Fin 4096)
  /-- RECORD_BEGIN (R585). The recorder takes the next pending entry and begins a Drawer. -/
  | recordBegin
  /-- RECORD_COMPLETE (R581). A Drawer write completes, MAGIC last. -/
  | recordComplete
  /-- STAT_SPAN_CLOSE (R589). A statistics group closes its span and queues a record. -/
  | statSpanClose (group : Fin 8)
  /-- FREEZE (R590). EVR_ACTION.FREEZE stops Drawer writes after the record in progress. -/
  | freeze (req : Requester)
  /-- THAW (R590). EVR_ACTION.THAW resumes Drawer writes. -/
  | thaw (req : Requester)
  /-- FREEZE_EXPIRE (R590). A freeze lasts FREEZE_LIMIT and ends as a THAW. -/
  | freezeExpire
  /-- ERASE (R591). EVR_ACTION.ERASE, guarded, begins clearing every Drawer. -/
  | erase (req : Requester) (presenceLow : Bool)
  /-- ERASE_DONE (R591). The erase completes, and code 0x803 is recorded. -/
  | eraseDone
  /-- RECORDER_SCAN (R592). After a start the recorder scans the ring for NEXT_SEQ and torn Drawers. -/
  | recorderScan
  /-- TRIG_DATA_ACCESS (R603). A TRIG_DATA access reads or writes trigger memory, with auto-increment. -/
  | trigDataAccess (req : Requester) (write : Option Word)
  /-- PENDING_PEAK_READ (R603). A read of PENDING_PEAK returns and clears it. -/
  | pendingPeakRead (req : Requester)
  /-- CNT_LO_READ (R595). A read of CNT_LO returns [31:0] and latches the high bits. -/
  | cntLoRead (req : Requester) (n : Fin 1536)
  /-- CNT_LO_WRITE (R595). A write of CNT_LO loads the counter with the staged high bits. -/
  | cntLoWrite (req : Requester) (n : Fin 1536) (value : Word)
  /-- CNT_HI_WRITE (R595). A write of CNT_HI stages the high bits. -/
  | cntHiWrite (req : Requester) (n : Fin 1536) (value : Word)
  /-- COUNTER_DUMP (R598). At each DUMP_PERIOD instant the counters are dumped to DRAM, or the dump is skipped. -/
  | counterDump (busy : Bool)
  /-- LAG_MAX_READ (R571). A read of LAG_MAX returns and clears it. -/
  | lagMaxRead (req : Requester)
  /-- T_PEAK_READ (R662). A read of T_PEAK returns it and resets it to T_DIE. -/
  | tPeakRead (req : Requester)
  /-- PWR_REQ_RUN (R612). PWR_REQ 0 ends Doze. -/
  | pwrReqRun (req : Requester)
  /-- PWR_REQ_DOZE (R612). PWR_REQ 1 enters Doze or is refused. -/
  | pwrReqDoze (req : Requester) (seen : Fin 256) (pins : Fin 16)
  /-- PWR_REQ_RETAIN (R613). PWR_REQ 2 starts Retain entry or is refused. -/
  | pwrReqRetain (req : Requester) (seen : Fin 256) (pins : Fin 16)
  /-- PWR_REQ_HEATH (R613). PWR_REQ 3 starts Heath entry or is refused. -/
  | pwrReqHeath (req : Requester) (seen : Fin 256) (pins : Fin 16)
  /-- POWER_ENTRY_PROCEED (R613). Once messages and the recorder have drained, entry releases the outputs and stops the Swaths and jobs. -/
  | powerEntryProceed
  /-- MSG_LIMIT_TIMEOUT (R614). Step 2 of entry passes MSG_LIMIT, and entry proceeds. -/
  | msgLimitTimeout
  /-- REC_DRAIN_TIMEOUT (R614). The recorder drain passes 1 ms, and the recorder freezes. -/
  | recDrainTimeout
  /-- TIMELINE_CAPTURE (R99). At the next Heath tick edge the timeline is captured and the entry finishes. -/
  | timelineCapture (micros : Nat)
  /-- WAKE_IN_EDGE (R622). A filtered WAKE_IN edge wakes the device or aborts an entry. -/
  | wakeInEdge (pins rising : Fin 16) (held ticks : Nat)
  /-- HEATH_ALARM (R622). HTICK reaches ALARM. -/
  | heathAlarm
  /-- SEAL_CHECK (R690). Every 4,096 ticks the seal loop is checked, and an open loop sets SEAL_OPEN. -/
  | sealCheck (follows : Bool) (ticks : Nat)
  /-- XT32_FAIL (R621). XT32 stops, and TK_VALID clears. -/
  | xt32Fail (ticks : Nat)
  /-- HEATH_BROWNOUT (R620). VRET or VHEATH browns out, HTH resets and a cold start follows. -/
  | heathBrownout
  /-- IO_RAMP_DONE (R623). IO_RAMP_US after PWR_EN_IO rises, PWR_EN_CORE rises. -/
  | ioRampDone
  /-- CORE_RAMP_DONE (R623). CORE_RAMP_US after PWR_EN_CORE rises, the die starts from Retain or runs start-up. -/
  | coreRampDone (roleB testMode : Bool)
  /-- THERMAL_MEASURE (R630). The die sensors are measured and voted, and the zone is updated. -/
  | thermalMeasure (t : Thermals)
  /-- ANALOG_TEMP_MEASURE (R634). The analog sensor is measured every 100 ms. -/
  | analogTempMeasure (value : Int) (broken : Bool)
  /-- THERMAL_RESTART (R642). T_ANALOG stays at 130 °C or below for 10 s, and PWR_EN_CORE rises. -/
  | thermalRestart
  /-- THROTTLE_UPDATE (R639). A region's automatic throttle level rises at 100 ms or falls at 1 s steps. -/
  | throttleUpdate (n : Fin 4)
  /-- DRAM_RATE_READ (R644). Every 32 ms the DRAM refresh-rate indication is read. -/
  | dramRateRead (rate0 rate1 : Fin 8) (hot : Bool)
  /-- MARGIN_MEASURE (R646). Critical-path monitors measure slack, driving AVS steps, PLU waits and the ageing floor. -/
  | marginMeasure (slack plus : List Nat)
  /-- AVS_SETTLE (R650). A VCORE step settles, or fails after 1 ms. -/
  | avsSettle (mv ma : Nat) (error : Bool)
  /-- PMB_ALERT (R650). PMB_ALERT_N goes low, and STATUS_WORD is read. -/
  | pmbAlert (fault : Bool)
  /-- CHAIN_MEASURE (R652). Every 100 ms the interpolator chains are measured and may be reselected. -/
  | chainMeasure (chain : Fin 128) (errs : List Nat)
  /-- RUN_TIME (R656). CAL_ACTION.RUN_TIME starts a crystal calibration run, or is refused. -/
  | runTime (req : Requester)
  /-- CAL_WINDOW_END (R656). A time run's window closes, and the crystal errors are computed. -/
  | calWindowEnd (nt d : Nat)
  /-- RUN_ANALOG (R659). CAL_ACTION.RUN_ANALOG, or the daily instant, starts an analog run. -/
  | runAnalog (req : Option Requester)
  /-- ANALOG_RUN_DONE (R653). An analog run completes and selects the comparator pairs. -/
  | analogRunDone (codes : List (List (Int × Nat)))
  /-- CAL_ABORT (R657). CAL_ACTION.ABORT ends a run without a result. -/
  | calAbort (req : Requester)
  /-- OVR_WRITE (R655). CAL_ACTION.OVR_WRITE, guarded, forces an element or crystal value. -/
  | ovrWrite (req : Requester) (presenceLow : Bool)
  /-- STAGE (R677). FWU_ACTION.STAGE copies an image into the Shelf slot. -/
  | stage (req : Requester)
  /-- STAGE_DONE (R677). Staging ends VALID or BAD. -/
  | stageDone
  /-- ACTIVATE (R680). FWU_ACTION.ACTIVATE arms or pends an activation. -/
  | activate (req : Requester)
  /-- FWU_CANCEL (R683). FWU_ACTION.CANCEL ends staging or an ARMED or DEFERRED activation. -/
  | fwuCancel (req : Requester)
  /-- SEND_PEER (R679). FWU_ACTION.SEND_PEER copies the Shelf slot to the partner. -/
  | sendPeer (req : Requester)
  /-- GOLDEN_WRITE (R689). FWU_ACTION.GOLDEN_WRITE, guarded, copies the Shelf slot to the Golden slot. -/
  | goldenWrite (req : Requester) (presenceLow : Bool)
  /-- FUSE_PROG (R675). FWU_ACTION.FUSE_PROG, guarded, programs a key, a digest or a revoke fuse. -/
  | fuseProg (req : Requester) (presenceLow : Bool)
  /-- FUSE_DONE (R675). Fuse programming completes. -/
  | fuseDone
  /-- PARTNER_ACCEPT (R693). FWU_ACTION.PARTNER_ACCEPT stores the current partner as known. -/
  | partnerAccept (req : Requester)
  /-- ACT_TIME_REACHED (R681). ACT_TIME is reached, and the activation restarts the die or becomes DEFERRED. -/
  | actTimeReached
  /-- ACT_DEFERRED_RELEASE (R681). A DEFERRED activation's conditions clear, and the die restarts. -/
  | actDeferredRelease
  /-- START_SEQUENCE (R697). A start runs the boot steps, including the slot copy and the image restore. -/
  | startSequence
  /-- DRAM_TRAINING_DONE (R697). DRAM training completes, and the start continues. -/
  | dramTrainingDone (badPages : List Nat) (micros : Nat)
  /-- OUTPUT_ENABLE (R700). The firmware enables the outputs once the timeline locks or the wait ends. -/
  | outputEnable (ms : Nat)
  /-- OUT_WAIT_EXPIRE (R700). OUT_WAIT_MS passes without lock. -/
  | outWaitExpire
  /-- SYS_STATE_RUN (R701). SYS_STATE written RUN. -/
  | sysStateRun (req : Requester) (testMode : Bool)
  /-- SYS_STATE_TEST (R701). SYS_STATE written TEST. -/
  | sysStateTest (req : Requester)
  /-- SYS_STATE_RECOVERY (R701). SYS_STATE written RECOVERY. -/
  | sysStateRecovery (req : Requester)
  /-- WDT_KICK (R703). The watchdog is kicked. -/
  | wdtKick (req : Requester)
  /-- WATCHDOG_EXPIRE (R703). The watchdog times out and requests a die reset. -/
  | watchdogExpire
  /-- SPI_WRITE (R727). An SPI WRITE frame writes registers. -/
  | spiWrite (addr : Nat) (data : List Byte)
  /-- SPI_READ (R727). An SPI READ frame reads registers. -/
  | spiRead (addr count : Nat)
  /-- JTAG_BYPASS (R729). JTAG BYPASS instruction. -/
  | jtagBypass
  /-- JTAG_IDCODE (R729). JTAG IDCODE instruction. -/
  | jtagIdcode
  /-- JTAG_SAMPLE_PRELOAD (R729). JTAG SAMPLE/PRELOAD instruction. -/
  | jtagSamplePreload
  /-- JTAG_EXTEST (R730). JTAG EXTEST, which takes the pins only in TEST. -/
  | jtagExtest
  /-- JTAG_CLAMP (R730). JTAG CLAMP, which takes the pins only in TEST. -/
  | jtagClamp
  /-- JTAG_HIGHZ (R730). JTAG HIGHZ, which takes the pins only in TEST. -/
  | jtagHighz
  /-- FIRST_APPLICATION_OF_VHEATH (R620). VHEATH is first applied, HTH is reset, the island raises PWR_EN_IO and PWR_EN_CORE and makes a cold start. -/
  | firstApplicationOfVheath
  /-- LINK_IN_L0 (R347). The PCIe link reaches L0 (0), so WAKE_N is released and the held messages are sent, or L1 (1) or another low-power state (2). -/
  | linkInL0 (link : Fin 3)
  /-- GOLDEN_WRITE_DONE (R689). The journaled copy of the Shelf slot into the Golden slot completes, and the journal returns to IDLE. -/
  | goldenWriteDone
  /-- TIMELINE_RESTART (R99). After a wake, the timeline restarts at the first Heath tick edge after ROOT locks, with the coasted time and UNCERT, in TL_STATE COASTED. -/
  | timelineRestart (ticks micros : Nat)
  /-- PEER_LOST (R549). No peer time exchange completes within 3 ms, so the PEER source becomes LOST and the timeline follows R87. -/
  | peerLost
  /-- IDLE (R541). A Tsudex IDLE frame is received, which keeps its lane UP and advances ACK. -/
  | tsxIdle (m : TsxMsg)
  deriving DecidableEq, Repr

end Sys2Proof
end

