-- ==== Sys2Proof/Decode.lean ====
section
/-!
DEFINITION. The words of commands. The command table gives no row any bits, and the spec defines no command words: a command is
an access, a packet or an event. So no word spells a command.
-/
namespace Sys2Proof

/-- The command that a word of `nbits` bits spells: none, since no row of spec/opcode_table.json has bits. -/
def decodeTableWord (_nbits _w : Nat) : Option Instr := none

end Sys2Proof
end

