-- ==== Sys2Proof/Config.lean ====
section
/-!
DEFINITION. What the manual leaves open: constants without a body, so that no proof can lean on a value of them.
Each is named in a row of the assumption log.
-/
namespace Sys2Proof

/-- Word `j` of the device identity fused at manufacture (R674, R694): the manual gives no value (log entry 10). -/
opaque Config.deviceIdWord : Nat → Word

/-- Which neighbour an unstated rounding takes (log entry 12): the rule's tag, the numerator and the denominator. -/
opaque Config.roundsUp : Nat → Int → Nat → Bool

/-- The recorder code that a PTR_ERROR takes within the unit range of R18 (R490 names no number; log entry 13). -/
opaque Config.ptrErrorCode : Nat

/-- The value of region n's tag generator after k submissions (R601 names no polynomial; log entry 14). -/
opaque Config.tagDraw : Nat → Nat → BitVec 32

/-- The natural logarithm as the device computes it (R468 gives the formula and no arithmetic; log entry 42). -/
opaque Config.ln : Rat → Rat

/-- The source address of the PTP frames that MAC m sends over UDP, IPv4 (false) or IPv6 (true): no register holds one
(log entry 44). -/
opaque Config.ptpSource : Bool → Nat → Nat

/-- The bytes of the register image in FeRAM, by the live and shadow registers that it holds and the offset: its blocks and their
CRCs have no layout in R46 and R613 (log entry 55). -/
opaque Config.imageByte : List (Nat × BitVec 32) → List (Nat × BitVec 32) → Nat → BitVec 8

/-- The GPIO pins that the resident firmware drives, and their levels, under the configuration part of the booted image (R716 says
no more; log entry 144). -/
opaque Config.gpioDir : List (Nat × BitVec 32) → BitVec 16
opaque Config.gpioLevel : List (Nat × BitVec 32) → BitVec 16

/-- The remaining open fields of those IP headers: traffic class and hop limit (log entry 44). -/
opaque Config.ptpHop : Bool → Nat × Nat

/-- The k-th random interval of a Delay_Req, as a part of 2^32 of its greatest value (R407; log entry 45). -/
opaque Config.delayDraw : Nat → BitVec 32

/-- The set of the forwarding database that an address falls in (R354 names no hash; log entry 46). -/
opaque Config.fdbSet : Nat → BitVec 10

/-- The byte that a 16-bit PARAM field of index 31 takes as its second one: PARAM has 32 bytes (R366, R368; log entry 48). -/
opaque Config.paramBeyond : BitVec 8

/-- Which of a set's dynamic entries an ADD replaces, by address (R355 names none; log entry 46). -/
opaque Config.fdbVictim : Nat → Nat

/-- A byte of a buffer that a dropped frame had used (R351 calls the contents undefined): the n-th free value, its offset
(log entry 51). -/
opaque Config.nobufByte : Nat → Nat → BitVec 8

/-- The recorder code of a containment fault within its level's range (R18, R22 name no number): level, page or instance
(log entry 52). -/
opaque Config.faultCode : Nat → Nat → Nat

/-- The page that INFO names for a counter of the die or of the package, which have none of their own (R594, R606; log entry
62). -/
opaque Config.infoPage : Nat → Nat

/-- The bytes of the Golden slot as delivered, by offset (R668, R674: a factory image, whose contents no rule gives; log entry
2). -/
opaque Config.factoryImage : Nat → BitVec 8

/-- KEY[0] and PUB[0] as delivered (R674 gives no value; log entry 76). -/
opaque Config.factoryKey : List (BitVec 8)
opaque Config.factoryPub : List (BitVec 8)

/-- SHA-384 of a message (R672), whose definition the manual takes from FIPS 180 (log entry 76). -/
opaque Config.sha384 : List (BitVec 8) → List (BitVec 8)

/-- ECDSA P-384 verification by FIPS 186-5 (R672): public key, message, signature (log entry 76). -/
opaque Config.ecdsaVerifies : List (BitVec 8) → List (BitVec 8) → List (BitVec 8) → Bool

/-- AES-256-GCM by SP 800-38D (R671): key, IV, additional data, ciphertext, tag; the plaintext where the tag checks (log entry
76). -/
opaque Config.gcmOpen : List (BitVec 8) → List (BitVec 8) → List (BitVec 8) → List (BitVec 8) → List (BitVec 8) →
  Option (List (BitVec 8))

end Sys2Proof
end

