-- ==== Sys2Proof/Machine/RegNames.lean ====
section
/-!
DEFINITION. The registers of every page by the manual's own names: each constant is the register's offset from the
first page of its commit group (a register of page +n of a group stands at n * 0x1000 + its offset), and each `Field`
constant is a bit range of the register table or field table that the section heading cites.
Status bits carry the prefix S_ and stand in PAGE_STATUS, fault bits carry the prefix F_ and stand in PAGE_FAULT.
-/
namespace Sys2Proof.Machine

namespace Sys
/-! R706, R707 -/
def SYS_ID : Nat := 0x020
def SYS_STATE : Nat := 0x024
def SYS_CFG : Nat := 0x028
def START_STEP : Nat := 0x02C
def START_MS : Nat := 0x030
def RESET_CAUSE : Nat := 0x034
def WDT_CTRL : Nat := 0x038
def WDT_KICK : Nat := 0x03C
def S_OUTPUTS_ON : Field := (16, 16)
def F_CORE_FENCED : Nat := 18
def F_OWNER_WRITE : Nat := 17
def F_BAD_VALUE : Nat := 16
end Sys

namespace Clk
/-! R36 -/
def CLK_CTRL : Nat := 0x020
def CLK_STATUS : Nat := 0x024
def LOCK_US : Nat := 0x028
def FIO_KHZ : Nat := 0x02C
def ROOT_LOSSES : Nat := 0x030
def XTAL_STOPS : Nat := 0x034
def S_ROOT_LOCK : Field := (16, 16)
def S_ON_ROOT : Field := (17, 17)
def F_BAD_VALUE : Nat := 16
def F_OWNER_WRITE : Nat := 17
def F_ROOT_LOST : Nat := 18
def F_XTAL_STOP : Nat := 19
end Clk

namespace Pwr
/-! R625, R626 -/
def PWR_REQ : Nat := 0x020
def PWR_CFG : Nat := 0x024
def IO_RAMP_US : Nat := 0x028
def LAST_REFUSE : Nat := 0x02C
def ENTRY_US : Nat := 0x030
def EXIT_US : Nat := 0x034
def ABORTS : Nat := 0x038
def MSG_DROPPED : Nat := 0x03C
def S_PWR_STATE : Field := (18, 16)
def F_IMAGE_BAD : Nat := 22
def F_REC_TIMEOUT : Nat := 21
def F_MSG_TIMEOUT : Nat := 20
def F_SLEEP_ABORTED : Nat := 19
def F_REFUSED : Nat := 18
def F_BAD_VALUE : Nat := 16
end Pwr

namespace Hth
/-! R628, R629 -/
def HTICK_LO : Nat := 0x020
def HTICK_HI : Nat := 0x024
def WAKE_EN : Nat := 0x028
def ALARM_LO : Nat := 0x02C
def ALARM_HI : Nat := 0x030
def HTH_CFG : Nat := 0x034
def WAKE_RECORD : Nat := 0x038
def WAKE_TICK_LO : Nat := 0x03C
def WAKE_TICK_HI : Nat := 0x040
def SLEEP_TICK_LO : Nat := 0x044
def SLEEP_TICK_HI : Nat := 0x048
def LOST_AT_SLEEP : Nat := 0x04C
def ABORTED : Field := (24, 24)
def FROM : Field := (21, 20)
def PINS : Field := (19, 16)
def SEEN : Field := (15, 8)
def SOURCE : Field := (3, 0)
def S_XT32_OK : Field := (18, 18)
def S_REG_MODE : Field := (17, 17)
def S_TK_VALID : Field := (16, 16)
def F_XT32_FAIL : Nat := 19
def F_SEAL_OPEN : Nat := 18
def F_ISLAND_RESET : Nat := 17
def F_BAD_VALUE : Nat := 16
end Hth

namespace Thm
/-! R662, R663 -/
def THM_CTRL : Nat := 0x020
def FORCE_LEVEL : Nat := 0x024
def T_DIE : Nat := 0x028
def T_REGION01 : Nat := 0x02C
def T_REGION23 : Nat := 0x030
def T_CORE_ANALOG : Nat := 0x034
def T_PEAK : Nat := 0x038
def THROTTLE : Nat := 0x03C
def REPLICA_STATE : Nat := 0x040
def DRAM_RATE : Nat := 0x044
def UNIT_SEL : Nat := 0x048
def UNIT_TEMP : Nat := 0x04C
def PEER_THERMAL : Nat := 0x050
def THROTTLE_MS : Nat := 0x054
def S_DRAM_HOT : Field := (21, 21)
def S_THROTTLING : Field := (20, 20)
def S_HEATING : Field := (19, 19)
def S_ZONE : Field := (18, 16)
def F_DRAM_HOT : Nat := 23
def F_LOW_WARN : Nat := 22
def F_HIGH_THROTTLE : Nat := 21
def F_HIGH_WARN : Nat := 20
def F_SENSOR_DISAGREE : Nat := 19
def F_REPLICA_EXCLUDED : Nat := 18
def F_SENSOR_BROKEN : Nat := 17
def F_BAD_VALUE : Nat := 16
end Thm

namespace Cal
/-! R665, R666 -/
def CAL_CTRL : Nat := 0x020
def CAL_ACTION : Nat := 0x024
def WINDOW_S : Nat := 0x028
def CAL_REF_UNC : Nat := 0x02C
def XTAL_ERR : Nat := 0x030
def XTAL_UNC : Nat := 0x034
def XT32_ERR : Nat := 0x038
def XT32_UNC : Nat := 0x03C
def XT32_MARGIN : Nat := 0x040
def CAL_COUNT : Nat := 0x044
def CAL_LAST_S_LO : Nat := 0x048
def CAL_LAST_S_HI : Nat := 0x04C
def CAL_LAST_NS : Nat := 0x050
def VREF_CODE : Nat := 0x054
def AVS_CFG : Nat := 0x058
def VCORE_LIMITS : Nat := 0x05C
def VCORE_SET : Nat := 0x060
def VCORE_READ : Nat := 0x064
def MARGIN : Nat := 0x068
def MARGIN_CORE : Nat := 0x06C
def MARGIN_CFG : Nat := 0x070
def AVS_STEPS : Nat := 0x074
def RESELECTS : Nat := 0x078
def PLU_WAIT : Nat := 0x07C
def OVR_SEL : Nat := 0x080
def OVR_VALUE : Nat := 0x084
def S_AT_VMAX : Field := (20, 20)
def S_AVS_BUSY : Field := (19, 19)
def S_CAL_BUSY : Field := (18, 16)
def F_REF_RANGE : Nat := 24
def F_HISTORY_BAD : Nat := 23
def F_VREF_OUT : Nat := 22
def F_ELEMENT_EXHAUSTED : Nat := 21
def F_AGE_LIMIT : Nat := 20
def F_AVS_ERROR : Nat := 19
def F_GUARD_REFUSED : Nat := 18
def F_NO_REF : Nat := 17
def F_BAD_VALUE : Nat := 16
end Cal

namespace Fwu
/-! R694, R695 -/
def FWU_CTRL : Nat := 0x020
def FWU_ACTION : Nat := 0x024
def STAGE_ADDR_LO : Nat := 0x028
def STAGE_ADDR_HI : Nat := 0x02C
def STAGE_LEN : Nat := 0x030
def ACT_S_LO : Nat := 0x034
def ACT_S_HI : Nat := 0x038
def ACT_NS : Nat := 0x03C
def FWU_INFO : Nat := 0x040
def RUN_VERSION : Nat := 0x044
def SHELF_VERSION : Nat := 0x048
def COPY_PROGRESS : Nat := 0x04C
def MIN_SECVER : Nat := 0x050
def CFG_SKIPPED : Nat := 0x054
def FUSE_SEL : Nat := 0x058
def KEY_DATA (i : Nat) : Nat := 0x05C + 0x4 * i
def PUB_DATA (i : Nat) : Nat := 0x07C + 0x4 * i
def SLOT_STATUS : Nat := 0x0AC
def DEV_ID (i : Nat) : Nat := 0x0B0 + 0x4 * i
def PEER_KNOWN (i : Nat) : Nat := 0x0C0 + 0x4 * i
def S_FUSE_BUSY : Field := (26, 26)
def S_BOOT_SLOT : Field := (25, 24)
def S_ACT_STATE : Field := (22, 20)
def S_STAGE_STATE : Field := (18, 16)
def F_COPY_FAIL : Nat := 22
def F_BOOT_FALLBACK : Nat := 21
def F_ACT_REFUSED : Nat := 20
def F_STAGE_BAD : Nat := 19
def F_GUARD_REFUSED : Nat := 18
def F_FERAM_WP : Nat := 17
def F_BAD_VALUE : Nat := 16
end Fwu

namespace Icu
/-! R519, R520, R522 -/
def ICU_STATUS : Nat := 0x020
def PENDING (i : Nat) : Nat := 0x040 + 0x4 * i
def ENABLE (i : Nat) : Nat := 0x080 + 0x4 * i
def IN_SERVICE (i : Nat) : Nat := 0x0C0 + 0x4 * i
def MSIX_TABLE (i : Nat) : Nat := 0x300 + 0x4 * i
def MSIX_PBA (i : Nat) : Nat := 0x340 + 0x4 * i
def THRESHOLD (i : Nat) : Nat := 0x400 + 0x20 * i
def CLAIM (i : Nat) : Nat := 0x404 + 0x20 * i
def COMPLETE (i : Nat) : Nat := 0x408 + 0x20 * i
def TGT_STATUS (i : Nat) : Nat := 0x40C + 0x20 * i
def SRC_CFG (i k : Nat) : Nat := 0x1400 + 0x1000 * i + 4 * k
def COUNT : Field := (31, 24)
def COUNT_CLR : Field := (20, 20)
def KIND : Field := (18, 18)
def ACCOUNT : Field := (16, 16)
def TARGETS : Field := (15, 8)
def PRIO : Field := (3, 0)
def F_BAD_VALUE : Nat := 16
def F_BAD_COMPLETE : Nat := 17
def F_BAD_ACCESS : Nat := 18
end Icu

namespace Tln
/-! R105 to R109 -/
def NOW_S_LO : Nat := 0x020
def NOW_S_HI : Nat := 0x024
def NOW_NS : Nat := 0x028
def NOW_FRAC : Nat := 0x02C
def NOW_UNCERT : Nat := 0x030
def NOW_STAMP32 : Nat := 0x034
def INCR_LO : Nat := 0x038
def INCR_HI : Nat := 0x03C
def INCR_FREE_LO : Nat := 0x040
def INCR_FREE_HI : Nat := 0x044
def TL_MODE : Nat := 0x048
def TL_ACTION : Nat := 0x04C
def SET_S_LO : Nat := 0x050
def SET_S_HI : Nat := 0x054
def SET_NS : Nat := 0x058
def SET_FRAC : Nat := 0x05C
def SLEW_OFFSET : Nat := 0x060
def SLEW_MAX : Nat := 0x064
def STEP_THRESH : Nat := 0x068
def KP : Nat := 0x06C
def KI : Nat := 0x070
def LOCK_THRESH : Nat := 0x074
def HOLD_DRIFT : Nat := 0x078
def HOLD_LIMIT : Nat := 0x07C
def LAST_ERR : Nat := 0x080
def RATE : Nat := 0x084
def UTC_CTRL : Nat := 0x088
def LEAP_AT_S_LO : Nat := 0x08C
def LEAP_AT_S_HI : Nat := 0x090
def LOCK_COUNT : Field := (11, 8)
def STEP_EN : Field := (4, 4)
def SRC : Field := (3, 0)
def SLEW_ABORT : Field := (2, 2)
def SLEW : Field := (1, 1)
def STEP : Field := (0, 0)
def LEAP : Field := (17, 16)
def UTC_OFFSET : Field := (15, 0)
def S_LEAP_DONE : Field := (23, 23)
def S_STEP_DEFERRED : Field := (22, 22)
def S_HOLD_EXPIRED : Field := (21, 21)
def S_SLEWING : Field := (20, 20)
def S_STEPPED : Field := (19, 19)
def S_TL_STATE : Field := (18, 16)
def F_SLEW_REFUSED : Nat := 18
def F_STEP_REFUSED : Nat := 17
def F_BAD_VALUE : Nat := 16
end Tln

namespace SynIn
/-! R112, R113, R116 -/
def IN_MODE : Nat := 0x020
def PERIOD_NUM : Nat := 0x024
def PERIOD_DEN : Nat := 0x028
def LINES : Nat := 0x02C
def PHASE_ADJ : Nat := 0x030
def WINDOW : Nat := 0x034
def MISS_LIMIT : Nat := 0x038
def DECIM : Nat := 0x03C
def CAP_STAMP : Nat := 0x040
def CAP_FRAC : Nat := 0x044
def LAST_ERR : Nat := 0x048
def EDGES : Nat := 0x04C
def MISSES : Nat := 0x050
def GLITCHES : Nat := 0x054
def LTC_TIME : Nat := 0x060
def LTC_USER : Nat := 0x064
def DROP_FRAME : Field := (3, 3)
def FORMAT : Field := (2, 2)
def EDGE : Field := (1, 0)
def S_IO_STATE : Field := (17, 16)
def F_GLITCH : Nat := 17
def F_BAD_VALUE : Nat := 16
end SynIn

namespace SynOut
/-! R114, R115, R116 -/
def OUT_MODE : Nat := 0x020
def PERIOD_NUM : Nat := 0x024
def PERIOD_DEN : Nat := 0x028
def ZONE_S : Nat := 0x02C
def OFFSET : Nat := 0x030
def WIDTH : Nat := 0x034
def SWATH : Nat := 0x038
def USER : Nat := 0x03C
def PULSES : Nat := 0x040
def GATE : Field := (3, 2)
def DROP_FRAME : Field := (1, 1)
def POLARITY : Field := (0, 0)
def S_IO_STATE : Field := (17, 16)
def F_GLITCH : Nat := 17
def F_BAD_VALUE : Nat := 16
end SynOut

namespace Swt
/-! R273 to R277 -/
def SWT_MODE : Nat := 0x020
def PERIOD_NS : Nat := 0x024
def PERIOD_FRAC : Nat := 0x028
def LINES : Nat := 0x02C
def FRAME_MIN : Nat := 0x030
def FRAME_MAX : Nat := 0x034
def PHASE : Nat := 0x038
def FLEX : Nat := 0x03C
def REL_OFFSET : Nat := 0x040
def SWT_IRQ_EN : Nat := 0x044
def FRAME_READY : Nat := 0x048
def LEAD_NS : Nat := 0x04C
def FRAME_COUNT : Nat := 0x050
def CONTENT_FRAME : Nat := 0x054
def RELEASED_FRAME : Nat := 0x058
def REPEATS : Nat := 0x05C
def SLIPS : Nat := 0x060
def UNANCHORED : Nat := 0x064
def LAST_FLEX : Nat := 0x068
def LAST_START_S_LO : Nat := 0x06C
def LAST_START_S_HI : Nat := 0x070
def LAST_START_NS : Nat := 0x074
def LAST_START_FRAC : Nat := 0x078
def NEXT_START_S_LO : Nat := 0x07C
def NEXT_START_S_HI : Nat := 0x080
def NEXT_START_NS : Nat := 0x084
def NEXT_START_FRAC : Nat := 0x088
def RECT_CTRL (i : Nat) : Nat := 0x1400 + 0x20 * i
def RECT_XY (i : Nat) : Nat := 0x1404 + 0x20 * i
def RECT_WH (i : Nat) : Nat := 0x1408 + 0x20 * i
def EXPECTED (i : Nat) : Nat := 0x140C + 0x20 * i
def LAST_CRC (i : Nat) : Nat := 0x1410 + 0x20 * i
def MISMATCHES (i : Nat) : Nat := 0x1414 + 0x20 * i
def LAST_BAD (i : Nat) : Nat := 0x1418 + 0x20 * i
def CRC_ROW : Nat := 0x1020
def START_GATE : Field := (17, 16)
def READY_SRC : Field := (13, 12)
def MASTER : Field := (11, 8)
def RATIO_M1 : Field := (5, 4)
def LOCK_SRC : Field := (2, 0)
def S_HOLD_TIMEOUT : Field := (22, 22)
def S_CAPTURED : Field := (21, 21)
def S_REPEATED : Field := (20, 20)
def S_LOCK_OK : Field := (19, 19)
def S_SWATH_STATE : Field := (18, 16)
def F_CRC_LATE : Nat := 21
def F_READY_OVERRUN : Nat := 20
def F_SLIP : Nat := 19
def F_LOCK_LOST : Nat := 18
def F_CRC_MISMATCH : Nat := 17
def F_BAD_VALUE : Nat := 16
end Swt

namespace Cmp
/-! R152 to R157, R193 to R196 -/
def CMP_CTRL : Nat := 0x020
def HEADROOM : Nat := 0x024
def DITHER_SEED_LO : Nat := 0x028
def DITHER_SEED_HI : Nat := 0x02C
def REUSE_INFO : Nat := 0x030
def REUSE_COUNT : Nat := 0x034
def STALL_COUNT : Nat := 0x038
def DOSE_SAT_INFO : Nat := 0x03C
def LIMIT_COUNT : Nat := 0x040
def PMAP_CTRL (i : Nat) : Nat := 0x1400 + 0x40 * i
def PMAP_BASE_LO (i : Nat) : Nat := 0x1404 + 0x40 * i
def PMAP_BASE_HI (i : Nat) : Nat := 0x1408 + 0x40 * i
def PMAP_COUNT (i : Nat) : Nat := 0x140C + 0x40 * i
def LAYER_MASK (i : Nat) : Nat := 0x1410 + 0x40 * i
def CORR_BASE_LO (i : Nat) : Nat := 0x1414 + 0x40 * i
def CORR_BASE_HI (i : Nat) : Nat := 0x1418 + 0x40 * i
def TILE_BASE_LO (i : Nat) : Nat := 0x141C + 0x40 * i
def TILE_BASE_HI (i : Nat) : Nat := 0x1420 + 0x40 * i
def TILE_COUNT (i : Nat) : Nat := 0x1424 + 0x40 * i
def OFB_BASE_LO (i : Nat) : Nat := 0x1428 + 0x40 * i
def OFB_BASE_HI (i : Nat) : Nat := 0x142C + 0x40 * i
def FRAME_NUM (i : Nat) : Nat := 0x1430 + 0x40 * i
def PROG_ADDR : Nat := 0x1020
def PROG_DATA_LO : Nat := 0x1024
def PROG_DATA_HI : Nat := 0x1028
def PROG_FAULT : Nat := 0x102C
def PROG_FAULT_INFO : Nat := 0x1030
def PROG_FAULT_PIX : Nat := 0x1034
def PROG_FAULT_COUNT : Nat := 0x1038
def PROG_ENTRY (i : Nat) : Nat := 0x1040 + 0x40 * i
def PROG_COST (i : Nat) : Nat := 0x1044 + 0x40 * i
def PROG_CONST (i k : Nat) : Nat := 0x1060 + 0x40 * i + 4 * k
def TILE_BANK (i b : Nat) : Nat := 0x2400 + 0x1000 * (i / 2) + 0x200 * (i % 2) + 4 * b
def BUF_CTRL (i : Nat) : Nat := 0x4400 + 0x20 * i
def BUF_BASE_LO (i : Nat) : Nat := 0x4404 + 0x20 * i
def BUF_BASE_HI (i : Nat) : Nat := 0x4408 + 0x20 * i
def BUF_DIM (i : Nat) : Nat := 0x440C + 0x20 * i
def BUF_STRIDE (i : Nat) : Nat := 0x4410 + 0x20 * i
def BUF_EPOCH (i : Nat) : Nat := 0x4414 + 0x20 * i
def BUF_REF (i : Nat) : Nat := 0x4418 + 0x20 * i
def LAYER_BUF (i : Nat) : Nat := 0x5400 + 0x10 * i
def LAYER_ORG_U (i : Nat) : Nat := 0x5404 + 0x10 * i
def LAYER_ORG_V (i : Nat) : Nat := 0x5408 + 0x10 * i
def LAYER_EPOCH (i : Nat) : Nat := 0x540C + 0x10 * i
def CURVE (i k : Nat) : Nat := 0x6400 + 0x80 * i + 4 * k
def DOSE_ACC : Field := (1, 1)
def DOSE_GAIN : Field := (0, 0)
def DEPTH : Field := (17, 16)
def SWATH : Field := (11, 8)
def LUT_SET : Field := (6, 4)
def CORR_MODE : Field := (1, 1)
def VALID : Field := (0, 0)
def BCAST : Field := (31, 31)
def INC : Field := (16, 16)
def ADDR : Field := (12, 0)
def SMP_LAYER : Field := (3, 3)
def NO_STORE : Field := (2, 2)
def LENGTH : Field := (1, 1)
def ILLEGAL : Field := (0, 0)
def PROG_FAULT_INFO_VALID : Field := (31, 31)
def PROG_FAULT_INFO_PLU : Field := (28, 24)
def PROG_FAULT_INFO_MAP : Field := (21, 20)
def PROG_FAULT_INFO_KIND : Field := (18, 16)
def PROG_FAULT_INFO_WORD : Field := (12, 0)
def S_FLUSHING : Field := (17, 17)
def S_DOSE_LIMIT : Field := (16, 16)
def F_BUF_INVALID : Nat := 21
def F_TILE_RANGE : Nat := 20
def F_DOSE_SAT : Nat := 19
def F_BUFFER_REUSE : Nat := 18
def F_BAD_VALUE : Nat := 16
end Cmp

namespace Jsc
/-! R239 to R243 -/
def JSC_CTRL : Nat := 0x020
def JOB_TIMEOUT : Nat := 0x024
def ORDER_TIMEOUT : Nat := 0x028
def QUANTUM : Nat := 0x02C
def SPILL_BASE_LO : Nat := 0x030
def SPILL_BASE_HI : Nat := 0x034
def SPILL_LEVEL : Nat := 0x038
def INFLIGHT : Nat := 0x03C
def SUBMIT_SPACE : Nat := 0x040
def CTR_SEL : Nat := 0x044
def CTR_VALUE : Nat := 0x048
def CTR_SIGNAL : Nat := 0x04C
def DOM_SEL : Nat := 0x050
def DOM_STATE : Nat := 0x054
def DOM_HEAD_SET : Nat := 0x058
def SUB_D (i : Nat) : Nat := 0x060 + 0x4 * i
def JOB_FAULT_INFO : Nat := 0x080
def JOB_FAULT_SEQ : Nat := 0x084
def JOB_FAULT_COUNT : Nat := 0x088
def LAG_STATE : Nat := 0x08C
def LAG_MEDIAN : Nat := 0x090
def PLU_LAT (i : Nat) : Nat := 0x094 + 0x4 * i
def RETIRED : Nat := 0x0B4
def THR_END : Nat := 0x0B8
def LIST_CTRL (i : Nat) : Nat := 0x1400 + 0x40 * i
def LIST_BASE_LO (i : Nat) : Nat := 0x1404 + 0x40 * i
def LIST_BASE_HI (i : Nat) : Nat := 0x1408 + 0x40 * i
def LIST_COUNT (i : Nat) : Nat := 0x140C + 0x40 * i
def LIST_GO (i : Nat) : Nat := 0x1410 + 0x40 * i
def RELOAD0 (i : Nat) : Nat := 0x1414 + 0x40 * i
def RELOAD1 (i : Nat) : Nat := 0x1418 + 0x40 * i
def LIST_FRAME (i : Nat) : Nat := 0x141C + 0x40 * i
def LIST_HELD (i : Nat) : Nat := 0x1420 + 0x40 * i
def LIST_STATE (i : Nat) : Nat := 0x1424 + 0x40 * i
def THR_CFG (i : Nat) : Nat := 0x2400 + 0x10 * i
def THR_STATE (i : Nat) : Nat := 0x2404 + 0x10 * i
def WAKES_LOST (i : Nat) : Nat := 0x2408 + 0x10 * i
def MSG (i : Nat) : Nat := 0x240C + 0x10 * i
def S_DONE_PEND : Field := (20, 20)
def S_LAG_CHANGED : Field := (19, 19)
def S_LAUNCH_HELD : Field := (18, 18)
def S_SPILLING : Field := (17, 17)
def F_EXEC_FENCED : Nat := 25
def F_OWNER_WRITE : Nat := 24
def F_WAKE_LOST : Nat := 23
def F_JOB_TIMEOUT : Nat := 22
def F_JOB_FAULT : Nat := 21
def F_ORDER_STALL : Nat := 20
def F_CTR_UNDERFLOW : Nat := 19
def F_SUBMIT_OVERRUN : Nat := 18
def F_BAD_DESC : Nat := 17
def F_BAD_VALUE : Nat := 16
end Jsc

namespace Fix
/-! R391, R394 -/
def FIX_BASE_LO : Nat := 0x020
def FIX_BASE_HI : Nat := 0x024
def FIX_COUNT : Nat := 0x028
def TMPL_BASE_LO : Nat := 0x02C
def TMPL_BASE_HI : Nat := 0x030
def TMPL_COUNT : Nat := 0x034
def UCLASS_BASE_LO : Nat := 0x038
def UCLASS_BASE_HI : Nat := 0x03C
def USTORE_BASE_LO : Nat := 0x040
def USTORE_BASE_HI : Nat := 0x044
def UNIV_COUNT : Nat := 0x048
def LAT_MISMATCHES : Nat := 0x04C
def RANGE_COUNT : Nat := 0x050
def CANVAS_COUNT : Nat := 0x054
def MERGE_CTRL : Nat := 0x1020
def IN_RANGE : Nat := 0x1024
def MERGE_BASE_LO : Nat := 0x1028
def MERGE_BASE_HI : Nat := 0x102C
def SRC_LOSS_MS : Nat := 0x1030
def MERGE_EPOCH : Nat := 0x1034
def LIVE_COUNT : Nat := 0x1038
def MERGE_DISCARD : Nat := 0x103C
def MERGE_FULL_COUNT : Nat := 0x1040
def MERGE_DROP : Nat := 0x1044
def S_MERGE_HELD : Field := (16, 16)
def F_MERGE_OVERRUN : Nat := 21
def F_MERGE_FULL : Nat := 20
def F_CANVAS_INVALID : Nat := 19
def F_LAT_MISMATCH : Nat := 18
def F_FIX_RANGE : Nat := 17
def F_BAD_VALUE : Nat := 16
end Fix

namespace Pxp
/-! R301 to R305 -/
def PX_MODE : Nat := 0x020
def SYM_PERIOD : Nat := 0x024
def EDGE_A0 : Nat := 0x028
def EDGE_A1 : Nat := 0x02C
def EDGE_B0 : Nat := 0x030
def EDGE_B1 : Nat := 0x034
def PX_ORDER : Nat := 0x038
def FRAMING : Nat := 0x03C
def EMIT_LAT_NS : Nat := 0x040
def EMIT_LAT_FRAC : Nat := 0x044
def STAGGER : Nat := 0x048
def LATCH_NS : Nat := 0x04C
def PX_POLICY : Nat := 0x050
def EMIT_BITS : Nat := 0x054
def EMIT_TIME_NS : Nat := 0x058
def FILL_FRAME : Nat := 0x05C
def EMIT_FRAME : Nat := 0x060
def FRAMES : Nat := 0x064
def UNDERRUNS : Nat := 0x068
def LATE_COUNT : Nat := 0x06C
def CONFLICTS : Nat := 0x070
def LAST_LAUNCH_S_LO : Nat := 0x074
def LAST_LAUNCH_S_HI : Nat := 0x078
def LAST_LAUNCH_NS : Nat := 0x07C
def LAST_LAUNCH_FRAC : Nat := 0x080
def SWATH : Field := (19, 16)
def DRIVE : Field := (13, 12)
def MSB_FIRST : Field := (10, 10)
def DEPTH : Field := (9, 8)
def IDLE_LEVEL : Field := (6, 6)
def WIRE : Field := (1, 0)
def N1 : Field := (22, 20)
def N0 : Field := (18, 16)
def PERIOD : Field := (15, 0)
def CHANNELS_M1 : Field := (9, 8)
def SRC : Field := (7, 0)
def TRAIL_VALUE : Field := (24, 24)
def TRAIL_BITS : Field := (23, 16)
def HEAD_VALUE : Field := (8, 8)
def HEAD_BITS : Field := (7, 0)
def IRQ_EMITTED : Field := (8, 8)
def UNDERRUN : Field := (0, 0)
def S_DRIVEN : Field := (18, 18)
def S_PIN_STATE : Field := (17, 16)
def F_PIN_CONFLICT : Nat := 20
def F_FILL_RANGE : Nat := 19
def F_LAUNCH_LATE : Nat := 18
def F_UNDERRUN : Nat := 17
def F_BAD_VALUE : Nat := 16
end Pxp

namespace Dmx
/-! R325 to R327 -/
def DMX_MODE : Nat := 0x020
def BREAK_NS : Nat := 0x024
def MAB_NS : Nat := 0x028
def MBS_NS : Nat := 0x02C
def DMX_FRAME : Nat := 0x030
def DMX_UNIV : Nat := 0x034
def EMIT_LAT_NS : Nat := 0x038
def EMIT_LAT_FRAC : Nat := 0x03C
def DMX_POLICY : Nat := 0x040
def RX_END_US : Nat := 0x044
def RX_LOSS_MS : Nat := 0x048
def DE_HOLD_NS : Nat := 0x04C
def RDM_BREAK_NS : Nat := 0x050
def RDM_MAB_NS : Nat := 0x054
def RDM_GAP_NS : Nat := 0x058
def RSP_TIMEOUT_US : Nat := 0x05C
def DISC_WINDOW_US : Nat := 0x060
def RESP_RESERVE_US : Nat := 0x064
def RDM_REQ_LO : Nat := 0x068
def RDM_REQ_HI : Nat := 0x06C
def RDM_CTRL : Nat := 0x070
def RDM_RSP_LO : Nat := 0x074
def RDM_RSP_HI : Nat := 0x078
def RDM_GO : Nat := 0x07C
def RDM_RESULT : Nat := 0x080
def DISC_UID_LO : Nat := 0x084
def DISC_UID_HI : Nat := 0x088
def RX_SLOTS : Nat := 0x08C
def RX_STAMP : Nat := 0x090
def EMIT_TIME_NS : Nat := 0x094
def FRAMES : Nat := 0x098
def UNDERRUNS : Nat := 0x09C
def LATE_COUNT : Nat := 0x0A0
def RX_PACKETS : Nat := 0x0A4
def RX_ERRORS : Nat := 0x0A8
def LINE_CONFLICTS : Nat := 0x0AC
def SWATH : Field := (19, 16)
def RDM_EN : Field := (12, 12)
def DIR : Field := (9, 8)
def RX_PRIO : Field := (15, 8)
def LOSS : Field := (1, 1)
def UNDERRUN : Field := (0, 0)
def KIND : Field := (13, 12)
def REQ_LEN : Field := (8, 0)
def S_RDM_DONE : Field := (22, 22)
def S_INPUT_STATE : Field := (21, 20)
def S_DRIVEN : Field := (19, 19)
def S_PIN_STATE : Field := (18, 16)
def F_RDM_WRITE : Nat := 23
def F_NOT_ACTIVE : Nat := 22
def F_RX_ERROR : Nat := 21
def F_LINE_CONFLICT : Nat := 20
def F_FILL_RANGE : Nat := 19
def F_LAUNCH_LATE : Nat := 18
def F_UNDERRUN : Nat := 17
def F_BAD_VALUE : Nat := 16
end Dmx

namespace Eth
/-! R358 to R361 -/
def MAC_MODE : Nat := 0x020
def MAC_ADDR_LO : Nat := 0x024
def MAC_ADDR_HI : Nat := 0x028
def PAUSE_CTRL : Nat := 0x02C
def PAUSE_LEVEL : Nat := 0x030
def PREEMPT_CTRL : Nat := 0x034
def LATE_LIMIT : Nat := 0x038
def LINK_STATUS : Nat := 0x03C
def RING_IRQ : Nat := 0x040
def PAUSE_LEFT : Nat := 0x044
def TXR_CTRL (i : Nat) : Nat := 0x1400 + 0x40 * i
def TXR_BASE_LO (i : Nat) : Nat := 0x1404 + 0x40 * i
def TXR_BASE_HI (i : Nat) : Nat := 0x1408 + 0x40 * i
def TXR_SIZE (i : Nat) : Nat := 0x140C + 0x40 * i
def TXR_TAIL (i : Nat) : Nat := 0x1410 + 0x40 * i
def TXR_HEAD (i : Nat) : Nat := 0x1414 + 0x40 * i
def TXR_MOD_CTRL (i : Nat) : Nat := 0x1418 + 0x40 * i
def TXR_PEND (i : Nat) : Nat := 0x141C + 0x40 * i
def TXR_FRAMES (i : Nat) : Nat := 0x1420 + 0x40 * i
def TXR_LATE_SENT (i : Nat) : Nat := 0x1424 + 0x40 * i
def TXR_LATE_DROP (i : Nat) : Nat := 0x1428 + 0x40 * i
def TXR_UNPLACED (i : Nat) : Nat := 0x142C + 0x40 * i
def RXR_CTRL (i : Nat) : Nat := 0x2400 + 0x40 * i
def RXR_BASE_LO (i : Nat) : Nat := 0x2404 + 0x40 * i
def RXR_BASE_HI (i : Nat) : Nat := 0x2408 + 0x40 * i
def RXR_SIZE (i : Nat) : Nat := 0x240C + 0x40 * i
def RXR_TAIL (i : Nat) : Nat := 0x2410 + 0x40 * i
def RXR_HEAD (i : Nat) : Nat := 0x2414 + 0x40 * i
def RXR_MOD_CTRL (i : Nat) : Nat := 0x2418 + 0x40 * i
def RXR_PEND (i : Nat) : Nat := 0x241C + 0x40 * i
def RXR_FRAMES (i : Nat) : Nat := 0x2420 + 0x40 * i
def RXR_BUF_SIZE (i : Nat) : Nat := 0x2424 + 0x40 * i
def RXR_NOBUF_DROP (i : Nat) : Nat := 0x2428 + 0x40 * i
def RX_FILTER (i : Nat) : Nat := 0x2020 + 0x4 * i
def RX_DEFAULT : Nat := 0x2060
def RX_GOOD : Nat := 0x3020
def RX_FCS : Nat := 0x3024
def RX_RUNT : Nat := 0x3028
def RX_OVERSIZE : Nat := 0x302C
def RX_CODE : Nat := 0x3030
def RX_FEC_UNCORR : Nat := 0x3034
def RX_FEC_CORR : Nat := 0x3038
def RX_OVERRUN : Nat := 0x303C
def RX_NOMATCH : Nat := 0x3040
def RX_CTRL_DROP : Nat := 0x3044
def PAUSE_RX : Nat := 0x3048
def PAUSE_TX : Nat := 0x304C
def TX_GOOD : Nat := 0x3050
def TX_PREEMPTED : Nat := 0x3054
def BR_DROP : Nat := 0x3058
def LINK_DOWNS : Nat := 0x305C
def NOBUF_TOTAL : Nat := 0x3060
def F_BAD_VALUE : Nat := 16
def F_LINK_LOST : Nat := 17
def F_NOBUF : Nat := 18
def F_RX_OVERRUN : Nat := 19
def F_LATE : Nat := 20
def F_BAD_DESC : Nat := 21
def F_VERIFY_FAIL : Nat := 22
def S_LINK_UP : Field := (16, 16)
def S_PAUSED : Field := (17, 17)
end Eth

namespace Fld
/-! R443, R444 -/
def FLD_MODE : Nat := 0x020
def MAC_ADDR_LO : Nat := 0x024
def MAC_ADDR_HI : Nat := 0x028
def PLCA_CFG : Nat := 0x02C
def PLCA_BURST : Nat := 0x030
def REL_OFFSET : Nat := 0x034
def FTX_BASE_LO : Nat := 0x038
def FTX_BASE_HI : Nat := 0x03C
def ATTEMPTS : Nat := 0x040
def TX_FRAMES : Nat := 0x044
def COLLISIONS : Nat := 0x048
def EXCESS_COLLS : Nat := 0x04C
def LATE_COLLS : Nat := 0x050
def STALE_DROP : Nat := 0x054
def UNDERRUNS : Nat := 0x058
def RX_FRAMES : Nat := 0x05C
def RX_BAD : Nat := 0x060
def RX_OVERRUN : Nat := 0x064
def S_PLCA_STATUS : Field := (19, 19)
def S_DRIVEN : Field := (18, 18)
def S_PIN_STATE : Field := (17, 16)
def F_RX_OVERRUN : Nat := 23
def F_PLCA_DOWN : Nat := 22
def F_STALE : Nat := 21
def F_LATE_COLL : Nat := 20
def F_EXCESS_COLL : Nat := 19
def F_FILL_RANGE : Nat := 18
def F_UNDERRUN : Nat := 17
def F_BAD_VALUE : Nat := 16
end Fld

namespace Ntm
/-! R421 to R425 -/
def NTM_CTRL : Nat := 0x020
def CLOCK_ID_LO : Nat := 0x024
def CLOCK_ID_HI : Nat := 0x028
def PARENT_ID_LO : Nat := 0x02C
def PARENT_ID_HI : Nat := 0x030
def PARENT_PORT : Nat := 0x034
def DELAY_CTRL : Nat := 0x038
def SLAVE_PORT : Nat := 0x03C
def OFFSET : Nat := 0x040
def MEAN_DELAY : Nat := 0x044
def PTP_UNCERT : Nat := 0x048
def TSQ_LO : Nat := 0x04C
def TSQ_HI : Nat := 0x050
def TSQ_LEVEL : Nat := 0x054
def SYNC_REJECTED : Nat := 0x058
def FU_MISSING : Nat := 0x05C
def NO_DELAY : Nat := 0x060
def DELAY_OUTLIERS : Nat := 0x064
def TC_FRAMES : Nat := 0x068
def TC_SATURATED : Nat := 0x06C
def SETTLE_DISCARDS : Nat := 0x070
def PORT_CTRL (i : Nat) : Nat := 0x1400 + 0x80 * i
def PORT_STATE (i : Nat) : Nat := 0x1404 + 0x80 * i
def ASYM (i : Nat) : Nat := 0x1408 + 0x80 * i
def ASYM_UNC (i : Nat) : Nat := 0x140C + 0x80 * i
def TX_ADJ (i : Nat) : Nat := 0x1410 + 0x80 * i
def RX_ADJ (i : Nat) : Nat := 0x1414 + 0x80 * i
def ANN_BASE_LO (i : Nat) : Nat := 0x1418 + 0x80 * i
def ANN_BASE_HI (i : Nat) : Nat := 0x141C + 0x80 * i
def SYNC_TX (i : Nat) : Nat := 0x1420 + 0x80 * i
def SYNC_RX (i : Nat) : Nat := 0x1424 + 0x80 * i
def DREQ_TX (i : Nat) : Nat := 0x1428 + 0x80 * i
def DRESP_MISSING (i : Nat) : Nat := 0x142C + 0x80 * i
def DREQ_DROP (i : Nat) : Nat := 0x1430 + 0x80 * i
def TSQ_EN : Field := (25, 25)
def UTC_FOLLOW : Field := (24, 24)
def DOMAIN : Field := (23, 16)
def TC_DOMAIN : Field := (15, 8)
def TC_DOMAIN_EN : Field := (1, 1)
def TC_EN : Field := (0, 0)
def OUTLIER_NS : Field := (31, 16)
def SYNC_LOSS : Field := (15, 8)
def DELAY_FILT : Field := (3, 0)
def TSQ_HI_SEQ_ID : Field := (31, 16)
def TSQ_HI_STALE : Field := (15, 15)
def TSQ_HI_DIR : Field := (14, 14)
def TSQ_HI_PORT : Field := (13, 12)
def TSQ_HI_MSG_TYPE : Field := (11, 8)
def TSQ_HI_FRAC : Field := (7, 0)
def ANNOUNCE_TIMEOUT : Field := (23, 20)
def LOG_DELAY_REQ : Field := (19, 16)
def LOG_ANNOUNCE : Field := (15, 12)
def LOG_SYNC : Field := (11, 8)
def TRANSPORT : Field := (2, 1)
def PTP_EN : Field := (0, 0)
def S_PTP_VALID : Field := (16, 16)
def F_BAD_VALUE : Nat := 16
def F_OWNER_WRITE : Nat := 17
def F_TSQ_OVERRUN : Nat := 18
def F_SYNC_LOST : Nat := 19
def F_TC_SAT : Nat := 20
end Ntm

namespace Br
/-! R363 -/
def BR_PORT : Nat := 0x3020
def UFLOOD : Nat := 0x3024
def MFLOOD : Nat := 0x3028
def AGE_TIME : Nat := 0x302C
def FDB_MAC_LO : Nat := 0x3030
def FDB_MAC_HI : Nat := 0x3034
def FDB_PORTS : Nat := 0x3038
def FDB_CMD : Nat := 0x303C
def FDB_STATUS : Nat := 0x3040
def LEARN_FULL : Nat := 0x3044
def F_BAD_VALUE : Nat := 16
def F_FDB_FULL : Nat := 17
end Br

namespace Str
/-! R392, R394 -/
def STR_CTRL : Nat := 0x020
def STREAM_BASE_LO : Nat := 0x024
def STREAM_BASE_HI : Nat := 0x028
def STAGE_BASE_LO : Nat := 0x02C
def STAGE_BASE_HI : Nat := 0x030
def NAME_BASE_LO : Nat := 0x034
def NAME_BASE_HI : Nat := 0x038
def CID (i : Nat) : Nat := 0x03C + 0x4 * i
def PACKETS : Nat := 0x04C
def UNDERRUNS : Nat := 0x050
def LAT_MISMATCHES : Nat := 0x054
def RANGE_COUNT : Nat := 0x058
def LAT_NS (i : Nat) : Nat := 0x1020 + 0x8 * i
def LAT_FRAC (i : Nat) : Nat := 0x1024 + 0x8 * i
def F_LAT_MISMATCH : Nat := 19
def F_UNDERRUN : Nat := 18
def F_STR_RANGE : Nat := 17
def F_BAD_VALUE : Nat := 16
end Str

namespace Ing
/-! R393, R394 -/
def ING_MODE (i : Nat) : Nat := 0x1400 + 0x40 * i
def ING_DST_IP (i : Nat) : Nat := 0x1404 + 0x40 * i
def ING_PORT (i : Nat) : Nat := 0x1408 + 0x40 * i
def ING_PT_SSRC (i : Nat) : Nat := 0x140C + 0x40 * i
def ING_SIZE (i : Nat) : Nat := 0x1410 + 0x40 * i
def ING_BUFS (i : Nat) : Nat := 0x1414 + 0x40 * i
def ING_BUFS2 (i : Nat) : Nat := 0x1418 + 0x40 * i
def LAST_STAMP (i : Nat) : Nat := 0x141C + 0x40 * i
def FRAMES (i : Nat) : Nat := 0x1420 + 0x40 * i
def INCOMPLETES (i : Nat) : Nat := 0x1424 + 0x40 * i
def LOST_PKTS (i : Nat) : Nat := 0x1428 + 0x40 * i
def DISCARDS (i : Nat) : Nat := 0x142C + 0x40 * i
def S_COMMITTED : Field := (23, 16)
def F_PKT_LOSS : Nat := 19
def F_INCOMPLETE : Nat := 18
def F_FORMAT_ERR : Nat := 17
def F_BAD_VALUE : Nat := 16
end Ing

namespace Lmp
/-! R478 to R480 -/
def LMP_MODE : Nat := 0x020
def LMP_SRC : Nat := 0x024
def LEVEL : Nat := 0x028
def MAX_DUTY : Nat := 0x02C
def PH_OFS : Nat := 0x030
def OPEN_TH : Nat := 0x034
def SHORT_TH : Nat := 0x038
def OFF_TH : Nat := 0x03C
def SENSE_CFG : Nat := 0x040
def LMP_ACTION : Nat := 0x044
def DUTY : Nat := 0x048
def ON_STEPS : Nat := 0x04C
def SENSE_LAST : Nat := 0x050
def LAST_SAMPLE : Nat := 0x054
def PROBES : Nat := 0x058
def OPEN_COUNT : Nat := 0x05C
def SHORT_COUNT : Nat := 0x060
def DERATE_EN : Field := (10, 10)
def SHORT_ACTION : Field := (9, 9)
def PROBE_EN : Field := (8, 8)
def WIDE : Field := (7, 7)
def PAT_ENG : Field := (6, 4)
def SRC : Field := (2, 1)
def GATE_POL : Field := (0, 0)
def S_DRIVEN : Field := (20, 20)
def S_LATCHED : Field := (19, 19)
def S_DIAG_STATE : Field := (18, 16)
def F_LATCHED_OFF : Nat := 20
def F_STUCK_ON : Nat := 19
def F_SHORT : Nat := 18
def F_OPEN : Nat := 17
def F_BAD_VALUE : Nat := 16
end Lmp

namespace Lcl
/-! R474 to R476 -/
def LCL_MODE : Nat := 0x020
def PWM_PERIOD : Nat := 0x024
def EMIT_LAT_NS : Nat := 0x028
def EMIT_LAT_FRAC : Nat := 0x02C
def SAFE_LEVEL : Nat := 0x030
def PROBE_MS : Nat := 0x034
def DERATE_T : Nat := 0x038
def DERATE_MIN : Nat := 0x03C
def TRIP : Nat := 0x040
def TSNS_CFG : Nat := 0x044
def TSNS_R25 : Nat := 0x048
def TEMP : Nat := 0x04C
def DERATE : Nat := 0x050
def UNDERRUNS : Nat := 0x054
def TRIPS : Nat := 0x058
def PE_CTRL (i : Nat) : Nat := 0x100 + 0x10 * i
def PE_STATE (i : Nat) : Nat := 0x104 + 0x10 * i
def PAT (i : Nat) : Nat := 0x400 + 0x4 * i
def SWATH : Field := (19, 16)
def TSNS_MODE : Field := (5, 4)
def UNDERRUN : Field := (2, 2)
def IDLE_MODE : Field := (1, 0)
def S_DERATING : Field := (21, 21)
def S_DRIVEN : Field := (20, 20)
def S_PIN_STATE : Field := (19, 16)
def F_PAT_FAULT : Nat := 21
def F_TRIP : Nat := 20
def F_SENSOR_BROKEN : Nat := 19
def F_FILL_RANGE : Nat := 18
def F_UNDERRUN : Nat := 17
def F_BAD_VALUE : Nat := 16
end Lcl

namespace Que
/-! R495 to R498 -/
def Q_CTRL (i : Nat) : Nat := 0x100 + 0x40 * i
def Q_STATUS (i : Nat) : Nat := 0x104 + 0x40 * i
def Q_LEVEL (i : Nat) : Nat := 0x108 + 0x40 * i
def Q_PACKETS (i : Nat) : Nat := 0x10C + 0x40 * i
def Q_DROPS (i : Nat) : Nat := 0x110 + 0x40 * i
def Q_WDATA (i : Nat) : Nat := 0x114 + 0x40 * i
def Q_ACTION (i : Nat) : Nat := 0x118 + 0x40 * i
def Q_RTAG (i : Nat) : Nat := 0x11C + 0x40 * i
def Q_RWORD (i k : Nat) : Nat := 0x120 + 0x40 * i + 4 * k
def READER : Field := (31, 30)
def WRITER : Field := (29, 28)
def WIDTH : Field := (27, 26)
def THRESH : Field := (23, 10)
def IRQ_EN : Field := (1, 1)
def EN : Field := (0, 0)
def BAD_ACCESS : Field := (10, 10)
def PTR_ERROR : Field := (9, 9)
def OVERRUN : Field := (8, 8)
def WRITING : Field := (3, 3)
def ABOVE : Field := (2, 2)
def FULL : Field := (1, 1)
def EMPTY : Field := (0, 0)
def LAST_BYTES : Field := (6, 4)
def REWIND : Field := (2, 2)
def POP : Field := (1, 1)
def COMMIT : Field := (0, 0)
def Q_RTAG_VALID : Field := (31, 31)
def Q_RTAG_LAST : Field := (9, 9)
def Q_RTAG_FIRST : Field := (8, 8)
def Q_RTAG_BYTES : Field := (5, 0)
def S_ABOVE : Field := (19, 16)
def F_BAD_VALUE : Nat := 16
end Que

namespace Red
/-! R568 to R573 -/
def PAIR_CTRL : Nat := 0x020
def PAIR_ACTION : Nat := 0x024
def PAIR_STATE : Nat := 0x028
def PAIR_SEED_LO : Nat := 0x02C
def PAIR_SEED_HI : Nat := 0x030
def SWAP_S_LO : Nat := 0x034
def SWAP_S_HI : Nat := 0x038
def SWAP_NS : Nat := 0x03C
def SWAP_FRAC : Nat := 0x040
def REVERT_HOLD : Nat := 0x044
def DRILL_AGE : Nat := 0x048
def SWAP_COUNT : Nat := 0x04C
def CONFLICTS : Nat := 0x050
def COLD_TAKEOVERS : Nat := 0x054
def PATH_MISMATCHES : Nat := 0x058
def SAFE_ADDR_LO : Nat := 0x05C
def SAFE_ADDR_HI : Nat := 0x060
def PEER_ID0 : Nat := 0x064
def PEER_ID1 : Nat := 0x068
def PEER_ID2 : Nat := 0x06C
def PEER_ID3 : Nat := 0x070
def TSX_CTRL : Nat := 0x1020
def PEER_ASYM : Nat := 0x1024
def PEER_LIMIT : Nat := 0x1028
def PEER_OFFSET : Nat := 0x102C
def PEER_DELAY : Nat := 0x1030
def PAIR_TIME : Nat := 0x1034
def LANE_STATUS : Nat := 0x1038
def TX_BACKLOG : Nat := 0x103C
def TX_FRAMES : Nat := 0x1040
def RX_FRAMES : Nat := 0x1044
def RETX_COUNT : Nat := 0x1048
def CRC_ERRORS : Nat := 0x104C
def TSX_DROPS : Nat := 0x1050
def BREAKS : Nat := 0x1054
def SYNC_GEN : Nat := 0x2020
def DIGEST_SKIP : Nat := 0x2024
def MISMATCH_INFO : Nat := 0x2028
def MISMATCH_FRAME : Nat := 0x202C
def LAG_MAX : Nat := 0x2030
def COPY_DONE : Nat := 0x2034
def COPY_TOTAL : Nat := 0x2038
def LOCAL_PAGES (i : Nat) : Nat := 0x2040 + 0x4 * i
def LOCAL_RANGES_LO : Nat := 0x20C0
def LOCAL_RANGES_HI : Nat := 0x20C4
def MIR_BASE_LO (i : Nat) : Nat := 0x3400 + 0x10 * i
def MIR_BASE_HI (i : Nat) : Nat := 0x3404 + 0x10 * i
def MIR_SIZE (i : Nat) : Nat := 0x3408 + 0x10 * i
def MIR_FLAGS (i : Nat) : Nat := 0x340C + 0x10 * i
def SWAP_SWATH : Field := (11, 8)
def AUTO_RESYNC : Field := (3, 3)
def REVERT_EN : Field := (2, 2)
def FAST_EN : Field := (1, 1)
def CLAIM_EN : Field := (0, 0)
def SAFE_STORE : Field := (4, 4)
def FALLBACK_END : Field := (3, 3)
def DETACH : Field := (2, 2)
def RESYNC : Field := (1, 1)
def SWAP : Field := (0, 0)
def ALIGNED : Field := (7, 7)
def DIFFERS : Field := (6, 6)
def DETACHED : Field := (5, 5)
def PEER_RAIL : Field := (2, 2)
def OWN_RAIL : Field := (1, 1)
def ROLE_SEL : Field := (0, 0)
def S_DRILL_DUE : Field := (25, 25)
def S_FALLBACK : Field := (24, 24)
def S_LINK_STATE : Field := (23, 22)
def S_SYNC_STATE : Field := (21, 19)
def S_STILE_STATE : Field := (18, 17)
def S_ROLE : Field := (16, 16)
def F_SAFE_BAD : Nat := 30
def F_ALIGN_LOST : Nat := 29
def F_COLD_TAKEOVER : Nat := 28
def F_PATH_FAULT : Nat := 27
def F_SWAP_FAIL : Nat := 26
def F_BREAK : Nat := 25
def F_LINK_LOST : Nat := 24
def F_LAG : Nat := 23
def F_DIGEST_MISMATCH : Nat := 22
def F_REPLICA_WRITE : Nat := 21
def F_PARTNER_NEW : Nat := 20
def F_ROLE_CLASH : Nat := 19
def F_STILE_MISMATCH : Nat := 18
def F_STILE_CONFLICT : Nat := 17
def F_BAD_VALUE : Nat := 16
end Red

namespace Evr
/-! R603 to R605 -/
def EVR_CTRL : Nat := 0x020
def EVR_ACTION : Nat := 0x024
def WR_DRAWER : Nat := 0x028
def NEXT_SEQ : Nat := 0x02C
def RECORDS : Nat := 0x030
def DROPPED_TOTAL : Nat := 0x034
def LOST_TOTAL : Nat := 0x038
def FROZEN_EVENTS : Nat := 0x03C
def TORN_FOUND : Nat := 0x040
def PEER_REC_SEQ : Nat := 0x044
def PEER_REC_CODE : Nat := 0x048
def TRIG_ADDR : Nat := 0x04C
def TRIG_DATA : Nat := 0x050
def PENDING_PEAK : Nat := 0x054
def STAT_CTRL (i : Nat) : Nat := 0x1400 + 0x40 * i
def STAT_Q (i k : Nat) : Nat := 0x1404 + 0x40 * i + 8 * k
def STAT_BASE (i k : Nat) : Nat := 0x1408 + 0x40 * i + 8 * k
def STAT_RECORDS (i : Nat) : Nat := 0x142C + 0x40 * i
def S_FROZEN : Field := (16, 16)
def S_WRITING : Field := (17, 17)
def S_ERASING : Field := (18, 18)
def S_SCANNING : Field := (19, 19)
def F_BAD_VALUE : Nat := 16
def F_LOST : Nat := 17
def F_DROPPED : Nat := 18
def F_TORN : Nat := 19
def F_GUARD_REFUSED : Nat := 20
def F_FREEZE_EXPIRED : Nat := 21
end Evr

namespace Pmc
/-! R606, R607 -/
def PMC_CTRL : Nat := 0x020
def DUMP_PERIOD : Nat := 0x024
def DUMP_BASE_LO : Nat := 0x028
def DUMP_BASE_HI : Nat := 0x02C
def DUMP_SIZE : Nat := 0x030
def DUMP_RANGE : Nat := 0x034
def DUMP_WR : Nat := 0x038
def DUMP_SEQ : Nat := 0x03C
def DUMP_SKIPS : Nat := 0x040
def TRACE_BASE_LO : Nat := 0x044
def TRACE_BASE_HI : Nat := 0x048
def TRACE_SIZE : Nat := 0x04C
def TRACE_WR : Nat := 0x050
def TRACE_SEQ : Nat := 0x054
def TAG_DROPS : Nat := 0x058
def INFO_SEL : Nat := 0x05C
def INFO : Nat := 0x060
def OVF (i : Nat) : Nat := 0x1100 + 0x4 * i
def CNT_LO (i k : Nat) : Nat := 0x4400 + 0x1000 * i + 8 * k
def CNT_HI (i k : Nat) : Nat := 0x4404 + 0x1000 * i + 8 * k
def F_BAD_VALUE : Nat := 16
end Pmc

end Sys2Proof.Machine
end

