-- ==== Sys2Proof/Machine/RegRow.lean ====
section
/-!
DEFINITION. One row of a register table (R11, R12, R62, R67) and the look-up of the row that an offset names.
-/
namespace Sys2Proof.Machine

/-- How a write reaches the live copy: `plain` at once; `shadowed` and `stopOnly` as R62 and R67 provide. -/
inductive RegClass where
  | plain | shadowed | stopOnly
  deriving DecidableEq, Repr

/-- A register, or `count` of them at `stride`: its offset in the commit group, the RW bits, the RWS bits, the reset
value, its class, and whether it has SET and CLR aliases (SC, R13). -/
structure RegRow where
  off : Nat
  count : Nat
  stride : Nat
  rw : Word
  rws : Word
  reset : Word
  cls : RegClass
  sc : Bool
  deriving DecidableEq, Repr

def RegRow.plain (off count stride : Nat) (rw rws reset : Word) (sc : Bool) : RegRow :=
  ⟨off, count, stride, rw, rws, reset, .plain, sc⟩
def RegRow.shad (off count stride : Nat) (rw rws reset : Word) (sc : Bool) : RegRow :=
  ⟨off, count, stride, rw, rws, reset, .shadowed, sc⟩
def RegRow.stop (off count stride : Nat) (rw rws reset : Word) (sc : Bool) : RegRow :=
  ⟨off, count, stride, rw, rws, reset, .stopOnly, sc⟩

/-- The row covers group offset `o`. -/
def RegRow.covers (r : RegRow) (o : Nat) : Bool :=
  decide (r.off ≤ o) && decide ((o - r.off) % r.stride = 0) && decide ((o - r.off) / r.stride < r.count)

/-- The first row that covers group offset `o`. -/
def RegRow.find (o : Nat) : List RegRow → Option RegRow
  | [] => none
  | r :: t => if r.covers o then some r else RegRow.find o t

end Sys2Proof.Machine
end

