-- ==== Sys2Proof/Machine/RegTable.lean ====
section
/-!
DEFINITION. The register tables of every block as data: for each register its offset from the first page of its commit
group, how many there are at which stride, the bits an own-address write sets (RW), the bits that only hardware sets
and a CLR alias clears (RWS), the reset value, the class of R62 and R67, and whether it is an SC register (R13).
A register that is RO, WO or W1P has no RW bits.
-/
namespace Sys2Proof.Machine

def Sys.rows0 : List RegRow := [
  .plain 0x020 1 0x4 0x00000000 0x00000000 0x94840042 false,
  .plain 0x024 1 0x4 0x00000000 0x00000000 0x00000000 false,
  .shad 0x028 1 0x4 0xFFFF0001 0x00000000 0x00000000 false,
  .plain 0x02C 1 0x4 0x00000000 0x00000000 0x00000001 false,
  .plain 0x030 1 0x4 0x00000000 0x00000000 0x00000000 false,
  .plain 0x034 1 0x4 0x00000000 0x00000000 0x00000000 false,
  .plain 0x038 1 0x4 0x8000FFFF 0x00000000 0x00000000 false,
  .plain 0x03C 1 0x4 0x00000000 0x00000000 0x00000000 false]
/-- The block registers of Sys (R706, R707). -/
def Sys.rows : List RegRow := Sys.rows0

def Clk.rows0 : List RegRow := [
  .plain 0x020 1 0x4 0x00000001 0x00000000 0x00000000 false,
  .plain 0x024 1 0x4 0x00000000 0x00000000 0x00000000 false,
  .plain 0x028 1 0x4 0x00000000 0x00000000 0x00000000 false,
  .plain 0x02C 1 0x4 0x00000000 0x00000000 0x00000000 false,
  .plain 0x030 1 0x4 0x00000000 0x00000000 0x00000000 false,
  .plain 0x034 1 0x4 0x00000000 0x00000000 0x00000000 false]
/-- The block registers of Clk (R36). -/
def Clk.rows : List RegRow := Clk.rows0

def Pwr.rows0 : List RegRow := [
  .plain 0x020 1 0x4 0x00000000 0x00000000 0x00000000 false,
  .shad 0x024 1 0x4 0x0FFFFF01 0x00000000 0x01F46400 false,
  .shad 0x028 1 0x4 0x0000FFFF 0x00000000 0x000007D0 false,
  .plain 0x02C 1 0x4 0x00000000 0x00000000 0x00000000 false,
  .plain 0x030 1 0x4 0x00000000 0x00000000 0x00000000 false,
  .plain 0x034 1 0x4 0x00000000 0x00000000 0x00000000 false,
  .plain 0x038 1 0x4 0x00000000 0x00000000 0x00000000 false,
  .plain 0x03C 1 0x4 0x00000000 0x00000000 0x00000000 false]
/-- The block registers of Pwr (R625, R626). -/
def Pwr.rows : List RegRow := Pwr.rows0

def Hth.rows0 : List RegRow := [
  .plain 0x020 1 0x4 0x00000000 0x00000000 0x00000000 false,
  .plain 0x024 1 0x4 0x00000000 0x00000000 0x00000000 false,
  .plain 0x028 1 0x4 0x00070F0F 0x00000000 0x00000000 false,
  .plain 0x02C 1 0x4 0xFFFFFFFF 0x00000000 0x00000000 false,
  .plain 0x030 1 0x4 0x0000FFFF 0x00000000 0x00000000 false,
  .plain 0x034 1 0x4 0x0000001F 0x00000000 0x00000002 false,
  .plain 0x038 1 0x4 0x00000000 0x00000000 0x00000000 false,
  .plain 0x03C 1 0x4 0x00000000 0x00000000 0x00000000 false,
  .plain 0x040 1 0x4 0x00000000 0x00000000 0x00000000 false,
  .plain 0x044 1 0x4 0x00000000 0x00000000 0x00000000 false,
  .plain 0x048 1 0x4 0x00000000 0x00000000 0x00000000 false,
  .plain 0x04C 1 0x4 0x00000000 0x00000000 0x00000000 false]
/-- The block registers of Hth (R628, R629). -/
def Hth.rows : List RegRow := Hth.rows0

def Thm.rows0 : List RegRow := [
  .shad 0x020 1 0x4 0x00010F03 0x00000000 0x00010803 false,
  .shad 0x024 1 0x4 0x000000FF 0x00000000 0x00000000 false,
  .plain 0x028 1 0x4 0x00000000 0x00000000 0x00008000 false,
  .plain 0x02C 1 0x4 0x00000000 0x00000000 0x80008000 false,
  .plain 0x030 1 0x4 0x00000000 0x00000000 0x80008000 false,
  .plain 0x034 1 0x4 0x00000000 0x00000000 0x80008000 false,
  .plain 0x038 1 0x4 0x00000000 0x00000000 0x00008000 false,
  .plain 0x03C 1 0x4 0x00000000 0x00000000 0x00000000 false,
  .plain 0x040 1 0x4 0x00000000 0x00000000 0x00000000 false,
  .plain 0x044 1 0x4 0x00000000 0x00000000 0x00000000 false,
  .plain 0x048 1 0x4 0x000003FF 0x00000000 0x00000000 false,
  .plain 0x04C 1 0x4 0x00000000 0x00000000 0x00008000 false,
  .plain 0x050 1 0x4 0x00000000 0x00000000 0x00FF8000 false,
  .plain 0x054 1 0x4 0x00000000 0x00000000 0x00000000 false]
/-- The block registers of Thm (R662, R663). -/
def Thm.rows : List RegRow := Thm.rows0

def Cal.rows0 : List RegRow := [
  .shad 0x020 1 0x4 0x0000000F 0x00000000 0x0000000C false,
  .plain 0x024 1 0x4 0x00000000 0x00000000 0x00000000 false,
  .shad 0x028 1 0x4 0x000003FF 0x00000000 0x00000064 false,
  .shad 0x02C 1 0x4 0x0000FFFF 0x00000000 0x0000000A false,
  .plain 0x030 1 0x4 0x00000000 0x00000000 0x00000000 false,
  .plain 0x034 1 0x4 0x00000000 0x00000000 0xFFFFFFFF false,
  .plain 0x038 1 0x4 0x00000000 0x00000000 0x00000000 false,
  .plain 0x03C 1 0x4 0x00000000 0x00000000 0xFFFFFFFF false,
  .shad 0x040 1 0x4 0xFFFFFFFF 0x00000000 0x000007D0 false,
  .plain 0x044 1 0x4 0x00000000 0x00000000 0x00000000 false,
  .plain 0x048 1 0x4 0x00000000 0x00000000 0x00000000 false,
  .plain 0x04C 1 0x4 0x00000000 0x00000000 0x00000000 false,
  .plain 0x050 1 0x4 0x00000000 0x00000000 0x00000000 false,
  .plain 0x054 1 0x4 0x00000000 0x00000000 0x00000000 false,
  .shad 0x058 1 0x4 0x00FF7F03 0x00000000 0x00054002 false,
  .shad 0x05C 1 0x4 0x03FF03FF 0x00000000 0x0384028A false,
  .plain 0x060 1 0x4 0x00000000 0x00000000 0x000002EE false,
  .plain 0x064 1 0x4 0x00000000 0x00000000 0x00000000 false,
  .plain 0x068 1 0x4 0x00000000 0x00000000 0xFFFFFFFF false,
  .plain 0x06C 1 0x4 0x00000000 0x00000000 0x000000FF false,
  .shad 0x070 1 0x4 0xFFFFFFFF 0x00000000 0x003C5A28 false,
  .plain 0x074 1 0x4 0x00000000 0x00000000 0x00000000 false,
  .plain 0x078 1 0x4 0x00000000 0x00000000 0x00000000 false,
  .plain 0x07C 1 0x4 0x00000000 0x00000000 0x00000000 false]
def Cal.rows1 : List RegRow := [
  .plain 0x080 1 0x4 0x000F7F07 0x00000000 0x00000000 false,
  .plain 0x084 1 0x4 0xFFFFFFFF 0x00000000 0x00000000 false]
/-- The block registers of Cal (R665, R666). -/
def Cal.rows : List RegRow := Cal.rows0 ++ Cal.rows1

def Fwu.rows0 : List RegRow := [
  .plain 0x020 1 0x4 0x00000033 0x00000000 0x00000003 false,
  .plain 0x024 1 0x4 0x00000000 0x00000000 0x00000000 false,
  .plain 0x028 1 0x4 0xFFFFFF00 0x00000000 0x00000000 false,
  .plain 0x02C 1 0x4 0x000000FF 0x00000000 0x00000000 false,
  .plain 0x030 1 0x4 0x007FFFFF 0x00000000 0x00000000 false,
  .plain 0x034 1 0x4 0xFFFFFFFF 0x00000000 0x00000000 false,
  .plain 0x038 1 0x4 0x0000FFFF 0x00000000 0x00000000 false,
  .plain 0x03C 1 0x4 0x3FFFFFFF 0x00000000 0x00000000 false,
  .plain 0x040 1 0x4 0x00000000 0x00000000 0x00000000 false,
  .plain 0x044 1 0x4 0x00000000 0x00000000 0x00000000 false,
  .plain 0x048 1 0x4 0x00000000 0x00000000 0x00000000 false,
  .plain 0x04C 1 0x4 0x00000000 0x00000000 0x00000000 false,
  .plain 0x050 1 0x4 0x00000000 0x00000000 0x00000000 false,
  .plain 0x054 1 0x4 0x00000000 0x00000000 0x00000000 false,
  .plain 0x058 1 0x4 0x00000033 0x00000000 0x00000000 false,
  .plain 0x05C 8 0x4 0x00000000 0x00000000 0x00000000 false,
  .plain 0x07C 12 0x4 0xFFFFFFFF 0x00000000 0x00000000 false,
  .plain 0x0AC 1 0x4 0x00000000 0x00000000 0x00000011 false,
  .plain 0x0B0 4 0x4 0x00000000 0x00000000 0x00000000 false,
  .plain 0x0C0 4 0x4 0x00000000 0x00000000 0x00000000 false]
/-- The block registers of Fwu (R694, R695). -/
def Fwu.rows : List RegRow := Fwu.rows0

def Icu.rows0 : List RegRow := [
  .plain 0x020 1 0x4 0x00000000 0x00000000 0x00000000 false,
  .plain 0x040 16 0x4 0x00000000 0xFFFFFFFF 0x00000000 true,
  .plain 0x080 16 0x4 0xFFFFFFFF 0x00000000 0x00000000 true,
  .plain 0x0C0 16 0x4 0x00000000 0x00000000 0x00000000 false,
  .plain 0x300 16 0x4 0xFFFFFFFF 0x00000000 0x00000000 false,
  .plain 0x340 2 0x4 0x00000000 0x00000000 0x00000000 false,
  .plain 0x400 8 0x20 0x0000000F 0x00000000 0x00000000 false,
  .plain 0x404 8 0x20 0x00000000 0x00000000 0x000003FF false,
  .plain 0x408 8 0x20 0x00000000 0x00000000 0x00000000 false,
  .plain 0x40C 8 0x20 0x00000000 0x00000000 0x000003FF false,
  .plain 0x1400 256 0x4 0x0001FF0F 0x00000000 0x00000000 false,
  .plain 0x2400 256 0x4 0x0001FF0F 0x00000000 0x00000000 false]
/-- The block registers of Icu (R519, R520, R522). -/
def Icu.rows : List RegRow := Icu.rows0

def Tln.rows0 : List RegRow := [
  .plain 0x020 1 0x4 0x00000000 0x00000000 0x00000000 false,
  .plain 0x024 1 0x4 0x00000000 0x00000000 0x00000000 false,
  .plain 0x028 1 0x4 0x00000000 0x00000000 0x00000000 false,
  .plain 0x02C 1 0x4 0x00000000 0x00000000 0x00000000 false,
  .plain 0x030 1 0x4 0x00000000 0x00000000 0xFFFFFFFF false,
  .plain 0x034 1 0x4 0x00000000 0x00000000 0x00000000 false,
  .plain 0x038 1 0x4 0x00000000 0x00000000 0x66666666 false,
  .plain 0x03C 1 0x4 0x00000000 0x00000000 0x00006666 false,
  .shad 0x040 1 0x4 0xFFFFFFFF 0x00000000 0x66666666 false,
  .shad 0x044 1 0x4 0x0000FFFF 0x00000000 0x00006666 false,
  .shad 0x048 1 0x4 0x00000F1F 0x00000000 0x00000810 false,
  .plain 0x04C 1 0x4 0x00000000 0x00000000 0x00000000 false,
  .plain 0x050 1 0x4 0xFFFFFFFF 0x00000000 0x00000000 false,
  .plain 0x054 1 0x4 0x0000FFFF 0x00000000 0x00000000 false,
  .plain 0x058 1 0x4 0x3FFFFFFF 0x00000000 0x00000000 false,
  .plain 0x05C 1 0x4 0x000000FF 0x00000000 0x00000000 false,
  .plain 0x060 1 0x4 0xFFFFFFFF 0x00000000 0x00000000 false,
  .shad 0x064 1 0x4 0xFFFFFFFF 0x00000000 0x000186A0 false,
  .shad 0x068 1 0x4 0xFFFFFFFF 0x00000000 0x000F4240 false,
  .shad 0x06C 1 0x4 0x0000FFFF 0x00000000 0x00004000 false,
  .shad 0x070 1 0x4 0x0000FFFF 0x00000000 0x00000400 false,
  .shad 0x074 1 0x4 0xFFFFFFFF 0x00000000 0x00000064 false,
  .shad 0x078 1 0x4 0xFFFFFFFF 0x00000000 0x000003E8 false,
  .shad 0x07C 1 0x4 0xFFFFFFFF 0x00000000 0x00002710 false]
def Tln.rows1 : List RegRow := [
  .plain 0x080 1 0x4 0x00000000 0x00000000 0x00000000 false,
  .plain 0x084 1 0x4 0x00000000 0x00000000 0x00000000 false,
  .shad 0x088 1 0x4 0x0003FFFF 0x00000000 0x00000025 false,
  .shad 0x08C 1 0x4 0xFFFFFFFF 0x00000000 0x00000000 false,
  .shad 0x090 1 0x4 0x0000FFFF 0x00000000 0x00000000 false]
/-- The block registers of Tln (R105 to R109). -/
def Tln.rows : List RegRow := Tln.rows0 ++ Tln.rows1

def SynIn.rows0 : List RegRow := [
  .stop 0x020 1 0x4 0x0000000F 0x00000000 0x00000000 false,
  .stop 0x024 1 0x4 0xFFFFFFFF 0x00000000 0x00000000 false,
  .stop 0x028 1 0x4 0xFFFFFFFF 0x00000000 0x00000000 false,
  .stop 0x02C 1 0x4 0xFFFFFFFF 0x00000000 0x00000465 false,
  .shad 0x030 1 0x4 0xFFFFFFFF 0x00000000 0x00000000 false,
  .shad 0x034 1 0x4 0xFFFFFFFF 0x00000000 0x00000000 false,
  .shad 0x038 1 0x4 0x000000FF 0x00000000 0x00000002 false,
  .shad 0x03C 1 0x4 0x0000FFFF 0x00000000 0x00000000 false,
  .plain 0x040 1 0x4 0x00000000 0x00000000 0x00000000 false,
  .plain 0x044 1 0x4 0x00000000 0x00000000 0x00000000 false,
  .plain 0x048 1 0x4 0x00000000 0x00000000 0x00000000 false,
  .plain 0x04C 1 0x4 0x00000000 0x00000000 0x00000000 false,
  .plain 0x050 1 0x4 0x00000000 0x00000000 0x00000000 false,
  .plain 0x054 1 0x4 0x00000000 0x00000000 0x00000000 false,
  .plain 0x060 1 0x4 0x00000000 0x00000000 0x00000000 false,
  .plain 0x064 1 0x4 0x00000000 0x00000000 0x00000000 false]
/-- The block registers of SynIn (R112, R113, R116). -/
def SynIn.rows : List RegRow := SynIn.rows0

def SynOut.rows0 : List RegRow := [
  .stop 0x020 1 0x4 0x0000000F 0x00000000 0x00000004 false,
  .stop 0x024 1 0x4 0xFFFFFFFF 0x00000000 0x00000001 false,
  .stop 0x028 1 0x4 0xFFFFFFFF 0x00000000 0x00000019 false,
  .shad 0x02C 1 0x4 0xFFFFFFFF 0x00000000 0x00000000 false,
  .shad 0x030 1 0x4 0xFFFFFFFF 0x00000000 0x00000000 false,
  .shad 0x034 1 0x4 0xFFFFFFFF 0x00000000 0x00989680 false,
  .shad 0x038 1 0x4 0x0000000F 0x00000000 0x00000000 false,
  .shad 0x03C 1 0x4 0xFFFFFFFF 0x00000000 0x00000000 false,
  .plain 0x040 1 0x4 0x00000000 0x00000000 0x00000000 false]
/-- The block registers of SynOut (R114, R115, R116). -/
def SynOut.rows : List RegRow := SynOut.rows0

def Swt.rows0 : List RegRow := [
  .stop 0x020 1 0x4 0x00033F37 0x00000000 0x00010000 false,
  .stop 0x024 1 0x4 0x03FFFFFF 0x00000000 0x00FE502A false,
  .stop 0x028 1 0x4 0xFFFFFFFF 0x00000000 0x00030002 false,
  .stop 0x02C 1 0x4 0x0FFF0FFF 0x00000000 0x04380465 false,
  .shad 0x030 1 0x4 0x07FFFFFF 0x00000000 0x00FE502A false,
  .shad 0x034 1 0x4 0x07FFFFFF 0x00000000 0x00FE502B false,
  .shad 0x038 1 0x4 0xFFFFFFFF 0x00000000 0x00000000 false,
  .shad 0x03C 1 0x4 0x00000FFF 0x00000000 0x00000000 false,
  .shad 0x040 1 0x4 0x07FFFFFF 0x00000000 0x00000000 false,
  .shad 0x044 1 0x4 0x0000001F 0x00000000 0x00000000 false,
  .plain 0x048 1 0x4 0x00000000 0x00000000 0x00000000 false,
  .plain 0x04C 1 0x4 0x00000000 0x00000000 0x00000FA0 false,
  .plain 0x050 1 0x4 0x00000000 0x00000000 0x00000000 false,
  .plain 0x054 1 0x4 0x00000000 0x00000000 0x00000000 false,
  .plain 0x058 1 0x4 0x00000000 0x00000000 0x00000000 false,
  .plain 0x05C 1 0x4 0x00000000 0x00000000 0x00000000 false,
  .plain 0x060 1 0x4 0x00000000 0x00000000 0x00000000 false,
  .plain 0x064 1 0x4 0x00000000 0x00000000 0x00000000 false,
  .plain 0x068 1 0x4 0x00000000 0x00000000 0x00000000 false,
  .plain 0x06C 1 0x4 0x00000000 0x00000000 0x00000000 false,
  .plain 0x070 1 0x4 0x00000000 0x00000000 0x00000000 false,
  .plain 0x074 1 0x4 0x00000000 0x00000000 0x00000000 false,
  .plain 0x078 1 0x4 0x00000000 0x00000000 0x00000000 false,
  .plain 0x07C 1 0x4 0x00000000 0x00000000 0x00000000 false]
def Swt.rows1 : List RegRow := [
  .plain 0x080 1 0x4 0x00000000 0x00000000 0x00000000 false,
  .plain 0x084 1 0x4 0x00000000 0x00000000 0x00000000 false,
  .plain 0x088 1 0x4 0x00000000 0x00000000 0x00000000 false,
  .shad 0x1400 8 0x20 0x000000F3 0x00000000 0x000000F0 false,
  .shad 0x1404 8 0x20 0x3FFF3FFF 0x00000000 0x00000000 false,
  .shad 0x1408 8 0x20 0x3FFF3FFF 0x00000000 0x00000000 false,
  .shad 0x140C 8 0x20 0xFFFFFFFF 0x00000000 0x00000000 false,
  .plain 0x1410 8 0x20 0x00000000 0x00000000 0x00000000 false,
  .plain 0x1414 8 0x20 0x00000000 0x00000000 0x00000000 false,
  .plain 0x1418 8 0x20 0x00000000 0x00000000 0x00000000 false,
  .shad 0x1020 1 0x4 0x00007FFF 0x00000000 0x00004000 false]
/-- The block registers of Swt (R273 to R277). -/
def Swt.rows : List RegRow := Swt.rows0 ++ Swt.rows1

def Cmp.rows0 : List RegRow := [
  .shad 0x020 1 0x4 0x00000003 0x00000000 0x00000003 false,
  .shad 0x024 1 0x4 0x0000FFFF 0x00000000 0x00000000 false,
  .plain 0x028 1 0x4 0x00000000 0x00000000 0x00000000 false,
  .plain 0x02C 1 0x4 0x00000000 0x00000000 0x00000000 false,
  .plain 0x030 1 0x4 0x00000000 0x00000000 0x00000000 false,
  .plain 0x034 1 0x4 0x00000000 0x00000000 0x00000000 false,
  .plain 0x038 1 0x4 0x00000000 0x00000000 0x00000000 false,
  .plain 0x03C 1 0x4 0x00000000 0x00000000 0x00000000 false,
  .plain 0x040 1 0x4 0x00000000 0x00000000 0x00000000 false,
  .shad 0x1400 4 0x40 0x00030F73 0x00000000 0x00020000 false,
  .shad 0x1404 4 0x40 0xFFFFFF00 0x00000000 0x00000000 false,
  .shad 0x1408 4 0x40 0x000000FF 0x00000000 0x00000000 false,
  .shad 0x140C 4 0x40 0x00FFFFFF 0x00000000 0x00000000 false,
  .shad 0x1410 4 0x40 0x0000FFFF 0x00000000 0x00000000 false,
  .shad 0x1414 4 0x40 0xFFFFFF00 0x00000000 0x00000000 false,
  .shad 0x1418 4 0x40 0x000000FF 0x00000000 0x00000000 false,
  .shad 0x141C 4 0x40 0xFFFFFF00 0x00000000 0x00000000 false,
  .shad 0x1420 4 0x40 0x000000FF 0x00000000 0x00000000 false,
  .shad 0x1424 4 0x40 0x0007FFFF 0x00000000 0x00000000 false,
  .shad 0x1428 4 0x40 0xFFFFFF00 0x00000000 0x00000000 false,
  .shad 0x142C 4 0x40 0x000000FF 0x00000000 0x00000000 false,
  .plain 0x1430 4 0x40 0x00000000 0x00000000 0x00000000 false,
  .plain 0x1020 1 0x4 0x80011FFF 0x00000000 0x00000000 false,
  .plain 0x1024 1 0x4 0x00000000 0x00000000 0x00000000 false]
def Cmp.rows1 : List RegRow := [
  .plain 0x1028 1 0x4 0x00000000 0x00000000 0x00000000 false,
  .plain 0x102C 1 0x4 0x00000000 0x0000000F 0x00000000 true,
  .plain 0x1030 1 0x4 0x00000000 0x00000000 0x00000000 false,
  .plain 0x1034 1 0x4 0x00000000 0x00000000 0x00000000 false,
  .plain 0x1038 1 0x4 0x00000000 0x00000000 0x00000000 false,
  .shad 0x1040 4 0x40 0x00001FFF 0x00000000 0x00000000 false,
  .plain 0x1044 4 0x40 0x00000000 0x00000000 0x00000000 false,
  .shad 0x1060 8 0x4 0xFFFFFFFF 0x00000000 0x00000000 false,
  .shad 0x10A0 8 0x4 0xFFFFFFFF 0x00000000 0x00000000 false,
  .shad 0x10E0 8 0x4 0xFFFFFFFF 0x00000000 0x00000000 false,
  .shad 0x1120 8 0x4 0xFFFFFFFF 0x00000000 0x00000000 false,
  .shad 0x2400 128 0x4 0x0007FFFF 0x00000000 0x00000000 false,
  .shad 0x2600 128 0x4 0x0007FFFF 0x00000000 0x00000000 false,
  .shad 0x3400 128 0x4 0x0007FFFF 0x00000000 0x00000000 false,
  .shad 0x3600 128 0x4 0x0007FFFF 0x00000000 0x00000000 false,
  .shad 0x4400 16 0x20 0x0000000D 0x00000000 0x00000000 false,
  .shad 0x4404 16 0x20 0xFFFFFF00 0x00000000 0x00000000 false,
  .shad 0x4408 16 0x20 0x000000FF 0x00000000 0x00000000 false,
  .shad 0x440C 16 0x20 0x3FFF3FFF 0x00000000 0x00000000 false,
  .shad 0x4410 16 0x20 0x0003FFFF 0x00000000 0x00000000 false,
  .plain 0x4414 16 0x20 0x00000000 0x00000000 0x00000000 false,
  .plain 0x4418 16 0x20 0x00000000 0x00000000 0x00000000 false,
  .shad 0x5400 4 0x10 0x8000003F 0x00000000 0x00000000 false,
  .shad 0x5404 4 0x10 0xFFFFFFFF 0x00000000 0x00000000 false]
def Cmp.rows2 : List RegRow := [
  .shad 0x5408 4 0x10 0xFFFFFFFF 0x00000000 0x00000000 false,
  .plain 0x540C 4 0x10 0x00000000 0x00000000 0x00000000 false,
  .shad 0x6400 32 0x4 0xFFFFFFFF 0x00000000 0xFFFFFFFF false,
  .shad 0x6480 32 0x4 0xFFFFFFFF 0x00000000 0xFFFFFFFF false,
  .shad 0x6500 32 0x4 0xFFFFFFFF 0x00000000 0xFFFFFFFF false,
  .shad 0x6580 32 0x4 0xFFFFFFFF 0x00000000 0xFFFFFFFF false]
/-- The block registers of Cmp (R152 to R157, R193 to R196). -/
def Cmp.rows : List RegRow := Cmp.rows0 ++ Cmp.rows1 ++ Cmp.rows2

def Jsc.rows0 : List RegRow := [
  .shad 0x020 1 0x4 0x00000003 0x00000000 0x00000003 false,
  .shad 0x024 1 0x4 0xFFFFFFFF 0x00000000 0x01000000 false,
  .shad 0x028 1 0x4 0xFFFFFFFF 0x00000000 0x01000000 false,
  .shad 0x02C 1 0x4 0xFFFFFFFF 0x00000000 0x00000000 false,
  .shad 0x030 1 0x4 0xFFF00000 0x00000000 0x00000000 false,
  .shad 0x034 1 0x4 0x000000FF 0x00000000 0x00000000 false,
  .plain 0x038 1 0x4 0x00000000 0x00000000 0x00000000 false,
  .plain 0x03C 1 0x4 0x00000000 0x00000000 0x00000000 false,
  .plain 0x040 1 0x4 0x00000000 0x00000000 0x00000800 false,
  .plain 0x044 1 0x4 0x00000FFF 0x00000000 0x00000000 false,
  .plain 0x048 1 0x4 0x00000000 0x00000000 0x00000000 false,
  .plain 0x04C 1 0x4 0x00000000 0x00000000 0x00000000 false,
  .plain 0x050 1 0x4 0x000003FF 0x00000000 0x00000000 false,
  .plain 0x054 1 0x4 0x00000000 0x00000000 0x00000000 false,
  .plain 0x058 1 0x4 0x00000000 0x00000000 0x00000000 false,
  .plain 0x060 8 0x4 0x00000000 0x00000000 0x00000000 false,
  .plain 0x080 1 0x4 0x00000000 0x00000000 0x00000000 false,
  .plain 0x084 1 0x4 0x00000000 0x00000000 0x00000000 false,
  .plain 0x088 1 0x4 0x00000000 0x00000000 0x00000000 false,
  .plain 0x08C 1 0x4 0x00000000 0x00000000 0x00000000 false,
  .plain 0x090 1 0x4 0x00000000 0x00000000 0x00000000 false,
  .plain 0x094 8 0x4 0x00000000 0x00000000 0x00000000 false,
  .plain 0x0B4 1 0x4 0x00000000 0x00000000 0x00000000 false,
  .plain 0x0B8 1 0x4 0x00000000 0x00000000 0x00000000 false]
def Jsc.rows1 : List RegRow := [
  .shad 0x1400 8 0x40 0x00000F03 0x00000000 0x00000000 false,
  .shad 0x1404 8 0x40 0xFFFFFF00 0x00000000 0x00000000 false,
  .shad 0x1408 8 0x40 0x000000FF 0x00000000 0x00000000 false,
  .shad 0x140C 8 0x40 0x0001FFFF 0x00000000 0x00000000 false,
  .plain 0x1410 8 0x40 0x00000000 0x00000000 0x00000000 false,
  .shad 0x1414 8 0x40 0xFFFF8FFF 0x00000000 0x00000000 false,
  .shad 0x1418 8 0x40 0xFFFF8FFF 0x00000000 0x00000000 false,
  .plain 0x141C 8 0x40 0x00000000 0x00000000 0x00000000 false,
  .plain 0x1420 8 0x40 0x00000000 0x00000000 0x00000000 false,
  .plain 0x1424 8 0x40 0x00000000 0x00000000 0x00000000 false,
  .shad 0x2400 32 0x10 0x80000F1F 0x00000000 0x00000000 false,
  .plain 0x2404 32 0x10 0x00000000 0x00000000 0x00000000 false,
  .plain 0x2408 32 0x10 0x00000000 0x00000000 0x00000000 false,
  .plain 0x240C 32 0x10 0x00000000 0x00000000 0x00000000 false,
  .shad 0x3400 32 0x10 0x80000F1F 0x00000000 0x00000000 false,
  .plain 0x3404 32 0x10 0x00000000 0x00000000 0x00000000 false,
  .plain 0x3408 32 0x10 0x00000000 0x00000000 0x00000000 false,
  .plain 0x340C 32 0x10 0x00000000 0x00000000 0x00000000 false]
/-- The block registers of Jsc (R239 to R243). -/
def Jsc.rows : List RegRow := Jsc.rows0 ++ Jsc.rows1

def Fix.rows0 : List RegRow := [
  .shad 0x020 1 0x4 0xFFFFFF00 0x00000000 0x00000000 false,
  .shad 0x024 1 0x4 0x000000FF 0x00000000 0x00000000 false,
  .shad 0x028 1 0x4 0x0003FFFF 0x00000000 0x00000000 false,
  .shad 0x02C 1 0x4 0xFFFFFF00 0x00000000 0x00000000 false,
  .shad 0x030 1 0x4 0x000000FF 0x00000000 0x00000000 false,
  .shad 0x034 1 0x4 0x00001FFF 0x00000000 0x00000000 false,
  .shad 0x038 1 0x4 0xFFFFFF00 0x00000000 0x00000000 false,
  .shad 0x03C 1 0x4 0x000000FF 0x00000000 0x00000000 false,
  .shad 0x040 1 0x4 0xFFFFFF00 0x00000000 0x00000000 false,
  .shad 0x044 1 0x4 0x000000FF 0x00000000 0x00000000 false,
  .shad 0x048 1 0x4 0x0000FFFF 0x00000000 0x00000000 false,
  .plain 0x04C 1 0x4 0x00000000 0x00000000 0x00000000 false,
  .plain 0x050 1 0x4 0x00000000 0x00000000 0x00000000 false,
  .plain 0x054 1 0x4 0x00000000 0x00000000 0x00000000 false,
  .shad 0x1020 1 0x4 0x00000F01 0x00000000 0x00000000 false,
  .shad 0x1024 1 0x4 0x1FFFFFFF 0x00000000 0x00000001 false,
  .shad 0x1028 1 0x4 0xFFFFFF00 0x00000000 0x00000000 false,
  .shad 0x102C 1 0x4 0x000000FF 0x00000000 0x00000000 false,
  .shad 0x1030 1 0x4 0x00001FFF 0x00000000 0x000009C4 false,
  .plain 0x1034 1 0x4 0x00000000 0x00000000 0x00000000 false,
  .plain 0x1038 1 0x4 0x00000000 0x00000000 0x00000000 false,
  .plain 0x103C 1 0x4 0x00000000 0x00000000 0x00000000 false,
  .plain 0x1040 1 0x4 0x00000000 0x00000000 0x00000000 false,
  .plain 0x1044 1 0x4 0x00000000 0x00000000 0x00000000 false]
/-- The block registers of Fix (R391, R394). -/
def Fix.rows : List RegRow := Fix.rows0

def Pxp.rows0 : List RegRow := [
  .stop 0x020 1 0x4 0x000F3743 0x00000000 0x00000000 false,
  .stop 0x024 1 0x4 0x0077FFFF 0x00000000 0x00000000 false,
  .stop 0x028 1 0x4 0xFFFFFFFF 0x00000000 0x00000000 false,
  .stop 0x02C 1 0x4 0xFFFFFFFF 0x00000000 0x00000000 false,
  .stop 0x030 1 0x4 0xFFFFFFFF 0x00000000 0x00000000 false,
  .stop 0x034 1 0x4 0xFFFFFFFF 0x00000000 0x00000000 false,
  .stop 0x038 1 0x4 0x000003FF 0x00000000 0x00000224 false,
  .stop 0x03C 1 0x4 0x01FF01FF 0x00000000 0x00000000 false,
  .shad 0x040 1 0x4 0xFFFFFFFF 0x00000000 0x00000000 false,
  .shad 0x044 1 0x4 0x000000FF 0x00000000 0x00000000 false,
  .shad 0x048 1 0x4 0x000000FF 0x00000000 0x00000000 false,
  .stop 0x04C 1 0x4 0x00FFFFFF 0x00000000 0x00000000 false,
  .shad 0x050 1 0x4 0x00000101 0x00000000 0x00000000 false,
  .plain 0x054 1 0x4 0x00000000 0x00000000 0x00000000 false,
  .plain 0x058 1 0x4 0x00000000 0x00000000 0x00000000 false,
  .plain 0x05C 1 0x4 0x00000000 0x00000000 0x00000000 false,
  .plain 0x060 1 0x4 0x00000000 0x00000000 0x00000000 false,
  .plain 0x064 1 0x4 0x00000000 0x00000000 0x00000000 false,
  .plain 0x068 1 0x4 0x00000000 0x00000000 0x00000000 false,
  .plain 0x06C 1 0x4 0x00000000 0x00000000 0x00000000 false,
  .plain 0x070 1 0x4 0x00000000 0x00000000 0x00000000 false,
  .plain 0x074 1 0x4 0x00000000 0x00000000 0x00000000 false,
  .plain 0x078 1 0x4 0x00000000 0x00000000 0x00000000 false,
  .plain 0x07C 1 0x4 0x00000000 0x00000000 0x00000000 false]
def Pxp.rows1 : List RegRow := [
  .plain 0x080 1 0x4 0x00000000 0x00000000 0x00000000 false]
/-- The block registers of Pxp (R301 to R305). -/
def Pxp.rows : List RegRow := Pxp.rows0 ++ Pxp.rows1

def Dmx.rows0 : List RegRow := [
  .stop 0x020 1 0x4 0x000F1300 0x00000000 0x00000000 false,
  .stop 0x024 1 0x4 0x000FFFFF 0x00000000 0x0002AF80 false,
  .stop 0x028 1 0x4 0x000FFFFF 0x00000000 0x00002EE0 false,
  .stop 0x02C 1 0x4 0x000FFFFF 0x00000000 0x00000000 false,
  .stop 0x030 1 0x4 0x00FF03FF 0x00000000 0x00000200 false,
  .stop 0x034 1 0x4 0x00007FFF 0x00000000 0x00000000 false,
  .shad 0x038 1 0x4 0xFFFFFFFF 0x00000000 0x00000000 false,
  .shad 0x03C 1 0x4 0x000000FF 0x00000000 0x00000000 false,
  .shad 0x040 1 0x4 0x0000FF03 0x00000000 0x00006400 false,
  .shad 0x044 1 0x4 0x000007FF 0x00000000 0x000003E8 false,
  .shad 0x048 1 0x4 0x00000FFF 0x00000000 0x000003E8 false,
  .stop 0x04C 1 0x4 0x00000FFF 0x00000000 0x00000000 false,
  .shad 0x050 1 0x4 0x000FFFFF 0x00000000 0x0002AF80 false,
  .shad 0x054 1 0x4 0x000FFFFF 0x00000000 0x00004E20 false,
  .shad 0x058 1 0x4 0x000FFFFF 0x00000000 0x0002AF80 false,
  .shad 0x05C 1 0x4 0x00001FFF 0x00000000 0x00000AF0 false,
  .shad 0x060 1 0x4 0x00001FFF 0x00000000 0x000016A8 false,
  .shad 0x064 1 0x4 0x00007FFF 0x00000000 0x00000BB8 false,
  .plain 0x068 1 0x4 0xFFFFFFFF 0x00000000 0x00000000 false,
  .plain 0x06C 1 0x4 0x000000FF 0x00000000 0x00000000 false,
  .plain 0x070 1 0x4 0x000031FF 0x00000000 0x00000000 false,
  .plain 0x074 1 0x4 0xFFFFFFFF 0x00000000 0x00000000 false,
  .plain 0x078 1 0x4 0x000000FF 0x00000000 0x00000000 false,
  .plain 0x07C 1 0x4 0x00000000 0x00000000 0x00000000 false]
def Dmx.rows1 : List RegRow := [
  .plain 0x080 1 0x4 0x00000000 0x00000000 0x00000000 false,
  .plain 0x084 1 0x4 0x00000000 0x00000000 0x00000000 false,
  .plain 0x088 1 0x4 0x00000000 0x00000000 0x00000000 false,
  .plain 0x08C 1 0x4 0x00000000 0x00000000 0x00000000 false,
  .plain 0x090 1 0x4 0x00000000 0x00000000 0x00000000 false,
  .plain 0x094 1 0x4 0x00000000 0x00000000 0x00000000 false,
  .plain 0x098 1 0x4 0x00000000 0x00000000 0x00000000 false,
  .plain 0x09C 1 0x4 0x00000000 0x00000000 0x00000000 false,
  .plain 0x0A0 1 0x4 0x00000000 0x00000000 0x00000000 false,
  .plain 0x0A4 1 0x4 0x00000000 0x00000000 0x00000000 false,
  .plain 0x0A8 1 0x4 0x00000000 0x00000000 0x00000000 false,
  .plain 0x0AC 1 0x4 0x00000000 0x00000000 0x00000000 false]
/-- The block registers of Dmx (R325 to R327). -/
def Dmx.rows : List RegRow := Dmx.rows0 ++ Dmx.rows1

def Eth.rows0 : List RegRow := [
  .stop 0x020 1 0x4 0x3FFF003F 0x00000000 0x05F20000 false,
  .shad 0x024 1 0x4 0xFFFFFFFF 0x00000000 0x00000000 false,
  .shad 0x028 1 0x4 0x0000FFFF 0x00000000 0x00000000 false,
  .shad 0x02C 1 0x4 0xFFFF0003 0x00000000 0xFFFF0000 false,
  .shad 0x030 1 0x4 0xFFFFFFFF 0x00000000 0x004000C0 false,
  .stop 0x034 1 0x4 0x0000FF07 0x00000000 0x00000A00 false,
  .shad 0x038 1 0x4 0x07FFFFFF 0x00000000 0x000F4240 false,
  .plain 0x03C 1 0x4 0x00000000 0x00000000 0x00000000 false,
  .plain 0x040 1 0x4 0x00000000 0x00000F0F 0x00000000 true,
  .plain 0x044 1 0x4 0x00000000 0x00000000 0x00000000 false,
  .shad 0x1400 4 0x40 0x0000001F 0x00000000 0x00000000 false,
  .shad 0x1404 4 0x40 0xFFFFFF00 0x00000000 0x00000000 false,
  .shad 0x1408 4 0x40 0x000000FF 0x00000000 0x00000000 false,
  .shad 0x140C 4 0x40 0x00001FFF 0x00000000 0x00000010 false,
  .plain 0x1410 4 0x40 0x00000FFF 0x00000000 0x00000000 false,
  .plain 0x1414 4 0x40 0x00000000 0x00000000 0x00000000 false,
  .shad 0x1418 4 0x40 0xFFFF00FF 0x00000000 0x00000001 false,
  .plain 0x141C 4 0x40 0x00000000 0x00000000 0x00000000 false,
  .plain 0x1420 4 0x40 0x00000000 0x00000000 0x00000000 false,
  .plain 0x1424 4 0x40 0x00000000 0x00000000 0x00000000 false,
  .plain 0x1428 4 0x40 0x00000000 0x00000000 0x00000000 false,
  .plain 0x142C 4 0x40 0x00000000 0x00000000 0x00000000 false,
  .shad 0x2400 4 0x40 0x00000003 0x00000000 0x00000000 false,
  .shad 0x2404 4 0x40 0xFFFFFF00 0x00000000 0x00000000 false]
def Eth.rows1 : List RegRow := [
  .shad 0x2408 4 0x40 0x000000FF 0x00000000 0x00000000 false,
  .shad 0x240C 4 0x40 0x00001FFF 0x00000000 0x00000010 false,
  .plain 0x2410 4 0x40 0x00000FFF 0x00000000 0x00000000 false,
  .plain 0x2414 4 0x40 0x00000000 0x00000000 0x00000000 false,
  .shad 0x2418 4 0x40 0xFFFF00FF 0x00000000 0x00000001 false,
  .plain 0x241C 4 0x40 0x00000000 0x00000000 0x00000000 false,
  .plain 0x2420 4 0x40 0x00000000 0x00000000 0x00000000 false,
  .shad 0x2424 4 0x40 0x00007FFF 0x00000000 0x00000800 false,
  .plain 0x2428 4 0x40 0x00000000 0x00000000 0x00000000 false,
  .shad 0x2020 16 0x4 0x0707FFFF 0x00000000 0x00000000 false,
  .shad 0x2060 1 0x4 0x00000007 0x00000000 0x00000004 false,
  .plain 0x3020 1 0x4 0x00000000 0x00000000 0x00000000 false,
  .plain 0x3024 1 0x4 0x00000000 0x00000000 0x00000000 false,
  .plain 0x3028 1 0x4 0x00000000 0x00000000 0x00000000 false,
  .plain 0x302C 1 0x4 0x00000000 0x00000000 0x00000000 false,
  .plain 0x3030 1 0x4 0x00000000 0x00000000 0x00000000 false,
  .plain 0x3034 1 0x4 0x00000000 0x00000000 0x00000000 false,
  .plain 0x3038 1 0x4 0x00000000 0x00000000 0x00000000 false,
  .plain 0x303C 1 0x4 0x00000000 0x00000000 0x00000000 false,
  .plain 0x3040 1 0x4 0x00000000 0x00000000 0x00000000 false,
  .plain 0x3044 1 0x4 0x00000000 0x00000000 0x00000000 false,
  .plain 0x3048 1 0x4 0x00000000 0x00000000 0x00000000 false,
  .plain 0x304C 1 0x4 0x00000000 0x00000000 0x00000000 false,
  .plain 0x3050 1 0x4 0x00000000 0x00000000 0x00000000 false]
def Eth.rows2 : List RegRow := [
  .plain 0x3054 1 0x4 0x00000000 0x00000000 0x00000000 false,
  .plain 0x3058 1 0x4 0x00000000 0x00000000 0x00000000 false,
  .plain 0x305C 1 0x4 0x00000000 0x00000000 0x00000000 false,
  .plain 0x3060 1 0x4 0x00000000 0x00000000 0x00000000 false]
/-- The block registers of Eth (R358 to R361). -/
def Eth.rows : List RegRow := Eth.rows0 ++ Eth.rows1 ++ Eth.rows2

def Fld.rows0 : List RegRow := [
  .stop 0x020 1 0x4 0x000F001F 0x00000000 0x00000000 false,
  .stop 0x024 1 0x4 0xFFFFFFFF 0x00000000 0x00000000 false,
  .stop 0x028 1 0x4 0x0000FFFF 0x00000000 0x00000000 false,
  .stop 0x02C 1 0x4 0x00FFFFFF 0x00000000 0x00200800 false,
  .stop 0x030 1 0x4 0x0000FFFF 0x00000000 0x00008000 false,
  .shad 0x034 1 0x4 0x07FFFFFF 0x00000000 0x00000000 false,
  .shad 0x038 1 0x4 0xFFFFFF00 0x00000000 0x00000000 false,
  .shad 0x03C 1 0x4 0x000000FF 0x00000000 0x00000000 false,
  .plain 0x040 1 0x4 0x00000000 0x00000000 0x00000000 false,
  .plain 0x044 1 0x4 0x00000000 0x00000000 0x00000000 false,
  .plain 0x048 1 0x4 0x00000000 0x00000000 0x00000000 false,
  .plain 0x04C 1 0x4 0x00000000 0x00000000 0x00000000 false,
  .plain 0x050 1 0x4 0x00000000 0x00000000 0x00000000 false,
  .plain 0x054 1 0x4 0x00000000 0x00000000 0x00000000 false,
  .plain 0x058 1 0x4 0x00000000 0x00000000 0x00000000 false,
  .plain 0x05C 1 0x4 0x00000000 0x00000000 0x00000000 false,
  .plain 0x060 1 0x4 0x00000000 0x00000000 0x00000000 false,
  .plain 0x064 1 0x4 0x00000000 0x00000000 0x00000000 false]
/-- The block registers of Fld (R443, R444). -/
def Fld.rows : List RegRow := Fld.rows0

def Ntm.rows0 : List RegRow := [
  .shad 0x020 1 0x4 0x03FFFF03 0x00000000 0x007F0000 false,
  .shad 0x024 1 0x4 0xFFFFFFFF 0x00000000 0x00000000 false,
  .shad 0x028 1 0x4 0xFFFFFFFF 0x00000000 0x00000000 false,
  .shad 0x02C 1 0x4 0xFFFFFFFF 0x00000000 0x00000000 false,
  .shad 0x030 1 0x4 0xFFFFFFFF 0x00000000 0x00000000 false,
  .shad 0x034 1 0x4 0x0000FFFF 0x00000000 0x00000000 false,
  .shad 0x038 1 0x4 0xFFFFFF0F 0x00000000 0x03E80304 false,
  .plain 0x03C 1 0x4 0x00000000 0x00000000 0x00000000 false,
  .plain 0x040 1 0x4 0x00000000 0x00000000 0x00000000 false,
  .plain 0x044 1 0x4 0x00000000 0x00000000 0x00000000 false,
  .plain 0x048 1 0x4 0x00000000 0x00000000 0xFFFFFFFF false,
  .plain 0x04C 1 0x4 0x00000000 0x00000000 0x00000000 false,
  .plain 0x050 1 0x4 0x00000000 0x00000000 0x00000000 false,
  .plain 0x054 1 0x4 0x00000000 0x00000000 0x00000000 false,
  .plain 0x058 1 0x4 0x00000000 0x00000000 0x00000000 false,
  .plain 0x05C 1 0x4 0x00000000 0x00000000 0x00000000 false,
  .plain 0x060 1 0x4 0x00000000 0x00000000 0x00000000 false,
  .plain 0x064 1 0x4 0x00000000 0x00000000 0x00000000 false,
  .plain 0x068 1 0x4 0x00000000 0x00000000 0x00000000 false,
  .plain 0x06C 1 0x4 0x00000000 0x00000000 0x00000000 false,
  .plain 0x070 1 0x4 0x00000000 0x00000000 0x00000000 false,
  .shad 0x1400 4 0x80 0x00FFFF07 0x00000000 0x003DED00 false,
  .plain 0x1404 4 0x80 0x00000000 0x00000000 0x00000000 false,
  .shad 0x1408 4 0x80 0xFFFFFFFF 0x00000000 0x00000000 false]
def Ntm.rows1 : List RegRow := [
  .shad 0x140C 4 0x80 0x00FFFFFF 0x00000000 0x00000000 false,
  .shad 0x1410 4 0x80 0xFFFFFFFF 0x00000000 0x00000000 false,
  .shad 0x1414 4 0x80 0xFFFFFFFF 0x00000000 0x00000000 false,
  .shad 0x1418 4 0x80 0xFFFFFFC0 0x00000000 0x00000000 false,
  .shad 0x141C 4 0x80 0x00FF00FF 0x00000000 0x00000000 false,
  .plain 0x1420 4 0x80 0x00000000 0x00000000 0x00000000 false,
  .plain 0x1424 4 0x80 0x00000000 0x00000000 0x00000000 false,
  .plain 0x1428 4 0x80 0x00000000 0x00000000 0x00000000 false,
  .plain 0x142C 4 0x80 0x00000000 0x00000000 0x00000000 false,
  .plain 0x1430 4 0x80 0x00000000 0x00000000 0x00000000 false]
/-- The block registers of Ntm (R421 to R425). -/
def Ntm.rows : List RegRow := Ntm.rows0 ++ Ntm.rows1

def Br.rows0 : List RegRow := [
  .shad 0x3020 1 0x4 0x00070FFF 0x00000000 0x00000000 false,
  .shad 0x3024 1 0x4 0x0000003F 0x00000000 0x00000000 false,
  .shad 0x3028 1 0x4 0x0000003F 0x00000000 0x00000030 false,
  .shad 0x302C 1 0x4 0x0000FFFF 0x00000000 0x0000012C false,
  .plain 0x3030 1 0x4 0xFFFFFFFF 0x00000000 0x00000000 false,
  .plain 0x3034 1 0x4 0x0000FFFF 0x00000000 0x00000000 false,
  .plain 0x3038 1 0x4 0x8000003F 0x00000000 0x00000000 false,
  .plain 0x303C 1 0x4 0x00000000 0x00000000 0x00000000 false,
  .plain 0x3040 1 0x4 0x00000000 0x00000000 0x00000000 false,
  .plain 0x3044 1 0x4 0x00000000 0x00000000 0x00000000 false]
/-- The block registers of Br (R363). -/
def Br.rows : List RegRow := Br.rows0

def Str.rows0 : List RegRow := [
  .shad 0x020 1 0x4 0x00000001 0x00000000 0x00000000 false,
  .shad 0x024 1 0x4 0xFFFFFF00 0x00000000 0x00000000 false,
  .shad 0x028 1 0x4 0x000000FF 0x00000000 0x00000000 false,
  .shad 0x02C 1 0x4 0xFFFFFF00 0x00000000 0x00000000 false,
  .shad 0x030 1 0x4 0x000000FF 0x00000000 0x00000000 false,
  .shad 0x034 1 0x4 0xFFFFFF00 0x00000000 0x00000000 false,
  .shad 0x038 1 0x4 0x000000FF 0x00000000 0x00000000 false,
  .shad 0x03C 4 0x4 0xFFFFFFFF 0x00000000 0x00000000 false,
  .plain 0x04C 1 0x4 0x00000000 0x00000000 0x00000000 false,
  .plain 0x050 1 0x4 0x00000000 0x00000000 0x00000000 false,
  .plain 0x054 1 0x4 0x00000000 0x00000000 0x00000000 false,
  .plain 0x058 1 0x4 0x00000000 0x00000000 0x00000000 false,
  .shad 0x1020 16 0x8 0xFFFFFFFF 0x00000000 0x00000000 false,
  .shad 0x1024 16 0x8 0x000000FF 0x00000000 0x00000000 false]
/-- The block registers of Str (R392, R394). -/
def Str.rows : List RegRow := Str.rows0

def Ing.rows0 : List RegRow := [
  .stop 0x1400 8 0x40 0x0000F37F 0x00000000 0x00000000 false,
  .stop 0x1404 8 0x40 0xFFFFFFFF 0x00000000 0x00000000 false,
  .stop 0x1408 8 0x40 0xFFFFFFFF 0x00000000 0x00000000 false,
  .stop 0x140C 8 0x40 0xFFFFFFFF 0x00000000 0x00000000 false,
  .stop 0x1410 8 0x40 0x3FFF3FFF 0x00000000 0x00000000 false,
  .stop 0x1414 8 0x40 0xC07F3F3F 0x00000000 0x00000000 false,
  .stop 0x1418 8 0x40 0x00003F3F 0x00000000 0x00000000 false,
  .plain 0x141C 8 0x40 0x00000000 0x00000000 0x00000000 false,
  .plain 0x1420 8 0x40 0x00000000 0x00000000 0x00000000 false,
  .plain 0x1424 8 0x40 0x00000000 0x00000000 0x00000000 false,
  .plain 0x1428 8 0x40 0x00000000 0x00000000 0x00000000 false,
  .plain 0x142C 8 0x40 0x00000000 0x00000000 0x00000000 false]
/-- The block registers of Ing (R393, R394). -/
def Ing.rows : List RegRow := Ing.rows0

def Lmp.rows0 : List RegRow := [
  .stop 0x020 1 0x4 0x000007F7 0x00000000 0x00000700 false,
  .stop 0x024 1 0x4 0x01FF7FFF 0x00000000 0x00000000 false,
  .shad 0x028 1 0x4 0x0000FFFF 0x00000000 0x00000000 false,
  .shad 0x02C 1 0x4 0x0000FFFF 0x00000000 0x0000FFFF false,
  .shad 0x030 1 0x4 0x00FFFFFF 0x00000000 0x00000000 false,
  .shad 0x034 1 0x4 0x00000FFF 0x00000000 0x00000064 false,
  .shad 0x038 1 0x4 0x00000FFF 0x00000000 0x00000FA0 false,
  .shad 0x03C 1 0x4 0x00000FFF 0x00000000 0x00000064 false,
  .shad 0x040 1 0x4 0x000F07FF 0x00000000 0x000403E8 false,
  .plain 0x044 1 0x4 0x00000000 0x00000000 0x00000000 false,
  .plain 0x048 1 0x4 0x00000000 0x00000000 0x00000000 false,
  .plain 0x04C 1 0x4 0x00000000 0x00000000 0x00000000 false,
  .plain 0x050 1 0x4 0x00000000 0x00000000 0x00000000 false,
  .plain 0x054 1 0x4 0x00000000 0x00000000 0x00000000 false,
  .plain 0x058 1 0x4 0x00000000 0x00000000 0x00000000 false,
  .plain 0x05C 1 0x4 0x00000000 0x00000000 0x00000000 false,
  .plain 0x060 1 0x4 0x00000000 0x00000000 0x00000000 false]
/-- The block registers of Lmp (R478 to R480). -/
def Lmp.rows : List RegRow := Lmp.rows0

def Lcl.rows0 : List RegRow := [
  .stop 0x020 1 0x4 0x000F0037 0x00000000 0x00000000 false,
  .stop 0x024 1 0x4 0x00FFFFFF 0x00000000 0x000F4240 false,
  .shad 0x028 1 0x4 0xFFFFFFFF 0x00000000 0x00000000 false,
  .shad 0x02C 1 0x4 0x000000FF 0x00000000 0x00000000 false,
  .shad 0x030 1 0x4 0x0000FFFF 0x00000000 0x00000000 false,
  .shad 0x034 1 0x4 0x0000FFFF 0x00000000 0x000003E8 false,
  .shad 0x038 1 0x4 0xFFFFFFFF 0x00000000 0x06900550 false,
  .shad 0x03C 1 0x4 0x0000FFFF 0x00000000 0x00002000 false,
  .shad 0x040 1 0x4 0xFFFFFFFF 0x00000000 0x00A007D0 false,
  .stop 0x044 1 0x4 0x0000FFFF 0x00000000 0x00004083 false,
  .stop 0x048 1 0x4 0x00FFFFFF 0x00000000 0x00002710 false,
  .plain 0x04C 1 0x4 0x00000000 0x00000000 0x00008000 false,
  .plain 0x050 1 0x4 0x00000000 0x00000000 0x00008000 false,
  .plain 0x054 1 0x4 0x00000000 0x00000000 0x00000000 false,
  .plain 0x058 1 0x4 0x00000000 0x00000000 0x00000000 false,
  .shad 0x100 8 0x10 0x0FFFFF01 0x00000000 0x00000000 false,
  .plain 0x104 8 0x10 0x00000000 0x00000000 0x00000000 false,
  .shad 0x400 256 0x4 0xFFFFFFFF 0x00000000 0x00000000 false]
/-- The block registers of Lcl (R474 to R476). -/
def Lcl.rows : List RegRow := Lcl.rows0

def Que.rows0 : List RegRow := [
  .plain 0x100 4 0x40 0x00000000 0x00000000 0x00000403 false,
  .plain 0x104 4 0x40 0x00000000 0x00000700 0x00000001 true,
  .plain 0x108 4 0x40 0x00000000 0x00000000 0x00000000 false,
  .plain 0x10C 4 0x40 0x00000000 0x00000000 0x00000000 false,
  .plain 0x110 4 0x40 0x00000000 0x00000000 0x00000000 false,
  .plain 0x114 4 0x40 0x00000000 0x00000000 0x00000000 false,
  .plain 0x118 4 0x40 0x00000000 0x00000000 0x00000000 false,
  .plain 0x11C 4 0x40 0x00000000 0x00000000 0x00000000 false,
  .plain 0x120 8 0x4 0x00000000 0x00000000 0x00000000 false,
  .plain 0x160 8 0x4 0x00000000 0x00000000 0x00000000 false,
  .plain 0x1A0 8 0x4 0x00000000 0x00000000 0x00000000 false,
  .plain 0x1E0 8 0x4 0x00000000 0x00000000 0x00000000 false]
/-- The block registers of Que (R495 to R498). -/
def Que.rows : List RegRow := Que.rows0

def Red.rows0 : List RegRow := [
  .shad 0x020 1 0x4 0x00000F0F 0x00000000 0x0000000E false,
  .plain 0x024 1 0x4 0x00000000 0x00000000 0x00000000 false,
  .plain 0x028 1 0x4 0x00000000 0x00000000 0x00000000 false,
  .shad 0x02C 1 0x4 0xFFFFFFFF 0x00000000 0x00000000 false,
  .shad 0x030 1 0x4 0xFFFFFFFF 0x00000000 0x00000000 false,
  .plain 0x034 1 0x4 0x00000000 0x00000000 0x00000000 false,
  .plain 0x038 1 0x4 0x00000000 0x00000000 0x00000000 false,
  .plain 0x03C 1 0x4 0x00000000 0x00000000 0x00000000 false,
  .plain 0x040 1 0x4 0x00000000 0x00000000 0x00000000 false,
  .shad 0x044 1 0x4 0x0000FFFF 0x00000000 0x0000003C false,
  .plain 0x048 1 0x4 0x00000000 0x00000000 0xFFFFFFFF false,
  .plain 0x04C 1 0x4 0x00000000 0x00000000 0x00000000 false,
  .plain 0x050 1 0x4 0x00000000 0x00000000 0x00000000 false,
  .plain 0x054 1 0x4 0x00000000 0x00000000 0x00000000 false,
  .plain 0x058 1 0x4 0x00000000 0x00000000 0x00000000 false,
  .plain 0x05C 1 0x4 0xFFFFFF00 0x00000000 0x00000000 false,
  .plain 0x060 1 0x4 0x000000FF 0x00000000 0x00000000 false,
  .plain 0x064 1 0x4 0x00000000 0x00000000 0x00000000 false,
  .plain 0x068 1 0x4 0x00000000 0x00000000 0x00000000 false,
  .plain 0x06C 1 0x4 0x00000000 0x00000000 0x00000000 false,
  .plain 0x070 1 0x4 0x00000000 0x00000000 0x00000000 false,
  .stop 0x1020 1 0x4 0x0000FF03 0x00000000 0x00000A03 false,
  .shad 0x1024 1 0x4 0xFFFFFFFF 0x00000000 0x00000000 false,
  .shad 0x1028 1 0x4 0x0000FFFF 0x00000000 0x0000004D false]
def Red.rows1 : List RegRow := [
  .plain 0x102C 1 0x4 0x00000000 0x00000000 0x00000000 false,
  .plain 0x1030 1 0x4 0x00000000 0x00000000 0x00000000 false,
  .shad 0x1034 1 0x4 0x0000000F 0x00000000 0x00000001 false,
  .plain 0x1038 1 0x4 0x00000000 0x00000000 0x00000000 false,
  .plain 0x103C 1 0x4 0x00000000 0x00000000 0x00000000 false,
  .plain 0x1040 1 0x4 0x00000000 0x00000000 0x00000000 false,
  .plain 0x1044 1 0x4 0x00000000 0x00000000 0x00000000 false,
  .plain 0x1048 1 0x4 0x00000000 0x00000000 0x00000000 false,
  .plain 0x104C 1 0x4 0x00000000 0x00000000 0x00000000 false,
  .plain 0x1050 1 0x4 0x00000000 0x00000000 0x00000000 false,
  .plain 0x1054 1 0x4 0x00000000 0x00000000 0x00000000 false,
  .plain 0x2020 1 0x4 0x00000000 0x00000000 0x00000000 false,
  .shad 0x2024 1 0x4 0x0000FFFF 0x00000000 0x00000000 false,
  .plain 0x2028 1 0x4 0x00000000 0x00000000 0x00000000 false,
  .plain 0x202C 1 0x4 0x00000000 0x00000000 0x00000000 false,
  .plain 0x2030 1 0x4 0x00000000 0x00000000 0x00000000 false,
  .plain 0x2034 1 0x4 0x00000000 0x00000000 0x00000000 false,
  .plain 0x2038 1 0x4 0x00000000 0x00000000 0x00000000 false,
  .plain 0x2040 32 0x4 0x00000000 0x00000000 0x00000000 false,
  .plain 0x20C0 1 0x4 0x00000000 0x00000000 0x00000000 false,
  .plain 0x20C4 1 0x4 0x00000000 0x00000000 0x00000000 false,
  .shad 0x3400 64 0x10 0xFFFFF000 0x00000000 0x00000000 false,
  .shad 0x3404 64 0x10 0x000000FF 0x00000000 0x00000000 false,
  .shad 0x3408 64 0x10 0x001FFFFF 0x00000000 0x00000000 false]
def Red.rows2 : List RegRow := [
  .shad 0x340C 64 0x10 0x00000007 0x00000000 0x00000000 false]
/-- The block registers of Red (R568 to R573). -/
def Red.rows : List RegRow := Red.rows0 ++ Red.rows1 ++ Red.rows2

def Evr.rows0 : List RegRow := [
  .shad 0x020 1 0x4 0xFFFF0001 0x00000000 0x003C0001 false,
  .plain 0x024 1 0x4 0x00000000 0x00000000 0x00000000 false,
  .plain 0x028 1 0x4 0x00000000 0x00000000 0x00000000 false,
  .plain 0x02C 1 0x4 0x00000000 0x00000000 0x00000000 false,
  .plain 0x030 1 0x4 0x00000000 0x00000000 0x00000000 false,
  .plain 0x034 1 0x4 0x00000000 0x00000000 0x00000000 false,
  .plain 0x038 1 0x4 0x00000000 0x00000000 0x00000000 false,
  .plain 0x03C 1 0x4 0x00000000 0x00000000 0x00000000 false,
  .plain 0x040 1 0x4 0x00000000 0x00000000 0x00000000 false,
  .plain 0x044 1 0x4 0x00000000 0x00000000 0x00000000 false,
  .plain 0x048 1 0x4 0x00000000 0x00000000 0x00000000 false,
  .plain 0x04C 1 0x4 0x00011FFF 0x00000000 0x00000000 false,
  .plain 0x050 1 0x4 0x00000000 0x00000000 0x00000000 false,
  .plain 0x054 1 0x4 0x00000000 0x00000000 0x00000000 false,
  .shad 0x1400 8 0x40 0x0FFF0001 0x00000000 0x00010000 false,
  .shad 0x1404 5 0x8 0x001FFFFF 0x00000000 0x00000000 false,
  .shad 0x1444 5 0x8 0x001FFFFF 0x00000000 0x00000000 false,
  .shad 0x1484 5 0x8 0x001FFFFF 0x00000000 0x00000000 false,
  .shad 0x14C4 5 0x8 0x001FFFFF 0x00000000 0x00000000 false,
  .shad 0x1504 5 0x8 0x001FFFFF 0x00000000 0x00000000 false,
  .shad 0x1544 5 0x8 0x001FFFFF 0x00000000 0x00000000 false,
  .shad 0x1584 5 0x8 0x001FFFFF 0x00000000 0x00000000 false,
  .shad 0x15C4 5 0x8 0x001FFFFF 0x00000000 0x00000000 false,
  .shad 0x1408 5 0x8 0xFFFFFFFF 0x00000000 0x00000000 false]
def Evr.rows1 : List RegRow := [
  .shad 0x1448 5 0x8 0xFFFFFFFF 0x00000000 0x00000000 false,
  .shad 0x1488 5 0x8 0xFFFFFFFF 0x00000000 0x00000000 false,
  .shad 0x14C8 5 0x8 0xFFFFFFFF 0x00000000 0x00000000 false,
  .shad 0x1508 5 0x8 0xFFFFFFFF 0x00000000 0x00000000 false,
  .shad 0x1548 5 0x8 0xFFFFFFFF 0x00000000 0x00000000 false,
  .shad 0x1588 5 0x8 0xFFFFFFFF 0x00000000 0x00000000 false,
  .shad 0x15C8 5 0x8 0xFFFFFFFF 0x00000000 0x00000000 false,
  .plain 0x142C 8 0x40 0x00000000 0x00000000 0x00000000 false]
/-- The block registers of Evr (R603 to R605). -/
def Evr.rows : List RegRow := Evr.rows0 ++ Evr.rows1

def Pmc.rows0 : List RegRow := [
  .shad 0x020 1 0x4 0x00001F07 0x00000000 0x00000C00 false,
  .shad 0x024 1 0x4 0x3FFFFFFF 0x00000000 0x000F4240 false,
  .shad 0x028 1 0x4 0xFFFFF000 0x00000000 0x00000000 false,
  .shad 0x02C 1 0x4 0x000000FF 0x00000000 0x00000000 false,
  .shad 0x030 1 0x4 0x000FFFFF 0x00000000 0x00000000 false,
  .shad 0x034 1 0x4 0x07FF07FF 0x00000000 0x06000000 false,
  .plain 0x038 1 0x4 0x00000000 0x00000000 0x00000000 false,
  .plain 0x03C 1 0x4 0x00000000 0x00000000 0x00000000 false,
  .plain 0x040 1 0x4 0x00000000 0x00000000 0x00000000 false,
  .shad 0x044 1 0x4 0xFFFFF000 0x00000000 0x00000000 false,
  .shad 0x048 1 0x4 0x000000FF 0x00000000 0x00000000 false,
  .shad 0x04C 1 0x4 0x000FFFFF 0x00000000 0x00000000 false,
  .plain 0x050 1 0x4 0x00000000 0x00000000 0x00000000 false,
  .plain 0x054 1 0x4 0x00000000 0x00000000 0x00000000 false,
  .plain 0x058 1 0x4 0x00000000 0x00000000 0x00000000 false,
  .plain 0x05C 1 0x4 0x000007FF 0x00000000 0x00000000 false,
  .plain 0x060 1 0x4 0x00000000 0x00000000 0x00000000 false,
  .plain 0x1100 48 0x4 0x00000000 0xFFFFFFFF 0x00000000 true,
  .plain 0x4400 128 0x8 0x00000000 0x00000000 0x00000000 false,
  .plain 0x5400 128 0x8 0x00000000 0x00000000 0x00000000 false,
  .plain 0x6400 128 0x8 0x00000000 0x00000000 0x00000000 false,
  .plain 0x7400 128 0x8 0x00000000 0x00000000 0x00000000 false,
  .plain 0x8400 128 0x8 0x00000000 0x00000000 0x00000000 false,
  .plain 0x9400 128 0x8 0x00000000 0x00000000 0x00000000 false]
def Pmc.rows1 : List RegRow := [
  .plain 0xA400 128 0x8 0x00000000 0x00000000 0x00000000 false,
  .plain 0xB400 128 0x8 0x00000000 0x00000000 0x00000000 false,
  .plain 0xC400 128 0x8 0x00000000 0x00000000 0x00000000 false,
  .plain 0xD400 128 0x8 0x00000000 0x00000000 0x00000000 false,
  .plain 0xE400 128 0x8 0x00000000 0x00000000 0x00000000 false,
  .plain 0xF400 128 0x8 0x00000000 0x00000000 0x00000000 false,
  .plain 0x4404 128 0x8 0x00000000 0x00000000 0x00000000 false,
  .plain 0x5404 128 0x8 0x00000000 0x00000000 0x00000000 false,
  .plain 0x6404 128 0x8 0x00000000 0x00000000 0x00000000 false,
  .plain 0x7404 128 0x8 0x00000000 0x00000000 0x00000000 false,
  .plain 0x8404 128 0x8 0x00000000 0x00000000 0x00000000 false,
  .plain 0x9404 128 0x8 0x00000000 0x00000000 0x00000000 false,
  .plain 0xA404 128 0x8 0x00000000 0x00000000 0x00000000 false,
  .plain 0xB404 128 0x8 0x00000000 0x00000000 0x00000000 false,
  .plain 0xC404 128 0x8 0x00000000 0x00000000 0x00000000 false,
  .plain 0xD404 128 0x8 0x00000000 0x00000000 0x00000000 false,
  .plain 0xE404 128 0x8 0x00000000 0x00000000 0x00000000 false,
  .plain 0xF404 128 0x8 0x00000000 0x00000000 0x00000000 false]
/-- The block registers of Pmc (R606, R607). -/
def Pmc.rows : List RegRow := Pmc.rows0 ++ Pmc.rows1

end Sys2Proof.Machine
end

