-- ==== Sys2Proof/Machine/Pages.lean ====
section
/-!
DEFINITION. The page map of R72: which block, instance and position in its commit group each page number has, each
block's level and commit kind, and the reset value of every register.
-/
namespace Sys2Proof.Machine

/-- The blocks of R72. -/
inductive Block where
  | sys | clk | pwr | hth | thm | cal | fwu | icu | tln | syn | swt | cmp | jsc | fix | pxp | dmx | eth | fld | ntm
  | str | ing | lmp | lcl | que | red | evr | pmc | plu | plc | ccr
  deriving DecidableEq, Repr

/-- Block codes (R72). -/
def Block.code : Block → Nat
  | .sys => 0x001 | .clk => 0x002 | .pwr => 0x003 | .hth => 0x004 | .thm => 0x005 | .cal => 0x006 | .fwu => 0x007
  | .icu => 0x008 | .ccr => 0x009 | .tln => 0x010 | .syn => 0x011 | .swt => 0x020 | .cmp => 0x021 | .jsc => 0x022
  | .fix => 0x023 | .plu => 0x024 | .plc => 0x025 | .pxp => 0x030 | .dmx => 0x031 | .eth => 0x032 | .fld => 0x033
  | .ntm => 0x034 | .str => 0x035 | .ing => 0x036 | .lmp => 0x040 | .lcl => 0x041 | .que => 0x050 | .red => 0x060
  | .evr => 0x070 | .pmc => 0x071

/-- The level of a block's pages (R72): 0 unit, 1 cluster, 2 region, 3 die, 5 system. -/
def Block.level : Block → Nat
  | .pxp | .dmx | .eth | .fld | .lmp | .que | .plu | .ccr => 0
  | .lcl | .plc => 1
  | .cmp | .jsc => 2
  | .red => 5
  | _ => 3

/-- log2 of the pages in a commit group (R55, R72). -/
def Block.groupLog2 : Block → Nat
  | .icu | .swt | .jsc | .eth | .ntm | .str | .ing | .red | .evr => 2
  | .tln | .cmp | .fix | .pmc => 4
  | _ => 0

/-- COMMIT_KIND (R55, R72). -/
def Block.kind : Block → Nat
  | .hth | .icu | .que | .plu | .plc | .ccr => 0
  | .swt | .pxp | .dmx | .lmp | .lcl => 2
  | _ => 1

/-- What page number `n` is: its block, its instance, and its position in the commit group. -/
structure PageInfo where
  block : Block
  inst : Nat
  sub : Nat
  deriving DecidableEq, Repr

/-- The ranges of R72: first page, number of pages, block. -/
def pageRanges : List (Nat × Nat × Block) := [
  (0x000, 1, .sys), (0x001, 1, .clk), (0x002, 1, .pwr), (0x003, 1, .hth), (0x004, 1, .thm), (0x005, 1, .cal),
  (0x006, 1, .fwu), (0x008, 4, .icu), (0x010, 16, .tln), (0x020, 8, .syn), (0x040, 64, .swt), (0x080, 64, .cmp),
  (0x0C0, 16, .jsc), (0x0D0, 16, .fix), (0x100, 64, .pxp), (0x140, 12, .dmx), (0x150, 16, .eth), (0x160, 8, .fld),
  (0x170, 4, .ntm), (0x174, 4, .str), (0x178, 4, .ing), (0x180, 32, .lmp), (0x1A0, 4, .lcl), (0x1B0, 16, .que),
  (0x1C0, 4, .red), (0x1D0, 4, .evr), (0x1E0, 16, .pmc), (0x200, 32, .plu), (0x220, 16, .plc), (0x230, 4, .ccr)]

def pageInfoIn : List (Nat × Nat × Block) → Nat → Option PageInfo
  | [], _ => none
  | (a, c, b) :: t, n =>
    if a ≤ n ∧ n < a + c then some ⟨b, (n - a) / 2 ^ b.groupLog2, (n - a) % 2 ^ b.groupLog2⟩ else pageInfoIn t n

/-- The assignment of page `n`, none for an unassigned page (R72). -/
def pageInfo (n : Nat) : Option PageInfo := pageInfoIn pageRanges n

/-- Every assigned page. -/
def allPages : List Nat := pageRanges.flatMap (fun r => (List.range r.2.1).map (r.1 + ·))

/-- Every first page of a commit group. -/
def allGroups : List Nat := allPages.filter (fun n => (pageInfo n).any (fun i => i.sub == 0))

/-- First pages of the instances of each block. -/
def pgSYS : Nat := 0x000
def pgCLK : Nat := 0x001
def pgPWR : Nat := 0x002
def pgHTH : Nat := 0x003
def pgTHM : Nat := 0x004
def pgCAL : Nat := 0x005
def pgFWU : Nat := 0x006
def pgICU : Nat := 0x008
def pgTLN : Nat := 0x010
def pgSYN (k : Nat) : Nat := 0x020 + k
def pgSWT (k : Nat) : Nat := 0x040 + 4 * k
def pgCMP (n : Nat) : Nat := 0x080 + 16 * n
def pgJSC (n : Nat) : Nat := 0x0C0 + 4 * n
def pgFIX : Nat := 0x0D0
def pgPXP (k : Nat) : Nat := 0x100 + k
def pgDMX (k : Nat) : Nat := 0x140 + k
def pgETH (m : Nat) : Nat := 0x150 + 4 * m
def pgFLD (k : Nat) : Nat := 0x160 + k
def pgNTM : Nat := 0x170
def pgBR : Nat := 0x173
def pgSTR : Nat := 0x174
def pgING : Nat := 0x178
def pgLMP (k : Nat) : Nat := 0x180 + k
def pgLCL (n : Nat) : Nat := 0x1A0 + n
def pgQUE (j : Nat) : Nat := 0x1B0 + j
def pgRED : Nat := 0x1C0
def pgEVR : Nat := 0x1D0
def pgPMC : Nat := 0x1E0
def pgPLU (k : Nat) : Nat := 0x200 + k
def pgPLC (k : Nat) : Nat := 0x220 + k
def pgCCR (c : Nat) : Nat := 0x230 + c

/-- First page of the commit group of page `n`. -/
def groupOf (n : Nat) : Nat :=
  match pageInfo n with
  | some i => n - i.sub
  | none => n

/-- The RW bits of an input page SYN[k] that R112 and R113 keep for it. -/
def synInBits (k o : Nat) : Word :=
  if o = SynIn.IN_MODE then (if k = 0 then 0x4 else if k = 2 then 0x8 else 0x3)
  else if o = SynIn.PERIOD_NUM ∨ o = SynIn.PERIOD_DEN then (if k = 4 ∨ k = 6 then 0 else 0xFFFFFFFF)
  else if o = SynIn.LINES then (if k = 0 then 0xFFFFFFFF else 0)
  else if o = SynIn.DECIM then (if k = 6 then 0 else 0xFFFFFFFF)
  else 0xFFFFFFFF

/-- The RW bits of an output page SYN[k] that R114 and R115 keep for it. -/
def synOutBits (k o : Nat) : Word :=
  if o = SynOut.OUT_MODE then (if k = 3 then 0xF else 0xD)
  else if o = SynOut.PERIOD_NUM ∨ o = SynOut.PERIOD_DEN ∨ o = SynOut.ZONE_S then (if k = 3 then 0xFFFFFFFF else 0)
  else if o = SynOut.WIDTH then (if k = 3 then 0 else 0xFFFFFFFF)
  else if o = SynOut.SWATH then (if k = 7 then 0xFFFFFFFF else 0)
  else 0xFFFFFFFF

/-- The block registers of SYN[k]: what is reserved or RO on that page has no RW bits (R112 to R115). -/
def synRows (k : Nat) : List RegRow :=
  if k = 3 ∨ k = 5 ∨ k = 7 then SynOut.rows.map (fun r => { r with rw := r.rw &&& synOutBits k r.off })
  else SynIn.rows.map (fun r => { r with rw := r.rw &&& synInBits k r.off })

/-- The block registers of an instance (offsets from the group's first page). -/
def Block.rows (b : Block) (inst : Nat) : List RegRow :=
  match b with
  | .sys => Sys.rows | .clk => Clk.rows | .pwr => Pwr.rows | .hth => Hth.rows | .thm => Thm.rows | .cal => Cal.rows
  | .fwu => Fwu.rows | .icu => Icu.rows | .tln => Tln.rows
  | .syn => synRows inst
  | .swt => Swt.rows | .cmp => Cmp.rows | .jsc => Jsc.rows | .fix => Fix.rows | .pxp => Pxp.rows | .dmx => Dmx.rows
  | .eth => Eth.rows | .fld => Fld.rows | .ntm => Ntm.rows ++ Br.rows | .str => Str.rows | .ing => Ing.rows
  | .lmp => Lmp.rows | .lcl => Lcl.rows | .que => if inst < 11 then Que.rows else [] | .red => Red.rows
  | .evr => Evr.rows | .pmc => Pmc.rows | .plu | .plc | .ccr => []

/-- RWS bits of PAGE_STATUS.BLOCK_STATUS on the first page of each group. -/
def Block.statusRws : Block → Word
  | .tln => 0x00A80000 | .swt => 0x00700000 | .jsc => 0x00180000 | .dmx => 0x00400000 | .ing => 0x00FF0000 | _ => 0

/-- RWS bits of PAGE_FAULT.BLOCK_FAULT on the first page of each group. -/
def Block.faultRws : Block → Word
  | .sys => 0x00070000 | .clk => 0x000F0000 | .pwr => 0x007D0000 | .hth => 0x000F0000 | .thm => 0x00FF0000
  | .cal => 0x01FF0000 | .fwu => 0x007F0000 | .icu => 0x00070000 | .tln => 0x00070000 | .syn => 0x00030000
  | .swt => 0x003F0000 | .cmp => 0x003D0000 | .jsc => 0x03FF0000 | .fix => 0x003F0000 | .pxp => 0x001F0000
  | .dmx => 0x00FF0000 | .eth => 0x007F0000 | .fld => 0x00FF0000 | .ntm => 0x001F0000 | .str => 0x000F0000
  | .ing => 0x000F0000 | .lmp => 0x001F0000 | .lcl => 0x003F0000 | .que => 0x00010000 | .red => 0x7FFF0000
  | .evr => 0x003F0000 | .pmc => 0x00010000 | .plu | .plc | .ccr => 0

/-- Reset value of PAGE_STATUS (R58 and each block's status table): RED's DRILL_DUE, THM's ZONE NORMAL, a Swath's
LOCK_OK, and the PIN_STATE codes of the ports. -/
def Block.statusReset : Block → Word
  | .thm => 0x00020000 | .swt => 0x00080000 | .pxp => 0x00030000 | .dmx => 0x00050000 | .fld => 0x00030000
  | .red => 0x02000000 | _ => 0

/-- The key of the register at `off` from page `page`. -/
def regKey (page off : Nat) : Nat := page * 0x1000 + off

/-- Header register offsets (R53). -/
def PAGE_ID : Nat := 0x000
def PAGE_CAPS : Nat := 0x004
def PAGE_CTRL : Nat := 0x008
def PAGE_STATUS : Nat := 0x00C
def PAGE_COMMIT : Nat := 0x010
def PAGE_EPOCH : Nat := 0x014
def PAGE_FAULT : Nat := 0x018

/-- Common PAGE_FAULT bits (R59). -/
def F_ACCESS : Nat := 0
def F_UNMAPPED : Nat := 1
def F_ARMED_WRITE : Nat := 2
def F_SCOPE : Nat := 3
def F_MODE_BUSY : Nat := 4
def F_BUSY_WRITE : Nat := 5
def F_PARITY : Nat := 6
/-- BAD_VALUE stands at bit 16 on every page that has it. -/
def F_BAD_VALUE : Nat := 16

/-- The queues of R482: writer and reader (0 HW, 1 HOST, 2 FW), WIDTH code, depth in words; none where QUE[j] holds no
queue. -/
structure QueueSpec where
  writer : Nat
  reader : Nat
  width : Nat
  depth : Nat
  deriving DecidableEq, Repr

def queueSpec (j q : Nat) : Option QueueSpec :=
  if j = 0 then some ⟨0, 0, 3, 8192⟩
  else if j = 1 then some ⟨0, 0, 3, 2048⟩
  else if j = 2 then some ⟨0, 0, 3, 4096⟩
  else if j = 3 then
    (if q = 0 then some ⟨0, 0, 3, 2048⟩ else if q = 1 then some ⟨1, 2, 2, 256⟩
     else if q = 2 then some ⟨2, 1, 2, 256⟩ else some ⟨0, 0, 3, 64⟩)
  else if j ≤ 6 then some ⟨0, 1, 0, 64⟩
  else if j ≤ 8 then some ⟨0, 1, 2, 512⟩
  else if j ≤ 10 then some ⟨1, 0, 2, 512⟩
  else none

/-- Level sources (R503): the ETH ring sources and the QUE level sources. -/
def isLevelSource (s : Nat) : Bool :=
  (decide (220 ≤ s ∧ s < 260) && decide (2 ≤ (s - 220) % 10)) || (decide (308 ≤ s ∧ s < 330) && decide (s % 2 = 1))

/-- Sources that R518 assigns; every other number is reserved (R499). -/
def isSource (s : Nat) : Bool :=
  (decide (1 ≤ s ∧ s ≤ 62)) || decide (64 ≤ s ∧ s ≤ 128) || decide (144 ≤ s ∧ s ≤ 329) || decide (340 ≤ s ∧ s ≤ 360)
    || decide (364 ≤ s ∧ s ≤ 365) || decide (s = 511)

/-- The bits of word `w` of PENDING, ENABLE and IN_SERVICE that stand for a source (R499). -/
def sourceBits (w : Nat) : Word :=
  (List.range 32).foldl (fun a b => if isSource (32 * w + b) then a ||| (1 <<< b) else a) 0

/-- Reset values that differ between instances of one register (R112, R496, R520, R694). -/
def resetSpecial (i : PageInfo) (o : Nat) : Option Word :=
  match i.block with
  | .syn =>
    if i.inst = 3 ∨ i.inst = 5 ∨ i.inst = 7 then
      (if o = SynOut.PERIOD_NUM ∨ o = SynOut.PERIOD_DEN then (if i.inst = 3 then none else some 0)
       else if o = SynOut.WIDTH ∧ i.inst = 3 then some 0 else none)
    else if o = SynIn.PERIOD_NUM then some (if i.inst = 0 then 1001 else 1)
    else if o = SynIn.PERIOD_DEN then
      some (if i.inst = 0 then 60000 else if i.inst = 1 then 48000 else if i.inst = 2 then 25
            else if i.inst = 4 then 1 else 10000000)
    else if o = SynIn.WINDOW then
      some (if i.inst = 0 then 1000 else if i.inst = 1 then 500 else if i.inst = 2 then 20000
            else if i.inst = 4 then 1000 else 10)
    else if o = SynIn.DECIM then some (if i.inst = 1 then 48 else if i.inst = 6 then 10000 else 1)
    else if o = SynIn.LINES ∧ i.inst ≠ 0 then some 0
    else none
  | .icu =>
    if 0x1400 ≤ o ∧ o < 0x1800 then some (if isLevelSource ((o - 0x1400) / 4) then 0x00040000 else 0)
    else if 0x300 ≤ o ∧ o < 0x340 ∧ o % 0x10 = 0xC then some 1
    else if 0x2400 ≤ o ∧ o < 0x2800 then some (if isLevelSource ((o - 0x2400) / 4 + 256) then 0x00040000 else 0)
    else none
  | .que =>
    if 0x100 ≤ o ∧ o < 0x200 ∧ (o - 0x100) % 0x40 = 0 then
      (queueSpec i.inst ((o - 0x100) / 0x40)).map (fun q =>
        BitVec.ofNat 32 (q.reader * 2 ^ 30 + q.writer * 2 ^ 28 + q.width * 2 ^ 26 + 0x401))
    else none
  | .fwu =>
    if 0x0B0 ≤ o ∧ o < 0x0C0 then some (Config.deviceIdWord ((o - 0x0B0) / 4)) else none
  | _ => none

/-- The reset value of the register with a given key (R68): 0 for a reserved or unassigned one. -/
def resetVal (key : Nat) : Word :=
  match pageInfo (key / 0x1000) with
  | none => 0
  | some i =>
    let o := key % 0x1000
    if o < 0x20 then
      (if o = PAGE_ID then
        BitVec.ofNat 32 (i.block.code * 2 ^ 20 + i.block.level * 2 ^ 16 + i.inst * 2 ^ 8 + 1)
       else if o = PAGE_CTRL then BitVec.ofNat 32 (i.block.level * 16)
       else if o = PAGE_STATUS ∧ i.sub = 0 then i.block.statusReset
       else 0)
    else
      match resetSpecial i (i.sub * 0x1000 + o) with
      | some v => v
      | none =>
        match RegRow.find (i.sub * 0x1000 + o) (i.block.rows i.inst) with
        | some r => r.reset
        | none => 0

end Sys2Proof.Machine
end

