-- ==== Sys2Proof/Machine/Tab.lean ====
section
/-!
DEFINITION. Sparse tables: a list of (key, value) pairs beside a default, in one canonical form (keys strictly rising,
no entry equal to the default of its key), so that two equal tables are equal data. Memory, registers and the
per-instance states of the blocks are all held this way.
-/
namespace Sys2Proof.Machine

/-- Entries by key; every key that is not listed holds the default of its table. -/
abbrev Tab (α : Type) := List (Nat × α)

/-- The value at key `k`, `d k` when the table lists none. -/
def Tab.get {α : Type} (d : Nat → α) : Tab α → Nat → α
  | [], k => d k
  | (i, v) :: t, k => if i = k then v else Tab.get d t k

/-- The table without any entry of key `k`. -/
def Tab.erase {α : Type} : Tab α → Nat → Tab α
  | [], _ => []
  | (i, v) :: t, k => if i = k then Tab.erase t k else (i, v) :: Tab.erase t k

/-- The table with an entry put before the first larger key. -/
def Tab.insert {α : Type} : Tab α → Nat → α → Tab α
  | [], k, v => [(k, v)]
  | (i, x) :: t, k, v => if k < i then (k, v) :: (i, x) :: t else (i, x) :: Tab.insert t k v

/-- The table after a write of `v` at `k`: an entry equal to the default is not kept. -/
def Tab.set {α : Type} [DecidableEq α] (d : Nat → α) (t : Tab α) (k : Nat) (v : α) : Tab α :=
  if v = d k then Tab.erase t k else Tab.insert (Tab.erase t k) k v

/-- The table restricted to the keys that `p` keeps; every other key returns to its default. -/
def Tab.keep {α : Type} (p : Nat → Bool) (t : Tab α) : Tab α :=
  t.filter (fun e => p e.1)

/-- Every key is below `n`'s successor chain: the keys rise strictly from `n` on. -/
def Tab.risesFrom {α : Type} : Nat → Tab α → Bool
  | _, [] => true
  | n, (i, _) :: t => decide (n ≤ i) && Tab.risesFrom (i + 1) t

/-- The canonical form: keys strictly rising, no entry equal to its default. -/
def Tab.wf {α : Type} [DecidableEq α] (d : Nat → α) (t : Tab α) : Bool :=
  Tab.risesFrom 0 t && t.all (fun e => decide (e.2 ≠ d e.1))

end Sys2Proof.Machine
end

