-- ==== Sys2Proof/Machine/Parts/Base.lean ====
section
/-!
DEFINITION. State of the parts that every block shares: commit groups, queues, the interrupt controller's lines, the
device's own pins and fences, the timeline, and the sync inputs and outputs.
-/
namespace Sys2Proof.Machine

/-- The commit state of a group (R62, R65): armed, and the timeline instant of the ARM, from which its guard counts. -/
structure Arm where
  on : Bool
  since : Nat
  deriving DecidableEq, Repr

def Arm.idle : Arm := ⟨false, 0⟩

/-- One 32-byte word of a queue with its tag (R484). -/
structure QWord where
  data : List Byte
  bytes : Nat
  first : Bool
  last : Bool
  deriving DecidableEq, Repr

/-- One copy of a queue's three pointers (R486, R490), each modulo the queue's depth. -/
structure QPtr where
  rd : Nat
  wc : Nat
  wt : Nat
  deriving DecidableEq, Repr

/-- A queue (R482 to R494): its words from RD to WT, how many of them are committed, the bytes of the word being
packed, whether a packet is in progress, how many of its words are already tentative, whether it is refused (R488) or
lost (R490), and the two pointer copies. -/
structure Queue where
  words : List QWord
  committed : Nat
  part : List Byte
  inPacket : Bool
  refused : Bool
  lost : Bool
  a : QPtr
  b : QPtr
  deriving DecidableEq, Repr

def Queue.empty : Queue := ⟨[], 0, [], false, false, false, ⟨0, 0, 0⟩, ⟨0, 0, 0⟩⟩

/-- Interrupt controller state beside its registers: the owner of each source in service (R508), the live level of each
level source (R503), the VRET latches (R514), the host groups whose message is due (R517), those held for the link
(R347), the MSI-X function mask, the PCIe link being in L0 or in L1, and the exit from L1 that the device began (R347). -/
structure IcuState where
  owner : Tab Nat
  level : Tab Bool
  latch : Tab Bool
  due : Tab Bool
  held : Tab Bool
  functionMask : Bool
  linkL0 : Bool
  linkL1 : Bool
  exitL1 : Bool
  deriving DecidableEq, Repr

def IcuState.init : IcuState := ⟨[], [], [], [], [], false, true, false, false⟩

/-- The device as a whole: input pins as last sampled (PRESENCE_N low, TEST_MODE, ROLE_SEL, where true is device B), the
FAULT_N pin asserted, the pages whose instance is being reset (R70), fenced regions and the fenced die (R18), DRAM
content valid, the faults whose containment is in progress as (level, instance) (R21), the counter of free values, the order in
which threads became READY (R234), the region that STR and ING served last (R221), the pages whose STOP was cleared while
their group was ARMED (R67), and the GPIO pins that the firmware drives with their levels (R716). -/
structure DevState where
  presenceLow : Bool
  testMode : Bool
  roleB : Bool
  faultN : Bool
  resetting : Tab Bool
  regionFenced : Tab Bool
  dieFenced : Bool
  dramValid : Bool
  containing : List (Nat × Nat)
  freeCount : Nat
  threadStamp : Nat
  servedStr : Nat
  servedIng : Nat
  unstop : List Nat
  gpioDir : BitVec 16
  gpioLevel : BitVec 16
  deriving DecidableEq, Repr

def DevState.init : DevState := ⟨false, false, false, false, [], [], false, false, [], 0, 0, 3, 3, [], 0, 0⟩

/-- One requester's latch of the time (R81). -/
structure NowLatch where
  sHi : Nat
  ns : Nat
  frac : Nat
  uncert : Nat
  deriving DecidableEq, Repr

def NowLatch.init : NowLatch := ⟨0, 0, 0, 0xFFFFFFFF⟩

/-- The timeline and its servo (R74 to R99). `now` counts 2^-48 ns. The integrator I and the rate y are exact rationals
(ns * 2^-16 for I, ppb for y), and the latest |e| are exact in 1/256 ns. `voidAt` is the instant of the latest STEP or change of SRC, in whose TCLK cycle servo
events are discarded (R89). `edge` is the timeline value at the latest TCLK edge, from which the placement grid runs (R92). `ticks` holds, for
each activity that acts at whole multiples of an interval, 1 plus the latest instant it served. -/
structure TlnState where
  now : Nat
  latch : Tab NowLatch
  slewLeft : Int
  integ : Rat
  rate : Rat
  preload : Bool
  hasPrev : Bool
  prevAt : Nat
  lockRun : Nat
  unlockRun : Nat
  reachedLocked : Bool
  lockedIncr : List Nat
  lastErr : List Rat
  uncertBase : Nat
  holdFrom : Nat
  holdDone : Bool
  ppsDone : Bool
  peerValid : Bool
  stopped : Bool
  voidAt : Option Nat
  edge : Nat
  ticks : Tab Nat
  deriving DecidableEq, Repr

def TlnState.init : TlnState :=
  ⟨0, [], 0, 0, 0, false, false, 0, 0, 0, false, [], [], 0xFFFFFFFF, 0, false, false, false, false, none, 0, []⟩

/-- A sync input (R90): the run of valid edges, consecutive misses, the number of the last alignment instant that had
its valid edge and of the last that passed without one, and the valid edges since the last servo event. A sync output (R101, R102): the
pulse or frame in progress and when it ends (timeline units). -/
structure SynState where
  run : Nat
  misses : Nat
  lastHit : Option Int
  lastMiss : Option Int
  decim : Nat
  pulse : Bool
  pulseEnd : Nat
  deriving DecidableEq, Repr

def SynState.init : SynState := ⟨0, 0, none, none, 0, false, 0⟩

end Sys2Proof.Machine
end

