-- ==== Sys2Proof/Machine/Parts/Comp.lean ====
section
/-!
DEFINITION. State of composition and of the Pixel Lane Units: snapshots (R124), pixel runs (R159 to R186).
-/
namespace Sys2Proof.Machine

/-- A layer as a snapshot captured it (R124): its buffer when layer and buffer are VALID, and its origin. -/
structure LayerSnap where
  layer : Nat
  buf : Option Nat
  base : Nat
  stride : Nat
  width : Nat
  height : Nat
  fmt : Nat
  orgU : Int
  orgV : Int
  deriving DecidableEq, Repr

/-- A composition snapshot of a pixel map (R124): the frame and Swath, the pixel-map registers, the layers of
LAYER_MASK, the tile banks, the gain slot of R145, CMP_CTRL, the program registers, the pair seed, and whether
TILE_RANGE was set. -/
structure Snap where
  frame : Nat
  swath : Nat
  ctrl : Word
  base : Nat
  count : Nat
  mask : Nat
  corr : Nat
  tiles : Nat
  tileCount : Nat
  ofb : Nat
  entry : Nat
  consts : List Word
  banks : List Nat
  layers : List LayerSnap
  slot : Nat
  cmpCtrl : Word
  seedLo : Word
  seedHi : Word
  rangeSeen : Bool
  deriving DecidableEq, Repr

/-- An open repeat block (R180): the word after its REP, the layers still to come (the current one first), the index of
the current one and their number. -/
structure Block_ where
  body : Nat
  layers : List Nat
  index : Nat
  count : Nat
  deriving DecidableEq, Repr

/-- A pixel's run (R159 to R161): the pixel, the next word, V lanes (register r, lane c at 4 r + c), S and P registers,
the repeat block, DOSE and ST executed, the dose contributions per channel, the issue cost, SMP_LAYER raised, and what the gather
unit supplied: the 14 coefficients of the correction record and the dose gains, none for the identity and for 1.0. -/
structure PixelRun where
  pixel : Nat
  pc : Nat
  u : Nat
  v : Nat
  tile : Nat
  vr : List (BitVec 16)
  sr : List Word
  pr : List Bool
  blk : Option Block_
  dosed : Bool
  stored : Bool
  dose : List Nat
  cost : Nat
  smpLayer : Bool
  record : Option (List Int)
  gains : List (Option Nat)
  deriving DecidableEq, Repr

/-- A PLU (R159, R220, R226): the pixels of its running job already begun, the pixel's run, the dose sums of the job by
4 tile + channel, whether a pixel of the job faulted, the jobs and cycles of its present latency block, the mean of a
block that waits for its comparison, and whether it has a block mean. -/
structure PluState where
  next : Nat
  run : Option PixelRun
  sums : Tab Nat
  faulted : Bool
  latCount : Nat
  latSum : Nat
  latDue : Option Nat
  hasMean : Bool
  deriving DecidableEq, Repr

def PluState.init : PluState := ⟨0, none, [], false, 0, 0, none, false⟩

end Sys2Proof.Machine
end

