-- ==== Sys2Proof/Machine/Parts/Ether.lean ====
section
/-!
DEFINITION. State of the Ethernet MACs and the bridge (R329 to R363), of network time (R396 to R427), and of ingest (R387 to
R390), beside their registers.
-/
namespace Sys2Proof.Machine

/-- A frame or burst that a source offers to its MAC (R331): the source (0 to 3 TX rings, 4 STR, 5 NTM, 6 bridge, 7 PAUSE), the
frames still to send without FCS, the launch value (1/1280 ns), its class and priority, whether a late frame is dropped, the
descriptors of its chain, IRQ and TSTAMP of R338, the stream entry or PTP message type, the port and time of reception of a
bridged frame (2^-48 ns) and whether that time is valid, the status to write back, and the start of its first frame. -/
structure TxUnit where
  src : Nat
  frames : List (List Byte)
  launch : Option Nat
  express : Bool
  prio : Nat
  dropLate : Bool
  chain : Nat
  irq : Bool
  tstamp : Bool
  tag : Nat
  inPort : Nat
  inAt : Nat
  inValid : Bool
  status : Nat
  first : Option Nat
  cut : Bool
  whenActive : Bool
  deriving DecidableEq, Repr

/-- A frame without launch of a source. -/
def TxUnit.plain (src prio tag : Nat) (express : Bool) (frames : List (List Byte)) : TxUnit :=
  { src := src, frames := frames, launch := none, express := express, prio := prio, dropLate := false, chain := 0,
    irq := false, tstamp := false, tag := tag, inPort := 0, inAt := 0, inValid := false, status := 0, first := none, cut := false,
    whenActive := false }

/-- A MAC: frames waiting of STR, NTM and PAUSE, when the head of each source got there (1/1280 ns), the frame in transmission
with its start and end, the rest of a burst, a preempted frame with the time left of it, the previous placed launch and the
latest start, the source served last, the pause in force and the one that begins when the frame in transmission ends (quanta),
whether XOFF was sent and when it is repeated, when the link came up, whether reception has settled, the attempts of
verification and its start, when each moderation timer started (RX ring r at 4 + r), the instant after each ring's latest raise
(2^-48 ns, R345), the good frames of the present
millisecond with its number, and the buffer that holds its ingest queue back (R127). -/
structure MacState where
  waiting : List TxUnit
  headAt : Tab (Option Nat)
  sending : Option TxUnit
  sendAt : Nat
  sendEnd : Nat
  burst : Option TxUnit
  halted : Option (TxUnit × Nat)
  lastPlaced : Option Nat
  phase : Nat
  served : Nat
  pauseEnd : Option Nat
  pauseNext : Option Nat
  xoff : Option Nat
  linkAt : Nat
  settled : Bool
  tries : Nat
  verifyAt : Nat
  timers : Tab (Option Nat)
  raised : Tab Nat
  msCount : Nat
  msLast : Nat
  stall : Option Nat
  deriving DecidableEq, Repr

def MacState.init : MacState :=
  { waiting := [], headAt := [], sending := none, sendAt := 0, sendEnd := 0, burst := none, halted := none,
    lastPlaced := none, phase := 0, served := 0, pauseEnd := none, pauseNext := none, xoff := none, linkAt := 0,
    settled := false, tries := 0, verifyAt := 0, timers := [], raised := [], msCount := 0, msLast := 0, stall := none }

/-- An entry of the forwarding database (R354): address, port mask, static, and when it was last refreshed (2^-48 ns). -/
structure FdbEntry where
  mac : Nat
  ports : Nat
  fixed : Bool
  seen : Nat
  deriving DecidableEq, Repr

/-- The bridge: its database, the newest first, and the instant of the latest command with its address, none for FLUSH (R355). -/
structure BridgeState where
  fdb : List FdbEntry
  cmdAt : Option (Nat × Option Nat)
  deriving DecidableEq, Repr

def BridgeState.init : BridgeState := ⟨[], none⟩

/-- A Delay_Req on its way (R407): its sequenceId, when it was sent or queued (2^-48 ns), and its transmit timestamp
(1/1280 ns) once it left. -/
structure DelayReq where
  seq : Nat
  at_ : Nat
  sent : Option Int
  deriving DecidableEq, Repr

/-- A Sync waiting for its Follow_Up (R409): sequenceId, correctionField, reception (1/1280 ns). -/
structure OpenSync where
  seq : Nat
  corr : Int
  rx : Int
  deriving DecidableEq, Repr

/-- An entry of the timestamp queue (R419): STAMP32, TSQ_HI without STALE, and when it was pushed (2^-48 ns). -/
structure TsEntry where
  lo : Nat
  hi : Nat
  at_ : Nat
  deriving DecidableEq, Repr

/-- Network time (R405 to R419): the slave's latest accepted sequenceId, the Sync that waits, the latest ms and t2 accepted
(1/65536 ns, 1/1280 ns), D (1/256 ns), outliers in a row, the latest |d - D| (1/256 ns), the open Delay_Req and when the next
is due (2^-48 ns), when a Sync was last accepted (2^-48 ns), the sequenceIds to send by (port, message type) as 16 m + type, when
Sync and Announce were last sent (launch in 1/1280 ns, by 2 m and 2 m + 1), Delay_Req answered in the present second by
port, and the Delay_Resp
frames still to be sent with their ports, and the timestamp queue. -/
structure NtmState where
  lastSeq : Option Nat
  sync : Option OpenSync
  ms : Option Int
  lastRx : Option Int
  delay : Option Rat
  outliers : Nat
  devs : List Rat
  req : Option DelayReq
  reqDue : Nat
  reqDrawn : Nat
  synced : Nat
  seqs : Tab Nat
  sentAt : Tab (Option Nat)
  answered : Tab Nat
  answerSec : Tab Nat
  replies : List (Nat × List Byte)
  tsq : List TsEntry
  deriving DecidableEq, Repr

def NtmState.init : NtmState :=
  { lastSeq := none, sync := none, ms := none, lastRx := none, delay := none, outliers := 0, devs := [], req := none,
    reqDue := 0, reqDrawn := 0, synced := 0, seqs := [], sentAt := [], answered := [], answerSec := [], replies := [], tsq := [] }

/-- An ingest stream (R387 to R390): whether a frame is open, its RTP timestamp or Loram FRAME, whether the buffer is unusable, the
ring position written, the last extended sequence number, whether packets were lost in the frame, the Loram segments and
bytes received, the latest Loram frame completed, and whether a commit waits for its INGEST job (LAST_STAMP, incomplete). -/
structure IngState where
  opened : Bool
  stamp : Nat
  bad : Bool
  buf : Nat
  seq : Option Nat
  gap : Bool
  segs : List Nat
  bytes : Nat
  doneFrame : Option Nat
  deriving DecidableEq, Repr

def IngState.init : IngState := ⟨false, 0, false, 0, none, false, [], 0, none⟩

/-- The stream engine beside its registers: the Swaths whose universes are still to be sent with Stream_Terminated, with the
sends left and when the next is due (2^-48 ns) (R382), and when discovery was last sent (R383). -/
structure StrState where
  term : List (Nat × Nat × Nat)
  discAt : Option Nat
  deriving DecidableEq, Repr

def StrState.init : StrState := ⟨[], none⟩

end Sys2Proof.Machine
end

