-- ==== Sys2Proof/Machine/Parts/Jobs.lean ====
section
/-!
DEFINITION. State of a region's scheduler (R199 to R238): its job store, spill ring, counters, domains, lists and
threads.
-/
namespace Sys2Proof.Machine

/-- The states of R203. RETIRED jobs leave the store. -/
inductive JobPhase where
  | waiting | ready | setAside | dispatched | completed
  deriving DecidableEq, Repr

/-- Where a descriptor came from (R199): a list, with its Swath, a register submission of a requester, the ingest
engine. -/
inductive JobSource where
  | list (swath frame : Nat) (auto : Bool)
  | host
  | core
  | ingest
  deriving DecidableEq, Repr

/-- Marks of a traced job (R601, R602): submission (2^-48 ns), and the instants of READY, DISPATCH and COMPLETE. -/
structure Trace where
  submit : Nat
  ready : Nat
  dispatch : Nat
  complete : Nat
  forced : Bool
  deriving DecidableEq, Repr

/-- A job: its descriptor words D0 to D7, source, phase, the order in which it entered READY, the order in which it
was dispatched, its executor (R241) while dispatched or completed, how often it was handed back (R224), the fault kind it will retire with, its dose sums (R142),
its trace, whether it was spilled, its number in the order of submission, and the merge epoch it captured (R374). -/
structure Job where
  d : List Word
  source : JobSource
  phase : JobPhase
  readyAt : Int
  sentAt : Nat
  executor : Nat
  returned : Nat
  kind : Option Nat
  sums : Tab Nat
  trace : Option Trace
  spilled : Bool
  id : Nat
  epoch : Nat
  deriving DecidableEq, Repr

/-- An ordering domain (R214 to R217). -/
structure Domain where
  head : Nat
  stalled : Bool
  deriving DecidableEq, Repr

def Domain.init : Domain := ⟨0, false⟩

/-- A list's reading (R208 to R210): descriptors read of the current launch, whether it is still being read, the launch
frame, its place in the order of launches, and the merge epoch captured at the launch. -/
structure ListRun where
  reading : Bool
  next : Nat
  frame : Nat
  auto : Bool
  order : Nat
  epoch : Nat
  deriving DecidableEq, Repr

def ListRun.init : ListRun := ⟨false, 0, 0, false, 0, 0⟩

/-- A thread (R233 to R236): 0 IDLE, 1 READY, 2 RUNNING; its core, messages pending, the order in which it became READY,
and the instant it began to run. -/
structure Thread where
  st : Nat
  core : Nat
  waiting : List Word
  readyAt : Nat
  deriving DecidableEq, Repr

def Thread.init : Thread := ⟨0, 0, [], 0⟩

/-- A descriptor in the spill ring (R229): its place in the ring, its source, its trace and
its number in the order of submission, and its merge epoch; the words stand in DRAM. -/
structure Spilled where
  slot : Nat
  source : JobSource
  trace : Option Trace
  id : Nat
  epoch : Nat
  deriving DecidableEq, Repr

/-- A region's scheduler. `stamp` orders entries to READY and launches; `signals` are decrements on their way (R205);
`back` counts jobs handed back, which stand before all others; `held` marks Swaths whose release is held by R210; `staging` holds SUB_D words by 8 * requester + k. -/
structure RegionState where
  jobs : List Job
  spill : List Spilled
  spillAt : Nat
  ctr : Tab Nat
  signals : List Nat
  dom : Tab Domain
  lists : Tab ListRun
  staging : Tab Word
  threads : Tab Thread
  held : List Nat
  stamp : Nat
  back : Nat
  deriving DecidableEq, Repr

def RegionState.init : RegionState := ⟨[], [], 0, [], [], [], [], [], [], [], 0, 0⟩

end Sys2Proof.Machine
end

