-- ==== Sys2Proof/Machine/Parts/Mgmt.lean ====
section
/-!
DEFINITION. State of the event recorder and the performance counters beside their registers (R576 to R602).
-/
namespace Sys2Proof.Machine

/-- A record being written (R581): its sequence number, its 512 bytes, its code, and its group when it is a statistics
record. -/
structure Drawer where
  seq : Nat
  data : List Byte
  code : Nat
  group : Option Nat
  deriving DecidableEq, Repr

/-- The samples of one statistics quantity in the open span (R580, R588). -/
structure StatQuantity where
  samples : Nat
  lo : Int
  hi : Int
  last : Int
  bins : List Nat
  deriving DecidableEq, Repr

def StatQuantity.empty : StatQuantity := ⟨0, 0, 0, 0, List.replicate 32 0⟩

/-- A closed span: when it began (2^-48 ns), the STAT_Q and STAT_BASE in force, and its five quantities. -/
structure StatSpan where
  began : Nat
  cfg : List (Word × Word)
  qs : List StatQuantity
  deriving DecidableEq, Repr

/-- A statistics group: when its span began (2^-48 ns), its five quantities, and the closed spans whose entries wait in the
pending queue, oldest first. -/
structure StatGroup where
  began : Nat
  open_ : List StatQuantity
  closed : List StatSpan
  deriving DecidableEq, Repr

def StatGroup.init : StatGroup := ⟨0, List.replicate 5 StatQuantity.empty, []⟩

/-- The recorder: trigger memory (R583), tokens spent of each code's bucket (R584), events dropped and lost since the
previous record began (R578), the THAWED mark, a FREEZE waiting for the record in progress, when FROZEN was set (2^-48 ns),
the record in progress, the statistics groups, and the scan after a start being due (R592). -/
structure EvrState where
  trig : Tab Word
  spent : Tab Nat
  dropped : Nat
  lost : Nat
  thawed : Bool
  freezing : Bool
  frozenAt : Nat
  writing : Option Drawer
  stats : Tab StatGroup
  scanDue : Bool
  deriving DecidableEq, Repr

def EvrState.init : EvrState := ⟨[], [], 0, 0, false, false, 0, none, [], true⟩

/-- Reset contents of the trigger memory (R583): EN 1, LIST 255, BURST 16 for each code, empty lists. -/
def trigReset (k : Nat) : Word := if k < 4096 then 0x0010FF01 else 0

/-- The counters (R594 to R600): 48-bit values, WRAPS, the CNT_HI latch and the staged high bits of each requester, the
instant of the last dump (2^-48 ns; 0 before the first), the cause of a gap still to be recorded (0 none), with the time and
UNCERT of the wake that ended it, dumps skipped since the previous record, and the submissions each region's tag generator has drawn (R601). -/
structure PmcState where
  cnt : Tab Nat
  wraps : Tab Nat
  hiLatch : Tab Nat
  hiStage : Tab Nat
  lastDump : Nat
  gapCause : Nat
  gapFrom : Nat
  gapUncert : Nat
  skipped : Nat
  drawn : Tab Nat
  deriving DecidableEq, Repr

def PmcState.init : PmcState := ⟨[], [], [], [], 0, 0, 0, 0, 0, []⟩

end Sys2Proof.Machine
end

