-- ==== Sys2Proof/Machine/Parts/Net.lean ====
section
/-!
DEFINITION. State of the network side beside its registers: the receive merge (R372 to R375).
-/
namespace Sys2Proof.Machine

/-- A source record of the receive merge (R373): its place r, the E1.31 CID (none for a DMX port, named by `port`), its
priority, the time of its latest packet (2^-48 ns), and the order in which that packet came. -/
structure MergeSource where
  place : Nat
  cid : Option Nat
  port : Nat
  prio : Nat
  seen : Nat
  order : Nat
  deriving DecidableEq, Repr

/-- The receive merge: records by input universe, the last sequence accepted from each E1.31 source as
(universe, CID, sequence), the order of packets, and the universes that are LIVE in the epoch of each result slot. -/
structure MergeState where
  sources : Tab (List MergeSource)
  seqs : List (Nat × Nat × Nat)
  order : Nat
  live : Tab (List Nat)
  deriving DecidableEq, Repr

def MergeState.init : MergeState := ⟨[], [], 0, []⟩

end Sys2Proof.Machine
end

