-- ==== Sys2Proof/Machine/Parts/Output.lean ====
section
/-!
DEFINITION. What leaves the device: read data, messages, frames and edges, in the order they leave. The list of them is
the model's own record of the outside view; the manual gives no such register.
-/
namespace Sys2Proof.Machine

/-- A wired output: ball SYNk (an output of the timeline), ball PXk, balls DMXk_TX and DMXk_DE. -/
inductive Wire where
  | syn (k : Nat) | px (k : Nat) | dmxTx (k : Nat) | dmxDe (k : Nat) | gate (channel : Nat) | field (port : Nat)
  deriving DecidableEq, Repr

/-- Instants count 2^-48 ns of the timeline. The level changes of a wire are those that its engine makes; the ball follows them
while the wire's driver is on (R280, R297, R309, R440, R447). -/
inductive Output where
  | read (value : Word)
  | msix (group : Nat) (addrHi addrLo data : Word)
  /-- A pulse of PPS_OUT (5) or FRAME_OUT (7): whether its active level is high, and its instants. -/
  | pulse (syn : Nat) (high : Bool) (start stop : Nat)
  /-- The level changes of LTC_OUT by the 80 bits of a frame: instants and levels. -/
  | ltc (edges : List (Nat × Bool))
  /-- The level changes of ball PXk by a frame in emission. -/
  | px (port : Nat) (edges : List (Nat × Bool))
  /-- The level changes of ball DMXk_TX by a packet or an RDM request. -/
  | dmx (port : Nat) (edges : List (Nat × Bool))
  /-- The level changes of ball DMXk_DE (R309, R320). -/
  | de (port : Nat) (edges : List (Nat × Bool))
  /-- What a wire was sending ends: from this instant on it holds the level given. -/
  | cut (wire : Wire) (level : Bool) (at_ : Nat)
  /-- The driver of a wire goes on or off (R280, R309). -/
  | driver (wire : Wire) (on : Bool) (at_ : Nat)
  /-- A pulse of the gate of a lamp channel: whether its active level is high (R479), and its instants. -/
  | gate (channel : Nat) (high : Bool) (start stop : Nat)
  /-- A frame that a field port puts on its segment, without FCS, and its start. -/
  | field (port start : Nat) (data : List Byte)
  /-- A frame that MAC m sends, without FCS, and its start. -/
  | eth (mac start : Nat) (data : List Byte)
  /-- A frame of a Tsudex lane (R539). -/
  | tsx (lane : Nat) (data : List Byte)
  deriving DecidableEq, Repr

/-- An output whose edges lie at launch instants, with each edge at the instant that `f` gives it. -/
def Output.placed (f : Nat → Nat) : Output → Output
  | .pulse k high start stop => .pulse k high (f start) (f stop)
  | .ltc l => .ltc (l.map (fun e => (f e.1, e.2)))
  | .px k l => .px k (l.map (fun e => (f e.1, e.2)))
  | .dmx k l => .dmx k (l.map (fun e => (f e.1, e.2)))
  | .de k l => .de k (l.map (fun e => (f e.1, e.2)))
  | .gate k high start stop => .gate k high (f start) (f stop)
  | .field k start data => .field k (f start) data
  | .eth m start data => .eth m (f start) data
  | .read v => .read v
  | .msix g h l d => .msix g h l d
  | .cut w v t => .cut w v t
  | .driver w v t => .driver w v t
  | .tsx l d => .tsx l d

end Sys2Proof.Machine
end

