-- ==== Sys2Proof/Machine/Parts/Pair.lean ====
section
/-!
DEFINITION. State of the redundant pair beside its registers (R524 to R575): the rails, the Tsudex link, what the
partner reported, the planned swap, the resynchronisation.
-/
namespace Sys2Proof.Machine

/-- A sequenced Tsudex frame that is not acknowledged (R540): its sequence number, type, plane and payload, the SYNC_GEN it
carries, and how often it was resent. -/
structure TsxFrame where
  seq : Nat
  type : Nat
  plane : Nat
  gen : Nat
  payload : List Byte
  resent : Nat
  deriving DecidableEq, Repr

/-- What the partner's latest HELLO reported (R526, R537). -/
structure PeerView where
  roleB : Bool
  activeRole : Bool
  own : Bool
  peer : Bool
  sync : Nat
  deriving DecidableEq, Repr

/-- A digest of a frame start (R551): Swath, FRAME_COUNT, content frame, the CRCs of the rectangles by mask, and OUT_CRC. -/
structure Digest where
  swath : Nat
  count : Nat
  frame : Nat
  mask : Nat
  rects : List Word
  out : Word
  deriving DecidableEq, Repr

/-- A planned swap (R564): requested at (2^-48 ns), its instant (1/1280 ns) once chosen, and whether SWAP_ACK came. -/
structure SwapPlan where
  asked : Nat
  at_ : Option Nat
  acked : Bool
  deriving DecidableEq, Repr

/-- The pair. Rails: the own rail, the peer rail, whether a holdoff claim waits its further 100 ns, whether the peer rail
was read high since the latest start, the instant from which the holdoff counts. Link: block lock and UP of each lane, the
next SEQ to send, the frames not acknowledged, the next SEQ expected, the frames held ahead, the fragments of an input received so far, whether one SEQ was resent 16
times. Time: T1 of the open exchange, the instant of the latest completed one, the latest |e|. Synchronisation: what the
partner reported, whether RESYNC_REQ is unanswered, whether RESYNC was written, the digests not yet compared (own and the active's), the starts' F + 1
made ready here and by the active, the cutover start, F + 1 released of each Swath at the cutover, whether a copy runs, its
next block, the digest of the convergence start, the clusters whose carries are still to be cleared, whether HW_STATE writes
are mirrored, whether the copy skips what is local. Swaps: the plan, the instant of a planned release whose check is due, the
instant since when the device is SYNCED, the latest swap, F + 1 of the latest content whose digest matched, Swaths that show
the safe scene. -/
structure RedState where
  own : Bool
  peer : Bool
  claiming : Bool
  peerSeen : Bool
  holdoffFrom : Nat
  lock0 : Bool
  lock1 : Bool
  up0 : Bool
  up1 : Bool
  txNext : Nat
  unacked : List TsxFrame
  rxNext : Nat
  rxHeld : List TsxFrame
  rxParts : List Byte
  dead : Bool
  t1 : Option Nat
  lastExchange : Option Nat
  errs : List Rat
  view : Option PeerView
  asked : Bool
  wanted : Bool
  ownDigests : List Digest
  peerDigests : List Digest
  ownReady : Tab Nat
  peerReady : Tab Nat
  cutover : Option Nat
  atCut : Tab Nat
  copying : Bool
  copied : Nat
  convergeAt : Option (Nat × Nat)
  carryReset : List Nat
  mirrorHw : Bool
  skipLocal : Bool
  plan : Option SwapPlan
  pathCheck : Option Nat
  syncedSince : Option Nat
  lastSwap : Option Nat
  matched : Tab Nat
  scene : List Nat
  deriving DecidableEq, Repr

def RedState.init : RedState :=
  { own := false, peer := false, claiming := false, peerSeen := false, holdoffFrom := 0, lock0 := false, lock1 := false,
    up0 := false, up1 := false, txNext := 0, unacked := [], rxNext := 0, rxHeld := [], rxParts := [], dead := false, t1 := none,
    lastExchange := none, errs := [], view := none, asked := false, wanted := false, ownDigests := [], peerDigests := [], ownReady := [],
    peerReady := [], cutover := none, atCut := [], copying := false, copied := 0, convergeAt := none, carryReset := [],
    mirrorHw := false, skipLocal := false, plan := none, pathCheck := none, syncedSince := none, lastSwap := none,
    matched := [], scene := [] }

end Sys2Proof.Machine
end

