-- ==== Sys2Proof/Machine/Parts/Ports.lean ====
section
/-!
DEFINITION. State of the outputs beside their registers: pixel ports, DMX ports, lamp clusters and channels, and field
ports (R278 to R329, R428 to R481).
-/
namespace Sys2Proof.Machine

/-- A FILL that completed into a slot (R290): its content frame and its number of elements. -/
structure Fill where
  frame : Nat
  count : Nat
  deriving DecidableEq, Repr

/-- A frame or packet in emission (R284, R310): its content frame, its slot, and when it ends (1/1280 ns). -/
structure Emission where
  frame : Nat
  slot : Nat
  stop : Nat
  deriving DecidableEq, Repr

/-- An output with two slots: their latest FILLs and, where the slots lie outside region SRAM, their contents; the frame
in emission, the end of the latest one, the content frame emitted last since ENABLE, whether ENABLE was refused (R283,
R475), the PIN_STATE held since the unit was fenced (R280), and how many samples of R298 or R321 the driver has let the latest
emission take that are not reported yet. -/
structure PortState where
  fill0 : Option Fill
  fill1 : Option Fill
  buf0 : List Nat
  buf1 : List Nat
  emit : Option Emission
  lastEnd : Nat
  emitted : Option Nat
  bad : Bool
  held : Nat
  samples : Nat
  deriving DecidableEq, Repr

def PortState.init : PortState := ⟨none, none, [], [], none, 0, none, false, 0, 0⟩

/-- An RDM transaction that became BUSY (R317 to R320): its kind, when its message begins and ends, when DE falls, when its
listen window W ends (1/1280 ns), and the changes of TX that its message makes. -/
structure RdmRun where
  kind : Nat
  sendAt : Nat
  sendEnd : Nat
  listenAt : Nat
  windowEnd : Nat
  wave : List (Nat × Bool)
  deriving DecidableEq, Repr

/-- A DMX port beside its slots: the instant of the latest accepted packet (2^-48 ns), the latest RDM transaction, and when the
listen window of the one before it ends (1/1280 ns). -/
structure DmxState where
  lastRx : Nat
  run : Option RdmRun
  openTo : Nat
  deriving DecidableEq, Repr

def DmxState.init : DmxState := ⟨0, none, 0⟩

/-- A pattern engine (R463 to R467): V, the word pointer, its state (0 IDLE, 1 DELAY, 2 RUN, 3 DONE, 4 FAULT), the fixes
still to wait or the fixes taken of the present word, V before a RAMP, and the busy loop counter (word, count). -/
structure Engine where
  v : Nat
  pc : Nat
  st : Nat
  wait : Nat
  taken : Nat
  v0 : Nat
  loop : Option (Nat × Nat)
  deriving DecidableEq, Repr

def Engine.init : Engine := ⟨0, 0, 0, 0, 0, 0, none⟩

/-- A lamp cluster (R447 to R453, R463 to R471): the frame values in force, the engine values in force, the frames
launched whose values wait for a period boundary (launch, values if any, engine values), the engine values of the starts
fixed, the engines, the latest period boundary (1/1280 ns), the trip state, the derating and trip that wait for a
boundary, the latest measurement (1/16 °C), when the gates entered RELEASED and whether their keepers are off. -/
structure ClusterState where
  force : List Nat
  patForce : List Nat
  launched : List (Nat × Option (List Nat) × List Nat)
  fixedV : List (Nat × List Nat)
  engines : List Engine
  boundary : Nat
  tripped : Bool
  update : Option (Nat × Bool)
  measured : Option Int
  releasedAt : Option Nat
  keeperOff : Bool
  deriving DecidableEq, Repr

def ClusterState.init : ClusterState :=
  ⟨List.replicate 8 0, List.replicate 8 0, [], [], List.replicate 8 Engine.init, 0, false, none, none, some 0, false⟩

/-- A lamp channel (R454 to R462): its carry, the class and length of the run of samples, the instant of its latest
on-sample (1/1280 ns), whether it has one, when the latch takes effect, when a RETRY takes effect, whether the gate was
forced inactive in the latest period, the pulse of the latest period (start, steps), the end of the pulse before it, and
the instant of the latest off-sample. -/
structure LampState where
  carry : Int
  runClass : Nat
  runLength : Nat
  lastOn : Nat
  hasOn : Bool
  latchAt : Option Nat
  retryAt : Option Nat
  off : Bool
  pulseAt : Nat
  pulse : Nat
  prevEnd : Nat
  lastOff : Nat
  deriving DecidableEq, Repr

def LampState.init : LampState := ⟨0, 0, 0, 0, false, none, none, false, 0, 0, 0, 0⟩

/-- A frame that a field port sends (R436, R437): its bytes without FCS, whether it is a scheduled one, and the
collisions it has met. -/
structure FieldFrame where
  data : List Byte
  scheduled : Bool
  collisions : Nat
  deriving DecidableEq, Repr

/-- A field port (R432 to R442): scheduled frames released and not yet sent, the frame being sent or retried, whether it
is on the wire, the attempts' jitter wait until (1/1280 ns), and the content frame released last. -/
structure FieldState where
  released : List (List Byte)
  current : Option FieldFrame
  onWire : Bool
  waitUntil : Nat
  lastFrame : Option Nat
  deriving DecidableEq, Repr

def FieldState.init : FieldState := ⟨[], none, false, 0, none⟩

end Sys2Proof.Machine
end

