-- ==== Sys2Proof/Machine/Parts/Power.lean ====
section
/-!
DEFINITION. State of the power block and the Heath island, of the start sequence, of the thermal and calibration blocks and
of firmware update, beside their registers (R608 to R708), and the JTAG port (R729).
-/
namespace Sys2Proof.Machine

/-- Where the device stands between on and off: on (Run or Doze), entering Retain or Heath (steps 2 and 3 of R613), asleep,
PWR_EN_IO risen, PWR_EN_CORE risen, restoring after a wake from Retain, shut down by temperature (R641). -/
inductive PwrPhase where
  | on | entering | released | asleep | ioRising | coreRising | restoring | shutdown
  deriving DecidableEq, Repr

/-- ACLK runs in this phase. -/
def PwrPhase.clocked : PwrPhase → Bool
  | .on | .entering | .released | .restoring => true
  | .asleep | .ioRising | .coreRising | .shutdown => false

/-- The power block: the phase, the sleep being entered or left (2 Retain, 3 Heath, 0 neither), whether the start that
follows a wake restores nothing (a RESET wake), whether steps 2 and 3 of R613 have ended by their limits, the supply enables,
WAKE_N after a wake until the link is in L0, the RESET_CAUSE bits of a cold start, and when Doze began (2^-48 ns). -/
structure PwrState where
  phase : PwrPhase
  target : Nat
  fresh : Bool
  msgDone : Bool
  recDone : Bool
  ioOn : Bool
  coreOn : Bool
  wakeN : Bool
  coldCause : Nat
  dozeAt : Nat
  deriving DecidableEq, Repr

def PwrState.init : PwrState := ⟨.on, 0, false, false, false, true, true, false, 1, 0⟩

/-- What step 5 of R613 captured: the time (2^-48 ns), UNCERT, and the Heath tick. -/
structure Captured where
  time : Nat
  uncert : Nat
  tick : Nat
  deriving DecidableEq, Repr

/-- The Heath island: HTICK at the edge that came at timeline instant `edge`, the HTICK_HI latch of each requester, seal
checks failed in a row, whether code 0x840 waits for the next Run, and whether the firmware has loaded INCR_FREE since the island's
reset. -/
structure HthState where
  tick : Nat
  edge : Int
  hiLatch : Tab Nat
  sealMisses : Nat
  sealDue : Bool
  loaded : Bool
  deriving DecidableEq, Repr

def HthState.init : HthState := ⟨0, 0, [], 0, false, false⟩

/-- The register image of a Heath entry (R46, R69): every register that differed from its reset value, live and shadow, the
trigger memory, the counters with their WRAPS, and the owners and levels behind IN_SERVICE and PENDING. -/
structure RegImage where
  live : Tab Word
  shadow : Tab Word
  trig : Tab Word
  cnt : Tab Nat
  wraps : Tab Nat
  owner : Tab Nat
  level : Tab Bool
  deriving DecidableEq, Repr

def RegImage.empty : RegImage := ⟨[], [], [], [], [], [], []⟩

/-- The start sequence (R697 to R703): the RESET_CAUSE bits that a start has not loaded yet, the stored register image, whether one has been written,
whether the present start restores it, whether DRAM was trained since the last package reset, when step 8 began (2^-48 ns), and
whether OUT_WAIT_MS has passed, what step 5 of R613 captured, and since when the watchdog counts (2^-48 ns). -/
structure BootState where
  cause : Nat
  image : RegImage
  stored : Bool
  restore : Bool
  trained : Bool
  step8 : Nat
  waited : Bool
  captured : Option Captured
  wdtFrom : Nat
  deriving DecidableEq, Repr

def BootState.init : BootState := ⟨1, RegImage.empty, false, false, false, 0, false, none, 0⟩

/-- The thermal block (R630 to R645): measurements in a row by which each replica (3 t + r) differed, which rows of R635 hold,
DRAM_HOT, the automatic level of each region, whether each region's condition of R639 has not cleared, analog measurements in
a row that disagree with T_DIE, those at 130 °C or below during a shutdown, the last threshold crossed (R645), the hottest
oscillator of each unit page (16-bit codes). -/
structure ThmState where
  apart : Tab Nat
  lowHold : Bool
  lowWarn : Bool
  highWarn : Bool
  highThrottle : Bool
  level : Tab Nat
  hot : Tab Bool
  disagree : Nat
  cool : Nat
  thresh : Nat
  unit : Tab Nat
  deriving DecidableEq, Repr

def ThmState.init : ThmState := ⟨[], false, false, false, false, [], [], 0, 0, 0xFF, []⟩

/-- A calibration run of both crystals (R656): its source, the seconds of its window and when the window began. -/
structure TimeRun where
  src : Nat
  secs : Nat
  from_ : Nat
  deriving DecidableEq, Repr

/-- The calibration block (R646 to R661): the chain of each interpolator, the pair, off and vref of each sense channel (off as
an 8-bit code), forced elements (numbered as FORCED of R660), excluded replicas (3 t + r), the number of the next history
record, the source of the latest time run, the run in progress, whether an analog run is in progress, since when every margin
is above MARGIN_HIGH, regions (4 is CORE) with an ageing floor and since when their margin is above, the VCORE request that has
not settled, and whether automatic steps have stopped, and when the analog run in progress began. -/
structure CalState where
  chain : Tab Nat
  pair : Tab Nat
  off : Tab Nat
  vref : Tab Nat
  forced : Tab Bool
  excluded : Tab Bool
  nextSeq : Nat
  src : Nat
  run : Option TimeRun
  analog : Bool
  above : Option Nat
  floor : Tab Bool
  floorAbove : Tab (Option Nat)
  avsAsked : Option Nat
  avsStopped : Bool
  analogAt : Nat
  deriving DecidableEq, Repr

/-- vref before the first analog run: 4,000, which corrects nothing (R653; log entry 57). -/
def vrefInit : Nat := 4000

def CalState.init : CalState := ⟨[], [], [], [], [], [], 0, 0xFF, none, false, none, [], [], none, false, 0⟩

/-- Firmware update (R674 to R693): the fuses (KEY and PUB programmed, revoked, by slot; their values as bytes, in the order
that AES-256 and SHA-384 use; MIN_SECVER), the programming in progress (slot, kind) with what it programs, the source of the
staging in progress, whether the partner stages and the MAGIC it sent, the next part of a copy to the partner, the Golden
write in progress, and the identity of the known partner in the persistent configuration. -/
structure FwuState where
  keyDone : Tab Bool
  pubDone : Tab Bool
  revoked : Tab Bool
  key : Tab (List Byte)
  pub : Tab (List Byte)
  minSec : Nat
  fusing : Option (Nat × Nat)
  fuseData : List Byte
  stageAt : Nat
  stageLen : Nat
  peerStage : Bool
  peerMagic : List Byte
  sending : Option Nat
  golden : Bool
  known : Tab Word
  deriving DecidableEq, Repr

def FwuState.init : FwuState := ⟨[(0, true)], [(0, true)], [], [], [], 0, none, [], 0, 0, false, [], none, false, []⟩

/-- JTAG instructions (R729). -/
inductive JtagInstr where
  | bypass | idcode | samplePreload | extest | clamp | highz
  deriving DecidableEq, Repr

end Sys2Proof.Machine
end

