-- ==== Sys2Proof/Machine/Parts/Swath.lean ====
section
/-!
DEFINITION. State of a Swath beside its registers (R250 to R272), and the launches that a fixed start gives its outputs
(R95, R97).
-/
namespace Sys2Proof.Machine

/-- A released content frame that no start shows yet (R250 to R252). -/
structure Released where
  frame : Nat
  ready : Bool
  deriving DecidableEq, Repr

/-- A fixed start not yet reached (R256, R260): its instant (1/1280 ns), the content frame, whether it repeats, the m of
its candidate, the anchor that it consumes, and the anchor index that stood before it. -/
structure FixedStart where
  start : Nat
  frame : Nat
  repeated : Bool
  m : Int
  anchor : Option Int
  deriving DecidableEq, Repr

/-- A Swath: whether a start from STOPPED is wanted (R265), whether any frame was released or shown, the released frames
waiting, the content of the latest fixed start, the starts fixed, the latest start made and its content, the first
starts of recent frames (R251), the first anchor not consumed (none after a change of the anchor settings, R254), the
causes of HOLDING (region, master) and the instant its limit expires (R267), the rectangles whose result is being
computed and the content frame of that computation (R271, R272), the index j of the next frame start since the Swath
entered RUNNING (R143), the releases with their merge epochs that the partner has told and R210 holds, and whether the Swath
entered STOPPED with STOP at 0, so that only STOP 1 and then STOP 0 lets it leave (R265). -/
structure SwtState where
  want : Bool
  everReleased : Bool
  frames : List Released
  lastFixed : Option Nat
  fixed : List FixedStart
  lastStart : Option Nat
  shown : Option Nat
  firsts : List (Nat × Nat)
  nextAnchor : Option Int
  heldRegions : List Nat
  heldMaster : Bool
  holdEnd : Option Nat
  holdFrom : Nat
  crcBusy : List Nat
  crcFrame : Nat
  jNext : Nat
  told : List (Nat × Nat)
  needStop : Bool
  deriving DecidableEq, Repr

def SwtState.init : SwtState := ⟨false, false, [], none, [], none, none, [], none, [], false, none, 0, [], 0, 0, [], false⟩

/-- A launch that an output owes (R95, R97): its Swath, the frame start and the launch (1/1280 ns), the content frame,
whether the start repeats, FRAME_COUNT as it stands after
that start (R380), and, once its slot is checked (R292), the content frame to emit, if any. -/
structure Launch where
  swath : Nat
  start : Nat
  at_ : Nat
  frame : Nat
  repeated : Bool
  count : Nat
  choice : Option (Option Nat)
  deriving DecidableEq, Repr

end Sys2Proof.Machine
end

