-- ==== Sys2Proof/Machine/State.lean ====
section
/-!
DEFINITION. The state of the device as plain data, and its value right after reset.
-/
namespace Sys2Proof.Machine

/-- Reasons for which the machine would stop. The manual gives every command an effect, so no meaning raises one; the
type stands so that a claim can say so. -/
inductive Fault where
  /-- Raised by no meaning of this model: no rule of the manual stops the whole device without a defined next state.
  Safe, because nothing that the manual lets run ends here. -/
  | unreachable
  deriving DecidableEq, Repr

/-- Reasons for which a command has no next state. -/
inductive Refusal where
  /-- Raised by `exec` alone, for a command whose meaning is not written. Safe: nothing is claimed of it. -/
  | notModelled (mnemonic : String)
  deriving DecidableEq, Repr

structure State where
  /-- The commands that are waiting, first in, first out. -/
  pending : List Instr
  /-- The live copy of every register, by `regKey`; an unlisted one holds its reset value (R53, R62, R68). -/
  live : Tab Word
  /-- The shadow copies that differ from their live copies (R62); an unlisted shadow equals its live copy. -/
  shadow : Tab Word
  /-- The commit state of each group, by its first page (R64, R65). -/
  armed : Tab Arm
  /-- FeRAM, region SRAM and DRAM, by device address (R42). -/
  mem : Tab Byte
  /-- Program memory, word w of region n at 8192 n + w (R37). -/
  prog : Tab (BitVec 64)
  /-- The 44 queues, queue q of page QUE[j] at 4 j + q (R482). -/
  queues : Tab Queue
  /-- Pins, fences and resets of the device. -/
  dev : DevState
  /-- The interrupt controller beside its registers. -/
  icu : IcuState
  /-- The timeline and its servo. -/
  tln : TlnState
  /-- The sync inputs and outputs, by SYN number. -/
  syn : Tab SynState
  /-- The event recorder beside its registers. -/
  evr : EvrState
  /-- The performance counters beside their registers. -/
  pmc : PmcState
  /-- What has left the device, newest first: the model's own record. -/
  out : List Output
  /-- The Swaths, by number. -/
  swt : Tab SwtState
  /-- The launches that outputs owe, by output: pixel port k, 64 + DMX port k, 80 + lamp cluster n, 96 + field port k, 128 + stream entry e. -/
  launch : Tab (List Launch)
  /-- The latest three snapshots of each pixel map, newest first (R124, R125). -/
  snaps : Tab (List Snap)
  /-- The staging register behind PROG_DATA_LO of each CMP instance (R197). -/
  progStage : Tab Word
  /-- The Pixel Lane Units, by number. -/
  plu : Tab PluState
  /-- The region schedulers. -/
  region : Tab RegionState
  /-- The outputs with slots, by output: pixel port k, 64 + DMX port k, 80 + lamp cluster n, 96 + field port k. -/
  port : Tab PortState
  /-- Receivers and RDM transactions of the DMX ports. -/
  dmx : Tab DmxState
  /-- The lamp clusters. -/
  cluster : Tab ClusterState
  /-- The lamp channels. -/
  lamp : Tab LampState
  /-- The transmitters of the field ports. -/
  field : Tab FieldState
  /-- The pair: rails, Tsudex link, lockstep and swaps. -/
  red : RedState
  /-- The receive merge. -/
  merge : MergeState
  /-- The Ethernet MACs. -/
  mac : Tab MacState
  /-- The internal bridge. -/
  bridge : BridgeState
  /-- Network time. -/
  ntm : NtmState
  /-- The ingest streams. -/
  ing : Tab IngState
  /-- The stream engine. -/
  str : StrState
  /-- The power block beside its registers. -/
  pwr : PwrState
  /-- The Heath island beside its registers. -/
  hth : HthState
  /-- The start sequence and the stored register image. -/
  boot : BootState
  /-- The thermal block beside its registers. -/
  thm : ThmState
  /-- The calibration block beside its registers. -/
  cal : CalState
  /-- The fuses, staging and the known partner. -/
  fwu : FwuState
  /-- The JTAG instruction loaded; IEEE 1149.1 loads IDCODE at reset (log entry 58). -/
  jtag : JtagInstr
  deriving DecidableEq, Repr

/-- The machine right after a package reset: every register at its reset value (R68), nothing pending, memory with
nothing listed. The log names the values that the manual does not state. -/
def State.reset : State := {
    pending := [],
    live := [],
    shadow := [],
    armed := [],
    mem := [],
    prog := [],
    queues := [],
    dev := DevState.init,
    icu := IcuState.init,
    tln := TlnState.init,
    syn := [],
    evr := EvrState.init,
    pmc := PmcState.init,
    out := [],
    swt := [],
    launch := [],
    snaps := [],
    progStage := [],
    plu := [],
    region := [],
    port := [],
    dmx := [],
    cluster := [],
    lamp := [],
    field := [],
    red := RedState.init,
    merge := MergeState.init,
    mac := [],
    bridge := BridgeState.init,
    ntm := NtmState.init,
    ing := [],
    str := StrState.init,
    pwr := PwrState.init,
    hth := HthState.init,
    boot := BootState.init,
    thm := ThmState.init,
    cal := CalState.init,
    fwu := FwuState.init,
    jtag := JtagInstr.idcode }

end Sys2Proof.Machine
end

