-- ==== Sys2Proof/Machine/Bits.lean ====
section
/-!
DEFINITION. Bit ranges, signed readings, byte orders (R8, R9, R10), and the roundings that the rules name or leave open.
-/
namespace Sys2Proof.Machine

/-- The value of bit range `f` of a word. -/
def bits (w : Word) (f : Field) : Nat := (w.toNat / 2 ^ f.2) % 2 ^ (f.1 + 1 - f.2)

/-- Bit `n` of a word. -/
def bit (w : Word) (n : Nat) : Bool := w.toNat.testBit n

/-- The word with bit range `f` set to `v` (taken modulo the range's size). -/
def putBits (w : Word) (f : Field) (v : Nat) : Word :=
  let size := 2 ^ (f.1 + 1 - f.2)
  BitVec.ofNat 32 (w.toNat - bits w f * 2 ^ f.2 + (v % size) * 2 ^ f.2)

/-- The word with bit `n` set. -/
def setBit (w : Word) (n : Nat) : Word := w ||| BitVec.ofNat 32 (2 ^ n)

/-- The word with bit `n` cleared. -/
def clearBit (w : Word) (n : Nat) : Word := w &&& ~~~ BitVec.ofNat 32 (2 ^ n)

/-- The low `n` bits of `x` read as two's complement (R9). -/
def signed (n x : Nat) : Int :=
  let y := x % 2 ^ n
  if y < 2 ^ (n - 1) then (y : Int) else (y : Int) - (2 ^ n : Nat)

/-- The two's-complement code of `x` in `n` bits. -/
def unsign (n : Nat) (x : Int) : Nat := (x % (2 ^ n : Nat)).toNat

/-- `x` saturated to the signed range of `n` bits. -/
def satSigned (n : Nat) (x : Int) : Int :=
  if x < -(2 ^ (n - 1) : Nat) then -(2 ^ (n - 1) : Nat)
  else if x > (2 ^ (n - 1) : Nat) - 1 then (2 ^ (n - 1) : Nat) - 1 else x

/-- `x` clamped to [lo, hi]. -/
def clampInt (lo hi x : Int) : Int := if x < lo then lo else if x > hi then hi else x

/-- The low `n` bytes of `x`, least significant first (R10, structures). -/
def leBytes : Nat → Nat → List Byte
  | 0, _ => []
  | n + 1, x => BitVec.ofNat 8 x :: leBytes n (x / 256)

/-- The value of little-endian bytes. -/
def leVal : List Byte → Nat
  | [] => 0
  | b :: t => b.toNat + 256 * leVal t

/-- The low `n` bytes of `x`, most significant first (R10, wires). -/
def beBytes (n x : Nat) : List Byte := (leBytes n x).reverse

/-- The value of big-endian bytes. -/
def beVal (l : List Byte) : Nat := leVal l.reverse

/-- `n` bytes of `l` from offset `o`, reading 0 past its end. -/
def slice (l : List Byte) (o n : Nat) : List Byte :=
  let x := (l.drop o).take n
  x ++ List.replicate (n - x.length) 0

/-- Big-endian field of a frame or message. -/
def beAt (l : List Byte) (o n : Nat) : Nat := beVal (slice l o n)

/-- Little-endian field of a structure. -/
def leAt (l : List Byte) (o n : Nat) : Nat := leVal (slice l o n)

/-- num / den rounded up. -/
def ceilDiv (num den : Nat) : Nat := (num + den - 1) / den

/-- Round half to even of num / den (RHE of the composition rules). -/
def rhe (num : Int) (den : Nat) : Int :=
  let q := num / (den : Int)
  let r := num % (den : Int)
  if 2 * r < den then q else if 2 * r > den then q + 1 else if q % 2 = 0 then q else q + 1

/-- A rounding that no rule states: one of the two integers next to num / den, and the quotient itself when it is whole.
Which one is open (log entry 12). `tag` names the rule. -/
def roundOpen (tag : Nat) (num : Int) (den : Nat) : Int :=
  let q := num / (den : Int)
  if num % (den : Int) = 0 then q else if Config.roundsUp tag num den then q + 1 else q

/-- The size of a rational. -/
def ratAbs (x : Rat) : Rat := if x < 0 then -x else x

end Sys2Proof.Machine
end

