-- ==== Sys2Proof/Machine/Time.lean ====
section
/-!
DEFINITION. Times: the timeline counts 2^-48 ns (R80), launches are computed in 1/1280 ns (R95), and registers, packets
and memory carry TIMEVALs (R74, R75, R96).
-/
namespace Sys2Proof.Machine

/-- A TIMEVAL (R74). -/
structure TimeVal where
  s : Nat
  ns : Nat
  frac : Nat
  deriving DecidableEq, Repr

/-- Timeline units in one nanosecond. -/
def NS : Nat := 2 ^ 48

/-- Launch units in one nanosecond (R95). -/
def LU : Nat := 1280

def SEC : Nat := 1000000000

/-- Timeline value (2^-48 ns) as a TIMEVAL, the fraction truncated to 1/256 ns (R81). -/
def timeValOf (t : Nat) : TimeVal :=
  ⟨t / (SEC * NS) % 2 ^ 48, t / NS % SEC, t / 2 ^ 40 % 256⟩

/-- A TIMEVAL as a timeline value. -/
def TimeVal.time (v : TimeVal) : Nat := (v.s * SEC + v.ns) * NS + v.frac * 2 ^ 40

/-- A TIMEVAL in launch units: a TIME_FRAC f counts as 5 f (R95). -/
def TimeVal.units (v : TimeVal) : Nat := (v.s * SEC + v.ns) * LU + 5 * v.frac

/-- STAMP32 of a timeline value (R77). -/
def stamp32 (t : Nat) : Nat := t / NS % 2 ^ 32

/-- A timeline value in launch units, rounded down. -/
def unitsOf (t : Nat) : Nat := t * 5 / 2 ^ 40

/-- The first timeline value at or after an instant in launch units. -/
def timeOfUnits (u : Nat) : Nat := ceilDiv (u * 2 ^ 40) 5

/-- Rounding to the placement grid of 64 units: nearest, a tie to the later (R95). -/
def roundGrid (x : Int) : Int := (x + 32) / 64 * 64

/-- `roundGrid` of an exact instant. -/
def roundGridRat (x : Rat) : Int := ((x + 32) / 64).floor * 64

/-- An instant in launch units that is not before the epoch, as a timeline value. -/
def timeOfGrid (u : Int) : Nat := timeOfUnits u.toNat

/-- TIME_FRAC of grid step g (R96). -/
def gridFrac (g : Nat) : Nat :=
  [0, 13, 26, 38, 51, 64, 77, 90, 102, 115, 128, 141, 154, 166, 179, 192, 205, 218, 230, 243].getD g 0

/-- A grid instant (launch units, a multiple of 64) as a TIMEVAL (R96). -/
def gridTimeVal (u : Nat) : TimeVal :=
  ⟨u / LU / SEC % 2 ^ 48, u / LU % SEC, gridFrac (u % LU / 64)⟩

/-- A TIMEVAL in device memory: 12 bytes (R75). -/
def TimeVal.memBytes (v : TimeVal) : List Byte :=
  leBytes 4 v.ns ++ leBytes 4 v.s ++ leBytes 2 (v.s / 2 ^ 32) ++ leBytes 2 v.frac

/-- A TIMEVAL on a wire: 12 bytes in network order (R75). -/
def TimeVal.wireBytes (v : TimeVal) : List Byte :=
  beBytes 6 v.s ++ beBytes 4 v.ns ++ beBytes 1 v.frac ++ [0]

/-- The TIMEVAL of 12 bytes of device memory. -/
def TimeVal.ofMem (l : List Byte) : TimeVal :=
  ⟨leAt l 4 4 + 2 ^ 32 * leAt l 8 2, leAt l 0 4 % 2 ^ 30, leAt l 10 1⟩

/-- The TIMEVAL of 12 bytes of a wire. -/
def TimeVal.ofWire (l : List Byte) : TimeVal := ⟨beAt l 0 6, beAt l 6 4, beAt l 10 1⟩

/-- Extends a STAMP32 to the time nearest a reference (R77), in ns. -/
def extendStamp (refNs stamp : Nat) : Nat :=
  let d : Int := signed 32 (((stamp : Int) - refNs) % 2 ^ 32).toNat
  ((refNs : Int) + d).toNat

end Sys2Proof.Machine
end

