-- ==== Sys2Proof/Machine/Ops.lean ====
section
/-!
DEFINITION. The operations that every block shares: reading and writing registers and memory, setting faults, raising
interrupt sources, counting, and raising recorder triggers.
-/
namespace Sys2Proof.Machine

/-! ### Registers -/

/-- The live copy of a register. -/
def State.reg (s : State) (page off : Nat) : Word := Tab.get resetVal s.live (regKey page off)

/-- The shadow copy of a register (R62). -/
def State.shd (s : State) (page off : Nat) : Word :=
  Tab.get (fun k => Tab.get resetVal s.live k) s.shadow (regKey page off)

/-- The live copy as a number. -/
def State.nat (s : State) (page off : Nat) : Nat := (s.reg page off).toNat

/-- A field of the live copy. -/
def State.fld (s : State) (page off : Nat) (f : Field) : Nat := bits (s.reg page off) f

/-- A bit of the live copy. -/
def State.flag (s : State) (page off n : Nat) : Bool := bit (s.reg page off) n

/-- A 40-bit address held in a LO and HI register pair. -/
def State.addr (s : State) (page lo hi : Nat) : Nat := s.nat page lo + 2 ^ 32 * s.nat page hi

/-- Sets the live copy; a shadow that equalled it follows, and one that now equals it is listed no longer. -/
def State.setReg (s : State) (page off : Nat) (v : Word) : State :=
  { s with
    live := Tab.set resetVal s.live (regKey page off) v,
    shadow := if s.shd page off = v then Tab.erase s.shadow (regKey page off) else s.shadow }

/-- Sets the shadow copy. -/
def State.setShd (s : State) (page off : Nat) (v : Word) : State :=
  { s with shadow := Tab.set (fun k => Tab.get resetVal s.live k) s.shadow (regKey page off) v }

/-- Sets both copies (a write by hardware of a shadowed register). -/
def State.setBoth (s : State) (page off : Nat) (v : Word) : State :=
  { s with live := Tab.set resetVal s.live (regKey page off) v, shadow := Tab.erase s.shadow (regKey page off) }

def State.setNat (s : State) (page off n : Nat) : State := s.setReg page off (BitVec.ofNat 32 n)

def State.setFld (s : State) (page off : Nat) (f : Field) (n : Nat) : State :=
  s.setReg page off (putBits (s.reg page off) f n)

def State.setFlag (s : State) (page off n : Nat) (b : Bool) : State :=
  s.setReg page off (if b then setBit (s.reg page off) n else clearBit (s.reg page off) n)

/-- Adds to a wrapping counter register. -/
def State.addReg (s : State) (page off k : Nat) : State := s.setReg page off (s.reg page off + BitVec.ofNat 32 k)

/-- Adds one to a wrapping counter register. -/
def State.inc (s : State) (page off : Nat) : State := s.addReg page off 1

/-! ### Page header fields -/

/-- STATE of a page: 0 OFF, 1 ACTIVE, 2 STOPPED, 3 FAILED (R58). -/
def State.pageState (s : State) (page : Nat) : Nat := s.fld page PAGE_STATUS (1, 0)
def State.setPageState (s : State) (page n : Nat) : State := s.setFld page PAGE_STATUS (1, 0) n
/-- PLU `k` is FAILED: its own page reads FAILED, or its cluster's does (R18; log entry 123). -/
def State.pluFailed (s : State) (k : Nat) : Bool := s.pageState (pgPLU k) == 3 || s.pageState (pgPLC (k / 2)) == 3
def State.enabled (s : State) (page : Nat) : Bool := s.flag page PAGE_CTRL 0
/-- STOP acts: it is set, or it was cleared while the group was ARMED (R67). -/
def State.stopSet (s : State) (page : Nat) : Bool := s.flag page PAGE_CTRL 1 || s.dev.unstop.contains page
def State.active (s : State) (page : Nat) : Bool := s.pageState page == 1
/-- A field of PAGE_STATUS.BLOCK_STATUS. -/
def State.sts (s : State) (page : Nat) (f : Field) : Nat := s.fld page PAGE_STATUS f
def State.setSts (s : State) (page : Nat) (f : Field) (n : Nat) : State := s.setFld page PAGE_STATUS f n

/-- The system state of R701: 0 START, 1 RUN, 2 TEST, 3 RECOVERY. -/
def State.sysState (s : State) : Nat := s.fld pgSYS Sys.SYS_STATE (1, 0)

/-- The power state as PWR_STATE reports it: 0 RUN, 1 DOZE, 2 ENTERING, 3 WAKING (R626). -/
def State.pwrState (s : State) : Nat := s.sts pgPWR Pwr.S_PWR_STATE

/-! ### Memory (R42) -/

def FERAM_BASE : Nat := 0x0001000000
def SRAM_BASE : Nat := 0x0002000000
def DRAM_BASE : Nat := 0x0100000000
def DRAM_END : Nat := 0x0300000000

/-- The address lies in FeRAM, region SRAM or DRAM. -/
def isMemory (a : Nat) : Bool :=
  (decide (FERAM_BASE ≤ a) && decide (a < 0x0003000000)) || (decide (DRAM_BASE ≤ a) && decide (a < DRAM_END))

def isDram (a : Nat) : Bool := decide (DRAM_BASE ≤ a) && decide (a < DRAM_END)
def isFeram (a : Nat) : Bool := decide (FERAM_BASE ≤ a) && decide (a < SRAM_BASE)
def isSram (a : Nat) : Bool := decide (SRAM_BASE ≤ a) && decide (a < 0x0003000000)

/-- What a byte that nothing has written reads as: 0, but in the Golden slot, which holds an image that no rule gives. Region
SRAM is cleared to 0 by its reset (R18); for DRAM and the rest of FeRAM the manual gives no contents (log entry 2). -/
def memDefault (a : Nat) : Byte := if FERAM_BASE ≤ a ∧ a < 0x0001400000 then Config.factoryImage (a - FERAM_BASE) else 0

/-- The register-image part of FeRAM (R46). -/
def isImage (a : Nat) : Bool := decide (FERAM_BASE + 0x0F00000 ≤ a) && decide (a < FERAM_BASE + 0x0FC0000)

/-- The byte at a device address; a reserved address reads 0 (R43). The register-image part holds the image that the latest Heath
entry wrote, in blocks whose byte layout R46 and R613 do not give (log entry 55). -/
def State.byte (s : State) (a : Nat) : Byte :=
  if isImage a && s.boot.stored then Config.imageByte s.boot.image.live s.boot.image.shadow (a - (FERAM_BASE + 0x0F00000))
  else Tab.get memDefault s.mem a

/-- `n` bytes from address `a`. -/
def State.bytes (s : State) (a : Nat) : Nat → List Byte
  | 0 => []
  | n + 1 => s.byte a :: s.bytes (a + 1) n

/-- A little-endian value of `n` bytes. -/
def State.mem_ (s : State) (a n : Nat) : Nat := leVal (s.bytes a n)

/-- Writes one byte; an address outside memory drops it (R43), and the register-image part takes its image alone (R46). -/
def State.setByte (s : State) (a : Nat) (b : Byte) : State :=
  if isMemory a && !isImage a then { s with mem := Tab.set memDefault s.mem a b } else s

/-- Writes bytes from address `a` upward. -/
def State.setBytes (s : State) (a : Nat) : List Byte → State
  | [] => s
  | b :: t => State.setBytes (s.setByte a b) (a + 1) t

/-- Writes the low `n` bytes of `v`, little-endian. -/
def State.setMem (s : State) (a n v : Nat) : State := s.setBytes a (leBytes n v)

/-- Start of region n's SRAM. -/
def sramOf (n : Nat) : Nat := SRAM_BASE + n * 0x400000

/-- R121's check of a structure: inside DRAM from its base to its end. -/
def dramSpan (base size : Nat) : Bool := decide (DRAM_BASE ≤ base) && decide (base + size ≤ DRAM_END)

/-- R121's checks of a base against the size of its structure: a multiple of 256, inside DRAM. -/
def baseOk (base size : Nat) : Bool := base % 256 == 0 && dramSpan base size

/-! ### Free values -/

/-- Advances the counter that free values are applied to. -/
def State.fresh (s : State) : State := { s with dev := { s.dev with freeCount := s.dev.freeCount + 1 } }

/-- Records what leaves the device. -/
def State.emit (s : State) (o : Output) : State := { s with out := o :: s.out }

/-! ### Interrupt sources (R499 to R517) -/

/-- Offset of SRC_CFG[k]: page +1 for 0 to 255, page +2 above (R520). -/
def srcCfg (k : Nat) : Nat := Icu.SRC_CFG (k / 256) (k % 256)

def State.icuBit (s : State) (table k : Nat) : Bool := s.flag pgICU (table + 4 * (k / 32)) (k % 32)
def State.setIcuBit (s : State) (table k : Nat) (b : Bool) : State := s.setFlag pgICU (table + 4 * (k / 32)) (k % 32) b

/-- ACCOUNT mode of a source (R506). -/
def State.accountMode (s : State) (k : Nat) : Bool := s.flag pgICU (srcCfg k) 16 && s.sysState != 1

/-- Sources with PENDING 1, ENABLE 1 and IN_SERVICE 0, in ascending order. -/
def State.candidates (s : State) : List Nat :=
  (List.range 16).flatMap fun w =>
    let x := s.reg pgICU (Icu.PENDING w) &&& s.reg pgICU (Icu.ENABLE w) &&& ~~~ s.reg pgICU (Icu.IN_SERVICE w)
    if x = 0 then [] else ((List.range 32).filter (fun b => bit x b)).map (fun b => 32 * w + b)

/-- Source `k` may be claimed by target `t`, given that it is a candidate (R501). -/
def State.admits (s : State) (t k : Nat) : Bool :=
  s.flag pgICU (srcCfg k) (8 + t) && decide (s.fld pgICU (Icu.THRESHOLD t) (3, 0) < s.fld pgICU (srcCfg k) (3, 0))

/-- The candidate of highest PRIO, the first on a tie. -/
def State.best (s : State) : List Nat → Option Nat → Option Nat
  | [], b => b
  | k :: t, none => s.best t (some k)
  | k :: t, some b =>
    s.best t (some (if s.fld pgICU (srcCfg b) (3, 0) < s.fld pgICU (srcCfg k) (3, 0) then k else b))

/-- TOP[t], none for 0x3FF (R501). -/
def State.icuTop (s : State) (t : Nat) : Option Nat :=
  if s.active pgICU then s.best (s.candidates.filter (s.admits t)) none else none

def State.claimable (s : State) (t : Nat) : Bool := (s.icuTop t).isSome

/-- A message falls due for each host group whose CLAIMABLE rose (R517). -/
def State.notifyGroups (s s' : State) : State :=
  (List.range 4).foldl (fun a g =>
    if !s.claimable (4 + g) && a.claimable (4 + g) then
      { a with icu := { a.icu with due := Tab.set (fun _ => false) a.icu.due g true } } else a) s'

/-- ACLK runs: it stops from step 8 of an entry until the die starts again, and in a thermal shutdown (R608, R613, R641). -/
def State.aclkRuns (s : State) : Bool := s.pwr.phase.clocked

/-- PCLK runs: it is made from ROOT, and stops when ROOT leaves lock (R35). -/
def State.pclkRuns (s : State) : Bool := s.aclkRuns && s.sts pgCLK Clk.S_ROOT_LOCK == 1

/-- The port engines and PLUs are clocked: PCLK runs and the device is not in Doze (R35, R608, R609). -/
def State.engineRuns (s : State) : Bool := s.pclkRuns && s.pwrState != 1

/-- Sets PENDING by an occurrence of source `k` (R504, R506), or its VRET latch while ACLK is stopped (R514). -/
def State.occur (s : State) (k : Nat) : State :=
  if !isSource k then s
  else if !s.aclkRuns then { s with icu := { s.icu with latch := Tab.set (fun _ => false) s.icu.latch k true } }
  else
    let s1 := s.setIcuBit (Icu.PENDING 0) k true
    if s.accountMode k then
      s1.setFld pgICU (srcCfg k) (31, 24) (min 255 (s.fld pgICU (srcCfg k) (31, 24) + 1))
    else s1

/-! ### The Heath tick and the end of Doze (R612, R619, R622, R629) -/

/-- A period of XT32 in timeline units: HTICK counts with the timeline while that runs (log entry 59). -/
def TICK : Nat := 1000000000 * 2 ^ 33

/-- Heath ticks since the edge that the island's `tick` counts. -/
def State.ticksSince (s : State) : Nat := (((s.tln.now : Int) - s.hth.edge) / (TICK : Int)).toNat

def State.htick (s : State) : Nat := (s.hth.tick + s.ticksSince) % 2 ^ 48

/-- The lowest code of a set of recognised sources. -/
def lowestCode (seen : Nat) : Nat := ((List.range 8).find? (fun c => seen.testBit c)).getD 0

/-- WAKE_RECORD and WAKE_TICK load a wake. -/
def State.loadWake (s : State) (from_ : Nat) (aborted : Bool) (seen pins : Nat) : State :=
  let t := s.htick
  let v := (if aborted then 2 ^ 24 else 0) + from_ * 2 ^ 20 + (pins % 16) * 2 ^ 16 + (seen % 256) * 2 ^ 8 + lowestCode seen
  ((s.setNat pgHTH Hth.WAKE_RECORD v).setNat pgHTH Hth.WAKE_TICK_LO (t % 2 ^ 32)).setNat pgHTH Hth.WAKE_TICK_HI (t / 2 ^ 32)

/-- Field ports leave the silence of Doze (R440, R717). -/
def State.fieldResume (s : State) : State :=
  (List.range 8).foldl (fun a k =>
    if a.enabled (pgFLD k) && a.sts pgRED Red.S_STILE_STATE == 1 && !a.dev.dieFenced && a.pageState (pgFLD k) != 3 then
      (a.setSts (pgFLD k) Fld.S_PIN_STATE 0).setSts (pgFLD k) Fld.S_DRIVEN 1
    else a) s

/-- Doze ends: the wake is loaded, and the loss timers of R315 go on from where they stood (R609). -/
def State.leaveDoze (s : State) (seen pins : Nat) : State :=
  let d := s.tln.now - s.pwr.dozeAt
  let s1 := (s.loadWake 1 false seen pins).setSts pgPWR Pwr.S_PWR_STATE 0
  { s1 with dmx := s1.dmx.map (fun (e : Nat × DmxState) => (e.1, { e.2 with lastRx := e.2.lastRx + d })) }.fieldResume

/-- Runs a change of the interrupt controller and what follows from it: due messages, and the end of Doze when a target
becomes claimable while IRQ_WAKE is 1 (R612). -/
def State.icuChange (s : State) (f : State → State) : State :=
  let s1 := s.notifyGroups (f s)
  if s1.pwrState = 1 ∧ s1.flag pgPWR Pwr.PWR_CFG 0 = true
      ∧ (List.range 8).any (fun t => !s.claimable t && s1.claimable t) = true then
    s1.notifyGroups ((s1.leaveDoze 0x80 0).occur 17)
  else s1

/-- An occurrence of an edge source (R504). -/
def State.irq (s : State) (k : Nat) : State := s.icuChange (·.occur k)

/-- The level of a level source becomes `b` (R505, R506, R514). -/
def State.setLevel (s : State) (k : Nat) (b : Bool) : State :=
  let old := Tab.get (fun _ => false) s.icu.level k
  let s1 := { s with icu := { s.icu with level := Tab.set (fun _ => false) s.icu.level k b } }
  if !isSource k then s
  else if old = b then s1
  else if !s.aclkRuns then
    (if b then { s1 with icu := { s1.icu with latch := Tab.set (fun _ => false) s1.icu.latch k true } } else s1)
  else if s.accountMode k then (if b then s1.icuChange (·.occur k) else s1)
  else if s.icuBit (Icu.IN_SERVICE 0) k then s1
  else s1.icuChange (·.setIcuBit (Icu.PENDING 0) k b)

/-! ### Performance counters (R594 to R597) -/

/-- The counter numbers of R594; every other number reads 0 and drops writes. -/
def counterUsed (n : Nat) : Bool :=
  decide (n < 768) || decide (768 ≤ n ∧ n < 896 ∧ (n - 768) % 8 < 4)
    || decide (896 ≤ n ∧ n < 928 ∧ (n - 896) % 8 < 4)
    || decide (1024 ≤ n ∧ n < 1216 ∧ (n - 1024) % 48 < 8) || decide (1216 ≤ n ∧ n < 1228)
    || decide (1232 ≤ n ∧ n < 1296) || decide (1408 ≤ n ∧ n < 1412) || decide (1472 ≤ n ∧ n < 1481)

def State.cnt (s : State) (n : Nat) : Nat := Tab.get (fun _ => 0) s.pmc.cnt n

/-- The OVF bit and WRAPS of counter `n` after a wrap (R596). -/
def State.counterWrapped (s : State) (n : Nat) : State :=
  let w := Tab.get (fun _ => 0) s.pmc.wraps n
  let s1 := { s with pmc := { s.pmc with wraps := Tab.set (fun _ => 0) s.pmc.wraps n (min 255 (w + 1)) } }
  let s2 := s1.setFlag pgPMC (Pmc.OVF (n / 32)) (n % 32) true
  if s.flag pgPMC Pmc.PMC_CTRL 2 then s2.irq 357 else s2

/-- Counter `n` counts `k` events (R594, R596). -/
def State.count (s : State) (n k : Nat) : State :=
  if !counterUsed n then s
  else
    let v := s.cnt n + k
    let s1 := { s with pmc := { s.pmc with cnt := Tab.set (fun _ => 0) s.pmc.cnt n (v % 2 ^ 48) } }
    if v < 2 ^ 48 then s1 else s1.counterWrapped n

/-! ### Faults (R59) -/

/-- The interrupt that a set PAGE_FAULT bit of a page raises, as each chapter names it; none where the page raises none
of its own. -/
def faultIrq (i : PageInfo) (n : Nat) : Option Nat :=
  match i.block with
  | .sys => some (if n = 1 then 2 else 3)
  | .clk => some 5 | .pwr => some 16 | .hth => some 19 | .thm => some 24 | .cal => some 40 | .fwu => some 48
  | .icu => some 511 | .tln => some 62 | .syn => some (65 + 2 * i.inst) | .swt => some (80 + 2 * i.inst)
  | .cmp => some (112 + 2 * i.inst) | .jsc => some (120 + 2 * i.inst) | .fix => some 128 | .pxp => some (144 + i.inst)
  | .dmx => some (208 + i.inst) | .eth => some (221 + 10 * i.inst) | .fld => some (260 + i.inst)
  | .ntm => some (if i.sub = 3 then 271 else 268) | .str => some 360 | .ing => some 364 | .lmp => some (272 + i.inst)
  | .lcl => some (304 + i.inst) | .que => if i.inst < 11 then some (308 + 2 * i.inst) else none | .red => some 340
  | .evr => some 352 | .pmc => some 356 | .plu | .plc | .ccr => none

/-- A port in WIRE CLOCK_PIN never raises its source (R306). -/
def State.faultMuted (s : State) (page : Nat) (i : PageInfo) : Bool :=
  i.block == Block.pxp && s.fld page Pxp.PX_MODE Pxp.WIRE == 2

/-- Sets bit `n` of a page's PAGE_FAULT and raises the interrupt that its chapter names. -/
def State.faultHere (s : State) (page n : Nat) : State :=
  let s1 := s.setFlag page PAGE_FAULT n true
  match pageInfo page with
  | none => s1
  | some i =>
    match faultIrq i n with
    | some k => if s.faultMuted page i then s1 else s1.irq k
    | none => s1

/-- Sets a fault bit of a page. A PLU or PLC page also sets its region's EXEC_FENCED, a CCR page SYS's CORE_FENCED
(R73). -/
def State.fault (s : State) (page n : Nat) : State :=
  let s1 := s.faultHere page n
  match pageInfo page with
  | some ⟨.plu, k, _⟩ => s1.faultHere (pgJSC (k / 8)) Jsc.F_EXEC_FENCED
  | some ⟨.plc, k, _⟩ => s1.faultHere (pgJSC (k / 4)) Jsc.F_EXEC_FENCED
  | some ⟨.ccr, _, _⟩ => s1.faultHere pgSYS Sys.F_CORE_FENCED
  | _ => s1

/-- `n` samples of a driven ball differed from its level (R298, R321): counted in the register at `off`, with fault bit `f`;
without a driver on, no sample is taken. -/
def State.samplesDiffer (s : State) (page off f : Nat) (driven : Bool) (n : Nat) : State :=
  if !driven || n == 0 then s else (s.setReg page off (s.reg page off + BitVec.ofNat 32 n)).fault page f

/-- BAD_VALUE of a page. -/
def State.badValue (s : State) (page : Nat) : State := s.fault page F_BAD_VALUE

/-- A page enters STATE FAILED (R18); PLU, PLC and CCR pages report it as R73 provides. -/
def State.fencePage (s : State) (page : Nat) : State :=
  let s1 := s.setPageState page 3
  match pageInfo page with
  | some ⟨.plu, k, _⟩ => s1.faultHere (pgJSC (k / 8)) Jsc.F_EXEC_FENCED
  | some ⟨.plc, k, _⟩ => s1.faultHere (pgJSC (k / 4)) Jsc.F_EXEC_FENCED
  | some ⟨.ccr, _, _⟩ => s1.faultHere pgSYS Sys.F_CORE_FENCED
  | _ => s1

/-- The instance of a page is being reset (R70). -/
def State.isResetting (s : State) (page : Nat) : Bool := Tab.get (fun _ => false) s.dev.resetting page

/-- A register access by a requester: it counts (R594); without ACLK there is none. -/
def State.access (s : State) (f : State → State) : State := if s.aclkRuns then f (s.count 1222 1) else s

/-- A write by a requester on a page: while a reset of the instance is in progress it is dropped (R70). -/
def State.gate (s : State) (page : Nat) (f : State → State) : State :=
  s.access (fun a => if a.isResetting page then a.fault page F_BUSY_WRITE else f a)

/-- The result of a meaning that always goes on. -/
def done (s : State) : Host.Outcome State Fault Refusal := .next s

end Sys2Proof.Machine
end

