-- ==== Sys2Proof/Machine/QueueOps.lean ====
section
/-!
DEFINITION. The queue primitive (R482 to R494), written once for the 44 queues, and the raising of recorder triggers,
which pass through the recorder's queue (R584).
-/
namespace Sys2Proof.Machine

/-! ### One queue -/

/-- A word of a packet: its bytes, padded with 0 to 32 (R484). -/
def QWord.pack (d : List Byte) (first last : Bool) : QWord :=
  ⟨d ++ List.replicate (32 - d.length) 0, d.length, first, last⟩

/-- The next position of a pointer. -/
def ptrNext (depth p : Nat) : Nat := (p + 1) % depth

/-- Adds a tentative word (R483). -/
def Queue.addWord (q : Queue) (depth : Nat) (w : QWord) : Queue :=
  { q with
    words := q.words ++ [w], part := [],
    a := { q.a with wt := ptrNext depth q.a.wt }, b := { q.b with wt := ptrNext depth q.b.wt } }

/-- The words of the packet in progress that are already tentative. -/
def Queue.tentative (q : Queue) : Nat := q.words.length - q.committed

/-- Discards the tentative words (R487). -/
def Queue.dropTentative (q : Queue) : Queue :=
  { q with
    words := q.words.take q.committed, part := [], a := { q.a with wt := q.a.wc }, b := { q.b with wt := q.b.wc } }

/-- No packet is in progress any longer. -/
def Queue.endPacket (q : Queue) : Queue := { q with part := [], inPacket := false, refused := false, lost := false }

/-- Places the bytes of one write; the flag says that it found no room for the word it would complete (R483, R488). -/
def Queue.place (q : Queue) (depth : Nat) (d : List Byte) (last : Bool) : Queue × Bool :=
  let p := q.part ++ d
  if p.length < 32 ∧ last = false then ({ q with part := p }, false)
  else if depth ≤ q.words.length then ({ q with refused := true }, true)
  else (q.addWord depth (QWord.pack p (q.tentative == 0) last), false)

/-- Keeps `n` of the four bytes of the last 32-bit write, when its word is already complete (R484). -/
def QWord.cut (w : QWord) (n : Nat) : QWord := { QWord.pack (w.data.take (28 + n)) w.first true with }

/-- The last word of a list changed. -/
def mapLast {α : Type} (f : α → α) : List α → List α
  | [] => []
  | [x] => [f x]
  | x :: y :: t => x :: mapLast f (y :: t)

/-- The last word of a packet written 32 bits at a time, ended with `n` valid bytes in its last write (R484). -/
def Queue.finish (q : Queue) (depth n : Nat) : Queue × Bool :=
  if q.part = [] then ({ q with words := mapLast (fun w => w.cut n) q.words }, false)
  else { q with part := q.part.take (q.part.length - 4 + n) }.place depth [] true

/-- Makes the whole packet visible (R486). -/
def Queue.commit (q : Queue) : Queue :=
  { q with committed := q.words.length, a := { q.a with wc := q.a.wt }, b := { q.b with wc := q.b.wt } }.endPacket

/-- Removes the head word (R491). -/
def Queue.pop (q : Queue) (depth : Nat) : Queue :=
  { q with
    words := q.words.drop 1, committed := q.committed - 1,
    a := { q.a with rd := ptrNext depth q.a.rd }, b := { q.b with rd := ptrNext depth q.b.rd } }

/-- The head word, when it is committed (R491). -/
def Queue.head (q : Queue) : Option QWord := if q.committed = 0 then none else q.words.head?

/-! ### Queues of the device -/

def queueKey (j q : Nat) : Nat := 4 * j + q

def State.queue (s : State) (j q : Nat) : Queue := Tab.get (fun _ => Queue.empty) s.queues (queueKey j q)

def State.setQueue (s : State) (j q : Nat) (v : Queue) : State :=
  { s with queues := Tab.set (fun _ => Queue.empty) s.queues (queueKey j q) v }

/-- ABOVE of a queue (R497). -/
def State.queueAbove (s : State) (j q : Nat) : Bool :=
  decide (s.fld (pgQUE j) (Que.Q_CTRL q) Que.THRESH ≤ (s.queue j q).committed)

/-- BLOCK_STATUS and the level interrupt of a QUE page follow its queues (R498). -/
def State.queueLevels (s : State) (j : Nat) : State :=
  let s1 := (List.range 4).foldl (fun a q => a.setFlag (pgQUE j) PAGE_STATUS (16 + q) (s.queueAbove j q)) s
  s1.setLevel (309 + 2 * j)
    ((List.range 4).any (fun q => s.flag (pgQUE j) (Que.Q_CTRL q) 1 && s.queueAbove j q))

/-- Sets a sticky bit of Q_STATUS and raises the page's interrupt (R497, R498). -/
def State.queueError (s : State) (j q bitNo : Nat) : State :=
  (s.setFlag (pgQUE j) (Que.Q_STATUS q) bitNo true).irq (308 + 2 * j)

/-- Adds one to DROPS (R488, R489). -/
def State.queueDrop (s : State) (j q : Nat) : State :=
  s.setFld (pgQUE j) (Que.Q_DROPS q) (15, 0) (s.fld (pgQUE j) (Que.Q_DROPS q) (15, 0) + 1)

/-- R490, all but the recorder's snapshot: both pointer copies to 0, the contents discarded, PTR_ERROR and PTR_RESETS.
`busy` says that the writer is still inside a packet. -/
def State.queuePtrReset (s : State) (j q : Nat) (busy : Bool) : State :=
  let s1 := s.setQueue j q { Queue.empty with inPacket := busy, lost := busy }
  let s2 := s1.setFld (pgQUE j) (Que.Q_DROPS q) (31, 16) (s1.fld (pgQUE j) (Que.Q_DROPS q) (31, 16) + 1)
  (s2.queueError j q 9).queueLevels j

/-- The two copies of a queue's pointers agree (R490). -/
def Queue.sound (q : Queue) : Bool := q.a == q.b

/-- One write into a queue whose pointer copies agree (R483, R484, R488, R489). -/
def State.queuePut (s : State) (j q depth : Nat) (d : List Byte) (last : Bool) : State :=
  let x := s.queue j q
  let en := s.flag (pgQUE j) (Que.Q_CTRL q) 0
  if !en && !x.inPacket then
    -- a packet begun while EN is 0
    (s.queueDrop j q).setQueue j q (if last then x.endPacket else { x with inPacket := true, lost := true })
  else if x.lost then (if last then s.setQueue j q x.endPacket else s)
  else if x.refused then
    (if last then (s.queueDrop j q).setQueue j q x.dropTentative.endPacket else s)
  else
    let r := { x with inPacket := true }.place depth d last
    if r.2 then
      let s1 := s.queueError j q 8
      if last then (s1.queueDrop j q).setQueue j q r.1.dropTentative.endPacket else s1.setQueue j q r.1
    else if last then (s.setQueue j q r.1.commit).inc (pgQUE j) (Que.Q_PACKETS q)
    else s.setQueue j q r.1

/-! ### Recorder triggers (R583 to R586) -/

/-- A word of the trigger memory (R583, R603). -/
def State.trigWord (s : State) (k : Nat) : Word := Tab.get trigReset s.evr.trig k

/-- The pending entry of R585. -/
def pendingEntry (code page kind group stamp : Nat) : List Byte :=
  leBytes 8 (code % 4096 + 2 ^ 12 * (page % 1024) + 2 ^ 22 * (kind % 2) + 2 ^ 23 * (group % 8) + 2 ^ 32 * stamp)

/-- An event of the recorder's queue is lost: LOST, LOST_TOTAL, the LOST count of the next record, and CNT[1225]. -/
def State.evrLost (s : State) : State :=
  let s1 := (s.inc pgEVR Evr.LOST_TOTAL).fault pgEVR Evr.F_LOST
  { s1 with evr := { s1.evr with lost := min 65535 (s1.evr.lost + 1) } }.count 1225 1

/-- PENDING_PEAK follows the level of the pending queue (R603). -/
def State.evrPeak (s : State) : State :=
  s.setNat pgEVR Evr.PENDING_PEAK (max (s.nat pgEVR Evr.PENDING_PEAK) (s.queue 3 3).committed)

/-- Pushes an entry to a recorder queue whose pointer copies agree; a refused one is lost (R584, R585). -/
def State.evrPushSound (s : State) (code page kind group : Nat) : State :=
  let s1 := (s.queuePut 3 3 64 (pendingEntry code page kind group (stamp32 s.tln.now)) true).queueLevels 3
  if (s1.queue 3 3).committed = (s.queue 3 3).committed then s1.evrLost else s1.evrPeak

/-- Pushes an entry to the pending queue. Where its pointer copies differ, R490 empties the queue, the pushed event is
lost (R493), and the snapshot of the pointer error is pushed to the emptied queue. -/
def State.evrPush (s : State) (code page kind group : Nat) : State :=
  if (s.queue 3 3).sound then s.evrPushSound code page kind group
  else ((s.queuePtrReset 3 3 false).evrLost).evrPushSound (Config.ptrErrorCode % 4096) (pgQUE 3) 0 0

/-- A trigger of code `code` from the instance at `page` (R584, R605). -/
def State.trigger (s : State) (code page : Nat) : State :=
  if !s.enabled pgEVR then s
  else
    let w := s.trigWord code
    let spent := Tab.get (fun _ => 0) s.evr.spent code
    if !bit w 0 then s
    else if bits w (23, 16) ≤ spent then
      let s1 := (s.inc pgEVR Evr.DROPPED_TOTAL).fault pgEVR Evr.F_DROPPED
      { s1 with evr := { s1.evr with dropped := min 65535 (s1.evr.dropped + 1) } }
    else
      let s1 := { s with evr := { s.evr with spent := Tab.set (fun _ => 0) s.evr.spent code (spent + 1) } }
      if s1.sts pgEVR Evr.S_FROZEN = 1 then
        let s2 := s1.inc pgEVR Evr.FROZEN_EVENTS
        { s2 with evr := { s2.evr with lost := min 65535 (s2.evr.lost + 1) } }
      else s1.evrPush code page 0 0

/-! ### Queue operations of writers and readers -/

/-- R490 with its snapshot. -/
def State.queueUpset (s : State) (j q : Nat) (busy : Bool) : State :=
  (s.queuePtrReset j q busy).trigger (Config.ptrErrorCode % 4096) (pgQUE j)

/-- One write of a hardware or 32-bit writer (R483 to R490, R493). -/
def State.queueWrite (s : State) (j q : Nat) (d : List Byte) (last : Bool) : State :=
  match queueSpec j q with
  | none => s
  | some i =>
    if (s.queue j q).sound then (s.queuePut j q i.depth d last).queueLevels j
    else s.queueUpset j q (!last)

/-- The end of a packet written 32 bits at a time, its last write holding `n` valid bytes (R484, R486, R488). -/
def State.queueCommit (s : State) (j q n : Nat) : State :=
  match queueSpec j q with
  | none => s
  | some i =>
    let x := s.queue j q
    if !x.sound then s.queueUpset j q false
    else if !x.inPacket then s
    else if x.lost then s.setQueue j q x.endPacket
    else if x.refused then (s.queueDrop j q).setQueue j q x.dropTentative.endPacket
    else
      let r := x.finish i.depth n
      if r.2 then ((s.queueError j q 8).queueDrop j q).setQueue j q r.1.dropTentative.endPacket
      else ((s.setQueue j q r.1.commit).inc (pgQUE j) (Que.Q_PACKETS q)).queueLevels j

/-- A rewind of the packet in progress (R486, R487). -/
def State.queueRewind (s : State) (j q : Nat) : State :=
  let x := s.queue j q
  if !x.sound then s.queueUpset j q false
  else if !x.inPacket then s
  else s.setQueue j q x.dropTentative.endPacket

/-- A pop (R491). -/
def State.queuePop (s : State) (j q : Nat) : State :=
  match queueSpec j q with
  | none => s
  | some i =>
    let x := s.queue j q
    if !x.sound then s.queueUpset j q x.inPacket
    else if x.committed = 0 then s
    else (s.setQueue j q (x.pop i.depth)).queueLevels j

/-- Empties a queue without PTR_ERROR (R489, R494); what its writer still writes of a packet in progress is ignored. -/
def State.queueEmpty (s : State) (j q : Nat) : State :=
  let x := s.queue j q
  (s.setQueue j q { Queue.empty with inPacket := x.inPacket, lost := x.inPacket }).queueLevels j

/-- A whole packet written by a hardware writer, `w` bytes at a time. -/
def State.queuePacketFrom (s : State) (j q w : Nat) (d : List Byte) : Nat → State
  | 0 => s
  | n + 1 =>
    if d.length ≤ w then s.queueWrite j q d true
    else State.queuePacketFrom (s.queueWrite j q (d.take w) false) j q w (d.drop w) n

def State.queuePacket (s : State) (j q : Nat) (d : List Byte) : State :=
  match queueSpec j q with
  | none => s
  | some i => s.queuePacketFrom j q (2 ^ i.width) d (d.length + 1)

/-- The requester is the host (HOST: the Control window and the SPI target) or the firmware (R482). -/
def isHost (r : Requester) : Bool := r == Requester.pcie || r == Requester.spi

/-- The number of a requester, in the order of R50. -/
def reqCode : Requester → Nat
  | .cc0 => 0 | .cc1 => 1 | .cc2 => 2 | .cc3 => 3 | .pcie => 4 | .spi => 5

/-- The requester may act on a side of the given kind (R482, R492): 1 HOST, 2 FW. -/
def sideOf (r : Requester) (side : Nat) : Bool := side == (if isHost r then 1 else 2)

end Sys2Proof.Machine
end

