-- ==== Sys2Proof/Machine/SwathBase.lean ====
section
/-!
DEFINITION. What other blocks read of a Swath: its state, its period, its lock (R246 to R249, R265, R266), the STATE of a
commit group's pages, and the samples of statistics groups (R588).
-/
namespace Sys2Proof.Machine

/-! ### Statistics samples (R580, R588) -/

def State.statGroup (s : State) (g : Nat) : StatGroup := Tab.get (fun _ => StatGroup.init) s.evr.stats g

def State.setStatGroup (s : State) (g : Nat) (v : StatGroup) : State :=
  { s with evr := { s.evr with stats := Tab.set (fun _ => StatGroup.init) s.evr.stats g v } }

/-- One sample falls in bin `b` (R588). -/
def StatQuantity.add (q : StatQuantity) (v : Int) (b : Nat) : StatQuantity :=
  { samples := min 0xFFFFFFFF (q.samples + 1)
    lo := if q.samples = 0 then v else min q.lo v
    hi := if q.samples = 0 then v else max q.hi v
    last := v
    bins := q.bins.set b (min 65535 (q.bins.getD b 0 + 1)) }

/-- The bin of a value: arithmetic shift, clamped to 0 to 31 (R588). -/
def State.statBin (s : State) (g q : Nat) (v : Int) : Nat :=
  let d := v - signed 32 (s.nat pgEVR (Evr.STAT_BASE g q))
  (clampInt 0 31 (d / (2 ^ s.fld pgEVR (Evr.STAT_Q g q) (20, 16) : Nat))).toNat

/-- A sample of quantity (KIND, INSTANCE) reaches every group that takes it (R588). -/
def State.sample (s : State) (kind inst : Nat) (v : Int) : State :=
  (List.range 8).foldl (fun a g =>
    if a.flag pgEVR (Evr.STAT_CTRL g) 0 then
      (List.range 5).foldl (fun c q =>
        if c.fld pgEVR (Evr.STAT_Q g q) (15, 0) = kind * 256 + inst % 256 ∧ kind ≠ 0 then
          let gr := c.statGroup g
          let x := (gr.open_.getD q StatQuantity.empty).add (signed 32 (unsign 32 v)) (c.statBin g q v)
          c.setStatGroup g { gr with open_ := gr.open_.set q x }
        else c) a
    else a) s

/-! ### STATE of a commit group -/

/-- STATE of every page of a group follows its page +0 (R266, R521). -/
def State.setGroupState (s : State) (first n : Nat) : State :=
  match pageInfo first with
  | none => s
  | some i => (List.range (2 ^ i.block.groupLog2)).foldl (fun a k => a.setPageState (first + k) n) s

/-! ### Swaths -/

def State.swath (s : State) (k : Nat) : SwtState := Tab.get (fun _ => SwtState.init) s.swt k
def State.setSwath (s : State) (k : Nat) (v : SwtState) : State :=
  { s with swt := Tab.set (fun _ => SwtState.init) s.swt k v }

/-- SWATH_STATE: 0 STOPPED, 1 ARMED, 2 RUNNING, 3 HOLDING (R276). -/
def State.swathState (s : State) (k : Nat) : Nat := s.sts (pgSWT k) Swt.S_SWATH_STATE

/-- The Swath counts as STOPPED: its STATE reads STOPPED or OFF (R266). -/
def State.swathStopped (s : State) (k : Nat) : Bool := s.pageState (pgSWT k) == 2 || s.pageState (pgSWT k) == 0

def State.allStopped (s : State) : Bool := (List.range 16).all s.swathStopped

/-- PAGE_STATUS.STATE of a Swath (R266). -/
def State.swathRefresh (s : State) (k : Nat) : State :=
  let p := pgSWT k
  if s.pageState p = 3 then s
  else if !s.enabled p then s.setGroupState p 0
  else if s.swathState k = 0 ∨ (s.swathState k = 3 ∧ s.stopSet p = true) then s.setGroupState p 2
  else s.setGroupState p 1

/-- SWATH_STATE changes, with interrupt 80 + 2k (R277). -/
def State.setSwathState (s : State) (k n : Nat) : State :=
  if s.swathState k = n then s.swathRefresh k
  else ((s.setSts (pgSWT k) Swt.S_SWATH_STATE n).swathRefresh k).irq (80 + 2 * k)

/-- P in 1/1280 ns from the values of PERIOD_NS and PERIOD_FRAC (R246). -/
def periodUnits (ns frac : Word) : Rat :=
  ((bits ns (25, 0) : Rat) + (bits frac (15, 0) : Rat) / (bits frac (31, 16) : Rat)) * 1280

def State.swathPeriod (s : State) (k : Nat) : Rat :=
  periodUnits (s.reg (pgSWT k) Swt.PERIOD_NS) (s.reg (pgSWT k) Swt.PERIOD_FRAC)

def State.lockSrc (s : State) (k : Nat) : Nat := s.fld (pgSWT k) Swt.SWT_MODE Swt.LOCK_SRC
def State.ratio (s : State) (k : Nat) : Nat := s.fld (pgSWT k) Swt.SWT_MODE Swt.RATIO_M1 + 1
def State.master (s : State) (k : Nat) : Nat := s.fld (pgSWT k) Swt.SWT_MODE Swt.MASTER

/-- The Swaths that follow `k`. -/
def State.followers (s : State) (k : Nat) : List Nat :=
  (List.range 16).filter (fun j => j != k && s.lockSrc j == 4 && s.master j == k)

/-- The device is ACTIVE: it holds the Stile (R525). -/
def State.stileHeld (s : State) : Bool := s.sts pgRED Red.S_STILE_STATE == 1

/-- SYNC_STATE: 0 UNSYNCED, 1 COPYING, 2 PARTIAL, 3 SYNCED, 4 DIVERGED (R573). -/
def State.syncState (s : State) : Nat := s.sts pgRED Red.S_SYNC_STATE

/-- ALIGNED (R550). -/
def State.aligned (s : State) : Bool := s.fld pgRED Red.PAIR_STATE Red.ALIGNED == 1

/-- TL_STATE: 0 FREE, 1 ACQUIRE, 2 LOCKED, 3 HOLDOVER, 4 COASTED (R109). -/
def State.tlState (s : State) : Nat := s.sts pgTLN Tln.S_TL_STATE

/-- INPUT_STATE or OUTPUT_STATE of SYN[k] (R116). -/
def State.ioState (s : State) (k : Nat) : Nat := s.sts (pgSYN k) SynIn.S_IO_STATE
def State.synValid (s : State) (k : Nat) : Bool := s.ioState k == 2

/-- The period of SYN input `k` in 1/1280 ns (R84, R112). -/
def State.synPeriod (s : State) (k : Nat) : Rat :=
  (s.nat (pgSYN k) SynIn.PERIOD_NUM : Rat) * 1280000000000 / (s.nat (pgSYN k) SynIn.PERIOD_DEN : Rat)

/-- The conditions of R248 on SYN[0], SYN[1] and the master, with the values that SWT_MODE, PERIOD_NS, PERIOD_FRAC and
LINES would have. -/
def State.lockMeets (s : State) (k : Nat) (mode ns frac lines : Word) : Bool :=
  let p := periodUnits ns frac
  let r : Rat := bits mode Swt.RATIO_M1 + 1
  match bits mode Swt.LOCK_SRC with
  | 2 => r * p == s.synPeriod 0 && (r != 1 || bits lines (11, 0) == s.nat (pgSYN 0) SynIn.LINES % 4096)
  | 3 => (p / s.synPeriod 1).den == 1
  | 4 =>
    let m := bits mode Swt.MASTER
    m != k && s.lockSrc m != 4 && decide (r * p ≤ (s.fld (pgSWT m) Swt.FRAME_MIN (26, 0) : Rat) * 1280)
  | _ => true

/-- LOCK_OK of a Swath (R247); a running Swath reads 0 while a condition of R248 that it relies on is broken (R249). -/
def State.lockOk (s : State) (k : Nat) : Bool :=
  let p := pgSWT k
  let base :=
    match s.lockSrc k with
    | 0 => true
    | 1 => s.tlState == 2
    | 2 => s.synValid 0 && s.tlState == 2
    | 3 => s.synValid 1 && s.tlState == 2
    | _ => s.swathState (s.master k) == 2
  base && (s.swathState k != 2 || s.lockMeets k (s.reg p Swt.SWT_MODE) (s.reg p Swt.PERIOD_NS) (s.reg p Swt.PERIOD_FRAC) (s.reg p Swt.LINES))

/-- START_GATE is met (R265). -/
def State.gateMet (s : State) (k : Nat) : Bool :=
  match s.fld (pgSWT k) Swt.SWT_MODE Swt.START_GATE with
  | 0 => true
  | 1 => s.sts (pgSWT k) Swt.S_LOCK_OK == 1
  | _ => s.sts (pgSWT k) Swt.S_LOCK_OK == 1 && s.tlState == 2

/-- STOPPED to ARMED (R262, R265): nothing is on show, and there is no earlier start. -/
def State.tryArm (s : State) (k : Nat) : State :=
  let w := s.swath k
  if s.swathState k = 0 ∧ w.want = true ∧ s.enabled (pgSWT k) = true ∧ s.stopSet (pgSWT k) = false ∧ s.gateMet k = true then
    (s.setSwath k { w with want := false, lastFixed := none, lastStart := none, shown := none, nextAnchor := none,
                           holdEnd := none, heldMaster := false }).setSwathState k 1
  else s

/-- LOCK_OK follows its condition; LOCK_LOST when it falls while RUNNING (R249). -/
def State.lockFollow (s : State) (k : Nat) : State :=
  let old := s.sts (pgSWT k) Swt.S_LOCK_OK == 1
  let new := s.lockOk k
  if old == new then s
  else
    let s1 := s.setSts (pgSWT k) Swt.S_LOCK_OK (if new then 1 else 0)
    if old && s.swathState k == 2 then s1.fault (pgSWT k) Swt.F_LOCK_LOST else s1

/-- Every Swath's LOCK_OK, and the starts that wait for it. -/
def State.swathLocks (s : State) : State :=
  (List.range 16).foldl State.tryArm ((List.range 16).foldl State.lockFollow s)

/-! ### Anchors (R84, R247, R254) -/

/-- PHASE_ADJ in 1/1280 ns. -/
def State.phaseAdj (s : State) (k : Nat) : Int := signed 32 (s.nat (pgSYN k) SynIn.PHASE_ADJ) * 5

/-- Alignment instant t_j of input `k` in 1/1280 ns (R84). -/
def State.alignAt (s : State) (k : Nat) (j : Int) : Rat := (j : Rat) * s.synPeriod k + (s.phaseAdj k : Rat)

/-- LOCK_SRC as the Swath runs: a Swath that shows the safe scene runs FREE (R562). -/
def State.swtSrc (s : State) (k : Nat) : Nat := if s.red.scene.contains k then 0 else s.lockSrc k

def State.frameMin (s : State) (k : Nat) : Rat :=
  if s.red.scene.contains k then s.swathPeriod k else (s.fld (pgSWT k) Swt.FRAME_MIN (26, 0) : Rat) * 1280
def State.frameMax (s : State) (k : Nat) : Rat :=
  if s.red.scene.contains k then s.swathPeriod k else (s.fld (pgSWT k) Swt.FRAME_MAX (26, 0) : Rat) * 1280
def State.linePeriod (s : State) (k : Nat) : Rat := s.swathPeriod k / (s.fld (pgSWT k) Swt.LINES (11, 0) : Rat)
def State.flexLines (s : State) (k : Nat) : Nat := s.fld (pgSWT k) Swt.FLEX (11, 0)
def State.flexUnits (s : State) (k : Nat) : Rat := (s.flexLines k : Rat) * s.linePeriod k

/-- Anchor A(j) of Swath `k`. -/
def State.anchorAt (s : State) (k : Nat) (j : Int) : Rat :=
  match s.swtSrc k with
  | 2 => s.alignAt 0 (j / s.ratio k) + ((j % (s.ratio k : Int) : Int) : Rat) * s.swathPeriod k
  | 3 => (j : Rat) * s.swathPeriod k + (s.phaseAdj 1 : Rat)
  | _ => (j : Rat) * s.swathPeriod k

/-- The first of the anchors from number `j` on that `p` accepts. -/
def State.anchorSearch (s : State) (k : Nat) (p : Rat → Bool) (j : Int) : Nat → Int
  | 0 => j
  | n + 1 => if p (s.anchorAt k j) then j else s.anchorSearch k p (j + 1) n

/-- The first anchor that `p` accepts, where `p` holds of every instant well after `x` and of none well before it. -/
def State.anchorNear (s : State) (k : Nat) (x : Rat) (p : Rat → Bool) : Int :=
  let r : Nat := if s.swtSrc k = 2 then s.ratio k else 1
  let t := if s.swtSrc k = 2 then s.synPeriod 0 else s.swathPeriod k
  let q := ((x - s.anchorAt k 0) / t).floor
  s.anchorSearch k p ((q - 1) * r) (4 * r)

/-- The latest frame start, fixed or made. -/
def State.prevStart (s : State) (k : Nat) : Option Nat :=
  match (s.swath k).fixed.getLast? with
  | some f => some f.start
  | none => (s.swath k).lastStart

end Sys2Proof.Machine
end

