-- ==== Sys2Proof/Machine/Timeline.lean ====
section
/-!
DEFINITION. The timeline: its advance, steps and slews, the servo and its states (R79 to R89, R104 to R111).
-/
namespace Sys2Proof.Machine

/-! ### Rates (R80, R83) -/

def INCR_MIN : Int := 112533695688921
def INCR_MAX : Int := 112646285679604

/-- The live INCR (R80). -/
def State.incr (s : State) : Nat := s.nat pgTLN Tln.INCR_LO + 2 ^ 32 * s.fld pgTLN Tln.INCR_HI (15, 0)
def State.incrFree (s : State) : Nat := s.nat pgTLN Tln.INCR_FREE_LO + 2 ^ 32 * s.fld pgTLN Tln.INCR_FREE_HI (15, 0)

def State.setIncr (s : State) (v : Int) : State :=
  let n := (clampInt INCR_MIN INCR_MAX v).toNat
  (s.setNat pgTLN Tln.INCR_LO (n % 2 ^ 32)).setNat pgTLN Tln.INCR_HI (n / 2 ^ 32)

def State.slewing (s : State) : Bool := s.sts pgTLN Tln.S_SLEWING == 1

/-- What a slew adds at each TCLK: SLEW_MAX of the rate in the direction of the offset, within the clamp (R83). -/
def State.slewDelta (s : State) : Int :=
  if !s.slewing then 0
  else
    let free : Int := s.incrFree
    let d := roundOpen 83 (free * s.nat pgTLN Tln.SLEW_MAX) 1000000000
    if 0 ≤ s.tln.slewLeft then min d (max 0 (INCR_MAX - free)) else -(min d (max 0 (free - INCR_MIN)))

/-- The INCR of servo output y ppb (R80). -/
def State.servoIncr (s : State) (y : Rat) : Int :=
  let x := (s.incrFree : Rat) * (1 + y / 1000000000)
  roundOpen 80 x.num x.den

/-- The live INCR follows the state (R80); HOLDOVER keeps its own. -/
def State.retune (s : State) : State :=
  match s.tlState with
  | 0 | 4 => s.setIncr ((s.incrFree : Int) + s.slewDelta)
  | 3 => s
  | _ => s.setIncr (s.servoIncr s.tln.rate)

/-! ### Uncertainty (R78, R88) -/

def UNC_UNKNOWN : Nat := 0xFFFFFFFF

/-- Saturates an uncertainty (R78). -/
def satUnc (n : Nat) : Nat := min 0xFFFFFFFE n

/-- UNCERT (R88): HOLDOVER grows by HOLD_DRIFT; unknown while the timeline is stopped (R99). -/
def State.uncert (s : State) : Nat :=
  if s.tln.stopped ∨ s.tln.uncertBase = UNC_UNKNOWN then UNC_UNKNOWN
  else if s.tlState = 3 then
    satUnc (s.tln.uncertBase + ceilDiv (s.nat pgTLN Tln.HOLD_DRIFT * (s.tln.now - s.tln.holdFrom)) (SEC * NS))
  else s.tln.uncertBase

/-- The source's stated uncertainty (R88). -/
def State.srcUncert (s : State) (src : Nat) : Nat := if src = 1 then s.nat pgNTM Ntm.PTP_UNCERT else 100

/-! ### Advance (R79) -/

/-- TCLK runs: ROOT is locked and no sleep has stopped the timeline. -/
def State.timeRuns (s : State) : Bool := s.sts pgCLK Clk.S_ROOT_LOCK == 1 && !s.tln.stopped

/-- A pulse or LTC frame ends; a STOP that waited for it takes effect (R102). -/
def State.synPulseEnd (s : State) (k t : Nat) : State :=
  let x := Tab.get (fun _ => SynState.init) s.syn k
  if x.pulse ∧ x.pulseEnd ≤ t then
    let s1 := { s with syn := Tab.set (fun _ => SynState.init) s.syn k { x with pulse := false } }
    if s1.enabled (pgSYN k) && s1.stopSet (pgSYN k) && s1.active (pgSYN k) then
      let s2 := s1.setPageState (pgSYN k) 2
      if s2.ioState k = 0 then s2 else (s2.setSts (pgSYN k) SynOut.S_IO_STATE 0).irq (64 + 2 * k)
    else s1
  else s

/-- The part of a slew that accrues while the timeline goes from `now` to `t` (R83). -/
def State.slewAccrue (s : State) (t : Nat) : State :=
  if !s.slewing then s
  else
    let n : Int := (t - s.tln.now) / s.incr
    let part := n * s.slewDelta
    let left := s.tln.slewLeft
    let take := if 0 ≤ left then min part left else max part left
    { s with tln := { s.tln with slewLeft := left - take } }

/-- The latest TCLK edge at or before `t` (R79, R92). -/
def State.edgeAt (s : State) (t : Nat) : Nat := s.tln.edge + (t - s.tln.edge) / s.incr * s.incr

/-- The timeline goes on to `t`. -/
def State.advance (s : State) (t : Nat) : State :=
  let s1 := s.slewAccrue t
  [3, 5, 7].foldl (fun a k => a.synPulseEnd k t) { s1 with tln := { s1.tln with now := t, edge := s.edgeAt t } }

/-- The grid instant nearest an instant in launch units: one of the eight interpolated phases of a TCLK edge, at the rate that is
live (R92). -/
def State.gridAt (s : State) (u : Nat) : Nat :=
  let d : Rat := (u : Rat) * ((NS : Nat) : Rat) / 1280 - (s.tln.edge : Rat)
  let step : Rat := (s.incr : Rat) / 8
  ((s.tln.edge : Rat) + ((d / step + 1 / 2).floor : Rat) * step).floor.toNat

/-- The edges of an output leave the device at grid instants (R92). -/
def State.emitEdges (s : State) (o : Output) : State := s.emit (o.placed s.gridAt)

/-- The state at instant `t`, when the timeline gets there: at once if it has, by advancing if it runs. -/
def State.reach (s : State) (t : Nat) : Option State :=
  if t ≤ s.tln.now then some s else if s.timeRuns then some (s.advance t) else none

/-- Runs `f` at instant `t`; where the timeline does not get there, the event does not come about. -/
def State.atTime (s : State) (t : Nat) (f : State → State) : State :=
  match s.reach t with
  | some s1 => f s1
  | none => s

/-! ### What happens at whole multiples of an interval -/

/-- The activities that act at such instants: the token of a code, the close of a span, a dump, the daily analog run, an apply of the
merge, an exchange of the pair, a thermal measurement, a rise and a fall of a region's level, a measurement and an update of a
lamp cluster. -/
def tickSpan (g : Nat) : Nat := 4096 + g
def tickDump : Nat := 4104
def tickAnalog : Nat := 4105
def tickMerge : Nat := 4106
def tickPair : Nat := 4107
def tickThermal : Nat := 4108
def tickRise (n : Nat) : Nat := 4112 + n
def tickFall (n : Nat) : Nat := 4116 + n
def tickSense (n : Nat) : Nat := 4120 + n
def tickDerate (n : Nat) : Nat := 4124 + n

/-- The next instant `off` past a whole multiple of `step` that activity `key` has not served. -/
def State.nextTick (s : State) (key step off : Nat) : Nat :=
  let t := ceilDiv (s.tln.now - off) step * step + off
  if Tab.get (fun _ => 0) s.tln.ticks key = t + 1 then t + step else t

/-- Activity `key` has served the present instant. -/
def State.ticked (s : State) (key : Nat) : State :=
  { s with tln := { s.tln with ticks := Tab.set (fun _ => 0) s.tln.ticks key (s.tln.now + 1) } }

/-- Runs `f` at that instant. -/
def State.atTick (s : State) (key step off : Nat) (f : State → State) : State :=
  s.atTime (s.nextTick key step off) (fun a => f (a.ticked key))

/-- A millisecond of the timeline. -/
def MS : Nat := 1000000 * NS

/-! ### States (R87) -/

/-- The mean of a list, its rounding open. -/
def meanOpen (tag : Nat) (l : List Nat) : Int := roundOpen tag (l.foldl (· + ·) 0 : Nat) l.length

/-- UNCERT after a servo event (R88): the mean |e| over the last LOCK_COUNT events in LOCKED, the last |e| in ACQUIRE,
plus the source's stated uncertainty. -/
def State.eventUncert (s : State) : Nat :=
  let n := max 1 (s.fld pgTLN Tln.TL_MODE Tln.LOCK_COUNT)
  let l := if s.tlState = 2 then s.tln.lastErr.take n else s.tln.lastErr.take 1
  if l = [] ∨ s.srcUncert (s.fld pgTLN Tln.TL_MODE Tln.SRC) = UNC_UNKNOWN then UNC_UNKNOWN
  else satUnc ((l.foldl (· + ·) (0 : Rat) / ((256 * l.length : Nat) : Rat)).ceil.toNat + s.srcUncert (s.fld pgTLN Tln.TL_MODE Tln.SRC))

/-- What entering a state of R87 sets; UNCERT in ACQUIRE is unknown before the first event, and in COASTED it stays as it was
(log entry 134). -/
def State.enterTl (s : State) (n : Nat) : State :=
  match n with
  | 0 => { s with tln := { s.tln with integ := 0, preload := false, uncertBase := UNC_UNKNOWN } }
  | 1 => { s with tln := { s.tln with
      hasPrev := s.tln.hasPrev && s.tlState == 2, lockRun := 0, ppsDone := false, uncertBase := UNC_UNKNOWN } }
  | 2 => { s with tln := { s.tln with unlockRun := 0, reachedLocked := true } }
  | 3 =>
    let s1 := { s with tln := { s.tln with uncertBase := s.uncert, holdFrom := s.tln.now, holdDone := false } }
    if s.tln.lockedIncr = [] then s1 else s1.setIncr (meanOpen 87 s.tln.lockedIncr)
  | _ => s

/-- ALIGNED falls, with ALIGN_LOST in SYNCED (R550). -/
def State.alignFalls (s : State) : State :=
  if !s.aligned then s
  else
    let s1 := s.setFld pgRED Red.PAIR_STATE Red.ALIGNED 0
    if !s.stileHeld && s.syncState == 3 then s1.fault pgRED Red.F_ALIGN_LOST else s1

/-- TL_STATE becomes `n`: interrupt 56, the rate of R80, and the locks of the Swaths; ALIGNED lasts in LOCKED alone (R550). -/
def State.setTlState (s : State) (n : Nat) : State :=
  let s1 := (s.enterTl n).setSts pgTLN Tln.S_TL_STATE n
  let s2 := if n = 2 then s1.retune else s1.retune.alignFalls
  if s.tlState = n then s2 else (s2.irq 56).swathLocks

/-- ENABLE 1 and STOP 0 (R87, R110). -/
def State.tlnOn (s : State) : Bool := s.enabled pgTLN && !s.stopSet pgTLN

def State.tlSrc (s : State) : Nat := s.fld pgTLN Tln.TL_MODE Tln.SRC

/-- A source is VALID for R87. -/
def State.srcValid (s : State) (src : Nat) : Bool :=
  match src with
  | 1 => s.sts pgNTM Ntm.S_PTP_VALID == 1
  | 2 => s.synValid 4
  | 3 => s.synValid 6
  | 4 => s.synValid 4 && s.synValid 6
  | 5 => s.synValid 0
  | 6 => s.synValid 1
  | 7 => s.synValid 2
  | 8 => s.tln.peerValid
  | _ => false

/-- The selected source is VALID in FREE, COASTED or HOLDOVER: ACQUIRE (R87). -/
def State.tlnSettle (s : State) : State :=
  if s.tlnOn ∧ s.tlSrc ≠ 0 ∧ s.srcValid s.tlSrc = true ∧ (s.tlState = 0 ∨ s.tlState = 3 ∨ s.tlState = 4) then s.setTlState 1
  else s

/-- Servo events of the present TCLK cycle are discarded from here on (R89). -/
def State.voidEvents (s : State) : State := { s with tln := { s.tln with voidAt := some s.tln.now } }

/-- A calibration run ends without a result when its reference is LOST (R657): CAL_SRC 0 REF10M, 1 PPS, 2 PTP. -/
def State.calRefLost (s : State) (src : Nat) : State :=
  match s.cal.run with
  | none => s
  | some r =>
    if (r.src = 0 ∧ src = 3) ∨ (r.src = 1 ∧ src = 2) ∨ (r.src = 2 ∧ src = 1) then
      ({ s with cal := { s.cal with run := none } }.setSts pgCAL Cal.S_CAL_BUSY 0).fault pgCAL Cal.F_NO_REF
    else s

/-- A source has become LOST (R87): it acts when it is the selected one. -/
def State.srcLost (s0 : State) (src : Nat) : State :=
  let s1 := s0.calRefLost src
  let s := if s1.tlnOn ∧ s1.tlSrc = src then s1.voidEvents else s1
  if s.tlnOn ∧ s.tlSrc = src then
    if s.tlState = 2 then s.setTlState 3
    else if s.tlState = 1 then s.setTlState (if s.tln.reachedLocked then 3 else 0)
    else s
  else s

/-- ENABLE 0, STOP 1 or SRC NONE (R87): INCR_FREE, I 0 and UNCERT unknown, in FREE, or still in COASTED. -/
def State.tlnOff (s : State) : State := if s.tlState = 4 then (s.enterTl 0).retune else s.setTlState 0

/-- The page's ENABLE or STOP has changed (R87, R110). -/
def State.tlnCtrl (s : State) : State := if s.tlnOn then s.tlnSettle else s.tlnOff

/-! ### Steps and slews (R82, R83) -/

/-- A slew ends, complete or not: interrupt 60. -/
def State.slewEnd (s : State) : State :=
  if s.slewing then
    ({ s with tln := { s.tln with slewLeft := 0 } }.setSts pgTLN Tln.S_SLEWING 0).retune.irq 60
  else s

/-- Pulses and LTC frames in progress keep their own width across a step (R101). -/
def State.synShift (s : State) (d : Int) : State :=
  [3, 5, 7].foldl (fun a k =>
    let x := Tab.get (fun _ => SynState.init) a.syn k
    if x.pulse then
      { a with syn := Tab.set (fun _ => SynState.init) a.syn k { x with pulseEnd := ((x.pulseEnd : Int) + d).toNat } }
    else a) s

/-- After a step every input and output meets its instants anew (R101). -/
def State.synRenumber (s : State) : State :=
  (List.range 8).foldl (fun a k =>
    let x := Tab.get (fun _ => SynState.init) a.syn k
    { a with syn := Tab.set (fun _ => SynState.init) a.syn k { x with lastHit := none, lastMiss := none } }) s

/-- The timeline is stepped to `t`: any slew ends, STEPPED is set, the next servo event has no T, and the counter dump
marks its gap without taking the step for time (R83, R85, R600). -/
def State.stepTo (s : State) (t : Nat) : State :=
  let d : Int := (t : Int) - s.tln.now
  let s1 := s.slewEnd
  let s2 := { s1 with
    tln := { s1.tln with now := t, edge := t, hasPrev := false, ticks := [] },
    hth := { s1.hth with edge := s1.hth.edge + d },
    pmc := { s1.pmc with gapCause := 3, lastDump := ((s1.pmc.lastDump : Int) + d).toNat } }
  ((s2.synShift d).synRenumber.setSts pgTLN Tln.S_STEPPED 1).irq 57

/-- TL_ACTION.STEP (R82, R87, R89). Out of range, SET_NS sets BAD_VALUE alone, whatever the Swaths do (log entry 130). -/
def State.tlStep (s : State) : State :=
  if 999999999 < s.fld pgTLN Tln.SET_NS (29, 0) then s.badValue pgTLN
  else if !s.allStopped then s.fault pgTLN Tln.F_STEP_REFUSED
  else
    let v : TimeVal :=
      ⟨s.nat pgTLN Tln.SET_S_LO + 2 ^ 32 * s.fld pgTLN Tln.SET_S_HI (15, 0), s.fld pgTLN Tln.SET_NS (29, 0),
       s.fld pgTLN Tln.SET_FRAC (7, 0)⟩
    ((s.stepTo v.time).setTlState (if s.tlnOn ∧ s.tlSrc ≠ 0 then 1 else 0)).voidEvents

def execStep (_req : Requester) (s : State) : Host.Outcome State Fault Refusal := done (s.gate pgTLN State.tlStep)

/-- TL_ACTION.SLEW (R82, R83): adds the offset to the part not yet applied. -/
def State.tlSlew (s : State) : State :=
  if s.tlSrc ≠ 0 then s.fault pgTLN Tln.F_SLEW_REFUSED
  else
    let off : Int := signed 32 (s.nat pgTLN Tln.SLEW_OFFSET) * NS
    ({ s with tln := { s.tln with slewLeft := s.tln.slewLeft + off } }.setSts pgTLN Tln.S_SLEWING 1).retune

def execSlew (_req : Requester) (s : State) : Host.Outcome State Fault Refusal := done (s.gate pgTLN State.tlSlew)

/-- TL_ACTION.SLEW_ABORT (R83). -/
def execSlewAbort (_req : Requester) (s : State) : Host.Outcome State Fault Refusal := done (s.gate pgTLN State.slewEnd)

/-- One write of TL_ACTION (R83, R107): a STEP refuses a SLEW beside it; a SLEW_ABORT acts alone beside a SLEW. With all three
the STEP is made and the SLEW refused (log entry 131). -/
def State.tlAction (s : State) (v : Word) : State :=
  let s1 := if bit v 0 then s.tlStep else s
  let s2 := if bit v 2 then s1.slewEnd else s1
  if !bit v 1 then s2
  else if bit v 0 then s2.fault pgTLN Tln.F_SLEW_REFUSED
  else if bit v 2 then s2
  else s2.tlSlew

/-- The last part of a slew accrues: the ticks that it still takes add their free increments and the part left (R83). -/
def State.slewFinish (s : State) : State :=
  if !s.slewing || !s.timeRuns then s
  else
    let d := s.slewDelta
    let left := s.tln.slewLeft
    if left = 0 then s.slewEnd
    else if d = 0 then s
    else
      let n := ceilDiv left.natAbs d.natAbs
      (s.advance ((s.tln.now + n * s.incrFree : Int) + left).toNat).slewEnd

def execSlewDone (s : State) : Host.Outcome State Fault Refusal := done s.slewFinish

/-- One TCLK edge (R79, R83): what the device does while no command waits. -/
def State.tick (s : State) : State :=
  if !s.timeRuns then s
  else if s.slewing ∧ s.slewDelta ≠ 0 ∧ s.tln.slewLeft.natAbs < s.slewDelta.natAbs then s.slewFinish
  else s.advance (s.tln.now + s.incr)

/-! ### The servo (R85, R86) -/

/-- Rate update of R85 with interval T seconds; e, exact, in 1/256 ns. -/
def State.servoRate (s : State) (e t : Rat) : State :=
  let kp : Rat := (s.fld pgTLN Tln.KP (15, 0) : Rat) / 65536
  let ki : Rat := (s.fld pgTLN Tln.KI (15, 0) : Rat) / 65536
  let en : Rat := e / 256
  let i0 : Rat := if s.tln.preload then -s.tln.rate * t else s.tln.integ
  let i1 := i0 + ki * en
  let y := -(kp * en + i1) / t
  let lim : Rat := (s.nat pgTLN Tln.SLEW_MAX : Rat)
  let clamps := decide (y < -lim) || decide (lim < y)
  let y1 := if y < -lim then -lim else if lim < y then lim else y
  let r := y1 * 256
  ({ s with tln := { s.tln with integ := if clamps then i0 else i1, rate := y1, preload := false } }.setNat
    pgTLN Tln.RATE (unsign 32 (roundOpen 85 r.num r.den))).retune

/-- STEP_DEFERRED and interrupt 59. -/
def State.deferStep (s : State) : State :=
  if s.sts pgTLN Tln.S_STEP_DEFERRED = 1 then s else (s.setSts pgTLN Tln.S_STEP_DEFERRED 1).irq 59

/-- The interval of an event: what its source offers, else the time since the previous event; none without a previous
event (R85). -/
def State.servoT (s : State) (offered : Option Rat) : Option Rat :=
  if !s.tln.hasPrev then none
  else
    match offered with
    | some t => if 0 < t then some t else none
    | none => if s.tln.prevAt < s.tln.now then some (((s.tln.now - s.tln.prevAt : Nat) : Rat) / ((NS * SEC : Nat) : Rat)) else none

/-- The part of an event that moves time or rate (R85, R86). A step clears I; a preload of R87 still comes at the next rate update
(log entry 132). -/
def State.servoAct (s : State) (e : Rat) (t : Option Rat) : State :=
  let big := decide ((s.nat pgTLN Tln.STEP_THRESH : Rat) * 256 < ratAbs e)
  let s1 := if big then s else s.setSts pgTLN Tln.S_STEP_DEFERRED 0
  if big && s.tlState == 1 && s.flag pgTLN Tln.TL_MODE 4 then
    if s.allStopped then
      let x := (s1.tln.now : Rat) - e * 2 ^ 40
      let s2 := s1.stepTo (roundOpen 86 x.num x.den).toNat
      { s2 with tln := { s2.tln with integ := 0 } }
    else
      (match t with | some x => s1.servoRate e x | none => s1).deferStep
  else
    match t with
    | some x => s1.servoRate e x
    | none => s1

/-- The state changes of R87 that an event makes. -/
def State.servoState (s : State) (e : Rat) : State :=
  let th : Rat := (s.nat pgTLN Tln.LOCK_THRESH : Rat) * 256
  if s.tlState = 1 then
    let run := if ratAbs e ≤ th then s.tln.lockRun + 1 else 0
    let s1 := { s with tln := { s.tln with lockRun := run } }
    if max 1 (s.fld pgTLN Tln.TL_MODE Tln.LOCK_COUNT) ≤ run then s1.setTlState 2 else s1
  else if s.tlState = 2 then
    let run := if 4 * th < ratAbs e then s.tln.unlockRun + 1 else 0
    let s1 := { s with tln := { s.tln with unlockRun := run } }
    if 2 ≤ run then s1.setTlState 1 else s1
  else s

/-- Remembers |e| and, for an event taken in LOCKED, the live INCR after it (R87, R88). -/
def State.servoNote (s : State) (e : Rat) (wasLocked : Bool) : State :=
  let s1 := { s with tln := { s.tln with lastErr := (ratAbs e :: s.tln.lastErr).take 15 } }
  let s2 := if wasLocked || s1.tlState == 2 then
      { s1 with tln := { s1.tln with lockedIncr := (s1.incr :: s1.tln.lockedIncr).take 64 } } else s1
  if s2.tlState = 1 ∨ s2.tlState = 2 then { s2 with tln := { s2.tln with uncertBase := s2.eventUncert } } else s2

/-- The servo takes an event: in ACQUIRE and LOCKED, but in the TCLK cycle of a STEP, of a change of SRC or of a loss of the
selected source (R87, R89). -/
def State.servoTakes (s : State) : Bool :=
  s.tlnOn && s.tlSrc != 0 && (s.tlState == 1 || s.tlState == 2) && s.tln.voidAt != some s.tln.now

/-- Servo event with error e (exact, in 1/256 ns) of the selected source (R84 to R89). -/
def State.servoEvent (s : State) (e : Rat) (offered : Option Rat) : State :=
  if !s.servoTakes then s
  else
    let q := satSigned 32 (roundOpen 85 e.num e.den)
    let t := s.servoT offered
    let locked := s.tlState == 2
    let s1 := (s.setNat pgTLN Tln.LAST_ERR (unsign 32 q)).sample 3 0 q
    let s2 := s1.servoAct e t
    let stepped := decide (s2.tln.now ≠ s1.tln.now)
    let s3 := { s2 with tln := { s2.tln with hasPrev := !stepped, prevAt := s2.tln.now } }
    (s3.servoState e).servoNote e locked

/-- A servo event by itself: e in 1/256 ns, and the interval in ns that R412 or R549 gives for the source. -/
def execServoEvent (e : Rat) (interval : Option Nat) (s : State) : Host.Outcome State Fault Refusal :=
  done (s.servoEvent e (interval.map (fun n => (n : Rat) / 1000000000)))

/-- UNCERT in HOLDOVER first exceeds HOLD_LIMIT (R88). -/
def State.holdExpire (s : State) : State :=
  let lim := s.nat pgTLN Tln.HOLD_LIMIT
  let drift := s.nat pgTLN Tln.HOLD_DRIFT
  let base := s.tln.uncertBase
  if s.tlState ≠ 3 ∨ s.tln.holdDone = true ∨ base = UNC_UNKNOWN then s
  else if base ≤ lim ∧ drift = 0 then s
  else
    let t := if lim < base then s.tln.now else s.tln.holdFrom + (lim - base) * SEC * NS / drift + 1
    s.atTime t (fun a =>
      ({ a with tln := { a.tln with holdDone := true } }.setSts pgTLN Tln.S_HOLD_EXPIRED 1).irq 58)

def execHoldExpired (s : State) : Host.Outcome State Fault Refusal := done s.holdExpire

/-! ### Leap seconds (R104) -/

def State.leapAt (s : State) : Nat :=
  (s.nat pgTLN Tln.LEAP_AT_S_LO + 2 ^ 32 * s.fld pgTLN Tln.LEAP_AT_S_HI (15, 0)) * SEC * NS

/-- The leap applies: UTC_OFFSET, LEAP 0, LEAP_DONE and interrupt 61. -/
def State.leapNow (s : State) : State :=
  let u := s.reg pgTLN Tln.UTC_CTRL
  let off := bits u Tln.UTC_OFFSET + (if bits u Tln.LEAP = 1 then 1 else 0xFFFF)
  let v := putBits (putBits u Tln.LEAP 0) Tln.UTC_OFFSET off
  ((s.setReg pgTLN Tln.UTC_CTRL v).setSts pgTLN Tln.S_LEAP_DONE 1).irq 61

def State.leapArmed (s : State) : Bool :=
  let l := s.fld pgTLN Tln.UTC_CTRL Tln.LEAP
  l == 1 || l == 2

def State.leapApply (s : State) : State := if s.leapArmed then s.atTime s.leapAt State.leapNow else s

def execLeapApply (s : State) : Host.Outcome State Fault Refusal := done s.leapApply

/-! ### Reads (R81) -/

/-- A read of NOW_S_LO latches the time for its requester. -/
def State.nowLatch (s : State) (r : Requester) : State :=
  let v := timeValOf s.tln.now
  let l : NowLatch := ⟨v.s / 2 ^ 32, v.ns, v.frac, s.uncert⟩
  { s with tln := { s.tln with latch := Tab.set (fun _ => NowLatch.init) s.tln.latch (reqCode r) l } }.emit
    (.read (BitVec.ofNat 32 v.s))

def execNowLatch (req : Requester) (s : State) : Host.Outcome State Fault Refusal := done (s.access (fun a => a.nowLatch req))

/-! ### Commits of the TLN group (R84, R105 to R108) -/

/-- The commit would make live a value out of range. -/
def State.tlnBad (s : State) : Bool :=
  let free : Int := (s.shd pgTLN Tln.INCR_FREE_LO).toNat + 2 ^ 32 * bits (s.shd pgTLN Tln.INCR_FREE_HI) (15, 0)
  let slew := (s.shd pgTLN Tln.SLEW_MAX).toNat
  decide (free < INCR_MIN) || decide (INCR_MAX < free) || decide (9 ≤ bits (s.shd pgTLN Tln.TL_MODE) Tln.SRC)
    || decide (slew < 1) || decide (500000 < slew) || bits (s.shd pgTLN Tln.UTC_CTRL) Tln.LEAP == 3

/-- What follows a commit of the TLN group; `old` is the SRC that was live (R83, R87, R89). A leap whose instant has passed applies
at once (log entry 23). -/
def State.tlnCommitted (s : State) (old : Nat) : State :=
  let new := s.tlSrc
  let s1 :=
    if old = new then s
    else
      let a := { s with tln := { s.tln with hasPrev := false, reachedLocked := false, lockedIncr := [] } }.voidEvents
      if new = 0 then a.tlnOff
      else
        let b := a.slewEnd
        let c := { b with tln := { b.tln with preload := true } }
        if c.tlnOn && c.srcValid new then c.setTlState 1 else c
  let s2 := s1.retune
  if s2.leapArmed ∧ s2.leapAt ≤ s2.tln.now then s2.leapNow else s2

end Sys2Proof.Machine
end

