-- ==== Sys2Proof/Machine/Crc.lean ====
section
/-!
DEFINITION. CRC-32C (R270), and the field order in which messages, packets and records are put together.
-/
namespace Sys2Proof.Machine

/-- One bit of the reflected polynomial 0x1EDC6F41. -/
def crcBit (c : Word) : Word := if c.getLsbD 0 then (c >>> 1) ^^^ 0x82F63B78 else c >>> 1

def crcByte (c : Word) (b : Byte) : Word :=
  let x := c ^^^ b.setWidth 32
  crcBit (crcBit (crcBit (crcBit (crcBit (crcBit (crcBit (crcBit x)))))))

def crcOver (c : Word) : List Byte → Word
  | [] => c
  | b :: t => crcOver (crcByte c b) t

/-- CRC-32C: initial value and final XOR 0xFFFFFFFF. -/
def crc32c (l : List Byte) : Word := crcOver 0xFFFFFFFF l ^^^ 0xFFFFFFFF

/-- A byte as a number, and a number as a byte. -/
def byteOf (n : Nat) : Byte := BitVec.ofNat 8 n

/-- The list with `v` written over it from offset `o`. -/
def putAt (l : List Byte) (o : Nat) (v : List Byte) : List Byte := l.take o ++ v ++ l.drop (o + v.length)

end Sys2Proof.Machine
end

