-- ==== Sys2Proof/Machine/Tsx.lean ====
section
/-!
DEFINITION. The role of the device and the sending side of the Tsudex link (R525, R538 to R545): every block tells the
partner what it decided or received through these operations.
-/
namespace Sys2Proof.Machine

/-- LINK_STATE: 0 DOWN, 1 TRAINING, 2 UP, 3 DEGRADED (R573). -/
def State.linkState (s : State) : Nat := s.sts pgRED Red.S_LINK_STATE
def State.linkUp (s : State) : Bool := s.linkState == 2 || s.linkState == 3

/-- FALLBACK (R562). -/
def State.fallback (s : State) : Bool := s.sts pgRED Red.S_FALLBACK == 1

def State.detached (s : State) : Bool := s.fld pgRED Red.PAIR_STATE Red.DETACHED == 1
def State.differs (s : State) : Bool := s.fld pgRED Red.PAIR_STATE Red.DIFFERS == 1

/-- LOCAL_PAGES bit of a page (R558). -/
def State.localPage (s : State) (page : Nat) : Bool := s.flag pgRED (Red.LOCAL_PAGES (page / 32)) (page % 32)

/-- The device is STANDBY: it is not ACTIVE (R264, R525, R546; log entry 36). -/
def State.isStandby (s : State) : Bool := !s.stileHeld

/-- The device fixes starts, releases and readiness of Swath `k` itself (R264, R546, R558). -/
def State.ownStarts (s : State) (k : Nat) : Bool := !s.isStandby || (s.detached && s.localPage (pgSWT k))

/-- The device takes receptions of its own (R375, R390, R546). -/
def State.ownInputs (s : State) : Bool := !s.isStandby

/-- A Tsudex frame on the wire (R539). -/
def State.tsxBytes (s : State) (f : TsxFrame) : List Byte :=
  let head := beBytes 1 f.type ++ beBytes 1 (f.plane * 64 + (if f.resent = 0 then 0 else 32)) ++ beBytes 2 f.payload.length
    ++ beBytes 4 f.seq ++ beBytes 4 s.red.rxNext ++ beBytes 4 f.gen ++ f.payload
  head ++ beBytes 4 (crc32c head).toNat

/-- The lane that carries the next frame: lane 0 first (R540). -/
def State.tsxLane (s : State) : Nat := if s.red.up0 then 0 else 1

/-- One frame leaves on a lane. -/
def State.tsxPut (s : State) (lane : Nat) (f : TsxFrame) : State :=
  ((s.emit (.tsx lane (s.tsxBytes f))).inc (pgRED) Red.TX_FRAMES).count 1472 1

/-- TX_BACKLOG follows the frames not acknowledged (R570). -/
def State.tsxBacklog (s : State) : State := s.setNat pgRED Red.TX_BACKLOG (min 1024 s.red.unacked.length)

/-- A sequenced frame is sent and kept until it is acknowledged (R540). -/
def State.tsxQueue (s : State) (type plane : Nat) (payload : List Byte) : State :=
  let f : TsxFrame := ⟨s.red.txNext, type, plane, s.nat pgRED Red.SYNC_GEN, payload, 0⟩
  let s1 := { s with red := { s.red with txNext := (s.red.txNext + 1) % 2 ^ 32, unacked := s.red.unacked ++ [f] } }
  (s1.tsxPut s1.tsxLane f).tsxBacklog

/-- The data-plane stream is given up: a SYNC BREAK where the link allows, BREAKS, recorder code 0xE07 (R544, R575). -/
def State.tsxBreak (s : State) : State :=
  let s1 := { s with red := { s.red with unacked := s.red.unacked.filter (fun f => f.plane != 0), copying := false } }
  let s2 := if s.linkUp then
      s1.tsxQueue 0x21 1 (beBytes 1 4 ++ beBytes 3 0 ++ beBytes 4 (s.nat pgRED Red.SYNC_GEN) ++ (timeValOf s.tln.now).wireBytes)
    else s1.tsxBacklog
  ((s2.inc pgRED Red.BREAKS).fault pgRED Red.F_BREAK).trigger 0xE07 pgRED

/-- A message of the data, control or management plane (R540, R544). -/
def State.tsxSend (s : State) (type plane : Nat) (payload : List Byte) : State :=
  if !s.linkUp then s
  else
    let s1 := s.tsxQueue type plane payload
    if 1024 ≤ s1.red.unacked.length ∧ s.stileHeld = true then s1.tsxBreak else s1

/-- What the ACTIVE device tells its partner (R545). -/
def State.tell (s : State) (type : Nat) (payload : List Byte) : State :=
  if s.stileHeld then s.tsxSend type 0 payload else s

def State.nowWire (s : State) : List Byte := (timeValOf s.tln.now).wireBytes

/-- The fragments of an INPUT message: at most 2,018 bytes of data each, the last with LAST set. -/
def inputParts (cls port epoch : Nat) (stamp : List Byte) : List Byte → Nat → Nat → List (List Byte)
  | _, _, 0 => []
  | d, off, n + 1 =>
    let part := d.take 2018
    let last := decide (d.length ≤ 2018)
    let m := beBytes 1 cls ++ beBytes 1 port ++ beBytes 2 (if last then 1 else 0) ++ beBytes 2 off ++ beBytes 4 epoch
      ++ stamp ++ part
    if last then [m] else m :: inputParts cls port epoch stamp (d.drop 2018) (off + 2018) n

/-- A reception that lockstep replays, with its time (R545, INPUT). -/
def State.tellInput (s : State) (cls port epoch : Nat) (stamp d : List Byte) : State :=
  (inputParts cls port epoch stamp d 0 (d.length + 1)).foldl (fun a m => a.tell 0x10 m) s

/-- A lamp sample or sensor measurement (R545, SENSE). -/
def State.tellSense (s : State) (cls index code : Nat) : State :=
  s.tell 0x17 (beBytes 1 cls ++ beBytes 1 index ++ beBytes 2 code ++ s.nowWire)

/-- An outcome (R545, OUTCOME). -/
def State.tellOutcome (s : State) (cls port : Nat) (image : List Byte) : State :=
  s.tell 0x18 (beBytes 1 cls ++ beBytes 1 port ++ beBytes 2 0 ++ image)

/-! ### Hardware writes and the MIRROR table (R555 to R557, R572) -/

/-- MIRROR[i] is VALID with flag bit `b` and holds part of the `n` bytes at `a`. -/
def State.mirrorHas (s : State) (b i a n : Nat) : Bool :=
  let f := s.reg pgRED (Red.MIR_FLAGS i)
  let base := s.nat pgRED (Red.MIR_BASE_LO i) / 4096 * 4096 + 2 ^ 32 * s.fld pgRED (Red.MIR_BASE_HI i) (7, 0)
  bit f 0 && bit f b && decide (a < base + 4096 * s.fld pgRED (Red.MIR_SIZE i) (20, 0)) && decide (base < a + n)

def State.mirrored (s : State) (b a n : Nat) : Bool := (List.range 64).any (fun i => s.mirrorHas b i a n)

/-- Mirrored memory writes, at most 2,028 bytes each (R545, MEMWRITE). -/
def State.tellMem (s : State) (a : Nat) : List Byte → Nat → State
  | [], _ => s
  | _, 0 => s
  | l, n + 1 => State.tellMem (s.tell 0x11 (beBytes 8 a ++ l.take 2028)) (a + 2028) (l.drop 2028) n

/-- The standby of a running copy leaves HW_STATE ranges to the active (R556; its own MIRROR table names them, log entry
54). -/
def State.hwSuppressed (s : State) (a n : Nat) : Bool :=
  !s.stileHeld && s.syncState == 1 && s.red.convergeAt.isNone && s.mirrored 2 a n

/-- Until the convergence start the active tells its partner of every write into an HW_STATE range (R555, R556). -/
def State.hwTell (s : State) (a : Nat) (l : List Byte) : State :=
  if s.red.mirrorHw && s.mirrored 2 a l.length then s.tellMem a l (l.length + 1) else s

/-- A write by the hardware to memory. -/
def State.hwBytes (s : State) (a : Nat) (l : List Byte) : State :=
  if s.hwSuppressed a l.length then s else (s.setBytes a l).hwTell a l

/-- A write of memory by one of the device's own engines, at an address that software chose: in FeRAM it is dropped with FERAM_WP
(R44, R45), outside memory with UNMAPPED (R43). -/
def State.dmaBytes (s : State) (a : Nat) (l : List Byte) : State :=
  let at_ := (List.range l.length).map (a + ·)
  let s1 := if at_.any isFeram then s.fault pgFWU Fwu.F_FERAM_WP else s
  let s2 := if at_.any (fun x => !isMemory x) then s1.fault pgSYS F_UNMAPPED else s1
  if s2.hwSuppressed a l.length then s2
  else ((at_.zip l).foldl (fun b e => if isFeram e.1 then b else b.setByte e.1 e.2) s2).hwTell a l

def State.hwMem (s : State) (a n v : Nat) : State := s.hwBytes a (leBytes n v)

/-- Every byte from `a` to `a + n - 1` becomes 0. -/
def State.zeroBytes (s : State) (a n : Nat) : State :=
  { s with mem := Tab.keep (fun k => decide (k < a) || decide (a + n ≤ k)) s.mem }

/-- The same as a hardware write; while HW_STATE is mirrored, the partner is told of each part that was not 0. -/
def State.hwZero (s : State) (a n : Nat) : State :=
  if s.hwSuppressed a n then s
  else
    let s1 := s.zeroBytes a n
    if s1.red.mirrorHw && s1.mirrored 2 a n then
      let parts := ((s.mem.filter (fun e => decide (a ≤ e.1) && decide (e.1 < a + n))).map (fun e => (e.1 - a) / 1024)).eraseDups
      parts.foldl (fun x i => x.tellMem (a + 1024 * i) (List.replicate (min 1024 (n - 1024 * i)) 0) 2) s1
    else s1

end Sys2Proof.Machine
end

