-- ==== Sys2Proof/Machine/Compose.lean ====
section
/-!
DEFINITION. Composition: buffers, layers, snapshots, scan references, dose and its flushes (R119 to R150, R152 to R158).
-/
namespace Sys2Proof.Machine

/-! ### Registers of maps, buffers and layers -/

/-- First page of the CMP instance of map `m` (R119). -/
def cmpOfMap (m : Nat) : Nat := pgCMP (m / 4)
def State.mapReg (s : State) (m : Nat) (r : Nat → Nat) : Word := s.reg (cmpOfMap m) (r (m % 4))

/-- A 256-byte aligned address from its LO and HI registers (R155, R157). -/
def address8 (lo hi : Word) : Nat := lo.toNat / 256 * 256 + 2 ^ 32 * bits hi (7, 0)

def State.mapAddr (s : State) (m : Nat) (lo hi : Nat → Nat) : Nat := address8 (s.mapReg m lo) (s.mapReg m hi)

def State.bufReg (s : State) (b : Nat) (r : Nat → Nat) : Word := s.reg (pgCMP (b / 16)) (r (b % 16))
def State.layerReg (s : State) (l : Nat) (r : Nat → Nat) : Word := s.reg (pgCMP (l / 4)) (r (l % 4))

/-- Texel size B of a format (R120). -/
def texelBytes (fmt : Nat) : Nat := [8, 4, 2, 1].getD fmt 1

/-- Output depth in bits (R156). -/
def depthOf (ctrl : Word) : Nat := [8, 12, 16].getD (bits ctrl Cmp.DEPTH) 16

/-- B_out of a depth, and OFB_SLOT (R150). -/
def outBytes (depth : Nat) : Nat := if depth = 8 then 4 else 8
def ofbSlot (count depth : Nat) : Nat := ceilDiv (count * outBytes depth) 256 * 256

/-- The VALID map bound to Swath `k` (R156). -/
def State.mapOf (s : State) (k : Nat) : Option Nat :=
  (List.range 16).find? (fun m =>
    let c := s.mapReg m Cmp.PMAP_CTRL
    bit c 0 && bits c Cmp.SWATH == k)

/-! ### Commit checks (R121, R156) -/

/-- R121's check of a base against a size; a size of 0 leaves the base unchecked. -/
def spanBad (base size : Nat) : Bool := decide (size ≠ 0) && !dramSpan base size

/-- A buffer entry that would be VALID breaks R121. -/
def bufBad (ctrl lo hi dim stride : Word) : Bool :=
  bit ctrl 0 &&
    (decide (bits stride (17, 0) % 256 ≠ 0)
      || decide (bits stride (17, 0) < (bits dim (13, 0) + 1) * texelBytes (bits ctrl (3, 2)))
      || !dramSpan (address8 lo hi) ((bits dim (29, 16) + 1) * bits stride (17, 0)))

/-- A pixel map whose values break R121, R155 or R156 (log entry 30). -/
def mapBad (get : Nat → Word) (i : Nat) : Bool :=
  let ctrl := get (Cmp.PMAP_CTRL i)
  let count := bits (get (Cmp.PMAP_COUNT i)) (23, 0)
  let tiles := bits (get (Cmp.TILE_COUNT i)) (18, 0)
  let corr := if bits ctrl Cmp.CORR_MODE = 1 then 32 * count else if tiles = 0 then 0 else 32
  bits ctrl Cmp.DEPTH == 3 || decide (262144 < tiles) || decide (8388608 < count)
    || (bit ctrl 0 && (decide (count = 0)
      || spanBad (address8 (get (Cmp.PMAP_BASE_LO i)) (get (Cmp.PMAP_BASE_HI i))) (8 * count)
      || spanBad (address8 (get (Cmp.CORR_BASE_LO i)) (get (Cmp.CORR_BASE_HI i))) corr
      || spanBad (address8 (get (Cmp.TILE_BASE_LO i)) (get (Cmp.TILE_BASE_HI i))) (128 * tiles)
      || spanBad (address8 (get (Cmp.OFB_BASE_LO i)) (get (Cmp.OFB_BASE_HI i))) (3 * ofbSlot count (depthOf ctrl))))

/-- Two VALID maps would name one Swath after a commit of instance `n` (R156). -/
def State.swathClash (s : State) (n : Nat) : Bool :=
  let ctrl (m : Nat) : Word :=
    if m / 4 = n then s.shd (pgCMP n) (Cmp.PMAP_CTRL (m % 4)) else s.mapReg m Cmp.PMAP_CTRL
  (List.range 16).any (fun a => (List.range 16).any (fun b =>
    decide (a < b) && bit (ctrl a) 0 && bit (ctrl b) 0 && bits (ctrl a) Cmp.SWATH == bits (ctrl b) Cmp.SWATH))

/-- The pages of instance `n` that hold an offending value of the commit (R734). -/
def State.cmpBad (s : State) (n : Nat) : List Nat :=
  let p := pgCMP n
  let g := s.shd p
  let maps := (List.range 4).any (mapBad g) || s.swathClash n
  let bufs := (List.range 16).any (fun j =>
    bufBad (g (Cmp.BUF_CTRL j)) (g (Cmp.BUF_BASE_LO j)) (g (Cmp.BUF_BASE_HI j)) (g (Cmp.BUF_DIM j)) (g (Cmp.BUF_STRIDE j)))
  (if maps then [p + 1] else []) ++ (if bufs then [p + 4] else [])

/-! ### Jobs and snapshots -/

def State.regionOf (s : State) (n : Nat) : RegionState := Tab.get (fun _ => RegionState.init) s.region n
def State.setRegion (s : State) (n : Nat) (v : RegionState) : State :=
  { s with region := Tab.set (fun _ => RegionState.init) s.region n v }

def Job.word (j : Job) (k : Nat) : Word := j.d.getD k 0
def Job.type (j : Job) : Nat := bits (j.word 0) (3, 0)
def Job.frame (j : Job) : Nat := (j.word 3).toNat

/-- Word `k` of the descriptor in slot `i` of a region's spill ring. -/
def State.spillWord (s : State) (n i k : Nat) : Word :=
  BitVec.ofNat 32 (s.mem_ (s.nat (pgJSC n) Jsc.SPILL_BASE_LO / 2 ^ 20 * 2 ^ 20
    + 2 ^ 32 * s.fld (pgJSC n) Jsc.SPILL_BASE_HI (7, 0) + 32 * i + 4 * k) 4)

/-- A TILE job of frame `f` of map `m` has not retired (R125). -/
def State.tilesPending (s : State) (m f : Nat) : Bool :=
  (List.range 4).any (fun n =>
    let r := s.regionOf n
    r.jobs.any (fun j => j.type == 0 && bits (j.word 4) (3, 0) == m && j.frame == f)
      || r.spill.any (fun x => bits (s.spillWord n x.slot 0) (3, 0) == 0 && bits (s.spillWord n x.slot 4) (3, 0) == m
          && (s.spillWord n x.slot 3).toNat == f))

/-- An AUTO list of Swath `k` is still being read for frame `f`. -/
def State.listsReading (s : State) (k f : Nat) : Bool :=
  (List.range 4).any (fun n => (List.range 8).any (fun i =>
    let l := Tab.get (fun _ => ListRun.init) (s.regionOf n).lists i
    l.reading && l.auto && l.frame == f && s.fld (pgJSC n) (Jsc.LIST_CTRL i) (11, 8) == k))

def State.snapsOf (s : State) (m : Nat) : List Snap := Tab.get (fun _ => []) s.snaps m
def State.setSnaps (s : State) (m : Nat) (l : List Snap) : State :=
  { s with snaps := Tab.set (fun _ => []) s.snaps m l }

/-- The snapshot of frame `f` of map `m` that was taken for Swath `k` (R124). -/
def State.snapAt (s : State) (m f k : Nat) : Option Snap := (s.snapsOf m).find? (fun x => x.frame == f && x.swath == k)

/-- The same for the Swath that the live map names. -/
def State.snapOf (s : State) (m f : Nat) : Option Snap := s.snapAt m f (bits (s.mapReg m Cmp.PMAP_CTRL) Cmp.SWATH)

/-- The same for a TILE job: that of its AUTO list's Swath, else of the Swath that the live map names (log entry 139). -/
def State.snapOfJob (s : State) (m : Nat) (j : Job) : Option Snap :=
  match j.source with
  | .list k _ true => s.snapAt m j.frame k
  | .list _ _ false => s.snapOf m j.frame
  | .host => s.snapOf m j.frame
  | .core => s.snapOf m j.frame
  | .ingest => s.snapOf m j.frame

/-- SCAN_REF of buffer `b` (R126): bit k while a frame of a map whose snapshot named the buffer has TILE jobs not yet
retired. -/
def State.scanRef (s : State) (b : Nat) : Nat :=
  (List.range 16).foldl (fun acc m => (s.snapsOf m).foldl (fun a x =>
    if x.layers.any (fun l => l.buf == some b) && (s.tilesPending m x.frame || s.listsReading x.swath x.frame)
    then a ||| 2 ^ x.swath else a) acc) 0

/-- R125 for a release of frame `f` of Swath `k`. -/
def State.snapshotAllowed (s : State) (k f : Nat) : Bool :=
  match s.mapOf k with
  | none => true
  | some m =>
    (f == 0 || !s.tilesPending m (f - 1)) && (decide (f < 2) || ((s.swath k).firsts.any (fun x => x.1 == f - 2)))

/-- Layer `l` as the snapshot captures it (R124, R129). -/
def State.captureLayer (s : State) (l : Nat) : LayerSnap :=
  let lb := s.layerReg l Cmp.LAYER_BUF
  let b := bits lb (5, 0)
  let ok := bit lb 31 && bit (s.bufReg b Cmp.BUF_CTRL) 0
  let dim := s.bufReg b Cmp.BUF_DIM
  { layer := l
    buf := if ok then some b else none
    base := address8 (s.bufReg b Cmp.BUF_BASE_LO) (s.bufReg b Cmp.BUF_BASE_HI)
    stride := bits (s.bufReg b Cmp.BUF_STRIDE) (17, 0)
    width := bits dim (13, 0) + 1
    height := bits dim (29, 16) + 1
    fmt := bits (s.bufReg b Cmp.BUF_CTRL) (3, 2)
    orgU := signed 32 (s.layerReg l Cmp.LAYER_ORG_U).toNat
    orgV := signed 32 (s.layerReg l Cmp.LAYER_ORG_V).toNat }

/-- The gain slot that a snapshot reads (R145, R146; log entry 31). -/
def State.gainSlot (s : State) (k : Nat) : Nat :=
  let j := (s.swath k).jNext
  if j = 0 then 1 else j % 2

/-- The live CMP values captured at the release of frame `f` (R124). -/
def State.captureSnap (s : State) (m k f : Nat) : Snap :=
  let p := cmpOfMap m
  let i := m % 4
  let mask := bits (s.mapReg m Cmp.LAYER_MASK) (15, 0)
  { frame := f
    swath := k
    ctrl := s.mapReg m Cmp.PMAP_CTRL
    base := s.mapAddr m Cmp.PMAP_BASE_LO Cmp.PMAP_BASE_HI
    count := bits (s.mapReg m Cmp.PMAP_COUNT) (23, 0)
    mask := mask
    corr := s.mapAddr m Cmp.CORR_BASE_LO Cmp.CORR_BASE_HI
    tiles := s.mapAddr m Cmp.TILE_BASE_LO Cmp.TILE_BASE_HI
    tileCount := bits (s.mapReg m Cmp.TILE_COUNT) (18, 0)
    ofb := s.mapAddr m Cmp.OFB_BASE_LO Cmp.OFB_BASE_HI
    entry := s.fld p (Cmp.PROG_ENTRY i) (12, 0)
    consts := (List.range 8).map (fun x => s.reg p (Cmp.PROG_CONST i x))
    banks := (List.range 128).map (fun b => s.fld p (Cmp.TILE_BANK i b) (18, 0))
    layers := ((List.range 16).filter (fun l => mask.testBit l)).map s.captureLayer
    slot := s.gainSlot k
    cmpCtrl := s.reg p Cmp.CMP_CTRL
    seedLo := s.reg pgRED Red.PAIR_SEED_LO
    seedHi := s.reg pgRED Red.PAIR_SEED_HI
    rangeSeen := false }

/-- SUM slot `q` of every tile is zeroed (R142). -/
def State.zeroSums (s : State) (base slot : Nat) : Nat → State
  | 0 => s
  | n + 1 => (State.zeroSums s base slot n).hwBytes (base + 128 * n + 0x20 + 16 * slot) (List.replicate 16 0)

/-- CMP takes the snapshot of frame `f` of the map bound to Swath `k` (R124, R126, R129, R142, R155). -/
def State.snapshot (s : State) (k f : Nat) : State :=
  match s.mapOf k with
  | none => s
  | some m =>
    let x := s.captureSnap m k f
    let s1 := s.setSnaps m ((x :: s.snapsOf m).take 3)
    let s2 := s1.setNat (cmpOfMap m) (Cmp.FRAME_NUM (m % 4)) (f % 2 ^ 32)
    let s3 := if x.layers.any (fun l => l.buf.isNone) then s2.fault (cmpOfMap m) Cmp.F_BUF_INVALID else s2
    s3.zeroSums x.tiles (f % 3) x.tileCount

/-! ### Dose (R141 to R146) -/

/-- Entry `k` of efficiency curve `c` of instance `n`, 0 to 63 (R157). -/
def State.curve (s : State) (n c k : Nat) : Nat :=
  let w := s.reg (pgCMP n) (Cmp.CURVE c (k / 2))
  if k % 2 = 0 then bits w (15, 0) else bits w (31, 16)

/-- η of an integral (R144). -/
def efficiency (curve : Nat → Nat) (d : Nat) : Nat :=
  if d = 0 then curve 0
  else
    let k := Nat.log2 d
    let f := (d - 2 ^ k) * 65536 / 2 ^ k
    let next := curve (min 63 (k + 1))
    ((curve k : Int) + rhe (((next : Int) - curve k) * f) 65536).toNat

/-- The gain of an integral, and whether it is limited (R144). -/
def doseGain (curve : Nat → Nat) (headroom d : Nat) : Nat × Bool :=
  let eta := efficiency curve d
  if eta = 0 then (32768, true)
  else
    let g := (rhe (32768 * ((65536 : Int) - headroom)) eta).toNat
    (min 32768 g, decide (32768 < g))

/-- A saturation of a sum or integral (R142, R143, R152). -/
def State.doseSat (s : State) (m tile c : Nat) : State :=
  let p := cmpOfMap m
  let s1 := s.fault p Cmp.F_DOSE_SAT
  if s1.flag p Cmp.DOSE_SAT_INFO 31 then s1
  else s1.setNat p Cmp.DOSE_SAT_INFO (2 ^ 31 + (m % 4) * 2 ^ 24 + c * 2 ^ 20 + tile % 2 ^ 18)

/-- The flush of one channel of one tile (R143, R144): the new integral, whether it saturated, the gain, whether it is
limited. -/
def flushChannel (curve : Nat → Nat) (headroom old sum d : Nat) (add : Bool) : Nat × Bool × Nat × Bool :=
  let raw := if add then old + sum * d / 2 ^ 18 else old
  let int := min 0xFFFFFFFFFFFFFFFF raw
  let g := doseGain curve headroom int
  (int, decide (0xFFFFFFFFFFFFFFFF < raw), g.1, g.2)

/-- The flush of one tile: its entry and the number of its limited channels. -/
def State.flushTile (s : State) (m base tile sumSlot d slot : Nat) (add : Bool) : State × Nat :=
  let a := base + 128 * tile
  let p := cmpOfMap m
  let flags := s.mem_ (a + 0x64) 4
  let r := (List.range 4).foldl (fun (acc : State × Nat × Nat × Nat) c =>
    let x := flushChannel (acc.1.curve (m / 4) c) (s.fld p Cmp.HEADROOM (15, 0)) (acc.1.mem_ (a + 8 * c) 8)
      (acc.1.mem_ (a + 0x20 + 16 * sumSlot + 4 * c) 4) d add
    let s1 := (acc.1.hwMem (a + 8 * c) 8 x.1).hwMem (a + 0x50 + 8 * slot + 2 * c) 2 x.2.2.1
    let s2 := if x.2.1 then s1.doseSat m tile c else s1
    (s2, acc.2.1 ||| (if x.2.1 then 2 ^ c else 0), acc.2.2.1 ||| (if x.2.2.2 then 2 ^ (c + 4) else 0),
      acc.2.2.2 + (if x.2.2.2 then 1 else 0))) (s, 0, 0, 0)
  (r.1.hwMem (a + 0x64) 4 ((flags ||| r.2.1) &&& (0xFFFFFF0F : Nat) ||| r.2.2.1), r.2.2.2)

/-- LIMIT_COUNT and DOSE_LIMIT, with interrupt 113 + 2n when it rises (R144, R158). -/
def State.setLimits (s : State) (n count : Nat) : State :=
  let p := pgCMP n
  let old := s.sts p Cmp.S_DOSE_LIMIT
  let s1 := (s.setNat p Cmp.LIMIT_COUNT count).setSts p Cmp.S_DOSE_LIMIT (if count = 0 then 0 else 1)
  if old = 0 ∧ count ≠ 0 then s1.irq (113 + 2 * n) else s1

/-- A flush of every tile of map `m` (R143): sums of content frame `g` over `d` ns, gains to `slot`. -/
def State.flush (s : State) (m d g slot : Nat) (add : Bool) : State :=
  let base := s.mapAddr m Cmp.TILE_BASE_LO Cmp.TILE_BASE_HI
  let count := bits (s.mapReg m Cmp.TILE_COUNT) (18, 0)
  let r := (List.range count).foldl (fun (acc : State × Nat) t =>
    let x := acc.1.flushTile m base t (g % 3) d slot add
    (x.1, acc.2 + x.2)) (s, 0)
  r.1.setLimits (m / 4) r.2

/-- DOSE_ACC of the instance of map `m` (R153). -/
def State.doseAcc (s : State) (m : Nat) : Bool := s.flag (cmpOfMap m) Cmp.CMP_CTRL 1

/-- The flush of R143 at frame start S_j, `now` in 1/1280 ns. -/
def State.flushAtStart (s : State) (k now : Nat) : State :=
  let w := s.swath k
  match s.mapOf k with
  | none => s
  | some m =>
    if !s.doseAcc m then s
    else
      match w.lastStart with
      | some prev =>
        if w.jNext = 0 then s.flush m 0 0 0 false
        else s.flush m ((now - prev) / LU) (w.shown.getD 0) (w.jNext % 2) true
      | none => s.flush m 0 0 (w.jNext % 2) false

/-- The further flush of R146, at the instant the outputs stop holding the last frame. -/
def State.flushAtLeave (s : State) (k now : Nat) : State :=
  let w := s.swath k
  match s.mapOf k, w.lastStart with
  | some m, some prev => if s.doseAcc m then s.flush m ((now - prev) / LU) (w.shown.getD 0) 1 true else s
  | _, _ => s

/-- The dose sums of a retiring TILE job, one saturating addition per tile and channel (R142). -/
def State.addSums (s : State) (m : Nat) (x : Snap) (sums : Tab Nat) : State :=
  sums.foldl (fun a e =>
    let tile := e.1 / 4
    let c := e.1 % 4
    if x.tileCount ≤ tile then a
    else
      let at_ := x.tiles + 128 * tile + 0x20 + 16 * (x.frame % 3) + 4 * c
      let v := a.mem_ at_ 4 + e.2
      let a1 := a.hwMem at_ 4 (min 0xFFFFFFFF v)
      if v ≤ 0xFFFFFFFF then a1
      else
        let fl := x.tiles + 128 * tile + 0x64
        (a1.hwMem fl 4 (a1.mem_ fl 4 ||| 2 ^ c)).doseSat m tile c) s

/-! ### Host writes and ingest flips (R122, R127, R128) -/

/-- BUFFER_REUSE for each referenced buffer that a host write touches (R128). -/
def State.reuseCheck (s : State) (addr n : Nat) : State :=
  (List.range 64).foldl (fun a b =>
    let base := address8 (a.bufReg b Cmp.BUF_BASE_LO) (a.bufReg b Cmp.BUF_BASE_HI)
    let size := (bits (a.bufReg b Cmp.BUF_DIM) (29, 16) + 1) * bits (a.bufReg b Cmp.BUF_STRIDE) (17, 0)
    if addr < base + size ∧ base < addr + n ∧ a.scanRef b ≠ 0 then
      let p := pgCMP (b / 16)
      let a1 := a.fault p Cmp.F_BUFFER_REUSE
      let a2 := if a1.flag p Cmp.REUSE_INFO 31 then a1 else a1.setNat p Cmp.REUSE_INFO (2 ^ 31 + b)
      a2.inc p Cmp.REUSE_COUNT
    else a) s

/-- An ingest flip of layer `l` to buffer `b` (R122): both copies of LAYER_BUF, and both epochs. -/
def State.ingestFlip (s : State) (l b : Nat) : State :=
  let p := pgCMP (l / 4)
  let r := Cmp.LAYER_BUF (l % 4)
  ((s.setBoth p r (putBits (s.reg p r) (5, 0) b)).inc p (Cmp.LAYER_EPOCH (l % 4))).inc
    (pgCMP (b / 16)) (Cmp.BUF_EPOCH (b % 16))

end Sys2Proof.Machine
end

