-- ==== Sys2Proof/Machine/JobStore.lean ====
section
/-!
DEFINITION. The region schedulers' shared operations: descriptors and their checks, the job store and spill ring,
dependence counters, ordering domains, wakes of threads, faults and retirement (R199 to R217, R223, R229 to R236), job
tracing (R601, R602) and the launch of job lists (R208 to R210).
-/
namespace Sys2Proof.Machine

/-! ### Descriptors (R200 to R202) -/

def Job.ordered (j : Job) : Bool := bit (j.word 0) 4
def Job.domain (j : Job) : Nat := bits (j.word 0) (19, 8)
def Job.wait (j : Job) : Nat := bits (j.word 1) (27, 16)
def Job.seq (j : Job) : Nat := bits (j.word 1) (15, 0)
def Job.arg (j : Job) (k : Nat) : Nat := (j.word (4 + k)).toNat

/-- The signals of SIG0 and SIG1 that are enabled: region and counter. -/
def Job.signals (j : Job) : List (Nat × Nat) :=
  let w := j.word 2
  (if bit w 15 then [(bits w (13, 12), bits w (11, 0))] else [])
    ++ (if bit w 31 then [(bits w (29, 28), bits w (27, 16))] else [])

/-- The bits that each type uses in ARG0 to ARG3 (R201). -/
def argMasks (type : Nat) : List Nat :=
  match type with
  | 0 => [0xF, 0x7FFFFF, 0x1FF, 0]
  | 1 => [0x1FFFF, 0x1FF, 0, 0]
  | 2 => [0xFFF, 0xFFFFFFFF, 0, 0]
  | 3 => [0xFF, 0xFFFFFF, 0xFFFFFF, 0]
  | 4 => [0x73F0F, 0, 0, 0]
  | _ => [0xFF, 0xFFFFFFFF, 0, 0]

/-- No reserved bit of the descriptor is 1. -/
def reservedClear (d : List Word) : Bool :=
  let type := bits (d.getD 0 0) (3, 0)
  (List.zip d (([0x000FFF7F, 0x0FFFFFFF, 0xBFFFBFFF, 0xFFFFFFFF] : List Nat) ++ argMasks type)).all
    (fun e => e.1.toNat &&& e.2 == e.1.toNat)

/-- The region of an output that a FILL names (R17), none where there is no such output. -/
def fillRegion (cls k : Nat) : Option Nat :=
  match cls with
  | 0 => some (k / 16)
  | 1 => if k < 12 then some (k / 3) else none
  | 2 => if k < 8 then some (k / 2) else none
  | _ => if k < 4 then some k else none

/-- The largest element count of a FILL: 16,384 pixels (R288), 512 slots (R312), 8 channels (R450); a field port's
chapter gives its count no limit of its own. -/
def fillLimit (cls : Nat) : Nat :=
  match cls with
  | 0 => 16384
  | 1 => 512
  | 2 => 0xFFFFFF
  | _ => 8

/-- The executor number of an output (R241). -/
def fillExecutor (cls k : Nat) : Nat :=
  match cls with
  | 0 => 32 + k
  | 1 => 96 + k
  | 2 => 108 + k
  | _ => 116 + k

/-- R199: the source may give a job of this type. -/
def State.sourceOk (s : State) (d : List Word) (src : JobSource) : Bool :=
  match bits (d.getD 0 0) (3, 0), src with
  | 0, .list k _ _ => bits (s.mapReg (bits (d.getD 4 0) (3, 0)) Cmp.PMAP_CTRL) Cmp.SWATH == k
  | 1, .list _ _ _ => true
  | 2, .list _ _ _ => true
  | 2, .host => true
  | 2, .core => true
  | 3, .list _ _ _ => true
  | 3, .host => true
  | 3, .core => true
  | 4, .ingest => true
  | 5, .list _ _ _ => true
  | 5, .host => true
  | 5, .core => true
  | _, _ => false

/-- R201, R202: the counts of the descriptor, and the output that a FILL names. -/
def countsOk (n : Nat) (d : List Word) : Bool :=
  let a0 := (d.getD 4 0).toNat
  let a1 := (d.getD 5 0).toNat
  let a2 := (d.getD 6 0).toNat
  match bits (d.getD 0 0) (3, 0) with
  | 0 => decide (1 ≤ a2 ∧ a2 ≤ 256)
  | 1 => decide (1 ≤ a1 ∧ a1 ≤ 256)
  | 3 => decide (1 ≤ a2 ∧ a2 ≤ fillLimit (a0 / 64 % 4)) && fillRegion (a0 / 64 % 4) (a0 % 64) == some n
  | _ => true

/-- The region that a descriptor goes to: a THREAD job is passed to its thread's region (R202). -/
def targetRegion (n : Nat) (d : List Word) : Nat :=
  if bits (d.getD 0 0) (3, 0) = 5 then (d.getD 4 0).toNat / 64 % 4 else n

/-- BAD_DESC of R202. -/
def State.descBad (s : State) (n : Nat) (d : List Word) (src : JobSource) : Bool :=
  let w := d.getD 0 0
  decide (5 < bits w (3, 0)) || !reservedClear d || !s.sourceOk d src
    || (bit w 4 && bits w (19, 8) / 1024 != targetRegion n d) || !countsOk n d

/-! ### The store -/

/-- The job with its number replaced, or added at the end. -/
def RegionState.put (r : RegionState) (j : Job) : RegionState :=
  if r.jobs.any (fun x => x.id == j.id) then { r with jobs := r.jobs.map (fun x => if x.id = j.id then j else x) }
  else { r with jobs := r.jobs ++ [j] }

def RegionState.del (r : RegionState) (id : Nat) : RegionState :=
  { r with jobs := r.jobs.filter (fun x => x.id != id) }

/-- The job occupies the job store (R229). -/
def Job.stored (j : Job) : Bool := j.phase == .waiting || j.phase == .ready || j.phase == .setAside

/-- The job counts as in flight (R203). -/
def Job.inFlight (j : Job) : Bool := j.phase == .dispatched || j.phase == .completed

def RegionState.storeLevel (r : RegionState) : Nat := (r.jobs.filter Job.stored).length
def RegionState.inFlight (r : RegionState) : Nat := (r.jobs.filter Job.inFlight).length

/-- The base of a region's spill ring; 0 disables it (R230). -/
def State.spillBase (s : State) (n : Nat) : Nat :=
  s.nat (pgJSC n) Jsc.SPILL_BASE_LO / 2 ^ 20 * 2 ^ 20 + 2 ^ 32 * s.fld (pgJSC n) Jsc.SPILL_BASE_HI (7, 0)

/-- SUBMIT_SPACE (R231, R239); a job handed back may stand over the 2,048 (R224). -/
def State.submitSpace (s : State) (n : Nat) : Nat :=
  let r := s.regionOf n
  (2048 - r.storeLevel) + (if s.spillBase n = 0 then 0 else 32768 - r.spill.length)

/-- Changes region `n`. -/
def State.modRegion (s : State) (n : Nat) (f : RegionState → RegionState) : State := s.setRegion n (f (s.regionOf n))

/-! ### Faults (R223, R241) -/

/-- A faulted retirement or a dropped descriptor. -/
def State.jobFault (s : State) (n kind : Nat) (j : Job) (executor : Nat) : State :=
  let p := pgJSC n
  let s1 := s.inc p Jsc.JOB_FAULT_COUNT
  let s2 :=
    if s.flag p Jsc.JOB_FAULT_INFO 31 then s1
    else (s1.setNat p Jsc.JOB_FAULT_INFO
        (2 ^ 31 + kind * 2 ^ 24 + j.type * 2 ^ 16 + (if j.ordered then j.domain else 0))).setNat p Jsc.JOB_FAULT_SEQ
        (executor * 2 ^ 16 + j.seq)
  s2.fault p Jsc.F_JOB_FAULT

/-! ### Readiness of content frames (R252) -/

/-- Job `j` came from an AUTO list launched at the release of frame `f` of Swath `k`. -/
def JobSource.ofFrame (x : JobSource) (k f : Nat) : Bool := x == .list k f true

/-- A job of the AUTO lists of frame `f` of Swath `k` has not retired, or a list is still being read. -/
def State.framePending (s : State) (k f : Nat) : Bool :=
  s.listsReading k f || (List.range 4).any (fun n =>
    (s.regionOf n).jobs.any (fun j => j.source.ofFrame k f) || (s.regionOf n).spill.any (fun x => x.source.ofFrame k f))

def State.readySrc (s : State) (k : Nat) : Nat := s.fld (pgSWT k) Swt.SWT_MODE Swt.READY_SRC

/-- Released frame `f` of Swath `k` becomes ready: the ACTIVE device tells its partner, and the standby notes what it has
itself made ready (R545, R552). -/
def State.frameReady (s : State) (k f : Nat) : State :=
  let w := s.swath k
  if w.frames.any (fun x => x.frame == f && !x.ready) then
    let s1 := s.setSwath k { w with frames := w.frames.map (fun x => if x.frame = f then { x with ready := true } else x) }
    let s2 := { s1 with red := { s1.red with ownReady := Tab.set (fun _ => 0) s1.red.ownReady k (f + 1) } }
    s2.tell 0x15 (beBytes 1 k ++ beBytes 3 0 ++ beBytes 4 f)
  else s

/-- Under LISTS, the released frame becomes ready once its jobs have retired. -/
def State.readyCheck (s : State) (k f : Nat) : State :=
  if s.readySrc k = 0 ∧ s.framePending k f = false then s.frameReady k f else s

/-- What the end of a job of this source may bring about. -/
def State.sourceDone (s : State) (src : JobSource) : State :=
  match src with
  | .list k f true => s.readyCheck k f
  | _ => s

/-! ### Entry to READY (R203, R214, R216) -/

def State.domainOf (s : State) (d : Nat) : Domain := Tab.get (fun _ => Domain.init) (s.regionOf (d / 1024)).dom (d % 1024)
def State.setDomain (s : State) (d : Nat) (v : Domain) : State :=
  s.modRegion (d / 1024) (fun r => { r with dom := Tab.set (fun _ => Domain.init) r.dom (d % 1024) v })

/-- (SEQ - HEAD) mod 2^16 of an ordered job. -/
def State.windowPos (s : State) (j : Job) : Nat := (j.seq + 65536 - (s.domainOf j.domain).head) % 65536

/-- The job has been examined and stands in the window. -/
def Job.windowed (j : Job) : Bool := j.ordered && (j.phase == .ready || j.inFlight)

/-- Drops a descriptor as BAD_DESC (R202, R216). -/
def State.dropJob (s : State) (n : Nat) (j : Job) : State :=
  let s1 := (s.modRegion n (·.del j.id)).jobFault n 3 j 127
  ((s1.fault (pgJSC n) Jsc.F_BAD_DESC).count (1024 + 48 * n + 5) 1).sourceDone j.source

/-- The trace of a job with its READY instant, the first time it becomes READY. -/
def State.markReady (s : State) (j : Job) : Job :=
  { j with trace := j.trace.map (fun t => { t with ready := if t.ready = 0 then s.tln.now else t.ready }) }

/-- A job whose counter is 0 is examined: dropped, set aside, or READY behind the others. -/
def State.enterReady (s : State) (n : Nat) (j : Job) : State :=
  let pos := s.windowPos j
  let twin := (s.regionOf n).jobs.any (fun x => x.windowed && x.domain == j.domain && x.seq == j.seq && x.id != j.id)
  if j.ordered ∧ (32768 ≤ pos ∨ (pos ≤ 63 ∧ twin = true)) then s.dropJob n j
  else if j.ordered ∧ 63 < pos then s.modRegion n (·.put { j with phase := .setAside })
  else
    s.modRegion n (fun r =>
      { r.put { s.markReady j with phase := .ready, readyAt := r.stamp } with stamp := r.stamp + 1 })

def State.ctrOf (s : State) (n c : Nat) : Nat := Tab.get (fun _ => 0) (s.regionOf n).ctr c

/-- A stored descriptor waits on its counter or is examined at once (R203, R204). -/
def State.takeIn (s : State) (n : Nat) (j : Job) : State :=
  if j.wait ≠ 0 ∧ s.ctrOf n j.wait ≠ 0 then s.modRegion n (·.put { j with phase := .waiting })
  else s.enterReady n j

/-- Every job of a list is examined, in the list's order. -/
def State.enterAll (s : State) (n : Nat) : List Job → State
  | [] => s
  | j :: t => State.enterAll (s.enterReady n j) n t

/-! ### Dependence counters (R204 to R207) -/

/-- The jobs waiting on counter `c` enter READY, in the order of submission. -/
def State.releaseWaiters (s : State) (n c : Nat) : State :=
  s.enterAll n ((s.regionOf n).jobs.filter (fun j => j.phase == .waiting && j.wait == c))

def State.putCtr (s : State) (n c v : Nat) : State :=
  s.modRegion n (fun r => { r with ctr := Tab.set (fun _ => 0) r.ctr c v })

/-- Sets a counter. -/
def State.ctrSet (s : State) (n c v : Nat) : State :=
  if c = 0 then s
  else
    let s1 := s.putCtr n c (v % 65536)
    if v % 65536 = 0 then s1.releaseWaiters n c else s1

/-- Subtracts from a counter. -/
def State.ctrSub (s : State) (n c k : Nat) : State :=
  if c = 0 then s
  else
    let v := s.ctrOf n c
    let s1 := s.putCtr n c (v - k)
    let s2 := if v < k then s1.fault (pgJSC n) Jsc.F_CTR_UNDERFLOW else s1
    if v ≤ k then s2.releaseWaiters n c else s2

/-! ### Submission (R202, R229, R231) and tracing (R601) -/

/-- A fresh job of a descriptor. -/
def Job.fresh (d : List Word) (src : JobSource) (trace : Option Trace) (spilled : Bool) (id epoch : Nat) : Job :=
  { d := d, source := src, phase := .waiting, readyAt := 0, sentAt := 0, executor := 127, returned := 0, kind := none,
    sums := [], trace := trace, spilled := spilled, id := id, epoch := epoch }

/-- The number of the next job of region `n`. -/
def State.takeId (s : State) (n : Nat) : Nat × State :=
  ((s.regionOf n).stamp, s.modRegion n (fun r => { r with stamp := r.stamp + 1 }))

def RegionState.openTraces (r : RegionState) : Nat :=
  (r.jobs.filter (fun j => j.trace.isSome)).length + (r.spill.filter (fun x => x.trace.isSome)).length

/-- The tag of a submission: by D0.TAG, or by the region's generator while TAG_EN is 1 (log entry 32). -/
def State.tagOf (s : State) (n : Nat) (d : List Word) : Option Trace × State :=
  let k := Tab.get (fun _ => 0) s.pmc.drawn n
  let s1 := { s with pmc := { s.pmc with drawn := Tab.set (fun _ => 0) s.pmc.drawn n (k + 1) } }
  let forced := bit (d.getD 0 0) 5
  let sampled := s.flag pgPMC Pmc.PMC_CTRL 1
    && decide ((Config.tagDraw n k).toNat % 2 ^ s.fld pgPMC Pmc.PMC_CTRL (12, 8) = 0)
  if !s.enabled pgPMC || !(forced || sampled) then (none, s1)
  else if 16 ≤ (s.regionOf n).openTraces then (none, s1.inc pgPMC Pmc.TAG_DROPS)
  else (some ⟨s.tln.now, 0, 0, 0, forced⟩, s1)

/-- An accepted descriptor goes to the store of region `m`, or to its spill ring while the store is full. -/
def State.accept (s : State) (m : Nat) (d : List Word) (src : JobSource) (epoch : Nat) : State :=
  let t := s.tagOf m d
  let i := t.2.takeId m
  let s1 := i.2.count (1024 + 48 * m) 1
  let r := s1.regionOf m
  if r.spill = [] ∧ r.storeLevel < 2048 then
    let j := Job.fresh d src t.1 false i.1 epoch
    (s1.modRegion m (·.put j)).takeIn m j
  else
    let s2 := s1.hwBytes (s1.spillBase m + 32 * r.spillAt) (d.flatMap (fun w => leBytes 4 w.toNat))
    (s2.modRegion m (fun r =>
      { r with spill := r.spill ++ [⟨r.spillAt, src, t.1, i.1, epoch⟩], spillAt := (r.spillAt + 1) % 32768 })).count
        (1024 + 48 * m + 3) 1

/-- Region `m` has room for one more descriptor (R231). -/
def State.hasRoom (s : State) (m : Nat) : Bool :=
  let r := s.regionOf m
  (r.spill == [] && decide (r.storeLevel < 2048)) || (s.spillBase m != 0 && decide (r.spill.length < 32768))

/-- Submission of a descriptor in region `n`, and whether it was taken or dropped where it was read: false where neither
the store nor the ring has room. -/
def State.submit (s : State) (n : Nat) (d : List Word) (src : JobSource) (epoch : Nat) : State × Bool :=
  if s.descBad n d src then
    let i := s.takeId n
    (i.2.dropJob n (Job.fresh d src none false i.1 epoch), true)
  else if s.hasRoom (targetRegion n d) then (s.accept (targetRegion n d) d src epoch, true)
  else (s, false)

/-- One descriptor is read back from the spill ring as the store frees room (R229). -/
def State.readBack (s : State) (n : Nat) : State :=
  let r := s.regionOf n
  match r.spill with
  | [] => s
  | x :: t =>
    if 2048 ≤ r.storeLevel then s
    else
      let d := (List.range 8).map (s.spillWord n x.slot)
      let j := Job.fresh d x.source x.trace true x.id x.epoch
      let s1 := (s.modRegion n (fun r => { r with spill := t })).count (1024 + 48 * n + 4) 1
      if s1.descBad n d x.source then s1.dropJob n j else (s1.modRegion n (·.put j)).takeIn n j

/-! ### Domains (R214 to R217) -/

/-- The SET_ASIDE jobs of a domain that HEAD has reached, or passed, are examined again. -/
def State.promote (s : State) (d : Nat) : State :=
  s.enterAll (d / 1024) ((s.regionOf (d / 1024)).jobs.filter (fun j =>
    j.phase == .setAside && j.domain == d && (decide (s.windowPos j ≤ 63) || decide (32768 ≤ s.windowPos j))))

/-- HEAD moves by a write of DOM_HEAD_SET; the READY jobs of the domain are examined against it again. -/
def State.setHead (s : State) (d v : Nat) : State :=
  let n := d / 1024
  let s1 := s.setDomain d ⟨v % 65536, false⟩
  let s2 := s1.modRegion n (fun r => { r with jobs := r.jobs.map (fun j =>
    if j.phase == .ready && j.ordered && j.domain == d then { j with phase := .setAside } else j) })
  s2.promote d

/-! ### Threads (R232 to R236) -/

def State.thread (s : State) (t : Nat) : Thread := Tab.get (fun _ => Thread.init) (s.regionOf (t / 64)).threads (t % 64)
def State.setThread (s : State) (t : Nat) (v : Thread) : State :=
  s.modRegion (t / 64) (fun r => { r with threads := Tab.set (fun _ => Thread.init) r.threads (t % 64) v })

/-- Offset of thread `t`'s block in its JSC group (R243). -/
def thrOff (r : Nat → Nat) (t : Nat) : Nat := r (t % 64 % 32) + 0x1000 * (t % 64 / 32)

def State.thrCfg (s : State) (t : Nat) : Word := s.reg (pgJSC (t / 64)) (thrOff Jsc.THR_CFG t)

/-- The thread becomes READY behind all that are READY. -/
def State.threadReady (s : State) (t : Nat) (v : Thread) : State :=
  let s1 := { s with dev := { s.dev with threadStamp := s.dev.threadStamp + 1 } }
  s1.setThread t { v with st := 1, readyAt := s.dev.threadStamp }

/-- A wake of thread `t` (R233, R236). -/
def State.wake (s : State) (t : Nat) (msg : Word) : State :=
  let v := s.thread t
  let p := pgJSC (t / 64)
  if v.st = 0 then (s.setReg p (thrOff Jsc.MSG t) msg).threadReady t v
  else if v.waiting.length < 8 then s.setThread t { v with waiting := v.waiting ++ [msg] }
  else (s.inc p (thrOff Jsc.WAKES_LOST t)).fault p Jsc.F_WAKE_LOST

/-- The firmware ends the current wake of a RUNNING thread. -/
def State.threadEnd (s : State) (t : Nat) : State :=
  let v := s.thread t
  if v.st ≠ 2 then s
  else
    match v.waiting with
    | [] => s.setThread t { v with st := 0, core := 0 }
    | m :: rest =>
      (s.setReg (pgJSC (t / 64)) (thrOff Jsc.MSG t) m).threadReady t { v with waiting := rest, core := 0 }

/-! ### Retirement (R203, R215, R223) -/

/-- ns from the submission, saturating (R602). -/
def Trace.since (t : Trace) (x : Nat) : Nat := min 0xFFFFFFFF ((x - t.submit) / NS)

/-- The trace record of a retiring job (R602). -/
def State.traceRecord (s : State) (n : Nat) (j : Job) (t : Trace) : List Byte :=
  let flags := (if t.forced then 1 else 0) + (if j.ordered then 2 else 0) + (if j.spilled then 4 else 0)
    + (if j.kind.isSome then 8 else 0)
  leBytes 2 0x5452 ++ leBytes 1 j.type ++ leBytes 1 flags ++ leBytes 1 n ++ leBytes 1 j.executor ++ leBytes 2 j.seq
    ++ leBytes 4 j.frame ++ leBytes 2 j.domain ++ leBytes 1 (j.kind.getD 0xFF) ++ leBytes 1 0
    ++ (timeValOf t.submit).memBytes ++ leBytes 4 (t.since t.ready) ++ leBytes 4 (t.since t.dispatch)
    ++ leBytes 4 (t.since t.complete) ++ leBytes 4 (t.since s.tln.now) ++ leBytes 4 (j.arg 0) ++ leBytes 4 (j.arg 1)
    ++ leBytes 4 (s.nat pgPMC Pmc.TRACE_SEQ) ++ leBytes 8 0

/-- A traced job writes its record into the ring at TRACE_BASE, over the oldest (R602); a ring of no size takes none. -/
def State.writeTrace (s : State) (n : Nat) (j : Job) : State :=
  match j.trace with
  | none => s
  | some t =>
    let size := s.fld pgPMC Pmc.TRACE_SIZE (19, 0) * 4096
    if size = 0 ∨ s.enabled pgPMC = false then s
    else
      let base := s.nat pgPMC Pmc.TRACE_BASE_LO / 4096 * 4096 + 2 ^ 32 * s.fld pgPMC Pmc.TRACE_BASE_HI (7, 0)
      let at_ := s.nat pgPMC Pmc.TRACE_WR
      let s1 := ((s.hwBytes (base + at_) (s.traceRecord n j t)).setNat pgPMC Pmc.TRACE_WR ((at_ + 64) % size)).inc
        pgPMC Pmc.TRACE_SEQ
      if at_ + 64 < size then s1 else s1.irq 359

/-- The flip of a committed frame (R122, R390, R393, R395). -/
def State.ingestRetire (s : State) (j : Job) : State :=
  let st := j.arg 0 / 2 ^ 16 % 8
  let s1 := s.ingestFlip (j.arg 0 % 16) (j.arg 0 / 256 % 64)
  let s2 := (s1.setNat pgING (Ing.LAST_STAMP st) j.frame).inc pgING (Ing.FRAMES st)
  let s3 := s2.setFlag pgING PAGE_STATUS (16 + st) true
  if s3.flag pgING (Ing.ING_MODE st) 9 then s3.irq 365 else s3

/-- The PACK of a segment has retired: the cells of its content frame hold it (R377, R381). -/
def State.packRetire (s : State) (j : Job) : State :=
  let key := 128 + j.arg 0 % 4096
  let p := Tab.get (fun _ => PortState.init) s.port key
  let same := (if j.frame % 2 = 0 then p.fill0 else p.fill1).any (fun f => f.frame == j.frame)
  let segs := if same then (if j.frame % 2 = 0 then p.buf0 else p.buf1) else []
  let l := j.arg 1 :: segs.filter (· != j.arg 1)
  let f : Fill := ⟨j.frame, l.length⟩
  let q := if j.frame % 2 = 0 then { p with fill0 := some f, buf0 := l } else { p with fill1 := some f, buf1 := l }
  { s with port := Tab.set (fun _ => PortState.init) s.port key q }

/-- What a job does at its retirement: the dose sums of a TILE job, the writes of a FIX job (`sums` holds value + 1 by address),
the packed segment of a PACK job, the flip of an INGEST job, the wake of a THREAD job. -/
def State.retireEffect (s : State) (j : Job) : State :=
  match j.type with
  | 0 =>
    match s.snapOfJob (j.arg 0 % 16) j with
    | some x => s.addSums (j.arg 0 % 16) x j.sums
    | none => s
  | 1 => j.sums.foldl (fun a e => a.hwMem e.1 1 (e.2 - 1)) s
  | 2 => if j.kind = none then s.packRetire j else s
  | 4 => s.ingestRetire j
  | 5 => s.wake (j.arg 0 % 256) (j.word 5)
  | _ => s

/-- The signals of a retiring job set out to their counters (R205). -/
def State.sendSignals (s : State) : List (Nat × Nat) → State
  | [] => s
  | x :: t => State.sendSignals (s.modRegion x.1 (fun r => { r with signals := r.signals ++ [x.2] })) t

/-- DONE_PEND with its interrupt (R240, R244). -/
def State.donePend (s : State) (n : Nat) : State := (s.setSts (pgJSC n) Jsc.S_DONE_PEND 1).irq (121 + 2 * n)

/-- A COMPLETED job retires. -/
def State.retire (s : State) (n : Nat) (j : Job) : State :=
  let s0 := s.modRegion n (·.del j.id)
  let s1 := match j.kind with
    | some k => s0.jobFault n k j j.executor
    | none => s0
  let s2 := if j.ordered then
      let d := s1.domainOf j.domain
      (s1.setDomain j.domain { d with head := (d.head + 1) % 65536 }).promote j.domain
    else s1
  let s3 := (s2.sendSignals j.signals).retireEffect j
  let s4 := if bit (j.word 0) 6 then s3.donePend n else s3
  (((s4.inc (pgJSC n) Jsc.RETIRED).count (1024 + 48 * n + 2) 1).writeTrace n j).sourceDone j.source

/-- A job has been finished by its executor: it retires at once when unordered, or when its SEQ equals HEAD. -/
def State.complete (s : State) (n : Nat) (j : Job) : State :=
  let j1 := { j with phase := .completed, trace := j.trace.map (fun t => { t with complete := s.tln.now }) }
  if !j.ordered || s.windowPos j == 0 then s.retire n j1 else s.modRegion n (·.put j1)

/-! ### Hand-back (R224) -/

/-- An executor hands a job back: to the head of its READY queue, or, the third time, it retires ABORTED. -/
def State.handBack (s : State) (n : Nat) (j : Job) : State :=
  if 2 ≤ j.returned then s.complete n { j with returned := 3, kind := some 2, executor := j.executor }
  else
    s.modRegion n (fun r =>
      { r.put { j with phase := .ready, returned := j.returned + 1, readyAt := -(r.back : Int) - 1, sums := [],
                       kind := none, executor := 127 } with back := r.back + 1 })

/-- Every job DISPATCHED on executor `e` is handed back, the latest first, so that they keep their order. -/
def State.handBackAll (s : State) (e : Nat) : State :=
  (List.range 4).foldl (fun a n =>
    ((a.regionOf n).jobs.filter (fun j => j.phase == .dispatched && j.executor == e)).reverse.foldl
      (fun b j => b.handBack n j) a) s

/-! ### Lists (R208 to R210) -/

def State.listRun (s : State) (n k : Nat) : ListRun := Tab.get (fun _ => ListRun.init) (s.regionOf n).lists k
def State.setListRun (s : State) (n k : Nat) (v : ListRun) : State :=
  s.modRegion n (fun r => { r with lists := Tab.set (fun _ => ListRun.init) r.lists k v })

/-- The VALID AUTO lists of Swath `k`, as (region, list). -/
def State.autoLists (s : State) (k : Nat) : List (Nat × Nat) :=
  (List.range 4).flatMap (fun n => ((List.range 8).filter (fun i =>
    let c := s.reg (pgJSC n) (Jsc.LIST_CTRL i)
    bit c 0 && bit c 1 && bits c (11, 8) == k)).map (fun i => (n, i)))

/-- A RELOAD register: counter, value, enabled. -/
def State.reloadOf (s : State) (n : Nat) (off : Nat) : Option (Nat × Nat) :=
  let w := s.reg (pgJSC n) off
  if bit w 15 then some (bits w (11, 0), bits w (31, 16)) else none

/-- The list still holds a release back (R210). -/
def State.listHolds (s : State) (n i : Nat) : Bool :=
  let nz (off : Nat) : Bool := (s.reloadOf n off).any (fun x => x.1 != 0 && s.ctrOf n x.1 != 0)
  (s.listRun n i).reading || nz (Jsc.RELOAD0 i) || nz (Jsc.RELOAD1 i)

/-- R210 holds the release of Swath `k`. -/
def State.releaseHeld (s : State) (k : Nat) : Bool := (s.autoLists k).any (fun x => s.listHolds x.1 x.2)

/-- A release that R210 holds counts once in LIST_HELD of its lists, and LAUNCH_HELD reads 1 in their regions. -/
def State.holdRelease (s : State) (k : Nat) : State :=
  (s.autoLists k).foldl (fun a x =>
    if ((s.regionOf x.1).held).contains k then a
    else
      let a1 := a.inc (pgJSC x.1) (Jsc.LIST_HELD x.2)
      a1.modRegion x.1 (fun r => { r with held := k :: r.held.filter (· != k) })) s

/-- The release of Swath `k` is no longer held. -/
def State.endHold (s : State) (k : Nat) : State :=
  (List.range 4).foldl (fun a n => a.modRegion n (fun r => { r with held := r.held.filter (· != k) })) s

def State.reload (s : State) (n : Nat) (off : Nat) : State :=
  match s.reloadOf n off with
  | some x => s.ctrSet n x.1 x.2
  | none => s

def State.reloadList (s : State) (n i : Nat) : State := (s.reload n (Jsc.RELOAD0 i)).reload n (Jsc.RELOAD1 i)

/-- A launched list begins to be read. -/
def State.beginList (s : State) (n i f : Nat) (auto : Bool) : State :=
  let s1 := s.setNat (pgJSC n) (Jsc.LIST_FRAME i) (f % 2 ^ 32)
  let at_ := (s1.regionOf n).stamp
  (s1.modRegion n (fun r => { r with stamp := r.stamp + 1 })).setListRun n i
    ⟨decide (s.fld (pgJSC n) (Jsc.LIST_COUNT i) (16, 0) ≠ 0), 0, f % 2 ^ 32, auto, at_,
      s.nat pgFIX Fix.MERGE_EPOCH⟩

/-- The AUTO lists of Swath `k` launch at the release of frame `f`; every RELOAD comes first (R209). -/
def State.launchLists (s : State) (k f : Nat) : State :=
  let l := s.autoLists k
  let s1 := l.foldl (fun a x => a.reloadList x.1 x.2) s
  (l.foldl (fun a x => a.beginList x.1 x.2 f true) s1).readyCheck k f

/-- Descriptor `i` of list `k` in region `n`, with D3 replaced (R209). -/
def State.listDesc (s : State) (n k i f : Nat) : List Word :=
  let a := address8 (s.reg (pgJSC n) (Jsc.LIST_BASE_LO k)) (s.reg (pgJSC n) (Jsc.LIST_BASE_HI k)) + 32 * i
  (List.range 8).map (fun w => if w = 3 then BitVec.ofNat 32 f else BitVec.ofNat 32 (s.mem_ (a + 4 * w) 4))

/-- List `k` is the next that region `n` reads: lists are read one after another, in the order of their launches. -/
def State.listTurn (s : State) (n k : Nat) : Bool :=
  let l := s.listRun n k
  l.reading && (List.range 8).all (fun i =>
    let x := s.listRun n i
    !x.reading || decide (l.order ≤ x.order))

/-- One descriptor of list `k` is read and submitted; without room the reading pauses (R209, R231). -/
def State.readList (s : State) (n k : Nat) : State :=
  if !s.listTurn n k then s
  else
    let l := s.listRun n k
    let sw := s.fld (pgJSC n) (Jsc.LIST_CTRL k) (11, 8)
    let r := s.submit n (s.listDesc n k l.next l.frame) (.list sw l.frame l.auto) l.epoch
    if !r.2 then s
    else
      let more := decide (l.next + 1 < s.fld (pgJSC n) (Jsc.LIST_COUNT k) (16, 0))
      let s1 := r.1.setListRun n k { l with reading := more, next := l.next + 1 }
      if l.auto then s1.readyCheck sw l.frame else s1

end Sys2Proof.Machine
end

