-- ==== Sys2Proof/Machine/Pins.lean ====
section
/-!
DEFINITION. Outputs and their pins: the states of R280, R309, R440 and R447, which output is assigned to which Swath
(R245), emission latencies (R94) and the lead of R253, and the pattern engines of lamp clusters (R463 to R467).
-/
namespace Sys2Proof.Machine

/-! ### State of an output -/

def keyPX (k : Nat) : Nat := k
def keyDMX (k : Nat) : Nat := 64 + k
def keyLCL (n : Nat) : Nat := 80 + n
def keyFLD (k : Nat) : Nat := 96 + k
def keySTR (e : Nat) : Nat := 128 + e

def State.portOf (s : State) (key : Nat) : PortState := Tab.get (fun _ => PortState.init) s.port key
def State.setPort (s : State) (key : Nat) (v : PortState) : State :=
  { s with port := Tab.set (fun _ => PortState.init) s.port key v }

def PortState.fill (p : PortState) (slot : Nat) : Option Fill := if slot = 0 then p.fill0 else p.fill1
def PortState.buf (p : PortState) (slot : Nat) : List Nat := if slot = 0 then p.buf0 else p.buf1
def PortState.setFill (p : PortState) (slot : Nat) (f : Fill) : PortState :=
  if slot = 0 then { p with fill0 := some f } else { p with fill1 := some f }
def PortState.setBuf (p : PortState) (slot : Nat) (b : List Nat) : PortState :=
  if slot = 0 then { p with buf0 := b } else { p with buf1 := b }

/-- The slot holds a completed FILL of content frame `g` (R292). -/
def PortState.holds (p : PortState) (g : Nat) : Bool := (p.fill (g % 2)).any (fun f => f.frame == g)

def State.dmxOf (s : State) (k : Nat) : DmxState := Tab.get (fun _ => DmxState.init) s.dmx k
def State.setDmx (s : State) (k : Nat) (v : DmxState) : State :=
  { s with dmx := Tab.set (fun _ => DmxState.init) s.dmx k v }
def State.clusterOf (s : State) (n : Nat) : ClusterState := Tab.get (fun _ => ClusterState.init) s.cluster n
def State.setCluster (s : State) (n : Nat) (v : ClusterState) : State :=
  { s with cluster := Tab.set (fun _ => ClusterState.init) s.cluster n v }
def State.lampOf (s : State) (k : Nat) : LampState := Tab.get (fun _ => LampState.init) s.lamp k
def State.setLamp (s : State) (k : Nat) (v : LampState) : State :=
  { s with lamp := Tab.set (fun _ => LampState.init) s.lamp k v }
def State.fieldOf (s : State) (k : Nat) : FieldState := Tab.get (fun _ => FieldState.init) s.field k
def State.setField (s : State) (k : Nat) (v : FieldState) : State :=
  { s with field := Tab.set (fun _ => FieldState.init) s.field k v }

def State.launches (s : State) (key : Nat) : List Launch := Tab.get (fun _ => []) s.launch key
def State.setLaunches (s : State) (key : Nat) (l : List Launch) : State :=
  { s with launch := Tab.set (fun _ => []) s.launch key l }

/-! ### The Stile, as outputs see it (R525, R531) -/




/-- The wired drivers are off: Stile not held, die-level fault, reset or sleep (R280, R309, R440, R447). -/
def State.wiredOff (s : State) : Bool := !s.stileHeld || s.dev.dieFenced || !s.aclkRuns

/-! ### Pixel ports -/

def State.pxWire (s : State) (k : Nat) : Nat := s.fld (pgPXP k) Pxp.PX_MODE Pxp.WIRE
def State.pxSwath (s : State) (k : Nat) : Nat := s.fld (pgPXP k) Pxp.PX_MODE Pxp.SWATH

/-- PIN_STATE and DRIVEN of an engine's own pin. -/
def State.pxEngine (s : State) (k : Nat) : Nat × Bool :=
  let p := pgPXP k
  let x := s.portOf (keyPX k)
  if !s.enabled p || s.wiredOff then (3, false)
  else if s.pageState p = 3 then (x.held, true)
  else if x.emit.isSome then (1, true)
  else if s.pageState p = 2 || x.bad || s.swathState (s.pxSwath k) == 0 then (0, true)
  else if s.swathState (s.pxSwath k) = 3 then (2, true)
  else (0, true)

/-- A CLOCK_PIN port follows port k - 1, and holds its own pin while its own unit is FAILED (R279, R280). -/
def State.pxPin (s : State) (k : Nat) : Nat × Bool :=
  if s.pxWire k = 2 ∧ k % 2 = 1 then
    let e := s.pxEngine (k - 1)
    if e.2 && s.pageState (pgPXP k) == 3 then ((s.portOf (keyPX k)).held, true) else e
  else s.pxEngine k

/-- The level at which a pin idles: IDLE_LEVEL, and 0 for the data of 2-wire mode (R280). -/
def State.pxIdle (s : State) (k : Nat) : Bool :=
  match s.pxWire k with
  | 1 => false
  | 2 => s.flag (pgPXP (k - 1)) Pxp.PX_MODE 6
  | _ => s.flag (pgPXP k) Pxp.PX_MODE 6

/-- From now on a wire holds a level. -/
def State.wireHolds (s : State) (w : Wire) (level : Bool) : State := s.emit (.cut w level s.tln.now)

/-- The bits in which a port's own record and its page tell that a driver is on (DRIVEN); the wires' drivers follow it. -/
def State.setDriven (s : State) (page : Nat) (f : Field) (wires : List Wire) (on : Bool) : State :=
  let s1 := s.setSts page f (if on then 1 else 0)
  if (s.sts page f == 1) == on then s1 else wires.foldl (fun a w => a.emit (.driver w on s.tln.now)) s1

def State.pxRefresh (s : State) (k : Nat) : State :=
  let x := s.pxPin k
  let on := s.sts (pgPXP k) Pxp.S_DRIVEN == 1
  let emits := (s.portOf (keyPX (if s.pxWire k = 2 then k - 1 else k))).emit.isSome
  let s1 := (s.setSts (pgPXP k) Pxp.S_PIN_STATE x.1).setDriven (pgPXP k) Pxp.S_DRIVEN [.px k] x.2
  if x.2 && !on && !emits then s1.wireHolds (.px k) (s.pxIdle k) else s1

/-- Port k, and the clock pin that follows it. -/
def State.pxPins (s : State) (k : Nat) : State :=
  let s1 := s.pxRefresh k
  if k % 2 = 0 ∧ k < 63 then s1.pxRefresh (k + 1) else s1

/-! ### DMX ports -/

def State.dmxDir (s : State) (k : Nat) : Nat := s.fld (pgDMX k) Dmx.DMX_MODE Dmx.DIR
def State.dmxSwath (s : State) (k : Nat) : Nat := s.fld (pgDMX k) Dmx.DMX_MODE Dmx.SWATH
/-- OUTCOME of RDM_RESULT: 0 IDLE, 1 WAITING, 2 BUSY, 3 to 7 an outcome. -/
def State.rdmOutcome (s : State) (k : Nat) : Nat := s.fld (pgDMX k) Dmx.RDM_RESULT (2, 0)

/-- The transaction's message is on the line, or its response window is open with DE low (R309, R320). -/
def RdmRun.sends (r : RdmRun) (t : Nat) : Bool := decide (r.sendAt ≤ t) && decide (t < r.sendEnd)
def RdmRun.listens (r : RdmRun) (t : Nat) : Bool := r.kind != 0 && decide (r.listenAt ≤ t) && decide (t < r.windowEnd)

/-- PIN_STATE and DRIVEN of a DMX port. A RECEIVE port that is STOPPED, which the table of R309 does not name, reads IDLE (DESIGN
CHOICE, log entry 140). -/
def State.dmxPin (s : State) (k : Nat) : Nat × Bool :=
  let p := pgDMX k
  let x := s.portOf (keyDMX k)
  if !s.enabled p || s.wiredOff then (5, false)
  else if s.pageState p = 3 then (x.held, true)
  else if s.dmxDir k = 1 && s.pageState p != 2 then (4, true)
  else if x.emit.isSome || (s.dmxOf k).run.any (fun r => r.sends (unitsOf s.tln.now)) then (1, true)
  else if (s.dmxOf k).run.any (fun r => r.listens (unitsOf s.tln.now)) || decide (unitsOf s.tln.now < (s.dmxOf k).openTo) then
    (3, true)
  else if s.pageState p = 2 || s.swathState (s.dmxSwath k) == 0 then (0, true)
  else if s.swathState (s.dmxSwath k) = 3 then (2, true)
  else (0, true)

/-- The level of DE outside packets, requests and listen windows: low on a RECEIVE port. -/
def State.dmxDeRest (s : State) (k : Nat) : Bool := s.dmxDir k != 1

def State.dmxRefresh (s : State) (k : Nat) : State :=
  let x := s.dmxPin k
  let on := s.sts (pgDMX k) Dmx.S_DRIVEN == 1
  let s1 := (s.setSts (pgDMX k) Dmx.S_PIN_STATE x.1).setDriven (pgDMX k) Dmx.S_DRIVEN [.dmxTx k, .dmxDe k] x.2
  if x.2 && !on && (s.portOf (keyDMX k)).emit.isNone then
    (s1.wireHolds (.dmxTx k) true).wireHolds (.dmxDe k) (s.dmxDeRest k)
  else s1

/-! ### Lamp clusters and channels -/

def State.lclSwath (s : State) (n : Nat) : Nat := s.fld (pgLCL n) Lcl.LCL_MODE Lcl.SWATH

/-- PIN_STATE of a cluster (R447): a state higher in the table takes precedence. Every partner of a pair computes its
levels as the holder does (R472), so `off` tells what releases the gates. -/
def State.lclState (s : State) (n : Nat) (off : Bool) : Nat :=
  let p := pgLCL n
  if !s.enabled p || (s.portOf (keyLCL n)).bad || off then 0
  else if s.pageState p = 3 then 1
  else if (s.clusterOf n).tripped then 2
  else if s.pageState p = 2 || s.swathState (s.lclSwath n) == 0 then 5
  else if s.swathState (s.lclSwath n) = 2 then 3
  else if s.swathState (s.lclSwath n) = 3 then 4
  else 5

def State.lclPin (s : State) (n : Nat) : Nat := s.lclState n s.wiredOff

/-- The gate of a channel is active high (R479). -/
def State.gateHigh (s : State) (k : Nat) : Bool := !s.flag (pgLMP k) Lmp.LMP_MODE 0

/-- The gate of a channel is driven inactive from now on (R447). -/
def State.gateOff (s : State) (k : Nat) : State := s.wireHolds (.gate k) (!s.gateHigh k)

/-- The source value s of a channel, from its value in the frame in force and that of its engine (R449). -/
def State.sourceValue (s : State) (k f v : Nat) : Nat :=
  let p := pgLMP k
  match s.fld p Lmp.LMP_MODE Lmp.SRC with
  | 0 => f
  | 1 => v
  | 2 => (rhe ((f : Int) * v) 65535).toNat
  | _ => s.fld p Lmp.LEVEL (15, 0)

/-- The channels of a cluster. -/
def channelsOf (n : Nat) : List Nat := (List.range 8).map (fun i => 8 * n + i)

/-- PIN_STATE and DRIVEN follow, with interrupt 304 + n when PIN_STATE changes (R477); in FENCED and TRIPPED every gate is
inactive at once (R447). -/
def State.lclRefresh (s : State) (n : Nat) : State :=
  let x := s.lclPin n
  let on := if x = 0 then 0 else 1
  let s1 := (s.setSts (pgLCL n) Lcl.S_PIN_STATE x).setDriven (pgLCL n) Lcl.S_DRIVEN ((channelsOf n).map Wire.gate) (x != 0)
  let s2 := (channelsOf n).foldl (fun a k => a.setSts (pgLMP k) Lmp.S_DRIVEN on) s1
  if s.sts (pgLCL n) Lcl.S_PIN_STATE = x then s2
  else
    let c := s2.clusterOf n
    let s3 := (s2.setCluster n { c with releasedAt := if x = 0 then some s.tln.now else none, keeperOff := false }).irq (304 + n)
    if x = 1 ∨ x = 2 then (channelsOf n).foldl State.gateOff s3 else s3

/-! ### Field ports -/

def State.fldSwath (s : State) (k : Nat) : Nat := s.fld (pgFLD k) Fld.FLD_MODE (19, 16)
def State.fldSched (s : State) (k : Nat) : Bool := s.flag (pgFLD k) Fld.FLD_MODE 4

/-- The transmitter is on (R440); in Doze the node is silent (R717). -/
def State.fldOn (s : State) (k : Nat) : Bool :=
  s.enabled (pgFLD k) && !s.wiredOff && s.pageState (pgFLD k) != 3 && s.pwrState != 1

def State.fldRefresh (s : State) (k : Nat) : State :=
  let on := s.fldOn k
  let pin := if !on then 3 else if (s.fieldOf k).onWire then 1 else 0
  (s.setSts (pgFLD k) Fld.S_PIN_STATE pin).setDriven (pgFLD k) Fld.S_DRIVEN [.field k] on

/-! ### All outputs -/

/-- Every pin follows the state of the device. -/
def State.pinsRefresh (s : State) : State :=
  let s1 := (List.range 64).foldl State.pxRefresh s
  let s2 := (List.range 12).foldl State.dmxRefresh s1
  let s3 := (List.range 4).foldl State.lclRefresh s2
  (List.range 8).foldl State.fldRefresh s3

/-! ### Outputs of a Swath (R245, R253) -/

def State.pxUsed (s : State) (k j : Nat) : Bool := s.enabled (pgPXP j) && s.pxWire j != 2 && s.pxSwath j == k
def State.dmxUsed (s : State) (k j : Nat) : Bool := s.enabled (pgDMX j) && s.dmxDir j == 0 && s.dmxSwath j == k
def State.lclUsed (s : State) (k n : Nat) : Bool := s.enabled (pgLCL n) && s.lclSwath n == k

/-- EMIT_LAT in 1/1280 ns (R94). -/
def State.emitLat (s : State) (page ns frac : Nat) : Nat := s.nat page ns * LU + 5 * s.fld page frac (7, 0)

/-- Word `w` of stream entry `e` (R376). -/
def State.streamBase (s : State) : Nat := address8 (s.reg pgSTR Str.STREAM_BASE_LO) (s.reg pgSTR Str.STREAM_BASE_HI)
def State.streamWord (s : State) (e w : Nat) : Word := BitVec.ofNat 32 (s.mem_ (s.streamBase + 64 * e + 4 * w) 4)

/-- The stream entries of Swath `k` that are in use. -/
def State.streamsOf (s : State) (k : Nat) : List Nat :=
  if !s.enabled pgSTR then []
  else (List.range 4096).filter (fun e => bit (s.streamWord e 0) 0 && bits (s.streamWord e 0) (15, 12) == k)

/-- Emission latency of a stream entry (R379). -/
def State.streamLat (s : State) (e : Nat) : Nat :=
  let w := s.streamWord e 0
  let c := bits w (19, 16)
  let lead := if !bit w 1 && bits (s.streamWord e 5) (15, 0) != 0 then bits (s.streamWord e 7) (26, 0) else 0
  s.emitLat pgSTR (Str.LAT_NS c) (Str.LAT_FRAC c) + lead * LU

/-- The outputs of Swath `k` that launch frames: output, emission latency and stagger. -/
def State.outputsOf (s : State) (k : Nat) : List (Nat × Nat × Nat) :=
  ((List.range 64).filter (s.pxUsed k)).map (fun j =>
      (keyPX j, s.emitLat (pgPXP j) Pxp.EMIT_LAT_NS Pxp.EMIT_LAT_FRAC, 64 * s.fld (pgPXP j) Pxp.STAGGER (7, 0)))
    ++ ((List.range 12).filter (s.dmxUsed k)).map (fun j =>
      (keyDMX j, s.emitLat (pgDMX j) Dmx.EMIT_LAT_NS Dmx.EMIT_LAT_FRAC, 0))
    ++ ((List.range 4).filter (s.lclUsed k)).map (fun n =>
      (keyLCL n, s.emitLat (pgLCL n) Lcl.EMIT_LAT_NS Lcl.EMIT_LAT_FRAC, 0))
    ++ (s.streamsOf k).map (fun e => (keySTR e, s.streamLat e, 0))

/-- FRAME_OUT's part in the lead: the magnitude of a negative OFFSET (R103, R253). -/
def State.frameOutLat (s : State) (k : Nat) : List Nat :=
  let off := signed 32 (s.nat (pgSYN 7) SynOut.OFFSET)
  if s.enabled (pgSYN 7) && s.fld (pgSYN 7) SynOut.SWATH (3, 0) == k && decide (off < 0) then [off.natAbs * 5] else []

/-- PHASE of a Swath in 1/1280 ns. -/
def State.swathPhase (s : State) (k : Nat) : Int := signed 32 (s.nat (pgSWT k) Swt.PHASE) * 5

/-- Launch of an output (R95): S + PHASE - EMIT_LAT + STAGGER on the grid. -/
def State.launchAt (s : State) (k start lat stagger : Nat) : Nat :=
  (roundGrid ((start : Int) + s.swathPhase k - lat + stagger)).toNat

/-- LEAD of R253 in ns. -/
def State.leadNs (s : State) (k : Nat) : Nat :=
  let worst := (k :: s.followers k).foldl (fun acc j =>
    let lats := s.frameOutLat j ++ (s.outputsOf j).map (fun x => x.2.1)
    lats.foldl (fun a (e : Nat) => max a (((e : Int) - s.swathPhase j).toNat)) acc) 0
  ceilDiv (4000 * LU + worst) LU

/-! ### Pattern engines (R463 to R467) -/

def State.patWord (s : State) (n w : Nat) : Word := s.reg (pgLCL n) (Lcl.PAT w)

/-- One step of an engine in state RUN: words that take no fix go by within it, at most eight (R465, R466). The flag says
that the engine enters FAULT. -/
def runEngine (pat : Nat → Word) : Nat → Engine → Engine × Bool
  | 0, e => ({ e with st := 4 }, true)
  | n + 1, e =>
    if 255 < e.pc then ({ e with st := 4 }, true)
    else
      let w := pat e.pc
      let op := bits w (31, 28)
      let frames := bits w (27, 16)
      let value := bits w (15, 0)
      match op with
      | 1 | 2 =>
        if frames = 0 then ({ e with st := 4 }, true)
        else
          let v0 := if e.taken = 0 then e.v else e.v0
          let k := e.taken + 1
          let v := if op = 1 then value
            else ((v0 : Int) + rhe (((value : Int) - v0) * k) frames).toNat
          if k = frames then ({ e with v := v, v0 := v0, taken := 0, pc := e.pc + 1 }, false)
          else ({ e with v := v, v0 := v0, taken := k }, false)
      | 3 =>
        if bits w (15, 8) ≠ 0 then ({ e with st := 4 }, true)
        else if frames = 0 then runEngine pat n { e with pc := bits w (7, 0) }
        else
          match e.loop with
          | some (at_, c) =>
            if at_ ≠ e.pc then ({ e with st := 4 }, true)
            else if 0 < c then runEngine pat n { e with loop := some (at_, c - 1), pc := bits w (7, 0) }
            else runEngine pat n { e with loop := none, pc := e.pc + 1 }
          | none => runEngine pat n { e with loop := some (e.pc, frames - 1), pc := bits w (7, 0) }
      | 4 => if n = 0 ∨ w &&& 0x0FFFFFFF ≠ 0 then ({ e with st := 4 }, true) else ({ e with st := 3 }, false)
      | _ => ({ e with st := 4 }, true)

/-- One fix reaches an engine. -/
def Engine.fix (pat : Nat → Word) (e : Engine) : Engine × Bool :=
  match e.st with
  | 1 => if 1 < e.wait then ({ e with wait := e.wait - 1 }, false)
         else if e.wait = 1 then ({ e with wait := 0, st := 2 }, false) else runEngine pat 9 { e with st := 2 }
  | 2 => runEngine pat 9 e
  | _ => (e, false)

/-- PE_STATE of an engine. -/
def Engine.word (e : Engine) : Nat := e.v + e.pc % 256 * 2 ^ 16 + e.st * 2 ^ 24

def State.showEngines (s : State) (n : Nat) : State :=
  (List.range 8).foldl (fun a i =>
    a.setNat (pgLCL n) (Lcl.PE_STATE i) (((s.clusterOf n).engines.getD i Engine.init).word)) s

/-- The engines of cluster `n` step at a start that its Swath fixes; the values belong to the launch of that start
(R463). -/
def State.stepEngines (s : State) (n start : Nat) : State :=
  let c := s.clusterOf n
  if !s.active (pgLCL n) then
    s.setCluster n { c with fixedV := (start, c.engines.map (·.v)) :: c.fixedV }
  else
    let r := c.engines.map (Engine.fix (s.patWord n))
    let e := r.map (·.1)
    let steps := (c.engines.filter (fun x => x.st == 1 || x.st == 2)).length
    let s1 := ((s.setCluster n { c with engines := e, fixedV := (start, e.map (·.v)) :: c.fixedV }).showEngines n).count
      (896 + 8 * n + 3) steps
    if r.any (·.2) then s1.fault (pgLCL n) Lcl.F_PAT_FAULT else s1

/-- A commit of cluster `n`: RUN becoming live starts an engine, RUN 0 sets V to 0 and the state to IDLE (R465, R467).
`old` gives the PE_CTRL that were live before. -/
def State.engineCommit (s : State) (n : Nat) (old : Nat → Word) : State :=
  let c := s.clusterOf n
  let e := (List.range 8).map (fun i =>
    let x := c.engines.getD i Engine.init
    let w := s.reg (pgLCL n) (Lcl.PE_CTRL i)
    if !bit w 0 then Engine.init
    else if bit (old i) 0 then x
    else { Engine.init with pc := bits w (15, 8), st := if bits w (27, 16) = 0 then 2 else 1, wait := bits w (27, 16) })
  (s.setCluster n { c with engines := e }).showEngines n

end Sys2Proof.Machine
end

