-- ==== Sys2Proof/Machine/Commit.lean ====
section
/-!
DEFINITION. Commits (R62 to R67, R734, R735): the check of the values that a commit would make live, its application to
the whole group, and the groups of kind 2: Swaths, pixel ports, DMX ports, lamp clusters and channels.
-/
namespace Sys2Proof.Machine

/-! ### Range checks (R735) -/

/-- A field of a register with the least and greatest value it may hold. -/
structure Range where
  off : Nat
  fld : Field
  least : Nat
  most : Nat
  deriving DecidableEq, Repr

/-- The value lies outside its range. -/
def Range.bad (get : Nat → Word) (r : Range) : Bool :=
  decide (bits (get r.off) r.fld < r.least) || decide (r.most < bits (get r.off) r.fld)

def rangesBad (get : Nat → Word) (l : List Range) : Bool := l.any (Range.bad get)

/-- R94: EMIT_LAT_NS is at most 250,000,000, and the whole at most that. -/
def emitBad (get : Nat → Word) (ns frac : Nat) : Bool :=
  decide (250000000 * 256 < (get ns).toNat * 256 + bits (get frac) (7, 0))

/-- The shadows of a group as a function of the group offset. -/
def State.shadowOf (s : State) (first : Nat) : Nat → Word := s.shd first

/-! ### Application -/

/-- The commit state of the group whose first page is `g`. -/
def State.armOf (s : State) (g : Nat) : Arm := Tab.get (fun _ => Arm.idle) s.armed g
def State.setArm (s : State) (g : Nat) (a : Arm) : State :=
  { s with armed := Tab.set (fun _ => Arm.idle) s.armed g a }

/-- Number of pages of the group whose first page is `g`. -/
def groupSize (g : Nat) : Nat :=
  match pageInfo g with
  | some i => 2 ^ i.block.groupLog2
  | none => 1

/-- The key belongs to the group. -/
def inGroup (g key : Nat) : Bool := decide (g ≤ key / 0x1000) && decide (key / 0x1000 < g + groupSize g)

/-- Copies each listed shadow to its live copy. -/
def State.copyShadows (s : State) : Tab Word → State
  | [] => s
  | (k, v) :: t =>
    let s1 := State.copyShadows s t
    { s1 with live := Tab.set resetVal s1.live k v }

/-- Every shadow of the group becomes live; the epoch advances and APPLIED is set on each page (R62, R64). -/
def State.applyShadows (s : State) (g : Nat) : State :=
  let mine := s.shadow.filter (fun e => inGroup g e.1)
  let s1 := { s.copyShadows mine with shadow := s.shadow.filter (fun e => !inGroup g e.1) }
  let s2 := (List.range (groupSize g)).foldl (fun a i =>
    (a.inc (g + i) PAGE_EPOCH).setFlag (g + i) PAGE_STATUS 4 true) s1
  s2.setArm g Arm.idle

/-- A dropped commit (R734): ARMED clears, BAD_VALUE on the pages named. -/
def State.dropCommit (s : State) (g : Nat) (pages : List Nat) : State :=
  pages.foldl State.badValue (s.setArm g Arm.idle)

/-- The instance leaves STOPPED at the commit that its cleared STOP waited for (R67). -/
def State.releaseStop (s : State) (g : Nat) : State :=
  if !s.dev.unstop.contains g then s
  else
    let s1 := { s with dev := { s.dev with unstop := s.dev.unstop.filter (· != g) } }
    (if s1.enabled g ∧ s1.pageState g = 2 then s1.setPageState g 1 else s1).pinsRefresh

/-- A commit point: `bad` names the pages that hold an offending value. -/
def State.commitPoint (s : State) (g : Nat) (bad : List Nat) (after : State → State) : State :=
  if bad = [] then after ((s.applyShadows g).releaseStop g) else (s.dropCommit g bad).releaseStop g

/-- Every shadow of the group returns to its live value (R60, R68). -/
def State.discardShadows (s : State) (g : Nat) : State :=
  { s with shadow := s.shadow.filter (fun e => !inGroup g e.1) }.setArm g Arm.idle

/-! ### Swaths (R248, R269, R274) -/

def ANCHORED_SRC (n : Nat) : Bool := n == 1 || n == 2 || n == 3

/-- R248 and R274 on page +0. -/
def State.swtBad0 (s : State) (k : Nat) (get : Nat → Word) : Bool :=
  let mode := get Swt.SWT_MODE
  let src := bits mode Swt.LOCK_SRC
  let frac := get Swt.PERIOD_FRAC
  let den := bits frac (31, 16)
  let p := periodUnits (get Swt.PERIOD_NS) frac
  let total := bits (get Swt.LINES) (11, 0)
  let act := bits (get Swt.LINES) (27, 16)
  let fmin := bits (get Swt.FRAME_MIN) (26, 0)
  let fmax := bits (get Swt.FRAME_MAX) (26, 0)
  let flex : Rat := (bits (get Swt.FLEX) (11, 0) : Rat) * p / (total : Rat)
  decide (4 < src) || bits mode Swt.READY_SRC == 3 || bits mode Swt.START_GATE == 3
    || den == 0 || decide (den ≤ bits frac (15, 0))
    || decide (p < 4166666 * 1280) || decide (41708334 * 1280 < p)
    || total == 0 || act == 0 || decide (total < act)
    || decide (fmin < 4166666) || decide (fmax < fmin) || decide (83416668 < fmax)
    || (bits mode Swt.RATIO_M1 != 0 && src != 2 && src != 4)
    || decide (get Swt.PHASE = 0x80000000)
    || !s.lockMeets k mode (get Swt.PERIOD_NS) frac (get Swt.LINES)
    || (ANCHORED_SRC src && (decide (p - 2 * flex < (fmin : Rat) * 1280) || decide ((fmax : Rat) * 1280 < p + 2 * flex)))

/-- The settings of R269 for rectangle `r` would change. -/
def State.rectChanged (s : State) (k r : Nat) (get : Nat → Word) : Bool :=
  let p := pgSWT k
  decide (get (Swt.RECT_CTRL r) ≠ s.reg p (Swt.RECT_CTRL r)) || decide (get (Swt.RECT_XY r) ≠ s.reg p (Swt.RECT_XY r))
    || decide (get (Swt.RECT_WH r) ≠ s.reg p (Swt.RECT_WH r)) || decide (get Swt.CRC_ROW ≠ s.reg p Swt.CRC_ROW)

/-- R248 and R269 on page +1. -/
def State.swtBad1 (s : State) (k : Nat) (get : Nat → Word) : Bool :=
  let row := bits (get Swt.CRC_ROW) (14, 0)
  row == 0 || decide (16384 < row) || (List.range 8).any (fun r =>
    let mode := bits (get (Swt.RECT_CTRL r)) (1, 0)
    mode == 3 || (mode != 0 && s.rectChanged k r get
      && decide (row < bits (get (Swt.RECT_XY r)) (13, 0) + bits (get (Swt.RECT_WH r)) (13, 0) + 1)))

def State.swtBad (s : State) (k : Nat) : List Nat :=
  let get := s.shadowOf (pgSWT k)
  (if s.swtBad0 k get then [pgSWT k] else []) ++ (if s.swtBad1 k get then [pgSWT k + 1] else [])

/-- The anchor settings of R254. -/
def State.anchorSettings (s : State) (k : Nat) : List Word :=
  [s.reg (pgSWT k) Swt.SWT_MODE &&& 0x37, s.reg (pgSWT k) Swt.PERIOD_NS, s.reg (pgSWT k) Swt.PERIOD_FRAC,
    s.reg (pgSWT k) Swt.LINES &&& 0xFFF, s.reg (pgSWT k) Swt.FLEX &&& 0xFFF]

/-- The rectangles whose settings differ from those of another state: their results are discarded (R263). -/
def State.rectDiscard (s : State) (k : Nat) (old : State) : State :=
  let p := pgSWT k
  let w := s.swath k
  let same (r : Nat) : Bool := [Swt.RECT_CTRL r, Swt.RECT_XY r, Swt.RECT_WH r, Swt.EXPECTED r, Swt.CRC_ROW].all
    (fun o => s.reg p o == old.reg p o)
  s.setSwath k { w with crcBusy := w.crcBusy.filter same }

/-- LOCK_SRC, RATIO and P, by which the anchors are numbered (R247). -/
def State.anchorNumbering (s : State) (k : Nat) : List Word := (s.anchorSettings k).take 3

/-- The anchor settings of Swath `k` have changed (R254): every anchor at or before the latest frame start counts as consumed, and
so does every anchor that a start consumed, where the anchors keep their numbers. -/
def State.anchorsChanged (s : State) (k : Nat) (renumbered : Bool) : State :=
  let w := s.swath k
  let next := if renumbered then none
    else match w.nextAnchor, s.prevStart k with
      | some j, some t => some (max j (s.anchorNear k t (fun a => decide ((t : Rat) < a))))
      | o, _ => o
  s.setSwath k { w with nextAnchor := next }

/-- Interrupt 81 + 2k for an event enabled in SWT_IRQ_EN (R277). -/
def State.swtEvent (s : State) (k n : Nat) : State :=
  if s.flag (pgSWT k) Swt.SWT_IRQ_EN n then s.irq (81 + 2 * k) else s

def State.swtCommit (s : State) (k : Nat) : State :=
  s.commitPoint (pgSWT k) (s.swtBad k) (fun a =>
    let a1 := a.rectDiscard k s
    let a2 := if a1.anchorSettings k = s.anchorSettings k then a1
      else a1.anchorsChanged k (a1.anchorNumbering k != s.anchorNumbering k)
    (a2.swtEvent k 2).swathLocks)

/-- A commit of a SYN page: a change of the period or PHASE_ADJ of SYN[0] or SYN[1] is one of the anchor settings of the
Swaths on GENLOCK or WCLK (R254). -/
def State.synCommit (s : State) (k : Nat) (bad : List Nat) : State :=
  let set (a : State) : List Word := [SynIn.PERIOD_NUM, SynIn.PERIOD_DEN, SynIn.PHASE_ADJ].map (a.reg (pgSYN k))
  s.commitPoint (pgSYN k) bad (fun a =>
    if 2 ≤ k then a
    else if set a = set s then a.swathLocks
    else ((List.range 16).foldl (fun b j =>
      if b.lockSrc j = k + 2 then b.anchorsChanged j (k == 0 && (set a).take 2 != (set s).take 2) else b) a).swathLocks)

/-! ### Pixel ports (R279, R283, R303) -/

/-- The edge instants of a symbol with `n` edges, from its two words. -/
def edgeList (a b : Word) (n : Nat) : List Nat :=
  [bits a (15, 0), bits a (31, 16), bits b (15, 0), bits b (31, 16)].take n

/-- The words beyond a symbol's count are 0. -/
def edgeRest (a b : Word) (n : Nat) : Bool :=
  ([bits a (15, 0), bits a (31, 16), bits b (15, 0), bits b (31, 16)].drop n).all (· == 0)

/-- Edges rise strictly, at least 20 steps apart, each below the period. -/
def edgesOk (period : Nat) : List Nat → Bool
  | [] => true
  | [x] => decide (x < period)
  | x :: y :: t => decide (x + 20 ≤ y) && edgesOk period (y :: t)

/-- The step from the last edge of `a` across the boundary to the first of `b` is at least 20. -/
def boundaryOk (period : Nat) (a b : List Nat) : Bool :=
  match a.getLast?, b.head? with
  | some x, some y => decide (x + 20 ≤ period + y)
  | _, _ => true

/-- The values break R279, R283 or R303. The edge conditions stand in every wire mode. -/
def State.pxDescBad (s : State) (k : Nat) (get : Nat → Word) : Bool :=
  let mode := get Pxp.PX_MODE
  let wire := bits mode Pxp.WIRE
  let sp := get Pxp.SYM_PERIOD
  let period := bits sp Pxp.PERIOD
  let n0 := bits sp Pxp.N0
  let n1 := bits sp Pxp.N1
  let e0 := edgeList (get Pxp.EDGE_A0) (get Pxp.EDGE_A1) n0
  let e1 := edgeList (get Pxp.EDGE_B0) (get Pxp.EDGE_B1) n1
  wire == 3 || bits mode Pxp.DRIVE == 3 || bits mode Pxp.DEPTH == 3 || decide (4 < n0) || decide (4 < n1)
      || (wire == 1 && (k % 2 == 1 || s.pxWire (k + 1) != 2))
      || (wire != 2 && k % 2 == 1 && s.pxWire (k - 1) == 1)
      || (wire == 2 && (k % 2 == 0 || decide (mode ≠ 2)))
      || !edgeRest (get Pxp.EDGE_A0) (get Pxp.EDGE_A1) n0 || !edgeRest (get Pxp.EDGE_B0) (get Pxp.EDGE_B1) n1
      || !edgesOk period e0 || !edgesOk period e1
      || !boundaryOk period e0 e0 || !boundaryOk period e0 e1 || !boundaryOk period e1 e0 || !boundaryOk period e1 e1
      || (if wire = 0 then
            decide (period < 8333) || decide (50000 < period) || n0 % 2 == 1 || n1 % 2 == 1
          else if wire = 2 then false
          else
            decide (period < 400) || decide (50000 < period) || n0 != 2 || n1 != 0
              || decide (e0.headD 0 < 20) || decide (period < e0.getD 1 0 + 20))

def State.pxBad (s : State) (k : Nat) : List Nat :=
  let get := s.shadowOf (pgPXP k)
  if s.pxDescBad k get || emitBad get Pxp.EMIT_LAT_NS Pxp.EMIT_LAT_FRAC then [pgPXP k] else []

/-- WIRE of a port has changed from `old`: a CLOCK_PIN port has no STATE of its own, and ENABLE and STOP take effect when the port
leaves CLOCK_PIN (R279). -/
def State.pxRewired (s : State) (k old : Nat) : State :=
  let p := pgPXP k
  if s.pageState p = 3 ∨ (old = 2 ↔ s.pxWire k = 2) then s
  else s.setPageState p (if s.pxWire k = 2 ∨ s.enabled p = false then 0 else if s.stopSet p then 2 else 1)

/-- A pin that is driven and idle takes the idle level that has become live. -/
def State.pxIdles (s : State) (k : Nat) (old : Bool) : State :=
  if s.pxIdle k == old || s.sts (pgPXP k) Pxp.S_DRIVEN != 1 then s else s.wireHolds (.px k) (s.pxIdle k)

def State.pxCommit (s : State) (k : Nat) : State :=
  s.commitPoint (pgPXP k) (s.pxBad k) (fun a =>
    let a1 := ((a.setPort (keyPX k) { a.portOf (keyPX k) with bad := false }).pxRewired k (s.pxWire k)).pxPins k
    let a2 := if k % 2 = 1 then a1.pxPins (k - 1) else a1.pxIdles (k + 1) (s.pxIdle (k + 1))
    a2.pxIdles k (s.pxIdle k))

/-! ### DMX ports (R311, R326) -/

def dmxRanges : List Range := [
  ⟨Dmx.BREAK_NS, (19, 0), 92000, 1000000⟩, ⟨Dmx.MAB_NS, (19, 0), 12000, 1000000⟩, ⟨Dmx.MBS_NS, (19, 0), 0, 1000000⟩,
  ⟨Dmx.DMX_FRAME, (9, 0), 1, 512⟩, ⟨Dmx.RDM_BREAK_NS, (19, 0), 176000, 352000⟩,
  ⟨Dmx.RDM_MAB_NS, (19, 0), 12000, 88000⟩, ⟨Dmx.RDM_GAP_NS, (19, 0), 176000, 1000000⟩,
  ⟨Dmx.RSP_TIMEOUT_US, (12, 0), 2000, 8000⟩, ⟨Dmx.DISC_WINDOW_US, (12, 0), 5800, 8000⟩,
  ⟨Dmx.RESP_RESERVE_US, (14, 0), 0, 20000⟩, ⟨Dmx.DE_HOLD_NS, (11, 0), 0, 4000⟩, ⟨Dmx.DMX_MODE, Dmx.DIR, 0, 1⟩,
  ⟨Dmx.DMX_POLICY, Dmx.RX_PRIO, 0, 200⟩, ⟨Dmx.RX_END_US, (10, 0), 44, 2000⟩, ⟨Dmx.RX_LOSS_MS, (11, 0), 1, 4000⟩]

def State.dmxBad (s : State) (k : Nat) : List Nat :=
  let get := s.shadowOf (pgDMX k)
  if rangesBad get dmxRanges || bits (get Dmx.DMX_FRAME) (23, 16) == 0xCC
    || emitBad get Dmx.EMIT_LAT_NS Dmx.EMIT_LAT_FRAC then [pgDMX k] else []

/-- D of R310 in ns. -/
def State.dmxTime (s : State) (k : Nat) : Nat :=
  let p := pgDMX k
  let slots := s.fld p Dmx.DMX_FRAME (9, 0)
  s.fld p Dmx.BREAK_NS (19, 0) + s.fld p Dmx.MAB_NS (19, 0) + (slots + 1) * 44000 + slots * s.fld p Dmx.MBS_NS (19, 0)

def State.dmxCommit (s : State) (k : Nat) : State :=
  s.commitPoint (pgDMX k) (s.dmxBad k) (fun a =>
    let a1 := (a.setNat (pgDMX k) Dmx.EMIT_TIME_NS (a.dmxTime k)).dmxRefresh k
    if a1.dmxDeRest k == s.dmxDeRest k || a1.sts (pgDMX k) Dmx.S_DRIVEN != 1 then a1
    else a1.wireHolds (.dmxDe k) (a1.dmxDeRest k))

/-! ### Lamp clusters and channels (R471, R475, R478, R479) -/

/-- A 16-bit field read as a signed temperature. -/
def tempOf (w : Word) (f : Field) : Int := signed 16 (bits w f)

/-- R471 and the ranges of R474, R475. -/
def lclValuesBad (get : Nat → Word) : Bool :=
  rangesBad get [⟨Lcl.PWM_PERIOD, (23, 0), 500000, 16000000⟩, ⟨Lcl.PROBE_MS, (15, 0), 10, 60000⟩,
    ⟨Lcl.DERATE_MIN, (15, 0), 0, 0x8000⟩, ⟨Lcl.TRIP, (31, 16), 1, 65535⟩, ⟨Lcl.LCL_MODE, Lcl.TSNS_MODE, 0, 2⟩,
    ⟨Lcl.LCL_MODE, Lcl.IDLE_MODE, 0, 2⟩]
    || decide (tempOf (get Lcl.DERATE_T) (31, 16) ≤ tempOf (get Lcl.DERATE_T) (15, 0))
    || decide (tempOf (get Lcl.TRIP) (15, 0) < tempOf (get Lcl.DERATE_T) (31, 16))
    || decide (175 * 16 < tempOf (get Lcl.TRIP) (15, 0))
    || emitBad get Lcl.EMIT_LAT_NS Lcl.EMIT_LAT_FRAC

def State.lclBad (s : State) (n : Nat) : List Nat :=
  if lclValuesBad (s.shadowOf (pgLCL n)) then [pgLCL n] else []

/-- With TSNS_MODE NONE nothing is measured, and TEMP reads 0x8000 (R468). -/
def State.tsnsNone (s : State) (n : Nat) : State :=
  if s.fld (pgLCL n) Lcl.LCL_MODE Lcl.TSNS_MODE = 0 then
    (s.setNat (pgLCL n) Lcl.TEMP 0x8000).setCluster n { s.clusterOf n with measured := none }
  else s

def State.lclCommit (s : State) (n : Nat) : State :=
  s.commitPoint (pgLCL n) (s.lclBad n) (fun a =>
    let a1 := (a.engineCommit n (fun i => s.reg (pgLCL n) (Lcl.PE_CTRL i))).tsnsNone n
    (a1.setPort (keyLCL n) { a1.portOf (keyLCL n) with bad := false }).lclRefresh n)

def State.lmpBad (s : State) (k : Nat) : List Nat :=
  let get := s.shadowOf (pgLMP k)
  if rangesBad get [⟨Lmp.SENSE_CFG, (10, 0), 200, 1500⟩, ⟨Lmp.SENSE_CFG, (19, 16), 1, 15⟩]
    || decide (s.fld (pgLCL (k / 8)) Lcl.PWM_PERIOD (23, 0) ≤ bits (get Lmp.PH_OFS) (23, 0))
    || decide (bits (get Lmp.SHORT_TH) (11, 0) ≤ bits (get Lmp.OPEN_TH) (11, 0)) then [pgLMP k] else []

def State.lmpCommit (s : State) (k : Nat) : State := s.commitPoint (pgLMP k) (s.lmpBad k) id

/-! ### Groups of kind 2 (R55, R62) -/

/-- BOUND_SWATH of a group of kind 2, 0xFF where no Swath is assigned (R273, R301, R325, R446). -/
def State.boundSwath (s : State) (g : Nat) : Nat :=
  match pageInfo g with
  | some ⟨.swt, k, _⟩ => k
  | some ⟨.pxp, k, _⟩ => if s.enabled (pgPXP k) && s.pxWire k != 2 then s.pxSwath k else 0xFF
  | some ⟨.dmx, k, _⟩ => if s.enabled (pgDMX k) && s.dmxDir k == 0 then s.dmxSwath k else 0xFF
  | some ⟨.lcl, n, _⟩ => if s.enabled (pgLCL n) then s.lclSwath n else 0xFF
  | some ⟨.lmp, k, _⟩ => if s.enabled (pgLCL (k / 8)) then s.lclSwath (k / 8) else 0xFF
  | _ => 0xFF

/-- The first pages of every group of kind 2. -/
def kind2Groups : List Nat :=
  (List.range 16).map pgSWT ++ (List.range 64).map pgPXP ++ (List.range 12).map pgDMX ++ (List.range 32).map pgLMP
    ++ (List.range 4).map pgLCL

/-- The commit point of a group of kind 2. -/
def State.commit2 (s : State) (g : Nat) : State :=
  match pageInfo g with
  | some ⟨.swt, k, _⟩ => s.swtCommit k
  | some ⟨.pxp, k, _⟩ => s.pxCommit k
  | some ⟨.dmx, k, _⟩ => s.dmxCommit k
  | some ⟨.lcl, n, _⟩ => s.lclCommit n
  | some ⟨.lmp, k, _⟩ => s.lmpCommit k
  | _ => s

/-- An armed group bound to no Swath, or to one that counts as STOPPED, commits at once (R62). -/
def State.commitIdle (s : State) (g : Nat) : State :=
  let k := s.boundSwath g
  if (s.armOf g).on && (k == 0xFF || s.swathStopped k) then s.commit2 g else s

/-- Every armed group that waits for no frame start commits. -/
def State.commitAllIdle (s : State) : State := kind2Groups.foldl State.commitIdle s

/-- The 2 µs guard of R62 in timeline units. -/
def GUARD : Nat := 2000 * NS

/-- A frame start at timeline instant `t` reaches an armed group of its Swath: the ARM applies, or MISSED is set on every
page. -/
def State.commitAt (s : State) (k t : Nat) (g : Nat) : State :=
  let a := s.armOf g
  if a.on && s.boundSwath g == k then
    if a.since + GUARD ≤ t then s.commit2 g
    else
      let s1 := (List.range (groupSize g)).foldl (fun b i => b.setFlag (g + i) PAGE_STATUS 5 true) s
      if g = pgSWT k then s1.swtEvent k 4 else s1
  else s

/-- The commits of a frame start of Swath `k` at timeline instant `t`. -/
def State.commitStart (s : State) (k t : Nat) : State := kind2Groups.foldl (fun a g => a.commitAt k t g) s

end Sys2Proof.Machine
end

