-- ==== Sys2Proof/Machine/Net.lean ====
section
/-!
DEFINITION. Frames on Ethernet: the fields of Ethernet, IPv4, IPv6 and UDP headers that the rules name (R338, R340, R349,
R372, R387), header checksums, and E1.31 packets (R372, R378). The layouts are those of the standards that the rules cite
(log entry 37).
-/
namespace Sys2Proof.Machine

def macDst (f : List Byte) : Nat := beAt f 0 6
def macSrc (f : List Byte) : Nat := beAt f 6 6
/-- The frame carries an 802.1Q tag. -/
def tagged (f : List Byte) : Bool := beAt f 12 2 == 0x8100
def tci (f : List Byte) : Nat := beAt f 14 2
/-- Offset of the payload after the Ethernet header and its tag. -/
def etherEnd (f : List Byte) : Nat := if tagged f then 18 else 14
def etherType (f : List Byte) : Nat := beAt f (etherEnd f - 2) 2
/-- The multicast bit of an address. -/
def isGroup (a : Nat) : Bool := (a / 2 ^ 40).testBit 0

/-- A UDP datagram in a frame: IPv6, the header offsets, the IPv4 destination address, the ports, payload place and
length. -/
structure Udp where
  v6 : Bool
  ip : Nat
  udp : Nat
  dst4 : Nat
  dport : Nat
  pay : Nat
  len : Nat
  deriving DecidableEq, Repr

/-- UDP over IPv4 or over IPv6 without extension headers. -/
def parseUdp (f : List Byte) : Option Udp :=
  let ip := etherEnd f
  if etherType f = 0x0800 ∧ beAt f ip 1 / 16 = 4 ∧ beAt f (ip + 9) 1 = 17 ∧ beAt f (ip + 6) 2 % 0x4000 = 0 then
    let u := ip + 4 * (beAt f ip 1 % 16)
    some ⟨false, ip, u, beAt f (ip + 16) 4, beAt f (u + 2) 2, u + 8, beAt f (u + 4) 2 - 8⟩
  else if etherType f = 0x86DD ∧ beAt f ip 1 / 16 = 6 ∧ beAt f (ip + 6) 1 = 17 then
    let u := ip + 40
    some ⟨true, ip, u, 0, beAt f (u + 2) 2, u + 8, beAt f (u + 4) 2 - 8⟩
  else none

/-- UDP destination port of a frame, 0 where it carries no UDP. -/
def udpPort (f : List Byte) : Nat := (parseUdp f).elim 0 (·.dport)

def udpPayload (f : List Byte) (u : Udp) : List Byte := slice f u.pay u.len

/-! ### Checksums (R338, R340) -/

/-- The sum of the 16-bit words of a byte string. -/
def sum16 : List Byte → Nat
  | [] => 0
  | [a] => a.toNat * 256
  | a :: b :: t => a.toNat * 256 + b.toNat + sum16 t

/-- One's-complement sum folded to 16 bits and inverted. -/
def onesSum (n : Nat) : Nat :=
  let a := n % 65536 + n / 65536
  let b := a % 65536 + a / 65536
  65535 - (b % 65536 + b / 65536)

/-- The frame with its IPv4 header checksum computed. -/
def fixIpSum (f : List Byte) (ip : Nat) : List Byte :=
  let g := putAt f (ip + 10) (beBytes 2 0)
  putAt g (ip + 10) (beBytes 2 (onesSum (sum16 (slice g ip (4 * (beAt g ip 1 % 16))))))

/-- The frame with its UDP checksum computed; a computed 0 is sent as 0xFFFF. -/
def fixUdpSum (f : List Byte) (v6 : Bool) (ip udp : Nat) : List Byte :=
  let len := beAt f (udp + 4) 2
  let g := putAt f (udp + 6) (beBytes 2 0)
  let pseudo := sum16 (if v6 then slice g (ip + 8) 32 else slice g (ip + 12) 8) + 17 + len
  let c := onesSum (pseudo + sum16 (slice g udp len))
  putAt g (udp + 6) (beBytes 2 (if c = 0 then 0xFFFF else c))

/-- The frame with its IP and UDP length fields set for the bytes that follow them. -/
def fixLengths (f : List Byte) (v6 : Bool) (ip udp : Nat) : List Byte :=
  let g := putAt f (if v6 then ip + 4 else ip + 2) (beBytes 2 (f.length - (if v6 then udp else ip)))
  putAt g (udp + 4) (beBytes 2 (f.length - udp))

/-- Both checksums as R340 provides: the IPv4 header always, UDP with CSUM. -/
def fixSums (f : List Byte) (v6 : Bool) (ip udp : Nat) (csum : Bool) : List Byte :=
  let g := if v6 then f else fixIpSum f ip
  if csum then fixUdpSum g v6 ip udp else g

/-- The template of R340 and R376: one Ethernet header, at most one tag, IPv4 without options or IPv6, then UDP, ending
at the length named. -/
def templateOk (h : List Byte) : Bool :=
  match parseUdp h with
  | some u => decide (u.pay ≤ h.length) && (u.v6 || beAt h u.ip 1 % 16 == 5)
  | none => false

/-- The last two bytes of the destination MAC and IP addresses (R340). -/
def putMcast (f : List Byte) (v6 : Bool) (ip univ : Nat) : List Byte :=
  putAt (putAt f 4 (beBytes 2 univ)) (if v6 then ip + 38 else ip + 18) (beBytes 2 univ)

/-! ### E1.31 -/

def ACN_PID : List Byte := [0x41, 0x53, 0x43, 0x2D, 0x45, 0x31, 0x2E, 0x31, 0x37, 0, 0, 0]

/-- Flags and length of a PDU. -/
def pduLen (n : Nat) : List Byte := beBytes 2 (0x7000 + n % 4096)

/-- The root layer up to and with the CID, for a packet of `total` bytes. -/
def e131Root (total vector : Nat) (cid : List Byte) : List Byte :=
  beBytes 2 0x0010 ++ beBytes 2 0 ++ ACN_PID ++ pduLen (total - 16) ++ beBytes 4 vector ++ cid

/-- A data packet with its start code and slots in `values`. -/
def e131Data (cid name : List Byte) (prio sync seq options univ : Nat) (values : List Byte) : List Byte :=
  let total := 125 + values.length
  e131Root total 4 cid ++ pduLen (total - 38) ++ beBytes 4 2 ++ slice name 0 64 ++ beBytes 1 prio ++ beBytes 2 sync
    ++ beBytes 1 seq ++ beBytes 1 options ++ beBytes 2 univ ++ pduLen (total - 115) ++ beBytes 1 0x02 ++ beBytes 1 0xA1
    ++ beBytes 2 0 ++ beBytes 2 1 ++ beBytes 2 values.length ++ values

/-- A synchronisation packet. -/
def e131Sync (cid : List Byte) (seq sync : Nat) : List Byte :=
  e131Root 49 8 cid ++ pduLen 11 ++ beBytes 4 1 ++ beBytes 1 seq ++ beBytes 2 sync ++ beBytes 2 0

/-- A universe discovery page. -/
def e131Discovery (cid name : List Byte) (page last : Nat) (univs : List Nat) : List Byte :=
  let total := 120 + 2 * univs.length
  e131Root total 8 cid ++ pduLen (total - 38) ++ beBytes 4 2 ++ slice name 0 64 ++ beBytes 4 0 ++ pduLen (total - 112)
    ++ beBytes 4 1 ++ beBytes 1 page ++ beBytes 1 last ++ univs.flatMap (beBytes 2)

/-- Root, framing and DMP layers of a data packet carry the vectors and lengths of the standard (R372). -/
def e131Sound (p : List Byte) : Bool :=
  let n := p.length
  beAt p 0 2 == 0x0010 && beAt p 2 2 == 0 && slice p 4 12 == ACN_PID && beAt p 18 4 == 4 && beAt p 40 4 == 2
    && beAt p 117 1 == 2 && beAt p 118 1 == 0xA1 && beAt p 119 2 == 0 && beAt p 121 2 == 1
    && decide (126 ≤ n) && decide (n ≤ 638)
    && slice p 16 2 == pduLen (n - 16) && slice p 38 2 == pduLen (n - 38) && slice p 115 2 == pduLen (n - 115)
    && beAt p 123 2 == n - 125

/-- A data packet by its root vector. -/
def e131IsData (p : List Byte) : Bool := beAt p 18 4 == 4

end Sys2Proof.Machine
end

