-- ==== Sys2Proof/Machine/Merge.lean ====
section
/-!
DEFINITION. The receive merge (R372 to R375): acceptance into the merge queue, source records, and the apply that builds a
merge epoch.
-/
namespace Sys2Proof.Machine

/-! ### Packets of a queue -/

/-- The words of the first packet of a queue and their number. -/
def packetWords : List QWord → List Byte × Nat
  | [] => ([], 0)
  | w :: t =>
    if w.last then (w.data.take w.bytes, 1)
    else
      let r := packetWords t
      (w.data ++ r.1, r.2 + 1)

/-- The committed packet at the head of queue `q` of QUE[j], none while the queue shows none. -/
def State.headPacket (s : State) (j q : Nat) : Option (List Byte) :=
  let x := s.queue j q
  if x.committed = 0 then none else some (packetWords (x.words.take x.committed)).1

def State.popTimes (s : State) (j q : Nat) : Nat → State
  | 0 => s
  | n + 1 => State.popTimes (s.queuePop j q) j q n

/-- The hardware reader takes the packet at the head. -/
def State.popPacket (s : State) (j q : Nat) : State :=
  let x := s.queue j q
  s.popTimes j q (packetWords (x.words.take x.committed)).2

/-- The packets of a queue, in order. -/
def packetsOf : List QWord → Nat → List (List Byte)
  | _, 0 => []
  | [], _ => []
  | w :: t, n + 1 =>
    let r := packetWords (w :: t)
    r.1 :: packetsOf ((w :: t).drop r.2) n

/-! ### Addresses and settings -/

def State.mergeBase (s : State) : Nat := address8 (s.reg pgFIX Fix.MERGE_BASE_LO) (s.reg pgFIX Fix.MERGE_BASE_HI)
def State.mergeEpoch (s : State) : Nat := s.nat pgFIX Fix.MERGE_EPOCH
def State.mergeOn (s : State) : Bool := s.active pgFIX && s.flag pgFIX Fix.MERGE_CTRL 0
def State.mergeSwath (s : State) : Nat := s.fld pgFIX Fix.MERGE_CTRL (11, 8)

def State.mergeSources (s : State) (k : Nat) : List MergeSource := Tab.get (fun _ => []) s.merge.sources k
def State.setMergeSources (s : State) (k : Nat) (l : List MergeSource) : State :=
  { s with merge := { s.merge with sources := Tab.set (fun _ => []) s.merge.sources k l } }

/-- Address of the slots of record `r` of universe `k` (R373). -/
def State.recordAt (s : State) (k r : Nat) : Nat := s.mergeBase + 0xC00000 + 2048 * k + 512 * r

/-- Address of the result of universe `k` in the slot of epoch `e` (R374). -/
def State.resultAt (s : State) (e k : Nat) : Nat := s.mergeBase + 1024 * (4096 * (e % 3) + k)

/-- The device's own CID as a number (R378, R392). -/
def State.ownCid (s : State) : List Byte := (List.range 4).flatMap (fun j => beBytes 4 (s.nat pgSTR (Str.CID j)))

/-- Universe `k` is LIVE in epoch `e` (R374). -/
def State.liveIn (s : State) (e k : Nat) : Bool := (Tab.get (fun _ => []) s.merge.live (e % 3)).contains k

/-! ### Acceptance (R372) -/

/-- An entry of the merge queue: kind (0 MAC frame, 1 DMX packet), port, the epoch in which a replayed packet applies (0
for a reception of the device's own), priority and input universe of a DMX packet, the time of its reception, then the packet
as received (log entry 38). -/
def mergeEntry (kind port tag prio univ : Nat) (stamp d : List Byte) : List Byte :=
  leBytes 1 kind ++ leBytes 1 port ++ leBytes 4 tag ++ leBytes 1 prio ++ leBytes 2 univ ++ stamp ++ d

/-- An entry goes to the merge queue; one that does not fit is an overrun. -/
def State.mergeQueue (s : State) (e : List Byte) : State :=
  let s1 := s.queuePacket 3 0 e
  if (s1.queue 3 0).committed = (s.queue 3 0).committed then (s1.inc pgFIX Fix.MERGE_DROP).fault pgFIX Fix.F_MERGE_OVERRUN
  else s1

/-- The last sequence accepted of an E1.31 source. -/
def State.mergeSeq (s : State) (k cid : Nat) : Option Nat :=
  (s.merge.seqs.find? (fun x => x.1 == k && x.2.1 == cid)).map (·.2.2)

def State.setMergeSeq (s : State) (k cid seq : Nat) : State :=
  { s with merge := { s.merge with
    seqs := (k, cid, seq) :: s.merge.seqs.filter (fun x => !(x.1 == k && x.2.1 == cid)) } }

/-- The sequence rule of E1.31 (R372). -/
def seqOld (last seq : Nat) : Bool :=
  let d := signed 8 (seq + 256 - last)
  decide (-19 ≤ d) && decide (d ≤ 0)

/-- The merge is offered a frame: it takes E1.31 data packets of its universes. The flag says that it took the frame. -/
def State.mergeOffer (s : State) (mac : Nat) (stamp f : List Byte) (tag : Nat) : State × Bool :=
  match parseUdp f with
  | none => (s, false)
  | some u =>
    let p := udpPayload f u
    let univ := beAt p 113 2
    let base := s.fld pgFIX Fix.IN_RANGE (15, 0)
    if !s.mergeOn || u.dport != 5568 || !e131IsData p || decide (univ < base)
        || decide (base + s.fld pgFIX Fix.IN_RANGE (28, 16) ≤ univ) then (s, false)
    else
      let cid := beAt p 22 16
      let k := univ - base
      let seq := beAt p 111 1
      let good := e131Sound p && beAt p 125 1 == 0 && !(beAt p 112 1).testBit 7 && slice p 22 16 != s.ownCid
        && !(s.mergeSeq k cid).any (fun l => seqOld l seq)
      if good then ((s.setMergeSeq k cid seq).mergeQueue (mergeEntry 0 mac tag 0 0 stamp f), true)
      else (s.inc pgFIX Fix.MERGE_DISCARD, true)

/-! ### Source records (R373) -/

def MergeSource.is (m : MergeSource) (cid : Option Nat) (port : Nat) : Bool := m.cid == cid && m.port == port

/-- The record that a new source takes: a free place, or that of the record of lowest priority below its own, the oldest
first. -/
def takePlace (l : List MergeSource) (prio : Nat) : Option Nat :=
  match (List.range 4).find? (fun r => !l.any (fun m => m.place == r)) with
  | some r => some r
  | none =>
    (l.foldl (fun (best : Option MergeSource) m =>
      if prio ≤ m.prio then best
      else
        match best with
        | none => some m
        | some b => if m.prio < b.prio ∨ (m.prio = b.prio ∧ m.order < b.order) then some m else some b) none).map (·.place)

/-- A record is removed. -/
def State.dropSource (s : State) (k : Nat) (cid : Option Nat) (port : Nat) : State :=
  let s1 := s.setMergeSources k ((s.mergeSources k).filter (fun m => !m.is cid port))
  { s1 with merge := { s1.merge with seqs := s1.merge.seqs.filter (fun x => !(x.1 == k && some x.2.1 == cid)) } }

/-- A packet's slots reach the record of its source, with the time `t` of its reception. A new record begins with slots of 0 (log
entry 39). -/
def State.mergeTake (s : State) (k : Nat) (cid : Option Nat) (port prio t : Nat) (slots : List Byte) : State :=
  let l := s.mergeSources k
  let o := s.merge.order
  let s1 := { s with merge := { s.merge with order := o + 1 } }
  match l.find? (fun m => m.is cid port) with
  | some m =>
    (s1.setMergeSources k (l.map (fun x =>
      if x.place = m.place then { x with prio := prio, seen := t, order := o } else x))).hwBytes
        (s.recordAt k m.place) slots
  | none =>
    match takePlace l prio with
    | none => (s1.inc pgFIX Fix.MERGE_FULL_COUNT).fault pgFIX Fix.F_MERGE_FULL
    | some r =>
      ((s1.setMergeSources k ((l.filter (fun x => x.place != r)) ++ [⟨r, cid, port, prio, t, o⟩])).hwZero
        (s.recordAt k r) 512).hwBytes (s.recordAt k r) slots

/-- An entry of the queue is applied to the records, and told to the partner under the epoch it applies in (R375). -/
def State.mergeEntryApply (s : State) (e : List Byte) (epoch : Nat) : State :=
  let d := e.drop 21
  let stamp := slice e 9 12
  let t := (TimeVal.ofWire stamp).time
  let kind := leAt e 0 1
  let port := leAt e 1 1
  if kind = 1 then
    (s.mergeTake (leAt e 7 2) none port (leAt e 6 1) t (d.drop 1)).tellInput 1 port epoch stamp d
  else
    match parseUdp d with
    | none => s
    | some u =>
      let p := udpPayload d u
      let k := beAt p 113 2 - s.fld pgFIX Fix.IN_RANGE (15, 0)
      let cid := some (beAt p 22 16)
      let s1 := if (beAt p 112 1).testBit 6 then s.dropSource k cid 0
        else s.mergeTake k cid 0 (beAt p 108 1) t (p.drop 126)
      s1.tellInput 0 port epoch stamp d

/-- The epoch in which an entry of the queue applies; 0 for a reception of the device's own. -/
def entryTag (e : List Byte) : Nat := leAt e 2 4

/-- Entries apply in arrival order; a standby takes only those of the epoch being built (R375). -/
def State.mergeDrain (s : State) (epoch : Nat) : Nat → State
  | 0 => s
  | n + 1 =>
    match s.headPacket 3 0 with
    | none => s
    | some e =>
      if s.isStandby && entryTag e != epoch then s
      else State.mergeDrain ((s.popPacket 3 0).mergeEntryApply e epoch) epoch n

/-! ### Apply (R374) -/

/-- The result bytes of a universe: HTP then LTP over the records of highest priority. -/
def State.mergeResult (s : State) (k : Nat) : List Byte :=
  let l := s.mergeSources k
  let top := l.foldl (fun a m => max a m.prio) 0
  let part := l.filter (fun m => m.prio == top)
  let rows := part.map (fun m => s.bytes (s.recordAt k m.place) 512)
  let htp := (List.range 512).map (fun i => rows.foldl (fun a r => if a.toNat < (r.getD i 0).toNat then r.getD i 0 else a) (0 : Byte))
  let last := part.foldl (fun (b : Option MergeSource) m =>
    match b with
    | none => some m
    | some x => if x.order < m.order then some m else some x) none
  htp ++ (match last with
    | some m => s.bytes (s.recordAt k m.place) 512
    | none => [])

/-- A FIX job that has not retired captured the slot of epoch `e`, or a list whose launch captured it is still being read. -/
def State.epochBusy (s : State) (e : Nat) : Bool :=
  (List.range 4).any (fun n =>
    (List.range 8).any (fun k => (s.listRun n k).reading && (s.listRun n k).epoch % 3 == e % 3)
      || (s.regionOf n).jobs.any (fun j => j.type == 1 && j.epoch % 3 == e % 3)
      || (s.regionOf n).spill.any (fun x => x.epoch % 3 == e % 3 && bits (s.spillWord n x.slot 0) (3, 0) == 1))

/-- The apply of epoch `e`: it waits with MERGE_HELD while its slot is captured. -/
def State.mergeBuild (s : State) (e : Nat) : State :=
  if !s.mergeOn then s
  else if s.epochBusy e then s.setSts pgFIX Fix.S_MERGE_HELD 1
  else
    let s1 := s.mergeDrain (e % 2 ^ 32) (s.queue 3 0).committed
    let s2 := s1.hwZero (s1.resultAt e 0) (1024 * 4096)
    let s3 := s1.merge.sources.foldl (fun a x => a.hwBytes (a.resultAt e x.1) (s1.mergeResult x.1)) s2
    let live := s1.merge.sources.map (·.1)
    let s4 := { s3 with merge := { s3.merge with live := Tab.set (fun _ => []) s3.merge.live (e % 3) live } }
    ((s4.setNat pgFIX Fix.MERGE_EPOCH (e % 2 ^ 32)).setSts pgFIX Fix.S_MERGE_HELD 0).setNat pgFIX Fix.LIVE_COUNT live.length

/-- The next apply of the device's own. -/
def State.mergeApply (s : State) : State := s.mergeBuild (s.mergeEpoch + 1)

/-- Entries that were replayed for an epoch no later than the one completed are spent: the copy of the pair's state held what they
brought. -/
def State.mergeSpent (s : State) : Nat → State
  | 0 => s
  | n + 1 =>
    match s.headPacket 3 0 with
    | none => s
    | some e =>
      if (entryTag e + 2 ^ 32 - s.mergeEpoch - 1) % 2 ^ 32 < 2 ^ 31 then s else State.mergeSpent (s.popPacket 3 0) n

/-- The standby's next apply: that of the epoch in which the packet at the head of its queue was applied by the ACTIVE device, up to
epoch `last` where one is given (R375). -/
def State.mergeFollowOne (s : State) (last : Option Nat) : State :=
  let s1 := s.mergeSpent (s.queue 3 0).committed
  match s1.headPacket 3 0, last with
  | some e, none => s1.mergeBuild (entryTag e)
  | some e, some l => if (l + 2 ^ 32 - entryTag e) % 2 ^ 32 < 2 ^ 31 then s1.mergeBuild (entryTag e) else s1
  | none, _ => s1

def State.mergeFollowAll (s : State) (last : Nat) : Nat → State
  | 0 => s
  | n + 1 => State.mergeFollowAll (s.mergeFollowOne (some last)) last n

/-- The standby builds every epoch up to the one that a RELEASE of its partner names (R375). -/
def State.mergeFollow (s : State) (e : Nat) : State :=
  let s1 := s.mergeFollowAll e ((s.queue 3 0).committed + 1)
  if s1.mergeEpoch = e then s1 else s1.mergeBuild e

/-- The apply that a release of Swath `k` brings (R374). -/
def State.mergeAtRelease (s : State) (k : Nat) : State := if s.mergeSwath = k then s.mergeApply else s

/-- An apply that no release brings: one that was held, or that of the next millisecond while MERGE_SWATH is not RUNNING. The
standby's applies follow those of its partner. -/
def State.mergeTimed (s : State) : State :=
  if s.isStandby then s.mergeFollowOne none
  else if s.sts pgFIX Fix.S_MERGE_HELD = 1 then s.mergeApply
  else if s.swathState s.mergeSwath = 2 then s
  else s.atTick tickMerge MS 0 State.mergeApply

def execMergeApply (s : State) : Host.Outcome State Fault Refusal := done s.mergeTimed

/-- The times of reception of the queued E1.31 packets of a source: they are packets of it, not applied yet. -/
def State.queuedSeen (s : State) (k cid : Nat) : List Nat :=
  let x := s.queue 3 0
  ((packetsOf x.words x.committed).filter (fun e =>
    leAt e 0 1 == 0 && (match parseUdp (e.drop 21) with
      | none => false
      | some u =>
        let p := udpPayload (e.drop 21) u
        beAt p 113 2 == k + s.fld pgFIX Fix.IN_RANGE (15, 0) && beAt p 22 16 == cid))).map
    (fun e => (TimeVal.ofWire (slice e 9 12)).time)

/-- A record that has seen no packet for SRC_LOSS_MS is removed (R373). A DMX port's input is lost by R315 instead. -/
def State.sourceLoss (s : State) (k r : Nat) : State :=
  match (s.mergeSources k).find? (fun m => m.place == r) with
  | none => s
  | some m =>
    match m.cid with
    | none => s
    | some c => s.atTime ((s.queuedSeen k c).foldl max m.seen + s.fld pgFIX Fix.SRC_LOSS_MS (12, 0) * 1000000 * NS) (fun a => a.dropSource k m.cid m.port)

def execMergeSourceLoss (k : Fin 4096) (r : Fin 4) (s : State) : Host.Outcome State Fault Refusal :=
  done (s.sourceLoss k.val r.val)

end Sys2Proof.Machine
end

