-- ==== Sys2Proof/Machine/Slots.lean ====
section
/-!
DEFINITION. What the outputs with two slots share (R287 to R293, R310 to R313, R434, R450): the check of a launch's slot,
whether a launch is made, output frame buffers as FILL jobs read them, and the conversion of depths.
-/
namespace Sys2Proof.Machine

/-- The slot check of a launch of content `g`: the content to emit, if any. On an underrun the policy is SKIP or REPEAT of
the slot that holds the content emitted last (R292). -/
def State.checkSlot (s : State) (key page counter bit : Nat) (skip : Bool) (g : Nat) : State × Option Nat :=
  let p := s.portOf key
  if p.holds g then (s, some g)
  else
    ((s.inc page counter).fault page bit,
      if skip then none else p.emitted.bind (fun e => if p.holds e then some e else none))

/-- A launch of an output is made: the output runs, and its Swath has not left it idle (R295, R296). -/
def State.mayLaunch (s : State) (key page swath : Nat) : Bool :=
  s.active page && !(s.portOf key).bad && s.swathState swath != 0

/-- The earliest launch that an output owes. -/
def earliest : List Launch → Option Launch
  | [] => none
  | l :: t =>
    match earliest t with
    | none => some l
    | some x => if x.at_ < l.at_ then some x else some l

def State.dropLaunch (s : State) (key : Nat) (l : Launch) : State :=
  s.setLaunches key ((s.launches key).filter (fun x => x != l))

def State.chooseLaunch (s : State) (key : Nat) (l : Launch) (c : Option Nat) : State :=
  s.setLaunches key ((s.launches key).map (fun x => if x = l then { x with choice := some c } else x))

/-- The earliest launch of an output is checked 2,000 ns before it, by `check` (the content to emit). -/
def State.slotCheckAt (s : State) (key page : Nat) (check : State → Launch → State × Option Nat) : State :=
  match earliest ((s.launches key).filter (fun l => l.choice.isNone)) with
  | none => s
  | some l =>
    s.atTime (timeOfUnits (l.at_ - 2000 * LU)) (fun a =>
      if a.mayLaunch key page l.swath then
        let r := check a l
        r.1.chooseLaunch key l r.2
      else a.chooseLaunch key l none)

/-- The first grid instant at or after an instant. -/
def gridUp (u : Nat) : Nat := ceilDiv u 64 * 64

/-! ### Output frame buffers (R150, R286) -/

/-- A value stored at `m` bits, converted to `d` bits (R286). -/
def convertDepth (m d v : Nat) : Nat :=
  if d = m then v else if d < m then v / 2 ^ (m - d) else v * 2 ^ (d - m) + v / 2 ^ (2 * m - d)

/-- Working channel `c` of pixel `p` as stored in the output frame buffer of a snapshot. -/
def State.ofbChannel (s : State) (x : Snap) (p c : Nat) : Nat :=
  let d := depthOf x.ctrl
  let n := outBytes d / 4
  s.mem_ (x.ofb + x.frame % 3 * ofbSlot x.count d + p * outBytes d + n * c) n

/-- The snapshot of content `f` of the VALID map bound to Swath `k` (R124, R156). -/
def State.snapOfSwath (s : State) (k f : Nat) : Option Snap := (s.mapOf k).bind (fun m => s.snapAt m f k)

/-! ### Bit strings -/

/-- Values of `d` bits packed as a little-endian bit string (log entry 35). -/
def packBits (d : Nat) (l : List Nat) : List Byte :=
  let n := l.foldr (fun v a => v % 2 ^ d + 2 ^ d * a) 0
  leBytes (ceilDiv (d * l.length) 8) n

/-- Value `j` of a packed slot. -/
def unpackBits (d : Nat) (b : List Byte) (j : Nat) : Nat := leVal b / 2 ^ (d * j) % 2 ^ d

end Sys2Proof.Machine
end

