-- ==== Sys2Proof/Machine/PixelPorts.lean ====
section
/-!
DEFINITION. Pixel ports (R278 to R306): FILL jobs, the symbols and edges of a frame, launch and emission.
-/
namespace Sys2Proof.Machine

/-- Depth d, channels and sources of a port (R284, R302, R304). -/
def State.pxDepth (s : State) (k : Nat) : Nat := [8, 12, 16].getD (s.fld (pgPXP k) Pxp.PX_MODE Pxp.DEPTH) 16
def State.pxChannels (s : State) (k : Nat) : Nat := s.fld (pgPXP k) Pxp.PX_ORDER Pxp.CHANNELS_M1 + 1
def State.pxSource (s : State) (k j : Nat) : Nat := s.fld (pgPXP k) Pxp.PX_ORDER Pxp.SRC / 4 ^ j % 4

/-- Where a slot of the port lies in region SRAM (R287). -/
def pxSlotAt (k slot : Nat) : Nat := sramOf (k / 16) + 0x30000 * (k % 16) + 0x18000 * slot

def State.pxHead (s : State) (k : Nat) : Nat := s.fld (pgPXP k) Pxp.FRAMING Pxp.HEAD_BITS
def State.pxTrail (s : State) (k : Nat) : Nat := s.fld (pgPXP k) Pxp.FRAMING Pxp.TRAIL_BITS

/-- Symbols of a frame of `n` pixels (R290). -/
def State.pxSymbols (s : State) (k n : Nat) : Nat := s.pxHead k + n * s.pxChannels k * s.pxDepth k + s.pxTrail k

/-- D of a frame of `n` pixels in 1/1280 ns (R284). -/
def State.pxTime (s : State) (k n : Nat) : Nat :=
  s.pxSymbols k n * s.fld (pgPXP k) Pxp.SYM_PERIOD Pxp.PERIOD * 64 + s.fld (pgPXP k) Pxp.LATCH_NS (23, 0) * LU

/-! ### FILL (R288, R290) -/

/-- A completed FILL of class PX: fault kind RANGE, or the slot written. -/
def State.pxFill (s : State) (k first count frame : Nat) : State × Option Nat :=
  let p := pgPXP k
  let bad := (s.fault p Pxp.F_FILL_RANGE, some 1)
  if s.pxWire k = 2 ∨ s.enabled p = false ∨ 786432 < count * s.pxChannels k * s.pxDepth k then bad
  else
    match s.snapOfSwath (s.pxSwath k) frame with
    | none => bad
    | some x =>
      if x.count < first + count then bad
      else
        let d := s.pxDepth k
        let vals := (List.range count).flatMap (fun i => (List.range (s.pxChannels k)).map (fun j =>
          convertDepth (depthOf x.ctrl) d (s.ofbChannel x (first + i) (s.pxSource k j))))
        let s1 := s.setBytes (pxSlotAt k (frame % 2)) (packBits d vals)
        let s2 := s1.setPort (keyPX k) ((s1.portOf (keyPX k)).setFill (frame % 2) ⟨frame, count⟩)
        (((s2.setNat p Pxp.FILL_FRAME frame).setNat p Pxp.EMIT_BITS (s2.pxSymbols k count)).setNat p Pxp.EMIT_TIME_NS
          (ceilDiv (s2.pxTime k count) LU), none)

/-! ### Symbols and edges (R281, R282, R284, R285) -/

/-- The bits of a value in the order sent. -/
def bitOrder (msb : Bool) (d v : Nat) : List Bool :=
  let l := (List.range d).map v.testBit
  if msb then l.reverse else l

/-- The symbols of a frame: head, values of the slot, trail. -/
def State.pxSymbolList (s : State) (k slot count : Nat) : List Bool :=
  let p := pgPXP k
  let d := s.pxDepth k
  let n := count * s.pxChannels k
  let data := s.bytes (pxSlotAt k slot) (ceilDiv (n * d) 8)
  List.replicate (s.pxHead k) (s.flag p Pxp.FRAMING 8)
    ++ (List.range n).flatMap (fun j => bitOrder (s.flag p Pxp.PX_MODE 10) d (unpackBits d data j))
    ++ List.replicate (s.pxTrail k) (s.flag p Pxp.FRAMING 24)

/-- The level changes at the edge instants of one symbol that begins at `t` with the pin at `level`. -/
def symbolEdges (t : Nat) : List Nat → Bool → List (Nat × Bool)
  | [], _ => []
  | e :: r, level => (t + 64 * e, !level) :: symbolEdges t r (!level)

/-- The edges of symbol 0 or 1 of a port. -/
def State.pxEdges (s : State) (k : Nat) (one : Bool) : List Nat :=
  let p := pgPXP k
  if one then edgeList (s.reg p Pxp.EDGE_B0) (s.reg p Pxp.EDGE_B1) (s.fld p Pxp.SYM_PERIOD Pxp.N1)
  else edgeList (s.reg p Pxp.EDGE_A0) (s.reg p Pxp.EDGE_A1) (s.fld p Pxp.SYM_PERIOD Pxp.N0)

/-- The self-clocked line of 1-wire mode. -/
def State.oneWire (s : State) (k : Nat) : Nat → List Bool → List (Nat × Bool)
  | _, [] => []
  | t, b :: r =>
    symbolEdges t (s.pxEdges k b) (s.flag (pgPXP k) Pxp.PX_MODE 6)
      ++ State.oneWire s k (t + 64 * s.fld (pgPXP k) Pxp.SYM_PERIOD Pxp.PERIOD) r

/-- The data pin of 2-wire mode: the bit's value from the start of each symbol, 0 after the last. -/
def dataWire (period : Nat) : Nat → Bool → List Bool → List (Nat × Bool)
  | t, level, [] => if level then [(t, false)] else []
  | t, level, b :: r => (if b == level then [] else [(t, b)]) ++ dataWire period (t + 64 * period) b r

/-- The clock pin of 2-wire mode: symbol 0 whatever the bit. -/
def State.clockWire (s : State) (k t n : Nat) : List (Nat × Bool) := s.oneWire k t (List.replicate n false)

/-- What the balls of a port do for a frame that begins at `t`: a clock pin whose own unit is FAILED holds its level (R280). -/
def State.pxWaves (s : State) (k t slot count : Nat) : List (Nat × List (Nat × Bool)) :=
  let sym := s.pxSymbolList k slot count
  if s.pxWire k = 1 then
    (k, dataWire (s.fld (pgPXP k) Pxp.SYM_PERIOD Pxp.PERIOD) t false sym)
      :: (if s.pageState (pgPXP (k + 1)) = 3 then [] else [(k + 1, s.clockWire k t sym.length)])
  else [(k, s.oneWire k t sym)]

/-- The engine makes them, each edge at the phase of TCLK nearest to it (R92). -/
def State.pxWave (s : State) (k t slot count : Nat) : State :=
  (s.pxWaves k t slot count).foldl (fun a w => a.emitEdges (.px w.1 w.2)) s

/-- The sampling points of R298: 5 ns before each edge ahead of which the level, held since `last`, has stood for 10 ns. -/
def samplePoints : Nat → List (Nat × Bool) → List Nat
  | _, [] => []
  | last, e :: r => (if last + 10 * LU ≤ e.1 then [e.1 - 5 * LU] else []) ++ samplePoints e.1 r

/-- The level of a wire at `t` that stood at `level` before its changes. -/
def levelAt (t : Nat) (level : Bool) (l : List (Nat × Bool)) : Bool := l.foldl (fun v e => if e.1 ≤ t then e.2 else v) level

/-! ### What a port in emission has on its balls (R280, R298) -/

/-- The waves of the frame in emission, with the level that each ball held before; none while no frame is in emission. -/
def State.pxEmitting (s : State) (k : Nat) : List (Nat × Bool × List (Nat × Bool)) :=
  let x := s.portOf (keyPX k)
  match x.emit with
  | none => []
  | some e =>
    let count := ((x.fill e.slot).map (·.count)).getD 0
    (s.pxWaves k (e.stop - s.pxTime k count) e.slot count).map (fun w => (w.1, s.pxIdle w.1, w.2))

/-- How many samples of R298 the frame in emission takes up to `t`, with the driver on. -/
def State.pxSamples (s : State) (k t : Nat) : Nat :=
  ((s.pxEmitting k).map (fun w => ((samplePoints (s.portOf (keyPX k)).lastEnd w.2.2).filter (fun x => decide (x ≤ t))).length)).sum

/-- The frame in emission ends at once and unfinished: its balls go to their idle levels, or hold the levels they have (R265,
R280). -/
def State.pxCut (s : State) (k : Nat) (hold : Bool) : State :=
  let x := s.portOf (keyPX k)
  if x.emit.isNone then s
  else
    let now := unitsOf s.tln.now
    let s1 := (s.pxEmitting k).foldl (fun (a : State) (w : Nat × Bool × List (Nat × Bool)) =>
      a.wireHolds (.px w.1) (if hold then levelAt now w.2.1 w.2.2 else w.2.1)) s
    s1.setPort (keyPX k) { x with emit := none, samples := min x.samples (s.pxSamples k now) }

/-- The unit of a port is fenced: its balls hold the levels they have; that of a CLOCK_PIN port its clock ball alone. -/
def State.pxHold (s : State) (k : Nat) : State :=
  if s.pxWire k = 2 then
    ((s.pxEmitting (k - 1)).filter (fun w => w.1 == k)).foldl (fun (a : State) (w : Nat × Bool × List (Nat × Bool)) =>
      a.wireHolds (.px k) (levelAt (unitsOf s.tln.now) w.2.1 w.2.2)) s
  else s.pxCut k true

/-- `n` samples of the latest emission differed from the levels driven; only those taken with the driver on count (R298, R321). -/
def State.countConflicts (s : State) (key page off f counter n : Nat) : State :=
  let x := s.portOf key
  let m := min n x.samples
  ((s.setPort key { x with samples := 0 }).samplesDiffer page off f true m).count counter m

/-- The driver of a pixel port is on while a frame is in emission: its samples are taken. -/
def State.pxSampling (s : State) (k : Nat) : State :=
  let x := s.portOf (keyPX k)
  if x.emit.isNone || !(s.pxPin k).2 then s
  else s.setPort (keyPX k) { x with samples := s.pxSamples k (x.emit.elim 0 (·.stop)) }

/-! ### Slot check, launch, end of emission (R291 to R295) -/

/-- The check of R292 for launch `l`. -/
def State.pxCheck (s : State) (k : Nat) (l : Launch) : State × Option Nat :=
  let r := s.checkSlot (keyPX k) (pgPXP k) Pxp.UNDERRUNS Pxp.F_UNDERRUN (s.flag (pgPXP k) Pxp.PX_POLICY 0) l.frame
  if s.nat (pgPXP k) Pxp.UNDERRUNS = r.1.nat (pgPXP k) Pxp.UNDERRUNS then r else (r.1.count (256 + 4 * k + 1) 1, r.2)

def State.pxSlotCheck (s : State) (k : Nat) : State := s.slotCheckAt (keyPX k) (pgPXP k) (fun a l => a.pxCheck k l)

def execPortSlotCheck (k : Fin 64) (s : State) : Host.Outcome State Fault Refusal := done (s.pxSlotCheck k.val)

/-- The four registers of a TIMEVAL whose first lies at `off`. -/
def State.setTimeRegs (s : State) (page off : Nat) (v : TimeVal) : State :=
  (((s.setNat page off (v.s % 2 ^ 32)).setNat page (off + 4) (v.s / 2 ^ 32)).setNat page (off + 8) v.ns).setNat
    page (off + 12) v.frac

/-- Content `g` begins at `begin_` (1/1280 ns); `late` after its launch. -/
def State.pxEmit (s : State) (k g begin_ : Nat) (late : Bool) : State :=
  let p := pgPXP k
  let x := s.portOf (keyPX k)
  let count := ((x.fill (g % 2)).map (·.count)).getD 0
  let stop := begin_ + s.pxTime k count
  let s1 := if late then ((s.inc p Pxp.LATE_COUNT).fault p Pxp.F_LAUNCH_LATE).count (256 + 4 * k + 2) 1 else s
  let s2 := (s1.setNat p Pxp.EMIT_FRAME (((x.fill (g % 2)).map (·.frame)).getD g)).setTimeRegs p Pxp.LAST_LAUNCH_S_LO (gridTimeVal begin_)
  let s3 := s2.setPort (keyPX k) { x with emit := some ⟨g, g % 2, stop⟩, emitted := some g }
  ((s3.pxWave k begin_ (g % 2) count).pxPins k).pxSampling k

/-- The earliest launch of the port comes: the frame in emission completes first (R98, R293). -/
def State.pxLaunch (s : State) (k : Nat) : State :=
  match earliest (s.launches (keyPX k)) with
  | none => s
  | some l0 =>
    if (s.portOf (keyPX k)).emit.isSome then s
    else
      let s0 := if l0.choice.isNone then s.pxSlotCheck k else s
      match earliest (s0.launches (keyPX k)) with
      | none => s0
      | some l =>
        let begin_ := gridUp (max l.at_ (s0.portOf (keyPX k)).lastEnd)
        s0.atTime (timeOfUnits begin_) (fun a =>
          let a1 := a.dropLaunch (keyPX k) l
          match l.choice with
          | some (some g) =>
            if a.mayLaunch (keyPX k) (pgPXP k) l.swath then a1.pxEmit k g begin_ (decide (l.at_ < begin_)) else a1
          | _ => a1)

def execPortLaunch (k : Fin 64) (s : State) : Host.Outcome State Fault Refusal := done (s.pxLaunch k.val)

/-- A STOP that waited for the end of a frame takes effect (R56, R295); launches not reached are not emitted. -/
def State.outputStopped (s : State) (key page : Nat) : State :=
  if s.stopSet page && s.enabled page && s.active page && (s.portOf key).emit.isNone then
    (s.setPageState page 2).setLaunches key []
  else s

/-- The frame and its latch gap end; `n` samples of the ball, or of either ball of a pair, differed while it was sent (R298). For a
frame that was cut before, only they are counted. -/
def State.pxEnd (s : State) (k n : Nat) : State :=
  let p := pgPXP k
  match (s.portOf (keyPX k)).emit with
  | none => s.countConflicts (keyPX k) p Pxp.CONFLICTS Pxp.F_PIN_CONFLICT (256 + 4 * k + 3) n
  | some e =>
    s.atTime (timeOfUnits e.stop) (fun a =>
      let a0 := a.countConflicts (keyPX k) p Pxp.CONFLICTS Pxp.F_PIN_CONFLICT (256 + 4 * k + 3) n
      let a1 := a0.setPort (keyPX k) { a0.portOf (keyPX k) with emit := none, lastEnd := e.stop }
      let a2 := (a1.inc p Pxp.FRAMES).count (256 + 4 * k) 1
      let a3 := if a2.flag p Pxp.PX_POLICY 8 then a2.irq (144 + k) else a2
      (a3.outputStopped (keyPX k) p).pxPins k)

def execPortEmissionEnd (k : Fin 64) (conflicts : Nat) (s : State) : Host.Outcome State Fault Refusal :=
  done (s.pxEnd k.val conflicts)

/-! ### ENABLE and STOP (R56, R279, R280, R283, R295) -/

/-- The live values break R283. -/
def State.pxLiveBad (s : State) (k : Nat) : Bool := s.pxDescBad k (s.reg (pgPXP k))

/-- ENABLE 0: the frame in emission is cut, and the launches owed are dropped; the FILLs of the slots stay (R290). -/
def State.pxOff (s : State) (k : Nat) : State :=
  let s1 := s.pxCut k false
  let x := s1.portOf (keyPX k)
  (s1.setPort (keyPX k) { PortState.init with fill0 := x.fill0, fill1 := x.fill1, samples := x.samples }).setLaunches (keyPX k) []

/-- ENABLE or STOP of a port has changed from `en` and `st`; those of a CLOCK_PIN port have no effect (R279). -/
def State.pxCtrl (s : State) (k : Nat) (en st : Bool) : State :=
  let p := pgPXP k
  let key := keyPX k
  let en' := s.enabled p
  let st' := s.stopSet p
  if s.pxWire k == 2 || (en == en' && st == st') then s
  else if !en' then ((s.pxOff k).setPageState p 0).pxPins k
  else
    let s1 := if !en && s.pxLiveBad k then (s.setPort key { s.portOf key with bad := true }).badValue p else s
    if st' then ((s1.setPageState p 1).outputStopped key p).pxPins k
    else (s1.setPageState p 1).pxPins k

end Sys2Proof.Machine
end

