-- ==== Sys2Proof/Machine/DmxPorts.lean ====
section
/-!
DEFINITION. DMX512-A and RDM ports (R307 to R328): packets, FILL jobs, the receiver, and the RDM controller.
-/
namespace Sys2Proof.Machine

/-! ### FILL and packets (R310, R312, R313) -/

/-- Slot `i` of output universe `u` for content frame `f` in the universe store (R364). -/
def State.ustoreAt (s : State) (u f i : Nat) : Nat :=
  address8 (s.reg pgFIX Fix.USTORE_BASE_LO) (s.reg pgFIX Fix.USTORE_BASE_HI)
    + 512 * (s.fld pgFIX Fix.UNIV_COUNT (15, 0) * (f % 3) + u) + i

/-- A buffer of `n` values with `v` written from index `o`. -/
def writeBuf (n : Nat) (b : List Nat) (o : Nat) (v : List Nat) : List Nat :=
  (List.range n).map (fun i => if o ≤ i ∧ i < o + v.length then v.getD (i - o) 0 else b.getD i 0)

/-- A completed FILL of class DMX. -/
def State.dmxFill (s : State) (k first count frame : Nat) : State × Option Nat :=
  let p := pgDMX k
  if 512 < first + count ∨ s.dmxDir k = 1 ∨ s.enabled p = false then (s.fault p Dmx.F_FILL_RANGE, some 1)
  else
    let x := s.portOf (keyDMX k)
    let a := s.ustoreAt (s.fld p Dmx.DMX_UNIV (14, 0)) frame first
    let v := (s.bytes a count).map (·.toNat)
    (s.setPort (keyDMX k) ((x.setBuf (frame % 2) (writeBuf 512 (x.buf (frame % 2)) first v)).setFill (frame % 2)
      ⟨frame, count⟩), none)

/-- The ten changes a slot may make: start bit 0, eight data bits least significant first, two stop bits 1, in cells of 4 µs. -/
def slotEdges (t v : Nat) : Bool → List (Nat × Bool) :=
  let cell := 4000 * LU
  let rec go (i : Nat) (bits : List Bool) (level : Bool) : List (Nat × Bool) :=
    match bits with
    | [] => []
    | b :: r => (if b == level then [] else [(t + i * cell, b)]) ++ go (i + 1) r b
  fun level => go 0 ([false] ++ (List.range 8).map v.testBit ++ [true, true]) level

/-- Break, MAB, then slots with MBS after every slot but the last (R310); times in ns. -/
def dmxWave (t brk mab mbs : Nat) (slots : List Nat) : List (Nat × Bool) :=
  let first := t + (brk + mab) * LU
  [(t, false), (t + brk * LU, true)]
    ++ (List.range slots.length).flatMap (fun i => slotEdges (first + i * (44000 + mbs) * LU) (slots.getD i 0) true)

/-- The start code and the slots that a port sends from a slot buffer. -/
def State.dmxSlots (s : State) (k slot : Nat) : List Nat :=
  (if s.red.scene.contains (s.dmxSwath k) then 0 else s.fld (pgDMX k) Dmx.DMX_FRAME (23, 16))
    :: (List.range (s.fld (pgDMX k) Dmx.DMX_FRAME (9, 0))).map (fun i => ((s.portOf (keyDMX k)).buf slot).getD i 0)

def State.dmxSlotCheck (s : State) (k : Nat) : State :=
  s.slotCheckAt (keyDMX k) (pgDMX k) (fun a l =>
    a.checkSlot (keyDMX k) (pgDMX k) Dmx.UNDERRUNS Dmx.F_UNDERRUN (a.flag (pgDMX k) Dmx.DMX_POLICY 0) l.frame)

def execDmxSlotCheck (k : Fin 12) (s : State) : Host.Outcome State Fault Refusal := done (s.dmxSlotCheck k.val)

/-- The changes of TX that the packet in emission makes. -/
def State.dmxPacket (s : State) (k begin_ slot : Nat) : List (Nat × Bool) :=
  let p := pgDMX k
  dmxWave begin_ (s.fld p Dmx.BREAK_NS (19, 0)) (s.fld p Dmx.MAB_NS (19, 0)) (s.fld p Dmx.MBS_NS (19, 0)) (s.dmxSlots k slot)

/-- The changes of TX that the message of an RDM transaction makes (R316). -/
def State.rdmPacket (s : State) (k sendAt : Nat) (d : List Byte) : List (Nat × Bool) :=
  let p := pgDMX k
  dmxWave sendAt (s.fld p Dmx.RDM_BREAK_NS (19, 0)) (s.fld p Dmx.RDM_MAB_NS (19, 0)) 0 (d.map (·.toNat))

/-- The packet in emission ends at once: TX goes to mark, or holds the level it has (R265, R309). -/
def State.dmxCut (s : State) (k : Nat) (hold : Bool) : State :=
  let x := s.portOf (keyDMX k)
  match x.emit with
  | none => s
  | some e =>
    let tx := levelAt (unitsOf s.tln.now) true (s.dmxPacket k (e.stop - s.dmxTime k * LU) e.slot)
    (s.wireHolds (.dmxTx k) (!hold || tx)).setPort (keyDMX k) { x with emit := none }

/-- An RDM transaction leaves the line at once: TX at mark with DE at rest, or both hold the levels they have (R309, R322). -/
def State.rdmCut (s : State) (k : Nat) (hold : Bool) : State :=
  let y := s.dmxOf k
  match y.run with
  | none => s
  | some r =>
    let listens := (s.dmxPin k).1 == 3
    let s1 := if (s.portOf (keyDMX k)).emit.isSome then s
      else (s.wireHolds (.dmxTx k) (!hold || levelAt (unitsOf s.tln.now) true r.wave)).wireHolds (.dmxDe k)
        (s.dmxDeRest k && !(hold && listens))
    s1.setDmx k { y with run := none, openTo := 0 }

/-- A packet of content `g` begins. -/
def State.dmxEmit (s : State) (k g begin_ : Nat) (late : Bool) : State :=
  let p := pgDMX k
  let x := s.portOf (keyDMX k)
  let s1 := if late then (s.inc p Dmx.LATE_COUNT).fault p Dmx.F_LAUNCH_LATE else s
  let s2 := s1.setPort (keyDMX k)
    { x with emit := some ⟨g, g % 2, begin_ + s.dmxTime k * LU⟩, emitted := some g
             samples := if (s.dmxPin k).2 then 11 * (s.fld p Dmx.DMX_FRAME (9, 0) + 1) else 0 }
  (s2.emitEdges (.dmx k (s.dmxPacket k begin_ (g % 2)))).dmxRefresh k

def State.dmxLaunch (s : State) (k : Nat) : State :=
  match earliest (s.launches (keyDMX k)) with
  | none => s
  | some l0 =>
    if (s.portOf (keyDMX k)).emit.isSome then s
    else
      let s0 := if l0.choice.isNone then s.dmxSlotCheck k else s
      match earliest (s0.launches (keyDMX k)) with
      | none => s0
      | some l =>
        let begin_ := gridUp (max l.at_ (s0.portOf (keyDMX k)).lastEnd)
        s0.atTime (timeOfUnits begin_) (fun a =>
          let a1 := a.dropLaunch (keyDMX k) l
          match l.choice with
          | some (some g) =>
            if a.mayLaunch (keyDMX k) (pgDMX k) l.swath then a1.dmxEmit k g begin_ (decide (l.at_ < begin_)) else a1
          | _ => a1)

def execDmxLaunch (k : Fin 12) (s : State) : Host.Outcome State Fault Refusal := done (s.dmxLaunch k.val)

/-! ### RDM outcomes (R316 to R323) -/

/-- OUTCOME alone. -/
def State.setOutcome (s : State) (k n : Nat) : State := s.setFld (pgDMX k) Dmx.RDM_RESULT (2, 0) n

/-- A transaction reaches an outcome: RDM_DONE with its interrupt; the partner learns it. -/
def State.rdmDone (s : State) (k n : Nat) : State :=
  let s1 := (((s.setOutcome k n).setSts (pgDMX k) Dmx.S_RDM_DONE 1).irq (208 + k)).count (512 + 4 * k + 2) 1
  s1.tellOutcome 1 k (beBytes 4 (s1.nat (pgDMX k) Dmx.RDM_RESULT))

/-- A transaction WAITING or BUSY ends ABORTED, and its line is idle. -/
def State.rdmAbort (s : State) (k : Nat) : State :=
  if s.rdmOutcome k = 1 ∨ s.rdmOutcome k = 2 then
    ((if s.rdmOutcome k = 2 then s.rdmCut k false else s).rdmDone k 7).dmxRefresh k
  else s

/-- The STOP of a port takes effect at the end of the packet and of any BUSY transaction (R322). -/
def State.dmxStopped (s : State) (k : Nat) : State :=
  if s.rdmOutcome k = 2 then s else (s.outputStopped (keyDMX k) (pgDMX k)).dmxRefresh k

/-- A packet or the message of an RDM request ends; `n` bit cells of it were received otherwise than sent (R321). For one that was
cut before, only they are counted. -/
def State.dmxEnd (s : State) (k n : Nat) : State :=
  let p := pgDMX k
  match (s.portOf (keyDMX k)).emit with
  | none =>
    let count (a : State) : State := a.countConflicts (keyDMX k) p Dmx.LINE_CONFLICTS Dmx.F_LINE_CONFLICT (512 + 4 * k + 3) n
    (match (s.dmxOf k).run with
    | none => count s
    | some r => s.atTime (timeOfUnits r.sendEnd) count)
  | some e =>
    s.atTime (timeOfUnits e.stop) (fun a =>
      let a0 := a.countConflicts (keyDMX k) p Dmx.LINE_CONFLICTS Dmx.F_LINE_CONFLICT (512 + 4 * k + 3) n
      let a1 := a0.setPort (keyDMX k) { a0.portOf (keyDMX k) with emit := none, lastEnd := e.stop }
      (((a1.inc p Dmx.FRAMES).count (512 + 4 * k) 1).dmxStopped k).dmxRefresh k)

def execDmxPacketEnd (k : Fin 12) (conflicts : Nat) (s : State) : Host.Outcome State Fault Refusal :=
  done (s.dmxEnd k.val conflicts)

/-! ### Receiver (R314, R315, R323) -/

def State.setInputState (s : State) (k n : Nat) : State :=
  if s.sts (pgDMX k) Dmx.S_INPUT_STATE = n then s else (s.setSts (pgDMX k) Dmx.S_INPUT_STATE n).irq (208 + k)

def State.dmxRxError (s : State) (k : Nat) : State := (s.inc (pgDMX k) Dmx.RX_ERRORS).fault (pgDMX k) Dmx.F_RX_ERROR

/-- An accepted packet, start code first, whose break fell at `at_` (timeline units); `tag` names the merge epoch of a
replayed one. -/
def State.dmxAccept (s : State) (k tag at_ : Nat) (d : List Byte) : State :=
  let p := pgDMX k
  let code := leAt d 0 1
  let stamp := (timeValOf at_).wireBytes
  let s1 :=
    if code ≠ 0 then (s.queuePacket (4 + k / 4) (k % 4) d).tellInput 1 k 0 stamp d
    else if s.mergeOn then
      s.mergeQueue (mergeEntry 1 k tag (s.fld p Dmx.DMX_POLICY Dmx.RX_PRIO) (s.fld p Dmx.DMX_UNIV (11, 0)) stamp d)
    else s.tellInput 1 k 0 stamp d
  let s2 := ((s1.setNat p Dmx.RX_SLOTS (code * 2 ^ 16 + (d.length - 1))).setNat p Dmx.RX_STAMP (stamp32 at_)).inc
    p Dmx.RX_PACKETS
  ((s2.setDmx k { s2.dmxOf k with lastRx := s.tln.now }).setInputState k 1).count (512 + 4 * k + 1) 1

/-- The port receives on its own pin. -/
def State.dmxListens (s : State) (k : Nat) : Bool :=
  s.active (pgDMX k) && s.dmxDir k == 1 && s.stileHeld && !s.wiredOff && s.engineRuns

/-- Runs of equal samples, joined. -/
def joinRuns : List (Bool × Nat) → List (Bool × Nat)
  | [] => []
  | x :: t =>
    match joinRuns t with
    | [] => [x]
    | y :: r => if x.1 == y.1 then (x.1, x.2 + y.2) :: r else x :: y :: r

/-- The line without its first `n` samples. -/
def dropSamples : Nat → List (Bool × Nat) → List (Bool × Nat)
  | _, [] => []
  | n, (v, d) :: t => if n < d then (v, d - n) :: t else dropSamples (n - d) t

/-- Sample `n` of the line. -/
def sampleAt (n : Nat) (l : List (Bool × Nat)) : Option Bool := (dropSamples n l).head?.map (·.1)

/-- What a stretch of line holds: no packet that has ended, a discarded one, or a packet (the start code first). -/
inductive RxPacket where
  | none | discarded | packet (data : List Byte)
  deriving DecidableEq, Repr

/-- The packet that ends: one of more than 512 data slots is discarded. -/
def rxEnded (acc : List Byte) : RxPacket :=
  if acc = [] then .none else if 513 < acc.length then .discarded else .packet acc.reverse

/-- The slot that begins with the line's first sample, and whether both stop bits are high; each bit is taken at its centre. -/
def rxSlot (l : List (Bool × Nat)) : Option (Byte × Bool) :=
  if (sampleAt 168 l).isNone then none
  else
    some (BitVec.ofNat 8 ((List.range 8).foldl (fun a i => a + if sampleAt (16 * (i + 1) + 8) l = some true then 2 ^ i else 0) 0),
      sampleAt 152 l == some true && sampleAt 168 l == some true)

/-- The slots of a packet, up to its end: a break, or the line at mark for `mark` samples after a stop bit. A shorter low is read as a
slot. -/
def rxSlots (mark : Nat) : Nat → List (Bool × Nat) → List Byte → RxPacket
  | 0, _, _ => .none
  | _ + 1, [], _ => .none
  | n + 1, (true, d) :: t, acc => if mark + 8 ≤ d ∧ acc ≠ [] then rxEnded acc else rxSlots mark n t acc
  | n + 1, (false, d) :: t, acc =>
    if 352 ≤ d then rxEnded acc
    else
      match rxSlot ((false, d) :: t) with
      | none => .none
      | some (b, ok) => if ok then rxSlots mark n (dropSamples 168 ((false, d) :: t)) (b :: acc) else .discarded

/-- The line from its first break on: a low of 352 samples, which are 88 µs. -/
def fromBreak (l : List (Bool × Nat)) : List (Bool × Nat) := l.dropWhile (fun x => x.1 || decide (x.2 < 352))

/-- The packet that a stretch of line holds: break, a MAB of at least 32 samples (8 µs), slots. -/
def rxPacket (mark : Nat) (l : List (Bool × Nat)) : RxPacket :=
  match fromBreak l with
  | _ :: (_, m) :: t => if m < 32 then .discarded else rxSlots mark (2 * t.length + 1) t []
  | _ => .none

/-- A stretch of the RX line up to now, as runs of samples taken 16 times per bit cell, 250 ns apart (R314). -/
def State.dmxReceive (s : State) (k : Nat) (line : List (Bool × Nat)) : State :=
  let l := joinRuns line
  if !s.dmxListens k then s
  else
    match rxPacket (4 * s.fld (pgDMX k) Dmx.RX_END_US (10, 0)) l with
    | .none => s
    | .discarded => s.dmxRxError k
    | .packet d => s.dmxAccept k 0 (s.tln.now - ((fromBreak l).map (·.2)).sum * (250 * NS)) d

def execDmxRxPacket (k : Fin 12) (line : List (Bool × Nat)) (s : State) : Host.Outcome State Fault Refusal :=
  done (s.dmxReceive k.val line)

/-- RX_LOSS_MS without a packet: LOST, and under LOSS DROP the port's slots leave the merge; the timer stands in Doze
(R609). -/
def State.dmxLoss (s : State) (k : Nat) : State :=
  if s.sts (pgDMX k) Dmx.S_INPUT_STATE ≠ 1 ∨ s.engineRuns = false then s
  else
    s.atTime ((s.dmxOf k).lastRx + s.fld (pgDMX k) Dmx.RX_LOSS_MS (11, 0) * 1000000 * NS) (fun a =>
      let a1 := a.setInputState k 2
      if a1.flag (pgDMX k) Dmx.DMX_POLICY 1 then a1.dropSource (a1.fld (pgDMX k) Dmx.DMX_UNIV (11, 0)) none k else a1)

def execDmxRxLoss (k : Fin 12) (s : State) : Host.Outcome State Fault Refusal := done (s.dmxLoss k.val)

/-! ### RDM (R316 to R322) -/

def State.rdmKind (s : State) (k : Nat) : Nat := s.fld (pgDMX k) Dmx.RDM_CTRL Dmx.KIND
def State.rdmLen (s : State) (k : Nat) : Nat := s.fld (pgDMX k) Dmx.RDM_CTRL Dmx.REQ_LEN
def State.rdmReqAt (s : State) (k : Nat) : Nat := s.nat (pgDMX k) Dmx.RDM_REQ_LO + 2 ^ 32 * s.fld (pgDMX k) Dmx.RDM_REQ_HI (7, 0)
def State.rdmRspAt (s : State) (k : Nat) : Nat := s.nat (pgDMX k) Dmx.RDM_RSP_LO + 2 ^ 32 * s.fld (pgDMX k) Dmx.RDM_RSP_HI (7, 0)

/-- Request time of R317, ns. -/
def State.rdmTime (s : State) (k : Nat) : Nat :=
  s.fld (pgDMX k) Dmx.RDM_BREAK_NS (19, 0) + s.fld (pgDMX k) Dmx.RDM_MAB_NS (19, 0) + s.rdmLen k * 44000

/-- W of R317, ns. -/
def State.rdmWindow (s : State) (k : Nat) : Nat :=
  let p := pgDMX k
  let hold := s.fld p Dmx.DE_HOLD_NS (11, 0)
  match s.rdmKind k with
  | 1 => hold + 1000 * (s.fld p Dmx.RSP_TIMEOUT_US (12, 0) + s.fld p Dmx.RESP_RESERVE_US (14, 0))
  | 2 => hold + 1000 * s.fld p Dmx.DISC_WINDOW_US (12, 0)
  | _ => 0

def State.rdmGap (s : State) (k : Nat) : Nat := s.fld (pgDMX k) Dmx.RDM_GAP_NS (19, 0)

/-- The reservation of R317, ns. -/
def State.rdmReservation (s : State) (k : Nat) : Nat := 2 * s.rdmGap k + s.rdmTime k + s.rdmWindow k

/-- RDM_GO.GO asks for what the port or the registers do not allow: BAD_VALUE (R316, R325, R735). -/
def State.rdmGoBad (s : State) (k : Nat) : Bool :=
  s.dmxDir k == 1 || !s.flag (pgDMX k) Dmx.DMX_MODE 12 || decide (s.rdmLen k < 26) || decide (257 < s.rdmLen k)
    || s.rdmKind k == 3 || !baseOk (s.rdmReqAt k) (s.rdmLen k) || !baseOk (s.rdmRspAt k) 260
    || decide (s.fld (pgSWT (s.dmxSwath k)) Swt.FRAME_MIN (26, 0) < s.rdmReservation k + s.dmxTime k)

/-- The fault bits that a GO sets, one for each case of R316 that refuses it; none for a GO that is taken. -/
def State.rdmGoFaults (s : State) (k : Nat) : List Nat :=
  (if s.rdmOutcome k = 1 ∨ s.rdmOutcome k = 2 then [Dmx.F_RDM_WRITE] else [])
    ++ (if s.rdmGoBad k then [F_BAD_VALUE] else []) ++ (if s.stileHeld then [] else [Dmx.F_NOT_ACTIVE])

/-- RDM_GO.GO (R316). -/
def State.rdmGo (s : State) (k : Nat) : State :=
  if s.rdmGoFaults k = [] then s.setOutcome k 1
  else (s.rdmGoFaults k).foldl (fun a n => a.fault (pgDMX k) n) s

/-- One write of RDM_GO: ABORT acts alone beside GO; it ends a BUSY transaction. -/
def State.rdmGoWrite (s : State) (k : Nat) (v : Word) : State :=
  if bit v 1 then (if s.rdmOutcome k = 2 then (s.rdmAbort k).dmxStopped k else s)
  else if bit v 0 then s.rdmGo k
  else s

/-- A write of RDM_REQ, RDM_RSP or RDM_CTRL while a transaction is outstanding is dropped (R316); RDM_CTRL takes no value
out of range (R326, R735). -/
def State.rdmRegWrite (s : State) (k off : Nat) (v : Word) : State :=
  let p := pgDMX k
  if s.rdmOutcome k = 1 ∨ s.rdmOutcome k = 2 then s.fault p Dmx.F_RDM_WRITE
  else if off = Dmx.RDM_CTRL ∧ (bits v Dmx.KIND = 3 ∨ bits v Dmx.REQ_LEN < 26 ∨ 257 < bits v Dmx.REQ_LEN) then s.badValue p
  else s.setReg p off v

/-- The earliest possible next launch in 1/1280 ns (R317). -/
def State.dmxNextLaunch (s : State) (k : Nat) : Int :=
  let p := pgDMX k
  let sw := s.dmxSwath k
  let w := s.swath sw
  let start : Int :=
    match w.fixed with
    | f :: _ => f.start
    | [] => (w.lastStart.getD 0 : Int) + (s.fld (pgSWT sw) Swt.FRAME_MIN (26, 0) * LU : Nat)
  let lat (ns frac : Word) : Int := ((ns.toNat * LU + 5 * bits frac (7, 0) : Nat) : Int)
  let phase := signed 32 (s.nat (pgSWT sw) Swt.PHASE) * 5
  let live := lat (s.reg p Dmx.EMIT_LAT_NS) (s.reg p Dmx.EMIT_LAT_FRAC)
  let phases := if (s.armOf (pgSWT sw)).on then min phase (signed 32 (s.shd (pgSWT sw) Swt.PHASE).toNat * 5) else phase
  let lats := if (s.armOf p).on then max live (lat (s.shd p Dmx.EMIT_LAT_NS) (s.shd p Dmx.EMIT_LAT_FRAC)) else live
  roundGrid (start + phases - lats)

/-- A WAITING transaction becomes BUSY (R317): its message begins RDM_GAP_NS later. The listen window of the one before it stays
open until its own end (R318). -/
def State.rdmBegin (s : State) (k : Nat) : State :=
  let x := unitsOf s.tln.now
  let p := pgDMX k
  if s.rdmOutcome k ≠ 1 ∨ s.active p = false ∨ s.swathState (s.dmxSwath k) ≠ 2
      ∨ (s.portOf (keyDMX k)).emit.isSome = true
      ∨ s.dmxNextLaunch k < ((x + s.rdmReservation k * LU : Nat) : Int) then s
  else
    let sendAt := x + s.rdmGap k * LU
    let sendEnd := sendAt + s.rdmTime k * LU
    let windowEnd := sendEnd + s.rdmWindow k * LU
    let listenAt := sendEnd + s.fld p Dmx.DE_HOLD_NS (11, 0) * LU
    let y := s.dmxOf k
    let wave := s.rdmPacket k sendAt (s.bytes (s.rdmReqAt k) (s.rdmLen k))
    let run : RdmRun := ⟨s.rdmKind k, sendAt, sendEnd, listenAt, windowEnd, wave⟩
    let openTo := (y.run.filter (fun r => r.kind != 0)).elim y.openTo (·.windowEnd)
    let s1 := (s.setOutcome k 2).setDmx k { y with run := some run, openTo := openTo }
    let s2 := s1.setPort (keyDMX k) { s1.portOf (keyDMX k) with samples := if s.wiredOff then 0 else 11 * s.rdmLen k }
    ((s2.emitEdges (.dmx k wave)).emitEdges (.de k ((sendAt, true)
      :: (if run.kind = 0 then [] else [(listenAt, false), (windowEnd, true)])))).dmxRefresh k

def execRdmBegin (k : Fin 12) (s : State) : Host.Outcome State Fault Refusal := done (s.rdmBegin k.val)

/-- A response packet is sound: 0xCC, 0x01, its message length and its checksum (R318). -/
def rdmSound (d : List Byte) : Bool :=
  let n := d.length
  beAt d 0 1 == 0xCC && beAt d 1 1 == 1 && beAt d 2 1 + 2 == n
    && (slice d 0 (n - 2)).foldl (fun a b => a + b.toNat) 0 % 65536 == beAt d (n - 2) 2

/-- The received bytes, at most 257, go to RDM_RSP, and RSP_LEN counts them. -/
def State.rdmStore (s : State) (k : Nat) (d : List Byte) : State :=
  let b := d.take 257
  (s.hwBytes (s.rdmRspAt k) b).setFld (pgDMX k) Dmx.RDM_RESULT (24, 16) b.length

/-- A response reaches its outcome; the partner takes the same bytes. A STOP that waited for the outcome takes effect (R322). -/
def State.rdmJudge (s : State) (k : Nat) (good : Bool) (d : List Byte) : State :=
  (((s.rdmStore k d).tellInput 3 k 0 s.nowWire (d.take 257)).rdmDone k (if good then 3 else 6)).dmxStopped k

/-- No break within RSP_TIMEOUT_US. -/
def State.rdmNoResponse (s : State) (k : Nat) : State :=
  match (s.dmxOf k).run with
  | none => s
  | some r =>
    if s.rdmOutcome k ≠ 2 ∨ r.kind ≠ 1 then s
    else s.atTime (timeOfUnits (r.listenAt + s.fld (pgDMX k) Dmx.RSP_TIMEOUT_US (12, 0) * 1000 * LU)) (fun a =>
      ((a.setFld (pgDMX k) Dmx.RDM_RESULT (24, 16) 0).rdmDone k 4).dmxStopped k)

/-- A response packet is received in the listen window of a REQUEST: its break begins `start` ns after the port began to listen, and
it ends `stop` ns after that instant. One that begins after RSP_TIMEOUT_US is no response; one that has not ended with the further
RESP_RESERVE_US, when W ends, is truncated. -/
def State.rdmResponse (s : State) (k start stop : Nat) (faulty : Bool) (d : List Byte) : State :=
  match (s.dmxOf k).run with
  | none => s
  | some r =>
    if s.rdmOutcome k ≠ 2 ∨ r.kind ≠ 1 then s
    else if 1000 * s.fld (pgDMX k) Dmx.RSP_TIMEOUT_US (12, 0) < start then s.rdmNoResponse k
    else
      let t := r.listenAt + stop * LU
      s.atTime (timeOfUnits (min t r.windowEnd)) (fun a => a.rdmJudge k (!faulty && decide (t ≤ r.windowEnd) && rdmSound d) d)

def execRdmResponse (k : Fin 12) (start stop : Nat) (faulty : Bool) (data : List Byte) (s : State) :
    Host.Outcome State Fault Refusal := done (s.rdmResponse k.val start stop faulty data)

def execRdmNoResponse (k : Fin 12) (s : State) : Host.Outcome State Fault Refusal := done (s.rdmNoResponse k.val)

/-- The bytes after a discovery response's preamble and 0xAA, 16 of them, where the activity is one valid response (R319). -/
def discBody : Nat → List Byte → Option (List Byte)
  | 0, b :: r => if b = 0xAA ∧ r.length = 16 then some r else none
  | n + 1, b :: r => if b = 0xFE then discBody n r else if b = 0xAA ∧ r.length = 16 then some r else none
  | _, [] => none

/-- UID and checksum match of an encoded response. -/
def discDecode (e : List Byte) : Nat × Bool :=
  let pair (i : Nat) : Nat := beAt e (2 * i) 1 &&& beAt e (2 * i + 1) 1
  let uid := (List.range 6).foldl (fun a i => a * 256 + pair i) 0
  let sum := (slice e 0 12).foldl (fun a b => a + b.toNat) 0 % 65536
  (uid, pair 6 * 256 + pair 7 == sum)

/-- What a discovery response says: the UID, where the activity is one valid response whose checksum matches (R319). -/
def discUid (framing : Bool) (d : List Byte) : Option Nat :=
  match (if framing then none else discBody 7 d) with
  | none => none
  | some e => if (discDecode e).2 then some (discDecode e).1 else none

def State.setDiscUid (s : State) (k uid : Nat) : State :=
  (s.setNat (pgDMX k) Dmx.DISC_UID_LO (uid % 2 ^ 32)).setNat (pgDMX k) Dmx.DISC_UID_HI (uid / 2 ^ 32)

/-- A response that the partner replays: as received here (R323). -/
def State.rdmReplayed (s : State) (k : Nat) (d : List Byte) : State :=
  if s.rdmKind k = 2 then (match discUid false d with
    | some u => s.setDiscUid k u
    | none => s)
  else s.rdmStore k d

/-- The discovery window ends with what was heard: nothing, or bytes with or without a framing error. -/
def State.rdmDiscovery (s : State) (k : Nat) (heard : Option (List Byte)) (framing : Bool) : State :=
  match (s.dmxOf k).run with
  | none => s
  | some r =>
    if s.rdmOutcome k ≠ 2 ∨ r.kind ≠ 2 then s
    else s.atTime (timeOfUnits r.windowEnd) (fun a =>
      match heard with
      | none => (a.rdmDone k 4).dmxStopped k
      | some d =>
        match discUid framing d with
        | none => (a.rdmDone k 5).dmxStopped k
        | some u => (((a.setDiscUid k u).tellInput 3 k 0 a.nowWire (d.take 257)).rdmDone k 3).dmxStopped k)

def execRdmDiscoveryEnd (k : Fin 12) (heard : Option (List Byte)) (framing : Bool) (s : State) :
    Host.Outcome State Fault Refusal := done (s.rdmDiscovery k.val heard framing)

/-- The listen window W ends: DE rises, a BROADCAST is OK, and a REQUEST or DISCOVERY without any outcome had no response. -/
def State.rdmWindowEnd (s : State) (k : Nat) : State :=
  match (s.dmxOf k).run with
  | none => s
  | some r =>
    s.atTime (timeOfUnits r.windowEnd) (fun a =>
      let a1 := if a.rdmOutcome k ≠ 2 then a else a.rdmDone k (if r.kind = 0 then 3 else 4)
      (a1.dmxStopped k).dmxRefresh k)

def execRdmWindowEnd (k : Fin 12) (s : State) : Host.Outcome State Fault Refusal := done (s.rdmWindowEnd k.val)

/-! ### ENABLE and STOP -/

def State.dmxCtrl (s : State) (k : Nat) (en st : Bool) : State :=
  let p := pgDMX k
  let key := keyDMX k
  let en' := s.enabled p
  let st' := s.stopSet p
  if en == en' && st == st' then s
  else if !en' then
    let s1 := ((s.rdmAbort k).dmxCut k false).rdmCut k false
    let x := s1.portOf key
    (((s1.setPort key { PortState.init with fill0 := x.fill0, fill1 := x.fill1, buf0 := x.buf0, buf1 := x.buf1
                                            samples := x.samples }).setLaunches key []).setPageState p 0).dmxRefresh k
  else if st' then
    let s1 := if s.rdmOutcome k = 1 then s.rdmAbort k else s
    ((s1.setPageState p 1).dmxStopped k).dmxRefresh k
  else (s.setPageState p 1).dmxRefresh k

/-! ### Emissions cut short -/

/-- A frame in emission on an output ends at once and unfinished (R265). -/
def State.cutEmission (s : State) (key : Nat) : State :=
  if key < 64 then s.pxCut key false
  else if key < 76 then s.dmxCut (key - 64) false
  else s.setPort key { s.portOf key with emit := none }

/-- The Swath of an output stops: its emission is cut, and a STOP that waited for its end takes effect (R295). -/
def State.cutOutput (s : State) (key : Nat) : State :=
  let s1 := s.cutEmission key
  if key < 64 then s1.outputStopped key (pgPXP key) else if key < 76 then s1.dmxStopped (key - 64) else s1

end Sys2Proof.Machine
end

