-- ==== Sys2Proof/Machine/FieldPorts.lean ====
section
/-!
DEFINITION. Field ports (R428 to R445): scheduled and host frames, the medium, reception.
-/
namespace Sys2Proof.Machine

/-! ### FILL (R432 to R434) -/

/-- Where a slot of the port lies in region SRAM. -/
def fldSlotAt (k slot : Nat) : Nat := sramOf (k / 2) + 0x300000 + 0x10000 * (k % 2) + 0x8000 * slot

/-- Word `w` of field-frame entry `e`. -/
def State.ftxWord (s : State) (k e w : Nat) : Word :=
  BitVec.ofNat 32 (s.mem_ (address8 (s.reg (pgFLD k) Fld.FTX_BASE_LO) (s.reg (pgFLD k) Fld.FTX_BASE_HI) + 16 * e + 4 * w) 4)

/-- The entry breaks R433, or its template breaks R121's checks (R432). -/
def State.ftxBad (s : State) (k e : Nat) : Bool :=
  let f0 := s.ftxWord k e 0
  let f2 := s.ftxWord k e 2
  let f3 := s.ftxWord k e 3
  let len := bits f0 (10, 0)
  let at_ := (s.ftxWord k e 1).toNat + 2 ^ 32 * bits f2 (7, 0)
  decide (4096 ≤ e) || (bit f0 31 && (bits f0 (30, 12) != 0 || bit f2 19 || bits f2 (31, 30) != 0 || bit f3 15
    || bits f3 (31, 25) != 0 || decide (len < 60) || decide (1518 < len) || !dramSpan at_ len
    || (bit f0 11 && (decide (len < bits f2 (18, 8) + bits f2 (29, 20)) || decide (512 < bits f3 (24, 16) + bits f2 (29, 20))
      || bits f2 (29, 20) == 0 || decide (512 < bits f2 (29, 20))
      || decide (s.fld pgFIX Fix.UNIV_COUNT (15, 0) ≤ bits f3 (14, 0))))))

/-- The frame that a VALID entry builds for content `f`. -/
def State.ftxFrame (s : State) (k e f : Nat) : List Byte :=
  let f0 := s.ftxWord k e 0
  let f2 := s.ftxWord k e 2
  let f3 := s.ftxWord k e 3
  let t := s.bytes ((s.ftxWord k e 1).toNat + 2 ^ 32 * bits f2 (7, 0)) (bits f0 (10, 0))
  if bit f0 11 then
    putAt t (bits f2 (18, 8)) (s.bytes (s.ustoreAt (bits f3 (14, 0)) f (bits f3 (24, 16))) (bits f2 (29, 20)))
  else t

/-- A frame in a slot: its length word, its bytes, padding to a multiple of 8. -/
def slotFrame (d : List Byte) : List Byte :=
  let x := leBytes 4 d.length ++ d
  x ++ List.replicate ((8 - x.length % 8) % 8) 0

/-- A completed FILL of class FLD. -/
def State.fldFill (s : State) (k first count frame : Nat) : State × Option Nat :=
  let p := pgFLD k
  let es := (List.range count).map (first + ·)
  let bad := (s.fault p Fld.F_FILL_RANGE, some 1)
  if s.enabled p = false ∨ 4096 < first + count ∨ es.any (s.ftxBad k) = true then bad
  else
    let fs := (es.filter (fun e => bit (s.ftxWord k e 0) 31)).map (fun e => s.ftxFrame k e frame)
    let d := fs.flatMap slotFrame
    if 0x8000 < d.length then bad
    else
      let s1 := s.setBytes (fldSlotAt k (frame % 2)) d
      (s1.setPort (keyFLD k) ((s1.portOf (keyFLD k)).setFill (frame % 2) ⟨frame, fs.length⟩), none)

/-- The first `n` frames from address `a` of a slot. -/
def State.slotFrames (s : State) (a : Nat) : Nat → List (List Byte)
  | 0 => []
  | n + 1 =>
    let len := s.mem_ a 4
    s.bytes (a + 4) len :: State.slotFrames s (a + ceilDiv (4 + len) 8 * 8) n

/-- The frames of a slot of the port. -/
def State.fldFrames (s : State) (k slot : Nat) : List (List Byte) :=
  s.slotFrames (fldSlotAt k slot) ((((s.portOf (keyFLD k)).fill slot).map (·.count)).getD 0)

/-! ### Release (R434 to R436) -/

def State.fldSlotCheck (s : State) (k : Nat) : State :=
  s.slotCheckAt (keyFLD k) (pgFLD k) (fun a l =>
    a.checkSlot (keyFLD k) (pgFLD k) Fld.UNDERRUNS Fld.F_UNDERRUN (a.flag (pgFLD k) Fld.FLD_MODE 3) l.frame)

def execFieldSlotCheck (k : Fin 8) (s : State) : Host.Outcome State Fault Refusal := done (s.fldSlotCheck k.val)

/-- `n` scheduled frames are discarded unsent. -/
def State.fldStale (s : State) (k n : Nat) : State :=
  if n = 0 then s
  else ((s.addReg (pgFLD k) Fld.STALE_DROP n).fault (pgFLD k) Fld.F_STALE).count (560 + 4 * k + 3) n

/-- The frames of content `g` are released; scheduled frames still unsent are discarded. -/
def State.fldRelease (s : State) (k g : Nat) : State :=
  let x := s.fieldOf k
  let waits := match x.current with
    | some c => if c.scheduled && !x.onWire then 1 else 0
    | none => 0
  let s1 := s.fldStale k (x.released.length + waits)
  let s2 := s1.setField k { x with
    released := s1.fldFrames k (g % 2)
    current := if waits = 1 then none else x.current
    waitUntil := if waits = 1 then 0 else x.waitUntil }
  s2.setPort (keyFLD k) { s2.portOf (keyFLD k) with emitted := some g }

/-- The earliest release of the port comes. -/
def State.fldReleaseNext (s : State) (k : Nat) : State :=
  let s0 := if (earliest (s.launches (keyFLD k))).any (fun l => l.choice.isNone) then s.fldSlotCheck k else s
  match earliest (s0.launches (keyFLD k)) with
  | none => s0
  | some l =>
    s0.atTime (timeOfUnits l.at_) (fun a =>
      let a1 := a.dropLaunch (keyFLD k) l
      match l.choice with
      | some (some g) =>
        if a.active (pgFLD k) && a.fldSched k && a.swathState l.swath == 2 && a.stileHeld && !a.fallback then a1.fldRelease k g else a1
      | _ => a1)

def execFieldRelease (k : Fin 8) (s : State) : Host.Outcome State Fault Refusal := done (s.fldReleaseNext k.val)

/-! ### The medium (R436 to R438) -/

def fldQueue (k : Nat) : Nat × Nat := (9 + k / 4, k % 4)

/-- The partner follows the port's counters (R441, R545): the registers from ATTEMPTS to STALE_DROP. -/
def State.fldTell (s : State) (k : Nat) : State :=
  s.tellOutcome 0 k ((List.range 6).flatMap (fun i => beBytes 4 (s.nat (pgFLD k) (Fld.ATTEMPTS + 4 * i))))

/-- The frame that the port sends next: the one being retried, a released one, the oldest host frame. -/
def State.fldNext (s : State) (k : Nat) : Option (FieldFrame × State) :=
  let x := s.fieldOf k
  match x.current with
  | some c => some (c, s)
  | none =>
    match x.released with
    | d :: t => some (⟨d, true, 0⟩, s.setField k { x with released := t })
    | [] =>
      (s.headPacket (fldQueue k).1 (fldQueue k).2).map (fun d =>
        (⟨d, false, 0⟩, s.popPacket (fldQueue k).1 (fldQueue k).2))

/-- An attempt: the medium is granted at a frame boundary. -/
def State.fldAttempt (s : State) (k : Nat) : State :=
  let x := s.fieldOf k
  if s.fldOn k = false ∨ s.active (pgFLD k) = false ∨ x.onWire = true ∨ unitsOf s.tln.now < x.waitUntil then s
  else
    match s.fldNext k with
    | none => s
    | some (f, s1) =>
      let s2 := s1.setField k { s1.fieldOf k with current := some f, onWire := true, waitUntil := 0 }
      ((s2.inc (pgFLD k) Fld.ATTEMPTS).emitEdges (.field k (unitsOf s.tln.now) f.data)).fldRefresh k

def execFieldTxAttempt (k : Fin 8) (s : State) : Host.Outcome State Fault Refusal := done (s.fldAttempt k.val)

/-- r of R437: `a` is ATTEMPTS before the attempt that collided, `n` the number of the collision. -/
def backoffDraw (seedLo seedHi macLo a : Word) (n : Nat) : Nat :=
  let h0 := seedLo ^^^ (a * 0x9E3779B9)
  let h1 := h0 ^^^ (macLo * 0x85EBCA6B)
  let h2 := h1 ^^^ (BitVec.ofNat 32 n * 0xC2B2AE35) ^^^ seedHi
  let h3 := (h2 ^^^ (h2 >>> 16)) * 0x7FEB352D
  let h4 := (h3 ^^^ (h3 >>> 15)) * 0x846CA68B
  let h5 := h4 ^^^ (h4 >>> 16)
  h5.toNat / 2 ^ 16 / 2 ^ (16 - min n 10)

/-- Slot time in 1/1280 ns (R429). -/
def FLD_SLOT : Nat := 51200 * LU

/-- The STOP of a port takes effect at the end of the frame on the wire (R442). -/
def State.fldStopped (s : State) (k : Nat) : State :=
  if s.stopSet (pgFLD k) && s.enabled (pgFLD k) && s.active (pgFLD k) && !(s.fieldOf k).onWire then
    s.setPageState (pgFLD k) 2
  else s

/-- A collision of the frame on the wire; `late` when its first 512 bits had passed. -/
def State.fldCollision (s : State) (k : Nat) (late : Bool) : State :=
  let p := pgFLD k
  let x := s.fieldOf k
  match x.current with
  | none => s
  | some c =>
    if !x.onWire || !s.fldOn k then s
    else
      let s1 := (s.inc p Fld.COLLISIONS).count (560 + 4 * k + 2) 1
      let n := c.collisions + 1
      let drop := s1.setField k { x with current := none, onWire := false }
      let s2 :=
        if late then (drop.inc p Fld.LATE_COLLS).fault p Fld.F_LATE_COLL
        else if 16 ≤ n then (drop.inc p Fld.EXCESS_COLLS).fault p Fld.F_EXCESS_COLL
        else
          let r := backoffDraw (s.reg pgRED Red.PAIR_SEED_LO) (s.reg pgRED Red.PAIR_SEED_HI) (s.reg p Fld.MAC_ADDR_LO)
            (s.reg p Fld.ATTEMPTS - 1) n
          s1.setField k { x with current := some { c with collisions := n }, onWire := false,
                                 waitUntil := unitsOf s.tln.now + r * FLD_SLOT }
      ((s2.fldTell k).fldStopped k).fldRefresh k

def execFieldCollision (k : Fin 8) (late : Bool) (s : State) : Host.Outcome State Fault Refusal :=
  done (s.fldCollision k.val late)

/-- The wait of r slot times ends, and the frame is tried again. -/
def State.fldBackoffEnd (s : State) (k : Nat) : State :=
  let x := s.fieldOf k
  if x.current.isNone || x.onWire then s else s.atTime (timeOfUnits x.waitUntil) (fun a => a.fldAttempt k)

def execFieldBackoffEnd (k : Fin 8) (s : State) : Host.Outcome State Fault Refusal := done (s.fldBackoffEnd k.val)

/-- The frame on the wire ends. -/
def State.fldDone (s : State) (k : Nat) : State :=
  let x := s.fieldOf k
  if !x.onWire then s
  else
    let s1 := s.setField k { x with current := none, onWire := false }
    let s2 := (s1.inc (pgFLD k) Fld.TX_FRAMES).count (560 + 4 * k) 1
    ((s2.fldTell k).fldStopped k).fldRefresh k

def execFieldTxDone (k : Fin 8) (s : State) : Host.Outcome State Fault Refusal := done (s.fldDone k.val)

/-- plca_status of clause 148 changes. -/
def State.fldPlca (s : State) (k : Nat) (on : Bool) : State :=
  let p := pgFLD k
  let v := if on && s.flag p Fld.FLD_MODE 0 then 1 else 0
  if s.sts p Fld.S_PLCA_STATUS = v then s
  else
    let s1 := (s.setSts p Fld.S_PLCA_STATUS v).irq (260 + k)
    if v = 0 then s1.fault p Fld.F_PLCA_DOWN else s1

def execPlcaStatusChange (k : Fin 8) (on : Bool) (s : State) : Host.Outcome State Fault Refusal := done (s.fldPlca k.val on)

/-! ### Reception (R439, R441) -/

def State.fldMac (s : State) (k : Nat) : Nat := s.nat (pgFLD k) Fld.MAC_ADDR_LO + 2 ^ 32 * s.fld (pgFLD k) Fld.MAC_ADDR_HI (15, 0)

/-- A good frame is accepted. -/
def State.fldAccepts (s : State) (k : Nat) (d : List Byte) : Bool :=
  let dst := macDst d
  macSrc d != s.fldMac k && (dst == s.fldMac k || dst == 0xFFFFFFFFFFFF || (isGroup dst && s.flag (pgFLD k) Fld.FLD_MODE 2)
    || s.flag (pgFLD k) Fld.FLD_MODE 1)

/-- An accepted frame with the time of its start goes to the receive queue and to the partner. -/
def State.fldTake (s : State) (k at_ : Nat) (d : List Byte) : State :=
  let p := pgFLD k
  let j := 7 + k / 4
  let s1 := s.queuePacket j (k % 4) (leBytes 4 (d.length % 2048) ++ leBytes 4 (stamp32 at_) ++ d)
  let s2 := if (s1.queue j (k % 4)).committed = (s.queue j (k % 4)).committed then
      (s1.inc p Fld.RX_OVERRUN).fault p Fld.F_RX_OVERRUN
    else (s1.inc p Fld.RX_FRAMES).count (560 + 4 * k + 1) 1
  s2.tellInput 2 k 0 (timeValOf at_).wireBytes d

/-- A frame of the segment has been received: whether its FCS was good and it was no collision fragment, how many ns ago it
began, its bytes without FCS. -/
def State.fldReceive (s : State) (k : Nat) (good : Bool) (ago : Nat) (d : List Byte) : State :=
  let p := pgFLD k
  if s.fldOn k = false ∨ s.pageState p = 0 then s
  else if good = false ∨ d.length < 60 ∨ 1518 < d.length then s.inc p Fld.RX_BAD
  else if s.fldAccepts k d then s.fldTake k (s.tln.now - ago * NS) d
  else s

def execFieldRxFrame (k : Fin 8) (good : Bool) (ago : Nat) (data : List Byte) (s : State) :
    Host.Outcome State Fault Refusal := done (s.fldReceive k.val good ago data)

/-! ### ENABLE, STOP and commits (R442, R443) -/

def State.fldCtrl (s : State) (k : Nat) (en st : Bool) : State :=
  let p := pgFLD k
  let en' := s.enabled p
  let st' := s.stopSet p
  if en == en' && st == st' then s
  else if !en' then
    ((((s.setPort (keyFLD k) PortState.init).setField k FieldState.init).setLaunches (keyFLD k) []).setPageState p 0).fldRefresh k
  else if st' then ((s.setPageState p 1).fldStopped k).fldRefresh k
  else (s.setPageState p 1).fldRefresh k

/-- The values of a commit of the FLD page break R443 or R432; a base of 0 is unused (log entry 41). -/
def State.fldBad (s : State) (k : Nat) : List Nat :=
  let get := s.shadowOf (pgFLD k)
  let base := address8 (get Fld.FTX_BASE_LO) (get Fld.FTX_BASE_HI)
  if rangesBad get [⟨Fld.PLCA_CFG, (7, 0), 0, 254⟩, ⟨Fld.PLCA_CFG, (15, 8), 1, 255⟩, ⟨Fld.PLCA_CFG, (23, 16), 1, 255⟩]
    || (base != 0 && !dramSpan base (16 * 4096)) then [pgFLD k] else []

def State.fldCommit (s : State) (k : Nat) : State :=
  s.commitPoint (pgFLD k) (s.fldBad k) (fun a => if a.flag (pgFLD k) Fld.FLD_MODE 0 then a else a.fldPlca k false)

end Sys2Proof.Machine
end

