-- ==== Sys2Proof/Machine/Lamps.lean ====
section
/-!
DEFINITION. Lamp clusters and channels (R446 to R481): FILL jobs, launches, PWM periods, sensing, and derating.
-/
namespace Sys2Proof.Machine

/-! ### FILL, slot check, launch (R450, R451) -/

/-- The 16-bit value of channel `k` for content `f`. -/
def State.lampSource (s : State) (k f : Nat) : Nat :=
  let w := s.reg (pgLMP k) Lmp.LMP_SRC
  let at_ (i : Nat) : Nat := s.mem_ (s.ustoreAt (bits w (14, 0)) f (bits w (24, 16) + i)) 1
  if s.flag (pgLMP k) Lmp.LMP_MODE 7 then at_ 0 * 256 + at_ 1 else at_ 0 * 257

/-- The source of channel `k` lies outside what R450 allows. -/
def State.lampSourceBad (s : State) (k : Nat) : Bool :=
  let w := s.reg (pgLMP k) Lmp.LMP_SRC
  decide (s.fld pgFIX Fix.UNIV_COUNT (15, 0) ≤ bits w (14, 0))
    || (s.flag (pgLMP k) Lmp.LMP_MODE 7 && bits w (24, 16) == 511)

/-- A completed FILL of class LCL. -/
def State.lclFill (s : State) (n first count frame : Nat) : State × Option Nat :=
  let ch := (List.range count).map (fun i => 8 * n + first + i)
  if 8 < first + count ∨ s.enabled (pgLCL n) = false ∨ ch.any s.lampSourceBad = true then
    (s.fault (pgLCL n) Lcl.F_FILL_RANGE, some 1)
  else
    let x := s.portOf (keyLCL n)
    let v := ch.map (fun k => s.lampSource k frame)
    (s.setPort (keyLCL n) ((x.setBuf (frame % 2) (writeBuf 8 (x.buf (frame % 2)) first v)).setFill (frame % 2)
      ⟨frame, count⟩), none)

def State.lampSlotCheck (s : State) (n : Nat) : State :=
  s.slotCheckAt (keyLCL n) (pgLCL n) (fun a l =>
    a.checkSlot (keyLCL n) (pgLCL n) Lcl.UNDERRUNS Lcl.F_UNDERRUN (a.flag (pgLCL n) Lcl.LCL_MODE 2) l.frame)

def execLampSlotCheck (n : Fin 4) (s : State) : Host.Outcome State Fault Refusal := done (s.lampSlotCheck n.val)

/-- The frame of launch `l` waits for a period boundary, with the engine values of its start. -/
def State.lampTake (s : State) (n : Nat) (l : Launch) (g : Option Nat) : State :=
  let c := s.clusterOf n
  let x := s.portOf (keyLCL n)
  let v := ((c.fixedV.find? (fun e => e.1 == l.start)).map (·.2)).getD (c.engines.map (·.v))
  let vals := g.map (fun h => writeBuf 8 [] 0 (x.buf (h % 2)))
  let s1 := s.setCluster n { c with launched := c.launched ++ [(l.at_, vals, v)],
                                    fixedV := c.fixedV.filter (fun e => decide (l.start < e.1)) }
  match g with
  | some h => s1.setPort (keyLCL n) { x with emitted := some h }
  | none => s1

def State.lampLaunch (s : State) (n : Nat) : State :=
  let s0 := if (earliest (s.launches (keyLCL n))).any (fun l => l.choice.isNone) then s.lampSlotCheck n else s
  match earliest (s0.launches (keyLCL n)) with
  | none => s0
  | some l =>
    s0.atTime (timeOfUnits l.at_) (fun a =>
      let a1 := a.dropLaunch (keyLCL n) l
      if a.mayLaunch (keyLCL n) (pgLCL n) l.swath then a1.lampTake n l (l.choice.getD none) else a1)

def execLampLaunch (n : Fin 4) (s : State) : Host.Outcome State Fault Refusal := done (s.lampLaunch n.val)

/-! ### Levels and PWM (R449, R452 to R455, R461) -/

/-- Source value s of a channel in the present period (R447, R449). -/
def State.lampLevel (s : State) (k st : Nat) : Nat :=
  let n := k / 8
  let c := s.clusterOf n
  let p := pgLMP k
  if st = 5 ∧ s.fld (pgLCL n) Lcl.LCL_MODE Lcl.IDLE_MODE = 2 then s.fld (pgLCL n) Lcl.SAFE_LEVEL (15, 0)
  else
    s.sourceValue k (c.force.getD (k % 8) 0) (c.patForce.getD (s.fld p Lmp.LMP_MODE Lmp.PAT_ENG) 0)

/-- Duty D (R452). -/
def State.lampDuty (s : State) (k v : Nat) : Nat :=
  let d0 := min v (s.fld (pgLMP k) Lmp.MAX_DUTY (15, 0))
  if s.flag (pgLMP k) Lmp.LMP_MODE 10 then (rhe ((d0 : Int) * s.fld (pgLCL (k / 8)) Lcl.DERATE (15, 0)) 32768).toNat else d0

/-- The gate of the channel is forced inactive in a period that begins at `t` (R447, R454, R459). -/
def State.lampForced (s : State) (k st t : Nat) : Bool :=
  st == 0 || st == 1 || st == 2 || (st == 5 && s.fld (pgLCL (k / 8)) Lcl.LCL_MODE Lcl.IDLE_MODE == 0)
    || !s.active (pgLMP k) || s.sts (pgLMP k) Lmp.S_LATCHED == 1
    || (s.lampOf k).retryAt.any (fun r => decide (t < r))

/-- The latest probe instant of channel `k` at or before `t`, none before the first (R461). -/
def State.probeAt (s : State) (k t : Nat) : Option Nat :=
  let per := s.fld (pgLCL (k / 8)) Lcl.PROBE_MS (15, 0) * 1000000
  let off := k * per / 32 * LU
  if per = 0 ∨ t < off then none else some ((t - off) / (per * LU) * (per * LU) + off)

def State.probeDue (s : State) (k d t : Nat) : Bool :=
  let x := s.lampOf k
  s.flag (pgLMP k) Lmp.LMP_MODE 8 && decide (0 < d)
    && (s.probeAt k t).any (fun p => !x.hasOn || decide (x.lastOn < p))

/-- n and the new carry of a period (R454). -/
def pwmSteps (d per : Nat) (carry : Int) (due : Bool) : Nat × Int :=
  if d = 0 then (0, 0)
  else
    let x : Int := (d * per : Nat) + carry
    let n0 := x / 65535
    let n1 := if due && decide (n0 < 40000) then 40000 else n0
    let n2 := if n1 < 20 then 0 else n1
    let n3 := if (per : Int) - 20 < n2 then (per : Int) else n2
    (n3.toNat, x - n3 * 65535)

/-- The latch or the end of one takes effect at a boundary `t` (R459). -/
def State.lampLatch (s : State) (k t : Nat) : State :=
  let x := s.lampOf k
  let s1 := if x.latchAt.any (fun a => decide (a ≤ t)) then
      ((s.setLamp k { x with latchAt := none }).setSts (pgLMP k) Lmp.S_LATCHED 1).fault (pgLMP k) Lmp.F_LATCHED_OFF
    else s
  let y := s1.lampOf k
  if y.retryAt.any (fun a => decide (a ≤ t)) then s1.setLamp k { y with retryAt := none } else s1

/-- One channel at a period boundary `t`, in cluster state `st`. -/
def State.lampPeriod (s : State) (k st t : Nat) : State :=
  let p := pgLMP k
  let s0 := if s.stopSet p && s.active p then s.setPageState p 2 else s
  let s1 := s0.lampLatch k t
  let x := s1.lampOf k
  let per := s1.fld (pgLCL (k / 8)) Lcl.PWM_PERIOD (23, 0)
  let off := s1.lampForced k st t
  let d := if off then 0 else s1.lampDuty k (s1.lampLevel k st)
  let carry := if s1.red.carryReset.contains (k / 8) then 0 else x.carry
  let due := s1.probeDue k d t
  let r := pwmSteps d per carry due
  let probed := due && decide (((d * per : Nat) + carry) / 65535 < (40000 : Int)) && d != 0
  let start := t + 64 * s1.fld p Lmp.PH_OFS (23, 0)
  let y := { x with carry := if off then 0 else r.2, off := off, prevEnd := x.pulseAt + 64 * x.pulse, pulseAt := start,
                    pulse := r.1 }
  let s2 := ((s1.setLamp k y).setNat p Lmp.DUTY d).setNat p Lmp.ON_STEPS r.1
  let s3 := if probed then (s2.inc p Lmp.PROBES).count (592 + 4 * k + 1) 1 else s2
  if r.1 = 0 then s3
  else
    (s3.count (592 + 4 * k) 1).emitEdges (.gate k (s.gateHigh k) start (start + 64 * r.1))

/-- Launched frames whose launch lies at or before `t` come into force, the latest last (R451); a start that shows nothing, under
SKIP, leaves the values in force (R450). -/
def ClusterState.forceUpTo (c : ClusterState) (t : Nat) : ClusterState :=
  let mine := c.launched.filter (fun e => decide (e.1 ≤ t))
  { mine.foldl (fun a e => match e.2.1 with
      | some v => { a with force := v, patForce := e.2.2 }
      | none => a) c with
    launched := c.launched.filter (fun e => decide (t < e.1)) }

/-- A derating and trip that waited take effect (R470). -/
def State.deratingApply (s : State) (n : Nat) : State :=
  let c := s.clusterOf n
  match c.update with
  | none => s
  | some (d, trip) =>
    let s1 := s.setCluster n { c with update := none, tripped := trip }
    let s2 := (s1.setNat (pgLCL n) Lcl.DERATE d).setSts (pgLCL n) Lcl.S_DERATING (if d < 32768 then 1 else 0)
    if trip && !c.tripped then ((s2.inc (pgLCL n) Lcl.TRIPS).fault (pgLCL n) Lcl.F_TRIP).count (896 + 8 * n + 2) 1 else s2

/-- A PWM period boundary of cluster `n` at `t` (1/1280 ns). -/
def State.pwmBoundaryAt (s : State) (n t : Nat) : State :=
  let s1 := (s.setCluster n { (s.clusterOf n).forceUpTo t with boundary := t }).deratingApply n
  let s2 := if s1.stopSet (pgLCL n) && s1.active (pgLCL n) then s1.setPageState (pgLCL n) 2 else s1
  let s3 := s2.lclRefresh n
  let st := s3.lclState n (s3.dev.dieFenced || !s3.aclkRuns)
  let s4 := s3.count (896 + 8 * n) 1
  let s5 := if s4.nat (pgLCL n) Lcl.DERATE < 32768 then s4.count (896 + 8 * n + 1) 1 else s4
  let s6 := (List.range 8).foldl (fun a i => a.lampPeriod (8 * n + i) st t) s5
  { s6 with red := { s6.red with carryReset := s6.red.carryReset.filter (· != n) } }

/-- The next period boundary of cluster `n`, with PWM_PERIOD not 0. -/
def State.nextBoundary (s : State) (n : Nat) : Nat :=
  let per := 64 * s.fld (pgLCL n) Lcl.PWM_PERIOD (23, 0)
  let t := ceilDiv (unitsOf s.tln.now) per * per
  if t = (s.clusterOf n).boundary then t + per else t

def State.pwmBoundary (s : State) (n : Nat) : State :=
  let t := s.nextBoundary n
  s.atTime (timeOfUnits t) (fun a => a.pwmBoundaryAt n t)

def execPwmPeriodBoundary (n : Fin 4) (s : State) : Host.Outcome State Fault Refusal :=
  done (if s.engineRuns then s.pwmBoundary n.val else s)

/-! ### Sensing (R456 to R460) -/

/-- A code of sense channel `c` corrected by its latest analog run (R653). -/
def State.calCode (s : State) (c raw : Nat) : Nat :=
  let off := signed 8 (Tab.get (fun _ => 0) s.cal.off c)
  let vref := Tab.get (fun _ => vrefInit) s.cal.vref c
  (clampInt 0 4095 (rhe (((raw : Int) - off) * 4000) ((vref : Int) - off).toNat)).toNat

/-- DIAG_STATE changes, with interrupt 272 + k (R481). -/
def State.setDiag (s : State) (k n : Nat) : State :=
  if s.sts (pgLMP k) Lmp.S_DIAG_STATE = n then s
  else ((s.setSts (pgLMP k) Lmp.S_DIAG_STATE n).irq (272 + k)).count (592 + 4 * k + 3) 1

/-- Entry to OPEN, SHORT or STUCK_ON (R457), with the latch of R459 decided at `t`. -/
def State.enterDiag (s : State) (k cls t : Nat) : State :=
  let p := pgLMP k
  if s.sts p Lmp.S_DIAG_STATE = cls then s
  else
    let s1 := s.setDiag k cls
    match cls with
    | 2 => (s1.inc p Lmp.OPEN_COUNT).fault p Lmp.F_OPEN
    | 3 =>
      let s2 := (s1.inc p Lmp.SHORT_COUNT).fault p Lmp.F_SHORT
      if s2.flag p Lmp.LMP_MODE 9 then s2.setLamp k { s2.lampOf k with latchAt := some (t + 20000 * LU) } else s2
    | 4 => s1.fault p Lmp.F_STUCK_ON
    | _ => s1

/-- Class of a sample (R457), 0 for none. -/
def State.sampleClass (s : State) (k : Nat) (on : Bool) (code : Nat) : Nat :=
  let p := pgLMP k
  if on then
    (if code < s.fld p Lmp.OPEN_TH (11, 0) then 2 else if s.fld p Lmp.SHORT_TH (11, 0) < code then 3 else 1)
  else if s.fld p Lmp.OFF_TH (11, 0) < code then 4
  else 0

/-- A sample with its code, taken at `t` (1/1280 ns): by the holder, or replayed (R472). -/
def State.lampSample (s : State) (k : Nat) (on : Bool) (code t : Nat) : State :=
  let p := pgLMP k
  if !s.enabled p then s
  else
    let x := s.lampOf k
    let s1 := if on then
        ((s.setFld p Lmp.SENSE_LAST (11, 0) code).setNat p Lmp.LAST_SAMPLE (t / LU % 2 ^ 32)).setLamp k
          { x with lastOn := t, hasOn := true }
      else (s.setFld p Lmp.SENSE_LAST (27, 16) code).setLamp k { x with lastOff := t }
    let s2 := (if on then s1.count (592 + 4 * k + 2) 1 else s1).sample (if on then 8 else 9) k code
    let cls := s2.sampleClass k on code
    if cls = 0 then s2
    else
      let y := s2.lampOf k
      let len := if y.runClass = cls then y.runLength + 1 else 1
      let s3 := s2.setLamp k { y with runClass := cls, runLength := len }
      if s3.fld p Lmp.SENSE_CFG (19, 16) ≤ len then s3.enterDiag k cls t else s3

def State.senseDelay (s : State) (k : Nat) : Nat := s.fld (pgLMP k) Lmp.SENSE_CFG (10, 0) * LU

/-- Sense channel `c` is the one that an analog run takes now, each in turn for 2 ms: it takes no sample (R653). -/
def State.channelTaken (s : State) (c : Nat) : Bool :=
  s.cal.analog && decide ((s.tln.now - s.cal.analogAt) / (2 * MS) = c)

/-- The device samples LSk: it holds the Stile and drives the gate (R472). -/
def State.senses (s : State) (k : Nat) : Bool :=
  s.stileHeld && s.sts (pgLCL (k / 8)) Lcl.S_DRIVEN == 1 && s.active (pgLMP k)

/-- The on-sample of the latest period: n is at least 40,000 steps, and the gate had an active edge. -/
def State.onSample (s : State) (k code : Nat) : State :=
  let x := s.lampOf k
  if !s.senses k || decide (x.pulse < 40000) || x.pulseAt == x.prevEnd || (x.hasOn && decide (x.pulseAt ≤ x.lastOn)) then s
  else
    let t := x.pulseAt + s.senseDelay k
    s.atTime (timeOfUnits t) (fun a => if a.channelTaken k then a else (a.lampSample k true code t).tellSense 0 k code)

def execLampOnSample (k : Fin 32) (code : Fin 4096) (s : State) : Host.Outcome State Fault Refusal :=
  done (s.onSample k.val (s.calCode k.val code.val))

/-- The off-sample after the latest pulse: the gate then stays inactive for at least 2 µs. -/
def State.offSample (s : State) (k code : Nat) : State :=
  let x := s.lampOf k
  let edge := x.pulseAt + 64 * x.pulse
  if !s.senses k || x.pulse == 0 || decide (s.fld (pgLCL (k / 8)) Lcl.PWM_PERIOD (23, 0) < x.pulse + 40000)
      || decide (edge < x.lastOff) then s
  else
    let t := edge + s.senseDelay k
    s.atTime (timeOfUnits t) (fun a => if a.channelTaken k then a else (a.lampSample k false code t).tellSense 1 k code)

def execLampOffSample (k : Fin 32) (code : Fin 4096) (s : State) : Host.Outcome State Fault Refusal :=
  done (s.offSample k.val (s.calCode k.val code.val))

/-- DIAG_STATE becomes UNKNOWN and the run is discarded (R458). -/
def State.diagUnknown (s : State) (k : Nat) : State :=
  (s.setLamp k { s.lampOf k with runClass := 0, runLength := 0 }).setDiag k 0

/-- PROBE_MS and one PWM period without an on-sample; a latched channel keeps SHORT (R458, R459). -/
def State.diagTimeout (s : State) (k : Nat) : State :=
  let x := s.lampOf k
  if !x.hasOn || s.sts (pgLMP k) Lmp.S_LATCHED == 1 then s
  else
    let t := x.lastOn + s.fld (pgLCL (k / 8)) Lcl.PROBE_MS (15, 0) * 1000000 * LU
      + 64 * s.fld (pgLCL (k / 8)) Lcl.PWM_PERIOD (23, 0)
    s.atTime (timeOfUnits t) (fun a => (a.setLamp k { a.lampOf k with hasOn := false }).diagUnknown k)

def execDiagTimeout (k : Fin 32) (s : State) : Host.Outcome State Fault Refusal := done (s.diagTimeout k.val)

/-- LMP_ACTION.RETRY (R459). -/
def State.lampRetry (s : State) (k : Nat) : State :=
  if s.sts (pgLMP k) Lmp.S_LATCHED ≠ 1 then s
  else
    let s1 := s.setSts (pgLMP k) Lmp.S_LATCHED 0
    (s1.setLamp k { s1.lampOf k with retryAt := some (unitsOf s.tln.now + 20000 * LU) }).diagUnknown k

/-- A RETRY written by a requester reaches the partner (R472, R545). -/
def State.retryWrite (s : State) (k : Nat) : State := (s.lampRetry k).tellOutcome 2 k (beBytes 4 1)

/-- 1 ms after the gates entered RELEASED, their keepers switch off (R447). -/
def State.keeperEnds (s : State) (n : Nat) : State :=
  match (s.clusterOf n).releasedAt with
  | none => s
  | some t => s.atTime (t + 1000000 * NS) (fun a => a.setCluster n { a.clusterOf n with keeperOff := true })

def execKeeperOff (n : Fin 4) (s : State) : Host.Outcome State Fault Refusal := done (s.keeperEnds n.val)

/-! ### Remote sensor and derating (R468 to R470) -/

/-- Temperature in kelvin by DIODE, from the two voltages in µV; q / k is 1.602176634e-19 / 1.380649e-23. -/
def diodeKelvin (eta v1 v2 : Nat) : Rat :=
  let dv : Rat := ((v2 : Int) - v1 : Int) / 1000000
  (1602176634 * 10000 : Rat) / 1380649 * dv / (((eta : Rat) / 16384) * Config.ln 10) / 10

/-- Temperature in kelvin by NTC, from the voltage in µV. -/
def ntcKelvin (b r25 v : Nat) : Rat :=
  let r : Rat := (v : Rat) / 10
  1 / (100 / 29815 + Config.ln (r / (r25 : Rat)) / (b : Rat))

/-- A temperature in 1/16 °C; its rounding is open. -/
def sixteenths (kelvin : Rat) : Int :=
  let x := (kelvin - 27315 / 100) * 16
  roundOpen 468 x.num x.den

/-- A measurement from the voltages at TSNSn_P in µV, broken or not (R468, R469). -/
def State.tsnsValue (s : State) (n v1 v2 : Nat) : Int × Bool :=
  let cfg := s.fld (pgLCL n) Lcl.TSNS_CFG (15, 0)
  let out (v : Nat) : Bool := decide (v < 50000) || decide (1150000 < v)
  let diode := s.fld (pgLCL n) Lcl.LCL_MODE Lcl.TSNS_MODE == 1
  let t := sixteenths (if diode then diodeKelvin cfg v1 v2 else ntcKelvin cfg (s.fld (pgLCL n) Lcl.TSNS_R25 (23, 0)) v1)
  let broken := out v1 || (diode && out v2) || decide (t < -55 * 16) || decide (200 * 16 < t)
  (if broken then 0xC80 else t, broken)

/-- A measurement's result, by the holder or replayed. -/
def State.tsnsTake (s : State) (n : Nat) (t : Int) : State :=
  ((s.setNat (pgLCL n) Lcl.TEMP (unsign 16 t)).setCluster n { s.clusterOf n with measured := some t }).sample 10 n t

/-- The measurement of every instant 5 ms past a whole multiple of 10 ms (R468). -/
def State.tsnsMeasure (s : State) (n v1 v2 : Nat) : State :=
  if s.fld (pgLCL n) Lcl.LCL_MODE Lcl.TSNS_MODE = 0 ∨ s.stileHeld = false ∨ s.enabled (pgLCL n) = false then s
  else
    s.atTick (tickSense n) (10 * MS) (5 * MS) (fun a =>
      if a.channelTaken (32 + n) then a
      else
      let r := a.tsnsValue n v1 v2
      let a1 := a.tsnsTake n r.1
      (if r.2 then a1.fault (pgLCL n) Lcl.F_SENSOR_BROKEN else a1).tellSense 2 n (unsign 16 r.1))

def execTsnsMeasure (n : Fin 4) (v1 v2 : Nat) (s : State) : Host.Outcome State Fault Refusal := done (s.tsnsMeasure n.val v1 v2)

/-- DERATE of a temperature (R470). -/
def derateOf (start stop least t : Int) : Nat :=
  if t ≤ start then 32768
  else if stop ≤ t then least.toNat
  else (32768 - rhe ((32768 - least) * (t - start)) (stop - start).toNat).toNat

/-- The update of every 10 ms (R470): it takes effect at the next period boundary. -/
def State.derateNow (s : State) (n : Nat) : State :=
  let p := pgLCL n
  let c := s.clusterOf n
  let mode := s.fld p Lcl.LCL_MODE Lcl.TSNS_MODE
  match (if mode = 0 then none else c.measured) with
  | none => s.setCluster n { c with update := some (32768, false) }
  | some t =>
    let d := derateOf (tempOf (s.reg p Lcl.DERATE_T) (15, 0)) (tempOf (s.reg p Lcl.DERATE_T) (31, 16))
      (s.fld p Lcl.DERATE_MIN (15, 0)) t
    let top := tempOf (s.reg p Lcl.TRIP) (15, 0)
    let was := (c.update.map (·.2)).getD c.tripped
    let trip := if was then decide (top - s.fld p Lcl.TRIP (31, 16) < t) else decide (top ≤ t)
    s.setCluster n { c with update := some (d, trip) }

def State.derateUpdate (s : State) (n : Nat) : State := s.atTick (tickDerate n) (10 * MS) 0 (fun a => a.derateNow n)

def execDerateUpdate (n : Fin 4) (s : State) : Host.Outcome State Fault Refusal := done (s.derateUpdate n.val)

/-! ### ENABLE and STOP (R475, R477, R481) -/

def State.lclCtrl (s : State) (n : Nat) (en st : Bool) : State :=
  let p := pgLCL n
  let key := keyLCL n
  let en' := s.enabled p
  let st' := s.stopSet p
  if en == en' && st == st' then s
  else if !en' then
    let c := s.clusterOf n
    ((((s.setPort key PortState.init).setCluster n { c with launched := [], fixedV := [] }).setLaunches key []).setPageState
      p 0).lclRefresh n
  else
    let s1 := if !en && lclValuesBad (s.reg p) then (s.setPort key { PortState.init with bad := true }).badValue p else s
    -- STOP acts at the next period boundary
    (if st' && s1.pageState p != 0 then s1 else s1.setPageState p 1).lclRefresh n

def State.lmpCtrl (s : State) (k : Nat) (en st : Bool) : State :=
  let p := pgLMP k
  let en' := s.enabled p
  let st' := s.stopSet p
  if en == en' && st == st' then s
  else if !en' then ((s.setPageState p 0).diagUnknown k).gateOff k
  else if st' && s.pageState p != 0 then s
  else s.setPageState p 1

end Sys2Proof.Machine
end

