-- ==== Sys2Proof/Machine/EthBase.lean ====
section
/-!
DEFINITION. What the users of a MAC share (R331 to R347): the MAC's state and line times, offering frames, TX and RX rings with
their descriptors, completions and moderation, segmentation, and the counters.
-/
namespace Sys2Proof.Machine

def State.macOf (s : State) (m : Nat) : MacState := Tab.get (fun _ => MacState.init) s.mac m
def State.setMac (s : State) (m : Nat) (v : MacState) : State :=
  { s with mac := Tab.set (fun _ => MacState.init) s.mac m v }
def State.modMac (s : State) (m : Nat) (f : MacState → MacState) : State := s.setMac m (f (s.macOf m))

def State.macSlow (s : State) (m : Nat) : Bool := s.flag (pgETH m) Eth.MAC_MODE 0
def State.maxFrame (s : State) (m : Nat) : Nat := s.fld (pgETH m) Eth.MAC_MODE (29, 16)
def State.macLink (s : State) (m : Nat) : Bool := s.flag (pgETH m) Eth.LINK_STATUS 0
def State.macAddr (s : State) (m : Nat) : Nat := s.nat (pgETH m) Eth.MAC_ADDR_LO + 2 ^ 32 * s.fld (pgETH m) Eth.MAC_ADDR_HI (15, 0)
def State.preemptState (s : State) (m : Nat) : Nat := s.fld (pgETH m) Eth.LINK_STATUS (5, 4)

/-! ### Line times (R333, R342, R334) -/

/-- `n` byte times in 1/1280 ns, rounded up: 0.32 ns at 25 Gb/s, 0.8 ns at 10 Gb/s. -/
def State.byteSpan (s : State) (m n : Nat) : Nat := ceilDiv (n * (if s.macSlow m then 5120 else 2048)) 5

/-- A quantum of PAUSE: 512 bit times. -/
def State.quantum (s : State) (m q : Nat) : Nat := s.byteSpan m (64 * q)

/-- PLACE_LEAD in 1/1280 ns. -/
def State.placeLead (s : State) (m : Nat) : Nat := (if s.macSlow m then 32000 else 12800) * LU

/-- The bytes that a frame without FCS takes on the wire up to its end; a frame below 60 bytes is padded with 0. -/
def padFrame (f : List Byte) : List Byte := f ++ List.replicate (60 - f.length) 0

/-- End of a frame that starts at `t` (FCS included), and the earliest next start after preamble and gap. -/
def State.frameEnd (s : State) (m t : Nat) (f : List Byte) : Nat := t + s.byteSpan m ((padFrame f).length + 4)
def State.nextStart (s : State) (m : Nat) (e : Nat) : Nat := e + s.byteSpan m 20

/-! ### Offering frames -/

/-- A unit of STR joins those that wait, before the first of STR whose launch comes after `key`: the frames of STR leave in the
order of their launches (R379). -/
def insertUnit (key : Nat) (u : TxUnit) : List TxUnit → List TxUnit
  | [] => [u]
  | v :: t => if v.src == u.src && v.launch.any (fun l => decide (key < l)) then u :: v :: t else v :: insertUnit key u t

/-- STR, NTM or the PAUSE generator offers a frame or burst to MAC `m`. -/
def State.macQueue (s : State) (m : Nat) (u : TxUnit) : State :=
  let now := unitsOf s.tln.now
  let key := u.launch.getD now
  let before (w : TxUnit) : Bool := w.src == u.src && !(u.src == 4 && w.launch.any (fun l => decide (key < l)))
  s.modMac m (fun x =>
    { x with
      waiting := if u.src = 4 then insertUnit key u x.waiting else x.waiting ++ [u]
      headAt := if x.waiting.any before then x.headAt else Tab.set (fun _ => none) x.headAt u.src (some now) })

/-! ### TX rings (R337 to R340) -/

def ringSize (n : Nat) : Bool := [16, 32, 64, 128, 256, 512, 1024, 2048, 4096].contains n

def State.txBase (s : State) (m r : Nat) : Nat :=
  address8 (s.reg (pgETH m) (Eth.TXR_BASE_LO r)) (s.reg (pgETH m) (Eth.TXR_BASE_HI r))
def State.txSize (s : State) (m r : Nat) : Nat := s.fld (pgETH m) (Eth.TXR_SIZE r) (12, 0)
def State.rxBase (s : State) (m r : Nat) : Nat :=
  address8 (s.reg (pgETH m) (Eth.RXR_BASE_LO r)) (s.reg (pgETH m) (Eth.RXR_BASE_HI r))
def State.rxSize (s : State) (m r : Nat) : Nat := s.fld (pgETH m) (Eth.RXR_SIZE r) (12, 0)

/-- Word `w` of descriptor `i` of a ring. -/
def State.descWord (s : State) (base i w : Nat) : Word := BitVec.ofNat 32 (s.mem_ (base + 32 * i + 4 * w) 4)

/-- The descriptors outstanding in a ring: from HEAD to TAIL. -/
def outstanding (size head tail : Nat) : Nat := (tail + size - head) % size

/-- The number of descriptors from `i` on up to the first with EOP, none when the `n` at hand have none. -/
def State.chainLength (s : State) (base size i : Nat) : Nat → Option Nat
  | 0 => none
  | n + 1 =>
    if bit (s.descWord base i 2) 1 then some 1
    else (s.chainLength base size ((i + 1) % size) n).map (· + 1)

/-- The reserved bits of a TX descriptor are 0; T4 to T6 of a first descriptor with LAUNCH hold a TIMEVAL (R75). -/
def txReservedClear (d : List Word) : Bool :=
  let timed := bit (d.getD 2 0) 0 && bit (d.getD 2 0) 2
  d.getD 1 0 &&& 0xFFC00000 == 0 && d.getD 2 0 &&& 0x0FFFFF00 == 0 && d.getD 3 0 &&& 0xFF000000 == 0
    && d.getD 7 0 &&& 0xF8FF0000 == 0 && (!timed || (d.getD 4 0 &&& 0xC0000000 == 0 && d.getD 6 0 &&& 0xFF000000 == 0))

/-- The segment `i` of an offloaded frame (R340). -/
def segmentOf (h : List Byte) (u : Udp) (t3 t7 : Word) (csum : Bool) (i : Nat) (p : List Byte) : List Byte :=
  let f0 := h ++ p
  let idOff := u.ip + 4
  let f1 := if u.v6 then f0 else putAt f0 idOff (beBytes 2 (beAt h idOff 2 + i))
  let sq := bits t7 (7, 0)
  let f2 := if bit t7 24 then putAt f1 sq (beBytes 1 (beAt h sq 1 + i)) else f1
  let un := bits t7 (15, 8)
  let univ := (beAt h un 2 + (if bit t7 25 then i else 0)) % 65536
  let f3 := if bit t7 25 then putAt f2 un (beBytes 2 univ) else f2
  let f4 := if bit t7 26 then putMcast f3 u.v6 u.ip univ else f3
  let _ := t3
  fixSums (fixLengths f4 u.v6 u.ip u.udp) u.v6 u.ip u.udp csum

def chunks (n : Nat) : List Byte → Nat → List (List Byte)
  | _, 0 => []
  | [], _ => []
  | d, k + 1 => d.take n :: chunks n (d.drop n) k

/-- The frames of a chain's bytes (R338 to R340), none where R339 refuses them. -/
def State.chainFrames (s : State) (m : Nat) (t2 t3 t7 : Word) (d : List Byte) : Option (List (List Byte)) :=
  let csum := bit t2 5
  if bit t2 4 then
    let n := bits t3 (23, 16)
    let mss := bits t3 (15, 0)
    let h := d.take n
    let p := d.drop n
    match parseUdp h with
    | none => none
    | some u =>
      if 42 ≤ n ∧ n ≤ 254 ∧ 1 ≤ mss ∧ n + mss + 4 ≤ s.maxFrame m ∧ p.length ≤ 256 * mss ∧ n ≤ d.length
          ∧ bits t7 (7, 0) < n ∧ bits t7 (15, 8) + 1 < n ∧ templateOk h = true then
        some ((List.zipIdx (if p = [] then [[]] else chunks mss p 256)).map (fun e => segmentOf h u t3 t7 csum e.2 e.1))
      else none
  else if s.maxFrame m < d.length + 4 then none
  else
    match csum, parseUdp d with
    | true, some u => some [fixSums d u.v6 u.ip u.udp true]
    | _, _ => some [d]

/-- The length of the chain `skip` descriptors after HEAD of TX ring `r`: without EOP among more than 32 outstanding descriptors it
is all of them (log entry 141), and among fewer there is none yet. -/
def State.chainSpan (s : State) (m r skip : Nat) : Option Nat :=
  let size := s.txSize m r
  let head := (s.fld (pgETH m) (Eth.TXR_HEAD r) (11, 0) + skip) % size
  let n := outstanding size head (s.fld (pgETH m) (Eth.TXR_TAIL r) (11, 0))
  match s.chainLength (s.txBase m r) size head n with
  | some k => some k
  | none => if 32 < n then some n else none

/-- The chain `skip` descriptors after HEAD of TX ring `r`: its length, and its frame or burst unless it is BAD_DESC. None while the
ring holds no whole chain there. -/
def State.chainAt (s : State) (m r skip : Nat) : Option (Nat × Option TxUnit) :=
  let p := pgETH m
  let size := s.txSize m r
  let base := s.txBase m r
  let head := (s.fld p (Eth.TXR_HEAD r) (11, 0) + skip) % size
  if s.flag p (Eth.TXR_CTRL r) 0 = false ∨ size = 0 then none
  else
    match s.chainSpan m r skip with
    | none => none
    | some n =>
      let ds := (List.range n).map (fun i => (List.range 8).map (s.descWord base ((head + i) % size)))
      let sop := ds.headD []
      let t2 := sop.getD 2 0
      let time : TimeVal := TimeVal.ofMem (s.bytes (base + 32 * head + 16) 12)
      let len (d : List Word) : Nat := bits (d.getD 1 0) (21, 8)
      let data := ds.flatMap (fun d => s.bytes ((d.getD 0 0).toNat + 2 ^ 32 * bits (d.getD 1 0) (7, 0)) (len d))
      let bad := decide (32 < n) || !bit t2 0 || ds.any (fun d => len d == 0) || !ds.all txReservedClear
        || (bit t2 2 && decide (999999999 < bits (sop.getD 4 0) (29, 0)))
      let frames := if bad then none else s.chainFrames m t2 (sop.getD 3 0) (sop.getD 7 0) data
      some (n, frames.map (fun fs =>
        { TxUnit.plain r (s.fld p (Eth.TXR_CTRL r) (3, 1)) 0 (bit t2 6) fs with
          launch := if bit t2 2 then some (roundGrid (time.units : Nat)).toNat else none
          dropLate := s.flag p (Eth.TXR_CTRL r) 4
          chain := n
          irq := bit t2 7
          tstamp := bit t2 3 }))

/-! ### Completions and moderation (R345) -/

/-- The level of a ring's interrupt source follows its bit in RING_IRQ; ring `i` counts TX rings 0 to 3, RX rings 4 to 7. -/
def State.ringLevel (s : State) (m i : Nat) : State :=
  s.setLevel (222 + 10 * m + i) (s.flag (pgETH m) Eth.RING_IRQ (i % 4 + 8 * (i / 4)))

def State.ringLevels (s : State) (m : Nat) : State := (List.range 8).foldl (fun a i => a.ringLevel m i) s

def pendOff (i : Nat) : Nat := if i < 4 then Eth.TXR_PEND i else Eth.RXR_PEND (i - 4)
def modOff (i : Nat) : Nat := if i < 4 then Eth.TXR_MOD_CTRL i else Eth.RXR_MOD_CTRL (i - 4)

/-- The ring raises: its bit in RING_IRQ, PEND 0, the timer stopped. -/
def State.ringRaise (s : State) (m i : Nat) : State :=
  let s1 := (s.setFlag (pgETH m) Eth.RING_IRQ (i % 4 + 8 * (i / 4)) true).setNat (pgETH m) (pendOff i) 0
  (s1.modMac m (fun x => { x with timers := Tab.set (fun _ => none) x.timers i none
                                  raised := Tab.set (fun _ => 0) x.raised i (s.tln.now + 1) })).ringLevel m i

/-- The ring has raised at the present instant, and time runs. -/
def State.raisedNow (s : State) (m i : Nat) : Bool :=
  s.timeRuns && Tab.get (fun _ => 0) (s.macOf m).raised i == s.tln.now + 1

/-- One completion of ring `i`; one at the instant of a raise is counted in that raise (R345). -/
def State.ringComplete (s : State) (m i : Nat) : State :=
  if s.raisedNow m i then s
  else
  let n := s.nat (pgETH m) (pendOff i) + 1
  let s1 := s.setNat (pgETH m) (pendOff i) n
  let s2 := if n = 1 then
      s1.modMac m (fun x => { x with timers := Tab.set (fun _ => none) x.timers i (some (unitsOf s.tln.now)) })
    else s1
  if max 1 (s.fld (pgETH m) (modOff i) (7, 0)) ≤ n then s2.ringRaise m i else s2

/-- A ring with completions waiting raises at once (R346). -/
def State.ringFlush (s : State) (m i : Nat) : State :=
  if s.nat (pgETH m) (pendOff i) = 0 then s else s.ringRaise m i

/-- The moderation timer of a ring reaches MOD_TIME_US. -/
def State.modTimer (s : State) (m i : Nat) : State :=
  let us := s.fld (pgETH m) (modOff i) (31, 16)
  match Tab.get (fun _ => none) (s.macOf m).timers i with
  | none => s
  | some t =>
    if us = 0 then s
    else s.atTime (timeOfUnits (t + us * 1000 * LU)) (fun a => if a.nat (pgETH m) (pendOff i) = 0 then a else a.ringRaise m i)

def execModTimerExpire (m : Fin 4) (ring : Fin 8) (s : State) : Host.Outcome State Fault Refusal :=
  done (s.modTimer m.val ring.val)

/-! ### Writeback (R338) -/

/-- T2 of descriptor `i` with DONE, and with STATUS on the last of its chain. -/
def State.writeDone (s : State) (base i : Nat) (status : Option Nat) : State :=
  let a := base + 32 * i + 8
  let w := s.mem_ a 4
  let w1 := match status with
    | some n => w % 2 ^ 28 + n % 8 * 2 ^ 28
    | none => w % 2 ^ 31
  s.hwMem a 4 (w1 + 2 ^ 31)

/-- A chain of `n` descriptors at the head of TX ring `r` is written back; HEAD passes it. -/
def State.writeBack (s : State) (m r n status : Nat) (stamp : Option Nat) (irq : Bool) : State :=
  let p := pgETH m
  let size := s.txSize m r
  let base := s.txBase m r
  let head := s.fld p (Eth.TXR_HEAD r) (11, 0)
  let last := (head + n - 1) % size
  let s1 := (List.range (n - 1)).foldl (fun a i => a.writeDone base ((head + i) % size) none) s
  let s2 := s1.writeDone base last (some status)
  let s3 := match stamp with
    | some t => s2.hwBytes (base + 32 * last + 16) (gridTimeVal t).memBytes
    | none => s2
  let s4 := (s3.setNat p (Eth.TXR_HEAD r) ((head + n) % size)).inc p (Eth.TXR_FRAMES r)
  if irq then s4.ringComplete m r else s4

/-- The head of source `i` is another from now on. -/
def State.newHead (s : State) (m i : Nat) : State :=
  s.modMac m (fun x => { x with headAt := Tab.set (fun _ => none) x.headAt i (some (unitsOf s.tln.now)) })

/-- The unit of source `i` that has left its source and is in transmission, between the frames of its burst, or preempted. -/
def State.busyUnit (s : State) (m i : Nat) : Option TxUnit :=
  let y := s.macOf m
  (y.sending.toList ++ y.burst.toList ++ (y.halted.map (·.1)).toList).find? (fun u => u.src == i)

def State.srcBusy (s : State) (m i : Nat) : Bool := (s.busyUnit m i).isSome

/-- The descriptors at HEAD of TX ring `r` that the unit under way holds. -/
def State.heldDescs (s : State) (m r : Nat) : Nat := ((s.busyUnit m r).map (·.chain)).getD 0

/-- BAD_DESC chains at the head of a ring are written back with STATUS 3 until a good one, or none, stands there. -/
def State.ringSettle (s : State) (m r : Nat) : Nat → State
  | 0 => s
  | fuel + 1 =>
    if s.srcBusy m r then s
    else
      match s.chainAt m r 0 with
      | some (n, none) =>
        let irq := bit (s.descWord (s.txBase m r) (s.fld (pgETH m) (Eth.TXR_HEAD r) (11, 0)) 2) 7
        State.ringSettle (((s.writeBack m r n 3 none irq).fault (pgETH m) Eth.F_BAD_DESC).newHead m r) m r fuel
      | _ => s

def State.ringsSettle (s : State) (m : Nat) : State :=
  (List.range 4).foldl (fun a r => a.ringSettle m r (a.txSize m r)) s

/-- A write of TXR_TAIL (R337). -/
def State.txTail (s : State) (m r v : Nat) : State :=
  let p := pgETH m
  if s.txSize m r ≤ v then s.badValue (p + 1)
  else
    let s1 := s.setNat p (Eth.TXR_TAIL r) v
    if (s.chainSpan m r (s.heldDescs m r)).isNone then s1.newHead m r else s1

def execTxrTailWrite (_req : Requester) (m : Fin 4) (r : Fin 4) (value : Word) (s : State) :
    Host.Outcome State Fault Refusal := done (s.gate (pgETH m.val) (fun a => a.txTail m.val r.val (bits value (11, 0))))

/-- A write of RXR_TAIL (R350). -/
def State.rxTail (s : State) (m r v : Nat) : State :=
  if s.rxSize m r ≤ v then s.badValue (pgETH m + 2) else s.setNat (pgETH m) (Eth.RXR_TAIL r) v

def execRxrTailWrite (_req : Requester) (m : Fin 4) (r : Fin 4) (value : Word) (s : State) :
    Host.Outcome State Fault Refusal := done (s.gate (pgETH m.val) (fun a => a.rxTail m.val r.val (bits value (11, 0))))

/-! ### Checks of a commit (R330, R337, R344) -/

def ringsBad (get : Nat → Word) (ctrl size lo hi : Nat → Nat) : Bool :=
  (List.range 4).any (fun r =>
    let n := bits (get (size r)) (12, 0)
    !ringSize n || (bit (get (ctrl r)) 0 && !dramSpan (address8 (get (lo r)) (get (hi r))) (32 * n)))

/-- The pages of MAC `m` that hold an offending value of a commit. -/
def State.ethBad (s : State) (m : Nat) : List Nat :=
  let p := pgETH m
  let get := s.shd p
  let mode := get Eth.MAC_MODE
  let bad0 := bits mode (2, 1) ≥ 2 ∨ (bit mode 0 = true ∧ (bits mode (2, 1) = 1 ∨ bit mode 3 = true))
    ∨ bits mode (29, 16) < 64 ∨ 9216 < bits mode (29, 16)
    ∨ bits (get Eth.PAUSE_LEVEL) (15, 0) ≤ bits (get Eth.PAUSE_LEVEL) (31, 16) ∨ 256 < bits (get Eth.PAUSE_LEVEL) (15, 0)
    ∨ bits (get Eth.PREEMPT_CTRL) (15, 8) = 0 ∨ 128 < bits (get Eth.PREEMPT_CTRL) (15, 8)
  let bad1 := ringsBad get Eth.TXR_CTRL Eth.TXR_SIZE Eth.TXR_BASE_LO Eth.TXR_BASE_HI
  let bufs := (List.range 4).any (fun r =>
    let n := bits (get (Eth.RXR_BUF_SIZE r)) (14, 0)
    decide (n % 256 ≠ 0) || decide (n < 256) || decide (16384 < n))
  let filters := (List.range 16).any (fun i =>
    decide (3 < bits (get (Eth.RX_FILTER i)) (18, 16)) || decide (4 < bits (get (Eth.RX_FILTER i)) (26, 24)))
  let bad2 := ringsBad get Eth.RXR_CTRL Eth.RXR_SIZE Eth.RXR_BASE_LO Eth.RXR_BASE_HI || bufs || filters
    || decide (4 < bits (get Eth.RX_DEFAULT) (2, 0))
  (if bad0 then [p] else []) ++ (if bad1 then [p + 1] else []) ++ (if bad2 then [p + 2] else [])

/-! ### Samples of good frames (R588) -/

/-- The whole milliseconds passed since the latest sample each give one (R588). -/
def State.sampleTimes (s : State) (kind inst : Nat) (v : Int) : Nat → State
  | 0 => s
  | n + 1 => State.sampleTimes (s.sample kind inst v) kind inst v n

def State.macMs (s : State) (m : Nat) : State :=
  let x := s.macOf m
  let now := s.tln.now / (1000000 * NS)
  if now ≤ x.msLast then s.setMac m { x with msLast := now }
  else
    let s1 := (s.setMac m { x with msLast := now, msCount := 0 }).sample 6 m x.msCount
    s1.sampleTimes 6 m 0 (now - x.msLast - 1)

end Sys2Proof.Machine
end

