-- ==== Sys2Proof/Machine/Ntm.lean ====
section
/-!
DEFINITION. Network time (R396 to R427): PTP messages in frames, timestamps, the slave's measurements, the master's answers, and
the timestamp queue. The layout of PTP messages is that of the standard that R396 cites (log entry 47).
-/
namespace Sys2Proof.Machine

def State.modNtm (s : State) (f : NtmState → NtmState) : State := { s with ntm := f s.ntm }

/-! ### Messages -/

/-- Offset of the PTP message of a frame, none where it carries none (R349, R396). -/
def ptpAt (f : List Byte) : Option Nat :=
  if etherType f = 0x88F7 then some (etherEnd f)
  else
    match parseUdp f with
    | some u => if u.dport = 319 ∨ u.dport = 320 then some u.pay else none
    | none => none

def ptpType (f : List Byte) (o : Nat) : Nat := beAt f o 1 % 16
def ptpDomain (f : List Byte) (o : Nat) : Nat := beAt f (o + 4) 1
def ptpTwoStep (f : List Byte) (o : Nat) : Bool := (beAt f (o + 6) 1).testBit 1
def ptpCorr (f : List Byte) (o : Nat) : Int := signed 64 (beAt f (o + 8) 8)
/-- sourcePortIdentity: clockIdentity and portNumber. -/
def ptpSource (f : List Byte) (o : Nat) : Nat := beAt f (o + 20) 10
def ptpSeq (f : List Byte) (o : Nat) : Nat := beAt f (o + 30) 2
/-- The timestamp at offset 34, in 1/65536 ns. -/
def ptpTime (f : List Byte) (o : Nat) : Int := ((beAt f (o + 34) 6 * SEC + beAt f (o + 40) 4) * 65536 : Nat)

/-- A grid instant with its TIME_FRAC, in 1/65536 ns (R399). -/
def fix16 (u : Nat) : Int :=
  let v := gridTimeVal u
  ((v.s * SEC + v.ns) * 65536 + v.frac * 256 : Nat)

/-- UDP bytes keep their checksum when the message changes (R404): 0 over IPv4, the last two bytes of the payload over IPv6. -/
def keepSum (old new : List Byte) : List Byte :=
  match parseUdp new with
  | none => new
  | some u =>
    if !u.v6 then putAt new (u.udp + 6) (beBytes 2 0)
    else
      let last := u.pay + u.len - 2
      let fold (n : Nat) : Nat := n % 65535
      let x := fold (beAt new last 2 + fold (sum16 (udpPayload old u)) + 65535 - fold (sum16 (udpPayload new u)))
      putAt new last (beBytes 2 x)

/-- The header of a PTP message (34 bytes). -/
def State.ptpHead (s : State) (m type len flags : Nat) (corr : Int) (seq control interval : Nat) : List Byte :=
  beBytes 1 type ++ beBytes 1 0x12 ++ beBytes 2 len ++ beBytes 1 (s.fld pgNTM Ntm.NTM_CTRL Ntm.DOMAIN) ++ beBytes 1 0
    ++ beBytes 2 flags ++ beBytes 8 (unsign 64 corr) ++ beBytes 4 0 ++ beBytes 4 (s.nat pgNTM Ntm.CLOCK_ID_HI)
    ++ beBytes 4 (s.nat pgNTM Ntm.CLOCK_ID_LO) ++ beBytes 2 (m + 1) ++ beBytes 2 seq ++ beBytes 1 control ++ beBytes 1 interval

def State.portCtrl (s : State) (m : Nat) : Word := s.reg pgNTM (Ntm.PORT_CTRL m)
def State.portState (s : State) (m : Nat) : Nat := s.fld pgNTM (Ntm.PORT_STATE m) (2, 0)
def State.ptpOn (s : State) (m : Nat) : Bool := s.active pgNTM && bit (s.portCtrl m) 0
def State.logOf (s : State) (m : Nat) (f : Field) : Int := signed 4 (bits (s.portCtrl m) f)

/-- 2^k seconds in 1/1280 ns; exact for every interval of R396. -/
def logUnits (k : Int) : Nat := if k < 0 then SEC * LU / 2 ^ k.natAbs else SEC * LU * 2 ^ k.natAbs

/-- A message in a frame of port `m`'s transport, and the offset of the message. Over IPv6 a message of the device's own ends with
two bytes of 0, as a template does by itself (R404). -/
def State.ptpFrame (s : State) (m : Nat) (event own : Bool) (d : List Byte) : List Byte × Nat :=
  let src := beBytes 6 (s.macAddr m)
  let port := if event then 319 else 320
  let udp (n : Nat) : List Byte := beBytes 2 port ++ beBytes 2 port ++ beBytes 2 (8 + n) ++ beBytes 2 0
  match bits (s.portCtrl m) Ntm.TRANSPORT with
  | 0 => (beBytes 6 0x011B19000000 ++ src ++ beBytes 2 0x88F7 ++ d, 14)
  | 1 =>
    let hop := Config.ptpHop false
    let ip := beBytes 1 0x45 ++ beBytes 1 hop.1 ++ beBytes 2 (28 + d.length) ++ beBytes 4 0 ++ beBytes 1 hop.2 ++ beBytes 1 17
      ++ beBytes 2 0 ++ beBytes 4 (Config.ptpSource false m) ++ beBytes 4 0xE0000181
    (fixIpSum (beBytes 6 0x01005E000181 ++ src ++ beBytes 2 0x0800 ++ ip ++ udp d.length ++ d) 14, 42)
  | _ =>
    let hop := Config.ptpHop true
    let d2 := d ++ (if own then [0, 0] else [])
    let ip := beBytes 4 (0x60000000 + hop.1 % 256 * 2 ^ 20) ++ beBytes 2 (8 + d2.length) ++ beBytes 1 17 ++ beBytes 1 hop.2
      ++ beBytes 16 (Config.ptpSource true m) ++ beBytes 16 (0xFF0E * 2 ^ 112 + 0x181)
    (fixUdpSum (beBytes 6 0x333300000181 ++ src ++ beBytes 2 0x86DD ++ ip ++ udp d2.length ++ d2) true 14 54, 62)

/-- NTM offers a frame to its MAC; `chain` keeps the offset of the message, `tag` its type. -/
def State.ntmSend (s : State) (m type : Nat) (event : Bool) (launch : Option Nat) (d : List Byte) : State :=
  let f := s.ptpFrame m event (type != 11) d
  s.macQueue m { TxUnit.plain 5 8 type event [f.1] with launch := launch, chain := f.2 }

def State.ptpSeqNo (s : State) (m type : Nat) : Nat × State :=
  let k := 16 * m + type
  let n := Tab.get (fun _ => 0) s.ntm.seqs k
  (n, s.modNtm (fun x => { x with seqs := Tab.set (fun _ => 0) x.seqs k ((n + 1) % 65536) }))

/-! ### The timestamp queue (R419, R420) -/

def State.tsqLevel (s : State) : State := s.setNat pgNTM Ntm.TSQ_LEVEL s.ntm.tsq.length

/-- A PTP event frame sent or accepted at `u` (1/1280 ns) pushes an entry. -/
def State.tsqPush (s : State) (m type seq dir u : Nat) : State :=
  if s.fld pgNTM Ntm.NTM_CTRL Ntm.TSQ_EN = 0 then s
  else if 64 ≤ s.ntm.tsq.length then s.fault pgNTM Ntm.F_TSQ_OVERRUN
  else
    let v := gridTimeVal u
    let e : TsEntry := ⟨(v.s * SEC + v.ns) % 2 ^ 32,
      seq * 2 ^ 16 + dir * 2 ^ 14 + m * 2 ^ 12 + type % 16 * 2 ^ 8 + v.frac, s.tln.now⟩
    let s1 := (s.modNtm (fun x => { x with tsq := x.tsq ++ [e] })).tsqLevel
    if s.ntm.tsq = [] then s1.irq 270 else s1

/-- TSQ_HI of the head entry, with STALE. -/
def State.tsqHi (s : State) : Nat :=
  match s.ntm.tsq with
  | [] => 0
  | e :: _ => e.hi + (if 2 ^ 31 ≤ (s.tln.now - e.at_) / NS then 2 ^ 15 else 0)

def State.tsqLo (s : State) : Nat := (s.ntm.tsq.map (·.lo)).headD 0

/-- A read of TSQ_HI returns the rest of the head entry and removes it. -/
def State.tsqRead (s : State) : State :=
  ((s.emit (.read (BitVec.ofNat 32 s.tsqHi))).modNtm (fun x => { x with tsq := x.tsq.drop 1 })).tsqLevel

def execTsqHiRead (_req : Requester) (s : State) : Host.Outcome State Fault Refusal := done (s.access State.tsqRead)

/-! ### The source PTP (R405, R413) -/

/-- The port in UNCALIBRATED or SLAVE. -/
def State.slavePort (s : State) : Option Nat := (List.range 4).find? (fun m => s.portState m == 2 || s.portState m == 3)

def State.ptpValid (s : State) : Bool := s.sts pgNTM Ntm.S_PTP_VALID == 1

/-- The PTP source is LOST: SYNC_LOST, and R87. -/
def State.ptpLost (s : State) : State :=
  if !s.ptpValid then s
  else (((s.setSts pgNTM Ntm.S_PTP_VALID 0).irq 269).fault pgNTM Ntm.F_SYNC_LOST).srcLost 1

def State.ptpGained (s : State) : State :=
  if s.ptpValid then s else ((s.setSts pgNTM Ntm.S_PTP_VALID 1).irq 269).tlnSettle

/-- SLAVE_PORT follows the port states, with interrupt 269. -/
def State.slaveRefresh (s : State) : State :=
  let v : Nat := match s.slavePort with
    | some m => 2 ^ 31 + m
    | none => 0
  if s.nat pgNTM Ntm.SLAVE_PORT = v then s else (s.setNat pgNTM Ntm.SLAVE_PORT v).irq 269

/-- The next Delay_Req is due after a random interval (R407). -/
def State.drawDelay (s : State) (m : Nat) : State :=
  let most := logUnits (s.logOf m Ntm.LOG_DELAY_REQ + 1) * 2 ^ 48 / LU
  let k := s.ntm.reqDrawn
  s.modNtm (fun x => { x with reqDrawn := k + 1, reqDue := s.tln.now + most * (Config.delayDraw k).toNat / 2 ^ 32 })

/-- D does not exist: MEAN_DELAY keeps what it read, PTP_UNCERT reads all ones (R414). -/
def State.dropDelay (s : State) : State :=
  (s.modNtm (fun x => { x with delay := none, devs := [], outliers := 0 })).setNat pgNTM Ntm.PTP_UNCERT 0xFFFFFFFF

/-- A port enters UNCALIBRATED: its measurements begin anew (R411). -/
def State.calibrate (s : State) (m : Nat) : State :=
  ((s.modNtm (fun x => { x with lastSeq := none, sync := none, ms := none, lastRx := none, req := none })).dropDelay).drawDelay m

/-- A write of PORT_STATE (R405, R413, R422); the value 7 is out of range on its page (R735, log entry 145). -/
def State.portStateWrite (s : State) (r : Requester) (m : Nat) (v : Word) : State :=
  let n := bits v (2, 0)
  let slave (k : Nat) : Bool := k == 2 || k == 3
  if isHost r then s.fault pgNTM Ntm.F_OWNER_WRITE
  else if n = 7 then s.badValue (pgNTM + 1)
  else if slave n && s.slavePort.any (fun k => k != m) then s.badValue pgNTM
  else
    let old := s.portState m
    let s1 := s.setFld pgNTM (Ntm.PORT_STATE m) (2, 0) n
    let s2 := if n = 2 ∧ old ≠ 2 then s1.calibrate m
      else if slave n && !slave old then s1.calibrate m else s1
    let s3 := if slave old && !slave n then (s2.ptpLost).modNtm (fun x => { x with req := none }) else s2
    s3.slaveRefresh

def execPortStateWrite (req : Requester) (m : Fin 4) (value : Word) (s : State) : Host.Outcome State Fault Refusal :=
  done (s.gate (pgNTM + 1) (fun a => a.portStateWrite req m.val value))

/-- PARENT_ID and PARENT_PORT may be written by the firmware alone (R422). -/
def parentOff (off : Nat) : Bool := off == Ntm.PARENT_ID_LO || off == Ntm.PARENT_ID_HI || off == Ntm.PARENT_PORT

/-! ### Sending (R402, R406, R407) -/

/-- A Sync is queued for the next whole multiple of its interval. -/
def State.syncSend (s : State) (m : Nat) : State :=
  if !s.ptpOn m || s.portState m != 4 || s.tlState == 0 then s
  else
    let step := logUnits (s.logOf m Ntm.LOG_SYNC)
    let now := unitsOf s.tln.now
    let after := match Tab.get (fun _ => none) s.ntm.sentAt (2 * m) with
      | some l => max now l
      | none => now
    let l := (after / step + 1) * step
    let n := s.ptpSeqNo m 0
    let d := s.ptpHead m 0 44 0 0 n.1 0 (unsign 8 (s.logOf m Ntm.LOG_SYNC)) ++ beBytes 10 0
    (n.2.modNtm (fun x => { x with sentAt := Tab.set (fun _ => none) x.sentAt (2 * m) (some l) })).ntmSend m 0 true (some l) d

def execPtpSyncSend (m : Fin 4) (s : State) : Host.Outcome State Fault Refusal := done (s.syncSend m.val)

/-- An Announce from the port's template, with its sequenceId. -/
def State.announceNow (s : State) (m : Nat) : State :=
  let hi := s.reg pgNTM (Ntm.ANN_BASE_HI m)
  let a := s.nat pgNTM (Ntm.ANN_BASE_LO m) / 64 * 64 + 2 ^ 32 * bits hi (7, 0)
  let n := s.ptpSeqNo m 11
  let d := putAt (s.bytes a (bits hi (23, 16))) 30 (beBytes 2 n.1)
  (n.2.modNtm (fun x => { x with
    sentAt := Tab.set (fun _ => none) x.sentAt (2 * m + 1) (some (unitsOf s.tln.now)) })).ntmSend m 11 false none d

def State.announceSend (s : State) (m : Nat) : State :=
  if !s.ptpOn m || s.portState m != 4 then s
  else
    match Tab.get (fun _ => none) s.ntm.sentAt (2 * m + 1) with
    | some t => s.atTime (timeOfUnits (t + logUnits (s.logOf m Ntm.LOG_ANNOUNCE))) (fun a => a.announceNow m)
    | none => s.announceNow m

def execPtpAnnounceSend (m : Fin 4) (s : State) : Host.Outcome State Fault Refusal := done (s.announceSend m.val)

/-- A Delay_Req to the parent, when it is due. -/
def State.delayReqSend (s : State) : State :=
  match s.slavePort with
  | none => s
  | some m =>
    if !s.ptpOn m || s.ntm.req.isSome then s
    else
      s.atTime s.ntm.reqDue (fun a =>
        let n := a.ptpSeqNo m 1
        let d := a.ptpHead m 1 44 0 0 n.1 1 0x7F ++ beBytes 10 0
        ((n.2.modNtm (fun x => { x with req := some ⟨n.1, a.tln.now, none⟩ })).drawDelay m).ntmSend m 1 true none d)

def execPtpDelayReqSend (s : State) : Host.Outcome State Fault Refusal := done s.delayReqSend

/-- No Delay_Resp came in time (R407). -/
def State.delayRespTimeout (s : State) : State :=
  match s.slavePort, s.ntm.req with
  | some m, some q =>
    s.atTime (q.at_ + logUnits (s.logOf m Ntm.LOG_DELAY_REQ + 1) * 2 ^ 48 / LU) (fun a =>
      (a.modNtm (fun x => { x with req := none })).inc pgNTM (Ntm.DRESP_MISSING m))
  | _, _ => s

def execPtpDelayRespTimeout (s : State) : Host.Outcome State Fault Refusal := done s.delayRespTimeout

/-- The transmit timestamp of a frame of MAC `m` whose start crosses the ball at `t` (R398). -/
def State.txStamp (s : State) (m t : Nat) : Nat := (roundGrid ((t : Int) + 5 * signed 32 (s.nat pgNTM (Ntm.TX_ADJ m)))).toNat

/-- One-step insertion as a frame of NTM leaves at `t` (R402). -/
def State.ntmInsert (s : State) (m t : Nat) (u : TxUnit) (f : List Byte) : List Byte :=
  if 1 < u.tag then f
  else
    let v := gridTimeVal (s.txStamp m t)
    let o := u.chain
    keepSum f (putAt (putAt f (o + 34) (beBytes 6 v.s ++ beBytes 4 v.ns)) (o + 8)
      (beBytes 8 (unsign 64 (ptpCorr f o + (v.frac * 256 : Nat)))))

/-- A frame of NTM has left at `t`. -/
def State.ntmSent (s : State) (m t : Nat) (u : TxUnit) (f : List Byte) : State :=
  let seq := ptpSeq f u.chain
  let st := s.txStamp m t
  match u.tag with
  | 0 => (s.inc pgNTM (Ntm.SYNC_TX m)).tsqPush m 0 seq 1 st
  | 1 =>
    let s1 := (s.inc pgNTM (Ntm.DREQ_TX m)).tsqPush m 1 seq 1 st
    s1.modNtm (fun x => { x with req := x.req.map (fun q =>
      if q.seq = seq then { q with sent := some st, at_ := timeOfUnits t } else q) })
  | _ => s

/-! ### Receiving (R400, R403, R408 to R412) -/

/-- The receive timestamp of a frame whose start crossed the ball `ago` grid steps ago (R398). -/
def State.rxStamp (s : State) (m ago : Nat) : Nat :=
  (roundGrid (unitsOf s.tln.now) - 64 * (ago : Int)
    - roundGrid (5 * signed 32 (s.nat pgNTM (Ntm.RX_ADJ m)))).toNat

def State.settling (s : State) (m : Nat) : Bool := !(s.macOf m).settled

/-- An accepted Sync with its ms and reception `rx`: a servo event once D exists (R412). -/
def State.syncAccept (s : State) (m seq : Nat) (t1 corr : Int) (rx : Nat) : State :=
  let ms := fix16 rx - t1 - corr - 256 * signed 32 (s.nat pgNTM (Ntm.ASYM m))
  let prev := s.ntm.lastRx
  let s1 := s.modNtm (fun x => { x with lastSeq := some seq, sync := none, ms := some ms, lastRx := some rx, synced := s.tln.now })
  let s2 := (s1.inc pgNTM (Ntm.SYNC_RX m)).tsqPush m 0 seq 0 rx
  match s2.ntm.delay with
  | none => s2.inc pgNTM Ntm.NO_DELAY
  | some d =>
    let e : Rat := (ms : Rat) / 256 - d
    let e256 := satSigned 32 (roundOpen 412 e.num e.den)
    let s3 := ((s2.setNat pgNTM Ntm.OFFSET (unsign 32 e256)).sample 1 0 e256).ptpGained
    if s3.tlSrc = 1 then
      s3.servoEvent e (prev.map (fun p => ((fix16 rx - fix16 p.toNat : Int) : Rat) / 65536000000000))
    else s3

/-- A two-step Sync whose Follow_Up did not come (R409). -/
def State.syncMissed (s : State) : State :=
  if s.ntm.sync.isSome then (s.modNtm (fun x => { x with sync := none })).inc pgNTM Ntm.FU_MISSING else s

/-- The message comes from the parent in the domain (R409). -/
def State.fromParent (s : State) (f : List Byte) (o : Nat) : Bool :=
  ptpDomain f o == s.fld pgNTM Ntm.NTM_CTRL Ntm.DOMAIN
    && ptpSource f o == (s.nat pgNTM Ntm.PARENT_ID_HI * 2 ^ 32 + s.nat pgNTM Ntm.PARENT_ID_LO) * 65536
        + s.fld pgNTM Ntm.PARENT_PORT (15, 0)

/-- sequenceId is later than the last accepted one. -/
def State.seqLater (s : State) (n : Nat) : Bool :=
  match s.ntm.lastSeq with
  | some l => decide (0 < signed 16 (n + 65536 - l))
  | none => true

/-- A Sync received on port `m` (R400, R409). -/
def State.syncRx (s : State) (m ago : Nat) (f : List Byte) : State :=
  match ptpAt f with
  | none => s
  | some o =>
    if !s.ptpOn m then s
    else if s.settling m then s.inc pgNTM Ntm.SETTLE_DISCARDS
    else
      let rx := s.rxStamp m ago
      let good := (s.portState m == 2 || s.portState m == 3) && s.fromParent f o && s.seqLater (ptpSeq f o)
      if !good then s.inc pgNTM Ntm.SYNC_REJECTED
      else
        let s1 := s.syncMissed
        if ptpTwoStep f o then s1.modNtm (fun x => { x with sync := some ⟨ptpSeq f o, ptpCorr f o, rx⟩ })
        else s1.syncAccept m (ptpSeq f o) (ptpTime f o) (ptpCorr f o) rx

def execPtpSyncRx (m : Fin 4) (ago : Nat) (frame : List Byte) (s : State) : Host.Outcome State Fault Refusal :=
  done (if s.aclkRuns then s.syncRx m.val ago frame else s)

/-- A Follow_Up completes the Sync that waits for it. -/
def State.followUpRx (s : State) (m : Nat) (f : List Byte) : State :=
  match ptpAt f, s.ntm.sync with
  | some o, some y =>
    if s.ptpOn m && (s.portState m == 2 || s.portState m == 3) && s.fromParent f o && ptpSeq f o == y.seq then
      s.syncAccept m y.seq (ptpTime f o) (y.corr + ptpCorr f o) y.rx.toNat
    else s
  | _, _ => s

def execPtpFollowUpRx (m : Fin 4) (frame : List Byte) (s : State) : Host.Outcome State Fault Refusal :=
  done (if s.aclkRuns then s.followUpRx m.val frame else s)

/-- The mean of the latest |d - D| in whole ns, rounded up, with the fixed parts (R414). -/
def State.ptpUncert (s : State) (m : Nat) : State :=
  let l := s.ntm.devs
  let mean : Rat := if l = [] then 0 else l.foldl (· + ·) 0 / (l.length : Nat) / 256
  s.setNat pgNTM Ntm.PTP_UNCERT (min 0xFFFFFFFE (s.fld pgNTM (Ntm.ASYM_UNC m) (23, 0) + 2 + mean.ceil.toNat))

/-- A delay sample `d` (1/256 ns) updates D (R411, R414). -/
def State.delaySample (s : State) (m : Nat) (d : Rat) : State :=
  let s1 := s.sample 2 0 (satSigned 32 (roundOpen 411 d.num d.den))
  let keep (a : State) (v dev : Rat) : State :=
    ((a.modNtm (fun x => { x with delay := some v, outliers := 0, devs := (dev :: x.devs).take 16 })).setNat pgNTM
      Ntm.MEAN_DELAY (unsign 32 (satSigned 32 (roundOpen 411 v.num v.den)))).ptpUncert m
  match s1.ntm.delay with
  | none => keep s1 d 0
  | some old =>
    let dev := if d < old then old - d else d - old
    let limit := s1.fld pgNTM Ntm.DELAY_CTRL Ntm.OUTLIER_NS
    if limit ≠ 0 ∧ (limit * 256 : Nat) < dev then
      if s1.ntm.outliers = 7 then keep s1 d dev
      else (s1.modNtm (fun x => { x with outliers := x.outliers + 1 })).inc pgNTM Ntm.DELAY_OUTLIERS
    else
      let v := old + (d - old) / (2 ^ s1.fld pgNTM Ntm.DELAY_CTRL Ntm.DELAY_FILT : Nat)
      keep s1 (rhe v.num v.den) dev

/-- A Delay_Resp that matches the open Delay_Req (R410, R411). -/
def State.delayRespRx (s : State) (m : Nat) (f : List Byte) : State :=
  match ptpAt f, s.ntm.req, s.ntm.ms with
  | some o, some q, some ms =>
    let own := (s.nat pgNTM Ntm.CLOCK_ID_HI * 2 ^ 32 + s.nat pgNTM Ntm.CLOCK_ID_LO) * 65536 + m + 1
    match q.sent with
    | some t3 =>
      if s.ptpOn m && s.slavePort == some m && ptpDomain f o == s.fld pgNTM Ntm.NTM_CTRL Ntm.DOMAIN
          && beAt f (o + 44) 10 == own && ptpSeq f o == q.seq then
        let sm := ptpTime f o - fix16 t3.toNat - ptpCorr f o + 256 * signed 32 (s.nat pgNTM (Ntm.ASYM m))
        (s.modNtm (fun x => { x with req := none })).delaySample m (((ms + sm : Int) : Rat) / 512)
      else s
    | none => s
  | _, _, _ => s

def execPtpDelayRespRx (m : Fin 4) (frame : List Byte) (s : State) : Host.Outcome State Fault Refusal :=
  done (if s.aclkRuns then s.delayRespRx m.val frame else s)

/-- A Delay_Req received on a MASTER port: its answer waits to be sent, or it is dropped as excess (R403). -/
def State.delayReqRx (s : State) (m ago : Nat) (f : List Byte) : State :=
  match ptpAt f with
  | none => s
  | some o =>
    if !s.ptpOn m then s
    else if s.settling m then s.inc pgNTM Ntm.SETTLE_DISCARDS
    else if s.portState m ≠ 4 ∨ ptpDomain f o ≠ s.fld pgNTM Ntm.NTM_CTRL Ntm.DOMAIN then s
    else
      let sec := s.tln.now / (SEC * NS)
      let n := if Tab.get (fun _ => 0) s.ntm.answerSec m = sec then Tab.get (fun _ => 0) s.ntm.answered m else 0
      if 4096 ≤ n then s.inc pgNTM (Ntm.DREQ_DROP m)
      else
        let rx := s.rxStamp m ago
        let v := gridTimeVal rx
        let d := s.ptpHead m 9 54 0 (ptpCorr f o - (v.frac * 256 : Nat)) (ptpSeq f o) 3
            (unsign 8 (s.logOf m Ntm.LOG_DELAY_REQ))
          ++ beBytes 6 v.s ++ beBytes 4 v.ns ++ slice f (o + 20) 10
        (s.modNtm (fun x => { x with
          answered := Tab.set (fun _ => 0) x.answered m (n + 1)
          answerSec := Tab.set (fun _ => 0) x.answerSec m sec
          replies := x.replies ++ [(m, d)] })).tsqPush m 1 (ptpSeq f o) 0 rx

def execPtpDelayReqRx (m : Fin 4) (ago : Nat) (frame : List Byte) (s : State) : Host.Outcome State Fault Refusal :=
  done (if s.aclkRuns then s.delayReqRx m.val ago frame else s)

/-- The oldest answer is sent; a port that is MASTER no longer sends none (R405). -/
def State.delayRespSend (s : State) : State :=
  match s.ntm.replies with
  | [] => s
  | (m, d) :: t =>
    let s1 := s.modNtm (fun x => { x with replies := t })
    if s.ptpOn m && s.portState m == 4 then s1.ntmSend m 9 false none d else s1

def execPtpDelayRespSend (s : State) : Host.Outcome State Fault Refusal := done s.delayRespSend

/-- A PTP frame that NTM takes (R349). -/
def State.ntmTake (s : State) (m ago : Nat) (f : List Byte) : State :=
  match ptpAt f with
  | none => s
  | some o =>
    match ptpType f o with
    | 0 => s.syncRx m ago f
    | 1 => s.delayReqRx m ago f
    | 2 | 3 => if s.ptpOn m && s.settling m then s.inc pgNTM Ntm.SETTLE_DISCARDS else s
    | 8 => s.followUpRx m f
    | 9 => s.delayRespRx m f
    | _ => s

/-- SYNC_LOSS intervals pass without an accepted Sync (R413). -/
def State.syncLoss (s : State) : State :=
  match s.slavePort with
  | none => s
  | some m =>
    let n := max 1 (s.fld pgNTM Ntm.DELAY_CTRL Ntm.SYNC_LOSS)
    if !s.ptpValid then s
    else s.atTime (s.ntm.synced + n * logUnits (s.logOf m Ntm.LOG_SYNC) * 2 ^ 48 / LU) State.ptpLost

def execPtpSyncLoss (s : State) : Host.Outcome State Fault Refusal := done s.syncLoss

/-! ### The transparent clock (R416, R417) -/

/-- The message passes the transparent clock. -/
def State.tcActs (s : State) (f : List Byte) : Bool :=
  match ptpAt f with
  | none => false
  | some o =>
    s.active pgNTM && s.fld pgNTM Ntm.NTM_CTRL Ntm.TC_EN == 1 && decide (ptpType f o < 2)
      && (s.fld pgNTM Ntm.NTM_CTRL Ntm.TC_DOMAIN_EN == 0 || ptpDomain f o == s.fld pgNTM Ntm.NTM_CTRL Ntm.TC_DOMAIN)

/-- The egress copy of a message that leaves MAC `m` at `t`, received on `inPort` with stamp `rx`. -/
def State.tcCorrect (s : State) (m t inPort rx : Nat) (valid : Bool) (f : List Byte) : List Byte × State :=
  match ptpAt f with
  | none => (f, s)
  | some o =>
    let asym := if ptpType f o = 0 then signed 32 (s.nat pgNTM (Ntm.ASYM inPort)) else -(signed 32 (s.nat pgNTM (Ntm.ASYM m)))
    let sum := ptpCorr f o + (fix16 (s.txStamp m t) - fix16 rx) + 256 * asym
    let full := !valid || decide (sum < -(2 ^ 63 : Nat)) || decide ((2 ^ 63 : Nat) ≤ sum)
    let v : Nat := if full then 2 ^ 63 - 1 else unsign 64 sum
    let s1 := s.inc pgNTM Ntm.TC_FRAMES
    let s2 := if full then (s1.inc pgNTM Ntm.TC_SATURATED).fault pgNTM Ntm.F_TC_SAT else s1
    (keepSum f (putAt f (o + 8) (beBytes 8 v)), s2)

/-! ### Commits (R363, R425) -/

def logBad (get : Nat → Word) (m : Nat) (f : Field) (lo hi : Int) : Bool :=
  let v := signed 4 (bits (get (Ntm.PORT_CTRL m)) f)
  decide (v < lo) || decide (hi < v)

def ntmPortBad (get : Nat → Word) (m : Nat) : Bool :=
  let c := get (Ntm.PORT_CTRL m)
  let adj (o : Nat) : Bool := decide (256000000 < (signed 32 (get o).toNat).natAbs)
  let hi := get (Ntm.ANN_BASE_HI m)
  let base := (get (Ntm.ANN_BASE_LO m)).toNat / 64 * 64 + 2 ^ 32 * bits hi (7, 0)
  let len := bits hi (23, 16)
  bits c Ntm.TRANSPORT == 3 || decide (bits c Ntm.ANNOUNCE_TIMEOUT < 2) || decide (10 < bits c Ntm.ANNOUNCE_TIMEOUT)
    || logBad get m Ntm.LOG_SYNC (-7) 1 || logBad get m Ntm.LOG_ANNOUNCE (-3) 1 || logBad get m Ntm.LOG_DELAY_REQ (-3) 5
    || adj (Ntm.TX_ADJ m) || adj (Ntm.RX_ADJ m)
    || ((base != 0 || len != 0) && (decide (len < 64) || decide (192 < len) || !dramSpan base len))

/-- The pages of the NTM group, the bridge's among them, that hold an offending value. -/
def State.ntmBad (s : State) : List Nat :=
  let get := s.shd pgNTM
  let bad0 := decide (127 < bits (get Ntm.NTM_CTRL) Ntm.DOMAIN) || decide (8 < bits (get Ntm.DELAY_CTRL) Ntm.DELAY_FILT)
  let bad3 := (List.range 4).any (fun m => bits (get Br.BR_PORT) (2 * m + 1, 2 * m) == 3)
  (if bad0 then [pgNTM] else []) ++ (if (List.range 4).any (ntmPortBad get) then [pgNTM + 1] else [])
    ++ (if bad3 then [pgBR] else [])

def State.ntmCommit (s : State) : State :=
  s.commitPoint pgNTM s.ntmBad (fun a =>
    match a.slavePort with
    | some m => if bit (s.portCtrl m) 0 && !bit (a.portCtrl m) 0 then a.ptpLost else a
    | none => a)

end Sys2Proof.Machine
end

