-- ==== Sys2Proof/Machine/Streams.lean ====
section
/-!
DEFINITION. Fixtures, universes and streams (R364 to R371, R376 to R386): what FIX and PACK jobs build, and what the stream
engine sends.
-/
namespace Sys2Proof.Machine

/-! ### FIX jobs (R366 to R369) -/

def State.fixWord (s : State) (f w : Nat) : Word :=
  BitVec.ofNat 32 (s.mem_ (address8 (s.reg pgFIX Fix.FIX_BASE_LO) (s.reg pgFIX Fix.FIX_BASE_HI) + 64 * f + 4 * w) 4)
def State.tmplWord (s : State) (t w : Nat) : Word :=
  BitVec.ofNat 32 (s.mem_ (address8 (s.reg pgFIX Fix.TMPL_BASE_LO) (s.reg pgFIX Fix.TMPL_BASE_HI) + 128 * t + 4 * w) 4)
def State.univCount (s : State) : Nat := s.fld pgFIX Fix.UNIV_COUNT (15, 0)
/-- Latency class of an output universe. -/
def State.univClass (s : State) (u : Nat) : Nat :=
  s.mem_ (address8 (s.reg pgFIX Fix.UCLASS_BASE_LO) (s.reg pgFIX Fix.UCLASS_BASE_HI) + u) 1 % 16

/-- What a FIX job gathers: its writes (value + 1 by address), and how often RANGE, CANVAS_INVALID and LAT_MISMATCH apply. -/
structure FixRun where
  writes : Tab Nat
  range : Nat
  canvas : Nat
  lat : Nat
  deriving DecidableEq, Repr

/-- Channel `c` averaged over the area of a fixture, none where the snapshot or a pixel is missing (R368, R369). -/
def State.canvasValue (s : State) (w2 : Word) (frame c : Nat) : Option Nat :=
  let n := bits w2 (31, 28) + 1
  let pix := bits w2 (22, 0)
  match s.snapOf (bits w2 (27, 24)) frame with
  | none => none
  | some x =>
    if x.count < pix + n then none
    else
      let sum := (List.range n).foldl (fun a i => a + convertDepth (depthOf x.ctrl) 16 (s.ofbChannel x (pix + i) c)) 0
      some (rhe sum n).toNat

/-- One field of a fixture entry. -/
def State.fixField (s : State) (f frame epoch : Nat) (fd : Word) (r : FixRun) : FixRun :=
  let w1 := s.fixWord f 1
  let w2 := s.fixWord f 2
  let w3 := s.fixWord f 3
  let arg := bits fd (31, 16)
  let wide := bit fd 4
  let out := bits w1 (24, 16) + bits fd (15, 7)
  let univ := bits w3 (11, 0)
  let src0 := bits fd (2, 0)
  let src := if src0 = 4 then (if s.liveIn epoch univ then 1 else 0) else src0
  let slot := bits w3 (24, 16) + arg % 512
  let last := if wide then 1 else 0
  if 511 < out + last ∨ (src = 1 ∧ 511 < slot + last) then { r with range := r.range + 1 }
  else
    let half := if bit fd 3 then 512 else 0
    let input (i : Nat) : Nat := s.mem_ (s.resultAt epoch univ + half + i) 1
    let param (i : Nat) : Nat := if 32 ≤ i then Config.paramBeyond.toNat else s.mem_
      (address8 (s.reg pgFIX Fix.FIX_BASE_LO) (s.reg pgFIX Fix.FIX_BASE_HI) + 64 * f + 32 + i) 1
    let pair (g : Nat → Nat) (i : Nat) : Nat := if wide then g i * 256 + g (i + 1) else g i * 257
    let cv := s.canvasValue w2 frame (bits fd (6, 5))
    let v := match src with
      | 0 => cv.getD 0
      | 1 => pair input slot
      | 2 => pair param (arg % 32)
      | _ => arg
    let a := s.ustoreAt (bits w1 (14, 0)) frame out
    let put (t : Tab Nat) (k b : Nat) : Tab Nat := Tab.set (fun _ => 0) t k (b + 1)
    let t1 := put r.writes a (v / 256)
    { r with
      writes := if wide then put t1 (a + 1) (v % 256) else t1
      canvas := if src = 0 ∧ cv = none then r.canvas + 1 else r.canvas }

/-- A bit range of the entry or the template that must be 0. -/
def State.fixReserved (s : State) (f : Nat) : Bool :=
  (s.fixWord f 0 &&& 0xFFFE0000 != 0) || (s.fixWord f 1 &&& 0xFE008000 != 0) || (s.fixWord f 2 &&& 0x00800000 != 0)
    || (s.fixWord f 3 &&& 0xFE00F000 != 0) || (List.range 4).any (fun w => s.fixWord f (4 + w) != 0)

/-- The unused bits of ARG that must be 0, by source (R367). -/
def argUnused (fd : Word) : Bool :=
  let arg := bits fd (31, 16)
  match bits fd (2, 0) with
  | 0 => arg != 0
  | 1 | 4 => decide (512 ≤ arg)
  | 2 => decide (32 ≤ arg)
  | _ => false

/-- One fixture entry. -/
def State.fixEntry (s : State) (f frame epoch : Nat) (r : FixRun) : FixRun :=
  let w0 := s.fixWord f 0
  let t := bits w0 (11, 0)
  let u := bits (s.fixWord f 1) (14, 0)
  let n := bits (s.tmplWord t 0) (4, 0)
  let fds := (List.range n).map (fun i => s.tmplWord t (i + 1))
  if !bit w0 16 then r
  else if s.fld pgFIX Fix.TMPL_COUNT (12, 0) ≤ t ∨ s.univCount ≤ u ∨ n = 0 ∨ s.fixReserved f = true
      ∨ s.tmplWord t 0 &&& 0xFFFFFFE0 ≠ 0 ∨ fds.any (fun d => decide (4 < bits d (2, 0)) || argUnused d) = true then
    { r with range := r.range + 1 }
  else
    let r1 := fds.foldl (fun a d => s.fixField f frame epoch d a) r
    if bits w0 (15, 12) = s.univClass u then r1 else { r1 with lat := r1.lat + 1 }

/-- A FIX job: the job with its writes, or RANGE (R222, R369). -/
def State.fixRun (s : State) (j : Job) : State × Job :=
  let first := j.arg 0
  let n := j.arg 1
  if s.fld pgFIX Fix.FIX_COUNT (17, 0) < first + n then (s, { j with kind := some 1 })
  else
    let r := (List.range n).foldl (fun a i => s.fixEntry (first + i) j.frame j.epoch a) ⟨[], 0, 0, 0⟩
    let note (a : State) (k reg fb : Nat) : State := if k = 0 then a else (a.addReg pgFIX reg k).fault pgFIX fb
    let s1 := note s r.range Fix.RANGE_COUNT Fix.F_FIX_RANGE
    let s2 := note s1 r.canvas Fix.CANVAS_COUNT Fix.F_CANVAS_INVALID
    (note s2 r.lat Fix.LAT_MISMATCHES Fix.F_LAT_MISMATCH, { j with sums := r.writes })

/-! ### Stream entries (R376, R377, R385) -/

/-- An entry as its words give it. -/
structure Entry where
  w : List Word
  deriving DecidableEq, Repr

def State.entryOf (s : State) (e : Nat) : Entry := ⟨(List.range 16).map (s.streamWord e)⟩

def Entry.word (x : Entry) (k : Nat) : Word := x.w.getD k 0
def Entry.valid (x : Entry) : Bool := bit (x.word 0) 0
def Entry.loram (x : Entry) : Bool := bit (x.word 0) 1
def Entry.mac (x : Entry) : Nat := bits (x.word 0) (3, 2)
def Entry.swath (x : Entry) : Nat := bits (x.word 0) (15, 12)
def Entry.lat (x : Entry) : Nat := bits (x.word 0) (19, 16)
def Entry.hdrAt (x : Entry) : Nat := (x.word 1).toNat / 64 * 64 + 2 ^ 32 * bits (x.word 2) (7, 0)
def Entry.hdrLen (x : Entry) : Nat := bits (x.word 2) (15, 8)
def Entry.univBase (x : Entry) : Nat := bits (x.word 3) (15, 0)
def Entry.outFirst (x : Entry) : Nat := bits (x.word 3) (30, 16)
def Entry.format (x : Entry) : Nat := bits (x.word 4) (27, 24)
def Entry.count (x : Entry) : Nat := bits (x.word 5) (23, 0)
def Entry.segUnits (x : Entry) : Nat := bits (x.word 6) (15, 0)
def Entry.sync (x : Entry) : Nat := if x.loram then 0 else bits (x.word 5) (15, 0)
def Entry.dataLead (x : Entry) : Nat := bits (x.word 7) (26, 0)
def Entry.cell (x : Entry) (frame i segs : Nat) : Nat := bits (x.word 8) (19, 0) + segs * (frame % 2) + i

/-- SEGS of the entry. -/
def Entry.segs (x : Entry) : Nat := if x.loram then ceilDiv x.count x.segUnits else bits (x.word 4) (15, 0)

/-- Bytes of a unit of a Loram payload, 0 for a format not used. -/
def unitBytes (format : Nat) : Nat :=
  match format with
  | 0 => 3
  | 1 => 4
  | 2 => 6
  | 3 => 8
  | 8 => 512
  | _ => 0

/-- A field of the entry holds an unused value. -/
def Entry.unusable (x : Entry) : Bool :=
  !([42, 46, 62, 66].contains x.hdrLen)
    || (if x.loram then unitBytes x.format == 0 || x.segUnits == 0
        else bits (x.word 4) (25, 16) == 0 || decide (512 < bits (x.word 4) (25, 16)) || decide (200 < bits (x.word 5) (23, 16)))

/-- An E1.31 universe number lies outside 1 to 63,999; SYNC_UNIV 0 means that no synchronisation is sent (R376, R377). -/
def Entry.badUniverse (x : Entry) : Bool :=
  !x.loram && (decide (x.univBase < 1) || decide (63999 < x.univBase + x.segs - 1) || decide (63999 < x.sync))

def State.stageAt (s : State) (c : Nat) : Nat := address8 (s.reg pgSTR Str.STAGE_BASE_LO) (s.reg pgSTR Str.STAGE_BASE_HI) + 2048 * c
def State.sourceName (s : State) : List Byte := s.bytes (address8 (s.reg pgSTR Str.NAME_BASE_LO) (s.reg pgSTR Str.NAME_BASE_HI)) 64

/-- The header template of an entry. -/
def State.template (s : State) (x : Entry) : List Byte := s.bytes x.hdrAt x.hdrLen

/-- A payload under the template, with lengths, the IPv4 identification raised by `i` and, with MCAST, the address of a universe
(R378). -/
def State.underTemplate (s : State) (x : Entry) (i : Nat) (univ : Option Nat) (p : List Byte) : List Byte :=
  let h := s.template x
  match parseUdp h with
  | none => h ++ p
  | some u =>
    let f0 := h ++ p
    let f1 := if u.v6 then f0 else putAt f0 (u.ip + 4) (beBytes 2 (beAt h (u.ip + 4) 2 + i))
    let f2 := match univ with
      | some v => if bit (x.word 0) 10 then putMcast f1 u.v6 u.ip v else f1
      | none => f1
    fixLengths f2 u.v6 u.ip u.udp

/-- Both checksums are completed as a frame is sent (R378). -/
def completeSums (f : List Byte) : List Byte :=
  match parseUdp f with
  | some u => fixSums f u.v6 u.ip u.udp true
  | none => f

/-- The bytes of one pixel in a Loram payload (R385). -/
def State.loramPixel (s : State) (format : Nat) (x : Snap) (p : Nat) : List Byte :=
  let n := if format = 1 ∨ format = 3 then 4 else 3
  let d := if format < 2 then 8 else 16
  (List.range n).flatMap (fun c => beBytes (d / 8) (convertDepth (depthOf x.ctrl) d (s.ofbChannel x p c)))

/-- The units of segment `i` for content `f`, none where the raster cannot be read. -/
def State.loramUnits (s : State) (x : Entry) (i f : Nat) : Option (List Byte) :=
  let first := i * x.segUnits
  let n := min x.segUnits (x.count - first)
  if x.format = 8 then
    some ((List.range n).flatMap (fun k => s.bytes (s.ustoreAt (x.outFirst + first + k) f 0) 512))
  else
    match s.snapOf (bits (x.word 0) (23, 20)) f with
    | none => none
    | some sn =>
      let pix := bits (x.word 4) (22, 0) + first
      if sn.count < pix + n then none else some ((List.range n).flatMap (fun k => s.loramPixel x.format sn (pix + k)))

/-- The Loram header as PACK writes it: the fields of a start are 0 (R384). -/
def State.loramHead (s : State) (x : Entry) (i len : Nat) : List Byte :=
  let total := x.count * unitBytes x.format
  let last := decide (i + 1 = x.segs)
  let origin := if s.dev.roleB then 1 else 0
  beBytes 2 0x4C52 ++ beBytes 1 1 ++ beBytes 1 (if last then 128 else 0) ++ beBytes 2 x.univBase ++ beBytes 1 x.format
    ++ beBytes 1 origin ++ beBytes 4 0 ++ List.replicate 12 0 ++ beBytes 4 (s.nat pgSTR (Str.LAT_NS x.lat)) ++ beBytes 4 total
    ++ beBytes 4 (i * x.segUnits * unitBytes x.format) ++ beBytes 2 i ++ beBytes 2 len

/-- The frame of segment `i` for content `f`, none where it cannot be built. -/
def State.packFrame (s : State) (x : Entry) (i f : Nat) : Option (List Byte) :=
  if x.loram then
    (s.loramUnits x i f).map (fun d => s.underTemplate x i none (s.loramHead x i d.length ++ d))
  else
    let univ := x.univBase + i
    let slots := s.bytes (s.ustoreAt (x.outFirst + i) f 0) (bits (x.word 4) (25, 16))
    if univ < 1 ∨ 63999 < univ then none
    else
      some (s.underTemplate x i (some univ)
        (e131Data s.ownCid s.sourceName (bits (x.word 5) (23, 16)) x.sync 0 0 univ ((0 : Byte) :: slots)))

/-- A PACK job: the state with its cell written, and its fault kind (R377). -/
def State.strPack (s : State) (e i f : Nat) : State × Option Nat :=
  let x := s.entryOf e
  let bad := ((s.inc pgSTR Str.RANGE_COUNT).fault pgSTR Str.F_STR_RANGE, some 1)
  if x.valid = false ∨ x.unusable = true ∨ x.segs ≤ i ∨ x.badUniverse = true then bad
  else
    match s.packFrame x i f with
    | none => bad
    | some d =>
      if s.maxFrame x.mac < d.length + 4 ∨ 2044 < d.length then bad
      else
        let a := s.stageAt (x.cell f i x.segs)
        let s1 := (s.hwBytes a d).hwMem (a + 2044) 4 d.length
        if !x.loram && s1.univClass (x.outFirst + i) != x.lat then
          ((s1.inc pgSTR Str.LAT_MISMATCHES).fault pgSTR Str.F_LAT_MISMATCH, none)
        else (s1, none)

/-! ### Sending (R379 to R383) -/

/-- The frame in a cell, with the fields of a start: N, the burst's launch, REPEAT and Stream_Terminated (R380, R382). -/
def State.cellFrame (s : State) (x : Entry) (g i n launch : Nat) (rep term : Bool) : List Byte :=
  let a := s.stageAt (x.cell g i x.segs)
  let f := s.bytes a (min 2044 (s.mem_ (a + 2044) 4))
  let o := x.hdrLen
  let f1 := if x.loram then
      let flags := beAt f (o + 3) 1
      putAt (putAt (putAt f (o + 8) (beBytes 4 n)) (o + 12) (gridTimeVal launch).wireBytes) (o + 3)
        (beBytes 1 (flags % 64 + flags / 128 * 128 + (if rep then 64 else 0)))
    else
      let f0 := putAt f (o + 111) (beBytes 1 n)
      if term then putAt f0 (o + 112) (beBytes 1 0x40) else f0
  completeSums f1

/-- Every segment of content `g` has been packed (R381). -/
def State.strPacked (s : State) (e g : Nat) : Bool :=
  ((s.portOf (keySTR e)).fill (g % 2)).any (fun f => f.frame == g && decide ((s.entryOf e).segs ≤ f.count))

/-- The underrun check of a launch: the content to send, if any. -/
def State.strCheck (s : State) (e : Nat) (l : Launch) : State × Option Nat :=
  if s.strPacked e l.frame then (s, some l.frame)
  else
    ((s.inc pgSTR Str.UNDERRUNS).fault pgSTR Str.F_UNDERRUN,
      if bit (s.streamWord e 0) 24 then none else (s.portOf (keySTR e)).emitted)

/-- When the check of a launch is due (R381). -/
def State.strCheckAt (s : State) (e : Nat) (l : Launch) : Nat :=
  timeOfUnits (l.at_ - s.placeLead (s.entryOf e).mac - 2000 * LU)

/-- The entry sends: its engine is active, it is VALID and its Swath shows frames; whether the device is ACTIVE is judged as a frame of
E1.31 starts (`State.muted`, R379; log entry 143). -/
def State.strSends (s : State) (e swath : Nat) : Bool :=
  let x := s.entryOf e
  s.active pgSTR && x.valid && !s.fallback && (s.swathState swath == 1 || s.swathState swath == 2)

def State.strUnderrun (s : State) (e : Nat) : State :=
  match earliest ((s.launches (keySTR e)).filter (fun l => l.choice.isNone)) with
  | none => s
  | some l =>
    s.atTime (s.strCheckAt e l) (fun a =>
      if a.strSends e l.swath then
        let r := a.strCheck e l
        r.1.chooseLaunch (keySTR e) l r.2
      else a.chooseLaunch (keySTR e) l none)

def execStrUnderrunCheck (e : Fin 4096) (s : State) : Host.Outcome State Fault Refusal := done (s.strUnderrun e.val)

/-- A frame or burst of STR. -/
def strUnit (x : Entry) (e : Nat) (launch : Option Nat) (fs : List (List Byte)) : TxUnit :=
  { TxUnit.plain 4 (bits (x.word 0) (8, 6)) e (bit (x.word 0) 5) fs with
    launch := launch, dropLate := bit (x.word 0) 9, whenActive := !x.loram }

/-- The synchronisation packet of an entry. -/
def State.syncFrame (s : State) (x : Entry) (n : Nat) : List Byte :=
  completeSums (s.underTemplate x 0 (some x.sync) (e131Sync s.ownCid n x.sync))

/-- The burst of launch `l` showing content `g`, and its synchronisation packet, are queued. -/
def State.strQueue (s : State) (e : Nat) (l : Launch) (g : Nat) : State :=
  let x := s.entryOf e
  let rep := l.repeated || g != l.frame
  let fs := (List.range x.segs).map (fun i => s.cellFrame x g i l.count l.at_ rep false)
  let s1 := (s.macQueue x.mac (strUnit x e (some l.at_) fs)).setPort (keySTR e) { s.portOf (keySTR e) with emitted := some g }
  if x.sync = 0 then s1
  else s1.macQueue x.mac (strUnit x e (some (l.at_ + x.dataLead * LU)) [s.syncFrame x l.count])

def State.strLaunch (s : State) (e : Nat) : State :=
  let s0 := if (earliest (s.launches (keySTR e))).any (fun l => l.choice.isNone) then s.strUnderrun e else s
  match earliest (s0.launches (keySTR e)) with
  | none => s0
  | some l =>
    s0.atTime (s0.strCheckAt e l) (fun a =>
      let a1 := a.dropLaunch (keySTR e) l
      match l.choice with
      | some (some g) => if a.strSends e l.swath then a1.strQueue e l g else a1
      | _ => a1)

def execStreamLaunch (e : Fin 4096) (s : State) : Host.Outcome State Fault Refusal := done (s.strLaunch e.val)

/-- Entry of Swath `k` to STOPPED on the ACTIVE device: three sends with Stream_Terminated follow (R382). -/
def State.strStopped (s : State) (k : Nat) : State :=
  if s.stileHeld && s.active pgSTR then
    { s with str := { s.str with term := s.str.term.filter (fun t => t.1 != k) ++ [(k, 3, s.tln.now)] } }
  else s

/-- Every universe of an E1.31 entry with Stream_Terminated and its last content. -/
def State.terminateEntry (s : State) (e : Nat) : State :=
  let x := s.entryOf e
  match x.loram, (s.portOf (keySTR e)).emitted with
  | false, some g =>
    let n := s.nat (pgSWT x.swath) Swt.FRAME_COUNT
    s.macQueue x.mac (strUnit x e none ((List.range x.segs).map (fun i => s.cellFrame x g i n 0 false true)))
  | _, _ => s

def State.strTerminate (s : State) (k : Nat) : State :=
  match s.str.term.find? (fun t => t.1 == k) with
  | none => s
  | some (_, n, t) =>
    s.atTime t (fun a =>
      let rest := a.str.term.filter (fun x => x.1 != k)
      let a1 := { a with str := { a.str with term := if 1 < n then rest ++ [(k, n - 1, a.tln.now + 1000000 * NS)] else rest } }
      if a1.stileHeld then (a1.streamsOf k).foldl State.terminateEntry a1 else a1)

def execStreamTerminateSend (k : Fin 16) (s : State) : Host.Outcome State Fault Refusal := done (s.strTerminate k.val)

def insertNat (v : Nat) : List Nat → List Nat
  | [] => [v]
  | a :: t => if v < a then v :: a :: t else if v = a then a :: t else a :: insertNat v t

def sortNats (l : List Nat) : List Nat := l.foldr insertNat []

def pagesOf (n : Nat) : List Nat → Nat → List (List Nat)
  | _, 0 => []
  | [], _ => []
  | l, k + 1 => l.take n :: pagesOf n (l.drop n) k

/-- Discovery on one MAC (R383). -/
def State.discoverFor (s : State) (m : Nat) (es : List Nat) : State :=
  match es with
  | [] => s
  | e :: _ =>
    let x := s.entryOf e
    let univs := sortNats (es.flatMap (fun e =>
      let y := s.entryOf e
      (List.range y.segs).map (y.univBase + ·)))
    let pages := pagesOf 512 univs univs.length
    let fs := (List.zipIdx pages).map (fun p =>
      completeSums (s.underTemplate x 0 (some 64214) (e131Discovery s.ownCid s.sourceName p.2 (pages.length - 1) p.1)))
    s.macQueue m { TxUnit.plain 4 0 e false fs with whenActive := true }

def State.discoverMac (s : State) (m : Nat) : State :=
  s.discoverFor m ((List.range 4096).filter (fun e =>
    let x := s.entryOf e
    x.valid && !x.loram && bit (x.word 0) 11 && x.mac == m))

def State.discover (s : State) : State :=
  if !s.active pgSTR || !s.flag pgSTR Str.STR_CTRL 0 || !s.stileHeld then s
  else
    let f (a : State) : State :=
      (List.range 4).foldl State.discoverMac { a with str := { a.str with discAt := some a.tln.now } }
    match s.str.discAt with
    | none => f s
    | some t => s.atTime (t + 10 * SEC * NS) f

def execE131DiscoverySend (s : State) : Host.Outcome State Fault Refusal := done s.discover

/-! ### Commits (R364, R391 to R394) -/

/-- R121's checks of a base register against its size; a structure of no bytes has nothing to check. -/
def baseBad (base size : Nat) : Bool := decide (size ≠ 0) && !dramSpan base size

def State.fixBad (s : State) : List Nat :=
  let get := s.shd pgFIX
  let n (o : Nat) (f : Field) : Nat := bits (get o) f
  let univ := n Fix.UNIV_COUNT (15, 0)
  let merge := address8 (get Fix.MERGE_BASE_LO) (get Fix.MERGE_BASE_HI)
  let bad0 := baseBad (address8 (get Fix.FIX_BASE_LO) (get Fix.FIX_BASE_HI)) (64 * n Fix.FIX_COUNT (17, 0))
    || baseBad (address8 (get Fix.TMPL_BASE_LO) (get Fix.TMPL_BASE_HI)) (128 * n Fix.TMPL_COUNT (12, 0))
    || baseBad (address8 (get Fix.UCLASS_BASE_LO) (get Fix.UCLASS_BASE_HI)) univ
    || baseBad (address8 (get Fix.USTORE_BASE_LO) (get Fix.USTORE_BASE_HI)) (1536 * univ)
    || decide (131072 < n Fix.FIX_COUNT (17, 0)) || decide (4096 < n Fix.TMPL_COUNT (12, 0)) || decide (32768 < univ)
  let base := n Fix.IN_RANGE (15, 0)
  let bad1 := baseBad merge (20 * 2 ^ 20) || decide (merge % 2 ^ 20 ≠ 0) || decide (base < 1) || decide (63999 < base)
    || decide (4096 < n Fix.IN_RANGE (28, 16)) || decide (n Fix.SRC_LOSS_MS (12, 0) < 100)
    || decide (8000 < n Fix.SRC_LOSS_MS (12, 0))
  (if bad0 then [pgFIX] else []) ++ (if bad1 then [pgFIX + 1] else [])

def State.fixCommit (s : State) : State := s.commitPoint pgFIX s.fixBad id

/-- The stage cells in use by the stream table at `base`: up to the last cell of each VALID entry, two frames of SEGS cells (R364,
R377). -/
def State.cellsInUse (s : State) (base : Nat) : Nat :=
  (List.range 4096).foldl (fun n e =>
    let word (w : Nat) : Word := BitVec.ofNat 32 (s.mem_ (base + 64 * e + 4 * w) 4)
    let x : Entry := ⟨(List.range 16).map word⟩
    if bit (word 0) 0 then max n (bits (x.word 8) (19, 0) + 2 * x.segs) else n) 0

def State.strBad (s : State) : List Nat :=
  let get := s.shd pgSTR
  let table := address8 (get Str.STREAM_BASE_LO) (get Str.STREAM_BASE_HI)
  let bad0 := baseBad table (64 * 4096)
    || baseBad (address8 (get Str.STAGE_BASE_LO) (get Str.STAGE_BASE_HI)) (2048 * s.cellsInUse table)
    || baseBad (address8 (get Str.NAME_BASE_LO) (get Str.NAME_BASE_HI)) 64
  let bad1 := (List.range 16).any (fun c => emitBad get (Str.LAT_NS c) (Str.LAT_FRAC c))
  (if bad0 then [pgSTR] else []) ++ (if bad1 then [pgSTR + 1] else [])

def State.strCommit (s : State) : State := s.commitPoint pgSTR s.strBad id

end Sys2Proof.Machine
end

