-- ==== Sys2Proof/Machine/Ingest.lean ====
section
/-!
DEFINITION. The ingest engine (R387 to R390, R127): acceptance, ST 2110-20 and Loram packets, writes into layer buffers, and the
end of a frame.
-/
namespace Sys2Proof.Machine

def State.ingOf (s : State) (i : Nat) : IngState := Tab.get (fun _ => IngState.init) s.ing i
def State.setIng (s : State) (i : Nat) (v : IngState) : State := { s with ing := Tab.set (fun _ => IngState.init) s.ing i v }

def State.ingMode (s : State) (i : Nat) : Word := s.reg pgING (Ing.ING_MODE i)
def State.ingLoram (s : State) (i : Nat) : Bool := bit (s.ingMode i) 1
def State.ingFormat (s : State) (i : Nat) : Nat := bits (s.ingMode i) (6, 4)
def State.ingLayer (s : State) (i : Nat) : Nat := bits (s.ingMode i) (15, 12)
def State.ingWidth (s : State) (i : Nat) : Nat := s.fld pgING (Ing.ING_SIZE i) (13, 0) + 1
def State.ingHeight (s : State) (i : Nat) : Nat := s.fld pgING (Ing.ING_SIZE i) (29, 16) + 1

/-- Buffer of ring position `r` (R393). -/
def State.ingBuf (s : State) (i r : Nat) : Nat :=
  match r with
  | 0 => s.fld pgING (Ing.ING_BUFS i) (5, 0)
  | 1 => s.fld pgING (Ing.ING_BUFS i) (13, 8)
  | 2 => s.fld pgING (Ing.ING_BUFS2 i) (5, 0)
  | _ => s.fld pgING (Ing.ING_BUFS2 i) (13, 8)

/-! ### Packets -/

/-- An RTP payload: marker, payload type, extended sequence number, timestamp, SSRC, row headers (row, offset, bytes, field bit) and
the samples. None where the headers do not fit or are more than three. -/
structure Rtp where
  marker : Bool
  pt : Nat
  seq : Nat
  stamp : Nat
  ssrc : Nat
  rows : List (Nat × Nat × Nat × Bool)
  data : List Byte
  deriving DecidableEq, Repr

/-- The sample row data headers from offset `o` on, and where the samples begin; none after `fuel` of them. -/
def rowHeaders (p : List Byte) (o : Nat) : Nat → Option (List (Nat × Nat × Nat × Bool) × Nat)
  | 0 => none
  | fuel + 1 =>
    let len := beAt p o 2
    let row := beAt p (o + 2) 2
    let off := beAt p (o + 4) 2
    let h := (row % 32768, off % 32768, len, row.testBit 15)
    if off.testBit 15 then (rowHeaders p (o + 6) fuel).map (fun r => (h :: r.1, r.2)) else some ([h], o + 6)

def parseRtp (p : List Byte) : Option Rtp :=
  let o := 12 + 4 * (beAt p 0 1 % 16)
  (rowHeaders p (o + 2) 3).map (fun r =>
    { marker := (beAt p 1 1).testBit 7, pt := beAt p 1 1 % 128, seq := beAt p o 2 * 65536 + beAt p 2 2, stamp := beAt p 4 4,
      ssrc := beAt p 8 4, rows := r.1, data := p.drop r.2 })

/-- Stream `i` takes the frame (R387, R389, R390). -/
def State.ingMatches (s : State) (m i : Nat) (f : List Byte) : Bool :=
  let mode := s.ingMode i
  match parseUdp f with
  | none => false
  | some u =>
    let p := udpPayload f u
    bit mode 0 && bits mode (3, 2) == m && u.dport == s.fld pgING (Ing.ING_PORT i) (15, 0)
      && (if s.ingLoram i then
            beAt p 0 2 == 0x4C52 && beAt p 4 2 == s.fld pgING (Ing.ING_PORT i) (31, 16)
          else
            let ssrc := s.nat pgING (Ing.ING_PT_SSRC i)
            !u.v6 && u.dst4 == s.nat pgING (Ing.ING_DST_IP i)
              && beAt p 1 1 % 128 == s.fld pgING (Ing.ING_BUFS i) (22, 16) && (ssrc == 0 || beAt p 8 4 == ssrc))

def State.ingStream (s : State) (m : Nat) (f : List Byte) : Option Nat := (List.range 8).find? (fun i => s.ingMatches m i f)

/-! ### Texels (R388, R389) -/

/-- The sample of 10 bits widened to 16. -/
def widen10 (v : Nat) : Nat := v * 64 + v / 16

/-- A big-endian group of `k` samples of 10 bits. -/
def tens (d : List Byte) (k : Nat) : List Nat := (List.range k).map (fun i => beVal d / 2 ^ (10 * (k - 1 - i)) % 1024)

/-- R, G, B of a pixel of YCbCr at 10 bits. -/
def toRgb (y cb cr : Nat) : List Nat :=
  let y1 : Int := (y : Int) - 64
  let b : Int := (cb : Int) - 512
  let r : Int := (cr : Int) - 512
  [rhe (9539 * y1 + 14686 * r) 8192, rhe (9539 * y1 - 1747 * b - 4366 * r) 8192, rhe (9539 * y1 + 17305 * b) 8192].map
    (fun v => (clampInt 0 1023 v).toNat)

/-- Bytes and pixels of a pixel group of an ST 2110-20 format. -/
def pgroup (format : Nat) : Nat × Nat :=
  match format with
  | 0 => (3, 1)
  | 1 => (15, 4)
  | _ => (5, 2)

/-- The texels of a pixel group as stored. -/
def groupTexels (format : Nat) (d : List Byte) : List (List Byte) :=
  let wide (l : List Nat) : List Byte := (l ++ [65535]).flatMap (leBytes 2)
  match format with
  | 0 => [d ++ [0xFF]]
  | 1 =>
    let v := (tens d 12).map widen10
    (List.range 4).map (fun i => wide (slice3 v (3 * i)))
  | _ =>
    let v := tens d 4
    let px (k : Nat) : List Byte := wide ((toRgb (v.getD k 0) (v.getD 0 0) (v.getD 2 0)).map widen10)
    [px 1, px 3]
where
  slice3 (v : List Nat) (o : Nat) : List Nat := [v.getD o 0, v.getD (o + 1) 0, v.getD (o + 2) 0]

/-- The texel of a unit of an inbound Loram stream as stored (R389). -/
def loramTexel (format : Nat) (d : List Byte) : List Byte :=
  match format with
  | 0 => d ++ [0xFF]
  | 1 => d
  | 2 => (leBytes 2 (beAt d 0 2)) ++ (leBytes 2 (beAt d 2 2)) ++ (leBytes 2 (beAt d 4 2)) ++ [0xFF, 0xFF]
  | _ => (List.range 4).flatMap (fun c => leBytes 2 (beAt d (2 * c) 2))

/-- The buffer FORMAT that the stream needs: 0 RGBA16, 1 RGBA8. -/
def State.ingNeeds (s : State) (i : Nat) : Nat :=
  let f := s.ingFormat i
  if s.ingLoram i then (if f < 2 then 1 else 0) else if f = 0 then 1 else 0

/-- Texel (x, y) of buffer `b`; pixels outside the frame are not written. -/
def State.ingPut (s : State) (i b x y : Nat) (t : List Byte) : State :=
  if x < s.ingWidth i ∧ y < s.ingHeight i then
    let base := address8 (s.bufReg b Cmp.BUF_BASE_LO) (s.bufReg b Cmp.BUF_BASE_HI)
    s.hwBytes (base + y * bits (s.bufReg b Cmp.BUF_STRIDE) (17, 0) + x * t.length) t
  else s

def State.putTexels (s : State) (i b y : Nat) : Nat → List (List Byte) → State
  | _, [] => s
  | x, t :: l => State.putTexels (s.ingPut i b x y t) i b y (x + 1) l

/-- Pixel groups of one row. -/
def State.putGroups (s : State) (i b y : Nat) : Nat → List Byte → Nat → State
  | _, _, 0 => s
  | x, d, n + 1 =>
    let g := pgroup (s.ingFormat i)
    State.putGroups (s.putTexels i b y x (groupTexels (s.ingFormat i) (slice d 0 g.1))) i b y (x + g.2) (d.drop g.1) n

/-- The rows of a packet. -/
def State.putRows (s : State) (i b : Nat) : List (Nat × Nat × Nat × Bool) → List Byte → State
  | [], _ => s
  | (y, x, n, _) :: t, d =>
    State.putRows (s.putGroups i b y x (d.take n) (n / (pgroup (s.ingFormat i)).1)) i b t (d.drop n)

/-- The units of a Loram segment, from unit `p` on. -/
def State.putUnits (s : State) (i b size : Nat) : Nat → List Byte → Nat → State
  | _, _, 0 => s
  | p, d, n + 1 =>
    let w := s.ingWidth i
    State.putUnits (s.ingPut i b (p % w) (p / w) (loramTexel (s.ingFormat i) (slice d 0 size))) i b size (p + 1) (d.drop size) n

/-! ### Frames (R390) -/

/-- The buffer that the next frame of stream `i` goes to, and whether it can hold it. -/
def State.ingTarget (s : State) (i : Nat) : Nat × Bool :=
  let size := s.fld pgING (Ing.ING_BUFS i) (31, 30) + 1
  let named := bits (s.layerReg (s.ingLayer i) Cmp.LAYER_BUF) (5, 0)
  let b := match (List.range size).find? (fun r => s.ingBuf i r == named) with
    | some r => s.ingBuf i ((r + 1) % size)
    | none => s.ingBuf i 0
  let dim := s.bufReg b Cmp.BUF_DIM
  (b, bit (s.bufReg b Cmp.BUF_CTRL) 0 && bits (s.bufReg b Cmp.BUF_CTRL) (3, 2) == s.ingNeeds i
    && decide (s.ingWidth i ≤ bits dim (13, 0) + 1) && decide (s.ingHeight i ≤ bits dim (29, 16) + 1))

def State.ingDiscard (s : State) (i : Nat) : State := s.inc pgING (Ing.DISCARDS i)
def State.ingFormatErr (s : State) (i : Nat) : State := (s.ingDiscard i).fault pgING Ing.F_FORMAT_ERR

/-- A frame opens. -/
def State.ingOpen (s : State) (i stamp : Nat) : State :=
  let t := s.ingTarget i
  let s1 := s.setIng i { s.ingOf i with opened := true, stamp := stamp, bad := !t.2, buf := t.1, gap := false, segs := [], bytes := 0 }
  if t.2 then s1 else s1.ingFormatErr i

/-- The descriptor of an INGEST job (R201); D3 carries the stamp of the frame. -/
def ingestDesc (layer buf stream stamp : Nat) : List Word :=
  [4, 0, 0, BitVec.ofNat 32 stamp, BitVec.ofNat 32 (layer + 256 * buf + 65536 * stream), 0, 0, 0]

/-- The open frame ends: an INGEST job in the region of the layer's CMP, unless the frame is discarded. -/
def State.ingEnd (s : State) (i : Nat) (short : Bool) : State :=
  let x := s.ingOf i
  let s1 := s.setIng i { x with opened := false, doneFrame := if s.ingLoram i then some x.stamp else x.doneFrame }
  let s2 := if short then (s1.inc pgING (Ing.INCOMPLETES i)).fault pgING Ing.F_INCOMPLETE else s1
  if x.bad then s2
  else if short && bit (s.ingMode i) 8 then s2.ingDiscard i
  else (s2.submit (s.ingLayer i / 4) (ingestDesc (s.ingLayer i) x.buf i x.stamp) .ingest s2.mergeEpoch).1

/-- The packet is older than one already taken: its extended sequence lies at or before the last one. -/
def State.seqBack (s : State) (i seq : Nat) : Bool :=
  match (s.ingOf i).seq with
  | some l => decide (2 ^ 31 ≤ (seq + 2 ^ 32 - (l + 1)) % 2 ^ 32)
  | none => false

/-- Packets missing before extended sequence number `seq`. -/
def State.ingGap (s : State) (i seq : Nat) : State :=
  let x := s.ingOf i
  let lost := match x.seq with
    | some l => if s.seqBack i seq then 0 else (seq + 2 ^ 32 - (l + 1)) % 2 ^ 32
    | none => 0
  let s1 := s.setIng i { x with seq := if s.seqBack i seq then x.seq else some seq, gap := x.gap || lost != 0 }
  if lost = 0 then s1 else (s1.addReg pgING (Ing.LOST_PKTS i) lost).fault pgING Ing.F_PKT_LOSS

/-- An ST 2110-20 packet of stream `i`. -/
def State.ingRtp (s : State) (i : Nat) (p : List Byte) : State :=
  match parseRtp p with
  | none => s.ingFormatErr i
  | some r =>
    if 2 < s.ingFormat i ∨ r.rows.any (fun h => h.2.2.2) = true then s.ingFormatErr i
    else
      let x := s.ingOf i
      let s1 := if x.opened && x.stamp != r.stamp then s.ingEnd i true else s
      let s2 := if (s1.ingOf i).opened then s1 else s1.ingOpen i r.stamp
      let s3 := s2.ingGap i r.seq
      let y := s3.ingOf i
      let s4 := if y.bad then s3 else s3.putRows i y.buf r.rows r.data
      if r.marker then s4.ingEnd i (s4.ingOf i).gap else s4

/-- Frame `a` lies later than `b` modulo 2^32 (R61). -/
def laterThan (a b : Nat) : Bool := decide (0 < signed 32 ((a + 2 ^ 32 - b) % 2 ^ 32)) || (a + 2 ^ 32 - b) % 2 ^ 32 == 2 ^ 31

/-- A Loram segment of stream `i` (R386, R389). -/
def State.ingSegment (s : State) (i : Nat) (p : List Byte) : State :=
  let fmt := beAt p 6 1
  let frame := beAt p 8 4
  let x := s.ingOf i
  if 3 < fmt ∨ fmt ≠ s.ingFormat i then s.ingFormatErr i
  else if x.doneFrame.any (fun d => !laterThan frame d) = true ∨ (x.opened = true ∧ laterThan x.stamp frame = true) then s
  else
    let s1 := if x.opened && x.stamp != frame then s.ingEnd i true else s
    let s2 := if (s1.ingOf i).opened then s1 else s1.ingOpen i frame
    let y := s2.ingOf i
    let seg := beAt p 36 2
    let len := beAt p 38 2
    let size := unitBytes fmt
    if y.segs.contains seg then s2
    else
      let s3 := s2.setIng i { y with segs := seg :: y.segs, bytes := y.bytes + len }
      let s4 := if y.bad then s3 else s3.putUnits i y.buf size (beAt p 32 4 / size) (slice p 40 len) (len / size)
      if beAt p 28 4 ≤ y.bytes + len then s4.ingEnd i false else s4

/-! ### The ingest queue (R127, R349, R482) -/

/-- The frame that a packet of stream `i` writes, by its stamp; none for a packet that writes nothing. -/
def State.ingFrameOf (s : State) (i : Nat) (p : List Byte) : Option Nat :=
  if s.ingLoram i then
    let fmt := beAt p 6 1
    let frame := beAt p 8 4
    let x := s.ingOf i
    if 3 < fmt ∨ fmt ≠ s.ingFormat i ∨ x.doneFrame.any (fun d => !laterThan frame d) = true
        ∨ (x.opened = true ∧ laterThan x.stamp frame = true) then none
    else some frame
  else (parseRtp p).bind (fun r => if 2 < s.ingFormat i ∨ r.rows.any (fun h => h.2.2.2) = true then none else some r.stamp)

/-- The buffer that a queued packet waits for: the target of its stream, while SCAN_REF is not 0. -/
def State.ingStalls (s : State) (i : Nat) (p : List Byte) : Option Nat :=
  (s.ingFrameOf i p).bind (fun stamp =>
    let x := s.ingOf i
    let b := if x.opened && x.stamp == stamp then x.buf else (s.ingTarget i).1
    if s.scanRef b = 0 then none else some b)

/-- One packet leaves the ingest queue. -/
def State.ingPacket (s : State) (m : Nat) (f : List Byte) : State :=
  match s.ingStream m f, parseUdp f with
  | some i, some u =>
    let p := udpPayload f u
    if s.ingLoram i then s.ingSegment i p else s.ingRtp i p
  | _, _ => s

/-- The packets of MAC `m`'s ingest queue are written until one must wait. -/
def State.ingDrain (s : State) (m : Nat) : Nat → State
  | 0 => s
  | n + 1 =>
    match s.headPacket 2 m with
    | none => s
    | some f =>
      match (s.ingStream m f).bind (fun i => (parseUdp f).bind (fun u => s.ingStalls i (udpPayload f u))) with
      | some b =>
        if (s.macOf m).stall = some b then s
        else (s.modMac m (fun x => { x with stall := some b })).inc (pgCMP (b / 16)) Cmp.STALL_COUNT
      | none => State.ingDrain (((s.modMac m (fun x => { x with stall := none })).popPacket 2 m).ingPacket m f) m n

/-- The waiting writes of MAC `m` resume once SCAN_REF is 0. -/
def State.ingResume (s : State) (m : Nat) : State := s.ingDrain m (s.queue 2 m).committed

def execIngestWriteResume (k : Fin 4) (s : State) : Host.Outcome State Fault Refusal := done (s.ingResume k.val)

/-- ING is offered a frame of MAC `m`, received at `stamp`; the flag says that it took the frame. -/
def State.ingOffer (s : State) (m : Nat) (stamp f : List Byte) : State × Bool :=
  if !s.active pgING then (s, false)
  else
    match s.ingStream m f with
    | none => (s, false)
    | some _ =>
      let s1 := (s.queuePacket 2 m f).tellInput 0 m s.mergeEpoch stamp f
      (s1.ingDrain m (s1.queue 2 m).committed, true)

/-- STALLING of buffer `b` (R127). -/
def State.stalling (s : State) (b : Nat) : Bool := (List.range 4).any (fun m => (s.macOf m).stall == some b)

/-! ### Commits (R393) -/

def State.ingBad (s : State) : List Nat :=
  let get := s.shd pgING
  if (List.range 8).any (fun i =>
      let mode := get (Ing.ING_MODE i)
      decide ((if bit mode 1 then 3 else 2) < bits mode (6, 4))
        || (bit mode 0 && !bit mode 1 && bits mode (6, 4) == 2 && bits (get (Ing.ING_SIZE i)) (13, 0) % 2 == 0)) then [pgING + 1] else []

/-- A stream whose settings change begins anew. -/
def State.ingCommit (s : State) : State :=
  s.commitPoint pgING s.ingBad (fun a =>
    (List.range 8).foldl (fun b i =>
      if a.ingMode i = s.ingMode i ∧ a.reg pgING (Ing.ING_SIZE i) = s.reg pgING (Ing.ING_SIZE i)
          ∧ a.reg pgING (Ing.ING_BUFS i) = s.reg pgING (Ing.ING_BUFS i) then b
      else b.setIng i IngState.init) a)

end Sys2Proof.Machine
end

