-- ==== Sys2Proof/Machine/Eth.lean ====
section
/-!
DEFINITION. The MACs at work (R331 to R336, R341 to R362): the choice of the next frame, placed launches, completion, PAUSE,
preemption, links and reception.
-/
namespace Sys2Proof.Machine

/-! ### Heads of the sources (R331, R334) -/

/-- The frame that the bridge queue of MAC `m` holds first: the transmit staging queue, whose entries begin with the port and time of
reception (log entries 49, 50). -/
def State.bridgeHead (s : State) (m : Nat) : Option TxUnit :=
  (s.headPacket 1 m).map (fun d =>
    let f := d.drop 12
    { TxUnit.plain 6 (s.fld pgBR Br.BR_PORT (18, 16)) 0 (s.tcActs f) [f] with
      inPort := leAt d 0 1, inValid := leAt d 1 1 == 1, inAt := leAt d 2 10 })

/-- The head of source `i` of MAC `m`; the chain that a ring sends stays at its HEAD until it is written back, and the next one is
the head of the source. -/
def State.headOf (s : State) (m i : Nat) : Option TxUnit :=
  if i < 4 then (s.chainAt m i (s.heldDescs m i)).bind (·.2)
  else if i = 6 then s.bridgeHead m
  else (s.macOf m).waiting.find? (fun u => u.src == i)

def State.heads (s : State) (m : Nat) : List TxUnit := (List.range 8).filterMap (s.headOf m)

/-- A launch-timed frame is placed (R334). -/
def State.placed (s : State) (m : Nat) (u : TxUnit) : Bool :=
  match u.launch, Tab.get (fun _ => none) (s.macOf m).headAt u.src with
  | some l, some t =>
    decide (t + s.placeLead m ≤ l) && (match (s.macOf m).lastPlaced with
      | some p => decide (p + s.placeLead m ≤ l)
      | none => true)
  | _, _ => false

/-- The launches of placed frames that are still to come. -/
def State.pendingPlaced (s : State) (m x : Nat) : List TxUnit :=
  (s.heads m).filter (fun u => s.placed m u && u.launch.any (fun l => decide (x < l)))

/-- The placed frames of MAC `m` in the order of their launches. -/
def earliestUnit : List TxUnit → Option TxUnit
  | [] => none
  | u :: t =>
    match earliestUnit t with
    | none => some u
    | some v => if v.launch.getD 0 < u.launch.getD 0 then some v else some u

def State.nextPlaced (s : State) (m : Nat) : Option TxUnit := earliestUnit ((s.heads m).filter (s.placed m))

/-! ### Start opportunities and steering (R332, R333) -/

/-- From when the MAC steers toward the earliest pending placed launch, and that launch: a ramp over PLACE_LEAD that ends no later than
the launch, and PLACE_LEAD before it where the frame has stood at the head that long (log entry 142). -/
def State.steerTo (s : State) (m x : Nat) : Option (Nat × Nat) :=
  (earliestUnit (s.pendingPlaced m x)).bind (fun u =>
    u.launch.map (fun l =>
      let y := s.macOf m
      (max ((Tab.get (fun _ => none) y.headAt u.src).getD 0) (max (y.lastPlaced.getD 0) (l - 2 * s.placeLead m)), l)))

/-- The least difference of phase from `p` to `l`, in fifths of 1/1280 ns, for opportunities that are `step` fifths apart. -/
def phaseShift (step p l : Nat) : Int :=
  let d := (5 * ((l : Int) - p)) % (step : Int)
  if 2 * d ≤ step then d else d - step

/-- The first start opportunity at or after `t`: they fall every 1.28 ns or 3.2 ns from the phase of the latest placed start, moving
evenly over PLACE_LEAD toward the phase of the launch steered to, and a start is stamped on the grid of 50 ps (log entries 43, 142). -/
def State.opportunity (s : State) (m t : Nat) : Nat :=
  let p := (s.macOf m).phase
  let step : Nat := if s.macSlow m then 20480 else 8192
  let lead : Rat := (s.placeLead m : Rat)
  let grid (q : Rat) : Rat :=
    let k := (((t : Rat) - q) * 5 / step).ceil
    q + (k : Rat) * step / 5
  let at_ : Rat := match s.steerTo m t with
    | none => grid p
    | some (t0, l) =>
      if t ≤ t0 then grid p
      else if t0 + s.placeLead m ≤ t then grid l
      else
        let d : Rat := (phaseShift step p l : Rat) / 5 / lead
        let k := ((((t : Rat) - p) - d * ((t : Rat) - t0)) * 5 / step).ceil
        ((p : Rat) + (k : Rat) * step / 5 - d * t0) / (1 - d)
  (roundGridRat at_).toNat

/-- LINK_STATUS.STEERING: the MAC steers toward a placed launch that is still to come (log entry 142). -/
def State.steers (s : State) (m : Nat) : Bool :=
  let x := unitsOf s.tln.now
  s.active (pgETH m) && s.macLink m && (s.steerTo m x).any (fun r => decide (r.1 ≤ x))

/-- The earliest start at or after `x`, on a start opportunity, after preamble and gap. -/
def State.startFrom (s : State) (m x : Nat) : Nat := s.opportunity m (max x (s.nextStart m (s.macOf m).sendEnd))

/-! ### What may start (R335, R341) -/

/-- A frame from `a` to `e` cut at `c` leaves both fragments at least the least size of R341; the first ends with four bytes of its
own check. -/
def State.cutFits (s : State) (m a e c : Nat) : Bool :=
  let least := s.byteSpan m (64 * (s.fld (pgETH m) Eth.PREEMPT_CTRL (1, 0) + 1))
  decide (a + least ≤ c) && decide (c + least ≤ e + s.byteSpan m 4)

/-- When a frame must be cut so that one launched at `l` finds the medium. -/
def State.cutFor (s : State) (m l : Nat) : Nat := l - s.byteSpan m 20

/-- A frame on the medium from `a` to `e` passes the start of no pending placed frame, or it is preempted in time for it (R335). -/
def State.clears (s : State) (m a e : Nat) (express : Bool) : Bool :=
  (s.pendingPlaced m a).all (fun p =>
    p.launch.any (fun l => decide (s.nextStart m e ≤ l)
      || (p.express && s.preemptState m == 2 && !express && s.cutFits m a e (s.cutFor m l))))

/-- The frame may start at `x` without passing the start of a pending placed frame. -/
def State.fits (s : State) (m x : Nat) (u : TxUnit) : Bool :=
  let t := s.startFrom m x
  s.clears m t (s.frameEnd m t (u.frames.headD [])) u.express

/-- The head of a source leaves it. -/
def State.takeHead (s : State) (m : Nat) (u : TxUnit) : State :=
  let now := some (unitsOf s.tln.now)
  let mark (x : MacState) : MacState := { x with headAt := Tab.set (fun _ => none) x.headAt u.src now }
  if u.src < 4 then s.modMac m mark
  else if u.src = 6 then (s.popPacket 1 m).modMac m mark
  else s.modMac m (fun x => mark { x with waiting := x.waiting.erase u })

/-- The better of two frames for the medium (R331): express, then priority, then the source next in turn. -/
def prefer (served : Nat) (a b : TxUnit) : TxUnit :=
  let turn (u : TxUnit) : Nat := (u.src + 8 - served - 1) % 8
  let key (u : TxUnit) : Nat := (if u.express then 10000 else 0) + (if u.src = 7 ∨ u.src = 5 then 8 else u.prio) * 100 + (99 - turn u)
  if key a < key b then b else a

def bestOf (served : Nat) : List TxUnit → Option TxUnit
  | [] => none
  | u :: t =>
    match bestOf served t with
    | none => some u
    | some v => some (prefer served u v)

/-! ### A frame starts (R331 to R336) -/

/-- The medium of MAC `m` is free for a frame, its page active and its link up. -/
def State.macReady (s : State) (m : Nat) : Bool :=
  s.active (pgETH m) && s.macLink m && (s.macOf m).sending.isNone

def State.paused (s : State) (m : Nat) : Bool := (s.macOf m).pauseEnd.isSome

/-- Frames other than generated PAUSE are held: a pause is in force, or begins with the end of what is in transmission (R342). -/
def State.held (s : State) (m : Nat) : Bool := s.paused m || (s.macOf m).pauseNext.isSome

/-- Only the ACTIVE device sends the frame, and this one is not (R379). -/
def State.muted (s : State) (u : TxUnit) : Bool := u.whenActive && !s.stileHeld

/-- The first frame of a unit starts at `t` (1/1280 ns). -/
def State.txBegin (s : State) (m t : Nat) (u : TxUnit) : State :=
  let f0 := u.frames.headD []
  let f1 := if u.src = 5 then s.ntmInsert m t u f0 else f0
  let r := if u.src = 6 && s.tcActs f0 then s.tcCorrect m t u.inPort (unitsOf u.inAt) u.inValid f0 else (f1, s)
  let s1 := r.2
  let v := { u with frames := r.1 :: u.frames.drop 1, first := some (u.first.getD (s1.txStamp m t)) }
  let s2 := s1.modMac m (fun x =>
    { x with sending := some v, sendAt := t, sendEnd := s1.frameEnd m t r.1, served := u.src })
  let s3 := s2.emitEdges (.eth m t (padFrame r.1))
  let s4 := if u.src = 5 then s3.ntmSent m t v r.1 else s3
  if u.src = 7 then s4.inc (pgETH m) Eth.PAUSE_TX else s4

/-- A launch-timed frame that is not placed starts without launch; its ring notes it (R334). -/
def State.unplacedNote (s : State) (m : Nat) (u : TxUnit) : State × TxUnit :=
  if u.launch.isNone then (s, u)
  else
    let s1 := if u.src < 4 then s.inc (pgETH m) (Eth.TXR_UNPLACED u.src) else s
    (s1.count (720 + 8 * m + 7) 1, { u with launch := none, status := 5 })

/-- Sent frames leave their place in the descriptors or queues once done; a dropped burst leaves at once. -/
def State.unitDone (s : State) (m : Nat) (u : TxUnit) (status : Nat) : State :=
  if u.src < 4 then s.writeBack m u.src u.chain status (if u.tstamp then u.first else none) u.irq else s

/-- A late frame (R336): whether it is dropped, else it goes on as LATE_SENT. -/
def State.lateFrame (s : State) (m x : Nat) (u : TxUnit) : State × Bool :=
  let l := u.launch.getD x
  let s1 := (s.fault (pgETH m) Eth.F_LATE).count (720 + 8 * m + 5) 1
  if u.dropLate || decide (s.fld (pgETH m) Eth.LATE_LIMIT (26, 0) * LU < x - l) then
    (if u.src < 4 then s1.inc (pgETH m) (Eth.TXR_LATE_DROP u.src) else s1, true)
  else (if u.src < 4 then s1.inc (pgETH m) (Eth.TXR_LATE_SENT u.src) else s1, false)

/-- The frame in transmission is preemptable, and both its fragments would keep the least size if it were cut at `c`. -/
def State.canPreempt (s : State) (m c : Nat) : Bool :=
  let x := s.macOf m
  match x.sending with
  | some u => !u.express && s.preemptState m == 2 && x.halted.isNone && s.cutFits m x.sendAt x.sendEnd c
  | none => false

/-- The frame in transmission is cut at `c`; TX_PREEMPTED counts it once (R360). -/
def State.preempt (s : State) (m c : Nat) : State :=
  let seen := (s.macOf m).sending.any (·.cut)
  let s1 := s.modMac m (fun x =>
    { x with halted := x.sending.map (fun u => ({ u with cut := true }, x.sendEnd + s.byteSpan m 4 - c)), sending := none, sendEnd := c })
  if seen then s1 else s1.inc (pgETH m) Eth.TX_PREEMPTED

/-- A placed frame leaves its source; the phase of the opportunities has been steered to its launch. -/
def State.takePlaced (s : State) (m : Nat) (u : TxUnit) : State :=
  (s.takeHead m u).modMac m (fun y => { y with lastPlaced := some (u.launch.getD 0), phase := u.launch.getD 0 })

/-- The medium is cut free for an express frame launched at `l`, where it must be and can be. -/
def State.makeWay (s : State) (m l : Nat) (u : TxUnit) : State :=
  if u.express && s.canPreempt m (s.cutFor m l) then s.preempt m (s.cutFor m l) else s

/-- The launch of a placed frame comes: it starts there, or it is late (R334 to R336, R344). -/
def State.placedStart (s : State) (m : Nat) (u : TxUnit) : State :=
  let l := u.launch.getD 0
  let x := unitsOf s.tln.now
  let s0 := s.makeWay m l u
  if s.srcBusy m u.src then s
  else if s.muted u then s.takePlaced m u
  else if x ≤ l then
    (if s0.macReady m && !s0.held m && decide (s0.nextStart m (s0.macOf m).sendEnd ≤ l) then (s0.takePlaced m u).txBegin m l u else s)
  else
    let r := s.lateFrame m x u
    if r.2 then (r.1.takePlaced m u).unitDone m { u with first := none } 2
    else if s.macReady m && !s.held m && s.fits m x u then
      (r.1.takePlaced m u).txBegin m (s.startFrom m x) { u with launch := none, status := 1 }
    else s

/-- A MAC that is not ACTIVE holds every ring unchanged (R362). -/
def State.placedLaunch (s : State) (m : Nat) : State :=
  if !s.active (pgETH m) then s
  else
    let s0 := s.ringsSettle m
    match s0.nextPlaced m with
    | none => s0
    | some u => s0.atTime (timeOfUnits (u.launch.getD 0)) (fun a => a.placedStart m u)

def execPlacedLaunch (m : Fin 4) (s : State) : Host.Outcome State Fault Refusal := done (s.placedLaunch m.val)

/-- The frames that may start at `x` by the order of R331: generated PAUSE always, others unless held, and none while a frame or
burst of the same source is under way. -/
def State.ready (s : State) (m x : Nat) : List TxUnit :=
  (s.heads m).filter (fun u =>
    (u.src == 7 || !s.held m) && !s.srcBusy m u.src && s.fits m x u
      && (match u.launch with
          | some l => !s.placed m u && decide (l ≤ x)
          | none => true))

/-- A frame without a launch to keep leaves its source and starts. -/
def State.plainStart (s : State) (m x : Nat) (v : TxUnit) : State :=
  if s.muted v then s.takeHead m v
  else
    let r := s.unplacedNote m v
    (r.1.takeHead m v).txBegin m (s.startFrom m x) r.2

/-- A preempted frame goes on, unless its rest would pass the start of a pending placed frame (R335). -/
def State.resumeFrame (s : State) (m x : Nat) (u : TxUnit) (left : Nat) : State :=
  let t := s.startFrom m x
  if s.clears m t (t + left) u.express then
    s.modMac m (fun z => { z with halted := none, sending := some u, sendAt := t, sendEnd := t + left })
  else s

/-- The choice among frames without a launch to keep: the rest of a preempted frame unless an express frame waits, the rest of a
burst, then the order of R331. A burst of the ACTIVE device ends with the Stile (R379). -/
def State.txOther (s : State) (m x : Nat) : State :=
  let y := s.macOf m
  let b := bestOf y.served (s.ready m x)
  match y.halted, y.burst with
  | some (u, left), _ =>
    if b.any (fun v => v.express) then (match b with | some v => s.plainStart m x v | none => s)
    else if s.paused m && y.pauseNext.isNone then s else s.resumeFrame m x u left
  | none, some u =>
    if s.muted u then s.modMac m (fun z => { z with burst := none })
    else if s.held m then (match b with | some v => s.plainStart m x v | none => s)
    else if s.fits m x u then (s.modMac m (fun z => { z with burst := none })).txBegin m (s.startFrom m x) u
    else s
  | none, none =>
    match b with
    | some v => s.plainStart m x v
    | none => s

/-- At a frame boundary the MAC chooses and starts the next frame: a placed frame whose instant has come comes first. -/
def State.txStartNow (s : State) (m : Nat) : State :=
  let x := unitsOf s.tln.now
  match s.nextPlaced m with
  | some u =>
    if u.launch.any (fun l => decide (l ≤ x)) && !s.held m && !s.srcBusy m u.src && s.fits m x u then s.placedStart m u
    else s.txOther m x
  | none => s.txOther m x

/-- An express frame that waits preempts the preemptable one in transmission where the fragments allow it (R341). -/
def State.expressStart (s : State) (m : Nat) : State :=
  let x := unitsOf s.tln.now
  let a := s.preempt m x
  match bestOf (s.macOf m).served (a.ready m x) with
  | some v => if s.canPreempt m x && v.express && !s.muted v then a.plainStart m x v else s
  | none => s

def State.txStart (s : State) (m : Nat) : State :=
  if !s.active (pgETH m) then s
  else
    let s0 := s.ringsSettle m
    if s0.macReady m then s0.atTime (timeOfUnits (s0.nextStart m (s0.macOf m).sendEnd)) (fun a => a.txStartNow m)
    else s0.expressStart m

def execMacTxStart (m : Fin 4) (s : State) : Host.Outcome State Fault Refusal := done (s.txStart m.val)

/-! ### A frame ends (R338, R342, R382) -/

/-- STOP of a MAC takes effect when no frame is in transmission (R362). -/
def State.macStopped (s : State) (m : Nat) : State :=
  if s.stopSet (pgETH m) && s.enabled (pgETH m) && s.active (pgETH m) && (s.macOf m).sending.isNone then
    s.setGroupState (pgETH m) 2
  else s

def State.setPaused (s : State) (m : Nat) (b : Bool) : State :=
  (s.setFlag (pgETH m) Eth.LINK_STATUS 3 b).setSts (pgETH m) Eth.S_PAUSED (if b then 1 else 0)

/-- A pause of `q` quanta begins at `t` (R342). -/
def State.pauseFrom (s : State) (m t q : Nat) : State :=
  if q = 0 then (s.modMac m (fun x => { x with pauseEnd := none })).setPaused m false
  else (s.modMac m (fun x => { x with pauseEnd := some (t + s.quantum m q) })).setPaused m true

def State.txDoneAt (s : State) (m : Nat) (u : TxUnit) : State :=
  let y := s.macOf m
  let f := u.frames.headD []
  let s1 := ((s.inc (pgETH m) Eth.TX_GOOD).count (720 + 8 * m + 2) 1).count (720 + 8 * m + 3) ((padFrame f).length + 4)
  let s2 := if u.src = 4 then s1.inc pgSTR Str.PACKETS else s1
  let rest := u.frames.drop 1
  let s3 := s2.modMac m (fun x => { x with
    sending := none
    burst := if rest = [] then x.burst else some { u with frames := rest, launch := none } })
  let s4 := if rest = [] then s3.unitDone m u u.status else s3
  let s5 := match y.pauseNext with
    | some q => if y.halted.isNone then (s4.modMac m (fun x => { x with pauseNext := none })).pauseFrom m y.sendEnd q else s4
    | none => s4
  s5.macStopped m

def State.txDone (s : State) (m : Nat) : State :=
  match (s.macOf m).sending with
  | none => s
  | some u => s.atTime (timeOfUnits (s.macOf m).sendEnd) (fun a => a.txDoneAt m u)

def execMacTxDone (m : Fin 4) (s : State) : Host.Outcome State Fault Refusal := done (s.txDone m.val)

/-! ### PAUSE (R342 to R344) -/

/-- A PAUSE frame of value `q` is received. -/
def State.pauseRx (s : State) (m q : Nat) : State :=
  let p := pgETH m
  let s1 := ((s.inc p Eth.PAUSE_RX).count (720 + 8 * m + 6) 1).sample 7 m q
  if !s1.flag p Eth.PAUSE_CTRL 0 then s1
  else
    let y := s1.macOf m
    if q = 0 then (s1.modMac m (fun x => { x with pauseNext := none })).pauseFrom m 0 0
    else if y.sending.isSome || y.halted.isSome then s1.modMac m (fun x => { x with pauseNext := some q })
    else s1.pauseFrom m (unitsOf s1.tln.now) q

/-- The pause in force runs out. -/
def State.pauseEnds (s : State) (m : Nat) : State :=
  match (s.macOf m).pauseEnd with
  | none => s
  | some t => s.atTime (timeOfUnits t) (fun a => a.pauseFrom m 0 0)

def execPauseEnd (m : Fin 4) (s : State) : Host.Outcome State Fault Refusal := done (s.pauseEnds m.val)

/-- Quanta left in the pause in force. -/
def State.pauseLeft (s : State) (m : Nat) : Nat :=
  match (s.macOf m).pauseEnd with
  | none => 0
  | some t => min 0xFFFF (ceilDiv (t - unitsOf s.tln.now) (s.quantum m 1))

/-- A generated PAUSE frame. -/
def State.pauseFrame (s : State) (m q : Nat) : TxUnit :=
  TxUnit.plain 7 7 0 true [padFrame (beBytes 6 0x0180C2000001 ++ beBytes 6 (s.macAddr m) ++ beBytes 2 0x8808 ++ beBytes 2 1
    ++ beBytes 2 q)]

/-- The fill of the receive queue against XOFF_LEVEL and XON_LEVEL, at 32 words per KiB. -/
def State.pauseSend (s : State) (m : Nat) : State :=
  let p := pgETH m
  let fill := (s.queue 0 m).words.length
  let q := s.fld p Eth.PAUSE_CTRL (31, 16)
  let send (a : State) : State :=
    (a.macQueue m (a.pauseFrame m q)).modMac m (fun x => { x with xoff := some (unitsOf a.tln.now + a.quantum m q / 2) })
  if !s.flag p Eth.PAUSE_CTRL 1 || !s.active p then s
  else
    match (s.macOf m).xoff with
    | none => if 32 * s.fld p Eth.PAUSE_LEVEL (15, 0) ≤ fill then send s else s
    | some t =>
      if fill ≤ 32 * s.fld p Eth.PAUSE_LEVEL (31, 16) then
        (s.macQueue m (s.pauseFrame m 0)).modMac m (fun x => { x with xoff := none })
      else s.atTime (timeOfUnits t) send

def execPauseSend (m : Fin 4) (s : State) : Host.Outcome State Fault Refusal := done (s.pauseSend m.val)

/-! ### Links and preemption (R341, R361, R362, R400) -/

def State.setPreempt (s : State) (m n : Nat) : State := s.setFld (pgETH m) Eth.LINK_STATUS (5, 4) n

/-- Preemption begins to be verified, or is active at once. -/
def State.verifyBegin (s : State) (m : Nat) : State :=
  if !s.flag (pgETH m) Eth.MAC_MODE 3 || s.macSlow m then s.setPreempt m 0
  else if s.flag (pgETH m) Eth.PREEMPT_CTRL 2 then s.setPreempt m 2
  else (s.setPreempt m 1).modMac m (fun x => { x with tries := 0, verifyAt := unitsOf s.tln.now })

/-- Everything in transmission or waiting is lost with the link; a ring's chain is ABORTED. -/
def State.dropTraffic (s : State) (m : Nat) : State :=
  let y := s.macOf m
  let cut := y.sending.toList ++ y.burst.toList ++ (y.halted.map (·.1)).toList
  let s1 := s.modMac m (fun x => { x with
    sending := none, burst := none, halted := none, waiting := [], pauseNext := none, xoff := none })
  cut.foldl (fun a u => a.unitDone m u 4) s1

/-- The link of MAC `m` comes up or goes down. -/
def State.linkChange (s : State) (m : Nat) (up : Bool) : State :=
  let p := pgETH m
  if s.macLink m = up ∨ (up = true ∧ s.enabled p = false) then s
  else if up then
    let s1 := ((s.setFld p Eth.LINK_STATUS (1, 0) 3).setFlag p Eth.LINK_STATUS 2 (s.fld p Eth.MAC_MODE (2, 1) == 1)).setSts
      p Eth.S_LINK_UP 1
    ((s1.modMac m (fun x => { x with linkAt := unitsOf s.tln.now, settled := false })).verifyBegin m).irq (220 + 10 * m)
  else
    let s1 := (s.setFld p Eth.LINK_STATUS (2, 0) 0).setSts p Eth.S_LINK_UP 0
    let s2 := (((s1.dropTraffic m).pauseFrom m 0 0).setPreempt m 0).inc p Eth.LINK_DOWNS
    ((s2.modMac m (fun x => { x with settled := false })).fault p Eth.F_LINK_LOST).irq (220 + 10 * m)

def execEthLinkChange (m : Fin 4) (up : Bool) (s : State) : Host.Outcome State Fault Refusal := done (s.linkChange m.val up)

/-- 1 ms after LINK_UP timestamps are valid (R400). -/
def State.linkSettle (s : State) (m : Nat) : State :=
  if !s.macLink m then s
  else s.atTime (timeOfUnits ((s.macOf m).linkAt + 1000000 * LU)) (fun a => a.modMac m (fun x => { x with settled := true }))

def execLinkSettleEnd (m : Fin 4) (s : State) : Host.Outcome State Fault Refusal := done (s.linkSettle m.val)

/-- A verify attempt is answered, or its time passes (R341). -/
def State.preemptVerify (s : State) (m : Nat) (answered : Bool) : State :=
  let y := s.macOf m
  if s.preemptState m ≠ 1 then s
  else if answered then s.setPreempt m 2
  else
    s.atTime (timeOfUnits (y.verifyAt + s.fld (pgETH m) Eth.PREEMPT_CTRL (15, 8) * 1000000 * LU)) (fun a =>
      if y.tries = 2 then (a.setPreempt m 3).fault (pgETH m) Eth.F_VERIFY_FAIL
      else a.modMac m (fun x => { x with tries := y.tries + 1, verifyAt := unitsOf a.tln.now }))

def execPreemptVerify (m : Fin 4) (answered : Bool) (s : State) : Host.Outcome State Fault Refusal :=
  done (s.preemptVerify m.val answered)

/-- ENABLE and STOP of a MAC (R362). -/
def State.ethCtrl (s : State) (m : Nat) (en st : Bool) : State :=
  let p := pgETH m
  if en == s.enabled p && st == s.stopSet p then s
  else if !s.enabled p then
    let s1 := if s.macLink m then s.linkChange m false else s
    s1.setGroupState p 0
  else if s.stopSet p then (s.setGroupState p 1).macStopped m
  else s.setGroupState p 1

/-- A commit of the ETH group: a change of speed or of preemption begins its verification anew. -/
def State.ethCommit (s : State) (m : Nat) : State :=
  s.commitPoint (pgETH m) (s.ethBad m) (fun a =>
    if a.reg (pgETH m) Eth.MAC_MODE &&& 9 = s.reg (pgETH m) Eth.MAC_MODE &&& 9
        ∧ a.flag (pgETH m) Eth.PREEMPT_CTRL 2 = s.flag (pgETH m) Eth.PREEMPT_CTRL 2 then a
    else if a.macLink m then a.verifyBegin m else a)

end Sys2Proof.Machine
end

