-- ==== Sys2Proof/Machine/Bridge.lean ====
section
/-!
DEFINITION. Reception on a MAC (R348 to R351) and the bridge (R352 to R356, R363).
-/
namespace Sys2Proof.Machine

/-! ### The forwarding database (R354, R355) -/

def State.fdbFind (s : State) (mac : Nat) : Option FdbEntry := s.bridge.fdb.find? (fun e => e.mac == mac)

def sameSet (a b : Nat) : Bool := Config.fdbSet a == Config.fdbSet b

/-- The database changes; FDB_STATUS shows the entries in use. -/
def State.setFdb (s : State) (l : List FdbEntry) : State :=
  { s with bridge := { s.bridge with fdb := l } }.setFld pgBR Br.FDB_STATUS (28, 16) l.length

def State.fdbRemove (s : State) (mac : Nat) : State := s.setFdb (s.bridge.fdb.filter (fun e => e.mac != mac))

/-- A command of the present instant has reached the address (R355). -/
def State.fdbTold (s : State) (mac : Nat) : Bool :=
  s.timeRuns && s.bridge.cmdAt.any (fun c => c.1 == s.tln.now && (c.2.isNone || c.2 == some mac))

/-- A source address is learned on port `m`. -/
def State.learn (s : State) (m mac : Nat) : State :=
  if s.fdbTold mac then s
  else
  let put (a : State) : State := a.setFdb (⟨mac, 2 ^ m, false, a.tln.now⟩ :: a.bridge.fdb.filter (fun e => e.mac != mac))
  match s.fdbFind mac with
  | some e => if e.fixed then s else put s
  | none =>
    if 4 ≤ (s.bridge.fdb.filter (fun e => sameSet e.mac mac)).length then s.inc pgBR Br.LEARN_FULL else put s

def State.fdbMac (s : State) : Nat := s.nat pgBR Br.FDB_MAC_LO + 2 ^ 32 * s.fld pgBR Br.FDB_MAC_HI (15, 0)

/-- ADD writes a static entry, over a dynamic one where its set is full. -/
def State.fdbAddNow (s : State) : State :=
  let mac := s.fdbMac
  let rest := s.bridge.fdb.filter (fun e => e.mac != mac)
  let set := rest.filter (fun e => sameSet e.mac mac)
  let dyn := set.filter (fun e => !e.fixed)
  let e : FdbEntry := ⟨mac, s.fld pgBR Br.FDB_PORTS (5, 0), true, s.tln.now⟩
  if set.length < 4 then s.setFdb (e :: rest)
  else
    match dyn[Config.fdbVictim mac % max 1 dyn.length]? with
    | none => s.fault pgBR Br.F_FDB_FULL
    | some v => s.setFdb (e :: rest.filter (fun x => x != v))

def State.fdbLookupNow (s : State) : State :=
  match s.fdbFind s.fdbMac with
  | some e => s.setNat pgBR Br.FDB_PORTS (2 ^ 31 + e.ports)
  | none => s.setNat pgBR Br.FDB_PORTS 0

/-- A command for address `mac`, or for all, is taken unless one is busy. -/
def State.fdbCommand (s : State) (mac : Option Nat) (f : State → State) : State :=
  if s.flag pgBR Br.FDB_STATUS 0 then s.badValue pgBR
  else
    let a := f s
    { a with bridge := { a.bridge with cmdAt := some (s.tln.now, mac) } }.setFlag pgBR Br.FDB_STATUS 0 true

def State.fdbAdd (s : State) : State := s.fdbCommand (some s.fdbMac) State.fdbAddNow
def State.fdbDelete (s : State) : State := s.fdbCommand (some s.fdbMac) (fun a => a.fdbRemove a.fdbMac)
def State.fdbLookup (s : State) : State := s.fdbCommand (some s.fdbMac) State.fdbLookupNow
def State.fdbFlush (s : State) : State := s.fdbCommand none (fun a => a.setFdb (a.bridge.fdb.filter (·.fixed)))

/-- A write of FDB_CMD: one bit, or it is dropped. -/
def State.fdbWrite (s : State) (v : Word) : State :=
  match bits v (3, 0) with
  | 0 => s
  | 1 => s.fdbAdd
  | 2 => s.fdbDelete
  | 4 => s.fdbLookup
  | 8 => s.fdbFlush
  | _ => s.badValue pgBR

def execFdbAdd (_req : Requester) (s : State) : Host.Outcome State Fault Refusal := done (s.gate pgBR State.fdbAdd)
def execFdbDelete (_req : Requester) (s : State) : Host.Outcome State Fault Refusal := done (s.gate pgBR State.fdbDelete)
def execFdbLookup (_req : Requester) (s : State) : Host.Outcome State Fault Refusal := done (s.gate pgBR State.fdbLookup)
def execFdbFlush (_req : Requester) (s : State) : Host.Outcome State Fault Refusal := done (s.gate pgBR State.fdbFlush)

/-- A command completes. -/
def State.fdbDone (s : State) : State := s.setFlag pgBR Br.FDB_STATUS 0 false

def execFdbDone (s : State) : Host.Outcome State Fault Refusal := done s.fdbDone

/-- A dynamic entry has not been refreshed for AGE_TIME. -/
def State.fdbAge (s : State) (mac : Nat) : State :=
  let age := s.fld pgBR Br.AGE_TIME (15, 0)
  match s.fdbFind mac with
  | none => s
  | some e => if e.fixed || age == 0 then s else s.atTime (e.seen + age * SEC * NS) (fun a => a.fdbRemove mac)

def execFdbAge (mac : BitVec 48) (s : State) : Host.Outcome State Fault Refusal := done (s.fdbAge mac.toNat)

/-! ### Host rings (R349 to R351) -/

/-- One buffer of a frame is written back. -/
def State.rxBuffer (s : State) (m r i : Nat) (part : List Byte) (sop eop : Bool) (r3 total : Nat) (stamp : Option Nat) : State :=
  let a := s.rxBase m r + 32 * i
  let dest := s.mem_ a 4 + 2 ^ 32 * s.mem_ (a + 4) 1
  let ts := if eop then stamp else none
  let r2 := part.length + (if sop then 2 ^ 16 else 0) + (if eop then 2 ^ 17 else 0) + (if ts.isSome then 2 ^ 23 else 0) + 2 ^ 31
  let s1 := ((s.dmaBytes dest part).hwMem (a + 8) 4 r2).hwMem (a + 12) 4 r3
  (s1.hwBytes (a + 16) (match ts with
    | some t => (gridTimeVal t).memBytes
    | none => List.replicate 12 0)).hwMem (a + 28) 4 (if eop then total else 0)

def State.rxBuffers (s : State) (m r size : Nat) (r3 total : Nat) (stamp : Option Nat) : Nat → List (List Byte) → Bool → State
  | _, [], _ => s
  | i, p :: t, sop =>
    State.rxBuffers (s.rxBuffer m r i p sop (t == []) r3 total stamp) m r size r3 total stamp ((i + 1) % size) t false

/-- The buffers that a dropped frame had used hold undefined contents. -/
def State.spoil (s : State) (m r size len : Nat) : Nat → Nat → State
  | _, 0 => s
  | i, n + 1 =>
    let a := s.rxBase m r + 32 * i
    let dest := s.mem_ a 4 + 2 ^ 32 * s.mem_ (a + 4) 1
    let k := s.dev.freeCount
    State.spoil (s.fresh.dmaBytes dest ((List.range len).map (Config.nobufByte k))) m r size len ((i + 1) % size) n

/-- A frame goes to RX ring `r`. -/
def State.ringStore (s : State) (m r : Nat) (stamp : Nat) (r3 : Nat) (f : List Byte) : State :=
  let p := pgETH m
  let size := s.rxSize m r
  let len := s.fld p (Eth.RXR_BUF_SIZE r) (14, 0)
  let head := s.fld p (Eth.RXR_HEAD r) (11, 0)
  let free := outstanding size head (s.fld p (Eth.RXR_TAIL r) (11, 0))
  let parts := chunks len f f.length
  if s.flag p (Eth.RXR_CTRL r) 0 = false then s.inc p Eth.RX_NOMATCH
  else if free < parts.length then
    (((s.spoil m r size len head free).inc p (Eth.RXR_NOBUF_DROP r)).inc p Eth.NOBUF_TOTAL).fault p Eth.F_NOBUF
  else
    let ts := if s.flag p (Eth.RXR_CTRL r) 1 && !s.settling m then some stamp else none
    let s1 := s.rxBuffers m r size r3 f.length ts head parts true
    (((s1.setNat p (Eth.RXR_HEAD r) ((head + parts.length) % size)).inc p (Eth.RXR_FRAMES r))).ringComplete m (4 + r)

/-- Filter `i` of MAC `m` matches. -/
def State.filterHits (s : State) (m i : Nat) (f : List Byte) : Bool :=
  let w := s.reg (pgETH m) (Eth.RX_FILTER i)
  match bits w (18, 16) with
  | 1 => etherType f == bits w (15, 0)
  | 2 => (parseUdp f).any (fun u => u.dport == bits w (15, 0))
  | 3 => tagged f && tci f / 8192 == bits w (2, 0)
  | _ => false

/-- The host filters of MAC `m` (step 4 of R349). -/
def State.toHost (s : State) (m stamp : Nat) (f : List Byte) : State :=
  let p := pgETH m
  let tag := if tagged f then tci f + 2 ^ 16 else 0
  match (List.range 16).find? (fun i => s.filterHits m i f) with
  | some i =>
    let act := s.fld p (Eth.RX_FILTER i) (26, 24)
    if act < 4 then s.ringStore m act stamp (tag + i * 2 ^ 17) f else s
  | none =>
    let act := s.fld p Eth.RX_DEFAULT (2, 0)
    if act < 4 then s.ringStore m act stamp (tag + 2 ^ 21) f else s.inc p Eth.RX_NOMATCH

/-! ### A good frame (R349, R352, R353, R356) -/

def State.brPort (s : State) (m : Nat) : Nat := s.fld pgBR Br.BR_PORT (2 * m + 1, 2 * m)

/-- The egress set of a good frame received on port `m`. -/
def State.egress (s : State) (m : Nat) (f : List Byte) : Nat :=
  let dst := macDst f
  let base :=
    if (List.range 4).any (fun k => s.macAddr k == dst) then 0x30
    else
      match s.fdbFind dst with
      | some e => e.ports
      | none => if isGroup dst then s.fld pgBR Br.MFLOOD (5, 0) else s.fld pgBR Br.UFLOOD (5, 0)
  if isGroup dst && s.flag (pgETH m) Eth.MAC_MODE 4 then base ||| 0x30 else base

/-- The frame goes to the bridge queue of MAC `k`. -/
def State.forward (s : State) (m k stamp : Nat) (f : List Byte) : State :=
  let d := leBytes 1 m ++ leBytes 1 (if s.settling m then 0 else 1) ++ leBytes 10 (timeOfUnits stamp) ++ f
  let s1 := s.queuePacket 1 k d
  if (s1.queue 1 k).committed = (s.queue 1 k).committed then s1.inc (pgETH k) Eth.BR_DROP
  else
    let idle := (s.headPacket 1 k).isNone
    let s2 := s1.count 1227 1
    if idle then s2.modMac k (fun x => { x with headAt := Tab.set (fun _ => none) x.headAt 6 (some (unitsOf s.tln.now)) }) else s2

/-- The engines are offered a frame; the flag says that one took it. A standby ignores what ING and the merge would take (R357). -/
def State.toEngines (s : State) (m ago stamp : Nat) (f : List Byte) : State × Bool :=
  if (ptpAt f).isSome then (s.ntmTake m ago f, !s.flag (pgETH m) Eth.MAC_MODE 5)
  else
    let at_ := (gridTimeVal stamp).wireBytes
    let i := s.ingOffer m at_ f
    if i.2 then (if s.ownInputs then i.1 else s, true)
    else
      let g := s.mergeOffer m at_ f 0
      if s.ownInputs then g else (s, g.2)

/-- A good frame of MAC `m`, taken from its receive queue: its source is learned whatever the frame is for (R354). -/
def State.handleFrame (s : State) (m ago : Nat) (f : List Byte) : State :=
  let stamp := s.rxStamp m ago
  let dst := macDst f
  let st := s.brPort m
  let s1 := if s.flag pgBR Br.BR_PORT (8 + m) && st == 2 then s.learn m (macSrc f) else s
  if etherType f = 0x8808 then
    if beAt f (etherEnd f) 2 = 1 then s1.pauseRx m (beAt f (etherEnd f + 2) 2) else s1.inc (pgETH m) Eth.RX_CTRL_DROP
  else if 0x0180C2000000 ≤ dst ∧ dst ≤ 0x0180C200000F then (if st = 0 then s1 else s1.toHost m stamp f)
  else if st ≠ 2 then s1
  else
    let set := s1.egress m f
    let s2 := (List.range 4).foldl (fun a k =>
      if k ≠ m ∧ set.testBit k = true ∧ a.brPort k = 2 then a.forward m k stamp f else a) s1
    let r := if set.testBit 5 then s2.toEngines m ago stamp f else (s2, false)
    if set.testBit 4 && !r.2 then r.1.toHost m stamp f else r.1

/-- The frames of the receive queue of MAC `m` are handled in order. -/
def State.rxDrain (s : State) (m ago : Nat) : Nat → State
  | 0 => s
  | n + 1 =>
    match s.headPacket 0 m with
    | none => s
    | some f => State.rxDrain ((s.popPacket 0 m).handleFrame m ago f) m ago n

/-- The link of MAC `m` uses RS-FEC. -/
def State.rsFec (s : State) (m : Nat) : Bool := s.fld (pgETH m) Eth.MAC_MODE (2, 1) == 1

/-- A frame dropped under R348 counts on page +3. -/
def State.rxBad (s : State) (m off : Nat) : State := (s.inc (pgETH m) off).count (720 + 8 * m + 4) 1

/-- A frame has been received on MAC `m`: its bytes without FCS, how many grid steps of 50 ps ago it began, and what the PCS found:
0 nothing, 1 an FCS error, 2 a code error; and how many of its RS-FEC codewords could not be corrected, each counted by
RX_FEC_UNCORR (R360). -/
def State.macRx (s : State) (m ago err lost : Nat) (f : List Byte) : State :=
  let p := pgETH m
  if !s.active p || !s.macLink m then s
  else if lost ≠ 0 ∧ s.rsFec m = true then (s.addReg p Eth.RX_FEC_UNCORR lost).count (720 + 8 * m + 4) 1
  else if err = 2 then s.rxBad m Eth.RX_CODE
  else if f.length < 60 then s.rxBad m Eth.RX_RUNT
  else if s.maxFrame m < f.length + 4 then s.rxBad m Eth.RX_OVERSIZE
  else if err = 1 then s.rxBad m Eth.RX_FCS
  else
    let s1 := ((s.macMs m).modMac m (fun x => { x with msCount := x.msCount + 1 })).inc p Eth.RX_GOOD
    let s2 := (s1.count (720 + 8 * m) 1).count (720 + 8 * m + 1) (f.length + 4)
    let s3 := s2.queuePacket 0 m f
    let s4 := if (s3.queue 0 m).committed = (s2.queue 0 m).committed then
        ((s3.inc p Eth.RX_OVERRUN).fault p Eth.F_RX_OVERRUN).count (720 + 8 * m + 4) 1
      else s3
    s4.rxDrain m ago (s4.queue 0 m).committed

/-- RS-FEC corrects `n` codewords on MAC `m` (R360). -/
def State.fecCorrects (s : State) (m n : Nat) : State :=
  if n == 0 || !s.active (pgETH m) || !s.macLink m || !s.rsFec m then s
  else s.setReg (pgETH m) Eth.RX_FEC_CORR (s.reg (pgETH m) Eth.RX_FEC_CORR + BitVec.ofNat 32 n)

def execMacRxFrame (m : Fin 4) (ago : Nat) (err : Fin 3) (corrected lost : Nat) (data : List Byte) (s : State) :
    Host.Outcome State Fault Refusal :=
  done (if s.aclkRuns then (s.fecCorrects m.val corrected).macRx m.val ago err.val lost data else s)

end Sys2Proof.Machine
end

