-- ==== Sys2Proof/Machine/Icu.lean ====
section
/-!
DEFINITION. The interrupt controller's commands (R499 to R523).
-/
namespace Sys2Proof.Machine

/-- The cause of an edge source occurs (R504, R506, R514). A level source has no edges of its own. -/
def execInterruptEdge (src : Nat) (s : State) : Host.Outcome State Fault Refusal :=
  done (if isLevelSource src then s else s.irq src)

/-- The level of a level source changes (R505, R506, R514). -/
def execLevelChange (src : Nat) (level : Bool) (s : State) : Host.Outcome State Fault Refusal :=
  done (if isLevelSource src then s.setLevel src level else s)

/-- The requester acts for target `t` (R509). -/
def actsFor (r : Requester) (t : Nat) : Bool := if t < 4 then reqCode r == t else isHost r

/-- Taking the top claimable source into service (R508). -/
def State.claimTop (s : State) (t : Nat) : State :=
  match s.icuTop t with
  | none => s
  | some k =>
    let s1 := s.icuChange (fun a =>
      let b := (a.setIcuBit (Icu.PENDING 0) k false).setIcuBit (Icu.IN_SERVICE 0) k true
      { b with icu := { b.icu with owner := Tab.set (fun _ => 1024) b.icu.owner k t } })
    let s2 := s1.count 1223 1
    if t < 4 then s2.count (752 + 4 * t + 3) 1 else s2

/-- A read of CLAIM[t] (R508, R509). -/
def State.claimRead (s : State) (r : Requester) (t : Nat) : State :=
  if actsFor r t then
    (s.claimTop t).emit (.read (BitVec.ofNat 32 ((s.icuTop t).getD 0x3FF)))
  else (s.fault pgICU Icu.F_BAD_ACCESS).emit (.read 0x3FF)

def execIcuClaim (req : Requester) (t : Fin 8) (s : State) : Host.Outcome State Fault Refusal :=
  done (s.access (fun a => a.claimRead req t.val))

/-- Source `k` leaves service; a level source outside ACCOUNT mode re-samples its level (R505, R506). -/
def State.endService (s : State) (k : Nat) : State :=
  let s1 := s.setIcuBit (Icu.IN_SERVICE 0) k false
  let s2 := { s1 with icu := { s1.icu with owner := Tab.set (fun _ => 1024) s1.icu.owner k 1024 } }
  if isLevelSource k && !s.accountMode k then
    s2.setIcuBit (Icu.PENDING 0) k (Tab.get (fun _ => false) s.icu.level k)
  else s2

/-- A message falls due for group `g` (R517), unless its target is not claimable. -/
def State.msixDue (s : State) (g : Nat) : State :=
  { s with icu := { s.icu with due := Tab.set (fun _ => false) s.icu.due g true } }

/-- A write of COMPLETE[t] (R509, R510, R517). -/
def State.completeWrite (s : State) (r : Requester) (t k : Nat) : State :=
  if !actsFor r t then s.fault pgICU Icu.F_BAD_ACCESS
  else if s.icuBit (Icu.IN_SERVICE 0) k && decide (k < 512)
      && Tab.get (fun _ => 1024) s.icu.owner k == t then
    let s1 := s.icuChange (fun a => a.endService k)
    if 4 ≤ t ∧ s1.claimable t = true then s1.msixDue (t - 4) else s1
  else s.fault pgICU Icu.F_BAD_COMPLETE

def execIcuComplete (req : Requester) (t : Fin 8) (src : Fin 1024) (s : State) : Host.Outcome State Fault Refusal :=
  done (s.gate pgICU (fun a => a.completeWrite req t.val src.val))

/-- SRC_CFG.COUNT_CLR (R506, R520). -/
def State.countClr (s : State) (k : Nat) : State :=
  if isSource k then s.setFld pgICU (srcCfg k) Icu.COUNT 0 else s

def execCountClr (_req : Requester) (src : Fin 512) (s : State) : Host.Outcome State Fault Refusal :=
  done (s.gate pgICU (fun a => a.countClr src.val))

/-- A level source that is not in service takes PENDING equal to its level (R507). -/
def State.followLevel (s : State) (k : Nat) : State :=
  if isLevelSource k && !s.icuBit (Icu.IN_SERVICE 0) k then
    s.setIcuBit (Icu.PENDING 0) k (Tab.get (fun _ => false) s.icu.level k)
  else s

/-- A write of SRC_CFG[k] (R499, R507, R520). -/
def State.writeSrcCfg (s : State) (k : Nat) (v : Word) : State :=
  if !isSource k then s
  else
    let keep : Word := 0xFF040000
    let rw : Word := 0x0001FF0F
    let s1 := s.icuChange (fun a =>
      let b := a.setReg pgICU (srcCfg k) ((a.reg pgICU (srcCfg k) &&& keep) ||| (v &&& rw))
      if a.accountMode k && !b.accountMode k then b.followLevel k else b)
    if bit v 20 then s1.countClr k else s1

/-- The level sources. -/
def levelSources : List Nat := (List.range 512).filter isLevelSource

/-- The system state changes: on entry to RUN every ACCOUNT-mode level source not in service follows its level
(R507). -/
def State.setSysState (s : State) (n : Nat) : State :=
  s.icuChange (fun a =>
    let b := a.setFld pgSYS Sys.SYS_STATE (1, 0) n
    levelSources.foldl (fun c k => if a.accountMode k && !b.accountMode k then c.followLevel k else c) b)

/-- A write of word `w` of PENDING: SET and CLR aliases act on edge and ACCOUNT-mode sources only (R505, R506, R519).
A CLR alias clears a level source only in ACCOUNT mode; a set bit there counts as an occurrence (log entry 20). -/
def State.pendingAlias (s : State) (w : Nat) (set : Bool) (v : Word) : State :=
  s.icuChange (fun a =>
    (List.range 32).foldl (fun c b =>
      let k := 32 * w + b
      if !bit v b || !isSource k then c
      else if isLevelSource k && !c.accountMode k then c
      else if set then c.occur k
      else c.setIcuBit (Icu.PENDING 0) k false) a)

/-- ACLK resumes: every set latch is one occurrence (R514). -/
def State.drainLatches (s : State) : State :=
  let ks := (s.icu.latch.filter (fun e => e.2)).map (fun e => e.1)
  let s1 := { s with icu := { s.icu with latch := [] } }
  s1.icuChange (fun a => levelSources.foldl (fun b k => if b.accountMode k then b else b.followLevel k)
    (ks.foldl (fun b k => if isLevelSource k && !b.accountMode k then b else b.occur k) a))

/-! ### Host groups and MSI-X (R516, R517, R347) -/

/-- The vector of group `g` is masked, by its table entry or by the function mask. -/
def State.msixMasked (s : State) (g : Nat) : Bool :=
  s.icu.functionMask || s.flag pgICU (Icu.MSIX_TABLE (4 * g + 3)) 0

def State.clearDue (s : State) (g : Nat) : State :=
  { s with icu := { s.icu with due := Tab.set (fun _ => false) s.icu.due g false,
                               held := Tab.set (fun _ => false) s.icu.held g false } }

/-- A due message of group `g` is issued: held in the PBA while masked, held for a link that is not in L0,
whose exit from L1 the device then begins itself (R347), sent
as the memory write of its table entry otherwise. -/
def State.msixSend (s : State) (g : Nat) : State :=
  if !Tab.get (fun _ => false) s.icu.due g && !Tab.get (fun _ => false) s.icu.held g then s
  else if s.msixMasked g then (s.clearDue g).setFlag pgICU (Icu.MSIX_PBA 0) g true
  else if !s.icu.linkL0 then
    let s1 := s.clearDue g
    { s1 with icu := { s1.icu with held := Tab.set (fun _ => false) s1.icu.held g true, exitL1 := s1.icu.exitL1 || s1.icu.linkL1 } }
  else
    (s.clearDue g).emit (.msix g (s.reg pgICU (Icu.MSIX_TABLE (4 * g + 1))) (s.reg pgICU (Icu.MSIX_TABLE (4 * g)))
      (s.reg pgICU (Icu.MSIX_TABLE (4 * g + 2))))

def execMsixSend (group : Fin 4) (s : State) : Host.Outcome State Fault Refusal := done (s.msixSend group.val)

/-- Unmasking: a set PBA bit becomes a due message when CLAIMABLE still reads 1, and clears otherwise (R517). -/
def State.msixUnmask (s : State) (g : Nat) : State :=
  if s.msixMasked g || !s.flag pgICU (Icu.MSIX_PBA 0) g then s
  else
    let s1 := s.setFlag pgICU (Icu.MSIX_PBA 0) g false
    if s1.claimable (4 + g) then s1.msixDue g else s1

/-- A write of word `i` of the MSI-X table, from the PCIe requester only (R516). -/
def State.msixTable (s : State) (r : Requester) (i : Nat) (v : Word) : State :=
  if r != Requester.pcie then s.fault pgICU Icu.F_BAD_ACCESS
  else (s.setReg pgICU (Icu.MSIX_TABLE i) v).msixUnmask (i / 4)

end Sys2Proof.Machine
end

