-- ==== Sys2Proof/Machine/PluOps.lean ====
section
/-!
DEFINITION. The pixel lane instruction set: decoding, operand forms and results (R166 to R186), written over one pixel's
registers, its snapshot and memory.
-/
namespace Sys2Proof.Machine

/-! ### Decoding (R167, R168, R171, R172) -/

/-- The fields of an instruction word (R167). -/
structure Ins where
  op : Nat
  d : Nat
  a : Nat
  b : Nat
  c : Nat
  g : Bool
  gp : Nat
  gn : Bool
  lanes : Nat
  t : Bool
  f : Nat
  deriving DecidableEq, Repr

def bits64 (w : BitVec 64) (hi lo : Nat) : Nat := w.toNat / 2 ^ lo % 2 ^ (hi + 1 - lo)

def splitWord (w : BitVec 64) : Ins :=
  { op := bits64 w 63 58, d := bits64 w 57 54, a := bits64 w 53 50, b := bits64 w 49 46, c := bits64 w 45 42
    g := bits64 w 41 41 == 1, gp := bits64 w 40 39, gn := bits64 w 38 38 == 1, lanes := bits64 w 37 34
    t := bits64 w 33 33 == 1, f := bits64 w 31 0 }

/-- What kind of register a field names (R168): 0 the field is not used. -/
structure OpRow where
  op : Nat
  d : Nat
  a : Nat
  b : Nat
  c : Nat
  lanes : Bool
  g : Bool
  t : Bool
  func : Nat
  cost : Nat
  deriving DecidableEq, Repr

def V : Nat := 16
def S : Nat := 8
def P : Nat := 4

/-- The rows of R171: operand kinds by their register counts, LANES, guard, T, the FUNC bits used, the issue cost. -/
def opRows : List OpRow := [
  ⟨0x01, 0, 0, 0, 0, false, false, false, 0, 1⟩,
  ⟨0x02, 0, 0, 0, 0, false, false, false, 0, 1⟩,
  ⟨0x03, 0, 0, 0, 0, false, false, false, 0xFFFF, 1⟩,
  ⟨0x04, 0, 0, 0, 0, false, false, false, 0, 1⟩,
  ⟨0x05, P, 0, 0, 0, true, false, false, 0xF, 1⟩,
  ⟨0x06, P, P, P, 0, true, false, false, 0x3, 1⟩,
  ⟨0x07, P, V, V, 0, true, false, true, 0x8007FFFF, 1⟩,
  ⟨0x08, V, V, 0, 0, true, true, false, 0, 1⟩,
  ⟨0x09, V, 0, 0, 0, true, true, false, 0xFFFF, 1⟩,
  ⟨0x0A, V, S, 0, 0, true, true, false, 0, 1⟩,
  ⟨0x0B, S, V, 0, 0, false, false, true, 0x3, 1⟩,
  ⟨0x0C, V, V, 0, 0, true, true, false, 0xFF, 1⟩,
  ⟨0x0D, V, V, V, 0, true, true, false, 0x3, 1⟩,
  ⟨0x10, S, 0, 0, 0, false, false, false, 0xFFFFFFFF, 1⟩,
  ⟨0x11, S, S, S, 0, false, false, false, 0, 1⟩,
  ⟨0x12, S, S, S, 0, false, false, false, 0, 1⟩,
  ⟨0x13, S, S, S, 0, false, false, false, 0, 2⟩,
  ⟨0x14, S, S, S, 0, false, false, false, 0, 1⟩,
  ⟨0x15, S, S, S, 0, false, false, false, 0, 1⟩,
  ⟨0x16, S, 0, 0, 0, false, false, false, 0xF, 1⟩,
  ⟨0x18, V, S, S, 0, true, true, false, 0x810F0330, 2⟩,
  ⟨0x1C, V, V, V, S, true, true, false, 0x8F00FFFF, 2⟩,
  ⟨0x20, V, V, V, 0, true, true, true, 0x8000FFFF, 1⟩,
  ⟨0x21, V, V, V, 0, true, true, true, 0x8000FFFF, 1⟩,
  ⟨0x22, V, V, V, 0, true, true, true, 0x8000FFFF, 1⟩,
  ⟨0x23, V, V, V, V, true, true, true, 0x8000FFFF, 2⟩,
  ⟨0x24, V, V, V, 0, true, true, true, 0x8000FFFF, 1⟩,
  ⟨0x25, V, V, V, 0, true, true, true, 0x8000FFFF, 1⟩,
  ⟨0x26, V, V, V, 0, true, true, true, 0x8000FFFF, 1⟩,
  ⟨0x27, V, V, V, 0, true, true, true, 0x8000FFFF, 1⟩,
  ⟨0x28, V, V, 0, 0, true, true, true, 0xF, 1⟩,
  ⟨0x29, V, V, 0, 0, true, true, true, 0xF, 1⟩,
  ⟨0x2A, V, V, V, V, true, true, false, 0, 2⟩,
  ⟨0x30, V, V, 0, 0, true, true, false, 0, 4⟩,
  ⟨0x31, V, V, 0, 0, true, true, false, 0, 2⟩,
  ⟨0x32, V, V, 0, 0, true, true, false, 0x7, 2⟩,
  ⟨0x33, V, V, 0, 0, true, true, false, 0, 2⟩,
  ⟨0x34, V, V, 0, 0, true, true, false, 0, 1⟩,
  ⟨0x35, 0, V, 0, 0, false, false, false, 0, 1⟩]

def opRow (op : Nat) : Option OpRow := opRows.find? (fun r => r.op == op)

/-- A field names a register of its kind, or is 0 where the opcode does not use it. -/
def regOk (kind n : Nat) : Bool := if kind = 0 then n == 0 else decide (n < kind)

/-- FUNC holds no value listed as not used (R171, R176). -/
def funcOk (i : Ins) : Bool :=
  match i.op with
  | 0x07 => decide (i.f / 2 ^ 16 % 8 < 6)
  | 0x16 => decide (i.f % 16 < 8)
  | 0x18 => decide (i.f / 2 ^ 8 % 4 < 2) && decide (i.f / 2 ^ 4 % 4 < 3)
  | 0x1C => decide (i.f / 2 ^ 24 % 16 < 8) && (!i.f.testBit 31 || i.f % 2 ^ 16 == 0)
  | _ => true

/-- The register fields that SMP and BLND use only with FUNC[31] (R171). -/
def optionalOk (i : Ins) : Bool :=
  match i.op with
  | 0x18 => i.f.testBit 31 || (i.a == 0 && i.b == 0)
  | 0x1C => i.f.testBit 31 || i.c == 0
  | _ => true

/-- The instruction of a word, none for one that is ILLEGAL by itself (R168). -/
def decodeWord (w : BitVec 64) : Option Ins :=
  let i := splitWord w
  match opRow i.op with
  | none => none
  | some r =>
    if regOk r.d i.d && regOk r.a i.a && regOk r.b i.b && regOk r.c i.c && (r.lanes || i.lanes == 0)
        && (r.g || (!i.g && i.gp == 0 && !i.gn)) && (r.t || !i.t) && bits64 w 32 32 == 0
        && i.f &&& r.func == i.f && funcOk i && optionalOk i
    then some i else none

/-- Issue cost (R171). -/
def Ins.cost (i : Ins) : Nat :=
  if i.op = 0x18 ∧ i.f / 2 ^ 8 % 4 = 1 then 4 else match opRow i.op with | some r => r.cost | none => 1

/-- R179, R181: what is ILLEGAL at this point of the run. -/
def placeBad (i : Ins) (inBlock dosed stored : Bool) : Bool :=
  match i.op with
  | 0x02 | 0x03 => inBlock
  | 0x04 => !inBlock
  | 0x33 => inBlock || dosed
  | 0x35 => inBlock || stored
  | 0x18 => i.f.testBit 24 && (!inBlock || i.f / 2 ^ 16 % 16 != 0)
  | _ => false

/-! ### Registers and lanes (R166, R169, R170) -/

def PixelRun.lane (r : PixelRun) (reg c : Nat) : BitVec 16 := r.vr.getD (4 * reg + c) 0
def PixelRun.pred (r : PixelRun) (reg c : Nat) : Bool := r.pr.getD (4 * reg + c) false
def PixelRun.scalar (r : PixelRun) (reg : Nat) : Int := signed 32 (r.sr.getD reg 0).toNat

/-- Lane `c` is written (R169). -/
def PixelRun.writes (r : PixelRun) (i : Ins) (c : Nat) : Bool :=
  i.lanes.testBit c && (!i.g || (r.pred i.gp c != i.gn))

/-- Writes lanes of V[D] (R169). -/
def PixelRun.setV (r : PixelRun) (i : Ins) (f : Nat → BitVec 16) : PixelRun :=
  { r with vr := (List.range 4).foldl (fun l c => if r.writes i c then l.set (4 * i.d + c) (f c) else l) r.vr }

/-- Writes lanes of P[D] (R169). -/
def PixelRun.setP (r : PixelRun) (i : Ins) (f : Nat → Bool) : PixelRun :=
  { r with pr := (List.range 4).foldl (fun l c => if r.writes i c then l.set (4 * i.d + c) (f c) else l) r.pr }

/-- Writes S[D], saturating (R170). -/
def PixelRun.setS (r : PixelRun) (i : Ins) (x : Int) : PixelRun :=
  { r with sr := r.sr.set i.d (BitVec.ofInt 32 (satSigned 32 x)) }

/-- A lane read as T selects (R166). -/
def laneVal (t : Bool) (x : BitVec 16) : Int := if t then signed 16 x.toNat else x.toNat

/-- A result saturated to its lane type (R170). -/
def laneOf (t : Bool) (x : Int) : BitVec 16 :=
  BitVec.ofInt 16 (if t then clampInt (-32768) 32767 x else clampInt 0 65535 x)

/-- An unsigned result (R134, R170). -/
def lane16 (x : Int) : BitVec 16 := laneOf false x

/-- b of R171: V[B][c], or FUNC[15:0] when IB is 1. -/
def PixelRun.operandB (r : PixelRun) (i : Ins) (c : Nat) : BitVec 16 :=
  if i.f.testBit 31 then BitVec.ofNat 16 i.f else r.lane i.b c

/-! ### Arithmetic (R171, R173, R174) -/

def aluAdds (t : Bool) (a b : BitVec 16) : BitVec 16 := laneOf t (laneVal t a + laneVal t b)
def aluSubs (t : Bool) (a b : BitVec 16) : BitVec 16 := laneOf t (laneVal t a - laneVal t b)
/-- RHE(a × b / 32,768) with b read as Q1.15. -/
def mulQ (t : Bool) (a b : BitVec 16) : Int := rhe (laneVal t a * laneVal true b) 32768
def aluMul (t : Bool) (a b : BitVec 16) : BitVec 16 := laneOf t (mulQ t a b)
def aluMad (t : Bool) (a b w : BitVec 16) : BitVec 16 := laneOf t (laneVal t w + mulQ t a b)
def aluMin (t : Bool) (a b : BitVec 16) : BitVec 16 := laneOf t (min (laneVal t a) (laneVal t b))
def aluMax (t : Bool) (a b : BitVec 16) : BitVec 16 := laneOf t (max (laneVal t a) (laneVal t b))
def aluAbsd (t : Bool) (a b : BitVec 16) : BitVec 16 := laneOf t ((laneVal t a - laneVal t b).natAbs)
def aluAvg (t : Bool) (a b : BitVec 16) : BitVec 16 := laneOf t (rhe (laneVal t a + laneVal t b) 2)
def aluShr (t : Bool) (k : Nat) (a : BitVec 16) : BitVec 16 := laneOf t (rhe (laneVal t a) (2 ^ k))
def aluShl (t : Bool) (k : Nat) (a : BitVec 16) : BitVec 16 := laneOf t (laneVal t a * (2 ^ k : Nat))
def aluLerp (a b w : BitVec 16) : BitVec 16 :=
  lane16 (rhe (a.toNat * (65535 - (w.toNat : Int)) + b.toNat * w.toNat) 65535)

/-- The comparisons of CMP (R171, R173). -/
def compare_ (cond : Nat) (t : Bool) (a b : BitVec 16) : Bool :=
  let x := laneVal t a
  let y := laneVal t b
  match cond with
  | 0 => x == y
  | 1 => x != y
  | 2 => decide (x < y)
  | 3 => decide (x ≤ y)
  | 4 => decide (y < x)
  | _ => decide (y ≤ x)

/-- The operations of PLOG (R171). -/
def plogOp (op : Nat) (x y : Bool) : Bool :=
  match op with
  | 0 => x && y
  | 1 => x || y
  | 2 => x != y
  | _ => x && !y

/-! ### Blending (R176) -/

/-- One lane of BLND: `d` and `s` are the destination and source pixels, `o` the opacity. -/
def blendLane (mode o : Nat) (d s : Nat → Nat) (c : Nat) : BitVec 16 :=
  let a := rhe ((s 3 : Int) * o) 65535
  let na := 65535 - a
  let over3 := a + rhe ((d 3 : Int) * na) 65535
  let mix (m : Int) : Int := rhe (m * a + (d c : Int) * na) 65535
  let sc : Int := s c
  let dc : Int := d c
  lane16 (
    if c = 3 then (match mode with | 0 => s 3 | 1 | 2 => over3 | _ => d 3)
    else
      match mode with
      | 0 => sc
      | 1 => mix sc
      | 2 => rhe (sc * o) 65535 + rhe (dc * na) 65535
      | 3 => dc + rhe (sc * a) 65535
      | 4 => mix (rhe (dc * sc) 65535)
      | 5 => mix (sc + dc - rhe (sc * dc) 65535)
      | 6 => mix (max sc dc)
      | _ => mix (min sc dc))

/-! ### Sampling (R120, R182 to R186) -/

/-- A texel widened to the working format (R120). -/
def widen (fmt : Nat) (raw : List Byte) (c : Nat) : Nat :=
  match fmt with
  | 0 => leAt raw (2 * c) 2
  | 1 => leAt raw c 1 * 257
  | 2 => if c = 3 then 65535 else leAt raw 0 2
  | _ => if c = 3 then 65535 else leAt raw 0 1 * 257

/-- A texel index resolved against `n` texels (R185): EDGE 0 ZERO, 1 CLAMP, 2 WRAP. -/
def edgeIndex (edge n : Nat) (i : Int) : Option Nat :=
  match edge with
  | 0 => if 0 ≤ i ∧ i < n then some i.toNat else none
  | 1 => some (clampInt 0 ((n : Int) - 1) i).toNat
  | _ => some (i % n).toNat

/-- Channel `c` of texel (i, j) (R119, R185). -/
def State.texel (s : State) (l : LayerSnap) (edge : Nat) (i j : Int) (c : Nat) : Nat :=
  match edgeIndex edge l.width i, edgeIndex edge l.height j with
  | some x, some y =>
    widen l.fmt (s.bytes (l.base + y * l.stride + x * texelBytes l.fmt) (texelBytes l.fmt)) c
  | _, _ => 0

/-- Channel `c` of a sample at (x, y) in 1/256 texel (R183, R184). -/
def State.sampleAt (s : State) (l : LayerSnap) (filter edge : Nat) (x y : Int) (c : Nat) : BitVec 16 :=
  if filter = 0 then BitVec.ofNat 16 (s.texel l edge (x / 256) (y / 256) c)
  else
    let i := (x - 128) / 256
    let j := (y - 128) / 256
    let fx := (x - 128) % 256
    let fy := (y - 128) % 256
    lane16 (rhe ((s.texel l edge i j c : Int) * (256 - fx) * (256 - fy) + s.texel l edge (i + 1) j c * fx * (256 - fy)
      + s.texel l edge i (j + 1) c * (256 - fx) * fy + s.texel l edge (i + 1) (j + 1) c * fx * fy) 65536)

/-- The layer that SMP names (R182). -/
def PixelRun.smpLayerNo (r : PixelRun) (i : Ins) : Nat :=
  if i.f.testBit 24 then (match r.blk with | some b => b.layers.headD 0 | none => 0) else i.f / 2 ^ 16 % 16

/-- Channel `c` of SMP's result; a layer that is not VALID, or outside LAYER_MASK, reads 0 (R186). -/
def State.smpLane (s : State) (x : Snap) (r : PixelRun) (i : Ins) (c : Nat) : BitVec 16 :=
  match x.layers.find? (fun l => l.layer == r.smpLayerNo i) with
  | none => 0
  | some l =>
    if l.buf.isNone then 0
    else
      let du := if i.f.testBit 31 then r.scalar i.a else 0
      let dv := if i.f.testBit 31 then r.scalar i.b else 0
      s.sampleAt l (i.f / 2 ^ 8 % 4) (i.f / 2 ^ 4 % 4) (r.u + du - l.orgU) (r.v + dv - l.orgV) c

/-! ### Stages (R135 to R149, R177, R178) -/

/-- Word `k` of the correction record at `a`, read by bits [14:0] (R135). -/
def State.coefficient (s : State) (a k : Nat) : Int := signed 15 (s.mem_ (a + 2 * k) 2)

/-- The address of a pixel's correction record, none for the identity record (R133, R136). -/
def State.correctionAt (s : State) (x : Snap) (pixel tile : Nat) : Option Nat :=
  if bits x.ctrl Cmp.CORR_MODE = 1 then some (x.corr + 32 * pixel)
  else if x.tileCount ≤ tile then none
  else some (x.corr + 32 * (s.mem_ (x.tiles + 128 * tile + 0x60) 4 % 2 ^ 23))

/-- The coefficients of a pixel's correction record, which the gather unit supplies before its run (R161). -/
def State.correctionOf (s : State) (x : Snap) (pixel tile : Nat) : Option (List Int) :=
  (s.correctionAt x pixel tile).map (fun a => (List.range 14).map (s.coefficient a))

/-- Channel `c` of MAT (R137). -/
def PixelRun.matLane (r : PixelRun) (i : Ins) (c : Nat) : BitVec 16 :=
  let v (k : Nat) : Int := (r.lane i.a k).toNat
  match r.record with
  | none => r.lane i.a c
  | some l =>
    let m (k : Nat) : Int := l.getD k 0
    lane16 (if c = 3 then rhe (m 12 * v 3 + m 13 * 65535) 8192
      else rhe (m (4 * c) * v 0 + m (4 * c + 1) * v 1 + m (4 * c + 2) * v 2 + m (4 * c + 3) * 65535) 8192)

/-- Entry `i` of transfer lookup set `set`, channel `c`, in region `n` (R138, R139). -/
def State.lutEntry (s : State) (n set c i : Nat) : Nat :=
  s.mem_ (sramOf n + 0x3C0000 + set * 0x8000 + c * 0x2000 + 2 * min i 4095) 2

/-- A lookup (R139). -/
def State.lutLane (s : State) (n set c : Nat) (x : BitVec 16) : BitVec 16 :=
  let i := x.toNat / 16
  let f := x.toNat % 16
  let l0 := s.lutEntry n set c i
  let l1 := s.lutEntry n set c (i + 1)
  lane16 (l0 + rhe (((l1 : Int) - l0) * f) 16)

/-- The dose gain of a pixel's channel, none for 1.0 (R133, R142), as the gather unit supplies it (R161). -/
def State.doseGainOf (s : State) (x : Snap) (tile c : Nat) : Option Nat :=
  if bit x.cmpCtrl 0 && decide (tile < x.tileCount) then
    some (s.mem_ (x.tiles + 128 * tile + 0x50 + 8 * x.slot + 2 * c) 2)
  else none

/-- Channel `c` of DOSE (R142, R177). -/
def PixelRun.doseLane (r : PixelRun) (i : Ins) (c : Nat) : BitVec 16 :=
  match r.gains.getD c none with
  | some g => lane16 (rhe ((r.lane i.a c).toNat * g) 32768)
  | none => r.lane i.a c

/-- The dither noise n of R148. -/
def ditherNoise (seedLo seedHi : Word) (frame p c : Nat) : Nat :=
  let h0 : Word := seedLo ^^^ (BitVec.ofNat 32 frame * 0x9E3779B9)
  let h1 := h0 ^^^ (BitVec.ofNat 32 (p * 4 + c) * 0x85EBCA6B)
  let h2 := h1 ^^^ seedHi
  let h3 := (h2 ^^^ (h2 >>> 16)) * 0x7FEB352D
  let h4 := (h3 ^^^ (h3 >>> 15)) * 0x846CA68B
  let h5 := h4 ^^^ (h4 >>> 16)
  h5.toNat / 2 ^ 16

/-- Dithering to `d` bits (R149). -/
def ditherTo (d noise y : Nat) : Nat :=
  if d = 16 then y else min (2 ^ d - 1) ((y + noise / 2 ^ d) / 2 ^ (16 - d))

def ditherLane (x : Snap) (r : PixelRun) (i : Ins) (c : Nat) : BitVec 16 :=
  BitVec.ofNat 16 (ditherTo (depthOf x.ctrl) (ditherNoise x.seedLo x.seedHi x.frame r.pixel c) (r.lane i.a c).toNat)

/-- Address of pixel `p` in the output frame buffer slot of a frame (R150). -/
def Snap.outAt (x : Snap) (p : Nat) : Nat :=
  x.ofb + x.frame % 3 * ofbSlot x.count (depthOf x.ctrl) + p * outBytes (depthOf x.ctrl)

/-- The bytes of a stored pixel (R150, R178): each lane limited to the depth. -/
def pixelBytes (depth : Nat) (lanes : List Nat) : List Byte :=
  lanes.flatMap (fun v => leBytes (outBytes depth / 4) (min v (2 ^ depth - 1)))

def State.storePixel (s : State) (x : Snap) (p : Nat) (lanes : List Nat) : State :=
  s.hwBytes (x.outAt p) (pixelBytes (depthOf x.ctrl) lanes)

/-! ### Implicit values (R175) -/

def sgetValue (x : Snap) (r : PixelRun) (sel : Nat) : Int :=
  match sel with
  | 0 => r.pixel
  | 1 => r.u
  | 2 => r.v
  | 3 => r.tile
  | 4 => signed 32 x.frame
  | _ =>
    match r.blk with
    | none => -1
    | some b => if sel = 5 then b.layers.headD 0 else if sel = 6 then b.index else b.count

end Sys2Proof.Machine
end

