-- ==== Sys2Proof/Machine/Plu.lean ====
section
/-!
DEFINITION. The Pixel Lane Units: the run of a pixel, its faults, and the meaning of every opcode (R159 to R198). A
command names its PLU; it acts where the word that the PLU fetches holds its opcode.
-/
namespace Sys2Proof.Machine

/-! ### The running job -/

def State.pluOf (s : State) (k : Nat) : PluState := Tab.get (fun _ => PluState.init) s.plu k
def State.setPlu (s : State) (k : Nat) (v : PluState) : State :=
  { s with plu := Tab.set (fun _ => PluState.init) s.plu k v }

/-- The pixel's run of a PLU becomes `r`. -/
def State.setRun (s : State) (k : Nat) (r : Option PixelRun) : State := s.setPlu k { s.pluOf k with run := r }

/-- The job with the least order of dispatch. -/
def firstSent : List Job → Option Job
  | [] => none
  | j :: t =>
    match firstSent t with
    | none => some j
    | some x => if x.sentAt < j.sentAt then some x else some j

/-- The job that PLU `k` runs: of the jobs it holds, the one dispatched first (R220). -/
def State.pluJob (s : State) (k : Nat) : Option Job :=
  firstSent ((s.regionOf (k / 8)).jobs.filter (fun j => j.phase == .dispatched && j.executor == k))

/-- The snapshot that a TILE job runs under; none where it processes no pixel (R222). -/
def State.tileSnap (s : State) (j : Job) : Option Snap :=
  if j.type = 0 then
    match s.snapOfJob (j.arg 0 % 16) j with
    | some x => if j.arg 1 + j.arg 2 ≤ x.count then some x else none
    | none => none
  else none

/-- Job and snapshot of the pixels that PLU `k` runs. -/
def State.pluTile (s : State) (k : Nat) : Option (Job × Snap) :=
  if !s.engineRuns then none
  else (s.pluJob k).bind (fun j => (s.tileSnap j).map (fun x => (j, x)))

/-! ### Faults of a pixel (R189 to R191) -/

/-- A fault of PLU `k` on the map of snapshot `x`: kind 0 ILLEGAL, 1 LENGTH, 2 NO_STORE, 3 SMP_LAYER, at word `w`. -/
def State.progFault (s : State) (m k kind w pixel : Nat) : State :=
  let p := cmpOfMap m
  let s1 := s.setFlag p Cmp.PROG_FAULT kind true
  if s.flag p Cmp.PROG_FAULT_INFO 31 then s1
  else (s1.setNat p Cmp.PROG_FAULT_INFO (2 ^ 31 + k * 2 ^ 24 + m % 4 * 2 ^ 20 + kind * 2 ^ 16 + w % 2 ^ 13)).setNat p
    Cmp.PROG_FAULT_PIX (pixel % 2 ^ 23)

/-- A pixel of PLU `k` counts as faulting (R190, R191). -/
def State.faultPixel (s : State) (m k : Nat) : State :=
  let s1 := (s.inc (cmpOfMap m) Cmp.PROG_FAULT_COUNT).count (8 * k + 5) 1
  s1.setPlu k { s1.pluOf k with faulted := true }

/-- The run of a pixel is over: its issue cycles are counted, as issue and as busy cycles (R187, R594). -/
def State.endPixel (s : State) (k : Nat) (r : PixelRun) : State :=
  ((s.setRun k none).count (8 * k + 6) r.cost).count (8 * k) r.cost

/-- ILLEGAL or LENGTH: the run stops and the pixel is stored as 0 (R189). -/
def State.stopPixel (s : State) (m k kind w : Nat) (x : Snap) (r : PixelRun) : State :=
  let s1 := (s.progFault m k kind w r.pixel).storePixel x r.pixel [0, 0, 0, 0]
  let s2 := if r.smpLayer then s1 else s1.faultPixel m k
  s2.endPixel k r

/-! ### One instruction -/

/-- The word at the pc lies beyond the program's extent (R189). -/
def beyond (x : Snap) (pc : Nat) : Bool := decide (x.entry + 512 ≤ pc) || decide (8192 ≤ pc)

/-- Word `w` of region `n`'s program memory. -/
def State.progWord (s : State) (n w : Nat) : BitVec 64 := Tab.get (fun _ => 0) s.prog (8192 * n + w)

/-- What a fetch gives: the instruction, or the kind of fault (R168, R179, R181, R189). -/
def State.pluFetch (s : State) (k : Nat) (x : Snap) (r : PixelRun) (inBlock : Bool) : Except Nat Ins :=
  if beyond x r.pc then .error 1
  else
    match decodeWord (s.progWord (k / 8) r.pc) with
    | none => .error 0
    | some i => if placeBad i inBlock r.dosed r.stored then .error 0 else .ok i

/-- PLU `k` executes the instruction at its pc when that is an instruction of opcode `op`; a fetch that faults stops the
pixel whatever was meant. `eff` gets the run with the pc moved on and the cost charged. -/
def State.pluStep (s : State) (k op : Nat) (eff : Ins → Job → Snap → PixelRun → State → State) : State :=
  match s.pluTile k, (s.pluOf k).run with
  | some (j, x), some r =>
    match s.pluFetch k x r r.blk.isSome with
    | .error kind => s.stopPixel (j.arg 0 % 16) k kind r.pc x { r with cost := r.cost + 1 }
    | .ok i => if i.op = op then eff i j x { r with pc := r.pc + 1, cost := r.cost + i.cost } s else s
  | _, _ => s

/-- An instruction whose whole effect is on the pixel's registers. -/
def State.pluAlu (s : State) (k op : Nat) (f : Ins → Snap → PixelRun → PixelRun) : State :=
  s.pluStep k op (fun i _ x r a => a.setRun k (some (f i x r)))

/-- An instruction that writes V[D] lane by lane from V[A] and operand b, by lane type. -/
def State.pluLanes (s : State) (k op : Nat) (f : Bool → BitVec 16 → BitVec 16 → BitVec 16) : State :=
  s.pluAlu k op (fun i _ r => r.setV i (fun c => f i.t (r.lane i.a c) (r.operandB i c)))

/-- A shift of V[A] by FUNC[3:0]. -/
def State.pluShift (s : State) (k op : Nat) (f : Bool → Nat → BitVec 16 → BitVec 16) : State :=
  s.pluAlu k op (fun i _ r => r.setV i (fun c => f i.t (i.f % 16) (r.lane i.a c)))

/-- An instruction on S registers. -/
def State.pluScalar (s : State) (k op : Nat) (f : Int → Int → Int) : State :=
  s.pluAlu k op (fun i _ r => r.setS i (f (r.scalar i.a) (r.scalar i.b)))

/-! ### Pixels -/

/-- The pixel-map entry of pixel `p`, and its tile (R131, R132). -/
def State.pixelEntry (s : State) (x : Snap) (p : Nat) : Nat := s.mem_ (x.base + 8 * p) 8
def State.pixelTile (s : State) (x : Snap) (p : Nat) : Nat :=
  x.banks.getD (p / 65536) 0 + s.pixelEntry x p / 2 ^ 48

/-- The registers at the start of a pixel's run (R160, R161). -/
def State.freshRun (s : State) (x : Snap) (p : Nat) : PixelRun :=
  let e := s.pixelEntry x p
  { pixel := p, pc := x.entry, u := e % 2 ^ 24, v := e / 2 ^ 24 % 2 ^ 24, tile := s.pixelTile x p,
    vr := List.replicate 64 0, sr := x.consts, pr := List.replicate 16 false, blk := none, dosed := false,
    stored := false, dose := [0, 0, 0, 0], cost := 0, smpLayer := false,
    record := s.correctionOf x p (s.pixelTile x p), gains := (List.range 4).map (s.doseGainOf x (s.pixelTile x p)) }

/-- TILE_RANGE, once per snapshot (R133). -/
def State.tileRange (s : State) (m : Nat) (x : Snap) : State :=
  if x.rangeSeen then s
  else (s.setSnaps m ((s.snapsOf m).map (fun y => if y.frame = x.frame ∧ y.swath = x.swath then { y with rangeSeen := true } else y))).fault
    (cmpOfMap m) Cmp.F_TILE_RANGE

/-- The gather unit has supplied a pixel's operands while PLU `k` waited `waits` cycles (R161, R187); a correction record marks the
cluster's cache (R73; log entry 61). -/
def State.gathered (s : State) (k waits : Nat) (record : Bool) : State :=
  let s1 := (s.count (8 * k + 1) waits).count (8 * k) waits
  if record then s1.setFlag (pgPLC (k / 2)) PAGE_STATUS 16 true else s1

/-- PLU `k` begins the run of the next pixel of its TILE job, after `waits` cycles of waiting for the gather unit. -/
def State.beginPixel (s : State) (k waits : Nat) : State :=
  let u := s.pluOf k
  match s.pluTile k, u.run with
  | some (j, x), none =>
    if u.next < j.arg 2 then
      let p := j.arg 1 + u.next
      let r := s.freshRun x p
      let s1 := ((s.setPlu k { u with next := u.next + 1, run := some r }).count (8 * k + 4) 1).gathered k waits r.record.isSome
      if x.tileCount ≤ s.pixelTile x p then s1.tileRange (j.arg 0 % 16) x else s1
    else s
  | _, _ => s

def execPixelRun (plu : Fin 32) (waits : Nat) (s : State) : Host.Outcome State Fault Refusal :=
  done (s.beginPixel plu waits)

/-! ### Control -/

/-- The dose contributions of a pixel join those of its job (R142). -/
def addDose (sums : Tab Nat) (tile : Nat) (dose : List Nat) : Tab Nat :=
  (List.range 4).foldl (fun t c =>
    Tab.set (fun _ => 0) t (4 * tile + c) (Tab.get (fun _ => 0) t (4 * tile + c) + dose.getD c 0)) sums

/-- END: NO_STORE where no ST was executed; PROG_COST; the dose contributions are kept (R189, R193). -/
def State.finishPixel (s : State) (k : Nat) (j : Job) (x : Snap) (r : PixelRun) : State :=
  let m := j.arg 0 % 16
  let s1 := if r.stored then s else (s.progFault m k 2 (r.pc - 1) r.pixel).storePixel x r.pixel [0, 0, 0, 0]
  let s2 := if r.stored || r.smpLayer then s1 else s1.faultPixel m k
  let s3 := s2.setFld (cmpOfMap m) (Cmp.PROG_COST (m % 4)) (15, 0) r.cost
  let s4 := s3.setPlu k { s3.pluOf k with sums := addDose (s3.pluOf k).sums r.tile r.dose }
  s4.endPixel k r

/-- The skip of a repeat block for which no layer is selected (R180): every word up to its ENDR is checked and charged.
Answers the run behind the ENDR, or the kind of fault. -/
def State.skipBlock (s : State) (k : Nat) (x : Snap) : Nat → PixelRun → PixelRun × Option Nat
  | 0, r => (r, some 1)
  | n + 1, r =>
    match s.pluFetch k x r true with
    | .error kind => ({ r with cost := r.cost + 1 }, some kind)
    | .ok i =>
      let r1 := { r with pc := r.pc + 1, cost := r.cost + 1 }
      if i.op = 4 then (r1, none) else State.skipBlock s k x n r1

/-- The layers that a repeat block runs for (R180). -/
def repLayers (x : Snap) (mask : Nat) : List Nat := (List.range 16).filter (fun l => x.mask.testBit l && mask.testBit l)

def State.openBlock (s : State) (k : Nat) (i : Ins) (j : Job) (x : Snap) (r : PixelRun) : State :=
  match repLayers x (i.f % 65536) with
  | [] =>
    match s.skipBlock k x 513 r with
    | (r1, none) => s.setRun k (some r1)
    | (r1, some kind) => s.stopPixel (j.arg 0 % 16) k kind r1.pc x r1
  | l :: t => s.setRun k (some { r with blk := some ⟨r.pc, l :: t, 0, t.length + 1⟩ })

/-- ENDR: the next layer, or on behind the block. -/
def PixelRun.closeBlock (r : PixelRun) : PixelRun :=
  match r.blk with
  | none => r
  | some b =>
    match b.layers.drop 1 with
    | [] => { r with blk := none }
    | l :: t => { r with pc := b.body, blk := some { b with layers := l :: t, index := b.index + 1 } }

def execNop (plu : Fin 32) (s : State) : Host.Outcome State Fault Refusal :=
  done (s.pluAlu plu 0x01 (fun _ _ r => r))

def execEndRun (plu : Fin 32) (s : State) : Host.Outcome State Fault Refusal :=
  done (s.pluStep plu 0x02 (fun _ j x r a => a.finishPixel plu j x r))

def execRep (plu : Fin 32) (s : State) : Host.Outcome State Fault Refusal :=
  done (s.pluStep plu 0x03 (fun i j x r a => a.openBlock plu i j x r))

def execEndr (plu : Fin 32) (s : State) : Host.Outcome State Fault Refusal :=
  done (s.pluAlu plu 0x04 (fun _ _ r => r.closeBlock))

/-! ### Predicates and moves -/

/-- PSET: P[D][c] = IMM4[c]. -/
def execPset (plu : Fin 32) (s : State) : Host.Outcome State Fault Refusal :=
  done (s.pluAlu plu 0x05 (fun i _ r => r.setP i (fun c => i.f.testBit c)))

def execPlog (plu : Fin 32) (s : State) : Host.Outcome State Fault Refusal :=
  done (s.pluAlu plu 0x06 (fun i _ r => r.setP i (fun c => plogOp (i.f % 4) (r.pred i.a c) (r.pred i.b c))))

def execCmp (plu : Fin 32) (s : State) : Host.Outcome State Fault Refusal :=
  done (s.pluAlu plu 0x07 (fun i _ r =>
    r.setP i (fun c => compare_ (i.f / 2 ^ 16 % 8) i.t (r.lane i.a c) (r.operandB i c))))

def execMov (plu : Fin 32) (s : State) : Host.Outcome State Fault Refusal :=
  done (s.pluAlu plu 0x08 (fun i _ r => r.setV i (fun c => r.lane i.a c)))

def execVldi (plu : Fin 32) (s : State) : Host.Outcome State Fault Refusal :=
  done (s.pluAlu plu 0x09 (fun i _ r => r.setV i (fun _ => BitVec.ofNat 16 i.f)))

def execVsplat (plu : Fin 32) (s : State) : Host.Outcome State Fault Refusal :=
  done (s.pluAlu plu 0x0A (fun i _ r => r.setV i (fun _ => BitVec.ofInt 16 (r.scalar i.a))))

def execVext (plu : Fin 32) (s : State) : Host.Outcome State Fault Refusal :=
  done (s.pluAlu plu 0x0B (fun i _ r => r.setS i (laneVal i.t (r.lane i.a (i.f % 4)))))

def execSwz (plu : Fin 32) (s : State) : Host.Outcome State Fault Refusal :=
  done (s.pluAlu plu 0x0C (fun i _ r => r.setV i (fun c => r.lane i.a (i.f / 4 ^ c % 4))))

def execSel (plu : Fin 32) (s : State) : Host.Outcome State Fault Refusal :=
  done (s.pluAlu plu 0x0D (fun i _ r =>
    r.setV i (fun c => if r.pred (i.f % 4) c then r.lane i.a c else r.lane i.b c)))

/-! ### Scalars -/

def execSldi (plu : Fin 32) (s : State) : Host.Outcome State Fault Refusal :=
  done (s.pluAlu plu 0x10 (fun i _ r => r.setS i (signed 32 i.f)))

def execSadd (plu : Fin 32) (s : State) : Host.Outcome State Fault Refusal :=
  done (s.pluScalar plu 0x11 (fun a b => a + b))

def execSsub (plu : Fin 32) (s : State) : Host.Outcome State Fault Refusal :=
  done (s.pluScalar plu 0x12 (fun a b => a - b))

def execSmul (plu : Fin 32) (s : State) : Host.Outcome State Fault Refusal :=
  done (s.pluScalar plu 0x13 (fun a b => a * b))

def execSmin (plu : Fin 32) (s : State) : Host.Outcome State Fault Refusal :=
  done (s.pluScalar plu 0x14 (fun a b => min a b))

def execSmax (plu : Fin 32) (s : State) : Host.Outcome State Fault Refusal :=
  done (s.pluScalar plu 0x15 (fun a b => max a b))

def execSget (plu : Fin 32) (s : State) : Host.Outcome State Fault Refusal :=
  done (s.pluAlu plu 0x16 (fun i x r => r.setS i (sgetValue x r (i.f % 16))))

/-! ### Sampling and blending -/

/-- SMP of a layer outside the snapshot's LAYER_MASK raises SMP_LAYER; the pixel counts once as faulting (R186, R191). -/
def State.smpCheck (s : State) (k m : Nat) (x : Snap) (r : PixelRun) (i : Ins) : State :=
  if x.mask.testBit (r.smpLayerNo i) then s
  else
    let s1 := s.progFault m k 3 (r.pc - 1) r.pixel
    if r.smpLayer then s1 else s1.faultPixel m k

def State.doSmp (s : State) (k : Nat) (i : Ins) (j : Job) (x : Snap) (r : PixelRun) : State :=
  let r1 := { r with smpLayer := r.smpLayer || !x.mask.testBit (r.smpLayerNo i) }
  (s.smpCheck k (j.arg 0 % 16) x r i).setRun k (some (r1.setV i (s.smpLane x r i)))

def execSmp (plu : Fin 32) (s : State) : Host.Outcome State Fault Refusal :=
  done (s.pluStep plu 0x18 (fun i j x r a => a.doSmp plu i j x r))

def execBlnd (plu : Fin 32) (s : State) : Host.Outcome State Fault Refusal :=
  done (s.pluAlu plu 0x1C (fun i _ r =>
    let o := if i.f.testBit 31 then unsign 16 (r.scalar i.c) else i.f % 2 ^ 16
    r.setV i (blendLane (i.f / 2 ^ 24 % 16) o (fun c => (r.lane i.a c).toNat) (fun c => (r.lane i.b c).toNat))))

/-! ### Lane arithmetic -/

def execAdds (plu : Fin 32) (s : State) : Host.Outcome State Fault Refusal := done (s.pluLanes plu 0x20 aluAdds)

def execSubs (plu : Fin 32) (s : State) : Host.Outcome State Fault Refusal := done (s.pluLanes plu 0x21 aluSubs)

def execMul (plu : Fin 32) (s : State) : Host.Outcome State Fault Refusal := done (s.pluLanes plu 0x22 aluMul)

def execMad (plu : Fin 32) (s : State) : Host.Outcome State Fault Refusal :=
  done (s.pluAlu plu 0x23 (fun i _ r =>
    r.setV i (fun c => aluMad i.t (r.lane i.a c) (r.operandB i c) (r.lane i.c c))))

def execMin (plu : Fin 32) (s : State) : Host.Outcome State Fault Refusal := done (s.pluLanes plu 0x24 aluMin)

def execMax (plu : Fin 32) (s : State) : Host.Outcome State Fault Refusal := done (s.pluLanes plu 0x25 aluMax)

def execAbsd (plu : Fin 32) (s : State) : Host.Outcome State Fault Refusal := done (s.pluLanes plu 0x26 aluAbsd)

def execAvg (plu : Fin 32) (s : State) : Host.Outcome State Fault Refusal := done (s.pluLanes plu 0x27 aluAvg)

def execShr (plu : Fin 32) (s : State) : Host.Outcome State Fault Refusal := done (s.pluShift plu 0x28 aluShr)

def execShl (plu : Fin 32) (s : State) : Host.Outcome State Fault Refusal := done (s.pluShift plu 0x29 aluShl)

def execLerp (plu : Fin 32) (s : State) : Host.Outcome State Fault Refusal :=
  done (s.pluAlu plu 0x2A (fun i _ r =>
    r.setV i (fun c => aluLerp (r.lane i.a c) (r.lane i.b c) (r.lane i.c c))))

/-! ### Stages -/

/-- MAT by the record that the gather unit supplied (R137, R161). -/
def execMat (plu : Fin 32) (s : State) : Host.Outcome State Fault Refusal :=
  done (s.pluAlu plu 0x30 (fun i _ r => r.setV i (r.matLane i)))

def execLut (plu : Fin 32) (s : State) : Host.Outcome State Fault Refusal :=
  done (s.pluAlu plu 0x31 (fun i x r =>
    r.setV i (fun c => s.lutLane (plu / 8) (bits x.ctrl Cmp.LUT_SET) c (r.lane i.a c))))

def execLuts (plu : Fin 32) (s : State) : Host.Outcome State Fault Refusal :=
  done (s.pluAlu plu 0x32 (fun i _ r => r.setV i (fun c => s.lutLane (plu / 8) (i.f % 8) c (r.lane i.a c))))

/-- DOSE: the gained lanes, and the contributions of the lanes written (R142, R177). -/
def PixelRun.doseRun (r : PixelRun) (x : Snap) (i : Ins) : PixelRun :=
  let adds (c : Nat) : Bool := r.writes i c && bit x.cmpCtrl 1 && decide (r.tile < x.tileCount)
  { r.setV i (r.doseLane i) with
    dosed := true
    dose := (List.range 4).map (fun c => if adds c then (r.doseLane i c).toNat else 0) }

def execDose (plu : Fin 32) (s : State) : Host.Outcome State Fault Refusal :=
  done (s.pluAlu plu 0x33 (fun i x r => r.doseRun x i))

def execDith (plu : Fin 32) (s : State) : Host.Outcome State Fault Refusal :=
  done (s.pluAlu plu 0x34 (fun i x r => r.setV i (ditherLane x r i)))

def execSt (plu : Fin 32) (s : State) : Host.Outcome State Fault Refusal :=
  done (s.pluStep plu 0x35 (fun i _ x r a =>
    (a.storePixel x r.pixel ((List.range 4).map (fun c => (r.lane i.a c).toNat))).setRun plu
      (some { r with stored := true })))

/-! ### Program memory (R162 to R164, R193, R194, R197) -/

/-- A PROG_DATA_LO write stages word[31:0]. -/
def State.progLo (s : State) (n : Nat) (v : Word) : State :=
  { s with progStage := Tab.set (fun _ => 0) s.progStage n v }

def State.setProg (s : State) (n w : Nat) (v : BitVec 64) : State :=
  { s with prog := Tab.set (fun _ => 0) s.prog (8192 * n + w) v }

/-- A PROG_DATA_HI write: the staged word and this value go to PROG_ADDR, in one region or all four. -/
def State.progHi (s : State) (n : Nat) (v : Word) : State :=
  let p := pgCMP n
  let a := s.fld p Cmp.PROG_ADDR Cmp.ADDR
  let word : BitVec 64 := v ++ Tab.get (fun _ => 0) s.progStage n
  let s1 := if s.fld p Cmp.PROG_ADDR Cmp.BCAST = 1 then
      (((s.setProg 0 a word).setProg 1 a word).setProg 2 a word).setProg 3 a word
    else s.setProg n a word
  if s.fld p Cmp.PROG_ADDR Cmp.INC = 1 then s1.setFld p Cmp.PROG_ADDR Cmp.ADDR (a + 1) else s1

end Sys2Proof.Machine
end

