-- ==== Sys2Proof/Machine/RedBase.lean ====
section
/-!
DEFINITION. Synchronisation of the pair as other blocks see it (R549 to R554, R556): SYNC_STATE, ALIGNED, and the digest of
the outputs at a frame start.
-/
namespace Sys2Proof.Machine

/-! ### SYNC_STATE and ALIGNED (R550, R553, R554) -/

def State.setRed (s : State) (r : RedState) : State := { s with red := r }

/-- SYNC_STATE becomes `n`, with interrupt 342. -/
def State.setSync (s : State) (n : Nat) : State :=
  if s.syncState = n then s
  else
    let r := s.red
    let s1 := s.setRed { r with
      syncedSince := if n = 3 then some s.tln.now else none
      ownDigests := if n = 1 ∨ n = 3 then r.ownDigests else []
      peerDigests := if n = 1 ∨ n = 3 then r.peerDigests else []
      cutover := if n = 1 ∨ n = 3 then r.cutover else none
      convergeAt := if n = 1 ∨ n = 3 then r.convergeAt else none }
    (s1.setSts pgRED Red.S_SYNC_STATE n).irq 342

/-- On the ACTIVE device SYNC_STATE is what the partner reported, while the link stands (R553). -/
def State.syncRefresh (s : State) : State :=
  if s.stileHeld then s.setSync (if s.linkUp then (s.red.view.map (·.sync)).getD 0 else 0) else s

/-- The standby loses its synchronisation (R544, R552, R554). -/
def State.unsync (s : State) : State :=
  if !s.stileHeld && (s.syncState == 1 || s.syncState == 3 || s.syncState == 4) then s.setSync 0 else s

/-- ALIGNED: TL_STATE is LOCKED on PEER and the last 16 |e| are within PEER_LIMIT (R550). -/
def State.alignedNow (s : State) : Bool :=
  s.tlState == 2 && s.tlSrc == 8 && s.red.errs.length == 16
    && s.red.errs.all (fun e => decide (e ≤ (s.fld pgRED Red.PEER_LIMIT (15, 0) : Rat)))

def State.alignRefresh (s : State) : State :=
  let a := s.alignedNow
  if a == s.aligned then s else if a then s.setFld pgRED Red.PAIR_STATE Red.ALIGNED 1 else s.alignFalls

/-! ### Digests (R551) -/

/-- The slot that an output launches for content `g`: its own, or that of the frame it repeats (log entry 53). -/
def State.digestSlot (s : State) (key g : Nat) : Option Nat :=
  let p := s.portOf key
  if p.holds g then some (g % 2) else p.emitted.bind (fun e => if p.holds e then some (e % 2) else none)

def State.pxDigest (s : State) (j g : Nat) : List Byte :=
  match s.digestSlot (keyPX j) g with
  | none => []
  | some i =>
    let n := (((s.portOf (keyPX j)).fill i).map (·.count)).getD 0
    s.bytes (pxSlotAt j i) (ceilDiv (n * s.pxChannels j * s.pxDepth j) 8)

def State.dmxDigest (s : State) (j g : Nat) : List Byte :=
  match s.digestSlot (keyDMX j) g with
  | none => []
  | some i => (s.dmxSlots j i).map byteOf

/-- The frame values of a cluster that a start shows: its slot, or what stays in force. -/
def State.lampFrame (s : State) (n g : Nat) : List Nat :=
  let c := s.clusterOf n
  match s.digestSlot (keyLCL n) g with
  | some i => writeBuf 8 [] 0 ((s.portOf (keyLCL n)).buf i)
  | none => (c.launched.filterMap (fun e => e.2.1)).getLast?.getD c.force

/-- The engine values of a cluster for a start: those of its fix, or the latest launched. -/
def State.lampEngines (s : State) (n start : Nat) : List Nat :=
  let c := s.clusterOf n
  match c.fixedV.find? (fun e => e.1 == start) with
  | some e => e.2
  | none => (c.launched.map (fun e => e.2.2)).getLast?.getD c.patForce

/-- The eight source values of R449 that a start gives a cluster. -/
def State.lampDigest (s : State) (n g start : Nat) : List Byte :=
  (channelsOf n).flatMap (fun k =>
    leBytes 2 (s.sourceValue k ((s.lampFrame n g).getD (k % 8) 0)
      ((s.lampEngines n start).getD (s.fld (pgLMP k) Lmp.LMP_MODE Lmp.PAT_ENG) 0)))

/-- The launch that a start gives an output. -/
def State.launchOf (s : State) (k key start : Nat) : Nat :=
  match (s.launches key).find? (fun l => l.swath == k && l.start == start) with
  | some l => l.at_
  | none => ((s.outputsOf k).find? (fun o => o.1 == key)).elim start (fun o => s.launchAt k start o.2.1 o.2.2)

/-- The UDP payload of the segments of an entry, ORIGIN taken as 0. -/
def State.streamDigest (s : State) (k e g n start : Nat) (rep : Bool) : List Byte :=
  let x := s.entryOf e
  (List.range x.segs).flatMap (fun i =>
    let p := (s.cellFrame x g i n (s.launchOf k (keySTR e) start) rep false).drop x.hdrLen
    if x.loram then putAt p 7 [0] else p)

def State.fieldDigest (s : State) (j g : Nat) : List Byte :=
  match s.digestSlot (keyFLD j) g with
  | none => []
  | some i => (s.fldFrames j i).flatten

/-- What OUT_CRC of Swath `k` covers, for content `g`. -/
def State.digestBytes (s : State) (k g n start : Nat) (rep : Bool) : List Byte :=
  ((List.range 64).filter (s.pxUsed k)).flatMap (fun j => s.pxDigest j g)
    ++ ((List.range 12).filter (s.dmxUsed k)).flatMap (fun j => s.dmxDigest j g)
    ++ ((List.range 4).filter (s.lclUsed k)).flatMap (fun j => s.lampDigest j g start)
    ++ (s.streamsOf k).flatMap (fun e => s.streamDigest k e g n start rep)
    ++ ((List.range 8).filter (fun j => s.enabled (pgFLD j) && s.fldSched j && s.fldSwath j == k)).flatMap
        (fun j => s.fieldDigest j g)

/-- The rectangles that are not OFF, as a mask. -/
def State.rectMask (s : State) (k : Nat) : Nat :=
  (List.range 8).foldl (fun a r => if s.fld (pgSWT k) (Swt.RECT_CTRL r) (1, 0) = 0 then a else a + 2 ^ r) 0

/-- The digest of the frame start just made. -/
def State.makeDigest (s : State) (k start : Nat) (rep : Bool) : Digest :=
  let p := pgSWT k
  let g := s.nat p Swt.CONTENT_FRAME
  let n := s.nat p Swt.FRAME_COUNT
  let m := s.rectMask k
  ⟨k, n, g, m, (List.range 8).map (fun r => if m.testBit r then s.reg p (Swt.LAST_CRC r) else 0),
    crc32c (s.digestBytes k g n start rep)⟩

def Digest.payload (d : Digest) : List Byte :=
  beBytes 1 d.swath ++ beBytes 1 d.mask ++ beBytes 2 0 ++ beBytes 4 d.count ++ beBytes 4 d.frame
    ++ d.rects.flatMap (fun w => beBytes 4 w.toNat) ++ beBytes 4 d.out.toNat

def Digest.ofPayload (b : List Byte) : Digest :=
  ⟨beAt b 0 1 % 16, beAt b 4 4, beAt b 8 4, beAt b 1 1,
    (List.range 8).map (fun r => BitVec.ofNat 32 (beAt b (12 + 4 * r) 4)), BitVec.ofNat 32 (beAt b 44 4)⟩

/-- The Swath's digests are compared (R558). -/
def State.digestCompared (s : State) (k : Nat) : Bool :=
  !(s.differs && (s.localPage (pgSWT k) || s.flag pgRED Red.DIGEST_SKIP k))

/-- The digests of one start agree. -/
def Digest.agrees (a b : Digest) : Bool := a.frame == b.frame && a.mask == b.mask && a.rects == b.rects && a.out == b.out

/-- A difference: DIGEST_MISMATCH, its capture, and DIVERGED from SYNCED. -/
def State.digestDiffers (s : State) (a b : Digest) : State :=
  let out := a.mask == b.mask && a.rects == b.rects
  let s1 := s.count 1479 1
  let s2 := if s1.flag pgRED Red.MISMATCH_INFO 31 then s1
    else (s1.setNat pgRED Red.MISMATCH_INFO (2 ^ 31 + (if out then 256 else 0) + a.swath)).setNat pgRED Red.MISMATCH_FRAME
      a.count
  let s3 := (s2.fault pgRED Red.F_DIGEST_MISMATCH).trigger 0xE04 pgRED
  if s3.syncState = 3 then s3.setSync 4 else s3

/-- One pair of digests of the same start is compared; at the convergence start a match makes the standby SYNCED. -/
def State.compareDigest (s : State) (a b : Digest) : State :=
  if !s.digestCompared a.swath then
    if s.syncState = 1 ∧ s.red.convergeAt = some (a.swath, a.count) then s.setSync 3 else s
  else
    let s1 := s.count 1478 1
    if a.agrees b then
      let s2 := s1.setRed { s1.red with matched := Tab.set (fun _ => 0) s1.red.matched a.swath (a.frame + 1) }
      if s2.syncState = 1 ∧ s2.red.convergeAt = some (a.swath, a.count) then s2.setSync 3 else s2
    else s1.digestDiffers a b

/-- The standby compares while it is SYNCED, and in COPYING once the cutover is named. -/
def State.digestsRun (s : State) : Bool := !s.stileHeld && (s.syncState == 3 || (s.syncState == 1 && s.red.cutover.isSome))

/-- Takes the active's digest `b`. -/
def State.peerDigest (s : State) (b : Digest) : State :=
  if !s.digestsRun then s
  else
    match s.red.ownDigests.find? (fun a => a.swath == b.swath && a.count == b.count) with
    | some a => (s.setRed { s.red with ownDigests := s.red.ownDigests.filter (fun x => x != a) }).compareDigest a b
    | none => s.setRed { s.red with peerDigests := s.red.peerDigests ++ [b] }

def State.ownDigest (s : State) (a : Digest) : State :=
  if !s.digestsRun then s
  else
    match s.red.peerDigests.find? (fun b => a.swath == b.swath && a.count == b.count) with
    | some b => (s.setRed { s.red with peerDigests := s.red.peerDigests.filter (fun x => x != b) }).compareDigest a b
    | none => s.setRed { s.red with ownDigests := s.red.ownDigests ++ [a] }

/-- A start that shows a frame released after the cutover is the convergence start (R556): the active stops mirroring HW_STATE
writes and says so, and both clear the lamp carries at their next period boundaries. -/
def State.converge (s : State) (k : Nat) : State :=
  let p := pgSWT k
  if s.red.cutover.isSome && s.red.convergeAt.isNone
      && !s.red.atCut.isEmpty && decide (Tab.get (fun _ => 0) s.red.atCut k ≤ s.nat p Swt.CONTENT_FRAME) then
    let s1 := s.setRed { s.red with convergeAt := some (k, s.nat p Swt.FRAME_COUNT), carryReset := [0, 1, 2, 3], mirrorHw := false }
    s1.tell 0x21 (beBytes 1 5 ++ beBytes 3 0 ++ beBytes 4 (s.nat pgRED Red.SYNC_GEN) ++ s.nowWire)
  else s

/-- Both partners' digest of the frame start of Swath `k` just made. -/
def State.digestStart (s : State) (k start : Nat) (rep : Bool) : State :=
  if !s.linkUp then s
  else
    let s1 := s.converge k
    if s1.stileHeld then s1.tell 0x16 (s1.makeDigest k start rep).payload else s1.ownDigest (s1.makeDigest k start rep)

end Sys2Proof.Machine
end

