-- ==== Sys2Proof/Machine/RedCopy.lean ====
section
/-!
DEFINITION. The resynchronisation copy (R555 to R558): what it carries, in which blocks, how the active sends it and how the
standby applies it.
-/
namespace Sys2Proof.Machine

/-! ### Mirrored pages (R545, R558) -/

/-- Blocks whose pages are mirrored. -/
def Block.mirrored : Block → Bool
  | .swt | .cmp | .jsc | .fix | .pxp | .dmx | .fld | .str | .ing | .lmp | .lcl => true
  | _ => false

def mirrorPages : List Nat := allPages.filter (fun n => (pageInfo n).any (fun i => i.block.mirrored))

/-- A register is mirrored: every one of a mirrored page, and the pair seed. -/
def mirroredReg (page off : Nat) : Bool :=
  (pageInfo page).any (fun i => i.block.mirrored)
    || (page == pgRED && (off == Red.PAIR_SEED_LO || off == Red.PAIR_SEED_HI))

/-- The offsets of a row that lie on position `sub` of its group, from that page's base. -/
def RegRow.offsets (r : RegRow) (sub : Nat) : List Nat :=
  ((List.range r.count).map (fun i => r.off + r.stride * i)).filter (fun o => o / 0x1000 == sub) |>.map (· % 0x1000)

/-- The block registers of a page whose row `p` accepts, ascending. -/
def pageRegs (p : RegRow → Bool) (page : Nat) : List Nat :=
  match pageInfo page with
  | none => []
  | some i => sortNats (((i.block.rows i.inst).filter p).flatMap (fun r => r.offsets i.sub))

/-- Registers of the register image: those that writes set, with PAGE_CTRL (R555). -/
def imageRegs : List (Nat × Nat) :=
  mirrorPages.flatMap (fun g => (PAGE_CTRL :: pageRegs (fun r => r.rw != 0) g).map (fun o => (g, o)))
    ++ [(pgRED, Red.PAIR_SEED_LO), (pgRED, Red.PAIR_SEED_HI)]

/-- The RO state registers of the data-plane pages, with PAGE_STATUS (R542). -/
def hardwareRegs : List (Nat × Nat) :=
  mirrorPages.flatMap (fun g => (PAGE_STATUS :: pageRegs (fun r => r.rw == 0 && r.rws == 0) g).map (fun o => (g, o)))

/-! ### Blocks (R542, COPY) -/

/-- One span of a copy: its KIND, where it begins, and its bytes (KIND 1: registers). -/
structure CopySpan where
  kind : Nat
  base : Nat
  size : Nat
  deriving DecidableEq, Repr

/-- The VALID MIRROR ranges. -/
def State.mirrorSpans (s : State) : List CopySpan :=
  ((List.range 64).filter (fun i => bit (s.reg pgRED (Red.MIR_FLAGS i)) 0)).map (fun i =>
    ⟨0, s.nat pgRED (Red.MIR_BASE_LO i) / 4096 * 4096 + 2 ^ 32 * s.fld pgRED (Red.MIR_BASE_HI i) (7, 0),
      4096 * s.fld pgRED (Red.MIR_SIZE i) (20, 0)⟩)

/-- The spans of a copy, in the order of R555. -/
def State.copySpans (s : State) : List CopySpan :=
  s.mirrorSpans ++ [⟨1, 0, imageRegs.length⟩] ++ (List.range 4).map (fun n => ⟨2, 65536 * n, 65536⟩)
    ++ (List.range 4).map (fun n => ⟨3, sramOf n + 0x3C0000, 0x40000⟩)

/-- Units of a span that one block takes: 2,028 bytes, or 84 registers with two entries each. -/
def CopySpan.unit (c : CopySpan) : Nat := if c.kind = 1 then 84 else 2028
def CopySpan.blocks (c : CopySpan) : Nat := ceilDiv c.size c.unit
def CopySpan.bytes (c : CopySpan) : Nat := if c.kind = 1 then 24 * c.size else c.size

/-- The span and the place in it of block `i`. -/
def blockAt : List CopySpan → Nat → Option (CopySpan × Nat)
  | [], _ => none
  | c :: t, i => if i < c.blocks then some (c, i) else blockAt t (i - c.blocks)

/-- KiB of the first `i` blocks of a copy, rounded up, and of all. -/
def copyKib (l : List CopySpan) : Nat := ceilDiv ((l.map CopySpan.bytes).foldl (· + ·) 0) 1024
def copyBytesTo : List CopySpan → Nat → Nat
  | [], _ => 0
  | c :: t, i =>
    if i < c.blocks then (if c.kind = 1 then 24 else 1) * min c.size (i * c.unit) else c.bytes + copyBytesTo t (i - c.blocks)

/-- An entry of a register image: address, value, STAMP32 (R542, REGWRITE form). -/
def State.regEntry (s : State) (page off : Nat) (v : Word) : List Byte :=
  beBytes 4 (regKey page off) ++ beBytes 4 v.toNat ++ beBytes 4 (stamp32 s.tln.now)

/-- Byte `a` of the program memories as a copy reads them. -/
def State.progByte (s : State) (a : Nat) : Byte :=
  ((Tab.get (fun _ => 0) s.prog (a / 8)).toNat / 2 ^ (8 * (a % 8)) : Nat) |> BitVec.ofNat 8

/-- The payload of block `i` of a span. Each register gives its live value, then its shadow (log entry 55). -/
def State.copyBlock (s : State) (c : CopySpan) (i : Nat) : List Byte :=
  let n := min c.unit (c.size - i * c.unit)
  let at_ := c.base + i * c.unit
  let data :=
    match c.kind with
    | 1 => ((imageRegs.drop (i * c.unit)).take n).flatMap (fun e =>
        s.regEntry e.1 e.2 (s.reg e.1 e.2) ++ s.regEntry e.1 e.2 (s.shd e.1 e.2))
    | 2 => (List.range n).map (fun x => s.progByte (at_ + x))
    | _ => s.bytes at_ n
  beBytes 1 c.kind ++ beBytes 3 0 ++ beBytes 8 at_ ++ data

/-! ### The active's side -/

/-- The active queues the next blocks while fewer than 64 frames wait for their acknowledgement (log entry 56). -/
def State.pumpCopy (s : State) : Nat → State
  | 0 => s
  | n + 1 =>
    if !s.red.copying || !s.stileHeld || decide (64 ≤ s.red.unacked.length) then s
    else
      match blockAt s.copySpans s.red.copied with
      | none => s
      | some (c, i) =>
        let s1 := s.tsxSend 0x22 0 (s.copyBlock c i)
        let done_ := s1.red.copied + 1
        let s2 := s1.setRed { s1.red with copied := done_ }
        State.pumpCopy (s2.setNat pgRED Red.COPY_DONE
          (if (blockAt s.copySpans done_).isNone then copyKib s.copySpans else copyBytesTo s.copySpans done_ / 1024)) n

/-- A copy begins (R555): COPY_BEGIN, SYNC_GEN, and the mirroring of HW_STATE ranges. -/
def State.beginCopy (s : State) : State :=
  if !s.stileHeld || !s.linkUp then s
  else
    let s1 := s.inc pgRED Red.SYNC_GEN
    let s2 := s1.setRed { s1.red with copying := true, copied := 0, cutover := none, atCut := [], convergeAt := none, mirrorHw := true }
    let s3 := s2.tsxSend 0x21 1 (beBytes 1 2 ++ beBytes 3 0 ++ beBytes 4 (s2.nat pgRED Red.SYNC_GEN) ++ s2.nowWire)
    ((s3.setNat pgRED Red.COPY_TOTAL (copyKib s3.copySpans)).setNat pgRED Red.COPY_DONE 0).pumpCopy 64

/-- Blocks of 169 entries. -/
def entryBlocks : List (List Byte) → Nat → List (List Byte)
  | _, 0 => []
  | [], _ => []
  | l, n + 1 => (l.take 169).flatten :: entryBlocks (l.drop 169) n

/-- The hardware image taken at S_C (R555). -/
def State.sendHardwareImage (s : State) : State :=
  let es := hardwareRegs.map (fun e => s.regEntry e.1 e.2 (s.reg e.1 e.2))
  (entryBlocks es es.length).foldl (fun a b => a.tsxSend 0x22 0 (beBytes 1 4 ++ beBytes 3 0 ++ beBytes 8 0 ++ b)) s

/-! ### The standby's side -/

/-- Range `i` of the MIRROR table is recorded as local (R558, R571). -/
def State.localRange (s : State) (i : Nat) : Bool :=
  if i < 32 then s.flag pgRED Red.LOCAL_RANGES_LO i else s.flag pgRED Red.LOCAL_RANGES_HI (i - 32)

/-- The address lies in a local range that the copy skips. -/
def State.skips (s : State) (a : Nat) : Bool :=
  s.red.skipLocal && (List.range 64).any (fun i => s.localRange i && s.mirrorHas 0 i a 1)

/-- The entries of an image block. -/
def entriesOf : List Byte → Nat → List (Nat × Word)
  | _, 0 => []
  | [], _ => []
  | l, n + 1 => (beAt l 0 4, BitVec.ofNat 32 (beAt l 4 4)) :: entriesOf (l.drop 12) n

/-- Register-image entries: the first of an address gives both copies, the next one its shadow. -/
def State.applyImage (s : State) (prev : Nat) : List (Nat × Word) → State
  | [] => s
  | (k, v) :: t =>
    let page := k / 0x1000
    let off := k % 0x1000
    if (s.red.skipLocal && s.localPage page) || !mirroredReg page off then State.applyImage s k t
    else State.applyImage (if k = prev then s.setShd page off v else s.setBoth page off v) k t

/-- Program-memory bytes from offset `a`. -/
def State.setProgBytes (s : State) (a : Nat) : List Byte → State
  | [] => s
  | b :: t =>
    let w := (Tab.get (fun _ => 0) s.prog (a / 8)).toNat
    let sh := 2 ^ (8 * (a % 8))
    let v := w - w / sh % 256 * sh + b.toNat * sh
    State.setProgBytes { s with prog := Tab.set (fun _ => 0) s.prog (a / 8) (BitVec.ofNat 64 v) } (a + 1) t

/-- Memory bytes of a copy, but for local ranges. -/
def State.setCopyBytes (s : State) (a : Nat) : List Byte → State
  | [] => s
  | b :: t => State.setCopyBytes (if s.skips a then s else s.setByte a b) (a + 1) t

/-- A Swath takes up the state that the hardware image gave its registers (R542). -/
def State.adoptSwath (s : State) (k : Nat) : State :=
  let p := pgSWT k
  if s.swathState k = 0 then s
  else
    let t := (s.nat p Swt.LAST_START_S_LO + 2 ^ 32 * s.fld p Swt.LAST_START_S_HI (15, 0)) * SEC + s.nat p Swt.LAST_START_NS
    let start := (roundGrid ((t * LU + 5 * s.fld p Swt.LAST_START_FRAC (7, 0) : Nat) : Int)).toNat
    let g := s.nat p Swt.CONTENT_FRAME
    let w := s.swath k
    s.setSwath k { w with everReleased := true, lastStart := some start, shown := some g, lastFixed := some g,
                          firsts := if w.firsts.any (fun x => x.1 == g) then w.firsts else ((g, start) :: w.firsts).take 4 }

def State.applyHardware (s : State) : List (Nat × Word) → State
  | [] => s
  | (k, v) :: t =>
    if (s.red.skipLocal && s.localPage (k / 0x1000)) || !mirroredReg (k / 0x1000) (k % 0x1000) then State.applyHardware s t
    else State.applyHardware (s.setReg (k / 0x1000) (k % 0x1000) v) t

/-- One COPY block is applied on the standby. -/
def State.applyBlock (s : State) (m : List Byte) : State :=
  if s.syncState ≠ 1 then s
  else
    let at_ := beAt m 4 8
    let d := m.drop 12
    let s1 := s.setRed { s.red with copied := s.red.copied + d.length }
    let s2 := s1.setNat pgRED Red.COPY_DONE (s1.red.copied / 1024)
    match beAt m 0 1 with
    | 0 => s2.setCopyBytes at_ d
    | 1 => s2.applyImage 0 (entriesOf d d.length)
    | 2 => s2.setProgBytes at_ d
    | 3 => s2.setCopyBytes at_ d
    | 4 => (List.range 16).foldl State.adoptSwath (s2.applyHardware (entriesOf d d.length))
    | _ => s2

/-- COPY_BEGIN on the standby: COPYING (R554). -/
def State.copyBegun (s : State) (gen : Nat) : State :=
  if s.stileHeld then s
  else
    let s1 := (s.setSync 0).setSync 1
    let r := s1.red
    (s1.setRed { r with asked := false, wanted := false, copied := 0, cutover := none, atCut := [], convergeAt := none }).setNat
      pgRED Red.SYNC_GEN gen

end Sys2Proof.Machine
end

