-- ==== Sys2Proof/Machine/Syn.lean ====
section
/-!
DEFINITION. Sync inputs and the PPS and LTC outputs (R84, R90, R91, R101 to R103, R112 to R118, R736).
-/
namespace Sys2Proof.Machine

def State.synAt (s : State) (k : Nat) : SynState := Tab.get (fun _ => SynState.init) s.syn k
def State.setSyn (s : State) (k : Nat) (v : SynState) : State :=
  { s with syn := Tab.set (fun _ => SynState.init) s.syn k v }

/-- Pages 3, 5 and 7 are outputs (R112). -/
def synIsOut (k : Nat) : Bool := k == 3 || k == 5 || k == 7

/-- The discipline sources that input `k` serves (R84). -/
def synSources (k : Nat) : List Nat :=
  match k with
  | 0 => [5] | 1 => [6] | 2 => [7] | 4 => [2, 4] | 6 => [3, 4] | _ => []

/-- INPUT_STATE changes: interrupt 64 + 2k; losing or gaining VALID reaches the timeline and the Swaths, ENABLE 0 like a loss (log
entry 133). -/
def State.setInput (s : State) (k n : Nat) : State :=
  let old := s.ioState k
  if old = n then s
  else
    let s1 := (s.setSts (pgSYN k) SynIn.S_IO_STATE n).irq (64 + 2 * k)
    if old = 2 then ((synSources k).foldl State.srcLost s1).swathLocks
    else if n = 2 then s1.tlnSettle.swathLocks
    else s1

/-- OUTPUT_STATE changes: interrupt 64 + 2k. -/
def State.setOutput (s : State) (k n : Nat) : State :=
  if s.ioState k = n then s else (s.setSts (pgSYN k) SynOut.S_IO_STATE n).irq (64 + 2 * k)

/-! ### Inputs -/

/-- The alignment instant nearest to `u`. -/
def State.alignNear (s : State) (k : Nat) (u : Int) : Int :=
  (((u - s.phaseAdj k : Int) : Rat) / s.synPeriod k + 1 / 2).floor

/-- The capture of an edge: the timeline to the nearest 50 ps (R84; log entry 21). -/
def State.capture (s : State) : Int := roundGrid (unitsOf s.tln.now)

/-- e of a capture, exact, in 1/256 ns (R84). -/
def State.captureErr (s : State) (k : Nat) (u : Int) : Rat := ((u : Rat) - s.alignAt k (s.alignNear k u)) / 5

/-- An edge that is no valid one (R90, R736). -/
def State.synGlitch (s : State) (k : Nat) : State :=
  (s.inc (pgSYN k) SynIn.GLITCHES).fault (pgSYN k) SynIn.F_GLITCH

/-- The servo event that input `k` offers (R84): in PPS_10M the first one in ACQUIRE comes from PPS, the rest from the
10 MHz reference. -/
def State.synServo (s : State) (k : Nat) (e : Rat) : State :=
  if s.tlSrc = 4 then
    if k = 4 then
      (if s.tlState = 1 ∧ s.tln.ppsDone = false ∧ s.servoTakes = true then
        let s1 := { s with tln := { s.tln with ppsDone := true } }
        s1.servoEvent e none
      else s)
    else if k = 6 then (if s.tlState = 1 ∧ s.tln.ppsDone = false then s else s.servoEvent e none)
    else s
  else if (synSources k).contains s.tlSrc then s.servoEvent e none
  else s

/-- Bits `hi` to `lo` of the 80 bits of an LTC frame. -/
def ltcBits (w : BitVec 80) (hi lo : Nat) : Nat := w.toNat / 2 ^ lo % 2 ^ (hi + 1 - lo)

/-- LTC_TIME and LTC_USER of a frame received (R112, R113); the drop-frame flag is decoded under DROP_FRAME (log entry 126). -/
def ltcTimeOf (w : BitVec 80) (drop : Bool) : Word :=
  BitVec.ofNat 32 ((if drop then ltcBits w 10 10 * 2 ^ 31 else 0)
    + (ltcBits w 57 56 * 16 + ltcBits w 51 48) * 2 ^ 24 + (ltcBits w 42 40 * 16 + ltcBits w 35 32) * 2 ^ 16
    + (ltcBits w 26 24 * 16 + ltcBits w 19 16) * 2 ^ 8 + ltcBits w 9 8 * 16 + ltcBits w 3 0)
def ltcUserOf (w : BitVec 80) : Word :=
  BitVec.ofNat 32 (((List.range 8).map (fun i => ltcBits w (8 * i + 7) (8 * i + 4) * 16 ^ i)).sum)

/-- The registers and state of a valid edge (R90, R112). While STOP is 1 the input stays LOST (R91; log entry 138). -/
def State.synValidEdge (s : State) (k : Nat) (j u : Int) (ltc : BitVec 80) : State :=
  let p := pgSYN k
  let x := s.synAt k
  let run := if s.stopSet p then 0 else if s.ioState k = 3 then 1 else x.run + 1
  let s1 := s.setSyn k { x with run := run, misses := 0, lastHit := some j }
  let v := gridTimeVal u.toNat
  let s2 := ((s1.inc p SynIn.EDGES).setNat p SynIn.CAP_STAMP ((v.s * SEC + v.ns) % 2 ^ 32)).setNat p SynIn.CAP_FRAC v.frac
  let s3 := if k = 2 then (s2.setReg p SynIn.LTC_TIME (ltcTimeOf ltc (s.flag p SynIn.IN_MODE 3))).setReg p SynIn.LTC_USER (ltcUserOf ltc) else s2
  if s3.stopSet p then s3
  else if s3.ioState k = 3 then s3.setInput k 1
  else if s3.ioState k = 1 ∧ 4 ≤ run then s3.setInput k 2
  else s3

/-- Every DECIM-th valid edge is a servo event: LAST_ERR always, the servo while the input is VALID (R84, R112). -/
def State.synDecim (s : State) (k : Nat) (e : Rat) : State :=
  let x := s.synAt k
  let n := x.decim + 1
  if n < max 1 (s.fld (pgSYN k) SynIn.DECIM (15, 0)) then s.setSyn k { x with decim := n }
  else
    let s1 := (s.setSyn k { x with decim := 0 }).setNat (pgSYN k) SynIn.LAST_ERR (unsign 32 (satSigned 32 (roundOpen 84 e.num e.den)))
    if s1.synValid k then s1.synServo k e else s1

/-- The edge is of the kind that IN_MODE selects (R113): `alt` is a falling edge of SYN[1], SYN[4] and SYN[6], a tri-level zero
crossing of SYN[0]. -/
def State.synForm (s : State) (k : Nat) (alt : Bool) : Bool :=
  if k = 0 then s.flag (pgSYN 0) SynIn.IN_MODE 2 == alt
  else if k = 1 ∨ k = 4 ∨ k = 6 then s.flag (pgSYN k) SynIn.IN_MODE 0 == alt
  else true

/-- An edge on input `k` at the present instant (R90, R736). The expected instants are the alignment instants of R84, and the first
alignment point after a start counts its lines like every other (log entries 135 and 137). -/
def State.synEdge (s : State) (k : Nat) (alt : Bool) (lines : Nat) (ltc : BitVec 80) : State :=
  let p := pgSYN k
  if synIsOut k ∨ s.ioState k = 0 ∨ s.enabled p = false ∨ s.synForm k alt = false then s
  else
    let u := s.capture
    let j := s.alignNear k u
    let d := (u : Rat) - s.alignAt k j
    let w : Rat := (s.nat p SynIn.WINDOW : Rat) * 1280
    if w < d ∨ d < -w ∨ (s.synAt k).lastHit = some j ∨ (k = 0 ∧ lines ≠ s.fld p SynIn.LINES (11, 0)) then s.synGlitch k
    else (s.synValidEdge k j u ltc).synDecim k (s.captureErr k u)

def execSynEdge (k : Fin 8) (alt : Bool) (lines : Nat) (ltc : BitVec 80) (s : State) : Host.Outcome State Fault Refusal :=
  done (s.synEdge k.val alt lines ltc)

/-- A missed alignment instant (R90): a run restarts; in VALID it counts, and MISS_LIMIT of them are a loss. -/
def State.synMissAt (s : State) (k : Nat) (j : Int) : State :=
  let p := pgSYN k
  let x := s.synAt k
  if s.ioState k = 2 then
    let s1 := (s.setSyn k { x with run := 0, misses := x.misses + 1, lastMiss := some j }).inc p SynIn.MISSES
    if max 1 (s.fld p SynIn.MISS_LIMIT (7, 0)) ≤ x.misses + 1 then s1.setInput k 3 else s1
  else s.setSyn k { x with run := 0, lastMiss := some j }

/-- The next expected instant of input `k` without a valid edge passes, its window having closed. -/
def State.synMiss (s : State) (k : Nat) : State :=
  let p := pgSYN k
  if synIsOut k ∨ s.ioState k = 0 ∨ s.enabled p = false then s
  else
    let x := s.synAt k
    let near := s.alignNear k (unitsOf s.tln.now)
    let j := if x.lastHit = some near ∨ x.lastMiss = some near then near + 1 else near
    let close := s.alignAt k j + (s.nat p SynIn.WINDOW : Rat) * 1280
    s.atTime (timeOfUnits close.ceil.toNat) (fun a => a.synMissAt k j)

def execSynMiss (k : Fin 8) (s : State) : Host.Outcome State Fault Refusal := done (s.synMiss k.val)

/-! ### Outputs -/

/-- GATE of an output is met (R102, R115). -/
def State.synGate (s : State) (k : Nat) : Bool :=
  match s.fld (pgSYN k) SynOut.OUT_MODE SynOut.GATE with
  | 0 => true
  | 1 => s.tlState == 2 || s.tlState == 3
  | 2 => s.tlState == 2
  | _ => false

/-- The output may begin pulses. -/
def State.synOutOn (s : State) (k : Nat) : Bool := s.enabled (pgSYN k) && !s.stopSet (pgSYN k)

/-- OFFSET of an output in 1/1280 ns. -/
def State.synOffset (s : State) (k : Nat) : Int := signed 32 (s.nat (pgSYN k) SynOut.OFFSET) * 5

/-- The active level of an output is high: POLARITY 0 (R115). -/
def State.synHigh (s : State) (k : Nat) : Bool := !s.flag (pgSYN k) SynOut.OUT_MODE 0

/-- The level of an output's ball: the active one during a pulse or frame, else the inactive one (R101, R102, R117). -/
def State.synPin (s : State) (k : Nat) : Bool := s.synHigh k == (s.synAt k).pulse

/-- A pulse or frame from `start` to `stop` (1/1280 ns) begins, numbered `j`, when the gate is met (R102). -/
def State.synBegin (s : State) (k : Nat) (j : Int) (stop : Int) (o : Output) : State :=
  let s0 := s.setSyn k { s.synAt k with lastHit := some j }
  if !s0.synGate k then s0.setOutput k 2
  else
    (((s0.setSyn k { s0.synAt k with pulse := true, pulseEnd := timeOfGrid stop }).setOutput k 1).inc
      (pgSYN k) SynOut.PULSES).emitEdges o

/-- The first of the instants `f n`, `f (n + 1)`, … that the timeline has not passed and output `k` has not met. -/
def State.synNext (s : State) (k : Nat) (f : Int → Int) (n : Int) : Nat → Int
  | 0 => n
  | fuel + 1 =>
    if timeOfGrid (f n) < s.tln.now ∨ (s.synAt k).lastHit = some n then s.synNext k f (n + 1) fuel else n

/-- PPS_OUT rises at whole seconds plus OFFSET (R101). -/
def State.ppsRise (s : State) (n : Int) : Int := roundGrid (n * (SEC * LU : Nat) + s.synOffset 5)

def State.ppsPulse (s : State) : State :=
  if !s.synOutOn 5 then s
  else
    let n := s.synNext 5 s.ppsRise (((unitsOf s.tln.now : Int) - s.synOffset 5) / (SEC * LU : Nat) - 1) 4
    let start := s.ppsRise n
    let stop := start + (s.nat (pgSYN 5) SynOut.WIDTH * LU : Nat)
    s.atTime (timeOfGrid start) (fun a => a.synBegin 5 n stop (.pulse 5 (a.synHigh 5) start.toNat stop.toNat))

def execPpsOutPulse (s : State) : Host.Outcome State Fault Refusal := done s.ppsPulse

/-- Frame period of LTC_OUT in 1/1280 ns. -/
def State.ltcPeriod (s : State) : Rat :=
  (s.nat (pgSYN 3) SynOut.PERIOD_NUM : Rat) * ((SEC * LU : Nat) : Rat) / (s.nat (pgSYN 3) SynOut.PERIOD_DEN : Rat)

/-- LTC frames begin at alignment instants plus OFFSET (R101). -/
def State.ltcRise (s : State) (n : Int) : Int := roundGridRat ((n : Rat) * s.ltcPeriod + (s.synOffset 3 : Rat))

/-- Drop-frame counting: frame numbers 0 and 1 are left out at the start of each minute but every tenth (R101; log entry 126). -/
def dropCount (n : Nat) : Nat := n + 18 * (n / 17982) + (if 2 ≤ n % 17982 then 2 * ((n % 17982 - 2) / 1798) else 0)

/-- The frame numbers of a second: the period rounded to whole frames. -/
def State.ltcFps (s : State) : Nat := ceilDiv (s.nat (pgSYN 3) SynOut.PERIOD_DEN) (s.nat (pgSYN 3) SynOut.PERIOD_NUM)

/-- The frame count of local day that the time address of frame `n` shows: TAI - UTC_OFFSET + ZONE_S (R101; log entry 126). -/
def State.ltcCount (s : State) (n : Int) : Nat :=
  let per : Rat := (s.nat (pgSYN 3) SynOut.PERIOD_NUM : Rat) / (s.nat (pgSYN 3) SynOut.PERIOD_DEN : Rat)
  let t : Rat := (n : Rat) * per + ((signed 32 (s.nat (pgSYN 3) SynOut.ZONE_S) - s.fld pgTLN Tln.UTC_CTRL Tln.UTC_OFFSET : Int) : Rat)
  let day : Rat := t - (86400 * (t / 86400).floor : Int)
  let c := (day / per).floor.toNat
  if s.flag (pgSYN 3) SynOut.OUT_MODE 1 then dropCount c else c

/-- `w` bits of a number, the least significant first. -/
def lowBits (w n : Nat) : List Bool := (List.range w).map n.testBit

/-- The 80 bits of an LTC frame in the order sent, with polarity correction bit `p` (SMPTE ST 12-1; log entry 126). -/
def ltcWordWith (fps : Nat) (drop p : Bool) (h m sec f : Nat) (user : Word) : List Bool :=
  let u (i : Nat) := lowBits 4 (user.toNat / 16 ^ i)
  lowBits 4 (f % 10) ++ u 0 ++ lowBits 2 (f / 10) ++ [drop, false] ++ u 1 ++ lowBits 4 (sec % 10) ++ u 2 ++ lowBits 3 (sec / 10)
    ++ [p && fps != 25] ++ u 3 ++ lowBits 4 (m % 10) ++ u 4 ++ lowBits 3 (m / 10) ++ [false] ++ u 5 ++ lowBits 4 (h % 10) ++ u 6
    ++ lowBits 2 (h / 10) ++ [false, p && fps == 25] ++ u 7 ++ lowBits 16 0xBFFC

/-- The same with the correction bit that leaves an even number of ones, so that each frame begins with the same phase. -/
def ltcWord (fps : Nat) (drop : Bool) (h m sec f : Nat) (user : Word) : List Bool :=
  let w := ltcWordWith fps drop false h m sec f user
  if (w.filter id).length % 2 = 0 then w else ltcWordWith fps drop true h m sec f user

/-- The bits of frame `n` of LTC_OUT. -/
def State.ltcOutBits (s : State) (n : Int) : List Bool :=
  let fps := s.ltcFps
  let c := s.ltcCount n
  ltcWord fps (s.flag (pgSYN 3) SynOut.OUT_MODE 1) (c / (fps * 3600) % 24) (c / (fps * 60) % 60) (c / fps % 60) (c % fps)
    (s.reg (pgSYN 3) SynOut.USER)

/-- Biphase mark: the level changes at the start of each of the bit cells, and in the middle of a 1; cell `i` begins at `f i`, in
half cells. -/
def biphase (f : Nat → Nat) : Nat → Bool → List Bool → List (Nat × Bool)
  | _, _, [] => []
  | i, level, b :: r =>
    if b then (f i, !level) :: (f (i + 1), level) :: biphase f (i + 2) level r
    else (f i, !level) :: biphase f (i + 2) (!level) r

/-- One LTC frame: 80 bit cells of a frame period / 80 (R101). -/
def State.ltcFrame (s : State) : State :=
  if !s.synOutOn 3 then s
  else
    let n := s.synNext 3 s.ltcRise
      ((((unitsOf s.tln.now : Int) - s.synOffset 3 : Int) : Rat) / s.ltcPeriod - 1).floor 4
    let start := s.ltcRise n
    let stop := s.ltcRise (n + 1)
    s.atTime (timeOfGrid start) (fun a =>
      let half (i : Nat) : Nat := (roundGridRat (((n : Rat) + (i : Rat) / 160) * a.ltcPeriod + (a.synOffset 3 : Rat))).toNat
      a.synBegin 3 n stop (.ltc (biphase half 0 (!a.synHigh 3) (a.ltcOutBits n))))

def execLtcOutFrame (s : State) : Host.Outcome State Fault Refusal := done s.ltcFrame

/-! ### ENABLE, STOP and commits (R91, R102, R112 to R117) -/

/-- ENABLE or STOP of a SYN page has changed from `en` and `st`: ENABLE written 1 gives SEARCH, STOP gives LOST, and only an edge
ends that (R90, R91); an output that is switched off in a pulse goes to its inactive level (R117). -/
def State.synCtrl (s : State) (k : Nat) (en st : Bool) : State :=
  let p := pgSYN k
  let en' := s.enabled p
  let st' := s.stopSet p
  if en == en' && st == st' then s
  else if !synIsOut k then
    let s0 := s.setSyn k SynState.init
    if !en' then (s0.setPageState p 0).setInput k 0
    else if st' then (s0.setPageState p 2).setInput k 3
    else if !en then (s0.setPageState p 1).setInput k 1
    else s.setPageState p 1
  else if !en' then
    let s0 := if (s.synAt k).pulse then s.emit (.cut (.syn k) (!s.synHigh k) s.tln.now) else s
    ((s0.setSyn k SynState.init).setPageState p 0).setOutput k 0
  else if st' then
    if (s.synAt k).pulse then (if en then s else s.setPageState p 1)
    else (s.setPageState p 2).setOutput k 0
  else (s.setPageState p 1).setOutput k (if s.synGate k then 1 else 2)

/-- The commit of a SYN page would make live a value out of range (R103, R112 to R115). -/
def State.synBad (s : State) (k : Nat) : Bool :=
  let p := pgSYN k
  let off := decide ((s.shd p SynOut.OFFSET) = 0x80000000)
  let num := (s.shd p SynIn.PERIOD_NUM).toNat
  let den := (s.shd p SynIn.PERIOD_DEN).toNat
  if synIsOut k then
    bits (s.shd p SynOut.OUT_MODE) SynOut.GATE == 3 || off
      || (k == 3 && (decide (num < 1) || decide (1001 < num) || decide (num * 30 < den) || decide (den < num * 24)))
      || (k == 5 && decide (1000000000 ≤ (s.shd p SynOut.WIDTH).toNat))
      || (k == 7 && decide (s.fld (pgSWT (bits (s.shd p SynOut.SWATH) (3, 0))) Swt.FRAME_MIN (26, 0)
          ≤ (s.shd p SynOut.WIDTH).toNat))
  else
    decide (num < 1) || decide (den < 1) || decide (num * 1000000000 ≤ 2 * (s.shd p SynIn.WINDOW).toNat * den)
      || ((k == 1 || k == 4 || k == 6) && decide (2 ≤ bits (s.shd p SynIn.IN_MODE) SynIn.EDGE))
      || (k == 0 && (decide ((s.shd p SynIn.LINES).toNat < 1) || decide (4095 < (s.shd p SynIn.LINES).toNat)))

end Sys2Proof.Machine
end

