-- ==== Sys2Proof/Machine/Swath.lean ====
section
/-!
DEFINITION. The Swaths: anchors, windows and the fixing of starts, releases and readiness, frame starts, holding, the CRC
rectangles and FRAME_OUT (R245 to R272, R101).
-/
namespace Sys2Proof.Machine

/-- The timeline now, in launch units, exactly. -/
def State.nowUnits (s : State) : Rat := (s.tln.now : Rat) * 5 / ((2 ^ 40 : Nat) : Rat)

/-! ### Windows (R254, R255, R262) -/

def State.leadUnits (s : State) (k : Nat) : Nat := s.leadNs k * LU

/-- A window [lo, hi], with the anchor its candidates stand around (none: the grid), the anchors skipped to form it, the first
anchor not consumed, and whether R255 leaves its anchor unconsumed. -/
structure Window where
  lo : Rat
  hi : Option Rat
  anchor : Option Int
  slips : Nat
  next : Option Int
  free : Bool
  deriving DecidableEq, Repr

/-- The smallest candidate at or above `y` and within the window, with its m. -/
def State.firstCandidate (s : State) (k : Nat) (w : Window) (y : Rat) : Option (Rat × Int) :=
  let z := if y < w.lo then w.lo else y
  let c : Rat × Int :=
    match w.anchor with
    | none => ((((z / 64).ceil * 64 : Int) : Rat), 0)
    | some j =>
      let m := max (-(s.flexLines k : Int)) (((z - s.anchorAt k j) / s.linePeriod k).ceil)
      (s.anchorAt k j + (m : Rat) * s.linePeriod k, m)
  let ok := match w.hi with
    | none => true
    | some h => decide (c.1 ≤ h)
  if ok && decide (c.2 ≤ (s.flexLines k : Int)) then some c else none

/-- The largest candidate of the window, with its m. -/
def State.lastCandidate (s : State) (k : Nat) (w : Window) : Option (Rat × Int) :=
  match w.hi with
  | none => none
  | some h =>
    let c : Rat × Int :=
      match w.anchor with
      | none => ((((h / 64).floor * 64 : Int) : Rat), 0)
      | some j =>
        let m := min (s.flexLines k : Int) (((h - s.anchorAt k j) / s.linePeriod k).floor)
        (s.anchorAt k j + (m : Rat) * s.linePeriod k, m)
    if w.lo ≤ c.1 then some c else none

/-- The window after start `sp` of a running Swath. -/
def State.runWindow (s : State) (k sp : Nat) : Window :=
  let p : Rat := (sp : Rat)
  let free : Window := ⟨p + s.frameMin k, some (p + s.frameMax k), none, 0, (s.swath k).nextAnchor, false⟩
  if !ANCHORED_SRC (s.swtSrc k) then free
  else
    let f := s.flexUnits k
    let j0 := match (s.swath k).nextAnchor with
      | some j => j
      | none => s.anchorNear k p (fun a => decide (p < a))
    let j := if s.anchorAt k j0 + f < p + s.frameMin k then
        max j0 (s.anchorNear k (p + s.frameMin k - f) (fun a => decide (p + s.frameMin k ≤ a + f))) else j0
    let a := s.anchorAt k j
    let slips := (j - j0).toNat
    let loose : Window := { free with slips := slips, next := some j, free := true }
    if p + s.frameMax k < a - f then loose
    else
      let w : Window := ⟨max (p + s.frameMin k) (a - f), some (min (p + s.frameMax k) (a + f)), some j, slips, some (j + 1), false⟩
      if (s.lastCandidate k w).isSome then w else loose

/-- The window of a first start from ARMED at instant `x` (R262). -/
def State.armedWindow (s : State) (k : Nat) (x : Rat) : Window :=
  let lead : Rat := (s.leadUnits k : Rat)
  if !ANCHORED_SRC (s.swtSrc k) then ⟨x + lead, none, none, 0, none, false⟩
  else
    let f := s.flexUnits k
    let j := s.anchorNear k (x + lead - f) (fun a => decide (x + lead ≤ a + f))
    ⟨s.anchorAt k j - f, some (s.anchorAt k j + f), some j, 0, some (j + 1), false⟩

/-- The window of a first start when resuming from HOLDING at instant `x`, after start `sp` (R262). -/
def State.resumeWindow (s : State) (k sp : Nat) (x : Rat) : Window :=
  let p : Rat := (sp : Rat)
  let lead : Rat := (s.leadUnits k : Rat)
  if !ANCHORED_SRC (s.swtSrc k) then ⟨p + s.frameMin k, none, none, 0, (s.swath k).nextAnchor, false⟩
  else
    let f := s.flexUnits k
    let j0 := match (s.swath k).nextAnchor with
      | some j => j
      | none => s.anchorNear k p (fun a => decide (p < a))
    let least := max (x + lead) (p + s.frameMin k)
    let j := max j0 (max (s.anchorNear k (least - f) (fun a => decide (least ≤ a + f))) (s.anchorNear k x (fun a => decide (x < a))))
    let a := s.anchorAt k j
    ⟨max (p + s.frameMin k) (a - f), some (a + f), some j, (j - j0).toNat, some (j + 1), false⟩

/-- What kind of start comes next: 1 the first from ARMED, 2 the first from HOLDING, 0 any other. -/
def State.startKind (s : State) (k : Nat) : Nat :=
  if (s.swath k).fixed ≠ [] then 0 else if s.swathState k = 1 then 1 else if s.swathState k = 3 then 2 else 0

def State.nextWindow (s : State) (k : Nat) (x : Rat) : Window :=
  match s.startKind k, s.prevStart k with
  | 1, _ => s.armedWindow k x
  | 2, some sp => s.resumeWindow k sp x
  | _, some sp => s.runWindow k sp
  | _, none => s.armedWindow k x

/-! ### Registers of the fixed starts (R260, R273) -/

/-- NEXT_START reads the earliest start that is fixed and has not passed. -/
def State.nextStartRegs (s : State) (k : Nat) : State :=
  match (s.swath k).fixed with
  | [] => s.setFlag (pgSWT k) Swt.NEXT_START_S_HI 31 false
  | f :: _ =>
    (s.setTimeRegs (pgSWT k) Swt.NEXT_START_S_LO (gridTimeVal f.start)).setFlag (pgSWT k) Swt.NEXT_START_S_HI 31 true

/-! ### What fixing a start does (R95, R97, R260, R463) -/

def keyFrameOut : Nat := 112

/-- The launch of one output for a start. -/
def State.addLaunch (s : State) (key : Nat) (l : Launch) : State := s.setLaunches key (s.launches key ++ [l])

/-- FRAME_OUT's instant for a start. -/
def State.frameOutAt (s : State) (start : Nat) : Nat :=
  (roundGrid ((start : Int) + signed 32 (s.nat (pgSYN 7) SynOut.OFFSET) * 5)).toNat

/-- A start that a Swath has fixed may be one of FRAME_OUT, whatever SYN[7] reads now; one further back than OFFSET can reach no
longer is (R101, R103). -/
def State.noteFrameOut (s : State) (l : Launch) : State :=
  s.setLaunches keyFrameOut ((s.launches keyFrameOut).filter (fun x => decide (unitsOf s.tln.now ≤ x.start + 8388608 * LU)) ++ [l])

/-- The starts of SWT[SWATH] whose pulse is still to come. -/
def State.frameOutDue (s : State) : List Launch :=
  (((s.launches keyFrameOut).filter (fun l => l.swath == s.fld (pgSYN 7) SynOut.SWATH (3, 0))).map
    (fun l => { l with at_ := s.frameOutAt l.start })).filter (fun l => decide (s.tln.now ≤ timeOfUnits l.at_))

/-- The pulse of a start is made, or skipped. -/
def State.frameOutMade (s : State) (l : Launch) : State :=
  s.setLaunches keyFrameOut ((s.launches keyFrameOut).filter (fun x => !(x.swath == l.swath && x.start == l.start)))

/-- Every output of Swath `k` owes a launch for the start. -/
def State.giveLaunches (s : State) (k start frame : Nat) (rep : Bool) : State :=
  let n := (s.nat (pgSWT k) Swt.FRAME_COUNT + (s.swath k).fixed.length) % 2 ^ 32
  let s1 := (s.outputsOf k).foldl (fun a o =>
    a.addLaunch o.1 ⟨k, start, s.launchAt k start o.2.1 o.2.2, frame, rep, n, none⟩) s
  let s2 := ((List.range 4).filter (s1.lclUsed k)).foldl (fun a c => a.stepEngines c start) s1
  let s3 := ((List.range 8).filter (fun j => s2.enabled (pgFLD j) && s2.fldSched j && s2.fldSwath j == k)).foldl (fun a j =>
    a.addLaunch (keyFLD j) ⟨k, start, start + a.nat (pgFLD j) Fld.REL_OFFSET * LU, frame, rep, n, none⟩) s2
  s3.noteFrameOut ⟨k, start, start, frame, rep, n, none⟩

/-- The message of a fixed start (R545, FIX). -/
def State.tellFix (s : State) (k : Nat) (f : FixedStart) (slip free : Bool) : State :=
  s.tell 0x13 (beBytes 1 k ++ beBytes 1 (if f.repeated then 1 else 0) ++ beBytes 2 (unsign 16 f.m)
    ++ (gridTimeVal f.start).wireBytes ++ beBytes 4 f.frame
    ++ beBytes 4 ((s.nat (pgSWT k) Swt.FRAME_COUNT + (s.swath k).fixed.length) % 2 ^ 32)
    ++ beBytes 4 ((if slip then 1 else 0) + (if free then 2 else 0)))

/-- A start becomes fixed: the counters, NEXT_START, the launches, and the message to the partner. -/
def State.placeStart (s : State) (k : Nat) (f : FixedStart) (slips : Nat) (free : Bool) : State :=
  let p := pgSWT k
  let w := s.swath k
  let frames := if f.repeated then w.frames else w.frames.filter (fun x => x.frame != f.frame)
  let s1 := s.setSwath k { w with fixed := w.fixed ++ [f], lastFixed := some f.frame, frames := frames }
  let s2 := if slips = 0 then s1 else ((s1.addReg p Swt.SLIPS slips).fault p Swt.F_SLIP).count (1232 + 4 * k + 2) slips
  let s3 := if free then s2.inc p Swt.UNANCHORED else s2
  let s4 := if f.repeated then
      (((s3.inc p Swt.REPEATS).setSts p Swt.S_REPEATED 1).count (1232 + 4 * k + 1) 1).swtEvent k 1 else s3
  ((s4.nextStartRegs k).giveLaunches k f.start f.frame f.repeated).tellFix k f (decide (slips ≠ 0)) free

/-- The oldest released frame that is ready (R256). -/
def State.oldestReady (s : State) (k : Nat) : Option Nat := ((s.swath k).frames.find? (·.ready)).map (·.frame)

/-- One start of a follower: its oldest ready frame, or a repeat (R261). -/
def State.followStart (s : State) (k start : Nat) : State :=
  match s.oldestReady k, (s.swath k).lastFixed with
  | some g, _ => s.placeStart k ⟨start, g, false, 0, none⟩ 0 false
  | none, some g => s.placeStart k ⟨start, g, true, 0, none⟩ 0 false
  | none, none => s

/-- The follower takes starts of its master: it is not STOPPED, its STOP is 0, and no region holds it. -/
def State.follows (s : State) (k : Nat) : Bool :=
  s.swathState k != 0 && s.enabled (pgSWT k) && !s.stopSet (pgSWT k) && (s.swath k).heldRegions == []

/-- The R starts that follower `k` fixes from master start `m`. -/
def State.followFix (s : State) (k m : Nat) : State :=
  if !s.follows k then s
  else
    (List.range (s.ratio k)).foldl (fun (a : State) (i : Nat) =>
      a.followStart k (roundGridRat ((m : Rat) + (i : Rat) * a.swathPeriod k)).toNat)
      (s.setSwath k { s.swath k with heldMaster := false })

/-! ### Cutovers and planned swaps wait for a fixed start (R555, R564) -/

/-- The whole of a copy has been sent, or the first start comes after it. -/
def State.cutoverDue (s : State) (k : Nat) : Bool :=
  s.stileHeld && s.red.copying && s.red.cutover.isNone && decide (s.nat pgRED Red.COPY_TOTAL ≤ s.nat pgRED Red.COPY_DONE)
    && s.fld pgRED Red.PAIR_CTRL Red.SWAP_SWATH == k

/-- The active names start `t` of SWAP_SWATH as the cutover. -/
def State.nameCutover (s : State) (k t : Nat) : State :=
  if s.cutoverDue k then
    (s.setRed { s.red with cutover := some t }).tsxSend 0x21 1
      (beBytes 1 3 ++ beBytes 3 0 ++ beBytes 4 (s.nat pgRED Red.SYNC_GEN) ++ (gridTimeVal t).wireBytes)
  else s

/-- An output of a Swath whose pages are local is in emission (R564). -/
def State.localEmits (s : State) : Bool :=
  (List.range 16).any (fun k => s.localPage (pgSWT k) && (s.outputsOf k).any (fun o => (s.portOf o.1).emit.isSome))

/-- The swap instant of a plan without one (R564), in launch units. -/
def State.nameSwap (s : State) (t : Nat) : State :=
  match s.red.plan with
  | some ⟨asked, none, _⟩ =>
    if timeOfUnits t < asked + 100000 * NS ∨ s.localEmits = true then s
    else
      (s.setRed { s.red with plan := some ⟨asked, some t, false⟩ }).tsxSend 0x20 1
        (beBytes 1 2 ++ beBytes 1 (s.fld pgRED Red.PAIR_CTRL Red.SWAP_SWATH) ++ beBytes 2 0 ++ (gridTimeVal t).wireBytes)
  | _ => s

def State.swapFix (s : State) (k t : Nat) : State :=
  if s.stileHeld && s.fld pgRED Red.PAIR_CTRL Red.SWAP_SWATH == k then s.nameSwap t else s

/-- A start fixed by Swath `k` itself, with all that follows from it. -/
def State.fixStart (s : State) (k : Nat) (f : FixedStart) (w : Window) : State :=
  let s1 := s.setSwath k { s.swath k with nextAnchor := w.next }
  let s2 := s1.placeStart k f w.slips w.free
  let s3 := (s2.followers k).foldl (fun a j => a.followFix j f.start) s2
  (s3.nameCutover k f.start).swapFix k f.start

/-- The Swath fixes starts by itself now (R257, R264, R265). -/
def State.mayFix (s : State) (k : Nat) : Bool :=
  s.ownStarts k && s.enabled (pgSWT k) && !s.stopSet (pgSWT k) && s.swtSrc k != 4 && s.swathState k != 0
    && (s.swathState k != 3 || ((s.swath k).heldRegions == [] && !(s.swath k).heldMaster)) && s.aclkRuns

/-- The new-frame row of R256. -/
def State.newFrameFix (s : State) (k : Nat) : State :=
  match s.oldestReady k with
  | none => s
  | some g =>
    if !s.mayFix k || s.fallback then s
    else
      let w0 := s.nextWindow k s.nowUnits
      let lead : Rat := (s.leadUnits k : Rat)
      let x := if s.nowUnits < w0.lo - lead then w0.lo - lead else s.nowUnits
      s.atTime (if s.nowUnits < x then timeOfUnits x.ceil.toNat else s.tln.now) (fun a =>
        let w := a.nextWindow k x
        match a.firstCandidate k w (x + lead) with
        | none => a
        | some (c, m) =>
          let start := (roundGridRat c).toNat
          let late := match (a.swath k).holdEnd with
            | some h => a.startKind k == 2 && decide (h < start)
            | none => false
          if late then a
          else a.fixStart k ⟨start, g, false, if w.anchor.isSome then m else 0, if w.free then none else w.anchor⟩ w)

def execNewFrameFix (k : Fin 16) (s : State) : Host.Outcome State Fault Refusal := done (s.newFrameFix k.val)

/-- The repeat row of R256: no ready frame can be fixed any more, and the deadline of the window comes. -/
def State.repeatFix (s : State) (k : Nat) : State :=
  if !s.mayFix k || s.startKind k != 0 then s
  else
    match (s.swath k).lastFixed with
    | none => s
    | some g =>
      let w := s.nextWindow k s.nowUnits
      match s.lastCandidate k w with
      | none => s
      | some (c, m) =>
        let x := c - (s.leadUnits k : Rat)
        if (s.oldestReady k).isSome ∧ s.nowUnits ≤ x ∧ s.fallback = false then s
        else
          s.atTime (if s.nowUnits < x then timeOfUnits x.ceil.toNat else s.tln.now) (fun a =>
            a.fixStart k ⟨(roundGridRat c).toNat, g, true, if w.anchor.isSome then m else 0, if w.free then none else w.anchor⟩ w)

def execRepeatFix (k : Fin 16) (s : State) : Host.Outcome State Fault Refusal := done (s.repeatFix k.val)

/-! ### Holding and stopping (R263, R265 to R267) -/

/-- Launches of Swath `k` that have not been reached are no longer owed. -/
def State.dropLaunches (s : State) (k : Nat) : State :=
  (s.launch.filter (fun e => e.2.any (fun l => l.swath == k))).foldl
    (fun a e => a.setLaunches e.1 (e.2.filter (fun l => l.swath != k))) s

/-- Every fixed start not yet reached is cancelled; a new frame that one of them showed waits again. -/
def State.cancelStarts (s : State) (k : Nat) : State :=
  let w := s.swath k
  let back := (w.fixed.filter (fun f => !f.repeated)).map (fun f => (⟨f.frame, true⟩ : Released))
  let anchor := match w.fixed.find? (fun f => f.anchor.isSome) with
    | some f => f.anchor
    | none => w.nextAnchor
  ((s.setSwath k { w with fixed := [], frames := back ++ w.frames, nextAnchor := anchor, lastFixed := w.shown }).nextStartRegs
    k).dropLaunches k

/-- Entry to HOLDING: the hold limit starts; the followers that run lose their master. -/
def State.holdOne (s : State) (k : Nat) (regions : List Nat) (master : Bool) : State :=
  let s1 := s.cancelStarts k
  let w := s1.swath k
  let t := unitsOf s1.tln.now
  (s1.setSwath k { w with heldRegions := regions ++ w.heldRegions, heldMaster := master || w.heldMaster, jNext := 0,
                          holdFrom := t, holdEnd := some (t + (2 * s1.swathPeriod k).floor.toNat) }).setSwathState k 3

/-- The followers of a Swath that left RUNNING (R261, R265); a follower has none of its own (R248). What ends RUNNING is served
before the fixes of its cycle (`State.arrive`), so that the master makes no fix in that cycle and its followers take none. -/
def State.masterLeft (s : State) (k : Nat) : State :=
  (s.followers k).foldl (fun a j => if a.swathState j = 2 then a.holdOne j [] true else a) s

def State.enterHolding (s : State) (k : Nat) (regions : List Nat) : State :=
  ((s.holdOne k regions false).masterLeft k).swathLocks.pinsRefresh

/-- RUNNING, STOP 1 and no fixed start: HOLDING at the latest start + FRAME_MIN. -/
def State.swathHold (s : State) (k : Nat) : State :=
  match (s.swath k).lastStart with
  | none => s
  | some t =>
    if s.swathState k ≠ 2 ∨ s.stopSet (pgSWT k) = false ∨ (s.swath k).fixed ≠ [] then s
    else
      s.atTime (timeOfUnits (((t : Rat) + s.frameMin k).ceil.toNat)) (fun a => (a.enterHolding k []).commitAllIdle)

def execSwathHold (k : Fin 16) (s : State) : Host.Outcome State Fault Refusal := done (s.swathHold k.val)

/-- Entry to STOPPED: the outputs are released to idle, with the flush of R146 where they held, and the armed groups of the Swath
commit. -/
def State.enterStopped (s : State) (k : Nat) : State :=
  let left := s.swathState k == 2
  let loose := s.swathState k != 0 && !s.stopSet (pgSWT k)
  let s1 := if s.swathState k = 3 then s.flushAtLeave k (unitsOf s.tln.now) else s
  let s2 := s1.cancelStarts k
  let s3 := (s2.outputsOf k).foldl (fun a o => a.cutOutput o.1) s2
  let w := s3.swath k
  let s4 := s3.setSwath k { w with want := false, jNext := 0, heldRegions := [], heldMaster := false, holdEnd := none,
                                   needStop := loose || w.needStop }
  let s5 := ((if w.told = [] then s4.endHold k else s4).setSwathState k 0).strStopped k
  let s6 := if left then s5.masterLeft k else s5
  s6.swathLocks.pinsRefresh.commitAllIdle

/-- The hold limit expires (R265, R267). -/
def State.holdLimit (s : State) (k : Nat) : State :=
  match (s.swath k).holdEnd with
  | none => s
  | some t =>
    if s.swathState k ≠ 3 then s
    else s.atTime (timeOfUnits t) (fun a => (a.setSts (pgSWT k) Swt.S_HOLD_TIMEOUT 1).enterStopped k)

def execHoldLimitExpire (k : Fin 16) (s : State) : Host.Outcome State Fault Refusal := done (s.holdLimit k.val)

/-- The region that an output belongs to (R17); none for a stream. -/
def regionOfKey (key : Nat) : Option Nat :=
  if key < 64 then some (key / 16) else if key < 76 then some ((key - 64) / 3) else if key < 84 then some (key - 80)
  else if 96 ≤ key ∧ key < 104 then some ((key - 96) / 2) else none

/-- Swath `k` has an output in region `n`: one assigned to it, in use or not. -/
def State.swathInRegion (s : State) (k n : Nat) : Bool :=
  (List.range 64).any (fun j => s.pxWire j != 2 && s.pxSwath j == k && regionOfKey (keyPX j) == some n)
    || (List.range 12).any (fun j => s.dmxDir j == 0 && s.dmxSwath j == k && regionOfKey (keyDMX j) == some n)
    || (List.range 4).any (fun j => s.lclSwath j == k && regionOfKey (keyLCL j) == some n)

/-- A reset or fault of region `n` holds every Swath with an output in it (R18, R265). -/
def State.holdRegion (s : State) (n : Nat) : State :=
  (List.range 16).foldl (fun a k =>
    if !a.swathInRegion k n then a
    else if a.swathState k = 2 then a.enterHolding k [n]
    else if a.swathState k = 3 then
      let b := a.cancelStarts k
      b.setSwath k { b.swath k with heldRegions := n :: (b.swath k).heldRegions.filter (· != n) }
    else a) s

/-- The cause of a hold by region `n` is gone. -/
def State.freeRegion (s : State) (n : Nat) : State :=
  (List.range 16).foldl (fun a k =>
    if (a.swath k).heldRegions.contains n then
      a.setSwath k { a.swath k with heldRegions := (a.swath k).heldRegions.filter (· != n) } else a) s

/-- ENABLE or STOP of Swath `k` has changed (R265): ENABLE was `en`. -/
def State.swtCtrlMoved (s : State) (k : Nat) (en : Bool) : State :=
  let en' := s.enabled (pgSWT k)
  let st' := s.stopSet (pgSWT k)
  if !en' then (if en then s.enterStopped k else s.swathRefresh k)
  else
    let w := s.swath k
    let s1 :=
      if st' then
        let a := s.setSwath k { w with want := false }
        if a.swathState k = 1 ∧ w.fixed = [] then a.enterStopped k else a.swathRefresh k
      else if s.swathState k = 0 ∧ w.needStop = false then ((s.setSwath k { w with want := true }).swathRefresh k).tryArm k
      else s.swathRefresh k
    s1.pinsRefresh.commitAllIdle

/-- PAGE_CTRL of Swath `k` is written where ENABLE was `en` and STOP was `st`; STOP 1 is the first half of what lets a Swath leave a
STOPPED that it entered with STOP at 0 (R265). -/
def State.swtCtrl (s : State) (k : Nat) (en st : Bool) : State :=
  let s1 := if s.stopSet (pgSWT k) then s.setSwath k { s.swath k with needStop := false } else s
  if en == s.enabled (pgSWT k) && st == s.stopSet (pgSWT k) then s1 else s1.swtCtrlMoved k en

/-! ### Releases (R250 to R252) -/

/-- Frame `f` of Swath `k` is released, the merge having applied: CMP takes its snapshot, the lists launch. -/
def State.makeRelease (s : State) (k f : Nat) : State :=
  let p := pgSWT k
  let s2 := s.setNat p Swt.RELEASED_FRAME f
  let s3 := s2.setSwath k { s2.swath k with everReleased := true, frames := (s2.swath k).frames ++ [⟨f, false⟩] }
  let s4 := s3.tell 0x14 (beBytes 1 k ++ beBytes 3 0 ++ beBytes 4 f ++ beBytes 4 (s3.nat pgFIX Fix.MERGE_EPOCH))
  let s5 := (s4.snapshot k f).launchLists k f
  if s5.readySrc k = 2 then s5.frameReady k f else s5

/-- A release by the Swath itself: the merge applies first (R374). -/
def State.doRelease (s : State) (k f : Nat) : State := ((s.endHold k).mergeAtRelease k).makeRelease k f

/-- The first release that the partner has told and that waits here: R210 may hold it, and the merge builds the epoch that the
message names (R375). -/
def State.releaseTold (s : State) (k : Nat) : State :=
  match (s.swath k).told with
  | [] => s
  | (f, e) :: t =>
    if s.releaseHeld k then s.holdRelease k
    else (((s.setSwath k { s.swath k with told := t }).endHold k).mergeFollow e).makeRelease k f

/-- The number of the frame that the next release makes. -/
def State.nextFrame (s : State) (k : Nat) : Nat :=
  if (s.swath k).everReleased then (s.nat (pgSWT k) Swt.RELEASED_FRAME + 1) % 2 ^ 32 else 0

/-- When REL_OFFSET allows the release of frame `f` (launch units); none while frame f - 2 has had no start. -/
def State.releaseAfter (s : State) (k f : Nat) : Option Nat :=
  if f < 2 then some 0
  else ((s.swath k).firsts.find? (fun x => x.1 == f - 2)).map (fun x =>
    x.2 + s.fld (pgSWT k) Swt.REL_OFFSET (26, 0) * LU)

/-- The Swath is in a state that releases frames (R251). -/
def State.releases (s : State) (k : Nat) : Bool :=
  let st := s.swathState k
  s.enabled (pgSWT k) && (st == 1 || st == 2 || (st == 3 && !s.stopSet (pgSWT k))) && s.aclkRuns

/-- The release of R251: every other condition holding, it waits for REL_OFFSET, and R210 may hold it. One that the partner told and
R210 held comes first. -/
def State.release (s : State) (k : Nat) : State :=
  let f := s.nextFrame k
  let ready := (s.swath k).frames.all (·.ready)
  if (s.swath k).told ≠ [] then s.releaseTold k
  else if !s.ownStarts k || !s.releases k || !ready || !s.snapshotAllowed k f then s
  else
    match s.releaseAfter k f with
    | none => s
    | some t => s.atTime (timeOfUnits t) (fun a => if a.releaseHeld k then a.holdRelease k else a.doRelease k f)

/-- No frame waits to become ready, or READY_SRC is not HOST: FRAME_READY is an overrun (R252). -/
def State.readyOverrun (s : State) (k : Nat) : Bool := !(s.swath k).frames.any (fun x => !x.ready) || s.readySrc k != 1

/-- A write of FRAME_READY.READY (R252). -/
def State.frameReadyWrite (s : State) (k : Nat) (v : Word) : State :=
  if !bit v 0 then s
  else if s.readyOverrun k then s.fault (pgSWT k) Swt.F_READY_OVERRUN
  else
    match (s.swath k).frames.find? (fun x => !x.ready) with
    | some x => s.frameReady k x.frame
    | none => s

/-! ### CRC rectangles (R269 to R272) -/

/-- The physical pixels of rectangle `r`, in ascending order. -/
def State.rectPixels (s : State) (k r count : Nat) : List Nat :=
  let p := pgSWT k
  let row := s.fld p Swt.CRC_ROW (14, 0)
  let xy := s.reg p (Swt.RECT_XY r)
  let wh := s.reg p (Swt.RECT_WH r)
  ((List.range (bits wh (29, 16) + 1)).flatMap (fun y => (List.range (bits wh (13, 0) + 1)).map (fun x =>
    (bits xy (29, 16) + y) * row + bits xy (13, 0) + x))).filter (fun i => decide (i < count))

/-- The CRC of rectangle `r` over a snapshot's output frame buffer. -/
def State.rectCrc (s : State) (k r : Nat) (x : Snap) : Word :=
  let mask := s.fld (pgSWT k) (Swt.RECT_CTRL r) (7, 4)
  crc32c ((s.rectPixels k r x.count).flatMap (fun p =>
    ((List.range 4).filter mask.testBit).flatMap (fun c => leBytes 2 (s.ofbChannel x p c))))

def State.rectMode (s : State) (k r : Nat) : Nat := s.fld (pgSWT k) (Swt.RECT_CTRL r) (1, 0)

/-- The rectangles that the frame start of content `g` sets to work; results still open are late (R269, R272). -/
def State.beginCrc (s : State) (k g : Nat) : State :=
  let s1 := if (s.swath k).crcBusy = [] then s
    else (s.fault (pgSWT k) Swt.F_CRC_LATE).setSwath k { s.swath k with crcBusy := [] }
  if (s1.snapOfSwath k g).isNone then s1
  else
    s1.setSwath k { s1.swath k with crcBusy := (List.range 8).filter (fun r => s1.rectMode k r != 0), crcFrame := g }

/-- MODE of rectangle `r` becomes CHECK in both copies; the rest of each copy stays (R271). -/
def State.rectChecks (s : State) (k r : Nat) : State :=
  let o := Swt.RECT_CTRL r
  (s.setReg (pgSWT k) o (putBits (s.reg (pgSWT k) o) (1, 0) 1)).setShd (pgSWT k) o (putBits (s.shd (pgSWT k) o) (1, 0) 1)

/-- The result of rectangle `r` is complete (R271). -/
def State.rectResult (s : State) (k r : Nat) : State :=
  let p := pgSWT k
  let w := s.swath k
  if !w.crcBusy.contains r then s
  else
    match s.snapOfSwath k w.crcFrame with
    | none => s
    | some x =>
      let c := s.rectCrc k r x
      let s1 := (s.setSwath k { w with crcBusy := w.crcBusy.filter (· != r) }).setReg p (Swt.LAST_CRC r) c
      if s.rectMode k r = 1 then
        if c = s.reg p (Swt.EXPECTED r) then s1
        else (((s1.inc p (Swt.MISMATCHES r)).setNat p (Swt.LAST_BAD r) w.crcFrame).fault p Swt.F_CRC_MISMATCH).count
          (1232 + 4 * k + 3) 1
      else if s.rectMode k r = 2 then
        (((s1.setBoth p (Swt.EXPECTED r) c).rectChecks k r).setSts p Swt.S_CAPTURED 1).swtEvent k 3
      else s1

def execRectCrcResult (k : Fin 16) (r : Fin 8) (s : State) : Host.Outcome State Fault Refusal := done (s.rectResult k.val r.val)

/-! ### Frame starts (R258, R260, R265) -/

/-- The registers that a start loads. -/
def State.startRegs (s : State) (k : Nat) (f : FixedStart) : State :=
  let p := pgSWT k
  let s1 := (s.inc p Swt.FRAME_COUNT).count (1232 + 4 * k) 1
  let s2 := (s1.setTimeRegs p Swt.LAST_START_S_LO (gridTimeVal f.start)).setNat p Swt.CONTENT_FRAME f.frame
  ((s2.setNat p Swt.LAST_FLEX (unsign 16 f.m)).sample 5 k f.m).nextStartRegs k

/-- The Swath's own record of a start. -/
def SwtState.made (w : SwtState) (f : FixedStart) : SwtState :=
  { w with fixed := w.fixed.drop 1, lastStart := some f.start, shown := some f.frame, jNext := w.jNext + 1, holdEnd := none,
           firsts := if w.firsts.any (fun x => x.1 == f.frame) then w.firsts else ((f.frame, f.start) :: w.firsts).take 4 }

/-- The cutover start has come: the frames released so far precede it (R555, R556). -/
def State.passCutover (s : State) (k start : Nat) : State :=
  if s.red.cutover = some start ∧ s.fld pgRED Red.PAIR_CTRL Red.SWAP_SWATH = k ∧ s.red.atCut = [] then
    let l := ((List.range 16).filter (fun i => (s.swath i).everReleased)).map (fun i => (i, s.nat (pgSWT i) Swt.RELEASED_FRAME + 1))
    let s1 := s.setRed { s.red with atCut := if l = [] then [(16, 1)] else l }
    if s1.stileHeld && s1.red.copying then
      let s2 := s1.sendHardwareImage
      s2.setRed { s2.red with copying := false }
    else s1
  else s

/-- The frame start of fixed start `f`. -/
def State.makeStart (s : State) (k : Nat) (f : FixedStart) : State :=
  let held := s.swathState k == 3
  let s1 := if held then s.flushAtLeave k f.start else s
  let s2 := (s1.commitStart k (timeOfUnits f.start)).flushAtStart k f.start
  let s3 := (s2.setSwath k ((s2.swath k).made f)).startRegs k f
  let s4 := (s3.beginCrc k f.frame).setSwathState k 2
  let s5 := if s.swathState k = 2 then s4 else s4.swathLocks.pinsRefresh
  ((s5.swtEvent k 0).passCutover k f.start).digestStart k f.start f.repeated

def State.frameStart (s : State) (k : Nat) : State :=
  match (s.swath k).fixed with
  | [] => s
  | f :: _ =>
    if s.swathState k = 0 ∨ s.enabled (pgSWT k) = false then s
    else s.atTime (timeOfUnits f.start) (fun a => a.makeStart k f)

def execFrameStart (k : Fin 16) (s : State) : Host.Outcome State Fault Refusal := done (s.frameStart k.val)

/-! ### FRAME_OUT (R101) -/

/-- The earliest pulse that FRAME_OUT owes. -/
def State.frameOutPulse (s : State) : State :=
  match earliest s.frameOutDue with
  | none => s
  | some l =>
    s.atTime (timeOfUnits l.at_) (fun a =>
      let a1 := a.frameOutMade l
      let stop : Int := (l.at_ + a.nat (pgSYN 7) SynOut.WIDTH * LU : Nat)
      if a.synOutOn 7 && (a.swathState l.swath == 1 || a.swathState l.swath == 2) then
        a1.synBegin 7 (l.start : Int) stop (.pulse 7 (a.synHigh 7) l.at_ stop.toNat)
      else a1)

def execFrameOutPulse (s : State) : Host.Outcome State Fault Refusal := done s.frameOutPulse

end Sys2Proof.Machine
end

