-- ==== Sys2Proof/Machine/Stile.lean ====
section
/-!
DEFINITION. The Stile (R529 to R537), takeover and FALLBACK (R559 to R563).
-/
namespace Sys2Proof.Machine

/-! ### The safe scene (R563) -/

def SAFE_AT : Nat := FERAM_BASE + 0x0FE0000
def SAFE_LEN : Nat := 6752

/-- A record's MAGIC, VERSION, LENGTH and CRC pass. -/
def sceneValid (l : List Byte) : Bool :=
  leAt l 0 4 == 0x4D585343 && leAt l 4 2 == 1 && leAt l 8 4 == SAFE_LEN
    && leAt l 12 4 == (crc32c (putAt (l.take SAFE_LEN) 12 [0, 0, 0, 0])).toNat

/-- The scene as a takeover reads it: a bad record acts as zeros. -/
def State.safeScene (s : State) : List Byte :=
  let l := s.bytes SAFE_AT SAFE_LEN
  if sceneValid l then l else []

/-- A slot of an output without contents. -/
def PortState.clearFills (p : PortState) : PortState := { p with fill0 := none, fill1 := none, emitted := none }

/-- The number of elements of the latest FILL of an output. -/
def PortState.elements (p : PortState) : Nat :=
  match p.fill0, p.fill1 with
  | some a, some b => if a.frame < b.frame then b.count else a.count
  | some a, none => a.count
  | none, some b => b.count
  | none, none => 0

/-- Pixel port `j` takes the scene as content `g`, or nothing where PX_MASK leaves it out. -/
def State.scenePx (s : State) (l : List Byte) (g j : Nat) : State :=
  let x := s.portOf (keyPX j)
  let c := x.clearFills
  if !(leAt l 0x10 8).testBit j then s.setPort (keyPX j) c
  else
    let d := s.pxDepth j
    let one := (List.range (s.pxChannels j)).map (fun i => convertDepth 16 d (leAt l (0x20 + 8 * j + 2 * s.pxSource j i) 2))
    let vals := (List.range x.elements).flatMap (fun _ => one)
    (s.setBytes (pxSlotAt j (g % 2)) (packBits d vals)).setPort (keyPX j) (c.setFill (g % 2) ⟨g, x.elements⟩)

def State.sceneDmx (s : State) (l : List Byte) (g j : Nat) : State :=
  let c := (s.portOf (keyDMX j)).clearFills
  if !(leAt l 0x1C 2).testBit j then s.setPort (keyDMX j) c
  else
    s.setPort (keyDMX j) ((c.setBuf (g % 2) ((List.range 512).map (fun i => leAt l (0x260 + 512 * j + i) 1))).setFill (g % 2) ⟨g, 512⟩)

def State.sceneLcl (s : State) (l : List Byte) (g n : Nat) : State :=
  let c := (s.portOf (keyLCL n)).clearFills
  let v := (List.range 8).map (fun i => if (leAt l 0x18 4).testBit (8 * n + i) then leAt l (0x220 + 2 * (8 * n + i)) 2 else 0)
  s.setPort (keyLCL n) ((c.setBuf (g % 2) v).setFill (g % 2) ⟨g, 8⟩)

/-- Swath `k` shows the safe scene as content `g`. -/
def State.showScene (s : State) (k g : Nat) : State :=
  let l := s.safeScene
  let s1 := ((List.range 64).filter (s.pxUsed k)).foldl (fun a j => a.scenePx l g j) s
  let s2 := ((List.range 12).filter (s.dmxUsed k)).foldl (fun a j => a.sceneDmx l g j) s1
  let s3 := ((List.range 4).filter (s.lclUsed k)).foldl (fun a n => a.sceneLcl l g n) s2
  s3.setRed { s3.red with scene := k :: s3.red.scene.filter (· != k) }

/-- The wired outputs of Swath `k` still hold content `g`. -/
def State.slotsHold (s : State) (k g : Nat) : Bool :=
  ((s.outputsOf k).filter (fun o => decide (o.1 < 96))).all (fun o => (s.portOf o.1).holds g)

/-- FALLBACK of one Swath (R562): the last content whose digest matched, or the safe scene. -/
def State.fallbackSwath (s : State) (k : Nat) : State :=
  if s.swathState k = 0 then s
  else
    let s1 := s.cancelStarts k
    let m := Tab.get (fun _ => 0) s1.red.matched k
    if m ≠ 0 ∧ s1.slotsHold k (m - 1) = true then s1.setSwath k { s1.swath k with lastFixed := some (m - 1) }
    else
      let g := s1.nat (pgSWT k) Swt.CONTENT_FRAME
      (s1.showScene k g).setSwath k { s1.swath k with lastFixed := some g }

def State.enterFallback (s : State) : State :=
  (List.range 16).foldl State.fallbackSwath (s.setSts pgRED Red.S_FALLBACK 1)

/-- PAIR_ACTION.FALLBACK_END (R562): the Swaths return to their own sources. -/
def State.fallbackEnd (s : State) : State :=
  let s1 := s.red.scene.foldl (fun a k => a.setSwath k { a.swath k with nextAnchor := none }) s
  (s1.setRed { s1.red with scene := [] }).setSts pgRED Red.S_FALLBACK 0

/-! ### Rails and role (R525, R530, R531) -/

/-- STILE_STATE of two rails; an own rail that waits its further 100 ns reads FREE (R531). -/
def RedState.stile (r : RedState) : Nat := if !r.own || r.claiming then 0 else if r.peer then 2 else 1

/-- What the outputs do at a change of role (R559): RDM transactions end, and a field frame on the wire is lost by the device
that releases; the device that takes over samples the balls that it now drives (R298). -/
def State.roleOutputs (s : State) (lost : Bool) : State :=
  let s1 := (List.range 12).foldl State.rdmAbort s
  if lost then
    (List.range 8).foldl (fun a k =>
      if (a.fieldOf k).onWire then a.setField k { a.fieldOf k with current := none, onWire := false, waitUntil := 0 } else a) s1
  else (List.range 64).foldl State.pxSampling s1

/-- In a pair the resident firmware rewrites TL_MODE.SRC after a change of role (R427, R548; log entry 8):
PAIR_TIME.ACTIVE_SRC on the ACTIVE device, 8 PEER on the standby. A device whose link is not up and whose peer rail was
never high is used alone (R528) and keeps its SRC. The timeline takes the change as at a commit that changes SRC (R87). -/
def State.roleSource (s : State) : State :=
  let old := s.tlSrc
  let want := if s.stileHeld then s.fld pgRED Red.PAIR_TIME (3, 0) else 8
  if !(s.linkUp || s.red.peerSeen) || s.dev.dieFenced || want == old || want == 0 || decide (8 < want) then s
  else
    (((s.setReg pgTLN Tln.TL_MODE (putBits (s.reg pgTLN Tln.TL_MODE) Tln.SRC want)).setShd pgTLN Tln.TL_MODE
      (putBits (s.shd pgTLN Tln.TL_MODE) Tln.SRC want)).tlnCommitted old).alignRefresh

/-- The rails change: STILE_STATE, ROLE, PAIR_STATE, the drivers, and what a change of role brings (R548, R553, R574,
R575). -/
def State.setRails (s : State) (r : RedState) : State :=
  let old := s.sts pgRED Red.S_STILE_STATE
  let new := r.stile
  let s1 := ((s.setRed { r with peerSeen := r.peerSeen || r.peer }).setFld pgRED Red.PAIR_STATE Red.OWN_RAIL
    (if r.own then 1 else 0)).setFld pgRED Red.PAIR_STATE Red.PEER_RAIL (if r.peer then 1 else 0)
  if old = new then s1
  else
    let s2 := ((s1.setSts pgRED Red.S_STILE_STATE new).setSts pgRED Red.S_ROLE (if new = 1 then 1 else 0)).irq 341
    if old = 1 ∨ new = 1 then
      (((s2.roleOutputs (old == 1)).trigger 0xE01 pgRED).count 1477 1).roleSource.syncRefresh.pinsRefresh
    else s2

/-- A release (R533): the own rail falls, and a new holdoff counts from that fall. -/
def State.releaseStile (s : State) : State :=
  if s.red.own then s.setRails { s.red with own := false, claiming := false, holdoffFrom := s.tln.now } else s

def State.claimEnabled (s : State) : Bool := s.fld pgRED Red.PAIR_CTRL Red.CLAIM_EN == 1

/-- A fast claim is allowed (R532). -/
def State.mayFastClaim (s : State) : Bool :=
  s.claimEnabled && s.fld pgRED Red.PAIR_CTRL Red.FAST_EN == 1 && s.syncState == 3 && !s.stileHeld && !s.red.own
    && !s.dev.dieFenced && s.pageState pgRED != 3 && s.aclkRuns

/-- A planned swap without PATH_FAULT (R565, R567). -/
def State.swapDone (s : State) : State :=
  let s1 := ((s.inc pgRED Red.SWAP_COUNT).irq 344).count 1480 1
  (s1.setRed { s1.red with lastSwap := some s1.tln.now }).setSts pgRED Red.S_DRILL_DUE 0

/-- STILE_PEER falls (R532, R536, R554). A claim that a planned swap brought counts as that swap here too. -/
def State.peerFall (s : State) : State :=
  if !s.red.peer then s
  else
    let fast := s.mayFastClaim
    let s1 := s.setRails { s.red with peer := false, holdoffFrom := s.tln.now, own := s.red.own || fast }
    let s2 := if fast && s.red.plan.isSome then (s1.setRed { s1.red with plan := none }).swapDone else s1
    if !s2.stileHeld ∧ s2.syncState = 1 then s2.setSync 2 else s2

def execPeerRailFall (s : State) : Host.Outcome State Fault Refusal := done s.peerFall

/-- STILE_PEER rises: a CONFLICT, or the end of a holdoff attempt (R531, R532). -/
def State.peerRise (s : State) : State :=
  if s.red.peer then s
  else
    let r := s.red
    let s1 := if r.claiming then s.setRails { r with peer := true, own := false, claiming := false, holdoffFrom := s.tln.now }
      else s.setRails { r with peer := true }
    if !s1.stileHeld ∧ s1.syncState = 2 then s1.setSync 0 else s1

def execPeerRailRise (s : State) : Host.Outcome State Fault Refusal := done s.peerRise

/-- Holdoff of R532 in ns: 1.000 µs on device A, 3.000 µs on device B. -/
def State.holdoffNs (s : State) : Nat := if s.dev.roleB then 3000 else 1000

def State.holdoffClaim (s : State) : State :=
  if !s.claimEnabled || s.red.own || s.red.peer || s.dev.dieFenced || s.pageState pgRED == 3 || !s.aclkRuns then s
  else
    s.atTime (s.red.holdoffFrom + s.holdoffNs * NS) (fun a =>
      a.setRails { a.red with own := true, claiming := true, holdoffFrom := a.tln.now })

def execHoldoffClaim (s : State) : Host.Outcome State Fault Refusal := done s.holdoffClaim

/-- A cold takeover: not SYNCED, and the partner had driven the outputs (R532). -/
def State.coldClaim (s : State) : Bool := s.syncState != 3 && s.red.peerSeen

def State.coldTakeover (s : State) : State :=
  (((s.fault pgRED Red.F_COLD_TAKEOVER).inc pgRED Red.COLD_TAKEOVERS).trigger 0xE02 pgRED).enterFallback

def State.holdoffConfirm (s : State) : State :=
  if !s.red.claiming || s.red.peer then s
  else
    s.atTime (s.red.holdoffFrom + 100 * NS) (fun a =>
      let b := a.setRails { a.red with claiming := false }
      if a.coldClaim then b.coldTakeover else b)

def execHoldoffConfirm (s : State) : Host.Outcome State Fault Refusal := done s.holdoffConfirm

/-- CONFLICT for more than 1.0 ns (R534). -/
def State.stileConflict (s : State) : State :=
  if s.sts pgRED Red.S_STILE_STATE ≠ 2 then s
  else
    (((s.inc pgRED Red.CONFLICTS).fault pgRED Red.F_STILE_CONFLICT).trigger 0xE03 pgRED).releaseStile

def execStileConflict (s : State) : Host.Outcome State Fault Refusal := done s.stileConflict

/-- The rails that the partner reported differ from those read here for more than 10 µs (R537). -/
def State.stileMismatch (s : State) : State :=
  match s.red.view with
  | none => s
  | some v => if v.own != s.red.peer || v.peer != s.red.own then s.fault pgRED Red.F_STILE_MISMATCH else s

def execStileMismatchTimeout (s : State) : Host.Outcome State Fault Refusal := done s.stileMismatch

/-- A commit has changed CLAIM_EN (R532, R533). -/
def State.claimChanged (s : State) (was : Bool) : State :=
  if was && !s.claimEnabled then s.releaseStile
  else if !was && s.claimEnabled then s.setRed { s.red with holdoffFrom := s.tln.now }
  else s

end Sys2Proof.Machine
end

