-- ==== Sys2Proof/Machine/Fence.lean ====
section
/-!
DEFINITION. Fault containment (R18 to R23): fencing a unit, a cluster or a region, and the die-level release of the wired
outputs.
-/
namespace Sys2Proof.Machine

/-- The recorder codes of a level (R18): first, and their number. -/
def levelCodes (level : Nat) : Nat × Nat :=
  [(0x000, 0x400), (0x400, 0x200), (0x600, 0x200), (0x800, 0x400), (0xC00, 0x200), (0xE00, 0x200)].getD level (0, 1)

/-- A fault of a level is recorded under a code of its range (R22; log entry 52). -/
def State.recordFault (s : State) (level page : Nat) : State :=
  let c := levelCodes level
  s.trigger (c.1 + Config.faultCode level page % c.2) page

/-- Containment of a fault begins (R21). -/
def State.beginContain (s : State) (level inst : Nat) : State :=
  { s with dev := { s.dev with containing := (level, inst) :: s.dev.containing.filter (· != (level, inst)) } }

/-- The executor of a page's unit (R241), 127 for none. -/
def executorOf (i : PageInfo) : Nat :=
  match i.block with
  | .plu => i.inst
  | .pxp => 32 + i.inst
  | .dmx => 96 + i.inst
  | .fld => 108 + i.inst
  | .lcl => 116 + i.inst
  | .str => 120
  | .ing => 121
  | _ => 127

/-- A PLU abandons what it was running. -/
def State.clearPlu (s : State) (k : Nat) : State :=
  s.setPlu k { s.pluOf k with next := 0, run := none, sums := [], faulted := false }

/-- The jobs of a unit are handed back (R18, R224). -/
def State.returnJobs (s : State) (i : PageInfo) : State :=
  let s1 := if i.block = .plu then s.clearPlu i.inst else s
  if executorOf i = 127 then s1 else s1.handBackAll (executorOf i)

/-- The thread that a core runs returns to READY (R73). -/
def State.abandonCore (s : State) (c : Nat) : State :=
  (List.range 256).foldl (fun a t =>
    let v := a.thread t
    if v.st = 2 ∧ v.core = c then a.threadReady t { v with core := 0 } else a) s

/-- A port unit's pin holds its last level (R18, R280, R309); a field port falls silent. -/
def State.holdPins (s : State) (i : PageInfo) : State :=
  match i.block with
  | .pxp =>
    let s1 := s.pxHold i.inst
    s1.setPort (keyPX i.inst) { s1.portOf (keyPX i.inst) with held := (s.pxPin i.inst).1 }
  | .dmx =>
    let s1 := (s.rdmCut i.inst true).dmxCut i.inst true
    s1.setPort (keyDMX i.inst) { s1.portOf (keyDMX i.inst) with held := (s.dmxPin i.inst).1 }
  | .fld => s.setField i.inst { s.fieldOf i.inst with current := none, onWire := false }
  | .ccr => s.abandonCore i.inst
  | .lmp => s.gateOff i.inst
  | _ => s

/-- A page and the rest of its group read FAILED. -/
def State.fenceGroup (s : State) (g : Nat) : State :=
  match pageInfo g with
  | none => s
  | some i => (List.range (2 ^ i.block.groupLog2 - 1)).foldl (fun a k => a.setPageState (g + 1 + k) 3) (s.fencePage g)

/-- A unit is fenced (R18). -/
def State.fenceUnit (s : State) (g : Nat) : State :=
  match pageInfo g with
  | none => s
  | some i => ((((s.holdPins i).fenceGroup g).returnJobs i).recordFault 0 g).beginContain 0 g

/-- A cluster is fenced: a PLU cluster's jobs go to the others, a lamp cluster drives its gates inactive (R18). -/
def State.fenceCluster (s : State) (g : Nat) : State :=
  match pageInfo g with
  | some ⟨.plc, k, _⟩ =>
    let s1 := s.fenceGroup g
    (((s1.returnJobs ⟨.plu, 2 * k, 0⟩).returnJobs ⟨.plu, 2 * k + 1, 0⟩).recordFault 1 g).beginContain 1 g
  | some ⟨.lcl, n, _⟩ => (((s.fenceGroup g).returnJobs ⟨.lcl, n, 0⟩).recordFault 1 g).beginContain 1 g
  | _ => s

/-- Region `n` stops dispatch; its outputs hold (R18). -/
def State.fenceRegion (s : State) (n page : Nat) : State :=
  let s1 := { s with dev := { s.dev with regionFenced := Tab.set (fun _ => false) s.dev.regionFenced n true } }
  ((((s1.fenceGroup (pgCMP n)).fenceGroup (pgJSC n)).holdRegion n).recordFault 2 page).beginContain 2 n

/-- FAULT_N low, the own Stile rail low, every wired output released (R18, R23). -/
def State.openDie (s : State) : State :=
  { s with dev := { s.dev with dieFenced := true, faultN := true } }.releaseStile.pinsRefresh

/-- A die-level fault (R18, R23). -/
def State.fenceDie (s : State) (page : Nat) : State := (s.openDie.recordFault 3 page).pinsRefresh

/-- A package-level fault: as the die, and all DRAM content is invalid (R18). -/
def State.fencePackage (s : State) (page : Nat) : State :=
  let s1 := { s with dev := { s.dev with dieFenced := true, faultN := true, dramValid := false } }
  (s1.releaseStile.recordFault 4 page).pinsRefresh

/-- A system-level fault: the pair logic is fenced and lets go of the Stile, so that the partner takes over the outputs (R18). -/
def State.fenceSystem (s : State) (page : Nat) : State := ((s.fenceGroup pgRED).releaseStile.recordFault 5 page).pinsRefresh

/-- A fault at the level of a page fences its instance, whose pages read FAILED; the jobs of STR and ING go back (R18, R59, R224). -/
def State.fencePageLevel (s : State) (page : Nat) : State :=
  match pageInfo page with
  | none => s
  | some i =>
    match i.block.level with
    | 0 => (s.fenceUnit (groupOf page)).pinsRefresh
    | 1 => (s.fenceCluster (groupOf page)).pinsRefresh
    | 2 => (s.fenceRegion i.inst page).pinsRefresh
    | 3 => ((s.fenceGroup (groupOf page)).returnJobs i).fenceDie page
    | _ => s.fenceSystem page

/-- The cluster page of a unit page, where the unit lies in a cluster. -/
def clusterOfUnit (g : Nat) : Option Nat :=
  match pageInfo g with
  | some ⟨.plu, k, _⟩ => some (pgPLC (k / 2))
  | some ⟨.lmp, k, _⟩ => some (pgLCL (k / 8))
  | _ => none

/-- The region of a unit or cluster page (R17); none where it lies in no region. -/
def regionOfPage (g : Nat) : Option Nat :=
  match pageInfo g with
  | some ⟨.plu, k, _⟩ => some (k / 8)
  | some ⟨.plc, k, _⟩ => some (k / 4)
  | some ⟨.pxp, k, _⟩ => some (k / 16)
  | some ⟨.dmx, k, _⟩ => some (k / 3)
  | some ⟨.fld, k, _⟩ => some (k / 2)
  | some ⟨.lcl, n, _⟩ => some n
  | some ⟨.lmp, k, _⟩ => some (k / 8)
  | some ⟨.cmp, n, _⟩ => some n
  | some ⟨.jsc, n, _⟩ => some n
  | _ => none

/-- Containment did not complete within 1 ms: the fault is raised one level higher (R21). The levels above a unit are those that
contain it: a port unit lies in no cluster, so its region is fenced, and a unit or cluster in no region takes the die (DESIGN
CHOICE, log entry 128). -/
def State.containLate (s : State) (level inst : Nat) : State :=
  if !s.dev.containing.contains (level, inst) then s
  else
    let s1 := { s with dev := { s.dev with containing := s.dev.containing.filter (· != (level, inst)) } }
    match level with
    | 0 =>
      match clusterOfUnit inst, regionOfPage inst with
      | some c, _ => (s1.fenceCluster c).pinsRefresh
      | none, some n => (s1.fenceRegion n inst).pinsRefresh
      | none, none => s1.fenceDie inst
    | 1 =>
      match regionOfPage inst with
      | some n => (s1.fenceRegion n inst).pinsRefresh
      | none => s1.fenceDie inst
    | 2 => s1.fenceDie (pgJSC inst)
    | _ => s1

def execContainmentTimeout (level inst : Nat) (s : State) : Host.Outcome State Fault Refusal := done (s.containLate level inst)

/-- A fault of a page's level while one of a higher level is raised in the same ACLK cycle: it is recorded, and only the higher
one's containment is taken (R22). -/
def State.maskedFault (s : State) (page : Nat) : State :=
  match pageInfo page with
  | none => s
  | some i => s.recordFault i.block.level page

/-- A parity error in the live storage of a page's registers (R59); `masked` says that a fault of a higher level is raised in
the same ACLK cycle. -/
def execParityError (page : Nat) (masked : Bool) (s : State) : Host.Outcome State Fault Refusal :=
  done (if (pageInfo page).isSome then
      (if masked then (s.fault page F_PARITY).maskedFault page else (s.fault page F_PARITY).fencePageLevel page)
    else s)

/-- A die-level fault (R23). -/
def execDieFault (s : State) : Host.Outcome State Fault Refusal := done (s.fenceDie pgSYS)

end Sys2Proof.Machine
end

