-- ==== Sys2Proof/Machine/JobRun.lean ====
section
/-!
DEFINITION. Dispatch, completion and retirement of jobs, timeouts, lagging PLUs, threads, and the commands of the job
scheduling pages (R203 to R244).
-/
namespace Sys2Proof.Machine

/-! ### Availability (R18, R219 to R221, R228) -/

def State.regionStopped (s : State) (n : Nat) : Bool := Tab.get (fun _ => false) s.dev.regionFenced n

/-- The unit behind a page takes jobs: it is not fenced and not being reset. -/
def State.pageTakes (s : State) (page : Nat) : Bool := s.pageState page != 3 && !s.isResetting page

def State.jobsOn (s : State) (e : Nat) : List Job :=
  (List.range 4).flatMap (fun n => (s.regionOf n).jobs.filter (fun j => j.phase == .dispatched && j.executor == e))

/-- LAGGING of a PLU (R73, R227). -/
def State.lagging (s : State) (k : Nat) : Bool := s.flag (pgPLU k) PAGE_STATUS 16

/-- A LAGGING PLU may take the job (R228). -/
def State.lagAllows (s : State) (j : Job) : Bool := !j.ordered || decide (s.windowPos j ≤ 47)

/-- PLU `k` may take job `j`; without PCLK none does (R35, R612). -/
def State.pluTakes (s : State) (k : Nat) (j : Job) : Bool :=
  s.engineRuns && s.pageTakes (pgPLU k) && s.pageTakes (pgPLC (k / 2)) && decide ((s.jobsOn k).length < 2) && (!s.lagging k || s.lagAllows j)

/-- The rank of a PLU for a job: fewer jobs, not LAGGING, lower number (R220). -/
def State.pluRank (s : State) (k : Nat) : Nat := (s.jobsOn k).length * 1024 + (if s.lagging k then 512 else 0) + k

def leastBy (f : Nat → Nat) : List Nat → Option Nat
  | [] => none
  | x :: t =>
    match leastBy f t with
    | none => some x
    | some y => if f x ≤ f y then some x else some y

def State.pluFor (s : State) (n : Nat) (j : Job) : Option Nat :=
  leastBy s.pluRank ((List.range 8).map (8 * n + ·) |>.filter (fun k => s.pluTakes k j))

/-- Page and output key of the port that a FILL names. -/
def fillPage (cls k : Nat) : Nat := [pgPXP k, pgDMX k, pgFLD k, pgLCL k].getD cls 0
def fillKey (cls k : Nat) : Nat := [keyPX k, keyDMX k, keyFLD k, keyLCL k].getD cls 0

def Job.fillClass (j : Job) : Nat := j.arg 0 / 64 % 4
def Job.fillUnit (j : Job) : Nat := j.arg 0 % 64

/-- The slot of content `h` is free (R289): no emission from it, and no start still to be launched that shows its other
content. -/
def State.slotFree (s : State) (key h : Nat) : Bool :=
  !(s.portOf key).emit.any (fun e => e.slot == h % 2) && !(s.launches key).any (fun l => (l.frame + 2) % 2 ^ 32 == h)

/-- The class of a job's READY queue (R199, R219): 0 PLU, 1 PORT, 2 ENGINE, 3 THREAD. -/
def Job.cls (j : Job) : Nat := [0, 0, 2, 1, 2, 3].getD j.type 3

def Job.earlier (a b : Job) : Bool := decide (a.readyAt < b.readyAt)

def insertJob (j : Job) : List Job → List Job
  | [] => [j]
  | x :: t => if j.earlier x then j :: x :: t else x :: insertJob j t

/-- The 16 oldest jobs of a READY queue. -/
def State.readyQueue (s : State) (n cls : Nat) : List Job :=
  (((s.regionOf n).jobs.filter (fun j => j.phase == .ready && j.cls == cls)).foldr insertJob []).take 16

/-- STR (type 2) or ING takes a job of region `n` now: it holds fewer than four, and no region stands before it in the
round robin (R221). -/
def State.engineTakes (s : State) (n type : Nat) : Bool :=
  let e := if type = 2 then 120 else 121
  let last := if type = 2 then s.dev.servedStr else s.dev.servedIng
  let ready (m : Nat) : Bool := !s.regionStopped m && decide ((s.regionOf m).inFlight < 64) && (s.readyQueue m 2).any (fun j => j.type == type)
  s.pageTakes (if type = 2 then pgSTR else pgING) && decide ((s.jobsOn e).length < 4)
    && !((List.range 3).any (fun i =>
      let m := (last + 1 + i) % 4
      decide ((m + 3 - last) % 4 < (n + 3 - last) % 4) && ready m))

/-- The executor that may take a READY job now. -/
def State.executorFor (s : State) (n : Nat) (j : Job) : Option Nat :=
  match j.type with
  | 0 | 1 => s.pluFor n j
  | 3 =>
    let p := fillPage j.fillClass j.fillUnit
    let e := fillExecutor j.fillClass j.fillUnit
    if s.pageState p = 3 then some e
    else if !s.engineRuns || s.isResetting p || !(s.jobsOn e).isEmpty || !s.slotFree (fillKey j.fillClass j.fillUnit) j.frame then none
    else some e
  | 2 => if s.engineTakes n 2 then some 120 else none
  | 4 => if s.engineTakes n 4 then some 121 else none
  | _ => some 122

/-- The oldest job of a queue that an executor may take, and that executor. -/
def State.pickJob (s : State) (n : Nat) : List Job → Option (Job × Nat)
  | [] => none
  | j :: t =>
    match s.executorFor n j with
    | some e => some (j, e)
    | none => s.pickJob n t

/-- Job `j` is given to executor `e`. -/
def State.give (s : State) (n e : Nat) (j : Job) : State :=
  let s1 := s.modRegion n (fun r =>
    { r.put { j with phase := .dispatched, executor := e, sentAt := r.stamp
                     trace := j.trace.map (fun t => { t with dispatch := if t.dispatch = 0 then s.tln.now else t.dispatch }) }
      with stamp := r.stamp + 1 })
  let s2 := s1.count (1024 + 48 * n + 1) 1
  if e = 120 then { s2 with dev := { s2.dev with servedStr := n } }
  else if e = 121 then { s2 with dev := { s2.dev with servedIng := n } }
  else s2

/-- One dispatch of region `n` from the queue of a class (R218, R219); a FILL of a FAILED port retires ABORTED (R224);
none outside Run (R608, R613). -/
def State.dispatch (s : State) (n cls : Nat) : State :=
  if s.regionStopped n || s.pwrState != 0 || decide (64 ≤ (s.regionOf n).inFlight) then s
  else
    match s.pickJob n (s.readyQueue n cls) with
    | none => s
    | some (j, e) =>
      if j.type = 3 ∧ s.pageState (fillPage j.fillClass j.fillUnit) = 3 then s.complete n { j with kind := some 2, executor := e }
      else s.give n e j

def execJobDispatch (n cls : Fin 4) (s : State) : Host.Outcome State Fault Refusal := done (s.dispatch n.val cls.val)

/-! ### Completion (R203, R222, R226) -/

/-- A PLU has completed a job that took `cycles` from its dispatch (R226). -/
def State.pluLatency (s : State) (k cycles : Nat) : State :=
  if !s.flag (pgJSC (k / 8)) Jsc.JSC_CTRL 0 then s
  else
    let u := s.pluOf k
    if u.latCount + 1 < 1000 then s.setPlu k { u with latCount := u.latCount + 1, latSum := u.latSum + cycles }
    else
      let mean := (u.latSum + cycles) / 1000
      (s.setPlu k { u with latCount := 0, latSum := 0, latDue := some mean, hasMean := true }).setNat (pgJSC (k / 8))
        (Jsc.PLU_LAT (k % 8)) mean

/-- What a PLU has made of a job: its state, or none while pixels of it are still to run. -/
def State.pluFinish (s : State) (k : Nat) (j : Job) : Option (State × Job) :=
  if j.type = 0 then
    match s.tileSnap j with
    | none => some (((s.clearPlu k).count (8 * k + 2) 1).count (8 * k) 16, { j with kind := some 1 })
    | some _ =>
      let u := s.pluOf k
      if u.run.isSome ∨ u.next < j.arg 2 then none
      else
        some (((s.clearPlu k).count (8 * k + 2) 1).count (8 * k) 16, { j with sums := u.sums, kind := if u.faulted then some 0 else none })
  else
    let r := s.fixRun j
    some (r.1.count (8 * k + 3) 1, r.2)

/-- A FILL by its port engine. -/
def State.fillRun (s : State) (j : Job) : State × Option Nat :=
  let k := j.fillUnit
  match j.fillClass with
  | 0 => s.pxFill k (j.arg 1) (j.arg 2) j.frame
  | 1 => s.dmxFill k (j.arg 1) (j.arg 2) j.frame
  | 2 => s.fldFill k (j.arg 1) (j.arg 2) j.frame
  | _ => s.lclFill k (j.arg 1) (j.arg 2) j.frame

/-- The job that executor `e` of region `n` finishes next. -/
def State.runningJob (s : State) (n e : Nat) : Option Job :=
  firstSent ((s.regionOf n).jobs.filter (fun j => j.phase == .dispatched && j.executor == e))

/-- Executor `e` finishes the job it runs; PLUs and port engines need PCLK (R35, R612). -/
def State.finishJob (s : State) (n e cycles : Nat) : State :=
  match s.runningJob n e with
  | none => s
  | some j =>
    if (e < 32 ∨ j.type = 3) ∧ s.engineRuns = false then s
    else if e < 32 then
      match s.pluFinish e j with
      | none => s
      | some (a, j1) => ((if j.type = 0 then a else a.count (8 * e) cycles).pluLatency e cycles).complete n j1
    else if j.type = 3 then
      let r := s.fillRun j
      r.1.complete n { j with kind := r.2 }
    else if j.type = 2 then
      let r := s.strPack (j.arg 0 % 4096) (j.arg 1) j.frame
      r.1.complete n { j with kind := r.2 }
    else s.complete n j

def execJobComplete (n : Fin 4) (executor : Fin 128) (cycles : Nat) (s : State) : Host.Outcome State Fault Refusal :=
  done (s.finishJob n.val executor.val cycles)

/-- The completed job of a domain whose SEQ equals HEAD retires (R215). -/
def State.retireNext (s : State) (n dom : Nat) : State :=
  match (s.regionOf n).jobs.find? (fun j => j.phase == .completed && j.ordered && j.domain == dom && s.windowPos j == 0) with
  | some j => s.retire n j
  | none => s

def execJobRetire (n : Fin 4) (dom : Fin 4096) (s : State) : Host.Outcome State Fault Refusal :=
  done (s.retireNext n.val dom.val)

/-! ### Timeouts and stalls (R217, R225) -/

/-- The page of an executor (R241), none for the thread class. -/
def executorPage (e : Nat) : Option Nat :=
  if e < 32 then some (pgPLU e) else if e < 96 then some (pgPXP (e - 32)) else if e < 108 then some (pgDMX (e - 96))
  else if e < 116 then some (pgFLD (e - 108)) else if e < 120 then some (pgLCL (e - 116)) else if e = 120 then some pgSTR
  else if e = 121 then some pgING else none

/-- A job has been DISPATCHED on executor `e` for more than JOB_TIMEOUT: a fault of the executor's level (R225). -/
def State.timeoutJob (s : State) (n e : Nat) : State :=
  if (s.runningJob n e).isNone ∨ s.nat (pgJSC n) Jsc.JOB_TIMEOUT = 0 then s
  else
    let s1 := s.fault (pgJSC n) Jsc.F_JOB_TIMEOUT
    match executorPage e with
    | some p => s1.fencePageLevel p
    | none => (s1.recordFault 0 (pgJSC n)).handBackAll e

def execJobTimeout (n : Fin 4) (executor : Fin 128) (s : State) : Host.Outcome State Fault Refusal :=
  done (s.timeoutJob n.val executor.val)

/-- HEAD has not advanced for ORDER_TIMEOUT while a later job is COMPLETED (R217). -/
def State.stallOrder (s : State) (n dom : Nat) : State :=
  if s.flag (pgJSC n) Jsc.JSC_CTRL 1 ∧ dom / 1024 = n
      ∧ (s.regionOf n).jobs.any (fun j => j.phase == .completed && j.ordered && j.domain == dom) = true
      ∧ (s.domainOf dom).stalled = false then
    (s.setDomain dom { s.domainOf dom with stalled := true }).fault (pgJSC n) Jsc.F_ORDER_STALL
  else s

def execOrderStall (n : Fin 4) (dom : Fin 4096) (s : State) : Host.Outcome State Fault Refusal :=
  done (s.stallOrder n.val dom.val)

/-! ### Lagging PLUs (R226, R227) -/

/-- The latest block means of the region's PLUs that are not FAILED. -/
def State.blockMeans (s : State) (n : Nat) : List Nat :=
  ((List.range 8).filter (fun i => !s.pluFailed (8 * n + i) && (s.pluOf (8 * n + i)).hasMean)).map (fun i =>
    s.nat (pgJSC n) (Jsc.PLU_LAT i))

/-- `v` at its place in a rising list, equal values kept. -/
def insertKeep (v : Nat) : List Nat → List Nat
  | [] => [v]
  | a :: t => if v ≤ a then v :: a :: t else a :: insertKeep v t

/-- The lower middle of a list: the middle of the values in rising order, the lower of the two with an even number
(R226). -/
def lowerMedian (l : List Nat) : Nat := (l.foldr insertKeep []).getD ((l.length - 1) / 2) 0

/-- LAGGING of PLU `k` becomes `b`. -/
def State.setLagging (s : State) (k : Nat) (b : Bool) : State :=
  if s.lagging k == b then s
  else
    let s1 := (s.setFlag (pgPLU k) PAGE_STATUS 16 b).setSts (pgJSC (k / 8)) Jsc.S_LAG_CHANGED 1
    let s2 := s1.irq (121 + 2 * (k / 8))
    if b then s2.count (8 * k + 7) 1 else s2

/-- The comparison at the end of a PLU's block. -/
def State.lagCompare (s : State) (k : Nat) : State :=
  let n := k / 8
  match (s.pluOf k).latDue with
  | none => s
  | some m =>
    let s1 := s.setPlu k { s.pluOf k with latDue := none }
    let l := s1.blockMeans n
    if l.length < 3 then s1
    else
      let med := lowerMedian l
      let s2 := s1.setNat (pgJSC n) Jsc.LAG_MEDIAN med
      if 3 * med < 2 * m then s2.setLagging k true else if 4 * m ≤ 5 * med then s2.setLagging k false else s2

def execLagBlockEnd (plu : Fin 32) (s : State) : Host.Outcome State Fault Refusal := done (s.lagCompare plu.val)

/-! ### Lists, submissions and counters (R204 to R211, R229, R239) -/

def execListDescriptorRead (n : Fin 4) (k : Fin 8) (s : State) : Host.Outcome State Fault Refusal := done (s.readList n.val k.val)

def execSpillReadback (n : Fin 4) (s : State) : Host.Outcome State Fault Refusal := done (s.readBack n.val)

/-- A GO of list `k` is dropped: the list is not VALID, is AUTO, or is being read (R211). -/
def State.listGoBad (s : State) (n k : Nat) : Bool :=
  !bit (s.reg (pgJSC n) (Jsc.LIST_CTRL k)) 0 || bit (s.reg (pgJSC n) (Jsc.LIST_CTRL k)) 1 || (s.listRun n k).reading

/-- A GO of list `k` (R209, R211). -/
def State.listGo (s : State) (n k : Nat) : State :=
  if s.listGoBad n k then s.badValue (pgJSC n)
  else (s.reloadList n k).beginList n k (s.nat (pgJSC n) (Jsc.LIST_FRAME k) + 1) false

/-- SUB_D[k] of a requester's own staging. -/
def State.stageWord (s : State) (r : Requester) (n k : Nat) (v : Word) : State :=
  s.modRegion n (fun x => { x with staging := Tab.set (fun _ => 0) x.staging (8 * reqCode r + k) v })

/-- A word that a requester has staged (R239). -/
def State.stagedWord (s : State) (r : Requester) (n k : Nat) : Word :=
  Tab.get (fun _ => 0) (s.regionOf n).staging (8 * reqCode r + k)

/-- What a write of SUB_D[7] leads to, and whether there was room for the descriptor. -/
def State.submitResult (s : State) (r : Requester) (n : Nat) (v : Word) : State × Bool :=
  let s1 := s.stageWord r n 7 v
  s1.submit n ((List.range 8).map (s1.stagedWord r n)) (if isHost r then .host else .core) s1.mergeEpoch

/-- A write to SUB_D[7] submits the staged descriptor (R202, R231). -/
def State.submitStaged (s : State) (r : Requester) (n : Nat) (v : Word) : State :=
  let x := s.submitResult r n v
  if x.2 then x.1 else x.1.fault (pgJSC n) Jsc.F_SUBMIT_OVERRUN

def State.ctrSel (s : State) (n : Nat) : Nat := s.fld (pgJSC n) Jsc.CTR_SEL (11, 0)

/-- Removes the first element equal to `x`. -/
def dropFirst (x : Nat) : List Nat → List Nat
  | [] => []
  | y :: t => if y = x then t else y :: dropFirst x t

/-- A signal on its way reaches counter `c` (R205). -/
def State.signalArrives (s : State) (n c : Nat) : State :=
  let r := s.regionOf n
  if r.signals.contains c then (s.modRegion n (fun x => { x with signals := dropFirst c x.signals })).ctrSub n c 1 else s

def execCounterDecrement (n : Fin 4) (c : Fin 4096) (s : State) : Host.Outcome State Fault Refusal :=
  done (s.signalArrives n.val c.val)

/-- A write of DOM_HEAD_SET would meet jobs of the domain in flight, which drops it (R217). -/
def State.headBusy (s : State) (n : Nat) : Bool :=
  (s.regionOf n).jobs.any (fun j => j.ordered && j.domain == 1024 * n + s.fld (pgJSC n) Jsc.DOM_SEL (9, 0) && j.inFlight)

/-- A write of DOM_HEAD_SET (R217). -/
def State.headWrite (s : State) (n : Nat) (v : Word) : State :=
  if s.headBusy n then s.badValue (pgJSC n) else s.setHead (1024 * n + s.fld (pgJSC n) Jsc.DOM_SEL (9, 0)) (bits v (15, 0))

/-! ### Threads (R232 to R236) -/

/-- A control core runs threads: it is neither fenced nor being reset. -/
def State.coreRuns (s : State) (c : Nat) : Bool := s.active (pgCCR c) && !s.isResetting (pgCCR c)

/-- The thread that core `c` runs. -/
def State.threadOn (s : State) (c : Nat) : Option Nat :=
  (List.range 256).find? (fun t => (s.thread t).st == 2 && (s.thread t).core == c)

def State.thrPrio (s : State) (t : Nat) : Nat := bits (s.thrCfg t) (4, 0)
def State.thrAllows (s : State) (t c : Nat) : Bool := bit (s.thrCfg t) 31 && bit (s.thrCfg t) (8 + c) && s.coreRuns c

/-- Thread `a` is placed before thread `b`. -/
def State.thrBefore (s : State) (a b : Nat) : Bool :=
  decide (s.thrPrio b < s.thrPrio a) || (s.thrPrio a == s.thrPrio b && decide ((s.thread a).readyAt < (s.thread b).readyAt))

def State.insertThread (s : State) (x : Nat) : List Nat → List Nat
  | [] => [x]
  | y :: t => if s.thrBefore x y then x :: y :: t else y :: s.insertThread x t

/-- The READY threads in the order in which they are placed. -/
def State.readyThreads (s : State) : List Nat :=
  ((List.range 256).filter (fun t => (s.thread t).st == 1)).foldr (fun x l => s.insertThread x l) []

/-- The core on which a READY thread is placed (R234). -/
def State.coreFor (s : State) (t : Nat) : Option Nat :=
  let allowed := (List.range 4).filter (s.thrAllows t)
  match allowed.find? (fun c => (s.threadOn c).isNone) with
  | some c => some c
  | none =>
    leastBy (fun c => ((s.threadOn c).map s.thrPrio).getD 0 * 4 + c)
      (allowed.filter (fun c => (s.threadOn c).any (fun r => decide (s.thrPrio r < s.thrPrio t))))

/-- Thread `t` begins to run on core `c`, pre-empting what runs there. -/
def State.runThread (s : State) (t c : Nat) : State :=
  let s1 := match s.threadOn c with
    | some r => (s.threadReady r { s.thread r with core := 0 }).count (752 + 4 * c + 2) 1
    | none => s
  (s1.setThread t { s1.thread t with st := 2, core := c }).count (752 + 4 * c + 1) 1

/-- The first READY thread that has a core is placed. -/
def State.placeThread (s : State) : State :=
  match s.readyThreads.find? (fun t => (s.coreFor t).isSome) with
  | none => s
  | some t =>
    match s.coreFor t with
    | some c => s.runThread t c
    | none => s

def execThreadPlace (s : State) : Host.Outcome State Fault Refusal := done s.placeThread

/-- The thread on core `c` has run QUANTUM cycles while a READY thread of equal priority could use the core (R235). -/
def State.rotate (s : State) (c : Nat) : State :=
  match s.threadOn c with
  | none => s
  | some r =>
    if s.nat (pgJSC (r / 64)) Jsc.QUANTUM = 0 then s
    else
      match s.readyThreads.find? (fun t => s.thrPrio t == s.thrPrio r && s.thrAllows t c) with
      | none => s
      | some _ => (s.threadReady r { s.thread r with core := 0 }).placeThread

def execThreadQuantum (core : Fin 4) (s : State) : Host.Outcome State Fault Refusal := done (s.rotate core.val)

/-- A write of THR_END (R233, R239); a thread of another region is left alone. -/
def State.thrEndWrite (s : State) (r : Requester) (n t : Nat) : State :=
  if isHost r then s.fault (pgJSC n) Jsc.F_OWNER_WRITE
  else if t % 256 / 64 = n then s.threadEnd (t % 256) else s

/-- RUN_STATE of a control core (R73): 0 HALTED, 1 IDLE, 2 RUNNING. -/
def State.coreState (s : State) (c : Nat) : Nat :=
  if !s.coreRuns c then 0 else if (s.threadOn c).isSome then 2 else 1

/-! ### Commits of a JSC group (R121, R230, R233, R239, R242) -/

/-- The pages of JSC[n] that hold an offending value of the commit. -/
def State.jscBad (s : State) (n : Nat) : List Nat :=
  let p := pgJSC n
  let get := s.shd p
  let base := (get Jsc.SPILL_BASE_LO).toNat / 2 ^ 20 * 2 ^ 20 + 2 ^ 32 * bits (get Jsc.SPILL_BASE_HI) (7, 0)
  let spill := base != s.spillBase n && (!(s.regionOf n).spill.isEmpty || (base != 0 && !dramSpan base (2 ^ 20)))
  let list (k : Nat) : Bool :=
    let c := bits (get (Jsc.LIST_COUNT k)) (16, 0)
    bit (get (Jsc.LIST_CTRL k)) 0 && (c == 0 || decide (65536 < c)
      || !dramSpan (address8 (get (Jsc.LIST_BASE_LO k)) (get (Jsc.LIST_BASE_HI k))) (32 * c))
  (if spill then [p] else []) ++ (if (List.range 8).any list then [p + 1] else [])

/-- What follows a commit: threads whose VALID is 0 return to IDLE, a new spill ring begins at its base, and LAG_EN 0 ends the
measurements. -/
def State.jscCommitted (s : State) (n : Nat) : State :=
  (List.range 64).foldl (fun a j =>
    let t := 64 * n + j
    if bit (a.thrCfg t) 31 || (a.thread t).st == 0 && (a.thread t).waiting.isEmpty then a else a.setThread t Thread.init) s

def State.jscCommit (s : State) (n : Nat) : State :=
  s.commitPoint (pgJSC n) (s.jscBad n) (fun a =>
    let b := a.jscCommitted n
    if a.spillBase n = s.spillBase n then b else b.modRegion n (fun r => { r with spillAt := 0 }))

end Sys2Proof.Machine
end

