-- ==== Sys2Proof/Machine/Queues.lean ====
section
/-!
DEFINITION. The commands of the queue pages (R482 to R498).
-/
namespace Sys2Proof.Machine

/-- An access from a requester that is neither the queue's reader nor its writer, or to a hardware side (R492). -/
def State.queueDenied (s : State) (j q : Nat) : State := s.queueError j q 10

/-- Requester `r` is the writer (or, with `false`, the reader) of the queue. -/
def mayUse (i : QueueSpec) (writer : Bool) (r : Requester) : Bool := sideOf r (if writer then i.writer else i.reader)

/-- The bytes of one write: the queue's write width, and of the last write of a packet its valid bytes (R483, R484). -/
def QueueSpec.written (i : QueueSpec) (d : List Byte) (last : Bool) : List Byte :=
  slice d 0 (if last then max 1 (min (2 ^ i.width) d.length) else 2 ^ i.width)

/-- A write by the queue's writer: a hardware block's, or a requester's 32-bit write of Q_WDATA. -/
def State.queueWriteBy (s : State) (who : Option Requester) (j q : Nat) (d : List Byte) (last : Bool) : State :=
  match queueSpec j q, who with
  | none, _ => s
  | some i, none => if i.writer = 0 then s.queueWrite j q (i.written d last) last else s.queueDenied j q
  | some i, some r => if mayUse i true r then s.queueWrite j q (slice d 0 4) false else s.queueDenied j q

/-- R483 to R490, R492. -/
def execQueueWrite (who : Option Requester) (j : Fin 16) (q : Fin 4) (data : List Byte) (last : Bool) (s : State) :
    Host.Outcome State Fault Refusal :=
  done (if who.isNone then s.queueWriteBy none j.val q.val data last
    else s.gate (pgQUE j.val) (fun a => a.queueWriteBy who j.val q.val data last))

/-- Q_ACTION.COMMIT with LAST_BYTES (R484, R486, R492, R497). -/
def State.queueCommitBy (s : State) (r : Requester) (j q lastBytes : Nat) : State :=
  match queueSpec j q with
  | none => s
  | some i =>
    if !mayUse i true r then s.queueDenied j q
    else if 5 ≤ lastBytes then s.badValue (pgQUE j)
    else s.queueCommit j q (if lastBytes = 0 then 4 else lastBytes)

def execQCommit (req : Requester) (j : Fin 16) (q : Fin 4) (lastBytes : Fin 8) (s : State) :
    Host.Outcome State Fault Refusal :=
  done (s.gate (pgQUE j.val) (fun a => a.queueCommitBy req j.val q.val lastBytes.val))

/-- Q_ACTION.REWIND, or a hardware writer's own rewind (R487, R492). -/
def State.queueRewindBy (s : State) (who : Option Requester) (j q : Nat) : State :=
  match queueSpec j q, who with
  | none, _ => s
  | some i, none => if i.writer = 0 then s.queueRewind j q else s.queueDenied j q
  | some i, some r => if mayUse i true r then s.queueRewind j q else s.queueDenied j q

def execQRewind (who : Option Requester) (j : Fin 16) (q : Fin 4) (s : State) : Host.Outcome State Fault Refusal :=
  done (if who.isNone then s.queueRewindBy none j.val q.val
    else s.gate (pgQUE j.val) (fun a => a.queueRewindBy who j.val q.val))

/-- Q_ACTION.POP (R491, R492). -/
def State.queuePopBy (s : State) (r : Requester) (j q : Nat) : State :=
  match queueSpec j q with
  | none => s
  | some i => if mayUse i false r then s.queuePop j q else s.queueDenied j q

def execQPop (req : Requester) (j : Fin 16) (q : Fin 4) (s : State) : Host.Outcome State Fault Refusal :=
  done (s.gate (pgQUE j.val) (fun a => a.queuePopBy req j.val q.val))

/-- One write of Q_ACTION (R493, R497): COMMIT with LAST_BYTES 5 to 7 drops the write whole; REWIND acts alone beside
COMMIT. -/
def State.queueAction (s : State) (r : Requester) (j q : Nat) (v : Word) : State :=
  if (queueSpec j q).isNone then s
  else if bit v 0 && !bit v 2 && decide (5 ≤ bits v Que.LAST_BYTES) then s.queueCommitBy r j q (bits v Que.LAST_BYTES)
  else
    let s1 := if bit v 1 then s.queuePopBy r j q else s
    if bit v 2 then s1.queueRewindBy (some r) j q
    else if bit v 0 then s1.queueCommitBy r j q (bits v Que.LAST_BYTES)
    else s1

/-- A write of Q_CTRL by any requester (R489, R492, R496): THRESH outside 1 to the depth drops it; EN 0 empties the
queue. -/
def State.queueCtrl (s : State) (j q : Nat) (v : Word) : State :=
  match queueSpec j q with
  | none => s
  | some i =>
    let t := bits v Que.THRESH
    if t = 0 ∨ i.depth < t then s.badValue (pgQUE j)
    else
      let old := s.reg (pgQUE j) (Que.Q_CTRL q)
      let s1 := s.setReg (pgQUE j) (Que.Q_CTRL q) ((old &&& 0xFC000000) ||| (v &&& 0x00FFFC03))
      if bit v 0 then s1.queueLevels j else s1.queueEmpty j q

def execQCtrlWrite (_req : Requester) (j : Fin 16) (q : Fin 4) (value : Word) (s : State) :
    Host.Outcome State Fault Refusal :=
  done (s.gate (pgQUE j.val) (fun a => a.queueCtrl j.val q.val value))

end Sys2Proof.Machine
end

