-- ==== Sys2Proof/Machine/FwuBase.lean ====
section
/-!
DEFINITION. Firmware images (R668 to R673): the slots, the checks of an image, the journal, staging into the Shelf slot, and
the copy to the partner.
-/
namespace Sys2Proof.Machine

def State.modFwu (s : State) (f : FwuState → FwuState) : State := { s with fwu := f s.fwu }

/-- Word `j` of the known partner's identity (R693). -/
def State.knownPeer (s : State) (j : Nat) : Word := Tab.get (fun _ => 0) s.fwu.known j

/-! ### Slots and headers (R44, R668, R669) -/

/-- Device address of slot `n`: 0 Golden, 1 Active, 2 Shelf. -/
def slotBase (n : Nat) : Nat := FERAM_BASE + 0x400000 * n

def HEAD_SIZE : Nat := 0x5000
def BLOCK_SIZE : Nat := 0x1000
def IMAGE_MAGIC : Nat := 0x4D584946

/-- The 512-byte header of an image at a device address. -/
def State.imageHeader (s : State) (base : Nat) : List Byte := s.bytes base 512

def imageFlags (h : List Byte) : Nat := leAt h 6 2
def imageVersion (h : List Byte) : Nat := leAt h 0x18 4
def imageSecver (h : List Byte) : Nat := leAt h 0x1C 4
def imageKey (h : List Byte) : Nat := leAt h 0x38 1
def fwBlocks (h : List Byte) : Nat := leAt h 0x3C 2
def cfgBlocks (h : List Byte) : Nat := leAt h 0x3E 2
def fwBytes (h : List Byte) : Nat := leAt h 0x40 4
def cfgBytes (h : List Byte) : Nat := leAt h 0x44 4
def imageBlocks (h : List Byte) : Nat := fwBlocks h + cfgBlocks h

/-- Bytes of an image as delivered (R670). -/
def imageLength (h : List Byte) : Nat := HEAD_SIZE + BLOCK_SIZE * imageBlocks h

/-- Bytes `o` to `o + n - 1` are 0. -/
def zeroAt (l : List Byte) (o n : Nat) : Bool := (slice l o n).all (· == 0)

/-! ### The checks of R672 -/

/-- A part of `blocks` blocks holds a number of bytes that fits them. -/
def partFits (bytes blocks : Nat) : Bool := decide ((blocks - 1) * BLOCK_SIZE < bytes) && decide (bytes ≤ blocks * BLOCK_SIZE)

/-- Check 1: MAGIC, FORMAT, reserved fields, sizes. -/
def formatOk (h : List Byte) : Bool :=
  leAt h 0 4 == IMAGE_MAGIC && leAt h 4 2 == 1 && decide (imageFlags h < 4) && zeroAt h 0x39 3 && zeroAt h 0x4C 4
    && zeroAt h 0xB1 15 && zeroAt h 0x120 224
    && decide (1 ≤ fwBlocks h) && decide (imageBlocks h ≤ 1019) && partFits (fwBytes h) (fwBlocks h)
    && (if cfgBlocks h = 0 then cfgBytes h == 0 else partFits (cfgBytes h) (cfgBlocks h) && cfgBytes h % 12 == 0)
    && decide (leAt h 0x48 4 < fwBytes h)

def State.keyOf (s : State) (k : Nat) : List Byte := Tab.get (fun n => if n = 0 then Config.factoryKey else []) s.fwu.key k
def State.pubOf (s : State) (k : Nat) : List Byte := Tab.get (fun n => if n = 0 then Config.factoryPub else []) s.fwu.pub k
def State.keyDone (s : State) (k : Nat) : Bool := Tab.get (fun _ => false) s.fwu.keyDone k
def State.pubDone (s : State) (k : Nat) : Bool := Tab.get (fun _ => false) s.fwu.pubDone k
def State.keyRevoked (s : State) (k : Nat) : Bool := Tab.get (fun _ => false) s.fwu.revoked k

/-- SLOT_STATUS (R694). -/
def State.slotStatus (s : State) : Nat :=
  (List.range 4).foldl (fun a k =>
    a + (if s.keyDone k then 2 ^ k else 0) + (if s.pubDone k then 2 ^ (4 + k) else 0) + (if s.keyRevoked k then 2 ^ (8 + k) else 0)) 0

/-- Check 2: the slot's key and digest. -/
def State.keyOk (s : State) (h : List Byte) : Bool :=
  let k := imageKey h
  s.keyDone k && s.pubDone k && !s.keyRevoked k && Config.sha384 (slice h 0x50 97) == s.pubOf k

/-- The tags of an image, 16 bytes each. -/
def State.imageTags (s : State) (base n : Nat) : List Byte := s.bytes (base + 0x200) (16 * n)

/-- Check 3: the signature over the header, its own bytes taken as 0, and the tags. -/
def State.signatureOk (s : State) (base : Nat) (h : List Byte) : Bool :=
  Config.ecdsaVerifies (slice h 0x50 97) (putAt h 0xC0 (List.replicate 96 0) ++ s.imageTags base (imageBlocks h)) (slice h 0xC0 96)

/-- DEV_ID as a number (R693). -/
def State.deviceId (s : State) : Nat := (List.range 4).foldl (fun a j => a + s.nat pgFWU (Fwu.DEV_ID j) * 2 ^ (32 * j)) 0

/-- Check 4: a bound image names this device. -/
def State.targetOk (s : State) (h : List Byte) : Bool := imageFlags h % 2 == 0 || leAt h 0x20 16 == s.deviceId

/-- The plaintext of data block `i` (R671), none where its tag does not check. -/
def State.imagePlain (s : State) (base : Nat) (h : List Byte) (i : Nat) : Option (List Byte) :=
  Config.gcmOpen (s.keyOf (imageKey h)) (slice h 0x30 8 ++ beBytes 4 i) (slice h 8 16 ++ beBytes 4 i)
    (s.bytes (base + HEAD_SIZE + BLOCK_SIZE * i) BLOCK_SIZE) (s.bytes (base + 0x200 + 16 * i) 16)

/-- Plaintext bytes of block `i` that its part uses. -/
def blockBytes (h : List Byte) (i : Nat) : Nat :=
  if i < fwBlocks h then min BLOCK_SIZE (fwBytes h - i * BLOCK_SIZE)
  else min BLOCK_SIZE (cfgBytes h - (i - fwBlocks h) * BLOCK_SIZE)

/-- Check 6 of one block: its tag, and its padding. -/
def State.blockOk (s : State) (base : Nat) (h : List Byte) (i : Nat) : Bool :=
  match s.imagePlain base h i with
  | none => false
  | some p => (p.drop (blockBytes h i)).all (· == 0)

/-- The checks of R672 in order: the STAGE_REASON and block of the first that fails. -/
def State.imageFault (s : State) (base : Nat) : Option (Nat × Nat) :=
  let h := s.imageHeader base
  if !formatOk h then some (1, 0)
  else if !s.keyOk h then some (2, 0)
  else if !s.signatureOk base h then some (3, 0)
  else if !s.targetOk h then some (4, 0)
  else if imageSecver h < s.fwu.minSec then some (5, 0)
  else ((List.range (imageBlocks h)).find? (fun i => !s.blockOk base h i)).map (fun i => (6, i))

/-! ### The journal (R684) -/

def JOURNAL_A : Nat := slotBase 2 + 0x4F80
def JOURNAL_B : Nat := slotBase 2 + 0x4FC0

def journalValid (l : List Byte) : Bool := leAt l 0 2 == 0x4A43 && leAt l 0x3C 4 == (crc32c (l.take 0x3C)).toNat

/-- GEN `a` is later than `b` (R61). -/
def laterGen (a b : Nat) : Bool := let d := (a + 2 ^ 32 - b) % 2 ^ 32; decide (1 ≤ d) && decide (d < 2 ^ 31)

/-- The copy in force: whether it is the first one, and its bytes; none where no copy is valid. -/
def State.journalCopy (s : State) : Option (Bool × List Byte) :=
  let a := s.bytes JOURNAL_A 64
  let b := s.bytes JOURNAL_B 64
  if journalValid a then (if journalValid b && laterGen (leAt b 4 4) (leAt a 4 4) then some (false, b) else some (true, a))
  else if journalValid b then some (false, b) else none

/-- The journal: without a valid copy it reads IDLE (log entry 77). -/
def State.journal (s : State) : List Byte := (s.journalCopy.map Prod.snd).getD (List.replicate 64 0)
def State.journalPhase (s : State) : Nat := leAt s.journal 2 1
def State.journalNext (s : State) : Nat := leAt s.journal 0x18 2
def State.journalTime (s : State) : Nat := (TimeVal.ofMem (slice s.journal 0x1C 12)).time

/-- One journal write, to the copy that is not in force. -/
def State.journalWrite (s : State) (phase next : Nat) (time : List Byte) : State :=
  let h := s.imageHeader (slotBase 2)
  let gen := (leAt s.journal 4 4 + 1) % 2 ^ 32
  let l := leBytes 2 0x4A43 ++ leBytes 1 phase ++ [0] ++ leBytes 4 gen ++ slice h 8 16 ++ leBytes 2 next
    ++ leBytes 2 (imageBlocks h) ++ slice time 0 12 ++ List.replicate 20 0
  s.setBytes (if (s.journalCopy.map Prod.fst).getD false then JOURNAL_B else JOURNAL_A) (l ++ leBytes 4 (crc32c l).toNat)

/-- The journal becomes IDLE, ARMED without a time, PENDING or GOLDEN. -/
def State.journalPut (s : State) (phase : Nat) : State := s.journalWrite phase 0 []

/-! ### Staging (R677 to R679, R692) -/

def State.stageState (s : State) : Nat := s.sts pgFWU Fwu.S_STAGE_STATE
def State.actState (s : State) : Nat := s.sts pgFWU Fwu.S_ACT_STATE
def State.sealOpen (s : State) : Bool := s.flag pgHTH PAGE_FAULT Hth.F_SEAL_OPEN

/-- STAGE_STATE, with interrupt 49; SHELF_VERSION is that of a VALID image. -/
def State.setStage (s : State) (n : Nat) : State :=
  if s.stageState = n then s
  else
    let s1 := s.setNat pgFWU Fwu.SHELF_VERSION (if n = 2 then imageVersion (s.imageHeader (slotBase 2)) else 0)
    (s1.setSts pgFWU Fwu.S_STAGE_STATE n).irq 49

/-- STAGE_REASON and the failing block. -/
def State.setReason (s : State) (r block : Nat) : State := s.setNat pgFWU Fwu.FWU_INFO (r + 2 ^ 16 * (block % 1024))

/-- ACT_REFUSED; a reason other than NONE is reported. -/
def State.refuseAct (s : State) (r : Nat) : State :=
  (if r = 0 then s else s.setReason r 0).fault pgFWU Fwu.F_ACT_REFUSED

/-- The Shelf slot's MAGIC. -/
def State.shelfMagic (s : State) (m : Nat) : State := s.setMem (slotBase 2) 4 m

/-- Bytes enter the Shelf slot at offset `o`; the journal's and those beyond the slot stay. -/
def State.shelfBytes (s : State) (o : Nat) : List Byte → State
  | [] => s
  | b :: t =>
    State.shelfBytes (if (0x4F80 ≤ o ∧ o < HEAD_SIZE) ∨ 0x400000 ≤ o then s else s.setByte (slotBase 2 + o) b) (o + 1) t

/-- Staging ends: VALID, or BAD with its reason and MAGIC 0. -/
def State.stageEnd (s : State) (bad : Option (Nat × Nat)) : State :=
  let s1 := s.modFwu (fun f => { f with peerStage := false, peerMagic := [] })
  match bad with
  | none => (s1.setReason 0 0).setStage 2
  | some (r, b) => (((s1.shelfMagic 0).setReason r b).fault pgFWU Fwu.F_STAGE_BAD).setStage 3

/-- CANCEL, ABORT or a lost link ends a staging. -/
def State.stageAbort (s : State) : State := if s.stageState = 1 then s.stageEnd (some (9, 0)) else s

/-- The copy to the partner stops. -/
def State.sendStop (s : State) : State := s.modFwu (fun f => { f with sending := none })

/-- The beginning of a staging, by STAGE or by a BEGIN of the partner. -/
def State.stageBegin (s : State) (peer : Bool) : State :=
  if s.sealOpen then s.refuseAct 7
  else if s.stageState = 1 ∨ s.actState ≠ 0 ∨ s.fwu.golden = true then s.refuseAct 10
  else
    let s1 := if s.fwu.sending.isSome then s.sendStop.tsxSend 0x32 2 (beBytes 1 4 ++ beBytes 7 0) else s
    let s2 := (((s1.setStage 1).shelfMagic 0).journalPut 0).journalPut 0
    s2.modFwu (fun f => { f with
      peerStage := peer
      peerMagic := [0, 0, 0, 0]
      stageAt := s.addr pgFWU Fwu.STAGE_ADDR_LO Fwu.STAGE_ADDR_HI
      stageLen := s.fld pgFWU Fwu.STAGE_LEN (22, 0) })

/-- The copy and the check of R677. -/
def State.stageDone (s : State) : State :=
  let f := s.fwu
  if s.stageState ≠ 1 ∨ f.peerStage = true then s
  else if !dramSpan f.stageAt f.stageLen || f.stageLen != imageLength (s.imageHeader f.stageAt) then s.stageEnd (some (8, 0))
  else
    let s1 := s.shelfBytes 0 (s.bytes f.stageAt f.stageLen)
    s1.stageEnd (s1.imageFault (slotBase 2))

/-! ### The copy to the partner (R679) -/

def imageMsg (op offset : Nat) (l : List Byte) : List Byte := beBytes 1 op ++ beBytes 3 0 ++ beBytes 4 offset ++ l

/-- The next parts are sent while fewer than 64 frames wait for their acknowledgement (log entry 56). -/
def State.pumpImage (s : State) : Nat → State
  | 0 => s
  | n + 1 =>
    match s.fwu.sending with
    | none => s
    | some i =>
      let len := imageLength (s.imageHeader (slotBase 2))
      if 64 ≤ s.red.unacked.length then s
      else if len ≤ 2028 * i then (s.tsxSend 0x32 2 (imageMsg 3 0 [])).sendStop
      else
        let s1 := s.tsxSend 0x32 2 (imageMsg 2 (2028 * i) (s.bytes (slotBase 2 + 2028 * i) (min 2028 (len - 2028 * i))))
        State.pumpImage (s1.modFwu (fun f => { f with sending := some (i + 1) })) n

/-- SEND_PEER acts on a VALID Shelf slot while the link stands. -/
def State.sendPeer (s : State) : State :=
  if s.stageState ≠ 2 ∨ s.linkUp = false ∨ s.fwu.sending.isSome = true then s
  else ((s.tsxSend 0x32 2 (imageMsg 1 0 [])).modFwu (fun f => { f with sending := some 0 })).pumpImage 64

/-- DATA on the partner; MAGIC waits for END. -/
def State.imageData (s : State) (p : List Byte) : State :=
  if !s.fwu.peerStage || s.stageState != 1 then s
  else
    let o := beAt p 4 4
    let d := (p.drop 8).take 2028
    let m := (List.range 4).map (fun i => if o ≤ i ∧ i - o < d.length then d.getD (i - o) 0 else s.fwu.peerMagic.getD i 0)
    (s.modFwu (fun f => { f with peerMagic := m })).shelfBytes (max 4 o) (d.drop (4 - o))

/-- END on the partner. -/
def State.imageEnd (s : State) : State :=
  if !s.fwu.peerStage || s.stageState != 1 then s
  else
    let s1 := s.setBytes (slotBase 2) s.fwu.peerMagic
    s1.stageEnd (s1.imageFault (slotBase 2))

def State.imageAbort (s : State) : State := if s.fwu.peerStage then s.stageAbort else s

/-- A received IMAGE message, by its OP. -/
def State.imageRx (s : State) (p : List Byte) : State :=
  match beAt p 0 1 with
  | 1 => s.stageBegin true
  | 2 => s.imageData p
  | 3 => s.imageEnd
  | 4 => s.imageAbort
  | _ => s

/-- The link is lost: a copy that has not ended is given up on both sides. -/
def State.imageLinkLost (s : State) : State := s.sendStop.imageAbort

end Sys2Proof.Machine
end

