-- ==== Sys2Proof/Machine/Red.lean ====
section
/-!
DEFINITION. The Tsudex link (R538 to R544), peer time (R549, R550), resynchronisation, planned swaps and the actions of
PAIR_ACTION (R554 to R567).
-/
namespace Sys2Proof.Machine

/-! ### Lanes and LINK_STATE (R541) -/

def RedState.linkNow (r : RedState) : Nat :=
  if r.dead || (!r.up0 && !r.up1) then 0 else if r.up0 && r.up1 then 2 else 3

/-- PEER is LOST as a time source (R87, R549). -/
def State.peerTimeLost (s : State) : State :=
  if s.tln.peerValid then (({ s with tln := { s.tln with peerValid := false } }).srcLost 8).alignRefresh else s

/-- The link has gone DOWN (R544, R554, R573). -/
def State.linkFell (s : State) : State :=
  let s1 := ((s.fault pgRED Red.F_LINK_LOST).trigger 0xE07 pgRED).peerTimeLost
  let s2 := if s1.stileHeld then s1.tsxBreak else s1.unsync
  (s2.setRed { s2.red with view := none, asked := false, t1 := none }).syncRefresh.imageLinkLost

/-- LANE_STATUS and LINK_STATE follow the lanes, with interrupt 343. -/
def State.linkRefresh (s : State) : State :=
  let r := s.red
  let b (x : Bool) (n : Nat) : Nat := if x then n else 0
  let s1 := s.setNat pgRED Red.LANE_STATUS (b r.lock0 1 + b r.up0 2 + b r.lock1 4 + b r.up1 8)
  let old := s.linkState
  let new := r.linkNow
  if old = new then s1
  else
    let s2 := (s1.setSts pgRED Red.S_LINK_STATE new).irq 343
    let s3 := if new = 0 then s2.linkFell else s2.syncRefresh
    s3.pinsRefresh

def State.laneOn (s : State) (lane : Nat) : Bool := s.flag pgRED Red.TSX_CTRL lane

/-- A lane gains or loses block lock. -/
def State.laneLock (s : State) (lane : Nat) (lock : Bool) : State :=
  let r := s.red
  let l := lock && s.laneOn lane && s.aclkRuns
  (s.setRed (if lane = 0 then { r with lock0 := l, up0 := r.up0 && l } else { r with lock1 := l, up1 := r.up1 && l })).linkRefresh

def execTsxLaneLock (lane : Fin 2) (lock : Bool) (s : State) : Host.Outcome State Fault Refusal :=
  done (s.laneLock lane.val lock)

/-- No valid frame on a lane for 20 µs. -/
def State.laneQuiet (s : State) (lane : Nat) : State :=
  let r := s.red
  (s.setRed (if lane = 0 then { r with up0 := false } else { r with up1 := false })).linkRefresh

def execTsxLaneTimeout (lane : Fin 2) (s : State) : Host.Outcome State Fault Refusal := done (s.laneQuiet lane.val)

/-- A valid frame on a lane with block lock makes it UP. -/
def State.laneHeard (s : State) (lane : Nat) : State :=
  let r := s.red
  (s.setRed (if lane = 0 then { r with up0 := r.up0 || r.lock0 } else { r with up1 := r.up1 || r.lock1 })).linkRefresh

/-! ### Sending (R539 to R542) -/

/-- A link frame leaves on a lane: not sequenced, SEQ 0. -/
def State.tsxLink (s : State) (lane type : Nat) (payload : List Byte) : State :=
  s.tsxPut lane ⟨0, type, 3, s.nat pgRED Red.SYNC_GEN, payload, 0⟩

/-- The device's identity, most significant byte first (R526, R693). -/
def State.identity (s : State) : List Byte := [3, 2, 1, 0].flatMap (fun j => beBytes 4 (s.nat pgFWU (Fwu.DEV_ID j)))

def State.helloPayload (s : State) : List Byte :=
  s.identity ++ beBytes 1 (if s.dev.roleB then 1 else 0) ++ beBytes 1 (if s.stileHeld then 1 else 0)
    ++ beBytes 1 ((if s.red.own then 1 else 0) + (if s.red.peer then 2 else 0)) ++ beBytes 1 s.syncState
    ++ beBytes 4 (s.nat pgFWU Fwu.RUN_VERSION)

def execHelloSend (lane : Fin 2) (s : State) : Host.Outcome State Fault Refusal :=
  done (if s.laneOn lane && s.aclkRuns then s.tsxLink lane 0x02 s.helloPayload else s)

/-- Every frame from ACK onward is sent again with RETX; a SEQ resent 16 times takes the link DOWN. -/
def State.resendFrom (s : State) (from_ : Nat) : State :=
  let late (f : TsxFrame) : Bool := decide ((f.seq + 2 ^ 32 - from_) % 2 ^ 32 < 2 ^ 31)
  let l := s.red.unacked.map (fun f => if late f then { f with resent := f.resent + 1 } else f)
  let sent := l.filter late
  let s1 := sent.foldl (fun a f => a.tsxPut a.tsxLane f) (s.setRed { s.red with unacked := l })
  let s2 := (s1.addReg pgRED Red.RETX_COUNT sent.length).count 1474 sent.length
  if sent.any (fun f => decide (16 ≤ f.resent)) then (s2.setRed { s2.red with dead := true }).linkRefresh else s2

/-- The oldest frame without acknowledgement has waited RETX_TIMEOUT. -/
def State.retxTimeout (s : State) : State :=
  match s.red.unacked with
  | [] => s
  | f :: _ => if s.linkUp then s.resendFrom f.seq else s

def execTsxRetxTimeout (s : State) : Host.Outcome State Fault Refusal := done s.retxTimeout

/-- An ACK: the frames before it are delivered; a copy goes on. -/
def State.takeAck (s : State) (ack : Nat) : State :=
  let l := s.red.unacked.filter (fun f => decide ((f.seq + 2 ^ 32 - ack) % 2 ^ 32 < 2 ^ 31))
  if l.length = s.red.unacked.length then s
  else (((s.setRed { s.red with unacked := l, dead := false }).tsxBacklog).linkRefresh.pumpCopy 64).pumpImage 64

/-! ### HELLO (R526) -/

def State.peerHello (s : State) (p : List Byte) : State :=
  let v : PeerView := ⟨beAt p 16 1 == 1, beAt p 17 1 == 1, (beAt p 18 1).testBit 0, (beAt p 18 1).testBit 1, beAt p 19 1 % 8⟩
  let s1 := (List.range 4).foldl (fun a j => a.setNat pgRED (Red.PEER_ID0 + 4 * j) (beAt p (12 - 4 * j) 4))
    (s.setRed { s.red with view := some v })
  let clash := v.roleB == s.dev.roleB
  let s2 := if clash && !s1.flag pgRED PAGE_FAULT Red.F_ROLE_CLASH then s1.fault pgRED Red.F_ROLE_CLASH else s1
  let s3 := if clash && !s2.stileHeld && s2.claimEnabled then
      (s2.setBoth pgRED Red.PAIR_CTRL (clearBit (s2.reg pgRED Red.PAIR_CTRL) 0)).claimChanged true else s2
  let known := (List.range 4).all (fun j => s3.knownPeer j == s3.reg pgRED (Red.PEER_ID0 + 4 * j))
    && (List.range 4).any (fun j => s3.knownPeer j != 0)
  let s4 := if known || s3.flag pgRED PAGE_FAULT Red.F_PARTNER_NEW then s3
    else (s3.fault pgRED Red.F_PARTNER_NEW).trigger 0xE06 pgRED
  s4.syncRefresh

/-! ### Resynchronisation requests (R554, R555, R558) -/

/-- A request that is due is sent: the link stands, ALIGNED, the partner is ACTIVE. -/
def State.resyncCheck (s : State) : State :=
  let auto := s.fld pgRED Red.PAIR_CTRL Red.AUTO_RESYNC == 1
  if !s.stileHeld && s.linkUp && s.aligned && s.red.view.any (·.activeRole) && (s.syncState == 0 || s.syncState == 4)
      && !s.red.asked && !s.detached && (auto || s.red.wanted) then
    (s.setRed { s.red with asked := true }).tsxSend 0x21 1
      (beBytes 1 1 ++ beBytes 3 0 ++ beBytes 4 (s.nat pgRED Red.SYNC_GEN) ++ s.nowWire)
  else s

/-- The maps of local pages and ranges are empty. -/
def State.nothingLocal (s : State) : Bool :=
  (List.range 32).all (fun w => s.nat pgRED (Red.LOCAL_PAGES w) == 0) && s.nat pgRED Red.LOCAL_RANGES_LO == 0
    && s.nat pgRED Red.LOCAL_RANGES_HI == 0

/-- PAIR_ACTION.RESYNC; it begins a resynchronisation from UNSYNCED and DIVERGED alone (R554). -/
def State.resync (s : State) : State :=
  if s.detached then
    let s1 := (s.setFld pgRED Red.PAIR_STATE Red.DETACHED 0).setFld pgRED Red.PAIR_STATE Red.DIFFERS (if s.nothingLocal then 0 else 1)
    (s1.setRed { s1.red with wanted := true, skipLocal := true }).resyncCheck
  else
    let s1 := (List.range 32).foldl (fun a w => a.setNat pgRED (Red.LOCAL_PAGES w) 0) s
    let s2 := ((s1.setNat pgRED Red.LOCAL_RANGES_LO 0).setNat pgRED Red.LOCAL_RANGES_HI 0).setFld pgRED Red.PAIR_STATE Red.DIFFERS 0
    (s2.setRed { s2.red with wanted := s.syncState == 0 || s.syncState == 4, skipLocal := false }).resyncCheck

def execResync (_req : Requester) (s : State) : Host.Outcome State Fault Refusal := done (s.gate pgRED State.resync)

/-- PAIR_ACTION.DETACH: on the standby only. -/
def State.detach (s : State) : State :=
  if s.stileHeld then s.badValue pgRED else s.unsync.setFld pgRED Red.PAIR_STATE Red.DETACHED 1

def execDetach (_req : Requester) (s : State) : Host.Outcome State Fault Refusal := done (s.gate pgRED State.detach)

/-! ### Peer time (R549, R550) -/

/-- A TIMEVAL on the grid in 1/256 ns. -/
def TimeVal.q8 (v : TimeVal) : Int := (((v.s * SEC + v.ns) * 256 + v.frac : Nat) : Int)

/-- The timestamp point of a frame now. -/
def State.tsxStamp (s : State) : TimeVal := gridTimeVal s.capture.toNat

/-- The standby's TIME_REQ of the next millisecond. -/
def State.sendTimeReq (s : State) : State :=
  if s.stileHeld || !s.linkUp then s
  else
    s.atTick tickPair MS 0 (fun a =>
      (a.setRed { a.red with t1 := some a.tsxStamp.q8.toNat }).tsxLink a.tsxLane 0x04 a.tsxStamp.wireBytes)

/-- The active answers with T2 and T3. -/
def State.answerTime (s : State) (m : TsxMsg) : State :=
  s.tsxLink m.lane.val 0x05 (slice m.payload 0 12 ++ s.tsxStamp.wireBytes ++ s.tsxStamp.wireBytes)

/-- A completed exchange: e, PEER_DELAY, and a servo event (R549). -/
def State.peerExchange (s : State) (p : List Byte) : State :=
  let t1 := (TimeVal.ofWire (slice p 0 12)).q8
  if s.red.t1 ≠ some t1.toNat ∨ s.stileHeld = true then s
  else
    let t2 := (TimeVal.ofWire (slice p 12 12)).q8
    let t3 := (TimeVal.ofWire (slice p 24 12)).q8
    let t4 := s.tsxStamp.q8
    let asym := signed 32 (s.nat pgRED Red.PEER_ASYM)
    let e : Rat := (((t4 - t3) - (t2 - t1) : Int) : Rat) / 2 - ((if s.dev.roleB then asym else -asym : Int) : Rat)
    let d := roundOpen 549 ((t2 - t1) + (t4 - t3)) 2
    let off := satSigned 32 (roundOpen 549 e.num e.den)
    let s1 := (s.setNat pgRED Red.PEER_OFFSET (unsign 32 off)).setNat pgRED Red.PEER_DELAY (unsign 32 d)
    let t := s.red.lastExchange.map (fun x => ((s.tln.now - x : Nat) : Rat) / ((NS * SEC : Nat) : Rat))
    let s2 := (s1.setRed { s1.red with
      t1 := none, lastExchange := some s.tln.now, errs := (ratAbs e :: s1.red.errs).take 16 }).sample 4 0 off
    let s3 := ({ s2 with tln := { s2.tln with peerValid := s2.linkUp } }).tlnSettle
    ((if s3.tlSrc = 8 then s3.servoEvent e t else s3).alignRefresh).resyncCheck

/-- No exchange has completed for 3 ms. -/
def State.peerLost (s : State) : State :=
  if !s.tln.peerValid then s
  else
    match s.red.lastExchange with
    | none => s.peerTimeLost
    | some t => s.atTime (t + 3000000 * NS) State.peerTimeLost

def execPeerLost (s : State) : Host.Outcome State Fault Refusal := done s.peerLost

/-! ### Planned swaps (R564 to R567) -/

def State.roleMsg (s : State) (op : Nat) (t : Option Nat) : State :=
  s.tsxSend 0x20 1 (beBytes 1 op ++ beBytes 1 (s.fld pgRED Red.PAIR_CTRL Red.SWAP_SWATH) ++ beBytes 2 0
    ++ (match t with
        | some u => (gridTimeVal u).wireBytes
        | none => s.nowWire))

/-- A request reaches the ACTIVE device; without a RUNNING SWAP_SWATH the instant is a whole millisecond. -/
def State.planSwap (s : State) : State :=
  if !s.stileHeld || s.red.plan.isSome || s.red.pathCheck.isSome then s
  else
    let s1 := s.setRed { s.red with plan := some ⟨s.tln.now, none, false⟩ }
    if s1.swathState (s1.fld pgRED Red.PAIR_CTRL Red.SWAP_SWATH) = 2 then s1
    else s1.nameSwap (ceilDiv (s.tln.now + 100000 * NS) (1000000 * NS) * 1000000 * LU)

/-- PAIR_ACTION.SWAP on either device. -/
def State.swapRequest (s : State) : State := if s.stileHeld then s.planSwap else s.roleMsg 1 none

def execSwap (_req : Requester) (s : State) : Host.Outcome State Fault Refusal := done (s.gate pgRED State.swapRequest)

def State.swapFailed (s : State) : State := (s.fault pgRED Red.F_SWAP_FAIL).trigger 0xE05 pgRED

/-- The swap is given up. -/
def State.cancelSwap (s : State) : State := ((s.setRed { s.red with plan := none }).roleMsg 4 none).swapFailed

/-- S_w comes: the active releases when SWAP_ACK has arrived. -/
def State.swapInstant (s : State) : State :=
  match s.red.plan with
  | some ⟨_, some t, acked⟩ =>
    s.atTime (timeOfUnits t) (fun a =>
      let a1 := a.setTimeRegs pgRED Red.SWAP_S_LO (gridTimeVal t)
      if !a.stileHeld then a1
      else if acked then ((a1.setRed { a1.red with plan := none, pathCheck := some t }).setNat pgRED Red.PATH_MISMATCHES 0).releaseStile
      else a.cancelSwap)
  | _ => s

def execSwapInstant (s : State) : Host.Outcome State Fault Refusal := done s.swapInstant

def State.swapSearchEnd (s : State) : State :=
  match s.red.plan with
  | some ⟨asked, none, _⟩ => if s.stileHeld then s.atTime (asked + SEC * NS) State.cancelSwap else s
  | _ => s

def execSwapSearchTimeout (s : State) : Host.Outcome State Fault Refusal := done s.swapSearchEnd

/-- 10 ns after a planned release the peer rail must be high (R565). -/
def State.swapPathCheck (s : State) : State :=
  match s.red.pathCheck with
  | none => s
  | some t =>
    s.atTime (timeOfUnits (t + 10 * LU)) (fun a =>
      if a.red.peer then a
      else
        let b := (a.setRed { a.red with pathCheck := none }).swapFailed.fault pgRED Red.F_PATH_FAULT
        if b.claimEnabled && !b.dev.dieFenced && b.pageState pgRED != 3 then b.setRails { b.red with own := true } else b)

def execSwapPathCheck (s : State) : Host.Outcome State Fault Refusal := done s.swapPathCheck

/-- 1 ms of sampling of the joined nets ends with a number of differences. -/
def State.pathCheckEnd (s : State) (n : Nat) : State :=
  match s.red.pathCheck with
  | none => s
  | some t =>
    s.atTime (timeOfUnits (t + 1000000 * LU)) (fun a =>
      let b := (a.setRed { a.red with pathCheck := none }).setNat pgRED Red.PATH_MISMATCHES n
      if n % 2 ^ 32 = 0 then b.swapDone else (b.fault pgRED Red.F_PATH_FAULT).trigger 0xE05 pgRED)

def execPathCheckEnd (mismatches : Nat) (s : State) : Host.Outcome State Fault Refusal := done (s.pathCheckEnd mismatches)

/-- Device A asks for the outputs back (R566). -/
def State.revertExpire (s : State) : State :=
  match s.red.syncedSince with
  | none => s
  | some t =>
    if s.dev.roleB || s.stileHeld || s.syncState != 3 || s.differs || s.fld pgRED Red.PAIR_CTRL Red.REVERT_EN != 1 then s
    else s.atTime (t + s.fld pgRED Red.REVERT_HOLD (15, 0) * SEC * NS) (fun a => a.roleMsg 5 none)

def execRevertHoldExpire (s : State) : Host.Outcome State Fault Refusal := done s.revertExpire

/-- DRILL_AGE (R568). -/
def State.drillAge (s : State) : Nat :=
  match s.red.lastSwap with
  | none => 0xFFFFFFFF
  | some t => min 0xFFFFFFFF ((s.tln.now - t) / (SEC * NS))

/-- DRILL_AGE exceeds 7 days. -/
def State.drillExpire (s : State) : State :=
  match s.red.lastSwap with
  | none => s
  | some t =>
    if s.sts pgRED Red.S_DRILL_DUE = 1 then s
    else s.atTime (t + 604801 * SEC * NS) (fun a => (a.setSts pgRED Red.S_DRILL_DUE 1).irq 345)

def execDrillDue (s : State) : Host.Outcome State Fault Refusal := done s.drillExpire

/-! ### FALLBACK and the safe scene (R562, R563) -/

def execFallbackEnd (_req : Requester) (s : State) : Host.Outcome State Fault Refusal := done (s.gate pgRED State.fallbackEnd)

/-- PAIR_ACTION.SAFE_STORE. -/
def State.safeStore (s : State) : State :=
  let l := s.bytes (address8 (s.reg pgRED Red.SAFE_ADDR_LO) (s.reg pgRED Red.SAFE_ADDR_HI)) SAFE_LEN
  if sceneValid l then s.setBytes SAFE_AT l else s.fault pgRED Red.F_SAFE_BAD

def execSafeStore (_req : Requester) (s : State) : Host.Outcome State Fault Refusal := done (s.gate pgRED State.safeStore)

/-- PAIR_ACTION (R569). -/
def State.pairAction (s : State) (v : Word) : State :=
  let s1 := if bit v 0 then s.swapRequest else s
  let s2 := if bit v 1 then s1.resync else s1
  let s3 := if bit v 2 then s2.detach else s2
  let s4 := if bit v 3 then s3.fallbackEnd else s3
  if bit v 4 then s4.safeStore else s4

/-! ### Lag (R552) -/

/-- A start's FIX was not applied 2,000 ns before it, or the lag is too great: a standby in COPYING, SYNCED or DIVERGED drops out
(R554). -/
def State.dropOut (s : State) : State :=
  if !s.stileHeld && (s.syncState == 1 || s.syncState == 3 || s.syncState == 4) then (s.fault pgRED Red.F_LAG).unsync else s

def execFixApplyDeadline (s : State) : Host.Outcome State Fault Refusal := done s.dropOut

/-- Content `f` of Swath `k` is ready on the active. -/
def State.peerIsReady (s : State) (k f : Nat) : State :=
  let s1 := s.setRed { s.red with peerReady := Tab.set (fun _ => 0) s.red.peerReady k (f + 1) }
  let lag := f + 1 - Tab.get (fun _ => 0) s1.red.ownReady k
  let s2 := s1.setNat pgRED Red.LAG_MAX (max (s1.nat pgRED Red.LAG_MAX) (min 255 lag))
  if 2 < lag ∧ s2.swathState k = 2 then s2.dropOut else s2

/-- A read of LAG_MAX returns and clears it (R571). -/
def execLagMaxRead (_req : Requester) (s : State) : Host.Outcome State Fault Refusal :=
  done (s.access (fun a => (a.emit (.read (a.reg pgRED Red.LAG_MAX))).setNat pgRED Red.LAG_MAX 0))

/-! ### Commits of the RED group (R121, R569, R570, R572, R735) -/

def State.redBad (s : State) : List Nat :=
  let get := s.shd pgRED
  let mir (i : Nat) : Bool :=
    bit (get (Red.MIR_FLAGS i)) 0
      && !dramSpan ((get (Red.MIR_BASE_LO i)).toNat / 4096 * 4096 + 2 ^ 32 * bits (get (Red.MIR_BASE_HI i)) (7, 0))
        (4096 * bits (get (Red.MIR_SIZE i)) (20, 0))
  let src := bits (get Red.PAIR_TIME) (3, 0)
  let retx := bits (get Red.TSX_CTRL) (15, 8)
  (if bits (get Red.REVERT_HOLD) (15, 0) == 0 then [pgRED] else [])
    ++ (if src == 0 || decide (7 < src) || decide (retx < 2) || decide (100 < retx) then [pgRED + 1] else [])
    ++ (if (List.range 64).any mir then [pgRED + 3] else [])

def State.redCommit (s : State) : State :=
  let was := s.claimEnabled
  s.commitPoint pgRED s.redBad (fun a =>
    let b := (a.claimChanged was).alignRefresh.resyncCheck
    let lock (lane : Nat) (c : State) : State := if c.laneOn lane then c else c.laneLock lane false
    lock 1 (lock 0 b))

end Sys2Proof.Machine
end

