-- ==== Sys2Proof/Machine/Reset.lean ====
section
/-!
DEFINITION. Resets of every level (R18 to R20, R57, R68 to R71, R73), the clock tree's losses (R34 to R36), and errors of the
memories (R38, R39).
-/
namespace Sys2Proof.Machine

/-! ### Registers (R68) -/

/-- The RWS bits of PAGE_FAULT: UNMAPPED stands on the SYS page alone (R59); pages behind the first of a group hold BAD_VALUE of
a dropped commit (R734), and the bridge its own FDB_FULL (R363). -/
def PageInfo.faultBits (i : PageInfo) : Word :=
  (if i.block = .sys then 0x7F else 0x7D)
    ||| (if i.block = .syn ∧ (i.inst = 3 ∨ i.inst = 5 ∨ i.inst = 7) then 0x10000
      else if i.sub = 0 then i.block.faultRws else if i.block = .ntm ∧ i.sub = 3 then 0x30000 else 0x10000)

/-- The bits of a register that a unit, cluster or region reset keeps: RWS bits, and PAGE_EPOCH whole. -/
def keptBits (key : Nat) : Word :=
  match pageInfo (key / 0x1000) with
  | none => 0
  | some i =>
    let o := key % 0x1000
    if o = PAGE_EPOCH then 0xFFFFFFFF
    else if o = PAGE_STATUS then (if i.sub = 0 then i.block.statusRws ||| 0x30 else 0x30)
    else if o = PAGE_FAULT then i.faultBits
    else if o < 0x20 then 0
    else
      match RegRow.find (i.sub * 0x1000 + o) (i.block.rows i.inst) with
      | some r => r.rws
      | none => 0

/-- A listed live copy after a unit, cluster or region reset of its page. -/
def resetEntry (e : Nat × Word) : Option (Nat × Word) :=
  let v := (e.2 &&& keptBits e.1) ||| (resetVal e.1 &&& ~~~ keptBits e.1)
  if v = resetVal e.1 then none else some (e.1, v)

/-- The pages of a commit group. -/
def groupPages (g : Nat) : List Nat := (List.range (groupSize g)).map (g + ·)

/-- The registers of the group whose first page is `g` are reset; shadows follow and ARMED is 0. -/
def State.resetGroup (s : State) (g : Nat) : State :=
  { s with live := s.live.filterMap (fun (e : Nat × Word) => if inGroup g e.1 then resetEntry e else some e) }.discardShadows g

/-- BUSY of every page of a group (R70). -/
def State.setResetting (s : State) (g : Nat) (b : Bool) : State :=
  (groupPages g).foldl (fun a p =>
    { a with dev := { a.dev with resetting := Tab.set (fun _ => false) a.dev.resetting p b,
                                 unstop := a.dev.unstop.filter (· != p) } }) s

/-! ### Units and clusters (R18, R494) -/

def State.emptyQueue (s : State) (j q : Nat) : State := (s.setQueue j q Queue.empty).queueLevels j

/-- What a unit holds beside its registers returns to its reset state. -/
def State.resetInner (s : State) (i : PageInfo) : State :=
  let k := i.inst
  match i.block with
  | .plu => s.setPlu k PluState.init
  | .pxp => (s.setPort (keyPX k) { PortState.init with held := (s.portOf (keyPX k)).held }).setLaunches (keyPX k) []
  | .dmx =>
    let s1 := (s.setPort (keyDMX k) { PortState.init with held := (s.portOf (keyDMX k)).held }).setLaunches (keyDMX k) []
    (s1.setDmx k DmxState.init).emptyQueue (4 + k / 4) (k % 4)
  | .fld =>
    let s1 := ((s.setPort (keyFLD k) PortState.init).setField k FieldState.init).setLaunches (keyFLD k) []
    (s1.emptyQueue (7 + k / 4) (k % 4)).emptyQueue (9 + k / 4) (k % 4)
  | .eth => (((s.setMac k MacState.init).emptyQueue 0 k).emptyQueue 1 k).emptyQueue 2 k
  | .lmp => s.setLamp k LampState.init
  | .lcl =>
    ((s.setCluster k { ClusterState.init with releasedAt := some s.tln.now }).setPort (keyLCL k) PortState.init).setLaunches (keyLCL k) []
  | .que => (List.range 4).foldl (fun a q => a.emptyQueue k q) s
  | _ => s

/-- The reset of one instance: pins hold, jobs return to the head of their queues, registers and inner state reset, BUSY. -/
def State.resetOne (s : State) (g : Nat) : State :=
  match pageInfo g with
  | none => s
  | some i => ((((s.holdPins i).returnJobs i).resetInner i).resetGroup g).setResetting g true

/-- The instances inside a cluster page: two PLUs, or eight lamp channels (R17, R19). -/
def insideCluster (g : Nat) : List Nat :=
  match pageInfo g with
  | some ⟨.plc, k, _⟩ => [pgPLU (2 * k), pgPLU (2 * k + 1)]
  | some ⟨.lcl, n, _⟩ => (List.range 8).map (fun i => pgLMP (8 * n + i))
  | _ => []

def State.resetUnit (s : State) (g : Nat) : State := (s.resetOne g).pinsRefresh

def State.resetCluster (s : State) (g : Nat) : State := ((insideCluster g ++ [g]).foldl State.resetOne s).pinsRefresh

/-! ### Regions (R18, R238) -/

/-- The instances inside region `n`, the lowest level first (R17). -/
def insideRegion (n : Nat) : List Nat :=
  (List.range 8).map (fun i => pgPLU (8 * n + i)) ++ (List.range 16).map (fun i => pgPXP (16 * n + i))
    ++ (List.range 3).map (fun i => pgDMX (3 * n + i)) ++ (List.range 2).map (fun i => pgFLD (2 * n + i))
    ++ (List.range 8).map (fun i => pgLMP (8 * n + i)) ++ (List.range 4).map (fun i => pgPLC (4 * n + i))
    ++ [pgLCL n, pgCMP n, pgJSC n]

/-- The region's scheduler: no job, counters and heads 0, the spill ring empty, threads IDLE (R238). -/
def State.clearScheduler (s : State) (n : Nat) : State :=
  let s1 := s.setRegion n { RegionState.init with stamp := (s.regionOf n).stamp, staging := (s.regionOf n).staging }
  (List.range 8).foldl (fun a i => a.clearPlu (8 * n + i)) s1

/-- A region reset: its Swaths hold, its SRAM is cleared, everything inside it is reset. -/
def State.resetRegion (s : State) (n : Nat) : State :=
  let s1 := ((s.holdRegion n).clearScheduler n).zeroBytes (sramOf n) 0x400000
  let s2 := (insideRegion n).foldl State.resetOne (s1.setRegion n RegionState.init)
  let s3 := (List.range 4).foldl (fun a m => { a with snaps := Tab.set (fun _ => []) a.snaps (4 * n + m) [] }) s2
  { s3 with
    progStage := Tab.set (fun _ => 0) s3.progStage n 0,
    dev := { s3.dev with regionFenced := Tab.set (fun _ => false) s3.dev.regionFenced n false } }.pinsRefresh

/-! ### The end of a reset (R70) -/

/-- A control core that was reset restarts at ENTRY (R73): its page is enabled again (log entry 127). -/
def State.restartCore (s : State) (g : Nat) : State :=
  match pageInfo g with
  | some ⟨.ccr, _, _⟩ => (s.setFlag g PAGE_CTRL 0 true).setPageState g 1
  | _ => s

/-- A reset ends: BUSY clears. Level 0 names the unit's first page, level 1 the cluster's page, level 2 the region. -/
def State.resetEnd (s : State) (level inst : Nat) : State :=
  match level with
  | 0 => (s.setResetting inst false).restartCore inst
  | 1 => (insideCluster inst ++ [inst]).foldl (fun a g => a.setResetting g false) s
  | 2 => ((insideRegion inst).foldl (fun a g => a.setResetting g false) s).freeRegion inst
  | _ => s

def execResetComplete (level inst : Nat) (s : State) : Host.Outcome State Fault Refusal := done (s.resetEnd level inst)

/-! ### Die and package resets (R18, R20, R68) -/

/-- The island counts from the present edge, its phase kept, when the timeline's value becomes `t`. -/
def State.rebaseTick (s : State) (t : Nat) : State :=
  { s with hth := { s.hth with tick := s.htick, edge := (t : Int) - ((s.tln.now : Int) - s.hth.edge) % (TICK : Int) } }

/-- The keys of the HTH page. -/
def isHthKey (k : Nat) : Bool := k / 0x1000 == pgHTH

/-- PAIR_STATE reads ROLE_SEL and the rails (R524, R569). -/
def State.railBits (s : State) : State :=
  ((s.setFld pgRED Red.PAIR_STATE Red.ROLE_SEL (if s.dev.roleB then 1 else 0)).setFld pgRED Red.PAIR_STATE Red.OWN_RAIL
    (if s.red.own then 1 else 0)).setFld pgRED Red.PAIR_STATE Red.PEER_RAIL (if s.red.peer then 1 else 0)

/-- The time that a die or package reset keeps while TK_VALID reads 1 (R87, R99): that of the latest tick edge, or the one captured
when the timeline already stands. -/
def State.timeKept (s : State) : Option Captured :=
  if s.sts pgHTH Hth.S_TK_VALID ≠ 1 then none
  else if s.tln.stopped then s.boot.captured
  else some ⟨(s.hth.edge + (s.ticksSince * TICK : Nat)).toNat, s.uncert, s.htick⟩

/-- Everything on the die returns to its reset state, but the island, FeRAM, the fuses, the PCIe link layer, what was sampled
of the pins, and DRAM after a die reset; EXT_REFCLK takes effect (R33, R706). `cause` is the RESET_CAUSE bit.
With the Heath timekeeper valid the timeline waits in COASTED for its restart (R87). -/
def State.hardReset (s : State) (package : Bool) (cause : Nat) : State :=
  let c := s.timeKept
  let t := (c.map Captured.time).getD 0
  let a := s.rebaseTick t
  let b := State.reset
  { b with
    tln := { b.tln with now := t, edge := t, stopped := c.isSome }
    pending := a.pending
    out := a.out
    live := Tab.keep isHthKey a.live
    mem := Tab.keep (fun k => isFeram k || (isDram k && !package)) a.mem
    dev := { b.dev with presenceLow := a.dev.presenceLow, testMode := a.dev.testMode, roleB := a.dev.roleB,
                        dramValid := a.dev.dramValid && !package, freeCount := a.dev.freeCount }
    icu := { b.icu with functionMask := a.icu.functionMask, linkL0 := a.icu.linkL0, linkL1 := a.icu.linkL1, exitL1 := a.icu.exitL1 }
    red := { b.red with peer := a.red.peer, peerSeen := a.red.peer }
    pwr := { b.pwr with wakeN := a.pwr.wakeN }
    hth := a.hth
    fwu := { a.fwu with fusing := none, fuseData := [], peerStage := false, peerMagic := [], sending := none, golden := false }
    boot := { b.boot with captured := c, cause := cause, image := a.boot.image, stored := a.boot.stored, trained := a.boot.trained && !package }
    jtag := a.jtag }.railBits.setFld pgCLK Clk.CLK_STATUS (3, 3) (a.fld pgSYS Sys.SYS_CFG (0, 0)) |>.setSts pgTLN Tln.S_TL_STATE (if c.isSome then 4 else 0)

/-- START_STEP of a start (R697, R698): a die reset resumes at step 2 once DRAM was trained. -/
def State.beginStart (s : State) : State := if s.boot.trained then s.setNat pgSYS Sys.START_STEP 2 else s

/-- A die reset; while the die is shut down it waits for R642. -/
def State.dieReset (s : State) (cause : Nat) : State :=
  if !s.aclkRuns then { s with boot := { s.boot with cause := s.boot.cause ||| cause } }
  else (s.hardReset false cause).beginStart

/-- A package reset samples ROLE_SEL and TEST_MODE at its end (R524, R697). -/
def State.packageReset (s : State) (cause : Nat) (roleB testMode : Bool) : State :=
  let s1 := s.hardReset true cause
  { s1 with dev := { s1.dev with roleB := roleB, testMode := testMode } }.railBits

/-- The supplies have ramped since PWR_EN_IO last rose (R718). -/
def State.ramped (s : State) : Bool :=
  match s.pwr.phase with
  | .asleep => s.pwr.target == 2
  | .ioRising | .coreRising => false
  | _ => true

/-- POR_N low: a package reset once the supplies have ramped (R718); it also starts a device that is shut down (R642). -/
def execPor (roleB testMode : Bool) (s : State) : Host.Outcome State Fault Refusal :=
  done (if s.ramped then s.packageReset 1 roleB testMode else s)

/-- VCORE below 0.55 V while PWR_EN_CORE is high (R20). -/
def execVcoreBrownout (s : State) : Host.Outcome State Fault Refusal :=
  done (if s.pwr.coreOn && s.aclkRuns then s.packageReset 2 s.dev.roleB s.dev.testMode else s)

/-! ### System reset (R18, R68) -/

/-- The RED registers that a system reset keeps. -/
def redKept (o : Nat) : Bool :=
  [Red.PAIR_CTRL, Red.PAIR_SEED_LO, Red.PAIR_SEED_HI, Red.REVERT_HOLD, Red.SAFE_ADDR_LO, Red.SAFE_ADDR_HI, Red.TSX_CTRL,
    Red.PEER_ASYM, Red.PEER_LIMIT, Red.PAIR_TIME, Red.DIGEST_SKIP].contains o || decide (0x3400 ≤ o ∧ o < 0x3800)

/-- A system reset: the pair state and the RED pages, without a change of roles or outputs; the link retrains. -/
def State.systemReset (s : State) : State :=
  let g := pgRED
  let stile := s.sts g Red.S_STILE_STATE
  let s1 := s.fallbackEnd
  let s2 := { s1 with live := s1.live.filter (fun e => !inGroup g e.1 || redKept (e.1 - g * 0x1000)) }.discardShadows g
  let r := s.red
  let s3 := s2.setRed { RedState.init with own := r.own, peer := r.peer, claiming := r.claiming, peerSeen := r.peerSeen, holdoffFrom := r.holdoffFrom }
  let s4 := (s3.setSts g Red.S_STILE_STATE stile).setSts g Red.S_ROLE (if stile = 1 then 1 else 0)
  { s4.railBits with tln := { s4.tln with peerValid := false } }.srcLost 8

/-! ### PAGE_CTRL.RESET (R57, R73) -/

/-- A request on a page; any that no row of R57 or R73 carries out is refused with SCOPE, one for a level that has no instance
around the page among them (log entry 60). -/
def State.resetRequest (s : State) (r : Requester) (page scope : Nat) : State :=
  match pageInfo page with
  | none => s
  | some i =>
    let g := groupOf page
    if i.block = .ccr then
      if scope = 0 ∧ isHost r = false ∧ reqCode r ≠ i.inst then s.resetUnit g else s.fault page F_SCOPE
    else if scope = 3 ∧ i.block = .sys then s.dieReset 8
    else if scope = 5 ∧ i.block = .red then s.systemReset
    else if 2 < scope ∨ scope < i.block.level then s.fault page F_SCOPE
    else if scope = 0 then s.resetUnit g
    else if scope = 1 then
      if i.block.level = 1 then s.resetCluster g
      else
        match clusterOfUnit g with
        | some c => s.resetCluster c
        | none => s.fault page F_SCOPE
    else
      match regionOfPage g with
      | some n => s.resetRegion n
      | none => s.fault page F_SCOPE

/-! ### Clocks (R34 to R36) -/

/-- CLK_STATUS and BLOCK_STATUS of ROOT_LOCK and ON_ROOT. -/
def State.setRoot (s : State) (lock on : Bool) : State :=
  let b (x : Bool) : Nat := if x then 1 else 0
  (((s.setSts pgCLK Clk.S_ROOT_LOCK (b lock)).setSts pgCLK Clk.S_ON_ROOT (b on)).setFld pgCLK Clk.CLK_STATUS (0, 0) (b lock)).setFld
    pgCLK Clk.CLK_STATUS (1, 1) (b on)

/-- ROOT reports lock after a number of µs; FIO is measured. -/
def State.rootLock (s : State) (micros khz : Nat) : State :=
  if !s.aclkRuns then s
  else
    let s1 := (s.setRoot true (s.sts pgCLK Clk.S_ON_ROOT == 1)).setFld pgCLK Clk.CLK_STATUS (2, 2) 1
    (s1.setNat pgCLK Clk.LOCK_US (min 65535 micros)).setNat pgCLK Clk.FIO_KHZ (khz % 2 ^ 18)

/-- A write of CLK_CTRL.ON_ROOT_REQ. -/
def State.clockMove (s : State) (r : Requester) (toRoot : Bool) : State :=
  if isHost r then s.fault pgCLK Clk.F_OWNER_WRITE
  else if toRoot && s.sts pgCLK Clk.S_ROOT_LOCK != 1 then s.badValue pgCLK
  else (s.setNat pgCLK Clk.CLK_CTRL (if toRoot then 1 else 0)).setRoot (s.sts pgCLK Clk.S_ROOT_LOCK == 1) toRoot

def execClockMove (req : Requester) (toRoot : Bool) (s : State) : Host.Outcome State Fault Refusal :=
  done (s.gate pgCLK (fun a => a.clockMove req toRoot))

/-- ACLK and FCLK fall back to FIO, TCLK and PCLK stop, the outputs are released by a die-level fault (R35). -/
def State.loseRoot (s : State) : State :=
  let s1 := { s with pmc := { s.pmc with gapCause := 4 }, boot := { s.boot with cause := s.boot.cause ||| 0x100 } }
  (s1.setRoot false false).fenceDie pgCLK

/-- A loss of lock is counted and reported (R36). -/
def State.rootLossNoted (s : State) : State := (s.inc pgCLK Clk.ROOT_LOSSES).fault pgCLK Clk.F_ROOT_LOST

def execRootLost (s : State) : Host.Outcome State Fault Refusal :=
  done (if s.aclkRuns && s.sts pgCLK Clk.S_ROOT_LOCK == 1 then s.rootLossNoted.loseRoot else s)

/-- XTAL_IN stops for 2 µs: where ROOT was locked, it leaves lock with its reference (log entry 96). -/
def execXtalStop (s : State) : Host.Outcome State Fault Refusal :=
  done (if s.aclkRuns then
      (let s1 := ((s.inc pgCLK Clk.XTAL_STOPS).setFld pgCLK Clk.CLK_STATUS (2, 2) 0).fault pgCLK Clk.F_XTAL_STOP
       (if s.sts pgCLK Clk.S_ROOT_LOCK = 1 then s1.rootLossNoted else s1).loseRoot)
    else s)

/-! ### Memory errors (R38, R39) -/

/-- A DRAM read with an ECC error: a corrected one is counted, another raises a package-level fault (R38). -/
def execDramEccError (corrected : Bool) (s : State) : Host.Outcome State Fault Refusal :=
  done (if !s.aclkRuns then s else if corrected then s.count 1408 1 else s.fencePackage pgSYS)

/-- A region SRAM word with an ECC error (R39, R594); `masked` says that a fault of a higher level is raised in the same ACLK
cycle (R22). -/
def execSramEccError (region : Fin 4) (corrected masked : Bool) (s : State) : Host.Outcome State Fault Refusal :=
  done (if !s.aclkRuns then s
    else if corrected then s.count (1024 + 48 * region.val + 7) 1
    else if masked then s.recordFault 2 (pgJSC region.val)
    else (s.fenceRegion region.val (pgJSC region.val)).pinsRefresh)

end Sys2Proof.Machine
end

