-- ==== Sys2Proof/Machine/Power.lean ====
section
/-!
DEFINITION. Power states (R608 to R629), the Heath island, the restart of the timeline after a wake (R99), and the seal loop
(R690).
-/
namespace Sys2Proof.Machine

/-! ### The island -/

/-- A number of Heath ticks passes that the timeline does not count. -/
def State.passTicks (s : State) (n : Nat) : State :=
  if s.timeRuns then s else { s with hth := { s.hth with tick := (s.hth.tick + n) % 2 ^ 48 } }

/-- XT32 toggles (R621). -/
def State.xtSeen (s : State) : State := s.setSts pgHTH Hth.S_XT32_OK 1

/-- The HTH page and the island return to their reset state (R68); ISLAND_RESET is set (R620, R690). -/
def State.resetHth (s : State) : State :=
  ({ s with live := Tab.keep (fun k => !isHthKey k) s.live, hth := { HthState.init with edge := s.tln.now } }).fault pgHTH Hth.F_ISLAND_RESET

def State.alarm (s : State) : Nat := s.nat pgHTH Hth.ALARM_LO + 2 ^ 32 * s.fld pgHTH Hth.ALARM_HI (15, 0)
def State.alarmOn (s : State) : Bool := s.flag pgHTH Hth.WAKE_EN 16

/-- PWR_STATE changes, with interrupt 17 (R627). -/
def State.setPwrState (s : State) (n : Nat) : State :=
  if s.pwrState = n then s else (s.setSts pgPWR Pwr.S_PWR_STATE n).irq 17

def State.setPwr (s : State) (p : PwrState) : State := { s with pwr := p }

/-! ### Wakes (R616 to R618, R622) -/

/-- The sources of `seen` that are recognised, with the pins that are. -/
def State.recognised (s : State) (seen pins : Nat) : Nat × Nat :=
  let en := s.reg pgHTH Hth.WAKE_EN
  let p := pins % 16 &&& bits en (3, 0)
  let asleep := s.pwr.phase == PwrPhase.asleep
  let doze := s.pwr.phase == PwrPhase.on && s.pwrState == 1
  let keep (c : Nat) : Bool :=
    match c with
    | 1 => p != 0
    | 2 => bit en 16
    | 3 => bit en 17
    | 4 => bit en 18
    | 5 => asleep
    | 6 | 7 => doze
    | _ => false
  (((List.range 8).filter (fun c => seen.testBit c && keep c)).foldl (fun a c => a + 2 ^ c) 0, if seen.testBit 1 then p else 0)

/-- An entry is abandoned by a wake (R616). -/
def State.abortEntry (s : State) (seen pins : Nat) : State :=
  let s1 := (s.loadWake 0 true seen pins).setPwr { s.pwr with phase := .on, msgDone := false, recDone := false }
  ((s1.inc pgPWR Pwr.ABORTS).setPwrState 0).fault pgPWR Pwr.F_SLEEP_ABORTED

/-- The exit from Retain or Heath begins (R618, R623); a RESET wake restores nothing. -/
def State.beginExit (s : State) (seen pins : Nat) : State :=
  let s1 := (s.loadWake s.pwr.target false seen pins).setSts pgHTH Hth.S_REG_MODE 0
  let p := { s1.pwr with fresh := seen.testBit 5 }
  if s.pwr.target = 2 then s1.setPwr { p with phase := .coreRising, coreOn := true, wakeN := true }
  else s1.setPwr { p with phase := .ioRising, ioOn := true }

/-- Sources are recognised. -/
def State.wakeBy (s : State) (seen0 pins0 : Nat) : State :=
  let (seen, pins) := s.recognised seen0 pins0
  if seen = 0 then s
  else
    match s.pwr.phase with
    | .on => if s.pwrState = 1 then (s.leaveDoze seen pins).irq 17 else s
    | .entering => s.abortEntry seen pins
    | .released => s.abortEntry seen pins
    | .asleep => s.beginExit seen pins
    | _ => s

/-- WAKE_IN edges, stable for `held` ticks. -/
def State.wakeIn (s : State) (pins rising held ticks : Nat) : State :=
  let s1 := (s.passTicks ticks).xtSeen
  let pol := s1.fld pgHTH Hth.WAKE_EN (11, 8)
  let edges := ((List.range 4).filter (fun n => pins.testBit n && (rising.testBit n != pol.testBit n))).foldl (fun a n => a + 2 ^ n) 0
  if held < s1.fld pgHTH Hth.HTH_CFG (4, 0) then s1 else s1.wakeBy 2 edges

def execWakeInEdge (pins rising : Fin 16) (held ticks : Nat) (s : State) : Host.Outcome State Fault Refusal :=
  done (s.wakeIn pins.val rising.val held ticks)

/-- HTICK reaches ALARM: at its tick edge while the timeline runs. -/
def State.heathAlarm (s : State) : State :=
  if !s.alarmOn then s
  else
    let n := (s.alarm + 2 ^ 48 - s.htick) % 2 ^ 48
    if s.timeRuns then
      (if n = 0 then s.wakeBy 4 0
       else s.atTime (s.hth.edge + ((s.ticksSince + n) * TICK : Nat)).toNat (fun a => a.wakeBy 4 0))
    else (s.passTicks n).wakeBy 4 0

def execHeathAlarm (s : State) : Host.Outcome State Fault Refusal := done s.heathAlarm

/-- XT32 stops (R621). -/
def State.xt32Fail (s : State) (ticks : Nat) : State :=
  let s1 := ((s.passTicks ticks).setSts pgHTH Hth.S_XT32_OK 0).setSts pgHTH Hth.S_TK_VALID 0
  (s1.fault pgHTH Hth.F_XT32_FAIL).wakeBy 16 0

def execXt32Fail (ticks : Nat) (s : State) : Host.Outcome State Fault Refusal := done (s.xt32Fail ticks)

/-- One check of the seal loop; two in a row without following open it (R690). -/
def State.sealCheck (s : State) (follows : Bool) (ticks : Nat) : State :=
  let s1 := (s.passTicks ticks).xtSeen
  let n := if follows then 0 else s1.hth.sealMisses + 1
  let s2 := { s1 with hth := { s1.hth with sealMisses := n } }
  if n < 2 then s2
  else
    let on := s2.pwr.phase == PwrPhase.on && s2.pwrState == 0
    let s3 := s2.fault pgHTH Hth.F_SEAL_OPEN
    let s4 := if s2.flag pgHTH PAGE_FAULT Hth.F_SEAL_OPEN then s3
      else if on then s3.trigger 0x840 pgFWU
      else { s3 with hth := { s3.hth with sealDue := true } }
    s4.wakeBy 8 0

def execSealCheck (follows : Bool) (ticks : Nat) (s : State) : Host.Outcome State Fault Refusal := done (s.sealCheck follows ticks)

/-- Code 0x840 is recorded at the next Run (R690). -/
def State.sealRecord (s : State) : State :=
  if s.hth.sealDue then { s with hth := { s.hth with sealDue := false } }.trigger 0x840 pgFWU else s

/-! ### Requests (R610 to R612) -/

def State.refusePwr (s : State) (cause : Nat) : State := (s.setNat pgPWR Pwr.LAST_REFUSE cause).fault pgPWR Pwr.F_REFUSED

/-- The first cause of R610 that holds for a request of state `n`. -/
def State.pwrCause (s : State) (n : Nat) : Option Nat :=
  if n = 1 ∧ s.allStopped = false then some 1
  else if n = 1 ∧ (List.range 4).any (fun r => (s.regionOf r).inFlight != 0) = true then some 2
  else if n = 2 ∧ 1760 < signed 16 (s.nat pgTHM Thm.T_DIE) then some 3
  else if s.pwr.phase ≠ PwrPhase.on ∨ 1 < s.pwrState then some 4
  else if s.pwrState = n then some 5
  else none

/-- Doze begins (R612); the lamp gates are driven inactive (R608). -/
def State.enterDoze (s : State) : State :=
  (List.range 32).foldl State.gateOff ((s.setPwr { s.pwr with dozeAt := s.tln.now }).setPwrState 1).pinsRefresh

/-- Step 1 of R613. -/
def State.beginEntry (s : State) (n : Nat) : State :=
  let s0 := if s.pwrState = 1 then (s.leaveDoze 0x40 0).setSts pgPWR Pwr.S_PWR_STATE 1 else s
  let s1 := (s0.setPwr { s0.pwr with phase := .entering, target := n, msgDone := false, recDone := false }).setPwrState 2
  (List.range 4).foldl (fun a m => (List.range 8).foldl (fun b i => b.ringFlush m i) a) s1

/-- A write of PWR_REQ; `seen` are the wake sources of the same cycle (R616). -/
def State.pwrRequest (s : State) (n seen pins : Nat) : State :=
  match s.pwrCause n with
  | some c => s.refusePwr c
  | none =>
    let (w, p) := s.recognised seen pins
    if n = 0 then (s.leaveDoze (0x40 + w % 64) p).irq 17
    else if w ≠ 0 then s.abortEntry w p
    else if n = 1 then s.enterDoze
    else s.beginEntry n

def execPwrReqRun (_req : Requester) (s : State) : Host.Outcome State Fault Refusal :=
  done (s.gate pgPWR (fun a => a.pwrRequest 0 0 0))
def execPwrReqDoze (_req : Requester) (seen : Fin 256) (pins : Fin 16) (s : State) : Host.Outcome State Fault Refusal :=
  done (s.gate pgPWR (fun a => a.pwrRequest 1 seen.val pins.val))
def execPwrReqRetain (_req : Requester) (seen : Fin 256) (pins : Fin 16) (s : State) : Host.Outcome State Fault Refusal :=
  done (s.gate pgPWR (fun a => a.pwrRequest 2 seen.val pins.val))
def execPwrReqHeath (_req : Requester) (seen : Fin 256) (pins : Fin 16) (s : State) : Host.Outcome State Fault Refusal :=
  done (s.gate pgPWR (fun a => a.pwrRequest 3 seen.val pins.val))

/-! ### Entry (R613, R614) -/

def State.messagesDue (s : State) : List Nat :=
  (List.range 4).filter (fun g => Tab.get (fun _ => false) s.icu.due g || Tab.get (fun _ => false) s.icu.held g)

/-- Step 2 passes MSG_LIMIT. -/
def execMsgLimitTimeout (s : State) : Host.Outcome State Fault Refusal :=
  done (if s.pwr.phase == PwrPhase.entering && !s.pwr.msgDone && s.messagesDue != [] then
      (s.setPwr { s.pwr with msgDone := true }).fault pgPWR Pwr.F_MSG_TIMEOUT else s)

def State.recorderBusy (s : State) : Bool := s.evr.writing.isSome || (s.queue 3 3).committed != 0

/-- Step 3 passes 1 ms; no further record begins. -/
def execRecDrainTimeout (s : State) : Host.Outcome State Fault Refusal :=
  done (if s.pwr.phase == PwrPhase.entering && !s.pwr.recDone && s.recorderBusy then
      (s.setPwr { s.pwr with recDone := true }).fault pgPWR Pwr.F_REC_TIMEOUT else s)

/-- Steps 2 and 3 have ended. -/
def State.drained (s : State) : Bool :=
  (s.pwr.msgDone || s.messagesDue == []) && s.evr.writing.isNone && (s.pwr.recDone || (s.queue 3 3).committed == 0)

/-- Step 4: the Stile, the Swaths, the jobs, CLAIM_EN. -/
def State.releaseAll (s : State) : State :=
  let s1 := s.releaseStile
  let s2 := (List.range 16).foldl (fun a k => if a.swathState k = 0 then a else a.enterStopped k) s1
  let s3 := (List.range 4).foldl State.clearScheduler s2
  s3.setBoth pgRED Red.PAIR_CTRL (clearBit (s3.reg pgRED Red.PAIR_CTRL) 0)

/-- Step 5: the capture at the next Heath tick edge. -/
def State.captureTime (s : State) : State :=
  let t := (s.hth.edge + ((s.ticksSince + 1) * TICK : Nat)).toNat
  let s1 := if s.timeRuns then s.advance t else s.passTicks 1
  let c : Captured := ⟨s1.tln.now, s1.uncert, s1.htick⟩
  (({ s1 with boot := { s1.boot with captured := some c } }.setNat pgHTH Hth.SLEEP_TICK_LO (c.tick % 2 ^ 32)).setNat
    pgHTH Hth.SLEEP_TICK_HI (c.tick / 2 ^ 32)).xtSeen

/-- The register image of every page but HTH. -/
def State.registerImage (s : State) : RegImage :=
  ⟨Tab.keep (fun k => !isHthKey k) s.live, s.shadow, s.evr.trig, s.pmc.cnt, s.pmc.wraps, s.icu.owner, s.icu.level⟩

/-- Step 6 of a Heath entry: what is lost is counted, and the image is stored. -/
def State.storeImage (s : State) : State :=
  let s1 := (s.addReg pgPWR Pwr.MSG_DROPPED s.messagesDue.length).setNat pgHTH Hth.LOST_AT_SLEEP
    (min 65535 (s.queue 3 3).committed)
  { s1 with boot := { s1.boot with image := s1.registerImage, stored := true, restore := true } }

/-- Steps 7 and 8: the clocks stop and the rails fall; the links go down. -/
def State.fallAsleep (s : State) : State :=
  let heath := s.pwr.target == 3
  let s1 := if heath then s.setSts pgHTH Hth.S_REG_MODE 1 else s.count 1410 1
  let s2 := s1.setRed { s1.red with lock0 := false, lock1 := false, up0 := false, up1 := false }
  { s2 with
    pwr := { s2.pwr with phase := .asleep, coreOn := false, ioOn := !heath, wakeN := false, msgDone := false, recDone := false },
    tln := { s2.tln with stopped := true },
    icu := { s2.icu with linkL0 := false, linkL1 := false, exitL1 := false }
    dev := { s2.dev with gpioDir := 0 } }.pinsRefresh

/-- Steps 2 and 3 have ended: step 4. -/
def State.entryProceed (s : State) : State :=
  if s.pwr.phase ≠ PwrPhase.entering ∨ s.drained = false then s
  else
    let s1 := s.releaseAll
    s1.setPwr { s1.pwr with phase := .released }

def execPowerEntryProceed (s : State) : Host.Outcome State Fault Refusal := done s.entryProceed

/-- Steps 5 to 8, which end `micros` µs after the request; an alarm at or before SLEEP_TICK is recognised at step 5 (R617). -/
def State.entryCapture (s : State) (micros : Nat) : State :=
  if s.pwr.phase ≠ PwrPhase.released then s
  else
    let s1 := s.captureTime
    if s1.alarmOn = true ∧ s1.alarm ≤ s1.htick then s1.abortEntry 4 0
    else
      let s2 := s1.setNat pgPWR Pwr.ENTRY_US (min 0xFFFFFFFF micros)
      (if s.pwr.target = 3 then s2.storeImage else s2).fallAsleep

def execTimelineCapture (micros : Nat) (s : State) : Host.Outcome State Fault Refusal := done (s.entryCapture micros)

/-! ### Exit (R615, R618, R623) -/

def execIoRampDone (s : State) : Host.Outcome State Fault Refusal :=
  done (if s.pwr.phase = PwrPhase.ioRising then s.setPwr { s.pwr with phase := .coreRising, coreOn := true, wakeN := true } else s)

/-- The die starts from Retain with its registers live, on FIO; a message stays due while its target is claimable (R614). -/
def State.startRetained (s : State) : State :=
  let s1 := ((s.setPwr { s.pwr with phase := .restoring }).setRoot false false).setPwrState 3
  let s2 := (List.range 4).foldl (fun a g => if a.claimable (4 + g) then a else a.clearDue g) s1.drainLatches
  s2.linkRefresh.pinsRefresh

/-- The die starts from a Heath wake, whose first record counts what LOST_AT_SLEEP holds (R614), or a cold start. -/
def State.startCold (s : State) (roleB testMode : Bool) : State :=
  let heath := s.pwr.target == 3
  let fresh := s.pwr.fresh || !heath
  let cause := if heath then (if s.pwr.fresh then 4 else 0x80) else s.pwr.coldCause
  let s1 := s.packageReset cause roleB testMode
  let c := if fresh then s1.boot.captured else s.boot.captured
  { s1 with
    boot := { s1.boot with captured := c, restore := heath && !fresh && s.boot.restore },
    evr := { s1.evr with lost := if heath then s.fld pgHTH Hth.LOST_AT_SLEEP (15, 0) else 0 },
    tln := { s1.tln with stopped := c.isSome, now := (c.map Captured.time).getD 0, edge := (c.map Captured.time).getD 0 } }.setSts pgPWR Pwr.S_PWR_STATE
      (if heath && !fresh then 3 else 0)

/-- The die starts from a thermal shutdown as after a die reset; THRESH reads RESTART (R642, R645). -/
def State.startCooled (s : State) : State :=
  let s1 := s.hardReset false s.boot.cause
  { s1 with thm := { s1.thm with thresh := 5 } }.beginStart

/-- CORE_RAMP_US after PWR_EN_CORE rises; a RESET wake from Retain starts as after a die reset (R622). -/
def State.coreRamped (s : State) (roleB testMode : Bool) : State :=
  if s.pwr.phase ≠ PwrPhase.coreRising then s
  else if s.pwr.target = 4 then s.startCooled
  else if s.pwr.target = 2 then
    (if s.pwr.fresh then (s.hardReset false 4).beginStart
    else s.startRetained)
  else s.startCold roleB testMode

def execCoreRampDone (roleB testMode : Bool) (s : State) : Host.Outcome State Fault Refusal := done (s.coreRamped roleB testMode)

/-! ### Brown-outs and the first application of VHEATH (R620) -/

/-- The island makes a cold start. -/
def State.coldStart (s : State) (cause : Nat) : State :=
  { s with
    pwr := { s.pwr with phase := .coreRising, target := 0, fresh := true, ioOn := true, coreOn := true, wakeN := true, coldCause := cause },
    tln := { s.tln with stopped := true },
    boot := { s.boot with captured := none, restore := false } }

def State.heathBrownout (s : State) : State :=
  let s1 := s.resetHth
  if s.pwr.phase = PwrPhase.shutdown then { s1 with boot := { s1.boot with cause := s1.boot.cause ||| 2 } }
  else if s.aclkRuns then s1.packageReset 2 s.dev.roleB s.dev.testMode
  else s1.coldStart 2

def execHeathBrownout (s : State) : Host.Outcome State Fault Refusal := done s.heathBrownout

def execFirstApplicationOfVheath (s : State) : Host.Outcome State Fault Refusal := done (s.resetHth.coldStart 1)

/-- RESET_N low: a die reset, or a wake in Retain or Heath (R20, R622). -/
def execResetNLow (s : State) : Host.Outcome State Fault Refusal :=
  done (if s.pwr.phase = PwrPhase.asleep then s.wakeBy 32 0 else s.dieReset 4)

/-! ### The timeline after a wake (R99) -/

/-- Time and UNCERT at a tick `n` after the captured one (R99). -/
def State.coasted (s : State) (c : Captured) (n : Nat) : Nat × Nat :=
  let err := signed 32 (s.nat pgCAL Cal.XT32_ERR)
  let unc := s.nat pgCAL Cal.XT32_UNC
  let elapsed : Rat := (n : Rat) * 1000000000 / (32768 * (1 + (err : Rat) / 1000000000))
  let start : Rat := (c.time : Rat) * 1280 / ((NS : Nat) : Rat) + elapsed * 1280
  let u : Rat := (c.uncert : Rat) + 1000 + elapsed / 1000000000 * (unc : Rat)
  (timeOfGrid (roundGridRat start),
   if c.uncert = UNC_UNKNOWN ∨ unc = UNC_UNKNOWN then UNC_UNKNOWN else satUnc u.ceil.toNat)

/-- The wake from Retain ends (R623): Run, WOKE. -/
def State.woke (s : State) (micros : Nat) : State :=
  let s1 := (s.setNat pgPWR Pwr.EXIT_US (min 0xFFFFFFFF micros)).setPwr { s.pwr with phase := .on, target := 0, fresh := false }
  ((s1.setPwrState 0).irq 18).sealRecord

/-- The timeline restarts at the first Heath tick edge after ROOT locks, `ticks` ticks after the latest count: COASTED, or FREE
when XT32 had failed (R621); a selected source that is VALID takes it on to ACQUIRE (R87). -/
def State.timelineRestart (s : State) (ticks micros : Nat) : State :=
  match s.boot.captured with
  | none => s
  | some c =>
    if !s.aclkRuns || s.sts pgCLK Clk.S_ROOT_LOCK != 1 || !s.tln.stopped then s
    else
      let s1 := s.passTicks ticks
      let valid := s1.sts pgHTH Hth.S_TK_VALID == 1
      let r := s1.coasted c ((s1.hth.tick + 2 ^ 48 - c.tick) % 2 ^ 48)
      let cause := if s.pwr.phase = PwrPhase.restoring then 1 else 2
      let s2 := { s1 with
        tln := { s1.tln with stopped := false, now := r.1, edge := r.1, uncertBase := if valid then r.2 else UNC_UNKNOWN, hasPrev := false },
        hth := { s1.hth with edge := r.1 },
        boot := { s1.boot with captured := none },
        pmc := { s1.pmc with gapCause := cause, gapFrom := r.1, gapUncert := if valid then r.2 else UNC_UNKNOWN } }
      let s3 := s2.setTlState (if valid then 4 else 0)
      let s4 := { s3 with tln := { s3.tln with uncertBase := if valid then r.2 else UNC_UNKNOWN } }.tlnSettle
      if s.pwr.phase = PwrPhase.restoring then s4.woke micros else s4

def execTimelineRestart (ticks micros : Nat) (s : State) : Host.Outcome State Fault Refusal := done (s.timelineRestart ticks micros)

/-! ### The PCIe link (R347, R615) -/

/-- The state of the link: 0 L0, 1 L1, 2 another low-power state. In L0 WAKE_N is released and the held messages are sent; in L1
the device begins the exit itself while it holds a message. -/
def State.linkMoves (s : State) (link : Nat) : State :=
  let exit := link == 1 && (List.range 4).any (Tab.get (fun _ => false) s.icu.held)
  let s1 := { s with icu := { s.icu with linkL0 := link == 0, linkL1 := link == 1, exitL1 := exit } }
  if link = 0 then (List.range 4).foldl State.msixSend (s1.setPwr { s1.pwr with wakeN := false }) else s1

def execLinkInL0 (link : Fin 3) (s : State) : Host.Outcome State Fault Refusal :=
  done (if s.aclkRuns then s.linkMoves link.val else s)

/-- WAKE_N is asserted: since a wake, or while a message is held. -/
def State.wakeN (s : State) : Bool := s.pwr.wakeN || (List.range 4).any (fun g => Tab.get (fun _ => false) s.icu.held g)

/-! ### Commits of PWR (R625) -/

def State.pwrCommit (s : State) : State :=
  let get := s.shd pgPWR
  s.commitPoint pgPWR (if rangesBad get [⟨Pwr.PWR_CFG, (15, 8), 1, 255⟩, ⟨Pwr.PWR_CFG, (27, 16), 50, 4095⟩,
    ⟨Pwr.IO_RAMP_US, (15, 0), 100, 65535⟩] then [pgPWR] else []) id

end Sys2Proof.Machine
end

