-- ==== Sys2Proof/Machine/View.lean ====
section
/-!
DEFINITION. What a read of a register returns (R49, R53 to R61, R68, R70): the held registers, those that show other state, and
the reads that latch, pop or clear.
-/
namespace Sys2Proof.Machine

/-! ### Header registers -/

/-- PAGE_CAPS (R55). -/
def State.capsView (s : State) (i : PageInfo) (page : Nat) : Nat :=
  (if i.block.kind = 2 then s.boundSwath (page - i.sub) else 0xFF) * 2 ^ 16 + i.block.groupLog2 * 2 ^ 8 + i.sub * 16 + i.block.kind

/-- A region's bits of JSC PAGE_STATUS that show its rings and releases (R240). -/
def State.jscStatusView (s : State) (n : Nat) (v : Word) : Word :=
  let b (x : Bool) : Nat := if x then 1 else 0
  putBits (putBits v Jsc.S_SPILLING (b (!(s.regionOf n).spill.isEmpty))) Jsc.S_LAUNCH_HELD (b (!(s.regionOf n).held.isEmpty))

/-- A reset of the page's instance is in progress, or a STOP whose safe point is not reached (R58). -/
def State.pageBusy (s : State) (page : Nat) : Bool :=
  s.isResetting page || (s.active page && s.enabled (groupOf page) && s.stopSet (groupOf page))

/-- PAGE_STATUS with BUSY and the bits that show other state. -/
def State.statusView (s : State) (i : PageInfo) (page : Nat) : Word :=
  let v := putBits (s.reg page PAGE_STATUS) (2, 2) (if s.pageBusy page then 1 else 0)
  match i.block with
  | .jsc => if i.sub = 0 then s.jscStatusView i.inst v else v
  | .ccr => putBits v (17, 16) (s.coreState i.inst)
  | .dmx => putBits v Dmx.S_PIN_STATE (s.dmxPin i.inst).1
  | .que =>
    if i.inst < 11 then
      putBits v Que.S_ABOVE (((List.range 4).filter (s.queueAbove i.inst)).foldl (fun a q => a + 2 ^ q) 0)
    else v
  | _ => v

/-- PAGE_COMMIT (R60). -/
def State.commitView (s : State) (page : Nat) : Nat :=
  s.nat page PAGE_EPOCH % 2 ^ 16 * 2 ^ 16 + (if (s.armOf (groupOf page)).on then 4 else 0)

/-! ### Registers that show other state -/

def State.queueView (s : State) (j o : Nat) (v : Word) : Word :=
  let q := (o - 0x100) / 0x40
  let x := s.queue j q
  let depth := ((queueSpec j q).map QueueSpec.depth).getD 1
  let b (y : Bool) : Nat := if y then 1 else 0
  if (queueSpec j q).isNone then v
  else if o = Que.Q_STATUS q then
    putBits (putBits (putBits (putBits v Que.WRITING (b x.inPacket)) Que.ABOVE (b (s.queueAbove j q))) Que.FULL
      (b (decide (depth ≤ x.words.length)))) Que.EMPTY (b (x.committed == 0))
  else if o = Que.Q_LEVEL q then BitVec.ofNat 32 (x.committed + 2 ^ 16 * x.words.length)
  else if o = Que.Q_RTAG q then
    (match x.head with
    | none => 0
    | some w => BitVec.ofNat 32 (2 ^ 31 + b w.last * 2 ^ 9 + b w.first * 2 ^ 8 + w.bytes))
  else if Que.Q_RWORD q 0 ≤ o ∧ o ≤ Que.Q_RWORD q 7 then
    (match x.head with
    | none => 0
    | some w => BitVec.ofNat 32 (leAt w.data (o - Que.Q_RWORD q 0) 4))
  else v

def State.icuView (s : State) (o : Nat) (v : Word) : Word :=
  let t := (o - 0x400) / 0x20
  if o = Icu.ICU_STATUS then BitVec.ofNat 32 (s.sysState + if s.sysState = 1 then 0 else 4)
  else if 0x400 ≤ o ∧ o < 0x500 then
    (if o = Icu.CLAIM t then BitVec.ofNat 32 ((s.icuTop t).getD 0x3FF)
     else if o = Icu.TGT_STATUS t then
      BitVec.ofNat 32 ((s.icuTop t).getD 0x3FF + (if s.claimable t then 2 ^ 15 else 0)
        + 2 ^ 16 * (s.icu.owner.filter (fun (e : Nat × Nat) => e.2 == t)).length)
     else v)
  else v

/-- The timeline's registers as requester `r` reads them (R81). -/
def State.tlnView (s : State) (r o : Nat) (v : Word) : Word :=
  let l := Tab.get (fun _ => NowLatch.init) s.tln.latch r
  if o = Tln.NOW_S_LO then BitVec.ofNat 32 (timeValOf s.tln.now).s
  else if o = Tln.NOW_S_HI then BitVec.ofNat 32 l.sHi
  else if o = Tln.NOW_NS then BitVec.ofNat 32 l.ns
  else if o = Tln.NOW_FRAC then BitVec.ofNat 32 l.frac
  else if o = Tln.NOW_UNCERT then BitVec.ofNat 32 l.uncert
  else if o = Tln.NOW_STAMP32 then BitVec.ofNat 32 (stamp32 s.tln.now)
  else v

/-- HTICK as requester `r` reads it (R619). -/
def State.hthView (s : State) (r o : Nat) (v : Word) : Word :=
  if o = Hth.HTICK_LO then BitVec.ofNat 32 (s.htick % 2 ^ 32)
  else if o = Hth.HTICK_HI then BitVec.ofNat 32 (Tab.get (fun _ => 0) s.hth.hiLatch r)
  else v

def State.cmpView (s : State) (n o : Nat) (v : Word) : Word :=
  let b := 16 * n + (o - 0x4400) / 0x20
  let w := Tab.get (fun _ => (0 : BitVec 64)) s.prog (8192 * n + s.fld (pgCMP n) Cmp.PROG_ADDR Cmp.ADDR)
  if o = Cmp.DITHER_SEED_LO then s.reg pgRED Red.PAIR_SEED_LO
  else if o = Cmp.DITHER_SEED_HI then s.reg pgRED Red.PAIR_SEED_HI
  else if o = Cmp.PROG_DATA_LO then BitVec.ofNat 32 (w.toNat % 2 ^ 32)
  else if o = Cmp.PROG_DATA_HI then BitVec.ofNat 32 (w.toNat / 2 ^ 32)
  else if 0x4400 ≤ o ∧ o < 0x4600 ∧ (o - 0x4400) % 0x20 = 0x18 then
    BitVec.ofNat 32 (s.scanRef b + if s.stalling b then 2 ^ 16 else 0)
  else v

def State.jscView (s : State) (n o : Nat) (v : Word) : Word :=
  let p := pgJSC n
  let r := s.regionOf n
  let d := 1024 * n + s.fld p Jsc.DOM_SEL (9, 0)
  let b (y : Bool) : Nat := if y then 1 else 0
  if o = Jsc.SPILL_LEVEL then BitVec.ofNat 32 r.spill.length
  else if o = Jsc.INFLIGHT then BitVec.ofNat 32 r.inFlight
  else if o = Jsc.SUBMIT_SPACE then BitVec.ofNat 32 (s.submitSpace n)
  else if o = Jsc.CTR_VALUE then BitVec.ofNat 32 (s.ctrOf n (s.fld p Jsc.CTR_SEL (11, 0)))
  else if o = Jsc.DOM_STATE then
    BitVec.ofNat 32 ((s.domainOf d).head
      + 2 ^ 16 * (r.jobs.filter (fun j => j.windowed && j.domain == d && decide (s.windowPos j < 64))).length
      + 2 ^ 31 * b (s.domainOf d).stalled)
  else if o = Jsc.LAG_STATE then
    BitVec.ofNat 32 ((List.range 8).foldl (fun a i =>
      a + b (s.lagging (8 * n + i)) * 2 ^ i + b (s.pluFailed (8 * n + i)) * 2 ^ (8 + i)) 0)
  else if 0x1400 ≤ o ∧ o < 0x1600 ∧ (o - 0x1400) % 0x40 = 0x24 then
    (let l := s.listRun n ((o - 0x1400) / 0x40)
     BitVec.ofNat 32 (l.next + 2 ^ 31 * b l.reading))
  else if 0x2400 ≤ o ∧ o % 0x10 = 4 ∧ 0x400 ≤ o % 0x1000 ∧ o % 0x1000 < 0x600 then
    (let t := s.thread (64 * n + (o - 0x2400) / 0x1000 * 32 + (o % 0x1000 - 0x400) / 0x10)
     BitVec.ofNat 32 (t.st + 16 * t.core + 256 * t.waiting.length))
  else v

/-- INFO of a counter (R600, R606): IMPLEMENTED, the event's offset, and the page of the instance; a counter of the die or the
package has no page of its own, and that field is open (log entry 62). -/
def infoView (n : Nat) : Nat :=
  let page :=
    if n < 256 then pgPLU (n / 8) else if n < 512 then pgPXP ((n - 256) / 4) else if n < 560 then pgDMX ((n - 512) / 4)
    else if n < 592 then pgFLD ((n - 560) / 4) else if n < 720 then pgLMP ((n - 592) / 4) else if n < 752 then pgETH ((n - 720) / 8)
    else if n < 768 then pgCCR ((n - 752) / 4) else if n < 896 then pgPLC ((n - 768) / 8) else if n < 928 then pgLCL ((n - 896) / 8)
    else if n < 1216 then pgJSC ((n - 1024) / 48) else if n < 1232 then Config.infoPage n % 1024
    else if n < 1296 then pgSWT ((n - 1232) / 4) else if n < 1472 then Config.infoPage n % 1024 else pgRED
  let event :=
    if n < 256 then n % 8 else if n < 720 then n % 4 else if n < 752 then n % 8 else if n < 768 then n % 4
    else if n < 928 then n % 8 else if n < 1216 then (n - 1024) % 48 else if n < 1232 then n - 1216
    else if n < 1296 then n % 4 else if n < 1472 then n - 1408 else n - 1472
  if counterUsed n then 2 ^ 31 + event * 2 ^ 16 + page else 0

/-- The counter that an offset of the PMC group names, and whether it is CNT_HI. -/
def cntAt (o : Nat) : Option (Nat × Bool) :=
  if 0x4400 ≤ o ∧ o < 0x10000 ∧ 0x400 ≤ o % 0x1000 ∧ o % 0x1000 < 0x800 then
    some ((o / 0x1000 - 4) * 128 + (o % 0x1000 - 0x400) / 8, o % 8 == 4) else none

def State.pmcView (s : State) (r o : Nat) (v : Word) : Word :=
  match cntAt o with
  | some (n, hi) => if hi then BitVec.ofNat 32 (Tab.get (fun _ => 0) s.pmc.hiLatch r) else BitVec.ofNat 32 (s.cnt n % 2 ^ 32)
  | none => if o = Pmc.INFO then BitVec.ofNat 32 (infoView (s.fld pgPMC Pmc.INFO_SEL (10, 0))) else v

/-- The word of trigger memory that TRIG_ADDR names; words 8,176 and above hold nothing. -/
def State.trigData (s : State) : Word :=
  let a := s.fld pgEVR Evr.TRIG_ADDR (12, 0)
  if a < 8176 then s.trigWord a else 0

/-- A held or computed block register at group offset `o`, as requester `r` reads it (6: the recorder, which has no latch of its
own; log entry 63). -/
def State.blockView (s : State) (r : Nat) (i : PageInfo) (o : Nat) (v : Word) : Word :=
  let n := i.inst
  match i.block with
  | .tln => s.tlnView r o v
  | .hth => s.hthView r o v
  | .cmp => s.cmpView n o v
  | .jsc => s.jscView n o v
  | .pmc => s.pmcView r o v
  | .icu => s.icuView o v
  | .que => s.queueView n o v
  | .swt => if o = Swt.LEAD_NS then BitVec.ofNat 32 (s.leadNs n) else v
  | .eth =>
    if o = Eth.PAUSE_LEFT then BitVec.ofNat 32 (s.pauseLeft n)
    else if o = Eth.LINK_STATUS then (if s.steers n then setBit v 6 else v) else v
  | .ntm => if o = Ntm.TSQ_LO then BitVec.ofNat 32 s.tsqLo else if o = Ntm.TSQ_HI then BitVec.ofNat 32 s.tsqHi else v
  | .red => if o = Red.DRILL_AGE then BitVec.ofNat 32 s.drillAge else v
  | .evr => if o = Evr.TRIG_DATA then s.trigData else v
  | .fwu =>
    if o = Fwu.MIN_SECVER then BitVec.ofNat 32 s.fwu.minSec
    else if o = Fwu.SLOT_STATUS then BitVec.ofNat 32 s.slotStatus
    else if 0x0C0 ≤ o ∧ o < 0x0D0 then s.knownPeer ((o - 0x0C0) / 4)
    else if 0x05C ≤ o ∧ o < 0x07C then 0
    else v
  | .thm => if o = Thm.UNIT_TEMP then BitVec.ofNat 32 (Tab.get (fun _ => 0x8000) s.thm.unit (s.fld pgTHM Thm.UNIT_SEL (9, 0))) else v
  | _ => v

/-! ### A read (R49, R51, R56, R70) -/

/-- The register is SC (R13, R53). -/
def isSc (i : PageInfo) (off : Nat) : Bool :=
  off == PAGE_STATUS || off == PAGE_FAULT
    || (RegRow.find (i.sub * 0x1000 + off) (i.block.rows i.inst)).any (fun r => decide (0x20 ≤ off) && r.sc)

/-- The register has a shadow (R62). -/
def isShadowed (i : PageInfo) (off : Nat) : Bool :=
  decide (0x20 ≤ off)
    && (RegRow.find (i.sub * 0x1000 + off) (i.block.rows i.inst)).any (fun r =>
      r.cls == .shadowed || (r.cls == .stopOnly && i.block.kind != 0))

/-- The offset of the register that an offset names: its own, or the base of an alias; none beyond (R48, R51). -/
def baseOff (i : PageInfo) (off : Nat) : Option Nat :=
  if off < 0x800 then some off
  else
    let b := off % 0x400
    if isSc i b then some b else none

/-- The live value of a register. -/
def State.view (s : State) (r page off : Nat) : Word :=
  match pageInfo page with
  | none => 0
  | some i =>
    if off = PAGE_CAPS then BitVec.ofNat 32 (s.capsView i page)
    else if off = PAGE_STATUS then s.statusView i page
    else if off = PAGE_COMMIT then BitVec.ofNat 32 (s.commitView page)
    else if off < 0x20 then s.reg page off
    else s.blockView r i (i.sub * 0x1000 + off) (s.reg page off)

/-- What a 32-bit read by requester `r` returns: the shadow of a shadowed register unless READ_LIVE is 1. -/
def State.readValue (s : State) (r page off : Nat) : Word :=
  match pageInfo page with
  | none => 0
  | some i =>
    match baseOff i off with
    | none => 0
    | some o => if isShadowed i o && !s.flag page PAGE_CTRL 3 then s.shd page o else s.view r page o

/-! ### Effects of reads -/

/-- A read of CNT_LO latches the counter's high bits and WRAPS for the requester (R595). -/
def State.cntLatch (s : State) (r n : Nat) : State :=
  let v := if counterUsed n then s.cnt n / 2 ^ 32 + 2 ^ 16 * Tab.get (fun _ => 0) s.pmc.wraps n else 0
  { s with pmc := { s.pmc with hiLatch := Tab.set (fun _ => 0) s.pmc.hiLatch r v } }

/-- A read of HTICK_LO latches HTICK_HI for the requester (R619). -/
def State.htickLatch (s : State) (r : Nat) : State :=
  { s with hth := { s.hth with hiLatch := Tab.set (fun _ => 0) s.hth.hiLatch r (s.htick / 2 ^ 32) } }

/-- TRIG_ADDR adds 1 after an access of TRIG_DATA while INC is 1 (R603): the word behind 8,175 is 0. -/
def State.trigStep (s : State) : State :=
  let v := s.reg pgEVR Evr.TRIG_ADDR
  if bit v 16 then
    (let a := bits v (12, 0)
     s.setReg pgEVR Evr.TRIG_ADDR (putBits v (12, 0) (if a = 8175 then 0 else a + 1)))
  else s

/-- A read clears PENDING_PEAK (R603). -/
def State.clearPeak (s : State) : State := s.setNat pgEVR Evr.PENDING_PEAK 0

/-- T_PEAK becomes T_DIE at its read (R662). -/
def State.clearTPeak (s : State) : State := s.setReg pgTHM Thm.T_PEAK (s.reg pgTHM Thm.T_DIE)

/-- A read of Q_RTAG or Q_RWORD from a requester that is not the queue's reader, or of Q_WDATA or Q_ACTION from one that is
neither its reader nor its writer: dropped, and BAD_ACCESS (R492). The queue's number. -/
def queueReadDenied (q : Requester) (page off : Nat) : Option (Nat × Nat) :=
  match pageInfo page with
  | some ⟨.que, j, _⟩ =>
    let k := (off - 0x100) / 0x40
    match queueSpec j k with
    | none => none
    | some i =>
      if off < 0x100 ∨ 0x200 ≤ off then none
      else if Que.Q_RTAG k ≤ off ∧ off ≤ Que.Q_RWORD k 7 then (if sideOf q i.reader then none else some (j, k))
      else if off = Que.Q_WDATA k ∨ off = Que.Q_ACTION k then
        (if sideOf q i.reader || sideOf q i.writer then none else some (j, k))
      else none
  | _ => none

/-- What a read changes, the value being emitted by the caller. -/
def State.readEffect (s : State) (q : Requester) (page off : Nat) : State :=
  let r := reqCode q
  match pageInfo page with
  | none => s
  | some i =>
    let o := i.sub * 0x1000 + off
    match i.block with
    | .tln => if o = Tln.NOW_S_LO then { s.nowLatch q with out := s.out } else s
    | .hth => if o = Hth.HTICK_LO then s.htickLatch r else s
    | .thm => if o = Thm.T_PEAK then s.clearTPeak else s
    | .icu =>
      let t := (o - 0x400) / 0x20
      if 0x400 ≤ o ∧ o < 0x500 ∧ o = Icu.CLAIM t then { s.claimRead q t with out := s.out } else s
    | .ntm => if o = Ntm.TSQ_HI then { s.tsqRead with out := s.out } else s
    | .red => if o = Red.LAG_MAX then s.setNat pgRED Red.LAG_MAX 0 else s
    | .evr => if o = Evr.TRIG_DATA then s.trigStep else if o = Evr.PENDING_PEAK then s.clearPeak else s
    | .pmc =>
      match cntAt o with
      | some (n, false) => s.cntLatch r n
      | _ => s
    | .que =>
      match queueReadDenied q page off with
      | some (j, k) => s.queueError j k 10
      | none => s
    | _ => s

/-- The value that CLAIM answers to a requester that does not act for its target (R509). -/
def State.readFor (s : State) (q : Requester) (page off : Nat) : Word :=
  let t := (off - 0x400) / 0x20
  if page = pgICU ∧ 0x400 ≤ off ∧ off < 0x500 ∧ off = Icu.CLAIM t ∧ actsFor q t = false then 0x3FF
  else if (queueReadDenied q page off).isSome then 0
  else s.readValue (reqCode q) page off

/-- A read of one register by a requester. -/
def State.readReg (s : State) (q : Requester) (page off : Nat) : Word × State :=
  (s.readFor q page off, if off < 0x800 then s.readEffect q page off else s)

def execTPeakRead (_req : Requester) (s : State) : Host.Outcome State Fault Refusal :=
  done (s.access (fun a => (a.emit (.read (a.reg pgTHM Thm.T_PEAK))).clearTPeak))

def execCntLoRead (req : Requester) (n : Fin 1536) (s : State) : Host.Outcome State Fault Refusal :=
  done (s.access (fun a => (a.emit (.read (BitVec.ofNat 32 (a.cnt n.val % 2 ^ 32)))).cntLatch (reqCode req) n.val))

def execPendingPeakRead (_req : Requester) (s : State) : Host.Outcome State Fault Refusal :=
  done (s.access (fun a => (a.emit (.read (a.reg pgEVR Evr.PENDING_PEAK))).clearPeak))

end Sys2Proof.Machine
end

