-- ==== Sys2Proof/Machine/Recorder.lean ====
section
/-!
DEFINITION. The event recorder and the performance counters (R576 to R607): records, statistics spans, freeze, erase and scan, the
trigger memory, counter writes, and the counter dump.
-/
namespace Sys2Proof.Machine

/-! ### Records (R576 to R581) -/

/-- Device address of Drawer `d` (R576). -/
def drawerAt (d : Nat) : Nat := FERAM_BASE + 0x0C00000 + 512 * (d % 4096)

/-- The PAIR byte (R577). -/
def State.pairByte (s : State) : Nat :=
  s.syncState + 8 * s.sts pgRED Red.S_ROLE + (if s.dev.roleB then 16 else 0)

/-- The 32 bytes of a header, CRC 0 (R578). -/
def State.recordHeader (s : State) (cls : Nat) (time : TimeVal) (code : Nat) : List Byte :=
  leBytes 2 0x4452 ++ leBytes 1 cls ++ leBytes 1 s.pairByte ++ leBytes 4 (s.nat pgEVR Evr.NEXT_SEQ) ++ time.memBytes
    ++ leBytes 2 code ++ leBytes 2 s.evr.dropped ++ leBytes 2 s.evr.lost
    ++ leBytes 1 ((if s.tlState = 4 then 1 else 0) + if s.evr.thawed then 2 else 0) ++ leBytes 1 0 ++ leBytes 4 0

/-- A record with its CRC in place, taken over its first `n` bytes. -/
def sealRecordBytes (n : Nat) (l : List Byte) : List Byte := putAt l 0x1C (leBytes 4 (crc32c (l.take n)).toNat)

/-- The words of a register list up to its end (R583). -/
def State.listWords (s : State) (l : Nat) : List Nat :=
  if l = 255 then []
  else ((List.range 16).map (fun i => (s.trigWord (4096 + 16 * l + i)).toNat)).takeWhile (fun a => a != 0)

/-- Zeros up to a length. -/
def padTo (n : Nat) (l : List Byte) : List Byte := l ++ List.replicate (n - l.length) 0

/-- A snapshot of code `code` from `page`, as the registers are at its beginning (R579). -/
def State.snapshotRecord (s : State) (time : TimeVal) (code page : Nat) : List Byte :=
  let list := bits (s.trigWord code) (15, 8)
  let regs := s.listWords list
  let status := if code = 0x801 then s.nat pgEVR Evr.TORN_FOUND else (s.view 6 page PAGE_STATUS).toNat
  let l := s.recordHeader 1 time code ++ leBytes 2 page ++ leBytes 1 regs.length ++ leBytes 1 list ++ leBytes 4 s.uncert
    ++ leBytes 4 (s.view 6 page PAGE_FAULT).toNat ++ leBytes 4 status
    ++ regs.flatMap (fun a => leBytes 4 a ++ leBytes 4 (s.view 6 (a / 0x1000) (a % 0x1000)).toNat)
  padTo 512 (sealRecordBytes 256 (padTo 256 l))

/-- A quantity block (R580). -/
def quantityBlock (cfg : Word × Word) (q : StatQuantity) : List Byte :=
  if bits cfg.1 (15, 0) = 0 then List.replicate 88 0
  else
    leBytes 2 (bits cfg.1 (15, 0)) ++ leBytes 1 (bits cfg.1 (20, 16)) ++ leBytes 1 (if q.samples = 0 then 1 else 0)
      ++ leBytes 4 cfg.2.toNat ++ leBytes 4 q.samples ++ leBytes 4 (unsign 32 q.lo) ++ leBytes 4 (unsign 32 q.hi)
      ++ leBytes 4 (unsign 32 q.last) ++ q.bins.flatMap (leBytes 2)

/-- A statistics record of group `g` (R580). -/
def State.statRecord (s : State) (time : TimeVal) (g : Nat) (x : StatSpan) : List Byte :=
  let used := (x.cfg.filter (fun (c : Word × Word) => bits c.1 (15, 0) != 0)).length
  let l := s.recordHeader 2 time 0 ++ (timeValOf x.began).memBytes ++ leBytes 1 g ++ leBytes 1 used ++ leBytes 2 0
    ++ (List.range 5).flatMap (fun q => quantityBlock (x.cfg.getD q (0, 0)) (x.qs.getD q StatQuantity.empty))
  sealRecordBytes 512 (padTo 512 l)

/-! ### Statistics spans (R588, R589) -/

/-- Samples of two spans together; the second is the later. -/
def StatQuantity.merge (a b : StatQuantity) : StatQuantity :=
  if b.samples = 0 then a
  else if a.samples = 0 then b
  else
    { samples := min 0xFFFFFFFF (a.samples + b.samples), lo := min a.lo b.lo, hi := max a.hi b.hi, last := b.last
      bins := List.zipWith (fun x y => min 65535 (x + y)) a.bins b.bins }

def StatSpan.merge (a b : StatSpan) : StatSpan := { b with began := a.began, qs := List.zipWith StatQuantity.merge a.qs b.qs }

/-- The entries of group `g` that wait in the pending queue. -/
def State.entriesOf (s : State) (g : Nat) : Nat :=
  ((s.queue 3 3).words.filter (fun w => (leAt w.data 0 4).testBit 22 && leAt w.data 0 4 / 2 ^ 23 % 8 == g)).length

/-- The span of the entry just taken; the spans of entries that a reset of the queue lost carry into it (R589). -/
def State.takeSpan (s : State) (g : Nat) : StatSpan × State :=
  let gr := s.statGroup g
  let n := gr.closed.length - s.entriesOf g
  let mine := gr.closed.take n
  let first : StatSpan := ⟨gr.began, [], List.replicate 5 StatQuantity.empty⟩
  ((mine.drop 1).foldl StatSpan.merge (mine.headD first), s.setStatGroup g { gr with closed := gr.closed.drop n })

/-- The settings of a group. -/
def State.statCfg (s : State) (g : Nat) : List (Word × Word) :=
  (List.range 5).map (fun q => (s.reg pgEVR (Evr.STAT_Q g q), s.reg pgEVR (Evr.STAT_BASE g q)))

/-- Group `g` closes its span under settings `cfg`; while frozen, or when the entry is lost, the samples carry on (R589). -/
def State.closeSpan (s : State) (g : Nat) (cfg : List (Word × Word)) : State :=
  if !s.enabled pgEVR || s.sts pgEVR Evr.S_FROZEN == 1 then s
  else
    let s1 := s.evrPush 0 pgEVR 1 g
    if (s1.queue 3 3).committed ≤ (s.queue 3 3).committed then s1
    else
      let gr := s1.statGroup g
      s1.setStatGroup g { began := s1.tln.now, open_ := List.replicate 5 StatQuantity.empty,
                          closed := gr.closed ++ [⟨gr.began, cfg, gr.open_⟩] }

/-- The frames of every MAC's finished milliseconds are sampled first (kind 6). -/
def State.closeNow (s : State) (g : Nat) (cfg : List (Word × Word)) : State :=
  ((List.range 4).foldl State.macMs s).closeSpan g cfg

/-- A span closes at the next whole multiple of INTERVAL_S seconds. -/
def State.spanClose (s : State) (g : Nat) : State :=
  let step := s.fld pgEVR (Evr.STAT_CTRL g) (27, 16) * SEC * NS
  if !s.flag pgEVR (Evr.STAT_CTRL g) 0 || step == 0 then s
  else s.atTick (tickSpan g) step 0 (fun a => a.closeNow g (a.statCfg g))

def execStatSpanClose (group : Fin 8) (s : State) : Host.Outcome State Fault Refusal := done (s.spanClose group.val)

/-! ### Triggers (R584) -/

def execRecorderTrigger (code : Fin 4096) (page : Fin 1024) (s : State) : Host.Outcome State Fault Refusal :=
  done (if s.aclkRuns then s.trigger code.val page.val else s)

/-- A token is added to the bucket of `code` at the next whole multiple of its period. -/
def State.refill (s : State) (code : Nat) : State :=
  let n := Tab.get (fun _ => 0) s.evr.spent code
  if n = 0 then s
  else
    s.atTick code (2 ^ bits (s.trigWord code) (27, 24) * MS) 0 (fun a =>
      { a with evr := { a.evr with spent := Tab.set (fun _ => 0) a.evr.spent code (Tab.get (fun _ => 0) a.evr.spent code - 1) } })

def execTokenRefill (code : Fin 4096) (s : State) : Host.Outcome State Fault Refusal := done (s.refill code.val)

/-! ### The writing of records (R581, R585) -/

/-- Whether a record may begin. -/
def State.mayRecord (s : State) : Bool :=
  s.aclkRuns && s.enabled pgEVR && s.evr.writing.isNone && !s.evr.freezing && s.sts pgEVR Evr.S_FROZEN == 0
    && s.sts pgEVR Evr.S_SCANNING == 0 && s.sts pgEVR Evr.S_ERASING == 0
    && !((s.pwr.phase == PwrPhase.entering || s.pwr.phase == PwrPhase.released) && s.pwr.recDone)

/-- A record begins: its bytes 4 to 511 are written behind a cleared MAGIC (R581; log entry 64). -/
def State.beginRecord (s : State) (d : Drawer) : State :=
  let s1 := s.setBytes (drawerAt d.seq) (leBytes 4 0 ++ d.data.drop 4)
  { s1 with evr := { s1.evr with writing := some d, dropped := 0, lost := 0, thawed := false } }.setSts pgEVR Evr.S_WRITING 1

/-- The next pending entry becomes a record. -/
def State.nextRecord (s : State) : State :=
  match (s.queue 3 3).head with
  | none => s
  | some w =>
    if !s.mayRecord then s
    else
      let e := leAt w.data 0 8
      let ns := extendStamp (s.tln.now / NS) (e / 2 ^ 32)
      let time : TimeVal := ⟨ns / SEC, ns % SEC, 0⟩
      let seq := s.nat pgEVR Evr.NEXT_SEQ
      let g := e / 2 ^ 23 % 8
      let s1 := s.queuePop 3 3
      if e.testBit 22 then
        (let r := s1.takeSpan g
         r.2.beginRecord ⟨seq, r.2.statRecord time g r.1, 0, some g⟩)
      else s1.beginRecord ⟨seq, s1.snapshotRecord time (e % 4096) (e / 2 ^ 12 % 1024), e % 4096, none⟩

def execRecordBegin (s : State) : Host.Outcome State Fault Refusal := done s.nextRecord

/-- NEXT_SEQ with WR_DRAWER. -/
def State.setNextSeq (s : State) (n : Nat) : State :=
  (s.setNat pgEVR Evr.NEXT_SEQ (n % 2 ^ 32)).setNat pgEVR Evr.WR_DRAWER (n % 4096)

/-- FROZEN changes, with interrupt 353 (R605). -/
def State.setFrozen (s : State) (b : Bool) : State :=
  let s1 := if b then { s with evr := { s.evr with freezing := false, frozenAt := s.tln.now } } else s
  (s1.setSts pgEVR Evr.S_FROZEN (if b then 1 else 0)).irq 353

/-- The cross-reference of a system-level code goes to the partner (R593). -/
def State.crossRef (s : State) (d : Drawer) : State :=
  if s.flag pgEVR Evr.EVR_CTRL 0 && decide (0xE00 ≤ d.code) then
    s.tsxSend 0x31 2 (beBytes 4 d.seq ++ beBytes 2 d.code ++ beBytes 2 0 ++ (TimeVal.ofMem (slice d.data 8 12)).wireBytes)
  else s

/-- MAGIC is written; the record is complete. -/
def State.endRecord (s : State) : State :=
  match s.evr.writing with
  | none => s
  | some d =>
    let s1 := (s.setBytes (drawerAt d.seq) (d.data.take 4)).setNextSeq (d.seq + 1)
    let s2 := ({ s1 with evr := { s1.evr with writing := none } }.setSts pgEVR Evr.S_WRITING 0).inc pgEVR Evr.RECORDS
    let s3 := s2.count 1224 1
    let s4 :=
      match d.group with
      | some g => (s3.inc pgEVR (Evr.STAT_RECORDS g)).irq 355
      | none => (if bit (s3.trigWord d.code) 1 then s3.irq 354 else s3).crossRef d
    if s4.evr.freezing then s4.setFrozen true else s4

def execRecordComplete (s : State) : Host.Outcome State Fault Refusal := done (if s.aclkRuns then s.endRecord else s)

/-! ### Freeze, erase and scan (R590 to R592) -/

def State.freeze (s : State) : State :=
  if s.evr.freezing || s.sts pgEVR Evr.S_FROZEN == 1 then s
  else if s.evr.writing.isSome then { s with evr := { s.evr with freezing := true } }
  else s.setFrozen true

def State.thaw (s : State) : State :=
  if s.evr.freezing then { s with evr := { s.evr with freezing := false } }
  else if s.sts pgEVR Evr.S_FROZEN = 1 then { s with evr := { s.evr with thawed := true } }.setFrozen false
  else s

/-- ERASE, a guarded operation (R591, R688). -/
def State.erase (s : State) : State :=
  if s.dev.presenceLow && s.sts pgEVR Evr.S_FROZEN == 1 then s.setSts pgEVR Evr.S_ERASING 1
  else (s.fault pgEVR Evr.F_GUARD_REFUSED).trigger 0x844 pgEVR

/-- A write of EVR_ACTION. -/
def State.evrAction (s : State) (v : Word) : State :=
  let s1 := if bit v 0 then s.freeze else s
  let s2 := if bit v 1 then s1.thaw else s1
  if bit v 2 then s2.erase else s2

def execFreeze (_req : Requester) (s : State) : Host.Outcome State Fault Refusal := done (s.gate pgEVR State.freeze)
def execThaw (_req : Requester) (s : State) : Host.Outcome State Fault Refusal := done (s.gate pgEVR State.thaw)

/-- PRESENCE_N as it reads in the cycle of a guarded write. -/
def State.presence (s : State) (low : Bool) : State := { s with dev := { s.dev with presenceLow := low } }

def execErase (_req : Requester) (presenceLow : Bool) (s : State) : Host.Outcome State Fault Refusal :=
  done ((s.presence presenceLow).gate pgEVR State.erase)

/-- A freeze ends after FREEZE_LIMIT. -/
def State.freezeExpire (s : State) : State :=
  if s.sts pgEVR Evr.S_FROZEN = 0 then s
  else
    s.atTime (s.evr.frozenAt + s.fld pgEVR Evr.EVR_CTRL (31, 16) * SEC * NS) (fun a =>
      (a.thaw.fault pgEVR Evr.F_FREEZE_EXPIRED).trigger 0x802 pgEVR)

def execFreezeExpire (s : State) : Host.Outcome State Fault Refusal := done s.freezeExpire

/-- The record of an erase waits for the thaw: only it is pushed while frozen (R591; log entry 65). -/
def State.eraseRecord (s : State) : State :=
  let w := s.trigWord 0x803
  let spent := Tab.get (fun _ => 0) s.evr.spent 0x803
  if s.sts pgEVR Evr.S_FROZEN = 0 ∨ s.enabled pgEVR = false ∨ bit w 0 = false ∨ bits w (23, 16) ≤ spent then s.trigger 0x803 pgEVR
  else { s with evr := { s.evr with spent := Tab.set (fun _ => 0) s.evr.spent 0x803 (spent + 1) } }.evrPush 0x803 pgEVR 0 0

/-- Every Drawer reads 0. -/
def State.eraseDone (s : State) : State :=
  if s.sts pgEVR Evr.S_ERASING = 0 then s
  else ((s.zeroBytes (drawerAt 0) 0x200000).setSts pgEVR Evr.S_ERASING 0).eraseRecord

def execEraseDone (s : State) : Host.Outcome State Fault Refusal := done (if s.aclkRuns then s.eraseDone else s)

/-- The Drawer holds a record: MAGIC, a used CLASS, and the CRC over the bytes that its class covers (R581). -/
def drawerValid (l : List Byte) : Bool :=
  let cls := leAt l 2 1
  let n := if cls = 1 then 256 else 512
  leAt l 0 2 == 0x4452 && (cls == 1 || cls == 2) && leAt l 0x1C 4 == (crc32c ((putAt l 0x1C (leBytes 4 0)).take n)).toNat

/-- `a` is later than `b`, modulo 2^32 (R61). -/
def laterSeq (a b : Nat) : Bool :=
  let d := (a + 2 ^ 32 - b) % 2 ^ 32
  decide (1 ≤ d) && decide (d < 2 ^ 31)

/-- The latest valid SEQUENCE and the number of torn Drawers among those numbered below `n`; one of zeros alone is empty. -/
def State.scanRing (s : State) : Nat → Option Nat × Nat
  | 0 => (none, 0)
  | n + 1 =>
    let (last, torn) := s.scanRing n
    let l := s.bytes (drawerAt n) 512
    let q := leAt l 4 4
    if drawerValid l then
      (match last with
      | none => (some q, torn)
      | some x => (some (if laterSeq q x then q else x), torn))
    else if l.all (· == 0) then (last, torn) else (last, torn + 1)

/-- The scan ends (R592). -/
def State.scanEnd (s : State) (last : Option Nat) (torn : Nat) : State :=
  let s1 := (s.setNextSeq ((last.map (· + 1)).getD 0)).setNat pgEVR Evr.TORN_FOUND torn
  let s2 := { s1 with evr := { s1.evr with scanDue := false } }.setSts pgEVR Evr.S_SCANNING 0
  (if torn = 0 then s2 else s2.fault pgEVR Evr.F_TORN).trigger 0x801 pgEVR

def State.scanDone (s : State) : State :=
  if s.sts pgEVR Evr.S_SCANNING = 0 then s else (let r := s.scanRing 4096; s.scanEnd r.1 r.2)

def execRecorderScan (s : State) : Host.Outcome State Fault Refusal := done (if s.aclkRuns then s.scanDone else s)

/-- ENABLE and STOP of EVR; enabling begins a scan that is due. -/
def State.evrCtrl (s : State) (en st : Bool) : State :=
  let s1 := s.setGroupState pgEVR (if !en then 0 else if st then 2 else 1)
  if en && s1.evr.scanDue then s1.setSts pgEVR Evr.S_SCANNING 1 else s1

/-! ### The trigger memory (R583, R603) -/

/-- A list word is 0 or the address of a register on an assigned page. -/
def listWordOk (v : Word) : Bool :=
  let a := v.toNat
  v == 0 || (a % 4 == 0 && match pageInfo (a / 0x1000) with
    | none => false
    | some i =>
      let o := a % 0x1000
      decide (o < 0x1C) || (decide (0x20 ≤ o) && decide (o < 0x800)
        && (RegRow.find (i.sub * 0x1000 + o) (i.block.rows i.inst)).isSome))

/-- A write of TRIG_DATA; a change of TRIG[c] fills its bucket (R584). -/
def State.trigWrite (s : State) (v : Word) : State :=
  let a := s.fld pgEVR Evr.TRIG_ADDR (12, 0)
  if 8176 ≤ a then s.trigStep
  else if 4096 ≤ a ∧ listWordOk v = false then (s.badValue pgEVR).trigStep
  else
    let w := if a < 4096 then v &&& 0x0FFFFF03 else v
    let changed := s.trigWord a != w
    { s with evr := { s.evr with
        trig := Tab.set trigReset s.evr.trig a w
        spent := if changed then Tab.set (fun _ => 0) s.evr.spent a 0 else s.evr.spent } }.trigStep

/-- A read of TRIG_DATA returns the addressed word. -/
def State.trigRead (s : State) : State := (s.emit (.read s.trigData)).trigStep

def execTrigDataAccess (_req : Requester) (write : Option Word) (s : State) : Host.Outcome State Fault Refusal :=
  done (match write with
    | some v => s.gate pgEVR (fun a => a.trigWrite v)
    | none => s.access State.trigRead)

/-! ### Commits of EVR (R589, R603, R604) -/

/-- QUANTITY names a kind that is not used. -/
def quantityBad (v : Word) : Bool := bits v (15, 0) != 0 && (bits v (15, 8) == 0 || decide (10 < bits v (15, 8)))

def State.evrBad (s : State) : List Nat :=
  let get := s.shd pgEVR
  (if rangesBad get [⟨Evr.EVR_CTRL, (31, 16), 1, 3600⟩] then [pgEVR] else [])
    ++ (if (List.range 8).any (fun g =>
        rangesBad get [⟨Evr.STAT_CTRL g, (27, 16), 1, 3600⟩] || (List.range 5).any (fun q => quantityBad (get (Evr.STAT_Q g q))))
      then [pgEVR + 1] else [])

/-- The settings of group `g` differ. -/
def State.statChanged (s old : State) (g : Nat) : Bool :=
  s.reg pgEVR (Evr.STAT_CTRL g) != old.reg pgEVR (Evr.STAT_CTRL g) || s.statCfg g != old.statCfg g

/-- A change of a group's settings closes its span early; a span begins when EN becomes live. -/
def State.statCommit (old s : State) (g : Nat) : State :=
  if !s.statChanged old g then s
  else
    let s1 := if old.flag pgEVR (Evr.STAT_CTRL g) 0 then s.closeSpan g (old.statCfg g) else s
    if s1.flag pgEVR (Evr.STAT_CTRL g) 0 && !old.flag pgEVR (Evr.STAT_CTRL g) 0 then
      (s1.setStatGroup g { s1.statGroup g with began := s1.tln.now, open_ := List.replicate 5 StatQuantity.empty }).ticked
        (tickSpan g)
    else s1

def State.evrCommit (s : State) : State :=
  let s0 := (List.range 4).foldl State.macMs s
  s0.commitPoint pgEVR s0.evrBad (fun a => (List.range 8).foldl (State.statCommit s0) a)

/-! ### Counters (R595 to R597) -/

/-- CNT_HI stages the high bits of the writing requester. -/
def State.cntStage (s : State) (r : Nat) (v : Word) : State :=
  { s with pmc := { s.pmc with hiStage := Tab.set (fun _ => 0) s.pmc.hiStage r (v.toNat % 2 ^ 16) } }

/-- CNT_LO loads the counter. -/
def State.cntLoad (s : State) (r n : Nat) (v : Word) : State :=
  if counterUsed n then
    { s with pmc := { s.pmc with
        cnt := Tab.set (fun _ => 0) s.pmc.cnt n (v.toNat + 2 ^ 32 * Tab.get (fun _ => 0) s.pmc.hiStage r) } }
  else s

def execCntLoWrite (req : Requester) (n : Fin 1536) (value : Word) (s : State) : Host.Outcome State Fault Refusal :=
  done (s.gate pgPMC (fun a => a.cntLoad (reqCode req) n.val value))

def execCntHiWrite (req : Requester) (_n : Fin 1536) (value : Word) (s : State) : Host.Outcome State Fault Refusal :=
  done (s.gate pgPMC (fun a => a.cntStage (reqCode req) value))

/-! ### The counter dump (R598 to R600) -/

def State.dumpBase (s : State) : Nat := s.nat pgPMC Pmc.DUMP_BASE_LO / 4096 * 4096 + 2 ^ 32 * s.fld pgPMC Pmc.DUMP_BASE_HI (7, 0)
def State.dumpSize (s : State) : Nat := s.fld pgPMC Pmc.DUMP_SIZE (19, 0) * 4096
def State.traceBase (s : State) : Nat := s.nat pgPMC Pmc.TRACE_BASE_LO / 4096 * 4096 + 2 ^ 32 * s.fld pgPMC Pmc.TRACE_BASE_HI (7, 0)
def State.traceSize (s : State) : Nat := s.fld pgPMC Pmc.TRACE_SIZE (19, 0) * 4096

/-- The 32 bytes that begin a dump-ring record. -/
def State.dumpHeader (s : State) (kind : Nat) (coasted : Bool) (time first count : Nat) : List Byte :=
  leBytes 2 0x4344 ++ leBytes 1 kind ++ leBytes 1 (if coasted then 1 else 0) ++ leBytes 4 (s.nat pgPMC Pmc.DUMP_SEQ)
    ++ (timeValOf time).memBytes ++ leBytes 2 first ++ leBytes 2 count ++ leBytes 2 (min 65535 s.pmc.skipped) ++ leBytes 6 0

/-- DUMP_WR moves past a record of `n` bytes; its return to the base raises interrupt 358. -/
def State.dumpAdvance (s : State) (n : Nat) : State :=
  let w := s.nat pgPMC Pmc.DUMP_WR + n
  let s1 := { s with pmc := { s.pmc with skipped := 0 } }.inc pgPMC Pmc.DUMP_SEQ
  if w < s.dumpSize then s1.setNat pgPMC Pmc.DUMP_WR w else (s1.setNat pgPMC Pmc.DUMP_WR 0).irq 358

/-- A record of `n` bytes enters the ring; what does not fit before the end goes to the base, behind a PAD record. -/
def State.dumpPut (s : State) (n time : Nat) (f : State → List Byte) : State :=
  let room := s.dumpSize - s.nat pgPMC Pmc.DUMP_WR
  let s1 :=
    if n ≤ room then s
    else
      (s.hwBytes (s.dumpBase + s.nat pgPMC Pmc.DUMP_WR) (s.dumpHeader 3 (s.tlState == 4) time 0 (room / 64))).dumpAdvance room
  (s1.hwBytes (s1.dumpBase + s1.nat pgPMC Pmc.DUMP_WR) (padTo n (f s1))).dumpAdvance n

/-- The GAP record of a cause still to be recorded; without an earlier dump there is no gap. -/
def State.dumpGap (s : State) (t : Nat) : State :=
  let c := s.pmc.gapCause
  let s1 := { s with pmc := { s.pmc with gapCause := 0 } }
  if c = 0 ∨ s.pmc.lastDump = 0 then s1
  else
    let wake := c == 1 || c == 2
    let time := if wake then s.pmc.gapFrom else t
    s1.dumpPut 64 time (fun a =>
      a.dumpHeader 2 (wake || a.tlState == 4) time 0 0 ++ leBytes 8 ((time - s.pmc.lastDump) / NS)
        ++ leBytes 4 (if wake then s.pmc.gapUncert else a.uncert) ++ leBytes 1 c)

/-- ENTRY[i] of a dump. -/
def State.dumpEntry (s : State) (n : Nat) : List Byte :=
  leBytes 8 ((if counterUsed n then s.cnt n else 0) + 2 ^ 48 * Tab.get (fun _ => 0) s.pmc.wraps n
    + 2 ^ 56 * if s.flag pgPMC (Pmc.OVF (n / 32)) (n % 32) then 1 else 0)

def State.dumpSkip (s : State) : State :=
  { s with pmc := { s.pmc with skipped := s.pmc.skipped + 1 } }.inc pgPMC Pmc.DUMP_SKIPS

/-- A dump at instant `t`; one whose predecessor is still being written, or that the ring cannot hold, is skipped (log entry 66). -/
def State.dumpAt (s : State) (t : Nat) (busy : Bool) : State :=
  let first := s.fld pgPMC Pmc.DUMP_RANGE (10, 0)
  let count := s.fld pgPMC Pmc.DUMP_RANGE (26, 16)
  let n := ceilDiv (32 + 8 * count) 64 * 64
  if busy || decide (s.dumpSize < n) then s.dumpSkip
  else
    let s1 := (s.dumpGap t).dumpPut n t (fun a =>
      a.dumpHeader 1 (a.tlState == 4) t first count ++ (List.range count).flatMap (fun i => a.dumpEntry (first + i)))
    { s1 with pmc := { s1.pmc with lastDump := t } }

def State.counterDump (s : State) (busy : Bool) : State :=
  let step := s.fld pgPMC Pmc.DUMP_PERIOD (29, 0) * NS
  if !s.enabled pgPMC || !s.flag pgPMC Pmc.PMC_CTRL 0 || step == 0 then s
  else
    s.atTick tickDump step 0 (fun a => a.dumpAt a.tln.now busy)

def execCounterDump (busy : Bool) (s : State) : Host.Outcome State Fault Refusal := done (s.counterDump busy)

/-! ### Commits of PMC (R606) -/

def State.pmcBad (s : State) : List Nat :=
  let get := s.shd pgPMC
  let base (lo hi : Nat) : Nat := (get lo).toNat / 4096 * 4096 + 2 ^ 32 * bits (get hi) (7, 0)
  let first := bits (get Pmc.DUMP_RANGE) (10, 0)
  let count := bits (get Pmc.DUMP_RANGE) (26, 16)
  if rangesBad get [⟨Pmc.PMC_CTRL, (12, 8), 4, 20⟩, ⟨Pmc.DUMP_PERIOD, (29, 0), 1000, 1000000000⟩]
      || decide (count < 1) || decide (1536 < first + count)
      || spanBad (base Pmc.DUMP_BASE_LO Pmc.DUMP_BASE_HI) (bits (get Pmc.DUMP_SIZE) (19, 0) * 4096)
      || spanBad (base Pmc.TRACE_BASE_LO Pmc.TRACE_BASE_HI) (bits (get Pmc.TRACE_SIZE) (19, 0) * 4096) then [pgPMC] else []

/-- A ring whose place or size changes begins at its base (log entry 66); DUMP_EN off is a gap (R599). -/
def State.pmcCommit (s : State) : State :=
  s.commitPoint pgPMC s.pmcBad (fun a =>
    let a1 := if a.dumpBase = s.dumpBase ∧ a.dumpSize = s.dumpSize then a else a.setNat pgPMC Pmc.DUMP_WR 0
    let a2 := if a.traceBase = s.traceBase ∧ a.traceSize = s.traceSize then a1 else a1.setNat pgPMC Pmc.TRACE_WR 0
    if s.flag pgPMC Pmc.PMC_CTRL 0 && !a2.flag pgPMC Pmc.PMC_CTRL 0 then { a2 with pmc := { a2.pmc with gapCause := 5 } } else a2)

end Sys2Proof.Machine
end

