-- ==== Sys2Proof/Machine/Fwu.lean ====
section
/-!
DEFINITION. Firmware update (R674 to R693): fuses, actions, activation, the copy at start, and the choice of the boot slot.
-/
namespace Sys2Proof.Machine

/-- A guarded operation without PRESENCE_N (R688). -/
def State.guardRefused (s : State) : State := (s.fault pgFWU Fwu.F_GUARD_REFUSED).trigger 0x844 pgFWU

/-! ### Fuses (R674 to R676) -/

/-- KEY_DATA returns to 0 at the end of every FUSE_PROG. -/
def State.clearKeyData (s : State) : State := (List.range 8).foldl (fun a j => a.setReg pgFWU (Fwu.KEY_DATA j) 0) s

/-- The element of FUSE_SEL may not be programmed. -/
def State.fuseTaken (s : State) (slot kind : Nat) : Bool :=
  match kind with
  | 0 => s.keyDone slot || s.keyRevoked slot
  | 1 => s.pubDone slot || s.keyRevoked slot
  | 2 => s.keyRevoked slot
  | _ => true

/-- What FUSE_PROG programs: the 256 bits of a key, most significant byte first (log entry 76), or a digest in its order. -/
def State.fuseBytes (s : State) (kind : Nat) : List Byte :=
  match kind with
  | 0 => [7, 6, 5, 4, 3, 2, 1, 0].flatMap (fun j => beBytes 4 (s.nat pgFWU (Fwu.KEY_DATA j)))
  | 1 => (List.range 12).flatMap (fun j => beBytes 4 (s.nat pgFWU (Fwu.PUB_DATA j)))
  | _ => []

/-- FUSE_PROG: the guard, the seal, then the element. -/
def State.fuseProg (s : State) : State :=
  let slot := s.fld pgFWU Fwu.FUSE_SEL (1, 0)
  let kind := s.fld pgFWU Fwu.FUSE_SEL (5, 4)
  if !s.dev.presenceLow then s.guardRefused.clearKeyData
  else if s.sealOpen then (s.refuseAct 7).clearKeyData
  else if s.fwu.fusing.isSome || s.fuseTaken slot kind then (s.badValue pgFWU).clearKeyData
  else (s.modFwu (fun f => { f with fusing := some (slot, kind), fuseData := s.fuseBytes kind })).setSts pgFWU Fwu.S_FUSE_BUSY 1

/-- Programming completes. -/
def State.fuseDone (s : State) : State :=
  match s.fwu.fusing with
  | none => s
  | some (slot, kind) =>
    let d := s.fwu.fuseData
    let s1 := s.modFwu (fun f =>
      let g := { f with fusing := none, fuseData := [] }
      match kind with
      | 0 => { g with keyDone := Tab.set (fun _ => false) g.keyDone slot true,
                      key := Tab.set (fun n => if n = 0 then Config.factoryKey else []) g.key slot d }
      | 1 => { g with pubDone := Tab.set (fun _ => false) g.pubDone slot true,
                      pub := Tab.set (fun n => if n = 0 then Config.factoryPub else []) g.pub slot d }
      | _ => { g with revoked := Tab.set (fun _ => false) g.revoked slot true })
    (s1.clearKeyData.setSts pgFWU Fwu.S_FUSE_BUSY 0).irq 51

/-! ### Activation (R680 to R683) -/

/-- ACT_STATE, with interrupt 50. -/
def State.setAct (s : State) (n : Nat) : State := if s.actState = n then s else (s.setSts pgFWU Fwu.S_ACT_STATE n).irq 50

/-- Every record that waits is written, one after another (log entry 73). -/
def State.writeRecords (s : State) : State := ((List.range 65).foldl (fun a _ => a.endRecord.nextRecord) s).endRecord

/-- One of the two cases of R681 holds. -/
def State.mustDefer (s : State) : Bool :=
  (s.flag pgFWU Fwu.FWU_CTRL 0 && s.tlState != 2 && s.tlState != 3) || (s.flag pgFWU Fwu.FWU_CTRL 1 && s.stileHeld)

/-- ACT_TIME is reached. -/
def State.actReached (s : State) : State :=
  if s.mustDefer then s.setAct 2
  else ((((s.journalPut 2).setAct 3).trigger 0x841 pgFWU).writeRecords).dieReset 0x40

/-- ACT_TIME of the registers. -/
def State.actTime (s : State) : TimeVal :=
  ⟨s.nat pgFWU Fwu.ACT_S_LO + 2 ^ 32 * s.fld pgFWU Fwu.ACT_S_HI (15, 0), s.fld pgFWU Fwu.ACT_NS (29, 0), 0⟩

/-- ACTIVATE. -/
def State.activate (s : State) : State :=
  let mode := s.fld pgFWU Fwu.FWU_CTRL (5, 4)
  if s.sealOpen then s.refuseAct 7
  else if s.actState ≠ 0 ∨ s.fwu.golden = true then s.refuseAct 10
  else if s.stageState ≠ 2 then s.refuseAct 0
  else if s.sysState = 3 ∧ mode ≠ 2 then s.refuseAct 0
  else if mode = 1 then (s.journalPut 2).setAct 3
  else if mode = 2 then ((s.journalWrite 1 0 (timeValOf s.tln.now).memBytes).setAct 1).actReached
  else if SEC ≤ s.actTime.ns then s.badValue pgFWU
  else (s.journalWrite 1 0 s.actTime.memBytes).setAct 1

/-- CANCEL. -/
def State.fwuCancel (s : State) : State :=
  let s1 := s.stageAbort
  if s.actState = 1 ∨ s.actState = 2 then (s1.journalPut 0).setAct 0 else s1

/-- The timeline reaches the ACT_TIME of the journal. -/
def State.actTimeCome (s : State) : State :=
  if s.actState = 1 ∧ s.aclkRuns = true then s.atTime s.journalTime State.actReached else s

/-- Neither case of R681 holds any longer. -/
def State.actRelease (s : State) : State := if s.actState = 2 ∧ s.aclkRuns = true then s.actReached else s

/-! ### The Golden write (R689) -/

/-- Copies the Shelf image from block `next` on, and then its head, into slot `n`. -/
def State.copySlot (s : State) (n next : Nat) : State :=
  let len := imageLength (s.imageHeader (slotBase 2))
  let from_ := HEAD_SIZE + BLOCK_SIZE * next
  (s.setBytes (slotBase n + from_) (s.bytes (slotBase 2 + from_) (len - from_))).setBytes (slotBase n)
    (s.bytes (slotBase 2) 0x4F80 ++ List.replicate 0x80 0)

/-- COPY_PROGRESS. -/
def State.copyProgress (s : State) (next : Nat) : State :=
  s.setNat pgFWU Fwu.COPY_PROGRESS (next % 1024 + 2 ^ 16 * (imageBlocks (s.imageHeader (slotBase 2)) % 1024))

/-- GOLDEN_WRITE: the guard, the seal, BUSY, then the Shelf. -/
def State.goldenWrite (s : State) : State :=
  if !s.dev.presenceLow then s.guardRefused
  else if s.sealOpen then s.refuseAct 7
  else if s.fwu.golden || s.actState != 0 || s.stageState == 1 || (s.imageFault (slotBase 1)).isSome then s.refuseAct 10
  else if s.stageState ≠ 2 then s.refuseAct 0
  else (((s.setMem (slotBase 0) 4 0).journalPut 4).copyProgress 0).modFwu (fun f => { f with golden := true })

/-- The copy into the Golden slot completes. -/
def State.goldenDone (s : State) : State :=
  let n := imageBlocks (s.imageHeader (slotBase 2))
  ((((s.copySlot 0 s.journalNext).copyProgress n).journalPut 0).modFwu (fun f => { f with golden := false })).trigger 0x842 pgFWU

/-! ### PARTNER_ACCEPT (R693) -/

def State.partnerAccept (s : State) : State :=
  let t := (List.range 4).foldl (fun (a : Tab Word) j => Tab.set (fun _ => 0) a j (s.reg pgRED (Red.PEER_ID0 + 4 * j))) s.fwu.known
  s.modFwu (fun f => { f with known := t })

/-! ### FWU_ACTION (R694) -/

/-- A write of FWU_ACTION: one bit, or BAD_VALUE; 0 does nothing. -/
def State.fwuAction (s : State) (v : Word) : State :=
  let a := bits v (6, 0)
  if a = 0 then s
  else if a = 1 then s.stageBegin false
  else if a = 2 then s.activate
  else if a = 4 then s.fwuCancel
  else if a = 8 then s.sendPeer
  else if a = 16 then s.goldenWrite
  else if a = 32 then s.fuseProg
  else if a = 64 then s.partnerAccept
  else s.badValue pgFWU

def execStage (_req : Requester) (s : State) : Host.Outcome State Fault Refusal :=
  done (s.gate pgFWU (fun a => a.stageBegin false))
def execStageDone (s : State) : Host.Outcome State Fault Refusal := done (if s.aclkRuns then s.stageDone else s)
def execActivate (_req : Requester) (s : State) : Host.Outcome State Fault Refusal := done (s.gate pgFWU State.activate)
def execFwuCancel (_req : Requester) (s : State) : Host.Outcome State Fault Refusal := done (s.gate pgFWU State.fwuCancel)
def execSendPeer (_req : Requester) (s : State) : Host.Outcome State Fault Refusal := done (s.gate pgFWU State.sendPeer)
def execGoldenWrite (_req : Requester) (presenceLow : Bool) (s : State) : Host.Outcome State Fault Refusal :=
  done ((s.presence presenceLow).gate pgFWU State.goldenWrite)
def execGoldenWriteDone (s : State) : Host.Outcome State Fault Refusal :=
  done (if s.aclkRuns && s.fwu.golden then s.goldenDone else s)
def execFuseProg (_req : Requester) (presenceLow : Bool) (s : State) : Host.Outcome State Fault Refusal :=
  done ((s.presence presenceLow).gate pgFWU State.fuseProg)
def execFuseDone (s : State) : Host.Outcome State Fault Refusal := done (if s.aclkRuns then s.fuseDone else s)
def execPartnerAccept (_req : Requester) (s : State) : Host.Outcome State Fault Refusal :=
  done (s.gate pgFWU State.partnerAccept)
def execActTimeReached (s : State) : Host.Outcome State Fault Refusal := done s.actTimeCome
def execActDeferredRelease (s : State) : Host.Outcome State Fault Refusal := done s.actRelease

/-! ### The copy at start (R685, R686) -/

/-- MIN_SECVER rises to the SECVER of a copied image with RAISE_SECVER (R676). -/
def State.raiseSecver (s : State) (h : List Byte) : State :=
  if (imageFlags h).testBit 1 then s.modFwu (fun f => { f with minSec := min 64 (max f.minSec (imageSecver h)) }) else s

/-- The copy fails: the journal IDLE, COPY_FAIL. -/
def State.copyFailed (s : State) : State := (s.journalPut 0).fault pgFWU Fwu.F_COPY_FAIL

/-- Step 4's copy into the Active slot; whether it failed. It does not stop between blocks (log entry 74). -/
def State.startCopy (s : State) : Bool × State :=
  let phase := s.journalPhase
  if phase = 4 then (false, s.goldenDone)
  else if phase ≠ 2 ∧ phase ≠ 3 then (false, s)
  else
    match s.imageFault (slotBase 2) with
    | some _ => (true, s.copyFailed)
    | none =>
      let h := s.imageHeader (slotBase 2)
      let next := if phase = 2 then 0 else s.journalNext
      let s1 := if phase = 2 then (s.setMem (slotBase 1) 4 0).journalWrite 3 0 [] else s
      let s2 := ((s1.copySlot 1 next).copyProgress (imageBlocks h)).journalWrite 3 (imageBlocks h) []
      if !s2.signatureOk (slotBase 1) (s2.imageHeader (slotBase 1)) then (true, s2.copyFailed)
      else (false, (((s2.journalPut 0).trigger 0x842 pgFWU).raiseSecver h))

/-! ### The boot slot (R687) -/

/-- BOOT_SLOT: 0 GOLDEN, 1 ACTIVE, 2 NONE. -/
def State.bootSlot (s : State) : Nat := s.sts pgFWU Fwu.S_BOOT_SLOT

/-- The slot to boot, by the first row of R687 that holds (log entry 75). -/
def State.bootSelect (s : State) (failed : Bool) : State :=
  if s.journalPhase = 0 ∧ failed = false ∧ s.imageFault (slotBase 1) = none then s.setSts pgFWU Fwu.S_BOOT_SLOT 1
  else if s.imageFault (slotBase 0) = none then
    let s1 := s.setSts pgFWU Fwu.S_BOOT_SLOT 0
    (if failed then s1 else s1.fault pgFWU Fwu.F_BOOT_FALLBACK).trigger 0x843 pgFWU
  else s.setSts pgFWU Fwu.S_BOOT_SLOT 2

/-- The header of the booted image. -/
def State.bootHeader (s : State) : List Byte := s.imageHeader (slotBase s.bootSlot)

/-- The bytes of a block; where it does not open, none. -/
def State.plainBytes (s : State) (h : List Byte) (i : Nat) : List Byte := ((s.imagePlain (slotBase s.bootSlot) h i).getD []).take (blockBytes h i)

/-- The configuration part of the booted image (R673): addresses and values in order. -/
def State.configPart (s : State) : List (Nat × Word) :=
  let h := s.bootHeader
  let l := (List.range (cfgBlocks h)).flatMap (fun i => s.plainBytes h (fwBlocks h + i))
  (List.range (cfgBytes h / 12)).map (fun i => (leAt l (12 * i) 4, BitVec.ofNat 32 (leAt l (12 * i + 4) 4)))

/-- An armed activation is re-armed once firmware runs, and acts at once when ACT_TIME has passed (R682). -/
def State.rearm (s : State) : State :=
  if s.journalPhase ≠ 1 then s
  else
    let s1 := s.setAct 1
    if s1.journalTime ≤ s1.tln.now then s1.actReached else s1

end Sys2Proof.Machine
end

