-- ==== Sys2Proof/Machine/Cal.lean ====
section
/-!
DEFINITION. Ageing and calibration (R646 to R661, R665 to R667): margins and VCORE steps, redundant elements, the runs against
the references, overrides, and the calibration history.
-/
namespace Sys2Proof.Machine

def State.modCal (s : State) (f : CalState → CalState) : State := { s with cal := f s.cal }

/-- A fault bit that a condition found at every measurement sets: it is set, with its code, while it reads 0 (log entry 70). -/
def State.calFault (s : State) (n : Nat) (code : Option Nat) : State :=
  if s.flag pgCAL PAGE_FAULT n then s
  else match code with
    | some c => (s.fault pgCAL n).trigger c pgCAL
    | none => s.fault pgCAL n

/-! ### The history (R660, R661) -/

/-- Device address of the history record with number `n`. -/
def historyAt (n : Nat) : Nat := FERAM_BASE + 0x0E00000 + 256 * (n % 4096)

def State.chainOf (s : State) (i : Nat) : Nat := Tab.get (fun _ => 0) s.cal.chain i
def State.pairOf (s : State) (c : Nat) : Nat := Tab.get (fun _ => 0) s.cal.pair c

/-- A number of fields of `w` bits, the first in the lowest bits. -/
def packFields (w : Nat) (f : Nat → Nat) : Nat → Nat
  | 0 => 0
  | n + 1 => packFields w f n + f n % 2 ^ w * 2 ^ (w * n)

/-- A record of the complete calibration state, CRC 0. -/
def State.historyBody (s : State) (kind : Nat) : List Byte :=
  let b (x : Bool) : Nat := if x then 1 else 0
  let g := s.nat pgCAL
  let forced (e : Nat) : Nat := b (Tab.get (fun _ => false) s.cal.forced e)
  let excl (i : Nat) : Nat := b (Tab.get (fun _ => false) s.cal.excluded i)
  leBytes 2 0x4843 ++ leBytes 1 1 ++ leBytes 1 kind ++ leBytes 4 s.cal.nextSeq ++ leBytes 4 (g Cal.CAL_COUNT)
    ++ (timeValOf s.tln.now).memBytes ++ leBytes 1 s.cal.src ++ leBytes 1 (b (s.cal.forced.any (fun (e : Nat × Bool) => e.2)))
    ++ leBytes 2 (g Cal.VCORE_SET) ++ leBytes 4 (g Cal.XTAL_ERR) ++ leBytes 4 (g Cal.XTAL_UNC) ++ leBytes 4 (g Cal.XT32_ERR)
    ++ leBytes 4 (g Cal.XT32_UNC) ++ leBytes 4 (g Cal.MARGIN) ++ leBytes 1 (g Cal.MARGIN_CORE) ++ leBytes 3 0
    ++ leBytes 32 (packFields 2 s.chainOf 128) ++ leBytes 14 (packFields 3 s.pairOf 36) ++ leBytes 2 (packFields 1 excl 15)
    ++ (List.range 36).flatMap (fun c => leBytes 1 (Tab.get (fun _ => 0) s.cal.off c)
      ++ leBytes 2 (Tab.get (fun _ => vrefInit) s.cal.vref c))
    ++ leBytes 23 (packFields 1 forced 179) ++ leBytes 21 0 ++ leBytes 4 0

/-- A history record of a kind: 1 TIME, 2 ANALOG, 3 RESELECT, 4 AVS, 5 OVERRIDE. -/
def State.writeHistory (s : State) (kind : Nat) : State :=
  let l := s.historyBody kind
  (s.setBytes (historyAt s.cal.nextSeq) (putAt l 0xFC (leBytes 4 (crc32c l).toNat))).modCal (fun c =>
    { c with nextSeq := (c.nextSeq + 1) % 2 ^ 32 })

def historyValid (l : List Byte) : Bool :=
  leAt l 0 2 == 0x4843 && leAt l 2 1 == 1 && decide (1 ≤ leAt l 3 1) && decide (leAt l 3 1 ≤ 5)
    && leAt l 0xFC 4 == (crc32c (putAt l 0xFC (leBytes 4 0))).toNat

/-- The newest valid record among those numbered below `n` in the ring. -/
def State.newestHistory (s : State) : Nat → Option (List Byte)
  | 0 => none
  | n + 1 =>
    let l := s.bytes (historyAt n) 256
    match s.newestHistory n with
    | none => if historyValid l then some l else none
    | some x =>
      let d := (leAt l 4 4 + 2 ^ 32 - leAt x 4 4) % 2 ^ 32
      if historyValid l ∧ 1 ≤ d ∧ d < 2 ^ 31 then some l else some x

/-- Field `i` of `w` bits in `bytes` bytes at `o`. -/
def unpackField (l : List Byte) (o bytes w i : Nat) : Nat := leAt l o bytes / 2 ^ (w * i) % 2 ^ w

/-- A table of `n` fields. -/
def unpackTab (l : List Byte) (o bytes w n : Nat) : Tab Nat :=
  (List.range n).foldl (fun (t : Tab Nat) i => Tab.set (fun _ => 0) t i (unpackField l o bytes w i)) []

def bitTab (l : List Byte) (o bytes n : Nat) : Tab Bool :=
  (List.range n).foldl (fun (t : Tab Bool) i => Tab.set (fun _ => false) t i (unpackField l o bytes 1 i == 1)) []

/-- VCORE_SET and AT_VMAX. -/
def State.setVcore (s : State) (mv : Nat) : State :=
  let s1 := s.setNat pgCAL Cal.VCORE_SET mv
  s1.setSts pgCAL Cal.S_AT_VMAX (if mv = s1.fld pgCAL Cal.VCORE_LIMITS (25, 16) then 1 else 0)

/-- VCORE is requested; the request has not settled. -/
def State.askVcore (s : State) (mv : Nat) : State :=
  ((s.setVcore mv).modCal (fun c => { c with avsAsked := some s.tln.now })).setSts pgCAL Cal.S_AVS_BUSY 1

/-- Every register and selection that a record holds. -/
def State.loadHistory (s : State) (l : List Byte) : State :=
  let s1 := (((s.setNat pgCAL Cal.CAL_COUNT (leAt l 8 4)).setNat pgCAL Cal.XTAL_ERR (leAt l 0x1C 4)).setNat pgCAL Cal.XTAL_UNC
    (leAt l 0x20 4)).setNat pgCAL Cal.XT32_ERR (leAt l 0x24 4)
  let s2 := ((s1.setNat pgCAL Cal.XT32_UNC (leAt l 0x28 4)).setNat pgCAL Cal.MARGIN (leAt l 0x2C 4)).setNat pgCAL Cal.MARGIN_CORE
    (leAt l 0x30 1)
  s2.modCal (fun c => { c with
    chain := unpackTab l 0x34 32 2 128
    pair := unpackTab l 0x54 14 3 36
    excluded := bitTab l 0x62 2 15
    off := (List.range 36).foldl (fun (t : Tab Nat) i => Tab.set (fun _ => 0) t i (leAt l (0x64 + 3 * i) 1)) []
    vref := (List.range 36).foldl (fun (t : Tab Nat) i => Tab.set (fun _ => vrefInit) t i (leAt l (0x65 + 3 * i) 2)) []
    forced := bitTab l 0xD0 23 179
    src := leAt l 0x18 1
    nextSeq := (leAt l 4 4 + 1) % 2 ^ 32 })

/-- VMIN and VMAX clamp a request. -/
def State.clampVcore (s : State) (mv : Nat) : Nat :=
  max (s.fld pgCAL Cal.VCORE_LIMITS (9, 0)) (min (s.fld pgCAL Cal.VCORE_LIMITS (25, 16)) mv)

/-- The scan at each start, and the request of VCORE_PLAN (R651, R661). -/
def State.calLoad (s : State) (newest : Option (List Byte)) : State :=
  match newest with
  | none => (s.setNat pgCAL Cal.CAL_COUNT 0).fault pgCAL Cal.F_HISTORY_BAD
  | some l =>
    let s1 := s.loadHistory l
    s1.askVcore (s1.clampVcore (leAt l 0x1A 2))

def State.calScan (s : State) : State := s.calLoad (s.newestHistory 4096)

/-! ### Completed runs (R657, R658) -/

/-- CAL_COUNT and CAL_LAST. -/
def State.calCounted (s : State) : State :=
  let v := timeValOf s.tln.now
  (((s.inc pgCAL Cal.CAL_COUNT).setNat pgCAL Cal.CAL_LAST_S_LO (v.s % 2 ^ 32)).setNat pgCAL Cal.CAL_LAST_S_HI (v.s / 2 ^ 32)).setNat
    pgCAL Cal.CAL_LAST_NS v.ns

def State.runDone (s : State) (kind : Nat) : State :=
  ((((s.modCal (fun c => { c with run := none, analog := false })).setSts pgCAL Cal.S_CAL_BUSY 0).calCounted).trigger 0x830
    pgCAL |>.writeHistory kind).irq 41

/-- A run ends without a result. -/
def State.runEnds (s : State) : State :=
  (s.modCal (fun c => { c with run := none, analog := false })).setSts pgCAL Cal.S_CAL_BUSY 0

def State.calRunning (s : State) : Bool := s.cal.run.isSome || s.cal.analog

/-- Rounds a rational half to even. -/
def rheRat (q : Rat) : Int := rhe q.num q.den

/-- The resident firmware loads INCR_FREE; the first load after an island reset sets TK_VALID (R629, R658; log entry 71). -/
def State.loadIncrFree (s : State) : State :=
  let err := signed 32 (s.nat pgCAL Cal.XTAL_ERR)
  let v := (rheRat ((112589990684262 : Rat) / (1 + (err : Rat) / 1000000000))).toNat
  let s1 := ((s.setBoth pgTLN Tln.INCR_FREE_LO (BitVec.ofNat 32 (v % 2 ^ 32))).setBoth pgTLN Tln.INCR_FREE_HI
    (BitVec.ofNat 32 (v / 2 ^ 32))).retune
  if s1.hth.loaded then s1 else { s1 with hth := { s1.hth with loaded := true } }.setSts pgHTH Hth.S_TK_VALID 1

/-! ### Time runs (R656, R657) -/

/-- The reference of CAL_SRC is present. -/
def State.refPresent (s : State) (src : Nat) : Bool :=
  match src with
  | 0 => s.synValid 6
  | 1 => s.synValid 4
  | 2 => s.tlState == 2 && s.tlSrc == 1
  | _ => false

def State.runTime (s : State) : State :=
  let src := s.fld pgCAL Cal.CAL_CTRL (1, 0)
  if s.calRunning then s
  else if !s.refPresent src then s.fault pgCAL Cal.F_NO_REF
  else
    (s.modCal (fun c => { c with run := some ⟨src, s.fld pgCAL Cal.WINDOW_S (9, 0), s.tln.now⟩ })).setSts pgCAL Cal.S_CAL_BUSY 1

def execRunTime (_req : Requester) (s : State) : Host.Outcome State Fault Refusal := done (s.gate pgCAL State.runTime)

/-- The errors of both crystals: `nt` TCLK cycles between the captures, and the XT32 window in TCLK cycles, both in 1/8
cycle. -/
def crystalErrors (w nt d : Nat) : Int × Int × Rat :=
  let xtal := rheRat (((nt : Rat) / 8 / (2500000000 * (w : Rat)) - 1) * 1000000000)
  let dur := (d : Rat) / 8 * 2 / 5 / (1 + (xtal : Rat) / 1000000000)
  (xtal, rheRat ((((w : Rat) - 1) * 1000000000 / dur - 1) * 1000000000), dur)

/-- A time run's window closes. -/
def State.windowEnd (s : State) (nt d : Nat) : State :=
  match s.cal.run with
  | none => s
  | some r =>
    let (xtal, xt32, dur) := crystalErrors r.secs nt d
    if 100000 < xtal.natAbs then s.runEnds.fault pgCAL Cal.F_REF_RANGE
    else
      let unc := ((s.fld pgCAL Cal.CAL_REF_UNC (15, 0) : Rat) + 1 / (5 * (r.secs : Rat))).ceil
      let unc32 := ((unc : Rat) + 100 * 1000000000 / dur + (s.nat pgCAL Cal.XT32_MARGIN : Rat)).ceil
      let s1 := (s.setNat pgCAL Cal.XTAL_ERR (unsign 32 xtal)).setNat pgCAL Cal.XTAL_UNC (satUnc unc.toNat)
      let s2 := (s1.setNat pgCAL Cal.XT32_ERR (unsign 32 (satSigned 32 xt32))).setNat pgCAL Cal.XT32_UNC (satUnc unc32.toNat)
      ((s2.modCal (fun c => { c with src := r.src })).runDone 1).loadIncrFree

def execCalWindowEnd (nt d : Nat) (s : State) : Host.Outcome State Fault Refusal :=
  done (if s.aclkRuns then s.windowEnd nt d else s)

def execCalAbort (_req : Requester) (s : State) : Host.Outcome State Fault Refusal := done (s.gate pgCAL State.runEnds)

/-! ### Analog runs (R653, R659) -/

def State.runAnalog (s : State) : State :=
  if s.calRunning then s else (s.modCal (fun c => { c with analog := true, analogAt := s.tln.now })).setSts pgCAL Cal.S_CAL_BUSY 2

/-- The run of each whole multiple of 86,400 s. -/
def State.dailyAnalog (s : State) : State :=
  if !s.flag pgCAL Cal.CAL_CTRL 3 then s
  else s.atTick tickAnalog (86400 * SEC * NS) 0 State.runAnalog

def execRunAnalog (req : Option Requester) (s : State) : Host.Outcome State Fault Refusal :=
  done (if req.isSome then s.gate pgCAL State.runAnalog else s.dailyAnalog)

/-- A reselection counts, is recorded and written to the history (R654). -/
def State.reselected (s : State) : State :=
  (((s.inc pgCAL Cal.RESELECTS).trigger 0x822 pgCAL).writeHistory 3).irq 43

/-- |off| + |vref - 4000|. -/
def pairScore (e : Int × Nat) : Nat := e.1.natAbs + ((e.2 : Int) - 4000).natAbs

/-- The place of the smallest value, the first on a tie. -/
def leastAt (l : List Nat) : Nat := (List.range l.length).foldl (fun b i => if l.getD i 0 < l.getD b 0 then i else b) 0

/-- Channel `c` takes its pair of an analog run; a forced pair stays, with its own correction. -/
def State.analogChannel (s : State) (codes : List (List (Int × Nat))) (c : Nat) : State :=
  let l := codes.getD c []
  let was := s.pairOf c
  let forced := Tab.get (fun _ => false) s.cal.forced (128 + c)
  let p := if forced then was else leastAt (l.map pairScore)
  let e := l.getD p (0, vrefInit)
  if e.2 < 3950 ∨ 4050 < e.2 then s.fault pgCAL Cal.F_VREF_OUT
  else
    let off := unsign 8 (satSigned 8 e.1)
    let s1 := s.modCal (fun x => { x with pair := Tab.set (fun _ => 0) x.pair c p, off := Tab.set (fun _ => 0) x.off c off,
                                          vref := Tab.set (fun _ => vrefInit) x.vref c e.2 })
    let s2 := s1.setNat pgCAL Cal.VREF_CODE (e.2 + 2 ^ 16 * unsign 12 (signed 8 off))
    if p = was then s2 else s2.reselected

def State.analogDone (s : State) (codes : List (List (Int × Nat))) : State :=
  if !s.cal.analog then s else ((List.range 36).foldl (fun a c => a.analogChannel codes c) s).runDone 2

def execAnalogRunDone (codes : List (List (Int × Nat))) (s : State) : Host.Outcome State Fault Refusal :=
  done (if s.aclkRuns then s.analogDone codes else s)

/-! ### Interpolator chains (R652) -/

/-- The chains of interpolator `i` are measured: their largest phase errors in ps. -/
def State.chainMeasure (s : State) (i : Nat) (errs : List Nat) : State :=
  let c := s.chainOf i
  let e (k : Nat) : Nat := errs.getD k 0
  let b := leastAt ((List.range 4).map e)
  let take := s.modCal (fun x => { x with chain := Tab.set (fun _ => 0) x.chain i b })
  if !s.flag pgCAL Cal.CAL_CTRL 2 then s
  else
    let s1 := if 30 < e b then s.calFault Cal.F_ELEMENT_EXHAUSTED none else s
    if Tab.get (fun _ => false) s.cal.forced i then s1
    else if 30 < e b then (if b = c then s1 else { s1 with cal := take.cal }.reselected)
    else if 30 < e c ∧ e b ≤ 15 then take.reselected
    else s1

def execChainMeasure (i : Fin 128) (errs : List Nat) (s : State) : Host.Outcome State Fault Refusal :=
  done (if s.aclkRuns then s.chainMeasure i.val errs else s)

/-! ### Overrides (R655) -/

/-- INDEX and CANDIDATE lie in the range of KIND. -/
def overrideOk (kind index cand : Nat) : Bool :=
  match kind with
  | 0 => decide (index ≤ 127) && decide (cand ≤ 3)
  | 1 => decide (index ≤ 35)
  | 2 => decide (index ≤ 14) && decide (cand ≤ 1)
  | _ => true

/-- The number of an element in FORCED (R660). -/
def elementOf (kind index : Nat) : Nat := [index, 128 + index, 164 + index].getD kind 0

def State.override (s : State) (kind index cand : Nat) (auto : Bool) : State :=
  let v := s.reg pgCAL Cal.OVR_VALUE
  let unc := s.fld pgCAL Cal.CAL_REF_UNC (15, 0)
  if kind = 3 then (s.setReg pgCAL Cal.XTAL_ERR v).setNat pgCAL Cal.XTAL_UNC unc
  else if kind = 4 then (s.setReg pgCAL Cal.XT32_ERR v).setNat pgCAL Cal.XT32_UNC unc
  else
    let s1 := s.modCal (fun c => { c with forced := Tab.set (fun _ => false) c.forced (elementOf kind index) (!auto) })
    if auto then s1
    else s1.modCal (fun c =>
      match kind with
      | 0 => { c with chain := Tab.set (fun _ => 0) c.chain index cand }
      | 1 => { c with pair := Tab.set (fun _ => 0) c.pair index cand }
      | _ => { c with excluded := Tab.set (fun _ => false) c.excluded index (cand == 1) })

/-- OVR_WRITE, a guarded operation. -/
def State.ovrWrite (s : State) : State :=
  let w := s.reg pgCAL Cal.OVR_SEL
  let kind := bits w (2, 0)
  if !s.dev.presenceLow then (s.fault pgCAL Cal.F_GUARD_REFUSED).trigger 0x844 pgCAL
  else if !overrideOk kind (bits w (14, 8)) (bits w (18, 16)) then s.badValue pgCAL
  else ((s.override kind (bits w (14, 8)) (bits w (18, 16)) (bit w 19)).calCounted.trigger 0x831 pgCAL).writeHistory 5

def execOvrWrite (_req : Requester) (presenceLow : Bool) (s : State) : Host.Outcome State Fault Refusal :=
  done ({ s with dev := { s.dev with presenceLow := presenceLow } }.gate pgCAL State.ovrWrite)

/-- A write of CAL_ACTION: beside ABORT no run begins. -/
def State.calAction (s : State) (v : Word) : State :=
  let s1 := if bit v 2 then s.runEnds
    else
      let a := if bit v 0 then s.runTime else s
      if bit v 1 then a.runAnalog else a
  if bit v 3 then s1.ovrWrite else s1

/-! ### Margins and VCORE (R646 to R650) -/

def State.marginAt (s : State) (a : Nat) : Nat :=
  if a = 4 then s.fld pgCAL Cal.MARGIN_CORE (7, 0) else s.fld pgCAL Cal.MARGIN (8 * a + 7, 8 * a)
def State.marginLow (s : State) : Nat := s.fld pgCAL Cal.MARGIN_CFG (7, 0)
def State.marginHigh (s : State) : Nat := s.fld pgCAL Cal.MARGIN_CFG (15, 8)
def State.downHold (s : State) : Nat := s.fld pgCAL Cal.MARGIN_CFG (31, 16) * SEC * NS
def State.atVmax (s : State) : Bool := s.fld pgCAL Cal.VCORE_SET (9, 0) == s.fld pgCAL Cal.VCORE_LIMITS (25, 16)

/-- PLU `i` takes or ends its wait cycle (R648). -/
def State.pluWait (s : State) (i slack : Nat) : State :=
  let was := s.flag pgCAL Cal.PLU_WAIT i
  let b := if slack < s.marginLow then true else if s.marginLow + 10 < slack then false else was
  if b = was then s else (s.setFlag pgCAL Cal.PLU_WAIT i b).setFlag (pgPLU i) PAGE_STATUS 17 b

/-- A step of VCORE counts, is recorded and written to the history. -/
def State.avsStep (s : State) (mv : Nat) : State :=
  (((s.askVcore mv).inc pgCAL Cal.AVS_STEPS).trigger 0x820 pgCAL).writeHistory 4

/-- Since when a condition has held without a break. -/
def sinceWhen (was : Option Nat) (now : Nat) (holds : Bool) : Option Nat :=
  if !holds then none else match was with | none => some now | some t => some t

def heldFor (since : Option Nat) (now span : Nat) : Bool := since.any (fun t => decide (t + span ≤ now))

/-- The re-planning of margins (R647). -/
def State.replan (s : State) : State :=
  let now := s.tln.now
  let set := s.fld pgCAL Cal.VCORE_SET (9, 0)
  let step := s.fld pgCAL Cal.AVS_CFG (23, 16)
  let areas := (List.range 5).map s.marginAt
  let s1 := s.modCal (fun c => { c with above := sinceWhen c.above now (areas.all (fun m => decide (s.marginHigh < m))) })
  if !s.flag pgCAL Cal.AVS_CFG 1 || s.cal.avsStopped || s.cal.avsAsked.isSome then s1
  else if areas.any (fun m => decide (m < s.marginLow)) && decide (set < s.fld pgCAL Cal.VCORE_LIMITS (25, 16)) then
    s1.avsStep (s.clampVcore (set + step))
  else if heldFor s1.cal.above now s.downHold && decide (s.fld pgCAL Cal.VCORE_LIMITS (9, 0) < set) then
    (s1.modCal (fun c => { c with above := some now })).avsStep (s.clampVcore (set - step))
  else s1

/-- The ageing floor of area `a` (R649). -/
def State.ageFloor (s : State) (a : Nat) : State :=
  let m := s.marginAt a
  let now := s.tln.now
  let on := Tab.get (fun _ => false) s.cal.floor a
  let since := sinceWhen (Tab.get (fun _ => none) s.cal.floorAbove a) now (decide (s.marginHigh < m))
  let s1 := s.modCal (fun c => { c with floorAbove := Tab.set (fun _ => none) c.floorAbove a since })
  if m < s.marginLow ∧ s.atVmax = true then
    (s1.calFault Cal.F_AGE_LIMIT (some 0x821)).modCal (fun c => { c with floor := Tab.set (fun _ => false) c.floor a true })
  else if on && heldFor since now s.downHold then s1.modCal (fun c => { c with floor := Tab.set (fun _ => false) c.floor a false })
  else s1

/-- A measurement of the margins of the regions and CORE, and of each PLU's own monitor, in ps. -/
def State.marginMeasure (s : State) (slack plus : List Nat) : State :=
  let m (a : Nat) : Nat := min 255 (slack.getD a 255)
  let s1 := (s.setNat pgCAL Cal.MARGIN (packFields 8 m 4)).setNat pgCAL Cal.MARGIN_CORE (m 4)
  let s2 := (List.range 32).foldl (fun a i => a.pluWait i (plus.getD i 255)) s1
  (List.range 5).foldl State.ageFloor s2.replan

/-- A VCORE error stops automatic steps (R650). -/
def State.avsError (s : State) : State :=
  ((s.modCal (fun c => { c with avsStopped := true, avsAsked := none })).setSts pgCAL Cal.S_AVS_BUSY 0).fault pgCAL Cal.F_AVS_ERROR

/-- Runs `f` at an instant, or at once while the timeline does not run. -/
def State.atOrNow (s : State) (t : Nat) (f : State → State) : State := if s.timeRuns then s.atTime t f else f s

/-- A request settles 200 µs after it, or fails 1 ms after it. -/
def State.avsSettle (s : State) (mv ma : Nat) (error : Bool) : State :=
  match s.cal.avsAsked with
  | none => s
  | some t =>
    let read (a : State) : State := a.setNat pgCAL Cal.VCORE_READ (mv % 1024 + 2 ^ 16 * (ma % 2 ^ 16))
    let near := decide (((mv : Int) - s.fld pgCAL Cal.VCORE_SET (9, 0)).natAbs ≤ 10)
    if error then ((read s).avsError).trigger 0x823 pgCAL
    else if near then
      s.atOrNow (t + 200000 * NS) (fun a =>
        (((read a).modCal (fun c => { c with avsAsked := none })).setSts pgCAL Cal.S_AVS_BUSY 0).irq 42)
    else s.atOrNow (t + 1000000 * NS) (fun a => ((read a).avsError).trigger 0x823 pgCAL)

def execAvsSettle (mv ma : Nat) (error : Bool) (s : State) : Host.Outcome State Fault Refusal :=
  done (if s.aclkRuns then s.avsSettle mv ma error else s)

/-- PMB_ALERT_N low: STATUS_WORD is read, and code 0x823 recorded whatever it shows. -/
def State.pmbAlert (s : State) (fault : Bool) : State := (if fault then s.avsError else s).trigger 0x823 pgCAL

def execPmbAlert (fault : Bool) (s : State) : Host.Outcome State Fault Refusal :=
  done (if s.aclkRuns then s.pmbAlert fault else s)

/-! ### Commits (R665) -/

def State.calBad (s : State) : List Nat :=
  let get := s.shd pgCAL
  if rangesBad get [⟨Cal.CAL_CTRL, (1, 0), 0, 2⟩, ⟨Cal.WINDOW_S, (9, 0), 2, 1000⟩, ⟨Cal.AVS_CFG, (23, 16), 1, 20⟩,
      ⟨Cal.VCORE_LIMITS, (9, 0), 650, 900⟩, ⟨Cal.VCORE_LIMITS, (25, 16), 650, 900⟩, ⟨Cal.MARGIN_CFG, (31, 16), 1, 65535⟩]
      || decide (bits (get Cal.MARGIN_CFG) (15, 8) ≤ bits (get Cal.MARGIN_CFG) (7, 0)) then [pgCAL] else []

/-- AUTO_AVS written 1 lets automatic steps go on after an error. -/
def State.calCommit (s : State) : State :=
  s.commitPoint pgCAL s.calBad (fun a =>
    let b := a.setSts pgCAL Cal.S_AT_VMAX (if a.atVmax then 1 else 0)
    if b.flag pgCAL Cal.AVS_CFG 1 then b.modCal (fun c => { c with avsStopped := false }) else b)

end Sys2Proof.Machine
end

