-- ==== Sys2Proof/Machine/Thermal.lean ====
section
/-!
DEFINITION. Temperature (R630 to R645, R662 to R664): sensors and votes, zones, the heater, throttling, the hardware shutdown
and the restart from it.
-/
namespace Sys2Proof.Machine

/-! ### Sensors and votes (R630 to R634) -/

/-- +200 °C in 1/16 °C: what a broken sensor or an excluded replica reads. -/
def HOT : Int := 3200

def State.modThm (s : State) (f : ThmState → ThmState) : State := { s with thm := f s.thm }

/-- SENSOR_BROKEN, REPLICA_EXCLUDED or SENSOR_DISAGREE, with code 0x814, at its setting (R664; log entry 70). -/
def State.sensorFault (s : State) (n : Nat) : State :=
  if s.flag pgTHM PAGE_FAULT n then s else (s.fault pgTHM n).trigger 0x814 pgTHM

/-- The reading of replica `i` of a round. -/
def readingAt (t : Thermals) (i : Nat) : Int := if t.broken.contains i then HOT else t.reading.getD i HOT

/-- Replica `i` differs from both others of its triple by more than 8 °C. -/
def standsApart (t : Thermals) (i : Nat) : Bool :=
  [(i / 3) * 3, (i / 3) * 3 + 1, (i / 3) * 3 + 2].all (fun j => j == i || decide (128 < (readingAt t i - readingAt t j).natAbs))

def State.excluded (s : State) (i : Nat) : Bool := Tab.get (fun _ => false) s.cal.excluded i
def State.elementForced (s : State) (e : Nat) : Bool := Tab.get (fun _ => false) s.cal.forced e

/-- Replica `i` after one more round: excluded at the tenth in a row apart, unless it is forced (R633, R654; log entry 68). -/
def State.judge (s : State) (t : Thermals) (i : Nat) : State :=
  let n := if standsApart t i then Tab.get (fun _ => 0) s.thm.apart i + 1 else 0
  let s1 := s.modThm (fun x => { x with apart := Tab.set (fun _ => 0) x.apart i (min 10 n) })
  if n < 10 ∨ s.excluded i ∨ s.elementForced (164 + i) then s1
  else
    (({ s1 with cal := { s1.cal with excluded := Tab.set (fun _ => false) s1.cal.excluded i true } }).sensorFault
      Thm.F_REPLICA_EXCLUDED).writeHistory 3

/-- REPLICA_STATE (R662). -/
def State.replicaState (s : State) (t : Thermals) : Nat :=
  (List.range 15).foldl (fun a i =>
    a + (if s.excluded i || t.broken.contains i then 2 ^ i else 0) + if s.excluded i then 2 ^ (16 + i) else 0) 0

/-- The middle one of three. -/
def median (a b c : Int) : Int := max (min a b) (min (max a b) c)

/-- The vote of triple `k` (R632, R633). -/
def State.voteOf (s : State) (t : Thermals) (k : Nat) : Int :=
  let r (i : Nat) : Int := if s.excluded i then HOT else readingAt t i
  median (r (3 * k)) (r (3 * k + 1)) (r (3 * k + 2))

/-- The votes as the registers hold them: regions 0 to 3, CORE. -/
def State.votes (s : State) : List Int :=
  [signed 16 (s.fld pgTHM Thm.T_REGION01 (15, 0)), signed 16 (s.fld pgTHM Thm.T_REGION01 (31, 16)),
    signed 16 (s.fld pgTHM Thm.T_REGION23 (15, 0)), signed 16 (s.fld pgTHM Thm.T_REGION23 (31, 16)),
    signed 16 (s.fld pgTHM Thm.T_CORE_ANALOG (15, 0))]

def State.tDie (s : State) : Int := signed 16 (s.fld pgTHM Thm.T_DIE (15, 0))
def State.tAnalog (s : State) : Int := signed 16 (s.fld pgTHM Thm.T_CORE_ANALOG (31, 16))

/-- The page is a unit-level instance. -/
def isUnitPage (p : Nat) : Bool := (pageInfo p).any (fun i => i.block.level == 0)

/-- The votes of a round enter the registers. -/
def State.loadVotes (s : State) (t : Thermals) : State :=
  let v (k : Nat) : Int := s.voteOf t k
  let die := max (max (v 0) (v 1)) (max (max (v 2) (v 3)) (v 4))
  let s1 := (s.setNat pgTHM Thm.T_REGION01 (unsign 16 (v 0) + 2 ^ 16 * unsign 16 (v 1))).setNat pgTHM Thm.T_REGION23
    (unsign 16 (v 2) + 2 ^ 16 * unsign 16 (v 3))
  let s2 := (s1.setFld pgTHM Thm.T_CORE_ANALOG (15, 0) (unsign 16 (v 4))).setFld pgTHM Thm.T_DIE (15, 0) (unsign 16 die)
  let peak := max (signed 16 (s.fld pgTHM Thm.T_PEAK (15, 0))) die
  ((s2.setFld pgTHM Thm.T_PEAK (15, 0) (unsign 16 peak)).setNat pgTHM Thm.REPLICA_STATE (s.replicaState t)).modThm (fun x =>
    { x with unit := t.units.foldl (fun (a : Tab Nat) (e : Nat × Int) =>
        if isUnitPage e.1 then Tab.set (fun _ => 0x8000) a e.1 (unsign 16 e.2) else a) x.unit })

/-! ### Throttling (R638, R639) -/

def State.dramHot (s : State) : Bool := s.sts pgTHM Thm.S_DRAM_HOT == 1

/-- The level in force in region `n`. -/
def State.levelInForce (s : State) (n : Nat) : Nat :=
  let floor (a : Nat) : Bool := Tab.get (fun _ => false) s.cal.floor a
  max (Tab.get (fun _ => 0) s.thm.level n)
    (max (s.fld pgTHM Thm.FORCE_LEVEL (2 * n + 1, 2 * n)) (if floor n || floor 4 then 2 else 0))

/-- THROTTLE and THROTTLING follow; each change of level is recorded, with interrupt 26. -/
def State.throttleRefresh (s : State) : State :=
  let b (x : Bool) : Nat := if x then 1 else 0
  let floor (a : Nat) : Bool := Tab.get (fun _ => false) s.cal.floor a
  let old (n : Nat) : Nat := s.fld pgTHM Thm.THROTTLE (2 * n + 1, 2 * n)
  let v := (List.range 4).foldl (fun a n =>
    a + s.levelInForce n * 2 ^ (2 * n) + b (decide (2368 ≤ s.votes.getD n 0)) * 2 ^ (8 + n) + b (floor n || floor 4) * 2 ^ (12 + n)) 0
  let s1 := (s.setNat pgTHM Thm.THROTTLE v).setSts pgTHM Thm.S_THROTTLING (b ((List.range 4).any (fun n => s.levelInForce n != 0)))
  (List.range 4).foldl (fun a n => if old n = s.levelInForce n then a else (a.irq 26).trigger (0x600 + n) pgTHM) s1

/-- Region `n` calls for a rise. -/
def State.tooHot (s : State) (n : Nat) : Bool :=
  decide (2368 ≤ s.votes.getD n 0) || decide (2368 ≤ s.votes.getD 4 0) || s.dramHot

/-- Every condition of region `n` has cleared. -/
def State.cooled (s : State) (n : Nat) : Bool :=
  !Tab.get (fun _ => false) s.thm.hot n && !Tab.get (fun _ => false) s.thm.hot 4 && !s.dramHot

def State.setLevel_ (s : State) (n v : Nat) : State :=
  (s.modThm (fun x => { x with level := Tab.set (fun _ => 0) x.level n v })).throttleRefresh

/-- The automatic level of region `n` at its next instant: a rise at a whole multiple of 100 ms, a fall at one of 1 s. -/
def State.throttleUpdate (s : State) (n : Nat) : State :=
  let l := Tab.get (fun _ => 0) s.thm.level n
  if !s.aclkRuns then s
  else if s.tooHot n then
    s.atTick (tickRise n) (100 * MS) 0 (fun a => if l < a.fld pgTHM Thm.THM_CTRL (1, 0) then a.setLevel_ n (l + 1) else a)
  else if s.cooled n ∧ 0 < l then s.atTick (tickFall n) (1000 * MS) 0 (fun a => a.setLevel_ n (l - 1))
  else s

def execThrottleUpdate (n : Fin 4) (s : State) : Host.Outcome State Fault Refusal := done (s.throttleUpdate n.val)

/-! ### Zones and the heater (R635 to R637) -/

/-- THERMAL to the partner (R542, R645). -/
def State.sendThermal (s : State) : State :=
  s.tsxSend 0x30 2 (beBytes 2 (s.fld pgTHM Thm.T_DIE (15, 0)) ++ beBytes 1 s.thm.thresh ++ [0])

/-- A latched threshold of a signed value. -/
def holdsRow (was : Bool) (enter leave : Bool) : Bool := if was then !leave else enter

/-- The fault bit of a row, its threshold code, and its recorder code, at the entry. -/
def State.enterRow (s : State) (entered : Bool) (fault : Option Nat) (thresh : Nat) (code : Option Nat) : State :=
  if !entered then s
  else
    let s1 := s.modThm (fun x => { x with thresh := thresh })
    let s2 := match fault with | some n => s1.fault pgTHM n | none => s1
    match code with | some c => s2.trigger c pgTHM | none => s2

/-- ZONE of the rows that hold (log entry 68). -/
def ThmState.zone (x : ThmState) : Nat :=
  if x.lowHold then 0 else if x.lowWarn then 1 else if x.highThrottle then 4 else if x.highWarn then 3 else 2

/-- The heater runs: in Run, from LOW_HOLD until -36 °C while LOW_HEAT_EN is 1 (R637); the start's own hold keeps it (R636). -/
def State.heaterRefresh (s : State) : State :=
  if s.sysState = 0 then s
  else
    let on := s.pwrState == 0 && s.flag pgTHM Thm.THM_CTRL 16
      && (s.thm.lowHold || (s.sts pgTHM Thm.S_HEATING == 1 && s.tDie < -576))
    s.setSts pgTHM Thm.S_HEATING (if on then 1 else 0)

/-- The rows of R635 follow the votes; a change of ZONE raises interrupt 25 and is sent to the partner. -/
def State.zoneRefresh (s : State) : State :=
  let t := s.tDie
  let x := s.thm
  let y : ThmState := { x with
    lowHold := holdsRow x.lowHold (t ≤ -720) (-608 ≤ t)
    lowWarn := holdsRow x.lowWarn (t ≤ -608) (-576 ≤ t)
    highWarn := holdsRow x.highWarn (2240 ≤ t) (t ≤ 2160)
    highThrottle := holdsRow x.highThrottle (s.votes.any (fun v => 2368 ≤ v) || s.dramHot)
      (s.votes.all (fun v => v ≤ 2288) && !s.dramHot)
    hot := (List.range 5).foldl (fun (a : Tab Bool) k =>
      let v := s.votes.getD k 0
      Tab.set (fun _ => false) a k (holdsRow (Tab.get (fun _ => false) a k) (2368 ≤ v) (v ≤ 2288))) x.hot }
  let s1 := s.modThm (fun _ => y)
  let s2 := s1.enterRow (y.lowWarn && !x.lowWarn) (some Thm.F_LOW_WARN) 1 none
  let s3 := s2.enterRow (y.lowHold && !x.lowHold) none 0 none
  let s4 := s3.enterRow (y.highWarn && !x.highWarn) (some Thm.F_HIGH_WARN) 2 (some 0x810)
  let s5 := s4.enterRow (y.highThrottle && !x.highThrottle) (some Thm.F_HIGH_THROTTLE) 3 (some 0x811)
  let s6 := s5.throttleRefresh
  let s7 := if s.sts pgTHM Thm.S_ZONE = y.zone then s6 else ((s6.setSts pgTHM Thm.S_ZONE y.zone).irq 25).sendThermal
  s7.heaterRefresh

/-! ### Shutdown and restart (R641 to R643) -/

/-- The record of code 0x812, after any record in progress; it bypasses the token bucket. -/
def State.shutdownRecord (s : State) : State :=
  let s1 := s.endRecord
  if !s1.mayRecord || !bit (s1.trigWord 0x812) 0 then s1
  else
    let v := timeValOf s1.tln.now
    let time : TimeVal := ⟨v.s, v.ns, 0⟩
    (s1.beginRecord ⟨s1.nat pgEVR Evr.NEXT_SEQ, s1.snapshotRecord time 0x812 pgTHM, 0x812, none⟩).endRecord

/-- HIGH_SHUTDOWN: the die-level fault, the message, the record; then the die is held in reset and VCORE is off. -/
def State.thermalShutdown (s : State) : State :=
  let s1 := (s.openDie.modThm (fun x => { x with thresh := 4 })).sendThermal.shutdownRecord
  let s2 := s1.hardReset false 0x20
  { s2 with
    pwr := { s2.pwr with phase := .shutdown, coreOn := false, ioOn := true }
    tln := { s2.tln with stopped := true }
    dev := { s2.dev with faultN := true } }.pinsRefresh

def State.mustShutDown (s : State) : Bool := s.votes.any (fun v => 2528 ≤ v) || decide (2528 ≤ s.tAnalog)

def State.shutdownCheck (s : State) : State := if s.mustShutDown then s.thermalShutdown else s

/-- T_ANALOG has read 130 °C or less for 10 s: 101 measurements, 100 ms apart. -/
def State.thermalRestart (s : State) : State :=
  if s.pwr.phase = PwrPhase.shutdown ∧ 101 ≤ s.thm.cool then
    { s with pwr := { s.pwr with phase := .coreRising, target := 4, coreOn := true } } else s

def execThermalRestart (s : State) : Host.Outcome State Fault Refusal := done s.thermalRestart

/-! ### Measurements -/

/-- One round of the ring oscillators; each round adds its millisecond to THROTTLE_MS while a region is throttled. -/
def State.measureNow (s : State) (t : Thermals) : State :=
  let s1 := if t.broken = [] then s else s.sensorFault Thm.F_SENSOR_BROKEN
  let s2 := ((List.range 15).foldl (fun a i => a.judge t i) s1).loadVotes t
  let s3 := if s2.sts pgTHM Thm.S_THROTTLING = 1 then s2.inc pgTHM Thm.THROTTLE_MS else s2
  s3.zoneRefresh.shutdownCheck

/-- The measurement at the next whole millisecond of the timeline, or of the FIO count while ROOT is not locked (R630). -/
def State.thermalMeasure (s : State) (t : Thermals) : State :=
  if !s.aclkRuns then s
  else if s.timeRuns then s.atTick tickThermal MS 0 (fun a => a.measureNow t)
  else s.measureNow t

/-- A measurement of the analog sensor (R634, R642, R643). -/
def State.analogMeasure (s : State) (value : Int) (broken : Bool) : State :=
  let v := if broken then HOT else value
  if !s.pwr.ioOn then s
  else if s.pwr.phase = PwrPhase.shutdown then s.modThm (fun x => { x with cool := if v ≤ 2080 then x.cool + 1 else 0 })
  else if !s.aclkRuns then s
  else
    let s1 := s.setFld pgTHM Thm.T_CORE_ANALOG (31, 16) (unsign 16 v)
    let s2 := if broken then s1.sensorFault Thm.F_SENSOR_BROKEN else s1
    let far := s.fld pgTHM Thm.T_DIE (15, 0) != 0x8000 && decide (240 < (v - s.tDie).natAbs)
    let n := if far then s.thm.disagree + 1 else 0
    let s3 := s2.modThm (fun x => { x with disagree := min 11 n })
    (if 11 ≤ n then s3.sensorFault Thm.F_SENSOR_DISAGREE else s3).shutdownCheck

def execAnalogTempMeasure (value : Int) (broken : Bool) (s : State) : Host.Outcome State Fault Refusal :=
  done (s.analogMeasure value broken)

/-- The refresh-rate fields of the DRAM dies, and whether one reports a temperature above its limit (R644). -/
def State.dramRate (s : State) (r0 r1 : Nat) (hot : Bool) : State :=
  if !s.aclkRuns || !s.boot.trained then s
  else
    let s1 := s.setNat pgTHM Thm.DRAM_RATE (r0 + 256 * r1)
    let s2 := s1.setSts pgTHM Thm.S_DRAM_HOT (if hot then 1 else 0)
    (if hot && !s.dramHot then s2.fault pgTHM Thm.F_DRAM_HOT else s2).zoneRefresh

def execDramRateRead (rate0 rate1 : Fin 8) (hot : Bool) (s : State) : Host.Outcome State Fault Refusal :=
  done (s.dramRate rate0.val rate1.val hot)

/-- The margins, with the ageing floor that follows from them (R646 to R649). -/
def execMarginMeasure (slack plus : List Nat) (s : State) : Host.Outcome State Fault Refusal :=
  done (if s.aclkRuns then (s.marginMeasure slack plus).throttleRefresh else s)

/-! ### Messages and commits (R645, R662) -/

def execThermalSend (s : State) : Host.Outcome State Fault Refusal := done (if s.aclkRuns then s.sendThermal else s)

def State.thmBad (s : State) : List Nat :=
  if rangesBad (s.shd pgTHM) [⟨Thm.THM_CTRL, (1, 0), 1, 3⟩, ⟨Thm.THM_CTRL, (11, 8), 2, 15⟩] then [pgTHM] else []

def State.thmCommit (s : State) : State := s.commitPoint pgTHM s.thmBad (fun a => a.throttleRefresh.heaterRefresh)

end Sys2Proof.Machine
end

