-- ==== Sys2Proof/Machine/Bus.lean ====
section
/-!
DEFINITION. Writes of registers and memory by the six requesters (R12, R13, R42 to R67, R734, R735): the header registers, the
registers that act when written, shadows, aliases, commits, and the mirroring of the pair (R545 to R547, R557, R558).
-/
namespace Sys2Proof.Machine

/-! ### System states and the watchdog (R701 to R703) -/

/-- SYS_STATE changes, with interrupt 1. -/
def State.moveSys (s : State) (n : Nat) : State :=
  if s.sysState = n then s else ((s.setSysState n).irq 1).heaterRefresh

/-- TEST or RECOVERY is entered: CLAIM_EN becomes 0 in both copies, and the Stile is released. -/
def State.enterQuiet (s : State) (n : Nat) : State :=
  let was := s.claimEnabled
  let shadow := clearBit (s.shd pgRED Red.PAIR_CTRL) 0
  let s1 := (s.setReg pgRED Red.PAIR_CTRL (clearBit (s.reg pgRED Red.PAIR_CTRL) 0)).setShd pgRED Red.PAIR_CTRL shadow
  (s1.claimChanged was).moveSys n

/-- A write of SYS_STATE. -/
def State.sysWrite (s : State) (n : Nat) : State :=
  let cur := s.sysState
  if cur = n then s
  else if cur = 1 ∧ n = 2 ∧ s.allStopped = true then s.enterQuiet 2
  else if cur = 2 ∧ n = 1 ∧ s.dev.testMode = false then s.moveSys 1
  else if (cur = 1 ∨ cur = 2) ∧ n = 3 then s.enterQuiet 3
  else s.badValue pgSYS

def State.wdtOn (s : State) : Bool := s.flag pgSYS Sys.WDT_CTRL 31

/-- The watchdog counts from now. -/
def State.wdtRestart (s : State) : State := { s with boot := { s.boot with wdtFrom := s.tln.now } }

/-- A write of WDT_CTRL. -/
def State.wdtWrite (s : State) (r : Requester) (v : Word) : State :=
  let t := bits v (15, 0)
  if isHost r then s.fault pgSYS Sys.F_OWNER_WRITE
  else if t < 10 ∨ 60000 < t then s.badValue pgSYS
  else
    let s1 := s.setReg pgSYS Sys.WDT_CTRL (v &&& 0x8000FFFF)
    if s.wdtOn then s1 else s1.wdtRestart

def State.wdtKick (s : State) (r : Requester) : State :=
  if isHost r then s.fault pgSYS Sys.F_OWNER_WRITE else s.wdtRestart

/-- WDT_TIMEOUT ms pass without a kick. -/
def State.wdtExpire (s : State) : State :=
  if s.wdtOn && s.aclkRuns then
    s.atOrNow (s.boot.wdtFrom + s.fld pgSYS Sys.WDT_CTRL (15, 0) * 1000000 * NS) (fun a => a.dieReset 0x10)
  else s

/-! ### Commits (R62 to R67) -/

/-- The commit point of a group of kind 1. -/
def State.commit1 (s : State) (g : Nat) : State :=
  match pageInfo g with
  | none => s
  | some i =>
    let k := i.inst
    match i.block with
    | .pwr => s.pwrCommit
    | .thm => s.thmCommit
    | .cal => s.calCommit
    | .tln =>
      let old := s.tlSrc
      s.commitPoint pgTLN (if s.tlnBad then [pgTLN] else []) (fun a => ((a.tlnCommitted old).alignRefresh).resyncCheck)
    | .syn => s.synCommit k (if s.synBad k then [pgSYN k] else [])
    | .cmp => s.commitPoint (pgCMP k) (s.cmpBad k) id
    | .jsc => s.jscCommit k
    | .fix => s.fixCommit
    | .eth => s.ethCommit k
    | .fld => s.fldCommit k
    | .ntm => s.ntmCommit
    | .str => s.strCommit
    | .ing => s.ingCommit
    | .red => s.redCommit
    | .evr => s.evrCommit
    | .pmc => s.pmcCommit
    | _ => s.commitPoint g [] id

/-- ARM: kind 1 commits in the next ACLK cycle, which this step includes; kind 2 waits for its frame start. -/
def State.armGroup (s : State) (g since : Nat) : State :=
  match pageInfo g with
  | none => s
  | some i =>
    if i.block.kind = 0 ∨ (s.armOf g).on = true then s
    else if i.block.kind = 1 then s.commit1 g
    else (s.setArm g ⟨true, since⟩).commitIdle g

/-- DISARM; a STOP that was cleared while ARMED takes effect then, and the instance leaves STOPPED (R67; log entry 136). -/
def State.disarmGroup (s : State) (g : Nat) : State := (s.discardShadows g).releaseStop g

/-! ### PAGE_CTRL (R56, R67) -/

/-- ENABLE or STOP of the instance whose first page is `g` has changed from `en` and `st`. -/
def State.ctrlChanged (s : State) (g : Nat) (en st : Bool) : State :=
  match pageInfo g with
  | none => s
  | some i =>
    let k := i.inst
    let n := if !s.enabled g then 0 else if s.stopSet g then 2 else 1
    match i.block with
    | .swt => s.swtCtrl k en st
    | .pxp => s.pxCtrl k en st
    | .dmx => s.dmxCtrl k en st
    | .eth => s.ethCtrl k en st
    | .fld => s.fldCtrl k en st
    | .lcl => s.lclCtrl k en st
    | .lmp => s.lmpCtrl k en st
    | .syn => s.synCtrl k en st
    | .tln => ((s.setGroupState g n).tlnCtrl.alignRefresh).resyncCheck
    | .evr => s.evrCtrl (s.enabled g) (s.stopSet g)
    | .icu => s.icuChange (fun a => a.setGroupState g n)
    | _ => s.setGroupState g n

/-- A STOP cleared while the group is ARMED and the instance STOPPED waits for the commit. -/
def State.noteUnstop (s : State) (g : Nat) (was : Bool) : State :=
  let on := s.flag g PAGE_CTRL 1
  if on then { s with dev := { s.dev with unstop := s.dev.unstop.filter (· != g) } }
  else if was && (s.armOf g).on && s.pageState g == 2 then { s with dev := { s.dev with unstop := g :: s.dev.unstop } }
  else s

/-- BAD_VALUE on the pages that hold that bit: PLU, PLC and CCR pages have no block faults (R73). -/
def State.badPage (s : State) (page : Nat) : State :=
  if (pageInfo page).any (fun i => bit i.faultBits F_BAD_VALUE) then s.badValue page else s

/-- A RESET_SCOPE beyond the range 0 to 5 of R56: the whole write is dropped (R735), and a RESET in it is refused (R57; log
entry 11). -/
def State.scopeBad (s : State) (page : Nat) (v : Word) : State :=
  let s1 := s.badPage page
  if bit v 2 then s1.fault page F_SCOPE else s1

/-- An accepted write of PAGE_CTRL; ENABLE and STOP of a group's first page act (log entry 78). -/
def State.ctrlTake (s : State) (r : Requester) (page : Nat) (v : Word) : State :=
  let g := groupOf page
  let en := s.enabled g
  let st := s.stopSet g
  let was := s.flag page PAGE_CTRL 1
  let s1 := s.setReg page PAGE_CTRL (v &&& 0x7B)
  let s2 := if page = g then s1.noteUnstop g was else s1
  let s3 := if page = g ∧ s2.pageState g ≠ 3 ∧ (s2.enabled g ≠ en ∨ s2.stopSet g ≠ st) then (s2.ctrlChanged g en st).pinsRefresh else s2
  if bit v 2 then s3.resetRequest r page (bits v (6, 4)) else s3

/-- A write of PAGE_CTRL (R56, R735). -/
def State.ctrlWrite (s : State) (r : Requester) (page : Nat) (v : Word) : State :=
  if 5 < bits v (6, 4) then s.scopeBad page v else s.ctrlTake r page v

/-! ### Registers that act when written -/

/-- A register with a meaning of its own; none for one that only holds its value. -/
def State.ownWrite (s : State) (r : Requester) (i : PageInfo) (o : Nat) (v : Word) : Option State :=
  let k := i.inst
  match i.block with
  | .sys =>
    if o = Sys.SYS_STATE then some (s.sysWrite (bits v (1, 0)))
    else if o = Sys.WDT_CTRL then some (s.wdtWrite r v)
    else if o = Sys.WDT_KICK then some (if isHost r || bit v 0 then s.wdtKick r else s)
    else none
  | .clk => if o = Clk.CLK_CTRL then some (s.clockMove r (bit v 0)) else none
  | .pwr => if o = Pwr.PWR_REQ then some (s.pwrRequest (bits v (1, 0)) 0 0) else none
  | .cal => if o = Cal.CAL_ACTION then some (s.calAction v) else none
  | .fwu =>
    if o = Fwu.FWU_ACTION then some (s.fwuAction v)
    else if 0x05C ≤ o ∧ o < 0x07C then some (s.setReg pgFWU o v)
    else none
  | .icu =>
    if 0x1400 ≤ o ∧ o < 0x1800 then some (s.writeSrcCfg ((o - 0x1400) / 4) v)
    else if 0x2400 ≤ o ∧ o < 0x2800 then some (s.writeSrcCfg (256 + (o - 0x2400) / 4) v)
    else if 0x300 ≤ o ∧ o < 0x340 then some (s.msixTable r ((o - 0x300) / 4) v)
    else if 0x400 ≤ o ∧ o < 0x500 ∧ o % 0x20 = 8 then some (s.completeWrite r ((o - 0x400) / 0x20) (bits v (9, 0)))
    else if 0x400 ≤ o ∧ o < 0x500 ∧ o % 0x20 = 0 then some (s.icuChange (fun a => a.setReg pgICU o (v &&& 0xF)))
    else if 0x080 ≤ o ∧ o < 0x0C0 then some (s.icuChange (fun a => a.setReg pgICU o (v &&& sourceBits ((o - 0x080) / 4))))
    else none
  | .tln => if o = Tln.TL_ACTION then some (s.tlAction v) else none
  | .swt => if o = Swt.FRAME_READY then some (s.frameReadyWrite k v) else none
  | .cmp =>
    if o = Cmp.PROG_DATA_LO then some (s.progLo k v)
    else if o = Cmp.PROG_DATA_HI then some (s.progHi k v)
    else none
  | .jsc =>
    if o = Jsc.CTR_VALUE then some (s.ctrSet k (s.ctrSel k) (bits v (15, 0)))
    else if o = Jsc.CTR_SIGNAL then some (s.ctrSub k (s.ctrSel k) (bits v (15, 0)))
    else if o = Jsc.DOM_HEAD_SET then some (s.headWrite k v)
    else if 0x060 ≤ o ∧ o < 0x07C then some (s.stageWord r k ((o - 0x060) / 4) v)
    else if o = 0x07C then some (s.submitStaged r k v)
    else if o = Jsc.THR_END then some (s.thrEndWrite r k (bits v (7, 0)))
    else if 0x1400 ≤ o ∧ o < 0x1600 ∧ o % 0x40 = 0x10 then some (if bit v 0 then s.listGo k ((o - 0x1400) / 0x40) else s)
    else none
  | .dmx =>
    if o = Dmx.RDM_GO then some (s.rdmGoWrite k v)
    else if o = Dmx.RDM_REQ_LO ∨ o = Dmx.RDM_REQ_HI ∨ o = Dmx.RDM_CTRL ∨ o = Dmx.RDM_RSP_LO ∨ o = Dmx.RDM_RSP_HI then
      some (s.rdmRegWrite k o ((RegRow.find o Dmx.rows).elim v (fun (x : RegRow) => v &&& x.rw)))
    else none
  | .eth =>
    if 0x1400 ≤ o ∧ o < 0x1500 ∧ o % 0x40 = 0x10 then some (s.txTail k ((o - 0x1400) / 0x40) (bits v (11, 0)))
    else if 0x2400 ≤ o ∧ o < 0x2500 ∧ o % 0x40 = 0x10 then some (s.rxTail k ((o - 0x2400) / 0x40) (bits v (11, 0)))
    else none
  | .ntm =>
    if o = Br.FDB_CMD then some (s.fdbWrite v)
    else if 0x1400 ≤ o ∧ o < 0x1600 ∧ o % 0x80 = 4 then some (s.portStateWrite r ((o - 0x1400) / 0x80) v)
    else none
  | .lmp => if o = Lmp.LMP_ACTION then some (if bit v 0 then s.retryWrite k else s) else none
  | .que =>
    if 0x100 ≤ o ∧ o < 0x200 ∧ k < 11 then
      (let q := (o - 0x100) / 0x40
       if o % 0x40 = 0 then some (s.queueCtrl k q v)
       else if o % 0x40 = 0x14 then some (s.queueWriteBy (some r) k q (leBytes 4 v.toNat) false)
       else if o % 0x40 = 0x18 then some (s.queueAction r k q v)
       else none)
    else none
  | .red => if o = Red.PAIR_ACTION then some (s.pairAction v) else none
  | .evr =>
    if o = Evr.EVR_ACTION then some (s.evrAction v)
    else if o = Evr.TRIG_DATA then some (s.trigWrite v)
    else none
  | .pmc =>
    match cntAt o with
    | some (_, true) => some (s.cntStage (reqCode r) v)
    | some (n, false) => some (s.cntLoad (reqCode r) n v)
    | none => none
  | _ => none

/-! ### Registers that hold what is written -/

/-- The writer has no right to the register (R232, R422); the bit that says so. -/
def ownerFault (r : Requester) (i : PageInfo) (o : Nat) : Option Nat :=
  if !isHost r then none
  else
    match i.block with
    | .ntm => if parentOff o then some Ntm.F_OWNER_WRITE else none
    | .jsc => if 0x2400 ≤ o ∧ 0x400 ≤ o % 0x1000 ∧ o % 0x1000 < 0x600 ∧ o % 0x10 = 0 then some Jsc.F_OWNER_WRITE else none
    | _ => none

/-- The value lies outside the range of a register without a shadow (R735). -/
def plainBad (i : PageInfo) (o : Nat) (v : Word) : Bool :=
  match i.block with
  | .evr => o == Evr.TRIG_ADDR && decide (8175 < bits v (12, 0))
  | .cal => o == Cal.OVR_SEL && decide (4 < bits v (2, 0))
  | .fwu => (o == Fwu.FWU_CTRL && bits v (5, 4) == 3) || (o == Fwu.FUSE_SEL && bits v (5, 4) == 3)
  | _ => false

/-- A 1 written to CLAIM_EN is not taken in TEST or RECOVERY (R701). -/
def State.claimMask (s : State) (page off : Nat) (v : Word) : Word :=
  if page = pgRED ∧ off = Red.PAIR_CTRL ∧ 2 ≤ s.sysState then clearBit v 0 else v

/-- The row of the table for an offset of a page. -/
def rowAt (i : PageInfo) (off : Nat) : Option RegRow := RegRow.find (i.sub * 0x1000 + off) (i.block.rows i.inst)

/-- A write of a register that holds its value; its RO bits stay. -/
def State.plainWrite (s : State) (r : Requester) (i : PageInfo) (page off : Nat) (v0 : Word) : State :=
  let o := i.sub * 0x1000 + off
  let v := s.claimMask page off v0
  match rowAt i off with
  | none => s
  | some w =>
    match ownerFault r i o with
    | some n => s.fault (groupOf page) n
    | none =>
      if isShadowed i off then s.setShd page off ((s.shd page off &&& ~~~ w.rw) ||| (v &&& w.rw))
      else if plainBad i o v then s.badValue page
      else s.setReg page off ((s.reg page off &&& ~~~ w.rw) ||| (v &&& w.rw))

/-! ### Aliases (R13, R52) -/

/-- The RW and RWS bits of an SC register. -/
def aliasBits (i : PageInfo) (page off : Nat) : Word :=
  keptBits (regKey page off) ||| (if off < 0x20 then 0 else (rowAt i off).elim 0 RegRow.rw)

/-- The numbers of the bits that are set. -/
def bitNumbers (v : Word) : List Nat := (List.range 32).filter (bit v)

/-- Bit `n` of a page's PAGE_STATUS becomes 1: the bits whose setting raises an interrupt raise it (R111, R244, R277, R328,
R395). -/
def State.statusBit (s : State) (i : PageInfo) (page n : Nat) : State :=
  let s1 := s.setFlag page PAGE_STATUS n true
  let k := i.inst
  match i.block with
  | .tln => if i.sub ≠ 0 then s1 else if n = 19 then s1.irq 57 else if n = 21 then s1.irq 58 else if n = 23 then s1.irq 61 else s1
  | .jsc => if i.sub = 0 ∧ (n = 19 ∨ n = 20) then s1.irq (121 + 2 * k) else s1
  | .dmx => if n = 22 then s1.irq (208 + k) else s1
  | .swt => if n = 4 then s1.swtEvent k 2 else if n = 5 then s1.swtEvent k 4 else if i.sub = 0 ∧ n = 21 then s1.swtEvent k 3 else s1
  | .ing => if i.sub = 0 ∧ 16 ≤ n ∧ n < 24 ∧ s1.flag pgING (Ing.ING_MODE (n - 16)) 9 = true then s1.irq 365 else s1
  | _ => s1

/-- Bits of an SC register become 1, by a SET alias or by the hardware. -/
def State.setBits (s : State) (i : PageInfo) (page off : Nat) (v0 : Word) : State :=
  let v := v0 &&& aliasBits i page off
  let o := i.sub * 0x1000 + off
  if off = PAGE_FAULT then (bitNumbers v).foldl (fun a n => a.fault page n) s
  else if off = PAGE_STATUS then (bitNumbers v).foldl (fun a n => a.statusBit i page n) s
  else if i.block = .icu ∧ 0x40 ≤ o ∧ o < 0x80 then s.pendingAlias ((o - 0x40) / 4) true v
  else if i.block = .icu then s.icuChange (fun a => a.setReg page off (a.reg page off |||
    (if 0x80 ≤ o ∧ o < 0xC0 then v &&& sourceBits ((o - 0x80) / 4) else v)))
  else
    let s1 := s.setReg page off (s.reg page off ||| v)
    if i.block = .eth ∧ o = Eth.RING_IRQ then s1.ringLevels i.inst
    else if i.block = .que ∧ v ≠ 0 then s1.irq (308 + 2 * i.inst)
    else s1

/-- What a captured fault's clearing ends: the VALID bit of its capture (R152, R196, R241, R571), WRAPS (R606). -/
def State.clearHook (s : State) (i : PageInfo) (o : Nat) (v : Word) : State :=
  let k := i.inst
  match i.block with
  | .cmp =>
    if o = PAGE_FAULT then
      (let s1 := if bit v Cmp.F_BUFFER_REUSE then s.setFlag (pgCMP k) Cmp.REUSE_INFO 31 false else s
       if bit v Cmp.F_DOSE_SAT then s1.setFlag (pgCMP k) Cmp.DOSE_SAT_INFO 31 false else s1)
    else if o = Cmp.PROG_FAULT ∧ s.nat (pgCMP k) Cmp.PROG_FAULT = 0 then s.setFlag (pgCMP k) Cmp.PROG_FAULT_INFO 31 false
    else s
  | .jsc => if o = PAGE_FAULT ∧ bit v Jsc.F_JOB_FAULT = true then s.setFlag (pgJSC k) Jsc.JOB_FAULT_INFO 31 false else s
  | .red =>
    if o = PAGE_FAULT ∧ bit v Red.F_DIGEST_MISMATCH = true then
      (s.setNat pgRED Red.MISMATCH_INFO 0).setNat pgRED Red.MISMATCH_FRAME 0 else s
  | .pmc =>
    if 0x1100 ≤ o ∧ o < 0x11C0 then
      { s with pmc := { s.pmc with wraps := s.pmc.wraps.filter (fun (e : Nat × Nat) =>
          !(e.1 / 32 == (o - 0x1100) / 4 && bit v (e.1 % 32))) } }
    else s
  | .eth => if o = Eth.RING_IRQ then s.ringLevels k else s
  | _ => s

/-- A CLR alias: HTH.SEAL_OPEN clears only under PRESENCE_N (R688). -/
def State.clearBits (s : State) (i : PageInfo) (page off : Nat) (v0 : Word) : State :=
  let v := v0 &&& aliasBits i page off
  let o := i.sub * 0x1000 + off
  if i.block = .icu ∧ 0x40 ≤ o ∧ o < 0x80 then s.pendingAlias ((o - 0x40) / 4) false v
  else if i.block = .icu ∧ o ≠ PAGE_FAULT ∧ o ≠ PAGE_STATUS then s.icuChange (fun a => a.setReg page off (a.reg page off &&& ~~~ v))
  else if i.block = .hth ∧ o = PAGE_FAULT ∧ bit v Hth.F_SEAL_OPEN = true ∧ s.dev.presenceLow = false then
    (s.setReg page off (s.reg page off &&& ~~~ clearBit v Hth.F_SEAL_OPEN)).guardRefused
  else (s.setReg page off (s.reg page off &&& ~~~ v)).clearHook i o v

/-! ### One 32-bit write (R49 to R71) -/

/-- The common fault bits of a write that is dropped, one for each rule that drops it (log entry 29): a reset in progress (R70),
an alias of no SC register (R51), a stop-only register of an ACTIVE instance (R67), a shadowed register while ARMED (R65). -/
def State.writeDenied (s : State) (i : PageInfo) (page off : Nat) : List Nat :=
  let w := rowAt i off
  (if s.isResetting page && off != 0xC00 + PAGE_FAULT then [F_BUSY_WRITE] else [])
    ++ (if decide (0x800 ≤ off) && !isSc i (off % 0x400) then [F_ACCESS] else [])
    ++ (if decide (0x20 ≤ off) && decide (off < 0x800) && w.any (fun x => x.cls == .stopOnly) && s.active page then [F_MODE_BUSY] else [])
    ++ (if decide (off < 0x800) && isShadowed i off && (s.armOf (groupOf page)).on then [F_ARMED_WRITE] else [])

/-- The effect of an accepted write. `since` is the instant of an ARM. -/
def State.regWrite (s : State) (r : Requester) (since : Nat) (i : PageInfo) (page off : Nat) (v : Word) : State :=
  if 0xC00 ≤ off then s.clearBits i page (off - 0xC00) v
  else if 0x800 ≤ off then s.setBits i page (off - 0x800) v
  else if off = PAGE_CTRL then s.ctrlWrite r page v
  else if off = PAGE_COMMIT then
    (if bit v 1 then s.disarmGroup (groupOf page) else if bit v 0 then s.armGroup (groupOf page) since else s)
  else if off < 0x20 then s
  else (s.ownWrite r i (i.sub * 0x1000 + off) v).getD (s.plainWrite r i page off v)

/-- The register that an address of a page names, an alias counted as its base. -/
def plainOff (off : Nat) : Nat := if off < 0x800 then off else off % 0x400

/-- A host write of a mirrored page on a standby that is not DETACHED (R546). -/
def State.replicaWrite (s : State) (r : Requester) (page off : Nat) : Bool :=
  isHost r && s.isStandby && !s.detached && mirroredReg page (plainOff off)

/-- The write is dropped by a rule of its own register (R211, R217, R232, R236, R238, R252, R735), so it is not accepted. -/
def State.writeRefused (s : State) (r : Requester) (i : PageInfo) (off : Nat) (v : Word) : Bool :=
  let k := i.inst
  let o := i.sub * 0x1000 + off
  if 0x800 ≤ off then false
  else if off = PAGE_CTRL then decide (5 < bits v (6, 4))
  else if off < 0x20 then false
  else
    ((rowAt i off).isSome && (ownerFault r i o).isSome) ||
    match i.block with
    | .jsc => (o == Jsc.DOM_HEAD_SET && s.headBusy k) || (o == Jsc.SUB_D 7 && !(s.submitResult r k v).2)
        || (o == Jsc.THR_END && isHost r)
        || (decide (0x1400 ≤ o) && decide (o < 0x1600) && o % 0x40 == 0x10 && s.listGoBad k ((o - 0x1400) / 0x40))
    | .swt => o == Swt.FRAME_READY && s.readyOverrun k
    | .dmx => o == Dmx.RDM_GO && bit v 0 && !bit v 1 && s.rdmGoFaults k != []
    | _ => false

/-- What the ACTIVE device sends of an accepted write: the words of a submitted descriptor go together, so that submissions of
different requesters do not mix at the standby (R237, R239); what was staged before is sent with them. -/
def State.mirrorEntries (s : State) (r : Requester) (i : PageInfo) (page off : Nat) (v : Word) : List Byte :=
  if i.block = .jsc ∧ i.sub = 0 ∧ Jsc.SUB_D 0 ≤ off ∧ off < Jsc.SUB_D 7 then []
  else if i.block = .jsc ∧ i.sub = 0 ∧ off = Jsc.SUB_D 7 then
    (List.range 7).flatMap (fun j => s.regEntry page (Jsc.SUB_D j) (s.stagedWord r i.inst j)) ++ s.regEntry page off v
  else s.regEntry page off v

/-- An accepted write of a mirrored page: the ACTIVE device tells its partner, a DETACHED one records the page. -/
def State.mirrorWrite (s : State) (r : Requester) (page off : Nat) (v : Word) : State :=
  if !mirroredReg page (plainOff off) || (pageInfo page).any (fun i => s.writeRefused r i off v) then s
  else if s.stileHeld then
    (match (pageInfo page).map (fun i => s.mirrorEntries r i page off v) with
    | some (b :: t) => s.tsxSend 0x12 1 (b :: t)
    | _ => s)
  else if s.detached && isHost r then s.setFlag pgRED (Red.LOCAL_PAGES (page / 32)) (page % 32) true
  else s

/-- UNMAPPED (R43). -/
def State.unmapped (s : State) : State := s.fault pgSYS F_UNMAPPED

/-- A dropped write sets the bit of every rule that drops it (R51, R65, R67, R70, R546; log entry 29). -/
def State.writeDropped (s : State) (r : Requester) (i : PageInfo) (page off : Nat) : State :=
  let s1 := (s.writeDenied i page off).foldl (fun a n => a.fault page n) s
  if s.replicaWrite r page off then s1.fault pgRED Red.F_REPLICA_WRITE else s1

/-- A 32-bit write of an address on the register pages. -/
def State.pageWrite (s : State) (r : Requester) (since page off : Nat) (v : Word) : State :=
  match pageInfo page with
  | none => s.unmapped
  | some i =>
    if s.replicaWrite r page off || s.writeDenied i page off != [] then s.writeDropped r i page off
    else (s.mirrorWrite r page off v).regWrite r since i page off v

/-- A write of one or two bytes to an address on the register pages is dropped (R49). -/
def State.narrowWrite (s : State) (r : Requester) (page off : Nat) : State :=
  match pageInfo page with
  | none => s.unmapped
  | some i => (s.writeDropped r i page (off - off % 4)).fault page F_ACCESS

/-! ### Memory (R42 to R47) -/

/-- The resident firmware's own part of FeRAM: persistent configuration and safe scene (R46). -/
def firmwareFeram (a : Nat) : Bool := decide (FERAM_BASE + 0xFC0000 ≤ a) && decide (a < FERAM_BASE + 0xFE2000)

/-- A write of memory bytes by a requester; in FeRAM only the firmware's own part takes it (R44, R45). -/
def State.memWrite (s : State) (r : Requester) (a : Nat) (l : List Byte) : State :=
  if isFeram a && (isHost r || !firmwareFeram a) then s.fault pgFWU Fwu.F_FERAM_WP
  else if isMemory a then (s.setBytes a l).hwTell a l
  else s.unmapped

/-- A write by a requester, of 1, 2, 4 or 8 bytes; `since` is the instant of an ARM. The Control window and the SPI target reach
64 MiB (R47, R727). -/
def State.busWriteAt (s : State) (r : Requester) (since a size : Nat) (v : BitVec 64) : State :=
  let page := a / 0x1000
  if isHost r && decide (0x4000000 ≤ a) then s
  else if 0x400000 ≤ a then s.access (fun b => b.memWrite r a (leBytes size v.toNat))
  else if size = 8 then
    (s.access (fun b => b.pageWrite r since page (a % 0x1000) (v.setWidth 32))).access (fun b =>
      b.pageWrite r since ((a + 4) / 0x1000) ((a + 4) % 0x1000) ((v >>> 32).setWidth 32))
  else if size = 4 then s.access (fun b => b.pageWrite r since page (a % 0x1000) (v.setWidth 32))
  else s.access (fun b => b.narrowWrite r page (a % 0x1000))

/-- A 32-bit write of a register now. -/
def State.busWrite (s : State) (r : Requester) (page off : Nat) (v : Word) : State :=
  s.access (fun b => b.pageWrite r b.tln.now page off v)

/-! ### Commands: the registers in general -/

def execRegisterWrite (req : Requester) (addr size : Nat) (value : BitVec 64) (s : State) : Host.Outcome State Fault Refusal :=
  done (s.busWriteAt req s.tln.now addr size value)

def execSetAliasWrite (req : Requester) (page off : Nat) (value : Word) (s : State) : Host.Outcome State Fault Refusal :=
  done (s.busWrite req page (0x800 + off) value)

/-- The register whose VALID bit says that the capture register at group offset `o` holds a fault (R152, R196, R241, R571). -/
def captureOf (b : Block) (o : Nat) : Option Nat :=
  match b with
  | .cmp => if o = Cmp.REUSE_INFO ∨ o = Cmp.DOSE_SAT_INFO then some o
      else if o = Cmp.PROG_FAULT_INFO ∨ o = Cmp.PROG_FAULT_PIX then some Cmp.PROG_FAULT_INFO else none
  | .jsc => if o = Jsc.JOB_FAULT_INFO ∨ o = Jsc.JOB_FAULT_SEQ then some Jsc.JOB_FAULT_INFO else none
  | .red => if o = Red.MISMATCH_INFO ∨ o = Red.MISMATCH_FRAME then some Red.MISMATCH_INFO else none
  | _ => none

/-- The capture registers that the hardware loads in the cycle of a clear, by group offset, while none holds an earlier fault. -/
def State.captureLoad (s : State) (i : PageInfo) (g : Nat) (l : List (Nat × Word)) : State :=
  l.foldl (fun a e => if (captureOf i.block e.1).any (fun q => !s.flag g q 31) then a.setReg g e.1 e.2 else a) s

/-- Bits of an RWS register that the hardware sets in the cycle of a clear read as set afterwards (R14), and their fault is
captured (R192). -/
def State.sameCycle (s : State) (page off : Nat) (v : Word) (captured : List (Nat × Word)) : State :=
  match pageInfo page with
  | none => s
  | some i =>
    if isSc i off && s.aclkRuns then
      (s.setBits i page off (v &&& keptBits (regKey page off))).captureLoad i (page - i.sub) captured
    else s

def execClrAliasWrite (req : Requester) (page off : Nat) (value hwSet : Word) (captured : List (Nat × Word)) (presenceLow : Bool)
    (s : State) : Host.Outcome State Fault Refusal :=
  done (((s.presence presenceLow).busWrite req page (0xC00 + off) value).sameCycle page off hwSet captured)

/-- PAGE_CTRL with one bit changed. -/
def State.ctrlWith (s : State) (page n : Nat) (on : Bool) : Word :=
  let v := s.reg page PAGE_CTRL
  if on then setBit v n else clearBit v n

def execPageEnable (req : Requester) (page : Nat) (on : Bool) (s : State) : Host.Outcome State Fault Refusal :=
  done (s.busWrite req page PAGE_CTRL (s.ctrlWith page 0 on))

def execPageStop (req : Requester) (page : Nat) (on : Bool) (s : State) : Host.Outcome State Fault Refusal :=
  done (s.busWrite req page PAGE_CTRL (s.ctrlWith page 1 on))

def execPageReset (req : Requester) (page scope : Nat) (s : State) : Host.Outcome State Fault Refusal :=
  done (s.busWrite req page PAGE_CTRL (setBit (putBits (s.reg page PAGE_CTRL) (6, 4) scope) 2))

def execArm (req : Requester) (page : Nat) (s : State) : Host.Outcome State Fault Refusal :=
  done (s.busWrite req page PAGE_COMMIT 1)

def execDisarm (req : Requester) (page : Nat) (s : State) : Host.Outcome State Fault Refusal :=
  done (s.busWrite req page PAGE_COMMIT 2)

/-- An address that R42 and R72 assign. -/
def isMapped (a : Nat) : Bool := isMemory a || (decide (a < 0x400000) && (pageInfo (a / 0x1000)).isSome)

def execUnmappedAccess (_req : Requester) (addr : Nat) (write : Bool) (s : State) : Host.Outcome State Fault Refusal :=
  done (if isMapped addr then s else s.access (fun a => (if write then a else a.emit (.read 0)).unmapped))

/-! ### Commands: registers of mirrored pages that act when written -/

def execListGo (req : Requester) (n : Fin 4) (k : Fin 8) (s : State) : Host.Outcome State Fault Refusal :=
  done (s.busWrite req (pgJSC n.val + 1) (Jsc.LIST_GO k.val - 0x1000) 1)
def execSubDStage (req : Requester) (n : Fin 4) (k : Fin 7) (value : Word) (s : State) : Host.Outcome State Fault Refusal :=
  done (s.busWrite req (pgJSC n.val) (Jsc.SUB_D k.val) value)
def execJobSubmit (req : Requester) (n : Fin 4) (d7 : Word) (s : State) : Host.Outcome State Fault Refusal :=
  done (s.busWrite req (pgJSC n.val) (Jsc.SUB_D 7) d7)
def execCtrValueWrite (req : Requester) (n : Fin 4) (value : Word) (s : State) : Host.Outcome State Fault Refusal :=
  done (s.busWrite req (pgJSC n.val) Jsc.CTR_VALUE value)
def execCtrSignal (req : Requester) (n : Fin 4) (value : Word) (s : State) : Host.Outcome State Fault Refusal :=
  done (s.busWrite req (pgJSC n.val) Jsc.CTR_SIGNAL value)
def execDomHeadSet (req : Requester) (n : Fin 4) (value : Word) (s : State) : Host.Outcome State Fault Refusal :=
  done (s.busWrite req (pgJSC n.val) Jsc.DOM_HEAD_SET value)
def execThrEnd (req : Requester) (n : Fin 4) (thread : Nat) (s : State) : Host.Outcome State Fault Refusal :=
  done (s.busWrite req (pgJSC n.val) Jsc.THR_END (BitVec.ofNat 32 thread))
def execRdmGo (req : Requester) (k : Fin 12) (s : State) : Host.Outcome State Fault Refusal :=
  done (s.busWrite req (pgDMX k.val) Dmx.RDM_GO 1)
def execRdmAbort (req : Requester) (k : Fin 12) (s : State) : Host.Outcome State Fault Refusal :=
  done (s.busWrite req (pgDMX k.val) Dmx.RDM_GO 2)
def execRetry (req : Requester) (k : Fin 32) (s : State) : Host.Outcome State Fault Refusal :=
  done (s.busWrite req (pgLMP k.val) Lmp.LMP_ACTION 1)
def execProgDataLoWrite (req : Requester) (n : Fin 4) (value : Word) (s : State) : Host.Outcome State Fault Refusal :=
  done (s.busWrite req (pgCMP n.val + 1) (Cmp.PROG_DATA_LO - 0x1000) value)
def execProgDataHiWrite (req : Requester) (n : Fin 4) (value : Word) (s : State) : Host.Outcome State Fault Refusal :=
  done (s.busWrite req (pgCMP n.val + 1) (Cmp.PROG_DATA_HI - 0x1000) value)
def execFrameReadyWrite (req : Requester) (k : Fin 16) (s : State) : Host.Outcome State Fault Refusal :=
  done (s.busWrite req (pgSWT k.val) Swt.FRAME_READY 1)

/-! ### Commands: system states, watchdog -/

def execSysStateRun (req : Requester) (testMode : Bool) (s : State) : Host.Outcome State Fault Refusal :=
  done ({ s with dev := { s.dev with testMode := testMode } }.busWrite req pgSYS Sys.SYS_STATE 1)
def execSysStateTest (req : Requester) (s : State) : Host.Outcome State Fault Refusal :=
  done (s.busWrite req pgSYS Sys.SYS_STATE 2)
def execSysStateRecovery (req : Requester) (s : State) : Host.Outcome State Fault Refusal :=
  done (s.busWrite req pgSYS Sys.SYS_STATE 3)
def execWdtKick (req : Requester) (s : State) : Host.Outcome State Fault Refusal :=
  done (s.busWrite req pgSYS Sys.WDT_KICK 1)
def execWatchdogExpire (s : State) : Host.Outcome State Fault Refusal := done s.wdtExpire

/-! ### The Memory window (R47, R128, R545, R557, R558) -/

/-- Each VALID MIRROR range that the write touches is recorded in LOCAL_RANGES. -/
def State.noteRanges (s : State) (a n : Nat) : State :=
  (List.range 64).foldl (fun b i =>
    if b.mirrorHas 0 i a n then
      (if i < 32 then b.setFlag pgRED Red.LOCAL_RANGES_LO i true else b.setFlag pgRED Red.LOCAL_RANGES_HI (i - 32) true)
    else b) s

/-- A write at offset `x` of the Memory window. -/
def State.windowWrite (s : State) (x : Nat) (l : List Byte) : State :=
  let a := DRAM_BASE + x
  let s1 := (s.reuseCheck a l.length).setBytes a l
  if s1.stileHeld then (if s1.mirrored 1 a l.length then s1.tellMem a l (l.length + 1) else s1.hwTell a l)
  else if s1.detached then s1.noteRanges a l.length
  else s1

def execMemoryWindowWrite (addr : Nat) (data : List Byte) (s : State) : Host.Outcome State Fault Refusal :=
  done (if s.aclkRuns then s.windowWrite addr data else s)

end Sys2Proof.Machine
end

