-- ==== Sys2Proof/Machine/Arrive.lean ====
section
/-!
DEFINITION. How the commands of one ACLK cycle come to wait in the queue: accesses in the fixed order of the requesters (R50),
and each of two happenings that one rule orders in the order which that rule gives (R66, R71, R123, R165, R191, R197, R205, R236,
R259, R263, R292, R295, R322, R343, R351, R381, R415, R442, R460, R493, R513, R536, R586, R597, R657, R683, R695, R702; log entry
129).
-/
namespace Sys2Proof.Machine

/-- The requester of an access to one page, that page, the offset, and the value written; none for what is no such access. -/
def accessOf : Instr → Option (Requester × Nat × Nat × Option Word)
  | .registerWrite r a _ v => some (r, a / 0x1000, a % 0x1000, some (v.setWidth 32))
  | .setAliasWrite r page off v => some (r, page, 0x800 + off, some v)
  | .clrAliasWrite r page off v _ _ _ => some (r, page, 0xC00 + off, some v)
  | .pageEnable r page on => some (r, page, PAGE_CTRL, some (if on then 1 else 0))
  | .pageStop r page on => some (r, page, PAGE_CTRL, some (if on then 3 else 1))
  | .pageReset r page _ => some (r, page, PAGE_CTRL, some 5)
  | .arm r page => some (r, page, PAGE_COMMIT, some 1)
  | .disarm r page => some (r, page, PAGE_COMMIT, some 2)
  | .portStateWrite r m v => some (r, pgNTM + 1, 0x404 + 0x80 * m.val, some v)
  | .frameReadyWrite r k => some (r, pgSWT k.val, Swt.FRAME_READY, some 1)
  | .listGo r n k => some (r, pgJSC n.val + 1, Jsc.LIST_GO k.val - 0x1000, some 1)
  | .jobSubmit r n v => some (r, pgJSC n.val, Jsc.SUB_D 7, some v)
  | .subDStage r n k v => some (r, pgJSC n.val, Jsc.SUB_D k.val, some v)
  | .ctrValueWrite r n v => some (r, pgJSC n.val, Jsc.CTR_VALUE, some v)
  | .ctrSignal r n v => some (r, pgJSC n.val, Jsc.CTR_SIGNAL, some v)
  | .domHeadSet r n v => some (r, pgJSC n.val, Jsc.DOM_HEAD_SET, some v)
  | .thrEnd r n t => some (r, pgJSC n.val, Jsc.THR_END, some (BitVec.ofNat 32 t))
  | .progDataLoWrite r n v => some (r, pgCMP n.val + 1, Cmp.PROG_DATA_LO - 0x1000, some v)
  | .progDataHiWrite r n v => some (r, pgCMP n.val + 1, Cmp.PROG_DATA_HI - 0x1000, some v)
  | .rdmGo r k => some (r, pgDMX k.val, Dmx.RDM_GO, some 1)
  | .rdmAbort r k => some (r, pgDMX k.val, Dmx.RDM_GO, some 2)
  | .retry r k => some (r, pgLMP k.val, Lmp.LMP_ACTION, some 1)
  | .icuClaim r t => some (r, pgICU, Icu.CLAIM t.val, none)
  | .icuComplete r t v => some (r, pgICU, 0x408 + 0x20 * t.val, some (BitVec.ofNat 32 v.val))
  | .nowLatch r => some (r, pgTLN, Tln.NOW_S_LO, none)
  | .tsqHiRead r => some (r, pgNTM, Ntm.TSQ_HI, none)
  | .fwuCancel r => some (r, pgFWU, Fwu.FWU_ACTION, some 4)
  | .cntLoRead r n => some (r, pgPMC + 1 + n.val / 128, 0x400 + 8 * (n.val % 128), none)
  | .cntLoWrite r n v => some (r, pgPMC + 1 + n.val / 128, 0x400 + 8 * (n.val % 128), some v)
  | .cntHiWrite r n v => some (r, pgPMC + 1 + n.val / 128, 0x404 + 8 * (n.val % 128), some v)
  | _ => none

/-- The stage of a written access within its cycle: a reset before, a STOP, a DISARM, an ARM of commit kind 2, an ABORT, a CANCEL, a
THR_END or a counter write after what the rules say stands against it. -/
def writeStage (page off : Nat) (v : Word) : Nat :=
  match pageInfo page with
  | none => 4
  | some i =>
    if off = PAGE_CTRL then (if bit v 2 then 1 else if bit v 0 && bit v 1 then 12 else 4)
    else if off = PAGE_COMMIT then (if bit v 1 || i.block.kind == 2 then 12 else 4)
    else
      match i.block with
      | .jsc => if i.sub = 0 ∧ off = Jsc.THR_END then 12 else 4
      | .dmx => if off = Dmx.RDM_GO ∧ bit v 1 = true then 12 else 4
      | .fwu => if off = Fwu.FWU_ACTION ∧ bit v 2 = true then 12 else 4
      | .pmc => if (cntAt (i.sub * 0x1000 + off)).isSome then 12 else 4
      | _ => 4

/-- The stage of a command within its ACLK cycle. -/
def stage (c : Instr) : Nat :=
  match c with
  | .por _ _ | .resetNLow | .vcoreBrownout => 0
  | .parityError _ _ | .sramEccError _ _ _ | .dramEccError _ | .containmentTimeout _ _ | .dieFault | .rootLost | .xtalStop | .synMiss _ | .ptpSyncLoss | .watchdogExpire => 2
  | .qPop _ _ _ => 3
  | .tokenRefill _ => 2
  | .levelChange _ _ => 5
  | .icuClaim _ _ => 6
  | .icuComplete _ _ _ => 7
  | .pixelRun _ _ => 8
  | .jobComplete _ e _ => if e.val = 121 then 9 else 8
  | .macRxFrame _ _ _ _ _ _ | .ptpDelayRespRx _ _ | .dmxRxPacket _ _ => 9
  | .ptpSyncRx _ _ _ => 10
  | .portSlotCheck _ | .dmxSlotCheck _ | .fieldSlotCheck _ | .lampSlotCheck _ | .strUnderrunCheck _ | .repeatFix _ | .calWindowEnd _ _
    | .peerRailFall => 10
  | .frameStart _ | .portLaunch _ | .dmxLaunch _ | .lampLaunch _ | .fieldRelease _ | .peerLost | .tsxLaneTimeout _ => 11
  | .rdmBegin _ | .pwmPeriodBoundary _ => 12
  | .interruptEdge _ => 13
  | c =>
    match accessOf c with
    | some (_, page, off, some v) => writeStage page off v
    | _ => 8

/-- The number that orders the happenings of one kind: the PLU (R191), the target of a claim (R513), the code and then the page of
a trigger (R586), the executor of a completed job (R223). -/
def orderNumber : Instr → Option (Nat × Nat)
  | .pixelRun k _ => some (0, k.val)
  | .icuClaim _ t => some (1, t.val)
  | .recorderTrigger c p => some (2, 1024 * c.val + p.val)
  | .jobComplete _ e _ => some (3, e.val)
  | _ => none

/-- Command `c` is served before command `d` of the same cycle. -/
def servedBefore (c d : Instr) : Bool :=
  match accessOf c, accessOf d with
  | some (r, p, _), some (q, p', _) =>
    if r == q then false
    else if stage c == 6 && stage d == 6 then
      (match orderNumber c, orderNumber d with
      | some x, some y => decide (x.2 < y.2)
      | _, _ => false)
    else if p == pgICU && p' == pgICU && stage c != stage d then decide (stage c < stage d)
    else if p == p' then decide (reqCode r < reqCode q)
    else decide (stage c < stage d)
  | _, _ =>
    decide (stage c < stage d)
      || (match orderNumber c, orderNumber d with
          | some x, some y => x.1 == y.1 && decide (x.2 < y.2)
          | _, _ => false)

/-- A command joins those of its cycle, before the first that it is served before. -/
def joinCycle (l : List Instr) (c : Instr) : List Instr :=
  match l.findIdx? (servedBefore c) with
  | none => l ++ [c]
  | some n => l.take n ++ c :: l.drop n

/-- The commands of one ACLK cycle in the order in which they are served. -/
def cycleOrder (l : List Instr) : List Instr := l.foldl joinCycle []

/-- The commands of one ACLK cycle arrive. -/
def State.arrive (s : State) (l : List Instr) : State := { s with pending := s.pending ++ cycleOrder l }

end Sys2Proof.Machine
end

