-- ==== Sys2Proof/Machine/Start.lean ====
section
/-!
DEFINITION. The start sequence (R697 to R700): the boot steps, the restore of the register image (R69, R699), the configuration
part of the booted image (R673), and the enabling of the outputs.
-/
namespace Sys2Proof.Machine

def State.modBoot (s : State) (f : BootState → BootState) : State := { s with boot := f s.boot }

/-- START_STEP and LOW_HELD (R706). -/
def State.startStep (s : State) : Nat := s.fld pgSYS Sys.START_STEP (3, 0)
def State.setStep (s : State) (n : Nat) : State := s.setFld pgSYS Sys.START_STEP (3, 0) n
def State.lowHeld (s : State) : Bool := s.flag pgSYS Sys.START_STEP 8

/-! ### Steps 2 to 4 -/

/-- The boot ROM sets ENABLE of a page. -/
def State.romEnable (s : State) (page : Nat) : State := s.ctrlWrite .cc0 page (setBit (s.reg page PAGE_CTRL) 0)

/-- Step 3: RESET_CAUSE, the ICU, the watchdog, the scans (R521, R592, R661, R703); the recorder is enabled for its scan (log
entry 80). -/
def State.bootRom (s : State) : State :=
  let s1 := (s.setNat pgSYS Sys.RESET_CAUSE s.boot.cause).modBoot (fun b => { b with cause := 0 })
  let s2 := (s1.romEnable pgICU).setReg pgSYS Sys.WDT_CTRL (BitVec.ofNat 32 (2 ^ 31 + 2000))
  (s2.wdtRestart.calScan).romEnable pgEVR

/-- Step 4: the copy, and the slot to boot; without a valid slot the state becomes RECOVERY. -/
def State.slotChecks (s : State) : State :=
  let r := s.startCopy
  let s1 := r.2.bootSelect r.1
  if s1.bootSlot = 2 then s1.enterQuiet 3 else s1

/-! ### Step 7: the register image (R69, R623, R699) -/

/-- Blocks whose RO block status shows the present state of the part, not a stored one (log entry 55). -/
def liveStatus (b : Block) : Bool :=
  match b with
  | .sys | .clk | .thm | .fwu | .cal | .tln | .pwr | .syn | .eth | .ntm | .red | .evr => true
  | _ => false

/-- The RO registers that this start has loaded, or that show the part as it is now; every other register takes its value from the
image (R69; log entry 55). -/
def liveReg (b : Block) (o : Nat) : Bool :=
  match b with
  | .sys => o == Sys.SYS_STATE || o == Sys.START_STEP || o == Sys.START_MS || o == Sys.RESET_CAUSE
  | .clk => o == Clk.CLK_STATUS || o == Clk.LOCK_US || o == Clk.FIO_KHZ
  | .thm => decide (0x028 ≤ o) && decide (o ≤ 0x034) || o == Thm.THROTTLE || o == Thm.DRAM_RATE
  | .fwu => decide (0x044 ≤ o) && decide (o ≤ 0x054) || decide (0x0AC ≤ o)
  | .cal => o == Cal.VCORE_SET || o == Cal.VCORE_READ
  | .red => o == Red.PAIR_STATE || o == Red.LANE_STATUS || o == Red.TX_BACKLOG
  | .eth => o == Eth.LINK_STATUS
  | .evr => o == Evr.NEXT_SEQ || o == Evr.WR_DRAWER || o == Evr.TORN_FOUND
  | _ => false

/-- The register keeps its present value: one of HTH, of a page whose block of the image fails its CRC, or an RO register of the
present state. -/
def staysAtRestore (bad : List Nat) (key : Nat) : Bool :=
  let page := key / 0x1000
  let off := key % 0x1000
  match pageInfo page with
  | none => true
  | some i =>
    bad.contains page || i.block == .hth || (decide (0x20 ≤ off) && liveReg i.block (i.sub * 0x1000 + off))

/-- PAGE_STATUS of a page whose RO block status shows the present state. -/
def State.mergeStatus (s old : State) (bad : List Nat) (page : Nat) : State :=
  match pageInfo page with
  | none => s
  | some i =>
    if bad.contains page || !liveStatus i.block then s
    else
      let kept : Word := 0xFFFF0000 &&& ~~~ i.block.statusRws
      s.setReg page PAGE_STATUS ((s.reg page PAGE_STATUS &&& ~~~ kept) ||| (old.reg page PAGE_STATUS &&& kept))

/-- The live registers after a restore: those that stay, and the stored ones. -/
def State.restoredLive (s : State) (bad : List Nat) : Tab Word :=
  s.boot.image.live.foldl (fun (t : Tab Word) e => if staysAtRestore bad e.1 then t else Tab.set resetVal t e.1 e.2)
    (Tab.keep (staysAtRestore bad) s.live)

/-- The stored registers replace the reset values. -/
def State.loadImage (s : State) (bad : List Nat) : State :=
  let m := s.boot.image
  let s1 := { s with live := s.restoredLive bad, shadow := Tab.keep (fun k => !staysAtRestore bad k) m.shadow }
  let s2 := allPages.foldl (fun a p => a.mergeStatus s bad p) s1
  let s3 := if bad.contains pgEVR then s2
    else { s2 with evr := { s2.evr with trig := m.trig, frozenAt := s2.tln.now } }.setSts pgEVR Evr.S_FROZEN
      (bits (Tab.get resetVal m.live (regKey pgEVR PAGE_STATUS)) Evr.S_FROZEN)
  let s4 := if bad.contains pgPMC then s3 else { s3 with pmc := { s3.pmc with cnt := m.cnt, wraps := m.wraps } }
  if bad.contains pgICU then s4 else { s4 with icu := { s4.icu with owner := m.owner, level := m.level } }

/-- Statistics spans begin anew. -/
def State.spansAnew (s : State) : State :=
  (List.range 8).foldl (fun a g =>
    { a with evr := { a.evr with stats := Tab.set (fun _ => StatGroup.init) a.evr.stats g { StatGroup.init with began := a.tln.now } } }) s

/-- The restore after a Heath wake: the image, the sync inputs and Swaths of enabled pages begin, and Run is entered (R623). -/
def State.restoreImage (s : State) (bad : List Nat) (micros : Nat) : State :=
  if !s.boot.restore then s
  else
    let s1 := ((s.loadImage bad).modBoot (fun b => { b with restore := false })).spansAnew
    let s2 := if bad = [] then s1 else s1.fault pgPWR Pwr.F_IMAGE_BAD
    let s3 := (List.range 8).foldl (fun a k => if a.enabled (pgSYN k) then a.synCtrl k false false else a) s2
    let s4 := (List.range 16).foldl (fun a k => if a.enabled (pgSWT k) then a.swtCtrl k false false else a) s3
    (s4.icuChange id).pinsRefresh.woke micros

/-- An entry of the configuration part whose ADDR is a register of an assigned page is written from CC0; another is counted (R673). -/
def State.configEntry (s : State) (e : Nat × Word) : State :=
  let page := e.1 / 0x1000
  let off := e.1 % 0x1000
  let isReg := e.1 % 4 == 0 && (pageInfo page).any (fun i => decide (off < 0x1C) || (decide (off < 0x800) && (rowAt i off).isSome))
  if isReg then s.busWrite .cc0 page off e.2 else s.inc pgFWU Fwu.CFG_SKIPPED

/-! ### Steps 7 and 8 -/

/-- The firmware sets the GPIO as the configuration part of the booted image directs (R716; log entry 144). -/
def State.gpioSet (s : State) : State :=
  { s with dev := { s.dev with gpioDir := Config.gpioDir s.configPart, gpioLevel := Config.gpioLevel s.configPart } }

/-- GPIO13 to GPIO15 serve AVSBus: AVS_CLK and AVS_MDATA out, AVS_SDATA in (R650, R716). -/
def State.gpioAvs (s : State) (k : Nat) : Bool := decide (13 ≤ k) && s.flag pgCAL Cal.AVS_CFG 0

/-- GPIO `k` is an output. -/
def State.gpioIsOut (s : State) (k : Nat) : Bool := if s.gpioAvs k then k == 13 || k == 14 else s.dev.gpioDir.getLsbD k

/-- Step 8: the firmware runs, CC0 starting at ENTRY (log entry 127); it loads INCR_FREE, makes the analog run of R659, re-arms an activation, and in TEST_MODE the
state becomes TEST. Step 9 begins. -/
def State.startFirmware (s : State) : State :=
  let s1 := ((s.setStep 8).setNat pgFWU Fwu.RUN_VERSION (imageVersion s.bootHeader)).modBoot (fun b => { b with step8 := s.tln.now })
  let s2 := s1.loadIncrFree
  let s3 := if s2.flag pgCAL Cal.CAL_CTRL 3 then s2.runAnalog else s2
  let s4 := if s3.dev.testMode then s3.enterQuiet 2 else s3
  ((((s4.romEnable (pgCCR 0)).setStep 9).sealRecord).rearm).gpioSet

/-- Steps 7 and 8; in RECOVERY no image gives settings and no firmware runs (log entry 79). -/
def State.startSettings (s : State) (bad : List Nat) (micros : Nat) : State :=
  let s1 := s.setStep 7
  if s.bootSlot = 2 then s1
  else
    let s2 := s1.restoreImage bad micros
    (s2.configPart.foldl State.configEntry s2).startFirmware

/-! ### Steps 5 and 6 -/

/-- Step 6: DRAM training; a DRAM that was trained since the last package reset is not trained again. -/
def State.startTraining (s : State) : State :=
  if s.boot.trained then (s.setStep 6).startSettings [] 0 else s.setStep 6

/-- Step 5: the move to ROOT once it is locked, and the judgement of the first measurement (R636). -/
def State.startRoot (s : State) : State :=
  if !s.aclkRuns || s.startStep != 5 || s.lowHeld || s.sts pgCLK Clk.S_ROOT_LOCK != 1 then s
  else
    let s1 := if s.sts pgCLK Clk.S_ON_ROOT = 1 then s else s.clockMove .cc0 true
    if s1.fld pgTHM Thm.T_DIE (15, 0) = 0x8000 then s1
    else if s1.thm.lowHold ∧ s1.boot.trained = false then
      ((s1.setFlag pgSYS Sys.START_STEP 8 true).setSts pgTHM Thm.S_HEATING 1).trigger 0x813 pgTHM
    else s1.startTraining

/-- The hold of R636 ends at the first measurement of -38 °C or more. -/
def State.releaseHold (s : State) : State :=
  if s.aclkRuns && s.lowHeld && decide (-608 ≤ s.tDie) then
    ((s.setFlag pgSYS Sys.START_STEP 8 false).setSts pgTHM Thm.S_HEATING 0).startTraining
  else s

/-- The start: steps 1 to 4 once, then step 5 as far as it goes. -/
def State.startSequence (s : State) : State :=
  if !s.aclkRuns then s
  else if s.startStep ≤ 2 then ((s.bootRom.slotChecks).setStep 5).startRoot
  else s.startRoot

/-- DRAM training completes. -/
def State.trainingDone (s : State) (bad : List Nat) (micros : Nat) : State :=
  if !s.aclkRuns || s.startStep != 6 then s
  else
    let s1 := s.modBoot (fun b => { b with trained := true })
    { s1 with dev := { s1.dev with dramValid := true } }.startSettings bad micros

/-! ### Step 9 (R700) -/

/-- The outputs may be enabled: the timeline is LOCKED or in HOLDOVER, the wait has ended, or there is no source. -/
def State.outputsDue (s : State) : Bool := s.tlState == 2 || s.tlState == 3 || s.boot.waited || s.tlSrc == 0

/-- The firmware enables the outputs. -/
def State.outputEnable (s : State) (ms : Nat) : State :=
  if !s.aclkRuns || s.startStep != 9 || s.sysState != 0 || s.fld pgSYS Sys.SYS_ID (7, 0) != 0x42 || !s.outputsDue then s
  else
    let was := s.claimEnabled
    let shadow := setBit (s.shd pgRED Red.PAIR_CTRL) 0
    let s1 := (s.setReg pgRED Red.PAIR_CTRL (setBit (s.reg pgRED Red.PAIR_CTRL) 0)).setShd pgRED Red.PAIR_CTRL shadow
    let s2 := ((s1.claimChanged was).setSts pgSYS Sys.S_OUTPUTS_ON 1).irq 4
    ((s2.moveSys 1).setNat pgSYS Sys.START_MS (min 0xFFFFFFFF ms)).setStep 10

/-- OUT_WAIT_MS has passed since step 8 began. -/
def State.outWait (s : State) : State :=
  let w := s.fld pgSYS Sys.SYS_CFG (31, 16)
  if !s.aclkRuns || s.startStep != 9 then s
  else s.atOrNow (s.boot.step8 + (if w = 0 then 1000 else w) * 1000000 * NS) (fun a => a.modBoot (fun b => { b with waited := true }))

/-! ### Commands -/

def execStartSequence (s : State) : Host.Outcome State Fault Refusal := done s.startSequence
def execDramTrainingDone (badPages : List Nat) (micros : Nat) (s : State) : Host.Outcome State Fault Refusal :=
  done (s.trainingDone badPages micros)
def execOutputEnable (ms : Nat) (s : State) : Host.Outcome State Fault Refusal := done (s.outputEnable ms)
def execOutWaitExpire (s : State) : Host.Outcome State Fault Refusal := done s.outWait

/-- ROOT locks; a start that waits for it goes on. -/
def execRootLock (micros fioKhz : Nat) (s : State) : Host.Outcome State Fault Refusal :=
  done (s.rootLock micros fioKhz).startRoot

/-- A measurement; a start that waits for it, or that it held, goes on. -/
def execThermalMeasure (t : Thermals) (s : State) : Host.Outcome State Fault Refusal :=
  done (s.thermalMeasure t).startRoot.releaseHold

end Sys2Proof.Machine
end

