-- ==== Sys2Proof/Machine/RedRx.lean ====
section
/-!
DEFINITION. Frames received on the Tsudex link (R539 to R542, R545 to R547, R552 to R556, R564, R593, R645): reception, delivery
in SEQ order, and what each message does.
-/
namespace Sys2Proof.Machine

/-! ### Lockstep on the standby (R545 to R547) -/

/-- Whether the device applies the ACTIVE device's events. -/
def State.follower (s : State) : Bool := !s.stileHeld

/-- A byte of a range recorded as local (R558). -/
def State.localByte (s : State) (a : Nat) : Bool := (List.range 64).any (fun i => s.localRange i && s.mirrorHas 0 i a 1)

/-- Mirrored memory bytes but for those of local ranges. -/
def State.setMirrored (s : State) (a : Nat) : List Byte → State
  | [] => s
  | b :: t => State.setMirrored (if s.localByte a then s else s.setByte a b) (a + 1) t

/-- MEMWRITE: ADDR in [39:0]; CNT 1476 counts the bytes (R594). -/
def State.rxMemWrite (s : State) (p : List Byte) : State :=
  let d := p.drop 8
  (s.setMirrored (beAt p 0 8 % 2 ^ 40) d).count 1476 d.length

/-- One 12-byte entry of a REGWRITE: ARM counts from the entry's stamp (R547); a page recorded as local keeps its own values
(R558). -/
def State.rxRegEntry (s : State) (e : List Byte) : State :=
  let a := beAt e 0 4
  let page := a / 0x1000
  if !mirroredReg page (plainOff (a % 0x1000)) || s.localPage page then s
  else
    s.pageWrite .cc0 (extendStamp (s.tln.now / NS) (beAt e 8 4) * NS) page (a % 0x1000) (BitVec.ofNat 32 (beAt e 4 4))

def State.rxRegWrite (s : State) : Nat → List Byte → State
  | 0, _ => s
  | n + 1, l => if l.length < 12 then s else State.rxRegWrite (s.rxRegEntry (l.take 12)) n (l.drop 12)

/-- A complete input: class 0 a MAC frame, 1 a DMX packet, 2 a field-port frame, 3 an RDM response (R545). -/
def State.rxInput (s : State) (cls port epoch : Nat) (stamp d : List Byte) : State :=
  let at_ := (TimeVal.ofWire stamp).time
  match cls with
  | 0 =>
    let r := s.ingOffer (port % 4) stamp d
    if r.2 then r.1 else (r.1.mergeOffer (port % 4) stamp d epoch).1
  | 1 => s.dmxAccept (port % 12) epoch at_ d
  | 2 => s.fldTake (port % 8) at_ d
  | 3 => s.rdmReplayed (port % 12) d
  | _ => s

/-- INPUT: its fragments follow one another; the one with LAST completes the input. -/
def State.rxInputPart (s : State) (p : List Byte) : State :=
  let d := p.drop 22
  let off := beAt p 4 2
  let held := if off = 0 then [] else s.red.rxParts
  if off ≠ held.length then s
  else
    let all := held ++ d
    if (beAt p 2 2).testBit 0 then
      ((s.setRed { s.red with rxParts := [] }).count 1476 all.length).rxInput (beAt p 0 1) (beAt p 1 1) (beAt p 6 4)
        (slice p 10 12) all
    else s.setRed { s.red with rxParts := all }

/-- The anchor that a start of a FIX consumes, and the first that no start has consumed after it (R254, R255). -/
def State.toldAnchor (s : State) (k start : Nat) (m : Int) (free : Bool) : Option Int × Option Int :=
  if !ANCHORED_SRC (s.swtSrc k) then (none, (s.swath k).nextAnchor)
  else if free then (none, (s.nextWindow k s.nowUnits).next)
  else
    let x := (start : Rat) - (m : Rat) * s.linePeriod k - 64
    let j := s.anchorNear k x (fun a => decide (x ≤ a))
    (some j, some (j + 1))

/-- FIX: the standby takes the start, unless it fixes that Swath's starts itself; one that comes less than 2,000 ns before its
start ends lockstep (R546, R552, R558). -/
def State.rxFix (s : State) (p : List Byte) : State :=
  let k := beAt p 0 1 % 16
  let start := (roundGrid (((TimeVal.ofWire (slice p 4 12)).units : Nat) : Int)).toNat
  let flags := beAt p 24 4
  if s.ownStarts k then s
  else
    let s1 := if timeOfUnits start < s.tln.now + 2000 * NS then s.dropOut else s
    let m := signed 16 (beAt p 2 2)
    let anchor := s1.toldAnchor k start m (flags.testBit 1)
    (s1.setSwath k { s1.swath k with nextAnchor := anchor.2 }).placeStart k
      ⟨start, beAt p 16 4, beAt p 1 1 == 1, m, anchor.1⟩ (if flags.testBit 0 then 1 else 0)
      (flags.testBit 1)

/-- RELEASE: the standby makes it, after those that R210 holds here (R210, R375). -/
def State.rxRelease (s : State) (p : List Byte) : State :=
  let k := beAt p 0 1 % 16
  if s.ownStarts k then s
  else (s.setSwath k { s.swath k with told := (s.swath k).told ++ [(beAt p 4 4, beAt p 8 4)] }).releaseTold k

def State.rxReady (s : State) (p : List Byte) : State :=
  let k := beAt p 0 1 % 16
  if s.ownStarts k then s else s.peerIsReady k (beAt p 4 4)

/-- SENSE: class 0 a lamp's on-sample, 1 its off-sample, 2 a remote sensor (R472). -/
def State.rxSense (s : State) (p : List Byte) : State :=
  let i := beAt p 1 1
  let code := beAt p 2 2
  let t := (TimeVal.ofWire (slice p 4 12)).units
  match beAt p 0 1 with
  | 0 => s.lampSample (i % 32) true (code % 4096) t
  | 1 => s.lampSample (i % 32) false (code % 4096) t
  | 2 => s.tsnsTake (i % 4) (signed 16 code)
  | _ => s

/-- OUTCOME: class 0 a field port's counters, 1 an RDM outcome, 2 a lamp's RETRY (R323, R441, R472). -/
def State.rxOutcome (s : State) (p : List Byte) : State :=
  let j := beAt p 1 1
  let d := p.drop 4
  match beAt p 0 1 with
  | 0 => (List.range 6).foldl (fun (a : State) (i : Nat) => a.setNat (pgFLD (j % 8)) (Fld.ATTEMPTS + 4 * i) (beAt d (4 * i) 4)) s
  | 1 =>
    let a := s.setNat (pgDMX (j % 12)) Dmx.RDM_RESULT (beAt d 0 4)
    a.rdmDone (j % 12) (beAt d 0 4 % 8)
  | 2 => s.lampRetry (j % 32)
  | _ => s

/-! ### ROLE and SYNC (R554 to R556, R564 to R566) -/

def State.rxSwapAt (s : State) (p : List Byte) : State :=
  if s.stileHeld then s
  else
    let t := (roundGrid (((TimeVal.ofWire (slice p 4 12)).units : Nat) : Int)).toNat
    let s1 := s.setRed { s.red with plan := some ⟨s.tln.now, some t, false⟩ }
    if s1.syncState = 3 ∧ s1.aligned = true then s1.roleMsg 3 (some t) else s1

/-- SWAP_ACK counts when it arrives by S_w - 10 µs. -/
def State.rxSwapAck (s : State) : State :=
  match s.red.plan with
  | some ⟨asked, some t, _⟩ =>
    if s.stileHeld ∧ s.tln.now + 10000 * NS ≤ timeOfUnits t then s.setRed { s.red with plan := some ⟨asked, some t, true⟩ } else s
  | _ => s

def State.rxRole (s : State) (p : List Byte) : State :=
  match beAt p 0 1 with
  | 1 => s.planSwap
  | 2 => s.rxSwapAt p
  | 3 => s.rxSwapAck
  | 4 => if s.stileHeld then s else s.setRed { s.red with plan := none }
  | 5 => s.planSwap
  | _ => s

/-- CONVERGED marks the convergence start on a standby that has not met it: the Swath whose latest start it names. -/
def State.rxConverged (s : State) (p : List Byte) : State :=
  let v := TimeVal.ofWire (slice p 8 12)
  if s.stileHeld || s.syncState != 1 || s.red.cutover.isNone || s.red.convergeAt.isSome then s
  else
    match (List.range 16).find? (fun k => (s.swath k).lastStart.any (fun u =>
        (gridTimeVal u).s == v.s && (gridTimeVal u).ns == v.ns)) with
    | none => s
    | some k => s.setRed { s.red with convergeAt := some (k, s.nat (pgSWT k) Swt.FRAME_COUNT), carryReset := [0, 1, 2, 3] }

def State.rxSync (s : State) (p : List Byte) : State :=
  match beAt p 0 1 with
  | 1 => s.beginCopy
  | 2 => s.copyBegun (beAt p 4 4)
  | 3 =>
    if s.stileHeld ∨ s.syncState ≠ 1 then s
    else s.setRed { s.red with
      cutover := some (roundGrid (((TimeVal.ofWire (slice p 8 12)).units : Nat) : Int)).toNat }
  | 4 => s.unsync
  | 5 => s.rxConverged p
  | _ => s

/-! ### Management messages (R593, R645) -/

def State.rxThermal (s : State) (p : List Byte) : State :=
  s.setNat pgTHM Thm.PEER_THERMAL (2 ^ 31 + beAt p 2 1 * 65536 + beAt p 0 2)

def State.rxRecord (s : State) (p : List Byte) : State :=
  (s.setNat pgEVR Evr.PEER_REC_SEQ (beAt p 0 4)).setNat pgEVR Evr.PEER_REC_CODE (beAt p 4 2 % 4096)

/-! ### Delivery (R540) -/

/-- What one delivered frame does, by its TYPE. Data-plane frames of another generation are discarded (R555). -/
def State.deliver (s : State) (f : TsxFrame) : State :=
  if f.plane = 0 ∧ (s.stileHeld = true ∨ f.gen ≠ s.nat pgRED Red.SYNC_GEN) then s
  else
    match f.type with
    | 0x10 => s.rxInputPart f.payload
    | 0x11 => s.rxMemWrite f.payload
    | 0x12 => if s.follower then s.rxRegWrite f.payload.length f.payload else s
    | 0x13 => s.rxFix f.payload
    | 0x14 => s.rxRelease f.payload
    | 0x15 => s.rxReady f.payload
    | 0x16 => s.peerDigest (Digest.ofPayload f.payload)
    | 0x17 => s.rxSense f.payload
    | 0x18 => s.rxOutcome f.payload
    | 0x20 => s.rxRole f.payload
    | 0x21 => s.rxSync f.payload
    | 0x22 => s.applyBlock f.payload
    | 0x30 => s.rxThermal f.payload
    | 0x31 => s.rxRecord f.payload
    | 0x32 => s.imageRx f.payload
    | _ => s

/-- Delivers the frame expected next, then the held ones that follow it. -/
def State.deliverFrom (s : State) (f : TsxFrame) : Nat → State
  | 0 => s
  | n + 1 =>
    let s1 := (s.setRed { s.red with rxNext := (f.seq + 1) % 2 ^ 32 }).deliver f
    match s1.red.rxHeld.find? (fun g => g.seq == s1.red.rxNext) with
    | none => s1
    | some g => State.deliverFrom (s1.setRed { s1.red with rxHeld := s1.red.rxHeld.filter (fun h => h != g) }) g n

/-- A sequenced frame: in order, ahead of its turn (held, with a NAK at the first gap), already delivered, or beyond the window. -/
def State.rxSequenced (s : State) (lane : Nat) (f : TsxFrame) : State :=
  let d := (f.seq + 2 ^ 32 - s.red.rxNext) % 2 ^ 32
  if d = 0 then s.deliverFrom f (s.red.rxHeld.length + 1)
  else if 2 ^ 31 ≤ d ∨ 256 < d ∨ s.red.rxHeld.any (fun g => g.seq == f.seq) = true then s.inc pgRED Red.TSX_DROPS
  else
    let s1 := s.setRed { s.red with rxHeld := s.red.rxHeld ++ [f] }
    if s.red.rxHeld = [] then s1.tsxLink lane 0x03 (beBytes 4 s.red.rxNext) else s1

/-- A frame arrives on a lane: a bad CRC drops it; a good one keeps the lane UP and acknowledges. -/
def State.rxFrame (s : State) (m : TsxMsg) (f : State → State) : State :=
  if !s.laneOn m.lane.val || !s.aclkRuns then s
  else
    let s1 := (s.inc pgRED Red.RX_FRAMES).count 1473 1
    if !m.good then (s1.inc pgRED Red.CRC_ERRORS).count 1475 1
    else f ((s1.laneHeard m.lane.val).takeAck (m.ack % 2 ^ 32))

/-- A link frame acts at once (R540). -/
def State.rxLink (s : State) (m : TsxMsg) (f : State → State) : State := s.rxFrame m f

/-- A sequenced frame of a type and plane. -/
def State.rxSeq (s : State) (m : TsxMsg) (type plane : Nat) (payload : List Byte) : State :=
  s.rxFrame m (fun a => a.rxSequenced m.lane.val ⟨m.seq % 2 ^ 32, type, plane, m.gen % 2 ^ 32, payload, 0⟩)

/-- The payload with the OP that its row names. -/
def withOp (op : Nat) (p : List Byte) : List Byte := beBytes 1 op ++ p.drop 1

/-! ### Commands: link frames -/

def execTsxIdle (m : TsxMsg) (s : State) : Host.Outcome State Fault Refusal := done (s.rxLink m id)
def execHello (m : TsxMsg) (s : State) : Host.Outcome State Fault Refusal := done (s.rxLink m (fun a => a.peerHello m.payload))
def execNak (m : TsxMsg) (s : State) : Host.Outcome State Fault Refusal :=
  done (s.rxLink m (fun a => a.resendFrom (beAt m.payload 0 4)))
/-- On the standby the next millisecond's TIME_REQ leaves; on the active device one is received and answered (R549). -/
def execTimeReq (m : TsxMsg) (s : State) : Host.Outcome State Fault Refusal :=
  done (if s.stileHeld then s.rxLink m (fun a => a.answerTime m) else s.sendTimeReq)
def execTimeRsp (m : TsxMsg) (s : State) : Host.Outcome State Fault Refusal :=
  done (s.rxLink m (fun a => a.peerExchange m.payload))

/-! ### Commands: lockstep -/

def execInput (m : TsxMsg) (s : State) : Host.Outcome State Fault Refusal := done (s.rxSeq m 0x10 0 m.payload)
def execMemwrite (m : TsxMsg) (s : State) : Host.Outcome State Fault Refusal := done (s.rxSeq m 0x11 0 m.payload)
def execRegwrite (m : TsxMsg) (s : State) : Host.Outcome State Fault Refusal := done (s.rxSeq m 0x12 1 m.payload)
def execFix (m : TsxMsg) (s : State) : Host.Outcome State Fault Refusal := done (s.rxSeq m 0x13 0 m.payload)
/-- A release by the device itself (R251), or one that the ACTIVE device tells (R546). -/
def execRelease (k : Fin 16) (told : Option TsxMsg) (s : State) : Host.Outcome State Fault Refusal :=
  done (match told with
    | none => s.release k.val
    | some m => s.rxSeq m 0x14 0 (beBytes 1 k.val ++ m.payload.drop 1))
def execReady (m : TsxMsg) (s : State) : Host.Outcome State Fault Refusal := done (s.rxSeq m 0x15 0 m.payload)
def execDigest (m : TsxMsg) (s : State) : Host.Outcome State Fault Refusal := done (s.rxSeq m 0x16 0 m.payload)
def execSense (m : TsxMsg) (s : State) : Host.Outcome State Fault Refusal := done (s.rxSeq m 0x17 0 m.payload)
def execOutcome (m : TsxMsg) (s : State) : Host.Outcome State Fault Refusal := done (s.rxSeq m 0x18 0 m.payload)

/-! ### Commands: roles, synchronisation, management -/

def execSwapReq (m : TsxMsg) (s : State) : Host.Outcome State Fault Refusal := done (s.rxSeq m 0x20 1 (withOp 1 m.payload))
def execSwapAt (m : TsxMsg) (s : State) : Host.Outcome State Fault Refusal := done (s.rxSeq m 0x20 1 (withOp 2 m.payload))
def execSwapAck (m : TsxMsg) (s : State) : Host.Outcome State Fault Refusal := done (s.rxSeq m 0x20 1 (withOp 3 m.payload))
def execSwapCancel (m : TsxMsg) (s : State) : Host.Outcome State Fault Refusal := done (s.rxSeq m 0x20 1 (withOp 4 m.payload))
def execRevertReq (m : TsxMsg) (s : State) : Host.Outcome State Fault Refusal := done (s.rxSeq m 0x20 1 (withOp 5 m.payload))
def execResyncReq (m : TsxMsg) (s : State) : Host.Outcome State Fault Refusal := done (s.rxSeq m 0x21 1 (withOp 1 m.payload))
def execCopyBegin (m : TsxMsg) (s : State) : Host.Outcome State Fault Refusal := done (s.rxSeq m 0x21 1 (withOp 2 m.payload))
def execCutover (m : TsxMsg) (s : State) : Host.Outcome State Fault Refusal := done (s.rxSeq m 0x21 1 (withOp 3 m.payload))
def execSyncBreak (m : TsxMsg) (s : State) : Host.Outcome State Fault Refusal := done (s.rxSeq m 0x21 1 (withOp 4 m.payload))
def execConverged (m : TsxMsg) (s : State) : Host.Outcome State Fault Refusal := done (s.rxSeq m 0x21 1 (withOp 5 m.payload))
def execCopy (m : TsxMsg) (s : State) : Host.Outcome State Fault Refusal := done (s.rxSeq m 0x22 0 m.payload)
def execThermal (m : TsxMsg) (s : State) : Host.Outcome State Fault Refusal := done (s.rxSeq m 0x30 2 m.payload)
def execRecord (m : TsxMsg) (s : State) : Host.Outcome State Fault Refusal := done (s.rxSeq m 0x31 2 m.payload)
def execImageBegin (m : TsxMsg) (s : State) : Host.Outcome State Fault Refusal := done (s.rxSeq m 0x32 2 (withOp 1 m.payload))
def execImageData (m : TsxMsg) (s : State) : Host.Outcome State Fault Refusal := done (s.rxSeq m 0x32 2 (withOp 2 m.payload))
def execImageEnd (m : TsxMsg) (s : State) : Host.Outcome State Fault Refusal := done (s.rxSeq m 0x32 2 (withOp 3 m.payload))
def execImageAbort (m : TsxMsg) (s : State) : Host.Outcome State Fault Refusal := done (s.rxSeq m 0x32 2 (withOp 4 m.payload))

end Sys2Proof.Machine
end

