-- ==== Sys2Proof/Machine/SideBus.lean ====
section
/-!
DEFINITION. The SPI target (R727) and the JTAG port (R729, R730).
-/
namespace Sys2Proof.Machine

/-! ### Reads of a device address (R43, R47, R49) -/

/-- A 32-bit read of a device address by a requester: a register with what its read does, a word of memory, or 0 with UNMAPPED
where nothing is assigned. The Control window and the SPI target reach 64 MiB (R47, R727). -/
def State.busRead (s : State) (q : Requester) (a : Nat) : Word × State :=
  if isHost q && decide (0x4000000 ≤ a) then (0, s)
  else if isMemory a then (BitVec.ofNat 32 (leVal (s.bytes a 4)), s)
  else if isMapped a then s.readReg q (a / 0x1000) (a % 0x1000)
  else (0, s.unmapped)

/-- A read of 1, 2, 4 or 8 bytes: a narrow one gives the addressed bytes of its register, and one of 64 bits is two of 32 bits,
the lower address first (R49). -/
def State.busReadAt (s : State) (q : Requester) (a size : Nat) : BitVec 64 × State :=
  if size = 8 then
    let lo := s.busRead q a
    let hi := lo.2.busRead q (a + 4)
    (hi.1 ++ lo.1, hi.2)
  else
    let x := s.busRead q (a - a % 4)
    (BitVec.ofNat 64 (x.1.toNat / 2 ^ (8 * (a % 4)) % 2 ^ (8 * size)), x.2)

/-- A 32-bit read as an access, with the value on the requester's bus. -/
def State.busReadOut (s : State) (q : Requester) (a : Nat) : State :=
  s.access (fun b => (b.busRead q a).2.emit (.read (b.busRead q a).1))

/-! ### SPI frames (R727) -/

/-- Each complete group of 4 data bytes writes one register; the address increases by 4. -/
def State.spiWrites (s : State) (a : Nat) : Nat → List Byte → State
  | 0, _ => s
  | n + 1, l =>
    if l.length < 4 then s
    else State.spiWrites (s.busWriteAt .spi s.tln.now a 4 (BitVec.ofNat 64 (beAt l 0 4))) (a + 4) n (l.drop 4)

/-- `count` registers are read, one after the other. -/
def State.spiReads (s : State) (a : Nat) : Nat → State
  | 0 => s
  | n + 1 => State.spiReads (s.busReadOut .spi a) (a + 4) n

def execSpiWrite (addr : Nat) (data : List Byte) (s : State) : Host.Outcome State Fault Refusal :=
  done (s.spiWrites addr data.length data)
def execSpiRead (addr count : Nat) (s : State) : Host.Outcome State Fault Refusal := done (s.spiReads addr count)

/-! ### JTAG (R729, R730) -/

/-- The instruction in effect: EXTEST, CLAMP and HIGHZ act as BYPASS unless SYS_STATE is TEST. -/
def State.jtagActs (s : State) : JtagInstr :=
  match s.jtag with
  | .extest => if s.sysState = 2 then .extest else .bypass
  | .clamp => if s.sysState = 2 then .clamp else .bypass
  | .highz => if s.sysState = 2 then .highz else .bypass
  | i => i

/-- Boundary scan holds the pins. -/
def State.jtagHoldsPins (s : State) : Bool :=
  match s.jtagActs with
  | .extest => true
  | .clamp => true
  | .highz => true
  | .bypass => false
  | .idcode => false
  | .samplePreload => false

/-- The device's IDCODE (R729). -/
def JTAG_IDCODE : Word := 0x19484A6F

def State.jtagLoad (s : State) (i : JtagInstr) : State := { s with jtag := i }

def execJtagBypass (s : State) : Host.Outcome State Fault Refusal := done (s.jtagLoad .bypass)
/-- IDCODE is shifted out. -/
def execJtagIdcode (s : State) : Host.Outcome State Fault Refusal := done ((s.jtagLoad .idcode).emit (.read JTAG_IDCODE))
def execJtagSamplePreload (s : State) : Host.Outcome State Fault Refusal := done (s.jtagLoad .samplePreload)
def execJtagExtest (s : State) : Host.Outcome State Fault Refusal := done (s.jtagLoad .extest)
def execJtagClamp (s : State) : Host.Outcome State Fault Refusal := done (s.jtagLoad .clamp)
def execJtagHighz (s : State) : Host.Outcome State Fault Refusal := done (s.jtagLoad .highz)

end Sys2Proof.Machine
end

