-- ==== Sys2Proof/Machine/Dispatch.lean ====
section
/-!
DEFINITION. What each command does to the state beside the queue: one arm per row of spec/opcode_table.json.
-/
namespace Sys2Proof.Machine

def exec (i : Instr) (s : State) : Host.Outcome State Fault Refusal :=
  match i with
  | .registerWrite req addr size value => Sys2Proof.Machine.execRegisterWrite req addr size value s
  | .setAliasWrite req page off value => Sys2Proof.Machine.execSetAliasWrite req page off value s
  | .clrAliasWrite req page off value hwSet captured presenceLow => Sys2Proof.Machine.execClrAliasWrite req page off value hwSet captured presenceLow s
  | .pageEnable req page on => Sys2Proof.Machine.execPageEnable req page on s
  | .pageStop req page on => Sys2Proof.Machine.execPageStop req page on s
  | .pageReset req page scope => Sys2Proof.Machine.execPageReset req page scope s
  | .arm req page => Sys2Proof.Machine.execArm req page s
  | .disarm req page => Sys2Proof.Machine.execDisarm req page s
  | .resetComplete level inst => Sys2Proof.Machine.execResetComplete level inst s
  | .unmappedAccess req addr write => Sys2Proof.Machine.execUnmappedAccess req addr write s
  | .parityError page masked => Sys2Proof.Machine.execParityError page masked s
  | .dieFault => Sys2Proof.Machine.execDieFault s
  | .containmentTimeout level inst => Sys2Proof.Machine.execContainmentTimeout level inst s
  | .dramEccError corrected => Sys2Proof.Machine.execDramEccError corrected s
  | .sramEccError region corrected masked => Sys2Proof.Machine.execSramEccError region corrected masked s
  | .por roleB testMode => Sys2Proof.Machine.execPor roleB testMode s
  | .resetNLow => Sys2Proof.Machine.execResetNLow s
  | .vcoreBrownout => Sys2Proof.Machine.execVcoreBrownout s
  | .clockMove req toRoot => Sys2Proof.Machine.execClockMove req toRoot s
  | .rootLock micros fioKhz => Sys2Proof.Machine.execRootLock micros fioKhz s
  | .rootLost => Sys2Proof.Machine.execRootLost s
  | .xtalStop => Sys2Proof.Machine.execXtalStop s
  | .nowLatch req => Sys2Proof.Machine.execNowLatch req s
  | .step req => Sys2Proof.Machine.execStep req s
  | .slew req => Sys2Proof.Machine.execSlew req s
  | .slewAbort req => Sys2Proof.Machine.execSlewAbort req s
  | .slewDone => Sys2Proof.Machine.execSlewDone s
  | .servoEvent e interval => Sys2Proof.Machine.execServoEvent e interval s
  | .holdExpired => Sys2Proof.Machine.execHoldExpired s
  | .synEdge k alt lines ltc => Sys2Proof.Machine.execSynEdge k alt lines ltc s
  | .synMiss k => Sys2Proof.Machine.execSynMiss k s
  | .leapApply => Sys2Proof.Machine.execLeapApply s
  | .ppsOutPulse => Sys2Proof.Machine.execPpsOutPulse s
  | .ltcOutFrame => Sys2Proof.Machine.execLtcOutFrame s
  | .frameOutPulse => Sys2Proof.Machine.execFrameOutPulse s
  | .release k told => Sys2Proof.Machine.execRelease k told s
  | .listGo req n k => Sys2Proof.Machine.execListGo req n k s
  | .listDescriptorRead n k => Sys2Proof.Machine.execListDescriptorRead n k s
  | .jobSubmit req n d7 => Sys2Proof.Machine.execJobSubmit req n d7 s
  | .subDStage req n k value => Sys2Proof.Machine.execSubDStage req n k value s
  | .ctrValueWrite req n value => Sys2Proof.Machine.execCtrValueWrite req n value s
  | .ctrSignal req n value => Sys2Proof.Machine.execCtrSignal req n value s
  | .counterDecrement n c => Sys2Proof.Machine.execCounterDecrement n c s
  | .domHeadSet req n value => Sys2Proof.Machine.execDomHeadSet req n value s
  | .jobDispatch n cls => Sys2Proof.Machine.execJobDispatch n cls s
  | .jobComplete n executor cycles => Sys2Proof.Machine.execJobComplete n executor cycles s
  | .jobRetire n dom => Sys2Proof.Machine.execJobRetire n dom s
  | .jobTimeout n executor => Sys2Proof.Machine.execJobTimeout n executor s
  | .orderStall n dom => Sys2Proof.Machine.execOrderStall n dom s
  | .lagBlockEnd plu => Sys2Proof.Machine.execLagBlockEnd plu s
  | .spillReadback n => Sys2Proof.Machine.execSpillReadback n s
  | .threadPlace => Sys2Proof.Machine.execThreadPlace s
  | .threadQuantum core => Sys2Proof.Machine.execThreadQuantum core s
  | .thrEnd req n thread => Sys2Proof.Machine.execThrEnd req n thread s
  | .pixelRun plu waits => Sys2Proof.Machine.execPixelRun plu waits s
  | .nop plu => Sys2Proof.Machine.execNop plu s
  | .endRun plu => Sys2Proof.Machine.execEndRun plu s
  | .rep plu => Sys2Proof.Machine.execRep plu s
  | .endr plu => Sys2Proof.Machine.execEndr plu s
  | .pset plu => Sys2Proof.Machine.execPset plu s
  | .plog plu => Sys2Proof.Machine.execPlog plu s
  | .cmp plu => Sys2Proof.Machine.execCmp plu s
  | .mov plu => Sys2Proof.Machine.execMov plu s
  | .vldi plu => Sys2Proof.Machine.execVldi plu s
  | .vsplat plu => Sys2Proof.Machine.execVsplat plu s
  | .vext plu => Sys2Proof.Machine.execVext plu s
  | .swz plu => Sys2Proof.Machine.execSwz plu s
  | .sel plu => Sys2Proof.Machine.execSel plu s
  | .sldi plu => Sys2Proof.Machine.execSldi plu s
  | .sadd plu => Sys2Proof.Machine.execSadd plu s
  | .ssub plu => Sys2Proof.Machine.execSsub plu s
  | .smul plu => Sys2Proof.Machine.execSmul plu s
  | .smin plu => Sys2Proof.Machine.execSmin plu s
  | .smax plu => Sys2Proof.Machine.execSmax plu s
  | .sget plu => Sys2Proof.Machine.execSget plu s
  | .smp plu => Sys2Proof.Machine.execSmp plu s
  | .blnd plu => Sys2Proof.Machine.execBlnd plu s
  | .adds plu => Sys2Proof.Machine.execAdds plu s
  | .subs plu => Sys2Proof.Machine.execSubs plu s
  | .mul plu => Sys2Proof.Machine.execMul plu s
  | .mad plu => Sys2Proof.Machine.execMad plu s
  | .min plu => Sys2Proof.Machine.execMin plu s
  | .max plu => Sys2Proof.Machine.execMax plu s
  | .absd plu => Sys2Proof.Machine.execAbsd plu s
  | .avg plu => Sys2Proof.Machine.execAvg plu s
  | .shr plu => Sys2Proof.Machine.execShr plu s
  | .shl plu => Sys2Proof.Machine.execShl plu s
  | .lerp plu => Sys2Proof.Machine.execLerp plu s
  | .mat plu => Sys2Proof.Machine.execMat plu s
  | .lut plu => Sys2Proof.Machine.execLut plu s
  | .luts plu => Sys2Proof.Machine.execLuts plu s
  | .dose plu => Sys2Proof.Machine.execDose plu s
  | .dith plu => Sys2Proof.Machine.execDith plu s
  | .st plu => Sys2Proof.Machine.execSt plu s
  | .progDataLoWrite req n value => Sys2Proof.Machine.execProgDataLoWrite req n value s
  | .progDataHiWrite req n value => Sys2Proof.Machine.execProgDataHiWrite req n value s
  | .memoryWindowWrite addr data => Sys2Proof.Machine.execMemoryWindowWrite addr data s
  | .ingestWriteResume k => Sys2Proof.Machine.execIngestWriteResume k s
  | .frameReadyWrite req k => Sys2Proof.Machine.execFrameReadyWrite req k s
  | .newFrameFix k => Sys2Proof.Machine.execNewFrameFix k s
  | .repeatFix k => Sys2Proof.Machine.execRepeatFix k s
  | .frameStart k => Sys2Proof.Machine.execFrameStart k s
  | .swathHold k => Sys2Proof.Machine.execSwathHold k s
  | .holdLimitExpire k => Sys2Proof.Machine.execHoldLimitExpire k s
  | .rectCrcResult k r => Sys2Proof.Machine.execRectCrcResult k r s
  | .portSlotCheck k => Sys2Proof.Machine.execPortSlotCheck k s
  | .portLaunch k => Sys2Proof.Machine.execPortLaunch k s
  | .portEmissionEnd k n => Sys2Proof.Machine.execPortEmissionEnd k n s
  | .dmxSlotCheck k => Sys2Proof.Machine.execDmxSlotCheck k s
  | .dmxLaunch k => Sys2Proof.Machine.execDmxLaunch k s
  | .dmxPacketEnd k n => Sys2Proof.Machine.execDmxPacketEnd k n s
  | .dmxRxPacket k line => Sys2Proof.Machine.execDmxRxPacket k line s
  | .dmxRxLoss k => Sys2Proof.Machine.execDmxRxLoss k s
  | .rdmGo req k => Sys2Proof.Machine.execRdmGo req k s
  | .rdmAbort req k => Sys2Proof.Machine.execRdmAbort req k s
  | .rdmBegin k => Sys2Proof.Machine.execRdmBegin k s
  | .rdmResponse k start stop faulty data => Sys2Proof.Machine.execRdmResponse k start stop faulty data s
  | .rdmNoResponse k => Sys2Proof.Machine.execRdmNoResponse k s
  | .rdmDiscoveryEnd k heard framing => Sys2Proof.Machine.execRdmDiscoveryEnd k heard framing s
  | .rdmWindowEnd k => Sys2Proof.Machine.execRdmWindowEnd k s
  | .txrTailWrite req m r value => Sys2Proof.Machine.execTxrTailWrite req m r value s
  | .rxrTailWrite req m r value => Sys2Proof.Machine.execRxrTailWrite req m r value s
  | .macTxStart m => Sys2Proof.Machine.execMacTxStart m s
  | .placedLaunch m => Sys2Proof.Machine.execPlacedLaunch m s
  | .macTxDone m => Sys2Proof.Machine.execMacTxDone m s
  | .macRxFrame m ago err corrected lost data => Sys2Proof.Machine.execMacRxFrame m ago err corrected lost data s
  | .pauseEnd m => Sys2Proof.Machine.execPauseEnd m s
  | .pauseSend m => Sys2Proof.Machine.execPauseSend m s
  | .modTimerExpire m ring => Sys2Proof.Machine.execModTimerExpire m ring s
  | .ethLinkChange m up => Sys2Proof.Machine.execEthLinkChange m up s
  | .preemptVerify m answered => Sys2Proof.Machine.execPreemptVerify m answered s
  | .fdbAdd req => Sys2Proof.Machine.execFdbAdd req s
  | .fdbDelete req => Sys2Proof.Machine.execFdbDelete req s
  | .fdbLookup req => Sys2Proof.Machine.execFdbLookup req s
  | .fdbFlush req => Sys2Proof.Machine.execFdbFlush req s
  | .fdbDone => Sys2Proof.Machine.execFdbDone s
  | .fdbAge mac => Sys2Proof.Machine.execFdbAge mac s
  | .mergeApply => Sys2Proof.Machine.execMergeApply s
  | .mergeSourceLoss k r => Sys2Proof.Machine.execMergeSourceLoss k r s
  | .strUnderrunCheck e => Sys2Proof.Machine.execStrUnderrunCheck e s
  | .streamLaunch e => Sys2Proof.Machine.execStreamLaunch e s
  | .streamTerminateSend k => Sys2Proof.Machine.execStreamTerminateSend k s
  | .e131DiscoverySend => Sys2Proof.Machine.execE131DiscoverySend s
  | .ptpSyncSend m => Sys2Proof.Machine.execPtpSyncSend m s
  | .ptpAnnounceSend m => Sys2Proof.Machine.execPtpAnnounceSend m s
  | .ptpDelayReqSend => Sys2Proof.Machine.execPtpDelayReqSend s
  | .ptpDelayRespTimeout => Sys2Proof.Machine.execPtpDelayRespTimeout s
  | .ptpDelayReqRx m ago frame => Sys2Proof.Machine.execPtpDelayReqRx m ago frame s
  | .ptpDelayRespSend => Sys2Proof.Machine.execPtpDelayRespSend s
  | .ptpSyncRx m ago frame => Sys2Proof.Machine.execPtpSyncRx m ago frame s
  | .ptpFollowUpRx m frame => Sys2Proof.Machine.execPtpFollowUpRx m frame s
  | .ptpDelayRespRx m frame => Sys2Proof.Machine.execPtpDelayRespRx m frame s
  | .ptpSyncLoss => Sys2Proof.Machine.execPtpSyncLoss s
  | .portStateWrite req m value => Sys2Proof.Machine.execPortStateWrite req m value s
  | .tsqHiRead req => Sys2Proof.Machine.execTsqHiRead req s
  | .linkSettleEnd m => Sys2Proof.Machine.execLinkSettleEnd m s
  | .fieldSlotCheck k => Sys2Proof.Machine.execFieldSlotCheck k s
  | .fieldRelease k => Sys2Proof.Machine.execFieldRelease k s
  | .fieldTxAttempt k => Sys2Proof.Machine.execFieldTxAttempt k s
  | .fieldCollision k late => Sys2Proof.Machine.execFieldCollision k late s
  | .fieldBackoffEnd k => Sys2Proof.Machine.execFieldBackoffEnd k s
  | .fieldTxDone k => Sys2Proof.Machine.execFieldTxDone k s
  | .fieldRxFrame k good ago data => Sys2Proof.Machine.execFieldRxFrame k good ago data s
  | .plcaStatusChange k on => Sys2Proof.Machine.execPlcaStatusChange k on s
  | .lampSlotCheck n => Sys2Proof.Machine.execLampSlotCheck n s
  | .lampLaunch n => Sys2Proof.Machine.execLampLaunch n s
  | .pwmPeriodBoundary n => Sys2Proof.Machine.execPwmPeriodBoundary n s
  | .lampOnSample k code => Sys2Proof.Machine.execLampOnSample k code s
  | .lampOffSample k code => Sys2Proof.Machine.execLampOffSample k code s
  | .diagTimeout k => Sys2Proof.Machine.execDiagTimeout k s
  | .retry req k => Sys2Proof.Machine.execRetry req k s
  | .keeperOff n => Sys2Proof.Machine.execKeeperOff n s
  | .tsnsMeasure n v1 v2 => Sys2Proof.Machine.execTsnsMeasure n v1 v2 s
  | .derateUpdate n => Sys2Proof.Machine.execDerateUpdate n s
  | .queueWrite who j q data last => Sys2Proof.Machine.execQueueWrite who j q data last s
  | .qCommit req j q lastBytes => Sys2Proof.Machine.execQCommit req j q lastBytes s
  | .qRewind who j q => Sys2Proof.Machine.execQRewind who j q s
  | .qPop req j q => Sys2Proof.Machine.execQPop req j q s
  | .qCtrlWrite req j q value => Sys2Proof.Machine.execQCtrlWrite req j q value s
  | .interruptEdge src => Sys2Proof.Machine.execInterruptEdge src s
  | .levelChange src level => Sys2Proof.Machine.execLevelChange src level s
  | .icuClaim req t => Sys2Proof.Machine.execIcuClaim req t s
  | .icuComplete req t src => Sys2Proof.Machine.execIcuComplete req t src s
  | .countClr req src => Sys2Proof.Machine.execCountClr req src s
  | .msixSend group => Sys2Proof.Machine.execMsixSend group s
  | .peerRailFall => Sys2Proof.Machine.execPeerRailFall s
  | .peerRailRise => Sys2Proof.Machine.execPeerRailRise s
  | .holdoffClaim => Sys2Proof.Machine.execHoldoffClaim s
  | .holdoffConfirm => Sys2Proof.Machine.execHoldoffConfirm s
  | .stileConflict => Sys2Proof.Machine.execStileConflict s
  | .hello m => Sys2Proof.Machine.execHello m s
  | .helloSend lane => Sys2Proof.Machine.execHelloSend lane s
  | .stileMismatchTimeout => Sys2Proof.Machine.execStileMismatchTimeout s
  | .tsxLaneLock lane lock => Sys2Proof.Machine.execTsxLaneLock lane lock s
  | .tsxLaneTimeout lane => Sys2Proof.Machine.execTsxLaneTimeout lane s
  | .tsxRetxTimeout => Sys2Proof.Machine.execTsxRetxTimeout s
  | .nak m => Sys2Proof.Machine.execNak m s
  | .timeReq m => Sys2Proof.Machine.execTimeReq m s
  | .timeRsp m => Sys2Proof.Machine.execTimeRsp m s
  | .input m => Sys2Proof.Machine.execInput m s
  | .memwrite m => Sys2Proof.Machine.execMemwrite m s
  | .regwrite m => Sys2Proof.Machine.execRegwrite m s
  | .fix m => Sys2Proof.Machine.execFix m s
  | .ready m => Sys2Proof.Machine.execReady m s
  | .digest m => Sys2Proof.Machine.execDigest m s
  | .sense m => Sys2Proof.Machine.execSense m s
  | .outcome m => Sys2Proof.Machine.execOutcome m s
  | .swapReq m => Sys2Proof.Machine.execSwapReq m s
  | .swapAt m => Sys2Proof.Machine.execSwapAt m s
  | .swapAck m => Sys2Proof.Machine.execSwapAck m s
  | .swapCancel m => Sys2Proof.Machine.execSwapCancel m s
  | .revertReq m => Sys2Proof.Machine.execRevertReq m s
  | .resyncReq m => Sys2Proof.Machine.execResyncReq m s
  | .copyBegin m => Sys2Proof.Machine.execCopyBegin m s
  | .cutover m => Sys2Proof.Machine.execCutover m s
  | .syncBreak m => Sys2Proof.Machine.execSyncBreak m s
  | .converged m => Sys2Proof.Machine.execConverged m s
  | .copy m => Sys2Proof.Machine.execCopy m s
  | .thermal m => Sys2Proof.Machine.execThermal m s
  | .thermalSend => Sys2Proof.Machine.execThermalSend s
  | .record m => Sys2Proof.Machine.execRecord m s
  | .imageBegin m => Sys2Proof.Machine.execImageBegin m s
  | .imageData m => Sys2Proof.Machine.execImageData m s
  | .imageEnd m => Sys2Proof.Machine.execImageEnd m s
  | .imageAbort m => Sys2Proof.Machine.execImageAbort m s
  | .fixApplyDeadline => Sys2Proof.Machine.execFixApplyDeadline s
  | .swap req => Sys2Proof.Machine.execSwap req s
  | .resync req => Sys2Proof.Machine.execResync req s
  | .detach req => Sys2Proof.Machine.execDetach req s
  | .fallbackEnd req => Sys2Proof.Machine.execFallbackEnd req s
  | .safeStore req => Sys2Proof.Machine.execSafeStore req s
  | .swapInstant => Sys2Proof.Machine.execSwapInstant s
  | .swapSearchTimeout => Sys2Proof.Machine.execSwapSearchTimeout s
  | .swapPathCheck => Sys2Proof.Machine.execSwapPathCheck s
  | .pathCheckEnd mismatches => Sys2Proof.Machine.execPathCheckEnd mismatches s
  | .revertHoldExpire => Sys2Proof.Machine.execRevertHoldExpire s
  | .drillDue => Sys2Proof.Machine.execDrillDue s
  | .recorderTrigger code page => Sys2Proof.Machine.execRecorderTrigger code page s
  | .tokenRefill code => Sys2Proof.Machine.execTokenRefill code s
  | .recordBegin => Sys2Proof.Machine.execRecordBegin s
  | .recordComplete => Sys2Proof.Machine.execRecordComplete s
  | .statSpanClose group => Sys2Proof.Machine.execStatSpanClose group s
  | .freeze req => Sys2Proof.Machine.execFreeze req s
  | .thaw req => Sys2Proof.Machine.execThaw req s
  | .freezeExpire => Sys2Proof.Machine.execFreezeExpire s
  | .erase req presenceLow => Sys2Proof.Machine.execErase req presenceLow s
  | .eraseDone => Sys2Proof.Machine.execEraseDone s
  | .recorderScan => Sys2Proof.Machine.execRecorderScan s
  | .trigDataAccess req write => Sys2Proof.Machine.execTrigDataAccess req write s
  | .pendingPeakRead req => Sys2Proof.Machine.execPendingPeakRead req s
  | .cntLoRead req n => Sys2Proof.Machine.execCntLoRead req n s
  | .cntLoWrite req n value => Sys2Proof.Machine.execCntLoWrite req n value s
  | .cntHiWrite req n value => Sys2Proof.Machine.execCntHiWrite req n value s
  | .counterDump busy => Sys2Proof.Machine.execCounterDump busy s
  | .lagMaxRead req => Sys2Proof.Machine.execLagMaxRead req s
  | .tPeakRead req => Sys2Proof.Machine.execTPeakRead req s
  | .pwrReqRun req => Sys2Proof.Machine.execPwrReqRun req s
  | .pwrReqDoze req seen pins => Sys2Proof.Machine.execPwrReqDoze req seen pins s
  | .pwrReqRetain req seen pins => Sys2Proof.Machine.execPwrReqRetain req seen pins s
  | .pwrReqHeath req seen pins => Sys2Proof.Machine.execPwrReqHeath req seen pins s
  | .powerEntryProceed => Sys2Proof.Machine.execPowerEntryProceed s
  | .msgLimitTimeout => Sys2Proof.Machine.execMsgLimitTimeout s
  | .recDrainTimeout => Sys2Proof.Machine.execRecDrainTimeout s
  | .timelineCapture micros => Sys2Proof.Machine.execTimelineCapture micros s
  | .wakeInEdge pins rising held ticks => Sys2Proof.Machine.execWakeInEdge pins rising held ticks s
  | .heathAlarm => Sys2Proof.Machine.execHeathAlarm s
  | .sealCheck follows ticks => Sys2Proof.Machine.execSealCheck follows ticks s
  | .xt32Fail ticks => Sys2Proof.Machine.execXt32Fail ticks s
  | .heathBrownout => Sys2Proof.Machine.execHeathBrownout s
  | .ioRampDone => Sys2Proof.Machine.execIoRampDone s
  | .coreRampDone roleB testMode => Sys2Proof.Machine.execCoreRampDone roleB testMode s
  | .thermalMeasure t => Sys2Proof.Machine.execThermalMeasure t s
  | .analogTempMeasure value broken => Sys2Proof.Machine.execAnalogTempMeasure value broken s
  | .thermalRestart => Sys2Proof.Machine.execThermalRestart s
  | .throttleUpdate n => Sys2Proof.Machine.execThrottleUpdate n s
  | .dramRateRead rate0 rate1 hot => Sys2Proof.Machine.execDramRateRead rate0 rate1 hot s
  | .marginMeasure slack plus => Sys2Proof.Machine.execMarginMeasure slack plus s
  | .avsSettle mv ma error => Sys2Proof.Machine.execAvsSettle mv ma error s
  | .pmbAlert fault => Sys2Proof.Machine.execPmbAlert fault s
  | .chainMeasure chain errs => Sys2Proof.Machine.execChainMeasure chain errs s
  | .runTime req => Sys2Proof.Machine.execRunTime req s
  | .calWindowEnd nt d => Sys2Proof.Machine.execCalWindowEnd nt d s
  | .runAnalog req => Sys2Proof.Machine.execRunAnalog req s
  | .analogRunDone codes => Sys2Proof.Machine.execAnalogRunDone codes s
  | .calAbort req => Sys2Proof.Machine.execCalAbort req s
  | .ovrWrite req presenceLow => Sys2Proof.Machine.execOvrWrite req presenceLow s
  | .stage req => Sys2Proof.Machine.execStage req s
  | .stageDone => Sys2Proof.Machine.execStageDone s
  | .activate req => Sys2Proof.Machine.execActivate req s
  | .fwuCancel req => Sys2Proof.Machine.execFwuCancel req s
  | .sendPeer req => Sys2Proof.Machine.execSendPeer req s
  | .goldenWrite req presenceLow => Sys2Proof.Machine.execGoldenWrite req presenceLow s
  | .fuseProg req presenceLow => Sys2Proof.Machine.execFuseProg req presenceLow s
  | .fuseDone => Sys2Proof.Machine.execFuseDone s
  | .partnerAccept req => Sys2Proof.Machine.execPartnerAccept req s
  | .actTimeReached => Sys2Proof.Machine.execActTimeReached s
  | .actDeferredRelease => Sys2Proof.Machine.execActDeferredRelease s
  | .startSequence => Sys2Proof.Machine.execStartSequence s
  | .dramTrainingDone badPages micros => Sys2Proof.Machine.execDramTrainingDone badPages micros s
  | .outputEnable ms => Sys2Proof.Machine.execOutputEnable ms s
  | .outWaitExpire => Sys2Proof.Machine.execOutWaitExpire s
  | .sysStateRun req testMode => Sys2Proof.Machine.execSysStateRun req testMode s
  | .sysStateTest req => Sys2Proof.Machine.execSysStateTest req s
  | .sysStateRecovery req => Sys2Proof.Machine.execSysStateRecovery req s
  | .wdtKick req => Sys2Proof.Machine.execWdtKick req s
  | .watchdogExpire => Sys2Proof.Machine.execWatchdogExpire s
  | .spiWrite addr data => Sys2Proof.Machine.execSpiWrite addr data s
  | .spiRead addr count => Sys2Proof.Machine.execSpiRead addr count s
  | .jtagBypass => Sys2Proof.Machine.execJtagBypass s
  | .jtagIdcode => Sys2Proof.Machine.execJtagIdcode s
  | .jtagSamplePreload => Sys2Proof.Machine.execJtagSamplePreload s
  | .jtagExtest => Sys2Proof.Machine.execJtagExtest s
  | .jtagClamp => Sys2Proof.Machine.execJtagClamp s
  | .jtagHighz => Sys2Proof.Machine.execJtagHighz s
  | .firstApplicationOfVheath => Sys2Proof.Machine.execFirstApplicationOfVheath s
  | .linkInL0 link => Sys2Proof.Machine.execLinkInL0 link s
  | .goldenWriteDone => Sys2Proof.Machine.execGoldenWriteDone s
  | .timelineRestart ticks micros => Sys2Proof.Machine.execTimelineRestart ticks micros s
  | .peerLost => Sys2Proof.Machine.execPeerLost s
  | .tsxIdle m => Sys2Proof.Machine.execTsxIdle m s

end Sys2Proof.Machine
end

