-- ==== Sys2Proof/WellFormed.lean ====
section
/-!
DEFINITION. The commands that the device can be sent: operands within the ranges that the rules give them.
-/
namespace Sys2Proof

/-- A number of at most `n` bits. -/
def fits (n v : Nat) : Bool := v < 2 ^ n

/-- An access of 1, 2, 4 or 8 bytes at a multiple of its size, in the 40-bit space (R42, R49). -/
def accessOk (addr size : Nat) : Bool := [1, 2, 4, 8].contains size && addr % size == 0 && fits 40 addr

/-- The Control window and the SPI target reach 64 MiB (R47, R727). -/
def windowOk (r : Requester) (addr : Nat) : Bool :=
  match r with
  | .pcie | .spi => addr < 0x4000000
  | _ => true

/-- The base offset of a register that an alias names (R13, R51). -/
def aliasOk (off : Nat) : Bool := off < 0x400 && off % 4 == 0

/-- The first address of an SPI frame (R727). -/
def spiAddrOk (addr : Nat) : Bool := addr < 0x4000000 && addr % 4 == 0

/-- A Tsudex frame's fields within their widths, LEN at most 2,040 (R539). -/
def TsxMsg.sound (m : TsxMsg) : Bool := fits 32 m.seq && fits 32 m.ack && fits 32 m.gen && m.payload.length ≤ 2040

/-- The command is well formed. -/
def Instr.wellFormed : Instr → Bool
  | .registerWrite r addr size value => accessOk addr size && windowOk r addr && fits (8 * size) value.toNat
  | .setAliasWrite _ page off _ => page < 1024 && aliasOk off
  | .clrAliasWrite _ page off _ _ _ _ => page < 1024 && aliasOk off
  | .pageEnable _ page _ => page < 1024
  | .pageStop _ page _ => page < 1024
  | .pageReset _ page scope => page < 1024 && scope < 8
  | .arm _ page => page < 1024
  | .disarm _ page => page < 1024
  | .resetComplete level inst => level < 3 && inst < 1024
  | .unmappedAccess _ addr _ => fits 40 addr
  | .parityError page _ => page < 1024
  | .dieFault => true
  | .containmentTimeout level inst => level < 3 && inst < 1024
  | .dramEccError _ => true
  | .sramEccError _ _ _ => true
  | .por _ _ => true
  | .resetNLow => true
  | .vcoreBrownout => true
  | .clockMove _ _ => true
  | .rootLock _ _ => true
  | .rootLost => true
  | .xtalStop => true
  | .nowLatch _ => true
  | .step _ => true
  | .slew _ => true
  | .slewAbort _ => true
  | .slewDone => true
  | .servoEvent _ interval => interval != some 0
  | .holdExpired => true
  | .synEdge _ _ lines _ => fits 12 lines
  | .synMiss _ => true
  | .leapApply => true
  | .ppsOutPulse => true
  | .ltcOutFrame => true
  | .frameOutPulse => true
  | .release _ told => told.all (fun m => m.sound && m.payload.length == 12)
  | .listGo _ _ _ => true
  | .listDescriptorRead _ _ => true
  | .jobSubmit _ _ _ => true
  | .subDStage _ _ _ _ => true
  | .ctrValueWrite _ _ _ => true
  | .ctrSignal _ _ _ => true
  | .counterDecrement _ _ => true
  | .domHeadSet _ _ _ => true
  | .jobDispatch _ _ => true
  | .jobComplete _ _ _ => true
  | .jobRetire _ _ => true
  | .jobTimeout _ _ => true
  | .orderStall _ _ => true
  | .lagBlockEnd _ => true
  | .spillReadback _ => true
  | .threadPlace => true
  | .threadQuantum _ => true
  | .thrEnd _ _ thread => fits 32 thread
  | .pixelRun _ _ => true
  | .nop _ => true
  | .endRun _ => true
  | .rep _ => true
  | .endr _ => true
  | .pset _ => true
  | .plog _ => true
  | .cmp _ => true
  | .mov _ => true
  | .vldi _ => true
  | .vsplat _ => true
  | .vext _ => true
  | .swz _ => true
  | .sel _ => true
  | .sldi _ => true
  | .sadd _ => true
  | .ssub _ => true
  | .smul _ => true
  | .smin _ => true
  | .smax _ => true
  | .sget _ => true
  | .smp _ => true
  | .blnd _ => true
  | .adds _ => true
  | .subs _ => true
  | .mul _ => true
  | .mad _ => true
  | .min _ => true
  | .max _ => true
  | .absd _ => true
  | .avg _ => true
  | .shr _ => true
  | .shl _ => true
  | .lerp _ => true
  | .mat _ => true
  | .lut _ => true
  | .luts _ => true
  | .dose _ => true
  | .dith _ => true
  | .st _ => true
  | .progDataLoWrite _ _ _ => true
  | .progDataHiWrite _ _ _ => true
  | .memoryWindowWrite addr data => !data.isEmpty && addr + data.length ≤ 2 ^ 33
  | .ingestWriteResume _ => true
  | .frameReadyWrite _ _ => true
  | .newFrameFix _ => true
  | .repeatFix _ => true
  | .frameStart _ => true
  | .swathHold _ => true
  | .holdLimitExpire _ => true
  | .rectCrcResult _ _ => true
  | .portSlotCheck _ => true
  | .portLaunch _ => true
  | .portEmissionEnd _ _ => true
  | .dmxSlotCheck _ => true
  | .dmxLaunch _ => true
  | .dmxPacketEnd _ _ => true
  | .dmxRxPacket _ line => !line.isEmpty
  | .dmxRxLoss _ => true
  | .rdmGo _ _ => true
  | .rdmAbort _ _ => true
  | .rdmBegin _ => true
  | .rdmResponse _ _ _ _ _ => true
  | .rdmNoResponse _ => true
  | .rdmDiscoveryEnd _ _ _ => true
  | .rdmWindowEnd _ => true
  | .txrTailWrite _ _ _ _ => true
  | .rxrTailWrite _ _ _ _ => true
  | .macTxStart _ => true
  | .placedLaunch _ => true
  | .macTxDone _ => true
  | .macRxFrame _ _ _ _ _ data => !data.isEmpty
  | .pauseEnd _ => true
  | .pauseSend _ => true
  | .modTimerExpire _ _ => true
  | .ethLinkChange _ _ => true
  | .preemptVerify _ _ => true
  | .fdbAdd _ => true
  | .fdbDelete _ => true
  | .fdbLookup _ => true
  | .fdbFlush _ => true
  | .fdbDone => true
  | .fdbAge _ => true
  | .mergeApply => true
  | .mergeSourceLoss _ _ => true
  | .strUnderrunCheck _ => true
  | .streamLaunch _ => true
  | .streamTerminateSend _ => true
  | .e131DiscoverySend => true
  | .ptpSyncSend _ => true
  | .ptpAnnounceSend _ => true
  | .ptpDelayReqSend => true
  | .ptpDelayRespTimeout => true
  | .ptpDelayReqRx _ _ _ => true
  | .ptpDelayRespSend => true
  | .ptpSyncRx _ _ _ => true
  | .ptpFollowUpRx _ _ => true
  | .ptpDelayRespRx _ _ => true
  | .ptpSyncLoss => true
  | .portStateWrite _ _ _ => true
  | .tsqHiRead _ => true
  | .linkSettleEnd _ => true
  | .fieldSlotCheck _ => true
  | .fieldRelease _ => true
  | .fieldTxAttempt _ => true
  | .fieldCollision _ _ => true
  | .fieldBackoffEnd _ => true
  | .fieldTxDone _ => true
  | .fieldRxFrame _ _ _ data => !data.isEmpty
  | .plcaStatusChange _ _ => true
  | .lampSlotCheck _ => true
  | .lampLaunch _ => true
  | .pwmPeriodBoundary _ => true
  | .lampOnSample _ _ => true
  | .lampOffSample _ _ => true
  | .diagTimeout _ => true
  | .retry _ _ => true
  | .keeperOff _ => true
  | .tsnsMeasure _ v1 v2 => v1 ≤ 3300000 && v2 ≤ 3300000
  | .derateUpdate _ => true
  | .queueWrite who _ _ data last => who.isNone || (data.length == 4 && !last)
  | .qCommit _ _ _ _ => true
  | .qRewind _ _ _ => true
  | .qPop _ _ _ => true
  | .qCtrlWrite _ _ _ _ => true
  | .interruptEdge src => src < 512
  | .levelChange src _ => src < 512
  | .icuClaim _ _ => true
  | .icuComplete _ _ _ => true
  | .countClr _ _ => true
  | .msixSend _ => true
  | .peerRailFall => true
  | .peerRailRise => true
  | .holdoffClaim => true
  | .holdoffConfirm => true
  | .stileConflict => true
  | .hello m => m.sound && m.payload.length == 24
  | .helloSend _ => true
  | .stileMismatchTimeout => true
  | .tsxLaneLock _ _ => true
  | .tsxLaneTimeout _ => true
  | .tsxRetxTimeout => true
  | .nak m => m.sound && m.payload.length == 4
  | .timeReq m => m.sound && m.payload.length == 12
  | .timeRsp m => m.sound && m.payload.length == 36
  | .input m => m.sound && m.payload.length ≥ 22
  | .memwrite m => m.sound && m.payload.length ≥ 8
  | .regwrite m => m.sound && m.payload.length % 12 == 0
  | .fix m => m.sound && m.payload.length == 28
  | .ready m => m.sound && m.payload.length == 8
  | .digest m => m.sound && m.payload.length == 48
  | .sense m => m.sound && m.payload.length == 16
  | .outcome m => m.sound && m.payload.length ≥ 4
  | .swapReq m => m.sound && m.payload.length == 16
  | .swapAt m => m.sound && m.payload.length == 16
  | .swapAck m => m.sound && m.payload.length == 16
  | .swapCancel m => m.sound && m.payload.length == 16
  | .revertReq m => m.sound && m.payload.length == 16
  | .resyncReq m => m.sound && m.payload.length == 20
  | .copyBegin m => m.sound && m.payload.length == 20
  | .cutover m => m.sound && m.payload.length == 20
  | .syncBreak m => m.sound && m.payload.length == 20
  | .converged m => m.sound && m.payload.length == 20
  | .copy m => m.sound && m.payload.length ≥ 12
  | .thermal m => m.sound && m.payload.length == 4
  | .thermalSend => true
  | .record m => m.sound && m.payload.length == 20
  | .imageBegin m => m.sound && m.payload.length == 8
  | .imageData m => m.sound && m.payload.length ≥ 8
  | .imageEnd m => m.sound && m.payload.length == 8
  | .imageAbort m => m.sound && m.payload.length == 8
  | .fixApplyDeadline => true
  | .swap _ => true
  | .resync _ => true
  | .detach _ => true
  | .fallbackEnd _ => true
  | .safeStore _ => true
  | .swapInstant => true
  | .swapSearchTimeout => true
  | .swapPathCheck => true
  | .pathCheckEnd _ => true
  | .revertHoldExpire => true
  | .drillDue => true
  | .recorderTrigger _ _ => true
  | .tokenRefill _ => true
  | .recordBegin => true
  | .recordComplete => true
  | .statSpanClose _ => true
  | .freeze _ => true
  | .thaw _ => true
  | .freezeExpire => true
  | .erase _ _ => true
  | .eraseDone => true
  | .recorderScan => true
  | .trigDataAccess _ _ => true
  | .pendingPeakRead _ => true
  | .cntLoRead _ _ => true
  | .cntLoWrite _ _ _ => true
  | .cntHiWrite _ _ _ => true
  | .counterDump _ => true
  | .lagMaxRead _ => true
  | .tPeakRead _ => true
  | .pwrReqRun _ => true
  | .pwrReqDoze _ _ _ => true
  | .pwrReqRetain _ _ _ => true
  | .pwrReqHeath _ _ _ => true
  | .powerEntryProceed => true
  | .msgLimitTimeout => true
  | .recDrainTimeout => true
  | .timelineCapture _ => true
  | .wakeInEdge _ _ _ _ => true
  | .heathAlarm => true
  | .sealCheck _ _ => true
  | .xt32Fail _ => true
  | .heathBrownout => true
  | .ioRampDone => true
  | .coreRampDone _ _ => true
  | .thermalMeasure t => t.reading.length == 15 && t.broken.all (fun r => r < 15) && t.units.all (fun u => u.1 < 1024)
  | .analogTempMeasure _ _ => true
  | .thermalRestart => true
  | .throttleUpdate _ => true
  | .dramRateRead _ _ _ => true
  | .marginMeasure _ _ => true
  | .avsSettle _ _ _ => true
  | .pmbAlert _ => true
  | .chainMeasure _ errs => errs.length == 4
  | .runTime _ => true
  | .calWindowEnd _ d => 0 < d
  | .runAnalog _ => true
  | .analogRunDone codes => codes.length == 36 && codes.all (fun l => l.length == 3)
  | .calAbort _ => true
  | .ovrWrite _ _ => true
  | .stage _ => true
  | .stageDone => true
  | .activate _ => true
  | .fwuCancel _ => true
  | .sendPeer _ => true
  | .goldenWrite _ _ => true
  | .fuseProg _ _ => true
  | .fuseDone => true
  | .partnerAccept _ => true
  | .actTimeReached => true
  | .actDeferredRelease => true
  | .startSequence => true
  | .dramTrainingDone _ _ => true
  | .outputEnable _ => true
  | .outWaitExpire => true
  | .sysStateRun _ _ => true
  | .sysStateTest _ => true
  | .sysStateRecovery _ => true
  | .wdtKick _ => true
  | .watchdogExpire => true
  | .spiWrite addr _ => spiAddrOk addr
  | .spiRead addr _ => spiAddrOk addr
  | .jtagBypass => true
  | .jtagIdcode => true
  | .jtagSamplePreload => true
  | .jtagExtest => true
  | .jtagClamp => true
  | .jtagHighz => true
  | .firstApplicationOfVheath => true
  | .linkInL0 _ => true
  | .goldenWriteDone => true
  | .timelineRestart _ _ => true
  | .peerLost => true
  | .tsxIdle m => m.sound && m.payload.length == 0

end Sys2Proof
end

