-- ==== Sys2Proof/Safety.lean ====
section
/-!
DEFINITION. What claims speak of: the parts of the state that each command may change, where a requester's access acts, and
what a sound state is.
-/
namespace Sys2Proof

/-! ### What each command may change -/

/-- The parts of the state beside the queue. -/
inductive Part where
  | live | shadow | armed | mem | prog | queues | dev | icu | tln | syn | evr | pmc | out | swt | launch | snaps
  | progStage | plu | region | port | dmx | cluster | lamp | field | red | merge | mac | bridge | ntm | ing | str
  | pwr | hth | boot | thm | cal | fwu | jtag
  deriving DecidableEq, Repr

/-- The part is the same in both states. -/
def Part.same (p : Part) (s t : Machine.State) : Prop :=
  match p with
  | .live => t.live = s.live
  | .shadow => t.shadow = s.shadow
  | .armed => t.armed = s.armed
  | .mem => t.mem = s.mem
  | .prog => t.prog = s.prog
  | .queues => t.queues = s.queues
  | .dev => t.dev = s.dev
  | .icu => t.icu = s.icu
  | .tln => t.tln = s.tln
  | .syn => t.syn = s.syn
  | .evr => t.evr = s.evr
  | .pmc => t.pmc = s.pmc
  | .out => t.out = s.out
  | .swt => t.swt = s.swt
  | .launch => t.launch = s.launch
  | .snaps => t.snaps = s.snaps
  | .progStage => t.progStage = s.progStage
  | .plu => t.plu = s.plu
  | .region => t.region = s.region
  | .port => t.port = s.port
  | .dmx => t.dmx = s.dmx
  | .cluster => t.cluster = s.cluster
  | .lamp => t.lamp = s.lamp
  | .field => t.field = s.field
  | .red => t.red = s.red
  | .merge => t.merge = s.merge
  | .mac => t.mac = s.mac
  | .bridge => t.bridge = s.bridge
  | .ntm => t.ntm = s.ntm
  | .ing => t.ing = s.ing
  | .str => t.str = s.str
  | .pwr => t.pwr = s.pwr
  | .hth => t.hth = s.hth
  | .boot => t.boot = s.boot
  | .thm => t.thm = s.thm
  | .cal => t.cal = s.cal
  | .fwu => t.fwu = s.fwu
  | .jtag => t.jtag = s.jtag

/-- The number of a part: its place among State's fields. -/
def Part.bit : Part → Nat
  | .live => 1 | .shadow => 2 | .armed => 3 | .mem => 4 | .prog => 5 | .queues => 6 | .dev => 7 | .icu => 8
  | .tln => 9 | .syn => 10 | .evr => 11 | .pmc => 12 | .out => 13 | .swt => 14 | .launch => 15 | .snaps => 16
  | .progStage => 17 | .plu => 18 | .region => 19 | .port => 20 | .dmx => 21 | .cluster => 22 | .lamp => 23
  | .field => 24 | .red => 25 | .merge => 26 | .mac => 27 | .bridge => 28 | .ntm => 29 | .ing => 30 | .str => 31
  | .pwr => 32 | .hth => 33 | .boot => 34 | .thm => 35 | .cal => 36 | .fwu => 37 | .jtag => 38

/-- What raising an interrupt may change. -/
def irqParts : List Part := [.live, .shadow, .icu, .dmx]

/-- What counting may change. -/
def countParts : List Part := [.live, .shadow, .icu, .pmc, .dmx]

/-- What raising a recorder trigger may change. -/
def trigParts : List Part := [.live, .shadow, .queues, .icu, .evr, .pmc, .dmx]

/-- What the passing of time to an instant may change. -/
def timeParts : List Part := [.live, .shadow, .icu, .tln, .syn, .dmx]

/-- What telling the partner may change. -/
def tellParts : List Part := [.live, .shadow, .queues, .dmx, .icu, .evr, .pmc, .out, .red]

/-- What the end of a job may change. -/
def jobParts : List Part := [.live, .shadow, .mem, .queues, .dmx, .icu, .evr, .pmc, .out, .red, .plu, .region]

/-- Every part but those named. -/
def allBut (l : List Part) : List Part :=
  [.live, .shadow, .armed, .mem, .prog, .queues, .dev, .icu, .tln, .syn, .evr, .pmc, .out,
    .swt, .launch, .snaps, .progStage, .plu, .region, .port, .dmx, .cluster, .lamp, .field, .red, .merge,
    .mac, .bridge, .ntm, .ing, .str, .pwr, .hth, .boot, .thm, .cal, .fwu, .jtag].filter (fun p => !l.contains p)

/-- The parts of the state that a command may change. -/
def Instr.changes : Instr → List Part
  | .registerWrite .. | .setAliasWrite .. | .clrAliasWrite .. | .pageEnable .. | .pageStop .. | .pageReset ..
  | .arm .. | .disarm .. | .por .. | .resetNLow | .vcoreBrownout | .rootLock .. | .release .. | .listGo ..
  | .jobSubmit .. | .subDStage .. | .ctrValueWrite .. | .ctrSignal .. | .domHeadSet .. | .thrEnd ..
  | .progDataLoWrite .. | .progDataHiWrite .. | .frameReadyWrite .. | .rdmGo .. | .rdmAbort .. | .retry ..
  | .input .. | .memwrite .. | .regwrite .. | .fix .. | .ready .. | .digest .. | .sense .. | .outcome ..
  | .swapReq .. | .swapAt .. | .swapAck .. | .swapCancel .. | .revertReq .. | .resyncReq .. | .copyBegin ..
  | .cutover .. | .syncBreak .. | .converged .. | .copy .. | .thermal .. | .record .. | .imageBegin ..
  | .imageData .. | .imageEnd .. | .imageAbort .. | .heathBrownout | .coreRampDone .. | .thermalMeasure ..
  | .analogTempMeasure .. | .activate .. | .actTimeReached | .actDeferredRelease | .startSequence
  | .dramTrainingDone .. | .sysStateRun .. | .sysStateTest .. | .sysStateRecovery .. | .wdtKick .. | .watchdogExpire
  | .spiWrite .. => allBut []
  | .resetComplete .. => [.live, .shadow, .dev, .swt]
  | .unmappedAccess .. | .icuClaim .. | .helloSend .. | .pendingPeakRead .. | .cntLoRead .. | .lagMaxRead ..
  | .tPeakRead .. => countParts ++ [.out]
  | .parityError .. | .containmentTimeout .. | .jobTimeout .. =>
    jobParts ++ [.dev, .tln, .swt, .launch, .port, .cluster, .field]
  | .dieFault | .dramEccError .. => tellParts ++ [.dev, .tln, .swt, .port, .cluster, .field]
  | .sramEccError .. => trigParts ++ [.dev, .out, .swt, .launch, .cluster]
  | .clockMove .. | .rxrTailWrite .. | .icuComplete .. | .countClr .. | .cntLoWrite .. | .cntHiWrite .. =>
    countParts
  | .rootLost | .xtalStop => tellParts ++ [.dev, .tln, .swt, .port, .cluster, .field, .boot]
  | .nowLatch .. => countParts ++ [.tln, .out]
  | .step .. => timeParts ++ [.pmc, .swt, .hth]
  | .slew .. | .slewAbort .. => countParts ++ [.tln]
  | .slewDone | .holdExpired | .leapApply | .drillDue => timeParts
  | .servoEvent .. => timeParts ++ [.evr, .pmc, .swt, .hth]
  | .synEdge .. => timeParts ++ [.evr, .pmc, .swt, .hth, .cal]
  | .synMiss .. | .ptpSyncLoss | .peerLost => timeParts ++ [.swt, .cal]
  | .ppsOutPulse | .ltcOutFrame => timeParts ++ [.out]
  | .frameOutPulse => timeParts ++ [.out, .launch]
  | .listDescriptorRead .. => tellParts ++ [.mem, .swt, .region]
  | .counterDecrement .. | .spillReadback .. => tellParts ++ [.swt, .region]
  | .jobDispatch .. | .jobRetire .. => tellParts ++ [.mem, .dev, .swt, .region, .port]
  | .jobComplete .. => jobParts ++ [.dev, .swt, .port]
  | .orderStall .. => irqParts ++ [.region]
  | .lagBlockEnd .. => countParts ++ [.plu]
  | .threadPlace | .threadQuantum .. => countParts ++ [.dev, .region]
  | .pixelRun .. => countParts ++ [.snaps, .plu]
  | .nop .. | .endRun .. | .rep .. | .endr .. | .pset .. | .plog .. | .cmp .. | .mov .. | .vldi .. | .vsplat ..
  | .vext .. | .swz .. | .sel .. | .sldi .. | .sadd .. | .ssub .. | .smul .. | .smin .. | .smax .. | .sget ..
  | .smp .. | .blnd .. | .adds .. | .subs .. | .mul .. | .mad .. | .min .. | .max .. | .absd .. | .avg .. | .shr ..
  | .shl .. | .lerp .. | .mat .. | .lut .. | .luts .. | .dose .. | .dith .. | .st .. => tellParts ++ [.mem, .plu]
  | .memoryWindowWrite .. | .recordComplete => tellParts ++ [.mem]
  | .ingestWriteResume .. => tellParts ++ [.mem, .swt, .region, .mac, .ing]
  | .newFrameFix .. | .repeatFix .. => tellParts ++ [.tln, .syn, .swt, .launch, .cluster]
  | .frameStart .. => tellParts ++ [.armed, .mem, .dev, .tln, .syn, .swt, .port, .cluster]
  | .swathHold .. => timeParts ++ [.armed, .dev, .out, .swt, .launch, .port, .cluster]
  | .holdLimitExpire .. =>
    tellParts ++ [.armed, .mem, .dev, .tln, .syn, .swt, .launch, .region, .port, .cluster, .str]
  | .rectCrcResult .. => countParts ++ [.swt]
  | .portSlotCheck .. => timeParts ++ [.pmc, .launch]
  | .portLaunch .. | .portEmissionEnd .. | .dmxPacketEnd .. => timeParts ++ [.pmc, .out, .launch, .port]
  | .dmxSlotCheck .. | .strUnderrunCheck .. | .fieldSlotCheck .. | .lampSlotCheck .. => timeParts ++ [.launch]
  | .dmxLaunch .. => timeParts ++ [.out, .launch, .port]
  | .dmxRxPacket .. | .fieldRxFrame .. | .thermalSend | .swap .. | .resync .. => tellParts
  | .dmxRxLoss .. | .mergeSourceLoss .. => timeParts ++ [.merge]
  | .rdmBegin .. => [.live, .shadow, .out, .port, .dmx]
  | .rdmResponse .. => tellParts ++ [.mem, .tln, .syn, .launch]
  | .rdmNoResponse .. | .rdmDiscoveryEnd .. | .rdmWindowEnd .. => tellParts ++ [.tln, .syn, .launch]
  | .txrTailWrite .. => countParts ++ [.mac]
  | .macTxStart .. | .placedLaunch .. => tellParts ++ [.mem, .tln, .syn, .launch, .mac, .ntm]
  | .macTxDone .. => tellParts ++ [.mem, .tln, .syn, .mac]
  | .macRxFrame .. => tellParts ++ [.mem, .dev, .tln, .syn, .swt, .region, .merge, .mac, .bridge, .ntm, .ing, .hth]
  | .pauseEnd .. | .pauseSend .. | .modTimerExpire .. | .preemptVerify .. | .linkSettleEnd .. => timeParts ++ [.mac]
  | .ethLinkChange .. => tellParts ++ [.mem, .mac]
  | .fdbAdd .. | .fdbDelete .. | .fdbLookup .. | .fdbFlush .. => countParts ++ [.bridge]
  | .fdbDone => [.live, .shadow]
  | .fdbAge .. => timeParts ++ [.bridge]
  | .mergeApply => tellParts ++ [.mem, .tln, .syn, .merge]
  | .streamLaunch .. => timeParts ++ [.launch, .port, .mac]
  | .streamTerminateSend .. | .e131DiscoverySend => timeParts ++ [.mac, .str]
  | .ptpSyncSend .. | .ptpDelayRespSend => [.launch, .mac, .ntm]
  | .ptpAnnounceSend .. | .ptpDelayReqSend => timeParts ++ [.launch, .mac, .ntm]
  | .ptpDelayRespTimeout => timeParts ++ [.ntm]
  | .ptpDelayReqRx .. => irqParts ++ [.ntm]
  | .ptpSyncRx .. | .ptpFollowUpRx .. => timeParts ++ [.evr, .pmc, .swt, .ntm, .hth]
  | .ptpDelayRespRx .. => [.live, .shadow, .evr, .ntm]
  | .portStateWrite .. => countParts ++ [.tln, .swt, .ntm, .cal]
  | .tsqHiRead .. => countParts ++ [.out, .ntm]
  | .fieldRelease .. => timeParts ++ [.pmc, .launch, .port, .field]
  | .fieldTxAttempt .. => trigParts ++ [.out, .field]
  | .fieldCollision .. | .fieldTxDone .. => tellParts ++ [.field]
  | .fieldBackoffEnd .. => trigParts ++ [.tln, .syn, .out, .field]
  | .plcaStatusChange .. | .interruptEdge .. | .levelChange .. | .stileMismatchTimeout => irqParts
  | .lampLaunch .. => timeParts ++ [.launch, .port, .cluster]
  | .pwmPeriodBoundary .. => timeParts ++ [.pmc, .out, .cluster, .lamp, .red]
  | .lampOnSample .. | .lampOffSample .. => tellParts ++ [.tln, .syn, .lamp]
  | .diagTimeout .. => timeParts ++ [.pmc, .lamp]
  | .keeperOff .. | .derateUpdate .. => timeParts ++ [.cluster]
  | .tsnsMeasure .. => tellParts ++ [.tln, .syn, .cluster]
  | .queueWrite .. | .qCommit .. | .qRewind .. | .qPop .. | .recorderTrigger .. | .recorderScan => trigParts
  | .qCtrlWrite .. => countParts ++ [.queues]
  | .msixSend .. => [.live, .shadow, .icu, .out]
  | .peerRailFall | .peerRailRise | .stileConflict | .outputEnable .. =>
    tellParts ++ [.tln, .swt, .port, .cluster, .field]
  | .holdoffClaim | .swapInstant | .swapPathCheck => tellParts ++ [.tln, .syn, .swt, .port, .cluster, .field]
  | .holdoffConfirm => tellParts ++ [.mem, .tln, .syn, .swt, .launch, .port, .cluster, .field]
  | .hello .. => tellParts ++ [.mem, .tln, .swt, .port, .cluster, .field, .cal, .fwu]
  | .tsxLaneLock .. | .tsxLaneTimeout .. | .tsxRetxTimeout | .nak .. | .tsxIdle .. =>
    tellParts ++ [.mem, .tln, .swt, .cluster, .cal, .fwu]
  | .timeReq .. => tellParts ++ [.mem, .tln, .syn, .swt, .cluster, .cal, .fwu]
  | .timeRsp .. => tellParts ++ [.mem, .tln, .syn, .swt, .cluster, .hth, .cal, .fwu]
  | .fixApplyDeadline => irqParts ++ [.red]
  | .detach .. => countParts ++ [.red]
  | .fallbackEnd .. => countParts ++ [.swt, .red]
  | .safeStore .. => countParts ++ [.mem]
  | .swapSearchTimeout | .revertHoldExpire => tellParts ++ [.tln, .syn]
  | .pathCheckEnd .. => trigParts ++ [.tln, .syn, .red]
  | .tokenRefill .. => timeParts ++ [.evr]
  | .recordBegin | .eraseDone => trigParts ++ [.mem]
  | .statSpanClose .. => trigParts ++ [.tln, .syn, .mac]
  | .freeze .. | .thaw .. => countParts ++ [.evr]
  | .freezeExpire => trigParts ++ [.tln, .syn]
  | .erase .. => trigParts ++ [.dev]
  | .trigDataAccess .. => countParts ++ [.evr, .out]
  | .counterDump .. => tellParts ++ [.mem, .tln, .syn]
  | .pwrReqRun .. | .pwrReqDoze .. | .pwrReqRetain .. | .pwrReqHeath .. =>
    countParts ++ [.out, .cluster, .mac, .pwr]
  | .powerEntryProceed => jobParts ++ [.armed, .dev, .tln, .swt, .launch, .port, .cluster, .field, .str, .pwr]
  | .msgLimitTimeout | .recDrainTimeout => irqParts ++ [.pwr]
  | .timelineCapture .. => timeParts ++ [.dev, .pmc, .out, .cluster, .red, .pwr, .hth, .boot]
  | .wakeInEdge .. | .xt32Fail .. => irqParts ++ [.pwr, .hth]
  | .heathAlarm => timeParts ++ [.pwr, .hth]
  | .sealCheck .. => trigParts ++ [.pwr, .hth]
  | .ioRampDone | .thermalRestart => [.pwr]
  | .throttleUpdate .. => trigParts ++ [.tln, .syn, .thm]
  | .dramRateRead .. => tellParts ++ [.thm]
  | .marginMeasure .. | .chainMeasure .. | .analogRunDone .. => trigParts ++ [.mem, .cal]
  | .avsSettle .. => trigParts ++ [.tln, .syn, .cal]
  | .pmbAlert .. => trigParts ++ [.cal]
  | .runTime .. | .calAbort .. => countParts ++ [.cal]
  | .calWindowEnd .. => trigParts ++ [.mem, .hth, .cal]
  | .runAnalog .. => timeParts ++ [.pmc, .cal]
  | .ovrWrite .. => trigParts ++ [.mem, .dev, .cal]
  | .stage .. => tellParts ++ [.mem, .fwu]
  | .stageDone => irqParts ++ [.mem, .fwu]
  | .fwuCancel .. => countParts ++ [.mem, .fwu]
  | .sendPeer .. => tellParts ++ [.fwu]
  | .goldenWrite .. => trigParts ++ [.mem, .dev, .fwu]
  | .fuseProg .. => trigParts ++ [.dev, .fwu]
  | .fuseDone => irqParts ++ [.fwu]
  | .partnerAccept .. => countParts ++ [.fwu]
  | .outWaitExpire => timeParts ++ [.boot]
  | .spiRead .. => countParts ++ [.tln, .out, .ntm, .hth]
  | .jtagBypass | .jtagSamplePreload | .jtagExtest | .jtagClamp | .jtagHighz => [.jtag]
  | .jtagIdcode => [.out, .jtag]
  | .firstApplicationOfVheath => irqParts ++ [.tln, .pwr, .hth, .boot]
  | .linkInL0 .. => [.live, .shadow, .icu, .out, .pwr]
  | .goldenWriteDone => trigParts ++ [.mem, .fwu]
  | .timelineRestart .. => trigParts ++ [.tln, .swt, .pwr, .hth, .boot]

/-- The same as a set of part numbers. -/
def Instr.changeMask (c : Instr) : Nat := c.changes.foldl (fun m p => m ||| 2 ^ p.bit) 0

end Sys2Proof

namespace Sys2Proof.Machine

/-- The state at the next instant `off` past a whole multiple of `step`: activity `key` has served that instant. -/
def State.reachTick (s : State) (key step off : Nat) : Option State :=
  (s.reach (s.nextTick key step off)).map (fun a => a.ticked key)

/-! ### Where a requester's access acts -/

/-- The state in which an access acts: it has been counted (R594). -/
def State.counted (s : State) : State := s.count 1222 1

/-- A request at `page` reaches its block: ACLK runs and no reset of the instance is in progress (R70). -/
def State.reaches (s : State) (page : Nat) : Bool := s.aclkRuns && !s.counted.isResetting page

/-- A 32-bit write of a register is accepted: ACLK runs, the page is assigned, no reset of the instance is in progress,
the page is no replica of the partner's, and the register takes writes now (R43, R51, R52, R57, R63, R70, R546). -/
def State.accepts (s : State) (r : Requester) (page off : Nat) : Bool :=
  s.aclkRuns &&
    match pageInfo page with
    | none => false
    | some i =>
      !s.counted.replicaWrite r page off && s.counted.writeDenied i page off == []

/-- The state in which an accepted write acts: it has been counted and the partner told (R545, R557, R594). -/
def State.told (s : State) (r : Requester) (page off : Nat) (v : Word) : State := s.counted.mirrorWrite r page off v

/-! ### Frames of the Tsudex link -/

/-- The state in which a good frame acts: it has been counted, its lane heard, its acknowledgement taken (R540, R541). -/
def State.heard (s : State) (m : TsxMsg) : State :=
  (((s.inc pgRED Red.RX_FRAMES).count 1473 1).laneHeard m.lane.val).takeAck (m.ack % 2 ^ 32)

/-- A frame with a good CRC arrives on a lane that is enabled. -/
def State.hears (s : State) (m : TsxMsg) : Bool := s.laneOn m.lane.val && s.aclkRuns && m.good

/-- The same, and the frame is the sequenced one expected next. -/
def State.takesNext (s : State) (m : TsxMsg) : Bool := s.hears m && m.seq % 2 ^ 32 == (s.heard m).red.rxNext

/-- The state in which the frame expected next is delivered. -/
def State.expecting (s : State) (m : TsxMsg) : State :=
  (s.heard m).setRed { (s.heard m).red with rxNext := (m.seq % 2 ^ 32 + 1) % 2 ^ 32 }

/-- The frames held ahead that follow now are delivered too, as far as they were held when `m` came. -/
def State.andHeld (s : State) (b : State) (m : TsxMsg) : State :=
  match b.red.rxHeld.find? (fun g => g.seq == b.red.rxNext) with
  | none => b
  | some g => State.deliverFrom (b.setRed { b.red with rxHeld := b.red.rxHeld.filter (fun h => h != g) }) g
      (s.heard m).red.rxHeld.length

/-- The frame is of the generation that the standby follows. -/
def State.ofGeneration (s : State) (m : TsxMsg) : Bool :=
  !(s.expecting m).stileHeld && m.gen % 2 ^ 32 == (s.expecting m).nat pgRED Red.SYNC_GEN

/-! ### One instruction of a Pixel Lane Unit -/

/-- PLU `k` runs job `j` under snapshot `x`, its pixel stands at `r`, and the word it fetches is instruction `i`. -/
structure State.Executes (s : State) (k : Nat) (i : Ins) (j : Job) (x : Snap) (r : PixelRun) : Prop where
  tile : s.pluTile k = some (j, x)
  run : (s.pluOf k).run = some r
  fetch : s.pluFetch k x r r.blk.isSome = .ok i
  vectors : r.vr.length = 64
  scalars : r.sr.length = 8
  predicates : r.pr.length = 16

/-- The run with the pc past the instruction and its issue cycles charged. -/
def PixelRun.past (r : PixelRun) (i : Ins) : PixelRun := { r with pc := r.pc + 1, cost := r.cost + i.cost }

/-- `r'` is the run behind the instruction, with the written lanes of V[D] at `f` and nothing else changed (R169). -/
structure PixelRun.LanesSet (r r' : PixelRun) (i : Ins) (f : Nat → BitVec 16) : Prop where
  written : ∀ c, c < 4 → r'.lane i.d c = if r.writes i c then f c else r.lane i.d c
  others : ∀ v c, v ≠ i.d → c < 4 → r'.lane v c = r.lane v c
  rest : r' = { r.past i with vr := r'.vr }

/-- The same for P[D]. -/
structure PixelRun.PredicatesSet (r r' : PixelRun) (i : Ins) (f : Nat → Bool) : Prop where
  written : ∀ c, c < 4 → r'.pred i.d c = if r.writes i c then f c else r.pred i.d c
  others : ∀ p c, p ≠ i.d → c < 4 → r'.pred p c = r.pred p c
  rest : r' = { r.past i with pr := r'.pr }

/-- The same for S[D], which takes `x` saturated to 32 bits (R170). -/
structure PixelRun.ScalarSet (r r' : PixelRun) (i : Ins) (x : Int) : Prop where
  written : r'.scalar i.d = satSigned 32 x
  others : ∀ q, q ≠ i.d → r'.scalar q = r.scalar q
  rest : r' = { r.past i with sr := r'.sr }

/-! ### Canonical forms -/

/-- The canonical form of memory: addresses strictly rising, no entry equal to what an unlisted address reads as. -/
def Memory.wf (m : Tab Byte) : Bool := Tab.wf memDefault m

/-- Every waiting command is well formed. -/
def State.queueSound (s : State) : Bool := s.pending.all Instr.wellFormed

/-- The canonical form of program memory: an unlisted word is 0. -/
def State.progSound (s : State) : Bool := Tab.wf (fun _ => (0 : BitVec 64)) s.prog

/-- The canonical form of the registers: an unlisted one holds its reset value. -/
def State.registersSound (s : State) : Bool := Tab.wf resetVal s.live

/-- Memory, program memory and registers are canonical and the queue is sound. -/
structure State.Sound (s : State) : Prop where
  memory : Memory.wf s.mem = true
  program : s.progSound = true
  registers : s.registersSound = true
  queue : s.queueSound = true

end Sys2Proof.Machine
end

