-- ==== Sys2Proof/Certificates/Slice0/Obligations.lean ====
section
/-!
DEFINITION. The statements for the provers.
-/
open Sys2Proof Sys2Proof.Machine

/-- A step takes the command at the front of the queue and runs it with the queue's rest. -/
def Obligations.StepRunsFrontCommand : Prop :=
  ∀ (s : State) (c : Instr) (rest : List Instr),
    Sys2Proof.Machine.step { s with pending := c :: rest } = exec c { s with pending := rest }

/-- With no command waiting, time passes: the model's choice (log entry 5). While TCLK stands still, it idles. -/
def Obligations.IdleStepIsATick : Prop :=
  ∀ s : State, s.pending = [] →
    Sys2Proof.Machine.step s = .next s.tick ∧ (s.timeRuns = false → s.tick = s)

/-- The table gives no row bits: no word spells a command, and `withFetchWord` leaves the state as it is. -/
def Obligations.NoWordSpellsACommand : Prop :=
  ∀ (s : State) (nbits w : Nat), Sys2Proof.decodeTableWord nbits w = none ∧ s.withFetchWord nbits w = s

/-- The state after reset meets the invariant of `StepKeepsSound`, with nothing waiting. -/
def Obligations.ResetIsSound : Prop := State.reset.Sound ∧ State.reset.pending = []

/-- From every sound state a step answers a next state, and it is sound. -/
def Obligations.StepKeepsSound : Prop :=
  ∀ s : State, s.Sound → ∃ t, Sys2Proof.Machine.step s = .next t ∧ t.Sound

/-- Whatever the command and the state, exec goes on, and no command puts another in the queue or takes one from it. -/
def Obligations.CommandsKeepTheQueue : Prop :=
  ∀ (c : Instr) (s : State), ∃ t, exec c s = .next t ∧ t.pending = s.pending

/-- The frame of all 320 commands, by parts of the state. -/
def Obligations.CommandsChangeOnlyTheirParts : Prop :=
  ∀ (c : Instr) (s t : State), exec c s = .next t →
    (∀ p, p ∉ c.changes → Part.same p s t) ∧
    (Part.mem ∉ c.changes → ∀ a, t.byte a = s.byte a) ∧
    (Part.live ∉ c.changes → ∀ page off, t.reg page off = s.reg page off)

/-- Writes by a requester. `u` is the state in which the write acts: counted, and the partner told. -/
def Obligations.RegisterWritesAct : Prop :=
  (∀ (s : State) (r : Requester) (page off : Nat) (i : PageInfo) (w : RegRow) (v : Word),
    let u := s.told r page off v
    let taken := u.claimMask page off v
    0x20 ≤ off → off < 0x800 → s.accepts r page off = true → pageInfo page = some i → rowAt i off = some w →
    u.ownWrite r i (i.sub * 0x1000 + off) v = none → ownerFault r i (i.sub * 0x1000 + off) = none →
    (isShadowed i off = true →
      exec (.registerWrite r (regKey page off) 4 (v.setWidth 64)) s
        = .next (u.setShd page off ((u.shd page off &&& ~~~ w.rw) ||| (taken &&& w.rw)))) ∧
    (isShadowed i off = false → plainBad i (i.sub * 0x1000 + off) taken = false →
      exec (.registerWrite r (regKey page off) 4 (v.setWidth 64)) s
        = .next (u.setReg page off ((u.reg page off &&& ~~~ w.rw) ||| (taken &&& w.rw))))) ∧
  (∀ (s : State) (r : Requester) (a size : Nat) (v : BitVec 64),
    (s.aclkRuns = true → isMemory a = true → isFeram a = false → (isHost r = true → a < 0x4000000) →
      exec (.registerWrite r a size v) s
        = .next ((s.counted.setBytes a (leBytes size v.toNat)).hwTell a (leBytes size v.toNat))) ∧
    (isHost r = true → 0x4000000 ≤ a → exec (.registerWrite r a size v) s = .next s)) ∧
  (∀ (s : State) (r : Requester) (page off : Nat) (i : PageInfo) (v : Word),
    let u := s.told r page (0x800 + off) v
    off < 0x400 → s.accepts r page (0x800 + off) = true → pageInfo page = some i → off ≠ PAGE_FAULT →
    (off ≠ PAGE_STATUS → i.block ≠ .icu → i.block ≠ .eth →
      exec (.setAliasWrite r page off v) s
        = .next (u.setReg page off (u.reg page off ||| (v &&& aliasBits i page off)))) ∧
    (off = PAGE_STATUS → ∃ t, exec (.setAliasWrite r page off v) s = .next t ∧
      t.reg page off = u.reg page off ||| (v &&& aliasBits i page off))) ∧
  (∀ (s : State) (r : Requester) (page off : Nat) (i : PageInfo) (v hwSet : Word) (captured : List (Nat × Word)) (low : Bool),
    let u := (s.presence low).told r page (0xC00 + off) v
    off < 0x400 → (s.presence low).accepts r page (0xC00 + off) = true → pageInfo page = some i → off ≠ PAGE_FAULT →
    isSc i off = true → i.block ≠ .icu → i.block ≠ .eth →
      ∃ t, exec (.clrAliasWrite r page off v hwSet captured low) s = .next t ∧
        t.reg page off = (u.reg page off &&& ~~~ (v &&& aliasBits i page off))
          ||| (hwSet &&& keptBits (regKey page off) &&& aliasBits i page off)) ∧
  (∀ (s t : State) (r : Requester) (page off : Nat) (v : BitVec 64), off < 0x1000 → page < 0x400 →
    exec (.registerWrite r (regKey page off) 4 ((v.setWidth 32).setWidth 64)) s = .next t → t.tln.now = s.tln.now →
      exec (.registerWrite r (regKey page off) 8 v) s
        = exec (.registerWrite r (regKey page off + 4) 4 (((v >>> 32).setWidth 32).setWidth 64)) t ∨
      0xFFC < off ∧ page = 0x3FF) ∧
  (∀ (s : State) (r : Requester) (page off size : Nat) (i : PageInfo) (v : BitVec 64),
    off < 0x1000 → pageInfo page = some i → s.aclkRuns = true →
    let u := s.counted
    let dropped := exec (.registerWrite r (regKey page off) 4 v) s = .next (u.writeDropped r i page off)
    (size ≠ 4 → size ≠ 8 → exec (.registerWrite r (regKey page off) size v) s
      = .next ((u.writeDropped r i page (off - off % 4)).fault page F_ACCESS)) ∧
    (u.replicaWrite r page off = true → dropped ∧ (u.writeDropped r i page off).flag pgRED PAGE_FAULT Red.F_REPLICA_WRITE = true) ∧
    (u.isResetting page = true → off ≠ 0xC00 + PAGE_FAULT →
      dropped ∧ (u.writeDropped r i page off).flag page PAGE_FAULT F_BUSY_WRITE = true) ∧
    (0x800 ≤ off → isSc i (off % 0x400) = false →
      dropped ∧ (u.writeDropped r i page off).flag page PAGE_FAULT F_ACCESS = true) ∧
    (off < 0x800 → isShadowed i off = true → (u.armOf (groupOf page)).on = true →
      dropped ∧ (u.writeDropped r i page off).flag page PAGE_FAULT F_ARMED_WRITE = true) ∧
    (∀ w, 0x20 ≤ off → off < 0x800 → rowAt i off = some w → w.cls = .stopOnly → u.active page = true →
      dropped ∧ (u.writeDropped r i page off).flag page PAGE_FAULT F_MODE_BUSY = true)) ∧
  (∀ (s : State) (r : Requester) (a size : Nat) (v : BitVec 64), s.aclkRuns = true → isFeram a = true →
    (isHost r = true ∨ firmwareFeram a = false →
      exec (.registerWrite r a size v) s = .next (s.counted.fault pgFWU Fwu.F_FERAM_WP)) ∧
    (isHost r = false → firmwareFeram a = true →
      exec (.registerWrite r a size v) s
        = .next ((s.counted.setBytes a (leBytes size v.toNat)).hwTell a (leBytes size v.toNat)))) ∧
  (∀ (s : State) (r : Requester) (page off : Nat) (i : PageInfo) (v : Word),
    let u := s.told r page (0x800 + off) v
    let m := v &&& aliasBits i page off
    let o := i.sub * 0x1000 + off
    off < 0x400 → s.accepts r page (0x800 + off) = true → pageInfo page = some i →
    (off = PAGE_FAULT → ∃ t, exec (.setAliasWrite r page off v) s = .next t ∧ t.reg page PAGE_FAULT = u.reg page PAGE_FAULT ||| m) ∧
    (off ≠ PAGE_FAULT → i.block = .eth →
      ∃ t, exec (.setAliasWrite r page off v) s = .next t ∧ t.reg page off = u.reg page off ||| m) ∧
    (off ≠ PAGE_FAULT → i.block = .icu → 0x40 ≤ o → o < 0x80 →
      exec (.setAliasWrite r page off v) s = .next (u.pendingAlias ((o - 0x40) / 4) true m)) ∧
    (off ≠ PAGE_FAULT → off ≠ PAGE_STATUS → i.block = .icu → o < 0x40 ∨ 0x80 ≤ o →
      exec (.setAliasWrite r page off v) s = .next (u.icuChange (fun a =>
        a.setReg page off (a.reg page off ||| (if 0x80 ≤ o ∧ o < 0xC0 then m &&& sourceBits ((o - 0x80) / 4) else m)))))) ∧
  (∀ (s : State) (r : Requester) (page off : Nat) (i : PageInfo) (v : Word) (captured : List (Nat × Word)) (low : Bool),
    let u := (s.presence low).told r page (0xC00 + off) v
    let m := v &&& aliasBits i page off
    let o := i.sub * 0x1000 + off
    off < 0x400 → (s.presence low).accepts r page (0xC00 + off) = true → pageInfo page = some i →
    (off = PAGE_FAULT → i.block ≠ .hth ∨ bit v Hth.F_SEAL_OPEN = false ∨ low = true →
      ∃ t, exec (.clrAliasWrite r page off v 0 captured low) s = .next t ∧ t.reg page PAGE_FAULT = u.reg page PAGE_FAULT &&& ~~~ m) ∧
    (off = PAGE_FAULT → i.block = .hth → bit m Hth.F_SEAL_OPEN = true → low = false →
      ∃ t, exec (.clrAliasWrite r page off v 0 captured low) s = .next t ∧
        t.reg page PAGE_FAULT = u.reg page PAGE_FAULT &&& ~~~ clearBit m Hth.F_SEAL_OPEN ∧
        t.flag pgFWU PAGE_FAULT Fwu.F_GUARD_REFUSED = true) ∧
    (off ≠ PAGE_FAULT → i.block = .eth → isSc i off = true →
      ∃ t, exec (.clrAliasWrite r page off v 0 captured low) s = .next t ∧ t.reg page off = u.reg page off &&& ~~~ m) ∧
    (off ≠ PAGE_FAULT → i.block = .icu → 0x40 ≤ o → o < 0x80 →
      exec (.clrAliasWrite r page off v 0 captured low) s
        = .next ((u.pendingAlias ((o - 0x40) / 4) false m).sameCycle page off 0 captured)) ∧
    (off ≠ PAGE_FAULT → off ≠ PAGE_STATUS → i.block = .icu → o < 0x40 ∨ 0x80 ≤ o →
      exec (.clrAliasWrite r page off v 0 captured low) s
        = .next ((u.icuChange (fun a => a.setReg page off (a.reg page off &&& ~~~ m))).sameCycle page off 0 captured)))

/-- The commands of a page's header. `u` is the state in which the write acts. -/
def Obligations.PageCommandsAct : Prop :=
  (∀ (s : State) (r : Requester) (page : Nat) (on : Bool) (i : PageInfo),
    let v := s.ctrlWith page 0 on
    let u := s.told r page PAGE_CTRL v
    let w := u.setReg page PAGE_CTRL (v &&& 0x7B)
    s.accepts r page PAGE_CTRL = true → pageInfo page = some i → i.sub = 0 → i.block ∈ [.cmp, .fix, .str, .ing, .ntm, .red] →
    bits v (6, 4) ≤ 5 → bit v 1 = false → bit v 2 = false → u.flag page PAGE_CTRL 1 = false → u.dev.unstop = [] → u.pageState page ≠ 3 →
    u.enabled page ≠ on →
      exec (.pageEnable r page on) s = .next (w.setGroupState page (if on then 1 else 0)).pinsRefresh) ∧
  (∀ (s : State) (r : Requester) (page : Nat) (on : Bool) (i : PageInfo),
    let v := s.ctrlWith page 0 on
    let u := s.told r page PAGE_CTRL v
    let w := u.setReg page PAGE_CTRL (v &&& 0x7B)
    s.accepts r page PAGE_CTRL = true → pageInfo page = some i → bits v (6, 4) ≤ 5 → bit v 2 = false →
    (i.sub = 0 → u.pageState page ≠ 3 → u.enabled page ≠ on →
      exec (.pageEnable r page on) s
        = .next ((w.noteUnstop page (u.flag page PAGE_CTRL 1)).ctrlChanged page (!on) (u.stopSet page)).pinsRefresh) ∧
    (i.sub ≠ 0 → exec (.pageEnable r page on) s = .next w)) ∧
  (∀ (s : State) (r : Requester) (page : Nat) (on : Bool) (i : PageInfo),
    let v := s.ctrlWith page 1 on
    let u := s.told r page PAGE_CTRL v
    let w := u.setReg page PAGE_CTRL (v &&& 0x7B)
    s.accepts r page PAGE_CTRL = true → pageInfo page = some i → bits v (6, 4) ≤ 5 → bit v 2 = false →
    (i.sub = 0 → u.pageState page ≠ 3 → u.stopSet page ≠ on → (w.noteUnstop page (u.flag page PAGE_CTRL 1)).stopSet page = on →
      exec (.pageStop r page on) s
        = .next ((w.noteUnstop page (u.flag page PAGE_CTRL 1)).ctrlChanged page (u.enabled page) (!on)).pinsRefresh) ∧
    (i.sub = 0 → u.stopSet page ≠ on → (w.noteUnstop page (u.flag page PAGE_CTRL 1)).stopSet page ≠ on → w.enabled page = u.enabled page →
      exec (.pageStop r page on) s = .next (w.noteUnstop page (u.flag page PAGE_CTRL 1))) ∧
    (i.sub ≠ 0 → exec (.pageStop r page on) s = .next w)) ∧
  (∀ (s : State) (r : Requester) (page : Nat) (i : PageInfo),
    let v := s.ctrlWith page 1 true
    let u := s.told r page PAGE_CTRL v
    let w := u.setReg page PAGE_CTRL (v &&& 0x7B)
    s.accepts r page PAGE_CTRL = true → pageInfo page = some i → i.sub = 0 → i.block ∈ [.cmp, .fix, .str, .ing, .ntm, .red] →
    bits v (6, 4) ≤ 5 → bit v 0 = true → bit v 2 = false → u.enabled page = true → u.flag page PAGE_CTRL 1 = false → u.dev.unstop = [] →
    u.pageState page ≠ 3 →
      exec (.pageStop r page true) s = .next (w.setGroupState page 2).pinsRefresh) ∧
  (∀ (s : State) (r : Requester) (page : Nat) (i : PageInfo),
    let v := setBit (putBits (s.reg page PAGE_CTRL) (6, 4) 0) 2
    let u := s.told r page PAGE_CTRL v
    s.accepts r page PAGE_CTRL = true → pageInfo page = some i → i.sub = 0 → i.block.level = 0 → i.block ≠ .ccr →
    u.dev.unstop = [] → u.reg page PAGE_CTRL = s.reg page PAGE_CTRL → bits (s.reg page PAGE_CTRL) (31, 2) = 0 →
    u.flag page PAGE_CTRL 1 = false →
      ∃ t, exec (.pageReset r page 0) s = .next t ∧ t.isResetting page = true) ∧
  (∀ (s : State) (r : Requester) (page : Nat) (i : PageInfo),
    let u := s.told r page PAGE_COMMIT 1
    s.accepts r page PAGE_COMMIT = true → pageInfo page = some i → (u.armOf (groupOf page)).on = false →
    (i.block.kind = 1 → exec (.arm r page) s = .next (u.commit1 (groupOf page))) ∧
    (i.block.kind = 2 → u.boundSwath (groupOf page) ≠ 0xFF → u.swathStopped (u.boundSwath (groupOf page)) = false →
      exec (.arm r page) s = .next (u.setArm (groupOf page) ⟨true, s.tln.now⟩))) ∧
  (∀ (s : State) (r : Requester) (page : Nat) (i : PageInfo),
    let u := s.told r page PAGE_COMMIT 2
    s.accepts r page PAGE_COMMIT = true → pageInfo page = some i → u.dev.unstop = [] →
      ∃ t, exec (.disarm r page) s = .next t ∧ t.armOf (groupOf page) = Arm.idle ∧ t.live = u.live ∧
        ∀ p off, inGroup (groupOf page) (regKey p off) = true → t.shd p off = t.reg p off) ∧
  (∀ (s : State) (g : Nat) (i : PageInfo), pageInfo g = some i → i.sub = 0 →
      ∃ t, exec (.resetComplete 0 g) s = .next t ∧ t.isResetting g = false ∧ t.mem = s.mem ∧
        (i.block ≠ .ccr → t.live = s.live) ∧ (i.block = .ccr → t.enabled g = true ∧ t.active g = true)) ∧
  (∀ (s : State) (r : Requester) (page : Nat) (v : Word), s.accepts r page PAGE_CTRL = true → 5 < bits v (6, 4) →
      exec (.registerWrite r (regKey page PAGE_CTRL) 4 (v.setWidth 64)) s
        = .next ((s.told r page PAGE_CTRL v).scopeBad page v)) ∧
  (∀ (s : State) (r : Requester) (addr : Nat) (write : Bool), s.aclkRuns = true → isMapped addr = false →
      exec (.unmappedAccess r addr write) s
        = .next ((if write then s.counted else s.counted.emit (.read 0)).fault pgSYS F_UNMAPPED))

/-- Faults of the levels. -/
def Obligations.FaultsAreContained : Prop :=
  (∀ (s : State) (page : Nat) (i : PageInfo), pageInfo page = some i →
    exec (.parityError page false) s = .next ((s.fault page F_PARITY).fencePageLevel page) ∧
    exec (.parityError page true) s = .next ((s.fault page F_PARITY).maskedFault page) ∧
    (i.block.level = 0 → ∃ t, exec (.parityError page false) s = .next t ∧ (0, groupOf page) ∈ t.dev.containing) ∧
    (i.block.level = 3 → ∃ t, exec (.parityError page false) s = .next t ∧ t.dev.dieFenced = true ∧ t.dev.faultN = true ∧
      (executorOf i = 127 → ∀ a, t.byte a = s.byte a)) ∧
    (i.block.level = 5 → ∃ t, exec (.parityError page false) s = .next t ∧ t.pageState pgRED = 3 ∧ t.red.own = false)) ∧
  (∀ s : State, ∃ t, exec .dieFault s = .next t ∧ t.dev.dieFenced = true ∧ t.dev.faultN = true ∧ ∀ a, t.byte a = s.byte a) ∧
  (∀ (s : State) (g c : Nat), (0, g) ∈ s.dev.containing → clusterOfUnit g = some c →
    ∃ t, exec (.containmentTimeout 0 g) s = .next t ∧ (1, c) ∈ t.dev.containing ∧ (0, g) ∉ t.dev.containing) ∧
  (∀ (s : State) (n : Nat), (2, n) ∈ s.dev.containing →
    ∃ t, exec (.containmentTimeout 2 n) s = .next t ∧ t.dev.dieFenced = true ∧ (2, n) ∉ t.dev.containing) ∧
  (∀ s : State, s.aclkRuns = true →
    exec (.dramEccError true) s = .next (s.count 1408 1) ∧
    ∃ t, exec (.dramEccError false) s = .next t ∧ t.dev.dieFenced = true ∧ t.dev.faultN = true ∧ t.dev.dramValid = false ∧
      ∀ a, t.byte a = s.byte a) ∧
  (∀ (s : State) (n : Fin 4), s.aclkRuns = true →
    (∀ masked, exec (.sramEccError n true masked) s = .next (s.count (1024 + 48 * n.val + 7) 1)) ∧
    exec (.sramEccError n false true) s = .next (s.recordFault 2 (pgJSC n.val)) ∧
    ∃ t, exec (.sramEccError n false false) s = .next t ∧ Tab.get (fun _ => false) t.dev.regionFenced n.val = true ∧
      (2, n.val) ∈ t.dev.containing ∧ ∀ a, t.byte a = s.byte a)

/-- Resets of the package and of the die. -/
def Obligations.ResetsReturnEverything : Prop :=
  (∀ (s : State) (roleB testMode : Bool), s.ramped = true →
    ∃ t, exec (.por roleB testMode) s = .next t ∧ t.dev.roleB = roleB ∧ t.dev.testMode = testMode ∧ t.boot.cause = 1 ∧
      t.sts pgTLN Tln.S_TL_STATE = (if s.timeKept.isSome then 4 else 0) ∧
      (∀ page off, off < 0x1000 → page ≠ pgHTH → regKey page off ≠ regKey pgRED Red.PAIR_STATE →
        regKey page off ≠ regKey pgCLK Clk.CLK_STATUS → regKey page off ≠ regKey pgTLN PAGE_STATUS → t.reg page off = resetVal (regKey page off)) ∧
      (∀ off, off < 0x1000 → t.reg pgHTH off = s.reg pgHTH off) ∧
      (∀ a, t.byte a = if isFeram a then s.byte a else memDefault a)) ∧
  (∀ s : State, s.pwr.coreOn = true → s.aclkRuns = true →
    ∃ t, exec .vcoreBrownout s = .next t ∧ t.dev.roleB = s.dev.roleB ∧ t.boot.cause = 2 ∧
      t.sts pgTLN Tln.S_TL_STATE = (if s.timeKept.isSome then 4 else 0) ∧
      (∀ page off, off < 0x1000 → page ≠ pgHTH → regKey page off ≠ regKey pgRED Red.PAIR_STATE →
        regKey page off ≠ regKey pgCLK Clk.CLK_STATUS → regKey page off ≠ regKey pgTLN PAGE_STATUS → t.reg page off = resetVal (regKey page off)) ∧
      (∀ a, t.byte a = if isFeram a then s.byte a else memDefault a)) ∧
  (∀ s : State, s.pwr.phase ≠ PwrPhase.asleep → s.aclkRuns = true →
    ∃ t, exec .resetNLow s = .next t ∧ t.dev.roleB = s.dev.roleB ∧ t.boot.cause = 4 ∧
      t.nat pgSYS Sys.START_STEP = (if s.boot.trained then 2 else 1) ∧
      t.sts pgTLN Tln.S_TL_STATE = (if s.timeKept.isSome then 4 else 0) ∧
      (∀ page off, off < 0x1000 → page ≠ pgHTH → regKey page off ≠ regKey pgRED Red.PAIR_STATE →
        regKey page off ≠ regKey pgCLK Clk.CLK_STATUS → regKey page off ≠ regKey pgTLN PAGE_STATUS → regKey page off ≠ regKey pgSYS Sys.START_STEP →
        t.reg page off = resetVal (regKey page off)) ∧
      (∀ a, t.byte a = if isFeram a || isDram a then s.byte a else memDefault a))

/-- Commands of the clock tree. -/
def Obligations.ClockEventsAct : Prop :=
  (∀ (s : State) (r : Requester) (b : Bool), s.reaches pgCLK = true → isHost r = false →
    (b = true → s.counted.sts pgCLK Clk.S_ROOT_LOCK = 1) →
      exec (.clockMove r b) s = .next ((s.counted.setNat pgCLK Clk.CLK_CTRL (if b then 1 else 0)).setRoot
        (s.counted.sts pgCLK Clk.S_ROOT_LOCK == 1) b)) ∧
  (∀ (s : State) (r : Requester) (b : Bool), s.reaches pgCLK = true → isHost r = true →
      exec (.clockMove r b) s = .next (s.counted.fault pgCLK Clk.F_OWNER_WRITE)) ∧
  (∀ (s : State) (micros khz : Nat), s.aclkRuns = true → s.startStep ≠ 5 →
    ∃ t, exec (.rootLock micros khz) s = .next t ∧ t.nat pgCLK Clk.LOCK_US = min 65535 micros ∧
      t.nat pgCLK Clk.FIO_KHZ = khz % 2 ^ 18 ∧ t.sts pgCLK Clk.S_ROOT_LOCK = 1 ∧ t.mem = s.mem) ∧
  (∀ s : State, s.aclkRuns = true → s.sts pgCLK Clk.S_ROOT_LOCK = 1 →
    ∃ t, exec .rootLost s = .next t ∧ t.dev.dieFenced = true ∧ t.dev.faultN = true ∧
      t.reg pgCLK Clk.ROOT_LOSSES = s.reg pgCLK Clk.ROOT_LOSSES + 1 ∧ t.engineRuns = false ∧ t.boot.cause = s.boot.cause ||| 0x100 ∧ t.mem = s.mem) ∧
  (∀ s : State, s.aclkRuns = true →
    ∃ t, exec .xtalStop s = .next t ∧ t.dev.dieFenced = true ∧ t.dev.faultN = true ∧
      t.reg pgCLK Clk.ROOT_LOSSES
        = (if s.sts pgCLK Clk.S_ROOT_LOCK = 1 then s.reg pgCLK Clk.ROOT_LOSSES + 1 else s.reg pgCLK Clk.ROOT_LOSSES) ∧
      t.engineRuns = false ∧ t.boot.cause = s.boot.cause ||| 0x100 ∧ t.mem = s.mem)

/-- Commands of the timeline. `a` is the counted state. -/
def Obligations.TimelineCommandsAct : Prop :=
  (∀ (s : State) (r : Requester), s.aclkRuns = true →
    let v := timeValOf s.tln.now
    ∃ t, exec (.nowLatch r) s = .next t ∧ t.out = .read (BitVec.ofNat 32 v.s) :: s.out ∧
      Tab.get (fun _ => NowLatch.init) t.tln.latch (reqCode r) = ⟨v.s / 2 ^ 32, v.ns, v.frac, s.counted.uncert⟩ ∧
      t.tln.now = s.tln.now ∧ t.live = s.counted.live ∧ t.mem = s.mem) ∧
  (∀ (s : State) (r : Requester),
    let a := s.counted
    s.reaches pgTLN = true → a.fld pgTLN Tln.SET_NS (29, 0) ≤ 999999999 →
    (a.allStopped = true →
      ∃ t, exec (.step r) s = .next t ∧ t.mem = s.mem ∧
        t.tln.now = ((a.nat pgTLN Tln.SET_S_LO + 2 ^ 32 * a.fld pgTLN Tln.SET_S_HI (15, 0)) * 1000000000
          + a.fld pgTLN Tln.SET_NS (29, 0)) * 2 ^ 48 + a.fld pgTLN Tln.SET_FRAC (7, 0) * 2 ^ 40) ∧
    (a.allStopped = false → exec (.step r) s = .next (a.fault pgTLN Tln.F_STEP_REFUSED))) ∧
  (∀ (s : State) (r : Requester),
    let a := s.counted
    s.reaches pgTLN = true →
    (a.tlSrc = 0 →
      ∃ t, exec (.slew r) s = .next t ∧ t.slewing = true ∧ t.tln.now = s.tln.now ∧ t.mem = s.mem ∧
        t.tln.slewLeft = s.tln.slewLeft + signed 32 (a.nat pgTLN Tln.SLEW_OFFSET) * 2 ^ 48) ∧
    (a.tlSrc ≠ 0 → exec (.slew r) s = .next (a.fault pgTLN Tln.F_SLEW_REFUSED))) ∧
  (∀ (s : State) (r : Requester), s.reaches pgTLN = true → s.counted.slewing = true →
    ∃ t, exec (.slewAbort r) s = .next t ∧ t.slewing = false ∧ t.tln.slewLeft = 0 ∧ t.tln.now = s.tln.now ∧ t.mem = s.mem) ∧
  (∀ s : State, s.slewing = true → s.timeRuns = true → s.slewDelta ≠ 0 → s.tln.slewLeft ≠ 0 →
    ∃ t, exec .slewDone s = .next t ∧ t.slewing = false ∧ t.tln.slewLeft = 0 ∧ t.mem = s.mem ∧
      (t.tln.now : Int) = max 0 (s.tln.now + ceilDiv s.tln.slewLeft.natAbs s.slewDelta.natAbs * s.incrFree + s.tln.slewLeft)) ∧
  (∀ (s : State) (e : Rat) (ns : Option Nat), s.tlnOn = true → s.tlSrc ≠ 0 → s.tlState = 1 ∨ s.tlState = 2 →
    (s.tln.voidAt ≠ some s.tln.now → ∃ t, exec (.servoEvent e ns) s = .next t ∧
      t.tln.lastErr = (ratAbs e :: s.tln.lastErr).take 15 ∧ t.tln.prevAt = t.tln.now ∧ t.mem = s.mem) ∧
    (s.tln.voidAt = some s.tln.now → exec (.servoEvent e ns) s = .next s)) ∧
  (∀ s : State, s.tlState = 3 → s.tln.holdDone = false → s.tln.uncertBase ≠ UNC_UNKNOWN →
    s.nat pgTLN Tln.HOLD_LIMIT < s.tln.uncertBase →
      exec .holdExpired s
        = .next (({ s with tln := { s.tln with holdDone := true } }.setSts pgTLN Tln.S_HOLD_EXPIRED 1).irq 58))

/-- Sync inputs and outputs. A timed event acts in the state that the timeline reaches at its instant. -/
def Obligations.SyncEventsAct : Prop :=
  (∀ (s : State) (k : Fin 8) (alt : Bool) (lines : Nat) (ltc : BitVec 80),
    let p := pgSYN k.val
    let u := s.capture
    let j := s.alignNear k.val u
    let d := (u : Rat) - s.alignAt k.val j
    let w : Rat := (s.nat p SynIn.WINDOW : Rat) * 1280
    synIsOut k.val = false → s.ioState k.val ≠ 0 → s.enabled p = true → s.synForm k.val alt = true →
    (-w ≤ d → d ≤ w → (s.synAt k.val).lastHit ≠ some j → (k.val = 0 → lines = s.fld p SynIn.LINES (11, 0)) →
      (s.synAt k.val).decim + 1 < s.fld p SynIn.DECIM (15, 0) →
        ∃ t, exec (.synEdge k alt lines ltc) s = .next t ∧ (t.synAt k.val).lastHit = some j ∧ (t.synAt k.val).misses = 0 ∧
          (t.synAt k.val).decim = (s.synAt k.val).decim + 1 ∧ t.mem = s.mem) ∧
    (w < d ∨ d < -w →
      exec (.synEdge k alt lines ltc) s = .next ((s.inc p SynIn.GLITCHES).fault p SynIn.F_GLITCH))) ∧
  (∀ (s a : State) (k : Fin 8),
    let p := pgSYN k.val
    let near := s.alignNear k.val (unitsOf s.tln.now)
    let j := if (s.synAt k.val).lastHit = some near ∨ (s.synAt k.val).lastMiss = some near then near + 1 else near
    let close := s.alignAt k.val j + (s.nat p SynIn.WINDOW : Rat) * 1280
    synIsOut k.val = false → s.ioState k.val ≠ 0 → s.enabled p = true →
    s.reach (timeOfUnits close.ceil.toNat) = some a →
      ∃ t, exec (.synMiss k) s = .next t ∧ (t.synAt k.val).run = 0 ∧ (t.synAt k.val).lastMiss = some j ∧ t.mem = s.mem) ∧
  (∀ s a : State, s.leapArmed = true → s.reach s.leapAt = some a →
    ∃ t, exec .leapApply s = .next t ∧ t.sts pgTLN Tln.S_LEAP_DONE = 1 ∧ t.fld pgTLN Tln.UTC_CTRL Tln.LEAP = 0 ∧
      t.fld pgTLN Tln.UTC_CTRL Tln.UTC_OFFSET = (a.fld pgTLN Tln.UTC_CTRL Tln.UTC_OFFSET
        + (if a.fld pgTLN Tln.UTC_CTRL Tln.LEAP = 1 then 1 else 0xFFFF)) % 2 ^ 16) ∧
  (∀ s a : State,
    let n := s.synNext 5 s.ppsRise (((unitsOf s.tln.now : Int) - s.synOffset 5) / (SEC * LU : Nat) - 1) 4
    let start := s.ppsRise n
    let stop := start + (s.nat (pgSYN 5) SynOut.WIDTH * LU : Nat)
    s.synOutOn 5 = true → s.reach (timeOfGrid start) = some a →
    (a.synGate 5 = true →
      ∃ t, exec .ppsOutPulse s = .next t ∧ t.out = (Output.pulse 5 (a.synHigh 5) start.toNat stop.toNat).placed a.gridAt :: s.out ∧
        (t.synAt 5).pulse = true ∧ (t.synAt 5).pulseEnd = timeOfGrid stop ∧ t.mem = s.mem) ∧
    (a.synGate 5 = false →
      exec .ppsOutPulse s = .next ((a.setSyn 5 { a.synAt 5 with lastHit := some n }).setOutput 5 2))) ∧
  (∀ s a : State,
    let n := s.synNext 3 s.ltcRise
      ((((unitsOf s.tln.now : Int) - s.synOffset 3 : Int) : Rat) / s.ltcPeriod - 1).floor 4
    let start := s.ltcRise n
    let half (i : Nat) : Nat := (roundGridRat (((n : Rat) + (i : Rat) / 160) * a.ltcPeriod + (a.synOffset 3 : Rat))).toNat
    s.synOutOn 3 = true → s.reach (timeOfGrid start) = some a → a.synGate 3 = true →
      ∃ t, exec .ltcOutFrame s = .next t ∧ (t.synAt 3).pulse = true ∧ t.mem = s.mem ∧
        t.out = (Output.ltc (biphase half 0 (!a.synHigh 3) (a.ltcOutBits n))).placed a.gridAt :: s.out) ∧
  (∀ (s a : State) (l : Launch),
    let stop : Int := (l.at_ + a.nat (pgSYN 7) SynOut.WIDTH * LU : Nat)
    earliest s.frameOutDue = some l → s.reach (timeOfUnits l.at_) = some a → a.synOutOn 7 = true →
    a.swathState l.swath = 1 ∨ a.swathState l.swath = 2 → a.synGate 7 = true →
      ∃ t, exec .frameOutPulse s = .next t ∧ (t.synAt 7).pulse = true ∧ t.mem = s.mem ∧
        t.out = (Output.pulse 7 (a.synHigh 7) l.at_ stop.toNat).placed a.gridAt :: s.out)

/-- Commands that write JSC registers. `u` is the state in which the write acts. -/
def Obligations.JobRegistersAct : Prop :=
  (∀ (s : State) (r : Requester) (n : Fin 4) (k : Fin 7) (v : Word), s.accepts r (pgJSC n.val) (Jsc.SUB_D k.val) = true →
    let u := s.told r (pgJSC n.val) (Jsc.SUB_D k.val) v
    ∃ t, exec (.subDStage r n k v) s = .next t ∧ Tab.get (fun _ => 0) (t.regionOf n.val).staging (8 * reqCode r + k.val) = v ∧
      (t.regionOf n.val).jobs = (u.regionOf n.val).jobs ∧ t.live = u.live ∧ t.mem = s.mem) ∧
  (∀ (s : State) (r : Requester) (n : Fin 4) (d7 : Word), s.accepts r (pgJSC n.val) (Jsc.SUB_D 7) = true →
    let u := (s.told r (pgJSC n.val) (Jsc.SUB_D 7) d7).stageWord r n.val 7 d7
    let d := (List.range 8).map (fun k => Tab.get (fun _ => 0) (u.regionOf n.val).staging (8 * reqCode r + k))
    let x := u.submit n.val d (if isHost r then .host else .core) u.mergeEpoch
    (x.2 = true → exec (.jobSubmit r n d7) s = .next x.1) ∧
    (x.2 = false → exec (.jobSubmit r n d7) s = .next (x.1.fault (pgJSC n.val) Jsc.F_SUBMIT_OVERRUN)) ∧
    (u.descBad n.val d (if isHost r then .host else .core) = false → targetRegion n.val d = n.val → bit (d.getD 0 0) 4 = false →
      (u.regionOf n.val).spill = [] → (u.regionOf n.val).storeLevel < 2048 →
      ∃ t, exec (.jobSubmit r n d7) s = .next t ∧ ∃ j ∈ (t.regionOf n.val).jobs, j.d = d ∧
        j.phase = (if j.wait ≠ 0 ∧ u.ctrOf n.val j.wait ≠ 0 then .waiting else .ready))) ∧
  (∀ (s : State) (r : Requester) (n : Fin 4) (v : Word), s.accepts r (pgJSC n.val) Jsc.CTR_VALUE = true →
    let u := s.told r (pgJSC n.val) Jsc.CTR_VALUE v
    u.ctrSel n.val ≠ 0 → bits v (15, 0) ≠ 0 →
      ∃ t, exec (.ctrValueWrite r n v) s = .next t ∧ t.ctrOf n.val (u.ctrSel n.val) = bits v (15, 0) ∧
        (t.regionOf n.val).jobs = (u.regionOf n.val).jobs ∧ t.live = u.live ∧ t.mem = s.mem) ∧
  (∀ (s : State) (r : Requester) (n : Fin 4) (v : Word), s.accepts r (pgJSC n.val) Jsc.CTR_SIGNAL = true →
    let u := s.told r (pgJSC n.val) Jsc.CTR_SIGNAL v
    let c := u.ctrSel n.val
    c ≠ 0 →
    (bits v (15, 0) < u.ctrOf n.val c →
      ∃ t, exec (.ctrSignal r n v) s = .next t ∧ t.ctrOf n.val c = u.ctrOf n.val c - bits v (15, 0) ∧
        (t.regionOf n.val).jobs = (u.regionOf n.val).jobs ∧ t.live = u.live ∧ t.mem = s.mem) ∧
    (u.ctrOf n.val c < bits v (15, 0) →
      exec (.ctrSignal r n v) s
        = .next (((u.putCtr n.val c 0).fault (pgJSC n.val) Jsc.F_CTR_UNDERFLOW).releaseWaiters n.val c))) ∧
  (∀ (s : State) (r : Requester) (n : Fin 4) (v : Word), s.accepts r (pgJSC n.val) Jsc.DOM_HEAD_SET = true →
    let u := s.told r (pgJSC n.val) Jsc.DOM_HEAD_SET v
    let d := 1024 * n.val + u.fld (pgJSC n.val) Jsc.DOM_SEL (9, 0)
    ((u.regionOf n.val).jobs = [] →
      ∃ t, exec (.domHeadSet r n v) s = .next t ∧ t.domainOf d = ⟨bits v (15, 0), false⟩ ∧ t.live = u.live ∧ t.mem = s.mem) ∧
    ((u.regionOf n.val).jobs.any (fun j => j.ordered && j.domain == d && j.inFlight) = true →
      exec (.domHeadSet r n v) s = .next (u.badValue (pgJSC n.val)))) ∧
  (∀ (s : State) (r : Requester) (n : Fin 4) (k : Fin 8),
    let off := Jsc.LIST_GO k.val - 0x1000
    let u := s.told r (pgJSC n.val + 1) off 1
    let c := u.reg (pgJSC n.val) (Jsc.LIST_CTRL k.val)
    s.accepts r (pgJSC n.val + 1) off = true →
    (bit c 0 = true → bit c 1 = false → (u.listRun n.val k.val).reading = false →
      ∃ t, exec (.listGo r n k) s = .next t ∧ (t.listRun n.val k.val).next = 0 ∧ (t.listRun n.val k.val).auto = false ∧
        (t.listRun n.val k.val).frame = (u.nat (pgJSC n.val) (Jsc.LIST_FRAME k.val) + 1) % 2 ^ 32 ∧
        t.nat (pgJSC n.val) (Jsc.LIST_FRAME k.val) = (u.nat (pgJSC n.val) (Jsc.LIST_FRAME k.val) + 1) % 2 ^ 32) ∧
    (bit c 0 = false → exec (.listGo r n k) s = .next (u.badValue (pgJSC n.val)))) ∧
  (∀ (s : State) (r : Requester) (n : Fin 4) (x : Nat), s.accepts r (pgJSC n.val) Jsc.THR_END = true →
    let u := s.told r (pgJSC n.val) Jsc.THR_END (BitVec.ofNat 32 x)
    isHost r = false → x < 256 → x / 64 = n.val → (u.thread x).st = 2 →
    ((u.thread x).waiting = [] →
      ∃ t, exec (.thrEnd r n x) s = .next t ∧ t.thread x = { u.thread x with st := 0, core := 0 } ∧ t.live = u.live ∧
        t.mem = s.mem) ∧
    (∀ m rest, (u.thread x).waiting = m :: rest →
      ∃ t, exec (.thrEnd r n x) s = .next t ∧ (t.thread x).st = 1 ∧ (t.thread x).waiting = rest ∧
        t.reg (pgJSC n.val) (thrOff Jsc.MSG x) = m ∧ t.mem = s.mem))

/-- Events of the region schedulers. -/
def Obligations.JobEventsAct : Prop :=
  (∀ (s : State) (n : Fin 4) (k : Fin 8),
    let l := s.listRun n.val k.val
    let r := s.submit n.val (s.listDesc n.val k.val l.next l.frame)
      (.list (s.fld (pgJSC n.val) (Jsc.LIST_CTRL k.val) (11, 8)) l.frame l.auto) l.epoch
    s.listTurn n.val k.val = true →
    (r.2 = true → ∃ t, exec (.listDescriptorRead n k) s = .next t ∧ (t.listRun n.val k.val).next = l.next + 1 ∧
      (t.listRun n.val k.val).reading = decide (l.next + 1 < s.fld (pgJSC n.val) (Jsc.LIST_COUNT k.val) (16, 0))) ∧
    (r.2 = false → exec (.listDescriptorRead n k) s = .next s)) ∧
  (∀ (s : State) (n cls : Fin 4) (j : Job) (e : Nat), s.regionStopped n.val = false → s.pwrState = 0 →
    (s.regionOf n.val).inFlight < 64 → s.pickJob n.val (s.readyQueue n.val cls.val) = some (j, e) →
    ¬ (j.type = 3 ∧ s.pageState (fillPage j.fillClass j.fillUnit) = 3) →
      ∃ t, exec (.jobDispatch n cls) s = .next t ∧ t.mem = s.mem ∧
        ∃ x ∈ (t.regionOf n.val).jobs, x.id = j.id ∧ x.d = j.d ∧ x.phase = .dispatched ∧ x.executor = e) ∧
  (∀ (s : State) (n : Fin 4) (e : Fin 128) (cycles : Nat) (j : Job), s.runningJob n.val e.val = some j →
    (e.val < 32 → s.engineRuns = true → ∀ a j1, s.pluFinish e.val j = some (a, j1) →
      exec (.jobComplete n e cycles) s
        = .next (((if j.type = 0 then a else a.count (8 * e.val) cycles).pluLatency e.val cycles).complete n.val j1)) ∧
    (e.val < 32 ∨ j.type = 3 → s.engineRuns = false → exec (.jobComplete n e cycles) s = .next s) ∧
    (32 ≤ e.val → j.type = 4 ∨ j.type = 5 → j.ordered = true → s.windowPos j ≠ 0 →
      ∃ t, exec (.jobComplete n e cycles) s = .next t ∧ t.mem = s.mem ∧ t.live = s.live ∧
        ∃ x ∈ (t.regionOf n.val).jobs, x.id = j.id ∧ x.d = j.d ∧ x.phase = .completed)) ∧
  (∀ (s : State) (n : Fin 4) (dom : Fin 4096) (j : Job),
    (s.regionOf n.val).jobs.find? (fun j => j.phase == .completed && j.ordered && j.domain == dom.val && s.windowPos j == 0)
      = some j →
      exec (.jobRetire n dom) s = .next (s.retire n.val j)) ∧
  (∀ (s : State) (n : Fin 4) (e : Fin 128) (p : Nat), (s.runningJob n.val e.val).isSome = true →
    s.nat (pgJSC n.val) Jsc.JOB_TIMEOUT ≠ 0 →
    (executorPage e.val = some p →
      exec (.jobTimeout n e) s = .next ((s.fault (pgJSC n.val) Jsc.F_JOB_TIMEOUT).fencePageLevel p)) ∧
    (executorPage e.val = none →
      exec (.jobTimeout n e) s
        = .next (((s.fault (pgJSC n.val) Jsc.F_JOB_TIMEOUT).recordFault 0 (pgJSC n.val)).handBackAll e.val))) ∧
  (∀ (s : State) (n : Fin 4) (dom : Fin 4096), s.flag (pgJSC n.val) Jsc.JSC_CTRL 1 = true → dom.val / 1024 = n.val →
    (s.regionOf n.val).jobs.any (fun j => j.phase == .completed && j.ordered && j.domain == dom.val) = true →
    (s.domainOf dom.val).stalled = false →
      ∃ t, exec (.orderStall n dom) s = .next t ∧ (t.domainOf dom.val).stalled = true ∧
        (t.domainOf dom.val).head = (s.domainOf dom.val).head ∧
        t.flag (pgJSC n.val) PAGE_FAULT Jsc.F_ORDER_STALL = true ∧ t.mem = s.mem) ∧
  (∀ (s : State) (n : Fin 4) (c : Fin 4096), c.val ∈ (s.regionOf n.val).signals → c.val ≠ 0 → 1 < s.ctrOf n.val c.val →
      ∃ t, exec (.counterDecrement n c) s = .next t ∧ t.ctrOf n.val c.val = s.ctrOf n.val c.val - 1 ∧
        (t.regionOf n.val).signals = dropFirst c.val (s.regionOf n.val).signals ∧ t.live = s.live ∧ t.mem = s.mem) ∧
  (∀ (s : State) (n : Fin 4) (x : Spilled) (rest : List Spilled), (s.regionOf n.val).spill = x :: rest →
    (s.regionOf n.val).storeLevel < 2048 →
      ∃ t, exec (.spillReadback n) s = .next t ∧ (t.regionOf n.val).spill = rest ∧ t.mem = s.mem) ∧
  (∀ (s : State) (k : Fin 32) (m : Nat), (s.pluOf k.val).latDue = some m →
    let l := s.blockMeans (k.val / 8)
    (l.length < 3 → ∃ t, exec (.lagBlockEnd k) s = .next t ∧ (t.pluOf k.val).latDue = none ∧ t.live = s.live) ∧
    (3 ≤ l.length → ∃ t, exec (.lagBlockEnd k) s = .next t ∧ (t.pluOf k.val).latDue = none ∧
      t.reg (pgJSC (k.val / 8)) Jsc.LAG_MEDIAN = BitVec.ofNat 32 (lowerMedian l) ∧
      t.lagging k.val = (if 3 * lowerMedian l < 2 * m then true else if 4 * m ≤ 5 * lowerMedian l then false
        else s.lagging k.val)))

/-- Threads on the control cores. -/
def Obligations.ThreadsArePlaced : Prop :=
  (∀ (s : State) (x c : Nat), s.readyThreads.find? (fun t => (s.coreFor t).isSome) = some x → s.coreFor x = some c →
    ∃ t, exec .threadPlace s = .next t ∧ (t.thread x).st = 2 ∧ (t.thread x).core = c ∧ t.mem = s.mem) ∧
  (∀ s : State, s.readyThreads.find? (fun t => (s.coreFor t).isSome) = none → exec .threadPlace s = .next s) ∧
  (∀ (s : State) (core : Fin 4) (r x : Nat), s.threadOn core.val = some r → s.nat (pgJSC (r / 64)) Jsc.QUANTUM ≠ 0 →
    s.readyThreads.find? (fun t => s.thrPrio t == s.thrPrio r && s.thrAllows t core.val) = some x →
      exec (.threadQuantum core) s = .next ((s.threadReady r { s.thread r with core := 0 }).placeThread))

/-- The run of a pixel on its PLU. -/
def Obligations.PixelsRun : Prop :=
  (∀ (s : State) (plu : Fin 32) (waits : Nat) (j : Job) (x : Snap),
    let u := s.pluOf plu
    let p := j.arg 1 + u.next
    let r := s.freshRun x p
    s.pluTile plu = some (j, x) → u.run = none → u.next < j.arg 2 → s.pixelTile x p < x.tileCount →
      exec (.pixelRun plu waits) s
        = .next (((s.setPlu plu { u with next := u.next + 1, run := some r }).count (8 * plu + 4) 1).gathered plu waits
            r.record.isSome)) ∧
  (∀ (s : State) (plu : Fin 32) (i : Ins) (j : Job) (x : Snap) (r : PixelRun), s.Executes plu i j x r → i.op = 0x01 →
    exec (.nop plu) s = .next (s.setRun plu (some (r.past i)))) ∧
  (∀ (s : State) (plu : Fin 32) (i : Ins) (j : Job) (x : Snap) (r : PixelRun) (l : Nat) (rest : List Nat),
    s.Executes plu i j x r → i.op = 0x03 → repLayers x (i.f % 65536) = l :: rest →
      exec (.rep plu) s
        = .next (s.setRun plu (some { r.past i with blk := some ⟨r.pc + 1, l :: rest, 0, rest.length + 1⟩ }))) ∧
  (∀ (s : State) (plu : Fin 32) (i : Ins) (j : Job) (x : Snap) (r : PixelRun) (b : Block_),
    s.Executes plu i j x r → i.op = 0x04 → r.blk = some b →
    (∀ l next rest, b.layers = l :: next :: rest →
      exec (.endr plu) s = .next (s.setRun plu (some { r.past i with
        pc := b.body, blk := some { b with layers := next :: rest, index := b.index + 1 } }))) ∧
    (b.layers.length ≤ 1 → exec (.endr plu) s = .next (s.setRun plu (some { r.past i with blk := none })))) ∧
  (∀ (s : State) (plu : Fin 32) (i : Ins) (j : Job) (x : Snap) (r : PixelRun),
    let m := j.arg 0 % 16
    s.Executes plu i j x r → i.op = 0x02 → r.stored = true →
      ∃ t, exec (.endRun plu) s = .next t ∧ (t.pluOf plu).run = none ∧ t.mem = s.mem ∧
        (t.pluOf plu).sums = addDose (s.pluOf plu).sums r.tile r.dose ∧
        t.fld (cmpOfMap m) (Cmp.PROG_COST (m % 4)) (15, 0) = (r.cost + 1) % 2 ^ 16) ∧
  (∀ (s : State) (plu : Fin 32) (kind : Nat) (j : Job) (x : Snap) (r : PixelRun), s.pluTile plu = some (j, x) →
    (s.pluOf plu).run = some r → s.pluFetch plu x r r.blk.isSome = .error kind →
      ∀ c ∈ [Instr.nop plu, .endRun plu, .rep plu, .endr plu, .pset plu, .plog plu, .cmp plu, .mov plu, .vldi plu,
        .vsplat plu, .vext plu, .swz plu, .sel plu, .sldi plu, .sadd plu, .ssub plu, .smul plu, .smin plu, .smax plu,
        .sget plu, .smp plu, .blnd plu, .adds plu, .subs plu, .mul plu, .mad plu, .min plu, .max plu, .absd plu, .avg plu,
        .shr plu, .shl plu, .lerp plu, .mat plu, .lut plu, .luts plu, .dose plu, .dith plu, .st plu],
        exec c s = .next (s.stopPixel (j.arg 0 % 16) plu kind r.pc x { r with cost := r.cost + 1 }))

/-- Predicates and moves. -/
def Obligations.MovesAct : Prop :=
  (∀ (s : State) (plu : Fin 32) (i : Ins) (j : Job) (x : Snap) (r : PixelRun), s.Executes plu i j x r → i.op = 0x05 →
    ∃ r', exec (.pset plu) s = .next (s.setRun plu (some r')) ∧ r.PredicatesSet r' i (fun c => i.f.testBit c)) ∧
  (∀ (s : State) (plu : Fin 32) (i : Ins) (j : Job) (x : Snap) (r : PixelRun), s.Executes plu i j x r → i.op = 0x06 →
    ∃ r', exec (.plog plu) s = .next (s.setRun plu (some r')) ∧ r.PredicatesSet r' i (fun c => let a := r.pred i.a c
      let b := r.pred i.b c
      if i.f % 4 = 0 then a && b else if i.f % 4 = 1 then a || b else if i.f % 4 = 2 then a != b else a && !b)) ∧
  (∀ (s : State) (plu : Fin 32) (i : Ins) (j : Job) (x : Snap) (r : PixelRun), s.Executes plu i j x r → i.op = 0x07 →
    ∃ r', exec (.cmp plu) s = .next (s.setRun plu (some r')) ∧ r.PredicatesSet r' i (fun c => let a := laneVal i.t (r.lane i.a c)
      let b := laneVal i.t (r.operandB i c)
      let cond := i.f / 2 ^ 16 % 8
      if cond = 0 then a == b else if cond = 1 then a != b else if cond = 2 then decide (a < b)
      else if cond = 3 then decide (a ≤ b) else if cond = 4 then decide (b < a) else decide (b ≤ a))) ∧
  (∀ (s : State) (plu : Fin 32) (i : Ins) (j : Job) (x : Snap) (r : PixelRun), s.Executes plu i j x r → i.op = 0x08 →
    ∃ r', exec (.mov plu) s = .next (s.setRun plu (some r')) ∧ r.LanesSet r' i (fun c => r.lane i.a c)) ∧
  (∀ (s : State) (plu : Fin 32) (i : Ins) (j : Job) (x : Snap) (r : PixelRun), s.Executes plu i j x r → i.op = 0x09 →
    ∃ r', exec (.vldi plu) s = .next (s.setRun plu (some r')) ∧ r.LanesSet r' i (fun _ => BitVec.ofNat 16 i.f)) ∧
  (∀ (s : State) (plu : Fin 32) (i : Ins) (j : Job) (x : Snap) (r : PixelRun), s.Executes plu i j x r → i.op = 0x0A →
    ∃ r', exec (.vsplat plu) s = .next (s.setRun plu (some r')) ∧ r.LanesSet r' i (fun _ => BitVec.ofInt 16 (r.scalar i.a))) ∧
  (∀ (s : State) (plu : Fin 32) (i : Ins) (j : Job) (x : Snap) (r : PixelRun), s.Executes plu i j x r → i.op = 0x0B →
    ∃ r', exec (.vext plu) s = .next (s.setRun plu (some r')) ∧ r.ScalarSet r' i (laneVal i.t (r.lane i.a (i.f % 4)))) ∧
  (∀ (s : State) (plu : Fin 32) (i : Ins) (j : Job) (x : Snap) (r : PixelRun), s.Executes plu i j x r → i.op = 0x0C →
    ∃ r', exec (.swz plu) s = .next (s.setRun plu (some r')) ∧ r.LanesSet r' i (fun c => r.lane i.a (i.f / 4 ^ c % 4))) ∧
  (∀ (s : State) (plu : Fin 32) (i : Ins) (j : Job) (x : Snap) (r : PixelRun), s.Executes plu i j x r → i.op = 0x0D →
    ∃ r', exec (.sel plu) s = .next (s.setRun plu (some r')) ∧ r.LanesSet r' i (fun c => if r.pred (i.f % 4) c then r.lane i.a c else r.lane i.b c))

/-- Scalars. -/
def Obligations.ScalarsAct : Prop :=
  (∀ (s : State) (plu : Fin 32) (i : Ins) (j : Job) (x : Snap) (r : PixelRun), s.Executes plu i j x r → i.op = 0x10 →
    ∃ r', exec (.sldi plu) s = .next (s.setRun plu (some r')) ∧ r.ScalarSet r' i (signed 32 i.f)) ∧
  (∀ (s : State) (plu : Fin 32) (i : Ins) (j : Job) (x : Snap) (r : PixelRun), s.Executes plu i j x r → i.op = 0x11 →
    ∃ r', exec (.sadd plu) s = .next (s.setRun plu (some r')) ∧ r.ScalarSet r' i (r.scalar i.a + r.scalar i.b)) ∧
  (∀ (s : State) (plu : Fin 32) (i : Ins) (j : Job) (x : Snap) (r : PixelRun), s.Executes plu i j x r → i.op = 0x12 →
    ∃ r', exec (.ssub plu) s = .next (s.setRun plu (some r')) ∧ r.ScalarSet r' i (r.scalar i.a - r.scalar i.b)) ∧
  (∀ (s : State) (plu : Fin 32) (i : Ins) (j : Job) (x : Snap) (r : PixelRun), s.Executes plu i j x r → i.op = 0x13 →
    ∃ r', exec (.smul plu) s = .next (s.setRun plu (some r')) ∧ r.ScalarSet r' i (r.scalar i.a * r.scalar i.b)) ∧
  (∀ (s : State) (plu : Fin 32) (i : Ins) (j : Job) (x : Snap) (r : PixelRun), s.Executes plu i j x r → i.op = 0x14 →
    ∃ r', exec (.smin plu) s = .next (s.setRun plu (some r')) ∧ r.ScalarSet r' i (min (r.scalar i.a) (r.scalar i.b))) ∧
  (∀ (s : State) (plu : Fin 32) (i : Ins) (j : Job) (x : Snap) (r : PixelRun), s.Executes plu i j x r → i.op = 0x15 →
    ∃ r', exec (.smax plu) s = .next (s.setRun plu (some r')) ∧ r.ScalarSet r' i (max (r.scalar i.a) (r.scalar i.b))) ∧
  (∀ (s : State) (plu : Fin 32) (i : Ins) (j : Job) (x : Snap) (r : PixelRun), s.Executes plu i j x r → i.op = 0x16 →
    ∃ r', exec (.sget plu) s = .next (s.setRun plu (some r')) ∧ r.ScalarSet r' i (sgetValue x (r.past i) (i.f % 16)))

/-- Lane arithmetic: `a` is V[A], `b` is V[B] or the immediate, `w` is V[C]. -/
def Obligations.LaneArithmeticActs : Prop :=
  (∀ (s : State) (plu : Fin 32) (i : Ins) (j : Job) (x : Snap) (r : PixelRun), s.Executes plu i j x r → i.op = 0x20 →
    ∃ r', exec (.adds plu) s = .next (s.setRun plu (some r')) ∧ r.LanesSet r' i (fun c => laneOf i.t (laneVal i.t (r.lane i.a c) + laneVal i.t (r.operandB i c)))) ∧
  (∀ (s : State) (plu : Fin 32) (i : Ins) (j : Job) (x : Snap) (r : PixelRun), s.Executes plu i j x r → i.op = 0x21 →
    ∃ r', exec (.subs plu) s = .next (s.setRun plu (some r')) ∧ r.LanesSet r' i (fun c => laneOf i.t (laneVal i.t (r.lane i.a c) - laneVal i.t (r.operandB i c)))) ∧
  (∀ (s : State) (plu : Fin 32) (i : Ins) (j : Job) (x : Snap) (r : PixelRun), s.Executes plu i j x r → i.op = 0x22 →
    ∃ r', exec (.mul plu) s = .next (s.setRun plu (some r')) ∧ r.LanesSet r' i (fun c => laneOf i.t (rhe (laneVal i.t (r.lane i.a c) * laneVal true (r.operandB i c)) 32768))) ∧
  (∀ (s : State) (plu : Fin 32) (i : Ins) (j : Job) (x : Snap) (r : PixelRun), s.Executes plu i j x r → i.op = 0x23 →
    ∃ r', exec (.mad plu) s = .next (s.setRun plu (some r')) ∧ r.LanesSet r' i (fun c =>
      laneOf i.t (laneVal i.t (r.lane i.c c) + rhe (laneVal i.t (r.lane i.a c) * laneVal true (r.operandB i c)) 32768))) ∧
  (∀ (s : State) (plu : Fin 32) (i : Ins) (j : Job) (x : Snap) (r : PixelRun), s.Executes plu i j x r → i.op = 0x24 →
    ∃ r', exec (.min plu) s = .next (s.setRun plu (some r')) ∧ r.LanesSet r' i (fun c => laneOf i.t (min (laneVal i.t (r.lane i.a c)) (laneVal i.t (r.operandB i c))))) ∧
  (∀ (s : State) (plu : Fin 32) (i : Ins) (j : Job) (x : Snap) (r : PixelRun), s.Executes plu i j x r → i.op = 0x25 →
    ∃ r', exec (.max plu) s = .next (s.setRun plu (some r')) ∧ r.LanesSet r' i (fun c => laneOf i.t (max (laneVal i.t (r.lane i.a c)) (laneVal i.t (r.operandB i c))))) ∧
  (∀ (s : State) (plu : Fin 32) (i : Ins) (j : Job) (x : Snap) (r : PixelRun), s.Executes plu i j x r → i.op = 0x26 →
    ∃ r', exec (.absd plu) s = .next (s.setRun plu (some r')) ∧ r.LanesSet r' i (fun c =>
      laneOf i.t ((laneVal i.t (r.lane i.a c) - laneVal i.t (r.operandB i c)).natAbs))) ∧
  (∀ (s : State) (plu : Fin 32) (i : Ins) (j : Job) (x : Snap) (r : PixelRun), s.Executes plu i j x r → i.op = 0x27 →
    ∃ r', exec (.avg plu) s = .next (s.setRun plu (some r')) ∧ r.LanesSet r' i (fun c => laneOf i.t (rhe (laneVal i.t (r.lane i.a c) + laneVal i.t (r.operandB i c)) 2))) ∧
  (∀ (s : State) (plu : Fin 32) (i : Ins) (j : Job) (x : Snap) (r : PixelRun), s.Executes plu i j x r → i.op = 0x28 →
    ∃ r', exec (.shr plu) s = .next (s.setRun plu (some r')) ∧ r.LanesSet r' i (fun c => laneOf i.t (rhe (laneVal i.t (r.lane i.a c)) (2 ^ (i.f % 16))))) ∧
  (∀ (s : State) (plu : Fin 32) (i : Ins) (j : Job) (x : Snap) (r : PixelRun), s.Executes plu i j x r → i.op = 0x29 →
    ∃ r', exec (.shl plu) s = .next (s.setRun plu (some r')) ∧ r.LanesSet r' i (fun c => laneOf i.t (laneVal i.t (r.lane i.a c) * (2 ^ (i.f % 16) : Nat)))) ∧
  (∀ (s : State) (plu : Fin 32) (i : Ins) (j : Job) (x : Snap) (r : PixelRun), s.Executes plu i j x r → i.op = 0x2A →
    ∃ r', exec (.lerp plu) s = .next (s.setRun plu (some r')) ∧ r.LanesSet r' i (fun c =>
      laneOf false (rhe ((r.lane i.a c).toNat * (65535 - ((r.lane i.c c).toNat : Int)) + (r.lane i.b c).toNat * (r.lane i.c c).toNat) 65535))) ∧
  (∀ (s : State) (plu : Fin 32) (i : Ins) (j : Job) (x : Snap) (r : PixelRun), s.Executes plu i j x r → i.op = 0x1C →
    ∃ r', exec (.blnd plu) s = .next (s.setRun plu (some r')) ∧ r.LanesSet r' i (fun c =>
      blendLane (i.f / 2 ^ 24 % 16) (if i.f.testBit 31 then unsign 16 (r.scalar i.c) else i.f % 2 ^ 16)
        (fun c => (r.lane i.a c).toNat) (fun c => (r.lane i.b c).toNat) c))

/-- Sampling and stages. MAT and DOSE act by the record and the gains that the gather unit supplied at the start of the run. -/
def Obligations.PixelStagesAct : Prop :=
  (∀ (s : State) (plu : Fin 32) (i : Ins) (j : Job) (x : Snap) (r : PixelRun), s.Executes plu i j x r → i.op = 0x18 → x.mask.testBit ((r.past i).smpLayerNo i) = true →
    ∃ r', exec (.smp plu) s = .next (s.setRun plu (some r')) ∧ r.LanesSet r' i (s.smpLane x (r.past i) i)) ∧
  (∀ (s : State) (plu : Fin 32) (i : Ins) (j : Job) (x : Snap) (r : PixelRun), s.Executes plu i j x r → i.op = 0x30 →
    ∃ r', exec (.mat plu) s = .next (s.setRun plu (some r')) ∧ r.LanesSet r' i (r.matLane i)) ∧
  (∀ (s : State) (plu : Fin 32) (i : Ins) (j : Job) (x : Snap) (r : PixelRun), s.Executes plu i j x r → i.op = 0x31 →
    ∃ r', exec (.lut plu) s = .next (s.setRun plu (some r')) ∧ r.LanesSet r' i (fun c => s.lutLane (plu / 8) (bits x.ctrl Cmp.LUT_SET) c (r.lane i.a c))) ∧
  (∀ (s : State) (plu : Fin 32) (i : Ins) (j : Job) (x : Snap) (r : PixelRun), s.Executes plu i j x r → i.op = 0x32 →
    ∃ r', exec (.luts plu) s = .next (s.setRun plu (some r')) ∧ r.LanesSet r' i (fun c => s.lutLane (plu / 8) (i.f % 8) c (r.lane i.a c))) ∧
  (∀ (s : State) (plu : Fin 32) (i : Ins) (j : Job) (x : Snap) (r : PixelRun), s.Executes plu i j x r → i.op = 0x33 →
    ∃ r', exec (.dose plu) s = .next (s.setRun plu (some r')) ∧ r'.dosed = true ∧ r'.pc = r.pc + 1 ∧
      (∀ c, c < 4 → r'.lane i.d c = if r.writes i c then r.doseLane i c else r.lane i.d c) ∧
      r'.dose = (List.range 4).map (fun c =>
        if r.writes i c && bit x.cmpCtrl 1 && decide (r.tile < x.tileCount) then (r.doseLane i c).toNat else 0)) ∧
  (∀ (s : State) (plu : Fin 32) (i : Ins) (j : Job) (x : Snap) (r : PixelRun), s.Executes plu i j x r → i.op = 0x34 →
    ∃ r', exec (.dith plu) s = .next (s.setRun plu (some r')) ∧ r.LanesSet r' i (ditherLane x r i)) ∧
  (∀ (s : State) (plu : Fin 32) (i : Ins) (j : Job) (x : Snap) (r : PixelRun), s.Executes plu i j x r → i.op = 0x35 →
    exec (.st plu) s = .next ((s.hwBytes (x.outAt r.pixel)
      (pixelBytes (depthOf x.ctrl) ((List.range 4).map (fun c => (r.lane i.a c).toNat)))).setRun plu
        (some { r.past i with stored := true })))

/-- Stores of programs and pixels. `u` is the state in which the write acts. -/
def Obligations.ProgramsAndStoresTakeWrites : Prop :=
  (∀ (s : State) (r : Requester) (n : Fin 4) (v : Word),
    s.accepts r (pgCMP n.val + 1) (Cmp.PROG_DATA_LO - 0x1000) = true →
      ∃ t, exec (.progDataLoWrite r n v) s = .next t ∧ t.prog = s.prog ∧
        ∀ m, Tab.get (fun _ => 0) t.progStage m = if m = n.val then v else Tab.get (fun _ => 0) s.progStage m) ∧
  (∀ (s : State) (r : Requester) (n : Fin 4) (v : Word),
    let u := s.told r (pgCMP n.val + 1) (Cmp.PROG_DATA_HI - 0x1000) v
    let a := u.fld (pgCMP n.val) Cmp.PROG_ADDR Cmp.ADDR
    s.accepts r (pgCMP n.val + 1) (Cmp.PROG_DATA_HI - 0x1000) = true →
      ∃ t, exec (.progDataHiWrite r n v) s = .next t ∧ t.progStage = s.progStage ∧
        (∀ m w, m < 4 → w < 8192 → Tab.get (fun _ => 0) t.prog (8192 * m + w)
          = if w = a ∧ (m = n.val ∨ u.fld (pgCMP n.val) Cmp.PROG_ADDR Cmp.BCAST = 1)
            then v ++ Tab.get (fun _ => 0) s.progStage n.val else Tab.get (fun _ => 0) s.prog (8192 * m + w)) ∧
        t.fld (pgCMP n.val) Cmp.PROG_ADDR Cmp.ADDR
          = if u.fld (pgCMP n.val) Cmp.PROG_ADDR Cmp.INC = 1 then (a + 1) % 8192 else a) ∧
  (∀ (s : State) (x : Nat) (l : List Byte), s.aclkRuns = true → x + l.length ≤ 0x200000000 →
    ∃ t, exec (.memoryWindowWrite x l) s = .next t ∧
      ∀ a, t.byte a = if DRAM_BASE + x ≤ a ∧ a < DRAM_BASE + x + l.length then l.getD (a - (DRAM_BASE + x)) 0 else s.byte a) ∧
  (∀ (s : State) (m : Fin 4) (f : List Byte) (i : Nat) (u : Udp), s.headPacket 2 m.val = some f → s.ingStream m.val f = some i →
    parseUdp f = some u →
    (∀ n, s.ingStalls i (udpPayload f u) = none → (s.queue 2 m.val).committed = n + 1 →
      exec (.ingestWriteResume m) s = .next (State.ingDrain
        (((s.modMac m.val (fun x => { x with stall := none })).popPacket 2 m.val).ingPacket m.val f) m.val n)) ∧
    (∀ b, s.ingStalls i (udpPayload f u) = some b → (s.macOf m.val).stall = some b → exec (.ingestWriteResume m) s = .next s))

/-- Releases and fixed starts. A timed event acts in the state that the timeline reaches at its instant. -/
def Obligations.FrameStartsAreFixed : Prop :=
  (∀ (s a : State) (k : Fin 16) (x : Nat),
    (s.swath k.val).told = [] → s.ownStarts k.val = true → s.releases k.val = true → (s.swath k.val).frames.all (·.ready) = true →
    s.snapshotAllowed k.val (s.nextFrame k.val) = true → s.releaseAfter k.val (s.nextFrame k.val) = some x →
    s.reach (timeOfUnits x) = some a →
    (a.releaseHeld k.val = false → exec (.release k none) s = .next (a.doRelease k.val (s.nextFrame k.val))) ∧
    (a.releaseHeld k.val = true → exec (.release k none) s = .next (a.holdRelease k.val))) ∧
  (∀ (s : State) (k f : Nat), k < 16 → s.readySrc k = 1 →
    ((s.doRelease k f).swath k).frames = (s.swath k).frames ++ [⟨f, false⟩] ∧ ((s.doRelease k f).swath k).everReleased = true ∧
      (s.doRelease k f).nat (pgSWT k) Swt.RELEASED_FRAME = f % 2 ^ 32) ∧
  (∀ (s : State) (r : Requester) (k : Fin 16),
    let u := s.told r (pgSWT k.val) Swt.FRAME_READY 1
    s.accepts r (pgSWT k.val) Swt.FRAME_READY = true →
    (∀ x, (s.swath k.val).frames.find? (fun x => !x.ready) = some x → u.readySrc k.val = 1 →
      ∃ t, exec (.frameReadyWrite r k) s = .next t ∧
        (t.swath k.val).frames = (s.swath k.val).frames.map (fun y => if y.frame = x.frame then { y with ready := true } else y)) ∧
    ((s.swath k.val).frames.find? (fun x => !x.ready) = none →
      exec (.frameReadyWrite r k) s = .next (u.fault (pgSWT k.val) Swt.F_READY_OVERRUN))) ∧
  (∀ (s a : State) (k : Fin 16) (g : Nat) (c : Rat) (m : Int),
    let lead : Rat := (s.leadUnits k.val : Rat)
    let first := (s.nextWindow k.val s.nowUnits).lo - lead
    let x := if s.nowUnits < first then first else s.nowUnits
    let w := a.nextWindow k.val x
    s.oldestReady k.val = some g → s.mayFix k.val = true → s.fallback = false →
    s.reach (if s.nowUnits < x then timeOfUnits x.ceil.toNat else s.tln.now) = some a →
    a.firstCandidate k.val w (x + lead) = some (c, m) → (a.swath k.val).holdEnd = none →
      exec (.newFrameFix k) s = .next (a.fixStart k.val ⟨(roundGridRat c).toNat, g, false,
        if w.anchor.isSome then m else 0, if w.free then none else w.anchor⟩ w)) ∧
  (∀ (s a : State) (k : Fin 16) (g : Nat) (c : Rat) (m : Int),
    let w := s.nextWindow k.val s.nowUnits
    let x := c - (s.leadUnits k.val : Rat)
    s.mayFix k.val = true → s.startKind k.val = 0 → (s.swath k.val).lastFixed = some g → s.oldestReady k.val = none →
    s.lastCandidate k.val w = some (c, m) →
    s.reach (if s.nowUnits < x then timeOfUnits x.ceil.toNat else s.tln.now) = some a →
      exec (.repeatFix k) s = .next (a.fixStart k.val ⟨(roundGridRat c).toNat, g, true,
        if w.anchor.isSome then m else 0, if w.free then none else w.anchor⟩ w)) ∧
  (∀ (s : State) (k : Nat) (f : FixedStart) (slips : Nat) (free : Bool), k < 16 →
    let t := s.placeStart k f slips free
    (t.swath k).fixed = (s.swath k).fixed ++ [f] ∧ (t.swath k).lastFixed = some f.frame ∧
      (f.repeated = false → (t.swath k).frames = (s.swath k).frames.filter (fun x => x.frame != f.frame)) ∧
      (f.repeated = true → (t.swath k).frames = (s.swath k).frames))

/-- What the starts of a Swath do. A timed event acts in the state that the timeline reaches at its instant. -/
def Obligations.FrameStartsHappen : Prop :=
  (∀ (s a : State) (k : Fin 16) (f : FixedStart) (rest : List FixedStart),
    (s.swath k.val).fixed = f :: rest → s.swathState k.val ≠ 0 → s.enabled (pgSWT k.val) = true →
    s.reach (timeOfUnits f.start) = some a →
      ∃ t, exec (.frameStart k) s = .next t ∧ (t.swath k.val).lastStart = some f.start ∧
        (t.swath k.val).shown = some f.frame ∧ (t.swath k.val).holdEnd = none ∧ t.swathState k.val = 2) ∧
  (∀ (s a : State) (k : Fin 16) (x : Nat),
    (s.swath k.val).lastStart = some x → s.swathState k.val = 2 → s.stopSet (pgSWT k.val) = true → (s.swath k.val).fixed = [] →
    s.reach (timeOfUnits (((x : Rat) + s.frameMin k.val).ceil.toNat)) = some a →
      exec (.swathHold k) s = .next (a.enterHolding k.val []).commitAllIdle) ∧
  (∀ (s : State) (k : Nat) (l : List Nat) (master : Bool), k < 16 →
    let t := s.holdOne k l master
    t.swathState k = 3 ∧ (t.swath k).fixed = [] ∧
      (t.swath k).holdEnd = some (unitsOf s.tln.now + (2 * s.swathPeriod k).floor.toNat)) ∧
  (∀ (s a : State) (k : Fin 16) (x : Nat), (s.swath k.val).holdEnd = some x → s.swathState k.val = 3 →
    s.reach (timeOfUnits x) = some a →
      exec (.holdLimitExpire k) s = .next ((a.setSts (pgSWT k.val) Swt.S_HOLD_TIMEOUT 1).enterStopped k.val)) ∧
  (∀ (s : State) (k : Fin 16) (r : Fin 8) (x : Snap),
    let p := pgSWT k.val
    let w := s.swath k.val
    let c := s.rectCrc k.val r.val x
    r.val ∈ w.crcBusy → s.snapOfSwath k.val w.crcFrame = some x →
      ∃ t, exec (.rectCrcResult k r) s = .next t ∧ t.reg p (Swt.LAST_CRC r.val) = c ∧
        (t.swath k.val).crcBusy = w.crcBusy.filter (· != r.val) ∧
        (s.rectMode k.val r.val = 1 → c ≠ s.reg p (Swt.EXPECTED r.val) →
          t.reg p (Swt.MISMATCHES r.val) = s.reg p (Swt.MISMATCHES r.val) + 1 ∧
          t.nat p (Swt.LAST_BAD r.val) = w.crcFrame % 2 ^ 32) ∧
        (s.rectMode k.val r.val = 1 → c = s.reg p (Swt.EXPECTED r.val) →
          t.reg p (Swt.MISMATCHES r.val) = s.reg p (Swt.MISMATCHES r.val)) ∧
        (s.rectMode k.val r.val = 2 → t.reg p (Swt.EXPECTED r.val) = c ∧ t.sts p Swt.S_CAPTURED = 1))

/-- Ports with two slots. A timed event acts in the state that the timeline reaches at its instant. -/
def Obligations.SlotsAreEmitted : Prop :=
  (∀ (s a : State) (k : Fin 64) (l : Launch),
    let key := keyPX k.val
    earliest ((s.launches key).filter (fun l => l.choice.isNone)) = some l → s.reach (timeOfUnits (l.at_ - 2000 * LU)) = some a →
    a.mayLaunch key (pgPXP k.val) l.swath = true →
    ((a.portOf key).holds l.frame = true →
      exec (.portSlotCheck k) s = .next (a.chooseLaunch key l (some l.frame))) ∧
    ((a.portOf key).holds l.frame = false →
      ∃ t, exec (.portSlotCheck k) s = .next t ∧
        t.reg (pgPXP k.val) Pxp.UNDERRUNS = a.reg (pgPXP k.val) Pxp.UNDERRUNS + 1 ∧
        let c := if a.flag (pgPXP k.val) Pxp.PX_POLICY 0 then none
          else (a.portOf key).emitted.bind (fun e => if (a.portOf key).holds e then some e else none)
        t.launches key = (s.launches key).map (fun x => if x = l then { x with choice := some c } else x))) ∧
  (∀ (s a : State) (k : Fin 64) (l : Launch) (g : Nat),
    let key := keyPX k.val
    let begin_ := gridUp (max l.at_ (s.portOf key).lastEnd)
    let count := (((s.portOf key).fill (g % 2)).map (·.count)).getD 0
    earliest (s.launches key) = some l → l.choice = some (some g) → (s.portOf key).emit = none →
    s.reach (timeOfUnits begin_) = some a → a.mayLaunch key (pgPXP k.val) l.swath = true →
      ∃ t, exec (.portLaunch k) s = .next t ∧ (t.portOf key).emit = some ⟨g, g % 2, begin_ + a.pxTime k.val count⟩ ∧
        (t.portOf key).emitted = some g ∧ t.launches key = (s.launches key).filter (fun x => x != l) ∧
        t.nat (pgPXP k.val) Pxp.EMIT_FRAME = ((((s.portOf key).fill (g % 2)).map (·.frame)).getD g) % 2 ^ 32 ∧
        ∃ pins, t.out = pins ++ ((a.pxWaves k.val begin_ (g % 2) count).map
            (fun w => (Output.px w.1 w.2).placed a.gridAt)).reverse ++ s.out ∧
          ∀ o ∈ pins, ∃ w v u, o = .cut w v u ∨ o = .driver w v u) ∧
  (∀ (s a : State) (k : Fin 64) (e : Emission) (c : Nat), (s.portOf (keyPX k.val)).emit = some e →
    s.reach (timeOfUnits e.stop) = some a →
      ∃ t, exec (.portEmissionEnd k c) s = .next t ∧ (t.portOf (keyPX k.val)).emit = none ∧
        (t.portOf (keyPX k.val)).lastEnd = e.stop ∧
        t.reg (pgPXP k.val) Pxp.FRAMES = a.reg (pgPXP k.val) Pxp.FRAMES + 1 ∧
        t.reg (pgPXP k.val) Pxp.CONFLICTS
          = a.reg (pgPXP k.val) Pxp.CONFLICTS + BitVec.ofNat 32 (min c (s.portOf (keyPX k.val)).samples)) ∧
  (∀ (s a : State) (k : Fin 12) (l : Launch),
    let key := keyDMX k.val
    earliest ((s.launches key).filter (fun l => l.choice.isNone)) = some l → s.reach (timeOfUnits (l.at_ - 2000 * LU)) = some a →
    a.mayLaunch key (pgDMX k.val) l.swath = true →
    ((a.portOf key).holds l.frame = true →
      exec (.dmxSlotCheck k) s = .next (a.chooseLaunch key l (some l.frame))) ∧
    ((a.portOf key).holds l.frame = false →
      ∃ t, exec (.dmxSlotCheck k) s = .next t ∧
        t.reg (pgDMX k.val) Dmx.UNDERRUNS = a.reg (pgDMX k.val) Dmx.UNDERRUNS + 1 ∧
        let c := if a.flag (pgDMX k.val) Dmx.DMX_POLICY 0 then none
          else (a.portOf key).emitted.bind (fun e => if (a.portOf key).holds e then some e else none)
        t.launches key = (s.launches key).map (fun x => if x = l then { x with choice := some c } else x))) ∧
  (∀ (s a : State) (k : Fin 12) (l : Launch) (g : Nat),
    let key := keyDMX k.val
    let p := pgDMX k.val
    let begin_ := gridUp (max l.at_ (s.portOf key).lastEnd)
    earliest (s.launches key) = some l → l.choice = some (some g) → (s.portOf key).emit = none →
    s.reach (timeOfUnits begin_) = some a → a.mayLaunch key p l.swath = true →
      ∃ t, exec (.dmxLaunch k) s = .next t ∧ (t.portOf key).emit = some ⟨g, g % 2, begin_ + a.dmxTime k.val * LU⟩ ∧
        (t.portOf key).emitted = some g ∧ t.launches key = (s.launches key).filter (fun x => x != l) ∧
        ∃ pins, t.out = pins ++ (Output.dmx k.val (dmxWave begin_ (a.fld p Dmx.BREAK_NS (19, 0)) (a.fld p Dmx.MAB_NS (19, 0))
            (a.fld p Dmx.MBS_NS (19, 0)) (a.dmxSlots k.val (g % 2)))).placed a.gridAt :: s.out ∧
          ∀ o ∈ pins, ∃ w v u, o = .cut w v u ∨ o = .driver w v u) ∧
  (∀ (s a : State) (k : Fin 12) (e : Emission) (c : Nat), (s.portOf (keyDMX k.val)).emit = some e →
    s.reach (timeOfUnits e.stop) = some a →
      ∃ t, exec (.dmxPacketEnd k c) s = .next t ∧ (t.portOf (keyDMX k.val)).emit = none ∧
        (t.portOf (keyDMX k.val)).lastEnd = e.stop ∧
        t.reg (pgDMX k.val) Dmx.FRAMES = a.reg (pgDMX k.val) Dmx.FRAMES + 1 ∧
        t.reg (pgDMX k.val) Dmx.LINE_CONFLICTS
          = a.reg (pgDMX k.val) Dmx.LINE_CONFLICTS + BitVec.ofNat 32 (min c (s.portOf (keyDMX k.val)).samples))

/-- Reception and RDM. A timed event acts in the state that the timeline reaches at its instant. -/
def Obligations.DmxReceivesAndAsks : Prop :=
  (∀ (s : State) (k : Fin 12) (line : List (Bool × Nat)),
    let p := pgDMX k.val
    let mark := 4 * s.fld p Dmx.RX_END_US (10, 0)
    s.dmxListens k.val = true →
    (∀ d, rxPacket mark (joinRuns line) = .packet d →
      ∃ t, exec (.dmxRxPacket k line) s = .next t ∧
        t.nat p Dmx.RX_SLOTS = (d.headD 0).toNat * 2 ^ 16 + (d.length - 1) ∧ t.sts p Dmx.S_INPUT_STATE = 1 ∧
        t.nat p Dmx.RX_STAMP
          = stamp32 (s.tln.now - ((fromBreak (joinRuns line)).map (·.2)).sum * (250 * NS)) % 2 ^ 32 ∧
        t.reg p Dmx.RX_PACKETS = s.reg p Dmx.RX_PACKETS + 1) ∧
    (rxPacket mark (joinRuns line) = .discarded →
      exec (.dmxRxPacket k line) s = .next ((s.inc p Dmx.RX_ERRORS).fault p Dmx.F_RX_ERROR)) ∧
    (∀ b m c, line = [(false, b), (true, m), (false, c)] → 352 ≤ b → 0 < m → m < 32 → 0 < c →
      exec (.dmxRxPacket k line) s = .next ((s.inc p Dmx.RX_ERRORS).fault p Dmx.F_RX_ERROR)) ∧
    ((∀ x ∈ joinRuns line, x.1 = false → x.2 < 352) → exec (.dmxRxPacket k line) s = .next s)) ∧
  (∀ (s a : State) (k : Fin 12),
    let p := pgDMX k.val
    s.sts p Dmx.S_INPUT_STATE = 1 → s.engineRuns = true →
    s.reach ((s.dmxOf k.val).lastRx + s.fld p Dmx.RX_LOSS_MS (11, 0) * 1000000 * NS) = some a →
      ∃ t, exec (.dmxRxLoss k) s = .next t ∧ t.sts p Dmx.S_INPUT_STATE = 2 ∧
        (a.flag p Dmx.DMX_POLICY 1 = false → t.merge = s.merge) ∧
        (a.flag p Dmx.DMX_POLICY 1 = true →
          t = (a.setInputState k.val 2).dropSource (a.fld p Dmx.DMX_UNIV (11, 0)) none k.val)) ∧
  (∀ (s : State) (r : Requester) (k : Fin 12),
    let p := pgDMX k.val
    let u := s.told r p Dmx.RDM_GO 1
    s.accepts r p Dmx.RDM_GO = true →
    (u.rdmOutcome k.val ≠ 1 → u.rdmOutcome k.val ≠ 2 → u.dmxDir k.val ≠ 1 → u.flag p Dmx.DMX_MODE 12 = true →
      26 ≤ u.rdmLen k.val → u.rdmLen k.val ≤ 257 → u.rdmKind k.val ≠ 3 →
      baseOk (u.rdmReqAt k.val) (u.rdmLen k.val) = true → baseOk (u.rdmRspAt k.val) 260 = true →
      u.rdmReservation k.val + u.dmxTime k.val ≤ u.fld (pgSWT (u.dmxSwath k.val)) Swt.FRAME_MIN (26, 0) →
      u.stileHeld = true → ∃ t, exec (.rdmGo r k) s = .next t ∧ t.rdmOutcome k.val = 1) ∧
    (u.rdmOutcome k.val = 1 ∨ u.rdmOutcome k.val = 2 ∨ u.rdmGoBad k.val = true ∨ u.stileHeld = false →
      exec (.rdmGo r k) s = .next
        (((if u.rdmOutcome k.val = 1 ∨ u.rdmOutcome k.val = 2 then [Dmx.F_RDM_WRITE] else [])
          ++ (if u.rdmGoBad k.val then [F_BAD_VALUE] else [])
          ++ (if u.stileHeld then [] else [Dmx.F_NOT_ACTIVE])).foldl (fun a n => a.fault p n) u))) ∧
  (∀ (s : State) (r : Requester) (k : Fin 12), s.accepts r (pgDMX k.val) Dmx.RDM_GO = true →
    (s.told r (pgDMX k.val) Dmx.RDM_GO 2).rdmOutcome k.val = 2 →
      ∃ t, exec (.rdmAbort r k) s = .next t ∧ t.rdmOutcome k.val = 7 ∧ t.sts (pgDMX k.val) Dmx.S_RDM_DONE = 1 ∧
        (t.dmxOf k.val).run = none) ∧
  (∀ (s : State) (k : Fin 12),
    let x := unitsOf s.tln.now
    let p := pgDMX k.val
    let sendAt := x + s.rdmGap k.val * LU
    let sendEnd := sendAt + s.rdmTime k.val * LU
    let windowEnd := sendEnd + s.rdmWindow k.val * LU
    s.rdmOutcome k.val = 1 → s.active p = true → s.swathState (s.dmxSwath k.val) = 2 → (s.portOf (keyDMX k.val)).emit = none →
    ((x + s.rdmReservation k.val * LU : Nat) : Int) ≤ s.dmxNextLaunch k.val →
      let listenAt := sendEnd + s.fld p Dmx.DE_HOLD_NS (11, 0) * LU
      let wave := dmxWave sendAt (s.fld p Dmx.RDM_BREAK_NS (19, 0)) (s.fld p Dmx.RDM_MAB_NS (19, 0)) 0
        ((s.bytes (s.rdmReqAt k.val) (s.rdmLen k.val)).map (·.toNat))
      ∃ t, exec (.rdmBegin k) s = .next t ∧ t.rdmOutcome k.val = 2 ∧
        (t.dmxOf k.val).run = some ⟨s.rdmKind k.val, sendAt, sendEnd, listenAt, windowEnd, wave⟩ ∧
        ∃ pins, t.out = pins
            ++ (Output.de k.val ((sendAt, true) :: (if s.rdmKind k.val = 0 then [] else [(listenAt, false), (windowEnd, true)]))).placed
                s.gridAt
            :: (Output.dmx k.val wave).placed s.gridAt :: s.out ∧
          ∀ o ∈ pins, ∃ w v u, o = .cut w v u ∨ o = .driver w v u) ∧
  (∀ (s a : State) (k : Fin 12) (start stop : Nat) (faulty : Bool) (d : List Byte) (x : RdmRun),
    (s.dmxOf k.val).run = some x → s.rdmOutcome k.val = 2 → x.kind = 1 →
    (start ≤ 1000 * s.fld (pgDMX k.val) Dmx.RSP_TIMEOUT_US (12, 0) →
      s.reach (timeOfUnits (min (x.listenAt + stop * LU) x.windowEnd)) = some a →
      ∃ t, exec (.rdmResponse k start stop faulty d) s = .next t ∧ t.mem = (s.hwBytes (s.rdmRspAt k.val) (d.take 257)).mem ∧
        t.fld (pgDMX k.val) Dmx.RDM_RESULT (24, 16) = min 257 d.length ∧
        t.rdmOutcome k.val
          = (if faulty = false ∧ x.listenAt + stop * LU ≤ x.windowEnd ∧ rdmSound d = true then 3 else 6)) ∧
    (1000 * s.fld (pgDMX k.val) Dmx.RSP_TIMEOUT_US (12, 0) < start →
      exec (.rdmResponse k start stop faulty d) s = exec (.rdmNoResponse k) s)) ∧
  (∀ (s a : State) (k : Fin 12) (x : RdmRun),
    (s.dmxOf k.val).run = some x → s.rdmOutcome k.val = 2 → x.kind = 1 →
    s.reach (timeOfUnits (x.listenAt + s.fld (pgDMX k.val) Dmx.RSP_TIMEOUT_US (12, 0) * 1000 * LU)) = some a →
      ∃ t, exec (.rdmNoResponse k) s = .next t ∧ t.rdmOutcome k.val = 4 ∧
        t.fld (pgDMX k.val) Dmx.RDM_RESULT (24, 16) = 0) ∧
  (∀ (s a : State) (k : Fin 12) (heard : Option (List Byte)) (framing : Bool) (x : RdmRun),
    (s.dmxOf k.val).run = some x → s.rdmOutcome k.val = 2 → x.kind = 2 → s.reach (timeOfUnits x.windowEnd) = some a →
      ∃ t, exec (.rdmDiscoveryEnd k heard framing) s = .next t ∧
        (heard = none → t.rdmOutcome k.val = 4) ∧
        (∀ d e, heard = some d → framing = false → discBody 7 d = some e → (discDecode e).2 = true →
          t.rdmOutcome k.val = 3 ∧ t.nat (pgDMX k.val) Dmx.DISC_UID_LO = (discDecode e).1 % 2 ^ 32 ∧
          t.nat (pgDMX k.val) Dmx.DISC_UID_HI = (discDecode e).1 / 2 ^ 32 % 2 ^ 32) ∧
        (∀ d, heard = some d → framing = true ∨ discBody 7 d = none → t.rdmOutcome k.val = 5) ∧
        (∀ d e, heard = some d → discBody 7 d = some e → (discDecode e).2 = false → t.rdmOutcome k.val = 5)) ∧
  (∀ (s a : State) (k : Fin 12) (x : RdmRun), (s.dmxOf k.val).run = some x → s.reach (timeOfUnits x.windowEnd) = some a →
      ∃ t, exec (.rdmWindowEnd k) s = .next t ∧
        t.rdmOutcome k.val = (if a.rdmOutcome k.val ≠ 2 then a.rdmOutcome k.val else if x.kind = 0 then 3 else 4))

/-- MAC commands. `a` is the counted state of a write, or the state that the timeline reaches at an event's instant. -/
def Obligations.MacsSendAndReceive : Prop :=
  (∀ (s : State) (r : Requester) (m i : Fin 4) (v : Word),
    let a := s.counted
    let x := bits v (11, 0)
    s.reaches (pgETH m.val) = true →
    (x < a.txSize m.val i.val →
      ∃ t, exec (.txrTailWrite r m i v) s = .next t ∧ t.nat (pgETH m.val) (Eth.TXR_TAIL i.val) = x ∧
        (a.chainSpan m.val i.val (a.heldDescs m.val i.val) = none →
          Tab.get (fun _ => none) (t.macOf m.val).headAt i.val = some (unitsOf s.tln.now))) ∧
    (a.txSize m.val i.val ≤ x → exec (.txrTailWrite r m i v) s = .next (a.badValue (pgETH m.val + 1))) ∧
    (x < a.rxSize m.val i.val → exec (.rxrTailWrite r m i v) s = .next (a.setNat (pgETH m.val) (Eth.RXR_TAIL i.val) x)) ∧
    (a.rxSize m.val i.val ≤ x → exec (.rxrTailWrite r m i v) s = .next (a.badValue (pgETH m.val + 2)))) ∧
  (∀ (s a : State) (m : Fin 4) (u : TxUnit),
    let s0 := s.ringsSettle m.val
    let x := unitsOf a.tln.now
    s.active (pgETH m.val) = true → s0.macReady m.val = true →
    s0.reach (timeOfUnits (s0.nextStart m.val (s0.macOf m.val).sendEnd)) = some a →
    a.nextPlaced m.val = none → (a.macOf m.val).halted = none → (a.macOf m.val).burst = none →
    bestOf (a.macOf m.val).served (a.ready m.val x) = some u →
    (a.muted u = true → exec (.macTxStart m) s = .next (a.takeHead m.val u)) ∧
    (a.muted u = false → u.launch = none →
      exec (.macTxStart m) s = .next ((a.takeHead m.val u).txBegin m.val (a.startFrom m.val x) u)) ∧
    (a.muted u = false → ∀ l, u.launch = some l →
      ∃ b : State, exec (.macTxStart m) s
          = .next ((b.takeHead m.val u).txBegin m.val (a.startFrom m.val x) { u with launch := none, status := 5 }) ∧
        (u.src < 4 → b.reg (pgETH m.val) (Eth.TXR_UNPLACED u.src) = a.reg (pgETH m.val) (Eth.TXR_UNPLACED u.src) + 1))) ∧
  (∀ (s a : State) (m : Fin 4) (u : TxUnit) (l : Nat),
    let s0 := s.ringsSettle m.val
    let b := a.makeWay m.val l u
    s.active (pgETH m.val) = true → s0.nextPlaced m.val = some u → u.launch = some l → s0.reach (timeOfUnits l) = some a →
    unitsOf a.tln.now ≤ l → a.srcBusy m.val u.src = false → a.muted u = false → b.macReady m.val = true →
    b.held m.val = false → b.nextStart m.val (b.macOf m.val).sendEnd ≤ l →
      exec (.placedLaunch m) s = .next (((b.takeHead m.val u).modMac m.val (fun y =>
        { y with lastPlaced := some l, phase := l })).txBegin m.val l u)) ∧
  (∀ (s : State) (m l : Nat) (u : TxUnit),
    (u.express = true → s.canPreempt m (s.cutFor m l) = true →
      ((s.makeWay m l u).macOf m).sending = none ∧ ((s.makeWay m l u).macOf m).sendEnd = l - s.byteSpan m 20) ∧
    (u.express = false ∨ s.canPreempt m (s.cutFor m l) = false → s.makeWay m l u = s)) ∧
  (∀ (s : State) (m x : Nat) (u : TxUnit), u.src ≠ 5 → u.src ≠ 6 →
    let t := s.txBegin m x u
    t.out = (Output.eth m x (padFrame (u.frames.headD []))).placed s.gridAt :: s.out ∧ (t.macOf m).sendAt = x ∧
      (t.macOf m).sendEnd = s.frameEnd m x (u.frames.headD []) ∧ (t.macOf m).sending.map (·.src) = some u.src) ∧
  (∀ (s a : State) (m : Fin 4) (u : TxUnit), (s.macOf m.val).sending = some u →
    s.reach (timeOfUnits (s.macOf m.val).sendEnd) = some a →
      ∃ t, exec (.macTxDone m) s = .next t ∧ (t.macOf m.val).sending = none ∧
        t.reg (pgETH m.val) Eth.TX_GOOD = a.reg (pgETH m.val) Eth.TX_GOOD + 1) ∧
  (∀ (s0 : State) (m : Fin 4) (ago : Nat) (err : Fin 3) (corrected lost : Nat) (f : List Byte),
    let s := s0.fecCorrects m.val corrected
    let p := pgETH m.val
    let n := 720 + 8 * m.val
    let bad (off : Nat) : State := (s.inc p off).count (n + 4) 1
    let u := ((((s.macMs m.val).modMac m.val (fun x => { x with msCount := x.msCount + 1 })).inc p Eth.RX_GOOD).count n 1).count
      (n + 1) (f.length + 4)
    s0.aclkRuns = true → s.active p = true → s.macLink m.val = true →
    (lost ≠ 0 → s.rsFec m.val = true → exec (.macRxFrame m ago err corrected lost f) s0
      = .next ((s.addReg p Eth.RX_FEC_UNCORR lost).count (n + 4) 1)) ∧
    (lost = 0 ∨ s.rsFec m.val = false →
      (err = 2 → exec (.macRxFrame m ago err corrected lost f) s0 = .next (bad Eth.RX_CODE)) ∧
      (err = 1 → 60 ≤ f.length → f.length + 4 ≤ s.maxFrame m.val →
        exec (.macRxFrame m ago err corrected lost f) s0 = .next (bad Eth.RX_FCS)) ∧
      (err.val < 2 → f.length < 60 → exec (.macRxFrame m ago err corrected lost f) s0 = .next (bad Eth.RX_RUNT)) ∧
      (err.val < 2 → 60 ≤ f.length → s.maxFrame m.val < f.length + 4 →
        exec (.macRxFrame m ago err corrected lost f) s0 = .next (bad Eth.RX_OVERSIZE)) ∧
      (err = 0 → 60 ≤ f.length → f.length + 4 ≤ s.maxFrame m.val →
        ((u.queuePacket 0 m.val f).queue 0 m.val).committed ≠ (u.queue 0 m.val).committed →
        exec (.macRxFrame m ago err corrected lost f) s0 = .next ((u.queuePacket 0 m.val f).rxDrain m.val ago
          ((u.queuePacket 0 m.val f).queue 0 m.val).committed)))) ∧
  (∀ (s : State) (m ago : Nat) (f : List Byte),
    let s1 := if s.flag pgBR Br.BR_PORT (8 + m) && s.brPort m == 2 then s.learn m (macSrc f) else s
    (etherType f = 0x8808 → beAt f (etherEnd f) 2 = 1 → s.handleFrame m ago f = s1.pauseRx m (beAt f (etherEnd f + 2) 2)) ∧
    (etherType f = 0x8808 → beAt f (etherEnd f) 2 ≠ 1 → s.handleFrame m ago f = s1.inc (pgETH m) Eth.RX_CTRL_DROP) ∧
    (etherType f ≠ 0x8808 → 0x0180C2000000 ≤ macDst f → macDst f ≤ 0x0180C200000F → s.brPort m ≠ 0 →
      s.handleFrame m ago f = s1.toHost m (s.rxStamp m ago) f))

/-- Links of a MAC. A timed event acts in the state that the timeline reaches at its instant. -/
def Obligations.LinksAct : Prop :=
  (∀ (s a : State) (m : Fin 4) (x : Nat), (s.macOf m.val).pauseEnd = some x → s.reach (timeOfUnits x) = some a →
    ∃ t, exec (.pauseEnd m) s = .next t ∧ (t.macOf m.val).pauseEnd = none ∧ t.sts (pgETH m.val) Eth.S_PAUSED = 0 ∧
      t.flag (pgETH m.val) Eth.LINK_STATUS 3 = false) ∧
  (∀ (s : State) (m : Fin 4),
    let p := pgETH m.val
    let fill := (s.queue 0 m.val).words.length
    let q := s.fld p Eth.PAUSE_CTRL (31, 16)
    s.flag p Eth.PAUSE_CTRL 1 = true → s.active p = true →
    ((s.macOf m.val).xoff = none → 32 * s.fld p Eth.PAUSE_LEVEL (15, 0) ≤ fill →
      ∃ t, exec (.pauseSend m) s = .next t ∧ (t.macOf m.val).waiting = (s.macOf m.val).waiting ++ [s.pauseFrame m.val q] ∧
        (t.macOf m.val).xoff = some (unitsOf s.tln.now + s.quantum m.val q / 2)) ∧
    (∀ x, (s.macOf m.val).xoff = some x → fill ≤ 32 * s.fld p Eth.PAUSE_LEVEL (31, 16) →
      ∃ t, exec (.pauseSend m) s = .next t ∧ (t.macOf m.val).waiting = (s.macOf m.val).waiting ++ [s.pauseFrame m.val 0] ∧
        (t.macOf m.val).xoff = none)) ∧
  (∀ (s a : State) (m : Fin 4) (i : Fin 8) (x : Nat),
    let us := s.fld (pgETH m.val) (modOff i.val) (31, 16)
    Tab.get (fun _ => none) (s.macOf m.val).timers i.val = some x → us ≠ 0 →
    s.reach (timeOfUnits (x + us * 1000 * LU)) = some a →
    (a.nat (pgETH m.val) (pendOff i.val) ≠ 0 →
      ∃ t, exec (.modTimerExpire m i) s = .next t ∧ t.nat (pgETH m.val) (pendOff i.val) = 0 ∧
        t.flag (pgETH m.val) Eth.RING_IRQ (i.val % 4 + 8 * (i.val / 4)) = true ∧
        Tab.get (fun _ => none) (t.macOf m.val).timers i.val = none) ∧
    (a.nat (pgETH m.val) (pendOff i.val) = 0 → exec (.modTimerExpire m i) s = .next a)) ∧
  (∀ (s : State) (m : Fin 4), s.macLink m.val = false → s.enabled (pgETH m.val) = true →
    ∃ t, exec (.ethLinkChange m true) s = .next t ∧ t.macLink m.val = true ∧ (t.macOf m.val).settled = false ∧
      (t.macOf m.val).linkAt = unitsOf s.tln.now ∧ t.mem = s.mem) ∧
  (∀ (s : State) (m : Fin 4), s.macLink m.val = true →
    ∃ t, exec (.ethLinkChange m false) s = .next t ∧ t.macLink m.val = false ∧ (t.macOf m.val).sending = none ∧
      (t.macOf m.val).waiting = [] ∧
      t.reg (pgETH m.val) Eth.LINK_DOWNS = s.reg (pgETH m.val) Eth.LINK_DOWNS + 1) ∧
  (∀ (s a : State) (m : Fin 4), s.macLink m.val = true →
    s.reach (timeOfUnits ((s.macOf m.val).linkAt + 1000000 * LU)) = some a →
    ∃ t, exec (.linkSettleEnd m) s = .next t ∧ (t.macOf m.val).settled = true ∧ t.live = a.live) ∧
  (∀ (s : State) (m : Fin 4), s.preemptState m.val = 1 →
    (∃ t, exec (.preemptVerify m true) s = .next t ∧ t.preemptState m.val = 2) ∧
    (∀ a, s.reach (timeOfUnits ((s.macOf m.val).verifyAt + s.fld (pgETH m.val) Eth.PREEMPT_CTRL (15, 8) * 1000000 * LU)) = some a →
      ((s.macOf m.val).tries = 2 →
        exec (.preemptVerify m false) s = .next ((a.setPreempt m.val 3).fault (pgETH m.val) Eth.F_VERIFY_FAIL)) ∧
      ((s.macOf m.val).tries ≠ 2 →
        ∃ t, exec (.preemptVerify m false) s = .next t ∧ (t.macOf m.val).tries = (s.macOf m.val).tries + 1 ∧
          (t.macOf m.val).verifyAt = unitsOf a.tln.now)))

/-- The bridge's database. `a` is the counted state. -/
def Obligations.TheForwardingDatabaseActs : Prop :=
  (∀ (s : State) (r : Requester),
    let a := s.counted
    let mac := a.fdbMac
    let rest := s.bridge.fdb.filter (fun e => e.mac != mac)
    s.reaches pgBR = true → a.flag pgBR Br.FDB_STATUS 0 = false →
    ((rest.filter (fun e => sameSet e.mac mac)).length < 4 →
      ∃ t, exec (.fdbAdd r) s = .next t ∧ t.flag pgBR Br.FDB_STATUS 0 = true ∧
        t.fdbFind mac = some ⟨mac, a.fld pgBR Br.FDB_PORTS (5, 0), true, s.tln.now⟩ ∧
        ∀ x, x ≠ mac → t.fdbFind x = s.fdbFind x) ∧
    (4 ≤ (rest.filter (fun e => sameSet e.mac mac)).length → (∀ e ∈ rest, sameSet e.mac mac = true → e.fixed = true) →
      let b := a.fault pgBR Br.F_FDB_FULL
      exec (.fdbAdd r) s = .next ({ b with bridge := { b.bridge with cmdAt := some (s.tln.now, some mac) } }.setFlag
        pgBR Br.FDB_STATUS 0 true)) ∧
    (∃ t, exec (.fdbDelete r) s = .next t ∧ t.flag pgBR Br.FDB_STATUS 0 = true ∧ t.fdbFind mac = none ∧
      ∀ x, x ≠ mac → t.fdbFind x = s.fdbFind x) ∧
    (∃ t, exec (.fdbLookup r) s = .next t ∧ t.flag pgBR Br.FDB_STATUS 0 = true ∧ t.bridge.fdb = s.bridge.fdb ∧
      t.nat pgBR Br.FDB_PORTS = ((s.fdbFind mac).elim 0 (fun e => 2 ^ 31 + e.ports)) % 2 ^ 32) ∧
    (∃ t, exec (.fdbFlush r) s = .next t ∧ t.flag pgBR Br.FDB_STATUS 0 = true ∧
      t.bridge.fdb = s.bridge.fdb.filter (·.fixed))) ∧
  (∀ (s : State) (r : Requester), s.reaches pgBR = true → s.counted.flag pgBR Br.FDB_STATUS 0 = true →
    ∀ c ∈ [Instr.fdbAdd r, .fdbDelete r, .fdbLookup r, .fdbFlush r], exec c s = .next (s.counted.badValue pgBR)) ∧
  (∀ s : State, ∃ t, exec .fdbDone s = .next t ∧ t.flag pgBR Br.FDB_STATUS 0 = false ∧ t.bridge = s.bridge) ∧
  (∀ (s a : State) (mac : BitVec 48) (e : FdbEntry),
    let age := s.fld pgBR Br.AGE_TIME (15, 0)
    s.fdbFind mac.toNat = some e → e.fixed = false → age ≠ 0 → s.reach (e.seen + age * SEC * NS) = some a →
      ∃ t, exec (.fdbAge mac) s = .next t ∧ t.fdbFind mac.toNat = none ∧ ∀ x, x ≠ mac.toNat → t.fdbFind x = s.fdbFind x)

/-- Merge and streams. A timed event acts in the state that the timeline reaches at its instant. -/
def Obligations.MergesAndStreamsAct : Prop :=
  (∀ s a : State,
    (if s.sts pgFIX Fix.S_MERGE_HELD = 1 then some s
      else if s.swathState s.mergeSwath = 2 then none else s.reachTick tickMerge MS 0) = some a → s.isStandby = false → a.mergeOn = true →
    (a.epochBusy (a.mergeEpoch + 1) = false →
      ∃ t, exec .mergeApply s = .next t ∧ t.mergeEpoch = (a.mergeEpoch + 1) % 2 ^ 32 ∧ t.sts pgFIX Fix.S_MERGE_HELD = 0) ∧
    (a.epochBusy (a.mergeEpoch + 1) = true → exec .mergeApply s = .next (a.setSts pgFIX Fix.S_MERGE_HELD 1))) ∧
  (∀ s : State,
    let b := s.mergeSpent (s.queue 3 0).committed
    s.isStandby = true →
    (b.headPacket 3 0 = none → exec .mergeApply s = .next b) ∧
    (∀ e, b.headPacket 3 0 = some e → b.mergeOn = true →
      (b.epochBusy (entryTag e) = false →
        ∃ t, exec .mergeApply s = .next t ∧ t.mergeEpoch = entryTag e % 2 ^ 32 ∧ t.sts pgFIX Fix.S_MERGE_HELD = 0) ∧
      (b.epochBusy (entryTag e) = true → exec .mergeApply s = .next (b.setSts pgFIX Fix.S_MERGE_HELD 1)))) ∧
  (∀ (s a : State) (k : Fin 4096) (r : Fin 4) (m : MergeSource) (c : Nat),
    (s.mergeSources k.val).find? (fun m => m.place == r.val) = some m → m.cid = some c →
    s.reach ((s.queuedSeen k.val c).foldl max m.seen + s.fld pgFIX Fix.SRC_LOSS_MS (12, 0) * 1000000 * NS) = some a →
      ∃ t, exec (.mergeSourceLoss k r) s = .next t ∧ t.mem = s.mem ∧
        t.mergeSources k.val = (s.mergeSources k.val).filter (fun x => !x.is (some c) m.port)) ∧
  (∀ (s a : State) (e : Fin 4096) (l : Launch),
    let key := keySTR e.val
    earliest ((s.launches key).filter (fun l => l.choice.isNone)) = some l → s.reach (s.strCheckAt e.val l) = some a →
    a.strSends e.val l.swath = true →
    (a.strPacked e.val l.frame = true → exec (.strUnderrunCheck e) s = .next (a.chooseLaunch key l (some l.frame))) ∧
    (a.strPacked e.val l.frame = false →
      ∃ t, exec (.strUnderrunCheck e) s = .next t ∧ t.reg pgSTR Str.UNDERRUNS = a.reg pgSTR Str.UNDERRUNS + 1 ∧
        let c := if bit (a.streamWord e.val 0) 24 then none else (a.portOf key).emitted
        t.launches key = (s.launches key).map (fun x => if x = l then { x with choice := some c } else x))) ∧
  (∀ (s a : State) (e : Fin 4096) (l : Launch) (g : Nat),
    let key := keySTR e.val
    let x := a.entryOf e.val
    let rep := l.repeated || g != l.frame
    earliest (s.launches key) = some l → l.choice = some (some g) → s.reach (s.strCheckAt e.val l) = some a →
    a.strSends e.val l.swath = true →
      ∃ t, exec (.streamLaunch e) s = .next t ∧ (t.portOf key).emitted = some g ∧
        t.launches key = (s.launches key).filter (fun y => y != l) ∧
        let burst := strUnit x e.val (some l.at_)
          ((List.range x.segs).map (fun i => a.cellFrame x g i l.count l.at_ rep false))
        let mine := insertUnit l.at_ burst (s.macOf x.mac).waiting
        (t.macOf x.mac).waiting = (if x.sync = 0 then mine
          else insertUnit (l.at_ + x.dataLead * LU) (strUnit x e.val (some (l.at_ + x.dataLead * LU))
            [(a.dropLaunch key l).syncFrame x l.count]) mine)) ∧
  (∀ (s a : State) (k : Fin 16) (n x : Nat),
    let rest := s.str.term.filter (fun y => y.1 != k.val)
    let left := if 1 < n then rest ++ [(k.val, n - 1, a.tln.now + 1000000 * NS)] else rest
    let b := { a with str := { a.str with term := left } }
    s.str.term.find? (fun y => y.1 == k.val) = some (k.val, n, x) → s.reach x = some a →
      (∃ t, exec (.streamTerminateSend k) s = .next t ∧ t.str.term = left) ∧
      (b.stileHeld = true → exec (.streamTerminateSend k) s = .next ((b.streamsOf k.val).foldl State.terminateEntry b))) ∧
  (∀ s a : State, s.active pgSTR = true → s.flag pgSTR Str.STR_CTRL 0 = true → s.stileHeld = true →
    (match s.str.discAt with
      | none => some s
      | some x => s.reach (x + 10 * SEC * NS)) = some a →
      ∃ t, exec .e131DiscoverySend s = .next t ∧ t.str.discAt = some a.tln.now ∧
        t = (List.range 4).foldl State.discoverMac { a with str := { a.str with discAt := some a.tln.now } })

/-- Sending of network time. A timed event acts in the state that the timeline reaches at its instant. -/
def Obligations.NetworkTimeSends : Prop :=
  (∀ (s : State) (m : Fin 4),
    let step := logUnits (s.logOf m.val Ntm.LOG_SYNC)
    let now := unitsOf s.tln.now
    let n := Tab.get (fun _ => 0) s.ntm.seqs (16 * m.val)
    let d := s.ptpHead m.val 0 44 0 0 n 0 (unsign 8 (s.logOf m.val Ntm.LOG_SYNC)) ++ beBytes 10 0
    let after := match Tab.get (fun _ => none) s.ntm.sentAt (2 * m.val) with
      | some l => max now l
      | none => now
    s.ptpOn m.val = true → s.portState m.val = 4 → s.tlState ≠ 0 →
      ∃ t u, exec (.ptpSyncSend m) s = .next t ∧ (t.macOf m.val).waiting = (s.macOf m.val).waiting ++ [u] ∧
        u.src = 5 ∧ u.frames = [(s.ptpFrame m.val true true d).1] ∧ u.launch = some ((after / step + 1) * step) ∧
        Tab.get (fun _ => none) t.ntm.sentAt (2 * m.val) = u.launch ∧
        Tab.get (fun _ => 0) t.ntm.seqs (16 * m.val) = (n + 1) % 65536) ∧
  (∀ (s a : State) (m : Fin 4), s.ptpOn m.val = true → s.portState m.val = 4 →
    (match Tab.get (fun _ => none) s.ntm.sentAt (2 * m.val + 1) with
      | some x => s.reach (timeOfUnits (x + logUnits (s.logOf m.val Ntm.LOG_ANNOUNCE)))
      | none => some s) = some a →
      ∃ t u, exec (.ptpAnnounceSend m) s = .next t ∧ t = a.announceNow m.val ∧
        (t.macOf m.val).waiting = (s.macOf m.val).waiting ++ [u] ∧ u.src = 5 ∧ u.launch = none ∧
        Tab.get (fun _ => none) t.ntm.sentAt (2 * m.val + 1) = some (unitsOf a.tln.now)) ∧
  (∀ (s a : State) (m : Fin 4),
    let n := Tab.get (fun _ => 0) s.ntm.seqs (16 * m.val + 1)
    s.slavePort = some m.val → s.ptpOn m.val = true → s.ntm.req = none → s.reach s.ntm.reqDue = some a →
      ∃ t u, exec .ptpDelayReqSend s = .next t ∧ t.ntm.req = some ⟨n, a.tln.now, none⟩ ∧
        (t.macOf m.val).waiting = (s.macOf m.val).waiting ++ [u] ∧ u.src = 5 ∧ u.express = true ∧ u.launch = none) ∧
  (∀ (s a : State) (m : Fin 4) (q : DelayReq), s.slavePort = some m.val → s.ntm.req = some q →
    s.reach (q.at_ + logUnits (s.logOf m.val Ntm.LOG_DELAY_REQ + 1) * 2 ^ 48 / LU) = some a →
      ∃ t, exec .ptpDelayRespTimeout s = .next t ∧ t.ntm.req = none ∧
        t.reg pgNTM (Ntm.DRESP_MISSING m.val) = a.reg pgNTM (Ntm.DRESP_MISSING m.val) + 1) ∧
  (∀ (s : State) (m : Nat) (d : List Byte) (rest : List (Nat × List Byte)), s.ntm.replies = (m, d) :: rest →
    (s.ptpOn m = true → s.portState m = 4 →
      ∃ t u, exec .ptpDelayRespSend s = .next t ∧ t.ntm.replies = rest ∧
        (t.macOf m).waiting = (s.macOf m).waiting ++ [u] ∧ u.src = 5 ∧ u.frames = [(s.ptpFrame m false true d).1]) ∧
    (s.ptpOn m = false ∨ s.portState m ≠ 4 →
      ∃ t, exec .ptpDelayRespSend s = .next t ∧ t.ntm.replies = rest ∧ t.mac = s.mac)) ∧
  (∀ (s : State) (r : Requester), s.aclkRuns = true →
    ∃ t, exec (.tsqHiRead r) s = .next t ∧ t.out = .read (BitVec.ofNat 32 s.tsqHi) :: s.out ∧
      t.ntm.tsq = s.ntm.tsq.drop 1 ∧ t.nat pgNTM Ntm.TSQ_LEVEL = (s.ntm.tsq.length - 1) % 2 ^ 32)

/-- Reception of network time. -/
def Obligations.NetworkTimeReceives : Prop :=
  (∀ (s : State) (m : Fin 4) (ago : Nat) (f : List Byte) (o : Nat),
    let sec := s.tln.now / (SEC * NS)
    let n := if Tab.get (fun _ => 0) s.ntm.answerSec m.val = sec then Tab.get (fun _ => 0) s.ntm.answered m.val else 0
    s.aclkRuns = true → ptpAt f = some o → s.ptpOn m.val = true → s.settling m.val = false → s.portState m.val = 4 →
    ptpDomain f o = s.fld pgNTM Ntm.NTM_CTRL Ntm.DOMAIN →
    (n < 4096 →
      ∃ t d, exec (.ptpDelayReqRx m ago f) s = .next t ∧ t.ntm.replies = s.ntm.replies ++ [(m.val, d)] ∧
        Tab.get (fun _ => 0) t.ntm.answered m.val = n + 1 ∧ Tab.get (fun _ => 0) t.ntm.answerSec m.val = sec) ∧
    (4096 ≤ n → exec (.ptpDelayReqRx m ago f) s = .next (s.inc pgNTM (Ntm.DREQ_DROP m.val)))) ∧
  (∀ (s : State) (m : Fin 4) (ago : Nat) (f : List Byte) (o : Nat),
    let rx := s.rxStamp m.val ago
    let seq := ptpSeq f o
    s.aclkRuns = true → ptpAt f = some o → s.ptpOn m.val = true → s.settling m.val = false →
    (s.portState m.val = 2 ∨ s.portState m.val = 3 → s.fromParent f o = true → s.seqLater seq = true →
      (ptpTwoStep f o = true →
        ∃ t, exec (.ptpSyncRx m ago f) s = .next t ∧ t.ntm.sync = some ⟨seq, ptpCorr f o, rx⟩) ∧
      (ptpTwoStep f o = false →
        exec (.ptpSyncRx m ago f) s
          = .next (s.syncMissed.syncAccept m.val seq (ptpTime f o) (ptpCorr f o) rx))) ∧
    (s.fromParent f o = false ∨ s.seqLater seq = false ∨ s.portState m.val ≠ 2 ∧ s.portState m.val ≠ 3 →
      exec (.ptpSyncRx m ago f) s = .next (s.inc pgNTM Ntm.SYNC_REJECTED))) ∧
  (∀ (s : State) (m : Fin 4) (f : List Byte) (o : Nat) (y : OpenSync), s.aclkRuns = true → ptpAt f = some o →
    s.ntm.sync = some y → s.ptpOn m.val = true → s.portState m.val = 2 ∨ s.portState m.val = 3 → s.fromParent f o = true →
    ptpSeq f o = y.seq →
      exec (.ptpFollowUpRx m f) s = .next (s.syncAccept m.val y.seq (ptpTime f o) (y.corr + ptpCorr f o) y.rx.toNat)) ∧
  (∀ (s : State) (m seq rx : Nat) (t1 corr : Int),
    let t := s.syncAccept m seq t1 corr rx
    t.ntm.ms = some (fix16 rx - t1 - corr - 256 * signed 32 (s.nat pgNTM (Ntm.ASYM m))) ∧ t.ntm.lastSeq = some seq ∧
      t.ntm.sync = none ∧ t.ntm.synced = s.tln.now) ∧
  (∀ (s : State) (m : Fin 4) (f : List Byte) (o : Nat) (q : DelayReq) (ms t3 : Int),
    let own := (s.nat pgNTM Ntm.CLOCK_ID_HI * 2 ^ 32 + s.nat pgNTM Ntm.CLOCK_ID_LO) * 65536 + m.val + 1
    let sm := ptpTime f o - fix16 t3.toNat - ptpCorr f o + 256 * signed 32 (s.nat pgNTM (Ntm.ASYM m.val))
    s.aclkRuns = true → ptpAt f = some o → s.ntm.req = some q → s.ntm.ms = some ms → q.sent = some t3 →
    s.ptpOn m.val = true → s.slavePort = some m.val → ptpDomain f o = s.fld pgNTM Ntm.NTM_CTRL Ntm.DOMAIN →
    beAt f (o + 44) 10 = own → ptpSeq f o = q.seq →
      ∃ t, exec (.ptpDelayRespRx m f) s = .next t ∧ t.ntm.req = none ∧
        (s.ntm.delay = none → t.ntm.delay = some (((ms + sm : Int) : Rat) / 512))) ∧
  (∀ (s a : State) (m : Fin 4),
    let n := max 1 (s.fld pgNTM Ntm.DELAY_CTRL Ntm.SYNC_LOSS)
    s.slavePort = some m.val → s.ptpValid = true →
    s.reach (s.ntm.synced + n * logUnits (s.logOf m.val Ntm.LOG_SYNC) * 2 ^ 48 / LU) = some a →
      ∃ t, exec .ptpSyncLoss s = .next t ∧ t.ptpValid = false) ∧
  (∀ (s : State) (r : Requester) (m : Fin 4) (v : Word),
    let a := s.counted
    let n := bits v (2, 0)
    let slave := decide (n = 2 ∨ n = 3)
    s.reaches (pgNTM + 1) = true →
    (isHost r = true → exec (.portStateWrite r m v) s = .next (a.fault pgNTM Ntm.F_OWNER_WRITE)) ∧
    (isHost r = false → n ≠ 7 → (slave = true → a.slavePort.any (fun k => k != m.val) = false) →
      ∃ t, exec (.portStateWrite r m v) s = .next t ∧ t.portState m.val = n) ∧
    (isHost r = false → n = 7 → exec (.portStateWrite r m v) s = .next (a.badValue (pgNTM + 1))) ∧
    (isHost r = false → slave = true → a.slavePort.any (fun k => k != m.val) = true →
      exec (.portStateWrite r m v) s = .next (a.badValue pgNTM)))

/-- Field ports. A timed event acts in the state that the timeline reaches at its instant. -/
def Obligations.FieldPortsAct : Prop :=
  (∀ (s a : State) (k : Fin 8) (l : Launch),
    let key := keyFLD k.val
    earliest ((s.launches key).filter (fun l => l.choice.isNone)) = some l → s.reach (timeOfUnits (l.at_ - 2000 * LU)) = some a →
    a.mayLaunch key (pgFLD k.val) l.swath = true →
    ((a.portOf key).holds l.frame = true →
      exec (.fieldSlotCheck k) s = .next (a.chooseLaunch key l (some l.frame))) ∧
    ((a.portOf key).holds l.frame = false →
      ∃ t, exec (.fieldSlotCheck k) s = .next t ∧
        t.reg (pgFLD k.val) Fld.UNDERRUNS = a.reg (pgFLD k.val) Fld.UNDERRUNS + 1)) ∧
  (∀ (s a : State) (k : Fin 8) (l : Launch) (g : Nat),
    let key := keyFLD k.val
    earliest (s.launches key) = some l → l.choice = some (some g) → s.reach (timeOfUnits l.at_) = some a →
    a.active (pgFLD k.val) = true → a.fldSched k.val = true → a.swathState l.swath = 2 → a.stileHeld = true → a.fallback = false →
      ∃ t, exec (.fieldRelease k) s = .next t ∧ (t.fieldOf k.val).released = a.fldFrames k.val (g % 2) ∧
        (t.portOf key).emitted = some g ∧ t.launches key = (s.launches key).filter (fun x => x != l)) ∧
  (∀ (s : State) (k : Fin 8) (f : FieldFrame) (b : State), s.fldOn k.val = true → s.active (pgFLD k.val) = true →
    (s.fieldOf k.val).onWire = false → (s.fieldOf k.val).waitUntil ≤ unitsOf s.tln.now → s.fldNext k.val = some (f, b) →
      ∃ t, exec (.fieldTxAttempt k) s = .next t ∧ (t.fieldOf k.val).current = some f ∧ (t.fieldOf k.val).onWire = true ∧
        t.reg (pgFLD k.val) Fld.ATTEMPTS = s.reg (pgFLD k.val) Fld.ATTEMPTS + 1 ∧
        ∃ pins, t.out = pins ++ (Output.field k.val (unitsOf s.tln.now) f.data).placed s.gridAt :: s.out ∧
          ∀ o ∈ pins, o = .driver (.field k.val) true s.tln.now) ∧
  (∀ (s : State) (k : Nat) (d : List Byte) (rest : List (List Byte)), (s.fieldOf k).current = none →
    (s.fieldOf k).released = d :: rest → ∃ b, s.fldNext k = some (⟨d, true, 0⟩, b) ∧ (b.fieldOf k).released = rest) ∧
  (∀ (s a : State) (k : Fin 8), (s.fieldOf k.val).current ≠ none → (s.fieldOf k.val).onWire = false →
    s.reach (timeOfUnits (s.fieldOf k.val).waitUntil) = some a → exec (.fieldBackoffEnd k) s = .next (a.fldAttempt k.val)) ∧
  (∀ (s : State) (k : Fin 8) (late : Bool) (c : FieldFrame),
    let p := pgFLD k.val
    let r := backoffDraw (s.reg pgRED Red.PAIR_SEED_LO) (s.reg pgRED Red.PAIR_SEED_HI) (s.reg p Fld.MAC_ADDR_LO)
      (s.reg p Fld.ATTEMPTS - 1) (c.collisions + 1)
    (s.fieldOf k.val).current = some c → (s.fieldOf k.val).onWire = true → s.fldOn k.val = true →
      ∃ t, exec (.fieldCollision k late) s = .next t ∧ (t.fieldOf k.val).onWire = false ∧
        t.reg p Fld.COLLISIONS = s.reg p Fld.COLLISIONS + 1 ∧
        (late = true ∨ 16 ≤ c.collisions + 1 → (t.fieldOf k.val).current = none) ∧
        (late = false → c.collisions + 1 < 16 →
          (t.fieldOf k.val).current = some { c with collisions := c.collisions + 1 } ∧
          (t.fieldOf k.val).waitUntil = unitsOf s.tln.now + r * FLD_SLOT)) ∧
  (∀ (s : State) (k : Fin 8), (s.fieldOf k.val).onWire = true →
    ∃ t, exec (.fieldTxDone k) s = .next t ∧ (t.fieldOf k.val).current = none ∧ (t.fieldOf k.val).onWire = false ∧
      t.reg (pgFLD k.val) Fld.TX_FRAMES = s.reg (pgFLD k.val) Fld.TX_FRAMES + 1) ∧
  (∀ (s : State) (k : Fin 8) (good : Bool) (ago : Nat) (d : List Byte), s.fldOn k.val = true → s.pageState (pgFLD k.val) ≠ 0 →
    (good = false ∨ d.length < 60 ∨ 1518 < d.length →
      exec (.fieldRxFrame k good ago d) s = .next (s.inc (pgFLD k.val) Fld.RX_BAD)) ∧
    (good = true → 60 ≤ d.length → d.length ≤ 1518 → s.fldAccepts k.val d = true →
      exec (.fieldRxFrame k good ago d) s = .next (s.fldTake k.val (s.tln.now - ago * NS) d)) ∧
    (good = true → 60 ≤ d.length → d.length ≤ 1518 → s.fldAccepts k.val d = false →
      exec (.fieldRxFrame k good ago d) s = .next s)) ∧
  (∀ (s : State) (k : Fin 8) (on : Bool),
    let p := pgFLD k.val
    let v := if on = true ∧ s.flag p Fld.FLD_MODE 0 = true then 1 else 0
    s.sts p Fld.S_PLCA_STATUS ≠ v →
      ∃ t, exec (.plcaStatusChange k on) s = .next t ∧ t.sts p Fld.S_PLCA_STATUS = v ∧
        (v = 0 → t.flag p PAGE_FAULT Fld.F_PLCA_DOWN = true))

/-- Lamp clusters and channels. A timed event acts in the state that the timeline reaches at its instant. -/
def Obligations.LampsAct : Prop :=
  (∀ (s a : State) (n : Fin 4) (l : Launch),
    let key := keyLCL n.val
    earliest ((s.launches key).filter (fun l => l.choice.isNone)) = some l → s.reach (timeOfUnits (l.at_ - 2000 * LU)) = some a →
    a.mayLaunch key (pgLCL n.val) l.swath = true →
    ((a.portOf key).holds l.frame = true → exec (.lampSlotCheck n) s = .next (a.chooseLaunch key l (some l.frame))) ∧
    ((a.portOf key).holds l.frame = false →
      ∃ t, exec (.lampSlotCheck n) s = .next t ∧
        t.reg (pgLCL n.val) Lcl.UNDERRUNS = a.reg (pgLCL n.val) Lcl.UNDERRUNS + 1)) ∧
  (∀ (s a : State) (n : Fin 4) (l : Launch) (g : Nat),
    let key := keyLCL n.val
    earliest (s.launches key) = some l → l.choice = some (some g) → s.reach (timeOfUnits l.at_) = some a →
    a.mayLaunch key (pgLCL n.val) l.swath = true →
      ∃ t v, exec (.lampLaunch n) s = .next t ∧ (t.portOf key).emitted = some g ∧
        t.launches key = (s.launches key).filter (fun x => x != l) ∧
        (t.clusterOf n.val).launched
          = (s.clusterOf n.val).launched ++ [(l.at_, some (writeBuf 8 [] 0 ((s.portOf key).buf (g % 2))), v)]) ∧
  (∀ (s a : State) (n : Fin 4), s.engineRuns = true → s.reach (timeOfUnits (s.nextBoundary n.val)) = some a →
    ∃ t, exec (.pwmPeriodBoundary n) s = .next t ∧ t = a.pwmBoundaryAt n.val (s.nextBoundary n.val) ∧
      (t.clusterOf n.val).boundary = s.nextBoundary n.val) ∧
  (∀ (d per : Nat) (carry : Int) (due : Bool), d ≠ 0 →
    (((pwmSteps d per carry due).1 * 65535 : Nat) : Int) + (pwmSteps d per carry due).2 = ((d * per : Nat) : Int) + carry) ∧
  (∀ (s a : State) (k : Fin 32) (code : Fin 4096),
    let x := s.lampOf k.val
    let p := pgLMP k.val
    let at_ := x.pulseAt + s.senseDelay k.val
    s.senses k.val = true → s.enabled p = true → 40000 ≤ x.pulse → x.pulseAt ≠ x.prevEnd →
    (x.hasOn = true → x.lastOn < x.pulseAt) → s.reach (timeOfUnits at_) = some a →
      (a.channelTaken k.val = false → ∃ t, exec (.lampOnSample k code) s = .next t ∧
        t.fld p Lmp.SENSE_LAST (11, 0) = s.calCode k.val code.val % 4096 ∧
        t.nat p Lmp.LAST_SAMPLE = at_ / LU % 2 ^ 32 ∧ (t.lampOf k.val).lastOn = at_ ∧ (t.lampOf k.val).hasOn = true) ∧
      (a.channelTaken k.val = true → exec (.lampOnSample k code) s = .next a)) ∧
  (∀ (s a : State) (k : Fin 32) (code : Fin 4096),
    let x := s.lampOf k.val
    let p := pgLMP k.val
    let edge := x.pulseAt + 64 * x.pulse
    s.senses k.val = true → s.enabled p = true → x.pulse ≠ 0 →
    x.pulse + 40000 ≤ s.fld (pgLCL (k.val / 8)) Lcl.PWM_PERIOD (23, 0) → x.lastOff ≤ edge →
    s.reach (timeOfUnits (edge + s.senseDelay k.val)) = some a →
      (a.channelTaken k.val = false → ∃ t, exec (.lampOffSample k code) s = .next t ∧
        t.fld p Lmp.SENSE_LAST (27, 16) = s.calCode k.val code.val % 4096 ∧
        (t.lampOf k.val).lastOff = edge + s.senseDelay k.val) ∧
      (a.channelTaken k.val = true → exec (.lampOffSample k code) s = .next a)) ∧
  (∀ (s a : State) (k : Fin 32),
    let x := s.lampOf k.val
    let n := k.val / 8
    x.hasOn = true → s.sts (pgLMP k.val) Lmp.S_LATCHED ≠ 1 →
    s.reach (timeOfUnits (x.lastOn + s.fld (pgLCL n) Lcl.PROBE_MS (15, 0) * 1000000 * LU
      + 64 * s.fld (pgLCL n) Lcl.PWM_PERIOD (23, 0))) = some a →
      ∃ t, exec (.diagTimeout k) s = .next t ∧ t.sts (pgLMP k.val) Lmp.S_DIAG_STATE = 0 ∧
        (t.lampOf k.val).hasOn = false ∧ (t.lampOf k.val).runLength = 0) ∧
  (∀ (s : State) (r : Requester) (k : Fin 32),
    let p := pgLMP k.val
    s.accepts r p Lmp.LMP_ACTION = true → (s.told r p Lmp.LMP_ACTION 1).sts p Lmp.S_LATCHED = 1 →
      ∃ t, exec (.retry r k) s = .next t ∧ t.sts p Lmp.S_LATCHED = 0 ∧ t.sts p Lmp.S_DIAG_STATE = 0 ∧
        (t.lampOf k.val).retryAt = some (unitsOf s.tln.now + 20000 * LU)) ∧
  (∀ (s a : State) (n : Fin 4) (x : Nat), (s.clusterOf n.val).releasedAt = some x → s.reach (x + 1000000 * NS) = some a →
    ∃ t, exec (.keeperOff n) s = .next t ∧ (t.clusterOf n.val).keeperOff = true) ∧
  (∀ (s a : State) (n : Fin 4) (v1 v2 : Nat),
    let p := pgLCL n.val
    s.fld p Lcl.LCL_MODE Lcl.TSNS_MODE ≠ 0 → s.stileHeld = true → s.enabled p = true →
    s.reachTick (tickSense n.val) (10 * MS) (5 * MS) = some a →
      (a.channelTaken (32 + n.val) = false →
        ∃ t, exec (.tsnsMeasure n v1 v2) s = .next t ∧ t.nat p Lcl.TEMP = unsign 16 (a.tsnsValue n.val v1 v2).1 ∧
          (t.clusterOf n.val).measured = some (a.tsnsValue n.val v1 v2).1 ∧
          ((a.tsnsValue n.val v1 v2).2 = true → t.flag p PAGE_FAULT Lcl.F_SENSOR_BROKEN = true)) ∧
      (a.channelTaken (32 + n.val) = true → exec (.tsnsMeasure n v1 v2) s = .next a)) ∧
  (∀ (s a : State) (n : Fin 4),
    let p := pgLCL n.val
    s.reachTick (tickDerate n.val) (10 * MS) 0 = some a →
      (s.fld p Lcl.LCL_MODE Lcl.TSNS_MODE = 0 →
        ∃ t, exec (.derateUpdate n) s = .next t ∧ (t.clusterOf n.val).update = some (32768, false)) ∧
      (∀ x, s.fld p Lcl.LCL_MODE Lcl.TSNS_MODE ≠ 0 → (s.clusterOf n.val).measured = some x →
        ∃ t trip, exec (.derateUpdate n) s = .next t ∧ (t.clusterOf n.val).update
          = some (derateOf (tempOf (s.reg p Lcl.DERATE_T) (15, 0)) (tempOf (s.reg p Lcl.DERATE_T) (31, 16))
              (s.fld p Lcl.DERATE_MIN (15, 0)) x, trip)))

/-- Queues. `x` is the queue before and `a` the counted state. -/
def Obligations.QueuesAct : Prop :=
  (∀ (s : State) (j : Fin 16) (q : Fin 4) (d : List Byte) (last : Bool) (i : QueueSpec),
    let x := s.queue j.val q.val
    let e := i.written d last
    queueSpec j.val q.val = some i → i.writer = 0 → x.sound = true → s.flag (pgQUE j.val) (Que.Q_CTRL q.val) 0 = true →
    x.lost = false → x.refused = false →
    (x.part.length + e.length < 32 → last = false →
      ∃ t, exec (.queueWrite none j q d last) s = .next t ∧ (t.queue j.val q.val).part = x.part ++ e ∧
        (t.queue j.val q.val).words = x.words ∧ (t.queue j.val q.val).committed = x.committed) ∧
    (32 ≤ x.part.length + e.length ∨ last = true → x.words.length < i.depth →
      ∃ t, exec (.queueWrite none j q d last) s = .next t ∧ (t.queue j.val q.val).part = [] ∧
        (t.queue j.val q.val).words = x.words ++ [QWord.pack (x.part ++ e) (x.tentative == 0) last] ∧
        (t.queue j.val q.val).committed = if last then x.words.length + 1 else x.committed) ∧
    (last = true → i.depth ≤ x.words.length →
      ∃ t, exec (.queueWrite none j q d last) s = .next t ∧ t.flag (pgQUE j.val) (Que.Q_STATUS q.val) 8 = true ∧
        (t.queue j.val q.val).words = x.words.take x.committed ∧ (t.queue j.val q.val).inPacket = false ∧
        t.fld (pgQUE j.val) (Que.Q_DROPS q.val) (15, 0) = (s.fld (pgQUE j.val) (Que.Q_DROPS q.val) (15, 0) + 1) % 65536)) ∧
  (∀ (s : State) (r : Requester) (j : Fin 16) (q : Fin 4) (i : QueueSpec),
    let a := s.counted
    let x := s.queue j.val q.val
    s.reaches (pgQUE j.val) = true → queueSpec j.val q.val = some i →
    (mayUse i true r = true →
      (∀ d last, exec (.queueWrite (some r) j q d last) s = .next (a.queueWrite j.val q.val (slice d 0 4) false)) ∧
      (∀ n : Fin 8, n.val < 5 → x.sound = true → x.inPacket = true → x.lost = false → x.refused = false →
        x.part = [] ∨ x.words.length < i.depth →
        ∃ t, exec (.qCommit r j q n) s = .next t ∧ (t.queue j.val q.val).inPacket = false ∧
          (t.queue j.val q.val).committed = (if x.part = [] then x.words.length else x.words.length + 1) ∧
          t.reg (pgQUE j.val) (Que.Q_PACKETS q.val) = s.reg (pgQUE j.val) (Que.Q_PACKETS q.val) + 1) ∧
      (x.sound = true → x.inPacket = true →
        ∃ t, exec (.qRewind (some r) j q) s = .next t ∧ (t.queue j.val q.val).inPacket = false ∧
          (t.queue j.val q.val).words = x.words.take x.committed)) ∧
    (mayUse i true r = false →
      (∀ d last, exec (.queueWrite (some r) j q d last) s = .next (a.queueDenied j.val q.val)) ∧
      (∀ n : Fin 8, exec (.qCommit r j q n) s = .next (a.queueDenied j.val q.val)) ∧
      exec (.qRewind (some r) j q) s = .next (a.queueDenied j.val q.val)) ∧
    (mayUse i false r = true → x.sound = true → x.committed ≠ 0 →
      ∃ t, exec (.qPop r j q) s = .next t ∧ (t.queue j.val q.val).words = x.words.drop 1 ∧
        (t.queue j.val q.val).committed = x.committed - 1) ∧
    (mayUse i false r = false → exec (.qPop r j q) s = .next (a.queueDenied j.val q.val)) ∧
    (∀ v, bits v Que.THRESH ≠ 0 → bits v Que.THRESH ≤ i.depth →
      ∃ t, exec (.qCtrlWrite r j q v) s = .next t ∧
        t.reg (pgQUE j.val) (Que.Q_CTRL q.val)
          = (s.reg (pgQUE j.val) (Que.Q_CTRL q.val) &&& 0xFC000000) ||| (v &&& 0x00FFFC03) ∧
        (bit v 0 = true → t.queue j.val q.val = x) ∧
        (bit v 0 = false → (t.queue j.val q.val).words = [] ∧ (t.queue j.val q.val).committed = 0)) ∧
    (∀ v, bits v Que.THRESH = 0 ∨ i.depth < bits v Que.THRESH →
      exec (.qCtrlWrite r j q v) s = .next (a.badValue (pgQUE j.val))))

/-- Interrupts. `a` is the counted state. -/
def Obligations.InterruptsAct : Prop :=
  (∀ (s : State) (k : Nat), isSource k = true → isLevelSource k = false →
    (s.aclkRuns = true → ∃ t, exec (.interruptEdge k) s = .next t ∧ t.icuBit (Icu.PENDING 0) k = true) ∧
    (s.aclkRuns = true → s.accountMode k = true → s.pwrState ≠ 1 →
      ∃ t, exec (.interruptEdge k) s = .next t ∧
        t.fld pgICU (srcCfg k) (31, 24) = min 255 (s.fld pgICU (srcCfg k) (31, 24) + 1)) ∧
    (s.aclkRuns = false →
      ∃ t, exec (.interruptEdge k) s = .next t ∧ Tab.get (fun _ => false) t.icu.latch k = true)) ∧
  (∀ (s : State) (k : Nat) (b : Bool), isSource k = true → isLevelSource k = true → Tab.get (fun _ => false) s.icu.level k ≠ b →
    s.aclkRuns = true → s.accountMode k = false → s.icuBit (Icu.IN_SERVICE 0) k = false →
      ∃ t, exec (.levelChange k b) s = .next t ∧ t.icuBit (Icu.PENDING 0) k = b ∧ Tab.get (fun _ => false) t.icu.level k = b) ∧
  (∀ (s : State) (r : Requester) (n : Fin 8),
    let a := s.counted
    s.aclkRuns = true →
    (actsFor r n.val = true → ∀ k, a.icuTop n.val = some k →
      ∃ t, exec (.icuClaim r n) s = .next t ∧ t.out = .read (BitVec.ofNat 32 k) :: s.out ∧
        t.icuBit (Icu.IN_SERVICE 0) k = true ∧ Tab.get (fun _ => 1024) t.icu.owner k = n.val) ∧
    (actsFor r n.val = true → a.icuTop n.val = none → exec (.icuClaim r n) s = .next (a.emit (.read 0x3FF))) ∧
    (actsFor r n.val = false → exec (.icuClaim r n) s = .next ((a.fault pgICU Icu.F_BAD_ACCESS).emit (.read 0x3FF)))) ∧
  (∀ (s : State) (r : Requester) (n : Fin 8) (k : Fin 1024),
    let a := s.counted
    s.reaches pgICU = true →
    (actsFor r n.val = true → a.icuBit (Icu.IN_SERVICE 0) k.val = true → k.val < 512 →
      Tab.get (fun _ => 1024) a.icu.owner k.val = n.val →
      ∃ t, exec (.icuComplete r n k) s = .next t ∧ t.icuBit (Icu.IN_SERVICE 0) k.val = false ∧
        Tab.get (fun _ => 1024) t.icu.owner k.val = 1024) ∧
    (actsFor r n.val = true → k.val < 512 → Tab.get (fun _ => 1024) a.icu.owner k.val ≠ n.val →
      exec (.icuComplete r n k) s = .next (a.fault pgICU Icu.F_BAD_COMPLETE)) ∧
    (actsFor r n.val = false → exec (.icuComplete r n k) s = .next (a.fault pgICU Icu.F_BAD_ACCESS))) ∧
  (∀ (s : State) (r : Requester) (k : Fin 512), s.reaches pgICU = true → isSource k.val = true →
    ∃ t, exec (.countClr r k) s = .next t ∧ t.fld pgICU (srcCfg k.val) Icu.COUNT = 0) ∧
  (∀ (s : State) (g : Fin 4), Tab.get (fun _ => false) s.icu.due g.val = true →
    (s.msixMasked g.val = true →
      ∃ t, exec (.msixSend g) s = .next t ∧ t.flag pgICU (Icu.MSIX_PBA 0) g.val = true ∧ t.out = s.out ∧
        Tab.get (fun _ => false) t.icu.due g.val = false) ∧
    (s.msixMasked g.val = false → s.icu.linkL0 = false →
      ∃ t, exec (.msixSend g) s = .next t ∧ Tab.get (fun _ => false) t.icu.held g.val = true ∧ t.out = s.out ∧
        t.icu.exitL1 = (s.icu.exitL1 || s.icu.linkL1) ∧
        Tab.get (fun _ => false) t.icu.due g.val = false) ∧
    (s.msixMasked g.val = false → s.icu.linkL0 = true →
      ∃ t, exec (.msixSend g) s = .next t ∧ Tab.get (fun _ => false) t.icu.due g.val = false ∧
        t.out = .msix g.val (s.reg pgICU (Icu.MSIX_TABLE (4 * g.val + 1))) (s.reg pgICU (Icu.MSIX_TABLE (4 * g.val)))
          (s.reg pgICU (Icu.MSIX_TABLE (4 * g.val + 2))) :: s.out))

/-- The Stile. A timed event acts in the state that the timeline reaches at its instant. -/
def Obligations.TheStileDecidesTheRole : Prop :=
  (∀ s : State, s.red.peer = true →
    ∃ t, exec .peerRailFall s = .next t ∧ t.red.peer = false ∧ t.red.own = (s.red.own || s.mayFastClaim) ∧
      t.stileHeld = ((s.red.own || s.mayFastClaim) && !s.red.claiming)) ∧
  (∀ s : State, s.red.peer = false →
    ∃ t, exec .peerRailRise s = .next t ∧ t.red.peer = true ∧ t.red.claiming = false ∧
      t.red.own = (s.red.own && !s.red.claiming) ∧ t.stileHeld = false) ∧
  (∀ s a : State, s.claimEnabled = true → s.red.own = false → s.red.peer = false → s.dev.dieFenced = false →
    s.pageState pgRED ≠ 3 → s.aclkRuns = true → s.reach (s.red.holdoffFrom + s.holdoffNs * NS) = some a →
      ∃ t, exec .holdoffClaim s = .next t ∧ t.red.own = true ∧ t.red.claiming = true ∧ t.stileHeld = false) ∧
  (∀ s a : State, s.red.claiming = true → s.red.own = true → s.red.peer = false →
    s.reach (s.red.holdoffFrom + 100 * NS) = some a →
      ∃ t, exec .holdoffConfirm s = .next t ∧ t.red.claiming = false ∧ t.red.own = true ∧ t.stileHeld = true) ∧
  (∀ s : State, s.sts pgRED Red.S_STILE_STATE = 2 → s.red.own = true →
    ∃ t, exec .stileConflict s = .next t ∧ t.red.own = false ∧ t.stileHeld = false ∧
      t.reg pgRED Red.CONFLICTS = s.reg pgRED Red.CONFLICTS + 1) ∧
  (∀ (s : State) (v : PeerView), s.red.view = some v →
    (v.own ≠ s.red.peer ∨ v.peer ≠ s.red.own → exec .stileMismatchTimeout s = .next (s.fault pgRED Red.F_STILE_MISMATCH)) ∧
    (v.own = s.red.peer → v.peer = s.red.own → exec .stileMismatchTimeout s = .next s))

/-- The link itself. `h` is the state in which a good frame acts. -/
def Obligations.LinkFramesAct : Prop :=
  (∀ (s : State) (m : TsxMsg) (k : Fin 16), s.laneOn m.lane.val = true → s.aclkRuns = true → m.good = false →
    ∀ c ∈ [Instr.hello m, .tsxIdle m, .nak m, .timeRsp m, .input m, .memwrite m, .regwrite m, .fix m, .release k (some m),
        .ready m, .digest m, .sense m, .outcome m, .swapReq m, .swapAt m, .swapAck m, .swapCancel m, .revertReq m, .resyncReq m,
        .copyBegin m, .cutover m, .syncBreak m, .converged m, .copy m, .thermal m, .record m, .imageBegin m, .imageData m,
        .imageEnd m, .imageAbort m],
      exec c s = .next ((((s.inc pgRED Red.RX_FRAMES).count 1473 1).inc pgRED Red.CRC_ERRORS).count 1475 1)) ∧
  (∀ (s : State) (m : TsxMsg), s.hears m = true →
    let h := s.heard m
    let p := m.payload
    exec (.tsxIdle m) s = .next h ∧
    (∃ t, exec (.hello m) s = .next t ∧
      t.red.view = some ⟨beAt p 16 1 == 1, beAt p 17 1 == 1, (beAt p 18 1).testBit 0, (beAt p 18 1).testBit 1, beAt p 19 1 % 8⟩ ∧
      ∀ j, j < 4 → t.nat pgRED (Red.PEER_ID0 + 4 * j) = beAt p (12 - 4 * j) 4) ∧
    exec (.nak m) s = .next (h.resendFrom (beAt p 0 4)) ∧
    (s.stileHeld = true → exec (.timeReq m) s = .next (h.answerTime m)) ∧
    (h.stileHeld = false → h.red.t1 = some (TimeVal.ofWire (slice p 0 12)).q8.toNat →
      ∃ t, exec (.timeRsp m) s = .next t ∧ t.red.t1 = none ∧ t.red.lastExchange = some h.tln.now)) ∧
  (∀ (s a : State) (m : TsxMsg), s.stileHeld = false → s.linkUp = true → s.reachTick tickPair MS 0 = some a →
    ∃ t, exec (.timeReq m) s = .next t ∧ t.red.t1 = some a.tsxStamp.q8.toNat ∧
      t.out = .tsx s.tsxLane (s.tsxBytes ⟨0, 0x04, 3, s.nat pgRED Red.SYNC_GEN, a.tsxStamp.wireBytes, 0⟩) :: s.out) ∧
  (∀ (s : State) (lane : Fin 2), s.laneOn lane.val = true → s.aclkRuns = true →
    ∃ t, exec (.helloSend lane) s = .next t ∧
      t.out = .tsx lane.val (s.tsxBytes ⟨0, 0x02, 3, s.nat pgRED Red.SYNC_GEN, s.helloPayload, 0⟩) :: s.out) ∧
  (∀ (s : State) (lane : Fin 2) (lock : Bool),
    ∃ t, exec (.tsxLaneLock lane lock) s = .next t ∧
      (if lane = 0 then t.red.lock0 else t.red.lock1) = (lock && s.laneOn lane.val && s.aclkRuns)) ∧
  (∀ (s : State) (lane : Fin 2),
    ∃ t, exec (.tsxLaneTimeout lane) s = .next t ∧ (if lane = 0 then t.red.up0 else t.red.up1) = false) ∧
  (∀ (s : State) (f : TsxFrame) (rest : List TsxFrame), s.red.unacked = f :: rest → s.linkUp = true →
    ∃ t, exec .tsxRetxTimeout s = .next t ∧ t.reg pgRED Red.RETX_COUNT = s.reg pgRED Red.RETX_COUNT + BitVec.ofNat 32
      (s.red.unacked.filter (fun g => decide ((g.seq + 2 ^ 32 - f.seq) % 2 ^ 32 < 2 ^ 31))).length)

/-- Lockstep on the standby. `b` is the state in which the frame is delivered. -/
def Obligations.LockstepIsApplied : Prop :=
  (∀ (s : State) (m : TsxMsg) (k : Fin 16), s.takesNext m = true → s.ofGeneration m = true →
    let b := s.expecting m
    let p := m.payload
    let to_ (x : State) : Host.Outcome State Fault Refusal := .next (s.andHeld x m)
    exec (.input m) s = to_ (b.rxInputPart p) ∧
    exec (.memwrite m) s = to_ (b.rxMemWrite p) ∧
    exec (.regwrite m) s = to_ (b.rxRegWrite p.length p) ∧
    exec (.fix m) s = to_ (b.rxFix p) ∧
    (b.ownStarts k.val = false → exec (.release k (some m)) s = to_ ((b.setSwath k.val { b.swath k.val with
      told := (b.swath k.val).told ++ [(beAt (p.drop 1) 3 4, beAt (p.drop 1) 7 4)] }).releaseTold k.val)) ∧
    exec (.ready m) s = to_ (b.rxReady p) ∧
    exec (.digest m) s = to_ (b.peerDigest (Digest.ofPayload p)) ∧
    exec (.sense m) s = to_ (b.rxSense p) ∧
    exec (.outcome m) s = to_ (b.rxOutcome p) ∧
    exec (.copy m) s = to_ (b.applyBlock p)) ∧
  (∀ (s : State) (p : List Byte) (a : Nat),
    let at_ := beAt p 0 8 % 2 ^ 40
    let d := p.drop 8
    (s.rxMemWrite p).byte a = if at_ ≤ a ∧ a < at_ + d.length ∧ isMemory a = true ∧ s.localByte a = false
      then d.getD (a - at_) 0 else s.byte a) ∧
  (∀ (s : State) (p : List Byte), beAt p 4 2 = 0 → (beAt p 2 2).testBit 0 = true →
    s.rxInputPart p = ((s.setRed { s.red with rxParts := [] }).count 1476 (p.drop 22).length).rxInput (beAt p 0 1) (beAt p 1 1)
      (beAt p 6 4) (slice p 10 12) (p.drop 22)) ∧
  (∀ (s : State) (p : List Byte),
    let k := beAt p 0 1 % 16
    s.ownStarts k = false →
    let start := (roundGrid (((TimeVal.ofWire (slice p 4 12)).units : Nat) : Int)).toNat
    (∃ anchor, ((s.rxFix p).swath k).fixed
        = (s.swath k).fixed ++ [⟨start, beAt p 16 4, beAt p 1 1 == 1, signed 16 (beAt p 2 2), anchor⟩] ∧
      (ANCHORED_SRC (s.swtSrc k) = false ∨ (beAt p 24 4).testBit 1 = true → anchor = none)) ∧
    Tab.get (fun _ => 0) (s.rxReady p).red.peerReady k = beAt p 4 4 + 1) ∧
  (∀ (s : State) (k f e : Nat) (rest : List (Nat × Nat)), (s.swath k).told = (f, e) :: rest →
    (s.releaseHeld k = true → s.releaseTold k = s.holdRelease k) ∧
    (s.releaseHeld k = false → s.releaseTold k
      = (((s.setSwath k { s.swath k with told := rest }).endHold k).mergeFollow e).makeRelease k f)) ∧
  (∀ (s : State) (p : List Byte),
    (beAt p 0 1 = 0 → s.rxSense p = s.lampSample (beAt p 1 1 % 32) true (beAt p 2 2 % 4096) (TimeVal.ofWire (slice p 4 12)).units) ∧
    (beAt p 0 1 = 1 → s.rxSense p = s.lampSample (beAt p 1 1 % 32) false (beAt p 2 2 % 4096) (TimeVal.ofWire (slice p 4 12)).units) ∧
    (beAt p 0 1 = 2 → s.rxSense p = s.tsnsTake (beAt p 1 1 % 4) (signed 16 (beAt p 2 2))) ∧
    (beAt p 0 1 = 2 → s.rxOutcome p = s.lampRetry (beAt p 1 1 % 32)) ∧
    (beAt p 0 1 = 0 → ∀ i, i < 6 →
      (s.rxOutcome p).nat (pgFLD (beAt p 1 1 % 8)) (Fld.ATTEMPTS + 4 * i) = beAt (p.drop 4) (4 * i) 4))

/-- Control and management messages. `b` is the state in which the frame is delivered. -/
def Obligations.RolesAndManagementAreTold : Prop :=
  (∀ (s : State) (m : TsxMsg), s.takesNext m = true →
    let b := s.expecting m
    let p := m.payload
    let to_ (x : State) : Host.Outcome State Fault Refusal := .next (s.andHeld x m)
    exec (.swapReq m) s = to_ b.planSwap ∧
    exec (.swapAt m) s = to_ (b.rxSwapAt (withOp 2 p)) ∧
    exec (.swapAck m) s = to_ b.rxSwapAck ∧
    (b.stileHeld = false → exec (.swapCancel m) s = to_ (b.setRed { b.red with plan := none })) ∧
    exec (.revertReq m) s = to_ b.planSwap ∧
    exec (.resyncReq m) s = to_ b.beginCopy ∧
    exec (.copyBegin m) s = to_ (b.copyBegun (beAt (p.drop 1) 3 4)) ∧
    (b.stileHeld = false → b.syncState = 1 → exec (.cutover m) s = to_ (b.setRed { b.red with
      cutover := some (roundGrid (((TimeVal.ofWire (slice p 8 12)).units : Nat) : Int)).toNat })) ∧
    exec (.syncBreak m) s = to_ b.unsync ∧
    exec (.converged m) s = to_ (b.rxConverged (withOp 5 p)) ∧
    exec (.thermal m) s = to_ (b.setNat pgTHM Thm.PEER_THERMAL (2 ^ 31 + beAt p 2 1 * 65536 + beAt p 0 2)) ∧
    exec (.record m) s = to_ ((b.setNat pgEVR Evr.PEER_REC_SEQ (beAt p 0 4)).setNat pgEVR Evr.PEER_REC_CODE
      (beAt p 4 2 % 4096)) ∧
    exec (.imageBegin m) s = to_ (b.imageRx (withOp 1 p)) ∧
    exec (.imageData m) s = to_ (b.imageRx (withOp 2 p)) ∧
    exec (.imageEnd m) s = to_ (b.imageRx (withOp 3 p)) ∧
    exec (.imageAbort m) s = to_ (b.imageRx (withOp 4 p))) ∧
  (∀ s : State, s.stileHeld = true → s.red.plan = none → s.red.pathCheck = none →
    s.swathState (s.fld pgRED Red.PAIR_CTRL Red.SWAP_SWATH) = 2 →
      s.planSwap = s.setRed { s.red with plan := some ⟨s.tln.now, none, false⟩ }) ∧
  (∀ (s : State) (asked x : Nat) (done : Bool), s.stileHeld = true → s.red.plan = some ⟨asked, some x, done⟩ →
    s.tln.now + 10000 * NS ≤ timeOfUnits x → s.rxSwapAck = s.setRed { s.red with plan := some ⟨asked, some x, true⟩ }) ∧
  (∀ (s : State) (gen : Nat), s.stileHeld = false → (s.copyBegun gen).syncState = 1 ∧
    (s.copyBegun gen).nat pgRED Red.SYNC_GEN = gen % 2 ^ 32) ∧
  (∀ s : State, s.stileHeld = true → s.linkUp = true →
    s.beginCopy.reg pgRED Red.SYNC_GEN = s.reg pgRED Red.SYNC_GEN + 1 ∧ s.beginCopy.stileHeld = true) ∧
  (∀ s : State,
    (s.stileHeld = false → s.syncState = 1 ∨ s.syncState = 3 ∨ s.syncState = 4 → s.unsync.syncState = 0 ∧
      exec .fixApplyDeadline s = .next ((s.fault pgRED Red.F_LAG).unsync)) ∧
    (s.stileHeld = true ∨ s.syncState ≠ 1 ∧ s.syncState ≠ 3 ∧ s.syncState ≠ 4 → exec .fixApplyDeadline s = .next s))

/-- Swaps and resynchronisations. `a` is the counted state, or the state that the timeline reaches at an event's instant. -/
def Obligations.SwapsAndResynchronisationsAct : Prop :=
  (∀ (s : State) (r : Requester), s.reaches pgRED = true →
    let a := s.counted
    let l := a.bytes (address8 (a.reg pgRED Red.SAFE_ADDR_LO) (a.reg pgRED Red.SAFE_ADDR_HI)) SAFE_LEN
    (a.stileHeld = true → exec (.swap r) s = .next a.planSwap) ∧
    (a.stileHeld = false → exec (.swap r) s = .next (a.roleMsg 1 none)) ∧
    (a.detached = true → ∃ t, exec (.resync r) s = .next t ∧ t.detached = false ∧ t.red.wanted = true ∧ t.red.skipLocal = true) ∧
    (a.detached = false → ∃ t, exec (.resync r) s = .next t ∧ t.differs = false ∧ t.nothingLocal = true ∧
      t.red.wanted = (a.syncState == 0 || a.syncState == 4) ∧ t.red.skipLocal = false) ∧
    (a.stileHeld = true → exec (.detach r) s = .next (a.badValue pgRED)) ∧
    (a.stileHeld = false → ∃ t, exec (.detach r) s = .next t ∧ t.detached = true ∧ t.syncState ≠ 3) ∧
    (∃ t, exec (.fallbackEnd r) s = .next t ∧ t.fallback = false ∧ t.red.scene = []) ∧
    (sceneValid l = true → exec (.safeStore r) s = .next (a.setBytes SAFE_AT l)) ∧
    (sceneValid l = false → exec (.safeStore r) s = .next (a.fault pgRED Red.F_SAFE_BAD))) ∧
  (∀ (s a : State) (asked x : Nat) (acked : Bool), s.red.plan = some ⟨asked, some x, acked⟩ → s.reach (timeOfUnits x) = some a →
    (s.stileHeld = true → s.red.own = true → acked = true →
      ∃ t, exec .swapInstant s = .next t ∧ t.red.own = false ∧ t.stileHeld = false ∧ t.red.plan = none ∧
        t.red.pathCheck = some x) ∧
    (s.stileHeld = true → acked = false → exec .swapInstant s = .next a.cancelSwap) ∧
    (s.stileHeld = false → exec .swapInstant s = .next (a.setTimeRegs pgRED Red.SWAP_S_LO (gridTimeVal x)))) ∧
  (∀ (s a : State) (asked : Nat) (acked : Bool), s.red.plan = some ⟨asked, none, acked⟩ → s.stileHeld = true →
    s.reach (asked + SEC * NS) = some a → exec .swapSearchTimeout s = .next a.cancelSwap) ∧
  (∀ s : State, s.cancelSwap.red.plan = none ∧ s.cancelSwap.flag pgRED PAGE_FAULT Red.F_SWAP_FAIL = true) ∧
  (∀ (s a : State) (x : Nat), s.red.pathCheck = some x → s.reach (timeOfUnits (x + 10 * LU)) = some a →
    (s.red.peer = true → exec .swapPathCheck s = .next a) ∧
    (s.red.peer = false → ∃ t, exec .swapPathCheck s = .next t ∧ t.red.pathCheck = none ∧
      t.flag pgRED PAGE_FAULT Red.F_PATH_FAULT = true ∧ (s.claimEnabled = true → s.dev.dieFenced = false → s.pageState pgRED ≠ 3 → t.red.own = true))) ∧
  (∀ (s a : State) (x n : Nat), s.red.pathCheck = some x → s.reach (timeOfUnits (x + 1000000 * LU)) = some a →
    ∃ t, exec (.pathCheckEnd n) s = .next t ∧ t.red.pathCheck = none ∧ t.nat pgRED Red.PATH_MISMATCHES = n % 2 ^ 32 ∧
      (n % 2 ^ 32 = 0 → t.reg pgRED Red.SWAP_COUNT = s.reg pgRED Red.SWAP_COUNT + 1 ∧ t.red.lastSwap = some a.tln.now ∧
        t.sts pgRED Red.S_DRILL_DUE = 0) ∧
      (n % 2 ^ 32 ≠ 0 → t.flag pgRED PAGE_FAULT Red.F_PATH_FAULT = true)) ∧
  (∀ (s a : State) (x : Nat), s.red.syncedSince = some x → s.dev.roleB = false → s.stileHeld = false → s.syncState = 3 →
    s.differs = false → s.fld pgRED Red.PAIR_CTRL Red.REVERT_EN = 1 →
    s.reach (x + s.fld pgRED Red.REVERT_HOLD (15, 0) * SEC * NS) = some a →
      exec .revertHoldExpire s = .next (a.roleMsg 5 none)) ∧
  (∀ (s a : State) (x : Nat), s.red.lastSwap = some x → s.sts pgRED Red.S_DRILL_DUE ≠ 1 →
    s.reach (x + 604801 * SEC * NS) = some a → ∃ t, exec .drillDue s = .next t ∧ t.sts pgRED Red.S_DRILL_DUE = 1) ∧
  (∀ (s a : State) (x : Nat), s.tln.peerValid = true → s.red.lastExchange = some x → s.reach (x + 3000000 * NS) = some a →
    ∃ t, exec .peerLost s = .next t ∧ t.tln.peerValid = false) ∧
  (∀ (s : State) (r : Requester), s.aclkRuns = true →
    ∃ t, exec (.lagMaxRead r) s = .next t ∧ t.nat pgRED Red.LAG_MAX = 0 ∧
      t.out = .read (s.reg pgRED Red.LAG_MAX) :: s.out)

/-- The event recorder. `x` is its pending queue, `a` the state that the timeline reaches at an event's instant. -/
def Obligations.RecorderActs : Prop :=
  (∀ (s : State) (code : Fin 4096) (page : Fin 1024), s.aclkRuns = true → s.enabled pgEVR = true → bit (s.trigWord code.val) 0 = true →
    let w := s.trigWord code.val
    let spent := Tab.get (fun _ => 0) s.evr.spent code.val
    let x := s.queue 3 3
    (bits w (23, 16) ≤ spent → ∃ t, exec (.recorderTrigger code page) s = .next t ∧
      t.reg pgEVR Evr.DROPPED_TOTAL = s.reg pgEVR Evr.DROPPED_TOTAL + 1 ∧ t.flag pgEVR PAGE_FAULT Evr.F_DROPPED = true ∧
      t.evr.dropped = min 65535 (s.evr.dropped + 1) ∧ t.queue 3 3 = x) ∧
    (spent < bits w (23, 16) → s.sts pgEVR Evr.S_FROZEN = 1 → ∃ t, exec (.recorderTrigger code page) s = .next t ∧
      t.reg pgEVR Evr.FROZEN_EVENTS = s.reg pgEVR Evr.FROZEN_EVENTS + 1 ∧ t.queue 3 3 = x) ∧
    (spent < bits w (23, 16) → s.sts pgEVR Evr.S_FROZEN ≠ 1 → s.flag (pgQUE 3) (Que.Q_CTRL 3) 0 = true → x.sound = true →
      x.lost = false → x.refused = false → x.part = [] → x.committed = x.words.length → x.words.length < 64 →
      ∃ t, exec (.recorderTrigger code page) s = .next t ∧ Tab.get (fun _ => 0) t.evr.spent code.val = spent + 1 ∧
        (t.queue 3 3).words = x.words
          ++ [QWord.pack (pendingEntry code.val page.val 0 0 (stamp32 s.tln.now)) (x.tentative == 0) true] ∧
        (t.queue 3 3).committed = x.words.length + 1)) ∧
  (∀ (s : State) (code : Fin 4096) (page : Fin 1024), s.enabled pgEVR = false ∨ bit (s.trigWord code.val) 0 = false →
    exec (.recorderTrigger code page) s = .next s) ∧
  (∀ (s a : State) (code : Fin 4096),
    let n := Tab.get (fun _ => 0) s.evr.spent code.val
    n ≠ 0 → s.reachTick code.val (2 ^ bits (s.trigWord code.val) (27, 24) * MS) 0 = some a →
      ∃ t, exec (.tokenRefill code) s = .next t ∧ Tab.get (fun _ => 0) t.evr.spent code.val = n - 1 ∧ t.mem = s.mem) ∧
  (∀ (s : State) (w : QWord), (s.queue 3 3).head = some w → s.mayRecord = true →
    let e := leAt w.data 0 8
    let ns := extendStamp (s.tln.now / NS) (e / 2 ^ 32)
    let b := s.queuePop 3 3
    let seq := s.nat pgEVR Evr.NEXT_SEQ
    (e.testBit 22 = false → ∃ t, exec .recordBegin s = .next t ∧
      t.evr.writing = some ⟨seq, b.snapshotRecord ⟨ns / SEC, ns % SEC, 0⟩ (e % 4096) (e / 2 ^ 12 % 1024), e % 4096, none⟩ ∧
      t.sts pgEVR Evr.S_WRITING = 1 ∧ ∀ i, i < 4 → t.byte (drawerAt seq + i) = 0) ∧
    (e.testBit 22 = true → ∃ t, exec .recordBegin s = .next t ∧ t.sts pgEVR Evr.S_WRITING = 1 ∧
      ∃ d, t.evr.writing = some d ∧ d.seq = seq ∧ d.group = some (e / 2 ^ 23 % 8))) ∧
  (∀ (s : State) (d : Drawer), s.evr.writing = some d → s.aclkRuns = true → 4 ≤ d.data.length →
    ∃ t, exec .recordComplete s = .next t ∧ t.evr.writing = none ∧ t.sts pgEVR Evr.S_WRITING = 0 ∧
      t.nat pgEVR Evr.NEXT_SEQ = (d.seq + 1) % 2 ^ 32 ∧ t.nat pgEVR Evr.WR_DRAWER = (d.seq + 1) % 4096 ∧
      t.reg pgEVR Evr.RECORDS = s.reg pgEVR Evr.RECORDS + 1 ∧
      (∀ i, i < 4 → t.byte (drawerAt d.seq + i) = d.data.getD i 0) ∧
      (s.evr.freezing = true → t.sts pgEVR Evr.S_FROZEN = 1)) ∧
  (∀ (s a : State) (g : Fin 8),
    let step := s.fld pgEVR (Evr.STAT_CTRL g.val) (27, 16) * SEC * NS
    s.flag pgEVR (Evr.STAT_CTRL g.val) 0 = true → step ≠ 0 → s.reachTick (tickSpan g.val) step 0 = some a →
      exec (.statSpanClose g) s = .next (((List.range 4).foldl State.macMs a).closeSpan g.val (a.statCfg g.val))) ∧
  (∀ (s : State) (g : Fin 8) (cfg : List (Word × Word)),
    let x := s.queue 3 3
    s.enabled pgEVR = true → s.sts pgEVR Evr.S_FROZEN ≠ 1 → s.flag (pgQUE 3) (Que.Q_CTRL 3) 0 = true → x.sound = true →
    x.lost = false → x.refused = false → x.part = [] → x.committed = x.words.length → x.words.length < 64 →
      (s.closeSpan g.val cfg).statGroup g.val = ⟨s.tln.now, List.replicate 5 StatQuantity.empty,
        (s.statGroup g.val).closed ++ [⟨(s.statGroup g.val).began, cfg, (s.statGroup g.val).open_⟩]⟩) ∧
  (∀ (s : State) (r : Requester), s.reaches pgEVR = true → s.evr.freezing = false →
    (s.sts pgEVR Evr.S_FROZEN ≠ 1 → s.evr.writing = none →
      ∃ t, exec (.freeze r) s = .next t ∧ t.sts pgEVR Evr.S_FROZEN = 1 ∧ t.evr.frozenAt = s.tln.now) ∧
    (s.sts pgEVR Evr.S_FROZEN ≠ 1 → s.evr.writing ≠ none →
      ∃ t, exec (.freeze r) s = .next t ∧ t.evr.freezing = true ∧ t.sts pgEVR Evr.S_FROZEN = s.sts pgEVR Evr.S_FROZEN) ∧
    (s.sts pgEVR Evr.S_FROZEN = 1 →
      ∃ t, exec (.thaw r) s = .next t ∧ t.sts pgEVR Evr.S_FROZEN = 0 ∧ t.evr.thawed = true)) ∧
  (∀ s a : State, s.sts pgEVR Evr.S_FROZEN = 1 → s.evr.freezing = false →
    s.reach (s.evr.frozenAt + s.fld pgEVR Evr.EVR_CTRL (31, 16) * SEC * NS) = some a →
      ∃ t, exec .freezeExpire s = .next t ∧ t.sts pgEVR Evr.S_FROZEN = 0 ∧ t.flag pgEVR PAGE_FAULT Evr.F_FREEZE_EXPIRED = true) ∧
  (∀ (s : State) (r : Requester) (low : Bool), s.reaches pgEVR = true →
    (low = true → s.sts pgEVR Evr.S_FROZEN = 1 →
      ∃ t, exec (.erase r low) s = .next t ∧ t.sts pgEVR Evr.S_ERASING = 1 ∧ t.mem = s.mem) ∧
    (low = false ∨ s.sts pgEVR Evr.S_FROZEN ≠ 1 →
      ∃ t, exec (.erase r low) s = .next t ∧ t.flag pgEVR PAGE_FAULT Evr.F_GUARD_REFUSED = true ∧
        t.sts pgEVR Evr.S_ERASING = s.sts pgEVR Evr.S_ERASING ∧ t.mem = s.mem)) ∧
  (∀ s : State, s.aclkRuns = true → s.sts pgEVR Evr.S_ERASING ≠ 0 →
    ∃ t, exec .eraseDone s = .next t ∧ t.sts pgEVR Evr.S_ERASING = 0 ∧
      ∀ a, drawerAt 0 ≤ a → a < drawerAt 0 + 0x200000 → t.byte a = 0) ∧
  (∀ s : State, s.aclkRuns = true → s.sts pgEVR Evr.S_SCANNING ≠ 0 →
    let r := s.scanRing 4096
    ∃ t, exec .recorderScan s = .next t ∧ t.sts pgEVR Evr.S_SCANNING = 0 ∧
      t.nat pgEVR Evr.NEXT_SEQ = ((r.1.map (· + 1)).getD 0) % 2 ^ 32 ∧ t.nat pgEVR Evr.TORN_FOUND = r.2 ∧
      (r.2 ≠ 0 → t.flag pgEVR PAGE_FAULT Evr.F_TORN = true)) ∧
  (∀ (s : State) (r : Requester) (v : Word),
    let n := s.fld pgEVR Evr.TRIG_ADDR (12, 0)
    (s.reaches pgEVR = true → n < 8176 → n < 4096 ∨ listWordOk v = true →
      ∃ t, exec (.trigDataAccess r (some v)) s = .next t ∧ t.trigWord n = (if n < 4096 then v &&& 0x0FFFFF03 else v) ∧
        t.mem = s.mem) ∧
    (s.aclkRuns = true → n < 8176 →
      ∃ t, exec (.trigDataAccess r none) s = .next t ∧ t.out = .read (s.trigWord n) :: s.out ∧ t.evr = s.evr) ∧
    (s.aclkRuns = true →
      ∃ t, exec (.pendingPeakRead r) s = .next t ∧ t.out = .read (s.reg pgEVR Evr.PENDING_PEAK) :: s.out ∧
        t.nat pgEVR Evr.PENDING_PEAK = 0))

/-- Performance counters. `a` is the counted state, or the state at the instant of the dump. -/
def Obligations.CountersAct : Prop :=
  (∀ (s : State) (r : Requester) (n : Fin 1536), s.aclkRuns = true →
    let a := s.counted
    ∃ t, exec (.cntLoRead r n) s = .next t ∧ t.out = .read (BitVec.ofNat 32 (a.cnt n.val % 2 ^ 32)) :: s.out ∧
      Tab.get (fun _ => 0) t.pmc.hiLatch (reqCode r)
        = (if counterUsed n.val then a.cnt n.val / 2 ^ 32 + 2 ^ 16 * Tab.get (fun _ => 0) a.pmc.wraps n.val else 0) ∧
      t.pmc.cnt = a.pmc.cnt) ∧
  (∀ (s : State) (r : Requester) (n : Fin 1536) (v : Word), s.reaches pgPMC = true →
    (counterUsed n.val = true → ∃ t, exec (.cntLoWrite r n v) s = .next t ∧
      t.cnt n.val = v.toNat + 2 ^ 32 * Tab.get (fun _ => 0) s.pmc.hiStage (reqCode r)) ∧
    (counterUsed n.val = false → exec (.cntLoWrite r n v) s = .next s.counted) ∧
    ∃ t, exec (.cntHiWrite r n v) s = .next t ∧ Tab.get (fun _ => 0) t.pmc.hiStage (reqCode r) = v.toNat % 2 ^ 16 ∧
      t.pmc.cnt = s.counted.pmc.cnt) ∧
  (∀ (s a : State) (busy : Bool),
    let step := s.fld pgPMC Pmc.DUMP_PERIOD (29, 0) * NS
    s.enabled pgPMC = true → s.flag pgPMC Pmc.PMC_CTRL 0 = true → step ≠ 0 → s.reachTick tickDump step 0 = some a →
    (busy = true → ∃ t, exec (.counterDump busy) s = .next t ∧
      t.reg pgPMC Pmc.DUMP_SKIPS = s.reg pgPMC Pmc.DUMP_SKIPS + 1 ∧ t.mem = s.mem ∧ t.pmc.skipped = s.pmc.skipped + 1) ∧
    (let first := s.fld pgPMC Pmc.DUMP_RANGE (10, 0)
     let count := s.fld pgPMC Pmc.DUMP_RANGE (26, 16)
     let n := ceilDiv (32 + 8 * count) 64 * 64
     let wr := s.nat pgPMC Pmc.DUMP_WR
     busy = false → s.pmc.gapCause = 0 → wr + n < s.dumpSize → dramSpan s.dumpBase s.dumpSize = true →
      a.hwSuppressed (s.dumpBase + wr) n = false →
      ∃ t, exec (.counterDump busy) s = .next t ∧ t.nat pgPMC Pmc.DUMP_WR = wr + n ∧
        t.reg pgPMC Pmc.DUMP_SEQ = s.reg pgPMC Pmc.DUMP_SEQ + 1 ∧ t.pmc.lastDump = a.tln.now ∧ t.pmc.skipped = 0 ∧
        t.bytes (s.dumpBase + wr) n = padTo n (a.dumpHeader 1 (a.tlState == 4) a.tln.now first count
          ++ (List.range count).flatMap (fun i => a.dumpEntry (first + i))))) ∧
  (∀ (s : State) (r : Requester), s.aclkRuns = true →
    ∃ t, exec (.tPeakRead r) s = .next t ∧ t.out = .read (s.reg pgTHM Thm.T_PEAK) :: s.out ∧
      t.reg pgTHM Thm.T_PEAK = s.reg pgTHM Thm.T_DIE)

/-- Power requests and entries. `a` is the counted state. -/
def Obligations.PowerStatesAreEntered : Prop :=
  (∀ (s : State) (r : Requester) (seen : Fin 256) (pins : Fin 16), s.reaches pgPWR = true →
    let a := s.counted
    let x := a.recognised seen.val pins.val
    (∀ c, a.pwrCause 0 = some c → exec (.pwrReqRun r) s = .next (a.refusePwr c)) ∧
    (∀ c, a.pwrCause 1 = some c → exec (.pwrReqDoze r seen pins) s = .next (a.refusePwr c)) ∧
    (∀ c, a.pwrCause 2 = some c → exec (.pwrReqRetain r seen pins) s = .next (a.refusePwr c)) ∧
    (∀ c, a.pwrCause 3 = some c → exec (.pwrReqHeath r seen pins) s = .next (a.refusePwr c)) ∧
    (a.pwrCause 0 = none → ∃ t, exec (.pwrReqRun r) s = .next t ∧ t.pwrState = 0 ∧ t.mem = s.mem) ∧
    (a.pwrCause 1 = none → x.1 = 0 → exec (.pwrReqDoze r seen pins) s = .next a.enterDoze) ∧
    (a.pwrCause 1 = none → x.1 ≠ 0 → exec (.pwrReqDoze r seen pins) s = .next (a.abortEntry x.1 x.2)) ∧
    (a.pwrCause 2 = none → x.1 ≠ 0 → exec (.pwrReqRetain r seen pins) s = .next (a.abortEntry x.1 x.2)) ∧
    (a.pwrCause 3 = none → x.1 ≠ 0 → exec (.pwrReqHeath r seen pins) s = .next (a.abortEntry x.1 x.2)) ∧
    (a.pwrCause 2 = none → x.1 = 0 →
      ∃ t, exec (.pwrReqRetain r seen pins) s = .next t ∧ t.pwr.phase = .entering ∧ t.pwr.target = 2 ∧ t.pwrState = 2) ∧
    (a.pwrCause 3 = none → x.1 = 0 →
      ∃ t, exec (.pwrReqHeath r seen pins) s = .next t ∧ t.pwr.phase = .entering ∧ t.pwr.target = 3 ∧ t.pwrState = 2)) ∧
  (∀ (s : State) (c : Nat), c < 6 → (s.refusePwr c).nat pgPWR Pwr.LAST_REFUSE = c ∧
    (s.refusePwr c).flag pgPWR PAGE_FAULT Pwr.F_REFUSED = true ∧ (s.refusePwr c).pwr = s.pwr) ∧
  (∀ (s : State) (seen pins : Nat), (s.abortEntry seen pins).pwr.phase = .on ∧ (s.abortEntry seen pins).pwrState = 0 ∧
    (s.abortEntry seen pins).reg pgPWR Pwr.ABORTS = s.reg pgPWR Pwr.ABORTS + 1) ∧
  (∀ s : State, s.pwr.phase = .entering →
    (s.pwr.msgDone = false → s.messagesDue ≠ [] →
      ∃ t, exec .msgLimitTimeout s = .next t ∧ t.pwr = { s.pwr with msgDone := true } ∧
        t.flag pgPWR PAGE_FAULT Pwr.F_MSG_TIMEOUT = true) ∧
    (s.pwr.recDone = false → s.recorderBusy = true →
      ∃ t, exec .recDrainTimeout s = .next t ∧ t.pwr = { s.pwr with recDone := true } ∧
        t.flag pgPWR PAGE_FAULT Pwr.F_REC_TIMEOUT = true) ∧
    (s.drained = true → ∃ t, exec .powerEntryProceed s = .next t ∧ t.pwr.phase = .released ∧ t.red.own = false ∧
      t.claimEnabled = false) ∧
    (s.drained = false → exec .powerEntryProceed s = .next s)) ∧
  (∀ (s : State) (n : Nat), s.pwr.phase = .released →
    let c := s.captureTime
    (c.alarmOn = true → c.alarm ≤ c.htick → exec (.timelineCapture n) s = .next (c.abortEntry 4 0)) ∧
    (c.alarmOn = false ∨ c.htick < c.alarm → s.pwr.target = 2 ∨ s.pwr.target = 3 →
      ∃ t, exec (.timelineCapture n) s = .next t ∧ t.pwr.phase = .asleep ∧ t.pwr.coreOn = false ∧
        t.pwr.ioOn = (s.pwr.target == 2) ∧ t.tln.stopped = true ∧ t.timeRuns = false ∧
        t.boot.captured = some ⟨c.tln.now, c.uncert, c.htick⟩ ∧ t.nat pgPWR Pwr.ENTRY_US = min 0xFFFFFFFF n ∧
        t.mem = s.mem))

/-- Wakes and the Heath island. -/
def Obligations.WakesAct : Prop :=
  (∀ (s : State) (pins rising : Fin 16) (held ticks : Nat),
    let b := (s.passTicks ticks).xtSeen
    (held < s.fld pgHTH Hth.HTH_CFG (4, 0) → exec (.wakeInEdge pins rising held ticks) s = .next b) ∧
    (s.fld pgHTH Hth.HTH_CFG (4, 0) ≤ held → s.pwr.phase = .asleep →
      (∃ n, n < 4 ∧ pins.val.testBit n = true ∧ s.flag pgHTH Hth.WAKE_EN n = true ∧
        rising.val.testBit n ≠ s.flag pgHTH Hth.WAKE_EN (8 + n)) →
      ∃ t, exec (.wakeInEdge pins rising held ticks) s = .next t ∧
        t.pwr.phase = (if s.pwr.target = 2 then .coreRising else .ioRising) ∧ t.fld pgHTH Hth.WAKE_RECORD (7, 0) = 1)) ∧
  (∀ s : State, s.alarmOn = true →
    (s.pwr.phase = .asleep → s.timeRuns = false → s.htick = s.hth.tick →
      ∃ t, exec .heathAlarm s = .next t ∧ t.pwr.phase = (if s.pwr.target = 2 then .coreRising else .ioRising) ∧
        t.hth.tick = s.alarm) ∧
    (∀ a, s.pwr.phase = .entering → s.timeRuns = true →
      (s.alarm + 2 ^ 48 - s.htick) % 2 ^ 48 ≠ 0 →
      s.reach (s.hth.edge + ((s.ticksSince + (s.alarm + 2 ^ 48 - s.htick) % 2 ^ 48) * TICK : Nat)).toNat = some a →
        exec .heathAlarm s = .next (a.abortEntry 4 0))) ∧
  (∀ (s : State) (ticks : Nat), ∃ t, exec (.xt32Fail ticks) s = .next t ∧ t.sts pgHTH Hth.S_XT32_OK = 0 ∧
    t.sts pgHTH Hth.S_TK_VALID = 0 ∧ t.flag pgHTH PAGE_FAULT Hth.F_XT32_FAIL = true ∧
    (s.pwr.phase = .asleep → s.flag pgHTH Hth.WAKE_EN 18 = true →
      t.pwr.phase = (if s.pwr.target = 2 then .coreRising else .ioRising))) ∧
  (∀ (s : State) (follows : Bool) (ticks : Nat), ∃ t, exec (.sealCheck follows ticks) s = .next t ∧
    t.hth.sealMisses = (if follows then 0 else s.hth.sealMisses + 1) ∧
    (follows = false → 1 ≤ s.hth.sealMisses → t.flag pgHTH PAGE_FAULT Hth.F_SEAL_OPEN = true ∧
      (s.pwr.phase = .asleep → s.flag pgHTH Hth.WAKE_EN 17 = true →
        t.pwr.phase = (if s.pwr.target = 2 then .coreRising else .ioRising)))) ∧
  (∀ s : State,
    (s.pwr.phase ≠ .shutdown → s.aclkRuns = true →
      exec .heathBrownout s = .next (s.resetHth.packageReset 2 s.dev.roleB s.dev.testMode)) ∧
    (s.pwr.phase ≠ .shutdown → s.aclkRuns = false →
      ∃ t, exec .heathBrownout s = .next t ∧ t.pwr.phase = .coreRising ∧ t.pwr.coldCause = 2) ∧
    (s.pwr.phase = .shutdown → ∃ t, exec .heathBrownout s = .next t ∧ t.boot.cause = s.boot.cause ||| 2 ∧ t.pwr = s.pwr) ∧
    s.resetHth.flag pgHTH PAGE_FAULT Hth.F_ISLAND_RESET = true ∧ s.resetHth.hth.tick = 0 ∧
    (∃ t, exec .firstApplicationOfVheath s = .next t ∧ t.pwr.phase = .coreRising ∧ t.pwr.coldCause = 1 ∧
      t.flag pgHTH PAGE_FAULT Hth.F_ISLAND_RESET = true ∧ t.hth.tick = 0 ∧ t.boot.captured = none ∧ t.timeRuns = false)) ∧
  (∀ s : State, s.pwr.phase = .ioRising →
    ∃ t, exec .ioRampDone s = .next t ∧ t.pwr = { s.pwr with phase := .coreRising, coreOn := true, wakeN := true }) ∧
  (∀ (s : State) (roleB testMode : Bool), s.pwr.phase = .coreRising →
    (s.pwr.target = 2 → s.pwr.fresh = false → ∃ t, exec (.coreRampDone roleB testMode) s = .next t ∧
      t.pwr.phase = .restoring ∧ t.pwrState = 3) ∧
    (s.pwr.target = 2 → s.pwr.fresh = true → ∃ t, exec (.coreRampDone roleB testMode) s = .next t ∧ t.pwr.phase = .on ∧
      t.boot.cause = 4) ∧
    (s.pwr.target = 4 → ∃ t, exec (.coreRampDone roleB testMode) s = .next t ∧ t.pwr.phase = .on ∧ t.thm.thresh = 5 ∧
      t.boot.cause = s.boot.cause) ∧
    (s.pwr.target ≠ 2 → s.pwr.target ≠ 4 → ∃ t, exec (.coreRampDone roleB testMode) s = .next t ∧ t.pwr.phase = .on ∧
      t.dev.roleB = roleB ∧ t.dev.testMode = testMode ∧
      t.boot.restore = (s.pwr.target == 3 && !s.pwr.fresh && s.boot.restore))) ∧
  (∀ (s : State) (c : Captured) (ticks micros : Nat), s.boot.captured = some c → s.aclkRuns = true →
    s.sts pgCLK Clk.S_ROOT_LOCK = 1 → s.tln.stopped = true →
    let h := s.passTicks ticks
    ∃ t, exec (.timelineRestart ticks micros) s = .next t ∧ t.tln.stopped = false ∧ t.boot.captured = none ∧
      t.tln.now = (h.coasted c ((h.hth.tick + 2 ^ 48 - c.tick) % 2 ^ 48)).1 ∧
      t.tlState = (if h.tlnOn = true ∧ h.tlSrc ≠ 0 ∧ h.srcValid h.tlSrc = true then 1
        else if s.sts pgHTH Hth.S_TK_VALID = 1 then 4 else 0) ∧
      (s.pwr.phase = .restoring → t.pwr.phase = .on ∧ t.pwrState = 0 ∧ t.nat pgPWR Pwr.EXIT_US = min 0xFFFFFFFF micros)) ∧
  (∀ (s : State) (link : Fin 3), s.aclkRuns = true → ∃ t, exec (.linkInL0 link) s = .next t ∧
    t.icu.linkL0 = (link.val == 0) ∧ t.icu.linkL1 = (link.val == 1) ∧
    t.icu.exitL1 = (link.val == 1 && (List.range 4).any (Tab.get (fun _ => false) s.icu.held)) ∧
    t.pwr.wakeN = (s.pwr.wakeN && link.val != 0) ∧ t.mem = s.mem)

/-- Temperature. `a` is the state at the instant of the measurement, `b` that with its replicas judged. -/
def Obligations.TemperatureActs : Prop :=
  (∀ (s a : State) (th : Thermals), s.aclkRuns = true → s.timeRuns = true → s.startStep ≠ 5 → s.lowHeld = false →
    s.reachTick tickThermal MS 0 = some a → th.broken = [] → a.tAnalog < 2528 →
    let b := (List.range 15).foldl (fun x i => x.judge th i) a
    ((∀ k, k < 5 → -32768 ≤ b.voteOf th k ∧ b.voteOf th k < 2528) →
      ∃ t, exec (.thermalMeasure th) s = .next t ∧ t.votes = (List.range 5).map (b.voteOf th) ∧
        t.tDie = max (max (b.voteOf th 0) (b.voteOf th 1)) (max (max (b.voteOf th 2) (b.voteOf th 3)) (b.voteOf th 4)) ∧
        t.thm.apart = b.thm.apart ∧ t.aclkRuns = true) ∧
    ((∀ k, k < 5 → -32768 ≤ b.voteOf th k ∧ b.voteOf th k < 32768) → (∃ k, k < 5 ∧ 2528 ≤ b.voteOf th k) →
      ∃ t, exec (.thermalMeasure th) s = .next t ∧ t.pwr.phase = .shutdown ∧ t.pwr.coreOn = false ∧ t.dev.faultN = true)) ∧
  (∀ (s : State) (v : Int) (broken : Bool), s.pwr.ioOn = true →
    (s.aclkRuns = true → s.votes.all (fun x => decide (x < 2528)) = true → broken = false → -32768 ≤ v → v < 2528 →
      ∃ t, exec (.analogTempMeasure v broken) s = .next t ∧ t.tAnalog = v ∧ t.pwr = s.pwr ∧ t.mem = s.mem) ∧
    (s.aclkRuns = true → broken = true ∨ (2528 ≤ v ∧ v < 32768) →
      ∃ t, exec (.analogTempMeasure v broken) s = .next t ∧ t.pwr.phase = .shutdown ∧ t.pwr.coreOn = false ∧
        t.dev.faultN = true) ∧
    (s.pwr.phase = .shutdown → ∃ t, exec (.analogTempMeasure v broken) s = .next t ∧
      t.thm.cool = (if (if broken then HOT else v) ≤ 2080 then s.thm.cool + 1 else 0) ∧ t.live = s.live)) ∧
  (∀ s : State, s.pwr.phase = .shutdown →
    (101 ≤ s.thm.cool → ∃ t, exec .thermalRestart s = .next t ∧ t.pwr.phase = .coreRising ∧ t.pwr.target = 4 ∧ t.pwr.coreOn = true) ∧
    (s.thm.cool < 101 → exec .thermalRestart s = .next s)) ∧
  (∀ (s a : State) (n : Fin 4), s.aclkRuns = true →
    let l := Tab.get (fun _ => 0) s.thm.level n.val
    (s.tooHot n.val = true → s.reachTick (tickRise n.val) (100 * MS) 0 = some a → l < s.fld pgTHM Thm.THM_CTRL (1, 0) →
      ∃ t, exec (.throttleUpdate n) s = .next t ∧ Tab.get (fun _ => 0) t.thm.level n.val = l + 1) ∧
    (s.tooHot n.val = true → s.reachTick (tickRise n.val) (100 * MS) 0 = some a → s.fld pgTHM Thm.THM_CTRL (1, 0) ≤ l →
      exec (.throttleUpdate n) s = .next a) ∧
    (s.tooHot n.val = false → s.cooled n.val = true → 0 < l → s.reachTick (tickFall n.val) (1000 * MS) 0 = some a →
      ∃ t, exec (.throttleUpdate n) s = .next t ∧ Tab.get (fun _ => 0) t.thm.level n.val = l - 1) ∧
    (s.tooHot n.val = false → s.cooled n.val = false ∨ l = 0 → exec (.throttleUpdate n) s = .next s)) ∧
  (∀ (s : State) (r0 r1 : Fin 8) (hot : Bool), s.aclkRuns = true → s.boot.trained = true →
    ∃ t, exec (.dramRateRead r0 r1 hot) s = .next t ∧ t.nat pgTHM Thm.DRAM_RATE = r0.val + 256 * r1.val ∧
      t.dramHot = hot ∧ t.mem = s.mem) ∧
  (∀ s : State, s.aclkRuns = true →
    (s.linkUp = true → s.red.unacked.length < 1023 ∨ s.stileHeld = false →
      ∃ t, exec .thermalSend s = .next t ∧ t.red.unacked = s.red.unacked ++ [⟨s.red.txNext, 0x30, 2, s.nat pgRED Red.SYNC_GEN,
        beBytes 2 (s.fld pgTHM Thm.T_DIE (15, 0)) ++ beBytes 1 s.thm.thresh ++ [0], 0⟩]) ∧
    (s.linkUp = false → exec .thermalSend s = .next s))

/-- Ageing and calibration. `a` is the counted state, or the state at an event's instant. -/
def Obligations.CalibrationActs : Prop :=
  (∀ (s : State) (slack plus : List Nat), s.aclkRuns = true →
    ∃ t, exec (.marginMeasure slack plus) s = .next t ∧ t.nat pgCAL Cal.MARGIN_CORE = min 255 (slack.getD 4 255) ∧
      t.nat pgCAL Cal.MARGIN = packFields 8 (fun k => min 255 (slack.getD k 255)) 4 ∧
      ∀ i, i < 32 →
        (plus.getD i 255 < s.marginLow → t.flag pgCAL Cal.PLU_WAIT i = true) ∧
        (s.marginLow + 10 < plus.getD i 255 → t.flag pgCAL Cal.PLU_WAIT i = false) ∧
        (s.marginLow ≤ plus.getD i 255 → plus.getD i 255 ≤ s.marginLow + 10 →
          t.flag pgCAL Cal.PLU_WAIT i = s.flag pgCAL Cal.PLU_WAIT i)) ∧
  (∀ (s a : State) (t0 mv ma : Nat), s.cal.avsAsked = some t0 → s.aclkRuns = true →
    let near := ((mv : Int) - s.fld pgCAL Cal.VCORE_SET (9, 0)).natAbs
    (∃ t, exec (.avsSettle mv ma true) s = .next t ∧ t.cal.avsStopped = true ∧ t.cal.avsAsked = none ∧
      t.sts pgCAL Cal.S_AVS_BUSY = 0 ∧ t.flag pgCAL PAGE_FAULT Cal.F_AVS_ERROR = true) ∧
    (s.timeRuns = true → near ≤ 10 → s.reach (t0 + 200000 * NS) = some a →
      ∃ t, exec (.avsSettle mv ma false) s = .next t ∧ t.cal.avsAsked = none ∧ t.sts pgCAL Cal.S_AVS_BUSY = 0 ∧
        t.nat pgCAL Cal.VCORE_READ = mv % 1024 + 2 ^ 16 * (ma % 2 ^ 16)) ∧
    (s.timeRuns = true → 10 < near → s.reach (t0 + 1000000 * NS) = some a →
      ∃ t, exec (.avsSettle mv ma false) s = .next t ∧ t.cal.avsStopped = true ∧
        t.flag pgCAL PAGE_FAULT Cal.F_AVS_ERROR = true)) ∧
  (∀ s : State, s.aclkRuns = true →
    exec (.pmbAlert false) s = .next (s.trigger 0x823 pgCAL) ∧
    exec (.pmbAlert true) s = .next (s.avsError.trigger 0x823 pgCAL) ∧ s.avsError.cal.avsStopped = true) ∧
  (∀ (s : State) (i : Fin 128) (errs : List Nat), s.aclkRuns = true → s.flag pgCAL Cal.CAL_CTRL 2 = true → errs.length = 4 →
    Tab.get (fun _ => false) s.cal.forced i.val = false →
    let e (k : Nat) : Nat := errs.getD k 0
    ∀ b, b < 4 → (∀ k, k < 4 → e b ≤ e k ∧ (e k = e b → b ≤ k)) →
    (30 < e (s.chainOf i.val) → e b ≤ 15 → ∃ t, exec (.chainMeasure i errs) s = .next t ∧ t.chainOf i.val = b ∧
      t.reg pgCAL Cal.RESELECTS = s.reg pgCAL Cal.RESELECTS + 1) ∧
    (30 < e b → ∃ t, exec (.chainMeasure i errs) s = .next t ∧ t.chainOf i.val = b ∧
      t.flag pgCAL PAGE_FAULT Cal.F_ELEMENT_EXHAUSTED = true) ∧
    (e b ≤ 30 → e (s.chainOf i.val) ≤ 30 ∨ 15 < e b → exec (.chainMeasure i errs) s = .next s)) ∧
  (∀ (s : State) (r : Requester), s.reaches pgCAL = true →
    let a := s.counted
    let src := a.fld pgCAL Cal.CAL_CTRL (1, 0)
    (s.calRunning = false → a.refPresent src = true → ∃ t, exec (.runTime r) s = .next t ∧
      t.cal.run = some ⟨src, s.fld pgCAL Cal.WINDOW_S (9, 0), s.tln.now⟩ ∧ t.sts pgCAL Cal.S_CAL_BUSY = 1) ∧
    (s.calRunning = false → a.refPresent src = false → exec (.runTime r) s = .next (a.fault pgCAL Cal.F_NO_REF)) ∧
    (s.calRunning = false → ∃ t, exec (.runAnalog (some r)) s = .next t ∧ t.cal.analog = true ∧ t.sts pgCAL Cal.S_CAL_BUSY = 2) ∧
    (s.calRunning = true → exec (.runTime r) s = .next a ∧ exec (.runAnalog (some r)) s = .next a) ∧
    ∃ t, exec (.calAbort r) s = .next t ∧ t.cal.run = none ∧ t.cal.analog = false ∧ t.sts pgCAL Cal.S_CAL_BUSY = 0 ∧
      t.reg pgCAL Cal.XTAL_ERR = s.reg pgCAL Cal.XTAL_ERR ∧ t.mem = s.mem) ∧
  (∀ s a : State, s.flag pgCAL Cal.CAL_CTRL 3 = true →
    s.reachTick tickAnalog (86400 * SEC * NS) 0 = some a → s.calRunning = false →
      ∃ t, exec (.runAnalog none) s = .next t ∧ t.cal.analog = true ∧ t.sts pgCAL Cal.S_CAL_BUSY = 2) ∧
  (∀ (s : State) (x : TimeRun) (nt d : Nat), s.cal.run = some x → s.aclkRuns = true →
    let xtal := (crystalErrors x.secs nt d).1
    (100000 < xtal.natAbs → ∃ t, exec (.calWindowEnd nt d) s = .next t ∧ t.cal.run = none ∧ t.sts pgCAL Cal.S_CAL_BUSY = 0 ∧
      t.flag pgCAL PAGE_FAULT Cal.F_REF_RANGE = true ∧ t.reg pgCAL Cal.XTAL_ERR = s.reg pgCAL Cal.XTAL_ERR) ∧
    (xtal.natAbs ≤ 100000 → ∃ t, exec (.calWindowEnd nt d) s = .next t ∧ t.cal.run = none ∧ t.sts pgCAL Cal.S_CAL_BUSY = 0 ∧
      signed 32 (t.nat pgCAL Cal.XTAL_ERR) = xtal ∧ t.reg pgCAL Cal.CAL_COUNT = s.reg pgCAL Cal.CAL_COUNT + 1)) ∧
  (∀ (s : State) (codes : List (List (Int × Nat))), s.cal.analog = true → s.aclkRuns = true →
    ∃ t, exec (.analogRunDone codes) s = .next t ∧ t.cal.analog = false ∧ t.sts pgCAL Cal.S_CAL_BUSY = 0 ∧
      t.reg pgCAL Cal.CAL_COUNT = s.reg pgCAL Cal.CAL_COUNT + 1 ∧
      ∀ c, c < 36 →
        let l := codes.getD c []
        let p := if Tab.get (fun _ => false) s.cal.forced (128 + c) then s.pairOf c else leastAt (l.map pairScore)
        3950 ≤ (l.getD p (0, vrefInit)).2 → (l.getD p (0, vrefInit)).2 ≤ 4050 →
          t.pairOf c = p ∧ Tab.get (fun _ => vrefInit) t.cal.vref c = (l.getD p (0, vrefInit)).2) ∧
  (∀ (s : State) (r : Requester) (low : Bool), s.reaches pgCAL = true →
    let w := s.reg pgCAL Cal.OVR_SEL
    let kind := bits w (2, 0)
    (low = false → ∃ t, exec (.ovrWrite r low) s = .next t ∧ t.flag pgCAL PAGE_FAULT Cal.F_GUARD_REFUSED = true ∧ t.cal = s.cal ∧
      t.mem = s.mem) ∧
    (low = true → overrideOk kind (bits w (14, 8)) (bits w (18, 16)) = true →
      ∃ t, exec (.ovrWrite r low) s = .next t ∧ t.reg pgCAL Cal.CAL_COUNT = s.reg pgCAL Cal.CAL_COUNT + 1 ∧
        (kind = 3 → t.reg pgCAL Cal.XTAL_ERR = s.reg pgCAL Cal.OVR_VALUE) ∧
        (kind < 3 → Tab.get (fun _ => false) t.cal.forced (elementOf kind (bits w (14, 8))) = !bit w 19) ∧
        (kind = 0 → bit w 19 = false → t.chainOf (bits w (14, 8)) = bits w (18, 16))) ∧
    (low = true → overrideOk kind (bits w (14, 8)) (bits w (18, 16)) = false →
      ∃ t, exec (.ovrWrite r low) s = .next t ∧ t.flag pgCAL PAGE_FAULT F_BAD_VALUE = true ∧ t.cal = s.cal ∧ t.mem = s.mem))

/-- Firmware update. `a` is the counted state, or the state at ACT_TIME. -/
def Obligations.FirmwareActs : Prop :=
  (∀ (s : State) (r : Requester), s.reaches pgFWU = true →
    let a := s.counted
    let mode := s.fld pgFWU Fwu.FWU_CTRL (5, 4)
    (s.sealOpen = true → exec (.stage r) s = .next (a.refuseAct 7) ∧ exec (.activate r) s = .next (a.refuseAct 7)) ∧
    (s.sealOpen = false →
      (s.stageState = 1 ∨ s.actState ≠ 0 ∨ s.fwu.golden = true → exec (.stage r) s = .next (a.refuseAct 10)) ∧
      (s.stageState ≠ 1 → s.actState = 0 → s.fwu.golden = false →
        ∃ t, exec (.stage r) s = .next t ∧ t.stageState = 1 ∧ t.fwu.peerStage = false ∧
          t.fwu.stageAt = s.addr pgFWU Fwu.STAGE_ADDR_LO Fwu.STAGE_ADDR_HI ∧
          t.fwu.stageLen = s.fld pgFWU Fwu.STAGE_LEN (22, 0) ∧ ∀ i, i < 4 → t.byte (slotBase 2 + i) = 0) ∧
      (s.actState ≠ 0 ∨ s.fwu.golden = true → exec (.activate r) s = .next (a.refuseAct 10)) ∧
      (s.actState = 0 → s.fwu.golden = false →
        (s.stageState ≠ 2 ∨ (s.sysState = 3 ∧ mode ≠ 2) → exec (.activate r) s = .next (a.refuseAct 0)) ∧
        (s.stageState = 2 → s.sysState ≠ 3 →
          (mode = 0 → s.actTime.ns < SEC → ∃ t, exec (.activate r) s = .next t ∧ t.actState = 1) ∧
          (mode = 1 → ∃ t, exec (.activate r) s = .next t ∧ t.actState = 3)) ∧
        (s.stageState = 2 → mode = 2 → a.mustDefer = true → ∃ t, exec (.activate r) s = .next t ∧ t.actState = 2) ∧
        (s.stageState = 2 → mode = 2 → a.mustDefer = false →
          ∃ t, exec (.activate r) s = .next t ∧ t.boot.cause = 0x40 ∧ t.evr.writing = none ∧ t.stileHeld = false))) ∧
    (s.stageState = 1 → ∃ t, exec (.fwuCancel r) s = .next t ∧ t.stageState = 3 ∧ t.fwu.peerStage = false) ∧
    (s.stageState ≠ 1 → s.actState = 1 ∨ s.actState = 2 → ∃ t, exec (.fwuCancel r) s = .next t ∧ t.actState = 0) ∧
    (s.stageState ≠ 1 → s.actState ≠ 1 → s.actState ≠ 2 → exec (.fwuCancel r) s = .next a) ∧
    (a.stageState = 2 → a.linkUp = true → a.fwu.sending = none →
      exec (.sendPeer r) s = .next (((a.tsxSend 0x32 2 (imageMsg 1 0 [])).modFwu (fun f => { f with sending := some 0 })).pumpImage 64)) ∧
    (a.stageState ≠ 2 ∨ a.linkUp = false → exec (.sendPeer r) s = .next a) ∧
    ∃ t, exec (.partnerAccept r) s = .next t ∧ t.mem = s.mem ∧
      ∀ j, j < 4 → t.knownPeer j = s.reg pgRED (Red.PEER_ID0 + 4 * j)) ∧
  (∀ s : State, s.aclkRuns = true → s.stageState = 1 → s.fwu.peerStage = false →
    let f := s.fwu
    let sizeOk := dramSpan f.stageAt f.stageLen && f.stageLen == imageLength (s.imageHeader f.stageAt)
    let u := s.shelfBytes 0 (s.bytes f.stageAt f.stageLen)
    (sizeOk = false → ∃ t, exec .stageDone s = .next t ∧ t.stageState = 3 ∧ t.fld pgFWU Fwu.FWU_INFO (3, 0) = 8 ∧
      t.flag pgFWU PAGE_FAULT Fwu.F_STAGE_BAD = true) ∧
    (sizeOk = true → ∃ t, exec .stageDone s = .next t ∧
      (u.imageFault (slotBase 2) = none → t.stageState = 2 ∧ t.mem = u.mem ∧
        t.nat pgFWU Fwu.SHELF_VERSION = imageVersion (u.imageHeader (slotBase 2))) ∧
      ∀ x ∈ u.imageFault (slotBase 2), t.stageState = 3 ∧ t.fld pgFWU Fwu.FWU_INFO (3, 0) = x.1 ∧
        t.flag pgFWU PAGE_FAULT Fwu.F_STAGE_BAD = true ∧ ∀ i, i < 4 → t.byte (slotBase 2 + i) = 0)) ∧
  (∀ s a : State, s.actState = 1 → s.aclkRuns = true → s.reach s.journalTime = some a →
    (a.mustDefer = true → ∃ t, exec .actTimeReached s = .next t ∧ t.actState = 2) ∧
    (a.mustDefer = false → ∃ t, exec .actTimeReached s = .next t ∧ t.boot.cause = 0x40 ∧ t.evr.writing = none)) ∧
  (∀ s : State, s.actState = 2 → s.aclkRuns = true →
    (s.mustDefer = false → ∃ t, exec .actDeferredRelease s = .next t ∧ t.boot.cause = 0x40 ∧ t.evr.writing = none) ∧
    (s.mustDefer = true → exec .actDeferredRelease s = .next s)) ∧
  (∀ (s : State) (r : Requester) (low : Bool), s.reaches pgFWU = true →
    let a := (s.presence low).counted
    let slot := s.fld pgFWU Fwu.FUSE_SEL (1, 0)
    let kind := s.fld pgFWU Fwu.FUSE_SEL (5, 4)
    (low = false → exec (.goldenWrite r low) s = .next a.guardRefused ∧ exec (.fuseProg r low) s = .next a.guardRefused.clearKeyData) ∧
    (low = true → s.sealOpen = true → exec (.goldenWrite r low) s = .next (a.refuseAct 7) ∧
      exec (.fuseProg r low) s = .next (a.refuseAct 7).clearKeyData) ∧
    (low = true → s.sealOpen = false → s.fwu.golden = false → s.actState = 0 → s.stageState = 2 →
      ∃ t, exec (.goldenWrite r low) s = .next t ∧
        if s.imageFault (slotBase 1) = none then t.fwu.golden = true ∧ ∀ i, i < 4 → t.byte (slotBase 0 + i) = 0
        else t = a.refuseAct 10) ∧
    (low = true → s.sealOpen = false → s.fwu.golden = true ∨ s.actState ≠ 0 ∨ s.stageState = 1 →
      exec (.goldenWrite r low) s = .next (a.refuseAct 10)) ∧
    (low = true → s.sealOpen = false → s.fwu.fusing = none → s.fuseTaken slot kind = false →
      ∃ t, exec (.fuseProg r low) s = .next t ∧ t.fwu.fusing = some (slot, kind) ∧ t.fwu.fuseData = s.fuseBytes kind ∧
        t.sts pgFWU Fwu.S_FUSE_BUSY = 1) ∧
    (low = true → s.sealOpen = false → s.fwu.fusing ≠ none ∨ s.fuseTaken slot kind = true →
      exec (.fuseProg r low) s = .next (a.badValue pgFWU).clearKeyData)) ∧
  (∀ s : State, s.aclkRuns = true → s.fwu.golden = true →
    ∃ t, exec .goldenWriteDone s = .next t ∧ t.fwu.golden = false ∧
      ∀ i, i < 0x4F80 → t.byte (slotBase 0 + i) = s.byte (slotBase 2 + i)) ∧
  (∀ (s : State) (slot kind : Nat), s.aclkRuns = true → s.fwu.fusing = some (slot, kind) → kind < 3 →
    ∃ t, exec .fuseDone s = .next t ∧ t.fwu.fusing = none ∧ t.sts pgFWU Fwu.S_FUSE_BUSY = 0 ∧
      (kind = 0 → t.keyDone slot = true ∧ t.keyOf slot = s.fwu.fuseData) ∧
      (kind = 1 → t.pubDone slot = true ∧ t.pubOf slot = s.fwu.fuseData) ∧
      (kind = 2 → t.keyRevoked slot = true) ∧
      ∀ j, j < 8 → t.reg pgFWU (Fwu.KEY_DATA j) = 0)

/-- The start sequence and the system states. `u` is the state in which a write acts. -/
def Obligations.StartsAndSystemStates : Prop :=
  (∀ s : State, s.aclkRuns = true → s.startStep ≤ 2 → s.sts pgCLK Clk.S_ROOT_LOCK ≠ 1 → s.flag pgICU PAGE_CTRL 2 = false →
    s.flag pgEVR PAGE_CTRL 2 = false →
      ∃ t, exec .startSequence s = .next t ∧ t.startStep = 5 ∧ t.reg pgSYS Sys.RESET_CAUSE = BitVec.ofNat 32 s.boot.cause ∧
        t.enabled pgICU = true ∧ t.enabled pgEVR = true ∧ t.reg pgSYS Sys.WDT_CTRL = 0x800007D0 ∧ t.boot.wdtFrom = s.tln.now ∧
        t.boot.cause = 0) ∧
  (∀ (s : State) (bad : List Nat) (micros : Nat), s.aclkRuns = true → s.startStep = 6 →
    (s.bootSlot = 2 → ∃ t, exec (.dramTrainingDone bad micros) s = .next t ∧ t.startStep = 7 ∧ t.boot.trained = true ∧
      t.dev.dramValid = true ∧ t.mem = s.mem) ∧
    (s.bootSlot ≠ 2 → s.boot.restore = false → s.configPart = [] → s.journalPhase ≠ 1 →
      ∃ t, exec (.dramTrainingDone bad micros) s = .next t ∧ t.startStep = 9 ∧ t.boot.trained = true ∧
        t.boot.step8 = s.tln.now ∧ t.nat pgFWU Fwu.RUN_VERSION = imageVersion s.bootHeader)) ∧
  (∀ (s : State) (ms : Nat), s.aclkRuns = true → s.startStep = 9 →
    (s.sysState = 0 → s.fld pgSYS Sys.SYS_ID (7, 0) = 0x42 → s.outputsDue = true →
      ∃ t, exec (.outputEnable ms) s = .next t ∧ t.claimEnabled = true ∧ t.sts pgSYS Sys.S_OUTPUTS_ON = 1 ∧ t.sysState = 1 ∧
        t.startStep = 10 ∧ t.nat pgSYS Sys.START_MS = min 0xFFFFFFFF ms) ∧
    (s.outputsDue = false → exec (.outputEnable ms) s = .next s)) ∧
  (∀ s a : State, s.aclkRuns = true → s.startStep = 9 → s.timeRuns = true →
    let w := s.fld pgSYS Sys.SYS_CFG (31, 16)
    s.reach (s.boot.step8 + (if w = 0 then 1000 else w) * 1000000 * NS) = some a →
      ∃ t, exec .outWaitExpire s = .next t ∧ t.boot.waited = true ∧ t.outputsDue = true) ∧
  (∀ (s : State) (r : Requester) (test : Bool),
    let s0 := { s with dev := { s.dev with testMode := test } }
    let u := s0.told r pgSYS Sys.SYS_STATE 1
    s0.accepts r pgSYS Sys.SYS_STATE = true →
    (u.sysState = 2 → test = false → ∃ t, exec (.sysStateRun r test) s = .next t ∧ t.sysState = 1) ∧
    (u.sysState = 1 → exec (.sysStateRun r test) s = .next u) ∧
    (u.sysState = 0 ∨ u.sysState = 3 ∨ (u.sysState = 2 ∧ test = true) →
      exec (.sysStateRun r test) s = .next (u.badValue pgSYS))) ∧
  (∀ (s : State) (r : Requester), s.accepts r pgSYS Sys.SYS_STATE = true →
    let u := s.told r pgSYS Sys.SYS_STATE 2
    let v := s.told r pgSYS Sys.SYS_STATE 3
    (u.sysState = 1 → u.allStopped = true →
      ∃ t, exec (.sysStateTest r) s = .next t ∧ t.sysState = 2 ∧ t.claimEnabled = false) ∧
    (u.sysState = 2 → exec (.sysStateTest r) s = .next u) ∧
    (u.sysState = 0 ∨ u.sysState = 3 ∨ (u.sysState = 1 ∧ u.allStopped = false) →
      exec (.sysStateTest r) s = .next (u.badValue pgSYS)) ∧
    (v.sysState = 1 ∨ v.sysState = 2 →
      ∃ t, exec (.sysStateRecovery r) s = .next t ∧ t.sysState = 3 ∧ t.claimEnabled = false) ∧
    (v.sysState = 3 → exec (.sysStateRecovery r) s = .next v) ∧
    (v.sysState = 0 → exec (.sysStateRecovery r) s = .next (v.badValue pgSYS))) ∧
  (∀ (s : State) (r : Requester), s.accepts r pgSYS Sys.WDT_KICK = true →
    let u := s.told r pgSYS Sys.WDT_KICK 1
    (isHost r = false → ∃ t, exec (.wdtKick r) s = .next t ∧ t.boot.wdtFrom = s.tln.now ∧ t.live = u.live ∧ t.mem = s.mem) ∧
    (isHost r = true → exec (.wdtKick r) s = .next (u.fault pgSYS Sys.F_OWNER_WRITE))) ∧
  (∀ s a : State, s.wdtOn = true → s.aclkRuns = true → s.timeRuns = true →
    s.reach (s.boot.wdtFrom + s.fld pgSYS Sys.WDT_CTRL (15, 0) * 1000000 * NS) = some a →
      exec .watchdogExpire s = .next (a.dieReset 0x10) ∧ (a.dieReset 0x10).boot.cause = 0x10)

/-- The SPI target and JTAG. -/
def Obligations.SideBusesAct : Prop :=
  (∀ (s : State) (a : Nat) (d e : List Byte),
    (d.length = 4 → exec (.spiWrite a d) s = exec (.registerWrite .spi a 4 (BitVec.ofNat 64 (beAt d 0 4))) s) ∧
    (d.length = 4 → a < 0x400000 → a % 4 = 0 → s.aclkRuns = true →
      exec (.spiWrite a d) s = .next (s.counted.pageWrite .spi s.tln.now (a / 0x1000) (a % 0x1000) (BitVec.ofNat 32 (beAt d 0 4)))) ∧
    (a < 0x4000000 → a % 4 = 0 → ∃ t, exec (.spiWrite a d) s = .next t ∧ t.pending = s.pending) ∧
    (d.length = 4 → ∀ t, exec (.spiWrite a d) s = .next t → exec (.spiWrite a (d ++ e)) s = exec (.spiWrite (a + 4) e) t) ∧
    (d.length < 4 → exec (.spiWrite a d) s = .next s)) ∧
  (∀ (s : State) (a n : Nat), exec (.spiRead a 0) s = .next s ∧
    ∀ t, exec (.spiRead a 1) s = .next t → exec (.spiRead a (n + 1)) s = exec (.spiRead (a + 4) n) t) ∧
  (∀ (s : State) (a : Nat), s.aclkRuns = true → a < 0x4000000 →
    (isMemory a = true → ∃ t, exec (.spiRead a 1) s = .next t ∧ t.out = .read (BitVec.ofNat 32 (leVal (s.bytes a 4))) :: s.out ∧
      t.mem = s.mem) ∧
    (isMemory a = false → isMapped a = true → ∃ t, exec (.spiRead a 1) s = .next t ∧
      t.out = .read (s.counted.readFor .spi (a / 0x1000) (a % 0x1000)) :: s.out ∧ t.mem = s.mem) ∧
    (isMapped a = false → ∃ t, exec (.spiRead a 1) s = .next t ∧ t.out = .read 0 :: s.out ∧ t.mem = s.mem ∧
      t.flag pgSYS PAGE_FAULT F_UNMAPPED = true)) ∧
  (∀ (s : State) (a : Nat), s.aclkRuns = true → 0x4000000 ≤ a →
    exec (.spiRead a 1) s = .next { s.counted with out := .read 0 :: s.out }) ∧
  (∀ s : State,
    exec .jtagBypass s = .next { s with jtag := .bypass } ∧
    exec .jtagIdcode s = .next { s with jtag := .idcode, out := .read 0x19484A6F :: s.out } ∧
    exec .jtagSamplePreload s = .next { s with jtag := .samplePreload } ∧
    exec .jtagExtest s = .next { s with jtag := .extest } ∧
    exec .jtagClamp s = .next { s with jtag := .clamp } ∧
    exec .jtagHighz s = .next { s with jtag := .highz } ∧
    s.jtagHoldsPins = (s.sysState == 2 && (s.jtag == .extest || s.jtag == .clamp || s.jtag == .highz)))

/-- Memory: what is stored reads back, and nothing else changes. -/
def Obligations.MemoryReadsBack : Prop :=
  (∀ (s : State) (a : Nat) (l : List Byte),
    (∀ i, i < l.length → isMemory (a + i) = true → isImage (a + i) = false → (s.setBytes a l).byte (a + i) = l.getD i 0) ∧
    (∀ x, x < a ∨ a + l.length ≤ x ∨ isMemory x = false ∨ isImage x = true → (s.setBytes a l).byte x = s.byte x) ∧
    ((∀ i, i < l.length → isMemory (a + i) = true ∧ isImage (a + i) = false) → (s.setBytes a l).bytes a l.length = l) ∧
    (Memory.wf s.mem = true → Memory.wf (s.setBytes a l).mem = true) ∧
    (∀ page off, (s.setBytes a l).reg page off = s.reg page off)) ∧
  (∀ (s : State) (a n x : Nat),
    (s.zeroBytes a n).byte x = (if a ≤ x ∧ x < a + n ∧ (isImage x && s.boot.stored) = false then memDefault x else s.byte x) ∧
    (Memory.wf s.mem = true → Memory.wf (s.zeroBytes a n).mem = true)) ∧
  (∀ (s : State) (a : Nat) (l : List Byte),
    (s.hwSuppressed a l.length = true → s.hwBytes a l = s) ∧
    (s.hwSuppressed a l.length = false → (s.hwBytes a l).mem = (s.setBytes a l).mem))

/-- The commit point. -/
def Obligations.CommitsCopyTheShadows : Prop :=
  (∀ (s : State) (g : Nat) (i : PageInfo), pageInfo g = some i → i.sub = 0 →
    let t := s.applyShadows g
    (∀ p off, 0x20 ≤ off → off < 0x1000 → inGroup g (regKey p off) = true →
      t.reg p off = s.shd p off ∧ t.shd p off = t.reg p off) ∧
    (∀ p off, off < 0x1000 → inGroup g (regKey p off) = false → t.reg p off = s.reg p off ∧ t.shd p off = s.shd p off) ∧
    (∀ p, inGroup g (regKey p 0) = true → s.shd p PAGE_EPOCH = s.reg p PAGE_EPOCH → t.reg p PAGE_EPOCH = s.reg p PAGE_EPOCH + 1) ∧
    (∀ p, inGroup g (regKey p 0) = true → t.flag p PAGE_STATUS 4 = true) ∧
    t.armOf g = Arm.idle ∧ t.mem = s.mem ∧ ∀ h, h ≠ g → t.armOf h = s.armOf h) ∧
  (∀ (s : State) (p off q o : Nat) (v : Word), off < 0x1000 → o < 0x1000 →
    (s.setReg p off v).reg q o = (if q = p ∧ o = off then v else s.reg q o) ∧
    (s.setShd p off v).shd q o = (if q = p ∧ o = off then v else s.shd q o) ∧
    (s.setShd p off v).reg q o = s.reg q o ∧
    (s.setBoth p off v).reg q o = (if q = p ∧ o = off then v else s.reg q o) ∧
    (s.setBoth p off v).shd p off = v)

/-- R51. The write reaches its page, and the page is no replica of the partner's. -/
def Obligations.AliasesWithoutARegisterReadZero : Prop :=
  ∀ (s : State) (r : Requester) (page off : Nat) (i : PageInfo) (v : Word), pageInfo page = some i → 0x800 ≤ off → off < 0x1000 →
    isSc i (off % 0x400) = false →
    s.readFor r page off = 0 ∧
    (s.reaches page = true → s.counted.replicaWrite r page off = false →
      exec (.registerWrite r (regKey page off) 4 (v.setWidth 64)) s = .next (s.counted.fault page F_ACCESS) ∧
      (off < 0xC00 → exec (.setAliasWrite r page (off - 0x800) v) s = .next (s.counted.fault page F_ACCESS)) ∧
      (0xC00 ≤ off → ∀ hwSet captured low, exec (.clrAliasWrite r page (off - 0xC00) v hwSet captured low) s
        = .next ((s.presence low).counted.fault page F_ACCESS)))

/-- R65. -/
def Obligations.ArmedGroupsKeepTheirShadows : Prop :=
  (∀ (s : State) (r : Requester) (page off : Nat) (i : PageInfo) (w : RegRow) (v : Word),
    0x20 ≤ off → off < 0x800 → pageInfo page = some i → rowAt i off = some w → isShadowed i off = true →
    s.reaches page = true → s.counted.replicaWrite r page off = false →
    (s.counted.armOf (groupOf page)).on = true →
      exec (.registerWrite r (regKey page off) 4 (v.setWidth 64)) s
        = .next ((if w.cls = .stopOnly ∧ s.counted.active page = true then s.counted.fault page F_MODE_BUSY else s.counted).fault
            page F_ARMED_WRITE)) ∧
  (∀ (s : State) (r : Requester) (page : Nat) (i : PageInfo), pageInfo page = some i → s.accepts r page PAGE_COMMIT = true →
    let u := s.told r page PAGE_COMMIT 1
    (u.armOf (groupOf page)).on = true → exec (.arm r page) s = .next u)

/-- R489. `x` is the queue before; `drops` counts the packets begun. -/
def Obligations.DisabledQueuesTakeNothing : Prop :=
  (∀ (s : State) (j : Fin 16) (q : Fin 4) (d : List Byte) (last : Bool) (i : QueueSpec),
    let x := s.queue j.val q.val
    let drops (t : State) : Nat := t.fld (pgQUE j.val) (Que.Q_DROPS q.val) (15, 0)
    queueSpec j.val q.val = some i → x.sound = true → s.flag (pgQUE j.val) (Que.Q_CTRL q.val) 0 = false →
    x.inPacket = false ∨ x.lost = true →
    (i.writer = 0 → ∃ t, exec (.queueWrite none j q d last) s = .next t ∧ (t.queue j.val q.val).words = x.words ∧
      (t.queue j.val q.val).committed = x.committed ∧ (t.queue j.val q.val).inPacket = !last ∧
      t.flag (pgQUE j.val) (Que.Q_STATUS q.val) 8 = s.flag (pgQUE j.val) (Que.Q_STATUS q.val) 8 ∧
      drops t = (if x.inPacket then drops s else (drops s + 1) % 65536)) ∧
    (∀ r, mayUse i true r = true → s.reaches (pgQUE j.val) = true →
      ∃ t, exec (.queueWrite (some r) j q d last) s = .next t ∧ (t.queue j.val q.val).words = x.words ∧
        (t.queue j.val q.val).committed = x.committed ∧ (t.queue j.val q.val).inPacket = true ∧
        t.flag (pgQUE j.val) (Que.Q_STATUS q.val) 8 = s.flag (pgQUE j.val) (Que.Q_STATUS q.val) 8 ∧
        drops t = (if x.inPacket then drops s else (drops s + 1) % 65536))) ∧
  (∀ (s : State) (r : Requester) (j : Fin 16) (q : Fin 4) (i : QueueSpec) (v : Word), s.reaches (pgQUE j.val) = true →
    queueSpec j.val q.val = some i → bits v Que.THRESH ≠ 0 → bits v Que.THRESH ≤ i.depth → bit v 0 = false →
      ∃ t, exec (.qCtrlWrite r j q v) s = .next t ∧ (t.queue j.val q.val).words = [] ∧ (t.queue j.val q.val).part = [] ∧
        (t.queue j.val q.val).committed = 0 ∧ t.flag (pgQUE j.val) (Que.Q_CTRL q.val) 0 = false)

/-- R504. ACLK runs; an occurrence without ACLK is latched (R514). -/
def Obligations.EdgesBecomePending : Prop :=
  (∀ (s : State) (k : Nat), isSource k = true → isLevelSource k = false → s.aclkRuns = true →
    ∃ t, exec (.interruptEdge k) s = .next t ∧ t.icuBit (Icu.PENDING 0) k = true ∧
      (∀ j, t.icuBit (Icu.IN_SERVICE 0) j = s.icuBit (Icu.IN_SERVICE 0) j) ∧
      (s.pwrState ≠ 1 → ∀ j, j < 512 → j ≠ k → t.icuBit (Icu.PENDING 0) j = s.icuBit (Icu.PENDING 0) j)) ∧
  (∀ (s : State) (r : Requester) (n : Fin 8) (k : Fin 1024), isSource k.val = true → isLevelSource k.val = false →
    s.reaches pgICU = true → actsFor r n.val = true → s.icuBit (Icu.IN_SERVICE 0) k.val = true →
    Tab.get (fun _ => 1024) s.icu.owner k.val = n.val → s.icuBit (Icu.PENDING 0) k.val = true →
      ∃ t, exec (.icuComplete r n k) s = .next t ∧ t.icuBit (Icu.IN_SERVICE 0) k.val = false ∧
        t.icuBit (Icu.PENDING 0) k.val = true)

/-- R510. `a` is the counted state. -/
def Obligations.CompletionsEndServices : Prop :=
  ∀ (s : State) (r : Requester) (n : Fin 8) (k : Fin 1024), s.reaches pgICU = true → actsFor r n.val = true →
    let a := s.counted
    let owned := a.icuBit (Icu.IN_SERVICE 0) k.val = true ∧ k.val < 512 ∧ Tab.get (fun _ => 1024) a.icu.owner k.val = n.val
    (owned → ∃ t, exec (.icuComplete r n k) s = .next t ∧ t.icuBit (Icu.IN_SERVICE 0) k.val = false ∧
      Tab.get (fun _ => 1024) t.icu.owner k.val = 1024) ∧
    (¬ owned → exec (.icuComplete r n k) s = .next (a.fault pgICU Icu.F_BAD_COMPLETE))

/-- R596. -/
def Obligations.CountersWrap : Prop :=
  (∀ (s : State) (n k : Nat), counterUsed n = true → k < 2 ^ 48 →
    let t := s.count n k
    let wraps (x : State) (m : Nat) : Nat := Tab.get (fun _ => 0) x.pmc.wraps m
    t.cnt n = (s.cnt n + k) % 2 ^ 48 ∧
    (∀ m, m ≠ n → t.cnt m = s.cnt m ∧ wraps t m = wraps s m) ∧
    (2 ^ 48 ≤ s.cnt n + k → t.flag pgPMC (Pmc.OVF (n / 32)) (n % 32) = true ∧ wraps t n = min 255 (wraps s n + 1) ∧
      (s.aclkRuns = true → s.flag pgPMC Pmc.PMC_CTRL 2 = true → t.icuBit (Icu.PENDING 0) 357 = true)) ∧
    (s.cnt n + k < 2 ^ 48 → wraps t n = wraps s n ∧ t.live = s.live)) ∧
  (∀ (s : State) (r : Requester) (n : Fin 1536) (v : Word) (low : Bool),
    let off := Pmc.OVF (n.val / 32) - 0x1000
    (s.presence low).accepts r (pgPMC + 1) (0xC00 + off) = true → bit v (n.val % 32) = true →
      ∃ t, exec (.clrAliasWrite r (pgPMC + 1) off v 0 [] low) s = .next t ∧
        t.flag pgPMC (Pmc.OVF (n.val / 32)) (n.val % 32) = false ∧ Tab.get (fun _ => 0) t.pmc.wraps n.val = 0)

/-- R422. -/
def Obligations.OnlyTheFirmwareNamesTheParent : Prop :=
  ∀ (s : State) (r : Requester) (v : Word), isHost r = true →
    (∀ off, off = Ntm.PARENT_ID_LO ∨ off = Ntm.PARENT_ID_HI ∨ off = Ntm.PARENT_PORT → s.accepts r pgNTM off = true →
      exec (.registerWrite r (regKey pgNTM off) 4 (v.setWidth 64)) s = .next (s.counted.fault pgNTM Ntm.F_OWNER_WRITE)) ∧
    (∀ m : Fin 4, s.accepts r (pgNTM + 1) (Ntm.PORT_STATE m.val - 0x1000) = true →
      exec (.registerWrite r (regKey (pgNTM + 1) (Ntm.PORT_STATE m.val - 0x1000)) 4 (v.setWidth 64)) s
        = .next (s.counted.fault pgNTM Ntm.F_OWNER_WRITE)) ∧
    (∀ m : Fin 4, s.reaches (pgNTM + 1) = true →
      exec (.portStateWrite r m v) s = .next (s.counted.fault pgNTM Ntm.F_OWNER_WRITE))
end

