-- ==== Sys2Proof/Laws/Tab.lean ====
section
/-!
SUPPORT. The laws of sparse tables: a read after a write, and that every table operation keeps the canonical form.
-/
set_option Elab.async false
namespace Sys2Proof.Machine

variable {α : Type}

@[simp] theorem Tab.get_nil (d : Nat → α) (k : Nat) : Tab.get d [] k = d k := rfl

theorem Tab.get_erase_self (d : Nat → α) (t : Tab α) (k : Nat) : Tab.get d (Tab.erase t k) k = d k := by
  induction t with
  | nil => rfl
  | cons e t ih =>
    obtain ⟨i, v⟩ := e
    by_cases h : i = k <;> simp [Tab.erase, Tab.get, h, ih]

theorem Tab.get_erase_ne (d : Nat → α) (t : Tab α) {j k : Nat} (hjk : j ≠ k) :
    Tab.get d (Tab.erase t k) j = Tab.get d t j := by
  induction t with
  | nil => rfl
  | cons e t ih =>
    obtain ⟨i, v⟩ := e
    by_cases h : i = k
    · subst h
      simp [Tab.erase, Tab.get, ih, Ne.symm hjk]
    · by_cases hj : i = j
      · subst hj; simp [Tab.erase, Tab.get, h]
      · simp [Tab.erase, Tab.get, h, hj, ih]

theorem Tab.get_insert_self (d : Nat → α) (t : Tab α) (k : Nat) (v : α)
    (h : ∀ e ∈ t, e.1 ≠ k) : Tab.get d (Tab.insert t k v) k = v := by
  induction t with
  | nil => simp [Tab.insert, Tab.get]
  | cons e t ih =>
    obtain ⟨i, x⟩ := e
    have hi : i ≠ k := h (i, x) (by simp)
    by_cases hk : k < i
    · simp [Tab.insert, hk, Tab.get]
    · simp only [Tab.insert, hk, if_false, Tab.get, hi]
      exact ih (fun e he => h e (by simp [he]))

theorem Tab.get_insert_ne (d : Nat → α) (t : Tab α) {j k : Nat} (v : α) (hjk : j ≠ k) :
    Tab.get d (Tab.insert t k v) j = Tab.get d t j := by
  induction t with
  | nil => simp [Tab.insert, Tab.get, Ne.symm hjk]
  | cons e t ih =>
    obtain ⟨i, x⟩ := e
    by_cases hk : k < i
    · simp [Tab.insert, hk, Tab.get, Ne.symm hjk]
    · by_cases hj : i = j
      · subst hj; simp [Tab.insert, hk, Tab.get]
      · simp [Tab.insert, hk, Tab.get, hj, ih]

theorem Tab.not_mem_erase (t : Tab α) (k : Nat) : ∀ e ∈ Tab.erase t k, e.1 ≠ k := by
  induction t with
  | nil => simp [Tab.erase]
  | cons e t ih =>
    obtain ⟨i, v⟩ := e
    by_cases h : i = k
    · simpa [Tab.erase, h] using ih
    · intro e he
      simp only [Tab.erase, h, if_false, List.mem_cons] at he
      rcases he with rfl | he
      · exact h
      · exact ih e he

theorem Tab.mem_of_mem_erase {t : Tab α} {k : Nat} {e : Nat × α} (h : e ∈ Tab.erase t k) : e ∈ t := by
  induction t with
  | nil => simp [Tab.erase] at h
  | cons a t ih =>
    obtain ⟨i, v⟩ := a
    by_cases hi : i = k
    · simp only [Tab.erase, hi, if_true] at h
      exact List.mem_cons_of_mem _ (ih h)
    · simp only [Tab.erase, hi, if_false, List.mem_cons] at h
      rcases h with rfl | h
      · simp
      · exact List.mem_cons_of_mem _ (ih h)

theorem Tab.mem_insert {t : Tab α} {k : Nat} {v : α} {e : Nat × α} (h : e ∈ Tab.insert t k v) :
    e = (k, v) ∨ e ∈ t := by
  induction t with
  | nil => simpa [Tab.insert] using h
  | cons a t ih =>
    obtain ⟨i, x⟩ := a
    by_cases hk : k < i
    · simp only [Tab.insert, hk, if_true, List.mem_cons] at h
      rcases h with h | h | h <;> simp [h]
    · simp only [Tab.insert, hk, if_false, List.mem_cons] at h
      rcases h with h | h
      · simp [h]
      · rcases ih h with h | h <;> simp [h]

variable [DecidableEq α]

@[simp] theorem Tab.get_set_self (d : Nat → α) (t : Tab α) (k : Nat) (v : α) :
    Tab.get d (Tab.set d t k v) k = v := by
  unfold Tab.set
  split
  · next h => rw [Tab.get_erase_self, h]
  · exact Tab.get_insert_self d _ k v (Tab.not_mem_erase t k)

theorem Tab.get_set_ne (d : Nat → α) (t : Tab α) {j k : Nat} (v : α) (h : j ≠ k) :
    Tab.get d (Tab.set d t k v) j = Tab.get d t j := by
  unfold Tab.set
  split
  · exact Tab.get_erase_ne d t h
  · rw [Tab.get_insert_ne d _ v h, Tab.get_erase_ne d t h]

theorem Tab.get_set (d : Nat → α) (t : Tab α) (j k : Nat) (v : α) :
    Tab.get d (Tab.set d t k v) j = if j = k then v else Tab.get d t j := by
  by_cases h : j = k
  · simp [h]
  · simp [h, Tab.get_set_ne d t v h]

omit [DecidableEq α] in
theorem Tab.risesFrom_mono {m n : Nat} (h : m ≤ n) {t : Tab α} (ht : Tab.risesFrom n t = true) :
    Tab.risesFrom m t = true := by
  cases t with
  | nil => rfl
  | cons e t =>
    simp only [Tab.risesFrom, Bool.and_eq_true, decide_eq_true_eq] at ht ⊢
    exact ⟨le_trans h ht.1, ht.2⟩

omit [DecidableEq α] in
theorem Tab.risesFrom_erase {n : Nat} {t : Tab α} (k : Nat) (ht : Tab.risesFrom n t = true) :
    Tab.risesFrom n (Tab.erase t k) = true := by
  induction t generalizing n with
  | nil => rfl
  | cons e t ih =>
    obtain ⟨i, v⟩ := e
    simp only [Tab.risesFrom, Bool.and_eq_true, decide_eq_true_eq] at ht
    by_cases h : i = k
    · simp only [Tab.erase, h, if_true]
      exact ih (Tab.risesFrom_mono (by omega) ht.2)
    · simp only [Tab.erase, h, if_false, Tab.risesFrom, Bool.and_eq_true, decide_eq_true_eq]
      exact ⟨ht.1, ih ht.2⟩

omit [DecidableEq α] in
theorem Tab.risesFrom_insert {n k : Nat} {t : Tab α} (v : α) (hk : n ≤ k) (ht : Tab.risesFrom n t = true)
    (hne : ∀ e ∈ t, e.1 ≠ k) : Tab.risesFrom n (Tab.insert t k v) = true := by
  induction t generalizing n with
  | nil => simp [Tab.insert, Tab.risesFrom, hk]
  | cons e t ih =>
    obtain ⟨i, x⟩ := e
    simp only [Tab.risesFrom, Bool.and_eq_true, decide_eq_true_eq] at ht
    have hi : i ≠ k := hne (i, x) (by simp)
    by_cases h : k < i
    · simp only [Tab.insert, h, if_true, Tab.risesFrom, Bool.and_eq_true, decide_eq_true_eq]
      exact ⟨hk, by omega, ht.2⟩
    · simp only [Tab.insert, h, if_false, Tab.risesFrom, Bool.and_eq_true, decide_eq_true_eq]
      exact ⟨ht.1, ih (by omega) ht.2 (fun e he => hne e (by simp [he]))⟩

/-- A write keeps the canonical form. -/
theorem Tab.wf_set (d : Nat → α) {t : Tab α} (k : Nat) (v : α) (h : Tab.wf d t = true) :
    Tab.wf d (Tab.set d t k v) = true := by
  simp only [Tab.wf, Bool.and_eq_true, List.all_eq_true, decide_eq_true_eq] at h ⊢
  unfold Tab.set
  split
  · exact ⟨Tab.risesFrom_erase k h.1, fun e he => h.2 e (Tab.mem_of_mem_erase he)⟩
  · next hv =>
    refine ⟨Tab.risesFrom_insert v (Nat.zero_le k) (Tab.risesFrom_erase k h.1) (Tab.not_mem_erase t k), ?_⟩
    intro e he
    rcases Tab.mem_insert he with rfl | he
    · exact hv
    · exact h.2 e (Tab.mem_of_mem_erase he)

omit [DecidableEq α] in
theorem Tab.risesFrom_keep (p : Nat → Bool) {n : Nat} {t : Tab α} (ht : Tab.risesFrom n t = true) :
    Tab.risesFrom n (Tab.keep p t) = true := by
  induction t generalizing n with
  | nil => rfl
  | cons e t ih =>
    obtain ⟨i, x⟩ := e
    simp only [Tab.risesFrom, Bool.and_eq_true, decide_eq_true_eq] at ht
    unfold Tab.keep at ih ⊢
    by_cases h : p i = true
    · simp only [List.filter_cons, h, if_true, Tab.risesFrom, Bool.and_eq_true, decide_eq_true_eq]
      exact ⟨ht.1, ih ht.2⟩
    · simp only [List.filter_cons, h]
      exact ih (Tab.risesFrom_mono (by omega) ht.2)

/-- Dropping entries keeps the canonical form. -/
theorem Tab.wf_keep (d : Nat → α) (p : Nat → Bool) {t : Tab α} (h : Tab.wf d t = true) :
    Tab.wf d (Tab.keep p t) = true := by
  simp only [Tab.wf, Bool.and_eq_true, List.all_eq_true, decide_eq_true_eq] at h ⊢
  exact ⟨Tab.risesFrom_keep p h.1, fun e he => h.2 e (List.mem_of_mem_filter he)⟩

omit [DecidableEq α] in
theorem Tab.get_keep (d : Nat → α) (p : Nat → Bool) (t : Tab α) (k : Nat) :
    Tab.get d (Tab.keep p t) k = if p k then Tab.get d t k else d k := by
  induction t with
  | nil => simp [Tab.keep]
  | cons e t ih =>
    obtain ⟨i, x⟩ := e
    unfold Tab.keep at ih ⊢
    by_cases h : p i = true
    · by_cases hk : i = k
      · subst hk; simp [h, Tab.get]
      · simp [h, Tab.get, hk, ih]
    · by_cases hk : i = k
      · subst hk; simp only [List.filter_cons, h]; simp [ih, h]
      · simp only [List.filter_cons, h]; simp [ih, Tab.get, hk]

end Sys2Proof.Machine
end

