-- ==== Sys2Proof/Laws/State.lean ====
section
/-!
SUPPORT. What the register operations leave: one lemma for each field and operation, and the reads after writes.
-/
set_option Elab.async false
namespace Sys2Proof.Machine

@[simp] theorem State.setReg_pending (s : State) (p o : Nat) (v : Word) : (s.setReg p o v).pending = s.pending := by simp only [State.setReg]
@[simp] theorem State.setReg_armed (s : State) (p o : Nat) (v : Word) : (s.setReg p o v).armed = s.armed := by simp only [State.setReg]
@[simp] theorem State.setReg_mem (s : State) (p o : Nat) (v : Word) : (s.setReg p o v).mem = s.mem := by simp only [State.setReg]
@[simp] theorem State.setReg_prog (s : State) (p o : Nat) (v : Word) : (s.setReg p o v).prog = s.prog := by simp only [State.setReg]
@[simp] theorem State.setReg_queues (s : State) (p o : Nat) (v : Word) : (s.setReg p o v).queues = s.queues := by simp only [State.setReg]
@[simp] theorem State.setReg_dev (s : State) (p o : Nat) (v : Word) : (s.setReg p o v).dev = s.dev := by simp only [State.setReg]
@[simp] theorem State.setReg_icu (s : State) (p o : Nat) (v : Word) : (s.setReg p o v).icu = s.icu := by simp only [State.setReg]
@[simp] theorem State.setReg_tln (s : State) (p o : Nat) (v : Word) : (s.setReg p o v).tln = s.tln := by simp only [State.setReg]
@[simp] theorem State.setReg_syn (s : State) (p o : Nat) (v : Word) : (s.setReg p o v).syn = s.syn := by simp only [State.setReg]
@[simp] theorem State.setReg_evr (s : State) (p o : Nat) (v : Word) : (s.setReg p o v).evr = s.evr := by simp only [State.setReg]
@[simp] theorem State.setReg_pmc (s : State) (p o : Nat) (v : Word) : (s.setReg p o v).pmc = s.pmc := by simp only [State.setReg]
@[simp] theorem State.setReg_out (s : State) (p o : Nat) (v : Word) : (s.setReg p o v).out = s.out := rfl
@[simp] theorem State.setReg_swt (s : State) (p o : Nat) (v : Word) : (s.setReg p o v).swt = s.swt := by simp only [State.setReg]
@[simp] theorem State.setReg_launch (s : State) (p o : Nat) (v : Word) : (s.setReg p o v).launch = s.launch := by simp only [State.setReg]
@[simp] theorem State.setReg_snaps (s : State) (p o : Nat) (v : Word) : (s.setReg p o v).snaps = s.snaps := by simp only [State.setReg]
@[simp] theorem State.setReg_progStage (s : State) (p o : Nat) (v : Word) : (s.setReg p o v).progStage = s.progStage := by simp only [State.setReg]
@[simp] theorem State.setReg_plu (s : State) (p o : Nat) (v : Word) : (s.setReg p o v).plu = s.plu := by simp only [State.setReg]
@[simp] theorem State.setReg_region (s : State) (p o : Nat) (v : Word) : (s.setReg p o v).region = s.region := by simp only [State.setReg]
@[simp] theorem State.setReg_port (s : State) (p o : Nat) (v : Word) : (s.setReg p o v).port = s.port := by simp only [State.setReg]
@[simp] theorem State.setReg_dmx (s : State) (p o : Nat) (v : Word) : (s.setReg p o v).dmx = s.dmx := by simp only [State.setReg]
@[simp] theorem State.setReg_cluster (s : State) (p o : Nat) (v : Word) : (s.setReg p o v).cluster = s.cluster := by simp only [State.setReg]
@[simp] theorem State.setReg_lamp (s : State) (p o : Nat) (v : Word) : (s.setReg p o v).lamp = s.lamp := by simp only [State.setReg]
@[simp] theorem State.setReg_field (s : State) (p o : Nat) (v : Word) : (s.setReg p o v).field = s.field := by simp only [State.setReg]
@[simp] theorem State.setReg_red (s : State) (p o : Nat) (v : Word) : (s.setReg p o v).red = s.red := by simp only [State.setReg]
@[simp] theorem State.setReg_merge (s : State) (p o : Nat) (v : Word) : (s.setReg p o v).merge = s.merge := by simp only [State.setReg]
@[simp] theorem State.setReg_mac (s : State) (p o : Nat) (v : Word) : (s.setReg p o v).mac = s.mac := by simp only [State.setReg]
@[simp] theorem State.setReg_bridge (s : State) (p o : Nat) (v : Word) : (s.setReg p o v).bridge = s.bridge := by simp only [State.setReg]
@[simp] theorem State.setReg_ntm (s : State) (p o : Nat) (v : Word) : (s.setReg p o v).ntm = s.ntm := by simp only [State.setReg]
@[simp] theorem State.setReg_ing (s : State) (p o : Nat) (v : Word) : (s.setReg p o v).ing = s.ing := by simp only [State.setReg]
@[simp] theorem State.setReg_str (s : State) (p o : Nat) (v : Word) : (s.setReg p o v).str = s.str := by simp only [State.setReg]
@[simp] theorem State.setReg_pwr (s : State) (p o : Nat) (v : Word) : (s.setReg p o v).pwr = s.pwr := by simp only [State.setReg]
@[simp] theorem State.setReg_hth (s : State) (p o : Nat) (v : Word) : (s.setReg p o v).hth = s.hth := by simp only [State.setReg]
@[simp] theorem State.setReg_boot (s : State) (p o : Nat) (v : Word) : (s.setReg p o v).boot = s.boot := by simp only [State.setReg]
@[simp] theorem State.setReg_thm (s : State) (p o : Nat) (v : Word) : (s.setReg p o v).thm = s.thm := by simp only [State.setReg]
@[simp] theorem State.setReg_cal (s : State) (p o : Nat) (v : Word) : (s.setReg p o v).cal = s.cal := by simp only [State.setReg]
@[simp] theorem State.setReg_fwu (s : State) (p o : Nat) (v : Word) : (s.setReg p o v).fwu = s.fwu := by simp only [State.setReg]
@[simp] theorem State.setReg_jtag (s : State) (p o : Nat) (v : Word) : (s.setReg p o v).jtag = s.jtag := by simp only [State.setReg]

@[simp] theorem State.setShd_pending (s : State) (p o : Nat) (v : Word) : (s.setShd p o v).pending = s.pending := by simp only [State.setShd]
@[simp] theorem State.setShd_live (s : State) (p o : Nat) (v : Word) : (s.setShd p o v).live = s.live := by simp only [State.setShd]
@[simp] theorem State.setShd_armed (s : State) (p o : Nat) (v : Word) : (s.setShd p o v).armed = s.armed := by simp only [State.setShd]
@[simp] theorem State.setShd_mem (s : State) (p o : Nat) (v : Word) : (s.setShd p o v).mem = s.mem := by simp only [State.setShd]
@[simp] theorem State.setShd_prog (s : State) (p o : Nat) (v : Word) : (s.setShd p o v).prog = s.prog := by simp only [State.setShd]
@[simp] theorem State.setShd_queues (s : State) (p o : Nat) (v : Word) : (s.setShd p o v).queues = s.queues := by simp only [State.setShd]
@[simp] theorem State.setShd_dev (s : State) (p o : Nat) (v : Word) : (s.setShd p o v).dev = s.dev := by simp only [State.setShd]
@[simp] theorem State.setShd_icu (s : State) (p o : Nat) (v : Word) : (s.setShd p o v).icu = s.icu := by simp only [State.setShd]
@[simp] theorem State.setShd_tln (s : State) (p o : Nat) (v : Word) : (s.setShd p o v).tln = s.tln := by simp only [State.setShd]
@[simp] theorem State.setShd_syn (s : State) (p o : Nat) (v : Word) : (s.setShd p o v).syn = s.syn := by simp only [State.setShd]
@[simp] theorem State.setShd_evr (s : State) (p o : Nat) (v : Word) : (s.setShd p o v).evr = s.evr := by simp only [State.setShd]
@[simp] theorem State.setShd_pmc (s : State) (p o : Nat) (v : Word) : (s.setShd p o v).pmc = s.pmc := by simp only [State.setShd]
@[simp] theorem State.setShd_out (s : State) (p o : Nat) (v : Word) : (s.setShd p o v).out = s.out := rfl
@[simp] theorem State.setShd_swt (s : State) (p o : Nat) (v : Word) : (s.setShd p o v).swt = s.swt := by simp only [State.setShd]
@[simp] theorem State.setShd_launch (s : State) (p o : Nat) (v : Word) : (s.setShd p o v).launch = s.launch := by simp only [State.setShd]
@[simp] theorem State.setShd_snaps (s : State) (p o : Nat) (v : Word) : (s.setShd p o v).snaps = s.snaps := by simp only [State.setShd]
@[simp] theorem State.setShd_progStage (s : State) (p o : Nat) (v : Word) : (s.setShd p o v).progStage = s.progStage := by simp only [State.setShd]
@[simp] theorem State.setShd_plu (s : State) (p o : Nat) (v : Word) : (s.setShd p o v).plu = s.plu := by simp only [State.setShd]
@[simp] theorem State.setShd_region (s : State) (p o : Nat) (v : Word) : (s.setShd p o v).region = s.region := by simp only [State.setShd]
@[simp] theorem State.setShd_port (s : State) (p o : Nat) (v : Word) : (s.setShd p o v).port = s.port := by simp only [State.setShd]
@[simp] theorem State.setShd_dmx (s : State) (p o : Nat) (v : Word) : (s.setShd p o v).dmx = s.dmx := by simp only [State.setShd]
@[simp] theorem State.setShd_cluster (s : State) (p o : Nat) (v : Word) : (s.setShd p o v).cluster = s.cluster := by simp only [State.setShd]
@[simp] theorem State.setShd_lamp (s : State) (p o : Nat) (v : Word) : (s.setShd p o v).lamp = s.lamp := by simp only [State.setShd]
@[simp] theorem State.setShd_field (s : State) (p o : Nat) (v : Word) : (s.setShd p o v).field = s.field := by simp only [State.setShd]
@[simp] theorem State.setShd_red (s : State) (p o : Nat) (v : Word) : (s.setShd p o v).red = s.red := by simp only [State.setShd]
@[simp] theorem State.setShd_merge (s : State) (p o : Nat) (v : Word) : (s.setShd p o v).merge = s.merge := by simp only [State.setShd]
@[simp] theorem State.setShd_mac (s : State) (p o : Nat) (v : Word) : (s.setShd p o v).mac = s.mac := by simp only [State.setShd]
@[simp] theorem State.setShd_bridge (s : State) (p o : Nat) (v : Word) : (s.setShd p o v).bridge = s.bridge := by simp only [State.setShd]
@[simp] theorem State.setShd_ntm (s : State) (p o : Nat) (v : Word) : (s.setShd p o v).ntm = s.ntm := by simp only [State.setShd]
@[simp] theorem State.setShd_ing (s : State) (p o : Nat) (v : Word) : (s.setShd p o v).ing = s.ing := by simp only [State.setShd]
@[simp] theorem State.setShd_str (s : State) (p o : Nat) (v : Word) : (s.setShd p o v).str = s.str := by simp only [State.setShd]
@[simp] theorem State.setShd_pwr (s : State) (p o : Nat) (v : Word) : (s.setShd p o v).pwr = s.pwr := by simp only [State.setShd]
@[simp] theorem State.setShd_hth (s : State) (p o : Nat) (v : Word) : (s.setShd p o v).hth = s.hth := by simp only [State.setShd]
@[simp] theorem State.setShd_boot (s : State) (p o : Nat) (v : Word) : (s.setShd p o v).boot = s.boot := by simp only [State.setShd]
@[simp] theorem State.setShd_thm (s : State) (p o : Nat) (v : Word) : (s.setShd p o v).thm = s.thm := by simp only [State.setShd]
@[simp] theorem State.setShd_cal (s : State) (p o : Nat) (v : Word) : (s.setShd p o v).cal = s.cal := by simp only [State.setShd]
@[simp] theorem State.setShd_fwu (s : State) (p o : Nat) (v : Word) : (s.setShd p o v).fwu = s.fwu := by simp only [State.setShd]
@[simp] theorem State.setShd_jtag (s : State) (p o : Nat) (v : Word) : (s.setShd p o v).jtag = s.jtag := by simp only [State.setShd]

@[simp] theorem State.setBoth_pending (s : State) (p o : Nat) (v : Word) : (s.setBoth p o v).pending = s.pending := by simp only [State.setBoth]
@[simp] theorem State.setBoth_armed (s : State) (p o : Nat) (v : Word) : (s.setBoth p o v).armed = s.armed := by simp only [State.setBoth]
@[simp] theorem State.setBoth_mem (s : State) (p o : Nat) (v : Word) : (s.setBoth p o v).mem = s.mem := by simp only [State.setBoth]
@[simp] theorem State.setBoth_prog (s : State) (p o : Nat) (v : Word) : (s.setBoth p o v).prog = s.prog := by simp only [State.setBoth]
@[simp] theorem State.setBoth_queues (s : State) (p o : Nat) (v : Word) : (s.setBoth p o v).queues = s.queues := by simp only [State.setBoth]
@[simp] theorem State.setBoth_dev (s : State) (p o : Nat) (v : Word) : (s.setBoth p o v).dev = s.dev := by simp only [State.setBoth]
@[simp] theorem State.setBoth_icu (s : State) (p o : Nat) (v : Word) : (s.setBoth p o v).icu = s.icu := by simp only [State.setBoth]
@[simp] theorem State.setBoth_tln (s : State) (p o : Nat) (v : Word) : (s.setBoth p o v).tln = s.tln := by simp only [State.setBoth]
@[simp] theorem State.setBoth_syn (s : State) (p o : Nat) (v : Word) : (s.setBoth p o v).syn = s.syn := by simp only [State.setBoth]
@[simp] theorem State.setBoth_evr (s : State) (p o : Nat) (v : Word) : (s.setBoth p o v).evr = s.evr := by simp only [State.setBoth]
@[simp] theorem State.setBoth_pmc (s : State) (p o : Nat) (v : Word) : (s.setBoth p o v).pmc = s.pmc := by simp only [State.setBoth]
@[simp] theorem State.setBoth_out (s : State) (p o : Nat) (v : Word) : (s.setBoth p o v).out = s.out := rfl
@[simp] theorem State.setBoth_swt (s : State) (p o : Nat) (v : Word) : (s.setBoth p o v).swt = s.swt := by simp only [State.setBoth]
@[simp] theorem State.setBoth_launch (s : State) (p o : Nat) (v : Word) : (s.setBoth p o v).launch = s.launch := by simp only [State.setBoth]
@[simp] theorem State.setBoth_snaps (s : State) (p o : Nat) (v : Word) : (s.setBoth p o v).snaps = s.snaps := by simp only [State.setBoth]
@[simp] theorem State.setBoth_progStage (s : State) (p o : Nat) (v : Word) : (s.setBoth p o v).progStage = s.progStage := by simp only [State.setBoth]
@[simp] theorem State.setBoth_plu (s : State) (p o : Nat) (v : Word) : (s.setBoth p o v).plu = s.plu := by simp only [State.setBoth]
@[simp] theorem State.setBoth_region (s : State) (p o : Nat) (v : Word) : (s.setBoth p o v).region = s.region := by simp only [State.setBoth]
@[simp] theorem State.setBoth_port (s : State) (p o : Nat) (v : Word) : (s.setBoth p o v).port = s.port := by simp only [State.setBoth]
@[simp] theorem State.setBoth_dmx (s : State) (p o : Nat) (v : Word) : (s.setBoth p o v).dmx = s.dmx := by simp only [State.setBoth]
@[simp] theorem State.setBoth_cluster (s : State) (p o : Nat) (v : Word) : (s.setBoth p o v).cluster = s.cluster := by simp only [State.setBoth]
@[simp] theorem State.setBoth_lamp (s : State) (p o : Nat) (v : Word) : (s.setBoth p o v).lamp = s.lamp := by simp only [State.setBoth]
@[simp] theorem State.setBoth_field (s : State) (p o : Nat) (v : Word) : (s.setBoth p o v).field = s.field := by simp only [State.setBoth]
@[simp] theorem State.setBoth_red (s : State) (p o : Nat) (v : Word) : (s.setBoth p o v).red = s.red := by simp only [State.setBoth]
@[simp] theorem State.setBoth_merge (s : State) (p o : Nat) (v : Word) : (s.setBoth p o v).merge = s.merge := by simp only [State.setBoth]
@[simp] theorem State.setBoth_mac (s : State) (p o : Nat) (v : Word) : (s.setBoth p o v).mac = s.mac := by simp only [State.setBoth]
@[simp] theorem State.setBoth_bridge (s : State) (p o : Nat) (v : Word) : (s.setBoth p o v).bridge = s.bridge := by simp only [State.setBoth]
@[simp] theorem State.setBoth_ntm (s : State) (p o : Nat) (v : Word) : (s.setBoth p o v).ntm = s.ntm := by simp only [State.setBoth]
@[simp] theorem State.setBoth_ing (s : State) (p o : Nat) (v : Word) : (s.setBoth p o v).ing = s.ing := by simp only [State.setBoth]
@[simp] theorem State.setBoth_str (s : State) (p o : Nat) (v : Word) : (s.setBoth p o v).str = s.str := by simp only [State.setBoth]
@[simp] theorem State.setBoth_pwr (s : State) (p o : Nat) (v : Word) : (s.setBoth p o v).pwr = s.pwr := by simp only [State.setBoth]
@[simp] theorem State.setBoth_hth (s : State) (p o : Nat) (v : Word) : (s.setBoth p o v).hth = s.hth := by simp only [State.setBoth]
@[simp] theorem State.setBoth_boot (s : State) (p o : Nat) (v : Word) : (s.setBoth p o v).boot = s.boot := by simp only [State.setBoth]
@[simp] theorem State.setBoth_thm (s : State) (p o : Nat) (v : Word) : (s.setBoth p o v).thm = s.thm := by simp only [State.setBoth]
@[simp] theorem State.setBoth_cal (s : State) (p o : Nat) (v : Word) : (s.setBoth p o v).cal = s.cal := by simp only [State.setBoth]
@[simp] theorem State.setBoth_fwu (s : State) (p o : Nat) (v : Word) : (s.setBoth p o v).fwu = s.fwu := by simp only [State.setBoth]
@[simp] theorem State.setBoth_jtag (s : State) (p o : Nat) (v : Word) : (s.setBoth p o v).jtag = s.jtag := by simp only [State.setBoth]

@[simp] theorem State.emit_pending (s : State) (o : Output) : (s.emit o).pending = s.pending := by simp only [State.emit]
@[simp] theorem State.emit_live (s : State) (o : Output) : (s.emit o).live = s.live := by simp only [State.emit]
@[simp] theorem State.emit_shadow (s : State) (o : Output) : (s.emit o).shadow = s.shadow := by simp only [State.emit]
@[simp] theorem State.emit_armed (s : State) (o : Output) : (s.emit o).armed = s.armed := by simp only [State.emit]
@[simp] theorem State.emit_mem (s : State) (o : Output) : (s.emit o).mem = s.mem := by simp only [State.emit]
@[simp] theorem State.emit_prog (s : State) (o : Output) : (s.emit o).prog = s.prog := by simp only [State.emit]
@[simp] theorem State.emit_queues (s : State) (o : Output) : (s.emit o).queues = s.queues := by simp only [State.emit]
@[simp] theorem State.emit_dev (s : State) (o : Output) : (s.emit o).dev = s.dev := by simp only [State.emit]
@[simp] theorem State.emit_icu (s : State) (o : Output) : (s.emit o).icu = s.icu := by simp only [State.emit]
@[simp] theorem State.emit_tln (s : State) (o : Output) : (s.emit o).tln = s.tln := by simp only [State.emit]
@[simp] theorem State.emit_syn (s : State) (o : Output) : (s.emit o).syn = s.syn := by simp only [State.emit]
@[simp] theorem State.emit_evr (s : State) (o : Output) : (s.emit o).evr = s.evr := by simp only [State.emit]
@[simp] theorem State.emit_pmc (s : State) (o : Output) : (s.emit o).pmc = s.pmc := by simp only [State.emit]
@[simp] theorem State.emit_swt (s : State) (o : Output) : (s.emit o).swt = s.swt := by simp only [State.emit]
@[simp] theorem State.emit_launch (s : State) (o : Output) : (s.emit o).launch = s.launch := by simp only [State.emit]
@[simp] theorem State.emit_snaps (s : State) (o : Output) : (s.emit o).snaps = s.snaps := by simp only [State.emit]
@[simp] theorem State.emit_progStage (s : State) (o : Output) : (s.emit o).progStage = s.progStage := by simp only [State.emit]
@[simp] theorem State.emit_plu (s : State) (o : Output) : (s.emit o).plu = s.plu := by simp only [State.emit]
@[simp] theorem State.emit_region (s : State) (o : Output) : (s.emit o).region = s.region := by simp only [State.emit]
@[simp] theorem State.emit_port (s : State) (o : Output) : (s.emit o).port = s.port := by simp only [State.emit]
@[simp] theorem State.emit_dmx (s : State) (o : Output) : (s.emit o).dmx = s.dmx := by simp only [State.emit]
@[simp] theorem State.emit_cluster (s : State) (o : Output) : (s.emit o).cluster = s.cluster := by simp only [State.emit]
@[simp] theorem State.emit_lamp (s : State) (o : Output) : (s.emit o).lamp = s.lamp := by simp only [State.emit]
@[simp] theorem State.emit_field (s : State) (o : Output) : (s.emit o).field = s.field := by simp only [State.emit]
@[simp] theorem State.emit_red (s : State) (o : Output) : (s.emit o).red = s.red := by simp only [State.emit]
@[simp] theorem State.emit_merge (s : State) (o : Output) : (s.emit o).merge = s.merge := by simp only [State.emit]
@[simp] theorem State.emit_mac (s : State) (o : Output) : (s.emit o).mac = s.mac := by simp only [State.emit]
@[simp] theorem State.emit_bridge (s : State) (o : Output) : (s.emit o).bridge = s.bridge := by simp only [State.emit]
@[simp] theorem State.emit_ntm (s : State) (o : Output) : (s.emit o).ntm = s.ntm := by simp only [State.emit]
@[simp] theorem State.emit_ing (s : State) (o : Output) : (s.emit o).ing = s.ing := by simp only [State.emit]
@[simp] theorem State.emit_str (s : State) (o : Output) : (s.emit o).str = s.str := by simp only [State.emit]
@[simp] theorem State.emit_pwr (s : State) (o : Output) : (s.emit o).pwr = s.pwr := by simp only [State.emit]
@[simp] theorem State.emit_hth (s : State) (o : Output) : (s.emit o).hth = s.hth := by simp only [State.emit]
@[simp] theorem State.emit_boot (s : State) (o : Output) : (s.emit o).boot = s.boot := by simp only [State.emit]
@[simp] theorem State.emit_thm (s : State) (o : Output) : (s.emit o).thm = s.thm := by simp only [State.emit]
@[simp] theorem State.emit_cal (s : State) (o : Output) : (s.emit o).cal = s.cal := by simp only [State.emit]
@[simp] theorem State.emit_fwu (s : State) (o : Output) : (s.emit o).fwu = s.fwu := by simp only [State.emit]
@[simp] theorem State.emit_jtag (s : State) (o : Output) : (s.emit o).jtag = s.jtag := by simp only [State.emit]

@[simp] theorem State.setArm_pending (s : State) (g : Nat) (a : Arm) : (s.setArm g a).pending = s.pending := by simp only [State.setArm]
@[simp] theorem State.setArm_live (s : State) (g : Nat) (a : Arm) : (s.setArm g a).live = s.live := by simp only [State.setArm]
@[simp] theorem State.setArm_shadow (s : State) (g : Nat) (a : Arm) : (s.setArm g a).shadow = s.shadow := by simp only [State.setArm]
@[simp] theorem State.setArm_mem (s : State) (g : Nat) (a : Arm) : (s.setArm g a).mem = s.mem := by simp only [State.setArm]
@[simp] theorem State.setArm_prog (s : State) (g : Nat) (a : Arm) : (s.setArm g a).prog = s.prog := by simp only [State.setArm]
@[simp] theorem State.setArm_queues (s : State) (g : Nat) (a : Arm) : (s.setArm g a).queues = s.queues := by simp only [State.setArm]
@[simp] theorem State.setArm_dev (s : State) (g : Nat) (a : Arm) : (s.setArm g a).dev = s.dev := by simp only [State.setArm]
@[simp] theorem State.setArm_icu (s : State) (g : Nat) (a : Arm) : (s.setArm g a).icu = s.icu := by simp only [State.setArm]
@[simp] theorem State.setArm_tln (s : State) (g : Nat) (a : Arm) : (s.setArm g a).tln = s.tln := by simp only [State.setArm]
@[simp] theorem State.setArm_syn (s : State) (g : Nat) (a : Arm) : (s.setArm g a).syn = s.syn := by simp only [State.setArm]
@[simp] theorem State.setArm_evr (s : State) (g : Nat) (a : Arm) : (s.setArm g a).evr = s.evr := by simp only [State.setArm]
@[simp] theorem State.setArm_pmc (s : State) (g : Nat) (a : Arm) : (s.setArm g a).pmc = s.pmc := by simp only [State.setArm]
@[simp] theorem State.setArm_out (s : State) (g : Nat) (a : Arm) : (s.setArm g a).out = s.out := rfl
@[simp] theorem State.setArm_swt (s : State) (g : Nat) (a : Arm) : (s.setArm g a).swt = s.swt := by simp only [State.setArm]
@[simp] theorem State.setArm_launch (s : State) (g : Nat) (a : Arm) : (s.setArm g a).launch = s.launch := by simp only [State.setArm]
@[simp] theorem State.setArm_snaps (s : State) (g : Nat) (a : Arm) : (s.setArm g a).snaps = s.snaps := by simp only [State.setArm]
@[simp] theorem State.setArm_progStage (s : State) (g : Nat) (a : Arm) : (s.setArm g a).progStage = s.progStage := by simp only [State.setArm]
@[simp] theorem State.setArm_plu (s : State) (g : Nat) (a : Arm) : (s.setArm g a).plu = s.plu := by simp only [State.setArm]
@[simp] theorem State.setArm_region (s : State) (g : Nat) (a : Arm) : (s.setArm g a).region = s.region := by simp only [State.setArm]
@[simp] theorem State.setArm_port (s : State) (g : Nat) (a : Arm) : (s.setArm g a).port = s.port := by simp only [State.setArm]
@[simp] theorem State.setArm_dmx (s : State) (g : Nat) (a : Arm) : (s.setArm g a).dmx = s.dmx := by simp only [State.setArm]
@[simp] theorem State.setArm_cluster (s : State) (g : Nat) (a : Arm) : (s.setArm g a).cluster = s.cluster := by simp only [State.setArm]
@[simp] theorem State.setArm_lamp (s : State) (g : Nat) (a : Arm) : (s.setArm g a).lamp = s.lamp := by simp only [State.setArm]
@[simp] theorem State.setArm_field (s : State) (g : Nat) (a : Arm) : (s.setArm g a).field = s.field := by simp only [State.setArm]
@[simp] theorem State.setArm_red (s : State) (g : Nat) (a : Arm) : (s.setArm g a).red = s.red := by simp only [State.setArm]
@[simp] theorem State.setArm_merge (s : State) (g : Nat) (a : Arm) : (s.setArm g a).merge = s.merge := by simp only [State.setArm]
@[simp] theorem State.setArm_mac (s : State) (g : Nat) (a : Arm) : (s.setArm g a).mac = s.mac := by simp only [State.setArm]
@[simp] theorem State.setArm_bridge (s : State) (g : Nat) (a : Arm) : (s.setArm g a).bridge = s.bridge := by simp only [State.setArm]
@[simp] theorem State.setArm_ntm (s : State) (g : Nat) (a : Arm) : (s.setArm g a).ntm = s.ntm := by simp only [State.setArm]
@[simp] theorem State.setArm_ing (s : State) (g : Nat) (a : Arm) : (s.setArm g a).ing = s.ing := by simp only [State.setArm]
@[simp] theorem State.setArm_str (s : State) (g : Nat) (a : Arm) : (s.setArm g a).str = s.str := by simp only [State.setArm]
@[simp] theorem State.setArm_pwr (s : State) (g : Nat) (a : Arm) : (s.setArm g a).pwr = s.pwr := by simp only [State.setArm]
@[simp] theorem State.setArm_hth (s : State) (g : Nat) (a : Arm) : (s.setArm g a).hth = s.hth := by simp only [State.setArm]
@[simp] theorem State.setArm_boot (s : State) (g : Nat) (a : Arm) : (s.setArm g a).boot = s.boot := by simp only [State.setArm]
@[simp] theorem State.setArm_thm (s : State) (g : Nat) (a : Arm) : (s.setArm g a).thm = s.thm := by simp only [State.setArm]
@[simp] theorem State.setArm_cal (s : State) (g : Nat) (a : Arm) : (s.setArm g a).cal = s.cal := by simp only [State.setArm]
@[simp] theorem State.setArm_fwu (s : State) (g : Nat) (a : Arm) : (s.setArm g a).fwu = s.fwu := by simp only [State.setArm]
@[simp] theorem State.setArm_jtag (s : State) (g : Nat) (a : Arm) : (s.setArm g a).jtag = s.jtag := by simp only [State.setArm]

@[simp] theorem State.emit_out (s : State) (o : Output) : (s.emit o).out = o :: s.out := rfl

/-! ### The operations that are a write of one register -/

@[simp] theorem State.setNat_eq (s : State) (p o n : Nat) : s.setNat p o n = s.setReg p o (BitVec.ofNat 32 n) := rfl
@[simp] theorem State.setFld_eq (s : State) (p o : Nat) (f : Field) (n : Nat) :
    s.setFld p o f n = s.setReg p o (putBits (s.reg p o) f n) := rfl
@[simp] theorem State.setFlag_eq (s : State) (p o n : Nat) (b : Bool) :
    s.setFlag p o n b = s.setReg p o (if b then setBit (s.reg p o) n else clearBit (s.reg p o) n) := rfl
@[simp] theorem State.addReg_eq (s : State) (p o k : Nat) :
    s.addReg p o k = s.setReg p o (s.reg p o + BitVec.ofNat 32 k) := rfl
@[simp] theorem State.inc_eq (s : State) (p o : Nat) : s.inc p o = s.setReg p o (s.reg p o + 1) := rfl
@[simp] theorem State.setPageState_eq (s : State) (p n : Nat) :
    s.setPageState p n = s.setReg p PAGE_STATUS (putBits (s.reg p PAGE_STATUS) (1, 0) n) := rfl
@[simp] theorem State.setSts_eq (s : State) (p : Nat) (f : Field) (n : Nat) :
    s.setSts p f n = s.setReg p PAGE_STATUS (putBits (s.reg p PAGE_STATUS) f n) := rfl

/-! ### Reads after writes -/

@[simp] theorem regKey_same_page (p o o' : Nat) : regKey p o = regKey p o' ↔ o = o' := Nat.add_left_cancel_iff

theorem State.reg_setReg (s : State) (p o : Nat) (v : Word) (p' o' : Nat) :
    (s.setReg p o v).reg p' o' = if regKey p' o' = regKey p o then v else s.reg p' o' := Tab.get_set _ _ _ _ _

@[simp] theorem State.reg_setReg_self (s : State) (p o : Nat) (v : Word) : (s.setReg p o v).reg p o = v := by
  simp [State.reg_setReg]

theorem State.reg_setReg_ne (s : State) {p o p' o' : Nat} (v : Word) (h : regKey p' o' ≠ regKey p o) :
    (s.setReg p o v).reg p' o' = s.reg p' o' := by simp [State.reg_setReg, h]

@[simp] theorem State.reg_setShd (s : State) (p o : Nat) (v : Word) (p' o' : Nat) : (s.setShd p o v).reg p' o' = s.reg p' o' := rfl
@[simp] theorem State.reg_emit (s : State) (o : Output) (p' o' : Nat) : (s.emit o).reg p' o' = s.reg p' o' := rfl
@[simp] theorem State.reg_setArm (s : State) (g : Nat) (a : Arm) (p' o' : Nat) : (s.setArm g a).reg p' o' = s.reg p' o' := rfl

theorem State.reg_setBoth (s : State) (p o : Nat) (v : Word) (p' o' : Nat) :
    (s.setBoth p o v).reg p' o' = if regKey p' o' = regKey p o then v else s.reg p' o' := Tab.get_set _ _ _ _ _

theorem State.shd_setShd_self (s : State) (p o : Nat) (v : Word) : (s.setShd p o v).shd p o = v := Tab.get_set_self _ _ _ _

theorem State.shd_setBoth_self (s : State) (p o : Nat) (v : Word) : (s.setBoth p o v).shd p o = v := by
  unfold State.shd State.setBoth
  simp [Tab.get_erase_self]

/-! ### Bits of a word -/

theorem bit_eq (w : Word) (n : Nat) : bit w n = w.getLsbD n := rfl

theorem bit_setBit (w : Word) (n m : Nat) (h : n < 32) : bit (setBit w n) m = (decide (m = n) || bit w m) := by
  simp only [bit_eq, setBit, BitVec.getLsbD_or, BitVec.getLsbD_ofNat, Nat.testBit_two_pow]
  by_cases hm : m = n
  · subst hm; simp [h]
  · simp [hm, Ne.symm hm]

theorem bit_clearBit (w : Word) (n m : Nat) (h : n < 32) : bit (clearBit w n) m = (!decide (m = n) && bit w m) := by
  simp only [bit_eq, clearBit, BitVec.getLsbD_and, BitVec.getLsbD_not, BitVec.getLsbD_ofNat, Nat.testBit_two_pow]
  by_cases hm : m = n
  · subst hm; simp [h]
  · by_cases h32 : m < 32
    · simp [hm, Ne.symm hm, h32]
    · simp [h32, BitVec.getLsbD_of_ge w m (by omega)]

end Sys2Proof.Machine
end

