-- ==== Sys2Proof/Laws/Access.lean ====
section
/-!
SUPPORT. What raising an interrupt, setting a fault and counting can change, and where an accepted access acts.
-/
set_option Elab.async false
namespace Sys2Proof.Machine

/-! ### The state beside registers, interrupts, DMX receivers and counters -/

/-- The state with its registers, interrupt controller, DMX receivers and counters put aside: what raising an interrupt,
setting a fault and counting leave. -/
def State.rest (s : State) : State :=
  { s with live := [], shadow := [], icu := IcuState.init, dmx := [], pmc := PmcState.init }

theorem State.rest_setReg (s : State) (p o : Nat) (v : Word) : (s.setReg p o v).rest = s.rest := by
  simp only [State.rest, State.setReg]

theorem State.rest_icu (s : State) (x : IcuState) : { s with icu := x }.rest = s.rest := by simp only [State.rest]
theorem State.rest_dmx (s : State) (x : Tab DmxState) : { s with dmx := x }.rest = s.rest := by simp only [State.rest]
theorem State.rest_pmc (s : State) (x : PmcState) : { s with pmc := x }.rest = s.rest := by simp only [State.rest]

/-- The keys of the registers that raising an interrupt may change: ICU, and PWR, HTH and FLD where it ends Doze. -/
def irqKey (k : Nat) : Bool :=
  let p := k / 0x1000
  (decide (8 ≤ p) && decide (p < 12)) || p == 2 || p == 3 || (decide (0x160 ≤ p) && decide (p < 0x168))

/-- The register at key `k`. -/
def State.at (s : State) (k : Nat) : Word := Tab.get resetVal s.live k

theorem State.reg_eq_at (s : State) (p o : Nat) : s.reg p o = s.at (regKey p o) := rfl

theorem State.at_setReg_ne (s : State) {p o k : Nat} (v : Word) (h : k ≠ regKey p o) : (s.setReg p o v).at k = s.at k :=
  Tab.get_set_ne _ _ _ h

/-- Nothing but interrupts, Doze and the registers of `irqKey` differs. -/
structure State.SameButIrq (s t : State) : Prop where
  rest : t.rest = s.rest
  regs : ∀ k, irqKey k = false → t.at k = s.at k
  pmc : t.pmc = s.pmc

theorem State.SameButIrq.refl (s : State) : s.SameButIrq s := ⟨rfl, fun _ _ => rfl, rfl⟩

theorem State.SameButIrq.trans {a b c : State} (h : a.SameButIrq b) (g : b.SameButIrq c) : a.SameButIrq c :=
  ⟨g.rest.trans h.rest, fun k hk => (g.regs k hk).trans (h.regs k hk), g.pmc.trans h.pmc⟩

theorem State.SameButIrq.setReg {a b : State} (h : a.SameButIrq b) {p o : Nat} (v : Word) (hk : irqKey (regKey p o) = true) :
    a.SameButIrq (b.setReg p o v) := by
  refine h.trans ⟨State.rest_setReg _ _ _ _, fun k hk' => State.at_setReg_ne _ _ ?_, State.setReg_pmc _ _ _ _⟩
  rintro rfl
  simp [hk] at hk'

theorem State.SameButIrq.icu {a b : State} (h : a.SameButIrq b) (x : IcuState) : a.SameButIrq { b with icu := x } :=
  h.trans ⟨State.rest_icu _ _, fun _ _ => rfl, rfl⟩

theorem State.SameButIrq.dmx {a b : State} (h : a.SameButIrq b) (x : Tab DmxState) : a.SameButIrq { b with dmx := x } :=
  h.trans ⟨State.rest_dmx _ _, fun _ _ => rfl, rfl⟩

theorem State.SameButIrq.foldl {α : Type} {a : State} {f : State → α → State} (l : List α)
    (hf : ∀ x ∈ l, ∀ b, a.SameButIrq b → a.SameButIrq (f b x)) {b : State} (h : a.SameButIrq b) : a.SameButIrq (l.foldl f b) := by
  induction l generalizing b with
  | nil => exact h
  | cons x t ih => exact ih (fun y hy => hf y (List.mem_cons_of_mem _ hy)) (hf x (List.mem_cons_self ..) b h)

theorem irqKey_icu {o : Nat} (h : o < 0x4000) : irqKey (regKey pgICU o) = true := by
  have h1 : 8 ≤ regKey pgICU o / 0x1000 := by simp only [regKey, pgICU]; omega
  have h2 : regKey pgICU o / 0x1000 < 12 := by simp only [regKey, pgICU]; omega
  simp [irqKey, h1, h2]

theorem isSource_lt {k : Nat} (h : isSource k = true) : k < 512 := by
  simp only [isSource, Bool.or_eq_true, decide_eq_true_eq] at h; omega

theorem irqKey_fld {k : Nat} (h : k < 8) : irqKey (regKey (pgFLD k) PAGE_STATUS) = true := by
  have h1 : 0x160 ≤ regKey (pgFLD k) PAGE_STATUS / 0x1000 := by simp only [regKey, pgFLD, PAGE_STATUS]; omega
  have h2 : regKey (pgFLD k) PAGE_STATUS / 0x1000 < 0x168 := by simp only [regKey, pgFLD, PAGE_STATUS]; omega
  simp [irqKey, h1, h2]

theorem State.occur_same (s : State) (k : Nat) : s.SameButIrq (s.occur k) := by
  unfold State.occur
  split
  · exact .refl s
  · next hs =>
    have hk : k < 512 := isSource_lt (by simpa using hs)
    have h1 : s.SameButIrq (s.setIcuBit (Icu.PENDING 0) k true) :=
      (State.SameButIrq.refl s).setReg _ (irqKey_icu (by simp only [Icu.PENDING]; omega))
    split
    · exact (State.SameButIrq.refl s).icu _
    · dsimp only
      split
      · refine h1.setReg _ (irqKey_icu ?_)
        simp only [srcCfg, Icu.SRC_CFG]; omega
      · exact h1

theorem State.notifyGroups_same {a s s' : State} (h : a.SameButIrq s') : a.SameButIrq (s.notifyGroups s') := by
  unfold State.notifyGroups
  refine State.SameButIrq.foldl _ (fun x _ b hb => ?_) h
  split
  · exact hb.icu _
  · exact hb

theorem State.fieldResume_same {a s : State} (h : a.SameButIrq s) : a.SameButIrq s.fieldResume := by
  unfold State.fieldResume
  refine State.SameButIrq.foldl _ (fun x hx b hb => ?_) h
  have hx' : x < 8 := by simpa using hx
  split
  · exact (hb.setReg _ (irqKey_fld hx')).setReg _ (irqKey_fld hx')
  · exact hb

theorem State.leaveDoze_same (s : State) (seen pins : Nat) : s.SameButIrq (s.leaveDoze seen pins) := by
  unfold State.leaveDoze
  refine State.fieldResume_same (State.SameButIrq.dmx ?_ _)
  unfold State.loadWake
  exact ((((State.SameButIrq.refl s).setReg _ rfl).setReg _ rfl).setReg _ rfl).setReg _ rfl

theorem State.icuChange_same (s : State) (f : State → State) (hf : s.SameButIrq (f s)) : s.SameButIrq (s.icuChange f) := by
  unfold State.icuChange
  have h1 := State.notifyGroups_same (s := s) hf
  dsimp only
  split
  · exact (State.notifyGroups_same ((h1.trans (State.leaveDoze_same _ _ _)).trans (State.occur_same _ _)))
  · exact h1

/-- What raising an interrupt can change. -/
theorem State.irq_same (s : State) (k : Nat) : s.SameButIrq (s.irq k) := State.icuChange_same s _ (State.occur_same s k)

theorem State.setLevel_same (s : State) (k : Nat) (b : Bool) : s.SameButIrq (s.setLevel k b) := by
  have h1 := (State.SameButIrq.refl s).icu { s.icu with level := Tab.set (fun _ => false) s.icu.level k b }
  unfold State.setLevel
  dsimp only
  split
  · exact .refl s
  · next hs =>
    have hk : k < 512 := isSource_lt (by simpa using hs)
    split
    · exact h1
    · split
      · split
        · exact h1.icu _
        · exact h1
      · split
        · split
          · exact h1.trans (State.icuChange_same _ _ (State.occur_same _ _))
          · exact h1
        · split
          · exact h1
          · refine h1.trans (State.icuChange_same _ _ ((State.SameButIrq.refl _).setReg _ (irqKey_icu ?_)))
            simp only [Icu.PENDING]; omega

/-! ### Counting -/

/-- The keys of the registers that counting may change: those of `irqKey`, and OVF. -/
def countKey (k : Nat) : Bool := irqKey k || (decide (0x1E0 ≤ k / 0x1000) && decide (k / 0x1000 < 0x1F0))

/-- Nothing but counters, interrupts, Doze and the registers of `countKey` differs. -/
structure State.SameButCount (s t : State) : Prop where
  rest : t.rest = s.rest
  regs : ∀ k, countKey k = false → t.at k = s.at k

theorem State.SameButIrq.count {s t : State} (h : s.SameButIrq t) : s.SameButCount t :=
  ⟨h.rest, fun k hk => h.regs k (by simp only [countKey, Bool.or_eq_false_iff] at hk; exact hk.1)⟩

theorem State.SameButCount.trans {a b c : State} (h : a.SameButCount b) (g : b.SameButCount c) : a.SameButCount c :=
  ⟨g.rest.trans h.rest, fun k hk => (g.regs k hk).trans (h.regs k hk)⟩

theorem countKey_pmc {o : Nat} (h : o < 0x4000) : countKey (regKey pgPMC o) = true := by
  have h1 : 0x1E0 ≤ regKey pgPMC o / 0x1000 := by simp only [regKey, pgPMC]; omega
  have h2 : regKey pgPMC o / 0x1000 < 0x1F0 := by simp only [regKey, pgPMC]; omega
  simp [countKey, h1, h2]

theorem counterUsed_lt {n : Nat} (h : counterUsed n = true) : n < 1481 := by
  simp only [counterUsed, Bool.or_eq_true, decide_eq_true_eq] at h; omega

/-- What counting can change. -/
theorem State.count_same (s : State) (n k : Nat) : s.SameButCount (s.count n k) := by
  unfold State.count
  split
  · exact (State.SameButIrq.refl s).count
  · next hn =>
    have hn' : n < 1481 := counterUsed_lt (by simpa using hn)
    dsimp only
    have h1 : s.SameButCount { s with pmc := { s.pmc with cnt := Tab.set (fun _ => 0) s.pmc.cnt n ((s.cnt n + k) % 2 ^ 48) } } :=
      ⟨State.rest_pmc _ _, fun _ _ => rfl⟩
    split
    · exact h1
    · refine h1.trans ?_
      unfold State.counterWrapped
      dsimp only
      have h2 : ∀ (a : State) x, a.SameButCount (State.setFlag { a with pmc := x } pgPMC (Pmc.OVF (n / 32)) (n % 32) true) := by
        intro a x
        refine ⟨(State.rest_setReg _ _ _ _).trans (State.rest_pmc _ _), fun key hkey => ?_⟩
        refine (State.at_setReg_ne _ _ ?_).trans rfl
        rintro rfl
        rw [countKey_pmc (by simp only [Pmc.OVF]; omega)] at hkey
        cases hkey
      split
      · exact (h2 _ _).trans (State.irq_same _ _).count
      · exact h2 _ _

theorem State.counted_same (s : State) : s.SameButCount s.counted := State.count_same s _ _

/-! ### The fields that raising an interrupt and counting leave -/

theorem State.SameButCount.pending {s t : State} (h : s.SameButCount t) : t.pending = s.pending := by
  have h1 := congrArg State.pending h.rest
  simpa only [State.rest] using h1

theorem State.SameButCount.armed {s t : State} (h : s.SameButCount t) : t.armed = s.armed := by
  have h1 := congrArg State.armed h.rest
  simpa only [State.rest] using h1

theorem State.SameButCount.mem {s t : State} (h : s.SameButCount t) : t.mem = s.mem := by
  have h1 := congrArg State.mem h.rest
  simpa only [State.rest] using h1

theorem State.SameButCount.prog {s t : State} (h : s.SameButCount t) : t.prog = s.prog := by
  have h1 := congrArg State.prog h.rest
  simpa only [State.rest] using h1

theorem State.SameButCount.queues {s t : State} (h : s.SameButCount t) : t.queues = s.queues := by
  have h1 := congrArg State.queues h.rest
  simpa only [State.rest] using h1

theorem State.SameButCount.dev {s t : State} (h : s.SameButCount t) : t.dev = s.dev := by
  have h1 := congrArg State.dev h.rest
  simpa only [State.rest] using h1

theorem State.SameButCount.tln {s t : State} (h : s.SameButCount t) : t.tln = s.tln := by
  have h1 := congrArg State.tln h.rest
  simpa only [State.rest] using h1

theorem State.SameButCount.syn {s t : State} (h : s.SameButCount t) : t.syn = s.syn := by
  have h1 := congrArg State.syn h.rest
  simpa only [State.rest] using h1

theorem State.SameButCount.evr {s t : State} (h : s.SameButCount t) : t.evr = s.evr := by
  have h1 := congrArg State.evr h.rest
  simpa only [State.rest] using h1

theorem State.SameButCount.out {s t : State} (h : s.SameButCount t) : t.out = s.out := by
  have h1 := congrArg State.out h.rest
  simpa only [State.rest] using h1

theorem State.SameButCount.swt {s t : State} (h : s.SameButCount t) : t.swt = s.swt := by
  have h1 := congrArg State.swt h.rest
  simpa only [State.rest] using h1

theorem State.SameButCount.launch {s t : State} (h : s.SameButCount t) : t.launch = s.launch := by
  have h1 := congrArg State.launch h.rest
  simpa only [State.rest] using h1

theorem State.SameButCount.snaps {s t : State} (h : s.SameButCount t) : t.snaps = s.snaps := by
  have h1 := congrArg State.snaps h.rest
  simpa only [State.rest] using h1

theorem State.SameButCount.progStage {s t : State} (h : s.SameButCount t) : t.progStage = s.progStage := by
  have h1 := congrArg State.progStage h.rest
  simpa only [State.rest] using h1

theorem State.SameButCount.plu {s t : State} (h : s.SameButCount t) : t.plu = s.plu := by
  have h1 := congrArg State.plu h.rest
  simpa only [State.rest] using h1

theorem State.SameButCount.region {s t : State} (h : s.SameButCount t) : t.region = s.region := by
  have h1 := congrArg State.region h.rest
  simpa only [State.rest] using h1

theorem State.SameButCount.port {s t : State} (h : s.SameButCount t) : t.port = s.port := by
  have h1 := congrArg State.port h.rest
  simpa only [State.rest] using h1

theorem State.SameButCount.cluster {s t : State} (h : s.SameButCount t) : t.cluster = s.cluster := by
  have h1 := congrArg State.cluster h.rest
  simpa only [State.rest] using h1

theorem State.SameButCount.lamp {s t : State} (h : s.SameButCount t) : t.lamp = s.lamp := by
  have h1 := congrArg State.lamp h.rest
  simpa only [State.rest] using h1

theorem State.SameButCount.field {s t : State} (h : s.SameButCount t) : t.field = s.field := by
  have h1 := congrArg State.field h.rest
  simpa only [State.rest] using h1

theorem State.SameButCount.red {s t : State} (h : s.SameButCount t) : t.red = s.red := by
  have h1 := congrArg State.red h.rest
  simpa only [State.rest] using h1

theorem State.SameButCount.merge {s t : State} (h : s.SameButCount t) : t.merge = s.merge := by
  have h1 := congrArg State.merge h.rest
  simpa only [State.rest] using h1

theorem State.SameButCount.mac {s t : State} (h : s.SameButCount t) : t.mac = s.mac := by
  have h1 := congrArg State.mac h.rest
  simpa only [State.rest] using h1

theorem State.SameButCount.bridge {s t : State} (h : s.SameButCount t) : t.bridge = s.bridge := by
  have h1 := congrArg State.bridge h.rest
  simpa only [State.rest] using h1

theorem State.SameButCount.ntm {s t : State} (h : s.SameButCount t) : t.ntm = s.ntm := by
  have h1 := congrArg State.ntm h.rest
  simpa only [State.rest] using h1

theorem State.SameButCount.ing {s t : State} (h : s.SameButCount t) : t.ing = s.ing := by
  have h1 := congrArg State.ing h.rest
  simpa only [State.rest] using h1

theorem State.SameButCount.str {s t : State} (h : s.SameButCount t) : t.str = s.str := by
  have h1 := congrArg State.str h.rest
  simpa only [State.rest] using h1

theorem State.SameButCount.pwr {s t : State} (h : s.SameButCount t) : t.pwr = s.pwr := by
  have h1 := congrArg State.pwr h.rest
  simpa only [State.rest] using h1

theorem State.SameButCount.hth {s t : State} (h : s.SameButCount t) : t.hth = s.hth := by
  have h1 := congrArg State.hth h.rest
  simpa only [State.rest] using h1

theorem State.SameButCount.boot {s t : State} (h : s.SameButCount t) : t.boot = s.boot := by
  have h1 := congrArg State.boot h.rest
  simpa only [State.rest] using h1

theorem State.SameButCount.thm {s t : State} (h : s.SameButCount t) : t.thm = s.thm := by
  have h1 := congrArg State.thm h.rest
  simpa only [State.rest] using h1

theorem State.SameButCount.cal {s t : State} (h : s.SameButCount t) : t.cal = s.cal := by
  have h1 := congrArg State.cal h.rest
  simpa only [State.rest] using h1

theorem State.SameButCount.fwu {s t : State} (h : s.SameButCount t) : t.fwu = s.fwu := by
  have h1 := congrArg State.fwu h.rest
  simpa only [State.rest] using h1

theorem State.SameButCount.jtag {s t : State} (h : s.SameButCount t) : t.jtag = s.jtag := by
  have h1 := congrArg State.jtag h.rest
  simpa only [State.rest] using h1

theorem State.SameButCount.reg {s t : State} (h : s.SameButCount t) {p o : Nat} (hk : countKey (regKey p o) = false) :
    t.reg p o = s.reg p o := h.regs _ hk

theorem State.SameButIrq.reg {s t : State} (h : s.SameButIrq t) {p o : Nat} (hk : irqKey (regKey p o) = false) :
    t.reg p o = s.reg p o := h.regs _ hk

/-! ### Accesses -/

theorem State.access_eq {s : State} (h : s.aclkRuns = true) (f : State → State) : s.access f = f s.counted := by
  simp [State.access, State.counted, h]

/-- A request that reaches its block acts on the counted state. -/
theorem State.gate_eq {s : State} {page : Nat} (h : s.reaches page = true) (f : State → State) : s.gate page f = f s.counted := by
  simp only [State.reaches, Bool.and_eq_true, Bool.not_eq_true'] at h
  simp [State.gate, State.access_eq h.1, h.2]

theorem State.counted_tln (s : State) : s.counted.tln = s.tln := s.counted_same.tln

/-- An accepted write acts on the state in which the partner has been told. -/
theorem State.busWrite_eq {s : State} {r : Requester} {page off : Nat} {i : PageInfo} (h : s.accepts r page off = true)
    (hi : pageInfo page = some i) (v : Word) :
    s.busWrite r page off v = (s.told r page off v).regWrite r s.tln.now i page off v := by
  simp only [State.accepts, hi, Bool.and_eq_true, Bool.not_eq_true', beq_iff_eq] at h
  obtain ⟨h1, h2, h3⟩ := h
  unfold State.busWrite
  rw [State.access_eq h1]
  unfold State.pageWrite
  rw [hi]
  dsimp only
  rw [h2, h3, State.counted_tln]
  rfl

end Sys2Proof.Machine
end

