-- ==== Sys2Proof/Laws/Keeps.lean ====
section
/-!
SUPPORT. What every operation keeps: the queue of commands as it is, and memory, registers and program memory in their
canonical forms. One lemma for each operation stands in the files Laws/Keeps….
-/
set_option Elab.async false
namespace Sys2Proof.Machine

/-- What is to be kept: the queue, and the parts of a state `base` whose bits in `mask` are set, numbered in the order of
State's fields; and, where `canonical` is set, the canonical forms of memory, registers and program memory. -/
structure Keep where
  queue : List Instr
  base : State
  mask : Nat
  canonical : Bool

/-- No part of the mask `m` is to be kept. -/
structure Keep.Off (q : Keep) (m : Nat) : Prop where
  zero : q.mask &&& m = 0

theorem Keep.sub {q : Keep} {m n : Nat} (h : q.Off n) (hs : n &&& m = m) : q.Off m := by
  constructor
  rw [← hs, ← Nat.and_assoc, h.zero, Nat.zero_and]

theorem Keep.bit {q : Keep} {n i : Nat} (h : q.Off n) (hs : n.testBit i = true) : q.mask.testBit i = false := by
  have h1 := congrArg (fun x => x.testBit i) h.zero
  simpa [hs] using h1

/-- The queue is that of `q` and so are the parts to be kept; memory, registers and program memory are in canonical
form where that is to be kept. -/
structure State.Keeps (q : Keep) (s : State) : Prop where
  queue : s.pending = q.queue
  mem : q.canonical = true → Tab.wf memDefault s.mem = true
  live : q.canonical = true → Tab.wf resetVal s.live = true
  prog : q.canonical = true → Tab.wf (fun _ => (0 : BitVec 64)) s.prog = true
  liveIs : q.mask.testBit 1 = true → s.live = q.base.live
  shadowIs : q.mask.testBit 2 = true → s.shadow = q.base.shadow
  armedIs : q.mask.testBit 3 = true → s.armed = q.base.armed
  memIs : q.mask.testBit 4 = true → s.mem = q.base.mem
  progIs : q.mask.testBit 5 = true → s.prog = q.base.prog
  queuesIs : q.mask.testBit 6 = true → s.queues = q.base.queues
  devIs : q.mask.testBit 7 = true → s.dev = q.base.dev
  icuIs : q.mask.testBit 8 = true → s.icu = q.base.icu
  tlnIs : q.mask.testBit 9 = true → s.tln = q.base.tln
  synIs : q.mask.testBit 10 = true → s.syn = q.base.syn
  evrIs : q.mask.testBit 11 = true → s.evr = q.base.evr
  pmcIs : q.mask.testBit 12 = true → s.pmc = q.base.pmc
  outIs : q.mask.testBit 13 = true → s.out = q.base.out
  swtIs : q.mask.testBit 14 = true → s.swt = q.base.swt
  launchIs : q.mask.testBit 15 = true → s.launch = q.base.launch
  snapsIs : q.mask.testBit 16 = true → s.snaps = q.base.snaps
  progStageIs : q.mask.testBit 17 = true → s.progStage = q.base.progStage
  pluIs : q.mask.testBit 18 = true → s.plu = q.base.plu
  regionIs : q.mask.testBit 19 = true → s.region = q.base.region
  portIs : q.mask.testBit 20 = true → s.port = q.base.port
  dmxIs : q.mask.testBit 21 = true → s.dmx = q.base.dmx
  clusterIs : q.mask.testBit 22 = true → s.cluster = q.base.cluster
  lampIs : q.mask.testBit 23 = true → s.lamp = q.base.lamp
  fieldIs : q.mask.testBit 24 = true → s.field = q.base.field
  redIs : q.mask.testBit 25 = true → s.red = q.base.red
  mergeIs : q.mask.testBit 26 = true → s.merge = q.base.merge
  macIs : q.mask.testBit 27 = true → s.mac = q.base.mac
  bridgeIs : q.mask.testBit 28 = true → s.bridge = q.base.bridge
  ntmIs : q.mask.testBit 29 = true → s.ntm = q.base.ntm
  ingIs : q.mask.testBit 30 = true → s.ing = q.base.ing
  strIs : q.mask.testBit 31 = true → s.str = q.base.str
  pwrIs : q.mask.testBit 32 = true → s.pwr = q.base.pwr
  hthIs : q.mask.testBit 33 = true → s.hth = q.base.hth
  bootIs : q.mask.testBit 34 = true → s.boot = q.base.boot
  thmIs : q.mask.testBit 35 = true → s.thm = q.base.thm
  calIs : q.mask.testBit 36 = true → s.cal = q.base.cal
  fwuIs : q.mask.testBit 37 = true → s.fwu = q.base.fwu
  jtagIs : q.mask.testBit 38 = true → s.jtag = q.base.jtag

/-- One part after an operation that leaves it or need not. -/
theorem Keep.part {α : Type} {q : Keep} {i : Nat} {x y z : α} (h : q.mask.testBit i = true → y = z)
    (hx : q.mask.testBit i = false ∨ x = y) : q.mask.testBit i = true → x = z := by
  intro hb
  rcases hx with hx | rfl
  · simp [hb] at hx
  · exact h hb

/-- An update of parts that hold no canonical form. -/
theorem State.Keeps.upd {q : Keep} {s : State} {x0 x1 x2 x3 x4 x5 x6 x7 x8 x9 x10 x11 x12 x13 x14 x15 x16 x17 x18 x19 x20 x21 x22 x23 x24 x25 x26 x27 x28 x29 x30 x31 x32 x33 x34 x35 x36 x37 x38} (h : s.Keeps q)
    (s0 : x0 = s.pending)
    (s1 : x1 = s.live)
    (s4 : x4 = s.mem)
    (s5 : x5 = s.prog)
    (h1 : q.mask.testBit 1 = false ∨ x1 = s.live := by first | (have h := ‹Keep.Off q _›; exact .inl (Keep.bit h (by decide))) | (with_reducible exact .inr rfl))
    (h2 : q.mask.testBit 2 = false ∨ x2 = s.shadow := by first | (have h := ‹Keep.Off q _›; exact .inl (Keep.bit h (by decide))) | (with_reducible exact .inr rfl))
    (h3 : q.mask.testBit 3 = false ∨ x3 = s.armed := by first | (have h := ‹Keep.Off q _›; exact .inl (Keep.bit h (by decide))) | (with_reducible exact .inr rfl))
    (h4 : q.mask.testBit 4 = false ∨ x4 = s.mem := by first | (have h := ‹Keep.Off q _›; exact .inl (Keep.bit h (by decide))) | (with_reducible exact .inr rfl))
    (h5 : q.mask.testBit 5 = false ∨ x5 = s.prog := by first | (have h := ‹Keep.Off q _›; exact .inl (Keep.bit h (by decide))) | (with_reducible exact .inr rfl))
    (h6 : q.mask.testBit 6 = false ∨ x6 = s.queues := by first | (have h := ‹Keep.Off q _›; exact .inl (Keep.bit h (by decide))) | (with_reducible exact .inr rfl))
    (h7 : q.mask.testBit 7 = false ∨ x7 = s.dev := by first | (have h := ‹Keep.Off q _›; exact .inl (Keep.bit h (by decide))) | (with_reducible exact .inr rfl))
    (h8 : q.mask.testBit 8 = false ∨ x8 = s.icu := by first | (have h := ‹Keep.Off q _›; exact .inl (Keep.bit h (by decide))) | (with_reducible exact .inr rfl))
    (h9 : q.mask.testBit 9 = false ∨ x9 = s.tln := by first | (have h := ‹Keep.Off q _›; exact .inl (Keep.bit h (by decide))) | (with_reducible exact .inr rfl))
    (h10 : q.mask.testBit 10 = false ∨ x10 = s.syn := by first | (have h := ‹Keep.Off q _›; exact .inl (Keep.bit h (by decide))) | (with_reducible exact .inr rfl))
    (h11 : q.mask.testBit 11 = false ∨ x11 = s.evr := by first | (have h := ‹Keep.Off q _›; exact .inl (Keep.bit h (by decide))) | (with_reducible exact .inr rfl))
    (h12 : q.mask.testBit 12 = false ∨ x12 = s.pmc := by first | (have h := ‹Keep.Off q _›; exact .inl (Keep.bit h (by decide))) | (with_reducible exact .inr rfl))
    (h13 : q.mask.testBit 13 = false ∨ x13 = s.out := by first | (have h := ‹Keep.Off q _›; exact .inl (Keep.bit h (by decide))) | (with_reducible exact .inr rfl))
    (h14 : q.mask.testBit 14 = false ∨ x14 = s.swt := by first | (have h := ‹Keep.Off q _›; exact .inl (Keep.bit h (by decide))) | (with_reducible exact .inr rfl))
    (h15 : q.mask.testBit 15 = false ∨ x15 = s.launch := by first | (have h := ‹Keep.Off q _›; exact .inl (Keep.bit h (by decide))) | (with_reducible exact .inr rfl))
    (h16 : q.mask.testBit 16 = false ∨ x16 = s.snaps := by first | (have h := ‹Keep.Off q _›; exact .inl (Keep.bit h (by decide))) | (with_reducible exact .inr rfl))
    (h17 : q.mask.testBit 17 = false ∨ x17 = s.progStage := by first | (have h := ‹Keep.Off q _›; exact .inl (Keep.bit h (by decide))) | (with_reducible exact .inr rfl))
    (h18 : q.mask.testBit 18 = false ∨ x18 = s.plu := by first | (have h := ‹Keep.Off q _›; exact .inl (Keep.bit h (by decide))) | (with_reducible exact .inr rfl))
    (h19 : q.mask.testBit 19 = false ∨ x19 = s.region := by first | (have h := ‹Keep.Off q _›; exact .inl (Keep.bit h (by decide))) | (with_reducible exact .inr rfl))
    (h20 : q.mask.testBit 20 = false ∨ x20 = s.port := by first | (have h := ‹Keep.Off q _›; exact .inl (Keep.bit h (by decide))) | (with_reducible exact .inr rfl))
    (h21 : q.mask.testBit 21 = false ∨ x21 = s.dmx := by first | (have h := ‹Keep.Off q _›; exact .inl (Keep.bit h (by decide))) | (with_reducible exact .inr rfl))
    (h22 : q.mask.testBit 22 = false ∨ x22 = s.cluster := by first | (have h := ‹Keep.Off q _›; exact .inl (Keep.bit h (by decide))) | (with_reducible exact .inr rfl))
    (h23 : q.mask.testBit 23 = false ∨ x23 = s.lamp := by first | (have h := ‹Keep.Off q _›; exact .inl (Keep.bit h (by decide))) | (with_reducible exact .inr rfl))
    (h24 : q.mask.testBit 24 = false ∨ x24 = s.field := by first | (have h := ‹Keep.Off q _›; exact .inl (Keep.bit h (by decide))) | (with_reducible exact .inr rfl))
    (h25 : q.mask.testBit 25 = false ∨ x25 = s.red := by first | (have h := ‹Keep.Off q _›; exact .inl (Keep.bit h (by decide))) | (with_reducible exact .inr rfl))
    (h26 : q.mask.testBit 26 = false ∨ x26 = s.merge := by first | (have h := ‹Keep.Off q _›; exact .inl (Keep.bit h (by decide))) | (with_reducible exact .inr rfl))
    (h27 : q.mask.testBit 27 = false ∨ x27 = s.mac := by first | (have h := ‹Keep.Off q _›; exact .inl (Keep.bit h (by decide))) | (with_reducible exact .inr rfl))
    (h28 : q.mask.testBit 28 = false ∨ x28 = s.bridge := by first | (have h := ‹Keep.Off q _›; exact .inl (Keep.bit h (by decide))) | (with_reducible exact .inr rfl))
    (h29 : q.mask.testBit 29 = false ∨ x29 = s.ntm := by first | (have h := ‹Keep.Off q _›; exact .inl (Keep.bit h (by decide))) | (with_reducible exact .inr rfl))
    (h30 : q.mask.testBit 30 = false ∨ x30 = s.ing := by first | (have h := ‹Keep.Off q _›; exact .inl (Keep.bit h (by decide))) | (with_reducible exact .inr rfl))
    (h31 : q.mask.testBit 31 = false ∨ x31 = s.str := by first | (have h := ‹Keep.Off q _›; exact .inl (Keep.bit h (by decide))) | (with_reducible exact .inr rfl))
    (h32 : q.mask.testBit 32 = false ∨ x32 = s.pwr := by first | (have h := ‹Keep.Off q _›; exact .inl (Keep.bit h (by decide))) | (with_reducible exact .inr rfl))
    (h33 : q.mask.testBit 33 = false ∨ x33 = s.hth := by first | (have h := ‹Keep.Off q _›; exact .inl (Keep.bit h (by decide))) | (with_reducible exact .inr rfl))
    (h34 : q.mask.testBit 34 = false ∨ x34 = s.boot := by first | (have h := ‹Keep.Off q _›; exact .inl (Keep.bit h (by decide))) | (with_reducible exact .inr rfl))
    (h35 : q.mask.testBit 35 = false ∨ x35 = s.thm := by first | (have h := ‹Keep.Off q _›; exact .inl (Keep.bit h (by decide))) | (with_reducible exact .inr rfl))
    (h36 : q.mask.testBit 36 = false ∨ x36 = s.cal := by first | (have h := ‹Keep.Off q _›; exact .inl (Keep.bit h (by decide))) | (with_reducible exact .inr rfl))
    (h37 : q.mask.testBit 37 = false ∨ x37 = s.fwu := by first | (have h := ‹Keep.Off q _›; exact .inl (Keep.bit h (by decide))) | (with_reducible exact .inr rfl))
    (h38 : q.mask.testBit 38 = false ∨ x38 = s.jtag := by first | (have h := ‹Keep.Off q _›; exact .inl (Keep.bit h (by decide))) | (with_reducible exact .inr rfl))
    : State.Keeps q (State.mk x0 x1 x2 x3 x4 x5 x6 x7 x8 x9 x10 x11 x12 x13 x14 x15 x16 x17 x18 x19 x20 x21 x22 x23 x24 x25 x26 x27 x28 x29 x30 x31 x32 x33 x34 x35 x36 x37 x38) :=
  ⟨s0.trans h.queue, s4 ▸ h.mem, s1 ▸ h.live, s5 ▸ h.prog, Keep.part h.liveIs h1, Keep.part h.shadowIs h2, Keep.part h.armedIs h3, Keep.part h.memIs h4, Keep.part h.progIs h5, Keep.part h.queuesIs h6, Keep.part h.devIs h7, Keep.part h.icuIs h8, Keep.part h.tlnIs h9, Keep.part h.synIs h10, Keep.part h.evrIs h11, Keep.part h.pmcIs h12, Keep.part h.outIs h13, Keep.part h.swtIs h14, Keep.part h.launchIs h15, Keep.part h.snapsIs h16, Keep.part h.progStageIs h17, Keep.part h.pluIs h18, Keep.part h.regionIs h19, Keep.part h.portIs h20, Keep.part h.dmxIs h21, Keep.part h.clusterIs h22, Keep.part h.lampIs h23, Keep.part h.fieldIs h24, Keep.part h.redIs h25, Keep.part h.mergeIs h26, Keep.part h.macIs h27, Keep.part h.bridgeIs h28, Keep.part h.ntmIs h29, Keep.part h.ingIs h30, Keep.part h.strIs h31, Keep.part h.pwrIs h32, Keep.part h.hthIs h33, Keep.part h.bootIs h34, Keep.part h.thmIs h35, Keep.part h.calIs h36, Keep.part h.fwuIs h37, Keep.part h.jtagIs h38⟩

/-- An update of any parts, their canonical forms given. -/
theorem State.Keeps.updAll {q : Keep} {s : State} {x0 x1 x2 x3 x4 x5 x6 x7 x8 x9 x10 x11 x12 x13 x14 x15 x16 x17 x18 x19 x20 x21 x22 x23 x24 x25 x26 x27 x28 x29 x30 x31 x32 x33 x34 x35 x36 x37 x38} (h : s.Keeps q)
    (s0 : x0 = s.pending)
    (s1 : q.canonical = true → Tab.wf resetVal x1 = true)
    (s4 : q.canonical = true → Tab.wf memDefault x4 = true)
    (s5 : q.canonical = true → Tab.wf (fun _ => (0 : BitVec 64)) x5 = true)
    (h1 : q.mask.testBit 1 = false ∨ x1 = s.live := by first | (have h := ‹Keep.Off q _›; exact .inl (Keep.bit h (by decide))) | (with_reducible exact .inr rfl))
    (h2 : q.mask.testBit 2 = false ∨ x2 = s.shadow := by first | (have h := ‹Keep.Off q _›; exact .inl (Keep.bit h (by decide))) | (with_reducible exact .inr rfl))
    (h3 : q.mask.testBit 3 = false ∨ x3 = s.armed := by first | (have h := ‹Keep.Off q _›; exact .inl (Keep.bit h (by decide))) | (with_reducible exact .inr rfl))
    (h4 : q.mask.testBit 4 = false ∨ x4 = s.mem := by first | (have h := ‹Keep.Off q _›; exact .inl (Keep.bit h (by decide))) | (with_reducible exact .inr rfl))
    (h5 : q.mask.testBit 5 = false ∨ x5 = s.prog := by first | (have h := ‹Keep.Off q _›; exact .inl (Keep.bit h (by decide))) | (with_reducible exact .inr rfl))
    (h6 : q.mask.testBit 6 = false ∨ x6 = s.queues := by first | (have h := ‹Keep.Off q _›; exact .inl (Keep.bit h (by decide))) | (with_reducible exact .inr rfl))
    (h7 : q.mask.testBit 7 = false ∨ x7 = s.dev := by first | (have h := ‹Keep.Off q _›; exact .inl (Keep.bit h (by decide))) | (with_reducible exact .inr rfl))
    (h8 : q.mask.testBit 8 = false ∨ x8 = s.icu := by first | (have h := ‹Keep.Off q _›; exact .inl (Keep.bit h (by decide))) | (with_reducible exact .inr rfl))
    (h9 : q.mask.testBit 9 = false ∨ x9 = s.tln := by first | (have h := ‹Keep.Off q _›; exact .inl (Keep.bit h (by decide))) | (with_reducible exact .inr rfl))
    (h10 : q.mask.testBit 10 = false ∨ x10 = s.syn := by first | (have h := ‹Keep.Off q _›; exact .inl (Keep.bit h (by decide))) | (with_reducible exact .inr rfl))
    (h11 : q.mask.testBit 11 = false ∨ x11 = s.evr := by first | (have h := ‹Keep.Off q _›; exact .inl (Keep.bit h (by decide))) | (with_reducible exact .inr rfl))
    (h12 : q.mask.testBit 12 = false ∨ x12 = s.pmc := by first | (have h := ‹Keep.Off q _›; exact .inl (Keep.bit h (by decide))) | (with_reducible exact .inr rfl))
    (h13 : q.mask.testBit 13 = false ∨ x13 = s.out := by first | (have h := ‹Keep.Off q _›; exact .inl (Keep.bit h (by decide))) | (with_reducible exact .inr rfl))
    (h14 : q.mask.testBit 14 = false ∨ x14 = s.swt := by first | (have h := ‹Keep.Off q _›; exact .inl (Keep.bit h (by decide))) | (with_reducible exact .inr rfl))
    (h15 : q.mask.testBit 15 = false ∨ x15 = s.launch := by first | (have h := ‹Keep.Off q _›; exact .inl (Keep.bit h (by decide))) | (with_reducible exact .inr rfl))
    (h16 : q.mask.testBit 16 = false ∨ x16 = s.snaps := by first | (have h := ‹Keep.Off q _›; exact .inl (Keep.bit h (by decide))) | (with_reducible exact .inr rfl))
    (h17 : q.mask.testBit 17 = false ∨ x17 = s.progStage := by first | (have h := ‹Keep.Off q _›; exact .inl (Keep.bit h (by decide))) | (with_reducible exact .inr rfl))
    (h18 : q.mask.testBit 18 = false ∨ x18 = s.plu := by first | (have h := ‹Keep.Off q _›; exact .inl (Keep.bit h (by decide))) | (with_reducible exact .inr rfl))
    (h19 : q.mask.testBit 19 = false ∨ x19 = s.region := by first | (have h := ‹Keep.Off q _›; exact .inl (Keep.bit h (by decide))) | (with_reducible exact .inr rfl))
    (h20 : q.mask.testBit 20 = false ∨ x20 = s.port := by first | (have h := ‹Keep.Off q _›; exact .inl (Keep.bit h (by decide))) | (with_reducible exact .inr rfl))
    (h21 : q.mask.testBit 21 = false ∨ x21 = s.dmx := by first | (have h := ‹Keep.Off q _›; exact .inl (Keep.bit h (by decide))) | (with_reducible exact .inr rfl))
    (h22 : q.mask.testBit 22 = false ∨ x22 = s.cluster := by first | (have h := ‹Keep.Off q _›; exact .inl (Keep.bit h (by decide))) | (with_reducible exact .inr rfl))
    (h23 : q.mask.testBit 23 = false ∨ x23 = s.lamp := by first | (have h := ‹Keep.Off q _›; exact .inl (Keep.bit h (by decide))) | (with_reducible exact .inr rfl))
    (h24 : q.mask.testBit 24 = false ∨ x24 = s.field := by first | (have h := ‹Keep.Off q _›; exact .inl (Keep.bit h (by decide))) | (with_reducible exact .inr rfl))
    (h25 : q.mask.testBit 25 = false ∨ x25 = s.red := by first | (have h := ‹Keep.Off q _›; exact .inl (Keep.bit h (by decide))) | (with_reducible exact .inr rfl))
    (h26 : q.mask.testBit 26 = false ∨ x26 = s.merge := by first | (have h := ‹Keep.Off q _›; exact .inl (Keep.bit h (by decide))) | (with_reducible exact .inr rfl))
    (h27 : q.mask.testBit 27 = false ∨ x27 = s.mac := by first | (have h := ‹Keep.Off q _›; exact .inl (Keep.bit h (by decide))) | (with_reducible exact .inr rfl))
    (h28 : q.mask.testBit 28 = false ∨ x28 = s.bridge := by first | (have h := ‹Keep.Off q _›; exact .inl (Keep.bit h (by decide))) | (with_reducible exact .inr rfl))
    (h29 : q.mask.testBit 29 = false ∨ x29 = s.ntm := by first | (have h := ‹Keep.Off q _›; exact .inl (Keep.bit h (by decide))) | (with_reducible exact .inr rfl))
    (h30 : q.mask.testBit 30 = false ∨ x30 = s.ing := by first | (have h := ‹Keep.Off q _›; exact .inl (Keep.bit h (by decide))) | (with_reducible exact .inr rfl))
    (h31 : q.mask.testBit 31 = false ∨ x31 = s.str := by first | (have h := ‹Keep.Off q _›; exact .inl (Keep.bit h (by decide))) | (with_reducible exact .inr rfl))
    (h32 : q.mask.testBit 32 = false ∨ x32 = s.pwr := by first | (have h := ‹Keep.Off q _›; exact .inl (Keep.bit h (by decide))) | (with_reducible exact .inr rfl))
    (h33 : q.mask.testBit 33 = false ∨ x33 = s.hth := by first | (have h := ‹Keep.Off q _›; exact .inl (Keep.bit h (by decide))) | (with_reducible exact .inr rfl))
    (h34 : q.mask.testBit 34 = false ∨ x34 = s.boot := by first | (have h := ‹Keep.Off q _›; exact .inl (Keep.bit h (by decide))) | (with_reducible exact .inr rfl))
    (h35 : q.mask.testBit 35 = false ∨ x35 = s.thm := by first | (have h := ‹Keep.Off q _›; exact .inl (Keep.bit h (by decide))) | (with_reducible exact .inr rfl))
    (h36 : q.mask.testBit 36 = false ∨ x36 = s.cal := by first | (have h := ‹Keep.Off q _›; exact .inl (Keep.bit h (by decide))) | (with_reducible exact .inr rfl))
    (h37 : q.mask.testBit 37 = false ∨ x37 = s.fwu := by first | (have h := ‹Keep.Off q _›; exact .inl (Keep.bit h (by decide))) | (with_reducible exact .inr rfl))
    (h38 : q.mask.testBit 38 = false ∨ x38 = s.jtag := by first | (have h := ‹Keep.Off q _›; exact .inl (Keep.bit h (by decide))) | (with_reducible exact .inr rfl))
    : State.Keeps q (State.mk x0 x1 x2 x3 x4 x5 x6 x7 x8 x9 x10 x11 x12 x13 x14 x15 x16 x17 x18 x19 x20 x21 x22 x23 x24 x25 x26 x27 x28 x29 x30 x31 x32 x33 x34 x35 x36 x37 x38) :=
  ⟨s0.trans h.queue, s4, s1, s5, Keep.part h.liveIs h1, Keep.part h.shadowIs h2, Keep.part h.armedIs h3, Keep.part h.memIs h4, Keep.part h.progIs h5, Keep.part h.queuesIs h6, Keep.part h.devIs h7, Keep.part h.icuIs h8, Keep.part h.tlnIs h9, Keep.part h.synIs h10, Keep.part h.evrIs h11, Keep.part h.pmcIs h12, Keep.part h.outIs h13, Keep.part h.swtIs h14, Keep.part h.launchIs h15, Keep.part h.snapsIs h16, Keep.part h.progStageIs h17, Keep.part h.pluIs h18, Keep.part h.regionIs h19, Keep.part h.portIs h20, Keep.part h.dmxIs h21, Keep.part h.clusterIs h22, Keep.part h.lampIs h23, Keep.part h.fieldIs h24, Keep.part h.redIs h25, Keep.part h.mergeIs h26, Keep.part h.macIs h27, Keep.part h.bridgeIs h28, Keep.part h.ntmIs h29, Keep.part h.ingIs h30, Keep.part h.strIs h31, Keep.part h.pwrIs h32, Keep.part h.hthIs h33, Keep.part h.bootIs h34, Keep.part h.thmIs h35, Keep.part h.calIs h36, Keep.part h.fwuIs h37, Keep.part h.jtagIs h38⟩

/-- The same of the outcome of a command: whatever next state it has. -/
structure Kept (q : Keep) (o : Host.Outcome State Fault Refusal) : Prop where
  next : ∀ t, o = .next t → t.Keeps q

theorem done_keeps {q : Keep} {s : State} (h : s.Keeps q) : Kept q (done s) := by
  constructor
  intro t ht
  cases ht
  exact h

/-- The same of an operation that may not apply. -/
structure KeptOpt (q : Keep) (o : Option State) : Prop where
  some : ∀ t, o = some t → t.Keeps q

theorem KeptOpt.of_some {q : Keep} {s : State} (h : s.Keeps q) : KeptOpt q (Option.some s) := by
  constructor
  intro t ht
  cases ht
  exact h

theorem KeptOpt.of_none {q : Keep} : KeptOpt q none := by
  constructor
  intro t ht
  cases ht

theorem KeptOpt.ite {q : Keep} {c : Prop} {dec : Decidable c} {a b : Option State} (ha : KeptOpt q a) (hb : KeptOpt q b) :
    KeptOpt q (if c then a else b) := by split <;> assumption

theorem KeptOpt.getD {q : Keep} {o : Option State} {s : State} (ho : KeptOpt q o) (h : s.Keeps q) :
    State.Keeps q (o.getD s) := by
  cases ho' : o with
  | none => exact h
  | some t => exact ho.some t ho'

/-- Registers that `p` does not keep return to their reset values. -/
theorem State.Keeps.keepLive {q : Keep} {s : State} (p : Nat → Bool) (h : s.Keeps q) (hq : q.Off 0x2 := by have h := ‹Keep.Off q _›; exact Keep.sub h (by decide)) :
    State.Keeps q { s with live := Tab.keep p s.live } :=
  State.Keeps.updAll h rfl (fun hc => Tab.wf_keep resetVal p (h.live hc)) h.mem h.prog

theorem State.Keeps.setLive {q : Keep} {s : State} {live shadow : Tab Word} (h : s.Keeps q)
    (hl : q.canonical = true → Tab.wf resetVal live = true) (hq : q.Off 0x6 := by have h := ‹Keep.Off q _›; exact Keep.sub h (by decide)) :
    State.Keeps q { s with live := live, shadow := shadow } :=
  State.Keeps.updAll h rfl hl h.mem h.prog

theorem State.Keeps.ite {q : Keep} {c : Prop} {dec : Decidable c} {a b : State} (ha : a.Keeps q) (hb : b.Keeps q) :
    State.Keeps q (if c then a else b) := by split <;> assumption

theorem State.Keeps.id_ {q : Keep} {s : State} (h : s.Keeps q) : State.Keeps q (id s) := h

theorem State.Keeps.foldl {α : Type} {q : Keep} {f : State → α → State} {l : List α} {s : State} (h : s.Keeps q)
    (hf : ∀ a x, State.Keeps q a → State.Keeps q (f a x)) : State.Keeps q (l.foldl f s) := by
  induction l generalizing s with
  | nil => exact h
  | cons x t ih => exact ih (hf s x h)

theorem State.Keeps.foldl_fst {α β : Type} {q : Keep} {f : State × β → α → State × β} {l : List α} {s : State × β}
    (h : s.1.Keeps q) (hf : ∀ a x, State.Keeps q a.1 → State.Keeps q (f a x).1) : State.Keeps q (l.foldl f s).1 := by
  induction l generalizing s with
  | nil => exact h
  | cons x t ih => exact ih (hf s x h)

theorem State.Keeps.foldl_snd {α β : Type} {q : Keep} {f : β × State → α → β × State} {l : List α} {s : β × State}
    (h : s.2.Keeps q) (hf : ∀ a x, State.Keeps q a.2 → State.Keeps q (f a x).2) : State.Keeps q (l.foldl f s).2 := by
  induction l generalizing s with
  | nil => exact h
  | cons x t ih => exact ih (hf s x h)

/-- A table whose entries are dropped or changed to values that are not the default. -/
theorem Tab.risesFrom_filterMap {α : Type} {f : Nat × α → Option (Nat × α)} (hf : ∀ e e', f e = some e' → e'.1 = e.1)
    {n : Nat} {t : Tab α} (h : Tab.risesFrom n t = true) : Tab.risesFrom n (t.filterMap f) = true := by
  induction t generalizing n with
  | nil => rfl
  | cons e t ih =>
    obtain ⟨i, v⟩ := e
    simp only [Tab.risesFrom, Bool.and_eq_true, decide_eq_true_eq] at h
    rw [List.filterMap_cons]
    split
    · exact ih (Tab.risesFrom_mono (by omega) h.2)
    · next e' he =>
      obtain ⟨j, w⟩ := e'
      have hj : j = i := hf _ _ he
      subst hj
      simp only [Tab.risesFrom, Bool.and_eq_true, decide_eq_true_eq]
      exact ⟨h.1, ih h.2⟩

theorem Tab.wf_filterMap {α : Type} [DecidableEq α] {d : Nat → α} {f : Nat × α → Option (Nat × α)}
    (hf : ∀ e e', f e = some e' → e'.1 = e.1 ∧ (e.2 ≠ d e.1 → e'.2 ≠ d e'.1)) {t : Tab α} (h : Tab.wf d t = true) :
    Tab.wf d (t.filterMap f) = true := by
  simp only [Tab.wf, Bool.and_eq_true, List.all_eq_true, decide_eq_true_eq] at h ⊢
  refine ⟨Tab.risesFrom_filterMap (fun e e' he => (hf e e' he).1) h.1, ?_⟩
  intro e' he'
  obtain ⟨e, he, hfe⟩ := List.mem_filterMap.mp he'
  exact (hf e e' hfe).2 (h.2 e he)

end Sys2Proof.Machine
end

