-- ==== Sys2Proof/Laws/KeepsOps.lean ====
section
/-!
SUPPORT. What the operations of Machine/Ops.lean keep.
-/
set_option Elab.async false
namespace Sys2Proof.Machine

variable {q : Keep}

theorem State.setReg_keeps {s : State} {page off v} (h : s.Keeps q) (hq : q.Off 0x6 := by have h := ‹Keep.Off q _›; exact Keep.sub h (by decide)) : (State.setReg s page off v).Keeps q :=
  h.updAll rfl (fun hc => Tab.wf_set _ _ _ (h.live hc)) h.mem h.prog

theorem State.setShd_keeps {s page off v} (h : s.Keeps q)
    (hq : q.Off 0x4 := by have h := ‹Keep.Off q _›; exact Keep.sub h (by decide)) :
    (State.setShd s page off v).Keeps q := by
  unfold State.setShd
  with_reducible repeat' first | assumption | fail_if_no_progress (refine State.Keeps.upd ?_ rfl rfl rfl rfl)

theorem State.setBoth_keeps {s : State} {page off v} (h : s.Keeps q) (hq : q.Off 0x6 := by have h := ‹Keep.Off q _›; exact Keep.sub h (by decide)) : (State.setBoth s page off v).Keeps q :=
  h.updAll rfl (fun hc => Tab.wf_set _ _ _ (h.live hc)) h.mem h.prog

theorem State.setNat_keeps {s page off n} (h : s.Keeps q)
    (hq : q.Off 0x6 := by have h := ‹Keep.Off q _›; exact Keep.sub h (by decide)) :
    (State.setNat s page off n).Keeps q := by
  unfold State.setNat
  with_reducible repeat' first | assumption | refine State.setReg_keeps ?_

theorem State.setFld_keeps {s page off f n} (h : s.Keeps q)
    (hq : q.Off 0x6 := by have h := ‹Keep.Off q _›; exact Keep.sub h (by decide)) :
    (State.setFld s page off f n).Keeps q := by
  unfold State.setFld
  with_reducible repeat' first | assumption | refine State.setReg_keeps ?_

theorem State.setFlag_keeps {s page off n b} (h : s.Keeps q)
    (hq : q.Off 0x6 := by have h := ‹Keep.Off q _›; exact Keep.sub h (by decide)) :
    (State.setFlag s page off n b).Keeps q := by
  unfold State.setFlag
  with_reducible repeat' first | assumption | refine State.setReg_keeps ?_

theorem State.addReg_keeps {s page off k} (h : s.Keeps q)
    (hq : q.Off 0x6 := by have h := ‹Keep.Off q _›; exact Keep.sub h (by decide)) :
    (State.addReg s page off k).Keeps q := by
  unfold State.addReg
  with_reducible repeat' first | assumption | refine State.setReg_keeps ?_

theorem State.inc_keeps {s page off} (h : s.Keeps q)
    (hq : q.Off 0x6 := by have h := ‹Keep.Off q _›; exact Keep.sub h (by decide)) :
    (State.inc s page off).Keeps q := by
  unfold State.inc
  with_reducible repeat' first | assumption | refine State.addReg_keeps ?_

theorem State.setPageState_keeps {s page n} (h : s.Keeps q)
    (hq : q.Off 0x6 := by have h := ‹Keep.Off q _›; exact Keep.sub h (by decide)) :
    (State.setPageState s page n).Keeps q := by
  unfold State.setPageState
  with_reducible repeat' first | assumption | refine State.setFld_keeps ?_

theorem State.setSts_keeps {s page f n} (h : s.Keeps q)
    (hq : q.Off 0x6 := by have h := ‹Keep.Off q _›; exact Keep.sub h (by decide)) :
    (State.setSts s page f n).Keeps q := by
  unfold State.setSts
  with_reducible repeat' first | assumption | refine State.setFld_keeps ?_

theorem State.setByte_keeps {s : State} {a b} (h : s.Keeps q) (hq : q.Off 0x10 := by have h := ‹Keep.Off q _›; exact Keep.sub h (by decide)) : (State.setByte s a b).Keeps q := by
  unfold State.setByte
  split
  · exact h.updAll rfl h.live (fun hc => Tab.wf_set _ _ _ (h.mem hc)) h.prog
  · exact h

theorem State.setBytes_keeps {s a a2} (h : s.Keeps q)
    (hq : q.Off 0x10 := by have h := ‹Keep.Off q _›; exact Keep.sub h (by decide)) :
    (State.setBytes s a a2).Keeps q := by
  fun_induction State.setBytes s a a2 <;> try simp only [*]
  with_reducible repeat' first | assumption | refine State.setByte_keeps ?_ | apply_assumption -exfalso -symm

theorem State.setMem_keeps {s a n v} (h : s.Keeps q)
    (hq : q.Off 0x10 := by have h := ‹Keep.Off q _›; exact Keep.sub h (by decide)) :
    (State.setMem s a n v).Keeps q := by
  unfold State.setMem
  with_reducible repeat' first | assumption | refine State.setBytes_keeps ?_

theorem State.fresh_keeps {s} (h : s.Keeps q)
    (hq : q.Off 0x80 := by have h := ‹Keep.Off q _›; exact Keep.sub h (by decide)) : (State.fresh s).Keeps q := by
  unfold State.fresh
  with_reducible repeat' first
    | assumption | ((try lift_lets -underBinder); intro x; have hx : x = x := (by unfold x; rfl); clear hx)
    | fail_if_no_progress (refine State.Keeps.upd ?_ rfl rfl rfl rfl)

theorem State.emit_keeps {s o} (h : s.Keeps q)
    (hq : q.Off 0x2000 := by have h := ‹Keep.Off q _›; exact Keep.sub h (by decide)) : (State.emit s o).Keeps q := by
  unfold State.emit
  with_reducible repeat' first | assumption | fail_if_no_progress (refine State.Keeps.upd ?_ rfl rfl rfl rfl)

theorem State.setIcuBit_keeps {s table k b} (h : s.Keeps q)
    (hq : q.Off 0x6 := by have h := ‹Keep.Off q _›; exact Keep.sub h (by decide)) :
    (State.setIcuBit s table k b).Keeps q := by
  unfold State.setIcuBit
  with_reducible repeat' first | assumption | refine State.setFlag_keeps ?_

theorem State.notifyGroups_keeps {s x1} (h : s.Keeps q) (hx1 : x1.Keeps q)
    (hq : q.Off 0x100 := by have h := ‹Keep.Off q _›; exact Keep.sub h (by decide)) :
    (State.notifyGroups s x1).Keeps q := by
  unfold State.notifyGroups
  with_reducible repeat' first
    | assumption | refine fun _ => ?_
    | ((try lift_lets -underBinder); intro x; have hx : x = x := (by unfold x; rfl); clear hx)
    | refine State.Keeps.ite ?_ ?_ | refine State.Keeps.foldl ?_ ?_
    | fail_if_no_progress (refine State.Keeps.upd ?_ rfl rfl rfl rfl)

theorem State.occur_keeps {s k} (h : s.Keeps q)
    (hq : q.Off 0x106 := by have h := ‹Keep.Off q _›; exact Keep.sub h (by decide)) : (State.occur s k).Keeps q := by
  unfold State.occur
  with_reducible repeat' first
    | assumption
    | ((try lift_lets -underBinder); intro x; refine (fun (_ : State.Keeps q x) => ?_) ?_; on_goal 2 => unfold x)
    | ((try lift_lets -underBinder); intro x; have hx : x = x := (by unfold x; rfl); clear hx)
    | refine State.setIcuBit_keeps ?_ | refine State.setFld_keeps ?_ | refine State.Keeps.ite ?_ ?_
    | fail_if_no_progress (refine State.Keeps.upd ?_ rfl rfl rfl rfl)

theorem State.loadWake_keeps {s from_ aborted seen pins} (h : s.Keeps q)
    (hq : q.Off 0x6 := by have h := ‹Keep.Off q _›; exact Keep.sub h (by decide)) :
    (State.loadWake s from_ aborted seen pins).Keeps q := by
  unfold State.loadWake
  with_reducible repeat' first
    | assumption | ((try lift_lets -underBinder); intro x; have hx : x = x := (by unfold x; rfl); clear hx)
    | refine State.setNat_keeps ?_

theorem State.fieldResume_keeps {s} (h : s.Keeps q)
    (hq : q.Off 0x6 := by have h := ‹Keep.Off q _›; exact Keep.sub h (by decide)) : (State.fieldResume s).Keeps q := by
  unfold State.fieldResume
  with_reducible repeat' first
    | assumption | refine fun _ => ?_ | refine State.setSts_keeps ?_ | refine State.Keeps.ite ?_ ?_
    | refine State.Keeps.foldl ?_ ?_

theorem State.leaveDoze_keeps {s seen pins} (h : s.Keeps q)
    (hq : q.Off 0x200006 := by have h := ‹Keep.Off q _›; exact Keep.sub h (by decide)) :
    (State.leaveDoze s seen pins).Keeps q := by
  unfold State.leaveDoze
  with_reducible repeat' first
    | assumption
    | ((try lift_lets -underBinder); intro x; refine (fun (_ : State.Keeps q x) => ?_) ?_; on_goal 2 => unfold x)
    | ((try lift_lets -underBinder); intro x; have hx : x = x := (by unfold x; rfl); clear hx)
    | refine State.setSts_keeps ?_ | refine State.loadWake_keeps ?_ | refine State.fieldResume_keeps ?_
    | fail_if_no_progress (refine State.Keeps.upd ?_ rfl rfl rfl rfl)

theorem State.icuChange_keeps {s f} (h : s.Keeps q) (hf : ∀ a0, a0.Keeps q → (f a0).Keeps q)
    (hq : q.Off 0x200106 := by have h := ‹Keep.Off q _›; exact Keep.sub h (by decide)) :
    (State.icuChange s f).Keeps q := by
  unfold State.icuChange
  with_reducible repeat' first
    | assumption
    | ((try lift_lets -underBinder); intro x; refine (fun (_ : State.Keeps q x) => ?_) ?_; on_goal 2 => unfold x)
    | refine State.occur_keeps ?_ | refine State.notifyGroups_keeps ?_ ?_ | refine State.leaveDoze_keeps ?_
    | refine hf _ ?_ | refine State.Keeps.ite ?_ ?_

theorem State.irq_keeps {s k} (h : s.Keeps q)
    (hq : q.Off 0x200106 := by have h := ‹Keep.Off q _›; exact Keep.sub h (by decide)) : (State.irq s k).Keeps q := by
  unfold State.irq
  with_reducible repeat' first
    | assumption | refine fun _ => ?_ | refine State.occur_keeps ?_ | refine State.icuChange_keeps ?_ ?_

theorem State.setLevel_keeps {s k b} (h : s.Keeps q)
    (hq : q.Off 0x200106 := by have h := ‹Keep.Off q _›; exact Keep.sub h (by decide)) :
    (State.setLevel s k b).Keeps q := by
  unfold State.setLevel
  with_reducible repeat' first
    | assumption | refine fun _ => ?_
    | ((try lift_lets -underBinder); intro x; refine (fun (_ : State.Keeps q x) => ?_) ?_; on_goal 2 => unfold x)
    | ((try lift_lets -underBinder); intro x; have hx : x = x := (by unfold x; rfl); clear hx)
    | refine State.setIcuBit_keeps ?_ | refine State.occur_keeps ?_ | refine State.icuChange_keeps ?_ ?_
    | refine State.Keeps.ite ?_ ?_ | fail_if_no_progress (refine State.Keeps.upd ?_ rfl rfl rfl rfl)

theorem State.counterWrapped_keeps {s n} (h : s.Keeps q)
    (hq : q.Off 0x201106 := by have h := ‹Keep.Off q _›; exact Keep.sub h (by decide)) :
    (State.counterWrapped s n).Keeps q := by
  unfold State.counterWrapped
  with_reducible repeat' first
    | assumption
    | ((try lift_lets -underBinder); intro x; refine (fun (_ : State.Keeps q x) => ?_) ?_; on_goal 2 => unfold x)
    | ((try lift_lets -underBinder); intro x; have hx : x = x := (by unfold x; rfl); clear hx)
    | refine State.setFlag_keeps ?_ | refine State.irq_keeps ?_ | refine State.Keeps.ite ?_ ?_
    | fail_if_no_progress (refine State.Keeps.upd ?_ rfl rfl rfl rfl)

theorem State.count_keeps {s n k} (h : s.Keeps q)
    (hq : q.Off 0x201106 := by have h := ‹Keep.Off q _›; exact Keep.sub h (by decide)) :
    (State.count s n k).Keeps q := by
  unfold State.count
  with_reducible repeat' first
    | assumption
    | ((try lift_lets -underBinder); intro x; refine (fun (_ : State.Keeps q x) => ?_) ?_; on_goal 2 => unfold x)
    | ((try lift_lets -underBinder); intro x; have hx : x = x := (by unfold x; rfl); clear hx)
    | refine State.counterWrapped_keeps ?_ | refine State.Keeps.ite ?_ ?_
    | fail_if_no_progress (refine State.Keeps.upd ?_ rfl rfl rfl rfl)

theorem State.faultHere_keeps {s page n} (h : s.Keeps q)
    (hq : q.Off 0x200106 := by have h := ‹Keep.Off q _›; exact Keep.sub h (by decide)) :
    (State.faultHere s page n).Keeps q := by
  unfold State.faultHere
  with_reducible repeat' first
    | assumption
    | ((try lift_lets -underBinder); intro x; refine (fun (_ : State.Keeps q x) => ?_) ?_; on_goal 2 => unfold x)
    | refine State.setFlag_keeps ?_ | refine State.irq_keeps ?_ | refine State.Keeps.ite ?_ ?_ | split

theorem State.fault_keeps {s page n} (h : s.Keeps q)
    (hq : q.Off 0x200106 := by have h := ‹Keep.Off q _›; exact Keep.sub h (by decide)) :
    (State.fault s page n).Keeps q := by
  unfold State.fault
  with_reducible repeat' first
    | assumption
    | ((try lift_lets -underBinder); intro x; refine (fun (_ : State.Keeps q x) => ?_) ?_; on_goal 2 => unfold x)
    | refine State.faultHere_keeps ?_ | split

theorem State.samplesDiffer_keeps {s page off f driven n} (h : s.Keeps q)
    (hq : q.Off 0x200106 := by have h := ‹Keep.Off q _›; exact Keep.sub h (by decide)) :
    (State.samplesDiffer s page off f driven n).Keeps q := by
  unfold State.samplesDiffer
  with_reducible repeat' first
    | assumption | refine State.fault_keeps ?_ | refine State.setReg_keeps ?_ | refine State.Keeps.ite ?_ ?_

theorem State.badValue_keeps {s page} (h : s.Keeps q)
    (hq : q.Off 0x200106 := by have h := ‹Keep.Off q _›; exact Keep.sub h (by decide)) :
    (State.badValue s page).Keeps q := by
  unfold State.badValue
  with_reducible repeat' first | assumption | refine State.fault_keeps ?_

theorem State.fencePage_keeps {s page} (h : s.Keeps q)
    (hq : q.Off 0x200106 := by have h := ‹Keep.Off q _›; exact Keep.sub h (by decide)) :
    (State.fencePage s page).Keeps q := by
  unfold State.fencePage
  with_reducible repeat' first
    | assumption
    | ((try lift_lets -underBinder); intro x; refine (fun (_ : State.Keeps q x) => ?_) ?_; on_goal 2 => unfold x)
    | refine State.setPageState_keeps ?_ | refine State.faultHere_keeps ?_ | split

theorem State.access_keeps {s f} (h : s.Keeps q) (hf : ∀ a0, a0.Keeps q → (f a0).Keeps q)
    (hq : q.Off 0x201106 := by have h := ‹Keep.Off q _›; exact Keep.sub h (by decide)) :
    (State.access s f).Keeps q := by
  unfold State.access
  with_reducible repeat' first
    | assumption | refine State.count_keeps ?_ | refine hf _ ?_ | refine State.Keeps.ite ?_ ?_

theorem State.gate_keeps {s page f} (h : s.Keeps q) (hf : ∀ a0, a0.Keeps q → (f a0).Keeps q)
    (hq : q.Off 0x201106 := by have h := ‹Keep.Off q _›; exact Keep.sub h (by decide)) :
    (State.gate s page f).Keeps q := by
  unfold State.gate
  with_reducible repeat' first
    | assumption | refine fun _ => ?_ | refine State.fault_keeps ?_ | refine State.access_keeps ?_ ?_ | refine hf _ ?_
    | refine State.Keeps.ite ?_ ?_

end Sys2Proof.Machine
end

