-- ==== Sys2Proof/Laws/KeepsQueueOps.lean ====
section
/-!
SUPPORT. What the operations of Machine/QueueOps.lean keep.
-/
set_option Elab.async false
namespace Sys2Proof.Machine

variable {q : Keep}

theorem State.setQueue_keeps {s j q2 v} (h : s.Keeps q)
    (hq : q.Off 0x40 := by have h := ‹Keep.Off q _›; exact Keep.sub h (by decide)) :
    (State.setQueue s j q2 v).Keeps q := by
  unfold State.setQueue
  with_reducible repeat' first | assumption | fail_if_no_progress (refine State.Keeps.upd ?_ rfl rfl rfl rfl)

theorem State.queueLevels_keeps {s j} (h : s.Keeps q)
    (hq : q.Off 0x200106 := by have h := ‹Keep.Off q _›; exact Keep.sub h (by decide)) :
    (State.queueLevels s j).Keeps q := by
  unfold State.queueLevels
  with_reducible repeat' first
    | assumption | refine fun _ => ?_
    | ((try lift_lets -underBinder); intro x; refine (fun (_ : State.Keeps q x) => ?_) ?_; on_goal 2 => unfold x)
    | refine State.setFlag_keeps ?_ | refine State.setLevel_keeps ?_ | refine State.Keeps.foldl ?_ ?_

theorem State.queueError_keeps {s j q2 bitNo} (h : s.Keeps q)
    (hq : q.Off 0x200106 := by have h := ‹Keep.Off q _›; exact Keep.sub h (by decide)) :
    (State.queueError s j q2 bitNo).Keeps q := by
  unfold State.queueError
  with_reducible repeat' first | assumption | refine State.setFlag_keeps ?_ | refine State.irq_keeps ?_

theorem State.queueDrop_keeps {s j q2} (h : s.Keeps q)
    (hq : q.Off 0x6 := by have h := ‹Keep.Off q _›; exact Keep.sub h (by decide)) :
    (State.queueDrop s j q2).Keeps q := by
  unfold State.queueDrop
  with_reducible repeat' first | assumption | refine State.setFld_keeps ?_

theorem State.queuePtrReset_keeps {s j q2 busy} (h : s.Keeps q)
    (hq : q.Off 0x200146 := by have h := ‹Keep.Off q _›; exact Keep.sub h (by decide)) :
    (State.queuePtrReset s j q2 busy).Keeps q := by
  unfold State.queuePtrReset
  with_reducible repeat' first
    | assumption
    | ((try lift_lets -underBinder); intro x; refine (fun (_ : State.Keeps q x) => ?_) ?_; on_goal 2 => unfold x)
    | ((try lift_lets -underBinder); intro x; have hx : x = x := (by unfold x; rfl); clear hx)
    | refine State.setQueue_keeps ?_ | refine State.setFld_keeps ?_ | refine State.queueLevels_keeps ?_
    | refine State.queueError_keeps ?_

theorem State.queuePut_keeps {s j q2 depth d last} (h : s.Keeps q)
    (hq : q.Off 0x200146 := by have h := ‹Keep.Off q _›; exact Keep.sub h (by decide)) :
    (State.queuePut s j q2 depth d last).Keeps q := by
  unfold State.queuePut
  with_reducible repeat' first
    | assumption
    | ((try lift_lets -underBinder); intro x; refine (fun (_ : State.Keeps q x) => ?_) ?_; on_goal 2 => unfold x)
    | ((try lift_lets -underBinder); intro x; have hx : x = x := (by unfold x; rfl); clear hx)
    | refine State.setQueue_keeps ?_ | refine State.queueDrop_keeps ?_ | refine State.inc_keeps ?_
    | refine State.queueError_keeps ?_ | refine State.Keeps.ite ?_ ?_

theorem State.evrLost_keeps {s} (h : s.Keeps q)
    (hq : q.Off 0x201906 := by have h := ‹Keep.Off q _›; exact Keep.sub h (by decide)) :
    (State.evrLost s).Keeps q := by
  unfold State.evrLost
  with_reducible repeat' first
    | assumption
    | ((try lift_lets -underBinder); intro x; refine (fun (_ : State.Keeps q x) => ?_) ?_; on_goal 2 => unfold x)
    | ((try lift_lets -underBinder); intro x; have hx : x = x := (by unfold x; rfl); clear hx)
    | refine State.fault_keeps ?_ | refine State.inc_keeps ?_ | refine State.count_keeps ?_
    | fail_if_no_progress (refine State.Keeps.upd ?_ rfl rfl rfl rfl)

theorem State.evrPeak_keeps {s} (h : s.Keeps q)
    (hq : q.Off 0x6 := by have h := ‹Keep.Off q _›; exact Keep.sub h (by decide)) : (State.evrPeak s).Keeps q := by
  unfold State.evrPeak
  with_reducible repeat' first | assumption | refine State.setNat_keeps ?_

theorem State.evrPushSound_keeps {s code page kind group} (h : s.Keeps q)
    (hq : q.Off 0x201946 := by have h := ‹Keep.Off q _›; exact Keep.sub h (by decide)) :
    (State.evrPushSound s code page kind group).Keeps q := by
  unfold State.evrPushSound
  with_reducible repeat' first
    | assumption
    | ((try lift_lets -underBinder); intro x; refine (fun (_ : State.Keeps q x) => ?_) ?_; on_goal 2 => unfold x)
    | refine State.evrPeak_keeps ?_ | refine State.evrLost_keeps ?_ | refine State.queueLevels_keeps ?_
    | refine State.queuePut_keeps ?_ | refine State.Keeps.ite ?_ ?_

theorem State.evrPush_keeps {s code page kind group} (h : s.Keeps q)
    (hq : q.Off 0x201946 := by have h := ‹Keep.Off q _›; exact Keep.sub h (by decide)) :
    (State.evrPush s code page kind group).Keeps q := by
  unfold State.evrPush
  with_reducible repeat' first
    | assumption | refine State.evrPushSound_keeps ?_ | refine State.evrLost_keeps ?_
    | refine State.queuePtrReset_keeps ?_ | refine State.Keeps.ite ?_ ?_

theorem State.trigger_keeps {s code page} (h : s.Keeps q)
    (hq : q.Off 0x201946 := by have h := ‹Keep.Off q _›; exact Keep.sub h (by decide)) :
    (State.trigger s code page).Keeps q := by
  unfold State.trigger
  with_reducible repeat' first
    | assumption
    | ((try lift_lets -underBinder); intro x; refine (fun (_ : State.Keeps q x) => ?_) ?_; on_goal 2 => unfold x)
    | ((try lift_lets -underBinder); intro x; have hx : x = x := (by unfold x; rfl); clear hx)
    | refine State.fault_keeps ?_ | refine State.evrPush_keeps ?_ | refine State.inc_keeps ?_
    | refine State.Keeps.ite ?_ ?_ | fail_if_no_progress (refine State.Keeps.upd ?_ rfl rfl rfl rfl)

theorem State.queueUpset_keeps {s j q2 busy} (h : s.Keeps q)
    (hq : q.Off 0x201946 := by have h := ‹Keep.Off q _›; exact Keep.sub h (by decide)) :
    (State.queueUpset s j q2 busy).Keeps q := by
  unfold State.queueUpset
  with_reducible repeat' first
    | assumption | refine State.trigger_keeps ?_ | refine State.queuePtrReset_keeps ?_

theorem State.queueWrite_keeps {s j q2 d last} (h : s.Keeps q)
    (hq : q.Off 0x201946 := by have h := ‹Keep.Off q _›; exact Keep.sub h (by decide)) :
    (State.queueWrite s j q2 d last).Keeps q := by
  unfold State.queueWrite
  with_reducible repeat' first
    | assumption | refine State.queueUpset_keeps ?_ | refine State.queueLevels_keeps ?_ | refine State.queuePut_keeps ?_
    | refine State.Keeps.ite ?_ ?_ | split

theorem State.queueCommit_keeps {s j q2 n} (h : s.Keeps q)
    (hq : q.Off 0x201946 := by have h := ‹Keep.Off q _›; exact Keep.sub h (by decide)) :
    (State.queueCommit s j q2 n).Keeps q := by
  unfold State.queueCommit
  with_reducible repeat' first
    | assumption | ((try lift_lets -underBinder); intro x; have hx : x = x := (by unfold x; rfl); clear hx)
    | refine State.setQueue_keeps ?_ | refine State.queueUpset_keeps ?_ | refine State.queueDrop_keeps ?_
    | refine State.queueLevels_keeps ?_ | refine State.inc_keeps ?_ | refine State.queueError_keeps ?_
    | refine State.Keeps.ite ?_ ?_ | split

theorem State.queueRewind_keeps {s j q2} (h : s.Keeps q)
    (hq : q.Off 0x201946 := by have h := ‹Keep.Off q _›; exact Keep.sub h (by decide)) :
    (State.queueRewind s j q2).Keeps q := by
  unfold State.queueRewind
  with_reducible repeat' first
    | assumption | ((try lift_lets -underBinder); intro x; have hx : x = x := (by unfold x; rfl); clear hx)
    | refine State.setQueue_keeps ?_ | refine State.queueUpset_keeps ?_ | refine State.Keeps.ite ?_ ?_

theorem State.queuePop_keeps {s j q2} (h : s.Keeps q)
    (hq : q.Off 0x201946 := by have h := ‹Keep.Off q _›; exact Keep.sub h (by decide)) :
    (State.queuePop s j q2).Keeps q := by
  unfold State.queuePop
  with_reducible repeat' first
    | assumption | ((try lift_lets -underBinder); intro x; have hx : x = x := (by unfold x; rfl); clear hx)
    | refine State.setQueue_keeps ?_ | refine State.queueUpset_keeps ?_ | refine State.queueLevels_keeps ?_
    | refine State.Keeps.ite ?_ ?_ | split

theorem State.queueEmpty_keeps {s j q2} (h : s.Keeps q)
    (hq : q.Off 0x200146 := by have h := ‹Keep.Off q _›; exact Keep.sub h (by decide)) :
    (State.queueEmpty s j q2).Keeps q := by
  unfold State.queueEmpty
  with_reducible repeat' first
    | assumption | ((try lift_lets -underBinder); intro x; have hx : x = x := (by unfold x; rfl); clear hx)
    | refine State.setQueue_keeps ?_ | refine State.queueLevels_keeps ?_

theorem State.queuePacketFrom_keeps {s j q2 w d a} (h : s.Keeps q)
    (hq : q.Off 0x201946 := by have h := ‹Keep.Off q _›; exact Keep.sub h (by decide)) :
    (State.queuePacketFrom s j q2 w d a).Keeps q := by
  fun_induction State.queuePacketFrom s j q2 w d a <;> try simp only [*]
  with_reducible repeat' first
    | assumption | refine State.queueWrite_keeps ?_ | apply_assumption -exfalso -symm

theorem State.queuePacket_keeps {s j q2 d} (h : s.Keeps q)
    (hq : q.Off 0x201946 := by have h := ‹Keep.Off q _›; exact Keep.sub h (by decide)) :
    (State.queuePacket s j q2 d).Keeps q := by
  unfold State.queuePacket
  with_reducible repeat' first | assumption | refine State.queuePacketFrom_keeps ?_ | split

end Sys2Proof.Machine
end

