-- ==== Sys2Proof/Laws/KeepsSwathBase.lean ====
section
/-!
SUPPORT. What the operations of Machine/SwathBase.lean keep.
-/
set_option Elab.async false
namespace Sys2Proof.Machine

variable {q : Keep}

theorem State.setStatGroup_keeps {s g v} (h : s.Keeps q)
    (hq : q.Off 0x800 := by have h := ‹Keep.Off q _›; exact Keep.sub h (by decide)) :
    (State.setStatGroup s g v).Keeps q := by
  unfold State.setStatGroup
  with_reducible repeat' first
    | assumption | ((try lift_lets -underBinder); intro x; have hx : x = x := (by unfold x; rfl); clear hx)
    | fail_if_no_progress (refine State.Keeps.upd ?_ rfl rfl rfl rfl)

theorem State.sample_keeps {s kind inst v} (h : s.Keeps q)
    (hq : q.Off 0x800 := by have h := ‹Keep.Off q _›; exact Keep.sub h (by decide)) :
    (State.sample s kind inst v).Keeps q := by
  unfold State.sample
  with_reducible repeat' first
    | assumption | refine fun _ => ?_
    | ((try lift_lets -underBinder); intro x; have hx : x = x := (by unfold x; rfl); clear hx)
    | refine State.setStatGroup_keeps ?_ | refine State.Keeps.ite ?_ ?_ | refine State.Keeps.foldl ?_ ?_

theorem State.setGroupState_keeps {s first n} (h : s.Keeps q)
    (hq : q.Off 0x6 := by have h := ‹Keep.Off q _›; exact Keep.sub h (by decide)) :
    (State.setGroupState s first n).Keeps q := by
  unfold State.setGroupState
  with_reducible repeat' first
    | assumption | refine fun _ => ?_ | refine State.setPageState_keeps ?_ | refine State.Keeps.foldl ?_ ?_ | split

theorem State.setSwath_keeps {s k v} (h : s.Keeps q)
    (hq : q.Off 0x4000 := by have h := ‹Keep.Off q _›; exact Keep.sub h (by decide)) :
    (State.setSwath s k v).Keeps q := by
  unfold State.setSwath
  with_reducible repeat' first | assumption | fail_if_no_progress (refine State.Keeps.upd ?_ rfl rfl rfl rfl)

theorem State.swathRefresh_keeps {s k} (h : s.Keeps q)
    (hq : q.Off 0x6 := by have h := ‹Keep.Off q _›; exact Keep.sub h (by decide)) :
    (State.swathRefresh s k).Keeps q := by
  unfold State.swathRefresh
  with_reducible repeat' first
    | assumption | ((try lift_lets -underBinder); intro x; have hx : x = x := (by unfold x; rfl); clear hx)
    | refine State.setGroupState_keeps ?_ | refine State.Keeps.ite ?_ ?_

theorem State.setSwathState_keeps {s k n} (h : s.Keeps q)
    (hq : q.Off 0x200106 := by have h := ‹Keep.Off q _›; exact Keep.sub h (by decide)) :
    (State.setSwathState s k n).Keeps q := by
  unfold State.setSwathState
  with_reducible repeat' first
    | assumption | refine State.irq_keeps ?_ | refine State.setSts_keeps ?_ | refine State.swathRefresh_keeps ?_
    | refine State.Keeps.ite ?_ ?_

theorem State.tryArm_keeps {s k} (h : s.Keeps q)
    (hq : q.Off 0x204106 := by have h := ‹Keep.Off q _›; exact Keep.sub h (by decide)) :
    (State.tryArm s k).Keeps q := by
  unfold State.tryArm
  with_reducible repeat' first
    | assumption | ((try lift_lets -underBinder); intro x; have hx : x = x := (by unfold x; rfl); clear hx)
    | refine State.setSwathState_keeps ?_ | refine State.setSwath_keeps ?_ | refine State.Keeps.ite ?_ ?_

theorem State.lockFollow_keeps {s k} (h : s.Keeps q)
    (hq : q.Off 0x200106 := by have h := ‹Keep.Off q _›; exact Keep.sub h (by decide)) :
    (State.lockFollow s k).Keeps q := by
  unfold State.lockFollow
  with_reducible repeat' first
    | assumption
    | ((try lift_lets -underBinder); intro x; refine (fun (_ : State.Keeps q x) => ?_) ?_; on_goal 2 => unfold x)
    | ((try lift_lets -underBinder); intro x; have hx : x = x := (by unfold x; rfl); clear hx)
    | refine State.fault_keeps ?_ | refine State.setSts_keeps ?_ | refine State.Keeps.ite ?_ ?_

theorem State.swathLocks_keeps {s} (h : s.Keeps q)
    (hq : q.Off 0x204106 := by have h := ‹Keep.Off q _›; exact Keep.sub h (by decide)) :
    (State.swathLocks s).Keeps q := by
  unfold State.swathLocks
  with_reducible repeat' first
    | assumption | refine fun _ => ?_ | refine State.lockFollow_keeps ?_ | refine State.tryArm_keeps ?_
    | refine State.Keeps.foldl ?_ ?_

end Sys2Proof.Machine
end

