-- ==== Sys2Proof/Laws/KeepsTimeline.lean ====
section
/-!
SUPPORT. What the operations of Machine/Timeline.lean keep.
-/
set_option Elab.async false
namespace Sys2Proof.Machine

variable {q : Keep}

theorem State.setIncr_keeps {s v} (h : s.Keeps q)
    (hq : q.Off 0x6 := by have h := ‹Keep.Off q _›; exact Keep.sub h (by decide)) : (State.setIncr s v).Keeps q := by
  unfold State.setIncr
  with_reducible repeat' first
    | assumption | ((try lift_lets -underBinder); intro x; have hx : x = x := (by unfold x; rfl); clear hx)
    | refine State.setNat_keeps ?_

theorem State.retune_keeps {s} (h : s.Keeps q)
    (hq : q.Off 0x6 := by have h := ‹Keep.Off q _›; exact Keep.sub h (by decide)) : (State.retune s).Keeps q := by
  unfold State.retune
  with_reducible repeat' first | assumption | refine State.setIncr_keeps ?_ | split

theorem State.synPulseEnd_keeps {s k t} (h : s.Keeps q)
    (hq : q.Off 0x200506 := by have h := ‹Keep.Off q _›; exact Keep.sub h (by decide)) :
    (State.synPulseEnd s k t).Keeps q := by
  unfold State.synPulseEnd
  with_reducible repeat' first
    | assumption
    | ((try lift_lets -underBinder); intro x; refine (fun (_ : State.Keeps q x) => ?_) ?_; on_goal 2 => unfold x)
    | ((try lift_lets -underBinder); intro x; have hx : x = x := (by unfold x; rfl); clear hx) | refine State.irq_keeps ?_
    | refine State.setSts_keeps ?_ | refine State.setPageState_keeps ?_ | refine State.Keeps.ite ?_ ?_
    | fail_if_no_progress (refine State.Keeps.upd ?_ rfl rfl rfl rfl)

theorem State.slewAccrue_keeps {s t} (h : s.Keeps q)
    (hq : q.Off 0x200 := by have h := ‹Keep.Off q _›; exact Keep.sub h (by decide)) :
    (State.slewAccrue s t).Keeps q := by
  unfold State.slewAccrue
  with_reducible repeat' first
    | assumption | ((try lift_lets -underBinder); intro x; have hx : x = x := (by unfold x; rfl); clear hx)
    | refine State.Keeps.ite ?_ ?_ | fail_if_no_progress (refine State.Keeps.upd ?_ rfl rfl rfl rfl)

theorem State.advance_keeps {s t} (h : s.Keeps q)
    (hq : q.Off 0x200706 := by have h := ‹Keep.Off q _›; exact Keep.sub h (by decide)) :
    (State.advance s t).Keeps q := by
  unfold State.advance
  with_reducible repeat' first
    | assumption | refine fun _ => ?_
    | ((try lift_lets -underBinder); intro x; refine (fun (_ : State.Keeps q x) => ?_) ?_; on_goal 2 => unfold x)
    | ((try lift_lets -underBinder); intro x; have hx : x = x := (by unfold x; rfl); clear hx)
    | refine State.slewAccrue_keeps ?_ | refine State.synPulseEnd_keeps ?_ | refine State.Keeps.foldl ?_ ?_
    | fail_if_no_progress (refine State.Keeps.upd ?_ rfl rfl rfl rfl)

theorem State.emitEdges_keeps {s o} (h : s.Keeps q)
    (hq : q.Off 0x2000 := by have h := ‹Keep.Off q _›; exact Keep.sub h (by decide)) :
    (State.emitEdges s o).Keeps q := by
  unfold State.emitEdges
  with_reducible repeat' first | assumption | refine State.emit_keeps ?_

theorem State.reach_keeps {s : State} {t : Nat} (h : s.Keeps q) (hq : q.Off 0x200706 := by have h := ‹Keep.Off q _›; exact Keep.sub h (by decide)) : ∀ out, s.reach t = some out → out.Keeps q := by
  intro out ho
  unfold State.reach at ho
  split at ho
  · cases ho; exact h
  · split at ho
    · cases ho; exact State.advance_keeps h
    · cases ho

theorem State.atTime_keeps {s t f} (h : s.Keeps q) (hf : ∀ a0, a0.Keeps q → (f a0).Keeps q)
    (hq : q.Off 0x200706 := by have h := ‹Keep.Off q _›; exact Keep.sub h (by decide)) :
    (State.atTime s t f).Keeps q := by
  unfold State.atTime
  with_reducible repeat' first
    | assumption | refine (State.reach_keeps ?_) _ (by assumption) | refine hf _ ?_ | split

theorem State.ticked_keeps {s key} (h : s.Keeps q)
    (hq : q.Off 0x200 := by have h := ‹Keep.Off q _›; exact Keep.sub h (by decide)) :
    (State.ticked s key).Keeps q := by
  unfold State.ticked
  with_reducible repeat' first
    | assumption | ((try lift_lets -underBinder); intro x; have hx : x = x := (by unfold x; rfl); clear hx)
    | fail_if_no_progress (refine State.Keeps.upd ?_ rfl rfl rfl rfl)

theorem State.atTick_keeps {s key step off f} (h : s.Keeps q) (hf : ∀ a0, a0.Keeps q → (f a0).Keeps q)
    (hq : q.Off 0x200706 := by have h := ‹Keep.Off q _›; exact Keep.sub h (by decide)) :
    (State.atTick s key step off f).Keeps q := by
  unfold State.atTick
  with_reducible repeat' first
    | assumption | refine fun _ => ?_ | refine State.ticked_keeps ?_ | refine State.atTime_keeps ?_ ?_ | refine hf _ ?_

theorem State.enterTl_keeps {s n} (h : s.Keeps q)
    (hq : q.Off 0x206 := by have h := ‹Keep.Off q _›; exact Keep.sub h (by decide)) : (State.enterTl s n).Keeps q := by
  unfold State.enterTl
  with_reducible repeat' first
    | assumption
    | ((try lift_lets -underBinder); intro x; refine (fun (_ : State.Keeps q x) => ?_) ?_; on_goal 2 => unfold x)
    | ((try lift_lets -underBinder); intro x; have hx : x = x := (by unfold x; rfl); clear hx)
    | refine State.setIncr_keeps ?_ | refine State.Keeps.ite ?_ ?_
    | fail_if_no_progress (refine State.Keeps.upd ?_ rfl rfl rfl rfl) | split

theorem State.alignFalls_keeps {s} (h : s.Keeps q)
    (hq : q.Off 0x200106 := by have h := ‹Keep.Off q _›; exact Keep.sub h (by decide)) :
    (State.alignFalls s).Keeps q := by
  unfold State.alignFalls
  with_reducible repeat' first
    | assumption
    | ((try lift_lets -underBinder); intro x; refine (fun (_ : State.Keeps q x) => ?_) ?_; on_goal 2 => unfold x)
    | refine State.fault_keeps ?_ | refine State.setFld_keeps ?_ | refine State.Keeps.ite ?_ ?_

theorem State.setTlState_keeps {s n} (h : s.Keeps q)
    (hq : q.Off 0x204306 := by have h := ‹Keep.Off q _›; exact Keep.sub h (by decide)) :
    (State.setTlState s n).Keeps q := by
  unfold State.setTlState
  with_reducible repeat' first
    | assumption
    | ((try lift_lets -underBinder); intro x; refine (fun (_ : State.Keeps q x) => ?_) ?_; on_goal 2 => unfold x)
    | refine State.irq_keeps ?_ | refine State.setSts_keeps ?_ | refine State.alignFalls_keeps ?_
    | refine State.swathLocks_keeps ?_ | refine State.retune_keeps ?_ | refine State.enterTl_keeps ?_
    | refine State.Keeps.ite ?_ ?_

theorem State.tlnSettle_keeps {s} (h : s.Keeps q)
    (hq : q.Off 0x204306 := by have h := ‹Keep.Off q _›; exact Keep.sub h (by decide)) :
    (State.tlnSettle s).Keeps q := by
  unfold State.tlnSettle
  with_reducible repeat' first | assumption | refine State.setTlState_keeps ?_ | refine State.Keeps.ite ?_ ?_

theorem State.voidEvents_keeps {s} (h : s.Keeps q)
    (hq : q.Off 0x200 := by have h := ‹Keep.Off q _›; exact Keep.sub h (by decide)) :
    (State.voidEvents s).Keeps q := by
  unfold State.voidEvents
  with_reducible repeat' first
    | assumption | ((try lift_lets -underBinder); intro x; have hx : x = x := (by unfold x; rfl); clear hx)
    | fail_if_no_progress (refine State.Keeps.upd ?_ rfl rfl rfl rfl)

theorem State.calRefLost_keeps {s src} (h : s.Keeps q)
    (hq : q.Off 0x1000200106 := by have h := ‹Keep.Off q _›; exact Keep.sub h (by decide)) :
    (State.calRefLost s src).Keeps q := by
  unfold State.calRefLost
  with_reducible repeat' first
    | assumption | ((try lift_lets -underBinder); intro x; have hx : x = x := (by unfold x; rfl); clear hx)
    | refine State.fault_keeps ?_ | refine State.setSts_keeps ?_ | refine State.Keeps.ite ?_ ?_
    | fail_if_no_progress (refine State.Keeps.upd ?_ rfl rfl rfl rfl) | split

theorem State.srcLost_keeps {s0 src} (h : s0.Keeps q)
    (hq : q.Off 0x1000204306 := by have h := ‹Keep.Off q _›; exact Keep.sub h (by decide)) :
    (State.srcLost s0 src).Keeps q := by
  unfold State.srcLost
  with_reducible repeat' first
    | assumption
    | ((try lift_lets -underBinder); intro x; refine (fun (_ : State.Keeps q x) => ?_) ?_; on_goal 2 => unfold x)
    | refine State.calRefLost_keeps ?_ | refine State.voidEvents_keeps ?_ | refine State.setTlState_keeps ?_
    | refine State.Keeps.ite ?_ ?_

theorem State.tlnOff_keeps {s} (h : s.Keeps q)
    (hq : q.Off 0x204306 := by have h := ‹Keep.Off q _›; exact Keep.sub h (by decide)) : (State.tlnOff s).Keeps q := by
  unfold State.tlnOff
  with_reducible repeat' first
    | assumption | refine State.retune_keeps ?_ | refine State.setTlState_keeps ?_ | refine State.enterTl_keeps ?_
    | refine State.Keeps.ite ?_ ?_

theorem State.tlnCtrl_keeps {s} (h : s.Keeps q)
    (hq : q.Off 0x204306 := by have h := ‹Keep.Off q _›; exact Keep.sub h (by decide)) :
    (State.tlnCtrl s).Keeps q := by
  unfold State.tlnCtrl
  with_reducible repeat' first
    | assumption | refine State.tlnOff_keeps ?_ | refine State.tlnSettle_keeps ?_ | refine State.Keeps.ite ?_ ?_

theorem State.slewEnd_keeps {s} (h : s.Keeps q)
    (hq : q.Off 0x200306 := by have h := ‹Keep.Off q _›; exact Keep.sub h (by decide)) :
    (State.slewEnd s).Keeps q := by
  unfold State.slewEnd
  with_reducible repeat' first
    | assumption | ((try lift_lets -underBinder); intro x; have hx : x = x := (by unfold x; rfl); clear hx)
    | refine State.irq_keeps ?_ | refine State.setSts_keeps ?_ | refine State.retune_keeps ?_
    | refine State.Keeps.ite ?_ ?_ | fail_if_no_progress (refine State.Keeps.upd ?_ rfl rfl rfl rfl)

theorem State.synShift_keeps {s d} (h : s.Keeps q)
    (hq : q.Off 0x400 := by have h := ‹Keep.Off q _›; exact Keep.sub h (by decide)) :
    (State.synShift s d).Keeps q := by
  unfold State.synShift
  with_reducible repeat' first
    | assumption | refine fun _ => ?_
    | ((try lift_lets -underBinder); intro x; have hx : x = x := (by unfold x; rfl); clear hx)
    | refine State.Keeps.ite ?_ ?_ | refine State.Keeps.foldl ?_ ?_
    | fail_if_no_progress (refine State.Keeps.upd ?_ rfl rfl rfl rfl)

theorem State.synRenumber_keeps {s} (h : s.Keeps q)
    (hq : q.Off 0x400 := by have h := ‹Keep.Off q _›; exact Keep.sub h (by decide)) :
    (State.synRenumber s).Keeps q := by
  unfold State.synRenumber
  with_reducible repeat' first
    | assumption | refine fun _ => ?_
    | ((try lift_lets -underBinder); intro x; have hx : x = x := (by unfold x; rfl); clear hx)
    | refine State.Keeps.foldl ?_ ?_ | fail_if_no_progress (refine State.Keeps.upd ?_ rfl rfl rfl rfl)

theorem State.stepTo_keeps {s t} (h : s.Keeps q)
    (hq : q.Off 0x200201706 := by have h := ‹Keep.Off q _›; exact Keep.sub h (by decide)) :
    (State.stepTo s t).Keeps q := by
  unfold State.stepTo
  with_reducible repeat' first
    | assumption
    | ((try lift_lets -underBinder); intro x; refine (fun (_ : State.Keeps q x) => ?_) ?_; on_goal 2 => unfold x)
    | ((try lift_lets -underBinder); intro x; have hx : x = x := (by unfold x; rfl); clear hx)
    | refine State.slewEnd_keeps ?_ | refine State.irq_keeps ?_ | refine State.setSts_keeps ?_
    | refine State.synRenumber_keeps ?_ | refine State.synShift_keeps ?_
    | fail_if_no_progress (refine State.Keeps.upd ?_ rfl rfl rfl rfl)

theorem State.tlStep_keeps {s} (h : s.Keeps q)
    (hq : q.Off 0x200205706 := by have h := ‹Keep.Off q _›; exact Keep.sub h (by decide)) :
    (State.tlStep s).Keeps q := by
  unfold State.tlStep
  with_reducible repeat' first
    | assumption | ((try lift_lets -underBinder); intro x; have hx : x = x := (by unfold x; rfl); clear hx)
    | refine State.fault_keeps ?_ | refine State.stepTo_keeps ?_ | refine State.badValue_keeps ?_
    | refine State.voidEvents_keeps ?_ | refine State.setTlState_keeps ?_ | refine State.Keeps.ite ?_ ?_

theorem execStep_keeps {u0 s} (h : s.Keeps q)
    (hq : q.Off 0x200205706 := by have h := ‹Keep.Off q _›; exact Keep.sub h (by decide)) :
    Kept q (execStep u0 s) := by
  unfold execStep
  with_reducible repeat' first
    | assumption | refine fun _ => ?_ | refine done_keeps ?_ | refine State.gate_keeps ?_ ?_
    | refine State.tlStep_keeps ?_

theorem State.tlSlew_keeps {s} (h : s.Keeps q)
    (hq : q.Off 0x200306 := by have h := ‹Keep.Off q _›; exact Keep.sub h (by decide)) : (State.tlSlew s).Keeps q := by
  unfold State.tlSlew
  with_reducible repeat' first
    | assumption | ((try lift_lets -underBinder); intro x; have hx : x = x := (by unfold x; rfl); clear hx)
    | refine State.fault_keeps ?_ | refine State.setSts_keeps ?_ | refine State.retune_keeps ?_
    | refine State.Keeps.ite ?_ ?_ | fail_if_no_progress (refine State.Keeps.upd ?_ rfl rfl rfl rfl)

theorem execSlew_keeps {u0 s} (h : s.Keeps q)
    (hq : q.Off 0x201306 := by have h := ‹Keep.Off q _›; exact Keep.sub h (by decide)) : Kept q (execSlew u0 s) := by
  unfold execSlew
  with_reducible repeat' first
    | assumption | refine fun _ => ?_ | refine done_keeps ?_ | refine State.tlSlew_keeps ?_
    | refine State.gate_keeps ?_ ?_

theorem execSlewAbort_keeps {u0 s} (h : s.Keeps q)
    (hq : q.Off 0x201306 := by have h := ‹Keep.Off q _›; exact Keep.sub h (by decide)) :
    Kept q (execSlewAbort u0 s) := by
  unfold execSlewAbort
  with_reducible repeat' first
    | assumption | refine fun _ => ?_ | refine done_keeps ?_ | refine State.slewEnd_keeps ?_
    | refine State.gate_keeps ?_ ?_

theorem State.tlAction_keeps {s v} (h : s.Keeps q)
    (hq : q.Off 0x200205706 := by have h := ‹Keep.Off q _›; exact Keep.sub h (by decide)) :
    (State.tlAction s v).Keeps q := by
  unfold State.tlAction
  with_reducible repeat' first
    | assumption
    | ((try lift_lets -underBinder); intro x; refine (fun (_ : State.Keeps q x) => ?_) ?_; on_goal 2 => unfold x)
    | refine State.fault_keeps ?_ | refine State.slewEnd_keeps ?_ | refine State.tlSlew_keeps ?_
    | refine State.tlStep_keeps ?_ | refine State.Keeps.ite ?_ ?_

theorem State.slewFinish_keeps {s} (h : s.Keeps q)
    (hq : q.Off 0x200706 := by have h := ‹Keep.Off q _›; exact Keep.sub h (by decide)) :
    (State.slewFinish s).Keeps q := by
  unfold State.slewFinish
  with_reducible repeat' first
    | assumption | ((try lift_lets -underBinder); intro x; have hx : x = x := (by unfold x; rfl); clear hx)
    | refine State.slewEnd_keeps ?_ | refine State.advance_keeps ?_ | refine State.Keeps.ite ?_ ?_

theorem execSlewDone_keeps {s} (h : s.Keeps q)
    (hq : q.Off 0x200706 := by have h := ‹Keep.Off q _›; exact Keep.sub h (by decide)) : Kept q (execSlewDone s) := by
  unfold execSlewDone
  with_reducible repeat' first | assumption | refine done_keeps ?_ | refine State.slewFinish_keeps ?_

theorem State.tick_keeps {s} (h : s.Keeps q)
    (hq : q.Off 0x200706 := by have h := ‹Keep.Off q _›; exact Keep.sub h (by decide)) : (State.tick s).Keeps q := by
  unfold State.tick
  with_reducible repeat' first
    | assumption | refine State.slewFinish_keeps ?_ | refine State.advance_keeps ?_ | refine State.Keeps.ite ?_ ?_

theorem State.servoRate_keeps {s e t} (h : s.Keeps q)
    (hq : q.Off 0x206 := by have h := ‹Keep.Off q _›; exact Keep.sub h (by decide)) :
    (State.servoRate s e t).Keeps q := by
  unfold State.servoRate
  with_reducible repeat' first
    | assumption | ((try lift_lets -underBinder); intro x; have hx : x = x := (by unfold x; rfl); clear hx)
    | refine State.setNat_keeps ?_ | refine State.retune_keeps ?_
    | fail_if_no_progress (refine State.Keeps.upd ?_ rfl rfl rfl rfl)

theorem State.deferStep_keeps {s} (h : s.Keeps q)
    (hq : q.Off 0x200106 := by have h := ‹Keep.Off q _›; exact Keep.sub h (by decide)) :
    (State.deferStep s).Keeps q := by
  unfold State.deferStep
  with_reducible repeat' first
    | assumption | refine State.irq_keeps ?_ | refine State.setSts_keeps ?_ | refine State.Keeps.ite ?_ ?_

theorem State.servoAct_keeps {s e t} (h : s.Keeps q)
    (hq : q.Off 0x200201706 := by have h := ‹Keep.Off q _›; exact Keep.sub h (by decide)) :
    (State.servoAct s e t).Keeps q := by
  unfold State.servoAct
  with_reducible repeat' first
    | assumption
    | ((try lift_lets -underBinder); intro x; refine (fun (_ : State.Keeps q x) => ?_) ?_; on_goal 2 => unfold x)
    | ((try lift_lets -underBinder); intro x; have hx : x = x := (by unfold x; rfl); clear hx)
    | refine State.servoRate_keeps ?_ | refine State.stepTo_keeps ?_ | refine State.setSts_keeps ?_
    | refine State.deferStep_keeps ?_ | refine State.Keeps.ite ?_ ?_
    | fail_if_no_progress (refine State.Keeps.upd ?_ rfl rfl rfl rfl) | split

theorem State.servoState_keeps {s e} (h : s.Keeps q)
    (hq : q.Off 0x204306 := by have h := ‹Keep.Off q _›; exact Keep.sub h (by decide)) :
    (State.servoState s e).Keeps q := by
  unfold State.servoState
  with_reducible repeat' first
    | assumption
    | ((try lift_lets -underBinder); intro x; refine (fun (_ : State.Keeps q x) => ?_) ?_; on_goal 2 => unfold x)
    | ((try lift_lets -underBinder); intro x; have hx : x = x := (by unfold x; rfl); clear hx)
    | refine State.setTlState_keeps ?_ | refine State.Keeps.ite ?_ ?_
    | fail_if_no_progress (refine State.Keeps.upd ?_ rfl rfl rfl rfl)

theorem State.servoNote_keeps {s e wasLocked} (h : s.Keeps q)
    (hq : q.Off 0x200 := by have h := ‹Keep.Off q _›; exact Keep.sub h (by decide)) :
    (State.servoNote s e wasLocked).Keeps q := by
  unfold State.servoNote
  with_reducible repeat' first
    | assumption
    | ((try lift_lets -underBinder); intro x; refine (fun (_ : State.Keeps q x) => ?_) ?_; on_goal 2 => unfold x)
    | ((try lift_lets -underBinder); intro x; have hx : x = x := (by unfold x; rfl); clear hx)
    | refine State.Keeps.ite ?_ ?_ | fail_if_no_progress (refine State.Keeps.upd ?_ rfl rfl rfl rfl)

theorem State.servoEvent_keeps {s e offered} (h : s.Keeps q)
    (hq : q.Off 0x200205f06 := by have h := ‹Keep.Off q _›; exact Keep.sub h (by decide)) :
    (State.servoEvent s e offered).Keeps q := by
  unfold State.servoEvent
  with_reducible repeat' first
    | assumption
    | ((try lift_lets -underBinder); intro x; refine (fun (_ : State.Keeps q x) => ?_) ?_; on_goal 2 => unfold x)
    | ((try lift_lets -underBinder); intro x; have hx : x = x := (by unfold x; rfl); clear hx; have hy : Option _ := x; clear hy; clear_value x)
    | ((try lift_lets -underBinder); intro x; have hx : x = x := (by unfold x; rfl); clear hx)
    | refine State.sample_keeps ?_ | refine State.servoAct_keeps ?_ | refine State.setNat_keeps ?_
    | refine State.servoState_keeps ?_ | refine State.servoNote_keeps ?_ | refine State.Keeps.ite ?_ ?_
    | fail_if_no_progress (refine State.Keeps.upd ?_ rfl rfl rfl rfl)

theorem execServoEvent_keeps {e interval s} (h : s.Keeps q)
    (hq : q.Off 0x200205f06 := by have h := ‹Keep.Off q _›; exact Keep.sub h (by decide)) :
    Kept q (execServoEvent e interval s) := by
  unfold execServoEvent
  with_reducible repeat' first | assumption | refine done_keeps ?_ | refine State.servoEvent_keeps ?_

theorem State.holdExpire_keeps {s} (h : s.Keeps q)
    (hq : q.Off 0x200706 := by have h := ‹Keep.Off q _›; exact Keep.sub h (by decide)) :
    (State.holdExpire s).Keeps q := by
  unfold State.holdExpire
  with_reducible repeat' first
    | assumption | refine fun _ => ?_
    | ((try lift_lets -underBinder); intro x; have hx : x = x := (by unfold x; rfl); clear hx) | refine State.irq_keeps ?_
    | refine State.setSts_keeps ?_ | refine State.atTime_keeps ?_ ?_ | refine State.Keeps.ite ?_ ?_
    | fail_if_no_progress (refine State.Keeps.upd ?_ rfl rfl rfl rfl)

theorem execHoldExpired_keeps {s} (h : s.Keeps q)
    (hq : q.Off 0x200706 := by have h := ‹Keep.Off q _›; exact Keep.sub h (by decide)) :
    Kept q (execHoldExpired s) := by
  unfold execHoldExpired
  with_reducible repeat' first | assumption | refine done_keeps ?_ | refine State.holdExpire_keeps ?_

theorem State.leapNow_keeps {s} (h : s.Keeps q)
    (hq : q.Off 0x200106 := by have h := ‹Keep.Off q _›; exact Keep.sub h (by decide)) :
    (State.leapNow s).Keeps q := by
  unfold State.leapNow
  with_reducible repeat' first
    | assumption | ((try lift_lets -underBinder); intro x; have hx : x = x := (by unfold x; rfl); clear hx)
    | refine State.setReg_keeps ?_ | refine State.irq_keeps ?_ | refine State.setSts_keeps ?_

theorem State.leapApply_keeps {s} (h : s.Keeps q)
    (hq : q.Off 0x200706 := by have h := ‹Keep.Off q _›; exact Keep.sub h (by decide)) :
    (State.leapApply s).Keeps q := by
  unfold State.leapApply
  with_reducible repeat' first
    | assumption | refine fun _ => ?_ | refine State.leapNow_keeps ?_ | refine State.atTime_keeps ?_ ?_
    | refine State.Keeps.ite ?_ ?_

theorem execLeapApply_keeps {s} (h : s.Keeps q)
    (hq : q.Off 0x200706 := by have h := ‹Keep.Off q _›; exact Keep.sub h (by decide)) : Kept q (execLeapApply s) := by
  unfold execLeapApply
  with_reducible repeat' first | assumption | refine done_keeps ?_ | refine State.leapApply_keeps ?_

theorem State.nowLatch_keeps {s r} (h : s.Keeps q)
    (hq : q.Off 0x2200 := by have h := ‹Keep.Off q _›; exact Keep.sub h (by decide)) :
    (State.nowLatch s r).Keeps q := by
  unfold State.nowLatch
  with_reducible repeat' first
    | assumption | ((try lift_lets -underBinder); intro x; have hx : x = x := (by unfold x; rfl); clear hx)
    | refine State.emit_keeps ?_ | fail_if_no_progress (refine State.Keeps.upd ?_ rfl rfl rfl rfl)

theorem execNowLatch_keeps {req s} (h : s.Keeps q)
    (hq : q.Off 0x203306 := by have h := ‹Keep.Off q _›; exact Keep.sub h (by decide)) :
    Kept q (execNowLatch req s) := by
  unfold execNowLatch
  with_reducible repeat' first
    | assumption | refine fun _ => ?_ | refine done_keeps ?_ | refine State.nowLatch_keeps ?_
    | refine State.access_keeps ?_ ?_

theorem State.tlnCommitted_keeps {s old} (h : s.Keeps q)
    (hq : q.Off 0x204306 := by have h := ‹Keep.Off q _›; exact Keep.sub h (by decide)) :
    (State.tlnCommitted s old).Keeps q := by
  unfold State.tlnCommitted
  with_reducible repeat' first
    | assumption
    | ((try lift_lets -underBinder); intro x; refine (fun (_ : State.Keeps q x) => ?_) ?_; on_goal 2 => unfold x)
    | ((try lift_lets -underBinder); intro x; have hx : x = x := (by unfold x; rfl); clear hx)
    | refine State.slewEnd_keeps ?_ | refine State.tlnOff_keeps ?_ | refine State.voidEvents_keeps ?_
    | refine State.retune_keeps ?_ | refine State.setTlState_keeps ?_ | refine State.leapNow_keeps ?_
    | refine State.Keeps.ite ?_ ?_ | fail_if_no_progress (refine State.Keeps.upd ?_ rfl rfl rfl rfl)

end Sys2Proof.Machine
end

