-- ==== Sys2Proof/Laws/KeepsTsx.lean ====
section
/-!
SUPPORT. What the operations of Machine/Tsx.lean keep.
-/
set_option Elab.async false
namespace Sys2Proof.Machine

variable {q : Keep}

theorem State.tsxPut_keeps {s lane f} (h : s.Keeps q)
    (hq : q.Off 0x203106 := by have h := ‹Keep.Off q _›; exact Keep.sub h (by decide)) :
    (State.tsxPut s lane f).Keeps q := by
  unfold State.tsxPut
  with_reducible repeat' first
    | assumption | refine State.inc_keeps ?_ | refine State.count_keeps ?_ | refine State.emit_keeps ?_

theorem State.tsxBacklog_keeps {s} (h : s.Keeps q)
    (hq : q.Off 0x6 := by have h := ‹Keep.Off q _›; exact Keep.sub h (by decide)) : (State.tsxBacklog s).Keeps q := by
  unfold State.tsxBacklog
  with_reducible repeat' first | assumption | refine State.setNat_keeps ?_

theorem State.tsxQueue_keeps {s type plane payload} (h : s.Keeps q)
    (hq : q.Off 0x2203106 := by have h := ‹Keep.Off q _›; exact Keep.sub h (by decide)) :
    (State.tsxQueue s type plane payload).Keeps q := by
  unfold State.tsxQueue
  with_reducible repeat' first
    | assumption
    | ((try lift_lets -underBinder); intro x; refine (fun (_ : State.Keeps q x) => ?_) ?_; on_goal 2 => unfold x)
    | ((try lift_lets -underBinder); intro x; have hx : x = x := (by unfold x; rfl); clear hx)
    | refine State.tsxPut_keeps ?_ | refine State.tsxBacklog_keeps ?_
    | fail_if_no_progress (refine State.Keeps.upd ?_ rfl rfl rfl rfl)

theorem State.tsxBreak_keeps {s} (h : s.Keeps q)
    (hq : q.Off 0x2203946 := by have h := ‹Keep.Off q _›; exact Keep.sub h (by decide)) :
    (State.tsxBreak s).Keeps q := by
  unfold State.tsxBreak
  with_reducible repeat' first
    | assumption
    | ((try lift_lets -underBinder); intro x; refine (fun (_ : State.Keeps q x) => ?_) ?_; on_goal 2 => unfold x)
    | ((try lift_lets -underBinder); intro x; have hx : x = x := (by unfold x; rfl); clear hx)
    | refine State.fault_keeps ?_ | refine State.trigger_keeps ?_ | refine State.tsxQueue_keeps ?_
    | refine State.inc_keeps ?_ | refine State.tsxBacklog_keeps ?_ | refine State.Keeps.ite ?_ ?_
    | fail_if_no_progress (refine State.Keeps.upd ?_ rfl rfl rfl rfl)

theorem State.tsxSend_keeps {s type plane payload} (h : s.Keeps q)
    (hq : q.Off 0x2203946 := by have h := ‹Keep.Off q _›; exact Keep.sub h (by decide)) :
    (State.tsxSend s type plane payload).Keeps q := by
  unfold State.tsxSend
  with_reducible repeat' first
    | assumption
    | ((try lift_lets -underBinder); intro x; refine (fun (_ : State.Keeps q x) => ?_) ?_; on_goal 2 => unfold x)
    | refine State.tsxBreak_keeps ?_ | refine State.tsxQueue_keeps ?_ | refine State.Keeps.ite ?_ ?_

theorem State.tell_keeps {s type payload} (h : s.Keeps q)
    (hq : q.Off 0x2203946 := by have h := ‹Keep.Off q _›; exact Keep.sub h (by decide)) :
    (State.tell s type payload).Keeps q := by
  unfold State.tell
  with_reducible repeat' first | assumption | refine State.tsxSend_keeps ?_ | refine State.Keeps.ite ?_ ?_

theorem State.tellInput_keeps {s cls port epoch stamp d} (h : s.Keeps q)
    (hq : q.Off 0x2203946 := by have h := ‹Keep.Off q _›; exact Keep.sub h (by decide)) :
    (State.tellInput s cls port epoch stamp d).Keeps q := by
  unfold State.tellInput
  with_reducible repeat' first
    | assumption | refine fun _ => ?_ | refine State.tell_keeps ?_ | refine State.Keeps.foldl ?_ ?_

theorem State.tellSense_keeps {s cls index code} (h : s.Keeps q)
    (hq : q.Off 0x2203946 := by have h := ‹Keep.Off q _›; exact Keep.sub h (by decide)) :
    (State.tellSense s cls index code).Keeps q := by
  unfold State.tellSense
  with_reducible repeat' first | assumption | refine State.tell_keeps ?_

theorem State.tellOutcome_keeps {s cls port image} (h : s.Keeps q)
    (hq : q.Off 0x2203946 := by have h := ‹Keep.Off q _›; exact Keep.sub h (by decide)) :
    (State.tellOutcome s cls port image).Keeps q := by
  unfold State.tellOutcome
  with_reducible repeat' first | assumption | refine State.tell_keeps ?_

theorem State.tellMem_keeps {s a a2 a3} (h : s.Keeps q)
    (hq : q.Off 0x2203946 := by have h := ‹Keep.Off q _›; exact Keep.sub h (by decide)) :
    (State.tellMem s a a2 a3).Keeps q := by
  fun_induction State.tellMem s a a2 a3 <;> try simp only [*]
  with_reducible repeat' first | assumption | refine State.tell_keeps ?_ | apply_assumption -exfalso -symm

theorem State.hwTell_keeps {s a l} (h : s.Keeps q)
    (hq : q.Off 0x2203946 := by have h := ‹Keep.Off q _›; exact Keep.sub h (by decide)) :
    (State.hwTell s a l).Keeps q := by
  unfold State.hwTell
  with_reducible repeat' first | assumption | refine State.tellMem_keeps ?_ | refine State.Keeps.ite ?_ ?_

theorem State.hwBytes_keeps {s a l} (h : s.Keeps q)
    (hq : q.Off 0x2203956 := by have h := ‹Keep.Off q _›; exact Keep.sub h (by decide)) :
    (State.hwBytes s a l).Keeps q := by
  unfold State.hwBytes
  with_reducible repeat' first
    | assumption | refine State.hwTell_keeps ?_ | refine State.setBytes_keeps ?_ | refine State.Keeps.ite ?_ ?_

theorem State.dmaBytes_keeps {s a l} (h : s.Keeps q)
    (hq : q.Off 0x2203956 := by have h := ‹Keep.Off q _›; exact Keep.sub h (by decide)) :
    (State.dmaBytes s a l).Keeps q := by
  unfold State.dmaBytes
  with_reducible repeat' first
    | assumption | refine fun _ => ?_
    | ((try lift_lets -underBinder); intro x; refine (fun (_ : State.Keeps q x) => ?_) ?_; on_goal 2 => unfold x)
    | ((try lift_lets -underBinder); intro x; have hx : x = x := (by unfold x; rfl); clear hx; have hy : List _ := x; clear hy; clear_value x)
    | refine State.fault_keeps ?_ | refine State.setByte_keeps ?_ | refine State.hwTell_keeps ?_
    | refine State.Keeps.ite ?_ ?_ | refine State.Keeps.foldl ?_ ?_

theorem State.hwMem_keeps {s a n v} (h : s.Keeps q)
    (hq : q.Off 0x2203956 := by have h := ‹Keep.Off q _›; exact Keep.sub h (by decide)) :
    (State.hwMem s a n v).Keeps q := by
  unfold State.hwMem
  with_reducible repeat' first | assumption | refine State.hwBytes_keeps ?_

theorem State.zeroBytes_keeps {s : State} {a n} (h : s.Keeps q) (hq : q.Off 0x10 := by have h := ‹Keep.Off q _›; exact Keep.sub h (by decide)) : (State.zeroBytes s a n).Keeps q := by
  unfold State.zeroBytes
  exact h.updAll rfl h.live (fun hc => Tab.wf_keep memDefault (fun k => decide (k < a) || decide (a + n ≤ k)) (h.mem hc)) h.prog

theorem State.hwZero_keeps {s a n} (h : s.Keeps q)
    (hq : q.Off 0x2203956 := by have h := ‹Keep.Off q _›; exact Keep.sub h (by decide)) :
    (State.hwZero s a n).Keeps q := by
  unfold State.hwZero
  with_reducible repeat' first
    | assumption | refine fun _ => ?_
    | ((try lift_lets -underBinder); intro x; refine (fun (_ : State.Keeps q x) => ?_) ?_; on_goal 2 => unfold x)
    | ((try lift_lets -underBinder); intro x; have hx : x = x := (by unfold x; rfl); clear hx; have hy : List _ := x; clear hy; clear_value x)
    | refine State.zeroBytes_keeps ?_ | refine State.tellMem_keeps ?_ | refine State.Keeps.ite ?_ ?_
    | refine State.Keeps.foldl ?_ ?_

end Sys2Proof.Machine
end

