-- ==== Sys2Proof/Laws/KeepsCompose.lean ====
section
/-!
SUPPORT. What the operations of Machine/Compose.lean keep.
-/
set_option Elab.async false
namespace Sys2Proof.Machine

variable {q : Keep}

theorem State.setRegion_keeps {s n v} (h : s.Keeps q)
    (hq : q.Off 0x80000 := by have h := ‹Keep.Off q _›; exact Keep.sub h (by decide)) :
    (State.setRegion s n v).Keeps q := by
  unfold State.setRegion
  with_reducible repeat' first | assumption | fail_if_no_progress (refine State.Keeps.upd ?_ rfl rfl rfl rfl)

theorem State.setSnaps_keeps {s m l} (h : s.Keeps q)
    (hq : q.Off 0x10000 := by have h := ‹Keep.Off q _›; exact Keep.sub h (by decide)) :
    (State.setSnaps s m l).Keeps q := by
  unfold State.setSnaps
  with_reducible repeat' first | assumption | fail_if_no_progress (refine State.Keeps.upd ?_ rfl rfl rfl rfl)

theorem State.zeroSums_keeps {s base slot a} (h : s.Keeps q)
    (hq : q.Off 0x2203956 := by have h := ‹Keep.Off q _›; exact Keep.sub h (by decide)) :
    (State.zeroSums s base slot a).Keeps q := by
  fun_induction State.zeroSums s base slot a <;> try simp only [*]
  with_reducible repeat' first | assumption | refine State.hwBytes_keeps ?_

theorem State.snapshot_keeps {s k f} (h : s.Keeps q)
    (hq : q.Off 0x2213956 := by have h := ‹Keep.Off q _›; exact Keep.sub h (by decide)) :
    (State.snapshot s k f).Keeps q := by
  unfold State.snapshot
  with_reducible repeat' first
    | assumption
    | ((try lift_lets -underBinder); intro x; refine (fun (_ : State.Keeps q x) => ?_) ?_; on_goal 2 => unfold x)
    | ((try lift_lets -underBinder); intro x; have hx : x = x := (by unfold x; rfl); clear hx)
    | refine State.fault_keeps ?_ | refine State.zeroSums_keeps ?_ | refine State.setSnaps_keeps ?_
    | refine State.setNat_keeps ?_ | refine State.Keeps.ite ?_ ?_ | split

theorem State.doseSat_keeps {s m tile c} (h : s.Keeps q)
    (hq : q.Off 0x200106 := by have h := ‹Keep.Off q _›; exact Keep.sub h (by decide)) :
    (State.doseSat s m tile c).Keeps q := by
  unfold State.doseSat
  with_reducible repeat' first
    | assumption
    | ((try lift_lets -underBinder); intro x; refine (fun (_ : State.Keeps q x) => ?_) ?_; on_goal 2 => unfold x)
    | ((try lift_lets -underBinder); intro x; have hx : x = x := (by unfold x; rfl); clear hx)
    | refine State.fault_keeps ?_ | refine State.setNat_keeps ?_ | refine State.Keeps.ite ?_ ?_

theorem State.flushTile_keeps {s m base tile sumSlot d slot add} (h : s.Keeps q)
    (hq : q.Off 0x2203956 := by have h := ‹Keep.Off q _›; exact Keep.sub h (by decide)) :
    (State.flushTile s m base tile sumSlot d slot add).1.Keeps q := by
  unfold State.flushTile
  with_reducible repeat' first
    | assumption | refine fun _ => ?_
    | ((try lift_lets -underBinder); intro x; refine (fun (_ : State.Keeps q x) => ?_) ?_; on_goal 2 => unfold x)
    | ((try lift_lets -underBinder); intro x; refine (fun (_ : State.Keeps q x.1) => ?_) ?_; on_goal 2 => unfold x)
    | ((try lift_lets -underBinder); intro x; have hx : x = x := (by unfold x; rfl); clear hx)
    | refine State.doseSat_keeps ?_ | refine State.hwMem_keeps ?_ | refine State.Keeps.ite ?_ ?_
    | refine State.Keeps.foldl_fst ?_ ?_

theorem State.setLimits_keeps {s n count} (h : s.Keeps q)
    (hq : q.Off 0x200106 := by have h := ‹Keep.Off q _›; exact Keep.sub h (by decide)) :
    (State.setLimits s n count).Keeps q := by
  unfold State.setLimits
  with_reducible repeat' first
    | assumption
    | ((try lift_lets -underBinder); intro x; refine (fun (_ : State.Keeps q x) => ?_) ?_; on_goal 2 => unfold x)
    | ((try lift_lets -underBinder); intro x; have hx : x = x := (by unfold x; rfl); clear hx) | refine State.irq_keeps ?_
    | refine State.setSts_keeps ?_ | refine State.setNat_keeps ?_ | refine State.Keeps.ite ?_ ?_

theorem State.flush_keeps {s m d g slot add} (h : s.Keeps q)
    (hq : q.Off 0x2203956 := by have h := ‹Keep.Off q _›; exact Keep.sub h (by decide)) :
    (State.flush s m d g slot add).Keeps q := by
  unfold State.flush
  with_reducible repeat' first
    | assumption | refine fun _ => ?_
    | ((try lift_lets -underBinder); intro x; refine (fun (_ : State.Keeps q x.1) => ?_) ?_; on_goal 2 => unfold x)
    | ((try lift_lets -underBinder); intro x; have hx : x = x := (by unfold x; rfl); clear hx)
    | refine State.flushTile_keeps ?_ | refine State.setLimits_keeps ?_ | refine State.Keeps.foldl_fst ?_ ?_

theorem State.flushAtStart_keeps {s k now} (h : s.Keeps q)
    (hq : q.Off 0x2203956 := by have h := ‹Keep.Off q _›; exact Keep.sub h (by decide)) :
    (State.flushAtStart s k now).Keeps q := by
  unfold State.flushAtStart
  with_reducible repeat' first
    | assumption | ((try lift_lets -underBinder); intro x; have hx : x = x := (by unfold x; rfl); clear hx)
    | refine State.flush_keeps ?_ | refine State.Keeps.ite ?_ ?_ | split

theorem State.flushAtLeave_keeps {s k now} (h : s.Keeps q)
    (hq : q.Off 0x2203956 := by have h := ‹Keep.Off q _›; exact Keep.sub h (by decide)) :
    (State.flushAtLeave s k now).Keeps q := by
  unfold State.flushAtLeave
  with_reducible repeat' first
    | assumption | ((try lift_lets -underBinder); intro x; have hx : x = x := (by unfold x; rfl); clear hx)
    | refine State.flush_keeps ?_ | refine State.Keeps.ite ?_ ?_ | split

theorem State.addSums_keeps {s m x sums} (h : s.Keeps q)
    (hq : q.Off 0x2203956 := by have h := ‹Keep.Off q _›; exact Keep.sub h (by decide)) :
    (State.addSums s m x sums).Keeps q := by
  unfold State.addSums
  with_reducible repeat' first
    | assumption | refine fun _ => ?_
    | ((try lift_lets -underBinder); intro x; refine (fun (_ : State.Keeps q x) => ?_) ?_; on_goal 2 => unfold x)
    | ((try lift_lets -underBinder); intro x; have hx : x = x := (by unfold x; rfl); clear hx)
    | refine State.doseSat_keeps ?_ | refine State.hwMem_keeps ?_ | refine State.Keeps.ite ?_ ?_
    | refine State.Keeps.foldl ?_ ?_

theorem State.reuseCheck_keeps {s addr n} (h : s.Keeps q)
    (hq : q.Off 0x200106 := by have h := ‹Keep.Off q _›; exact Keep.sub h (by decide)) :
    (State.reuseCheck s addr n).Keeps q := by
  unfold State.reuseCheck
  with_reducible repeat' first
    | assumption | refine fun _ => ?_
    | ((try lift_lets -underBinder); intro x; refine (fun (_ : State.Keeps q x) => ?_) ?_; on_goal 2 => unfold x)
    | ((try lift_lets -underBinder); intro x; have hx : x = x := (by unfold x; rfl); clear hx)
    | refine State.fault_keeps ?_ | refine State.setNat_keeps ?_ | refine State.inc_keeps ?_
    | refine State.Keeps.ite ?_ ?_ | refine State.Keeps.foldl ?_ ?_

theorem State.ingestFlip_keeps {s l b} (h : s.Keeps q)
    (hq : q.Off 0x6 := by have h := ‹Keep.Off q _›; exact Keep.sub h (by decide)) :
    (State.ingestFlip s l b).Keeps q := by
  unfold State.ingestFlip
  with_reducible repeat' first
    | assumption | ((try lift_lets -underBinder); intro x; have hx : x = x := (by unfold x; rfl); clear hx)
    | refine State.setBoth_keeps ?_ | refine State.inc_keeps ?_

end Sys2Proof.Machine
end

