-- ==== Sys2Proof/Laws/KeepsJobStore.lean ====
section
/-!
SUPPORT. What the operations of Machine/JobStore.lean keep.
-/
set_option Elab.async false
namespace Sys2Proof.Machine

variable {q : Keep}

theorem State.modRegion_keeps {s n f} (h : s.Keeps q)
    (hq : q.Off 0x80000 := by have h := ‹Keep.Off q _›; exact Keep.sub h (by decide)) :
    (State.modRegion s n f).Keeps q := by
  unfold State.modRegion
  with_reducible repeat' first | assumption | refine State.setRegion_keeps ?_

theorem State.jobFault_keeps {s n kind j executor} (h : s.Keeps q)
    (hq : q.Off 0x200106 := by have h := ‹Keep.Off q _›; exact Keep.sub h (by decide)) :
    (State.jobFault s n kind j executor).Keeps q := by
  unfold State.jobFault
  with_reducible repeat' first
    | assumption
    | ((try lift_lets -underBinder); intro x; refine (fun (_ : State.Keeps q x) => ?_) ?_; on_goal 2 => unfold x)
    | ((try lift_lets -underBinder); intro x; have hx : x = x := (by unfold x; rfl); clear hx)
    | refine State.fault_keeps ?_ | refine State.setNat_keeps ?_ | refine State.inc_keeps ?_
    | refine State.Keeps.ite ?_ ?_

theorem State.frameReady_keeps {s k f} (h : s.Keeps q)
    (hq : q.Off 0x2207946 := by have h := ‹Keep.Off q _›; exact Keep.sub h (by decide)) :
    (State.frameReady s k f).Keeps q := by
  unfold State.frameReady
  with_reducible repeat' first
    | assumption
    | ((try lift_lets -underBinder); intro x; refine (fun (_ : State.Keeps q x) => ?_) ?_; on_goal 2 => unfold x)
    | ((try lift_lets -underBinder); intro x; have hx : x = x := (by unfold x; rfl); clear hx)
    | refine State.setSwath_keeps ?_ | refine State.tell_keeps ?_ | refine State.Keeps.ite ?_ ?_
    | fail_if_no_progress (refine State.Keeps.upd ?_ rfl rfl rfl rfl)

theorem State.readyCheck_keeps {s k f} (h : s.Keeps q)
    (hq : q.Off 0x2207946 := by have h := ‹Keep.Off q _›; exact Keep.sub h (by decide)) :
    (State.readyCheck s k f).Keeps q := by
  unfold State.readyCheck
  with_reducible repeat' first | assumption | refine State.frameReady_keeps ?_ | refine State.Keeps.ite ?_ ?_

theorem State.sourceDone_keeps {s src} (h : s.Keeps q)
    (hq : q.Off 0x2207946 := by have h := ‹Keep.Off q _›; exact Keep.sub h (by decide)) :
    (State.sourceDone s src).Keeps q := by
  unfold State.sourceDone
  with_reducible repeat' first | assumption | refine State.readyCheck_keeps ?_ | split

theorem State.setDomain_keeps {s d v} (h : s.Keeps q)
    (hq : q.Off 0x80000 := by have h := ‹Keep.Off q _›; exact Keep.sub h (by decide)) :
    (State.setDomain s d v).Keeps q := by
  unfold State.setDomain
  with_reducible repeat' first | assumption | refine State.modRegion_keeps ?_

theorem State.dropJob_keeps {s n j} (h : s.Keeps q)
    (hq : q.Off 0x2287946 := by have h := ‹Keep.Off q _›; exact Keep.sub h (by decide)) :
    (State.dropJob s n j).Keeps q := by
  unfold State.dropJob
  with_reducible repeat' first
    | assumption
    | ((try lift_lets -underBinder); intro x; refine (fun (_ : State.Keeps q x) => ?_) ?_; on_goal 2 => unfold x)
    | refine State.fault_keeps ?_ | refine State.jobFault_keeps ?_ | refine State.sourceDone_keeps ?_
    | refine State.count_keeps ?_ | refine State.modRegion_keeps ?_

theorem State.enterReady_keeps {s n j} (h : s.Keeps q)
    (hq : q.Off 0x2287946 := by have h := ‹Keep.Off q _›; exact Keep.sub h (by decide)) :
    (State.enterReady s n j).Keeps q := by
  unfold State.enterReady
  with_reducible repeat' first
    | assumption | ((try lift_lets -underBinder); intro x; have hx : x = x := (by unfold x; rfl); clear hx)
    | refine State.dropJob_keeps ?_ | refine State.modRegion_keeps ?_ | refine State.Keeps.ite ?_ ?_

theorem State.takeIn_keeps {s n j} (h : s.Keeps q)
    (hq : q.Off 0x2287946 := by have h := ‹Keep.Off q _›; exact Keep.sub h (by decide)) :
    (State.takeIn s n j).Keeps q := by
  unfold State.takeIn
  with_reducible repeat' first
    | assumption | refine State.enterReady_keeps ?_ | refine State.modRegion_keeps ?_ | refine State.Keeps.ite ?_ ?_

theorem State.enterAll_keeps {s n a} (h : s.Keeps q)
    (hq : q.Off 0x2287946 := by have h := ‹Keep.Off q _›; exact Keep.sub h (by decide)) :
    (State.enterAll s n a).Keeps q := by
  fun_induction State.enterAll s n a <;> try simp only [*]
  with_reducible repeat' first
    | assumption | refine State.enterReady_keeps ?_ | apply_assumption -exfalso -symm

theorem State.releaseWaiters_keeps {s n c} (h : s.Keeps q)
    (hq : q.Off 0x2287946 := by have h := ‹Keep.Off q _›; exact Keep.sub h (by decide)) :
    (State.releaseWaiters s n c).Keeps q := by
  unfold State.releaseWaiters
  with_reducible repeat' first | assumption | refine State.enterAll_keeps ?_

theorem State.putCtr_keeps {s n c v} (h : s.Keeps q)
    (hq : q.Off 0x80000 := by have h := ‹Keep.Off q _›; exact Keep.sub h (by decide)) :
    (State.putCtr s n c v).Keeps q := by
  unfold State.putCtr
  with_reducible repeat' first | assumption | refine State.modRegion_keeps ?_

theorem State.ctrSet_keeps {s n c v} (h : s.Keeps q)
    (hq : q.Off 0x2287946 := by have h := ‹Keep.Off q _›; exact Keep.sub h (by decide)) :
    (State.ctrSet s n c v).Keeps q := by
  unfold State.ctrSet
  with_reducible repeat' first
    | assumption
    | ((try lift_lets -underBinder); intro x; refine (fun (_ : State.Keeps q x) => ?_) ?_; on_goal 2 => unfold x)
    | refine State.putCtr_keeps ?_ | refine State.releaseWaiters_keeps ?_ | refine State.Keeps.ite ?_ ?_

theorem State.ctrSub_keeps {s n c k} (h : s.Keeps q)
    (hq : q.Off 0x2287946 := by have h := ‹Keep.Off q _›; exact Keep.sub h (by decide)) :
    (State.ctrSub s n c k).Keeps q := by
  unfold State.ctrSub
  with_reducible repeat' first
    | assumption
    | ((try lift_lets -underBinder); intro x; refine (fun (_ : State.Keeps q x) => ?_) ?_; on_goal 2 => unfold x)
    | ((try lift_lets -underBinder); intro x; have hx : x = x := (by unfold x; rfl); clear hx)
    | refine State.fault_keeps ?_ | refine State.putCtr_keeps ?_ | refine State.releaseWaiters_keeps ?_
    | refine State.Keeps.ite ?_ ?_

theorem State.takeId_keeps {s n} (h : s.Keeps q)
    (hq : q.Off 0x80000 := by have h := ‹Keep.Off q _›; exact Keep.sub h (by decide)) :
    (State.takeId s n).2.Keeps q := by
  unfold State.takeId
  with_reducible repeat' first | assumption | refine State.modRegion_keeps ?_

theorem State.tagOf_keeps {s n d} (h : s.Keeps q)
    (hq : q.Off 0x1006 := by have h := ‹Keep.Off q _›; exact Keep.sub h (by decide)) :
    (State.tagOf s n d).2.Keeps q := by
  unfold State.tagOf
  with_reducible repeat' first
    | assumption
    | ((try lift_lets -underBinder); intro x; refine (fun (_ : State.Keeps q x) => ?_) ?_; on_goal 2 => unfold x)
    | ((try lift_lets -underBinder); intro x; have hx : x = x := (by unfold x; rfl); clear hx) | refine State.inc_keeps ?_
    | fail_if_no_progress (refine State.Keeps.upd ?_ rfl rfl rfl rfl) | split

theorem State.accept_keeps {s m d src epoch} (h : s.Keeps q)
    (hq : q.Off 0x2287956 := by have h := ‹Keep.Off q _›; exact Keep.sub h (by decide)) :
    (State.accept s m d src epoch).Keeps q := by
  unfold State.accept
  with_reducible repeat' first
    | assumption
    | ((try lift_lets -underBinder); intro x; refine (fun (_ : State.Keeps q x) => ?_) ?_; on_goal 2 => unfold x)
    | ((try lift_lets -underBinder); intro x; refine (fun (_ : State.Keeps q x.2) => ?_) ?_; on_goal 2 => unfold x)
    | ((try lift_lets -underBinder); intro x; have hx : x = x := (by unfold x; rfl); clear hx)
    | refine State.takeIn_keeps ?_ | refine State.hwBytes_keeps ?_ | refine State.takeId_keeps ?_
    | refine State.count_keeps ?_ | refine State.modRegion_keeps ?_ | refine State.tagOf_keeps ?_
    | refine State.Keeps.ite ?_ ?_

theorem State.submit_keeps {s n d src epoch} (h : s.Keeps q)
    (hq : q.Off 0x2287956 := by have h := ‹Keep.Off q _›; exact Keep.sub h (by decide)) :
    (State.submit s n d src epoch).1.Keeps q := by
  unfold State.submit
  with_reducible repeat' first
    | assumption
    | ((try lift_lets -underBinder); intro x; refine (fun (_ : State.Keeps q x.2) => ?_) ?_; on_goal 2 => unfold x)
    | refine State.dropJob_keeps ?_ | refine State.takeId_keeps ?_ | refine State.accept_keeps ?_ | split

theorem State.readBack_keeps {s n} (h : s.Keeps q)
    (hq : q.Off 0x2287946 := by have h := ‹Keep.Off q _›; exact Keep.sub h (by decide)) :
    (State.readBack s n).Keeps q := by
  unfold State.readBack
  with_reducible repeat' first
    | assumption
    | ((try lift_lets -underBinder); intro x; refine (fun (_ : State.Keeps q x) => ?_) ?_; on_goal 2 => unfold x)
    | ((try lift_lets -underBinder); intro x; have hx : x = x := (by unfold x; rfl); clear hx; have hy : List _ := x; clear hy; clear_value x)
    | ((try lift_lets -underBinder); intro x; have hx : x = x := (by unfold x; rfl); clear hx)
    | refine State.dropJob_keeps ?_ | refine State.takeIn_keeps ?_ | refine State.count_keeps ?_
    | refine State.modRegion_keeps ?_ | refine State.Keeps.ite ?_ ?_ | split

theorem State.promote_keeps {s d} (h : s.Keeps q)
    (hq : q.Off 0x2287946 := by have h := ‹Keep.Off q _›; exact Keep.sub h (by decide)) :
    (State.promote s d).Keeps q := by
  unfold State.promote
  with_reducible repeat' first | assumption | refine State.enterAll_keeps ?_

theorem State.setHead_keeps {s d v} (h : s.Keeps q)
    (hq : q.Off 0x2287946 := by have h := ‹Keep.Off q _›; exact Keep.sub h (by decide)) :
    (State.setHead s d v).Keeps q := by
  unfold State.setHead
  with_reducible repeat' first
    | assumption
    | ((try lift_lets -underBinder); intro x; refine (fun (_ : State.Keeps q x) => ?_) ?_; on_goal 2 => unfold x)
    | ((try lift_lets -underBinder); intro x; have hx : x = x := (by unfold x; rfl); clear hx)
    | refine State.setDomain_keeps ?_ | refine State.promote_keeps ?_ | refine State.modRegion_keeps ?_

theorem State.setThread_keeps {s t v} (h : s.Keeps q)
    (hq : q.Off 0x80000 := by have h := ‹Keep.Off q _›; exact Keep.sub h (by decide)) :
    (State.setThread s t v).Keeps q := by
  unfold State.setThread
  with_reducible repeat' first | assumption | refine State.modRegion_keeps ?_

theorem State.threadReady_keeps {s t v} (h : s.Keeps q)
    (hq : q.Off 0x80080 := by have h := ‹Keep.Off q _›; exact Keep.sub h (by decide)) :
    (State.threadReady s t v).Keeps q := by
  unfold State.threadReady
  with_reducible repeat' first
    | assumption
    | ((try lift_lets -underBinder); intro x; refine (fun (_ : State.Keeps q x) => ?_) ?_; on_goal 2 => unfold x)
    | ((try lift_lets -underBinder); intro x; have hx : x = x := (by unfold x; rfl); clear hx)
    | refine State.setThread_keeps ?_ | fail_if_no_progress (refine State.Keeps.upd ?_ rfl rfl rfl rfl)

theorem State.wake_keeps {s t msg} (h : s.Keeps q)
    (hq : q.Off 0x280186 := by have h := ‹Keep.Off q _›; exact Keep.sub h (by decide)) :
    (State.wake s t msg).Keeps q := by
  unfold State.wake
  with_reducible repeat' first
    | assumption | ((try lift_lets -underBinder); intro x; have hx : x = x := (by unfold x; rfl); clear hx)
    | refine State.fault_keeps ?_ | refine State.setReg_keeps ?_ | refine State.inc_keeps ?_
    | refine State.setThread_keeps ?_ | refine State.threadReady_keeps ?_ | refine State.Keeps.ite ?_ ?_

theorem State.threadEnd_keeps {s t} (h : s.Keeps q)
    (hq : q.Off 0x80086 := by have h := ‹Keep.Off q _›; exact Keep.sub h (by decide)) :
    (State.threadEnd s t).Keeps q := by
  unfold State.threadEnd
  with_reducible repeat' first
    | assumption | ((try lift_lets -underBinder); intro x; have hx : x = x := (by unfold x; rfl); clear hx)
    | refine State.setReg_keeps ?_ | refine State.setThread_keeps ?_ | refine State.threadReady_keeps ?_
    | refine State.Keeps.ite ?_ ?_ | split

theorem State.writeTrace_keeps {s n j} (h : s.Keeps q)
    (hq : q.Off 0x2203956 := by have h := ‹Keep.Off q _›; exact Keep.sub h (by decide)) :
    (State.writeTrace s n j).Keeps q := by
  unfold State.writeTrace
  with_reducible repeat' first
    | assumption
    | ((try lift_lets -underBinder); intro x; refine (fun (_ : State.Keeps q x) => ?_) ?_; on_goal 2 => unfold x)
    | ((try lift_lets -underBinder); intro x; have hx : x = x := (by unfold x; rfl); clear hx) | refine State.irq_keeps ?_
    | refine State.setNat_keeps ?_ | refine State.inc_keeps ?_ | refine State.hwBytes_keeps ?_
    | refine State.Keeps.ite ?_ ?_ | split

theorem State.ingestRetire_keeps {s j} (h : s.Keeps q)
    (hq : q.Off 0x200106 := by have h := ‹Keep.Off q _›; exact Keep.sub h (by decide)) :
    (State.ingestRetire s j).Keeps q := by
  unfold State.ingestRetire
  with_reducible repeat' first
    | assumption
    | ((try lift_lets -underBinder); intro x; refine (fun (_ : State.Keeps q x) => ?_) ?_; on_goal 2 => unfold x)
    | ((try lift_lets -underBinder); intro x; have hx : x = x := (by unfold x; rfl); clear hx)
    | refine State.setFlag_keeps ?_ | refine State.irq_keeps ?_ | refine State.ingestFlip_keeps ?_
    | refine State.setNat_keeps ?_ | refine State.inc_keeps ?_ | refine State.Keeps.ite ?_ ?_

theorem State.packRetire_keeps {s j} (h : s.Keeps q)
    (hq : q.Off 0x100000 := by have h := ‹Keep.Off q _›; exact Keep.sub h (by decide)) :
    (State.packRetire s j).Keeps q := by
  unfold State.packRetire
  with_reducible repeat' first
    | assumption
    | ((try lift_lets -underBinder); intro x; have hx : x = x := (by unfold x; rfl); clear hx; have hy : List _ := x; clear hy; clear_value x)
    | ((try lift_lets -underBinder); intro x; have hx : x = x := (by unfold x; rfl); clear hx)
    | fail_if_no_progress (refine State.Keeps.upd ?_ rfl rfl rfl rfl)

theorem State.retireEffect_keeps {s j} (h : s.Keeps q)
    (hq : q.Off 0x23839d6 := by have h := ‹Keep.Off q _›; exact Keep.sub h (by decide)) :
    (State.retireEffect s j).Keeps q := by
  unfold State.retireEffect
  with_reducible repeat' first
    | assumption | refine fun _ => ?_ | refine State.ingestRetire_keeps ?_ | refine State.addSums_keeps ?_
    | refine State.wake_keeps ?_ | refine State.hwMem_keeps ?_ | refine State.packRetire_keeps ?_
    | refine State.Keeps.ite ?_ ?_ | refine State.Keeps.foldl ?_ ?_ | split

theorem State.sendSignals_keeps {s a} (h : s.Keeps q)
    (hq : q.Off 0x80000 := by have h := ‹Keep.Off q _›; exact Keep.sub h (by decide)) :
    (State.sendSignals s a).Keeps q := by
  fun_induction State.sendSignals s a <;> try simp only [*]
  with_reducible repeat' first | assumption | refine State.modRegion_keeps ?_ | apply_assumption -exfalso -symm

theorem State.donePend_keeps {s n} (h : s.Keeps q)
    (hq : q.Off 0x200106 := by have h := ‹Keep.Off q _›; exact Keep.sub h (by decide)) :
    (State.donePend s n).Keeps q := by
  unfold State.donePend
  with_reducible repeat' first | assumption | refine State.irq_keeps ?_ | refine State.setSts_keeps ?_

theorem State.retire_keeps {s n j} (h : s.Keeps q)
    (hq : q.Off 0x23879d6 := by have h := ‹Keep.Off q _›; exact Keep.sub h (by decide)) :
    (State.retire s n j).Keeps q := by
  unfold State.retire
  with_reducible repeat' first
    | assumption
    | ((try lift_lets -underBinder); intro x; refine (fun (_ : State.Keeps q x) => ?_) ?_; on_goal 2 => unfold x)
    | ((try lift_lets -underBinder); intro x; have hx : x = x := (by unfold x; rfl); clear hx)
    | refine State.setDomain_keeps ?_ | refine State.jobFault_keeps ?_ | refine State.promote_keeps ?_
    | refine State.sourceDone_keeps ?_ | refine State.inc_keeps ?_ | refine State.writeTrace_keeps ?_
    | refine State.retireEffect_keeps ?_ | refine State.donePend_keeps ?_ | refine State.count_keeps ?_
    | refine State.modRegion_keeps ?_ | refine State.sendSignals_keeps ?_ | refine State.Keeps.ite ?_ ?_ | split

theorem State.complete_keeps {s n j} (h : s.Keeps q)
    (hq : q.Off 0x23879d6 := by have h := ‹Keep.Off q _›; exact Keep.sub h (by decide)) :
    (State.complete s n j).Keeps q := by
  unfold State.complete
  with_reducible repeat' first
    | assumption | ((try lift_lets -underBinder); intro x; have hx : x = x := (by unfold x; rfl); clear hx)
    | refine State.retire_keeps ?_ | refine State.modRegion_keeps ?_ | refine State.Keeps.ite ?_ ?_

theorem State.handBack_keeps {s n j} (h : s.Keeps q)
    (hq : q.Off 0x23879d6 := by have h := ‹Keep.Off q _›; exact Keep.sub h (by decide)) :
    (State.handBack s n j).Keeps q := by
  unfold State.handBack
  with_reducible repeat' first
    | assumption | refine State.complete_keeps ?_ | refine State.modRegion_keeps ?_ | refine State.Keeps.ite ?_ ?_

theorem State.handBackAll_keeps {s e} (h : s.Keeps q)
    (hq : q.Off 0x23879d6 := by have h := ‹Keep.Off q _›; exact Keep.sub h (by decide)) :
    (State.handBackAll s e).Keeps q := by
  unfold State.handBackAll
  with_reducible repeat' first
    | assumption | refine fun _ => ?_ | refine State.handBack_keeps ?_ | refine State.Keeps.foldl ?_ ?_

theorem State.setListRun_keeps {s n k v} (h : s.Keeps q)
    (hq : q.Off 0x80000 := by have h := ‹Keep.Off q _›; exact Keep.sub h (by decide)) :
    (State.setListRun s n k v).Keeps q := by
  unfold State.setListRun
  with_reducible repeat' first | assumption | refine State.modRegion_keeps ?_

theorem State.holdRelease_keeps {s k} (h : s.Keeps q)
    (hq : q.Off 0x80006 := by have h := ‹Keep.Off q _›; exact Keep.sub h (by decide)) :
    (State.holdRelease s k).Keeps q := by
  unfold State.holdRelease
  with_reducible repeat' first
    | assumption | refine fun _ => ?_
    | ((try lift_lets -underBinder); intro x; refine (fun (_ : State.Keeps q x) => ?_) ?_; on_goal 2 => unfold x)
    | refine State.inc_keeps ?_ | refine State.modRegion_keeps ?_ | refine State.Keeps.ite ?_ ?_
    | refine State.Keeps.foldl ?_ ?_

theorem State.endHold_keeps {s k} (h : s.Keeps q)
    (hq : q.Off 0x80000 := by have h := ‹Keep.Off q _›; exact Keep.sub h (by decide)) :
    (State.endHold s k).Keeps q := by
  unfold State.endHold
  with_reducible repeat' first
    | assumption | refine fun _ => ?_ | refine State.modRegion_keeps ?_ | refine State.Keeps.foldl ?_ ?_

theorem State.reload_keeps {s n off} (h : s.Keeps q)
    (hq : q.Off 0x2287946 := by have h := ‹Keep.Off q _›; exact Keep.sub h (by decide)) :
    (State.reload s n off).Keeps q := by
  unfold State.reload
  with_reducible repeat' first | assumption | refine State.ctrSet_keeps ?_ | split

theorem State.reloadList_keeps {s n i} (h : s.Keeps q)
    (hq : q.Off 0x2287946 := by have h := ‹Keep.Off q _›; exact Keep.sub h (by decide)) :
    (State.reloadList s n i).Keeps q := by
  unfold State.reloadList
  with_reducible repeat' first | assumption | refine State.reload_keeps ?_

theorem State.beginList_keeps {s n i f auto} (h : s.Keeps q)
    (hq : q.Off 0x80006 := by have h := ‹Keep.Off q _›; exact Keep.sub h (by decide)) :
    (State.beginList s n i f auto).Keeps q := by
  unfold State.beginList
  with_reducible repeat' first
    | assumption
    | ((try lift_lets -underBinder); intro x; refine (fun (_ : State.Keeps q x) => ?_) ?_; on_goal 2 => unfold x)
    | ((try lift_lets -underBinder); intro x; have hx : x = x := (by unfold x; rfl); clear hx)
    | refine State.setListRun_keeps ?_ | refine State.setNat_keeps ?_ | refine State.modRegion_keeps ?_

theorem State.launchLists_keeps {s k f} (h : s.Keeps q)
    (hq : q.Off 0x2287946 := by have h := ‹Keep.Off q _›; exact Keep.sub h (by decide)) :
    (State.launchLists s k f).Keeps q := by
  unfold State.launchLists
  with_reducible repeat' first
    | assumption | refine fun _ => ?_
    | ((try lift_lets -underBinder); intro x; refine (fun (_ : State.Keeps q x) => ?_) ?_; on_goal 2 => unfold x)
    | ((try lift_lets -underBinder); intro x; have hx : x = x := (by unfold x; rfl); clear hx; have hy : List _ := x; clear hy; clear_value x)
    | refine State.beginList_keeps ?_ | refine State.reloadList_keeps ?_ | refine State.readyCheck_keeps ?_
    | refine State.Keeps.foldl ?_ ?_

theorem State.readList_keeps {s n k} (h : s.Keeps q)
    (hq : q.Off 0x2287956 := by have h := ‹Keep.Off q _›; exact Keep.sub h (by decide)) :
    (State.readList s n k).Keeps q := by
  unfold State.readList
  with_reducible repeat' first
    | assumption
    | ((try lift_lets -underBinder); intro x; refine (fun (_ : State.Keeps q x) => ?_) ?_; on_goal 2 => unfold x)
    | ((try lift_lets -underBinder); intro x; refine (fun (_ : State.Keeps q x.1) => ?_) ?_; on_goal 2 => unfold x)
    | ((try lift_lets -underBinder); intro x; have hx : x = x := (by unfold x; rfl); clear hx)
    | refine State.setListRun_keeps ?_ | refine State.submit_keeps ?_ | refine State.readyCheck_keeps ?_
    | refine State.Keeps.ite ?_ ?_

end Sys2Proof.Machine
end

