-- ==== Sys2Proof/Laws/KeepsPins.lean ====
section
/-!
SUPPORT. What the operations of Machine/Pins.lean keep.
-/
set_option Elab.async false
namespace Sys2Proof.Machine

variable {q : Keep}

theorem State.setPort_keeps {s key v} (h : s.Keeps q)
    (hq : q.Off 0x100000 := by have h := ‹Keep.Off q _›; exact Keep.sub h (by decide)) :
    (State.setPort s key v).Keeps q := by
  unfold State.setPort
  with_reducible repeat' first | assumption | fail_if_no_progress (refine State.Keeps.upd ?_ rfl rfl rfl rfl)

theorem State.setDmx_keeps {s k v} (h : s.Keeps q)
    (hq : q.Off 0x200000 := by have h := ‹Keep.Off q _›; exact Keep.sub h (by decide)) :
    (State.setDmx s k v).Keeps q := by
  unfold State.setDmx
  with_reducible repeat' first | assumption | fail_if_no_progress (refine State.Keeps.upd ?_ rfl rfl rfl rfl)

theorem State.setCluster_keeps {s n v} (h : s.Keeps q)
    (hq : q.Off 0x400000 := by have h := ‹Keep.Off q _›; exact Keep.sub h (by decide)) :
    (State.setCluster s n v).Keeps q := by
  unfold State.setCluster
  with_reducible repeat' first | assumption | fail_if_no_progress (refine State.Keeps.upd ?_ rfl rfl rfl rfl)

theorem State.setLamp_keeps {s k v} (h : s.Keeps q)
    (hq : q.Off 0x800000 := by have h := ‹Keep.Off q _›; exact Keep.sub h (by decide)) :
    (State.setLamp s k v).Keeps q := by
  unfold State.setLamp
  with_reducible repeat' first | assumption | fail_if_no_progress (refine State.Keeps.upd ?_ rfl rfl rfl rfl)

theorem State.setField_keeps {s k v} (h : s.Keeps q)
    (hq : q.Off 0x1000000 := by have h := ‹Keep.Off q _›; exact Keep.sub h (by decide)) :
    (State.setField s k v).Keeps q := by
  unfold State.setField
  with_reducible repeat' first | assumption | fail_if_no_progress (refine State.Keeps.upd ?_ rfl rfl rfl rfl)

theorem State.setLaunches_keeps {s key l} (h : s.Keeps q)
    (hq : q.Off 0x8000 := by have h := ‹Keep.Off q _›; exact Keep.sub h (by decide)) :
    (State.setLaunches s key l).Keeps q := by
  unfold State.setLaunches
  with_reducible repeat' first | assumption | fail_if_no_progress (refine State.Keeps.upd ?_ rfl rfl rfl rfl)

theorem State.wireHolds_keeps {s w level} (h : s.Keeps q)
    (hq : q.Off 0x2000 := by have h := ‹Keep.Off q _›; exact Keep.sub h (by decide)) :
    (State.wireHolds s w level).Keeps q := by
  unfold State.wireHolds
  with_reducible repeat' first | assumption | refine State.emit_keeps ?_

theorem State.setDriven_keeps {s page f wires on} (h : s.Keeps q)
    (hq : q.Off 0x2006 := by have h := ‹Keep.Off q _›; exact Keep.sub h (by decide)) :
    (State.setDriven s page f wires on).Keeps q := by
  unfold State.setDriven
  with_reducible repeat' first
    | assumption | refine fun _ => ?_
    | ((try lift_lets -underBinder); intro x; refine (fun (_ : State.Keeps q x) => ?_) ?_; on_goal 2 => unfold x)
    | refine State.setSts_keeps ?_ | refine State.emit_keeps ?_ | refine State.Keeps.ite ?_ ?_
    | refine State.Keeps.foldl ?_ ?_

theorem State.pxRefresh_keeps {s k} (h : s.Keeps q)
    (hq : q.Off 0x2006 := by have h := ‹Keep.Off q _›; exact Keep.sub h (by decide)) :
    (State.pxRefresh s k).Keeps q := by
  unfold State.pxRefresh
  with_reducible repeat' first
    | assumption
    | ((try lift_lets -underBinder); intro x; refine (fun (_ : State.Keeps q x) => ?_) ?_; on_goal 2 => unfold x)
    | ((try lift_lets -underBinder); intro x; have hx : x = x := (by unfold x; rfl); clear hx)
    | refine State.setSts_keeps ?_ | refine State.setDriven_keeps ?_ | refine State.wireHolds_keeps ?_
    | refine State.Keeps.ite ?_ ?_

theorem State.pxPins_keeps {s k} (h : s.Keeps q)
    (hq : q.Off 0x2006 := by have h := ‹Keep.Off q _›; exact Keep.sub h (by decide)) : (State.pxPins s k).Keeps q := by
  unfold State.pxPins
  with_reducible repeat' first
    | assumption
    | ((try lift_lets -underBinder); intro x; refine (fun (_ : State.Keeps q x) => ?_) ?_; on_goal 2 => unfold x)
    | refine State.pxRefresh_keeps ?_ | refine State.Keeps.ite ?_ ?_

theorem State.dmxRefresh_keeps {s k} (h : s.Keeps q)
    (hq : q.Off 0x2006 := by have h := ‹Keep.Off q _›; exact Keep.sub h (by decide)) :
    (State.dmxRefresh s k).Keeps q := by
  unfold State.dmxRefresh
  with_reducible repeat' first
    | assumption
    | ((try lift_lets -underBinder); intro x; refine (fun (_ : State.Keeps q x) => ?_) ?_; on_goal 2 => unfold x)
    | ((try lift_lets -underBinder); intro x; have hx : x = x := (by unfold x; rfl); clear hx)
    | refine State.setSts_keeps ?_ | refine State.setDriven_keeps ?_ | refine State.wireHolds_keeps ?_
    | refine State.Keeps.ite ?_ ?_

theorem State.gateOff_keeps {s k} (h : s.Keeps q)
    (hq : q.Off 0x2000 := by have h := ‹Keep.Off q _›; exact Keep.sub h (by decide)) :
    (State.gateOff s k).Keeps q := by
  unfold State.gateOff
  with_reducible repeat' first | assumption | refine State.wireHolds_keeps ?_

theorem State.lclRefresh_keeps {s n} (h : s.Keeps q)
    (hq : q.Off 0x602106 := by have h := ‹Keep.Off q _›; exact Keep.sub h (by decide)) :
    (State.lclRefresh s n).Keeps q := by
  unfold State.lclRefresh
  with_reducible repeat' first
    | assumption | refine fun _ => ?_
    | ((try lift_lets -underBinder); intro x; refine (fun (_ : State.Keeps q x) => ?_) ?_; on_goal 2 => unfold x)
    | ((try lift_lets -underBinder); intro x; have hx : x = x := (by unfold x; rfl); clear hx)
    | refine State.setCluster_keeps ?_ | refine State.irq_keeps ?_ | refine State.setSts_keeps ?_
    | refine State.gateOff_keeps ?_ | refine State.setDriven_keeps ?_ | refine State.Keeps.ite ?_ ?_
    | refine State.Keeps.foldl ?_ ?_

theorem State.fldRefresh_keeps {s k} (h : s.Keeps q)
    (hq : q.Off 0x2006 := by have h := ‹Keep.Off q _›; exact Keep.sub h (by decide)) :
    (State.fldRefresh s k).Keeps q := by
  unfold State.fldRefresh
  with_reducible repeat' first
    | assumption | ((try lift_lets -underBinder); intro x; have hx : x = x := (by unfold x; rfl); clear hx)
    | refine State.setSts_keeps ?_ | refine State.setDriven_keeps ?_

theorem State.pinsRefresh_keeps {s} (h : s.Keeps q)
    (hq : q.Off 0x602106 := by have h := ‹Keep.Off q _›; exact Keep.sub h (by decide)) :
    (State.pinsRefresh s).Keeps q := by
  unfold State.pinsRefresh
  with_reducible repeat' first
    | assumption | refine fun _ => ?_
    | ((try lift_lets -underBinder); intro x; refine (fun (_ : State.Keeps q x) => ?_) ?_; on_goal 2 => unfold x)
    | refine State.pxRefresh_keeps ?_ | refine State.dmxRefresh_keeps ?_ | refine State.lclRefresh_keeps ?_
    | refine State.fldRefresh_keeps ?_ | refine State.Keeps.foldl ?_ ?_

theorem State.showEngines_keeps {s n} (h : s.Keeps q)
    (hq : q.Off 0x6 := by have h := ‹Keep.Off q _›; exact Keep.sub h (by decide)) :
    (State.showEngines s n).Keeps q := by
  unfold State.showEngines
  with_reducible repeat' first
    | assumption | refine fun _ => ?_ | refine State.setNat_keeps ?_ | refine State.Keeps.foldl ?_ ?_

theorem State.stepEngines_keeps {s n start} (h : s.Keeps q)
    (hq : q.Off 0x601106 := by have h := ‹Keep.Off q _›; exact Keep.sub h (by decide)) :
    (State.stepEngines s n start).Keeps q := by
  unfold State.stepEngines
  with_reducible repeat' first
    | assumption
    | ((try lift_lets -underBinder); intro x; refine (fun (_ : State.Keeps q x) => ?_) ?_; on_goal 2 => unfold x)
    | ((try lift_lets -underBinder); intro x; have hx : x = x := (by unfold x; rfl); clear hx; have hy : List _ := x; clear hy; clear_value x)
    | ((try lift_lets -underBinder); intro x; have hx : x = x := (by unfold x; rfl); clear hx)
    | refine State.setCluster_keeps ?_ | refine State.fault_keeps ?_ | refine State.showEngines_keeps ?_
    | refine State.count_keeps ?_ | refine State.Keeps.ite ?_ ?_

theorem State.engineCommit_keeps {s n old} (h : s.Keeps q)
    (hq : q.Off 0x400006 := by have h := ‹Keep.Off q _›; exact Keep.sub h (by decide)) :
    (State.engineCommit s n old).Keeps q := by
  unfold State.engineCommit
  with_reducible repeat' first
    | assumption
    | ((try lift_lets -underBinder); intro x; have hx : x = x := (by unfold x; rfl); clear hx; have hy : List _ := x; clear hy; clear_value x)
    | ((try lift_lets -underBinder); intro x; have hx : x = x := (by unfold x; rfl); clear hx)
    | refine State.setCluster_keeps ?_ | refine State.showEngines_keeps ?_

end Sys2Proof.Machine
end

