-- ==== Sys2Proof/Laws/KeepsCommit.lean ====
section
/-!
SUPPORT. What the operations of Machine/Commit.lean keep.
-/
set_option Elab.async false
namespace Sys2Proof.Machine

variable {q : Keep}

theorem State.setArm_keeps {s g a} (h : s.Keeps q)
    (hq : q.Off 0x8 := by have h := ‹Keep.Off q _›; exact Keep.sub h (by decide)) : (State.setArm s g a).Keeps q := by
  unfold State.setArm
  with_reducible repeat' first | assumption | fail_if_no_progress (refine State.Keeps.upd ?_ rfl rfl rfl rfl)

theorem State.copyShadows_keeps {s : State} {l} (h : s.Keeps q) (hq : q.Off 0x2 := by have h := ‹Keep.Off q _›; exact Keep.sub h (by decide)) : (State.copyShadows s l).Keeps q := by
  induction l generalizing s with
  | nil => exact h
  | cons e t ih => exact (ih h).updAll rfl (fun hc => Tab.wf_set _ _ _ ((ih h).live hc)) (ih h).mem (ih h).prog

theorem State.applyShadows_keeps {s g} (h : s.Keeps q)
    (hq : q.Off 0xe := by have h := ‹Keep.Off q _›; exact Keep.sub h (by decide)) :
    (State.applyShadows s g).Keeps q := by
  unfold State.applyShadows
  with_reducible repeat' first
    | assumption | refine fun _ => ?_
    | ((try lift_lets -underBinder); intro x; refine (fun (_ : State.Keeps q x) => ?_) ?_; on_goal 2 => unfold x)
    | ((try lift_lets -underBinder); intro x; have hx : x = x := (by unfold x; rfl); clear hx; have hy : List _ := x; clear hy; clear_value x)
    | refine State.setFlag_keeps ?_ | refine State.setArm_keeps ?_ | refine State.inc_keeps ?_
    | refine State.copyShadows_keeps ?_ | refine State.Keeps.foldl ?_ ?_
    | fail_if_no_progress (refine State.Keeps.upd ?_ rfl rfl rfl rfl)

theorem State.dropCommit_keeps {s g pages} (h : s.Keeps q)
    (hq : q.Off 0x20010e := by have h := ‹Keep.Off q _›; exact Keep.sub h (by decide)) :
    (State.dropCommit s g pages).Keeps q := by
  unfold State.dropCommit
  with_reducible repeat' first
    | assumption | refine fun _ => ?_ | refine State.badValue_keeps ?_ | refine State.setArm_keeps ?_
    | refine State.Keeps.foldl ?_ ?_

theorem State.releaseStop_keeps {s g} (h : s.Keeps q)
    (hq : q.Off 0x602186 := by have h := ‹Keep.Off q _›; exact Keep.sub h (by decide)) :
    (State.releaseStop s g).Keeps q := by
  unfold State.releaseStop
  with_reducible repeat' first
    | assumption
    | ((try lift_lets -underBinder); intro x; refine (fun (_ : State.Keeps q x) => ?_) ?_; on_goal 2 => unfold x)
    | ((try lift_lets -underBinder); intro x; have hx : x = x := (by unfold x; rfl); clear hx)
    | refine State.setPageState_keeps ?_ | refine State.pinsRefresh_keeps ?_ | refine State.Keeps.ite ?_ ?_
    | fail_if_no_progress (refine State.Keeps.upd ?_ rfl rfl rfl rfl)

theorem State.commitPoint_keeps {s g bad after} (h : s.Keeps q) (hf : ∀ a0, a0.Keeps q → (after a0).Keeps q)
    (hq : q.Off 0x60218e := by have h := ‹Keep.Off q _›; exact Keep.sub h (by decide)) :
    (State.commitPoint s g bad after).Keeps q := by
  unfold State.commitPoint
  with_reducible repeat' first
    | assumption | refine State.dropCommit_keeps ?_ | refine State.releaseStop_keeps ?_
    | refine State.applyShadows_keeps ?_ | refine hf _ ?_ | refine State.Keeps.ite ?_ ?_

theorem State.discardShadows_keeps {s g} (h : s.Keeps q)
    (hq : q.Off 0xc := by have h := ‹Keep.Off q _›; exact Keep.sub h (by decide)) :
    (State.discardShadows s g).Keeps q := by
  unfold State.discardShadows
  with_reducible repeat' first
    | assumption | refine State.setArm_keeps ?_ | fail_if_no_progress (refine State.Keeps.upd ?_ rfl rfl rfl rfl)

theorem State.rectDiscard_keeps {s k old} (h : s.Keeps q) (hold : old.Keeps q)
    (hq : q.Off 0x4000 := by have h := ‹Keep.Off q _›; exact Keep.sub h (by decide)) :
    (State.rectDiscard s k old).Keeps q := by
  unfold State.rectDiscard
  with_reducible repeat' first
    | assumption | ((try lift_lets -underBinder); intro x; have hx : x = x := (by unfold x; rfl); clear hx)
    | refine State.setSwath_keeps ?_

theorem State.anchorsChanged_keeps {s k renumbered} (h : s.Keeps q)
    (hq : q.Off 0x4000 := by have h := ‹Keep.Off q _›; exact Keep.sub h (by decide)) :
    (State.anchorsChanged s k renumbered).Keeps q := by
  unfold State.anchorsChanged
  with_reducible repeat' first
    | assumption
    | ((try lift_lets -underBinder); intro x; have hx : x = x := (by unfold x; rfl); clear hx; have hy : Option _ := x; clear hy; clear_value x)
    | ((try lift_lets -underBinder); intro x; have hx : x = x := (by unfold x; rfl); clear hx)
    | refine State.setSwath_keeps ?_

theorem State.swtEvent_keeps {s k n} (h : s.Keeps q)
    (hq : q.Off 0x200106 := by have h := ‹Keep.Off q _›; exact Keep.sub h (by decide)) :
    (State.swtEvent s k n).Keeps q := by
  unfold State.swtEvent
  with_reducible repeat' first | assumption | refine State.irq_keeps ?_ | refine State.Keeps.ite ?_ ?_

theorem State.swtCommit_keeps {s k} (h : s.Keeps q)
    (hq : q.Off 0x60618e := by have h := ‹Keep.Off q _›; exact Keep.sub h (by decide)) :
    (State.swtCommit s k).Keeps q := by
  unfold State.swtCommit
  with_reducible repeat' first
    | assumption | refine fun _ => ?_
    | ((try lift_lets -underBinder); intro x; refine (fun (_ : State.Keeps q x) => ?_) ?_; on_goal 2 => unfold x)
    | refine State.rectDiscard_keeps ?_ ?_ | refine State.swtEvent_keeps ?_ | refine State.swathLocks_keeps ?_
    | refine State.commitPoint_keeps ?_ ?_ | refine State.anchorsChanged_keeps ?_ | refine State.Keeps.ite ?_ ?_

theorem State.synCommit_keeps {s k bad} (h : s.Keeps q)
    (hq : q.Off 0x60618e := by have h := ‹Keep.Off q _›; exact Keep.sub h (by decide)) :
    (State.synCommit s k bad).Keeps q := by
  unfold State.synCommit
  with_reducible repeat' first
    | assumption | refine fun _ => ?_
    | ((try lift_lets -underBinder); intro x; have hx : x = x := (by unfold x; rfl); clear hx)
    | refine State.swathLocks_keeps ?_ | refine State.commitPoint_keeps ?_ ?_ | refine State.anchorsChanged_keeps ?_
    | refine State.Keeps.ite ?_ ?_ | refine State.Keeps.foldl ?_ ?_

theorem State.pxRewired_keeps {s k old} (h : s.Keeps q)
    (hq : q.Off 0x6 := by have h := ‹Keep.Off q _›; exact Keep.sub h (by decide)) :
    (State.pxRewired s k old).Keeps q := by
  unfold State.pxRewired
  with_reducible repeat' first
    | assumption | ((try lift_lets -underBinder); intro x; have hx : x = x := (by unfold x; rfl); clear hx)
    | refine State.setPageState_keeps ?_ | refine State.Keeps.ite ?_ ?_

theorem State.pxIdles_keeps {s k old} (h : s.Keeps q)
    (hq : q.Off 0x2000 := by have h := ‹Keep.Off q _›; exact Keep.sub h (by decide)) :
    (State.pxIdles s k old).Keeps q := by
  unfold State.pxIdles
  with_reducible repeat' first | assumption | refine State.wireHolds_keeps ?_ | refine State.Keeps.ite ?_ ?_

theorem State.pxCommit_keeps {s k} (h : s.Keeps q)
    (hq : q.Off 0x70218e := by have h := ‹Keep.Off q _›; exact Keep.sub h (by decide)) :
    (State.pxCommit s k).Keeps q := by
  unfold State.pxCommit
  with_reducible repeat' first
    | assumption | refine fun _ => ?_
    | ((try lift_lets -underBinder); intro x; refine (fun (_ : State.Keeps q x) => ?_) ?_; on_goal 2 => unfold x)
    | ((try lift_lets -underBinder); intro x; have hx : x = x := (by unfold x; rfl); clear hx)
    | refine State.setPort_keeps ?_ | refine State.pxIdles_keeps ?_ | refine State.commitPoint_keeps ?_ ?_
    | refine State.pxRewired_keeps ?_ | refine State.pxPins_keeps ?_ | refine State.Keeps.ite ?_ ?_

theorem State.dmxCommit_keeps {s k} (h : s.Keeps q)
    (hq : q.Off 0x60218e := by have h := ‹Keep.Off q _›; exact Keep.sub h (by decide)) :
    (State.dmxCommit s k).Keeps q := by
  unfold State.dmxCommit
  with_reducible repeat' first
    | assumption | refine fun _ => ?_
    | ((try lift_lets -underBinder); intro x; refine (fun (_ : State.Keeps q x) => ?_) ?_; on_goal 2 => unfold x)
    | refine State.setNat_keeps ?_ | refine State.dmxRefresh_keeps ?_ | refine State.commitPoint_keeps ?_ ?_
    | refine State.wireHolds_keeps ?_ | refine State.Keeps.ite ?_ ?_

theorem State.tsnsNone_keeps {s n} (h : s.Keeps q)
    (hq : q.Off 0x400006 := by have h := ‹Keep.Off q _›; exact Keep.sub h (by decide)) :
    (State.tsnsNone s n).Keeps q := by
  unfold State.tsnsNone
  with_reducible repeat' first
    | assumption | ((try lift_lets -underBinder); intro x; have hx : x = x := (by unfold x; rfl); clear hx)
    | refine State.setCluster_keeps ?_ | refine State.setNat_keeps ?_ | refine State.Keeps.ite ?_ ?_

theorem State.lclCommit_keeps {s n} (h : s.Keeps q)
    (hq : q.Off 0x70218e := by have h := ‹Keep.Off q _›; exact Keep.sub h (by decide)) :
    (State.lclCommit s n).Keeps q := by
  unfold State.lclCommit
  with_reducible repeat' first
    | assumption | refine fun _ => ?_
    | ((try lift_lets -underBinder); intro x; refine (fun (_ : State.Keeps q x) => ?_) ?_; on_goal 2 => unfold x)
    | ((try lift_lets -underBinder); intro x; have hx : x = x := (by unfold x; rfl); clear hx)
    | refine State.setPort_keeps ?_ | refine State.lclRefresh_keeps ?_ | refine State.commitPoint_keeps ?_ ?_
    | refine State.engineCommit_keeps ?_ | refine State.tsnsNone_keeps ?_

theorem State.lmpCommit_keeps {s k} (h : s.Keeps q)
    (hq : q.Off 0x60218e := by have h := ‹Keep.Off q _›; exact Keep.sub h (by decide)) :
    (State.lmpCommit s k).Keeps q := by
  unfold State.lmpCommit
  with_reducible repeat' first
    | assumption | refine fun _ => ?_ | refine State.commitPoint_keeps ?_ ?_ | refine State.Keeps.id_ ?_

theorem State.commit2_keeps {s g} (h : s.Keeps q)
    (hq : q.Off 0x70618e := by have h := ‹Keep.Off q _›; exact Keep.sub h (by decide)) :
    (State.commit2 s g).Keeps q := by
  unfold State.commit2
  with_reducible repeat' first
    | assumption | refine State.swtCommit_keeps ?_ | refine State.lmpCommit_keeps ?_ | refine State.pxCommit_keeps ?_
    | refine State.dmxCommit_keeps ?_ | refine State.lclCommit_keeps ?_ | split

theorem State.commitIdle_keeps {s g} (h : s.Keeps q)
    (hq : q.Off 0x70618e := by have h := ‹Keep.Off q _›; exact Keep.sub h (by decide)) :
    (State.commitIdle s g).Keeps q := by
  unfold State.commitIdle
  with_reducible repeat' first
    | assumption | ((try lift_lets -underBinder); intro x; have hx : x = x := (by unfold x; rfl); clear hx)
    | refine State.commit2_keeps ?_ | refine State.Keeps.ite ?_ ?_

theorem State.commitAllIdle_keeps {s} (h : s.Keeps q)
    (hq : q.Off 0x70618e := by have h := ‹Keep.Off q _›; exact Keep.sub h (by decide)) :
    (State.commitAllIdle s).Keeps q := by
  unfold State.commitAllIdle
  with_reducible repeat' first
    | assumption | refine fun _ => ?_ | refine State.commitIdle_keeps ?_ | refine State.Keeps.foldl ?_ ?_

theorem State.commitAt_keeps {s k t g} (h : s.Keeps q)
    (hq : q.Off 0x70618e := by have h := ‹Keep.Off q _›; exact Keep.sub h (by decide)) :
    (State.commitAt s k t g).Keeps q := by
  unfold State.commitAt
  with_reducible repeat' first
    | assumption | refine fun _ => ?_
    | ((try lift_lets -underBinder); intro x; refine (fun (_ : State.Keeps q x) => ?_) ?_; on_goal 2 => unfold x)
    | ((try lift_lets -underBinder); intro x; have hx : x = x := (by unfold x; rfl); clear hx)
    | refine State.setFlag_keeps ?_ | refine State.swtEvent_keeps ?_ | refine State.commit2_keeps ?_
    | refine State.Keeps.ite ?_ ?_ | refine State.Keeps.foldl ?_ ?_

theorem State.commitStart_keeps {s k t} (h : s.Keeps q)
    (hq : q.Off 0x70618e := by have h := ‹Keep.Off q _›; exact Keep.sub h (by decide)) :
    (State.commitStart s k t).Keeps q := by
  unfold State.commitStart
  with_reducible repeat' first
    | assumption | refine fun _ => ?_ | refine State.commitAt_keeps ?_ | refine State.Keeps.foldl ?_ ?_

end Sys2Proof.Machine
end

