-- ==== Sys2Proof/Laws/KeepsMerge.lean ====
section
/-!
SUPPORT. What the operations of Machine/Merge.lean keep.
-/
set_option Elab.async false
namespace Sys2Proof.Machine

variable {q : Keep}

theorem State.popTimes_keeps {s j q2 a} (h : s.Keeps q)
    (hq : q.Off 0x201946 := by have h := ‹Keep.Off q _›; exact Keep.sub h (by decide)) :
    (State.popTimes s j q2 a).Keeps q := by
  fun_induction State.popTimes s j q2 a <;> try simp only [*]
  with_reducible repeat' first | assumption | refine State.queuePop_keeps ?_ | apply_assumption -exfalso -symm

theorem State.popPacket_keeps {s j q2} (h : s.Keeps q)
    (hq : q.Off 0x201946 := by have h := ‹Keep.Off q _›; exact Keep.sub h (by decide)) :
    (State.popPacket s j q2).Keeps q := by
  unfold State.popPacket
  with_reducible repeat' first
    | assumption | ((try lift_lets -underBinder); intro x; have hx : x = x := (by unfold x; rfl); clear hx)
    | refine State.popTimes_keeps ?_

theorem State.setMergeSources_keeps {s k l} (h : s.Keeps q)
    (hq : q.Off 0x4000000 := by have h := ‹Keep.Off q _›; exact Keep.sub h (by decide)) :
    (State.setMergeSources s k l).Keeps q := by
  unfold State.setMergeSources
  with_reducible repeat' first
    | assumption | ((try lift_lets -underBinder); intro x; have hx : x = x := (by unfold x; rfl); clear hx)
    | fail_if_no_progress (refine State.Keeps.upd ?_ rfl rfl rfl rfl)

theorem State.mergeQueue_keeps {s e} (h : s.Keeps q)
    (hq : q.Off 0x201946 := by have h := ‹Keep.Off q _›; exact Keep.sub h (by decide)) :
    (State.mergeQueue s e).Keeps q := by
  unfold State.mergeQueue
  with_reducible repeat' first
    | assumption
    | ((try lift_lets -underBinder); intro x; refine (fun (_ : State.Keeps q x) => ?_) ?_; on_goal 2 => unfold x)
    | refine State.fault_keeps ?_ | refine State.queuePacket_keeps ?_ | refine State.inc_keeps ?_
    | refine State.Keeps.ite ?_ ?_

theorem State.setMergeSeq_keeps {s k cid seq} (h : s.Keeps q)
    (hq : q.Off 0x4000000 := by have h := ‹Keep.Off q _›; exact Keep.sub h (by decide)) :
    (State.setMergeSeq s k cid seq).Keeps q := by
  unfold State.setMergeSeq
  with_reducible repeat' first
    | assumption | ((try lift_lets -underBinder); intro x; have hx : x = x := (by unfold x; rfl); clear hx)
    | fail_if_no_progress (refine State.Keeps.upd ?_ rfl rfl rfl rfl)

theorem State.mergeOffer_keeps {s mac stamp f tag} (h : s.Keeps q)
    (hq : q.Off 0x4201946 := by have h := ‹Keep.Off q _›; exact Keep.sub h (by decide)) :
    (State.mergeOffer s mac stamp f tag).1.Keeps q := by
  unfold State.mergeOffer
  with_reducible repeat' first
    | assumption
    | ((try lift_lets -underBinder); intro x; have hx : x = x := (by unfold x; rfl); clear hx; have hy : List _ := x; clear hy; clear_value x)
    | ((try lift_lets -underBinder); intro x; have hx : x = x := (by unfold x; rfl); clear hx)
    | refine State.mergeQueue_keeps ?_ | refine State.setMergeSeq_keeps ?_ | refine State.inc_keeps ?_ | split

theorem State.dropSource_keeps {s k cid port} (h : s.Keeps q)
    (hq : q.Off 0x4000000 := by have h := ‹Keep.Off q _›; exact Keep.sub h (by decide)) :
    (State.dropSource s k cid port).Keeps q := by
  unfold State.dropSource
  with_reducible repeat' first
    | assumption
    | ((try lift_lets -underBinder); intro x; refine (fun (_ : State.Keeps q x) => ?_) ?_; on_goal 2 => unfold x)
    | ((try lift_lets -underBinder); intro x; have hx : x = x := (by unfold x; rfl); clear hx)
    | refine State.setMergeSources_keeps ?_ | fail_if_no_progress (refine State.Keeps.upd ?_ rfl rfl rfl rfl)

theorem State.mergeTake_keeps {s k cid port prio t slots} (h : s.Keeps q)
    (hq : q.Off 0x6203956 := by have h := ‹Keep.Off q _›; exact Keep.sub h (by decide)) :
    (State.mergeTake s k cid port prio t slots).Keeps q := by
  unfold State.mergeTake
  with_reducible repeat' first
    | assumption
    | ((try lift_lets -underBinder); intro x; refine (fun (_ : State.Keeps q x) => ?_) ?_; on_goal 2 => unfold x)
    | ((try lift_lets -underBinder); intro x; have hx : x = x := (by unfold x; rfl); clear hx; have hy : List _ := x; clear hy; clear_value x)
    | ((try lift_lets -underBinder); intro x; have hx : x = x := (by unfold x; rfl); clear hx)
    | refine State.fault_keeps ?_ | refine State.setMergeSources_keeps ?_ | refine State.inc_keeps ?_
    | refine State.hwBytes_keeps ?_ | refine State.hwZero_keeps ?_
    | fail_if_no_progress (refine State.Keeps.upd ?_ rfl rfl rfl rfl) | split

theorem State.mergeEntryApply_keeps {s e epoch} (h : s.Keeps q)
    (hq : q.Off 0x6203956 := by have h := ‹Keep.Off q _›; exact Keep.sub h (by decide)) :
    (State.mergeEntryApply s e epoch).Keeps q := by
  unfold State.mergeEntryApply
  with_reducible repeat' first
    | assumption
    | ((try lift_lets -underBinder); intro x; refine (fun (_ : State.Keeps q x) => ?_) ?_; on_goal 2 => unfold x)
    | ((try lift_lets -underBinder); intro x; have hx : x = x := (by unfold x; rfl); clear hx; have hy : Option _ := x; clear hy; clear_value x)
    | ((try lift_lets -underBinder); intro x; have hx : x = x := (by unfold x; rfl); clear hx; have hy : List _ := x; clear hy; clear_value x)
    | ((try lift_lets -underBinder); intro x; have hx : x = x := (by unfold x; rfl); clear hx)
    | refine State.dropSource_keeps ?_ | refine State.mergeTake_keeps ?_ | refine State.tellInput_keeps ?_
    | refine State.Keeps.ite ?_ ?_ | split

theorem State.mergeDrain_keeps {s epoch a} (h : s.Keeps q)
    (hq : q.Off 0x6203956 := by have h := ‹Keep.Off q _›; exact Keep.sub h (by decide)) :
    (State.mergeDrain s epoch a).Keeps q := by
  fun_induction State.mergeDrain s epoch a <;> try simp only [*]
  with_reducible repeat' first
    | assumption | refine State.mergeEntryApply_keeps ?_ | refine State.popPacket_keeps ?_
    | apply_assumption -exfalso -symm

theorem State.mergeBuild_keeps {s e} (h : s.Keeps q)
    (hq : q.Off 0x6203956 := by have h := ‹Keep.Off q _›; exact Keep.sub h (by decide)) :
    (State.mergeBuild s e).Keeps q := by
  unfold State.mergeBuild
  with_reducible repeat' first
    | assumption | refine fun _ => ?_
    | ((try lift_lets -underBinder); intro x; refine (fun (_ : State.Keeps q x) => ?_) ?_; on_goal 2 => unfold x)
    | ((try lift_lets -underBinder); intro x; have hx : x = x := (by unfold x; rfl); clear hx; have hy : List _ := x; clear hy; clear_value x)
    | ((try lift_lets -underBinder); intro x; have hx : x = x := (by unfold x; rfl); clear hx)
    | refine State.setSts_keeps ?_ | refine State.setNat_keeps ?_ | refine State.hwBytes_keeps ?_
    | refine State.mergeDrain_keeps ?_ | refine State.hwZero_keeps ?_ | refine State.Keeps.ite ?_ ?_
    | refine State.Keeps.foldl ?_ ?_ | fail_if_no_progress (refine State.Keeps.upd ?_ rfl rfl rfl rfl)

theorem State.mergeApply_keeps {s} (h : s.Keeps q)
    (hq : q.Off 0x6203956 := by have h := ‹Keep.Off q _›; exact Keep.sub h (by decide)) :
    (State.mergeApply s).Keeps q := by
  unfold State.mergeApply
  with_reducible repeat' first | assumption | refine State.mergeBuild_keeps ?_

theorem State.mergeSpent_keeps {s a} (h : s.Keeps q)
    (hq : q.Off 0x201946 := by have h := ‹Keep.Off q _›; exact Keep.sub h (by decide)) :
    (State.mergeSpent s a).Keeps q := by
  fun_induction State.mergeSpent s a <;> try simp only [*]
  with_reducible repeat' first | assumption | refine State.popPacket_keeps ?_ | apply_assumption -exfalso -symm

theorem State.mergeFollowOne_keeps {s last} (h : s.Keeps q)
    (hq : q.Off 0x6203956 := by have h := ‹Keep.Off q _›; exact Keep.sub h (by decide)) :
    (State.mergeFollowOne s last).Keeps q := by
  unfold State.mergeFollowOne
  with_reducible repeat' first
    | assumption
    | ((try lift_lets -underBinder); intro x; refine (fun (_ : State.Keeps q x) => ?_) ?_; on_goal 2 => unfold x)
    | refine State.mergeBuild_keeps ?_ | refine State.mergeSpent_keeps ?_ | refine State.Keeps.ite ?_ ?_ | split

theorem State.mergeFollowAll_keeps {s last a} (h : s.Keeps q)
    (hq : q.Off 0x6203956 := by have h := ‹Keep.Off q _›; exact Keep.sub h (by decide)) :
    (State.mergeFollowAll s last a).Keeps q := by
  fun_induction State.mergeFollowAll s last a <;> try simp only [*]
  with_reducible repeat' first
    | assumption | refine State.mergeFollowOne_keeps ?_ | apply_assumption -exfalso -symm

theorem State.mergeFollow_keeps {s e} (h : s.Keeps q)
    (hq : q.Off 0x6203956 := by have h := ‹Keep.Off q _›; exact Keep.sub h (by decide)) :
    (State.mergeFollow s e).Keeps q := by
  unfold State.mergeFollow
  with_reducible repeat' first
    | assumption
    | ((try lift_lets -underBinder); intro x; refine (fun (_ : State.Keeps q x) => ?_) ?_; on_goal 2 => unfold x)
    | refine State.mergeFollowAll_keeps ?_ | refine State.mergeBuild_keeps ?_ | refine State.Keeps.ite ?_ ?_

theorem State.mergeAtRelease_keeps {s k} (h : s.Keeps q)
    (hq : q.Off 0x6203956 := by have h := ‹Keep.Off q _›; exact Keep.sub h (by decide)) :
    (State.mergeAtRelease s k).Keeps q := by
  unfold State.mergeAtRelease
  with_reducible repeat' first | assumption | refine State.mergeApply_keeps ?_ | refine State.Keeps.ite ?_ ?_

theorem State.mergeTimed_keeps {s} (h : s.Keeps q)
    (hq : q.Off 0x6203f56 := by have h := ‹Keep.Off q _›; exact Keep.sub h (by decide)) :
    (State.mergeTimed s).Keeps q := by
  unfold State.mergeTimed
  with_reducible repeat' first
    | assumption | refine fun _ => ?_ | refine State.mergeFollowOne_keeps ?_ | refine State.atTick_keeps ?_ ?_
    | refine State.mergeApply_keeps ?_ | refine State.Keeps.ite ?_ ?_

theorem execMergeApply_keeps {s} (h : s.Keeps q)
    (hq : q.Off 0x6203f56 := by have h := ‹Keep.Off q _›; exact Keep.sub h (by decide)) :
    Kept q (execMergeApply s) := by
  unfold execMergeApply
  with_reducible repeat' first | assumption | refine done_keeps ?_ | refine State.mergeTimed_keeps ?_

theorem State.sourceLoss_keeps {s k r} (h : s.Keeps q)
    (hq : q.Off 0x4200706 := by have h := ‹Keep.Off q _›; exact Keep.sub h (by decide)) :
    (State.sourceLoss s k r).Keeps q := by
  unfold State.sourceLoss
  with_reducible repeat' first
    | assumption | refine fun _ => ?_ | refine State.dropSource_keeps ?_ | refine State.atTime_keeps ?_ ?_ | split

theorem execMergeSourceLoss_keeps {k r s} (h : s.Keeps q)
    (hq : q.Off 0x4200706 := by have h := ‹Keep.Off q _›; exact Keep.sub h (by decide)) :
    Kept q (execMergeSourceLoss k r s) := by
  unfold execMergeSourceLoss
  with_reducible repeat' first | assumption | refine done_keeps ?_ | refine State.sourceLoss_keeps ?_

end Sys2Proof.Machine
end

