-- ==== Sys2Proof/Laws/KeepsSlots.lean ====
section
/-!
SUPPORT. What the operations of Machine/Slots.lean keep.
-/
set_option Elab.async false
namespace Sys2Proof.Machine

variable {q : Keep}

theorem State.checkSlot_keeps {s key page counter bit skip g} (h : s.Keeps q)
    (hq : q.Off 0x200106 := by have h := ‹Keep.Off q _›; exact Keep.sub h (by decide)) :
    (State.checkSlot s key page counter bit skip g).1.Keeps q := by
  unfold State.checkSlot
  with_reducible repeat' first
    | assumption | ((try lift_lets -underBinder); intro x; have hx : x = x := (by unfold x; rfl); clear hx)
    | refine State.fault_keeps ?_ | refine State.inc_keeps ?_ | split

theorem State.dropLaunch_keeps {s key l} (h : s.Keeps q)
    (hq : q.Off 0x8000 := by have h := ‹Keep.Off q _›; exact Keep.sub h (by decide)) :
    (State.dropLaunch s key l).Keeps q := by
  unfold State.dropLaunch
  with_reducible repeat' first | assumption | refine State.setLaunches_keeps ?_

theorem State.chooseLaunch_keeps {s key l c} (h : s.Keeps q)
    (hq : q.Off 0x8000 := by have h := ‹Keep.Off q _›; exact Keep.sub h (by decide)) :
    (State.chooseLaunch s key l c).Keeps q := by
  unfold State.chooseLaunch
  with_reducible repeat' first | assumption | refine State.setLaunches_keeps ?_

theorem State.slotCheckAt_keeps {s key page check} (h : s.Keeps q)
    (hf : ∀ a0 a1, a0.Keeps q → (check a0 a1).1.Keeps q)
    (hq : q.Off 0x208706 := by have h := ‹Keep.Off q _›; exact Keep.sub h (by decide)) :
    (State.slotCheckAt s key page check).Keeps q := by
  unfold State.slotCheckAt
  with_reducible repeat' first
    | assumption | refine fun _ => ?_
    | ((try lift_lets -underBinder); intro x; refine (fun (_ : State.Keeps q x.1) => ?_) ?_; on_goal 2 => unfold x)
    | refine State.chooseLaunch_keeps ?_ | refine State.atTime_keeps ?_ ?_ | refine hf _ _ ?_
    | refine State.Keeps.ite ?_ ?_ | split

end Sys2Proof.Machine
end

