-- ==== Sys2Proof/Laws/KeepsPixelPorts.lean ====
section
/-!
SUPPORT. What the operations of Machine/PixelPorts.lean keep.
-/
set_option Elab.async false
namespace Sys2Proof.Machine

variable {q : Keep}

theorem State.pxFill_keeps {s k first count frame} (h : s.Keeps q)
    (hq : q.Off 0x300116 := by have h := ‹Keep.Off q _›; exact Keep.sub h (by decide)) :
    (State.pxFill s k first count frame).1.Keeps q := by
  unfold State.pxFill
  with_reducible repeat' first
    | assumption
    | ((try lift_lets -underBinder); intro x; refine (fun (_ : State.Keeps q x) => ?_) ?_; on_goal 2 => unfold x)
    | ((try lift_lets -underBinder); intro x; refine (fun (_ : State.Keeps q x.1) => ?_) ?_; on_goal 2 => unfold x)
    | ((try lift_lets -underBinder); intro x; have hx : x = x := (by unfold x; rfl); clear hx; have hy : List _ := x; clear hy; clear_value x)
    | ((try lift_lets -underBinder); intro x; have hx : x = x := (by unfold x; rfl); clear hx)
    | refine State.fault_keeps ?_ | refine State.setPort_keeps ?_ | refine State.setNat_keeps ?_
    | refine State.setBytes_keeps ?_ | split

theorem State.pxWave_keeps {s k t slot count} (h : s.Keeps q)
    (hq : q.Off 0x2000 := by have h := ‹Keep.Off q _›; exact Keep.sub h (by decide)) :
    (State.pxWave s k t slot count).Keeps q := by
  unfold State.pxWave
  with_reducible repeat' first
    | assumption | refine fun _ => ?_ | refine State.emitEdges_keeps ?_ | refine State.Keeps.foldl ?_ ?_

theorem State.pxCut_keeps {s k hold} (h : s.Keeps q)
    (hq : q.Off 0x102000 := by have h := ‹Keep.Off q _›; exact Keep.sub h (by decide)) :
    (State.pxCut s k hold).Keeps q := by
  unfold State.pxCut
  with_reducible repeat' first
    | assumption | refine fun _ => ?_
    | ((try lift_lets -underBinder); intro x; refine (fun (_ : State.Keeps q x) => ?_) ?_; on_goal 2 => unfold x)
    | ((try lift_lets -underBinder); intro x; have hx : x = x := (by unfold x; rfl); clear hx)
    | refine State.setPort_keeps ?_ | refine State.wireHolds_keeps ?_ | refine State.Keeps.ite ?_ ?_
    | refine State.Keeps.foldl ?_ ?_

theorem State.pxHold_keeps {s k} (h : s.Keeps q)
    (hq : q.Off 0x102000 := by have h := ‹Keep.Off q _›; exact Keep.sub h (by decide)) :
    (State.pxHold s k).Keeps q := by
  unfold State.pxHold
  with_reducible repeat' first
    | assumption | refine fun _ => ?_ | refine State.pxCut_keeps ?_ | refine State.wireHolds_keeps ?_
    | refine State.Keeps.ite ?_ ?_ | refine State.Keeps.foldl ?_ ?_

theorem State.countConflicts_keeps {s key page off f counter n} (h : s.Keeps q)
    (hq : q.Off 0x301106 := by have h := ‹Keep.Off q _›; exact Keep.sub h (by decide)) :
    (State.countConflicts s key page off f counter n).Keeps q := by
  unfold State.countConflicts
  with_reducible repeat' first
    | assumption | ((try lift_lets -underBinder); intro x; have hx : x = x := (by unfold x; rfl); clear hx)
    | refine State.setPort_keeps ?_ | refine State.samplesDiffer_keeps ?_ | refine State.count_keeps ?_

theorem State.pxSampling_keeps {s k} (h : s.Keeps q)
    (hq : q.Off 0x100000 := by have h := ‹Keep.Off q _›; exact Keep.sub h (by decide)) :
    (State.pxSampling s k).Keeps q := by
  unfold State.pxSampling
  with_reducible repeat' first
    | assumption | ((try lift_lets -underBinder); intro x; have hx : x = x := (by unfold x; rfl); clear hx)
    | refine State.setPort_keeps ?_ | refine State.Keeps.ite ?_ ?_

theorem State.pxCheck_keeps {s k l} (h : s.Keeps q)
    (hq : q.Off 0x201106 := by have h := ‹Keep.Off q _›; exact Keep.sub h (by decide)) :
    (State.pxCheck s k l).1.Keeps q := by
  unfold State.pxCheck
  with_reducible repeat' first
    | assumption
    | ((try lift_lets -underBinder); intro x; refine (fun (_ : State.Keeps q x.1) => ?_) ?_; on_goal 2 => unfold x)
    | refine State.checkSlot_keeps ?_ | refine State.count_keeps ?_ | split

theorem State.pxSlotCheck_keeps {s k} (h : s.Keeps q)
    (hq : q.Off 0x209706 := by have h := ‹Keep.Off q _›; exact Keep.sub h (by decide)) :
    (State.pxSlotCheck s k).Keeps q := by
  unfold State.pxSlotCheck
  with_reducible repeat' first
    | assumption | refine fun _ => ?_ | refine State.slotCheckAt_keeps ?_ ?_ | refine State.pxCheck_keeps ?_

theorem execPortSlotCheck_keeps {k s} (h : s.Keeps q)
    (hq : q.Off 0x209706 := by have h := ‹Keep.Off q _›; exact Keep.sub h (by decide)) :
    Kept q (execPortSlotCheck k s) := by
  unfold execPortSlotCheck
  with_reducible repeat' first | assumption | refine done_keeps ?_ | refine State.pxSlotCheck_keeps ?_

theorem State.setTimeRegs_keeps {s page off v} (h : s.Keeps q)
    (hq : q.Off 0x6 := by have h := ‹Keep.Off q _›; exact Keep.sub h (by decide)) :
    (State.setTimeRegs s page off v).Keeps q := by
  unfold State.setTimeRegs
  with_reducible repeat' first | assumption | refine State.setNat_keeps ?_

theorem State.pxEmit_keeps {s k g begin_ late} (h : s.Keeps q)
    (hq : q.Off 0x303106 := by have h := ‹Keep.Off q _›; exact Keep.sub h (by decide)) :
    (State.pxEmit s k g begin_ late).Keeps q := by
  unfold State.pxEmit
  with_reducible repeat' first
    | assumption
    | ((try lift_lets -underBinder); intro x; refine (fun (_ : State.Keeps q x) => ?_) ?_; on_goal 2 => unfold x)
    | ((try lift_lets -underBinder); intro x; have hx : x = x := (by unfold x; rfl); clear hx)
    | refine State.fault_keeps ?_ | refine State.setPort_keeps ?_ | refine State.pxSampling_keeps ?_
    | refine State.setNat_keeps ?_ | refine State.setTimeRegs_keeps ?_ | refine State.inc_keeps ?_
    | refine State.pxPins_keeps ?_ | refine State.count_keeps ?_ | refine State.pxWave_keeps ?_
    | refine State.Keeps.ite ?_ ?_

theorem State.pxLaunch_keeps {s k} (h : s.Keeps q)
    (hq : q.Off 0x30b706 := by have h := ‹Keep.Off q _›; exact Keep.sub h (by decide)) :
    (State.pxLaunch s k).Keeps q := by
  unfold State.pxLaunch
  with_reducible repeat' first
    | assumption | refine fun _ => ?_
    | ((try lift_lets -underBinder); intro x; refine (fun (_ : State.Keeps q x) => ?_) ?_; on_goal 2 => unfold x)
    | ((try lift_lets -underBinder); intro x; have hx : x = x := (by unfold x; rfl); clear hx)
    | refine State.pxSlotCheck_keeps ?_ | refine State.dropLaunch_keeps ?_ | refine State.pxEmit_keeps ?_
    | refine State.atTime_keeps ?_ ?_ | refine State.Keeps.ite ?_ ?_ | split

theorem execPortLaunch_keeps {k s} (h : s.Keeps q)
    (hq : q.Off 0x30b706 := by have h := ‹Keep.Off q _›; exact Keep.sub h (by decide)) :
    Kept q (execPortLaunch k s) := by
  unfold execPortLaunch
  with_reducible repeat' first | assumption | refine done_keeps ?_ | refine State.pxLaunch_keeps ?_

theorem State.outputStopped_keeps {s key page} (h : s.Keeps q)
    (hq : q.Off 0x8006 := by have h := ‹Keep.Off q _›; exact Keep.sub h (by decide)) :
    (State.outputStopped s key page).Keeps q := by
  unfold State.outputStopped
  with_reducible repeat' first
    | assumption | refine State.setPageState_keeps ?_ | refine State.setLaunches_keeps ?_ | refine State.Keeps.ite ?_ ?_

theorem State.pxEnd_keeps {s k n} (h : s.Keeps q)
    (hq : q.Off 0x30b706 := by have h := ‹Keep.Off q _›; exact Keep.sub h (by decide)) :
    (State.pxEnd s k n).Keeps q := by
  unfold State.pxEnd
  with_reducible repeat' first
    | assumption | refine fun _ => ?_
    | ((try lift_lets -underBinder); intro x; refine (fun (_ : State.Keeps q x) => ?_) ?_; on_goal 2 => unfold x)
    | ((try lift_lets -underBinder); intro x; have hx : x = x := (by unfold x; rfl); clear hx)
    | refine State.setPort_keeps ?_ | refine State.irq_keeps ?_ | refine State.inc_keeps ?_ | refine State.pxPins_keeps ?_
    | refine State.outputStopped_keeps ?_ | refine State.count_keeps ?_ | refine State.countConflicts_keeps ?_
    | refine State.atTime_keeps ?_ ?_ | refine State.Keeps.ite ?_ ?_ | split

theorem execPortEmissionEnd_keeps {k conflicts s} (h : s.Keeps q)
    (hq : q.Off 0x30b706 := by have h := ‹Keep.Off q _›; exact Keep.sub h (by decide)) :
    Kept q (execPortEmissionEnd k conflicts s) := by
  unfold execPortEmissionEnd
  with_reducible repeat' first | assumption | refine done_keeps ?_ | refine State.pxEnd_keeps ?_

theorem State.pxOff_keeps {s k} (h : s.Keeps q)
    (hq : q.Off 0x10a000 := by have h := ‹Keep.Off q _›; exact Keep.sub h (by decide)) :
    (State.pxOff s k).Keeps q := by
  unfold State.pxOff
  with_reducible repeat' first
    | assumption
    | ((try lift_lets -underBinder); intro x; refine (fun (_ : State.Keeps q x) => ?_) ?_; on_goal 2 => unfold x)
    | ((try lift_lets -underBinder); intro x; have hx : x = x := (by unfold x; rfl); clear hx)
    | refine State.setPort_keeps ?_ | refine State.setLaunches_keeps ?_ | refine State.pxCut_keeps ?_

theorem State.pxCtrl_keeps {s k en st} (h : s.Keeps q)
    (hq : q.Off 0x30a106 := by have h := ‹Keep.Off q _›; exact Keep.sub h (by decide)) :
    (State.pxCtrl s k en st).Keeps q := by
  unfold State.pxCtrl
  with_reducible repeat' first
    | assumption
    | ((try lift_lets -underBinder); intro x; refine (fun (_ : State.Keeps q x) => ?_) ?_; on_goal 2 => unfold x)
    | ((try lift_lets -underBinder); intro x; have hx : x = x := (by unfold x; rfl); clear hx)
    | refine State.setPort_keeps ?_ | refine State.pxOff_keeps ?_ | refine State.badValue_keeps ?_
    | refine State.setPageState_keeps ?_ | refine State.pxPins_keeps ?_ | refine State.outputStopped_keeps ?_
    | refine State.Keeps.ite ?_ ?_

end Sys2Proof.Machine
end

