-- ==== Sys2Proof/Laws/KeepsDmxPorts.lean ====
section
/-!
SUPPORT. What the operations of Machine/DmxPorts.lean keep.
-/
set_option Elab.async false
namespace Sys2Proof.Machine

variable {q : Keep}

theorem State.dmxFill_keeps {s k first count frame} (h : s.Keeps q)
    (hq : q.Off 0x300106 := by have h := ‹Keep.Off q _›; exact Keep.sub h (by decide)) :
    (State.dmxFill s k first count frame).1.Keeps q := by
  unfold State.dmxFill
  with_reducible repeat' first
    | assumption
    | ((try lift_lets -underBinder); intro x; have hx : x = x := (by unfold x; rfl); clear hx; have hy : List _ := x; clear hy; clear_value x)
    | ((try lift_lets -underBinder); intro x; have hx : x = x := (by unfold x; rfl); clear hx)
    | refine State.fault_keeps ?_ | refine State.setPort_keeps ?_ | split

theorem State.dmxSlotCheck_keeps {s k} (h : s.Keeps q)
    (hq : q.Off 0x208706 := by have h := ‹Keep.Off q _›; exact Keep.sub h (by decide)) :
    (State.dmxSlotCheck s k).Keeps q := by
  unfold State.dmxSlotCheck
  with_reducible repeat' first
    | assumption | refine fun _ => ?_ | refine State.slotCheckAt_keeps ?_ ?_ | refine State.checkSlot_keeps ?_

theorem execDmxSlotCheck_keeps {k s} (h : s.Keeps q)
    (hq : q.Off 0x208706 := by have h := ‹Keep.Off q _›; exact Keep.sub h (by decide)) :
    Kept q (execDmxSlotCheck k s) := by
  unfold execDmxSlotCheck
  with_reducible repeat' first | assumption | refine done_keeps ?_ | refine State.dmxSlotCheck_keeps ?_

theorem State.dmxCut_keeps {s k hold} (h : s.Keeps q)
    (hq : q.Off 0x102000 := by have h := ‹Keep.Off q _›; exact Keep.sub h (by decide)) :
    (State.dmxCut s k hold).Keeps q := by
  unfold State.dmxCut
  with_reducible repeat' first
    | assumption | ((try lift_lets -underBinder); intro x; have hx : x = x := (by unfold x; rfl); clear hx)
    | refine State.setPort_keeps ?_ | refine State.wireHolds_keeps ?_ | split

theorem State.rdmCut_keeps {s k hold} (h : s.Keeps q)
    (hq : q.Off 0x202000 := by have h := ‹Keep.Off q _›; exact Keep.sub h (by decide)) :
    (State.rdmCut s k hold).Keeps q := by
  unfold State.rdmCut
  with_reducible repeat' first
    | assumption
    | ((try lift_lets -underBinder); intro x; refine (fun (_ : State.Keeps q x) => ?_) ?_; on_goal 2 => unfold x)
    | ((try lift_lets -underBinder); intro x; have hx : x = x := (by unfold x; rfl); clear hx)
    | refine State.setDmx_keeps ?_ | refine State.wireHolds_keeps ?_ | refine State.Keeps.ite ?_ ?_ | split

theorem State.dmxEmit_keeps {s k g begin_ late} (h : s.Keeps q)
    (hq : q.Off 0x302106 := by have h := ‹Keep.Off q _›; exact Keep.sub h (by decide)) :
    (State.dmxEmit s k g begin_ late).Keeps q := by
  unfold State.dmxEmit
  with_reducible repeat' first
    | assumption
    | ((try lift_lets -underBinder); intro x; refine (fun (_ : State.Keeps q x) => ?_) ?_; on_goal 2 => unfold x)
    | ((try lift_lets -underBinder); intro x; have hx : x = x := (by unfold x; rfl); clear hx)
    | refine State.fault_keeps ?_ | refine State.setPort_keeps ?_ | refine State.dmxRefresh_keeps ?_
    | refine State.inc_keeps ?_ | refine State.emitEdges_keeps ?_ | refine State.Keeps.ite ?_ ?_

theorem State.dmxLaunch_keeps {s k} (h : s.Keeps q)
    (hq : q.Off 0x30a706 := by have h := ‹Keep.Off q _›; exact Keep.sub h (by decide)) :
    (State.dmxLaunch s k).Keeps q := by
  unfold State.dmxLaunch
  with_reducible repeat' first
    | assumption | refine fun _ => ?_
    | ((try lift_lets -underBinder); intro x; refine (fun (_ : State.Keeps q x) => ?_) ?_; on_goal 2 => unfold x)
    | ((try lift_lets -underBinder); intro x; have hx : x = x := (by unfold x; rfl); clear hx)
    | refine State.dmxEmit_keeps ?_ | refine State.dropLaunch_keeps ?_ | refine State.dmxSlotCheck_keeps ?_
    | refine State.atTime_keeps ?_ ?_ | refine State.Keeps.ite ?_ ?_ | split

theorem execDmxLaunch_keeps {k s} (h : s.Keeps q)
    (hq : q.Off 0x30a706 := by have h := ‹Keep.Off q _›; exact Keep.sub h (by decide)) :
    Kept q (execDmxLaunch k s) := by
  unfold execDmxLaunch
  with_reducible repeat' first | assumption | refine done_keeps ?_ | refine State.dmxLaunch_keeps ?_

theorem State.setOutcome_keeps {s k n} (h : s.Keeps q)
    (hq : q.Off 0x6 := by have h := ‹Keep.Off q _›; exact Keep.sub h (by decide)) :
    (State.setOutcome s k n).Keeps q := by
  unfold State.setOutcome
  with_reducible repeat' first | assumption | refine State.setFld_keeps ?_

theorem State.rdmDone_keeps {s k n} (h : s.Keeps q)
    (hq : q.Off 0x2203946 := by have h := ‹Keep.Off q _›; exact Keep.sub h (by decide)) :
    (State.rdmDone s k n).Keeps q := by
  unfold State.rdmDone
  with_reducible repeat' first
    | assumption
    | ((try lift_lets -underBinder); intro x; refine (fun (_ : State.Keeps q x) => ?_) ?_; on_goal 2 => unfold x)
    | refine State.irq_keeps ?_ | refine State.setOutcome_keeps ?_ | refine State.setSts_keeps ?_
    | refine State.tellOutcome_keeps ?_ | refine State.count_keeps ?_

theorem State.rdmAbort_keeps {s k} (h : s.Keeps q)
    (hq : q.Off 0x2203946 := by have h := ‹Keep.Off q _›; exact Keep.sub h (by decide)) :
    (State.rdmAbort s k).Keeps q := by
  unfold State.rdmAbort
  with_reducible repeat' first
    | assumption | refine State.rdmDone_keeps ?_ | refine State.dmxRefresh_keeps ?_ | refine State.rdmCut_keeps ?_
    | refine State.Keeps.ite ?_ ?_

theorem State.dmxStopped_keeps {s k} (h : s.Keeps q)
    (hq : q.Off 0xa006 := by have h := ‹Keep.Off q _›; exact Keep.sub h (by decide)) :
    (State.dmxStopped s k).Keeps q := by
  unfold State.dmxStopped
  with_reducible repeat' first
    | assumption | refine State.dmxRefresh_keeps ?_ | refine State.outputStopped_keeps ?_ | refine State.Keeps.ite ?_ ?_

theorem State.dmxEnd_keeps {s k n} (h : s.Keeps q)
    (hq : q.Off 0x30b706 := by have h := ‹Keep.Off q _›; exact Keep.sub h (by decide)) :
    (State.dmxEnd s k n).Keeps q := by
  unfold State.dmxEnd
  with_reducible repeat' first
    | assumption | refine fun _ => ?_
    | ((try lift_lets -underBinder); intro x; refine (fun (_ : State.Keeps q x) => ?_) ?_; on_goal 2 => unfold x)
    | ((try lift_lets -underBinder); intro x; refine (fun (hlet : ∀ a, State.Keeps q a → State.Keeps q (x a)) => ?_) ?_; on_goal 2 => unfold x)
    | ((try lift_lets -underBinder); intro x; have hx : x = x := (by unfold x; rfl); clear hx)
    | refine State.setPort_keeps ?_ | refine State.dmxStopped_keeps ?_ | refine State.dmxRefresh_keeps ?_
    | refine State.inc_keeps ?_ | refine State.count_keeps ?_ | refine State.countConflicts_keeps ?_
    | refine State.atTime_keeps ?_ ?_ | split

theorem execDmxPacketEnd_keeps {k conflicts s} (h : s.Keeps q)
    (hq : q.Off 0x30b706 := by have h := ‹Keep.Off q _›; exact Keep.sub h (by decide)) :
    Kept q (execDmxPacketEnd k conflicts s) := by
  unfold execDmxPacketEnd
  with_reducible repeat' first | assumption | refine done_keeps ?_ | refine State.dmxEnd_keeps ?_

theorem State.setInputState_keeps {s k n} (h : s.Keeps q)
    (hq : q.Off 0x200106 := by have h := ‹Keep.Off q _›; exact Keep.sub h (by decide)) :
    (State.setInputState s k n).Keeps q := by
  unfold State.setInputState
  with_reducible repeat' first
    | assumption | refine State.irq_keeps ?_ | refine State.setSts_keeps ?_ | refine State.Keeps.ite ?_ ?_

theorem State.dmxRxError_keeps {s k} (h : s.Keeps q)
    (hq : q.Off 0x200106 := by have h := ‹Keep.Off q _›; exact Keep.sub h (by decide)) :
    (State.dmxRxError s k).Keeps q := by
  unfold State.dmxRxError
  with_reducible repeat' first | assumption | refine State.fault_keeps ?_ | refine State.inc_keeps ?_

theorem State.dmxAccept_keeps {s k tag at_ d} (h : s.Keeps q)
    (hq : q.Off 0x2203946 := by have h := ‹Keep.Off q _›; exact Keep.sub h (by decide)) :
    (State.dmxAccept s k tag at_ d).Keeps q := by
  unfold State.dmxAccept
  with_reducible repeat' first
    | assumption
    | ((try lift_lets -underBinder); intro x; refine (fun (_ : State.Keeps q x) => ?_) ?_; on_goal 2 => unfold x)
    | ((try lift_lets -underBinder); intro x; have hx : x = x := (by unfold x; rfl); clear hx; have hy : List _ := x; clear hy; clear_value x)
    | ((try lift_lets -underBinder); intro x; have hx : x = x := (by unfold x; rfl); clear hx)
    | refine State.setInputState_keeps ?_ | refine State.setNat_keeps ?_ | refine State.mergeQueue_keeps ?_
    | refine State.queuePacket_keeps ?_ | refine State.setDmx_keeps ?_ | refine State.inc_keeps ?_
    | refine State.tellInput_keeps ?_ | refine State.count_keeps ?_ | refine State.Keeps.ite ?_ ?_

theorem State.dmxReceive_keeps {s k line} (h : s.Keeps q)
    (hq : q.Off 0x2203946 := by have h := ‹Keep.Off q _›; exact Keep.sub h (by decide)) :
    (State.dmxReceive s k line).Keeps q := by
  unfold State.dmxReceive
  with_reducible repeat' first
    | assumption
    | ((try lift_lets -underBinder); intro x; have hx : x = x := (by unfold x; rfl); clear hx; have hy : List _ := x; clear hy; clear_value x)
    | refine State.dmxRxError_keeps ?_ | refine State.dmxAccept_keeps ?_ | refine State.Keeps.ite ?_ ?_ | split

theorem execDmxRxPacket_keeps {k line s} (h : s.Keeps q)
    (hq : q.Off 0x2203946 := by have h := ‹Keep.Off q _›; exact Keep.sub h (by decide)) :
    Kept q (execDmxRxPacket k line s) := by
  unfold execDmxRxPacket
  with_reducible repeat' first | assumption | refine done_keeps ?_ | refine State.dmxReceive_keeps ?_

theorem State.dmxLoss_keeps {s k} (h : s.Keeps q)
    (hq : q.Off 0x4200706 := by have h := ‹Keep.Off q _›; exact Keep.sub h (by decide)) :
    (State.dmxLoss s k).Keeps q := by
  unfold State.dmxLoss
  with_reducible repeat' first
    | assumption | refine fun _ => ?_
    | ((try lift_lets -underBinder); intro x; refine (fun (_ : State.Keeps q x) => ?_) ?_; on_goal 2 => unfold x)
    | refine State.setInputState_keeps ?_ | refine State.dropSource_keeps ?_ | refine State.atTime_keeps ?_ ?_
    | refine State.Keeps.ite ?_ ?_

theorem execDmxRxLoss_keeps {k s} (h : s.Keeps q)
    (hq : q.Off 0x4200706 := by have h := ‹Keep.Off q _›; exact Keep.sub h (by decide)) :
    Kept q (execDmxRxLoss k s) := by
  unfold execDmxRxLoss
  with_reducible repeat' first | assumption | refine done_keeps ?_ | refine State.dmxLoss_keeps ?_

theorem State.rdmGo_keeps {s k} (h : s.Keeps q)
    (hq : q.Off 0x200106 := by have h := ‹Keep.Off q _›; exact Keep.sub h (by decide)) :
    (State.rdmGo s k).Keeps q := by
  unfold State.rdmGo
  with_reducible repeat' first
    | assumption | refine fun _ => ?_ | refine State.fault_keeps ?_ | refine State.setOutcome_keeps ?_
    | refine State.Keeps.ite ?_ ?_ | refine State.Keeps.foldl ?_ ?_

theorem State.rdmGoWrite_keeps {s k v} (h : s.Keeps q)
    (hq : q.Off 0x220b946 := by have h := ‹Keep.Off q _›; exact Keep.sub h (by decide)) :
    (State.rdmGoWrite s k v).Keeps q := by
  unfold State.rdmGoWrite
  with_reducible repeat' first
    | assumption | refine State.dmxStopped_keeps ?_ | refine State.rdmAbort_keeps ?_ | refine State.rdmGo_keeps ?_
    | refine State.Keeps.ite ?_ ?_

theorem State.rdmRegWrite_keeps {s k off v} (h : s.Keeps q)
    (hq : q.Off 0x200106 := by have h := ‹Keep.Off q _›; exact Keep.sub h (by decide)) :
    (State.rdmRegWrite s k off v).Keeps q := by
  unfold State.rdmRegWrite
  with_reducible repeat' first
    | assumption | ((try lift_lets -underBinder); intro x; have hx : x = x := (by unfold x; rfl); clear hx)
    | refine State.fault_keeps ?_ | refine State.setReg_keeps ?_ | refine State.badValue_keeps ?_
    | refine State.Keeps.ite ?_ ?_

theorem State.rdmBegin_keeps {s k} (h : s.Keeps q)
    (hq : q.Off 0x302006 := by have h := ‹Keep.Off q _›; exact Keep.sub h (by decide)) :
    (State.rdmBegin s k).Keeps q := by
  unfold State.rdmBegin
  with_reducible repeat' first
    | assumption
    | ((try lift_lets -underBinder); intro x; refine (fun (_ : State.Keeps q x) => ?_) ?_; on_goal 2 => unfold x)
    | ((try lift_lets -underBinder); intro x; have hx : x = x := (by unfold x; rfl); clear hx; have hy : List _ := x; clear hy; clear_value x)
    | ((try lift_lets -underBinder); intro x; have hx : x = x := (by unfold x; rfl); clear hx)
    | refine State.setPort_keeps ?_ | refine State.setOutcome_keeps ?_ | refine State.dmxRefresh_keeps ?_
    | refine State.setDmx_keeps ?_ | refine State.emitEdges_keeps ?_ | refine State.Keeps.ite ?_ ?_

theorem execRdmBegin_keeps {k s} (h : s.Keeps q)
    (hq : q.Off 0x302006 := by have h := ‹Keep.Off q _›; exact Keep.sub h (by decide)) :
    Kept q (execRdmBegin k s) := by
  unfold execRdmBegin
  with_reducible repeat' first | assumption | refine done_keeps ?_ | refine State.rdmBegin_keeps ?_

theorem State.rdmStore_keeps {s k d} (h : s.Keeps q)
    (hq : q.Off 0x2203956 := by have h := ‹Keep.Off q _›; exact Keep.sub h (by decide)) :
    (State.rdmStore s k d).Keeps q := by
  unfold State.rdmStore
  with_reducible repeat' first
    | assumption
    | ((try lift_lets -underBinder); intro x; have hx : x = x := (by unfold x; rfl); clear hx; have hy : List _ := x; clear hy; clear_value x)
    | refine State.setFld_keeps ?_ | refine State.hwBytes_keeps ?_

theorem State.rdmJudge_keeps {s k good d} (h : s.Keeps q)
    (hq : q.Off 0x220b956 := by have h := ‹Keep.Off q _›; exact Keep.sub h (by decide)) :
    (State.rdmJudge s k good d).Keeps q := by
  unfold State.rdmJudge
  with_reducible repeat' first
    | assumption | refine State.rdmDone_keeps ?_ | refine State.dmxStopped_keeps ?_ | refine State.tellInput_keeps ?_
    | refine State.rdmStore_keeps ?_

theorem State.rdmNoResponse_keeps {s k} (h : s.Keeps q)
    (hq : q.Off 0x220bf46 := by have h := ‹Keep.Off q _›; exact Keep.sub h (by decide)) :
    (State.rdmNoResponse s k).Keeps q := by
  unfold State.rdmNoResponse
  with_reducible repeat' first
    | assumption | refine fun _ => ?_ | refine State.rdmDone_keeps ?_ | refine State.dmxStopped_keeps ?_
    | refine State.setFld_keeps ?_ | refine State.atTime_keeps ?_ ?_ | refine State.Keeps.ite ?_ ?_ | split

theorem State.rdmResponse_keeps {s k start stop faulty d} (h : s.Keeps q)
    (hq : q.Off 0x220bf56 := by have h := ‹Keep.Off q _›; exact Keep.sub h (by decide)) :
    (State.rdmResponse s k start stop faulty d).Keeps q := by
  unfold State.rdmResponse
  with_reducible repeat' first
    | assumption | refine fun _ => ?_
    | ((try lift_lets -underBinder); intro x; have hx : x = x := (by unfold x; rfl); clear hx)
    | refine State.rdmNoResponse_keeps ?_ | refine State.rdmJudge_keeps ?_ | refine State.atTime_keeps ?_ ?_
    | refine State.Keeps.ite ?_ ?_ | split

theorem execRdmResponse_keeps {k start stop faulty data s} (h : s.Keeps q)
    (hq : q.Off 0x220bf56 := by have h := ‹Keep.Off q _›; exact Keep.sub h (by decide)) :
    Kept q (execRdmResponse k start stop faulty data s) := by
  unfold execRdmResponse
  with_reducible repeat' first | assumption | refine done_keeps ?_ | refine State.rdmResponse_keeps ?_

theorem execRdmNoResponse_keeps {k s} (h : s.Keeps q)
    (hq : q.Off 0x220bf46 := by have h := ‹Keep.Off q _›; exact Keep.sub h (by decide)) :
    Kept q (execRdmNoResponse k s) := by
  unfold execRdmNoResponse
  with_reducible repeat' first | assumption | refine done_keeps ?_ | refine State.rdmNoResponse_keeps ?_

theorem State.setDiscUid_keeps {s k uid} (h : s.Keeps q)
    (hq : q.Off 0x6 := by have h := ‹Keep.Off q _›; exact Keep.sub h (by decide)) :
    (State.setDiscUid s k uid).Keeps q := by
  unfold State.setDiscUid
  with_reducible repeat' first | assumption | refine State.setNat_keeps ?_

theorem State.rdmReplayed_keeps {s k d} (h : s.Keeps q)
    (hq : q.Off 0x2203956 := by have h := ‹Keep.Off q _›; exact Keep.sub h (by decide)) :
    (State.rdmReplayed s k d).Keeps q := by
  unfold State.rdmReplayed
  with_reducible repeat' first
    | assumption | refine State.setDiscUid_keeps ?_ | refine State.rdmStore_keeps ?_ | refine State.Keeps.ite ?_ ?_
    | split

theorem State.rdmDiscovery_keeps {s k heard framing} (h : s.Keeps q)
    (hq : q.Off 0x220bf46 := by have h := ‹Keep.Off q _›; exact Keep.sub h (by decide)) :
    (State.rdmDiscovery s k heard framing).Keeps q := by
  unfold State.rdmDiscovery
  with_reducible repeat' first
    | assumption | refine fun _ => ?_ | refine State.rdmDone_keeps ?_ | refine State.dmxStopped_keeps ?_
    | refine State.setDiscUid_keeps ?_ | refine State.tellInput_keeps ?_ | refine State.atTime_keeps ?_ ?_
    | refine State.Keeps.ite ?_ ?_ | split

theorem execRdmDiscoveryEnd_keeps {k heard framing s} (h : s.Keeps q)
    (hq : q.Off 0x220bf46 := by have h := ‹Keep.Off q _›; exact Keep.sub h (by decide)) :
    Kept q (execRdmDiscoveryEnd k heard framing s) := by
  unfold execRdmDiscoveryEnd
  with_reducible repeat' first | assumption | refine done_keeps ?_ | refine State.rdmDiscovery_keeps ?_

theorem State.rdmWindowEnd_keeps {s k} (h : s.Keeps q)
    (hq : q.Off 0x220bf46 := by have h := ‹Keep.Off q _›; exact Keep.sub h (by decide)) :
    (State.rdmWindowEnd s k).Keeps q := by
  unfold State.rdmWindowEnd
  with_reducible repeat' first
    | assumption | refine fun _ => ?_
    | ((try lift_lets -underBinder); intro x; refine (fun (_ : State.Keeps q x) => ?_) ?_; on_goal 2 => unfold x)
    | refine State.rdmDone_keeps ?_ | refine State.dmxStopped_keeps ?_ | refine State.dmxRefresh_keeps ?_
    | refine State.atTime_keeps ?_ ?_ | refine State.Keeps.ite ?_ ?_ | split

theorem execRdmWindowEnd_keeps {k s} (h : s.Keeps q)
    (hq : q.Off 0x220bf46 := by have h := ‹Keep.Off q _›; exact Keep.sub h (by decide)) :
    Kept q (execRdmWindowEnd k s) := by
  unfold execRdmWindowEnd
  with_reducible repeat' first | assumption | refine done_keeps ?_ | refine State.rdmWindowEnd_keeps ?_

theorem State.dmxCtrl_keeps {s k en st} (h : s.Keeps q)
    (hq : q.Off 0x230b946 := by have h := ‹Keep.Off q _›; exact Keep.sub h (by decide)) :
    (State.dmxCtrl s k en st).Keeps q := by
  unfold State.dmxCtrl
  with_reducible repeat' first
    | assumption
    | ((try lift_lets -underBinder); intro x; refine (fun (_ : State.Keeps q x) => ?_) ?_; on_goal 2 => unfold x)
    | ((try lift_lets -underBinder); intro x; have hx : x = x := (by unfold x; rfl); clear hx)
    | refine State.setPort_keeps ?_ | refine State.dmxStopped_keeps ?_ | refine State.setPageState_keeps ?_
    | refine State.dmxCut_keeps ?_ | refine State.setLaunches_keeps ?_ | refine State.dmxRefresh_keeps ?_
    | refine State.rdmAbort_keeps ?_ | refine State.rdmCut_keeps ?_ | refine State.Keeps.ite ?_ ?_

theorem State.cutEmission_keeps {s key} (h : s.Keeps q)
    (hq : q.Off 0x102000 := by have h := ‹Keep.Off q _›; exact Keep.sub h (by decide)) :
    (State.cutEmission s key).Keeps q := by
  unfold State.cutEmission
  with_reducible repeat' first
    | assumption | ((try lift_lets -underBinder); intro x; have hx : x = x := (by unfold x; rfl); clear hx)
    | refine State.setPort_keeps ?_ | refine State.dmxCut_keeps ?_ | refine State.pxCut_keeps ?_
    | refine State.Keeps.ite ?_ ?_

theorem State.cutOutput_keeps {s key} (h : s.Keeps q)
    (hq : q.Off 0x10a006 := by have h := ‹Keep.Off q _›; exact Keep.sub h (by decide)) :
    (State.cutOutput s key).Keeps q := by
  unfold State.cutOutput
  with_reducible repeat' first
    | assumption
    | ((try lift_lets -underBinder); intro x; refine (fun (_ : State.Keeps q x) => ?_) ?_; on_goal 2 => unfold x)
    | refine State.cutEmission_keeps ?_ | refine State.dmxStopped_keeps ?_ | refine State.outputStopped_keeps ?_
    | refine State.Keeps.ite ?_ ?_

end Sys2Proof.Machine
end

