-- ==== Sys2Proof/Laws/KeepsFieldPorts.lean ====
section
/-!
SUPPORT. What the operations of Machine/FieldPorts.lean keep.
-/
set_option Elab.async false
namespace Sys2Proof.Machine

variable {q : Keep}

theorem State.fldFill_keeps {s k first count frame} (h : s.Keeps q)
    (hq : q.Off 0x300116 := by have h := ‹Keep.Off q _›; exact Keep.sub h (by decide)) :
    (State.fldFill s k first count frame).1.Keeps q := by
  unfold State.fldFill
  with_reducible repeat' first
    | assumption
    | ((try lift_lets -underBinder); intro x; refine (fun (_ : State.Keeps q x) => ?_) ?_; on_goal 2 => unfold x)
    | ((try lift_lets -underBinder); intro x; refine (fun (_ : State.Keeps q x.1) => ?_) ?_; on_goal 2 => unfold x)
    | ((try lift_lets -underBinder); intro x; have hx : x = x := (by unfold x; rfl); clear hx; have hy : List _ := x; clear hy; clear_value x)
    | ((try lift_lets -underBinder); intro x; have hx : x = x := (by unfold x; rfl); clear hx)
    | refine State.fault_keeps ?_ | refine State.setPort_keeps ?_ | refine State.setBytes_keeps ?_ | split

theorem State.fldSlotCheck_keeps {s k} (h : s.Keeps q)
    (hq : q.Off 0x208706 := by have h := ‹Keep.Off q _›; exact Keep.sub h (by decide)) :
    (State.fldSlotCheck s k).Keeps q := by
  unfold State.fldSlotCheck
  with_reducible repeat' first
    | assumption | refine fun _ => ?_ | refine State.slotCheckAt_keeps ?_ ?_ | refine State.checkSlot_keeps ?_

theorem execFieldSlotCheck_keeps {k s} (h : s.Keeps q)
    (hq : q.Off 0x208706 := by have h := ‹Keep.Off q _›; exact Keep.sub h (by decide)) :
    Kept q (execFieldSlotCheck k s) := by
  unfold execFieldSlotCheck
  with_reducible repeat' first | assumption | refine done_keeps ?_ | refine State.fldSlotCheck_keeps ?_

theorem State.fldStale_keeps {s k n} (h : s.Keeps q)
    (hq : q.Off 0x201106 := by have h := ‹Keep.Off q _›; exact Keep.sub h (by decide)) :
    (State.fldStale s k n).Keeps q := by
  unfold State.fldStale
  with_reducible repeat' first
    | assumption | refine State.fault_keeps ?_ | refine State.addReg_keeps ?_ | refine State.count_keeps ?_
    | refine State.Keeps.ite ?_ ?_

theorem State.fldRelease_keeps {s k g} (h : s.Keeps q)
    (hq : q.Off 0x1301106 := by have h := ‹Keep.Off q _›; exact Keep.sub h (by decide)) :
    (State.fldRelease s k g).Keeps q := by
  unfold State.fldRelease
  with_reducible repeat' first
    | assumption
    | ((try lift_lets -underBinder); intro x; refine (fun (_ : State.Keeps q x) => ?_) ?_; on_goal 2 => unfold x)
    | ((try lift_lets -underBinder); intro x; have hx : x = x := (by unfold x; rfl); clear hx)
    | refine State.setPort_keeps ?_ | refine State.setField_keeps ?_ | refine State.fldStale_keeps ?_

theorem State.fldReleaseNext_keeps {s k} (h : s.Keeps q)
    (hq : q.Off 0x1309706 := by have h := ‹Keep.Off q _›; exact Keep.sub h (by decide)) :
    (State.fldReleaseNext s k).Keeps q := by
  unfold State.fldReleaseNext
  with_reducible repeat' first
    | assumption | refine fun _ => ?_
    | ((try lift_lets -underBinder); intro x; refine (fun (_ : State.Keeps q x) => ?_) ?_; on_goal 2 => unfold x)
    | refine State.fldSlotCheck_keeps ?_ | refine State.dropLaunch_keeps ?_ | refine State.fldRelease_keeps ?_
    | refine State.atTime_keeps ?_ ?_ | refine State.Keeps.ite ?_ ?_ | split

theorem execFieldRelease_keeps {k s} (h : s.Keeps q)
    (hq : q.Off 0x1309706 := by have h := ‹Keep.Off q _›; exact Keep.sub h (by decide)) :
    Kept q (execFieldRelease k s) := by
  unfold execFieldRelease
  with_reducible repeat' first | assumption | refine done_keeps ?_ | refine State.fldReleaseNext_keeps ?_

theorem State.fldTell_keeps {s k} (h : s.Keeps q)
    (hq : q.Off 0x2203946 := by have h := ‹Keep.Off q _›; exact Keep.sub h (by decide)) :
    (State.fldTell s k).Keeps q := by
  unfold State.fldTell
  with_reducible repeat' first | assumption | refine State.tellOutcome_keeps ?_

theorem State.fldNext_keeps {s : State} {k} (h : s.Keeps q) (hq : q.Off 0x1201946 := by have h := ‹Keep.Off q _›; exact Keep.sub h (by decide)) : ∀ out, s.fldNext k = some out → out.2.Keeps q := by
  intro out ho
  unfold State.fldNext at ho
  simp only at ho
  split at ho
  · cases ho; exact h
  · split at ho
    · cases ho; exact State.setField_keeps h
    · obtain ⟨d, -, rfl⟩ := Option.map_eq_some_iff.mp ho
      exact State.popPacket_keeps h

theorem State.fldAttempt_keeps {s k} (h : s.Keeps q)
    (hq : q.Off 0x1203946 := by have h := ‹Keep.Off q _›; exact Keep.sub h (by decide)) :
    (State.fldAttempt s k).Keeps q := by
  unfold State.fldAttempt
  with_reducible repeat' first
    | assumption
    | ((try lift_lets -underBinder); intro x; refine (fun (_ : State.Keeps q x) => ?_) ?_; on_goal 2 => unfold x)
    | ((try lift_lets -underBinder); intro x; have hx : x = x := (by unfold x; rfl); clear hx)
    | refine State.setField_keeps ?_ | refine State.inc_keeps ?_ | refine (State.fldNext_keeps ?_) _ (by assumption)
    | refine State.emitEdges_keeps ?_ | refine State.fldRefresh_keeps ?_ | refine State.Keeps.ite ?_ ?_ | split

theorem execFieldTxAttempt_keeps {k s} (h : s.Keeps q)
    (hq : q.Off 0x1203946 := by have h := ‹Keep.Off q _›; exact Keep.sub h (by decide)) :
    Kept q (execFieldTxAttempt k s) := by
  unfold execFieldTxAttempt
  with_reducible repeat' first | assumption | refine done_keeps ?_ | refine State.fldAttempt_keeps ?_

theorem State.fldStopped_keeps {s k} (h : s.Keeps q)
    (hq : q.Off 0x6 := by have h := ‹Keep.Off q _›; exact Keep.sub h (by decide)) :
    (State.fldStopped s k).Keeps q := by
  unfold State.fldStopped
  with_reducible repeat' first | assumption | refine State.setPageState_keeps ?_ | refine State.Keeps.ite ?_ ?_

theorem State.fldCollision_keeps {s k late} (h : s.Keeps q)
    (hq : q.Off 0x3203946 := by have h := ‹Keep.Off q _›; exact Keep.sub h (by decide)) :
    (State.fldCollision s k late).Keeps q := by
  unfold State.fldCollision
  with_reducible repeat' first
    | assumption
    | ((try lift_lets -underBinder); intro x; refine (fun (_ : State.Keeps q x) => ?_) ?_; on_goal 2 => unfold x)
    | ((try lift_lets -underBinder); intro x; have hx : x = x := (by unfold x; rfl); clear hx)
    | refine State.fault_keeps ?_ | refine State.setField_keeps ?_ | refine State.fldTell_keeps ?_
    | refine State.inc_keeps ?_ | refine State.count_keeps ?_ | refine State.fldStopped_keeps ?_
    | refine State.fldRefresh_keeps ?_ | refine State.Keeps.ite ?_ ?_ | split

theorem execFieldCollision_keeps {k late s} (h : s.Keeps q)
    (hq : q.Off 0x3203946 := by have h := ‹Keep.Off q _›; exact Keep.sub h (by decide)) :
    Kept q (execFieldCollision k late s) := by
  unfold execFieldCollision
  with_reducible repeat' first | assumption | refine done_keeps ?_ | refine State.fldCollision_keeps ?_

theorem State.fldBackoffEnd_keeps {s k} (h : s.Keeps q)
    (hq : q.Off 0x1203f46 := by have h := ‹Keep.Off q _›; exact Keep.sub h (by decide)) :
    (State.fldBackoffEnd s k).Keeps q := by
  unfold State.fldBackoffEnd
  with_reducible repeat' first
    | assumption | refine fun _ => ?_
    | ((try lift_lets -underBinder); intro x; have hx : x = x := (by unfold x; rfl); clear hx)
    | refine State.fldAttempt_keeps ?_ | refine State.atTime_keeps ?_ ?_ | refine State.Keeps.ite ?_ ?_

theorem execFieldBackoffEnd_keeps {k s} (h : s.Keeps q)
    (hq : q.Off 0x1203f46 := by have h := ‹Keep.Off q _›; exact Keep.sub h (by decide)) :
    Kept q (execFieldBackoffEnd k s) := by
  unfold execFieldBackoffEnd
  with_reducible repeat' first | assumption | refine done_keeps ?_ | refine State.fldBackoffEnd_keeps ?_

theorem State.fldDone_keeps {s k} (h : s.Keeps q)
    (hq : q.Off 0x3203946 := by have h := ‹Keep.Off q _›; exact Keep.sub h (by decide)) :
    (State.fldDone s k).Keeps q := by
  unfold State.fldDone
  with_reducible repeat' first
    | assumption
    | ((try lift_lets -underBinder); intro x; refine (fun (_ : State.Keeps q x) => ?_) ?_; on_goal 2 => unfold x)
    | ((try lift_lets -underBinder); intro x; have hx : x = x := (by unfold x; rfl); clear hx)
    | refine State.setField_keeps ?_ | refine State.fldTell_keeps ?_ | refine State.inc_keeps ?_
    | refine State.count_keeps ?_ | refine State.fldStopped_keeps ?_ | refine State.fldRefresh_keeps ?_
    | refine State.Keeps.ite ?_ ?_

theorem execFieldTxDone_keeps {k s} (h : s.Keeps q)
    (hq : q.Off 0x3203946 := by have h := ‹Keep.Off q _›; exact Keep.sub h (by decide)) :
    Kept q (execFieldTxDone k s) := by
  unfold execFieldTxDone
  with_reducible repeat' first | assumption | refine done_keeps ?_ | refine State.fldDone_keeps ?_

theorem State.fldPlca_keeps {s k on} (h : s.Keeps q)
    (hq : q.Off 0x200106 := by have h := ‹Keep.Off q _›; exact Keep.sub h (by decide)) :
    (State.fldPlca s k on).Keeps q := by
  unfold State.fldPlca
  with_reducible repeat' first
    | assumption
    | ((try lift_lets -underBinder); intro x; refine (fun (_ : State.Keeps q x) => ?_) ?_; on_goal 2 => unfold x)
    | ((try lift_lets -underBinder); intro x; have hx : x = x := (by unfold x; rfl); clear hx)
    | refine State.fault_keeps ?_ | refine State.irq_keeps ?_ | refine State.setSts_keeps ?_
    | refine State.Keeps.ite ?_ ?_

theorem execPlcaStatusChange_keeps {k on s} (h : s.Keeps q)
    (hq : q.Off 0x200106 := by have h := ‹Keep.Off q _›; exact Keep.sub h (by decide)) :
    Kept q (execPlcaStatusChange k on s) := by
  unfold execPlcaStatusChange
  with_reducible repeat' first | assumption | refine done_keeps ?_ | refine State.fldPlca_keeps ?_

theorem State.fldTake_keeps {s k at_ d} (h : s.Keeps q)
    (hq : q.Off 0x2203946 := by have h := ‹Keep.Off q _›; exact Keep.sub h (by decide)) :
    (State.fldTake s k at_ d).Keeps q := by
  unfold State.fldTake
  with_reducible repeat' first
    | assumption
    | ((try lift_lets -underBinder); intro x; refine (fun (_ : State.Keeps q x) => ?_) ?_; on_goal 2 => unfold x)
    | ((try lift_lets -underBinder); intro x; have hx : x = x := (by unfold x; rfl); clear hx)
    | refine State.fault_keeps ?_ | refine State.queuePacket_keeps ?_ | refine State.inc_keeps ?_
    | refine State.tellInput_keeps ?_ | refine State.count_keeps ?_ | refine State.Keeps.ite ?_ ?_

theorem State.fldReceive_keeps {s k good ago d} (h : s.Keeps q)
    (hq : q.Off 0x2203946 := by have h := ‹Keep.Off q _›; exact Keep.sub h (by decide)) :
    (State.fldReceive s k good ago d).Keeps q := by
  unfold State.fldReceive
  with_reducible repeat' first
    | assumption | ((try lift_lets -underBinder); intro x; have hx : x = x := (by unfold x; rfl); clear hx)
    | refine State.fldTake_keeps ?_ | refine State.inc_keeps ?_ | refine State.Keeps.ite ?_ ?_

theorem execFieldRxFrame_keeps {k good ago data s} (h : s.Keeps q)
    (hq : q.Off 0x2203946 := by have h := ‹Keep.Off q _›; exact Keep.sub h (by decide)) :
    Kept q (execFieldRxFrame k good ago data s) := by
  unfold execFieldRxFrame
  with_reducible repeat' first | assumption | refine done_keeps ?_ | refine State.fldReceive_keeps ?_

theorem State.fldCtrl_keeps {s k en st} (h : s.Keeps q)
    (hq : q.Off 0x110a006 := by have h := ‹Keep.Off q _›; exact Keep.sub h (by decide)) :
    (State.fldCtrl s k en st).Keeps q := by
  unfold State.fldCtrl
  with_reducible repeat' first
    | assumption | ((try lift_lets -underBinder); intro x; have hx : x = x := (by unfold x; rfl); clear hx)
    | refine State.setPort_keeps ?_ | refine State.setField_keeps ?_ | refine State.setPageState_keeps ?_
    | refine State.setLaunches_keeps ?_ | refine State.fldStopped_keeps ?_ | refine State.fldRefresh_keeps ?_
    | refine State.Keeps.ite ?_ ?_

theorem State.fldCommit_keeps {s k} (h : s.Keeps q)
    (hq : q.Off 0x60218e := by have h := ‹Keep.Off q _›; exact Keep.sub h (by decide)) :
    (State.fldCommit s k).Keeps q := by
  unfold State.fldCommit
  with_reducible repeat' first
    | assumption | refine fun _ => ?_ | refine State.fldPlca_keeps ?_ | refine State.commitPoint_keeps ?_ ?_
    | refine State.Keeps.ite ?_ ?_

end Sys2Proof.Machine
end

