-- ==== Sys2Proof/Laws/KeepsLamps.lean ====
section
/-!
SUPPORT. What the operations of Machine/Lamps.lean keep.
-/
set_option Elab.async false
namespace Sys2Proof.Machine

variable {q : Keep}

theorem State.lclFill_keeps {s n first count frame} (h : s.Keeps q)
    (hq : q.Off 0x300106 := by have h := ‹Keep.Off q _›; exact Keep.sub h (by decide)) :
    (State.lclFill s n first count frame).1.Keeps q := by
  unfold State.lclFill
  with_reducible repeat' first
    | assumption
    | ((try lift_lets -underBinder); intro x; have hx : x = x := (by unfold x; rfl); clear hx; have hy : List _ := x; clear hy; clear_value x)
    | ((try lift_lets -underBinder); intro x; have hx : x = x := (by unfold x; rfl); clear hx)
    | refine State.fault_keeps ?_ | refine State.setPort_keeps ?_ | split

theorem State.lampSlotCheck_keeps {s n} (h : s.Keeps q)
    (hq : q.Off 0x208706 := by have h := ‹Keep.Off q _›; exact Keep.sub h (by decide)) :
    (State.lampSlotCheck s n).Keeps q := by
  unfold State.lampSlotCheck
  with_reducible repeat' first
    | assumption | refine fun _ => ?_ | refine State.slotCheckAt_keeps ?_ ?_ | refine State.checkSlot_keeps ?_

theorem execLampSlotCheck_keeps {n s} (h : s.Keeps q)
    (hq : q.Off 0x208706 := by have h := ‹Keep.Off q _›; exact Keep.sub h (by decide)) :
    Kept q (execLampSlotCheck n s) := by
  unfold execLampSlotCheck
  with_reducible repeat' first | assumption | refine done_keeps ?_ | refine State.lampSlotCheck_keeps ?_

theorem State.lampTake_keeps {s n l g} (h : s.Keeps q)
    (hq : q.Off 0x500000 := by have h := ‹Keep.Off q _›; exact Keep.sub h (by decide)) :
    (State.lampTake s n l g).Keeps q := by
  unfold State.lampTake
  with_reducible repeat' first
    | assumption
    | ((try lift_lets -underBinder); intro x; refine (fun (_ : State.Keeps q x) => ?_) ?_; on_goal 2 => unfold x)
    | ((try lift_lets -underBinder); intro x; have hx : x = x := (by unfold x; rfl); clear hx; have hy : Option _ := x; clear hy; clear_value x)
    | ((try lift_lets -underBinder); intro x; have hx : x = x := (by unfold x; rfl); clear hx; have hy : List _ := x; clear hy; clear_value x)
    | ((try lift_lets -underBinder); intro x; have hx : x = x := (by unfold x; rfl); clear hx)
    | refine State.setCluster_keeps ?_ | refine State.setPort_keeps ?_ | split

theorem State.lampLaunch_keeps {s n} (h : s.Keeps q)
    (hq : q.Off 0x708706 := by have h := ‹Keep.Off q _›; exact Keep.sub h (by decide)) :
    (State.lampLaunch s n).Keeps q := by
  unfold State.lampLaunch
  with_reducible repeat' first
    | assumption | refine fun _ => ?_
    | ((try lift_lets -underBinder); intro x; refine (fun (_ : State.Keeps q x) => ?_) ?_; on_goal 2 => unfold x)
    | refine State.dropLaunch_keeps ?_ | refine State.lampSlotCheck_keeps ?_ | refine State.lampTake_keeps ?_
    | refine State.atTime_keeps ?_ ?_ | refine State.Keeps.ite ?_ ?_ | split

theorem execLampLaunch_keeps {n s} (h : s.Keeps q)
    (hq : q.Off 0x708706 := by have h := ‹Keep.Off q _›; exact Keep.sub h (by decide)) :
    Kept q (execLampLaunch n s) := by
  unfold execLampLaunch
  with_reducible repeat' first | assumption | refine done_keeps ?_ | refine State.lampLaunch_keeps ?_

theorem State.lampLatch_keeps {s k t} (h : s.Keeps q)
    (hq : q.Off 0xa00106 := by have h := ‹Keep.Off q _›; exact Keep.sub h (by decide)) :
    (State.lampLatch s k t).Keeps q := by
  unfold State.lampLatch
  with_reducible repeat' first
    | assumption
    | ((try lift_lets -underBinder); intro x; refine (fun (_ : State.Keeps q x) => ?_) ?_; on_goal 2 => unfold x)
    | ((try lift_lets -underBinder); intro x; have hx : x = x := (by unfold x; rfl); clear hx)
    | refine State.fault_keeps ?_ | refine State.setSts_keeps ?_ | refine State.setLamp_keeps ?_
    | refine State.Keeps.ite ?_ ?_

theorem State.lampPeriod_keeps {s k st t} (h : s.Keeps q)
    (hq : q.Off 0xa03106 := by have h := ‹Keep.Off q _›; exact Keep.sub h (by decide)) :
    (State.lampPeriod s k st t).Keeps q := by
  unfold State.lampPeriod
  with_reducible repeat' first
    | assumption
    | ((try lift_lets -underBinder); intro x; refine (fun (_ : State.Keeps q x) => ?_) ?_; on_goal 2 => unfold x)
    | ((try lift_lets -underBinder); intro x; have hx : x = x := (by unfold x; rfl); clear hx)
    | refine State.lampLatch_keeps ?_ | refine State.setPageState_keeps ?_ | refine State.setNat_keeps ?_
    | refine State.inc_keeps ?_ | refine State.emitEdges_keeps ?_ | refine State.count_keeps ?_
    | refine State.setLamp_keeps ?_ | refine State.Keeps.ite ?_ ?_

theorem State.deratingApply_keeps {s n} (h : s.Keeps q)
    (hq : q.Off 0x601106 := by have h := ‹Keep.Off q _›; exact Keep.sub h (by decide)) :
    (State.deratingApply s n).Keeps q := by
  unfold State.deratingApply
  with_reducible repeat' first
    | assumption
    | ((try lift_lets -underBinder); intro x; refine (fun (_ : State.Keeps q x) => ?_) ?_; on_goal 2 => unfold x)
    | ((try lift_lets -underBinder); intro x; have hx : x = x := (by unfold x; rfl); clear hx)
    | refine State.setCluster_keeps ?_ | refine State.fault_keeps ?_ | refine State.setSts_keeps ?_
    | refine State.setNat_keeps ?_ | refine State.inc_keeps ?_ | refine State.count_keeps ?_
    | refine State.Keeps.ite ?_ ?_ | split

theorem State.pwmBoundaryAt_keeps {s n t} (h : s.Keeps q)
    (hq : q.Off 0x2e03106 := by have h := ‹Keep.Off q _›; exact Keep.sub h (by decide)) :
    (State.pwmBoundaryAt s n t).Keeps q := by
  unfold State.pwmBoundaryAt
  with_reducible repeat' first
    | assumption | refine fun _ => ?_
    | ((try lift_lets -underBinder); intro x; refine (fun (_ : State.Keeps q x) => ?_) ?_; on_goal 2 => unfold x)
    | ((try lift_lets -underBinder); intro x; have hx : x = x := (by unfold x; rfl); clear hx)
    | refine State.setCluster_keeps ?_ | refine State.setPageState_keeps ?_ | refine State.deratingApply_keeps ?_
    | refine State.lclRefresh_keeps ?_ | refine State.count_keeps ?_ | refine State.lampPeriod_keeps ?_
    | refine State.Keeps.ite ?_ ?_ | refine State.Keeps.foldl ?_ ?_
    | fail_if_no_progress (refine State.Keeps.upd ?_ rfl rfl rfl rfl)

theorem State.pwmBoundary_keeps {s n} (h : s.Keeps q)
    (hq : q.Off 0x2e03706 := by have h := ‹Keep.Off q _›; exact Keep.sub h (by decide)) :
    (State.pwmBoundary s n).Keeps q := by
  unfold State.pwmBoundary
  with_reducible repeat' first
    | assumption | refine fun _ => ?_
    | ((try lift_lets -underBinder); intro x; have hx : x = x := (by unfold x; rfl); clear hx)
    | refine State.pwmBoundaryAt_keeps ?_ | refine State.atTime_keeps ?_ ?_

theorem execPwmPeriodBoundary_keeps {n s} (h : s.Keeps q)
    (hq : q.Off 0x2e03706 := by have h := ‹Keep.Off q _›; exact Keep.sub h (by decide)) :
    Kept q (execPwmPeriodBoundary n s) := by
  unfold execPwmPeriodBoundary
  with_reducible repeat' first
    | assumption | refine done_keeps ?_ | refine State.pwmBoundary_keeps ?_ | refine State.Keeps.ite ?_ ?_

theorem State.setDiag_keeps {s k n} (h : s.Keeps q)
    (hq : q.Off 0x201106 := by have h := ‹Keep.Off q _›; exact Keep.sub h (by decide)) :
    (State.setDiag s k n).Keeps q := by
  unfold State.setDiag
  with_reducible repeat' first
    | assumption | refine State.irq_keeps ?_ | refine State.setSts_keeps ?_ | refine State.count_keeps ?_
    | refine State.Keeps.ite ?_ ?_

theorem State.enterDiag_keeps {s k cls t} (h : s.Keeps q)
    (hq : q.Off 0xa01106 := by have h := ‹Keep.Off q _›; exact Keep.sub h (by decide)) :
    (State.enterDiag s k cls t).Keeps q := by
  unfold State.enterDiag
  with_reducible repeat' first
    | assumption
    | ((try lift_lets -underBinder); intro x; refine (fun (_ : State.Keeps q x) => ?_) ?_; on_goal 2 => unfold x)
    | ((try lift_lets -underBinder); intro x; have hx : x = x := (by unfold x; rfl); clear hx)
    | refine State.fault_keeps ?_ | refine State.setDiag_keeps ?_ | refine State.inc_keeps ?_
    | refine State.setLamp_keeps ?_ | refine State.Keeps.ite ?_ ?_ | split

theorem State.lampSample_keeps {s k on code t} (h : s.Keeps q)
    (hq : q.Off 0xa01906 := by have h := ‹Keep.Off q _›; exact Keep.sub h (by decide)) :
    (State.lampSample s k on code t).Keeps q := by
  unfold State.lampSample
  with_reducible repeat' first
    | assumption
    | ((try lift_lets -underBinder); intro x; refine (fun (_ : State.Keeps q x) => ?_) ?_; on_goal 2 => unfold x)
    | ((try lift_lets -underBinder); intro x; have hx : x = x := (by unfold x; rfl); clear hx)
    | refine State.sample_keeps ?_ | refine State.setFld_keeps ?_ | refine State.enterDiag_keeps ?_
    | refine State.setNat_keeps ?_ | refine State.count_keeps ?_ | refine State.setLamp_keeps ?_
    | refine State.Keeps.ite ?_ ?_

theorem State.onSample_keeps {s k code} (h : s.Keeps q)
    (hq : q.Off 0x2a03f46 := by have h := ‹Keep.Off q _›; exact Keep.sub h (by decide)) :
    (State.onSample s k code).Keeps q := by
  unfold State.onSample
  with_reducible repeat' first
    | assumption | refine fun _ => ?_
    | ((try lift_lets -underBinder); intro x; have hx : x = x := (by unfold x; rfl); clear hx)
    | refine State.tellSense_keeps ?_ | refine State.lampSample_keeps ?_ | refine State.atTime_keeps ?_ ?_
    | refine State.Keeps.ite ?_ ?_

theorem execLampOnSample_keeps {k code s} (h : s.Keeps q)
    (hq : q.Off 0x2a03f46 := by have h := ‹Keep.Off q _›; exact Keep.sub h (by decide)) :
    Kept q (execLampOnSample k code s) := by
  unfold execLampOnSample
  with_reducible repeat' first | assumption | refine done_keeps ?_ | refine State.onSample_keeps ?_

theorem State.offSample_keeps {s k code} (h : s.Keeps q)
    (hq : q.Off 0x2a03f46 := by have h := ‹Keep.Off q _›; exact Keep.sub h (by decide)) :
    (State.offSample s k code).Keeps q := by
  unfold State.offSample
  with_reducible repeat' first
    | assumption | refine fun _ => ?_
    | ((try lift_lets -underBinder); intro x; have hx : x = x := (by unfold x; rfl); clear hx)
    | refine State.tellSense_keeps ?_ | refine State.lampSample_keeps ?_ | refine State.atTime_keeps ?_ ?_
    | refine State.Keeps.ite ?_ ?_

theorem execLampOffSample_keeps {k code s} (h : s.Keeps q)
    (hq : q.Off 0x2a03f46 := by have h := ‹Keep.Off q _›; exact Keep.sub h (by decide)) :
    Kept q (execLampOffSample k code s) := by
  unfold execLampOffSample
  with_reducible repeat' first | assumption | refine done_keeps ?_ | refine State.offSample_keeps ?_

theorem State.diagUnknown_keeps {s k} (h : s.Keeps q)
    (hq : q.Off 0xa01106 := by have h := ‹Keep.Off q _›; exact Keep.sub h (by decide)) :
    (State.diagUnknown s k).Keeps q := by
  unfold State.diagUnknown
  with_reducible repeat' first
    | assumption | ((try lift_lets -underBinder); intro x; have hx : x = x := (by unfold x; rfl); clear hx)
    | refine State.setDiag_keeps ?_ | refine State.setLamp_keeps ?_

theorem State.diagTimeout_keeps {s k} (h : s.Keeps q)
    (hq : q.Off 0xa01706 := by have h := ‹Keep.Off q _›; exact Keep.sub h (by decide)) :
    (State.diagTimeout s k).Keeps q := by
  unfold State.diagTimeout
  with_reducible repeat' first
    | assumption | refine fun _ => ?_
    | ((try lift_lets -underBinder); intro x; have hx : x = x := (by unfold x; rfl); clear hx)
    | refine State.diagUnknown_keeps ?_ | refine State.setLamp_keeps ?_ | refine State.atTime_keeps ?_ ?_
    | refine State.Keeps.ite ?_ ?_

theorem execDiagTimeout_keeps {k s} (h : s.Keeps q)
    (hq : q.Off 0xa01706 := by have h := ‹Keep.Off q _›; exact Keep.sub h (by decide)) :
    Kept q (execDiagTimeout k s) := by
  unfold execDiagTimeout
  with_reducible repeat' first | assumption | refine done_keeps ?_ | refine State.diagTimeout_keeps ?_

theorem State.lampRetry_keeps {s k} (h : s.Keeps q)
    (hq : q.Off 0xa01106 := by have h := ‹Keep.Off q _›; exact Keep.sub h (by decide)) :
    (State.lampRetry s k).Keeps q := by
  unfold State.lampRetry
  with_reducible repeat' first
    | assumption
    | ((try lift_lets -underBinder); intro x; refine (fun (_ : State.Keeps q x) => ?_) ?_; on_goal 2 => unfold x)
    | ((try lift_lets -underBinder); intro x; have hx : x = x := (by unfold x; rfl); clear hx)
    | refine State.setSts_keeps ?_ | refine State.diagUnknown_keeps ?_ | refine State.setLamp_keeps ?_
    | refine State.Keeps.ite ?_ ?_

theorem State.retryWrite_keeps {s k} (h : s.Keeps q)
    (hq : q.Off 0x2a03946 := by have h := ‹Keep.Off q _›; exact Keep.sub h (by decide)) :
    (State.retryWrite s k).Keeps q := by
  unfold State.retryWrite
  with_reducible repeat' first
    | assumption | refine State.tellOutcome_keeps ?_ | refine State.lampRetry_keeps ?_

theorem State.keeperEnds_keeps {s n} (h : s.Keeps q)
    (hq : q.Off 0x600706 := by have h := ‹Keep.Off q _›; exact Keep.sub h (by decide)) :
    (State.keeperEnds s n).Keeps q := by
  unfold State.keeperEnds
  with_reducible repeat' first
    | assumption | refine fun _ => ?_
    | ((try lift_lets -underBinder); intro x; have hx : x = x := (by unfold x; rfl); clear hx)
    | refine State.setCluster_keeps ?_ | refine State.atTime_keeps ?_ ?_ | split

theorem execKeeperOff_keeps {n s} (h : s.Keeps q)
    (hq : q.Off 0x600706 := by have h := ‹Keep.Off q _›; exact Keep.sub h (by decide)) :
    Kept q (execKeeperOff n s) := by
  unfold execKeeperOff
  with_reducible repeat' first | assumption | refine done_keeps ?_ | refine State.keeperEnds_keeps ?_

theorem State.tsnsTake_keeps {s n t} (h : s.Keeps q)
    (hq : q.Off 0x400806 := by have h := ‹Keep.Off q _›; exact Keep.sub h (by decide)) :
    (State.tsnsTake s n t).Keeps q := by
  unfold State.tsnsTake
  with_reducible repeat' first
    | assumption | ((try lift_lets -underBinder); intro x; have hx : x = x := (by unfold x; rfl); clear hx)
    | refine State.setCluster_keeps ?_ | refine State.sample_keeps ?_ | refine State.setNat_keeps ?_

theorem State.tsnsMeasure_keeps {s n v1 v2} (h : s.Keeps q)
    (hq : q.Off 0x2603f46 := by have h := ‹Keep.Off q _›; exact Keep.sub h (by decide)) :
    (State.tsnsMeasure s n v1 v2).Keeps q := by
  unfold State.tsnsMeasure
  with_reducible repeat' first
    | assumption | refine fun _ => ?_
    | ((try lift_lets -underBinder); intro x; refine (fun (_ : State.Keeps q x) => ?_) ?_; on_goal 2 => unfold x)
    | ((try lift_lets -underBinder); intro x; have hx : x = x := (by unfold x; rfl); clear hx)
    | refine State.fault_keeps ?_ | refine State.tsnsTake_keeps ?_ | refine State.tellSense_keeps ?_
    | refine State.atTick_keeps ?_ ?_ | refine State.Keeps.ite ?_ ?_

theorem execTsnsMeasure_keeps {n v1 v2 s} (h : s.Keeps q)
    (hq : q.Off 0x2603f46 := by have h := ‹Keep.Off q _›; exact Keep.sub h (by decide)) :
    Kept q (execTsnsMeasure n v1 v2 s) := by
  unfold execTsnsMeasure
  with_reducible repeat' first | assumption | refine done_keeps ?_ | refine State.tsnsMeasure_keeps ?_

theorem State.derateNow_keeps {s n} (h : s.Keeps q)
    (hq : q.Off 0x400000 := by have h := ‹Keep.Off q _›; exact Keep.sub h (by decide)) :
    (State.derateNow s n).Keeps q := by
  unfold State.derateNow
  with_reducible repeat' first
    | assumption | ((try lift_lets -underBinder); intro x; have hx : x = x := (by unfold x; rfl); clear hx)
    | refine State.setCluster_keeps ?_ | split

theorem State.derateUpdate_keeps {s n} (h : s.Keeps q)
    (hq : q.Off 0x600706 := by have h := ‹Keep.Off q _›; exact Keep.sub h (by decide)) :
    (State.derateUpdate s n).Keeps q := by
  unfold State.derateUpdate
  with_reducible repeat' first
    | assumption | refine fun _ => ?_ | refine State.atTick_keeps ?_ ?_ | refine State.derateNow_keeps ?_

theorem execDerateUpdate_keeps {n s} (h : s.Keeps q)
    (hq : q.Off 0x600706 := by have h := ‹Keep.Off q _›; exact Keep.sub h (by decide)) :
    Kept q (execDerateUpdate n s) := by
  unfold execDerateUpdate
  with_reducible repeat' first | assumption | refine done_keeps ?_ | refine State.derateUpdate_keeps ?_

theorem State.lclCtrl_keeps {s n en st} (h : s.Keeps q)
    (hq : q.Off 0x70a106 := by have h := ‹Keep.Off q _›; exact Keep.sub h (by decide)) :
    (State.lclCtrl s n en st).Keeps q := by
  unfold State.lclCtrl
  with_reducible repeat' first
    | assumption
    | ((try lift_lets -underBinder); intro x; refine (fun (_ : State.Keeps q x) => ?_) ?_; on_goal 2 => unfold x)
    | ((try lift_lets -underBinder); intro x; have hx : x = x := (by unfold x; rfl); clear hx)
    | refine State.setCluster_keeps ?_ | refine State.setPort_keeps ?_ | refine State.badValue_keeps ?_
    | refine State.setPageState_keeps ?_ | refine State.setLaunches_keeps ?_ | refine State.lclRefresh_keeps ?_
    | refine State.Keeps.ite ?_ ?_

theorem State.lmpCtrl_keeps {s k en st} (h : s.Keeps q)
    (hq : q.Off 0xa03106 := by have h := ‹Keep.Off q _›; exact Keep.sub h (by decide)) :
    (State.lmpCtrl s k en st).Keeps q := by
  unfold State.lmpCtrl
  with_reducible repeat' first
    | assumption | ((try lift_lets -underBinder); intro x; have hx : x = x := (by unfold x; rfl); clear hx)
    | refine State.setPageState_keeps ?_ | refine State.diagUnknown_keeps ?_ | refine State.gateOff_keeps ?_
    | refine State.Keeps.ite ?_ ?_

end Sys2Proof.Machine
end

