-- ==== Sys2Proof/Laws/KeepsEthBase.lean ====
section
/-!
SUPPORT. What the operations of Machine/EthBase.lean keep.
-/
set_option Elab.async false
namespace Sys2Proof.Machine

variable {q : Keep}

theorem State.setMac_keeps {s m v} (h : s.Keeps q)
    (hq : q.Off 0x8000000 := by have h := ‹Keep.Off q _›; exact Keep.sub h (by decide)) :
    (State.setMac s m v).Keeps q := by
  unfold State.setMac
  with_reducible repeat' first | assumption | fail_if_no_progress (refine State.Keeps.upd ?_ rfl rfl rfl rfl)

theorem State.modMac_keeps {s m f} (h : s.Keeps q)
    (hq : q.Off 0x8000000 := by have h := ‹Keep.Off q _›; exact Keep.sub h (by decide)) :
    (State.modMac s m f).Keeps q := by
  unfold State.modMac
  with_reducible repeat' first | assumption | refine State.setMac_keeps ?_

theorem State.macQueue_keeps {s m u} (h : s.Keeps q)
    (hq : q.Off 0x8000000 := by have h := ‹Keep.Off q _›; exact Keep.sub h (by decide)) :
    (State.macQueue s m u).Keeps q := by
  unfold State.macQueue
  with_reducible repeat' first
    | assumption | ((try lift_lets -underBinder); intro x; have hx : x = x := (by unfold x; rfl); clear hx)
    | refine State.modMac_keeps ?_

theorem State.ringLevel_keeps {s m i} (h : s.Keeps q)
    (hq : q.Off 0x200106 := by have h := ‹Keep.Off q _›; exact Keep.sub h (by decide)) :
    (State.ringLevel s m i).Keeps q := by
  unfold State.ringLevel
  with_reducible repeat' first | assumption | refine State.setLevel_keeps ?_

theorem State.ringLevels_keeps {s m} (h : s.Keeps q)
    (hq : q.Off 0x200106 := by have h := ‹Keep.Off q _›; exact Keep.sub h (by decide)) :
    (State.ringLevels s m).Keeps q := by
  unfold State.ringLevels
  with_reducible repeat' first
    | assumption | refine fun _ => ?_ | refine State.ringLevel_keeps ?_ | refine State.Keeps.foldl ?_ ?_

theorem State.ringRaise_keeps {s m i} (h : s.Keeps q)
    (hq : q.Off 0x8200106 := by have h := ‹Keep.Off q _›; exact Keep.sub h (by decide)) :
    (State.ringRaise s m i).Keeps q := by
  unfold State.ringRaise
  with_reducible repeat' first
    | assumption
    | ((try lift_lets -underBinder); intro x; refine (fun (_ : State.Keeps q x) => ?_) ?_; on_goal 2 => unfold x)
    | refine State.setFlag_keeps ?_ | refine State.setNat_keeps ?_ | refine State.ringLevel_keeps ?_
    | refine State.modMac_keeps ?_

theorem State.ringComplete_keeps {s m i} (h : s.Keeps q)
    (hq : q.Off 0x8200106 := by have h := ‹Keep.Off q _›; exact Keep.sub h (by decide)) :
    (State.ringComplete s m i).Keeps q := by
  unfold State.ringComplete
  with_reducible repeat' first
    | assumption
    | ((try lift_lets -underBinder); intro x; refine (fun (_ : State.Keeps q x) => ?_) ?_; on_goal 2 => unfold x)
    | ((try lift_lets -underBinder); intro x; have hx : x = x := (by unfold x; rfl); clear hx)
    | refine State.setNat_keeps ?_ | refine State.ringRaise_keeps ?_ | refine State.modMac_keeps ?_
    | refine State.Keeps.ite ?_ ?_

theorem State.ringFlush_keeps {s m i} (h : s.Keeps q)
    (hq : q.Off 0x8200106 := by have h := ‹Keep.Off q _›; exact Keep.sub h (by decide)) :
    (State.ringFlush s m i).Keeps q := by
  unfold State.ringFlush
  with_reducible repeat' first | assumption | refine State.ringRaise_keeps ?_ | refine State.Keeps.ite ?_ ?_

theorem State.modTimer_keeps {s m i} (h : s.Keeps q)
    (hq : q.Off 0x8200706 := by have h := ‹Keep.Off q _›; exact Keep.sub h (by decide)) :
    (State.modTimer s m i).Keeps q := by
  unfold State.modTimer
  with_reducible repeat' first
    | assumption | refine fun _ => ?_
    | ((try lift_lets -underBinder); intro x; have hx : x = x := (by unfold x; rfl); clear hx)
    | refine State.ringRaise_keeps ?_ | refine State.atTime_keeps ?_ ?_ | refine State.Keeps.ite ?_ ?_ | split

theorem execModTimerExpire_keeps {m ring s} (h : s.Keeps q)
    (hq : q.Off 0x8200706 := by have h := ‹Keep.Off q _›; exact Keep.sub h (by decide)) :
    Kept q (execModTimerExpire m ring s) := by
  unfold execModTimerExpire
  with_reducible repeat' first | assumption | refine done_keeps ?_ | refine State.modTimer_keeps ?_

theorem State.writeDone_keeps {s base i status} (h : s.Keeps q)
    (hq : q.Off 0x2203956 := by have h := ‹Keep.Off q _›; exact Keep.sub h (by decide)) :
    (State.writeDone s base i status).Keeps q := by
  unfold State.writeDone
  with_reducible repeat' first
    | assumption | ((try lift_lets -underBinder); intro x; have hx : x = x := (by unfold x; rfl); clear hx)
    | refine State.hwMem_keeps ?_

theorem State.writeBack_keeps {s m r n status stamp irq} (h : s.Keeps q)
    (hq : q.Off 0xa203956 := by have h := ‹Keep.Off q _›; exact Keep.sub h (by decide)) :
    (State.writeBack s m r n status stamp irq).Keeps q := by
  unfold State.writeBack
  with_reducible repeat' first
    | assumption | refine fun _ => ?_
    | ((try lift_lets -underBinder); intro x; refine (fun (_ : State.Keeps q x) => ?_) ?_; on_goal 2 => unfold x)
    | ((try lift_lets -underBinder); intro x; have hx : x = x := (by unfold x; rfl); clear hx)
    | refine State.ringComplete_keeps ?_ | refine State.writeDone_keeps ?_ | refine State.setNat_keeps ?_
    | refine State.inc_keeps ?_ | refine State.hwBytes_keeps ?_ | refine State.Keeps.ite ?_ ?_
    | refine State.Keeps.foldl ?_ ?_ | split

theorem State.newHead_keeps {s m i} (h : s.Keeps q)
    (hq : q.Off 0x8000000 := by have h := ‹Keep.Off q _›; exact Keep.sub h (by decide)) :
    (State.newHead s m i).Keeps q := by
  unfold State.newHead
  with_reducible repeat' first | assumption | refine State.modMac_keeps ?_

theorem State.ringSettle_keeps {s m r a} (h : s.Keeps q)
    (hq : q.Off 0xa203956 := by have h := ‹Keep.Off q _›; exact Keep.sub h (by decide)) :
    (State.ringSettle s m r a).Keeps q := by
  fun_induction State.ringSettle s m r a <;> try simp only [*]
  with_reducible repeat' first
    | assumption | refine State.fault_keeps ?_ | refine State.newHead_keeps ?_ | refine State.writeBack_keeps ?_
    | apply_assumption -exfalso -symm

theorem State.ringsSettle_keeps {s m} (h : s.Keeps q)
    (hq : q.Off 0xa203956 := by have h := ‹Keep.Off q _›; exact Keep.sub h (by decide)) :
    (State.ringsSettle s m).Keeps q := by
  unfold State.ringsSettle
  with_reducible repeat' first
    | assumption | refine fun _ => ?_ | refine State.ringSettle_keeps ?_ | refine State.Keeps.foldl ?_ ?_

theorem State.txTail_keeps {s m r v} (h : s.Keeps q)
    (hq : q.Off 0x8200106 := by have h := ‹Keep.Off q _›; exact Keep.sub h (by decide)) :
    (State.txTail s m r v).Keeps q := by
  unfold State.txTail
  with_reducible repeat' first
    | assumption
    | ((try lift_lets -underBinder); intro x; refine (fun (_ : State.Keeps q x) => ?_) ?_; on_goal 2 => unfold x)
    | ((try lift_lets -underBinder); intro x; have hx : x = x := (by unfold x; rfl); clear hx)
    | refine State.badValue_keeps ?_ | refine State.newHead_keeps ?_ | refine State.setNat_keeps ?_
    | refine State.Keeps.ite ?_ ?_

theorem execTxrTailWrite_keeps {u0 m r value s} (h : s.Keeps q)
    (hq : q.Off 0x8201106 := by have h := ‹Keep.Off q _›; exact Keep.sub h (by decide)) :
    Kept q (execTxrTailWrite u0 m r value s) := by
  unfold execTxrTailWrite
  with_reducible repeat' first
    | assumption | refine fun _ => ?_ | refine done_keeps ?_ | refine State.txTail_keeps ?_
    | refine State.gate_keeps ?_ ?_

theorem State.rxTail_keeps {s m r v} (h : s.Keeps q)
    (hq : q.Off 0x200106 := by have h := ‹Keep.Off q _›; exact Keep.sub h (by decide)) :
    (State.rxTail s m r v).Keeps q := by
  unfold State.rxTail
  with_reducible repeat' first
    | assumption | refine State.badValue_keeps ?_ | refine State.setNat_keeps ?_ | refine State.Keeps.ite ?_ ?_

theorem execRxrTailWrite_keeps {u0 m r value s} (h : s.Keeps q)
    (hq : q.Off 0x201106 := by have h := ‹Keep.Off q _›; exact Keep.sub h (by decide)) :
    Kept q (execRxrTailWrite u0 m r value s) := by
  unfold execRxrTailWrite
  with_reducible repeat' first
    | assumption | refine fun _ => ?_ | refine done_keeps ?_ | refine State.gate_keeps ?_ ?_
    | refine State.rxTail_keeps ?_

theorem State.sampleTimes_keeps {s kind inst v a} (h : s.Keeps q)
    (hq : q.Off 0x800 := by have h := ‹Keep.Off q _›; exact Keep.sub h (by decide)) :
    (State.sampleTimes s kind inst v a).Keeps q := by
  fun_induction State.sampleTimes s kind inst v a <;> try simp only [*]
  with_reducible repeat' first | assumption | refine State.sample_keeps ?_ | apply_assumption -exfalso -symm

theorem State.macMs_keeps {s m} (h : s.Keeps q)
    (hq : q.Off 0x8000800 := by have h := ‹Keep.Off q _›; exact Keep.sub h (by decide)) :
    (State.macMs s m).Keeps q := by
  unfold State.macMs
  with_reducible repeat' first
    | assumption
    | ((try lift_lets -underBinder); intro x; refine (fun (_ : State.Keeps q x) => ?_) ?_; on_goal 2 => unfold x)
    | ((try lift_lets -underBinder); intro x; have hx : x = x := (by unfold x; rfl); clear hx)
    | refine State.sample_keeps ?_ | refine State.setMac_keeps ?_ | refine State.sampleTimes_keeps ?_
    | refine State.Keeps.ite ?_ ?_

end Sys2Proof.Machine
end

