-- ==== Sys2Proof/Laws/KeepsNtm.lean ====
section
/-!
SUPPORT. What the operations of Machine/Ntm.lean keep.
-/
set_option Elab.async false
namespace Sys2Proof.Machine

variable {q : Keep}

theorem State.modNtm_keeps {s f} (h : s.Keeps q)
    (hq : q.Off 0x20000000 := by have h := ‹Keep.Off q _›; exact Keep.sub h (by decide)) :
    (State.modNtm s f).Keeps q := by
  unfold State.modNtm
  with_reducible repeat' first | assumption | fail_if_no_progress (refine State.Keeps.upd ?_ rfl rfl rfl rfl)

theorem State.ntmSend_keeps {s m type event launch d} (h : s.Keeps q)
    (hq : q.Off 0x8008000 := by have h := ‹Keep.Off q _›; exact Keep.sub h (by decide)) :
    (State.ntmSend s m type event launch d).Keeps q := by
  unfold State.ntmSend
  with_reducible repeat' first
    | assumption | ((try lift_lets -underBinder); intro x; have hx : x = x := (by unfold x; rfl); clear hx)
    | refine State.macQueue_keeps ?_

theorem State.ptpSeqNo_keeps {s m type} (h : s.Keeps q)
    (hq : q.Off 0x20000000 := by have h := ‹Keep.Off q _›; exact Keep.sub h (by decide)) :
    (State.ptpSeqNo s m type).2.Keeps q := by
  unfold State.ptpSeqNo
  with_reducible repeat' first
    | assumption | ((try lift_lets -underBinder); intro x; have hx : x = x := (by unfold x; rfl); clear hx)
    | refine State.modNtm_keeps ?_

theorem State.tsqLevel_keeps {s} (h : s.Keeps q)
    (hq : q.Off 0x6 := by have h := ‹Keep.Off q _›; exact Keep.sub h (by decide)) : (State.tsqLevel s).Keeps q := by
  unfold State.tsqLevel
  with_reducible repeat' first | assumption | refine State.setNat_keeps ?_

theorem State.tsqPush_keeps {s m type seq dir u} (h : s.Keeps q)
    (hq : q.Off 0x20200106 := by have h := ‹Keep.Off q _›; exact Keep.sub h (by decide)) :
    (State.tsqPush s m type seq dir u).Keeps q := by
  unfold State.tsqPush
  with_reducible repeat' first
    | assumption
    | ((try lift_lets -underBinder); intro x; refine (fun (_ : State.Keeps q x) => ?_) ?_; on_goal 2 => unfold x)
    | ((try lift_lets -underBinder); intro x; have hx : x = x := (by unfold x; rfl); clear hx)
    | refine State.fault_keeps ?_ | refine State.irq_keeps ?_ | refine State.tsqLevel_keeps ?_
    | refine State.modNtm_keeps ?_ | refine State.Keeps.ite ?_ ?_

theorem State.tsqRead_keeps {s} (h : s.Keeps q)
    (hq : q.Off 0x20002006 := by have h := ‹Keep.Off q _›; exact Keep.sub h (by decide)) :
    (State.tsqRead s).Keeps q := by
  unfold State.tsqRead
  with_reducible repeat' first
    | assumption | refine State.tsqLevel_keeps ?_ | refine State.modNtm_keeps ?_ | refine State.emit_keeps ?_

theorem execTsqHiRead_keeps {u0 s} (h : s.Keeps q)
    (hq : q.Off 0x20203106 := by have h := ‹Keep.Off q _›; exact Keep.sub h (by decide)) :
    Kept q (execTsqHiRead u0 s) := by
  unfold execTsqHiRead
  with_reducible repeat' first
    | assumption | refine fun _ => ?_ | refine done_keeps ?_ | refine State.tsqRead_keeps ?_
    | refine State.access_keeps ?_ ?_

theorem State.ptpLost_keeps {s} (h : s.Keeps q)
    (hq : q.Off 0x1000204306 := by have h := ‹Keep.Off q _›; exact Keep.sub h (by decide)) :
    (State.ptpLost s).Keeps q := by
  unfold State.ptpLost
  with_reducible repeat' first
    | assumption | refine State.fault_keeps ?_ | refine State.irq_keeps ?_ | refine State.setSts_keeps ?_
    | refine State.srcLost_keeps ?_ | refine State.Keeps.ite ?_ ?_

theorem State.ptpGained_keeps {s} (h : s.Keeps q)
    (hq : q.Off 0x204306 := by have h := ‹Keep.Off q _›; exact Keep.sub h (by decide)) :
    (State.ptpGained s).Keeps q := by
  unfold State.ptpGained
  with_reducible repeat' first
    | assumption | refine State.irq_keeps ?_ | refine State.setSts_keeps ?_ | refine State.tlnSettle_keeps ?_
    | refine State.Keeps.ite ?_ ?_

theorem State.slaveRefresh_keeps {s} (h : s.Keeps q)
    (hq : q.Off 0x200106 := by have h := ‹Keep.Off q _›; exact Keep.sub h (by decide)) :
    (State.slaveRefresh s).Keeps q := by
  unfold State.slaveRefresh
  with_reducible repeat' first
    | assumption | ((try lift_lets -underBinder); intro x; have hx : x = x := (by unfold x; rfl); clear hx)
    | refine State.irq_keeps ?_ | refine State.setNat_keeps ?_ | refine State.Keeps.ite ?_ ?_

theorem State.drawDelay_keeps {s m} (h : s.Keeps q)
    (hq : q.Off 0x20000000 := by have h := ‹Keep.Off q _›; exact Keep.sub h (by decide)) :
    (State.drawDelay s m).Keeps q := by
  unfold State.drawDelay
  with_reducible repeat' first
    | assumption | ((try lift_lets -underBinder); intro x; have hx : x = x := (by unfold x; rfl); clear hx)
    | refine State.modNtm_keeps ?_

theorem State.dropDelay_keeps {s} (h : s.Keeps q)
    (hq : q.Off 0x20000006 := by have h := ‹Keep.Off q _›; exact Keep.sub h (by decide)) :
    (State.dropDelay s).Keeps q := by
  unfold State.dropDelay
  with_reducible repeat' first | assumption | refine State.setNat_keeps ?_ | refine State.modNtm_keeps ?_

theorem State.calibrate_keeps {s m} (h : s.Keeps q)
    (hq : q.Off 0x20000006 := by have h := ‹Keep.Off q _›; exact Keep.sub h (by decide)) :
    (State.calibrate s m).Keeps q := by
  unfold State.calibrate
  with_reducible repeat' first
    | assumption | refine State.drawDelay_keeps ?_ | refine State.modNtm_keeps ?_ | refine State.dropDelay_keeps ?_

theorem State.portStateWrite_keeps {s r m v} (h : s.Keeps q)
    (hq : q.Off 0x1020204306 := by have h := ‹Keep.Off q _›; exact Keep.sub h (by decide)) :
    (State.portStateWrite s r m v).Keeps q := by
  unfold State.portStateWrite
  with_reducible repeat' first
    | assumption
    | ((try lift_lets -underBinder); intro x; refine (fun (_ : State.Keeps q x) => ?_) ?_; on_goal 2 => unfold x)
    | ((try lift_lets -underBinder); intro x; have hx : x = x := (by unfold x; rfl); clear hx)
    | refine State.fault_keeps ?_ | refine State.badValue_keeps ?_ | refine State.ptpLost_keeps ?_
    | refine State.slaveRefresh_keeps ?_ | refine State.setFld_keeps ?_ | refine State.modNtm_keeps ?_
    | refine State.calibrate_keeps ?_ | refine State.Keeps.ite ?_ ?_

theorem execPortStateWrite_keeps {req m value s} (h : s.Keeps q)
    (hq : q.Off 0x1020205306 := by have h := ‹Keep.Off q _›; exact Keep.sub h (by decide)) :
    Kept q (execPortStateWrite req m value s) := by
  unfold execPortStateWrite
  with_reducible repeat' first
    | assumption | refine fun _ => ?_ | refine done_keeps ?_ | refine State.gate_keeps ?_ ?_
    | refine State.portStateWrite_keeps ?_

theorem State.syncSend_keeps {s m} (h : s.Keeps q)
    (hq : q.Off 0x28008000 := by have h := ‹Keep.Off q _›; exact Keep.sub h (by decide)) :
    (State.syncSend s m).Keeps q := by
  unfold State.syncSend
  with_reducible repeat' first
    | assumption
    | ((try lift_lets -underBinder); intro x; refine (fun (_ : State.Keeps q x.2) => ?_) ?_; on_goal 2 => unfold x)
    | ((try lift_lets -underBinder); intro x; have hx : x = x := (by unfold x; rfl); clear hx; have hy : List _ := x; clear hy; clear_value x)
    | ((try lift_lets -underBinder); intro x; have hx : x = x := (by unfold x; rfl); clear hx)
    | refine State.ntmSend_keeps ?_ | refine State.modNtm_keeps ?_ | refine State.ptpSeqNo_keeps ?_
    | refine State.Keeps.ite ?_ ?_

theorem execPtpSyncSend_keeps {m s} (h : s.Keeps q)
    (hq : q.Off 0x28008000 := by have h := ‹Keep.Off q _›; exact Keep.sub h (by decide)) :
    Kept q (execPtpSyncSend m s) := by
  unfold execPtpSyncSend
  with_reducible repeat' first | assumption | refine done_keeps ?_ | refine State.syncSend_keeps ?_

theorem State.announceNow_keeps {s m} (h : s.Keeps q)
    (hq : q.Off 0x28008000 := by have h := ‹Keep.Off q _›; exact Keep.sub h (by decide)) :
    (State.announceNow s m).Keeps q := by
  unfold State.announceNow
  with_reducible repeat' first
    | assumption
    | ((try lift_lets -underBinder); intro x; refine (fun (_ : State.Keeps q x.2) => ?_) ?_; on_goal 2 => unfold x)
    | ((try lift_lets -underBinder); intro x; have hx : x = x := (by unfold x; rfl); clear hx; have hy : List _ := x; clear hy; clear_value x)
    | ((try lift_lets -underBinder); intro x; have hx : x = x := (by unfold x; rfl); clear hx)
    | refine State.ntmSend_keeps ?_ | refine State.modNtm_keeps ?_ | refine State.ptpSeqNo_keeps ?_

theorem State.announceSend_keeps {s m} (h : s.Keeps q)
    (hq : q.Off 0x28208706 := by have h := ‹Keep.Off q _›; exact Keep.sub h (by decide)) :
    (State.announceSend s m).Keeps q := by
  unfold State.announceSend
  with_reducible repeat' first
    | assumption | refine fun _ => ?_ | refine State.announceNow_keeps ?_ | refine State.atTime_keeps ?_ ?_
    | refine State.Keeps.ite ?_ ?_ | split

theorem execPtpAnnounceSend_keeps {m s} (h : s.Keeps q)
    (hq : q.Off 0x28208706 := by have h := ‹Keep.Off q _›; exact Keep.sub h (by decide)) :
    Kept q (execPtpAnnounceSend m s) := by
  unfold execPtpAnnounceSend
  with_reducible repeat' first | assumption | refine done_keeps ?_ | refine State.announceSend_keeps ?_

theorem State.delayReqSend_keeps {s} (h : s.Keeps q)
    (hq : q.Off 0x28208706 := by have h := ‹Keep.Off q _›; exact Keep.sub h (by decide)) :
    (State.delayReqSend s).Keeps q := by
  unfold State.delayReqSend
  with_reducible repeat' first
    | assumption | refine fun _ => ?_
    | ((try lift_lets -underBinder); intro x; refine (fun (_ : State.Keeps q x.2) => ?_) ?_; on_goal 2 => unfold x)
    | ((try lift_lets -underBinder); intro x; have hx : x = x := (by unfold x; rfl); clear hx; have hy : List _ := x; clear hy; clear_value x)
    | refine State.drawDelay_keeps ?_ | refine State.ntmSend_keeps ?_ | refine State.modNtm_keeps ?_
    | refine State.ptpSeqNo_keeps ?_ | refine State.atTime_keeps ?_ ?_ | refine State.Keeps.ite ?_ ?_ | split

theorem execPtpDelayReqSend_keeps {s} (h : s.Keeps q)
    (hq : q.Off 0x28208706 := by have h := ‹Keep.Off q _›; exact Keep.sub h (by decide)) :
    Kept q (execPtpDelayReqSend s) := by
  unfold execPtpDelayReqSend
  with_reducible repeat' first | assumption | refine done_keeps ?_ | refine State.delayReqSend_keeps ?_

theorem State.delayRespTimeout_keeps {s} (h : s.Keeps q)
    (hq : q.Off 0x20200706 := by have h := ‹Keep.Off q _›; exact Keep.sub h (by decide)) :
    (State.delayRespTimeout s).Keeps q := by
  unfold State.delayRespTimeout
  with_reducible repeat' first
    | assumption | refine fun _ => ?_ | refine State.inc_keeps ?_ | refine State.modNtm_keeps ?_
    | refine State.atTime_keeps ?_ ?_ | split

theorem execPtpDelayRespTimeout_keeps {s} (h : s.Keeps q)
    (hq : q.Off 0x20200706 := by have h := ‹Keep.Off q _›; exact Keep.sub h (by decide)) :
    Kept q (execPtpDelayRespTimeout s) := by
  unfold execPtpDelayRespTimeout
  with_reducible repeat' first | assumption | refine done_keeps ?_ | refine State.delayRespTimeout_keeps ?_

theorem State.ntmSent_keeps {s m t u f} (h : s.Keeps q)
    (hq : q.Off 0x20200106 := by have h := ‹Keep.Off q _›; exact Keep.sub h (by decide)) :
    (State.ntmSent s m t u f).Keeps q := by
  unfold State.ntmSent
  with_reducible repeat' first
    | assumption
    | ((try lift_lets -underBinder); intro x; refine (fun (_ : State.Keeps q x) => ?_) ?_; on_goal 2 => unfold x)
    | ((try lift_lets -underBinder); intro x; have hx : x = x := (by unfold x; rfl); clear hx)
    | refine State.tsqPush_keeps ?_ | refine State.inc_keeps ?_ | refine State.modNtm_keeps ?_ | split

theorem State.syncAccept_keeps {s m seq t1 corr rx} (h : s.Keeps q)
    (hq : q.Off 0x220205f06 := by have h := ‹Keep.Off q _›; exact Keep.sub h (by decide)) :
    (State.syncAccept s m seq t1 corr rx).Keeps q := by
  unfold State.syncAccept
  with_reducible repeat' first
    | assumption
    | ((try lift_lets -underBinder); intro x; refine (fun (_ : State.Keeps q x) => ?_) ?_; on_goal 2 => unfold x)
    | ((try lift_lets -underBinder); intro x; have hx : x = x := (by unfold x; rfl); clear hx; have hy : Option _ := x; clear hy; clear_value x)
    | ((try lift_lets -underBinder); intro x; have hx : x = x := (by unfold x; rfl); clear hx)
    | refine State.sample_keeps ?_ | refine State.ptpGained_keeps ?_ | refine State.tsqPush_keeps ?_
    | refine State.setNat_keeps ?_ | refine State.inc_keeps ?_ | refine State.servoEvent_keeps ?_
    | refine State.modNtm_keeps ?_ | refine State.Keeps.ite ?_ ?_ | split

theorem State.syncMissed_keeps {s} (h : s.Keeps q)
    (hq : q.Off 0x20000006 := by have h := ‹Keep.Off q _›; exact Keep.sub h (by decide)) :
    (State.syncMissed s).Keeps q := by
  unfold State.syncMissed
  with_reducible repeat' first
    | assumption | refine State.inc_keeps ?_ | refine State.modNtm_keeps ?_ | refine State.Keeps.ite ?_ ?_

theorem State.syncRx_keeps {s m ago f} (h : s.Keeps q)
    (hq : q.Off 0x220205f06 := by have h := ‹Keep.Off q _›; exact Keep.sub h (by decide)) :
    (State.syncRx s m ago f).Keeps q := by
  unfold State.syncRx
  with_reducible repeat' first
    | assumption
    | ((try lift_lets -underBinder); intro x; refine (fun (_ : State.Keeps q x) => ?_) ?_; on_goal 2 => unfold x)
    | ((try lift_lets -underBinder); intro x; have hx : x = x := (by unfold x; rfl); clear hx)
    | refine State.syncAccept_keeps ?_ | refine State.syncMissed_keeps ?_ | refine State.inc_keeps ?_
    | refine State.modNtm_keeps ?_ | refine State.Keeps.ite ?_ ?_ | split

theorem execPtpSyncRx_keeps {m ago frame s} (h : s.Keeps q)
    (hq : q.Off 0x220205f06 := by have h := ‹Keep.Off q _›; exact Keep.sub h (by decide)) :
    Kept q (execPtpSyncRx m ago frame s) := by
  unfold execPtpSyncRx
  with_reducible repeat' first
    | assumption | refine done_keeps ?_ | refine State.syncRx_keeps ?_ | refine State.Keeps.ite ?_ ?_

theorem State.followUpRx_keeps {s m f} (h : s.Keeps q)
    (hq : q.Off 0x220205f06 := by have h := ‹Keep.Off q _›; exact Keep.sub h (by decide)) :
    (State.followUpRx s m f).Keeps q := by
  unfold State.followUpRx
  with_reducible repeat' first
    | assumption | refine State.syncAccept_keeps ?_ | refine State.Keeps.ite ?_ ?_ | split

theorem execPtpFollowUpRx_keeps {m frame s} (h : s.Keeps q)
    (hq : q.Off 0x220205f06 := by have h := ‹Keep.Off q _›; exact Keep.sub h (by decide)) :
    Kept q (execPtpFollowUpRx m frame s) := by
  unfold execPtpFollowUpRx
  with_reducible repeat' first
    | assumption | refine done_keeps ?_ | refine State.followUpRx_keeps ?_ | refine State.Keeps.ite ?_ ?_

theorem State.ptpUncert_keeps {s m} (h : s.Keeps q)
    (hq : q.Off 0x6 := by have h := ‹Keep.Off q _›; exact Keep.sub h (by decide)) : (State.ptpUncert s m).Keeps q := by
  unfold State.ptpUncert
  with_reducible repeat' first
    | assumption
    | ((try lift_lets -underBinder); intro x; have hx : x = x := (by unfold x; rfl); clear hx; have hy : List _ := x; clear hy; clear_value x)
    | ((try lift_lets -underBinder); intro x; have hx : x = x := (by unfold x; rfl); clear hx)
    | refine State.setNat_keeps ?_

theorem State.delaySample_keeps {s m d} (h : s.Keeps q)
    (hq : q.Off 0x20000806 := by have h := ‹Keep.Off q _›; exact Keep.sub h (by decide)) :
    (State.delaySample s m d).Keeps q := by
  unfold State.delaySample
  with_reducible repeat' first
    | assumption
    | ((try lift_lets -underBinder); intro x; refine (fun (_ : State.Keeps q x) => ?_) ?_; on_goal 2 => unfold x)
    | ((try lift_lets -underBinder); intro x; have hx : x = x := (by unfold x; rfl); clear hx)
    | refine State.sample_keeps ?_ | refine State.ptpUncert_keeps ?_ | refine State.setNat_keeps ?_
    | refine State.inc_keeps ?_ | refine State.modNtm_keeps ?_ | refine State.Keeps.ite ?_ ?_ | split

theorem State.delayRespRx_keeps {s m f} (h : s.Keeps q)
    (hq : q.Off 0x20000806 := by have h := ‹Keep.Off q _›; exact Keep.sub h (by decide)) :
    (State.delayRespRx s m f).Keeps q := by
  unfold State.delayRespRx
  with_reducible repeat' first
    | assumption | ((try lift_lets -underBinder); intro x; have hx : x = x := (by unfold x; rfl); clear hx)
    | refine State.delaySample_keeps ?_ | refine State.modNtm_keeps ?_ | refine State.Keeps.ite ?_ ?_ | split

theorem execPtpDelayRespRx_keeps {m frame s} (h : s.Keeps q)
    (hq : q.Off 0x20000806 := by have h := ‹Keep.Off q _›; exact Keep.sub h (by decide)) :
    Kept q (execPtpDelayRespRx m frame s) := by
  unfold execPtpDelayRespRx
  with_reducible repeat' first
    | assumption | refine done_keeps ?_ | refine State.delayRespRx_keeps ?_ | refine State.Keeps.ite ?_ ?_

theorem State.delayReqRx_keeps {s m ago f} (h : s.Keeps q)
    (hq : q.Off 0x20200106 := by have h := ‹Keep.Off q _›; exact Keep.sub h (by decide)) :
    (State.delayReqRx s m ago f).Keeps q := by
  unfold State.delayReqRx
  with_reducible repeat' first
    | assumption
    | ((try lift_lets -underBinder); intro x; have hx : x = x := (by unfold x; rfl); clear hx; have hy : List _ := x; clear hy; clear_value x)
    | ((try lift_lets -underBinder); intro x; have hx : x = x := (by unfold x; rfl); clear hx)
    | refine State.tsqPush_keeps ?_ | refine State.inc_keeps ?_ | refine State.modNtm_keeps ?_
    | refine State.Keeps.ite ?_ ?_ | split

theorem execPtpDelayReqRx_keeps {m ago frame s} (h : s.Keeps q)
    (hq : q.Off 0x20200106 := by have h := ‹Keep.Off q _›; exact Keep.sub h (by decide)) :
    Kept q (execPtpDelayReqRx m ago frame s) := by
  unfold execPtpDelayReqRx
  with_reducible repeat' first
    | assumption | refine done_keeps ?_ | refine State.delayReqRx_keeps ?_ | refine State.Keeps.ite ?_ ?_

theorem State.delayRespSend_keeps {s} (h : s.Keeps q)
    (hq : q.Off 0x28008000 := by have h := ‹Keep.Off q _›; exact Keep.sub h (by decide)) :
    (State.delayRespSend s).Keeps q := by
  unfold State.delayRespSend
  with_reducible repeat' first
    | assumption
    | ((try lift_lets -underBinder); intro x; refine (fun (_ : State.Keeps q x) => ?_) ?_; on_goal 2 => unfold x)
    | refine State.ntmSend_keeps ?_ | refine State.modNtm_keeps ?_ | refine State.Keeps.ite ?_ ?_ | split

theorem execPtpDelayRespSend_keeps {s} (h : s.Keeps q)
    (hq : q.Off 0x28008000 := by have h := ‹Keep.Off q _›; exact Keep.sub h (by decide)) :
    Kept q (execPtpDelayRespSend s) := by
  unfold execPtpDelayRespSend
  with_reducible repeat' first | assumption | refine done_keeps ?_ | refine State.delayRespSend_keeps ?_

theorem State.ntmTake_keeps {s m ago f} (h : s.Keeps q)
    (hq : q.Off 0x220205f06 := by have h := ‹Keep.Off q _›; exact Keep.sub h (by decide)) :
    (State.ntmTake s m ago f).Keeps q := by
  unfold State.ntmTake
  with_reducible repeat' first
    | assumption | refine State.syncRx_keeps ?_ | refine State.delayRespRx_keeps ?_ | refine State.delayReqRx_keeps ?_
    | refine State.followUpRx_keeps ?_ | refine State.inc_keeps ?_ | refine State.Keeps.ite ?_ ?_ | split

theorem State.syncLoss_keeps {s} (h : s.Keeps q)
    (hq : q.Off 0x1000204706 := by have h := ‹Keep.Off q _›; exact Keep.sub h (by decide)) :
    (State.syncLoss s).Keeps q := by
  unfold State.syncLoss
  with_reducible repeat' first
    | assumption | refine fun _ => ?_
    | ((try lift_lets -underBinder); intro x; have hx : x = x := (by unfold x; rfl); clear hx)
    | refine State.ptpLost_keeps ?_ | refine State.atTime_keeps ?_ ?_ | refine State.Keeps.ite ?_ ?_ | split

theorem execPtpSyncLoss_keeps {s} (h : s.Keeps q)
    (hq : q.Off 0x1000204706 := by have h := ‹Keep.Off q _›; exact Keep.sub h (by decide)) :
    Kept q (execPtpSyncLoss s) := by
  unfold execPtpSyncLoss
  with_reducible repeat' first | assumption | refine done_keeps ?_ | refine State.syncLoss_keeps ?_

theorem State.tcCorrect_keeps {s m t inPort rx valid f} (h : s.Keeps q)
    (hq : q.Off 0x200106 := by have h := ‹Keep.Off q _›; exact Keep.sub h (by decide)) :
    (State.tcCorrect s m t inPort rx valid f).2.Keeps q := by
  unfold State.tcCorrect
  with_reducible repeat' first
    | assumption
    | ((try lift_lets -underBinder); intro x; refine (fun (_ : State.Keeps q x) => ?_) ?_; on_goal 2 => unfold x)
    | ((try lift_lets -underBinder); intro x; have hx : x = x := (by unfold x; rfl); clear hx)
    | refine State.fault_keeps ?_ | refine State.inc_keeps ?_ | refine State.Keeps.ite ?_ ?_ | split

theorem State.ntmCommit_keeps {s} (h : s.Keeps q)
    (hq : q.Off 0x100060638e := by have h := ‹Keep.Off q _›; exact Keep.sub h (by decide)) :
    (State.ntmCommit s).Keeps q := by
  unfold State.ntmCommit
  with_reducible repeat' first
    | assumption | refine fun _ => ?_ | refine State.ptpLost_keeps ?_ | refine State.commitPoint_keeps ?_ ?_
    | refine State.Keeps.ite ?_ ?_ | split

end Sys2Proof.Machine
end

