-- ==== Sys2Proof/Laws/KeepsStreams.lean ====
section
/-!
SUPPORT. What the operations of Machine/Streams.lean keep.
-/
set_option Elab.async false
namespace Sys2Proof.Machine

variable {q : Keep}

theorem State.fixRun_keeps {s j} (h : s.Keeps q)
    (hq : q.Off 0x200106 := by have h := ‹Keep.Off q _›; exact Keep.sub h (by decide)) :
    (State.fixRun s j).1.Keeps q := by
  unfold State.fixRun
  with_reducible repeat' first
    | assumption
    | ((try lift_lets -underBinder); intro x; refine (fun (_ : State.Keeps q x) => ?_) ?_; on_goal 2 => unfold x)
    | ((try lift_lets -underBinder); intro x; have hx : x = x := (by unfold x; rfl); clear hx)
    | refine State.fault_keeps ?_ | refine State.addReg_keeps ?_ | refine State.Keeps.ite ?_ ?_ | split

theorem State.strPack_keeps {s e i f} (h : s.Keeps q)
    (hq : q.Off 0x2203956 := by have h := ‹Keep.Off q _›; exact Keep.sub h (by decide)) :
    (State.strPack s e i f).1.Keeps q := by
  unfold State.strPack
  with_reducible repeat' first
    | assumption
    | ((try lift_lets -underBinder); intro x; refine (fun (_ : State.Keeps q x) => ?_) ?_; on_goal 2 => unfold x)
    | ((try lift_lets -underBinder); intro x; refine (fun (_ : State.Keeps q x.1) => ?_) ?_; on_goal 2 => unfold x)
    | ((try lift_lets -underBinder); intro x; have hx : x = x := (by unfold x; rfl); clear hx)
    | refine State.fault_keeps ?_ | refine State.hwMem_keeps ?_ | refine State.inc_keeps ?_
    | refine State.hwBytes_keeps ?_ | split

theorem State.strCheck_keeps {s e l} (h : s.Keeps q)
    (hq : q.Off 0x200106 := by have h := ‹Keep.Off q _›; exact Keep.sub h (by decide)) :
    (State.strCheck s e l).1.Keeps q := by
  unfold State.strCheck
  with_reducible repeat' first | assumption | refine State.fault_keeps ?_ | refine State.inc_keeps ?_ | split

theorem State.strUnderrun_keeps {s e} (h : s.Keeps q)
    (hq : q.Off 0x208706 := by have h := ‹Keep.Off q _›; exact Keep.sub h (by decide)) :
    (State.strUnderrun s e).Keeps q := by
  unfold State.strUnderrun
  with_reducible repeat' first
    | assumption | refine fun _ => ?_
    | ((try lift_lets -underBinder); intro x; refine (fun (_ : State.Keeps q x.1) => ?_) ?_; on_goal 2 => unfold x)
    | refine State.chooseLaunch_keeps ?_ | refine State.strCheck_keeps ?_ | refine State.atTime_keeps ?_ ?_
    | refine State.Keeps.ite ?_ ?_ | split

theorem execStrUnderrunCheck_keeps {e s} (h : s.Keeps q)
    (hq : q.Off 0x208706 := by have h := ‹Keep.Off q _›; exact Keep.sub h (by decide)) :
    Kept q (execStrUnderrunCheck e s) := by
  unfold execStrUnderrunCheck
  with_reducible repeat' first | assumption | refine done_keeps ?_ | refine State.strUnderrun_keeps ?_

theorem State.strQueue_keeps {s e l g} (h : s.Keeps q)
    (hq : q.Off 0x8100000 := by have h := ‹Keep.Off q _›; exact Keep.sub h (by decide)) :
    (State.strQueue s e l g).Keeps q := by
  unfold State.strQueue
  with_reducible repeat' first
    | assumption
    | ((try lift_lets -underBinder); intro x; refine (fun (_ : State.Keeps q x) => ?_) ?_; on_goal 2 => unfold x)
    | ((try lift_lets -underBinder); intro x; have hx : x = x := (by unfold x; rfl); clear hx; have hy : List _ := x; clear hy; clear_value x)
    | ((try lift_lets -underBinder); intro x; have hx : x = x := (by unfold x; rfl); clear hx)
    | refine State.setPort_keeps ?_ | refine State.macQueue_keeps ?_ | refine State.Keeps.ite ?_ ?_

theorem State.strLaunch_keeps {s e} (h : s.Keeps q)
    (hq : q.Off 0x8308706 := by have h := ‹Keep.Off q _›; exact Keep.sub h (by decide)) :
    (State.strLaunch s e).Keeps q := by
  unfold State.strLaunch
  with_reducible repeat' first
    | assumption | refine fun _ => ?_
    | ((try lift_lets -underBinder); intro x; refine (fun (_ : State.Keeps q x) => ?_) ?_; on_goal 2 => unfold x)
    | refine State.dropLaunch_keeps ?_ | refine State.strQueue_keeps ?_ | refine State.strUnderrun_keeps ?_
    | refine State.atTime_keeps ?_ ?_ | refine State.Keeps.ite ?_ ?_ | split

theorem execStreamLaunch_keeps {e s} (h : s.Keeps q)
    (hq : q.Off 0x8308706 := by have h := ‹Keep.Off q _›; exact Keep.sub h (by decide)) :
    Kept q (execStreamLaunch e s) := by
  unfold execStreamLaunch
  with_reducible repeat' first | assumption | refine done_keeps ?_ | refine State.strLaunch_keeps ?_

theorem State.strStopped_keeps {s k} (h : s.Keeps q)
    (hq : q.Off 0x80000000 := by have h := ‹Keep.Off q _›; exact Keep.sub h (by decide)) :
    (State.strStopped s k).Keeps q := by
  unfold State.strStopped
  with_reducible repeat' first
    | assumption | ((try lift_lets -underBinder); intro x; have hx : x = x := (by unfold x; rfl); clear hx)
    | refine State.Keeps.ite ?_ ?_ | fail_if_no_progress (refine State.Keeps.upd ?_ rfl rfl rfl rfl)

theorem State.terminateEntry_keeps {s e} (h : s.Keeps q)
    (hq : q.Off 0x8000000 := by have h := ‹Keep.Off q _›; exact Keep.sub h (by decide)) :
    (State.terminateEntry s e).Keeps q := by
  unfold State.terminateEntry
  with_reducible repeat' first
    | assumption | ((try lift_lets -underBinder); intro x; have hx : x = x := (by unfold x; rfl); clear hx)
    | refine State.macQueue_keeps ?_ | split

theorem State.strTerminate_keeps {s k} (h : s.Keeps q)
    (hq : q.Off 0x88200706 := by have h := ‹Keep.Off q _›; exact Keep.sub h (by decide)) :
    (State.strTerminate s k).Keeps q := by
  unfold State.strTerminate
  with_reducible repeat' first
    | assumption | refine fun _ => ?_
    | ((try lift_lets -underBinder); intro x; refine (fun (_ : State.Keeps q x) => ?_) ?_; on_goal 2 => unfold x)
    | ((try lift_lets -underBinder); intro x; have hx : x = x := (by unfold x; rfl); clear hx; have hy : List _ := x; clear hy; clear_value x)
    | ((try lift_lets -underBinder); intro x; have hx : x = x := (by unfold x; rfl); clear hx)
    | refine State.terminateEntry_keeps ?_ | refine State.atTime_keeps ?_ ?_ | refine State.Keeps.ite ?_ ?_
    | refine State.Keeps.foldl ?_ ?_ | fail_if_no_progress (refine State.Keeps.upd ?_ rfl rfl rfl rfl) | split

theorem execStreamTerminateSend_keeps {k s} (h : s.Keeps q)
    (hq : q.Off 0x88200706 := by have h := ‹Keep.Off q _›; exact Keep.sub h (by decide)) :
    Kept q (execStreamTerminateSend k s) := by
  unfold execStreamTerminateSend
  with_reducible repeat' first | assumption | refine done_keeps ?_ | refine State.strTerminate_keeps ?_

theorem State.discoverFor_keeps {s m es} (h : s.Keeps q)
    (hq : q.Off 0x8000000 := by have h := ‹Keep.Off q _›; exact Keep.sub h (by decide)) :
    (State.discoverFor s m es).Keeps q := by
  unfold State.discoverFor
  with_reducible repeat' first
    | assumption
    | ((try lift_lets -underBinder); intro x; have hx : x = x := (by unfold x; rfl); clear hx; have hy : List _ := x; clear hy; clear_value x)
    | ((try lift_lets -underBinder); intro x; have hx : x = x := (by unfold x; rfl); clear hx)
    | refine State.macQueue_keeps ?_ | split

theorem State.discoverMac_keeps {s m} (h : s.Keeps q)
    (hq : q.Off 0x8000000 := by have h := ‹Keep.Off q _›; exact Keep.sub h (by decide)) :
    (State.discoverMac s m).Keeps q := by
  unfold State.discoverMac
  with_reducible repeat' first | assumption | refine State.discoverFor_keeps ?_

theorem State.discover_keeps {s} (h : s.Keeps q)
    (hq : q.Off 0x88200706 := by have h := ‹Keep.Off q _›; exact Keep.sub h (by decide)) :
    (State.discover s).Keeps q := by
  unfold State.discover
  with_reducible repeat' first
    | assumption | refine fun _ => ?_
    | ((try lift_lets -underBinder); intro x; refine (fun (hlet : ∀ a, State.Keeps q a → State.Keeps q (x a)) => ?_) ?_; on_goal 2 => unfold x)
    | ((try lift_lets -underBinder); intro x; have hx : x = x := (by unfold x; rfl); clear hx)
    | refine State.discoverMac_keeps ?_ | refine State.atTime_keeps ?_ ?_ | refine State.Keeps.ite ?_ ?_
    | refine State.Keeps.foldl ?_ ?_ | fail_if_no_progress (refine State.Keeps.upd ?_ rfl rfl rfl rfl) | split

theorem execE131DiscoverySend_keeps {s} (h : s.Keeps q)
    (hq : q.Off 0x88200706 := by have h := ‹Keep.Off q _›; exact Keep.sub h (by decide)) :
    Kept q (execE131DiscoverySend s) := by
  unfold execE131DiscoverySend
  with_reducible repeat' first | assumption | refine done_keeps ?_ | refine State.discover_keeps ?_

theorem State.fixCommit_keeps {s} (h : s.Keeps q)
    (hq : q.Off 0x60218e := by have h := ‹Keep.Off q _›; exact Keep.sub h (by decide)) :
    (State.fixCommit s).Keeps q := by
  unfold State.fixCommit
  with_reducible repeat' first
    | assumption | refine fun _ => ?_ | refine State.commitPoint_keeps ?_ ?_ | refine State.Keeps.id_ ?_

theorem State.strCommit_keeps {s} (h : s.Keeps q)
    (hq : q.Off 0x60218e := by have h := ‹Keep.Off q _›; exact Keep.sub h (by decide)) :
    (State.strCommit s).Keeps q := by
  unfold State.strCommit
  with_reducible repeat' first
    | assumption | refine fun _ => ?_ | refine State.commitPoint_keeps ?_ ?_ | refine State.Keeps.id_ ?_

end Sys2Proof.Machine
end

