-- ==== Sys2Proof/Laws/KeepsIngest.lean ====
section
/-!
SUPPORT. What the operations of Machine/Ingest.lean keep.
-/
set_option Elab.async false
namespace Sys2Proof.Machine

variable {q : Keep}

theorem State.setIng_keeps {s i v} (h : s.Keeps q)
    (hq : q.Off 0x40000000 := by have h := ‹Keep.Off q _›; exact Keep.sub h (by decide)) :
    (State.setIng s i v).Keeps q := by
  unfold State.setIng
  with_reducible repeat' first | assumption | fail_if_no_progress (refine State.Keeps.upd ?_ rfl rfl rfl rfl)

theorem State.ingPut_keeps {s i b x y t} (h : s.Keeps q)
    (hq : q.Off 0x2203956 := by have h := ‹Keep.Off q _›; exact Keep.sub h (by decide)) :
    (State.ingPut s i b x y t).Keeps q := by
  unfold State.ingPut
  with_reducible repeat' first
    | assumption | ((try lift_lets -underBinder); intro x; have hx : x = x := (by unfold x; rfl); clear hx)
    | refine State.hwBytes_keeps ?_ | refine State.Keeps.ite ?_ ?_

theorem State.putTexels_keeps {s i b y a a5} (h : s.Keeps q)
    (hq : q.Off 0x2203956 := by have h := ‹Keep.Off q _›; exact Keep.sub h (by decide)) :
    (State.putTexels s i b y a a5).Keeps q := by
  fun_induction State.putTexels s i b y a a5 <;> try simp only [*]
  with_reducible repeat' first | assumption | refine State.ingPut_keeps ?_ | apply_assumption -exfalso -symm

theorem State.putGroups_keeps {s i b y a a5 a6} (h : s.Keeps q)
    (hq : q.Off 0x2203956 := by have h := ‹Keep.Off q _›; exact Keep.sub h (by decide)) :
    (State.putGroups s i b y a a5 a6).Keeps q := by
  fun_induction State.putGroups s i b y a a5 a6 <;> try simp only [*]
  with_reducible repeat' first | assumption | refine State.putTexels_keeps ?_ | apply_assumption -exfalso -symm

theorem State.putRows_keeps {s i b a a4} (h : s.Keeps q)
    (hq : q.Off 0x2203956 := by have h := ‹Keep.Off q _›; exact Keep.sub h (by decide)) :
    (State.putRows s i b a a4).Keeps q := by
  fun_induction State.putRows s i b a a4 <;> try simp only [*]
  with_reducible repeat' first | assumption | refine State.putGroups_keeps ?_ | apply_assumption -exfalso -symm

theorem State.putUnits_keeps {s i b size a a5 a6} (h : s.Keeps q)
    (hq : q.Off 0x2203956 := by have h := ‹Keep.Off q _›; exact Keep.sub h (by decide)) :
    (State.putUnits s i b size a a5 a6).Keeps q := by
  fun_induction State.putUnits s i b size a a5 a6 <;> try simp only [*]
  with_reducible repeat' first | assumption | refine State.ingPut_keeps ?_ | apply_assumption -exfalso -symm

theorem State.ingDiscard_keeps {s i} (h : s.Keeps q)
    (hq : q.Off 0x6 := by have h := ‹Keep.Off q _›; exact Keep.sub h (by decide)) :
    (State.ingDiscard s i).Keeps q := by
  unfold State.ingDiscard
  with_reducible repeat' first | assumption | refine State.inc_keeps ?_

theorem State.ingFormatErr_keeps {s i} (h : s.Keeps q)
    (hq : q.Off 0x200106 := by have h := ‹Keep.Off q _›; exact Keep.sub h (by decide)) :
    (State.ingFormatErr s i).Keeps q := by
  unfold State.ingFormatErr
  with_reducible repeat' first | assumption | refine State.fault_keeps ?_ | refine State.ingDiscard_keeps ?_

theorem State.ingOpen_keeps {s i stamp} (h : s.Keeps q)
    (hq : q.Off 0x40200106 := by have h := ‹Keep.Off q _›; exact Keep.sub h (by decide)) :
    (State.ingOpen s i stamp).Keeps q := by
  unfold State.ingOpen
  with_reducible repeat' first
    | assumption
    | ((try lift_lets -underBinder); intro x; refine (fun (_ : State.Keeps q x) => ?_) ?_; on_goal 2 => unfold x)
    | ((try lift_lets -underBinder); intro x; have hx : x = x := (by unfold x; rfl); clear hx)
    | refine State.ingFormatErr_keeps ?_ | refine State.setIng_keeps ?_ | refine State.Keeps.ite ?_ ?_

theorem State.ingEnd_keeps {s i short} (h : s.Keeps q)
    (hq : q.Off 0x42287956 := by have h := ‹Keep.Off q _›; exact Keep.sub h (by decide)) :
    (State.ingEnd s i short).Keeps q := by
  unfold State.ingEnd
  with_reducible repeat' first
    | assumption
    | ((try lift_lets -underBinder); intro x; refine (fun (_ : State.Keeps q x) => ?_) ?_; on_goal 2 => unfold x)
    | ((try lift_lets -underBinder); intro x; have hx : x = x := (by unfold x; rfl); clear hx)
    | refine State.fault_keeps ?_ | refine State.submit_keeps ?_ | refine State.inc_keeps ?_
    | refine State.ingDiscard_keeps ?_ | refine State.setIng_keeps ?_ | refine State.Keeps.ite ?_ ?_

theorem State.ingGap_keeps {s i seq} (h : s.Keeps q)
    (hq : q.Off 0x40200106 := by have h := ‹Keep.Off q _›; exact Keep.sub h (by decide)) :
    (State.ingGap s i seq).Keeps q := by
  unfold State.ingGap
  with_reducible repeat' first
    | assumption
    | ((try lift_lets -underBinder); intro x; refine (fun (_ : State.Keeps q x) => ?_) ?_; on_goal 2 => unfold x)
    | ((try lift_lets -underBinder); intro x; have hx : x = x := (by unfold x; rfl); clear hx)
    | refine State.fault_keeps ?_ | refine State.addReg_keeps ?_ | refine State.setIng_keeps ?_
    | refine State.Keeps.ite ?_ ?_

theorem State.ingRtp_keeps {s i p} (h : s.Keeps q)
    (hq : q.Off 0x42287956 := by have h := ‹Keep.Off q _›; exact Keep.sub h (by decide)) :
    (State.ingRtp s i p).Keeps q := by
  unfold State.ingRtp
  with_reducible repeat' first
    | assumption
    | ((try lift_lets -underBinder); intro x; refine (fun (_ : State.Keeps q x) => ?_) ?_; on_goal 2 => unfold x)
    | ((try lift_lets -underBinder); intro x; have hx : x = x := (by unfold x; rfl); clear hx)
    | refine State.putRows_keeps ?_ | refine State.ingFormatErr_keeps ?_ | refine State.ingOpen_keeps ?_
    | refine State.ingEnd_keeps ?_ | refine State.ingGap_keeps ?_ | refine State.Keeps.ite ?_ ?_ | split

theorem State.ingSegment_keeps {s i p} (h : s.Keeps q)
    (hq : q.Off 0x42287956 := by have h := ‹Keep.Off q _›; exact Keep.sub h (by decide)) :
    (State.ingSegment s i p).Keeps q := by
  unfold State.ingSegment
  with_reducible repeat' first
    | assumption
    | ((try lift_lets -underBinder); intro x; refine (fun (_ : State.Keeps q x) => ?_) ?_; on_goal 2 => unfold x)
    | ((try lift_lets -underBinder); intro x; have hx : x = x := (by unfold x; rfl); clear hx)
    | refine State.putUnits_keeps ?_ | refine State.ingFormatErr_keeps ?_ | refine State.ingOpen_keeps ?_
    | refine State.ingEnd_keeps ?_ | refine State.setIng_keeps ?_ | refine State.Keeps.ite ?_ ?_

theorem State.ingPacket_keeps {s m f} (h : s.Keeps q)
    (hq : q.Off 0x42287956 := by have h := ‹Keep.Off q _›; exact Keep.sub h (by decide)) :
    (State.ingPacket s m f).Keeps q := by
  unfold State.ingPacket
  with_reducible repeat' first
    | assumption
    | ((try lift_lets -underBinder); intro x; have hx : x = x := (by unfold x; rfl); clear hx; have hy : List _ := x; clear hy; clear_value x)
    | refine State.ingRtp_keeps ?_ | refine State.ingSegment_keeps ?_ | refine State.Keeps.ite ?_ ?_ | split

theorem State.ingDrain_keeps {s m a} (h : s.Keeps q)
    (hq : q.Off 0x4a287956 := by have h := ‹Keep.Off q _›; exact Keep.sub h (by decide)) :
    (State.ingDrain s m a).Keeps q := by
  fun_induction State.ingDrain s m a <;> try simp only [*]
  with_reducible repeat' first
    | assumption | refine State.inc_keeps ?_ | refine State.popPacket_keeps ?_ | refine State.ingPacket_keeps ?_
    | refine State.modMac_keeps ?_ | apply_assumption -exfalso -symm

theorem State.ingResume_keeps {s m} (h : s.Keeps q)
    (hq : q.Off 0x4a287956 := by have h := ‹Keep.Off q _›; exact Keep.sub h (by decide)) :
    (State.ingResume s m).Keeps q := by
  unfold State.ingResume
  with_reducible repeat' first | assumption | refine State.ingDrain_keeps ?_

theorem execIngestWriteResume_keeps {k s} (h : s.Keeps q)
    (hq : q.Off 0x4a287956 := by have h := ‹Keep.Off q _›; exact Keep.sub h (by decide)) :
    Kept q (execIngestWriteResume k s) := by
  unfold execIngestWriteResume
  with_reducible repeat' first | assumption | refine done_keeps ?_ | refine State.ingResume_keeps ?_

theorem State.ingOffer_keeps {s m stamp f} (h : s.Keeps q)
    (hq : q.Off 0x4a287956 := by have h := ‹Keep.Off q _›; exact Keep.sub h (by decide)) :
    (State.ingOffer s m stamp f).1.Keeps q := by
  unfold State.ingOffer
  with_reducible repeat' first
    | assumption
    | ((try lift_lets -underBinder); intro x; refine (fun (_ : State.Keeps q x) => ?_) ?_; on_goal 2 => unfold x)
    | refine State.ingDrain_keeps ?_ | refine State.queuePacket_keeps ?_ | refine State.tellInput_keeps ?_ | split

theorem State.ingCommit_keeps {s} (h : s.Keeps q)
    (hq : q.Off 0x4060218e := by have h := ‹Keep.Off q _›; exact Keep.sub h (by decide)) :
    (State.ingCommit s).Keeps q := by
  unfold State.ingCommit
  with_reducible repeat' first
    | assumption | refine fun _ => ?_ | refine State.commitPoint_keeps ?_ ?_ | refine State.setIng_keeps ?_
    | refine State.Keeps.ite ?_ ?_ | refine State.Keeps.foldl ?_ ?_

end Sys2Proof.Machine
end

