-- ==== Sys2Proof/Laws/KeepsEth.lean ====
section
/-!
SUPPORT. What the operations of Machine/Eth.lean keep.
-/
set_option Elab.async false
namespace Sys2Proof.Machine

variable {q : Keep}

theorem State.takeHead_keeps {s m u} (h : s.Keeps q)
    (hq : q.Off 0x8201946 := by have h := ‹Keep.Off q _›; exact Keep.sub h (by decide)) :
    (State.takeHead s m u).Keeps q := by
  unfold State.takeHead
  with_reducible repeat' first
    | assumption
    | ((try lift_lets -underBinder); intro x; have hx : x = x := (by unfold x; rfl); clear hx; have hy : Option _ := x; clear hy; clear_value x)
    | ((try lift_lets -underBinder); intro x; have hx : x = x := (by unfold x; rfl); clear hx)
    | refine State.popPacket_keeps ?_ | refine State.modMac_keeps ?_ | refine State.Keeps.ite ?_ ?_

theorem State.txBegin_keeps {s m t u} (h : s.Keeps q)
    (hq : q.Off 0x28202106 := by have h := ‹Keep.Off q _›; exact Keep.sub h (by decide)) :
    (State.txBegin s m t u).Keeps q := by
  unfold State.txBegin
  with_reducible repeat' first
    | assumption
    | ((try lift_lets -underBinder); intro x; refine (fun (_ : State.Keeps q x) => ?_) ?_; on_goal 2 => unfold x)
    | ((try lift_lets -underBinder); intro x; refine (fun (_ : State.Keeps q x.2) => ?_) ?_; on_goal 2 => unfold x)
    | ((try lift_lets -underBinder); intro x; have hx : x = x := (by unfold x; rfl); clear hx; have hy : List _ := x; clear hy; clear_value x)
    | ((try lift_lets -underBinder); intro x; have hx : x = x := (by unfold x; rfl); clear hx)
    | refine State.ntmSent_keeps ?_ | refine State.tcCorrect_keeps ?_ | refine State.inc_keeps ?_
    | refine State.emitEdges_keeps ?_ | refine State.modMac_keeps ?_ | refine State.Keeps.ite ?_ ?_ | split

theorem State.unplacedNote_keeps {s m u} (h : s.Keeps q)
    (hq : q.Off 0x209106 := by have h := ‹Keep.Off q _›; exact Keep.sub h (by decide)) :
    (State.unplacedNote s m u).1.Keeps q := by
  unfold State.unplacedNote
  with_reducible repeat' first
    | assumption
    | ((try lift_lets -underBinder); intro x; refine (fun (_ : State.Keeps q x) => ?_) ?_; on_goal 2 => unfold x)
    | refine State.inc_keeps ?_ | refine State.count_keeps ?_ | refine State.Keeps.ite ?_ ?_ | split

theorem State.unitDone_keeps {s m u status} (h : s.Keeps q)
    (hq : q.Off 0xa203956 := by have h := ‹Keep.Off q _›; exact Keep.sub h (by decide)) :
    (State.unitDone s m u status).Keeps q := by
  unfold State.unitDone
  with_reducible repeat' first | assumption | refine State.writeBack_keeps ?_ | refine State.Keeps.ite ?_ ?_

theorem State.lateFrame_keeps {s m x u} (h : s.Keeps q)
    (hq : q.Off 0x201106 := by have h := ‹Keep.Off q _›; exact Keep.sub h (by decide)) :
    (State.lateFrame s m x u).1.Keeps q := by
  unfold State.lateFrame
  with_reducible repeat' first
    | assumption
    | ((try lift_lets -underBinder); intro x; refine (fun (_ : State.Keeps q x) => ?_) ?_; on_goal 2 => unfold x)
    | ((try lift_lets -underBinder); intro x; have hx : x = x := (by unfold x; rfl); clear hx)
    | refine State.fault_keeps ?_ | refine State.inc_keeps ?_ | refine State.count_keeps ?_ | refine State.Keeps.ite ?_ ?_
    | split

theorem State.preempt_keeps {s m c} (h : s.Keeps q)
    (hq : q.Off 0x8000006 := by have h := ‹Keep.Off q _›; exact Keep.sub h (by decide)) :
    (State.preempt s m c).Keeps q := by
  unfold State.preempt
  with_reducible repeat' first
    | assumption
    | ((try lift_lets -underBinder); intro x; refine (fun (_ : State.Keeps q x) => ?_) ?_; on_goal 2 => unfold x)
    | ((try lift_lets -underBinder); intro x; have hx : x = x := (by unfold x; rfl); clear hx) | refine State.inc_keeps ?_
    | refine State.modMac_keeps ?_ | refine State.Keeps.ite ?_ ?_

theorem State.takePlaced_keeps {s m u} (h : s.Keeps q)
    (hq : q.Off 0x8201946 := by have h := ‹Keep.Off q _›; exact Keep.sub h (by decide)) :
    (State.takePlaced s m u).Keeps q := by
  unfold State.takePlaced
  with_reducible repeat' first | assumption | refine State.takeHead_keeps ?_ | refine State.modMac_keeps ?_

theorem State.makeWay_keeps {s m l u} (h : s.Keeps q)
    (hq : q.Off 0x8000006 := by have h := ‹Keep.Off q _›; exact Keep.sub h (by decide)) :
    (State.makeWay s m l u).Keeps q := by
  unfold State.makeWay
  with_reducible repeat' first | assumption | refine State.preempt_keeps ?_ | refine State.Keeps.ite ?_ ?_

theorem State.placedStart_keeps {s m u} (h : s.Keeps q)
    (hq : q.Off 0x2a20b956 := by have h := ‹Keep.Off q _›; exact Keep.sub h (by decide)) :
    (State.placedStart s m u).Keeps q := by
  unfold State.placedStart
  with_reducible repeat' first
    | assumption
    | ((try lift_lets -underBinder); intro x; refine (fun (_ : State.Keeps q x) => ?_) ?_; on_goal 2 => unfold x)
    | ((try lift_lets -underBinder); intro x; refine (fun (_ : State.Keeps q x.1) => ?_) ?_; on_goal 2 => unfold x)
    | ((try lift_lets -underBinder); intro x; have hx : x = x := (by unfold x; rfl); clear hx)
    | refine State.takePlaced_keeps ?_ | refine State.txBegin_keeps ?_ | refine State.lateFrame_keeps ?_
    | refine State.unitDone_keeps ?_ | refine State.makeWay_keeps ?_ | refine State.Keeps.ite ?_ ?_

theorem State.placedLaunch_keeps {s m} (h : s.Keeps q)
    (hq : q.Off 0x2a20bf56 := by have h := ‹Keep.Off q _›; exact Keep.sub h (by decide)) :
    (State.placedLaunch s m).Keeps q := by
  unfold State.placedLaunch
  with_reducible repeat' first
    | assumption | refine fun _ => ?_
    | ((try lift_lets -underBinder); intro x; refine (fun (_ : State.Keeps q x) => ?_) ?_; on_goal 2 => unfold x)
    | refine State.ringsSettle_keeps ?_ | refine State.placedStart_keeps ?_ | refine State.atTime_keeps ?_ ?_
    | refine State.Keeps.ite ?_ ?_ | split

theorem execPlacedLaunch_keeps {m s} (h : s.Keeps q)
    (hq : q.Off 0x2a20bf56 := by have h := ‹Keep.Off q _›; exact Keep.sub h (by decide)) :
    Kept q (execPlacedLaunch m s) := by
  unfold execPlacedLaunch
  with_reducible repeat' first | assumption | refine done_keeps ?_ | refine State.placedLaunch_keeps ?_

theorem State.plainStart_keeps {s m x v} (h : s.Keeps q)
    (hq : q.Off 0x2820b946 := by have h := ‹Keep.Off q _›; exact Keep.sub h (by decide)) :
    (State.plainStart s m x v).Keeps q := by
  unfold State.plainStart
  with_reducible repeat' first
    | assumption
    | ((try lift_lets -underBinder); intro x; refine (fun (_ : State.Keeps q x.1) => ?_) ?_; on_goal 2 => unfold x)
    | refine State.unplacedNote_keeps ?_ | refine State.txBegin_keeps ?_ | refine State.takeHead_keeps ?_
    | refine State.Keeps.ite ?_ ?_

theorem State.resumeFrame_keeps {s m x u left} (h : s.Keeps q)
    (hq : q.Off 0x8000000 := by have h := ‹Keep.Off q _›; exact Keep.sub h (by decide)) :
    (State.resumeFrame s m x u left).Keeps q := by
  unfold State.resumeFrame
  with_reducible repeat' first
    | assumption | ((try lift_lets -underBinder); intro x; have hx : x = x := (by unfold x; rfl); clear hx)
    | refine State.modMac_keeps ?_ | refine State.Keeps.ite ?_ ?_

theorem State.txOther_keeps {s m x} (h : s.Keeps q)
    (hq : q.Off 0x2820b946 := by have h := ‹Keep.Off q _›; exact Keep.sub h (by decide)) :
    (State.txOther s m x).Keeps q := by
  unfold State.txOther
  with_reducible repeat' first
    | assumption
    | ((try lift_lets -underBinder); intro x; have hx : x = x := (by unfold x; rfl); clear hx; have hy : Option _ := x; clear hy; clear_value x)
    | ((try lift_lets -underBinder); intro x; have hx : x = x := (by unfold x; rfl); clear hx)
    | refine State.resumeFrame_keeps ?_ | refine State.plainStart_keeps ?_ | refine State.txBegin_keeps ?_
    | refine State.modMac_keeps ?_ | refine State.Keeps.ite ?_ ?_ | split

theorem State.txStartNow_keeps {s m} (h : s.Keeps q)
    (hq : q.Off 0x2a20b956 := by have h := ‹Keep.Off q _›; exact Keep.sub h (by decide)) :
    (State.txStartNow s m).Keeps q := by
  unfold State.txStartNow
  with_reducible repeat' first
    | assumption | ((try lift_lets -underBinder); intro x; have hx : x = x := (by unfold x; rfl); clear hx)
    | refine State.txOther_keeps ?_ | refine State.placedStart_keeps ?_ | refine State.Keeps.ite ?_ ?_ | split

theorem State.expressStart_keeps {s m} (h : s.Keeps q)
    (hq : q.Off 0x2820b946 := by have h := ‹Keep.Off q _›; exact Keep.sub h (by decide)) :
    (State.expressStart s m).Keeps q := by
  unfold State.expressStart
  with_reducible repeat' first
    | assumption
    | ((try lift_lets -underBinder); intro x; refine (fun (_ : State.Keeps q x) => ?_) ?_; on_goal 2 => unfold x)
    | ((try lift_lets -underBinder); intro x; have hx : x = x := (by unfold x; rfl); clear hx)
    | refine State.preempt_keeps ?_ | refine State.plainStart_keeps ?_ | refine State.Keeps.ite ?_ ?_ | split

theorem State.txStart_keeps {s m} (h : s.Keeps q)
    (hq : q.Off 0x2a20bf56 := by have h := ‹Keep.Off q _›; exact Keep.sub h (by decide)) :
    (State.txStart s m).Keeps q := by
  unfold State.txStart
  with_reducible repeat' first
    | assumption | refine fun _ => ?_
    | ((try lift_lets -underBinder); intro x; refine (fun (_ : State.Keeps q x) => ?_) ?_; on_goal 2 => unfold x)
    | refine State.txStartNow_keeps ?_ | refine State.ringsSettle_keeps ?_ | refine State.expressStart_keeps ?_
    | refine State.atTime_keeps ?_ ?_ | refine State.Keeps.ite ?_ ?_

theorem execMacTxStart_keeps {m s} (h : s.Keeps q)
    (hq : q.Off 0x2a20bf56 := by have h := ‹Keep.Off q _›; exact Keep.sub h (by decide)) :
    Kept q (execMacTxStart m s) := by
  unfold execMacTxStart
  with_reducible repeat' first | assumption | refine done_keeps ?_ | refine State.txStart_keeps ?_

theorem State.macStopped_keeps {s m} (h : s.Keeps q)
    (hq : q.Off 0x6 := by have h := ‹Keep.Off q _›; exact Keep.sub h (by decide)) :
    (State.macStopped s m).Keeps q := by
  unfold State.macStopped
  with_reducible repeat' first
    | assumption | refine State.setGroupState_keeps ?_ | refine State.Keeps.ite ?_ ?_

theorem State.setPaused_keeps {s m b} (h : s.Keeps q)
    (hq : q.Off 0x6 := by have h := ‹Keep.Off q _›; exact Keep.sub h (by decide)) :
    (State.setPaused s m b).Keeps q := by
  unfold State.setPaused
  with_reducible repeat' first | assumption | refine State.setFlag_keeps ?_ | refine State.setSts_keeps ?_

theorem State.pauseFrom_keeps {s m t q3} (h : s.Keeps q)
    (hq : q.Off 0x8000006 := by have h := ‹Keep.Off q _›; exact Keep.sub h (by decide)) :
    (State.pauseFrom s m t q3).Keeps q := by
  unfold State.pauseFrom
  with_reducible repeat' first
    | assumption | refine State.setPaused_keeps ?_ | refine State.modMac_keeps ?_ | refine State.Keeps.ite ?_ ?_

theorem State.txDoneAt_keeps {s m u} (h : s.Keeps q)
    (hq : q.Off 0xa203956 := by have h := ‹Keep.Off q _›; exact Keep.sub h (by decide)) :
    (State.txDoneAt s m u).Keeps q := by
  unfold State.txDoneAt
  with_reducible repeat' first
    | assumption
    | ((try lift_lets -underBinder); intro x; refine (fun (_ : State.Keeps q x) => ?_) ?_; on_goal 2 => unfold x)
    | ((try lift_lets -underBinder); intro x; have hx : x = x := (by unfold x; rfl); clear hx; have hy : List _ := x; clear hy; clear_value x)
    | ((try lift_lets -underBinder); intro x; have hx : x = x := (by unfold x; rfl); clear hx)
    | refine State.pauseFrom_keeps ?_ | refine State.inc_keeps ?_ | refine State.unitDone_keeps ?_
    | refine State.macStopped_keeps ?_ | refine State.count_keeps ?_ | refine State.modMac_keeps ?_
    | refine State.Keeps.ite ?_ ?_ | split

theorem State.txDone_keeps {s m} (h : s.Keeps q)
    (hq : q.Off 0xa203f56 := by have h := ‹Keep.Off q _›; exact Keep.sub h (by decide)) :
    (State.txDone s m).Keeps q := by
  unfold State.txDone
  with_reducible repeat' first
    | assumption | refine fun _ => ?_ | refine State.txDoneAt_keeps ?_ | refine State.atTime_keeps ?_ ?_ | split

theorem execMacTxDone_keeps {m s} (h : s.Keeps q)
    (hq : q.Off 0xa203f56 := by have h := ‹Keep.Off q _›; exact Keep.sub h (by decide)) :
    Kept q (execMacTxDone m s) := by
  unfold execMacTxDone
  with_reducible repeat' first | assumption | refine done_keeps ?_ | refine State.txDone_keeps ?_

theorem State.pauseRx_keeps {s m q2} (h : s.Keeps q)
    (hq : q.Off 0x8201906 := by have h := ‹Keep.Off q _›; exact Keep.sub h (by decide)) :
    (State.pauseRx s m q2).Keeps q := by
  unfold State.pauseRx
  with_reducible repeat' first
    | assumption
    | ((try lift_lets -underBinder); intro x; refine (fun (_ : State.Keeps q x) => ?_) ?_; on_goal 2 => unfold x)
    | ((try lift_lets -underBinder); intro x; have hx : x = x := (by unfold x; rfl); clear hx)
    | refine State.sample_keeps ?_ | refine State.pauseFrom_keeps ?_ | refine State.inc_keeps ?_
    | refine State.count_keeps ?_ | refine State.modMac_keeps ?_ | refine State.Keeps.ite ?_ ?_

theorem State.pauseEnds_keeps {s m} (h : s.Keeps q)
    (hq : q.Off 0x8200706 := by have h := ‹Keep.Off q _›; exact Keep.sub h (by decide)) :
    (State.pauseEnds s m).Keeps q := by
  unfold State.pauseEnds
  with_reducible repeat' first
    | assumption | refine fun _ => ?_ | refine State.pauseFrom_keeps ?_ | refine State.atTime_keeps ?_ ?_ | split

theorem execPauseEnd_keeps {m s} (h : s.Keeps q)
    (hq : q.Off 0x8200706 := by have h := ‹Keep.Off q _›; exact Keep.sub h (by decide)) :
    Kept q (execPauseEnd m s) := by
  unfold execPauseEnd
  with_reducible repeat' first | assumption | refine done_keeps ?_ | refine State.pauseEnds_keeps ?_

theorem State.pauseSend_keeps {s m} (h : s.Keeps q)
    (hq : q.Off 0x8200706 := by have h := ‹Keep.Off q _›; exact Keep.sub h (by decide)) :
    (State.pauseSend s m).Keeps q := by
  unfold State.pauseSend
  with_reducible repeat' first
    | assumption | refine fun _ => ?_
    | ((try lift_lets -underBinder); intro x; refine (fun (hlet : ∀ a, State.Keeps q a → State.Keeps q (x a)) => ?_) ?_; on_goal 2 => unfold x)
    | ((try lift_lets -underBinder); intro x; have hx : x = x := (by unfold x; rfl); clear hx)
    | refine State.modMac_keeps ?_ | refine State.atTime_keeps ?_ ?_ | refine State.macQueue_keeps ?_
    | refine State.Keeps.ite ?_ ?_ | split

theorem execPauseSend_keeps {m s} (h : s.Keeps q)
    (hq : q.Off 0x8200706 := by have h := ‹Keep.Off q _›; exact Keep.sub h (by decide)) :
    Kept q (execPauseSend m s) := by
  unfold execPauseSend
  with_reducible repeat' first | assumption | refine done_keeps ?_ | refine State.pauseSend_keeps ?_

theorem State.setPreempt_keeps {s m n} (h : s.Keeps q)
    (hq : q.Off 0x6 := by have h := ‹Keep.Off q _›; exact Keep.sub h (by decide)) :
    (State.setPreempt s m n).Keeps q := by
  unfold State.setPreempt
  with_reducible repeat' first | assumption | refine State.setFld_keeps ?_

theorem State.verifyBegin_keeps {s m} (h : s.Keeps q)
    (hq : q.Off 0x8000006 := by have h := ‹Keep.Off q _›; exact Keep.sub h (by decide)) :
    (State.verifyBegin s m).Keeps q := by
  unfold State.verifyBegin
  with_reducible repeat' first
    | assumption | refine State.setPreempt_keeps ?_ | refine State.modMac_keeps ?_ | refine State.Keeps.ite ?_ ?_

theorem State.dropTraffic_keeps {s m} (h : s.Keeps q)
    (hq : q.Off 0xa203956 := by have h := ‹Keep.Off q _›; exact Keep.sub h (by decide)) :
    (State.dropTraffic s m).Keeps q := by
  unfold State.dropTraffic
  with_reducible repeat' first
    | assumption | refine fun _ => ?_
    | ((try lift_lets -underBinder); intro x; refine (fun (_ : State.Keeps q x) => ?_) ?_; on_goal 2 => unfold x)
    | ((try lift_lets -underBinder); intro x; have hx : x = x := (by unfold x; rfl); clear hx; have hy : List _ := x; clear hy; clear_value x)
    | ((try lift_lets -underBinder); intro x; have hx : x = x := (by unfold x; rfl); clear hx)
    | refine State.unitDone_keeps ?_ | refine State.modMac_keeps ?_ | refine State.Keeps.foldl ?_ ?_

theorem State.linkChange_keeps {s m up} (h : s.Keeps q)
    (hq : q.Off 0xa203956 := by have h := ‹Keep.Off q _›; exact Keep.sub h (by decide)) :
    (State.linkChange s m up).Keeps q := by
  unfold State.linkChange
  with_reducible repeat' first
    | assumption
    | ((try lift_lets -underBinder); intro x; refine (fun (_ : State.Keeps q x) => ?_) ?_; on_goal 2 => unfold x)
    | ((try lift_lets -underBinder); intro x; have hx : x = x := (by unfold x; rfl); clear hx)
    | refine State.fault_keeps ?_ | refine State.dropTraffic_keeps ?_ | refine State.setFlag_keeps ?_
    | refine State.irq_keeps ?_ | refine State.setSts_keeps ?_ | refine State.setFld_keeps ?_
    | refine State.pauseFrom_keeps ?_ | refine State.inc_keeps ?_ | refine State.setPreempt_keeps ?_
    | refine State.verifyBegin_keeps ?_ | refine State.modMac_keeps ?_ | refine State.Keeps.ite ?_ ?_

theorem execEthLinkChange_keeps {m up s} (h : s.Keeps q)
    (hq : q.Off 0xa203956 := by have h := ‹Keep.Off q _›; exact Keep.sub h (by decide)) :
    Kept q (execEthLinkChange m up s) := by
  unfold execEthLinkChange
  with_reducible repeat' first | assumption | refine done_keeps ?_ | refine State.linkChange_keeps ?_

theorem State.linkSettle_keeps {s m} (h : s.Keeps q)
    (hq : q.Off 0x8200706 := by have h := ‹Keep.Off q _›; exact Keep.sub h (by decide)) :
    (State.linkSettle s m).Keeps q := by
  unfold State.linkSettle
  with_reducible repeat' first
    | assumption | refine fun _ => ?_ | refine State.modMac_keeps ?_ | refine State.atTime_keeps ?_ ?_
    | refine State.Keeps.ite ?_ ?_

theorem execLinkSettleEnd_keeps {m s} (h : s.Keeps q)
    (hq : q.Off 0x8200706 := by have h := ‹Keep.Off q _›; exact Keep.sub h (by decide)) :
    Kept q (execLinkSettleEnd m s) := by
  unfold execLinkSettleEnd
  with_reducible repeat' first | assumption | refine done_keeps ?_ | refine State.linkSettle_keeps ?_

theorem State.preemptVerify_keeps {s m answered} (h : s.Keeps q)
    (hq : q.Off 0x8200706 := by have h := ‹Keep.Off q _›; exact Keep.sub h (by decide)) :
    (State.preemptVerify s m answered).Keeps q := by
  unfold State.preemptVerify
  with_reducible repeat' first
    | assumption | refine fun _ => ?_
    | ((try lift_lets -underBinder); intro x; have hx : x = x := (by unfold x; rfl); clear hx)
    | refine State.fault_keeps ?_ | refine State.setPreempt_keeps ?_ | refine State.modMac_keeps ?_
    | refine State.atTime_keeps ?_ ?_ | refine State.Keeps.ite ?_ ?_

theorem execPreemptVerify_keeps {m answered s} (h : s.Keeps q)
    (hq : q.Off 0x8200706 := by have h := ‹Keep.Off q _›; exact Keep.sub h (by decide)) :
    Kept q (execPreemptVerify m answered s) := by
  unfold execPreemptVerify
  with_reducible repeat' first | assumption | refine done_keeps ?_ | refine State.preemptVerify_keeps ?_

theorem State.ethCtrl_keeps {s m en st} (h : s.Keeps q)
    (hq : q.Off 0xa203956 := by have h := ‹Keep.Off q _›; exact Keep.sub h (by decide)) :
    (State.ethCtrl s m en st).Keeps q := by
  unfold State.ethCtrl
  with_reducible repeat' first
    | assumption
    | ((try lift_lets -underBinder); intro x; refine (fun (_ : State.Keeps q x) => ?_) ?_; on_goal 2 => unfold x)
    | ((try lift_lets -underBinder); intro x; have hx : x = x := (by unfold x; rfl); clear hx)
    | refine State.linkChange_keeps ?_ | refine State.macStopped_keeps ?_ | refine State.setGroupState_keeps ?_
    | refine State.Keeps.ite ?_ ?_

theorem State.ethCommit_keeps {s m} (h : s.Keeps q)
    (hq : q.Off 0x860218e := by have h := ‹Keep.Off q _›; exact Keep.sub h (by decide)) :
    (State.ethCommit s m).Keeps q := by
  unfold State.ethCommit
  with_reducible repeat' first
    | assumption | refine fun _ => ?_ | refine State.commitPoint_keeps ?_ ?_ | refine State.verifyBegin_keeps ?_
    | refine State.Keeps.ite ?_ ?_

end Sys2Proof.Machine
end

