-- ==== Sys2Proof/Laws/KeepsBridge.lean ====
section
/-!
SUPPORT. What the operations of Machine/Bridge.lean keep.
-/
set_option Elab.async false
namespace Sys2Proof.Machine

variable {q : Keep}

theorem State.setFdb_keeps {s l} (h : s.Keeps q)
    (hq : q.Off 0x10000006 := by have h := ‹Keep.Off q _›; exact Keep.sub h (by decide)) :
    (State.setFdb s l).Keeps q := by
  unfold State.setFdb
  with_reducible repeat' first
    | assumption | ((try lift_lets -underBinder); intro x; have hx : x = x := (by unfold x; rfl); clear hx)
    | refine State.setFld_keeps ?_ | fail_if_no_progress (refine State.Keeps.upd ?_ rfl rfl rfl rfl)

theorem State.fdbRemove_keeps {s mac} (h : s.Keeps q)
    (hq : q.Off 0x10000006 := by have h := ‹Keep.Off q _›; exact Keep.sub h (by decide)) :
    (State.fdbRemove s mac).Keeps q := by
  unfold State.fdbRemove
  with_reducible repeat' first | assumption | refine State.setFdb_keeps ?_

theorem State.learn_keeps {s m mac} (h : s.Keeps q)
    (hq : q.Off 0x10000006 := by have h := ‹Keep.Off q _›; exact Keep.sub h (by decide)) :
    (State.learn s m mac).Keeps q := by
  unfold State.learn
  with_reducible repeat' first
    | assumption | refine fun _ => ?_
    | ((try lift_lets -underBinder); intro x; refine (fun (hlet : ∀ a, State.Keeps q a → State.Keeps q (x a)) => ?_) ?_; on_goal 2 => unfold x)
    | refine State.setFdb_keeps ?_ | refine State.inc_keeps ?_ | refine State.Keeps.ite ?_ ?_ | split

theorem State.fdbAddNow_keeps {s} (h : s.Keeps q)
    (hq : q.Off 0x10200106 := by have h := ‹Keep.Off q _›; exact Keep.sub h (by decide)) :
    (State.fdbAddNow s).Keeps q := by
  unfold State.fdbAddNow
  with_reducible repeat' first
    | assumption
    | ((try lift_lets -underBinder); intro x; have hx : x = x := (by unfold x; rfl); clear hx; have hy : List _ := x; clear hy; clear_value x)
    | ((try lift_lets -underBinder); intro x; have hx : x = x := (by unfold x; rfl); clear hx)
    | refine State.fault_keeps ?_ | refine State.setFdb_keeps ?_ | refine State.Keeps.ite ?_ ?_ | split

theorem State.fdbLookupNow_keeps {s} (h : s.Keeps q)
    (hq : q.Off 0x6 := by have h := ‹Keep.Off q _›; exact Keep.sub h (by decide)) :
    (State.fdbLookupNow s).Keeps q := by
  unfold State.fdbLookupNow
  with_reducible repeat' first | assumption | refine State.setNat_keeps ?_ | split

theorem State.fdbCommand_keeps {s mac f} (h : s.Keeps q) (hf : ∀ a0, a0.Keeps q → (f a0).Keeps q)
    (hq : q.Off 0x10200106 := by have h := ‹Keep.Off q _›; exact Keep.sub h (by decide)) :
    (State.fdbCommand s mac f).Keeps q := by
  unfold State.fdbCommand
  with_reducible repeat' first
    | assumption
    | ((try lift_lets -underBinder); intro x; refine (fun (_ : State.Keeps q x) => ?_) ?_; on_goal 2 => unfold x)
    | ((try lift_lets -underBinder); intro x; have hx : x = x := (by unfold x; rfl); clear hx)
    | refine State.setFlag_keeps ?_ | refine State.badValue_keeps ?_ | refine hf _ ?_ | refine State.Keeps.ite ?_ ?_
    | fail_if_no_progress (refine State.Keeps.upd ?_ rfl rfl rfl rfl)

theorem State.fdbAdd_keeps {s} (h : s.Keeps q)
    (hq : q.Off 0x10200106 := by have h := ‹Keep.Off q _›; exact Keep.sub h (by decide)) :
    (State.fdbAdd s).Keeps q := by
  unfold State.fdbAdd
  with_reducible repeat' first
    | assumption | refine fun _ => ?_ | refine State.fdbCommand_keeps ?_ ?_ | refine State.fdbAddNow_keeps ?_

theorem State.fdbDelete_keeps {s} (h : s.Keeps q)
    (hq : q.Off 0x10200106 := by have h := ‹Keep.Off q _›; exact Keep.sub h (by decide)) :
    (State.fdbDelete s).Keeps q := by
  unfold State.fdbDelete
  with_reducible repeat' first
    | assumption | refine fun _ => ?_ | refine State.fdbCommand_keeps ?_ ?_ | refine State.fdbRemove_keeps ?_

theorem State.fdbLookup_keeps {s} (h : s.Keeps q)
    (hq : q.Off 0x10200106 := by have h := ‹Keep.Off q _›; exact Keep.sub h (by decide)) :
    (State.fdbLookup s).Keeps q := by
  unfold State.fdbLookup
  with_reducible repeat' first
    | assumption | refine fun _ => ?_ | refine State.fdbCommand_keeps ?_ ?_ | refine State.fdbLookupNow_keeps ?_

theorem State.fdbFlush_keeps {s} (h : s.Keeps q)
    (hq : q.Off 0x10200106 := by have h := ‹Keep.Off q _›; exact Keep.sub h (by decide)) :
    (State.fdbFlush s).Keeps q := by
  unfold State.fdbFlush
  with_reducible repeat' first
    | assumption | refine fun _ => ?_ | refine State.setFdb_keeps ?_ | refine State.fdbCommand_keeps ?_ ?_

theorem State.fdbWrite_keeps {s v} (h : s.Keeps q)
    (hq : q.Off 0x10200106 := by have h := ‹Keep.Off q _›; exact Keep.sub h (by decide)) :
    (State.fdbWrite s v).Keeps q := by
  unfold State.fdbWrite
  with_reducible repeat' first
    | assumption | refine State.badValue_keeps ?_ | refine State.fdbAdd_keeps ?_ | refine State.fdbFlush_keeps ?_
    | refine State.fdbLookup_keeps ?_ | refine State.fdbDelete_keeps ?_ | split

theorem execFdbAdd_keeps {u0 s} (h : s.Keeps q)
    (hq : q.Off 0x10201106 := by have h := ‹Keep.Off q _›; exact Keep.sub h (by decide)) :
    Kept q (execFdbAdd u0 s) := by
  unfold execFdbAdd
  with_reducible repeat' first
    | assumption | refine fun _ => ?_ | refine done_keeps ?_ | refine State.fdbAdd_keeps ?_
    | refine State.gate_keeps ?_ ?_

theorem execFdbDelete_keeps {u0 s} (h : s.Keeps q)
    (hq : q.Off 0x10201106 := by have h := ‹Keep.Off q _›; exact Keep.sub h (by decide)) :
    Kept q (execFdbDelete u0 s) := by
  unfold execFdbDelete
  with_reducible repeat' first
    | assumption | refine fun _ => ?_ | refine done_keeps ?_ | refine State.gate_keeps ?_ ?_
    | refine State.fdbDelete_keeps ?_

theorem execFdbLookup_keeps {u0 s} (h : s.Keeps q)
    (hq : q.Off 0x10201106 := by have h := ‹Keep.Off q _›; exact Keep.sub h (by decide)) :
    Kept q (execFdbLookup u0 s) := by
  unfold execFdbLookup
  with_reducible repeat' first
    | assumption | refine fun _ => ?_ | refine done_keeps ?_ | refine State.fdbLookup_keeps ?_
    | refine State.gate_keeps ?_ ?_

theorem execFdbFlush_keeps {u0 s} (h : s.Keeps q)
    (hq : q.Off 0x10201106 := by have h := ‹Keep.Off q _›; exact Keep.sub h (by decide)) :
    Kept q (execFdbFlush u0 s) := by
  unfold execFdbFlush
  with_reducible repeat' first
    | assumption | refine fun _ => ?_ | refine done_keeps ?_ | refine State.fdbFlush_keeps ?_
    | refine State.gate_keeps ?_ ?_

theorem State.fdbDone_keeps {s} (h : s.Keeps q)
    (hq : q.Off 0x6 := by have h := ‹Keep.Off q _›; exact Keep.sub h (by decide)) : (State.fdbDone s).Keeps q := by
  unfold State.fdbDone
  with_reducible repeat' first | assumption | refine State.setFlag_keeps ?_

theorem execFdbDone_keeps {s} (h : s.Keeps q)
    (hq : q.Off 0x6 := by have h := ‹Keep.Off q _›; exact Keep.sub h (by decide)) : Kept q (execFdbDone s) := by
  unfold execFdbDone
  with_reducible repeat' first | assumption | refine done_keeps ?_ | refine State.fdbDone_keeps ?_

theorem State.fdbAge_keeps {s mac} (h : s.Keeps q)
    (hq : q.Off 0x10200706 := by have h := ‹Keep.Off q _›; exact Keep.sub h (by decide)) :
    (State.fdbAge s mac).Keeps q := by
  unfold State.fdbAge
  with_reducible repeat' first
    | assumption | refine fun _ => ?_
    | ((try lift_lets -underBinder); intro x; have hx : x = x := (by unfold x; rfl); clear hx)
    | refine State.fdbRemove_keeps ?_ | refine State.atTime_keeps ?_ ?_ | refine State.Keeps.ite ?_ ?_ | split

theorem execFdbAge_keeps {mac s} (h : s.Keeps q)
    (hq : q.Off 0x10200706 := by have h := ‹Keep.Off q _›; exact Keep.sub h (by decide)) :
    Kept q (execFdbAge mac s) := by
  unfold execFdbAge
  with_reducible repeat' first | assumption | refine done_keeps ?_ | refine State.fdbAge_keeps ?_

theorem State.rxBuffer_keeps {s m r i part sop eop r3 total stamp} (h : s.Keeps q)
    (hq : q.Off 0x2203956 := by have h := ‹Keep.Off q _›; exact Keep.sub h (by decide)) :
    (State.rxBuffer s m r i part sop eop r3 total stamp).Keeps q := by
  unfold State.rxBuffer
  with_reducible repeat' first
    | assumption
    | ((try lift_lets -underBinder); intro x; refine (fun (_ : State.Keeps q x) => ?_) ?_; on_goal 2 => unfold x)
    | ((try lift_lets -underBinder); intro x; have hx : x = x := (by unfold x; rfl); clear hx; have hy : Option _ := x; clear hy; clear_value x)
    | ((try lift_lets -underBinder); intro x; have hx : x = x := (by unfold x; rfl); clear hx)
    | refine State.dmaBytes_keeps ?_ | refine State.hwMem_keeps ?_ | refine State.hwBytes_keeps ?_

theorem State.rxBuffers_keeps {s m r size r3 total stamp a a8 a9} (h : s.Keeps q)
    (hq : q.Off 0x2203956 := by have h := ‹Keep.Off q _›; exact Keep.sub h (by decide)) :
    (State.rxBuffers s m r size r3 total stamp a a8 a9).Keeps q := by
  fun_induction State.rxBuffers s m r size r3 total stamp a a8 a9 <;> try simp only [*]
  with_reducible repeat' first | assumption | refine State.rxBuffer_keeps ?_ | apply_assumption -exfalso -symm

theorem State.spoil_keeps {s m r size len a a6} (h : s.Keeps q)
    (hq : q.Off 0x22039d6 := by have h := ‹Keep.Off q _›; exact Keep.sub h (by decide)) :
    (State.spoil s m r size len a a6).Keeps q := by
  fun_induction State.spoil s m r size len a a6 <;> try simp only [*]
  with_reducible repeat' first
    | assumption | refine State.fresh_keeps ?_ | refine State.dmaBytes_keeps ?_ | apply_assumption -exfalso -symm

theorem State.ringStore_keeps {s m r stamp r3 f} (h : s.Keeps q)
    (hq : q.Off 0xa2039d6 := by have h := ‹Keep.Off q _›; exact Keep.sub h (by decide)) :
    (State.ringStore s m r stamp r3 f).Keeps q := by
  unfold State.ringStore
  with_reducible repeat' first
    | assumption
    | ((try lift_lets -underBinder); intro x; refine (fun (_ : State.Keeps q x) => ?_) ?_; on_goal 2 => unfold x)
    | ((try lift_lets -underBinder); intro x; have hx : x = x := (by unfold x; rfl); clear hx; have hy : Option _ := x; clear hy; clear_value x)
    | ((try lift_lets -underBinder); intro x; have hx : x = x := (by unfold x; rfl); clear hx; have hy : List _ := x; clear hy; clear_value x)
    | ((try lift_lets -underBinder); intro x; have hx : x = x := (by unfold x; rfl); clear hx)
    | refine State.fault_keeps ?_ | refine State.ringComplete_keeps ?_ | refine State.rxBuffers_keeps ?_
    | refine State.setNat_keeps ?_ | refine State.inc_keeps ?_ | refine State.spoil_keeps ?_
    | refine State.Keeps.ite ?_ ?_

theorem State.toHost_keeps {s m stamp f} (h : s.Keeps q)
    (hq : q.Off 0xa2039d6 := by have h := ‹Keep.Off q _›; exact Keep.sub h (by decide)) :
    (State.toHost s m stamp f).Keeps q := by
  unfold State.toHost
  with_reducible repeat' first
    | assumption | ((try lift_lets -underBinder); intro x; have hx : x = x := (by unfold x; rfl); clear hx)
    | refine State.inc_keeps ?_ | refine State.ringStore_keeps ?_ | refine State.Keeps.ite ?_ ?_ | split

theorem State.forward_keeps {s m k stamp f} (h : s.Keeps q)
    (hq : q.Off 0x8201946 := by have h := ‹Keep.Off q _›; exact Keep.sub h (by decide)) :
    (State.forward s m k stamp f).Keeps q := by
  unfold State.forward
  with_reducible repeat' first
    | assumption
    | ((try lift_lets -underBinder); intro x; refine (fun (_ : State.Keeps q x) => ?_) ?_; on_goal 2 => unfold x)
    | ((try lift_lets -underBinder); intro x; have hx : x = x := (by unfold x; rfl); clear hx; have hy : List _ := x; clear hy; clear_value x)
    | ((try lift_lets -underBinder); intro x; have hx : x = x := (by unfold x; rfl); clear hx)
    | refine State.queuePacket_keeps ?_ | refine State.inc_keeps ?_ | refine State.count_keeps ?_
    | refine State.modMac_keeps ?_ | refine State.Keeps.ite ?_ ?_

theorem State.toEngines_keeps {s m ago stamp f} (h : s.Keeps q)
    (hq : q.Off 0x26e287f56 := by have h := ‹Keep.Off q _›; exact Keep.sub h (by decide)) :
    (State.toEngines s m ago stamp f).1.Keeps q := by
  unfold State.toEngines
  with_reducible repeat' first
    | assumption
    | ((try lift_lets -underBinder); intro x; refine (fun (_ : State.Keeps q x.1) => ?_) ?_; on_goal 2 => unfold x)
    | ((try lift_lets -underBinder); intro x; have hx : x = x := (by unfold x; rfl); clear hx; have hy : List _ := x; clear hy; clear_value x)
    | refine State.mergeOffer_keeps ?_ | refine State.ntmTake_keeps ?_ | refine State.ingOffer_keeps ?_
    | refine State.Keeps.ite ?_ ?_ | split

theorem State.handleFrame_keeps {s m ago f} (h : s.Keeps q)
    (hq : q.Off 0x27e287fd6 := by have h := ‹Keep.Off q _›; exact Keep.sub h (by decide)) :
    (State.handleFrame s m ago f).Keeps q := by
  unfold State.handleFrame
  with_reducible repeat' first
    | assumption | refine fun _ => ?_
    | ((try lift_lets -underBinder); intro x; refine (fun (_ : State.Keeps q x) => ?_) ?_; on_goal 2 => unfold x)
    | ((try lift_lets -underBinder); intro x; refine (fun (_ : State.Keeps q x.1) => ?_) ?_; on_goal 2 => unfold x)
    | ((try lift_lets -underBinder); intro x; have hx : x = x := (by unfold x; rfl); clear hx)
    | refine State.toEngines_keeps ?_ | refine State.toHost_keeps ?_ | refine State.forward_keeps ?_
    | refine State.inc_keeps ?_ | refine State.learn_keeps ?_ | refine State.pauseRx_keeps ?_
    | refine State.Keeps.ite ?_ ?_ | refine State.Keeps.foldl ?_ ?_ | split

theorem State.rxDrain_keeps {s m ago a} (h : s.Keeps q)
    (hq : q.Off 0x27e287fd6 := by have h := ‹Keep.Off q _›; exact Keep.sub h (by decide)) :
    (State.rxDrain s m ago a).Keeps q := by
  fun_induction State.rxDrain s m ago a <;> try simp only [*]
  with_reducible repeat' first
    | assumption | refine State.handleFrame_keeps ?_ | refine State.popPacket_keeps ?_ | apply_assumption -exfalso -symm

theorem State.rxBad_keeps {s m off} (h : s.Keeps q)
    (hq : q.Off 0x201106 := by have h := ‹Keep.Off q _›; exact Keep.sub h (by decide)) :
    (State.rxBad s m off).Keeps q := by
  unfold State.rxBad
  with_reducible repeat' first | assumption | refine State.inc_keeps ?_ | refine State.count_keeps ?_

theorem State.macRx_keeps {s m ago err lost f} (h : s.Keeps q)
    (hq : q.Off 0x27e287fd6 := by have h := ‹Keep.Off q _›; exact Keep.sub h (by decide)) :
    (State.macRx s m ago err lost f).Keeps q := by
  unfold State.macRx
  with_reducible repeat' first
    | assumption
    | ((try lift_lets -underBinder); intro x; refine (fun (_ : State.Keeps q x) => ?_) ?_; on_goal 2 => unfold x)
    | ((try lift_lets -underBinder); intro x; have hx : x = x := (by unfold x; rfl); clear hx)
    | refine State.fault_keeps ?_ | refine State.rxDrain_keeps ?_ | refine State.rxBad_keeps ?_
    | refine State.addReg_keeps ?_ | refine State.queuePacket_keeps ?_ | refine State.inc_keeps ?_
    | refine State.macMs_keeps ?_ | refine State.count_keeps ?_ | refine State.modMac_keeps ?_
    | refine State.Keeps.ite ?_ ?_

theorem State.fecCorrects_keeps {s m n} (h : s.Keeps q)
    (hq : q.Off 0x6 := by have h := ‹Keep.Off q _›; exact Keep.sub h (by decide)) :
    (State.fecCorrects s m n).Keeps q := by
  unfold State.fecCorrects
  with_reducible repeat' first | assumption | refine State.setReg_keeps ?_ | refine State.Keeps.ite ?_ ?_

theorem execMacRxFrame_keeps {m ago err corrected lost data s} (h : s.Keeps q)
    (hq : q.Off 0x27e287fd6 := by have h := ‹Keep.Off q _›; exact Keep.sub h (by decide)) :
    Kept q (execMacRxFrame m ago err corrected lost data s) := by
  unfold execMacRxFrame
  with_reducible repeat' first
    | assumption | refine done_keeps ?_ | refine State.fecCorrects_keeps ?_ | refine State.macRx_keeps ?_
    | refine State.Keeps.ite ?_ ?_

end Sys2Proof.Machine
end

