-- ==== Sys2Proof/Laws/KeepsIcu.lean ====
section
/-!
SUPPORT. What the operations of Machine/Icu.lean keep.
-/
set_option Elab.async false
namespace Sys2Proof.Machine

variable {q : Keep}

theorem execInterruptEdge_keeps {src s} (h : s.Keeps q)
    (hq : q.Off 0x200106 := by have h := ‹Keep.Off q _›; exact Keep.sub h (by decide)) :
    Kept q (execInterruptEdge src s) := by
  unfold execInterruptEdge
  with_reducible repeat' first
    | assumption | refine done_keeps ?_ | refine State.irq_keeps ?_ | refine State.Keeps.ite ?_ ?_

theorem execLevelChange_keeps {src level s} (h : s.Keeps q)
    (hq : q.Off 0x200106 := by have h := ‹Keep.Off q _›; exact Keep.sub h (by decide)) :
    Kept q (execLevelChange src level s) := by
  unfold execLevelChange
  with_reducible repeat' first
    | assumption | refine done_keeps ?_ | refine State.setLevel_keeps ?_ | refine State.Keeps.ite ?_ ?_

theorem State.claimTop_keeps {s t} (h : s.Keeps q)
    (hq : q.Off 0x201106 := by have h := ‹Keep.Off q _›; exact Keep.sub h (by decide)) :
    (State.claimTop s t).Keeps q := by
  unfold State.claimTop
  with_reducible repeat' first
    | assumption | refine fun _ => ?_
    | ((try lift_lets -underBinder); intro x; refine (fun (_ : State.Keeps q x) => ?_) ?_; on_goal 2 => unfold x)
    | ((try lift_lets -underBinder); intro x; have hx : x = x := (by unfold x; rfl); clear hx)
    | refine State.setIcuBit_keeps ?_ | refine State.count_keeps ?_ | refine State.icuChange_keeps ?_ ?_
    | refine State.Keeps.ite ?_ ?_ | fail_if_no_progress (refine State.Keeps.upd ?_ rfl rfl rfl rfl) | split

theorem State.claimRead_keeps {s r t} (h : s.Keeps q)
    (hq : q.Off 0x203106 := by have h := ‹Keep.Off q _›; exact Keep.sub h (by decide)) :
    (State.claimRead s r t).Keeps q := by
  unfold State.claimRead
  with_reducible repeat' first
    | assumption | refine State.fault_keeps ?_ | refine State.claimTop_keeps ?_ | refine State.emit_keeps ?_
    | refine State.Keeps.ite ?_ ?_

theorem execIcuClaim_keeps {req t s} (h : s.Keeps q)
    (hq : q.Off 0x203106 := by have h := ‹Keep.Off q _›; exact Keep.sub h (by decide)) :
    Kept q (execIcuClaim req t s) := by
  unfold execIcuClaim
  with_reducible repeat' first
    | assumption | refine fun _ => ?_ | refine done_keeps ?_ | refine State.claimRead_keeps ?_
    | refine State.access_keeps ?_ ?_

theorem State.endService_keeps {s k} (h : s.Keeps q)
    (hq : q.Off 0x106 := by have h := ‹Keep.Off q _›; exact Keep.sub h (by decide)) :
    (State.endService s k).Keeps q := by
  unfold State.endService
  with_reducible repeat' first
    | assumption
    | ((try lift_lets -underBinder); intro x; refine (fun (_ : State.Keeps q x) => ?_) ?_; on_goal 2 => unfold x)
    | ((try lift_lets -underBinder); intro x; have hx : x = x := (by unfold x; rfl); clear hx)
    | refine State.setIcuBit_keeps ?_ | refine State.Keeps.ite ?_ ?_
    | fail_if_no_progress (refine State.Keeps.upd ?_ rfl rfl rfl rfl)

theorem State.msixDue_keeps {s g} (h : s.Keeps q)
    (hq : q.Off 0x100 := by have h := ‹Keep.Off q _›; exact Keep.sub h (by decide)) : (State.msixDue s g).Keeps q := by
  unfold State.msixDue
  with_reducible repeat' first
    | assumption | ((try lift_lets -underBinder); intro x; have hx : x = x := (by unfold x; rfl); clear hx)
    | fail_if_no_progress (refine State.Keeps.upd ?_ rfl rfl rfl rfl)

theorem State.completeWrite_keeps {s r t k} (h : s.Keeps q)
    (hq : q.Off 0x200106 := by have h := ‹Keep.Off q _›; exact Keep.sub h (by decide)) :
    (State.completeWrite s r t k).Keeps q := by
  unfold State.completeWrite
  with_reducible repeat' first
    | assumption | refine fun _ => ?_
    | ((try lift_lets -underBinder); intro x; refine (fun (_ : State.Keeps q x) => ?_) ?_; on_goal 2 => unfold x)
    | refine State.fault_keeps ?_ | refine State.msixDue_keeps ?_ | refine State.endService_keeps ?_
    | refine State.icuChange_keeps ?_ ?_ | refine State.Keeps.ite ?_ ?_

theorem execIcuComplete_keeps {req t src s} (h : s.Keeps q)
    (hq : q.Off 0x201106 := by have h := ‹Keep.Off q _›; exact Keep.sub h (by decide)) :
    Kept q (execIcuComplete req t src s) := by
  unfold execIcuComplete
  with_reducible repeat' first
    | assumption | refine fun _ => ?_ | refine done_keeps ?_ | refine State.gate_keeps ?_ ?_
    | refine State.completeWrite_keeps ?_

theorem State.countClr_keeps {s k} (h : s.Keeps q)
    (hq : q.Off 0x6 := by have h := ‹Keep.Off q _›; exact Keep.sub h (by decide)) : (State.countClr s k).Keeps q := by
  unfold State.countClr
  with_reducible repeat' first | assumption | refine State.setFld_keeps ?_ | refine State.Keeps.ite ?_ ?_

theorem execCountClr_keeps {u0 src s} (h : s.Keeps q)
    (hq : q.Off 0x201106 := by have h := ‹Keep.Off q _›; exact Keep.sub h (by decide)) :
    Kept q (execCountClr u0 src s) := by
  unfold execCountClr
  with_reducible repeat' first
    | assumption | refine fun _ => ?_ | refine done_keeps ?_ | refine State.countClr_keeps ?_
    | refine State.gate_keeps ?_ ?_

theorem State.followLevel_keeps {s k} (h : s.Keeps q)
    (hq : q.Off 0x6 := by have h := ‹Keep.Off q _›; exact Keep.sub h (by decide)) :
    (State.followLevel s k).Keeps q := by
  unfold State.followLevel
  with_reducible repeat' first | assumption | refine State.setIcuBit_keeps ?_ | refine State.Keeps.ite ?_ ?_

theorem State.writeSrcCfg_keeps {s k v} (h : s.Keeps q)
    (hq : q.Off 0x200106 := by have h := ‹Keep.Off q _›; exact Keep.sub h (by decide)) :
    (State.writeSrcCfg s k v).Keeps q := by
  unfold State.writeSrcCfg
  with_reducible repeat' first
    | assumption | refine fun _ => ?_
    | ((try lift_lets -underBinder); intro x; refine (fun (_ : State.Keeps q x) => ?_) ?_; on_goal 2 => unfold x)
    | ((try lift_lets -underBinder); intro x; have hx : x = x := (by unfold x; rfl); clear hx)
    | refine State.setReg_keeps ?_ | refine State.followLevel_keeps ?_ | refine State.countClr_keeps ?_
    | refine State.icuChange_keeps ?_ ?_ | refine State.Keeps.ite ?_ ?_

theorem State.setSysState_keeps {s n} (h : s.Keeps q)
    (hq : q.Off 0x200106 := by have h := ‹Keep.Off q _›; exact Keep.sub h (by decide)) :
    (State.setSysState s n).Keeps q := by
  unfold State.setSysState
  with_reducible repeat' first
    | assumption | refine fun _ => ?_
    | ((try lift_lets -underBinder); intro x; refine (fun (_ : State.Keeps q x) => ?_) ?_; on_goal 2 => unfold x)
    | refine State.followLevel_keeps ?_ | refine State.setFld_keeps ?_ | refine State.icuChange_keeps ?_ ?_
    | refine State.Keeps.ite ?_ ?_ | refine State.Keeps.foldl ?_ ?_

theorem State.pendingAlias_keeps {s w set v} (h : s.Keeps q)
    (hq : q.Off 0x200106 := by have h := ‹Keep.Off q _›; exact Keep.sub h (by decide)) :
    (State.pendingAlias s w set v).Keeps q := by
  unfold State.pendingAlias
  with_reducible repeat' first
    | assumption | refine fun _ => ?_
    | ((try lift_lets -underBinder); intro x; have hx : x = x := (by unfold x; rfl); clear hx)
    | refine State.setIcuBit_keeps ?_ | refine State.occur_keeps ?_ | refine State.icuChange_keeps ?_ ?_
    | refine State.Keeps.ite ?_ ?_ | refine State.Keeps.foldl ?_ ?_

theorem State.drainLatches_keeps {s} (h : s.Keeps q)
    (hq : q.Off 0x200106 := by have h := ‹Keep.Off q _›; exact Keep.sub h (by decide)) :
    (State.drainLatches s).Keeps q := by
  unfold State.drainLatches
  with_reducible repeat' first
    | assumption | refine fun _ => ?_
    | ((try lift_lets -underBinder); intro x; refine (fun (_ : State.Keeps q x) => ?_) ?_; on_goal 2 => unfold x)
    | ((try lift_lets -underBinder); intro x; have hx : x = x := (by unfold x; rfl); clear hx; have hy : List _ := x; clear hy; clear_value x)
    | ((try lift_lets -underBinder); intro x; have hx : x = x := (by unfold x; rfl); clear hx)
    | refine State.occur_keeps ?_ | refine State.followLevel_keeps ?_ | refine State.icuChange_keeps ?_ ?_
    | refine State.Keeps.ite ?_ ?_ | refine State.Keeps.foldl ?_ ?_
    | fail_if_no_progress (refine State.Keeps.upd ?_ rfl rfl rfl rfl)

theorem State.clearDue_keeps {s g} (h : s.Keeps q)
    (hq : q.Off 0x100 := by have h := ‹Keep.Off q _›; exact Keep.sub h (by decide)) :
    (State.clearDue s g).Keeps q := by
  unfold State.clearDue
  with_reducible repeat' first
    | assumption | ((try lift_lets -underBinder); intro x; have hx : x = x := (by unfold x; rfl); clear hx)
    | fail_if_no_progress (refine State.Keeps.upd ?_ rfl rfl rfl rfl)

theorem State.msixSend_keeps {s g} (h : s.Keeps q)
    (hq : q.Off 0x2106 := by have h := ‹Keep.Off q _›; exact Keep.sub h (by decide)) :
    (State.msixSend s g).Keeps q := by
  unfold State.msixSend
  with_reducible repeat' first
    | assumption
    | ((try lift_lets -underBinder); intro x; refine (fun (_ : State.Keeps q x) => ?_) ?_; on_goal 2 => unfold x)
    | ((try lift_lets -underBinder); intro x; have hx : x = x := (by unfold x; rfl); clear hx)
    | refine State.setFlag_keeps ?_ | refine State.clearDue_keeps ?_ | refine State.emit_keeps ?_
    | refine State.Keeps.ite ?_ ?_ | fail_if_no_progress (refine State.Keeps.upd ?_ rfl rfl rfl rfl)

theorem execMsixSend_keeps {group s} (h : s.Keeps q)
    (hq : q.Off 0x2106 := by have h := ‹Keep.Off q _›; exact Keep.sub h (by decide)) :
    Kept q (execMsixSend group s) := by
  unfold execMsixSend
  with_reducible repeat' first | assumption | refine done_keeps ?_ | refine State.msixSend_keeps ?_

theorem State.msixUnmask_keeps {s g} (h : s.Keeps q)
    (hq : q.Off 0x106 := by have h := ‹Keep.Off q _›; exact Keep.sub h (by decide)) :
    (State.msixUnmask s g).Keeps q := by
  unfold State.msixUnmask
  with_reducible repeat' first
    | assumption
    | ((try lift_lets -underBinder); intro x; refine (fun (_ : State.Keeps q x) => ?_) ?_; on_goal 2 => unfold x)
    | refine State.setFlag_keeps ?_ | refine State.msixDue_keeps ?_ | refine State.Keeps.ite ?_ ?_

theorem State.msixTable_keeps {s r i v} (h : s.Keeps q)
    (hq : q.Off 0x200106 := by have h := ‹Keep.Off q _›; exact Keep.sub h (by decide)) :
    (State.msixTable s r i v).Keeps q := by
  unfold State.msixTable
  with_reducible repeat' first
    | assumption | refine State.fault_keeps ?_ | refine State.setReg_keeps ?_ | refine State.msixUnmask_keeps ?_
    | refine State.Keeps.ite ?_ ?_

end Sys2Proof.Machine
end

