-- ==== Sys2Proof/Laws/KeepsPluOps.lean ====
section
/-!
SUPPORT. What the operations of Machine/PluOps.lean keep.
-/
set_option Elab.async false
namespace Sys2Proof.Machine

variable {q : Keep}

theorem State.storePixel_keeps {s x p lanes} (h : s.Keeps q)
    (hq : q.Off 0x2203956 := by have h := ‹Keep.Off q _›; exact Keep.sub h (by decide)) :
    (State.storePixel s x p lanes).Keeps q := by
  unfold State.storePixel
  with_reducible repeat' first | assumption | refine State.hwBytes_keeps ?_

end Sys2Proof.Machine
end

