-- ==== Sys2Proof/Laws/KeepsPlu.lean ====
section
/-!
SUPPORT. What the operations of Machine/Plu.lean keep.
-/
set_option Elab.async false
namespace Sys2Proof.Machine

variable {q : Keep}

theorem State.setPlu_keeps {s k v} (h : s.Keeps q)
    (hq : q.Off 0x40000 := by have h := ‹Keep.Off q _›; exact Keep.sub h (by decide)) :
    (State.setPlu s k v).Keeps q := by
  unfold State.setPlu
  with_reducible repeat' first | assumption | fail_if_no_progress (refine State.Keeps.upd ?_ rfl rfl rfl rfl)

theorem State.setRun_keeps {s k r} (h : s.Keeps q)
    (hq : q.Off 0x40000 := by have h := ‹Keep.Off q _›; exact Keep.sub h (by decide)) :
    (State.setRun s k r).Keeps q := by
  unfold State.setRun
  with_reducible repeat' first
    | assumption | ((try lift_lets -underBinder); intro x; have hx : x = x := (by unfold x; rfl); clear hx)
    | refine State.setPlu_keeps ?_

theorem State.progFault_keeps {s m k kind w pixel} (h : s.Keeps q)
    (hq : q.Off 0x6 := by have h := ‹Keep.Off q _›; exact Keep.sub h (by decide)) :
    (State.progFault s m k kind w pixel).Keeps q := by
  unfold State.progFault
  with_reducible repeat' first
    | assumption
    | ((try lift_lets -underBinder); intro x; refine (fun (_ : State.Keeps q x) => ?_) ?_; on_goal 2 => unfold x)
    | ((try lift_lets -underBinder); intro x; have hx : x = x := (by unfold x; rfl); clear hx)
    | refine State.setFlag_keeps ?_ | refine State.setNat_keeps ?_ | refine State.Keeps.ite ?_ ?_

theorem State.faultPixel_keeps {s m k} (h : s.Keeps q)
    (hq : q.Off 0x241106 := by have h := ‹Keep.Off q _›; exact Keep.sub h (by decide)) :
    (State.faultPixel s m k).Keeps q := by
  unfold State.faultPixel
  with_reducible repeat' first
    | assumption
    | ((try lift_lets -underBinder); intro x; refine (fun (_ : State.Keeps q x) => ?_) ?_; on_goal 2 => unfold x)
    | ((try lift_lets -underBinder); intro x; have hx : x = x := (by unfold x; rfl); clear hx)
    | refine State.setPlu_keeps ?_ | refine State.inc_keeps ?_ | refine State.count_keeps ?_

theorem State.endPixel_keeps {s k r} (h : s.Keeps q)
    (hq : q.Off 0x241106 := by have h := ‹Keep.Off q _›; exact Keep.sub h (by decide)) :
    (State.endPixel s k r).Keeps q := by
  unfold State.endPixel
  with_reducible repeat' first | assumption | refine State.setRun_keeps ?_ | refine State.count_keeps ?_

theorem State.stopPixel_keeps {s m k kind w x r} (h : s.Keeps q)
    (hq : q.Off 0x2243956 := by have h := ‹Keep.Off q _›; exact Keep.sub h (by decide)) :
    (State.stopPixel s m k kind w x r).Keeps q := by
  unfold State.stopPixel
  with_reducible repeat' first
    | assumption
    | ((try lift_lets -underBinder); intro x; refine (fun (_ : State.Keeps q x) => ?_) ?_; on_goal 2 => unfold x)
    | refine State.storePixel_keeps ?_ | refine State.endPixel_keeps ?_ | refine State.progFault_keeps ?_
    | refine State.faultPixel_keeps ?_ | refine State.Keeps.ite ?_ ?_

theorem State.pluStep_keeps {s k op eff} (h : s.Keeps q)
    (hf : ∀ a0 a1 a2 a3 a4, a4.Keeps q → (eff a0 a1 a2 a3 a4).Keeps q)
    (hq : q.Off 0x2243956 := by have h := ‹Keep.Off q _›; exact Keep.sub h (by decide)) :
    (State.pluStep s k op eff).Keeps q := by
  unfold State.pluStep
  with_reducible repeat' first
    | assumption | refine State.stopPixel_keeps ?_ | refine hf _ _ _ _ _ ?_ | refine State.Keeps.ite ?_ ?_ | split

theorem State.pluAlu_keeps {s k op f} (h : s.Keeps q)
    (hq : q.Off 0x2243956 := by have h := ‹Keep.Off q _›; exact Keep.sub h (by decide)) :
    (State.pluAlu s k op f).Keeps q := by
  unfold State.pluAlu
  with_reducible repeat' first
    | assumption | refine fun _ => ?_ | refine State.pluStep_keeps ?_ ?_ | refine State.setRun_keeps ?_

theorem State.pluLanes_keeps {s k op f} (h : s.Keeps q)
    (hq : q.Off 0x2243956 := by have h := ‹Keep.Off q _›; exact Keep.sub h (by decide)) :
    (State.pluLanes s k op f).Keeps q := by
  unfold State.pluLanes
  with_reducible repeat' first | assumption | refine State.pluAlu_keeps ?_

theorem State.pluShift_keeps {s k op f} (h : s.Keeps q)
    (hq : q.Off 0x2243956 := by have h := ‹Keep.Off q _›; exact Keep.sub h (by decide)) :
    (State.pluShift s k op f).Keeps q := by
  unfold State.pluShift
  with_reducible repeat' first | assumption | refine State.pluAlu_keeps ?_

theorem State.pluScalar_keeps {s k op f} (h : s.Keeps q)
    (hq : q.Off 0x2243956 := by have h := ‹Keep.Off q _›; exact Keep.sub h (by decide)) :
    (State.pluScalar s k op f).Keeps q := by
  unfold State.pluScalar
  with_reducible repeat' first | assumption | refine State.pluAlu_keeps ?_

theorem State.tileRange_keeps {s m x} (h : s.Keeps q)
    (hq : q.Off 0x210106 := by have h := ‹Keep.Off q _›; exact Keep.sub h (by decide)) :
    (State.tileRange s m x).Keeps q := by
  unfold State.tileRange
  with_reducible repeat' first
    | assumption | refine State.fault_keeps ?_ | refine State.setSnaps_keeps ?_ | refine State.Keeps.ite ?_ ?_

theorem State.gathered_keeps {s k waits record} (h : s.Keeps q)
    (hq : q.Off 0x201106 := by have h := ‹Keep.Off q _›; exact Keep.sub h (by decide)) :
    (State.gathered s k waits record).Keeps q := by
  unfold State.gathered
  with_reducible repeat' first
    | assumption
    | ((try lift_lets -underBinder); intro x; refine (fun (_ : State.Keeps q x) => ?_) ?_; on_goal 2 => unfold x)
    | refine State.setFlag_keeps ?_ | refine State.count_keeps ?_ | refine State.Keeps.ite ?_ ?_

theorem State.beginPixel_keeps {s k waits} (h : s.Keeps q)
    (hq : q.Off 0x251106 := by have h := ‹Keep.Off q _›; exact Keep.sub h (by decide)) :
    (State.beginPixel s k waits).Keeps q := by
  unfold State.beginPixel
  with_reducible repeat' first
    | assumption
    | ((try lift_lets -underBinder); intro x; refine (fun (_ : State.Keeps q x) => ?_) ?_; on_goal 2 => unfold x)
    | ((try lift_lets -underBinder); intro x; have hx : x = x := (by unfold x; rfl); clear hx)
    | refine State.setPlu_keeps ?_ | refine State.tileRange_keeps ?_ | refine State.gathered_keeps ?_
    | refine State.count_keeps ?_ | refine State.Keeps.ite ?_ ?_ | split

theorem execPixelRun_keeps {plu waits s} (h : s.Keeps q)
    (hq : q.Off 0x251106 := by have h := ‹Keep.Off q _›; exact Keep.sub h (by decide)) :
    Kept q (execPixelRun plu waits s) := by
  unfold execPixelRun
  with_reducible repeat' first | assumption | refine done_keeps ?_ | refine State.beginPixel_keeps ?_

theorem State.finishPixel_keeps {s k j x r} (h : s.Keeps q)
    (hq : q.Off 0x2243956 := by have h := ‹Keep.Off q _›; exact Keep.sub h (by decide)) :
    (State.finishPixel s k j x r).Keeps q := by
  unfold State.finishPixel
  with_reducible repeat' first
    | assumption
    | ((try lift_lets -underBinder); intro x; refine (fun (_ : State.Keeps q x) => ?_) ?_; on_goal 2 => unfold x)
    | ((try lift_lets -underBinder); intro x; have hx : x = x := (by unfold x; rfl); clear hx)
    | refine State.setPlu_keeps ?_ | refine State.setFld_keeps ?_ | refine State.storePixel_keeps ?_
    | refine State.endPixel_keeps ?_ | refine State.progFault_keeps ?_ | refine State.faultPixel_keeps ?_
    | refine State.Keeps.ite ?_ ?_

theorem State.openBlock_keeps {s k i j x r} (h : s.Keeps q)
    (hq : q.Off 0x2243956 := by have h := ‹Keep.Off q _›; exact Keep.sub h (by decide)) :
    (State.openBlock s k i j x r).Keeps q := by
  unfold State.openBlock
  with_reducible repeat' first
    | assumption | refine State.setRun_keeps ?_ | refine State.stopPixel_keeps ?_ | split

theorem execNop_keeps {plu s} (h : s.Keeps q)
    (hq : q.Off 0x2243956 := by have h := ‹Keep.Off q _›; exact Keep.sub h (by decide)) : Kept q (execNop plu s) := by
  unfold execNop
  with_reducible repeat' first | assumption | refine done_keeps ?_ | refine State.pluAlu_keeps ?_

theorem execEndRun_keeps {plu s} (h : s.Keeps q)
    (hq : q.Off 0x2243956 := by have h := ‹Keep.Off q _›; exact Keep.sub h (by decide)) :
    Kept q (execEndRun plu s) := by
  unfold execEndRun
  with_reducible repeat' first
    | assumption | refine fun _ => ?_ | refine done_keeps ?_ | refine State.finishPixel_keeps ?_
    | refine State.pluStep_keeps ?_ ?_

theorem execRep_keeps {plu s} (h : s.Keeps q)
    (hq : q.Off 0x2243956 := by have h := ‹Keep.Off q _›; exact Keep.sub h (by decide)) : Kept q (execRep plu s) := by
  unfold execRep
  with_reducible repeat' first
    | assumption | refine fun _ => ?_ | refine done_keeps ?_ | refine State.pluStep_keeps ?_ ?_
    | refine State.openBlock_keeps ?_

theorem execEndr_keeps {plu s} (h : s.Keeps q)
    (hq : q.Off 0x2243956 := by have h := ‹Keep.Off q _›; exact Keep.sub h (by decide)) : Kept q (execEndr plu s) := by
  unfold execEndr
  with_reducible repeat' first | assumption | refine done_keeps ?_ | refine State.pluAlu_keeps ?_

theorem execPset_keeps {plu s} (h : s.Keeps q)
    (hq : q.Off 0x2243956 := by have h := ‹Keep.Off q _›; exact Keep.sub h (by decide)) : Kept q (execPset plu s) := by
  unfold execPset
  with_reducible repeat' first | assumption | refine done_keeps ?_ | refine State.pluAlu_keeps ?_

theorem execPlog_keeps {plu s} (h : s.Keeps q)
    (hq : q.Off 0x2243956 := by have h := ‹Keep.Off q _›; exact Keep.sub h (by decide)) : Kept q (execPlog plu s) := by
  unfold execPlog
  with_reducible repeat' first | assumption | refine done_keeps ?_ | refine State.pluAlu_keeps ?_

theorem execCmp_keeps {plu s} (h : s.Keeps q)
    (hq : q.Off 0x2243956 := by have h := ‹Keep.Off q _›; exact Keep.sub h (by decide)) : Kept q (execCmp plu s) := by
  unfold execCmp
  with_reducible repeat' first | assumption | refine done_keeps ?_ | refine State.pluAlu_keeps ?_

theorem execMov_keeps {plu s} (h : s.Keeps q)
    (hq : q.Off 0x2243956 := by have h := ‹Keep.Off q _›; exact Keep.sub h (by decide)) : Kept q (execMov plu s) := by
  unfold execMov
  with_reducible repeat' first | assumption | refine done_keeps ?_ | refine State.pluAlu_keeps ?_

theorem execVldi_keeps {plu s} (h : s.Keeps q)
    (hq : q.Off 0x2243956 := by have h := ‹Keep.Off q _›; exact Keep.sub h (by decide)) : Kept q (execVldi plu s) := by
  unfold execVldi
  with_reducible repeat' first | assumption | refine done_keeps ?_ | refine State.pluAlu_keeps ?_

theorem execVsplat_keeps {plu s} (h : s.Keeps q)
    (hq : q.Off 0x2243956 := by have h := ‹Keep.Off q _›; exact Keep.sub h (by decide)) :
    Kept q (execVsplat plu s) := by
  unfold execVsplat
  with_reducible repeat' first | assumption | refine done_keeps ?_ | refine State.pluAlu_keeps ?_

theorem execVext_keeps {plu s} (h : s.Keeps q)
    (hq : q.Off 0x2243956 := by have h := ‹Keep.Off q _›; exact Keep.sub h (by decide)) : Kept q (execVext plu s) := by
  unfold execVext
  with_reducible repeat' first | assumption | refine done_keeps ?_ | refine State.pluAlu_keeps ?_

theorem execSwz_keeps {plu s} (h : s.Keeps q)
    (hq : q.Off 0x2243956 := by have h := ‹Keep.Off q _›; exact Keep.sub h (by decide)) : Kept q (execSwz plu s) := by
  unfold execSwz
  with_reducible repeat' first | assumption | refine done_keeps ?_ | refine State.pluAlu_keeps ?_

theorem execSel_keeps {plu s} (h : s.Keeps q)
    (hq : q.Off 0x2243956 := by have h := ‹Keep.Off q _›; exact Keep.sub h (by decide)) : Kept q (execSel plu s) := by
  unfold execSel
  with_reducible repeat' first | assumption | refine done_keeps ?_ | refine State.pluAlu_keeps ?_

theorem execSldi_keeps {plu s} (h : s.Keeps q)
    (hq : q.Off 0x2243956 := by have h := ‹Keep.Off q _›; exact Keep.sub h (by decide)) : Kept q (execSldi plu s) := by
  unfold execSldi
  with_reducible repeat' first | assumption | refine done_keeps ?_ | refine State.pluAlu_keeps ?_

theorem execSadd_keeps {plu s} (h : s.Keeps q)
    (hq : q.Off 0x2243956 := by have h := ‹Keep.Off q _›; exact Keep.sub h (by decide)) : Kept q (execSadd plu s) := by
  unfold execSadd
  with_reducible repeat' first | assumption | refine done_keeps ?_ | refine State.pluScalar_keeps ?_

theorem execSsub_keeps {plu s} (h : s.Keeps q)
    (hq : q.Off 0x2243956 := by have h := ‹Keep.Off q _›; exact Keep.sub h (by decide)) : Kept q (execSsub plu s) := by
  unfold execSsub
  with_reducible repeat' first | assumption | refine done_keeps ?_ | refine State.pluScalar_keeps ?_

theorem execSmul_keeps {plu s} (h : s.Keeps q)
    (hq : q.Off 0x2243956 := by have h := ‹Keep.Off q _›; exact Keep.sub h (by decide)) : Kept q (execSmul plu s) := by
  unfold execSmul
  with_reducible repeat' first | assumption | refine done_keeps ?_ | refine State.pluScalar_keeps ?_

theorem execSmin_keeps {plu s} (h : s.Keeps q)
    (hq : q.Off 0x2243956 := by have h := ‹Keep.Off q _›; exact Keep.sub h (by decide)) : Kept q (execSmin plu s) := by
  unfold execSmin
  with_reducible repeat' first | assumption | refine done_keeps ?_ | refine State.pluScalar_keeps ?_

theorem execSmax_keeps {plu s} (h : s.Keeps q)
    (hq : q.Off 0x2243956 := by have h := ‹Keep.Off q _›; exact Keep.sub h (by decide)) : Kept q (execSmax plu s) := by
  unfold execSmax
  with_reducible repeat' first | assumption | refine done_keeps ?_ | refine State.pluScalar_keeps ?_

theorem execSget_keeps {plu s} (h : s.Keeps q)
    (hq : q.Off 0x2243956 := by have h := ‹Keep.Off q _›; exact Keep.sub h (by decide)) : Kept q (execSget plu s) := by
  unfold execSget
  with_reducible repeat' first | assumption | refine done_keeps ?_ | refine State.pluAlu_keeps ?_

theorem State.smpCheck_keeps {s k m x r i} (h : s.Keeps q)
    (hq : q.Off 0x241106 := by have h := ‹Keep.Off q _›; exact Keep.sub h (by decide)) :
    (State.smpCheck s k m x r i).Keeps q := by
  unfold State.smpCheck
  with_reducible repeat' first
    | assumption
    | ((try lift_lets -underBinder); intro x; refine (fun (_ : State.Keeps q x) => ?_) ?_; on_goal 2 => unfold x)
    | refine State.progFault_keeps ?_ | refine State.faultPixel_keeps ?_ | refine State.Keeps.ite ?_ ?_

theorem State.doSmp_keeps {s k i j x r} (h : s.Keeps q)
    (hq : q.Off 0x241106 := by have h := ‹Keep.Off q _›; exact Keep.sub h (by decide)) :
    (State.doSmp s k i j x r).Keeps q := by
  unfold State.doSmp
  with_reducible repeat' first
    | assumption | ((try lift_lets -underBinder); intro x; have hx : x = x := (by unfold x; rfl); clear hx)
    | refine State.smpCheck_keeps ?_ | refine State.setRun_keeps ?_

theorem execSmp_keeps {plu s} (h : s.Keeps q)
    (hq : q.Off 0x2243956 := by have h := ‹Keep.Off q _›; exact Keep.sub h (by decide)) : Kept q (execSmp plu s) := by
  unfold execSmp
  with_reducible repeat' first
    | assumption | refine fun _ => ?_ | refine done_keeps ?_ | refine State.pluStep_keeps ?_ ?_
    | refine State.doSmp_keeps ?_

theorem execBlnd_keeps {plu s} (h : s.Keeps q)
    (hq : q.Off 0x2243956 := by have h := ‹Keep.Off q _›; exact Keep.sub h (by decide)) : Kept q (execBlnd plu s) := by
  unfold execBlnd
  with_reducible repeat' first | assumption | refine done_keeps ?_ | refine State.pluAlu_keeps ?_

theorem execAdds_keeps {plu s} (h : s.Keeps q)
    (hq : q.Off 0x2243956 := by have h := ‹Keep.Off q _›; exact Keep.sub h (by decide)) : Kept q (execAdds plu s) := by
  unfold execAdds
  with_reducible repeat' first | assumption | refine done_keeps ?_ | refine State.pluLanes_keeps ?_

theorem execSubs_keeps {plu s} (h : s.Keeps q)
    (hq : q.Off 0x2243956 := by have h := ‹Keep.Off q _›; exact Keep.sub h (by decide)) : Kept q (execSubs plu s) := by
  unfold execSubs
  with_reducible repeat' first | assumption | refine done_keeps ?_ | refine State.pluLanes_keeps ?_

theorem execMul_keeps {plu s} (h : s.Keeps q)
    (hq : q.Off 0x2243956 := by have h := ‹Keep.Off q _›; exact Keep.sub h (by decide)) : Kept q (execMul plu s) := by
  unfold execMul
  with_reducible repeat' first | assumption | refine done_keeps ?_ | refine State.pluLanes_keeps ?_

theorem execMad_keeps {plu s} (h : s.Keeps q)
    (hq : q.Off 0x2243956 := by have h := ‹Keep.Off q _›; exact Keep.sub h (by decide)) : Kept q (execMad plu s) := by
  unfold execMad
  with_reducible repeat' first | assumption | refine done_keeps ?_ | refine State.pluAlu_keeps ?_

theorem execMin_keeps {plu s} (h : s.Keeps q)
    (hq : q.Off 0x2243956 := by have h := ‹Keep.Off q _›; exact Keep.sub h (by decide)) : Kept q (execMin plu s) := by
  unfold execMin
  with_reducible repeat' first | assumption | refine done_keeps ?_ | refine State.pluLanes_keeps ?_

theorem execMax_keeps {plu s} (h : s.Keeps q)
    (hq : q.Off 0x2243956 := by have h := ‹Keep.Off q _›; exact Keep.sub h (by decide)) : Kept q (execMax plu s) := by
  unfold execMax
  with_reducible repeat' first | assumption | refine done_keeps ?_ | refine State.pluLanes_keeps ?_

theorem execAbsd_keeps {plu s} (h : s.Keeps q)
    (hq : q.Off 0x2243956 := by have h := ‹Keep.Off q _›; exact Keep.sub h (by decide)) : Kept q (execAbsd plu s) := by
  unfold execAbsd
  with_reducible repeat' first | assumption | refine done_keeps ?_ | refine State.pluLanes_keeps ?_

theorem execAvg_keeps {plu s} (h : s.Keeps q)
    (hq : q.Off 0x2243956 := by have h := ‹Keep.Off q _›; exact Keep.sub h (by decide)) : Kept q (execAvg plu s) := by
  unfold execAvg
  with_reducible repeat' first | assumption | refine done_keeps ?_ | refine State.pluLanes_keeps ?_

theorem execShr_keeps {plu s} (h : s.Keeps q)
    (hq : q.Off 0x2243956 := by have h := ‹Keep.Off q _›; exact Keep.sub h (by decide)) : Kept q (execShr plu s) := by
  unfold execShr
  with_reducible repeat' first | assumption | refine done_keeps ?_ | refine State.pluShift_keeps ?_

theorem execShl_keeps {plu s} (h : s.Keeps q)
    (hq : q.Off 0x2243956 := by have h := ‹Keep.Off q _›; exact Keep.sub h (by decide)) : Kept q (execShl plu s) := by
  unfold execShl
  with_reducible repeat' first | assumption | refine done_keeps ?_ | refine State.pluShift_keeps ?_

theorem execLerp_keeps {plu s} (h : s.Keeps q)
    (hq : q.Off 0x2243956 := by have h := ‹Keep.Off q _›; exact Keep.sub h (by decide)) : Kept q (execLerp plu s) := by
  unfold execLerp
  with_reducible repeat' first | assumption | refine done_keeps ?_ | refine State.pluAlu_keeps ?_

theorem execMat_keeps {plu s} (h : s.Keeps q)
    (hq : q.Off 0x2243956 := by have h := ‹Keep.Off q _›; exact Keep.sub h (by decide)) : Kept q (execMat plu s) := by
  unfold execMat
  with_reducible repeat' first | assumption | refine done_keeps ?_ | refine State.pluAlu_keeps ?_

theorem execLut_keeps {plu s} (h : s.Keeps q)
    (hq : q.Off 0x2243956 := by have h := ‹Keep.Off q _›; exact Keep.sub h (by decide)) : Kept q (execLut plu s) := by
  unfold execLut
  with_reducible repeat' first | assumption | refine done_keeps ?_ | refine State.pluAlu_keeps ?_

theorem execLuts_keeps {plu s} (h : s.Keeps q)
    (hq : q.Off 0x2243956 := by have h := ‹Keep.Off q _›; exact Keep.sub h (by decide)) : Kept q (execLuts plu s) := by
  unfold execLuts
  with_reducible repeat' first | assumption | refine done_keeps ?_ | refine State.pluAlu_keeps ?_

theorem execDose_keeps {plu s} (h : s.Keeps q)
    (hq : q.Off 0x2243956 := by have h := ‹Keep.Off q _›; exact Keep.sub h (by decide)) : Kept q (execDose plu s) := by
  unfold execDose
  with_reducible repeat' first | assumption | refine done_keeps ?_ | refine State.pluAlu_keeps ?_

theorem execDith_keeps {plu s} (h : s.Keeps q)
    (hq : q.Off 0x2243956 := by have h := ‹Keep.Off q _›; exact Keep.sub h (by decide)) : Kept q (execDith plu s) := by
  unfold execDith
  with_reducible repeat' first | assumption | refine done_keeps ?_ | refine State.pluAlu_keeps ?_

theorem execSt_keeps {plu s} (h : s.Keeps q)
    (hq : q.Off 0x2243956 := by have h := ‹Keep.Off q _›; exact Keep.sub h (by decide)) : Kept q (execSt plu s) := by
  unfold execSt
  with_reducible repeat' first
    | assumption | refine fun _ => ?_ | refine done_keeps ?_ | refine State.pluStep_keeps ?_ ?_
    | refine State.storePixel_keeps ?_ | refine State.setRun_keeps ?_

theorem State.progLo_keeps {s n v} (h : s.Keeps q)
    (hq : q.Off 0x20000 := by have h := ‹Keep.Off q _›; exact Keep.sub h (by decide)) :
    (State.progLo s n v).Keeps q := by
  unfold State.progLo
  with_reducible repeat' first | assumption | fail_if_no_progress (refine State.Keeps.upd ?_ rfl rfl rfl rfl)

theorem State.setProg_keeps {s : State} {n w v} (h : s.Keeps q) (hq : q.Off 0x20 := by have h := ‹Keep.Off q _›; exact Keep.sub h (by decide)) : (State.setProg s n w v).Keeps q :=
  h.updAll rfl h.live h.mem (fun hc => Tab.wf_set _ _ _ (h.prog hc))

theorem State.progHi_keeps {s n v} (h : s.Keeps q)
    (hq : q.Off 0x26 := by have h := ‹Keep.Off q _›; exact Keep.sub h (by decide)) : (State.progHi s n v).Keeps q := by
  unfold State.progHi
  with_reducible repeat' first
    | assumption
    | ((try lift_lets -underBinder); intro x; refine (fun (_ : State.Keeps q x) => ?_) ?_; on_goal 2 => unfold x)
    | ((try lift_lets -underBinder); intro x; have hx : x = x := (by unfold x; rfl); clear hx)
    | refine State.setFld_keeps ?_ | refine State.setProg_keeps ?_ | refine State.Keeps.ite ?_ ?_

end Sys2Proof.Machine
end

