-- ==== Sys2Proof/Laws/KeepsRedBase.lean ====
section
/-!
SUPPORT. What the operations of Machine/RedBase.lean keep.
-/
set_option Elab.async false
namespace Sys2Proof.Machine

variable {q : Keep}

theorem State.setRed_keeps {s r} (h : s.Keeps q)
    (hq : q.Off 0x2000000 := by have h := ‹Keep.Off q _›; exact Keep.sub h (by decide)) :
    (State.setRed s r).Keeps q := by
  unfold State.setRed
  with_reducible repeat' first | assumption | fail_if_no_progress (refine State.Keeps.upd ?_ rfl rfl rfl rfl)

theorem State.setSync_keeps {s n} (h : s.Keeps q)
    (hq : q.Off 0x2200106 := by have h := ‹Keep.Off q _›; exact Keep.sub h (by decide)) :
    (State.setSync s n).Keeps q := by
  unfold State.setSync
  with_reducible repeat' first
    | assumption
    | ((try lift_lets -underBinder); intro x; refine (fun (_ : State.Keeps q x) => ?_) ?_; on_goal 2 => unfold x)
    | ((try lift_lets -underBinder); intro x; have hx : x = x := (by unfold x; rfl); clear hx) | refine State.irq_keeps ?_
    | refine State.setSts_keeps ?_ | refine State.setRed_keeps ?_ | refine State.Keeps.ite ?_ ?_

theorem State.syncRefresh_keeps {s} (h : s.Keeps q)
    (hq : q.Off 0x2200106 := by have h := ‹Keep.Off q _›; exact Keep.sub h (by decide)) :
    (State.syncRefresh s).Keeps q := by
  unfold State.syncRefresh
  with_reducible repeat' first | assumption | refine State.setSync_keeps ?_ | refine State.Keeps.ite ?_ ?_

theorem State.unsync_keeps {s} (h : s.Keeps q)
    (hq : q.Off 0x2200106 := by have h := ‹Keep.Off q _›; exact Keep.sub h (by decide)) :
    (State.unsync s).Keeps q := by
  unfold State.unsync
  with_reducible repeat' first | assumption | refine State.setSync_keeps ?_ | refine State.Keeps.ite ?_ ?_

theorem State.alignRefresh_keeps {s} (h : s.Keeps q)
    (hq : q.Off 0x200106 := by have h := ‹Keep.Off q _›; exact Keep.sub h (by decide)) :
    (State.alignRefresh s).Keeps q := by
  unfold State.alignRefresh
  with_reducible repeat' first
    | assumption | ((try lift_lets -underBinder); intro x; have hx : x = x := (by unfold x; rfl); clear hx)
    | refine State.alignFalls_keeps ?_ | refine State.setFld_keeps ?_ | refine State.Keeps.ite ?_ ?_

theorem State.digestDiffers_keeps {s a b} (h : s.Keeps q)
    (hq : q.Off 0x2201946 := by have h := ‹Keep.Off q _›; exact Keep.sub h (by decide)) :
    (State.digestDiffers s a b).Keeps q := by
  unfold State.digestDiffers
  with_reducible repeat' first
    | assumption
    | ((try lift_lets -underBinder); intro x; refine (fun (_ : State.Keeps q x) => ?_) ?_; on_goal 2 => unfold x)
    | ((try lift_lets -underBinder); intro x; have hx : x = x := (by unfold x; rfl); clear hx)
    | refine State.fault_keeps ?_ | refine State.setSync_keeps ?_ | refine State.trigger_keeps ?_
    | refine State.setNat_keeps ?_ | refine State.count_keeps ?_ | refine State.Keeps.ite ?_ ?_

theorem State.compareDigest_keeps {s a b} (h : s.Keeps q)
    (hq : q.Off 0x2201946 := by have h := ‹Keep.Off q _›; exact Keep.sub h (by decide)) :
    (State.compareDigest s a b).Keeps q := by
  unfold State.compareDigest
  with_reducible repeat' first
    | assumption
    | ((try lift_lets -underBinder); intro x; refine (fun (_ : State.Keeps q x) => ?_) ?_; on_goal 2 => unfold x)
    | ((try lift_lets -underBinder); intro x; have hx : x = x := (by unfold x; rfl); clear hx)
    | refine State.setSync_keeps ?_ | refine State.digestDiffers_keeps ?_ | refine State.setRed_keeps ?_
    | refine State.count_keeps ?_ | refine State.Keeps.ite ?_ ?_

theorem State.peerDigest_keeps {s b} (h : s.Keeps q)
    (hq : q.Off 0x2201946 := by have h := ‹Keep.Off q _›; exact Keep.sub h (by decide)) :
    (State.peerDigest s b).Keeps q := by
  unfold State.peerDigest
  with_reducible repeat' first
    | assumption | ((try lift_lets -underBinder); intro x; have hx : x = x := (by unfold x; rfl); clear hx)
    | refine State.compareDigest_keeps ?_ | refine State.setRed_keeps ?_ | refine State.Keeps.ite ?_ ?_ | split

theorem State.ownDigest_keeps {s a} (h : s.Keeps q)
    (hq : q.Off 0x2201946 := by have h := ‹Keep.Off q _›; exact Keep.sub h (by decide)) :
    (State.ownDigest s a).Keeps q := by
  unfold State.ownDigest
  with_reducible repeat' first
    | assumption | ((try lift_lets -underBinder); intro x; have hx : x = x := (by unfold x; rfl); clear hx)
    | refine State.compareDigest_keeps ?_ | refine State.setRed_keeps ?_ | refine State.Keeps.ite ?_ ?_ | split

theorem State.converge_keeps {s k} (h : s.Keeps q)
    (hq : q.Off 0x2203946 := by have h := ‹Keep.Off q _›; exact Keep.sub h (by decide)) :
    (State.converge s k).Keeps q := by
  unfold State.converge
  with_reducible repeat' first
    | assumption
    | ((try lift_lets -underBinder); intro x; refine (fun (_ : State.Keeps q x) => ?_) ?_; on_goal 2 => unfold x)
    | ((try lift_lets -underBinder); intro x; have hx : x = x := (by unfold x; rfl); clear hx)
    | refine State.tell_keeps ?_ | refine State.setRed_keeps ?_ | refine State.Keeps.ite ?_ ?_

theorem State.digestStart_keeps {s k start rep} (h : s.Keeps q)
    (hq : q.Off 0x2203946 := by have h := ‹Keep.Off q _›; exact Keep.sub h (by decide)) :
    (State.digestStart s k start rep).Keeps q := by
  unfold State.digestStart
  with_reducible repeat' first
    | assumption
    | ((try lift_lets -underBinder); intro x; refine (fun (_ : State.Keeps q x) => ?_) ?_; on_goal 2 => unfold x)
    | refine State.ownDigest_keeps ?_ | refine State.converge_keeps ?_ | refine State.tell_keeps ?_
    | refine State.Keeps.ite ?_ ?_

end Sys2Proof.Machine
end

