-- ==== Sys2Proof/Laws/KeepsRedCopy.lean ====
section
/-!
SUPPORT. What the operations of Machine/RedCopy.lean keep.
-/
set_option Elab.async false
namespace Sys2Proof.Machine

variable {q : Keep}

theorem State.pumpCopy_keeps {s a} (h : s.Keeps q)
    (hq : q.Off 0x2203946 := by have h := ‹Keep.Off q _›; exact Keep.sub h (by decide)) :
    (State.pumpCopy s a).Keeps q := by
  fun_induction State.pumpCopy s a <;> try simp only [*]
  with_reducible repeat' first
    | assumption | refine State.tsxSend_keeps ?_ | refine State.setNat_keeps ?_ | refine State.setRed_keeps ?_
    | apply_assumption -exfalso -symm

theorem State.beginCopy_keeps {s} (h : s.Keeps q)
    (hq : q.Off 0x2203946 := by have h := ‹Keep.Off q _›; exact Keep.sub h (by decide)) :
    (State.beginCopy s).Keeps q := by
  unfold State.beginCopy
  with_reducible repeat' first
    | assumption
    | ((try lift_lets -underBinder); intro x; refine (fun (_ : State.Keeps q x) => ?_) ?_; on_goal 2 => unfold x)
    | ((try lift_lets -underBinder); intro x; have hx : x = x := (by unfold x; rfl); clear hx)
    | refine State.tsxSend_keeps ?_ | refine State.setNat_keeps ?_ | refine State.inc_keeps ?_
    | refine State.setRed_keeps ?_ | refine State.pumpCopy_keeps ?_ | refine State.Keeps.ite ?_ ?_

theorem State.sendHardwareImage_keeps {s} (h : s.Keeps q)
    (hq : q.Off 0x2203946 := by have h := ‹Keep.Off q _›; exact Keep.sub h (by decide)) :
    (State.sendHardwareImage s).Keeps q := by
  unfold State.sendHardwareImage
  with_reducible repeat' first
    | assumption | refine fun _ => ?_
    | ((try lift_lets -underBinder); intro x; have hx : x = x := (by unfold x; rfl); clear hx; have hy : List _ := x; clear hy; clear_value x)
    | refine State.tsxSend_keeps ?_ | refine State.Keeps.foldl ?_ ?_

theorem State.applyImage_keeps {s prev a} (h : s.Keeps q)
    (hq : q.Off 0x6 := by have h := ‹Keep.Off q _›; exact Keep.sub h (by decide)) :
    (State.applyImage s prev a).Keeps q := by
  fun_induction State.applyImage s prev a <;> try simp only [*]
  with_reducible repeat' first
    | assumption | refine State.setBoth_keeps ?_ | refine State.setShd_keeps ?_ | apply_assumption -exfalso -symm
    | refine State.Keeps.ite ?_ ?_

theorem State.setProgBytes_keeps {s : State} {a l} (h : s.Keeps q) (hq : q.Off 0x20 := by have h := ‹Keep.Off q _›; exact Keep.sub h (by decide)) : (State.setProgBytes s a l).Keeps q := by
  induction l generalizing s a with
  | nil => exact h
  | cons b t ih => exact ih (h.updAll rfl h.live h.mem (fun hc => Tab.wf_set _ _ _ (h.prog hc)))

theorem State.setCopyBytes_keeps {s a a2} (h : s.Keeps q)
    (hq : q.Off 0x10 := by have h := ‹Keep.Off q _›; exact Keep.sub h (by decide)) :
    (State.setCopyBytes s a a2).Keeps q := by
  fun_induction State.setCopyBytes s a a2 <;> try simp only [*]
  with_reducible repeat' first
    | assumption | refine State.setByte_keeps ?_ | apply_assumption -exfalso -symm | refine State.Keeps.ite ?_ ?_

theorem State.adoptSwath_keeps {s k} (h : s.Keeps q)
    (hq : q.Off 0x4000 := by have h := ‹Keep.Off q _›; exact Keep.sub h (by decide)) :
    (State.adoptSwath s k).Keeps q := by
  unfold State.adoptSwath
  with_reducible repeat' first
    | assumption | ((try lift_lets -underBinder); intro x; have hx : x = x := (by unfold x; rfl); clear hx)
    | refine State.setSwath_keeps ?_ | refine State.Keeps.ite ?_ ?_

theorem State.applyHardware_keeps {s a} (h : s.Keeps q)
    (hq : q.Off 0x6 := by have h := ‹Keep.Off q _›; exact Keep.sub h (by decide)) :
    (State.applyHardware s a).Keeps q := by
  fun_induction State.applyHardware s a <;> try simp only [*]
  with_reducible repeat' first | assumption | refine State.setReg_keeps ?_ | apply_assumption -exfalso -symm

theorem State.applyBlock_keeps {s m} (h : s.Keeps q)
    (hq : q.Off 0x2004036 := by have h := ‹Keep.Off q _›; exact Keep.sub h (by decide)) :
    (State.applyBlock s m).Keeps q := by
  unfold State.applyBlock
  with_reducible repeat' first
    | assumption | refine fun _ => ?_
    | ((try lift_lets -underBinder); intro x; refine (fun (_ : State.Keeps q x) => ?_) ?_; on_goal 2 => unfold x)
    | ((try lift_lets -underBinder); intro x; have hx : x = x := (by unfold x; rfl); clear hx; have hy : List _ := x; clear hy; clear_value x)
    | ((try lift_lets -underBinder); intro x; have hx : x = x := (by unfold x; rfl); clear hx)
    | refine State.adoptSwath_keeps ?_ | refine State.setCopyBytes_keeps ?_ | refine State.applyImage_keeps ?_
    | refine State.setNat_keeps ?_ | refine State.applyHardware_keeps ?_ | refine State.setRed_keeps ?_
    | refine State.setProgBytes_keeps ?_ | refine State.Keeps.ite ?_ ?_ | refine State.Keeps.foldl ?_ ?_ | split

theorem State.copyBegun_keeps {s gen} (h : s.Keeps q)
    (hq : q.Off 0x2200106 := by have h := ‹Keep.Off q _›; exact Keep.sub h (by decide)) :
    (State.copyBegun s gen).Keeps q := by
  unfold State.copyBegun
  with_reducible repeat' first
    | assumption
    | ((try lift_lets -underBinder); intro x; refine (fun (_ : State.Keeps q x) => ?_) ?_; on_goal 2 => unfold x)
    | ((try lift_lets -underBinder); intro x; have hx : x = x := (by unfold x; rfl); clear hx)
    | refine State.setSync_keeps ?_ | refine State.setNat_keeps ?_ | refine State.setRed_keeps ?_
    | refine State.Keeps.ite ?_ ?_

end Sys2Proof.Machine
end

