-- ==== Sys2Proof/Laws/KeepsSyn.lean ====
section
/-!
SUPPORT. What the operations of Machine/Syn.lean keep.
-/
set_option Elab.async false
namespace Sys2Proof.Machine

variable {q : Keep}

theorem State.setSyn_keeps {s k v} (h : s.Keeps q)
    (hq : q.Off 0x400 := by have h := ‹Keep.Off q _›; exact Keep.sub h (by decide)) :
    (State.setSyn s k v).Keeps q := by
  unfold State.setSyn
  with_reducible repeat' first | assumption | fail_if_no_progress (refine State.Keeps.upd ?_ rfl rfl rfl rfl)

theorem State.setInput_keeps {s k n} (h : s.Keeps q)
    (hq : q.Off 0x1000204306 := by have h := ‹Keep.Off q _›; exact Keep.sub h (by decide)) :
    (State.setInput s k n).Keeps q := by
  unfold State.setInput
  with_reducible repeat' first
    | assumption | refine fun _ => ?_
    | ((try lift_lets -underBinder); intro x; refine (fun (_ : State.Keeps q x) => ?_) ?_; on_goal 2 => unfold x)
    | ((try lift_lets -underBinder); intro x; have hx : x = x := (by unfold x; rfl); clear hx) | refine State.irq_keeps ?_
    | refine State.setSts_keeps ?_ | refine State.swathLocks_keeps ?_ | refine State.tlnSettle_keeps ?_
    | refine State.srcLost_keeps ?_ | refine State.Keeps.ite ?_ ?_ | refine State.Keeps.foldl ?_ ?_

theorem State.setOutput_keeps {s k n} (h : s.Keeps q)
    (hq : q.Off 0x200106 := by have h := ‹Keep.Off q _›; exact Keep.sub h (by decide)) :
    (State.setOutput s k n).Keeps q := by
  unfold State.setOutput
  with_reducible repeat' first
    | assumption | refine State.irq_keeps ?_ | refine State.setSts_keeps ?_ | refine State.Keeps.ite ?_ ?_

theorem State.synGlitch_keeps {s k} (h : s.Keeps q)
    (hq : q.Off 0x200106 := by have h := ‹Keep.Off q _›; exact Keep.sub h (by decide)) :
    (State.synGlitch s k).Keeps q := by
  unfold State.synGlitch
  with_reducible repeat' first | assumption | refine State.fault_keeps ?_ | refine State.inc_keeps ?_

theorem State.synServo_keeps {s k e} (h : s.Keeps q)
    (hq : q.Off 0x200205f06 := by have h := ‹Keep.Off q _›; exact Keep.sub h (by decide)) :
    (State.synServo s k e).Keeps q := by
  unfold State.synServo
  with_reducible repeat' first
    | assumption
    | ((try lift_lets -underBinder); intro x; refine (fun (_ : State.Keeps q x) => ?_) ?_; on_goal 2 => unfold x)
    | ((try lift_lets -underBinder); intro x; have hx : x = x := (by unfold x; rfl); clear hx)
    | refine State.servoEvent_keeps ?_ | refine State.Keeps.ite ?_ ?_
    | fail_if_no_progress (refine State.Keeps.upd ?_ rfl rfl rfl rfl)

theorem State.synValidEdge_keeps {s k j u ltc} (h : s.Keeps q)
    (hq : q.Off 0x1000204706 := by have h := ‹Keep.Off q _›; exact Keep.sub h (by decide)) :
    (State.synValidEdge s k j u ltc).Keeps q := by
  unfold State.synValidEdge
  with_reducible repeat' first
    | assumption
    | ((try lift_lets -underBinder); intro x; refine (fun (_ : State.Keeps q x) => ?_) ?_; on_goal 2 => unfold x)
    | ((try lift_lets -underBinder); intro x; have hx : x = x := (by unfold x; rfl); clear hx)
    | refine State.setReg_keeps ?_ | refine State.setSyn_keeps ?_ | refine State.setInput_keeps ?_
    | refine State.setNat_keeps ?_ | refine State.inc_keeps ?_ | refine State.Keeps.ite ?_ ?_

theorem State.synDecim_keeps {s k e} (h : s.Keeps q)
    (hq : q.Off 0x200205f06 := by have h := ‹Keep.Off q _›; exact Keep.sub h (by decide)) :
    (State.synDecim s k e).Keeps q := by
  unfold State.synDecim
  with_reducible repeat' first
    | assumption
    | ((try lift_lets -underBinder); intro x; refine (fun (_ : State.Keeps q x) => ?_) ?_; on_goal 2 => unfold x)
    | ((try lift_lets -underBinder); intro x; have hx : x = x := (by unfold x; rfl); clear hx)
    | refine State.synServo_keeps ?_ | refine State.setSyn_keeps ?_ | refine State.setNat_keeps ?_
    | refine State.Keeps.ite ?_ ?_

theorem State.synEdge_keeps {s k alt lines ltc} (h : s.Keeps q)
    (hq : q.Off 0x1200205f06 := by have h := ‹Keep.Off q _›; exact Keep.sub h (by decide)) :
    (State.synEdge s k alt lines ltc).Keeps q := by
  unfold State.synEdge
  with_reducible repeat' first
    | assumption | ((try lift_lets -underBinder); intro x; have hx : x = x := (by unfold x; rfl); clear hx)
    | refine State.synDecim_keeps ?_ | refine State.synGlitch_keeps ?_ | refine State.synValidEdge_keeps ?_
    | refine State.Keeps.ite ?_ ?_

theorem execSynEdge_keeps {k alt lines ltc s} (h : s.Keeps q)
    (hq : q.Off 0x1200205f06 := by have h := ‹Keep.Off q _›; exact Keep.sub h (by decide)) :
    Kept q (execSynEdge k alt lines ltc s) := by
  unfold execSynEdge
  with_reducible repeat' first | assumption | refine done_keeps ?_ | refine State.synEdge_keeps ?_

theorem State.synMissAt_keeps {s k j} (h : s.Keeps q)
    (hq : q.Off 0x1000204706 := by have h := ‹Keep.Off q _›; exact Keep.sub h (by decide)) :
    (State.synMissAt s k j).Keeps q := by
  unfold State.synMissAt
  with_reducible repeat' first
    | assumption
    | ((try lift_lets -underBinder); intro x; refine (fun (_ : State.Keeps q x) => ?_) ?_; on_goal 2 => unfold x)
    | ((try lift_lets -underBinder); intro x; have hx : x = x := (by unfold x; rfl); clear hx)
    | refine State.setSyn_keeps ?_ | refine State.setInput_keeps ?_ | refine State.inc_keeps ?_
    | refine State.Keeps.ite ?_ ?_

theorem State.synMiss_keeps {s k} (h : s.Keeps q)
    (hq : q.Off 0x1000204706 := by have h := ‹Keep.Off q _›; exact Keep.sub h (by decide)) :
    (State.synMiss s k).Keeps q := by
  unfold State.synMiss
  with_reducible repeat' first
    | assumption | refine fun _ => ?_
    | ((try lift_lets -underBinder); intro x; have hx : x = x := (by unfold x; rfl); clear hx)
    | refine State.synMissAt_keeps ?_ | refine State.atTime_keeps ?_ ?_ | refine State.Keeps.ite ?_ ?_

theorem execSynMiss_keeps {k s} (h : s.Keeps q)
    (hq : q.Off 0x1000204706 := by have h := ‹Keep.Off q _›; exact Keep.sub h (by decide)) :
    Kept q (execSynMiss k s) := by
  unfold execSynMiss
  with_reducible repeat' first | assumption | refine done_keeps ?_ | refine State.synMiss_keeps ?_

theorem State.synBegin_keeps {s k j stop o} (h : s.Keeps q)
    (hq : q.Off 0x202506 := by have h := ‹Keep.Off q _›; exact Keep.sub h (by decide)) :
    (State.synBegin s k j stop o).Keeps q := by
  unfold State.synBegin
  with_reducible repeat' first
    | assumption
    | ((try lift_lets -underBinder); intro x; refine (fun (_ : State.Keeps q x) => ?_) ?_; on_goal 2 => unfold x)
    | ((try lift_lets -underBinder); intro x; have hx : x = x := (by unfold x; rfl); clear hx)
    | refine State.setSyn_keeps ?_ | refine State.inc_keeps ?_ | refine State.setOutput_keeps ?_
    | refine State.emitEdges_keeps ?_ | refine State.Keeps.ite ?_ ?_

theorem State.ppsPulse_keeps {s} (h : s.Keeps q)
    (hq : q.Off 0x202706 := by have h := ‹Keep.Off q _›; exact Keep.sub h (by decide)) :
    (State.ppsPulse s).Keeps q := by
  unfold State.ppsPulse
  with_reducible repeat' first
    | assumption | refine fun _ => ?_
    | ((try lift_lets -underBinder); intro x; have hx : x = x := (by unfold x; rfl); clear hx)
    | refine State.synBegin_keeps ?_ | refine State.atTime_keeps ?_ ?_ | refine State.Keeps.ite ?_ ?_

theorem execPpsOutPulse_keeps {s} (h : s.Keeps q)
    (hq : q.Off 0x202706 := by have h := ‹Keep.Off q _›; exact Keep.sub h (by decide)) :
    Kept q (execPpsOutPulse s) := by
  unfold execPpsOutPulse
  with_reducible repeat' first | assumption | refine done_keeps ?_ | refine State.ppsPulse_keeps ?_

theorem State.ltcFrame_keeps {s} (h : s.Keeps q)
    (hq : q.Off 0x202706 := by have h := ‹Keep.Off q _›; exact Keep.sub h (by decide)) :
    (State.ltcFrame s).Keeps q := by
  unfold State.ltcFrame
  with_reducible repeat' first
    | assumption | refine fun _ => ?_
    | ((try lift_lets -underBinder); intro x; have hx : x = x := (by unfold x; rfl); clear hx)
    | refine State.synBegin_keeps ?_ | refine State.atTime_keeps ?_ ?_ | refine State.Keeps.ite ?_ ?_

theorem execLtcOutFrame_keeps {s} (h : s.Keeps q)
    (hq : q.Off 0x202706 := by have h := ‹Keep.Off q _›; exact Keep.sub h (by decide)) :
    Kept q (execLtcOutFrame s) := by
  unfold execLtcOutFrame
  with_reducible repeat' first | assumption | refine done_keeps ?_ | refine State.ltcFrame_keeps ?_

theorem State.synCtrl_keeps {s k en st} (h : s.Keeps q)
    (hq : q.Off 0x1000206706 := by have h := ‹Keep.Off q _›; exact Keep.sub h (by decide)) :
    (State.synCtrl s k en st).Keeps q := by
  unfold State.synCtrl
  with_reducible repeat' first
    | assumption
    | ((try lift_lets -underBinder); intro x; refine (fun (_ : State.Keeps q x) => ?_) ?_; on_goal 2 => unfold x)
    | ((try lift_lets -underBinder); intro x; have hx : x = x := (by unfold x; rfl); clear hx)
    | refine State.setSyn_keeps ?_ | refine State.setInput_keeps ?_ | refine State.setPageState_keeps ?_
    | refine State.setOutput_keeps ?_ | refine State.emit_keeps ?_ | refine State.Keeps.ite ?_ ?_

end Sys2Proof.Machine
end

