-- ==== Sys2Proof/Laws/KeepsSwath.lean ====
section
/-!
SUPPORT. What the operations of Machine/Swath.lean keep.
-/
set_option Elab.async false
namespace Sys2Proof.Machine

variable {q : Keep}

theorem State.nextStartRegs_keeps {s k} (h : s.Keeps q)
    (hq : q.Off 0x6 := by have h := ‹Keep.Off q _›; exact Keep.sub h (by decide)) :
    (State.nextStartRegs s k).Keeps q := by
  unfold State.nextStartRegs
  with_reducible repeat' first
    | assumption | refine State.setFlag_keeps ?_ | refine State.setTimeRegs_keeps ?_ | split

theorem State.addLaunch_keeps {s key l} (h : s.Keeps q)
    (hq : q.Off 0x8000 := by have h := ‹Keep.Off q _›; exact Keep.sub h (by decide)) :
    (State.addLaunch s key l).Keeps q := by
  unfold State.addLaunch
  with_reducible repeat' first | assumption | refine State.setLaunches_keeps ?_

theorem State.noteFrameOut_keeps {s l} (h : s.Keeps q)
    (hq : q.Off 0x8000 := by have h := ‹Keep.Off q _›; exact Keep.sub h (by decide)) :
    (State.noteFrameOut s l).Keeps q := by
  unfold State.noteFrameOut
  with_reducible repeat' first | assumption | refine State.setLaunches_keeps ?_

theorem State.frameOutMade_keeps {s l} (h : s.Keeps q)
    (hq : q.Off 0x8000 := by have h := ‹Keep.Off q _›; exact Keep.sub h (by decide)) :
    (State.frameOutMade s l).Keeps q := by
  unfold State.frameOutMade
  with_reducible repeat' first | assumption | refine State.setLaunches_keeps ?_

theorem State.giveLaunches_keeps {s k start frame rep} (h : s.Keeps q)
    (hq : q.Off 0x609106 := by have h := ‹Keep.Off q _›; exact Keep.sub h (by decide)) :
    (State.giveLaunches s k start frame rep).Keeps q := by
  unfold State.giveLaunches
  with_reducible repeat' first
    | assumption | refine fun _ => ?_
    | ((try lift_lets -underBinder); intro x; refine (fun (_ : State.Keeps q x) => ?_) ?_; on_goal 2 => unfold x)
    | ((try lift_lets -underBinder); intro x; have hx : x = x := (by unfold x; rfl); clear hx)
    | refine State.addLaunch_keeps ?_ | refine State.stepEngines_keeps ?_ | refine State.noteFrameOut_keeps ?_
    | refine State.Keeps.foldl ?_ ?_

theorem State.tellFix_keeps {s k f slip free} (h : s.Keeps q)
    (hq : q.Off 0x2203946 := by have h := ‹Keep.Off q _›; exact Keep.sub h (by decide)) :
    (State.tellFix s k f slip free).Keeps q := by
  unfold State.tellFix
  with_reducible repeat' first | assumption | refine State.tell_keeps ?_

theorem State.placeStart_keeps {s k f slips free} (h : s.Keeps q)
    (hq : q.Off 0x260f946 := by have h := ‹Keep.Off q _›; exact Keep.sub h (by decide)) :
    (State.placeStart s k f slips free).Keeps q := by
  unfold State.placeStart
  with_reducible repeat' first
    | assumption
    | ((try lift_lets -underBinder); intro x; refine (fun (_ : State.Keeps q x) => ?_) ?_; on_goal 2 => unfold x)
    | ((try lift_lets -underBinder); intro x; have hx : x = x := (by unfold x; rfl); clear hx; have hy : List _ := x; clear hy; clear_value x)
    | ((try lift_lets -underBinder); intro x; have hx : x = x := (by unfold x; rfl); clear hx)
    | refine State.fault_keeps ?_ | refine State.nextStartRegs_keeps ?_ | refine State.giveLaunches_keeps ?_
    | refine State.setSts_keeps ?_ | refine State.swtEvent_keeps ?_ | refine State.addReg_keeps ?_
    | refine State.setSwath_keeps ?_ | refine State.inc_keeps ?_ | refine State.tellFix_keeps ?_
    | refine State.count_keeps ?_ | refine State.Keeps.ite ?_ ?_

theorem State.followStart_keeps {s k start} (h : s.Keeps q)
    (hq : q.Off 0x260f946 := by have h := ‹Keep.Off q _›; exact Keep.sub h (by decide)) :
    (State.followStart s k start).Keeps q := by
  unfold State.followStart
  with_reducible repeat' first | assumption | refine State.placeStart_keeps ?_ | split

theorem State.followFix_keeps {s k m} (h : s.Keeps q)
    (hq : q.Off 0x260f946 := by have h := ‹Keep.Off q _›; exact Keep.sub h (by decide)) :
    (State.followFix s k m).Keeps q := by
  unfold State.followFix
  with_reducible repeat' first
    | assumption | refine fun _ => ?_
    | ((try lift_lets -underBinder); intro x; have hx : x = x := (by unfold x; rfl); clear hx)
    | refine State.setSwath_keeps ?_ | refine State.followStart_keeps ?_ | refine State.Keeps.ite ?_ ?_
    | refine State.Keeps.foldl ?_ ?_

theorem State.nameCutover_keeps {s k t} (h : s.Keeps q)
    (hq : q.Off 0x2203946 := by have h := ‹Keep.Off q _›; exact Keep.sub h (by decide)) :
    (State.nameCutover s k t).Keeps q := by
  unfold State.nameCutover
  with_reducible repeat' first
    | assumption | ((try lift_lets -underBinder); intro x; have hx : x = x := (by unfold x; rfl); clear hx)
    | refine State.tsxSend_keeps ?_ | refine State.setRed_keeps ?_ | refine State.Keeps.ite ?_ ?_

theorem State.nameSwap_keeps {s t} (h : s.Keeps q)
    (hq : q.Off 0x2203946 := by have h := ‹Keep.Off q _›; exact Keep.sub h (by decide)) :
    (State.nameSwap s t).Keeps q := by
  unfold State.nameSwap
  with_reducible repeat' first
    | assumption | ((try lift_lets -underBinder); intro x; have hx : x = x := (by unfold x; rfl); clear hx)
    | refine State.tsxSend_keeps ?_ | refine State.setRed_keeps ?_ | refine State.Keeps.ite ?_ ?_ | split

theorem State.swapFix_keeps {s k t} (h : s.Keeps q)
    (hq : q.Off 0x2203946 := by have h := ‹Keep.Off q _›; exact Keep.sub h (by decide)) :
    (State.swapFix s k t).Keeps q := by
  unfold State.swapFix
  with_reducible repeat' first | assumption | refine State.nameSwap_keeps ?_ | refine State.Keeps.ite ?_ ?_

theorem State.fixStart_keeps {s k f w} (h : s.Keeps q)
    (hq : q.Off 0x260f946 := by have h := ‹Keep.Off q _›; exact Keep.sub h (by decide)) :
    (State.fixStart s k f w).Keeps q := by
  unfold State.fixStart
  with_reducible repeat' first
    | assumption | refine fun _ => ?_
    | ((try lift_lets -underBinder); intro x; refine (fun (_ : State.Keeps q x) => ?_) ?_; on_goal 2 => unfold x)
    | ((try lift_lets -underBinder); intro x; have hx : x = x := (by unfold x; rfl); clear hx)
    | refine State.swapFix_keeps ?_ | refine State.followFix_keeps ?_ | refine State.placeStart_keeps ?_
    | refine State.setSwath_keeps ?_ | refine State.nameCutover_keeps ?_ | refine State.Keeps.foldl ?_ ?_

theorem State.newFrameFix_keeps {s k} (h : s.Keeps q)
    (hq : q.Off 0x260ff46 := by have h := ‹Keep.Off q _›; exact Keep.sub h (by decide)) :
    (State.newFrameFix s k).Keeps q := by
  unfold State.newFrameFix
  with_reducible repeat' first
    | assumption | refine fun _ => ?_
    | ((try lift_lets -underBinder); intro x; have hx : x = x := (by unfold x; rfl); clear hx)
    | refine State.fixStart_keeps ?_ | refine State.atTime_keeps ?_ ?_ | refine State.Keeps.ite ?_ ?_ | split

theorem execNewFrameFix_keeps {k s} (h : s.Keeps q)
    (hq : q.Off 0x260ff46 := by have h := ‹Keep.Off q _›; exact Keep.sub h (by decide)) :
    Kept q (execNewFrameFix k s) := by
  unfold execNewFrameFix
  with_reducible repeat' first | assumption | refine done_keeps ?_ | refine State.newFrameFix_keeps ?_

theorem State.repeatFix_keeps {s k} (h : s.Keeps q)
    (hq : q.Off 0x260ff46 := by have h := ‹Keep.Off q _›; exact Keep.sub h (by decide)) :
    (State.repeatFix s k).Keeps q := by
  unfold State.repeatFix
  with_reducible repeat' first
    | assumption | refine fun _ => ?_
    | ((try lift_lets -underBinder); intro x; have hx : x = x := (by unfold x; rfl); clear hx)
    | refine State.fixStart_keeps ?_ | refine State.atTime_keeps ?_ ?_ | refine State.Keeps.ite ?_ ?_ | split

theorem execRepeatFix_keeps {k s} (h : s.Keeps q)
    (hq : q.Off 0x260ff46 := by have h := ‹Keep.Off q _›; exact Keep.sub h (by decide)) :
    Kept q (execRepeatFix k s) := by
  unfold execRepeatFix
  with_reducible repeat' first | assumption | refine done_keeps ?_ | refine State.repeatFix_keeps ?_

theorem State.dropLaunches_keeps {s k} (h : s.Keeps q)
    (hq : q.Off 0x8000 := by have h := ‹Keep.Off q _›; exact Keep.sub h (by decide)) :
    (State.dropLaunches s k).Keeps q := by
  unfold State.dropLaunches
  with_reducible repeat' first
    | assumption | refine fun _ => ?_ | refine State.setLaunches_keeps ?_ | refine State.Keeps.foldl ?_ ?_

theorem State.cancelStarts_keeps {s k} (h : s.Keeps q)
    (hq : q.Off 0xc006 := by have h := ‹Keep.Off q _›; exact Keep.sub h (by decide)) :
    (State.cancelStarts s k).Keeps q := by
  unfold State.cancelStarts
  with_reducible repeat' first
    | assumption
    | ((try lift_lets -underBinder); intro x; have hx : x = x := (by unfold x; rfl); clear hx; have hy : Option _ := x; clear hy; clear_value x)
    | ((try lift_lets -underBinder); intro x; have hx : x = x := (by unfold x; rfl); clear hx; have hy : List _ := x; clear hy; clear_value x)
    | ((try lift_lets -underBinder); intro x; have hx : x = x := (by unfold x; rfl); clear hx)
    | refine State.nextStartRegs_keeps ?_ | refine State.setSwath_keeps ?_ | refine State.dropLaunches_keeps ?_

theorem State.holdOne_keeps {s k regions master} (h : s.Keeps q)
    (hq : q.Off 0x20c106 := by have h := ‹Keep.Off q _›; exact Keep.sub h (by decide)) :
    (State.holdOne s k regions master).Keeps q := by
  unfold State.holdOne
  with_reducible repeat' first
    | assumption
    | ((try lift_lets -underBinder); intro x; refine (fun (_ : State.Keeps q x) => ?_) ?_; on_goal 2 => unfold x)
    | ((try lift_lets -underBinder); intro x; have hx : x = x := (by unfold x; rfl); clear hx)
    | refine State.cancelStarts_keeps ?_ | refine State.setSwathState_keeps ?_ | refine State.setSwath_keeps ?_

theorem State.masterLeft_keeps {s k} (h : s.Keeps q)
    (hq : q.Off 0x20c106 := by have h := ‹Keep.Off q _›; exact Keep.sub h (by decide)) :
    (State.masterLeft s k).Keeps q := by
  unfold State.masterLeft
  with_reducible repeat' first
    | assumption | refine fun _ => ?_ | refine State.holdOne_keeps ?_ | refine State.Keeps.ite ?_ ?_
    | refine State.Keeps.foldl ?_ ?_

theorem State.enterHolding_keeps {s k regions} (h : s.Keeps q)
    (hq : q.Off 0x60e106 := by have h := ‹Keep.Off q _›; exact Keep.sub h (by decide)) :
    (State.enterHolding s k regions).Keeps q := by
  unfold State.enterHolding
  with_reducible repeat' first
    | assumption | refine State.masterLeft_keeps ?_ | refine State.swathLocks_keeps ?_ | refine State.pinsRefresh_keeps ?_
    | refine State.holdOne_keeps ?_

theorem State.swathHold_keeps {s k} (h : s.Keeps q)
    (hq : q.Off 0x70e78e := by have h := ‹Keep.Off q _›; exact Keep.sub h (by decide)) :
    (State.swathHold s k).Keeps q := by
  unfold State.swathHold
  with_reducible repeat' first
    | assumption | refine fun _ => ?_ | refine State.commitAllIdle_keeps ?_ | refine State.enterHolding_keeps ?_
    | refine State.atTime_keeps ?_ ?_ | refine State.Keeps.ite ?_ ?_ | split

theorem execSwathHold_keeps {k s} (h : s.Keeps q)
    (hq : q.Off 0x70e78e := by have h := ‹Keep.Off q _›; exact Keep.sub h (by decide)) :
    Kept q (execSwathHold k s) := by
  unfold execSwathHold
  with_reducible repeat' first | assumption | refine done_keeps ?_ | refine State.swathHold_keeps ?_

theorem State.enterStopped_keeps {s k} (h : s.Keeps q)
    (hq : q.Off 0x8278f9de := by have h := ‹Keep.Off q _›; exact Keep.sub h (by decide)) :
    (State.enterStopped s k).Keeps q := by
  unfold State.enterStopped
  with_reducible repeat' first
    | assumption | refine fun _ => ?_
    | ((try lift_lets -underBinder); intro x; refine (fun (_ : State.Keeps q x) => ?_) ?_; on_goal 2 => unfold x)
    | ((try lift_lets -underBinder); intro x; have hx : x = x := (by unfold x; rfl); clear hx)
    | refine State.cancelStarts_keeps ?_ | refine State.masterLeft_keeps ?_ | refine State.setSwathState_keeps ?_
    | refine State.swathLocks_keeps ?_ | refine State.cutOutput_keeps ?_ | refine State.pinsRefresh_keeps ?_
    | refine State.flushAtLeave_keeps ?_ | refine State.setSwath_keeps ?_ | refine State.endHold_keeps ?_
    | refine State.commitAllIdle_keeps ?_ | refine State.strStopped_keeps ?_ | refine State.Keeps.ite ?_ ?_
    | refine State.Keeps.foldl ?_ ?_

theorem State.holdLimit_keeps {s k} (h : s.Keeps q)
    (hq : q.Off 0x8278ffde := by have h := ‹Keep.Off q _›; exact Keep.sub h (by decide)) :
    (State.holdLimit s k).Keeps q := by
  unfold State.holdLimit
  with_reducible repeat' first
    | assumption | refine fun _ => ?_ | refine State.enterStopped_keeps ?_ | refine State.setSts_keeps ?_
    | refine State.atTime_keeps ?_ ?_ | refine State.Keeps.ite ?_ ?_ | split

theorem execHoldLimitExpire_keeps {k s} (h : s.Keeps q)
    (hq : q.Off 0x8278ffde := by have h := ‹Keep.Off q _›; exact Keep.sub h (by decide)) :
    Kept q (execHoldLimitExpire k s) := by
  unfold execHoldLimitExpire
  with_reducible repeat' first | assumption | refine done_keeps ?_ | refine State.holdLimit_keeps ?_

theorem State.holdRegion_keeps {s n} (h : s.Keeps q)
    (hq : q.Off 0x60e106 := by have h := ‹Keep.Off q _›; exact Keep.sub h (by decide)) :
    (State.holdRegion s n).Keeps q := by
  unfold State.holdRegion
  with_reducible repeat' first
    | assumption | refine fun _ => ?_
    | ((try lift_lets -underBinder); intro x; refine (fun (_ : State.Keeps q x) => ?_) ?_; on_goal 2 => unfold x)
    | ((try lift_lets -underBinder); intro x; have hx : x = x := (by unfold x; rfl); clear hx)
    | refine State.cancelStarts_keeps ?_ | refine State.setSwath_keeps ?_ | refine State.enterHolding_keeps ?_
    | refine State.Keeps.ite ?_ ?_ | refine State.Keeps.foldl ?_ ?_

theorem State.freeRegion_keeps {s n} (h : s.Keeps q)
    (hq : q.Off 0x4000 := by have h := ‹Keep.Off q _›; exact Keep.sub h (by decide)) :
    (State.freeRegion s n).Keeps q := by
  unfold State.freeRegion
  with_reducible repeat' first
    | assumption | refine fun _ => ?_
    | ((try lift_lets -underBinder); intro x; have hx : x = x := (by unfold x; rfl); clear hx)
    | refine State.setSwath_keeps ?_ | refine State.Keeps.ite ?_ ?_ | refine State.Keeps.foldl ?_ ?_

theorem State.swtCtrlMoved_keeps {s k en} (h : s.Keeps q)
    (hq : q.Off 0x8278f9de := by have h := ‹Keep.Off q _›; exact Keep.sub h (by decide)) :
    (State.swtCtrlMoved s k en).Keeps q := by
  unfold State.swtCtrlMoved
  with_reducible repeat' first
    | assumption
    | ((try lift_lets -underBinder); intro x; refine (fun (_ : State.Keeps q x) => ?_) ?_; on_goal 2 => unfold x)
    | ((try lift_lets -underBinder); intro x; have hx : x = x := (by unfold x; rfl); clear hx)
    | refine State.enterStopped_keeps ?_ | refine State.pinsRefresh_keeps ?_ | refine State.swathRefresh_keeps ?_
    | refine State.setSwath_keeps ?_ | refine State.tryArm_keeps ?_ | refine State.commitAllIdle_keeps ?_
    | refine State.Keeps.ite ?_ ?_

theorem State.swtCtrl_keeps {s k en st} (h : s.Keeps q)
    (hq : q.Off 0x8278f9de := by have h := ‹Keep.Off q _›; exact Keep.sub h (by decide)) :
    (State.swtCtrl s k en st).Keeps q := by
  unfold State.swtCtrl
  with_reducible repeat' first
    | assumption
    | ((try lift_lets -underBinder); intro x; refine (fun (_ : State.Keeps q x) => ?_) ?_; on_goal 2 => unfold x)
    | ((try lift_lets -underBinder); intro x; have hx : x = x := (by unfold x; rfl); clear hx)
    | refine State.swtCtrlMoved_keeps ?_ | refine State.setSwath_keeps ?_ | refine State.Keeps.ite ?_ ?_

theorem State.makeRelease_keeps {s k f} (h : s.Keeps q)
    (hq : q.Off 0x2297956 := by have h := ‹Keep.Off q _›; exact Keep.sub h (by decide)) :
    (State.makeRelease s k f).Keeps q := by
  unfold State.makeRelease
  with_reducible repeat' first
    | assumption
    | ((try lift_lets -underBinder); intro x; refine (fun (_ : State.Keeps q x) => ?_) ?_; on_goal 2 => unfold x)
    | ((try lift_lets -underBinder); intro x; have hx : x = x := (by unfold x; rfl); clear hx)
    | refine State.setNat_keeps ?_ | refine State.launchLists_keeps ?_ | refine State.setSwath_keeps ?_
    | refine State.snapshot_keeps ?_ | refine State.tell_keeps ?_ | refine State.frameReady_keeps ?_
    | refine State.Keeps.ite ?_ ?_

theorem State.doRelease_keeps {s k f} (h : s.Keeps q)
    (hq : q.Off 0x6297956 := by have h := ‹Keep.Off q _›; exact Keep.sub h (by decide)) :
    (State.doRelease s k f).Keeps q := by
  unfold State.doRelease
  with_reducible repeat' first
    | assumption | refine State.makeRelease_keeps ?_ | refine State.mergeAtRelease_keeps ?_
    | refine State.endHold_keeps ?_

theorem State.releaseTold_keeps {s k} (h : s.Keeps q)
    (hq : q.Off 0x6297956 := by have h := ‹Keep.Off q _›; exact Keep.sub h (by decide)) :
    (State.releaseTold s k).Keeps q := by
  unfold State.releaseTold
  with_reducible repeat' first
    | assumption | ((try lift_lets -underBinder); intro x; have hx : x = x := (by unfold x; rfl); clear hx)
    | refine State.makeRelease_keeps ?_ | refine State.holdRelease_keeps ?_ | refine State.setSwath_keeps ?_
    | refine State.endHold_keeps ?_ | refine State.mergeFollow_keeps ?_ | refine State.Keeps.ite ?_ ?_ | split

theorem State.release_keeps {s k} (h : s.Keeps q)
    (hq : q.Off 0x6297f56 := by have h := ‹Keep.Off q _›; exact Keep.sub h (by decide)) :
    (State.release s k).Keeps q := by
  unfold State.release
  with_reducible repeat' first
    | assumption | refine fun _ => ?_
    | ((try lift_lets -underBinder); intro x; have hx : x = x := (by unfold x; rfl); clear hx)
    | refine State.doRelease_keeps ?_ | refine State.holdRelease_keeps ?_ | refine State.releaseTold_keeps ?_
    | refine State.atTime_keeps ?_ ?_ | refine State.Keeps.ite ?_ ?_ | split

theorem State.frameReadyWrite_keeps {s k v} (h : s.Keeps q)
    (hq : q.Off 0x2207946 := by have h := ‹Keep.Off q _›; exact Keep.sub h (by decide)) :
    (State.frameReadyWrite s k v).Keeps q := by
  unfold State.frameReadyWrite
  with_reducible repeat' first
    | assumption | refine State.fault_keeps ?_ | refine State.frameReady_keeps ?_ | refine State.Keeps.ite ?_ ?_ | split

theorem State.beginCrc_keeps {s k g} (h : s.Keeps q)
    (hq : q.Off 0x204106 := by have h := ‹Keep.Off q _›; exact Keep.sub h (by decide)) :
    (State.beginCrc s k g).Keeps q := by
  unfold State.beginCrc
  with_reducible repeat' first
    | assumption
    | ((try lift_lets -underBinder); intro x; refine (fun (_ : State.Keeps q x) => ?_) ?_; on_goal 2 => unfold x)
    | ((try lift_lets -underBinder); intro x; have hx : x = x := (by unfold x; rfl); clear hx)
    | refine State.fault_keeps ?_ | refine State.setSwath_keeps ?_ | refine State.Keeps.ite ?_ ?_

theorem State.rectChecks_keeps {s k r} (h : s.Keeps q)
    (hq : q.Off 0x6 := by have h := ‹Keep.Off q _›; exact Keep.sub h (by decide)) :
    (State.rectChecks s k r).Keeps q := by
  unfold State.rectChecks
  with_reducible repeat' first
    | assumption | ((try lift_lets -underBinder); intro x; have hx : x = x := (by unfold x; rfl); clear hx)
    | refine State.setReg_keeps ?_ | refine State.setShd_keeps ?_

theorem State.rectResult_keeps {s k r} (h : s.Keeps q)
    (hq : q.Off 0x205106 := by have h := ‹Keep.Off q _›; exact Keep.sub h (by decide)) :
    (State.rectResult s k r).Keeps q := by
  unfold State.rectResult
  with_reducible repeat' first
    | assumption
    | ((try lift_lets -underBinder); intro x; refine (fun (_ : State.Keeps q x) => ?_) ?_; on_goal 2 => unfold x)
    | ((try lift_lets -underBinder); intro x; have hx : x = x := (by unfold x; rfl); clear hx)
    | refine State.fault_keeps ?_ | refine State.setReg_keeps ?_ | refine State.setSts_keeps ?_
    | refine State.setBoth_keeps ?_ | refine State.swtEvent_keeps ?_ | refine State.setNat_keeps ?_
    | refine State.setSwath_keeps ?_ | refine State.inc_keeps ?_ | refine State.count_keeps ?_
    | refine State.rectChecks_keeps ?_ | refine State.Keeps.ite ?_ ?_ | split

theorem execRectCrcResult_keeps {k r s} (h : s.Keeps q)
    (hq : q.Off 0x205106 := by have h := ‹Keep.Off q _›; exact Keep.sub h (by decide)) :
    Kept q (execRectCrcResult k r s) := by
  unfold execRectCrcResult
  with_reducible repeat' first | assumption | refine done_keeps ?_ | refine State.rectResult_keeps ?_

theorem State.startRegs_keeps {s k f} (h : s.Keeps q)
    (hq : q.Off 0x201906 := by have h := ‹Keep.Off q _›; exact Keep.sub h (by decide)) :
    (State.startRegs s k f).Keeps q := by
  unfold State.startRegs
  with_reducible repeat' first
    | assumption
    | ((try lift_lets -underBinder); intro x; refine (fun (_ : State.Keeps q x) => ?_) ?_; on_goal 2 => unfold x)
    | ((try lift_lets -underBinder); intro x; have hx : x = x := (by unfold x; rfl); clear hx)
    | refine State.nextStartRegs_keeps ?_ | refine State.sample_keeps ?_ | refine State.setNat_keeps ?_
    | refine State.setTimeRegs_keeps ?_ | refine State.inc_keeps ?_ | refine State.count_keeps ?_

theorem State.passCutover_keeps {s k start} (h : s.Keeps q)
    (hq : q.Off 0x2203946 := by have h := ‹Keep.Off q _›; exact Keep.sub h (by decide)) :
    (State.passCutover s k start).Keeps q := by
  unfold State.passCutover
  with_reducible repeat' first
    | assumption
    | ((try lift_lets -underBinder); intro x; refine (fun (_ : State.Keeps q x) => ?_) ?_; on_goal 2 => unfold x)
    | ((try lift_lets -underBinder); intro x; have hx : x = x := (by unfold x; rfl); clear hx; have hy : List _ := x; clear hy; clear_value x)
    | ((try lift_lets -underBinder); intro x; have hx : x = x := (by unfold x; rfl); clear hx)
    | refine State.sendHardwareImage_keeps ?_ | refine State.setRed_keeps ?_ | refine State.Keeps.ite ?_ ?_

theorem State.makeStart_keeps {s k f} (h : s.Keeps q)
    (hq : q.Off 0x27079de := by have h := ‹Keep.Off q _›; exact Keep.sub h (by decide)) :
    (State.makeStart s k f).Keeps q := by
  unfold State.makeStart
  with_reducible repeat' first
    | assumption
    | ((try lift_lets -underBinder); intro x; refine (fun (_ : State.Keeps q x) => ?_) ?_; on_goal 2 => unfold x)
    | ((try lift_lets -underBinder); intro x; have hx : x = x := (by unfold x; rfl); clear hx)
    | refine State.beginCrc_keeps ?_ | refine State.passCutover_keeps ?_ | refine State.startRegs_keeps ?_
    | refine State.setSwathState_keeps ?_ | refine State.swtEvent_keeps ?_ | refine State.flushAtStart_keeps ?_
    | refine State.swathLocks_keeps ?_ | refine State.pinsRefresh_keeps ?_ | refine State.flushAtLeave_keeps ?_
    | refine State.setSwath_keeps ?_ | refine State.commitStart_keeps ?_ | refine State.digestStart_keeps ?_
    | refine State.Keeps.ite ?_ ?_

theorem State.frameStart_keeps {s k} (h : s.Keeps q)
    (hq : q.Off 0x2707fde := by have h := ‹Keep.Off q _›; exact Keep.sub h (by decide)) :
    (State.frameStart s k).Keeps q := by
  unfold State.frameStart
  with_reducible repeat' first
    | assumption | refine fun _ => ?_ | refine State.makeStart_keeps ?_ | refine State.atTime_keeps ?_ ?_
    | refine State.Keeps.ite ?_ ?_ | split

theorem execFrameStart_keeps {k s} (h : s.Keeps q)
    (hq : q.Off 0x2707fde := by have h := ‹Keep.Off q _›; exact Keep.sub h (by decide)) :
    Kept q (execFrameStart k s) := by
  unfold execFrameStart
  with_reducible repeat' first | assumption | refine done_keeps ?_ | refine State.frameStart_keeps ?_

theorem State.frameOutPulse_keeps {s} (h : s.Keeps q)
    (hq : q.Off 0x20a706 := by have h := ‹Keep.Off q _›; exact Keep.sub h (by decide)) :
    (State.frameOutPulse s).Keeps q := by
  unfold State.frameOutPulse
  with_reducible repeat' first
    | assumption | refine fun _ => ?_
    | ((try lift_lets -underBinder); intro x; refine (fun (_ : State.Keeps q x) => ?_) ?_; on_goal 2 => unfold x)
    | ((try lift_lets -underBinder); intro x; have hx : x = x := (by unfold x; rfl); clear hx)
    | refine State.frameOutMade_keeps ?_ | refine State.synBegin_keeps ?_ | refine State.atTime_keeps ?_ ?_
    | refine State.Keeps.ite ?_ ?_ | split

theorem execFrameOutPulse_keeps {s} (h : s.Keeps q)
    (hq : q.Off 0x20a706 := by have h := ‹Keep.Off q _›; exact Keep.sub h (by decide)) :
    Kept q (execFrameOutPulse s) := by
  unfold execFrameOutPulse
  with_reducible repeat' first | assumption | refine done_keeps ?_ | refine State.frameOutPulse_keeps ?_

end Sys2Proof.Machine
end

