-- ==== Sys2Proof/Laws/KeepsStile.lean ====
section
/-!
SUPPORT. What the operations of Machine/Stile.lean keep.
-/
set_option Elab.async false
namespace Sys2Proof.Machine

variable {q : Keep}

theorem State.scenePx_keeps {s l g j} (h : s.Keeps q)
    (hq : q.Off 0x100010 := by have h := ‹Keep.Off q _›; exact Keep.sub h (by decide)) :
    (State.scenePx s l g j).Keeps q := by
  unfold State.scenePx
  with_reducible repeat' first
    | assumption
    | ((try lift_lets -underBinder); intro x; have hx : x = x := (by unfold x; rfl); clear hx; have hy : List _ := x; clear hy; clear_value x)
    | ((try lift_lets -underBinder); intro x; have hx : x = x := (by unfold x; rfl); clear hx)
    | refine State.setPort_keeps ?_ | refine State.setBytes_keeps ?_ | refine State.Keeps.ite ?_ ?_

theorem State.sceneDmx_keeps {s l g j} (h : s.Keeps q)
    (hq : q.Off 0x100000 := by have h := ‹Keep.Off q _›; exact Keep.sub h (by decide)) :
    (State.sceneDmx s l g j).Keeps q := by
  unfold State.sceneDmx
  with_reducible repeat' first
    | assumption | ((try lift_lets -underBinder); intro x; have hx : x = x := (by unfold x; rfl); clear hx)
    | refine State.setPort_keeps ?_ | refine State.Keeps.ite ?_ ?_

theorem State.sceneLcl_keeps {s l g n} (h : s.Keeps q)
    (hq : q.Off 0x100000 := by have h := ‹Keep.Off q _›; exact Keep.sub h (by decide)) :
    (State.sceneLcl s l g n).Keeps q := by
  unfold State.sceneLcl
  with_reducible repeat' first
    | assumption
    | ((try lift_lets -underBinder); intro x; have hx : x = x := (by unfold x; rfl); clear hx; have hy : List _ := x; clear hy; clear_value x)
    | ((try lift_lets -underBinder); intro x; have hx : x = x := (by unfold x; rfl); clear hx)
    | refine State.setPort_keeps ?_

theorem State.showScene_keeps {s k g} (h : s.Keeps q)
    (hq : q.Off 0x2100010 := by have h := ‹Keep.Off q _›; exact Keep.sub h (by decide)) :
    (State.showScene s k g).Keeps q := by
  unfold State.showScene
  with_reducible repeat' first
    | assumption | refine fun _ => ?_
    | ((try lift_lets -underBinder); intro x; refine (fun (_ : State.Keeps q x) => ?_) ?_; on_goal 2 => unfold x)
    | ((try lift_lets -underBinder); intro x; have hx : x = x := (by unfold x; rfl); clear hx; have hy : List _ := x; clear hy; clear_value x)
    | ((try lift_lets -underBinder); intro x; have hx : x = x := (by unfold x; rfl); clear hx)
    | refine State.scenePx_keeps ?_ | refine State.sceneDmx_keeps ?_ | refine State.setRed_keeps ?_
    | refine State.sceneLcl_keeps ?_ | refine State.Keeps.foldl ?_ ?_

theorem State.fallbackSwath_keeps {s k} (h : s.Keeps q)
    (hq : q.Off 0x210c016 := by have h := ‹Keep.Off q _›; exact Keep.sub h (by decide)) :
    (State.fallbackSwath s k).Keeps q := by
  unfold State.fallbackSwath
  with_reducible repeat' first
    | assumption
    | ((try lift_lets -underBinder); intro x; refine (fun (_ : State.Keeps q x) => ?_) ?_; on_goal 2 => unfold x)
    | ((try lift_lets -underBinder); intro x; have hx : x = x := (by unfold x; rfl); clear hx)
    | refine State.cancelStarts_keeps ?_ | refine State.setSwath_keeps ?_ | refine State.showScene_keeps ?_
    | refine State.Keeps.ite ?_ ?_

theorem State.enterFallback_keeps {s} (h : s.Keeps q)
    (hq : q.Off 0x210c016 := by have h := ‹Keep.Off q _›; exact Keep.sub h (by decide)) :
    (State.enterFallback s).Keeps q := by
  unfold State.enterFallback
  with_reducible repeat' first
    | assumption | refine fun _ => ?_ | refine State.setSts_keeps ?_ | refine State.fallbackSwath_keeps ?_
    | refine State.Keeps.foldl ?_ ?_

theorem State.fallbackEnd_keeps {s} (h : s.Keeps q)
    (hq : q.Off 0x2004006 := by have h := ‹Keep.Off q _›; exact Keep.sub h (by decide)) :
    (State.fallbackEnd s).Keeps q := by
  unfold State.fallbackEnd
  with_reducible repeat' first
    | assumption | refine fun _ => ?_
    | ((try lift_lets -underBinder); intro x; refine (fun (_ : State.Keeps q x) => ?_) ?_; on_goal 2 => unfold x)
    | ((try lift_lets -underBinder); intro x; have hx : x = x := (by unfold x; rfl); clear hx)
    | refine State.setSts_keeps ?_ | refine State.setSwath_keeps ?_ | refine State.setRed_keeps ?_
    | refine State.Keeps.foldl ?_ ?_

theorem State.roleOutputs_keeps {s lost} (h : s.Keeps q)
    (hq : q.Off 0x3303946 := by have h := ‹Keep.Off q _›; exact Keep.sub h (by decide)) :
    (State.roleOutputs s lost).Keeps q := by
  unfold State.roleOutputs
  with_reducible repeat' first
    | assumption | refine fun _ => ?_
    | ((try lift_lets -underBinder); intro x; refine (fun (_ : State.Keeps q x) => ?_) ?_; on_goal 2 => unfold x)
    | ((try lift_lets -underBinder); intro x; have hx : x = x := (by unfold x; rfl); clear hx)
    | refine State.setField_keeps ?_ | refine State.pxSampling_keeps ?_ | refine State.rdmAbort_keeps ?_
    | refine State.Keeps.ite ?_ ?_ | refine State.Keeps.foldl ?_ ?_

theorem State.roleSource_keeps {s} (h : s.Keeps q)
    (hq : q.Off 0x204306 := by have h := ‹Keep.Off q _›; exact Keep.sub h (by decide)) :
    (State.roleSource s).Keeps q := by
  unfold State.roleSource
  with_reducible repeat' first
    | assumption | ((try lift_lets -underBinder); intro x; have hx : x = x := (by unfold x; rfl); clear hx)
    | refine State.setReg_keeps ?_ | refine State.tlnCommitted_keeps ?_ | refine State.setShd_keeps ?_
    | refine State.alignRefresh_keeps ?_ | refine State.Keeps.ite ?_ ?_

theorem State.setRails_keeps {s r} (h : s.Keeps q)
    (hq : q.Off 0x3707b46 := by have h := ‹Keep.Off q _›; exact Keep.sub h (by decide)) :
    (State.setRails s r).Keeps q := by
  unfold State.setRails
  with_reducible repeat' first
    | assumption
    | ((try lift_lets -underBinder); intro x; refine (fun (_ : State.Keeps q x) => ?_) ?_; on_goal 2 => unfold x)
    | ((try lift_lets -underBinder); intro x; have hx : x = x := (by unfold x; rfl); clear hx) | refine State.irq_keeps ?_
    | refine State.setSts_keeps ?_ | refine State.roleOutputs_keeps ?_ | refine State.roleSource_keeps ?_
    | refine State.trigger_keeps ?_ | refine State.setFld_keeps ?_ | refine State.syncRefresh_keeps ?_
    | refine State.pinsRefresh_keeps ?_ | refine State.setRed_keeps ?_ | refine State.count_keeps ?_
    | refine State.Keeps.ite ?_ ?_

theorem State.releaseStile_keeps {s} (h : s.Keeps q)
    (hq : q.Off 0x3707b46 := by have h := ‹Keep.Off q _›; exact Keep.sub h (by decide)) :
    (State.releaseStile s).Keeps q := by
  unfold State.releaseStile
  with_reducible repeat' first
    | assumption | ((try lift_lets -underBinder); intro x; have hx : x = x := (by unfold x; rfl); clear hx)
    | refine State.setRails_keeps ?_ | refine State.Keeps.ite ?_ ?_

theorem State.swapDone_keeps {s} (h : s.Keeps q)
    (hq : q.Off 0x2201106 := by have h := ‹Keep.Off q _›; exact Keep.sub h (by decide)) :
    (State.swapDone s).Keeps q := by
  unfold State.swapDone
  with_reducible repeat' first
    | assumption
    | ((try lift_lets -underBinder); intro x; refine (fun (_ : State.Keeps q x) => ?_) ?_; on_goal 2 => unfold x)
    | ((try lift_lets -underBinder); intro x; have hx : x = x := (by unfold x; rfl); clear hx) | refine State.irq_keeps ?_
    | refine State.setSts_keeps ?_ | refine State.inc_keeps ?_ | refine State.setRed_keeps ?_
    | refine State.count_keeps ?_

theorem State.peerFall_keeps {s} (h : s.Keeps q)
    (hq : q.Off 0x3707b46 := by have h := ‹Keep.Off q _›; exact Keep.sub h (by decide)) :
    (State.peerFall s).Keeps q := by
  unfold State.peerFall
  with_reducible repeat' first
    | assumption
    | ((try lift_lets -underBinder); intro x; refine (fun (_ : State.Keeps q x) => ?_) ?_; on_goal 2 => unfold x)
    | ((try lift_lets -underBinder); intro x; have hx : x = x := (by unfold x; rfl); clear hx)
    | refine State.setSync_keeps ?_ | refine State.setRails_keeps ?_ | refine State.swapDone_keeps ?_
    | refine State.setRed_keeps ?_ | refine State.Keeps.ite ?_ ?_

theorem execPeerRailFall_keeps {s} (h : s.Keeps q)
    (hq : q.Off 0x3707b46 := by have h := ‹Keep.Off q _›; exact Keep.sub h (by decide)) :
    Kept q (execPeerRailFall s) := by
  unfold execPeerRailFall
  with_reducible repeat' first | assumption | refine done_keeps ?_ | refine State.peerFall_keeps ?_

theorem State.peerRise_keeps {s} (h : s.Keeps q)
    (hq : q.Off 0x3707b46 := by have h := ‹Keep.Off q _›; exact Keep.sub h (by decide)) :
    (State.peerRise s).Keeps q := by
  unfold State.peerRise
  with_reducible repeat' first
    | assumption
    | ((try lift_lets -underBinder); intro x; refine (fun (_ : State.Keeps q x) => ?_) ?_; on_goal 2 => unfold x)
    | ((try lift_lets -underBinder); intro x; have hx : x = x := (by unfold x; rfl); clear hx)
    | refine State.setSync_keeps ?_ | refine State.setRails_keeps ?_ | refine State.Keeps.ite ?_ ?_

theorem execPeerRailRise_keeps {s} (h : s.Keeps q)
    (hq : q.Off 0x3707b46 := by have h := ‹Keep.Off q _›; exact Keep.sub h (by decide)) :
    Kept q (execPeerRailRise s) := by
  unfold execPeerRailRise
  with_reducible repeat' first | assumption | refine done_keeps ?_ | refine State.peerRise_keeps ?_

theorem State.holdoffClaim_keeps {s} (h : s.Keeps q)
    (hq : q.Off 0x3707f46 := by have h := ‹Keep.Off q _›; exact Keep.sub h (by decide)) :
    (State.holdoffClaim s).Keeps q := by
  unfold State.holdoffClaim
  with_reducible repeat' first
    | assumption | refine fun _ => ?_
    | ((try lift_lets -underBinder); intro x; have hx : x = x := (by unfold x; rfl); clear hx)
    | refine State.setRails_keeps ?_ | refine State.atTime_keeps ?_ ?_ | refine State.Keeps.ite ?_ ?_

theorem execHoldoffClaim_keeps {s} (h : s.Keeps q)
    (hq : q.Off 0x3707f46 := by have h := ‹Keep.Off q _›; exact Keep.sub h (by decide)) :
    Kept q (execHoldoffClaim s) := by
  unfold execHoldoffClaim
  with_reducible repeat' first | assumption | refine done_keeps ?_ | refine State.holdoffClaim_keeps ?_

theorem State.coldTakeover_keeps {s} (h : s.Keeps q)
    (hq : q.Off 0x230d956 := by have h := ‹Keep.Off q _›; exact Keep.sub h (by decide)) :
    (State.coldTakeover s).Keeps q := by
  unfold State.coldTakeover
  with_reducible repeat' first
    | assumption | refine State.fault_keeps ?_ | refine State.trigger_keeps ?_ | refine State.inc_keeps ?_
    | refine State.enterFallback_keeps ?_

theorem State.holdoffConfirm_keeps {s} (h : s.Keeps q)
    (hq : q.Off 0x370ff56 := by have h := ‹Keep.Off q _›; exact Keep.sub h (by decide)) :
    (State.holdoffConfirm s).Keeps q := by
  unfold State.holdoffConfirm
  with_reducible repeat' first
    | assumption | refine fun _ => ?_
    | ((try lift_lets -underBinder); intro x; refine (fun (_ : State.Keeps q x) => ?_) ?_; on_goal 2 => unfold x)
    | ((try lift_lets -underBinder); intro x; have hx : x = x := (by unfold x; rfl); clear hx)
    | refine State.setRails_keeps ?_ | refine State.coldTakeover_keeps ?_ | refine State.atTime_keeps ?_ ?_
    | refine State.Keeps.ite ?_ ?_

theorem execHoldoffConfirm_keeps {s} (h : s.Keeps q)
    (hq : q.Off 0x370ff56 := by have h := ‹Keep.Off q _›; exact Keep.sub h (by decide)) :
    Kept q (execHoldoffConfirm s) := by
  unfold execHoldoffConfirm
  with_reducible repeat' first | assumption | refine done_keeps ?_ | refine State.holdoffConfirm_keeps ?_

theorem State.stileConflict_keeps {s} (h : s.Keeps q)
    (hq : q.Off 0x3707b46 := by have h := ‹Keep.Off q _›; exact Keep.sub h (by decide)) :
    (State.stileConflict s).Keeps q := by
  unfold State.stileConflict
  with_reducible repeat' first
    | assumption | refine State.fault_keeps ?_ | refine State.releaseStile_keeps ?_ | refine State.trigger_keeps ?_
    | refine State.inc_keeps ?_ | refine State.Keeps.ite ?_ ?_

theorem execStileConflict_keeps {s} (h : s.Keeps q)
    (hq : q.Off 0x3707b46 := by have h := ‹Keep.Off q _›; exact Keep.sub h (by decide)) :
    Kept q (execStileConflict s) := by
  unfold execStileConflict
  with_reducible repeat' first | assumption | refine done_keeps ?_ | refine State.stileConflict_keeps ?_

theorem State.stileMismatch_keeps {s} (h : s.Keeps q)
    (hq : q.Off 0x200106 := by have h := ‹Keep.Off q _›; exact Keep.sub h (by decide)) :
    (State.stileMismatch s).Keeps q := by
  unfold State.stileMismatch
  with_reducible repeat' first
    | assumption | refine State.fault_keeps ?_ | refine State.Keeps.ite ?_ ?_ | split

theorem execStileMismatchTimeout_keeps {s} (h : s.Keeps q)
    (hq : q.Off 0x200106 := by have h := ‹Keep.Off q _›; exact Keep.sub h (by decide)) :
    Kept q (execStileMismatchTimeout s) := by
  unfold execStileMismatchTimeout
  with_reducible repeat' first | assumption | refine done_keeps ?_ | refine State.stileMismatch_keeps ?_

theorem State.claimChanged_keeps {s was} (h : s.Keeps q)
    (hq : q.Off 0x3707b46 := by have h := ‹Keep.Off q _›; exact Keep.sub h (by decide)) :
    (State.claimChanged s was).Keeps q := by
  unfold State.claimChanged
  with_reducible repeat' first
    | assumption | ((try lift_lets -underBinder); intro x; have hx : x = x := (by unfold x; rfl); clear hx)
    | refine State.releaseStile_keeps ?_ | refine State.setRed_keeps ?_ | refine State.Keeps.ite ?_ ?_

end Sys2Proof.Machine
end

