-- ==== Sys2Proof/Laws/KeepsFence.lean ====
section
/-!
SUPPORT. What the operations of Machine/Fence.lean keep.
-/
set_option Elab.async false
namespace Sys2Proof.Machine

variable {q : Keep}

theorem State.recordFault_keeps {s level page} (h : s.Keeps q)
    (hq : q.Off 0x201946 := by have h := ‹Keep.Off q _›; exact Keep.sub h (by decide)) :
    (State.recordFault s level page).Keeps q := by
  unfold State.recordFault
  with_reducible repeat' first
    | assumption | ((try lift_lets -underBinder); intro x; have hx : x = x := (by unfold x; rfl); clear hx)
    | refine State.trigger_keeps ?_

theorem State.beginContain_keeps {s level inst} (h : s.Keeps q)
    (hq : q.Off 0x80 := by have h := ‹Keep.Off q _›; exact Keep.sub h (by decide)) :
    (State.beginContain s level inst).Keeps q := by
  unfold State.beginContain
  with_reducible repeat' first
    | assumption | ((try lift_lets -underBinder); intro x; have hx : x = x := (by unfold x; rfl); clear hx)
    | fail_if_no_progress (refine State.Keeps.upd ?_ rfl rfl rfl rfl)

theorem State.clearPlu_keeps {s k} (h : s.Keeps q)
    (hq : q.Off 0x40000 := by have h := ‹Keep.Off q _›; exact Keep.sub h (by decide)) :
    (State.clearPlu s k).Keeps q := by
  unfold State.clearPlu
  with_reducible repeat' first
    | assumption | ((try lift_lets -underBinder); intro x; have hx : x = x := (by unfold x; rfl); clear hx)
    | refine State.setPlu_keeps ?_

theorem State.returnJobs_keeps {s i} (h : s.Keeps q)
    (hq : q.Off 0x23c79d6 := by have h := ‹Keep.Off q _›; exact Keep.sub h (by decide)) :
    (State.returnJobs s i).Keeps q := by
  unfold State.returnJobs
  with_reducible repeat' first
    | assumption
    | ((try lift_lets -underBinder); intro x; refine (fun (_ : State.Keeps q x) => ?_) ?_; on_goal 2 => unfold x)
    | refine State.clearPlu_keeps ?_ | refine State.handBackAll_keeps ?_ | refine State.Keeps.ite ?_ ?_

theorem State.abandonCore_keeps {s c} (h : s.Keeps q)
    (hq : q.Off 0x80080 := by have h := ‹Keep.Off q _›; exact Keep.sub h (by decide)) :
    (State.abandonCore s c).Keeps q := by
  unfold State.abandonCore
  with_reducible repeat' first
    | assumption | refine fun _ => ?_
    | ((try lift_lets -underBinder); intro x; have hx : x = x := (by unfold x; rfl); clear hx)
    | refine State.threadReady_keeps ?_ | refine State.Keeps.ite ?_ ?_ | refine State.Keeps.foldl ?_ ?_

theorem State.holdPins_keeps {s i} (h : s.Keeps q)
    (hq : q.Off 0x1382080 := by have h := ‹Keep.Off q _›; exact Keep.sub h (by decide)) :
    (State.holdPins s i).Keeps q := by
  unfold State.holdPins
  with_reducible repeat' first
    | assumption
    | ((try lift_lets -underBinder); intro x; refine (fun (_ : State.Keeps q x) => ?_) ?_; on_goal 2 => unfold x)
    | ((try lift_lets -underBinder); intro x; have hx : x = x := (by unfold x; rfl); clear hx)
    | refine State.abandonCore_keeps ?_ | refine State.setPort_keeps ?_ | refine State.setField_keeps ?_
    | refine State.pxHold_keeps ?_ | refine State.dmxCut_keeps ?_ | refine State.gateOff_keeps ?_
    | refine State.rdmCut_keeps ?_ | split

theorem State.fenceGroup_keeps {s g} (h : s.Keeps q)
    (hq : q.Off 0x200106 := by have h := ‹Keep.Off q _›; exact Keep.sub h (by decide)) :
    (State.fenceGroup s g).Keeps q := by
  unfold State.fenceGroup
  with_reducible repeat' first
    | assumption | refine fun _ => ?_ | refine State.fencePage_keeps ?_ | refine State.setPageState_keeps ?_
    | refine State.Keeps.foldl ?_ ?_ | split

theorem State.fenceUnit_keeps {s g} (h : s.Keeps q)
    (hq : q.Off 0x33c79d6 := by have h := ‹Keep.Off q _›; exact Keep.sub h (by decide)) :
    (State.fenceUnit s g).Keeps q := by
  unfold State.fenceUnit
  with_reducible repeat' first
    | assumption | refine State.recordFault_keeps ?_ | refine State.holdPins_keeps ?_ | refine State.returnJobs_keeps ?_
    | refine State.beginContain_keeps ?_ | refine State.fenceGroup_keeps ?_ | split

theorem State.fenceCluster_keeps {s g} (h : s.Keeps q)
    (hq : q.Off 0x23c79d6 := by have h := ‹Keep.Off q _›; exact Keep.sub h (by decide)) :
    (State.fenceCluster s g).Keeps q := by
  unfold State.fenceCluster
  with_reducible repeat' first
    | assumption
    | ((try lift_lets -underBinder); intro x; refine (fun (_ : State.Keeps q x) => ?_) ?_; on_goal 2 => unfold x)
    | refine State.recordFault_keeps ?_ | refine State.returnJobs_keeps ?_ | refine State.beginContain_keeps ?_
    | refine State.fenceGroup_keeps ?_ | split

theorem State.fenceRegion_keeps {s n page} (h : s.Keeps q)
    (hq : q.Off 0x60f9c6 := by have h := ‹Keep.Off q _›; exact Keep.sub h (by decide)) :
    (State.fenceRegion s n page).Keeps q := by
  unfold State.fenceRegion
  with_reducible repeat' first
    | assumption
    | ((try lift_lets -underBinder); intro x; refine (fun (_ : State.Keeps q x) => ?_) ?_; on_goal 2 => unfold x)
    | ((try lift_lets -underBinder); intro x; have hx : x = x := (by unfold x; rfl); clear hx)
    | refine State.holdRegion_keeps ?_ | refine State.recordFault_keeps ?_ | refine State.beginContain_keeps ?_
    | refine State.fenceGroup_keeps ?_ | fail_if_no_progress (refine State.Keeps.upd ?_ rfl rfl rfl rfl)

theorem State.openDie_keeps {s} (h : s.Keeps q)
    (hq : q.Off 0x3707bc6 := by have h := ‹Keep.Off q _›; exact Keep.sub h (by decide)) :
    (State.openDie s).Keeps q := by
  unfold State.openDie
  with_reducible repeat' first
    | assumption | ((try lift_lets -underBinder); intro x; have hx : x = x := (by unfold x; rfl); clear hx)
    | refine State.releaseStile_keeps ?_ | refine State.pinsRefresh_keeps ?_
    | fail_if_no_progress (refine State.Keeps.upd ?_ rfl rfl rfl rfl)

theorem State.fenceDie_keeps {s page} (h : s.Keeps q)
    (hq : q.Off 0x3707bc6 := by have h := ‹Keep.Off q _›; exact Keep.sub h (by decide)) :
    (State.fenceDie s page).Keeps q := by
  unfold State.fenceDie
  with_reducible repeat' first
    | assumption | refine State.recordFault_keeps ?_ | refine State.pinsRefresh_keeps ?_ | refine State.openDie_keeps ?_

theorem State.fencePackage_keeps {s page} (h : s.Keeps q)
    (hq : q.Off 0x3707bc6 := by have h := ‹Keep.Off q _›; exact Keep.sub h (by decide)) :
    (State.fencePackage s page).Keeps q := by
  unfold State.fencePackage
  with_reducible repeat' first
    | assumption
    | ((try lift_lets -underBinder); intro x; refine (fun (_ : State.Keeps q x) => ?_) ?_; on_goal 2 => unfold x)
    | ((try lift_lets -underBinder); intro x; have hx : x = x := (by unfold x; rfl); clear hx)
    | refine State.releaseStile_keeps ?_ | refine State.recordFault_keeps ?_ | refine State.pinsRefresh_keeps ?_
    | fail_if_no_progress (refine State.Keeps.upd ?_ rfl rfl rfl rfl)

theorem State.fenceSystem_keeps {s page} (h : s.Keeps q)
    (hq : q.Off 0x3707b46 := by have h := ‹Keep.Off q _›; exact Keep.sub h (by decide)) :
    (State.fenceSystem s page).Keeps q := by
  unfold State.fenceSystem
  with_reducible repeat' first
    | assumption | refine State.releaseStile_keeps ?_ | refine State.recordFault_keeps ?_
    | refine State.pinsRefresh_keeps ?_ | refine State.fenceGroup_keeps ?_

theorem State.fencePageLevel_keeps {s page} (h : s.Keeps q)
    (hq : q.Off 0x37cfbd6 := by have h := ‹Keep.Off q _›; exact Keep.sub h (by decide)) :
    (State.fencePageLevel s page).Keeps q := by
  unfold State.fencePageLevel
  with_reducible repeat' first
    | assumption | refine State.fenceUnit_keeps ?_ | refine State.fenceSystem_keeps ?_ | refine State.fenceDie_keeps ?_
    | refine State.fenceRegion_keeps ?_ | refine State.returnJobs_keeps ?_ | refine State.pinsRefresh_keeps ?_
    | refine State.fenceCluster_keeps ?_ | refine State.fenceGroup_keeps ?_ | split

theorem State.containLate_keeps {s level inst} (h : s.Keeps q)
    (hq : q.Off 0x37cfbd6 := by have h := ‹Keep.Off q _›; exact Keep.sub h (by decide)) :
    (State.containLate s level inst).Keeps q := by
  unfold State.containLate
  with_reducible repeat' first
    | assumption
    | ((try lift_lets -underBinder); intro x; refine (fun (_ : State.Keeps q x) => ?_) ?_; on_goal 2 => unfold x)
    | ((try lift_lets -underBinder); intro x; have hx : x = x := (by unfold x; rfl); clear hx)
    | refine State.fenceDie_keeps ?_ | refine State.fenceRegion_keeps ?_ | refine State.pinsRefresh_keeps ?_
    | refine State.fenceCluster_keeps ?_ | refine State.Keeps.ite ?_ ?_
    | fail_if_no_progress (refine State.Keeps.upd ?_ rfl rfl rfl rfl) | split

theorem execContainmentTimeout_keeps {level inst s} (h : s.Keeps q)
    (hq : q.Off 0x37cfbd6 := by have h := ‹Keep.Off q _›; exact Keep.sub h (by decide)) :
    Kept q (execContainmentTimeout level inst s) := by
  unfold execContainmentTimeout
  with_reducible repeat' first | assumption | refine done_keeps ?_ | refine State.containLate_keeps ?_

theorem State.maskedFault_keeps {s page} (h : s.Keeps q)
    (hq : q.Off 0x201946 := by have h := ‹Keep.Off q _›; exact Keep.sub h (by decide)) :
    (State.maskedFault s page).Keeps q := by
  unfold State.maskedFault
  with_reducible repeat' first | assumption | refine State.recordFault_keeps ?_ | split

theorem execParityError_keeps {page masked s} (h : s.Keeps q)
    (hq : q.Off 0x37cfbd6 := by have h := ‹Keep.Off q _›; exact Keep.sub h (by decide)) :
    Kept q (execParityError page masked s) := by
  unfold execParityError
  with_reducible repeat' first
    | assumption | refine done_keeps ?_ | refine State.fault_keeps ?_ | refine State.fencePageLevel_keeps ?_
    | refine State.maskedFault_keeps ?_ | refine State.Keeps.ite ?_ ?_

theorem execDieFault_keeps {s} (h : s.Keeps q)
    (hq : q.Off 0x3707bc6 := by have h := ‹Keep.Off q _›; exact Keep.sub h (by decide)) : Kept q (execDieFault s) := by
  unfold execDieFault
  with_reducible repeat' first | assumption | refine done_keeps ?_ | refine State.fenceDie_keeps ?_

end Sys2Proof.Machine
end

