-- ==== Sys2Proof/Laws/KeepsJobRun.lean ====
section
/-!
SUPPORT. What the operations of Machine/JobRun.lean keep.
-/
set_option Elab.async false
namespace Sys2Proof.Machine

variable {q : Keep}

theorem State.give_keeps {s n e j} (h : s.Keeps q)
    (hq : q.Off 0x281186 := by have h := ‹Keep.Off q _›; exact Keep.sub h (by decide)) :
    (State.give s n e j).Keeps q := by
  unfold State.give
  with_reducible repeat' first
    | assumption
    | ((try lift_lets -underBinder); intro x; refine (fun (_ : State.Keeps q x) => ?_) ?_; on_goal 2 => unfold x)
    | ((try lift_lets -underBinder); intro x; have hx : x = x := (by unfold x; rfl); clear hx)
    | refine State.count_keeps ?_ | refine State.modRegion_keeps ?_ | refine State.Keeps.ite ?_ ?_
    | fail_if_no_progress (refine State.Keeps.upd ?_ rfl rfl rfl rfl)

theorem State.dispatch_keeps {s n cls} (h : s.Keeps q)
    (hq : q.Off 0x23879d6 := by have h := ‹Keep.Off q _›; exact Keep.sub h (by decide)) :
    (State.dispatch s n cls).Keeps q := by
  unfold State.dispatch
  with_reducible repeat' first
    | assumption | refine State.give_keeps ?_ | refine State.complete_keeps ?_ | refine State.Keeps.ite ?_ ?_ | split

theorem execJobDispatch_keeps {n cls s} (h : s.Keeps q)
    (hq : q.Off 0x23879d6 := by have h := ‹Keep.Off q _›; exact Keep.sub h (by decide)) :
    Kept q (execJobDispatch n cls s) := by
  unfold execJobDispatch
  with_reducible repeat' first | assumption | refine done_keeps ?_ | refine State.dispatch_keeps ?_

theorem State.pluLatency_keeps {s k cycles} (h : s.Keeps q)
    (hq : q.Off 0x40006 := by have h := ‹Keep.Off q _›; exact Keep.sub h (by decide)) :
    (State.pluLatency s k cycles).Keeps q := by
  unfold State.pluLatency
  with_reducible repeat' first
    | assumption | ((try lift_lets -underBinder); intro x; have hx : x = x := (by unfold x; rfl); clear hx)
    | refine State.setPlu_keeps ?_ | refine State.setNat_keeps ?_ | refine State.Keeps.ite ?_ ?_

theorem State.pluFinish_keeps {s : State} {k j} (h : s.Keeps q) (hq : q.Off 0x241106 := by have h := ‹Keep.Off q _›; exact Keep.sub h (by decide)) :
    ∀ out, s.pluFinish k j = some out → out.1.Keeps q := by
  intro out ho
  unfold State.pluFinish at ho
  split at ho
  · split at ho
    · cases ho; exact State.count_keeps (State.count_keeps (State.clearPlu_keeps h))
    · dsimp only at ho
      split at ho
      · cases ho
      · cases ho; exact State.count_keeps (State.count_keeps (State.clearPlu_keeps h))
  · cases ho; exact State.count_keeps (State.fixRun_keeps h)

theorem State.fillRun_keeps {s j} (h : s.Keeps q)
    (hq : q.Off 0x300116 := by have h := ‹Keep.Off q _›; exact Keep.sub h (by decide)) :
    (State.fillRun s j).1.Keeps q := by
  unfold State.fillRun
  with_reducible repeat' first
    | assumption | ((try lift_lets -underBinder); intro x; have hx : x = x := (by unfold x; rfl); clear hx)
    | refine State.dmxFill_keeps ?_ | refine State.fldFill_keeps ?_ | refine State.lclFill_keeps ?_
    | refine State.pxFill_keeps ?_ | split

theorem State.finishJob_keeps {s n e cycles} (h : s.Keeps q)
    (hq : q.Off 0x23c79d6 := by have h := ‹Keep.Off q _›; exact Keep.sub h (by decide)) :
    (State.finishJob s n e cycles).Keeps q := by
  unfold State.finishJob
  with_reducible repeat' first
    | assumption
    | ((try lift_lets -underBinder); intro x; refine (fun (_ : State.Keeps q x.1) => ?_) ?_; on_goal 2 => unfold x)
    | refine State.strPack_keeps ?_ | refine (State.pluFinish_keeps ?_) _ (by assumption) | refine State.complete_keeps ?_
    | refine State.fillRun_keeps ?_ | refine State.count_keeps ?_ | refine State.pluLatency_keeps ?_
    | refine State.Keeps.ite ?_ ?_ | split

theorem execJobComplete_keeps {n executor cycles s} (h : s.Keeps q)
    (hq : q.Off 0x23c79d6 := by have h := ‹Keep.Off q _›; exact Keep.sub h (by decide)) :
    Kept q (execJobComplete n executor cycles s) := by
  unfold execJobComplete
  with_reducible repeat' first | assumption | refine done_keeps ?_ | refine State.finishJob_keeps ?_

theorem State.retireNext_keeps {s n dom} (h : s.Keeps q)
    (hq : q.Off 0x23879d6 := by have h := ‹Keep.Off q _›; exact Keep.sub h (by decide)) :
    (State.retireNext s n dom).Keeps q := by
  unfold State.retireNext
  with_reducible repeat' first | assumption | refine State.retire_keeps ?_ | split

theorem execJobRetire_keeps {n dom s} (h : s.Keeps q)
    (hq : q.Off 0x23879d6 := by have h := ‹Keep.Off q _›; exact Keep.sub h (by decide)) :
    Kept q (execJobRetire n dom s) := by
  unfold execJobRetire
  with_reducible repeat' first | assumption | refine done_keeps ?_ | refine State.retireNext_keeps ?_

theorem State.timeoutJob_keeps {s n e} (h : s.Keeps q)
    (hq : q.Off 0x37cfbd6 := by have h := ‹Keep.Off q _›; exact Keep.sub h (by decide)) :
    (State.timeoutJob s n e).Keeps q := by
  unfold State.timeoutJob
  with_reducible repeat' first
    | assumption
    | ((try lift_lets -underBinder); intro x; refine (fun (_ : State.Keeps q x) => ?_) ?_; on_goal 2 => unfold x)
    | refine State.fault_keeps ?_ | refine State.fencePageLevel_keeps ?_ | refine State.recordFault_keeps ?_
    | refine State.handBackAll_keeps ?_ | refine State.Keeps.ite ?_ ?_ | split

theorem execJobTimeout_keeps {n executor s} (h : s.Keeps q)
    (hq : q.Off 0x37cfbd6 := by have h := ‹Keep.Off q _›; exact Keep.sub h (by decide)) :
    Kept q (execJobTimeout n executor s) := by
  unfold execJobTimeout
  with_reducible repeat' first | assumption | refine done_keeps ?_ | refine State.timeoutJob_keeps ?_

theorem State.stallOrder_keeps {s n dom} (h : s.Keeps q)
    (hq : q.Off 0x280106 := by have h := ‹Keep.Off q _›; exact Keep.sub h (by decide)) :
    (State.stallOrder s n dom).Keeps q := by
  unfold State.stallOrder
  with_reducible repeat' first
    | assumption | ((try lift_lets -underBinder); intro x; have hx : x = x := (by unfold x; rfl); clear hx)
    | refine State.setDomain_keeps ?_ | refine State.fault_keeps ?_ | refine State.Keeps.ite ?_ ?_

theorem execOrderStall_keeps {n dom s} (h : s.Keeps q)
    (hq : q.Off 0x280106 := by have h := ‹Keep.Off q _›; exact Keep.sub h (by decide)) :
    Kept q (execOrderStall n dom s) := by
  unfold execOrderStall
  with_reducible repeat' first | assumption | refine done_keeps ?_ | refine State.stallOrder_keeps ?_

theorem State.setLagging_keeps {s k b} (h : s.Keeps q)
    (hq : q.Off 0x201106 := by have h := ‹Keep.Off q _›; exact Keep.sub h (by decide)) :
    (State.setLagging s k b).Keeps q := by
  unfold State.setLagging
  with_reducible repeat' first
    | assumption
    | ((try lift_lets -underBinder); intro x; refine (fun (_ : State.Keeps q x) => ?_) ?_; on_goal 2 => unfold x)
    | refine State.setFlag_keeps ?_ | refine State.irq_keeps ?_ | refine State.setSts_keeps ?_
    | refine State.count_keeps ?_ | refine State.Keeps.ite ?_ ?_

theorem State.lagCompare_keeps {s k} (h : s.Keeps q)
    (hq : q.Off 0x241106 := by have h := ‹Keep.Off q _›; exact Keep.sub h (by decide)) :
    (State.lagCompare s k).Keeps q := by
  unfold State.lagCompare
  with_reducible repeat' first
    | assumption
    | ((try lift_lets -underBinder); intro x; refine (fun (_ : State.Keeps q x) => ?_) ?_; on_goal 2 => unfold x)
    | ((try lift_lets -underBinder); intro x; have hx : x = x := (by unfold x; rfl); clear hx; have hy : List _ := x; clear hy; clear_value x)
    | ((try lift_lets -underBinder); intro x; have hx : x = x := (by unfold x; rfl); clear hx)
    | refine State.setLagging_keeps ?_ | refine State.setPlu_keeps ?_ | refine State.setNat_keeps ?_
    | refine State.Keeps.ite ?_ ?_ | split

theorem execLagBlockEnd_keeps {plu s} (h : s.Keeps q)
    (hq : q.Off 0x241106 := by have h := ‹Keep.Off q _›; exact Keep.sub h (by decide)) :
    Kept q (execLagBlockEnd plu s) := by
  unfold execLagBlockEnd
  with_reducible repeat' first | assumption | refine done_keeps ?_ | refine State.lagCompare_keeps ?_

theorem execListDescriptorRead_keeps {n k s} (h : s.Keeps q)
    (hq : q.Off 0x2287956 := by have h := ‹Keep.Off q _›; exact Keep.sub h (by decide)) :
    Kept q (execListDescriptorRead n k s) := by
  unfold execListDescriptorRead
  with_reducible repeat' first | assumption | refine done_keeps ?_ | refine State.readList_keeps ?_

theorem execSpillReadback_keeps {n s} (h : s.Keeps q)
    (hq : q.Off 0x2287946 := by have h := ‹Keep.Off q _›; exact Keep.sub h (by decide)) :
    Kept q (execSpillReadback n s) := by
  unfold execSpillReadback
  with_reducible repeat' first | assumption | refine done_keeps ?_ | refine State.readBack_keeps ?_

theorem State.listGo_keeps {s n k} (h : s.Keeps q)
    (hq : q.Off 0x2287946 := by have h := ‹Keep.Off q _›; exact Keep.sub h (by decide)) :
    (State.listGo s n k).Keeps q := by
  unfold State.listGo
  with_reducible repeat' first
    | assumption | refine State.badValue_keeps ?_ | refine State.beginList_keeps ?_ | refine State.reloadList_keeps ?_
    | refine State.Keeps.ite ?_ ?_

theorem State.stageWord_keeps {s r n k v} (h : s.Keeps q)
    (hq : q.Off 0x80000 := by have h := ‹Keep.Off q _›; exact Keep.sub h (by decide)) :
    (State.stageWord s r n k v).Keeps q := by
  unfold State.stageWord
  with_reducible repeat' first | assumption | refine State.modRegion_keeps ?_

theorem State.submitResult_keeps {s r n v} (h : s.Keeps q)
    (hq : q.Off 0x2287956 := by have h := ‹Keep.Off q _›; exact Keep.sub h (by decide)) :
    (State.submitResult s r n v).1.Keeps q := by
  unfold State.submitResult
  with_reducible repeat' first
    | assumption
    | ((try lift_lets -underBinder); intro x; refine (fun (_ : State.Keeps q x) => ?_) ?_; on_goal 2 => unfold x)
    | refine State.stageWord_keeps ?_ | refine State.submit_keeps ?_

theorem State.submitStaged_keeps {s r n v} (h : s.Keeps q)
    (hq : q.Off 0x2287956 := by have h := ‹Keep.Off q _›; exact Keep.sub h (by decide)) :
    (State.submitStaged s r n v).Keeps q := by
  unfold State.submitStaged
  with_reducible repeat' first
    | assumption
    | ((try lift_lets -underBinder); intro x; refine (fun (_ : State.Keeps q x.1) => ?_) ?_; on_goal 2 => unfold x)
    | refine State.fault_keeps ?_ | refine State.submitResult_keeps ?_ | refine State.Keeps.ite ?_ ?_

theorem State.signalArrives_keeps {s n c} (h : s.Keeps q)
    (hq : q.Off 0x2287946 := by have h := ‹Keep.Off q _›; exact Keep.sub h (by decide)) :
    (State.signalArrives s n c).Keeps q := by
  unfold State.signalArrives
  with_reducible repeat' first
    | assumption | ((try lift_lets -underBinder); intro x; have hx : x = x := (by unfold x; rfl); clear hx)
    | refine State.ctrSub_keeps ?_ | refine State.modRegion_keeps ?_ | refine State.Keeps.ite ?_ ?_

theorem execCounterDecrement_keeps {n c s} (h : s.Keeps q)
    (hq : q.Off 0x2287946 := by have h := ‹Keep.Off q _›; exact Keep.sub h (by decide)) :
    Kept q (execCounterDecrement n c s) := by
  unfold execCounterDecrement
  with_reducible repeat' first | assumption | refine done_keeps ?_ | refine State.signalArrives_keeps ?_

theorem State.headWrite_keeps {s n v} (h : s.Keeps q)
    (hq : q.Off 0x2287946 := by have h := ‹Keep.Off q _›; exact Keep.sub h (by decide)) :
    (State.headWrite s n v).Keeps q := by
  unfold State.headWrite
  with_reducible repeat' first
    | assumption | refine State.badValue_keeps ?_ | refine State.setHead_keeps ?_ | refine State.Keeps.ite ?_ ?_

theorem State.runThread_keeps {s t c} (h : s.Keeps q)
    (hq : q.Off 0x281186 := by have h := ‹Keep.Off q _›; exact Keep.sub h (by decide)) :
    (State.runThread s t c).Keeps q := by
  unfold State.runThread
  with_reducible repeat' first
    | assumption
    | ((try lift_lets -underBinder); intro x; refine (fun (_ : State.Keeps q x) => ?_) ?_; on_goal 2 => unfold x)
    | ((try lift_lets -underBinder); intro x; have hx : x = x := (by unfold x; rfl); clear hx)
    | refine State.setThread_keeps ?_ | refine State.count_keeps ?_ | refine State.threadReady_keeps ?_ | split

theorem State.placeThread_keeps {s} (h : s.Keeps q)
    (hq : q.Off 0x281186 := by have h := ‹Keep.Off q _›; exact Keep.sub h (by decide)) :
    (State.placeThread s).Keeps q := by
  unfold State.placeThread
  with_reducible repeat' first | assumption | refine State.runThread_keeps ?_ | split

theorem execThreadPlace_keeps {s} (h : s.Keeps q)
    (hq : q.Off 0x281186 := by have h := ‹Keep.Off q _›; exact Keep.sub h (by decide)) :
    Kept q (execThreadPlace s) := by
  unfold execThreadPlace
  with_reducible repeat' first | assumption | refine done_keeps ?_ | refine State.placeThread_keeps ?_

theorem State.rotate_keeps {s c} (h : s.Keeps q)
    (hq : q.Off 0x281186 := by have h := ‹Keep.Off q _›; exact Keep.sub h (by decide)) :
    (State.rotate s c).Keeps q := by
  unfold State.rotate
  with_reducible repeat' first
    | assumption | ((try lift_lets -underBinder); intro x; have hx : x = x := (by unfold x; rfl); clear hx)
    | refine State.placeThread_keeps ?_ | refine State.threadReady_keeps ?_ | refine State.Keeps.ite ?_ ?_ | split

theorem execThreadQuantum_keeps {core s} (h : s.Keeps q)
    (hq : q.Off 0x281186 := by have h := ‹Keep.Off q _›; exact Keep.sub h (by decide)) :
    Kept q (execThreadQuantum core s) := by
  unfold execThreadQuantum
  with_reducible repeat' first | assumption | refine done_keeps ?_ | refine State.rotate_keeps ?_

theorem State.thrEndWrite_keeps {s r n t} (h : s.Keeps q)
    (hq : q.Off 0x280186 := by have h := ‹Keep.Off q _›; exact Keep.sub h (by decide)) :
    (State.thrEndWrite s r n t).Keeps q := by
  unfold State.thrEndWrite
  with_reducible repeat' first
    | assumption | refine State.fault_keeps ?_ | refine State.threadEnd_keeps ?_ | refine State.Keeps.ite ?_ ?_

theorem State.jscCommitted_keeps {s n} (h : s.Keeps q)
    (hq : q.Off 0x80000 := by have h := ‹Keep.Off q _›; exact Keep.sub h (by decide)) :
    (State.jscCommitted s n).Keeps q := by
  unfold State.jscCommitted
  with_reducible repeat' first
    | assumption | refine fun _ => ?_
    | ((try lift_lets -underBinder); intro x; have hx : x = x := (by unfold x; rfl); clear hx)
    | refine State.setThread_keeps ?_ | refine State.Keeps.ite ?_ ?_ | refine State.Keeps.foldl ?_ ?_

theorem State.jscCommit_keeps {s n} (h : s.Keeps q)
    (hq : q.Off 0x68218e := by have h := ‹Keep.Off q _›; exact Keep.sub h (by decide)) :
    (State.jscCommit s n).Keeps q := by
  unfold State.jscCommit
  with_reducible repeat' first
    | assumption | refine fun _ => ?_
    | ((try lift_lets -underBinder); intro x; refine (fun (_ : State.Keeps q x) => ?_) ?_; on_goal 2 => unfold x)
    | refine State.jscCommitted_keeps ?_ | refine State.commitPoint_keeps ?_ ?_ | refine State.modRegion_keeps ?_
    | refine State.Keeps.ite ?_ ?_

end Sys2Proof.Machine
end

