-- ==== Sys2Proof/Laws/KeepsQueues.lean ====
section
/-!
SUPPORT. What the operations of Machine/Queues.lean keep.
-/
set_option Elab.async false
namespace Sys2Proof.Machine

variable {q : Keep}

theorem State.queueDenied_keeps {s j q2} (h : s.Keeps q)
    (hq : q.Off 0x200106 := by have h := ‹Keep.Off q _›; exact Keep.sub h (by decide)) :
    (State.queueDenied s j q2).Keeps q := by
  unfold State.queueDenied
  with_reducible repeat' first | assumption | refine State.queueError_keeps ?_

theorem State.queueWriteBy_keeps {s who j q3 d last} (h : s.Keeps q)
    (hq : q.Off 0x201946 := by have h := ‹Keep.Off q _›; exact Keep.sub h (by decide)) :
    (State.queueWriteBy s who j q3 d last).Keeps q := by
  unfold State.queueWriteBy
  with_reducible repeat' first
    | assumption | refine State.queueDenied_keeps ?_ | refine State.queueWrite_keeps ?_ | refine State.Keeps.ite ?_ ?_
    | split

theorem execQueueWrite_keeps {who j q2 data last s} (h : s.Keeps q)
    (hq : q.Off 0x201946 := by have h := ‹Keep.Off q _›; exact Keep.sub h (by decide)) :
    Kept q (execQueueWrite who j q2 data last s) := by
  unfold execQueueWrite
  with_reducible repeat' first
    | assumption | refine fun _ => ?_ | refine done_keeps ?_ | refine State.gate_keeps ?_ ?_
    | refine State.queueWriteBy_keeps ?_ | refine State.Keeps.ite ?_ ?_

theorem State.queueCommitBy_keeps {s r j q3 lastBytes} (h : s.Keeps q)
    (hq : q.Off 0x201946 := by have h := ‹Keep.Off q _›; exact Keep.sub h (by decide)) :
    (State.queueCommitBy s r j q3 lastBytes).Keeps q := by
  unfold State.queueCommitBy
  with_reducible repeat' first
    | assumption | refine State.badValue_keeps ?_ | refine State.queueCommit_keeps ?_ | refine State.queueDenied_keeps ?_
    | refine State.Keeps.ite ?_ ?_ | split

theorem execQCommit_keeps {req j q2 lastBytes s} (h : s.Keeps q)
    (hq : q.Off 0x201946 := by have h := ‹Keep.Off q _›; exact Keep.sub h (by decide)) :
    Kept q (execQCommit req j q2 lastBytes s) := by
  unfold execQCommit
  with_reducible repeat' first
    | assumption | refine fun _ => ?_ | refine done_keeps ?_ | refine State.gate_keeps ?_ ?_
    | refine State.queueCommitBy_keeps ?_

theorem State.queueRewindBy_keeps {s who j q3} (h : s.Keeps q)
    (hq : q.Off 0x201946 := by have h := ‹Keep.Off q _›; exact Keep.sub h (by decide)) :
    (State.queueRewindBy s who j q3).Keeps q := by
  unfold State.queueRewindBy
  with_reducible repeat' first
    | assumption | refine State.queueDenied_keeps ?_ | refine State.queueRewind_keeps ?_ | refine State.Keeps.ite ?_ ?_
    | split

theorem execQRewind_keeps {who j q2 s} (h : s.Keeps q)
    (hq : q.Off 0x201946 := by have h := ‹Keep.Off q _›; exact Keep.sub h (by decide)) :
    Kept q (execQRewind who j q2 s) := by
  unfold execQRewind
  with_reducible repeat' first
    | assumption | refine fun _ => ?_ | refine done_keeps ?_ | refine State.gate_keeps ?_ ?_
    | refine State.queueRewindBy_keeps ?_ | refine State.Keeps.ite ?_ ?_

theorem State.queuePopBy_keeps {s r j q3} (h : s.Keeps q)
    (hq : q.Off 0x201946 := by have h := ‹Keep.Off q _›; exact Keep.sub h (by decide)) :
    (State.queuePopBy s r j q3).Keeps q := by
  unfold State.queuePopBy
  with_reducible repeat' first
    | assumption | refine State.queueDenied_keeps ?_ | refine State.queuePop_keeps ?_ | refine State.Keeps.ite ?_ ?_
    | split

theorem execQPop_keeps {req j q2 s} (h : s.Keeps q)
    (hq : q.Off 0x201946 := by have h := ‹Keep.Off q _›; exact Keep.sub h (by decide)) :
    Kept q (execQPop req j q2 s) := by
  unfold execQPop
  with_reducible repeat' first
    | assumption | refine fun _ => ?_ | refine done_keeps ?_ | refine State.gate_keeps ?_ ?_
    | refine State.queuePopBy_keeps ?_

theorem State.queueAction_keeps {s r j q3 v} (h : s.Keeps q)
    (hq : q.Off 0x201946 := by have h := ‹Keep.Off q _›; exact Keep.sub h (by decide)) :
    (State.queueAction s r j q3 v).Keeps q := by
  unfold State.queueAction
  with_reducible repeat' first
    | assumption
    | ((try lift_lets -underBinder); intro x; refine (fun (_ : State.Keeps q x) => ?_) ?_; on_goal 2 => unfold x)
    | refine State.queuePopBy_keeps ?_ | refine State.queueRewindBy_keeps ?_ | refine State.queueCommitBy_keeps ?_
    | refine State.Keeps.ite ?_ ?_

theorem State.queueCtrl_keeps {s j q2 v} (h : s.Keeps q)
    (hq : q.Off 0x200146 := by have h := ‹Keep.Off q _›; exact Keep.sub h (by decide)) :
    (State.queueCtrl s j q2 v).Keeps q := by
  unfold State.queueCtrl
  with_reducible repeat' first
    | assumption
    | ((try lift_lets -underBinder); intro x; refine (fun (_ : State.Keeps q x) => ?_) ?_; on_goal 2 => unfold x)
    | ((try lift_lets -underBinder); intro x; have hx : x = x := (by unfold x; rfl); clear hx)
    | refine State.setReg_keeps ?_ | refine State.badValue_keeps ?_ | refine State.queueEmpty_keeps ?_
    | refine State.queueLevels_keeps ?_ | refine State.Keeps.ite ?_ ?_ | split

theorem execQCtrlWrite_keeps {u0 j q2 value s} (h : s.Keeps q)
    (hq : q.Off 0x201146 := by have h := ‹Keep.Off q _›; exact Keep.sub h (by decide)) :
    Kept q (execQCtrlWrite u0 j q2 value s) := by
  unfold execQCtrlWrite
  with_reducible repeat' first
    | assumption | refine fun _ => ?_ | refine done_keeps ?_ | refine State.gate_keeps ?_ ?_
    | refine State.queueCtrl_keeps ?_

end Sys2Proof.Machine
end

