-- ==== Sys2Proof/Laws/KeepsFwuBase.lean ====
section
/-!
SUPPORT. What the operations of Machine/FwuBase.lean keep.
-/
set_option Elab.async false
namespace Sys2Proof.Machine

variable {q : Keep}

theorem State.modFwu_keeps {s f} (h : s.Keeps q)
    (hq : q.Off 0x2000000000 := by have h := ‹Keep.Off q _›; exact Keep.sub h (by decide)) :
    (State.modFwu s f).Keeps q := by
  unfold State.modFwu
  with_reducible repeat' first | assumption | fail_if_no_progress (refine State.Keeps.upd ?_ rfl rfl rfl rfl)

theorem State.journalWrite_keeps {s phase next time} (h : s.Keeps q)
    (hq : q.Off 0x10 := by have h := ‹Keep.Off q _›; exact Keep.sub h (by decide)) :
    (State.journalWrite s phase next time).Keeps q := by
  unfold State.journalWrite
  with_reducible repeat' first
    | assumption
    | ((try lift_lets -underBinder); intro x; have hx : x = x := (by unfold x; rfl); clear hx; have hy : List _ := x; clear hy; clear_value x)
    | ((try lift_lets -underBinder); intro x; have hx : x = x := (by unfold x; rfl); clear hx)
    | refine State.setBytes_keeps ?_

theorem State.journalPut_keeps {s phase} (h : s.Keeps q)
    (hq : q.Off 0x10 := by have h := ‹Keep.Off q _›; exact Keep.sub h (by decide)) :
    (State.journalPut s phase).Keeps q := by
  unfold State.journalPut
  with_reducible repeat' first | assumption | refine State.journalWrite_keeps ?_

theorem State.setStage_keeps {s n} (h : s.Keeps q)
    (hq : q.Off 0x200106 := by have h := ‹Keep.Off q _›; exact Keep.sub h (by decide)) :
    (State.setStage s n).Keeps q := by
  unfold State.setStage
  with_reducible repeat' first
    | assumption
    | ((try lift_lets -underBinder); intro x; refine (fun (_ : State.Keeps q x) => ?_) ?_; on_goal 2 => unfold x)
    | refine State.irq_keeps ?_ | refine State.setSts_keeps ?_ | refine State.setNat_keeps ?_
    | refine State.Keeps.ite ?_ ?_

theorem State.setReason_keeps {s r block} (h : s.Keeps q)
    (hq : q.Off 0x6 := by have h := ‹Keep.Off q _›; exact Keep.sub h (by decide)) :
    (State.setReason s r block).Keeps q := by
  unfold State.setReason
  with_reducible repeat' first | assumption | refine State.setNat_keeps ?_

theorem State.refuseAct_keeps {s r} (h : s.Keeps q)
    (hq : q.Off 0x200106 := by have h := ‹Keep.Off q _›; exact Keep.sub h (by decide)) :
    (State.refuseAct s r).Keeps q := by
  unfold State.refuseAct
  with_reducible repeat' first
    | assumption | refine State.fault_keeps ?_ | refine State.setReason_keeps ?_ | refine State.Keeps.ite ?_ ?_

theorem State.shelfMagic_keeps {s m} (h : s.Keeps q)
    (hq : q.Off 0x10 := by have h := ‹Keep.Off q _›; exact Keep.sub h (by decide)) :
    (State.shelfMagic s m).Keeps q := by
  unfold State.shelfMagic
  with_reducible repeat' first | assumption | refine State.setMem_keeps ?_

theorem State.shelfBytes_keeps {s o a} (h : s.Keeps q)
    (hq : q.Off 0x10 := by have h := ‹Keep.Off q _›; exact Keep.sub h (by decide)) :
    (State.shelfBytes s o a).Keeps q := by
  fun_induction State.shelfBytes s o a <;> try simp only [*]
  with_reducible repeat' first
    | assumption | refine State.setByte_keeps ?_ | apply_assumption -exfalso -symm | refine State.Keeps.ite ?_ ?_

theorem State.stageEnd_keeps {s bad} (h : s.Keeps q)
    (hq : q.Off 0x2000200116 := by have h := ‹Keep.Off q _›; exact Keep.sub h (by decide)) :
    (State.stageEnd s bad).Keeps q := by
  unfold State.stageEnd
  with_reducible repeat' first
    | assumption
    | ((try lift_lets -underBinder); intro x; refine (fun (_ : State.Keeps q x) => ?_) ?_; on_goal 2 => unfold x)
    | refine State.fault_keeps ?_ | refine State.shelfMagic_keeps ?_ | refine State.setStage_keeps ?_
    | refine State.modFwu_keeps ?_ | refine State.setReason_keeps ?_ | split

theorem State.stageAbort_keeps {s} (h : s.Keeps q)
    (hq : q.Off 0x2000200116 := by have h := ‹Keep.Off q _›; exact Keep.sub h (by decide)) :
    (State.stageAbort s).Keeps q := by
  unfold State.stageAbort
  with_reducible repeat' first | assumption | refine State.stageEnd_keeps ?_ | refine State.Keeps.ite ?_ ?_

theorem State.sendStop_keeps {s} (h : s.Keeps q)
    (hq : q.Off 0x2000000000 := by have h := ‹Keep.Off q _›; exact Keep.sub h (by decide)) :
    (State.sendStop s).Keeps q := by
  unfold State.sendStop
  with_reducible repeat' first | assumption | refine State.modFwu_keeps ?_

theorem State.stageBegin_keeps {s peer} (h : s.Keeps q)
    (hq : q.Off 0x2002203956 := by have h := ‹Keep.Off q _›; exact Keep.sub h (by decide)) :
    (State.stageBegin s peer).Keeps q := by
  unfold State.stageBegin
  with_reducible repeat' first
    | assumption
    | ((try lift_lets -underBinder); intro x; refine (fun (_ : State.Keeps q x) => ?_) ?_; on_goal 2 => unfold x)
    | refine State.sendStop_keeps ?_ | refine State.shelfMagic_keeps ?_ | refine State.tsxSend_keeps ?_
    | refine State.setStage_keeps ?_ | refine State.refuseAct_keeps ?_ | refine State.modFwu_keeps ?_
    | refine State.journalPut_keeps ?_ | refine State.Keeps.ite ?_ ?_

theorem State.stageDone_keeps {s} (h : s.Keeps q)
    (hq : q.Off 0x2000200116 := by have h := ‹Keep.Off q _›; exact Keep.sub h (by decide)) :
    (State.stageDone s).Keeps q := by
  unfold State.stageDone
  with_reducible repeat' first
    | assumption
    | ((try lift_lets -underBinder); intro x; refine (fun (_ : State.Keeps q x) => ?_) ?_; on_goal 2 => unfold x)
    | ((try lift_lets -underBinder); intro x; have hx : x = x := (by unfold x; rfl); clear hx)
    | refine State.stageEnd_keeps ?_ | refine State.shelfBytes_keeps ?_ | refine State.Keeps.ite ?_ ?_

theorem State.pumpImage_keeps {s a} (h : s.Keeps q)
    (hq : q.Off 0x2002203946 := by have h := ‹Keep.Off q _›; exact Keep.sub h (by decide)) :
    (State.pumpImage s a).Keeps q := by
  fun_induction State.pumpImage s a <;> try simp only [*]
  with_reducible repeat' first
    | assumption | refine State.sendStop_keeps ?_ | refine State.tsxSend_keeps ?_ | refine State.modFwu_keeps ?_
    | apply_assumption -exfalso -symm

theorem State.sendPeer_keeps {s} (h : s.Keeps q)
    (hq : q.Off 0x2002203946 := by have h := ‹Keep.Off q _›; exact Keep.sub h (by decide)) :
    (State.sendPeer s).Keeps q := by
  unfold State.sendPeer
  with_reducible repeat' first
    | assumption | refine State.tsxSend_keeps ?_ | refine State.pumpImage_keeps ?_ | refine State.modFwu_keeps ?_
    | refine State.Keeps.ite ?_ ?_

theorem State.imageData_keeps {s p} (h : s.Keeps q)
    (hq : q.Off 0x2000000010 := by have h := ‹Keep.Off q _›; exact Keep.sub h (by decide)) :
    (State.imageData s p).Keeps q := by
  unfold State.imageData
  with_reducible repeat' first
    | assumption
    | ((try lift_lets -underBinder); intro x; have hx : x = x := (by unfold x; rfl); clear hx; have hy : List _ := x; clear hy; clear_value x)
    | ((try lift_lets -underBinder); intro x; have hx : x = x := (by unfold x; rfl); clear hx)
    | refine State.shelfBytes_keeps ?_ | refine State.modFwu_keeps ?_ | refine State.Keeps.ite ?_ ?_

theorem State.imageEnd_keeps {s} (h : s.Keeps q)
    (hq : q.Off 0x2000200116 := by have h := ‹Keep.Off q _›; exact Keep.sub h (by decide)) :
    (State.imageEnd s).Keeps q := by
  unfold State.imageEnd
  with_reducible repeat' first
    | assumption
    | ((try lift_lets -underBinder); intro x; refine (fun (_ : State.Keeps q x) => ?_) ?_; on_goal 2 => unfold x)
    | refine State.stageEnd_keeps ?_ | refine State.setBytes_keeps ?_ | refine State.Keeps.ite ?_ ?_

theorem State.imageAbort_keeps {s} (h : s.Keeps q)
    (hq : q.Off 0x2000200116 := by have h := ‹Keep.Off q _›; exact Keep.sub h (by decide)) :
    (State.imageAbort s).Keeps q := by
  unfold State.imageAbort
  with_reducible repeat' first | assumption | refine State.stageAbort_keeps ?_ | refine State.Keeps.ite ?_ ?_

theorem State.imageRx_keeps {s p} (h : s.Keeps q)
    (hq : q.Off 0x2002203956 := by have h := ‹Keep.Off q _›; exact Keep.sub h (by decide)) :
    (State.imageRx s p).Keeps q := by
  unfold State.imageRx
  with_reducible repeat' first
    | assumption | refine State.stageBegin_keeps ?_ | refine State.imageEnd_keeps ?_ | refine State.imageAbort_keeps ?_
    | refine State.imageData_keeps ?_ | split

theorem State.imageLinkLost_keeps {s} (h : s.Keeps q)
    (hq : q.Off 0x2000200116 := by have h := ‹Keep.Off q _›; exact Keep.sub h (by decide)) :
    (State.imageLinkLost s).Keeps q := by
  unfold State.imageLinkLost
  with_reducible repeat' first | assumption | refine State.sendStop_keeps ?_ | refine State.imageAbort_keeps ?_

end Sys2Proof.Machine
end

