-- ==== Sys2Proof/Laws/KeepsRed.lean ====
section
/-!
SUPPORT. What the operations of Machine/Red.lean keep.
-/
set_option Elab.async false
namespace Sys2Proof.Machine

variable {q : Keep}

theorem State.peerTimeLost_keeps {s} (h : s.Keeps q)
    (hq : q.Off 0x1000204306 := by have h := ‹Keep.Off q _›; exact Keep.sub h (by decide)) :
    (State.peerTimeLost s).Keeps q := by
  unfold State.peerTimeLost
  with_reducible repeat' first
    | assumption | ((try lift_lets -underBinder); intro x; have hx : x = x := (by unfold x; rfl); clear hx)
    | refine State.srcLost_keeps ?_ | refine State.alignRefresh_keeps ?_ | refine State.Keeps.ite ?_ ?_
    | fail_if_no_progress (refine State.Keeps.upd ?_ rfl rfl rfl rfl)

theorem State.linkFell_keeps {s} (h : s.Keeps q)
    (hq : q.Off 0x3002207b56 := by have h := ‹Keep.Off q _›; exact Keep.sub h (by decide)) :
    (State.linkFell s).Keeps q := by
  unfold State.linkFell
  with_reducible repeat' first
    | assumption
    | ((try lift_lets -underBinder); intro x; refine (fun (_ : State.Keeps q x) => ?_) ?_; on_goal 2 => unfold x)
    | ((try lift_lets -underBinder); intro x; have hx : x = x := (by unfold x; rfl); clear hx)
    | refine State.fault_keeps ?_ | refine State.tsxBreak_keeps ?_ | refine State.trigger_keeps ?_
    | refine State.syncRefresh_keeps ?_ | refine State.peerTimeLost_keeps ?_ | refine State.imageLinkLost_keeps ?_
    | refine State.setRed_keeps ?_ | refine State.unsync_keeps ?_ | refine State.Keeps.ite ?_ ?_

theorem State.linkRefresh_keeps {s} (h : s.Keeps q)
    (hq : q.Off 0x3002607b56 := by have h := ‹Keep.Off q _›; exact Keep.sub h (by decide)) :
    (State.linkRefresh s).Keeps q := by
  unfold State.linkRefresh
  with_reducible repeat' first
    | assumption
    | ((try lift_lets -underBinder); intro x; refine (fun (_ : State.Keeps q x) => ?_) ?_; on_goal 2 => unfold x)
    | ((try lift_lets -underBinder); intro x; have hx : x = x := (by unfold x; rfl); clear hx)
    | refine State.linkFell_keeps ?_ | refine State.irq_keeps ?_ | refine State.setSts_keeps ?_
    | refine State.syncRefresh_keeps ?_ | refine State.pinsRefresh_keeps ?_ | refine State.setNat_keeps ?_
    | refine State.Keeps.ite ?_ ?_

theorem State.laneLock_keeps {s lane lock} (h : s.Keeps q)
    (hq : q.Off 0x3002607b56 := by have h := ‹Keep.Off q _›; exact Keep.sub h (by decide)) :
    (State.laneLock s lane lock).Keeps q := by
  unfold State.laneLock
  with_reducible repeat' first
    | assumption | ((try lift_lets -underBinder); intro x; have hx : x = x := (by unfold x; rfl); clear hx)
    | refine State.linkRefresh_keeps ?_ | refine State.setRed_keeps ?_

theorem execTsxLaneLock_keeps {lane lock s} (h : s.Keeps q)
    (hq : q.Off 0x3002607b56 := by have h := ‹Keep.Off q _›; exact Keep.sub h (by decide)) :
    Kept q (execTsxLaneLock lane lock s) := by
  unfold execTsxLaneLock
  with_reducible repeat' first | assumption | refine done_keeps ?_ | refine State.laneLock_keeps ?_

theorem State.laneQuiet_keeps {s lane} (h : s.Keeps q)
    (hq : q.Off 0x3002607b56 := by have h := ‹Keep.Off q _›; exact Keep.sub h (by decide)) :
    (State.laneQuiet s lane).Keeps q := by
  unfold State.laneQuiet
  with_reducible repeat' first
    | assumption | ((try lift_lets -underBinder); intro x; have hx : x = x := (by unfold x; rfl); clear hx)
    | refine State.linkRefresh_keeps ?_ | refine State.setRed_keeps ?_

theorem execTsxLaneTimeout_keeps {lane s} (h : s.Keeps q)
    (hq : q.Off 0x3002607b56 := by have h := ‹Keep.Off q _›; exact Keep.sub h (by decide)) :
    Kept q (execTsxLaneTimeout lane s) := by
  unfold execTsxLaneTimeout
  with_reducible repeat' first | assumption | refine done_keeps ?_ | refine State.laneQuiet_keeps ?_

theorem State.laneHeard_keeps {s lane} (h : s.Keeps q)
    (hq : q.Off 0x3002607b56 := by have h := ‹Keep.Off q _›; exact Keep.sub h (by decide)) :
    (State.laneHeard s lane).Keeps q := by
  unfold State.laneHeard
  with_reducible repeat' first
    | assumption | ((try lift_lets -underBinder); intro x; have hx : x = x := (by unfold x; rfl); clear hx)
    | refine State.linkRefresh_keeps ?_ | refine State.setRed_keeps ?_

theorem State.tsxLink_keeps {s lane type payload} (h : s.Keeps q)
    (hq : q.Off 0x203106 := by have h := ‹Keep.Off q _›; exact Keep.sub h (by decide)) :
    (State.tsxLink s lane type payload).Keeps q := by
  unfold State.tsxLink
  with_reducible repeat' first | assumption | refine State.tsxPut_keeps ?_

theorem execHelloSend_keeps {lane s} (h : s.Keeps q)
    (hq : q.Off 0x203106 := by have h := ‹Keep.Off q _›; exact Keep.sub h (by decide)) :
    Kept q (execHelloSend lane s) := by
  unfold execHelloSend
  with_reducible repeat' first
    | assumption | refine done_keeps ?_ | refine State.tsxLink_keeps ?_ | refine State.Keeps.ite ?_ ?_

theorem State.resendFrom_keeps {s from_} (h : s.Keeps q)
    (hq : q.Off 0x3002607b56 := by have h := ‹Keep.Off q _›; exact Keep.sub h (by decide)) :
    (State.resendFrom s from_).Keeps q := by
  unfold State.resendFrom
  with_reducible repeat' first
    | assumption | refine fun _ => ?_
    | ((try lift_lets -underBinder); intro x; refine (fun (_ : State.Keeps q x) => ?_) ?_; on_goal 2 => unfold x)
    | ((try lift_lets -underBinder); intro x; have hx : x = x := (by unfold x; rfl); clear hx; have hy : List _ := x; clear hy; clear_value x)
    | ((try lift_lets -underBinder); intro x; have hx : x = x := (by unfold x; rfl); clear hx)
    | refine State.linkRefresh_keeps ?_ | refine State.addReg_keeps ?_ | refine State.tsxPut_keeps ?_
    | refine State.setRed_keeps ?_ | refine State.count_keeps ?_ | refine State.Keeps.ite ?_ ?_
    | refine State.Keeps.foldl ?_ ?_

theorem State.retxTimeout_keeps {s} (h : s.Keeps q)
    (hq : q.Off 0x3002607b56 := by have h := ‹Keep.Off q _›; exact Keep.sub h (by decide)) :
    (State.retxTimeout s).Keeps q := by
  unfold State.retxTimeout
  with_reducible repeat' first
    | assumption | refine State.resendFrom_keeps ?_ | refine State.Keeps.ite ?_ ?_ | split

theorem execTsxRetxTimeout_keeps {s} (h : s.Keeps q)
    (hq : q.Off 0x3002607b56 := by have h := ‹Keep.Off q _›; exact Keep.sub h (by decide)) :
    Kept q (execTsxRetxTimeout s) := by
  unfold execTsxRetxTimeout
  with_reducible repeat' first | assumption | refine done_keeps ?_ | refine State.retxTimeout_keeps ?_

theorem State.takeAck_keeps {s ack} (h : s.Keeps q)
    (hq : q.Off 0x3002607b56 := by have h := ‹Keep.Off q _›; exact Keep.sub h (by decide)) :
    (State.takeAck s ack).Keeps q := by
  unfold State.takeAck
  with_reducible repeat' first
    | assumption
    | ((try lift_lets -underBinder); intro x; have hx : x = x := (by unfold x; rfl); clear hx; have hy : List _ := x; clear hy; clear_value x)
    | ((try lift_lets -underBinder); intro x; have hx : x = x := (by unfold x; rfl); clear hx)
    | refine State.linkRefresh_keeps ?_ | refine State.pumpImage_keeps ?_ | refine State.setRed_keeps ?_
    | refine State.tsxBacklog_keeps ?_ | refine State.pumpCopy_keeps ?_ | refine State.Keeps.ite ?_ ?_

theorem State.peerHello_keeps {s p} (h : s.Keeps q)
    (hq : q.Off 0x3707b46 := by have h := ‹Keep.Off q _›; exact Keep.sub h (by decide)) :
    (State.peerHello s p).Keeps q := by
  unfold State.peerHello
  with_reducible repeat' first
    | assumption | refine fun _ => ?_
    | ((try lift_lets -underBinder); intro x; refine (fun (_ : State.Keeps q x) => ?_) ?_; on_goal 2 => unfold x)
    | ((try lift_lets -underBinder); intro x; have hx : x = x := (by unfold x; rfl); clear hx)
    | refine State.fault_keeps ?_ | refine State.claimChanged_keeps ?_ | refine State.setBoth_keeps ?_
    | refine State.trigger_keeps ?_ | refine State.syncRefresh_keeps ?_ | refine State.setNat_keeps ?_
    | refine State.setRed_keeps ?_ | refine State.Keeps.ite ?_ ?_ | refine State.Keeps.foldl ?_ ?_

theorem State.resyncCheck_keeps {s} (h : s.Keeps q)
    (hq : q.Off 0x2203946 := by have h := ‹Keep.Off q _›; exact Keep.sub h (by decide)) :
    (State.resyncCheck s).Keeps q := by
  unfold State.resyncCheck
  with_reducible repeat' first
    | assumption | ((try lift_lets -underBinder); intro x; have hx : x = x := (by unfold x; rfl); clear hx)
    | refine State.tsxSend_keeps ?_ | refine State.setRed_keeps ?_ | refine State.Keeps.ite ?_ ?_

theorem State.resync_keeps {s} (h : s.Keeps q)
    (hq : q.Off 0x2203946 := by have h := ‹Keep.Off q _›; exact Keep.sub h (by decide)) :
    (State.resync s).Keeps q := by
  unfold State.resync
  with_reducible repeat' first
    | assumption | refine fun _ => ?_
    | ((try lift_lets -underBinder); intro x; refine (fun (_ : State.Keeps q x) => ?_) ?_; on_goal 2 => unfold x)
    | ((try lift_lets -underBinder); intro x; have hx : x = x := (by unfold x; rfl); clear hx)
    | refine State.setFld_keeps ?_ | refine State.setNat_keeps ?_ | refine State.resyncCheck_keeps ?_
    | refine State.setRed_keeps ?_ | refine State.Keeps.ite ?_ ?_ | refine State.Keeps.foldl ?_ ?_

theorem execResync_keeps {u0 s} (h : s.Keeps q)
    (hq : q.Off 0x2203946 := by have h := ‹Keep.Off q _›; exact Keep.sub h (by decide)) :
    Kept q (execResync u0 s) := by
  unfold execResync
  with_reducible repeat' first
    | assumption | refine fun _ => ?_ | refine done_keeps ?_ | refine State.gate_keeps ?_ ?_
    | refine State.resync_keeps ?_

theorem State.detach_keeps {s} (h : s.Keeps q)
    (hq : q.Off 0x2200106 := by have h := ‹Keep.Off q _›; exact Keep.sub h (by decide)) :
    (State.detach s).Keeps q := by
  unfold State.detach
  with_reducible repeat' first
    | assumption | refine State.badValue_keeps ?_ | refine State.setFld_keeps ?_ | refine State.unsync_keeps ?_
    | refine State.Keeps.ite ?_ ?_

theorem execDetach_keeps {u0 s} (h : s.Keeps q)
    (hq : q.Off 0x2201106 := by have h := ‹Keep.Off q _›; exact Keep.sub h (by decide)) :
    Kept q (execDetach u0 s) := by
  unfold execDetach
  with_reducible repeat' first
    | assumption | refine fun _ => ?_ | refine done_keeps ?_ | refine State.gate_keeps ?_ ?_
    | refine State.detach_keeps ?_

theorem State.sendTimeReq_keeps {s} (h : s.Keeps q)
    (hq : q.Off 0x2203706 := by have h := ‹Keep.Off q _›; exact Keep.sub h (by decide)) :
    (State.sendTimeReq s).Keeps q := by
  unfold State.sendTimeReq
  with_reducible repeat' first
    | assumption | refine fun _ => ?_
    | ((try lift_lets -underBinder); intro x; have hx : x = x := (by unfold x; rfl); clear hx)
    | refine State.tsxLink_keeps ?_ | refine State.setRed_keeps ?_ | refine State.atTick_keeps ?_ ?_
    | refine State.Keeps.ite ?_ ?_

theorem State.answerTime_keeps {s m} (h : s.Keeps q)
    (hq : q.Off 0x203106 := by have h := ‹Keep.Off q _›; exact Keep.sub h (by decide)) :
    (State.answerTime s m).Keeps q := by
  unfold State.answerTime
  with_reducible repeat' first | assumption | refine State.tsxLink_keeps ?_

theorem State.peerExchange_keeps {s p} (h : s.Keeps q)
    (hq : q.Off 0x202207f46 := by have h := ‹Keep.Off q _›; exact Keep.sub h (by decide)) :
    (State.peerExchange s p).Keeps q := by
  unfold State.peerExchange
  with_reducible repeat' first
    | assumption
    | ((try lift_lets -underBinder); intro x; refine (fun (_ : State.Keeps q x) => ?_) ?_; on_goal 2 => unfold x)
    | ((try lift_lets -underBinder); intro x; have hx : x = x := (by unfold x; rfl); clear hx; have hy : Option _ := x; clear hy; clear_value x)
    | ((try lift_lets -underBinder); intro x; have hx : x = x := (by unfold x; rfl); clear hx)
    | refine State.sample_keeps ?_ | refine State.setNat_keeps ?_ | refine State.tlnSettle_keeps ?_
    | refine State.servoEvent_keeps ?_ | refine State.resyncCheck_keeps ?_ | refine State.setRed_keeps ?_
    | refine State.alignRefresh_keeps ?_ | refine State.Keeps.ite ?_ ?_
    | fail_if_no_progress (refine State.Keeps.upd ?_ rfl rfl rfl rfl)

theorem State.peerLost_keeps {s} (h : s.Keeps q)
    (hq : q.Off 0x1000204706 := by have h := ‹Keep.Off q _›; exact Keep.sub h (by decide)) :
    (State.peerLost s).Keeps q := by
  unfold State.peerLost
  with_reducible repeat' first
    | assumption | refine fun _ => ?_ | refine State.peerTimeLost_keeps ?_ | refine State.atTime_keeps ?_ ?_
    | refine State.Keeps.ite ?_ ?_ | split

theorem execPeerLost_keeps {s} (h : s.Keeps q)
    (hq : q.Off 0x1000204706 := by have h := ‹Keep.Off q _›; exact Keep.sub h (by decide)) :
    Kept q (execPeerLost s) := by
  unfold execPeerLost
  with_reducible repeat' first | assumption | refine done_keeps ?_ | refine State.peerLost_keeps ?_

theorem State.roleMsg_keeps {s op t} (h : s.Keeps q)
    (hq : q.Off 0x2203946 := by have h := ‹Keep.Off q _›; exact Keep.sub h (by decide)) :
    (State.roleMsg s op t).Keeps q := by
  unfold State.roleMsg
  with_reducible repeat' first | assumption | refine State.tsxSend_keeps ?_

theorem State.planSwap_keeps {s} (h : s.Keeps q)
    (hq : q.Off 0x2203946 := by have h := ‹Keep.Off q _›; exact Keep.sub h (by decide)) :
    (State.planSwap s).Keeps q := by
  unfold State.planSwap
  with_reducible repeat' first
    | assumption
    | ((try lift_lets -underBinder); intro x; refine (fun (_ : State.Keeps q x) => ?_) ?_; on_goal 2 => unfold x)
    | ((try lift_lets -underBinder); intro x; have hx : x = x := (by unfold x; rfl); clear hx)
    | refine State.setRed_keeps ?_ | refine State.nameSwap_keeps ?_ | refine State.Keeps.ite ?_ ?_

theorem State.swapRequest_keeps {s} (h : s.Keeps q)
    (hq : q.Off 0x2203946 := by have h := ‹Keep.Off q _›; exact Keep.sub h (by decide)) :
    (State.swapRequest s).Keeps q := by
  unfold State.swapRequest
  with_reducible repeat' first
    | assumption | refine State.roleMsg_keeps ?_ | refine State.planSwap_keeps ?_ | refine State.Keeps.ite ?_ ?_

theorem execSwap_keeps {u0 s} (h : s.Keeps q)
    (hq : q.Off 0x2203946 := by have h := ‹Keep.Off q _›; exact Keep.sub h (by decide)) : Kept q (execSwap u0 s) := by
  unfold execSwap
  with_reducible repeat' first
    | assumption | refine fun _ => ?_ | refine done_keeps ?_ | refine State.gate_keeps ?_ ?_
    | refine State.swapRequest_keeps ?_

theorem State.swapFailed_keeps {s} (h : s.Keeps q)
    (hq : q.Off 0x201946 := by have h := ‹Keep.Off q _›; exact Keep.sub h (by decide)) :
    (State.swapFailed s).Keeps q := by
  unfold State.swapFailed
  with_reducible repeat' first | assumption | refine State.fault_keeps ?_ | refine State.trigger_keeps ?_

theorem State.cancelSwap_keeps {s} (h : s.Keeps q)
    (hq : q.Off 0x2203946 := by have h := ‹Keep.Off q _›; exact Keep.sub h (by decide)) :
    (State.cancelSwap s).Keeps q := by
  unfold State.cancelSwap
  with_reducible repeat' first
    | assumption | ((try lift_lets -underBinder); intro x; have hx : x = x := (by unfold x; rfl); clear hx)
    | refine State.swapFailed_keeps ?_ | refine State.roleMsg_keeps ?_ | refine State.setRed_keeps ?_

theorem State.swapInstant_keeps {s} (h : s.Keeps q)
    (hq : q.Off 0x3707f46 := by have h := ‹Keep.Off q _›; exact Keep.sub h (by decide)) :
    (State.swapInstant s).Keeps q := by
  unfold State.swapInstant
  with_reducible repeat' first
    | assumption | refine fun _ => ?_
    | ((try lift_lets -underBinder); intro x; refine (fun (_ : State.Keeps q x) => ?_) ?_; on_goal 2 => unfold x)
    | ((try lift_lets -underBinder); intro x; have hx : x = x := (by unfold x; rfl); clear hx)
    | refine State.releaseStile_keeps ?_ | refine State.cancelSwap_keeps ?_ | refine State.setNat_keeps ?_
    | refine State.setTimeRegs_keeps ?_ | refine State.setRed_keeps ?_ | refine State.atTime_keeps ?_ ?_
    | refine State.Keeps.ite ?_ ?_ | split

theorem execSwapInstant_keeps {s} (h : s.Keeps q)
    (hq : q.Off 0x3707f46 := by have h := ‹Keep.Off q _›; exact Keep.sub h (by decide)) :
    Kept q (execSwapInstant s) := by
  unfold execSwapInstant
  with_reducible repeat' first | assumption | refine done_keeps ?_ | refine State.swapInstant_keeps ?_

theorem State.swapSearchEnd_keeps {s} (h : s.Keeps q)
    (hq : q.Off 0x2203f46 := by have h := ‹Keep.Off q _›; exact Keep.sub h (by decide)) :
    (State.swapSearchEnd s).Keeps q := by
  unfold State.swapSearchEnd
  with_reducible repeat' first
    | assumption | refine fun _ => ?_ | refine State.cancelSwap_keeps ?_ | refine State.atTime_keeps ?_ ?_
    | refine State.Keeps.ite ?_ ?_ | split

theorem execSwapSearchTimeout_keeps {s} (h : s.Keeps q)
    (hq : q.Off 0x2203f46 := by have h := ‹Keep.Off q _›; exact Keep.sub h (by decide)) :
    Kept q (execSwapSearchTimeout s) := by
  unfold execSwapSearchTimeout
  with_reducible repeat' first | assumption | refine done_keeps ?_ | refine State.swapSearchEnd_keeps ?_

theorem State.swapPathCheck_keeps {s} (h : s.Keeps q)
    (hq : q.Off 0x3707f46 := by have h := ‹Keep.Off q _›; exact Keep.sub h (by decide)) :
    (State.swapPathCheck s).Keeps q := by
  unfold State.swapPathCheck
  with_reducible repeat' first
    | assumption | refine fun _ => ?_
    | ((try lift_lets -underBinder); intro x; refine (fun (_ : State.Keeps q x) => ?_) ?_; on_goal 2 => unfold x)
    | ((try lift_lets -underBinder); intro x; have hx : x = x := (by unfold x; rfl); clear hx)
    | refine State.fault_keeps ?_ | refine State.swapFailed_keeps ?_ | refine State.setRails_keeps ?_
    | refine State.setRed_keeps ?_ | refine State.atTime_keeps ?_ ?_ | refine State.Keeps.ite ?_ ?_ | split

theorem execSwapPathCheck_keeps {s} (h : s.Keeps q)
    (hq : q.Off 0x3707f46 := by have h := ‹Keep.Off q _›; exact Keep.sub h (by decide)) :
    Kept q (execSwapPathCheck s) := by
  unfold execSwapPathCheck
  with_reducible repeat' first | assumption | refine done_keeps ?_ | refine State.swapPathCheck_keeps ?_

theorem State.pathCheckEnd_keeps {s n} (h : s.Keeps q)
    (hq : q.Off 0x2201f46 := by have h := ‹Keep.Off q _›; exact Keep.sub h (by decide)) :
    (State.pathCheckEnd s n).Keeps q := by
  unfold State.pathCheckEnd
  with_reducible repeat' first
    | assumption | refine fun _ => ?_
    | ((try lift_lets -underBinder); intro x; refine (fun (_ : State.Keeps q x) => ?_) ?_; on_goal 2 => unfold x)
    | ((try lift_lets -underBinder); intro x; have hx : x = x := (by unfold x; rfl); clear hx)
    | refine State.fault_keeps ?_ | refine State.trigger_keeps ?_ | refine State.setNat_keeps ?_
    | refine State.swapDone_keeps ?_ | refine State.setRed_keeps ?_ | refine State.atTime_keeps ?_ ?_
    | refine State.Keeps.ite ?_ ?_ | split

theorem execPathCheckEnd_keeps {mismatches s} (h : s.Keeps q)
    (hq : q.Off 0x2201f46 := by have h := ‹Keep.Off q _›; exact Keep.sub h (by decide)) :
    Kept q (execPathCheckEnd mismatches s) := by
  unfold execPathCheckEnd
  with_reducible repeat' first | assumption | refine done_keeps ?_ | refine State.pathCheckEnd_keeps ?_

theorem State.revertExpire_keeps {s} (h : s.Keeps q)
    (hq : q.Off 0x2203f46 := by have h := ‹Keep.Off q _›; exact Keep.sub h (by decide)) :
    (State.revertExpire s).Keeps q := by
  unfold State.revertExpire
  with_reducible repeat' first
    | assumption | refine fun _ => ?_ | refine State.roleMsg_keeps ?_ | refine State.atTime_keeps ?_ ?_
    | refine State.Keeps.ite ?_ ?_ | split

theorem execRevertHoldExpire_keeps {s} (h : s.Keeps q)
    (hq : q.Off 0x2203f46 := by have h := ‹Keep.Off q _›; exact Keep.sub h (by decide)) :
    Kept q (execRevertHoldExpire s) := by
  unfold execRevertHoldExpire
  with_reducible repeat' first | assumption | refine done_keeps ?_ | refine State.revertExpire_keeps ?_

theorem State.drillExpire_keeps {s} (h : s.Keeps q)
    (hq : q.Off 0x200706 := by have h := ‹Keep.Off q _›; exact Keep.sub h (by decide)) :
    (State.drillExpire s).Keeps q := by
  unfold State.drillExpire
  with_reducible repeat' first
    | assumption | refine fun _ => ?_ | refine State.irq_keeps ?_ | refine State.setSts_keeps ?_
    | refine State.atTime_keeps ?_ ?_ | refine State.Keeps.ite ?_ ?_ | split

theorem execDrillDue_keeps {s} (h : s.Keeps q)
    (hq : q.Off 0x200706 := by have h := ‹Keep.Off q _›; exact Keep.sub h (by decide)) : Kept q (execDrillDue s) := by
  unfold execDrillDue
  with_reducible repeat' first | assumption | refine done_keeps ?_ | refine State.drillExpire_keeps ?_

theorem execFallbackEnd_keeps {u0 s} (h : s.Keeps q)
    (hq : q.Off 0x2205106 := by have h := ‹Keep.Off q _›; exact Keep.sub h (by decide)) :
    Kept q (execFallbackEnd u0 s) := by
  unfold execFallbackEnd
  with_reducible repeat' first
    | assumption | refine fun _ => ?_ | refine done_keeps ?_ | refine State.fallbackEnd_keeps ?_
    | refine State.gate_keeps ?_ ?_

theorem State.safeStore_keeps {s} (h : s.Keeps q)
    (hq : q.Off 0x200116 := by have h := ‹Keep.Off q _›; exact Keep.sub h (by decide)) :
    (State.safeStore s).Keeps q := by
  unfold State.safeStore
  with_reducible repeat' first
    | assumption
    | ((try lift_lets -underBinder); intro x; have hx : x = x := (by unfold x; rfl); clear hx; have hy : List _ := x; clear hy; clear_value x)
    | refine State.fault_keeps ?_ | refine State.setBytes_keeps ?_ | refine State.Keeps.ite ?_ ?_

theorem execSafeStore_keeps {u0 s} (h : s.Keeps q)
    (hq : q.Off 0x201116 := by have h := ‹Keep.Off q _›; exact Keep.sub h (by decide)) :
    Kept q (execSafeStore u0 s) := by
  unfold execSafeStore
  with_reducible repeat' first
    | assumption | refine fun _ => ?_ | refine done_keeps ?_ | refine State.gate_keeps ?_ ?_
    | refine State.safeStore_keeps ?_

theorem State.pairAction_keeps {s v} (h : s.Keeps q)
    (hq : q.Off 0x2207956 := by have h := ‹Keep.Off q _›; exact Keep.sub h (by decide)) :
    (State.pairAction s v).Keeps q := by
  unfold State.pairAction
  with_reducible repeat' first
    | assumption
    | ((try lift_lets -underBinder); intro x; refine (fun (_ : State.Keeps q x) => ?_) ?_; on_goal 2 => unfold x)
    | refine State.fallbackEnd_keeps ?_ | refine State.safeStore_keeps ?_ | refine State.swapRequest_keeps ?_
    | refine State.detach_keeps ?_ | refine State.resync_keeps ?_ | refine State.Keeps.ite ?_ ?_

theorem State.dropOut_keeps {s} (h : s.Keeps q)
    (hq : q.Off 0x2200106 := by have h := ‹Keep.Off q _›; exact Keep.sub h (by decide)) :
    (State.dropOut s).Keeps q := by
  unfold State.dropOut
  with_reducible repeat' first
    | assumption | refine State.fault_keeps ?_ | refine State.unsync_keeps ?_ | refine State.Keeps.ite ?_ ?_

theorem execFixApplyDeadline_keeps {s} (h : s.Keeps q)
    (hq : q.Off 0x2200106 := by have h := ‹Keep.Off q _›; exact Keep.sub h (by decide)) :
    Kept q (execFixApplyDeadline s) := by
  unfold execFixApplyDeadline
  with_reducible repeat' first | assumption | refine done_keeps ?_ | refine State.dropOut_keeps ?_

theorem State.peerIsReady_keeps {s k f} (h : s.Keeps q)
    (hq : q.Off 0x2200106 := by have h := ‹Keep.Off q _›; exact Keep.sub h (by decide)) :
    (State.peerIsReady s k f).Keeps q := by
  unfold State.peerIsReady
  with_reducible repeat' first
    | assumption
    | ((try lift_lets -underBinder); intro x; refine (fun (_ : State.Keeps q x) => ?_) ?_; on_goal 2 => unfold x)
    | ((try lift_lets -underBinder); intro x; have hx : x = x := (by unfold x; rfl); clear hx)
    | refine State.setNat_keeps ?_ | refine State.dropOut_keeps ?_ | refine State.setRed_keeps ?_
    | refine State.Keeps.ite ?_ ?_

theorem execLagMaxRead_keeps {u0 s} (h : s.Keeps q)
    (hq : q.Off 0x203106 := by have h := ‹Keep.Off q _›; exact Keep.sub h (by decide)) :
    Kept q (execLagMaxRead u0 s) := by
  unfold execLagMaxRead
  with_reducible repeat' first
    | assumption | refine fun _ => ?_ | refine done_keeps ?_ | refine State.setNat_keeps ?_
    | refine State.access_keeps ?_ ?_ | refine State.emit_keeps ?_

theorem State.redCommit_keeps {s} (h : s.Keeps q)
    (hq : q.Off 0x3003707bde := by have h := ‹Keep.Off q _›; exact Keep.sub h (by decide)) :
    (State.redCommit s).Keeps q := by
  unfold State.redCommit
  with_reducible repeat' first
    | assumption | refine fun _ => ?_
    | ((try lift_lets -underBinder); intro x; refine (fun (_ : State.Keeps q x) => ?_) ?_; on_goal 2 => unfold x)
    | ((try lift_lets -underBinder); intro x; have hx : x = x := (by unfold x; rfl); clear hx)
    | refine State.claimChanged_keeps ?_ | refine State.laneLock_keeps ?_ | refine State.commitPoint_keeps ?_ ?_
    | refine State.resyncCheck_keeps ?_ | refine State.alignRefresh_keeps ?_ | refine State.Keeps.ite ?_ ?_

end Sys2Proof.Machine
end

