-- ==== Sys2Proof/Laws/KeepsReset.lean ====
section
/-!
SUPPORT. What the operations of Machine/Reset.lean keep.
-/
set_option Elab.async false
namespace Sys2Proof.Machine

variable {q : Keep}

theorem State.resetGroup_keeps {s : State} {g} (h : s.Keeps q) (hq : q.Off 0xe := by have h := ‹Keep.Off q _›; exact Keep.sub h (by decide)) : (State.resetGroup s g).Keeps q := by
  unfold State.resetGroup
  refine State.discardShadows_keeps (h.updAll rfl (fun hc => Tab.wf_filterMap ?_ (h.live hc)) h.mem h.prog)
  intro e e' he
  split at he
  · unfold resetEntry at he
    simp only at he
    split at he
    · cases he
    · next hv => cases he; exact ⟨rfl, fun _ => hv⟩
  · cases he; exact ⟨rfl, fun hv => hv⟩

theorem State.setResetting_keeps {s g b} (h : s.Keeps q)
    (hq : q.Off 0x80 := by have h := ‹Keep.Off q _›; exact Keep.sub h (by decide)) :
    (State.setResetting s g b).Keeps q := by
  unfold State.setResetting
  with_reducible repeat' first
    | assumption | refine fun _ => ?_
    | ((try lift_lets -underBinder); intro x; have hx : x = x := (by unfold x; rfl); clear hx)
    | refine State.Keeps.foldl ?_ ?_ | fail_if_no_progress (refine State.Keeps.upd ?_ rfl rfl rfl rfl)

theorem State.emptyQueue_keeps {s j q2} (h : s.Keeps q)
    (hq : q.Off 0x200146 := by have h := ‹Keep.Off q _›; exact Keep.sub h (by decide)) :
    (State.emptyQueue s j q2).Keeps q := by
  unfold State.emptyQueue
  with_reducible repeat' first
    | assumption | refine State.setQueue_keeps ?_ | refine State.queueLevels_keeps ?_

theorem State.resetInner_keeps {s i} (h : s.Keeps q)
    (hq : q.Off 0x9f48146 := by have h := ‹Keep.Off q _›; exact Keep.sub h (by decide)) :
    (State.resetInner s i).Keeps q := by
  unfold State.resetInner
  with_reducible repeat' first
    | assumption | refine fun _ => ?_
    | ((try lift_lets -underBinder); intro x; refine (fun (_ : State.Keeps q x) => ?_) ?_; on_goal 2 => unfold x)
    | ((try lift_lets -underBinder); intro x; have hx : x = x := (by unfold x; rfl); clear hx)
    | refine State.setCluster_keeps ?_ | refine State.setPort_keeps ?_ | refine State.setField_keeps ?_
    | refine State.setPlu_keeps ?_ | refine State.setMac_keeps ?_ | refine State.setLaunches_keeps ?_
    | refine State.emptyQueue_keeps ?_ | refine State.setDmx_keeps ?_ | refine State.setLamp_keeps ?_
    | refine State.Keeps.foldl ?_ ?_ | split

theorem State.resetOne_keeps {s g} (h : s.Keeps q)
    (hq : q.Off 0xbfcf9de := by have h := ‹Keep.Off q _›; exact Keep.sub h (by decide)) :
    (State.resetOne s g).Keeps q := by
  unfold State.resetOne
  with_reducible repeat' first
    | assumption | refine State.resetInner_keeps ?_ | refine State.resetGroup_keeps ?_ | refine State.holdPins_keeps ?_
    | refine State.returnJobs_keeps ?_ | refine State.setResetting_keeps ?_ | split

theorem State.resetUnit_keeps {s g} (h : s.Keeps q)
    (hq : q.Off 0xbfcf9de := by have h := ‹Keep.Off q _›; exact Keep.sub h (by decide)) :
    (State.resetUnit s g).Keeps q := by
  unfold State.resetUnit
  with_reducible repeat' first
    | assumption | refine State.resetOne_keeps ?_ | refine State.pinsRefresh_keeps ?_

theorem State.resetCluster_keeps {s g} (h : s.Keeps q)
    (hq : q.Off 0xbfcf9de := by have h := ‹Keep.Off q _›; exact Keep.sub h (by decide)) :
    (State.resetCluster s g).Keeps q := by
  unfold State.resetCluster
  with_reducible repeat' first
    | assumption | refine fun _ => ?_ | refine State.resetOne_keeps ?_ | refine State.pinsRefresh_keeps ?_
    | refine State.Keeps.foldl ?_ ?_

theorem State.clearScheduler_keeps {s n} (h : s.Keeps q)
    (hq : q.Off 0xc0000 := by have h := ‹Keep.Off q _›; exact Keep.sub h (by decide)) :
    (State.clearScheduler s n).Keeps q := by
  unfold State.clearScheduler
  with_reducible repeat' first
    | assumption | refine fun _ => ?_
    | ((try lift_lets -underBinder); intro x; refine (fun (_ : State.Keeps q x) => ?_) ?_; on_goal 2 => unfold x)
    | ((try lift_lets -underBinder); intro x; have hx : x = x := (by unfold x; rfl); clear hx)
    | refine State.clearPlu_keeps ?_ | refine State.setRegion_keeps ?_ | refine State.Keeps.foldl ?_ ?_

theorem State.resetRegion_keeps {s n} (h : s.Keeps q)
    (hq : q.Off 0xbfff9de := by have h := ‹Keep.Off q _›; exact Keep.sub h (by decide)) :
    (State.resetRegion s n).Keeps q := by
  unfold State.resetRegion
  with_reducible repeat' first
    | assumption | refine fun _ => ?_
    | ((try lift_lets -underBinder); intro x; refine (fun (_ : State.Keeps q x) => ?_) ?_; on_goal 2 => unfold x)
    | ((try lift_lets -underBinder); intro x; have hx : x = x := (by unfold x; rfl); clear hx)
    | refine State.holdRegion_keeps ?_ | refine State.resetOne_keeps ?_ | refine State.pinsRefresh_keeps ?_
    | refine State.zeroBytes_keeps ?_ | refine State.setRegion_keeps ?_ | refine State.clearScheduler_keeps ?_
    | refine State.Keeps.foldl ?_ ?_ | fail_if_no_progress (refine State.Keeps.upd ?_ rfl rfl rfl rfl)

theorem State.restartCore_keeps {s g} (h : s.Keeps q)
    (hq : q.Off 0x6 := by have h := ‹Keep.Off q _›; exact Keep.sub h (by decide)) :
    (State.restartCore s g).Keeps q := by
  unfold State.restartCore
  with_reducible repeat' first
    | assumption | refine State.setFlag_keeps ?_ | refine State.setPageState_keeps ?_ | split

theorem State.resetEnd_keeps {s level inst} (h : s.Keeps q)
    (hq : q.Off 0x4086 := by have h := ‹Keep.Off q _›; exact Keep.sub h (by decide)) :
    (State.resetEnd s level inst).Keeps q := by
  unfold State.resetEnd
  with_reducible repeat' first
    | assumption | refine fun _ => ?_ | refine State.restartCore_keeps ?_ | refine State.freeRegion_keeps ?_
    | refine State.setResetting_keeps ?_ | refine State.Keeps.foldl ?_ ?_ | split

theorem execResetComplete_keeps {level inst s} (h : s.Keeps q)
    (hq : q.Off 0x4086 := by have h := ‹Keep.Off q _›; exact Keep.sub h (by decide)) :
    Kept q (execResetComplete level inst s) := by
  unfold execResetComplete
  with_reducible repeat' first | assumption | refine done_keeps ?_ | refine State.resetEnd_keeps ?_

theorem State.rebaseTick_keeps {s t} (h : s.Keeps q)
    (hq : q.Off 0x200000000 := by have h := ‹Keep.Off q _›; exact Keep.sub h (by decide)) :
    (State.rebaseTick s t).Keeps q := by
  unfold State.rebaseTick
  with_reducible repeat' first
    | assumption | ((try lift_lets -underBinder); intro x; have hx : x = x := (by unfold x; rfl); clear hx)
    | fail_if_no_progress (refine State.Keeps.upd ?_ rfl rfl rfl rfl)

theorem State.railBits_keeps {s} (h : s.Keeps q)
    (hq : q.Off 0x6 := by have h := ‹Keep.Off q _›; exact Keep.sub h (by decide)) : (State.railBits s).Keeps q := by
  unfold State.railBits
  with_reducible repeat' first | assumption | refine State.setFld_keeps ?_

theorem State.hardReset_keeps {s : State} {package cause} (h : s.Keeps q) (hq : q.Off 0x7ffffffffe := by have h := ‹Keep.Off q _›; exact Keep.sub h (by decide)) :
    (State.hardReset s package cause).Keeps q := by
  have ha := State.rebaseTick_keeps (t := (s.timeKept.map Captured.time).getD 0) h
  unfold State.hardReset
  exact State.setSts_keeps (State.setFld_keeps (State.railBits_keeps (ha.updAll rfl (fun hc => Tab.wf_keep resetVal isHthKey (ha.live hc))
    (fun hc => Tab.wf_keep memDefault (fun k => isFeram k || (isDram k && !package)) (ha.mem hc)) (fun _ => rfl))))

theorem State.beginStart_keeps {s} (h : s.Keeps q)
    (hq : q.Off 0x6 := by have h := ‹Keep.Off q _›; exact Keep.sub h (by decide)) : (State.beginStart s).Keeps q := by
  unfold State.beginStart
  with_reducible repeat' first | assumption | refine State.setNat_keeps ?_ | refine State.Keeps.ite ?_ ?_

theorem State.dieReset_keeps {s cause} (h : s.Keeps q)
    (hq : q.Off 0x7ffffffffe := by have h := ‹Keep.Off q _›; exact Keep.sub h (by decide)) :
    (State.dieReset s cause).Keeps q := by
  unfold State.dieReset
  with_reducible repeat' first
    | assumption | ((try lift_lets -underBinder); intro x; have hx : x = x := (by unfold x; rfl); clear hx)
    | refine State.hardReset_keeps ?_ | refine State.beginStart_keeps ?_ | refine State.Keeps.ite ?_ ?_
    | fail_if_no_progress (refine State.Keeps.upd ?_ rfl rfl rfl rfl)

theorem State.packageReset_keeps {s cause roleB testMode} (h : s.Keeps q)
    (hq : q.Off 0x7ffffffffe := by have h := ‹Keep.Off q _›; exact Keep.sub h (by decide)) :
    (State.packageReset s cause roleB testMode).Keeps q := by
  unfold State.packageReset
  with_reducible repeat' first
    | assumption
    | ((try lift_lets -underBinder); intro x; refine (fun (_ : State.Keeps q x) => ?_) ?_; on_goal 2 => unfold x)
    | ((try lift_lets -underBinder); intro x; have hx : x = x := (by unfold x; rfl); clear hx)
    | refine State.hardReset_keeps ?_ | refine State.railBits_keeps ?_
    | fail_if_no_progress (refine State.Keeps.upd ?_ rfl rfl rfl rfl)

theorem execPor_keeps {roleB testMode s} (h : s.Keeps q)
    (hq : q.Off 0x7ffffffffe := by have h := ‹Keep.Off q _›; exact Keep.sub h (by decide)) :
    Kept q (execPor roleB testMode s) := by
  unfold execPor
  with_reducible repeat' first
    | assumption | refine done_keeps ?_ | refine State.packageReset_keeps ?_ | refine State.Keeps.ite ?_ ?_

theorem execVcoreBrownout_keeps {s} (h : s.Keeps q)
    (hq : q.Off 0x7ffffffffe := by have h := ‹Keep.Off q _›; exact Keep.sub h (by decide)) :
    Kept q (execVcoreBrownout s) := by
  unfold execVcoreBrownout
  with_reducible repeat' first
    | assumption | refine done_keeps ?_ | refine State.packageReset_keeps ?_ | refine State.Keeps.ite ?_ ?_

theorem State.systemReset_keeps {s} (h : s.Keeps q)
    (hq : q.Off 0x100220430e := by have h := ‹Keep.Off q _›; exact Keep.sub h (by decide)) :
    (State.systemReset s).Keeps q := by
  unfold State.systemReset
  with_reducible repeat' first
    | exact State.discardShadows_keeps (State.Keeps.keepLive (fun k => !inGroup pgRED k || redKept (k - pgRED * 0x1000)) (by assumption))
    | assumption
    | ((try lift_lets -underBinder); intro x; refine (fun (_ : State.Keeps q x) => ?_) ?_; on_goal 2 => unfold x)
    | ((try lift_lets -underBinder); intro x; have hx : x = x := (by unfold x; rfl); clear hx)
    | refine State.setSts_keeps ?_ | refine State.fallbackEnd_keeps ?_ | refine State.railBits_keeps ?_
    | refine State.srcLost_keeps ?_ | refine State.setRed_keeps ?_
    | fail_if_no_progress (refine State.Keeps.upd ?_ rfl rfl rfl rfl)

theorem State.resetRequest_keeps {s r page scope} (h : s.Keeps q)
    (hq : q.Off 0x7ffffffffe := by have h := ‹Keep.Off q _›; exact Keep.sub h (by decide)) :
    (State.resetRequest s r page scope).Keeps q := by
  unfold State.resetRequest
  with_reducible repeat' first
    | assumption | ((try lift_lets -underBinder); intro x; have hx : x = x := (by unfold x; rfl); clear hx)
    | refine State.fault_keeps ?_ | refine State.resetUnit_keeps ?_ | refine State.resetCluster_keeps ?_
    | refine State.dieReset_keeps ?_ | refine State.systemReset_keeps ?_ | refine State.resetRegion_keeps ?_
    | refine State.Keeps.ite ?_ ?_ | split

theorem State.setRoot_keeps {s lock on} (h : s.Keeps q)
    (hq : q.Off 0x6 := by have h := ‹Keep.Off q _›; exact Keep.sub h (by decide)) :
    (State.setRoot s lock on).Keeps q := by
  unfold State.setRoot
  with_reducible repeat' first
    | assumption | ((try lift_lets -underBinder); intro x; have hx : x = x := (by unfold x; rfl); clear hx)
    | refine State.setSts_keeps ?_ | refine State.setFld_keeps ?_

theorem State.rootLock_keeps {s micros khz} (h : s.Keeps q)
    (hq : q.Off 0x6 := by have h := ‹Keep.Off q _›; exact Keep.sub h (by decide)) :
    (State.rootLock s micros khz).Keeps q := by
  unfold State.rootLock
  with_reducible repeat' first
    | assumption
    | ((try lift_lets -underBinder); intro x; refine (fun (_ : State.Keeps q x) => ?_) ?_; on_goal 2 => unfold x)
    | refine State.setFld_keeps ?_ | refine State.setNat_keeps ?_ | refine State.setRoot_keeps ?_
    | refine State.Keeps.ite ?_ ?_

theorem State.clockMove_keeps {s r toRoot} (h : s.Keeps q)
    (hq : q.Off 0x200106 := by have h := ‹Keep.Off q _›; exact Keep.sub h (by decide)) :
    (State.clockMove s r toRoot).Keeps q := by
  unfold State.clockMove
  with_reducible repeat' first
    | assumption | refine State.fault_keeps ?_ | refine State.badValue_keeps ?_ | refine State.setNat_keeps ?_
    | refine State.setRoot_keeps ?_ | refine State.Keeps.ite ?_ ?_

theorem execClockMove_keeps {req toRoot s} (h : s.Keeps q)
    (hq : q.Off 0x201106 := by have h := ‹Keep.Off q _›; exact Keep.sub h (by decide)) :
    Kept q (execClockMove req toRoot s) := by
  unfold execClockMove
  with_reducible repeat' first
    | assumption | refine fun _ => ?_ | refine done_keeps ?_ | refine State.clockMove_keeps ?_
    | refine State.gate_keeps ?_ ?_

theorem State.loseRoot_keeps {s} (h : s.Keeps q)
    (hq : q.Off 0x403707bc6 := by have h := ‹Keep.Off q _›; exact Keep.sub h (by decide)) :
    (State.loseRoot s).Keeps q := by
  unfold State.loseRoot
  with_reducible repeat' first
    | assumption
    | ((try lift_lets -underBinder); intro x; refine (fun (_ : State.Keeps q x) => ?_) ?_; on_goal 2 => unfold x)
    | ((try lift_lets -underBinder); intro x; have hx : x = x := (by unfold x; rfl); clear hx)
    | refine State.fenceDie_keeps ?_ | refine State.setRoot_keeps ?_
    | fail_if_no_progress (refine State.Keeps.upd ?_ rfl rfl rfl rfl)

theorem State.rootLossNoted_keeps {s} (h : s.Keeps q)
    (hq : q.Off 0x200106 := by have h := ‹Keep.Off q _›; exact Keep.sub h (by decide)) :
    (State.rootLossNoted s).Keeps q := by
  unfold State.rootLossNoted
  with_reducible repeat' first | assumption | refine State.fault_keeps ?_ | refine State.inc_keeps ?_

theorem execRootLost_keeps {s} (h : s.Keeps q)
    (hq : q.Off 0x403707bc6 := by have h := ‹Keep.Off q _›; exact Keep.sub h (by decide)) :
    Kept q (execRootLost s) := by
  unfold execRootLost
  with_reducible repeat' first
    | assumption | refine done_keeps ?_ | refine State.rootLossNoted_keeps ?_ | refine State.loseRoot_keeps ?_
    | refine State.Keeps.ite ?_ ?_

theorem execXtalStop_keeps {s} (h : s.Keeps q)
    (hq : q.Off 0x403707bc6 := by have h := ‹Keep.Off q _›; exact Keep.sub h (by decide)) :
    Kept q (execXtalStop s) := by
  unfold execXtalStop
  with_reducible repeat' first
    | assumption
    | ((try lift_lets -underBinder); intro x; refine (fun (_ : State.Keeps q x) => ?_) ?_; on_goal 2 => unfold x)
    | refine done_keeps ?_ | refine State.fault_keeps ?_ | refine State.setFld_keeps ?_
    | refine State.rootLossNoted_keeps ?_ | refine State.loseRoot_keeps ?_ | refine State.inc_keeps ?_
    | refine State.Keeps.ite ?_ ?_

theorem execDramEccError_keeps {corrected s} (h : s.Keeps q)
    (hq : q.Off 0x3707bc6 := by have h := ‹Keep.Off q _›; exact Keep.sub h (by decide)) :
    Kept q (execDramEccError corrected s) := by
  unfold execDramEccError
  with_reducible repeat' first
    | assumption | refine done_keeps ?_ | refine State.fencePackage_keeps ?_ | refine State.count_keeps ?_
    | refine State.Keeps.ite ?_ ?_

theorem execSramEccError_keeps {region corrected masked s} (h : s.Keeps q)
    (hq : q.Off 0x60f9c6 := by have h := ‹Keep.Off q _›; exact Keep.sub h (by decide)) :
    Kept q (execSramEccError region corrected masked s) := by
  unfold execSramEccError
  with_reducible repeat' first
    | assumption | refine done_keeps ?_ | refine State.fenceRegion_keeps ?_ | refine State.recordFault_keeps ?_
    | refine State.pinsRefresh_keeps ?_ | refine State.count_keeps ?_ | refine State.Keeps.ite ?_ ?_

end Sys2Proof.Machine
end

