-- ==== Sys2Proof/Laws/KeepsPower.lean ====
section
/-!
SUPPORT. What the operations of Machine/Power.lean keep.
-/
set_option Elab.async false
namespace Sys2Proof.Machine

variable {q : Keep}

theorem State.passTicks_keeps {s n} (h : s.Keeps q)
    (hq : q.Off 0x200000000 := by have h := ‹Keep.Off q _›; exact Keep.sub h (by decide)) :
    (State.passTicks s n).Keeps q := by
  unfold State.passTicks
  with_reducible repeat' first
    | assumption | ((try lift_lets -underBinder); intro x; have hx : x = x := (by unfold x; rfl); clear hx)
    | refine State.Keeps.ite ?_ ?_ | fail_if_no_progress (refine State.Keeps.upd ?_ rfl rfl rfl rfl)

theorem State.xtSeen_keeps {s} (h : s.Keeps q)
    (hq : q.Off 0x6 := by have h := ‹Keep.Off q _›; exact Keep.sub h (by decide)) : (State.xtSeen s).Keeps q := by
  unfold State.xtSeen
  with_reducible repeat' first | assumption | refine State.setSts_keeps ?_

theorem State.resetHth_keeps {s : State} (h : s.Keeps q) (hq : q.Off 0x200200106 := by have h := ‹Keep.Off q _›; exact Keep.sub h (by decide)) : (State.resetHth s).Keeps q := by
  unfold State.resetHth
  exact State.fault_keeps (h.updAll rfl (fun hc => Tab.wf_keep resetVal (fun k => !isHthKey k) (h.live hc)) h.mem h.prog)

theorem State.setPwrState_keeps {s n} (h : s.Keeps q)
    (hq : q.Off 0x200106 := by have h := ‹Keep.Off q _›; exact Keep.sub h (by decide)) :
    (State.setPwrState s n).Keeps q := by
  unfold State.setPwrState
  with_reducible repeat' first
    | assumption | refine State.irq_keeps ?_ | refine State.setSts_keeps ?_ | refine State.Keeps.ite ?_ ?_

theorem State.setPwr_keeps {s p} (h : s.Keeps q)
    (hq : q.Off 0x100000000 := by have h := ‹Keep.Off q _›; exact Keep.sub h (by decide)) :
    (State.setPwr s p).Keeps q := by
  unfold State.setPwr
  with_reducible repeat' first | assumption | fail_if_no_progress (refine State.Keeps.upd ?_ rfl rfl rfl rfl)

theorem State.abortEntry_keeps {s seen pins} (h : s.Keeps q)
    (hq : q.Off 0x100200106 := by have h := ‹Keep.Off q _›; exact Keep.sub h (by decide)) :
    (State.abortEntry s seen pins).Keeps q := by
  unfold State.abortEntry
  with_reducible repeat' first
    | assumption
    | ((try lift_lets -underBinder); intro x; refine (fun (_ : State.Keeps q x) => ?_) ?_; on_goal 2 => unfold x)
    | ((try lift_lets -underBinder); intro x; have hx : x = x := (by unfold x; rfl); clear hx)
    | refine State.fault_keeps ?_ | refine State.setPwrState_keeps ?_ | refine State.loadWake_keeps ?_
    | refine State.inc_keeps ?_ | refine State.setPwr_keeps ?_

theorem State.beginExit_keeps {s seen pins} (h : s.Keeps q)
    (hq : q.Off 0x100000006 := by have h := ‹Keep.Off q _›; exact Keep.sub h (by decide)) :
    (State.beginExit s seen pins).Keeps q := by
  unfold State.beginExit
  with_reducible repeat' first
    | assumption
    | ((try lift_lets -underBinder); intro x; refine (fun (_ : State.Keeps q x) => ?_) ?_; on_goal 2 => unfold x)
    | ((try lift_lets -underBinder); intro x; have hx : x = x := (by unfold x; rfl); clear hx)
    | refine State.setSts_keeps ?_ | refine State.loadWake_keeps ?_ | refine State.setPwr_keeps ?_
    | refine State.Keeps.ite ?_ ?_

theorem State.wakeBy_keeps {s seen0 pins0} (h : s.Keeps q)
    (hq : q.Off 0x100200106 := by have h := ‹Keep.Off q _›; exact Keep.sub h (by decide)) :
    (State.wakeBy s seen0 pins0).Keeps q := by
  unfold State.wakeBy
  with_reducible repeat' first
    | assumption | refine State.irq_keeps ?_ | refine State.abortEntry_keeps ?_ | refine State.beginExit_keeps ?_
    | refine State.leaveDoze_keeps ?_ | refine State.Keeps.ite ?_ ?_ | split

theorem State.wakeIn_keeps {s pins rising held ticks} (h : s.Keeps q)
    (hq : q.Off 0x300200106 := by have h := ‹Keep.Off q _›; exact Keep.sub h (by decide)) :
    (State.wakeIn s pins rising held ticks).Keeps q := by
  unfold State.wakeIn
  with_reducible repeat' first
    | assumption
    | ((try lift_lets -underBinder); intro x; refine (fun (_ : State.Keeps q x) => ?_) ?_; on_goal 2 => unfold x)
    | ((try lift_lets -underBinder); intro x; have hx : x = x := (by unfold x; rfl); clear hx)
    | refine State.xtSeen_keeps ?_ | refine State.passTicks_keeps ?_ | refine State.wakeBy_keeps ?_
    | refine State.Keeps.ite ?_ ?_

theorem execWakeInEdge_keeps {pins rising held ticks s} (h : s.Keeps q)
    (hq : q.Off 0x300200106 := by have h := ‹Keep.Off q _›; exact Keep.sub h (by decide)) :
    Kept q (execWakeInEdge pins rising held ticks s) := by
  unfold execWakeInEdge
  with_reducible repeat' first | assumption | refine done_keeps ?_ | refine State.wakeIn_keeps ?_

theorem State.heathAlarm_keeps {s} (h : s.Keeps q)
    (hq : q.Off 0x300200706 := by have h := ‹Keep.Off q _›; exact Keep.sub h (by decide)) :
    (State.heathAlarm s).Keeps q := by
  unfold State.heathAlarm
  with_reducible repeat' first
    | assumption | refine fun _ => ?_
    | ((try lift_lets -underBinder); intro x; have hx : x = x := (by unfold x; rfl); clear hx)
    | refine State.passTicks_keeps ?_ | refine State.atTime_keeps ?_ ?_ | refine State.wakeBy_keeps ?_
    | refine State.Keeps.ite ?_ ?_

theorem execHeathAlarm_keeps {s} (h : s.Keeps q)
    (hq : q.Off 0x300200706 := by have h := ‹Keep.Off q _›; exact Keep.sub h (by decide)) :
    Kept q (execHeathAlarm s) := by
  unfold execHeathAlarm
  with_reducible repeat' first | assumption | refine done_keeps ?_ | refine State.heathAlarm_keeps ?_

theorem State.xt32Fail_keeps {s ticks} (h : s.Keeps q)
    (hq : q.Off 0x300200106 := by have h := ‹Keep.Off q _›; exact Keep.sub h (by decide)) :
    (State.xt32Fail s ticks).Keeps q := by
  unfold State.xt32Fail
  with_reducible repeat' first
    | assumption
    | ((try lift_lets -underBinder); intro x; refine (fun (_ : State.Keeps q x) => ?_) ?_; on_goal 2 => unfold x)
    | refine State.fault_keeps ?_ | refine State.setSts_keeps ?_ | refine State.passTicks_keeps ?_
    | refine State.wakeBy_keeps ?_

theorem execXt32Fail_keeps {ticks s} (h : s.Keeps q)
    (hq : q.Off 0x300200106 := by have h := ‹Keep.Off q _›; exact Keep.sub h (by decide)) :
    Kept q (execXt32Fail ticks s) := by
  unfold execXt32Fail
  with_reducible repeat' first | assumption | refine done_keeps ?_ | refine State.xt32Fail_keeps ?_

theorem State.sealCheck_keeps {s follows ticks} (h : s.Keeps q)
    (hq : q.Off 0x300201946 := by have h := ‹Keep.Off q _›; exact Keep.sub h (by decide)) :
    (State.sealCheck s follows ticks).Keeps q := by
  unfold State.sealCheck
  with_reducible repeat' first
    | assumption
    | ((try lift_lets -underBinder); intro x; refine (fun (_ : State.Keeps q x) => ?_) ?_; on_goal 2 => unfold x)
    | ((try lift_lets -underBinder); intro x; have hx : x = x := (by unfold x; rfl); clear hx)
    | refine State.fault_keeps ?_ | refine State.xtSeen_keeps ?_ | refine State.trigger_keeps ?_
    | refine State.passTicks_keeps ?_ | refine State.wakeBy_keeps ?_ | refine State.Keeps.ite ?_ ?_
    | fail_if_no_progress (refine State.Keeps.upd ?_ rfl rfl rfl rfl)

theorem execSealCheck_keeps {follows ticks s} (h : s.Keeps q)
    (hq : q.Off 0x300201946 := by have h := ‹Keep.Off q _›; exact Keep.sub h (by decide)) :
    Kept q (execSealCheck follows ticks s) := by
  unfold execSealCheck
  with_reducible repeat' first | assumption | refine done_keeps ?_ | refine State.sealCheck_keeps ?_

theorem State.sealRecord_keeps {s} (h : s.Keeps q)
    (hq : q.Off 0x200201946 := by have h := ‹Keep.Off q _›; exact Keep.sub h (by decide)) :
    (State.sealRecord s).Keeps q := by
  unfold State.sealRecord
  with_reducible repeat' first
    | assumption | ((try lift_lets -underBinder); intro x; have hx : x = x := (by unfold x; rfl); clear hx)
    | refine State.trigger_keeps ?_ | refine State.Keeps.ite ?_ ?_
    | fail_if_no_progress (refine State.Keeps.upd ?_ rfl rfl rfl rfl)

theorem State.refusePwr_keeps {s cause} (h : s.Keeps q)
    (hq : q.Off 0x200106 := by have h := ‹Keep.Off q _›; exact Keep.sub h (by decide)) :
    (State.refusePwr s cause).Keeps q := by
  unfold State.refusePwr
  with_reducible repeat' first | assumption | refine State.fault_keeps ?_ | refine State.setNat_keeps ?_

theorem State.enterDoze_keeps {s} (h : s.Keeps q)
    (hq : q.Off 0x100602106 := by have h := ‹Keep.Off q _›; exact Keep.sub h (by decide)) :
    (State.enterDoze s).Keeps q := by
  unfold State.enterDoze
  with_reducible repeat' first
    | assumption | refine fun _ => ?_
    | ((try lift_lets -underBinder); intro x; have hx : x = x := (by unfold x; rfl); clear hx)
    | refine State.setPwrState_keeps ?_ | refine State.pinsRefresh_keeps ?_ | refine State.gateOff_keeps ?_
    | refine State.setPwr_keeps ?_ | refine State.Keeps.foldl ?_ ?_

theorem State.beginEntry_keeps {s n} (h : s.Keeps q)
    (hq : q.Off 0x108200106 := by have h := ‹Keep.Off q _›; exact Keep.sub h (by decide)) :
    (State.beginEntry s n).Keeps q := by
  unfold State.beginEntry
  with_reducible repeat' first
    | assumption | refine fun _ => ?_
    | ((try lift_lets -underBinder); intro x; refine (fun (_ : State.Keeps q x) => ?_) ?_; on_goal 2 => unfold x)
    | ((try lift_lets -underBinder); intro x; have hx : x = x := (by unfold x; rfl); clear hx)
    | refine State.setPwrState_keeps ?_ | refine State.setSts_keeps ?_ | refine State.ringFlush_keeps ?_
    | refine State.leaveDoze_keeps ?_ | refine State.setPwr_keeps ?_ | refine State.Keeps.ite ?_ ?_
    | refine State.Keeps.foldl ?_ ?_

theorem State.pwrRequest_keeps {s n seen pins} (h : s.Keeps q)
    (hq : q.Off 0x108602106 := by have h := ‹Keep.Off q _›; exact Keep.sub h (by decide)) :
    (State.pwrRequest s n seen pins).Keeps q := by
  unfold State.pwrRequest
  with_reducible repeat' first
    | assumption | refine State.refusePwr_keeps ?_ | refine State.irq_keeps ?_ | refine State.enterDoze_keeps ?_
    | refine State.abortEntry_keeps ?_ | refine State.beginEntry_keeps ?_ | refine State.leaveDoze_keeps ?_
    | refine State.Keeps.ite ?_ ?_ | split

theorem execPwrReqRun_keeps {u0 s} (h : s.Keeps q)
    (hq : q.Off 0x108603106 := by have h := ‹Keep.Off q _›; exact Keep.sub h (by decide)) :
    Kept q (execPwrReqRun u0 s) := by
  unfold execPwrReqRun
  with_reducible repeat' first
    | assumption | refine fun _ => ?_ | refine done_keeps ?_ | refine State.gate_keeps ?_ ?_
    | refine State.pwrRequest_keeps ?_

theorem execPwrReqDoze_keeps {u0 seen pins s} (h : s.Keeps q)
    (hq : q.Off 0x108603106 := by have h := ‹Keep.Off q _›; exact Keep.sub h (by decide)) :
    Kept q (execPwrReqDoze u0 seen pins s) := by
  unfold execPwrReqDoze
  with_reducible repeat' first
    | assumption | refine fun _ => ?_ | refine done_keeps ?_ | refine State.gate_keeps ?_ ?_
    | refine State.pwrRequest_keeps ?_

theorem execPwrReqRetain_keeps {u0 seen pins s} (h : s.Keeps q)
    (hq : q.Off 0x108603106 := by have h := ‹Keep.Off q _›; exact Keep.sub h (by decide)) :
    Kept q (execPwrReqRetain u0 seen pins s) := by
  unfold execPwrReqRetain
  with_reducible repeat' first
    | assumption | refine fun _ => ?_ | refine done_keeps ?_ | refine State.gate_keeps ?_ ?_
    | refine State.pwrRequest_keeps ?_

theorem execPwrReqHeath_keeps {u0 seen pins s} (h : s.Keeps q)
    (hq : q.Off 0x108603106 := by have h := ‹Keep.Off q _›; exact Keep.sub h (by decide)) :
    Kept q (execPwrReqHeath u0 seen pins s) := by
  unfold execPwrReqHeath
  with_reducible repeat' first
    | assumption | refine fun _ => ?_ | refine done_keeps ?_ | refine State.gate_keeps ?_ ?_
    | refine State.pwrRequest_keeps ?_

theorem execMsgLimitTimeout_keeps {s} (h : s.Keeps q)
    (hq : q.Off 0x100200106 := by have h := ‹Keep.Off q _›; exact Keep.sub h (by decide)) :
    Kept q (execMsgLimitTimeout s) := by
  unfold execMsgLimitTimeout
  with_reducible repeat' first
    | assumption | ((try lift_lets -underBinder); intro x; have hx : x = x := (by unfold x; rfl); clear hx)
    | refine done_keeps ?_ | refine State.fault_keeps ?_ | refine State.setPwr_keeps ?_ | refine State.Keeps.ite ?_ ?_

theorem execRecDrainTimeout_keeps {s} (h : s.Keeps q)
    (hq : q.Off 0x100200106 := by have h := ‹Keep.Off q _›; exact Keep.sub h (by decide)) :
    Kept q (execRecDrainTimeout s) := by
  unfold execRecDrainTimeout
  with_reducible repeat' first
    | assumption | ((try lift_lets -underBinder); intro x; have hx : x = x := (by unfold x; rfl); clear hx)
    | refine done_keeps ?_ | refine State.fault_keeps ?_ | refine State.setPwr_keeps ?_ | refine State.Keeps.ite ?_ ?_

theorem State.releaseAll_keeps {s} (h : s.Keeps q)
    (hq : q.Off 0x837cfbde := by have h := ‹Keep.Off q _›; exact Keep.sub h (by decide)) :
    (State.releaseAll s).Keeps q := by
  unfold State.releaseAll
  with_reducible repeat' first
    | assumption | refine fun _ => ?_
    | ((try lift_lets -underBinder); intro x; refine (fun (_ : State.Keeps q x) => ?_) ?_; on_goal 2 => unfold x)
    | refine State.enterStopped_keeps ?_ | refine State.setBoth_keeps ?_ | refine State.releaseStile_keeps ?_
    | refine State.clearScheduler_keeps ?_ | refine State.Keeps.ite ?_ ?_ | refine State.Keeps.foldl ?_ ?_

theorem State.captureTime_keeps {s} (h : s.Keeps q)
    (hq : q.Off 0x600200706 := by have h := ‹Keep.Off q _›; exact Keep.sub h (by decide)) :
    (State.captureTime s).Keeps q := by
  unfold State.captureTime
  with_reducible repeat' first
    | assumption
    | ((try lift_lets -underBinder); intro x; refine (fun (_ : State.Keeps q x) => ?_) ?_; on_goal 2 => unfold x)
    | ((try lift_lets -underBinder); intro x; have hx : x = x := (by unfold x; rfl); clear hx)
    | refine State.xtSeen_keeps ?_ | refine State.setNat_keeps ?_ | refine State.passTicks_keeps ?_
    | refine State.advance_keeps ?_ | refine State.Keeps.ite ?_ ?_
    | fail_if_no_progress (refine State.Keeps.upd ?_ rfl rfl rfl rfl)

theorem State.storeImage_keeps {s} (h : s.Keeps q)
    (hq : q.Off 0x400000006 := by have h := ‹Keep.Off q _›; exact Keep.sub h (by decide)) :
    (State.storeImage s).Keeps q := by
  unfold State.storeImage
  with_reducible repeat' first
    | assumption
    | ((try lift_lets -underBinder); intro x; refine (fun (_ : State.Keeps q x) => ?_) ?_; on_goal 2 => unfold x)
    | ((try lift_lets -underBinder); intro x; have hx : x = x := (by unfold x; rfl); clear hx)
    | refine State.setNat_keeps ?_ | refine State.addReg_keeps ?_
    | fail_if_no_progress (refine State.Keeps.upd ?_ rfl rfl rfl rfl)

theorem State.fallAsleep_keeps {s} (h : s.Keeps q)
    (hq : q.Off 0x102603386 := by have h := ‹Keep.Off q _›; exact Keep.sub h (by decide)) :
    (State.fallAsleep s).Keeps q := by
  unfold State.fallAsleep
  with_reducible repeat' first
    | assumption
    | ((try lift_lets -underBinder); intro x; refine (fun (_ : State.Keeps q x) => ?_) ?_; on_goal 2 => unfold x)
    | ((try lift_lets -underBinder); intro x; have hx : x = x := (by unfold x; rfl); clear hx)
    | refine State.setSts_keeps ?_ | refine State.pinsRefresh_keeps ?_ | refine State.setRed_keeps ?_
    | refine State.count_keeps ?_ | refine State.Keeps.ite ?_ ?_
    | fail_if_no_progress (refine State.Keeps.upd ?_ rfl rfl rfl rfl)

theorem State.entryProceed_keeps {s} (h : s.Keeps q)
    (hq : q.Off 0x1837cfbde := by have h := ‹Keep.Off q _›; exact Keep.sub h (by decide)) :
    (State.entryProceed s).Keeps q := by
  unfold State.entryProceed
  with_reducible repeat' first
    | assumption
    | ((try lift_lets -underBinder); intro x; refine (fun (_ : State.Keeps q x) => ?_) ?_; on_goal 2 => unfold x)
    | ((try lift_lets -underBinder); intro x; have hx : x = x := (by unfold x; rfl); clear hx)
    | refine State.releaseAll_keeps ?_ | refine State.setPwr_keeps ?_ | refine State.Keeps.ite ?_ ?_

theorem execPowerEntryProceed_keeps {s} (h : s.Keeps q)
    (hq : q.Off 0x1837cfbde := by have h := ‹Keep.Off q _›; exact Keep.sub h (by decide)) :
    Kept q (execPowerEntryProceed s) := by
  unfold execPowerEntryProceed
  with_reducible repeat' first | assumption | refine done_keeps ?_ | refine State.entryProceed_keeps ?_

theorem State.entryCapture_keeps {s micros} (h : s.Keeps q)
    (hq : q.Off 0x702603786 := by have h := ‹Keep.Off q _›; exact Keep.sub h (by decide)) :
    (State.entryCapture s micros).Keeps q := by
  unfold State.entryCapture
  with_reducible repeat' first
    | assumption
    | ((try lift_lets -underBinder); intro x; refine (fun (_ : State.Keeps q x) => ?_) ?_; on_goal 2 => unfold x)
    | refine State.setNat_keeps ?_ | refine State.storeImage_keeps ?_ | refine State.captureTime_keeps ?_
    | refine State.abortEntry_keeps ?_ | refine State.fallAsleep_keeps ?_ | refine State.Keeps.ite ?_ ?_

theorem execTimelineCapture_keeps {micros s} (h : s.Keeps q)
    (hq : q.Off 0x702603786 := by have h := ‹Keep.Off q _›; exact Keep.sub h (by decide)) :
    Kept q (execTimelineCapture micros s) := by
  unfold execTimelineCapture
  with_reducible repeat' first | assumption | refine done_keeps ?_ | refine State.entryCapture_keeps ?_

theorem execIoRampDone_keeps {s} (h : s.Keeps q)
    (hq : q.Off 0x100000000 := by have h := ‹Keep.Off q _›; exact Keep.sub h (by decide)) :
    Kept q (execIoRampDone s) := by
  unfold execIoRampDone
  with_reducible repeat' first
    | assumption | ((try lift_lets -underBinder); intro x; have hx : x = x := (by unfold x; rfl); clear hx)
    | refine done_keeps ?_ | refine State.setPwr_keeps ?_ | refine State.Keeps.ite ?_ ?_

theorem State.startRetained_keeps {s} (h : s.Keeps q)
    (hq : q.Off 0x3102607b56 := by have h := ‹Keep.Off q _›; exact Keep.sub h (by decide)) :
    (State.startRetained s).Keeps q := by
  unfold State.startRetained
  with_reducible repeat' first
    | assumption | refine fun _ => ?_
    | ((try lift_lets -underBinder); intro x; refine (fun (_ : State.Keeps q x) => ?_) ?_; on_goal 2 => unfold x)
    | ((try lift_lets -underBinder); intro x; have hx : x = x := (by unfold x; rfl); clear hx)
    | refine State.setPwrState_keeps ?_ | refine State.clearDue_keeps ?_ | refine State.drainLatches_keeps ?_
    | refine State.linkRefresh_keeps ?_ | refine State.pinsRefresh_keeps ?_ | refine State.setRoot_keeps ?_
    | refine State.setPwr_keeps ?_ | refine State.Keeps.ite ?_ ?_ | refine State.Keeps.foldl ?_ ?_

theorem State.startCold_keeps {s roleB testMode} (h : s.Keeps q)
    (hq : q.Off 0x7ffffffffe := by have h := ‹Keep.Off q _›; exact Keep.sub h (by decide)) :
    (State.startCold s roleB testMode).Keeps q := by
  unfold State.startCold
  with_reducible repeat' first
    | assumption
    | ((try lift_lets -underBinder); intro x; refine (fun (_ : State.Keeps q x) => ?_) ?_; on_goal 2 => unfold x)
    | ((try lift_lets -underBinder); intro x; have hx : x = x := (by unfold x; rfl); clear hx; have hy : Option _ := x; clear hy; clear_value x)
    | ((try lift_lets -underBinder); intro x; have hx : x = x := (by unfold x; rfl); clear hx)
    | refine State.setSts_keeps ?_ | refine State.packageReset_keeps ?_
    | fail_if_no_progress (refine State.Keeps.upd ?_ rfl rfl rfl rfl)

theorem State.startCooled_keeps {s} (h : s.Keeps q)
    (hq : q.Off 0x7ffffffffe := by have h := ‹Keep.Off q _›; exact Keep.sub h (by decide)) :
    (State.startCooled s).Keeps q := by
  unfold State.startCooled
  with_reducible repeat' first
    | assumption
    | ((try lift_lets -underBinder); intro x; refine (fun (_ : State.Keeps q x) => ?_) ?_; on_goal 2 => unfold x)
    | ((try lift_lets -underBinder); intro x; have hx : x = x := (by unfold x; rfl); clear hx)
    | refine State.hardReset_keeps ?_ | refine State.beginStart_keeps ?_
    | fail_if_no_progress (refine State.Keeps.upd ?_ rfl rfl rfl rfl)

theorem State.coreRamped_keeps {s roleB testMode} (h : s.Keeps q)
    (hq : q.Off 0x7ffffffffe := by have h := ‹Keep.Off q _›; exact Keep.sub h (by decide)) :
    (State.coreRamped s roleB testMode).Keeps q := by
  unfold State.coreRamped
  with_reducible repeat' first
    | assumption | refine State.startRetained_keeps ?_ | refine State.startCold_keeps ?_ | refine State.hardReset_keeps ?_
    | refine State.startCooled_keeps ?_ | refine State.beginStart_keeps ?_ | refine State.Keeps.ite ?_ ?_

theorem execCoreRampDone_keeps {roleB testMode s} (h : s.Keeps q)
    (hq : q.Off 0x7ffffffffe := by have h := ‹Keep.Off q _›; exact Keep.sub h (by decide)) :
    Kept q (execCoreRampDone roleB testMode s) := by
  unfold execCoreRampDone
  with_reducible repeat' first | assumption | refine done_keeps ?_ | refine State.coreRamped_keeps ?_

theorem State.coldStart_keeps {s cause} (h : s.Keeps q)
    (hq : q.Off 0x500000200 := by have h := ‹Keep.Off q _›; exact Keep.sub h (by decide)) :
    (State.coldStart s cause).Keeps q := by
  unfold State.coldStart
  with_reducible repeat' first
    | assumption | ((try lift_lets -underBinder); intro x; have hx : x = x := (by unfold x; rfl); clear hx)
    | fail_if_no_progress (refine State.Keeps.upd ?_ rfl rfl rfl rfl)

theorem State.heathBrownout_keeps {s} (h : s.Keeps q)
    (hq : q.Off 0x7ffffffffe := by have h := ‹Keep.Off q _›; exact Keep.sub h (by decide)) :
    (State.heathBrownout s).Keeps q := by
  unfold State.heathBrownout
  with_reducible repeat' first
    | assumption
    | ((try lift_lets -underBinder); intro x; refine (fun (_ : State.Keeps q x) => ?_) ?_; on_goal 2 => unfold x)
    | ((try lift_lets -underBinder); intro x; have hx : x = x := (by unfold x; rfl); clear hx)
    | refine State.coldStart_keeps ?_ | refine State.resetHth_keeps ?_ | refine State.packageReset_keeps ?_
    | refine State.Keeps.ite ?_ ?_ | fail_if_no_progress (refine State.Keeps.upd ?_ rfl rfl rfl rfl)

theorem execHeathBrownout_keeps {s} (h : s.Keeps q)
    (hq : q.Off 0x7ffffffffe := by have h := ‹Keep.Off q _›; exact Keep.sub h (by decide)) :
    Kept q (execHeathBrownout s) := by
  unfold execHeathBrownout
  with_reducible repeat' first | assumption | refine done_keeps ?_ | refine State.heathBrownout_keeps ?_

theorem execFirstApplicationOfVheath_keeps {s} (h : s.Keeps q)
    (hq : q.Off 0x700200306 := by have h := ‹Keep.Off q _›; exact Keep.sub h (by decide)) :
    Kept q (execFirstApplicationOfVheath s) := by
  unfold execFirstApplicationOfVheath
  with_reducible repeat' first
    | assumption | refine done_keeps ?_ | refine State.coldStart_keeps ?_ | refine State.resetHth_keeps ?_

theorem execResetNLow_keeps {s} (h : s.Keeps q)
    (hq : q.Off 0x7ffffffffe := by have h := ‹Keep.Off q _›; exact Keep.sub h (by decide)) :
    Kept q (execResetNLow s) := by
  unfold execResetNLow
  with_reducible repeat' first
    | assumption | refine done_keeps ?_ | refine State.dieReset_keeps ?_ | refine State.wakeBy_keeps ?_
    | refine State.Keeps.ite ?_ ?_

theorem State.woke_keeps {s micros} (h : s.Keeps q)
    (hq : q.Off 0x300201946 := by have h := ‹Keep.Off q _›; exact Keep.sub h (by decide)) :
    (State.woke s micros).Keeps q := by
  unfold State.woke
  with_reducible repeat' first
    | assumption
    | ((try lift_lets -underBinder); intro x; refine (fun (_ : State.Keeps q x) => ?_) ?_; on_goal 2 => unfold x)
    | ((try lift_lets -underBinder); intro x; have hx : x = x := (by unfold x; rfl); clear hx) | refine State.irq_keeps ?_
    | refine State.setPwrState_keeps ?_ | refine State.sealRecord_keeps ?_ | refine State.setNat_keeps ?_
    | refine State.setPwr_keeps ?_

theorem State.timelineRestart_keeps {s ticks micros} (h : s.Keeps q)
    (hq : q.Off 0x700205b46 := by have h := ‹Keep.Off q _›; exact Keep.sub h (by decide)) :
    (State.timelineRestart s ticks micros).Keeps q := by
  unfold State.timelineRestart
  with_reducible repeat' first
    | assumption
    | ((try lift_lets -underBinder); intro x; refine (fun (_ : State.Keeps q x) => ?_) ?_; on_goal 2 => unfold x)
    | ((try lift_lets -underBinder); intro x; have hx : x = x := (by unfold x; rfl); clear hx)
    | refine State.woke_keeps ?_ | refine State.passTicks_keeps ?_ | refine State.tlnSettle_keeps ?_
    | refine State.setTlState_keeps ?_ | refine State.Keeps.ite ?_ ?_
    | fail_if_no_progress (refine State.Keeps.upd ?_ rfl rfl rfl rfl) | split

theorem execTimelineRestart_keeps {ticks micros s} (h : s.Keeps q)
    (hq : q.Off 0x700205b46 := by have h := ‹Keep.Off q _›; exact Keep.sub h (by decide)) :
    Kept q (execTimelineRestart ticks micros s) := by
  unfold execTimelineRestart
  with_reducible repeat' first | assumption | refine done_keeps ?_ | refine State.timelineRestart_keeps ?_

theorem State.linkMoves_keeps {s link} (h : s.Keeps q)
    (hq : q.Off 0x100002106 := by have h := ‹Keep.Off q _›; exact Keep.sub h (by decide)) :
    (State.linkMoves s link).Keeps q := by
  unfold State.linkMoves
  with_reducible repeat' first
    | assumption | refine fun _ => ?_
    | ((try lift_lets -underBinder); intro x; refine (fun (_ : State.Keeps q x) => ?_) ?_; on_goal 2 => unfold x)
    | ((try lift_lets -underBinder); intro x; have hx : x = x := (by unfold x; rfl); clear hx)
    | refine State.msixSend_keeps ?_ | refine State.setPwr_keeps ?_ | refine State.Keeps.ite ?_ ?_
    | refine State.Keeps.foldl ?_ ?_ | fail_if_no_progress (refine State.Keeps.upd ?_ rfl rfl rfl rfl)

theorem execLinkInL0_keeps {link s} (h : s.Keeps q)
    (hq : q.Off 0x100002106 := by have h := ‹Keep.Off q _›; exact Keep.sub h (by decide)) :
    Kept q (execLinkInL0 link s) := by
  unfold execLinkInL0
  with_reducible repeat' first
    | assumption | refine done_keeps ?_ | refine State.linkMoves_keeps ?_ | refine State.Keeps.ite ?_ ?_

theorem State.pwrCommit_keeps {s} (h : s.Keeps q)
    (hq : q.Off 0x60218e := by have h := ‹Keep.Off q _›; exact Keep.sub h (by decide)) :
    (State.pwrCommit s).Keeps q := by
  unfold State.pwrCommit
  with_reducible repeat' first
    | assumption | refine fun _ => ?_
    | ((try lift_lets -underBinder); intro x; have hx : x = x := (by unfold x; rfl); clear hx)
    | refine State.commitPoint_keeps ?_ ?_ | refine State.Keeps.id_ ?_

end Sys2Proof.Machine
end

