-- ==== Sys2Proof/Laws/KeepsView.lean ====
section
/-!
SUPPORT. What the operations of Machine/View.lean keep.
-/
set_option Elab.async false
namespace Sys2Proof.Machine

variable {q : Keep}

theorem State.cntLatch_keeps {s r n} (h : s.Keeps q)
    (hq : q.Off 0x1000 := by have h := ‹Keep.Off q _›; exact Keep.sub h (by decide)) :
    (State.cntLatch s r n).Keeps q := by
  unfold State.cntLatch
  with_reducible repeat' first
    | assumption | ((try lift_lets -underBinder); intro x; have hx : x = x := (by unfold x; rfl); clear hx)
    | fail_if_no_progress (refine State.Keeps.upd ?_ rfl rfl rfl rfl)

theorem State.htickLatch_keeps {s r} (h : s.Keeps q)
    (hq : q.Off 0x200000000 := by have h := ‹Keep.Off q _›; exact Keep.sub h (by decide)) :
    (State.htickLatch s r).Keeps q := by
  unfold State.htickLatch
  with_reducible repeat' first
    | assumption | ((try lift_lets -underBinder); intro x; have hx : x = x := (by unfold x; rfl); clear hx)
    | fail_if_no_progress (refine State.Keeps.upd ?_ rfl rfl rfl rfl)

theorem State.trigStep_keeps {s} (h : s.Keeps q)
    (hq : q.Off 0x6 := by have h := ‹Keep.Off q _›; exact Keep.sub h (by decide)) : (State.trigStep s).Keeps q := by
  unfold State.trigStep
  with_reducible repeat' first
    | assumption | ((try lift_lets -underBinder); intro x; have hx : x = x := (by unfold x; rfl); clear hx)
    | refine State.setReg_keeps ?_ | refine State.Keeps.ite ?_ ?_

theorem State.clearPeak_keeps {s} (h : s.Keeps q)
    (hq : q.Off 0x6 := by have h := ‹Keep.Off q _›; exact Keep.sub h (by decide)) : (State.clearPeak s).Keeps q := by
  unfold State.clearPeak
  with_reducible repeat' first | assumption | refine State.setNat_keeps ?_

theorem State.clearTPeak_keeps {s} (h : s.Keeps q)
    (hq : q.Off 0x6 := by have h := ‹Keep.Off q _›; exact Keep.sub h (by decide)) : (State.clearTPeak s).Keeps q := by
  unfold State.clearTPeak
  with_reducible repeat' first | assumption | refine State.setReg_keeps ?_

theorem State.readEffect_keeps {s q1 page off} (h : s.Keeps q)
    (hq : q.Off 0x220203306 := by have h := ‹Keep.Off q _›; exact Keep.sub h (by decide)) :
    (State.readEffect s q1 page off).Keeps q := by
  unfold State.readEffect
  with_reducible repeat' first
    | assumption
    | ((try lift_lets -underBinder); intro x; refine (fun (_ : State.Keeps q x) => ?_) ?_; on_goal 2 => unfold x)
    | ((try lift_lets -underBinder); intro x; have hx : x = x := (by unfold x; rfl); clear hx)
    | refine State.tsqRead_keeps ?_ | refine State.trigStep_keeps ?_ | refine State.clearPeak_keeps ?_
    | refine State.cntLatch_keeps ?_ | refine State.clearTPeak_keeps ?_ | refine State.setNat_keeps ?_
    | refine State.queueError_keeps ?_ | refine State.claimRead_keeps ?_ | refine State.nowLatch_keeps ?_
    | refine State.htickLatch_keeps ?_ | refine State.Keeps.ite ?_ ?_
    | fail_if_no_progress (refine State.Keeps.upd ?_ rfl rfl rfl rfl) | split

theorem State.readReg_keeps {s q1 page off} (h : s.Keeps q)
    (hq : q.Off 0x220203306 := by have h := ‹Keep.Off q _›; exact Keep.sub h (by decide)) :
    (State.readReg s q1 page off).2.Keeps q := by
  unfold State.readReg
  with_reducible repeat' first | assumption | refine State.readEffect_keeps ?_ | refine State.Keeps.ite ?_ ?_

theorem execTPeakRead_keeps {u0 s} (h : s.Keeps q)
    (hq : q.Off 0x203106 := by have h := ‹Keep.Off q _›; exact Keep.sub h (by decide)) :
    Kept q (execTPeakRead u0 s) := by
  unfold execTPeakRead
  with_reducible repeat' first
    | assumption | refine fun _ => ?_ | refine done_keeps ?_ | refine State.clearTPeak_keeps ?_
    | refine State.access_keeps ?_ ?_ | refine State.emit_keeps ?_

theorem execCntLoRead_keeps {req n s} (h : s.Keeps q)
    (hq : q.Off 0x203106 := by have h := ‹Keep.Off q _›; exact Keep.sub h (by decide)) :
    Kept q (execCntLoRead req n s) := by
  unfold execCntLoRead
  with_reducible repeat' first
    | assumption | refine fun _ => ?_ | refine done_keeps ?_ | refine State.cntLatch_keeps ?_
    | refine State.access_keeps ?_ ?_ | refine State.emit_keeps ?_

theorem execPendingPeakRead_keeps {u0 s} (h : s.Keeps q)
    (hq : q.Off 0x203106 := by have h := ‹Keep.Off q _›; exact Keep.sub h (by decide)) :
    Kept q (execPendingPeakRead u0 s) := by
  unfold execPendingPeakRead
  with_reducible repeat' first
    | assumption | refine fun _ => ?_ | refine done_keeps ?_ | refine State.clearPeak_keeps ?_
    | refine State.access_keeps ?_ ?_ | refine State.emit_keeps ?_

end Sys2Proof.Machine
end

