-- ==== Sys2Proof/Laws/KeepsRecorder.lean ====
section
/-!
SUPPORT. What the operations of Machine/Recorder.lean keep.
-/
set_option Elab.async false
namespace Sys2Proof.Machine

variable {q : Keep}

theorem State.takeSpan_keeps {s g} (h : s.Keeps q)
    (hq : q.Off 0x800 := by have h := ‹Keep.Off q _›; exact Keep.sub h (by decide)) :
    (State.takeSpan s g).2.Keeps q := by
  unfold State.takeSpan
  with_reducible repeat' first
    | assumption
    | ((try lift_lets -underBinder); intro x; have hx : x = x := (by unfold x; rfl); clear hx; have hy : List _ := x; clear hy; clear_value x)
    | ((try lift_lets -underBinder); intro x; have hx : x = x := (by unfold x; rfl); clear hx)
    | refine State.setStatGroup_keeps ?_

theorem State.closeSpan_keeps {s g cfg} (h : s.Keeps q)
    (hq : q.Off 0x201946 := by have h := ‹Keep.Off q _›; exact Keep.sub h (by decide)) :
    (State.closeSpan s g cfg).Keeps q := by
  unfold State.closeSpan
  with_reducible repeat' first
    | assumption
    | ((try lift_lets -underBinder); intro x; refine (fun (_ : State.Keeps q x) => ?_) ?_; on_goal 2 => unfold x)
    | ((try lift_lets -underBinder); intro x; have hx : x = x := (by unfold x; rfl); clear hx)
    | refine State.evrPush_keeps ?_ | refine State.setStatGroup_keeps ?_ | refine State.Keeps.ite ?_ ?_

theorem State.closeNow_keeps {s g cfg} (h : s.Keeps q)
    (hq : q.Off 0x8201946 := by have h := ‹Keep.Off q _›; exact Keep.sub h (by decide)) :
    (State.closeNow s g cfg).Keeps q := by
  unfold State.closeNow
  with_reducible repeat' first
    | assumption | refine fun _ => ?_ | refine State.closeSpan_keeps ?_ | refine State.macMs_keeps ?_
    | refine State.Keeps.foldl ?_ ?_

theorem State.spanClose_keeps {s g} (h : s.Keeps q)
    (hq : q.Off 0x8201f46 := by have h := ‹Keep.Off q _›; exact Keep.sub h (by decide)) :
    (State.spanClose s g).Keeps q := by
  unfold State.spanClose
  with_reducible repeat' first
    | assumption | refine fun _ => ?_
    | ((try lift_lets -underBinder); intro x; have hx : x = x := (by unfold x; rfl); clear hx)
    | refine State.atTick_keeps ?_ ?_ | refine State.closeNow_keeps ?_ | refine State.Keeps.ite ?_ ?_

theorem execStatSpanClose_keeps {group s} (h : s.Keeps q)
    (hq : q.Off 0x8201f46 := by have h := ‹Keep.Off q _›; exact Keep.sub h (by decide)) :
    Kept q (execStatSpanClose group s) := by
  unfold execStatSpanClose
  with_reducible repeat' first | assumption | refine done_keeps ?_ | refine State.spanClose_keeps ?_

theorem execRecorderTrigger_keeps {code page s} (h : s.Keeps q)
    (hq : q.Off 0x201946 := by have h := ‹Keep.Off q _›; exact Keep.sub h (by decide)) :
    Kept q (execRecorderTrigger code page s) := by
  unfold execRecorderTrigger
  with_reducible repeat' first
    | assumption | refine done_keeps ?_ | refine State.trigger_keeps ?_ | refine State.Keeps.ite ?_ ?_

theorem State.refill_keeps {s code} (h : s.Keeps q)
    (hq : q.Off 0x200f06 := by have h := ‹Keep.Off q _›; exact Keep.sub h (by decide)) :
    (State.refill s code).Keeps q := by
  unfold State.refill
  with_reducible repeat' first
    | assumption | refine fun _ => ?_
    | ((try lift_lets -underBinder); intro x; have hx : x = x := (by unfold x; rfl); clear hx)
    | refine State.atTick_keeps ?_ ?_ | refine State.Keeps.ite ?_ ?_
    | fail_if_no_progress (refine State.Keeps.upd ?_ rfl rfl rfl rfl)

theorem execTokenRefill_keeps {code s} (h : s.Keeps q)
    (hq : q.Off 0x200f06 := by have h := ‹Keep.Off q _›; exact Keep.sub h (by decide)) :
    Kept q (execTokenRefill code s) := by
  unfold execTokenRefill
  with_reducible repeat' first | assumption | refine done_keeps ?_ | refine State.refill_keeps ?_

theorem State.beginRecord_keeps {s d} (h : s.Keeps q)
    (hq : q.Off 0x816 := by have h := ‹Keep.Off q _›; exact Keep.sub h (by decide)) :
    (State.beginRecord s d).Keeps q := by
  unfold State.beginRecord
  with_reducible repeat' first
    | assumption
    | ((try lift_lets -underBinder); intro x; refine (fun (_ : State.Keeps q x) => ?_) ?_; on_goal 2 => unfold x)
    | ((try lift_lets -underBinder); intro x; have hx : x = x := (by unfold x; rfl); clear hx)
    | refine State.setSts_keeps ?_ | refine State.setBytes_keeps ?_
    | fail_if_no_progress (refine State.Keeps.upd ?_ rfl rfl rfl rfl)

theorem State.nextRecord_keeps {s} (h : s.Keeps q)
    (hq : q.Off 0x201956 := by have h := ‹Keep.Off q _›; exact Keep.sub h (by decide)) :
    (State.nextRecord s).Keeps q := by
  unfold State.nextRecord
  with_reducible repeat' first
    | assumption
    | ((try lift_lets -underBinder); intro x; refine (fun (_ : State.Keeps q x) => ?_) ?_; on_goal 2 => unfold x)
    | ((try lift_lets -underBinder); intro x; refine (fun (_ : State.Keeps q x.2) => ?_) ?_; on_goal 2 => unfold x)
    | ((try lift_lets -underBinder); intro x; have hx : x = x := (by unfold x; rfl); clear hx)
    | refine State.takeSpan_keeps ?_ | refine State.beginRecord_keeps ?_ | refine State.queuePop_keeps ?_
    | refine State.Keeps.ite ?_ ?_ | split

theorem execRecordBegin_keeps {s} (h : s.Keeps q)
    (hq : q.Off 0x201956 := by have h := ‹Keep.Off q _›; exact Keep.sub h (by decide)) :
    Kept q (execRecordBegin s) := by
  unfold execRecordBegin
  with_reducible repeat' first | assumption | refine done_keeps ?_ | refine State.nextRecord_keeps ?_

theorem State.setNextSeq_keeps {s n} (h : s.Keeps q)
    (hq : q.Off 0x6 := by have h := ‹Keep.Off q _›; exact Keep.sub h (by decide)) :
    (State.setNextSeq s n).Keeps q := by
  unfold State.setNextSeq
  with_reducible repeat' first | assumption | refine State.setNat_keeps ?_

theorem State.setFrozen_keeps {s b} (h : s.Keeps q)
    (hq : q.Off 0x200906 := by have h := ‹Keep.Off q _›; exact Keep.sub h (by decide)) :
    (State.setFrozen s b).Keeps q := by
  unfold State.setFrozen
  with_reducible repeat' first
    | assumption
    | ((try lift_lets -underBinder); intro x; refine (fun (_ : State.Keeps q x) => ?_) ?_; on_goal 2 => unfold x)
    | ((try lift_lets -underBinder); intro x; have hx : x = x := (by unfold x; rfl); clear hx) | refine State.irq_keeps ?_
    | refine State.setSts_keeps ?_ | refine State.Keeps.ite ?_ ?_
    | fail_if_no_progress (refine State.Keeps.upd ?_ rfl rfl rfl rfl)

theorem State.crossRef_keeps {s d} (h : s.Keeps q)
    (hq : q.Off 0x2203946 := by have h := ‹Keep.Off q _›; exact Keep.sub h (by decide)) :
    (State.crossRef s d).Keeps q := by
  unfold State.crossRef
  with_reducible repeat' first | assumption | refine State.tsxSend_keeps ?_ | refine State.Keeps.ite ?_ ?_

theorem State.endRecord_keeps {s} (h : s.Keeps q)
    (hq : q.Off 0x2203956 := by have h := ‹Keep.Off q _›; exact Keep.sub h (by decide)) :
    (State.endRecord s).Keeps q := by
  unfold State.endRecord
  with_reducible repeat' first
    | assumption
    | ((try lift_lets -underBinder); intro x; refine (fun (_ : State.Keeps q x) => ?_) ?_; on_goal 2 => unfold x)
    | ((try lift_lets -underBinder); intro x; have hx : x = x := (by unfold x; rfl); clear hx) | refine State.irq_keeps ?_
    | refine State.setSts_keeps ?_ | refine State.setFrozen_keeps ?_ | refine State.inc_keeps ?_
    | refine State.setNextSeq_keeps ?_ | refine State.crossRef_keeps ?_ | refine State.count_keeps ?_
    | refine State.setBytes_keeps ?_ | refine State.Keeps.ite ?_ ?_
    | fail_if_no_progress (refine State.Keeps.upd ?_ rfl rfl rfl rfl) | split

theorem execRecordComplete_keeps {s} (h : s.Keeps q)
    (hq : q.Off 0x2203956 := by have h := ‹Keep.Off q _›; exact Keep.sub h (by decide)) :
    Kept q (execRecordComplete s) := by
  unfold execRecordComplete
  with_reducible repeat' first
    | assumption | refine done_keeps ?_ | refine State.endRecord_keeps ?_ | refine State.Keeps.ite ?_ ?_

theorem State.freeze_keeps {s} (h : s.Keeps q)
    (hq : q.Off 0x200906 := by have h := ‹Keep.Off q _›; exact Keep.sub h (by decide)) : (State.freeze s).Keeps q := by
  unfold State.freeze
  with_reducible repeat' first
    | assumption | ((try lift_lets -underBinder); intro x; have hx : x = x := (by unfold x; rfl); clear hx)
    | refine State.setFrozen_keeps ?_ | refine State.Keeps.ite ?_ ?_
    | fail_if_no_progress (refine State.Keeps.upd ?_ rfl rfl rfl rfl)

theorem State.thaw_keeps {s} (h : s.Keeps q)
    (hq : q.Off 0x200906 := by have h := ‹Keep.Off q _›; exact Keep.sub h (by decide)) : (State.thaw s).Keeps q := by
  unfold State.thaw
  with_reducible repeat' first
    | assumption | ((try lift_lets -underBinder); intro x; have hx : x = x := (by unfold x; rfl); clear hx)
    | refine State.setFrozen_keeps ?_ | refine State.Keeps.ite ?_ ?_
    | fail_if_no_progress (refine State.Keeps.upd ?_ rfl rfl rfl rfl)

theorem State.erase_keeps {s} (h : s.Keeps q)
    (hq : q.Off 0x201946 := by have h := ‹Keep.Off q _›; exact Keep.sub h (by decide)) : (State.erase s).Keeps q := by
  unfold State.erase
  with_reducible repeat' first
    | assumption | refine State.fault_keeps ?_ | refine State.setSts_keeps ?_ | refine State.trigger_keeps ?_
    | refine State.Keeps.ite ?_ ?_

theorem State.evrAction_keeps {s v} (h : s.Keeps q)
    (hq : q.Off 0x201946 := by have h := ‹Keep.Off q _›; exact Keep.sub h (by decide)) :
    (State.evrAction s v).Keeps q := by
  unfold State.evrAction
  with_reducible repeat' first
    | assumption
    | ((try lift_lets -underBinder); intro x; refine (fun (_ : State.Keeps q x) => ?_) ?_; on_goal 2 => unfold x)
    | refine State.freeze_keeps ?_ | refine State.thaw_keeps ?_ | refine State.erase_keeps ?_
    | refine State.Keeps.ite ?_ ?_

theorem execFreeze_keeps {u0 s} (h : s.Keeps q)
    (hq : q.Off 0x201906 := by have h := ‹Keep.Off q _›; exact Keep.sub h (by decide)) : Kept q (execFreeze u0 s) := by
  unfold execFreeze
  with_reducible repeat' first
    | assumption | refine fun _ => ?_ | refine done_keeps ?_ | refine State.freeze_keeps ?_
    | refine State.gate_keeps ?_ ?_

theorem execThaw_keeps {u0 s} (h : s.Keeps q)
    (hq : q.Off 0x201906 := by have h := ‹Keep.Off q _›; exact Keep.sub h (by decide)) : Kept q (execThaw u0 s) := by
  unfold execThaw
  with_reducible repeat' first
    | assumption | refine fun _ => ?_ | refine done_keeps ?_ | refine State.thaw_keeps ?_ | refine State.gate_keeps ?_ ?_

theorem State.presence_keeps {s low} (h : s.Keeps q)
    (hq : q.Off 0x80 := by have h := ‹Keep.Off q _›; exact Keep.sub h (by decide)) :
    (State.presence s low).Keeps q := by
  unfold State.presence
  with_reducible repeat' first
    | assumption | ((try lift_lets -underBinder); intro x; have hx : x = x := (by unfold x; rfl); clear hx)
    | fail_if_no_progress (refine State.Keeps.upd ?_ rfl rfl rfl rfl)

theorem execErase_keeps {u0 presenceLow s} (h : s.Keeps q)
    (hq : q.Off 0x2019c6 := by have h := ‹Keep.Off q _›; exact Keep.sub h (by decide)) :
    Kept q (execErase u0 presenceLow s) := by
  unfold execErase
  with_reducible repeat' first
    | assumption | refine fun _ => ?_ | refine done_keeps ?_ | refine State.erase_keeps ?_ | refine State.gate_keeps ?_ ?_
    | refine State.presence_keeps ?_

theorem State.freezeExpire_keeps {s} (h : s.Keeps q)
    (hq : q.Off 0x201f46 := by have h := ‹Keep.Off q _›; exact Keep.sub h (by decide)) :
    (State.freezeExpire s).Keeps q := by
  unfold State.freezeExpire
  with_reducible repeat' first
    | assumption | refine fun _ => ?_ | refine State.fault_keeps ?_ | refine State.thaw_keeps ?_
    | refine State.trigger_keeps ?_ | refine State.atTime_keeps ?_ ?_ | refine State.Keeps.ite ?_ ?_

theorem execFreezeExpire_keeps {s} (h : s.Keeps q)
    (hq : q.Off 0x201f46 := by have h := ‹Keep.Off q _›; exact Keep.sub h (by decide)) :
    Kept q (execFreezeExpire s) := by
  unfold execFreezeExpire
  with_reducible repeat' first | assumption | refine done_keeps ?_ | refine State.freezeExpire_keeps ?_

theorem State.eraseRecord_keeps {s} (h : s.Keeps q)
    (hq : q.Off 0x201946 := by have h := ‹Keep.Off q _›; exact Keep.sub h (by decide)) :
    (State.eraseRecord s).Keeps q := by
  unfold State.eraseRecord
  with_reducible repeat' first
    | assumption | ((try lift_lets -underBinder); intro x; have hx : x = x := (by unfold x; rfl); clear hx)
    | refine State.trigger_keeps ?_ | refine State.evrPush_keeps ?_ | refine State.Keeps.ite ?_ ?_
    | fail_if_no_progress (refine State.Keeps.upd ?_ rfl rfl rfl rfl)

theorem State.eraseDone_keeps {s} (h : s.Keeps q)
    (hq : q.Off 0x201956 := by have h := ‹Keep.Off q _›; exact Keep.sub h (by decide)) :
    (State.eraseDone s).Keeps q := by
  unfold State.eraseDone
  with_reducible repeat' first
    | assumption | refine State.setSts_keeps ?_ | refine State.eraseRecord_keeps ?_ | refine State.zeroBytes_keeps ?_
    | refine State.Keeps.ite ?_ ?_

theorem execEraseDone_keeps {s} (h : s.Keeps q)
    (hq : q.Off 0x201956 := by have h := ‹Keep.Off q _›; exact Keep.sub h (by decide)) : Kept q (execEraseDone s) := by
  unfold execEraseDone
  with_reducible repeat' first
    | assumption | refine done_keeps ?_ | refine State.eraseDone_keeps ?_ | refine State.Keeps.ite ?_ ?_

theorem State.scanEnd_keeps {s last torn} (h : s.Keeps q)
    (hq : q.Off 0x201946 := by have h := ‹Keep.Off q _›; exact Keep.sub h (by decide)) :
    (State.scanEnd s last torn).Keeps q := by
  unfold State.scanEnd
  with_reducible repeat' first
    | assumption
    | ((try lift_lets -underBinder); intro x; refine (fun (_ : State.Keeps q x) => ?_) ?_; on_goal 2 => unfold x)
    | ((try lift_lets -underBinder); intro x; have hx : x = x := (by unfold x; rfl); clear hx)
    | refine State.fault_keeps ?_ | refine State.setSts_keeps ?_ | refine State.trigger_keeps ?_
    | refine State.setNat_keeps ?_ | refine State.setNextSeq_keeps ?_ | refine State.Keeps.ite ?_ ?_
    | fail_if_no_progress (refine State.Keeps.upd ?_ rfl rfl rfl rfl)

theorem State.scanDone_keeps {s} (h : s.Keeps q)
    (hq : q.Off 0x201946 := by have h := ‹Keep.Off q _›; exact Keep.sub h (by decide)) :
    (State.scanDone s).Keeps q := by
  unfold State.scanDone
  with_reducible repeat' first
    | assumption | ((try lift_lets -underBinder); intro x; have hx : x = x := (by unfold x; rfl); clear hx)
    | refine State.scanEnd_keeps ?_ | refine State.Keeps.ite ?_ ?_

theorem execRecorderScan_keeps {s} (h : s.Keeps q)
    (hq : q.Off 0x201946 := by have h := ‹Keep.Off q _›; exact Keep.sub h (by decide)) :
    Kept q (execRecorderScan s) := by
  unfold execRecorderScan
  with_reducible repeat' first
    | assumption | refine done_keeps ?_ | refine State.scanDone_keeps ?_ | refine State.Keeps.ite ?_ ?_

theorem State.evrCtrl_keeps {s en st} (h : s.Keeps q)
    (hq : q.Off 0x6 := by have h := ‹Keep.Off q _›; exact Keep.sub h (by decide)) :
    (State.evrCtrl s en st).Keeps q := by
  unfold State.evrCtrl
  with_reducible repeat' first
    | assumption
    | ((try lift_lets -underBinder); intro x; refine (fun (_ : State.Keeps q x) => ?_) ?_; on_goal 2 => unfold x)
    | refine State.setSts_keeps ?_ | refine State.setGroupState_keeps ?_ | refine State.Keeps.ite ?_ ?_

theorem State.trigWrite_keeps {s v} (h : s.Keeps q)
    (hq : q.Off 0x200906 := by have h := ‹Keep.Off q _›; exact Keep.sub h (by decide)) :
    (State.trigWrite s v).Keeps q := by
  unfold State.trigWrite
  with_reducible repeat' first
    | assumption | ((try lift_lets -underBinder); intro x; have hx : x = x := (by unfold x; rfl); clear hx)
    | refine State.trigStep_keeps ?_ | refine State.badValue_keeps ?_ | refine State.Keeps.ite ?_ ?_
    | fail_if_no_progress (refine State.Keeps.upd ?_ rfl rfl rfl rfl)

theorem State.trigRead_keeps {s} (h : s.Keeps q)
    (hq : q.Off 0x2006 := by have h := ‹Keep.Off q _›; exact Keep.sub h (by decide)) : (State.trigRead s).Keeps q := by
  unfold State.trigRead
  with_reducible repeat' first | assumption | refine State.trigStep_keeps ?_ | refine State.emit_keeps ?_

theorem execTrigDataAccess_keeps {u0 write s} (h : s.Keeps q)
    (hq : q.Off 0x203906 := by have h := ‹Keep.Off q _›; exact Keep.sub h (by decide)) :
    Kept q (execTrigDataAccess u0 write s) := by
  unfold execTrigDataAccess
  with_reducible repeat' first
    | assumption | refine fun _ => ?_ | refine done_keeps ?_ | refine State.gate_keeps ?_ ?_
    | refine State.trigWrite_keeps ?_ | refine State.trigRead_keeps ?_ | refine State.access_keeps ?_ ?_ | split

theorem State.statCommit_keeps {old s g} (h : old.Keeps q) (hs : s.Keeps q)
    (hq : q.Off 0x201b46 := by have h := ‹Keep.Off q _›; exact Keep.sub h (by decide)) :
    (State.statCommit old s g).Keeps q := by
  unfold State.statCommit
  with_reducible repeat' first
    | assumption
    | ((try lift_lets -underBinder); intro x; refine (fun (_ : State.Keeps q x) => ?_) ?_; on_goal 2 => unfold x)
    | ((try lift_lets -underBinder); intro x; have hx : x = x := (by unfold x; rfl); clear hx)
    | refine State.ticked_keeps ?_ | refine State.closeSpan_keeps ?_ | refine State.setStatGroup_keeps ?_
    | refine State.Keeps.ite ?_ ?_

theorem State.evrCommit_keeps {s} (h : s.Keeps q)
    (hq : q.Off 0x8603bce := by have h := ‹Keep.Off q _›; exact Keep.sub h (by decide)) :
    (State.evrCommit s).Keeps q := by
  unfold State.evrCommit
  with_reducible repeat' first
    | assumption | refine fun _ => ?_
    | ((try lift_lets -underBinder); intro x; refine (fun (_ : State.Keeps q x) => ?_) ?_; on_goal 2 => unfold x)
    | refine State.commitPoint_keeps ?_ ?_ | refine State.statCommit_keeps ?_ ?_ | refine State.macMs_keeps ?_
    | refine State.Keeps.foldl ?_ ?_

theorem State.cntStage_keeps {s r v} (h : s.Keeps q)
    (hq : q.Off 0x1000 := by have h := ‹Keep.Off q _›; exact Keep.sub h (by decide)) :
    (State.cntStage s r v).Keeps q := by
  unfold State.cntStage
  with_reducible repeat' first
    | assumption | ((try lift_lets -underBinder); intro x; have hx : x = x := (by unfold x; rfl); clear hx)
    | fail_if_no_progress (refine State.Keeps.upd ?_ rfl rfl rfl rfl)

theorem State.cntLoad_keeps {s r n v} (h : s.Keeps q)
    (hq : q.Off 0x1000 := by have h := ‹Keep.Off q _›; exact Keep.sub h (by decide)) :
    (State.cntLoad s r n v).Keeps q := by
  unfold State.cntLoad
  with_reducible repeat' first
    | assumption | ((try lift_lets -underBinder); intro x; have hx : x = x := (by unfold x; rfl); clear hx)
    | refine State.Keeps.ite ?_ ?_ | fail_if_no_progress (refine State.Keeps.upd ?_ rfl rfl rfl rfl)

theorem execCntLoWrite_keeps {req n value s} (h : s.Keeps q)
    (hq : q.Off 0x201106 := by have h := ‹Keep.Off q _›; exact Keep.sub h (by decide)) :
    Kept q (execCntLoWrite req n value s) := by
  unfold execCntLoWrite
  with_reducible repeat' first
    | assumption | refine fun _ => ?_ | refine done_keeps ?_ | refine State.gate_keeps ?_ ?_
    | refine State.cntLoad_keeps ?_

theorem execCntHiWrite_keeps {req u1 value s} (h : s.Keeps q)
    (hq : q.Off 0x201106 := by have h := ‹Keep.Off q _›; exact Keep.sub h (by decide)) :
    Kept q (execCntHiWrite req u1 value s) := by
  unfold execCntHiWrite
  with_reducible repeat' first
    | assumption | refine fun _ => ?_ | refine done_keeps ?_ | refine State.gate_keeps ?_ ?_
    | refine State.cntStage_keeps ?_

theorem State.dumpAdvance_keeps {s n} (h : s.Keeps q)
    (hq : q.Off 0x201106 := by have h := ‹Keep.Off q _›; exact Keep.sub h (by decide)) :
    (State.dumpAdvance s n).Keeps q := by
  unfold State.dumpAdvance
  with_reducible repeat' first
    | assumption
    | ((try lift_lets -underBinder); intro x; refine (fun (_ : State.Keeps q x) => ?_) ?_; on_goal 2 => unfold x)
    | ((try lift_lets -underBinder); intro x; have hx : x = x := (by unfold x; rfl); clear hx) | refine State.irq_keeps ?_
    | refine State.setNat_keeps ?_ | refine State.inc_keeps ?_ | refine State.Keeps.ite ?_ ?_
    | fail_if_no_progress (refine State.Keeps.upd ?_ rfl rfl rfl rfl)

theorem State.dumpPut_keeps {s n time f} (h : s.Keeps q)
    (hq : q.Off 0x2203956 := by have h := ‹Keep.Off q _›; exact Keep.sub h (by decide)) :
    (State.dumpPut s n time f).Keeps q := by
  unfold State.dumpPut
  with_reducible repeat' first
    | assumption
    | ((try lift_lets -underBinder); intro x; refine (fun (_ : State.Keeps q x) => ?_) ?_; on_goal 2 => unfold x)
    | ((try lift_lets -underBinder); intro x; have hx : x = x := (by unfold x; rfl); clear hx)
    | refine State.dumpAdvance_keeps ?_ | refine State.hwBytes_keeps ?_ | refine State.Keeps.ite ?_ ?_

theorem State.dumpGap_keeps {s t} (h : s.Keeps q)
    (hq : q.Off 0x2203956 := by have h := ‹Keep.Off q _›; exact Keep.sub h (by decide)) :
    (State.dumpGap s t).Keeps q := by
  unfold State.dumpGap
  with_reducible repeat' first
    | assumption
    | ((try lift_lets -underBinder); intro x; refine (fun (_ : State.Keeps q x) => ?_) ?_; on_goal 2 => unfold x)
    | ((try lift_lets -underBinder); intro x; have hx : x = x := (by unfold x; rfl); clear hx)
    | refine State.dumpPut_keeps ?_ | refine State.Keeps.ite ?_ ?_
    | fail_if_no_progress (refine State.Keeps.upd ?_ rfl rfl rfl rfl)

theorem State.dumpSkip_keeps {s} (h : s.Keeps q)
    (hq : q.Off 0x1006 := by have h := ‹Keep.Off q _›; exact Keep.sub h (by decide)) : (State.dumpSkip s).Keeps q := by
  unfold State.dumpSkip
  with_reducible repeat' first
    | assumption | ((try lift_lets -underBinder); intro x; have hx : x = x := (by unfold x; rfl); clear hx)
    | refine State.inc_keeps ?_ | fail_if_no_progress (refine State.Keeps.upd ?_ rfl rfl rfl rfl)

theorem State.dumpAt_keeps {s t busy} (h : s.Keeps q)
    (hq : q.Off 0x2203956 := by have h := ‹Keep.Off q _›; exact Keep.sub h (by decide)) :
    (State.dumpAt s t busy).Keeps q := by
  unfold State.dumpAt
  with_reducible repeat' first
    | assumption
    | ((try lift_lets -underBinder); intro x; refine (fun (_ : State.Keeps q x) => ?_) ?_; on_goal 2 => unfold x)
    | ((try lift_lets -underBinder); intro x; have hx : x = x := (by unfold x; rfl); clear hx)
    | refine State.dumpSkip_keeps ?_ | refine State.dumpPut_keeps ?_ | refine State.dumpGap_keeps ?_
    | refine State.Keeps.ite ?_ ?_ | fail_if_no_progress (refine State.Keeps.upd ?_ rfl rfl rfl rfl)

theorem State.counterDump_keeps {s busy} (h : s.Keeps q)
    (hq : q.Off 0x2203f56 := by have h := ‹Keep.Off q _›; exact Keep.sub h (by decide)) :
    (State.counterDump s busy).Keeps q := by
  unfold State.counterDump
  with_reducible repeat' first
    | assumption | refine fun _ => ?_
    | ((try lift_lets -underBinder); intro x; have hx : x = x := (by unfold x; rfl); clear hx)
    | refine State.dumpAt_keeps ?_ | refine State.atTick_keeps ?_ ?_ | refine State.Keeps.ite ?_ ?_

theorem execCounterDump_keeps {busy s} (h : s.Keeps q)
    (hq : q.Off 0x2203f56 := by have h := ‹Keep.Off q _›; exact Keep.sub h (by decide)) :
    Kept q (execCounterDump busy s) := by
  unfold execCounterDump
  with_reducible repeat' first | assumption | refine done_keeps ?_ | refine State.counterDump_keeps ?_

theorem State.pmcCommit_keeps {s} (h : s.Keeps q)
    (hq : q.Off 0x60318e := by have h := ‹Keep.Off q _›; exact Keep.sub h (by decide)) :
    (State.pmcCommit s).Keeps q := by
  unfold State.pmcCommit
  with_reducible repeat' first
    | assumption | refine fun _ => ?_
    | ((try lift_lets -underBinder); intro x; refine (fun (_ : State.Keeps q x) => ?_) ?_; on_goal 2 => unfold x)
    | ((try lift_lets -underBinder); intro x; have hx : x = x := (by unfold x; rfl); clear hx)
    | refine State.setNat_keeps ?_ | refine State.commitPoint_keeps ?_ ?_ | refine State.Keeps.ite ?_ ?_
    | fail_if_no_progress (refine State.Keeps.upd ?_ rfl rfl rfl rfl)

end Sys2Proof.Machine
end

