-- ==== Sys2Proof/Laws/KeepsFwu.lean ====
section
/-!
SUPPORT. What the operations of Machine/Fwu.lean keep.
-/
set_option Elab.async false
namespace Sys2Proof.Machine

variable {q : Keep}

theorem State.guardRefused_keeps {s} (h : s.Keeps q)
    (hq : q.Off 0x201946 := by have h := ‹Keep.Off q _›; exact Keep.sub h (by decide)) :
    (State.guardRefused s).Keeps q := by
  unfold State.guardRefused
  with_reducible repeat' first | assumption | refine State.fault_keeps ?_ | refine State.trigger_keeps ?_

theorem State.clearKeyData_keeps {s} (h : s.Keeps q)
    (hq : q.Off 0x6 := by have h := ‹Keep.Off q _›; exact Keep.sub h (by decide)) :
    (State.clearKeyData s).Keeps q := by
  unfold State.clearKeyData
  with_reducible repeat' first
    | assumption | refine fun _ => ?_ | refine State.setReg_keeps ?_ | refine State.Keeps.foldl ?_ ?_

theorem State.fuseProg_keeps {s} (h : s.Keeps q)
    (hq : q.Off 0x2000201946 := by have h := ‹Keep.Off q _›; exact Keep.sub h (by decide)) :
    (State.fuseProg s).Keeps q := by
  unfold State.fuseProg
  with_reducible repeat' first
    | assumption | ((try lift_lets -underBinder); intro x; have hx : x = x := (by unfold x; rfl); clear hx)
    | refine State.clearKeyData_keeps ?_ | refine State.setSts_keeps ?_ | refine State.badValue_keeps ?_
    | refine State.refuseAct_keeps ?_ | refine State.modFwu_keeps ?_ | refine State.guardRefused_keeps ?_
    | refine State.Keeps.ite ?_ ?_

theorem State.fuseDone_keeps {s} (h : s.Keeps q)
    (hq : q.Off 0x2000200106 := by have h := ‹Keep.Off q _›; exact Keep.sub h (by decide)) :
    (State.fuseDone s).Keeps q := by
  unfold State.fuseDone
  with_reducible repeat' first
    | assumption
    | ((try lift_lets -underBinder); intro x; refine (fun (_ : State.Keeps q x) => ?_) ?_; on_goal 2 => unfold x)
    | ((try lift_lets -underBinder); intro x; have hx : x = x := (by unfold x; rfl); clear hx; have hy : List _ := x; clear hy; clear_value x)
    | refine State.clearKeyData_keeps ?_ | refine State.irq_keeps ?_ | refine State.setSts_keeps ?_
    | refine State.modFwu_keeps ?_ | split

theorem State.setAct_keeps {s n} (h : s.Keeps q)
    (hq : q.Off 0x200106 := by have h := ‹Keep.Off q _›; exact Keep.sub h (by decide)) :
    (State.setAct s n).Keeps q := by
  unfold State.setAct
  with_reducible repeat' first
    | assumption | refine State.irq_keeps ?_ | refine State.setSts_keeps ?_ | refine State.Keeps.ite ?_ ?_

theorem State.writeRecords_keeps {s} (h : s.Keeps q)
    (hq : q.Off 0x2203956 := by have h := ‹Keep.Off q _›; exact Keep.sub h (by decide)) :
    (State.writeRecords s).Keeps q := by
  unfold State.writeRecords
  with_reducible repeat' first
    | assumption | refine fun _ => ?_ | refine State.endRecord_keeps ?_ | refine State.nextRecord_keeps ?_
    | refine State.Keeps.foldl ?_ ?_

theorem State.actReached_keeps {s} (h : s.Keeps q)
    (hq : q.Off 0x7ffffffffe := by have h := ‹Keep.Off q _›; exact Keep.sub h (by decide)) :
    (State.actReached s).Keeps q := by
  unfold State.actReached
  with_reducible repeat' first
    | assumption | refine State.trigger_keeps ?_ | refine State.writeRecords_keeps ?_ | refine State.dieReset_keeps ?_
    | refine State.journalPut_keeps ?_ | refine State.setAct_keeps ?_ | refine State.Keeps.ite ?_ ?_

theorem State.activate_keeps {s} (h : s.Keeps q)
    (hq : q.Off 0x7ffffffffe := by have h := ‹Keep.Off q _›; exact Keep.sub h (by decide)) :
    (State.activate s).Keeps q := by
  unfold State.activate
  with_reducible repeat' first
    | assumption | ((try lift_lets -underBinder); intro x; have hx : x = x := (by unfold x; rfl); clear hx)
    | refine State.actReached_keeps ?_ | refine State.badValue_keeps ?_ | refine State.journalWrite_keeps ?_
    | refine State.refuseAct_keeps ?_ | refine State.journalPut_keeps ?_ | refine State.setAct_keeps ?_
    | refine State.Keeps.ite ?_ ?_

theorem State.fwuCancel_keeps {s} (h : s.Keeps q)
    (hq : q.Off 0x2000200116 := by have h := ‹Keep.Off q _›; exact Keep.sub h (by decide)) :
    (State.fwuCancel s).Keeps q := by
  unfold State.fwuCancel
  with_reducible repeat' first
    | assumption
    | ((try lift_lets -underBinder); intro x; refine (fun (_ : State.Keeps q x) => ?_) ?_; on_goal 2 => unfold x)
    | refine State.stageAbort_keeps ?_ | refine State.journalPut_keeps ?_ | refine State.setAct_keeps ?_
    | refine State.Keeps.ite ?_ ?_

theorem State.actTimeCome_keeps {s} (h : s.Keeps q)
    (hq : q.Off 0x7ffffffffe := by have h := ‹Keep.Off q _›; exact Keep.sub h (by decide)) :
    (State.actTimeCome s).Keeps q := by
  unfold State.actTimeCome
  with_reducible repeat' first
    | assumption | refine fun _ => ?_ | refine State.actReached_keeps ?_ | refine State.atTime_keeps ?_ ?_
    | refine State.Keeps.ite ?_ ?_

theorem State.actRelease_keeps {s} (h : s.Keeps q)
    (hq : q.Off 0x7ffffffffe := by have h := ‹Keep.Off q _›; exact Keep.sub h (by decide)) :
    (State.actRelease s).Keeps q := by
  unfold State.actRelease
  with_reducible repeat' first | assumption | refine State.actReached_keeps ?_ | refine State.Keeps.ite ?_ ?_

theorem State.copySlot_keeps {s n next} (h : s.Keeps q)
    (hq : q.Off 0x10 := by have h := ‹Keep.Off q _›; exact Keep.sub h (by decide)) :
    (State.copySlot s n next).Keeps q := by
  unfold State.copySlot
  with_reducible repeat' first
    | assumption | ((try lift_lets -underBinder); intro x; have hx : x = x := (by unfold x; rfl); clear hx)
    | refine State.setBytes_keeps ?_

theorem State.copyProgress_keeps {s next} (h : s.Keeps q)
    (hq : q.Off 0x6 := by have h := ‹Keep.Off q _›; exact Keep.sub h (by decide)) :
    (State.copyProgress s next).Keeps q := by
  unfold State.copyProgress
  with_reducible repeat' first | assumption | refine State.setNat_keeps ?_

theorem State.goldenWrite_keeps {s} (h : s.Keeps q)
    (hq : q.Off 0x2000201956 := by have h := ‹Keep.Off q _›; exact Keep.sub h (by decide)) :
    (State.goldenWrite s).Keeps q := by
  unfold State.goldenWrite
  with_reducible repeat' first
    | assumption | refine State.copyProgress_keeps ?_ | refine State.refuseAct_keeps ?_ | refine State.setMem_keeps ?_
    | refine State.modFwu_keeps ?_ | refine State.journalPut_keeps ?_ | refine State.guardRefused_keeps ?_
    | refine State.Keeps.ite ?_ ?_

theorem State.goldenDone_keeps {s} (h : s.Keeps q)
    (hq : q.Off 0x2000201956 := by have h := ‹Keep.Off q _›; exact Keep.sub h (by decide)) :
    (State.goldenDone s).Keeps q := by
  unfold State.goldenDone
  with_reducible repeat' first
    | assumption | ((try lift_lets -underBinder); intro x; have hx : x = x := (by unfold x; rfl); clear hx)
    | refine State.trigger_keeps ?_ | refine State.copyProgress_keeps ?_ | refine State.copySlot_keeps ?_
    | refine State.modFwu_keeps ?_ | refine State.journalPut_keeps ?_

theorem State.partnerAccept_keeps {s} (h : s.Keeps q)
    (hq : q.Off 0x2000000000 := by have h := ‹Keep.Off q _›; exact Keep.sub h (by decide)) :
    (State.partnerAccept s).Keeps q := by
  unfold State.partnerAccept
  with_reducible repeat' first
    | assumption
    | ((try lift_lets -underBinder); intro x; have hx : x = x := (by unfold x; rfl); clear hx; have hy : List _ := x; clear hy; clear_value x)
    | refine State.modFwu_keeps ?_

theorem State.fwuAction_keeps {s v} (h : s.Keeps q)
    (hq : q.Off 0x7ffffffffe := by have h := ‹Keep.Off q _›; exact Keep.sub h (by decide)) :
    (State.fwuAction s v).Keeps q := by
  unfold State.fwuAction
  with_reducible repeat' first
    | assumption | ((try lift_lets -underBinder); intro x; have hx : x = x := (by unfold x; rfl); clear hx)
    | refine State.badValue_keeps ?_ | refine State.stageBegin_keeps ?_ | refine State.sendPeer_keeps ?_
    | refine State.partnerAccept_keeps ?_ | refine State.fuseProg_keeps ?_ | refine State.fwuCancel_keeps ?_
    | refine State.activate_keeps ?_ | refine State.goldenWrite_keeps ?_ | refine State.Keeps.ite ?_ ?_

theorem execStage_keeps {u0 s} (h : s.Keeps q)
    (hq : q.Off 0x2002203956 := by have h := ‹Keep.Off q _›; exact Keep.sub h (by decide)) :
    Kept q (execStage u0 s) := by
  unfold execStage
  with_reducible repeat' first
    | assumption | refine fun _ => ?_ | refine done_keeps ?_ | refine State.stageBegin_keeps ?_
    | refine State.gate_keeps ?_ ?_

theorem execStageDone_keeps {s} (h : s.Keeps q)
    (hq : q.Off 0x2000200116 := by have h := ‹Keep.Off q _›; exact Keep.sub h (by decide)) :
    Kept q (execStageDone s) := by
  unfold execStageDone
  with_reducible repeat' first
    | assumption | refine done_keeps ?_ | refine State.stageDone_keeps ?_ | refine State.Keeps.ite ?_ ?_

theorem execActivate_keeps {u0 s} (h : s.Keeps q)
    (hq : q.Off 0x7ffffffffe := by have h := ‹Keep.Off q _›; exact Keep.sub h (by decide)) :
    Kept q (execActivate u0 s) := by
  unfold execActivate
  with_reducible repeat' first
    | assumption | refine fun _ => ?_ | refine done_keeps ?_ | refine State.activate_keeps ?_
    | refine State.gate_keeps ?_ ?_

theorem execFwuCancel_keeps {u0 s} (h : s.Keeps q)
    (hq : q.Off 0x2000201116 := by have h := ‹Keep.Off q _›; exact Keep.sub h (by decide)) :
    Kept q (execFwuCancel u0 s) := by
  unfold execFwuCancel
  with_reducible repeat' first
    | assumption | refine fun _ => ?_ | refine done_keeps ?_ | refine State.fwuCancel_keeps ?_
    | refine State.gate_keeps ?_ ?_

theorem execSendPeer_keeps {u0 s} (h : s.Keeps q)
    (hq : q.Off 0x2002203946 := by have h := ‹Keep.Off q _›; exact Keep.sub h (by decide)) :
    Kept q (execSendPeer u0 s) := by
  unfold execSendPeer
  with_reducible repeat' first
    | assumption | refine fun _ => ?_ | refine done_keeps ?_ | refine State.sendPeer_keeps ?_
    | refine State.gate_keeps ?_ ?_

theorem execGoldenWrite_keeps {u0 presenceLow s} (h : s.Keeps q)
    (hq : q.Off 0x20002019d6 := by have h := ‹Keep.Off q _›; exact Keep.sub h (by decide)) :
    Kept q (execGoldenWrite u0 presenceLow s) := by
  unfold execGoldenWrite
  with_reducible repeat' first
    | assumption | refine fun _ => ?_ | refine done_keeps ?_ | refine State.gate_keeps ?_ ?_
    | refine State.goldenWrite_keeps ?_ | refine State.presence_keeps ?_

theorem execGoldenWriteDone_keeps {s} (h : s.Keeps q)
    (hq : q.Off 0x2000201956 := by have h := ‹Keep.Off q _›; exact Keep.sub h (by decide)) :
    Kept q (execGoldenWriteDone s) := by
  unfold execGoldenWriteDone
  with_reducible repeat' first
    | assumption | refine done_keeps ?_ | refine State.goldenDone_keeps ?_ | refine State.Keeps.ite ?_ ?_

theorem execFuseProg_keeps {u0 presenceLow s} (h : s.Keeps q)
    (hq : q.Off 0x20002019c6 := by have h := ‹Keep.Off q _›; exact Keep.sub h (by decide)) :
    Kept q (execFuseProg u0 presenceLow s) := by
  unfold execFuseProg
  with_reducible repeat' first
    | assumption | refine fun _ => ?_ | refine done_keeps ?_ | refine State.fuseProg_keeps ?_
    | refine State.gate_keeps ?_ ?_ | refine State.presence_keeps ?_

theorem execFuseDone_keeps {s} (h : s.Keeps q)
    (hq : q.Off 0x2000200106 := by have h := ‹Keep.Off q _›; exact Keep.sub h (by decide)) :
    Kept q (execFuseDone s) := by
  unfold execFuseDone
  with_reducible repeat' first
    | assumption | refine done_keeps ?_ | refine State.fuseDone_keeps ?_ | refine State.Keeps.ite ?_ ?_

theorem execPartnerAccept_keeps {u0 s} (h : s.Keeps q)
    (hq : q.Off 0x2000201106 := by have h := ‹Keep.Off q _›; exact Keep.sub h (by decide)) :
    Kept q (execPartnerAccept u0 s) := by
  unfold execPartnerAccept
  with_reducible repeat' first
    | assumption | refine fun _ => ?_ | refine done_keeps ?_ | refine State.partnerAccept_keeps ?_
    | refine State.gate_keeps ?_ ?_

theorem execActTimeReached_keeps {s} (h : s.Keeps q)
    (hq : q.Off 0x7ffffffffe := by have h := ‹Keep.Off q _›; exact Keep.sub h (by decide)) :
    Kept q (execActTimeReached s) := by
  unfold execActTimeReached
  with_reducible repeat' first | assumption | refine done_keeps ?_ | refine State.actTimeCome_keeps ?_

theorem execActDeferredRelease_keeps {s} (h : s.Keeps q)
    (hq : q.Off 0x7ffffffffe := by have h := ‹Keep.Off q _›; exact Keep.sub h (by decide)) :
    Kept q (execActDeferredRelease s) := by
  unfold execActDeferredRelease
  with_reducible repeat' first | assumption | refine done_keeps ?_ | refine State.actRelease_keeps ?_

theorem State.raiseSecver_keeps {s h1} (h : s.Keeps q)
    (hq : q.Off 0x2000000000 := by have h := ‹Keep.Off q _›; exact Keep.sub h (by decide)) :
    (State.raiseSecver s h1).Keeps q := by
  unfold State.raiseSecver
  with_reducible repeat' first | assumption | refine State.modFwu_keeps ?_ | refine State.Keeps.ite ?_ ?_

theorem State.copyFailed_keeps {s} (h : s.Keeps q)
    (hq : q.Off 0x200116 := by have h := ‹Keep.Off q _›; exact Keep.sub h (by decide)) :
    (State.copyFailed s).Keeps q := by
  unfold State.copyFailed
  with_reducible repeat' first | assumption | refine State.fault_keeps ?_ | refine State.journalPut_keeps ?_

theorem State.startCopy_keeps {s} (h : s.Keeps q)
    (hq : q.Off 0x2000201956 := by have h := ‹Keep.Off q _›; exact Keep.sub h (by decide)) :
    (State.startCopy s).2.Keeps q := by
  unfold State.startCopy
  with_reducible repeat' first
    | assumption
    | ((try lift_lets -underBinder); intro x; refine (fun (_ : State.Keeps q x) => ?_) ?_; on_goal 2 => unfold x)
    | ((try lift_lets -underBinder); intro x; have hx : x = x := (by unfold x; rfl); clear hx; have hy : List _ := x; clear hy; clear_value x)
    | ((try lift_lets -underBinder); intro x; have hx : x = x := (by unfold x; rfl); clear hx)
    | refine State.raiseSecver_keeps ?_ | refine State.journalWrite_keeps ?_ | refine State.trigger_keeps ?_
    | refine State.copyProgress_keeps ?_ | refine State.goldenDone_keeps ?_ | refine State.copySlot_keeps ?_
    | refine State.copyFailed_keeps ?_ | refine State.setMem_keeps ?_ | refine State.journalPut_keeps ?_
    | refine State.Keeps.ite ?_ ?_ | split

theorem State.bootSelect_keeps {s failed} (h : s.Keeps q)
    (hq : q.Off 0x201946 := by have h := ‹Keep.Off q _›; exact Keep.sub h (by decide)) :
    (State.bootSelect s failed).Keeps q := by
  unfold State.bootSelect
  with_reducible repeat' first
    | assumption
    | ((try lift_lets -underBinder); intro x; refine (fun (_ : State.Keeps q x) => ?_) ?_; on_goal 2 => unfold x)
    | refine State.fault_keeps ?_ | refine State.setSts_keeps ?_ | refine State.trigger_keeps ?_
    | refine State.Keeps.ite ?_ ?_

theorem State.rearm_keeps {s} (h : s.Keeps q)
    (hq : q.Off 0x7ffffffffe := by have h := ‹Keep.Off q _›; exact Keep.sub h (by decide)) :
    (State.rearm s).Keeps q := by
  unfold State.rearm
  with_reducible repeat' first
    | assumption
    | ((try lift_lets -underBinder); intro x; refine (fun (_ : State.Keeps q x) => ?_) ?_; on_goal 2 => unfold x)
    | refine State.actReached_keeps ?_ | refine State.setAct_keeps ?_ | refine State.Keeps.ite ?_ ?_

end Sys2Proof.Machine
end

