-- ==== Sys2Proof/Laws/KeepsCal.lean ====
section
/-!
SUPPORT. What the operations of Machine/Cal.lean keep.
-/
set_option Elab.async false
namespace Sys2Proof.Machine

variable {q : Keep}

theorem State.modCal_keeps {s f} (h : s.Keeps q)
    (hq : q.Off 0x1000000000 := by have h := ‹Keep.Off q _›; exact Keep.sub h (by decide)) :
    (State.modCal s f).Keeps q := by
  unfold State.modCal
  with_reducible repeat' first | assumption | fail_if_no_progress (refine State.Keeps.upd ?_ rfl rfl rfl rfl)

theorem State.calFault_keeps {s n code} (h : s.Keeps q)
    (hq : q.Off 0x201946 := by have h := ‹Keep.Off q _›; exact Keep.sub h (by decide)) :
    (State.calFault s n code).Keeps q := by
  unfold State.calFault
  with_reducible repeat' first
    | assumption | refine State.fault_keeps ?_ | refine State.trigger_keeps ?_ | refine State.Keeps.ite ?_ ?_ | split

theorem State.writeHistory_keeps {s kind} (h : s.Keeps q)
    (hq : q.Off 0x1000000010 := by have h := ‹Keep.Off q _›; exact Keep.sub h (by decide)) :
    (State.writeHistory s kind).Keeps q := by
  unfold State.writeHistory
  with_reducible repeat' first
    | assumption
    | ((try lift_lets -underBinder); intro x; have hx : x = x := (by unfold x; rfl); clear hx; have hy : List _ := x; clear hy; clear_value x)
    | refine State.modCal_keeps ?_ | refine State.setBytes_keeps ?_

theorem State.setVcore_keeps {s mv} (h : s.Keeps q)
    (hq : q.Off 0x6 := by have h := ‹Keep.Off q _›; exact Keep.sub h (by decide)) : (State.setVcore s mv).Keeps q := by
  unfold State.setVcore
  with_reducible repeat' first
    | assumption
    | ((try lift_lets -underBinder); intro x; refine (fun (_ : State.Keeps q x) => ?_) ?_; on_goal 2 => unfold x)
    | refine State.setSts_keeps ?_ | refine State.setNat_keeps ?_

theorem State.askVcore_keeps {s mv} (h : s.Keeps q)
    (hq : q.Off 0x1000000006 := by have h := ‹Keep.Off q _›; exact Keep.sub h (by decide)) :
    (State.askVcore s mv).Keeps q := by
  unfold State.askVcore
  with_reducible repeat' first
    | assumption | refine State.setVcore_keeps ?_ | refine State.setSts_keeps ?_ | refine State.modCal_keeps ?_

theorem State.loadHistory_keeps {s l} (h : s.Keeps q)
    (hq : q.Off 0x1000000006 := by have h := ‹Keep.Off q _›; exact Keep.sub h (by decide)) :
    (State.loadHistory s l).Keeps q := by
  unfold State.loadHistory
  with_reducible repeat' first
    | assumption
    | ((try lift_lets -underBinder); intro x; refine (fun (_ : State.Keeps q x) => ?_) ?_; on_goal 2 => unfold x)
    | refine State.setNat_keeps ?_ | refine State.modCal_keeps ?_

theorem State.calLoad_keeps {s newest} (h : s.Keeps q)
    (hq : q.Off 0x1000200106 := by have h := ‹Keep.Off q _›; exact Keep.sub h (by decide)) :
    (State.calLoad s newest).Keeps q := by
  unfold State.calLoad
  with_reducible repeat' first
    | assumption
    | ((try lift_lets -underBinder); intro x; refine (fun (_ : State.Keeps q x) => ?_) ?_; on_goal 2 => unfold x)
    | refine State.fault_keeps ?_ | refine State.askVcore_keeps ?_ | refine State.setNat_keeps ?_
    | refine State.loadHistory_keeps ?_ | split

theorem State.calScan_keeps {s} (h : s.Keeps q)
    (hq : q.Off 0x1000200106 := by have h := ‹Keep.Off q _›; exact Keep.sub h (by decide)) :
    (State.calScan s).Keeps q := by
  unfold State.calScan
  with_reducible repeat' first | assumption | refine State.calLoad_keeps ?_

theorem State.calCounted_keeps {s} (h : s.Keeps q)
    (hq : q.Off 0x6 := by have h := ‹Keep.Off q _›; exact Keep.sub h (by decide)) : (State.calCounted s).Keeps q := by
  unfold State.calCounted
  with_reducible repeat' first
    | assumption | ((try lift_lets -underBinder); intro x; have hx : x = x := (by unfold x; rfl); clear hx)
    | refine State.setNat_keeps ?_ | refine State.inc_keeps ?_

theorem State.runDone_keeps {s kind} (h : s.Keeps q)
    (hq : q.Off 0x1000201956 := by have h := ‹Keep.Off q _›; exact Keep.sub h (by decide)) :
    (State.runDone s kind).Keeps q := by
  unfold State.runDone
  with_reducible repeat' first
    | assumption | refine State.writeHistory_keeps ?_ | refine State.irq_keeps ?_ | refine State.setSts_keeps ?_
    | refine State.trigger_keeps ?_ | refine State.calCounted_keeps ?_ | refine State.modCal_keeps ?_

theorem State.runEnds_keeps {s} (h : s.Keeps q)
    (hq : q.Off 0x1000000006 := by have h := ‹Keep.Off q _›; exact Keep.sub h (by decide)) :
    (State.runEnds s).Keeps q := by
  unfold State.runEnds
  with_reducible repeat' first | assumption | refine State.setSts_keeps ?_ | refine State.modCal_keeps ?_

theorem State.loadIncrFree_keeps {s} (h : s.Keeps q)
    (hq : q.Off 0x200000006 := by have h := ‹Keep.Off q _›; exact Keep.sub h (by decide)) :
    (State.loadIncrFree s).Keeps q := by
  unfold State.loadIncrFree
  with_reducible repeat' first
    | assumption
    | ((try lift_lets -underBinder); intro x; refine (fun (_ : State.Keeps q x) => ?_) ?_; on_goal 2 => unfold x)
    | ((try lift_lets -underBinder); intro x; have hx : x = x := (by unfold x; rfl); clear hx)
    | refine State.setSts_keeps ?_ | refine State.setBoth_keeps ?_ | refine State.retune_keeps ?_
    | refine State.Keeps.ite ?_ ?_ | fail_if_no_progress (refine State.Keeps.upd ?_ rfl rfl rfl rfl)

theorem State.runTime_keeps {s} (h : s.Keeps q)
    (hq : q.Off 0x1000200106 := by have h := ‹Keep.Off q _›; exact Keep.sub h (by decide)) :
    (State.runTime s).Keeps q := by
  unfold State.runTime
  with_reducible repeat' first
    | assumption | ((try lift_lets -underBinder); intro x; have hx : x = x := (by unfold x; rfl); clear hx)
    | refine State.fault_keeps ?_ | refine State.setSts_keeps ?_ | refine State.modCal_keeps ?_
    | refine State.Keeps.ite ?_ ?_

theorem execRunTime_keeps {u0 s} (h : s.Keeps q)
    (hq : q.Off 0x1000201106 := by have h := ‹Keep.Off q _›; exact Keep.sub h (by decide)) :
    Kept q (execRunTime u0 s) := by
  unfold execRunTime
  with_reducible repeat' first
    | assumption | refine fun _ => ?_ | refine done_keeps ?_ | refine State.runTime_keeps ?_
    | refine State.gate_keeps ?_ ?_

theorem State.windowEnd_keeps {s nt d} (h : s.Keeps q)
    (hq : q.Off 0x1200201956 := by have h := ‹Keep.Off q _›; exact Keep.sub h (by decide)) :
    (State.windowEnd s nt d).Keeps q := by
  unfold State.windowEnd
  with_reducible repeat' first
    | assumption
    | ((try lift_lets -underBinder); intro x; refine (fun (_ : State.Keeps q x) => ?_) ?_; on_goal 2 => unfold x)
    | ((try lift_lets -underBinder); intro x; have hx : x = x := (by unfold x; rfl); clear hx)
    | refine State.fault_keeps ?_ | refine State.runDone_keeps ?_ | refine State.loadIncrFree_keeps ?_
    | refine State.setNat_keeps ?_ | refine State.runEnds_keeps ?_ | refine State.modCal_keeps ?_
    | refine State.Keeps.ite ?_ ?_ | split

theorem execCalWindowEnd_keeps {nt d s} (h : s.Keeps q)
    (hq : q.Off 0x1200201956 := by have h := ‹Keep.Off q _›; exact Keep.sub h (by decide)) :
    Kept q (execCalWindowEnd nt d s) := by
  unfold execCalWindowEnd
  with_reducible repeat' first
    | assumption | refine done_keeps ?_ | refine State.windowEnd_keeps ?_ | refine State.Keeps.ite ?_ ?_

theorem execCalAbort_keeps {u0 s} (h : s.Keeps q)
    (hq : q.Off 0x1000201106 := by have h := ‹Keep.Off q _›; exact Keep.sub h (by decide)) :
    Kept q (execCalAbort u0 s) := by
  unfold execCalAbort
  with_reducible repeat' first
    | assumption | refine fun _ => ?_ | refine done_keeps ?_ | refine State.gate_keeps ?_ ?_
    | refine State.runEnds_keeps ?_

theorem State.runAnalog_keeps {s} (h : s.Keeps q)
    (hq : q.Off 0x1000000006 := by have h := ‹Keep.Off q _›; exact Keep.sub h (by decide)) :
    (State.runAnalog s).Keeps q := by
  unfold State.runAnalog
  with_reducible repeat' first
    | assumption | refine State.setSts_keeps ?_ | refine State.modCal_keeps ?_ | refine State.Keeps.ite ?_ ?_

theorem State.dailyAnalog_keeps {s} (h : s.Keeps q)
    (hq : q.Off 0x1000200706 := by have h := ‹Keep.Off q _›; exact Keep.sub h (by decide)) :
    (State.dailyAnalog s).Keeps q := by
  unfold State.dailyAnalog
  with_reducible repeat' first
    | assumption | refine fun _ => ?_ | refine State.runAnalog_keeps ?_ | refine State.atTick_keeps ?_ ?_
    | refine State.Keeps.ite ?_ ?_

theorem execRunAnalog_keeps {req s} (h : s.Keeps q)
    (hq : q.Off 0x1000201706 := by have h := ‹Keep.Off q _›; exact Keep.sub h (by decide)) :
    Kept q (execRunAnalog req s) := by
  unfold execRunAnalog
  with_reducible repeat' first
    | assumption | refine fun _ => ?_ | refine done_keeps ?_ | refine State.runAnalog_keeps ?_
    | refine State.dailyAnalog_keeps ?_ | refine State.gate_keeps ?_ ?_ | refine State.Keeps.ite ?_ ?_

theorem State.reselected_keeps {s} (h : s.Keeps q)
    (hq : q.Off 0x1000201956 := by have h := ‹Keep.Off q _›; exact Keep.sub h (by decide)) :
    (State.reselected s).Keeps q := by
  unfold State.reselected
  with_reducible repeat' first
    | assumption | refine State.writeHistory_keeps ?_ | refine State.irq_keeps ?_ | refine State.trigger_keeps ?_
    | refine State.inc_keeps ?_

theorem State.analogChannel_keeps {s codes c} (h : s.Keeps q)
    (hq : q.Off 0x1000201956 := by have h := ‹Keep.Off q _›; exact Keep.sub h (by decide)) :
    (State.analogChannel s codes c).Keeps q := by
  unfold State.analogChannel
  with_reducible repeat' first
    | assumption
    | ((try lift_lets -underBinder); intro x; refine (fun (_ : State.Keeps q x) => ?_) ?_; on_goal 2 => unfold x)
    | ((try lift_lets -underBinder); intro x; have hx : x = x := (by unfold x; rfl); clear hx; have hy : List _ := x; clear hy; clear_value x)
    | ((try lift_lets -underBinder); intro x; have hx : x = x := (by unfold x; rfl); clear hx)
    | refine State.fault_keeps ?_ | refine State.reselected_keeps ?_ | refine State.setNat_keeps ?_
    | refine State.modCal_keeps ?_ | refine State.Keeps.ite ?_ ?_

theorem State.analogDone_keeps {s codes} (h : s.Keeps q)
    (hq : q.Off 0x1000201956 := by have h := ‹Keep.Off q _›; exact Keep.sub h (by decide)) :
    (State.analogDone s codes).Keeps q := by
  unfold State.analogDone
  with_reducible repeat' first
    | assumption | refine fun _ => ?_ | refine State.analogChannel_keeps ?_ | refine State.runDone_keeps ?_
    | refine State.Keeps.ite ?_ ?_ | refine State.Keeps.foldl ?_ ?_

theorem execAnalogRunDone_keeps {codes s} (h : s.Keeps q)
    (hq : q.Off 0x1000201956 := by have h := ‹Keep.Off q _›; exact Keep.sub h (by decide)) :
    Kept q (execAnalogRunDone codes s) := by
  unfold execAnalogRunDone
  with_reducible repeat' first
    | assumption | refine done_keeps ?_ | refine State.analogDone_keeps ?_ | refine State.Keeps.ite ?_ ?_

theorem State.chainMeasure_keeps {s i errs} (h : s.Keeps q)
    (hq : q.Off 0x1000201956 := by have h := ‹Keep.Off q _›; exact Keep.sub h (by decide)) :
    (State.chainMeasure s i errs).Keeps q := by
  unfold State.chainMeasure
  with_reducible repeat' first
    | assumption
    | ((try lift_lets -underBinder); intro x; refine (fun (_ : State.Keeps q x) => ?_) ?_; on_goal 2 => unfold x)
    | ((try lift_lets -underBinder); intro x; have hx : x = x := (by unfold x; rfl); clear hx)
    | refine State.reselected_keeps ?_ | refine State.modCal_keeps ?_ | refine State.calFault_keeps ?_
    | refine State.Keeps.ite ?_ ?_ | fail_if_no_progress (refine State.Keeps.upd ?_ rfl rfl rfl rfl)

theorem execChainMeasure_keeps {i errs s} (h : s.Keeps q)
    (hq : q.Off 0x1000201956 := by have h := ‹Keep.Off q _›; exact Keep.sub h (by decide)) :
    Kept q (execChainMeasure i errs s) := by
  unfold execChainMeasure
  with_reducible repeat' first
    | assumption | refine done_keeps ?_ | refine State.chainMeasure_keeps ?_ | refine State.Keeps.ite ?_ ?_

theorem State.override_keeps {s kind index cand auto} (h : s.Keeps q)
    (hq : q.Off 0x1000000006 := by have h := ‹Keep.Off q _›; exact Keep.sub h (by decide)) :
    (State.override s kind index cand auto).Keeps q := by
  unfold State.override
  with_reducible repeat' first
    | assumption
    | ((try lift_lets -underBinder); intro x; refine (fun (_ : State.Keeps q x) => ?_) ?_; on_goal 2 => unfold x)
    | ((try lift_lets -underBinder); intro x; have hx : x = x := (by unfold x; rfl); clear hx)
    | refine State.setReg_keeps ?_ | refine State.setNat_keeps ?_ | refine State.modCal_keeps ?_
    | refine State.Keeps.ite ?_ ?_

theorem State.ovrWrite_keeps {s} (h : s.Keeps q)
    (hq : q.Off 0x1000201956 := by have h := ‹Keep.Off q _›; exact Keep.sub h (by decide)) :
    (State.ovrWrite s).Keeps q := by
  unfold State.ovrWrite
  with_reducible repeat' first
    | assumption | ((try lift_lets -underBinder); intro x; have hx : x = x := (by unfold x; rfl); clear hx)
    | refine State.writeHistory_keeps ?_ | refine State.fault_keeps ?_ | refine State.override_keeps ?_
    | refine State.badValue_keeps ?_ | refine State.trigger_keeps ?_ | refine State.calCounted_keeps ?_
    | refine State.Keeps.ite ?_ ?_

theorem execOvrWrite_keeps {u0 presenceLow s} (h : s.Keeps q)
    (hq : q.Off 0x10002019d6 := by have h := ‹Keep.Off q _›; exact Keep.sub h (by decide)) :
    Kept q (execOvrWrite u0 presenceLow s) := by
  unfold execOvrWrite
  with_reducible repeat' first
    | assumption | refine fun _ => ?_
    | ((try lift_lets -underBinder); intro x; have hx : x = x := (by unfold x; rfl); clear hx) | refine done_keeps ?_
    | refine State.gate_keeps ?_ ?_ | refine State.ovrWrite_keeps ?_
    | fail_if_no_progress (refine State.Keeps.upd ?_ rfl rfl rfl rfl)

theorem State.calAction_keeps {s v} (h : s.Keeps q)
    (hq : q.Off 0x1000201956 := by have h := ‹Keep.Off q _›; exact Keep.sub h (by decide)) :
    (State.calAction s v).Keeps q := by
  unfold State.calAction
  with_reducible repeat' first
    | assumption
    | ((try lift_lets -underBinder); intro x; refine (fun (_ : State.Keeps q x) => ?_) ?_; on_goal 2 => unfold x)
    | refine State.runAnalog_keeps ?_ | refine State.runTime_keeps ?_ | refine State.ovrWrite_keeps ?_
    | refine State.runEnds_keeps ?_ | refine State.Keeps.ite ?_ ?_

theorem State.pluWait_keeps {s i slack} (h : s.Keeps q)
    (hq : q.Off 0x6 := by have h := ‹Keep.Off q _›; exact Keep.sub h (by decide)) :
    (State.pluWait s i slack).Keeps q := by
  unfold State.pluWait
  with_reducible repeat' first
    | assumption | ((try lift_lets -underBinder); intro x; have hx : x = x := (by unfold x; rfl); clear hx)
    | refine State.setFlag_keeps ?_ | refine State.Keeps.ite ?_ ?_

theorem State.avsStep_keeps {s mv} (h : s.Keeps q)
    (hq : q.Off 0x1000201956 := by have h := ‹Keep.Off q _›; exact Keep.sub h (by decide)) :
    (State.avsStep s mv).Keeps q := by
  unfold State.avsStep
  with_reducible repeat' first
    | assumption | refine State.writeHistory_keeps ?_ | refine State.askVcore_keeps ?_ | refine State.trigger_keeps ?_
    | refine State.inc_keeps ?_

theorem State.replan_keeps {s} (h : s.Keeps q)
    (hq : q.Off 0x1000201956 := by have h := ‹Keep.Off q _›; exact Keep.sub h (by decide)) :
    (State.replan s).Keeps q := by
  unfold State.replan
  with_reducible repeat' first
    | assumption
    | ((try lift_lets -underBinder); intro x; refine (fun (_ : State.Keeps q x) => ?_) ?_; on_goal 2 => unfold x)
    | ((try lift_lets -underBinder); intro x; have hx : x = x := (by unfold x; rfl); clear hx; have hy : List _ := x; clear hy; clear_value x)
    | ((try lift_lets -underBinder); intro x; have hx : x = x := (by unfold x; rfl); clear hx)
    | refine State.avsStep_keeps ?_ | refine State.modCal_keeps ?_ | refine State.Keeps.ite ?_ ?_

theorem State.ageFloor_keeps {s a} (h : s.Keeps q)
    (hq : q.Off 0x1000201946 := by have h := ‹Keep.Off q _›; exact Keep.sub h (by decide)) :
    (State.ageFloor s a).Keeps q := by
  unfold State.ageFloor
  with_reducible repeat' first
    | assumption
    | ((try lift_lets -underBinder); intro x; refine (fun (_ : State.Keeps q x) => ?_) ?_; on_goal 2 => unfold x)
    | ((try lift_lets -underBinder); intro x; have hx : x = x := (by unfold x; rfl); clear hx; have hy : Option _ := x; clear hy; clear_value x)
    | ((try lift_lets -underBinder); intro x; have hx : x = x := (by unfold x; rfl); clear hx)
    | refine State.modCal_keeps ?_ | refine State.calFault_keeps ?_ | refine State.Keeps.ite ?_ ?_

theorem State.marginMeasure_keeps {s slack plus} (h : s.Keeps q)
    (hq : q.Off 0x1000201956 := by have h := ‹Keep.Off q _›; exact Keep.sub h (by decide)) :
    (State.marginMeasure s slack plus).Keeps q := by
  unfold State.marginMeasure
  with_reducible repeat' first
    | assumption | refine fun _ => ?_
    | ((try lift_lets -underBinder); intro x; refine (fun (_ : State.Keeps q x) => ?_) ?_; on_goal 2 => unfold x)
    | ((try lift_lets -underBinder); intro x; have hx : x = x := (by unfold x; rfl); clear hx)
    | refine State.replan_keeps ?_ | refine State.setNat_keeps ?_ | refine State.ageFloor_keeps ?_
    | refine State.pluWait_keeps ?_ | refine State.Keeps.foldl ?_ ?_

theorem State.avsError_keeps {s} (h : s.Keeps q)
    (hq : q.Off 0x1000200106 := by have h := ‹Keep.Off q _›; exact Keep.sub h (by decide)) :
    (State.avsError s).Keeps q := by
  unfold State.avsError
  with_reducible repeat' first
    | assumption | refine State.fault_keeps ?_ | refine State.setSts_keeps ?_ | refine State.modCal_keeps ?_

theorem State.atOrNow_keeps {s t f} (h : s.Keeps q) (hf : ∀ a0, a0.Keeps q → (f a0).Keeps q)
    (hq : q.Off 0x200706 := by have h := ‹Keep.Off q _›; exact Keep.sub h (by decide)) :
    (State.atOrNow s t f).Keeps q := by
  unfold State.atOrNow
  with_reducible repeat' first
    | assumption | refine State.atTime_keeps ?_ ?_ | refine hf _ ?_ | refine State.Keeps.ite ?_ ?_

theorem State.avsSettle_keeps {s mv ma error} (h : s.Keeps q)
    (hq : q.Off 0x1000201f46 := by have h := ‹Keep.Off q _›; exact Keep.sub h (by decide)) :
    (State.avsSettle s mv ma error).Keeps q := by
  unfold State.avsSettle
  with_reducible repeat' first
    | assumption | refine fun _ => ?_
    | ((try lift_lets -underBinder); intro x; refine (fun (hlet : ∀ a, State.Keeps q a → State.Keeps q (x a)) => ?_) ?_; on_goal 2 => unfold x)
    | ((try lift_lets -underBinder); intro x; have hx : x = x := (by unfold x; rfl); clear hx) | refine State.irq_keeps ?_
    | refine State.setSts_keeps ?_ | refine State.avsError_keeps ?_ | refine State.trigger_keeps ?_
    | refine State.setNat_keeps ?_ | refine State.atOrNow_keeps ?_ ?_ | refine State.modCal_keeps ?_
    | refine State.Keeps.ite ?_ ?_ | split

theorem execAvsSettle_keeps {mv ma error s} (h : s.Keeps q)
    (hq : q.Off 0x1000201f46 := by have h := ‹Keep.Off q _›; exact Keep.sub h (by decide)) :
    Kept q (execAvsSettle mv ma error s) := by
  unfold execAvsSettle
  with_reducible repeat' first
    | assumption | refine done_keeps ?_ | refine State.avsSettle_keeps ?_ | refine State.Keeps.ite ?_ ?_

theorem State.pmbAlert_keeps {s fault} (h : s.Keeps q)
    (hq : q.Off 0x1000201946 := by have h := ‹Keep.Off q _›; exact Keep.sub h (by decide)) :
    (State.pmbAlert s fault).Keeps q := by
  unfold State.pmbAlert
  with_reducible repeat' first
    | assumption | refine State.avsError_keeps ?_ | refine State.trigger_keeps ?_ | refine State.Keeps.ite ?_ ?_

theorem execPmbAlert_keeps {fault s} (h : s.Keeps q)
    (hq : q.Off 0x1000201946 := by have h := ‹Keep.Off q _›; exact Keep.sub h (by decide)) :
    Kept q (execPmbAlert fault s) := by
  unfold execPmbAlert
  with_reducible repeat' first
    | assumption | refine done_keeps ?_ | refine State.pmbAlert_keeps ?_ | refine State.Keeps.ite ?_ ?_

theorem State.calCommit_keeps {s} (h : s.Keeps q)
    (hq : q.Off 0x100060218e := by have h := ‹Keep.Off q _›; exact Keep.sub h (by decide)) :
    (State.calCommit s).Keeps q := by
  unfold State.calCommit
  with_reducible repeat' first
    | assumption | refine fun _ => ?_
    | ((try lift_lets -underBinder); intro x; refine (fun (_ : State.Keeps q x) => ?_) ?_; on_goal 2 => unfold x)
    | refine State.setSts_keeps ?_ | refine State.commitPoint_keeps ?_ ?_ | refine State.modCal_keeps ?_
    | refine State.Keeps.ite ?_ ?_

end Sys2Proof.Machine
end

