-- ==== Sys2Proof/Laws/KeepsThermal.lean ====
section
/-!
SUPPORT. What the operations of Machine/Thermal.lean keep.
-/
set_option Elab.async false
namespace Sys2Proof.Machine

variable {q : Keep}

theorem State.modThm_keeps {s f} (h : s.Keeps q)
    (hq : q.Off 0x800000000 := by have h := ‹Keep.Off q _›; exact Keep.sub h (by decide)) :
    (State.modThm s f).Keeps q := by
  unfold State.modThm
  with_reducible repeat' first | assumption | fail_if_no_progress (refine State.Keeps.upd ?_ rfl rfl rfl rfl)

theorem State.sensorFault_keeps {s n} (h : s.Keeps q)
    (hq : q.Off 0x201946 := by have h := ‹Keep.Off q _›; exact Keep.sub h (by decide)) :
    (State.sensorFault s n).Keeps q := by
  unfold State.sensorFault
  with_reducible repeat' first
    | assumption | refine State.fault_keeps ?_ | refine State.trigger_keeps ?_ | refine State.Keeps.ite ?_ ?_

theorem State.judge_keeps {s t i} (h : s.Keeps q)
    (hq : q.Off 0x1800201956 := by have h := ‹Keep.Off q _›; exact Keep.sub h (by decide)) :
    (State.judge s t i).Keeps q := by
  unfold State.judge
  with_reducible repeat' first
    | assumption
    | ((try lift_lets -underBinder); intro x; refine (fun (_ : State.Keeps q x) => ?_) ?_; on_goal 2 => unfold x)
    | ((try lift_lets -underBinder); intro x; have hx : x = x := (by unfold x; rfl); clear hx)
    | refine State.writeHistory_keeps ?_ | refine State.modThm_keeps ?_ | refine State.sensorFault_keeps ?_
    | refine State.Keeps.ite ?_ ?_ | fail_if_no_progress (refine State.Keeps.upd ?_ rfl rfl rfl rfl)

theorem State.loadVotes_keeps {s t} (h : s.Keeps q)
    (hq : q.Off 0x800000006 := by have h := ‹Keep.Off q _›; exact Keep.sub h (by decide)) :
    (State.loadVotes s t).Keeps q := by
  unfold State.loadVotes
  with_reducible repeat' first
    | assumption
    | ((try lift_lets -underBinder); intro x; refine (fun (_ : State.Keeps q x) => ?_) ?_; on_goal 2 => unfold x)
    | ((try lift_lets -underBinder); intro x; have hx : x = x := (by unfold x; rfl); clear hx)
    | refine State.modThm_keeps ?_ | refine State.setFld_keeps ?_ | refine State.setNat_keeps ?_

theorem State.throttleRefresh_keeps {s} (h : s.Keeps q)
    (hq : q.Off 0x201946 := by have h := ‹Keep.Off q _›; exact Keep.sub h (by decide)) :
    (State.throttleRefresh s).Keeps q := by
  unfold State.throttleRefresh
  with_reducible repeat' first
    | assumption | refine fun _ => ?_
    | ((try lift_lets -underBinder); intro x; refine (fun (_ : State.Keeps q x) => ?_) ?_; on_goal 2 => unfold x)
    | ((try lift_lets -underBinder); intro x; have hx : x = x := (by unfold x; rfl); clear hx) | refine State.irq_keeps ?_
    | refine State.setSts_keeps ?_ | refine State.trigger_keeps ?_ | refine State.setNat_keeps ?_
    | refine State.Keeps.ite ?_ ?_ | refine State.Keeps.foldl ?_ ?_

theorem State.setLevel__keeps {s n v} (h : s.Keeps q)
    (hq : q.Off 0x800201946 := by have h := ‹Keep.Off q _›; exact Keep.sub h (by decide)) :
    (State.setLevel_ s n v).Keeps q := by
  unfold State.setLevel_
  with_reducible repeat' first
    | assumption | refine State.throttleRefresh_keeps ?_ | refine State.modThm_keeps ?_

theorem State.throttleUpdate_keeps {s n} (h : s.Keeps q)
    (hq : q.Off 0x800201f46 := by have h := ‹Keep.Off q _›; exact Keep.sub h (by decide)) :
    (State.throttleUpdate s n).Keeps q := by
  unfold State.throttleUpdate
  with_reducible repeat' first
    | assumption | refine fun _ => ?_
    | ((try lift_lets -underBinder); intro x; have hx : x = x := (by unfold x; rfl); clear hx)
    | refine State.atTick_keeps ?_ ?_ | refine State.setLevel__keeps ?_ | refine State.Keeps.ite ?_ ?_

theorem execThrottleUpdate_keeps {n s} (h : s.Keeps q)
    (hq : q.Off 0x800201f46 := by have h := ‹Keep.Off q _›; exact Keep.sub h (by decide)) :
    Kept q (execThrottleUpdate n s) := by
  unfold execThrottleUpdate
  with_reducible repeat' first | assumption | refine done_keeps ?_ | refine State.throttleUpdate_keeps ?_

theorem State.sendThermal_keeps {s} (h : s.Keeps q)
    (hq : q.Off 0x2203946 := by have h := ‹Keep.Off q _›; exact Keep.sub h (by decide)) :
    (State.sendThermal s).Keeps q := by
  unfold State.sendThermal
  with_reducible repeat' first | assumption | refine State.tsxSend_keeps ?_

theorem State.enterRow_keeps {s entered fault thresh code} (h : s.Keeps q)
    (hq : q.Off 0x800201946 := by have h := ‹Keep.Off q _›; exact Keep.sub h (by decide)) :
    (State.enterRow s entered fault thresh code).Keeps q := by
  unfold State.enterRow
  with_reducible repeat' first
    | assumption
    | ((try lift_lets -underBinder); intro x; refine (fun (_ : State.Keeps q x) => ?_) ?_; on_goal 2 => unfold x)
    | refine State.fault_keeps ?_ | refine State.modThm_keeps ?_ | refine State.trigger_keeps ?_
    | refine State.Keeps.ite ?_ ?_ | split

theorem State.heaterRefresh_keeps {s} (h : s.Keeps q)
    (hq : q.Off 0x6 := by have h := ‹Keep.Off q _›; exact Keep.sub h (by decide)) :
    (State.heaterRefresh s).Keeps q := by
  unfold State.heaterRefresh
  with_reducible repeat' first
    | assumption | ((try lift_lets -underBinder); intro x; have hx : x = x := (by unfold x; rfl); clear hx)
    | refine State.setSts_keeps ?_ | refine State.Keeps.ite ?_ ?_

theorem State.zoneRefresh_keeps {s} (h : s.Keeps q)
    (hq : q.Off 0x802203946 := by have h := ‹Keep.Off q _›; exact Keep.sub h (by decide)) :
    (State.zoneRefresh s).Keeps q := by
  unfold State.zoneRefresh
  with_reducible repeat' first
    | assumption
    | ((try lift_lets -underBinder); intro x; refine (fun (_ : State.Keeps q x) => ?_) ?_; on_goal 2 => unfold x)
    | ((try lift_lets -underBinder); intro x; have hx : x = x := (by unfold x; rfl); clear hx)
    | refine State.heaterRefresh_keeps ?_ | refine State.irq_keeps ?_ | refine State.throttleRefresh_keeps ?_
    | refine State.setSts_keeps ?_ | refine State.modThm_keeps ?_ | refine State.sendThermal_keeps ?_
    | refine State.enterRow_keeps ?_ | refine State.Keeps.ite ?_ ?_

theorem State.shutdownRecord_keeps {s} (h : s.Keeps q)
    (hq : q.Off 0x2203956 := by have h := ‹Keep.Off q _›; exact Keep.sub h (by decide)) :
    (State.shutdownRecord s).Keeps q := by
  unfold State.shutdownRecord
  with_reducible repeat' first
    | assumption
    | ((try lift_lets -underBinder); intro x; refine (fun (_ : State.Keeps q x) => ?_) ?_; on_goal 2 => unfold x)
    | ((try lift_lets -underBinder); intro x; have hx : x = x := (by unfold x; rfl); clear hx)
    | refine State.endRecord_keeps ?_ | refine State.beginRecord_keeps ?_ | refine State.Keeps.ite ?_ ?_

theorem State.thermalShutdown_keeps {s} (h : s.Keeps q)
    (hq : q.Off 0x7ffffffffe := by have h := ‹Keep.Off q _›; exact Keep.sub h (by decide)) :
    (State.thermalShutdown s).Keeps q := by
  unfold State.thermalShutdown
  with_reducible repeat' first
    | assumption
    | ((try lift_lets -underBinder); intro x; refine (fun (_ : State.Keeps q x) => ?_) ?_; on_goal 2 => unfold x)
    | ((try lift_lets -underBinder); intro x; have hx : x = x := (by unfold x; rfl); clear hx)
    | refine State.hardReset_keeps ?_ | refine State.modThm_keeps ?_ | refine State.pinsRefresh_keeps ?_
    | refine State.sendThermal_keeps ?_ | refine State.openDie_keeps ?_ | refine State.shutdownRecord_keeps ?_
    | fail_if_no_progress (refine State.Keeps.upd ?_ rfl rfl rfl rfl)

theorem State.shutdownCheck_keeps {s} (h : s.Keeps q)
    (hq : q.Off 0x7ffffffffe := by have h := ‹Keep.Off q _›; exact Keep.sub h (by decide)) :
    (State.shutdownCheck s).Keeps q := by
  unfold State.shutdownCheck
  with_reducible repeat' first
    | assumption | refine State.thermalShutdown_keeps ?_ | refine State.Keeps.ite ?_ ?_

theorem State.thermalRestart_keeps {s} (h : s.Keeps q)
    (hq : q.Off 0x100000000 := by have h := ‹Keep.Off q _›; exact Keep.sub h (by decide)) :
    (State.thermalRestart s).Keeps q := by
  unfold State.thermalRestart
  with_reducible repeat' first
    | assumption | ((try lift_lets -underBinder); intro x; have hx : x = x := (by unfold x; rfl); clear hx)
    | refine State.Keeps.ite ?_ ?_ | fail_if_no_progress (refine State.Keeps.upd ?_ rfl rfl rfl rfl)

theorem execThermalRestart_keeps {s} (h : s.Keeps q)
    (hq : q.Off 0x100000000 := by have h := ‹Keep.Off q _›; exact Keep.sub h (by decide)) :
    Kept q (execThermalRestart s) := by
  unfold execThermalRestart
  with_reducible repeat' first | assumption | refine done_keeps ?_ | refine State.thermalRestart_keeps ?_

theorem State.measureNow_keeps {s t} (h : s.Keeps q)
    (hq : q.Off 0x7ffffffffe := by have h := ‹Keep.Off q _›; exact Keep.sub h (by decide)) :
    (State.measureNow s t).Keeps q := by
  unfold State.measureNow
  with_reducible repeat' first
    | assumption | refine fun _ => ?_
    | ((try lift_lets -underBinder); intro x; refine (fun (_ : State.Keeps q x) => ?_) ?_; on_goal 2 => unfold x)
    | refine State.zoneRefresh_keeps ?_ | refine State.loadVotes_keeps ?_ | refine State.judge_keeps ?_
    | refine State.inc_keeps ?_ | refine State.sensorFault_keeps ?_ | refine State.shutdownCheck_keeps ?_
    | refine State.Keeps.ite ?_ ?_ | refine State.Keeps.foldl ?_ ?_

theorem State.thermalMeasure_keeps {s t} (h : s.Keeps q)
    (hq : q.Off 0x7ffffffffe := by have h := ‹Keep.Off q _›; exact Keep.sub h (by decide)) :
    (State.thermalMeasure s t).Keeps q := by
  unfold State.thermalMeasure
  with_reducible repeat' first
    | assumption | refine fun _ => ?_ | refine State.measureNow_keeps ?_ | refine State.atTick_keeps ?_ ?_
    | refine State.Keeps.ite ?_ ?_

theorem State.analogMeasure_keeps {s value broken} (h : s.Keeps q)
    (hq : q.Off 0x7ffffffffe := by have h := ‹Keep.Off q _›; exact Keep.sub h (by decide)) :
    (State.analogMeasure s value broken).Keeps q := by
  unfold State.analogMeasure
  with_reducible repeat' first
    | assumption
    | ((try lift_lets -underBinder); intro x; refine (fun (_ : State.Keeps q x) => ?_) ?_; on_goal 2 => unfold x)
    | ((try lift_lets -underBinder); intro x; have hx : x = x := (by unfold x; rfl); clear hx)
    | refine State.modThm_keeps ?_ | refine State.setFld_keeps ?_ | refine State.sensorFault_keeps ?_
    | refine State.shutdownCheck_keeps ?_ | refine State.Keeps.ite ?_ ?_

theorem execAnalogTempMeasure_keeps {value broken s} (h : s.Keeps q)
    (hq : q.Off 0x7ffffffffe := by have h := ‹Keep.Off q _›; exact Keep.sub h (by decide)) :
    Kept q (execAnalogTempMeasure value broken s) := by
  unfold execAnalogTempMeasure
  with_reducible repeat' first | assumption | refine done_keeps ?_ | refine State.analogMeasure_keeps ?_

theorem State.dramRate_keeps {s r0 r1 hot} (h : s.Keeps q)
    (hq : q.Off 0x802203946 := by have h := ‹Keep.Off q _›; exact Keep.sub h (by decide)) :
    (State.dramRate s r0 r1 hot).Keeps q := by
  unfold State.dramRate
  with_reducible repeat' first
    | assumption
    | ((try lift_lets -underBinder); intro x; refine (fun (_ : State.Keeps q x) => ?_) ?_; on_goal 2 => unfold x)
    | refine State.zoneRefresh_keeps ?_ | refine State.fault_keeps ?_ | refine State.setSts_keeps ?_
    | refine State.setNat_keeps ?_ | refine State.Keeps.ite ?_ ?_

theorem execDramRateRead_keeps {rate0 rate1 hot s} (h : s.Keeps q)
    (hq : q.Off 0x802203946 := by have h := ‹Keep.Off q _›; exact Keep.sub h (by decide)) :
    Kept q (execDramRateRead rate0 rate1 hot s) := by
  unfold execDramRateRead
  with_reducible repeat' first | assumption | refine done_keeps ?_ | refine State.dramRate_keeps ?_

theorem execMarginMeasure_keeps {slack plus s} (h : s.Keeps q)
    (hq : q.Off 0x1000201956 := by have h := ‹Keep.Off q _›; exact Keep.sub h (by decide)) :
    Kept q (execMarginMeasure slack plus s) := by
  unfold execMarginMeasure
  with_reducible repeat' first
    | assumption | refine done_keeps ?_ | refine State.throttleRefresh_keeps ?_ | refine State.marginMeasure_keeps ?_
    | refine State.Keeps.ite ?_ ?_

theorem execThermalSend_keeps {s} (h : s.Keeps q)
    (hq : q.Off 0x2203946 := by have h := ‹Keep.Off q _›; exact Keep.sub h (by decide)) :
    Kept q (execThermalSend s) := by
  unfold execThermalSend
  with_reducible repeat' first
    | assumption | refine done_keeps ?_ | refine State.sendThermal_keeps ?_ | refine State.Keeps.ite ?_ ?_

theorem State.thmCommit_keeps {s} (h : s.Keeps q)
    (hq : q.Off 0x6039ce := by have h := ‹Keep.Off q _›; exact Keep.sub h (by decide)) :
    (State.thmCommit s).Keeps q := by
  unfold State.thmCommit
  with_reducible repeat' first
    | assumption | refine fun _ => ?_ | refine State.heaterRefresh_keeps ?_ | refine State.throttleRefresh_keeps ?_
    | refine State.commitPoint_keeps ?_ ?_

end Sys2Proof.Machine
end

