-- ==== Sys2Proof/Laws/KeepsBus.lean ====
section
/-!
SUPPORT. What the operations of Machine/Bus.lean keep.
-/
set_option Elab.async false
namespace Sys2Proof.Machine

variable {q : Keep}

theorem State.moveSys_keeps {s n} (h : s.Keeps q)
    (hq : q.Off 0x200106 := by have h := ‹Keep.Off q _›; exact Keep.sub h (by decide)) :
    (State.moveSys s n).Keeps q := by
  unfold State.moveSys
  with_reducible repeat' first
    | assumption | refine State.heaterRefresh_keeps ?_ | refine State.irq_keeps ?_ | refine State.setSysState_keeps ?_
    | refine State.Keeps.ite ?_ ?_

theorem State.enterQuiet_keeps {s n} (h : s.Keeps q)
    (hq : q.Off 0x3707b46 := by have h := ‹Keep.Off q _›; exact Keep.sub h (by decide)) :
    (State.enterQuiet s n).Keeps q := by
  unfold State.enterQuiet
  with_reducible repeat' first
    | assumption
    | ((try lift_lets -underBinder); intro x; refine (fun (_ : State.Keeps q x) => ?_) ?_; on_goal 2 => unfold x)
    | ((try lift_lets -underBinder); intro x; have hx : x = x := (by unfold x; rfl); clear hx)
    | refine State.setReg_keeps ?_ | refine State.moveSys_keeps ?_ | refine State.claimChanged_keeps ?_
    | refine State.setShd_keeps ?_

theorem State.sysWrite_keeps {s n} (h : s.Keeps q)
    (hq : q.Off 0x3707b46 := by have h := ‹Keep.Off q _›; exact Keep.sub h (by decide)) :
    (State.sysWrite s n).Keeps q := by
  unfold State.sysWrite
  with_reducible repeat' first
    | assumption | ((try lift_lets -underBinder); intro x; have hx : x = x := (by unfold x; rfl); clear hx)
    | refine State.moveSys_keeps ?_ | refine State.badValue_keeps ?_ | refine State.enterQuiet_keeps ?_
    | refine State.Keeps.ite ?_ ?_

theorem State.wdtRestart_keeps {s} (h : s.Keeps q)
    (hq : q.Off 0x400000000 := by have h := ‹Keep.Off q _›; exact Keep.sub h (by decide)) :
    (State.wdtRestart s).Keeps q := by
  unfold State.wdtRestart
  with_reducible repeat' first
    | assumption | ((try lift_lets -underBinder); intro x; have hx : x = x := (by unfold x; rfl); clear hx)
    | fail_if_no_progress (refine State.Keeps.upd ?_ rfl rfl rfl rfl)

theorem State.wdtWrite_keeps {s r v} (h : s.Keeps q)
    (hq : q.Off 0x400200106 := by have h := ‹Keep.Off q _›; exact Keep.sub h (by decide)) :
    (State.wdtWrite s r v).Keeps q := by
  unfold State.wdtWrite
  with_reducible repeat' first
    | assumption
    | ((try lift_lets -underBinder); intro x; refine (fun (_ : State.Keeps q x) => ?_) ?_; on_goal 2 => unfold x)
    | ((try lift_lets -underBinder); intro x; have hx : x = x := (by unfold x; rfl); clear hx)
    | refine State.fault_keeps ?_ | refine State.setReg_keeps ?_ | refine State.badValue_keeps ?_
    | refine State.wdtRestart_keeps ?_ | refine State.Keeps.ite ?_ ?_

theorem State.wdtKick_keeps {s r} (h : s.Keeps q)
    (hq : q.Off 0x400200106 := by have h := ‹Keep.Off q _›; exact Keep.sub h (by decide)) :
    (State.wdtKick s r).Keeps q := by
  unfold State.wdtKick
  with_reducible repeat' first
    | assumption | refine State.fault_keeps ?_ | refine State.wdtRestart_keeps ?_ | refine State.Keeps.ite ?_ ?_

theorem State.wdtExpire_keeps {s} (h : s.Keeps q)
    (hq : q.Off 0x7ffffffffe := by have h := ‹Keep.Off q _›; exact Keep.sub h (by decide)) :
    (State.wdtExpire s).Keeps q := by
  unfold State.wdtExpire
  with_reducible repeat' first
    | assumption | refine fun _ => ?_ | refine State.atOrNow_keeps ?_ ?_ | refine State.dieReset_keeps ?_
    | refine State.Keeps.ite ?_ ?_

theorem State.commit1_keeps {s g} (h : s.Keeps q)
    (hq : q.Off 0x304b787bde := by have h := ‹Keep.Off q _›; exact Keep.sub h (by decide)) :
    (State.commit1 s g).Keeps q := by
  unfold State.commit1
  with_reducible repeat' first
    | assumption | refine fun _ => ?_
    | ((try lift_lets -underBinder); intro x; have hx : x = x := (by unfold x; rfl); clear hx)
    | refine State.pmcCommit_keeps ?_ | refine State.tlnCommitted_keeps ?_ | refine State.evrCommit_keeps ?_
    | refine State.ingCommit_keeps ?_ | refine State.fldCommit_keeps ?_ | refine State.calCommit_keeps ?_
    | refine State.commitPoint_keeps ?_ ?_ | refine State.pwrCommit_keeps ?_ | refine State.ntmCommit_keeps ?_
    | refine State.jscCommit_keeps ?_ | refine State.resyncCheck_keeps ?_ | refine State.fixCommit_keeps ?_
    | refine State.redCommit_keeps ?_ | refine State.alignRefresh_keeps ?_ | refine State.thmCommit_keeps ?_
    | refine State.strCommit_keeps ?_ | refine State.synCommit_keeps ?_ | refine State.ethCommit_keeps ?_
    | refine State.Keeps.id_ ?_ | split

theorem State.armGroup_keeps {s g since} (h : s.Keeps q)
    (hq : q.Off 0x304b787bde := by have h := ‹Keep.Off q _›; exact Keep.sub h (by decide)) :
    (State.armGroup s g since).Keeps q := by
  unfold State.armGroup
  with_reducible repeat' first
    | assumption | refine State.setArm_keeps ?_ | refine State.commit1_keeps ?_ | refine State.commitIdle_keeps ?_
    | refine State.Keeps.ite ?_ ?_ | split

theorem State.disarmGroup_keeps {s g} (h : s.Keeps q)
    (hq : q.Off 0x60218e := by have h := ‹Keep.Off q _›; exact Keep.sub h (by decide)) :
    (State.disarmGroup s g).Keeps q := by
  unfold State.disarmGroup
  with_reducible repeat' first
    | assumption | refine State.discardShadows_keeps ?_ | refine State.releaseStop_keeps ?_

theorem State.ctrlChanged_keeps {s g en st} (h : s.Keeps q)
    (hq : q.Off 0x108bf8ffde := by have h := ‹Keep.Off q _›; exact Keep.sub h (by decide)) :
    (State.ctrlChanged s g en st).Keeps q := by
  unfold State.ctrlChanged
  with_reducible repeat' first
    | assumption | refine fun _ => ?_
    | ((try lift_lets -underBinder); intro x; have hx : x = x := (by unfold x; rfl); clear hx)
    | refine State.evrCtrl_keeps ?_ | refine State.pxCtrl_keeps ?_ | refine State.swtCtrl_keeps ?_
    | refine State.synCtrl_keeps ?_ | refine State.tlnCtrl_keeps ?_ | refine State.ethCtrl_keeps ?_
    | refine State.lclCtrl_keeps ?_ | refine State.dmxCtrl_keeps ?_ | refine State.resyncCheck_keeps ?_
    | refine State.fldCtrl_keeps ?_ | refine State.alignRefresh_keeps ?_ | refine State.lmpCtrl_keeps ?_
    | refine State.icuChange_keeps ?_ ?_ | refine State.setGroupState_keeps ?_ | split

theorem State.noteUnstop_keeps {s g was} (h : s.Keeps q)
    (hq : q.Off 0x80 := by have h := ‹Keep.Off q _›; exact Keep.sub h (by decide)) :
    (State.noteUnstop s g was).Keeps q := by
  unfold State.noteUnstop
  with_reducible repeat' first
    | assumption | ((try lift_lets -underBinder); intro x; have hx : x = x := (by unfold x; rfl); clear hx)
    | refine State.Keeps.ite ?_ ?_ | fail_if_no_progress (refine State.Keeps.upd ?_ rfl rfl rfl rfl)

theorem State.badPage_keeps {s page} (h : s.Keeps q)
    (hq : q.Off 0x200106 := by have h := ‹Keep.Off q _›; exact Keep.sub h (by decide)) :
    (State.badPage s page).Keeps q := by
  unfold State.badPage
  with_reducible repeat' first | assumption | refine State.badValue_keeps ?_ | refine State.Keeps.ite ?_ ?_

theorem State.scopeBad_keeps {s page v} (h : s.Keeps q)
    (hq : q.Off 0x200106 := by have h := ‹Keep.Off q _›; exact Keep.sub h (by decide)) :
    (State.scopeBad s page v).Keeps q := by
  unfold State.scopeBad
  with_reducible repeat' first
    | assumption
    | ((try lift_lets -underBinder); intro x; refine (fun (_ : State.Keeps q x) => ?_) ?_; on_goal 2 => unfold x)
    | refine State.fault_keeps ?_ | refine State.badPage_keeps ?_ | refine State.Keeps.ite ?_ ?_

theorem State.ctrlTake_keeps {s r page v} (h : s.Keeps q)
    (hq : q.Off 0x7ffffffffe := by have h := ‹Keep.Off q _›; exact Keep.sub h (by decide)) :
    (State.ctrlTake s r page v).Keeps q := by
  unfold State.ctrlTake
  with_reducible repeat' first
    | assumption
    | ((try lift_lets -underBinder); intro x; refine (fun (_ : State.Keeps q x) => ?_) ?_; on_goal 2 => unfold x)
    | ((try lift_lets -underBinder); intro x; have hx : x = x := (by unfold x; rfl); clear hx)
    | refine State.setReg_keeps ?_ | refine State.ctrlChanged_keeps ?_ | refine State.resetRequest_keeps ?_
    | refine State.noteUnstop_keeps ?_ | refine State.pinsRefresh_keeps ?_ | refine State.Keeps.ite ?_ ?_

theorem State.ctrlWrite_keeps {s r page v} (h : s.Keeps q)
    (hq : q.Off 0x7ffffffffe := by have h := ‹Keep.Off q _›; exact Keep.sub h (by decide)) :
    (State.ctrlWrite s r page v).Keeps q := by
  unfold State.ctrlWrite
  with_reducible repeat' first
    | assumption | refine State.scopeBad_keeps ?_ | refine State.ctrlTake_keeps ?_ | refine State.Keeps.ite ?_ ?_

theorem State.ownWrite_keeps {s r i o v} (h : s.Keeps q)
    (hq : q.Off 0x7ffffffffe := by have h := ‹Keep.Off q _›; exact Keep.sub h (by decide)) :
    KeptOpt q (State.ownWrite s r i o v) := by
  unfold State.ownWrite
  with_reducible repeat' first
    | assumption | refine fun _ => ?_
    | ((try lift_lets -underBinder); intro x; have hx : x = x := (by unfold x; rfl); clear hx) | refine KeptOpt.ite ?_ ?_
    | refine KeptOpt.of_some ?_ | exact KeptOpt.of_none | refine State.setReg_keeps ?_ | refine State.rdmRegWrite_keeps ?_
    | refine State.headWrite_keeps ?_ | refine State.rdmGoWrite_keeps ?_ | refine State.clockMove_keeps ?_
    | refine State.pairAction_keeps ?_ | refine State.ctrSub_keeps ?_ | refine State.fdbWrite_keeps ?_
    | refine State.progHi_keeps ?_ | refine State.retryWrite_keeps ?_ | refine State.calAction_keeps ?_
    | refine State.wdtWrite_keeps ?_ | refine State.listGo_keeps ?_ | refine State.frameReadyWrite_keeps ?_
    | refine State.txTail_keeps ?_ | refine State.ctrSet_keeps ?_ | refine State.stageWord_keeps ?_
    | refine State.msixTable_keeps ?_ | refine State.queueAction_keeps ?_ | refine State.wdtKick_keeps ?_
    | refine State.cntStage_keeps ?_ | refine State.evrAction_keeps ?_ | refine State.rxTail_keeps ?_
    | refine State.fwuAction_keeps ?_ | refine State.queueWriteBy_keeps ?_ | refine State.queueCtrl_keeps ?_
    | refine State.writeSrcCfg_keeps ?_ | refine State.completeWrite_keeps ?_ | refine State.cntLoad_keeps ?_
    | refine State.submitStaged_keeps ?_ | refine State.tlAction_keeps ?_ | refine State.trigWrite_keeps ?_
    | refine State.progLo_keeps ?_ | refine State.thrEndWrite_keeps ?_ | refine State.sysWrite_keeps ?_
    | refine State.portStateWrite_keeps ?_ | refine State.icuChange_keeps ?_ ?_ | refine State.pwrRequest_keeps ?_
    | refine State.Keeps.ite ?_ ?_ | split

theorem State.plainWrite_keeps {s r i page off v0} (h : s.Keeps q)
    (hq : q.Off 0x200106 := by have h := ‹Keep.Off q _›; exact Keep.sub h (by decide)) :
    (State.plainWrite s r i page off v0).Keeps q := by
  unfold State.plainWrite
  with_reducible repeat' first
    | assumption | ((try lift_lets -underBinder); intro x; have hx : x = x := (by unfold x; rfl); clear hx)
    | refine State.fault_keeps ?_ | refine State.setReg_keeps ?_ | refine State.badValue_keeps ?_
    | refine State.setShd_keeps ?_ | refine State.Keeps.ite ?_ ?_ | split

theorem State.statusBit_keeps {s i page n} (h : s.Keeps q)
    (hq : q.Off 0x200106 := by have h := ‹Keep.Off q _›; exact Keep.sub h (by decide)) :
    (State.statusBit s i page n).Keeps q := by
  unfold State.statusBit
  with_reducible repeat' first
    | assumption
    | ((try lift_lets -underBinder); intro x; refine (fun (_ : State.Keeps q x) => ?_) ?_; on_goal 2 => unfold x)
    | ((try lift_lets -underBinder); intro x; have hx : x = x := (by unfold x; rfl); clear hx)
    | refine State.setFlag_keeps ?_ | refine State.irq_keeps ?_ | refine State.swtEvent_keeps ?_
    | refine State.Keeps.ite ?_ ?_ | split

theorem State.setBits_keeps {s i page off v0} (h : s.Keeps q)
    (hq : q.Off 0x200106 := by have h := ‹Keep.Off q _›; exact Keep.sub h (by decide)) :
    (State.setBits s i page off v0).Keeps q := by
  unfold State.setBits
  with_reducible repeat' first
    | assumption | refine fun _ => ?_
    | ((try lift_lets -underBinder); intro x; refine (fun (_ : State.Keeps q x) => ?_) ?_; on_goal 2 => unfold x)
    | ((try lift_lets -underBinder); intro x; have hx : x = x := (by unfold x; rfl); clear hx)
    | refine State.ringLevels_keeps ?_ | refine State.fault_keeps ?_ | refine State.setReg_keeps ?_
    | refine State.irq_keeps ?_ | refine State.pendingAlias_keeps ?_ | refine State.statusBit_keeps ?_
    | refine State.icuChange_keeps ?_ ?_ | refine State.Keeps.ite ?_ ?_ | refine State.Keeps.foldl ?_ ?_

theorem State.clearHook_keeps {s i o v} (h : s.Keeps q)
    (hq : q.Off 0x201106 := by have h := ‹Keep.Off q _›; exact Keep.sub h (by decide)) :
    (State.clearHook s i o v).Keeps q := by
  unfold State.clearHook
  with_reducible repeat' first
    | assumption
    | ((try lift_lets -underBinder); intro x; refine (fun (_ : State.Keeps q x) => ?_) ?_; on_goal 2 => unfold x)
    | ((try lift_lets -underBinder); intro x; have hx : x = x := (by unfold x; rfl); clear hx)
    | refine State.ringLevels_keeps ?_ | refine State.setFlag_keeps ?_ | refine State.setNat_keeps ?_
    | refine State.Keeps.ite ?_ ?_ | fail_if_no_progress (refine State.Keeps.upd ?_ rfl rfl rfl rfl) | split

theorem State.clearBits_keeps {s i page off v0} (h : s.Keeps q)
    (hq : q.Off 0x201946 := by have h := ‹Keep.Off q _›; exact Keep.sub h (by decide)) :
    (State.clearBits s i page off v0).Keeps q := by
  unfold State.clearBits
  with_reducible repeat' first
    | assumption | refine fun _ => ?_
    | ((try lift_lets -underBinder); intro x; have hx : x = x := (by unfold x; rfl); clear hx)
    | refine State.setReg_keeps ?_ | refine State.clearHook_keeps ?_ | refine State.pendingAlias_keeps ?_
    | refine State.guardRefused_keeps ?_ | refine State.icuChange_keeps ?_ ?_ | refine State.Keeps.ite ?_ ?_

theorem State.regWrite_keeps {s r since i page off v} (h : s.Keeps q)
    (hq : q.Off 0x7ffffffffe := by have h := ‹Keep.Off q _›; exact Keep.sub h (by decide)) :
    (State.regWrite s r since i page off v).Keeps q := by
  unfold State.regWrite
  with_reducible repeat' first
    | assumption | refine State.setBits_keeps ?_ | refine State.armGroup_keeps ?_ | refine State.plainWrite_keeps ?_
    | refine State.ctrlWrite_keeps ?_ | refine State.clearBits_keeps ?_ | refine KeptOpt.getD (State.ownWrite_keeps ?_) ?_
    | refine State.disarmGroup_keeps ?_ | refine State.Keeps.ite ?_ ?_

theorem State.mirrorWrite_keeps {s r page off v} (h : s.Keeps q)
    (hq : q.Off 0x2203946 := by have h := ‹Keep.Off q _›; exact Keep.sub h (by decide)) :
    (State.mirrorWrite s r page off v).Keeps q := by
  unfold State.mirrorWrite
  with_reducible repeat' first
    | assumption | refine State.setFlag_keeps ?_ | refine State.tsxSend_keeps ?_ | refine State.Keeps.ite ?_ ?_ | split

theorem State.unmapped_keeps {s} (h : s.Keeps q)
    (hq : q.Off 0x200106 := by have h := ‹Keep.Off q _›; exact Keep.sub h (by decide)) :
    (State.unmapped s).Keeps q := by
  unfold State.unmapped
  with_reducible repeat' first | assumption | refine State.fault_keeps ?_

theorem State.writeDropped_keeps {s r i page off} (h : s.Keeps q)
    (hq : q.Off 0x200106 := by have h := ‹Keep.Off q _›; exact Keep.sub h (by decide)) :
    (State.writeDropped s r i page off).Keeps q := by
  unfold State.writeDropped
  with_reducible repeat' first
    | assumption | refine fun _ => ?_
    | ((try lift_lets -underBinder); intro x; refine (fun (_ : State.Keeps q x) => ?_) ?_; on_goal 2 => unfold x)
    | refine State.fault_keeps ?_ | refine State.Keeps.ite ?_ ?_ | refine State.Keeps.foldl ?_ ?_

theorem State.pageWrite_keeps {s r since page off v} (h : s.Keeps q)
    (hq : q.Off 0x7ffffffffe := by have h := ‹Keep.Off q _›; exact Keep.sub h (by decide)) :
    (State.pageWrite s r since page off v).Keeps q := by
  unfold State.pageWrite
  with_reducible repeat' first
    | assumption | refine State.mirrorWrite_keeps ?_ | refine State.unmapped_keeps ?_ | refine State.regWrite_keeps ?_
    | refine State.writeDropped_keeps ?_ | refine State.Keeps.ite ?_ ?_ | split

theorem State.narrowWrite_keeps {s r page off} (h : s.Keeps q)
    (hq : q.Off 0x200106 := by have h := ‹Keep.Off q _›; exact Keep.sub h (by decide)) :
    (State.narrowWrite s r page off).Keeps q := by
  unfold State.narrowWrite
  with_reducible repeat' first
    | assumption | refine State.unmapped_keeps ?_ | refine State.fault_keeps ?_ | refine State.writeDropped_keeps ?_
    | split

theorem State.memWrite_keeps {s r a l} (h : s.Keeps q)
    (hq : q.Off 0x2203956 := by have h := ‹Keep.Off q _›; exact Keep.sub h (by decide)) :
    (State.memWrite s r a l).Keeps q := by
  unfold State.memWrite
  with_reducible repeat' first
    | assumption | refine State.unmapped_keeps ?_ | refine State.fault_keeps ?_ | refine State.hwTell_keeps ?_
    | refine State.setBytes_keeps ?_ | refine State.Keeps.ite ?_ ?_

theorem State.busWriteAt_keeps {s r since a size v} (h : s.Keeps q)
    (hq : q.Off 0x7ffffffffe := by have h := ‹Keep.Off q _›; exact Keep.sub h (by decide)) :
    (State.busWriteAt s r since a size v).Keeps q := by
  unfold State.busWriteAt
  with_reducible repeat' first
    | assumption | refine fun _ => ?_
    | ((try lift_lets -underBinder); intro x; have hx : x = x := (by unfold x; rfl); clear hx)
    | refine State.memWrite_keeps ?_ | refine State.access_keeps ?_ ?_ | refine State.pageWrite_keeps ?_
    | refine State.narrowWrite_keeps ?_ | refine State.Keeps.ite ?_ ?_

theorem State.busWrite_keeps {s r page off v} (h : s.Keeps q)
    (hq : q.Off 0x7ffffffffe := by have h := ‹Keep.Off q _›; exact Keep.sub h (by decide)) :
    (State.busWrite s r page off v).Keeps q := by
  unfold State.busWrite
  with_reducible repeat' first
    | assumption | refine fun _ => ?_ | refine State.access_keeps ?_ ?_ | refine State.pageWrite_keeps ?_

theorem execRegisterWrite_keeps {req addr size value s} (h : s.Keeps q)
    (hq : q.Off 0x7ffffffffe := by have h := ‹Keep.Off q _›; exact Keep.sub h (by decide)) :
    Kept q (execRegisterWrite req addr size value s) := by
  unfold execRegisterWrite
  with_reducible repeat' first | assumption | refine done_keeps ?_ | refine State.busWriteAt_keeps ?_

theorem execSetAliasWrite_keeps {req page off value s} (h : s.Keeps q)
    (hq : q.Off 0x7ffffffffe := by have h := ‹Keep.Off q _›; exact Keep.sub h (by decide)) :
    Kept q (execSetAliasWrite req page off value s) := by
  unfold execSetAliasWrite
  with_reducible repeat' first | assumption | refine done_keeps ?_ | refine State.busWrite_keeps ?_

theorem State.captureLoad_keeps {s i g l} (h : s.Keeps q)
    (hq : q.Off 0x6 := by have h := ‹Keep.Off q _›; exact Keep.sub h (by decide)) :
    (State.captureLoad s i g l).Keeps q := by
  unfold State.captureLoad
  with_reducible repeat' first
    | assumption | refine fun _ => ?_ | refine State.setReg_keeps ?_ | refine State.Keeps.ite ?_ ?_
    | refine State.Keeps.foldl ?_ ?_

theorem State.sameCycle_keeps {s page off v captured} (h : s.Keeps q)
    (hq : q.Off 0x200106 := by have h := ‹Keep.Off q _›; exact Keep.sub h (by decide)) :
    (State.sameCycle s page off v captured).Keeps q := by
  unfold State.sameCycle
  with_reducible repeat' first
    | assumption | refine State.setBits_keeps ?_ | refine State.captureLoad_keeps ?_ | refine State.Keeps.ite ?_ ?_
    | split

theorem execClrAliasWrite_keeps {req page off value hwSet captured presenceLow s} (h : s.Keeps q)
    (hq : q.Off 0x7ffffffffe := by have h := ‹Keep.Off q _›; exact Keep.sub h (by decide)) :
    Kept q (execClrAliasWrite req page off value hwSet captured presenceLow s) := by
  unfold execClrAliasWrite
  with_reducible repeat' first
    | assumption | refine done_keeps ?_ | refine State.busWrite_keeps ?_ | refine State.presence_keeps ?_
    | refine State.sameCycle_keeps ?_

theorem execPageEnable_keeps {req page on s} (h : s.Keeps q)
    (hq : q.Off 0x7ffffffffe := by have h := ‹Keep.Off q _›; exact Keep.sub h (by decide)) :
    Kept q (execPageEnable req page on s) := by
  unfold execPageEnable
  with_reducible repeat' first | assumption | refine done_keeps ?_ | refine State.busWrite_keeps ?_

theorem execPageStop_keeps {req page on s} (h : s.Keeps q)
    (hq : q.Off 0x7ffffffffe := by have h := ‹Keep.Off q _›; exact Keep.sub h (by decide)) :
    Kept q (execPageStop req page on s) := by
  unfold execPageStop
  with_reducible repeat' first | assumption | refine done_keeps ?_ | refine State.busWrite_keeps ?_

theorem execPageReset_keeps {req page scope s} (h : s.Keeps q)
    (hq : q.Off 0x7ffffffffe := by have h := ‹Keep.Off q _›; exact Keep.sub h (by decide)) :
    Kept q (execPageReset req page scope s) := by
  unfold execPageReset
  with_reducible repeat' first | assumption | refine done_keeps ?_ | refine State.busWrite_keeps ?_

theorem execArm_keeps {req page s} (h : s.Keeps q)
    (hq : q.Off 0x7ffffffffe := by have h := ‹Keep.Off q _›; exact Keep.sub h (by decide)) :
    Kept q (execArm req page s) := by
  unfold execArm
  with_reducible repeat' first | assumption | refine done_keeps ?_ | refine State.busWrite_keeps ?_

theorem execDisarm_keeps {req page s} (h : s.Keeps q)
    (hq : q.Off 0x7ffffffffe := by have h := ‹Keep.Off q _›; exact Keep.sub h (by decide)) :
    Kept q (execDisarm req page s) := by
  unfold execDisarm
  with_reducible repeat' first | assumption | refine done_keeps ?_ | refine State.busWrite_keeps ?_

theorem execUnmappedAccess_keeps {u0 addr write s} (h : s.Keeps q)
    (hq : q.Off 0x203106 := by have h := ‹Keep.Off q _›; exact Keep.sub h (by decide)) :
    Kept q (execUnmappedAccess u0 addr write s) := by
  unfold execUnmappedAccess
  with_reducible repeat' first
    | assumption | refine fun _ => ?_ | refine done_keeps ?_ | refine State.unmapped_keeps ?_
    | refine State.access_keeps ?_ ?_ | refine State.emit_keeps ?_ | refine State.Keeps.ite ?_ ?_

theorem execListGo_keeps {req n k s} (h : s.Keeps q)
    (hq : q.Off 0x7ffffffffe := by have h := ‹Keep.Off q _›; exact Keep.sub h (by decide)) :
    Kept q (execListGo req n k s) := by
  unfold execListGo
  with_reducible repeat' first | assumption | refine done_keeps ?_ | refine State.busWrite_keeps ?_

theorem execSubDStage_keeps {req n k value s} (h : s.Keeps q)
    (hq : q.Off 0x7ffffffffe := by have h := ‹Keep.Off q _›; exact Keep.sub h (by decide)) :
    Kept q (execSubDStage req n k value s) := by
  unfold execSubDStage
  with_reducible repeat' first | assumption | refine done_keeps ?_ | refine State.busWrite_keeps ?_

theorem execJobSubmit_keeps {req n d7 s} (h : s.Keeps q)
    (hq : q.Off 0x7ffffffffe := by have h := ‹Keep.Off q _›; exact Keep.sub h (by decide)) :
    Kept q (execJobSubmit req n d7 s) := by
  unfold execJobSubmit
  with_reducible repeat' first | assumption | refine done_keeps ?_ | refine State.busWrite_keeps ?_

theorem execCtrValueWrite_keeps {req n value s} (h : s.Keeps q)
    (hq : q.Off 0x7ffffffffe := by have h := ‹Keep.Off q _›; exact Keep.sub h (by decide)) :
    Kept q (execCtrValueWrite req n value s) := by
  unfold execCtrValueWrite
  with_reducible repeat' first | assumption | refine done_keeps ?_ | refine State.busWrite_keeps ?_

theorem execCtrSignal_keeps {req n value s} (h : s.Keeps q)
    (hq : q.Off 0x7ffffffffe := by have h := ‹Keep.Off q _›; exact Keep.sub h (by decide)) :
    Kept q (execCtrSignal req n value s) := by
  unfold execCtrSignal
  with_reducible repeat' first | assumption | refine done_keeps ?_ | refine State.busWrite_keeps ?_

theorem execDomHeadSet_keeps {req n value s} (h : s.Keeps q)
    (hq : q.Off 0x7ffffffffe := by have h := ‹Keep.Off q _›; exact Keep.sub h (by decide)) :
    Kept q (execDomHeadSet req n value s) := by
  unfold execDomHeadSet
  with_reducible repeat' first | assumption | refine done_keeps ?_ | refine State.busWrite_keeps ?_

theorem execThrEnd_keeps {req n thread s} (h : s.Keeps q)
    (hq : q.Off 0x7ffffffffe := by have h := ‹Keep.Off q _›; exact Keep.sub h (by decide)) :
    Kept q (execThrEnd req n thread s) := by
  unfold execThrEnd
  with_reducible repeat' first | assumption | refine done_keeps ?_ | refine State.busWrite_keeps ?_

theorem execRdmGo_keeps {req k s} (h : s.Keeps q)
    (hq : q.Off 0x7ffffffffe := by have h := ‹Keep.Off q _›; exact Keep.sub h (by decide)) :
    Kept q (execRdmGo req k s) := by
  unfold execRdmGo
  with_reducible repeat' first | assumption | refine done_keeps ?_ | refine State.busWrite_keeps ?_

theorem execRdmAbort_keeps {req k s} (h : s.Keeps q)
    (hq : q.Off 0x7ffffffffe := by have h := ‹Keep.Off q _›; exact Keep.sub h (by decide)) :
    Kept q (execRdmAbort req k s) := by
  unfold execRdmAbort
  with_reducible repeat' first | assumption | refine done_keeps ?_ | refine State.busWrite_keeps ?_

theorem execRetry_keeps {req k s} (h : s.Keeps q)
    (hq : q.Off 0x7ffffffffe := by have h := ‹Keep.Off q _›; exact Keep.sub h (by decide)) :
    Kept q (execRetry req k s) := by
  unfold execRetry
  with_reducible repeat' first | assumption | refine done_keeps ?_ | refine State.busWrite_keeps ?_

theorem execProgDataLoWrite_keeps {req n value s} (h : s.Keeps q)
    (hq : q.Off 0x7ffffffffe := by have h := ‹Keep.Off q _›; exact Keep.sub h (by decide)) :
    Kept q (execProgDataLoWrite req n value s) := by
  unfold execProgDataLoWrite
  with_reducible repeat' first | assumption | refine done_keeps ?_ | refine State.busWrite_keeps ?_

theorem execProgDataHiWrite_keeps {req n value s} (h : s.Keeps q)
    (hq : q.Off 0x7ffffffffe := by have h := ‹Keep.Off q _›; exact Keep.sub h (by decide)) :
    Kept q (execProgDataHiWrite req n value s) := by
  unfold execProgDataHiWrite
  with_reducible repeat' first | assumption | refine done_keeps ?_ | refine State.busWrite_keeps ?_

theorem execFrameReadyWrite_keeps {req k s} (h : s.Keeps q)
    (hq : q.Off 0x7ffffffffe := by have h := ‹Keep.Off q _›; exact Keep.sub h (by decide)) :
    Kept q (execFrameReadyWrite req k s) := by
  unfold execFrameReadyWrite
  with_reducible repeat' first | assumption | refine done_keeps ?_ | refine State.busWrite_keeps ?_

theorem execSysStateRun_keeps {req testMode s} (h : s.Keeps q)
    (hq : q.Off 0x7ffffffffe := by have h := ‹Keep.Off q _›; exact Keep.sub h (by decide)) :
    Kept q (execSysStateRun req testMode s) := by
  unfold execSysStateRun
  with_reducible repeat' first
    | assumption | ((try lift_lets -underBinder); intro x; have hx : x = x := (by unfold x; rfl); clear hx)
    | refine done_keeps ?_ | refine State.busWrite_keeps ?_
    | fail_if_no_progress (refine State.Keeps.upd ?_ rfl rfl rfl rfl)

theorem execSysStateTest_keeps {req s} (h : s.Keeps q)
    (hq : q.Off 0x7ffffffffe := by have h := ‹Keep.Off q _›; exact Keep.sub h (by decide)) :
    Kept q (execSysStateTest req s) := by
  unfold execSysStateTest
  with_reducible repeat' first | assumption | refine done_keeps ?_ | refine State.busWrite_keeps ?_

theorem execSysStateRecovery_keeps {req s} (h : s.Keeps q)
    (hq : q.Off 0x7ffffffffe := by have h := ‹Keep.Off q _›; exact Keep.sub h (by decide)) :
    Kept q (execSysStateRecovery req s) := by
  unfold execSysStateRecovery
  with_reducible repeat' first | assumption | refine done_keeps ?_ | refine State.busWrite_keeps ?_

theorem execWdtKick_keeps {req s} (h : s.Keeps q)
    (hq : q.Off 0x7ffffffffe := by have h := ‹Keep.Off q _›; exact Keep.sub h (by decide)) :
    Kept q (execWdtKick req s) := by
  unfold execWdtKick
  with_reducible repeat' first | assumption | refine done_keeps ?_ | refine State.busWrite_keeps ?_

theorem execWatchdogExpire_keeps {s} (h : s.Keeps q)
    (hq : q.Off 0x7ffffffffe := by have h := ‹Keep.Off q _›; exact Keep.sub h (by decide)) :
    Kept q (execWatchdogExpire s) := by
  unfold execWatchdogExpire
  with_reducible repeat' first | assumption | refine done_keeps ?_ | refine State.wdtExpire_keeps ?_

theorem State.noteRanges_keeps {s a n} (h : s.Keeps q)
    (hq : q.Off 0x6 := by have h := ‹Keep.Off q _›; exact Keep.sub h (by decide)) :
    (State.noteRanges s a n).Keeps q := by
  unfold State.noteRanges
  with_reducible repeat' first
    | assumption | refine fun _ => ?_ | refine State.setFlag_keeps ?_ | refine State.Keeps.ite ?_ ?_
    | refine State.Keeps.foldl ?_ ?_

theorem State.windowWrite_keeps {s x l} (h : s.Keeps q)
    (hq : q.Off 0x2203956 := by have h := ‹Keep.Off q _›; exact Keep.sub h (by decide)) :
    (State.windowWrite s x l).Keeps q := by
  unfold State.windowWrite
  with_reducible repeat' first
    | assumption
    | ((try lift_lets -underBinder); intro x; refine (fun (_ : State.Keeps q x) => ?_) ?_; on_goal 2 => unfold x)
    | ((try lift_lets -underBinder); intro x; have hx : x = x := (by unfold x; rfl); clear hx)
    | refine State.reuseCheck_keeps ?_ | refine State.hwTell_keeps ?_ | refine State.noteRanges_keeps ?_
    | refine State.tellMem_keeps ?_ | refine State.setBytes_keeps ?_ | refine State.Keeps.ite ?_ ?_

theorem execMemoryWindowWrite_keeps {addr data s} (h : s.Keeps q)
    (hq : q.Off 0x2203956 := by have h := ‹Keep.Off q _›; exact Keep.sub h (by decide)) :
    Kept q (execMemoryWindowWrite addr data s) := by
  unfold execMemoryWindowWrite
  with_reducible repeat' first
    | assumption | refine done_keeps ?_ | refine State.windowWrite_keeps ?_ | refine State.Keeps.ite ?_ ?_

end Sys2Proof.Machine
end

