-- ==== Sys2Proof/Laws/KeepsStart.lean ====
section
/-!
SUPPORT. What the operations of Machine/Start.lean keep.
-/
set_option Elab.async false
namespace Sys2Proof.Machine

variable {q : Keep}

theorem State.modBoot_keeps {s f} (h : s.Keeps q)
    (hq : q.Off 0x400000000 := by have h := ‹Keep.Off q _›; exact Keep.sub h (by decide)) :
    (State.modBoot s f).Keeps q := by
  unfold State.modBoot
  with_reducible repeat' first | assumption | fail_if_no_progress (refine State.Keeps.upd ?_ rfl rfl rfl rfl)

theorem State.setStep_keeps {s n} (h : s.Keeps q)
    (hq : q.Off 0x6 := by have h := ‹Keep.Off q _›; exact Keep.sub h (by decide)) : (State.setStep s n).Keeps q := by
  unfold State.setStep
  with_reducible repeat' first | assumption | refine State.setFld_keeps ?_

theorem State.romEnable_keeps {s page} (h : s.Keeps q)
    (hq : q.Off 0x7ffffffffe := by have h := ‹Keep.Off q _›; exact Keep.sub h (by decide)) :
    (State.romEnable s page).Keeps q := by
  unfold State.romEnable
  with_reducible repeat' first | assumption | refine State.ctrlWrite_keeps ?_

theorem State.bootRom_keeps {s} (h : s.Keeps q)
    (hq : q.Off 0x7ffffffffe := by have h := ‹Keep.Off q _›; exact Keep.sub h (by decide)) :
    (State.bootRom s).Keeps q := by
  unfold State.bootRom
  with_reducible repeat' first
    | assumption
    | ((try lift_lets -underBinder); intro x; refine (fun (_ : State.Keeps q x) => ?_) ?_; on_goal 2 => unfold x)
    | refine State.setReg_keeps ?_ | refine State.calScan_keeps ?_ | refine State.setNat_keeps ?_
    | refine State.wdtRestart_keeps ?_ | refine State.romEnable_keeps ?_ | refine State.modBoot_keeps ?_

theorem State.slotChecks_keeps {s} (h : s.Keeps q)
    (hq : q.Off 0x2003707b56 := by have h := ‹Keep.Off q _›; exact Keep.sub h (by decide)) :
    (State.slotChecks s).Keeps q := by
  unfold State.slotChecks
  with_reducible repeat' first
    | assumption
    | ((try lift_lets -underBinder); intro x; refine (fun (_ : State.Keeps q x) => ?_) ?_; on_goal 2 => unfold x)
    | ((try lift_lets -underBinder); intro x; refine (fun (_ : State.Keeps q x.2) => ?_) ?_; on_goal 2 => unfold x)
    | refine State.enterQuiet_keeps ?_ | refine State.startCopy_keeps ?_ | refine State.bootSelect_keeps ?_
    | refine State.Keeps.ite ?_ ?_

theorem State.mergeStatus_keeps {s old bad page} (h : s.Keeps q) (hold : old.Keeps q)
    (hq : q.Off 0x6 := by have h := ‹Keep.Off q _›; exact Keep.sub h (by decide)) :
    (State.mergeStatus s old bad page).Keeps q := by
  unfold State.mergeStatus
  with_reducible repeat' first
    | assumption | ((try lift_lets -underBinder); intro x; have hx : x = x := (by unfold x; rfl); clear hx)
    | refine State.setReg_keeps ?_ | refine State.Keeps.ite ?_ ?_ | split

theorem State.restoredLive_wf {s : State} {bad : List Nat} (h : Tab.wf resetVal s.live = true) :
    Tab.wf resetVal (s.restoredLive bad) = true := by
  have key : ∀ (l t : Tab Word), Tab.wf resetVal t = true → Tab.wf resetVal (l.foldl (fun (t : Tab Word) e =>
      if staysAtRestore bad e.1 then t else Tab.set resetVal t e.1 e.2) t) = true := by
    intro l
    induction l with
    | nil => exact fun t ht => ht
    | cons e l ih =>
      intro t ht
      refine ih _ ?_
      dsimp only
      split
      · exact ht
      · exact Tab.wf_set _ _ _ ht
  exact key _ _ (Tab.wf_keep _ _ h)

theorem State.loadImage_keeps {s : State} {bad : List Nat} (h : s.Keeps q) (hq : q.Off 0x1906 := by have h := ‹Keep.Off q _›; exact Keep.sub h (by decide)) : (State.loadImage s bad).Keeps q := by
  unfold State.loadImage
  lift_lets
  intro m s1 s2 x
  have h1 : s1.Keeps q := State.Keeps.setLive h (fun hc => State.restoredLive_wf (h.live hc))
  have h2 : s2.Keeps q := State.Keeps.foldl h1 (fun _ _ ha => State.mergeStatus_keeps ha h)
  clear_value s1 s2
  repeat' first
    | with_reducible assumption
    | (intro x; refine (fun (_ : State.Keeps q x) => ?_) ?_; on_goal 2 => unfold x)
    | (intro x; have hx : x = x := (by unfold x; rfl); clear hx)
    | with_reducible refine State.Keeps.ite ?_ ?_
    | with_reducible refine State.setSts_keeps ?_
    | fail_if_no_progress (with_reducible refine State.Keeps.upd ?_ rfl rfl rfl rfl)

theorem State.spansAnew_keeps {s} (h : s.Keeps q)
    (hq : q.Off 0x800 := by have h := ‹Keep.Off q _›; exact Keep.sub h (by decide)) : (State.spansAnew s).Keeps q := by
  unfold State.spansAnew
  with_reducible repeat' first
    | assumption | refine fun _ => ?_
    | ((try lift_lets -underBinder); intro x; have hx : x = x := (by unfold x; rfl); clear hx)
    | refine State.Keeps.foldl ?_ ?_ | fail_if_no_progress (refine State.Keeps.upd ?_ rfl rfl rfl rfl)

theorem State.restoreImage_keeps {s bad micros} (h : s.Keeps q)
    (hq : q.Off 0x178278ffde := by have h := ‹Keep.Off q _›; exact Keep.sub h (by decide)) :
    (State.restoreImage s bad micros).Keeps q := by
  unfold State.restoreImage
  with_reducible repeat' first
    | assumption | refine fun _ => ?_
    | ((try lift_lets -underBinder); intro x; refine (fun (_ : State.Keeps q x) => ?_) ?_; on_goal 2 => unfold x)
    | refine State.fault_keeps ?_ | refine State.woke_keeps ?_ | refine State.swtCtrl_keeps ?_
    | refine State.pinsRefresh_keeps ?_ | refine State.synCtrl_keeps ?_ | refine State.spansAnew_keeps ?_
    | refine State.loadImage_keeps ?_ | refine State.modBoot_keeps ?_ | refine State.icuChange_keeps ?_ ?_
    | refine State.Keeps.ite ?_ ?_ | refine State.Keeps.foldl ?_ ?_ | refine State.Keeps.id_ ?_

theorem State.configEntry_keeps {s e} (h : s.Keeps q)
    (hq : q.Off 0x7ffffffffe := by have h := ‹Keep.Off q _›; exact Keep.sub h (by decide)) :
    (State.configEntry s e).Keeps q := by
  unfold State.configEntry
  with_reducible repeat' first
    | assumption | ((try lift_lets -underBinder); intro x; have hx : x = x := (by unfold x; rfl); clear hx)
    | refine State.busWrite_keeps ?_ | refine State.inc_keeps ?_ | refine State.Keeps.ite ?_ ?_

theorem State.gpioSet_keeps {s} (h : s.Keeps q)
    (hq : q.Off 0x80 := by have h := ‹Keep.Off q _›; exact Keep.sub h (by decide)) : (State.gpioSet s).Keeps q := by
  unfold State.gpioSet
  with_reducible repeat' first
    | assumption | ((try lift_lets -underBinder); intro x; have hx : x = x := (by unfold x; rfl); clear hx)
    | fail_if_no_progress (refine State.Keeps.upd ?_ rfl rfl rfl rfl)

theorem State.startFirmware_keeps {s} (h : s.Keeps q)
    (hq : q.Off 0x7ffffffffe := by have h := ‹Keep.Off q _›; exact Keep.sub h (by decide)) :
    (State.startFirmware s).Keeps q := by
  unfold State.startFirmware
  with_reducible repeat' first
    | assumption
    | ((try lift_lets -underBinder); intro x; refine (fun (_ : State.Keeps q x) => ?_) ?_; on_goal 2 => unfold x)
    | refine State.runAnalog_keeps ?_ | refine State.setStep_keeps ?_ | refine State.loadIncrFree_keeps ?_
    | refine State.enterQuiet_keeps ?_ | refine State.sealRecord_keeps ?_ | refine State.setNat_keeps ?_
    | refine State.gpioSet_keeps ?_ | refine State.romEnable_keeps ?_ | refine State.modBoot_keeps ?_
    | refine State.rearm_keeps ?_ | refine State.Keeps.ite ?_ ?_

theorem State.startSettings_keeps {s bad micros} (h : s.Keeps q)
    (hq : q.Off 0x7ffffffffe := by have h := ‹Keep.Off q _›; exact Keep.sub h (by decide)) :
    (State.startSettings s bad micros).Keeps q := by
  unfold State.startSettings
  with_reducible repeat' first
    | assumption | refine fun _ => ?_
    | ((try lift_lets -underBinder); intro x; refine (fun (_ : State.Keeps q x) => ?_) ?_; on_goal 2 => unfold x)
    | refine State.startFirmware_keeps ?_ | refine State.restoreImage_keeps ?_ | refine State.setStep_keeps ?_
    | refine State.configEntry_keeps ?_ | refine State.Keeps.ite ?_ ?_ | refine State.Keeps.foldl ?_ ?_

theorem State.startTraining_keeps {s} (h : s.Keeps q)
    (hq : q.Off 0x7ffffffffe := by have h := ‹Keep.Off q _›; exact Keep.sub h (by decide)) :
    (State.startTraining s).Keeps q := by
  unfold State.startTraining
  with_reducible repeat' first
    | assumption | refine State.setStep_keeps ?_ | refine State.startSettings_keeps ?_ | refine State.Keeps.ite ?_ ?_

theorem State.startRoot_keeps {s} (h : s.Keeps q)
    (hq : q.Off 0x7ffffffffe := by have h := ‹Keep.Off q _›; exact Keep.sub h (by decide)) :
    (State.startRoot s).Keeps q := by
  unfold State.startRoot
  with_reducible repeat' first
    | assumption
    | ((try lift_lets -underBinder); intro x; refine (fun (_ : State.Keeps q x) => ?_) ?_; on_goal 2 => unfold x)
    | refine State.setFlag_keeps ?_ | refine State.setSts_keeps ?_ | refine State.clockMove_keeps ?_
    | refine State.trigger_keeps ?_ | refine State.startTraining_keeps ?_ | refine State.Keeps.ite ?_ ?_

theorem State.releaseHold_keeps {s} (h : s.Keeps q)
    (hq : q.Off 0x7ffffffffe := by have h := ‹Keep.Off q _›; exact Keep.sub h (by decide)) :
    (State.releaseHold s).Keeps q := by
  unfold State.releaseHold
  with_reducible repeat' first
    | assumption | refine State.setFlag_keeps ?_ | refine State.setSts_keeps ?_ | refine State.startTraining_keeps ?_
    | refine State.Keeps.ite ?_ ?_

theorem State.startSequence_keeps {s} (h : s.Keeps q)
    (hq : q.Off 0x7ffffffffe := by have h := ‹Keep.Off q _›; exact Keep.sub h (by decide)) :
    (State.startSequence s).Keeps q := by
  unfold State.startSequence
  with_reducible repeat' first
    | assumption | refine State.setStep_keeps ?_ | refine State.bootRom_keeps ?_ | refine State.slotChecks_keeps ?_
    | refine State.startRoot_keeps ?_ | refine State.Keeps.ite ?_ ?_

theorem State.trainingDone_keeps {s bad micros} (h : s.Keeps q)
    (hq : q.Off 0x7ffffffffe := by have h := ‹Keep.Off q _›; exact Keep.sub h (by decide)) :
    (State.trainingDone s bad micros).Keeps q := by
  unfold State.trainingDone
  with_reducible repeat' first
    | assumption
    | ((try lift_lets -underBinder); intro x; refine (fun (_ : State.Keeps q x) => ?_) ?_; on_goal 2 => unfold x)
    | ((try lift_lets -underBinder); intro x; have hx : x = x := (by unfold x; rfl); clear hx)
    | refine State.startSettings_keeps ?_ | refine State.modBoot_keeps ?_ | refine State.Keeps.ite ?_ ?_
    | fail_if_no_progress (refine State.Keeps.upd ?_ rfl rfl rfl rfl)

theorem State.outputEnable_keeps {s ms} (h : s.Keeps q)
    (hq : q.Off 0x3707b46 := by have h := ‹Keep.Off q _›; exact Keep.sub h (by decide)) :
    (State.outputEnable s ms).Keeps q := by
  unfold State.outputEnable
  with_reducible repeat' first
    | assumption
    | ((try lift_lets -underBinder); intro x; refine (fun (_ : State.Keeps q x) => ?_) ?_; on_goal 2 => unfold x)
    | ((try lift_lets -underBinder); intro x; have hx : x = x := (by unfold x; rfl); clear hx)
    | refine State.setReg_keeps ?_ | refine State.moveSys_keeps ?_ | refine State.claimChanged_keeps ?_
    | refine State.irq_keeps ?_ | refine State.setSts_keeps ?_ | refine State.setStep_keeps ?_
    | refine State.setNat_keeps ?_ | refine State.setShd_keeps ?_ | refine State.Keeps.ite ?_ ?_

theorem State.outWait_keeps {s} (h : s.Keeps q)
    (hq : q.Off 0x400200706 := by have h := ‹Keep.Off q _›; exact Keep.sub h (by decide)) :
    (State.outWait s).Keeps q := by
  unfold State.outWait
  with_reducible repeat' first
    | assumption | refine fun _ => ?_
    | ((try lift_lets -underBinder); intro x; have hx : x = x := (by unfold x; rfl); clear hx)
    | refine State.atOrNow_keeps ?_ ?_ | refine State.modBoot_keeps ?_ | refine State.Keeps.ite ?_ ?_

theorem execStartSequence_keeps {s} (h : s.Keeps q)
    (hq : q.Off 0x7ffffffffe := by have h := ‹Keep.Off q _›; exact Keep.sub h (by decide)) :
    Kept q (execStartSequence s) := by
  unfold execStartSequence
  with_reducible repeat' first | assumption | refine done_keeps ?_ | refine State.startSequence_keeps ?_

theorem execDramTrainingDone_keeps {badPages micros s} (h : s.Keeps q)
    (hq : q.Off 0x7ffffffffe := by have h := ‹Keep.Off q _›; exact Keep.sub h (by decide)) :
    Kept q (execDramTrainingDone badPages micros s) := by
  unfold execDramTrainingDone
  with_reducible repeat' first | assumption | refine done_keeps ?_ | refine State.trainingDone_keeps ?_

theorem execOutputEnable_keeps {ms s} (h : s.Keeps q)
    (hq : q.Off 0x3707b46 := by have h := ‹Keep.Off q _›; exact Keep.sub h (by decide)) :
    Kept q (execOutputEnable ms s) := by
  unfold execOutputEnable
  with_reducible repeat' first | assumption | refine done_keeps ?_ | refine State.outputEnable_keeps ?_

theorem execOutWaitExpire_keeps {s} (h : s.Keeps q)
    (hq : q.Off 0x400200706 := by have h := ‹Keep.Off q _›; exact Keep.sub h (by decide)) :
    Kept q (execOutWaitExpire s) := by
  unfold execOutWaitExpire
  with_reducible repeat' first | assumption | refine done_keeps ?_ | refine State.outWait_keeps ?_

theorem execRootLock_keeps {micros fioKhz s} (h : s.Keeps q)
    (hq : q.Off 0x7ffffffffe := by have h := ‹Keep.Off q _›; exact Keep.sub h (by decide)) :
    Kept q (execRootLock micros fioKhz s) := by
  unfold execRootLock
  with_reducible repeat' first
    | assumption | refine done_keeps ?_ | refine State.rootLock_keeps ?_ | refine State.startRoot_keeps ?_

theorem execThermalMeasure_keeps {t s} (h : s.Keeps q)
    (hq : q.Off 0x7ffffffffe := by have h := ‹Keep.Off q _›; exact Keep.sub h (by decide)) :
    Kept q (execThermalMeasure t s) := by
  unfold execThermalMeasure
  with_reducible repeat' first
    | assumption | refine done_keeps ?_ | refine State.thermalMeasure_keeps ?_ | refine State.startRoot_keeps ?_
    | refine State.releaseHold_keeps ?_

end Sys2Proof.Machine
end

