-- ==== Sys2Proof/Laws/KeepsRedRx.lean ====
section
/-!
SUPPORT. What the operations of Machine/RedRx.lean keep.
-/
set_option Elab.async false
namespace Sys2Proof.Machine

variable {q : Keep}

theorem State.setMirrored_keeps {s a a2} (h : s.Keeps q)
    (hq : q.Off 0x10 := by have h := ‹Keep.Off q _›; exact Keep.sub h (by decide)) :
    (State.setMirrored s a a2).Keeps q := by
  fun_induction State.setMirrored s a a2 <;> try simp only [*]
  with_reducible repeat' first
    | assumption | refine State.setByte_keeps ?_ | apply_assumption -exfalso -symm | refine State.Keeps.ite ?_ ?_

theorem State.rxMemWrite_keeps {s p} (h : s.Keeps q)
    (hq : q.Off 0x201116 := by have h := ‹Keep.Off q _›; exact Keep.sub h (by decide)) :
    (State.rxMemWrite s p).Keeps q := by
  unfold State.rxMemWrite
  with_reducible repeat' first
    | assumption
    | ((try lift_lets -underBinder); intro x; have hx : x = x := (by unfold x; rfl); clear hx; have hy : List _ := x; clear hy; clear_value x)
    | refine State.count_keeps ?_ | refine State.setMirrored_keeps ?_

theorem State.rxRegEntry_keeps {s e} (h : s.Keeps q)
    (hq : q.Off 0x7ffffffffe := by have h := ‹Keep.Off q _›; exact Keep.sub h (by decide)) :
    (State.rxRegEntry s e).Keeps q := by
  unfold State.rxRegEntry
  with_reducible repeat' first
    | assumption | ((try lift_lets -underBinder); intro x; have hx : x = x := (by unfold x; rfl); clear hx)
    | refine State.pageWrite_keeps ?_ | refine State.Keeps.ite ?_ ?_

theorem State.rxRegWrite_keeps {s a a2} (h : s.Keeps q)
    (hq : q.Off 0x7ffffffffe := by have h := ‹Keep.Off q _›; exact Keep.sub h (by decide)) :
    (State.rxRegWrite s a a2).Keeps q := by
  fun_induction State.rxRegWrite s a a2 <;> try simp only [*]
  with_reducible repeat' first
    | assumption | refine State.rxRegEntry_keeps ?_ | apply_assumption -exfalso -symm

theorem State.rxInput_keeps {s cls port epoch stamp d} (h : s.Keeps q)
    (hq : q.Off 0x4e287956 := by have h := ‹Keep.Off q _›; exact Keep.sub h (by decide)) :
    (State.rxInput s cls port epoch stamp d).Keeps q := by
  unfold State.rxInput
  with_reducible repeat' first
    | assumption
    | ((try lift_lets -underBinder); intro x; refine (fun (_ : State.Keeps q x.1) => ?_) ?_; on_goal 2 => unfold x)
    | ((try lift_lets -underBinder); intro x; have hx : x = x := (by unfold x; rfl); clear hx)
    | refine State.rdmReplayed_keeps ?_ | refine State.mergeOffer_keeps ?_ | refine State.fldTake_keeps ?_
    | refine State.ingOffer_keeps ?_ | refine State.dmxAccept_keeps ?_ | refine State.Keeps.ite ?_ ?_ | split

theorem State.rxInputPart_keeps {s p} (h : s.Keeps q)
    (hq : q.Off 0x4e287956 := by have h := ‹Keep.Off q _›; exact Keep.sub h (by decide)) :
    (State.rxInputPart s p).Keeps q := by
  unfold State.rxInputPart
  with_reducible repeat' first
    | assumption
    | ((try lift_lets -underBinder); intro x; have hx : x = x := (by unfold x; rfl); clear hx; have hy : List _ := x; clear hy; clear_value x)
    | ((try lift_lets -underBinder); intro x; have hx : x = x := (by unfold x; rfl); clear hx)
    | refine State.rxInput_keeps ?_ | refine State.setRed_keeps ?_ | refine State.count_keeps ?_
    | refine State.Keeps.ite ?_ ?_

theorem State.rxFix_keeps {s p} (h : s.Keeps q)
    (hq : q.Off 0x260f946 := by have h := ‹Keep.Off q _›; exact Keep.sub h (by decide)) :
    (State.rxFix s p).Keeps q := by
  unfold State.rxFix
  with_reducible repeat' first
    | assumption
    | ((try lift_lets -underBinder); intro x; refine (fun (_ : State.Keeps q x) => ?_) ?_; on_goal 2 => unfold x)
    | ((try lift_lets -underBinder); intro x; have hx : x = x := (by unfold x; rfl); clear hx)
    | refine State.placeStart_keeps ?_ | refine State.setSwath_keeps ?_ | refine State.dropOut_keeps ?_
    | refine State.Keeps.ite ?_ ?_

theorem State.rxRelease_keeps {s p} (h : s.Keeps q)
    (hq : q.Off 0x6297956 := by have h := ‹Keep.Off q _›; exact Keep.sub h (by decide)) :
    (State.rxRelease s p).Keeps q := by
  unfold State.rxRelease
  with_reducible repeat' first
    | assumption | ((try lift_lets -underBinder); intro x; have hx : x = x := (by unfold x; rfl); clear hx)
    | refine State.releaseTold_keeps ?_ | refine State.setSwath_keeps ?_ | refine State.Keeps.ite ?_ ?_

theorem State.rxReady_keeps {s p} (h : s.Keeps q)
    (hq : q.Off 0x2200106 := by have h := ‹Keep.Off q _›; exact Keep.sub h (by decide)) :
    (State.rxReady s p).Keeps q := by
  unfold State.rxReady
  with_reducible repeat' first
    | assumption | ((try lift_lets -underBinder); intro x; have hx : x = x := (by unfold x; rfl); clear hx)
    | refine State.peerIsReady_keeps ?_ | refine State.Keeps.ite ?_ ?_

theorem State.rxSense_keeps {s p} (h : s.Keeps q)
    (hq : q.Off 0xe01906 := by have h := ‹Keep.Off q _›; exact Keep.sub h (by decide)) :
    (State.rxSense s p).Keeps q := by
  unfold State.rxSense
  with_reducible repeat' first
    | assumption | ((try lift_lets -underBinder); intro x; have hx : x = x := (by unfold x; rfl); clear hx)
    | refine State.tsnsTake_keeps ?_ | refine State.lampSample_keeps ?_ | split

theorem State.rxOutcome_keeps {s p} (h : s.Keeps q)
    (hq : q.Off 0x2a03946 := by have h := ‹Keep.Off q _›; exact Keep.sub h (by decide)) :
    (State.rxOutcome s p).Keeps q := by
  unfold State.rxOutcome
  with_reducible repeat' first
    | assumption | refine fun _ => ?_
    | ((try lift_lets -underBinder); intro x; refine (fun (_ : State.Keeps q x) => ?_) ?_; on_goal 2 => unfold x)
    | ((try lift_lets -underBinder); intro x; have hx : x = x := (by unfold x; rfl); clear hx; have hy : List _ := x; clear hy; clear_value x)
    | ((try lift_lets -underBinder); intro x; have hx : x = x := (by unfold x; rfl); clear hx)
    | refine State.rdmDone_keeps ?_ | refine State.setNat_keeps ?_ | refine State.lampRetry_keeps ?_
    | refine State.Keeps.foldl ?_ ?_ | split

theorem State.rxSwapAt_keeps {s p} (h : s.Keeps q)
    (hq : q.Off 0x2203946 := by have h := ‹Keep.Off q _›; exact Keep.sub h (by decide)) :
    (State.rxSwapAt s p).Keeps q := by
  unfold State.rxSwapAt
  with_reducible repeat' first
    | assumption
    | ((try lift_lets -underBinder); intro x; refine (fun (_ : State.Keeps q x) => ?_) ?_; on_goal 2 => unfold x)
    | ((try lift_lets -underBinder); intro x; have hx : x = x := (by unfold x; rfl); clear hx)
    | refine State.roleMsg_keeps ?_ | refine State.setRed_keeps ?_ | refine State.Keeps.ite ?_ ?_

theorem State.rxSwapAck_keeps {s} (h : s.Keeps q)
    (hq : q.Off 0x2000000 := by have h := ‹Keep.Off q _›; exact Keep.sub h (by decide)) :
    (State.rxSwapAck s).Keeps q := by
  unfold State.rxSwapAck
  with_reducible repeat' first
    | assumption | ((try lift_lets -underBinder); intro x; have hx : x = x := (by unfold x; rfl); clear hx)
    | refine State.setRed_keeps ?_ | refine State.Keeps.ite ?_ ?_ | split

theorem State.rxRole_keeps {s p} (h : s.Keeps q)
    (hq : q.Off 0x2203946 := by have h := ‹Keep.Off q _›; exact Keep.sub h (by decide)) :
    (State.rxRole s p).Keeps q := by
  unfold State.rxRole
  with_reducible repeat' first
    | assumption | ((try lift_lets -underBinder); intro x; have hx : x = x := (by unfold x; rfl); clear hx)
    | refine State.rxSwapAck_keeps ?_ | refine State.setRed_keeps ?_ | refine State.rxSwapAt_keeps ?_
    | refine State.planSwap_keeps ?_ | refine State.Keeps.ite ?_ ?_ | split

theorem State.rxConverged_keeps {s p} (h : s.Keeps q)
    (hq : q.Off 0x2000000 := by have h := ‹Keep.Off q _›; exact Keep.sub h (by decide)) :
    (State.rxConverged s p).Keeps q := by
  unfold State.rxConverged
  with_reducible repeat' first
    | assumption | ((try lift_lets -underBinder); intro x; have hx : x = x := (by unfold x; rfl); clear hx)
    | refine State.setRed_keeps ?_ | refine State.Keeps.ite ?_ ?_ | split

theorem State.rxSync_keeps {s p} (h : s.Keeps q)
    (hq : q.Off 0x2203946 := by have h := ‹Keep.Off q _›; exact Keep.sub h (by decide)) :
    (State.rxSync s p).Keeps q := by
  unfold State.rxSync
  with_reducible repeat' first
    | assumption | ((try lift_lets -underBinder); intro x; have hx : x = x := (by unfold x; rfl); clear hx)
    | refine State.copyBegun_keeps ?_ | refine State.rxConverged_keeps ?_ | refine State.beginCopy_keeps ?_
    | refine State.setRed_keeps ?_ | refine State.unsync_keeps ?_ | refine State.Keeps.ite ?_ ?_ | split

theorem State.rxThermal_keeps {s p} (h : s.Keeps q)
    (hq : q.Off 0x6 := by have h := ‹Keep.Off q _›; exact Keep.sub h (by decide)) : (State.rxThermal s p).Keeps q := by
  unfold State.rxThermal
  with_reducible repeat' first | assumption | refine State.setNat_keeps ?_

theorem State.rxRecord_keeps {s p} (h : s.Keeps q)
    (hq : q.Off 0x6 := by have h := ‹Keep.Off q _›; exact Keep.sub h (by decide)) : (State.rxRecord s p).Keeps q := by
  unfold State.rxRecord
  with_reducible repeat' first | assumption | refine State.setNat_keeps ?_

theorem State.deliver_keeps {s f} (h : s.Keeps q)
    (hq : q.Off 0x7ffffffffe := by have h := ‹Keep.Off q _›; exact Keep.sub h (by decide)) :
    (State.deliver s f).Keeps q := by
  unfold State.deliver
  with_reducible repeat' first
    | assumption | refine State.applyBlock_keeps ?_ | refine State.rxSync_keeps ?_ | refine State.rxOutcome_keeps ?_
    | refine State.rxSense_keeps ?_ | refine State.rxRole_keeps ?_ | refine State.rxRecord_keeps ?_
    | refine State.rxInputPart_keeps ?_ | refine State.rxFix_keeps ?_ | refine State.imageRx_keeps ?_
    | refine State.rxReady_keeps ?_ | refine State.rxMemWrite_keeps ?_ | refine State.rxRelease_keeps ?_
    | refine State.rxThermal_keeps ?_ | refine State.peerDigest_keeps ?_ | refine State.rxRegWrite_keeps ?_
    | refine State.Keeps.ite ?_ ?_ | split

theorem State.deliverFrom_keeps {s f a} (h : s.Keeps q)
    (hq : q.Off 0x7ffffffffe := by have h := ‹Keep.Off q _›; exact Keep.sub h (by decide)) :
    (State.deliverFrom s f a).Keeps q := by
  fun_induction State.deliverFrom s f a <;> try simp only [*]
  with_reducible repeat' first
    | assumption | ((try lift_lets -underBinder); intro x; have hx : x = x := (by unfold x; rfl); clear hx)
    | refine State.deliver_keeps ?_ | refine State.setRed_keeps ?_ | apply_assumption -exfalso -symm

theorem State.rxSequenced_keeps {s lane f} (h : s.Keeps q)
    (hq : q.Off 0x7ffffffffe := by have h := ‹Keep.Off q _›; exact Keep.sub h (by decide)) :
    (State.rxSequenced s lane f).Keeps q := by
  unfold State.rxSequenced
  with_reducible repeat' first
    | assumption
    | ((try lift_lets -underBinder); intro x; refine (fun (_ : State.Keeps q x) => ?_) ?_; on_goal 2 => unfold x)
    | ((try lift_lets -underBinder); intro x; have hx : x = x := (by unfold x; rfl); clear hx)
    | refine State.tsxLink_keeps ?_ | refine State.inc_keeps ?_ | refine State.deliverFrom_keeps ?_
    | refine State.setRed_keeps ?_ | refine State.Keeps.ite ?_ ?_

theorem State.rxFrame_keeps {s m f} (h : s.Keeps q) (hf : ∀ a0, a0.Keeps q → (f a0).Keeps q)
    (hq : q.Off 0x3002607b56 := by have h := ‹Keep.Off q _›; exact Keep.sub h (by decide)) :
    (State.rxFrame s m f).Keeps q := by
  unfold State.rxFrame
  with_reducible repeat' first
    | assumption
    | ((try lift_lets -underBinder); intro x; refine (fun (_ : State.Keeps q x) => ?_) ?_; on_goal 2 => unfold x)
    | refine State.takeAck_keeps ?_ | refine State.laneHeard_keeps ?_ | refine State.inc_keeps ?_
    | refine State.count_keeps ?_ | refine hf _ ?_ | refine State.Keeps.ite ?_ ?_

theorem State.rxLink_keeps {s m f} (h : s.Keeps q) (hf : ∀ a0, a0.Keeps q → (f a0).Keeps q)
    (hq : q.Off 0x3002607b56 := by have h := ‹Keep.Off q _›; exact Keep.sub h (by decide)) :
    (State.rxLink s m f).Keeps q := by
  unfold State.rxLink
  with_reducible repeat' first | assumption | refine State.rxFrame_keeps ?_ ?_

theorem State.rxSeq_keeps {s m type plane payload} (h : s.Keeps q)
    (hq : q.Off 0x7ffffffffe := by have h := ‹Keep.Off q _›; exact Keep.sub h (by decide)) :
    (State.rxSeq s m type plane payload).Keeps q := by
  unfold State.rxSeq
  with_reducible repeat' first
    | assumption | refine fun _ => ?_ | refine State.rxSequenced_keeps ?_ | refine State.rxFrame_keeps ?_ ?_

theorem execTsxIdle_keeps {m s} (h : s.Keeps q)
    (hq : q.Off 0x3002607b56 := by have h := ‹Keep.Off q _›; exact Keep.sub h (by decide)) :
    Kept q (execTsxIdle m s) := by
  unfold execTsxIdle
  with_reducible repeat' first
    | assumption | refine fun _ => ?_ | refine done_keeps ?_ | refine State.rxLink_keeps ?_ ?_ | refine State.Keeps.id_ ?_

theorem execHello_keeps {m s} (h : s.Keeps q)
    (hq : q.Off 0x3003707b56 := by have h := ‹Keep.Off q _›; exact Keep.sub h (by decide)) :
    Kept q (execHello m s) := by
  unfold execHello
  with_reducible repeat' first
    | assumption | refine fun _ => ?_ | refine done_keeps ?_ | refine State.peerHello_keeps ?_
    | refine State.rxLink_keeps ?_ ?_

theorem execNak_keeps {m s} (h : s.Keeps q)
    (hq : q.Off 0x3002607b56 := by have h := ‹Keep.Off q _›; exact Keep.sub h (by decide)) : Kept q (execNak m s) := by
  unfold execNak
  with_reducible repeat' first
    | assumption | refine fun _ => ?_ | refine done_keeps ?_ | refine State.resendFrom_keeps ?_
    | refine State.rxLink_keeps ?_ ?_

theorem execTimeReq_keeps {m s} (h : s.Keeps q)
    (hq : q.Off 0x3002607f56 := by have h := ‹Keep.Off q _›; exact Keep.sub h (by decide)) :
    Kept q (execTimeReq m s) := by
  unfold execTimeReq
  with_reducible repeat' first
    | assumption | refine fun _ => ?_ | refine done_keeps ?_ | refine State.answerTime_keeps ?_
    | refine State.sendTimeReq_keeps ?_ | refine State.rxLink_keeps ?_ ?_ | refine State.Keeps.ite ?_ ?_

theorem execTimeRsp_keeps {m s} (h : s.Keeps q)
    (hq : q.Off 0x3202607f56 := by have h := ‹Keep.Off q _›; exact Keep.sub h (by decide)) :
    Kept q (execTimeRsp m s) := by
  unfold execTimeRsp
  with_reducible repeat' first
    | assumption | refine fun _ => ?_ | refine done_keeps ?_ | refine State.peerExchange_keeps ?_
    | refine State.rxLink_keeps ?_ ?_

theorem execInput_keeps {m s} (h : s.Keeps q)
    (hq : q.Off 0x7ffffffffe := by have h := ‹Keep.Off q _›; exact Keep.sub h (by decide)) :
    Kept q (execInput m s) := by
  unfold execInput
  with_reducible repeat' first | assumption | refine done_keeps ?_ | refine State.rxSeq_keeps ?_

theorem execMemwrite_keeps {m s} (h : s.Keeps q)
    (hq : q.Off 0x7ffffffffe := by have h := ‹Keep.Off q _›; exact Keep.sub h (by decide)) :
    Kept q (execMemwrite m s) := by
  unfold execMemwrite
  with_reducible repeat' first | assumption | refine done_keeps ?_ | refine State.rxSeq_keeps ?_

theorem execRegwrite_keeps {m s} (h : s.Keeps q)
    (hq : q.Off 0x7ffffffffe := by have h := ‹Keep.Off q _›; exact Keep.sub h (by decide)) :
    Kept q (execRegwrite m s) := by
  unfold execRegwrite
  with_reducible repeat' first | assumption | refine done_keeps ?_ | refine State.rxSeq_keeps ?_

theorem execFix_keeps {m s} (h : s.Keeps q)
    (hq : q.Off 0x7ffffffffe := by have h := ‹Keep.Off q _›; exact Keep.sub h (by decide)) : Kept q (execFix m s) := by
  unfold execFix
  with_reducible repeat' first | assumption | refine done_keeps ?_ | refine State.rxSeq_keeps ?_

theorem execRelease_keeps {k told s} (h : s.Keeps q)
    (hq : q.Off 0x7ffffffffe := by have h := ‹Keep.Off q _›; exact Keep.sub h (by decide)) :
    Kept q (execRelease k told s) := by
  unfold execRelease
  with_reducible repeat' first
    | assumption | refine done_keeps ?_ | refine State.rxSeq_keeps ?_ | refine State.release_keeps ?_ | split

theorem execReady_keeps {m s} (h : s.Keeps q)
    (hq : q.Off 0x7ffffffffe := by have h := ‹Keep.Off q _›; exact Keep.sub h (by decide)) :
    Kept q (execReady m s) := by
  unfold execReady
  with_reducible repeat' first | assumption | refine done_keeps ?_ | refine State.rxSeq_keeps ?_

theorem execDigest_keeps {m s} (h : s.Keeps q)
    (hq : q.Off 0x7ffffffffe := by have h := ‹Keep.Off q _›; exact Keep.sub h (by decide)) :
    Kept q (execDigest m s) := by
  unfold execDigest
  with_reducible repeat' first | assumption | refine done_keeps ?_ | refine State.rxSeq_keeps ?_

theorem execSense_keeps {m s} (h : s.Keeps q)
    (hq : q.Off 0x7ffffffffe := by have h := ‹Keep.Off q _›; exact Keep.sub h (by decide)) :
    Kept q (execSense m s) := by
  unfold execSense
  with_reducible repeat' first | assumption | refine done_keeps ?_ | refine State.rxSeq_keeps ?_

theorem execOutcome_keeps {m s} (h : s.Keeps q)
    (hq : q.Off 0x7ffffffffe := by have h := ‹Keep.Off q _›; exact Keep.sub h (by decide)) :
    Kept q (execOutcome m s) := by
  unfold execOutcome
  with_reducible repeat' first | assumption | refine done_keeps ?_ | refine State.rxSeq_keeps ?_

theorem execSwapReq_keeps {m s} (h : s.Keeps q)
    (hq : q.Off 0x7ffffffffe := by have h := ‹Keep.Off q _›; exact Keep.sub h (by decide)) :
    Kept q (execSwapReq m s) := by
  unfold execSwapReq
  with_reducible repeat' first | assumption | refine done_keeps ?_ | refine State.rxSeq_keeps ?_

theorem execSwapAt_keeps {m s} (h : s.Keeps q)
    (hq : q.Off 0x7ffffffffe := by have h := ‹Keep.Off q _›; exact Keep.sub h (by decide)) :
    Kept q (execSwapAt m s) := by
  unfold execSwapAt
  with_reducible repeat' first | assumption | refine done_keeps ?_ | refine State.rxSeq_keeps ?_

theorem execSwapAck_keeps {m s} (h : s.Keeps q)
    (hq : q.Off 0x7ffffffffe := by have h := ‹Keep.Off q _›; exact Keep.sub h (by decide)) :
    Kept q (execSwapAck m s) := by
  unfold execSwapAck
  with_reducible repeat' first | assumption | refine done_keeps ?_ | refine State.rxSeq_keeps ?_

theorem execSwapCancel_keeps {m s} (h : s.Keeps q)
    (hq : q.Off 0x7ffffffffe := by have h := ‹Keep.Off q _›; exact Keep.sub h (by decide)) :
    Kept q (execSwapCancel m s) := by
  unfold execSwapCancel
  with_reducible repeat' first | assumption | refine done_keeps ?_ | refine State.rxSeq_keeps ?_

theorem execRevertReq_keeps {m s} (h : s.Keeps q)
    (hq : q.Off 0x7ffffffffe := by have h := ‹Keep.Off q _›; exact Keep.sub h (by decide)) :
    Kept q (execRevertReq m s) := by
  unfold execRevertReq
  with_reducible repeat' first | assumption | refine done_keeps ?_ | refine State.rxSeq_keeps ?_

theorem execResyncReq_keeps {m s} (h : s.Keeps q)
    (hq : q.Off 0x7ffffffffe := by have h := ‹Keep.Off q _›; exact Keep.sub h (by decide)) :
    Kept q (execResyncReq m s) := by
  unfold execResyncReq
  with_reducible repeat' first | assumption | refine done_keeps ?_ | refine State.rxSeq_keeps ?_

theorem execCopyBegin_keeps {m s} (h : s.Keeps q)
    (hq : q.Off 0x7ffffffffe := by have h := ‹Keep.Off q _›; exact Keep.sub h (by decide)) :
    Kept q (execCopyBegin m s) := by
  unfold execCopyBegin
  with_reducible repeat' first | assumption | refine done_keeps ?_ | refine State.rxSeq_keeps ?_

theorem execCutover_keeps {m s} (h : s.Keeps q)
    (hq : q.Off 0x7ffffffffe := by have h := ‹Keep.Off q _›; exact Keep.sub h (by decide)) :
    Kept q (execCutover m s) := by
  unfold execCutover
  with_reducible repeat' first | assumption | refine done_keeps ?_ | refine State.rxSeq_keeps ?_

theorem execSyncBreak_keeps {m s} (h : s.Keeps q)
    (hq : q.Off 0x7ffffffffe := by have h := ‹Keep.Off q _›; exact Keep.sub h (by decide)) :
    Kept q (execSyncBreak m s) := by
  unfold execSyncBreak
  with_reducible repeat' first | assumption | refine done_keeps ?_ | refine State.rxSeq_keeps ?_

theorem execConverged_keeps {m s} (h : s.Keeps q)
    (hq : q.Off 0x7ffffffffe := by have h := ‹Keep.Off q _›; exact Keep.sub h (by decide)) :
    Kept q (execConverged m s) := by
  unfold execConverged
  with_reducible repeat' first | assumption | refine done_keeps ?_ | refine State.rxSeq_keeps ?_

theorem execCopy_keeps {m s} (h : s.Keeps q)
    (hq : q.Off 0x7ffffffffe := by have h := ‹Keep.Off q _›; exact Keep.sub h (by decide)) :
    Kept q (execCopy m s) := by
  unfold execCopy
  with_reducible repeat' first | assumption | refine done_keeps ?_ | refine State.rxSeq_keeps ?_

theorem execThermal_keeps {m s} (h : s.Keeps q)
    (hq : q.Off 0x7ffffffffe := by have h := ‹Keep.Off q _›; exact Keep.sub h (by decide)) :
    Kept q (execThermal m s) := by
  unfold execThermal
  with_reducible repeat' first | assumption | refine done_keeps ?_ | refine State.rxSeq_keeps ?_

theorem execRecord_keeps {m s} (h : s.Keeps q)
    (hq : q.Off 0x7ffffffffe := by have h := ‹Keep.Off q _›; exact Keep.sub h (by decide)) :
    Kept q (execRecord m s) := by
  unfold execRecord
  with_reducible repeat' first | assumption | refine done_keeps ?_ | refine State.rxSeq_keeps ?_

theorem execImageBegin_keeps {m s} (h : s.Keeps q)
    (hq : q.Off 0x7ffffffffe := by have h := ‹Keep.Off q _›; exact Keep.sub h (by decide)) :
    Kept q (execImageBegin m s) := by
  unfold execImageBegin
  with_reducible repeat' first | assumption | refine done_keeps ?_ | refine State.rxSeq_keeps ?_

theorem execImageData_keeps {m s} (h : s.Keeps q)
    (hq : q.Off 0x7ffffffffe := by have h := ‹Keep.Off q _›; exact Keep.sub h (by decide)) :
    Kept q (execImageData m s) := by
  unfold execImageData
  with_reducible repeat' first | assumption | refine done_keeps ?_ | refine State.rxSeq_keeps ?_

theorem execImageEnd_keeps {m s} (h : s.Keeps q)
    (hq : q.Off 0x7ffffffffe := by have h := ‹Keep.Off q _›; exact Keep.sub h (by decide)) :
    Kept q (execImageEnd m s) := by
  unfold execImageEnd
  with_reducible repeat' first | assumption | refine done_keeps ?_ | refine State.rxSeq_keeps ?_

theorem execImageAbort_keeps {m s} (h : s.Keeps q)
    (hq : q.Off 0x7ffffffffe := by have h := ‹Keep.Off q _›; exact Keep.sub h (by decide)) :
    Kept q (execImageAbort m s) := by
  unfold execImageAbort
  with_reducible repeat' first | assumption | refine done_keeps ?_ | refine State.rxSeq_keeps ?_

end Sys2Proof.Machine
end

