-- ==== Sys2Proof/Laws/KeepsSideBus.lean ====
section
/-!
SUPPORT. What the operations of Machine/SideBus.lean keep.
-/
set_option Elab.async false
namespace Sys2Proof.Machine

variable {q : Keep}

theorem State.busRead_keeps {s q1 a} (h : s.Keeps q)
    (hq : q.Off 0x220203306 := by have h := ‹Keep.Off q _›; exact Keep.sub h (by decide)) :
    (State.busRead s q1 a).2.Keeps q := by
  unfold State.busRead
  with_reducible repeat' first
    | assumption | refine State.unmapped_keeps ?_ | refine State.readReg_keeps ?_ | split

theorem State.busReadAt_keeps {s q1 a size} (h : s.Keeps q)
    (hq : q.Off 0x220203306 := by have h := ‹Keep.Off q _›; exact Keep.sub h (by decide)) :
    (State.busReadAt s q1 a size).2.Keeps q := by
  unfold State.busReadAt
  with_reducible repeat' first
    | assumption
    | ((try lift_lets -underBinder); intro x; refine (fun (_ : State.Keeps q x.2) => ?_) ?_; on_goal 2 => unfold x)
    | refine State.busRead_keeps ?_ | split

theorem State.busReadOut_keeps {s q1 a} (h : s.Keeps q)
    (hq : q.Off 0x220203306 := by have h := ‹Keep.Off q _›; exact Keep.sub h (by decide)) :
    (State.busReadOut s q1 a).Keeps q := by
  unfold State.busReadOut
  with_reducible repeat' first
    | assumption | refine fun _ => ?_ | refine State.access_keeps ?_ ?_ | refine State.busRead_keeps ?_
    | refine State.emit_keeps ?_

theorem State.spiWrites_keeps {s a a2 a3} (h : s.Keeps q)
    (hq : q.Off 0x7ffffffffe := by have h := ‹Keep.Off q _›; exact Keep.sub h (by decide)) :
    (State.spiWrites s a a2 a3).Keeps q := by
  fun_induction State.spiWrites s a a2 a3 <;> try simp only [*]
  with_reducible repeat' first
    | assumption | refine State.busWriteAt_keeps ?_ | apply_assumption -exfalso -symm

theorem State.spiReads_keeps {s a a2} (h : s.Keeps q)
    (hq : q.Off 0x220203306 := by have h := ‹Keep.Off q _›; exact Keep.sub h (by decide)) :
    (State.spiReads s a a2).Keeps q := by
  fun_induction State.spiReads s a a2 <;> try simp only [*]
  with_reducible repeat' first
    | assumption | refine State.busReadOut_keeps ?_ | apply_assumption -exfalso -symm

theorem execSpiWrite_keeps {addr data s} (h : s.Keeps q)
    (hq : q.Off 0x7ffffffffe := by have h := ‹Keep.Off q _›; exact Keep.sub h (by decide)) :
    Kept q (execSpiWrite addr data s) := by
  unfold execSpiWrite
  with_reducible repeat' first | assumption | refine done_keeps ?_ | refine State.spiWrites_keeps ?_

theorem execSpiRead_keeps {addr count s} (h : s.Keeps q)
    (hq : q.Off 0x220203306 := by have h := ‹Keep.Off q _›; exact Keep.sub h (by decide)) :
    Kept q (execSpiRead addr count s) := by
  unfold execSpiRead
  with_reducible repeat' first | assumption | refine done_keeps ?_ | refine State.spiReads_keeps ?_

theorem State.jtagLoad_keeps {s i} (h : s.Keeps q)
    (hq : q.Off 0x4000000000 := by have h := ‹Keep.Off q _›; exact Keep.sub h (by decide)) :
    (State.jtagLoad s i).Keeps q := by
  unfold State.jtagLoad
  with_reducible repeat' first | assumption | fail_if_no_progress (refine State.Keeps.upd ?_ rfl rfl rfl rfl)

theorem execJtagBypass_keeps {s} (h : s.Keeps q)
    (hq : q.Off 0x4000000000 := by have h := ‹Keep.Off q _›; exact Keep.sub h (by decide)) :
    Kept q (execJtagBypass s) := by
  unfold execJtagBypass
  with_reducible repeat' first | assumption | refine done_keeps ?_ | refine State.jtagLoad_keeps ?_

theorem execJtagIdcode_keeps {s} (h : s.Keeps q)
    (hq : q.Off 0x4000002000 := by have h := ‹Keep.Off q _›; exact Keep.sub h (by decide)) :
    Kept q (execJtagIdcode s) := by
  unfold execJtagIdcode
  with_reducible repeat' first
    | assumption | refine done_keeps ?_ | refine State.jtagLoad_keeps ?_ | refine State.emit_keeps ?_

theorem execJtagSamplePreload_keeps {s} (h : s.Keeps q)
    (hq : q.Off 0x4000000000 := by have h := ‹Keep.Off q _›; exact Keep.sub h (by decide)) :
    Kept q (execJtagSamplePreload s) := by
  unfold execJtagSamplePreload
  with_reducible repeat' first | assumption | refine done_keeps ?_ | refine State.jtagLoad_keeps ?_

theorem execJtagExtest_keeps {s} (h : s.Keeps q)
    (hq : q.Off 0x4000000000 := by have h := ‹Keep.Off q _›; exact Keep.sub h (by decide)) :
    Kept q (execJtagExtest s) := by
  unfold execJtagExtest
  with_reducible repeat' first | assumption | refine done_keeps ?_ | refine State.jtagLoad_keeps ?_

theorem execJtagClamp_keeps {s} (h : s.Keeps q)
    (hq : q.Off 0x4000000000 := by have h := ‹Keep.Off q _›; exact Keep.sub h (by decide)) :
    Kept q (execJtagClamp s) := by
  unfold execJtagClamp
  with_reducible repeat' first | assumption | refine done_keeps ?_ | refine State.jtagLoad_keeps ?_

theorem execJtagHighz_keeps {s} (h : s.Keeps q)
    (hq : q.Off 0x4000000000 := by have h := ‹Keep.Off q _›; exact Keep.sub h (by decide)) :
    Kept q (execJtagHighz s) := by
  unfold execJtagHighz
  with_reducible repeat' first | assumption | refine done_keeps ?_ | refine State.jtagLoad_keeps ?_

end Sys2Proof.Machine
end

