-- ==== Sys2Proof/Laws/KeepsExec.lean ====
section
/-!
SUPPORT. What every command and every step keep.
-/
set_option Elab.async false
namespace Sys2Proof.Machine

theorem Keep.Off.of_eq {q : Keep} {m n : Nat} (h : q.Off n) (e : n = m) : q.Off m := e ▸ h

/-- A command leaves the queue's rest and the canonical forms as they are, and every part that it may not change. -/
theorem exec_keeps {q : Keep} {s : State} (c : Instr) (h : s.Keeps q) (hq : q.Off c.changeMask) : Kept q (exec c s) := by
  cases c with
  | registerWrite => exact execRegisterWrite_keeps h (hq := Keep.Off.of_eq hq rfl)
  | setAliasWrite => exact execSetAliasWrite_keeps h (hq := Keep.Off.of_eq hq rfl)
  | clrAliasWrite => exact execClrAliasWrite_keeps h (hq := Keep.Off.of_eq hq rfl)
  | pageEnable => exact execPageEnable_keeps h (hq := Keep.Off.of_eq hq rfl)
  | pageStop => exact execPageStop_keeps h (hq := Keep.Off.of_eq hq rfl)
  | pageReset => exact execPageReset_keeps h (hq := Keep.Off.of_eq hq rfl)
  | arm => exact execArm_keeps h (hq := Keep.Off.of_eq hq rfl)
  | disarm => exact execDisarm_keeps h (hq := Keep.Off.of_eq hq rfl)
  | resetComplete => exact execResetComplete_keeps h (hq := Keep.Off.of_eq hq rfl)
  | unmappedAccess req => exact execUnmappedAccess_keeps (u0 := req) h (hq := Keep.Off.of_eq hq rfl)
  | parityError => exact execParityError_keeps h (hq := Keep.Off.of_eq hq rfl)
  | dieFault => exact execDieFault_keeps h (hq := Keep.Off.of_eq hq rfl)
  | containmentTimeout => exact execContainmentTimeout_keeps h (hq := Keep.Off.of_eq hq rfl)
  | dramEccError => exact execDramEccError_keeps h (hq := Keep.Off.of_eq hq rfl)
  | sramEccError => exact execSramEccError_keeps h (hq := Keep.Off.of_eq hq rfl)
  | por => exact execPor_keeps h (hq := Keep.Off.of_eq hq rfl)
  | resetNLow => exact execResetNLow_keeps h (hq := Keep.Off.of_eq hq rfl)
  | vcoreBrownout => exact execVcoreBrownout_keeps h (hq := Keep.Off.of_eq hq rfl)
  | clockMove => exact execClockMove_keeps h (hq := Keep.Off.of_eq hq rfl)
  | rootLock => exact execRootLock_keeps h (hq := Keep.Off.of_eq hq rfl)
  | rootLost => exact execRootLost_keeps h (hq := Keep.Off.of_eq hq rfl)
  | xtalStop => exact execXtalStop_keeps h (hq := Keep.Off.of_eq hq rfl)
  | nowLatch => exact execNowLatch_keeps h (hq := Keep.Off.of_eq hq rfl)
  | step req => exact execStep_keeps (u0 := req) h (hq := Keep.Off.of_eq hq rfl)
  | slew req => exact execSlew_keeps (u0 := req) h (hq := Keep.Off.of_eq hq rfl)
  | slewAbort req => exact execSlewAbort_keeps (u0 := req) h (hq := Keep.Off.of_eq hq rfl)
  | slewDone => exact execSlewDone_keeps h (hq := Keep.Off.of_eq hq rfl)
  | servoEvent => exact execServoEvent_keeps h (hq := Keep.Off.of_eq hq rfl)
  | holdExpired => exact execHoldExpired_keeps h (hq := Keep.Off.of_eq hq rfl)
  | synEdge => exact execSynEdge_keeps h (hq := Keep.Off.of_eq hq rfl)
  | synMiss => exact execSynMiss_keeps h (hq := Keep.Off.of_eq hq rfl)
  | leapApply => exact execLeapApply_keeps h (hq := Keep.Off.of_eq hq rfl)
  | ppsOutPulse => exact execPpsOutPulse_keeps h (hq := Keep.Off.of_eq hq rfl)
  | ltcOutFrame => exact execLtcOutFrame_keeps h (hq := Keep.Off.of_eq hq rfl)
  | frameOutPulse => exact execFrameOutPulse_keeps h (hq := Keep.Off.of_eq hq rfl)
  | release => exact execRelease_keeps h (hq := Keep.Off.of_eq hq rfl)
  | listGo => exact execListGo_keeps h (hq := Keep.Off.of_eq hq rfl)
  | listDescriptorRead => exact execListDescriptorRead_keeps h (hq := Keep.Off.of_eq hq rfl)
  | jobSubmit => exact execJobSubmit_keeps h (hq := Keep.Off.of_eq hq rfl)
  | subDStage => exact execSubDStage_keeps h (hq := Keep.Off.of_eq hq rfl)
  | ctrValueWrite => exact execCtrValueWrite_keeps h (hq := Keep.Off.of_eq hq rfl)
  | ctrSignal => exact execCtrSignal_keeps h (hq := Keep.Off.of_eq hq rfl)
  | counterDecrement => exact execCounterDecrement_keeps h (hq := Keep.Off.of_eq hq rfl)
  | domHeadSet => exact execDomHeadSet_keeps h (hq := Keep.Off.of_eq hq rfl)
  | jobDispatch => exact execJobDispatch_keeps h (hq := Keep.Off.of_eq hq rfl)
  | jobComplete => exact execJobComplete_keeps h (hq := Keep.Off.of_eq hq rfl)
  | jobRetire => exact execJobRetire_keeps h (hq := Keep.Off.of_eq hq rfl)
  | jobTimeout => exact execJobTimeout_keeps h (hq := Keep.Off.of_eq hq rfl)
  | orderStall => exact execOrderStall_keeps h (hq := Keep.Off.of_eq hq rfl)
  | lagBlockEnd => exact execLagBlockEnd_keeps h (hq := Keep.Off.of_eq hq rfl)
  | spillReadback => exact execSpillReadback_keeps h (hq := Keep.Off.of_eq hq rfl)
  | threadPlace => exact execThreadPlace_keeps h (hq := Keep.Off.of_eq hq rfl)
  | threadQuantum => exact execThreadQuantum_keeps h (hq := Keep.Off.of_eq hq rfl)
  | thrEnd => exact execThrEnd_keeps h (hq := Keep.Off.of_eq hq rfl)
  | pixelRun => exact execPixelRun_keeps h (hq := Keep.Off.of_eq hq rfl)
  | nop => exact execNop_keeps h (hq := Keep.Off.of_eq hq rfl)
  | endRun => exact execEndRun_keeps h (hq := Keep.Off.of_eq hq rfl)
  | rep => exact execRep_keeps h (hq := Keep.Off.of_eq hq rfl)
  | endr => exact execEndr_keeps h (hq := Keep.Off.of_eq hq rfl)
  | pset => exact execPset_keeps h (hq := Keep.Off.of_eq hq rfl)
  | plog => exact execPlog_keeps h (hq := Keep.Off.of_eq hq rfl)
  | cmp => exact execCmp_keeps h (hq := Keep.Off.of_eq hq rfl)
  | mov => exact execMov_keeps h (hq := Keep.Off.of_eq hq rfl)
  | vldi => exact execVldi_keeps h (hq := Keep.Off.of_eq hq rfl)
  | vsplat => exact execVsplat_keeps h (hq := Keep.Off.of_eq hq rfl)
  | vext => exact execVext_keeps h (hq := Keep.Off.of_eq hq rfl)
  | swz => exact execSwz_keeps h (hq := Keep.Off.of_eq hq rfl)
  | sel => exact execSel_keeps h (hq := Keep.Off.of_eq hq rfl)
  | sldi => exact execSldi_keeps h (hq := Keep.Off.of_eq hq rfl)
  | sadd => exact execSadd_keeps h (hq := Keep.Off.of_eq hq rfl)
  | ssub => exact execSsub_keeps h (hq := Keep.Off.of_eq hq rfl)
  | smul => exact execSmul_keeps h (hq := Keep.Off.of_eq hq rfl)
  | smin => exact execSmin_keeps h (hq := Keep.Off.of_eq hq rfl)
  | smax => exact execSmax_keeps h (hq := Keep.Off.of_eq hq rfl)
  | sget => exact execSget_keeps h (hq := Keep.Off.of_eq hq rfl)
  | smp => exact execSmp_keeps h (hq := Keep.Off.of_eq hq rfl)
  | blnd => exact execBlnd_keeps h (hq := Keep.Off.of_eq hq rfl)
  | adds => exact execAdds_keeps h (hq := Keep.Off.of_eq hq rfl)
  | subs => exact execSubs_keeps h (hq := Keep.Off.of_eq hq rfl)
  | mul => exact execMul_keeps h (hq := Keep.Off.of_eq hq rfl)
  | mad => exact execMad_keeps h (hq := Keep.Off.of_eq hq rfl)
  | min => exact execMin_keeps h (hq := Keep.Off.of_eq hq rfl)
  | max => exact execMax_keeps h (hq := Keep.Off.of_eq hq rfl)
  | absd => exact execAbsd_keeps h (hq := Keep.Off.of_eq hq rfl)
  | avg => exact execAvg_keeps h (hq := Keep.Off.of_eq hq rfl)
  | shr => exact execShr_keeps h (hq := Keep.Off.of_eq hq rfl)
  | shl => exact execShl_keeps h (hq := Keep.Off.of_eq hq rfl)
  | lerp => exact execLerp_keeps h (hq := Keep.Off.of_eq hq rfl)
  | mat => exact execMat_keeps h (hq := Keep.Off.of_eq hq rfl)
  | lut => exact execLut_keeps h (hq := Keep.Off.of_eq hq rfl)
  | luts => exact execLuts_keeps h (hq := Keep.Off.of_eq hq rfl)
  | dose => exact execDose_keeps h (hq := Keep.Off.of_eq hq rfl)
  | dith => exact execDith_keeps h (hq := Keep.Off.of_eq hq rfl)
  | st => exact execSt_keeps h (hq := Keep.Off.of_eq hq rfl)
  | progDataLoWrite => exact execProgDataLoWrite_keeps h (hq := Keep.Off.of_eq hq rfl)
  | progDataHiWrite => exact execProgDataHiWrite_keeps h (hq := Keep.Off.of_eq hq rfl)
  | memoryWindowWrite => exact execMemoryWindowWrite_keeps h (hq := Keep.Off.of_eq hq rfl)
  | ingestWriteResume => exact execIngestWriteResume_keeps h (hq := Keep.Off.of_eq hq rfl)
  | frameReadyWrite => exact execFrameReadyWrite_keeps h (hq := Keep.Off.of_eq hq rfl)
  | newFrameFix => exact execNewFrameFix_keeps h (hq := Keep.Off.of_eq hq rfl)
  | repeatFix => exact execRepeatFix_keeps h (hq := Keep.Off.of_eq hq rfl)
  | frameStart => exact execFrameStart_keeps h (hq := Keep.Off.of_eq hq rfl)
  | swathHold => exact execSwathHold_keeps h (hq := Keep.Off.of_eq hq rfl)
  | holdLimitExpire => exact execHoldLimitExpire_keeps h (hq := Keep.Off.of_eq hq rfl)
  | rectCrcResult => exact execRectCrcResult_keeps h (hq := Keep.Off.of_eq hq rfl)
  | portSlotCheck => exact execPortSlotCheck_keeps h (hq := Keep.Off.of_eq hq rfl)
  | portLaunch => exact execPortLaunch_keeps h (hq := Keep.Off.of_eq hq rfl)
  | portEmissionEnd => exact execPortEmissionEnd_keeps h (hq := Keep.Off.of_eq hq rfl)
  | dmxSlotCheck => exact execDmxSlotCheck_keeps h (hq := Keep.Off.of_eq hq rfl)
  | dmxLaunch => exact execDmxLaunch_keeps h (hq := Keep.Off.of_eq hq rfl)
  | dmxPacketEnd => exact execDmxPacketEnd_keeps h (hq := Keep.Off.of_eq hq rfl)
  | dmxRxPacket => exact execDmxRxPacket_keeps h (hq := Keep.Off.of_eq hq rfl)
  | dmxRxLoss => exact execDmxRxLoss_keeps h (hq := Keep.Off.of_eq hq rfl)
  | rdmGo => exact execRdmGo_keeps h (hq := Keep.Off.of_eq hq rfl)
  | rdmAbort => exact execRdmAbort_keeps h (hq := Keep.Off.of_eq hq rfl)
  | rdmBegin => exact execRdmBegin_keeps h (hq := Keep.Off.of_eq hq rfl)
  | rdmResponse => exact execRdmResponse_keeps h (hq := Keep.Off.of_eq hq rfl)
  | rdmNoResponse => exact execRdmNoResponse_keeps h (hq := Keep.Off.of_eq hq rfl)
  | rdmDiscoveryEnd => exact execRdmDiscoveryEnd_keeps h (hq := Keep.Off.of_eq hq rfl)
  | rdmWindowEnd => exact execRdmWindowEnd_keeps h (hq := Keep.Off.of_eq hq rfl)
  | txrTailWrite req => exact execTxrTailWrite_keeps (u0 := req) h (hq := Keep.Off.of_eq hq rfl)
  | rxrTailWrite req => exact execRxrTailWrite_keeps (u0 := req) h (hq := Keep.Off.of_eq hq rfl)
  | macTxStart => exact execMacTxStart_keeps h (hq := Keep.Off.of_eq hq rfl)
  | placedLaunch => exact execPlacedLaunch_keeps h (hq := Keep.Off.of_eq hq rfl)
  | macTxDone => exact execMacTxDone_keeps h (hq := Keep.Off.of_eq hq rfl)
  | macRxFrame => exact execMacRxFrame_keeps h (hq := Keep.Off.of_eq hq rfl)
  | pauseEnd => exact execPauseEnd_keeps h (hq := Keep.Off.of_eq hq rfl)
  | pauseSend => exact execPauseSend_keeps h (hq := Keep.Off.of_eq hq rfl)
  | modTimerExpire => exact execModTimerExpire_keeps h (hq := Keep.Off.of_eq hq rfl)
  | ethLinkChange => exact execEthLinkChange_keeps h (hq := Keep.Off.of_eq hq rfl)
  | preemptVerify => exact execPreemptVerify_keeps h (hq := Keep.Off.of_eq hq rfl)
  | fdbAdd req => exact execFdbAdd_keeps (u0 := req) h (hq := Keep.Off.of_eq hq rfl)
  | fdbDelete req => exact execFdbDelete_keeps (u0 := req) h (hq := Keep.Off.of_eq hq rfl)
  | fdbLookup req => exact execFdbLookup_keeps (u0 := req) h (hq := Keep.Off.of_eq hq rfl)
  | fdbFlush req => exact execFdbFlush_keeps (u0 := req) h (hq := Keep.Off.of_eq hq rfl)
  | fdbDone => exact execFdbDone_keeps h (hq := Keep.Off.of_eq hq rfl)
  | fdbAge => exact execFdbAge_keeps h (hq := Keep.Off.of_eq hq rfl)
  | mergeApply => exact execMergeApply_keeps h (hq := Keep.Off.of_eq hq rfl)
  | mergeSourceLoss => exact execMergeSourceLoss_keeps h (hq := Keep.Off.of_eq hq rfl)
  | strUnderrunCheck => exact execStrUnderrunCheck_keeps h (hq := Keep.Off.of_eq hq rfl)
  | streamLaunch => exact execStreamLaunch_keeps h (hq := Keep.Off.of_eq hq rfl)
  | streamTerminateSend => exact execStreamTerminateSend_keeps h (hq := Keep.Off.of_eq hq rfl)
  | e131DiscoverySend => exact execE131DiscoverySend_keeps h (hq := Keep.Off.of_eq hq rfl)
  | ptpSyncSend => exact execPtpSyncSend_keeps h (hq := Keep.Off.of_eq hq rfl)
  | ptpAnnounceSend => exact execPtpAnnounceSend_keeps h (hq := Keep.Off.of_eq hq rfl)
  | ptpDelayReqSend => exact execPtpDelayReqSend_keeps h (hq := Keep.Off.of_eq hq rfl)
  | ptpDelayRespTimeout => exact execPtpDelayRespTimeout_keeps h (hq := Keep.Off.of_eq hq rfl)
  | ptpDelayReqRx => exact execPtpDelayReqRx_keeps h (hq := Keep.Off.of_eq hq rfl)
  | ptpDelayRespSend => exact execPtpDelayRespSend_keeps h (hq := Keep.Off.of_eq hq rfl)
  | ptpSyncRx => exact execPtpSyncRx_keeps h (hq := Keep.Off.of_eq hq rfl)
  | ptpFollowUpRx => exact execPtpFollowUpRx_keeps h (hq := Keep.Off.of_eq hq rfl)
  | ptpDelayRespRx => exact execPtpDelayRespRx_keeps h (hq := Keep.Off.of_eq hq rfl)
  | ptpSyncLoss => exact execPtpSyncLoss_keeps h (hq := Keep.Off.of_eq hq rfl)
  | portStateWrite => exact execPortStateWrite_keeps h (hq := Keep.Off.of_eq hq rfl)
  | tsqHiRead req => exact execTsqHiRead_keeps (u0 := req) h (hq := Keep.Off.of_eq hq rfl)
  | linkSettleEnd => exact execLinkSettleEnd_keeps h (hq := Keep.Off.of_eq hq rfl)
  | fieldSlotCheck => exact execFieldSlotCheck_keeps h (hq := Keep.Off.of_eq hq rfl)
  | fieldRelease => exact execFieldRelease_keeps h (hq := Keep.Off.of_eq hq rfl)
  | fieldTxAttempt => exact execFieldTxAttempt_keeps h (hq := Keep.Off.of_eq hq rfl)
  | fieldCollision => exact execFieldCollision_keeps h (hq := Keep.Off.of_eq hq rfl)
  | fieldBackoffEnd => exact execFieldBackoffEnd_keeps h (hq := Keep.Off.of_eq hq rfl)
  | fieldTxDone => exact execFieldTxDone_keeps h (hq := Keep.Off.of_eq hq rfl)
  | fieldRxFrame => exact execFieldRxFrame_keeps h (hq := Keep.Off.of_eq hq rfl)
  | plcaStatusChange => exact execPlcaStatusChange_keeps h (hq := Keep.Off.of_eq hq rfl)
  | lampSlotCheck => exact execLampSlotCheck_keeps h (hq := Keep.Off.of_eq hq rfl)
  | lampLaunch => exact execLampLaunch_keeps h (hq := Keep.Off.of_eq hq rfl)
  | pwmPeriodBoundary => exact execPwmPeriodBoundary_keeps h (hq := Keep.Off.of_eq hq rfl)
  | lampOnSample => exact execLampOnSample_keeps h (hq := Keep.Off.of_eq hq rfl)
  | lampOffSample => exact execLampOffSample_keeps h (hq := Keep.Off.of_eq hq rfl)
  | diagTimeout => exact execDiagTimeout_keeps h (hq := Keep.Off.of_eq hq rfl)
  | retry => exact execRetry_keeps h (hq := Keep.Off.of_eq hq rfl)
  | keeperOff => exact execKeeperOff_keeps h (hq := Keep.Off.of_eq hq rfl)
  | tsnsMeasure => exact execTsnsMeasure_keeps h (hq := Keep.Off.of_eq hq rfl)
  | derateUpdate => exact execDerateUpdate_keeps h (hq := Keep.Off.of_eq hq rfl)
  | queueWrite => exact execQueueWrite_keeps h (hq := Keep.Off.of_eq hq rfl)
  | qCommit => exact execQCommit_keeps h (hq := Keep.Off.of_eq hq rfl)
  | qRewind => exact execQRewind_keeps h (hq := Keep.Off.of_eq hq rfl)
  | qPop => exact execQPop_keeps h (hq := Keep.Off.of_eq hq rfl)
  | qCtrlWrite req => exact execQCtrlWrite_keeps (u0 := req) h (hq := Keep.Off.of_eq hq rfl)
  | interruptEdge => exact execInterruptEdge_keeps h (hq := Keep.Off.of_eq hq rfl)
  | levelChange => exact execLevelChange_keeps h (hq := Keep.Off.of_eq hq rfl)
  | icuClaim => exact execIcuClaim_keeps h (hq := Keep.Off.of_eq hq rfl)
  | icuComplete => exact execIcuComplete_keeps h (hq := Keep.Off.of_eq hq rfl)
  | countClr req => exact execCountClr_keeps (u0 := req) h (hq := Keep.Off.of_eq hq rfl)
  | msixSend => exact execMsixSend_keeps h (hq := Keep.Off.of_eq hq rfl)
  | peerRailFall => exact execPeerRailFall_keeps h (hq := Keep.Off.of_eq hq rfl)
  | peerRailRise => exact execPeerRailRise_keeps h (hq := Keep.Off.of_eq hq rfl)
  | holdoffClaim => exact execHoldoffClaim_keeps h (hq := Keep.Off.of_eq hq rfl)
  | holdoffConfirm => exact execHoldoffConfirm_keeps h (hq := Keep.Off.of_eq hq rfl)
  | stileConflict => exact execStileConflict_keeps h (hq := Keep.Off.of_eq hq rfl)
  | hello => exact execHello_keeps h (hq := Keep.Off.of_eq hq rfl)
  | helloSend => exact execHelloSend_keeps h (hq := Keep.Off.of_eq hq rfl)
  | stileMismatchTimeout => exact execStileMismatchTimeout_keeps h (hq := Keep.Off.of_eq hq rfl)
  | tsxLaneLock => exact execTsxLaneLock_keeps h (hq := Keep.Off.of_eq hq rfl)
  | tsxLaneTimeout => exact execTsxLaneTimeout_keeps h (hq := Keep.Off.of_eq hq rfl)
  | tsxRetxTimeout => exact execTsxRetxTimeout_keeps h (hq := Keep.Off.of_eq hq rfl)
  | nak => exact execNak_keeps h (hq := Keep.Off.of_eq hq rfl)
  | timeReq => exact execTimeReq_keeps h (hq := Keep.Off.of_eq hq rfl)
  | timeRsp => exact execTimeRsp_keeps h (hq := Keep.Off.of_eq hq rfl)
  | input => exact execInput_keeps h (hq := Keep.Off.of_eq hq rfl)
  | memwrite => exact execMemwrite_keeps h (hq := Keep.Off.of_eq hq rfl)
  | regwrite => exact execRegwrite_keeps h (hq := Keep.Off.of_eq hq rfl)
  | fix => exact execFix_keeps h (hq := Keep.Off.of_eq hq rfl)
  | ready => exact execReady_keeps h (hq := Keep.Off.of_eq hq rfl)
  | digest => exact execDigest_keeps h (hq := Keep.Off.of_eq hq rfl)
  | sense => exact execSense_keeps h (hq := Keep.Off.of_eq hq rfl)
  | outcome => exact execOutcome_keeps h (hq := Keep.Off.of_eq hq rfl)
  | swapReq => exact execSwapReq_keeps h (hq := Keep.Off.of_eq hq rfl)
  | swapAt => exact execSwapAt_keeps h (hq := Keep.Off.of_eq hq rfl)
  | swapAck => exact execSwapAck_keeps h (hq := Keep.Off.of_eq hq rfl)
  | swapCancel => exact execSwapCancel_keeps h (hq := Keep.Off.of_eq hq rfl)
  | revertReq => exact execRevertReq_keeps h (hq := Keep.Off.of_eq hq rfl)
  | resyncReq => exact execResyncReq_keeps h (hq := Keep.Off.of_eq hq rfl)
  | copyBegin => exact execCopyBegin_keeps h (hq := Keep.Off.of_eq hq rfl)
  | cutover => exact execCutover_keeps h (hq := Keep.Off.of_eq hq rfl)
  | syncBreak => exact execSyncBreak_keeps h (hq := Keep.Off.of_eq hq rfl)
  | converged => exact execConverged_keeps h (hq := Keep.Off.of_eq hq rfl)
  | copy => exact execCopy_keeps h (hq := Keep.Off.of_eq hq rfl)
  | thermal => exact execThermal_keeps h (hq := Keep.Off.of_eq hq rfl)
  | thermalSend => exact execThermalSend_keeps h (hq := Keep.Off.of_eq hq rfl)
  | record => exact execRecord_keeps h (hq := Keep.Off.of_eq hq rfl)
  | imageBegin => exact execImageBegin_keeps h (hq := Keep.Off.of_eq hq rfl)
  | imageData => exact execImageData_keeps h (hq := Keep.Off.of_eq hq rfl)
  | imageEnd => exact execImageEnd_keeps h (hq := Keep.Off.of_eq hq rfl)
  | imageAbort => exact execImageAbort_keeps h (hq := Keep.Off.of_eq hq rfl)
  | fixApplyDeadline => exact execFixApplyDeadline_keeps h (hq := Keep.Off.of_eq hq rfl)
  | swap req => exact execSwap_keeps (u0 := req) h (hq := Keep.Off.of_eq hq rfl)
  | resync req => exact execResync_keeps (u0 := req) h (hq := Keep.Off.of_eq hq rfl)
  | detach req => exact execDetach_keeps (u0 := req) h (hq := Keep.Off.of_eq hq rfl)
  | fallbackEnd req => exact execFallbackEnd_keeps (u0 := req) h (hq := Keep.Off.of_eq hq rfl)
  | safeStore req => exact execSafeStore_keeps (u0 := req) h (hq := Keep.Off.of_eq hq rfl)
  | swapInstant => exact execSwapInstant_keeps h (hq := Keep.Off.of_eq hq rfl)
  | swapSearchTimeout => exact execSwapSearchTimeout_keeps h (hq := Keep.Off.of_eq hq rfl)
  | swapPathCheck => exact execSwapPathCheck_keeps h (hq := Keep.Off.of_eq hq rfl)
  | pathCheckEnd => exact execPathCheckEnd_keeps h (hq := Keep.Off.of_eq hq rfl)
  | revertHoldExpire => exact execRevertHoldExpire_keeps h (hq := Keep.Off.of_eq hq rfl)
  | drillDue => exact execDrillDue_keeps h (hq := Keep.Off.of_eq hq rfl)
  | recorderTrigger => exact execRecorderTrigger_keeps h (hq := Keep.Off.of_eq hq rfl)
  | tokenRefill => exact execTokenRefill_keeps h (hq := Keep.Off.of_eq hq rfl)
  | recordBegin => exact execRecordBegin_keeps h (hq := Keep.Off.of_eq hq rfl)
  | recordComplete => exact execRecordComplete_keeps h (hq := Keep.Off.of_eq hq rfl)
  | statSpanClose => exact execStatSpanClose_keeps h (hq := Keep.Off.of_eq hq rfl)
  | freeze req => exact execFreeze_keeps (u0 := req) h (hq := Keep.Off.of_eq hq rfl)
  | thaw req => exact execThaw_keeps (u0 := req) h (hq := Keep.Off.of_eq hq rfl)
  | freezeExpire => exact execFreezeExpire_keeps h (hq := Keep.Off.of_eq hq rfl)
  | erase req => exact execErase_keeps (u0 := req) h (hq := Keep.Off.of_eq hq rfl)
  | eraseDone => exact execEraseDone_keeps h (hq := Keep.Off.of_eq hq rfl)
  | recorderScan => exact execRecorderScan_keeps h (hq := Keep.Off.of_eq hq rfl)
  | trigDataAccess req => exact execTrigDataAccess_keeps (u0 := req) h (hq := Keep.Off.of_eq hq rfl)
  | pendingPeakRead req => exact execPendingPeakRead_keeps (u0 := req) h (hq := Keep.Off.of_eq hq rfl)
  | cntLoRead => exact execCntLoRead_keeps h (hq := Keep.Off.of_eq hq rfl)
  | cntLoWrite => exact execCntLoWrite_keeps h (hq := Keep.Off.of_eq hq rfl)
  | cntHiWrite req n => exact execCntHiWrite_keeps (u1 := n) h (hq := Keep.Off.of_eq hq rfl)
  | counterDump => exact execCounterDump_keeps h (hq := Keep.Off.of_eq hq rfl)
  | lagMaxRead req => exact execLagMaxRead_keeps (u0 := req) h (hq := Keep.Off.of_eq hq rfl)
  | tPeakRead req => exact execTPeakRead_keeps (u0 := req) h (hq := Keep.Off.of_eq hq rfl)
  | pwrReqRun req => exact execPwrReqRun_keeps (u0 := req) h (hq := Keep.Off.of_eq hq rfl)
  | pwrReqDoze req => exact execPwrReqDoze_keeps (u0 := req) h (hq := Keep.Off.of_eq hq rfl)
  | pwrReqRetain req => exact execPwrReqRetain_keeps (u0 := req) h (hq := Keep.Off.of_eq hq rfl)
  | pwrReqHeath req => exact execPwrReqHeath_keeps (u0 := req) h (hq := Keep.Off.of_eq hq rfl)
  | powerEntryProceed => exact execPowerEntryProceed_keeps h (hq := Keep.Off.of_eq hq rfl)
  | msgLimitTimeout => exact execMsgLimitTimeout_keeps h (hq := Keep.Off.of_eq hq rfl)
  | recDrainTimeout => exact execRecDrainTimeout_keeps h (hq := Keep.Off.of_eq hq rfl)
  | timelineCapture => exact execTimelineCapture_keeps h (hq := Keep.Off.of_eq hq rfl)
  | wakeInEdge => exact execWakeInEdge_keeps h (hq := Keep.Off.of_eq hq rfl)
  | heathAlarm => exact execHeathAlarm_keeps h (hq := Keep.Off.of_eq hq rfl)
  | sealCheck => exact execSealCheck_keeps h (hq := Keep.Off.of_eq hq rfl)
  | xt32Fail => exact execXt32Fail_keeps h (hq := Keep.Off.of_eq hq rfl)
  | heathBrownout => exact execHeathBrownout_keeps h (hq := Keep.Off.of_eq hq rfl)
  | ioRampDone => exact execIoRampDone_keeps h (hq := Keep.Off.of_eq hq rfl)
  | coreRampDone => exact execCoreRampDone_keeps h (hq := Keep.Off.of_eq hq rfl)
  | thermalMeasure => exact execThermalMeasure_keeps h (hq := Keep.Off.of_eq hq rfl)
  | analogTempMeasure => exact execAnalogTempMeasure_keeps h (hq := Keep.Off.of_eq hq rfl)
  | thermalRestart => exact execThermalRestart_keeps h (hq := Keep.Off.of_eq hq rfl)
  | throttleUpdate => exact execThrottleUpdate_keeps h (hq := Keep.Off.of_eq hq rfl)
  | dramRateRead => exact execDramRateRead_keeps h (hq := Keep.Off.of_eq hq rfl)
  | marginMeasure => exact execMarginMeasure_keeps h (hq := Keep.Off.of_eq hq rfl)
  | avsSettle => exact execAvsSettle_keeps h (hq := Keep.Off.of_eq hq rfl)
  | pmbAlert => exact execPmbAlert_keeps h (hq := Keep.Off.of_eq hq rfl)
  | chainMeasure => exact execChainMeasure_keeps h (hq := Keep.Off.of_eq hq rfl)
  | runTime req => exact execRunTime_keeps (u0 := req) h (hq := Keep.Off.of_eq hq rfl)
  | calWindowEnd => exact execCalWindowEnd_keeps h (hq := Keep.Off.of_eq hq rfl)
  | runAnalog => exact execRunAnalog_keeps h (hq := Keep.Off.of_eq hq rfl)
  | analogRunDone => exact execAnalogRunDone_keeps h (hq := Keep.Off.of_eq hq rfl)
  | calAbort req => exact execCalAbort_keeps (u0 := req) h (hq := Keep.Off.of_eq hq rfl)
  | ovrWrite req => exact execOvrWrite_keeps (u0 := req) h (hq := Keep.Off.of_eq hq rfl)
  | stage req => exact execStage_keeps (u0 := req) h (hq := Keep.Off.of_eq hq rfl)
  | stageDone => exact execStageDone_keeps h (hq := Keep.Off.of_eq hq rfl)
  | activate req => exact execActivate_keeps (u0 := req) h (hq := Keep.Off.of_eq hq rfl)
  | fwuCancel req => exact execFwuCancel_keeps (u0 := req) h (hq := Keep.Off.of_eq hq rfl)
  | sendPeer req => exact execSendPeer_keeps (u0 := req) h (hq := Keep.Off.of_eq hq rfl)
  | goldenWrite req => exact execGoldenWrite_keeps (u0 := req) h (hq := Keep.Off.of_eq hq rfl)
  | fuseProg req => exact execFuseProg_keeps (u0 := req) h (hq := Keep.Off.of_eq hq rfl)
  | fuseDone => exact execFuseDone_keeps h (hq := Keep.Off.of_eq hq rfl)
  | partnerAccept req => exact execPartnerAccept_keeps (u0 := req) h (hq := Keep.Off.of_eq hq rfl)
  | actTimeReached => exact execActTimeReached_keeps h (hq := Keep.Off.of_eq hq rfl)
  | actDeferredRelease => exact execActDeferredRelease_keeps h (hq := Keep.Off.of_eq hq rfl)
  | startSequence => exact execStartSequence_keeps h (hq := Keep.Off.of_eq hq rfl)
  | dramTrainingDone => exact execDramTrainingDone_keeps h (hq := Keep.Off.of_eq hq rfl)
  | outputEnable => exact execOutputEnable_keeps h (hq := Keep.Off.of_eq hq rfl)
  | outWaitExpire => exact execOutWaitExpire_keeps h (hq := Keep.Off.of_eq hq rfl)
  | sysStateRun => exact execSysStateRun_keeps h (hq := Keep.Off.of_eq hq rfl)
  | sysStateTest => exact execSysStateTest_keeps h (hq := Keep.Off.of_eq hq rfl)
  | sysStateRecovery => exact execSysStateRecovery_keeps h (hq := Keep.Off.of_eq hq rfl)
  | wdtKick => exact execWdtKick_keeps h (hq := Keep.Off.of_eq hq rfl)
  | watchdogExpire => exact execWatchdogExpire_keeps h (hq := Keep.Off.of_eq hq rfl)
  | spiWrite => exact execSpiWrite_keeps h (hq := Keep.Off.of_eq hq rfl)
  | spiRead => exact execSpiRead_keeps h (hq := Keep.Off.of_eq hq rfl)
  | jtagBypass => exact execJtagBypass_keeps h (hq := Keep.Off.of_eq hq rfl)
  | jtagIdcode => exact execJtagIdcode_keeps h (hq := Keep.Off.of_eq hq rfl)
  | jtagSamplePreload => exact execJtagSamplePreload_keeps h (hq := Keep.Off.of_eq hq rfl)
  | jtagExtest => exact execJtagExtest_keeps h (hq := Keep.Off.of_eq hq rfl)
  | jtagClamp => exact execJtagClamp_keeps h (hq := Keep.Off.of_eq hq rfl)
  | jtagHighz => exact execJtagHighz_keeps h (hq := Keep.Off.of_eq hq rfl)
  | firstApplicationOfVheath => exact execFirstApplicationOfVheath_keeps h (hq := Keep.Off.of_eq hq rfl)
  | linkInL0 => exact execLinkInL0_keeps h (hq := Keep.Off.of_eq hq rfl)
  | goldenWriteDone => exact execGoldenWriteDone_keeps h (hq := Keep.Off.of_eq hq rfl)
  | timelineRestart => exact execTimelineRestart_keeps h (hq := Keep.Off.of_eq hq rfl)
  | peerLost => exact execPeerLost_keeps h (hq := Keep.Off.of_eq hq rfl)
  | tsxIdle => exact execTsxIdle_keeps h (hq := Keep.Off.of_eq hq rfl)

theorem State.Keeps.requeue {q : Keep} {s : State} (h : s.Keeps q) (l : List Instr) :
    State.Keeps { q with queue := l } { s with pending := l } :=
  ⟨rfl, h.mem, h.live, h.prog, h.liveIs, h.shadowIs, h.armedIs, h.memIs, h.progIs, h.queuesIs, h.devIs, h.icuIs, h.tlnIs, h.synIs, h.evrIs, h.pmcIs, h.outIs, h.swtIs, h.launchIs, h.snapsIs, h.progStageIs, h.pluIs, h.regionIs, h.portIs, h.dmxIs, h.clusterIs, h.lampIs, h.fieldIs, h.redIs, h.mergeIs, h.macIs, h.bridgeIs, h.ntmIs, h.ingIs, h.strIs, h.pwrIs, h.hthIs, h.bootIs, h.thmIs, h.calIs, h.fwuIs, h.jtagIs⟩

/-- What a step keeps: the queue but for its front, and the canonical forms. -/
theorem step_keeps {q : Keep} {s : State} (h : s.Keeps q) (hm : q.mask = 0) :
    ∀ t, step s = .next t → t.Keeps { q with queue := s.pending.tail } := by
  have off : ∀ m, Keep.Off { q with queue := s.pending.tail } m := fun m => ⟨by simp [hm]⟩
  intro t ht
  unfold step at ht
  split at ht
  · next h0 =>
    cases ht
    refine State.tick_keeps ?_ (off _)
    have h1 := h.requeue s.pending.tail
    rw [h0] at h1 ⊢
    have e : s = { s with pending := [] } := by rw [← h0]
    rw [e]
    exact h1
  · next c rest h0 =>
    refine (exec_keeps c (q := { q with queue := s.pending.tail }) ?_ (off _)).next t ht
    rw [h0]
    exact h.requeue rest

theorem exec_answers (c : Instr) (s : State) : ∃ t, exec c s = .next t := by
  cases c <;> exact ⟨_, rfl⟩

end Sys2Proof.Machine
end

