-- ==== Sys2Proof/Laws/Pages.lean ====
section
/-!
SUPPORT. The page map at the first pages of the instances.
-/
set_option Elab.async false
namespace Sys2Proof.Machine

@[simp] theorem pageInfo_pgSYN (k : Fin 8) : pageInfo (pgSYN k) = some ⟨.syn, k, 0⟩ := by revert k; decide
@[simp] theorem pageInfo_pgSWT (k : Fin 16) : pageInfo (pgSWT k) = some ⟨.swt, k, 0⟩ := by revert k; decide
@[simp] theorem pageInfo_pgSWT_1 (k : Fin 16) : pageInfo (pgSWT k + 1) = some ⟨.swt, k, 1⟩ := by revert k; decide
@[simp] theorem pageInfo_pgCMP (k : Fin 4) : pageInfo (pgCMP k) = some ⟨.cmp, k, 0⟩ := by revert k; decide
@[simp] theorem pageInfo_pgCMP_1 (k : Fin 4) : pageInfo (pgCMP k + 1) = some ⟨.cmp, k, 1⟩ := by revert k; decide
@[simp] theorem pageInfo_pgJSC (k : Fin 4) : pageInfo (pgJSC k) = some ⟨.jsc, k, 0⟩ := by revert k; decide
@[simp] theorem pageInfo_pgJSC_1 (k : Fin 4) : pageInfo (pgJSC k + 1) = some ⟨.jsc, k, 1⟩ := by revert k; decide
@[simp] theorem pageInfo_pgJSC_2 (k : Fin 4) : pageInfo (pgJSC k + 2) = some ⟨.jsc, k, 2⟩ := by revert k; decide
@[simp] theorem pageInfo_pgPXP (k : Fin 64) : pageInfo (pgPXP k) = some ⟨.pxp, k, 0⟩ := by revert k; decide
@[simp] theorem pageInfo_pgDMX (k : Fin 12) : pageInfo (pgDMX k) = some ⟨.dmx, k, 0⟩ := by revert k; decide
@[simp] theorem pageInfo_pgETH (k : Fin 4) : pageInfo (pgETH k) = some ⟨.eth, k, 0⟩ := by revert k; decide
@[simp] theorem pageInfo_pgETH_1 (k : Fin 4) : pageInfo (pgETH k + 1) = some ⟨.eth, k, 1⟩ := by revert k; decide
@[simp] theorem pageInfo_pgETH_2 (k : Fin 4) : pageInfo (pgETH k + 2) = some ⟨.eth, k, 2⟩ := by revert k; decide
@[simp] theorem pageInfo_pgFLD (k : Fin 8) : pageInfo (pgFLD k) = some ⟨.fld, k, 0⟩ := by revert k; decide
@[simp] theorem pageInfo_pgLMP (k : Fin 32) : pageInfo (pgLMP k) = some ⟨.lmp, k, 0⟩ := by revert k; decide
@[simp] theorem pageInfo_pgLCL (k : Fin 4) : pageInfo (pgLCL k) = some ⟨.lcl, k, 0⟩ := by revert k; decide
@[simp] theorem pageInfo_pgQUE (k : Fin 16) : pageInfo (pgQUE k) = some ⟨.que, k, 0⟩ := by revert k; decide
@[simp] theorem pageInfo_pgSYS : pageInfo pgSYS = some ⟨.sys, 0, 0⟩ := by decide
@[simp] theorem pageInfo_pgCLK : pageInfo pgCLK = some ⟨.clk, 0, 0⟩ := by decide
@[simp] theorem pageInfo_pgPWR : pageInfo pgPWR = some ⟨.pwr, 0, 0⟩ := by decide
@[simp] theorem pageInfo_pgHTH : pageInfo pgHTH = some ⟨.hth, 0, 0⟩ := by decide
@[simp] theorem pageInfo_pgTHM : pageInfo pgTHM = some ⟨.thm, 0, 0⟩ := by decide
@[simp] theorem pageInfo_pgCAL : pageInfo pgCAL = some ⟨.cal, 0, 0⟩ := by decide
@[simp] theorem pageInfo_pgFWU : pageInfo pgFWU = some ⟨.fwu, 0, 0⟩ := by decide
@[simp] theorem pageInfo_pgICU : pageInfo pgICU = some ⟨.icu, 0, 0⟩ := by decide
@[simp] theorem pageInfo_pgICU_1 : pageInfo (pgICU + 1) = some ⟨.icu, 0, 1⟩ := by decide
@[simp] theorem pageInfo_pgICU_2 : pageInfo (pgICU + 2) = some ⟨.icu, 0, 2⟩ := by decide
@[simp] theorem pageInfo_pgTLN : pageInfo pgTLN = some ⟨.tln, 0, 0⟩ := by decide
@[simp] theorem pageInfo_pgTLN_1 : pageInfo (pgTLN + 1) = some ⟨.tln, 0, 1⟩ := by decide
@[simp] theorem pageInfo_pgFIX : pageInfo pgFIX = some ⟨.fix, 0, 0⟩ := by decide
@[simp] theorem pageInfo_pgFIX_1 : pageInfo (pgFIX + 1) = some ⟨.fix, 0, 1⟩ := by decide
@[simp] theorem pageInfo_pgNTM : pageInfo pgNTM = some ⟨.ntm, 0, 0⟩ := by decide
@[simp] theorem pageInfo_pgNTM_1 : pageInfo (pgNTM + 1) = some ⟨.ntm, 0, 1⟩ := by decide
@[simp] theorem pageInfo_pgNTM_2 : pageInfo (pgNTM + 2) = some ⟨.ntm, 0, 2⟩ := by decide
@[simp] theorem pageInfo_pgNTM_3 : pageInfo (pgNTM + 3) = some ⟨.ntm, 0, 3⟩ := by decide
@[simp] theorem pageInfo_pgSTR : pageInfo pgSTR = some ⟨.str, 0, 0⟩ := by decide
@[simp] theorem pageInfo_pgSTR_1 : pageInfo (pgSTR + 1) = some ⟨.str, 0, 1⟩ := by decide
@[simp] theorem pageInfo_pgING : pageInfo pgING = some ⟨.ing, 0, 0⟩ := by decide
@[simp] theorem pageInfo_pgING_1 : pageInfo (pgING + 1) = some ⟨.ing, 0, 1⟩ := by decide
@[simp] theorem pageInfo_pgRED : pageInfo pgRED = some ⟨.red, 0, 0⟩ := by decide
@[simp] theorem pageInfo_pgRED_1 : pageInfo (pgRED + 1) = some ⟨.red, 0, 1⟩ := by decide
@[simp] theorem pageInfo_pgRED_2 : pageInfo (pgRED + 2) = some ⟨.red, 0, 2⟩ := by decide
@[simp] theorem pageInfo_pgEVR : pageInfo pgEVR = some ⟨.evr, 0, 0⟩ := by decide
@[simp] theorem pageInfo_pgEVR_1 : pageInfo (pgEVR + 1) = some ⟨.evr, 0, 1⟩ := by decide
@[simp] theorem pageInfo_pgEVR_2 : pageInfo (pgEVR + 2) = some ⟨.evr, 0, 2⟩ := by decide
@[simp] theorem pageInfo_pgPMC : pageInfo pgPMC = some ⟨.pmc, 0, 0⟩ := by decide
@[simp] theorem pageInfo_pgPMC_1 : pageInfo (pgPMC + 1) = some ⟨.pmc, 0, 1⟩ := by decide
@[simp] theorem pageInfo_pgPMC_2 : pageInfo (pgPMC + 2) = some ⟨.pmc, 0, 2⟩ := by decide
@[simp] theorem pageInfo_pgPMC_3 : pageInfo (pgPMC + 3) = some ⟨.pmc, 0, 3⟩ := by decide
@[simp] theorem pageInfo_pgBR : pageInfo pgBR = some ⟨.ntm, 0, 3⟩ := by decide

end Sys2Proof.Machine
end

