-- ==== Sys2Proof/Tests/Slice0.lean ====
section
/-!
SUPPORT. Tests of the model: a command that is not well formed for each check, small tests of single commands, and for each
statement a state and operands that meet its premises.
-/
set_option Elab.async false
open Sys2Proof Sys2Proof.Machine

/-! ### Small states -/

/-- After reset with ROOT locked: the timeline runs. -/
def W.run : State := State.reset.setSts pgCLK Clk.S_ROOT_LOCK 1

/-- A page is enabled and ACTIVE. -/
def W.enable (s : State) (page : Nat) : State := (s.setReg page PAGE_CTRL 1).setPageState page 1

/-- A page is enabled and STOPPED. -/
def W.stop (s : State) (page : Nat) : State := (s.setReg page PAGE_CTRL 3).setPageState page 2

/-- The row of a register. -/
def W.row (i : PageInfo) (off : Nat) : RegRow := (rowAt i off).getD (RegRow.plain off 1 4 0 0 0 false)

/-- A reset of an instance is in progress. -/
def W.resetting (s : State) (page : Nat) : State :=
  { s with dev := { s.dev with resetting := Tab.set (fun _ => false) s.dev.resetting page true } }

/-- The state behind a command. -/
def W.after (c : Instr) (s : State) : State := match exec c s with | .next t => t | _ => s

/-- The link stands with both lanes UP. -/
def W.linked (s : State) : State :=
  { s.setSts pgRED Red.S_LINK_STATE 3 with red := { s.red with lock0 := true, lock1 := true, up0 := true, up1 := true } }

/-- The device holds the Stile. -/
def W.held (s : State) : State :=
  { s.setSts pgRED Red.S_STILE_STATE 1 with red := { s.red with own := true } }

/-- The timeline runs and the device holds the Stile. -/
def W.mine : State := W.held W.run

/-- Port engine 0 enabled and bound to Swath 15. -/
def W.px (s : State) : State := (W.enable s (pgPXP 0)).setFld (pgPXP 0) Pxp.PX_MODE Pxp.SWATH 15

/-- Sync input 4 runs at one pulse per second, its last bit of a decimation not yet come. -/
def W.syn (s : State) : State :=
  (((((W.enable s (pgSYN 4)).setNat (pgSYN 4) SynIn.PERIOD_NUM 1).setNat (pgSYN 4) SynIn.PERIOD_DEN 1).setNat (pgSYN 4) SynIn.WINDOW
    100).setNat (pgSYN 4) SynIn.DECIM 9).setSts (pgSYN 4) SynIn.S_IO_STATE 1


/-- The timeline stands at a number of nanoseconds. -/
def W.at (ns : Nat) (s : State) : State := { s with tln := { s.tln with now := ns * NS } }

/-- A STEP was taken in this TCLK cycle. -/
def W.voided (s : State) : State := { s with tln := { s.tln with voidAt := some s.tln.now } }

/-- A slew is running with a part of it left. -/
def W.slewing (left : Int) (s : State) : State :=
  { s.setSts pgTLN Tln.S_SLEWING 1 with tln := { s.tln with slewLeft := left } }

/-- The timeline holds and its uncertainty at the start of the hold is known. -/
def W.holding (base : Nat) (s : State) : State :=
  { s.setSts pgTLN Tln.S_TL_STATE 3 with tln := { s.tln with uncertBase := base } }

/-- A containment is in progress. -/
def W.contain (c : Nat × Nat) (s : State) : State := { s with dev := { s.dev with containing := [c] } }

/-- A launch waits. -/
def W.launch (key : Nat) (l : Launch) (s : State) : State := { s with launch := [(key, [l])] }

theorem W.ofSome (o : Option State) (h : o.isSome = true) : o = Option.some (o.getD State.reset) := by
  cases o with
  | none => exact absurd h (by decide)
  | some _ => rfl

theorem W.next (c : Instr) (s : State) (h : (match exec c s with | .next _ => true | _ => false) = true) :
    exec c s = .next (W.after c s) := by
  unfold W.after
  cases he : exec c s with
  | next t => rfl
  | fault r => rw [he] at h; cases h
  | refused r => rw [he] at h; cases h

/-- A value of two words. -/
def W.two : BitVec 64 := 0x5000000001

/-- A job of given descriptor words. -/
def W.job (phase : JobPhase) (executor : Nat) (d : List Word) : Job :=
  { Job.fresh d .host none false 7 0 with phase := phase, executor := executor }

/-- Region 0 changed. -/
def W.region (f : RegionState → RegionState) (s : State) : State := s.setRegion 0 (f (s.regionOf 0))

/-- Region 0 holds one job. -/
def W.has (phase : JobPhase) (executor : Nat) (d : List Word) (s : State) : State :=
  W.region (fun r => { r with jobs := [W.job phase executor d] }) s

/-- The store of region 0 is full of jobs. -/
def W.full (s : State) : State :=
  W.region (fun r => { r with jobs := List.replicate 2048 (W.job .waiting 127 [0x10, 0, 0, 0, 0, 0, 0, 0]) }) s

/-- List 0 of region 0 is being read; its descriptor is a STREAM job. -/
def W.listing (s : State) : State :=
  ((W.region (fun r => { r with lists := [(0, ⟨true, 0, 9, false, 1, 0⟩)] }) s).setReg (pgJSC 0) (Jsc.LIST_BASE_HI 0)
    (BitVec.ofNat 32 (DRAM_BASE / 2 ^ 32))).setByte DRAM_BASE 2

/-- Thread 3 with a state. -/
def W.thread (st core : Nat) (waiting : List Word) (s : State) : State := s.setThread 3 ⟨st, core, waiting, 0⟩

/-- A TILE job on PLU 0 with 4 pixels of pixel map 0. -/
def W.tile (executor : Nat) : Job := W.job .dispatched executor [0, 0, 0, 0, 0, 0, 4, 0]

/-- A snapshot of pixel map 0, at frame 0, with 8 pixels of tile 0 from address 0x1000. -/
def W.snap : Snap :=
  { frame := 0, swath := 0, ctrl := 1, base := 0x1000, count := 8, mask := 3, corr := 0, tiles := 0, tileCount := 1,
    ofb := 0x10000, entry := 0, consts := List.replicate 8 0, banks := [0], layers := [], slot := 0, cmpCtrl := 2,
    seedLo := 0, seedHi := 0, rangeSeen := false }

/-- A run of pixel 0 that has come to the first word. -/
def W.pix : PixelRun :=
  { pixel := 0, pc := 0, u := 0, v := 0, tile := 0, vr := List.replicate 64 5, sr := List.replicate 8 3,
    pr := List.replicate 16 true, blk := none, dosed := false, stored := false, dose := [0, 0, 0, 0], cost := 0,
    smpLayer := false, record := none, gains := [none, none, none, none] }

/-- The word of an opcode with LANES and FUNC, its other fields 0. -/
def W.word (op lanes f : Nat) : BitVec 64 := BitVec.ofNat 64 (op * 2 ^ 58 + lanes * 2 ^ 34 + f)

/-- PLU 0 runs a pixel and has come to a word. -/
def W.plu (run : Option PixelRun) (word : BitVec 64) : State :=
  (W.region (fun r => { r with jobs := [W.tile 0] })
    { W.run with snaps := [(0, [W.snap])], prog := Tab.set (fun _ => 0) [] 0 word }).setPlu 0
      { PluState.init with run := run, next := if run.isSome then 1 else 0 }

/-- What PLU 0 makes of a FIXUP job. -/
def W.finished : State × Job :=
  let j := W.job .dispatched 0 [1, 0, 0, 0, 0, 1, 0, 0]
  ((W.has .dispatched 0 [1, 0, 0, 0, 0, 1, 0, 0] W.run).pluFinish 0 j).getD (W.run, j)

/-- The run in a repeat block. -/
def W.inBlock (layers : List Nat) : PixelRun := { W.pix with blk := some ⟨1, layers, 0, 2⟩ }

/-- The run after ST. -/
def W.stored : PixelRun := { W.pix with stored := true }

theorem witness_RegisterWritesAct :
    (∃ s : State, s = W.held State.reset ∧ 32 ≤ 36 ∧
      36 < 2048 ∧
      s.accepts Requester.pcie (pgSWT 0) 36 = true ∧
      pageInfo (pgSWT 0) = some (PageInfo.mk Block.swt 0 0) ∧
      rowAt (PageInfo.mk Block.swt 0 0) 36 = some (W.row (PageInfo.mk Block.swt 0 0) 36) ∧
      (s.told Requester.pcie (pgSWT 0) 36 5).ownWrite Requester.pcie (PageInfo.mk Block.swt 0 0) ((PageInfo.mk Block.swt 0 0).sub * 4096 + 36) 5 = none ∧
      ownerFault Requester.pcie (PageInfo.mk Block.swt 0 0) ((PageInfo.mk Block.swt 0 0).sub * 4096 + 36) = none ∧
      isShadowed (PageInfo.mk Block.swt 0 0) 36 = true) ∧
    (∃ s : State, s = State.reset ∧ 32 ≤ 44 ∧
      44 < 2048 ∧
      s.accepts Requester.pcie pgSYS 44 = true ∧
      pageInfo pgSYS = some (PageInfo.mk Block.sys 0 0) ∧
      rowAt (PageInfo.mk Block.sys 0 0) 44 = some (W.row (PageInfo.mk Block.sys 0 0) 44) ∧
      (s.told Requester.pcie pgSYS 44 5).ownWrite Requester.pcie (PageInfo.mk Block.sys 0 0) ((PageInfo.mk Block.sys 0 0).sub * 4096 + 44) 5 = none ∧
      ownerFault Requester.pcie (PageInfo.mk Block.sys 0 0) ((PageInfo.mk Block.sys 0 0).sub * 4096 + 44) = none ∧
      isShadowed (PageInfo.mk Block.sys 0 0) 44 = false ∧
      plainBad (PageInfo.mk Block.sys 0 0) ((PageInfo.mk Block.sys 0 0).sub * 4096 + 44) ((s.told Requester.pcie pgSYS 44 5).claimMask pgSYS 44 5) = false) ∧
    (∃ s : State, s = State.reset ∧ 32 ≤ Evr.TRIG_ADDR ∧
      Evr.TRIG_ADDR < 2048 ∧
      s.accepts Requester.cc0 pgEVR Evr.TRIG_ADDR = true ∧
      pageInfo pgEVR = some (PageInfo.mk Block.evr 0 0) ∧
      rowAt (PageInfo.mk Block.evr 0 0) Evr.TRIG_ADDR = some (W.row (PageInfo.mk Block.evr 0 0) Evr.TRIG_ADDR) ∧
      (s.told Requester.cc0 pgEVR Evr.TRIG_ADDR 8175).ownWrite Requester.cc0 (PageInfo.mk Block.evr 0 0) ((PageInfo.mk Block.evr 0 0).sub * 4096 + Evr.TRIG_ADDR) 8175 = none ∧
      ownerFault Requester.cc0 (PageInfo.mk Block.evr 0 0) ((PageInfo.mk Block.evr 0 0).sub * 4096 + Evr.TRIG_ADDR) = none ∧
      isShadowed (PageInfo.mk Block.evr 0 0) Evr.TRIG_ADDR = false ∧
      plainBad (PageInfo.mk Block.evr 0 0) ((PageInfo.mk Block.evr 0 0).sub * 4096 + Evr.TRIG_ADDR) ((s.told Requester.cc0 pgEVR Evr.TRIG_ADDR 8175).claimMask pgEVR Evr.TRIG_ADDR 8175) = false) ∧
    (∃ s : State, s = State.reset ∧ s.aclkRuns = true ∧
      isMemory DRAM_BASE = true ∧
      isFeram DRAM_BASE = false ∧
      (isHost Requester.cc1 = true → DRAM_BASE < 67108864)) ∧
    (∃ s : State, s = State.reset ∧ isHost Requester.spi = true ∧
      67108864 ≤ 67108864) ∧
    (∃ s : State, s = State.reset ∧ s.aclkRuns = true ∧
      isMemory (DRAM_END - 1) = true ∧
      isFeram (DRAM_END - 1) = false ∧
      (isHost Requester.cc0 = true → DRAM_END - 1 < 67108864)) ∧
    (∃ s : State, s = State.reset ∧ 256 < 1024 ∧
      s.accepts Requester.pcie (pgPMC + 1) (2048 + 256) = true ∧
      pageInfo (pgPMC + 1) = some (PageInfo.mk Block.pmc 0 1) ∧
      256 ≠ PAGE_FAULT ∧
      256 ≠ PAGE_STATUS ∧
      (PageInfo.mk Block.pmc 0 1).block ≠ Block.icu ∧
      (PageInfo.mk Block.pmc 0 1).block ≠ Block.eth) ∧
    (∃ s : State, s = W.held State.reset ∧ PAGE_STATUS < 1024 ∧
      s.accepts Requester.pcie (pgSWT 0) (2048 + PAGE_STATUS) = true ∧
      pageInfo (pgSWT 0) = some (PageInfo.mk Block.swt 0 0) ∧
      PAGE_STATUS ≠ PAGE_FAULT ∧
      PAGE_STATUS = PAGE_STATUS) ∧
    (∃ s : State, s = (W.held State.reset).setReg (pgSWT 0) PAGE_STATUS 48 ∧ PAGE_STATUS < 1024 ∧
      (s.presence false).accepts Requester.pcie (pgSWT 0) (3072 + PAGE_STATUS) = true ∧
      pageInfo (pgSWT 0) = some (PageInfo.mk Block.swt 0 0) ∧
      PAGE_STATUS ≠ PAGE_FAULT ∧
      isSc (PageInfo.mk Block.swt 0 0) PAGE_STATUS = true ∧
      (PageInfo.mk Block.swt 0 0).block ≠ Block.icu ∧
      (PageInfo.mk Block.swt 0 0).block ≠ Block.eth) ∧
    (∃ s a : State, s = W.held State.reset ∧ a = W.after (Instr.registerWrite Requester.pcie (regKey (pgSWT 3) 0) 4 (BitVec.setWidth 64 (BitVec.setWidth 32 W.two))) (W.held State.reset) ∧ exec (Instr.registerWrite Requester.pcie (regKey (pgSWT 3) 0) 4 (BitVec.setWidth 64 (BitVec.setWidth 32 W.two))) s = Host.Outcome.next (W.after (Instr.registerWrite Requester.pcie (regKey (pgSWT 3) 0) 4 (BitVec.setWidth 64 (BitVec.setWidth 32 W.two))) s) ∧ 0 < 4096 ∧
      pgSWT 3 < 1024 ∧
      (W.after (Instr.registerWrite Requester.pcie (regKey (pgSWT 3) 0) 4 (BitVec.setWidth 64 (BitVec.setWidth 32 W.two))) s).tln.now = s.tln.now) ∧
    (∃ s : State, s = W.held State.reset ∧ 36 < 4096 ∧
      pageInfo (pgSWT 0) = some (PageInfo.mk Block.swt 0 0) ∧
      s.aclkRuns = true ∧
      2 ≠ 4 ∧
      2 ≠ 8) ∧
    (∃ s : State, s = W.linked State.reset ∧ 36 < 4096 ∧
      pageInfo (pgSWT 0) = some (PageInfo.mk Block.swt 0 0) ∧
      s.aclkRuns = true ∧
      s.counted.replicaWrite Requester.pcie (pgSWT 0) 36 = true) ∧
    (∃ s : State, s = W.resetting (W.held State.reset) (pgSWT 0) ∧ 36 < 4096 ∧
      pageInfo (pgSWT 0) = some (PageInfo.mk Block.swt 0 0) ∧
      s.aclkRuns = true ∧
      s.counted.isResetting (pgSWT 0) = true ∧
      36 ≠ 3072 + PAGE_FAULT) ∧
    (∃ s : State, s = W.held State.reset ∧ 2048 < 4096 ∧
      pageInfo (pgSWT 0) = some (PageInfo.mk Block.swt 0 0) ∧
      s.aclkRuns = true ∧
      2048 ≤ 2048 ∧
      isSc (PageInfo.mk Block.swt 0 0) (2048 % 1024) = false) ∧
    (∃ s : State, s = (W.held State.reset).setArm (pgSWT 0) { on := true, since := 0 } ∧ 36 < 4096 ∧
      pageInfo (pgSWT 0) = some (PageInfo.mk Block.swt 0 0) ∧
      ((W.held State.reset).setArm (pgSWT 0) (Arm.mk true 0)).aclkRuns = true ∧
      36 < 2048 ∧
      isShadowed (PageInfo.mk Block.swt 0 0) 36 = true ∧
      (((W.held State.reset).setArm (pgSWT 0) (Arm.mk true 0)).counted.armOf (groupOf (pgSWT 0))).on = true) ∧
    (∃ s : State, s = W.enable (W.held State.reset) (pgSWT 0) ∧ 32 < 4096 ∧
      pageInfo (pgSWT 0) = some (PageInfo.mk Block.swt 0 0) ∧
      s.aclkRuns = true ∧
      32 ≤ 32 ∧
      32 < 2048 ∧
      rowAt (PageInfo.mk Block.swt 0 0) 32 = some (W.row (PageInfo.mk Block.swt 0 0) 32) ∧
      (W.row (PageInfo.mk Block.swt 0 0) 32).cls = RegClass.stopOnly ∧
      s.counted.active (pgSWT 0) = true) ∧
    (∃ s : State, s = State.reset ∧ s.aclkRuns = true ∧
      isFeram FERAM_BASE = true ∧
      (isHost Requester.pcie = true ∨ firmwareFeram FERAM_BASE = false)) ∧
    (∃ s : State, s = State.reset ∧ s.aclkRuns = true ∧
      isFeram (FERAM_BASE + 16515072) = true ∧
      isHost Requester.cc0 = false ∧
      firmwareFeram (FERAM_BASE + 16515072) = true) ∧
    (∃ s : State, s = W.held State.reset ∧ PAGE_FAULT < 1024 ∧
      s.accepts Requester.pcie (pgSWT 0) (2048 + PAGE_FAULT) = true ∧
      pageInfo (pgSWT 0) = some (PageInfo.mk Block.swt 0 0) ∧
      PAGE_FAULT = PAGE_FAULT) ∧
    (∃ s : State, s = State.reset ∧ PAGE_STATUS < 1024 ∧
      s.accepts Requester.pcie (pgETH 0) (2048 + PAGE_STATUS) = true ∧
      pageInfo (pgETH 0) = some (PageInfo.mk Block.eth 0 0) ∧
      PAGE_STATUS ≠ PAGE_FAULT ∧
      (PageInfo.mk Block.eth 0 0).block = Block.eth) ∧
    (∃ s : State, s = State.reset ∧ 64 < 1024 ∧
      s.accepts Requester.pcie pgICU (2048 + 64) = true ∧
      pageInfo pgICU = some (PageInfo.mk Block.icu 0 0) ∧
      64 ≠ PAGE_FAULT ∧
      (PageInfo.mk Block.icu 0 0).block = Block.icu ∧
      64 ≤ (PageInfo.mk Block.icu 0 0).sub * 4096 + 64 ∧
      (PageInfo.mk Block.icu 0 0).sub * 4096 + 64 < 128) ∧
    (∃ s : State, s = State.reset ∧ 128 < 1024 ∧
      s.accepts Requester.pcie pgICU (2048 + 128) = true ∧
      pageInfo pgICU = some (PageInfo.mk Block.icu 0 0) ∧
      128 ≠ PAGE_FAULT ∧
      128 ≠ PAGE_STATUS ∧
      (PageInfo.mk Block.icu 0 0).block = Block.icu ∧
      ((PageInfo.mk Block.icu 0 0).sub * 4096 + 128 < 64 ∨ 128 ≤ (PageInfo.mk Block.icu 0 0).sub * 4096 + 128)) ∧
    (∃ s : State, s = (W.held State.reset).setReg (pgSWT 0) PAGE_FAULT 48 ∧ PAGE_FAULT < 1024 ∧
      (s.presence false).accepts Requester.pcie (pgSWT 0) (3072 + PAGE_FAULT) = true ∧
      pageInfo (pgSWT 0) = some (PageInfo.mk Block.swt 0 0) ∧
      PAGE_FAULT = PAGE_FAULT ∧
      ((PageInfo.mk Block.swt 0 0).block ≠ Block.hth ∨ bit 16 Hth.F_SEAL_OPEN = false ∨ false = true)) ∧
    (∃ s : State, s = State.reset.setFlag pgHTH PAGE_FAULT Hth.F_SEAL_OPEN true ∧ PAGE_FAULT < 1024 ∧
      (s.presence false).accepts Requester.pcie pgHTH (3072 + PAGE_FAULT) = true ∧
      pageInfo pgHTH = some (PageInfo.mk Block.hth 0 0) ∧
      PAGE_FAULT = PAGE_FAULT ∧
      (PageInfo.mk Block.hth 0 0).block = Block.hth ∧
      bit (4294967295 &&& aliasBits (PageInfo.mk Block.hth 0 0) pgHTH PAGE_FAULT) Hth.F_SEAL_OPEN = true ∧
      false = false) ∧
    (∃ s : State, s = State.reset.setReg (pgETH 0) PAGE_STATUS 16 ∧ PAGE_STATUS < 1024 ∧
      (s.presence false).accepts Requester.pcie (pgETH 0) (3072 + PAGE_STATUS) = true ∧
      pageInfo (pgETH 0) = some (PageInfo.mk Block.eth 0 0) ∧
      PAGE_STATUS ≠ PAGE_FAULT ∧
      (PageInfo.mk Block.eth 0 0).block = Block.eth ∧
      isSc (PageInfo.mk Block.eth 0 0) PAGE_STATUS = true) ∧
    (∃ s : State, s = State.reset.setReg pgICU 64 16 ∧ 64 < 1024 ∧
      (s.presence false).accepts Requester.pcie pgICU (3072 + 64) = true ∧
      pageInfo pgICU = some (PageInfo.mk Block.icu 0 0) ∧
      64 ≠ PAGE_FAULT ∧
      (PageInfo.mk Block.icu 0 0).block = Block.icu ∧
      64 ≤ (PageInfo.mk Block.icu 0 0).sub * 4096 + 64 ∧
      (PageInfo.mk Block.icu 0 0).sub * 4096 + 64 < 128) ∧
    (∃ s : State, s = State.reset.setReg pgICU 128 16 ∧ 128 < 1024 ∧
      (s.presence false).accepts Requester.pcie pgICU (3072 + 128) = true ∧
      pageInfo pgICU = some (PageInfo.mk Block.icu 0 0) ∧
      128 ≠ PAGE_FAULT ∧
      128 ≠ PAGE_STATUS ∧
      (PageInfo.mk Block.icu 0 0).block = Block.icu ∧
      ((PageInfo.mk Block.icu 0 0).sub * 4096 + 128 < 64 ∨ 128 ≤ (PageInfo.mk Block.icu 0 0).sub * 4096 + 128)) :=
  ⟨⟨_, rfl, by decide +kernel⟩,
    ⟨_, rfl, by decide +kernel⟩,
    ⟨_, rfl, by decide +kernel⟩,
    ⟨_, rfl, by decide +kernel⟩,
    ⟨_, rfl, by decide +kernel⟩,
    ⟨_, rfl, by decide +kernel⟩,
    ⟨_, rfl, by decide +kernel⟩,
    ⟨_, rfl, by decide +kernel⟩,
    ⟨_, rfl, by decide +kernel⟩,
    ⟨_, _, rfl, rfl, W.next _ _ (by decide +kernel), by decide +kernel⟩,
    ⟨_, rfl, by decide +kernel⟩,
    ⟨_, rfl, by decide +kernel⟩,
    ⟨_, rfl, by decide +kernel⟩,
    ⟨_, rfl, by decide +kernel⟩,
    ⟨_, rfl, by decide +kernel⟩,
    ⟨_, rfl, by decide +kernel⟩,
    ⟨_, rfl, by decide +kernel⟩,
    ⟨_, rfl, by decide +kernel⟩,
    ⟨_, rfl, by decide +kernel⟩,
    ⟨_, rfl, by decide +kernel⟩,
    ⟨_, rfl, by decide +kernel⟩,
    ⟨_, rfl, by decide +kernel⟩,
    ⟨_, rfl, by decide +kernel⟩,
    ⟨_, rfl, by decide +kernel⟩,
    ⟨_, rfl, by decide +kernel⟩,
    ⟨_, rfl, by decide +kernel⟩,
    ⟨_, rfl, by decide +kernel⟩⟩

theorem witness_PageCommandsAct :
    (∃ s : State, s = W.held State.reset ∧ s.accepts Requester.pcie (pgCMP 0) PAGE_CTRL = true ∧
      pageInfo (pgCMP 0) = some (PageInfo.mk Block.cmp 0 0) ∧
      (PageInfo.mk Block.cmp 0 0).sub = 0 ∧
      (PageInfo.mk Block.cmp 0 0).block ∈ [Block.cmp, Block.fix, Block.str, Block.ing, Block.ntm, Block.red] ∧
      bits (s.ctrlWith (pgCMP 0) 0 true) (6, 4) ≤ 5 ∧
      bit (s.ctrlWith (pgCMP 0) 0 true) 1 = false ∧
      bit (s.ctrlWith (pgCMP 0) 0 true) 2 = false ∧
      (s.told Requester.pcie (pgCMP 0) PAGE_CTRL (s.ctrlWith (pgCMP 0) 0 true)).flag (pgCMP 0) PAGE_CTRL 1 = false ∧
      (s.told Requester.pcie (pgCMP 0) PAGE_CTRL (s.ctrlWith (pgCMP 0) 0 true)).dev.unstop = [] ∧
      (s.told Requester.pcie (pgCMP 0) PAGE_CTRL (s.ctrlWith (pgCMP 0) 0 true)).pageState (pgCMP 0) ≠ 3 ∧
      (s.told Requester.pcie (pgCMP 0) PAGE_CTRL (s.ctrlWith (pgCMP 0) 0 true)).enabled (pgCMP 0) ≠ true) ∧
    (∃ s : State, s = W.held State.reset ∧ s.accepts Requester.pcie (pgSWT 0) PAGE_CTRL = true ∧
      pageInfo (pgSWT 0) = some (PageInfo.mk Block.swt 0 0) ∧
      bits (s.ctrlWith (pgSWT 0) 0 true) (6, 4) ≤ 5 ∧
      bit (s.ctrlWith (pgSWT 0) 0 true) 2 = false ∧
      (PageInfo.mk Block.swt 0 0).sub = 0 ∧
      (s.told Requester.pcie (pgSWT 0) PAGE_CTRL (s.ctrlWith (pgSWT 0) 0 true)).pageState (pgSWT 0) ≠ 3 ∧
      (s.told Requester.pcie (pgSWT 0) PAGE_CTRL (s.ctrlWith (pgSWT 0) 0 true)).enabled (pgSWT 0) ≠ true) ∧
    (∃ s : State, s = W.enable State.reset pgNTM ∧ s.accepts Requester.cc0 pgNTM PAGE_CTRL = true ∧
      pageInfo pgNTM = some (PageInfo.mk Block.ntm 0 0) ∧
      bits (s.ctrlWith pgNTM 0 false) (6, 4) ≤ 5 ∧
      bit (s.ctrlWith pgNTM 0 false) 2 = false ∧
      (PageInfo.mk Block.ntm 0 0).sub = 0 ∧
      (s.told Requester.cc0 pgNTM PAGE_CTRL (s.ctrlWith pgNTM 0 false)).pageState pgNTM ≠ 3 ∧
      (s.told Requester.cc0 pgNTM PAGE_CTRL (s.ctrlWith pgNTM 0 false)).enabled pgNTM ≠ false) ∧
    (∃ s : State, s = W.held State.reset ∧ s.accepts Requester.pcie (pgSWT 0 + 1) PAGE_CTRL = true ∧
      pageInfo (pgSWT 0 + 1) = some (PageInfo.mk Block.swt 0 1) ∧
      bits (s.ctrlWith (pgSWT 0 + 1) 0 true) (6, 4) ≤ 5 ∧
      bit (s.ctrlWith (pgSWT 0 + 1) 0 true) 2 = false ∧
      (PageInfo.mk Block.swt 0 1).sub ≠ 0) ∧
    (∃ s : State, s = W.enable (W.held State.reset) (pgSWT 0) ∧ s.accepts Requester.pcie (pgSWT 0) PAGE_CTRL = true ∧
      pageInfo (pgSWT 0) = some (PageInfo.mk Block.swt 0 0) ∧
      bits (s.ctrlWith (pgSWT 0) 1 true) (6, 4) ≤ 5 ∧
      bit (s.ctrlWith (pgSWT 0) 1 true) 2 = false ∧
      (PageInfo.mk Block.swt 0 0).sub = 0 ∧
      (s.told Requester.pcie (pgSWT 0) PAGE_CTRL (s.ctrlWith (pgSWT 0) 1 true)).pageState (pgSWT 0) ≠ 3 ∧
      (s.told Requester.pcie (pgSWT 0) PAGE_CTRL (s.ctrlWith (pgSWT 0) 1 true)).stopSet (pgSWT 0) ≠ true ∧
      (((s.told Requester.pcie (pgSWT 0) PAGE_CTRL (s.ctrlWith (pgSWT 0) 1 true)).setReg (pgSWT 0) PAGE_CTRL (s.ctrlWith (pgSWT 0) 1 true &&& 123)).noteUnstop (pgSWT 0) ((s.told Requester.pcie (pgSWT 0) PAGE_CTRL (s.ctrlWith (pgSWT 0) 1 true)).flag (pgSWT 0) PAGE_CTRL 1)).stopSet (pgSWT 0) = true) ∧
    (∃ s : State, s = (W.stop (W.held State.reset) (pgCMP 0)).setArm (pgCMP 0) { on := true, since := 0 } ∧ ((W.stop (W.held State.reset) (pgCMP 0)).setArm (pgCMP 0) (Arm.mk true 0)).accepts Requester.pcie (pgCMP 0) PAGE_CTRL = true ∧
      pageInfo (pgCMP 0) = some (PageInfo.mk Block.cmp 0 0) ∧
      bits (((W.stop (W.held State.reset) (pgCMP 0)).setArm (pgCMP 0) (Arm.mk true 0)).ctrlWith (pgCMP 0) 1 false) (6, 4) ≤ 5 ∧
      bit (((W.stop (W.held State.reset) (pgCMP 0)).setArm (pgCMP 0) (Arm.mk true 0)).ctrlWith (pgCMP 0) 1 false) 2 = false ∧
      (PageInfo.mk Block.cmp 0 0).sub = 0 ∧
      (((W.stop (W.held State.reset) (pgCMP 0)).setArm (pgCMP 0) (Arm.mk true 0)).told Requester.pcie (pgCMP 0) PAGE_CTRL (((W.stop (W.held State.reset) (pgCMP 0)).setArm (pgCMP 0) (Arm.mk true 0)).ctrlWith (pgCMP 0) 1 false)).stopSet (pgCMP 0) ≠ false ∧
      (((((W.stop (W.held State.reset) (pgCMP 0)).setArm (pgCMP 0) (Arm.mk true 0)).told Requester.pcie (pgCMP 0) PAGE_CTRL (((W.stop (W.held State.reset) (pgCMP 0)).setArm (pgCMP 0) (Arm.mk true 0)).ctrlWith (pgCMP 0) 1 false)).setReg (pgCMP 0) PAGE_CTRL (((W.stop (W.held State.reset) (pgCMP 0)).setArm (pgCMP 0) (Arm.mk true 0)).ctrlWith (pgCMP 0) 1 false &&& 123)).noteUnstop (pgCMP 0) ((((W.stop (W.held State.reset) (pgCMP 0)).setArm (pgCMP 0) (Arm.mk true 0)).told Requester.pcie (pgCMP 0) PAGE_CTRL (((W.stop (W.held State.reset) (pgCMP 0)).setArm (pgCMP 0) (Arm.mk true 0)).ctrlWith (pgCMP 0) 1 false)).flag (pgCMP 0) PAGE_CTRL 1)).stopSet (pgCMP 0) ≠ false ∧
      ((((W.stop (W.held State.reset) (pgCMP 0)).setArm (pgCMP 0) (Arm.mk true 0)).told Requester.pcie (pgCMP 0) PAGE_CTRL (((W.stop (W.held State.reset) (pgCMP 0)).setArm (pgCMP 0) (Arm.mk true 0)).ctrlWith (pgCMP 0) 1 false)).setReg (pgCMP 0) PAGE_CTRL (((W.stop (W.held State.reset) (pgCMP 0)).setArm (pgCMP 0) (Arm.mk true 0)).ctrlWith (pgCMP 0) 1 false &&& 123)).enabled (pgCMP 0) = (((W.stop (W.held State.reset) (pgCMP 0)).setArm (pgCMP 0) (Arm.mk true 0)).told Requester.pcie (pgCMP 0) PAGE_CTRL (((W.stop (W.held State.reset) (pgCMP 0)).setArm (pgCMP 0) (Arm.mk true 0)).ctrlWith (pgCMP 0) 1 false)).enabled (pgCMP 0)) ∧
    (∃ s : State, s = W.held State.reset ∧ s.accepts Requester.pcie (pgSWT 0 + 1) PAGE_CTRL = true ∧
      pageInfo (pgSWT 0 + 1) = some (PageInfo.mk Block.swt 0 1) ∧
      bits (s.ctrlWith (pgSWT 0 + 1) 1 true) (6, 4) ≤ 5 ∧
      bit (s.ctrlWith (pgSWT 0 + 1) 1 true) 2 = false ∧
      (PageInfo.mk Block.swt 0 1).sub ≠ 0) ∧
    (∃ s : State, s = W.enable (W.held State.reset) (pgCMP 0) ∧ s.accepts Requester.pcie (pgCMP 0) PAGE_CTRL = true ∧
      pageInfo (pgCMP 0) = some (PageInfo.mk Block.cmp 0 0) ∧
      (PageInfo.mk Block.cmp 0 0).sub = 0 ∧
      (PageInfo.mk Block.cmp 0 0).block ∈ [Block.cmp, Block.fix, Block.str, Block.ing, Block.ntm, Block.red] ∧
      bits (s.ctrlWith (pgCMP 0) 1 true) (6, 4) ≤ 5 ∧
      bit (s.ctrlWith (pgCMP 0) 1 true) 0 = true ∧
      bit (s.ctrlWith (pgCMP 0) 1 true) 2 = false ∧
      (s.told Requester.pcie (pgCMP 0) PAGE_CTRL (s.ctrlWith (pgCMP 0) 1 true)).enabled (pgCMP 0) = true ∧
      (s.told Requester.pcie (pgCMP 0) PAGE_CTRL (s.ctrlWith (pgCMP 0) 1 true)).flag (pgCMP 0) PAGE_CTRL 1 = false ∧
      (s.told Requester.pcie (pgCMP 0) PAGE_CTRL (s.ctrlWith (pgCMP 0) 1 true)).dev.unstop = [] ∧
      (s.told Requester.pcie (pgCMP 0) PAGE_CTRL (s.ctrlWith (pgCMP 0) 1 true)).pageState (pgCMP 0) ≠ 3) ∧
    (∃ s : State, s = W.enable (W.held State.reset) (pgPXP 0) ∧ s.accepts Requester.pcie (pgPXP 0) PAGE_CTRL = true ∧
      pageInfo (pgPXP 0) = some (PageInfo.mk Block.pxp 0 0) ∧
      (PageInfo.mk Block.pxp 0 0).sub = 0 ∧
      (PageInfo.mk Block.pxp 0 0).block.level = 0 ∧
      (PageInfo.mk Block.pxp 0 0).block ≠ Block.ccr ∧
      (s.told Requester.pcie (pgPXP 0) PAGE_CTRL (setBit (putBits (s.reg (pgPXP 0) PAGE_CTRL) (6, 4) 0) 2)).dev.unstop = [] ∧
      (s.told Requester.pcie (pgPXP 0) PAGE_CTRL (setBit (putBits (s.reg (pgPXP 0) PAGE_CTRL) (6, 4) 0) 2)).reg (pgPXP 0) PAGE_CTRL = s.reg (pgPXP 0) PAGE_CTRL ∧
      bits (s.reg (pgPXP 0) PAGE_CTRL) (31, 2) = 0 ∧
      (s.told Requester.pcie (pgPXP 0) PAGE_CTRL (setBit (putBits (s.reg (pgPXP 0) PAGE_CTRL) (6, 4) 0) 2)).flag (pgPXP 0) PAGE_CTRL 1 = false) ∧
    (∃ s : State, s = State.reset ∧ s.accepts Requester.pcie pgTLN PAGE_COMMIT = true ∧
      pageInfo pgTLN = some (PageInfo.mk Block.tln 0 0) ∧
      ((s.told Requester.pcie pgTLN PAGE_COMMIT 1).armOf (groupOf pgTLN)).on = false ∧
      (PageInfo.mk Block.tln 0 0).block.kind = 1) ∧
    (∃ s : State, s = W.px (W.enable (W.held State.reset) (pgSWT 15)) ∧ s.accepts Requester.pcie (pgPXP 0) PAGE_COMMIT = true ∧
      pageInfo (pgPXP 0) = some (PageInfo.mk Block.pxp 0 0) ∧
      ((s.told Requester.pcie (pgPXP 0) PAGE_COMMIT 1).armOf (groupOf (pgPXP 0))).on = false ∧
      (PageInfo.mk Block.pxp 0 0).block.kind = 2 ∧
      (s.told Requester.pcie (pgPXP 0) PAGE_COMMIT 1).boundSwath (groupOf (pgPXP 0)) ≠ 255 ∧
      (s.told Requester.pcie (pgPXP 0) PAGE_COMMIT 1).swathStopped ((s.told Requester.pcie (pgPXP 0) PAGE_COMMIT 1).boundSwath (groupOf (pgPXP 0))) = false) ∧
    (∃ s : State, s = (W.held State.reset).setArm (pgCMP 0) { on := true, since := 0 } ∧ ((W.held State.reset).setArm (pgCMP 0) (Arm.mk true 0)).accepts Requester.pcie (pgCMP 0) PAGE_COMMIT = true ∧
      pageInfo (pgCMP 0) = some (PageInfo.mk Block.cmp 0 0) ∧
      (((W.held State.reset).setArm (pgCMP 0) (Arm.mk true 0)).told Requester.pcie (pgCMP 0) PAGE_COMMIT 2).dev.unstop = []) ∧
    (∃ s : State, s = State.reset ∧ pageInfo (pgPXP 0) = some (PageInfo.mk Block.pxp 0 0) ∧
      (PageInfo.mk Block.pxp 0 0).sub = 0) ∧
    (∃ s : State, s = State.reset ∧ pageInfo (pgCCR 0) = some (PageInfo.mk Block.ccr 0 0) ∧
      (PageInfo.mk Block.ccr 0 0).sub = 0) ∧
    (∃ s : State, s = W.held State.reset ∧ s.accepts Requester.pcie (pgSWT 0) PAGE_CTRL = true ∧
      5 < bits 96 (6, 4)) ∧
    (∃ s : State, s = State.reset ∧ s.aclkRuns = true ∧
      isMapped 4190208 = false) :=
  ⟨⟨_, rfl, by decide +kernel⟩,
    ⟨_, rfl, by decide +kernel⟩,
    ⟨_, rfl, by decide +kernel⟩,
    ⟨_, rfl, by decide +kernel⟩,
    ⟨_, rfl, by decide +kernel⟩,
    ⟨_, rfl, by decide +kernel⟩,
    ⟨_, rfl, by decide +kernel⟩,
    ⟨_, rfl, by decide +kernel⟩,
    ⟨_, rfl, by decide +kernel⟩,
    ⟨_, rfl, by decide +kernel⟩,
    ⟨_, rfl, by decide +kernel⟩,
    ⟨_, rfl, by decide +kernel⟩,
    ⟨_, rfl, by decide +kernel⟩,
    ⟨_, rfl, by decide +kernel⟩,
    ⟨_, rfl, by decide +kernel⟩,
    ⟨_, rfl, by decide +kernel⟩⟩

theorem witness_FaultsAreContained :
    (∃ s : State, s = State.reset ∧ pageInfo (pgPXP 0) = some (PageInfo.mk Block.pxp 0 0) ∧
      (PageInfo.mk Block.pxp 0 0).block.level = 0) ∧
    (∃ s : State, s = State.reset ∧ pageInfo pgSYS = some (PageInfo.mk Block.sys 0 0) ∧
      (PageInfo.mk Block.sys 0 0).block.level = 3) ∧
    (∃ s : State, s = W.held State.reset ∧ pageInfo pgRED = some (PageInfo.mk Block.red 0 0) ∧
      (PageInfo.mk Block.red 0 0).block.level = 5) ∧
    (∃ s : State, s = W.contain (0, pgLMP 9) State.reset ∧ (0, pgLMP 9) ∈ s.dev.containing ∧
      clusterOfUnit (pgLMP 9) = some (pgLCL 1)) ∧
    (∃ s : State, s = W.contain (2, 3) State.reset ∧ (2, 3) ∈ s.dev.containing) ∧
    (∃ s : State, s = State.reset ∧ s.aclkRuns = true) ∧
    (∃ s : State, s = State.reset ∧ s.aclkRuns = true) :=
  ⟨⟨_, rfl, by decide +kernel⟩,
    ⟨_, rfl, by decide +kernel⟩,
    ⟨_, rfl, by decide +kernel⟩,
    ⟨_, rfl, by decide +kernel⟩,
    ⟨_, rfl, by decide +kernel⟩,
    ⟨_, rfl, by decide +kernel⟩,
    ⟨_, rfl, by decide +kernel⟩⟩

theorem witness_ResetsReturnEverything :
    (∃ s : State, s = State.reset ∧ s.ramped = true) ∧
    (∃ s : State, s = State.reset ∧ s.pwr.coreOn = true ∧
      s.aclkRuns = true) ∧
    (∃ s : State, s = State.reset ∧ s.pwr.phase ≠ PwrPhase.asleep ∧
      s.aclkRuns = true) :=
  ⟨⟨_, rfl, by decide +kernel⟩,
    ⟨_, rfl, by decide +kernel⟩,
    ⟨_, rfl, by decide +kernel⟩⟩

theorem witness_ClockEventsAct :
    (∃ s : State, s = W.run ∧ s.reaches pgCLK = true ∧
      isHost Requester.cc3 = false ∧
      (true = true → s.counted.sts pgCLK Clk.S_ROOT_LOCK = 1)) ∧
    (∃ s : State, s = State.reset ∧ s.reaches pgCLK = true ∧
      isHost Requester.cc0 = false ∧
      (false = true → s.counted.sts pgCLK Clk.S_ROOT_LOCK = 1)) ∧
    (∃ s : State, s = State.reset ∧ s.reaches pgCLK = true ∧
      isHost Requester.spi = true) ∧
    (∃ s : State, s = State.reset ∧ s.aclkRuns = true ∧
      s.startStep ≠ 5) ∧
    (∃ s : State, s = W.run ∧ s.aclkRuns = true ∧
      s.sts pgCLK Clk.S_ROOT_LOCK = 1) ∧
    (∃ s : State, s = State.reset ∧ s.aclkRuns = true) ∧
    (∃ s : State, s = W.run ∧ s.aclkRuns = true) :=
  ⟨⟨_, rfl, by decide +kernel⟩,
    ⟨_, rfl, by decide +kernel⟩,
    ⟨_, rfl, by decide +kernel⟩,
    ⟨_, rfl, by decide +kernel⟩,
    ⟨_, rfl, by decide +kernel⟩,
    ⟨_, rfl, by decide +kernel⟩,
    ⟨_, rfl, by decide +kernel⟩⟩

theorem witness_TimelineCommandsAct :
    (∃ s : State, s = State.reset ∧ s.aclkRuns = true) ∧
    (∃ s : State, s = State.reset.setNat pgTLN Tln.SET_NS 999999999 ∧ s.reaches pgTLN = true ∧
      s.counted.fld pgTLN Tln.SET_NS (29, 0) ≤ 999999999 ∧
      s.counted.allStopped = true) ∧
    (∃ s : State, s = W.enable State.reset (pgSWT 15) ∧ s.reaches pgTLN = true ∧
      s.counted.fld pgTLN Tln.SET_NS (29, 0) ≤ 999999999 ∧
      s.counted.allStopped = false) ∧
    (∃ s : State, s = State.reset.setNat pgTLN Tln.SLEW_OFFSET 4294967295 ∧ s.reaches pgTLN = true ∧
      s.counted.tlSrc = 0) ∧
    (∃ s : State, s = State.reset.setFld pgTLN Tln.TL_MODE Tln.SRC 1 ∧ s.reaches pgTLN = true ∧
      s.counted.tlSrc ≠ 0) ∧
    (∃ s : State, s = State.reset.setSts pgTLN Tln.S_SLEWING 1 ∧ s.reaches pgTLN = true ∧
      s.counted.slewing = true) ∧
    (∃ s : State, s = W.slewing (2 ^ 48) (W.run.setNat pgTLN Tln.SLEW_MAX 1000000000) ∧ s.slewing = true ∧
      s.timeRuns = true ∧
      s.slewDelta ≠ 0 ∧
      s.tln.slewLeft ≠ 0) ∧
    (∃ s : State, s = ((W.enable W.run pgTLN).setSts pgTLN Tln.S_TL_STATE 1).setFld pgTLN Tln.TL_MODE Tln.SRC 1 ∧ s.tlnOn = true ∧
      s.tlSrc ≠ 0 ∧
      (s.tlState = 1 ∨ s.tlState = 2) ∧
      s.tln.voidAt ≠ some s.tln.now) ∧
    (∃ s : State, s = W.voided (((W.enable W.run pgTLN).setSts pgTLN Tln.S_TL_STATE 1).setFld pgTLN Tln.TL_MODE Tln.SRC 1) ∧ s.tlnOn = true ∧
      s.tlSrc ≠ 0 ∧
      (s.tlState = 1 ∨ s.tlState = 2) ∧
      s.tln.voidAt = some s.tln.now) ∧
    (∃ s : State, s = W.holding 10001 W.run ∧ s.tlState = 3 ∧
      s.tln.holdDone = false ∧
      s.tln.uncertBase ≠ UNC_UNKNOWN ∧
      s.nat pgTLN Tln.HOLD_LIMIT < s.tln.uncertBase) :=
  ⟨⟨_, rfl, by decide +kernel⟩,
    ⟨_, rfl, by decide +kernel⟩,
    ⟨_, rfl, by decide +kernel⟩,
    ⟨_, rfl, by decide +kernel⟩,
    ⟨_, rfl, by decide +kernel⟩,
    ⟨_, rfl, by decide +kernel⟩,
    ⟨_, rfl, by decide +kernel⟩,
    ⟨_, rfl, by decide +kernel⟩,
    ⟨_, rfl, by decide +kernel⟩,
    ⟨_, rfl, by decide +kernel⟩⟩

theorem witness_SyncEventsAct :
    (∃ s : State, s = W.syn State.reset ∧ synIsOut 4 = false ∧
      s.ioState 4 ≠ 0 ∧
      s.enabled (pgSYN 4) = true ∧
      s.synForm 4 false = true ∧
      -((Int.ofNat (s.nat (pgSYN 4) SynIn.WINDOW)) * 1280) ≤ ↑s.capture - s.alignAt 4 (s.alignNear 4 s.capture) ∧
      ↑s.capture - s.alignAt 4 (s.alignNear 4 s.capture) ≤ (Int.ofNat (s.nat (pgSYN 4) SynIn.WINDOW)) * 1280 ∧
      (s.synAt 4).lastHit ≠ some (s.alignNear 4 s.capture) ∧
      (4 = 0 → 0 = s.fld (pgSYN 4) SynIn.LINES (11, 0)) ∧
      (s.synAt 4).decim + 1 < s.fld (pgSYN 4) SynIn.DECIM (15, 0)) ∧
    (∃ s : State, s = W.at 101 (W.syn W.run) ∧ synIsOut 4 = false ∧
      s.ioState 4 ≠ 0 ∧
      s.enabled (pgSYN 4) = true ∧
      s.synForm 4 false = true ∧
      ((Int.ofNat (s.nat (pgSYN 4) SynIn.WINDOW)) * 1280 < ↑s.capture - s.alignAt 4 (s.alignNear 4 s.capture) ∨ ↑s.capture - s.alignAt 4 (s.alignNear 4 s.capture) < -((Int.ofNat (s.nat (pgSYN 4) SynIn.WINDOW)) * 1280))) ∧
    (∃ s a : State, s = W.syn W.run ∧ s.reach (timeOfUnits (s.alignAt 4 (if (s.synAt 4).lastHit = some (s.alignNear 4 (Int.ofNat (unitsOf s.tln.now))) ∨ (s.synAt 4).lastMiss = some (s.alignNear 4 (Int.ofNat (unitsOf s.tln.now))) then s.alignNear 4 (Int.ofNat (unitsOf s.tln.now)) + 1 else s.alignNear 4 (Int.ofNat (unitsOf s.tln.now))) + (Int.ofNat (s.nat (pgSYN 4) SynIn.WINDOW)) * 1280).ceil.toNat) = some a ∧ synIsOut 4 = false ∧
      s.ioState 4 ≠ 0 ∧
      s.enabled (pgSYN 4) = true) ∧
    (∃ s a : State, s = (W.run.setFld pgTLN Tln.UTC_CTRL Tln.LEAP 2).setNat pgTLN Tln.LEAP_AT_S_LO 1 ∧ s.reach s.leapAt = some a ∧ s.leapArmed = true) ∧
    (∃ s a : State, s = (W.enable W.run (pgSYN 5)).setFld (pgSYN 5) SynOut.OUT_MODE SynOut.GATE 0 ∧ s.reach (timeOfGrid (s.ppsRise (s.synNext 5 s.ppsRise (((Int.ofNat (unitsOf s.tln.now)) - s.synOffset 5) / (Int.ofNat (SEC * LU)) - 1) 4))) = some a ∧ s.synOutOn 5 = true ∧
      a.synGate 5 = true) ∧
    (∃ s a : State, s = W.enable W.run (pgSYN 5) ∧ s.reach (timeOfGrid (s.ppsRise (s.synNext 5 s.ppsRise (((Int.ofNat (unitsOf s.tln.now)) - s.synOffset 5) / (Int.ofNat (SEC * LU)) - 1) 4))) = some a ∧ s.synOutOn 5 = true ∧
      a.synGate 5 = false) ∧
    (∃ s a : State, s = (W.enable W.run (pgSYN 3)).setFld (pgSYN 3) SynOut.OUT_MODE SynOut.GATE 0 ∧ s.reach (timeOfGrid (s.ltcRise (s.synNext 3 s.ltcRise ((((Int.ofNat (unitsOf s.tln.now)) - s.synOffset 3 : Int) : Rat) / s.ltcPeriod - 1).floor 4))) = some a ∧ s.synOutOn 3 = true ∧
      a.synGate 3 = true) ∧
    (∃ s : State, s = W.launch keyFrameOut { swath := 2, start := 1280, at_ := 1280, frame := 1, repeated := false, count := 0, choice := none } ((((W.enable W.run (pgSYN 7)).setFld (pgSYN 7) SynOut.OUT_MODE SynOut.GATE 0).setFld (pgSYN 7) SynOut.SWATH (3, 0) 2).setSts (pgSWT 2) Swt.S_SWATH_STATE 1) ∧ earliest (W.launch keyFrameOut (Launch.mk 2 1280 1280 1 false 0 none) ((((W.enable W.run (pgSYN 7)).setFld (pgSYN 7) SynOut.OUT_MODE SynOut.GATE 0).setFld (pgSYN 7) SynOut.SWATH (3, 0) 2).setSts (pgSWT 2) Swt.S_SWATH_STATE 1)).frameOutDue = some (Launch.mk 2 1280 1280 1 false 0 none) ∧
      (W.launch keyFrameOut (Launch.mk 2 1280 1280 1 false 0 none) ((((W.enable W.run (pgSYN 7)).setFld (pgSYN 7) SynOut.OUT_MODE SynOut.GATE 0).setFld (pgSYN 7) SynOut.SWATH (3, 0) 2).setSts (pgSWT 2) Swt.S_SWATH_STATE 1)).reach (timeOfUnits (Launch.mk 2 1280 1280 1 false 0 none).at_) = some (((W.launch keyFrameOut (Launch.mk 2 1280 1280 1 false 0 none) ((((W.enable W.run (pgSYN 7)).setFld (pgSYN 7) SynOut.OUT_MODE SynOut.GATE 0).setFld (pgSYN 7) SynOut.SWATH (3, 0) 2).setSts (pgSWT 2) Swt.S_SWATH_STATE 1)).reach (timeOfUnits (Launch.mk 2 1280 1280 1 false 0 none).at_)).getD (W.launch keyFrameOut (Launch.mk 2 1280 1280 1 false 0 none) ((((W.enable W.run (pgSYN 7)).setFld (pgSYN 7) SynOut.OUT_MODE SynOut.GATE 0).setFld (pgSYN 7) SynOut.SWATH (3, 0) 2).setSts (pgSWT 2) Swt.S_SWATH_STATE 1))) ∧
      (((W.launch keyFrameOut (Launch.mk 2 1280 1280 1 false 0 none) ((((W.enable W.run (pgSYN 7)).setFld (pgSYN 7) SynOut.OUT_MODE SynOut.GATE 0).setFld (pgSYN 7) SynOut.SWATH (3, 0) 2).setSts (pgSWT 2) Swt.S_SWATH_STATE 1)).reach (timeOfUnits (Launch.mk 2 1280 1280 1 false 0 none).at_)).getD (W.launch keyFrameOut (Launch.mk 2 1280 1280 1 false 0 none) ((((W.enable W.run (pgSYN 7)).setFld (pgSYN 7) SynOut.OUT_MODE SynOut.GATE 0).setFld (pgSYN 7) SynOut.SWATH (3, 0) 2).setSts (pgSWT 2) Swt.S_SWATH_STATE 1))).synOutOn 7 = true ∧
      ((((W.launch keyFrameOut (Launch.mk 2 1280 1280 1 false 0 none) ((((W.enable W.run (pgSYN 7)).setFld (pgSYN 7) SynOut.OUT_MODE SynOut.GATE 0).setFld (pgSYN 7) SynOut.SWATH (3, 0) 2).setSts (pgSWT 2) Swt.S_SWATH_STATE 1)).reach (timeOfUnits (Launch.mk 2 1280 1280 1 false 0 none).at_)).getD (W.launch keyFrameOut (Launch.mk 2 1280 1280 1 false 0 none) ((((W.enable W.run (pgSYN 7)).setFld (pgSYN 7) SynOut.OUT_MODE SynOut.GATE 0).setFld (pgSYN 7) SynOut.SWATH (3, 0) 2).setSts (pgSWT 2) Swt.S_SWATH_STATE 1))).swathState (Launch.mk 2 1280 1280 1 false 0 none).swath = 1 ∨ (((W.launch keyFrameOut (Launch.mk 2 1280 1280 1 false 0 none) ((((W.enable W.run (pgSYN 7)).setFld (pgSYN 7) SynOut.OUT_MODE SynOut.GATE 0).setFld (pgSYN 7) SynOut.SWATH (3, 0) 2).setSts (pgSWT 2) Swt.S_SWATH_STATE 1)).reach (timeOfUnits (Launch.mk 2 1280 1280 1 false 0 none).at_)).getD (W.launch keyFrameOut (Launch.mk 2 1280 1280 1 false 0 none) ((((W.enable W.run (pgSYN 7)).setFld (pgSYN 7) SynOut.OUT_MODE SynOut.GATE 0).setFld (pgSYN 7) SynOut.SWATH (3, 0) 2).setSts (pgSWT 2) Swt.S_SWATH_STATE 1))).swathState (Launch.mk 2 1280 1280 1 false 0 none).swath = 2) ∧
      (((W.launch keyFrameOut (Launch.mk 2 1280 1280 1 false 0 none) ((((W.enable W.run (pgSYN 7)).setFld (pgSYN 7) SynOut.OUT_MODE SynOut.GATE 0).setFld (pgSYN 7) SynOut.SWATH (3, 0) 2).setSts (pgSWT 2) Swt.S_SWATH_STATE 1)).reach (timeOfUnits (Launch.mk 2 1280 1280 1 false 0 none).at_)).getD (W.launch keyFrameOut (Launch.mk 2 1280 1280 1 false 0 none) ((((W.enable W.run (pgSYN 7)).setFld (pgSYN 7) SynOut.OUT_MODE SynOut.GATE 0).setFld (pgSYN 7) SynOut.SWATH (3, 0) 2).setSts (pgSWT 2) Swt.S_SWATH_STATE 1))).synGate 7 = true) :=
  ⟨⟨_, rfl, by decide +kernel⟩,
    ⟨_, rfl, by decide +kernel⟩,
    ⟨_, _, rfl, W.ofSome _ (by decide +kernel), by decide +kernel⟩,
    ⟨_, _, rfl, W.ofSome _ (by decide +kernel), by decide +kernel⟩,
    ⟨_, _, rfl, W.ofSome _ (by decide +kernel), by decide +kernel⟩,
    ⟨_, _, rfl, W.ofSome _ (by decide +kernel), by decide +kernel⟩,
    ⟨_, _, rfl, W.ofSome _ (by decide +kernel), by decide +kernel⟩,
    ⟨_, rfl, by decide +kernel⟩⟩

theorem witness_JobRegistersAct :
    (∃ s : State, s = State.reset ∧ s.accepts Requester.cc0 (pgJSC 3) (Jsc.SUB_D 6) = true) ∧
    (∃ s : State, s = State.reset ∧ s.accepts Requester.cc0 (pgJSC 0) (Jsc.SUB_D 7) = true ∧
      (((s.told Requester.cc0 (pgJSC 0) (Jsc.SUB_D 7) 0).stageWord Requester.cc0 0 7 0).submit 0 (List.map (fun k => Tab.get (fun x => 0) (((s.told Requester.cc0 (pgJSC 0) (Jsc.SUB_D 7) 0).stageWord Requester.cc0 0 7 0).regionOf 0).staging (8 * reqCode Requester.cc0 + k)) (List.range 8)) (if isHost Requester.cc0 = true then JobSource.host else JobSource.core) ((s.told Requester.cc0 (pgJSC 0) (Jsc.SUB_D 7) 0).stageWord Requester.cc0 0 7 0).mergeEpoch).snd = true) ∧
    (∃ s : State, s = W.full (W.after (Instr.subDStage Requester.cc0 0 0 2) State.reset) ∧ s.accepts Requester.cc0 (pgJSC 0) (Jsc.SUB_D 7) = true ∧
      (((s.told Requester.cc0 (pgJSC 0) (Jsc.SUB_D 7) 0).stageWord Requester.cc0 0 7 0).submit 0 (List.map (fun k => Tab.get (fun x => 0) (((s.told Requester.cc0 (pgJSC 0) (Jsc.SUB_D 7) 0).stageWord Requester.cc0 0 7 0).regionOf 0).staging (8 * reqCode Requester.cc0 + k)) (List.range 8)) (if isHost Requester.cc0 = true then JobSource.host else JobSource.core) ((s.told Requester.cc0 (pgJSC 0) (Jsc.SUB_D 7) 0).stageWord Requester.cc0 0 7 0).mergeEpoch).snd = false) ∧
    (∃ s : State, s = W.after (Instr.subDStage Requester.cc0 0 0 2) State.reset ∧ s.accepts Requester.cc0 (pgJSC 0) (Jsc.SUB_D 7) = true ∧
      ((s.told Requester.cc0 (pgJSC 0) (Jsc.SUB_D 7) 0).stageWord Requester.cc0 0 7 0).descBad 0 (List.map (fun k => Tab.get (fun x => 0) (((s.told Requester.cc0 (pgJSC 0) (Jsc.SUB_D 7) 0).stageWord Requester.cc0 0 7 0).regionOf 0).staging (8 * reqCode Requester.cc0 + k)) (List.range 8)) (if isHost Requester.cc0 = true then JobSource.host else JobSource.core) = false ∧
      targetRegion 0 (List.map (fun k => Tab.get (fun x => 0) (((s.told Requester.cc0 (pgJSC 0) (Jsc.SUB_D 7) 0).stageWord Requester.cc0 0 7 0).regionOf 0).staging (8 * reqCode Requester.cc0 + k)) (List.range 8)) = 0 ∧
      bit ((List.map (fun k => Tab.get (fun x => 0) (((s.told Requester.cc0 (pgJSC 0) (Jsc.SUB_D 7) 0).stageWord Requester.cc0 0 7 0).regionOf 0).staging (8 * reqCode Requester.cc0 + k)) (List.range 8)).getD 0 0) 4 = false ∧
      (((s.told Requester.cc0 (pgJSC 0) (Jsc.SUB_D 7) 0).stageWord Requester.cc0 0 7 0).regionOf 0).spill = [] ∧
      (((s.told Requester.cc0 (pgJSC 0) (Jsc.SUB_D 7) 0).stageWord Requester.cc0 0 7 0).regionOf 0).storeLevel < 2048) ∧
    (∃ s : State, s = State.reset.setFld (pgJSC 3) Jsc.CTR_SEL (11, 0) 4095 ∧ s.accepts Requester.cc0 (pgJSC 3) Jsc.CTR_VALUE = true ∧
      (s.told Requester.cc0 (pgJSC 3) Jsc.CTR_VALUE 65535).ctrSel 3 ≠ 0 ∧
      bits 65535 (15, 0) ≠ 0) ∧
    (∃ s : State, s = (State.reset.setFld (pgJSC 3) Jsc.CTR_SEL (11, 0) 4095).putCtr 3 4095 2 ∧ s.accepts Requester.cc0 (pgJSC 3) Jsc.CTR_SIGNAL = true ∧
      (s.told Requester.cc0 (pgJSC 3) Jsc.CTR_SIGNAL 1).ctrSel 3 ≠ 0 ∧
      bits 1 (15, 0) < (s.told Requester.cc0 (pgJSC 3) Jsc.CTR_SIGNAL 1).ctrOf 3 ((s.told Requester.cc0 (pgJSC 3) Jsc.CTR_SIGNAL 1).ctrSel 3)) ∧
    (∃ s : State, s = (State.reset.setFld (pgJSC 3) Jsc.CTR_SEL (11, 0) 4095).putCtr 3 4095 2 ∧ s.accepts Requester.cc0 (pgJSC 3) Jsc.CTR_SIGNAL = true ∧
      (s.told Requester.cc0 (pgJSC 3) Jsc.CTR_SIGNAL 3).ctrSel 3 ≠ 0 ∧
      (s.told Requester.cc0 (pgJSC 3) Jsc.CTR_SIGNAL 3).ctrOf 3 ((s.told Requester.cc0 (pgJSC 3) Jsc.CTR_SIGNAL 3).ctrSel 3) < bits 3 (15, 0)) ∧
    (∃ s : State, s = State.reset.setFld (pgJSC 3) Jsc.DOM_SEL (9, 0) 1023 ∧ s.accepts Requester.cc0 (pgJSC 3) Jsc.DOM_HEAD_SET = true ∧
      ((s.told Requester.cc0 (pgJSC 3) Jsc.DOM_HEAD_SET 65535).regionOf 3).jobs = []) ∧
    (∃ s : State, s = W.has JobPhase.dispatched 120 [18, 0, 0, 0, 0, 0, 0, 0] State.reset ∧ s.accepts Requester.cc0 (pgJSC 0) Jsc.DOM_HEAD_SET = true ∧
      (((s.told Requester.cc0 (pgJSC 0) Jsc.DOM_HEAD_SET 5).regionOf 0).jobs.any fun j => j.ordered && j.domain == 1024 * 0 + (s.told Requester.cc0 (pgJSC 0) Jsc.DOM_HEAD_SET 5).fld (pgJSC 0) Jsc.DOM_SEL (9, 0) && j.inFlight) = true) ∧
    (∃ s : State, s = State.reset.setReg (pgJSC 0) (Jsc.LIST_CTRL 7) 1 ∧ s.accepts Requester.cc0 (pgJSC 0 + 1) (Jsc.LIST_GO 7 - 4096) = true ∧
      bit ((s.told Requester.cc0 (pgJSC 0 + 1) (Jsc.LIST_GO 7 - 4096) 1).reg (pgJSC 0) (Jsc.LIST_CTRL 7)) 0 = true ∧
      bit ((s.told Requester.cc0 (pgJSC 0 + 1) (Jsc.LIST_GO 7 - 4096) 1).reg (pgJSC 0) (Jsc.LIST_CTRL 7)) 1 = false ∧
      ((s.told Requester.cc0 (pgJSC 0 + 1) (Jsc.LIST_GO 7 - 4096) 1).listRun 0 7).reading = false) ∧
    (∃ s : State, s = State.reset ∧ s.accepts Requester.cc0 (pgJSC 0 + 1) (Jsc.LIST_GO 7 - 4096) = true ∧
      bit ((s.told Requester.cc0 (pgJSC 0 + 1) (Jsc.LIST_GO 7 - 4096) 1).reg (pgJSC 0) (Jsc.LIST_CTRL 7)) 0 = false) ∧
    (∃ s : State, s = W.thread 2 0 [] State.reset ∧ s.accepts Requester.cc0 (pgJSC 0) Jsc.THR_END = true ∧
      isHost Requester.cc0 = false ∧
      3 < 256 ∧
      3 / 64 = 0 ∧
      ((s.told Requester.cc0 (pgJSC 0) Jsc.THR_END 3#32).thread 3).st = 2 ∧
      ((s.told Requester.cc0 (pgJSC 0) Jsc.THR_END 3#32).thread 3).waiting = []) ∧
    (∃ s : State, s = W.thread 2 0 [5] State.reset ∧ s.accepts Requester.cc0 (pgJSC 0) Jsc.THR_END = true ∧
      isHost Requester.cc0 = false ∧
      3 < 256 ∧
      3 / 64 = 0 ∧
      ((s.told Requester.cc0 (pgJSC 0) Jsc.THR_END 3#32).thread 3).st = 2 ∧
      ((s.told Requester.cc0 (pgJSC 0) Jsc.THR_END 3#32).thread 3).waiting = [5]) :=
  ⟨⟨_, rfl, by decide +kernel⟩,
    ⟨_, rfl, by decide +kernel⟩,
    ⟨_, rfl, by decide +kernel⟩,
    ⟨_, rfl, by decide +kernel⟩,
    ⟨_, rfl, by decide +kernel⟩,
    ⟨_, rfl, by decide +kernel⟩,
    ⟨_, rfl, by decide +kernel⟩,
    ⟨_, rfl, by decide +kernel⟩,
    ⟨_, rfl, by decide +kernel⟩,
    ⟨_, rfl, by decide +kernel⟩,
    ⟨_, rfl, by decide +kernel⟩,
    ⟨_, rfl, by decide +kernel⟩,
    ⟨_, rfl, by decide +kernel⟩⟩

theorem witness_JobEventsAct :
    (∃ s : State, s = W.listing State.reset ∧ s.listTurn 0 0 = true ∧
      (s.submit 0 (s.listDesc 0 0 (s.listRun 0 0).next (s.listRun 0 0).frame) (JobSource.list (s.fld (pgJSC 0) (Jsc.LIST_CTRL 0) (11, 8)) (s.listRun 0 0).frame (s.listRun 0 0).auto) (s.listRun 0 0).epoch).snd = true) ∧
    (∃ s : State, s = W.full (W.listing State.reset) ∧ s.listTurn 0 0 = true ∧
      (s.submit 0 (s.listDesc 0 0 (s.listRun 0 0).next (s.listRun 0 0).frame) (JobSource.list (s.fld (pgJSC 0) (Jsc.LIST_CTRL 0) (11, 8)) (s.listRun 0 0).frame (s.listRun 0 0).auto) (s.listRun 0 0).epoch).snd = false) ∧
    (∃ s : State, s = W.has JobPhase.ready 127 [5, 0, 0, 0, 3, 0, 0, 0] State.reset ∧ s.regionStopped 0 = false ∧
      s.pwrState = 0 ∧
      (s.regionOf 0).inFlight < 64 ∧
      s.pickJob 0 (s.readyQueue 0 3) = some (W.job JobPhase.ready 127 [5, 0, 0, 0, 3, 0, 0, 0], 122) ∧
      (¬((W.job JobPhase.ready 127 [5, 0, 0, 0, 3, 0, 0, 0]).type = 3 ∧ s.pageState (fillPage (W.job JobPhase.ready 127 [5, 0, 0, 0, 3, 0, 0, 0]).fillClass (W.job JobPhase.ready 127 [5, 0, 0, 0, 3, 0, 0, 0]).fillUnit) = 3))) ∧
    (∃ s a : State, s = W.has JobPhase.dispatched 0 [1, 0, 0, 0, 0, 1, 0, 0] W.run ∧ a = W.finished.fst ∧ s.runningJob 0 0 = some (W.job JobPhase.dispatched 0 [1, 0, 0, 0, 0, 1, 0, 0]) ∧
      0 < 32 ∧
      s.engineRuns = true ∧
      s.pluFinish 0 (W.job JobPhase.dispatched 0 [1, 0, 0, 0, 0, 1, 0, 0]) = some (a, W.finished.snd)) ∧
    (∃ s : State, s = W.has JobPhase.dispatched 0 [1, 0, 0, 0, 0, 1, 0, 0] State.reset ∧ s.runningJob 0 0 = some (W.job JobPhase.dispatched 0 [1, 0, 0, 0, 0, 1, 0, 0]) ∧
      (0 < 32 ∨ (W.job JobPhase.dispatched 0 [1, 0, 0, 0, 0, 1, 0, 0]).type = 3) ∧
      s.engineRuns = false) ∧
    (∃ s : State, s = W.has JobPhase.dispatched 122 [21, 1, 0, 0, 3, 0, 0, 0] State.reset ∧ s.runningJob 0 122 = some (W.job JobPhase.dispatched 122 [21, 1, 0, 0, 3, 0, 0, 0]) ∧
      32 ≤ 122 ∧
      ((W.job JobPhase.dispatched 122 [21, 1, 0, 0, 3, 0, 0, 0]).type = 4 ∨ (W.job JobPhase.dispatched 122 [21, 1, 0, 0, 3, 0, 0, 0]).type = 5) ∧
      (W.job JobPhase.dispatched 122 [21, 1, 0, 0, 3, 0, 0, 0]).ordered = true ∧
      s.windowPos (W.job JobPhase.dispatched 122 [21, 1, 0, 0, 3, 0, 0, 0]) ≠ 0) ∧
    (∃ s : State, s = W.has JobPhase.completed 122 [21, 0, 0, 0, 3, 0, 0, 0] State.reset ∧ List.find? (fun j => j.phase == JobPhase.completed && j.ordered && j.domain == 0 && s.windowPos j == 0) (s.regionOf 0).jobs = some (W.job JobPhase.completed 122 [21, 0, 0, 0, 3, 0, 0, 0])) ∧
    (∃ s : State, s = (W.has JobPhase.dispatched 121 [4, 0, 0, 0, 0, 0, 0, 0] State.reset).setNat (pgJSC 0) Jsc.JOB_TIMEOUT 1 ∧ (s.runningJob 0 121).isSome = true ∧
      s.nat (pgJSC 0) Jsc.JOB_TIMEOUT ≠ 0 ∧
      executorPage 121 = some pgING) ∧
    (∃ s : State, s = (W.has JobPhase.dispatched 122 [5, 0, 0, 0, 3, 0, 0, 0] State.reset).setNat (pgJSC 0) Jsc.JOB_TIMEOUT 1 ∧ (s.runningJob 0 122).isSome = true ∧
      s.nat (pgJSC 0) Jsc.JOB_TIMEOUT ≠ 0 ∧
      executorPage 122 = none) ∧
    (∃ s : State, s = (W.has JobPhase.completed 122 [21, 1, 0, 0, 3, 0, 0, 0] State.reset).setFlag (pgJSC 0) Jsc.JSC_CTRL 1 true ∧ s.flag (pgJSC 0) Jsc.JSC_CTRL 1 = true ∧
      0 / 1024 = 0 ∧
      ((s.regionOf 0).jobs.any fun j => j.phase == JobPhase.completed && j.ordered && j.domain == 0) = true ∧
      (s.domainOf 0).stalled = false) ∧
    (∃ s : State, s = W.region (fun r => { jobs := r.jobs, spill := r.spill, spillAt := r.spillAt, ctr := [(4095, 2)], signals := [4095], dom := r.dom, lists := r.lists, staging := r.staging, threads := r.threads, held := r.held, stamp := r.stamp, back := r.back }) State.reset ∧ 4095 ∈ ((W.region (fun r => RegionState.mk r.jobs r.spill r.spillAt [(4095, 2)] [4095] r.dom r.lists r.staging r.threads r.held r.stamp r.back) State.reset).regionOf 0).signals ∧
      4095 ≠ 0 ∧
      1 < (W.region (fun r => RegionState.mk r.jobs r.spill r.spillAt [(4095, 2)] [4095] r.dom r.lists r.staging r.threads r.held r.stamp r.back) State.reset).ctrOf 0 4095) ∧
    (∃ s : State, s = W.region (fun r => { jobs := r.jobs, spill := [{ slot := 0, source := JobSource.host, trace := none, id := 3, epoch := 0 }], spillAt := r.spillAt, ctr := r.ctr, signals := r.signals, dom := r.dom, lists := r.lists, staging := r.staging, threads := r.threads, held := r.held, stamp := r.stamp, back := r.back }) State.reset ∧ ((W.region (fun r => RegionState.mk r.jobs [Spilled.mk 0 JobSource.host none 3 0] r.spillAt r.ctr r.signals r.dom r.lists r.staging r.threads r.held r.stamp r.back) State.reset).regionOf 0).spill = [Spilled.mk 0 JobSource.host none 3 0] ∧
      ((W.region (fun r => RegionState.mk r.jobs [Spilled.mk 0 JobSource.host none 3 0] r.spillAt r.ctr r.signals r.dom r.lists r.staging r.threads r.held r.stamp r.back) State.reset).regionOf 0).storeLevel < 2048) ∧
    (∃ s : State, s = State.reset.setPlu 31 (let __src := PluState.init; { next := __src.next, run := __src.run, sums := __src.sums, faulted := __src.faulted, latCount := __src.latCount, latSum := __src.latSum, latDue := some 9, hasMean := __src.hasMean }) ∧ ((State.reset.setPlu 31 (let __src := PluState.init; PluState.mk __src.next __src.run __src.sums __src.faulted __src.latCount __src.latSum (some 9) __src.hasMean)).pluOf 31).latDue = some 9 ∧
      ((State.reset.setPlu 31 (let __src := PluState.init; PluState.mk __src.next __src.run __src.sums __src.faulted __src.latCount __src.latSum (some 9) __src.hasMean)).blockMeans (31 / 8)).length < 3) ∧
    (∃ s : State, s = ((State.reset.setPlu 0 (let __src := PluState.init; { next := __src.next, run := __src.run, sums := __src.sums, faulted := __src.faulted, latCount := __src.latCount, latSum := __src.latSum, latDue := some 9, hasMean := true })).setPlu 1 (let __src := PluState.init; { next := __src.next, run := __src.run, sums := __src.sums, faulted := __src.faulted, latCount := __src.latCount, latSum := __src.latSum, latDue := __src.latDue, hasMean := true })).setPlu 2 (let __src := PluState.init; { next := __src.next, run := __src.run, sums := __src.sums, faulted := __src.faulted, latCount := __src.latCount, latSum := __src.latSum, latDue := __src.latDue, hasMean := true }) ∧ ((((State.reset.setPlu 0 (let __src := PluState.init; PluState.mk __src.next __src.run __src.sums __src.faulted __src.latCount __src.latSum (some 9) true)).setPlu 1 (let __src := PluState.init; PluState.mk __src.next __src.run __src.sums __src.faulted __src.latCount __src.latSum __src.latDue true)).setPlu 2 (let __src := PluState.init; PluState.mk __src.next __src.run __src.sums __src.faulted __src.latCount __src.latSum __src.latDue true)).pluOf 0).latDue = some 9 ∧
      3 ≤ ((((State.reset.setPlu 0 (let __src := PluState.init; PluState.mk __src.next __src.run __src.sums __src.faulted __src.latCount __src.latSum (some 9) true)).setPlu 1 (let __src := PluState.init; PluState.mk __src.next __src.run __src.sums __src.faulted __src.latCount __src.latSum __src.latDue true)).setPlu 2 (let __src := PluState.init; PluState.mk __src.next __src.run __src.sums __src.faulted __src.latCount __src.latSum __src.latDue true)).blockMeans (0 / 8)).length) :=
  ⟨⟨_, rfl, by decide +kernel⟩,
    ⟨_, rfl, by decide +kernel⟩,
    ⟨_, rfl, by decide +kernel⟩,
    ⟨_, _, rfl, rfl, by decide +kernel⟩,
    ⟨_, rfl, by decide +kernel⟩,
    ⟨_, rfl, by decide +kernel⟩,
    ⟨_, rfl, by decide +kernel⟩,
    ⟨_, rfl, by decide +kernel⟩,
    ⟨_, rfl, by decide +kernel⟩,
    ⟨_, rfl, by decide +kernel⟩,
    ⟨_, rfl, by decide +kernel⟩,
    ⟨_, rfl, by decide +kernel⟩,
    ⟨_, rfl, by decide +kernel⟩,
    ⟨_, rfl, by decide +kernel⟩⟩

theorem witness_ThreadsArePlaced :
    (∃ s : State, s = (W.thread 1 0 [] (W.enable State.reset (pgCCR 0))).setReg (pgJSC 0) (thrOff Jsc.THR_CFG 3) 2147487488 ∧ List.find? (fun t => (s.coreFor t).isSome) s.readyThreads = some 3 ∧
      s.coreFor 3 = some 0) ∧
    (∃ s : State, s = State.reset ∧ List.find? (fun t => (s.coreFor t).isSome) s.readyThreads = none) ∧
    (∃ s : State, s = ((((W.enable State.reset (pgCCR 0)).setThread 4 { st := 2, core := 0, waiting := [], readyAt := 0 }).setThread 3 { st := 1, core := 0, waiting := [], readyAt := 0 }).setReg (pgJSC 0) (thrOff Jsc.THR_CFG 3) 2147487488).setNat (pgJSC 0) Jsc.QUANTUM 1 ∧ (((((W.enable State.reset (pgCCR 0)).setThread 4 (Thread.mk 2 0 [] 0)).setThread 3 (Thread.mk 1 0 [] 0)).setReg (pgJSC 0) (thrOff Jsc.THR_CFG 3) 2147487488).setNat (pgJSC 0) Jsc.QUANTUM 1).threadOn 0 = some 4 ∧
      (((((W.enable State.reset (pgCCR 0)).setThread 4 (Thread.mk 2 0 [] 0)).setThread 3 (Thread.mk 1 0 [] 0)).setReg (pgJSC 0) (thrOff Jsc.THR_CFG 3) 2147487488).setNat (pgJSC 0) Jsc.QUANTUM 1).nat (pgJSC (4 / 64)) Jsc.QUANTUM ≠ 0 ∧
      List.find? (fun t => (((((W.enable State.reset (pgCCR 0)).setThread 4 (Thread.mk 2 0 [] 0)).setThread 3 (Thread.mk 1 0 [] 0)).setReg (pgJSC 0) (thrOff Jsc.THR_CFG 3) 2147487488).setNat (pgJSC 0) Jsc.QUANTUM 1).thrPrio t == (((((W.enable State.reset (pgCCR 0)).setThread 4 (Thread.mk 2 0 [] 0)).setThread 3 (Thread.mk 1 0 [] 0)).setReg (pgJSC 0) (thrOff Jsc.THR_CFG 3) 2147487488).setNat (pgJSC 0) Jsc.QUANTUM 1).thrPrio 4 && (((((W.enable State.reset (pgCCR 0)).setThread 4 (Thread.mk 2 0 [] 0)).setThread 3 (Thread.mk 1 0 [] 0)).setReg (pgJSC 0) (thrOff Jsc.THR_CFG 3) 2147487488).setNat (pgJSC 0) Jsc.QUANTUM 1).thrAllows t 0) (((((W.enable State.reset (pgCCR 0)).setThread 4 (Thread.mk 2 0 [] 0)).setThread 3 (Thread.mk 1 0 [] 0)).setReg (pgJSC 0) (thrOff Jsc.THR_CFG 3) 2147487488).setNat (pgJSC 0) Jsc.QUANTUM 1).readyThreads = some 3) :=
  ⟨⟨_, rfl, by decide +kernel⟩,
    ⟨_, rfl, by decide +kernel⟩,
    ⟨_, rfl, by decide +kernel⟩⟩

/-- PLU 0 executes the word of an opcode with LANES and FUNC, at the run `r` of a pixel. -/
def W.executes (r : PixelRun) (p : Nat × Nat × Nat) : Prop :=
  (W.plu (some r) (W.word p.1 p.2.1 p.2.2)).Executes 0 (splitWord (W.word p.1 p.2.1 p.2.2)) (W.tile 0) W.snap r ∧
    (splitWord (W.word p.1 p.2.1 p.2.2)).op = p.1

/-- The same as a check. -/
def W.executed (r : PixelRun) (p : Nat × Nat × Nat) : Bool :=
  let s := W.plu (some r) (W.word p.1 p.2.1 p.2.2)
  let i := splitWord (W.word p.1 p.2.1 p.2.2)
  s.pluTile 0 == some (W.tile 0, W.snap) && (s.pluOf 0).run == some r
    && (match s.pluFetch 0 W.snap r r.blk.isSome with | .ok x => x == i | .error _ => false)
    && r.vr.length == 64 && r.sr.length == 8 && r.pr.length == 16 && i.op == p.1

theorem W.executes_of (r : PixelRun) (p : Nat × Nat × Nat) (h : W.executed r p = true) : W.executes r p := by
  unfold W.executed at h
  simp only [Bool.and_eq_true, beq_iff_eq] at h
  obtain ⟨⟨⟨⟨⟨⟨h1, h2⟩, h3⟩, h4⟩, h5⟩, h6⟩, h7⟩ := h
  refine ⟨⟨h1, h2, ?_, h4, h5, h6⟩, h7⟩
  cases hf : (W.plu (some r) (W.word p.1 p.2.1 p.2.2)).pluFetch (0 : Fin 32) W.snap r r.blk.isSome with
  | ok x => rw [show ((0 : Fin 32) : Nat) = 0 from rfl] at hf; rw [hf] at h3; rw [hf, beq_iff_eq.mp h3]
  | error k => rw [show ((0 : Fin 32) : Nat) = 0 from rfl] at hf; rw [hf] at h3; cases h3

theorem W.executes_all (r : PixelRun) (l : List (Nat × Nat × Nat)) (h : l.all (W.executed r) = true) :
    ∀ p ∈ l, W.executes r p := fun p hp => W.executes_of r p (List.all_eq_true.mp h p hp)

theorem witness_PixelsRun :
    (∃ s : State, s = W.plu none 0 ∧ s.pluTile 0 = some (W.tile 0, W.snap) ∧ (s.pluOf 0).run = none ∧
      (s.pluOf 0).next < (W.tile 0).arg 2 ∧ s.pixelTile W.snap ((W.tile 0).arg 1 + (s.pluOf 0).next) < W.snap.tileCount) ∧
    (∀ p ∈ [(0x01, 0, 0), (0x03, 0, 3)], W.executes W.pix p) ∧ repLayers W.snap 3 = [0, 1] ∧
    W.executes (W.inBlock [0, 1]) (0x04, 0, 0) ∧ W.executes (W.inBlock [0]) (0x04, 0, 0) ∧
    W.executes W.stored (0x02, 0, 0) ∧
    (∃ s : State, s = W.plu (some W.pix) 0 ∧ s.pluTile 0 = some (W.tile 0, W.snap) ∧ (s.pluOf 0).run = some W.pix ∧
      (match s.pluFetch 0 W.snap W.pix false with | .error k => k == 0 | .ok _ => false) = true) :=
  ⟨⟨_, rfl, by decide +kernel⟩, W.executes_all _ _ (by decide +kernel), by decide +kernel,
    W.executes_of _ _ (by decide +kernel), W.executes_of _ _ (by decide +kernel), W.executes_of _ _ (by decide +kernel),
    ⟨_, rfl, by decide +kernel⟩⟩

theorem witness_MovesAct : ∀ p ∈ [(0x05, 5, 0), (0x06, 5, 0), (0x07, 5, 0), (0x08, 5, 0), (0x09, 5, 0), (0x0A, 5, 0), (0x0B, 0, 0), (0x0C, 5, 0),
      (0x0D, 5, 0)], W.executes W.pix p :=
  W.executes_all _ _ (by decide +kernel)

theorem witness_ScalarsAct : ∀ p ∈ [(0x10, 0, 4294967295), (0x11, 0, 0), (0x12, 0, 0), (0x13, 0, 0), (0x14, 0, 0), (0x15, 0, 0), (0x16, 0, 0)],
      W.executes W.pix p :=
  W.executes_all _ _ (by decide +kernel)

theorem witness_LaneArithmeticActs : ∀ p ∈ [(0x20, 15, 0), (0x21, 15, 0), (0x22, 15, 0), (0x23, 15, 0), (0x24, 15, 0), (0x25, 15, 0), (0x26, 15, 0), (0x27,
      15, 0), (0x28, 15, 15), (0x29, 15, 15), (0x2A, 15, 0), (0x1C, 15, 0)], W.executes W.pix p :=
  W.executes_all _ _ (by decide +kernel)

theorem witness_PixelStagesAct : ∀ p ∈ [(0x18, 15, 0), (0x30, 15, 0), (0x31, 15, 0), (0x32, 15, 7), (0x33, 15, 0), (0x34, 15, 0), (0x35, 0, 0)],
      W.executes W.pix p :=
  W.executes_all _ _ (by decide +kernel)

/-- A Loram packet of UDP port 5000 and stream 7. -/
def W.loram : List Byte :=
  List.replicate 12 0 ++ beBytes 2 0x0800 ++ [0x45] ++ List.replicate 8 0 ++ [17] ++ List.replicate 10 0
    ++ [0, 0] ++ beBytes 2 5000 ++ beBytes 2 28 ++ [0, 0] ++ beBytes 2 0x4C52 ++ [0, 0] ++ beBytes 2 7 ++ List.replicate 14 0

/-- Its UDP header. -/
def W.udp : Udp := (parseUdp W.loram).getD ⟨false, 0, 0, 0, 0, 0, 0⟩

/-- The packet waits in the ingest queue of MAC 0, and stream 0 takes it into buffer 5. -/
def W.ingest (s : State) : State :=
  { ((s.setReg pgING (Ing.ING_MODE 0) 3).setNat pgING (Ing.ING_PORT 0) (7 * 2 ^ 16 + 5000)) with
    queues := [(queueKey 2 0, { Queue.empty with words := [⟨W.loram, W.loram.length, true, true⟩], committed := 1 })]
    ing := [(0, ⟨true, 0, false, 5, none, false, [], 0, none⟩)] }

/-- The buffer is still scanned. -/
def W.scanned (s : State) : State :=
  { (W.region (fun r => { r with jobs := [W.job .waiting 127 [0, 0, 0, 0, 0, 0, 4, 0]] }) s) with
    snaps := [(0, [{ W.snap with layers := [⟨0, some 5, 0, 0, 1, 1, 0, 0, 0⟩] }])]
    mac := [(0, { MacState.init with stall := some 5 })] }

theorem witness_ProgramsAndStoresTakeWrites :
    (∃ s : State, s = State.reset ∧ s.accepts Requester.cc0 (pgCMP 3 + 1) (Cmp.PROG_DATA_LO - 4096) = true) ∧
    (∃ s : State, s = State.reset.setNat (pgCMP 3) Cmp.PROG_ADDR (2 ^ 30 + 8191) ∧ s.accepts Requester.cc1 (pgCMP 3 + 1) (Cmp.PROG_DATA_HI - 4096) = true) ∧
    (∃ s : State, s = State.reset ∧ s.aclkRuns = true ∧
      8589934592 - 2 + [1, 2].length ≤ 8589934592) ∧
    (∃ s : State, s = W.ingest State.reset ∧ s.headPacket 2 0 = some W.loram ∧
      s.ingStream 0 W.loram = some 0 ∧
      parseUdp W.loram = some W.udp ∧
      s.ingStalls 0 (udpPayload W.loram W.udp) = none ∧
      (s.queue 2 0).committed = 0 + 1) ∧
    (∃ s : State, s = W.scanned (W.ingest State.reset) ∧ s.headPacket 2 0 = some W.loram ∧
      s.ingStream 0 W.loram = some 0 ∧
      parseUdp W.loram = some W.udp ∧
      s.ingStalls 0 (udpPayload W.loram W.udp) = some 5 ∧
      (s.macOf 0).stall = some 5) :=
  ⟨⟨_, rfl, by decide +kernel⟩,
    ⟨_, rfl, by decide +kernel⟩,
    ⟨_, rfl, by decide +kernel⟩,
    ⟨_, rfl, by decide +kernel⟩,
    ⟨_, rfl, by decide +kernel⟩⟩

/-- Swath 0 is enabled, in a state, with frames and fixed starts. -/
def W.sw (st : Nat) (frames : List Released) (fixed : List FixedStart) (s : State) : State :=
  ((W.enable s (pgSWT 0)).setSts (pgSWT 0) Swt.S_SWATH_STATE st).setSwath 0
    { SwtState.init with frames := frames, fixed := fixed }

/-- Swath 0 starts from register anchors of 1 ms, FRAME_MIN and FRAME_MAX around it. -/
def W.period (s : State) : State :=
  ((s.setNat (pgSWT 0) Swt.PERIOD_NS 1000000).setNat (pgSWT 0) Swt.FRAME_MIN 900000).setNat (pgSWT 0) Swt.FRAME_MAX 1100000

/-- List 0 of region 0 is an AUTO list of Swath 0 that is still being read. -/
def W.autoList (s : State) : State :=
  (W.region (fun r => { r with lists := [(0, ⟨true, 0, 9, true, 1, 0⟩)] }) s).setReg (pgJSC 0) (Jsc.LIST_CTRL 0) 3

/-- Swath 0 after its first start. -/
def W.ran (fixed : List FixedStart) (s : State) : State :=
  s.setSwath 0 { SwtState.init with
    fixed := fixed, lastStart := some 640, lastFixed := some 4, shown := some 4, everReleased := true, firsts := [(4, 640)] }

/-- Swath 0 may fix a ready frame. -/
def W.fixable : State := W.period (W.sw 1 [⟨4, true⟩] [] W.mine)

/-- The candidate of the next new frame. -/
def W.first : Rat × Int :=
  let s := W.fixable
  let lead : Rat := (s.leadUnits 0 : Rat)
  let first := (s.nextWindow 0 s.nowUnits).lo - lead
  let x := if s.nowUnits < first then first else s.nowUnits
  (s.firstCandidate 0 (s.nextWindow 0 x) (x + lead)).getD (0, 0)

/-- Swath 0 may repeat its last frame. -/
def W.repeatable : State := W.ran [] (W.period (W.sw 2 [] [] W.mine))

/-- The candidate of the repeat. -/
def W.last : Rat × Int := (W.repeatable.lastCandidate 0 (W.repeatable.nextWindow 0 W.repeatable.nowUnits)).getD (0, 0)

/-- The rectangle 7 of Swath 0 is being computed. -/
def W.crc (mode : Nat) (expected : Word) : State :=
  (({ State.reset with snaps := [(0, [W.snap])] }.setReg (pgCMP 0) (Cmp.PMAP_CTRL 0) 1).setSwath 0
    { SwtState.init with crcBusy := [7] }).setNat (pgSWT 0) (Swt.RECT_CTRL 7) mode |>.setReg (pgSWT 0) (Swt.EXPECTED 7) expected

/-- Swath 0 holds until 640. -/
def W.held640 (s : State) : State := (W.sw 3 [] [] s).setSwath 0 { SwtState.init with holdEnd := some 640 }

theorem witness_FrameStartsAreFixed :
    (∃ s a : State, s = W.sw 1 [] [] W.mine ∧ s.reach (timeOfUnits 0) = some a ∧ (s.swath 0).told = [] ∧
      s.ownStarts 0 = true ∧
      s.releases 0 = true ∧
      ((s.swath 0).frames.all fun x => x.ready) = true ∧
      s.snapshotAllowed 0 (s.nextFrame 0) = true ∧
      s.releaseAfter 0 (s.nextFrame 0) = some 0 ∧
      a.releaseHeld 0 = false) ∧
    (∃ s a : State, s = W.autoList (W.sw 1 [] [] W.mine) ∧ s.reach (timeOfUnits 0) = some a ∧ (s.swath 0).told = [] ∧
      s.ownStarts 0 = true ∧
      s.releases 0 = true ∧
      ((s.swath 0).frames.all fun x => x.ready) = true ∧
      s.snapshotAllowed 0 (s.nextFrame 0) = true ∧
      s.releaseAfter 0 (s.nextFrame 0) = some 0 ∧
      a.releaseHeld 0 = true) ∧
    (∃ s : State, s = State.reset.setFld (pgSWT 15) Swt.SWT_MODE Swt.READY_SRC 1 ∧ 15 < 16 ∧
      s.readySrc 15 = 1) ∧
    (∃ s : State, s = (W.sw 1 [{ frame := 4, ready := false }] [] W.mine).setFld (pgSWT 0) Swt.SWT_MODE Swt.READY_SRC 1 ∧ ((W.sw 1 [Released.mk 4 false] [] W.mine).setFld (pgSWT 0) Swt.SWT_MODE Swt.READY_SRC 1).accepts Requester.cc0 (pgSWT 0) Swt.FRAME_READY = true ∧
      List.find? (fun x => !x.ready) (((W.sw 1 [Released.mk 4 false] [] W.mine).setFld (pgSWT 0) Swt.SWT_MODE Swt.READY_SRC 1).swath 0).frames = some (Released.mk 4 false) ∧
      (((W.sw 1 [Released.mk 4 false] [] W.mine).setFld (pgSWT 0) Swt.SWT_MODE Swt.READY_SRC 1).told Requester.cc0 (pgSWT 0) Swt.FRAME_READY 1).readySrc 0 = 1) ∧
    (∃ s : State, s = W.sw 1 [{ frame := 4, ready := true }] [] W.mine ∧ (W.sw 1 [Released.mk 4 true] [] W.mine).accepts Requester.cc0 (pgSWT 0) Swt.FRAME_READY = true ∧
      List.find? (fun x => !x.ready) ((W.sw 1 [Released.mk 4 true] [] W.mine).swath 0).frames = none) ∧
    (∃ s a : State, s = W.fixable ∧ s.reach (if s.nowUnits < if s.nowUnits < (s.nextWindow 0 s.nowUnits).lo - (Int.ofNat (s.leadUnits 0)) then (s.nextWindow 0 s.nowUnits).lo - (Int.ofNat (s.leadUnits 0)) else s.nowUnits then timeOfUnits (if s.nowUnits < (s.nextWindow 0 s.nowUnits).lo - (Int.ofNat (s.leadUnits 0)) then (s.nextWindow 0 s.nowUnits).lo - (Int.ofNat (s.leadUnits 0)) else s.nowUnits).ceil.toNat else s.tln.now) = some a ∧ s.oldestReady 0 = some 4 ∧
      s.mayFix 0 = true ∧
      s.fallback = false ∧
      a.firstCandidate 0 (a.nextWindow 0 (if s.nowUnits < (s.nextWindow 0 s.nowUnits).lo - (Int.ofNat (s.leadUnits 0)) then (s.nextWindow 0 s.nowUnits).lo - (Int.ofNat (s.leadUnits 0)) else s.nowUnits)) ((if s.nowUnits < (s.nextWindow 0 s.nowUnits).lo - (Int.ofNat (s.leadUnits 0)) then (s.nextWindow 0 s.nowUnits).lo - (Int.ofNat (s.leadUnits 0)) else s.nowUnits) + (Int.ofNat (s.leadUnits 0))) = some (W.first.fst, W.first.snd) ∧
      (a.swath 0).holdEnd = none) ∧
    (∃ s a : State, s = W.repeatable ∧ s.reach (if s.nowUnits < W.last.fst - (Int.ofNat (s.leadUnits 0)) then timeOfUnits (W.last.fst - (Int.ofNat (s.leadUnits 0))).ceil.toNat else s.tln.now) = some a ∧ s.mayFix 0 = true ∧
      s.startKind 0 = 0 ∧
      (s.swath 0).lastFixed = some 4 ∧
      s.oldestReady 0 = none ∧
      s.lastCandidate 0 (s.nextWindow 0 s.nowUnits) = some (W.last.fst, W.last.snd)) :=
  ⟨⟨_, _, rfl, W.ofSome _ (by decide +kernel), by decide +kernel⟩,
    ⟨_, _, rfl, W.ofSome _ (by decide +kernel), by decide +kernel⟩,
    ⟨_, rfl, by decide +kernel⟩,
    ⟨_, rfl, by decide +kernel⟩,
    ⟨_, rfl, by decide +kernel⟩,
    ⟨_, _, rfl, W.ofSome _ (by decide +kernel), by decide +kernel⟩,
    ⟨_, _, rfl, W.ofSome _ (by decide +kernel), by decide +kernel⟩⟩

theorem witness_FrameStartsHappen :
    (∃ s : State, s = W.sw 1 [] [{ start := 640, frame := 4, repeated := false, m := 0, anchor := none }] W.mine ∧ ((W.sw 1 [] [FixedStart.mk 640 4 false 0 none] W.mine).swath 0).fixed = [FixedStart.mk 640 4 false 0 none] ∧
      (W.sw 1 [] [FixedStart.mk 640 4 false 0 none] W.mine).swathState 0 ≠ 0 ∧
      (W.sw 1 [] [FixedStart.mk 640 4 false 0 none] W.mine).enabled (pgSWT 0) = true ∧
      (W.sw 1 [] [FixedStart.mk 640 4 false 0 none] W.mine).reach (timeOfUnits (FixedStart.mk 640 4 false 0 none).start) = some (((W.sw 1 [] [FixedStart.mk 640 4 false 0 none] W.mine).reach (timeOfUnits (FixedStart.mk 640 4 false 0 none).start)).getD (W.sw 1 [] [FixedStart.mk 640 4 false 0 none] W.mine))) ∧
    (∃ s a : State, s = W.repeatable.setReg (pgSWT 0) PAGE_CTRL 3 ∧ s.reach (timeOfUnits (↑640 + s.frameMin 0).ceil.toNat) = some a ∧ (s.swath 0).lastStart = some 640 ∧
      s.swathState 0 = 2 ∧
      s.stopSet (pgSWT 0) = true ∧
      (s.swath 0).fixed = []) ∧
    (∃ s : State, s = W.repeatable ∧ 15 < 16) ∧
    (∃ s a : State, s = W.held640 W.mine ∧ s.reach (timeOfUnits 640) = some a ∧ (s.swath 0).holdEnd = some 640 ∧
      s.swathState 0 = 3) ∧
    (∃ s : State, s = W.crc 1 5 ∧ 7 ∈ (s.swath 0).crcBusy ∧
      s.snapOfSwath 0 (s.swath 0).crcFrame = some W.snap) ∧
    (∃ s : State, s = W.crc 2 5 ∧ 7 ∈ (s.swath 0).crcBusy ∧
      s.snapOfSwath 0 (s.swath 0).crcFrame = some W.snap) :=
  ⟨⟨_, rfl, by decide +kernel⟩,
    ⟨_, _, rfl, W.ofSome _ (by decide +kernel), by decide +kernel⟩,
    ⟨_, rfl, by decide +kernel⟩,
    ⟨_, _, rfl, W.ofSome _ (by decide +kernel), by decide +kernel⟩,
    ⟨_, rfl, by decide +kernel⟩,
    ⟨_, rfl, by decide +kernel⟩⟩

/-- A launch of Swath 0 of content 4. -/
def W.l4 (choice : Option (Option Nat)) : Launch := ⟨0, 3000000, 3200000, 4, false, 1, choice⟩

/-- Swath 0 runs, a port page is ACTIVE with a pixel list of one element, and a launch and slots stand at a key. -/
def W.port (page key : Nat) (choice : Option (Option Nat)) (fill : Option Fill) (emit : Option Emission) : State :=
  ((W.enable { W.mine with launch := [(key, [W.l4 choice])] } page).setSts (pgSWT 0) Swt.S_SWATH_STATE 2).setPort key
    { PortState.init with fill0 := fill, emit := emit }

/-- DMX port 0 listens, holding the Stile. -/
def W.listen : State :=
  (W.enable W.mine (pgDMX 0)).setFld (pgDMX 0) Dmx.DMX_MODE Dmx.DIR 1

/-- Samples of a packet of `n` slots of 0, the start code among them, and the mark behind it. -/
def W.line (n : Nat) : List (Bool × Nat) :=
  (false, 352) :: (true, 32) :: (List.replicate n [(false, 144), (true, 32)]).flatten ++ [(true, 60000)]

/-- An RDM request of 26 bytes of a kind waits to be sent or answered on DMX port 0, its buffers at the start of DRAM. -/
def W.rdm (kind outcome : Nat) (s : State) : State :=
  ((((((((W.enable s (pgDMX 0)).setNat (pgDMX 0) Dmx.DMX_MODE 0x1000).setNat (pgDMX 0) Dmx.RDM_CTRL (kind * 4096 + 26)).setNat
    (pgDMX 0) Dmx.RDM_REQ_HI 1).setNat (pgDMX 0) Dmx.RDM_RSP_HI 1).setNat (pgDMX 0) Dmx.RDM_RESULT outcome).setSts
      (pgSWT 0) Swt.S_SWATH_STATE 2).setNat (pgSWT 0) Swt.FRAME_MIN 100000000)

/-- The transaction on the wire. -/
def W.rdmSent (kind : Nat) (s : State) : State :=
  (W.rdm kind 2 s).setDmx 0 ⟨0, some ⟨kind, 0, 64, 128, 6400000, []⟩, 0⟩

/-- The sum of an answer to discovery with the UID of all ones, and the answer. -/
def W.uid : List Byte := List.replicate 12 0xFF ++ [0xAB, 0x5F, 0xFE, 0xF5]
def W.disc : List Byte := [0xFE, 0xAA] ++ W.uid

theorem witness_SlotsAreEmitted :
    (∃ s : State, s = W.port (pgPXP 0) (keyPX 0) none (some { frame := 4, count := 1 }) none ∧ earliest (List.filter (fun l => l.choice.isNone) ((W.port (pgPXP 0) (keyPX 0) none (some (Fill.mk 4 1)) none).launches (keyPX 0))) = some (W.l4 none) ∧
      (W.port (pgPXP 0) (keyPX 0) none (some (Fill.mk 4 1)) none).reach (timeOfUnits ((W.l4 none).at_ - 2000 * LU)) = some (((W.port (pgPXP 0) (keyPX 0) none (some (Fill.mk 4 1)) none).reach (timeOfUnits ((W.l4 none).at_ - 2000 * LU))).getD (W.port (pgPXP 0) (keyPX 0) none (some (Fill.mk 4 1)) none)) ∧
      (((W.port (pgPXP 0) (keyPX 0) none (some (Fill.mk 4 1)) none).reach (timeOfUnits ((W.l4 none).at_ - 2000 * LU))).getD (W.port (pgPXP 0) (keyPX 0) none (some (Fill.mk 4 1)) none)).mayLaunch (keyPX 0) (pgPXP 0) (W.l4 none).swath = true ∧
      ((((W.port (pgPXP 0) (keyPX 0) none (some (Fill.mk 4 1)) none).reach (timeOfUnits ((W.l4 none).at_ - 2000 * LU))).getD (W.port (pgPXP 0) (keyPX 0) none (some (Fill.mk 4 1)) none)).portOf (keyPX 0)).holds (W.l4 none).frame = true) ∧
    (∃ s a : State, s = W.port (pgPXP 0) (keyPX 0) none none none ∧ s.reach (timeOfUnits ((W.l4 none).at_ - 2000 * LU)) = some a ∧ earliest (List.filter (fun l => l.choice.isNone) (s.launches (keyPX 0))) = some (W.l4 none) ∧
      a.mayLaunch (keyPX 0) (pgPXP 0) (W.l4 none).swath = true ∧
      (a.portOf (keyPX 0)).holds (W.l4 none).frame = false) ∧
    (∃ s : State, s = W.port (pgPXP 0) (keyPX 0) (some (some 4)) (some { frame := 4, count := 1 }) none ∧ earliest ((W.port (pgPXP 0) (keyPX 0) (some (some 4)) (some (Fill.mk 4 1)) none).launches (keyPX 0)) = some (W.l4 (some (some 4))) ∧
      (W.l4 (some (some 4))).choice = some (some 4) ∧
      ((W.port (pgPXP 0) (keyPX 0) (some (some 4)) (some (Fill.mk 4 1)) none).portOf (keyPX 0)).emit = none ∧
      (W.port (pgPXP 0) (keyPX 0) (some (some 4)) (some (Fill.mk 4 1)) none).reach (timeOfUnits (gridUp (max (W.l4 (some (some 4))).at_ ((W.port (pgPXP 0) (keyPX 0) (some (some 4)) (some (Fill.mk 4 1)) none).portOf (keyPX 0)).lastEnd))) = some (((W.port (pgPXP 0) (keyPX 0) (some (some 4)) (some (Fill.mk 4 1)) none).reach (timeOfUnits (gridUp (max (W.l4 (some (some 4))).at_ ((W.port (pgPXP 0) (keyPX 0) (some (some 4)) (some (Fill.mk 4 1)) none).portOf (keyPX 0)).lastEnd)))).getD (W.port (pgPXP 0) (keyPX 0) (some (some 4)) (some (Fill.mk 4 1)) none)) ∧
      (((W.port (pgPXP 0) (keyPX 0) (some (some 4)) (some (Fill.mk 4 1)) none).reach (timeOfUnits (gridUp (max (W.l4 (some (some 4))).at_ ((W.port (pgPXP 0) (keyPX 0) (some (some 4)) (some (Fill.mk 4 1)) none).portOf (keyPX 0)).lastEnd)))).getD (W.port (pgPXP 0) (keyPX 0) (some (some 4)) (some (Fill.mk 4 1)) none)).mayLaunch (keyPX 0) (pgPXP 0) (W.l4 (some (some 4))).swath = true) ∧
    (∃ s : State, s = W.port (pgDMX 0) (keyDMX 0) none (some { frame := 4, count := 1 }) none ∧ earliest (List.filter (fun l => l.choice.isNone) ((W.port (pgDMX 0) (keyDMX 0) none (some (Fill.mk 4 1)) none).launches (keyDMX 0))) = some (W.l4 none) ∧
      (W.port (pgDMX 0) (keyDMX 0) none (some (Fill.mk 4 1)) none).reach (timeOfUnits ((W.l4 none).at_ - 2000 * LU)) = some (((W.port (pgDMX 0) (keyDMX 0) none (some (Fill.mk 4 1)) none).reach (timeOfUnits ((W.l4 none).at_ - 2000 * LU))).getD (W.port (pgDMX 0) (keyDMX 0) none (some (Fill.mk 4 1)) none)) ∧
      (((W.port (pgDMX 0) (keyDMX 0) none (some (Fill.mk 4 1)) none).reach (timeOfUnits ((W.l4 none).at_ - 2000 * LU))).getD (W.port (pgDMX 0) (keyDMX 0) none (some (Fill.mk 4 1)) none)).mayLaunch (keyDMX 0) (pgDMX 0) (W.l4 none).swath = true ∧
      ((((W.port (pgDMX 0) (keyDMX 0) none (some (Fill.mk 4 1)) none).reach (timeOfUnits ((W.l4 none).at_ - 2000 * LU))).getD (W.port (pgDMX 0) (keyDMX 0) none (some (Fill.mk 4 1)) none)).portOf (keyDMX 0)).holds (W.l4 none).frame = true) ∧
    (∃ s a : State, s = W.port (pgDMX 0) (keyDMX 0) none none none ∧ s.reach (timeOfUnits ((W.l4 none).at_ - 2000 * LU)) = some a ∧ earliest (List.filter (fun l => l.choice.isNone) (s.launches (keyDMX 0))) = some (W.l4 none) ∧
      a.mayLaunch (keyDMX 0) (pgDMX 0) (W.l4 none).swath = true ∧
      (a.portOf (keyDMX 0)).holds (W.l4 none).frame = false) ∧
    (∃ s : State, s = W.port (pgDMX 0) (keyDMX 0) (some (some 4)) (some { frame := 4, count := 1 }) none ∧ earliest ((W.port (pgDMX 0) (keyDMX 0) (some (some 4)) (some (Fill.mk 4 1)) none).launches (keyDMX 0)) = some (W.l4 (some (some 4))) ∧
      (W.l4 (some (some 4))).choice = some (some 4) ∧
      ((W.port (pgDMX 0) (keyDMX 0) (some (some 4)) (some (Fill.mk 4 1)) none).portOf (keyDMX 0)).emit = none ∧
      (W.port (pgDMX 0) (keyDMX 0) (some (some 4)) (some (Fill.mk 4 1)) none).reach (timeOfUnits (gridUp (max (W.l4 (some (some 4))).at_ ((W.port (pgDMX 0) (keyDMX 0) (some (some 4)) (some (Fill.mk 4 1)) none).portOf (keyDMX 0)).lastEnd))) = some (((W.port (pgDMX 0) (keyDMX 0) (some (some 4)) (some (Fill.mk 4 1)) none).reach (timeOfUnits (gridUp (max (W.l4 (some (some 4))).at_ ((W.port (pgDMX 0) (keyDMX 0) (some (some 4)) (some (Fill.mk 4 1)) none).portOf (keyDMX 0)).lastEnd)))).getD (W.port (pgDMX 0) (keyDMX 0) (some (some 4)) (some (Fill.mk 4 1)) none)) ∧
      (((W.port (pgDMX 0) (keyDMX 0) (some (some 4)) (some (Fill.mk 4 1)) none).reach (timeOfUnits (gridUp (max (W.l4 (some (some 4))).at_ ((W.port (pgDMX 0) (keyDMX 0) (some (some 4)) (some (Fill.mk 4 1)) none).portOf (keyDMX 0)).lastEnd)))).getD (W.port (pgDMX 0) (keyDMX 0) (some (some 4)) (some (Fill.mk 4 1)) none)).mayLaunch (keyDMX 0) (pgDMX 0) (W.l4 (some (some 4))).swath = true) :=
  ⟨⟨_, rfl, by decide +kernel⟩,
    ⟨_, _, rfl, W.ofSome _ (by decide +kernel), by decide +kernel⟩,
    ⟨_, rfl, by decide +kernel⟩,
    ⟨_, rfl, by decide +kernel⟩,
    ⟨_, _, rfl, W.ofSome _ (by decide +kernel), by decide +kernel⟩,
    ⟨_, rfl, by decide +kernel⟩⟩

theorem witness_DmxReceivesAndAsks :
    (∃ s : State, s = W.listen ∧ s.dmxListens 0 = true ∧
      rxPacket (4 * s.fld (pgDMX 0) Dmx.RX_END_US (10, 0)) (joinRuns (W.line 513)) = RxPacket.packet (List.replicate 513 0)) ∧
    (∃ s : State, s = W.listen ∧ s.dmxListens 0 = true ∧
      rxPacket (4 * s.fld (pgDMX 0) Dmx.RX_END_US (10, 0)) (joinRuns (W.line 514)) = RxPacket.discarded) ∧
    (∃ s : State, s = W.listen ∧ s.dmxListens 0 = true ∧
      [(false, 352), (true, 31), (false, 144)] = [(false, 352), (true, 31), (false, 144)] ∧
      352 ≤ 352 ∧
      0 < 31 ∧
      31 < 32 ∧
      0 < 144) ∧
    (∃ s : State, s = W.listen ∧ s.dmxListens 0 = true ∧
      (∀ (x : Bool × Nat), x ∈ joinRuns [(false, 351), (true, 32)] → x.fst = false → x.snd < 352)) ∧
    (∃ s a : State, s = W.listen.setSts (pgDMX 0) Dmx.S_INPUT_STATE 1 ∧ s.reach ((s.dmxOf 0).lastRx + s.fld (pgDMX 0) Dmx.RX_LOSS_MS (11, 0) * 1000000 * NS) = some a ∧ s.sts (pgDMX 0) Dmx.S_INPUT_STATE = 1 ∧
      s.engineRuns = true) ∧
    (∃ s : State, s = W.rdm 0 0 W.mine ∧ s.accepts Requester.cc0 (pgDMX 0) Dmx.RDM_GO = true ∧
      (s.told Requester.cc0 (pgDMX 0) Dmx.RDM_GO 1).rdmOutcome 0 ≠ 1 ∧
      (s.told Requester.cc0 (pgDMX 0) Dmx.RDM_GO 1).rdmOutcome 0 ≠ 2 ∧
      (s.told Requester.cc0 (pgDMX 0) Dmx.RDM_GO 1).dmxDir 0 ≠ 1 ∧
      (s.told Requester.cc0 (pgDMX 0) Dmx.RDM_GO 1).flag (pgDMX 0) Dmx.DMX_MODE 12 = true ∧
      26 ≤ (s.told Requester.cc0 (pgDMX 0) Dmx.RDM_GO 1).rdmLen 0 ∧
      (s.told Requester.cc0 (pgDMX 0) Dmx.RDM_GO 1).rdmLen 0 ≤ 257 ∧
      (s.told Requester.cc0 (pgDMX 0) Dmx.RDM_GO 1).rdmKind 0 ≠ 3 ∧
      baseOk ((s.told Requester.cc0 (pgDMX 0) Dmx.RDM_GO 1).rdmReqAt 0) ((s.told Requester.cc0 (pgDMX 0) Dmx.RDM_GO 1).rdmLen 0) = true ∧
      baseOk ((s.told Requester.cc0 (pgDMX 0) Dmx.RDM_GO 1).rdmRspAt 0) 260 = true ∧
      (s.told Requester.cc0 (pgDMX 0) Dmx.RDM_GO 1).rdmReservation 0 + (s.told Requester.cc0 (pgDMX 0) Dmx.RDM_GO 1).dmxTime 0 ≤ (s.told Requester.cc0 (pgDMX 0) Dmx.RDM_GO 1).fld (pgSWT ((s.told Requester.cc0 (pgDMX 0) Dmx.RDM_GO 1).dmxSwath 0)) Swt.FRAME_MIN (26, 0) ∧
      (s.told Requester.cc0 (pgDMX 0) Dmx.RDM_GO 1).stileHeld = true) ∧
    (∃ s : State, s = W.rdm 0 0 W.run ∧ s.accepts Requester.cc0 (pgDMX 0) Dmx.RDM_GO = true ∧
      ((s.told Requester.cc0 (pgDMX 0) Dmx.RDM_GO 1).rdmOutcome 0 = 1 ∨ (s.told Requester.cc0 (pgDMX 0) Dmx.RDM_GO 1).rdmOutcome 0 = 2 ∨ (s.told Requester.cc0 (pgDMX 0) Dmx.RDM_GO 1).rdmGoBad 0 = true ∨ (s.told Requester.cc0 (pgDMX 0) Dmx.RDM_GO 1).stileHeld = false)) ∧
    (∃ s : State, s = W.rdm 0 2 W.mine ∧ s.accepts Requester.cc0 (pgDMX 0) Dmx.RDM_GO = true ∧
      (s.told Requester.cc0 (pgDMX 0) Dmx.RDM_GO 2).rdmOutcome 0 = 2) ∧
    (∃ s : State, s = W.rdm 1 1 W.mine ∧ s.rdmOutcome 0 = 1 ∧
      s.active (pgDMX 0) = true ∧
      s.swathState (s.dmxSwath 0) = 2 ∧
      (s.portOf (keyDMX 0)).emit = none ∧
      (Int.ofNat (unitsOf s.tln.now + s.rdmReservation 0 * LU)) ≤ s.dmxNextLaunch 0) ∧
    (∃ s a : State, s = W.rdmSent 1 W.mine ∧ s.reach (timeOfUnits (min ((RdmRun.mk 1 0 64 128 6400000 []).listenAt + 10 * LU) (RdmRun.mk 1 0 64 128 6400000 []).windowEnd)) = some a ∧ (s.dmxOf 0).run = some (RdmRun.mk 1 0 64 128 6400000 []) ∧
      s.rdmOutcome 0 = 2 ∧
      (RdmRun.mk 1 0 64 128 6400000 []).kind = 1 ∧
      0 ≤ 1000 * s.fld (pgDMX 0) Dmx.RSP_TIMEOUT_US (12, 0)) ∧
    (∃ s : State, s = W.rdmSent 1 W.mine ∧ (s.dmxOf 0).run = some (RdmRun.mk 1 0 64 128 6400000 []) ∧
      s.rdmOutcome 0 = 2 ∧
      (RdmRun.mk 1 0 64 128 6400000 []).kind = 1 ∧
      1000 * s.fld (pgDMX 0) Dmx.RSP_TIMEOUT_US (12, 0) < 9000000) ∧
    (∃ s a : State, s = W.rdmSent 1 W.mine ∧ s.reach (timeOfUnits ((RdmRun.mk 1 0 64 128 6400000 []).listenAt + s.fld (pgDMX 0) Dmx.RSP_TIMEOUT_US (12, 0) * 1000 * LU)) = some a ∧ (s.dmxOf 0).run = some (RdmRun.mk 1 0 64 128 6400000 []) ∧
      s.rdmOutcome 0 = 2 ∧
      (RdmRun.mk 1 0 64 128 6400000 []).kind = 1) ∧
    (∃ s a : State, s = W.rdmSent 2 W.mine ∧ s.reach (timeOfUnits (RdmRun.mk 2 0 64 128 6400000 []).windowEnd) = some a ∧ (s.dmxOf 0).run = some (RdmRun.mk 2 0 64 128 6400000 []) ∧
      s.rdmOutcome 0 = 2 ∧
      (RdmRun.mk 2 0 64 128 6400000 []).kind = 2) ∧
    (∃ s a : State, s = W.rdmSent 2 W.mine ∧ s.reach (timeOfUnits (RdmRun.mk 2 0 64 128 6400000 []).windowEnd) = some a ∧ (s.dmxOf 0).run = some (RdmRun.mk 2 0 64 128 6400000 []) ∧
      s.rdmOutcome 0 = 2 ∧
      (RdmRun.mk 2 0 64 128 6400000 []).kind = 2) ∧
    (∃ s a : State, s = W.rdmSent 2 W.mine ∧ s.reach (timeOfUnits (RdmRun.mk 2 0 64 128 6400000 []).windowEnd) = some a ∧ (s.dmxOf 0).run = some (RdmRun.mk 2 0 64 128 6400000 []) ∧
      s.rdmOutcome 0 = 2 ∧
      (RdmRun.mk 2 0 64 128 6400000 []).kind = 2) ∧
    (∃ s a : State, s = W.rdmSent 0 W.mine ∧ s.reach (timeOfUnits (RdmRun.mk 0 0 64 128 6400000 []).windowEnd) = some a ∧ (s.dmxOf 0).run = some (RdmRun.mk 0 0 64 128 6400000 [])) :=
  ⟨⟨_, rfl, by decide +kernel⟩,
    ⟨_, rfl, by decide +kernel⟩,
    ⟨_, rfl, by decide +kernel⟩,
    ⟨_, rfl, by decide +kernel⟩,
    ⟨_, _, rfl, W.ofSome _ (by decide +kernel), by decide +kernel⟩,
    ⟨_, rfl, by decide +kernel⟩,
    ⟨_, rfl, by decide +kernel⟩,
    ⟨_, rfl, by decide +kernel⟩,
    ⟨_, rfl, by decide +kernel⟩,
    ⟨_, _, rfl, W.ofSome _ (by decide +kernel), by decide +kernel⟩,
    ⟨_, rfl, by decide +kernel⟩,
    ⟨_, _, rfl, W.ofSome _ (by decide +kernel), by decide +kernel⟩,
    ⟨_, _, rfl, W.ofSome _ (by decide +kernel), by decide +kernel⟩,
    ⟨_, _, rfl, W.ofSome _ (by decide +kernel), by decide +kernel⟩,
    ⟨_, _, rfl, W.ofSome _ (by decide +kernel), by decide +kernel⟩,
    ⟨_, _, rfl, W.ofSome _ (by decide +kernel), by decide +kernel⟩⟩

/-- MAC 0 is ACTIVE with its link up. -/
def W.eth (s : State) : State := (W.enable s (pgETH 0)).setFlag (pgETH 0) Eth.LINK_STATUS 0 true

/-- A frame of the stream engine, at its head, with its launch. -/
def W.unit (launch : Option Nat) : TxUnit := { TxUnit.plain 4 0 0 false [[1]] with launch := launch }

/-- The frame waits on MAC 0, or is in transmission until 640. -/
def W.wait (u : TxUnit) (s : State) : State :=
  { s with mac := [(0, { MacState.init with waiting := [u], headAt := [(4, some 0)] })] }
def W.sends (u : TxUnit) (s : State) : State :=
  { s with mac := [(0, { MacState.init with sending := some u, sendEnd := 640 })] }

/-- A preemptable frame is in transmission on MAC 0 and preemption is active. -/
def W.cutting (s : State) : State :=
  { s.setPreempt 0 2 with mac := [(0, { MacState.init with sending := some (W.unit none), sendEnd := 25600000 })] }

/-- MAC 0 paused until 640, after XOFF, with a moderation timer running since 0, or after two tries of verification. -/
def W.paused (s : State) : State := { s with mac := [(0, { MacState.init with pauseEnd := some 640 })] }
def W.xoff (s : State) : State := { s with mac := [(0, { MacState.init with xoff := some 640 })] }
def W.timer (s : State) : State := { s with mac := [(0, { MacState.init with timers := [(7, some 0)] })] }
def W.tries (s : State) : State := { s with mac := [(0, { MacState.init with tries := 2 })] }

/-- The forwarding database holds one dynamic entry of address 5. -/
def W.fdb1 (s : State) : State := { s with bridge := { s.bridge with fdb := [⟨5, 1, false, 0⟩] } }

/-- A ring index, and the address. -/
def W.tail : Word := 4095
def W.mac5 : BitVec 48 := 5

theorem witness_MacsSendAndReceive :
    (∃ s : State, s = State.reset.setNat (pgETH 3) (Eth.TXR_SIZE 3) 4096 ∧ s.reaches (pgETH 3) = true ∧
      bits W.tail (11, 0) < s.counted.txSize 3 3) ∧
    (∃ s : State, s = State.reset ∧ s.reaches (pgETH 3) = true ∧
      s.counted.txSize 3 3 ≤ bits W.tail (11, 0)) ∧
    (∃ s : State, s = State.reset.setNat (pgETH 3) (Eth.RXR_SIZE 3) 4096 ∧ s.reaches (pgETH 3) = true ∧
      bits W.tail (11, 0) < s.counted.rxSize 3 3) ∧
    (∃ s : State, s = State.reset ∧ s.reaches (pgETH 3) = true ∧
      s.counted.rxSize 3 3 ≤ bits W.tail (11, 0)) ∧
    (∃ s : State, s = W.wait (let __src := W.unit none; { src := __src.src, frames := __src.frames, launch := __src.launch, express := __src.express, prio := __src.prio, dropLate := __src.dropLate, chain := __src.chain, irq := __src.irq, tstamp := __src.tstamp, tag := __src.tag, inPort := __src.inPort, inAt := __src.inAt, inValid := __src.inValid, status := __src.status, first := __src.first, cut := __src.cut, whenActive := true }) (W.eth W.run) ∧ (W.wait (let __src := W.unit none; TxUnit.mk __src.src __src.frames __src.launch __src.express __src.prio __src.dropLate __src.chain __src.irq __src.tstamp __src.tag __src.inPort __src.inAt __src.inValid __src.status __src.first __src.cut true) (W.eth W.run)).active (pgETH 0) = true ∧
      ((W.wait (let __src := W.unit none; TxUnit.mk __src.src __src.frames __src.launch __src.express __src.prio __src.dropLate __src.chain __src.irq __src.tstamp __src.tag __src.inPort __src.inAt __src.inValid __src.status __src.first __src.cut true) (W.eth W.run)).ringsSettle 0).macReady 0 = true ∧
      ((W.wait (let __src := W.unit none; TxUnit.mk __src.src __src.frames __src.launch __src.express __src.prio __src.dropLate __src.chain __src.irq __src.tstamp __src.tag __src.inPort __src.inAt __src.inValid __src.status __src.first __src.cut true) (W.eth W.run)).ringsSettle 0).reach (timeOfUnits (((W.wait (let __src := W.unit none; TxUnit.mk __src.src __src.frames __src.launch __src.express __src.prio __src.dropLate __src.chain __src.irq __src.tstamp __src.tag __src.inPort __src.inAt __src.inValid __src.status __src.first __src.cut true) (W.eth W.run)).ringsSettle 0).nextStart 0 (((W.wait (let __src := W.unit none; TxUnit.mk __src.src __src.frames __src.launch __src.express __src.prio __src.dropLate __src.chain __src.irq __src.tstamp __src.tag __src.inPort __src.inAt __src.inValid __src.status __src.first __src.cut true) (W.eth W.run)).ringsSettle 0).macOf 0).sendEnd)) = some ((((W.wait (let __src := W.unit none; TxUnit.mk __src.src __src.frames __src.launch __src.express __src.prio __src.dropLate __src.chain __src.irq __src.tstamp __src.tag __src.inPort __src.inAt __src.inValid __src.status __src.first __src.cut true) (W.eth W.run)).ringsSettle 0).reach (timeOfUnits (((W.wait (let __src := W.unit none; TxUnit.mk __src.src __src.frames __src.launch __src.express __src.prio __src.dropLate __src.chain __src.irq __src.tstamp __src.tag __src.inPort __src.inAt __src.inValid __src.status __src.first __src.cut true) (W.eth W.run)).ringsSettle 0).nextStart 0 (((W.wait (let __src := W.unit none; TxUnit.mk __src.src __src.frames __src.launch __src.express __src.prio __src.dropLate __src.chain __src.irq __src.tstamp __src.tag __src.inPort __src.inAt __src.inValid __src.status __src.first __src.cut true) (W.eth W.run)).ringsSettle 0).macOf 0).sendEnd))).getD ((W.wait (let __src := W.unit none; TxUnit.mk __src.src __src.frames __src.launch __src.express __src.prio __src.dropLate __src.chain __src.irq __src.tstamp __src.tag __src.inPort __src.inAt __src.inValid __src.status __src.first __src.cut true) (W.eth W.run)).ringsSettle 0)) ∧
      ((((W.wait (let __src := W.unit none; TxUnit.mk __src.src __src.frames __src.launch __src.express __src.prio __src.dropLate __src.chain __src.irq __src.tstamp __src.tag __src.inPort __src.inAt __src.inValid __src.status __src.first __src.cut true) (W.eth W.run)).ringsSettle 0).reach (timeOfUnits (((W.wait (let __src := W.unit none; TxUnit.mk __src.src __src.frames __src.launch __src.express __src.prio __src.dropLate __src.chain __src.irq __src.tstamp __src.tag __src.inPort __src.inAt __src.inValid __src.status __src.first __src.cut true) (W.eth W.run)).ringsSettle 0).nextStart 0 (((W.wait (let __src := W.unit none; TxUnit.mk __src.src __src.frames __src.launch __src.express __src.prio __src.dropLate __src.chain __src.irq __src.tstamp __src.tag __src.inPort __src.inAt __src.inValid __src.status __src.first __src.cut true) (W.eth W.run)).ringsSettle 0).macOf 0).sendEnd))).getD ((W.wait (let __src := W.unit none; TxUnit.mk __src.src __src.frames __src.launch __src.express __src.prio __src.dropLate __src.chain __src.irq __src.tstamp __src.tag __src.inPort __src.inAt __src.inValid __src.status __src.first __src.cut true) (W.eth W.run)).ringsSettle 0)).nextPlaced 0 = none ∧
      (((((W.wait (let __src := W.unit none; TxUnit.mk __src.src __src.frames __src.launch __src.express __src.prio __src.dropLate __src.chain __src.irq __src.tstamp __src.tag __src.inPort __src.inAt __src.inValid __src.status __src.first __src.cut true) (W.eth W.run)).ringsSettle 0).reach (timeOfUnits (((W.wait (let __src := W.unit none; TxUnit.mk __src.src __src.frames __src.launch __src.express __src.prio __src.dropLate __src.chain __src.irq __src.tstamp __src.tag __src.inPort __src.inAt __src.inValid __src.status __src.first __src.cut true) (W.eth W.run)).ringsSettle 0).nextStart 0 (((W.wait (let __src := W.unit none; TxUnit.mk __src.src __src.frames __src.launch __src.express __src.prio __src.dropLate __src.chain __src.irq __src.tstamp __src.tag __src.inPort __src.inAt __src.inValid __src.status __src.first __src.cut true) (W.eth W.run)).ringsSettle 0).macOf 0).sendEnd))).getD ((W.wait (let __src := W.unit none; TxUnit.mk __src.src __src.frames __src.launch __src.express __src.prio __src.dropLate __src.chain __src.irq __src.tstamp __src.tag __src.inPort __src.inAt __src.inValid __src.status __src.first __src.cut true) (W.eth W.run)).ringsSettle 0)).macOf 0).halted = none ∧
      (((((W.wait (let __src := W.unit none; TxUnit.mk __src.src __src.frames __src.launch __src.express __src.prio __src.dropLate __src.chain __src.irq __src.tstamp __src.tag __src.inPort __src.inAt __src.inValid __src.status __src.first __src.cut true) (W.eth W.run)).ringsSettle 0).reach (timeOfUnits (((W.wait (let __src := W.unit none; TxUnit.mk __src.src __src.frames __src.launch __src.express __src.prio __src.dropLate __src.chain __src.irq __src.tstamp __src.tag __src.inPort __src.inAt __src.inValid __src.status __src.first __src.cut true) (W.eth W.run)).ringsSettle 0).nextStart 0 (((W.wait (let __src := W.unit none; TxUnit.mk __src.src __src.frames __src.launch __src.express __src.prio __src.dropLate __src.chain __src.irq __src.tstamp __src.tag __src.inPort __src.inAt __src.inValid __src.status __src.first __src.cut true) (W.eth W.run)).ringsSettle 0).macOf 0).sendEnd))).getD ((W.wait (let __src := W.unit none; TxUnit.mk __src.src __src.frames __src.launch __src.express __src.prio __src.dropLate __src.chain __src.irq __src.tstamp __src.tag __src.inPort __src.inAt __src.inValid __src.status __src.first __src.cut true) (W.eth W.run)).ringsSettle 0)).macOf 0).burst = none ∧
      bestOf (((((W.wait (let __src := W.unit none; TxUnit.mk __src.src __src.frames __src.launch __src.express __src.prio __src.dropLate __src.chain __src.irq __src.tstamp __src.tag __src.inPort __src.inAt __src.inValid __src.status __src.first __src.cut true) (W.eth W.run)).ringsSettle 0).reach (timeOfUnits (((W.wait (let __src := W.unit none; TxUnit.mk __src.src __src.frames __src.launch __src.express __src.prio __src.dropLate __src.chain __src.irq __src.tstamp __src.tag __src.inPort __src.inAt __src.inValid __src.status __src.first __src.cut true) (W.eth W.run)).ringsSettle 0).nextStart 0 (((W.wait (let __src := W.unit none; TxUnit.mk __src.src __src.frames __src.launch __src.express __src.prio __src.dropLate __src.chain __src.irq __src.tstamp __src.tag __src.inPort __src.inAt __src.inValid __src.status __src.first __src.cut true) (W.eth W.run)).ringsSettle 0).macOf 0).sendEnd))).getD ((W.wait (let __src := W.unit none; TxUnit.mk __src.src __src.frames __src.launch __src.express __src.prio __src.dropLate __src.chain __src.irq __src.tstamp __src.tag __src.inPort __src.inAt __src.inValid __src.status __src.first __src.cut true) (W.eth W.run)).ringsSettle 0)).macOf 0).served (((((W.wait (let __src := W.unit none; TxUnit.mk __src.src __src.frames __src.launch __src.express __src.prio __src.dropLate __src.chain __src.irq __src.tstamp __src.tag __src.inPort __src.inAt __src.inValid __src.status __src.first __src.cut true) (W.eth W.run)).ringsSettle 0).reach (timeOfUnits (((W.wait (let __src := W.unit none; TxUnit.mk __src.src __src.frames __src.launch __src.express __src.prio __src.dropLate __src.chain __src.irq __src.tstamp __src.tag __src.inPort __src.inAt __src.inValid __src.status __src.first __src.cut true) (W.eth W.run)).ringsSettle 0).nextStart 0 (((W.wait (let __src := W.unit none; TxUnit.mk __src.src __src.frames __src.launch __src.express __src.prio __src.dropLate __src.chain __src.irq __src.tstamp __src.tag __src.inPort __src.inAt __src.inValid __src.status __src.first __src.cut true) (W.eth W.run)).ringsSettle 0).macOf 0).sendEnd))).getD ((W.wait (let __src := W.unit none; TxUnit.mk __src.src __src.frames __src.launch __src.express __src.prio __src.dropLate __src.chain __src.irq __src.tstamp __src.tag __src.inPort __src.inAt __src.inValid __src.status __src.first __src.cut true) (W.eth W.run)).ringsSettle 0)).ready 0 (unitsOf ((((W.wait (let __src := W.unit none; TxUnit.mk __src.src __src.frames __src.launch __src.express __src.prio __src.dropLate __src.chain __src.irq __src.tstamp __src.tag __src.inPort __src.inAt __src.inValid __src.status __src.first __src.cut true) (W.eth W.run)).ringsSettle 0).reach (timeOfUnits (((W.wait (let __src := W.unit none; TxUnit.mk __src.src __src.frames __src.launch __src.express __src.prio __src.dropLate __src.chain __src.irq __src.tstamp __src.tag __src.inPort __src.inAt __src.inValid __src.status __src.first __src.cut true) (W.eth W.run)).ringsSettle 0).nextStart 0 (((W.wait (let __src := W.unit none; TxUnit.mk __src.src __src.frames __src.launch __src.express __src.prio __src.dropLate __src.chain __src.irq __src.tstamp __src.tag __src.inPort __src.inAt __src.inValid __src.status __src.first __src.cut true) (W.eth W.run)).ringsSettle 0).macOf 0).sendEnd))).getD ((W.wait (let __src := W.unit none; TxUnit.mk __src.src __src.frames __src.launch __src.express __src.prio __src.dropLate __src.chain __src.irq __src.tstamp __src.tag __src.inPort __src.inAt __src.inValid __src.status __src.first __src.cut true) (W.eth W.run)).ringsSettle 0)).tln.now)) = some (let __src := W.unit none; TxUnit.mk __src.src __src.frames __src.launch __src.express __src.prio __src.dropLate __src.chain __src.irq __src.tstamp __src.tag __src.inPort __src.inAt __src.inValid __src.status __src.first __src.cut true) ∧
      ((((W.wait (let __src := W.unit none; TxUnit.mk __src.src __src.frames __src.launch __src.express __src.prio __src.dropLate __src.chain __src.irq __src.tstamp __src.tag __src.inPort __src.inAt __src.inValid __src.status __src.first __src.cut true) (W.eth W.run)).ringsSettle 0).reach (timeOfUnits (((W.wait (let __src := W.unit none; TxUnit.mk __src.src __src.frames __src.launch __src.express __src.prio __src.dropLate __src.chain __src.irq __src.tstamp __src.tag __src.inPort __src.inAt __src.inValid __src.status __src.first __src.cut true) (W.eth W.run)).ringsSettle 0).nextStart 0 (((W.wait (let __src := W.unit none; TxUnit.mk __src.src __src.frames __src.launch __src.express __src.prio __src.dropLate __src.chain __src.irq __src.tstamp __src.tag __src.inPort __src.inAt __src.inValid __src.status __src.first __src.cut true) (W.eth W.run)).ringsSettle 0).macOf 0).sendEnd))).getD ((W.wait (let __src := W.unit none; TxUnit.mk __src.src __src.frames __src.launch __src.express __src.prio __src.dropLate __src.chain __src.irq __src.tstamp __src.tag __src.inPort __src.inAt __src.inValid __src.status __src.first __src.cut true) (W.eth W.run)).ringsSettle 0)).muted (let __src := W.unit none; TxUnit.mk __src.src __src.frames __src.launch __src.express __src.prio __src.dropLate __src.chain __src.irq __src.tstamp __src.tag __src.inPort __src.inAt __src.inValid __src.status __src.first __src.cut true) = true) ∧
    (∃ s : State, s = W.wait (W.unit none) (W.eth W.run) ∧ s.active (pgETH 0) = true ∧
      (s.ringsSettle 0).macReady 0 = true ∧
      (s.ringsSettle 0).reach (timeOfUnits ((s.ringsSettle 0).nextStart 0 ((s.ringsSettle 0).macOf 0).sendEnd)) = some (((s.ringsSettle 0).reach (timeOfUnits ((s.ringsSettle 0).nextStart 0 ((s.ringsSettle 0).macOf 0).sendEnd))).getD (s.ringsSettle 0)) ∧
      (((s.ringsSettle 0).reach (timeOfUnits ((s.ringsSettle 0).nextStart 0 ((s.ringsSettle 0).macOf 0).sendEnd))).getD (s.ringsSettle 0)).nextPlaced 0 = none ∧
      ((((s.ringsSettle 0).reach (timeOfUnits ((s.ringsSettle 0).nextStart 0 ((s.ringsSettle 0).macOf 0).sendEnd))).getD (s.ringsSettle 0)).macOf 0).halted = none ∧
      ((((s.ringsSettle 0).reach (timeOfUnits ((s.ringsSettle 0).nextStart 0 ((s.ringsSettle 0).macOf 0).sendEnd))).getD (s.ringsSettle 0)).macOf 0).burst = none ∧
      bestOf ((((s.ringsSettle 0).reach (timeOfUnits ((s.ringsSettle 0).nextStart 0 ((s.ringsSettle 0).macOf 0).sendEnd))).getD (s.ringsSettle 0)).macOf 0).served ((((s.ringsSettle 0).reach (timeOfUnits ((s.ringsSettle 0).nextStart 0 ((s.ringsSettle 0).macOf 0).sendEnd))).getD (s.ringsSettle 0)).ready 0 (unitsOf (((s.ringsSettle 0).reach (timeOfUnits ((s.ringsSettle 0).nextStart 0 ((s.ringsSettle 0).macOf 0).sendEnd))).getD (s.ringsSettle 0)).tln.now)) = some (W.unit none) ∧
      (((s.ringsSettle 0).reach (timeOfUnits ((s.ringsSettle 0).nextStart 0 ((s.ringsSettle 0).macOf 0).sendEnd))).getD (s.ringsSettle 0)).muted (W.unit none) = false ∧
      (W.unit none).launch = none) ∧
    (∃ s : State, s = W.wait (W.unit (some 0)) (W.eth W.run) ∧ s.active (pgETH 0) = true ∧
      (s.ringsSettle 0).macReady 0 = true ∧
      (s.ringsSettle 0).reach (timeOfUnits ((s.ringsSettle 0).nextStart 0 ((s.ringsSettle 0).macOf 0).sendEnd)) = some (((s.ringsSettle 0).reach (timeOfUnits ((s.ringsSettle 0).nextStart 0 ((s.ringsSettle 0).macOf 0).sendEnd))).getD (s.ringsSettle 0)) ∧
      (((s.ringsSettle 0).reach (timeOfUnits ((s.ringsSettle 0).nextStart 0 ((s.ringsSettle 0).macOf 0).sendEnd))).getD (s.ringsSettle 0)).nextPlaced 0 = none ∧
      ((((s.ringsSettle 0).reach (timeOfUnits ((s.ringsSettle 0).nextStart 0 ((s.ringsSettle 0).macOf 0).sendEnd))).getD (s.ringsSettle 0)).macOf 0).halted = none ∧
      ((((s.ringsSettle 0).reach (timeOfUnits ((s.ringsSettle 0).nextStart 0 ((s.ringsSettle 0).macOf 0).sendEnd))).getD (s.ringsSettle 0)).macOf 0).burst = none ∧
      bestOf ((((s.ringsSettle 0).reach (timeOfUnits ((s.ringsSettle 0).nextStart 0 ((s.ringsSettle 0).macOf 0).sendEnd))).getD (s.ringsSettle 0)).macOf 0).served ((((s.ringsSettle 0).reach (timeOfUnits ((s.ringsSettle 0).nextStart 0 ((s.ringsSettle 0).macOf 0).sendEnd))).getD (s.ringsSettle 0)).ready 0 (unitsOf (((s.ringsSettle 0).reach (timeOfUnits ((s.ringsSettle 0).nextStart 0 ((s.ringsSettle 0).macOf 0).sendEnd))).getD (s.ringsSettle 0)).tln.now)) = some (W.unit (some 0)) ∧
      (((s.ringsSettle 0).reach (timeOfUnits ((s.ringsSettle 0).nextStart 0 ((s.ringsSettle 0).macOf 0).sendEnd))).getD (s.ringsSettle 0)).muted (W.unit (some 0)) = false ∧
      (W.unit (some 0)).launch = some 0) ∧
    (∃ s : State, s = W.wait (W.unit (some 128000000)) (W.eth W.run) ∧ s.active (pgETH 0) = true ∧
      (s.ringsSettle 0).nextPlaced 0 = some (W.unit (some 128000000)) ∧
      (W.unit (some 128000000)).launch = some 128000000 ∧
      (s.ringsSettle 0).reach (timeOfUnits 128000000) = some (((s.ringsSettle 0).reach (timeOfUnits 128000000)).getD (s.ringsSettle 0)) ∧
      unitsOf (((s.ringsSettle 0).reach (timeOfUnits 128000000)).getD (s.ringsSettle 0)).tln.now ≤ 128000000 ∧
      (((s.ringsSettle 0).reach (timeOfUnits 128000000)).getD (s.ringsSettle 0)).srcBusy 0 (W.unit (some 128000000)).src = false ∧
      (((s.ringsSettle 0).reach (timeOfUnits 128000000)).getD (s.ringsSettle 0)).muted (W.unit (some 128000000)) = false ∧
      ((((s.ringsSettle 0).reach (timeOfUnits 128000000)).getD (s.ringsSettle 0)).makeWay 0 128000000 (W.unit (some 128000000))).macReady 0 = true ∧
      ((((s.ringsSettle 0).reach (timeOfUnits 128000000)).getD (s.ringsSettle 0)).makeWay 0 128000000 (W.unit (some 128000000))).held 0 = false ∧
      ((((s.ringsSettle 0).reach (timeOfUnits 128000000)).getD (s.ringsSettle 0)).makeWay 0 128000000 (W.unit (some 128000000))).nextStart 0 (((((s.ringsSettle 0).reach (timeOfUnits 128000000)).getD (s.ringsSettle 0)).makeWay 0 128000000 (W.unit (some 128000000))).macOf 0).sendEnd ≤ 128000000) ∧
    (∃ s : State, s = W.cutting (W.eth W.run) ∧ (let __src := W.unit none; TxUnit.mk __src.src __src.frames __src.launch true __src.prio __src.dropLate __src.chain __src.irq __src.tstamp __src.tag __src.inPort __src.inAt __src.inValid __src.status __src.first __src.cut __src.whenActive).express = true ∧
      s.canPreempt 0 (s.cutFor 0 12800000) = true) ∧
    (∃ s : State, s = State.reset ∧ ((let __src := W.unit none; TxUnit.mk __src.src __src.frames __src.launch true __src.prio __src.dropLate __src.chain __src.irq __src.tstamp __src.tag __src.inPort __src.inAt __src.inValid __src.status __src.first __src.cut __src.whenActive).express = false ∨ s.canPreempt 0 (s.cutFor 0 12800000) = false)) ∧
    (∃ s : State, s = W.cutting (W.eth W.run) ∧ ((W.unit none).express = false ∨ s.canPreempt 0 (s.cutFor 0 12800000) = false)) ∧
    (∃ s : State, s = State.reset ∧ (W.unit none).src ≠ 5 ∧
      (W.unit none).src ≠ 6) ∧
    (∃ s a : State, s = W.sends (W.unit none) (W.eth W.run) ∧ s.reach (timeOfUnits (s.macOf 0).sendEnd) = some a ∧ (s.macOf 0).sending = some (W.unit none)) ∧
    (∃ s : State, s = (W.eth W.run).setFld (pgETH 0) Eth.MAC_MODE (2, 1) 1 ∧ s.aclkRuns = true ∧
      (s.fecCorrects 0 0).active (pgETH 0) = true ∧
      (s.fecCorrects 0 0).macLink 0 = true ∧
      1 ≠ 0 ∧
      (s.fecCorrects 0 0).rsFec 0 = true) ∧
    (∃ s : State, s = W.eth W.run ∧ s.aclkRuns = true ∧
      (s.fecCorrects 0 0).active (pgETH 0) = true ∧
      (s.fecCorrects 0 0).macLink 0 = true ∧
      (1 = 0 ∨ (s.fecCorrects 0 0).rsFec 0 = false) ∧
      2 = 2) ∧
    (∃ s : State, s = W.eth W.run ∧ s.aclkRuns = true ∧
      (s.fecCorrects 0 0).active (pgETH 0) = true ∧
      (s.fecCorrects 0 0).macLink 0 = true ∧
      (0 = 0 ∨ (s.fecCorrects 0 0).rsFec 0 = false) ∧
      1 = 1 ∧
      60 ≤ (List.replicate 60 0).length ∧
      (List.replicate 60 0).length + 4 ≤ (s.fecCorrects 0 0).maxFrame 0) ∧
    (∃ s : State, s = W.eth W.run ∧ s.aclkRuns = true ∧
      (s.fecCorrects 0 0).active (pgETH 0) = true ∧
      (s.fecCorrects 0 0).macLink 0 = true ∧
      (0 = 0 ∨ (s.fecCorrects 0 0).rsFec 0 = false) ∧
      1 < 2 ∧
      (List.replicate 59 0).length < 60) ∧
    (∃ s : State, s = W.eth W.run ∧ s.aclkRuns = true ∧
      (s.fecCorrects 0 0).active (pgETH 0) = true ∧
      (s.fecCorrects 0 0).macLink 0 = true ∧
      (0 = 0 ∨ (s.fecCorrects 0 0).rsFec 0 = false) ∧
      0 < 2 ∧
      60 ≤ (List.replicate 1600 0).length ∧
      (s.fecCorrects 0 0).maxFrame 0 < (List.replicate 1600 0).length + 4) ∧
    (∃ s : State, s = W.eth W.run ∧ s.aclkRuns = true ∧
      (s.fecCorrects 0 0).active (pgETH 0) = true ∧
      (s.fecCorrects 0 0).macLink 0 = true ∧
      (0 = 0 ∨ (s.fecCorrects 0 0).rsFec 0 = false) ∧
      0 = 0 ∧
      60 ≤ (List.replicate 60 0).length ∧
      (List.replicate 60 0).length + 4 ≤ (s.fecCorrects 0 0).maxFrame 0 ∧
      ((((((((s.fecCorrects 0 0).macMs 0).modMac 0 fun x => MacState.mk x.waiting x.headAt x.sending x.sendAt x.sendEnd x.burst x.halted x.lastPlaced x.phase x.served x.pauseEnd x.pauseNext x.xoff x.linkAt x.settled x.tries x.verifyAt x.timers x.raised (x.msCount + 1) x.msLast x.stall).inc (pgETH 0) Eth.RX_GOOD).count (720 + 8 * 0) 1).count (720 + 8 * 0 + 1) ((List.replicate 60 0).length + 4)).queuePacket 0 0 (List.replicate 60 0)).queue 0 0).committed ≠ (((((((s.fecCorrects 0 0).macMs 0).modMac 0 fun x => MacState.mk x.waiting x.headAt x.sending x.sendAt x.sendEnd x.burst x.halted x.lastPlaced x.phase x.served x.pauseEnd x.pauseNext x.xoff x.linkAt x.settled x.tries x.verifyAt x.timers x.raised (x.msCount + 1) x.msLast x.stall).inc (pgETH 0) Eth.RX_GOOD).count (720 + 8 * 0) 1).count (720 + 8 * 0 + 1) ((List.replicate 60 0).length + 4)).queue 0 0).committed) ∧
    (∃ s : State, s = State.reset ∧ etherType (List.replicate 12 0 ++ [136, 8, 0, 1, 0, 5]) = 34824 ∧
      beAt (List.replicate 12 0 ++ [136, 8, 0, 1, 0, 5]) (etherEnd (List.replicate 12 0 ++ [136, 8, 0, 1, 0, 5])) 2 = 1) ∧
    (∃ s : State, s = State.reset ∧ etherType (List.replicate 12 0 ++ [136, 8, 1, 1, 0, 5]) = 34824 ∧
      beAt (List.replicate 12 0 ++ [136, 8, 1, 1, 0, 5]) (etherEnd (List.replicate 12 0 ++ [136, 8, 1, 1, 0, 5])) 2 ≠ 1) ∧
    (∃ s : State, s = State.reset.setNat pgBR Br.BR_PORT 3 ∧ etherType (beBytes 6 1652522221583 ++ List.replicate 10 0) ≠ 34824 ∧
      1652522221568 ≤ macDst (beBytes 6 1652522221583 ++ List.replicate 10 0) ∧
      macDst (beBytes 6 1652522221583 ++ List.replicate 10 0) ≤ 1652522221583 ∧
      s.brPort 0 ≠ 0) :=
  ⟨⟨_, rfl, by decide +kernel⟩,
    ⟨_, rfl, by decide +kernel⟩,
    ⟨_, rfl, by decide +kernel⟩,
    ⟨_, rfl, by decide +kernel⟩,
    ⟨_, rfl, by decide +kernel⟩,
    ⟨_, rfl, by decide +kernel⟩,
    ⟨_, rfl, by decide +kernel⟩,
    ⟨_, rfl, by decide +kernel⟩,
    ⟨_, rfl, by decide +kernel⟩,
    ⟨_, rfl, by decide +kernel⟩,
    ⟨_, rfl, by decide +kernel⟩,
    ⟨_, rfl, by decide +kernel⟩,
    ⟨_, _, rfl, W.ofSome _ (by decide +kernel), by decide +kernel⟩,
    ⟨_, rfl, by decide +kernel⟩,
    ⟨_, rfl, by decide +kernel⟩,
    ⟨_, rfl, by decide +kernel⟩,
    ⟨_, rfl, by decide +kernel⟩,
    ⟨_, rfl, by decide +kernel⟩,
    ⟨_, rfl, by decide +kernel⟩,
    ⟨_, rfl, by decide +kernel⟩,
    ⟨_, rfl, by decide +kernel⟩,
    ⟨_, rfl, by decide +kernel⟩⟩

theorem witness_LinksAct :
    (∃ s a : State, s = W.paused (W.eth W.run) ∧ s.reach (timeOfUnits 640) = some a ∧ (s.macOf 0).pauseEnd = some 640) ∧
    (∃ s : State, s = ((W.eth W.run).setNat (pgETH 0) Eth.PAUSE_LEVEL 0).setNat (pgETH 0) Eth.PAUSE_CTRL 65538 ∧ s.flag (pgETH 0) Eth.PAUSE_CTRL 1 = true ∧
      s.active (pgETH 0) = true ∧
      (s.macOf 0).xoff = none ∧
      32 * s.fld (pgETH 0) Eth.PAUSE_LEVEL (15, 0) ≤ (s.queue 0 0).words.length) ∧
    (∃ s : State, s = (W.xoff (W.eth W.run)).setNat (pgETH 0) Eth.PAUSE_CTRL 65538 ∧ s.flag (pgETH 0) Eth.PAUSE_CTRL 1 = true ∧
      s.active (pgETH 0) = true ∧
      (s.macOf 0).xoff = some 640 ∧
      (s.queue 0 0).words.length ≤ 32 * s.fld (pgETH 0) Eth.PAUSE_LEVEL (31, 16)) ∧
    (∃ s a : State, s = ((W.timer (W.eth W.run)).setNat (pgETH 0) (modOff 7) 65536).setNat (pgETH 0) (pendOff 7) 1 ∧ s.reach (timeOfUnits (0 + s.fld (pgETH 0) (modOff 7) (31, 16) * 1000 * LU)) = some a ∧ Tab.get (fun x => none) (s.macOf 0).timers 7 = some 0 ∧
      s.fld (pgETH 0) (modOff 7) (31, 16) ≠ 0 ∧
      a.nat (pgETH 0) (pendOff 7) ≠ 0) ∧
    (∃ s a : State, s = (W.timer (W.eth W.run)).setNat (pgETH 0) (modOff 7) 65536 ∧ s.reach (timeOfUnits (0 + s.fld (pgETH 0) (modOff 7) (31, 16) * 1000 * LU)) = some a ∧ Tab.get (fun x => none) (s.macOf 0).timers 7 = some 0 ∧
      s.fld (pgETH 0) (modOff 7) (31, 16) ≠ 0 ∧
      a.nat (pgETH 0) (pendOff 7) = 0) ∧
    (∃ s : State, s = W.enable W.run (pgETH 0) ∧ s.macLink 0 = false ∧
      s.enabled (pgETH 0) = true) ∧
    (∃ s : State, s = W.eth W.run ∧ s.macLink 0 = true) ∧
    (∃ s a : State, s = W.eth W.run ∧ s.reach (timeOfUnits ((s.macOf 0).linkAt + 1000000 * LU)) = some a ∧ s.macLink 0 = true) ∧
    (∃ s : State, s = (W.eth W.run).setPreempt 0 1 ∧ s.preemptState 0 = 1) ∧
    (∃ s a : State, s = (W.tries (W.eth W.run)).setPreempt 0 1 ∧ s.reach (timeOfUnits ((s.macOf 0).verifyAt + s.fld (pgETH 0) Eth.PREEMPT_CTRL (15, 8) * 1000000 * LU)) = some a ∧ s.preemptState 0 = 1 ∧
      (s.macOf 0).tries = 2) ∧
    (∃ s a : State, s = (W.eth W.run).setPreempt 0 1 ∧ s.reach (timeOfUnits ((s.macOf 0).verifyAt + s.fld (pgETH 0) Eth.PREEMPT_CTRL (15, 8) * 1000000 * LU)) = some a ∧ s.preemptState 0 = 1 ∧
      (s.macOf 0).tries ≠ 2) :=
  ⟨⟨_, _, rfl, W.ofSome _ (by decide +kernel), by decide +kernel⟩,
    ⟨_, rfl, by decide +kernel⟩,
    ⟨_, rfl, by decide +kernel⟩,
    ⟨_, _, rfl, W.ofSome _ (by decide +kernel), by decide +kernel⟩,
    ⟨_, _, rfl, W.ofSome _ (by decide +kernel), by decide +kernel⟩,
    ⟨_, rfl, by decide +kernel⟩,
    ⟨_, rfl, by decide +kernel⟩,
    ⟨_, _, rfl, W.ofSome _ (by decide +kernel), by decide +kernel⟩,
    ⟨_, rfl, by decide +kernel⟩,
    ⟨_, _, rfl, W.ofSome _ (by decide +kernel), by decide +kernel⟩,
    ⟨_, _, rfl, W.ofSome _ (by decide +kernel), by decide +kernel⟩⟩

theorem witness_TheForwardingDatabaseActs :
    (∃ s : State, s = State.reset ∧ s.reaches pgBR = true ∧
      s.counted.flag pgBR Br.FDB_STATUS 0 = false ∧
      (List.filter (fun e => sameSet e.mac s.counted.fdbMac) (List.filter (fun e => e.mac != s.counted.fdbMac) s.bridge.fdb)).length < 4) ∧
    (∃ s : State, s = State.reset ∧ s.reaches pgBR = true ∧
      s.counted.flag pgBR Br.FDB_STATUS 0 = false) ∧
    (∃ s : State, s = State.reset.setFlag pgBR Br.FDB_STATUS 0 true ∧ s.reaches pgBR = true ∧
      s.counted.flag pgBR Br.FDB_STATUS 0 = true) ∧
    (∃ s a : State, s = (W.fdb1 W.run).setNat pgBR Br.AGE_TIME 1 ∧ s.reach ((FdbEntry.mk 5 1 false 0).seen + s.fld pgBR Br.AGE_TIME (15, 0) * SEC * NS) = some a ∧ s.fdbFind W.mac5.toNat = some (FdbEntry.mk 5 1 false 0) ∧
      (FdbEntry.mk 5 1 false 0).fixed = false ∧
      s.fld pgBR Br.AGE_TIME (15, 0) ≠ 0) :=
  ⟨⟨_, rfl, by decide +kernel⟩,
    ⟨_, rfl, by decide +kernel⟩,
    ⟨_, rfl, by decide +kernel⟩,
    ⟨_, _, rfl, W.ofSome _ (by decide +kernel), by decide +kernel⟩⟩

/-- The database holds four static entries of address `x`, and the command registers name `y`. -/
def W.fdbFull (x y : Nat) : State :=
  { State.reset.setNat pgBR Br.FDB_MAC_LO y with bridge := ⟨List.replicate 4 ⟨x, 1, true, 0⟩, none⟩ }

/-- Whatever set an address has, two addresses below 1,025 share theirs. -/
theorem W.collide : ∃ x y : Fin 1025, x ≠ y ∧ Config.fdbSet x = Config.fdbSet y := by
  have h : Fintype.card (BitVec 10) < Fintype.card (Fin 1025) := by
    rw [Fintype.card_congr (⟨BitVec.toFin, BitVec.ofFin, fun _ => rfl, fun _ => rfl⟩ : BitVec 10 ≃ Fin (2 ^ 10))]
    simp
  obtain ⟨x, y, hxy, he⟩ := Fintype.exists_ne_map_eq_of_card_lt (fun x : Fin 1025 => Config.fdbSet x) h
  exact ⟨x, y, hxy, he⟩

theorem W.fdbFull_reg (x y off : Nat) (h : countKey (regKey pgBR off) = false) :
    (W.fdbFull x y).counted.reg pgBR off
      = if regKey pgBR off = regKey pgBR Br.FDB_MAC_LO then BitVec.ofNat 32 y else State.reset.reg pgBR off := by
  have h1 : (W.fdbFull x y).counted.reg pgBR off = (State.reset.setReg pgBR Br.FDB_MAC_LO (BitVec.ofNat 32 y)).reg pgBR off :=
    (W.fdbFull x y).counted_same.regs _ h
  rw [h1, State.reg_setReg]

theorem W.fdbFull_mac (x : Nat) (y : Fin 1025) : (W.fdbFull x y).counted.fdbMac = y := by
  unfold State.fdbMac State.nat State.fld
  rw [W.fdbFull_reg x y _ (by decide +kernel), W.fdbFull_reg x y _ (by decide +kernel), if_pos rfl,
    if_neg (by decide +kernel), show bits (State.reset.reg pgBR Br.FDB_MAC_HI) (15, 0) = 0 by decide +kernel, BitVec.toNat_ofNat]
  omega

theorem witness_TheForwardingDatabaseActs_full : ∃ s : State,
    s.reaches pgBR = true ∧ s.counted.flag pgBR Br.FDB_STATUS 0 = false ∧
    4 ≤ ((s.bridge.fdb.filter (fun e => e.mac != s.counted.fdbMac)).filter (fun e => sameSet e.mac s.counted.fdbMac)).length ∧
    ∀ e ∈ s.bridge.fdb.filter (fun e => e.mac != s.counted.fdbMac), sameSet e.mac s.counted.fdbMac = true → e.fixed = true := by
  obtain ⟨x, y, hxy, he⟩ := W.collide
  have hs : sameSet x.val y.val = true := by unfold sameSet; rw [he]; exact beq_self_eq_true _
  have hn : (x.val != y.val) = true := by
    rw [bne_iff_ne]
    exact fun h => hxy (Fin.ext h)
  have hb : (W.fdbFull x y).bridge.fdb = List.replicate 4 ⟨x, 1, true, 0⟩ := rfl
  refine ⟨W.fdbFull x y, ?_, ?_, ?_, ?_⟩
  · unfold State.reaches State.isResetting
    rw [(W.fdbFull x y).counted_same.dev]
    exact show (State.reset.aclkRuns && !State.reset.isResetting pgBR) = true by decide +kernel
  · unfold State.flag
    rw [W.fdbFull_reg x y _ (by decide +kernel), if_neg (by decide +kernel)]
    decide +kernel
  · rw [W.fdbFull_mac, hb]
    simp [List.replicate, List.filter, hn, hs]
  · rw [W.fdbFull_mac, hb]
    intro e hm _
    have := (List.mem_filter.mp hm).1
    rw [List.eq_of_mem_replicate this]

/-- The merge runs with a source of universe 4095, silent since 0. -/
def W.merging (s : State) : State :=
  ((W.enable s pgFIX).setFlag pgFIX Fix.MERGE_CTRL 0 true).setMergeSources 4095 [⟨3, some 7, 0, 100, 0, 0⟩]

/-- An apply was held; a FIXUP job captured the slot that the next epoch would take. -/
def W.mergeHeld (s : State) : State := (W.merging s).setSts pgFIX Fix.S_MERGE_HELD 1
def W.mergeBusy (s : State) : State :=
  W.region (fun r => { r with jobs := [{ W.job .waiting 127 [1, 0, 0, 0, 0, 1, 0, 0] with epoch := 1 }] }) (W.mergeHeld s)

/-- A packet of epoch 1 waits in the merge's queue. -/
def W.tagged : List Byte := mergeEntry 1 0 1 100 0 (List.replicate 12 0) [0, 1]
def W.mergeTagged (s : State) : State := s.mergeQueue W.tagged

/-- The stream engine runs, holding the Stile, with entry 0 on Swath 0, which is RUNNING, and a launch and slots of it. -/
def W.stream (choice : Option (Option Nat)) (fill : Option Fill) : State :=
  ((((W.enable (W.held { W.run with launch := [(keySTR 0, [W.l4 choice])] }) pgSTR).setNat pgSTR Str.STREAM_BASE_HI 1).setByte
    DRAM_BASE 1).setSts (pgSWT 0) Swt.S_SWATH_STATE 2).setPort (keySTR 0) { PortState.init with fill0 := fill }

/-- Streams of Swath 15 end, with `n` sends left. -/
def W.term (n : Nat) (s : State) : State := { W.held s with str := ⟨[(15, n, 640)], none⟩ }

theorem witness_MergesAndStreamsAct :
    (∃ s a : State, s = W.mergeHeld (W.held W.run) ∧ a = W.mergeHeld (W.held W.run) ∧ (if s.sts pgFIX Fix.S_MERGE_HELD = 1 then some s else if s.swathState s.mergeSwath = 2 then none else s.reachTick tickMerge MS 0) = some s ∧
      s.isStandby = false ∧
      s.mergeOn = true ∧
      s.epochBusy (s.mergeEpoch + 1) = false) ∧
    (∃ s a : State, s = W.mergeBusy (W.held W.run) ∧ a = W.mergeBusy (W.held W.run) ∧ (if s.sts pgFIX Fix.S_MERGE_HELD = 1 then some s else if s.swathState s.mergeSwath = 2 then none else s.reachTick tickMerge MS 0) = some s ∧
      s.isStandby = false ∧
      s.mergeOn = true ∧
      s.epochBusy (s.mergeEpoch + 1) = true) ∧
    (∃ s : State, s = W.merging W.run ∧ s.isStandby = true ∧
      (s.mergeSpent (s.queue 3 0).committed).headPacket 3 0 = none) ∧
    (∃ s : State, s = W.mergeTagged (W.merging W.run) ∧ s.isStandby = true ∧
      (s.mergeSpent (s.queue 3 0).committed).headPacket 3 0 = some W.tagged ∧
      (s.mergeSpent (s.queue 3 0).committed).mergeOn = true ∧
      (s.mergeSpent (s.queue 3 0).committed).epochBusy (entryTag W.tagged) = false) ∧
    (∃ s : State, s = W.mergeTagged (W.mergeBusy W.run) ∧ s.isStandby = true ∧
      (s.mergeSpent (s.queue 3 0).committed).headPacket 3 0 = some W.tagged ∧
      (s.mergeSpent (s.queue 3 0).committed).mergeOn = true ∧
      (s.mergeSpent (s.queue 3 0).committed).epochBusy (entryTag W.tagged) = true) ∧
    (∃ s a : State, s = W.merging W.run ∧ s.reach (List.foldl max (MergeSource.mk 3 (some 7) 0 100 0 0).seen (s.queuedSeen 4095 7) + s.fld pgFIX Fix.SRC_LOSS_MS (12, 0) * 1000000 * NS) = some a ∧ List.find? (fun m => m.place == 3) (s.mergeSources 4095) = some (MergeSource.mk 3 (some 7) 0 100 0 0) ∧
      (MergeSource.mk 3 (some 7) 0 100 0 0).cid = some 7) ∧
    (∃ s : State, s = W.stream none (some { frame := 4, count := 200 }) ∧ earliest (List.filter (fun l => l.choice.isNone) ((W.stream none (some (Fill.mk 4 200))).launches (keySTR 0))) = some (W.l4 none) ∧
      (W.stream none (some (Fill.mk 4 200))).reach ((W.stream none (some (Fill.mk 4 200))).strCheckAt 0 (W.l4 none)) = some (((W.stream none (some (Fill.mk 4 200))).reach ((W.stream none (some (Fill.mk 4 200))).strCheckAt 0 (W.l4 none))).getD (W.stream none (some (Fill.mk 4 200)))) ∧
      (((W.stream none (some (Fill.mk 4 200))).reach ((W.stream none (some (Fill.mk 4 200))).strCheckAt 0 (W.l4 none))).getD (W.stream none (some (Fill.mk 4 200)))).strSends 0 (W.l4 none).swath = true ∧
      (((W.stream none (some (Fill.mk 4 200))).reach ((W.stream none (some (Fill.mk 4 200))).strCheckAt 0 (W.l4 none))).getD (W.stream none (some (Fill.mk 4 200)))).strPacked 0 (W.l4 none).frame = true) ∧
    (∃ s a : State, s = W.stream none none ∧ s.reach (s.strCheckAt 0 (W.l4 none)) = some a ∧ earliest (List.filter (fun l => l.choice.isNone) (s.launches (keySTR 0))) = some (W.l4 none) ∧
      a.strSends 0 (W.l4 none).swath = true ∧
      a.strPacked 0 (W.l4 none).frame = false) ∧
    (∃ s : State, s = W.stream (some (some 4)) (some { frame := 4, count := 200 }) ∧ earliest ((W.stream (some (some 4)) (some (Fill.mk 4 200))).launches (keySTR 0)) = some (W.l4 (some (some 4))) ∧
      (W.l4 (some (some 4))).choice = some (some 4) ∧
      (W.stream (some (some 4)) (some (Fill.mk 4 200))).reach ((W.stream (some (some 4)) (some (Fill.mk 4 200))).strCheckAt 0 (W.l4 (some (some 4)))) = some (((W.stream (some (some 4)) (some (Fill.mk 4 200))).reach ((W.stream (some (some 4)) (some (Fill.mk 4 200))).strCheckAt 0 (W.l4 (some (some 4))))).getD (W.stream (some (some 4)) (some (Fill.mk 4 200)))) ∧
      (((W.stream (some (some 4)) (some (Fill.mk 4 200))).reach ((W.stream (some (some 4)) (some (Fill.mk 4 200))).strCheckAt 0 (W.l4 (some (some 4))))).getD (W.stream (some (some 4)) (some (Fill.mk 4 200)))).strSends 0 (W.l4 (some (some 4))).swath = true) ∧
    (∃ s a : State, s = W.term 3 W.run ∧ s.reach 640 = some a ∧ List.find? (fun y => y.fst == 15) s.str.term = some (15, 3, 640)) ∧
    (∃ s a : State, s = W.term 1 W.run ∧ s.reach 640 = some a ∧ List.find? (fun y => y.fst == 15) s.str.term = some (15, 1, 640) ∧
      (State.mk a.pending a.live a.shadow a.armed a.mem a.prog a.queues a.dev a.icu a.tln a.syn a.evr a.pmc a.out a.swt a.launch a.snaps a.progStage a.plu a.region a.port a.dmx a.cluster a.lamp a.field a.red a.merge a.mac a.bridge a.ntm a.ing (have __src := a.str; StrState.mk (if 1 < 1 then List.filter (fun y => y.fst != 15) s.str.term ++ [(15, 1 - 1, a.tln.now + 1000000 * NS)] else List.filter (fun y => y.fst != 15) s.str.term) __src.discAt) a.pwr a.hth a.boot a.thm a.cal a.fwu a.jtag).stileHeld = true) ∧
    (∃ s a : State, s = (W.enable (W.held W.run) pgSTR).setFlag pgSTR Str.STR_CTRL 0 true ∧ a = (W.enable (W.held W.run) pgSTR).setFlag pgSTR Str.STR_CTRL 0 true ∧ s.active pgSTR = true ∧
      s.flag pgSTR Str.STR_CTRL 0 = true ∧
      s.stileHeld = true ∧
      (match s.str.discAt with | none => some s | some x => s.reach (x + 10 * SEC * NS)) = some s) :=
  ⟨⟨_, _, rfl, rfl, by decide +kernel⟩,
    ⟨_, _, rfl, rfl, by decide +kernel⟩,
    ⟨_, rfl, by decide +kernel⟩,
    ⟨_, rfl, by decide +kernel⟩,
    ⟨_, rfl, by decide +kernel⟩,
    ⟨_, _, rfl, W.ofSome _ (by decide +kernel), by decide +kernel⟩,
    ⟨_, rfl, by decide +kernel⟩,
    ⟨_, _, rfl, W.ofSome _ (by decide +kernel), by decide +kernel⟩,
    ⟨_, rfl, by decide +kernel⟩,
    ⟨_, _, rfl, W.ofSome _ (by decide +kernel), by decide +kernel⟩,
    ⟨_, _, rfl, W.ofSome _ (by decide +kernel), by decide +kernel⟩,
    ⟨_, _, rfl, rfl, by decide +kernel⟩⟩

/-- PTP runs on port 0 in a port state, over Ethernet, its MAC settled; the clock and parent identities are 0. -/
def W.ptp (state : Nat) : State :=
  ({ (((((W.enable (W.eth W.run) pgNTM).setNat pgNTM (Ntm.PORT_CTRL 0) 1).setNat pgNTM (Ntm.PORT_STATE 0) state).setNat pgNTM
      Ntm.CLOCK_ID_LO 0).setNat pgNTM Ntm.CLOCK_ID_HI 0).setFld pgNTM Ntm.NTM_CTRL Ntm.DOMAIN 0 with mac := [(0, { MacState.init with settled := true })] }.setSts pgTLN
    Tln.S_TL_STATE 2).setSts pgNTM Ntm.S_PTP_VALID 1

/-- Changes what network time holds beside its registers. -/
def W.ntm (f : NtmState → NtmState) (s : State) : State := { s with ntm := f s.ntm }

/-- A Delay_Req is open, not sent yet or sent at 64; a Sync waits with sequenceId 0. -/
def W.req (s : State) : State := W.ntm (fun n => { n with req := some ⟨0, 0, none⟩ }) s
def W.reqSent (s : State) : State := W.ntm (fun n => { n with req := some ⟨0, 0, some 64⟩, ms := some 0 }) s
def W.sync (s : State) : State := W.ntm (fun n => { n with sync := some ⟨0, 0, 64⟩ }) s

/-- A reply waits on port 0; 4,096 requests were answered this second; the time queue holds an entry. -/
def W.reply (s : State) : State := W.ntm (fun n => { n with replies := [(0, [1, 2])] }) s
def W.answered (s : State) : State := W.ntm (fun n => { n with answered := [(0, 4096)] }) s
def W.stamps (s : State) : State := W.ntm (fun n => { n with tsq := [⟨5, 6, 0⟩, ⟨7, 8, 0⟩] }) s

/-- A PTP message over Ethernet of zeros, of two steps or one; the answer to the request of port 1. -/
def W.ptpFrame (flags : Byte) : List Byte :=
  List.replicate 12 0 ++ [0x88, 0xF7] ++ List.replicate 6 0 ++ [flags] ++ List.replicate 47 0
def W.ptpResp : List Byte := List.replicate 12 0 ++ [0x88, 0xF7] ++ List.replicate 53 0 ++ [1]

theorem witness_NetworkTimeSends :
    (∃ s : State, s = W.ptp 4 ∧ s.ptpOn 0 = true ∧
      s.portState 0 = 4 ∧
      s.tlState ≠ 0) ∧
    (∃ s a : State, s = W.ptp 4 ∧ a = W.ptp 4 ∧ s.ptpOn 0 = true ∧
      s.portState 0 = 4 ∧
      (match Tab.get (fun x => none) s.ntm.sentAt (2 * 0 + 1) with | some x => s.reach (timeOfUnits (x + logUnits (s.logOf 0 Ntm.LOG_ANNOUNCE))) | none => some s) = some s) ∧
    (∃ s a : State, s = W.ptp 2 ∧ s.reach s.ntm.reqDue = some a ∧ s.slavePort = some 0 ∧
      s.ptpOn 0 = true ∧
      s.ntm.req = none) ∧
    (∃ s a : State, s = W.req (W.ptp 3) ∧ s.reach ((DelayReq.mk 0 0 none).at_ + logUnits (s.logOf 0 Ntm.LOG_DELAY_REQ + 1) * 2 ^ 48 / LU) = some a ∧ s.slavePort = some 0 ∧
      s.ntm.req = some (DelayReq.mk 0 0 none)) ∧
    (∃ s : State, s = W.reply (W.ptp 4) ∧ s.ntm.replies = [(0, [1, 2])] ∧
      s.ptpOn 0 = true ∧
      s.portState 0 = 4) ∧
    (∃ s : State, s = W.reply (W.ptp 3) ∧ s.ntm.replies = [(0, [1, 2])] ∧
      (s.ptpOn 0 = false ∨ s.portState 0 ≠ 4)) ∧
    (∃ s : State, s = W.stamps (W.ptp 4) ∧ s.aclkRuns = true) :=
  ⟨⟨_, rfl, by decide +kernel⟩,
    ⟨_, _, rfl, rfl, by decide +kernel⟩,
    ⟨_, _, rfl, W.ofSome _ (by decide +kernel), by decide +kernel⟩,
    ⟨_, _, rfl, W.ofSome _ (by decide +kernel), by decide +kernel⟩,
    ⟨_, rfl, by decide +kernel⟩,
    ⟨_, rfl, by decide +kernel⟩,
    ⟨_, rfl, by decide +kernel⟩⟩

theorem witness_NetworkTimeReceives :
    (∃ s : State, s = W.ptp 4 ∧ s.aclkRuns = true ∧
      ptpAt (W.ptpFrame 0) = some 14 ∧
      s.ptpOn 0 = true ∧
      s.settling 0 = false ∧
      s.portState 0 = 4 ∧
      ptpDomain (W.ptpFrame 0) 14 = s.fld pgNTM Ntm.NTM_CTRL Ntm.DOMAIN ∧
      (if Tab.get (fun x => 0) s.ntm.answerSec 0 = s.tln.now / (SEC * NS) then Tab.get (fun x => 0) s.ntm.answered 0 else 0) < 4096) ∧
    (∃ s : State, s = W.answered (W.ptp 4) ∧ s.aclkRuns = true ∧
      ptpAt (W.ptpFrame 0) = some 14 ∧
      s.ptpOn 0 = true ∧
      s.settling 0 = false ∧
      s.portState 0 = 4 ∧
      ptpDomain (W.ptpFrame 0) 14 = s.fld pgNTM Ntm.NTM_CTRL Ntm.DOMAIN ∧
      4096 ≤ if Tab.get (fun x => 0) s.ntm.answerSec 0 = s.tln.now / (SEC * NS) then Tab.get (fun x => 0) s.ntm.answered 0 else 0) ∧
    (∃ s : State, s = W.ptp 2 ∧ s.aclkRuns = true ∧
      ptpAt (W.ptpFrame 2) = some 14 ∧
      s.ptpOn 0 = true ∧
      s.settling 0 = false ∧
      (s.portState 0 = 2 ∨ s.portState 0 = 3) ∧
      s.fromParent (W.ptpFrame 2) 14 = true ∧
      s.seqLater (ptpSeq (W.ptpFrame 2) 14) = true ∧
      ptpTwoStep (W.ptpFrame 2) 14 = true) ∧
    (∃ s : State, s = W.ptp 3 ∧ s.aclkRuns = true ∧
      ptpAt (W.ptpFrame 0) = some 14 ∧
      s.ptpOn 0 = true ∧
      s.settling 0 = false ∧
      (s.portState 0 = 2 ∨ s.portState 0 = 3) ∧
      s.fromParent (W.ptpFrame 0) 14 = true ∧
      s.seqLater (ptpSeq (W.ptpFrame 0) 14) = true ∧
      ptpTwoStep (W.ptpFrame 0) 14 = false) ∧
    (∃ s : State, s = (W.ptp 2).setNat pgNTM Ntm.PARENT_PORT 1 ∧ s.aclkRuns = true ∧
      ptpAt (W.ptpFrame 0) = some 14 ∧
      s.ptpOn 0 = true ∧
      s.settling 0 = false ∧
      (s.fromParent (W.ptpFrame 0) 14 = false ∨ s.seqLater (ptpSeq (W.ptpFrame 0) 14) = false ∨ s.portState 0 ≠ 2 ∧ s.portState 0 ≠ 3)) ∧
    (∃ s : State, s = W.sync (W.ptp 2) ∧ s.aclkRuns = true ∧
      ptpAt (W.ptpFrame 0) = some 14 ∧
      s.ntm.sync = some (OpenSync.mk 0 0 64) ∧
      s.ptpOn 0 = true ∧
      (s.portState 0 = 2 ∨ s.portState 0 = 3) ∧
      s.fromParent (W.ptpFrame 0) 14 = true ∧
      ptpSeq (W.ptpFrame 0) 14 = (OpenSync.mk 0 0 64).seq) ∧
    (∃ s : State, s = W.reqSent (W.ptp 2) ∧ s.aclkRuns = true ∧
      ptpAt W.ptpResp = some 14 ∧
      s.ntm.req = some (DelayReq.mk 0 0 (some 64)) ∧
      s.ntm.ms = some 0 ∧
      (DelayReq.mk 0 0 (some 64)).sent = some 64 ∧
      s.ptpOn 0 = true ∧
      s.slavePort = some 0 ∧
      ptpDomain W.ptpResp 14 = s.fld pgNTM Ntm.NTM_CTRL Ntm.DOMAIN ∧
      beAt W.ptpResp (14 + 44) 10 = (s.nat pgNTM Ntm.CLOCK_ID_HI * 2 ^ 32 + s.nat pgNTM Ntm.CLOCK_ID_LO) * 65536 + 0 + 1 ∧
      ptpSeq W.ptpResp 14 = (DelayReq.mk 0 0 (some 64)).seq) ∧
    (∃ s a : State, s = W.ptp 2 ∧ s.reach (s.ntm.synced + max 1 (s.fld pgNTM Ntm.DELAY_CTRL Ntm.SYNC_LOSS) * logUnits (s.logOf 0 Ntm.LOG_SYNC) * 2 ^ 48 / LU) = some a ∧ s.slavePort = some 0 ∧
      s.ptpValid = true) ∧
    (∃ s : State, s = W.ptp 2 ∧ s.reaches (pgNTM + 1) = true ∧
      isHost Requester.pcie = true) ∧
    (∃ s : State, s = W.ptp 2 ∧ s.reaches (pgNTM + 1) = true ∧
      isHost Requester.cc0 = false ∧
      bits 3 (2, 0) ≠ 7 ∧
      (decide (bits 3 (2, 0) = 2 ∨ bits 3 (2, 0) = 3) = true → Option.any (fun k => k != 0) s.counted.slavePort = false)) ∧
    (∃ s : State, s = W.ptp 4 ∧ s.reaches (pgNTM + 1) = true ∧
      isHost Requester.cc0 = false ∧
      bits 7 (2, 0) = 7) ∧
    (∃ s : State, s = W.ptp 2 ∧ s.reaches (pgNTM + 1) = true ∧
      isHost Requester.cc0 = false ∧
      (decide (bits 3 (2, 0) = 2 ∨ bits 3 (2, 0) = 3) = true) ∧
      Option.any (fun k => k != 1) s.counted.slavePort = true) ∧
    (∃ s : State, s = W.ptp 4 ∧ s.aclkRuns = true ∧
      ptpAt (W.ptpFrame 0) = some 14 ∧
      s.ptpOn 0 = true ∧
      s.settling 0 = false ∧
      (s.fromParent (W.ptpFrame 0) 14 = false ∨ s.seqLater (ptpSeq (W.ptpFrame 0) 14) = false ∨ s.portState 0 ≠ 2 ∧ s.portState 0 ≠ 3)) :=
  ⟨⟨_, rfl, by decide +kernel⟩,
    ⟨_, rfl, by decide +kernel⟩,
    ⟨_, rfl, by decide +kernel⟩,
    ⟨_, rfl, by decide +kernel⟩,
    ⟨_, rfl, by decide +kernel⟩,
    ⟨_, rfl, by decide +kernel⟩,
    ⟨_, rfl, by decide +kernel⟩,
    ⟨_, _, rfl, W.ofSome _ (by decide +kernel), by decide +kernel⟩,
    ⟨_, rfl, by decide +kernel⟩,
    ⟨_, rfl, by decide +kernel⟩,
    ⟨_, rfl, by decide +kernel⟩,
    ⟨_, rfl, by decide +kernel⟩,
    ⟨_, rfl, by decide +kernel⟩⟩

/-- Field port 0 runs scheduled, holding the Stile, Swath 0 RUNNING. -/
def W.field (choice : Option (Option Nat)) (fill : Option Fill) : State :=
  (W.held (W.port (pgFLD 0) (keyFLD 0) choice fill none)).setNat (pgFLD 0) Fld.FLD_MODE 0x15

/-- A frame released, in the retry, on the wire. -/
def W.fldReleased : State := (W.field none none).setField 0 { FieldState.init with released := [[1, 2]] }
def W.fldFrame (collisions : Nat) : FieldFrame := ⟨[1, 2], true, collisions⟩
def W.fldWaits : State := (W.field none none).setField 0 { FieldState.init with current := some (W.fldFrame 3), waitUntil := 640 }
def W.fldSends (collisions : Nat) : State :=
  (W.field none none).setField 0 { FieldState.init with current := some (W.fldFrame collisions), onWire := true }

/-- The attempt of the frame released, and the state it leaves. -/
def W.fldNext : FieldFrame × State := (W.fldReleased.fldNext 0).getD (W.fldFrame 0, State.reset)

/-- Lamp channel 0 senses with a pulse from 6,400 of 50,000 steps, a latest on-sample before it. -/
def W.lamp : State :=
  (((W.enable ((W.held W.run).setSts (pgLCL 0) Lcl.S_DRIVEN 1) (pgLMP 0)).setNat (pgLCL 0) Lcl.PWM_PERIOD 100000).setSts (pgLMP 0)
    Lmp.S_LATCHED 0).setLamp 0 ⟨0, 0, 0, 64, true, none, none, false, 6400, 50000, 0, 0⟩

/-- The temperature of cluster 3 is measured, and its value waits. -/
def W.tsns : State := (W.enable (W.held W.run) (pgLCL 3)).setFld (pgLCL 3) Lcl.LCL_MODE Lcl.TSNS_MODE 1
def W.hot : State := W.tsns.setCluster 3 { ClusterState.init with measured := some 1600 }
/-- An analog run measures, since an instant. -/
def W.probing (at_ : Nat) (s : State) : State := { s with cal := { s.cal with analog := true, analogAt := at_ } }

theorem witness_FieldPortsAct :
    (∃ s : State, s = W.field none (some { frame := 4, count := 1 }) ∧ earliest (List.filter (fun l => l.choice.isNone) ((W.field none (some (Fill.mk 4 1))).launches (keyFLD 0))) = some (W.l4 none) ∧
      (W.field none (some (Fill.mk 4 1))).reach (timeOfUnits ((W.l4 none).at_ - 2000 * LU)) = some (((W.field none (some (Fill.mk 4 1))).reach (timeOfUnits ((W.l4 none).at_ - 2000 * LU))).getD (W.field none (some (Fill.mk 4 1)))) ∧
      (((W.field none (some (Fill.mk 4 1))).reach (timeOfUnits ((W.l4 none).at_ - 2000 * LU))).getD (W.field none (some (Fill.mk 4 1)))).mayLaunch (keyFLD 0) (pgFLD 0) (W.l4 none).swath = true ∧
      ((((W.field none (some (Fill.mk 4 1))).reach (timeOfUnits ((W.l4 none).at_ - 2000 * LU))).getD (W.field none (some (Fill.mk 4 1)))).portOf (keyFLD 0)).holds (W.l4 none).frame = true) ∧
    (∃ s a : State, s = W.field none none ∧ s.reach (timeOfUnits ((W.l4 none).at_ - 2000 * LU)) = some a ∧ earliest (List.filter (fun l => l.choice.isNone) (s.launches (keyFLD 0))) = some (W.l4 none) ∧
      a.mayLaunch (keyFLD 0) (pgFLD 0) (W.l4 none).swath = true ∧
      (a.portOf (keyFLD 0)).holds (W.l4 none).frame = false) ∧
    (∃ s : State, s = W.field (some (some 4)) (some { frame := 4, count := 1 }) ∧ earliest ((W.field (some (some 4)) (some (Fill.mk 4 1))).launches (keyFLD 0)) = some (W.l4 (some (some 4))) ∧
      (W.l4 (some (some 4))).choice = some (some 4) ∧
      (W.field (some (some 4)) (some (Fill.mk 4 1))).reach (timeOfUnits (W.l4 (some (some 4))).at_) = some (((W.field (some (some 4)) (some (Fill.mk 4 1))).reach (timeOfUnits (W.l4 (some (some 4))).at_)).getD (W.field (some (some 4)) (some (Fill.mk 4 1)))) ∧
      (((W.field (some (some 4)) (some (Fill.mk 4 1))).reach (timeOfUnits (W.l4 (some (some 4))).at_)).getD (W.field (some (some 4)) (some (Fill.mk 4 1)))).active (pgFLD 0) = true ∧
      (((W.field (some (some 4)) (some (Fill.mk 4 1))).reach (timeOfUnits (W.l4 (some (some 4))).at_)).getD (W.field (some (some 4)) (some (Fill.mk 4 1)))).fldSched 0 = true ∧
      (((W.field (some (some 4)) (some (Fill.mk 4 1))).reach (timeOfUnits (W.l4 (some (some 4))).at_)).getD (W.field (some (some 4)) (some (Fill.mk 4 1)))).swathState (W.l4 (some (some 4))).swath = 2 ∧
      (((W.field (some (some 4)) (some (Fill.mk 4 1))).reach (timeOfUnits (W.l4 (some (some 4))).at_)).getD (W.field (some (some 4)) (some (Fill.mk 4 1)))).stileHeld = true ∧
      (((W.field (some (some 4)) (some (Fill.mk 4 1))).reach (timeOfUnits (W.l4 (some (some 4))).at_)).getD (W.field (some (some 4)) (some (Fill.mk 4 1)))).fallback = false) ∧
    (∃ s a : State, s = W.fldReleased ∧ a = W.fldNext.snd ∧ s.fldOn 0 = true ∧
      s.active (pgFLD 0) = true ∧
      (s.fieldOf 0).onWire = false ∧
      (s.fieldOf 0).waitUntil ≤ unitsOf s.tln.now ∧
      s.fldNext 0 = some (W.fldNext.fst, a)) ∧
    (∃ s : State, s = W.fldReleased ∧ (s.fieldOf 0).current = none ∧
      (s.fieldOf 0).released = [[1, 2]]) ∧
    (∃ s a : State, s = W.fldWaits ∧ s.reach (timeOfUnits (s.fieldOf 0).waitUntil) = some a ∧ (s.fieldOf 0).current ≠ none ∧
      (s.fieldOf 0).onWire = false) ∧
    (∃ s : State, s = W.fldSends 14 ∧ (s.fieldOf 0).current = some (W.fldFrame 14) ∧
      (s.fieldOf 0).onWire = true ∧
      s.fldOn 0 = true) ∧
    (∃ s : State, s = W.fldSends 15 ∧ (s.fieldOf 0).current = some (W.fldFrame 15) ∧
      (s.fieldOf 0).onWire = true ∧
      s.fldOn 0 = true) ∧
    (∃ s : State, s = W.fldSends 0 ∧ (s.fieldOf 0).current = some (W.fldFrame 0) ∧
      (s.fieldOf 0).onWire = true ∧
      s.fldOn 0 = true) ∧
    (∃ s : State, s = W.fldSends 0 ∧ (s.fieldOf 0).onWire = true) ∧
    (∃ s : State, s = W.field none none ∧ s.fldOn 0 = true ∧
      s.pageState (pgFLD 0) ≠ 0 ∧
      (true = false ∨ (List.replicate 59 0).length < 60 ∨ 1518 < (List.replicate 59 0).length)) ∧
    (∃ s : State, s = W.field none none ∧ s.fldOn 0 = true ∧
      s.pageState (pgFLD 0) ≠ 0 ∧
      true = true ∧
      60 ≤ (List.replicate 1518 2).length ∧
      (List.replicate 1518 2).length ≤ 1518 ∧
      s.fldAccepts 0 (List.replicate 1518 2) = false) ∧
    (∃ s : State, s = W.field none none ∧ s.fldOn 0 = true ∧
      s.pageState (pgFLD 0) ≠ 0 ∧
      true = true ∧
      60 ≤ (List.replicate 6 255 ++ List.replicate 54 1).length ∧
      (List.replicate 6 255 ++ List.replicate 54 1).length ≤ 1518 ∧
      s.fldAccepts 0 (List.replicate 6 255 ++ List.replicate 54 1) = true) ∧
    (∃ s : State, s = W.field none none ∧ s.sts (pgFLD 0) Fld.S_PLCA_STATUS ≠ if true = true ∧ s.flag (pgFLD 0) Fld.FLD_MODE 0 = true then 1 else 0) ∧
    (∃ s : State, s = (W.field none none).setSts (pgFLD 0) Fld.S_PLCA_STATUS 1 ∧ s.sts (pgFLD 0) Fld.S_PLCA_STATUS ≠ if false = true ∧ s.flag (pgFLD 0) Fld.FLD_MODE 0 = true then 1 else 0) :=
  ⟨⟨_, rfl, by decide +kernel⟩,
    ⟨_, _, rfl, W.ofSome _ (by decide +kernel), by decide +kernel⟩,
    ⟨_, rfl, by decide +kernel⟩,
    ⟨_, _, rfl, rfl, by decide +kernel⟩,
    ⟨_, rfl, by decide +kernel⟩,
    ⟨_, _, rfl, W.ofSome _ (by decide +kernel), by decide +kernel⟩,
    ⟨_, rfl, by decide +kernel⟩,
    ⟨_, rfl, by decide +kernel⟩,
    ⟨_, rfl, by decide +kernel⟩,
    ⟨_, rfl, by decide +kernel⟩,
    ⟨_, rfl, by decide +kernel⟩,
    ⟨_, rfl, by decide +kernel⟩,
    ⟨_, rfl, by decide +kernel⟩,
    ⟨_, rfl, by decide +kernel⟩,
    ⟨_, rfl, by decide +kernel⟩⟩

theorem witness_LampsAct :
    (∃ s : State, s = W.port (pgLCL 0) (keyLCL 0) none (some { frame := 4, count := 8 }) none ∧ earliest (List.filter (fun l => l.choice.isNone) ((W.port (pgLCL 0) (keyLCL 0) none (some (Fill.mk 4 8)) none).launches (keyLCL 0))) = some (W.l4 none) ∧
      (W.port (pgLCL 0) (keyLCL 0) none (some (Fill.mk 4 8)) none).reach (timeOfUnits ((W.l4 none).at_ - 2000 * LU)) = some (((W.port (pgLCL 0) (keyLCL 0) none (some (Fill.mk 4 8)) none).reach (timeOfUnits ((W.l4 none).at_ - 2000 * LU))).getD (W.port (pgLCL 0) (keyLCL 0) none (some (Fill.mk 4 8)) none)) ∧
      (((W.port (pgLCL 0) (keyLCL 0) none (some (Fill.mk 4 8)) none).reach (timeOfUnits ((W.l4 none).at_ - 2000 * LU))).getD (W.port (pgLCL 0) (keyLCL 0) none (some (Fill.mk 4 8)) none)).mayLaunch (keyLCL 0) (pgLCL 0) (W.l4 none).swath = true ∧
      ((((W.port (pgLCL 0) (keyLCL 0) none (some (Fill.mk 4 8)) none).reach (timeOfUnits ((W.l4 none).at_ - 2000 * LU))).getD (W.port (pgLCL 0) (keyLCL 0) none (some (Fill.mk 4 8)) none)).portOf (keyLCL 0)).holds (W.l4 none).frame = true) ∧
    (∃ s a : State, s = W.port (pgLCL 0) (keyLCL 0) none none none ∧ s.reach (timeOfUnits ((W.l4 none).at_ - 2000 * LU)) = some a ∧ earliest (List.filter (fun l => l.choice.isNone) (s.launches (keyLCL 0))) = some (W.l4 none) ∧
      a.mayLaunch (keyLCL 0) (pgLCL 0) (W.l4 none).swath = true ∧
      (a.portOf (keyLCL 0)).holds (W.l4 none).frame = false) ∧
    (∃ s : State, s = W.port (pgLCL 0) (keyLCL 0) (some (some 4)) (some { frame := 4, count := 8 }) none ∧ earliest ((W.port (pgLCL 0) (keyLCL 0) (some (some 4)) (some (Fill.mk 4 8)) none).launches (keyLCL 0)) = some (W.l4 (some (some 4))) ∧
      (W.l4 (some (some 4))).choice = some (some 4) ∧
      (W.port (pgLCL 0) (keyLCL 0) (some (some 4)) (some (Fill.mk 4 8)) none).reach (timeOfUnits (W.l4 (some (some 4))).at_) = some (((W.port (pgLCL 0) (keyLCL 0) (some (some 4)) (some (Fill.mk 4 8)) none).reach (timeOfUnits (W.l4 (some (some 4))).at_)).getD (W.port (pgLCL 0) (keyLCL 0) (some (some 4)) (some (Fill.mk 4 8)) none)) ∧
      (((W.port (pgLCL 0) (keyLCL 0) (some (some 4)) (some (Fill.mk 4 8)) none).reach (timeOfUnits (W.l4 (some (some 4))).at_)).getD (W.port (pgLCL 0) (keyLCL 0) (some (some 4)) (some (Fill.mk 4 8)) none)).mayLaunch (keyLCL 0) (pgLCL 0) (W.l4 (some (some 4))).swath = true) ∧
    (∃ s a : State, s = W.lamp ∧ s.reach (timeOfUnits (s.nextBoundary 0)) = some a ∧ s.engineRuns = true) ∧
    (65535 ≠ 0) ∧
    (∃ s a : State, s = W.lamp ∧ s.reach (timeOfUnits ((s.lampOf 0).pulseAt + s.senseDelay 0)) = some a ∧ s.senses 0 = true ∧
      s.enabled (pgLMP 0) = true ∧
      40000 ≤ (s.lampOf 0).pulse ∧
      (s.lampOf 0).pulseAt ≠ (s.lampOf 0).prevEnd ∧
      ((s.lampOf 0).hasOn = true → (s.lampOf 0).lastOn < (s.lampOf 0).pulseAt) ∧
      a.channelTaken 0 = false) ∧
    (∃ s a : State, s = W.probing 0 W.lamp ∧ s.reach (timeOfUnits ((s.lampOf 0).pulseAt + s.senseDelay 0)) = some a ∧ s.senses 0 = true ∧
      s.enabled (pgLMP 0) = true ∧
      40000 ≤ (s.lampOf 0).pulse ∧
      (s.lampOf 0).pulseAt ≠ (s.lampOf 0).prevEnd ∧
      ((s.lampOf 0).hasOn = true → (s.lampOf 0).lastOn < (s.lampOf 0).pulseAt) ∧
      a.channelTaken 0 = true) ∧
    (∃ s a : State, s = W.lamp ∧ s.reach (timeOfUnits ((s.lampOf 0).pulseAt + 64 * (s.lampOf 0).pulse + s.senseDelay 0)) = some a ∧ s.senses 0 = true ∧
      s.enabled (pgLMP 0) = true ∧
      (s.lampOf 0).pulse ≠ 0 ∧
      (s.lampOf 0).pulse + 40000 ≤ s.fld (pgLCL (0 / 8)) Lcl.PWM_PERIOD (23, 0) ∧
      (s.lampOf 0).lastOff ≤ (s.lampOf 0).pulseAt + 64 * (s.lampOf 0).pulse ∧
      a.channelTaken 0 = false) ∧
    (∃ s a : State, s = W.probing 0 W.lamp ∧ s.reach (timeOfUnits ((s.lampOf 0).pulseAt + 64 * (s.lampOf 0).pulse + s.senseDelay 0)) = some a ∧ s.senses 0 = true ∧
      s.enabled (pgLMP 0) = true ∧
      (s.lampOf 0).pulse ≠ 0 ∧
      (s.lampOf 0).pulse + 40000 ≤ s.fld (pgLCL (0 / 8)) Lcl.PWM_PERIOD (23, 0) ∧
      (s.lampOf 0).lastOff ≤ (s.lampOf 0).pulseAt + 64 * (s.lampOf 0).pulse ∧
      a.channelTaken 0 = true) ∧
    (∃ s a : State, s = W.lamp ∧ s.reach (timeOfUnits ((s.lampOf 0).lastOn + s.fld (pgLCL (0 / 8)) Lcl.PROBE_MS (15, 0) * 1000000 * LU + 64 * s.fld (pgLCL (0 / 8)) Lcl.PWM_PERIOD (23, 0))) = some a ∧ (s.lampOf 0).hasOn = true ∧
      s.sts (pgLMP 0) Lmp.S_LATCHED ≠ 1) ∧
    (∃ s : State, s = W.lamp.setSts (pgLMP 0) Lmp.S_LATCHED 1 ∧ s.accepts Requester.cc0 (pgLMP 0) Lmp.LMP_ACTION = true ∧
      (s.told Requester.cc0 (pgLMP 0) Lmp.LMP_ACTION 1).sts (pgLMP 0) Lmp.S_LATCHED = 1) ∧
    (∃ s a : State, s = W.run ∧ s.reach (0 + 1000000 * NS) = some a ∧ (s.clusterOf 3).releasedAt = some 0) ∧
    (∃ s a : State, s = W.tsns ∧ s.reachTick (tickSense 3) (10 * MS) (5 * MS) = some a ∧ s.fld (pgLCL 3) Lcl.LCL_MODE Lcl.TSNS_MODE ≠ 0 ∧
      s.stileHeld = true ∧
      s.enabled (pgLCL 3) = true ∧
      a.channelTaken (32 + 3) = false) ∧
    (∃ s a : State, s = W.probing (5 * MS) (W.at 75000000 W.tsns) ∧ s.reachTick (tickSense 3) (10 * MS) (5 * MS) = some a ∧ s.fld (pgLCL 3) Lcl.LCL_MODE Lcl.TSNS_MODE ≠ 0 ∧
      s.stileHeld = true ∧
      s.enabled (pgLCL 3) = true ∧
      a.channelTaken (32 + 3) = true) ∧
    (∃ s a : State, s = W.run ∧ s.reachTick (tickDerate 3) (10 * MS) 0 = some a ∧ s.fld (pgLCL 3) Lcl.LCL_MODE Lcl.TSNS_MODE = 0) ∧
    (∃ s a : State, s = W.hot ∧ s.reachTick (tickDerate 3) (10 * MS) 0 = some a ∧ s.fld (pgLCL 3) Lcl.LCL_MODE Lcl.TSNS_MODE ≠ 0 ∧
      (s.clusterOf 3).measured = some 1600) :=
  ⟨⟨_, rfl, by decide +kernel⟩,
    ⟨_, _, rfl, W.ofSome _ (by decide +kernel), by decide +kernel⟩,
    ⟨_, rfl, by decide +kernel⟩,
    ⟨_, _, rfl, W.ofSome _ (by decide +kernel), by decide +kernel⟩,
    by decide +kernel,
    ⟨_, _, rfl, W.ofSome _ (by decide +kernel), by decide +kernel⟩,
    ⟨_, _, rfl, W.ofSome _ (by decide +kernel), by decide +kernel⟩,
    ⟨_, _, rfl, W.ofSome _ (by decide +kernel), by decide +kernel⟩,
    ⟨_, _, rfl, W.ofSome _ (by decide +kernel), by decide +kernel⟩,
    ⟨_, _, rfl, W.ofSome _ (by decide +kernel), by decide +kernel⟩,
    ⟨_, rfl, by decide +kernel⟩,
    ⟨_, _, rfl, W.ofSome _ (by decide +kernel), by decide +kernel⟩,
    ⟨_, _, rfl, W.ofSome _ (by decide +kernel), by decide +kernel⟩,
    ⟨_, _, rfl, W.ofSome _ (by decide +kernel), by decide +kernel⟩,
    ⟨_, _, rfl, W.ofSome _ (by decide +kernel), by decide +kernel⟩,
    ⟨_, _, rfl, W.ofSome _ (by decide +kernel), by decide +kernel⟩⟩

/-- A queue is enabled and holds what it is given. -/
def W.queue (j q : Nat) (x : Queue) (s : State) : State :=
  { s.setReg (pgQUE j) (Que.Q_CTRL q) 1 with queues := [(queueKey j q, x)] }

/-- Words of zeros; a queue with a packet of one word, some with 4, 30 and 31 bytes of a packet, one full. -/
def W.qword : QWord := ⟨List.replicate 32 0, 32, true, true⟩
def W.q1 : Queue := { Queue.empty with words := [W.qword], committed := 1 }
def W.qpart : Queue := { Queue.empty with part := [1, 2, 3, 4], inPacket := true }
def W.q30 : Queue := { Queue.empty with part := List.replicate 30 1, inPacket := true }
def W.q31 : Queue := { Queue.empty with part := List.replicate 31 1, inPacket := true }
def W.qfull : Queue := { Queue.empty with words := List.replicate 64 W.qword, committed := 64 }

/-- Interrupt state changed; a source in service. -/
def W.icu (f : IcuState → IcuState) (s : State) : State := { s with icu := f s.icu }
def W.service (k target : Nat) (s : State) : State :=
  W.icu (fun x => { x with owner := [(k, target)] }) (s.setIcuBit (Icu.IN_SERVICE 0) k true)
def W.due (g : Nat) (s : State) : State := W.icu (fun x => { x with due := [(g, true)] }) s
def W.linkOff (s : State) : State := W.icu (fun x => { x with linkL0 := false }) s
def W.latched (s : State) : State := { s with pwr := { s.pwr with phase := .asleep } }

/-- A source is PENDING for target 0, which admits it. -/
def W.pending (k : Nat) (s : State) : State :=
  (((W.enable s pgICU).setNat pgICU (srcCfg k) 0x101).setIcuBit (Icu.PENDING 0) k true).setIcuBit (Icu.ENABLE 0) k true

/-- State of the pair changed. -/
def W.red (f : RedState → RedState) (s : State) : State := { s with red := f s.red }
def W.rails (own peer claiming : Bool) (s : State) : State :=
  W.red (fun x => { x with own := own, peer := peer, claiming := claiming }) s
def W.viewed (own peer : Bool) (s : State) : State := W.red (fun x => { x with view := some ⟨true, false, own, peer, 0⟩ }) s

/-- THRESH of 256, of 257. -/
def W.thresh256 : Word := 0x40000
def W.thresh257 : Word := 0x40400

theorem witness_QueuesAct :
    (∃ s : State, s = W.queue 4 0 W.q30 State.reset ∧ queueSpec 4 0 = some (QueueSpec.mk 0 1 0 64) ∧
      (QueueSpec.mk 0 1 0 64).writer = 0 ∧
      (s.queue 4 0).sound = true ∧
      s.flag (pgQUE 4) (Que.Q_CTRL 0) 0 = true ∧
      (s.queue 4 0).lost = false ∧
      (s.queue 4 0).refused = false ∧
      (s.queue 4 0).part.length + ((QueueSpec.mk 0 1 0 64).written [7, 8, 9] false).length < 32 ∧
      false = false) ∧
    (∃ s : State, s = W.queue 4 0 W.q31 State.reset ∧ queueSpec 4 0 = some (QueueSpec.mk 0 1 0 64) ∧
      (QueueSpec.mk 0 1 0 64).writer = 0 ∧
      (s.queue 4 0).sound = true ∧
      s.flag (pgQUE 4) (Que.Q_CTRL 0) 0 = true ∧
      (s.queue 4 0).lost = false ∧
      (s.queue 4 0).refused = false ∧
      (32 ≤ (s.queue 4 0).part.length + ((QueueSpec.mk 0 1 0 64).written [1] false).length ∨ false = true) ∧
      (s.queue 4 0).words.length < (QueueSpec.mk 0 1 0 64).depth) ∧
    (∃ s : State, s = W.queue 4 0 W.qpart State.reset ∧ queueSpec 4 0 = some (QueueSpec.mk 0 1 0 64) ∧
      (QueueSpec.mk 0 1 0 64).writer = 0 ∧
      (s.queue 4 0).sound = true ∧
      s.flag (pgQUE 4) (Que.Q_CTRL 0) 0 = true ∧
      (s.queue 4 0).lost = false ∧
      (s.queue 4 0).refused = false ∧
      (32 ≤ (s.queue 4 0).part.length + ((QueueSpec.mk 0 1 0 64).written [1] true).length ∨ true = true) ∧
      (s.queue 4 0).words.length < (QueueSpec.mk 0 1 0 64).depth) ∧
    (∃ s : State, s = W.queue 4 0 W.qfull State.reset ∧ queueSpec 4 0 = some (QueueSpec.mk 0 1 0 64) ∧
      (QueueSpec.mk 0 1 0 64).writer = 0 ∧
      (s.queue 4 0).sound = true ∧
      s.flag (pgQUE 4) (Que.Q_CTRL 0) 0 = true ∧
      (s.queue 4 0).lost = false ∧
      (s.queue 4 0).refused = false ∧
      true = true ∧
      (QueueSpec.mk 0 1 0 64).depth ≤ (s.queue 4 0).words.length) ∧
    (∃ s : State, s = W.queue 3 1 W.qpart State.reset ∧ s.reaches (pgQUE 3) = true ∧
      queueSpec 3 1 = some (QueueSpec.mk 1 2 2 256) ∧
      mayUse (QueueSpec.mk 1 2 2 256) true Requester.pcie = true ∧
      4 < 5 ∧
      (s.queue 3 1).sound = true ∧
      (s.queue 3 1).inPacket = true ∧
      (s.queue 3 1).lost = false ∧
      (s.queue 3 1).refused = false ∧
      ((s.queue 3 1).part = [] ∨ (s.queue 3 1).words.length < (QueueSpec.mk 1 2 2 256).depth)) ∧
    (∃ s : State, s = W.queue 3 1 W.qpart State.reset ∧ s.reaches (pgQUE 3) = true ∧
      queueSpec 3 1 = some (QueueSpec.mk 1 2 2 256) ∧
      mayUse (QueueSpec.mk 1 2 2 256) true Requester.pcie = true ∧
      (s.queue 3 1).sound = true ∧
      (s.queue 3 1).inPacket = true) ∧
    (∃ s : State, s = W.queue 3 1 W.qpart State.reset ∧ s.reaches (pgQUE 3) = true ∧
      queueSpec 3 1 = some (QueueSpec.mk 1 2 2 256) ∧
      mayUse (QueueSpec.mk 1 2 2 256) true Requester.cc0 = false) ∧
    (∃ s : State, s = W.queue 3 1 W.q1 State.reset ∧ s.reaches (pgQUE 3) = true ∧
      queueSpec 3 1 = some (QueueSpec.mk 1 2 2 256) ∧
      mayUse (QueueSpec.mk 1 2 2 256) false Requester.cc0 = true ∧
      (s.queue 3 1).sound = true ∧
      (s.queue 3 1).committed ≠ 0) ∧
    (∃ s : State, s = W.queue 3 1 W.q1 State.reset ∧ s.reaches (pgQUE 3) = true ∧
      queueSpec 3 1 = some (QueueSpec.mk 1 2 2 256) ∧
      mayUse (QueueSpec.mk 1 2 2 256) false Requester.pcie = false) ∧
    (∃ s : State, s = W.queue 3 1 W.q1 State.reset ∧ s.reaches (pgQUE 3) = true ∧
      queueSpec 3 1 = some (QueueSpec.mk 1 2 2 256) ∧
      bits W.thresh256 Que.THRESH ≠ 0 ∧
      bits W.thresh256 Que.THRESH ≤ (QueueSpec.mk 1 2 2 256).depth) ∧
    (∃ s : State, s = W.queue 3 1 W.q1 State.reset ∧ s.reaches (pgQUE 3) = true ∧
      queueSpec 3 1 = some (QueueSpec.mk 1 2 2 256) ∧
      (bits W.thresh257 Que.THRESH = 0 ∨ (QueueSpec.mk 1 2 2 256).depth < bits W.thresh257 Que.THRESH)) ∧
    (∃ s : State, s = W.queue 3 1 W.q1 State.reset ∧ s.reaches (pgQUE 3) = true ∧
      queueSpec 3 1 = some (QueueSpec.mk 1 2 2 256) ∧
      (bits 0 Que.THRESH = 0 ∨ (QueueSpec.mk 1 2 2 256).depth < bits 0 Que.THRESH)) :=
  ⟨⟨_, rfl, by decide +kernel⟩,
    ⟨_, rfl, by decide +kernel⟩,
    ⟨_, rfl, by decide +kernel⟩,
    ⟨_, rfl, by decide +kernel⟩,
    ⟨_, rfl, by decide +kernel⟩,
    ⟨_, rfl, by decide +kernel⟩,
    ⟨_, rfl, by decide +kernel⟩,
    ⟨_, rfl, by decide +kernel⟩,
    ⟨_, rfl, by decide +kernel⟩,
    ⟨_, rfl, by decide +kernel⟩,
    ⟨_, rfl, by decide +kernel⟩,
    ⟨_, rfl, by decide +kernel⟩⟩

theorem witness_InterruptsAct :
    (∃ s : State, s = State.reset ∧ isSource 1 = true ∧
      isLevelSource 1 = false ∧
      s.aclkRuns = true) ∧
    (∃ s : State, s = (State.reset.setNat pgICU (srcCfg 511) 4278255616).setFld pgSYS Sys.SYS_STATE (1, 0) 2 ∧ isSource 511 = true ∧
      isLevelSource 511 = false ∧
      s.aclkRuns = true ∧
      s.accountMode 511 = true ∧
      s.pwrState ≠ 1) ∧
    (∃ s : State, s = W.latched State.reset ∧ isSource 1 = true ∧
      isLevelSource 1 = false ∧
      s.aclkRuns = false) ∧
    (∃ s : State, s = State.reset ∧ isSource 222 = true ∧
      isLevelSource 222 = true ∧
      Tab.get (fun x => false) s.icu.level 222 ≠ true ∧
      s.aclkRuns = true ∧
      s.accountMode 222 = false ∧
      s.icuBit (Icu.IN_SERVICE 0) 222 = false) ∧
    (∃ s : State, s = W.pending 511 State.reset ∧ s.aclkRuns = true ∧
      actsFor Requester.cc0 0 = true ∧
      s.counted.icuTop 0 = some 511) ∧
    (∃ s : State, s = State.reset ∧ s.aclkRuns = true ∧
      actsFor Requester.pcie 7 = true ∧
      s.counted.icuTop 7 = none) ∧
    (∃ s : State, s = State.reset ∧ s.aclkRuns = true ∧
      actsFor Requester.cc1 0 = false) ∧
    (∃ s : State, s = W.service 511 3 State.reset ∧ s.reaches pgICU = true ∧
      actsFor Requester.cc3 3 = true ∧
      s.counted.icuBit (Icu.IN_SERVICE 0) 511 = true ∧
      511 < 512 ∧
      Tab.get (fun x => 1024) s.counted.icu.owner 511 = 3) ∧
    (∃ s : State, s = State.reset ∧ s.reaches pgICU = true ∧
      actsFor Requester.cc3 3 = true ∧
      511 < 512 ∧
      Tab.get (fun x => 1024) s.counted.icu.owner 511 ≠ 3) ∧
    (∃ s : State, s = State.reset ∧ s.reaches pgICU = true ∧
      actsFor Requester.cc3 4 = false) ∧
    (∃ s : State, s = State.reset ∧ s.reaches pgICU = true ∧
      isSource 511 = true) ∧
    (∃ s : State, s = W.due 3 (State.reset.setNat pgICU (Icu.MSIX_TABLE 15) 1) ∧ Tab.get (fun x => false) s.icu.due 3 = true ∧
      s.msixMasked 3 = true) ∧
    (∃ s : State, s = W.due 3 (W.linkOff (State.reset.setNat pgICU (Icu.MSIX_TABLE 15) 0)) ∧ Tab.get (fun x => false) s.icu.due 3 = true ∧
      s.msixMasked 3 = false ∧
      s.icu.linkL0 = false) ∧
    (∃ s : State, s = W.due 3 (State.reset.setNat pgICU (Icu.MSIX_TABLE 15) 0) ∧ Tab.get (fun x => false) s.icu.due 3 = true ∧
      s.msixMasked 3 = false ∧
      s.icu.linkL0 = true) :=
  ⟨⟨_, rfl, by decide +kernel⟩,
    ⟨_, rfl, by decide +kernel⟩,
    ⟨_, rfl, by decide +kernel⟩,
    ⟨_, rfl, by decide +kernel⟩,
    ⟨_, rfl, by decide +kernel⟩,
    ⟨_, rfl, by decide +kernel⟩,
    ⟨_, rfl, by decide +kernel⟩,
    ⟨_, rfl, by decide +kernel⟩,
    ⟨_, rfl, by decide +kernel⟩,
    ⟨_, rfl, by decide +kernel⟩,
    ⟨_, rfl, by decide +kernel⟩,
    ⟨_, rfl, by decide +kernel⟩,
    ⟨_, rfl, by decide +kernel⟩,
    ⟨_, rfl, by decide +kernel⟩⟩

theorem witness_TheStileDecidesTheRole :
    (∃ s : State, s = W.rails true true false W.run ∧ s.red.peer = true) ∧
    (∃ s : State, s = W.rails true false true W.run ∧ s.red.peer = false) ∧
    (∃ s a : State, s = W.run.setFld pgRED Red.PAIR_CTRL Red.CLAIM_EN 1 ∧ s.reach (s.red.holdoffFrom + s.holdoffNs * NS) = some a ∧ s.claimEnabled = true ∧
      s.red.own = false ∧
      s.red.peer = false ∧
      s.dev.dieFenced = false ∧
      s.pageState pgRED ≠ 3 ∧
      s.aclkRuns = true) ∧
    (∃ s a : State, s = W.rails true false true W.run ∧ s.reach (s.red.holdoffFrom + 100 * NS) = some a ∧ s.red.claiming = true ∧
      s.red.own = true ∧
      s.red.peer = false) ∧
    (∃ s : State, s = (W.rails true true false W.run).setSts pgRED Red.S_STILE_STATE 2 ∧ s.sts pgRED Red.S_STILE_STATE = 2 ∧
      s.red.own = true) ∧
    (∃ s : State, s = W.viewed true false W.run ∧ s.red.view = some (PeerView.mk true false true false 0) ∧
      ((PeerView.mk true false true false 0).own ≠ s.red.peer ∨ (PeerView.mk true false true false 0).peer ≠ s.red.own)) ∧
    (∃ s : State, s = W.viewed false false W.run ∧ s.red.view = some (PeerView.mk true false false false 0) ∧
      (PeerView.mk true false false false 0).own = s.red.peer ∧
      (PeerView.mk true false false false 0).peer = s.red.own) :=
  ⟨⟨_, rfl, by decide +kernel⟩,
    ⟨_, rfl, by decide +kernel⟩,
    ⟨_, _, rfl, W.ofSome _ (by decide +kernel), by decide +kernel⟩,
    ⟨_, _, rfl, W.ofSome _ (by decide +kernel), by decide +kernel⟩,
    ⟨_, rfl, by decide +kernel⟩,
    ⟨_, rfl, by decide +kernel⟩,
    ⟨_, rfl, by decide +kernel⟩⟩

/-- Both lanes are on; the standby follows. -/
def W.lanes (s : State) : State := (W.linked s).setNat pgRED Red.TSX_CTRL 3
def W.follows (s : State) : State := ((W.lanes s).setSts pgRED Red.S_SYNC_STATE 3).setSts pgRED Red.S_STILE_STATE 0

/-- Messages on lane 1. -/
def W.msg (good : Bool) (payload : List Byte) : TsxMsg := ⟨1, good, 0, 0, 0, payload⟩

/-- An open exchange; a frame not acknowledged; a plan of a swap at 10 µs. -/
def W.opened (t1 : Nat) (s : State) : State := W.red (fun x => { x with t1 := some t1 }) s
def W.unacked (s : State) : State := W.red (fun x => { x with unacked := [⟨0, 0x10, 1, 0, [1], 0⟩] }) s
def W.planned (s : State) : State := W.red (fun x => { x with plan := some ⟨0, some (10000 * LU), false⟩ }) s

/-- Payloads: a FIX, SENSE or OUTCOME of index 3; a MEMWRITE of one byte; an INPUT of one part. -/
def W.p24 (kind : Byte) : List Byte := [kind, 3] ++ List.replicate 26 0
def W.pMem : List Byte := leBytes 8 DRAM_BASE ++ [9]
def W.pInput : List Byte := [1, 0, 0, 1, 0, 0] ++ List.replicate 17 0

/-- A release told by the partner waits, with list 0 of region 0, AUTO and bound to Swath 0, being read or not. -/
def W.toldOf (reading : Bool) : State :=
  let a := W.region (fun r => { r with lists := [(0, ⟨reading, 0, 9, false, 1, 0⟩)] }) (W.follows W.run)
  let b := a.setReg (pgJSC 0) (Jsc.LIST_CTRL 0) 3
  b.setSwath 0 { b.swath 0 with told := [(5, 6)] }

theorem witness_LinkFramesAct :
    (∃ s : State, s = W.lanes W.run ∧ s.laneOn 1 = true ∧
      s.aclkRuns = true ∧
      (W.msg false []).good = false) ∧
    (∃ s : State, s = W.lanes W.run ∧ s.hears (W.msg true (List.replicate 24 1)) = true) ∧
    (∃ s : State, s = W.lanes W.run ∧ s.hears (W.msg true (List.replicate 24 1)) = true) ∧
    (∃ s : State, s = W.lanes (W.unacked W.run) ∧ s.hears (W.msg true (List.replicate 24 0)) = true) ∧
    (∃ s : State, s = W.held (W.lanes W.run) ∧ s.hears (W.msg true (List.replicate 24 1)) = true ∧
      s.stileHeld = true) ∧
    (∃ s : State, s = W.lanes (W.opened 0 W.run) ∧ s.hears (W.msg true (List.replicate 24 0)) = true ∧
      (s.heard (W.msg true (List.replicate 24 0))).stileHeld = false ∧
      (s.heard (W.msg true (List.replicate 24 0))).red.t1 = some (TimeVal.ofWire (slice (W.msg true (List.replicate 24 0)).payload 0 12)).q8.toNat) ∧
    (∃ s a : State, s = W.lanes W.run ∧ s.reachTick tickPair MS 0 = some a ∧ s.stileHeld = false ∧
      s.linkUp = true) ∧
    (∃ s : State, s = W.lanes W.run ∧ s.laneOn 1 = true ∧
      s.aclkRuns = true) ∧
    (∃ s : State, s = W.lanes (W.unacked W.run) ∧ s.red.unacked = [TsxFrame.mk 0 16 1 0 [1] 0] ∧
      s.linkUp = true) :=
  ⟨⟨_, rfl, by decide +kernel⟩,
    ⟨_, rfl, by decide +kernel⟩,
    ⟨_, rfl, by decide +kernel⟩,
    ⟨_, rfl, by decide +kernel⟩,
    ⟨_, rfl, by decide +kernel⟩,
    ⟨_, rfl, by decide +kernel⟩,
    ⟨_, _, rfl, W.ofSome _ (by decide +kernel), by decide +kernel⟩,
    ⟨_, rfl, by decide +kernel⟩,
    ⟨_, rfl, by decide +kernel⟩⟩

theorem witness_LockstepIsApplied :
    (∃ s : State, s = W.follows W.run ∧ s.takesNext (W.msg true (W.p24 0)) = true ∧
      s.ofGeneration (W.msg true (W.p24 0)) = true) ∧
    (∃ s : State, s = W.follows W.run ∧ s.takesNext (W.msg true (W.p24 2)) = true ∧
      s.ofGeneration (W.msg true (W.p24 2)) = true) ∧
    (∃ s : State, s = W.follows W.run ∧ beAt W.pInput 4 2 = 0 ∧
      (beAt W.pInput 2 2).testBit 0 = true) ∧
    (∃ s : State, s = W.follows W.run ∧ s.ownStarts (beAt (W.p24 0) 0 1 % 16) = false) ∧
    (∃ s : State, s = W.toldOf false ∧ (s.swath 0).told = [(5, 6)] ∧
      s.releaseHeld 0 = false) ∧
    (∃ s : State, s = W.toldOf true ∧ (s.swath 0).told = [(5, 6)] ∧
      s.releaseHeld 0 = true) ∧
    (∃ s : State, s = W.follows W.run ∧ beAt (W.p24 0) 0 1 = 0) ∧
    (∃ s : State, s = W.follows W.run ∧ beAt (W.p24 1) 0 1 = 1) ∧
    (∃ s : State, s = W.follows W.run ∧ beAt (W.p24 2) 0 1 = 2) ∧
    (∃ s : State, s = W.follows W.run ∧ beAt (W.p24 2) 0 1 = 2) ∧
    (∃ s : State, s = W.follows W.run ∧ beAt (W.p24 0) 0 1 = 0 ∧
      5 < 6) :=
  ⟨⟨_, rfl, by decide +kernel⟩,
    ⟨_, rfl, by decide +kernel⟩,
    ⟨_, rfl, by decide +kernel⟩,
    ⟨_, rfl, by decide +kernel⟩,
    ⟨_, rfl, by decide +kernel⟩,
    ⟨_, rfl, by decide +kernel⟩,
    ⟨_, rfl, by decide +kernel⟩,
    ⟨_, rfl, by decide +kernel⟩,
    ⟨_, rfl, by decide +kernel⟩,
    ⟨_, rfl, by decide +kernel⟩,
    ⟨_, rfl, by decide +kernel⟩⟩

theorem witness_RolesAndManagementAreTold :
    (∃ s : State, s = W.follows W.run ∧ s.takesNext (W.msg true (W.p24 0)) = true) ∧
    (∃ s : State, s = (W.held W.run).setSts (pgSWT 0) Swt.S_SWATH_STATE 2 ∧ s.stileHeld = true ∧
      s.red.plan = none ∧
      s.red.pathCheck = none ∧
      s.swathState (s.fld pgRED Red.PAIR_CTRL Red.SWAP_SWATH) = 2) ∧
    (∃ s : State, s = W.held (W.planned W.run) ∧ s.stileHeld = true ∧
      s.red.plan = some (SwapPlan.mk 0 (some (10000 * LU)) false) ∧
      s.tln.now + 10000 * NS ≤ timeOfUnits (10000 * LU)) ∧
    (∃ s : State, s = W.run ∧ s.stileHeld = false) ∧
    (∃ s : State, s = W.held (W.lanes W.run) ∧ s.stileHeld = true ∧
      s.linkUp = true) ∧
    (∃ s : State, s = W.follows W.run ∧ s.stileHeld = false ∧
      (s.syncState = 1 ∨ s.syncState = 3 ∨ s.syncState = 4)) ∧
    (∃ s : State, s = W.run ∧ (s.stileHeld = true ∨ s.syncState ≠ 1 ∧ s.syncState ≠ 3 ∧ s.syncState ≠ 4)) :=
  ⟨⟨_, rfl, by decide +kernel⟩,
    ⟨_, rfl, by decide +kernel⟩,
    ⟨_, rfl, by decide +kernel⟩,
    ⟨_, rfl, by decide +kernel⟩,
    ⟨_, rfl, by decide +kernel⟩,
    ⟨_, rfl, by decide +kernel⟩,
    ⟨_, rfl, by decide +kernel⟩⟩

/-- A plan of a swap; its instant 10 µs, confirmed or not; a release at 640 whose path is checked; the latest swap at 0. -/
def W.plan (at_ : Option Nat) (acked : Bool) (s : State) : State := W.red (fun x => { x with plan := some ⟨0, at_, acked⟩ }) s
def W.path (s : State) : State := W.red (fun x => { x with pathCheck := some 640 }) s
def W.swapped (s : State) : State := W.red (fun x => { x with lastSwap := some 0 }) s
def W.synced (s : State) : State := W.red (fun x => { x with syncedSince := some 0 }) s

/-- The partner's time is known from an exchange at 0. -/
def W.exchanged (s : State) : State :=
  { W.red (fun x => { x with lastExchange := some 0 }) s with tln := { s.tln with peerValid := true } }

/-- The active device. -/
def W.active : State := (W.held (W.rails true false false W.run))

theorem witness_SwapsAndResynchronisationsAct :
    (∃ s : State, s = W.active ∧ s.reaches pgRED = true ∧
      s.counted.stileHeld = true) ∧
    (∃ s : State, s = W.run ∧ s.reaches pgRED = true ∧
      s.counted.stileHeld = false) ∧
    (∃ s : State, s = W.run.setFld pgRED Red.PAIR_STATE Red.DETACHED 1 ∧ s.reaches pgRED = true ∧
      s.counted.detached = true) ∧
    (∃ s : State, s = W.run ∧ s.reaches pgRED = true ∧
      s.counted.detached = false) ∧
    (∃ s : State, s = W.active ∧ s.reaches pgRED = true ∧
      s.counted.stileHeld = true) ∧
    (∃ s : State, s = W.run ∧ s.reaches pgRED = true ∧
      s.counted.stileHeld = false) ∧
    (∃ s : State, s = W.run ∧ s.reaches pgRED = true) ∧
    (∃ s : State, s = W.run ∧ s.reaches pgRED = true ∧
      sceneValid (s.counted.bytes (address8 (s.counted.reg pgRED Red.SAFE_ADDR_LO) (s.counted.reg pgRED Red.SAFE_ADDR_HI)) SAFE_LEN) = false) ∧
    (∃ s a : State, s = W.plan (some 12800) true W.active ∧ s.reach (timeOfUnits 12800) = some a ∧ s.red.plan = some (SwapPlan.mk 0 (some 12800) true) ∧
      s.stileHeld = true ∧
      s.red.own = true ∧
      true = true) ∧
    (∃ s a : State, s = W.plan (some 12800) false W.active ∧ s.reach (timeOfUnits 12800) = some a ∧ s.red.plan = some (SwapPlan.mk 0 (some 12800) false) ∧
      s.stileHeld = true ∧
      false = false) ∧
    (∃ s a : State, s = W.plan (some 12800) false W.run ∧ s.reach (timeOfUnits 12800) = some a ∧ s.red.plan = some (SwapPlan.mk 0 (some 12800) false) ∧
      s.stileHeld = false) ∧
    (∃ s a : State, s = W.plan none false W.active ∧ s.reach (0 + SEC * NS) = some a ∧ s.red.plan = some (SwapPlan.mk 0 none false) ∧
      s.stileHeld = true) ∧
    (∃ s a : State, s = W.path (W.rails false true false W.run) ∧ s.reach (timeOfUnits (640 + 10 * LU)) = some a ∧ s.red.pathCheck = some 640 ∧
      s.red.peer = true) ∧
    (∃ s a : State, s = W.path ((W.rails false false false W.run).setFld pgRED Red.PAIR_CTRL Red.CLAIM_EN 1) ∧ s.reach (timeOfUnits (640 + 10 * LU)) = some a ∧ s.red.pathCheck = some 640 ∧
      s.red.peer = false) ∧
    (∃ s a : State, s = W.path W.run ∧ s.reach (timeOfUnits (640 + 1000000 * LU)) = some a ∧ s.red.pathCheck = some 640) ∧
    (∃ s a : State, s = W.path W.run ∧ s.reach (timeOfUnits (640 + 1000000 * LU)) = some a ∧ s.red.pathCheck = some 640) ∧
    (∃ s a : State, s = W.synced ((W.run.setSts pgRED Red.S_SYNC_STATE 3).setFld pgRED Red.PAIR_CTRL Red.REVERT_EN 1) ∧ s.reach (0 + s.fld pgRED Red.REVERT_HOLD (15, 0) * SEC * NS) = some a ∧ s.red.syncedSince = some 0 ∧
      s.dev.roleB = false ∧
      s.stileHeld = false ∧
      s.syncState = 3 ∧
      s.differs = false ∧
      s.fld pgRED Red.PAIR_CTRL Red.REVERT_EN = 1) ∧
    (∃ s a : State, s = W.swapped (W.run.setSts pgRED Red.S_DRILL_DUE 0) ∧ s.reach (0 + 604801 * SEC * NS) = some a ∧ s.red.lastSwap = some 0 ∧
      s.sts pgRED Red.S_DRILL_DUE ≠ 1) ∧
    (∃ s a : State, s = W.exchanged W.run ∧ s.reach (0 + 3000000 * NS) = some a ∧ s.tln.peerValid = true ∧
      s.red.lastExchange = some 0) ∧
    (∃ s : State, s = W.run ∧ s.aclkRuns = true) :=
  ⟨⟨_, rfl, by decide +kernel⟩,
    ⟨_, rfl, by decide +kernel⟩,
    ⟨_, rfl, by decide +kernel⟩,
    ⟨_, rfl, by decide +kernel⟩,
    ⟨_, rfl, by decide +kernel⟩,
    ⟨_, rfl, by decide +kernel⟩,
    ⟨_, rfl, by decide +kernel⟩,
    ⟨_, rfl, by decide +kernel⟩,
    ⟨_, _, rfl, W.ofSome _ (by decide +kernel), by decide +kernel⟩,
    ⟨_, _, rfl, W.ofSome _ (by decide +kernel), by decide +kernel⟩,
    ⟨_, _, rfl, W.ofSome _ (by decide +kernel), by decide +kernel⟩,
    ⟨_, _, rfl, W.ofSome _ (by decide +kernel), by decide +kernel⟩,
    ⟨_, _, rfl, W.ofSome _ (by decide +kernel), by decide +kernel⟩,
    ⟨_, _, rfl, W.ofSome _ (by decide +kernel), by decide +kernel⟩,
    ⟨_, _, rfl, W.ofSome _ (by decide +kernel), by decide +kernel⟩,
    ⟨_, _, rfl, W.ofSome _ (by decide +kernel), by decide +kernel⟩,
    ⟨_, _, rfl, W.ofSome _ (by decide +kernel), by decide +kernel⟩,
    ⟨_, _, rfl, W.ofSome _ (by decide +kernel), by decide +kernel⟩,
    ⟨_, _, rfl, W.ofSome _ (by decide +kernel), by decide +kernel⟩,
    ⟨_, rfl, by decide +kernel⟩⟩

/-- The head of a valid scene of zeros with its CRC, and the state whose DRAM begins with it. -/
def W.sceneHead (c : Nat) : List Byte := leBytes 4 0x4D585343 ++ leBytes 4 1 ++ leBytes 4 SAFE_LEN ++ leBytes 4 c

def W.sceneCrc : Nat := (crc32c (W.sceneHead 0 ++ List.replicate 6736 0)).toNat

def W.scene (c : Nat) : State :=
  { State.reset.setNat pgRED Red.SAFE_ADDR_HI 1 with
    mem := (List.range 16).map (fun i => (DRAM_BASE + i, (W.sceneHead c).getD i 0)) }

theorem W.scene_byte (c a : Nat) (h : DRAM_BASE + 16 ≤ a) (h2 : a < DRAM_BASE + 0x100000) : (W.scene c).byte a = 0 := by
  have hd : memDefault a = 0 := by
    unfold memDefault
    rw [if_neg]
    simp only [DRAM_BASE] at h h2
    simp only [FERAM_BASE]
    omega
  have hm : (W.scene c).mem = (List.range 16).map (fun i => (DRAM_BASE + i, (W.sceneHead c).getD i 0)) := rfl
  unfold State.byte
  rw [show (W.scene c).boot.stored = false from rfl, Bool.and_false, if_neg Bool.false_ne_true, hm]
  have : ∀ l : List Nat, (∀ i ∈ l, i < 16) →
      Tab.get memDefault (l.map (fun i => (DRAM_BASE + i, (W.sceneHead c).getD i 0))) a = 0 := by
    intro l hl
    induction l with
    | nil => exact hd
    | cons i t ih =>
      have hi := hl i (by simp)
      simp only [List.map_cons, Tab.get]
      rw [if_neg (by omega)]
      exact ih (fun j hj => hl j (by simp [hj]))
  exact this _ (fun i hi => List.mem_range.mp hi)

theorem W.scene_rest (c n : Nat) : ∀ a, DRAM_BASE + 16 ≤ a → a + n ≤ DRAM_BASE + 0x100000 →
    (W.scene c).bytes a n = List.replicate n 0 := by
  induction n with
  | zero => intro a _ _; rfl
  | succ n ih =>
    intro a h h2
    unfold State.bytes
    rw [W.scene_byte c a h (by omega), ih (a + 1) (by omega) (by omega)]
    rfl

theorem W.bytes_add (s : State) (m n a : Nat) : s.bytes a (m + n) = s.bytes a m ++ s.bytes (a + m) n := by
  induction m generalizing a with
  | zero => simp [State.bytes]
  | succ m ih =>
    rw [show m + 1 + n = (m + n) + 1 by omega]
    show s.byte a :: s.bytes (a + 1) (m + n) = s.byte a :: s.bytes (a + 1) m ++ s.bytes (a + (m + 1)) n
    rw [ih, show a + 1 + m = a + (m + 1) by omega, List.cons_append]

theorem W.scene_head (c : Nat) : (W.scene c).bytes DRAM_BASE 16 = W.sceneHead c := rfl

theorem W.scene_bytes (c : Nat) : (W.scene c).bytes DRAM_BASE SAFE_LEN = W.sceneHead c ++ List.replicate 6736 0 := by
  rw [show SAFE_LEN = 16 + 6736 by decide, W.bytes_add, W.scene_rest c 6736 _ (by omega) (by omega), W.scene_head]

theorem W.sceneHead_put (x : Nat) (z : List Byte) : putAt (W.sceneHead x ++ z) 12 [0, 0, 0, 0] = W.sceneHead 0 ++ z := rfl
theorem W.sceneHead_crc (x : Nat) (z : List Byte) : leAt (W.sceneHead x ++ z) 12 4 = leVal (leBytes 4 x) := rfl
theorem W.sceneHead_magic (x : Nat) (z : List Byte) : leAt (W.sceneHead x ++ z) 0 4 = 0x4D585343 :=
  (show leAt (W.sceneHead x ++ z) 0 4 = leVal (leBytes 4 0x4D585343) from rfl).trans (by decide +kernel)
theorem W.sceneHead_version (x : Nat) (z : List Byte) : leAt (W.sceneHead x ++ z) 4 2 = 1 := rfl
theorem W.sceneHead_length (x : Nat) (z : List Byte) : leAt (W.sceneHead x ++ z) 8 4 = SAFE_LEN :=
  (show leAt (W.sceneHead x ++ z) 8 4 = leVal (leBytes 4 SAFE_LEN) from rfl).trans (by decide +kernel)

theorem W.scene_valid (z : List Byte) (hz : z.length = 6736) :
    sceneValid (W.sceneHead (crc32c (W.sceneHead 0 ++ z)).toNat ++ z) = true := by
  have hb : ∀ x : Word, leVal (leBytes 4 x.toNat) = x.toNat := by
    intro x
    have := x.isLt
    simp only [leBytes, leVal, BitVec.toNat_ofNat]
    omega
  have hl : (W.sceneHead (crc32c (W.sceneHead 0 ++ z)).toNat ++ z).take SAFE_LEN
      = W.sceneHead (crc32c (W.sceneHead 0 ++ z)).toNat ++ z := by
    apply List.take_of_length_le
    rw [List.length_append, hz]
    exact Nat.le_refl _
  unfold sceneValid
  rw [hl, W.sceneHead_put, W.sceneHead_crc, hb, beq_self_eq_true, W.sceneHead_magic, W.sceneHead_version, W.sceneHead_length]
  rfl

theorem W.bytes_mem {s t : State} (h : t.mem = s.mem) (hb : t.boot = s.boot) (a n : Nat) : t.bytes a n = s.bytes a n := by
  induction n generalizing a with
  | zero => rfl
  | succ n ih =>
    unfold State.bytes State.byte
    rw [h, hb, ih]

theorem W.scene_reg (off : Nat) (h : countKey (regKey pgRED off) = false) :
    (W.scene W.sceneCrc).counted.reg pgRED off = (State.reset.setNat pgRED Red.SAFE_ADDR_HI 1).reg pgRED off :=
  (W.scene W.sceneCrc).counted_same.regs _ h

theorem witness_SwapsAndResynchronisationsAct_scene : ∃ s : State, s.reaches pgRED = true ∧
    sceneValid (s.counted.bytes (address8 (s.counted.reg pgRED Red.SAFE_ADDR_LO) (s.counted.reg pgRED Red.SAFE_ADDR_HI))
      SAFE_LEN) = true := by
  refine ⟨W.scene W.sceneCrc, ?_, ?_⟩
  · unfold State.reaches State.isResetting
    rw [(W.scene W.sceneCrc).counted_same.dev]
    exact show (State.reset.aclkRuns && !State.reset.isResetting pgRED) = true by decide +kernel
  · rw [W.scene_reg _ (by decide +kernel), W.scene_reg _ (by decide +kernel),
      show address8 ((State.reset.setNat pgRED Red.SAFE_ADDR_HI 1).reg pgRED Red.SAFE_ADDR_LO)
        ((State.reset.setNat pgRED Red.SAFE_ADDR_HI 1).reg pgRED Red.SAFE_ADDR_HI) = DRAM_BASE by decide +kernel,
      W.bytes_mem (W.scene W.sceneCrc).counted_same.mem (W.scene W.sceneCrc).counted_same.boot, W.scene_bytes]
    unfold W.sceneCrc
    generalize hz : List.replicate 6736 (0 : Byte) = z
    exact W.scene_valid z (by rw [← hz]; exact List.length_replicate)

/-- The recorder enabled, its pending queue too; recorder state changed. -/
def W.evr (s : State) : State := W.queue 3 3 Queue.empty (W.enable s pgEVR)
def W.rec (f : EvrState → EvrState) (s : State) : State := { s with evr := f s.evr }
def W.frozen (s : State) : State := s.setSts pgEVR Evr.S_FROZEN 1

/-- Code 5 has spent its burst, or one token. -/
def W.spent (n : Nat) (s : State) : State := W.rec (fun x => { x with spent := [(5, n)] }) s

/-- A pending entry of a code, or of a span of group 3. -/
def W.entry (e : Nat) (s : State) : State :=
  W.queue 3 3 { Queue.empty with words := [⟨leBytes 8 e, 8, true, true⟩], committed := 1 } s

/-- A record is being written, to Drawer 4095. -/
def W.drawer : Drawer := ⟨4095, [1, 2, 3, 4], 5, none⟩
def W.writes (s : State) : State := W.rec (fun x => { x with writing := some W.drawer }) s

/-- What a trigger list may name: address 4. -/
def W.word4 : Word := 4

/-- The recorder has read its ring; the entries as they wait. -/
def W.recordable (s : State) : State := (W.enable s pgEVR).setSts pgEVR Evr.S_SCANNING 0
def W.entryWord : QWord := ⟨leBytes 8 5, 8, true, true⟩
def W.spanWord : QWord := ⟨leBytes 8 (2 ^ 22 + 3 * 2 ^ 23), 8, true, true⟩

/-- A dump of two counters every millisecond into 8 KiB at the start of DRAM. -/
def W.dumping : State :=
  (((((W.enable W.run pgPMC).setFlag pgPMC Pmc.PMC_CTRL 0 true).setNat pgPMC Pmc.DUMP_PERIOD 1000000).setNat pgPMC
    Pmc.DUMP_BASE_HI 1).setNat pgPMC Pmc.DUMP_SIZE 2).setNat pgPMC Pmc.DUMP_RANGE (2 * 2 ^ 16 + 5)

theorem witness_RecorderActs :
    (∃ s : State, s = W.spent 16 (W.evr W.run) ∧ s.aclkRuns = true ∧
      s.enabled pgEVR = true ∧
      bit (s.trigWord 5) 0 = true ∧
      bits (s.trigWord 5) (23, 16) ≤ Tab.get (fun x => 0) s.evr.spent 5) ∧
    (∃ s : State, s = W.frozen (W.evr W.run) ∧ s.aclkRuns = true ∧
      s.enabled pgEVR = true ∧
      bit (s.trigWord 5) 0 = true ∧
      Tab.get (fun x => 0) s.evr.spent 5 < bits (s.trigWord 5) (23, 16) ∧
      s.sts pgEVR Evr.S_FROZEN = 1) ∧
    (∃ s : State, s = W.evr W.run ∧ s.aclkRuns = true ∧
      s.enabled pgEVR = true ∧
      bit (s.trigWord 5) 0 = true ∧
      Tab.get (fun x => 0) s.evr.spent 5 < bits (s.trigWord 5) (23, 16) ∧
      s.sts pgEVR Evr.S_FROZEN ≠ 1 ∧
      s.flag (pgQUE 3) (Que.Q_CTRL 3) 0 = true ∧
      (s.queue 3 3).sound = true ∧
      (s.queue 3 3).lost = false ∧
      (s.queue 3 3).refused = false ∧
      (s.queue 3 3).part = [] ∧
      (s.queue 3 3).committed = (s.queue 3 3).words.length ∧
      (s.queue 3 3).words.length < 64) ∧
    (∃ s : State, s = State.reset ∧ (s.enabled pgEVR = false ∨ bit (s.trigWord 5) 0 = false)) ∧
    (∃ s a : State, s = W.spent 1 (W.evr W.run) ∧ s.reachTick 5 (2 ^ bits (s.trigWord 5) (27, 24) * MS) 0 = some a ∧ Tab.get (fun x => 0) s.evr.spent 5 ≠ 0) ∧
    (∃ s : State, s = W.entry 5 (W.recordable W.run) ∧ (s.queue 3 3).head = some W.entryWord ∧
      s.mayRecord = true ∧
      (leAt W.entryWord.data 0 8).testBit 22 = false) ∧
    (∃ s : State, s = W.entry (2 ^ 22 + 3 * 2 ^ 23) (W.recordable W.run) ∧ (s.queue 3 3).head = some W.spanWord ∧
      s.mayRecord = true ∧
      (leAt W.spanWord.data 0 8).testBit 22 = true) ∧
    (∃ s : State, s = W.writes (W.evr W.run) ∧ s.evr.writing = some W.drawer ∧
      s.aclkRuns = true ∧
      4 ≤ W.drawer.data.length) ∧
    (∃ s a : State, s = (W.evr W.run).setReg pgEVR (Evr.STAT_CTRL 7) 65537 ∧ s.reachTick (tickSpan 7) (s.fld pgEVR (Evr.STAT_CTRL 7) (27, 16) * SEC * NS) 0 = some a ∧ s.flag pgEVR (Evr.STAT_CTRL 7) 0 = true ∧
      s.fld pgEVR (Evr.STAT_CTRL 7) (27, 16) * SEC * NS ≠ 0) ∧
    (∃ s : State, s = W.evr W.run ∧ s.enabled pgEVR = true ∧
      s.sts pgEVR Evr.S_FROZEN ≠ 1 ∧
      s.flag (pgQUE 3) (Que.Q_CTRL 3) 0 = true ∧
      (s.queue 3 3).sound = true ∧
      (s.queue 3 3).lost = false ∧
      (s.queue 3 3).refused = false ∧
      (s.queue 3 3).part = [] ∧
      (s.queue 3 3).committed = (s.queue 3 3).words.length ∧
      (s.queue 3 3).words.length < 64) ∧
    (∃ s : State, s = W.evr W.run ∧ s.reaches pgEVR = true ∧
      s.evr.freezing = false ∧
      s.sts pgEVR Evr.S_FROZEN ≠ 1 ∧
      s.evr.writing = none) ∧
    (∃ s : State, s = W.writes (W.evr W.run) ∧ s.reaches pgEVR = true ∧
      s.evr.freezing = false ∧
      s.sts pgEVR Evr.S_FROZEN ≠ 1 ∧
      s.evr.writing ≠ none) ∧
    (∃ s : State, s = W.frozen (W.evr W.run) ∧ s.reaches pgEVR = true ∧
      s.evr.freezing = false ∧
      s.sts pgEVR Evr.S_FROZEN = 1) ∧
    (∃ s a : State, s = W.frozen (W.evr W.run) ∧ s.reach (s.evr.frozenAt + s.fld pgEVR Evr.EVR_CTRL (31, 16) * SEC * NS) = some a ∧ s.sts pgEVR Evr.S_FROZEN = 1 ∧
      s.evr.freezing = false) ∧
    (∃ s : State, s = W.frozen (W.evr W.run) ∧ s.reaches pgEVR = true ∧
      true = true ∧
      s.sts pgEVR Evr.S_FROZEN = 1) ∧
    (∃ s : State, s = W.frozen (W.evr W.run) ∧ s.reaches pgEVR = true ∧
      (false = false ∨ s.sts pgEVR Evr.S_FROZEN ≠ 1)) ∧
    (∃ s : State, s = W.evr W.run ∧ s.reaches pgEVR = true ∧
      (true = false ∨ s.sts pgEVR Evr.S_FROZEN ≠ 1)) ∧
    (∃ s : State, s = W.run.setSts pgEVR Evr.S_ERASING 1 ∧ s.aclkRuns = true ∧
      s.sts pgEVR Evr.S_ERASING ≠ 0) ∧
    (∃ s : State, s = W.run.setSts pgEVR Evr.S_SCANNING 1 ∧ s.aclkRuns = true ∧
      s.sts pgEVR Evr.S_SCANNING ≠ 0) ∧
    (∃ s : State, s = W.run.setNat pgEVR Evr.TRIG_ADDR 8175 ∧ s.reaches pgEVR = true ∧
      s.fld pgEVR Evr.TRIG_ADDR (12, 0) < 8176 ∧
      (s.fld pgEVR Evr.TRIG_ADDR (12, 0) < 4096 ∨ listWordOk W.word4 = true)) ∧
    (∃ s : State, s = W.run.setNat pgEVR Evr.TRIG_ADDR 4095 ∧ s.reaches pgEVR = true ∧
      s.fld pgEVR Evr.TRIG_ADDR (12, 0) < 8176 ∧
      (s.fld pgEVR Evr.TRIG_ADDR (12, 0) < 4096 ∨ listWordOk 4294967295 = true)) ∧
    (∃ s : State, s = W.run.setNat pgEVR Evr.TRIG_ADDR 8175 ∧ s.aclkRuns = true ∧
      s.fld pgEVR Evr.TRIG_ADDR (12, 0) < 8176) ∧
    (∃ s : State, s = W.run ∧ s.aclkRuns = true) :=
  ⟨⟨_, rfl, by decide +kernel⟩,
    ⟨_, rfl, by decide +kernel⟩,
    ⟨_, rfl, by decide +kernel⟩,
    ⟨_, rfl, by decide +kernel⟩,
    ⟨_, _, rfl, W.ofSome _ (by decide +kernel), by decide +kernel⟩,
    ⟨_, rfl, by decide +kernel⟩,
    ⟨_, rfl, by decide +kernel⟩,
    ⟨_, rfl, by decide +kernel⟩,
    ⟨_, _, rfl, W.ofSome _ (by decide +kernel), by decide +kernel⟩,
    ⟨_, rfl, by decide +kernel⟩,
    ⟨_, rfl, by decide +kernel⟩,
    ⟨_, rfl, by decide +kernel⟩,
    ⟨_, rfl, by decide +kernel⟩,
    ⟨_, _, rfl, W.ofSome _ (by decide +kernel), by decide +kernel⟩,
    ⟨_, rfl, by decide +kernel⟩,
    ⟨_, rfl, by decide +kernel⟩,
    ⟨_, rfl, by decide +kernel⟩,
    ⟨_, rfl, by decide +kernel⟩,
    ⟨_, rfl, by decide +kernel⟩,
    ⟨_, rfl, by decide +kernel⟩,
    ⟨_, rfl, by decide +kernel⟩,
    ⟨_, rfl, by decide +kernel⟩,
    ⟨_, rfl, by decide +kernel⟩⟩

theorem witness_CountersAct :
    (∃ s : State, s = W.run ∧ s.aclkRuns = true) ∧
    (∃ s : State, s = W.run ∧ s.reaches pgPMC = true ∧
      counterUsed 1480 = true) ∧
    (∃ s : State, s = W.run ∧ s.reaches pgPMC = true ∧
      counterUsed 1535 = false) ∧
    (∃ s : State, s = W.run ∧ s.reaches pgPMC = true) ∧
    (∃ s a : State, s = W.dumping ∧ s.reachTick tickDump (s.fld pgPMC Pmc.DUMP_PERIOD (29, 0) * NS) 0 = some a ∧ s.enabled pgPMC = true ∧
      s.flag pgPMC Pmc.PMC_CTRL 0 = true ∧
      s.fld pgPMC Pmc.DUMP_PERIOD (29, 0) * NS ≠ 0 ∧
      true = true) ∧
    (∃ s a : State, s = W.dumping ∧ s.reachTick tickDump (s.fld pgPMC Pmc.DUMP_PERIOD (29, 0) * NS) 0 = some a ∧ s.enabled pgPMC = true ∧
      s.flag pgPMC Pmc.PMC_CTRL 0 = true ∧
      s.fld pgPMC Pmc.DUMP_PERIOD (29, 0) * NS ≠ 0 ∧
      false = false ∧
      s.pmc.gapCause = 0 ∧
      s.nat pgPMC Pmc.DUMP_WR + ceilDiv (32 + 8 * s.fld pgPMC Pmc.DUMP_RANGE (26, 16)) 64 * 64 < s.dumpSize ∧
      dramSpan s.dumpBase s.dumpSize = true ∧
      a.hwSuppressed (s.dumpBase + s.nat pgPMC Pmc.DUMP_WR) (ceilDiv (32 + 8 * s.fld pgPMC Pmc.DUMP_RANGE (26, 16)) 64 * 64) = false) ∧
    (∃ s : State, s = W.run ∧ s.aclkRuns = true) :=
  ⟨⟨_, rfl, by decide +kernel⟩,
    ⟨_, rfl, by decide +kernel⟩,
    ⟨_, rfl, by decide +kernel⟩,
    ⟨_, rfl, by decide +kernel⟩,
    ⟨_, _, rfl, W.ofSome _ (by decide +kernel), by decide +kernel⟩,
    ⟨_, _, rfl, W.ofSome _ (by decide +kernel), by decide +kernel⟩,
    ⟨_, rfl, by decide +kernel⟩⟩

/-- The power block in a phase, with a target. -/
def W.pwr (f : PwrState → PwrState) (s : State) : State := { s with pwr := f s.pwr }
def W.phase (p : PwrPhase) (target : Nat) (s : State) : State := W.pwr (fun x => { x with phase := p, target := target }) s

/-- Asleep, with the timeline stopped. -/
def W.asleep (target : Nat) (s : State) : State :=
  { W.phase .asleep target s with tln := { s.tln with stopped := true } }

/-- WAKE_IN 0 and the alarm at 0 wake. -/
def W.wakes (s : State) : State := s.setNat pgHTH Hth.WAKE_EN 0x70001

/-- A seal check failed before; the time captured at a sleep. -/
def W.sealMissed (s : State) : State := { s with hth := { s.hth with sealMisses := 1 } }
def W.capturedAt (p : PwrPhase) : State :=
  { W.asleep 2 W.run with pwr := { W.run.pwr with phase := p }, boot := { W.run.boot with captured := some ⟨0, 5, 0⟩ } }
def W.freshWake (s : State) : State := W.pwr (fun x => { x with fresh := true }) s

theorem witness_PowerStatesAreEntered :
    (∃ s : State, s = State.reset ∧ s.reaches pgPWR = true ∧
      s.counted.pwrCause 0 = some 5) ∧
    (∃ s : State, s = W.enable State.reset (pgSWT 15) ∧ s.reaches pgPWR = true ∧
      s.counted.pwrCause 1 = some 1) ∧
    (∃ s : State, s = W.has JobPhase.dispatched 120 [2, 0, 0, 0, 0, 0, 0, 0] State.reset ∧ s.reaches pgPWR = true ∧
      s.counted.pwrCause 1 = some 2) ∧
    (∃ s : State, s = State.reset.setNat pgTHM Thm.T_DIE 1761 ∧ s.reaches pgPWR = true ∧
      s.counted.pwrCause 2 = some 3) ∧
    (∃ s : State, s = W.phase PwrPhase.entering 2 State.reset ∧ s.reaches pgPWR = true ∧
      s.counted.pwrCause 3 = some 4) ∧
    (∃ s : State, s = State.reset.setSts pgPWR Pwr.S_PWR_STATE 1 ∧ s.reaches pgPWR = true ∧
      s.counted.pwrCause 0 = none) ∧
    (∃ s : State, s = State.reset ∧ s.reaches pgPWR = true ∧
      s.counted.pwrCause 1 = none ∧
      (s.counted.recognised 255 15).fst = 0) ∧
    (∃ s : State, s = W.wakes State.reset ∧ s.reaches pgPWR = true ∧
      s.counted.pwrCause 1 = none ∧
      (s.counted.recognised 255 15).fst ≠ 0) ∧
    (∃ s : State, s = W.wakes State.reset ∧ s.reaches pgPWR = true ∧
      s.counted.pwrCause 2 = none ∧
      (s.counted.recognised 2 1).fst ≠ 0) ∧
    (∃ s : State, s = W.wakes State.reset ∧ s.reaches pgPWR = true ∧
      s.counted.pwrCause 3 = none ∧
      (s.counted.recognised 4 0).fst ≠ 0) ∧
    (∃ s : State, s = State.reset.setNat pgTHM Thm.T_DIE 1760 ∧ s.reaches pgPWR = true ∧
      s.counted.pwrCause 2 = none ∧
      (s.counted.recognised 0 0).fst = 0) ∧
    (∃ s : State, s = State.reset.setNat pgTHM Thm.T_DIE 1761 ∧ s.reaches pgPWR = true ∧
      s.counted.pwrCause 3 = none ∧
      (s.counted.recognised 0 0).fst = 0) ∧
    (∃ s : State, s = State.reset ∧ 5 < 6) ∧
    (∃ s : State, s = W.due 3 (W.phase PwrPhase.entering 2 State.reset) ∧ s.pwr.phase = PwrPhase.entering ∧
      s.pwr.msgDone = false ∧
      s.messagesDue ≠ []) ∧
    (∃ s : State, s = W.writes (W.phase PwrPhase.entering 2 State.reset) ∧ s.pwr.phase = PwrPhase.entering ∧
      s.pwr.recDone = false ∧
      s.recorderBusy = true) ∧
    (∃ s : State, s = W.phase PwrPhase.entering 2 State.reset ∧ s.pwr.phase = PwrPhase.entering ∧
      s.drained = true) ∧
    (∃ s : State, s = W.writes (W.phase PwrPhase.entering 2 State.reset) ∧ s.pwr.phase = PwrPhase.entering ∧
      s.drained = false) ∧
    (∃ s : State, s = W.wakes (W.phase PwrPhase.released 2 State.reset) ∧ s.pwr.phase = PwrPhase.released ∧
      s.captureTime.alarmOn = true ∧
      s.captureTime.alarm ≤ s.captureTime.htick) ∧
    (∃ s : State, s = W.phase PwrPhase.released 3 W.run ∧ s.pwr.phase = PwrPhase.released ∧
      (s.captureTime.alarmOn = false ∨ s.captureTime.htick < s.captureTime.alarm) ∧
      (s.pwr.target = 2 ∨ s.pwr.target = 3)) :=
  ⟨⟨_, rfl, by decide +kernel⟩,
    ⟨_, rfl, by decide +kernel⟩,
    ⟨_, rfl, by decide +kernel⟩,
    ⟨_, rfl, by decide +kernel⟩,
    ⟨_, rfl, by decide +kernel⟩,
    ⟨_, rfl, by decide +kernel⟩,
    ⟨_, rfl, by decide +kernel⟩,
    ⟨_, rfl, by decide +kernel⟩,
    ⟨_, rfl, by decide +kernel⟩,
    ⟨_, rfl, by decide +kernel⟩,
    ⟨_, rfl, by decide +kernel⟩,
    ⟨_, rfl, by decide +kernel⟩,
    ⟨_, rfl, by decide +kernel⟩,
    ⟨_, rfl, by decide +kernel⟩,
    ⟨_, rfl, by decide +kernel⟩,
    ⟨_, rfl, by decide +kernel⟩,
    ⟨_, rfl, by decide +kernel⟩,
    ⟨_, rfl, by decide +kernel⟩,
    ⟨_, rfl, by decide +kernel⟩⟩

theorem witness_WakesAct :
    (∃ s : State, s = State.reset.setNat pgHTH Hth.HTH_CFG 31 ∧ 30 < s.fld pgHTH Hth.HTH_CFG (4, 0)) ∧
    (∃ s : State, s = W.wakes (W.asleep 2 State.reset) ∧ s.fld pgHTH Hth.HTH_CFG (4, 0) ≤ 31 ∧
      s.pwr.phase = PwrPhase.asleep ∧
      (∃ n, n < 4 ∧ Nat.testBit 1 n = true ∧ s.flag pgHTH Hth.WAKE_EN n = true ∧ Nat.testBit 1 n ≠ s.flag pgHTH Hth.WAKE_EN (8 + n))) ∧
    (∃ s : State, s = W.wakes (W.asleep 2 State.reset) ∧ s.alarmOn = true ∧
      s.pwr.phase = PwrPhase.asleep ∧
      s.timeRuns = false ∧
      s.htick = s.hth.tick) ∧
    (∃ s a : State, s = W.wakes ((W.phase PwrPhase.entering 2 W.run).setNat pgHTH Hth.ALARM_LO 5) ∧ s.reach (s.hth.edge + Nat.cast ((s.ticksSince + (s.alarm + 2 ^ 48 - s.htick) % 2 ^ 48) * TICK)).toNat = some a ∧ s.alarmOn = true ∧
      s.pwr.phase = PwrPhase.entering ∧
      s.timeRuns = true ∧
      (s.alarm + 2 ^ 48 - s.htick) % 2 ^ 48 ≠ 0) ∧
    (∃ s : State, s = State.reset ∧ s.pwr.phase ≠ PwrPhase.shutdown ∧
      s.aclkRuns = true) ∧
    (∃ s : State, s = W.asleep 2 State.reset ∧ s.pwr.phase ≠ PwrPhase.shutdown ∧
      s.aclkRuns = false) ∧
    (∃ s : State, s = W.phase PwrPhase.shutdown 2 State.reset ∧ s.pwr.phase = PwrPhase.shutdown) ∧
    (∃ s : State, s = W.phase PwrPhase.ioRising 3 State.reset ∧ s.pwr.phase = PwrPhase.ioRising) ∧
    (∃ s : State, s = W.phase PwrPhase.coreRising 2 State.reset ∧ s.pwr.phase = PwrPhase.coreRising ∧
      s.pwr.target = 2 ∧
      s.pwr.fresh = false) ∧
    (∃ s : State, s = W.freshWake (W.phase PwrPhase.coreRising 2 State.reset) ∧ s.pwr.phase = PwrPhase.coreRising ∧
      s.pwr.target = 2 ∧
      s.pwr.fresh = true) ∧
    (∃ s : State, s = W.phase PwrPhase.coreRising 4 State.reset ∧ s.pwr.phase = PwrPhase.coreRising ∧
      s.pwr.target = 4) ∧
    (∃ s : State, s = W.phase PwrPhase.coreRising 3 State.reset ∧ s.pwr.phase = PwrPhase.coreRising ∧
      s.pwr.target ≠ 2 ∧
      s.pwr.target ≠ 4) ∧
    (∃ s : State, s = W.capturedAt PwrPhase.restoring ∧ s.boot.captured = some (Captured.mk 0 5 0) ∧
      s.aclkRuns = true ∧
      s.sts pgCLK Clk.S_ROOT_LOCK = 1 ∧
      s.tln.stopped = true) ∧
    (∃ s : State, s = W.capturedAt PwrPhase.on ∧ s.boot.captured = some (Captured.mk 0 5 0) ∧
      s.aclkRuns = true ∧
      s.sts pgCLK Clk.S_ROOT_LOCK = 1 ∧
      s.tln.stopped = true) ∧
    (∃ s : State, s = State.reset ∧ s.aclkRuns = true) :=
  ⟨⟨_, rfl, by decide +kernel⟩,
    ⟨_, rfl, by decide +kernel⟩,
    ⟨_, rfl, by decide +kernel⟩,
    ⟨_, _, rfl, W.ofSome _ (by decide +kernel), by decide +kernel⟩,
    ⟨_, rfl, by decide +kernel⟩,
    ⟨_, rfl, by decide +kernel⟩,
    ⟨_, rfl, by decide +kernel⟩,
    ⟨_, rfl, by decide +kernel⟩,
    ⟨_, rfl, by decide +kernel⟩,
    ⟨_, rfl, by decide +kernel⟩,
    ⟨_, rfl, by decide +kernel⟩,
    ⟨_, rfl, by decide +kernel⟩,
    ⟨_, rfl, by decide +kernel⟩,
    ⟨_, rfl, by decide +kernel⟩,
    ⟨_, rfl, by decide +kernel⟩⟩

/-- All fifteen sensors read one value, but for those of the last site. -/
def W.temps (v core : Int) : Thermals := ⟨List.replicate 12 v ++ List.replicate 3 core, [], []⟩

/-- Measurements in a row that were cool; a level of region 0; a VCORE request at 0; runs of calibration. -/
def W.cool (n : Nat) (s : State) : State := { s with thm := { s.thm with cool := n } }
def W.level (n : Nat) (s : State) : State := { s with thm := { s.thm with level := [(0, n)] } }
def W.cal (f : CalState → CalState) (s : State) : State := { s with cal := f s.cal }
def W.avs (s : State) : State := W.cal (fun x => { x with avsAsked := some 0 }) s
def W.window (s : State) : State := W.cal (fun x => { x with run := some ⟨0, 10, 0⟩ }) s
def W.analog (s : State) : State := W.cal (fun x => { x with analog := true }) s

/-- Region 0 and the core are hot. -/
def W.warm (s : State) : State := s.setNat pgTHM Thm.T_REGION01 2368

/-- Step 5 of the start is past, and the timeline runs. -/
def W.run6 : State := W.run.setNat pgSYS Sys.START_STEP 6

/-- The chains measured, the codes of an analog run. -/
def W.codes : List (List (Int × Nat)) := List.replicate 36 [(5, 4050), (0, 3949), (1, 4000)]

/-- DRAM was trained; the setting of VCORE. -/
def W.trained (s : State) : State := { s with boot := { s.boot with trained := true } }
def W.vset (s : State) : Nat := s.fld pgCAL Cal.VCORE_SET (9, 0)

theorem witness_TemperatureActs :
    (∃ s a : State, s = W.run6 ∧ s.reachTick tickThermal MS 0 = some a ∧ s.aclkRuns = true ∧
      s.timeRuns = true ∧
      s.startStep ≠ 5 ∧
      s.lowHeld = false ∧
      (W.temps 400 500).broken = [] ∧
      a.tAnalog < 2528 ∧
      (∀ (k : Nat), k < 5 → -32768 ≤ (List.foldl (fun x i => x.judge (W.temps 400 500) i) a (List.range 15)).voteOf (W.temps 400 500) k ∧ (List.foldl (fun x i => x.judge (W.temps 400 500) i) a (List.range 15)).voteOf (W.temps 400 500) k < 2528)) ∧
    (∃ s a : State, s = W.run6 ∧ s.reachTick tickThermal MS 0 = some a ∧ s.aclkRuns = true ∧
      s.timeRuns = true ∧
      s.startStep ≠ 5 ∧
      s.lowHeld = false ∧
      (W.temps 400 2528).broken = [] ∧
      a.tAnalog < 2528 ∧
      (∀ (k : Nat), k < 5 → -32768 ≤ (List.foldl (fun x i => x.judge (W.temps 400 2528) i) a (List.range 15)).voteOf (W.temps 400 2528) k ∧ (List.foldl (fun x i => x.judge (W.temps 400 2528) i) a (List.range 15)).voteOf (W.temps 400 2528) k < 32768) ∧
      (∃ k, k < 5 ∧ 2528 ≤ (List.foldl (fun x i => x.judge (W.temps 400 2528) i) a (List.range 15)).voteOf (W.temps 400 2528) k)) ∧
    (∃ s : State, s = W.run6 ∧ s.pwr.ioOn = true ∧
      s.aclkRuns = true ∧
      (s.votes.all fun x => decide (x < 2528)) = true ∧
      false = false ∧
      -32768 ≤ 2527 ∧
      2527 < 2528) ∧
    (∃ s : State, s = W.run6 ∧ s.pwr.ioOn = true ∧
      s.aclkRuns = true ∧
      (false = true ∨ 2528 ≤ 2528 ∧ 2528 < 32768)) ∧
    (∃ s : State, s = W.run6 ∧ s.pwr.ioOn = true ∧
      s.aclkRuns = true ∧
      (true = true ∨ 2528 ≤ 0 ∧ 0 < 32768)) ∧
    (∃ s : State, s = W.phase PwrPhase.shutdown 4 W.run6 ∧ s.pwr.ioOn = true ∧
      s.pwr.phase = PwrPhase.shutdown) ∧
    (∃ s : State, s = W.cool 101 (W.phase PwrPhase.shutdown 4 W.run6) ∧ s.pwr.phase = PwrPhase.shutdown ∧
      101 ≤ s.thm.cool) ∧
    (∃ s : State, s = W.cool 100 (W.phase PwrPhase.shutdown 4 W.run6) ∧ s.pwr.phase = PwrPhase.shutdown ∧
      s.thm.cool < 101) ∧
    (∃ s a : State, s = (W.warm W.run6).setNat pgTHM Thm.THM_CTRL 3 ∧ s.reachTick (tickRise 0) (100 * MS) 0 = some a ∧ s.aclkRuns = true ∧
      s.tooHot 0 = true ∧
      Tab.get (fun x => 0) s.thm.level 0 < s.fld pgTHM Thm.THM_CTRL (1, 0)) ∧
    (∃ s a : State, s = W.level 3 ((W.warm W.run6).setNat pgTHM Thm.THM_CTRL 3) ∧ s.reachTick (tickRise 0) (100 * MS) 0 = some a ∧ s.aclkRuns = true ∧
      s.tooHot 0 = true ∧
      s.fld pgTHM Thm.THM_CTRL (1, 0) ≤ Tab.get (fun x => 0) s.thm.level 0) ∧
    (∃ s a : State, s = W.level 1 W.run6 ∧ s.reachTick (tickFall 0) (1000 * MS) 0 = some a ∧ s.aclkRuns = true ∧
      s.tooHot 0 = false ∧
      s.cooled 0 = true ∧
      0 < Tab.get (fun x => 0) s.thm.level 0) ∧
    (∃ s a : State, s = W.run6 ∧ a = W.run6 ∧ s.aclkRuns = true ∧
      s.tooHot 0 = false ∧
      (s.cooled 0 = false ∨ Tab.get (fun x => 0) s.thm.level 0 = 0)) ∧
    (∃ s : State, s = W.trained W.run6 ∧ s.aclkRuns = true ∧
      s.boot.trained = true) ∧
    (∃ s : State, s = W.linked W.run6 ∧ s.aclkRuns = true ∧
      s.linkUp = true ∧
      (s.red.unacked.length < 1023 ∨ s.stileHeld = false)) ∧
    (∃ s : State, s = W.run6 ∧ s.aclkRuns = true ∧
      s.linkUp = false) :=
  ⟨⟨_, _, rfl, W.ofSome _ (by decide +kernel), by decide +kernel⟩,
    ⟨_, _, rfl, W.ofSome _ (by decide +kernel), by decide +kernel⟩,
    ⟨_, rfl, by decide +kernel⟩,
    ⟨_, rfl, by decide +kernel⟩,
    ⟨_, rfl, by decide +kernel⟩,
    ⟨_, rfl, by decide +kernel⟩,
    ⟨_, rfl, by decide +kernel⟩,
    ⟨_, rfl, by decide +kernel⟩,
    ⟨_, _, rfl, W.ofSome _ (by decide +kernel), by decide +kernel⟩,
    ⟨_, _, rfl, W.ofSome _ (by decide +kernel), by decide +kernel⟩,
    ⟨_, _, rfl, W.ofSome _ (by decide +kernel), by decide +kernel⟩,
    ⟨_, _, rfl, rfl, by decide +kernel⟩,
    ⟨_, rfl, by decide +kernel⟩,
    ⟨_, rfl, by decide +kernel⟩,
    ⟨_, rfl, by decide +kernel⟩⟩

theorem witness_CalibrationActs :
    (∃ s : State, s = W.run6 ∧ s.aclkRuns = true) ∧
    (∃ s a : State, s = W.avs W.run6 ∧ a = W.run6 ∧ s.cal.avsAsked = some 0 ∧
      s.aclkRuns = true) ∧
    (∃ s a : State, s = W.avs W.run6 ∧ s.reach (0 + 200000 * NS) = some a ∧ s.cal.avsAsked = some 0 ∧
      s.aclkRuns = true ∧
      s.timeRuns = true ∧
      ((Int.ofNat (W.vset s)) - (Int.ofNat (s.fld pgCAL Cal.VCORE_SET (9, 0)))).natAbs ≤ 10) ∧
    (∃ s a : State, s = W.avs W.run6 ∧ s.reach (0 + 1000000 * NS) = some a ∧ s.cal.avsAsked = some 0 ∧
      s.aclkRuns = true ∧
      s.timeRuns = true ∧
      10 < ((Int.ofNat (W.vset s + 11)) - (Int.ofNat (s.fld pgCAL Cal.VCORE_SET (9, 0)))).natAbs) ∧
    (∃ s : State, s = W.run6 ∧ s.aclkRuns = true) ∧
    (∃ s : State, s = W.run6.setFlag pgCAL Cal.CAL_CTRL 2 true ∧ s.aclkRuns = true ∧
      s.flag pgCAL Cal.CAL_CTRL 2 = true ∧
      [31, 20, 15, 15].length = 4 ∧
      Tab.get (fun x => false) s.cal.forced 127 = false ∧
      2 < 4 ∧
      (∀ (k : Nat), k < 4 → (fun k => [31, 20, 15, 15].getD k 0) 2 ≤ (fun k => [31, 20, 15, 15].getD k 0) k ∧ ((fun k => [31, 20, 15, 15].getD k 0) k = (fun k => [31, 20, 15, 15].getD k 0) 2 → 2 ≤ k)) ∧
      30 < (fun k => [31, 20, 15, 15].getD k 0) (s.chainOf 127) ∧
      (fun k => [31, 20, 15, 15].getD k 0) 2 ≤ 15) ∧
    (∃ s : State, s = W.run6.setFlag pgCAL Cal.CAL_CTRL 2 true ∧ s.aclkRuns = true ∧
      s.flag pgCAL Cal.CAL_CTRL 2 = true ∧
      [31, 40, 33, 50].length = 4 ∧
      Tab.get (fun x => false) s.cal.forced 127 = false ∧
      0 < 4 ∧
      (∀ (k : Nat), k < 4 → (fun k => [31, 40, 33, 50].getD k 0) 0 ≤ (fun k => [31, 40, 33, 50].getD k 0) k ∧ ((fun k => [31, 40, 33, 50].getD k 0) k = (fun k => [31, 40, 33, 50].getD k 0) 0 → 0 ≤ k)) ∧
      30 < (fun k => [31, 40, 33, 50].getD k 0) 0) ∧
    (∃ s : State, s = W.run6.setFlag pgCAL Cal.CAL_CTRL 2 true ∧ s.aclkRuns = true ∧
      s.flag pgCAL Cal.CAL_CTRL 2 = true ∧
      [31, 20, 16, 40].length = 4 ∧
      Tab.get (fun x => false) s.cal.forced 127 = false ∧
      2 < 4 ∧
      (∀ (k : Nat), k < 4 → (fun k => [31, 20, 16, 40].getD k 0) 2 ≤ (fun k => [31, 20, 16, 40].getD k 0) k ∧ ((fun k => [31, 20, 16, 40].getD k 0) k = (fun k => [31, 20, 16, 40].getD k 0) 2 → 2 ≤ k)) ∧
      (fun k => [31, 20, 16, 40].getD k 0) 2 ≤ 30 ∧
      ((fun k => [31, 20, 16, 40].getD k 0) (s.chainOf 127) ≤ 30 ∨ 15 < (fun k => [31, 20, 16, 40].getD k 0) 2)) ∧
    (∃ s : State, s = (((W.enable W.run6 (pgSYN 4)).setFld pgCAL Cal.CAL_CTRL (1, 0) 2).setSts pgTLN Tln.S_TL_STATE 2).setFld pgTLN Tln.TL_MODE Tln.SRC 1 ∧ s.reaches pgCAL = true ∧
      s.calRunning = false ∧
      s.counted.refPresent (s.counted.fld pgCAL Cal.CAL_CTRL (1, 0)) = true) ∧
    (∃ s : State, s = W.run6 ∧ s.reaches pgCAL = true ∧
      s.calRunning = false ∧
      s.counted.refPresent (s.counted.fld pgCAL Cal.CAL_CTRL (1, 0)) = false) ∧
    (∃ s : State, s = W.run6 ∧ s.reaches pgCAL = true ∧
      s.calRunning = false) ∧
    (∃ s : State, s = W.analog W.run6 ∧ s.reaches pgCAL = true ∧
      s.calRunning = true) ∧
    (∃ s : State, s = W.analog W.run6 ∧ s.reaches pgCAL = true) ∧
    (∃ s a : State, s = W.run6.setFlag pgCAL Cal.CAL_CTRL 3 true ∧ s.reachTick tickAnalog (86400 * SEC * NS) 0 = some a ∧ s.flag pgCAL Cal.CAL_CTRL 3 = true ∧
      s.calRunning = false) ∧
    (∃ s : State, s = W.window W.run6 ∧ s.cal.run = some (TimeRun.mk 0 10 0) ∧
      s.aclkRuns = true ∧
      100000 < (crystalErrors (TimeRun.mk 0 10 0).secs 200020001000 5000).fst.natAbs) ∧
    (∃ s : State, s = W.window W.run6 ∧ s.cal.run = some (TimeRun.mk 0 10 0) ∧
      s.aclkRuns = true ∧
      (crystalErrors (TimeRun.mk 0 10 0).secs 200020000000 180000000000).fst.natAbs ≤ 100000) ∧
    (∃ s : State, s = W.analog W.run6 ∧ s.cal.analog = true ∧
      s.aclkRuns = true) ∧
    (∃ s : State, s = W.run6 ∧ s.reaches pgCAL = true ∧
      false = false) ∧
    (∃ s : State, s = W.run6.setNat pgCAL Cal.OVR_SEL (3 * 2 ^ 16 + 127 * 2 ^ 8) ∧ s.reaches pgCAL = true ∧
      true = true ∧
      overrideOk (bits (s.reg pgCAL Cal.OVR_SEL) (2, 0)) (bits (s.reg pgCAL Cal.OVR_SEL) (14, 8)) (bits (s.reg pgCAL Cal.OVR_SEL) (18, 16)) = true) ∧
    (∃ s : State, s = W.run6.setNat pgCAL Cal.OVR_SEL (36 * 2 ^ 8 + 1) ∧ s.reaches pgCAL = true ∧
      true = true ∧
      overrideOk (bits (s.reg pgCAL Cal.OVR_SEL) (2, 0)) (bits (s.reg pgCAL Cal.OVR_SEL) (14, 8)) (bits (s.reg pgCAL Cal.OVR_SEL) (18, 16)) = false) :=
  ⟨⟨_, rfl, by decide +kernel⟩,
    ⟨_, _, rfl, rfl, by decide +kernel⟩,
    ⟨_, _, rfl, W.ofSome _ (by decide +kernel), by decide +kernel⟩,
    ⟨_, _, rfl, W.ofSome _ (by decide +kernel), by decide +kernel⟩,
    ⟨_, rfl, by decide +kernel⟩,
    ⟨_, rfl, by decide +kernel⟩,
    ⟨_, rfl, by decide +kernel⟩,
    ⟨_, rfl, by decide +kernel⟩,
    ⟨_, rfl, by decide +kernel⟩,
    ⟨_, rfl, by decide +kernel⟩,
    ⟨_, rfl, by decide +kernel⟩,
    ⟨_, rfl, by decide +kernel⟩,
    ⟨_, rfl, by decide +kernel⟩,
    ⟨_, _, rfl, W.ofSome _ (by decide +kernel), by decide +kernel⟩,
    ⟨_, rfl, by decide +kernel⟩,
    ⟨_, rfl, by decide +kernel⟩,
    ⟨_, rfl, by decide +kernel⟩,
    ⟨_, rfl, by decide +kernel⟩,
    ⟨_, rfl, by decide +kernel⟩,
    ⟨_, rfl, by decide +kernel⟩⟩

/-- The Shelf's and the activation's states. -/
def W.shelf (n : Nat) (s : State) : State := s.setSts pgFWU Fwu.S_STAGE_STATE n
def W.act (n : Nat) (s : State) : State := s.setSts pgFWU Fwu.S_ACT_STATE n
def W.mode (n : Nat) (s : State) : State := s.setFld pgFWU Fwu.FWU_CTRL (5, 4) n
def W.system (n : Nat) (s : State) : State := s.setFld pgSYS Sys.SYS_STATE (1, 0) n
def W.sealed (s : State) : State := s.setFlag pgHTH PAGE_FAULT Hth.F_SEAL_OPEN true

/-- A Golden write runs; a fuse element is being written. -/
def W.golden (s : State) : State := { s with fwu := { s.fwu with golden := true } }
def W.fusing (slot kind : Nat) (s : State) : State := { s with fwu := { s.fwu with fusing := some (slot, kind) } }

/-- The timeline is locked. -/
def W.locked (s : State) : State := s.setSts pgTLN Tln.S_TL_STATE 2

/-- Activations wait for the Stile, which this device holds. -/
def W.waits (s : State) : State := (W.held s).setFlag pgFWU Fwu.FWU_CTRL 1 true

/-- A staging of one image length from the start of DRAM: its header says one block. -/
def W.staging (s : State) : State :=
  let s := { s with fwu := { s.fwu with stageAt := DRAM_BASE, stageLen := 0x6000 } }
  W.shelf 1 (s.setByte (DRAM_BASE + 0x3C) 1)

theorem witness_FirmwareActs :
    (∃ s : State, s = W.sealed W.run ∧ s.reaches pgFWU = true ∧
      s.sealOpen = true) ∧
    (∃ s : State, s = W.shelf 1 W.run ∧ s.reaches pgFWU = true ∧
      s.sealOpen = false ∧
      (s.stageState = 1 ∨ s.actState ≠ 0 ∨ s.fwu.golden = true)) ∧
    (∃ s : State, s = W.act 1 W.run ∧ s.reaches pgFWU = true ∧
      s.sealOpen = false ∧
      (s.stageState = 1 ∨ s.actState ≠ 0 ∨ s.fwu.golden = true)) ∧
    (∃ s : State, s = W.golden W.run ∧ s.reaches pgFWU = true ∧
      s.sealOpen = false ∧
      (s.stageState = 1 ∨ s.actState ≠ 0 ∨ s.fwu.golden = true)) ∧
    (∃ s : State, s = W.run ∧ s.reaches pgFWU = true ∧
      s.sealOpen = false ∧
      s.stageState ≠ 1 ∧
      s.actState = 0 ∧
      s.fwu.golden = false) ∧
    (∃ s : State, s = W.act 1 W.run ∧ s.reaches pgFWU = true ∧
      s.sealOpen = false ∧
      (s.actState ≠ 0 ∨ s.fwu.golden = true)) ∧
    (∃ s : State, s = W.golden W.run ∧ s.reaches pgFWU = true ∧
      s.sealOpen = false ∧
      (s.actState ≠ 0 ∨ s.fwu.golden = true)) ∧
    (∃ s : State, s = W.mode 2 W.run ∧ s.reaches pgFWU = true ∧
      s.sealOpen = false ∧
      s.actState = 0 ∧
      s.fwu.golden = false ∧
      (s.stageState ≠ 2 ∨ s.sysState = 3 ∧ s.fld pgFWU Fwu.FWU_CTRL (5, 4) ≠ 2)) ∧
    (∃ s : State, s = W.system 3 (W.shelf 2 W.run) ∧ s.reaches pgFWU = true ∧
      s.sealOpen = false ∧
      s.actState = 0 ∧
      s.fwu.golden = false ∧
      (s.stageState ≠ 2 ∨ s.sysState = 3 ∧ s.fld pgFWU Fwu.FWU_CTRL (5, 4) ≠ 2)) ∧
    (∃ s : State, s = W.shelf 2 W.run ∧ s.reaches pgFWU = true ∧
      s.sealOpen = false ∧
      s.actState = 0 ∧
      s.fwu.golden = false ∧
      s.stageState = 2 ∧
      s.sysState ≠ 3 ∧
      s.fld pgFWU Fwu.FWU_CTRL (5, 4) = 0 ∧
      s.actTime.ns < SEC) ∧
    (∃ s : State, s = W.mode 1 (W.shelf 2 W.run) ∧ s.reaches pgFWU = true ∧
      s.sealOpen = false ∧
      s.actState = 0 ∧
      s.fwu.golden = false ∧
      s.stageState = 2 ∧
      s.sysState ≠ 3 ∧
      s.fld pgFWU Fwu.FWU_CTRL (5, 4) = 1) ∧
    (∃ s : State, s = W.waits (W.mode 2 (W.shelf 2 W.run)) ∧ s.reaches pgFWU = true ∧
      s.sealOpen = false ∧
      s.actState = 0 ∧
      s.fwu.golden = false ∧
      s.stageState = 2 ∧
      s.fld pgFWU Fwu.FWU_CTRL (5, 4) = 2 ∧
      s.counted.mustDefer = true) ∧
    (∃ s : State, s = W.locked (W.mode 2 (W.shelf 2 W.run)) ∧ s.reaches pgFWU = true ∧
      s.sealOpen = false ∧
      s.actState = 0 ∧
      s.fwu.golden = false ∧
      s.stageState = 2 ∧
      s.fld pgFWU Fwu.FWU_CTRL (5, 4) = 2 ∧
      s.counted.mustDefer = false) ∧
    (∃ s : State, s = W.shelf 1 W.run ∧ s.reaches pgFWU = true ∧
      s.stageState = 1) ∧
    (∃ s : State, s = W.act 2 W.run ∧ s.reaches pgFWU = true ∧
      s.stageState ≠ 1 ∧
      (s.actState = 1 ∨ s.actState = 2)) ∧
    (∃ s : State, s = W.act 3 W.run ∧ s.reaches pgFWU = true ∧
      s.stageState ≠ 1 ∧
      s.actState ≠ 1 ∧
      s.actState ≠ 2) ∧
    (∃ s : State, s = W.linked (W.shelf 2 W.run) ∧ s.reaches pgFWU = true ∧
      s.counted.stageState = 2 ∧
      s.counted.linkUp = true ∧
      s.counted.fwu.sending = none) ∧
    (∃ s : State, s = W.shelf 2 W.run ∧ s.reaches pgFWU = true ∧
      (s.counted.stageState ≠ 2 ∨ s.counted.linkUp = false)) ∧
    (∃ s : State, s = W.linked W.run ∧ s.reaches pgFWU = true ∧
      (s.counted.stageState ≠ 2 ∨ s.counted.linkUp = false)) ∧
    (∃ s : State, s = W.run.setReg pgRED (Red.PEER_ID0 + 4) 7 ∧ s.reaches pgFWU = true) ∧
    (∃ s : State, s = W.shelf 1 W.run ∧ s.aclkRuns = true ∧
      s.stageState = 1 ∧
      s.fwu.peerStage = false ∧
      (dramSpan s.fwu.stageAt s.fwu.stageLen && s.fwu.stageLen == imageLength (s.imageHeader s.fwu.stageAt)) = false) ∧
    (∃ s : State, s = W.staging W.run ∧ s.aclkRuns = true ∧
      s.stageState = 1 ∧
      s.fwu.peerStage = false ∧
      (dramSpan s.fwu.stageAt s.fwu.stageLen && s.fwu.stageLen == imageLength (s.imageHeader s.fwu.stageAt)) = true) ∧
    (∃ s a : State, s = W.waits (W.act 1 W.run) ∧ s.reach s.journalTime = some a ∧ s.actState = 1 ∧
      s.aclkRuns = true ∧
      a.mustDefer = true) ∧
    (∃ s a : State, s = W.locked (W.act 1 W.run) ∧ s.reach s.journalTime = some a ∧ s.actState = 1 ∧
      s.aclkRuns = true ∧
      a.mustDefer = false) ∧
    (∃ s : State, s = W.locked (W.act 2 W.run) ∧ s.actState = 2 ∧
      s.aclkRuns = true ∧
      s.mustDefer = false) ∧
    (∃ s : State, s = W.waits (W.act 2 W.run) ∧ s.actState = 2 ∧
      s.aclkRuns = true ∧
      s.mustDefer = true) ∧
    (∃ s : State, s = W.run ∧ s.reaches pgFWU = true ∧
      false = false) ∧
    (∃ s : State, s = W.sealed W.run ∧ s.reaches pgFWU = true ∧
      true = true ∧
      s.sealOpen = true) ∧
    (∃ s : State, s = W.shelf 2 W.run ∧ s.reaches pgFWU = true ∧
      true = true ∧
      s.sealOpen = false ∧
      s.fwu.golden = false ∧
      s.actState = 0 ∧
      s.stageState = 2) ∧
    (∃ s : State, s = W.shelf 1 W.run ∧ s.reaches pgFWU = true ∧
      true = true ∧
      s.sealOpen = false ∧
      (s.fwu.golden = true ∨ s.actState ≠ 0 ∨ s.stageState = 1)) ∧
    (∃ s : State, s = W.golden W.run ∧ s.reaches pgFWU = true ∧
      true = true ∧
      s.sealOpen = false ∧
      (s.fwu.golden = true ∨ s.actState ≠ 0 ∨ s.stageState = 1)) ∧
    (∃ s : State, s = (W.run.setNat pgFWU Fwu.FUSE_SEL 3).setNat pgFWU (Fwu.KEY_DATA 0) 9 ∧ s.reaches pgFWU = true ∧
      true = true ∧
      s.sealOpen = false ∧
      s.fwu.fusing = none ∧
      s.fuseTaken (s.fld pgFWU Fwu.FUSE_SEL (1, 0)) (s.fld pgFWU Fwu.FUSE_SEL (5, 4)) = false) ∧
    (∃ s : State, s = W.run ∧ s.reaches pgFWU = true ∧
      true = true ∧
      s.sealOpen = false ∧
      (s.fwu.fusing ≠ none ∨ s.fuseTaken (s.fld pgFWU Fwu.FUSE_SEL (1, 0)) (s.fld pgFWU Fwu.FUSE_SEL (5, 4)) = true)) ∧
    (∃ s : State, s = W.golden W.run ∧ s.aclkRuns = true ∧
      s.fwu.golden = true) ∧
    (∃ s : State, s = W.fusing 3 0 W.run ∧ s.aclkRuns = true ∧
      s.fwu.fusing = some (3, 0) ∧
      0 < 3) ∧
    (∃ s : State, s = W.fusing 3 1 W.run ∧ s.aclkRuns = true ∧
      s.fwu.fusing = some (3, 1) ∧
      1 < 3) ∧
    (∃ s : State, s = W.fusing 3 2 W.run ∧ s.aclkRuns = true ∧
      s.fwu.fusing = some (3, 2) ∧
      2 < 3) :=
  ⟨⟨_, rfl, by decide +kernel⟩,
    ⟨_, rfl, by decide +kernel⟩,
    ⟨_, rfl, by decide +kernel⟩,
    ⟨_, rfl, by decide +kernel⟩,
    ⟨_, rfl, by decide +kernel⟩,
    ⟨_, rfl, by decide +kernel⟩,
    ⟨_, rfl, by decide +kernel⟩,
    ⟨_, rfl, by decide +kernel⟩,
    ⟨_, rfl, by decide +kernel⟩,
    ⟨_, rfl, by decide +kernel⟩,
    ⟨_, rfl, by decide +kernel⟩,
    ⟨_, rfl, by decide +kernel⟩,
    ⟨_, rfl, by decide +kernel⟩,
    ⟨_, rfl, by decide +kernel⟩,
    ⟨_, rfl, by decide +kernel⟩,
    ⟨_, rfl, by decide +kernel⟩,
    ⟨_, rfl, by decide +kernel⟩,
    ⟨_, rfl, by decide +kernel⟩,
    ⟨_, rfl, by decide +kernel⟩,
    ⟨_, rfl, by decide +kernel⟩,
    ⟨_, rfl, by decide +kernel⟩,
    ⟨_, rfl, by decide +kernel⟩,
    ⟨_, _, rfl, W.ofSome _ (by decide +kernel), by decide +kernel⟩,
    ⟨_, _, rfl, W.ofSome _ (by decide +kernel), by decide +kernel⟩,
    ⟨_, rfl, by decide +kernel⟩,
    ⟨_, rfl, by decide +kernel⟩,
    ⟨_, rfl, by decide +kernel⟩,
    ⟨_, rfl, by decide +kernel⟩,
    ⟨_, rfl, by decide +kernel⟩,
    ⟨_, rfl, by decide +kernel⟩,
    ⟨_, rfl, by decide +kernel⟩,
    ⟨_, rfl, by decide +kernel⟩,
    ⟨_, rfl, by decide +kernel⟩,
    ⟨_, rfl, by decide +kernel⟩,
    ⟨_, rfl, by decide +kernel⟩,
    ⟨_, rfl, by decide +kernel⟩,
    ⟨_, rfl, by decide +kernel⟩⟩

/-- The Active slot holds a header of one firmware block of one byte. -/
def W.imaged : State :=
  [(0, 0x46), (1, 0x49), (2, 0x58), (3, 0x4D), (4, 1), (0x3C, 1), (0x40, 1)].foldl
    (fun s (o, b) => s.setByte (slotBase 1 + o) b) W.run

theorem W.imaged_header :
    let h := W.imaged.imageHeader (slotBase 1)
    (formatOk h && W.imaged.targetOk h && imageBlocks h == 1 && !(decide (imageSecver h < W.imaged.fwu.minSec))) = true := by
  decide +kernel

/-- An image passes every check but those the opaque algorithms decide, and the slot is valid when they accept it. -/
theorem witness_valid_image :
    let h := W.imaged.imageHeader (slotBase 1)
    W.imaged.keyOk h = true → W.imaged.signatureOk (slotBase 1) h = true → W.imaged.blockOk (slotBase 1) h 0 = true →
      W.imaged.imageFault (slotBase 1) = none := by
  intro h hk hs hb
  have hh := W.imaged_header
  simp only [Bool.and_eq_true, Bool.not_eq_true', decide_eq_false_iff_not, beq_iff_eq] at hh
  obtain ⟨⟨⟨h1, h2⟩, h3⟩, h4⟩ := hh
  unfold State.imageFault
  simp only [show W.imaged.imageHeader (slotBase 1) = h from rfl] at h1 h2 h3 h4 ⊢
  rw [h1, hk, hs, h2, h3]
  simp [h4, hb, List.range, List.range.loop]

/-- START_STEP; the booted slot; the boot's own fields. -/
def W.step (n : Nat) (s : State) : State := s.setFld pgSYS Sys.START_STEP (3, 0) n
def W.slot (n : Nat) (s : State) : State := s.setSts pgFWU Fwu.S_BOOT_SLOT n
def W.tested (s : State) : State := { s with dev := { s.dev with testMode := true } }

theorem witness_StartsAndSystemStates :
    (∃ s : State, s = State.reset ∧ s.aclkRuns = true ∧
      s.startStep ≤ 2 ∧
      s.sts pgCLK Clk.S_ROOT_LOCK ≠ 1 ∧
      s.flag pgICU PAGE_CTRL 2 = false ∧
      s.flag pgEVR PAGE_CTRL 2 = false) ∧
    (∃ s : State, s = W.slot 2 (W.step 6 W.run) ∧ s.aclkRuns = true ∧
      s.startStep = 6 ∧
      s.bootSlot = 2) ∧
    (∃ s : State, s = W.slot 1 (W.step 6 W.run) ∧ s.aclkRuns = true ∧
      s.startStep = 6 ∧
      s.bootSlot ≠ 2 ∧
      s.boot.restore = false ∧
      s.configPart = [] ∧
      s.journalPhase ≠ 1) ∧
    (∃ s : State, s = W.locked (W.step 9 W.run) ∧ s.aclkRuns = true ∧
      s.startStep = 9 ∧
      s.sysState = 0 ∧
      s.fld pgSYS Sys.SYS_ID (7, 0) = 66 ∧
      s.outputsDue = true) ∧
    (∃ s : State, s = (W.step 9 W.run).setFld pgTLN Tln.TL_MODE Tln.SRC 1 ∧ s.aclkRuns = true ∧
      s.startStep = 9 ∧
      s.outputsDue = false) ∧
    (∃ s a : State, s = W.step 9 W.run ∧ s.reach (s.boot.step8 + (if s.fld pgSYS Sys.SYS_CFG (31, 16) = 0 then 1000 else s.fld pgSYS Sys.SYS_CFG (31, 16)) * 1000000 * NS) = some a ∧ s.aclkRuns = true ∧
      s.startStep = 9 ∧
      s.timeRuns = true) ∧
    (∃ s : State, s = W.system 2 W.run ∧ (State.mk s.pending s.live s.shadow s.armed s.mem s.prog s.queues (have __src := s.dev; DevState.mk __src.presenceLow false __src.roleB __src.faultN __src.resetting __src.regionFenced __src.dieFenced __src.dramValid __src.containing __src.freeCount __src.threadStamp __src.servedStr __src.servedIng __src.unstop __src.gpioDir __src.gpioLevel) s.icu s.tln s.syn s.evr s.pmc s.out s.swt s.launch s.snaps s.progStage s.plu s.region s.port s.dmx s.cluster s.lamp s.field s.red s.merge s.mac s.bridge s.ntm s.ing s.str s.pwr s.hth s.boot s.thm s.cal s.fwu s.jtag).accepts Requester.cc0 pgSYS Sys.SYS_STATE = true ∧
      ((State.mk s.pending s.live s.shadow s.armed s.mem s.prog s.queues (have __src := s.dev; DevState.mk __src.presenceLow false __src.roleB __src.faultN __src.resetting __src.regionFenced __src.dieFenced __src.dramValid __src.containing __src.freeCount __src.threadStamp __src.servedStr __src.servedIng __src.unstop __src.gpioDir __src.gpioLevel) s.icu s.tln s.syn s.evr s.pmc s.out s.swt s.launch s.snaps s.progStage s.plu s.region s.port s.dmx s.cluster s.lamp s.field s.red s.merge s.mac s.bridge s.ntm s.ing s.str s.pwr s.hth s.boot s.thm s.cal s.fwu s.jtag).told Requester.cc0 pgSYS Sys.SYS_STATE 1).sysState = 2 ∧
      false = false) ∧
    (∃ s : State, s = W.system 1 W.run ∧ (State.mk s.pending s.live s.shadow s.armed s.mem s.prog s.queues (have __src := s.dev; DevState.mk __src.presenceLow true __src.roleB __src.faultN __src.resetting __src.regionFenced __src.dieFenced __src.dramValid __src.containing __src.freeCount __src.threadStamp __src.servedStr __src.servedIng __src.unstop __src.gpioDir __src.gpioLevel) s.icu s.tln s.syn s.evr s.pmc s.out s.swt s.launch s.snaps s.progStage s.plu s.region s.port s.dmx s.cluster s.lamp s.field s.red s.merge s.mac s.bridge s.ntm s.ing s.str s.pwr s.hth s.boot s.thm s.cal s.fwu s.jtag).accepts Requester.cc0 pgSYS Sys.SYS_STATE = true ∧
      ((State.mk s.pending s.live s.shadow s.armed s.mem s.prog s.queues (have __src := s.dev; DevState.mk __src.presenceLow true __src.roleB __src.faultN __src.resetting __src.regionFenced __src.dieFenced __src.dramValid __src.containing __src.freeCount __src.threadStamp __src.servedStr __src.servedIng __src.unstop __src.gpioDir __src.gpioLevel) s.icu s.tln s.syn s.evr s.pmc s.out s.swt s.launch s.snaps s.progStage s.plu s.region s.port s.dmx s.cluster s.lamp s.field s.red s.merge s.mac s.bridge s.ntm s.ing s.str s.pwr s.hth s.boot s.thm s.cal s.fwu s.jtag).told Requester.cc0 pgSYS Sys.SYS_STATE 1).sysState = 1) ∧
    (∃ s : State, s = W.run ∧ (State.mk s.pending s.live s.shadow s.armed s.mem s.prog s.queues (have __src := s.dev; DevState.mk __src.presenceLow true __src.roleB __src.faultN __src.resetting __src.regionFenced __src.dieFenced __src.dramValid __src.containing __src.freeCount __src.threadStamp __src.servedStr __src.servedIng __src.unstop __src.gpioDir __src.gpioLevel) s.icu s.tln s.syn s.evr s.pmc s.out s.swt s.launch s.snaps s.progStage s.plu s.region s.port s.dmx s.cluster s.lamp s.field s.red s.merge s.mac s.bridge s.ntm s.ing s.str s.pwr s.hth s.boot s.thm s.cal s.fwu s.jtag).accepts Requester.cc0 pgSYS Sys.SYS_STATE = true ∧
      (((State.mk s.pending s.live s.shadow s.armed s.mem s.prog s.queues (have __src := s.dev; DevState.mk __src.presenceLow true __src.roleB __src.faultN __src.resetting __src.regionFenced __src.dieFenced __src.dramValid __src.containing __src.freeCount __src.threadStamp __src.servedStr __src.servedIng __src.unstop __src.gpioDir __src.gpioLevel) s.icu s.tln s.syn s.evr s.pmc s.out s.swt s.launch s.snaps s.progStage s.plu s.region s.port s.dmx s.cluster s.lamp s.field s.red s.merge s.mac s.bridge s.ntm s.ing s.str s.pwr s.hth s.boot s.thm s.cal s.fwu s.jtag).told Requester.cc0 pgSYS Sys.SYS_STATE 1).sysState = 0 ∨ ((State.mk s.pending s.live s.shadow s.armed s.mem s.prog s.queues (have __src := s.dev; DevState.mk __src.presenceLow true __src.roleB __src.faultN __src.resetting __src.regionFenced __src.dieFenced __src.dramValid __src.containing __src.freeCount __src.threadStamp __src.servedStr __src.servedIng __src.unstop __src.gpioDir __src.gpioLevel) s.icu s.tln s.syn s.evr s.pmc s.out s.swt s.launch s.snaps s.progStage s.plu s.region s.port s.dmx s.cluster s.lamp s.field s.red s.merge s.mac s.bridge s.ntm s.ing s.str s.pwr s.hth s.boot s.thm s.cal s.fwu s.jtag).told Requester.cc0 pgSYS Sys.SYS_STATE 1).sysState = 3 ∨ ((State.mk s.pending s.live s.shadow s.armed s.mem s.prog s.queues (have __src := s.dev; DevState.mk __src.presenceLow true __src.roleB __src.faultN __src.resetting __src.regionFenced __src.dieFenced __src.dramValid __src.containing __src.freeCount __src.threadStamp __src.servedStr __src.servedIng __src.unstop __src.gpioDir __src.gpioLevel) s.icu s.tln s.syn s.evr s.pmc s.out s.swt s.launch s.snaps s.progStage s.plu s.region s.port s.dmx s.cluster s.lamp s.field s.red s.merge s.mac s.bridge s.ntm s.ing s.str s.pwr s.hth s.boot s.thm s.cal s.fwu s.jtag).told Requester.cc0 pgSYS Sys.SYS_STATE 1).sysState = 2 ∧ true = true)) ∧
    (∃ s : State, s = W.system 2 W.run ∧ (State.mk s.pending s.live s.shadow s.armed s.mem s.prog s.queues (have __src := s.dev; DevState.mk __src.presenceLow true __src.roleB __src.faultN __src.resetting __src.regionFenced __src.dieFenced __src.dramValid __src.containing __src.freeCount __src.threadStamp __src.servedStr __src.servedIng __src.unstop __src.gpioDir __src.gpioLevel) s.icu s.tln s.syn s.evr s.pmc s.out s.swt s.launch s.snaps s.progStage s.plu s.region s.port s.dmx s.cluster s.lamp s.field s.red s.merge s.mac s.bridge s.ntm s.ing s.str s.pwr s.hth s.boot s.thm s.cal s.fwu s.jtag).accepts Requester.cc0 pgSYS Sys.SYS_STATE = true ∧
      (((State.mk s.pending s.live s.shadow s.armed s.mem s.prog s.queues (have __src := s.dev; DevState.mk __src.presenceLow true __src.roleB __src.faultN __src.resetting __src.regionFenced __src.dieFenced __src.dramValid __src.containing __src.freeCount __src.threadStamp __src.servedStr __src.servedIng __src.unstop __src.gpioDir __src.gpioLevel) s.icu s.tln s.syn s.evr s.pmc s.out s.swt s.launch s.snaps s.progStage s.plu s.region s.port s.dmx s.cluster s.lamp s.field s.red s.merge s.mac s.bridge s.ntm s.ing s.str s.pwr s.hth s.boot s.thm s.cal s.fwu s.jtag).told Requester.cc0 pgSYS Sys.SYS_STATE 1).sysState = 0 ∨ ((State.mk s.pending s.live s.shadow s.armed s.mem s.prog s.queues (have __src := s.dev; DevState.mk __src.presenceLow true __src.roleB __src.faultN __src.resetting __src.regionFenced __src.dieFenced __src.dramValid __src.containing __src.freeCount __src.threadStamp __src.servedStr __src.servedIng __src.unstop __src.gpioDir __src.gpioLevel) s.icu s.tln s.syn s.evr s.pmc s.out s.swt s.launch s.snaps s.progStage s.plu s.region s.port s.dmx s.cluster s.lamp s.field s.red s.merge s.mac s.bridge s.ntm s.ing s.str s.pwr s.hth s.boot s.thm s.cal s.fwu s.jtag).told Requester.cc0 pgSYS Sys.SYS_STATE 1).sysState = 3 ∨ ((State.mk s.pending s.live s.shadow s.armed s.mem s.prog s.queues (have __src := s.dev; DevState.mk __src.presenceLow true __src.roleB __src.faultN __src.resetting __src.regionFenced __src.dieFenced __src.dramValid __src.containing __src.freeCount __src.threadStamp __src.servedStr __src.servedIng __src.unstop __src.gpioDir __src.gpioLevel) s.icu s.tln s.syn s.evr s.pmc s.out s.swt s.launch s.snaps s.progStage s.plu s.region s.port s.dmx s.cluster s.lamp s.field s.red s.merge s.mac s.bridge s.ntm s.ing s.str s.pwr s.hth s.boot s.thm s.cal s.fwu s.jtag).told Requester.cc0 pgSYS Sys.SYS_STATE 1).sysState = 2 ∧ true = true)) ∧
    (∃ s : State, s = W.system 3 W.run ∧ (State.mk s.pending s.live s.shadow s.armed s.mem s.prog s.queues (have __src := s.dev; DevState.mk __src.presenceLow false __src.roleB __src.faultN __src.resetting __src.regionFenced __src.dieFenced __src.dramValid __src.containing __src.freeCount __src.threadStamp __src.servedStr __src.servedIng __src.unstop __src.gpioDir __src.gpioLevel) s.icu s.tln s.syn s.evr s.pmc s.out s.swt s.launch s.snaps s.progStage s.plu s.region s.port s.dmx s.cluster s.lamp s.field s.red s.merge s.mac s.bridge s.ntm s.ing s.str s.pwr s.hth s.boot s.thm s.cal s.fwu s.jtag).accepts Requester.cc0 pgSYS Sys.SYS_STATE = true ∧
      (((State.mk s.pending s.live s.shadow s.armed s.mem s.prog s.queues (have __src := s.dev; DevState.mk __src.presenceLow false __src.roleB __src.faultN __src.resetting __src.regionFenced __src.dieFenced __src.dramValid __src.containing __src.freeCount __src.threadStamp __src.servedStr __src.servedIng __src.unstop __src.gpioDir __src.gpioLevel) s.icu s.tln s.syn s.evr s.pmc s.out s.swt s.launch s.snaps s.progStage s.plu s.region s.port s.dmx s.cluster s.lamp s.field s.red s.merge s.mac s.bridge s.ntm s.ing s.str s.pwr s.hth s.boot s.thm s.cal s.fwu s.jtag).told Requester.cc0 pgSYS Sys.SYS_STATE 1).sysState = 0 ∨ ((State.mk s.pending s.live s.shadow s.armed s.mem s.prog s.queues (have __src := s.dev; DevState.mk __src.presenceLow false __src.roleB __src.faultN __src.resetting __src.regionFenced __src.dieFenced __src.dramValid __src.containing __src.freeCount __src.threadStamp __src.servedStr __src.servedIng __src.unstop __src.gpioDir __src.gpioLevel) s.icu s.tln s.syn s.evr s.pmc s.out s.swt s.launch s.snaps s.progStage s.plu s.region s.port s.dmx s.cluster s.lamp s.field s.red s.merge s.mac s.bridge s.ntm s.ing s.str s.pwr s.hth s.boot s.thm s.cal s.fwu s.jtag).told Requester.cc0 pgSYS Sys.SYS_STATE 1).sysState = 3 ∨ ((State.mk s.pending s.live s.shadow s.armed s.mem s.prog s.queues (have __src := s.dev; DevState.mk __src.presenceLow false __src.roleB __src.faultN __src.resetting __src.regionFenced __src.dieFenced __src.dramValid __src.containing __src.freeCount __src.threadStamp __src.servedStr __src.servedIng __src.unstop __src.gpioDir __src.gpioLevel) s.icu s.tln s.syn s.evr s.pmc s.out s.swt s.launch s.snaps s.progStage s.plu s.region s.port s.dmx s.cluster s.lamp s.field s.red s.merge s.mac s.bridge s.ntm s.ing s.str s.pwr s.hth s.boot s.thm s.cal s.fwu s.jtag).told Requester.cc0 pgSYS Sys.SYS_STATE 1).sysState = 2 ∧ false = true)) ∧
    (∃ s : State, s = W.system 1 W.run ∧ s.accepts Requester.cc0 pgSYS Sys.SYS_STATE = true ∧
      (s.told Requester.cc0 pgSYS Sys.SYS_STATE 2).sysState = 1 ∧
      (s.told Requester.cc0 pgSYS Sys.SYS_STATE 2).allStopped = true) ∧
    (∃ s : State, s = W.system 2 W.run ∧ s.accepts Requester.cc0 pgSYS Sys.SYS_STATE = true ∧
      (s.told Requester.cc0 pgSYS Sys.SYS_STATE 2).sysState = 2) ∧
    (∃ s : State, s = W.system 1 (W.enable W.run (pgSWT 15)) ∧ s.accepts Requester.cc0 pgSYS Sys.SYS_STATE = true ∧
      ((s.told Requester.cc0 pgSYS Sys.SYS_STATE 2).sysState = 0 ∨ (s.told Requester.cc0 pgSYS Sys.SYS_STATE 2).sysState = 3 ∨ (s.told Requester.cc0 pgSYS Sys.SYS_STATE 2).sysState = 1 ∧ (s.told Requester.cc0 pgSYS Sys.SYS_STATE 2).allStopped = false)) ∧
    (∃ s : State, s = W.system 1 W.run ∧ s.accepts Requester.cc0 pgSYS Sys.SYS_STATE = true ∧
      ((s.told Requester.cc0 pgSYS Sys.SYS_STATE 3).sysState = 1 ∨ (s.told Requester.cc0 pgSYS Sys.SYS_STATE 3).sysState = 2)) ∧
    (∃ s : State, s = W.system 2 W.run ∧ s.accepts Requester.cc0 pgSYS Sys.SYS_STATE = true ∧
      ((s.told Requester.cc0 pgSYS Sys.SYS_STATE 3).sysState = 1 ∨ (s.told Requester.cc0 pgSYS Sys.SYS_STATE 3).sysState = 2)) ∧
    (∃ s : State, s = W.system 3 W.run ∧ s.accepts Requester.cc0 pgSYS Sys.SYS_STATE = true ∧
      (s.told Requester.cc0 pgSYS Sys.SYS_STATE 3).sysState = 3) ∧
    (∃ s : State, s = W.run ∧ s.accepts Requester.cc0 pgSYS Sys.SYS_STATE = true ∧
      (s.told Requester.cc0 pgSYS Sys.SYS_STATE 3).sysState = 0) ∧
    (∃ s : State, s = W.run ∧ s.accepts Requester.cc1 pgSYS Sys.WDT_KICK = true ∧
      isHost Requester.cc1 = false) ∧
    (∃ s : State, s = W.run ∧ s.accepts Requester.spi pgSYS Sys.WDT_KICK = true ∧
      isHost Requester.spi = true) ∧
    (∃ s a : State, s = W.run.setReg pgSYS Sys.WDT_CTRL 2147483649 ∧ s.reach (s.boot.wdtFrom + s.fld pgSYS Sys.WDT_CTRL (15, 0) * 1000000 * NS) = some a ∧ s.wdtOn = true ∧
      s.aclkRuns = true ∧
      s.timeRuns = true) :=
  ⟨⟨_, rfl, by decide +kernel⟩,
    ⟨_, rfl, by decide +kernel⟩,
    ⟨_, rfl, by decide +kernel⟩,
    ⟨_, rfl, by decide +kernel⟩,
    ⟨_, rfl, by decide +kernel⟩,
    ⟨_, _, rfl, W.ofSome _ (by decide +kernel), by decide +kernel⟩,
    ⟨_, rfl, by decide +kernel⟩,
    ⟨_, rfl, by decide +kernel⟩,
    ⟨_, rfl, by decide +kernel⟩,
    ⟨_, rfl, by decide +kernel⟩,
    ⟨_, rfl, by decide +kernel⟩,
    ⟨_, rfl, by decide +kernel⟩,
    ⟨_, rfl, by decide +kernel⟩,
    ⟨_, rfl, by decide +kernel⟩,
    ⟨_, rfl, by decide +kernel⟩,
    ⟨_, rfl, by decide +kernel⟩,
    ⟨_, rfl, by decide +kernel⟩,
    ⟨_, rfl, by decide +kernel⟩,
    ⟨_, rfl, by decide +kernel⟩,
    ⟨_, rfl, by decide +kernel⟩,
    ⟨_, _, rfl, W.ofSome _ (by decide +kernel), by decide +kernel⟩⟩

theorem witness_SideBusesAct :
    (∃ s : State, s = W.run ∧ [1, 2, 3, 4].length = 4) ∧
    (∃ s : State, s = W.run ∧ [1, 2, 3, 4].length = 4 ∧
      4194300 < 4194304 ∧
      4194300 % 4 = 0 ∧
      s.aclkRuns = true) ∧
    (∃ s : State, s = W.run ∧ 67108860 < 67108864 ∧
      67108860 % 4 = 0) ∧
    (∃ s : State, s = W.run ∧ [1, 2, 3].length < 4) ∧
    (∃ s : State, s = W.run ∧ s.aclkRuns = true ∧
      FERAM_BASE < 67108864 ∧
      isMemory FERAM_BASE = true) ∧
    (∃ s : State, s = W.run ∧ s.aclkRuns = true ∧
      4 < 67108864 ∧
      isMemory 4 = false ∧
      isMapped 4 = true) ∧
    (∃ s : State, s = W.run ∧ s.aclkRuns = true ∧
      67108848 < 67108864 ∧
      isMapped 67108848 = false) ∧
    (∃ s : State, s = W.run ∧ s.aclkRuns = true ∧
      67108864 ≤ 67108864) ∧
    (∃ s a : State, s = W.run ∧ a = W.after (Instr.spiWrite 0 [1, 2, 3, 4]) W.run ∧ exec (Instr.spiWrite 0 [1, 2, 3, 4]) s = Host.Outcome.next (W.after (Instr.spiWrite 0 [1, 2, 3, 4]) s) ∧ [1, 2, 3, 4].length = 4) ∧
    (∃ s a : State, s = W.run ∧ a = W.after (Instr.spiRead 0 1) W.run ∧ exec (Instr.spiRead 0 1) s = Host.Outcome.next (W.after (Instr.spiRead 0 1) s)) :=
  ⟨⟨_, rfl, by decide +kernel⟩,
    ⟨_, rfl, by decide +kernel⟩,
    ⟨_, rfl, by decide +kernel⟩,
    ⟨_, rfl, by decide +kernel⟩,
    ⟨_, rfl, by decide +kernel⟩,
    ⟨_, rfl, by decide +kernel⟩,
    ⟨_, rfl, by decide +kernel⟩,
    ⟨_, rfl, by decide +kernel⟩,
    ⟨_, _, rfl, rfl, W.next _ _ (by decide +kernel), by decide +kernel⟩,
    ⟨_, _, rfl, rfl, W.next _ _ (by decide +kernel)⟩⟩

/-- Group of Swath 0 is ARMED; its shadow of a register differs. -/
def W.armed (s : State) : State := s.setArm (pgSWT 0) ⟨true, 5⟩
def W.shadowed (s : State) : State := s.setShd (pgSWT 0) 0x24 7

/-- A counter, an enable and a service of source 40. -/
def W.cnt (n v : Nat) (s : State) : State := { s with pmc := { s.pmc with cnt := Tab.set (fun _ => 0) s.pmc.cnt n v } }
def W.serves (t : Nat) (s : State) : State :=
  let s := (s.setIcuBit (Icu.IN_SERVICE 0) 40 true).setIcuBit (Icu.PENDING 0) 40 true
  { s with icu := { s.icu with owner := Tab.set (fun _ => 1024) s.icu.owner 40 t } }
def W.packet (s : State) : State := s.setQueue 4 0 { Queue.empty with inPacket := true, lost := true }
/-- The queues of writers 3 and 4 are disabled. -/
def W.disabled (s : State) : State := (s.setReg (pgQUE 4) (Que.Q_CTRL 0) 0).setReg (pgQUE 3) (Que.Q_CTRL 2) 0

def W.bit4 : Word := 16
def W.off : Word := 65536

/-- A standby being copied to, whose range 0 mirrors the first 4,096 bytes of DRAM. -/
def W.suppressed : State :=
  ((((W.run.setReg pgRED (Red.MIR_FLAGS 0) 5).setNat pgRED (Red.MIR_BASE_LO 0) (DRAM_BASE % 2 ^ 32)).setNat pgRED (Red.MIR_BASE_HI 0)
    (DRAM_BASE / 2 ^ 32)).setNat pgRED (Red.MIR_SIZE 0) 1).setSync 1

/-- A sound state with something in memory and a command waiting. -/
def W.stored1 : State := { W.run.setByte DRAM_BASE 5 with pending := [.dieFault] }

theorem witness_MemoryReadsBack :
    (∃ s : State, s = W.run ∧ 2 < [1, 2, 3].length ∧
      isMemory (DRAM_BASE + 2) = true ∧
      isImage (DRAM_BASE + 2) = false) ∧
    (∃ s : State, s = W.run ∧ (DRAM_BASE + 3 < DRAM_BASE ∨ DRAM_BASE + [1, 2, 3].length ≤ DRAM_BASE + 3 ∨ isMemory (DRAM_BASE + 3) = false ∨ isImage (DRAM_BASE + 3) = true)) ∧
    (∃ s : State, s = W.run ∧ (∀ (i : Nat), i < [1, 2, 3].length → isMemory (DRAM_BASE + i) = true ∧ isImage (DRAM_BASE + i) = false)) ∧
    (∃ s : State, s = W.stored1 ∧ Memory.wf s.mem = true) ∧
    (∃ s : State, s = W.stored1 ∧ Memory.wf s.mem = true) ∧
    (∃ s : State, s = W.suppressed ∧ s.hwSuppressed DRAM_BASE [1].length = true) ∧
    (∃ s : State, s = W.suppressed ∧ s.hwSuppressed (DRAM_BASE + 4096) [1].length = false) :=
  ⟨⟨_, rfl, by decide +kernel⟩,
    ⟨_, rfl, by decide +kernel⟩,
    ⟨_, rfl, by decide +kernel⟩,
    ⟨_, rfl, by decide +kernel⟩,
    ⟨_, rfl, by decide +kernel⟩,
    ⟨_, rfl, by decide +kernel⟩,
    ⟨_, rfl, by decide +kernel⟩⟩

theorem witness_CommitsCopyTheShadows :
    (∃ s : State, s = W.shadowed (W.armed W.run) ∧ pageInfo (pgSWT 0) = some (PageInfo.mk Block.swt 0 0) ∧
      (PageInfo.mk Block.swt 0 0).sub = 0 ∧
      32 ≤ 36 ∧
      36 < 4096 ∧
      inGroup (pgSWT 0) (regKey (pgSWT 0) 36) = true) ∧
    (∃ s : State, s = W.shadowed (W.armed W.run) ∧ pageInfo (pgSWT 1) = some (PageInfo.mk Block.swt 1 0) ∧
      (PageInfo.mk Block.swt 1 0).sub = 0 ∧
      36 < 4096 ∧
      inGroup (pgSWT 1) (regKey (pgSWT 0) 36) = false) ∧
    (∃ s : State, s = W.shadowed (W.armed W.run) ∧ pageInfo (pgSWT 0) = some (PageInfo.mk Block.swt 0 0) ∧
      (PageInfo.mk Block.swt 0 0).sub = 0 ∧
      inGroup (pgSWT 0) (regKey (pgSWT 0) 0) = true ∧
      s.shd (pgSWT 0) PAGE_EPOCH = s.reg (pgSWT 0) PAGE_EPOCH) ∧
    (∃ s : State, s = W.shadowed (W.armed W.run) ∧ pageInfo (pgSWT 0) = some (PageInfo.mk Block.swt 0 0) ∧
      (PageInfo.mk Block.swt 0 0).sub = 0 ∧
      inGroup (pgSWT 0) (regKey (pgSWT 0) 0) = true) ∧
    (∃ s : State, s = W.shadowed (W.armed W.run) ∧ pageInfo (pgSWT 1) = some (PageInfo.mk Block.swt 1 0) ∧
      (PageInfo.mk Block.swt 1 0).sub = 0) ∧
    (∃ s : State, s = W.shadowed (W.armed W.run) ∧ pageInfo (pgSWT 1) = some (PageInfo.mk Block.swt 1 0) ∧
      (PageInfo.mk Block.swt 1 0).sub = 0 ∧
      pgSWT 0 ≠ pgSWT 1) ∧
    (∃ s : State, s = W.run ∧ 36 < 4096) :=
  ⟨⟨_, rfl, by decide +kernel⟩,
    ⟨_, rfl, by decide +kernel⟩,
    ⟨_, rfl, by decide +kernel⟩,
    ⟨_, rfl, by decide +kernel⟩,
    ⟨_, rfl, by decide +kernel⟩,
    ⟨_, rfl, by decide +kernel⟩,
    ⟨_, rfl, by decide +kernel⟩⟩

theorem witness_AliasesWithoutARegisterReadZero :
    (∃ s : State, s = W.mine ∧ pageInfo (pgSWT 0) = some (PageInfo.mk Block.swt 0 0) ∧
      2048 ≤ 2084 ∧
      2084 < 4096 ∧
      isSc (PageInfo.mk Block.swt 0 0) (2084 % 1024) = false) ∧
    (∃ s : State, s = W.mine ∧ pageInfo (pgSWT 0) = some (PageInfo.mk Block.swt 0 0) ∧
      2048 ≤ 2084 ∧
      2084 < 4096 ∧
      isSc (PageInfo.mk Block.swt 0 0) (2084 % 1024) = false ∧
      s.reaches (pgSWT 0) = true ∧
      s.counted.replicaWrite Requester.pcie (pgSWT 0) 2084 = false) ∧
    (∃ s : State, s = W.mine ∧ pageInfo (pgSWT 0) = some (PageInfo.mk Block.swt 0 0) ∧
      2048 ≤ 2084 ∧
      2084 < 4096 ∧
      isSc (PageInfo.mk Block.swt 0 0) (2084 % 1024) = false ∧
      s.reaches (pgSWT 0) = true ∧
      s.counted.replicaWrite Requester.pcie (pgSWT 0) 2084 = false ∧
      2084 < 3072) ∧
    (∃ s : State, s = W.mine ∧ pageInfo (pgSWT 0) = some (PageInfo.mk Block.swt 0 0) ∧
      2048 ≤ 3108 ∧
      3108 < 4096 ∧
      isSc (PageInfo.mk Block.swt 0 0) (3108 % 1024) = false ∧
      s.reaches (pgSWT 0) = true ∧
      s.counted.replicaWrite Requester.pcie (pgSWT 0) 3108 = false ∧
      3072 ≤ 3108) :=
  ⟨⟨_, rfl, by decide +kernel⟩,
    ⟨_, rfl, by decide +kernel⟩,
    ⟨_, rfl, by decide +kernel⟩,
    ⟨_, rfl, by decide +kernel⟩⟩

theorem witness_ArmedGroupsKeepTheirShadows :
    (∃ s : State, s = W.armed W.mine ∧ 32 ≤ 36 ∧
      36 < 2048 ∧
      pageInfo (pgSWT 0) = some (PageInfo.mk Block.swt 0 0) ∧
      rowAt (PageInfo.mk Block.swt 0 0) 36 = some (W.row (PageInfo.mk Block.swt 0 0) 36) ∧
      isShadowed (PageInfo.mk Block.swt 0 0) 36 = true ∧
      s.reaches (pgSWT 0) = true ∧
      s.counted.replicaWrite Requester.pcie (pgSWT 0) 36 = false ∧
      (s.counted.armOf (groupOf (pgSWT 0))).on = true) ∧
    (∃ s : State, s = W.armed W.mine ∧ pageInfo (pgSWT 0) = some (PageInfo.mk Block.swt 0 0) ∧
      s.accepts Requester.pcie (pgSWT 0) PAGE_COMMIT = true ∧
      ((s.told Requester.pcie (pgSWT 0) PAGE_COMMIT 1).armOf (groupOf (pgSWT 0))).on = true) :=
  ⟨⟨_, rfl, by decide +kernel⟩,
    ⟨_, rfl, by decide +kernel⟩⟩

theorem witness_DisabledQueuesTakeNothing :
    (∃ s : State, s = W.disabled W.run ∧ queueSpec 4 0 = some (QueueSpec.mk 0 1 0 64) ∧
      (s.queue 4 0).sound = true ∧
      s.flag (pgQUE 4) (Que.Q_CTRL 0) 0 = false ∧
      ((s.queue 4 0).inPacket = false ∨ (s.queue 4 0).lost = true) ∧
      (QueueSpec.mk 0 1 0 64).writer = 0) ∧
    (∃ s : State, s = W.packet (W.disabled W.run) ∧ queueSpec 4 0 = some (QueueSpec.mk 0 1 0 64) ∧
      (s.queue 4 0).sound = true ∧
      s.flag (pgQUE 4) (Que.Q_CTRL 0) 0 = false ∧
      ((s.queue 4 0).inPacket = false ∨ (s.queue 4 0).lost = true) ∧
      (QueueSpec.mk 0 1 0 64).writer = 0) ∧
    (∃ s : State, s = W.disabled W.run ∧ queueSpec 3 2 = some (QueueSpec.mk 2 1 2 256) ∧
      (s.queue 3 2).sound = true ∧
      s.flag (pgQUE 3) (Que.Q_CTRL 2) 0 = false ∧
      ((s.queue 3 2).inPacket = false ∨ (s.queue 3 2).lost = true) ∧
      mayUse (QueueSpec.mk 2 1 2 256) true Requester.cc0 = true ∧
      s.reaches (pgQUE 3) = true) ∧
    (∃ s : State, s = W.run ∧ s.reaches (pgQUE 4) = true ∧
      queueSpec 4 0 = some (QueueSpec.mk 0 1 0 64) ∧
      bits W.off Que.THRESH ≠ 0 ∧
      bits W.off Que.THRESH ≤ (QueueSpec.mk 0 1 0 64).depth ∧
      bit W.off 0 = false) :=
  ⟨⟨_, rfl, by decide +kernel⟩,
    ⟨_, rfl, by decide +kernel⟩,
    ⟨_, rfl, by decide +kernel⟩,
    ⟨_, rfl, by decide +kernel⟩⟩

theorem witness_EdgesBecomePending :
    (∃ s : State, s = W.run ∧ isSource 40 = true ∧
      isLevelSource 40 = false ∧
      s.aclkRuns = true) ∧
    (∃ s : State, s = W.serves 0 W.run ∧ isSource 40 = true ∧
      isLevelSource 40 = false ∧
      s.reaches pgICU = true ∧
      actsFor Requester.cc0 0 = true ∧
      s.icuBit (Icu.IN_SERVICE 0) 40 = true ∧
      Tab.get (fun x => 1024) s.icu.owner 40 = 0 ∧
      s.icuBit (Icu.PENDING 0) 40 = true) :=
  ⟨⟨_, rfl, by decide +kernel⟩,
    ⟨_, rfl, by decide +kernel⟩⟩

theorem witness_CompletionsEndServices :
    (∃ s : State, s = W.serves 0 W.run ∧ s.reaches pgICU = true ∧
      actsFor Requester.cc0 0 = true ∧
      s.counted.icuBit (Icu.IN_SERVICE 0) 40 = true ∧ 40 < 512 ∧ Tab.get (fun x => 1024) s.counted.icu.owner 40 = 0) ∧
    (∃ s : State, s = W.serves 1 W.run ∧ s.reaches pgICU = true ∧
      actsFor Requester.cc0 0 = true ∧
      (¬(s.counted.icuBit (Icu.IN_SERVICE 0) 40 = true ∧ 40 < 512 ∧ Tab.get (fun x => 1024) s.counted.icu.owner 40 = 0))) :=
  ⟨⟨_, rfl, by decide +kernel⟩,
    ⟨_, rfl, by decide +kernel⟩⟩

theorem witness_CountersWrap :
    (∃ s : State, s = W.cnt 40 281474976710655 (W.run.setFlag pgPMC Pmc.PMC_CTRL 2 true) ∧ counterUsed 40 = true ∧
      3 < 2 ^ 48) ∧
    (∃ s : State, s = W.cnt 40 281474976710655 (W.run.setFlag pgPMC Pmc.PMC_CTRL 2 true) ∧ counterUsed 40 = true ∧
      3 < 2 ^ 48 ∧
      41 ≠ 40) ∧
    (∃ s : State, s = W.cnt 40 281474976710655 (W.run.setFlag pgPMC Pmc.PMC_CTRL 2 true) ∧ counterUsed 40 = true ∧
      3 < 2 ^ 48 ∧
      2 ^ 48 ≤ s.cnt 40 + 3) ∧
    (∃ s : State, s = W.cnt 40 281474976710655 W.run ∧ counterUsed 40 = true ∧
      0 < 2 ^ 48 ∧
      s.cnt 40 + 0 < 2 ^ 48) ∧
    (∃ s : State, s = W.run.count 4 281474976710656 ∧ (s.presence false).accepts Requester.cc0 (pgPMC + 1) (3072 + (Pmc.OVF (4 / 32) - 4096)) = true ∧
      bit W.bit4 (4 % 32) = true) :=
  ⟨⟨_, rfl, by decide +kernel⟩,
    ⟨_, rfl, by decide +kernel⟩,
    ⟨_, rfl, by decide +kernel⟩,
    ⟨_, rfl, by decide +kernel⟩,
    ⟨_, rfl, by decide +kernel⟩⟩

theorem witness_OnlyTheFirmwareNamesTheParent :
    (∃ s : State, s = W.run ∧ isHost Requester.pcie = true ∧
      (Ntm.PARENT_PORT = Ntm.PARENT_ID_LO ∨ Ntm.PARENT_PORT = Ntm.PARENT_ID_HI ∨ Ntm.PARENT_PORT = Ntm.PARENT_PORT) ∧
      s.accepts Requester.pcie pgNTM Ntm.PARENT_PORT = true) ∧
    (∃ s : State, s = W.run ∧ isHost Requester.spi = true ∧
      s.accepts Requester.spi (pgNTM + 1) (Ntm.PORT_STATE 3 - 4096) = true) ∧
    (∃ s : State, s = W.run ∧ isHost Requester.spi = true ∧
      s.reaches (pgNTM + 1) = true) :=
  ⟨⟨_, rfl, by decide +kernel⟩,
    ⟨_, rfl, by decide +kernel⟩,
    ⟨_, rfl, by decide +kernel⟩⟩

theorem witness_IdleStepIsATick :
    ∃ s : State, s = State.reset ∧ s.pending = [] ∧ s.timeRuns = false :=
  ⟨_, rfl, by decide +kernel⟩

theorem witness_StepKeepsSound : ∃ s : State, s = W.stored1 ∧ s.Sound ∧ s.pending ≠ [] ∧ s.mem ≠ [] :=
  ⟨_, rfl, ⟨by decide +kernel, by decide +kernel, by decide +kernel, by decide +kernel⟩, by decide +kernel,
    by decide +kernel⟩

theorem witness_CommandsChangeOnlyTheirParts :
    ∃ t : State, exec .jtagClamp State.reset = .next t ∧ Part.swt ∉ Instr.jtagClamp.changes ∧
      Part.mem ∉ Instr.jtagClamp.changes ∧ Part.live ∉ Instr.jtagClamp.changes :=
  ⟨_, rfl, by decide +kernel⟩

/-! ### Commands that are not well formed, one for each check -/

/-- A frame of `n` payload bytes. -/
def W.tsx (n : Nat) : TsxMsg := ⟨0, true, 1, 1, 1, List.replicate n 0⟩

/-- None of the commands is well formed. -/
def W.illFormed (l : List Instr) : Bool := l.all (fun c => !c.wellFormed)

theorem test_accesses_have_a_size_a_place_and_a_value :
    W.illFormed [.registerWrite .pcie 0x1000 3 0, .registerWrite .pcie 0x1002 4 0, .registerWrite .pcie (2 ^ 40) 4 0,
      .registerWrite .pcie 0x1000 4 0x100000000, .unmappedAccess .pcie (2 ^ 40) true, .spiWrite 0x4000000 [], .spiWrite 2 [],
      .spiRead 0x4000000 1, .spiRead 2 1] = true := by decide +kernel

theorem test_pages_levels_and_aliases_are_in_range :
    W.illFormed [.setAliasWrite .pcie 1024 0x24 0, .setAliasWrite .pcie 0 0x400 0, .setAliasWrite .pcie 0 2 0,
      .clrAliasWrite .pcie 1024 0x24 0 0 [] true, .clrAliasWrite .pcie 0 0x400 0 0 [] true, .pageEnable .pcie 1024 true,
      .pageStop .pcie 1024 true, .pageReset .pcie 1024 0, .pageReset .pcie 0 8, .arm .pcie 1024, .disarm .pcie 1024,
      .parityError 1024 false, .resetComplete 3 0, .resetComplete 0 1024, .containmentTimeout 3 0, .containmentTimeout 0 1024]
      = true := by decide +kernel

theorem test_operands_fit_their_fields :
    W.illFormed [.servoEvent 5 (some 0), .synEdge 0 false 4096 0, .thrEnd .cc0 0 (2 ^ 32), .interruptEdge 512, .levelChange 512 true,
      .tsnsMeasure 0 3300001 0, .tsnsMeasure 0 0 3300001, .calWindowEnd 1 0, .chainMeasure 0 [1, 2, 3],
      .analogRunDone [[(1, 2), (1, 2), (1, 2)]], .analogRunDone (List.replicate 36 []),
      .thermalMeasure ⟨[1], [], []⟩, .thermalMeasure ⟨List.replicate 15 1, [15], []⟩,
      .thermalMeasure ⟨List.replicate 15 1, [], [(1024, 0)]⟩] = true := by decide +kernel

theorem test_data_is_there_and_fits :
    W.illFormed [.memoryWindowWrite 0 [], .memoryWindowWrite (2 ^ 33) [1], .dmxRxPacket 0 [], .macRxFrame 0 0 0 0 0 [],
      .fieldRxFrame 0 true 0 [], .queueWrite (some .cc0) 3 2 [1, 2, 3] false, .queueWrite (some .cc0) 3 2 [1, 2, 3, 4] true]
      = true := by decide +kernel

theorem test_frames_have_their_length :
    W.illFormed [.hello (W.tsx 23), .nak (W.tsx 5), .timeReq (W.tsx 11), .timeRsp (W.tsx 35), .input (W.tsx 21),
      .memwrite (W.tsx 7), .regwrite (W.tsx 13), .fix (W.tsx 27), .ready (W.tsx 9), .digest (W.tsx 47), .sense (W.tsx 15),
      .outcome (W.tsx 3), .swapReq (W.tsx 15), .swapAt (W.tsx 15), .swapAck (W.tsx 15), .swapCancel (W.tsx 15),
      .revertReq (W.tsx 15), .resyncReq (W.tsx 19), .copyBegin (W.tsx 19), .cutover (W.tsx 19), .syncBreak (W.tsx 19),
      .converged (W.tsx 19), .copy (W.tsx 11), .thermal (W.tsx 5), .record (W.tsx 19), .imageBegin (W.tsx 7),
      .imageData (W.tsx 7), .imageEnd (W.tsx 7), .imageAbort (W.tsx 7), .tsxIdle (W.tsx 1), .release 0 (some (W.tsx 11))]
      = true := by decide +kernel

theorem test_frames_have_their_fields :
    W.illFormed [.tsxIdle { W.tsx 0 with seq := 2 ^ 32 }, .tsxIdle { W.tsx 0 with ack := 2 ^ 32 },
      .tsxIdle { W.tsx 0 with gen := 2 ^ 32 }, .memwrite (W.tsx 2041)] = true := by decide +kernel

theorem test_well_formed_commands :
    [Instr.registerWrite .pcie 0x1000 4 0xFFFFFFFF, .setAliasWrite .pcie 1023 0x3FC 0, .pageReset .pcie 0 7,
      .hello (W.tsx 24), .memwrite (W.tsx 2040), .spiRead 0x3FFFFFC 1, .tsnsMeasure 0 3300000 0].all Instr.wellFormed = true := by
  decide +kernel

/-! ### Values that the spec's worked examples give -/

/-- "02_register_pages.md", worked example: PAGE_CAPS of PXP[12] reads 2, and its +0x040 is written into the shadow. -/
theorem test_page_caps : (W.enable State.reset 0x10C).readFor .pcie 0x10C 0x004 = 2 := by decide +kernel

/-- The ARM of the same example, and the reads before the frame start. -/
theorem test_arm_shows :
    let s := ((W.enable (W.enable W.mine (pgSWT 0)) 0x10C).setReg 0x10C PAGE_EPOCH 0x41).setSts (pgSWT 0) Swt.S_SWATH_STATE 1
    (W.after (.arm .pcie 0x10C) s).readFor .pcie 0x10C 0x010 = 0x00410004 := by decide +kernel

/-- "03_frame_timeline.md", worked example: a launch with borrow and a tie. -/
theorem test_launch_with_a_tie :
    gridTimeVal ((W.run.setReg (pgSWT 2) Swt.PHASE 64000).launchAt 2 ((1734000120 * SEC + 1200000) * LU) (2000000 * LU + 96 * 5)
      (37 * 64)) = ⟨1734000119, 999200251, 128⟩ := by decide +kernel

/-- "04_composition.md", worked example: rows of the correction record, then MAT of (40,000, 30,000, 20,000, 0). -/
theorem test_correction :
    let rec1 := [0x66, 0x1E, 0xF6, 0, 0, 0, 0, 0, 0xA4, 0, 0x0A, 0x1F, 0x52, 0, 0, 0, 0, 0, 0x48, 0x01, 0x71, 0x1D, 0, 0]
    let s := W.run.setBytes (DRAM_BASE + 32) rec1
    let x := { W.snap with ctrl := 2, corr := DRAM_BASE }
    let r := { W.pix with record := s.correctionOf x 1 0, pixel := 1, vr := [40000, 30000, 20000, 0] ++ List.replicate 60 0 }
    [0, 1, 2].map (fun c => r.matLane (splitWord 0xC000003C00000000) c) = [38899, 30100, 19602] := by decide +kernel

/-- "05_layer_programs.md", worked example: OVER of the logo's texel on the background's. -/
theorem test_over :
    [0, 1, 2].map (fun c => blendLane 1 65535 (fun k => [14264, 27081, 40157, 0].getD k 0) (fun k => [65535, 32896, 0, 32896].getD k 0) c)
      = [40000, 30000, 20000] := by decide +kernel

/-- "09_dmx_rdm.md", worked example: a GET of 26 bytes reserves 7,492,000 ns. -/
theorem test_rdm_reservation :
    ((W.run.setFld (pgDMX 4) Dmx.RDM_CTRL Dmx.KIND 1).setFld (pgDMX 4) Dmx.RDM_CTRL Dmx.REQ_LEN 26).rdmReservation 4 = 7492000 := by decide +kernel

/-- "20_thermal_ageing_calibration.md", worked example: what a window of 100 s gives (counts in 1/8 TCLK cycle). -/
theorem test_calibration :
    let s := W.cal (fun x => { x with run := some ⟨2, 100, 1⟩ }) (W.run.setNat pgCAL Cal.CAL_REF_UNC 1)
    let t := s.windowEnd 2000003600000 1979963964729
    [Cal.XTAL_ERR, Cal.XTAL_UNC, Cal.XT32_ERR, Cal.XT32_UNC].map (t.reg pgCAL) = [0x708, 2, 0x4E20, 0x7D4] := by decide +kernel

/-- "16_interrupts.md", worked example: source 227, priority 6, at target 5. -/
theorem test_claim :
    let s := W.after (.registerWrite .pcie 0x978C 4 0x2006) (W.system 1 (W.enable W.run pgICU))
    let s := (s.setIcuBit (Icu.ENABLE 0) 227 true).icuChange (fun a => a.setIcuBit (Icu.PENDING 0) 227 true)
    let t := W.after (.icuClaim .pcie 5) s
    [s.readFor .pcie 0x9 0x78C, s.readFor .pcie 0x8 0x4AC, t.readFor .pcie 0x8 0x4AC] = [0x42006, 0x80E3, 0x103FF] ∧
      t.out = .read 0xE3 :: s.out ∧ t.icuBit (Icu.IN_SERVICE 0) 227 = true := by decide +kernel

/-- The same example: the completion. -/
theorem test_complete :
    let s := W.after (.registerWrite .pcie 0x978C 4 0x2006) (W.system 1 (W.enable W.run pgICU))
    let s := (s.setIcuBit (Icu.ENABLE 0) 227 true).icuChange (fun a => a.setIcuBit (Icu.PENDING 0) 227 true)
    (W.after (.icuComplete .pcie 5 227) (W.after (.icuClaim .pcie 5) s)).readFor .pcie 0x8 0x4AC = 0x3FF := by decide +kernel

/-- "05_layer_programs.md", worked example: the packing of word 0x0101. -/
theorem test_word_fields :
    let i := splitWord 0x6040003C01000100
    [i.op, i.d, i.a, i.b, i.c, i.lanes, i.f] = [0x18, 1, 0, 0, 0, 0xF, 0x01000100] := by decide +kernel

/-- "16_interrupts.md", worked example: the ENABLE aliases. -/
theorem test_set_alias_sets_only_what_is_written :
    let s := W.run.setReg pgICU (Icu.ENABLE 7) 1
    let t := W.after (.setAliasWrite .pcie 0x8 0x09C 8) s
    (t.reg pgICU (Icu.ENABLE 7), (W.after (.clrAliasWrite .pcie 0x8 0x09C 1 0 [] true) t).reg pgICU (Icu.ENABLE 7)) = (9, 8) := by
  decide +kernel

/-- "08_pixel_ports.md", worked examples: the symbols and times of PX7 and PX20. -/
theorem test_pixel_port_times :
    let s := ((W.run.setReg (pgPXP 7) Pxp.PX_MODE 0x31400).setReg (pgPXP 7) Pxp.SYM_PERIOD 0x225DC0).setReg (pgPXP 7) Pxp.PX_ORDER 0x221
    let s := (s.setReg (pgPXP 7) Pxp.LATCH_NS 100000).setReg (pgPXP 7) Pxp.FRAMING 0
    let s := ((s.setReg (pgPXP 20) Pxp.PX_MODE 0x2601).setReg (pgPXP 20) Pxp.SYM_PERIOD 0x20190).setReg (pgPXP 20) Pxp.PX_ORDER 0x224
    let s := (s.setReg (pgPXP 20) Pxp.LATCH_NS 1000).setReg (pgPXP 20) Pxp.FRAMING 0x1800020
    (s.pxSymbols 7 500, s.pxTime 7 500 / LU, s.pxSymbols 20 4096, s.pxTime 20 4096 / LU) = (12000, 14500000, 196768, 3936360) := by
  decide +kernel

/-- "09_dmx_rdm.md", worked example: a packet of 512 slots, and the LEAD it gives. -/
theorem test_dmx_times :
    let s := (W.enable W.run (pgDMX 4)).setReg (pgDMX 4) Dmx.DMX_MODE 0x61000
    let t := s.setNat (pgDMX 4) Dmx.EMIT_LAT_NS 22760000
    (s.dmxTime 4, t.leadNs 6) = (22760000, 22764000) := by decide +kernel

/-- "03_frame_timeline.md", worked example: the time and UNCERT that eight hours of Heath give. -/
theorem test_time_across_sleep :
    let s := (W.run.setNat pgCAL Cal.XT32_ERR 20000).setNat pgCAL Cal.XT32_UNC 2000
    let r := s.coasted ⟨1734010000 * SEC * NS, 40, 0⟩ 943718400
    (gridTimeVal (unitsOf r.1), r.2) = (⟨1734038799, 424011519, 192⟩, 57599889) := by decide +kernel

/-- "04_composition.md", worked example: efficiency and gain of an integral of 3 × 2^55, and what a flush adds. -/
theorem test_dose_gain :
    let c (k : Nat) : Nat := if k = 56 then 61200 else if k = 57 then 60696 else 0
    (efficiency c (3 * 2 ^ 55), (doseGain c 9830 (3 * 2 ^ 55)).1, (flushChannel c 9830 5 1400000 16666667 true).1) = (60948, 29950, 89009609) := by
  decide +kernel
end

section
/-!
The refutation of O8. Of the blocks whose SET aliases do more than set bits, its clause on SET aliases leaves out ICU and ETH, but
not QUE: a bit set in Q_STATUS raises the page's error interrupt, 308 + 2j (R498).
-/
namespace Sys2Proof.Machine

/-- Where a QUE page's register has bits set beside PAGE_FAULT and PAGE_STATUS, the page's error interrupt occurs (R498). -/
theorem State.setBits_que (s : State) {i : PageInfo} {page off : Nat} {v : Word} (hi : i.block = .que) (hfault : off ≠ PAGE_FAULT)
    (hstatus : off ≠ PAGE_STATUS) (hv : v &&& aliasBits i page off ≠ 0) :
    s.setBits i page off v
      = (s.setReg page off (s.reg page off ||| (v &&& aliasBits i page off))).irq (308 + 2 * i.inst) := by
  simp only [State.setBits, hi, hfault, hstatus, reduceCtorEq, false_and, if_false, true_and, if_pos hv]

/-- An accepted write at a SET alias sets bits of the register in the state in which the write acts. -/
theorem exec_setAliasWrite_of_accepts {s : State} {r : Requester} {page off : Nat} {i : PageInfo} {v : Word} (hoff : off < 0x400)
    (h : s.accepts r page (0x800 + off) = true) (hi : pageInfo page = some i) :
    exec (.setAliasWrite r page off v) s = .next ((s.told r page (0x800 + off) v).setBits i page off v) := by
  have hexec : exec (.setAliasWrite r page off v) s = .next (s.busWrite r page (0x800 + off) v) := rfl
  have hset : ¬ 0xC00 ≤ 0x800 + off := by omega
  rw [hexec, State.busWrite_eq h hi]
  simp [State.regWrite, hset]

/-- The state in which a SET-alias write of OVERRUN of queue 0 of QUE[0] by core 0 acts, right after reset. -/
def overrunTold : State := State.reset.told .cc0 (pgQUE 0) (0x800 + Que.Q_STATUS 0) 0x100

/-- The same with the bit set and nothing else done. -/
def overrunSet : State :=
  overrunTold.setReg (pgQUE 0) (Que.Q_STATUS 0)
    (overrunTold.reg (pgQUE 0) (Que.Q_STATUS 0) ||| (0x100 &&& aliasBits ⟨.que, 0, 0⟩ (pgQUE 0) (Que.Q_STATUS 0)))

/-- The interrupt is seen: PENDING of source 308 reads 0 before it and 1 after it. -/
theorem overrunSet_irq_ne : overrunSet.irq 308 ≠ overrunSet := by
  have hafter : (overrunSet.irq 308).icuBit (Icu.PENDING 0) 308 = true := by decide +kernel
  have hbefore : overrunSet.icuBit (Icu.PENDING 0) 308 = false := by decide +kernel
  intro h
  rw [h, hbefore] at hafter
  exact Bool.false_ne_true hafter

end Sys2Proof.Machine

open Sys2Proof Sys2Proof.Machine

/-- Refutes O8: right after reset, core 0 writes 0x100 to the SET alias of Q_STATUS of queue 0 of QUE[0]. The clause says that
the bit is set and nothing else changes, but interrupt 308 occurs too (R498) and sets its PENDING bit. -/
theorem not_registerWritesAct : ¬ Obligations.RegisterWritesAct := by
  unfold Obligations.RegisterWritesAct
  rintro ⟨-, -, hset, -⟩
  have hoff : Que.Q_STATUS 0 < 0x400 := by decide
  have haccepts : State.reset.accepts .cc0 (pgQUE 0) (0x800 + Que.Q_STATUS 0) = true := by decide +kernel
  have hpage : pageInfo (pgQUE 0) = some ⟨.que, 0, 0⟩ := pageInfo_pgQUE 0
  have hfault : Que.Q_STATUS 0 ≠ PAGE_FAULT := by decide
  have hstatus : Que.Q_STATUS 0 ≠ PAGE_STATUS := by decide
  have hbits : (0x100 : Word) &&& aliasBits ⟨.que, 0, 0⟩ (pgQUE 0) (Que.Q_STATUS 0) ≠ 0 := by decide +kernel
  have hclaimed : exec (.setAliasWrite .cc0 (pgQUE 0) (Que.Q_STATUS 0) 0x100) State.reset = .next overrunSet :=
    (hset State.reset .cc0 _ _ _ 0x100 hoff haccepts hpage hfault).1 hstatus (by decide) (by decide)
  have hactual : exec (.setAliasWrite .cc0 (pgQUE 0) (Que.Q_STATUS 0) 0x100) State.reset = .next (overrunSet.irq 308) := by
    rw [exec_setAliasWrite_of_accepts hoff haccepts hpage, State.setBits_que _ rfl hfault hstatus hbits]
    rfl
  exact overrunSet_irq_ne (Host.Outcome.next.inj (hactual.symm.trans hclaimed))

end

section
/-!
Every step keeps soundness (O5).
-/
set_option Elab.async false
namespace Sys2Proof.Machine

/-- Every state keeps its own queue and the parts of any mask, and its canonical forms where they hold. -/
theorem State.keeps_self (s : State) (m : Nat) (canonical : Bool) (hmem : canonical = true → Tab.wf memDefault s.mem = true)
    (hlive : canonical = true → Tab.wf resetVal s.live = true)
    (hprog : canonical = true → Tab.wf (fun _ => (0 : BitVec 64)) s.prog = true) : s.Keeps ⟨s.pending, s, m, canonical⟩ := by
  constructor <;> first | assumption | intros; rfl

/-- Every state keeps the parts of any mask: by this, what an operation's mask does not name is found unchanged. -/
theorem State.keeps_parts (s : State) (m : Nat) : s.Keeps ⟨s.pending, s, m, false⟩ := s.keeps_self m false nofun nofun nofun

theorem Keep.off_of_and {l : List Instr} {s : State} {m n : Nat} {c : Bool} (h : m &&& n = 0) : Keep.Off ⟨l, s, m, c⟩ n := ⟨h⟩

/-- A step always goes on: with nothing waiting time passes, and every command has a meaning. -/
theorem step_answers (s : State) : ∃ t, step s = .next t := by
  unfold step
  split
  · exact ⟨_, rfl⟩
  · exact exec_answers _ _

end Sys2Proof.Machine

open Sys2Proof Sys2Proof.Machine

/-- Settles O5: what a step keeps (`step_keeps`), read for the mask that fixes no part; the queue loses at most its front. -/
theorem stepKeepsSound : Obligations.StepKeepsSound := by
  intro s h
  obtain ⟨t, ht⟩ := step_answers s
  have hself := s.keeps_self 0 true (fun _ => h.memory) (fun _ => h.registers) (fun _ => h.program)
  have hk := step_keeps hself rfl t ht
  have hqueue : t.queueSound = true := by
    have hall := h.queue
    rw [State.queueSound, List.all_eq_true] at hall ⊢
    rw [hk.queue]
    exact fun c hc => hall c (List.mem_of_mem_tail hc)
  exact ⟨t, ht, ⟨hk.mem rfl, hk.prog rfl, hk.live rfl, hqueue⟩⟩
end

section
/-!
Memory: what a byte reads after a write (R42 to R47), and O52.
-/
set_option Elab.async false
namespace Sys2Proof.Machine

/-! ### Parts that an operation leaves -/

section
variable {l : List Instr} {s t : State} {m : Nat} {c : Bool}

namespace State.Keeps

theorem live_eq (h : State.Keeps ⟨l, s, m, c⟩ t) (hm : m.testBit 1 = true := by decide) : t.live = s.live := h.liveIs hm
theorem mem_eq (h : State.Keeps ⟨l, s, m, c⟩ t) (hm : m.testBit 4 = true := by decide) : t.mem = s.mem := h.memIs hm
theorem prog_eq (h : State.Keeps ⟨l, s, m, c⟩ t) (hm : m.testBit 5 = true := by decide) : t.prog = s.prog := h.progIs hm
theorem dev_eq (h : State.Keeps ⟨l, s, m, c⟩ t) (hm : m.testBit 7 = true := by decide) : t.dev = s.dev := h.devIs hm
theorem out_eq (h : State.Keeps ⟨l, s, m, c⟩ t) (hm : m.testBit 13 = true := by decide) : t.out = s.out := h.outIs hm
theorem progStage_eq (h : State.Keeps ⟨l, s, m, c⟩ t) (hm : m.testBit 17 = true := by decide) :
    t.progStage = s.progStage := h.progStageIs hm
theorem boot_eq (h : State.Keeps ⟨l, s, m, c⟩ t) (hm : m.testBit 34 = true := by decide) : t.boot = s.boot := h.bootIs hm

end State.Keeps
end

/-! ### One byte -/

/-- A byte depends on memory and on the stored image alone. -/
theorem State.byte_congr {s t : State} (hmem : t.mem = s.mem) (hboot : t.boot = s.boot) (a : Nat) : t.byte a = s.byte a := by
  simp only [State.byte, hmem, hboot]

theorem State.bytes_congr {s t : State} (hmem : t.mem = s.mem) (hboot : t.boot = s.boot) (a n : Nat) :
    t.bytes a n = s.bytes a n := by
  induction n generalizing a with
  | zero => rfl
  | succ n ih => simp only [State.bytes, State.byte_congr hmem hboot, ih]

theorem State.byte_setByte_self {s : State} {a : Nat} (b : Byte) (hm : isMemory a = true) (hi : isImage a = false) :
    (s.setByte a b).byte a = b := by
  simp [State.setByte, State.byte, hm, hi]

/-- A write leaves every other byte, and each byte that memory does not take. -/
theorem State.byte_setByte_of {s : State} {a x : Nat} (b : Byte) (h : x ≠ a ∨ isMemory x = false ∨ isImage x = true) :
    (s.setByte a b).byte x = s.byte x := by
  unfold State.setByte
  split
  · next hw =>
    simp only [Bool.and_eq_true, Bool.not_eq_true'] at hw
    have hx : x ≠ a := by
      rintro rfl
      rcases h with h | h | h
      · exact h rfl
      · exact Bool.false_ne_true (h.symm.trans hw.1)
      · exact Bool.false_ne_true (hw.2.symm.trans h)
    simp only [State.byte, Tab.get_set_ne memDefault s.mem b hx]
  · rfl

/-! ### Many bytes -/

theorem State.setByte_live (s : State) (a : Nat) (b : Byte) : (s.setByte a b).live = s.live := by
  unfold State.setByte; split <;> rfl

theorem State.wf_setByte {s : State} (a : Nat) (b : Byte) (h : Memory.wf s.mem = true) : Memory.wf (s.setByte a b).mem = true := by
  unfold State.setByte
  split
  · exact Tab.wf_set memDefault a b h
  · exact h

theorem State.wf_setBytes {s : State} (a : Nat) (l : List Byte) (h : Memory.wf s.mem = true) :
    Memory.wf (s.setBytes a l).mem = true := by
  induction l generalizing s a with
  | nil => exact h
  | cons b t ih => exact ih (a + 1) (State.wf_setByte a b h)

theorem State.setBytes_live (s : State) (a : Nat) (l : List Byte) : (s.setBytes a l).live = s.live := by
  induction l generalizing s a with
  | nil => rfl
  | cons b t ih => rw [State.setBytes, ih, State.setByte_live]

/-- Bytes written leave what lies below or behind them, and what memory does not take. -/
theorem State.byte_setBytes_of {s : State} {a x : Nat} {l : List Byte}
    (h : x < a ∨ a + l.length ≤ x ∨ isMemory x = false ∨ isImage x = true) : (s.setBytes a l).byte x = s.byte x := by
  induction l generalizing s a with
  | nil => rfl
  | cons b t ih =>
    rw [List.length_cons] at h
    have htail : x < a + 1 ∨ a + 1 + t.length ≤ x ∨ isMemory x = false ∨ isImage x = true :=
      h.imp (by omega) (Or.imp_left (by omega))
    have hhead : x ≠ a ∨ isMemory x = false ∨ isImage x = true := by
      rcases h with h | h | h
      · exact .inl (by omega)
      · exact .inl (by omega)
      · exact .inr h
    rw [State.setBytes, ih htail, State.byte_setByte_of b hhead]

/-- Bytes written read back. -/
theorem State.byte_setBytes {s : State} {a i : Nat} {l : List Byte} (hi : i < l.length) (hm : isMemory (a + i) = true)
    (hn : isImage (a + i) = false) : (s.setBytes a l).byte (a + i) = l.getD i 0 := by
  induction l generalizing s a i with
  | nil => simp at hi
  | cons b t ih =>
    rw [State.setBytes]
    cases i with
    | zero =>
      simp only [Nat.add_zero] at hm hn ⊢
      rw [State.byte_setBytes_of (.inl (by omega)), State.byte_setByte_self b hm hn, List.getD_cons_zero]
    | succ i =>
      have hnext : a + (i + 1) = a + 1 + i := by omega
      rw [hnext] at hm hn ⊢
      rw [ih (by simpa using hi) hm hn, List.getD_cons_succ]

theorem State.bytes_setBytes {s : State} {a : Nat} {l : List Byte}
    (h : ∀ i, i < l.length → isMemory (a + i) = true ∧ isImage (a + i) = false) : (s.setBytes a l).bytes a l.length = l := by
  induction l generalizing s a with
  | nil => rfl
  | cons b t ih =>
    obtain ⟨hm, hn⟩ := h 0 (by simp)
    rw [Nat.add_zero] at hm hn
    have htail : ∀ i, i < t.length → isMemory (a + 1 + i) = true ∧ isImage (a + 1 + i) = false := fun i hi => by
      rw [Nat.add_assoc, Nat.add_comm 1 i]
      exact h (i + 1) (by simpa using hi)
    rw [State.setBytes, List.length_cons, State.bytes, State.byte_setBytes_of (.inl (by omega)), State.byte_setByte_self b hm hn,
      ih htail]

/-! ### Zeroing, and writes of the hardware -/

theorem State.byte_zeroBytes (s : State) (a n x : Nat) : (s.zeroBytes a n).byte x
    = if a ≤ x ∧ x < a + n ∧ (isImage x && s.boot.stored) = false then memDefault x else s.byte x := by
  have hkeep : (decide (x < a) || decide (a + n ≤ x)) = true ↔ ¬ (a ≤ x ∧ x < a + n) := by
    simp only [Bool.or_eq_true, decide_eq_true_eq]; omega
  simp only [State.byte, State.zeroBytes, Tab.get_keep, hkeep]
  by_cases hi : (isImage x && s.boot.stored) = true
  · simp only [hi, if_true, reduceCtorEq, and_false, if_false]
  · by_cases hx : a ≤ x ∧ x < a + n
    · simp [hi, hx.1, hx.2]
    · simp only [hi, hx, not_false_eq_true, if_true, ← and_assoc, false_and, if_false]

theorem State.wf_zeroBytes {s : State} (a n : Nat) (h : Memory.wf s.mem = true) : Memory.wf (s.zeroBytes a n).mem = true := by
  exact Tab.wf_keep memDefault (fun k => decide (k < a) || decide (a + n ≤ k)) h

theorem State.hwTell_mem (s : State) (a : Nat) (l : List Byte) : (s.hwTell a l).mem = s.mem :=
  (State.hwTell_keeps (s.keeps_parts 0x10) (Keep.off_of_and (by decide))).mem_eq

end Sys2Proof.Machine

open Sys2Proof Sys2Proof.Machine

/-- Settles O52, from the rules of one byte by induction on the bytes written. -/
theorem memoryReadsBack : Obligations.MemoryReadsBack := by
  refine ⟨fun s a l => ⟨?_, ?_, ?_, ?_, ?_⟩, fun s a n x => ⟨s.byte_zeroBytes a n x, ?_⟩, fun s a l => ⟨?_, ?_⟩⟩
  · exact fun i hi hm hn => State.byte_setBytes hi hm hn
  · exact fun x hx => State.byte_setBytes_of hx
  · exact State.bytes_setBytes
  · exact State.wf_setBytes a l
  · exact fun page off => congrArg (fun t => Tab.get resetVal t (regKey page off)) (s.setBytes_live a l)
  · exact State.wf_zeroBytes a n
  · intro h
    simp only [State.hwBytes, h, if_true]
  · intro h
    simp only [State.hwBytes, h, Bool.false_eq_true, if_false, State.hwTell_mem]
end

section
/-!
The side buses: SPI frames and JTAG (R727 to R730), and O51.
-/
set_option Elab.async false
namespace Sys2Proof.Machine

/-! ### Reads -/

/-- What a read changes is not recorded as output: the caller emits the value. -/
theorem State.readEffect_out (s : State) (q : Requester) (page off : Nat) : (s.readEffect q page off).out = s.out := by
  have herror (j k : Nat) : (s.queueError j k 10).out = s.out :=
    (State.queueError_keeps (s.keeps_parts 0x2000) (Keep.off_of_and (by decide))).out_eq
  have hstep : s.trigStep.out = s.out := by unfold State.trigStep; dsimp only; split <;> rfl
  unfold State.readEffect
  cases pageInfo page with
  | none => rfl
  | some i =>
    dsimp only
    cases i.block with
    | evr =>
      dsimp only
      split
      · exact hstep
      · split <;> rfl
    | que =>
      dsimp only
      split
      · exact herror _ _
      · rfl
    | tln | hth | thm | icu | ntm | red | pmc => dsimp only; split <;> rfl
    | _ => rfl

theorem State.readReg_out (s : State) (q : Requester) (page off : Nat) : (s.readReg q page off).2.out = s.out := by
  unfold State.readReg
  split
  · exact s.readEffect_out q page off
  · rfl

theorem State.busRead_mem (s : State) (q : Requester) (a : Nat) : (s.busRead q a).2.mem = s.mem :=
  (State.busRead_keeps (s.keeps_parts 0x10) (Keep.off_of_and (by decide))).mem_eq

/-- A read as an access, while ACLK runs. -/
theorem exec_spiRead_one {s : State} {a : Nat} (h : s.aclkRuns = true) :
    exec (.spiRead a 1) s = .next ((s.counted.busRead .spi a).2.emit (.read (s.counted.busRead .spi a).1)) := by
  have hexec : exec (.spiRead a 1) s = .next (s.busReadOut .spi a) := rfl
  rw [hexec, State.busReadOut, State.access_eq h]

/-- A read within 64 MiB is that of an address within reach. -/
theorem State.busRead_of_lt {s : State} {a : Nat} (h : a < 0x4000000) : s.busRead .spi a
    = if isMemory a then (BitVec.ofNat 32 (leVal (s.bytes a 4)), s)
      else if isMapped a then s.readReg .spi (a / 0x1000) (a % 0x1000) else (0, s.unmapped) := by
  have hnot : ¬ 0x4000000 ≤ a := by omega
  simp [State.busRead, hnot]

theorem State.unmapped_out (s : State) : s.unmapped.out = s.out :=
  (State.fault_keeps (s.keeps_parts 0x2000) (Keep.off_of_and (by decide))).out_eq

/-- UNMAPPED reads as set once it has been raised: the interrupt behind it leaves the page of SYS. -/
theorem State.unmapped_flag (s : State) : s.unmapped.flag pgSYS PAGE_FAULT F_UNMAPPED = true := by
  have hset : (s.setFlag pgSYS PAGE_FAULT F_UNMAPPED true).flag pgSYS PAGE_FAULT F_UNMAPPED = true := by
    simp [State.flag, State.setFlag, bit_setBit, F_UNMAPPED]
  have hfault : s.unmapped = (s.setFlag pgSYS PAGE_FAULT F_UNMAPPED true).irq 2 := by
    simp [State.unmapped, State.fault, State.faultHere, faultIrq, State.faultMuted, F_UNMAPPED]
  rw [hfault, State.flag, (State.irq_same _ 2).reg (by decide)]
  exact hset

/-! ### Frames of several words -/

/-- The count of groups left does not matter once it covers the bytes. -/
theorem State.spiWrites_count {s : State} {a n m : Nat} {l : List Byte} (hn : l.length ≤ n) (hm : l.length ≤ m) :
    s.spiWrites a n l = s.spiWrites a m l := by
  induction n generalizing s a m l with
  | zero =>
    have hl : l.length < 4 := by omega
    cases m <;> simp [State.spiWrites, hl]
  | succ n ih =>
    cases m with
    | zero =>
      have hl : l.length < 4 := by omega
      simp [State.spiWrites, hl]
    | succ m =>
      by_cases hl : l.length < 4
      · simp [State.spiWrites, hl]
      · simp only [State.spiWrites, hl, if_false]
        exact ih (by simp; omega) (by simp; omega)

theorem State.spiWrites_short {s : State} {a : Nat} {l : List Byte} (h : l.length < 4) : s.spiWrites a l.length l = s := by
  rw [State.spiWrites_count (le_refl _) (m := l.length + 1) (by omega), State.spiWrites, if_pos h]

/-- The first word of a frame is the big-endian value of its first four bytes. -/
theorem beAt_append {d : List Byte} (h : d.length = 4) (e : List Byte) : beAt (d ++ e) 0 4 = beAt d 0 4 := by
  simp [beAt, slice, ← h]

theorem State.spiWrites_group {s : State} {a : Nat} {d : List Byte} (h : d.length = 4) (e : List Byte) :
    s.spiWrites a (d ++ e).length (d ++ e)
      = (s.busWriteAt .spi s.tln.now a 4 (BitVec.ofNat 64 (beAt d 0 4))).spiWrites (a + 4) e.length e := by
  have hlen : (d ++ e).length = (e.length + 3) + 1 := by simp [h]; omega
  have hdrop : (d ++ e).drop 4 = e := by rw [← h, List.drop_left]
  rw [hlen, State.spiWrites, if_neg (by omega), beAt_append h, hdrop]
  exact State.spiWrites_count (by omega) (le_refl _)

theorem exec_spiWrite_four {s : State} {a : Nat} {d : List Byte} (h : d.length = 4) :
    exec (.spiWrite a d) s = .next (s.busWriteAt .spi s.tln.now a 4 (BitVec.ofNat 64 (beAt d 0 4))) := by
  have hgroup := State.spiWrites_group (s := s) (a := a) h []
  rw [List.append_nil] at hgroup
  exact congrArg Host.Outcome.next hgroup

/-- Boundary scan holds the pins under EXTEST, CLAMP and HIGHZ, and in TEST alone. -/
theorem State.jtagHoldsPins_eq (s : State) :
    s.jtagHoldsPins = (s.sysState == 2 && (s.jtag == .extest || s.jtag == .clamp || s.jtag == .highz)) := by
  unfold State.jtagHoldsPins State.jtagActs
  by_cases h : s.sysState = 2 <;> cases s.jtag <;> simp [h]

end Sys2Proof.Machine

open Sys2Proof Sys2Proof.Machine

/-- Settles O51. -/
theorem sideBusesAct : Obligations.SideBusesAct := by
  refine ⟨fun s a d e => ⟨fun hd => exec_spiWrite_four hd, ?_, ?_, ?_, ?_⟩, fun s a n => ⟨rfl, ?_⟩, fun s a hclk ha => ?_,
    fun s a hclk ha => ?_, fun s => ⟨rfl, rfl, rfl, rfl, rfl, rfl, s.jtagHoldsPins_eq⟩⟩
  · intro hd ha _ hclk
    have hreach : ¬ (isHost .spi && decide (0x4000000 ≤ a)) = true := by simp; omega
    have hpage : ¬ 0x400000 ≤ a := by omega
    rw [exec_spiWrite_four hd]
    simp [State.busWriteAt, hreach, hpage, State.access_eq hclk]
  · intro _ _
    exact ⟨_, rfl, (State.spiWrites_keeps (s.keeps_parts 0) (Keep.off_of_and (by decide))).queue⟩
  · intro hd t ht
    rw [exec_spiWrite_four hd] at ht
    cases ht
    exact congrArg Host.Outcome.next (State.spiWrites_group hd e)
  · exact fun hd => congrArg Host.Outcome.next (State.spiWrites_short hd)
  · rintro t ⟨⟩
    rfl
  · have hread := State.busRead_of_lt (s := s.counted) ha
    have hkept : (s.counted.busRead .spi a).2.mem = s.mem := (s.counted.busRead_mem _ _).trans s.counted_same.mem
    have hout := s.counted_same.out
    refine ⟨fun hm => ⟨_, exec_spiRead_one hclk, ?_, hkept⟩, fun hm hp => ⟨_, exec_spiRead_one hclk, ?_, hkept⟩,
      fun hp => ⟨_, exec_spiRead_one hclk, ?_, hkept, ?_⟩⟩
    · rw [hread, if_pos hm, State.emit_out, hout, State.bytes_congr s.counted_same.mem s.counted_same.boot]
    · rw [hread, if_neg (by simp [hm]), if_pos hp, State.emit_out, State.readReg_out, hout, State.readReg]
    all_goals
      have hm : isMemory a = false := by simp_all [isMapped]
      rw [hread, if_neg (by simp [hm]), if_neg (by simp [hp])]
    · rw [State.emit_out, State.unmapped_out, hout]
    · exact s.counted.unmapped_flag
  · have hhost : (isHost .spi && decide (0x4000000 ≤ a)) = true := by simp [ha, isHost]
    rw [exec_spiRead_one hclk, State.busRead, if_pos hhost, State.emit, s.counted_same.out]
end

section
/-!
Bit ranges of a word (R8): what a range reads after it, or another one, was set.
-/
set_option Elab.async false
namespace Sys2Proof.Machine

/-- A bit range of a word. -/
abbrev Field.fits (f : Field) : Prop := f.2 ≤ f.1 ∧ f.1 < 32

/-- The word apart from a bit range: what lies below it, and what lies above it. -/
theorem bits_split (w : Word) {f : Field} (h : Field.fits f) : w.toNat
    = w.toNat % 2 ^ f.2 + 2 ^ f.2 * (bits w f + 2 ^ (f.1 + 1 - f.2) * (w.toNat / 2 ^ (f.1 + 1))) := by
  have hpow : 2 ^ (f.1 + 1) = 2 ^ f.2 * 2 ^ (f.1 + 1 - f.2) := by rw [← pow_add]; congr 1; have := h.1; omega
  rw [bits, hpow, ← Nat.div_div_eq_div_mul, Nat.mod_add_div, Nat.mod_add_div]

/-- Setting a bit range leaves what lies below it and above it. -/
theorem putBits_toNat (w : Word) {f : Field} (h : Field.fits f) (v : Nat) : (putBits w f v).toNat
    = w.toNat % 2 ^ f.2 + 2 ^ f.2 * (v % 2 ^ (f.1 + 1 - f.2) + 2 ^ (f.1 + 1 - f.2) * (w.toNat / 2 ^ (f.1 + 1))) := by
  have hsplit := bits_split w h
  have hpow : 2 ^ (f.1 + 1) = 2 ^ f.2 * 2 ^ (f.1 + 1 - f.2) := by rw [← pow_add]; congr 1; have := h.1; omega
  have hword : 2 ^ 32 = 2 ^ (f.1 + 1) * 2 ^ (31 - f.1) := by rw [← pow_add]; congr 1; have := h.2; omega
  have hlow : w.toNat % 2 ^ f.2 < 2 ^ f.2 := Nat.mod_lt _ (by positivity)
  have hmid : v % 2 ^ (f.1 + 1 - f.2) < 2 ^ (f.1 + 1 - f.2) := Nat.mod_lt _ (by positivity)
  have hhigh : w.toNat / 2 ^ (f.1 + 1) < 2 ^ (31 - f.1) := Nat.div_lt_of_lt_mul (hword ▸ w.isLt)
  simp only [putBits, BitVec.toNat_ofNat]
  generalize w.toNat % 2 ^ f.2 = r at *
  generalize w.toNat / 2 ^ (f.1 + 1) = q at *
  generalize v % 2 ^ (f.1 + 1 - f.2) = c at *
  generalize bits w f = b at *
  generalize 2 ^ f.2 = k at *
  generalize 2 ^ (f.1 + 1 - f.2) = S at *
  have hval : w.toNat - b * k + c * k = r + k * (c + S * q) := by
    rw [hsplit]
    have : r + k * (b + S * q) - b * k = r + k * (S * q) := by
      rw [Nat.mul_add, Nat.mul_comm b k]; omega
    rw [this]; ring
  rw [hval]
  refine Nat.mod_eq_of_lt ?_
  rw [hword, hpow]
  calc r + k * (c + S * q)
      < k * (c + S * q + 1) := by rw [Nat.mul_add k _ 1]; omega
    _ ≤ k * (S * (q + 1)) := Nat.mul_le_mul_left k (by rw [Nat.mul_add S q 1]; omega)
    _ ≤ k * (S * 2 ^ (31 - f.1)) := Nat.mul_le_mul_left k (Nat.mul_le_mul_left S hhigh)
    _ = k * S * 2 ^ (31 - f.1) := (Nat.mul_assoc _ _ _).symm

theorem bits_putBits_same (w : Word) {f : Field} (h : Field.fits f) (v : Nat) : bits (putBits w f v) f = v % 2 ^ (f.1 + 1 - f.2) := by
  rw [bits, putBits_toNat w h v, Nat.add_mul_div_left _ _ (by positivity), Nat.div_eq_of_lt (Nat.mod_lt _ (by positivity)),
    Nat.zero_add, Nat.add_mul_mod_self_left, Nat.mod_mod]

/-- A bit range reads as before when another one that lies apart from it is set. -/
theorem bits_putBits_of_apart (w : Word) {f g : Field} (hf : Field.fits f) (v : Nat) (h : f.1 < g.2 ∨ (g.1 < f.2 ∧ g.2 ≤ g.1)) :
    bits (putBits w f v) g = bits w g := by
  have hput := putBits_toNat w hf v
  have hsplit := bits_split w hf
  have hpow : 2 ^ (f.1 + 1) = 2 ^ f.2 * 2 ^ (f.1 + 1 - f.2) := by rw [← pow_add]; congr 1; have := hf.1; omega
  simp only [bits]
  rcases h with h | ⟨h, hg⟩
  · have hdiv : (putBits w f v).toNat / 2 ^ (f.1 + 1) = w.toNat / 2 ^ (f.1 + 1) := by
      rw [hput, hpow, ← Nat.div_div_eq_div_mul, Nat.add_mul_div_left _ _ (by positivity),
        Nat.div_eq_of_lt (Nat.mod_lt _ (by positivity)), Nat.zero_add, Nat.add_mul_div_left _ _ (by positivity),
        Nat.div_eq_of_lt (Nat.mod_lt _ (by positivity)), Nat.zero_add]
    have habove : 2 ^ g.2 = 2 ^ (f.1 + 1) * 2 ^ (g.2 - (f.1 + 1)) := by rw [← pow_add]; congr 1; omega
    rw [habove, ← Nat.div_div_eq_div_mul, hdiv, Nat.div_div_eq_div_mul]
  · have hmod : (putBits w f v).toNat % 2 ^ f.2 = w.toNat % 2 ^ f.2 := by
      rw [hput, Nat.add_mul_mod_self_left, Nat.mod_mod]
    have hbelow : 2 ^ f.2 = 2 ^ (g.1 + 1) * 2 ^ (f.2 - (g.1 + 1)) := by rw [← pow_add]; congr 1; omega
    have hwidth : 2 ^ (g.1 + 1) = 2 ^ g.2 * 2 ^ (g.1 + 1 - g.2) := by rw [← pow_add]; congr 1; omega
    have hlow : (putBits w f v).toNat % 2 ^ (g.1 + 1) = w.toNat % 2 ^ (g.1 + 1) := by
      rw [← Nat.mod_mul_right_mod _ _ (2 ^ (f.2 - (g.1 + 1))), ← hbelow, hmod, hbelow, Nat.mod_mul_right_mod]
    rw [← Nat.mod_mul_right_div_self, ← hwidth, hlow, hwidth, Nat.mod_mul_right_div_self]

end Sys2Proof.Machine
end

section
/-!
Writes of program memory and of the Memory window (R162 to R164, R47, R128), and O23.
-/
set_option Elab.async false
namespace Sys2Proof.Machine

/-! ### What telling the partner leaves -/

theorem State.told_prog (s : State) (r : Requester) (page off : Nat) (v : Word) : (s.told r page off v).prog = s.prog :=
  (State.mirrorWrite_keeps (State.count_keeps (s.keeps_parts 0x20) (Keep.off_of_and (by decide)))
    (Keep.off_of_and (by decide))).prog_eq

theorem State.told_progStage (s : State) (r : Requester) (page off : Nat) (v : Word) :
    (s.told r page off v).progStage = s.progStage :=
  (State.mirrorWrite_keeps (State.count_keeps (s.keeps_parts 0x20000) (Keep.off_of_and (by decide)))
    (Keep.off_of_and (by decide))).progStage_eq

/-! ### Program memory -/

theorem State.regWrite_progLo (s : State) (r : Requester) (since : Nat) (n : Fin 4) (v : Word) :
    s.regWrite r since ⟨.cmp, n, 1⟩ (pgCMP n + 1) (Cmp.PROG_DATA_LO - 0x1000) v = s.progLo n v := by
  simp [State.regWrite, State.ownWrite, Cmp.PROG_DATA_LO, PAGE_CTRL, PAGE_COMMIT]

theorem State.regWrite_progHi (s : State) (r : Requester) (since : Nat) (n : Fin 4) (v : Word) :
    s.regWrite r since ⟨.cmp, n, 1⟩ (pgCMP n + 1) (Cmp.PROG_DATA_HI - 0x1000) v = s.progHi n v := by
  simp [State.regWrite, State.ownWrite, Cmp.PROG_DATA_LO, Cmp.PROG_DATA_HI, PAGE_CTRL, PAGE_COMMIT]

/-- The word of a region reads what was written to it; every other one is as before. -/
theorem State.prog_setProg (s : State) {m n w a : Nat} (hw : w < 8192) (ha : a < 8192) (v : BitVec 64) :
    Tab.get (fun _ => 0) (s.setProg n a v).prog (8192 * m + w)
      = if m = n ∧ w = a then v else Tab.get (fun _ => 0) s.prog (8192 * m + w) := by
  have hkey : 8192 * m + w = 8192 * n + a ↔ m = n ∧ w = a := by omega
  simp only [State.setProg, Tab.get_set, hkey]

@[simp] theorem State.progStage_setProg (s : State) (n a : Nat) (v : BitVec 64) : (s.setProg n a v).progStage = s.progStage := by
  simp only [State.setProg]

@[simp] theorem State.reg_setProg (s : State) (n a : Nat) (v : BitVec 64) (page off : Nat) :
    (s.setProg n a v).reg page off = s.reg page off := by
  simp only [State.setProg, State.reg]

/-- PROG_ADDR, as far as it says where a word goes. -/
theorem State.progAddr_lt (s : State) (n : Nat) : s.fld (pgCMP n) Cmp.PROG_ADDR Cmp.ADDR < 8192 := by
  simp only [State.fld, bits, Cmp.ADDR]; omega

/-- The word that a PROG_DATA_HI write stores, in one region or in all four. -/
def State.storeProg (s : State) (n a : Nat) (all : Prop) [Decidable all] (w : BitVec 64) : State :=
  if all then (((s.setProg 0 a w).setProg 1 a w).setProg 2 a w).setProg 3 a w else s.setProg n a w

section
variable (s : State) {n m a w : Nat} (all : Prop) [Decidable all] (v : BitVec 64)

theorem State.progStage_storeProg : (s.storeProg n a all v).progStage = s.progStage := by
  unfold State.storeProg; split <;> simp

theorem State.reg_storeProg (page off : Nat) : (s.storeProg n a all v).reg page off = s.reg page off := by
  unfold State.storeProg; split <;> simp

theorem State.prog_storeProg (hm : m < 4) (hw : w < 8192) (ha : a < 8192) :
    Tab.get (fun _ => 0) (s.storeProg n a all v).prog (8192 * m + w)
      = if w = a ∧ (m = n ∨ all) then v else Tab.get (fun _ => 0) s.prog (8192 * m + w) := by
  unfold State.storeProg
  split
  · next hall =>
    have hone : m = 0 ∨ m = 1 ∨ m = 2 ∨ m = 3 := by omega
    simp only [State.prog_setProg _ hw ha, hall, or_true, and_true]
    rcases hone with rfl | rfl | rfl | rfl <;> simp
  · next hall => simp only [State.prog_setProg _ hw ha, hall, or_false, and_comm]

end

theorem State.progHi_eq (s : State) (n : Nat) (v : Word) : s.progHi n v
    = (let a := s.fld (pgCMP n) Cmp.PROG_ADDR Cmp.ADDR
       let t := s.storeProg n a (s.fld (pgCMP n) Cmp.PROG_ADDR Cmp.BCAST = 1) (v ++ Tab.get (fun _ => 0) s.progStage n)
       if s.fld (pgCMP n) Cmp.PROG_ADDR Cmp.INC = 1 then
         t.setReg (pgCMP n) Cmp.PROG_ADDR (putBits (t.reg (pgCMP n) Cmp.PROG_ADDR) Cmp.ADDR (a + 1))
       else t) := by
  simp only [State.progHi, State.setFld_eq, State.storeProg]

theorem State.prog_progHi (s : State) {n m w : Nat} (hm : m < 4) (hw : w < 8192) (v : Word) :
    Tab.get (fun _ => 0) (s.progHi n v).prog (8192 * m + w)
      = if w = s.fld (pgCMP n) Cmp.PROG_ADDR Cmp.ADDR ∧ (m = n ∨ s.fld (pgCMP n) Cmp.PROG_ADDR Cmp.BCAST = 1)
        then v ++ Tab.get (fun _ => 0) s.progStage n else Tab.get (fun _ => 0) s.prog (8192 * m + w) := by
  rw [← State.prog_storeProg s _ _ hm hw (s.progAddr_lt n), State.progHi_eq]
  dsimp only
  split
  · rw [State.setReg_prog]
  · rfl

theorem State.progStage_progHi (s : State) (n : Nat) (v : Word) : (s.progHi n v).progStage = s.progStage := by
  rw [State.progHi_eq]
  dsimp only
  split
  · rw [State.setReg_progStage, State.progStage_storeProg]
  · rw [State.progStage_storeProg]

/-- INC moves PROG_ADDR on by one word. -/
theorem State.progAddr_progHi (s : State) (n : Nat) (v : Word) : (s.progHi n v).fld (pgCMP n) Cmp.PROG_ADDR Cmp.ADDR
    = if s.fld (pgCMP n) Cmp.PROG_ADDR Cmp.INC = 1 then (s.fld (pgCMP n) Cmp.PROG_ADDR Cmp.ADDR + 1) % 8192
      else s.fld (pgCMP n) Cmp.PROG_ADDR Cmp.ADDR := by
  have hfits : Field.fits Cmp.ADDR := by decide
  rw [State.progHi_eq]
  dsimp only
  split
  · rw [State.fld, State.reg_setReg_self, bits_putBits_same _ hfits]
    rfl
  · rw [State.fld, State.reg_storeProg, State.fld]

theorem exec_progDataLoWrite {s : State} {r : Requester} {n : Fin 4} (v : Word)
    (h : s.accepts r (pgCMP n + 1) (Cmp.PROG_DATA_LO - 0x1000) = true) : exec (.progDataLoWrite r n v) s
      = .next ((s.told r (pgCMP n + 1) (Cmp.PROG_DATA_LO - 0x1000) v).progLo n v) := by
  have hexec : exec (.progDataLoWrite r n v) s = .next (s.busWrite r (pgCMP n + 1) (Cmp.PROG_DATA_LO - 0x1000) v) := rfl
  rw [hexec, State.busWrite_eq h (pageInfo_pgCMP_1 n) v, State.regWrite_progLo]

theorem exec_progDataHiWrite {s : State} {r : Requester} {n : Fin 4} (v : Word)
    (h : s.accepts r (pgCMP n + 1) (Cmp.PROG_DATA_HI - 0x1000) = true) : exec (.progDataHiWrite r n v) s
      = .next ((s.told r (pgCMP n + 1) (Cmp.PROG_DATA_HI - 0x1000) v).progHi n v) := by
  have hexec : exec (.progDataHiWrite r n v) s = .next (s.busWrite r (pgCMP n + 1) (Cmp.PROG_DATA_HI - 0x1000) v) := rfl
  rw [hexec, State.busWrite_eq h (pageInfo_pgCMP_1 n) v, State.regWrite_progHi]

/-! ### The Memory window -/

theorem isMemory_of_dram {a : Nat} (hl : DRAM_BASE ≤ a) (hh : a < DRAM_END) : isMemory a = true := by
  unfold isMemory
  rw [decide_eq_true hl, decide_eq_true hh]
  simp

theorem isImage_of_dram {a : Nat} (hl : DRAM_BASE ≤ a) : isImage a = false := by
  have hnot : ¬ a < FERAM_BASE + 0x0FC0000 := by unfold DRAM_BASE at hl; unfold FERAM_BASE; omega
  unfold isImage
  rw [decide_eq_false hnot, Bool.and_false]

/-- Bytes stored in DRAM read back, and every other byte is as before. -/
theorem State.byte_setBytes_dram (s : State) {x : Nat} {l : List Byte} (h : x + l.length ≤ 0x200000000) (a : Nat) :
    (s.setBytes (DRAM_BASE + x) l).byte a
      = if DRAM_BASE + x ≤ a ∧ a < DRAM_BASE + x + l.length then l.getD (a - (DRAM_BASE + x)) 0 else s.byte a := by
  split
  · next hin =>
    have ha : a = DRAM_BASE + x + (a - (DRAM_BASE + x)) := by omega
    have hend : a < DRAM_END := by simp only [DRAM_BASE, DRAM_END] at *; omega
    have hbase : DRAM_BASE ≤ a := Nat.le_trans (Nat.le_add_right _ _) hin.1
    have hm := isMemory_of_dram hbase hend
    have hi := isImage_of_dram hbase
    rw [ha] at hm hi
    rw [ha, State.byte_setBytes (by omega) hm hi, ← ha]
  · exact State.byte_setBytes_of (by omega)

/-- What a window write does besides storing its bytes leaves memory and the stored image. -/
theorem State.byte_windowWrite (s : State) {x : Nat} {l : List Byte} (h : x + l.length ≤ 0x200000000) (a : Nat) :
    (s.windowWrite x l).byte a
      = if DRAM_BASE + x ≤ a ∧ a < DRAM_BASE + x + l.length then l.getD (a - (DRAM_BASE + x)) 0 else s.byte a := by
  have hset : ((s.reuseCheck (DRAM_BASE + x) l.length).setBytes (DRAM_BASE + x) l).byte a
      = if DRAM_BASE + x ≤ a ∧ a < DRAM_BASE + x + l.length then l.getD (a - (DRAM_BASE + x)) 0 else s.byte a := by
    have hreuse := State.reuseCheck_keeps (addr := DRAM_BASE + x) (n := l.length) (s.keeps_parts 0x400000010)
      (Keep.off_of_and (by decide))
    rw [State.byte_setBytes_dram _ h, State.byte_congr hreuse.mem_eq hreuse.boot_eq]
  simp only [State.windowWrite]
  generalize (s.reuseCheck (DRAM_BASE + x) l.length).setBytes (DRAM_BASE + x) l = t at hset ⊢
  split
  · split
    · have htell := State.tellMem_keeps (a := DRAM_BASE + x) (a2 := l) (a3 := l.length + 1) (t.keeps_parts 0x400000010)
        (Keep.off_of_and (by decide))
      rw [State.byte_congr htell.mem_eq htell.boot_eq, hset]
    · have htell := State.hwTell_keeps (a := DRAM_BASE + x) (l := l) (t.keeps_parts 0x400000010) (Keep.off_of_and (by decide))
      rw [State.byte_congr htell.mem_eq htell.boot_eq, hset]
  · split
    · have hnote := State.noteRanges_keeps (a := DRAM_BASE + x) (n := l.length) (t.keeps_parts 0x400000010)
        (Keep.off_of_and (by decide))
      rw [State.byte_congr hnote.mem_eq hnote.boot_eq, hset]
    · exact hset

theorem exec_memoryWindowWrite {s : State} (h : s.aclkRuns = true) (x : Nat) (l : List Byte) :
    exec (.memoryWindowWrite x l) s = .next (s.windowWrite x l) := by
  have hexec : exec (.memoryWindowWrite x l) s = .next (if s.aclkRuns then s.windowWrite x l else s) := rfl
  rw [hexec, if_pos h]

/-! ### The ingest queue -/

/-- What the head of MAC `m`'s ingest queue waits for. -/
theorem State.ingDrain_wait {s : State} {m n b : Nat} {f : List Byte} (hf : s.headPacket 2 m = some f)
    (hb : (s.ingStream m f).bind (fun i => (parseUdp f).bind (fun u => s.ingStalls i (udpPayload f u))) = some b)
    (hs : (s.macOf m).stall = some b) : s.ingDrain m n = s := by
  cases n with
  | zero => rfl
  | succ n => simp only [State.ingDrain, hf, hb, hs, if_true]

/-- The head of MAC `m`'s ingest queue is written when it waits for nothing. -/
theorem State.ingDrain_write {s : State} {m n : Nat} {f : List Byte} (hf : s.headPacket 2 m = some f)
    (hb : (s.ingStream m f).bind (fun i => (parseUdp f).bind (fun u => s.ingStalls i (udpPayload f u))) = none) :
    s.ingDrain m (n + 1)
      = State.ingDrain (((s.modMac m (fun x => { x with stall := none })).popPacket 2 m).ingPacket m f) m n := by
  simp only [State.ingDrain, hf, hb]

end Sys2Proof.Machine

open Sys2Proof Sys2Proof.Machine

/-- Settles O23: the two halves of a program word by the rules of program memory, a window write byte by byte, and the ingest
queue by the case of its head. -/
theorem programsAndStoresTakeWrites : Obligations.ProgramsAndStoresTakeWrites := by
  refine ⟨fun s r n v h => ⟨_, exec_progDataLoWrite v h, s.told_prog _ _ _ _, fun m => ?_⟩, ?_,
    fun s x l hclk hx => ⟨_, exec_memoryWindowWrite hclk x l, s.byte_windowWrite hx⟩,
    fun s m f i u hf hi hu => ⟨fun n hn hq => ?_, fun b hb hs => ?_⟩⟩
  · rw [State.progLo, Tab.get_set, s.told_progStage]
  · intro s r n v u a h
    refine ⟨_, exec_progDataHiWrite v h, ?_, fun m w hm hw => ?_, u.progAddr_progHi n v⟩
    · rw [State.progStage_progHi, s.told_progStage]
    · rw [State.prog_progHi _ hm hw, s.told_progStage, s.told_prog]
  · have hexec : exec (.ingestWriteResume m) s = .next (s.ingDrain m (s.queue 2 m).committed) := rfl
    rw [hexec, hq, State.ingDrain_write hf]
    simpa [hi, hu] using hn
  · have hexec : exec (.ingestWriteResume m) s = .next (s.ingDrain m (s.queue 2 m).committed) := rfl
    rw [hexec, State.ingDrain_wait hf _ hs]
    simpa [hi, hu] using hb

end

section
/-!
Resets of the package and of the die (R18, R68, R524, R697), and O11.
-/
set_option Elab.async false
namespace Sys2Proof.Machine

/-! ### Fields of PAGE_STATUS -/

theorem State.sts_setSts_self (s : State) (page : Nat) {f : Field} (h : Field.fits f) (n : Nat) :
    (s.setSts page f n).sts page f = n % 2 ^ (f.1 + 1 - f.2) := by
  rw [State.setSts_eq, State.sts, State.fld, State.reg_setReg_self, bits_putBits_same _ h]

theorem State.reg_setSts_ne (s : State) {page p o : Nat} (f : Field) (n : Nat) (h : regKey p o ≠ regKey page PAGE_STATUS) :
    (s.setSts page f n).reg p o = s.reg p o := by
  rw [State.setSts_eq, State.reg_setReg_ne _ _ h]

theorem State.reg_setFld_ne (s : State) {page off p o : Nat} (f : Field) (n : Nat) (h : regKey p o ≠ regKey page off) :
    (s.setFld page off f n).reg p o = s.reg p o := by
  rw [State.setFld_eq, State.reg_setReg_ne _ _ h]

/-! ### What every reset leaves -/

/-- The registers that a package or die reset does not return to their reset value, apart from the page of HTH. -/
def resetSets (key : Nat) : Bool :=
  key == regKey pgRED Red.PAIR_STATE || key == regKey pgCLK Clk.CLK_STATUS || key == regKey pgTLN PAGE_STATUS

/-- The bytes that a reset leaves: FeRAM, and DRAM unless it is one of the package. -/
def resetKeeps (package : Bool) (a : Nat) : Bool := isFeram a || (isDram a && !package)

theorem State.reg_railBits (s : State) {page off : Nat} (h : regKey page off ≠ regKey pgRED Red.PAIR_STATE) :
    s.railBits.reg page off = s.reg page off := by
  rw [State.railBits, State.reg_setFld_ne _ _ _ h, State.reg_setFld_ne _ _ _ h, State.reg_setFld_ne _ _ _ h]

theorem State.railBits_boot (s : State) : s.railBits.boot = s.boot := rfl
theorem State.railBits_mem (s : State) : s.railBits.mem = s.mem := rfl
theorem State.railBits_dev (s : State) : s.railBits.dev = s.dev := rfl

/-- A reset sets three registers on a state in which every other one but those of HTH has its reset value. -/
theorem State.hardReset_eq (s : State) (package : Bool) (cause : Nat) : ∃ b : State,
    s.hardReset package cause = (b.railBits.setFld pgCLK Clk.CLK_STATUS (3, 3) (s.fld pgSYS Sys.SYS_CFG (0, 0))).setSts pgTLN
      Tln.S_TL_STATE (if s.timeKept.isSome then 4 else 0) ∧
    b.live = Tab.keep isHthKey s.live ∧ b.mem = Tab.keep (resetKeeps package) s.mem ∧ b.dev.roleB = s.dev.roleB ∧
    b.boot.cause = cause ∧ b.boot.image = s.boot.image ∧ b.boot.stored = s.boot.stored ∧
    b.boot.trained = (s.boot.trained && !package) :=
  ⟨_, rfl, rfl, rfl, rfl, rfl, rfl, rfl, rfl⟩

theorem State.reg_hardReset (s : State) (package : Bool) (cause : Nat) {page off : Nat} (h : resetSets (regKey page off) = false) :
    (s.hardReset package cause).reg page off = if isHthKey (regKey page off) then s.reg page off else resetVal (regKey page off) := by
  simp only [resetSets, Bool.or_eq_false_iff, beq_eq_false_iff_ne, ne_eq] at h
  obtain ⟨⟨hred, hclk⟩, htln⟩ := h
  obtain ⟨b, heq, hlive, -⟩ := s.hardReset_eq package cause
  rw [heq, State.reg_setSts_ne _ _ _ htln, State.reg_setFld_ne _ _ _ hclk, State.reg_railBits _ hred, State.reg, hlive, Tab.get_keep]
  rfl

theorem State.tlState_hardReset (s : State) (package : Bool) (cause : Nat) :
    (s.hardReset package cause).sts pgTLN Tln.S_TL_STATE = if s.timeKept.isSome then 4 else 0 := by
  obtain ⟨b, heq, -⟩ := s.hardReset_eq package cause
  rw [heq, State.sts_setSts_self _ _ (by decide)]
  cases s.timeKept.isSome <;> rfl

theorem isFeram_of_isImage {a : Nat} (h : isImage a = true) : isFeram a = true := by
  unfold isImage at h
  rw [Bool.and_eq_true, decide_eq_true_iff, decide_eq_true_iff] at h
  obtain ⟨hlow, hhigh⟩ := h
  have hend : FERAM_BASE + 0x0FC0000 ≤ SRAM_BASE := by decide
  have hfrom : FERAM_BASE ≤ a := Nat.le_trans (Nat.le_add_right _ _) hlow
  unfold isFeram
  rw [decide_eq_true hfrom, decide_eq_true (Nat.lt_of_lt_of_le hhigh hend), Bool.and_self]

theorem State.hardReset_boot (s : State) (package : Bool) (cause : Nat) : (s.hardReset package cause).boot.cause = cause ∧
    (s.hardReset package cause).boot.image = s.boot.image ∧ (s.hardReset package cause).boot.stored = s.boot.stored ∧
    (s.hardReset package cause).boot.trained = (s.boot.trained && !package) := by
  obtain ⟨b, heq, -, -, -, hcause, himage, hstored, htrained⟩ := s.hardReset_eq package cause
  rw [heq, State.setSts_eq, State.setFld_eq, State.setReg_boot, State.setReg_boot, State.railBits_boot]
  exact ⟨hcause, himage, hstored, htrained⟩

theorem State.hardReset_mem (s : State) (package : Bool) (cause : Nat) :
    (s.hardReset package cause).mem = Tab.keep (resetKeeps package) s.mem := by
  obtain ⟨b, heq, -, hmem, -⟩ := s.hardReset_eq package cause
  rw [heq, State.setSts_eq, State.setFld_eq, State.setReg_mem, State.setReg_mem, State.railBits_mem, hmem]

theorem State.hardReset_roleB (s : State) (package : Bool) (cause : Nat) :
    (s.hardReset package cause).dev.roleB = s.dev.roleB := by
  obtain ⟨b, heq, -, -, hrole, -⟩ := s.hardReset_eq package cause
  rw [heq, State.setSts_eq, State.setFld_eq, State.setReg_dev, State.setReg_dev, State.railBits_dev, hrole]

theorem State.byte_hardReset (s : State) (package : Bool) (cause a : Nat) : (s.hardReset package cause).byte a
    = if resetKeeps package a then s.byte a else memDefault a := by
  obtain ⟨-, himage, hstored, -⟩ := s.hardReset_boot package cause
  rw [State.byte, himage, hstored, s.hardReset_mem, Tab.get_keep, State.byte]
  cases hi : isImage a with
  | true =>
    have hkept : resetKeeps package a = true := by simp only [resetKeeps, isFeram_of_isImage hi, Bool.true_or]
    simp only [hkept, if_true]
  | false => simp only [Bool.false_and, Bool.false_eq_true, if_false]

theorem heath_resetSets {off : Nat} (ho : off < 0x1000) :
    isHthKey (regKey pgHTH off) = true ∧ resetSets (regKey pgHTH off) = false := by
  simp only [isHthKey, resetSets, Bool.or_eq_false_iff, beq_eq_false_iff_ne, beq_iff_eq, regKey, pgHTH, pgRED, pgCLK, pgTLN,
    Red.PAIR_STATE, Clk.CLK_STATUS, PAGE_STATUS]
  omega

theorem isHthKey_of_ne {page off : Nat} (ho : off < 0x1000) (hp : page ≠ pgHTH) : isHthKey (regKey page off) = false := by
  simp only [isHthKey, regKey, beq_eq_false_iff_ne]; omega

theorem State.reg_hardReset_of_hth (s : State) (package : Bool) (cause : Nat) {off : Nat} (ho : off < 0x1000) :
    (s.hardReset package cause).reg pgHTH off = s.reg pgHTH off := by
  obtain ⟨hkey, hset⟩ := heath_resetSets ho
  rw [s.reg_hardReset package cause hset, if_pos hkey]

theorem State.reg_hardReset_of_ne (s : State) (package : Bool) (cause : Nat) {page off : Nat} (ho : off < 0x1000) (hp : page ≠ pgHTH)
    (hred : regKey page off ≠ regKey pgRED Red.PAIR_STATE) (hclk : regKey page off ≠ regKey pgCLK Clk.CLK_STATUS)
    (htln : regKey page off ≠ regKey pgTLN PAGE_STATUS) : (s.hardReset package cause).reg page off = resetVal (regKey page off) := by
  have hset : resetSets (regKey page off) = false := by simp [resetSets, hred, hclk, htln]
  rw [s.reg_hardReset package cause hset, isHthKey_of_ne ho hp, if_neg Bool.false_ne_true]

/-! ### The package -/

/-- A package reset is that of the die with the pins sampled, which only PAIR_STATE shows. -/
theorem State.packageReset_eq (s : State) (cause : Nat) (b m : Bool) : ∃ t : State, s.packageReset cause b m = t.railBits ∧
    t.live = (s.hardReset true cause).live ∧ t.mem = (s.hardReset true cause).mem ∧ t.boot = (s.hardReset true cause).boot ∧
    t.dev.roleB = b ∧ t.dev.testMode = m := by
  unfold State.packageReset
  generalize s.hardReset true cause = t
  exact ⟨_, rfl, rfl, rfl, rfl, rfl, rfl⟩

theorem State.reg_packageReset (s : State) (cause : Nat) (b m : Bool) {page off : Nat}
    (h : regKey page off ≠ regKey pgRED Red.PAIR_STATE) :
    (s.packageReset cause b m).reg page off = (s.hardReset true cause).reg page off := by
  obtain ⟨t, heq, hlive, -⟩ := s.packageReset_eq cause b m
  rw [heq, State.reg_railBits _ h, State.reg, hlive, State.reg]

theorem State.byte_packageReset (s : State) (cause : Nat) (b m : Bool) (a : Nat) :
    (s.packageReset cause b m).byte a = if isFeram a then s.byte a else memDefault a := by
  obtain ⟨t, heq, -, hmem, hboot, -⟩ := s.packageReset_eq cause b m
  have hbyte : (s.packageReset cause b m).byte a = (s.hardReset true cause).byte a := by
    rw [heq]
    exact State.byte_congr (t.railBits_mem.trans hmem) (t.railBits_boot.trans hboot) a
  rw [hbyte, s.byte_hardReset, resetKeeps, Bool.not_true, Bool.and_false, Bool.or_false]

theorem State.packageReset_parts (s : State) (cause : Nat) (b m : Bool) : (s.packageReset cause b m).dev.roleB = b ∧
    (s.packageReset cause b m).dev.testMode = m ∧ (s.packageReset cause b m).boot.cause = cause ∧
    (s.packageReset cause b m).sts pgTLN Tln.S_TL_STATE = if s.timeKept.isSome then 4 else 0 := by
  obtain ⟨t, heq, -, -, hboot, hrole, htest⟩ := s.packageReset_eq cause b m
  refine ⟨?_, ?_, ?_, ?_⟩
  · rw [heq, State.railBits_dev, hrole]
  · rw [heq, State.railBits_dev, htest]
  · rw [heq, State.railBits_boot, hboot]
    exact (s.hardReset_boot true cause).1
  · rw [State.sts, State.fld, s.reg_packageReset cause b m (by decide)]
    exact s.tlState_hardReset true cause

theorem State.reg_packageReset_of_ne (s : State) (cause : Nat) (b m : Bool) {page off : Nat} (ho : off < 0x1000) (hp : page ≠ pgHTH)
    (hred : regKey page off ≠ regKey pgRED Red.PAIR_STATE) (hclk : regKey page off ≠ regKey pgCLK Clk.CLK_STATUS)
    (htln : regKey page off ≠ regKey pgTLN PAGE_STATUS) : (s.packageReset cause b m).reg page off = resetVal (regKey page off) := by
  rw [s.reg_packageReset cause b m hred, s.reg_hardReset_of_ne true cause ho hp hred hclk htln]

theorem State.reg_packageReset_of_hth (s : State) (cause : Nat) (b m : Bool) {off : Nat} (ho : off < 0x1000) :
    (s.packageReset cause b m).reg pgHTH off = s.reg pgHTH off := by
  have hred : regKey pgHTH off ≠ regKey pgRED Red.PAIR_STATE := by
    simp only [regKey, pgHTH, pgRED, Red.PAIR_STATE]; omega
  rw [s.reg_packageReset cause b m hred, s.reg_hardReset_of_hth true cause ho]

/-! ### The die -/

theorem State.reg_beginStart (s : State) {page off : Nat} (h : regKey page off ≠ regKey pgSYS Sys.START_STEP) :
    s.beginStart.reg page off = s.reg page off := by
  unfold State.beginStart
  split
  · rw [State.setNat_eq, State.reg_setReg_ne _ _ h]
  · rfl

theorem State.startStep_beginStart {s : State} (h : s.nat pgSYS Sys.START_STEP = 1) :
    s.beginStart.nat pgSYS Sys.START_STEP = if s.boot.trained then 2 else 1 := by
  unfold State.beginStart
  split
  · rw [State.nat, State.setNat_eq, State.reg_setReg_self]
    rfl
  · exact h

theorem State.beginStart_parts (s : State) : s.beginStart.mem = s.mem ∧ s.beginStart.boot = s.boot ∧ s.beginStart.dev = s.dev :=
  have h := State.beginStart_keeps (s.keeps_parts 0x400000090) (Keep.off_of_and (by decide))
  ⟨h.mem_eq, h.boot_eq, h.dev_eq⟩

/-! ### The commands -/

theorem exec_por {s : State} (h : s.ramped = true) (b m : Bool) : exec (.por b m) s = .next (s.packageReset 1 b m) := by
  have hexec : exec (.por b m) s = .next (if s.ramped then s.packageReset 1 b m else s) := rfl
  rw [hexec, if_pos h]

theorem exec_vcoreBrownout {s : State} (hcore : s.pwr.coreOn = true) (hclk : s.aclkRuns = true) :
    exec .vcoreBrownout s = .next (s.packageReset 2 s.dev.roleB s.dev.testMode) := by
  have hexec : exec .vcoreBrownout s
      = .next (if s.pwr.coreOn && s.aclkRuns then s.packageReset 2 s.dev.roleB s.dev.testMode else s) := rfl
  rw [hexec, hcore, hclk, Bool.and_self, if_pos rfl]

theorem exec_resetNLow {s : State} (hphase : s.pwr.phase ≠ .asleep) (hclk : s.aclkRuns = true) :
    exec .resetNLow s = .next (s.hardReset false 4).beginStart := by
  have hexec : exec .resetNLow s = .next (if s.pwr.phase = PwrPhase.asleep then s.wakeBy 32 0 else s.dieReset 4) := rfl
  rw [hexec, if_neg hphase, State.dieReset, hclk, Bool.not_true, if_neg Bool.false_ne_true]

end Sys2Proof.Machine

open Sys2Proof Sys2Proof.Machine

/-- Settles O11, from what the reset of the die leaves: its registers, and memory byte by byte. -/
theorem resetsReturnEverything : Obligations.ResetsReturnEverything := by
  refine ⟨fun s roleB testMode h => ?_, fun s hcore hclk => ?_, fun s hphase hclk => ?_⟩
  · obtain ⟨hrole, htest, hcause, htl⟩ := s.packageReset_parts 1 roleB testMode
    exact ⟨_, exec_por h roleB testMode, hrole, htest, hcause, htl, fun _ _ => s.reg_packageReset_of_ne 1 roleB testMode,
      fun _ => s.reg_packageReset_of_hth 1 roleB testMode, s.byte_packageReset 1 roleB testMode⟩
  · obtain ⟨hrole, -, hcause, htl⟩ := s.packageReset_parts 2 s.dev.roleB s.dev.testMode
    exact ⟨_, exec_vcoreBrownout hcore hclk, hrole, hcause, htl, fun _ _ => s.reg_packageReset_of_ne 2 s.dev.roleB s.dev.testMode,
      s.byte_packageReset 2 s.dev.roleB s.dev.testMode⟩
  · obtain ⟨hmem, hboot, hdev⟩ := (s.hardReset false 4).beginStart_parts
    obtain ⟨hcause, -, -, htrained⟩ := s.hardReset_boot false 4
    refine ⟨_, exec_resetNLow hphase hclk, ?_, ?_, ?_, ?_, fun page off ho hp hred hclk' htln hsys => ?_, fun a => ?_⟩
    · rw [hdev, s.hardReset_roleB]
    · rw [hboot, hcause]
    · have hreset : (s.hardReset false 4).nat pgSYS Sys.START_STEP = 1 := by
        rw [State.nat, s.reg_hardReset_of_ne false 4 (by decide) (by decide) (by decide) (by decide) (by decide)]
        decide
      rw [State.startStep_beginStart hreset, htrained, Bool.not_false, Bool.and_true]
    · rw [State.sts, State.fld, State.reg_beginStart _ (by decide)]
      exact s.tlState_hardReset false 4
    · rw [State.reg_beginStart _ hsys, s.reg_hardReset_of_ne false 4 ho hp hred hclk' htln]
    · rw [State.byte_congr hmem hboot, s.byte_hardReset, resetKeeps, Bool.not_false, Bool.and_true]

end

section
/-!
The header of a page: PAGE_CTRL, PAGE_COMMIT and the end of a reset (R56, R57, R62, R64, R66, R67, R70), and O9.
-/
set_option Elab.async false
namespace Sys2Proof.Machine

/-! ### The group of a page -/

/-- A page of a range is described by its place in it. -/
theorem pageInfoIn_mem {l : List (Nat × Nat × Block)} {n : Nat} {i : PageInfo} (h : pageInfoIn l n = some i) : ∃ r ∈ l,
    r.1 ≤ n ∧ n < r.1 + r.2.1 ∧ i = ⟨r.2.2, (n - r.1) / 2 ^ r.2.2.groupLog2, (n - r.1) % 2 ^ r.2.2.groupLog2⟩ := by
  induction l with
  | nil => simp [pageInfoIn] at h
  | cons r t ih =>
    obtain ⟨a, c, b⟩ := r
    rw [pageInfoIn] at h
    split at h
    · next hin => exact ⟨(a, c, b), List.mem_cons_self, hin.1, hin.2, (Option.some.inj h).symm⟩
    · obtain ⟨r, hr, hrest⟩ := ih h
      exact ⟨r, List.mem_cons_of_mem _ hr, hrest⟩

/-- Where the ranges follow one another, the first page of a page's group lies in the same range. -/
theorem pageInfoIn_first {l : List (Nat × Nat × Block)} (hl : l.Pairwise (fun x y => x.1 + x.2.1 ≤ y.1)) {n : Nat} {i : PageInfo}
    (h : pageInfoIn l n = some i) : pageInfoIn l (n - i.sub) = some { i with sub := 0 } := by
  induction l with
  | nil => simp [pageInfoIn] at h
  | cons r t ih =>
    obtain ⟨a, c, b⟩ := r
    obtain ⟨hfirst, htail⟩ := List.pairwise_cons.1 hl
    rw [pageInfoIn] at h
    split at h
    · next hin =>
      obtain rfl := Option.some.inj h
      have hsub : (n - a) % 2 ^ b.groupLog2 ≤ n - a := Nat.mod_le _ _
      have hplace : n - (n - a) % 2 ^ b.groupLog2 - a = 2 ^ b.groupLog2 * ((n - a) / 2 ^ b.groupLog2) := by
        have := Nat.mod_add_div (n - a) (2 ^ b.groupLog2)
        omega
      rw [pageInfoIn, if_pos (by dsimp only; omega)]
      dsimp only
      rw [hplace, Nat.mul_div_cancel_left _ (by positivity), Nat.mul_mod_right]
    · obtain ⟨r, hr, hlow, -, hi⟩ := pageInfoIn_mem h
      have hsub : i.sub ≤ n - r.1 := by rw [hi]; exact Nat.mod_le _ _
      have hbehind : a + c ≤ r.1 := hfirst r hr
      rw [pageInfoIn, if_neg (by omega), ih htail h]

theorem pageInfo_lt {page : Nat} {i : PageInfo} (h : pageInfo page = some i) : page < 0x234 := by
  obtain ⟨r, hr, -, hend, -⟩ := pageInfoIn_mem h
  have hall : ∀ r ∈ pageRanges, r.1 + r.2.1 ≤ 0x234 := by decide
  exact Nat.lt_of_lt_of_le hend (hall r hr)

theorem groupOf_eq {page : Nat} {i : PageInfo} (h : pageInfo page = some i) : groupOf page = page - i.sub := by
  simp only [groupOf, h]

theorem groupOf_self {page : Nat} {i : PageInfo} (h : pageInfo page = some i) (hs : i.sub = 0) : groupOf page = page := by
  rw [groupOf_eq h, hs, Nat.sub_zero]

/-- A page behind the first of its group is no first page. -/
theorem groupOf_ne {page : Nat} {i : PageInfo} (h : pageInfo page = some i) (hs : i.sub ≠ 0) : page ≠ groupOf page := by
  have hzero : page ≠ 0 := by
    rintro rfl
    have : pageInfo 0 = some ⟨.sys, 0, 0⟩ := pageInfo_pgSYS
    rw [this] at h
    exact hs (by simpa using congrArg PageInfo.sub (Option.some.inj h).symm)
  rw [groupOf_eq h]
  omega

/-- The first page of a group has the block and the number of every page of it. -/
theorem pageInfo_groupOf {page : Nat} {i : PageInfo} (h : pageInfo page = some i) :
    pageInfo (groupOf page) = some { i with sub := 0 } := by
  rw [groupOf_eq h]
  exact pageInfoIn_first (by decide) h

theorem groupSize_pos (g : Nat) : 0 < groupSize g := by
  unfold groupSize
  split
  · positivity
  · decide

theorem mem_groupPages_self (g : Nat) : g ∈ groupPages g := by
  simp only [groupPages, List.mem_map, List.mem_range]
  exact ⟨0, groupSize_pos g, rfl⟩

/-! ### BUSY -/

/-- BUSY of one page. -/
def State.setBusy (b : Bool) (s : State) (p : Nat) : State :=
  { s with dev := { s.dev with resetting := Tab.set (fun _ => false) s.dev.resetting p b,
                               unstop := s.dev.unstop.filter (· != p) } }

theorem State.setResetting_eq (s : State) (g : Nat) (b : Bool) : s.setResetting g b = (groupPages g).foldl (State.setBusy b) s := rfl

/-- Setting BUSY of several pages changes it for those alone. -/
theorem State.isResetting_foldl (l : List Nat) (b : Bool) (s : State) (page : Nat) :
    (l.foldl (State.setBusy b) s).isResetting page = if page ∈ l then b else s.isResetting page := by
  induction l generalizing s with
  | nil => simp
  | cons p t ih =>
    have hone : (s.setBusy b p).isResetting page = if page = p then b else s.isResetting page := Tab.get_set _ _ _ _ _
    rw [List.foldl_cons, ih, hone]
    by_cases ht : page ∈ t
    · simp [ht]
    · simp [ht]

theorem State.isResetting_setResetting (s : State) (g : Nat) (b : Bool) : (s.setResetting g b).isResetting g = b := by
  rw [State.setResetting_eq, State.isResetting_foldl, if_pos (mem_groupPages_self g)]

theorem State.setResetting_live (s : State) (g : Nat) (b : Bool) : (s.setResetting g b).live = s.live :=
  (State.setResetting_keeps (s.keeps_parts 0x2) (Keep.off_of_and (by decide))).live_eq

/-! ### PAGE_CTRL -/

theorem bit_ctrl (v : Word) (n : Nat) (h : n < 2) : bit (v &&& 0x7B) n = bit v n := by
  have hmask : (0x7B : Word).getLsbD n = true := by
    have hn : n = 0 ∨ n = 1 := by omega
    rcases hn with rfl | rfl <;> decide
  rw [bit_eq, bit_eq, BitVec.getLsbD_and, hmask, Bool.and_true]

section
variable {s : State} {page : Nat} {v : Word}

theorem State.flag_ctrl (s : State) (page : Nat) (v : Word) {n : Nat} (h : n < 2) :
    (s.setReg page PAGE_CTRL (v &&& 0x7B)).flag page PAGE_CTRL n = bit v n := by
  rw [State.flag, State.reg_setReg_self, bit_ctrl v n h]

theorem State.pageState_ctrl (s : State) (page : Nat) (v : Word) :
    (s.setReg page PAGE_CTRL v).pageState page = s.pageState page := by
  rw [State.pageState, State.fld, State.reg_setReg_ne _ _ (by simp [PAGE_CTRL, PAGE_STATUS]), State.pageState, State.fld]

theorem State.noteUnstop_reg (s : State) (g : Nat) (was : Bool) : (s.noteUnstop g was).reg = s.reg := by
  unfold State.noteUnstop
  dsimp only
  split
  · rfl
  · split <;> rfl

/-- Without a STOP that waits for a commit, setting it or leaving it clear notes nothing. -/
theorem State.noteUnstop_of_clear (h : s.dev.unstop = []) : s.noteUnstop page false = s := by
  have heta : { s with dev := { s.dev with unstop := [] } } = s := by rw [← h]
  by_cases hon : s.flag page PAGE_CTRL 1 = true
  · simp only [State.noteUnstop, hon, if_true, h, List.filter_nil]
    exact heta
  · simp only [State.noteUnstop, hon, if_false, Bool.false_and, Bool.false_eq_true]

end

/-- A write of a group's first page without RESET. -/
theorem State.ctrlTake_first {s : State} {r : Requester} {page : Nat} {v : Word} (hg : groupOf page = page) (hr : bit v 2 = false) :
    s.ctrlTake r page v = (let s2 := (s.setReg page PAGE_CTRL (v &&& 0x7B)).noteUnstop page (s.flag page PAGE_CTRL 1)
      if s2.pageState page ≠ 3 ∧ (s2.enabled page ≠ s.enabled page ∨ s2.stopSet page ≠ s.stopSet page) then
        (s2.ctrlChanged page (s.enabled page) (s.stopSet page)).pinsRefresh else s2) := by
  simp only [State.ctrlTake, hg, hr, true_and, if_true, Bool.false_eq_true, if_false]

/-- A write of a later page of a group, without RESET, only sets the register. -/
theorem State.ctrlTake_later {s : State} {r : Requester} {page : Nat} {v : Word} (hg : page ≠ groupOf page) (hr : bit v 2 = false) :
    s.ctrlTake r page v = s.setReg page PAGE_CTRL (v &&& 0x7B) := by
  simp only [State.ctrlTake, hg, hr, false_and, if_false, Bool.false_eq_true]

theorem State.busWrite_ctrl {s : State} {r : Requester} {page : Nat} {i : PageInfo} {v : Word} (h : s.accepts r page PAGE_CTRL = true)
    (hi : pageInfo page = some i) (hv : bits v (6, 4) ≤ 5) :
    s.busWrite r page PAGE_CTRL v = (s.told r page PAGE_CTRL v).ctrlTake r page v := by
  have hnot : ¬ 5 < bits v (6, 4) := by omega
  have hwrite (t : State) : t.regWrite r s.tln.now i page PAGE_CTRL v = t.ctrlWrite r page v := by
    simp [State.regWrite, PAGE_CTRL]
  rw [State.busWrite_eq h hi, hwrite, State.ctrlWrite, if_neg hnot]

/-- The blocks whose pages have no effect of ENABLE or STOP beyond STATE. -/
theorem State.ctrlChanged_plain {s : State} {page : Nat} {i : PageInfo} (hi : pageInfo page = some i)
    (hb : i.block ∈ [.cmp, .fix, .str, .ing, .ntm, .red]) (en st : Bool) :
    s.ctrlChanged page en st = s.setGroupState page (if !s.enabled page then 0 else if s.stopSet page then 2 else 1) := by
  obtain ⟨b, k, sub⟩ := i
  simp only [List.mem_cons, List.not_mem_nil, or_false] at hb
  simp only [State.ctrlChanged, hi]
  rcases hb with rfl | rfl | rfl | rfl | rfl | rfl <;> rfl

theorem bit_ctrlWith (s : State) (page : Nat) {n : Nat} (hn : n < 32) (on : Bool) : bit (s.ctrlWith page n on) n = on := by
  cases on <;> simp [State.ctrlWith, bit_setBit, bit_clearBit, hn]

/-- What a write of PAGE_CTRL leaves when the write is accepted and taken: `u` is the state in which it acts. -/
theorem State.enabled_noteUnstop (u : State) (page : Nat) (v : Word) (was : Bool) :
    ((u.setReg page PAGE_CTRL (v &&& 0x7B)).noteUnstop page was).enabled page = bit v 0 := by
  rw [State.enabled, State.flag, State.noteUnstop_reg]
  exact u.flag_ctrl page v (by decide)

theorem State.pageState_noteUnstop (u : State) (page : Nat) (v : Word) (was : Bool) :
    ((u.setReg page PAGE_CTRL (v &&& 0x7B)).noteUnstop page was).pageState page = u.pageState page := by
  rw [State.pageState, State.fld, State.noteUnstop_reg]
  exact u.pageState_ctrl page _

/-- STATE of a page without a waiting STOP, by the bits written. -/
theorem State.stopSet_ctrl {u : State} (page : Nat) (v : Word) (h : u.dev.unstop = []) :
    (u.setReg page PAGE_CTRL (v &&& 0x7B)).stopSet page = bit v 1 := by
  rw [State.stopSet, u.flag_ctrl page v (by decide), State.setReg_dev, h, List.contains_nil, Bool.or_false]

/-! ### ENABLE and STOP -/

theorem exec_pageEnable_first {s : State} {r : Requester} {page : Nat} {on : Bool} {i : PageInfo}
    (h : s.accepts r page PAGE_CTRL = true) (hi : pageInfo page = some i) (hs : i.sub = 0)
    (hv : bits (s.ctrlWith page 0 on) (6, 4) ≤ 5)
    (hr : bit (s.ctrlWith page 0 on) 2 = false) (hstate : (s.told r page PAGE_CTRL (s.ctrlWith page 0 on)).pageState page ≠ 3)
    (hen : (s.told r page PAGE_CTRL (s.ctrlWith page 0 on)).enabled page ≠ on) :
    let u := s.told r page PAGE_CTRL (s.ctrlWith page 0 on)
    exec (.pageEnable r page on) s = .next ((((u.setReg page PAGE_CTRL (s.ctrlWith page 0 on &&& 0x7B)).noteUnstop page
      (u.flag page PAGE_CTRL 1)).ctrlChanged page (!on) (u.stopSet page)).pinsRefresh) := by
  intro u
  have hexec : exec (.pageEnable r page on) s = .next (s.busWrite r page PAGE_CTRL (s.ctrlWith page 0 on)) := rfl
  have hwas : u.enabled page = !on := Bool.eq_not_of_ne hen
  rw [hexec, State.busWrite_ctrl h hi hv, State.ctrlTake_first (groupOf_self hi hs) hr]
  simp only [State.pageState_noteUnstop, State.enabled_noteUnstop, bit_ctrlWith s page (show 0 < 32 by decide)]
  rw [if_pos ⟨hstate, .inl (Ne.symm hen)⟩, ← hwas]

theorem exec_pageStop_first {s : State} {r : Requester} {page : Nat} {on : Bool} {i : PageInfo}
    (h : s.accepts r page PAGE_CTRL = true) (hi : pageInfo page = some i) (hs : i.sub = 0)
    (hv : bits (s.ctrlWith page 1 on) (6, 4) ≤ 5)
    (hr : bit (s.ctrlWith page 1 on) 2 = false) :
    let u := s.told r page PAGE_CTRL (s.ctrlWith page 1 on)
    let w := (u.setReg page PAGE_CTRL (s.ctrlWith page 1 on &&& 0x7B)).noteUnstop page (u.flag page PAGE_CTRL 1)
    exec (.pageStop r page on) s
      = .next (if u.pageState page ≠ 3 ∧ (w.enabled page ≠ u.enabled page ∨ w.stopSet page ≠ u.stopSet page) then
          (w.ctrlChanged page (u.enabled page) (u.stopSet page)).pinsRefresh else w) := by
  have hexec : exec (.pageStop r page on) s = .next (s.busWrite r page PAGE_CTRL (s.ctrlWith page 1 on)) := rfl
  intro u w
  rw [hexec, State.busWrite_ctrl h hi hv, State.ctrlTake_first (groupOf_self hi hs) hr]
  simp only [State.pageState_noteUnstop]
  rfl

theorem exec_pageEnable_later {s : State} {r : Requester} {page : Nat} {on : Bool} {i : PageInfo}
    (h : s.accepts r page PAGE_CTRL = true) (hi : pageInfo page = some i) (hs : i.sub ≠ 0)
    (hv : bits (s.ctrlWith page 0 on) (6, 4) ≤ 5)
    (hr : bit (s.ctrlWith page 0 on) 2 = false) : exec (.pageEnable r page on) s
      = .next ((s.told r page PAGE_CTRL (s.ctrlWith page 0 on)).setReg page PAGE_CTRL (s.ctrlWith page 0 on &&& 0x7B)) := by
  have hexec : exec (.pageEnable r page on) s = .next (s.busWrite r page PAGE_CTRL (s.ctrlWith page 0 on)) := rfl
  rw [hexec, State.busWrite_ctrl h hi hv, State.ctrlTake_later (groupOf_ne hi hs) hr]

theorem exec_pageStop_later {s : State} {r : Requester} {page : Nat} {on : Bool} {i : PageInfo}
    (h : s.accepts r page PAGE_CTRL = true) (hi : pageInfo page = some i) (hs : i.sub ≠ 0)
    (hv : bits (s.ctrlWith page 1 on) (6, 4) ≤ 5)
    (hr : bit (s.ctrlWith page 1 on) 2 = false) : exec (.pageStop r page on) s
      = .next ((s.told r page PAGE_CTRL (s.ctrlWith page 1 on)).setReg page PAGE_CTRL (s.ctrlWith page 1 on &&& 0x7B)) := by
  have hexec : exec (.pageStop r page on) s = .next (s.busWrite r page PAGE_CTRL (s.ctrlWith page 1 on)) := rfl
  rw [hexec, State.busWrite_ctrl h hi hv, State.ctrlTake_later (groupOf_ne hi hs) hr]

/-! ### RESET -/

theorem State.isResetting_resetUnit {s : State} {g : Nat} {i : PageInfo} (hi : pageInfo g = some i) :
    (s.resetUnit g).isResetting g = true := by
  have hpins (t : State) : t.pinsRefresh.isResetting g = t.isResetting g := by
    have hdev := (State.pinsRefresh_keeps (t.keeps_parts 0x80) (Keep.off_of_and (by decide))).dev_eq
    rw [State.isResetting, hdev, State.isResetting]
  rw [State.resetUnit, hpins]
  simp only [State.resetOne, hi]
  exact State.isResetting_setResetting _ g true

/-- A RESET of scope 0 of a unit page that leaves ENABLE and STOP as they were. -/
theorem State.resetRequest_unit {s : State} {r : Requester} {page : Nat} {i : PageInfo} (hi : pageInfo page = some i) (hs : i.sub = 0)
    (hl : i.block.level = 0) (hb : i.block ≠ .ccr) : s.resetRequest r page 0 = s.resetUnit page := by
  simp [State.resetRequest, hi, hb, hl, groupOf_self hi hs]

/-- The request of a RESET of scope 0 on a page whose PAGE_CTRL holds at most ENABLE and STOP. -/
theorem ctrl_of_reset {w : Word} (h : bits w (31, 2) = 0) :
    bits (setBit (putBits w (6, 4) 0) 2) (6, 4) = 0 ∧ bit (setBit (putBits w (6, 4) 0) 2) 2 = true := by
  have hlow : w.toNat < 4 := by
    have := w.isLt
    simp only [bits] at h
    omega
  have hword : w = 0 ∨ w = 1 ∨ w = 2 ∨ w = 3 := by bv_omega
  rcases hword with rfl | rfl | rfl | rfl <;> decide

theorem exec_pageReset_unit {s : State} {r : Requester} {page : Nat} {i : PageInfo} (h : s.accepts r page PAGE_CTRL = true)
    (hi : pageInfo page = some i) (hs : i.sub = 0) (hl : i.block.level = 0) (hb : i.block ≠ .ccr)
    (hbits : bits (s.reg page PAGE_CTRL) (31, 2) = 0) : ∃ u : State, exec (.pageReset r page 0) s = .next (u.resetUnit page) := by
  have hexec : exec (.pageReset r page 0) s
      = .next (s.busWrite r page PAGE_CTRL (setBit (putBits (s.reg page PAGE_CTRL) (6, 4) 0) 2)) := rfl
  obtain ⟨hscope, hreset⟩ := ctrl_of_reset hbits
  rw [hexec, State.busWrite_ctrl h hi (by omega)]
  simp only [State.ctrlTake, hreset, hscope, if_true, State.resetRequest_unit hi hs hl hb]
  exact ⟨_, rfl⟩

/-! ### PAGE_COMMIT -/

theorem State.busWrite_commit {s : State} {r : Requester} {page : Nat} {i : PageInfo} {v : Word}
    (h : s.accepts r page PAGE_COMMIT = true) (hi : pageInfo page = some i) : s.busWrite r page PAGE_COMMIT v
      = (let u := s.told r page PAGE_COMMIT v
         if bit v 1 then u.disarmGroup (groupOf page) else if bit v 0 then u.armGroup (groupOf page) s.tln.now else u) := by
  rw [State.busWrite_eq h hi]
  simp [State.regWrite, PAGE_COMMIT, PAGE_CTRL]

theorem exec_arm {s : State} {r : Requester} {page : Nat} {i : PageInfo} (h : s.accepts r page PAGE_COMMIT = true)
    (hi : pageInfo page = some i) :
    exec (.arm r page) s = .next ((s.told r page PAGE_COMMIT 1).armGroup (groupOf page) s.tln.now) := by
  have hexec : exec (.arm r page) s = .next (s.busWrite r page PAGE_COMMIT 1) := rfl
  have hbits : bit 1 1 = false ∧ bit 1 0 = true := by decide
  rw [hexec, State.busWrite_commit h hi, hbits.1, hbits.2, if_neg Bool.false_ne_true, if_pos rfl]

theorem exec_disarm {s : State} {r : Requester} {page : Nat} {i : PageInfo} (h : s.accepts r page PAGE_COMMIT = true)
    (hi : pageInfo page = some i) :
    exec (.disarm r page) s = .next ((s.told r page PAGE_COMMIT 2).disarmGroup (groupOf page)) := by
  have hexec : exec (.disarm r page) s = .next (s.busWrite r page PAGE_COMMIT 2) := rfl
  have hbit : bit 2 1 = true := by decide
  rw [hexec, State.busWrite_commit h hi, hbit, if_pos rfl]

/-- A bound group of kind 2 whose Swath runs waits for its frame start. -/
theorem State.armGroup_kind2 {u : State} {g since : Nat} {i : PageInfo} (hi : pageInfo g = some i) (hk : i.block.kind = 2)
    (harm : (u.armOf g).on = false) (hbound : u.boundSwath g ≠ 0xFF) (hrun : u.swathStopped (u.boundSwath g) = false) :
    u.armGroup g since = u.setArm g ⟨true, since⟩ := by
  have hswath : (u.setArm g ⟨true, since⟩).boundSwath g = u.boundSwath g := rfl
  have hstopped : (u.setArm g ⟨true, since⟩).swathStopped (u.boundSwath g) = false := hrun
  simp [State.armGroup, hi, hk, harm, State.commitIdle, hswath, hstopped, hbound]

theorem State.armGroup_kind1 {u : State} {g since : Nat} {i : PageInfo} (hi : pageInfo g = some i) (hk : i.block.kind = 1)
    (harm : (u.armOf g).on = false) : u.armGroup g since = u.commit1 g := by
  simp [State.armGroup, hi, hk, harm]

theorem State.disarmGroup_eq {u : State} (g : Nat) (h : u.dev.unstop = []) : u.disarmGroup g = u.discardShadows g := by
  have hdev : (u.discardShadows g).dev.unstop = [] := h
  rw [State.disarmGroup, State.releaseStop, hdev]
  rfl

/-- A group without shadows reads its live values through them. -/
theorem State.shd_discardShadows (u : State) {g p off : Nat} (h : inGroup g (regKey p off) = true) :
    (u.discardShadows g).shd p off = (u.discardShadows g).reg p off := by
  have hkeep : (u.discardShadows g).shadow = Tab.keep (fun k => !inGroup g k) u.shadow := rfl
  rw [State.shd, hkeep, Tab.get_keep, h, Bool.not_true, if_neg Bool.false_ne_true]
  rfl

theorem State.armOf_discardShadows (u : State) (g : Nat) : (u.discardShadows g).armOf g = Arm.idle := by
  simp only [State.discardShadows, State.armOf, State.setArm, Tab.get_set_self]

/-! ### The end of a reset -/

theorem State.restartCore_of_ne {s : State} {g : Nat} {i : PageInfo} (hi : pageInfo g = some i) (hb : i.block ≠ .ccr) :
    s.restartCore g = s := by
  obtain ⟨b, k, sub⟩ := i
  cases b with
  | ccr => exact absurd rfl hb
  | _ => simp only [State.restartCore, hi]

theorem State.restartCore_of_ccr {s : State} {g : Nat} {i : PageInfo} (hi : pageInfo g = some i) (hb : i.block = .ccr) :
    s.restartCore g = (s.setFlag g PAGE_CTRL 0 true).setPageState g 1 := by
  obtain ⟨b, k, sub⟩ := i
  obtain rfl : b = .ccr := hb
  simp only [State.restartCore, hi]

theorem State.restartCore_keeps_of (s : State) (g : Nat) : (s.restartCore g).mem = s.mem ∧ (s.restartCore g).dev = s.dev :=
  have h := State.restartCore_keeps (g := g) (s.keeps_parts 0x90) (Keep.off_of_and (by decide))
  ⟨h.mem_eq, h.dev_eq⟩

/-- A control core that restarts is enabled and active. -/
theorem State.restartCore_runs {s : State} {g : Nat} {i : PageInfo} (hi : pageInfo g = some i) (hb : i.block = .ccr) :
    (s.restartCore g).enabled g = true ∧ (s.restartCore g).active g = true := by
  rw [State.restartCore_of_ccr hi hb]
  constructor
  · rw [State.enabled, State.flag, State.setPageState_eq, State.reg_setReg_ne _ _ (by simp [PAGE_CTRL, PAGE_STATUS]),
      State.setFlag_eq, State.reg_setReg_self, if_pos rfl, bit_setBit _ _ _ (by decide)]
    rfl
  · rw [State.active, State.pageState, State.fld, State.setPageState_eq, State.reg_setReg_self, bits_putBits_same _ (by decide)]
    rfl

/-! ### Writes that do not reach a page -/

theorem exec_registerWrite_ctrl {s : State} {r : Requester} {page : Nat} {v : Word} (h : s.accepts r page PAGE_CTRL = true)
    (hv : 5 < bits v (6, 4)) : exec (.registerWrite r (regKey page PAGE_CTRL) 4 (v.setWidth 64)) s
      = .next ((s.told r page PAGE_CTRL v).scopeBad page v) := by
  obtain ⟨i, hi⟩ : ∃ i, pageInfo page = some i := by
    cases hi : pageInfo page with
    | none => simp [State.accepts, hi] at h
    | some i => exact ⟨i, rfl⟩
  have hpage := pageInfo_lt hi
  have hnum : regKey page PAGE_CTRL / 0x1000 = page ∧ regKey page PAGE_CTRL % 0x1000 = PAGE_CTRL := by
    simp only [regKey, PAGE_CTRL]; omega
  have hlow : regKey page PAGE_CTRL < 0x400000 := by simp only [regKey, PAGE_CTRL]; omega
  have hword : (v.setWidth 64).setWidth 32 = v := by simp
  have hexec : exec (.registerWrite r (regKey page PAGE_CTRL) 4 (v.setWidth 64)) s
      = .next (s.busWriteAt r s.tln.now (regKey page PAGE_CTRL) 4 (v.setWidth 64)) := rfl
  have hbus : s.busWriteAt r s.tln.now (regKey page PAGE_CTRL) 4 (v.setWidth 64) = s.busWrite r page PAGE_CTRL v := by
    have hwin : ¬ 0x4000000 ≤ regKey page PAGE_CTRL := by omega
    have hmem : ¬ 0x400000 ≤ regKey page PAGE_CTRL := by omega
    simp only [State.busWriteAt, hnum, hword, hwin, hmem, decide_false, Bool.and_false, Bool.false_eq_true, if_false, if_true]
    have hclk : s.aclkRuns = true := by
      simp only [State.accepts, Bool.and_eq_true] at h
      exact h.1
    rw [State.busWrite, State.access_eq hclk, State.access_eq hclk, State.counted_tln]
    rfl
  rw [hexec, hbus, State.busWrite_eq h hi]
  simp [State.regWrite, PAGE_CTRL, State.ctrlWrite, hv]

theorem exec_unmappedAccess {s : State} (h : s.aclkRuns = true) {addr : Nat} (ha : isMapped addr = false) (r : Requester) (write : Bool) :
    exec (.unmappedAccess r addr write) s
      = .next ((if write then s.counted else s.counted.emit (.read 0)).fault pgSYS F_UNMAPPED) := by
  have hexec : exec (.unmappedAccess r addr write) s
      = .next (if isMapped addr then s else s.access (fun a => (if write then a else a.emit (.read 0)).unmapped)) := rfl
  rw [hexec, ha, if_neg Bool.false_ne_true, State.access_eq h]
  rfl

end Sys2Proof.Machine

open Sys2Proof Sys2Proof.Machine

/-- Settles O9: the writes of the header by the cases of PAGE_CTRL and PAGE_COMMIT, and the end of a reset by that of BUSY. -/
theorem pageCommandsAct : Obligations.PageCommandsAct := by
  refine ⟨?_, ?_, ?_, ?_, ?_, ?_, ?_, ?_, fun s r page v h hv => exec_registerWrite_ctrl h hv,
    fun s r addr write h ha => exec_unmappedAccess h ha r write⟩
  · intro s r page on i v u w h hi hs hb hv hstop hr hwas hun hstate hen
    have hnote : w.noteUnstop page false = w := State.noteUnstop_of_clear hun
    have hst : w.stopSet page = bit v 1 := State.stopSet_ctrl page v hun
    have hon : w.enabled page = on := (u.flag_ctrl page v (by decide)).trans (bit_ctrlWith s page (by decide) on)
    rw [exec_pageEnable_first h hi hs hv hr hstate hen, hwas, hnote, State.ctrlChanged_plain hi hb, hon, hst, hstop]
    cases on <;> rfl
  · intro s r page on i v u w h hi hv hr
    exact ⟨fun hs hstate hen => exec_pageEnable_first h hi hs hv hr hstate hen, fun hs => exec_pageEnable_later h hi hs hv hr⟩
  · intro s r page on i v u w h hi hv hr
    refine ⟨fun hs hstate hst hon => ?_, fun hs hst hon hen => ?_, fun hs => exec_pageStop_later h hi hs hv hr⟩
    · have hwas : u.stopSet page = !on := Bool.eq_not_of_ne hst
      rw [exec_pageStop_first h hi hs hv hr, if_pos ⟨hstate, .inr (by rw [hon]; exact Ne.symm hst)⟩, hwas]
    · have hsame : (w.noteUnstop page (u.flag page PAGE_CTRL 1)).stopSet page = u.stopSet page := by
        rw [Bool.eq_not_of_ne hst, Bool.eq_not_of_ne hon]
      have hkeep : (w.noteUnstop page (u.flag page PAGE_CTRL 1)).enabled page = u.enabled page := by
        rw [← hen, State.enabled, State.flag, State.noteUnstop_reg, State.enabled, State.flag]
      rw [exec_pageStop_first h hi hs hv hr, if_neg (by rintro ⟨-, hne | hne⟩; exacts [hne hkeep, hne hsame])]
  · intro s r page i v u w h hi hs hb hv hen hr hwas hst hun hstate
    have hnote : w.noteUnstop page false = w := State.noteUnstop_of_clear hun
    have hon : w.enabled page = true := (u.flag_ctrl page v (by decide)).trans hen
    have hset : w.stopSet page = true := (State.stopSet_ctrl page v hun).trans (bit_ctrlWith s page (by decide) true)
    have hclear : u.stopSet page = false := by rw [State.stopSet, hst, hun]; rfl
    rw [exec_pageStop_first h hi hs hv hr, hst, hnote, if_pos ⟨hstate, .inr (by rw [hset, hclear]; decide)⟩,
      State.ctrlChanged_plain hi hb, hon, hset]
    rfl
  · intro s r page i v u h hi hs hl hb _ _ hbits _
    obtain ⟨t, ht⟩ := exec_pageReset_unit h hi hs hl hb hbits
    exact ⟨_, ht, State.isResetting_resetUnit hi⟩
  · intro s r page i u h hi harm
    refine ⟨fun hk => ?_, fun hk hbound hrun => ?_⟩
    · rw [exec_arm h hi, State.armGroup_kind1 (pageInfo_groupOf hi) hk harm]
    · rw [exec_arm h hi, State.armGroup_kind2 (pageInfo_groupOf hi) hk harm hbound hrun]
  · intro s r page i u h hi hun
    refine ⟨_, exec_disarm h hi, ?_⟩
    rw [State.disarmGroup_eq _ hun]
    exact ⟨u.armOf_discardShadows _, rfl, fun p off hin => u.shd_discardShadows hin⟩
  · intro s g i hi hs
    obtain ⟨hmem, hdev⟩ := (s.setResetting g false).restartCore_keeps_of g
    refine ⟨(s.setResetting g false).restartCore g, rfl, ?_, ?_, fun hb => ?_, fun hb => State.restartCore_runs hi hb⟩
    · rw [State.isResetting, hdev]
      exact s.isResetting_setResetting g false
    · rw [hmem, (State.setResetting_keeps (s.keeps_parts 0x10) (Keep.off_of_and (by decide))).mem_eq]
    · rw [State.restartCore_of_ne hi hb, State.setResetting_live]

end

section
/-!
What a release of the outputs and a recorded fault leave: the registers of CLK, the STATE of RED, and the own Stile rail.
-/
set_option Elab.async false
namespace Sys2Proof.Machine

/-! ### The relation -/

/-- The registers of CLK, the STATE of RED and the own Stile rail are as before. -/
structure State.Calm (s t : State) : Prop where
  clk : ∀ k, k / 0x1000 = pgCLK → t.at k = s.at k
  red : t.pageState pgRED = s.pageState pgRED
  own : t.red.own = s.red.own

/-- A register that none of them depends on. -/
def calmKey (k : Nat) : Bool := k / 0x1000 != pgCLK && k != regKey pgRED PAGE_STATUS

theorem calmKey_of_page {page off : Nat} (hl : pgCLK < page) (hh : page < pgRED) (ho : off < 0x1000) :
    calmKey (regKey page off) = true := by
  simp only [calmKey, regKey, pgCLK, pgRED, PAGE_STATUS, Bool.and_eq_true, bne_iff_ne] at *
  omega

theorem calmKey_of_red {off : Nat} (h : off ≠ PAGE_STATUS) : calmKey (regKey pgRED off) = true := by
  simp only [calmKey, regKey, pgCLK, pgRED, PAGE_STATUS, Bool.and_eq_true, bne_iff_ne] at *
  omega

section
variable {s t u : State}

theorem State.Calm.refl (s : State) : s.Calm s := ⟨fun _ _ => rfl, rfl, rfl⟩

theorem State.Calm.trans (h : s.Calm t) (g : t.Calm u) : s.Calm u :=
  ⟨fun k hk => (g.clk k hk).trans (h.clk k hk), g.red.trans h.red, g.own.trans h.own⟩

theorem State.Calm.reg (h : s.Calm t) {off : Nat} (ho : off < 0x1000) : t.reg pgCLK off = s.reg pgCLK off :=
  h.clk (regKey pgCLK off) (by simp only [regKey, pgCLK]; omega)

/-- An update of other parts. -/
theorem State.Calm.upd (h : s.Calm t) (hl : u.live = t.live) (hr : u.red.own = t.red.own) : s.Calm u := by
  refine h.trans ⟨fun k _ => ?_, ?_, hr⟩
  · simp only [State.at, hl]
  · simp only [State.pageState, State.fld, State.reg, hl]

theorem State.Calm.setReg (h : s.Calm t) {page off : Nat} {v : Word} (hk : calmKey (regKey page off) = true) :
    s.Calm (t.setReg page off v) := by
  simp only [calmKey, Bool.and_eq_true, bne_iff_ne] at hk
  obtain ⟨hclk, hred⟩ := hk
  refine h.trans ⟨fun k hkey => State.at_setReg_ne _ _ ?_, ?_, congrArg RedState.own (State.setReg_red _ _ _ _)⟩
  · rintro rfl
    exact hclk hkey
  · rw [State.pageState, State.fld, State.reg_setReg_ne _ _ (Ne.symm hred), State.pageState, State.fld]

/-- A field of RED's BLOCK_STATUS lies apart from STATE. -/
theorem State.Calm.setSts_red (h : s.Calm t) {f : Field} {n : Nat} (hf : Field.fits f) (hlow : 1 < f.2) :
    s.Calm (t.setSts pgRED f n) := by
  have hred : (t.setSts pgRED f n).red = t.red := by rw [State.setSts_eq, State.setReg_red]
  refine h.trans ⟨fun k hkey => ?_, ?_, congrArg RedState.own hred⟩
  · rw [State.setSts_eq]
    refine State.at_setReg_ne _ _ ?_
    rintro rfl
    exact absurd hkey (by decide)
  · rw [State.pageState, State.fld, State.setSts_eq, State.reg_setReg_self, bits_putBits_of_apart _ hf _ (.inr ⟨hlow, by decide⟩),
      State.pageState, State.fld]

theorem State.Calm.same (h : s.Calm t) (g : t.SameButCount u) : s.Calm u := by
  refine h.trans ⟨fun k hk => g.regs k ?_, ?_, congrArg RedState.own g.red⟩
  · simp [countKey, irqKey, hk, pgCLK]
  · rw [State.pageState, State.fld, g.reg (by decide), State.pageState, State.fld]

theorem State.Calm.irq (h : s.Calm t) {k : Nat} : s.Calm (t.irq k) := h.same (t.irq_same k).count

theorem State.Calm.count (h : s.Calm t) {n k : Nat} : s.Calm (t.count n k) := h.same (t.count_same n k)

theorem State.Calm.setLevel (h : s.Calm t) {k : Nat} {b : Bool} : s.Calm (t.setLevel k b) := h.same (t.setLevel_same k b).count

theorem State.Calm.ite {p : Prop} [Decidable p] (h : s.Calm t) (g : s.Calm u) : s.Calm (if p then t else u) := by
  split
  · exact h
  · exact g

/-- One operation for each element of a list. -/
theorem State.Calm.foldl {α : Type} {f : State → α → State} {l : List α} (h : s.Calm t)
    (hf : ∀ x ∈ l, ∀ a : State, a.Calm (f a x)) : s.Calm (l.foldl f t) := by
  induction l generalizing t with
  | nil => exact h
  | cons x l ih =>
    exact ih (h.trans (hf x List.mem_cons_self t)) fun y hy => hf y (List.mem_cons_of_mem x hy)

/-- Several outputs are no change. -/
theorem State.Calm.emits {α : Type} {f : α → Output} {l : List α} (h : s.Calm t) : s.Calm (l.foldl (fun a x => a.emit (f x)) t) :=
  h.foldl fun _ _ a => (State.Calm.refl a).upd rfl rfl

theorem State.Calm.faultHere (h : s.Calm t) {page n : Nat} (hk : calmKey (regKey page PAGE_FAULT) = true) :
    s.Calm (t.faultHere page n) := by
  have hset : s.Calm (t.setFlag page PAGE_FAULT n true) := h.setReg hk
  unfold State.faultHere
  cases pageInfo page with
  | none => exact hset
  | some i =>
    dsimp only
    cases faultIrq i n with
    | none => exact hset
    | some k => exact hset.ite hset.irq

/-- A fault of a page that reports to no other one. -/
theorem State.Calm.fault (h : s.Calm t) {page n : Nat} {i : PageInfo} (hi : pageInfo page = some i)
    (hb : i.block ≠ .plu ∧ i.block ≠ .plc ∧ i.block ≠ .ccr) (hk : calmKey (regKey page PAGE_FAULT) = true) :
    s.Calm (t.fault page n) := by
  have heq : t.fault page n = t.faultHere page n := by
    obtain ⟨b, k, sub⟩ := i
    obtain ⟨hplu, hplc, hccr⟩ := hb
    unfold State.fault
    rw [hi]
    cases b with
    | plu => exact absurd rfl hplu
    | plc => exact absurd rfl hplc
    | ccr => exact absurd rfl hccr
    | _ => rfl
  rw [heq]
  exact h.faultHere hk

end

/-! ### The event recorder -/

section
variable (s : State)

theorem State.queueLevels_calm (j : Nat) (hj : j < 16) : s.Calm (s.queueLevels j) := by
  have hk : calmKey (regKey (pgQUE j) PAGE_STATUS) = true :=
    calmKey_of_page (by simp only [pgCLK, pgQUE]; omega) (by simp only [pgRED, pgQUE]; omega) (by decide)
  exact ((State.Calm.refl s).foldl fun _ _ a => (State.Calm.refl a).setReg hk).setLevel

theorem State.queueError_calm (b : Nat) : s.Calm (s.queueError 3 3 b) := ((State.Calm.refl s).setReg (by decide)).irq

theorem State.queueDrop_calm : s.Calm (s.queueDrop 3 3) := (State.Calm.refl s).setReg (by decide)

theorem State.setQueue_calm (j q : Nat) (x : Queue) : s.Calm (s.setQueue j q x) := (State.Calm.refl s).upd rfl rfl

theorem State.queuePtrReset_calm (busy : Bool) : s.Calm (s.queuePtrReset 3 3 busy) := by
  unfold State.queuePtrReset
  dsimp only
  exact (((s.setQueue_calm 3 3 _).setReg (by decide)).trans (State.queueError_calm _ 9)).trans (State.queueLevels_calm _ 3 (by decide))

theorem State.queuePut_calm (depth : Nat) (d : List Byte) (last : Bool) : s.Calm (s.queuePut 3 3 depth d last) := by
  have hdrop (x : Queue) : s.Calm ((s.queueDrop 3 3).setQueue 3 3 x) := s.queueDrop_calm.trans (State.setQueue_calm _ 3 3 x)
  have herror : s.Calm (s.queueError 3 3 8) := s.queueError_calm 8
  unfold State.queuePut
  dsimp only
  split
  · exact hdrop _
  · split
    · exact (s.setQueue_calm 3 3 _).ite (State.Calm.refl s)
    · split
      · exact (hdrop _).ite (State.Calm.refl s)
      · split
        · exact ((herror.trans (State.queueDrop_calm _)).trans (State.setQueue_calm _ 3 3 _)).ite
            (herror.trans (State.setQueue_calm _ 3 3 _))
        · split
          · exact (s.setQueue_calm 3 3 _).setReg (by decide)
          · exact s.setQueue_calm 3 3 _

theorem State.evrLost_calm : s.Calm s.evrLost := by
  have hlost : s.Calm ((s.inc pgEVR Evr.LOST_TOTAL).fault pgEVR Evr.F_LOST) :=
    ((State.Calm.refl s).setReg (by decide)).fault pageInfo_pgEVR (by decide) (by decide)
  refine State.Calm.count (hlost.upd ?_ ?_) <;> rfl

theorem State.evrPushSound_calm (code page kind group : Nat) : s.Calm (s.evrPushSound code page kind group) := by
  have hput := (s.queuePut_calm 64 (pendingEntry code page kind group (stamp32 s.tln.now)) true).trans
    (State.queueLevels_calm _ 3 (by decide))
  exact (hput.trans (State.evrLost_calm _)).ite (hput.setReg (by decide))

theorem State.evrPush_calm (code page kind group : Nat) : s.Calm (s.evrPush code page kind group) :=
  (s.evrPushSound_calm code page kind group).ite
    (((s.queuePtrReset_calm false).trans (State.evrLost_calm _)).trans (State.evrPushSound_calm _ _ _ _ _))

theorem State.trigger_calm (code page : Nat) : s.Calm (s.trigger code page) := by
  have hdrop : s.Calm ((s.inc pgEVR Evr.DROPPED_TOTAL).fault pgEVR Evr.F_DROPPED) :=
    ((State.Calm.refl s).setReg (by decide)).fault pageInfo_pgEVR (by decide) (by decide)
  have hspent (x : Tab Nat) : s.Calm { s with evr := { s.evr with spent := x } } := (State.Calm.refl s).upd rfl rfl
  unfold State.trigger
  split
  · exact State.Calm.refl s
  · dsimp only
    split
    · exact State.Calm.refl s
    · split
      · exact hdrop.upd rfl rfl
      · split
        · exact State.Calm.upd ((hspent _).setReg (by decide)) rfl rfl
        · exact (hspent _).trans (State.evrPush_calm _ _ _ _ _)

theorem State.recordFault_calm (level page : Nat) : s.Calm (s.recordFault level page) := s.trigger_calm _ _

end

/-! ### Pins -/

section
variable (s : State)

theorem State.wireHolds_calm (w : Wire) (b : Bool) : s.Calm (s.wireHolds w b) := (State.Calm.refl s).upd rfl rfl

theorem State.setDriven_calm {page : Nat} (f : Field) (l : List Wire) (on : Bool) (hk : calmKey (regKey page PAGE_STATUS) = true) :
    s.Calm (s.setDriven page f l on) :=
  ((State.Calm.refl s).setReg hk).ite ((State.Calm.refl s).setReg hk).emits

theorem State.pxRefresh_calm {k : Nat} (h : k < 64) : s.Calm (s.pxRefresh k) := by
  have hk : calmKey (regKey (pgPXP k) PAGE_STATUS) = true :=
    calmKey_of_page (by simp only [pgCLK, pgPXP]; omega) (by simp only [pgRED, pgPXP]; omega) (by decide)
  have hset : s.Calm ((s.setSts (pgPXP k) Pxp.S_PIN_STATE (s.pxPin k).1).setDriven (pgPXP k) Pxp.S_DRIVEN [.px k] (s.pxPin k).2) :=
    ((State.Calm.refl s).setReg hk).trans (State.setDriven_calm _ _ _ _ hk)
  exact (hset.trans (State.wireHolds_calm _ _ _)).ite hset

theorem State.dmxRefresh_calm {k : Nat} (h : k < 12) : s.Calm (s.dmxRefresh k) := by
  have hk : calmKey (regKey (pgDMX k) PAGE_STATUS) = true :=
    calmKey_of_page (by simp only [pgCLK, pgDMX]; omega) (by simp only [pgRED, pgDMX]; omega) (by decide)
  have hset : s.Calm ((s.setSts (pgDMX k) Dmx.S_PIN_STATE (s.dmxPin k).1).setDriven (pgDMX k) Dmx.S_DRIVEN [.dmxTx k, .dmxDe k]
      (s.dmxPin k).2) := ((State.Calm.refl s).setReg hk).trans (State.setDriven_calm _ _ _ _ hk)
  exact ((hset.trans (State.wireHolds_calm _ _ _)).trans (State.wireHolds_calm _ _ _)).ite hset

theorem State.fldRefresh_calm {k : Nat} (h : k < 8) : s.Calm (s.fldRefresh k) := by
  have hk : calmKey (regKey (pgFLD k) PAGE_STATUS) = true :=
    calmKey_of_page (by simp only [pgCLK, pgFLD]; omega) (by simp only [pgRED, pgFLD]; omega) (by decide)
  exact ((State.Calm.refl s).setReg hk).trans (State.setDriven_calm _ _ _ _ hk)

/-- DRIVEN of a cluster's channels follows its pins. -/
def State.lampsDriven (s : State) (n x : Nat) : State :=
  (channelsOf n).foldl (fun a k => a.setSts (pgLMP k) Lmp.S_DRIVEN (if x = 0 then 0 else 1))
    ((s.setSts (pgLCL n) Lcl.S_PIN_STATE x).setDriven (pgLCL n) Lcl.S_DRIVEN ((channelsOf n).map Wire.gate) (x != 0))

theorem State.lampsDriven_calm {n : Nat} (h : n < 4) (x : Nat) : s.Calm (s.lampsDriven n x) := by
  have hk : calmKey (regKey (pgLCL n) PAGE_STATUS) = true :=
    calmKey_of_page (by simp only [pgCLK, pgLCL]; omega) (by simp only [pgRED, pgLCL]; omega) (by decide)
  refine State.Calm.foldl (((State.Calm.refl s).setReg hk).trans (State.setDriven_calm _ _ _ _ hk)) fun k hkn a => ?_
  simp only [channelsOf, List.mem_map, List.mem_range] at hkn
  obtain ⟨i, hi, rfl⟩ := hkn
  exact (State.Calm.refl a).setReg
    (calmKey_of_page (by simp only [pgCLK, pgLMP]; omega) (by simp only [pgRED, pgLMP]; omega) (by decide))

/-- A change of PIN_STATE as it is reported, and the gates that become inactive with it. -/
def State.lclChanged (s : State) (n x : Nat) (at_ : Option Nat) : State :=
  let s3 := (s.setCluster n { s.clusterOf n with releasedAt := at_, keeperOff := false }).irq (304 + n)
  if x = 1 ∨ x = 2 then (channelsOf n).foldl State.gateOff s3 else s3

theorem State.lclChanged_calm (n x : Nat) (at_ : Option Nat) : s.Calm (s.lclChanged n x at_) := by
  have hirq : s.Calm ((s.setCluster n { s.clusterOf n with releasedAt := at_, keeperOff := false }).irq (304 + n)) := by
    refine State.Calm.irq ((State.Calm.refl s).upd ?_ ?_) <;> rfl
  exact (hirq.foldl fun k _ a => a.wireHolds_calm _ _).ite hirq

theorem State.lclRefresh_eq (n : Nat) : s.lclRefresh n = (let x := s.lclPin n
    let t := s.lampsDriven n x
    if s.sts (pgLCL n) Lcl.S_PIN_STATE = x then t else t.lclChanged n x (if x = 0 then some s.tln.now else none)) := rfl

theorem State.lclRefresh_calm {n : Nat} (h : n < 4) : s.Calm (s.lclRefresh n) := by
  rw [State.lclRefresh_eq]
  exact (s.lampsDriven_calm h _).ite ((s.lampsDriven_calm h _).trans (State.lclChanged_calm _ n _ _))

theorem State.pinsRefresh_calm : s.Calm s.pinsRefresh :=
  State.Calm.foldl (State.Calm.foldl (State.Calm.foldl (State.Calm.foldl (State.Calm.refl s)
    fun _ hk a => a.pxRefresh_calm (List.mem_range.1 hk)) fun _ hk a => a.dmxRefresh_calm (List.mem_range.1 hk))
    fun _ hk a => a.lclRefresh_calm (List.mem_range.1 hk)) fun _ hk a => a.fldRefresh_calm (List.mem_range.1 hk)

end

/-! ### Swaths and the timeline -/

section
variable (s : State)

theorem swathKey {k off : Nat} (h : k < 16) (ho : off < 0x1000) : calmKey (regKey (pgSWT k) off) = true :=
  calmKey_of_page (by simp only [pgCLK, pgSWT]; omega) (by simp only [pgRED, pgSWT]; omega) ho

theorem State.setGroupState_swath_calm {k : Nat} (h : k < 16) (n : Nat) : s.Calm (s.setGroupState (pgSWT k) n) := by
  have hinfo : pageInfo (pgSWT k) = some ⟨.swt, k, 0⟩ := pageInfo_pgSWT ⟨k, h⟩
  simp only [State.setGroupState, hinfo]
  refine (State.Calm.refl s).foldl fun j hj a => (State.Calm.refl a).setReg ?_
  have hfour : j < 4 := List.mem_range.1 hj
  exact calmKey_of_page (by simp only [pgCLK, pgSWT]; omega) (by simp only [pgRED, pgSWT]; omega) (by decide)

theorem State.swathRefresh_calm {k : Nat} (h : k < 16) : s.Calm (s.swathRefresh k) :=
  (State.Calm.refl s).ite ((s.setGroupState_swath_calm h 0).ite ((s.setGroupState_swath_calm h 2).ite (s.setGroupState_swath_calm h 1)))

theorem State.setSwathState_calm {k : Nat} (h : k < 16) (n : Nat) : s.Calm (s.setSwathState k n) :=
  (s.swathRefresh_calm h).ite
    (((State.Calm.refl s).setReg (swathKey h (by decide))).trans (State.swathRefresh_calm _ h)).irq

theorem State.tryArm_calm {k : Nat} (h : k < 16) : s.Calm (s.tryArm k) := by
  have hset (x : SwtState) : s.Calm (s.setSwath k x) := (State.Calm.refl s).upd rfl rfl
  exact ((hset _).trans (State.setSwathState_calm _ h 1)).ite (State.Calm.refl s)

theorem State.lockFollow_calm {k : Nat} (h : k < 16) : s.Calm (s.lockFollow k) := by
  have hset (n : Nat) : s.Calm (s.setSts (pgSWT k) Swt.S_LOCK_OK n) := (State.Calm.refl s).setReg (swathKey h (by decide))
  exact (State.Calm.refl s).ite
    (((hset _).fault (pageInfo_pgSWT ⟨k, h⟩) ⟨nofun, nofun, nofun⟩ (swathKey h (by decide))).ite (hset _))

theorem State.swathLocks_calm : s.Calm s.swathLocks :=
  ((State.Calm.refl s).foldl fun _ hk a => a.lockFollow_calm (List.mem_range.1 hk)).foldl fun _ hk a =>
    a.tryArm_calm (List.mem_range.1 hk)

theorem State.setIncr_calm (v : Int) : s.Calm (s.setIncr v) := ((State.Calm.refl s).setReg (by decide)).setReg (by decide)

theorem State.retune_calm : s.Calm s.retune := by
  unfold State.retune
  split
  · exact s.setIncr_calm _
  · exact s.setIncr_calm _
  · exact State.Calm.refl s
  · exact s.setIncr_calm _

theorem State.enterTl_calm (n : Nat) : s.Calm (s.enterTl n) := by
  have hset (x : TlnState) : s.Calm { s with tln := x } := (State.Calm.refl s).upd rfl rfl
  unfold State.enterTl
  split
  · exact hset _
  · exact hset _
  · exact hset _
  · exact (hset _).ite ((hset _).trans (State.setIncr_calm _ _))
  · exact State.Calm.refl s

theorem State.alignFalls_calm : s.Calm s.alignFalls := by
  have hset : s.Calm (s.setFld pgRED Red.PAIR_STATE Red.ALIGNED 0) := (State.Calm.refl s).setReg (by decide)
  exact (State.Calm.refl s).ite ((hset.fault pageInfo_pgRED (by decide) (by decide)).ite hset)

theorem State.setTlState_calm (n : Nat) : s.Calm (s.setTlState n) := by
  have hset : s.Calm ((s.enterTl n).setSts pgTLN Tln.S_TL_STATE n) := (s.enterTl_calm n).setReg (by decide)
  have htune := hset.trans (State.retune_calm _)
  unfold State.setTlState
  generalize (s.enterTl n).setSts pgTLN Tln.S_TL_STATE n = t at htune
  have hnext : s.Calm (if n = 2 then t.retune else t.retune.alignFalls) := htune.ite (htune.trans (State.alignFalls_calm _))
  exact hnext.ite (hnext.irq.trans (State.swathLocks_calm _))

theorem State.tlnOff_calm : s.Calm s.tlnOff :=
  ((s.enterTl_calm 0).trans (State.retune_calm _)).ite (s.setTlState_calm 0)

theorem State.slewEnd_calm : s.Calm s.slewEnd := by
  have hset (x : TlnState) : s.Calm ({ s with tln := x }.setSts pgTLN Tln.S_SLEWING 0) := by
    refine State.Calm.setReg ((State.Calm.refl s).upd ?_ ?_) (by decide) <;> rfl
  exact ((hset _).trans (State.retune_calm _)).irq.ite (State.Calm.refl s)

theorem State.leapNow_calm : s.Calm s.leapNow :=
  (((State.Calm.refl s).setReg (by decide)).setReg (by decide)).irq

/-- What a change of the source sets before the new one is looked at. -/
theorem State.tln_calm (x : TlnState) : s.Calm { s with tln := x } := (State.Calm.refl s).upd rfl rfl

/-- The timeline takes the new source `new` (R87). -/
def State.sourceTaken (s : State) (new : Nat) : State :=
  if new = 0 then s.tlnOff
  else
    let c := { s.slewEnd with tln := { s.slewEnd.tln with preload := true } }
    if c.tlnOn && c.srcValid new then c.setTlState 1 else c

theorem State.sourceTaken_calm (new : Nat) : s.Calm (s.sourceTaken new) := by
  have hpre : s.Calm { s.slewEnd with tln := { s.slewEnd.tln with preload := true } } := s.slewEnd_calm.trans (State.tln_calm _ _)
  exact s.tlnOff_calm.ite ((hpre.trans (State.setTlState_calm _ 1)).ite hpre)

/-- The state in which a change of source is taken. -/
def State.sourceLeft (s : State) : State :=
  { s with tln := { s.tln with hasPrev := false, reachedLocked := false, lockedIncr := [] } }.voidEvents

theorem State.tlnCommitted_eq (old : Nat) : s.tlnCommitted old
    = (let t := (if old = s.tlSrc then s else s.sourceLeft.sourceTaken s.tlSrc).retune
       if t.leapArmed ∧ t.leapAt ≤ t.tln.now then t.leapNow else t) := rfl

theorem State.tlnCommitted_calm (old : Nat) : s.Calm (s.tlnCommitted old) := by
  have hleft : s.Calm s.sourceLeft := (s.tln_calm _).trans (State.tln_calm _ _)
  have htaken : s.Calm (if old = s.tlSrc then s else s.sourceLeft.sourceTaken s.tlSrc) :=
    (State.Calm.refl s).ite (hleft.trans (State.sourceTaken_calm _ _))
  rw [State.tlnCommitted_eq]
  exact ((htaken.trans (State.retune_calm _)).trans (State.leapNow_calm _)).ite (htaken.trans (State.retune_calm _))

end

/-! ### The Tsudex link and RDM -/

section
variable (s : State)

theorem redKey {off : Nat} (h : off ≠ PAGE_STATUS := by decide) : calmKey (regKey pgRED off) = true := calmKey_of_red h

theorem State.tsxPut_calm (lane : Nat) (f : TsxFrame) : s.Calm (s.tsxPut lane f) := by
  have hemit : s.Calm (s.emit (.tsx lane (s.tsxBytes f))) := (State.Calm.refl s).upd rfl rfl
  exact (hemit.setReg redKey).count

theorem State.tsxBacklog_calm : s.Calm s.tsxBacklog := (State.Calm.refl s).setReg redKey

theorem State.setRed_calm {r : RedState} (h : r.own = s.red.own) : s.Calm (s.setRed r) := (State.Calm.refl s).upd rfl h

theorem State.tsxQueue_calm (type plane : Nat) (payload : List Byte) : s.Calm (s.tsxQueue type plane payload) := by
  refine State.Calm.trans (State.Calm.trans ?_ (State.tsxPut_calm _ _ _)) (State.tsxBacklog_calm _)
  exact s.setRed_calm rfl

theorem State.tsxBreak_calm : s.Calm s.tsxBreak := by
  have hdrop (x : List TsxFrame) : s.Calm (s.setRed { s.red with unacked := x, copying := false }) := s.setRed_calm rfl
  refine State.Calm.trans (State.Calm.fault (State.Calm.setReg (State.Calm.ite ?_ ?_) redKey) pageInfo_pgRED (by decide) redKey)
    (State.trigger_calm _ _ _)
  · exact (hdrop _).trans (State.tsxQueue_calm _ _ _ _)
  · exact (hdrop _).trans (State.tsxBacklog_calm _)

theorem State.tsxSend_calm (type plane : Nat) (payload : List Byte) : s.Calm (s.tsxSend type plane payload) := by
  have hsent := s.tsxQueue_calm type plane payload
  exact (State.Calm.refl s).ite ((hsent.trans (State.tsxBreak_calm _)).ite hsent)

theorem State.tellOutcome_calm (cls port : Nat) (image : List Byte) : s.Calm (s.tellOutcome cls port image) :=
  (s.tsxSend_calm _ _ _).ite (State.Calm.refl s)

theorem dmxKey {k off : Nat} (h : k < 12) (ho : off < 0x1000) : calmKey (regKey (pgDMX k) off) = true :=
  calmKey_of_page (by simp only [pgCLK, pgDMX]; omega) (by simp only [pgRED, pgDMX]; omega) ho

theorem State.setDmx_calm (k : Nat) (x : DmxState) : s.Calm (s.setDmx k x) := (State.Calm.refl s).upd rfl rfl

theorem State.rdmCut_calm (k : Nat) (hold : Bool) : s.Calm (s.rdmCut k hold) := by
  unfold State.rdmCut
  dsimp only
  split
  · exact State.Calm.refl s
  · exact ((State.Calm.refl s).ite ((s.wireHolds_calm _ _).trans (State.wireHolds_calm _ _ _))).trans (State.setDmx_calm _ _ _)

theorem State.rdmDone_calm {k : Nat} (h : k < 12) (n : Nat) : s.Calm (s.rdmDone k n) := by
  have hset : s.Calm ((((s.setOutcome k n).setSts (pgDMX k) Dmx.S_RDM_DONE 1).irq (208 + k)).count (512 + 4 * k + 2) 1) :=
    (((State.Calm.refl s).setReg (dmxKey h (by decide))).setReg (dmxKey h (by decide))).irq.count
  exact hset.trans (State.tellOutcome_calm _ _ _ _)

theorem State.rdmAbort_calm {k : Nat} (h : k < 12) : s.Calm (s.rdmAbort k) := by
  have hcut : s.Calm (if s.rdmOutcome k = 2 then s.rdmCut k false else s) := (s.rdmCut_calm k false).ite (State.Calm.refl s)
  exact ((hcut.trans (State.rdmDone_calm _ h 7)).trans (State.dmxRefresh_calm _ h)).ite (State.Calm.refl s)

/-! ### The rails -/

theorem State.pxSampling_calm (k : Nat) : s.Calm (s.pxSampling k) := by
  have hset (x : PortState) : s.Calm (s.setPort (keyPX k) x) := (State.Calm.refl s).upd rfl rfl
  exact (State.Calm.refl s).ite (hset _)

theorem State.roleOutputs_calm (lost : Bool) : s.Calm (s.roleOutputs lost) := by
  have hrdm : s.Calm ((List.range 12).foldl State.rdmAbort s) :=
    (State.Calm.refl s).foldl fun _ hk a => a.rdmAbort_calm (List.mem_range.1 hk)
  have hfield (a : State) (k : Nat) (x : FieldState) : a.Calm (a.setField k x) := (State.Calm.refl a).upd rfl rfl
  exact (hrdm.foldl fun k _ a => (hfield a k _).ite (State.Calm.refl a)).ite (hrdm.foldl fun k _ a => a.pxSampling_calm k)

theorem State.alignRefresh_calm : s.Calm s.alignRefresh :=
  (State.Calm.refl s).ite (((State.Calm.refl s).setReg redKey).ite s.alignFalls_calm)

theorem State.roleSource_calm : s.Calm s.roleSource := by
  have hset (v w : Word) : s.Calm ((s.setReg pgTLN Tln.TL_MODE v).setShd pgTLN Tln.TL_MODE w) :=
    State.Calm.upd ((State.Calm.refl s).setReg (by decide)) rfl rfl
  exact (State.Calm.refl s).ite (((hset _ _).trans (State.tlnCommitted_calm _ _)).trans (State.alignRefresh_calm _))

theorem State.setSync_calm (n : Nat) : s.Calm (s.setSync n) := by
  have hset {r : RedState} (h : r.own = s.red.own) : s.Calm (((s.setRed r).setSts pgRED Red.S_SYNC_STATE n).irq 342) :=
    ((s.setRed_calm h).setSts_red (by decide) (by decide)).irq
  unfold State.setSync
  split
  · exact State.Calm.refl s
  · exact hset rfl

theorem State.syncRefresh_calm : s.Calm s.syncRefresh := (s.setSync_calm _).ite (State.Calm.refl s)

/-- A change of the rails leaves CLK and the STATE of RED, and nothing that follows it moves the own rail again. -/
theorem State.setRails_calm (r : RedState) : (s.setRed r).Calm (s.setRails r) := by
  have hrails : (s.setRed r).Calm (((s.setRed { r with peerSeen := r.peerSeen || r.peer }).setFld pgRED Red.PAIR_STATE Red.OWN_RAIL
      (if r.own then 1 else 0)).setFld pgRED Red.PAIR_STATE Red.PEER_RAIL (if r.peer then 1 else 0)) := by
    refine State.Calm.setReg (State.Calm.setReg ((State.Calm.refl _).upd ?_ ?_) redKey) redKey <;> rfl
  unfold State.setRails
  dsimp only
  generalize ((s.setRed { r with peerSeen := r.peerSeen || r.peer }).setFld pgRED Red.PAIR_STATE Red.OWN_RAIL
    (if r.own then 1 else 0)).setFld pgRED Red.PAIR_STATE Red.PEER_RAIL (if r.peer then 1 else 0) = t at hrails
  have hstate (n : Nat) : (s.setRed r).Calm (((t.setSts pgRED Red.S_STILE_STATE r.stile).setSts pgRED Red.S_ROLE n).irq 341) :=
    ((hrails.setSts_red (by decide) (by decide)).setSts_red (by decide) (by decide)).irq
  have hrole (a : State) (b : Bool) :
      a.Calm (((a.roleOutputs b).trigger 0xE01 pgRED).count 1477 1).roleSource.syncRefresh.pinsRefresh :=
    ((((a.roleOutputs_calm b).trans (State.trigger_calm _ _ _)).count.trans (State.roleSource_calm _)).trans
      (State.syncRefresh_calm _)).trans (State.pinsRefresh_calm _)
  exact hrails.ite (((hstate _).trans (hrole _ _)).ite (hstate _))

end

/-- The Stile is released: the own rail is low, and CLK and the STATE of RED are as before. -/
structure State.Released (s t : State) : Prop where
  clk : ∀ off, off < 0x1000 → t.reg pgCLK off = s.reg pgCLK off
  red : t.pageState pgRED = s.pageState pgRED
  own : t.red.own = false

theorem State.Released.calm {s t u : State} (h : s.Released t) (g : t.Calm u) : s.Released u :=
  ⟨fun off ho => (g.reg ho).trans (h.clk off ho), g.red.trans h.red, g.own.trans h.own⟩

theorem State.releaseStile_released (s : State) : s.Released s.releaseStile := by
  unfold State.releaseStile
  split
  · have h := s.setRails_calm { s.red with own := false, claiming := false, holdoffFrom := s.tln.now }
    exact ⟨fun off ho => h.reg ho, h.red, h.own⟩
  · next hown => exact ⟨fun _ _ => rfl, rfl, by simpa using hown⟩

end Sys2Proof.Machine
end

section
/-!
ROOT's lock and the loss of a clock (R34 to R36), and O12.
-/
set_option Elab.async false
namespace Sys2Proof.Machine

/-! ### A die-level fault -/

theorem State.Released.congr {s t u : State} (h : s.Released t) (hl : s.live = u.live) : u.Released t :=
  ⟨fun off ho => (h.clk off ho).trans (by simp only [State.reg, hl]),
    h.red.trans (by simp only [State.pageState, State.fld, State.reg, hl]), h.own⟩

theorem State.fenceDie_released (s : State) (page : Nat) : s.Released (s.fenceDie page) := by
  have hopen : s.Released ({ s with dev := { s.dev with dieFenced := true, faultN := true } }.releaseStile) :=
    (State.releaseStile_released _).congr rfl
  exact ((hopen.calm (State.pinsRefresh_calm _)).calm (State.recordFault_calm _ 3 page)).calm (State.pinsRefresh_calm _)

/-- The parts beside the registers that the release and the report of a fault leave: memory, the device's own state, and the start. -/
theorem State.releaseStile_parts (s : State) :
    s.releaseStile.mem = s.mem ∧ s.releaseStile.dev = s.dev ∧ s.releaseStile.boot = s.boot :=
  have h := State.releaseStile_keeps (s.keeps_parts 0x400000090) (Keep.off_of_and (by decide))
  ⟨h.mem_eq, h.dev_eq, h.boot_eq⟩

theorem State.recordFault_parts (s : State) (level page : Nat) : (s.recordFault level page).mem = s.mem ∧
    (s.recordFault level page).dev = s.dev ∧ (s.recordFault level page).boot = s.boot :=
  have h := State.recordFault_keeps (level := level) (page := page) (s.keeps_parts 0x400000090) (Keep.off_of_and (by decide))
  ⟨h.mem_eq, h.dev_eq, h.boot_eq⟩

theorem State.pinsRefresh_parts (s : State) :
    s.pinsRefresh.mem = s.mem ∧ s.pinsRefresh.dev = s.dev ∧ s.pinsRefresh.boot = s.boot :=
  have h := State.pinsRefresh_keeps (s.keeps_parts 0x400000090) (Keep.off_of_and (by decide))
  ⟨h.mem_eq, h.dev_eq, h.boot_eq⟩

theorem State.fault_parts (s : State) (page n : Nat) :
    (s.fault page n).mem = s.mem ∧ (s.fault page n).dev = s.dev ∧ (s.fault page n).boot = s.boot :=
  have h := State.fault_keeps (page := page) (n := n) (s.keeps_parts 0x400000090) (Keep.off_of_and (by decide))
  ⟨h.mem_eq, h.dev_eq, h.boot_eq⟩

theorem State.fenceDie_parts (s : State) (page : Nat) : (s.fenceDie page).mem = s.mem ∧
    (s.fenceDie page).dev = { s.dev with dieFenced := true, faultN := true } ∧ (s.fenceDie page).boot = s.boot := by
  simp only [State.fenceDie, State.openDie, State.pinsRefresh_parts, State.recordFault_parts, State.releaseStile_parts, and_self]

/-! ### ROOT -/

/-- A fault of CLK is a bit of its own PAGE_FAULT: the interrupt behind it leaves the page. -/
theorem State.fault_clk (s : State) {n off : Nat} (ho : off < 0x1000) (h : off ≠ PAGE_FAULT) :
    (s.fault pgCLK n).reg pgCLK off = s.reg pgCLK off := by
  have hirq : irqKey (regKey pgCLK off) = false := by
    have hpage : regKey pgCLK off / 0x1000 = 1 := by simp only [regKey, pgCLK]; omega
    simp [irqKey, hpage]
  have hset (t : State) (ht : t = s.setFlag pgCLK PAGE_FAULT n true) : t.reg pgCLK off = s.reg pgCLK off := by
    rw [ht, State.setFlag_eq, State.reg_setReg_ne _ _ (by simpa using h)]
  have hhere : s.fault pgCLK n = s.faultHere pgCLK n := by simp only [State.fault, pageInfo_pgCLK]
  rw [hhere, State.faultHere]
  simp only [pageInfo_pgCLK]
  split
  · split
    · exact hset _ rfl
    · exact ((State.irq_same _ _).reg hirq).trans (hset _ rfl)
  · exact hset _ rfl

/-- ROOT_LOCK as it was set; CLK_STATUS, which shows it too, is another register. -/
theorem State.rootLock_setRoot (s : State) (lock on : Bool) :
    (s.setRoot lock on).sts pgCLK Clk.S_ROOT_LOCK = if lock then 1 else 0 := by
  simp only [State.setRoot, State.sts, State.fld]
  rw [State.reg_setFld_ne _ _ _ (by decide), State.reg_setFld_ne _ _ _ (by decide), State.setSts_eq, State.reg_setReg_self,
    bits_putBits_of_apart _ (by decide) _ (.inr (by decide)), State.setSts_eq, State.reg_setReg_self, bits_putBits_same _ (by decide)]
  cases lock <;> rfl

theorem State.reg_setRoot_ne (s : State) (lock on : Bool) {page off : Nat} (hs : regKey page off ≠ regKey pgCLK PAGE_STATUS)
    (hc : regKey page off ≠ regKey pgCLK Clk.CLK_STATUS) : (s.setRoot lock on).reg page off = s.reg page off := by
  simp only [State.setRoot]
  rw [State.reg_setFld_ne _ _ _ hc, State.reg_setFld_ne _ _ _ hc, State.reg_setSts_ne _ _ _ hs, State.reg_setSts_ne _ _ _ hs]

theorem State.setRoot_parts (s : State) (lock on : Bool) :
    (s.setRoot lock on).mem = s.mem ∧ (s.setRoot lock on).dev = s.dev ∧ (s.setRoot lock on).boot = s.boot :=
  have h := State.setRoot_keeps (lock := lock) (on := on) (s.keeps_parts 0x400000090) (Keep.off_of_and (by decide))
  ⟨h.mem_eq, h.dev_eq, h.boot_eq⟩

/-- What a loss of ROOT leaves of the device, whatever was counted before it. -/
theorem State.loseRoot_leaves (s : State) : s.loseRoot.dev.dieFenced = true ∧ s.loseRoot.dev.faultN = true ∧
    s.loseRoot.reg pgCLK Clk.ROOT_LOSSES = s.reg pgCLK Clk.ROOT_LOSSES ∧ s.loseRoot.engineRuns = false ∧
    s.loseRoot.boot.cause = s.boot.cause ||| 0x100 ∧ s.loseRoot.mem = s.mem := by
  have heq : ∃ t : State, s.loseRoot = (t.setRoot false false).fenceDie pgCLK ∧ t.live = s.live ∧ t.mem = s.mem ∧
      t.boot.cause = s.boot.cause ||| 0x100 := ⟨_, rfl, rfl, rfl, rfl⟩
  obtain ⟨t, ht, hlive, hmem, hcause⟩ := heq
  obtain ⟨hfmem, hfdev, hfboot⟩ := (t.setRoot false false).fenceDie_parts pgCLK
  obtain ⟨hrmem, -, hrboot⟩ := t.setRoot_parts false false
  have hfence := (t.setRoot false false).fenceDie_released pgCLK
  rw [ht]
  refine ⟨by rw [hfdev], by rw [hfdev], ?_, ?_, ?_, ?_⟩
  · rw [hfence.clk _ (by decide), State.reg_setRoot_ne _ _ _ (by decide) (by decide), State.reg, hlive, State.reg]
  · have hlock : ((t.setRoot false false).fenceDie pgCLK).sts pgCLK Clk.S_ROOT_LOCK = 0 := by
      rw [State.sts, State.fld, hfence.clk _ (by decide)]
      exact t.rootLock_setRoot false false
    simp [State.engineRuns, State.pclkRuns, hlock]
  · rw [hfboot, hrboot, hcause]
  · rw [hfmem, hrmem, hmem]

theorem State.rootLossNoted_losses (s : State) :
    s.rootLossNoted.reg pgCLK Clk.ROOT_LOSSES = s.reg pgCLK Clk.ROOT_LOSSES + 1 := by
  rw [State.rootLossNoted, State.fault_clk _ (by decide) (by decide), State.inc, State.addReg, State.reg_setReg_self]
  rfl

theorem State.rootLossNoted_parts (s : State) : s.rootLossNoted.mem = s.mem ∧ s.rootLossNoted.boot = s.boot := by
  obtain ⟨hmem, -, hboot⟩ := (s.inc pgCLK Clk.ROOT_LOSSES).fault_parts pgCLK Clk.F_ROOT_LOST
  exact ⟨hmem.trans (State.setReg_mem _ _ _ _), hboot.trans (State.setReg_boot _ _ _ _)⟩

/-- The state in which the loss of the crystal has been counted. -/
def State.xtalNoted (s : State) : State :=
  ((s.inc pgCLK Clk.XTAL_STOPS).setFld pgCLK Clk.CLK_STATUS (2, 2) 0).fault pgCLK Clk.F_XTAL_STOP

theorem State.xtalNoted_leaves (s : State) : s.xtalNoted.reg pgCLK Clk.ROOT_LOSSES = s.reg pgCLK Clk.ROOT_LOSSES ∧
    s.xtalNoted.mem = s.mem ∧ s.xtalNoted.boot = s.boot := by
  obtain ⟨hmem, -, hboot⟩ := ((s.inc pgCLK Clk.XTAL_STOPS).setFld pgCLK Clk.CLK_STATUS (2, 2) 0).fault_parts pgCLK Clk.F_XTAL_STOP
  refine ⟨?_, hmem.trans ?_, hboot.trans ?_⟩
  · rw [State.xtalNoted, State.fault_clk _ (by decide) (by decide), State.reg_setFld_ne _ _ _ (by decide), State.inc, State.addReg,
      State.reg_setReg_ne _ _ (by decide)]
  · rw [State.setFld_eq, State.setReg_mem, State.inc, State.addReg, State.setReg_mem]
  · rw [State.setFld_eq, State.setReg_boot, State.inc, State.addReg, State.setReg_boot]

/-! ### Commands -/

theorem exec_clockMove {s : State} (h : s.reaches pgCLK = true) (r : Requester) (b : Bool) :
    exec (.clockMove r b) s = .next (s.counted.clockMove r b) := by
  have hexec : exec (.clockMove r b) s = .next (s.gate pgCLK (fun a => a.clockMove r b)) := rfl
  rw [hexec, State.gate_eq h]

theorem State.clockMove_host {s : State} {r : Requester} (h : isHost r = true) (b : Bool) :
    s.clockMove r b = s.fault pgCLK Clk.F_OWNER_WRITE := by
  rw [State.clockMove, if_pos h]

theorem State.clockMove_core {s : State} {r : Requester} {b : Bool} (h : isHost r = false)
    (hb : b = true → s.sts pgCLK Clk.S_ROOT_LOCK = 1) : s.clockMove r b
      = (s.setNat pgCLK Clk.CLK_CTRL (if b then 1 else 0)).setRoot (s.sts pgCLK Clk.S_ROOT_LOCK == 1) b := by
  have hlock : (b && s.sts pgCLK Clk.S_ROOT_LOCK != 1) = false := by
    cases b with
    | false => rfl
    | true => simp [hb rfl]
  rw [State.clockMove, h, hlock, if_neg Bool.false_ne_true, if_neg Bool.false_ne_true]

theorem State.rootLock_leaves {s : State} (h : s.aclkRuns = true) (micros khz : Nat) :
    (s.rootLock micros khz).nat pgCLK Clk.LOCK_US = min 65535 micros ∧ (s.rootLock micros khz).nat pgCLK Clk.FIO_KHZ = khz % 2 ^ 18 ∧
    (s.rootLock micros khz).sts pgCLK Clk.S_ROOT_LOCK = 1 ∧ (s.rootLock micros khz).startStep = s.startStep ∧
    (s.rootLock micros khz).mem = s.mem := by
  have heq : s.rootLock micros khz = ((((s.setRoot true (s.sts pgCLK Clk.S_ON_ROOT == 1)).setFld pgCLK Clk.CLK_STATUS (2, 2) 1).setNat
      pgCLK Clk.LOCK_US (min 65535 micros)).setNat pgCLK Clk.FIO_KHZ (khz % 2 ^ 18)) := by
    rw [State.rootLock, h, Bool.not_true, if_neg Bool.false_ne_true]
  rw [heq]
  simp only [State.setNat_eq, State.nat, State.sts, State.fld, State.startStep]
  refine ⟨?_, ?_, ?_, ?_, ?_⟩
  · rw [State.reg_setReg_ne _ _ (by decide), State.reg_setReg_self, BitVec.toNat_ofNat]
    exact Nat.mod_eq_of_lt (by omega)
  · rw [State.reg_setReg_self, BitVec.toNat_ofNat]
    exact Nat.mod_eq_of_lt (by omega)
  · rw [State.reg_setReg_ne _ _ (by decide), State.reg_setReg_ne _ _ (by decide), State.reg_setFld_ne _ _ _ (by decide)]
    exact s.rootLock_setRoot true _
  · rw [State.reg_setReg_ne _ _ (by decide), State.reg_setReg_ne _ _ (by decide), State.reg_setFld_ne _ _ _ (by decide),
      State.reg_setRoot_ne _ _ _ (by decide) (by decide)]
  · rw [State.setReg_mem, State.setReg_mem, State.setFld_eq, State.setReg_mem]
    exact (s.setRoot_parts _ _).1

/-- A start that does not wait at step 5 is left alone. -/
theorem State.startRoot_of_ne {s : State} (h : s.startStep ≠ 5) : s.startRoot = s := by
  have hne : (s.startStep != 5) = true := bne_iff_ne.2 h
  rw [State.startRoot, hne, Bool.or_true, Bool.true_or, Bool.true_or, if_pos rfl]

theorem exec_rootLost {s : State} (h : s.aclkRuns = true) (hlock : s.sts pgCLK Clk.S_ROOT_LOCK = 1) :
    exec .rootLost s = .next s.rootLossNoted.loseRoot := by
  have hexec : exec .rootLost s
      = .next (if s.aclkRuns && s.sts pgCLK Clk.S_ROOT_LOCK == 1 then s.rootLossNoted.loseRoot else s) := rfl
  rw [hexec, h, hlock, beq_self_eq_true, Bool.and_self, if_pos rfl]

theorem exec_xtalStop {s : State} (h : s.aclkRuns = true) : exec .xtalStop s
    = .next (if s.sts pgCLK Clk.S_ROOT_LOCK = 1 then s.xtalNoted.rootLossNoted else s.xtalNoted).loseRoot := by
  have hexec : exec .xtalStop s = .next (if s.aclkRuns then
      (if s.sts pgCLK Clk.S_ROOT_LOCK = 1 then s.xtalNoted.rootLossNoted else s.xtalNoted).loseRoot else s) := rfl
  rw [hexec, if_pos h]

end Sys2Proof.Machine

open Sys2Proof Sys2Proof.Machine

/-- Settles O12: the commands of CLK by their cases, and the loss of a clock by what a die-level fault leaves of CLK. -/
theorem clockEventsAct : Obligations.ClockEventsAct := by
  refine ⟨fun s r b h hr hb => ?_, fun s r b h hr => ?_, fun s micros khz h hstep => ?_, fun s h hlock => ?_, fun s h => ?_⟩
  · rw [exec_clockMove h, State.clockMove_core hr hb]
  · rw [exec_clockMove h, State.clockMove_host hr]
  · obtain ⟨hus, hkhz, hlock, hsame, hmem⟩ := State.rootLock_leaves h micros khz
    have hexec : exec (.rootLock micros khz) s = .next (s.rootLock micros khz).startRoot := rfl
    rw [hexec, State.startRoot_of_ne (by rw [hsame]; exact hstep)]
    exact ⟨_, rfl, hus, hkhz, hlock, hmem⟩
  · obtain ⟨hdie, hpin, hlosses, hengine, hcause, hmem⟩ := s.rootLossNoted.loseRoot_leaves
    obtain ⟨hnmem, hnboot⟩ := s.rootLossNoted_parts
    exact ⟨_, exec_rootLost h hlock, hdie, hpin, hlosses.trans s.rootLossNoted_losses, hengine, by rw [hcause, hnboot],
      hmem.trans hnmem⟩
  · obtain ⟨hxlosses, hxmem, hxboot⟩ := s.xtalNoted_leaves
    obtain ⟨hnmem, hnboot⟩ := s.xtalNoted.rootLossNoted_parts
    refine ⟨_, exec_xtalStop h, ?_⟩
    split
    · obtain ⟨hdie, hpin, hlosses, hengine, hcause, hmem⟩ := s.xtalNoted.rootLossNoted.loseRoot_leaves
      exact ⟨hdie, hpin, by rw [hlosses, State.rootLossNoted_losses, hxlosses], hengine, by rw [hcause, hnboot, hxboot],
        by rw [hmem, hnmem, hxmem]⟩
    · obtain ⟨hdie, hpin, hlosses, hengine, hcause, hmem⟩ := s.xtalNoted.loseRoot_leaves
      exact ⟨hdie, hpin, hlosses.trans hxlosses, hengine, by rw [hcause, hxboot], hmem.trans hxmem⟩

end

section
/-!
Faults and their containment (R18, R21 to R23, R38, R39, R59), and O10.
-/
set_option Elab.async false
namespace Sys2Proof.Machine

/-! ### Jobs that are handed back leave what is contained -/

section
variable (s : State)

/-- Operations that leave the device's own state. -/
theorem State.modRegion_dev (n : Nat) (f : RegionState → RegionState) : (s.modRegion n f).dev = s.dev :=
  (State.modRegion_keeps (s.keeps_parts 0x80) (Keep.off_of_and (by decide))).dev_eq

theorem State.wake_containing (t : Nat) (msg : Word) : (s.wake t msg).dev.containing = s.dev.containing := by
  have hready (a : State) (v : Thread) : (a.threadReady t v).dev.containing = a.dev.containing := by
    rw [State.threadReady, (State.setThread_keeps (State.keeps_parts _ 0x80) (Keep.off_of_and (by decide))).dev_eq]
  have hlost (a : State) (p : Nat) : (a.fault p Jsc.F_WAKE_LOST).dev = a.dev := (a.fault_parts p _).2.1
  unfold State.wake
  dsimp only
  split
  · rw [hready, State.setReg_dev]
  · split
    · rw [(State.setThread_keeps (s.keeps_parts 0x80) (Keep.off_of_and (by decide))).dev_eq]
    · rw [hlost, State.inc, State.addReg, State.setReg_dev]

theorem State.retireEffect_containing (j : Job) : (s.retireEffect j).dev.containing = s.dev.containing := by
  unfold State.retireEffect
  split
  · split
    · rw [(State.addSums_keeps (s.keeps_parts 0x80) (Keep.off_of_and (by decide))).dev_eq]
    · rfl
  · have hfold (l : Tab Nat) (a : State) : (l.foldl (fun a e => a.hwMem e.1 1 (e.2 - 1)) a).dev = a.dev := by
      induction l generalizing a with
      | nil => rfl
      | cons e l ih =>
        rw [List.foldl_cons, ih, (State.hwMem_keeps (a.keeps_parts 0x80) (Keep.off_of_and (by decide))).dev_eq]
    rw [hfold]
  · split
    · rw [(State.packRetire_keeps (s.keeps_parts 0x80) (Keep.off_of_and (by decide))).dev_eq]
    · rfl
  · rw [(State.ingestRetire_keeps (s.keeps_parts 0x80) (Keep.off_of_and (by decide))).dev_eq]
  · exact s.wake_containing _ _
  · rfl

/-- A retirement before its effect. -/
def State.retireHead (s : State) (n : Nat) (j : Job) : State :=
  let s0 := s.modRegion n (·.del j.id)
  let s1 := match j.kind with
    | some k => s0.jobFault n k j j.executor
    | none => s0
  let s2 := if j.ordered then
      (s1.setDomain j.domain { s1.domainOf j.domain with head := ((s1.domainOf j.domain).head + 1) % 65536 }).promote j.domain
    else s1
  s2.sendSignals j.signals

/-- A retirement after its effect. -/
def State.retireTail (s : State) (n : Nat) (j : Job) : State :=
  let s4 := if bit (j.word 0) 6 then s.donePend n else s
  (((s4.inc (pgJSC n) Jsc.RETIRED).count (1024 + 48 * n + 2) 1).writeTrace n j).sourceDone j.source

theorem State.retire_eq (n : Nat) (j : Job) : s.retire n j = ((s.retireHead n j).retireEffect j).retireTail n j := rfl

theorem State.retireHead_dev (n : Nat) (j : Job) : (s.retireHead n j).dev = s.dev := by
  have hfault (a : State) (k : Nat) : (a.jobFault n k j j.executor).dev = a.dev :=
    (State.jobFault_keeps (a.keeps_parts 0x80) (Keep.off_of_and (by decide))).dev_eq
  have hdomain (a : State) (v : Domain) : ((a.setDomain j.domain v).promote j.domain).dev = a.dev :=
    (State.promote_keeps (State.setDomain_keeps (a.keeps_parts 0x80) (Keep.off_of_and (by decide)))
      (Keep.off_of_and (by decide))).dev_eq
  unfold State.retireHead
  dsimp only
  rw [(State.sendSignals_keeps (State.keeps_parts _ 0x80) (Keep.off_of_and (by decide))).dev_eq]
  cases j.kind with
  | none =>
    split
    · rw [hdomain, State.modRegion_dev]
    · rw [State.modRegion_dev]
  | some k =>
    split
    · rw [hdomain, hfault, State.modRegion_dev]
    · rw [hfault, State.modRegion_dev]

theorem State.retireTail_dev (n : Nat) (j : Job) : (s.retireTail n j).dev = s.dev := by
  have htail (a : State) : ((((a.inc (pgJSC n) Jsc.RETIRED).count (1024 + 48 * n + 2) 1).writeTrace n j).sourceDone j.source).dev
      = a.dev := by
    rw [(State.sourceDone_keeps (State.keeps_parts _ 0x80) (Keep.off_of_and (by decide))).dev_eq,
      (State.writeTrace_keeps (State.keeps_parts _ 0x80) (Keep.off_of_and (by decide))).dev_eq, (State.count_same _ _ _).dev,
      State.inc, State.addReg, State.setReg_dev]
  unfold State.retireTail
  dsimp only
  rw [htail]
  split
  · rw [(State.donePend_keeps (s.keeps_parts 0x80) (Keep.off_of_and (by decide))).dev_eq]
  · rfl

theorem State.retire_containing (n : Nat) (j : Job) : (s.retire n j).dev.containing = s.dev.containing := by
  rw [State.retire_eq, State.retireTail_dev, State.retireEffect_containing, State.retireHead_dev]

theorem State.complete_containing (n : Nat) (j : Job) : (s.complete n j).dev.containing = s.dev.containing := by
  unfold State.complete
  dsimp only
  split
  · exact s.retire_containing _ _
  · rw [State.modRegion_dev]

theorem State.handBack_containing (n : Nat) (j : Job) : (s.handBack n j).dev.containing = s.dev.containing := by
  unfold State.handBack
  split
  · exact s.complete_containing _ _
  · rw [State.modRegion_dev]

/-- An operation that leaves what is contained leaves it for each element of a list. -/
theorem State.foldl_containing {α : Type} {f : State → α → State} (hf : ∀ a x, (f a x).dev.containing = a.dev.containing)
    (l : List α) : (l.foldl f s).dev.containing = s.dev.containing := by
  induction l generalizing s with
  | nil => rfl
  | cons x l ih => rw [List.foldl_cons, ih, hf]

theorem State.handBackAll_containing (e : Nat) : (s.handBackAll e).dev.containing = s.dev.containing := by
  unfold State.handBackAll
  refine State.foldl_containing s (fun a n => ?_) _
  exact State.foldl_containing a (fun b j => b.handBack_containing n j) _

theorem State.returnJobs_containing (i : PageInfo) : (s.returnJobs i).dev.containing = s.dev.containing := by
  have hclear : (if i.block = .plu then s.clearPlu i.inst else s).dev = s.dev := by
    split
    · exact (State.clearPlu_keeps (s.keeps_parts 0x80) (Keep.off_of_and (by decide))).dev_eq
    · rfl
  unfold State.returnJobs
  dsimp only
  split
  · rw [hclear]
  · rw [State.handBackAll_containing, hclear]

end

/-! ### Fences -/

theorem State.fenceGroup_parts (s : State) (g : Nat) :
    (s.fenceGroup g).mem = s.mem ∧ (s.fenceGroup g).dev = s.dev ∧ (s.fenceGroup g).boot = s.boot :=
  have h := State.fenceGroup_keeps (g := g) (s.keeps_parts 0x400000090) (Keep.off_of_and (by decide))
  ⟨h.mem_eq, h.dev_eq, h.boot_eq⟩

/-- A containment that has begun is listed. -/
theorem State.mem_beginContain (s : State) (level inst : Nat) : (level, inst) ∈ (s.beginContain level inst).dev.containing :=
  List.mem_cons_self

theorem State.not_mem_beginContain {s : State} {level inst : Nat} {x : Nat × Nat} (h : x ∉ s.dev.containing)
    (hx : x ≠ (level, inst)) : x ∉ (s.beginContain level inst).dev.containing := by
  simp [State.beginContain, h, hx]

theorem State.fenceUnit_contains {s : State} {g : Nat} {i : PageInfo} (hi : pageInfo g = some i) :
    (0, g) ∈ (s.fenceUnit g).pinsRefresh.dev.containing := by
  obtain ⟨-, hdev, -⟩ := (s.fenceUnit g).pinsRefresh_parts
  rw [hdev, State.fenceUnit, hi]
  exact State.mem_beginContain _ 0 g

theorem inst_lt {g : Nat} {i : PageInfo} (h : pageInfo g = some i) (hb : i.block = .plu ∨ i.block = .lmp) : i.inst < 32 := by
  obtain ⟨r, hr, hlow, hend, hi⟩ := pageInfoIn_mem h
  have hall : ∀ r ∈ pageRanges, r.2.2 = .plu ∨ r.2.2 = .lmp → r.2.1 ≤ 32 := by decide
  have hcount : r.2.1 ≤ 32 := hall r hr (by rw [hi] at hb; exact hb)
  have hinst : i.inst ≤ g - r.1 := by rw [hi]; exact Nat.div_le_self _ _
  omega

/-- What lies above a unit is a cluster of PLUs or of lamps. -/
theorem pageInfo_clusterOfUnit {g c : Nat} (h : clusterOfUnit g = some c) :
    ∃ k, pageInfo c = some ⟨.plc, k, 0⟩ ∨ pageInfo c = some ⟨.lcl, k, 0⟩ := by
  unfold clusterOfUnit at h
  split at h
  · next k _ hg =>
    have hk : k < 32 := inst_lt hg (.inl rfl)
    obtain rfl := Option.some.inj h
    have hall : ∀ m : Fin 16, pageInfo (pgPLC m) = some ⟨.plc, m, 0⟩ := by decide
    exact ⟨k / 2, .inl (hall ⟨k / 2, by omega⟩)⟩
  · next k _ hg =>
    have hk : k < 32 := inst_lt hg (.inr rfl)
    obtain rfl := Option.some.inj h
    exact ⟨k / 8, .inr (pageInfo_pgLCL ⟨k / 8, by omega⟩)⟩
  · exact absurd h nofun

/-- A cluster that is fenced is contained, and nothing else is that was not before. -/
theorem State.fenceCluster_contains {s : State} {c k : Nat}
    (hc : pageInfo c = some ⟨.plc, k, 0⟩ ∨ pageInfo c = some ⟨.lcl, k, 0⟩) :
    ∃ t : State, (s.fenceCluster c).pinsRefresh.dev = (t.beginContain 1 c).dev ∧ t.dev.containing = s.dev.containing := by
  obtain ⟨-, hdev, -⟩ := (s.fenceCluster c).pinsRefresh_parts
  rw [hdev, State.fenceCluster]
  rcases hc with hc | hc
  · rw [hc]
    refine ⟨_, rfl, ?_⟩
    rw [(State.recordFault_parts _ 1 c).2.1, State.returnJobs_containing, State.returnJobs_containing, (s.fenceGroup_parts c).2.1]
  · rw [hc]
    refine ⟨_, rfl, ?_⟩
    rw [(State.recordFault_parts _ 1 c).2.1, State.returnJobs_containing, (s.fenceGroup_parts c).2.1]

theorem State.fencePackage_parts (s : State) (page : Nat) : (s.fencePackage page).mem = s.mem ∧
    (s.fencePackage page).dev = { s.dev with dieFenced := true, faultN := true, dramValid := false } ∧
    (s.fencePackage page).boot = s.boot := by
  simp only [State.fencePackage, State.pinsRefresh_parts, State.recordFault_parts, State.releaseStile_parts, and_self]

theorem State.fenceRegion_leaves (s : State) (n page : Nat) :
    let t := (s.fenceRegion n page).pinsRefresh
    Tab.get (fun _ => false) t.dev.regionFenced n = true ∧ (2, n) ∈ t.dev.containing ∧ ∀ a, t.byte a = s.byte a := by
  obtain ⟨hmem, hdev, hboot⟩ := (s.fenceRegion n page).pinsRefresh_parts
  have hkeep := State.fenceRegion_keeps (n := n) (page := page) (s.keeps_parts 0x400000010) (Keep.off_of_and (by decide))
  have hhold (a : State) : (a.holdRegion n).dev = a.dev :=
    (State.holdRegion_keeps (a.keeps_parts 0x80) (Keep.off_of_and (by decide))).dev_eq
  refine ⟨?_, ?_, fun a => State.byte_congr (hmem.trans hkeep.mem_eq) (hboot.trans hkeep.boot_eq) a⟩
  · have hbegin (a : State) : (a.beginContain 2 n).dev.regionFenced = a.dev.regionFenced := rfl
    rw [hdev, State.fenceRegion, hbegin, (State.recordFault_parts _ 2 page).2.1, hhold, (State.fenceGroup_parts _ _).2.1,
      (State.fenceGroup_parts _ _).2.1]
    exact Tab.get_set_self (fun _ => false) s.dev.regionFenced n true
  · rw [hdev]
    exact State.mem_beginContain _ 2 n

/-! ### A fault of the system -/

theorem State.pageState_setPageState (s : State) (page n : Nat) : (s.setPageState page n).pageState page = n % 4 := by
  rw [State.pageState, State.fld, State.setPageState_eq, State.reg_setReg_self, bits_putBits_same _ (by decide)]
  rfl

theorem State.fenceGroup_red (s : State) : (s.fenceGroup pgRED).pageState pgRED = 3 := by
  have hlater (l : List Nat) (a : State) :
      (l.foldl (fun a k => a.setPageState (pgRED + 1 + k) 3) a).pageState pgRED = a.pageState pgRED := by
    induction l generalizing a with
    | nil => rfl
    | cons k l ih =>
      have hne : regKey pgRED PAGE_STATUS ≠ regKey (pgRED + 1 + k) PAGE_STATUS := by
        simp only [regKey]; omega
      rw [List.foldl_cons, ih, State.pageState, State.fld, State.setPageState_eq, State.reg_setReg_ne _ _ hne, State.pageState,
        State.fld]
  have hpage : s.fencePage pgRED = s.setPageState pgRED 3 := by simp only [State.fencePage, pageInfo_pgRED]
  simp only [State.fenceGroup, pageInfo_pgRED, hlater, hpage, State.pageState_setPageState]

theorem State.fenceSystem_leaves (s : State) (page : Nat) :
    (s.fenceSystem page).pageState pgRED = 3 ∧ (s.fenceSystem page).red.own = false := by
  have h := (((s.fenceGroup pgRED).releaseStile_released).calm (State.recordFault_calm _ 5 page)).calm (State.pinsRefresh_calm _)
  exact ⟨h.red.trans s.fenceGroup_red, h.own⟩

/-! ### Commands -/

theorem exec_parityError {page : Nat} {i : PageInfo} (hi : pageInfo page = some i) (s : State) :
    exec (.parityError page false) s = .next ((s.fault page F_PARITY).fencePageLevel page) ∧
    exec (.parityError page true) s = .next ((s.fault page F_PARITY).maskedFault page) := by
  have hexec (masked : Bool) : exec (.parityError page masked) s = .next (if (pageInfo page).isSome then
      (if masked then (s.fault page F_PARITY).maskedFault page else (s.fault page F_PARITY).fencePageLevel page) else s) := rfl
  rw [hexec, hexec, hi, Option.isSome_some, if_pos rfl, if_pos rfl, if_neg Bool.false_ne_true, if_pos rfl]
  exact ⟨rfl, rfl⟩

/-- A fault at a die-level page fences its group, hands back its jobs and fences the die. -/
theorem State.fencePageLevel_die {s : State} {page : Nat} {i : PageInfo} (hi : pageInfo page = some i) (hl : i.block.level = 3) :
    s.fencePageLevel page = ((s.fenceGroup (groupOf page)).returnJobs i).fenceDie page := by
  simp only [State.fencePageLevel, hi, hl]

/-- A unit without jobs hands none back. -/
theorem State.returnJobs_of_none (s : State) {i : PageInfo} (h : executorOf i = 127) (hb : i.block ≠ .plu) : s.returnJobs i = s := by
  simp only [State.returnJobs, h, hb, if_true, if_false]

theorem State.fencePageLevel_die_leaves {s : State} {page : Nat} {i : PageInfo} (hi : pageInfo page = some i)
    (hl : i.block.level = 3) :
    (s.fencePageLevel page).dev.dieFenced = true ∧ (s.fencePageLevel page).dev.faultN = true ∧
      (executorOf i = 127 → ∀ a, (s.fencePageLevel page).byte a = s.byte a) := by
  obtain ⟨hfmem, hfdev, hfboot⟩ := ((s.fenceGroup (groupOf page)).returnJobs i).fenceDie_parts page
  obtain ⟨hgmem, -, hgboot⟩ := s.fenceGroup_parts (groupOf page)
  have hplu : i.block ≠ .plu := fun hb => absurd (hb ▸ hl) (by decide)
  rw [State.fencePageLevel_die hi hl]
  refine ⟨by rw [hfdev], by rw [hfdev], fun he a => ?_⟩
  rw [State.returnJobs_of_none _ he hplu] at hfmem hfboot ⊢
  exact State.byte_congr (hfmem.trans hgmem) (hfboot.trans hgboot) a

theorem State.fencePageLevel_system {s : State} {page : Nat} {i : PageInfo} (hi : pageInfo page = some i) (hl : i.block.level = 5) :
    s.fencePageLevel page = s.fenceSystem page := by
  simp only [State.fencePageLevel, hi, hl]

/-- The state in which a containment is no longer listed. -/
def State.endContain (s : State) (x : Nat × Nat) : State :=
  { s with dev := { s.dev with containing := s.dev.containing.filter (· != x) } }

theorem State.not_mem_endContain (s : State) (x : Nat × Nat) : x ∉ (s.endContain x).dev.containing := by
  simp [State.endContain]

theorem exec_containmentTimeout_unit {s : State} {g c : Nat} (h : (0, g) ∈ s.dev.containing) (hc : clusterOfUnit g = some c) :
    exec (.containmentTimeout 0 g) s = .next (((s.endContain (0, g)).fenceCluster c).pinsRefresh) := by
  have hexec : exec (.containmentTimeout 0 g) s = .next (s.containLate 0 g) := rfl
  have hlisted : s.dev.containing.contains (0, g) = true := List.contains_iff_mem.2 h
  rw [hexec, State.containLate, hlisted, Bool.not_true, if_neg Bool.false_ne_true]
  simp only [hc]
  rfl

theorem exec_containmentTimeout_region {s : State} {n : Nat} (h : (2, n) ∈ s.dev.containing) :
    exec (.containmentTimeout 2 n) s = .next ((s.endContain (2, n)).fenceDie (pgJSC n)) := by
  have hexec : exec (.containmentTimeout 2 n) s = .next (s.containLate 2 n) := rfl
  have hlisted : s.dev.containing.contains (2, n) = true := List.contains_iff_mem.2 h
  rw [hexec, State.containLate, hlisted, Bool.not_true, if_neg Bool.false_ne_true]
  rfl

theorem exec_dramEccError {s : State} (h : s.aclkRuns = true) : exec (.dramEccError true) s = .next (s.count 1408 1) ∧
    exec (.dramEccError false) s = .next (s.fencePackage pgSYS) := by
  have hexec (corrected : Bool) : exec (.dramEccError corrected) s
      = .next (if !s.aclkRuns then s else if corrected then s.count 1408 1 else s.fencePackage pgSYS) := rfl
  rw [hexec, hexec, h, Bool.not_true, if_neg Bool.false_ne_true, if_neg Bool.false_ne_true, if_pos rfl, if_neg Bool.false_ne_true]
  exact ⟨rfl, rfl⟩

theorem exec_sramEccError {s : State} (h : s.aclkRuns = true) (n : Fin 4) :
    (∀ masked, exec (.sramEccError n true masked) s = .next (s.count (1024 + 48 * n.val + 7) 1)) ∧
    exec (.sramEccError n false true) s = .next (s.recordFault 2 (pgJSC n.val)) ∧
    exec (.sramEccError n false false) s = .next (s.fenceRegion n.val (pgJSC n.val)).pinsRefresh := by
  have hexec (corrected masked : Bool) : exec (.sramEccError n corrected masked) s = .next (if !s.aclkRuns then s
      else if corrected then s.count (1024 + 48 * n.val + 7) 1
      else if masked then s.recordFault 2 (pgJSC n.val) else (s.fenceRegion n.val (pgJSC n.val)).pinsRefresh) := rfl
  simp only [hexec, h, Bool.not_true, Bool.false_eq_true, if_false, if_true, implies_true, and_self]

end Sys2Proof.Machine

open Sys2Proof Sys2Proof.Machine

/-- Settles O10: a fault at each level by what its fence leaves, and a containment that overruns by the fence of the level above. -/
theorem faultsAreContained : Obligations.FaultsAreContained := by
  refine ⟨fun s page i hi => ?_, fun s => ?_, fun s g c hmem hc => ?_, fun s n hmem => ?_, fun s h => ?_, fun s n h => ?_⟩
  · obtain ⟨hfence, hmasked⟩ := exec_parityError hi s
    refine ⟨hfence, hmasked, fun hl => ⟨_, hfence, ?_⟩, fun hl => ⟨_, hfence, ?_⟩, fun hl => ⟨_, hfence, ?_⟩⟩
    · simp only [State.fencePageLevel, hi, hl]
      exact State.fenceUnit_contains (pageInfo_groupOf hi)
    · obtain ⟨hdie, hpin, hbyte⟩ := State.fencePageLevel_die_leaves (s := s.fault page F_PARITY) hi hl
      obtain ⟨hmem, -, hboot⟩ := s.fault_parts page F_PARITY
      exact ⟨hdie, hpin, fun he a => (hbyte he a).trans (State.byte_congr hmem hboot a)⟩
    · rw [State.fencePageLevel_system hi hl]
      exact (s.fault page F_PARITY).fenceSystem_leaves page
  · obtain ⟨hfmem, hfdev, hfboot⟩ := s.fenceDie_parts pgSYS
    exact ⟨s.fenceDie pgSYS, rfl, by rw [hfdev], by rw [hfdev], State.byte_congr hfmem hfboot⟩
  · obtain ⟨k, hk⟩ := pageInfo_clusterOfUnit hc
    obtain ⟨t, hdev, hsame⟩ := State.fenceCluster_contains (s := s.endContain (0, g)) hk
    refine ⟨_, exec_containmentTimeout_unit hmem hc, ?_, ?_⟩
    · rw [hdev]
      exact t.mem_beginContain 1 c
    · rw [hdev]
      exact State.not_mem_beginContain (by rw [hsame]; exact s.not_mem_endContain _) (by simp)
  · obtain ⟨-, hfdev, -⟩ := (s.endContain (2, n)).fenceDie_parts (pgJSC n)
    refine ⟨_, exec_containmentTimeout_region hmem, by rw [hfdev], ?_⟩
    rw [hfdev]
    exact s.not_mem_endContain (2, n)
  · obtain ⟨hcount, hfence⟩ := exec_dramEccError h
    obtain ⟨hpmem, hpdev, hpboot⟩ := s.fencePackage_parts pgSYS
    exact ⟨hcount, _, hfence, by rw [hpdev], by rw [hpdev], by rw [hpdev], State.byte_congr hpmem hpboot⟩
  · obtain ⟨hcount, hmasked, hfence⟩ := exec_sramEccError h n
    exact ⟨hcount, hmasked, _, hfence, s.fenceRegion_leaves n.val (pgJSC n.val)⟩

end

section
/-!
The refutation of O7. A timeline capture at the end of an entry into Heath stores the register image, and the register-image part
of FeRAM reads from it at once, while the command lists no memory among its parts.
-/
set_option Elab.async false
namespace Sys2Proof.Machine

/-- The first byte of the register-image part of FeRAM. -/
def imageStart : Nat := FERAM_BASE + 0x0F00000

/-- Right after reset, but an entry into Heath is past step 4, and memory lists `m`. -/
def heathEntry (m : Tab Byte) : State :=
  { State.reset with mem := m, pwr := { State.reset.pwr with phase := .released, target := 3 } }

/-- The same behind the capture. -/
def heathCaptured (m : Tab Byte) : State := (heathEntry m).entryCapture 0

/-- Before an image is stored, the part reads what memory lists. -/
theorem State.byte_of_not_stored {s : State} (h : s.boot.stored = false) (a : Nat) : s.byte a = Tab.get memDefault s.mem a := by
  simp [State.byte, h]

/-- Once an image is stored, the part reads from it alone. -/
theorem State.byte_of_stored {s : State} (h : s.boot.stored = true) :
    s.byte imageStart = Config.imageByte s.boot.image.live s.boot.image.shadow 0 := by
  have himage : (isImage imageStart && s.boot.stored) = true := by rw [h]; decide
  have hfirst : imageStart - (FERAM_BASE + 0x0F00000) = 0 := Nat.sub_self _
  unfold State.byte
  rw [if_pos himage, hfirst]

/-- What is captured does not depend on a byte that memory lists in the image part. -/
theorem heathCaptured_byte : (heathCaptured [(imageStart, 1)]).byte imageStart = (heathCaptured []).byte imageStart := by
  have hstored : (heathCaptured []).boot.stored = true := by decide +kernel
  have hstored1 : (heathCaptured [(imageStart, 1)]).boot.stored = true := by decide +kernel
  have hlive : (heathCaptured [(imageStart, 1)]).boot.image.live = (heathCaptured []).boot.image.live := by decide +kernel
  have hshadow : (heathCaptured [(imageStart, 1)]).boot.image.shadow = (heathCaptured []).boot.image.shadow := by decide +kernel
  rw [State.byte_of_stored hstored, State.byte_of_stored hstored1, hlive, hshadow]

end Sys2Proof.Machine

open Sys2Proof Sys2Proof.Machine

/-- Refutes O7: of two states that differ in the first byte of the register-image part, 0 and 1, a timeline capture that stores
the image makes states in which that byte reads the same, so it changed in one of them, and `timelineCapture` lists no memory. -/
theorem not_commandsChangeOnlyTheirParts : ¬ Obligations.CommandsChangeOnlyTheirParts := by
  intro h
  have hbyte (m : Tab Byte) : (heathCaptured m).byte imageStart = (heathEntry m).byte imageStart :=
    (h (.timelineCapture 0) (heathEntry m) (heathCaptured m) rfl).2.1 (by decide) imageStart
  have hsame : (heathEntry [(imageStart, 1)]).byte imageStart = (heathEntry []).byte imageStart := by
    rw [← hbyte, ← hbyte, heathCaptured_byte]
  rw [State.byte_of_not_stored rfl, State.byte_of_not_stored rfl] at hsame
  exact absurd hsame (by decide)
end

section
/-!
The start of a part whose ICU asks for a RESET_SCOPE that R56 does not have, and O50.
-/
set_option Elab.async false
namespace Sys2Proof.Machine

/-- A part before its start whose ICU page holds RESET_SCOPE 6, and in FeRAM no image in any slot. -/
def scopedIcu : State := { State.reset with
  live := [(regKey pgICU PAGE_CTRL, 0x60)]
  mem := [(slotBase 0, 0), (slotBase 0 + 1, 0), (slotBase 0 + 2, 0), (slotBase 0 + 3, 0)] }

theorem State.bytes_of_zero {s : State} {a n : Nat} (h : ∀ i, i < n → s.byte (a + i) = 0) : s.bytes a n = List.replicate n 0 := by
  induction n generalizing a with
  | zero => rfl
  | succ n ih =>
    have htail : ∀ i, i < n → s.byte (a + 1 + i) = 0 := fun i hi => by
      rw [Nat.add_assoc, Nat.add_comm 1 i]; exact h (i + 1) (by omega)
    rw [State.bytes, ih htail, List.replicate_succ]
    exact congrArg (· :: _) (h 0 (by omega))

/-- Without a record of a calibration the scan finds none. -/
theorem State.newestHistory_of_invalid {s : State} {n : Nat} (h : ∀ k, k < n → historyValid (s.bytes (historyAt k) 256) = false) :
    s.newestHistory n = none := by
  induction n with
  | zero => rfl
  | succ n ih =>
    rw [State.newestHistory, ih fun k hk => h k (by omega)]
    simp only [h n (by omega), Bool.false_eq_true, if_false]

/-- The state that step 3 scans for calibration records. -/
def State.beforeScan (s : State) : State :=
  ((((s.setNat pgSYS Sys.RESET_CAUSE s.boot.cause).modBoot (fun b => { b with cause := 0 })).romEnable pgICU).setReg pgSYS
    Sys.WDT_CTRL (BitVec.ofNat 32 (2 ^ 31 + 2000))).wdtRestart

theorem State.bootRom_eq (s : State) :
    s.bootRom = (s.beforeScan.calLoad (s.beforeScan.newestHistory 4096)).romEnable pgEVR := rfl

theorem scopedIcu_scanned : scopedIcu.beforeScan.mem = scopedIcu.mem ∧ scopedIcu.beforeScan.boot.stored = false := by
  decide +kernel

/-- Nothing has been written behind the Golden slot. -/
theorem scopedIcu_byte {a : Nat} (h : slotBase 1 ≤ a) : scopedIcu.beforeScan.byte a = 0 := by
  obtain ⟨hmem, hstored⟩ := scopedIcu_scanned
  have hdefault : memDefault a = 0 := by
    have hnot : ¬ (FERAM_BASE ≤ a ∧ a < 0x0001400000) := fun hin => Nat.not_lt.2 h hin.2
    rw [memDefault, if_neg hnot]
  rw [State.byte, hstored, Bool.and_false, if_neg Bool.false_ne_true, hmem]
  simp [scopedIcu, Tab.get, hdefault]

theorem scopedIcu_history : scopedIcu.beforeScan.newestHistory 4096 = none := by
  refine State.newestHistory_of_invalid fun k _ => ?_
  have hzero : scopedIcu.beforeScan.bytes (historyAt k) 256 = List.replicate 256 0 := by
    refine State.bytes_of_zero fun i _ => scopedIcu_byte ?_
    have : slotBase 1 ≤ FERAM_BASE + 0x0E00000 := by decide
    simp only [historyAt]; omega
  rw [hzero]
  decide

theorem scopedIcu_start :
    ((((scopedIcu.beforeScan.calLoad none).romEnable pgEVR).slotChecks.setStep 5).startRoot).enabled pgICU = false := by
  decide +kernel

/-- The start of a part without a calibration record. -/
theorem State.startSequence_eq {s : State} (hclk : s.aclkRuns = true) (hstep : s.startStep ≤ 2)
    (hscan : s.beforeScan.newestHistory 4096 = none) :
    s.startSequence = (((s.beforeScan.calLoad none).romEnable pgEVR).slotChecks.setStep 5).startRoot := by
  rw [State.startSequence, hclk, Bool.not_true, if_neg Bool.false_ne_true, if_pos hstep, State.bootRom_eq, hscan]

theorem exec_startSequence (s : State) : exec .startSequence s = .next s.startSequence := rfl

/-- The boot ROM's write of ENABLE is one more write of a page whose RESET_SCOPE is out of range, so it is dropped. -/
theorem scopedIcu_startSequence : ∃ t, exec .startSequence scopedIcu = .next t ∧ t.enabled pgICU = false :=
  ⟨_, (exec_startSequence _).trans (congrArg _ (State.startSequence_eq (by decide +kernel) (by decide +kernel) scopedIcu_history)),
    scopedIcu_start⟩

end Sys2Proof.Machine

open Sys2Proof Sys2Proof.Machine

/-- Refutes O50: the first clause asks nothing of the RESET_SCOPE that the pages of ICU and EVR hold, and where it is out of range
the boot ROM cannot enable the page. -/
theorem not_startsAndSystemStates : ¬ Obligations.StartsAndSystemStates := by
  rintro ⟨hstart, -⟩
  obtain ⟨t, hexec, -, -, henabled, -⟩ := hstart scopedIcu (by decide +kernel) (by decide +kernel) (by decide +kernel)
    (by decide +kernel) (by decide +kernel)
  obtain ⟨u, hnext, hoff⟩ := scopedIcu_startSequence
  obtain rfl := Host.Outcome.next.inj (hnext.symm.trans hexec)
  exact Bool.false_ne_true (hoff.symm.trans henabled)

end

section
/-!
The state after reset, and O4.
-/
open Sys2Proof Sys2Proof.Machine

/-- Settles O4: every table of the state after reset is empty, which is its canonical form. -/
theorem resetIsSound : Obligations.ResetIsSound :=
  ⟨⟨rfl, rfl, rfl, rfl⟩, rfl⟩

end

section
/-!
Writes that are dropped by a rule of their address or of an ARMED group (R51, R65, R67), and O54 and O55.
-/
set_option Elab.async false
namespace Sys2Proof.Machine

/-! ### A register write as a write of its page -/

/-- A 32-bit write at the address of a register is a write of that register on its page (R49). -/
theorem exec_registerWrite_page {page off : Nat} {i : PageInfo} (hi : pageInfo page = some i) (ho : off < 0x1000) (s : State)
    (r : Requester) (v : Word) : exec (.registerWrite r (regKey page off) 4 (v.setWidth 64)) s = .next (s.busWrite r page off v) := by
  have hpage := pageInfo_lt hi
  have hnum : regKey page off / 0x1000 = page ∧ regKey page off % 0x1000 = off := by
    simp only [regKey]; omega
  have hlow : ¬ 0x400000 ≤ regKey page off := by simp only [regKey]; omega
  have hwindow : ¬ 0x4000000 ≤ regKey page off := by omega
  have hword : (v.setWidth 64).setWidth 32 = v := by simp
  have hexec : exec (.registerWrite r (regKey page off) 4 (v.setWidth 64)) s
      = .next (s.busWriteAt r s.tln.now (regKey page off) 4 (v.setWidth 64)) := rfl
  rw [hexec]
  simp only [State.busWriteAt, State.busWrite, hnum, hword, hwindow, hlow, decide_false, Bool.and_false, Bool.false_eq_true, if_false,
    Nat.reduceEqDiff, if_true]
  by_cases hclk : s.aclkRuns = true
  · rw [State.access_eq hclk, State.access_eq hclk, State.counted_tln]
  · rw [State.access, State.access, if_neg hclk, if_neg hclk]

/-! ### Dropped writes -/

theorem State.aclkRuns_of_reaches {s : State} {page : Nat} (h : s.reaches page = true) : s.aclkRuns = true := by
  simp only [State.reaches, Bool.and_eq_true] at h
  exact h.1

theorem State.isResetting_of_reaches {s : State} {page : Nat} (h : s.reaches page = true) : s.counted.isResetting page = false := by
  simp only [State.reaches, Bool.and_eq_true, Bool.not_eq_true'] at h
  exact h.2

/-- A write that some rule drops sets the bit of each such rule, on the counted state, and does nothing else. -/
theorem State.busWrite_dropped {s : State} {r : Requester} {page off : Nat} {i : PageInfo} {l : List Nat}
    (h : s.reaches page = true) (hi : pageInfo page = some i) (hrep : s.counted.replicaWrite r page off = false)
    (hden : s.counted.writeDenied i page off = l) (hl : l ≠ []) (v : Word) :
    s.busWrite r page off v = l.foldl (fun a n => a.fault page n) s.counted := by
  subst hden
  rw [State.busWrite, State.access_eq (State.aclkRuns_of_reaches h)]
  simp [State.pageWrite, State.writeDropped, hi, hrep, hl]

/-! ### Aliases of no SC register -/

section
variable {s : State} {r : Requester} {page off : Nat} {i : PageInfo}

theorem State.writeDenied_alias (hoff : 0x800 ≤ off) (hsc : isSc i (off % 0x400) = false) (hreset : s.isResetting page = false) :
    s.writeDenied i page off = [F_ACCESS] := by
  have hnot : ¬ off < 0x800 := by omega
  simp [State.writeDenied, hreset, hoff, hsc, hnot]

theorem State.busWrite_alias (h : s.reaches page = true) (hi : pageInfo page = some i) (hoff : 0x800 ≤ off)
    (hsc : isSc i (off % 0x400) = false) (hrep : s.counted.replicaWrite r page off = false) (v : Word) :
    s.busWrite r page off v = s.counted.fault page F_ACCESS :=
  State.busWrite_dropped h hi hrep (State.writeDenied_alias hoff hsc (State.isResetting_of_reaches h)) (List.cons_ne_nil _ _) v

/-- The registers whose reads queues guard lie below the aliases. -/
theorem queueReadDenied_alias (hoff : 0x800 ≤ off) : queueReadDenied r page off = none := by
  have hbehind : off < 0x100 ∨ 0x200 ≤ off := by omega
  unfold queueReadDenied
  split
  · dsimp only
    split
    · rfl
    · rw [if_pos hbehind]
  · rfl

theorem State.readFor_alias (hi : pageInfo page = some i) (hoff : 0x800 ≤ off) (hsc : isSc i (off % 0x400) = false) :
    s.readFor r page off = 0 := by
  have hclaim : ¬ off < 0x500 := by omega
  have hbase : baseOff i off = none := by
    rw [baseOff, if_neg (by omega)]
    simp [hsc]
  simp [State.readFor, hclaim, queueReadDenied_alias hoff, State.readValue, hi, hbase]

/-- What PRESENCE_N reads decides neither whether a write reaches its page nor whether the page is a replica. -/
theorem State.reaches_presence (s : State) (low : Bool) (page : Nat) : (s.presence low).reaches page = s.reaches page := by
  have hdev : (s.presence low).counted.dev.resetting = s.counted.dev.resetting := by
    rw [(s.presence low).counted_same.dev, s.counted_same.dev, State.presence]
  rw [State.reaches, State.reaches, State.isResetting, State.isResetting, hdev]
  rfl

theorem State.replicaWrite_counted (s : State) (r : Requester) (page off : Nat) :
    s.counted.replicaWrite r page off = s.replicaWrite r page off := by
  have hregs (o : Nat) (ho : countKey (regKey pgRED o) = false) : s.counted.reg pgRED o = s.reg pgRED o := s.counted_same.reg ho
  simp only [State.replicaWrite, State.isStandby, State.stileHeld, State.detached, State.sts, State.fld,
    hregs PAGE_STATUS (by decide), hregs Red.PAIR_STATE (by decide)]

theorem State.replicaWrite_presence (s : State) (low : Bool) (r : Requester) (page off : Nat) :
    (s.presence low).counted.replicaWrite r page off = s.counted.replicaWrite r page off := by
  rw [State.replicaWrite_counted, State.replicaWrite_counted]
  rfl

/-- Hardware sets bits in the cycle of a clear in SC registers alone. -/
theorem State.sameCycle_of_not_sc (hi : pageInfo page = some i) (hsc : isSc i off = false) (v : Word) (captured : List (Nat × Word)) :
    s.sameCycle page off v captured = s := by
  simp [State.sameCycle, hi, hsc]

end

/-! ### Shadowed registers of an ARMED group -/

theorem State.writeDenied_armed {s : State} {page off : Nat} {i : PageInfo} {w : RegRow} (hlow : 0x20 ≤ off) (hhigh : off < 0x800)
    (hrow : rowAt i off = some w) (hshadowed : isShadowed i off = true) (hreset : s.isResetting page = false)
    (harmed : (s.armOf (groupOf page)).on = true) : s.writeDenied i page off
      = (if w.cls = .stopOnly ∧ s.active page = true then [F_MODE_BUSY] else []) ++ [F_ARMED_WRITE] := by
  have hnot : ¬ 0x800 ≤ off := by omega
  simp [State.writeDenied, hreset, hlow, hhigh, hnot, hrow, hshadowed, harmed]

theorem State.armGroup_of_armed {u : State} {g : Nat} (h : (u.armOf g).on = true) (since : Nat) : u.armGroup g since = u := by
  unfold State.armGroup
  split
  · rfl
  · rw [if_pos (.inr h)]

end Sys2Proof.Machine

open Sys2Proof Sys2Proof.Machine

/-- Settles O54: at such an address no register is read, and R51 is the one rule that drops the write. -/
theorem aliasesWithoutARegisterReadZero : Obligations.AliasesWithoutARegisterReadZero := by
  intro s r page off i v hi hoff hend hsc
  refine ⟨State.readFor_alias hi hoff hsc, fun hreach hrep => ⟨?_, fun hset => ?_, fun hclr hwSet captured low => ?_⟩⟩
  · rw [exec_registerWrite_page hi hend, State.busWrite_alias hreach hi hoff hsc hrep]
  · have hexec : exec (.setAliasWrite r page (off - 0x800) v) s = .next (s.busWrite r page (0x800 + (off - 0x800)) v) := rfl
    rw [hexec, Nat.add_sub_cancel' hoff, State.busWrite_alias hreach hi hoff hsc hrep]
  · have hexec : exec (.clrAliasWrite r page (off - 0xC00) v hwSet captured low) s
        = .next (((s.presence low).busWrite r page (0xC00 + (off - 0xC00)) v).sameCycle page (off - 0xC00) hwSet captured) := rfl
    have hbase : off - 0xC00 = off % 0x400 := by omega
    rw [hexec, State.sameCycle_of_not_sc hi (hbase ▸ hsc), Nat.add_sub_cancel' hclr, State.busWrite_alias
      ((s.reaches_presence low page).trans hreach) hi hoff hsc ((s.replicaWrite_presence low r page off).trans hrep)]

/-- Settles O55: the rules that drop the write, by the row of the register, and an ARM that finds ARMED 1. -/
theorem armedGroupsKeepTheirShadows : Obligations.ArmedGroupsKeepTheirShadows := by
  refine ⟨?_, ?_⟩
  · intro s r page off i w v hlow hhigh hi hrow hshadowed hreach hrep harmed
    have hdenied := State.writeDenied_armed hlow hhigh hrow hshadowed (State.isResetting_of_reaches hreach) harmed
    rw [exec_registerWrite_page hi (by omega), State.busWrite_dropped hreach hi hrep hdenied (by simp)]
    split <;> rfl
  · intro s r page i hi h u harmed
    rw [exec_arm h hi, State.armGroup_of_armed harmed]

end

section
/-!
The commit point of a group and writes of one copy (R60, R62, R64), and O53.
-/
set_option Elab.async false
namespace Sys2Proof.Machine

/-! ### Keys and tables -/

theorem regKey_eq_iff {p q o x : Nat} (ho : o < 0x1000) (hx : x < 0x1000) : regKey p o = regKey q x ↔ p = q ∧ o = x := by
  simp only [regKey]; omega

/-- A register belongs to a group where its page does. -/
theorem inGroup_iff_mem {g p off : Nat} (ho : off < 0x1000) : inGroup g (regKey p off) = true ↔ p ∈ groupPages g := by
  have hpage : regKey p off / 0x1000 = p := by simp only [regKey]; omega
  simp only [inGroup, hpage, groupPages, List.mem_map, List.mem_range, Bool.and_eq_true, decide_eq_true_eq]
  exact ⟨fun h => ⟨p - g, by omega, by omega⟩, by rintro ⟨n, hn, rfl⟩; omega⟩

theorem nodup_groupPages (g : Nat) : (groupPages g).Nodup :=
  List.nodup_range.map fun _ _ h => Nat.add_left_cancel h

/-- Of the default of a table, a look-up uses no more than what it holds at the key. -/
theorem Tab.get_congr {α : Type} {d e : Nat → α} {k : Nat} (h : d k = e k) (t : Tab α) : Tab.get d t k = Tab.get e t k := by
  induction t with
  | nil => exact h
  | cons x t ih =>
    obtain ⟨j, v⟩ := x
    rw [Tab.get, Tab.get, ih]

/-! ### Writes of one copy -/

theorem State.shd_setShd (s : State) (p off : Nat) (v : Word) (q o : Nat) :
    (s.setShd p off v).shd q o = if regKey q o = regKey p off then v else s.shd q o := Tab.get_set _ _ _ _ _

theorem State.shd_setReg_ne (s : State) {p off q o : Nat} (v : Word) (h : regKey q o ≠ regKey p off) :
    (s.setReg p off v).shd q o = s.shd q o := by
  have hlive : Tab.get resetVal (s.setReg p off v).live (regKey q o) = Tab.get resetVal s.live (regKey q o) := Tab.get_set_ne _ _ _ h
  have hshadow : (s.setReg p off v).shadow = if s.shd p off = v then Tab.erase s.shadow (regKey p off) else s.shadow := rfl
  rw [State.shd, Tab.get_congr hlive, hshadow, State.shd]
  split
  · exact Tab.get_erase_ne _ _ h
  · rfl

/-! ### The shadows become live -/

/-- Every listed shadow is live; what is not listed keeps its live value. -/
theorem State.live_copyShadows (s : State) (t : Tab Word) (k : Nat) :
    Tab.get resetVal (s.copyShadows t).live k = Tab.get (fun j => Tab.get resetVal s.live j) t k := by
  induction t with
  | nil => rfl
  | cons e t ih =>
    obtain ⟨j, v⟩ := e
    rw [State.copyShadows, Tab.get_set, Tab.get, ih]
    simp only [eq_comm]

/-- The group's shadows have been copied and are listed no longer. -/
def State.groupCopied (s : State) (g : Nat) : State :=
  { s.copyShadows (Tab.keep (fun k => inGroup g k) s.shadow) with shadow := Tab.keep (fun k => !inGroup g k) s.shadow }

theorem State.reg_groupCopied (s : State) (g p off : Nat) :
    (s.groupCopied g).reg p off = if inGroup g (regKey p off) then s.shd p off else s.reg p off := by
  rw [State.reg, State.groupCopied, State.live_copyShadows, Tab.get_keep]
  rfl

/-- A shadow that was copied reads as the live copy does now, so every shadow reads as before. -/
theorem State.shd_groupCopied (s : State) (g p off : Nat) : (s.groupCopied g).shd p off = s.shd p off := by
  have hlisted : (s.groupCopied g).shadow = Tab.keep (fun k => !inGroup g k) s.shadow := rfl
  have hlive := s.reg_groupCopied g p off
  rw [State.shd, hlisted, Tab.get_keep]
  cases hin : inGroup g (regKey p off) with
  | true =>
    rw [hin] at hlive
    exact hlive
  | false =>
    rw [hin] at hlive
    exact Tab.get_congr (k := regKey p off) hlive s.shadow

/-! ### The pages of the group are told -/

/-- A page's epoch advances and APPLIED is set. -/
def State.pageApplied (s : State) (p : Nat) : State := (s.inc p PAGE_EPOCH).setFlag p PAGE_STATUS 4 true

theorem State.applyShadows_eq (s : State) (g : Nat) :
    s.applyShadows g = ((groupPages g).foldl State.pageApplied (s.groupCopied g)).setArm g Arm.idle := by
  rw [groupPages, List.foldl_map]
  rfl

/-- Nothing of other pages changes, and nothing of the page behind its header. -/
theorem State.pageApplied_leaves (s : State) {p q off : Nat} (ho : off < 0x1000) (h : q = p → 0x20 ≤ off) :
    (s.pageApplied p).reg q off = s.reg q off ∧ (s.pageApplied p).shd q off = s.shd q off := by
  have hepoch : regKey q off ≠ regKey p PAGE_EPOCH := by
    rw [Ne, regKey_eq_iff ho (by decide)]; simp only [PAGE_EPOCH]; omega
  have hstatus : regKey q off ≠ regKey p PAGE_STATUS := by
    rw [Ne, regKey_eq_iff ho (by decide)]; simp only [PAGE_STATUS]; omega
  rw [State.pageApplied, State.inc_eq, State.setFlag_eq, State.reg_setReg_ne _ _ hstatus, State.reg_setReg_ne _ _ hepoch,
    State.shd_setReg_ne _ _ hstatus, State.shd_setReg_ne _ _ hepoch]
  exact ⟨rfl, rfl⟩

theorem State.epoch_pageApplied (s : State) (p : Nat) : (s.pageApplied p).reg p PAGE_EPOCH = s.reg p PAGE_EPOCH + 1 := by
  rw [State.pageApplied, State.inc_eq, State.setFlag_eq, State.reg_setReg_ne _ _ (by simp [PAGE_EPOCH, PAGE_STATUS]),
    State.reg_setReg_self]

theorem State.applied_pageApplied (s : State) (p : Nat) : (s.pageApplied p).flag p PAGE_STATUS 4 = true := by
  simp [State.pageApplied, State.flag, bit_setBit]

section
variable {l : List Nat} {q off : Nat}

theorem State.foldl_pageApplied_leaves (s : State) (ho : off < 0x1000) (h : q ∈ l → 0x20 ≤ off) :
    (l.foldl State.pageApplied s).reg q off = s.reg q off ∧ (l.foldl State.pageApplied s).shd q off = s.shd q off := by
  induction l generalizing s with
  | nil => exact ⟨rfl, rfl⟩
  | cons p l ih =>
    obtain ⟨hreg, hshd⟩ := s.pageApplied_leaves (p := p) ho fun hq => h (hq ▸ List.mem_cons_self)
    obtain ⟨ihreg, ihshd⟩ := ih (s.pageApplied p) fun hq => h (List.mem_cons_of_mem p hq)
    exact ⟨ihreg.trans hreg, ihshd.trans hshd⟩

/-- Each page of a list without repetitions is told once: before it and after it, others are. -/
theorem State.foldl_pageApplied_once (s : State) (hl : l.Nodup) (hq : q ∈ l) : ∃ a : State,
    (∀ o, o < 0x1000 → a.reg q o = s.reg q o) ∧
    ∀ o, o < 0x1000 → (l.foldl State.pageApplied s).reg q o = (a.pageApplied q).reg q o := by
  induction l generalizing s with
  | nil => cases hq
  | cons p l ih =>
    obtain ⟨hp, hrest⟩ := List.nodup_cons.1 hl
    by_cases hpq : q = p
    · subst hpq
      exact ⟨s, fun _ _ => rfl, fun o ho => ((s.pageApplied q).foldl_pageApplied_leaves ho fun h => absurd h hp).1⟩
    · obtain ⟨a, hbefore, hafter⟩ := ih (s.pageApplied p) hrest (List.mem_of_ne_of_mem hpq hq)
      exact ⟨a, fun o ho => (hbefore o ho).trans (s.pageApplied_leaves ho fun h => absurd h hpq).1, hafter⟩

theorem State.foldl_pageApplied_armed (s : State) : (l.foldl State.pageApplied s).armed = s.armed := by
  induction l generalizing s with
  | nil => rfl
  | cons p l ih => rw [List.foldl_cons, ih, State.pageApplied, State.inc_eq, State.setFlag_eq, State.setReg_armed, State.setReg_armed]

end

/-! ### The commit point -/

section
variable (s : State) {g p off : Nat}

/-- Behind the headers a commit point copies the group's shadows and nothing else; no shadow changes. -/
theorem State.applyShadows_copies (hlow : 0x20 ≤ off) (hhigh : off < 0x1000) :
    (s.applyShadows g).reg p off = (if inGroup g (regKey p off) then s.shd p off else s.reg p off) ∧
    (s.applyShadows g).shd p off = s.shd p off := by
  obtain ⟨hreg, hshd⟩ := (s.groupCopied g).foldl_pageApplied_leaves (l := groupPages g) (q := p) hhigh fun _ => hlow
  rw [State.applyShadows_eq]
  exact ⟨hreg.trans (s.reg_groupCopied g p off), hshd.trans (s.shd_groupCopied g p off)⟩

theorem State.applyShadows_outside (ho : off < 0x1000) (hout : inGroup g (regKey p off) = false) :
    (s.applyShadows g).reg p off = s.reg p off ∧ (s.applyShadows g).shd p off = s.shd p off := by
  have hpage : p ∉ groupPages g := fun hp => Bool.false_ne_true (hout.symm.trans ((inGroup_iff_mem ho).2 hp))
  obtain ⟨hreg, hshd⟩ := (s.groupCopied g).foldl_pageApplied_leaves ho fun h => absurd h hpage
  have hcopied : (s.groupCopied g).reg p off = s.reg p off := by rw [State.reg_groupCopied, hout]; rfl
  rw [State.applyShadows_eq]
  exact ⟨hreg.trans hcopied, hshd.trans (s.shd_groupCopied g p off)⟩

/-- The header of a page of the group: its epoch counts from the shadow that became live, and APPLIED reads 1. -/
theorem State.applyShadows_header (hin : inGroup g (regKey p 0) = true) :
    (s.applyShadows g).reg p PAGE_EPOCH = s.shd p PAGE_EPOCH + 1 ∧ (s.applyShadows g).flag p PAGE_STATUS 4 = true := by
  have hmem : p ∈ groupPages g := (inGroup_iff_mem (by decide)).1 hin
  have hkey : inGroup g (regKey p PAGE_EPOCH) = true := (inGroup_iff_mem (by decide)).2 hmem
  obtain ⟨a, hbefore, hafter⟩ := (s.groupCopied g).foldl_pageApplied_once (nodup_groupPages g) hmem
  have hread (o : Nat) (ho : o < 0x1000) : (s.applyShadows g).reg p o = (a.pageApplied p).reg p o := by
    rw [State.applyShadows_eq, State.reg_setArm, hafter o ho]
  constructor
  · rw [hread _ (by decide), State.epoch_pageApplied, hbefore _ (by decide), State.reg_groupCopied, if_pos hkey]
  · rw [State.flag, hread _ (by decide)]
    exact a.applied_pageApplied p

/-- ARMED of the group ends; that of other groups stays. -/
theorem State.armOf_applyShadows (h : Nat) : (s.applyShadows g).armOf h = if h = g then Arm.idle else s.armOf h := by
  have hcopied : (s.groupCopied g).armed = s.armed :=
    (State.copyShadows_keeps (s.keeps_parts 0x8) (Keep.off_of_and (by decide))).armedIs (by decide : Nat.testBit 0x8 3 = true)
  rw [State.applyShadows_eq, State.armOf, State.setArm, Tab.get_set, State.foldl_pageApplied_armed, hcopied]
  rfl

theorem State.applyShadows_mem : (s.applyShadows g).mem = s.mem :=
  (State.applyShadows_keeps (s.keeps_parts 0x10) (Keep.off_of_and (by decide))).mem_eq

end

end Sys2Proof.Machine

open Sys2Proof Sys2Proof.Machine

/-- Settles O53: the copy, then each page of the group told once, then ARMED; and the reads after a write of one copy. -/
theorem commitsCopyTheShadows : Obligations.CommitsCopyTheShadows := by
  refine ⟨fun s g _ _ _ => ⟨fun p off hlow hhigh hin => ?_, fun p off ho hout => s.applyShadows_outside ho hout, fun p hin hsame => ?_,
    fun p hin => (s.applyShadows_header hin).2, ?_, s.applyShadows_mem, fun h hne => ?_⟩, fun s p off q o v hoff ho => ?_⟩
  · obtain ⟨hreg, hshd⟩ := s.applyShadows_copies (g := g) (p := p) hlow hhigh
    rw [if_pos hin] at hreg
    exact ⟨hreg, hshd.trans hreg.symm⟩
  · rw [(s.applyShadows_header hin).1, hsame]
  · rw [State.armOf_applyShadows, if_pos rfl]
  · rw [State.armOf_applyShadows, if_neg hne]
  · rw [State.reg_setReg, State.shd_setShd, State.reg_setBoth, State.shd_setBoth_self, State.reg_setShd]
    simp only [regKey_eq_iff ho hoff, and_self]

end

section
/-!
The registers of the power block, the Heath island, the timeline, the sync pages and network time: what interrupts, faults of other
pages, recorder events, pins, Swaths and the Tsudex link leave of them.
-/
set_option Elab.async false
namespace Sys2Proof.Machine

/-! ### The relation -/

/-- The key of the register that shows PWR_STATE. -/
def pwrKey : Nat := regKey pgPWR PAGE_STATUS

/-- The keys of the record of a wake, which the end of Doze loads (R622). -/
def wakeKey (k : Nat) : Bool :=
  k == regKey pgHTH Hth.WAKE_RECORD || k == regKey pgHTH Hth.WAKE_TICK_LO || k == regKey pgHTH Hth.WAKE_TICK_HI

/-- The pages PWR, HTH, TLN, SYN and NTM. -/
def timePage (p : Nat) : Bool := decide (p = pgPWR ∨ p = pgHTH ∨ p = pgTLN ∨ (pgSYN 0 ≤ p ∧ p < pgSYN 8) ∨ p = pgNTM)

/-- The registers of those of these pages that `P` picks, but for the record of a wake. -/
def steadyKey (P : Nat → Bool) (k : Nat) : Bool := timePage (k / 0x1000) && P (k / 0x1000) && !wakeKey k

/-- The registers of `steadyKey` are as before. PWR_STATE may have left Doze, which an interrupt ends. -/
structure State.Steady (P : Nat → Bool) (s t : State) : Prop where
  regs : ∀ k, steadyKey P k = true → (k = pwrKey → s.pwrState ≠ 1) → t.at k = s.at k

theorem timePage_far {page off : Nat} (hl : pgSYN 8 ≤ page) (hh : page < pgNTM) (ho : off < 0x1000) :
    timePage (regKey page off / 0x1000) = false := by
  have hkey : regKey page off / 0x1000 = page := by simp only [regKey]; omega
  refine decide_eq_false ?_
  simp only [hkey, pgPWR, pgHTH, pgTLN, pgSYN, pgNTM] at *
  omega

theorem timePage_late {page off : Nat} (hl : pgSTR ≤ page) : timePage (regKey page off / 0x1000) = false := by
  have hkey : page ≤ regKey page off / 0x1000 := by simp only [regKey]; omega
  refine decide_eq_false ?_
  simp only [pgPWR, pgHTH, pgTLN, pgSYN, pgNTM, pgSTR] at *
  omega

theorem timePage_icu {off : Nat} (ho : off < 0x4000) : timePage (regKey pgICU off / 0x1000) = false := by
  refine decide_eq_false ?_
  simp only [regKey, pgICU, pgPWR, pgHTH, pgTLN, pgSYN, pgNTM]
  omega

theorem steadyKey_pwr {P : Nat → Bool} (hP : P pgPWR = true) : steadyKey P pwrKey = true := by
  have hpage : pwrKey / 0x1000 = pgPWR := by decide
  rw [steadyKey, hpage, hP]
  decide

theorem State.pwrState_eq_at (s : State) : s.pwrState = bits (s.at pwrKey) Pwr.S_PWR_STATE := rfl

section
variable {P : Nat → Bool} {s t u : State}

theorem State.Steady.refl (s : State) : s.Steady P s := ⟨fun _ _ _ => rfl⟩

theorem State.Steady.trans (h : s.Steady P t) (g : t.Steady P u) : s.Steady P u := by
  refine ⟨fun k hk hs => (g.regs k hk fun hpwr => ?_).trans (h.regs k hk hs)⟩
  subst hpwr
  rw [State.pwrState_eq_at, h.regs _ hk hs]
  exact hs rfl

/-- A register of the relation reads as before. -/
theorem State.Steady.reg (h : s.Steady P t) {page off : Nat} (hk : steadyKey P (regKey page off) = true)
    (hp : regKey page off ≠ pwrKey) : t.reg page off = s.reg page off :=
  h.regs _ hk fun he => absurd he hp

/-- Outside Doze PWR_STATE stays. -/
theorem State.Steady.pwrState (h : s.Steady P t) (hs : s.pwrState ≠ 1) (hP : P pgPWR = true) : t.pwrState = s.pwrState := by
  rw [State.pwrState_eq_at, h.regs _ (steadyKey_pwr hP) fun _ => hs, ← State.pwrState_eq_at]

/-- An update of parts other than the registers. -/
theorem State.Steady.upd (h : s.Steady P t) (hl : u.live = t.live) : s.Steady P u :=
  h.trans ⟨fun k _ _ => by simp only [State.at, hl]⟩

theorem State.Steady.setReg_of (h : s.Steady P t) {page off : Nat} {v : Word} (hk : steadyKey P (regKey page off) = false) :
    s.Steady P (t.setReg page off v) := by
  refine h.trans ⟨fun k hkey _ => State.at_setReg_ne _ _ ?_⟩
  rintro rfl
  exact Bool.false_ne_true (hk.symm.trans hkey)

/-- A write on another page. -/
theorem State.Steady.setReg (h : s.Steady P t) {page off : Nat} {v : Word} (hk : timePage (regKey page off / 0x1000) = false) :
    s.Steady P (t.setReg page off v) :=
  h.setReg_of (by rw [steadyKey, hk]; rfl)

/-- A write on a page that `P` does not pick. -/
theorem State.Steady.setReg_left (h : s.Steady P t) {page off : Nat} {v : Word} (hk : P (regKey page off / 0x1000) = false) :
    s.Steady P (t.setReg page off v) :=
  h.setReg_of (by rw [steadyKey, hk, Bool.and_false]; rfl)

theorem State.Steady.ite {p : Prop} [Decidable p] (h : s.Steady P t) (g : s.Steady P u) : s.Steady P (if p then t else u) := by
  split
  · exact h
  · exact g

/-- One operation for each element of a list. -/
theorem State.Steady.foldl {α : Type} {f : State → α → State} {l : List α} (h : s.Steady P t)
    (hf : ∀ x ∈ l, ∀ a : State, a.Steady P (f a x)) : s.Steady P (l.foldl f t) := by
  induction l generalizing t with
  | nil => exact h
  | cons x l ih =>
    exact ih (h.trans (hf x List.mem_cons_self t)) fun y hy => hf y (List.mem_cons_of_mem x hy)

/-! ### Interrupts -/

theorem State.occur_steady (s : State) (k : Nat) : s.Steady P (s.occur k) := by
  unfold State.occur
  split
  · exact .refl s
  · next hs =>
    have hk : k < 512 := isSource_lt (by simpa using hs)
    have hset : s.Steady P (s.setIcuBit (Icu.PENDING 0) k true) :=
      (State.Steady.refl s).setReg (timePage_icu (by simp only [Icu.PENDING]; omega))
    split
    · exact (State.Steady.refl s).upd rfl
    · exact (hset.setReg (timePage_icu (by simp only [srcCfg, Icu.SRC_CFG]; omega))).ite hset

theorem State.notifyGroups_steady (s t : State) : t.Steady P (s.notifyGroups t) :=
  (State.Steady.refl t).foldl fun _ _ a => State.Steady.ite ((State.Steady.refl a).upd rfl) (State.Steady.refl a)

theorem State.fieldResume_steady (s : State) : s.Steady P s.fieldResume := by
  refine (State.Steady.refl s).foldl fun k hk a => ?_
  have hk : k < 8 := List.mem_range.1 hk
  have hpage : timePage (regKey (pgFLD k) PAGE_STATUS / 0x1000) = false :=
    timePage_far (by simp only [pgSYN, pgFLD]; omega) (by simp only [pgNTM, pgFLD]; omega) (by decide)
  exact (((State.Steady.refl a).setReg hpage).setReg hpage).ite (State.Steady.refl a)

/-- The end of Doze loads a wake and sets PWR_STATE. -/
theorem State.leaveDoze_at (s : State) (seen pins : Nat) {k : Nat} (hk : steadyKey P k = true) (hp : k ≠ pwrKey) :
    (s.leaveDoze seen pins).at k = s.at k := by
  have hwake : wakeKey k = false := by
    simp only [steadyKey, Bool.and_eq_true, Bool.not_eq_true'] at hk
    exact hk.2
  simp only [wakeKey, Bool.or_eq_false_iff, beq_eq_false_iff_ne] at hwake
  obtain ⟨⟨hrecord, hlow⟩, hhigh⟩ := hwake
  refine ((State.fieldResume_steady _).regs k hk fun he => absurd he hp).trans ?_
  exact (State.at_setReg_ne _ _ hp).trans ((State.at_setReg_ne _ _ hhigh).trans ((State.at_setReg_ne _ _ hlow).trans
    (State.at_setReg_ne _ _ hrecord)))

theorem State.leaveDoze_steady {s : State} (h : s.pwrState = 1) (seen pins : Nat) : s.Steady P (s.leaveDoze seen pins) :=
  ⟨fun _ hk hs => s.leaveDoze_at seen pins hk fun he => hs he h⟩

theorem State.icuChange_steady (s : State) {f : State → State} (hf : s.Steady P (f s)) : s.Steady P (s.icuChange f) := by
  have hnotify := hf.trans (s.notifyGroups_steady (f s))
  unfold State.icuChange
  dsimp only
  split
  · next hdoze =>
    exact ((hnotify.trans (State.leaveDoze_steady hdoze.1 _ _)).trans (State.occur_steady _ _)).trans (State.notifyGroups_steady _ _)
  · exact hnotify

theorem State.irq_steady (s : State) (k : Nat) : s.Steady P (s.irq k) := s.icuChange_steady (s.occur_steady k)

theorem State.setLevel_steady (s : State) (k : Nat) (b : Bool) : s.Steady P (s.setLevel k b) := by
  have hicu (a : State) (x : IcuState) : a.Steady P { a with icu := x } := (State.Steady.refl a).upd rfl
  have hlevel := hicu s { s.icu with level := Tab.set (fun _ => false) s.icu.level k b }
  unfold State.setLevel
  dsimp only
  split
  · exact .refl s
  · next hs =>
    have hk : k < 512 := isSource_lt (by simpa using hs)
    have hset (a : State) : a.Steady P (a.setIcuBit (Icu.PENDING 0) k b) :=
      (State.Steady.refl a).setReg (timePage_icu (by simp only [Icu.PENDING]; omega))
    exact hlevel.ite (State.Steady.ite ((hlevel.trans (hicu _ _)).ite hlevel)
      (State.Steady.ite ((hlevel.trans (State.icuChange_steady _ (State.occur_steady _ _))).ite hlevel)
        (hlevel.ite (hlevel.trans (State.icuChange_steady _ (hset _))))))

theorem State.Steady.irq (h : s.Steady P t) {k : Nat} : s.Steady P (t.irq k) := h.trans (t.irq_steady k)

/-! ### Counters and faults -/

theorem State.Steady.count (h : s.Steady P t) {n k : Nat} : s.Steady P (t.count n k) := by
  refine h.trans ?_
  have hpmc (x : PmcState) : t.Steady P { t with pmc := x } := (State.Steady.refl t).upd rfl
  have hwrapped (a : State) : a.Steady P (a.counterWrapped n) := by
    have hset (b : State) : b.Steady P (b.setFlag pgPMC (Pmc.OVF (n / 32)) (n % 32) true) :=
      (State.Steady.refl b).setReg (timePage_late (by decide))
    have hlive (x : PmcState) : a.Steady P { a with pmc := x } := (State.Steady.refl a).upd rfl
    exact ((hlive _).trans (hset _)).irq.ite ((hlive _).trans (hset _))
  exact (State.Steady.refl t).ite ((hpmc _).ite ((hpmc _).trans (hwrapped _)))

theorem State.Steady.faultHere (h : s.Steady P t) {page n : Nat} (hk : steadyKey P (regKey page PAGE_FAULT) = false) :
    s.Steady P (t.faultHere page n) := by
  have hset : s.Steady P (t.setFlag page PAGE_FAULT n true) := h.setReg_of hk
  unfold State.faultHere
  cases pageInfo page with
  | none => exact hset
  | some i =>
    dsimp only
    cases faultIrq i n with
    | none => exact hset
    | some k => exact hset.ite hset.irq

/-- The pages whose faults another page reports as well. -/
def Block.reported (b : Block) : Bool := b == .plu || b == .plc || b == .ccr

/-- A fault of a page that reports to no other one. -/
theorem State.fault_eq_faultHere (s : State) {page : Nat} {i : PageInfo} (hi : pageInfo page = some i) (hb : i.block.reported = false)
    (n : Nat) : s.fault page n = s.faultHere page n := by
  obtain ⟨b, k, sub⟩ := i
  unfold State.fault
  rw [hi]
  cases b with
  | plu | plc | ccr => cases hb
  | _ => rfl

theorem State.Steady.fault (h : s.Steady P t) {page n : Nat} {i : PageInfo} (hi : pageInfo page = some i)
    (hb : i.block.reported = false) (hk : timePage (regKey page PAGE_FAULT / 0x1000) = false) : s.Steady P (t.fault page n) := by
  rw [t.fault_eq_faultHere hi hb]
  exact h.faultHere (by rw [steadyKey, hk]; rfl)

end

/-! ### The event recorder -/

section
variable {P : Nat → Bool} (s : State)

theorem State.queueLevels_steady (j : Nat) : s.Steady P (s.queueLevels j) := by
  have hpage : timePage (regKey (pgQUE j) PAGE_STATUS / 0x1000) = false :=
    timePage_late (by simp only [pgSTR, pgQUE]; omega)
  exact ((State.Steady.refl s).foldl fun _ _ a => (State.Steady.refl a).setReg hpage).trans (State.setLevel_steady _ _ _)

theorem State.queueError_steady (b : Nat) : s.Steady P (s.queueError 3 3 b) := ((State.Steady.refl s).setReg (by decide)).irq

theorem State.queueDrop_steady : s.Steady P (s.queueDrop 3 3) := (State.Steady.refl s).setReg (by decide)

theorem State.setQueue_steady (j q : Nat) (x : Queue) : s.Steady P (s.setQueue j q x) := (State.Steady.refl s).upd rfl

theorem State.queuePtrReset_steady (busy : Bool) : s.Steady P (s.queuePtrReset 3 3 busy) :=
  (((s.setQueue_steady 3 3 _).setReg (by decide)).trans (State.queueError_steady _ 9)).trans (State.queueLevels_steady _ 3)

theorem State.queuePut_steady (depth : Nat) (d : List Byte) (last : Bool) : s.Steady P (s.queuePut 3 3 depth d last) := by
  have hdrop (x : Queue) : s.Steady P ((s.queueDrop 3 3).setQueue 3 3 x) := s.queueDrop_steady.trans (State.setQueue_steady _ 3 3 x)
  have herror : s.Steady P (s.queueError 3 3 8) := s.queueError_steady 8
  unfold State.queuePut
  dsimp only
  split
  · exact hdrop _
  · split
    · exact (s.setQueue_steady 3 3 _).ite (State.Steady.refl s)
    · split
      · exact (hdrop _).ite (State.Steady.refl s)
      · split
        · exact ((herror.trans (State.queueDrop_steady _)).trans (State.setQueue_steady _ 3 3 _)).ite
            (herror.trans (State.setQueue_steady _ 3 3 _))
        · split
          · exact (s.setQueue_steady 3 3 _).setReg (by decide)
          · exact s.setQueue_steady 3 3 _

theorem State.evrLost_steady : s.Steady P s.evrLost := by
  have hlost : s.Steady P ((s.inc pgEVR Evr.LOST_TOTAL).fault pgEVR Evr.F_LOST) :=
    ((State.Steady.refl s).setReg (by decide)).fault pageInfo_pgEVR rfl (by decide)
  refine State.Steady.count (hlost.upd ?_)
  rfl

theorem State.evrPushSound_steady (code page kind group : Nat) : s.Steady P (s.evrPushSound code page kind group) := by
  have hput := (s.queuePut_steady (P := P) 64 (pendingEntry code page kind group (stamp32 s.tln.now)) true).trans
    (State.queueLevels_steady _ 3)
  exact (hput.trans (State.evrLost_steady _)).ite (hput.setReg (by decide))

theorem State.evrPush_steady (code page kind group : Nat) : s.Steady P (s.evrPush code page kind group) :=
  (s.evrPushSound_steady code page kind group).ite
    (((s.queuePtrReset_steady false).trans (State.evrLost_steady _)).trans (State.evrPushSound_steady _ _ _ _ _))

theorem State.trigger_steady (code page : Nat) : s.Steady P (s.trigger code page) := by
  have hdrop : s.Steady P ((s.inc pgEVR Evr.DROPPED_TOTAL).fault pgEVR Evr.F_DROPPED) :=
    ((State.Steady.refl s).setReg (by decide)).fault pageInfo_pgEVR rfl (by decide)
  have hspent (x : Tab Nat) : s.Steady P { s with evr := { s.evr with spent := x } } := (State.Steady.refl s).upd rfl
  unfold State.trigger
  split
  · exact State.Steady.refl s
  · dsimp only
    split
    · exact State.Steady.refl s
    · split
      · exact hdrop.upd rfl
      · split
        · exact State.Steady.upd ((hspent _).setReg (by decide)) rfl
        · exact (hspent _).trans (State.evrPush_steady _ _ _ _ _)

end

/-! ### Pins -/

section
variable {P : Nat → Bool} (s : State)

theorem State.wireHolds_steady (w : Wire) (b : Bool) : s.Steady P (s.wireHolds w b) := (State.Steady.refl s).upd rfl

theorem State.setDriven_steady {page : Nat} (f : Field) (l : List Wire) (on : Bool)
    (hk : timePage (regKey page PAGE_STATUS / 0x1000) = false) : s.Steady P (s.setDriven page f l on) :=
  have hset := (State.Steady.refl s).setReg hk
  hset.ite (hset.foldl fun _ _ a => (State.Steady.refl a).upd rfl)

theorem State.pxRefresh_steady {k : Nat} (h : k < 64) : s.Steady P (s.pxRefresh k) := by
  have hk : timePage (regKey (pgPXP k) PAGE_STATUS / 0x1000) = false :=
    timePage_far (by simp only [pgSYN, pgPXP]; omega) (by simp only [pgNTM, pgPXP]; omega) (by decide)
  have hset : s.Steady P ((s.setSts (pgPXP k) Pxp.S_PIN_STATE (s.pxPin k).1).setDriven (pgPXP k) Pxp.S_DRIVEN [.px k] (s.pxPin k).2) :=
    ((State.Steady.refl s).setReg hk).trans (State.setDriven_steady _ _ _ _ hk)
  exact (hset.trans (State.wireHolds_steady _ _ _)).ite hset

theorem State.dmxRefresh_steady {k : Nat} (h : k < 12) : s.Steady P (s.dmxRefresh k) := by
  have hk : timePage (regKey (pgDMX k) PAGE_STATUS / 0x1000) = false :=
    timePage_far (by simp only [pgSYN, pgDMX]; omega) (by simp only [pgNTM, pgDMX]; omega) (by decide)
  have hset : s.Steady P ((s.setSts (pgDMX k) Dmx.S_PIN_STATE (s.dmxPin k).1).setDriven (pgDMX k) Dmx.S_DRIVEN [.dmxTx k, .dmxDe k]
      (s.dmxPin k).2) := ((State.Steady.refl s).setReg hk).trans (State.setDriven_steady _ _ _ _ hk)
  exact ((hset.trans (State.wireHolds_steady _ _ _)).trans (State.wireHolds_steady _ _ _)).ite hset

theorem State.fldRefresh_steady {k : Nat} (h : k < 8) : s.Steady P (s.fldRefresh k) := by
  have hk : timePage (regKey (pgFLD k) PAGE_STATUS / 0x1000) = false :=
    timePage_far (by simp only [pgSYN, pgFLD]; omega) (by simp only [pgNTM, pgFLD]; omega) (by decide)
  exact ((State.Steady.refl s).setReg hk).trans (State.setDriven_steady _ _ _ _ hk)

theorem State.lampsDriven_steady (n x : Nat) : s.Steady P (s.lampsDriven n x) := by
  have hk : timePage (regKey (pgLCL n) PAGE_STATUS / 0x1000) = false := timePage_late (by simp only [pgSTR, pgLCL]; omega)
  exact (((State.Steady.refl s).setReg hk).trans (State.setDriven_steady _ _ _ _ hk)).foldl fun k _ a =>
    (State.Steady.refl a).setReg (timePage_late (by simp only [pgSTR, pgLMP]; omega))

theorem State.lclChanged_steady (n x : Nat) (at_ : Option Nat) : s.Steady P (s.lclChanged n x at_) := by
  have hirq : s.Steady P ((s.setCluster n { s.clusterOf n with releasedAt := at_, keeperOff := false }).irq (304 + n)) := by
    refine State.Steady.irq ((State.Steady.refl s).upd ?_)
    rfl
  exact (hirq.foldl fun k _ a => a.wireHolds_steady _ _).ite hirq

theorem State.lclRefresh_steady (n : Nat) : s.Steady P (s.lclRefresh n) := by
  have hdriven := s.lampsDriven_steady (P := P) n (s.lclPin n)
  rw [State.lclRefresh_eq]
  dsimp only
  exact hdriven.ite (hdriven.trans (State.lclChanged_steady _ n _ _))

theorem State.pinsRefresh_steady : s.Steady P s.pinsRefresh :=
  State.Steady.foldl (State.Steady.foldl (State.Steady.foldl (State.Steady.foldl (State.Steady.refl s)
    fun _ hk a => a.pxRefresh_steady (List.mem_range.1 hk)) fun _ hk a => a.dmxRefresh_steady (List.mem_range.1 hk))
    fun _ _ a => a.lclRefresh_steady _) fun _ hk a => a.fldRefresh_steady (List.mem_range.1 hk)

end

/-! ### Swaths -/

section
variable {P : Nat → Bool} (s : State)

theorem timePage_swath {k j off : Nat} (hk : k < 16) (hj : j < 4) (ho : off < 0x1000) :
    timePage (regKey (pgSWT k + j) off / 0x1000) = false :=
  timePage_far (by simp only [pgSYN, pgSWT]; omega) (by simp only [pgNTM, pgSWT]; omega) ho

theorem State.swathRefresh_steady {k : Nat} (h : k < 16) : s.Steady P (s.swathRefresh k) := by
  have hgroup (n : Nat) : s.Steady P (s.setGroupState (pgSWT k) n) := by
    have hinfo : pageInfo (pgSWT k) = some ⟨.swt, k, 0⟩ := pageInfo_pgSWT ⟨k, h⟩
    simp only [State.setGroupState, hinfo]
    exact (State.Steady.refl s).foldl fun j hj a =>
      (State.Steady.refl a).setReg (timePage_swath h (List.mem_range.1 hj) (by decide))
  exact (State.Steady.refl s).ite ((hgroup 0).ite ((hgroup 2).ite (hgroup 1)))

theorem State.tryArm_steady {k : Nat} (h : k < 16) : s.Steady P (s.tryArm k) := by
  have hswath (x : SwtState) : s.Steady P (s.setSwath k x) := (State.Steady.refl s).upd rfl
  have hstate (a : State) (n : Nat) : a.Steady P (a.setSwathState k n) :=
    (a.swathRefresh_steady h).ite
      (((State.Steady.refl a).setReg (timePage_swath h (j := 0) (by decide) (by decide))).trans (State.swathRefresh_steady _ h)).irq
  exact ((hswath _).trans (hstate _ 1)).ite (State.Steady.refl s)

theorem State.lockFollow_steady {k : Nat} (h : k < 16) : s.Steady P (s.lockFollow k) := by
  have hpage (off : Nat) (ho : off < 0x1000) : timePage (regKey (pgSWT k) off / 0x1000) = false :=
    timePage_swath h (j := 0) (by decide) ho
  have hset (n : Nat) : s.Steady P (s.setSts (pgSWT k) Swt.S_LOCK_OK n) := (State.Steady.refl s).setReg (hpage _ (by decide))
  exact (State.Steady.refl s).ite (((hset _).fault (pageInfo_pgSWT ⟨k, h⟩) rfl (hpage _ (by decide))).ite (hset _))

theorem State.swathLocks_steady : s.Steady P s.swathLocks :=
  ((State.Steady.refl s).foldl fun _ hk a => a.lockFollow_steady (List.mem_range.1 hk)).foldl fun _ hk a =>
    a.tryArm_steady (List.mem_range.1 hk)

/-! ### The timeline -/

theorem State.alignFalls_steady : s.Steady P s.alignFalls := by
  have hset : s.Steady P (s.setFld pgRED Red.PAIR_STATE Red.ALIGNED 0) := (State.Steady.refl s).setReg (by decide)
  exact (State.Steady.refl s).ite ((hset.fault pageInfo_pgRED rfl (by decide)).ite hset)

theorem State.calRefLost_steady (src : Nat) : s.Steady P (s.calRefLost src) := by
  unfold State.calRefLost
  split
  · exact State.Steady.refl s
  · have hset (x : CalState) : s.Steady P ({ s with cal := x }.setSts pgCAL Cal.S_CAL_BUSY 0) := by
      refine State.Steady.setReg ((State.Steady.refl s).upd ?_) (by decide)
      rfl
    have hfault (x : CalState) := (hset x).fault (n := Cal.F_NO_REF) pageInfo_pgCAL rfl (by decide)
    exact (hfault _).ite (State.Steady.refl s)

section
variable (hP : P pgTLN = false)
include hP

theorem State.setIncr_steady (v : Int) : s.Steady P (s.setIncr v) := ((State.Steady.refl s).setReg_left hP).setReg_left hP

theorem State.retune_steady : s.Steady P s.retune := by
  unfold State.retune
  split
  · exact s.setIncr_steady hP _
  · exact s.setIncr_steady hP _
  · exact State.Steady.refl s
  · exact s.setIncr_steady hP _

theorem State.enterTl_steady (n : Nat) : s.Steady P (s.enterTl n) := by
  have hset (x : TlnState) : s.Steady P { s with tln := x } := (State.Steady.refl s).upd rfl
  unfold State.enterTl
  split
  · exact hset _
  · exact hset _
  · exact hset _
  · exact (hset _).ite ((hset _).trans (State.setIncr_steady _ hP _))
  · exact State.Steady.refl s

theorem State.setTlState_steady (n : Nat) : s.Steady P (s.setTlState n) := by
  have hset : s.Steady P ((s.enterTl n).setSts pgTLN Tln.S_TL_STATE n) := (s.enterTl_steady hP n).setReg_left hP
  have htune := hset.trans (State.retune_steady _ hP)
  have hnext := State.Steady.ite (p := n = 2) htune (htune.trans (State.alignFalls_steady _))
  exact hnext.ite (hnext.irq.trans (State.swathLocks_steady _))

theorem State.tlnSettle_steady : s.Steady P s.tlnSettle := (s.setTlState_steady hP 1).ite (State.Steady.refl s)

theorem State.srcLost_steady (src : Nat) : s.Steady P (s.srcLost src) := by
  have hvoid (a : State) : a.Steady P a.voidEvents := (State.Steady.refl a).upd rfl
  have hcal := s.calRefLost_steady (P := P) src
  have hleft := State.Steady.ite (p := (s.calRefLost src).tlnOn = true ∧ (s.calRefLost src).tlSrc = src) (hcal.trans (hvoid _)) hcal
  exact State.Steady.ite (State.Steady.ite (hleft.trans (State.setTlState_steady _ hP _))
    (State.Steady.ite (hleft.trans (State.setTlState_steady _ hP _)) hleft)) hleft

end

/-! ### The Tsudex link -/

theorem State.tsxQueue_steady (type plane : Nat) (payload : List Byte) : s.Steady P (s.tsxQueue type plane payload) := by
  have hput (a : State) (lane : Nat) (f : TsxFrame) : a.Steady P (a.tsxPut lane f) := by
    refine State.Steady.count (State.Steady.setReg ((State.Steady.refl a).upd ?_) (by decide))
    rfl
  have hred (x : RedState) : s.Steady P { s with red := x } := (State.Steady.refl s).upd rfl
  have hbacklog (a : State) : a.Steady P a.tsxBacklog := (State.Steady.refl a).setReg (by decide)
  exact ((hred _).trans (hput _ _ _)).trans (hbacklog _)

theorem State.tsxBreak_steady : s.Steady P s.tsxBreak := by
  have hred (x : RedState) : s.Steady P { s with red := x } := (State.Steady.refl s).upd rfl
  have hbacklog (a : State) : a.Steady P a.tsxBacklog := (State.Steady.refl a).setReg (by decide)
  have hreport (a : State) : a.Steady P (((a.inc pgRED Red.BREAKS).fault pgRED Red.F_BREAK).trigger 0xE07 pgRED) :=
    (((State.Steady.refl a).setReg (by decide)).fault pageInfo_pgRED rfl (by decide)).trans (State.trigger_steady _ _ _)
  exact State.Steady.trans (((hred _).trans (State.tsxQueue_steady _ _ _ _)).ite ((hred _).trans (hbacklog _))) (hreport _)

theorem State.setSync_steady (n : Nat) : s.Steady P (s.setSync n) := by
  have hred (x : RedState) : s.Steady P (s.setRed x) := (State.Steady.refl s).upd rfl
  exact (State.Steady.refl s).ite ((hred _).setReg (by decide)).irq

theorem State.syncRefresh_steady : s.Steady P s.syncRefresh := (s.setSync_steady _).ite (State.Steady.refl s)

theorem State.unsync_steady : s.Steady P s.unsync := (s.setSync_steady 0).ite (State.Steady.refl s)

theorem State.setStage_steady (n : Nat) : s.Steady P (s.setStage n) :=
  (State.Steady.refl s).ite (((State.Steady.refl s).setReg (by decide)).setReg (by decide)).irq

theorem State.imageLinkLost_steady : s.Steady P s.imageLinkLost := by
  have hfwu (a : State) (f : FwuState → FwuState) : a.Steady P (a.modFwu f) := (State.Steady.refl a).upd rfl
  have hmagic (a : State) : a.Steady P (a.shelfMagic 0) := (State.Steady.refl a).upd (a.setBytes_live _ _)
  have hbad (a : State) : a.Steady P (((a.setReason 9 0).fault pgFWU Fwu.F_STAGE_BAD).setStage 3) :=
    (((State.Steady.refl a).setReg (by decide)).fault pageInfo_pgFWU rfl (by decide)).trans (State.setStage_steady _ _)
  have habort (a : State) : a.Steady P (a.stageEnd (some (9, 0))) := ((hfwu a _).trans (hmagic _)).trans (hbad _)
  have hstop := hfwu s fun f => { f with sending := none }
  exact State.Steady.ite (State.Steady.ite (hstop.trans (habort _)) hstop) hstop

theorem State.linkFell_steady (hP : P pgTLN = false) : s.Steady P s.linkFell := by
  have hred (a : State) (x : RedState) : a.Steady P (a.setRed x) := (State.Steady.refl a).upd rfl
  have halign (a : State) : a.Steady P a.alignRefresh :=
    (State.Steady.refl a).ite (((State.Steady.refl a).setReg (by decide)).ite a.alignFalls_steady)
  have hpeer (a : State) : a.Steady P a.peerTimeLost := by
    have htln (x : TlnState) : a.Steady P { a with tln := x } := (State.Steady.refl a).upd rfl
    exact (((htln _).trans (State.srcLost_steady _ hP 8)).trans (halign _)).ite (State.Steady.refl a)
  have htold := (((State.Steady.refl s).fault (n := Red.F_LINK_LOST) pageInfo_pgRED rfl (by decide)).trans
    (State.trigger_steady _ 0xE07 pgRED)).trans (hpeer _)
  have hbroken (a : State) : a.Steady P (if a.stileHeld then a.tsxBreak else a.unsync) := a.tsxBreak_steady.ite a.unsync_steady
  exact (((htold.trans (hbroken _)).trans (hred _ _)).trans (State.syncRefresh_steady _)).trans (State.imageLinkLost_steady _)

theorem State.linkRefresh_steady (hP : P pgTLN = false) : s.Steady P s.linkRefresh := by
  have hlane (n : Nat) : s.Steady P (s.setNat pgRED Red.LANE_STATUS n) := (State.Steady.refl s).setReg (by decide)
  have hstate (n m : Nat) : s.Steady P (((s.setNat pgRED Red.LANE_STATUS n).setSts pgRED Red.S_LINK_STATE m).irq 343) :=
    ((hlane n).setReg (by decide)).irq
  exact (hlane _).ite ((((hstate _ _).trans (State.linkFell_steady _ hP)).ite
    ((hstate _ _).trans (State.syncRefresh_steady _))).trans (State.pinsRefresh_steady _))

end

end Sys2Proof.Machine
end

section
/-!
The timeline: what its steps, slews, states and servo events leave of it (R79 to R89), and O13.
-/
set_option Elab.async false
namespace Sys2Proof.Machine

/-! ### Parts that an operation leaves -/

section
variable {l : List Instr} {s t : State} {m : Nat} {c : Bool}

theorem State.Keeps.tln_eq (h : State.Keeps ⟨l, s, m, c⟩ t) (hm : m.testBit 9 = true := by decide) : t.tln = s.tln := h.tlnIs hm
theorem State.Keeps.syn_eq (h : State.Keeps ⟨l, s, m, c⟩ t) (hm : m.testBit 10 = true := by decide) : t.syn = s.syn := h.synIs hm
theorem State.Keeps.pwr_eq (h : State.Keeps ⟨l, s, m, c⟩ t) (hm : m.testBit 32 = true := by decide) : t.pwr = s.pwr := h.pwrIs hm
theorem State.Keeps.hth_eq (h : State.Keeps ⟨l, s, m, c⟩ t) (hm : m.testBit 33 = true := by decide) : t.hth = s.hth := h.hthIs hm

end

section
variable (s : State)

theorem State.irq_tln (k : Nat) : (s.irq k).tln = s.tln := (s.irq_same k).count.tln

theorem State.retune_tln : s.retune.tln = s.tln := (State.retune_keeps (s.keeps_parts 0x200) (Keep.off_of_and (by decide))).tln_eq

theorem State.alignFalls_tln : s.alignFalls.tln = s.tln :=
  (State.alignFalls_keeps (s.keeps_parts 0x200) (Keep.off_of_and (by decide))).tln_eq

theorem State.swathLocks_tln : s.swathLocks.tln = s.tln :=
  (State.swathLocks_keeps (s.keeps_parts 0x200) (Keep.off_of_and (by decide))).tln_eq

theorem State.sample_tln (kind inst : Nat) (v : Int) : (s.sample kind inst v).tln = s.tln :=
  (State.sample_keeps (s.keeps_parts 0x200) (Keep.off_of_and (by decide))).tln_eq

theorem State.synShift_tln (d : Int) : (s.synShift d).tln = s.tln :=
  (State.synShift_keeps (s.keeps_parts 0x200) (Keep.off_of_and (by decide))).tln_eq

theorem State.synRenumber_tln : s.synRenumber.tln = s.tln :=
  (State.synRenumber_keeps (s.keeps_parts 0x200) (Keep.off_of_and (by decide))).tln_eq

theorem State.synPulseEnd_tln (k t : Nat) : (s.synPulseEnd k t).tln = s.tln :=
  (State.synPulseEnd_keeps (s.keeps_parts 0x200) (Keep.off_of_and (by decide))).tln_eq

/-- The rate is two registers of TLN. -/
theorem State.reg_retune {page off : Nat} (hlo : regKey page off ≠ regKey pgTLN Tln.INCR_LO)
    (hhi : regKey page off ≠ regKey pgTLN Tln.INCR_HI) : s.retune.reg page off = s.reg page off := by
  have hset (v : Int) : (s.setIncr v).reg page off = s.reg page off :=
    (State.reg_setReg_ne _ _ hhi).trans (State.reg_setReg_ne _ _ hlo)
  unfold State.retune
  split
  · exact hset _
  · exact hset _
  · rfl
  · exact hset _

/-! ### Slews -/

theorem State.slewing_setSts (n : Nat) : (s.setSts pgTLN Tln.S_SLEWING n).slewing = (n % 2 == 1) := by
  rw [State.slewing, State.sts_setSts_self _ _ (by decide)]
  rfl

theorem State.slewing_retune : s.retune.slewing = s.slewing := by
  simp only [State.slewing, State.sts, State.fld, State.reg_retune s (page := pgTLN) (off := PAGE_STATUS) (by decide) (by decide)]

theorem State.slewing_irq (k : Nat) : (s.irq k).slewing = s.slewing := by
  simp only [State.slewing, State.sts, State.fld, (s.irq_same k).reg (p := pgTLN) (o := PAGE_STATUS) (by decide)]

theorem State.slewEnd_tln : s.slewEnd.tln = if s.slewing then { s.tln with slewLeft := 0 } else s.tln := by
  unfold State.slewEnd
  split
  · rw [State.irq_tln, State.retune_tln, State.setSts_eq, State.setReg_tln]
  · rfl

theorem State.slewEnd_slewing {s : State} (h : s.slewing = true) : s.slewEnd.slewing = false := by
  rw [State.slewEnd, if_pos h, State.slewing_irq, State.slewing_retune, State.slewing_setSts]
  rfl

/-! ### Steps and the advance -/

theorem State.stepTo_tln (t : Nat) :
    (s.stepTo t).tln = { s.slewEnd.tln with now := t, edge := t, hasPrev := false, ticks := [] } := by
  have hkept (a : State) (d : Int) : (((a.synShift d).synRenumber.setSts pgTLN Tln.S_STEPPED 1).irq 57).tln = a.tln := by
    rw [State.irq_tln, State.setSts_eq, State.setReg_tln, State.synRenumber_tln, State.synShift_tln]
  exact hkept _ _

theorem State.advance_tln (t : Nat) : (s.advance t).tln = { (s.slewAccrue t).tln with now := t, edge := s.edgeAt t } := by
  simp only [State.advance, List.foldl_cons, List.foldl_nil, State.synPulseEnd_tln]

/-- The end of a pulse is seen on pages of SYN alone. -/
theorem State.advance_steady {P : Nat → Bool} (hP : P (pgSYN 3) = false ∧ P (pgSYN 5) = false ∧ P (pgSYN 7) = false) (t : Nat) :
    s.Steady P (s.advance t) := by
  have hend (a : State) (k : Nat) (hk : P (pgSYN k) = false) : a.Steady P (a.synPulseEnd k t) := by
    have hpage : P (regKey (pgSYN k) PAGE_STATUS / 0x1000) = false := by
      rw [show regKey (pgSYN k) PAGE_STATUS / 0x1000 = pgSYN k by simp only [regKey, PAGE_STATUS]; omega, hk]
    have hsyn (x : Tab SynState) : a.Steady P { a with syn := x } := (State.Steady.refl a).upd rfl
    have hstop (b : State) : b.Steady P (b.setPageState (pgSYN k) 2) := (State.Steady.refl b).setReg_left hpage
    have hio (b : State) : b.Steady P ((b.setSts (pgSYN k) SynOut.S_IO_STATE 0).irq (64 + 2 * k)) :=
      ((State.Steady.refl b).setReg_left hpage).irq
    unfold State.synPulseEnd
    dsimp only
    split
    · split
      · split
        · exact (hsyn _).trans (hstop _)
        · exact ((hsyn _).trans (hstop _)).trans (hio _)
      · exact hsyn _
    · exact State.Steady.refl a
  have haccrue : s.Steady P (s.slewAccrue t) := by
    have htln (x : TlnState) : s.Steady P { s with tln := x } := (State.Steady.refl s).upd rfl
    exact (State.Steady.refl s).ite (htln _)
  have hnow (a : State) (x : TlnState) : a.Steady P { a with tln := x } := (State.Steady.refl a).upd rfl
  obtain ⟨h3, h5, h7⟩ := hP
  exact (((haccrue.trans (hnow _ _)).trans (hend _ 3 h3)).trans (hend _ 5 h5)).trans (hend _ 7 h7)

theorem State.slewing_advance (t : Nat) : (s.advance t).slewing = s.slewing := by
  have h := s.advance_steady (P := fun p => p == pgTLN) (by decide) t
  simp only [State.slewing, State.sts, State.fld, h.reg (page := pgTLN) (off := PAGE_STATUS) (by decide) (by decide)]

/-! ### States -/

end

/-- What a change of TL_STATE leaves of the timeline. -/
structure TlnState.Goes (a b : TlnState) : Prop where
  now : b.now = a.now
  lastErr : b.lastErr = a.lastErr
  prevAt : b.prevAt = a.prevAt
  peerValid : b.peerValid = a.peerValid
  stopped : b.stopped = a.stopped

theorem TlnState.Goes.refl (a : TlnState) : a.Goes a := ⟨rfl, rfl, rfl, rfl, rfl⟩

section
variable (s : State)

theorem State.enterTl_goes (n : Nat) : s.tln.Goes (s.enterTl n).tln := by
  unfold State.enterTl
  split
  · exact ⟨rfl, rfl, rfl, rfl, rfl⟩
  · exact ⟨rfl, rfl, rfl, rfl, rfl⟩
  · exact ⟨rfl, rfl, rfl, rfl, rfl⟩
  · dsimp only
    split
    · exact ⟨rfl, rfl, rfl, rfl, rfl⟩
    · exact ⟨rfl, rfl, rfl, rfl, rfl⟩
  · exact .refl _

theorem State.setTlState_tln (n : Nat) : (s.setTlState n).tln = (s.enterTl n).tln := by
  have hset : ((s.enterTl n).setSts pgTLN Tln.S_TL_STATE n).retune.tln = (s.enterTl n).tln := by
    rw [State.retune_tln, State.setSts_eq, State.setReg_tln]
  unfold State.setTlState
  dsimp only
  split <;> split <;> simp only [State.swathLocks_tln, State.irq_tln, State.alignFalls_tln, hset]

theorem State.setTlState_goes (n : Nat) : s.tln.Goes (s.setTlState n).tln := by
  rw [State.setTlState_tln]
  exact s.enterTl_goes n

theorem State.tlnSettle_goes : s.tln.Goes s.tlnSettle.tln := by
  unfold State.tlnSettle
  split
  · exact s.setTlState_goes 1
  · exact .refl _

/-! ### Servo events -/

theorem State.servoRate_goes (e t : Rat) : s.tln.Goes (s.servoRate e t).tln := by
  unfold State.servoRate
  dsimp only
  rw [State.retune_tln, State.setNat_eq, State.setReg_tln]
  exact ⟨rfl, rfl, rfl, rfl, rfl⟩

theorem State.deferStep_tln : s.deferStep.tln = s.tln := by
  unfold State.deferStep
  split
  · rfl
  · rw [State.irq_tln, State.setSts_eq, State.setReg_tln]

theorem State.stepTo_lastErr (t : Nat) : (s.stepTo t).tln.lastErr = s.tln.lastErr := by
  have hend : s.slewEnd.tln.lastErr = s.tln.lastErr := by
    rw [State.slewEnd_tln]
    split <;> rfl
  exact (congrArg TlnState.lastErr (s.stepTo_tln t)).trans hend

/-- The integral I is cleared. -/
def State.integCleared (s : State) : State := { s with tln := { s.tln with integ := 0 } }

/-- The step that an event makes in ACQUIRE. -/
def State.servoStep (s : State) (e : Rat) : State :=
  let x := (s.tln.now : Rat) - e * 2 ^ 40
  (s.stepTo (roundOpen 86 x.num x.den).toNat).integCleared

/-- The rate update of an event with an interval. -/
def State.servoTune (s : State) (e : Rat) (t : Option Rat) : State :=
  match t with
  | some x => s.servoRate e x
  | none => s

theorem State.servoAct_eq (e : Rat) (t : Option Rat) : s.servoAct e t
    = (let big := decide ((s.nat pgTLN Tln.STEP_THRESH : Rat) * 256 < ratAbs e)
       let a := if big then s else s.setSts pgTLN Tln.S_STEP_DEFERRED 0
       if big && s.tlState == 1 && s.flag pgTLN Tln.TL_MODE 4 then
         if s.allStopped then a.servoStep e else (a.servoTune e t).deferStep
       else a.servoTune e t) := rfl

theorem State.servoStep_lastErr (e : Rat) : (s.servoStep e).tln.lastErr = s.tln.lastErr := by
  have hcleared (a : State) : a.integCleared.tln.lastErr = a.tln.lastErr := rfl
  rw [State.servoStep, hcleared, State.stepTo_lastErr]

theorem State.servoTune_lastErr (e : Rat) (t : Option Rat) : (s.servoTune e t).tln.lastErr = s.tln.lastErr := by
  cases t with
  | none => rfl
  | some x => exact (s.servoRate_goes e x).lastErr

/-- The part of an event that moves time or rate remembers no error. -/
theorem State.servoAct_lastErr (e : Rat) (t : Option Rat) : (s.servoAct e t).tln.lastErr = s.tln.lastErr := by
  have hsts (p : Prop) [Decidable p] : (if p then s else s.setSts pgTLN Tln.S_STEP_DEFERRED 0).tln = s.tln := by
    split
    · rfl
    · rw [State.setSts_eq, State.setReg_tln]
  rw [State.servoAct_eq]
  dsimp only
  split
  · split
    · rw [State.servoStep_lastErr, hsts]
    · rw [State.deferStep_tln, State.servoTune_lastErr, hsts]
  · rw [State.servoTune_lastErr, hsts]

theorem State.servoState_goes (e : Rat) : s.tln.Goes (s.servoState e).tln := by
  have hset (x : TlnState) (n : Nat) (p : Prop) [Decidable p] (h : s.tln.Goes x) :
      s.tln.Goes (if p then { s with tln := x }.setTlState n else { s with tln := x }).tln := by
    split
    · obtain ⟨hnow, herr, hprev, hpeer, hstop⟩ := { s with tln := x }.setTlState_goes n
      exact ⟨hnow.trans h.now, herr.trans h.lastErr, hprev.trans h.prevAt, hpeer.trans h.peerValid, hstop.trans h.stopped⟩
    · exact h
  unfold State.servoState
  dsimp only
  by_cases hacquire : s.tlState = 1
  · rw [if_pos hacquire]
    exact hset _ 2 _ ⟨rfl, rfl, rfl, rfl, rfl⟩
  · rw [if_neg hacquire]
    by_cases hlocked : s.tlState = 2
    · rw [if_pos hlocked]
      exact hset _ 1 _ ⟨rfl, rfl, rfl, rfl, rfl⟩
    · rw [if_neg hlocked]
      exact .refl _

/-- The note of an event adds its error to the remembered ones. -/
theorem State.servoNote_tln (e : Rat) (locked : Bool) :
    (s.servoNote e locked).tln.lastErr = (ratAbs e :: s.tln.lastErr).take 15 ∧ (s.servoNote e locked).tln.now = s.tln.now ∧
    (s.servoNote e locked).tln.prevAt = s.tln.prevAt := by
  unfold State.servoNote
  dsimp only
  split <;> split <;> exact ⟨rfl, rfl, rfl⟩

/-- The instant of an event that began in `b` is remembered; one that stepped the timeline gives the next event no interval. -/
def State.servoMark (s b : State) : State :=
  { s with tln := { s.tln with hasPrev := !decide (s.tln.now ≠ b.tln.now), prevAt := s.tln.now } }

/-- An event that the servo takes: LAST_ERR and its sample, the change of time or rate, and what is remembered of it. -/
theorem State.servoEvent_eq {s : State} (h : s.servoTakes = true) (e : Rat) (offered : Option Rat) :
    ∃ b : State, b.tln = s.tln ∧ s.servoEvent e offered
      = (((b.servoAct e (s.servoT offered)).servoMark b).servoState e).servoNote e (s.tlState == 2) := by
  have hnoted (v : Int) (n : Nat) : ((s.setNat pgTLN Tln.LAST_ERR n).sample 3 0 v).tln = s.tln := by
    rw [State.sample_tln, State.setNat_eq, State.setReg_tln]
  refine ⟨_, hnoted (satSigned 32 (roundOpen 85 e.num e.den)) (unsign 32 (satSigned 32 (roundOpen 85 e.num e.den))), ?_⟩
  rw [State.servoEvent, h]
  rfl

theorem State.servoEvent_notes {s : State} (h : s.servoTakes = true) (e : Rat) (offered : Option Rat) :
    (s.servoEvent e offered).tln.lastErr = (ratAbs e :: s.tln.lastErr).take 15 ∧
    (s.servoEvent e offered).tln.prevAt = (s.servoEvent e offered).tln.now := by
  obtain ⟨b, hb, heq⟩ := State.servoEvent_eq h e offered
  have herr := b.servoAct_lastErr e (s.servoT offered)
  rw [heq]
  generalize b.servoAct e (s.servoT offered) = c at *
  have hmark : (c.servoMark b).tln.lastErr = c.tln.lastErr ∧
      (c.servoMark b).tln.prevAt = (c.servoMark b).tln.now := ⟨rfl, rfl⟩
  generalize c.servoMark b = d at *
  obtain ⟨hlast, hnow, hprev⟩ := (d.servoState e).servoNote_tln e (s.tlState == 2)
  have hgo := d.servoState_goes e
  refine ⟨?_, ?_⟩
  · rw [hlast, hgo.lastErr, hmark.1, herr, hb]
  · rw [hprev, hnow, hgo.prevAt, hgo.now, hmark.2]

end

/-! ### Commands -/

theorem exec_nowLatch {s : State} (h : s.aclkRuns = true) (r : Requester) : exec (.nowLatch r) s = .next (s.counted.nowLatch r) := by
  have hexec : exec (.nowLatch r) s = .next (s.access (fun a => a.nowLatch r)) := rfl
  rw [hexec, State.access_eq h]

section
variable {s : State} (h : s.reaches pgTLN = true)
include h

theorem exec_step (r : Requester) : exec (.step r) s = .next s.counted.tlStep := by
  have hexec : exec (.step r) s = .next (s.gate pgTLN State.tlStep) := rfl
  rw [hexec, State.gate_eq h]

theorem exec_slew (r : Requester) : exec (.slew r) s = .next s.counted.tlSlew := by
  have hexec : exec (.slew r) s = .next (s.gate pgTLN State.tlSlew) := rfl
  rw [hexec, State.gate_eq h]

theorem exec_slewAbort (r : Requester) : exec (.slewAbort r) s = .next s.counted.slewEnd := by
  have hexec : exec (.slewAbort r) s = .next (s.gate pgTLN State.slewEnd) := rfl
  rw [hexec, State.gate_eq h]

end

section
variable (s : State)

theorem State.nowLatch_latch (r : Requester) : Tab.get (fun _ => NowLatch.init) (s.nowLatch r).tln.latch (reqCode r)
    = ⟨(timeValOf s.tln.now).s / 2 ^ 32, (timeValOf s.tln.now).ns, (timeValOf s.tln.now).frac, s.uncert⟩ := Tab.get_set_self _ _ _ _

theorem State.nowLatch_now (r : Requester) : (s.nowLatch r).tln.now = s.tln.now := rfl

/-- The instant that the SET registers give. -/
def State.setTime (s : State) : TimeVal :=
  ⟨s.nat pgTLN Tln.SET_S_LO + 2 ^ 32 * s.fld pgTLN Tln.SET_S_HI (15, 0), s.fld pgTLN Tln.SET_NS (29, 0), s.fld pgTLN Tln.SET_FRAC (7, 0)⟩

theorem State.tlStep_stopped {s : State} (hns : s.fld pgTLN Tln.SET_NS (29, 0) ≤ 999999999) (hstop : s.allStopped = true) :
    s.tlStep = ((s.stepTo s.setTime.time).setTlState (if s.tlnOn ∧ s.tlSrc ≠ 0 then 1 else 0)).voidEvents := by
  rw [State.tlStep, if_neg (Nat.not_lt.2 hns), hstop, Bool.not_true, if_neg Bool.false_ne_true]
  rfl

theorem State.tlStep_running {s : State} (hns : s.fld pgTLN Tln.SET_NS (29, 0) ≤ 999999999) (hstop : s.allStopped = false) :
    s.tlStep = s.fault pgTLN Tln.F_STEP_REFUSED := by
  rw [State.tlStep, if_neg (Nat.not_lt.2 hns), hstop, Bool.not_false, if_pos rfl]

theorem State.voidEvents_now : s.voidEvents.tln.now = s.tln.now := rfl

theorem State.stepTo_now (t : Nat) : (s.stepTo t).tln.now = t := congrArg TlnState.now (s.stepTo_tln t)

theorem State.tlStep_mem : s.tlStep.mem = s.mem := (State.tlStep_keeps (s.keeps_parts 0x10) (Keep.off_of_and (by decide))).mem_eq

theorem State.slewEnd_mem : s.slewEnd.mem = s.mem := (State.slewEnd_keeps (s.keeps_parts 0x10) (Keep.off_of_and (by decide))).mem_eq

theorem State.advance_mem (t : Nat) : (s.advance t).mem = s.mem :=
  (State.advance_keeps (s.keeps_parts 0x10) (Keep.off_of_and (by decide))).mem_eq

theorem State.servoEvent_mem (e : Rat) (offered : Option Rat) : (s.servoEvent e offered).mem = s.mem :=
  (State.servoEvent_keeps (s.keeps_parts 0x10) (Keep.off_of_and (by decide))).mem_eq

theorem State.tlSlew_free {s : State} (h : s.tlSrc = 0) : s.tlSlew.slewing = true ∧ s.tlSlew.mem = s.mem ∧ s.tlSlew.tln
    = { s.tln with slewLeft := s.tln.slewLeft + signed 32 (s.nat pgTLN Tln.SLEW_OFFSET) * NS } := by
  refine ⟨?_, (State.tlSlew_keeps (s.keeps_parts 0x10) (Keep.off_of_and (by decide))).mem_eq, ?_⟩
  · rw [State.tlSlew, if_neg (not_not.2 h), State.slewing_retune, State.slewing_setSts]
    rfl
  · rw [State.tlSlew, if_neg (not_not.2 h), State.retune_tln, State.setSts_eq, State.setReg_tln]

/-- The part left of a slew accrues in one advance, and the slew ends. -/
theorem State.slewFinish_eq {s : State} (hslew : s.slewing = true) (hrun : s.timeRuns = true) (hd : s.slewDelta ≠ 0)
    (hleft : s.tln.slewLeft ≠ 0) : s.slewFinish = (s.advance ((s.tln.now
      + (ceilDiv s.tln.slewLeft.natAbs s.slewDelta.natAbs : Nat) * s.incrFree : Int) + s.tln.slewLeft).toNat).slewEnd := by
  rw [State.slewFinish, hslew, hrun]
  dsimp only
  rw [if_neg (by decide), if_neg hleft, if_neg hd]

theorem State.servoTakes_eq {s : State} (hon : s.tlnOn = true) (hsrc : s.tlSrc ≠ 0) (hstate : s.tlState = 1 ∨ s.tlState = 2) :
    s.servoTakes = (s.tln.voidAt != some s.tln.now) := by
  have hstate : (s.tlState == 1 || s.tlState == 2) = true := by simpa using hstate
  have hsrc : (s.tlSrc != 0) = true := by simpa using hsrc
  rw [State.servoTakes, hon, hsrc, hstate]
  rfl

/-- In a HOLDOVER that begins beyond the limit the hold has expired at once. -/
theorem State.holdExpire_beyond {s : State} (hstate : s.tlState = 3) (hdone : s.tln.holdDone = false)
    (hbase : s.tln.uncertBase ≠ UNC_UNKNOWN) (hlim : s.nat pgTLN Tln.HOLD_LIMIT < s.tln.uncertBase) :
    s.holdExpire = ({ s with tln := { s.tln with holdDone := true } }.setSts pgTLN Tln.S_HOLD_EXPIRED 1).irq 58 := by
  unfold State.holdExpire
  dsimp only
  rw [if_neg (by simp [hstate, hdone, hbase]), if_neg (by omega), if_pos hlim, State.atTime, State.reach, if_pos (le_refl _)]

end

end Sys2Proof.Machine

open Sys2Proof Sys2Proof.Machine

/-- Settles O13: each command's next state through the laws of steps, slews and servo events above. -/
theorem timelineCommandsAct : Obligations.TimelineCommandsAct := by
  refine ⟨fun s r hclk => ?_, fun s r => ?_, fun s r => ?_, fun s r hreach hslew => ?_, fun s hslew hrun hd hleft => ?_,
    fun s e ns hon hsrc hstate => ?_, fun s hstate hdone hbase hlim => ?_⟩
  · refine ⟨_, exec_nowLatch hclk r, ?_, ?_, ?_, rfl, ?_⟩
    · rw [State.nowLatch, State.emit_out, State.counted_tln, s.counted_same.out]
    · rw [State.nowLatch_latch, State.counted_tln]
    · rw [State.nowLatch_now, State.counted_tln]
    · exact s.counted_same.mem
  · intro a hreach hns
    refine ⟨fun hstop => ⟨_, exec_step hreach r, a.tlStep_mem.trans s.counted_same.mem, ?_⟩, fun hstop => ?_⟩
    · rw [State.tlStep_stopped hns hstop, State.voidEvents_now, (State.setTlState_goes _ _).now, State.stepTo_now]
      rfl
    · rw [exec_step hreach, State.tlStep_running hns hstop]
  · intro a hreach
    refine ⟨fun hsrc => ?_, fun hsrc => ?_⟩
    · obtain ⟨hslew, hmem, htln⟩ := State.tlSlew_free hsrc
      refine ⟨_, exec_slew hreach r, hslew, ?_, hmem.trans s.counted_same.mem, ?_⟩
      · rw [htln, s.counted_tln]
      · rw [htln, s.counted_tln]
        rfl
    · rw [exec_slew hreach, State.tlSlew, if_pos hsrc]
  · have htln := s.counted.slewEnd_tln
    rw [hslew, if_pos rfl, s.counted_tln] at htln
    exact ⟨_, exec_slewAbort hreach r, State.slewEnd_slewing hslew, by rw [htln], by rw [htln], s.counted.slewEnd_mem.trans s.counted_same.mem⟩
  · have hexec : exec .slewDone s = .next s.slewFinish := rfl
    rw [State.slewFinish_eq hslew hrun hd hleft] at hexec
    generalize hx : ((s.tln.now + (ceilDiv s.tln.slewLeft.natAbs s.slewDelta.natAbs : Nat) * s.incrFree : Int) + s.tln.slewLeft).toNat
      = x at hexec
    have hrest : (s.advance x).slewing = true := (s.slewing_advance x).trans hslew
    have htln := (s.advance x).slewEnd_tln
    rw [hrest, if_pos rfl, State.advance_tln] at htln
    refine ⟨_, hexec, State.slewEnd_slewing hrest, by rw [htln], (State.slewEnd_mem _).trans (s.advance_mem x), ?_⟩
    rw [htln, ← hx]
    exact (Int.toNat_eq_max _).trans (max_comm _ _)
  · have htakes := State.servoTakes_eq hon hsrc hstate
    refine ⟨fun hvoid => ?_, fun hvoid => ?_⟩
    · have htakes : s.servoTakes = true := htakes.trans (by simpa using hvoid)
      obtain ⟨herr, hprev⟩ := State.servoEvent_notes htakes e (ns.map fun n => (n : Rat) / 1000000000)
      exact ⟨_, rfl, herr, hprev, s.servoEvent_mem e _⟩
    · have hexec : exec (.servoEvent e ns) s = .next (s.servoEvent e (ns.map fun n => (n : Rat) / 1000000000)) := rfl
      rw [hexec, State.servoEvent, htakes, hvoid]
      simp
  · exact congrArg Host.Outcome.next (State.holdExpire_beyond hstate hdone hbase hlim)

end

section
/-!
The sync inputs and outputs, and leap seconds (R84, R90, R101 to R104, R736), and O14.
-/
set_option Elab.async false
namespace Sys2Proof.Machine

section
variable (s : State)

theorem State.atTime_reached {s a : State} {t : Nat} (h : s.reach t = some a) (f : State → State) : s.atTime t f = f a := by
  rw [State.atTime, h]

/-- Until an instant comes, no output leaves the device and memory stays. -/
theorem State.reach_leaves {s a : State} {t : Nat} (h : s.reach t = some a) : a.out = s.out ∧ a.mem = s.mem :=
  have hkept := State.reach_keeps (s.keeps_parts 0x2010) (Keep.off_of_and (by decide)) a h
  ⟨hkept.out_eq, hkept.mem_eq⟩

theorem State.synAt_setSyn (k : Nat) (x : SynState) : (s.setSyn k x).synAt k = x := Tab.get_set_self _ _ _ _

theorem State.synAt_congr {s t : State} (h : t.syn = s.syn) (k : Nat) : t.synAt k = s.synAt k := by rw [State.synAt, h, State.synAt]

/-! ### The state of an input -/

theorem regKey_pgSYN {k off : Nat} (ho : off < 0x1000) : regKey (pgSYN k) off / 0x1000 = pgSYN k := by simp only [regKey]; omega

theorem steadyKey_syn {P : Nat → Bool} {k off : Nat} (hk : k < 8) (ho : off < 0x1000) (hP : P (pgSYN k) = true) :
    steadyKey P (regKey (pgSYN k) off) = true := by
  have hpage : timePage (pgSYN k) = true := decide_eq_true (by simp only [pgPWR, pgHTH, pgTLN, pgSYN, pgNTM]; omega)
  have hwake : wakeKey (regKey (pgSYN k) off) = false := by
    simp only [wakeKey, regKey, pgSYN, pgHTH, Hth.WAKE_RECORD, Hth.WAKE_TICK_LO, Hth.WAKE_TICK_HI, Bool.or_eq_false_iff,
      beq_eq_false_iff_ne]
    omega
  rw [steadyKey, regKey_pgSYN ho, hpage, hP, hwake]
  rfl

theorem State.setInput_syn (k n : Nat) : (s.setInput k n).syn = s.syn :=
  (State.setInput_keeps (s.keeps_parts 0x400) (Keep.off_of_and (by decide))).syn_eq

/-- What follows a change of an input's state writes no register of SYN. -/
theorem State.setInput_steady {P : Nat → Bool} (hP : P pgTLN = false) {s : State} {k n : Nat} (h : s.ioState k ≠ n) :
    (s.setSts (pgSYN k) SynIn.S_IO_STATE n).Steady P (s.setInput k n) := by
  rw [State.setInput, if_neg h]
  dsimp only
  generalize s.setSts (pgSYN k) SynIn.S_IO_STATE n = t
  have hirq := t.irq_steady (P := P) (64 + 2 * k)
  exact ((hirq.foldl fun _ _ a => a.srcLost_steady hP _).trans (State.swathLocks_steady _)).ite
    (((hirq.trans (State.tlnSettle_steady _ hP)).trans (State.swathLocks_steady _)).ite hirq)

theorem State.reg_setInput (k : Fin 8) (n : Nat) {off : Nat} (ho : off < 0x1000) (hs : off ≠ PAGE_STATUS) :
    (s.setInput k n).reg (pgSYN k) off = s.reg (pgSYN k) off := by
  by_cases h : s.ioState k = n
  · rw [State.setInput, if_pos h]
  · have hsteady := State.setInput_steady (P := fun p => p != pgTLN) (by decide) h
    have hpick : (pgSYN k != pgTLN) = true := by simp only [pgSYN, pgTLN, bne_iff_ne]; omega
    have hpwr : regKey (pgSYN k) off ≠ pwrKey := by simp only [regKey, pgSYN, pwrKey, pgPWR, PAGE_STATUS]; omega
    rw [hsteady.reg (steadyKey_syn k.isLt ho hpick) hpwr, State.reg_setSts_ne _ _ _ (by simpa using hs)]

/-! ### Edges -/

/-- The run of valid edges, the edge at alignment instant `j` included. -/
def State.edgeRun (s : State) (k : Nat) : Nat :=
  if s.stopSet (pgSYN k) then 0 else if s.ioState k = 3 then 1 else (s.synAt k).run + 1

/-- What an edge at alignment instant `j`, captured at `u`, leaves in the registers and the record of its input. -/
def State.edgeNoted (s : State) (k : Nat) (j u : Int) (ltc : BitVec 80) : State :=
  let p := pgSYN k
  let v := gridTimeVal u.toNat
  let s1 := s.setSyn k { s.synAt k with run := s.edgeRun k, misses := 0, lastHit := some j }
  let s2 := ((s1.inc p SynIn.EDGES).setNat p SynIn.CAP_STAMP ((v.s * SEC + v.ns) % 2 ^ 32)).setNat p SynIn.CAP_FRAC v.frac
  if k = 2 then (s2.setReg p SynIn.LTC_TIME (ltcTimeOf ltc (s.flag p SynIn.IN_MODE 3))).setReg p SynIn.LTC_USER (ltcUserOf ltc) else s2

/-- A valid edge is noted, and may take its input from LOST to SEARCH or on to VALID. -/
theorem State.synValidEdge_eq (k : Nat) (j u : Int) (ltc : BitVec 80) : s.synValidEdge k j u ltc
    = (let a := s.edgeNoted k j u ltc
       if a.stopSet (pgSYN k) then a
       else if a.ioState k = 3 then a.setInput k 1
       else if a.ioState k = 1 ∧ 4 ≤ s.edgeRun k then a.setInput k 2
       else a) := rfl

theorem State.synAt_edgeNoted (k : Nat) (j u : Int) (ltc : BitVec 80) :
    (s.edgeNoted k j u ltc).synAt k = { s.synAt k with run := s.edgeRun k, misses := 0, lastHit := some j } := by
  refine (State.synAt_congr (t := s.edgeNoted k j u ltc) ?_ k).trans (s.synAt_setSyn k _)
  unfold State.edgeNoted
  dsimp only
  split <;> simp only [State.setReg_syn, State.setNat_eq, State.inc_eq]

theorem State.decim_edgeNoted (k : Nat) (j u : Int) (ltc : BitVec 80) :
    (s.edgeNoted k j u ltc).reg (pgSYN k) SynIn.DECIM = s.reg (pgSYN k) SynIn.DECIM := by
  have hne {off : Nat} (h : SynIn.DECIM ≠ off) : regKey (pgSYN k) SynIn.DECIM ≠ regKey (pgSYN k) off := by simpa using h
  have hset (x : SynState) : (s.setSyn k x).reg (pgSYN k) SynIn.DECIM = s.reg (pgSYN k) SynIn.DECIM := rfl
  unfold State.edgeNoted
  dsimp only
  split
  · rw [State.reg_setReg_ne _ _ (hne (by decide)), State.reg_setReg_ne _ _ (hne (by decide)), State.setNat_eq, State.setNat_eq,
      State.inc_eq, State.reg_setReg_ne _ _ (hne (by decide)), State.reg_setReg_ne _ _ (hne (by decide)),
      State.reg_setReg_ne _ _ (hne (by decide)), hset]
  · rw [State.setNat_eq, State.setNat_eq, State.inc_eq, State.reg_setReg_ne _ _ (hne (by decide)),
      State.reg_setReg_ne _ _ (hne (by decide)), State.reg_setReg_ne _ _ (hne (by decide)), hset]

/-- The record of an input after a valid edge, and its decimation, which the edge leaves. -/
theorem State.synValidEdge_leaves (k : Fin 8) (j u : Int) (ltc : BitVec 80) :
    (s.synValidEdge k j u ltc).synAt k = { s.synAt k with run := s.edgeRun k, misses := 0, lastHit := some j } ∧
    (s.synValidEdge k j u ltc).reg (pgSYN k) SynIn.DECIM = s.reg (pgSYN k) SynIn.DECIM := by
  have hnoted := s.synAt_edgeNoted k j u ltc
  have hdecim := s.decim_edgeNoted k j u ltc
  rw [State.synValidEdge_eq]
  dsimp only
  generalize s.edgeNoted k j u ltc = a at *
  have hinput (n : Nat) : (a.setInput k n).synAt k = a.synAt k ∧
      (a.setInput k n).reg (pgSYN k) SynIn.DECIM = a.reg (pgSYN k) SynIn.DECIM :=
    ⟨State.synAt_congr (a.setInput_syn k n) k, a.reg_setInput k n (by decide) (by decide)⟩
  rw [← hnoted, ← hdecim]
  split
  · exact ⟨rfl, rfl⟩
  · split
    · exact hinput 1
    · split
      · exact hinput 2
      · exact ⟨rfl, rfl⟩

/-- An edge before the DECIM-th counts and is no servo event. -/
theorem State.synDecim_counts {s : State} {k : Nat} (h : (s.synAt k).decim + 1 < s.fld (pgSYN k) SynIn.DECIM (15, 0)) (e : Rat) :
    s.synDecim k e = s.setSyn k { s.synAt k with decim := (s.synAt k).decim + 1 } := by
  rw [State.synDecim]
  dsimp only
  rw [if_pos (lt_of_lt_of_le h (le_max_right _ _))]

section
variable {s : State} {k : Nat} {alt : Bool} {lines : Nat} (hin : synIsOut k = false) (hio : s.ioState k ≠ 0)
  (hen : s.enabled (pgSYN k) = true) (hform : s.synForm k alt = true) (ltc : BitVec 80)
include hin hio hen hform

/-- An edge is valid when it lies in the window of an instant that has none yet, and for SYN[0] ends the expected number of lines. -/
theorem State.synEdge_cases : s.synEdge k alt lines ltc
    = (let j := s.alignNear k s.capture
       let d := (s.capture : Rat) - s.alignAt k j
       let w : Rat := (s.nat (pgSYN k) SynIn.WINDOW : Rat) * 1280
       if w < d ∨ d < -w ∨ (s.synAt k).lastHit = some j ∨ (k = 0 ∧ lines ≠ s.fld (pgSYN k) SynIn.LINES (11, 0)) then s.synGlitch k
       else (s.synValidEdge k j s.capture ltc).synDecim k (s.captureErr k s.capture)) := by
  have hnot : ¬ (synIsOut k = true ∨ s.ioState k = 0 ∨ s.enabled (pgSYN k) = false ∨ s.synForm k alt = false) := by
    simp [hin, hio, hen, hform]
  rw [State.synEdge]
  exact if_neg hnot

end

/-! ### Misses -/

theorem State.synMissAt_leaves (k : Nat) (j : Int) :
    ((s.synMissAt k j).synAt k).run = 0 ∧ ((s.synMissAt k j).synAt k).lastMiss = some j ∧ (s.synMissAt k j).mem = s.mem := by
  have hmem : (s.synMissAt k j).mem = s.mem := (State.synMissAt_keeps (s.keeps_parts 0x10) (Keep.off_of_and (by decide))).mem_eq
  have hset (x : SynState) : ((s.setSyn k x).inc (pgSYN k) SynIn.MISSES).synAt k = x := by
    refine (State.synAt_congr ?_ k).trans (s.synAt_setSyn k x)
    rw [State.inc_eq, State.setReg_syn]
  have hinput (a : State) : (a.setInput k 3).synAt k = a.synAt k := State.synAt_congr (a.setInput_syn k 3) k
  refine and_assoc.1 ⟨?_, hmem⟩
  unfold State.synMissAt
  dsimp only
  split
  · split
    · rw [hinput, hset]
      exact ⟨rfl, rfl⟩
    · rw [hset]
      exact ⟨rfl, rfl⟩
  · rw [State.synAt_setSyn]
    exact ⟨rfl, rfl⟩

/-! ### Leap seconds -/

theorem State.leapNow_leaves : s.leapNow.sts pgTLN Tln.S_LEAP_DONE = 1 ∧ s.leapNow.fld pgTLN Tln.UTC_CTRL Tln.LEAP = 0 ∧
    s.leapNow.fld pgTLN Tln.UTC_CTRL Tln.UTC_OFFSET = (s.fld pgTLN Tln.UTC_CTRL Tln.UTC_OFFSET
      + (if s.fld pgTLN Tln.UTC_CTRL Tln.LEAP = 1 then 1 else 0xFFFF)) % 2 ^ 16 := by
  obtain ⟨a, hleap, hctrl⟩ : ∃ a : State, s.leapNow = (a.setSts pgTLN Tln.S_LEAP_DONE 1).irq 61 ∧ a.reg pgTLN Tln.UTC_CTRL
      = putBits (putBits (s.reg pgTLN Tln.UTC_CTRL) Tln.LEAP 0) Tln.UTC_OFFSET (s.fld pgTLN Tln.UTC_CTRL Tln.UTC_OFFSET
        + (if s.fld pgTLN Tln.UTC_CTRL Tln.LEAP = 1 then 1 else 0xFFFF)) := ⟨_, rfl, State.reg_setReg_self _ _ _ _⟩
  have hirq {off : Nat} (h : irqKey (regKey pgTLN off) = false) :
      s.leapNow.reg pgTLN off = (a.setSts pgTLN Tln.S_LEAP_DONE 1).reg pgTLN off := by
    rw [hleap]
    exact (State.irq_same _ _).reg h
  have hutc : s.leapNow.reg pgTLN Tln.UTC_CTRL = a.reg pgTLN Tln.UTC_CTRL :=
    (hirq (by decide)).trans (State.reg_setSts_ne _ _ _ (by decide))
  refine ⟨?_, ?_, ?_⟩
  · rw [State.sts, State.fld, hirq (by decide)]
    exact a.sts_setSts_self pgTLN (by decide) 1
  · rw [State.fld, hutc, hctrl, bits_putBits_of_apart _ (by decide) _ (.inl (by decide)), bits_putBits_same _ (by decide)]
    rfl
  · rw [State.fld, hutc, hctrl, bits_putBits_same _ (by decide)]
    rfl

/-! ### Outputs -/

theorem State.setOutput_leaves (k n : Nat) : (s.setOutput k n).tln = s.tln ∧ (s.setOutput k n).syn = s.syn ∧
    (s.setOutput k n).out = s.out :=
  have h := State.setOutput_keeps (k := k) (n := n) (s.keeps_parts 0x2600) (Keep.off_of_and (by decide))
  ⟨h.tln_eq, h.syn_eq, h.out_eq⟩

/-- The grid depends on the latest TCLK edge and the rate. -/
theorem State.gridAt_congr {s t : State} (htln : t.tln = s.tln) (hincr : t.incr = s.incr) : t.gridAt = s.gridAt := by
  funext u
  rw [State.gridAt, htln, hincr, State.gridAt]

/-- A state that differs from `s` in pages of SYN, and in interrupts, has the rate of `s`. -/
theorem State.Steady.incr {s t : State} (h : s.Steady (fun p => p == pgTLN) t) : t.incr = s.incr := by
  have hlo := h.reg (page := pgTLN) (off := Tln.INCR_LO) (by decide) (by decide)
  have hhi := h.reg (page := pgTLN) (off := Tln.INCR_HI) (by decide) (by decide)
  simp only [State.incr, State.nat, State.fld, hlo, hhi]

theorem State.synBegin_closed {s : State} {k : Nat} (h : s.synGate k = false) (j stop : Int) (o : Output) :
    s.synBegin k j stop o = (s.setSyn k { s.synAt k with lastHit := some j }).setOutput k 2 := by
  have hgate : (s.setSyn k { s.synAt k with lastHit := some j }).synGate k = false := h
  rw [State.synBegin]
  dsimp only
  rw [hgate, Bool.not_false, if_pos rfl]

/-- An output `k` that has begun the pulse or frame numbered `j`, which ends at `stop`. -/
def State.begun (s : State) (k : Nat) (j stop : Int) : State :=
  let s0 := s.setSyn k { s.synAt k with lastHit := some j }
  s0.setSyn k { s0.synAt k with pulse := true, pulseEnd := timeOfGrid stop }

theorem State.begun_leaves (k : Nat) (j stop : Int) : (s.begun k j stop).live = s.live ∧ (s.begun k j stop).tln = s.tln ∧
    (s.begun k j stop).out = s.out ∧
    (s.begun k j stop).synAt k = { s.synAt k with lastHit := some j, pulse := true, pulseEnd := timeOfGrid stop } := by
  refine ⟨rfl, rfl, rfl, ?_⟩
  rw [State.begun]
  dsimp only
  rw [State.synAt_setSyn, State.synAt_setSyn]

/-- A pulse or frame whose gate is met leaves the device at once, its edges on the grid. -/
theorem State.synBegin_open {s : State} {k : Nat} (h : s.synGate k = true) (j stop : Int) (o : Output) :
    (s.synBegin k j stop o).out = o.placed s.gridAt :: s.out ∧ ((s.synBegin k j stop o).synAt k).pulse = true ∧
    ((s.synBegin k j stop o).synAt k).pulseEnd = timeOfGrid stop ∧ (s.synBegin k j stop o).mem = s.mem := by
  have hmem : (s.synBegin k j stop o).mem = s.mem := (State.synBegin_keeps (s.keeps_parts 0x10) (Keep.off_of_and (by decide))).mem_eq
  obtain ⟨hlive, htln, hout, hsyn⟩ := s.begun_leaves k j stop
  have heq : s.synBegin k j stop o = (((s.begun k j stop).setOutput k 1).inc (pgSYN k) SynOut.PULSES).emitEdges o := by
    have hgate : (s.setSyn k { s.synAt k with lastHit := some j }).synGate k = true := h
    rw [State.synBegin]
    dsimp only
    rw [hgate, Bool.not_true, if_neg Bool.false_ne_true, State.begun]
  generalize s.begun k j stop = a at *
  obtain ⟨houttln, houtsyn, houtout⟩ := a.setOutput_leaves k 1
  have hpage (off : Nat) (ho : off < 0x1000) : (regKey (pgSYN k) off / 0x1000 == pgTLN) = false := by
    rw [regKey_pgSYN ho]
    simp only [pgSYN, pgTLN, beq_eq_false_iff_ne]
    omega
  have houtput : s.Steady (fun p => p == pgTLN) (a.setOutput k 1) := by
    have ha : s.Steady (fun p => p == pgTLN) a := (State.Steady.refl s).upd hlive
    exact ha.ite (ha.setReg_left (hpage _ (by decide))).irq
  have hgrid : ((a.setOutput k 1).inc (pgSYN k) SynOut.PULSES).gridAt = s.gridAt :=
    State.gridAt_congr ((State.setReg_tln _ _ _ _).trans (houttln.trans htln)) (houtput.setReg_left (hpage _ (by decide))).incr
  have hrecord : (s.synBegin k j stop o).synAt k = { s.synAt k with lastHit := some j, pulse := true, pulseEnd := timeOfGrid stop } := by
    rw [heq]
    have hinc : ((a.setOutput k 1).inc (pgSYN k) SynOut.PULSES).syn = a.syn := by rw [State.inc_eq, State.setReg_syn, houtsyn]
    exact (State.synAt_congr hinc k).trans hsyn
  refine ⟨?_, ?_, ?_, hmem⟩
  · rw [heq, State.emitEdges, State.emit_out, hgrid, State.inc_eq, State.setReg_out, houtout, hout]
  · rw [hrecord]
  · rw [hrecord]

end

end Sys2Proof.Machine

open Sys2Proof Sys2Proof.Machine

/-- Settles O14: each event's next state through the laws of edges, misses, leap seconds and pulses above. -/
theorem syncEventsAct : Obligations.SyncEventsAct := by
  refine ⟨fun s k alt lines ltc => ?_, fun s a k => ?_, fun s a harmed hreach => ?_, fun s a => ?_, fun s a => ?_, fun s a l => ?_⟩
  · intro p u j d w hin hio hen hform
    have hexec : exec (.synEdge k alt lines ltc) s = .next (s.synEdge k.val alt lines ltc) := rfl
    rw [State.synEdge_cases hin hio hen hform] at hexec
    refine ⟨fun hlo hhi hhit hlines hdecim => ?_, fun hout => ?_⟩
    · have hvalid : ¬ (w < d ∨ d < -w ∨ (s.synAt k.val).lastHit = some j ∨
          (k.val = 0 ∧ lines ≠ s.fld (pgSYN k.val) SynIn.LINES (11, 0))) := by
        simp only [not_or, not_lt, not_and, not_not]
        exact ⟨hhi, hlo, hhit, hlines⟩
      obtain ⟨hrecord, hdec⟩ := s.synValidEdge_leaves k j u ltc
      have hmem : (s.synValidEdge k j u ltc).mem = s.mem :=
        (State.synValidEdge_keeps (s.keeps_parts 0x10) (Keep.off_of_and (by decide))).mem_eq
      have hcount := State.synDecim_counts (s := s.synValidEdge k j u ltc) (k := k)
        (by rw [hrecord, State.fld, hdec]; exact hdecim) (s.captureErr k u)
      refine ⟨_, (hexec.trans (congrArg _ (if_neg hvalid))).trans (congrArg _ hcount), ?_⟩
      rw [State.synAt_setSyn, hrecord]
      exact ⟨rfl, rfl, rfl, hmem⟩
    · have hglitch : w < d ∨ d < -w ∨ (s.synAt k.val).lastHit = some j ∨
          (k.val = 0 ∧ lines ≠ s.fld (pgSYN k.val) SynIn.LINES (11, 0)) := hout.imp id .inl
      exact hexec.trans (congrArg _ (if_pos hglitch))
  · intro p near j close hin hio hen hreach
    have hnot : ¬ (synIsOut k.val = true ∨ s.ioState k.val = 0 ∨ s.enabled (pgSYN k.val) = false) := by
      simpa [hin, hio] using hen
    have hmiss : s.synMiss k.val = a.synMissAt k.val j := by
      rw [State.synMiss]
      exact (if_neg hnot).trans (State.atTime_reached hreach _)
    obtain ⟨hrun, hlast, hmem⟩ := a.synMissAt_leaves k.val j
    exact ⟨_, congrArg Host.Outcome.next hmiss, hrun, hlast, hmem.trans (State.reach_leaves hreach).2⟩
  · have hleap : s.leapApply = a.leapNow := by rw [State.leapApply, if_pos harmed, State.atTime_reached hreach]
    exact ⟨_, congrArg Host.Outcome.next hleap, a.leapNow_leaves⟩
  · intro n start stop hon hreach
    have hpulse : s.ppsPulse = a.synBegin 5 n stop (.pulse 5 (a.synHigh 5) start.toNat stop.toNat) := by
      rw [State.ppsPulse, hon, Bool.not_true, if_neg Bool.false_ne_true]
      exact State.atTime_reached hreach _
    refine ⟨fun hgate => ?_, fun hgate => ?_⟩
    · obtain ⟨hout, hhigh, hend, hmem⟩ := State.synBegin_open hgate n stop (.pulse 5 (a.synHigh 5) start.toNat stop.toNat)
      obtain ⟨hout', hmem'⟩ := State.reach_leaves hreach
      exact ⟨_, congrArg Host.Outcome.next hpulse, by rw [hout, hout'], hhigh, hend, hmem.trans hmem'⟩
    · exact congrArg Host.Outcome.next (hpulse.trans (State.synBegin_closed hgate _ _ _))
  · intro n start half hon hreach hgate
    have hframe : s.ltcFrame = a.synBegin 3 n (s.ltcRise (n + 1)) (.ltc (biphase half 0 (!a.synHigh 3) (a.ltcOutBits n))) := by
      rw [State.ltcFrame, hon, Bool.not_true, if_neg Bool.false_ne_true]
      exact State.atTime_reached hreach _
    obtain ⟨hout, hhigh, _, hmem⟩ := State.synBegin_open hgate n (s.ltcRise (n + 1))
      (.ltc (biphase half 0 (!a.synHigh 3) (a.ltcOutBits n)))
    obtain ⟨hout', hmem'⟩ := State.reach_leaves hreach
    exact ⟨_, congrArg Host.Outcome.next hframe, hhigh, hmem.trans hmem', by rw [hout, hout']⟩
  · intro stop hdue hreach hon hswath hgate
    have hframe : s.frameOutPulse
        = (a.frameOutMade l).synBegin 7 (l.start : Int) stop (.pulse 7 (a.synHigh 7) l.at_ stop.toNat) := by
      have hstate : (a.synOutOn 7 && (a.swathState l.swath == 1 || a.swathState l.swath == 2)) = true := by
        simpa [hon] using hswath
      rw [State.frameOutPulse, hdue]
      exact (State.atTime_reached hreach _).trans (if_pos hstate)
    have hgate' : (a.frameOutMade l).synGate 7 = true := hgate
    obtain ⟨hout, hhigh, _, hmem⟩ := State.synBegin_open hgate' (l.start : Int) stop (.pulse 7 (a.synHigh 7) l.at_ stop.toNat)
    obtain ⟨hout', hmem'⟩ := State.reach_leaves hreach
    exact ⟨_, congrArg Host.Outcome.next hframe, hhigh, hmem.trans hmem', hout.trans (congrArg _ hout')⟩

end

section
/-!
The Heath island: its ticks, its faults, the sources of a wake and what a wake leaves (R616 to R623, R690).
-/
set_option Elab.async false
namespace Sys2Proof.Machine

/-! ### Words -/

/-- The sum of the distinct powers that a predicate picks has just those bits. -/
theorem testBit_sum_pow (keep : Nat → Bool) (m : Nat) : ((List.range m).filter keep).foldl (fun a n => a + 2 ^ n) 0 < 2 ^ m ∧
    ∀ n < m, (((List.range m).filter keep).foldl (fun a n => a + 2 ^ n) 0).testBit n = keep n := by
  induction m with
  | zero => exact ⟨Nat.zero_lt_one, nofun⟩
  | succ m ih =>
    obtain ⟨hlt, hbit⟩ := ih
    rw [List.range_succ, List.filter_append, List.foldl_append]
    generalize ((List.range m).filter keep).foldl (fun a n => a + 2 ^ n) 0 = x at *
    have hhigh := Nat.testBit_lt_two_pow hlt
    have hnext {n : Nat} (hn : n < m + 1) : n < m ∨ n = m := by omega
    cases hkeep : keep m with
    | true =>
      simp only [List.filter_cons, hkeep, if_true, List.filter_nil, List.foldl_cons, List.foldl_nil]
      refine ⟨by rw [pow_succ]; omega, fun n hn => ?_⟩
      rw [Nat.add_comm]
      obtain hn | rfl := hnext hn
      · rw [Nat.testBit_two_pow_add_gt hn, hbit n hn]
      · rw [Nat.testBit_two_pow_add_eq, hhigh, hkeep]
        rfl
    | false =>
      simp only [List.filter_cons, hkeep, Bool.false_eq_true, if_false, List.filter_nil, List.foldl_nil]
      refine ⟨by rw [pow_succ]; omega, fun n hn => ?_⟩
      obtain hn | rfl := hnext hn
      · exact hbit n hn
      · rw [hhigh, hkeep]

theorem testBit_bits (w : Word) (f : Field) {n : Nat} (h : n + f.2 ≤ f.1) : (bits w f).testBit n = bit w (n + f.2) := by
  rw [bits, Nat.testBit_mod_two_pow, decide_eq_true (by omega), Bool.true_and, Nat.testBit_div_two_pow, bit]

theorem bits_low_byte (v : Nat) : bits (BitVec.ofNat 32 v) (7, 0) = v % 256 := by
  rw [bits, BitVec.toNat_ofNat, Nat.pow_zero, Nat.div_one]
  exact Nat.mod_mod_of_dvd v (by decide)

theorem filter_testBit_two_pow (keep : Nat → Bool) {c : Nat} (hc : c < 8) (hk : keep c = true) :
    (List.range 8).filter (fun i => (2 ^ c).testBit i && keep i) = [c] := by
  have hpick : (fun i => (2 ^ c).testBit i && keep i) = fun i => i == c := by
    funext i
    rw [Nat.testBit_two_pow]
    by_cases h : c = i
    · rw [← h, hk, decide_eq_true rfl, beq_self_eq_true]
      rfl
    · rw [decide_eq_false h, Bool.false_and, beq_eq_false_iff_ne.2 (Ne.symm h)]
  rw [hpick]
  rw [List.filter_beq, List.count_eq_one_of_mem List.nodup_range (List.mem_range.2 hc)]
  rfl

section
variable (s : State)

theorem State.flag_setFlag_self (page off : Nat) {n : Nat} (hn : n < 32) : (s.setFlag page off n true).flag page off n = true := by
  rw [State.flag, State.setFlag_eq, State.reg_setReg_self, if_pos rfl, bit_setBit _ _ _ hn, decide_eq_true rfl, Bool.true_or]

/-! ### The ticks and the faults of the island -/

theorem State.passTicks_live (n : Nat) : (s.passTicks n).live = s.live := by
  unfold State.passTicks
  split <;> rfl

theorem State.passTicks_pwr (n : Nat) : (s.passTicks n).pwr = s.pwr :=
  (State.passTicks_keeps (s.keeps_parts 0x100000000) (Keep.off_of_and (by decide))).pwr_eq

theorem State.passTicks_steady {P : Nat → Bool} (n : Nat) : s.Steady P (s.passTicks n) :=
  (State.Steady.refl s).upd (s.passTicks_live n)

theorem State.passTicks_standing {s : State} (h : s.timeRuns = false) (n : Nat) :
    (s.passTicks n).hth = { s.hth with tick := (s.hth.tick + n) % 2 ^ 48 } := by
  rw [State.passTicks, h, if_neg Bool.false_ne_true]

/-- A fault of the island sets its bit and raises no other register of the pages of power and time. -/
theorem State.fault_hth_steady {P : Nat → Bool} (n : Nat) : (s.setFlag pgHTH PAGE_FAULT n true).Steady P (s.fault pgHTH n) := by
  rw [s.fault_eq_faultHere pageInfo_pgHTH rfl]
  generalize ht : s.setFlag pgHTH PAGE_FAULT n true = t
  have heq : s.faultHere pgHTH n = if s.faultMuted pgHTH ⟨.hth, 0, 0⟩ then t else t.irq 19 := by
    rw [State.faultHere, ht, pageInfo_pgHTH]
    rfl
  rw [heq]
  exact (State.Steady.refl t).ite (t.irq_steady 19)

theorem State.reg_fault_hth {n off : Nat} (hoff : off < 0x1000) (hwake : wakeKey (regKey pgHTH off) = false) (hne : off ≠ PAGE_FAULT) :
    (s.fault pgHTH n).reg pgHTH off = s.reg pgHTH off := by
  have hpage : regKey pgHTH off / 0x1000 = pgHTH := by simp only [regKey]; omega
  have hkey : steadyKey (fun _ => true) (regKey pgHTH off) = true := by
    rw [steadyKey, hpage, hwake]
    decide
  have hpwr : regKey pgHTH off ≠ pwrKey := by simp only [regKey, pgHTH, pwrKey, pgPWR, PAGE_STATUS]; omega
  rw [(s.fault_hth_steady n).reg hkey hpwr, State.setFlag_eq, State.reg_setReg_ne _ _ (by simpa using hne)]

theorem State.flag_fault_hth {n : Nat} (hn : n < 32) : (s.fault pgHTH n).flag pgHTH PAGE_FAULT n = true := by
  rw [State.flag, (s.fault_hth_steady (P := fun _ => true) n).reg (by decide) (by decide)]
  exact s.flag_setFlag_self pgHTH PAGE_FAULT hn

theorem State.fault_sleep (page n : Nat) : (s.fault page n).pwr = s.pwr ∧ (s.fault page n).hth = s.hth ∧
    (s.fault page n).boot = s.boot :=
  have h := State.fault_keeps (page := page) (n := n) (s.keeps_parts 0x700000000) (Keep.off_of_and (by decide))
  ⟨h.pwr_eq, h.hth_eq, h.boot_eq⟩

/-! ### Sources (R616) -/

/-- A source of code `c` is recognised when the enabled pins that saw an edge are `p`. -/
def State.wakeKept (s : State) (p c : Nat) : Bool :=
  match c with
  | 1 => p != 0
  | 2 => s.flag pgHTH Hth.WAKE_EN 16
  | 3 => s.flag pgHTH Hth.WAKE_EN 17
  | 4 => s.flag pgHTH Hth.WAKE_EN 18
  | 5 => s.pwr.phase == PwrPhase.asleep
  | 6 | 7 => s.pwr.phase == PwrPhase.on && s.pwrState == 1
  | _ => false

theorem State.wakeKept_pin {s : State} {p : Nat} (h : p ≠ 0) : s.wakeKept p 1 = true := bne_iff_ne.2 h

/-- The enabled pins among `pins`. -/
def State.wakePins (s : State) (pins : Nat) : Nat := pins % 16 &&& bits (s.reg pgHTH Hth.WAKE_EN) (3, 0)

theorem State.recognised_eq (seen pins : Nat) : s.recognised seen pins
    = (((List.range 8).filter (fun c => seen.testBit c && s.wakeKept (s.wakePins pins) c)).foldl (fun a c => a + 2 ^ c) 0,
       if seen.testBit 1 then s.wakePins pins else 0) := rfl

theorem State.recognised_kept {s : State} {pins c : Nat} (hc : c < 8) (h : s.wakeKept (s.wakePins pins) c = true) :
    s.recognised (2 ^ c) pins = (2 ^ c, if (2 ^ c).testBit 1 then s.wakePins pins else 0) := by
  rw [State.recognised_eq, filter_testBit_two_pow _ hc h, List.foldl_cons, List.foldl_nil, Nat.zero_add]

/-- A sleeping device begins its exit on a source that is recognised. -/
theorem State.wakeBy_asleep {s : State} {pins c : Nat} (hc : c < 8) (h : s.wakeKept (s.wakePins pins) c = true)
    (hs : s.pwr.phase = .asleep) : ∃ p, s.wakeBy (2 ^ c) pins = s.beginExit (2 ^ c) p := by
  refine ⟨if (2 ^ c).testBit 1 then s.wakePins pins else 0, ?_⟩
  rw [State.wakeBy, State.recognised_kept hc h]
  dsimp only
  rw [if_neg (Nat.two_pow_pos c).ne', hs]

/-- An entry is abandoned on a source that is recognised. -/
theorem State.wakeBy_entering {s : State} {pins c : Nat} (hc : c < 8) (h : s.wakeKept (s.wakePins pins) c = true)
    (hs : s.pwr.phase = .entering) : s.wakeBy (2 ^ c) pins = s.abortEntry (2 ^ c) (if (2 ^ c).testBit 1 then s.wakePins pins else 0) := by
  rw [State.wakeBy, State.recognised_kept hc h]
  dsimp only
  rw [if_neg (Nat.two_pow_pos c).ne', hs]

/-- An edge of an enabled pin is recognised. -/
theorem State.wakePins_ne_zero {s : State} {pins n : Nat} (hn : n < 4) (hp : pins.testBit n = true)
    (he : s.flag pgHTH Hth.WAKE_EN n = true) : s.wakePins pins ≠ 0 := by
  have hbit : (s.wakePins pins).testBit n = true := by
    rw [State.wakePins, Nat.testBit_and, testBit_bits _ _ (by simp only; omega), show (16 : Nat) = 2 ^ 4 from rfl,
      Nat.testBit_mod_two_pow, hp, decide_eq_true hn]
    exact he
  intro hzero
  rw [hzero, Nat.zero_testBit] at hbit
  exact Bool.false_ne_true hbit

/-! ### The record of a wake, and the exit -/

/-- The value of WAKE_RECORD for a wake. -/
def wakeRecord (from_ : Nat) (aborted : Bool) (seen pins : Nat) : Nat :=
  (if aborted then 2 ^ 24 else 0) + from_ * 2 ^ 20 + (pins % 16) * 2 ^ 16 + (seen % 256) * 2 ^ 8 + lowestCode seen

/-- Its low byte is the lowest code. -/
theorem wakeRecord_low (from_ : Nat) (aborted : Bool) (seen pins : Nat) :
    wakeRecord from_ aborted seen pins % 256 = lowestCode seen % 256 := by
  have hhigh : wakeRecord from_ aborted seen pins
      = 256 * ((if aborted = true then 2 ^ 16 else 0) + from_ * 2 ^ 12 + (pins % 16) * 2 ^ 8 + seen % 256) + lowestCode seen := by
    unfold wakeRecord
    split <;> ring
  rw [hhigh, Nat.mul_add_mod]

theorem State.loadWake_eq (from_ : Nat) (aborted : Bool) (seen pins : Nat) : s.loadWake from_ aborted seen pins
    = ((s.setNat pgHTH Hth.WAKE_RECORD (wakeRecord from_ aborted seen pins)).setNat pgHTH Hth.WAKE_TICK_LO (s.htick % 2 ^ 32)).setNat
      pgHTH Hth.WAKE_TICK_HI (s.htick / 2 ^ 32) := rfl

theorem State.reg_loadWake {page off : Nat} (h : wakeKey (regKey page off) = false) (from_ : Nat) (aborted : Bool) (seen pins : Nat) :
    (s.loadWake from_ aborted seen pins).reg page off = s.reg page off := by
  simp only [wakeKey, Bool.or_eq_false_iff, beq_eq_false_iff_ne] at h
  obtain ⟨⟨hrecord, hlow⟩, hhigh⟩ := h
  rw [State.loadWake_eq, State.setNat_eq, State.setNat_eq, State.setNat_eq, State.reg_setReg_ne _ _ hhigh, State.reg_setReg_ne _ _ hlow,
    State.reg_setReg_ne _ _ hrecord]

theorem State.loadWake_record (from_ : Nat) (aborted : Bool) (seen pins : Nat) :
    (s.loadWake from_ aborted seen pins).fld pgHTH Hth.WAKE_RECORD (7, 0) = lowestCode seen % 256 := by
  rw [State.loadWake_eq, State.fld, State.setNat_eq, State.setNat_eq, State.setNat_eq, State.reg_setReg_ne _ _ (by decide),
    State.reg_setReg_ne _ _ (by decide), State.reg_setReg_self, bits_low_byte, wakeRecord_low]

theorem State.reg_setPwr (p : PwrState) (page off : Nat) : (s.setPwr p).reg page off = s.reg page off := rfl

theorem State.fld_setPwr (p : PwrState) (page off : Nat) (f : Field) : (s.setPwr p).fld page off f = s.fld page off f := rfl

/-- A sleeping device whose wake is recorded. -/
def State.exitNoted (s : State) (seen pins : Nat) : State :=
  (s.loadWake s.pwr.target false seen pins).setSts pgHTH Hth.S_REG_MODE 0

theorem State.beginExit_retain {s : State} (h : s.pwr.target = 2) (seen pins : Nat) : s.beginExit seen pins
    = (s.exitNoted seen pins).setPwr { (s.exitNoted seen pins).pwr with
        fresh := seen.testBit 5, phase := .coreRising, coreOn := true, wakeN := true } := if_pos h

theorem State.beginExit_heath {s : State} (h : s.pwr.target ≠ 2) (seen pins : Nat) : s.beginExit seen pins
    = (s.exitNoted seen pins).setPwr { (s.exitNoted seen pins).pwr with
        fresh := seen.testBit 5, phase := .ioRising, ioOn := true } := if_neg h

theorem State.exitNoted_record (seen pins : Nat) :
    (s.exitNoted seen pins).fld pgHTH Hth.WAKE_RECORD (7, 0) = lowestCode seen % 256 := by
  rw [State.exitNoted, State.fld, State.reg_setSts_ne _ _ _ (by decide)]
  exact s.loadWake_record s.pwr.target false seen pins

/-- From Retain VCORE rises at once, from Heath VIO first; the wake is recorded. -/
theorem State.beginExit_leaves (seen pins : Nat) :
    (s.beginExit seen pins).pwr.phase = (if s.pwr.target = 2 then .coreRising else .ioRising) ∧
    (s.beginExit seen pins).fld pgHTH Hth.WAKE_RECORD (7, 0) = lowestCode seen % 256 := by
  by_cases htarget : s.pwr.target = 2
  · rw [if_pos htarget, State.beginExit_retain htarget, State.fld_setPwr]
    exact ⟨rfl, s.exitNoted_record seen pins⟩
  · rw [if_neg htarget, State.beginExit_heath htarget, State.fld_setPwr]
    exact ⟨rfl, s.exitNoted_record seen pins⟩

theorem State.wakeBy_hth (seen pins : Nat) : (s.wakeBy seen pins).hth = s.hth :=
  (State.wakeBy_keeps (s.keeps_parts 0x200000000) (Keep.off_of_and (by decide))).hth_eq

theorem State.loadWake_steady {P : Nat → Bool} (from_ : Nat) (aborted : Bool) (seen pins : Nat) :
    s.Steady P (s.loadWake from_ aborted seen pins) := by
  have hwake {off : Nat} (h : wakeKey (regKey pgHTH off) = true) : steadyKey P (regKey pgHTH off) = false := by
    rw [steadyKey, h, Bool.not_true, Bool.and_false]
  rw [State.loadWake_eq]
  exact (((State.Steady.refl s).setReg_of (hwake (by decide))).setReg_of (hwake (by decide))).setReg_of (hwake (by decide))

theorem State.setPwrState_steady {P : Nat → Bool} (hP : P pgPWR = false) (n : Nat) : s.Steady P (s.setPwrState n) :=
  (State.Steady.refl s).ite ((State.Steady.refl s).setReg_left hP).irq

theorem State.setPwr_steady {P : Nat → Bool} (p : PwrState) : s.Steady P (s.setPwr p) := (State.Steady.refl s).upd rfl

/-- An abandoned entry changes no register of the island but the record of its wake. -/
theorem State.abortEntry_steady {P : Nat → Bool} (hP : P pgPWR = false) (seen pins : Nat) : s.Steady P (s.abortEntry seen pins) := by
  have hfault (a : State) : a.Steady P (a.fault pgPWR Pwr.F_SLEEP_ABORTED) := by
    rw [a.fault_eq_faultHere pageInfo_pgPWR rfl]
    refine (State.Steady.refl a).faultHere ?_
    rw [steadyKey, show regKey pgPWR PAGE_FAULT / 0x1000 = pgPWR from by decide, hP, Bool.and_false]
    rfl
  exact (((((s.loadWake_steady 0 true seen pins).trans (State.setPwr_steady _ _)).setReg_left hP).trans
    (State.setPwrState_steady _ hP 0)).trans (hfault _))

/-- A wake begins the exit of a sleeping device; of any other it changes no register of the island but its record. -/
theorem State.wakeBy_cases (seen pins : Nat) : (∃ a b, s.wakeBy seen pins = s.beginExit a b) ∨
    s.Steady (fun p => p == pgHTH) (s.wakeBy seen pins) := by
  unfold State.wakeBy
  generalize s.recognised seen pins = x
  dsimp only
  split
  · exact .inr (.refl s)
  · split
    · split
      · next hdoze => exact .inr ((State.leaveDoze_steady hdoze _ _).irq)
      · exact .inr (.refl s)
    · exact .inr (s.abortEntry_steady (by decide) _ _)
    · exact .inr (s.abortEntry_steady (by decide) _ _)
    · exact .inl ⟨_, _, rfl⟩
    · exact .inr (.refl s)

theorem State.reg_beginExit (seen pins page off : Nat) : (s.beginExit seen pins).reg page off = (s.exitNoted seen pins).reg page off := by
  by_cases htarget : s.pwr.target = 2
  · rw [State.beginExit_retain htarget, State.reg_setPwr]
  · rw [State.beginExit_heath htarget, State.reg_setPwr]

/-- The fault bits of the island stay in a wake. -/
theorem State.reg_wakeBy_fault (seen pins : Nat) : (s.wakeBy seen pins).reg pgHTH PAGE_FAULT = s.reg pgHTH PAGE_FAULT := by
  obtain ⟨a, b, h⟩ | h := s.wakeBy_cases seen pins
  · rw [h, State.reg_beginExit, State.exitNoted, State.reg_setSts_ne _ _ _ (by decide), State.reg_loadWake _ (by decide)]
  · exact h.reg (by decide) (by decide)

/-- The state of the island stays in a wake, but for REG_MODE. -/
theorem State.sts_wakeBy {f : Field} (hf : Hth.S_REG_MODE.1 < f.2 ∨ (f.1 < Hth.S_REG_MODE.2 ∧ f.2 ≤ f.1)) (seen pins : Nat) :
    (s.wakeBy seen pins).sts pgHTH f = s.sts pgHTH f := by
  obtain ⟨a, b, h⟩ | h := s.wakeBy_cases seen pins
  · rw [h, State.sts, State.fld, State.reg_beginExit, State.exitNoted, State.setSts_eq, State.reg_setReg_self,
      bits_putBits_of_apart _ (by decide) _ hf, State.reg_loadWake _ (by decide)]
    rfl
  · rw [State.sts, State.fld, h.reg (by decide) (by decide)]
    rfl

/-! ### Edges of WAKE_IN -/

/-- The pins of an edge whose direction is the enabled one. -/
def State.wakeEdges (s : State) (pins rising : Nat) : Nat :=
  ((List.range 4).filter (fun n => pins.testBit n && (rising.testBit n != (s.fld pgHTH Hth.WAKE_EN (11, 8)).testBit n))).foldl
    (fun a n => a + 2 ^ n) 0

theorem State.wakeIn_eq (pins rising held ticks : Nat) : s.wakeIn pins rising held ticks
    = if held < (s.passTicks ticks).xtSeen.fld pgHTH Hth.HTH_CFG (4, 0) then (s.passTicks ticks).xtSeen
      else (s.passTicks ticks).xtSeen.wakeBy 2 ((s.passTicks ticks).xtSeen.wakeEdges pins rising) := rfl

theorem State.testBit_wakeEdges (pins rising : Nat) {n : Nat} (hn : n < 4) : (s.wakeEdges pins rising).testBit n
    = (pins.testBit n && (rising.testBit n != s.flag pgHTH Hth.WAKE_EN (8 + n))) := by
  rw [State.wakeEdges, (testBit_sum_pow _ 4).2 _ hn, State.fld, testBit_bits _ _ (by simp only; omega), Nat.add_comm, State.flag]

theorem State.reg_xtSeen {page off : Nat} (h : regKey page off ≠ regKey pgHTH PAGE_STATUS) (n : Nat) :
    (s.passTicks n).xtSeen.reg page off = s.reg page off := by
  rw [State.xtSeen, State.reg_setSts_ne _ _ _ h, State.reg, State.passTicks_live, State.reg]

theorem State.xtSeen_pwr (n : Nat) : (s.passTicks n).xtSeen.pwr = s.pwr := by
  rw [State.xtSeen, State.setSts_eq, State.setReg_pwr, State.passTicks_pwr]

/-- A sleeping device wakes on an edge of an enabled pin. -/
theorem State.wakeBy_edges {s : State} {pins rising n : Nat} (hs : s.pwr.phase = .asleep) (hn : n < 4) (hp : pins.testBit n = true)
    (he : s.flag pgHTH Hth.WAKE_EN n = true) (hr : rising.testBit n ≠ s.flag pgHTH Hth.WAKE_EN (8 + n)) :
    (s.wakeBy 2 (s.wakeEdges pins rising)).pwr.phase = (if s.pwr.target = 2 then .coreRising else .ioRising) ∧
    (s.wakeBy 2 (s.wakeEdges pins rising)).fld pgHTH Hth.WAKE_RECORD (7, 0) = 1 := by
  have hedge : (s.wakeEdges pins rising).testBit n = true := by
    rw [s.testBit_wakeEdges pins rising hn, hp, Bool.true_and, bne_iff_ne]
    exact hr
  have hseen := State.wakePins_ne_zero hn hedge he
  obtain ⟨p, hexit⟩ := State.wakeBy_asleep (c := 1) (by decide) (State.wakeKept_pin hseen) hs
  obtain ⟨hphase, hrecord⟩ := s.beginExit_leaves 2 p
  have hcode : lowestCode 2 % 256 = 1 := by decide
  rw [pow_one] at hexit
  rw [hexit, hphase, hrecord, hcode]
  exact ⟨rfl, rfl⟩

/-- Edges that were stable long enough wake a sleeping device when one of them is enabled. -/
theorem State.wakeIn_wakes {s : State} {pins rising held ticks n : Nat} (hheld : s.fld pgHTH Hth.HTH_CFG (4, 0) ≤ held)
    (hs : s.pwr.phase = .asleep) (hn : n < 4) (hp : pins.testBit n = true) (he : s.flag pgHTH Hth.WAKE_EN n = true)
    (hr : rising.testBit n ≠ s.flag pgHTH Hth.WAKE_EN (8 + n)) :
    (s.wakeIn pins rising held ticks).pwr.phase = (if s.pwr.target = 2 then .coreRising else .ioRising) ∧
    (s.wakeIn pins rising held ticks).fld pgHTH Hth.WAKE_RECORD (7, 0) = 1 := by
  have hen (m : Nat) : (s.passTicks ticks).xtSeen.flag pgHTH Hth.WAKE_EN m = s.flag pgHTH Hth.WAKE_EN m := by
    rw [State.flag, s.reg_xtSeen (by decide), State.flag]
  have hcfg : (s.passTicks ticks).xtSeen.fld pgHTH Hth.HTH_CFG (4, 0) = s.fld pgHTH Hth.HTH_CFG (4, 0) := by
    rw [State.fld, s.reg_xtSeen (by decide), State.fld]
  have hpwr := s.xtSeen_pwr ticks
  have hwake := State.wakeBy_edges (s := (s.passTicks ticks).xtSeen) (by rw [hpwr, hs]) hn hp ((hen n).trans he)
    (by rw [hen]; exact hr)
  rw [State.wakeIn_eq, hcfg, if_neg (Nat.not_lt.2 hheld)]
  rw [hpwr] at hwake
  exact hwake

/-- A recognised source begins the exit of a sleeping device. -/
theorem State.wakeBy_phase {s : State} {c : Nat} (hc : c < 8) (h : s.wakeKept (s.wakePins 0) c = true)
    (hs : s.pwr.phase = .asleep) : (s.wakeBy (2 ^ c) 0).pwr.phase = if s.pwr.target = 2 then .coreRising else .ioRising := by
  obtain ⟨p, hexit⟩ := State.wakeBy_asleep hc h hs
  rw [hexit]
  exact (s.beginExit_leaves _ _).1

/-! ### The alarm -/

theorem State.alarm_lt : s.alarm < 2 ^ 48 := by
  have hlow : s.nat pgHTH Hth.ALARM_LO < 2 ^ 32 := (s.reg pgHTH Hth.ALARM_LO).isLt
  have hhigh : s.fld pgHTH Hth.ALARM_HI (15, 0) < 2 ^ 16 := Nat.mod_lt _ (by decide)
  unfold State.alarm
  generalize s.nat pgHTH Hth.ALARM_LO = x at *
  generalize s.fld pgHTH Hth.ALARM_HI (15, 0) = y at *
  omega

theorem State.htick_lt : s.htick < 2 ^ 48 := Nat.mod_lt _ (by decide)

/-- The ticks that pass until the alarm bring HTICK to it. -/
theorem alarm_reached {t a : Nat} (ht : t < 2 ^ 48) (ha : a < 2 ^ 48) : (t + (a + 2 ^ 48 - t) % 2 ^ 48) % 2 ^ 48 = a := by omega

/-- While the timeline stands, the alarm wakes a sleeping device at its tick. -/
theorem State.heathAlarm_asleep {s : State} (hon : s.alarmOn = true) (hs : s.pwr.phase = .asleep) (hstand : s.timeRuns = false)
    (htick : s.htick = s.hth.tick) : s.heathAlarm.pwr.phase = (if s.pwr.target = 2 then .coreRising else .ioRising) ∧
    s.heathAlarm.hth.tick = s.alarm := by
  have heq : s.heathAlarm = (s.passTicks ((s.alarm + 2 ^ 48 - s.htick) % 2 ^ 48)).wakeBy (2 ^ 2) 0 := by
    rw [State.heathAlarm, hon, Bool.not_true, if_neg Bool.false_ne_true, hstand]
    exact if_neg Bool.false_ne_true
  have hkept (n : Nat) : (s.passTicks n).wakeKept ((s.passTicks n).wakePins 0) 2 = true := by
    rw [State.wakeKept, State.flag, (s.passTicks_steady (P := fun _ => true) n).reg (by decide) (by decide)]
    exact hon
  refine ⟨?_, ?_⟩
  · rw [heq, State.wakeBy_phase (by decide) (hkept _) (by rw [State.passTicks_pwr, hs]), State.passTicks_pwr]
  · rw [heq, State.wakeBy_hth, State.passTicks_standing hstand]
    have hreach := alarm_reached s.htick_lt s.alarm_lt
    rw [htick] at hreach ⊢
    exact hreach

/-- In an entry the alarm abandons it at its tick edge. -/
theorem State.heathAlarm_entering {s a : State} (hon : s.alarmOn = true) (hs : s.pwr.phase = .entering) (hrun : s.timeRuns = true)
    (hn : (s.alarm + 2 ^ 48 - s.htick) % 2 ^ 48 ≠ 0)
    (hreach : s.reach (s.hth.edge + ((s.ticksSince + (s.alarm + 2 ^ 48 - s.htick) % 2 ^ 48) * TICK : Nat)).toNat = some a) :
    s.heathAlarm = a.abortEntry 4 0 := by
  have heq : s.heathAlarm = a.wakeBy (2 ^ 2) 0 := by
    rw [State.heathAlarm, hon, Bool.not_true, if_neg Bool.false_ne_true, hrun]
    exact ((if_pos rfl).trans (if_neg hn)).trans (State.atTime_reached hreach _)
  have hpwr : a.pwr = s.pwr := (State.reach_keeps (s.keeps_parts 0x100000000) (Keep.off_of_and (by decide)) a hreach).pwr_eq
  have hsteady : s.Steady (fun p => p == pgHTH) a := by
    rw [State.reach, hrun, if_pos rfl] at hreach
    split at hreach
    · cases hreach
      exact .refl s
    · cases hreach
      exact s.advance_steady (by decide) _
  have hkept : a.wakeKept (a.wakePins 0) 2 = true := by
    rw [State.wakeKept, State.flag, hsteady.reg (by decide) (by decide)]
    exact hon
  rw [heq, State.wakeBy_entering (by decide) hkept (by rw [hpwr, hs])]
  rfl

end

end Sys2Proof.Machine
end

section
/-!
The sleep and the wake: the island's faults and resets, the start of the die, the restart of the timeline (R99, R614 to R623, R690).
-/
set_option Elab.async false
namespace Sys2Proof.Machine

section
variable (s : State)

/-! ### XT32 and the seal (R621, R690) -/

theorem State.sts_setSts_apart {f g : Field} (hf : Field.fits f) (h : f.1 < g.2 ∨ (g.1 < f.2 ∧ g.2 ≤ g.1)) (page n : Nat) :
    (s.setSts page f n).sts page g = s.sts page g := by
  rw [State.sts, State.fld, State.setSts_eq, State.reg_setReg_self, bits_putBits_of_apart _ hf _ h, State.sts, State.fld]

/-- XT32 has stopped: XT32_OK and TK_VALID are cleared and XT32_FAIL is set. -/
def State.xtFailed (s : State) (ticks : Nat) : State :=
  (((s.passTicks ticks).setSts pgHTH Hth.S_XT32_OK 0).setSts pgHTH Hth.S_TK_VALID 0).fault pgHTH Hth.F_XT32_FAIL

theorem State.xt32Fail_eq (ticks : Nat) : s.xt32Fail ticks = (s.xtFailed ticks).wakeBy (2 ^ 4) 0 := rfl

theorem State.xtFailed_leaves (ticks : Nat) : (s.xtFailed ticks).sts pgHTH Hth.S_XT32_OK = 0 ∧
    (s.xtFailed ticks).sts pgHTH Hth.S_TK_VALID = 0 ∧ (s.xtFailed ticks).flag pgHTH PAGE_FAULT Hth.F_XT32_FAIL = true ∧
    (s.xtFailed ticks).reg pgHTH Hth.WAKE_EN = s.reg pgHTH Hth.WAKE_EN ∧ (s.xtFailed ticks).pwr = s.pwr := by
  have hpass := s.passTicks_live ticks
  have hpwr := s.passTicks_pwr ticks
  rw [State.xtFailed]
  generalize s.passTicks ticks = a at *
  have hsts (b : State) (f : Field) : (b.fault pgHTH Hth.F_XT32_FAIL).sts pgHTH f = b.sts pgHTH f := by
    rw [State.sts, State.fld, b.reg_fault_hth (by decide) (by decide) (by decide), State.sts, State.fld]
  refine ⟨?_, ?_, State.flag_fault_hth _ (by decide), ?_, ?_⟩
  · rw [hsts, State.sts_setSts_apart _ (by decide) (by decide), State.sts_setSts_self _ _ (by decide)]
    rfl
  · rw [hsts, State.sts_setSts_self _ _ (by decide)]
    rfl
  · rw [State.reg_fault_hth _ (by decide) (by decide) (by decide), State.reg_setSts_ne _ _ _ (by decide),
      State.reg_setSts_ne _ _ _ (by decide), State.reg, hpass, State.reg]
  · rw [(State.fault_sleep _ _ _).1, State.setSts_eq, State.setReg_pwr, State.setSts_eq, State.setReg_pwr, hpwr]

/-- The seal loop has been checked, `n` misses in a row. -/
def State.sealCounted (s : State) (n : Nat) : State := { s with hth := { s.hth with sealMisses := n } }

/-- The seal is open: SEAL_OPEN, and code 0x840 now or at the next Run. -/
def State.sealOpened (s : State) : State :=
  if s.flag pgHTH PAGE_FAULT Hth.F_SEAL_OPEN then s.fault pgHTH Hth.F_SEAL_OPEN
  else if s.pwr.phase == PwrPhase.on && s.pwrState == 0 then (s.fault pgHTH Hth.F_SEAL_OPEN).trigger 0x840 pgFWU
  else { s.fault pgHTH Hth.F_SEAL_OPEN with hth := { (s.fault pgHTH Hth.F_SEAL_OPEN).hth with sealDue := true } }

/-- The misses in a row after a check. -/
def State.sealMissed (s : State) (follows : Bool) : Nat := if follows then 0 else s.hth.sealMisses + 1

theorem State.sealCheck_eq (follows : Bool) (ticks : Nat) : s.sealCheck follows ticks
    = if (s.passTicks ticks).xtSeen.sealMissed follows < 2 then
        (s.passTicks ticks).xtSeen.sealCounted ((s.passTicks ticks).xtSeen.sealMissed follows)
      else ((s.passTicks ticks).xtSeen.sealCounted ((s.passTicks ticks).xtSeen.sealMissed follows)).sealOpened.wakeBy (2 ^ 3) 0 := rfl

theorem State.sealCounted_leaves (n : Nat) : (s.sealCounted n).hth.sealMisses = n ∧ (s.sealCounted n).pwr = s.pwr ∧
    (s.sealCounted n).live = s.live := ⟨rfl, rfl, rfl⟩

theorem State.sealMissed_xtSeen (follows : Bool) (ticks : Nat) :
    (s.passTicks ticks).xtSeen.sealMissed follows = s.sealMissed follows := by
  have hpass : (s.passTicks ticks).hth.sealMisses = s.hth.sealMisses := by
    unfold State.passTicks
    split <;> rfl
  rw [State.sealMissed, State.xtSeen, State.setSts_eq, State.setReg_hth, hpass, State.sealMissed]

theorem State.sealOpened_leaves : s.sealOpened.hth.sealMisses = s.hth.sealMisses ∧ s.sealOpened.pwr = s.pwr ∧
    s.sealOpened.flag pgHTH PAGE_FAULT Hth.F_SEAL_OPEN = true ∧
    s.sealOpened.reg pgHTH Hth.WAKE_EN = s.reg pgHTH Hth.WAKE_EN := by
  obtain ⟨hpwr, hhth, -⟩ := s.fault_sleep pgHTH Hth.F_SEAL_OPEN
  have hflag := s.flag_fault_hth (n := Hth.F_SEAL_OPEN) (by decide)
  have hen := s.reg_fault_hth (n := Hth.F_SEAL_OPEN) (off := Hth.WAKE_EN) (by decide) (by decide) (by decide)
  rw [State.sealOpened]
  generalize s.fault pgHTH Hth.F_SEAL_OPEN = a at *
  have htrigger := State.trigger_keeps (code := 0x840) (page := pgFWU) (a.keeps_parts 0x300000000) (Keep.off_of_and (by decide))
  have hsteady := a.trigger_steady (P := fun _ => true) 0x840 pgFWU
  split
  · exact ⟨by rw [hhth], hpwr, hflag, hen⟩
  · split
    · refine ⟨by rw [htrigger.hth_eq, hhth], htrigger.pwr_eq.trans hpwr, ?_, (hsteady.reg (by decide) (by decide)).trans hen⟩
      rw [State.flag, hsteady.reg (by decide) (by decide)]
      exact hflag
    · refine ⟨?_, hpwr, hflag, hen⟩
      rw [← hhth]

/-- Two misses in a row open the seal, which wakes a sleeping device where SEAL is enabled. -/
theorem State.sealCheck_open {s : State} (h : 1 ≤ s.hth.sealMisses) (ticks : Nat) :
    (s.sealCheck false ticks).hth.sealMisses = s.hth.sealMisses + 1 ∧
    (s.sealCheck false ticks).flag pgHTH PAGE_FAULT Hth.F_SEAL_OPEN = true ∧
    (s.pwr.phase = .asleep → s.flag pgHTH Hth.WAKE_EN 17 = true →
      (s.sealCheck false ticks).pwr.phase = if s.pwr.target = 2 then .coreRising else .ioRising) := by
  have hmissed : s.sealMissed false = s.hth.sealMisses + 1 := rfl
  have hpwr := s.xtSeen_pwr ticks
  have hen := s.reg_xtSeen (page := pgHTH) (off := Hth.WAKE_EN) (by decide) ticks
  rw [State.sealCheck_eq, State.sealMissed_xtSeen, if_neg (by omega), hmissed]
  generalize (s.passTicks ticks).xtSeen = a at *
  obtain ⟨hmisses', hpwr', hlive'⟩ := a.sealCounted_leaves (s.hth.sealMisses + 1)
  have hen' : (a.sealCounted (s.hth.sealMisses + 1)).reg pgHTH Hth.WAKE_EN = s.reg pgHTH Hth.WAKE_EN := by
    rw [State.reg, hlive', ← hen, State.reg]
  generalize a.sealCounted (s.hth.sealMisses + 1) = b at *
  obtain ⟨hmisses, hpwrb, hflag, henb⟩ := b.sealOpened_leaves
  generalize b.sealOpened = c at *
  refine ⟨by rw [State.wakeBy_hth, hmisses, hmisses'], ?_, fun hs he => ?_⟩
  · rw [State.flag, State.reg_wakeBy_fault]
    exact hflag
  · have hkept : c.wakeKept (c.wakePins 0) 3 = true := by
      rw [State.wakeKept, State.flag, henb, hen']
      exact he
    have hpwrs : c.pwr = s.pwr := by rw [hpwrb, hpwr', hpwr]
    rw [State.wakeBy_phase (by decide) hkept (by rw [hpwrs, hs]), hpwrs]

/-- Any other check notes the misses alone. -/
theorem State.sealCheck_closed {s : State} {follows : Bool} (h : s.sealMissed follows < 2) (ticks : Nat) :
    (s.sealCheck follows ticks).hth.sealMisses = s.sealMissed follows := by
  rw [State.sealCheck_eq, State.sealMissed_xtSeen, if_pos h]
  exact (State.sealCounted_leaves _ _).1

/-! ### Resets of the island (R620) -/

/-- The island in its reset state, before ISLAND_RESET is set. -/
def State.islandReset (s : State) : State :=
  { s with live := Tab.keep (fun k => !isHthKey k) s.live, hth := { HthState.init with edge := s.tln.now } }

theorem State.resetHth_leaves : s.resetHth.flag pgHTH PAGE_FAULT Hth.F_ISLAND_RESET = true ∧ s.resetHth.hth.tick = 0 ∧
    s.resetHth.pwr = s.pwr ∧ s.resetHth.boot = s.boot := by
  have heq : s.resetHth = s.islandReset.fault pgHTH Hth.F_ISLAND_RESET := rfl
  have hreset : s.islandReset.hth.tick = 0 ∧ s.islandReset.pwr = s.pwr ∧ s.islandReset.boot = s.boot := ⟨rfl, rfl, rfl⟩
  rw [heq]
  generalize s.islandReset = a at *
  obtain ⟨hpwr, hhth, hboot⟩ := a.fault_sleep pgHTH Hth.F_ISLAND_RESET
  obtain ⟨htick, hpwr', hboot'⟩ := hreset
  exact ⟨a.flag_fault_hth (by decide), by rw [hhth, htick], hpwr.trans hpwr', hboot.trans hboot'⟩

/-- A cold start begins with VCORE, the timeline standing. -/
theorem State.coldStart_leaves (cause : Nat) : (s.coldStart cause).pwr.phase = .coreRising ∧ (s.coldStart cause).pwr.coldCause = cause ∧
    (s.coldStart cause).live = s.live ∧ (s.coldStart cause).hth = s.hth ∧ (s.coldStart cause).boot.captured = none ∧
    (s.coldStart cause).timeRuns = false := by
  refine ⟨rfl, rfl, rfl, rfl, rfl, ?_⟩
  have hstop : (s.coldStart cause).tln.stopped = true := rfl
  rw [State.timeRuns, hstop, Bool.not_true, Bool.and_false]

/-! ### The start of the die (R618, R622, R623, R642) -/

theorem State.railBits_pwr : s.railBits.pwr = s.pwr := rfl

theorem State.hardReset_phase (package : Bool) (cause : Nat) : (s.hardReset package cause).pwr.phase = .on := by
  obtain ⟨b, heq, hphase⟩ : ∃ b : State, s.hardReset package cause = (b.railBits.setFld pgCLK Clk.CLK_STATUS (3, 3)
      (s.fld pgSYS Sys.SYS_CFG (0, 0))).setSts pgTLN Tln.S_TL_STATE (if s.timeKept.isSome then 4 else 0) ∧ b.pwr.phase = .on :=
    ⟨_, rfl, rfl⟩
  rw [heq, State.setSts_eq, State.setReg_pwr, State.setFld_eq, State.setReg_pwr, State.railBits_pwr, hphase]

theorem State.packageReset_phase (cause : Nat) (b m : Bool) : (s.packageReset cause b m).pwr.phase = .on := by
  have hphase := s.hardReset_phase true cause
  unfold State.packageReset
  generalize s.hardReset true cause = t at *
  dsimp only
  rw [State.railBits_pwr]
  exact hphase

theorem State.beginStart_sleep : s.beginStart.pwr = s.pwr ∧ s.beginStart.thm = s.thm ∧ s.beginStart.boot = s.boot := by
  unfold State.beginStart
  split
  · rw [State.setNat_eq, State.setReg_pwr, State.setReg_thm, State.setReg_boot]
    exact ⟨rfl, rfl, rfl⟩
  · exact ⟨rfl, rfl, rfl⟩

/-- THRESH reads RESTART. -/
def State.restarting (s : State) : State := { s with thm := { s.thm with thresh := 5 } }

theorem State.startCooled_leaves : s.startCooled.pwr.phase = .on ∧ s.startCooled.thm.thresh = 5 ∧
    s.startCooled.boot.cause = s.boot.cause := by
  have heq : s.startCooled = (s.hardReset false s.boot.cause).restarting.beginStart := rfl
  have hphase := s.hardReset_phase false s.boot.cause
  obtain ⟨hcause, -⟩ := s.hardReset_boot false s.boot.cause
  rw [heq]
  generalize s.hardReset false s.boot.cause = a at *
  have hcooled : a.restarting.pwr = a.pwr ∧ a.restarting.thm.thresh = 5 ∧ a.restarting.boot = a.boot := ⟨rfl, rfl, rfl⟩
  generalize a.restarting = b at *
  obtain ⟨hpwr, hthm, hboot⟩ := b.beginStart_sleep
  obtain ⟨hpwr', hthm', hboot'⟩ := hcooled
  exact ⟨by rw [hpwr, hpwr', hphase], by rw [hthm, hthm'], by rw [hboot, hboot', hcause]⟩

/-- The package `a` after its reset keeps of `s` what a wake from Heath restores. -/
def State.coldNoted (s a : State) : State :=
  let heath := s.pwr.target == 3
  let fresh := s.pwr.fresh || !heath
  let c := if fresh then a.boot.captured else s.boot.captured
  { a with
    boot := { a.boot with captured := c, restore := heath && !fresh && s.boot.restore },
    evr := { a.evr with lost := if heath then s.fld pgHTH Hth.LOST_AT_SLEEP (15, 0) else 0 },
    tln := { a.tln with stopped := c.isSome, now := (c.map Captured.time).getD 0, edge := (c.map Captured.time).getD 0 } }

theorem State.coldNoted_leaves (a : State) : (s.coldNoted a).pwr = a.pwr ∧ (s.coldNoted a).dev = a.dev ∧
    (s.coldNoted a).boot.restore = (s.pwr.target == 3 && !s.pwr.fresh && s.boot.restore) := by
  refine ⟨rfl, rfl, ?_⟩
  have hrestore : (s.coldNoted a).boot.restore
      = (s.pwr.target == 3 && !(s.pwr.fresh || !(s.pwr.target == 3)) && s.boot.restore) := rfl
  rw [hrestore]
  cases s.pwr.target == 3 <;> cases s.pwr.fresh <;> rfl

theorem State.startCold_leaves (roleB testMode : Bool) : (s.startCold roleB testMode).pwr.phase = .on ∧
    (s.startCold roleB testMode).dev.roleB = roleB ∧ (s.startCold roleB testMode).dev.testMode = testMode ∧
    (s.startCold roleB testMode).boot.restore = (s.pwr.target == 3 && !s.pwr.fresh && s.boot.restore) := by
  obtain ⟨cause, n, heq⟩ : ∃ cause n, s.startCold roleB testMode
      = (s.coldNoted (s.packageReset cause roleB testMode)).setSts pgPWR Pwr.S_PWR_STATE n := ⟨_, _, rfl⟩
  obtain ⟨hrole, htest, -⟩ := s.packageReset_parts cause roleB testMode
  have hphase := s.packageReset_phase cause roleB testMode
  rw [heq]
  generalize s.packageReset cause roleB testMode = a at *
  obtain ⟨hpwr, hdev, hrestore⟩ := s.coldNoted_leaves a
  rw [State.setSts_eq, State.setReg_pwr, State.setReg_dev, State.setReg_boot, hpwr, hdev]
  exact ⟨hphase, hrole, htest, hrestore⟩

/-- ACLK resumes in Retain: the latched interrupts, the messages still due, the links and the pins. -/
def State.dieResumed (s : State) : State :=
  ((List.range 4).foldl (fun a g => if a.claimable (4 + g) then a else a.clearDue g) s.drainLatches).linkRefresh.pinsRefresh

theorem State.startRetained_eq : s.startRetained
    = (((s.setPwr { s.pwr with phase := .restoring }).setRoot false false).setPwrState 3).dieResumed := rfl

theorem State.dieResumed_pwr : s.dieResumed.pwr = s.pwr := by
  have hdrain := State.drainLatches_keeps (s.keeps_parts 0x100000000) (Keep.off_of_and (by decide))
  have hfold := hdrain.foldl (f := fun a g => if a.claimable (4 + g) then a else a.clearDue g) (l := List.range 4)
    fun a g h => State.Keeps.ite h (State.clearDue_keeps h (Keep.off_of_and (by decide)))
  exact (State.pinsRefresh_keeps (State.linkRefresh_keeps hfold (Keep.off_of_and (by decide))) (Keep.off_of_and (by decide))).pwr_eq

theorem State.followLevel_steady {P : Nat → Bool} (k : Nat) : s.Steady P (s.followLevel k) := by
  unfold State.followLevel
  split
  · next h =>
    have hk : k < 512 := by
      simp only [isLevelSource, Bool.and_eq_true, Bool.or_eq_true, decide_eq_true_eq] at h
      omega
    exact (State.Steady.refl s).setReg (timePage_icu (by simp only [Icu.PENDING]; omega))
  · exact .refl s

theorem State.drainLatches_steady {P : Nat → Bool} : s.Steady P s.drainLatches := by
  have hicu (x : IcuState) : s.Steady P { s with icu := x } := (State.Steady.refl s).upd rfl
  have hchange (a : State) (ks : List Nat) : a.Steady P (a.icuChange fun a => levelSources.foldl
      (fun b k => if b.accountMode k then b else b.followLevel k)
      (ks.foldl (fun b k => if isLevelSource k && !b.accountMode k then b else b.occur k) a)) := by
    refine a.icuChange_steady (State.Steady.foldl (State.Steady.foldl (State.Steady.refl a) fun k _ b => ?_) fun k _ b => ?_)
    · exact (State.Steady.refl b).ite (b.occur_steady k)
    · exact (State.Steady.refl b).ite (b.followLevel_steady k)
  exact (hicu _).trans (hchange _ _)

theorem State.dieResumed_steady {P : Nat → Bool} (hP : P pgTLN = false) : s.Steady P s.dieResumed := by
  have hclear (a : State) (g : Nat) : a.Steady P (a.clearDue g) := (State.Steady.refl a).upd rfl
  have hdue := s.drainLatches_steady.foldl (P := P) (f := fun a g => if a.claimable (4 + g) then a else a.clearDue g)
    (l := List.range 4) fun g _ a => (State.Steady.refl a).ite (hclear a g)
  exact (hdue.trans (State.linkRefresh_steady _ hP)).trans (State.pinsRefresh_steady _)

/-- PWR_STATE reads the state it goes to, unless that is Doze, which an interrupt may end. -/
theorem State.setPwrState_pwrState {n : Nat} (hn : n < 8) (hdoze : n ≠ 1) : (s.setPwrState n).pwrState = n := by
  unfold State.setPwrState
  split
  · assumption
  · have hset : (s.setSts pgPWR Pwr.S_PWR_STATE n).pwrState = n :=
      (s.sts_setSts_self pgPWR (by decide) n).trans (Nat.mod_eq_of_lt hn)
    rw [(State.irq_steady (P := fun _ => true) _ 17).pwrState (by rw [hset]; exact hdoze) rfl, hset]

theorem State.startRetained_leaves : s.startRetained.pwr.phase = .restoring ∧ s.startRetained.pwrState = 3 := by
  have hpwr (a : State) : ((a.setRoot false false).setPwrState 3).pwr = a.pwr :=
    (State.setPwrState_keeps (State.setRoot_keeps (a.keeps_parts 0x100000000) (Keep.off_of_and (by decide)))
      (Keep.off_of_and (by decide))).pwr_eq
  have hset (p : PwrState) : (s.setPwr p).pwr = p := rfl
  rw [State.startRetained_eq, State.dieResumed_pwr, hpwr, hset]
  refine ⟨rfl, ?_⟩
  have hstate := ((s.setPwr { s.pwr with phase := .restoring }).setRoot false false).setPwrState_pwrState (n := 3) (by decide) (by decide)
  generalize ((s.setPwr { s.pwr with phase := .restoring }).setRoot false false).setPwrState 3 = a at *
  rw [(a.dieResumed_steady (P := fun p => p != pgTLN) (by decide)).pwrState (by rw [hstate]; decide) (by decide), hstate]

end

end Sys2Proof.Machine
end

section
/-!
The restart of the timeline after a sleep and the states of the PCIe link (R87, R99, R347, R615, R623), and O46.
-/
set_option Elab.async false
namespace Sys2Proof.Machine

section
variable (s : State)

/-! ### Registers under a change of TL_STATE -/

theorem State.reg_enterTl {page off : Nat} (hlo : regKey page off ≠ regKey pgTLN Tln.INCR_LO)
    (hhi : regKey page off ≠ regKey pgTLN Tln.INCR_HI) (n : Nat) : (s.enterTl n).reg page off = s.reg page off := by
  have hset (a : State) (v : Int) : (a.setIncr v).reg page off = a.reg page off :=
    (State.reg_setReg_ne _ _ hhi).trans (State.reg_setReg_ne _ _ hlo)
  unfold State.enterTl
  split
  · rfl
  · rfl
  · rfl
  · dsimp only
    split
    · rfl
    · exact hset _ _
  · rfl

/-- What follows the new TL_STATE and its rate writes no register of the pages of power and time. -/
theorem State.reg_setTlState {page off : Nat} (hk : steadyKey (fun _ => true) (regKey page off) = true) (hp : regKey page off ≠ pwrKey)
    (hlo : regKey page off ≠ regKey pgTLN Tln.INCR_LO) (hhi : regKey page off ≠ regKey pgTLN Tln.INCR_HI) (n : Nat) :
    (s.setTlState n).reg page off = ((s.enterTl n).setSts pgTLN Tln.S_TL_STATE n).reg page off := by
  have htune (a : State) : a.retune.reg page off = a.reg page off := a.reg_retune hlo hhi
  have hfalls (a : State) : a.alignFalls.reg page off = a.reg page off := (a.alignFalls_steady (P := fun _ => true)).reg hk hp
  have hlocks (a : State) : (a.irq 56).swathLocks.reg page off = a.reg page off :=
    ((a.irq_steady (P := fun _ => true) 56).trans (State.swathLocks_steady _)).reg hk hp
  unfold State.setTlState
  generalize (s.enterTl n).setSts pgTLN Tln.S_TL_STATE n = a
  dsimp only
  split <;> split <;> simp only [hlocks, hfalls, htune]

theorem State.tlState_setTlState {n : Nat} (hn : n < 8) : (s.setTlState n).tlState = n := by
  rw [State.tlState, State.sts, State.fld, s.reg_setTlState (by decide) (by decide) (by decide) (by decide)]
  exact ((s.enterTl n).sts_setSts_self pgTLN (by decide) n).trans (Nat.mod_eq_of_lt hn)

/-- Any other register of them reads as before. -/
theorem State.reg_setTlState_ne {page off : Nat} (hk : steadyKey (fun _ => true) (regKey page off) = true) (hp : regKey page off ≠ pwrKey)
    (hlo : regKey page off ≠ regKey pgTLN Tln.INCR_LO) (hhi : regKey page off ≠ regKey pgTLN Tln.INCR_HI)
    (hs : regKey page off ≠ regKey pgTLN PAGE_STATUS) (n : Nat) : (s.setTlState n).reg page off = s.reg page off := by
  rw [s.reg_setTlState hk hp hlo hhi, State.reg_setSts_ne _ _ _ hs, s.reg_enterTl hlo hhi]

/-- Whether a source is selected and VALID does not depend on TL_STATE. -/
theorem State.settles_setTlState (n : Nat) : (s.setTlState n).tlnOn = s.tlnOn ∧ (s.setTlState n).tlSrc = s.tlSrc ∧
    ∀ src, (s.setTlState n).srcValid src = s.srcValid src := by
  have hdev : (s.setTlState n).dev = s.dev := (State.setTlState_keeps (s.keeps_parts 0x80) (Keep.off_of_and (by decide))).dev_eq
  have hpeer := (s.setTlState_goes n).peerValid
  have hsyn (k : Nat) (hk : k < 8) : (s.setTlState n).synValid k = s.synValid k := by
    have hreg : (s.setTlState n).reg (pgSYN k) PAGE_STATUS = s.reg (pgSYN k) PAGE_STATUS :=
      s.reg_setTlState_ne (steadyKey_syn hk (by decide) rfl) (by simp only [regKey, pgSYN, pwrKey, pgPWR, PAGE_STATUS]; omega)
        (by simp only [regKey, pgSYN, pgTLN, PAGE_STATUS, Tln.INCR_LO]; omega)
        (by simp only [regKey, pgSYN, pgTLN, PAGE_STATUS, Tln.INCR_HI]; omega)
        (by simp only [regKey, pgSYN, pgTLN, PAGE_STATUS]; omega) n
    simp only [State.synValid, State.ioState, State.sts, State.fld, hreg]
  have hntm : (s.setTlState n).sts pgNTM Ntm.S_PTP_VALID = s.sts pgNTM Ntm.S_PTP_VALID := by
    simp only [State.sts, State.fld, s.reg_setTlState_ne (page := pgNTM) (off := PAGE_STATUS) (by decide) (by decide) (by decide)
      (by decide) (by decide) n]
  have hctrl (m : Nat) : (s.setTlState n).flag pgTLN PAGE_CTRL m = s.flag pgTLN PAGE_CTRL m := by
    simp only [State.flag, s.reg_setTlState_ne (page := pgTLN) (off := PAGE_CTRL) (by decide) (by decide) (by decide) (by decide)
      (by decide) n]
  refine ⟨?_, ?_, fun src => ?_⟩
  · simp only [State.tlnOn, State.enabled, State.stopSet, hctrl, hdev]
  · simp only [State.tlSrc, State.fld, s.reg_setTlState_ne (page := pgTLN) (off := Tln.TL_MODE) (by decide) (by decide) (by decide)
      (by decide) (by decide) n]
  · unfold State.srcValid
    split <;> simp only [hsyn, hntm, hpeer, Nat.reduceLT]

/-! ### The restart (R99) -/

/-- The timeline has begun to count again from `r`, at the tick that has come. -/
def State.coasting (s : State) (r : Nat × Nat) (valid : Bool) (cause : Nat) : State :=
  { s with
    tln := { s.tln with stopped := false, now := r.1, edge := r.1, uncertBase := if valid then r.2 else UNC_UNKNOWN, hasPrev := false },
    hth := { s.hth with edge := r.1 },
    boot := { s.boot with captured := none },
    pmc := { s.pmc with gapCause := cause, gapFrom := r.1, gapUncert := if valid then r.2 else UNC_UNKNOWN } }

/-- UNCERT continues from `u`. -/
def State.uncertFrom (s : State) (u : Nat) : State := { s with tln := { s.tln with uncertBase := u } }

/-- The time and UNCERT at the present tick. -/
def State.tickTime (s : State) (c : Captured) : Nat × Nat := s.coasted c ((s.hth.tick + 2 ^ 48 - c.tick) % 2 ^ 48)

/-- The timeline in its state after the restart. -/
def State.resumed (s : State) (c : Captured) (valid : Bool) (cause : Nat) : State :=
  (((s.coasting (s.tickTime c) valid cause).setTlState (if valid then 4 else 0)).uncertFrom
    (if valid then (s.tickTime c).2 else UNC_UNKNOWN)).tlnSettle

theorem State.timelineRestart_eq {s : State} {c : Captured} (hc : s.boot.captured = some c) (hclk : s.aclkRuns = true)
    (hlock : s.sts pgCLK Clk.S_ROOT_LOCK = 1) (hstop : s.tln.stopped = true) (ticks micros : Nat) :
    ∃ cause, s.timelineRestart ticks micros = (let a := (s.passTicks ticks).resumed c ((s.passTicks ticks).sts pgHTH Hth.S_TK_VALID == 1) cause
      if s.pwr.phase = .restoring then a.woke micros else a) := by
  refine ⟨if s.pwr.phase = PwrPhase.restoring then 1 else 2, ?_⟩
  have hgo : ¬ ((!s.aclkRuns || s.sts pgCLK Clk.S_ROOT_LOCK != 1 || !s.tln.stopped) = true) := by
    rw [hclk, hlock, hstop]
    decide
  rw [State.timelineRestart, hc]
  dsimp only
  rw [if_neg hgo]
  rfl

theorem State.coasting_leaves (r : Nat × Nat) (valid : Bool) (cause : Nat) : (s.coasting r valid cause).tln.stopped = false ∧
    (s.coasting r valid cause).tln.now = r.1 ∧ (s.coasting r valid cause).tln.peerValid = s.tln.peerValid ∧
    (s.coasting r valid cause).boot.captured = none ∧ (s.coasting r valid cause).live = s.live ∧
    (s.coasting r valid cause).dev = s.dev := ⟨rfl, rfl, rfl, rfl, rfl, rfl⟩

/-- Whether a source is selected and VALID is read from the registers, a stop that waits and the peer's time. -/
theorem State.settles_congr {s t : State} (hlive : t.live = s.live) (hdev : t.dev = s.dev) (hpeer : t.tln.peerValid = s.tln.peerValid) :
    t.tlnOn = s.tlnOn ∧ t.tlSrc = s.tlSrc ∧ ∀ src, t.srcValid src = s.srcValid src := by
  have hreg (page off : Nat) : t.reg page off = s.reg page off := by rw [State.reg, hlive, State.reg]
  refine ⟨?_, ?_, fun src => ?_⟩
  · simp only [State.tlnOn, State.enabled, State.stopSet, State.flag, hreg, hdev]
  · simp only [State.tlSrc, State.fld, hreg]
  · unfold State.srcValid
    split <;> simp only [State.synValid, State.ioState, State.sts, State.fld, hreg, hpeer]

/-- From FREE or COASTED a selected source that is VALID takes the timeline on to ACQUIRE. -/
theorem State.tlnSettle_tlState {s : State} (h : s.tlState = 0 ∨ s.tlState = 4) : s.tlnSettle.tlState
    = if s.tlnOn = true ∧ s.tlSrc ≠ 0 ∧ s.srcValid s.tlSrc = true then 1 else s.tlState := by
  have hstate : s.tlState = 0 ∨ s.tlState = 3 ∨ s.tlState = 4 := h.imp id .inr
  unfold State.tlnSettle
  simp only [hstate, and_true]
  split
  · exact s.tlState_setTlState (by decide)
  · rfl

theorem State.uncertFrom_leaves (u : Nat) : s.tln.Goes (s.uncertFrom u).tln ∧
    (s.uncertFrom u).live = s.live ∧ (s.uncertFrom u).dev = s.dev ∧ (s.uncertFrom u).boot = s.boot :=
  ⟨⟨rfl, rfl, rfl, rfl, rfl⟩, rfl, rfl, rfl⟩

theorem State.resumed_leaves (c : Captured) (valid : Bool) (cause : Nat) : (s.resumed c valid cause).tln.stopped = false ∧
    (s.resumed c valid cause).boot.captured = none ∧ (s.resumed c valid cause).tln.now = (s.tickTime c).1 ∧
    (s.resumed c valid cause).tlState = if s.tlnOn = true ∧ s.tlSrc ≠ 0 ∧ s.srcValid s.tlSrc = true then 1
      else if valid then 4 else 0 := by
  obtain ⟨hstop, hnow, hpeer, hboot, hlive, hdev⟩ := s.coasting_leaves (s.tickTime c) valid cause
  obtain ⟨hon, hsrc, hvalid⟩ := State.settles_congr hlive hdev hpeer
  rw [State.resumed]
  generalize s.coasting (s.tickTime c) valid cause = a at *
  have hn : (if valid then 4 else 0) < 8 := by split <;> decide
  have hn' : (if valid then 4 else 0) = 0 ∨ (if valid then 4 else 0) = 4 := by
    cases valid
    · exact .inl rfl
    · exact .inr rfl
  generalize (if valid then 4 else 0) = n at *
  have hgo := a.setTlState_goes n
  have hbootb : (a.setTlState n).boot = a.boot := (State.setTlState_keeps (a.keeps_parts 0x400000000) (Keep.off_of_and (by decide))).boot_eq
  have hstate := a.tlState_setTlState hn
  obtain ⟨honb, hsrcb, hvalidb⟩ := a.settles_setTlState n
  generalize a.setTlState n = b at *
  generalize (if valid then (s.tickTime c).2 else UNC_UNKNOWN) = u
  obtain ⟨hgoc, hlivec, hdevc, hbootc⟩ := b.uncertFrom_leaves u
  obtain ⟨honc, hsrcc, hvalidc⟩ := State.settles_congr hlivec hdevc hgoc.peerValid
  have hstatec : (b.uncertFrom u).tlState = n := by
    rw [State.tlState, State.sts, State.fld, State.reg, hlivec]
    exact hstate
  generalize b.uncertFrom u = d at *
  have hgod := d.tlnSettle_goes
  have hbootd : d.tlnSettle.boot = d.boot := (State.tlnSettle_keeps (d.keeps_parts 0x400000000) (Keep.off_of_and (by decide))).boot_eq
  refine ⟨?_, ?_, ?_, ?_⟩
  · rw [hgod.stopped, hgoc.stopped, hgo.stopped, hstop]
  · rw [hbootd, hbootc, hbootb, hboot]
  · rw [hgod.now, hgoc.now, hgo.now, hnow]
  · rw [State.tlnSettle_tlState (by rw [hstatec]; exact hn'), hstatec, honc, honb, hon, hsrcc, hsrcb, hsrc, hvalidc, hvalidb, hvalid]

/-- The end of a wake from Retain leaves the timeline, and PWR reads RUN and EXIT_US. -/
theorem State.woke_leaves (micros : Nat) : (s.woke micros).tln = s.tln ∧ (s.woke micros).boot = s.boot ∧
    (s.woke micros).tlState = s.tlState ∧ (s.woke micros).pwr.phase = .on ∧ (s.woke micros).pwrState = 0 ∧
    (s.woke micros).nat pgPWR Pwr.EXIT_US = min 0xFFFFFFFF micros := by
  have hkept := State.woke_keeps (micros := micros) (s.keeps_parts 0x400000200) (Keep.off_of_and (by decide))
  refine ⟨hkept.tln_eq, hkept.boot_eq, ?_⟩
  have heq : s.woke micros = (((((s.setNat pgPWR Pwr.EXIT_US (min 0xFFFFFFFF micros)).setPwr
      { s.pwr with phase := .on, target := 0, fresh := false }).setPwrState 0).irq 18).sealRecord) := rfl
  have hset : ((s.setNat pgPWR Pwr.EXIT_US (min 0xFFFFFFFF micros)).setPwr
      { s.pwr with phase := .on, target := 0, fresh := false }).pwr.phase = .on := rfl
  have hexit : ((s.setNat pgPWR Pwr.EXIT_US (min 0xFFFFFFFF micros)).setPwr
      { s.pwr with phase := .on, target := 0, fresh := false }).nat pgPWR Pwr.EXIT_US = min 0xFFFFFFFF micros := by
    rw [State.nat, State.reg_setPwr, State.setNat_eq, State.reg_setReg_self, BitVec.toNat_ofNat, Nat.mod_eq_of_lt (by omega)]
  have htl : ((s.setNat pgPWR Pwr.EXIT_US (min 0xFFFFFFFF micros)).setPwr
      { s.pwr with phase := .on, target := 0, fresh := false }).tlState = s.tlState := by
    rw [State.tlState, State.sts, State.fld, State.reg_setPwr, State.setNat_eq, State.reg_setReg_ne _ _ (by decide)]
    rfl
  rw [heq]
  generalize (s.setNat pgPWR Pwr.EXIT_US (min 0xFFFFFFFF micros)).setPwr
    { s.pwr with phase := .on, target := 0, fresh := false } = a at *
  have hseal (b : State) : b.Steady (fun _ => true) b.sealRecord := by
    have hdue (x : HthState) : b.Steady (fun _ => true) { b with hth := x } := (State.Steady.refl b).upd rfl
    exact ((hdue _).trans (State.trigger_steady _ _ _)).ite (.refl b)
  have hend := ((a.setPwrState 0).irq_steady (P := fun _ => true) 18).trans (hseal _)
  have hpwr : ((a.setPwrState 0).irq 18).sealRecord.pwr = a.pwr :=
    (State.sealRecord_keeps (State.irq_keeps (State.setPwrState_keeps (a.keeps_parts 0x100000000) (Keep.off_of_and (by decide)))
      (Keep.off_of_and (by decide))) (Keep.off_of_and (by decide))).pwr_eq
  have hstate := a.setPwrState_pwrState (n := 0) (by decide) (by decide)
  have hreg {page off : Nat} (hk : steadyKey (fun _ => true) (regKey page off) = true) (hp : regKey page off ≠ pwrKey) :
      ((a.setPwrState 0).irq 18).sealRecord.reg page off = a.reg page off := by
    rw [hend.reg hk hp, State.setPwrState]
    split
    · rfl
    · rw [(State.irq_steady (P := fun _ => true) _ 17).reg hk hp, State.reg_setSts_ne _ _ _ hp]
  refine ⟨?_, by rw [hpwr, hset], by rw [hend.pwrState (by rw [hstate]; decide) rfl, hstate], ?_⟩
  · rw [State.tlState, State.sts, State.fld, hreg (by decide) (by decide)]
    exact htl
  · rw [State.nat, hreg (by decide) (by decide)]
    exact hexit

/-! ### The PCIe link (R615) -/

/-- What the device knows of the link. -/
def IcuState.link (x : IcuState) : Bool × Bool × Bool := (x.linkL0, x.linkL1, x.exitL1)

/-- In L0 a message is sent or held by its mask, and the link's state stays. -/
theorem State.msixSend_link {s : State} (h : s.icu.linkL0 = true) (g : Nat) : (s.msixSend g).icu.link = s.icu.link := by
  have hclear : (s.clearDue g).icu.link = s.icu.link := rfl
  have hlow : ¬ ((!s.icu.linkL0) = true) := by rw [h]; decide
  unfold State.msixSend
  split
  · rfl
  · split
    · rw [State.setFlag_eq, State.setReg_icu, hclear]
    · exact hclear

theorem State.msixSends_link {l : List Nat} {s : State} (h : s.icu.linkL0 = true) : (l.foldl State.msixSend s).icu.link = s.icu.link := by
  induction l generalizing s with
  | nil => rfl
  | cons g l ih =>
    have hone := State.msixSend_link h g
    have hlink : (s.msixSend g).icu.linkL0 = true := (congrArg Prod.fst hone).trans h
    exact (ih hlink).trans hone

/-- The link has moved to state `link`. -/
def State.linkAt (s : State) (link : Nat) : State :=
  { s with icu := { s.icu with linkL0 := link == 0, linkL1 := link == 1,
                               exitL1 := link == 1 && (List.range 4).any (Tab.get (fun _ => false) s.icu.held) } }

theorem State.linkMoves_eq (link : Nat) : s.linkMoves link
    = if link = 0 then (List.range 4).foldl State.msixSend ((s.linkAt link).setPwr { (s.linkAt link).pwr with wakeN := false })
      else s.linkAt link := rfl

theorem State.linkMoves_leaves (link : Nat) : (s.linkMoves link).icu.link = (link == 0, link == 1,
      link == 1 && (List.range 4).any (Tab.get (fun _ => false) s.icu.held)) ∧
    (s.linkMoves link).pwr.wakeN = (s.pwr.wakeN && link != 0) ∧ (s.linkMoves link).mem = s.mem := by
  have hat : (s.linkAt link).icu.link = (link == 0, link == 1,
      link == 1 && (List.range 4).any (Tab.get (fun _ => false) s.icu.held)) ∧ (s.linkAt link).pwr = s.pwr ∧
      (s.linkAt link).mem = s.mem := ⟨rfl, rfl, rfl⟩
  rw [State.linkMoves_eq]
  generalize s.linkAt link = a at *
  obtain ⟨hlink, hpwr, hmem⟩ := hat
  by_cases h : link = 0
  · have hset : (a.setPwr { a.pwr with wakeN := false }).icu = a.icu ∧ (a.setPwr { a.pwr with wakeN := false }).pwr.wakeN = false ∧
        (a.setPwr { a.pwr with wakeN := false }).mem = a.mem := ⟨rfl, rfl, rfl⟩
    rw [if_pos h]
    generalize a.setPwr { a.pwr with wakeN := false } = b at *
    obtain ⟨hicu, hwake, hmem'⟩ := hset
    have hl0 : b.icu.linkL0 = true := by
      rw [hicu]
      exact (congrArg Prod.fst hlink).trans (by simp [h])
    have hkept := (b.keeps_parts 0x100000010).foldl (f := State.msixSend) (l := List.range 4)
      fun a g ha => State.msixSend_keeps ha (Keep.off_of_and (by decide))
    refine ⟨by rw [State.msixSends_link hl0, hicu, hlink], ?_, by rw [hkept.mem_eq, hmem', hmem]⟩
    rw [hkept.pwr_eq, hwake, h]
    exact (Bool.and_false _).symm
  · rw [if_neg h]
    refine ⟨hlink, ?_, hmem⟩
    rw [hpwr, bne_iff_ne.2 h, Bool.and_true]

end

end Sys2Proof.Machine

open Sys2Proof Sys2Proof.Machine

/-- Settles O46: each command's next state through the laws of wakes, of the island and of the restart above. -/
theorem wakesAct : Obligations.WakesAct := by
  refine ⟨fun s pins rising held ticks => ?_, fun s hon => ⟨?_, ?_⟩, fun s ticks => ?_, fun s follows ticks => ?_, fun s => ?_,
    fun s hphase => ?_, fun s roleB testMode hphase => ?_, fun s c ticks micros hc hclk hlock hstop => ?_, fun s link hclk => ?_⟩
  · have hexec : exec (.wakeInEdge pins rising held ticks) s = .next (s.wakeIn pins.val rising.val held ticks) := rfl
    refine ⟨fun hshort => ?_, fun hheld hs hedge => ?_⟩
    · have hcfg : (s.passTicks ticks).xtSeen.fld pgHTH Hth.HTH_CFG (4, 0) = s.fld pgHTH Hth.HTH_CFG (4, 0) := by
        rw [State.fld, s.reg_xtSeen (by decide), State.fld]
      rw [hexec, State.wakeIn_eq, hcfg, if_pos hshort]
    · obtain ⟨n, hn, hp, he, hr⟩ := hedge
      exact ⟨_, hexec, State.wakeIn_wakes hheld hs hn hp he hr⟩
  · intro hs hstand htick
    exact ⟨_, rfl, State.heathAlarm_asleep hon hs hstand htick⟩
  · intro a hs hrun hn hreach
    exact congrArg Host.Outcome.next (State.heathAlarm_entering hon hs hrun hn hreach)
  · obtain ⟨hok, hvalid, hflag, hen, hpwr⟩ := s.xtFailed_leaves ticks
    have hexec : exec (.xt32Fail ticks) s = .next (s.xt32Fail ticks) := rfl
    refine ⟨_, hexec, ?_⟩
    rw [State.xt32Fail_eq]
    generalize s.xtFailed ticks = a at *
    refine ⟨?_, ?_, ?_, fun hs he => ?_⟩
    · rw [State.sts_wakeBy _ (by decide), hok]
    · rw [State.sts_wakeBy _ (by decide), hvalid]
    · rw [State.flag, State.reg_wakeBy_fault]
      exact hflag
    · have hkept : a.wakeKept (a.wakePins 0) 4 = true := by
        rw [State.wakeKept, State.flag, hen]
        exact he
      rw [State.wakeBy_phase (by decide) hkept (by rw [hpwr, hs]), hpwr]
  · have hexec : exec (.sealCheck follows ticks) s = .next (s.sealCheck follows ticks) := rfl
    refine ⟨_, hexec, ?_⟩
    by_cases hopen : s.sealMissed follows < 2
    · refine ⟨State.sealCheck_closed hopen ticks, fun hfollows hmisses => ?_⟩
      rw [hfollows] at hopen
      exact absurd hopen (Nat.not_lt.2 (Nat.succ_le_succ hmisses))
    · cases follows with
      | true => exact absurd (by decide : 0 < 2) hopen
      | false =>
        obtain ⟨hcount, hflag, hwake⟩ := State.sealCheck_open (Nat.le_of_succ_le_succ (Nat.not_lt.1 hopen)) ticks
        exact ⟨hcount, fun _ _ => ⟨hflag, hwake⟩⟩
  · obtain ⟨hflag, htick, hpwr, hboot⟩ := s.resetHth_leaves
    have hexec : exec .heathBrownout s = .next s.heathBrownout := rfl
    refine ⟨fun hshut hclk => ?_, fun hshut hclk => ?_, fun hshut => ?_, hflag, htick, ?_⟩
    · rw [hexec, State.heathBrownout]
      exact congrArg Host.Outcome.next ((if_neg hshut).trans (if_pos hclk))
    · obtain ⟨hphase, hcause, -⟩ := s.resetHth.coldStart_leaves 2
      have hnot : ¬ s.aclkRuns = true := by rw [hclk]; exact Bool.false_ne_true
      refine ⟨s.resetHth.coldStart 2, ?_, hphase, hcause⟩
      rw [hexec, State.heathBrownout]
      exact congrArg Host.Outcome.next ((if_neg hshut).trans (if_neg hnot))
    · refine ⟨{ s.resetHth with boot := { s.resetHth.boot with cause := s.resetHth.boot.cause ||| 2 } }, ?_, ?_, hpwr⟩
      · rw [hexec, State.heathBrownout]
        exact congrArg Host.Outcome.next (if_pos hshut)
      · rw [← hboot]
    · obtain ⟨hphase, hcause, hlive, hhth, hnone, hrun⟩ := s.resetHth.coldStart_leaves 1
      refine ⟨_, rfl, hphase, hcause, ?_, by rw [hhth, htick], hnone, hrun⟩
      rw [State.flag, State.reg, hlive]
      exact hflag
  · exact ⟨_, congrArg Host.Outcome.next (if_pos hphase), rfl⟩
  · have hexec : exec (.coreRampDone roleB testMode) s = .next (s.coreRamped roleB testMode) := rfl
    have hramp : ¬ s.pwr.phase ≠ PwrPhase.coreRising := not_not.2 hphase
    rw [hexec, State.coreRamped, if_neg hramp]
    refine ⟨fun htarget hfresh => ?_, fun htarget hfresh => ?_, fun htarget => ?_, fun htarget htarget' => ?_⟩
    · rw [if_neg (by rw [htarget]; decide), if_pos htarget, hfresh, if_neg Bool.false_ne_true]
      exact ⟨_, rfl, s.startRetained_leaves⟩
    · obtain ⟨hpwr, -, hboot⟩ := (s.hardReset false 4).beginStart_sleep
      rw [if_neg (by rw [htarget]; decide), if_pos htarget, hfresh, if_pos rfl]
      exact ⟨_, rfl, by rw [hpwr, s.hardReset_phase], by rw [hboot, (s.hardReset_boot false 4).1]⟩
    · rw [if_pos htarget]
      exact ⟨_, rfl, s.startCooled_leaves⟩
    · rw [if_neg htarget', if_neg htarget]
      exact ⟨_, rfl, s.startCold_leaves roleB testMode⟩
  · obtain ⟨cause, heq⟩ := State.timelineRestart_eq hc hclk hlock hstop ticks micros
    have hexec : exec (.timelineRestart ticks micros) s = .next (s.timelineRestart ticks micros) := rfl
    have hvalid : (s.passTicks ticks).sts pgHTH Hth.S_TK_VALID = s.sts pgHTH Hth.S_TK_VALID := by
      rw [State.sts, State.fld, State.reg, s.passTicks_live, State.sts, State.fld, State.reg]
    obtain ⟨hstop', hnone, hnow, hstate⟩ :=
      (s.passTicks ticks).resumed_leaves c ((s.passTicks ticks).sts pgHTH Hth.S_TK_VALID == 1) cause
    rw [hvalid] at heq hstop' hnone hnow hstate
    dsimp only at heq
    simp only [beq_iff_eq] at hstate
    refine ⟨_, hexec, ?_⟩
    rw [heq]
    generalize (s.passTicks ticks).resumed c (s.sts pgHTH Hth.S_TK_VALID == 1) cause = a at *
    by_cases hphase : s.pwr.phase = .restoring
    · obtain ⟨htln, hboot, htl, hon, hrun, hexit⟩ := a.woke_leaves micros
      rw [if_pos hphase, htln, hboot, htl]
      exact ⟨hstop', hnone, hnow, hstate, fun _ => ⟨hon, hrun, hexit⟩⟩
    · rw [if_neg hphase]
      exact ⟨hstop', hnone, hnow, hstate, fun h => absurd h hphase⟩
  · have hexec : exec (.linkInL0 link) s = .next (s.linkMoves link.val) := congrArg Host.Outcome.next (if_pos hclk)
    obtain ⟨hlink, hwake, hmem⟩ := s.linkMoves_leaves link.val
    simp only [IcuState.link, Prod.mk.injEq] at hlink
    obtain ⟨hl0, hl1, hexit⟩ := hlink
    exact ⟨_, hexec, hl0, hl1, hexit, hwake, hmem⟩

end

section
/-!
The Pixel Lane Units (R159 to R193): the fetch of an instruction, the registers it writes, and the run of a pixel, with O18, O21
and O22.
-/
set_option Elab.async false
namespace Sys2Proof.Machine

/-! ### Writes of some elements of a list -/

/-- Writes to positions `b` to `b + n - 1`, each where `w` says so: an element written reads its value, any other as before. -/
theorem getD_foldl_set {α : Type} (w : Nat → Bool) (f : Nat → α) (z : α) (b : Nat) (l : List α) {n : Nat}
    (h : b + n ≤ l.length) (k : Nat) : ((List.range n).foldl (fun l c => if w c then l.set (b + c) (f c) else l) l).getD k z
      = if b ≤ k ∧ k < b + n ∧ w (k - b) then f (k - b) else l.getD k z := by
  have hlength (n : Nat) : ((List.range n).foldl (fun l c => if w c then l.set (b + c) (f c) else l) l).length = l.length := by
    induction n with
    | zero => rfl
    | succ n ih => rw [List.range_succ, List.foldl_append, List.foldl_cons, List.foldl_nil]; split <;> simp [ih]
  induction n with
  | zero => rw [if_neg (by omega)]; rfl
  | succ n ih =>
    have ih := ih (by omega)
    have hin : b + n < l.length := by omega
    rw [List.range_succ, List.foldl_append, List.foldl_cons, List.foldl_nil]
    by_cases hk : k = b + n
    · subst hk
      rw [if_neg (by omega)] at ih
      simp only [Nat.le_add_right, Nat.add_sub_cancel_left, Nat.lt_add_one, ← Nat.add_assoc, true_and]
      split
      · simp [List.getD_eq_getElem?_getD, hlength, hin]
      · exact ih
    · have hrest : (b ≤ k ∧ k < b + (n + 1) ∧ w (k - b) = true) ↔ (b ≤ k ∧ k < b + n ∧ w (k - b) = true) := by
        constructor <;> rintro ⟨h1, h2, h3⟩ <;> exact ⟨h1, by omega, h3⟩
      rw [if_congr hrest rfl rfl, ← ih]
      split
      · rw [List.getD_eq_getElem?_getD, List.getElem?_set_ne (Ne.symm hk), ← List.getD_eq_getElem?_getD]
      · rfl

/-! ### Lanes -/

/-- The lanes of V[D] after a write, and those of the other registers. -/
theorem PixelRun.lane_setV {r : PixelRun} {i : Ins} (hr : r.vr.length = 64) (hd : i.d < 16) (f : Nat → BitVec 16) (v : Nat) {c : Nat}
    (hc : c < 4) : (r.setV i f).lane v c = if v = i.d ∧ r.writes i c then f c else r.lane v c := by
  refine (getD_foldl_set (r.writes i) f 0 (4 * i.d) r.vr (n := 4) (by omega) (4 * v + c)).trans ?_
  by_cases hv : v = i.d
  · subst hv
    simp only [Nat.add_sub_cancel_left, Nat.le_add_right, Nat.add_lt_add_iff_left, hc, true_and]
    rfl
  · rw [if_neg (by omega), if_neg fun h => hv h.1]
    rfl

/-- A write of V[D] behind the instruction. -/
theorem PixelRun.lanesSet_setV {r : PixelRun} {i : Ins} (hr : r.vr.length = 64) (hd : i.d < 16) (f : Nat → BitVec 16) :
    r.LanesSet ((r.past i).setV i f) i f where
  written c hc := by
    rw [PixelRun.lane_setV (r := r.past i) hr hd f i.d hc]
    simp only [true_and]
    rfl
  others v c hv hc := by
    rw [PixelRun.lane_setV (r := r.past i) hr hd f v hc, if_neg fun h => hv h.1]
    rfl
  rest := rfl

/-! ### One instruction -/

/-- The meaning of an opcode acts on the run behind the instruction. -/
theorem State.Executes.step {s : State} {k op : Nat} {i : Ins} {j : Job} {x : Snap} {r : PixelRun} (h : s.Executes k i j x r)
    (hop : i.op = op) (eff : Ins → Job → Snap → PixelRun → State → State) :
    s.pluStep k op eff = eff i j x (r.past i) s := by
  unfold State.pluStep
  rw [h.tile, h.run]
  dsimp only
  rw [h.fetch]
  exact if_pos hop

/-- A fetch that faults stops the pixel, whatever the opcode. -/
theorem State.pluStep_stops {s : State} {k kind : Nat} {j : Job} {x : Snap} {r : PixelRun} (htile : s.pluTile k = some (j, x))
    (hrun : (s.pluOf k).run = some r) (hfetch : s.pluFetch k x r r.blk.isSome = .error kind) (op : Nat)
    (eff : Ins → Job → Snap → PixelRun → State → State) :
    s.pluStep k op eff = s.stopPixel (j.arg 0 % 16) k kind r.pc x { r with cost := r.cost + 1 } := by
  unfold State.pluStep
  rw [htile, hrun]
  dsimp only
  rw [hfetch]

/-- An instruction of a word names one of 16 destinations. -/
theorem decodeWord_d_lt {w : BitVec 64} {i : Ins} (h : decodeWord w = some i) : i.d < 16 := by
  have hsplit : splitWord w = i := by
    unfold decodeWord at h
    dsimp only at h
    split at h
    · cases h
    · split at h
      · exact Option.some.inj h
      · cases h
  rw [← hsplit]
  exact Nat.mod_lt _ (by decide)

theorem State.Executes.d_lt {s : State} {k : Nat} {i : Ins} {j : Job} {x : Snap} {r : PixelRun} (h : s.Executes k i j x r) :
    i.d < 16 := by
  have hfetch := h.fetch
  unfold State.pluFetch at hfetch
  split at hfetch
  · cases hfetch
  · split at hfetch
    · cases hfetch
    · next hword =>
      split at hfetch
      · cases hfetch
      · cases hfetch
        exact decodeWord_d_lt hword

/-- A command whose whole meaning is a write of V[D]. -/
theorem State.Executes.setsLanes {s : State} {k op : Nat} {i : Ins} {j : Job} {x : Snap} {r : PixelRun} (h : s.Executes k i j x r)
    (hop : i.op = op) {c : Instr} {f : Ins → Snap → PixelRun → Nat → BitVec 16}
    (hc : exec c s = done (s.pluAlu k op fun i x r => r.setV i (f i x r))) :
    ∃ r', exec c s = .next (s.setRun k (some r')) ∧ r.LanesSet r' i (f i x (r.past i)) :=
  ⟨_, hc.trans (congrArg Host.Outcome.next (h.step hop _)), PixelRun.lanesSet_setV h.vectors h.d_lt _⟩

/-! ### The end of a pixel -/

theorem State.pluOf_congr {s t : State} (h : t.plu = s.plu) (k : Nat) : t.pluOf k = s.pluOf k := by
  rw [State.pluOf, h, State.pluOf]

theorem State.pluOf_setPlu (s : State) (k : Nat) (v : PluState) : (s.setPlu k v).pluOf k = v := Tab.get_set_self _ _ _ _

/-- The end of a pixel's run takes the run from its PLU, and counts. -/
theorem State.endPixel_leaves (s : State) (k : Nat) (r : PixelRun) : (s.endPixel k r).pluOf k = { s.pluOf k with run := none } ∧
    (s.endPixel k r).mem = s.mem ∧
      ∀ page off, countKey (regKey page off) = false → (s.endPixel k r).reg page off = s.reg page off := by
  have hcounts : (s.setRun k none).SameButCount (s.endPixel k r) := (State.count_same _ _ _).trans (State.count_same _ _ _)
  refine ⟨?_, hcounts.mem, fun _ _ hkey => hcounts.reg hkey⟩
  rw [State.pluOf_congr hcounts.plu]
  exact s.pluOf_setPlu k _

/-- PROG_COST is no register that counting changes. -/
theorem countKey_progCost (m : Nat) (hm : m < 16) : countKey (regKey (cmpOfMap m) (Cmp.PROG_COST (m % 4))) = false := by
  have hlow : 0x81000 ≤ regKey (cmpOfMap m) (Cmp.PROG_COST (m % 4)) := by simp only [regKey, cmpOfMap, pgCMP, Cmp.PROG_COST]; omega
  have hhigh : regKey (cmpOfMap m) (Cmp.PROG_COST (m % 4)) < 0xC0000 := by simp only [regKey, cmpOfMap, pgCMP, Cmp.PROG_COST]; omega
  generalize regKey (cmpOfMap m) (Cmp.PROG_COST (m % 4)) = key at *
  simp only [countKey, irqKey, Bool.or_eq_false_iff, Bool.and_eq_false_iff, decide_eq_false_iff_not, beq_eq_false_iff_ne]
  omega

/-- What END after ST notes before the run ends: PROG_COST and the dose contributions (R142, R193). -/
def State.pixelNoted (s : State) (k m : Nat) (r : PixelRun) : State :=
  (s.setFld (cmpOfMap m) (Cmp.PROG_COST (m % 4)) (15, 0) r.cost).setPlu k
    { s.pluOf k with sums := addDose (s.pluOf k).sums r.tile r.dose }

theorem State.finishPixel_stored {r : PixelRun} (h : r.stored = true) (s : State) (k : Nat) (j : Job) (x : Snap) :
    s.finishPixel k j x r = (s.pixelNoted k (j.arg 0 % 16) r).endPixel k r := by
  simp only [State.finishPixel, h, if_true, Bool.true_or]
  rfl

theorem State.finishPixel_leaves {r : PixelRun} (h : r.stored = true) (s : State) (k : Nat) (j : Job) (x : Snap) :
    let m := j.arg 0 % 16
    let t := s.finishPixel k j x r
    t.pluOf k = { s.pluOf k with run := none, sums := addDose (s.pluOf k).sums r.tile r.dose } ∧ t.mem = s.mem ∧
      t.fld (cmpOfMap m) (Cmp.PROG_COST (m % 4)) (15, 0) = r.cost % 2 ^ 16 := by
  intro m t
  have ht : t = (s.pixelNoted k m r).endPixel k r := State.finishPixel_stored h s k j x
  obtain ⟨hplu, hmem, hreg⟩ := (s.pixelNoted k m r).endPixel_leaves k r
  refine ⟨?_, ht ▸ hmem, ?_⟩
  · rw [ht, hplu, State.pixelNoted, State.pluOf_setPlu]
  · rw [ht, State.fld, hreg _ _ (countKey_progCost m (Nat.mod_lt _ (by decide)))]
    exact (congrArg (bits · (15, 0)) (State.reg_setReg_self s _ _ _)).trans (bits_putBits_same _ (by decide) _)

/-! ### Pixels and repeat blocks -/

/-- The next pixel of the job begins. -/
theorem State.beginPixel_eq {s : State} {k : Nat} {j : Job} {x : Snap} (htile : s.pluTile k = some (j, x))
    (hrun : (s.pluOf k).run = none) (hnext : (s.pluOf k).next < j.arg 2)
    (hin : s.pixelTile x (j.arg 1 + (s.pluOf k).next) < x.tileCount) (waits : Nat) :
    let u := s.pluOf k
    let r := s.freshRun x (j.arg 1 + u.next)
    s.beginPixel k waits = (((s.setPlu k { u with next := u.next + 1, run := some r }).count (8 * k + 4) 1).gathered k waits
      r.record.isSome) := by
  intro u r
  unfold State.beginPixel
  dsimp only
  rw [htile, hrun]
  dsimp only
  rw [if_pos hnext, if_neg (Nat.not_le.2 hin)]

/-- REP with a selected layer. -/
theorem State.openBlock_cons {x : Snap} {i : Ins} {l : Nat} {rest : List Nat} (h : repLayers x (i.f % 65536) = l :: rest) (s : State)
    (k : Nat) (j : Job) (r : PixelRun) :
    s.openBlock k i j x r = s.setRun k (some { r with blk := some ⟨r.pc, l :: rest, 0, rest.length + 1⟩ }) := by
  unfold State.openBlock
  rw [h]

/-- ENDR with a further layer goes back to the block. -/
theorem PixelRun.closeBlock_next {r : PixelRun} {b : Block_} (h : r.blk = some b) {l next : Nat} {rest : List Nat}
    (hlayers : b.layers = l :: next :: rest) :
    r.closeBlock = { r with pc := b.body, blk := some { b with layers := next :: rest, index := b.index + 1 } } := by
  unfold PixelRun.closeBlock
  rw [h]
  dsimp only
  rw [hlayers]
  rfl

/-- ENDR of the last layer leaves the block. -/
theorem PixelRun.closeBlock_last {r : PixelRun} {b : Block_} (h : r.blk = some b) (hlayers : b.layers.length ≤ 1) :
    r.closeBlock = { r with blk := none } := by
  unfold PixelRun.closeBlock
  rw [h]
  dsimp only
  rw [List.drop_eq_nil_of_le hlayers]

/-! ### Stages -/

/-- SMP of a layer of LAYER_MASK raises no fault. -/
theorem State.doSmp_selected {x : Snap} {r : PixelRun} {i : Ins} (h : x.mask.testBit (r.smpLayerNo i) = true) (s : State) (k : Nat)
    (j : Job) : s.doSmp k i j x r = s.setRun k (some (r.setV i (s.smpLane x r i))) := by
  simp only [State.doSmp, State.smpCheck, h, if_true, Bool.not_true, Bool.or_false]

end Sys2Proof.Machine

open Sys2Proof Sys2Proof.Machine

/-- Settles O18: each command's next state through the laws of fetches, blocks and pixels above. -/
theorem pixelsRun : Obligations.PixelsRun := by
  refine ⟨fun s plu waits j x => ?_, fun s plu i j x r h hop => ?_, fun s plu i j x r l rest h hop hlayers => ?_,
    fun s plu i j x r b h hop hblk => ?_, fun s plu i j x r => ?_, fun s plu kind j x r htile hrun hfetch c hc => ?_⟩
  · intro u p r htile hrun hnext hin
    exact congrArg Host.Outcome.next (State.beginPixel_eq htile hrun hnext hin waits)
  · exact congrArg Host.Outcome.next (h.step hop _)
  · exact congrArg Host.Outcome.next ((h.step hop _).trans (State.openBlock_cons hlayers s plu j (r.past i)))
  · have hexec : exec (.endr plu) s = .next (s.setRun plu (some (r.past i).closeBlock)) :=
      congrArg Host.Outcome.next (h.step hop _)
    refine ⟨fun l next rest hlayers => ?_, fun hlayers => ?_⟩
    · rw [hexec, PixelRun.closeBlock_next (r := r.past i) hblk hlayers]
    · rw [hexec, PixelRun.closeBlock_last (r := r.past i) hblk hlayers]
  · intro m h hop hstored
    have hexec : exec (.endRun plu) s = .next (s.finishPixel plu j x (r.past i)) := congrArg Host.Outcome.next (h.step hop _)
    have hcost : (r.past i).cost = r.cost + 1 := by
      simp only [PixelRun.past, Ins.cost, hop]
      rfl
    obtain ⟨hplu, hmem, hprog⟩ := State.finishPixel_leaves (r := r.past i) hstored s plu j x
    exact ⟨_, hexec, by rw [hplu], hmem, by rw [hplu]; rfl, hcost ▸ hprog⟩
  · have hstop := State.pluStep_stops htile hrun hfetch
    fin_cases hc <;> refine congrArg Host.Outcome.next ?_ <;>
      simp only [State.pluScalar, State.pluLanes, State.pluShift, State.pluAlu, hstop]

/-- Settles O21: each of these commands is a write of V[D], lane by lane. -/
theorem laneArithmeticActs : Obligations.LaneArithmeticActs :=
  ⟨fun _ _ _ _ _ _ h hop => (h.setsLanes (c := .adds _) hop rfl :),
    fun _ _ _ _ _ _ h hop => (h.setsLanes (c := .subs _) hop rfl :),
    fun _ _ _ _ _ _ h hop => (h.setsLanes (c := .mul _) hop rfl :),
    fun _ _ _ _ _ _ h hop => (h.setsLanes (c := .mad _) hop rfl :),
    fun _ _ _ _ _ _ h hop => (h.setsLanes (c := .min _) hop rfl :),
    fun _ _ _ _ _ _ h hop => (h.setsLanes (c := .max _) hop rfl :),
    fun _ _ _ _ _ _ h hop => (h.setsLanes (c := .absd _) hop rfl :),
    fun _ _ _ _ _ _ h hop => (h.setsLanes (c := .avg _) hop rfl :),
    fun _ _ _ _ _ _ h hop => (h.setsLanes (c := .shr _) hop rfl :),
    fun _ _ _ _ _ _ h hop => (h.setsLanes (c := .shl _) hop rfl :),
    fun _ _ _ _ _ _ h hop => (h.setsLanes (c := .lerp _) hop rfl :),
    fun _ _ _ _ _ _ h hop => (h.setsLanes (c := .blnd _) hop rfl :)⟩

/-- Settles O22: the stages are writes of V[D]; SMP raises no fault, DOSE adds its contributions, ST stores the lanes. -/
theorem pixelStagesAct : Obligations.PixelStagesAct := by
  refine ⟨fun s plu i j x r h hop hmask => ?_,
    fun _ _ _ _ _ _ h hop => (h.setsLanes (c := .mat _) hop rfl :),
    fun _ _ _ _ _ _ h hop => (h.setsLanes (c := .lut _) hop rfl :),
    fun _ _ _ _ _ _ h hop => (h.setsLanes (c := .luts _) hop rfl :),
    fun s plu i j x r h hop => ?_,
    fun _ _ _ _ _ _ h hop => (h.setsLanes (c := .dith _) hop rfl :),
    fun _ _ _ _ _ _ h hop => congrArg Host.Outcome.next (h.step hop _)⟩
  · exact ⟨_, congrArg Host.Outcome.next ((h.step hop _).trans (State.doSmp_selected hmask s plu j)),
      PixelRun.lanesSet_setV h.vectors h.d_lt _⟩
  · have hset := PixelRun.lanesSet_setV h.vectors h.d_lt (r.doseLane i)
    exact ⟨(r.past i).doseRun x i, congrArg Host.Outcome.next (h.step hop _), rfl, rfl, hset.written, rfl⟩

end

section
/-!
The Pixel Lane Units (R166 to R175): the writes of P[D] and of S[D], with O19 and O20.
-/
set_option Elab.async false
namespace Sys2Proof.Machine

/-! ### Destinations -/

/-- The destination of a decoded word is a register of its opcode's kind (R168). -/
theorem decodeWord_destination {w : BitVec 64} {i : Ins} (h : decodeWord w = some i) {row : OpRow} (hrow : opRow i.op = some row) :
    regOk row.d i.d = true := by
  unfold decodeWord at h
  dsimp only at h
  split at h
  · cases h
  · next hword =>
    split at h
    · next hok =>
      cases h
      cases hrow.symm.trans hword
      simp only [Bool.and_eq_true] at hok
      tauto
    · cases h

/-- A fetch that gives an instruction has decoded a word to it. -/
theorem State.pluFetch_ok {s : State} {k : Nat} {x : Snap} {r : PixelRun} {inBlock : Bool} {i : Ins}
    (h : s.pluFetch k x r inBlock = .ok i) : decodeWord (s.progWord (k / 8) r.pc) = some i := by
  unfold State.pluFetch at h
  split at h
  · cases h
  · split at h
    · cases h
    · next hword =>
      split at h
      · cases h
      · cases h
        exact hword

/-- The destination of an executed instruction, where its opcode's row names a kind with `n` registers. -/
theorem State.Executes.d_lt_kind {s : State} {k op n : Nat} {i : Ins} {j : Job} {x : Snap} {r : PixelRun} (h : s.Executes k i j x r)
    (hop : i.op = op) (hn : 0 < n) (hkind : (opRow op).map OpRow.d = some n) : i.d < n := by
  obtain ⟨row, hrow, rfl⟩ := Option.map_eq_some_iff.1 hkind
  have hok := decodeWord_destination (State.pluFetch_ok h.fetch) (hop ▸ hrow)
  rwa [regOk, if_neg (Nat.ne_of_gt hn), decide_eq_true_iff] at hok

/-! ### Predicates -/

/-- The lanes of P[D] after a write, and those of the other registers. -/
theorem PixelRun.pred_setP {r : PixelRun} {i : Ins} (hr : r.pr.length = 16) (hd : i.d < 4) (f : Nat → Bool) (p : Nat) {c : Nat}
    (hc : c < 4) : (r.setP i f).pred p c = if p = i.d ∧ r.writes i c then f c else r.pred p c := by
  refine (getD_foldl_set (r.writes i) f false (4 * i.d) r.pr (n := 4) (by omega) (4 * p + c)).trans ?_
  by_cases hp : p = i.d
  · subst hp
    simp only [Nat.add_sub_cancel_left, Nat.le_add_right, Nat.add_lt_add_iff_left, hc, true_and]
    rfl
  · rw [if_neg (by omega), if_neg fun h => hp h.1]
    rfl

/-- A write of P[D] behind the instruction. -/
theorem PixelRun.predicatesSet_setP {r : PixelRun} {i : Ins} (hr : r.pr.length = 16) (hd : i.d < 4) (f : Nat → Bool) :
    r.PredicatesSet ((r.past i).setP i f) i f where
  written c hc := by
    rw [PixelRun.pred_setP (r := r.past i) hr hd f i.d hc]
    simp only [true_and]
    rfl
  others p c hp hc := by
    rw [PixelRun.pred_setP (r := r.past i) hr hd f p hc, if_neg fun h => hp h.1]
    rfl
  rest := rfl

/-- A command whose whole meaning is a write of P[D]. -/
theorem State.Executes.setsPredicates {s : State} {k op : Nat} {i : Ins} {j : Job} {x : Snap} {r : PixelRun}
    (h : s.Executes k i j x r) (hop : i.op = op) (hkind : (opRow op).map OpRow.d = some 4) {c : Instr}
    {f : Ins → Snap → PixelRun → Nat → Bool} (hc : exec c s = done (s.pluAlu k op fun i x r => r.setP i (f i x r))) :
    ∃ r', exec c s = .next (s.setRun k (some r')) ∧ r.PredicatesSet r' i (f i x (r.past i)) :=
  ⟨_, hc.trans (congrArg Host.Outcome.next (h.step hop _)),
    PixelRun.predicatesSet_setP h.predicates (h.d_lt_kind hop (by decide) hkind) _⟩

/-- The operation that FUNC selects for PLOG: AND, OR, XOR, AND NOT. -/
theorem plogOp_mod (n : Nat) (a b : Bool) : plogOp (n % 4) a b
    = if n % 4 = 0 then a && b else if n % 4 = 1 then a || b else if n % 4 = 2 then a != b else a && !b := by
  generalize n % 4 = op
  match op with
  | 0 | 1 | 2 | _ + 3 => rfl

/-- The comparison that FUNC selects for CMP: EQ, NE, LT, LE, GT, GE. -/
theorem compare_eq (cond : Nat) (t : Bool) (x y : BitVec 16) : compare_ cond t x y =
    let a := laneVal t x
    let b := laneVal t y
    if cond = 0 then a == b else if cond = 1 then a != b else if cond = 2 then decide (a < b)
    else if cond = 3 then decide (a ≤ b) else if cond = 4 then decide (b < a) else decide (b ≤ a) := by
  match cond with
  | 0 | 1 | 2 | 3 | 4 | _ + 5 => rfl

/-! ### Scalars -/

/-- A saturated result fits its register. -/
theorem satSigned_bounds (x : Int) : -2147483648 ≤ satSigned 32 x ∧ satSigned 32 x ≤ 2147483647 := by
  unfold satSigned
  split_ifs <;> omega

/-- The code of a value in range reads as the value. -/
theorem signed_ofInt {x : Int} (hlow : -2147483648 ≤ x) (hhigh : x ≤ 2147483647) : signed 32 (BitVec.ofInt 32 x).toNat = x := by
  unfold signed
  rw [BitVec.toNat_ofInt]
  dsimp only
  split_ifs <;> omega

/-- S[D] after a write, and the other registers. -/
theorem PixelRun.scalar_setS {r : PixelRun} {i : Ins} (hr : r.sr.length = 8) (hd : i.d < 8) (x : Int) (q : Nat) :
    (r.setS i x).scalar q = if q = i.d then satSigned 32 x else r.scalar q := by
  have hin : i.d < r.sr.length := hr.symm ▸ hd
  unfold PixelRun.scalar PixelRun.setS
  dsimp only
  rw [List.getD_eq_getElem?_getD]
  split
  · next hq =>
    obtain ⟨hlow, hhigh⟩ := satSigned_bounds x
    rw [hq, List.getElem?_set_self hin, Option.getD_some, signed_ofInt hlow hhigh]
  · next hq => rw [List.getElem?_set_ne (Ne.symm hq), ← List.getD_eq_getElem?_getD]

/-- A write of S[D] behind the instruction. -/
theorem PixelRun.scalarSet_setS {r : PixelRun} {i : Ins} (hr : r.sr.length = 8) (hd : i.d < 8) (x : Int) :
    r.ScalarSet ((r.past i).setS i x) i x where
  written := (PixelRun.scalar_setS (r := r.past i) hr hd x i.d).trans (if_pos rfl)
  others q hq := (PixelRun.scalar_setS (r := r.past i) hr hd x q).trans (if_neg hq)
  rest := rfl

/-- A command whose whole meaning is a write of S[D]. -/
theorem State.Executes.setsScalar {s : State} {k op : Nat} {i : Ins} {j : Job} {x : Snap} {r : PixelRun} (h : s.Executes k i j x r)
    (hop : i.op = op) (hkind : (opRow op).map OpRow.d = some 8) {c : Instr} {f : Ins → Snap → PixelRun → Int}
    (hc : exec c s = done (s.pluAlu k op fun i x r => r.setS i (f i x r))) :
    ∃ r', exec c s = .next (s.setRun k (some r')) ∧ r.ScalarSet r' i (f i x (r.past i)) :=
  ⟨_, hc.trans (congrArg Host.Outcome.next (h.step hop _)),
    PixelRun.scalarSet_setS h.scalars (h.d_lt_kind hop (by decide) hkind) _⟩

end Sys2Proof.Machine

open Sys2Proof Sys2Proof.Machine

/-- Settles O19: PSET, PLOG and CMP are writes of P[D], VEXT is one of S[D], the others are writes of V[D]. -/
theorem movesAct : Obligations.MovesAct := by
  refine ⟨fun _ _ _ _ _ _ h hop => (h.setsPredicates (c := .pset _) hop rfl rfl :), fun s plu i j x r h hop => ?_,
    fun s plu i j x r h hop => ?_,
    fun _ _ _ _ _ _ h hop => (h.setsLanes (c := .mov _) hop rfl :),
    fun _ _ _ _ _ _ h hop => (h.setsLanes (c := .vldi _) hop rfl :),
    fun _ _ _ _ _ _ h hop => (h.setsLanes (c := .vsplat _) hop rfl :),
    fun _ _ _ _ _ _ h hop => (h.setsScalar (c := .vext _) hop rfl rfl :),
    fun _ _ _ _ _ _ h hop => (h.setsLanes (c := .swz _) hop rfl :),
    fun _ _ _ _ _ _ h hop => (h.setsLanes (c := .sel _) hop rfl :)⟩
  · simp only [← plogOp_mod]
    exact (h.setsPredicates (c := .plog _) hop rfl rfl :)
  · simp only [← compare_eq]
    exact (h.setsPredicates (c := .cmp _) hop rfl rfl :)

/-- Settles O20: each of these commands is a write of S[D]. -/
theorem scalarsAct : Obligations.ScalarsAct :=
  ⟨fun _ _ _ _ _ _ h hop => (h.setsScalar (c := .sldi _) hop rfl rfl :),
    fun _ _ _ _ _ _ h hop => (h.setsScalar (c := .sadd _) hop rfl rfl :),
    fun _ _ _ _ _ _ h hop => (h.setsScalar (c := .ssub _) hop rfl rfl :),
    fun _ _ _ _ _ _ h hop => (h.setsScalar (c := .smul _) hop rfl rfl :),
    fun _ _ _ _ _ _ h hop => (h.setsScalar (c := .smin _) hop rfl rfl :),
    fun _ _ _ _ _ _ h hop => (h.setsScalar (c := .smax _) hop rfl rfl :),
    fun _ _ _ _ _ _ h hop => (h.setsScalar (c := .sget _) hop rfl rfl :)⟩

end

section
/-!
The store of a region (R203 to R239): what a change of one of its parts reads back as, and what it leaves; and the threads on the
control cores (R232 to R235), with O17.
-/
set_option Elab.async false
namespace Sys2Proof.Machine

/-! ### Regions -/

section
variable {s t : State}

theorem State.Keeps.region_eq {l : List Instr} {m : Nat} {c : Bool} (h : State.Keeps ⟨l, s, m, c⟩ t)
    (hm : m.testBit 19 = true := by decide) : t.region = s.region := h.regionIs hm

theorem State.regionOf_congr (h : t.region = s.region) (n : Nat) : t.regionOf n = s.regionOf n := by
  rw [State.regionOf, h, State.regionOf]

theorem State.thread_congr (h : t.region = s.region) (x : Nat) : t.thread x = s.thread x := by
  rw [State.thread, State.regionOf_congr h, State.thread]

theorem State.domainOf_congr (h : t.region = s.region) (d : Nat) : t.domainOf d = s.domainOf d := by
  rw [State.domainOf, State.regionOf_congr h, State.domainOf]

theorem State.listRun_congr (h : t.region = s.region) (n k : Nat) : t.listRun n k = s.listRun n k := by
  rw [State.listRun, State.regionOf_congr h, State.listRun]

end

section
variable (s : State)

@[simp] theorem State.regionOf_modRegion (n : Nat) (f : RegionState → RegionState) :
    (s.modRegion n f).regionOf n = f (s.regionOf n) := Tab.get_set_self _ _ _ _

theorem State.count_region (n k : Nat) : (s.count n k).region = s.region := (s.count_same n k).region

theorem State.fault_region (page n : Nat) : (s.fault page n).region = s.region :=
  (State.fault_keeps (s.keeps_parts 0x80000) (Keep.off_of_and (by decide))).region_eq

theorem State.jobFault_region (n kind : Nat) (j : Job) (e : Nat) : (s.jobFault n kind j e).region = s.region :=
  (State.jobFault_keeps (s.keeps_parts 0x80000) (Keep.off_of_and (by decide))).region_eq

theorem State.readyCheck_region (k f : Nat) : (s.readyCheck k f).region = s.region :=
  (State.readyCheck_keeps (s.keeps_parts 0x80000) (Keep.off_of_and (by decide))).region_eq

theorem State.sourceDone_region (x : JobSource) : (s.sourceDone x).region = s.region :=
  (State.sourceDone_keeps (s.keeps_parts 0x80000) (Keep.off_of_and (by decide))).region_eq

/-! ### The parts of a region -/

/-- A job that is put into a region stands in it, and nothing but its jobs differs. -/
theorem RegionState.put_eq (r : RegionState) (j : Job) : ∃ l, r.put j = { r with jobs := l } ∧ j ∈ l := by
  unfold RegionState.put
  split
  · next hany =>
    obtain ⟨x, hx, hid⟩ := List.any_eq_true.1 hany
    exact ⟨_, rfl, List.mem_map.2 ⟨x, hx, if_pos (beq_iff_eq.1 hid)⟩⟩
  · exact ⟨_, rfl, List.mem_append_right _ (List.mem_singleton_self j)⟩

theorem RegionState.mem_put (r : RegionState) (j : Job) : j ∈ (r.put j).jobs := by
  obtain ⟨l, heq, hmem⟩ := r.put_eq j
  rwa [heq]

theorem RegionState.put_spill (r : RegionState) (j : Job) : (r.put j).spill = r.spill := by
  obtain ⟨l, heq, -⟩ := r.put_eq j
  rw [heq]

theorem RegionState.put_ctr (r : RegionState) (j : Job) : (r.put j).ctr = r.ctr := by
  obtain ⟨l, heq, -⟩ := r.put_eq j
  rw [heq]

@[simp] theorem State.thread_setThread (x : Nat) (v : Thread) : (s.setThread x v).thread x = v := by
  rw [State.thread, State.setThread, State.regionOf_modRegion]
  exact Tab.get_set_self _ _ _ _

@[simp] theorem State.ctrOf_putCtr (n c v : Nat) : (s.putCtr n c v).ctrOf n c = v := by
  rw [State.ctrOf, State.putCtr, State.regionOf_modRegion]
  exact Tab.get_set_self _ _ _ _

@[simp] theorem State.domainOf_setDomain (d : Nat) (v : Domain) : (s.setDomain d v).domainOf d = v := by
  rw [State.domainOf, State.setDomain, State.regionOf_modRegion]
  exact Tab.get_set_self _ _ _ _

@[simp] theorem State.listRun_setListRun (n k : Nat) (v : ListRun) : (s.setListRun n k v).listRun n k = v := by
  rw [State.listRun, State.setListRun, State.regionOf_modRegion]
  exact Tab.get_set_self _ _ _ _

/-! ### Threads (R234, R235) -/

/-- A thread that begins to run stands RUNNING on its core, whatever it pre-empts. -/
theorem State.thread_runThread (x c : Nat) : ((s.runThread x c).thread x).st = 2 ∧ ((s.runThread x c).thread x).core = c := by
  unfold State.runThread
  dsimp only
  rw [State.thread_congr (State.count_region _ _ _), State.thread_setThread]
  exact ⟨rfl, rfl⟩

theorem State.runThread_mem (x c : Nat) : (s.runThread x c).mem = s.mem :=
  (State.runThread_keeps (s.keeps_parts 0x10) (Keep.off_of_and (by decide))).mem_eq

end

section
variable {s : State}

theorem State.placeThread_some {x c : Nat} (hfirst : s.readyThreads.find? (fun t => (s.coreFor t).isSome) = some x)
    (hcore : s.coreFor x = some c) : s.placeThread = s.runThread x c := by
  unfold State.placeThread
  rw [hfirst]
  dsimp only
  rw [hcore]

theorem State.placeThread_none (h : s.readyThreads.find? (fun t => (s.coreFor t).isSome) = none) :
    s.placeThread = s := by
  unfold State.placeThread
  rw [h]

/-- The thread on a core gives way to a READY one of its priority. -/
theorem State.rotate_some {c r x : Nat} (hon : s.threadOn c = some r) (hquantum : s.nat (pgJSC (r / 64)) Jsc.QUANTUM ≠ 0)
    (hother : s.readyThreads.find? (fun t => s.thrPrio t == s.thrPrio r && s.thrAllows t c) = some x) :
    s.rotate c = (s.threadReady r { s.thread r with core := 0 }).placeThread := by
  unfold State.rotate
  rw [hon]
  dsimp only
  rw [if_neg hquantum, hother]

end

end Sys2Proof.Machine

open Sys2Proof Sys2Proof.Machine

/-- Settles O17: a placement runs the thread found, and a rotation places anew after its thread has become READY. -/
theorem threadsArePlaced : Obligations.ThreadsArePlaced := by
  refine ⟨fun s x c hfirst hcore => ?_, fun s hnone => ?_, fun s core r x hon hquantum hother => ?_⟩
  · have hexec : exec .threadPlace s = .next s.placeThread := rfl
    obtain ⟨hst, hon⟩ := s.thread_runThread x c
    rw [hexec, State.placeThread_some hfirst hcore]
    exact ⟨_, rfl, hst, hon, s.runThread_mem x c⟩
  · have hexec : exec .threadPlace s = .next s.placeThread := rfl
    rw [hexec, State.placeThread_none hnone]
  · have hexec : exec (.threadQuantum core) s = .next (s.rotate core.val) := rfl
    rw [hexec, State.rotate_some hon hquantum hother]

end

section
/-!
Events of the region schedulers: reading lists, dispatch, completion, stalls, signals, the spill ring, and lagging PLUs (R203 to
R229), with O16.
-/
set_option Elab.async false
namespace Sys2Proof.Machine

/-! ### Faults and counts of a region's pages -/

/-- Counting and raising an interrupt leave the pages between those of the ICU and of FLD, and those behind PMC. -/
theorem countKey_of_page {page off : Nat} (hpage : 12 ≤ page ∧ page < 0x160 ∨ 0x1F0 ≤ page) (ho : off < 0x1000) :
    countKey (regKey page off) = false := by
  have hkey : regKey page off / 0x1000 = page := by simp only [regKey]; omega
  simp only [countKey, irqKey, hkey, Bool.or_eq_false_iff, Bool.and_eq_false_iff, decide_eq_false_iff_not, beq_eq_false_iff_ne]
  omega

theorem countKey_jsc {n off : Nat} (hn : n < 4) (ho : off < 0x1000) : countKey (regKey (pgJSC n) off) = false :=
  countKey_of_page (.inl (by simp only [pgJSC]; omega)) ho

theorem countKey_plu {k off : Nat} (ho : off < 0x1000) : countKey (regKey (pgPLU k) off) = false :=
  countKey_of_page (.inr (by simp only [pgPLU]; omega)) ho

/-- A fault of a page is a bit of its PAGE_FAULT, and perhaps an interrupt. -/
theorem State.faultHere_same (s : State) (page b : Nat) : (s.setFlag page PAGE_FAULT b true).SameButIrq (s.faultHere page b) := by
  unfold State.faultHere
  dsimp only
  cases pageInfo page with
  | none => exact .refl _
  | some i =>
    dsimp only
    cases faultIrq i b with
    | none => exact .refl _
    | some k =>
      dsimp only
      split
      · exact .refl _
      · exact State.irq_same _ k

theorem State.flag_fault_jsc (s : State) (n : Fin 4) {b : Nat} (hb : b < 32) : (s.fault (pgJSC n) b).flag (pgJSC n) PAGE_FAULT b = true := by
  rw [State.fault_eq_faultHere _ (pageInfo_pgJSC n) rfl, State.flag,
    (s.faultHere_same (pgJSC n) b).count.reg (countKey_jsc n.isLt (by decide)), State.setFlag_eq, State.reg_setReg_self, if_pos rfl,
    bit_setBit _ _ _ hb, decide_eq_true rfl, Bool.true_or]

/-! ### Lists (R208, R209) -/

/-- The submission of the descriptor that list `k` reads next. -/
def State.listSubmit (s : State) (n k : Nat) : State × Bool :=
  let l := s.listRun n k
  s.submit n (s.listDesc n k l.next l.frame) (.list (s.fld (pgJSC n) (Jsc.LIST_CTRL k) (11, 8)) l.frame l.auto) l.epoch

/-- A descriptor that was taken is behind the list's reading, which goes on while LIST_COUNT has more. -/
theorem State.listRun_readList {s : State} {n k : Nat} (hturn : s.listTurn n k = true) (htaken : (s.listSubmit n k).2 = true) :
    (s.readList n k).listRun n k = { s.listRun n k with
      reading := decide ((s.listRun n k).next + 1 < s.fld (pgJSC n) (Jsc.LIST_COUNT k) (16, 0)), next := (s.listRun n k).next + 1 } := by
  unfold State.readList
  rw [hturn, Bool.not_true, if_neg Bool.false_ne_true]
  change State.listRun (if !(s.listSubmit n k).2 then s else _) n k = _
  rw [htaken, Bool.not_true, if_neg Bool.false_ne_true]
  split
  · rw [State.listRun_congr (State.readyCheck_region _ _ _), State.listRun_setListRun]
  · rw [State.listRun_setListRun]

theorem State.readList_waits {s : State} {n k : Nat} (hturn : s.listTurn n k = true) (hfull : (s.listSubmit n k).2 = false) :
    s.readList n k = s := by
  unfold State.readList
  rw [hturn, Bool.not_true, if_neg Bool.false_ne_true]
  change (if !(s.listSubmit n k).2 then s else _) = _
  rw [hfull, Bool.not_false, if_pos rfl]

/-! ### Dispatch (R218, R219) -/

/-- A job that is given stands DISPATCHED on its executor. -/
theorem State.give_leaves (s : State) (n e : Nat) (j : Job) : (s.give n e j).mem = s.mem ∧ ∃ x ∈ ((s.give n e j).regionOf n).jobs,
    x.id = j.id ∧ x.d = j.d ∧ x.phase = .dispatched ∧ x.executor = e := by
  refine ⟨(State.give_keeps (s.keeps_parts 0x10) (Keep.off_of_and (by decide))).mem_eq, ?_⟩
  have hdev (a : State) (d1 d2 : DevState) :
      (if e = 120 then { a with dev := d1 } else if e = 121 then { a with dev := d2 } else a).region = a.region := by
    split_ifs <;> rfl
  unfold State.give
  dsimp only
  rw [State.regionOf_congr (hdev _ _ _), State.regionOf_congr (State.count_region _ _ _), State.regionOf_modRegion]
  exact ⟨_, RegionState.mem_put _ _, rfl, rfl, rfl, rfl⟩

/-- The oldest job that an executor can take is given to it, but for a FILL of a FAILED port. -/
theorem State.dispatch_gives {s : State} {n cls e : Nat} {j : Job} (hregion : s.regionStopped n = false) (hrun : s.pwrState = 0)
    (hflight : (s.regionOf n).inFlight < 64) (hpick : s.pickJob n (s.readyQueue n cls) = some (j, e))
    (hport : ¬ (j.type = 3 ∧ s.pageState (fillPage j.fillClass j.fillUnit) = 3)) : s.dispatch n cls = s.give n e j := by
  unfold State.dispatch
  rw [hregion, hrun, decide_eq_false (Nat.not_le.2 hflight), hpick]
  exact if_neg hport

/-! ### Completion (R203, R215, R222) -/

/-- An ordered job that is not at HEAD waits as COMPLETED. -/
theorem State.complete_waits {s : State} {n : Nat} {j : Job} (hordered : j.ordered = true) (hhead : s.windowPos j ≠ 0) :
    s.complete n j = s.modRegion n (·.put
      { j with phase := .completed, trace := j.trace.map (fun t => { t with complete := s.tln.now }) }) := by
  unfold State.complete
  dsimp only
  rw [hordered, Bool.not_true, Bool.false_or, if_neg (by simpa using hhead)]

section
variable {s : State} {n e : Nat} {j : Job} (hrunning : s.runningJob n e = some j) (cycles : Nat)
include hrunning

/-- A PLU finishes its job. -/
theorem State.finishJob_plu (he : e < 32) (hclock : s.engineRuns = true) {a : State} {j1 : Job} (h : s.pluFinish e j = some (a, j1)) :
    s.finishJob n e cycles = ((if j.type = 0 then a else a.count (8 * e) cycles).pluLatency e cycles).complete n j1 := by
  simp [State.finishJob, hrunning, he, hclock, h]

/-- Without PCLK neither PLUs nor port engines finish a job. -/
theorem State.finishJob_unclocked (he : e < 32 ∨ j.type = 3) (hclock : s.engineRuns = false) : s.finishJob n e cycles = s := by
  simp [State.finishJob, hrunning, he, hclock]

/-- INGEST and THREAD jobs are completed as they are. -/
theorem State.finishJob_plain (he : 32 ≤ e) (htype : j.type = 4 ∨ j.type = 5) : s.finishJob n e cycles = s.complete n j := by
  have hplu : ¬ e < 32 := Nat.not_lt.2 he
  have hfill : j.type ≠ 3 := by omega
  have hpack : j.type ≠ 2 := by omega
  simp [State.finishJob, hrunning, hplu, hfill, hpack]

end

theorem State.retireNext_some {s : State} {n dom : Nat} {j : Job}
    (h : (s.regionOf n).jobs.find? (fun j => j.phase == .completed && j.ordered && j.domain == dom && s.windowPos j == 0) = some j) :
    s.retireNext n dom = s.retire n j := by
  unfold State.retireNext
  rw [h]

/-! ### Timeouts and stalls (R217, R225) -/

section
variable {s : State} {n e : Nat} (hrunning : (s.runningJob n e).isSome = true) (hlimit : s.nat (pgJSC n) Jsc.JOB_TIMEOUT ≠ 0)
include hrunning hlimit

theorem State.timeout_due : ¬ ((s.runningJob n e).isNone = true ∨ s.nat (pgJSC n) Jsc.JOB_TIMEOUT = 0) := by
  rw [← Option.not_isSome, hrunning]
  simp [hlimit]

/-- An executor with a page is fenced at its level. -/
theorem State.timeoutJob_fences {p : Nat} (hp : executorPage e = some p) :
    s.timeoutJob n e = (s.fault (pgJSC n) Jsc.F_JOB_TIMEOUT).fencePageLevel p := by
  unfold State.timeoutJob
  rw [if_neg (State.timeout_due hrunning hlimit), hp]

/-- A control core hands its jobs back. -/
theorem State.timeoutJob_handsBack (hp : executorPage e = none) :
    s.timeoutJob n e = ((s.fault (pgJSC n) Jsc.F_JOB_TIMEOUT).recordFault 0 (pgJSC n)).handBackAll e := by
  unfold State.timeoutJob
  rw [if_neg (State.timeout_due hrunning hlimit), hp]

end

/-- A stall marks its domain, and its region by ORDER_STALL. -/
theorem State.stallOrder_leaves {s : State} {n : Fin 4} {dom : Nat} (henabled : s.flag (pgJSC n) Jsc.JSC_CTRL 1 = true)
    (hregion : dom / 1024 = n)
    (hwaits : (s.regionOf n).jobs.any (fun j => j.phase == .completed && j.ordered && j.domain == dom) = true)
    (hfirst : (s.domainOf dom).stalled = false) :
    (s.stallOrder n dom).domainOf dom = { s.domainOf dom with stalled := true } ∧
      (s.stallOrder n dom).flag (pgJSC n) PAGE_FAULT Jsc.F_ORDER_STALL = true ∧ (s.stallOrder n dom).mem = s.mem := by
  have heq : s.stallOrder n dom
      = (s.setDomain dom { s.domainOf dom with stalled := true }).fault (pgJSC n) Jsc.F_ORDER_STALL :=
    if_pos ⟨henabled, hregion, hwaits, hfirst⟩
  rw [heq]
  refine ⟨?_, State.flag_fault_jsc _ n (by decide), (State.fault_parts _ _ _).1⟩
  rw [State.domainOf_congr (State.fault_region _ _ _), State.domainOf_setDomain]

/-! ### Counters (R205, R206) -/

/-- A counter that stays above 0 is lowered, and nothing else. -/
theorem State.ctrSub_above {s : State} {n c k : Nat} (hc : c ≠ 0) (h : k < s.ctrOf n c) :
    s.ctrSub n c k = s.putCtr n c (s.ctrOf n c - k) := by
  simp [State.ctrSub, hc, Nat.not_lt.2 (Nat.le_of_lt h), Nat.not_le.2 h]

/-- A counter that would fall below 0 reads 0, with CTR_UNDERFLOW, and releases its jobs. -/
theorem State.ctrSub_below {s : State} {n c k : Nat} (hc : c ≠ 0) (h : s.ctrOf n c < k) :
    s.ctrSub n c k = ((s.putCtr n c 0).fault (pgJSC n) Jsc.F_CTR_UNDERFLOW).releaseWaiters n c := by
  simp [State.ctrSub, hc, h, Nat.le_of_lt h, Nat.sub_eq_zero_of_le (Nat.le_of_lt h)]

/-- A signal that leaves its counter above 0 is no longer on its way, and has taken 1. -/
theorem State.signalArrives_above {s : State} {n c : Nat} (hsignal : c ∈ (s.regionOf n).signals) (hc : c ≠ 0) (h : 1 < s.ctrOf n c) :
    let a := s.modRegion n (fun r => { r with signals := dropFirst c r.signals })
    s.signalArrives n c = a.putCtr n c (s.ctrOf n c - 1) := by
  intro a
  have hctr : a.ctrOf n c = s.ctrOf n c := by rw [State.ctrOf, State.regionOf_modRegion, State.ctrOf]
  have heq : s.signalArrives n c = a.ctrSub n c 1 := if_pos (List.contains_iff_mem.2 hsignal)
  rw [heq, State.ctrSub_above hc (hctr ▸ h), hctr]

/-! ### The spill ring (R229) -/

theorem State.dropJob_spill (s : State) (n : Nat) (j : Job) : ((s.dropJob n j).regionOf n).spill = (s.regionOf n).spill := by
  unfold State.dropJob
  dsimp only
  rw [State.regionOf_congr (State.sourceDone_region _ _), State.regionOf_congr (State.count_region _ _ _),
    State.regionOf_congr (State.fault_region _ _ _), State.regionOf_congr (State.jobFault_region _ _ _ _ _), State.regionOf_modRegion,
    RegionState.del]

theorem State.enterReady_spill (s : State) (n : Nat) (j : Job) : ((s.enterReady n j).regionOf n).spill = (s.regionOf n).spill := by
  unfold State.enterReady
  dsimp only
  split
  · exact s.dropJob_spill n j
  · split
    · rw [State.regionOf_modRegion, RegionState.put_spill]
    · rw [State.regionOf_modRegion]
      exact RegionState.put_spill _ _

theorem State.takeIn_spill (s : State) (n : Nat) (j : Job) : ((s.takeIn n j).regionOf n).spill = (s.regionOf n).spill := by
  unfold State.takeIn
  split
  · rw [State.regionOf_modRegion, RegionState.put_spill]
  · exact s.enterReady_spill n j

/-- The oldest descriptor leaves the ring, whether its job is dropped or stored. -/
theorem State.readBack_spill {s : State} {n : Nat} {x : Spilled} {rest : List Spilled} (h : (s.regionOf n).spill = x :: rest)
    (hroom : (s.regionOf n).storeLevel < 2048) : ((s.readBack n).regionOf n).spill = rest := by
  have hread (a : State) (hspill : (a.regionOf n).spill = rest) (bad : Bool) (j : Job) :
      ((if bad then a.dropJob n j else (a.modRegion n (·.put j)).takeIn n j).regionOf n).spill = rest := by
    split
    · rw [State.dropJob_spill, hspill]
    · rw [State.takeIn_spill, State.regionOf_modRegion, RegionState.put_spill, hspill]
  unfold State.readBack
  dsimp only
  rw [h]
  dsimp only
  rw [if_neg (Nat.not_le.2 hroom)]
  refine hread _ ?_ _ _
  rw [State.regionOf_congr (State.count_region _ _ _), State.regionOf_modRegion]

/-! ### Lagging PLUs (R226, R227) -/

/-- The PLU's block no longer waits for its comparison. -/
def State.blockDone (s : State) (k : Nat) : State := s.setPlu k { s.pluOf k with latDue := none }

theorem State.pluOf_blockDone (s : State) (k : Nat) : (s.blockDone k).pluOf k = { s.pluOf k with latDue := none } := s.pluOf_setPlu k _

/-- The means compared are not changed by the comparison's beginning. -/
theorem State.blockMeans_blockDone (s : State) (k n : Nat) : (s.blockDone k).blockMeans n = s.blockMeans n := by
  have hmean (i : Nat) : ((s.blockDone k).pluOf i).hasMean = (s.pluOf i).hasMean := by
    have hget : (s.blockDone k).pluOf i = if i = k then { s.pluOf k with latDue := none } else s.pluOf i := Tab.get_set _ _ _ _ _
    rw [hget]
    split
    · next hi => rw [hi]
    · rfl
  simp only [State.blockMeans, hmean]
  rfl

/-- The median of the region's means is noted. -/
def State.medianSet (s : State) (k : Nat) : State :=
  (s.blockDone k).setNat (pgJSC (k / 8)) Jsc.LAG_MEDIAN (lowerMedian (s.blockMeans (k / 8)))

section
variable {s : State} {k m : Nat} (hdue : (s.pluOf k).latDue = some m)
include hdue

/-- With fewer than three means nothing is compared. -/
theorem State.lagCompare_few (h : (s.blockMeans (k / 8)).length < 3) : s.lagCompare k = s.blockDone k := by
  rw [← s.blockMeans_blockDone k] at h
  unfold State.lagCompare
  rw [hdue]
  exact if_pos h

/-- The mean of a block against the region's median. -/
theorem State.lagCompare_median (h : 3 ≤ (s.blockMeans (k / 8)).length) :
    let med := lowerMedian (s.blockMeans (k / 8))
    s.lagCompare k = if 3 * med < 2 * m then (s.medianSet k).setLagging k true
      else if 4 * m ≤ 5 * med then (s.medianSet k).setLagging k false else s.medianSet k := by
  rw [State.medianSet, ← s.blockMeans_blockDone k] at *
  unfold State.lagCompare
  rw [hdue]
  exact if_neg (Nat.not_lt.2 h)

end

theorem regKey_plu_ne_jsc {k n o x : Nat} (hn : n < 4) (ho : o < 0x1000) (hx : x < 0x1000) :
    regKey (pgPLU k) o ≠ regKey (pgJSC n) x := by
  simp only [regKey, pgPLU, pgJSC]; omega

theorem State.medianSet_leaves (s : State) (k : Fin 32) : ((s.medianSet k).pluOf k).latDue = none ∧
    (s.medianSet k).reg (pgJSC (k / 8)) Jsc.LAG_MEDIAN = BitVec.ofNat 32 (lowerMedian (s.blockMeans (k / 8))) ∧
    (s.medianSet k).lagging k = s.lagging k := by
  have hkey : regKey (pgPLU k) PAGE_STATUS ≠ regKey (pgJSC (k / 8)) Jsc.LAG_MEDIAN :=
    regKey_plu_ne_jsc (by omega) (by decide) (by decide)
  unfold State.medianSet
  rw [State.setNat_eq]
  refine ⟨?_, State.reg_setReg_self _ _ _ _, ?_⟩
  · rw [State.pluOf_congr (State.setReg_plu _ _ _ _), State.pluOf_blockDone]
  · rw [State.lagging, State.flag, State.reg_setReg_ne _ _ hkey]
    rfl

/-- LAGGING of a PLU is set, and its region notes the change. -/
def State.lagMarked (s : State) (k : Nat) (b : Bool) : State :=
  (s.setFlag (pgPLU k) PAGE_STATUS 16 b).setSts (pgJSC (k / 8)) Jsc.S_LAG_CHANGED 1

theorem State.lagMarked_leaves (s : State) (k : Fin 32) (b : Bool) : (s.lagMarked k b).lagging k = b ∧ (s.lagMarked k b).plu = s.plu ∧
    (s.lagMarked k b).reg (pgJSC (k / 8)) Jsc.LAG_MEDIAN = s.reg (pgJSC (k / 8)) Jsc.LAG_MEDIAN := by
  have hregion : k.val / 8 < 4 := by omega
  have hstatus : regKey (pgPLU k) PAGE_STATUS ≠ regKey (pgJSC (k / 8)) PAGE_STATUS :=
    regKey_plu_ne_jsc hregion (by decide) (by decide)
  have hflag : regKey (pgJSC (k / 8)) Jsc.LAG_MEDIAN ≠ regKey (pgPLU k) PAGE_STATUS :=
    (regKey_plu_ne_jsc hregion (by decide) (by decide)).symm
  have hmedian : regKey (pgJSC (k / 8)) Jsc.LAG_MEDIAN ≠ regKey (pgJSC (k / 8)) PAGE_STATUS := by
    rw [Ne, regKey_same_page]
    decide
  refine ⟨?_, (State.setReg_plu _ _ _ _).trans (State.setReg_plu _ _ _ _), ?_⟩
  · rw [State.lagging, State.flag, State.lagMarked, State.reg_setSts_ne _ _ _ hstatus, State.setFlag_eq, State.reg_setReg_self]
    cases b with
    | true => rw [if_pos rfl, bit_setBit _ _ _ (by decide), decide_eq_true rfl, Bool.true_or]
    | false => rw [if_neg Bool.false_ne_true, bit_clearBit _ _ _ (by decide), decide_eq_true rfl, Bool.not_true, Bool.false_and]
  · rw [State.lagMarked, State.reg_setSts_ne _ _ _ hmedian, State.setFlag_eq, State.reg_setReg_ne _ _ hflag]

/-- A change of LAGGING leaves the region's median and the PLUs. -/
theorem State.setLagging_leaves (s : State) (k : Fin 32) (b : Bool) : (s.setLagging k b).lagging k = b ∧ (s.setLagging k b).plu = s.plu ∧
    (s.setLagging k b).reg (pgJSC (k / 8)) Jsc.LAG_MEDIAN = s.reg (pgJSC (k / 8)) Jsc.LAG_MEDIAN := by
  obtain ⟨hlag, hplu, hmed⟩ := s.lagMarked_leaves k b
  have hset {t : State} (h : (s.lagMarked k b).SameButCount t) : t.lagging k = b ∧ t.plu = s.plu ∧
      t.reg (pgJSC (k / 8)) Jsc.LAG_MEDIAN = s.reg (pgJSC (k / 8)) Jsc.LAG_MEDIAN := by
    refine ⟨?_, h.plu.trans hplu, (h.reg (countKey_jsc (by omega) (by decide))).trans hmed⟩
    rw [State.lagging, State.flag, h.reg (countKey_plu (by decide))]
    exact hlag
  have hirq := ((s.lagMarked k b).irq_same (121 + 2 * (k / 8))).count
  unfold State.setLagging
  split
  · next hsame => exact ⟨beq_iff_eq.1 hsame, rfl, rfl⟩
  · dsimp only
    split
    · exact hset (hirq.trans (State.count_same _ _ _))
    · exact hset hirq

end Sys2Proof.Machine

open Sys2Proof Sys2Proof.Machine

/-- Settles O16: each event by what the operation of its row comes to under the premises. -/
theorem jobEventsAct : Obligations.JobEventsAct := by
  refine ⟨fun s n k => ?_, fun s n cls j e hregion hrun hflight hpick hport => ?_,
    fun s n e cycles j hrunning => ⟨fun he hclock a j1 h => ?_, fun he hclock => ?_, fun he htype hordered hhead => ?_⟩,
    fun s n dom j h => ?_, fun s n e p hrunning hlimit => ⟨fun hp => ?_, fun hp => ?_⟩,
    fun s n dom henabled hregion hwaits hfirst => ?_, fun s n c hsignal hc h => ?_, fun s n x rest h hroom => ?_,
    fun s k m hdue => ?_⟩
  · intro l r hturn
    refine ⟨fun htaken => ?_, fun hfull => ?_⟩
    · have hlist := State.listRun_readList hturn htaken
      exact ⟨s.readList n k, rfl, by rw [hlist], by rw [hlist]⟩
    · exact congrArg Host.Outcome.next (State.readList_waits hturn hfull)
  · exact ⟨_, congrArg Host.Outcome.next (State.dispatch_gives hregion hrun hflight hpick hport), s.give_leaves n e j⟩
  · exact congrArg Host.Outcome.next (State.finishJob_plu hrunning cycles he hclock h)
  · exact congrArg Host.Outcome.next (State.finishJob_unclocked hrunning cycles he hclock)
  · refine ⟨_, congrArg Host.Outcome.next ((State.finishJob_plain hrunning cycles he htype).trans
      (State.complete_waits hordered hhead)), rfl, rfl, ?_⟩
    rw [State.regionOf_modRegion]
    exact ⟨_, RegionState.mem_put _ _, rfl, rfl, rfl⟩
  · exact congrArg Host.Outcome.next (State.retireNext_some h)
  · exact congrArg Host.Outcome.next (State.timeoutJob_fences hrunning hlimit hp)
  · exact congrArg Host.Outcome.next (State.timeoutJob_handsBack hrunning hlimit hp)
  · obtain ⟨hdomain, hflag, hmem⟩ := State.stallOrder_leaves henabled hregion hwaits hfirst
    exact ⟨s.stallOrder n dom, rfl, by rw [hdomain], by rw [hdomain], hflag, hmem⟩
  · refine ⟨_, congrArg Host.Outcome.next (State.signalArrives_above hsignal hc h), State.ctrOf_putCtr _ _ _ _, ?_, rfl, rfl⟩
    rw [State.putCtr, State.regionOf_modRegion, State.regionOf_modRegion]
  · exact ⟨s.readBack n, rfl, State.readBack_spill h hroom,
      (State.readBack_keeps (s.keeps_parts 0x10) (Keep.off_of_and (by decide))).mem_eq⟩
  · intro l
    refine ⟨fun hfew => ?_, fun hmedian => ?_⟩
    · refine ⟨_, congrArg Host.Outcome.next (State.lagCompare_few hdue hfew), ?_, rfl⟩
      rw [State.pluOf_blockDone]
    · obtain ⟨hdone, hmed, hlag⟩ := s.medianSet_leaves k
      have hset (b : Bool) : let t := (s.medianSet k).setLagging k b
          (t.pluOf k).latDue = none ∧ t.reg (pgJSC (k / 8)) Jsc.LAG_MEDIAN = BitVec.ofNat 32 (lowerMedian l) ∧ t.lagging k = b := by
        obtain ⟨hset, hplu, hreg⟩ := (s.medianSet k).setLagging_leaves k b
        exact ⟨by rw [State.pluOf_congr hplu, hdone], hreg.trans hmed, hset⟩
      refine ⟨_, congrArg Host.Outcome.next (State.lagCompare_median hdue hmedian), ?_⟩
      split_ifs
      · exact hset true
      · exact hset false
      · exact ⟨hdone, hmed, hlag⟩

end

section
/-!
Writes of the job scheduling registers (R202 to R217, R229 to R239), with O15.
-/
set_option Elab.async false
namespace Sys2Proof.Machine

/-! ### A write as the meaning of its register -/

theorem State.told_mem (s : State) (r : Requester) (page off : Nat) (v : Word) : (s.told r page off v).mem = s.mem :=
  (State.mirrorWrite_keeps (State.count_keeps (s.keeps_parts 0x10) (Keep.off_of_and (by decide))) (Keep.off_of_and (by decide))).mem_eq

/-- An accepted write of a register that acts when written is the action. -/
theorem State.busWrite_own {s t : State} {r : Requester} {page off : Nat} {i : PageInfo} {v : Word} (h : s.accepts r page off = true)
    (hi : pageInfo page = some i) (hlow : 0x20 ≤ off) (hhigh : off < 0x800)
    (hown : (s.told r page off v).ownWrite r i (i.sub * 0x1000 + off) v = some t) : s.busWrite r page off v = t := by
  have hctrl : off ≠ PAGE_CTRL := by simp only [PAGE_CTRL]; omega
  have hcommit : off ≠ PAGE_COMMIT := by simp only [PAGE_COMMIT]; omega
  rw [State.busWrite_eq h hi, State.regWrite, if_neg (by omega), if_neg (by omega), if_neg hctrl, if_neg hcommit, if_neg (by omega), hown,
    Option.getD_some]

section
variable (s : State) (r : Requester) (n : Nat) (v : Word)

theorem State.ownWrite_subD {k : Nat} (hk : k < 7) :
    s.ownWrite r ⟨.jsc, n, 0⟩ (0 * 0x1000 + Jsc.SUB_D k) v = some (s.stageWord r n k v) := by
  have hoff : Jsc.SUB_D k = 0x60 + 4 * k := rfl
  have hplace : (Jsc.SUB_D k - 0x60) / 4 = k := by omega
  have hvalue : Jsc.SUB_D k ≠ Jsc.CTR_VALUE := by simp only [hoff, Jsc.CTR_VALUE]; omega
  have hsignal : Jsc.SUB_D k ≠ Jsc.CTR_SIGNAL := by simp only [hoff, Jsc.CTR_SIGNAL]; omega
  have hhead : Jsc.SUB_D k ≠ Jsc.DOM_HEAD_SET := by simp only [hoff, Jsc.DOM_HEAD_SET]; omega
  rw [Nat.zero_mul, Nat.zero_add]
  unfold State.ownWrite
  dsimp only
  rw [if_neg hvalue, if_neg hsignal, if_neg hhead, if_pos (by omega), hplace]

theorem State.ownWrite_submit : s.ownWrite r ⟨.jsc, n, 0⟩ (0 * 0x1000 + Jsc.SUB_D 7) v = some (s.submitStaged r n v) := by
  simp [State.ownWrite, Jsc.SUB_D, Jsc.CTR_VALUE, Jsc.CTR_SIGNAL, Jsc.DOM_HEAD_SET]

theorem State.ownWrite_ctrValue :
    s.ownWrite r ⟨.jsc, n, 0⟩ (0 * 0x1000 + Jsc.CTR_VALUE) v = some (s.ctrSet n (s.ctrSel n) (bits v (15, 0))) := by
  simp [State.ownWrite, Jsc.CTR_VALUE]

theorem State.ownWrite_ctrSignal :
    s.ownWrite r ⟨.jsc, n, 0⟩ (0 * 0x1000 + Jsc.CTR_SIGNAL) v = some (s.ctrSub n (s.ctrSel n) (bits v (15, 0))) := by
  simp [State.ownWrite, Jsc.CTR_VALUE, Jsc.CTR_SIGNAL]

theorem State.ownWrite_headSet : s.ownWrite r ⟨.jsc, n, 0⟩ (0 * 0x1000 + Jsc.DOM_HEAD_SET) v = some (s.headWrite n v) := by
  simp [State.ownWrite, Jsc.CTR_VALUE, Jsc.CTR_SIGNAL, Jsc.DOM_HEAD_SET]

theorem State.ownWrite_thrEnd :
    s.ownWrite r ⟨.jsc, n, 0⟩ (0 * 0x1000 + Jsc.THR_END) v = some (s.thrEndWrite r n (bits v (7, 0))) := by
  simp [State.ownWrite, Jsc.CTR_VALUE, Jsc.CTR_SIGNAL, Jsc.DOM_HEAD_SET, Jsc.THR_END]

theorem State.ownWrite_listGo {k : Nat} (hk : k < 8) :
    s.ownWrite r ⟨.jsc, n, 1⟩ (1 * 0x1000 + (Jsc.LIST_GO k - 0x1000)) 1 = some (s.listGo n k) := by
  have hoff : 1 * 0x1000 + (Jsc.LIST_GO k - 0x1000) = 0x1410 + 0x40 * k := by simp only [Jsc.LIST_GO]; omega
  have hplace : (0x1410 + 0x40 * k - 0x1400) / 0x40 = k := by omega
  rw [hoff]
  unfold State.ownWrite
  dsimp only
  rw [if_neg (by simp only [Jsc.CTR_VALUE]; omega), if_neg (by simp only [Jsc.CTR_SIGNAL]; omega),
    if_neg (by simp only [Jsc.DOM_HEAD_SET]; omega), if_neg (by omega), if_neg (by omega), if_neg (by simp only [Jsc.THR_END]; omega),
    if_pos (by omega), hplace]
  rfl

end

section
variable {s : State} {r : Requester} {n : Fin 4}

theorem exec_subDStage {k : Fin 7} (h : s.accepts r (pgJSC n) (Jsc.SUB_D k) = true) (v : Word) :
    exec (.subDStage r n k v) s = .next ((s.told r (pgJSC n) (Jsc.SUB_D k) v).stageWord r n k v) :=
  congrArg Host.Outcome.next (State.busWrite_own h (pageInfo_pgJSC n) (by simp only [Jsc.SUB_D]; omega)
    (by simp only [Jsc.SUB_D]; omega) (State.ownWrite_subD _ r n v k.isLt))

theorem exec_jobSubmit (h : s.accepts r (pgJSC n) (Jsc.SUB_D 7) = true) (v : Word) :
    exec (.jobSubmit r n v) s = .next ((s.told r (pgJSC n) (Jsc.SUB_D 7) v).submitStaged r n v) :=
  congrArg Host.Outcome.next (State.busWrite_own h (pageInfo_pgJSC n) (by decide) (by decide)
    (State.ownWrite_submit _ r n _))

theorem exec_ctrValueWrite (h : s.accepts r (pgJSC n) Jsc.CTR_VALUE = true) (v : Word) :
    let u := s.told r (pgJSC n) Jsc.CTR_VALUE v
    exec (.ctrValueWrite r n v) s = .next (u.ctrSet n (u.ctrSel n) (bits v (15, 0))) :=
  congrArg Host.Outcome.next (State.busWrite_own h (pageInfo_pgJSC n) (by decide) (by decide)
    (State.ownWrite_ctrValue _ r n _))

theorem exec_ctrSignal (h : s.accepts r (pgJSC n) Jsc.CTR_SIGNAL = true) (v : Word) :
    let u := s.told r (pgJSC n) Jsc.CTR_SIGNAL v
    exec (.ctrSignal r n v) s = .next (u.ctrSub n (u.ctrSel n) (bits v (15, 0))) :=
  congrArg Host.Outcome.next (State.busWrite_own h (pageInfo_pgJSC n) (by decide) (by decide)
    (State.ownWrite_ctrSignal _ r n _))

theorem exec_domHeadSet (h : s.accepts r (pgJSC n) Jsc.DOM_HEAD_SET = true) (v : Word) :
    exec (.domHeadSet r n v) s = .next ((s.told r (pgJSC n) Jsc.DOM_HEAD_SET v).headWrite n v) :=
  congrArg Host.Outcome.next (State.busWrite_own h (pageInfo_pgJSC n) (by decide) (by decide)
    (State.ownWrite_headSet _ r n _))

theorem exec_listGo {k : Fin 8} (h : s.accepts r (pgJSC n + 1) (Jsc.LIST_GO k - 0x1000) = true) :
    exec (.listGo r n k) s = .next ((s.told r (pgJSC n + 1) (Jsc.LIST_GO k - 0x1000) 1).listGo n k) :=
  congrArg Host.Outcome.next (State.busWrite_own h (pageInfo_pgJSC_1 n) (by simp only [Jsc.LIST_GO]; omega)
    (by simp only [Jsc.LIST_GO]; omega) (State.ownWrite_listGo _ r n k.isLt))

theorem exec_thrEnd (h : s.accepts r (pgJSC n) Jsc.THR_END = true) (x : Nat) :
    exec (.thrEnd r n x) s = .next ((s.told r (pgJSC n) Jsc.THR_END (BitVec.ofNat 32 x)).thrEndWrite r n
      (bits (BitVec.ofNat 32 x) (7, 0))) :=
  congrArg Host.Outcome.next (State.busWrite_own h (pageInfo_pgJSC n) (by decide) (by decide)
    (State.ownWrite_thrEnd _ r n _))

end

/-! ### Submission (R202, R203, R231) -/

section
variable (s : State)

/-- The word staged for a requester. -/
theorem State.staging_stageWord (r : Requester) (n k : Nat) (v : Word) :
    Tab.get (fun _ => 0) ((s.stageWord r n k v).regionOf n).staging (8 * reqCode r + k) = v := by
  rw [State.stageWord, State.regionOf_modRegion]
  exact Tab.get_set_self _ _ _ _

/-- An unordered job whose counter is 0 enters READY. -/
theorem State.enterReady_unordered {n : Nat} {j : Job} (h : j.ordered = false) : s.enterReady n j = s.modRegion n (fun r =>
    { r.put { s.markReady j with phase := .ready, readyAt := r.stamp } with stamp := r.stamp + 1 }) := by
  simp [State.enterReady, h]

/-- An unordered job waits on its counter or is READY. -/
theorem State.takeIn_unordered {n : Nat} {j : Job} (h : j.ordered = false) : ∃ x ∈ ((s.takeIn n j).regionOf n).jobs,
    x.d = j.d ∧ x.phase = if j.wait ≠ 0 ∧ s.ctrOf n j.wait ≠ 0 then .waiting else .ready := by
  unfold State.takeIn
  split
  · rw [State.regionOf_modRegion]
    exact ⟨_, RegionState.mem_put _ _, rfl, rfl⟩
  · rw [State.enterReady_unordered s h, State.regionOf_modRegion]
    exact ⟨_, RegionState.mem_put _ _, rfl, rfl⟩

theorem State.tagOf_region (n : Nat) (d : List Word) : (s.tagOf n d).2.region = s.region :=
  (State.tagOf_keeps (s.keeps_parts 0x80000) (Keep.off_of_and (by decide))).region_eq

end

section
variable {s : State} {n : Nat} {d : List Word} {src : JobSource} {epoch : Nat}

/-- A descriptor that neither its checks nor a full store stop is accepted. -/
theorem State.submit_room (hgood : s.descBad n d src = false) (hspill : (s.regionOf (targetRegion n d)).spill = [])
    (hroom : (s.regionOf (targetRegion n d)).storeLevel < 2048) :
    s.submit n d src epoch = (s.accept (targetRegion n d) d src epoch, true) := by
  simp [State.submit, State.hasRoom, hgood, hspill, hroom]

/-- An accepted unordered descriptor is a job of the store while that has room. -/
theorem State.accept_unordered (hspill : (s.regionOf n).spill = []) (hroom : (s.regionOf n).storeLevel < 2048)
    (hordered : bit (d.getD 0 0) 4 = false) : ∃ j ∈ ((s.accept n d src epoch).regionOf n).jobs,
      j.d = d ∧ j.phase = if j.wait ≠ 0 ∧ s.ctrOf n j.wait ≠ 0 then .waiting else .ready := by
  let a := ((s.tagOf n d).2.takeId n).2.count (1024 + 48 * n) 1
  have hregion : a.regionOf n = { s.regionOf n with stamp := (s.regionOf n).stamp + 1 } := by
    rw [State.regionOf_congr (State.count_region _ _ _), State.takeId, State.regionOf_modRegion,
      State.regionOf_congr (State.tagOf_region s n d)]
  let j := Job.fresh d src (s.tagOf n d).1 false ((s.tagOf n d).2.takeId n).1 epoch
  have hctr (c : Nat) : (a.modRegion n (·.put j)).ctrOf n c = s.ctrOf n c := by
    rw [State.ctrOf, State.regionOf_modRegion, RegionState.put_ctr, hregion, State.ctrOf]
  have haccept : s.accept n d src epoch = (a.modRegion n (·.put j)).takeIn n j := by
    refine if_pos ?_
    change (a.regionOf n).spill = [] ∧ (a.regionOf n).storeLevel < 2048
    rw [hregion]
    exact ⟨hspill, hroom⟩
  obtain ⟨x, hx, hd, hphase⟩ := (a.modRegion n (·.put j)).takeIn_unordered (n := n) (j := j) hordered
  have hwait : x.wait = j.wait := by rw [Job.wait, Job.word, hd, Job.wait, Job.word]
  rw [hctr, ← hwait] at hphase
  exact ⟨x, haccept ▸ hx, hd, hphase⟩

end

/-! ### Counters and domains (R204, R217) -/

theorem bits_low_lt (v : Word) : bits v (15, 0) < 65536 := Nat.mod_lt _ (by decide)

section
variable {s : State}

/-- A counter set to a value above 0 releases no job. -/
theorem State.ctrSet_pos {n c v : Nat} (hc : c ≠ 0) (hv : v ≠ 0) (hlt : v < 65536) : s.ctrSet n c v = s.putCtr n c v := by
  simp [State.ctrSet, hc, hv, Nat.mod_eq_of_lt hlt]

/-- HEAD of a domain whose region holds no job is set, and nothing else. -/
theorem State.setHead_empty {d v : Nat} (h : (s.regionOf (d / 1024)).jobs = []) : (s.setHead d v).domainOf d = ⟨v % 65536, false⟩ ∧
    (s.setHead d v).live = s.live ∧ (s.setHead d v).mem = s.mem := by
  have hpromote (a : State) (ha : (a.regionOf (d / 1024)).jobs = []) : a.promote d = a := by
    unfold State.promote
    rw [ha]
    rfl
  unfold State.setHead
  dsimp only
  rw [hpromote _ (by rw [State.regionOf_modRegion, State.setDomain, State.regionOf_modRegion, h, List.map_nil])]
  refine ⟨?_, rfl, rfl⟩
  rw [State.domainOf, State.regionOf_modRegion]
  exact s.domainOf_setDomain d _

/-! ### Lists (R209, R211) -/

theorem State.beginList_leaves (n k f : Nat) (auto : Bool) : let t := s.beginList n k f auto
    (t.listRun n k).next = 0 ∧ (t.listRun n k).auto = auto ∧ (t.listRun n k).frame = f % 2 ^ 32 ∧
      t.nat (pgJSC n) (Jsc.LIST_FRAME k) = f % 2 ^ 32 := by
  intro t
  have hrun : t.listRun n k = ⟨_, 0, f % 2 ^ 32, auto, _, _⟩ := State.listRun_setListRun _ _ _ _
  have hframe : t.reg (pgJSC n) (Jsc.LIST_FRAME k) = BitVec.ofNat 32 (f % 2 ^ 32) := State.reg_setReg_self s _ _ _
  refine ⟨by rw [hrun], by rw [hrun], by rw [hrun], ?_⟩
  rw [State.nat, hframe, BitVec.toNat_ofNat, Nat.mod_mod]

/-- A GO of a VALID list that is neither AUTO nor being read begins it with the next frame. -/
theorem State.listGo_begins {n k : Nat} (hvalid : bit (s.reg (pgJSC n) (Jsc.LIST_CTRL k)) 0 = true)
    (hauto : bit (s.reg (pgJSC n) (Jsc.LIST_CTRL k)) 1 = false) (hidle : (s.listRun n k).reading = false) :
    s.listGo n k = (s.reloadList n k).beginList n k (s.nat (pgJSC n) (Jsc.LIST_FRAME k) + 1) false := by
  simp [State.listGo, State.listGoBad, hvalid, hauto, hidle]

theorem State.listGo_invalid {n k : Nat} (h : bit (s.reg (pgJSC n) (Jsc.LIST_CTRL k)) 0 = false) :
    s.listGo n k = s.badValue (pgJSC n) := by
  simp [State.listGo, State.listGoBad, h]

/-! ### Threads (R233) -/

/-- THR_END by a control core for a thread of the region ends its wake. -/
theorem State.thrEndWrite_core {r : Requester} {n x : Nat} (hcore : isHost r = false) (hx : x < 256) (hn : x / 64 = n) :
    s.thrEndWrite r n (bits (BitVec.ofNat 32 x) (7, 0)) = s.threadEnd x := by
  have hbits : bits (BitVec.ofNat 32 x) (7, 0) % 256 = x := by
    simp only [bits, BitVec.toNat_ofNat]
    omega
  simp [State.thrEndWrite, hcore, hbits, hn]

/-- With no message waiting the thread is IDLE. -/
theorem State.threadEnd_idle {x : Nat} (hrun : (s.thread x).st = 2) (hnone : (s.thread x).waiting = []) :
    s.threadEnd x = s.setThread x { s.thread x with st := 0, core := 0 } := by
  simp [State.threadEnd, hrun, hnone]

/-- The next message that waits wakes the thread again. -/
theorem State.threadEnd_wakes {x : Nat} {m : Word} {rest : List Word} (hrun : (s.thread x).st = 2)
    (hnext : (s.thread x).waiting = m :: rest) : ((s.threadEnd x).thread x).st = 1 ∧ ((s.threadEnd x).thread x).waiting = rest ∧
      (s.threadEnd x).reg (pgJSC (x / 64)) (thrOff Jsc.MSG x) = m ∧ (s.threadEnd x).mem = s.mem := by
  have heq : s.threadEnd x
      = (s.setReg (pgJSC (x / 64)) (thrOff Jsc.MSG x) m).threadReady x { s.thread x with waiting := rest, core := 0 } := by
    simp [State.threadEnd, hrun, hnext]
  rw [heq]
  refine ⟨?_, ?_, State.reg_setReg_self s _ _ _, rfl⟩
  · rw [State.threadReady, State.thread_setThread]
  · rw [State.threadReady, State.thread_setThread]

end
end Sys2Proof.Machine

open Sys2Proof Sys2Proof.Machine

/-- Settles O15: each write is the action of its register on the state in which the partner has been told. -/
theorem jobRegistersAct : Obligations.JobRegistersAct := by
  refine ⟨fun s r n k v h => ?_, fun s r n d7 h => ?_, fun s r n v h => ?_, fun s r n v h => ?_, fun s r n v h => ?_,
    fun s r n k => ?_, fun s r n x h => ?_⟩
  · intro u
    refine ⟨_, exec_subDStage h v, State.staging_stageWord u r n k v, ?_, rfl, s.told_mem r _ _ v⟩
    rw [State.stageWord, State.regionOf_modRegion]
  · intro u d x
    have hexec := exec_jobSubmit h d7
    have hresult : (s.told r (pgJSC n) (Jsc.SUB_D 7) d7).submitStaged r n d7
        = if x.2 then x.1 else x.1.fault (pgJSC n) Jsc.F_SUBMIT_OVERRUN := rfl
    rw [hresult] at hexec
    refine ⟨fun htaken => ?_, fun hfull => ?_, fun hgood htarget hordered hspill hroom => ?_⟩
    · rw [hexec, if_pos htaken]
    · rw [hexec, if_neg (by rw [hfull]; exact Bool.false_ne_true)]
    · have hx : x = (u.accept n d (if isHost r then .host else .core) u.mergeEpoch, true) := by
        rw [← htarget] at hspill hroom
        have hsubmit := State.submit_room (epoch := u.mergeEpoch) hgood hspill hroom
        rwa [htarget] at hsubmit
      rw [hexec, hx, if_pos rfl]
      exact ⟨_, rfl, State.accept_unordered hspill hroom hordered⟩
  · intro u hsel hv
    refine ⟨_, (exec_ctrValueWrite h v).trans (congrArg Host.Outcome.next (State.ctrSet_pos hsel hv (bits_low_lt v))),
      State.ctrOf_putCtr _ _ _ _, ?_, rfl, s.told_mem r _ _ v⟩
    rw [State.putCtr, State.regionOf_modRegion]
  · intro u c hc
    refine ⟨fun habove => ?_, fun hbelow => ?_⟩
    · refine ⟨_, (exec_ctrSignal h v).trans (congrArg Host.Outcome.next (State.ctrSub_above hc habove)),
        State.ctrOf_putCtr _ _ _ _, ?_, rfl, s.told_mem r _ _ v⟩
      rw [State.putCtr, State.regionOf_modRegion]
    · exact (exec_ctrSignal h v).trans (congrArg Host.Outcome.next (State.ctrSub_below hc hbelow))
  · intro u d
    have hregion : d / 1024 = n.val := by
      have hlt : u.fld (pgJSC n) Jsc.DOM_SEL (9, 0) < 1024 := Nat.mod_lt _ (by decide)
      omega
    refine ⟨fun hempty => ?_, fun hbusy => ?_⟩
    · have hidle : u.headBusy n = false := by rw [State.headBusy, hempty]; rfl
      have hwrite : u.headWrite n v = u.setHead d (bits v (15, 0)) := if_neg (by rw [hidle]; exact Bool.false_ne_true)
      obtain ⟨hhead, hlive, hmem⟩ := State.setHead_empty (v := bits v (15, 0)) (hregion.symm ▸ hempty)
      rw [Nat.mod_eq_of_lt (bits_low_lt v)] at hhead
      exact ⟨_, (exec_domHeadSet h v).trans (congrArg Host.Outcome.next hwrite), hhead, hlive, hmem.trans (s.told_mem r _ _ v)⟩
    · exact (exec_domHeadSet h v).trans (congrArg Host.Outcome.next (if_pos hbusy))
  · intro off u c h
    refine ⟨fun hvalid hauto hidle => ?_, fun hinvalid => ?_⟩
    · exact ⟨_, (exec_listGo h).trans (congrArg Host.Outcome.next (State.listGo_begins hvalid hauto hidle)),
        State.beginList_leaves n k _ false⟩
    · exact (exec_listGo h).trans (congrArg Host.Outcome.next (State.listGo_invalid hinvalid))
  · intro u hcore hx hn hrun
    have hexec := (exec_thrEnd h x).trans (congrArg Host.Outcome.next (State.thrEndWrite_core hcore hx hn))
    have hmem : u.mem = s.mem := s.told_mem r _ _ _
    refine ⟨fun hnone => ?_, fun m rest hnext => ?_⟩
    · exact ⟨_, hexec.trans (congrArg Host.Outcome.next (State.threadEnd_idle hrun hnone)), State.thread_setThread _ _ _, rfl, hmem⟩
    · obtain ⟨hst, hwaiting, hmsg, hkept⟩ := State.threadEnd_wakes hrun hnext
      rw [hn] at hmsg
      exact ⟨_, hexec, hst, hwaiting, hmsg, hkept.trans hmem⟩

end

section
/-!
What an operation leaves of a Swath: its own record, its SWATH_STATE, and the registers of its pages.
-/
set_option Elab.async false
namespace Sys2Proof.Machine

theorem State.Keeps.swt_eq {l : List Instr} {s t : State} {m : Nat} {c : Bool} (h : State.Keeps ⟨l, s, m, c⟩ t)
    (hm : m.testBit 14 = true := by decide) : t.swt = s.swt := h.swtIs hm

/-! ### The relation -/

/-- A register of a Swath's pages that is neither a PAGE_STATUS nor a PAGE_FAULT. -/
def swathReg (off : Nat) : Bool := decide (off < 0x4000) && off % 0x1000 != PAGE_STATUS && off % 0x1000 != PAGE_FAULT

/-- The record of Swath `k`, its SWATH_STATE and the registers of its pages are as before. -/
structure State.Spares (k : Fin 16) (s t : State) : Prop where
  record : t.swath k = s.swath k
  state : t.swathState k = s.swathState k
  regs : ∀ off, swathReg off = true → t.reg (pgSWT k) off = s.reg (pgSWT k) off

/-- The keys of the registers that are no Swath's. -/
abbrev notSwath (page off : Nat) : Prop := regKey page off / 0x40000 ≠ 1

/-- The pages behind those of the Swaths are no Swath's. -/
theorem notSwath_of_le {page off : Nat} (h : pgCMP 0 ≤ page) : notSwath page off := by
  simp only [notSwath, regKey, pgCMP] at *
  omega

theorem swathReg_lt {off : Nat} (h : swathReg off = true) : off < 0x4000 := by
  simp only [swathReg, Bool.and_eq_true, decide_eq_true_eq] at h
  exact h.1.1

theorem regKey_pgSWT {k : Fin 16} {off : Nat} (h : off < 0x4000) : regKey (pgSWT k) off / 0x4000 = 16 + k := by
  simp only [regKey, pgSWT]
  omega

theorem countKey_swath {k : Fin 16} {off : Nat} (h : off < 0x4000) : countKey (regKey (pgSWT k) off) = false := by
  have hpage : 0x40 ≤ regKey (pgSWT k) off / 0x1000 ∧ regKey (pgSWT k) off / 0x1000 < 0x80 := by
    simp only [regKey, pgSWT]
    omega
  simp only [countKey, irqKey, Bool.or_eq_false_iff, Bool.and_eq_false_iff, decide_eq_false_iff_not, beq_eq_false_iff_ne]
  omega

/-- Another register of the page. -/
theorem State.reg_setReg_off (s : State) {page o off : Nat} (h : o ≠ off) (v : Word) :
    (s.setReg page off v).reg page o = s.reg page o :=
  s.reg_setReg_ne v fun he => h ((regKey_same_page page o off).1 he)

section
variable {k : Fin 16} {s t u : State}

theorem State.Spares.refl (s : State) : s.Spares k s := ⟨rfl, rfl, fun _ _ => rfl⟩

theorem State.Spares.trans (h : s.Spares k t) (g : t.Spares k u) : s.Spares k u :=
  ⟨g.record.trans h.record, g.state.trans h.state, fun off ho => (g.regs off ho).trans (h.regs off ho)⟩

/-- A field of a register that is left. -/
theorem State.Spares.fld (h : s.Spares k t) {off : Nat} (f : Field) (ho : swathReg off = true := by decide) :
    t.fld (pgSWT k) off f = s.fld (pgSWT k) off f := by
  rw [State.fld, h.regs off ho, State.fld]

theorem State.Spares.readySrc (h : s.Spares k t) : t.readySrc k = s.readySrc k := h.fld _

/-- An update of parts other than the registers and the Swaths. -/
theorem State.Spares.upd (h : s.Spares k t) (hlive : u.live = t.live) (hswt : u.swt = t.swt) : s.Spares k u := by
  have hreg (page off : Nat) : u.reg page off = t.reg page off := by simp only [State.reg, hlive]
  refine h.trans ⟨by simp only [State.swath, hswt], ?_, fun off _ => hreg _ off⟩
  simp only [State.swathState, State.sts, State.fld, hreg]

/-- A write of a register that is not this Swath's. -/
theorem State.Spares.setReg_of (h : s.Spares k t) {page off : Nat} {v : Word} (hk : regKey page off / 0x4000 ≠ 16 + k) :
    s.Spares k (t.setReg page off v) := by
  have hreg (o : Nat) (ho : o < 0x4000) : (t.setReg page off v).reg (pgSWT k) o = t.reg (pgSWT k) o := by
    refine State.reg_setReg_ne _ _ fun he => hk ?_
    rw [← he, regKey_pgSWT ho]
  refine h.trans ⟨rfl, ?_, fun o ho => hreg o (swathReg_lt ho)⟩
  rw [State.swathState, State.sts, State.fld, hreg _ (by decide), State.swathState, State.sts, State.fld]

theorem State.Spares.setReg (h : s.Spares k t) {page off : Nat} {v : Word} (hk : notSwath page off) :
    s.Spares k (t.setReg page off v) :=
  h.setReg_of (by simp only [notSwath] at hk; omega)

/-- A register of another Swath. -/
theorem State.Spares.setReg_other (h : s.Spares k t) {j : Fin 16} (hj : j ≠ k) {off : Nat} {v : Word} (ho : off < 0x4000) :
    s.Spares k (t.setReg (pgSWT j) off v) := by
  refine h.setReg_of ?_
  rw [regKey_pgSWT ho]
  exact fun he => hj (Fin.ext (by omega))

/-- A field of the Swath's PAGE_STATUS that lies apart from SWATH_STATE. -/
theorem State.Spares.setSts_own (h : s.Spares k t) {f : Field} {n : Nat} (hf : Field.fits f)
    (hapart : f.1 < Swt.S_SWATH_STATE.2 ∨ (Swt.S_SWATH_STATE.1 < f.2 ∧ Swt.S_SWATH_STATE.2 ≤ Swt.S_SWATH_STATE.1)) :
    s.Spares k (t.setSts (pgSWT k) f n) := by
  refine h.trans ⟨rfl, t.sts_setSts_apart hf hapart _ _, fun off ho => t.reg_setReg_off ?_ _⟩
  rintro rfl
  exact absurd ho (by decide)

/-- A PAGE_FAULT of the Swath, or a PAGE_STATUS behind its first page. -/
theorem State.Spares.setReg_own (h : s.Spares k t) {off : Nat} {v : Word} (hoff : swathReg off = false) (hsts : off ≠ PAGE_STATUS) :
    s.Spares k (t.setReg (pgSWT k) off v) := by
  refine h.trans ⟨rfl, ?_, fun o ho => t.reg_setReg_off ?_ v⟩
  · rw [State.swathState, State.sts, State.fld, State.reg_setReg_off _ hsts.symm, State.swathState, State.sts, State.fld]
  · rintro rfl
    exact Bool.false_ne_true (hoff.symm.trans ho)

theorem State.Spares.same (h : s.Spares k t) (g : t.SameButCount u) : s.Spares k u := by
  refine h.trans ⟨by simp only [State.swath, g.swt], ?_, fun off ho => g.reg (countKey_swath (swathReg_lt ho))⟩
  rw [State.swathState, State.sts, State.fld, g.reg (countKey_swath (by decide)), State.swathState, State.sts, State.fld]

theorem State.Spares.irq (h : s.Spares k t) {n : Nat} : s.Spares k (t.irq n) := h.same (t.irq_same n).count

theorem State.Spares.count (h : s.Spares k t) {n m : Nat} : s.Spares k (t.count n m) := h.same (t.count_same n m)

theorem State.Spares.setLevel (h : s.Spares k t) {n : Nat} {b : Bool} : s.Spares k (t.setLevel n b) :=
  h.same (t.setLevel_same n b).count

theorem State.Spares.ite {p : Prop} [Decidable p] (h : s.Spares k t) (g : s.Spares k u) : s.Spares k (if p then t else u) := by
  split
  · exact h
  · exact g

/-- One operation for each element of a list. -/
theorem State.Spares.foldl {α : Type} {f : State → α → State} {l : List α} (h : s.Spares k t)
    (hf : ∀ x ∈ l, ∀ a : State, s.Spares k a → a.Spares k (f a x)) : s.Spares k (l.foldl f t) := by
  induction l generalizing t with
  | nil => exact h
  | cons x l ih =>
    exact ih (h.trans (hf x List.mem_cons_self t h)) fun y hy => hf y (List.mem_cons_of_mem x hy)

theorem State.Spares.faultHere {page n : Nat} (h : s.Spares k (t.setFlag page PAGE_FAULT n true)) :
    s.Spares k (t.faultHere page n) := h.same (t.faultHere_same page n).count

/-- A fault of a page that is no Swath's, with what it reports on other pages. -/
theorem State.Spares.fault (h : s.Spares k t) {page n : Nat} (hk : notSwath page PAGE_FAULT) : s.Spares k (t.fault page n) := by
  have hhere : s.Spares k (t.faultHere page n) := .faultHere (h.setReg hk)
  unfold State.fault
  dsimp only
  split
  · exact State.Spares.faultHere (hhere.setReg (notSwath_of_le (by simp only [pgCMP, pgJSC]; omega)))
  · exact State.Spares.faultHere (hhere.setReg (notSwath_of_le (by simp only [pgCMP, pgJSC]; omega)))
  · exact State.Spares.faultHere (hhere.setReg (by decide))
  · exact hhere

/-- A fault of a Swath, this one or another. -/
theorem State.Spares.fault_swath (h : s.Spares k t) (j : Fin 16) {n : Nat} : s.Spares k (t.fault (pgSWT j) n) := by
  rw [t.fault_eq_faultHere (pageInfo_pgSWT j) rfl]
  refine State.Spares.faultHere ?_
  rcases eq_or_ne j k with rfl | hne
  · exact h.setReg_own (by decide) (by decide)
  · exact h.setReg_other hne (by decide)

end

/-! ### Queues and the event recorder -/

section
variable {k : Fin 16} (s : State)

theorem notSwath_que {j off : Nat} : notSwath (pgQUE j) off := notSwath_of_le (by simp only [pgCMP, pgQUE]; omega)

theorem State.queueLevels_spares (j : Nat) : s.Spares k (s.queueLevels j) :=
  ((State.Spares.refl s).foldl fun _ _ a _ => (State.Spares.refl a).setReg notSwath_que).setLevel

theorem State.queueError_spares (j q b : Nat) : s.Spares k (s.queueError j q b) := ((State.Spares.refl s).setReg notSwath_que).irq

theorem State.queueDrop_spares (j q : Nat) : s.Spares k (s.queueDrop j q) := (State.Spares.refl s).setReg notSwath_que

theorem State.setQueue_spares (j q : Nat) (x : Queue) : s.Spares k (s.setQueue j q x) := (State.Spares.refl s).upd rfl rfl

theorem State.queuePtrReset_spares (j q : Nat) (busy : Bool) : s.Spares k (s.queuePtrReset j q busy) :=
  (((s.setQueue_spares j q _).setReg notSwath_que).trans (State.queueError_spares _ j q 9)).trans (State.queueLevels_spares _ j)

theorem State.queuePut_spares (j q depth : Nat) (d : List Byte) (last : Bool) : s.Spares k (s.queuePut j q depth d last) := by
  have hdrop (x : Queue) : s.Spares k ((s.queueDrop j q).setQueue j q x) :=
    (s.queueDrop_spares j q).trans (State.setQueue_spares _ j q x)
  have herror : s.Spares k (s.queueError j q 8) := s.queueError_spares j q 8
  unfold State.queuePut
  dsimp only
  split
  · exact hdrop _
  · split
    · exact (s.setQueue_spares j q _).ite (State.Spares.refl s)
    · split
      · exact (hdrop _).ite (State.Spares.refl s)
      · split
        · exact ((herror.trans (State.queueDrop_spares _ j q)).trans (State.setQueue_spares _ j q _)).ite
            (herror.trans (State.setQueue_spares _ j q _))
        · exact ((s.setQueue_spares j q _).setReg notSwath_que).ite (s.setQueue_spares j q _)

theorem State.evrLost_spares : s.Spares k s.evrLost := by
  have hlost : s.Spares k ((s.inc pgEVR Evr.LOST_TOTAL).fault pgEVR Evr.F_LOST) :=
    ((State.Spares.refl s).setReg (by decide)).fault (by decide)
  refine State.Spares.count (hlost.upd ?_ ?_) <;> rfl

theorem State.evrPushSound_spares (code page kind group : Nat) : s.Spares k (s.evrPushSound code page kind group) := by
  have hput := (s.queuePut_spares (k := k) 3 3 64 (pendingEntry code page kind group (stamp32 s.tln.now)) true).trans
    (State.queueLevels_spares _ 3)
  exact (hput.trans (State.evrLost_spares _)).ite (hput.setReg (by decide))

theorem State.evrPush_spares (code page kind group : Nat) : s.Spares k (s.evrPush code page kind group) :=
  (s.evrPushSound_spares code page kind group).ite
    (((s.queuePtrReset_spares 3 3 false).trans (State.evrLost_spares _)).trans (State.evrPushSound_spares _ _ _ _ _))

theorem State.trigger_spares (code page : Nat) : s.Spares k (s.trigger code page) := by
  have hdrop : s.Spares k ((s.inc pgEVR Evr.DROPPED_TOTAL).fault pgEVR Evr.F_DROPPED) :=
    ((State.Spares.refl s).setReg (by decide)).fault (by decide)
  have hspent (x : Tab Nat) : s.Spares k { s with evr := { s.evr with spent := x } } := (State.Spares.refl s).upd rfl rfl
  unfold State.trigger
  split
  · exact State.Spares.refl s
  · dsimp only
    split
    · exact State.Spares.refl s
    · split
      · exact hdrop.upd rfl rfl
      · split
        · exact State.Spares.upd ((hspent _).setReg (by decide)) rfl rfl
        · exact (hspent _).trans (State.evrPush_spares _ _ _ _ _)

theorem State.queuePop_spares (j q : Nat) : s.Spares k (s.queuePop j q) := by
  unfold State.queuePop
  split
  · exact State.Spares.refl s
  · exact ((s.queuePtrReset_spares j q _).trans (State.trigger_spares _ _ _)).ite
      ((State.Spares.refl s).ite ((s.setQueue_spares j q _).trans (State.queueLevels_spares _ j)))

theorem State.popTimes_spares (j q n : Nat) : s.Spares k (s.popTimes j q n) := by
  induction n generalizing s with
  | zero => exact State.Spares.refl s
  | succ n ih => exact (s.queuePop_spares j q).trans (ih _)

end

/-! ### The Tsudex link -/

section
variable {k : Fin 16} (s : State)

theorem State.setRed_spares (r : RedState) : s.Spares k (s.setRed r) := (State.Spares.refl s).upd rfl rfl

theorem State.tsxBacklog_spares : s.Spares k s.tsxBacklog := (State.Spares.refl s).setReg (by decide)

theorem State.tsxQueue_spares (type plane : Nat) (payload : List Byte) : s.Spares k (s.tsxQueue type plane payload) := by
  have hput (a : State) (lane : Nat) (f : TsxFrame) : a.Spares k (a.tsxPut lane f) := by
    refine State.Spares.count (State.Spares.setReg ((State.Spares.refl a).upd ?_ ?_) (by decide)) <;> rfl
  exact ((s.setRed_spares _).trans (hput _ _ _)).trans (State.tsxBacklog_spares _)

theorem State.tsxBreak_spares : s.Spares k s.tsxBreak := by
  have hreport (a : State) : a.Spares k (((a.inc pgRED Red.BREAKS).fault pgRED Red.F_BREAK).trigger 0xE07 pgRED) :=
    (((State.Spares.refl a).setReg (by decide)).fault (by decide)).trans (State.trigger_spares _ _ _)
  have hdrop (x : List TsxFrame) := s.setRed_spares (k := k) { s.red with unacked := x, copying := false }
  exact State.Spares.trans (((hdrop _).trans (State.tsxQueue_spares _ _ _ _)).ite ((hdrop _).trans (State.tsxBacklog_spares _)))
    (hreport _)

theorem State.tsxSend_spares (type plane : Nat) (payload : List Byte) : s.Spares k (s.tsxSend type plane payload) := by
  have hsent := s.tsxQueue_spares (k := k) type plane payload
  exact (State.Spares.refl s).ite ((hsent.trans (State.tsxBreak_spares _)).ite hsent)

theorem State.tell_spares (type : Nat) (payload : List Byte) : s.Spares k (s.tell type payload) :=
  (s.tsxSend_spares type 0 payload).ite (State.Spares.refl s)

/-! ### Hardware writes to memory -/

theorem State.tellMem_spares (a : Nat) (l : List Byte) (n : Nat) : s.Spares k (s.tellMem a l n) := by
  fun_induction State.tellMem s a l n with
  | case1 => exact State.Spares.refl _
  | case2 => exact State.Spares.refl _
  | case3 s a l n _ ih => exact (s.tell_spares _ _).trans ih

/-- The bytes of memory alone differ. -/
theorem State.setBytes_spares (a : Nat) (l : List Byte) : s.Spares k (s.setBytes a l) :=
  have hkept := State.setBytes_keeps (a := a) (a2 := l) (s.keeps_parts 0x4002) (Keep.off_of_and (by decide))
  (State.Spares.refl s).upd hkept.live_eq hkept.swt_eq

theorem State.hwBytes_spares (a : Nat) (l : List Byte) : s.Spares k (s.hwBytes a l) := by
  have hset := s.setBytes_spares (k := k) a l
  exact (State.Spares.refl s).ite ((hset.trans (State.tellMem_spares _ _ _ _)).ite hset)

theorem State.hwZero_spares (a n : Nat) : s.Spares k (s.hwZero a n) := by
  have hzero : s.Spares k (s.zeroBytes a n) := (State.Spares.refl s).upd rfl rfl
  exact (State.Spares.refl s).ite ((hzero.foldl fun _ _ b _ => b.tellMem_spares _ _ _).ite hzero)

end

end Sys2Proof.Machine
end

section
/-!
Releases, readiness and the fixing of starts (R250 to R261), with O24.
-/
set_option Elab.async false
namespace Sys2Proof.Machine

/-! ### Snapshots and the receive merge (R124, R374) -/

section
variable {k : Fin 16} (s : State)

theorem notSwath_cmp {m off : Nat} : notSwath (cmpOfMap m) off := notSwath_of_le (by simp only [cmpOfMap, pgCMP]; omega)

theorem State.zeroSums_spares (base slot n : Nat) : s.Spares k (s.zeroSums base slot n) := by
  induction n with
  | zero => exact State.Spares.refl s
  | succ n ih => exact ih.trans (State.hwBytes_spares _ _ _)

theorem State.snapshot_spares (j f : Nat) : s.Spares k (s.snapshot j f) := by
  unfold State.snapshot
  split
  · exact State.Spares.refl s
  · next m _ =>
    have hsnaps (l : List Snap) : s.Spares k (s.setSnaps m l) := (State.Spares.refl s).upd rfl rfl
    have hnumber (l : List Snap) : s.Spares k ((s.setSnaps m l).setNat (cmpOfMap m) (Cmp.FRAME_NUM (m % 4)) (f % 2 ^ 32)) :=
      (hsnaps l).setReg notSwath_cmp
    exact (((hnumber _).fault notSwath_cmp).ite (hnumber _)).trans (State.zeroSums_spares _ _ _ _)

theorem State.mergeTake_spares (j : Nat) (cid : Option Nat) (port prio t : Nat) (slots : List Byte) :
    s.Spares k (s.mergeTake j cid port prio t slots) := by
  have hmerge (x : MergeState) : s.Spares k { s with merge := x } := (State.Spares.refl s).upd rfl rfl
  have hsources (l : List MergeSource) :
      s.Spares k (({ s with merge := { s.merge with order := s.merge.order + 1 } } : State).setMergeSources j l) :=
    (hmerge _).upd rfl rfl
  unfold State.mergeTake
  dsimp only
  split
  · exact (hsources _).trans (State.hwBytes_spares _ _ _)
  · split
    · exact ((hmerge _).setReg (by decide)).fault (by decide)
    · exact ((hsources _).trans (State.hwZero_spares _ _ _)).trans (State.hwBytes_spares _ _ _)

theorem State.tellInput_spares (cls port epoch : Nat) (stamp d : List Byte) : s.Spares k (s.tellInput cls port epoch stamp d) :=
  (State.Spares.refl s).foldl fun _ _ a _ => a.tell_spares _ _

theorem State.mergeEntryApply_spares (e : List Byte) (epoch : Nat) : s.Spares k (s.mergeEntryApply e epoch) := by
  have hdrop (j port : Nat) (cid : Option Nat) : s.Spares k (s.dropSource j cid port) := (State.Spares.refl s).upd rfl rfl
  unfold State.mergeEntryApply
  dsimp only
  split
  · exact (s.mergeTake_spares _ _ _ _ _ _).trans (State.tellInput_spares _ _ _ _ _ _)
  · split
    · exact State.Spares.refl s
    · exact ((hdrop _ _ _).ite (s.mergeTake_spares _ _ _ _ _ _)).trans (State.tellInput_spares _ _ _ _ _ _)

theorem State.mergeDrain_spares (epoch n : Nat) : s.Spares k (s.mergeDrain epoch n) := by
  induction n generalizing s with
  | zero => exact State.Spares.refl s
  | succ n ih =>
    unfold State.mergeDrain
    split
    · exact State.Spares.refl s
    · exact (State.Spares.refl s).ite (((s.popTimes_spares _ _ _).trans (State.mergeEntryApply_spares _ _ _)).trans (ih _))

theorem State.mergeBuild_spares (e : Nat) : s.Spares k (s.mergeBuild e) := by
  have hdrain := s.mergeDrain_spares (k := k) (e % 2 ^ 32) (s.queue 3 0).committed
  have hresults (a : State) : a.Spares k (a.merge.sources.foldl (fun b x => b.hwBytes (b.resultAt e x.1) (a.mergeResult x.1))
      (a.hwZero (a.resultAt e 0) (1024 * 4096))) := (a.hwZero_spares _ _).foldl fun _ _ b _ => b.hwBytes_spares _ _
  refine (State.Spares.refl s).ite (((State.Spares.refl s).setReg (by decide)).ite ?_)
  have hbuilt (a : State) (ha : s.Spares k a) (l : Tab (List Nat)) : s.Spares k { a with merge := { a.merge with live := l } } :=
    ha.upd rfl rfl
  exact (((hbuilt _ (hdrain.trans (hresults _)) _).setReg (by decide)).setReg (by decide)).setReg (by decide)

theorem State.mergeAtRelease_spares (j : Nat) : s.Spares k (s.mergeAtRelease j) := (s.mergeBuild_spares _).ite (State.Spares.refl s)

end

/-! ### Lists that launch (R204, R209) -/

section
variable {k : Fin 16} (s : State)

theorem notSwath_jsc {n off : Nat} : notSwath (pgJSC n) off := notSwath_of_le (by simp only [pgCMP, pgJSC]; omega)

theorem State.modRegion_spares (n : Nat) (f : RegionState → RegionState) : s.Spares k (s.modRegion n f) :=
  (State.Spares.refl s).upd rfl rfl

theorem State.endHold_spares (j : Nat) : s.Spares k (s.endHold j) :=
  (State.Spares.refl s).foldl fun _ _ a _ => a.modRegion_spares _ _

theorem State.jobFault_spares (n kind : Nat) (j : Job) (executor : Nat) : s.Spares k (s.jobFault n kind j executor) := by
  have hcount : s.Spares k (s.inc (pgJSC n) Jsc.JOB_FAULT_COUNT) := (State.Spares.refl s).setReg notSwath_jsc
  exact State.Spares.fault (hcount.ite ((hcount.setReg notSwath_jsc).setReg notSwath_jsc)) notSwath_jsc

theorem State.swath_setSwath_ne {i j : Nat} (h : i ≠ j) (v : SwtState) : (s.setSwath j v).swath i = s.swath i :=
  Tab.get_set_ne _ _ _ h

theorem State.swath_setSwath (j : Nat) (v : SwtState) : (s.setSwath j v).swath j = v := Tab.get_set_self _ _ _ _

/-- The record of another Swath. -/
theorem State.setSwath_spares {j : Nat} (h : k.val ≠ j) (v : SwtState) : s.Spares k (s.setSwath j v) :=
  ⟨s.swath_setSwath_ne h v, rfl, fun _ _ => rfl⟩

theorem State.frameReady_spares {j : Nat} (h : k.val ≠ j) (f : Nat) : s.Spares k (s.frameReady j f) := by
  have hready (v : SwtState) (r : RedState) : s.Spares k { s.setSwath j v with red := r } := (s.setSwath_spares h v).upd rfl rfl
  exact ((hready _ _).trans (State.tell_spares _ _ _)).ite (State.Spares.refl s)

variable {s}

section
variable (h : s.readySrc k ≠ 0)
include h

/-- Jobs make no frame of a Swath ready unless its READY_SRC is LISTS (R252). -/
theorem State.readyCheck_spares (j f : Nat) : s.Spares k (s.readyCheck j f) := by
  unfold State.readyCheck
  split
  · next hc => exact s.frameReady_spares (fun he => h (he ▸ hc.1)) f
  · exact State.Spares.refl s

theorem State.sourceDone_spares (src : JobSource) : s.Spares k (s.sourceDone src) := by
  unfold State.sourceDone
  split
  · exact State.readyCheck_spares h _ _
  · exact State.Spares.refl s

theorem State.dropJob_spares (n : Nat) (j : Job) : s.Spares k (s.dropJob n j) := by
  have hfault := ((s.modRegion_spares (k := k) n (·.del j.id)).trans (State.jobFault_spares _ n 3 j 127)).fault
    (n := Jsc.F_BAD_DESC) (notSwath_jsc (n := n))
  have hcount := hfault.count (n := 1024 + 48 * n + 5) (m := 1)
  exact hcount.trans (State.sourceDone_spares (hcount.readySrc ▸ h) _)

theorem State.enterReady_spares (n : Nat) (j : Job) : s.Spares k (s.enterReady n j) :=
  (State.dropJob_spares h n j).ite ((s.modRegion_spares _ _).ite (s.modRegion_spares _ _))

theorem State.enterAll_spares (n : Nat) (l : List Job) : s.Spares k (s.enterAll n l) := by
  induction l generalizing s with
  | nil => exact State.Spares.refl s
  | cons j l ih =>
    have hfirst := State.enterReady_spares h n j
    exact hfirst.trans (ih (hfirst.readySrc ▸ h))

theorem State.ctrSet_spares (n c v : Nat) : s.Spares k (s.ctrSet n c v) := by
  have hput : s.Spares k (s.putCtr n c (v % 65536)) := s.modRegion_spares _ _
  exact (State.Spares.refl s).ite ((hput.trans (State.enterAll_spares (hput.readySrc ▸ h) _ _)).ite hput)

theorem State.reload_spares (n off : Nat) : s.Spares k (s.reload n off) := by
  unfold State.reload
  split
  · exact State.ctrSet_spares h _ _ _
  · exact State.Spares.refl s

theorem State.reloadList_spares (n i : Nat) : s.Spares k (s.reloadList n i) := by
  have hfirst := State.reload_spares h n (Jsc.RELOAD0 i)
  exact hfirst.trans (State.reload_spares (hfirst.readySrc ▸ h) n _)

theorem State.launchLists_spares (j f : Nat) : s.Spares k (s.launchLists j f) := by
  have hrun (a : State) (n i : Nat) (v : ListRun) : a.Spares k (a.setListRun n i v) := a.modRegion_spares _ _
  have hbegin (a : State) (n i : Nat) : a.Spares k (a.beginList n i f true) :=
    (((State.Spares.refl a).setReg notSwath_jsc).trans (State.modRegion_spares _ _ _)).trans (hrun _ _ _ _)
  have hreloaded : s.Spares k ((s.autoLists j).foldl (fun a x => a.reloadList x.1 x.2) s) :=
    (State.Spares.refl s).foldl fun _ _ _ ha => State.reloadList_spares (ha.readySrc ▸ h) _ _
  have hbegun := hreloaded.foldl (l := s.autoLists j) fun x _ a _ => hbegin a x.1 x.2
  exact hbegun.trans (State.readyCheck_spares (hbegun.readySrc ▸ h) _ _)

end

/-! ### Releases (R251, R252) -/

variable (s) in
/-- The frame of a release stands behind those released before it, and RELEASED_FRAME names it. -/
def State.addFrame (k f : Nat) : State :=
  (s.setNat (pgSWT k) Swt.RELEASED_FRAME f).setSwath k
    { s.swath k with everReleased := true, frames := (s.swath k).frames ++ [⟨f, false⟩] }

theorem State.addFrame_record (f : Nat) : (s.addFrame k f).swath k
    = { s.swath k with everReleased := true, frames := (s.swath k).frames ++ [⟨f, false⟩] } := State.swath_setSwath _ _ _

theorem State.addFrame_readySrc (f : Nat) : (s.addFrame k f).readySrc k = s.readySrc k :=
  congrArg (bits · Swt.READY_SRC) (s.reg_setReg_off (by decide) _)

theorem State.addFrame_released (f : Nat) : (s.addFrame k f).nat (pgSWT k) Swt.RELEASED_FRAME = f % 2 ^ 32 := by
  have hreg : (s.addFrame k f).reg (pgSWT k) Swt.RELEASED_FRAME = BitVec.ofNat 32 f := State.reg_setReg_self s _ _ _
  rw [State.nat, hreg, BitVec.toNat_ofNat]

/-- The snapshot and the launch of the lists leave the frame of a release waiting under READY_SRC HOST. -/
theorem State.makeRelease_host (h : s.readySrc k = 1) (f : Nat) : (s.addFrame k f).Spares k (s.makeRelease k f) := by
  have hsrc : (s.addFrame k f).readySrc k = 1 := (State.addFrame_readySrc f).trans h
  have hsnap := ((s.addFrame k f).tell_spares (k := k) 0x14 (beBytes 1 k ++ beBytes 3 0 ++ beBytes 4 f
    ++ beBytes 4 ((s.addFrame k f).nat pgFIX Fix.MERGE_EPOCH))).trans (State.snapshot_spares _ k f)
  have hmade := hsnap.trans (State.launchLists_spares (by rw [hsnap.readySrc, hsrc]; decide) k f)
  have heq : s.makeRelease k f = _ := if_neg fun h2 => absurd ((hmade.readySrc.trans hsrc).symm.trans h2) (by decide)
  exact heq ▸ hmade

/-- A release under READY_SRC HOST adds its frame, which waits to be made ready, and names it in RELEASED_FRAME. -/
theorem State.doRelease_host (h : s.readySrc k = 1) (f : Nat) : let t := s.doRelease k f
    (t.swath k).frames = (s.swath k).frames ++ [⟨f, false⟩] ∧ (t.swath k).everReleased = true ∧
      t.nat (pgSWT k) Swt.RELEASED_FRAME = f % 2 ^ 32 := by
  have hmerged := (s.endHold_spares (k := k) k).trans (State.mergeAtRelease_spares _ k)
  have hmade := State.makeRelease_host (hmerged.readySrc.trans h) f
  have hrecord : (s.doRelease k f).swath k = _ := hmade.record.trans (State.addFrame_record f)
  rw [hmerged.record] at hrecord
  exact ⟨congrArg SwtState.frames hrecord, congrArg SwtState.everReleased hrecord,
    (congrArg BitVec.toNat (hmade.regs Swt.RELEASED_FRAME (by decide))).trans (State.addFrame_released f)⟩

end

section
variable {k : Fin 16} {s a : State}

/-- A Swath whose frames are all ready, and that may take its snapshot, releases its next frame when REL_OFFSET allows it; R210 may
hold the release then. -/
theorem State.release_reached {k x : Nat} (htold : (s.swath k).told = []) (hown : s.ownStarts k = true) (hstate : s.releases k = true)
    (hready : (s.swath k).frames.all (·.ready) = true) (hsnap : s.snapshotAllowed k (s.nextFrame k) = true)
    (hafter : s.releaseAfter k (s.nextFrame k) = some x) (hreach : s.reach (timeOfUnits x) = some a) :
    s.release k = if a.releaseHeld k then a.holdRelease k else a.doRelease k (s.nextFrame k) := by
  simp only [State.release, htold, hown, hstate, hready, hsnap, hafter, State.atTime_reached hreach, ne_eq, not_true_eq_false,
    Bool.not_true, Bool.or_self, Bool.false_eq_true, if_false]

/-! ### FRAME_READY (R252) -/

theorem State.told_swt (s : State) (r : Requester) (page off : Nat) (v : Word) : (s.told r page off v).swt = s.swt :=
  (State.mirrorWrite_keeps (State.count_keeps (s.keeps_parts 0x4000) (Keep.off_of_and (by decide)))
    (Keep.off_of_and (by decide))).swt_eq

theorem exec_frameReadyWrite {r : Requester} (h : s.accepts r (pgSWT k) Swt.FRAME_READY = true) :
    exec (.frameReadyWrite r k) s = .next ((s.told r (pgSWT k) Swt.FRAME_READY 1).frameReadyWrite k 1) :=
  congrArg Host.Outcome.next (State.busWrite_own h (pageInfo_pgSWT k) (by decide) (by decide)
    (by simp [State.ownWrite, Swt.FRAME_READY]))

theorem Released.waits_of_find {l : List Released} {x : Released} (h : l.find? (fun x => !x.ready) = some x) :
    x ∈ l ∧ x.ready = false := by
  have hx := List.find?_some h
  exact ⟨List.mem_of_find?_eq_some h, by simpa using hx⟩

/-- FRAME_READY finds the oldest frame that is not ready. -/
theorem State.frameReadyWrite_ready {k : Nat} {x : Sys2Proof.Machine.Released}
    (hx : (s.swath k).frames.find? (fun x => !x.ready) = some x) (hsrc : s.readySrc k = 1) : s.frameReadyWrite k 1 = s.frameReady k x.frame := by
  obtain ⟨hmem, hwaits⟩ := Released.waits_of_find hx
  have hany : (s.swath k).frames.any (fun x => !x.ready) = true := List.any_eq_true.2 ⟨x, hmem, by rw [hwaits]; rfl⟩
  have hbit : bit 1#32 0 = true := by decide
  simp [State.frameReadyWrite, State.readyOverrun, hbit, hany, hsrc, hx]

theorem State.frameReadyWrite_overrun {k : Nat} (hnone : (s.swath k).frames.find? (fun x => !x.ready) = none) :
    s.frameReadyWrite k 1 = s.fault (pgSWT k) Swt.F_READY_OVERRUN := by
  have hany : (s.swath k).frames.any (fun x => !x.ready) = false := by
    rw [List.any_eq_false]
    exact List.find?_eq_none.1 hnone
  have hbit : bit 1#32 0 = true := by decide
  simp [State.frameReadyWrite, State.readyOverrun, hbit, hany]

/-- A frame that waits becomes ready. -/
theorem State.frameReady_frames {k f : Nat} (h : (s.swath k).frames.any (fun x => x.frame == f && !x.ready) = true) :
    ((s.frameReady k f).swath k).frames = (s.swath k).frames.map (fun y => if y.frame = f then { y with ready := true } else y) := by
  unfold State.frameReady
  dsimp only
  rw [if_pos h, State.swath, (State.tell_keeps (State.keeps_parts _ 0x4000) (Keep.off_of_and (by decide))).swt_eq]
  exact congrArg SwtState.frames (State.swath_setSwath _ _ _)

/-! ### Fixing (R256, R260) -/

/-- A ready frame is fixed to the first candidate of the window that lies LEAD ahead. -/
theorem State.newFrameFix_fixes {k g : Nat} {c : Rat} {m : Int} {x : Rat} (hready : s.oldestReady k = some g)
    (hmay : s.mayFix k = true) (hfall : s.fallback = false)
    (hx : x = if s.nowUnits < (s.nextWindow k s.nowUnits).lo - (s.leadUnits k : Rat) then
      (s.nextWindow k s.nowUnits).lo - (s.leadUnits k : Rat) else s.nowUnits)
    (hreach : s.reach (if s.nowUnits < x then timeOfUnits x.ceil.toNat else s.tln.now) = some a)
    (hfirst : a.firstCandidate k (a.nextWindow k x) (x + (s.leadUnits k : Rat)) = some (c, m))
    (hhold : (a.swath k).holdEnd = none) : let w := a.nextWindow k x
    s.newFrameFix k = a.fixStart k ⟨(roundGridRat c).toNat, g, false, if w.anchor.isSome then m else 0,
      if w.free then none else w.anchor⟩ w := by
  subst hx
  simp [State.newFrameFix, hready, hmay, hfall, State.atTime_reached hreach, hfirst, hhold]

/-- With no ready frame the last frame is repeated at the last candidate of the window. -/
theorem State.repeatFix_fixes {k g : Nat} {c : Rat} {m : Int} (hmay : s.mayFix k = true) (hkind : s.startKind k = 0)
    (hlast : (s.swath k).lastFixed = some g) (hready : s.oldestReady k = none)
    (hcand : s.lastCandidate k (s.nextWindow k s.nowUnits) = some (c, m))
    (hreach : s.reach (if s.nowUnits < c - (s.leadUnits k : Rat) then timeOfUnits (c - (s.leadUnits k : Rat)).ceil.toNat
      else s.tln.now) = some a) : let w := s.nextWindow k s.nowUnits
    s.repeatFix k = a.fixStart k ⟨(roundGridRat c).toNat, g, true, if w.anchor.isSome then m else 0,
      if w.free then none else w.anchor⟩ w := by
  simp [State.repeatFix, hmay, hkind, hlast, hready, hcand, State.atTime_reached hreach]

/-- The record of a Swath in which start `f` becomes fixed. -/
def SwtState.fixing (w : SwtState) (f : FixedStart) : SwtState :=
  { w with fixed := w.fixed ++ [f], lastFixed := some f.frame,
           frames := if f.repeated then w.frames else w.frames.filter (fun x => x.frame != f.frame) }

/-- Counters, registers, launches and messages follow from the record of a fixed start. -/
theorem State.placeStart_keeps_record {q : Keep} {k : Nat} {f : FixedStart} {slips : Nat} {free : Bool}
    (h : (s.setSwath k ((s.swath k).fixing f)).Keeps q) (hq : q.Off 0x260b946) : (s.placeStart k f slips free).Keeps q := by
  have hslip := State.Keeps.ite (c := slips = 0) (dec := inferInstance) h
    (State.count_keeps (State.fault_keeps (State.addReg_keeps (page := pgSWT k) (off := Swt.SLIPS) (k := slips) h)
      (page := pgSWT k) (n := Swt.F_SLIP)) (n := 1232 + 4 * k + 2) (k := slips))
  have hfree := State.Keeps.ite (c := free = true) (dec := inferInstance)
    (State.inc_keeps (page := pgSWT k) (off := Swt.UNANCHORED) hslip) hslip
  have hrepeats := State.setSts_keeps (page := pgSWT k) (f := Swt.S_REPEATED) (n := 1)
    (State.inc_keeps (page := pgSWT k) (off := Swt.REPEATS) hfree)
  exact State.tellFix_keeps (State.giveLaunches_keeps (State.nextStartRegs_keeps (State.Keeps.ite
    (State.swtEvent_keeps (State.count_keeps hrepeats)) hfree)))

theorem State.placeStart_record (s : State) (k : Nat) (f : FixedStart) (slips : Nat) (free : Bool) :
    (s.placeStart k f slips free).swath k = (s.swath k).fixing f := by
  have hset := (s.setSwath k ((s.swath k).fixing f)).keeps_parts 0x4000
  rw [State.swath, (State.placeStart_keeps_record hset (Keep.off_of_and (by decide))).swt_eq]
  exact State.swath_setSwath _ _ _

end
end Sys2Proof.Machine

open Sys2Proof Sys2Proof.Machine

/-- Settles O24: an event acts in the state that the timeline reaches, and what a release or a fixed start brings with it leaves the
record that it made. -/
theorem frameStartsAreFixed : Obligations.FrameStartsAreFixed := by
  refine ⟨fun s a k x htold hown hstate hready hsnap hafter hreach => ?_, fun s k f hk hsrc => ?_, fun s r k => ?_,
    fun s a k g c m => ?_, fun s a k g c m => ?_, fun s k f slips free _ => ?_⟩
  · have hrelease := State.release_reached htold hown hstate hready hsnap hafter hreach
    exact ⟨fun hfree => congrArg Host.Outcome.next (hrelease.trans (if_neg (by simp [hfree]))),
      fun hheld => congrArg Host.Outcome.next (hrelease.trans (if_pos hheld))⟩
  · exact State.doRelease_host (k := ⟨k, hk⟩) hsrc f
  · intro u haccepts
    have hswath : u.swath k = s.swath k := by rw [State.swath, State.told_swt, State.swath]
    rw [← hswath, exec_frameReadyWrite haccepts]
    refine ⟨fun x hx hsrc => ⟨_, rfl, ?_⟩, fun hnone => congrArg Host.Outcome.next (State.frameReadyWrite_overrun hnone)⟩
    rw [State.frameReadyWrite_ready hx hsrc]
    obtain ⟨hmem, hwaits⟩ := Released.waits_of_find hx
    exact State.frameReady_frames (List.any_eq_true.2 ⟨x, hmem, by simp [hwaits]⟩)
  · intro lead first x w hready hmay hfall hreach hfirst hhold
    exact congrArg Host.Outcome.next (State.newFrameFix_fixes hready hmay hfall rfl hreach hfirst hhold)
  · intro w x hmay hkind hlast hready hcand hreach
    exact congrArg Host.Outcome.next (State.repeatFix_fixes hmay hkind hlast hready hcand hreach)
  · intro t
    have hrecord : t.swath k = _ := s.placeStart_record k f slips free
    refine ⟨congrArg SwtState.fixed hrecord, congrArg SwtState.lastFixed hrecord, fun hnew => ?_, fun hrep => ?_⟩
    · exact (congrArg SwtState.frames hrecord).trans (if_neg (by simp [hnew]))
    · exact (congrArg SwtState.frames hrecord).trans (if_pos hrep)

end

section
/-!
Frame starts, holding and the results of CRC rectangles (R258, R260, R265 to R272), with O25.
-/
set_option Elab.async false
namespace Sys2Proof.Machine

/-! ### Pins -/

section
variable {k : Fin 16} (s : State)

theorem State.wireHolds_spares (w : Wire) (b : Bool) : s.Spares k (s.wireHolds w b) := (State.Spares.refl s).upd rfl rfl

theorem State.setDriven_spares {page : Nat} (f : Field) (l : List Wire) (on : Bool) (hk : notSwath page PAGE_STATUS) :
    s.Spares k (s.setDriven page f l on) :=
  have hset := (State.Spares.refl s).setReg hk
  hset.ite (hset.foldl fun _ _ a _ => (State.Spares.refl a).upd rfl rfl)

theorem State.pxRefresh_spares (j : Nat) : s.Spares k (s.pxRefresh j) := by
  have hk : notSwath (pgPXP j) PAGE_STATUS := notSwath_of_le (by simp only [pgCMP, pgPXP]; omega)
  have hset : s.Spares k ((s.setSts (pgPXP j) Pxp.S_PIN_STATE (s.pxPin j).1).setDriven (pgPXP j) Pxp.S_DRIVEN [.px j] (s.pxPin j).2) :=
    ((State.Spares.refl s).setReg hk).trans (State.setDriven_spares _ _ _ _ hk)
  exact (hset.trans (State.wireHolds_spares _ _ _)).ite hset

theorem State.dmxRefresh_spares (j : Nat) : s.Spares k (s.dmxRefresh j) := by
  have hk : notSwath (pgDMX j) PAGE_STATUS := notSwath_of_le (by simp only [pgCMP, pgDMX]; omega)
  have hset : s.Spares k ((s.setSts (pgDMX j) Dmx.S_PIN_STATE (s.dmxPin j).1).setDriven (pgDMX j) Dmx.S_DRIVEN [.dmxTx j, .dmxDe j]
      (s.dmxPin j).2) := ((State.Spares.refl s).setReg hk).trans (State.setDriven_spares _ _ _ _ hk)
  exact ((hset.trans (State.wireHolds_spares _ _ _)).trans (State.wireHolds_spares _ _ _)).ite hset

theorem State.fldRefresh_spares (j : Nat) : s.Spares k (s.fldRefresh j) := by
  have hk : notSwath (pgFLD j) PAGE_STATUS := notSwath_of_le (by simp only [pgCMP, pgFLD]; omega)
  exact ((State.Spares.refl s).setReg hk).trans (State.setDriven_spares _ _ _ _ hk)

theorem State.lclRefresh_spares (n : Nat) : s.Spares k (s.lclRefresh n) := by
  have hk : notSwath (pgLCL n) PAGE_STATUS := notSwath_of_le (by simp only [pgCMP, pgLCL]; omega)
  have hdriven (x : Nat) : s.Spares k (s.lampsDriven n x) :=
    (((State.Spares.refl s).setReg hk).trans (State.setDriven_spares _ _ _ _ hk)).foldl fun i _ a _ =>
      (State.Spares.refl a).setReg (notSwath_of_le (by simp only [pgCMP, pgLMP]; omega))
  have hchanged (a : State) (x : Nat) (at_ : Option Nat) : a.Spares k (a.lclChanged n x at_) := by
    have hcluster (c : ClusterState) : a.Spares k (a.setCluster n c) := (State.Spares.refl a).upd rfl rfl
    exact State.Spares.ite ((hcluster _).irq.foldl fun j _ b _ => b.wireHolds_spares _ _) (hcluster _).irq
  rw [State.lclRefresh_eq]
  exact (hdriven _).ite ((hdriven _).trans (hchanged _ _ _))

theorem State.pinsRefresh_spares : s.Spares k s.pinsRefresh :=
  State.Spares.foldl (State.Spares.foldl (State.Spares.foldl (State.Spares.foldl (State.Spares.refl s)
    fun _ _ a _ => a.pxRefresh_spares _) fun _ _ a _ => a.dmxRefresh_spares _) fun _ _ a _ => a.lclRefresh_spares _)
    fun _ _ a _ => a.fldRefresh_spares _

end

/-! ### States of Swaths (R249, R265, R266) -/

section
variable {k : Fin 16} (s : State)

theorem State.setReg_congr {page off page' off' : Nat} (h : regKey page off = regKey page' off') (v : Word) :
    s.setReg page off v = s.setReg page' off' v := by
  rw [State.setReg, State.setReg, State.shd, State.shd, h]

theorem State.setGroupState_spares (j : Fin 16) (n : Nat) : s.Spares k (s.setGroupState (pgSWT j) n) := by
  simp only [State.setGroupState, pageInfo_pgSWT]
  refine (State.Spares.refl s).foldl fun i hi a _ => ?_
  have hi : i < 4 := List.mem_range.1 hi
  have hkey : a.setPageState (pgSWT j + i) n
      = a.setReg (pgSWT j) (0x1000 * i + PAGE_STATUS) (putBits (a.reg (pgSWT j + i) PAGE_STATUS) (1, 0) n) :=
    a.setReg_congr (by simp only [regKey]; omega) _
  rcases eq_or_ne j k with rfl | hne
  · rcases Nat.eq_zero_or_pos i with rfl | hpos
    · exact (State.Spares.refl a).setSts_own (f := (1, 0)) (by decide) (by decide)
    · rw [hkey]
      refine (State.Spares.refl a).setReg_own ?_ (by simp only [PAGE_STATUS]; omega)
      have hmod : (0x1000 * i + PAGE_STATUS) % 0x1000 = PAGE_STATUS := by simp only [PAGE_STATUS]; omega
      simp [swathReg, hmod]
  · rw [hkey]
    exact (State.Spares.refl a).setReg_other hne (by simp only [PAGE_STATUS]; omega)

theorem State.swathRefresh_spares (j : Fin 16) : s.Spares k (s.swathRefresh j) :=
  (State.Spares.refl s).ite ((s.setGroupState_spares j 0).ite ((s.setGroupState_spares j 2).ite (s.setGroupState_spares j 1)))

/-- Another Swath changes its state. -/
theorem State.setSwathState_spares {j : Fin 16} (hj : j ≠ k) (n : Nat) : s.Spares k (s.setSwathState j n) :=
  (s.swathRefresh_spares j).ite
    (((State.Spares.refl s).setReg_other hj (by decide)).trans (State.swathRefresh_spares _ j)).irq

/-- The Swath enters a state, and its record stays. -/
theorem State.setSwathState_enters {n : Nat} (hn : n < 8) :
    (s.setSwathState k n).swathState k = n ∧ (s.setSwathState k n).swath k = s.swath k := by
  unfold State.setSwathState
  split
  · next hsame => exact ⟨(s.swathRefresh_spares k).state.trans hsame, (s.swathRefresh_spares k).record⟩
  · have hset := ((s.setSts (pgSWT k) Swt.S_SWATH_STATE n).swathRefresh_spares k).irq (k := k) (n := 80 + 2 * k)
    refine ⟨hset.state.trans ?_, hset.record⟩
    rw [State.swathState, State.sts_setSts_self _ _ (by decide)]
    exact Nat.mod_eq_of_lt hn

theorem State.lockFollow_spares (j : Fin 16) : s.Spares k (s.lockFollow j) := by
  have hset (n : Nat) : s.Spares k (s.setSts (pgSWT j) Swt.S_LOCK_OK n) := by
    rcases eq_or_ne j k with rfl | hne
    · exact (State.Spares.refl s).setSts_own (by decide) (by decide)
    · exact (State.Spares.refl s).setReg_other hne (by decide)
  exact (State.Spares.refl s).ite (((hset _).fault_swath j).ite (hset _))

/-- A Swath that has left STOPPED is not armed. -/
theorem State.tryArm_spares (h : s.swathState k ≠ 0) (j : Fin 16) : s.Spares k (s.tryArm j) := by
  rcases eq_or_ne j k with rfl | hne
  · rw [State.tryArm, if_neg fun hc => h hc.1]
    exact State.Spares.refl s
  · have hkj : k.val ≠ j := fun he => hne (Fin.ext he.symm)
    exact ((s.setSwath_spares hkj _).trans (State.setSwathState_spares _ hne 1)).ite (State.Spares.refl s)

theorem State.swathLocks_spares (h : s.swathState k ≠ 0) : s.Spares k s.swathLocks := by
  have hlocks : s.Spares k ((List.range 16).foldl State.lockFollow s) :=
    (State.Spares.refl s).foldl fun j hj a _ => a.lockFollow_spares ⟨j, List.mem_range.1 hj⟩
  exact hlocks.foldl fun j hj a ha => a.tryArm_spares (ha.state ▸ h) ⟨j, List.mem_range.1 hj⟩

theorem State.swtEvent_same (k n : Nat) : s.SameButCount (s.swtEvent k n) := by
  unfold State.swtEvent
  split
  · exact (s.irq_same _).count
  · exact (State.SameButIrq.refl s).count

end

/-! ### What follows a start on the link (R555, R556, R558) -/

section
variable {k : Fin 16} (s : State)

theorem State.passCutover_spares (j start : Nat) : s.Spares k (s.passCutover j start) := by
  have hsent (a : State) : a.Spares k a.sendHardwareImage := (State.Spares.refl a).foldl fun _ _ b _ => b.tsxSend_spares _ _ _
  refine State.Spares.ite (State.Spares.ite ?_ (s.setRed_spares _)) (State.Spares.refl s)
  exact ((s.setRed_spares _).trans (hsent _)).trans (State.setRed_spares _ _)

theorem State.setSync_spares (n : Nat) : s.Spares k (s.setSync n) := by
  have hset (r : RedState) : s.Spares k (((s.setRed r).setSts pgRED Red.S_SYNC_STATE n).irq 342) :=
    ((s.setRed_spares r).setReg (by decide)).irq
  exact (State.Spares.refl s).ite (hset _)

theorem State.digestDiffers_spares (a b : Digest) : s.Spares k (s.digestDiffers a b) := by
  have hcount : s.Spares k (s.count 1479 1) := (State.Spares.refl s).count
  have hinfo (x y : Nat) : s.Spares k (((s.count 1479 1).setNat pgRED Red.MISMATCH_INFO x).setNat pgRED Red.MISMATCH_FRAME y) :=
    (hcount.setReg (by decide)).setReg (by decide)
  have hreport (t : State) (ht : s.Spares k t) : s.Spares k ((t.fault pgRED Red.F_DIGEST_MISMATCH).trigger 0xE04 pgRED) :=
    (ht.fault (by decide)).trans (State.trigger_spares _ _ _)
  exact ((hreport _ (hcount.ite (hinfo _ _))).trans (State.setSync_spares _ 4)).ite (hreport _ (hcount.ite (hinfo _ _)))

theorem State.compareDigest_spares (a b : Digest) : s.Spares k (s.compareDigest a b) := by
  have hcount : s.Spares k (s.count 1478 1) := (State.Spares.refl s).count
  have hmatched (r : RedState) := hcount.trans (State.setRed_spares (k := k) (s.count 1478 1) r)
  exact ((s.setSync_spares 3).ite (State.Spares.refl s)).ite
    ((((hmatched _).trans (State.setSync_spares _ 3)).ite (hmatched _)).ite (hcount.trans (State.digestDiffers_spares _ a b)))

theorem State.ownDigest_spares (a : Digest) : s.Spares k (s.ownDigest a) := by
  unfold State.ownDigest
  split
  · exact State.Spares.refl s
  · split
    · exact (s.setRed_spares _).trans (State.compareDigest_spares _ _ _)
    · exact s.setRed_spares _

theorem State.digestStart_spares (j start : Nat) (rep : Bool) : s.Spares k (s.digestStart j start rep) := by
  have hconverge : s.Spares k (s.converge j) :=
    ((s.setRed_spares _).trans (State.tell_spares _ _ _)).ite (State.Spares.refl s)
  exact (State.Spares.refl s).ite
    ((hconverge.trans (State.tell_spares _ _ _)).ite (hconverge.trans (State.ownDigest_spares _ _)))

end

/-! ### Frame starts (R258, R260, R265, R269) -/

section
variable {k : Fin 16} {s a : State}

/-- The results that are still open when a start sets rectangles to work are late. -/
def State.crcLate (s : State) (k : Nat) : State :=
  if (s.swath k).crcBusy = [] then s else (s.fault (pgSWT k) Swt.F_CRC_LATE).setSwath k { s.swath k with crcBusy := [] }

theorem State.beginCrc_eq (s : State) (k g : Nat) : s.beginCrc k g = (let t := s.crcLate k
    if (t.snapOfSwath k g).isNone then t
    else t.setSwath k { t.swath k with crcBusy := (List.range 8).filter (fun r => t.rectMode k r != 0), crcFrame := g }) := rfl

theorem State.crcLate_record (s : State) (k : Nat) : ∃ l, (s.crcLate k).swath k = { s.swath k with crcBusy := l } := by
  unfold State.crcLate
  split
  · exact ⟨_, rfl⟩
  · exact ⟨[], State.swath_setSwath _ _ _⟩

/-- Setting the rectangles to work changes no more of the record than which of them are at work, and over which frame. -/
theorem State.beginCrc_record (s : State) (k g : Nat) :
    ∃ l n, (s.beginCrc k g).swath k = { s.swath k with crcBusy := l, crcFrame := n } := by
  obtain ⟨l, hlate⟩ := s.crcLate_record k
  rw [State.beginCrc_eq]
  dsimp only
  split
  · exact ⟨l, _, hlate⟩
  · rw [State.swath_setSwath, hlate]
    exact ⟨_, g, rfl⟩

/-- A start becomes the last one, its frame is shown, no hold limit runs any more, and the Swath is RUNNING. -/
theorem State.makeStart_leaves (s : State) (f : FixedStart) : let t := s.makeStart k f
    (t.swath k).lastStart = some f.start ∧ (t.swath k).shown = some f.frame ∧ (t.swath k).holdEnd = none ∧ t.swathState k = 2 := by
  let s1 := if s.swathState k == 3 then s.flushAtLeave k f.start else s
  let s2 := (s1.commitStart k (timeOfUnits f.start)).flushAtStart k f.start
  let s3 := (s2.setSwath k ((s2.swath k).made f)).startRegs k f
  have hmade : s3.swath k = (s2.swath k).made f := by
    rw [State.swath, (State.startRegs_keeps (State.keeps_parts _ 0x4000) (Keep.off_of_and (by decide))).swt_eq]
    exact State.swath_setSwath _ _ _
  obtain ⟨l, n, hcrc⟩ := s3.beginCrc_record k f.frame
  obtain ⟨hstate, hrecord⟩ := (s3.beginCrc k f.frame).setSwathState_enters (k := k) (n := 2) (by decide)
  let s4 := (s3.beginCrc k f.frame).setSwathState k 2
  have hnot : s4.swathState k ≠ 0 := by rw [hstate]; decide
  have hrun : s4.Spares k (if s.swathState k = 2 then s4 else s4.swathLocks.pinsRefresh) :=
    (State.Spares.refl s4).ite ((State.swathLocks_spares s4 hnot).trans (State.pinsRefresh_spares _))
  have hend : s4.Spares k (s.makeStart k f) := (((hrun.same (State.swtEvent_same _ k 0)).trans
    (State.passCutover_spares _ k f.start)).trans (State.digestStart_spares _ k f.start f.repeated))
  have hfinal : (s.makeStart k f).swath k = { (s2.swath k).made f with crcBusy := l, crcFrame := n } := by
    rw [hend.record, hrecord, hcrc, hmade]
  exact ⟨congrArg SwtState.lastStart hfinal, congrArg SwtState.shown hfinal, congrArg SwtState.holdEnd hfinal,
    hend.state.trans hstate⟩

/-- The earliest fixed start of a Swath that is enabled and not STOPPED happens at its instant. -/
theorem State.frameStart_reached {k : Nat} {f : FixedStart} {rest : List FixedStart} (hfixed : (s.swath k).fixed = f :: rest)
    (hstate : s.swathState k ≠ 0) (hen : s.enabled (pgSWT k) = true) (hreach : s.reach (timeOfUnits f.start) = some a) :
    s.frameStart k = a.makeStart k f := by
  simp [State.frameStart, hfixed, hstate, hen, State.atTime_reached hreach]

/-! ### Holding (R265, R267) -/

theorem State.swathHold_reached {k x : Nat} (hlast : (s.swath k).lastStart = some x) (hstate : s.swathState k = 2)
    (hstop : s.stopSet (pgSWT k) = true) (hfixed : (s.swath k).fixed = [])
    (hreach : s.reach (timeOfUnits (((x : Rat) + s.frameMin k).ceil.toNat)) = some a) :
    s.swathHold k = (a.enterHolding k []).commitAllIdle := by
  simp [State.swathHold, hlast, hstate, hstop, hfixed, State.atTime_reached hreach]

theorem State.holdLimit_reached {k x : Nat} (hend : (s.swath k).holdEnd = some x) (hstate : s.swathState k = 3)
    (hreach : s.reach (timeOfUnits x) = some a) : s.holdLimit k = (a.setSts (pgSWT k) Swt.S_HOLD_TIMEOUT 1).enterStopped k := by
  simp [State.holdLimit, hend, hstate, State.atTime_reached hreach]

/-- NEXT_START lies behind the registers of the Swath's timing. -/
theorem State.reg_nextStartRegs {off : Nat} (h : off < Swt.NEXT_START_S_LO) :
    (s.nextStartRegs k).reg (pgSWT k) off = s.reg (pgSWT k) off := by
  have hset (b : State) {o : Nat} (v : Word) (ho : Swt.NEXT_START_S_LO ≤ o) :
      (b.setReg (pgSWT k) o v).reg (pgSWT k) off = b.reg (pgSWT k) off := b.reg_setReg_off (by omega) v
  unfold State.nextStartRegs
  split
  · exact hset _ _ (by decide)
  · exact (hset _ _ (by decide)).trans ((hset _ _ (by decide)).trans ((hset _ _ (by decide)).trans
      ((hset _ _ (by decide)).trans (hset _ _ (by decide)))))

/-- Cancelling the starts of a Swath is a change of its record, of NEXT_START and of the launches. -/
theorem State.cancelStarts_eq (s : State) (k : Nat) :
    ∃ w : SwtState, w.fixed = [] ∧ s.cancelStarts k = ((s.setSwath k w).nextStartRegs k).dropLaunches k :=
  ⟨_, by rfl, rfl⟩

/-- Cancelling the starts of a Swath leaves none fixed, and its timing as it was. -/
theorem State.cancelStarts_leaves (s : State) (k : Fin 16) : let t := s.cancelStarts k
    (t.swath k).fixed = [] ∧ t.swathPeriod k = s.swathPeriod k ∧ t.tln = s.tln := by
  obtain ⟨w, hfixed, heq⟩ := s.cancelStarts_eq k
  have hdrop := State.dropLaunches_keeps (k := k) (((s.setSwath k w).nextStartRegs k).keeps_parts 0x4002)
    (Keep.off_of_and (by decide))
  have hnext := State.nextStartRegs_keeps (k := k) ((s.setSwath k w).keeps_parts 0x4000) (Keep.off_of_and (by decide))
  have hreg {off : Nat} (ho : off < Swt.NEXT_START_S_LO) : (s.cancelStarts k).reg (pgSWT k) off = s.reg (pgSWT k) off := by
    rw [heq, State.reg, hdrop.live_eq]
    exact State.reg_nextStartRegs ho
  refine ⟨?_, ?_, (State.cancelStarts_keeps (s.keeps_parts 0x200) (Keep.off_of_and (by decide))).tln_eq⟩
  · rw [heq, State.swath, hdrop.swt_eq, hnext.swt_eq]
    exact (congrArg SwtState.fixed (s.swath_setSwath k w)).trans hfixed
  · rw [State.swathPeriod, hreg (by decide), hreg (by decide), State.swathPeriod]

/-- A Swath that enters HOLDING has no fixed start, and its hold limit runs for two periods. -/
theorem State.holdOne_leaves (s : State) (k : Fin 16) (l : List Nat) (master : Bool) : let t := s.holdOne k l master
    t.swathState k = 3 ∧ (t.swath k).fixed = [] ∧
      (t.swath k).holdEnd = some (unitsOf s.tln.now + (2 * s.swathPeriod k).floor.toNat) := by
  intro t
  obtain ⟨hfixed, hperiod, htln⟩ := s.cancelStarts_leaves k
  obtain ⟨hstate, hrecord⟩ := ((s.cancelStarts k).setSwath k { (s.cancelStarts k).swath k with
    heldRegions := l ++ ((s.cancelStarts k).swath k).heldRegions, heldMaster := master || ((s.cancelStarts k).swath k).heldMaster,
    jNext := 0, holdFrom := unitsOf (s.cancelStarts k).tln.now,
    holdEnd := some (unitsOf (s.cancelStarts k).tln.now + (2 * (s.cancelStarts k).swathPeriod k).floor.toNat) }).setSwathState_enters
      (k := k) (n := 3) (by decide)
  rw [State.swath_setSwath] at hrecord
  refine ⟨hstate, (congrArg SwtState.fixed hrecord).trans hfixed, (congrArg SwtState.holdEnd hrecord).trans ?_⟩
  rw [hperiod, htln]

end

/-! ### Results of CRC rectangles (R271, R272) -/

section
variable {r : Fin 8} {s : State}

theorem swathReg_rect : swathReg (Swt.EXPECTED r) = true ∧ swathReg (Swt.LAST_CRC r) = true ∧ swathReg (Swt.MISMATCHES r) = true ∧
    swathReg (Swt.LAST_BAD r) = true := by
  revert r
  decide

/-- The rectangle is at work no longer, and LAST_CRC holds its result. -/
def State.rectDone (s : State) (k r : Nat) (c : Word) : State :=
  (s.setSwath k { s.swath k with crcBusy := (s.swath k).crcBusy.filter (· != r) }).setReg (pgSWT k) (Swt.LAST_CRC r) c

/-- A result differs from EXPECTED. -/
def State.rectDiffers (s : State) (k r g : Nat) : State :=
  (s.inc (pgSWT k) (Swt.MISMATCHES r)).setNat (pgSWT k) (Swt.LAST_BAD r) g

/-- A result becomes EXPECTED, and the rectangle is checked from now on. -/
def State.rectCaptures (s : State) (k r : Nat) (c : Word) : State := (s.setBoth (pgSWT k) (Swt.EXPECTED r) c).rectChecks k r

theorem State.rectResult_eq {k r : Nat} {x : Snap} (hbusy : r ∈ (s.swath k).crcBusy)
    (hsnap : s.snapOfSwath k (s.swath k).crcFrame = some x) : s.rectResult k r = (let c := s.rectCrc k r x
      let p := pgSWT k
      let d := s.rectDone k r c
      if s.rectMode k r = 1 then
        if c = s.reg p (Swt.EXPECTED r) then d
        else ((d.rectDiffers k r (s.swath k).crcFrame).fault p Swt.F_CRC_MISMATCH).count (1232 + 4 * k + 3) 1
      else if s.rectMode k r = 2 then ((d.rectCaptures k r c).setSts p Swt.S_CAPTURED 1).swtEvent k 3
      else d) := by
  have hin : (!(s.swath k).crcBusy.contains r) = false := by simpa using hbusy
  simp only [State.rectResult, hin, hsnap, Bool.false_eq_true, if_false]
  rfl

theorem State.rectDone_record (s : State) (k r : Nat) (c : Word) :
    ((s.rectDone k r c).swath k).crcBusy = (s.swath k).crcBusy.filter (· != r) :=
  congrArg SwtState.crcBusy (s.swath_setSwath k _)

theorem State.reg_rectDone (s : State) (k r : Nat) (c : Word) : (s.rectDone k r c).reg (pgSWT k) (Swt.LAST_CRC r) = c :=
  State.reg_setReg_self _ _ _ _

theorem State.reg_rectDone_mismatches (s : State) (k r : Nat) (c : Word) :
    (s.rectDone k r c).reg (pgSWT k) (Swt.MISMATCHES r) = s.reg (pgSWT k) (Swt.MISMATCHES r) :=
  State.reg_setReg_off _ (by simp only [Swt.MISMATCHES, Swt.LAST_CRC]; omega) _

theorem State.rectDiffers_leaves (d : State) (k r g : Nat) : let t := d.rectDiffers k r g
    t.swath k = d.swath k ∧ t.reg (pgSWT k) (Swt.LAST_CRC r) = d.reg (pgSWT k) (Swt.LAST_CRC r) ∧
      t.reg (pgSWT k) (Swt.MISMATCHES r) = d.reg (pgSWT k) (Swt.MISMATCHES r) + 1 ∧
      t.reg (pgSWT k) (Swt.LAST_BAD r) = BitVec.ofNat 32 g := by
  have hcrc : Swt.LAST_CRC r ≠ Swt.MISMATCHES r ∧ Swt.LAST_CRC r ≠ Swt.LAST_BAD r := by
    simp only [Swt.LAST_CRC, Swt.MISMATCHES, Swt.LAST_BAD]
    omega
  have hbad : Swt.MISMATCHES r ≠ Swt.LAST_BAD r := by simp only [Swt.MISMATCHES, Swt.LAST_BAD]; omega
  exact ⟨rfl, (State.reg_setReg_off _ hcrc.2 _).trans (State.reg_setReg_off _ hcrc.1 _),
    (State.reg_setReg_off _ hbad _).trans (State.reg_setReg_self _ _ _ _), State.reg_setReg_self _ _ _ _⟩

theorem State.rectCaptures_leaves (d : State) (k r : Nat) (c : Word) : let t := d.rectCaptures k r c
    t.swath k = d.swath k ∧ t.reg (pgSWT k) (Swt.LAST_CRC r) = d.reg (pgSWT k) (Swt.LAST_CRC r) ∧
      t.reg (pgSWT k) (Swt.EXPECTED r) = c := by
  have hset (v : Word) {o : Nat} (ho : o ≠ Swt.RECT_CTRL r) : ((d.setBoth (pgSWT k) (Swt.EXPECTED r) c).setReg (pgSWT k)
      (Swt.RECT_CTRL r) v).reg (pgSWT k) o = if o = Swt.EXPECTED r then c else d.reg (pgSWT k) o := by
    rw [State.reg_setReg_off _ ho, State.reg_setBoth]
    simp only [regKey_same_page]
  refine ⟨rfl, ?_, ?_⟩
  · exact (hset _ (by simp only [Swt.LAST_CRC, Swt.RECT_CTRL]; omega)).trans
      (if_neg (by simp only [Swt.LAST_CRC, Swt.EXPECTED]; omega))
  · exact (hset _ (by simp only [Swt.EXPECTED, Swt.RECT_CTRL]; omega)).trans (if_pos rfl)

end

section
variable {k : Fin 16} {r : Fin 8} {s : State} {x : Snap} (hbusy : r.val ∈ (s.swath k).crcBusy)
  (hsnap : s.snapOfSwath k (s.swath k).crcFrame = some x)
include hbusy hsnap

/-- Under CHECK a result that differs from EXPECTED is counted. -/
theorem State.rectResult_differs (hmode : s.rectMode k r = 1) (hne : s.rectCrc k r x ≠ s.reg (pgSWT k) (Swt.EXPECTED r)) :
    (s.rectDone k r (s.rectCrc k r x) |>.rectDiffers k r (s.swath k).crcFrame).Spares k (s.rectResult k r) := by
  rw [State.rectResult_eq hbusy hsnap]
  dsimp only
  rw [if_pos hmode, if_neg hne]
  exact ((State.Spares.refl _).fault_swath k).count

/-- Under CAPTURE a result becomes EXPECTED, and CAPTURED tells so. -/
theorem State.rectResult_captures (hmode : s.rectMode k r = 2) :
    (s.rectDone k r (s.rectCrc k r x) |>.rectCaptures k r (s.rectCrc k r x)).Spares k (s.rectResult k r) ∧
      (s.rectResult k r).sts (pgSWT k) Swt.S_CAPTURED = 1 := by
  rw [State.rectResult_eq hbusy hsnap]
  dsimp only
  rw [if_neg (by rw [hmode]; decide), if_pos hmode]
  have hevent := State.swtEvent_same
    ((s.rectDone k r (s.rectCrc k r x) |>.rectCaptures k r (s.rectCrc k r x)).setSts (pgSWT k) Swt.S_CAPTURED 1) k 3
  refine ⟨((State.Spares.refl _).setSts_own (by decide) (by decide)).same hevent, ?_⟩
  rw [State.sts, State.fld, hevent.reg (countKey_swath (by decide))]
  exact State.sts_setSts_self _ _ (by decide) 1

/-- Any other result is LAST_CRC and nothing more. -/
theorem State.rectResult_done (hcheck : s.rectMode k r = 1 → s.rectCrc k r x = s.reg (pgSWT k) (Swt.EXPECTED r))
    (hmode : s.rectMode k r ≠ 2) : s.rectResult k r = s.rectDone k r (s.rectCrc k r x) := by
  rw [State.rectResult_eq hbusy hsnap]
  dsimp only
  rw [if_neg hmode]
  split
  · next h1 => exact if_pos (hcheck h1)
  · rfl

end
end Sys2Proof.Machine

open Sys2Proof Sys2Proof.Machine

/-- Settles O25: an event acts in the state that the timeline reaches; the record that a start or an entry to HOLDING makes is left
by what follows from it. -/
theorem frameStartsHappen : Obligations.FrameStartsHappen := by
  refine ⟨fun s a k f rest hfixed hstate hen hreach => ?_, fun s a k x hlast hstate hstop hfixed hreach => ?_,
    fun s k l master hk => ?_, fun s a k x hend hstate hreach => ?_, fun s k r x => ?_⟩
  · exact ⟨_, congrArg Host.Outcome.next (State.frameStart_reached hfixed hstate hen hreach), a.makeStart_leaves f⟩
  · exact congrArg Host.Outcome.next (State.swathHold_reached hlast hstate hstop hfixed hreach)
  · exact s.holdOne_leaves ⟨k, hk⟩ l master
  · exact congrArg Host.Outcome.next (State.holdLimit_reached hend hstate hreach)
  · intro p w c hbusy hsnap
    obtain ⟨hexpected, hlast, hmismatches, hbad⟩ := swathReg_rect (r := r)
    by_cases hcapture : s.rectMode k r = 2
    · obtain ⟨hspared, hsts⟩ := State.rectResult_captures hbusy hsnap hcapture
      obtain ⟨hrecord, hcrc, hexp⟩ := (s.rectDone k r c).rectCaptures_leaves k r c
      refine ⟨_, rfl, (hspared.regs _ hlast).trans (hcrc.trans (s.reg_rectDone k r c)), ?_, fun h1 => ?_, fun h1 => ?_,
        fun _ => ⟨(hspared.regs _ hexpected).trans hexp, hsts⟩⟩
      · rw [hspared.record, hrecord, s.rectDone_record]
      · exact absurd (h1.symm.trans hcapture) (by decide)
      · exact absurd (h1.symm.trans hcapture) (by decide)
    · by_cases hdiffers : s.rectMode k r = 1 ∧ c ≠ s.reg p (Swt.EXPECTED r)
      · have hspared := State.rectResult_differs hbusy hsnap hdiffers.1 hdiffers.2
        obtain ⟨hrecord, hcrc, hcount, hframe⟩ := (s.rectDone k r c).rectDiffers_leaves k r w.crcFrame
        refine ⟨_, rfl, (hspared.regs _ hlast).trans (hcrc.trans (s.reg_rectDone k r c)), ?_, fun _ _ => ⟨?_, ?_⟩,
          fun _ h => absurd h hdiffers.2, fun h => absurd h hcapture⟩
        · rw [hspared.record, hrecord, s.rectDone_record]
        · rw [hspared.regs _ hmismatches, hcount, s.reg_rectDone_mismatches]
        · rw [State.nat, hspared.regs _ hbad, hframe, BitVec.toNat_ofNat]
      · have hdone := State.rectResult_done hbusy hsnap (fun h1 => by_contra fun hne => hdiffers ⟨h1, hne⟩) hcapture
        exact ⟨_, congrArg Host.Outcome.next hdone, s.reg_rectDone k r c, s.rectDone_record k r c,
          fun h1 hne => absurd ⟨h1, hne⟩ hdiffers, fun _ _ => s.reg_rectDone_mismatches k r c, fun h => absurd h hcapture⟩

end

section
/-!
Pixel and DMX ports: slot checks, launches and the end of emission (R281, R291 to R295, R298, R310 to R313), and O26.
-/
set_option Elab.async false
namespace Sys2Proof.Machine

/-! ### What is left where registers of one page change -/

/-- Of the registers that counting leaves, only those of page `p` at the offsets `l` differ; all other parts but the shadow copies,
interrupts and counters are as before. -/
structure State.SameBut (p : Nat) (l : List Nat) (s t : State) : Prop where
  rest : t.rest = s.rest
  regs : ∀ q off, off < 0x1000 → countKey (regKey q off) = false → (q = p → off ∉ l) → t.reg q off = s.reg q off

section
variable {s t u : State} {p : Nat} {l : List Nat}

theorem State.SameBut.refl (s : State) : s.SameBut p l s := ⟨rfl, fun _ _ _ _ _ => rfl⟩

theorem State.SameBut.trans (h : s.SameBut p l t) (g : t.SameBut p l u) : s.SameBut p l u :=
  ⟨g.rest.trans h.rest, fun q off ho hk hl => (g.regs q off ho hk hl).trans (h.regs q off ho hk hl)⟩

theorem State.SameBut.same (h : s.SameBut p l t) (g : t.SameButCount u) : s.SameBut p l u :=
  h.trans ⟨g.rest, fun _ _ _ hk _ => g.reg hk⟩

theorem State.SameBut.setReg (h : s.SameBut p l t) {off : Nat} (v : Word) (hl : off ∈ l) (ho : off < 0x1000) :
    s.SameBut p l (t.setReg p off v) := by
  refine h.trans ⟨State.rest_setReg _ _ _ _, fun q x hx _ hfar => State.reg_setReg_ne _ _ fun he => ?_⟩
  obtain ⟨hq, rfl⟩ := (regKey_eq_iff hx ho).1 he
  exact hfar hq hl

theorem State.SameBut.count (h : s.SameBut p l t) {n k : Nat} : s.SameBut p l (t.count n k) := h.same (t.count_same n k)

/-- A fault that a page reports itself. -/
theorem State.SameBut.fault (h : s.SameBut p l t) {n : Nat} {i : PageInfo} (hi : pageInfo p = some i)
    (hb : i.block.reported = false) (hl : PAGE_FAULT ∈ l) : s.SameBut p l (t.fault p n) := by
  rw [t.fault_eq_faultHere hi hb]
  exact (h.setReg _ hl (by decide)).same (t.faultHere_same p n).count

/-- A part of the state that is neither registers nor interrupts, counters or the line of a DMX port. -/
theorem State.SameBut.part {α : Type} (h : s.SameBut p l t) (f : State → α)
    (hf : ∀ a : State, f a.rest = f a := by exact fun _ => rfl) : f t = f s := by
  rw [← hf t, h.rest, hf s]

/-- The grid is that of before, where the page is not TLN's. -/
theorem State.SameBut.gridAt (h : s.SameBut p l t) (hp : pgTLN ≠ p) : t.gridAt = s.gridAt := by
  have hlo : t.reg pgTLN Tln.INCR_LO = s.reg pgTLN Tln.INCR_LO := h.regs _ _ (by decide) (by decide) fun he => absurd he hp
  have hhi : t.reg pgTLN Tln.INCR_HI = s.reg pgTLN Tln.INCR_HI := h.regs _ _ (by decide) (by decide) fun he => absurd he hp
  refine State.gridAt_congr (h.part State.tln) ?_
  simp only [State.incr, State.nat, State.fld, hlo, hhi]

end

/-- The pages of pixel and DMX ports. -/
abbrev isPortPage (p : Nat) : Prop := pgPXP 0 ≤ p ∧ p < pgETH 0

theorem pxp_isPort (k : Fin 64) : isPortPage (pgPXP k) := by simp only [isPortPage, pgPXP, pgETH]; omega

theorem dmx_isPort (k : Fin 12) : isPortPage (pgDMX k) := by simp only [isPortPage, pgPXP, pgDMX, pgETH]; omega

theorem countKey_port {p off : Nat} (hp : isPortPage p) (ho : off < 0x1000) : countKey (regKey p off) = false :=
  countKey_of_page (.inl (by simp only [isPortPage, pgPXP, pgETH] at hp; omega)) ho

theorem countKey_pxp (k : Fin 64) {off : Nat} (ho : off < 0x1000) : countKey (regKey (pgPXP k) off) = false :=
  countKey_port (pxp_isPort k) ho

/-! ### What moves pins -/

/-- Ports and registers other than a PAGE_STATUS are as before, but for what counting changes. -/
structure State.SparesPorts (s t : State) : Prop where
  port : t.port = s.port
  regs : ∀ p off, off < 0x1000 → off ≠ PAGE_STATUS → countKey (regKey p off) = false → t.reg p off = s.reg p off

/-- An output that switches a driver, or cuts a wire to a level. -/
def Output.isPin (o : Output) : Prop := ∃ w v u, o = .cut w v u ∨ o = .driver w v u

/-- Besides, the launches owed are as before, and what left the device are levels and drivers of pins. -/
structure State.MovesPins (s t : State) : Prop extends s.SparesPorts t where
  launch : t.launch = s.launch
  out : ∃ pins, t.out = pins ++ s.out ∧ ∀ o ∈ pins, o.isPin

section
variable {s t u : State}

theorem State.SparesPorts.refl (s : State) : s.SparesPorts s := ⟨rfl, fun _ _ _ _ _ => rfl⟩

theorem State.SparesPorts.trans (h : s.SparesPorts t) (g : t.SparesPorts u) : s.SparesPorts u :=
  ⟨g.port.trans h.port, fun p off ho hs hk => (g.regs p off ho hs hk).trans (h.regs p off ho hs hk)⟩

theorem State.SparesPorts.same (h : s.SparesPorts t) (g : t.SameButCount u) : s.SparesPorts u :=
  h.trans ⟨g.port, fun _ _ _ _ hk => g.reg hk⟩

theorem State.SparesPorts.setStatus (h : s.SparesPorts t) (page : Nat) (v : Word) : s.SparesPorts (t.setReg page PAGE_STATUS v) :=
  h.trans ⟨State.setReg_port _ _ _ _, fun _ _ ho hs _ =>
    State.reg_setReg_ne _ _ fun he => hs ((regKey_eq_iff ho (by decide)).1 he).2⟩

theorem State.SparesPorts.ite {c : Prop} [Decidable c] (h : s.SparesPorts t) (g : s.SparesPorts u) :
    s.SparesPorts (if c then t else u) := by
  split
  · exact h
  · exact g

theorem State.MovesPins.refl (s : State) : s.MovesPins s := ⟨.refl s, rfl, [], rfl, by simp⟩

theorem State.MovesPins.trans (h : s.MovesPins t) (g : t.MovesPins u) : s.MovesPins u := by
  obtain ⟨early, hearly, hpin⟩ := h.out
  obtain ⟨late, hlate, hpin'⟩ := g.out
  refine ⟨h.toSparesPorts.trans g.toSparesPorts, g.launch.trans h.launch, late ++ early, ?_, fun o ho => ?_⟩
  · rw [hlate, hearly, List.append_assoc]
  · exact (List.mem_append.1 ho).elim (hpin' o) (hpin o)

theorem State.MovesPins.setStatus (h : s.MovesPins t) (page : Nat) (v : Word) : s.MovesPins (t.setReg page PAGE_STATUS v) :=
  h.trans ⟨(State.SparesPorts.refl t).setStatus page v, State.setReg_launch _ _ _ _, [], rfl, by simp⟩

theorem State.MovesPins.emit (h : s.MovesPins t) {o : Output} (ho : o.isPin) : s.MovesPins (t.emit o) :=
  h.trans ⟨⟨State.emit_port _ _, fun _ _ _ _ _ => rfl⟩, State.emit_launch _ _, [o], rfl, by simpa using ho⟩

theorem State.MovesPins.wireHolds (h : s.MovesPins t) (w : Wire) (b : Bool) : s.MovesPins (t.wireHolds w b) :=
  h.emit ⟨w, b, t.tln.now, .inl rfl⟩

theorem State.MovesPins.ite {c : Prop} [Decidable c] (h : s.MovesPins t) (g : s.MovesPins u) :
    s.MovesPins (if c then t else u) := by
  split
  · exact h
  · exact g

theorem State.MovesPins.foldl {α : Type} {f : State → α → State} {l : List α} (h : s.MovesPins t)
    (hf : ∀ x (a : State), s.MovesPins a → s.MovesPins (f a x)) : s.MovesPins (l.foldl f t) := by
  induction l generalizing t with
  | nil => exact h
  | cons x l ih => exact ih (hf x t h)

theorem State.MovesPins.setDriven (h : s.MovesPins t) (page : Nat) (f : Field) (wires : List Wire) (on : Bool) :
    s.MovesPins (t.setDriven page f wires on) :=
  have hset := h.setStatus page (putBits (t.reg page PAGE_STATUS) f (if on then 1 else 0))
  hset.ite (hset.foldl fun w _ ha => ha.emit ⟨w, on, _, .inr rfl⟩)

theorem State.MovesPins.pxRefresh (h : s.MovesPins t) (k : Nat) : s.MovesPins (t.pxRefresh k) :=
  have hset := (h.setStatus (pgPXP k) _).setDriven (pgPXP k) Pxp.S_DRIVEN [.px k] (t.pxPin k).2
  (hset.wireHolds _ _).ite hset

theorem State.MovesPins.pxPins (h : s.MovesPins t) (k : Nat) : s.MovesPins (t.pxPins k) :=
  ((h.pxRefresh k).pxRefresh (k + 1)).ite (h.pxRefresh k)

theorem State.MovesPins.dmxRefresh (h : s.MovesPins t) (k : Nat) : s.MovesPins (t.dmxRefresh k) :=
  have hset := (h.setStatus (pgDMX k) _).setDriven (pgDMX k) Dmx.S_DRIVEN [.dmxTx k, .dmxDe k] (t.dmxPin k).2
  ((hset.wireHolds _ _).wireHolds _ _).ite hset

end

/-! ### Ports and launches -/

section
variable {s t a : State} {key : Nat}

@[simp] theorem State.portOf_setPort (s : State) (key : Nat) (v : PortState) : (s.setPort key v).portOf key = v :=
  Tab.get_set_self _ _ _ _

theorem State.portOf_congr (h : t.port = s.port) (key : Nat) : t.portOf key = s.portOf key := by rw [State.portOf, h, State.portOf]

theorem State.launches_congr (h : t.launch = s.launch) (key : Nat) : t.launches key = s.launches key := by
  rw [State.launches, h, State.launches]

@[simp] theorem State.launches_setLaunches (s : State) (key : Nat) (l : List Launch) : (s.setLaunches key l).launches key = l :=
  Tab.get_set_self _ _ _ _

theorem State.Keeps.port_eq {l : List Instr} {m : Nat} {c : Bool} (h : State.Keeps ⟨l, s, m, c⟩ t)
    (hm : m.testBit 20 = true := by decide) : t.port = s.port := h.portIs hm

theorem State.Keeps.launch_eq {l : List Instr} {m : Nat} {c : Bool} (h : State.Keeps ⟨l, s, m, c⟩ t)
    (hm : m.testBit 15 = true := by decide) : t.launch = s.launch := h.launchIs hm

/-- Until an instant comes, ports and the launches owed stay as they are, and no output leaves the device. -/
theorem State.reach_leaves_ports {x : Nat} (h : s.reach x = some a) : a.port = s.port ∧ a.launch = s.launch ∧ a.out = s.out :=
  have hkept := State.reach_keeps (s.keeps_parts 0x10A000) (Keep.off_of_and (by decide)) a h
  ⟨hkept.port_eq, hkept.launch_eq, hkept.out_eq⟩

/-- A register of a page that its header's status and fault bits do not share. -/
abbrev plainReg (off : Nat) : Prop := off < 0x1000 ∧ off ≠ PAGE_STATUS ∧ off ≠ PAGE_FAULT

/-! ### The slot check (R292, R312) -/

theorem State.checkSlot_holds {g : Nat} (h : (s.portOf key).holds g = true) (page counter bit : Nat) (skip : Bool) :
    s.checkSlot key page counter bit skip g = (s, some g) := if_pos h

theorem State.checkSlot_missing {g : Nat} (h : (s.portOf key).holds g = false) (page counter bit : Nat) (skip : Bool) :
    s.checkSlot key page counter bit skip g = ((s.inc page counter).fault page bit,
      if skip then none else (s.portOf key).emitted.bind (fun e => if (s.portOf key).holds e then some e else none)) :=
  if_neg (by rw [h]; exact Bool.false_ne_true)

theorem State.slotCheckAt_reached {l : Launch} {page : Nat} (check : State → Launch → State × Option Nat)
    (hl : earliest ((s.launches key).filter (fun l => l.choice.isNone)) = some l)
    (hreach : s.reach (timeOfUnits (l.at_ - 2000 * LU)) = some a) (hmay : a.mayLaunch key page l.swath = true) :
    s.slotCheckAt key page check = (check a l).1.chooseLaunch key l (check a l).2 := by
  rw [State.slotCheckAt, hl]
  exact (State.atTime_reached hreach _).trans (if_pos hmay)

/-- A slot that lacks the content counts once, and no launch is changed by that. -/
theorem State.slotMissed_leaves (s : State) {page counter : Nat} {i : PageInfo} (hi : pageInfo page = some i)
    (hb : i.block.reported = false) (hpage : isPortPage page) (hc : plainReg counter) (bit : Nat) :
    let t := (s.inc page counter).fault page bit
    t.reg page counter = s.reg page counter + 1 ∧ t.launch = s.launch := by
  have hsame : (s.inc page counter).SameBut page [PAGE_FAULT] ((s.inc page counter).fault page bit) :=
    (State.SameBut.refl _).fault hi hb (by simp)
  obtain ⟨ho, -, hfault⟩ := hc
  refine ⟨(hsame.regs _ _ ho (countKey_port hpage ho) fun _ => by simpa using hfault).trans ?_, hsame.part State.launch⟩
  exact State.reg_setReg_self _ _ _ _

theorem State.launches_chooseLaunch (h : t.launch = s.launch) (l : Launch) (c : Option Nat) : (t.chooseLaunch key l c).launches key
    = (s.launches key).map (fun x => if x = l then { x with choice := some c } else x) := by
  rw [State.chooseLaunch, State.launches_setLaunches, State.launches_congr h]

/-- A pixel port counts an underrun in UNDERRUNS and among the counters. -/
theorem State.pxCheck_missing (k : Fin 64) {l : Launch} (h : (s.portOf (keyPX k)).holds l.frame = false) :
    let t := s.pxCheck k l
    t.1.reg (pgPXP k) Pxp.UNDERRUNS = s.reg (pgPXP k) Pxp.UNDERRUNS + 1 ∧ t.1.launch = s.launch ∧
    t.2 = if s.flag (pgPXP k) Pxp.PX_POLICY 0 then none
      else (s.portOf (keyPX k)).emitted.bind (fun e => if (s.portOf (keyPX k)).holds e then some e else none) := by
  obtain ⟨hcounts, hlaunch⟩ := s.slotMissed_leaves (pageInfo_pgPXP k) rfl (pxp_isPort k)
    (by decide : plainReg Pxp.UNDERRUNS) Pxp.F_UNDERRUN
  simp only [State.pxCheck, State.checkSlot_missing h]
  split
  · exact ⟨hcounts, hlaunch, rfl⟩
  · have hcount := State.count_same ((s.inc (pgPXP k) Pxp.UNDERRUNS).fault (pgPXP k) Pxp.F_UNDERRUN) (256 + 4 * k + 1) 1
    exact ⟨(hcount.reg (countKey_pxp k (by decide))).trans hcounts, hcount.launch.trans hlaunch, rfl⟩

theorem State.pxCheck_holds {k : Nat} {l : Launch} (h : (s.portOf (keyPX k)).holds l.frame = true) :
    s.pxCheck k l = (s, some l.frame) := by
  rw [State.pxCheck, State.checkSlot_holds h]
  exact if_pos rfl

end

/-! ### What an emission sends (R281, R282, R284, R285, R310) -/

section
variable {s t : State}

/-- Edges that leave one after another, each on the grid. -/
theorem State.foldl_emitEdges {α : Type} (f : α → Output) (l : List α) (s : State) : l.foldl (fun a x => a.emitEdges (f x)) s
    = { s with out := (l.map (fun x => (f x).placed s.gridAt)).reverse ++ s.out } := by
  induction l generalizing s with
  | nil => rfl
  | cons x l ih =>
    rw [List.foldl_cons, ih, List.map_cons, List.reverse_cons, List.append_assoc]
    rfl

/-- The registers that give the form of a pixel port's frame are as before. -/
abbrev State.SameForm (s t : State) (k : Nat) : Prop :=
  ∀ off, Pxp.PX_MODE ≤ off → off < Pxp.EMIT_BITS → t.reg (pgPXP k) off = s.reg (pgPXP k) off

theorem State.oneWire_congr {k : Nat} (h : s.SameForm t k) : t.oneWire k = s.oneWire k := by
  have hedges (b : Bool) : t.pxEdges k b = s.pxEdges k b := by
    simp only [State.pxEdges, State.fld, h Pxp.EDGE_A0 (by decide) (by decide), h Pxp.EDGE_A1 (by decide) (by decide),
      h Pxp.EDGE_B0 (by decide) (by decide), h Pxp.EDGE_B1 (by decide) (by decide), h Pxp.SYM_PERIOD (by decide) (by decide)]
  funext x sym
  induction sym generalizing x with
  | nil => rfl
  | cons b r ih =>
    simp only [State.oneWire, hedges, ih, State.fld, State.flag, h Pxp.PX_MODE (by decide) (by decide),
      h Pxp.SYM_PERIOD (by decide) (by decide)]

theorem State.pxSymbolList_congr {k : Nat} (h : s.SameForm t k) (hmem : t.mem = s.mem) (hboot : t.boot = s.boot)
    (slot count : Nat) : t.pxSymbolList k slot count = s.pxSymbolList k slot count := by
  simp only [State.pxSymbolList, State.pxDepth, State.pxChannels, State.pxHead, State.pxTrail, State.fld, State.flag,
    State.bytes_congr hmem hboot, h Pxp.PX_MODE (by decide) (by decide), h Pxp.PX_ORDER (by decide) (by decide),
    h Pxp.FRAMING (by decide) (by decide)]

/-- The waves of a frame come from the port's registers, the slot, and whether the unit of its clock pin is FAILED. -/
theorem State.pxWaves_congr {k : Nat} (h : s.SameForm t k) (hmem : t.mem = s.mem) (hboot : t.boot = s.boot)
    (hstate : t.pageState (pgPXP (k + 1)) = s.pageState (pgPXP (k + 1))) (x slot count : Nat) :
    t.pxWaves k x slot count = s.pxWaves k x slot count := by
  have hwire : t.pxWire k = s.pxWire k := congrArg (bits · Pxp.WIRE) (h Pxp.PX_MODE (by decide) (by decide))
  have hperiod : t.fld (pgPXP k) Pxp.SYM_PERIOD Pxp.PERIOD = s.fld (pgPXP k) Pxp.SYM_PERIOD Pxp.PERIOD :=
    congrArg (bits · Pxp.PERIOD) (h Pxp.SYM_PERIOD (by decide) (by decide))
  rw [State.pxWaves, State.clockWire, State.pxSymbolList_congr h hmem hboot, State.oneWire_congr h, hwire, hperiod, hstate]
  rfl

end

/-! ### Launches (R281, R293, R311) -/

section
variable {s a : State}

/-- What the launch of a frame of a pixel port writes into registers; `late` after its instant. -/
def State.pxNoted (s : State) (k frame begin_ : Nat) (late : Bool) : State :=
  let p := pgPXP k
  let s1 := if late then ((s.inc p Pxp.LATE_COUNT).fault p Pxp.F_LAUNCH_LATE).count (256 + 4 * k + 2) 1 else s
  (s1.setNat p Pxp.EMIT_FRAME frame).setTimeRegs p Pxp.LAST_LAUNCH_S_LO (gridTimeVal begin_)

/-- The registers that it writes. -/
def pxLaunchRegs : List Nat := [Pxp.LATE_COUNT, PAGE_FAULT, Pxp.EMIT_FRAME, Pxp.LAST_LAUNCH_S_LO, Pxp.LAST_LAUNCH_S_HI,
  Pxp.LAST_LAUNCH_NS, Pxp.LAST_LAUNCH_FRAC]

/-- Frame `g` is in emission until `stop`, and its waves have not begun. -/
def State.pxBegun (s : State) (k g begin_ stop : Nat) (late : Bool) : State :=
  let x := s.portOf (keyPX k)
  (s.pxNoted k (((x.fill (g % 2)).map (·.frame)).getD g) begin_ late).setPort (keyPX k)
    { x with emit := some ⟨g, g % 2, stop⟩, emitted := some g }

theorem State.pxEmit_eq (s : State) (k g begin_ : Nat) (late : Bool) : s.pxEmit k g begin_ late
    = (let count := (((s.portOf (keyPX k)).fill (g % 2)).map (·.count)).getD 0
      (((s.pxBegun k g begin_ (begin_ + s.pxTime k count) late).pxWave k begin_ (g % 2) count).pxPins k).pxSampling k) := rfl

theorem State.pxNoted_same (s : State) (k : Fin 64) (frame begin_ : Nat) (late : Bool) :
    s.SameBut (pgPXP k) pxLaunchRegs (s.pxNoted k frame begin_ late) := by
  have hlate : s.SameBut (pgPXP k) pxLaunchRegs (if late then
      ((s.inc (pgPXP k) Pxp.LATE_COUNT).fault (pgPXP k) Pxp.F_LAUNCH_LATE).count (256 + 4 * k + 2) 1 else s) := by
    split
    · exact (((State.SameBut.refl s).setReg _ (by decide) (by decide)).fault (pageInfo_pgPXP k) rfl (by decide)).count
    · exact .refl s
  exact ((((hlate.setReg _ (by decide) (by decide)).setReg _ (by decide) (by decide)).setReg _ (by decide) (by decide)).setReg _
    (by decide) (by decide)).setReg _ (by decide) (by decide)

theorem State.pxNoted_frame (s : State) (k frame begin_ : Nat) (late : Bool) :
    (s.pxNoted k frame begin_ late).nat (pgPXP k) Pxp.EMIT_FRAME = frame % 2 ^ 32 := by
  have hreg : (s.pxNoted k frame begin_ late).reg (pgPXP k) Pxp.EMIT_FRAME = BitVec.ofNat 32 frame := by
    simp only [State.pxNoted, State.setTimeRegs, State.setNat_eq]
    rw [State.reg_setReg_off _ (by decide), State.reg_setReg_off _ (by decide), State.reg_setReg_off _ (by decide),
      State.reg_setReg_off _ (by decide), State.reg_setReg_self]
  rw [State.nat, hreg, BitVec.toNat_ofNat]

/-- The samples to come change nothing else of the port. -/
theorem State.pxSampling_leaves (s : State) (k : Nat) : let t := s.pxSampling k
    (t.portOf (keyPX k)).emit = (s.portOf (keyPX k)).emit ∧ (t.portOf (keyPX k)).emitted = (s.portOf (keyPX k)).emitted ∧
    t.launch = s.launch ∧ t.live = s.live ∧ t.out = s.out := by
  unfold State.pxSampling
  dsimp only
  split
  · exact ⟨rfl, rfl, rfl, rfl, rfl⟩
  · rw [State.portOf_setPort]
    exact ⟨rfl, rfl, rfl, rfl, rfl⟩

/-- A port in emission has the form, the slots and the grid of before. -/
theorem State.pxBegun_leaves (s : State) (k : Fin 64) (g begin_ stop : Nat) (late : Bool) : let t := s.pxBegun k g begin_ stop late
    t.pxWaves k = s.pxWaves k ∧ t.gridAt = s.gridAt ∧ t.launch = s.launch ∧ t.out = s.out := by
  have hnoted := s.pxNoted_same k ((((s.portOf (keyPX k)).fill (g % 2)).map (·.frame)).getD g) begin_ late
  have hregs : ∀ off ∈ pxLaunchRegs, off < Pxp.PX_MODE ∨ Pxp.EMIT_BITS ≤ off := by decide
  unfold State.pxBegun
  dsimp only
  generalize s.pxNoted k _ begin_ late = t at *
  refine ⟨?_, hnoted.gridAt (by simp only [pgTLN, pgPXP]; omega), hnoted.part State.launch, hnoted.part State.out⟩
  funext x slot count
  refine State.pxWaves_congr (t := t.setPort _ _) (fun off hlo hhi => ?_) (hnoted.part State.mem) (hnoted.part State.boot) ?_
    x slot count
  · have ho : off < 0x1000 := by simp only [Pxp.EMIT_BITS] at hhi; omega
    exact hnoted.regs _ off ho (countKey_pxp k ho) fun _ hmem => by have := hregs off hmem; omega
  · have hpage : isPortPage (pgPXP (k + 1)) := by simp only [isPortPage, pgPXP, pgETH]; omega
    exact congrArg (bits · (1, 0)) (hnoted.regs _ _ (by decide) (countKey_port hpage (by decide)) fun _ => by decide)

theorem State.pxBegun_record (s : State) (k g begin_ stop : Nat) (late : Bool) : let t := s.pxBegun k g begin_ stop late
    let x := s.portOf (keyPX k)
    t.portOf (keyPX k) = { x with emit := some ⟨g, g % 2, stop⟩, emitted := some g } ∧
    t.nat (pgPXP k) Pxp.EMIT_FRAME = ((x.fill (g % 2)).map (·.frame)).getD g % 2 ^ 32 := by
  have hframe := s.pxNoted_frame k ((((s.portOf (keyPX k)).fill (g % 2)).map (·.frame)).getD g) begin_ late
  unfold State.pxBegun
  dsimp only
  generalize s.pxNoted k _ begin_ late = t at *
  exact ⟨State.portOf_setPort _ _ _, hframe⟩

/-- A frame begins: the port's record, EMIT_FRAME, and the waves on its balls. -/
theorem State.pxEmit_leaves (s : State) (k : Fin 64) (g begin_ : Nat) (late : Bool) :
    let x := s.portOf (keyPX k)
    let count := ((x.fill (g % 2)).map (·.count)).getD 0
    let t := s.pxEmit k g begin_ late
    (t.portOf (keyPX k)).emit = some ⟨g, g % 2, begin_ + s.pxTime k count⟩ ∧ (t.portOf (keyPX k)).emitted = some g ∧
    t.launch = s.launch ∧ t.nat (pgPXP k) Pxp.EMIT_FRAME = (((x.fill (g % 2)).map (·.frame)).getD g) % 2 ^ 32 ∧
    ∃ pins, t.out = pins ++ ((s.pxWaves k begin_ (g % 2) count).map
        (fun w => (Output.px w.1 w.2).placed s.gridAt)).reverse ++ s.out ∧ ∀ o ∈ pins, o.isPin := by
  dsimp only
  rw [State.pxEmit_eq]
  dsimp only
  generalize (((s.portOf (keyPX k)).fill (g % 2)).map (·.count)).getD 0 = count
  generalize hstop : begin_ + s.pxTime k count = stop
  obtain ⟨hwaves, hgrid, hlaunch, hout⟩ := s.pxBegun_leaves k g begin_ stop late
  obtain ⟨hport, hframe⟩ := s.pxBegun_record k g begin_ stop late
  generalize s.pxBegun k g begin_ stop late = t at *
  rw [State.pxWave, State.foldl_emitEdges, hwaves, hgrid, hout]
  generalize hb : ({ t with
    out := ((s.pxWaves k begin_ (g % 2) count).map (fun w => (Output.px w.1 w.2).placed s.gridAt)).reverse ++ s.out } : State) = b
  obtain ⟨hemit, hemitted, hsame, hlive, hsent⟩ := (b.pxPins k).pxSampling_leaves k
  have hmoves : b.MovesPins (b.pxPins k) := (State.MovesPins.refl b).pxPins k
  have hrecord : (b.pxPins k).portOf (keyPX k) = { s.portOf (keyPX k) with emit := some ⟨g, g % 2, stop⟩, emitted := some g } := by
    rw [State.portOf_congr hmoves.port, ← hb]
    exact hport
  obtain ⟨pins, hpins, hpin⟩ := hmoves.out
  refine ⟨by rw [hemit, hrecord], by rw [hemitted, hrecord], ?_, ?_, pins, ?_, hpin⟩
  · rw [hsame, hmoves.launch, ← hb]
    exact hlaunch
  · rw [State.nat, State.reg, hlive]
    refine Eq.trans ?_ hframe
    refine congrArg BitVec.toNat ((hmoves.regs _ _ (by decide) (by decide) (countKey_pxp k (by decide))).trans ?_)
    rw [← hb]
    rfl
  · rw [hsent, hpins, ← hb, List.append_assoc]

/-- The packet of content `g` is in emission until `stop`, and TX has not changed. -/
def State.dmxBegun (s : State) (k g stop : Nat) (late : Bool) : State :=
  let p := pgDMX k
  let s1 := if late then (s.inc p Dmx.LATE_COUNT).fault p Dmx.F_LAUNCH_LATE else s
  s1.setPort (keyDMX k) { s.portOf (keyDMX k) with
    emit := some ⟨g, g % 2, stop⟩, emitted := some g
    samples := if (s.dmxPin k).2 then 11 * (s.fld p Dmx.DMX_FRAME (9, 0) + 1) else 0 }

theorem State.dmxEmit_eq (s : State) (k g begin_ : Nat) (late : Bool) : s.dmxEmit k g begin_ late
    = ((s.dmxBegun k g (begin_ + s.dmxTime k * LU) late).emitEdges (.dmx k (s.dmxPacket k begin_ (g % 2)))).dmxRefresh k := rfl

theorem State.dmxBegun_leaves (s : State) (k : Fin 12) (g stop : Nat) (late : Bool) : let t := s.dmxBegun k g stop late
    (t.portOf (keyDMX k)).emit = some ⟨g, g % 2, stop⟩ ∧ (t.portOf (keyDMX k)).emitted = some g ∧
    t.gridAt = s.gridAt ∧ t.launch = s.launch ∧ t.out = s.out := by
  have hlate : s.SameBut (pgDMX k) [Dmx.LATE_COUNT, PAGE_FAULT]
      (if late then (s.inc (pgDMX k) Dmx.LATE_COUNT).fault (pgDMX k) Dmx.F_LAUNCH_LATE else s) := by
    split
    · exact ((State.SameBut.refl s).setReg _ (by decide) (by decide)).fault (pageInfo_pgDMX k) rfl (by decide)
    · exact .refl s
  unfold State.dmxBegun
  dsimp only
  generalize (if late then (s.inc (pgDMX k) Dmx.LATE_COUNT).fault (pgDMX k) Dmx.F_LAUNCH_LATE else s) = t at *
  exact ⟨congrArg PortState.emit (State.portOf_setPort _ _ _), congrArg PortState.emitted (State.portOf_setPort _ _ _),
    hlate.gridAt (by simp only [pgTLN, pgDMX]; omega), hlate.part State.launch, hlate.part State.out⟩

/-- A packet begins: the port's record, and the changes of TX. -/
theorem State.dmxEmit_leaves (s : State) (k : Fin 12) (g begin_ : Nat) (late : Bool) : let t := s.dmxEmit k g begin_ late
    (t.portOf (keyDMX k)).emit = some ⟨g, g % 2, begin_ + s.dmxTime k * LU⟩ ∧ (t.portOf (keyDMX k)).emitted = some g ∧
    t.launch = s.launch ∧
    ∃ pins, t.out = pins ++ (Output.dmx k (s.dmxPacket k begin_ (g % 2))).placed s.gridAt :: s.out ∧ ∀ o ∈ pins, o.isPin := by
  rw [State.dmxEmit_eq]
  generalize begin_ + s.dmxTime k * LU = stop
  obtain ⟨hemit, hemitted, hgrid, hlaunch, hout⟩ := s.dmxBegun_leaves k g stop late
  generalize s.dmxBegun k g stop late = t at *
  generalize hb : t.emitEdges (.dmx k (s.dmxPacket k begin_ (g % 2))) = b
  have hport : b.portOf (keyDMX k) = t.portOf (keyDMX k) := by rw [← hb]; rfl
  have hsame : b.launch = s.launch := by rw [← hb]; exact hlaunch
  have hsent : b.out = (Output.dmx k (s.dmxPacket k begin_ (g % 2))).placed s.gridAt :: s.out := by
    rw [← hb, State.emitEdges, State.emit_out, hgrid, hout]
  have hmoves : b.MovesPins (b.dmxRefresh k) := (State.MovesPins.refl b).dmxRefresh k
  obtain ⟨pins, hpins, hpin⟩ := hmoves.out
  dsimp only
  rw [State.portOf_congr hmoves.port, hport, hpins, hsent]
  exact ⟨hemit, hemitted, hmoves.launch.trans hsame, pins, rfl, hpin⟩

/-- The launch made is owed no longer. -/
theorem State.launches_dropLaunch {t : State} {key : Nat} {l : Launch} (ht : t.launch = (a.dropLaunch key l).launch)
    (h : a.launch = s.launch) : t.launches key = (s.launches key).filter (fun x => x != l) := by
  rw [State.launches_congr ht, State.dropLaunch, State.launches_setLaunches, State.launches_congr h]

theorem State.pxLaunch_reached {k g : Nat} {l : Launch} (hl : earliest (s.launches (keyPX k)) = some l)
    (hc : l.choice = some (some g)) (hidle : (s.portOf (keyPX k)).emit = none)
    (hreach : s.reach (timeOfUnits (gridUp (max l.at_ (s.portOf (keyPX k)).lastEnd))) = some a)
    (hmay : a.mayLaunch (keyPX k) (pgPXP k) l.swath = true) : s.pxLaunch k
    = (let begin_ := gridUp (max l.at_ (s.portOf (keyPX k)).lastEnd)
      (a.dropLaunch (keyPX k) l).pxEmit k g begin_ (decide (l.at_ < begin_))) := by
  simp [State.pxLaunch, hl, hc, hidle, State.atTime_reached hreach, hmay]

theorem State.dmxLaunch_reached {k g : Nat} {l : Launch} (hl : earliest (s.launches (keyDMX k)) = some l)
    (hc : l.choice = some (some g)) (hidle : (s.portOf (keyDMX k)).emit = none)
    (hreach : s.reach (timeOfUnits (gridUp (max l.at_ (s.portOf (keyDMX k)).lastEnd))) = some a)
    (hmay : a.mayLaunch (keyDMX k) (pgDMX k) l.swath = true) : s.dmxLaunch k
    = (let begin_ := gridUp (max l.at_ (s.portOf (keyDMX k)).lastEnd)
      (a.dropLaunch (keyDMX k) l).dmxEmit k g begin_ (decide (l.at_ < begin_))) := by
  simp [State.dmxLaunch, hl, hc, hidle, State.atTime_reached hreach, hmay]

end

/-! ### The end of emission (R295, R298, R313) -/

section
variable {s t a : State}

theorem State.SparesPorts.outputStopped (h : s.SparesPorts t) (key page : Nat) : s.SparesPorts (t.outputStopped key page) :=
  State.SparesPorts.ite ((h.setStatus page (putBits (t.reg page PAGE_STATUS) (1, 0) 2)).trans ⟨rfl, fun _ _ _ _ _ => rfl⟩) h

/-- Samples that differed add to their register. -/
theorem State.samplesDiffer_leaves (s : State) {page off : Nat} {i : PageInfo} (hi : pageInfo page = some i)
    (hb : i.block.reported = false) (hpage : isPortPage page) (hoff : plainReg off) (f n : Nat) :
    let t := s.samplesDiffer page off f true n
    t.reg page off = s.reg page off + BitVec.ofNat 32 n ∧ s.SameBut page [off, PAGE_FAULT] t := by
  obtain ⟨ho, -, hfault⟩ := hoff
  unfold State.samplesDiffer
  dsimp only
  split
  · next hnone =>
    have hzero : n = 0 := by simpa using hnone
    exact ⟨by rw [hzero]; simp, .refl s⟩
  · have hset := (State.SameBut.refl (p := page) (l := [off, PAGE_FAULT]) s).setReg (s.reg page off + BitVec.ofNat 32 n) (by simp) ho
    refine ⟨?_, hset.fault hi hb (by simp)⟩
    have hraised := (State.SameBut.refl (p := page) (l := [PAGE_FAULT])
      (s.setReg page off (s.reg page off + BitVec.ofNat 32 n))).fault (n := f) hi hb (by simp)
    exact (hraised.regs _ _ ho (countKey_port hpage ho) fun _ => by simpa using hfault).trans (State.reg_setReg_self _ _ _ _)

/-- An output's frame has ended at `stop`: `n` of its samples differed, and it counts in FRAMES. -/
def State.emissionOver (s : State) (key page conflicts bit counter frames stop n : Nat) : State :=
  let s0 := s.countConflicts key page conflicts bit counter n
  (s0.setPort key { s0.portOf key with emit := none, lastEnd := stop }).inc page frames

theorem State.emissionOver_leaves (s : State) {page conflicts frames : Nat} {i : PageInfo} (hi : pageInfo page = some i)
    (hb : i.block.reported = false) (hpage : isPortPage page) (hc : plainReg conflicts) (hf : plainReg frames)
    (hne : frames ≠ conflicts) (key bit counter stop n : Nat) : let t := s.emissionOver key page conflicts bit counter frames stop n
    (t.portOf key).emit = none ∧ (t.portOf key).lastEnd = stop ∧ t.reg page frames = s.reg page frames + 1 ∧
    t.reg page conflicts = s.reg page conflicts + BitVec.ofNat 32 (min n (s.portOf key).samples) := by
  have hkc := countKey_port hpage hc.1
  have hkf := countKey_port hpage hf.1
  unfold State.emissionOver State.countConflicts
  dsimp only
  generalize min n (s.portOf key).samples = m
  generalize hcut : s.setPort key { s.portOf key with samples := 0 } = b
  have hbreg (off : Nat) : b.reg page off = s.reg page off := by rw [← hcut]; rfl
  obtain ⟨hadd, hsame⟩ := b.samplesDiffer_leaves hi hb hpage hc bit m
  generalize b.samplesDiffer page conflicts bit true m = d at *
  have hcount := d.count_same counter m
  generalize d.count counter m = e at *
  have hframes : e.reg page frames = s.reg page frames :=
    (hcount.reg hkf).trans ((hsame.regs _ _ hf.1 hkf fun _ => by simp [hne, hf.2.2]).trans (hbreg _))
  exact ⟨congrArg PortState.emit (State.portOf_setPort _ _ _), congrArg PortState.lastEnd (State.portOf_setPort _ _ _),
    (State.reg_setReg_self _ _ _ _).trans (congrArg (· + 1) hframes),
    (State.reg_setReg_off _ hne.symm _).trans ((hcount.reg hkc).trans (hadd.trans (by rw [hbreg])))⟩

/-- What follows the end of an emission at the pins leaves the port's record and its two counts. -/
theorem State.emissionOver_spared {page conflicts frames : Nat} {i : PageInfo} (hi : pageInfo page = some i)
    (hb : i.block.reported = false) (hpage : isPortPage page) (hc : plainReg conflicts) (hf : plainReg frames)
    (hne : frames ≠ conflicts) {key bit counter stop n : Nat} (hport : a.port = s.port)
    (ht : (a.emissionOver key page conflicts bit counter frames stop n).SparesPorts t) :
    (t.portOf key).emit = none ∧ (t.portOf key).lastEnd = stop ∧ t.reg page frames = a.reg page frames + 1 ∧
    t.reg page conflicts = a.reg page conflicts + BitVec.ofNat 32 (min n (s.portOf key).samples) := by
  obtain ⟨hnone, hend, hframes, hconflicts⟩ := a.emissionOver_leaves hi hb hpage hc hf hne key bit counter stop n
  rw [State.portOf_congr hport] at hconflicts
  rw [State.portOf_congr ht.port, ht.regs _ _ hf.1 hf.2.1 (countKey_port hpage hf.1),
    ht.regs _ _ hc.1 hc.2.1 (countKey_port hpage hc.1)]
  exact ⟨hnone, hend, hframes, hconflicts⟩

theorem State.pxEnd_spares {k : Nat} {e : Emission} (hemit : (s.portOf (keyPX k)).emit = some e)
    (hreach : s.reach (timeOfUnits e.stop) = some a) (n : Nat) :
    (a.emissionOver (keyPX k) (pgPXP k) Pxp.CONFLICTS Pxp.F_PIN_CONFLICT (256 + 4 * k + 3) Pxp.FRAMES e.stop n).SparesPorts
      (s.pxEnd k n) := by
  rw [State.pxEnd, hemit]
  dsimp only
  rw [State.atTime_reached hreach]
  have hover := (State.SparesPorts.refl (a.emissionOver (keyPX k) (pgPXP k) Pxp.CONFLICTS Pxp.F_PIN_CONFLICT (256 + 4 * k + 3)
    Pxp.FRAMES e.stop n)).same (State.count_same _ (256 + 4 * k) 1)
  exact ((State.SparesPorts.ite (hover.same (State.irq_same _ (144 + k)).count) hover).outputStopped _ _).trans
    ((State.MovesPins.refl _).pxPins k).toSparesPorts

theorem State.dmxEnd_spares {k : Nat} {e : Emission} (hemit : (s.portOf (keyDMX k)).emit = some e)
    (hreach : s.reach (timeOfUnits e.stop) = some a) (n : Nat) :
    (a.emissionOver (keyDMX k) (pgDMX k) Dmx.LINE_CONFLICTS Dmx.F_LINE_CONFLICT (512 + 4 * k + 3) Dmx.FRAMES e.stop n).SparesPorts
      (s.dmxEnd k n) := by
  rw [State.dmxEnd, hemit]
  dsimp only
  rw [State.atTime_reached hreach]
  have hover := (State.SparesPorts.refl (a.emissionOver (keyDMX k) (pgDMX k) Dmx.LINE_CONFLICTS Dmx.F_LINE_CONFLICT (512 + 4 * k + 3)
    Dmx.FRAMES e.stop n)).same (State.count_same _ (512 + 4 * k) 1)
  have hstopped := (hover.outputStopped (keyDMX k) (pgDMX k)).trans ((State.MovesPins.refl _).dmxRefresh k).toSparesPorts
  exact (State.SparesPorts.ite hover hstopped).trans ((State.MovesPins.refl _).dmxRefresh k).toSparesPorts

end

end Sys2Proof.Machine

open Sys2Proof Sys2Proof.Machine

/-- Settles O26: an event acts in the state that the timeline reaches, whose ports, launches and outputs are those of before. -/
theorem slotsAreEmitted : Obligations.SlotsAreEmitted := by
  refine ⟨fun s a k l hl hreach hmay => ?_, fun s a k l g hl hc hidle hreach hmay => ?_, fun s a k e c hemit hreach => ?_,
    fun s a k l hl hreach hmay => ?_, fun s a k l g hl hc hidle hreach hmay => ?_, fun s a k e c hemit hreach => ?_⟩
  · obtain ⟨-, hlaunch, -⟩ := State.reach_leaves_ports hreach
    have hexec : s.pxSlotCheck k = _ := State.slotCheckAt_reached _ hl hreach hmay
    refine ⟨fun hholds => ?_, fun hlacks => ?_⟩
    · exact congrArg Host.Outcome.next (hexec.trans (by rw [State.pxCheck_holds hholds]))
    · obtain ⟨hcounts, hsame, hchoice⟩ := State.pxCheck_missing k hlacks
      refine ⟨_, congrArg Host.Outcome.next hexec, hcounts, ?_⟩
      rw [State.launches_chooseLaunch (hsame.trans hlaunch), hchoice]
  · obtain ⟨hport, hlaunch, hout⟩ := State.reach_leaves_ports hreach
    have hrecord : (a.dropLaunch (keyPX k) l).portOf (keyPX k) = s.portOf (keyPX k) := State.portOf_congr hport _
    obtain ⟨hemit, hemitted, hsame, hframe, pins, hpins, hpin⟩ := (a.dropLaunch (keyPX k) l).pxEmit_leaves k g
      (gridUp (max l.at_ (s.portOf (keyPX k)).lastEnd)) (decide (l.at_ < gridUp (max l.at_ (s.portOf (keyPX k)).lastEnd)))
    rw [hrecord] at hemit hframe hpins
    rw [State.pxWaves_congr (s := a) (t := a.dropLaunch (keyPX k) l) (fun _ _ _ => rfl) rfl rfl rfl] at hpins
    refine ⟨_, congrArg Host.Outcome.next (State.pxLaunch_reached hl hc hidle hreach hmay), hemit, hemitted,
      State.launches_dropLaunch hsame hlaunch, hframe, pins, hpins.trans ?_, hpin⟩
    exact congrArg (_ ++ ·) hout
  · obtain ⟨hport, -, -⟩ := State.reach_leaves_ports hreach
    exact ⟨_, rfl, State.emissionOver_spared (pageInfo_pgPXP k) rfl (pxp_isPort k) (by decide) (by decide) (by decide) hport
      (State.pxEnd_spares hemit hreach c)⟩
  · obtain ⟨-, hlaunch, -⟩ := State.reach_leaves_ports hreach
    have hexec : s.dmxSlotCheck k = _ := State.slotCheckAt_reached _ hl hreach hmay
    refine ⟨fun hholds => ?_, fun hlacks => ?_⟩
    · exact congrArg Host.Outcome.next (hexec.trans (by rw [State.checkSlot_holds hholds]))
    · obtain ⟨hcounts, hsame⟩ := a.slotMissed_leaves (pageInfo_pgDMX k) rfl (dmx_isPort k)
        (by decide : plainReg Dmx.UNDERRUNS) Dmx.F_UNDERRUN
      rw [State.checkSlot_missing hlacks] at hexec
      exact ⟨_, congrArg Host.Outcome.next hexec, hcounts, State.launches_chooseLaunch (hsame.trans hlaunch) _ _⟩
  · obtain ⟨hport, hlaunch, hout⟩ := State.reach_leaves_ports hreach
    obtain ⟨hemit, hemitted, hsame, pins, hpins, hpin⟩ := (a.dropLaunch (keyDMX k) l).dmxEmit_leaves k g
      (gridUp (max l.at_ (s.portOf (keyDMX k)).lastEnd)) (decide (l.at_ < gridUp (max l.at_ (s.portOf (keyDMX k)).lastEnd)))
    refine ⟨_, congrArg Host.Outcome.next (State.dmxLaunch_reached hl hc hidle hreach hmay), hemit, hemitted,
      State.launches_dropLaunch hsame hlaunch, pins, hpins.trans ?_, hpin⟩
    exact congrArg (fun x => pins ++ _ :: x) hout
  · obtain ⟨hport, -, -⟩ := State.reach_leaves_ports hreach
    exact ⟨_, rfl, State.emissionOver_spared (pageInfo_pgDMX k) rfl (dmx_isPort k) (by decide) (by decide) (by decide) hport
      (State.dmxEnd_spares hemit hreach c)⟩

end

section
/-!
DMX reception and the RDM controller (R314 to R323), and O27.
-/
set_option Elab.async false
namespace Sys2Proof.Machine

/-! ### Transactions under interrupts -/

section
variable (s : State)

/-- What a change of a table's values leaves of each of them. -/
theorem Tab.get_map_of {α β : Type} (g : α → β) {f : α → α} (hf : ∀ x, g (f x) = g x) (d : Nat → α) (l : Tab α) (k : Nat) :
    g (Tab.get d (l.map fun e => (e.1, f e.2)) k) = g (Tab.get d l k) := by
  induction l with
  | nil => rfl
  | cons e l ih =>
    simp only [List.map_cons, Tab.get]
    split
    · exact hf e.2
    · exact ih

theorem State.Keeps.dmx_eq {l : List Instr} {s t : State} {m : Nat} {c : Bool} (h : State.Keeps ⟨l, s, m, c⟩ t)
    (hm : m.testBit 21 = true := by decide) : t.dmx = s.dmx := h.dmxIs hm

theorem State.Keeps.red_eq {l : List Instr} {s t : State} {m : Nat} {c : Bool} (h : State.Keeps ⟨l, s, m, c⟩ t)
    (hm : m.testBit 25 = true := by decide) : t.red = s.red := h.redIs hm

theorem State.Keeps.merge_eq {l : List Instr} {s t : State} {m : Nat} {c : Bool} (h : State.Keeps ⟨l, s, m, c⟩ t)
    (hm : m.testBit 26 = true := by decide) : t.merge = s.merge := h.mergeIs hm

theorem State.dmxOf_congr {s t : State} (h : t.dmx = s.dmx) (k : Nat) : t.dmxOf k = s.dmxOf k := by
  rw [State.dmxOf, h, State.dmxOf]

@[simp] theorem State.dmxOf_setDmx (k : Nat) (v : DmxState) : (s.setDmx k v).dmxOf k = v := Tab.get_set_self _ _ _ _

/-- The transaction of a DMX port, if any. -/
abbrev State.dmxRun (k : Nat) : Option RdmRun := (s.dmxOf k).run

/-- The end of Doze moves the loss timers alone (R609). -/
theorem State.dmxRun_leaveDoze (seen pins k : Nat) : (s.leaveDoze seen pins).dmxRun k = s.dmxRun k := by
  have hresume (a : State) : a.fieldResume.dmx = a.dmx :=
    (State.fieldResume_keeps (a.keeps_parts 0x200000) (Keep.off_of_and (by decide))).dmx_eq
  unfold State.leaveDoze
  rw [State.dmxRun, State.dmxOf_congr (hresume _)]
  exact Tab.get_map_of DmxState.run (f := fun x => { x with lastRx := x.lastRx + (s.tln.now - s.pwr.dozeAt) }) (fun _ => rfl) _ _ _

theorem State.notifyGroups_dmx (t : State) : (s.notifyGroups t).dmx = t.dmx := by
  refine List.foldlRecOn (motive := fun a : State => a.dmx = t.dmx) _ _ rfl fun a ha g _ => ?_
  dsimp only
  split
  · exact ha
  · exact ha

theorem State.occur_dmx (n : Nat) : (s.occur n).dmx = s.dmx :=
  (State.occur_keeps (s.keeps_parts 0x200000) (Keep.off_of_and (by decide))).dmx_eq

theorem State.dmxRun_icuChange {f : State → State} (hf : (f s).dmx = s.dmx) (k : Nat) : (s.icuChange f).dmxRun k = s.dmxRun k := by
  have hnotify : (s.notifyGroups (f s)).dmxRun k = s.dmxRun k := by
    rw [State.dmxRun, State.dmxOf_congr ((s.notifyGroups_dmx _).trans hf)]
  unfold State.icuChange
  dsimp only
  split
  · rw [State.dmxRun, State.dmxOf_congr ((State.notifyGroups_dmx _ _).trans (State.occur_dmx _ _))]
    exact (State.dmxRun_leaveDoze _ _ _ _).trans hnotify
  · exact hnotify

theorem State.dmxRun_irq (n k : Nat) : (s.irq n).dmxRun k = s.dmxRun k := s.dmxRun_icuChange (s.occur_dmx n) k

theorem State.dmxRun_setLevel (n : Nat) (b : Bool) (k : Nat) : (s.setLevel n b).dmxRun k = s.dmxRun k := by
  unfold State.setLevel
  dsimp only
  split
  · rfl
  split
  · rfl
  split
  · split <;> rfl
  split
  · split
    · exact State.dmxRun_icuChange _ (State.occur_dmx _ _) _
    · rfl
  split
  · rfl
  · exact State.dmxRun_icuChange _ rfl _

theorem State.dmxRun_count (n m k : Nat) : (s.count n m).dmxRun k = s.dmxRun k := by
  unfold State.count
  split
  · rfl
  dsimp only
  split
  · rfl
  unfold State.counterWrapped
  dsimp only
  split
  · exact State.dmxRun_irq _ _ _
  · rfl

end

/-! ### The relation -/

/-- A register of no DMX port. -/
abbrev notDmx (page off : Nat) : Prop := ¬(pgDMX 0 ≤ regKey page off / 0x1000 ∧ regKey page off / 0x1000 < pgDMX 12)

/-- The pages behind those of the DMX ports are none of theirs. -/
theorem notDmx_of_le {page off : Nat} (h : pgETH 0 ≤ page) : notDmx page off := by
  simp only [notDmx, regKey, pgDMX, pgETH] at *
  omega

theorem notDmx_que {j off : Nat} : notDmx (pgQUE j) off := notDmx_of_le (by simp only [pgETH, pgQUE]; omega)

theorem countKey_dmx (k : Fin 12) {off : Nat} (ho : off < 0x1000) : countKey (regKey (pgDMX k) off) = false :=
  countKey_port (dmx_isPort k) ho

/-- The registers of a DMX port are as before, but for what PAGE_STATUS tells of the page and its pin, and so is its transaction. -/
structure State.SparesDmx (k : Fin 12) (s t : State) : Prop where
  regs : ∀ off, off < 0x1000 → off ≠ PAGE_STATUS → t.reg (pgDMX k) off = s.reg (pgDMX k) off
  status : ∀ f : Field, Dmx.S_DRIVEN.1 < f.2 → t.sts (pgDMX k) f = s.sts (pgDMX k) f
  run : t.dmxRun k = s.dmxRun k

section
variable {k : Fin 12} {s t u : State}

theorem State.SparesDmx.refl (s : State) : s.SparesDmx k s := ⟨fun _ _ _ => rfl, fun _ _ => rfl, rfl⟩

theorem State.SparesDmx.trans (h : s.SparesDmx k t) (g : t.SparesDmx k u) : s.SparesDmx k u :=
  ⟨fun off ho hs => (g.regs off ho hs).trans (h.regs off ho hs), fun f hf => (g.status f hf).trans (h.status f hf), g.run.trans h.run⟩

/-- Every register of the port's page is as before. -/
theorem State.SparesDmx.of_page (hreg : ∀ off, off < 0x1000 → t.reg (pgDMX k) off = s.reg (pgDMX k) off)
    (hrun : t.dmxRun k = s.dmxRun k) : s.SparesDmx k t :=
  ⟨fun off ho _ => hreg off ho, fun f _ => congrArg (bits · f) (hreg PAGE_STATUS (by decide)), hrun⟩

/-- A field of a register that is left. -/
theorem State.SparesDmx.fld (h : s.SparesDmx k t) {off : Nat} (f : Field) (ho : off < 0x1000 ∧ off ≠ PAGE_STATUS := by decide) :
    t.fld (pgDMX k) off f = s.fld (pgDMX k) off f := congrArg (bits · f) (h.regs off ho.1 ho.2)

/-- An update of parts other than the registers and the DMX ports. -/
theorem State.SparesDmx.upd (h : s.SparesDmx k t) (hlive : u.live = t.live) (hdmx : u.dmx = t.dmx) : s.SparesDmx k u :=
  h.trans (.of_page (fun off _ => by rw [State.reg, hlive, State.reg]) (congrArg DmxState.run (State.dmxOf_congr hdmx k)))

theorem State.SparesDmx.setReg (h : s.SparesDmx k t) {page off : Nat} {v : Word} (hk : notDmx page off) :
    s.SparesDmx k (t.setReg page off v) := by
  refine h.trans (.of_page (fun o ho => State.reg_setReg_ne _ _ fun he => hk ?_) rfl)
  have hk12 := k.isLt
  rw [← he]
  simp only [regKey, pgDMX]
  omega

/-- A field of the port's PAGE_STATUS up to DRIVEN. -/
theorem State.SparesDmx.setSts (h : s.SparesDmx k t) {f : Field} {n : Nat} (hf : Field.fits f) (hlow : f.1 ≤ Dmx.S_DRIVEN.1) :
    s.SparesDmx k (t.setSts (pgDMX k) f n) :=
  h.trans ⟨fun _ _ hs => State.reg_setReg_off _ hs _,
    fun _ hg => State.sts_setSts_apart _ hf (.inl (Nat.lt_of_le_of_lt hlow hg)) _ _, rfl⟩

theorem State.SparesDmx.same (h : s.SparesDmx k t) (g : t.SameButCount u) (hrun : u.dmxRun k = t.dmxRun k) : s.SparesDmx k u :=
  h.trans (.of_page (fun _ ho => g.reg (countKey_dmx k ho)) hrun)

theorem State.SparesDmx.irq (h : s.SparesDmx k t) {n : Nat} : s.SparesDmx k (t.irq n) :=
  h.same (t.irq_same n).count (t.dmxRun_irq n k)

theorem State.SparesDmx.count (h : s.SparesDmx k t) {n m : Nat} : s.SparesDmx k (t.count n m) :=
  h.same (t.count_same n m) (t.dmxRun_count n m k)

theorem State.SparesDmx.setLevel (h : s.SparesDmx k t) {n : Nat} {b : Bool} : s.SparesDmx k (t.setLevel n b) :=
  h.same (t.setLevel_same n b).count (t.dmxRun_setLevel n b k)

theorem State.SparesDmx.ite {p : Prop} [Decidable p] (h : s.SparesDmx k t) (g : s.SparesDmx k u) :
    s.SparesDmx k (if p then t else u) := by
  split
  · exact h
  · exact g

/-- One operation for each element of a list. -/
theorem State.SparesDmx.foldl {α : Type} {f : State → α → State} {l : List α} (h : s.SparesDmx k t)
    (hf : ∀ x (a : State), a.SparesDmx k (f a x)) : s.SparesDmx k (l.foldl f t) := by
  induction l generalizing t with
  | nil => exact h
  | cons x l ih => exact ih (h.trans (hf x t))

/-- A fault of a page that reports to no other one, and is no DMX port's. -/
theorem State.SparesDmx.fault (h : s.SparesDmx k t) {page n : Nat} {i : PageInfo} (hi : pageInfo page = some i)
    (hb : i.block.reported = false) (hk : notDmx page PAGE_FAULT) : s.SparesDmx k (t.fault page n) := by
  have hset : s.SparesDmx k (t.setFlag page PAGE_FAULT n true) := h.setReg hk
  rw [t.fault_eq_faultHere hi hb, State.faultHere, hi]
  dsimp only
  split
  · exact hset.ite hset.irq
  · exact hset

end

/-! ### Queues and the event recorder -/

section
variable {k : Fin 12} (s : State)

theorem State.queueLevels_sparesDmx (j : Nat) : s.SparesDmx k (s.queueLevels j) :=
  ((State.SparesDmx.refl s).foldl fun _ a => (State.SparesDmx.refl a).setReg notDmx_que).setLevel

theorem State.queueError_sparesDmx (j q b : Nat) : s.SparesDmx k (s.queueError j q b) :=
  ((State.SparesDmx.refl s).setReg notDmx_que).irq

theorem State.queueDrop_sparesDmx (j q : Nat) : s.SparesDmx k (s.queueDrop j q) := (State.SparesDmx.refl s).setReg notDmx_que

theorem State.setQueue_sparesDmx (j q : Nat) (x : Queue) : s.SparesDmx k (s.setQueue j q x) := (State.SparesDmx.refl s).upd rfl rfl

theorem State.queuePtrReset_sparesDmx (j q : Nat) (busy : Bool) : s.SparesDmx k (s.queuePtrReset j q busy) :=
  (((s.setQueue_sparesDmx j q _).setReg notDmx_que).trans (State.queueError_sparesDmx _ j q 9)).trans
    (State.queueLevels_sparesDmx _ j)

theorem State.queuePut_sparesDmx (j q depth : Nat) (d : List Byte) (last : Bool) : s.SparesDmx k (s.queuePut j q depth d last) := by
  have hset (a : State) (x : Queue) : a.SparesDmx k (a.setQueue j q x) := a.setQueue_sparesDmx j q x
  have hdrop (x : Queue) : s.SparesDmx k ((s.queueDrop j q).setQueue j q x) := (s.queueDrop_sparesDmx j q).trans (hset _ x)
  have herror := s.queueError_sparesDmx (k := k) j q 8
  have hrefused (x y : Queue) : s.SparesDmx k (if last then ((s.queueError j q 8).queueDrop j q).setQueue j q x
      else (s.queueError j q 8).setQueue j q y) :=
    ((herror.trans (State.queueDrop_sparesDmx _ j q)).trans (hset _ x)).ite (herror.trans (hset _ y))
  have hplaced (x y : Queue) : s.SparesDmx k (if last then (s.setQueue j q x).inc (pgQUE j) (Que.Q_PACKETS q)
      else s.setQueue j q y) := ((hset s x).setReg notDmx_que).ite (hset s y)
  have hkeep := State.SparesDmx.refl (k := k) s
  exact (hdrop _).ite (((hset s _).ite hkeep).ite (((hdrop _).ite hkeep).ite ((hrefused _ _).ite (hplaced _ _))))

theorem State.evrLost_sparesDmx : s.SparesDmx k s.evrLost := by
  have hlost : s.SparesDmx k ((s.inc pgEVR Evr.LOST_TOTAL).fault pgEVR Evr.F_LOST) :=
    ((State.SparesDmx.refl s).setReg (by decide)).fault pageInfo_pgEVR rfl (by decide)
  refine State.SparesDmx.count (hlost.upd ?_ ?_) <;> rfl

theorem State.evrPushSound_sparesDmx (code page kind group : Nat) : s.SparesDmx k (s.evrPushSound code page kind group) := by
  have hput := (s.queuePut_sparesDmx (k := k) 3 3 64 (pendingEntry code page kind group (stamp32 s.tln.now)) true).trans
    (State.queueLevels_sparesDmx _ 3)
  exact (hput.trans (State.evrLost_sparesDmx _)).ite (hput.setReg (by decide))

theorem State.evrPush_sparesDmx (code page kind group : Nat) : s.SparesDmx k (s.evrPush code page kind group) :=
  (s.evrPushSound_sparesDmx code page kind group).ite
    (((s.queuePtrReset_sparesDmx 3 3 false).trans (State.evrLost_sparesDmx _)).trans (State.evrPushSound_sparesDmx _ _ _ _ _))

theorem State.trigger_sparesDmx (code page : Nat) : s.SparesDmx k (s.trigger code page) := by
  have hdrop : s.SparesDmx k ((s.inc pgEVR Evr.DROPPED_TOTAL).fault pgEVR Evr.F_DROPPED) :=
    ((State.SparesDmx.refl s).setReg (by decide)).fault pageInfo_pgEVR rfl (by decide)
  have hspent (x : Tab Nat) : s.SparesDmx k { s with evr := { s.evr with spent := x } } := (State.SparesDmx.refl s).upd rfl rfl
  unfold State.trigger
  split
  · exact .refl s
  dsimp only
  split
  · exact .refl s
  split
  · exact hdrop.upd rfl rfl
  split
  · exact State.SparesDmx.upd ((hspent _).setReg (by decide)) rfl rfl
  · exact (hspent _).trans (State.evrPush_sparesDmx _ _ _ _ _)

theorem State.queueWrite_sparesDmx (j q : Nat) (d : List Byte) (last : Bool) : s.SparesDmx k (s.queueWrite j q d last) := by
  unfold State.queueWrite
  split
  · exact .refl s
  · exact ((s.queuePut_sparesDmx _ _ _ _ _).trans (State.queueLevels_sparesDmx _ _)).ite
      ((s.queuePtrReset_sparesDmx _ _ _).trans (State.trigger_sparesDmx _ _ _))

theorem State.queuePacket_sparesDmx (j q : Nat) (d : List Byte) : s.SparesDmx k (s.queuePacket j q d) := by
  have hfrom (w n : Nat) (l : List Byte) (a : State) : a.SparesDmx k (a.queuePacketFrom j q w l n) := by
    induction n generalizing l a with
    | zero => exact .refl a
    | succ n ih => exact (a.queueWrite_sparesDmx _ _ _ _).ite ((a.queueWrite_sparesDmx _ _ _ _).trans (ih _ _))
  unfold State.queuePacket
  split
  · exact .refl s
  · exact hfrom _ _ _ _

theorem State.mergeQueue_sparesDmx (e : List Byte) : s.SparesDmx k (s.mergeQueue e) :=
  have hput := s.queuePacket_sparesDmx (k := k) 3 0 e
  ((hput.setReg (by decide)).fault pageInfo_pgFIX rfl (by decide)).ite hput

end

/-! ### The Tsudex link and hardware writes to memory -/

section
variable {k : Fin 12} (s : State)

theorem State.setRed_sparesDmx (r : RedState) : s.SparesDmx k (s.setRed r) := (State.SparesDmx.refl s).upd rfl rfl

theorem State.tsxBacklog_sparesDmx : s.SparesDmx k s.tsxBacklog := (State.SparesDmx.refl s).setReg (by decide)

theorem State.tsxQueue_sparesDmx (type plane : Nat) (payload : List Byte) : s.SparesDmx k (s.tsxQueue type plane payload) := by
  have hput (a : State) (lane : Nat) (f : TsxFrame) : a.SparesDmx k (a.tsxPut lane f) := by
    refine State.SparesDmx.count (State.SparesDmx.setReg ((State.SparesDmx.refl a).upd ?_ ?_) (by decide)) <;> rfl
  exact ((s.setRed_sparesDmx _).trans (hput _ _ _)).trans (State.tsxBacklog_sparesDmx _)

theorem State.tsxBreak_sparesDmx : s.SparesDmx k s.tsxBreak := by
  have hreport (a : State) : a.SparesDmx k (((a.inc pgRED Red.BREAKS).fault pgRED Red.F_BREAK).trigger 0xE07 pgRED) :=
    (((State.SparesDmx.refl a).setReg (by decide)).fault pageInfo_pgRED rfl (by decide)).trans (State.trigger_sparesDmx _ _ _)
  have hdrop (x : List TsxFrame) := s.setRed_sparesDmx (k := k) { s.red with unacked := x, copying := false }
  exact State.SparesDmx.trans (((hdrop _).trans (State.tsxQueue_sparesDmx _ _ _ _)).ite
    ((hdrop _).trans (State.tsxBacklog_sparesDmx _))) (hreport _)

theorem State.tell_sparesDmx (type : Nat) (payload : List Byte) : s.SparesDmx k (s.tell type payload) := by
  have hsent := s.tsxQueue_sparesDmx (k := k) type 0 payload
  have hkeep := State.SparesDmx.refl (k := k) s
  exact State.SparesDmx.ite (hkeep.ite ((hsent.trans (State.tsxBreak_sparesDmx _)).ite hsent)) hkeep

theorem State.tellInput_sparesDmx (cls port epoch : Nat) (stamp d : List Byte) :
    s.SparesDmx k (s.tellInput cls port epoch stamp d) :=
  (State.SparesDmx.refl s).foldl fun _ a => a.tell_sparesDmx _ _

theorem State.tellMem_sparesDmx (a : Nat) (l : List Byte) (n : Nat) : s.SparesDmx k (s.tellMem a l n) := by
  fun_induction State.tellMem s a l n with
  | case1 => exact .refl _
  | case2 => exact .refl _
  | case3 s a l n _ ih => exact (s.tell_sparesDmx _ _).trans ih

theorem State.hwBytes_sparesDmx (a : Nat) (l : List Byte) : s.SparesDmx k (s.hwBytes a l) := by
  have hkept := State.setBytes_keeps (a := a) (a2 := l) (s.keeps_parts 0x200002) (Keep.off_of_and (by decide))
  have hset : s.SparesDmx k (s.setBytes a l) := (State.SparesDmx.refl s).upd hkept.live_eq hkept.dmx_eq
  exact (State.SparesDmx.refl s).ite ((hset.trans (State.tellMem_sparesDmx _ _ _ _)).ite hset)

end

/-! ### The pins of a port and its STOP -/

section
variable {k : Fin 12} (s : State)

theorem State.setDriven_sparesDmx (l : List Wire) (on : Bool) : s.SparesDmx k (s.setDriven (pgDMX k) Dmx.S_DRIVEN l on) := by
  have hset : s.SparesDmx k (s.setSts (pgDMX k) Dmx.S_DRIVEN (if on then 1 else 0)) :=
    (State.SparesDmx.refl s).setSts (by decide) (by decide)
  exact hset.ite (hset.foldl fun _ a => (State.SparesDmx.refl a).upd rfl rfl)

theorem State.dmxRefresh_sparesDmx : s.SparesDmx k (s.dmxRefresh k) := by
  have hwire (a : State) (w : Wire) (b : Bool) : a.SparesDmx k (a.wireHolds w b) := (State.SparesDmx.refl a).upd rfl rfl
  have hstate : s.SparesDmx k (s.setSts (pgDMX k) Dmx.S_PIN_STATE (s.dmxPin k).1) :=
    (State.SparesDmx.refl s).setSts (by decide) (by decide)
  have hdriven := hstate.trans (State.setDriven_sparesDmx _ [.dmxTx k, .dmxDe k] (s.dmxPin k).2)
  exact ((hdriven.trans (hwire _ _ _)).trans (hwire _ _ _)).ite hdriven

theorem State.dmxStopped_sparesDmx : s.SparesDmx k (s.dmxStopped k) := by
  have hstopped : s.SparesDmx k (s.outputStopped (keyDMX k) (pgDMX k)) := by
    have hstate : s.SparesDmx k (s.setPageState (pgDMX k) 2) :=
      (State.SparesDmx.refl s).setSts (f := (1, 0)) (by decide) (by decide)
    refine State.SparesDmx.ite (hstate.upd ?_ ?_) (.refl s) <;> rfl
  exact (State.SparesDmx.refl s).ite (hstopped.trans (State.dmxRefresh_sparesDmx _))

end

/-! ### Registers while the timeline goes on -/

section
variable {s a : State}

/-- The end of a pulse is seen on the page of its output alone. -/
theorem State.synPulseEnd_at (s : State) (j : Fin 8) (t : Nat) {key : Nat} (hirq : irqKey key = false)
    (hsyn : pgSYN 8 ≤ key / 0x1000) : (s.synPulseEnd j t).at key = s.at key := by
  have hset (b : State) (v : Word) : (b.setReg (pgSYN j) PAGE_STATUS v).at key = b.at key := by
    refine State.at_setReg_ne _ _ ?_
    rintro rfl
    rw [regKey_pgSYN (by decide)] at hsyn
    simp only [pgSYN] at hsyn
    omega
  unfold State.synPulseEnd
  dsimp only
  split
  · split
    · split
      · exact hset _ _
      · exact ((State.irq_same _ _).regs key hirq).trans ((hset _ _).trans (hset _ _))
    · rfl
  · rfl

/-- Until an instant comes, the registers behind those of the sync pages stay, but for what an interrupt changes. -/
theorem State.reach_at {x key : Nat} (h : s.reach x = some a) (hirq : irqKey key = false) (hsyn : pgSYN 8 ≤ key / 0x1000) :
    a.at key = s.at key := by
  have haccrue : (s.slewAccrue x).live = s.live :=
    (State.slewAccrue_keeps (s.keeps_parts 0x2) (Keep.off_of_and (by decide))).live_eq
  have hadvance : (s.advance x).at key = s.at key := by
    unfold State.advance
    dsimp only [List.foldl_cons, List.foldl_nil]
    refine (State.synPulseEnd_at _ 7 x hirq hsyn).trans ((State.synPulseEnd_at _ 5 x hirq hsyn).trans
      ((State.synPulseEnd_at _ 3 x hirq hsyn).trans ?_))
    simp only [State.at, haccrue]
  unfold State.reach at h
  split at h
  · cases h
    rfl
  · split at h
    · cases h
      exact hadvance
    · cases h

theorem State.reach_reg_dmx {x : Nat} (h : s.reach x = some a) (k : Fin 12) {off : Nat} (ho : off < 0x1000) :
    a.reg (pgDMX k) off = s.reg (pgDMX k) off := by
  have hkey := countKey_dmx k ho
  simp only [countKey, Bool.or_eq_false_iff] at hkey
  exact State.reach_at h hkey.1 (by simp only [pgSYN, regKey, pgDMX]; omega)

theorem State.reach_reg_red {x : Nat} (h : s.reach x = some a) (off : Nat) : a.reg pgRED off = s.reg pgRED off := by
  have hpage : 0x1C0 ≤ regKey pgRED off / 0x1000 := by simp only [regKey, pgRED]; omega
  refine State.reach_at h ?_ (Nat.le_trans (by decide) hpage)
  simp only [irqKey, Bool.or_eq_false_iff, Bool.and_eq_false_iff, decide_eq_false_iff_not, beq_eq_false_iff_ne]
  omega

theorem State.setBytes_mem_congr {s t : State} (h : t.mem = s.mem) (x : Nat) (l : List Byte) :
    (t.setBytes x l).mem = (s.setBytes x l).mem := by
  have hbyte {s t : State} (h : t.mem = s.mem) (x : Nat) (b : Byte) : (t.setByte x b).mem = (s.setByte x b).mem := by
    unfold State.setByte
    split
    · exact congrArg (Tab.set memDefault · x b) h
    · exact h
  induction l generalizing s t x with
  | nil => exact h
  | cons b l ih => exact ih (hbyte h x b) (x + 1)

/-- A hardware write of memory puts the same bytes there when an instant has come. -/
theorem State.reach_hwBytes_mem {x : Nat} (h : s.reach x = some a) (at_ : Nat) (l : List Byte) :
    (a.hwBytes at_ l).mem = (s.hwBytes at_ l).mem := by
  have hkept := State.reach_keeps (s.keeps_parts 0x2000010) (Keep.off_of_and (by decide)) a h
  have hreg := State.reach_reg_red h
  have hred : a.red = s.red := hkept.red_eq
  have hmirror (i n : Nat) : a.mirrorHas 2 i at_ n = s.mirrorHas 2 i at_ n := by
    unfold State.mirrorHas State.nat State.fld
    rw [hreg, hreg, hreg, hreg]
  have hsuppressed : a.hwSuppressed at_ l.length = s.hwSuppressed at_ l.length := by
    unfold State.hwSuppressed State.stileHeld State.syncState State.sts State.fld State.mirrored
    rw [hreg, hred]
    simp only [hmirror]
  unfold State.hwBytes
  rw [hsuppressed]
  split
  · exact hkept.mem_eq
  · rw [State.hwTell_mem, State.hwTell_mem]
    exact State.setBytes_mem_congr hkept.mem_eq at_ l

end

/-! ### The receiver (R314, R315) -/

theorem rxEnded_length {acc d : List Byte} (h : rxEnded acc = .packet d) : d.length ≤ 513 := by
  unfold rxEnded at h
  split at h
  · cases h
  split at h
  · cases h
  · next hlong =>
    cases h
    rw [List.length_reverse]
    omega

theorem rxSlots_length {mark n : Nat} {l : List (Bool × Nat)} {acc d : List Byte} (h : rxSlots mark n l acc = .packet d) :
    d.length ≤ 513 := by
  fun_induction rxSlots mark n l acc with
  | case1 => cases h
  | case2 => cases h
  | case3 => exact rxEnded_length h
  | case4 _ _ _ _ _ ih => exact ih h
  | case5 => exact rxEnded_length h
  | case6 => cases h
  | case7 _ _ _ _ _ _ _ ih => exact ih h
  | case8 => cases h

/-- A packet has at most 512 data slots. -/
theorem rxPacket_length {mark : Nat} {l : List (Bool × Nat)} {d : List Byte} (h : rxPacket mark l = .packet d) : d.length ≤ 513 := by
  unfold rxPacket at h
  split at h
  · split at h
    · cases h
    · exact rxSlots_length h
  · cases h

theorem rxPacket_shortMab {mark b m c : Nat} (hb : 352 ≤ b) (hm : m < 32) :
    rxPacket mark (joinRuns [(false, b), (true, m), (false, c)]) = .discarded := by
  have hjoin : joinRuns [(false, b), (true, m), (false, c)] = [(false, b), (true, m), (false, c)] := rfl
  have hbreak : fromBreak [(false, b), (true, m), (false, c)] = [(false, b), (true, m), (false, c)] := by
    simp [fromBreak, Nat.not_lt.2 hb]
  rw [hjoin, rxPacket, hbreak]
  exact if_pos hm

theorem rxPacket_noBreak {mark : Nat} {l : List (Bool × Nat)} (h : ∀ x ∈ l, x.1 = false → x.2 < 352) : rxPacket mark l = .none := by
  have hbreak : fromBreak l = [] := by
    refine List.dropWhile_eq_nil_iff.2 fun x hx => ?_
    cases hlevel : x.1 with
    | true => rfl
    | false => simpa using h x hx hlevel
  rw [rxPacket, hbreak]

theorem leAt_one (d : List Byte) : leAt d 0 1 = (d.headD 0).toNat := by
  cases d with
  | nil => rfl
  | cons b d => simp [leAt, slice, leVal]

section
variable {s a : State} {k : Fin 12}

theorem State.dmxReceive_packet {line : List (Bool × Nat)} {d : List Byte} (hlistens : s.dmxListens k = true)
    (h : rxPacket (4 * s.fld (pgDMX k) Dmx.RX_END_US (10, 0)) (joinRuns line) = .packet d) :
    s.dmxReceive k line = s.dmxAccept k 0 (s.tln.now - ((fromBreak (joinRuns line)).map (·.2)).sum * (250 * NS)) d := by
  simp [State.dmxReceive, hlistens, h]

theorem State.dmxReceive_discarded {line : List (Bool × Nat)} (hlistens : s.dmxListens k = true)
    (h : rxPacket (4 * s.fld (pgDMX k) Dmx.RX_END_US (10, 0)) (joinRuns line) = .discarded) :
    s.dmxReceive k line = s.dmxRxError k := by
  simp [State.dmxReceive, hlistens, h]

theorem State.dmxReceive_none {line : List (Bool × Nat)}
    (h : rxPacket (4 * s.fld (pgDMX k) Dmx.RX_END_US (10, 0)) (joinRuns line) = .none) : s.dmxReceive k line = s := by
  simp [State.dmxReceive, h]

theorem State.setInputState_leaves (s : State) (k : Fin 12) {n : Nat} (hn : n < 4) : let t := s.setInputState k n
    t.sts (pgDMX k) Dmx.S_INPUT_STATE = n ∧ t.merge = s.merge ∧
    ∀ off, off < 0x1000 → off ≠ PAGE_STATUS → t.reg (pgDMX k) off = s.reg (pgDMX k) off := by
  unfold State.setInputState
  split
  · next hsame => exact ⟨hsame, rfl, fun _ _ _ => rfl⟩
  · have hirq := ((s.setSts (pgDMX k) Dmx.S_INPUT_STATE n).irq_same (208 + k)).count
    refine ⟨?_, hirq.merge.trans (State.setReg_merge _ _ _ _), fun off ho hs =>
      (hirq.reg (countKey_dmx k ho)).trans (State.reg_setReg_off _ hs _)⟩
    refine (congrArg (bits · Dmx.S_INPUT_STATE) (hirq.reg (countKey_dmx k (by decide)))).trans ?_
    exact (State.sts_setSts_self _ _ (by decide) n).trans (Nat.mod_eq_of_lt hn)

/-- An accepted packet goes to its queue, to the receive merge, or to the partner alone. -/
def State.dmxForward (s : State) (k tag at_ : Nat) (d : List Byte) : State :=
  let stamp := (timeValOf at_).wireBytes
  if leAt d 0 1 ≠ 0 then (s.queuePacket (4 + k / 4) (k % 4) d).tellInput 1 k 0 stamp d
  else if s.mergeOn then
    s.mergeQueue (mergeEntry 1 k tag (s.fld (pgDMX k) Dmx.DMX_POLICY Dmx.RX_PRIO) (s.fld (pgDMX k) Dmx.DMX_UNIV (11, 0)) stamp d)
  else s.tellInput 1 k 0 stamp d

/-- Then its slots and its time are put in the port's registers. -/
def State.dmxNoted (s : State) (k at_ : Nat) (d : List Byte) : State :=
  ((s.setNat (pgDMX k) Dmx.RX_SLOTS (leAt d 0 1 * 2 ^ 16 + (d.length - 1))).setNat (pgDMX k) Dmx.RX_STAMP (stamp32 at_)).inc
    (pgDMX k) Dmx.RX_PACKETS

theorem State.dmxAccept_eq (s : State) (k tag at_ : Nat) (d : List Byte) : s.dmxAccept k tag at_ d
    = (let a := (s.dmxForward k tag at_ d).dmxNoted k at_ d
      ((a.setDmx k { a.dmxOf k with lastRx := s.tln.now }).setInputState k 1).count (512 + 4 * k + 1) 1) := rfl

theorem State.dmxForward_sparesDmx (s : State) (tag at_ : Nat) (d : List Byte) : s.SparesDmx k (s.dmxForward k tag at_ d) :=
  ((s.queuePacket_sparesDmx _ _ _).trans (State.tellInput_sparesDmx _ _ _ _ _ _)).ite
    ((s.mergeQueue_sparesDmx _).ite (s.tellInput_sparesDmx _ _ _ _ _))

theorem State.dmxAccept_leaves (s : State) (k : Fin 12) (tag at_ : Nat) (d : List Byte) : let t := s.dmxAccept k tag at_ d
    t.reg (pgDMX k) Dmx.RX_SLOTS = BitVec.ofNat 32 (leAt d 0 1 * 2 ^ 16 + (d.length - 1)) ∧
    t.sts (pgDMX k) Dmx.S_INPUT_STATE = 1 ∧ t.reg (pgDMX k) Dmx.RX_STAMP = BitVec.ofNat 32 (stamp32 at_) ∧
    t.reg (pgDMX k) Dmx.RX_PACKETS = s.reg (pgDMX k) Dmx.RX_PACKETS + 1 := by
  rw [State.dmxAccept_eq]
  dsimp only
  have hpackets := (s.dmxForward_sparesDmx (k := k) tag at_ d).regs Dmx.RX_PACKETS (by decide) (by decide)
  generalize s.dmxForward k tag at_ d = f at *
  generalize hb : (f.dmxNoted k at_ d).setDmx k { (f.dmxNoted k at_ d).dmxOf k with lastRx := s.tln.now } = b
  have hreg (off : Nat) : b.reg (pgDMX k) off = (f.dmxNoted k at_ d).reg (pgDMX k) off := by rw [← hb]; rfl
  obtain ⟨hstate, -, hkept⟩ := b.setInputState_leaves k (n := 1) (by decide)
  have hcount := (b.setInputState k 1).count_same (512 + 4 * k + 1) 1
  have hread (off : Nat) (ho : off < 0x1000) (hs : off ≠ PAGE_STATUS) :
      ((b.setInputState k 1).count (512 + 4 * k + 1) 1).reg (pgDMX k) off = (f.dmxNoted k at_ d).reg (pgDMX k) off :=
    (hcount.reg (countKey_dmx k ho)).trans ((hkept off ho hs).trans (hreg off))
  refine ⟨?_, ?_, ?_, ?_⟩
  · rw [hread _ (by decide) (by decide)]
    exact (State.reg_setReg_off _ (by decide) _).trans ((State.reg_setReg_off _ (by decide) _).trans (State.reg_setReg_self _ _ _ _))
  · exact (congrArg (bits · Dmx.S_INPUT_STATE) (hcount.reg (countKey_dmx k (by decide)))).trans hstate
  · rw [hread _ (by decide) (by decide)]
    exact (State.reg_setReg_off _ (by decide) _).trans (State.reg_setReg_self _ _ _ _)
  · rw [hread _ (by decide) (by decide), ← hpackets]
    refine (State.reg_setReg_self _ _ _ _).trans (congrArg (· + 1) ?_)
    exact (State.reg_setReg_off _ (by decide) _).trans (State.reg_setReg_off _ (by decide) _)

theorem State.dmxLoss_reached (hstate : s.sts (pgDMX k) Dmx.S_INPUT_STATE = 1) (hruns : s.engineRuns = true)
    (hreach : s.reach ((s.dmxOf k).lastRx + s.fld (pgDMX k) Dmx.RX_LOSS_MS (11, 0) * 1000000 * NS) = some a) :
    s.dmxLoss k = if a.flag (pgDMX k) Dmx.DMX_POLICY 1
      then (a.setInputState k 2).dropSource (a.fld (pgDMX k) Dmx.DMX_UNIV (11, 0)) none k else a.setInputState k 2 := by
  obtain ⟨-, -, hkept⟩ := a.setInputState_leaves k (n := 2) (by decide)
  have hpolicy : (a.setInputState k 2).flag (pgDMX k) Dmx.DMX_POLICY 1 = a.flag (pgDMX k) Dmx.DMX_POLICY 1 :=
    congrArg (bit · 1) (hkept _ (by decide) (by decide))
  have huniv : (a.setInputState k 2).fld (pgDMX k) Dmx.DMX_UNIV (11, 0) = a.fld (pgDMX k) Dmx.DMX_UNIV (11, 0) :=
    congrArg (bits · (11, 0)) (hkept _ (by decide) (by decide))
  rw [State.dmxLoss, if_neg (by simp [hstate, hruns]), State.atTime_reached hreach]
  dsimp only
  rw [hpolicy, huniv]

end

/-! ### Outcomes (R316) -/

section
variable {s t u : State} {k : Fin 12} {n : Nat}

/-- OUTCOME and RDM_DONE of a transaction that reaches an outcome. -/
def State.rdmMarked (s : State) (k n : Nat) : State := (s.setOutcome k n).setSts (pgDMX k) Dmx.S_RDM_DONE 1

theorem State.rdmOutcome_setOutcome (s : State) (k : Nat) (hn : n < 8) : (s.setOutcome k n).rdmOutcome k = n := by
  rw [State.rdmOutcome, State.fld, State.setOutcome, State.setFld_eq, State.reg_setReg_self, bits_putBits_same _ (by decide)]
  exact Nat.mod_eq_of_lt hn

theorem State.dmxRun_rdmMarked (s : State) (k n j : Nat) : (s.rdmMarked k n).dmxRun j = s.dmxRun j :=
  congrArg DmxState.run (State.dmxOf_congr ((State.setReg_dmx _ _ _ _).trans (State.setReg_dmx _ _ _ _)) j)

/-- What follows is told to the partner, counted and raised as an interrupt. -/
theorem State.rdmDone_sparesDmx (s : State) (n : Nat) : (s.rdmMarked k n).SparesDmx k (s.rdmDone k n) :=
  (State.SparesDmx.refl (s.rdmMarked k n)).irq.count.trans (State.tell_sparesDmx _ _ _)

theorem State.SparesDmx.marked_reg (h : (s.rdmMarked k n).SparesDmx k t) {off : Nat} (ho : off < 0x1000) (hs : off ≠ PAGE_STATUS)
    (hr : off ≠ Dmx.RDM_RESULT) : t.reg (pgDMX k) off = s.reg (pgDMX k) off :=
  (h.regs off ho hs).trans ((State.reg_setReg_off _ hs _).trans (State.reg_setReg_off _ hr _))

theorem State.SparesDmx.marked_result (h : (s.rdmMarked k n).SparesDmx k t) : t.reg (pgDMX k) Dmx.RDM_RESULT
    = putBits (s.reg (pgDMX k) Dmx.RDM_RESULT) (2, 0) n :=
  (h.regs _ (by decide) (by decide)).trans ((State.reg_setReg_off _ (by decide) _).trans (State.reg_setReg_self _ _ _ _))

theorem State.SparesDmx.marked_outcome (h : (s.rdmMarked k n).SparesDmx k t) (hn : n < 8) : t.rdmOutcome k = n := by
  rw [State.rdmOutcome, State.fld, h.marked_result, bits_putBits_same _ (by decide)]
  exact Nat.mod_eq_of_lt hn

/-- RSP_LEN is that of before. -/
theorem State.SparesDmx.marked_len (h : (s.rdmMarked k n).SparesDmx k t) :
    t.fld (pgDMX k) Dmx.RDM_RESULT (24, 16) = s.fld (pgDMX k) Dmx.RDM_RESULT (24, 16) := by
  rw [State.fld, h.marked_result, bits_putBits_of_apart _ (by decide) _ (by decide), State.fld]

theorem State.SparesDmx.marked_done (h : (s.rdmMarked k n).SparesDmx k t) : t.sts (pgDMX k) Dmx.S_RDM_DONE = 1 :=
  (h.status _ (by decide)).trans (State.sts_setSts_self _ _ (by decide) 1)

/-- A transaction reaches an outcome, and a STOP that waited for it takes effect. -/
theorem State.rdmEnded_sparesDmx (s : State) (n : Nat) : (s.rdmMarked k n).SparesDmx k ((s.rdmDone k n).dmxStopped k) :=
  (s.rdmDone_sparesDmx n).trans (State.dmxStopped_sparesDmx _)

theorem State.rdmEnded_mem (s : State) (k n : Nat) : ((s.rdmDone k n).dmxStopped k).mem = s.mem :=
  (State.dmxStopped_keeps (State.rdmDone_keeps (s.keeps_parts 0x10) (Keep.off_of_and (by decide)))
    (Keep.off_of_and (by decide))).mem_eq

end

/-! ### Requests and their end (R316, R317, R322) -/

section
variable {s : State} {k : Fin 12}

theorem State.ownWrite_rdmGo (s : State) (r : Requester) (k : Nat) (v : Word) :
    s.ownWrite r ⟨.dmx, k, 0⟩ (0 * 0x1000 + Dmx.RDM_GO) v = some (s.rdmGoWrite k v) := by
  simp [State.ownWrite]

/-- A write of RDM_GO is its meaning. -/
theorem State.busWrite_rdmGo {r : Requester} (h : s.accepts r (pgDMX k) Dmx.RDM_GO = true) (v : Word) :
    s.busWrite r (pgDMX k) Dmx.RDM_GO v = (s.told r (pgDMX k) Dmx.RDM_GO v).rdmGoWrite k v :=
  State.busWrite_own h (pageInfo_pgDMX k) (by decide) (by decide) (State.ownWrite_rdmGo _ _ _ _)

theorem State.rdmGo_taken {k : Nat} (h : s.rdmGoFaults k = []) : s.rdmGo k = s.setOutcome k 1 := if_pos h

theorem State.rdmGo_refused {k : Nat} (h : s.rdmGoFaults k ≠ []) :
    s.rdmGo k = (s.rdmGoFaults k).foldl (fun a n => a.fault (pgDMX k) n) s := if_neg h

/-- The cases of R316 that refuse a GO. -/
theorem State.rdmGoFaults_eq_nil_iff (s : State) (k : Nat) : s.rdmGoFaults k = [] ↔
    ¬(s.rdmOutcome k = 1 ∨ s.rdmOutcome k = 2 ∨ s.rdmGoBad k = true ∨ s.stileHeld = false) := by
  simp only [State.rdmGoFaults, List.append_eq_nil_iff, ite_eq_right_iff, ite_eq_left_iff, List.cons_ne_nil, imp_false, not_or,
    Bool.not_eq_true, Bool.not_eq_false, and_assoc]

theorem State.rdmAbort_busy {k : Nat} (h : s.rdmOutcome k = 2) : s.rdmAbort k = ((s.rdmCut k false).rdmDone k 7).dmxRefresh k := by
  rw [State.rdmAbort, if_pos (.inr h), if_pos h]

theorem State.rdmGoWrite_abort {k : Nat} (h : s.rdmOutcome k = 2) : s.rdmGoWrite k 2 = (s.rdmAbort k).dmxStopped k := by
  rw [State.rdmGoWrite, if_pos (by decide), if_pos h]

theorem State.rdmGoWrite_go (s : State) (k : Nat) : s.rdmGoWrite k 1 = s.rdmGo k := by
  rw [State.rdmGoWrite, if_neg (by decide), if_pos (by decide)]

theorem State.dmxRun_rdmCut (s : State) (k : Nat) (hold : Bool) : (s.rdmCut k hold).dmxRun k = none := by
  unfold State.rdmCut
  dsimp only
  split
  · next hnone => exact hnone
  · exact congrArg DmxState.run (State.dmxOf_setDmx _ _ _)

end

/-! ### A request is sent (R317, R318) -/

section
variable {s : State} {k : Fin 12}

/-- The transaction that begins now. -/
def State.rdmPlan (s : State) (k : Nat) : RdmRun :=
  let sendAt := unitsOf s.tln.now + s.rdmGap k * LU
  let sendEnd := sendAt + s.rdmTime k * LU
  ⟨s.rdmKind k, sendAt, sendEnd, sendEnd + s.fld (pgDMX k) Dmx.DE_HOLD_NS (11, 0) * LU, sendEnd + s.rdmWindow k * LU,
    s.rdmPacket k sendAt (s.bytes (s.rdmReqAt k) (s.rdmLen k))⟩

/-- The transaction is BUSY, and nothing has left the device yet. -/
def State.rdmBegun (s : State) (k : Nat) : State :=
  let y := s.dmxOf k
  let a := (s.setOutcome k 2).setDmx k
    { y with run := some (s.rdmPlan k), openTo := (y.run.filter (fun r => r.kind != 0)).elim y.openTo (·.windowEnd) }
  a.setPort (keyDMX k) { a.portOf (keyDMX k) with samples := if s.wiredOff then 0 else 11 * s.rdmLen k }

/-- Then its message leaves, and DE follows. -/
def State.rdmSent (s : State) (k : Nat) : State :=
  let x := s.rdmPlan k
  ((s.rdmBegun k).emitEdges (.dmx k x.wave)).emitEdges
    (.de k ((x.sendAt, true) :: (if x.kind = 0 then [] else [(x.listenAt, false), (x.windowEnd, true)])))

theorem State.rdmBegin_eq {k : Nat} (hwaits : s.rdmOutcome k = 1) (hactive : s.active (pgDMX k) = true)
    (hruns : s.swathState (s.dmxSwath k) = 2) (hidle : (s.portOf (keyDMX k)).emit = none)
    (hfits : ((unitsOf s.tln.now + s.rdmReservation k * LU : Nat) : Int) ≤ s.dmxNextLaunch k) :
    s.rdmBegin k = (s.rdmSent k).dmxRefresh k := by
  have htaken : ¬(s.rdmOutcome k ≠ 1 ∨ s.active (pgDMX k) = false ∨ s.swathState (s.dmxSwath k) ≠ 2
      ∨ (s.portOf (keyDMX k)).emit.isSome = true
      ∨ s.dmxNextLaunch k < ((unitsOf s.tln.now + s.rdmReservation k * LU : Nat) : Int)) := by
    rintro (h | h | h | h | h)
    · exact h hwaits
    · exact Bool.false_ne_true (h.symm.trans hactive)
    · exact h hruns
    · rw [hidle] at h
      cases h
    · exact absurd h (Int.not_lt.2 hfits)
  exact if_neg htaken

theorem State.rdmBegun_leaves (s : State) (k : Fin 12) : let t := s.rdmBegun k
    t.rdmOutcome k = 2 ∧ t.dmxRun k = some (s.rdmPlan k) ∧ t.gridAt = s.gridAt ∧ t.out = s.out := by
  have hset : s.SameBut (pgDMX k) [Dmx.RDM_RESULT] (s.setOutcome k 2) := (State.SameBut.refl s).setReg _ (by decide) (by decide)
  exact ⟨s.rdmOutcome_setOutcome k (by decide), congrArg DmxState.run (State.dmxOf_setDmx _ _ _),
    hset.gridAt (by simp only [pgTLN, pgDMX]; omega), rfl⟩

theorem State.rdmBegin_leaves (s : State) (k : Fin 12) : let t := (s.rdmSent k).dmxRefresh k
    let x := s.rdmPlan k
    t.rdmOutcome k = 2 ∧ t.dmxRun k = some x ∧ ∃ pins, t.out = pins
      ++ (Output.de k ((x.sendAt, true) :: (if x.kind = 0 then [] else [(x.listenAt, false), (x.windowEnd, true)]))).placed s.gridAt
      :: (Output.dmx k x.wave).placed s.gridAt :: s.out ∧ ∀ o ∈ pins, o.isPin := by
  obtain ⟨houtcome, hrun, hgrid, hout⟩ := s.rdmBegun_leaves k
  have hsent : (s.rdmBegun k).SparesDmx k (s.rdmSent k) := (State.SparesDmx.refl _).upd rfl rfl
  have hpins := hsent.trans (State.dmxRefresh_sparesDmx _)
  obtain ⟨pins, hleft, hpin⟩ := ((State.MovesPins.refl (s.rdmSent k)).dmxRefresh k).out
  refine ⟨(hpins.fld (off := Dmx.RDM_RESULT) (2, 0)).trans houtcome, hpins.run.trans hrun, pins, hleft.trans ?_, hpin⟩
  rw [← hgrid, ← hout]
  rfl

end

/-! ### The end of a transaction (R318, R319) -/

section
variable {s a : State} {k : Fin 12} {x : RdmRun}

theorem State.rdmResponse_reached {k : Nat} (hrun : s.dmxRun k = some x) (hbusy : s.rdmOutcome k = 2) (hkind : x.kind = 1) {start : Nat}
    (hstart : start ≤ 1000 * s.fld (pgDMX k) Dmx.RSP_TIMEOUT_US (12, 0)) {stop : Nat}
    (hreach : s.reach (timeOfUnits (min (x.listenAt + stop * LU) x.windowEnd)) = some a) (faulty : Bool) (d : List Byte) :
    s.rdmResponse k start stop faulty d
      = a.rdmJudge k (!faulty && decide (x.listenAt + stop * LU ≤ x.windowEnd) && rdmSound d) d := by
  simp [State.rdmResponse, hrun, hbusy, hkind, Nat.not_lt.2 hstart, State.atTime_reached hreach]

theorem State.rdmResponse_late {k : Nat} (hrun : s.dmxRun k = some x) (hbusy : s.rdmOutcome k = 2) (hkind : x.kind = 1) {start : Nat}
    (hstart : 1000 * s.fld (pgDMX k) Dmx.RSP_TIMEOUT_US (12, 0) < start) (stop : Nat) (faulty : Bool) (d : List Byte) :
    s.rdmResponse k start stop faulty d = s.rdmNoResponse k := by
  simp [State.rdmResponse, hrun, hbusy, hkind, hstart]

theorem State.rdmNoResponse_reached {k : Nat} (hrun : s.dmxRun k = some x) (hbusy : s.rdmOutcome k = 2) (hkind : x.kind = 1)
    (hreach : s.reach (timeOfUnits (x.listenAt + s.fld (pgDMX k) Dmx.RSP_TIMEOUT_US (12, 0) * 1000 * LU)) = some a) :
    s.rdmNoResponse k = ((a.setFld (pgDMX k) Dmx.RDM_RESULT (24, 16) 0).rdmDone k 4).dmxStopped k := by
  simp [State.rdmNoResponse, hrun, hbusy, hkind, State.atTime_reached hreach]

theorem State.setLen_len (s : State) {k n : Nat} (hn : n < 512) :
    (s.setFld (pgDMX k) Dmx.RDM_RESULT (24, 16) n).fld (pgDMX k) Dmx.RDM_RESULT (24, 16) = n := by
  rw [State.fld, State.setFld_eq, State.reg_setReg_self, bits_putBits_same _ (by decide)]
  exact Nat.mod_eq_of_lt hn

theorem State.rdmJudge_leaves (s : State) (k : Fin 12) (good : Bool) (d : List Byte) : let t := s.rdmJudge k good d
    t.mem = (s.hwBytes (s.rdmRspAt k) (d.take 257)).mem ∧ t.fld (pgDMX k) Dmx.RDM_RESULT (24, 16) = min 257 d.length ∧
    t.rdmOutcome k = if good then 3 else 6 := by
  have htold := (s.rdmStore k d).tellInput_sparesDmx (k := k) 3 k 0 s.nowWire (d.take 257)
  have hmem : ((s.rdmStore k d).tellInput 3 k 0 s.nowWire (d.take 257)).mem = (s.hwBytes (s.rdmRspAt k) (d.take 257)).mem :=
    (State.tellInput_keeps ((s.rdmStore k d).keeps_parts 0x10) (Keep.off_of_and (by decide))).mem_eq
  have hended := ((s.rdmStore k d).tellInput 3 k 0 s.nowWire (d.take 257)).rdmEnded_sparesDmx (k := k) (if good then 3 else 6)
  refine ⟨(State.rdmEnded_mem _ _ _).trans hmem, ?_, hended.marked_outcome (by split <;> decide)⟩
  refine hended.marked_len.trans ((htold.fld _).trans ?_)
  rw [← List.length_take]
  exact State.setLen_len _ (Nat.lt_of_le_of_lt (List.length_take_le _ _) (by decide))

theorem State.rdmDiscovery_silent {k : Nat} (hrun : s.dmxRun k = some x) (hbusy : s.rdmOutcome k = 2) (hkind : x.kind = 2)
    (hreach : s.reach (timeOfUnits x.windowEnd) = some a) (framing : Bool) :
    s.rdmDiscovery k none framing = (a.rdmDone k 4).dmxStopped k := by
  simp [State.rdmDiscovery, hrun, hbusy, hkind, State.atTime_reached hreach]

theorem State.rdmDiscovery_collision {k : Nat} (hrun : s.dmxRun k = some x) (hbusy : s.rdmOutcome k = 2) (hkind : x.kind = 2)
    (hreach : s.reach (timeOfUnits x.windowEnd) = some a) {framing : Bool} {d : List Byte} (hd : discUid framing d = none) :
    s.rdmDiscovery k (some d) framing = (a.rdmDone k 5).dmxStopped k := by
  simp [State.rdmDiscovery, hrun, hbusy, hkind, State.atTime_reached hreach, hd]

theorem State.rdmDiscovery_found {k : Nat} (hrun : s.dmxRun k = some x) (hbusy : s.rdmOutcome k = 2) (hkind : x.kind = 2)
    (hreach : s.reach (timeOfUnits x.windowEnd) = some a) {framing : Bool} {d : List Byte} {uid : Nat}
    (hd : discUid framing d = some uid) : s.rdmDiscovery k (some d) framing
    = (((a.setDiscUid k uid).tellInput 3 k 0 a.nowWire (d.take 257)).rdmDone k 3).dmxStopped k := by
  simp [State.rdmDiscovery, hrun, hbusy, hkind, State.atTime_reached hreach, hd]

/-- The UID found stands in DISC_UID. -/
theorem State.rdmFound_leaves (s : State) (k : Fin 12) (uid : Nat) (stamp d : List Byte) :
    let t := (((s.setDiscUid k uid).tellInput 3 k 0 stamp d).rdmDone k 3).dmxStopped k
    t.rdmOutcome k = 3 ∧ t.nat (pgDMX k) Dmx.DISC_UID_LO = uid % 2 ^ 32 ∧
    t.nat (pgDMX k) Dmx.DISC_UID_HI = uid / 2 ^ 32 % 2 ^ 32 := by
  have htold := (s.setDiscUid k uid).tellInput_sparesDmx (k := k) 3 k 0 stamp d
  have hended := ((s.setDiscUid k uid).tellInput 3 k 0 stamp d).rdmEnded_sparesDmx (k := k) 3
  have hlo : (s.setDiscUid k uid).reg (pgDMX k) Dmx.DISC_UID_LO = BitVec.ofNat 32 (uid % 2 ^ 32) :=
    (State.reg_setReg_off _ (by decide) _).trans (State.reg_setReg_self _ _ _ _)
  have hhi : (s.setDiscUid k uid).reg (pgDMX k) Dmx.DISC_UID_HI = BitVec.ofNat 32 (uid / 2 ^ 32) := State.reg_setReg_self _ _ _ _
  refine ⟨hended.marked_outcome (by decide), ?_, ?_⟩
  · rw [State.nat, hended.marked_reg (by decide) (by decide) (by decide), htold.regs _ (by decide) (by decide), hlo]
    exact (BitVec.toNat_ofNat _ _).trans (Nat.mod_mod _ _)
  · rw [State.nat, hended.marked_reg (by decide) (by decide) (by decide), htold.regs _ (by decide) (by decide), hhi]
    exact BitVec.toNat_ofNat _ _

theorem State.rdmWindowEnd_reached {k : Nat} (hrun : s.dmxRun k = some x) (hreach : s.reach (timeOfUnits x.windowEnd) = some a) :
    s.rdmWindowEnd k
      = ((if a.rdmOutcome k ≠ 2 then a else a.rdmDone k (if x.kind = 0 then 3 else 4)).dmxStopped k).dmxRefresh k := by
  simp [State.rdmWindowEnd, hrun, State.atTime_reached hreach]

end

end Sys2Proof.Machine

open Sys2Proof Sys2Proof.Machine

/-- Settles O27: a packet or a loss by what the receiver leaves, a request and its end by what marks an OUTCOME and what spares it. -/
theorem dmxReceivesAndAsks : Obligations.DmxReceivesAndAsks := by
  refine ⟨fun s k line => ?_, fun s a k => ?_, fun s r k => ?_, fun s r k hacc hbusy => ?_, fun s k => ?_,
    fun s a k start stop faulty d x hrun hbusy hkind => ⟨fun hstart hreach => ?_, fun hstart => ?_⟩,
    fun s a k x hrun hbusy hkind hreach => ?_, fun s a k heard framing x hrun hbusy hkind hreach => ?_,
    fun s a k x hrun hreach => ?_⟩
  · intro p mark hlistens
    refine ⟨fun d hd => ?_, fun hd => ?_, fun b m c hline hb _ hm _ => ?_, fun hnone => ?_⟩
    · obtain ⟨hslots, hstate, hstamp, hpackets⟩ := s.dmxAccept_leaves k 0
        (s.tln.now - ((fromBreak (joinRuns line)).map (·.2)).sum * (250 * NS)) d
      refine ⟨_, congrArg Host.Outcome.next (State.dmxReceive_packet hlistens hd), ?_, hstate, ?_, hpackets⟩
      · have hlen := rxPacket_length hd
        have hcode := (d.headD 0).isLt
        rw [State.nat, hslots, leAt_one, BitVec.toNat_ofNat]
        exact Nat.mod_eq_of_lt (by omega)
      · rw [State.nat, hstamp]
        exact BitVec.toNat_ofNat _ _
    · exact congrArg Host.Outcome.next (State.dmxReceive_discarded hlistens hd)
    · exact congrArg Host.Outcome.next (State.dmxReceive_discarded hlistens (hline ▸ rxPacket_shortMab hb hm))
    · exact congrArg Host.Outcome.next (State.dmxReceive_none (rxPacket_noBreak hnone))
  · intro p hstate hruns hreach
    obtain ⟨hlost, hmerge, -⟩ := a.setInputState_leaves k (n := 2) (by decide)
    have hkept := State.reach_keeps (s.keeps_parts 0x4000000) (Keep.off_of_and (by decide)) a hreach
    have hloss := State.dmxLoss_reached hstate hruns hreach
    refine ⟨_, congrArg Host.Outcome.next hloss, ?_, fun hhold => ?_, fun hdrop => ?_⟩
    · split
      · exact hlost
      · exact hlost
    · rw [if_neg (by rw [hhold]; exact Bool.false_ne_true)]
      exact hmerge.trans hkept.merge_eq
    · exact if_pos hdrop
  · intro p u hacc
    have hexec : s.busWrite r (pgDMX k) Dmx.RDM_GO 1 = u.rdmGo k := (State.busWrite_rdmGo hacc 1).trans (u.rdmGoWrite_go k)
    refine ⟨fun hwaits hbusy hdir hen hmin hmax hkind hreq hrsp hfits hheld => ?_, fun hrefused => ?_⟩
    · have hgood : u.rdmGoBad k = false := by
        have hen : u.flag (pgDMX k) Dmx.DMX_MODE 12 = true := hen
        simp [State.rdmGoBad, hdir, hen, hkind, hreq, hrsp, Nat.not_lt.2 hmin, Nat.not_lt.2 hmax, Nat.not_lt.2 hfits]
      have hnone : u.rdmGoFaults k = [] := (u.rdmGoFaults_eq_nil_iff k).2 (by simp [hwaits, hbusy, hgood, hheld])
      exact ⟨_, congrArg Host.Outcome.next (hexec.trans (State.rdmGo_taken hnone)), u.rdmOutcome_setOutcome k (by decide)⟩
    · have hsome : u.rdmGoFaults k ≠ [] := fun hnone => (u.rdmGoFaults_eq_nil_iff k).1 hnone hrefused
      exact congrArg Host.Outcome.next (hexec.trans (State.rdmGo_refused hsome))
  · have hexec : s.busWrite r (pgDMX k) Dmx.RDM_GO 2
        = ((((s.told r (pgDMX k) Dmx.RDM_GO 2).rdmCut k false).rdmDone k 7).dmxRefresh k).dmxStopped k := by
      rw [State.busWrite_rdmGo hacc, State.rdmGoWrite_abort hbusy, State.rdmAbort_busy hbusy]
    have hspares := ((State.rdmDone_sparesDmx (k := k) ((s.told r (pgDMX k) Dmx.RDM_GO 2).rdmCut k false) 7).trans
      (State.dmxRefresh_sparesDmx _)).trans (State.dmxStopped_sparesDmx _)
    exact ⟨_, congrArg Host.Outcome.next hexec, hspares.marked_outcome (by decide), hspares.marked_done,
      hspares.run.trans ((State.dmxRun_rdmMarked _ _ _ _).trans (State.dmxRun_rdmCut _ _ _))⟩
  · intro now p sendAt sendEnd windowEnd hwaits hactive hruns hidle hfits listenAt wave
    exact ⟨_, congrArg Host.Outcome.next (State.rdmBegin_eq hwaits hactive hruns hidle hfits), s.rdmBegin_leaves k⟩
  · obtain ⟨hmem, hlen, houtcome⟩ := a.rdmJudge_leaves k
      (!faulty && decide (x.listenAt + stop * LU ≤ x.windowEnd) && rdmSound d) d
    have hrsp : a.rdmRspAt k = s.rdmRspAt k := by
      simp only [State.rdmRspAt, State.nat, State.fld, State.reach_reg_dmx hreach k (off := Dmx.RDM_RSP_LO) (by decide),
        State.reach_reg_dmx hreach k (off := Dmx.RDM_RSP_HI) (by decide)]
    rw [hrsp, State.reach_hwBytes_mem hreach] at hmem
    refine ⟨_, congrArg Host.Outcome.next (State.rdmResponse_reached hrun hbusy hkind hstart hreach faulty d), hmem, hlen, ?_⟩
    rw [houtcome]
    simp [and_assoc]
  · exact congrArg Host.Outcome.next (State.rdmResponse_late hrun hbusy hkind hstart stop faulty d)
  · have hended := (a.setFld (pgDMX k) Dmx.RDM_RESULT (24, 16) 0).rdmEnded_sparesDmx (k := k) 4
    exact ⟨_, congrArg Host.Outcome.next (State.rdmNoResponse_reached hrun hbusy hkind hreach), hended.marked_outcome (by decide),
      hended.marked_len.trans (State.setLen_len a (by decide))⟩
  · have hoverlap {d : List Byte} (hd : discUid framing d = none) : (s.rdmDiscovery k (some d) framing).rdmOutcome k = 5 := by
      rw [State.rdmDiscovery_collision hrun hbusy hkind hreach hd]
      exact (a.rdmEnded_sparesDmx 5).marked_outcome (by decide)
    refine ⟨_, rfl, ?_, ?_, ?_, ?_⟩
    · rintro rfl
      rw [State.rdmDiscovery_silent hrun hbusy hkind hreach]
      exact (a.rdmEnded_sparesDmx 4).marked_outcome (by decide)
    · rintro d e rfl rfl hbody hsum
      rw [State.rdmDiscovery_found hrun hbusy hkind hreach (uid := (discDecode e).1) (by simp [discUid, hbody, hsum])]
      exact a.rdmFound_leaves k _ _ _
    · rintro d rfl hbad
      exact hoverlap (by rcases hbad with h | h <;> simp [discUid, h])
    · rintro d e rfl hbody hsum
      exact hoverlap (by cases framing <;> simp [discUid, hbody, hsum])
  · refine ⟨_, congrArg Host.Outcome.next (State.rdmWindowEnd_reached hrun hreach), ?_⟩
    split
    · exact ((State.dmxStopped_sparesDmx a).trans (State.dmxRefresh_sparesDmx _)).fld (off := Dmx.RDM_RESULT) (2, 0)
    · exact ((a.rdmEnded_sparesDmx _).trans (State.dmxRefresh_sparesDmx _)).marked_outcome (by split <;> decide)

end

section
/-!
The forwarding database of the bridge (R354, R355, R363), and O30.
-/
set_option Elab.async false
namespace Sys2Proof.Machine

/-! ### Entries -/

section
variable {s t : State}

theorem State.fdbFind_congr (h : t.bridge.fdb = s.bridge.fdb) (x : Nat) : t.fdbFind x = s.fdbFind x := by
  rw [State.fdbFind, h, State.fdbFind]

theorem State.fdb_setFdb (s : State) (l : List FdbEntry) : (s.setFdb l).bridge.fdb = l := rfl

/-- An address finds its entry also where those of another one are left out. -/
theorem find?_without {l : List FdbEntry} {mac x : Nat} (h : x ≠ mac) :
    (l.filter (fun e => e.mac != mac)).find? (fun e => e.mac == x) = l.find? (fun e => e.mac == x) := by
  rw [List.find?_filter]
  congr 1
  funext e
  by_cases he : e.mac = x
  · simp [he, h]
  · simp [he]

theorem State.fdbRemove_finds (s : State) (mac : Nat) : (s.fdbRemove mac).fdbFind mac = none ∧
    ∀ x, x ≠ mac → (s.fdbRemove mac).fdbFind x = s.fdbFind x :=
  ⟨List.find?_eq_none.2 fun e he => by simpa using (List.mem_filter.1 he).2, fun _ hx => find?_without hx⟩

end

/-! ### Commands -/

section
variable {s : State}

/-- The entries of addresses other than the one that the command names, and those of them in its set. -/
abbrev State.fdbOthers (s : State) : List FdbEntry := s.bridge.fdb.filter (fun e => e.mac != s.fdbMac)
abbrev State.fdbSet (s : State) : List FdbEntry := s.fdbOthers.filter (fun e => sameSet e.mac s.fdbMac)

theorem State.fdbAddNow_room (h : s.fdbSet.length < 4) :
    s.fdbAddNow = s.setFdb (⟨s.fdbMac, s.fld pgBR Br.FDB_PORTS (5, 0), true, s.tln.now⟩ :: s.fdbOthers) := if_pos h

theorem State.fdbAddNow_finds (h : s.fdbSet.length < 4) :
    s.fdbAddNow.fdbFind s.fdbMac = some ⟨s.fdbMac, s.fld pgBR Br.FDB_PORTS (5, 0), true, s.tln.now⟩ ∧
    ∀ x, x ≠ s.fdbMac → s.fdbAddNow.fdbFind x = s.fdbFind x := by
  rw [State.fdbAddNow_room h]
  refine ⟨List.find?_cons_of_pos (beq_self_eq_true _), fun x hx => ?_⟩
  exact (List.find?_cons_of_neg (by simpa using Ne.symm hx)).trans (find?_without hx)

/-- Four static entries leave no room for another one. -/
theorem State.fdbAddNow_full (hfull : 4 ≤ s.fdbSet.length)
    (hstatic : ∀ e ∈ s.fdbOthers, sameSet e.mac s.fdbMac = true → e.fixed = true) :
    s.fdbAddNow = s.fault pgBR Br.F_FDB_FULL := by
  have hnone : s.fdbSet.filter (fun e => !e.fixed) = [] := List.filter_eq_nil_iff.2 fun e he => by
    obtain ⟨hother, hset⟩ := List.mem_filter.1 he
    simp [hstatic e hother hset]
  unfold State.fdbAddNow
  dsimp only
  rw [if_neg (Nat.not_lt.2 hfull), hnone]
  rfl

theorem State.fdbLookupNow_leaves (s : State) : s.fdbLookupNow.bridge = s.bridge ∧
    s.fdbLookupNow.nat pgBR Br.FDB_PORTS = (s.fdbFind s.fdbMac).elim 0 (fun e => 2 ^ 31 + e.ports) % 2 ^ 32 := by
  have hset (n : Nat) : (s.setNat pgBR Br.FDB_PORTS n).nat pgBR Br.FDB_PORTS = n % 2 ^ 32 := by
    rw [State.nat, State.setNat_eq, State.reg_setReg_self, BitVec.toNat_ofNat]
  unfold State.fdbLookupNow
  cases s.fdbFind s.fdbMac with
  | none => exact ⟨rfl, hset 0⟩
  | some e => exact ⟨rfl, hset _⟩

theorem State.fdbCommand_taken (h : s.flag pgBR Br.FDB_STATUS 0 = false) (mac : Option Nat) (f : State → State) :
    s.fdbCommand mac f = { f s with bridge := { (f s).bridge with cmdAt := some (s.tln.now, mac) } }.setFlag
      pgBR Br.FDB_STATUS 0 true := by
  rw [State.fdbCommand, h]
  rfl

/-- A command that is taken makes the database busy, and else leaves what its meaning leaves. -/
theorem State.fdbCommand_leaves (h : s.flag pgBR Br.FDB_STATUS 0 = false) (mac : Option Nat) (f : State → State) :
    (s.fdbCommand mac f).flag pgBR Br.FDB_STATUS 0 = true ∧ (s.fdbCommand mac f).bridge.fdb = (f s).bridge.fdb ∧
    (s.fdbCommand mac f).nat pgBR Br.FDB_PORTS = (f s).nat pgBR Br.FDB_PORTS := by
  rw [State.fdbCommand_taken h]
  exact ⟨State.flag_setFlag_self _ _ _ (by decide), rfl, congrArg BitVec.toNat (State.reg_setReg_off _ (by decide) _)⟩

theorem State.fdbCommand_busy (h : s.flag pgBR Br.FDB_STATUS 0 = true) (mac : Option Nat) (f : State → State) :
    s.fdbCommand mac f = s.badValue pgBR := if_pos h

/-- The four commands, as their meaning on the counted state. -/
theorem exec_fdbCommands (h : s.reaches pgBR = true) (r : Requester) :
    exec (.fdbAdd r) s = .next s.counted.fdbAdd ∧ exec (.fdbDelete r) s = .next s.counted.fdbDelete ∧
    exec (.fdbLookup r) s = .next s.counted.fdbLookup ∧ exec (.fdbFlush r) s = .next s.counted.fdbFlush :=
  ⟨congrArg Host.Outcome.next (State.gate_eq h _), congrArg Host.Outcome.next (State.gate_eq h _),
    congrArg Host.Outcome.next (State.gate_eq h _), congrArg Host.Outcome.next (State.gate_eq h _)⟩

theorem State.fdbAge_reached {a : State} {mac : Nat} {e : FdbEntry} (he : s.fdbFind mac = some e) (hdynamic : e.fixed = false)
    (hage : s.fld pgBR Br.AGE_TIME (15, 0) ≠ 0)
    (hreach : s.reach (e.seen + s.fld pgBR Br.AGE_TIME (15, 0) * SEC * NS) = some a) : s.fdbAge mac = a.fdbRemove mac := by
  simp [State.fdbAge, he, hdynamic, hage, State.atTime_reached hreach]

theorem State.flag_setFlag_clear (s : State) (page off : Nat) {n : Nat} (hn : n < 32) :
    (s.setFlag page off n false).flag page off n = false := by
  rw [State.flag, State.setFlag_eq, State.reg_setReg_self, if_neg Bool.false_ne_true, bit_clearBit _ _ _ hn, decide_eq_true rfl,
    Bool.not_true, Bool.false_and]

theorem State.Keeps.bridge_eq {l : List Instr} {s t : State} {m : Nat} {c : Bool} (h : State.Keeps ⟨l, s, m, c⟩ t)
    (hm : m.testBit 28 = true := by decide) : t.bridge = s.bridge := h.bridgeIs hm

end

end Sys2Proof.Machine

open Sys2Proof Sys2Proof.Machine

/-- Settles O30: a command by what its meaning leaves of the entries on the counted state, the age of an entry by its removal. -/
theorem theForwardingDatabaseActs : Obligations.TheForwardingDatabaseActs := by
  refine ⟨fun s r => ?_, fun s r hreach hbusy => ?_, fun s => ?_, fun s a mac e => ?_⟩
  · intro a mac rest hreach hfree
    obtain ⟨hadd, hdelete, hlookup, hflush⟩ := exec_fdbCommands hreach r
    have hbridge : a.bridge = s.bridge := s.counted_same.bridge
    have hfind (x : Nat) : a.fdbFind x = s.fdbFind x := State.fdbFind_congr (congrArg BridgeState.fdb hbridge) x
    have hrest : a.fdbOthers = rest := by rw [State.fdbOthers, hbridge]
    have hset : a.fdbSet = rest.filter (fun e => sameSet e.mac mac) := by rw [State.fdbSet, hrest]
    rw [← hset, ← hrest]
    refine ⟨fun hroom => ?_, fun hfull hstatic => ?_, ?_, ?_, ?_⟩
    · obtain ⟨hstatus, hfdb, -⟩ := State.fdbCommand_leaves hfree (some mac) State.fdbAddNow
      obtain ⟨hown, hothers⟩ := State.fdbAddNow_finds hroom
      refine ⟨_, hadd, hstatus, ?_, fun x hx => ?_⟩
      · rw [← s.counted_tln]
        exact (State.fdbFind_congr hfdb mac).trans hown
      · exact (State.fdbFind_congr hfdb x).trans ((hothers x hx).trans (hfind x))
    · intro b
      rw [hadd, ← s.counted_tln]
      refine congrArg Host.Outcome.next ((State.fdbCommand_taken hfree _ _).trans ?_)
      rw [State.fdbAddNow_full hfull hstatic]
    · obtain ⟨hstatus, hfdb, -⟩ := State.fdbCommand_leaves hfree (some mac) (fun b => b.fdbRemove b.fdbMac)
      obtain ⟨hown, hothers⟩ := a.fdbRemove_finds mac
      exact ⟨_, hdelete, hstatus, (State.fdbFind_congr hfdb mac).trans hown,
        fun x hx => (State.fdbFind_congr hfdb x).trans ((hothers x hx).trans (hfind x))⟩
    · obtain ⟨hstatus, hfdb, hports⟩ := State.fdbCommand_leaves hfree (some mac) State.fdbLookupNow
      obtain ⟨hkept, hfound⟩ := a.fdbLookupNow_leaves
      refine ⟨_, hlookup, hstatus, ?_, ?_⟩
      · rw [← hbridge, ← hkept]
        exact hfdb
      · rw [← hfind]
        exact hports.trans hfound
    · obtain ⟨hstatus, hfdb, -⟩ := State.fdbCommand_leaves hfree none (fun b => b.setFdb (b.bridge.fdb.filter (·.fixed)))
      refine ⟨_, hflush, hstatus, ?_⟩
      rw [← hbridge]
      exact hfdb
  · obtain ⟨hadd, hdelete, hlookup, hflush⟩ := exec_fdbCommands hreach r
    have hdropped (mac : Option Nat) (f : State → State) := State.fdbCommand_busy hbusy mac f
    simp only [List.forall_mem_cons, List.not_mem_nil, false_imp_iff, implies_true, and_true]
    exact ⟨hadd.trans (congrArg Host.Outcome.next (hdropped _ _)), hdelete.trans (congrArg Host.Outcome.next (hdropped _ _)),
      hlookup.trans (congrArg Host.Outcome.next (hdropped _ _)), hflush.trans (congrArg Host.Outcome.next (hdropped _ _))⟩
  · exact ⟨_, rfl, s.flag_setFlag_clear _ _ (by decide), rfl⟩
  · intro age he hdynamic hage hreach
    have hbridge : a.bridge = s.bridge :=
      (State.reach_keeps (s.keeps_parts 0x10000000) (Keep.off_of_and (by decide)) a hreach).bridge_eq
    obtain ⟨hown, hothers⟩ := a.fdbRemove_finds mac.toNat
    exact ⟨_, congrArg Host.Outcome.next (State.fdbAge_reached he hdynamic hage hreach), hown,
      fun x hx => (hothers x hx).trans (State.fdbFind_congr (congrArg BridgeState.fdb hbridge) x)⟩

end

section
/-!
What a hardware write of memory and a writeback leave of the MACs (R338, R345, R555).
-/
set_option Elab.async false
namespace Sys2Proof.Machine

/-! ### Bits of a word -/

theorem bit_eq_testBit (w : Word) (n : Nat) : bit w n = (bits w (n, n)).testBit 0 := by
  rw [testBit_bits w (n, n) (by simp), Nat.zero_add]

/-- A bit outside of a bit range is as before when the range is set. -/
theorem bit_putBits_of_apart (w : Word) {f : Field} (hf : Field.fits f) (v : Nat) {n : Nat} (h : f.1 < n ∨ n < f.2) :
    bit (putBits w f v) n = bit w n := by
  rw [bit_eq_testBit, bits_putBits_of_apart w hf v (by simpa using h), ← bit_eq_testBit]

theorem bit_putBits_of_within (w : Word) {f : Field} (hf : Field.fits f) (v : Nat) {n : Nat} (h : n + f.2 ≤ f.1) :
    bit (putBits w f v) (n + f.2) = v.testBit n := by
  rw [← testBit_bits _ f h, bits_putBits_same w hf, Nat.testBit_mod_two_pow, decide_eq_true (by omega), Bool.true_and]

theorem State.flag_setFlag_of_ne (s : State) (page off : Nat) {n k : Nat} (hn : n < 32) (h : k ≠ n) (b : Bool) :
    (s.setFlag page off n b).flag page off k = s.flag page off k := by
  rw [State.flag, State.setFlag_eq, State.reg_setReg_self]
  cases b
  · exact (bit_clearBit _ n k hn).trans (by simp [h, State.flag])
  · exact (bit_setBit _ n k hn).trans (by simp [h, State.flag])

/-! ### The registers of the blocks from TLN to ETH -/

/-- A register of a block from TLN to ETH. -/
abbrev midKey (k : Nat) : Prop := pgTLN * 0x1000 ≤ k ∧ k < pgFLD 0 * 0x1000

theorem countKey_mid {k : Nat} (h : midKey k) : countKey k = false := by
  simp only [midKey, pgTLN, pgFLD] at h
  simp only [countKey, irqKey, Bool.or_eq_false_iff, Bool.and_eq_false_iff, decide_eq_false_iff_not, beq_eq_false_iff_ne]
  omega

theorem midKey_eth (m : Fin 4) {off : Nat} (ho : off < 0x4000) : midKey (regKey (pgETH m) off) := by
  simp only [midKey, regKey, pgTLN, pgFLD, pgETH]
  omega

theorem countKey_eth (m : Fin 4) {off : Nat} (ho : off < 0x4000) : countKey (regKey (pgETH m) off) = false :=
  countKey_mid (midKey_eth m ho)

/-- The pages behind those of ETH are none of these blocks'. -/
theorem not_midKey_of_le {page off : Nat} (h : pgFLD 0 ≤ page) : ¬midKey (regKey page off) := by
  simp only [midKey, regKey, pgTLN, pgFLD] at *
  omega

theorem not_midKey_que {j off : Nat} : ¬midKey (regKey (pgQUE j) off) :=
  not_midKey_of_le (by simp only [pgFLD, pgQUE]; omega)

/-- The registers of the blocks from TLN to ETH are as before, and so is what the MACs hold. -/
structure State.SparesMacs (s t : State) : Prop where
  regs : ∀ k, midKey k → t.at k = s.at k
  mac : t.mac = s.mac

section
variable {s t u : State}

theorem State.SparesMacs.refl (s : State) : s.SparesMacs s := ⟨fun _ _ => rfl, rfl⟩

theorem State.SparesMacs.trans (h : s.SparesMacs t) (g : t.SparesMacs u) : s.SparesMacs u :=
  ⟨fun k hk => (g.regs k hk).trans (h.regs k hk), g.mac.trans h.mac⟩

theorem State.SparesMacs.upd (h : s.SparesMacs t) (hlive : u.live = t.live) (hmac : u.mac = t.mac) : s.SparesMacs u :=
  h.trans ⟨fun k _ => by rw [State.at, hlive, State.at], hmac⟩

theorem State.SparesMacs.setReg (h : s.SparesMacs t) {page off : Nat} {v : Word} (hk : ¬midKey (regKey page off)) :
    s.SparesMacs (t.setReg page off v) :=
  h.trans ⟨fun _ hmid => State.at_setReg_ne _ _ fun he => hk (he ▸ hmid), State.setReg_mac _ _ _ _⟩

theorem State.SparesMacs.same (h : s.SparesMacs t) (g : t.SameButCount u) : s.SparesMacs u :=
  h.trans ⟨fun k hk => g.regs k (countKey_mid hk), g.mac⟩

theorem State.SparesMacs.irq (h : s.SparesMacs t) {n : Nat} : s.SparesMacs (t.irq n) := h.same (t.irq_same n).count

theorem State.SparesMacs.count (h : s.SparesMacs t) {n k : Nat} : s.SparesMacs (t.count n k) := h.same (t.count_same n k)

theorem State.SparesMacs.ite {p : Prop} [Decidable p] (h : s.SparesMacs t) (g : s.SparesMacs u) :
    s.SparesMacs (if p then t else u) := by
  split
  · exact h
  · exact g

theorem State.SparesMacs.fault (h : s.SparesMacs t) {page n : Nat} {i : PageInfo} (hi : pageInfo page = some i)
    (hb : i.block.reported = false) (hk : ¬midKey (regKey page PAGE_FAULT)) : s.SparesMacs (t.fault page n) := by
  rw [t.fault_eq_faultHere hi hb]
  exact (h.setReg hk).same (t.faultHere_same page n).count

end

/-! ### Queues, the event recorder, the Tsudex link and hardware writes -/

section
variable (s : State)

theorem State.queueLevels_sparesMacs (j : Nat) : s.SparesMacs (s.queueLevels j) :=
  State.SparesMacs.same (List.foldlRecOn (motive := s.SparesMacs) _ _ (.refl s) fun _ ha _ _ => ha.setReg not_midKey_que)
    (State.setLevel_same _ _ _).count

theorem State.setQueue_sparesMacs (j q : Nat) (x : Queue) : s.SparesMacs (s.setQueue j q x) := (State.SparesMacs.refl s).upd rfl rfl

theorem State.queueError_sparesMacs (j q b : Nat) : s.SparesMacs (s.queueError j q b) :=
  ((State.SparesMacs.refl s).setReg not_midKey_que).irq

theorem State.queuePtrReset_sparesMacs (j q : Nat) (busy : Bool) : s.SparesMacs (s.queuePtrReset j q busy) :=
  (((s.setQueue_sparesMacs j q _).setReg not_midKey_que).trans (State.queueError_sparesMacs _ j q 9)).trans
    (State.queueLevels_sparesMacs _ j)

theorem State.queuePut_sparesMacs (j q depth : Nat) (d : List Byte) (last : Bool) : s.SparesMacs (s.queuePut j q depth d last) := by
  have hdrop (a : State) (h : s.SparesMacs a) (x : Queue) : s.SparesMacs ((a.queueDrop j q).setQueue j q x) :=
    (h.setReg not_midKey_que).trans (State.setQueue_sparesMacs _ j q x)
  have herror := s.queueError_sparesMacs j q 8
  have hkeep := State.SparesMacs.refl s
  unfold State.queuePut
  dsimp only
  split
  · exact hdrop s hkeep _
  split
  · exact (s.setQueue_sparesMacs j q _).ite hkeep
  split
  · exact (hdrop s hkeep _).ite hkeep
  split
  · exact (hdrop _ herror _).ite (herror.trans (State.setQueue_sparesMacs _ j q _))
  · exact ((s.setQueue_sparesMacs j q _).setReg not_midKey_que).ite (s.setQueue_sparesMacs j q _)

theorem State.evrLost_sparesMacs : s.SparesMacs s.evrLost := by
  have hlost : s.SparesMacs ((s.inc pgEVR Evr.LOST_TOTAL).fault pgEVR Evr.F_LOST) :=
    ((State.SparesMacs.refl s).setReg (not_midKey_of_le (by decide))).fault pageInfo_pgEVR rfl (not_midKey_of_le (by decide))
  refine State.SparesMacs.count (hlost.upd ?_ ?_) <;> rfl

theorem State.evrPushSound_sparesMacs (code page kind group : Nat) : s.SparesMacs (s.evrPushSound code page kind group) := by
  have hput := (s.queuePut_sparesMacs 3 3 64 (pendingEntry code page kind group (stamp32 s.tln.now)) true).trans
    (State.queueLevels_sparesMacs _ 3)
  exact (hput.trans (State.evrLost_sparesMacs _)).ite (hput.setReg (not_midKey_of_le (by decide)))

theorem State.evrPush_sparesMacs (code page kind group : Nat) : s.SparesMacs (s.evrPush code page kind group) :=
  (s.evrPushSound_sparesMacs code page kind group).ite
    (((s.queuePtrReset_sparesMacs 3 3 false).trans (State.evrLost_sparesMacs _)).trans (State.evrPushSound_sparesMacs _ _ _ _ _))

theorem State.trigger_sparesMacs (code page : Nat) : s.SparesMacs (s.trigger code page) := by
  have hdrop : s.SparesMacs ((s.inc pgEVR Evr.DROPPED_TOTAL).fault pgEVR Evr.F_DROPPED) :=
    ((State.SparesMacs.refl s).setReg (not_midKey_of_le (by decide))).fault pageInfo_pgEVR rfl (not_midKey_of_le (by decide))
  have hspent (x : Tab Nat) : s.SparesMacs { s with evr := { s.evr with spent := x } } := (State.SparesMacs.refl s).upd rfl rfl
  unfold State.trigger
  split
  · exact .refl s
  dsimp only
  split
  · exact .refl s
  split
  · exact hdrop.upd rfl rfl
  split
  · exact State.SparesMacs.upd ((hspent _).setReg (not_midKey_of_le (by decide))) rfl rfl
  · exact (hspent _).trans (State.evrPush_sparesMacs _ _ _ _ _)

theorem State.tsxBacklog_sparesMacs : s.SparesMacs s.tsxBacklog := (State.SparesMacs.refl s).setReg (not_midKey_of_le (by decide))

theorem State.tsxQueue_sparesMacs (type plane : Nat) (payload : List Byte) : s.SparesMacs (s.tsxQueue type plane payload) := by
  have hput (a : State) (lane : Nat) (f : TsxFrame) : a.SparesMacs (a.tsxPut lane f) := by
    refine State.SparesMacs.count (State.SparesMacs.setReg ((State.SparesMacs.refl a).upd ?_ ?_) (not_midKey_of_le (by decide))) <;> rfl
  have hnumbered : s.SparesMacs { s with red := { s.red with
      txNext := (s.red.txNext + 1) % 2 ^ 32
      unacked := s.red.unacked ++ [⟨s.red.txNext, type, plane, s.nat pgRED Red.SYNC_GEN, payload, 0⟩] } } :=
    (State.SparesMacs.refl s).upd rfl rfl
  exact (hnumbered.trans (hput _ _ _)).trans (State.tsxBacklog_sparesMacs _)

theorem State.tsxBreak_sparesMacs : s.SparesMacs s.tsxBreak := by
  have hreport (a : State) : a.SparesMacs (((a.inc pgRED Red.BREAKS).fault pgRED Red.F_BREAK).trigger 0xE07 pgRED) :=
    (((State.SparesMacs.refl a).setReg (not_midKey_of_le (by decide))).fault pageInfo_pgRED rfl (not_midKey_of_le (by decide))).trans (State.trigger_sparesMacs _ _ _)
  have hdrop (x : List TsxFrame) : s.SparesMacs { s with red := { s.red with unacked := x, copying := false } } :=
    (State.SparesMacs.refl s).upd rfl rfl
  exact State.SparesMacs.trans (((hdrop _).trans (State.tsxQueue_sparesMacs _ _ _ _)).ite
    ((hdrop _).trans (State.tsxBacklog_sparesMacs _))) (hreport _)

theorem State.tell_sparesMacs (type : Nat) (payload : List Byte) : s.SparesMacs (s.tell type payload) := by
  have hsent := s.tsxQueue_sparesMacs type 0 payload
  have hkeep := State.SparesMacs.refl s
  exact State.SparesMacs.ite (hkeep.ite ((hsent.trans (State.tsxBreak_sparesMacs _)).ite hsent)) hkeep

theorem State.tellMem_sparesMacs (a : Nat) (l : List Byte) (n : Nat) : s.SparesMacs (s.tellMem a l n) := by
  fun_induction State.tellMem s a l n with
  | case1 => exact .refl _
  | case2 => exact .refl _
  | case3 s a l n _ ih => exact (s.tell_sparesMacs _ _).trans ih

theorem State.Keeps.mac_eq {l : List Instr} {s t : State} {m : Nat} {c : Bool} (h : State.Keeps ⟨l, s, m, c⟩ t)
    (hm : m.testBit 27 = true := by decide) : t.mac = s.mac := h.macIs hm

/-- A hardware write of memory, and what the partner is told of it. -/
theorem State.hwBytes_sparesMacs (a : Nat) (l : List Byte) : s.SparesMacs (s.hwBytes a l) := by
  have hkept := State.setBytes_keeps (a := a) (a2 := l) (s.keeps_parts 0x8000002) (Keep.off_of_and (by decide))
  have hset : s.SparesMacs (s.setBytes a l) := (State.SparesMacs.refl s).upd hkept.live_eq hkept.mac_eq
  exact (State.SparesMacs.refl s).ite ((hset.trans (State.tellMem_sparesMacs _ _ _ _)).ite hset)

end

/-! ### What a MAC holds -/

section
variable (s : State)

@[simp] theorem State.macOf_setMac (m : Nat) (v : MacState) : (s.setMac m v).macOf m = v := Tab.get_set_self _ _ _ _

@[simp] theorem State.macOf_modMac (m : Nat) (f : MacState → MacState) : (s.modMac m f).macOf m = f (s.macOf m) :=
  Tab.get_set_self _ _ _ _

@[simp] theorem State.mem_modMac (m : Nat) (f : MacState → MacState) : (s.modMac m f).mem = s.mem := by
  simp only [State.modMac, State.setMac]

@[simp] theorem State.reg_modMac (m : Nat) (f : MacState → MacState) (page off : Nat) :
    (s.modMac m f).reg page off = s.reg page off := rfl

theorem State.macOf_congr {s t : State} (h : t.mac = s.mac) (m : Nat) : t.macOf m = s.macOf m := by rw [State.macOf, h, State.macOf]

@[simp] theorem State.macOf_setReg (page off : Nat) (v : Word) (m : Nat) : (s.setReg page off v).macOf m = s.macOf m :=
  State.macOf_congr (State.setReg_mac _ _ _ _) m

end

/-! ### Writebacks (R338, R345) -/

/-- A register that the progress of TX rings shows in: RING_IRQ, and those of page +1. -/
abbrev txRingReg (off : Nat) : Prop := off = Eth.RING_IRQ ∨ off / 0x1000 = 1

/-- But for the progress of its TX rings, the registers of MAC `m` are as before, and so are the frame it sends and those that wait. -/
structure State.SparesMac (m : Fin 4) (s t : State) : Prop where
  regs : ∀ off, off < 0x4000 → ¬txRingReg off → t.reg (pgETH m) off = s.reg (pgETH m) off
  sending : (t.macOf m).sending = (s.macOf m).sending
  waiting : (t.macOf m).waiting = (s.macOf m).waiting

section
variable {m : Fin 4} {s t u : State}

theorem State.SparesMac.refl (s : State) : s.SparesMac m s := ⟨fun _ _ _ => rfl, rfl, rfl⟩

theorem State.SparesMac.trans (h : s.SparesMac m t) (g : t.SparesMac m u) : s.SparesMac m u :=
  ⟨fun off ho hr => (g.regs off ho hr).trans (h.regs off ho hr), g.sending.trans h.sending, g.waiting.trans h.waiting⟩

theorem State.SparesMac.of_macs (h : s.SparesMacs t) : s.SparesMac m t :=
  ⟨fun _ ho _ => h.regs _ (midKey_eth m ho), congrArg MacState.sending (State.macOf_congr h.mac m),
    congrArg MacState.waiting (State.macOf_congr h.mac m)⟩

theorem State.SparesMac.same (h : s.SparesMac m t) (g : t.SameButCount u) : s.SparesMac m u :=
  h.trans (.of_macs ((State.SparesMacs.refl t).same g))

/-- Registers of the rings alone change. -/
theorem State.SparesMac.setReg (h : s.SparesMac m t) {off : Nat} {v : Word} (hr : txRingReg off) :
    s.SparesMac m (t.setReg (pgETH m) off v) :=
  h.trans ⟨fun o _ ho => State.reg_setReg_off _ (fun he : o = off => ho (he ▸ hr)) _, rfl, rfl⟩

/-- What changes of the MAC is neither the frame it sends nor those that wait. -/
theorem State.SparesMac.modMac (h : s.SparesMac m t) {f : MacState → MacState} (hsending : (f (t.macOf m)).sending = (t.macOf m).sending)
    (hwaiting : (f (t.macOf m)).waiting = (t.macOf m).waiting) : s.SparesMac m (t.modMac m f) :=
  h.trans ⟨fun _ _ _ => rfl, (congrArg MacState.sending (State.macOf_modMac _ _ _)).trans hsending,
    (congrArg MacState.waiting (State.macOf_modMac _ _ _)).trans hwaiting⟩

theorem State.SparesMac.ite {p : Prop} [Decidable p] (h : s.SparesMac m t) (g : s.SparesMac m u) :
    s.SparesMac m (if p then t else u) := by
  split
  · exact h
  · exact g

theorem State.hwBytes_sparesMac (s : State) (a : Nat) (l : List Byte) : s.SparesMac m (s.hwBytes a l) :=
  .of_macs (s.hwBytes_sparesMacs a l)

/-- The registers of a TX ring that a writeback, a completion and an interrupt of the ring change. -/
theorem txRingReg_ring {r : Nat} (hr : r < 4) :
    txRingReg (pendOff r) ∧ txRingReg (Eth.TXR_HEAD r) ∧ txRingReg (Eth.TXR_FRAMES r) := by
  simp only [txRingReg, pendOff, if_pos hr, Eth.TXR_PEND, Eth.TXR_HEAD, Eth.TXR_FRAMES]
  omega

/-- A TX ring raises its interrupt. -/
theorem State.ringRaise_sparesMac (s : State) {r : Nat} (hr : r < 4) : s.SparesMac m (s.ringRaise m r) := by
  have hregs : s.SparesMac m ((s.setFlag (pgETH m) Eth.RING_IRQ (r % 4 + 8 * (r / 4)) true).setNat (pgETH m) (pendOff r) 0) :=
    ((State.SparesMac.refl s).setReg (.inl rfl)).setReg (txRingReg_ring hr).1
  refine State.SparesMac.same ?_ (State.setLevel_same _ _ _).count
  exact hregs.modMac rfl rfl

theorem State.ringComplete_sparesMac (s : State) {r : Nat} (hr : r < 4) : s.SparesMac m (s.ringComplete m r) := by
  have hpend : s.SparesMac m (s.setNat (pgETH m) (pendOff r) (s.nat (pgETH m) (pendOff r) + 1)) :=
    (State.SparesMac.refl s).setReg (txRingReg_ring hr).1
  have htimed {p : Prop} [Decidable p] (f : MacState → MacState) (hf : ∀ x, (f x).sending = x.sending ∧ (f x).waiting = x.waiting) :
      s.SparesMac m (if p then (s.setNat (pgETH m) (pendOff r) (s.nat (pgETH m) (pendOff r) + 1)).modMac m f
        else s.setNat (pgETH m) (pendOff r) (s.nat (pgETH m) (pendOff r) + 1)) :=
    (hpend.modMac (hf _).1 (hf _).2).ite hpend
  unfold State.ringComplete
  dsimp only
  split
  · exact .refl s
  · have hdone := htimed (p := s.nat (pgETH m) (pendOff r) + 1 = 1)
      (fun x => { x with timers := Tab.set (fun _ => none) x.timers r (some (unitsOf s.tln.now)) }) fun _ => ⟨rfl, rfl⟩
    exact (hdone.trans (State.ringRaise_sparesMac _ hr)).ite hdone

theorem State.writeBack_sparesMac (s : State) {r : Nat} (hr : r < 4) (n status : Nat) (stamp : Option Nat) (irq : Bool) :
    s.SparesMac m (s.writeBack m r n status stamp irq) := by
  obtain ⟨-, hhead, hframes⟩ := txRingReg_ring hr
  have hdone (a : State) (base i : Nat) (w : Option Nat) : a.SparesMac m (a.writeDone base i w) := a.hwBytes_sparesMac _ _
  have hchain (l : List Nat) (f : Nat → Nat) (base : Nat) : s.SparesMac m (l.foldl (fun a i => a.writeDone base (f i) none) s) :=
    List.foldlRecOn (motive := s.SparesMac m) _ _ (.refl s) fun _ ha _ _ => ha.trans (hdone _ _ _ _)
  have hpassed (a : State) (ha : s.SparesMac m a) (head frames : Word) : s.SparesMac m
      (let b := (a.setReg (pgETH m) (Eth.TXR_HEAD r) head).setReg (pgETH m) (Eth.TXR_FRAMES r) frames
      if irq then b.ringComplete m r else b) :=
    have hmoved := (ha.setReg hhead).setReg hframes
    (hmoved.trans (State.ringComplete_sparesMac _ hr)).ite hmoved
  cases stamp with
  | none => exact hpassed _ ((hchain _ _ _).trans (hdone _ _ _ _)) _ _
  | some t => exact hpassed _ (((hchain _ _ _).trans (hdone _ _ _ _)).trans (State.hwBytes_sparesMac _ _ _)) _ _

theorem State.unitDone_sparesMac (s : State) (u : TxUnit) (status : Nat) : s.SparesMac m (s.unitDone m u status) := by
  unfold State.unitDone
  split
  · next hr => exact s.writeBack_sparesMac hr _ _ _ _
  · exact .refl s

end

end Sys2Proof.Machine
end

section
/-!
Pauses, moderation, links and preemption of a MAC (R341 to R345, R361, R400), and O29.
-/
set_option Elab.async false
namespace Sys2Proof.Machine

/-! ### Pauses (R342 to R344) -/

section
variable (s : State)

theorem State.setPaused_mac (m : Nat) (b : Bool) : (s.setPaused m b).mac = s.mac := by simp [State.setPaused]

/-- The end of a pause, and a PAUSE of 0. -/
theorem State.pauseFrom_zero (m x : Nat) : s.pauseFrom m x 0 = (s.modMac m (fun y => { y with pauseEnd := none })).setPaused m false :=
  if_pos rfl

theorem State.pauseFrom_zero_leaves (m x : Nat) : let t := s.pauseFrom m x 0
    t.macOf m = { s.macOf m with pauseEnd := none } ∧ t.sts (pgETH m) Eth.S_PAUSED = 0 ∧
    t.flag (pgETH m) Eth.LINK_STATUS 3 = false ∧
    ∀ off, off ≠ PAGE_STATUS → off ≠ Eth.LINK_STATUS → t.reg (pgETH m) off = s.reg (pgETH m) off := by
  rw [State.pauseFrom_zero]
  refine ⟨(State.macOf_congr (State.setPaused_mac _ m false) m).trans (State.macOf_modMac _ _ _),
    State.sts_setSts_self _ _ (by decide) 0, ?_, fun off hs hl => ?_⟩
  · exact (congrArg (bit · 3) (State.reg_setReg_off _ (by decide) _)).trans (State.flag_setFlag_clear _ _ _ (by decide))
  · exact (State.reg_setReg_off _ hs _).trans (State.reg_setReg_off _ hl _)

theorem State.pauseEnds_reached {s a : State} {m x : Nat} (hpause : (s.macOf m).pauseEnd = some x)
    (hreach : s.reach (timeOfUnits x) = some a) : s.pauseEnds m = a.pauseFrom m 0 0 := by
  rw [State.pauseEnds, hpause]
  exact State.atTime_reached hreach _

/-- A source other than STR offers its frame behind those that wait. -/
theorem State.waiting_macQueue (m : Nat) {u : TxUnit} (h : u.src ≠ 4) :
    ((s.macQueue m u).macOf m).waiting = (s.macOf m).waiting ++ [u] := by
  rw [State.macQueue, State.macOf_modMac]
  exact if_neg h

section
variable {s} {m : Nat} (hgen : s.flag (pgETH m) Eth.PAUSE_CTRL 1 = true) (hactive : s.active (pgETH m) = true)
include hgen hactive

theorem State.pauseSend_xoff (hxoff : (s.macOf m).xoff = none)
    (hfill : 32 * s.fld (pgETH m) Eth.PAUSE_LEVEL (15, 0) ≤ (s.queue 0 m).words.length) :
    s.pauseSend m = (let q := s.fld (pgETH m) Eth.PAUSE_CTRL (31, 16)
      (s.macQueue m (s.pauseFrame m q)).modMac m (fun y => { y with xoff := some (unitsOf s.tln.now + s.quantum m q / 2) })) := by
  simp [State.pauseSend, hgen, hactive, hxoff, hfill]

theorem State.pauseSend_xon {x : Nat} (hxoff : (s.macOf m).xoff = some x)
    (hfill : (s.queue 0 m).words.length ≤ 32 * s.fld (pgETH m) Eth.PAUSE_LEVEL (31, 16)) :
    s.pauseSend m = (s.macQueue m (s.pauseFrame m 0)).modMac m (fun y => { y with xoff := none }) := by
  simp [State.pauseSend, hgen, hactive, hxoff, hfill]

end

/-- The generator sends a PAUSE frame, and notes whether and when it sends the next one. -/
theorem State.pauseSent_leaves (m q : Nat) (x : Option Nat) :
    let t := (s.macQueue m (s.pauseFrame m q)).modMac m (fun y => { y with xoff := x })
    (t.macOf m).waiting = (s.macOf m).waiting ++ [s.pauseFrame m q] ∧ (t.macOf m).xoff = x := by
  dsimp only
  rw [State.macOf_modMac]
  exact ⟨s.waiting_macQueue m (u := s.pauseFrame m q) (by simp [State.pauseFrame, TxUnit.plain]), rfl⟩

end

/-! ### Moderation (R345) -/

theorem pendOff_lt (i : Fin 8) : pendOff i < 0x4000 ∧ pendOff i ≠ Eth.RING_IRQ := by
  revert i
  decide

theorem State.ringRaise_leaves (s : State) (m : Fin 4) (i : Fin 8) : let t := s.ringRaise m i
    t.nat (pgETH m) (pendOff i) = 0 ∧ t.flag (pgETH m) Eth.RING_IRQ (i % 4 + 8 * (i / 4)) = true ∧
    Tab.get (fun _ => none) (t.macOf m).timers i = none := by
  obtain ⟨hpend, hirq⟩ := pendOff_lt i
  unfold State.ringRaise State.ringLevel
  dsimp only
  generalize hb : State.modMac (State.setNat _ _ _ _) _ _ = b
  have hlevel := (b.setLevel_same (222 + 10 * m + i) (b.flag (pgETH m) Eth.RING_IRQ (i % 4 + 8 * (i / 4)))).count
  refine ⟨?_, ?_, ?_⟩
  · rw [State.nat, hlevel.reg (countKey_eth m hpend), ← hb]
    exact congrArg BitVec.toNat (State.reg_setReg_self _ _ _ _)
  · rw [State.flag, hlevel.reg (countKey_eth m (by decide)), ← hb]
    exact (congrArg (bit · _) (State.reg_setReg_off _ hirq.symm _)).trans (s.flag_setFlag_self _ _ (by omega))
  · rw [State.macOf_congr hlevel.mac, ← hb, State.macOf_modMac]
    dsimp only
    exact Tab.get_set_self _ _ _ _

theorem State.modTimer_reached {s a : State} {m i x : Nat} (htimer : Tab.get (fun _ => none) (s.macOf m).timers i = some x)
    (hus : s.fld (pgETH m) (modOff i) (31, 16) ≠ 0)
    (hreach : s.reach (timeOfUnits (x + s.fld (pgETH m) (modOff i) (31, 16) * 1000 * LU)) = some a) :
    s.modTimer m i = if a.nat (pgETH m) (pendOff i) = 0 then a else a.ringRaise m i := by
  simp only [State.modTimer, htimer, hus, if_false, State.atTime_reached hreach]

/-! ### Links (R361, R362, R400) -/

section
variable (s : State)

theorem State.macLink_congr {s t : State} {m : Nat} (h : t.reg (pgETH m) Eth.LINK_STATUS = s.reg (pgETH m) Eth.LINK_STATUS) :
    t.macLink m = s.macLink m := congrArg (bit · 0) h

/-- LINK_STATUS is written in a range `f`. -/
theorem State.macLink_setFld (m : Nat) {f : Field} (n : Nat) : (s.setFld (pgETH m) Eth.LINK_STATUS f n).macLink m
    = bit (putBits (s.reg (pgETH m) Eth.LINK_STATUS) f n) 0 := congrArg (bit · 0) (State.reg_setReg_self _ _ _ _)

theorem State.macLink_setFlag (m : Nat) {n : Nat} (hn : n < 32) (h : 0 ≠ n) (b : Bool) :
    (s.setFlag (pgETH m) Eth.LINK_STATUS n b).macLink m = s.macLink m := s.flag_setFlag_of_ne _ _ hn h b

theorem State.macLink_setSts (m : Nat) (f : Field) (n : Nat) : (s.setSts (pgETH m) f n).macLink m = s.macLink m :=
  State.macLink_congr (State.reg_setReg_off _ (by decide) _)

theorem State.macLink_setPreempt (m n : Nat) : (s.setPreempt m n).macLink m = s.macLink m :=
  (s.macLink_setFld m n).trans (bit_putBits_of_apart _ (by decide) _ (.inr (by decide)))

theorem State.preemptState_setPreempt (m : Nat) {n : Nat} (hn : n < 4) : (s.setPreempt m n).preemptState m = n := by
  rw [State.preemptState, State.fld, State.setPreempt, State.setFld_eq, State.reg_setReg_self, bits_putBits_same _ (by decide)]
  exact Nat.mod_eq_of_lt hn

/-- Verification of preemption leaves the link, when it came up, and memory. -/
theorem State.verifyBegin_leaves (m : Nat) : let t := s.verifyBegin m
    t.macLink m = s.macLink m ∧ (t.macOf m).settled = (s.macOf m).settled ∧ (t.macOf m).linkAt = (s.macOf m).linkAt ∧
    t.mem = s.mem := by
  unfold State.verifyBegin
  dsimp only
  split
  · exact ⟨s.macLink_setPreempt m 0, rfl, rfl, rfl⟩
  split
  · exact ⟨s.macLink_setPreempt m 2, rfl, rfl, rfl⟩
  · rw [State.macOf_modMac]
    exact ⟨s.macLink_setPreempt m 1, rfl, rfl, rfl⟩

/-- The link is up from now on, and reception has not settled. -/
def State.linkRisen (m : Nat) : State :=
  (((s.setFld (pgETH m) Eth.LINK_STATUS (1, 0) 3).setFlag (pgETH m) Eth.LINK_STATUS 2
    (s.fld (pgETH m) Eth.MAC_MODE (2, 1) == 1)).setSts (pgETH m) Eth.S_LINK_UP 1).modMac m
    (fun x => { x with linkAt := unitsOf s.tln.now, settled := false })

theorem State.linkChange_up {s : State} {m : Nat} (hlink : s.macLink m = false) (hen : s.enabled (pgETH m) = true) :
    s.linkChange m true = ((s.linkRisen m).verifyBegin m).irq (220 + 10 * m) := by
  simp [State.linkChange, hlink, hen, State.linkRisen]

theorem State.macLink_linkRisen (m : Nat) : (s.linkRisen m).macLink m = true := by
  rw [State.linkRisen, State.macLink_congr (State.reg_modMac _ _ _ _ _), State.macLink_setSts,
    State.macLink_setFlag _ _ (by decide) (by decide), State.macLink_setFld]
  exact bit_putBits_of_within _ (f := (1, 0)) (by decide) 3 (n := 0) (by decide)

theorem State.linkRisen_leaves (m : Nat) : (s.linkRisen m).mem = s.mem ∧
    (s.linkRisen m).macOf m = { s.macOf m with linkAt := unitsOf s.tln.now, settled := false } := by
  simp [State.linkRisen]

theorem State.linkRises (m : Fin 4) : let t := ((s.linkRisen m).verifyBegin m).irq (220 + 10 * m)
    t.macLink m = true ∧ (t.macOf m).settled = false ∧ (t.macOf m).linkAt = unitsOf s.tln.now ∧ t.mem = s.mem := by
  obtain ⟨hlink, hsettled, hat, hmem⟩ := (s.linkRisen m).verifyBegin_leaves m
  have hirq := (((s.linkRisen m).verifyBegin m).irq_same (220 + 10 * m)).count
  obtain ⟨hmem', hrisen⟩ := s.linkRisen_leaves m
  dsimp only
  rw [State.macOf_congr hirq.mac, hsettled, hat, hrisen]
  refine ⟨?_, rfl, rfl, hirq.mem.trans (hmem.trans hmem')⟩
  exact (State.macLink_congr (hirq.reg (countKey_eth m (by decide)))).trans (hlink.trans (s.macLink_linkRisen m))

/-- What was in transmission or waited is lost, and the registers stay but for those of the rings. -/
theorem State.dropTraffic_leaves (m : Fin 4) : let t := s.dropTraffic m
    (t.macOf m).sending = none ∧ (t.macOf m).waiting = [] ∧
    ∀ off, off < 0x4000 → ¬txRingReg off → t.reg (pgETH m) off = s.reg (pgETH m) off := by
  let lost : State := s.modMac m (fun x => { x with
    sending := none, burst := none, halted := none, waiting := [], pauseNext := none, xoff := none })
  have hlost : lost.macOf m = { s.macOf m with
      sending := none, burst := none, halted := none, waiting := [], pauseNext := none, xoff := none } := State.macOf_modMac _ _ _
  have hdone (l : List TxUnit) : lost.SparesMac m (l.foldl (fun a u => a.unitDone m u 4) lost) :=
    List.foldlRecOn (motive := lost.SparesMac m) _ _ (.refl _) fun _ ha u _ => ha.trans (State.unitDone_sparesMac _ u 4)
  exact ⟨(hdone _).sending.trans (congrArg MacState.sending hlost), (hdone _).waiting.trans (congrArg MacState.waiting hlost),
    (hdone _).regs⟩

/-- A fault of a MAC shows in its PAGE_FAULT, and leaves what the MACs hold. -/
theorem State.fault_eth_leaves (m : Fin 4) (n : Nat) : (s.fault (pgETH m) n).mac = s.mac ∧
    ∀ off, off < 0x4000 → off ≠ PAGE_FAULT → (s.fault (pgETH m) n).reg (pgETH m) off = s.reg (pgETH m) off := by
  rw [State.fault_eq_faultHere _ (pageInfo_pgETH m) rfl]
  have hhere := (s.faultHere_same (pgETH m) n).count
  exact ⟨hhere.mac, fun off ho hf => (hhere.reg (countKey_eth m ho)).trans (State.reg_setReg_off _ hf _)⟩

/-- The link is down, its traffic lost and its pause over. -/
def State.linkCut (m : Nat) : State :=
  ((s.setFld (pgETH m) Eth.LINK_STATUS (2, 0) 0).setSts (pgETH m) Eth.S_LINK_UP 0).dropTraffic m |>.pauseFrom m 0 0

/-- Its loss is counted, and reported. -/
def State.linkLost (m : Nat) : State :=
  (((s.setPreempt m 0).inc (pgETH m) Eth.LINK_DOWNS).modMac m (fun x => { x with settled := false })).fault (pgETH m) Eth.F_LINK_LOST
    |>.irq (220 + 10 * m)

theorem State.linkChange_down {s : State} {m : Nat} (hlink : s.macLink m = true) :
    s.linkChange m false = (s.linkCut m).linkLost m := by
  simp [State.linkChange, hlink, State.linkCut, State.linkLost]

theorem State.linkCut_leaves (m : Fin 4) : let t := s.linkCut m
    t.macLink m = false ∧ (t.macOf m).sending = none ∧ (t.macOf m).waiting = [] ∧
    t.reg (pgETH m) Eth.LINK_DOWNS = s.reg (pgETH m) Eth.LINK_DOWNS := by
  let down : State := (s.setFld (pgETH m) Eth.LINK_STATUS (2, 0) 0).setSts (pgETH m) Eth.S_LINK_UP 0
  obtain ⟨hsending, hwaiting, hdropped⟩ := down.dropTraffic_leaves m
  obtain ⟨hmac, -, -, hpaused⟩ := (down.dropTraffic m).pauseFrom_zero_leaves m 0
  refine ⟨?_, (congrArg MacState.sending hmac).trans hsending, (congrArg MacState.waiting hmac).trans hwaiting, ?_⟩
  · have hpause : (s.linkCut m).macLink m = (down.dropTraffic m).macLink m := by
      rw [State.linkCut, State.pauseFrom_zero, State.setPaused, State.macLink_setSts,
        State.macLink_setFlag _ _ (by decide) (by decide), State.macLink_congr (State.reg_modMac _ _ _ _ _)]
    rw [hpause, State.macLink_congr (hdropped _ (by decide) (by decide)), State.macLink_setSts, State.macLink_setFld]
    exact bit_putBits_of_within _ (f := (2, 0)) (by decide) 0 (n := 0) (by decide)
  · refine (hpaused _ (by decide) (by decide)).trans ((hdropped _ (by decide) (by decide)).trans ?_)
    exact (State.reg_setReg_off _ (by decide) _).trans (State.reg_setReg_off _ (by decide) _)

theorem State.linkLost_leaves (m : Fin 4) : let t := s.linkLost m
    t.macLink m = s.macLink m ∧ t.macOf m = { s.macOf m with settled := false } ∧
    t.reg (pgETH m) Eth.LINK_DOWNS = s.reg (pgETH m) Eth.LINK_DOWNS + 1 := by
  let counted : State :=
    ((s.setPreempt m 0).inc (pgETH m) Eth.LINK_DOWNS).modMac m (fun x => { x with settled := false })
  obtain ⟨hmac, hfault⟩ := counted.fault_eth_leaves m Eth.F_LINK_LOST
  have hirq := ((counted.fault (pgETH m) Eth.F_LINK_LOST).irq_same (220 + 10 * m)).count
  have hreg (off : Nat) (ho : off < 0x4000) (hf : off ≠ PAGE_FAULT) :
      (s.linkLost m).reg (pgETH m) off = counted.reg (pgETH m) off := (hirq.reg (countKey_eth m ho)).trans (hfault off ho hf)
  refine ⟨?_, ?_, ?_⟩
  · rw [State.macLink_congr (hreg _ (by decide) (by decide)), State.macLink_congr (State.reg_modMac _ _ _ _ _), State.inc_eq,
      State.macLink_congr (State.reg_setReg_off (o := Eth.LINK_STATUS) _ (by decide) _), State.macLink_setPreempt]
  · rw [State.linkLost, State.macOf_congr hirq.mac, State.macOf_congr hmac]
    simp [counted, State.setPreempt]
  · rw [hreg _ (by decide) (by decide), State.reg_modMac, State.inc_eq, State.reg_setReg_self]
    exact congrArg (· + 1) (State.reg_setReg_off _ (by decide) _)

theorem State.linkSettle_reached {s a : State} {m : Nat} (hlink : s.macLink m = true)
    (hreach : s.reach (timeOfUnits ((s.macOf m).linkAt + 1000000 * LU)) = some a) :
    s.linkSettle m = a.modMac m (fun x => { x with settled := true }) := by
  simp [State.linkSettle, hlink, State.atTime_reached hreach]

end

/-! ### Preemption (R341) -/

section
variable {s a : State} {m : Nat} (hverify : s.preemptState m = 1)
include hverify

theorem State.preemptVerify_answered : s.preemptVerify m true = s.setPreempt m 2 := by
  simp [State.preemptVerify, hverify]

theorem State.preemptVerify_reached (hreach : s.reach (timeOfUnits ((s.macOf m).verifyAt
      + s.fld (pgETH m) Eth.PREEMPT_CTRL (15, 8) * 1000000 * LU)) = some a) : s.preemptVerify m false =
    if (s.macOf m).tries = 2 then (a.setPreempt m 3).fault (pgETH m) Eth.F_VERIFY_FAIL
    else a.modMac m (fun x => { x with tries := (s.macOf m).tries + 1, verifyAt := unitsOf a.tln.now }) := by
  simp [State.preemptVerify, hverify, State.atTime_reached hreach]

end

end Sys2Proof.Machine

open Sys2Proof Sys2Proof.Machine

/-- Settles O29: each happening by what the operation that it brings about leaves; a link that goes down by what its lost frames leave. -/
theorem linksAct : Obligations.LinksAct := by
  refine ⟨fun s a m x hpause hreach => ?_, fun s m => ?_, fun s a m i x => ?_, fun s m hlink hen => ?_, fun s m hlink => ?_,
    fun s a m hlink hreach => ?_, fun s m hverify => ⟨?_, fun a hreach => ⟨fun htries => ?_, fun htries => ?_⟩⟩⟩
  · obtain ⟨hmac, hsts, hflag, -⟩ := a.pauseFrom_zero_leaves m 0
    exact ⟨_, congrArg Host.Outcome.next (State.pauseEnds_reached hpause hreach), congrArg MacState.pauseEnd hmac, hsts, hflag⟩
  · intro p fill q hgen hactive
    exact ⟨fun hxoff hfill => ⟨_, congrArg Host.Outcome.next (State.pauseSend_xoff hgen hactive hxoff hfill), s.pauseSent_leaves m q _⟩,
      fun x hxoff hfill => ⟨_, congrArg Host.Outcome.next (State.pauseSend_xon hgen hactive hxoff hfill), s.pauseSent_leaves m 0 _⟩⟩
  · intro us htimer hus hreach
    have hreached := State.modTimer_reached htimer hus hreach
    exact ⟨fun hpend => ⟨_, congrArg Host.Outcome.next (hreached.trans (if_neg hpend)), a.ringRaise_leaves m i⟩,
      fun hpend => congrArg Host.Outcome.next (hreached.trans (if_pos hpend))⟩
  · exact ⟨_, congrArg Host.Outcome.next (State.linkChange_up hlink hen), s.linkRises m⟩
  · obtain ⟨hdown, hsending, hwaiting, hcount⟩ := s.linkCut_leaves m
    obtain ⟨hkept, hmac, hcounted⟩ := (s.linkCut m).linkLost_leaves m
    exact ⟨_, congrArg Host.Outcome.next (State.linkChange_down hlink), hkept.trans hdown,
      (congrArg MacState.sending hmac).trans hsending, (congrArg MacState.waiting hmac).trans hwaiting,
      hcounted.trans (congrArg (· + 1) hcount)⟩
  · exact ⟨_, congrArg Host.Outcome.next (State.linkSettle_reached hlink hreach), congrArg MacState.settled (State.macOf_modMac _ _ _),
      rfl⟩
  · exact ⟨_, congrArg Host.Outcome.next (State.preemptVerify_answered hverify), s.preemptState_setPreempt m (by decide)⟩
  · exact congrArg Host.Outcome.next ((State.preemptVerify_reached hverify hreach).trans (if_pos htries))
  · have hmac := a.macOf_modMac m (fun x => { x with tries := (s.macOf m).tries + 1, verifyAt := unitsOf a.tln.now })
    exact ⟨_, congrArg Host.Outcome.next ((State.preemptVerify_reached hverify hreach).trans (if_neg htries)),
      congrArg MacState.tries hmac, congrArg MacState.verifyAt hmac⟩

end

section
/-!
Sending and receiving of a MAC (R331, R334, R335, R337, R338, R342, R348 to R350), and O28.
-/
set_option Elab.async false
namespace Sys2Proof.Machine

/-! ### Rings (R337, R350) -/

section
variable {s : State} {m r v : Nat}

theorem State.txTail_below (h : v < s.txSize m r) : let t := s.txTail m r v
    t.nat (pgETH m) (Eth.TXR_TAIL r) = v ∧
    (s.chainSpan m r (s.heldDescs m r) = none → Tab.get (fun _ => none) (t.macOf m).headAt r = some (unitsOf s.tln.now)) := by
  have hword : v < 2 ^ 32 := h.trans (Nat.lt_trans (Nat.mod_lt _ (by decide)) (by decide : 2 ^ (12 + 1 - 0) < 2 ^ 32))
  have htail : (s.setNat (pgETH m) (Eth.TXR_TAIL r) v).nat (pgETH m) (Eth.TXR_TAIL r) = v := by
    rw [State.nat, State.setNat_eq, State.reg_setReg_self, BitVec.toNat_ofNat, Nat.mod_eq_of_lt hword]
  unfold State.txTail
  dsimp only
  rw [if_neg (Nat.not_le.2 h)]
  split
  · refine ⟨htail, fun _ => ?_⟩
    rw [State.newHead, State.macOf_modMac]
    dsimp only
    exact Tab.get_set_self _ _ _ _
  · next hchain => exact ⟨htail, fun hnone => absurd (Option.isNone_iff_eq_none.2 hnone) hchain⟩

theorem State.txTail_beyond (h : s.txSize m r ≤ v) : s.txTail m r v = s.badValue (pgETH m + 1) := if_pos h

theorem State.rxTail_below (h : v < s.rxSize m r) : s.rxTail m r v = s.setNat (pgETH m) (Eth.RXR_TAIL r) v :=
  if_neg (Nat.not_le.2 h)

theorem State.rxTail_beyond (h : s.rxSize m r ≤ v) : s.rxTail m r v = s.badValue (pgETH m + 2) := if_pos h

end

/-- The writes of a ring's TAIL, as their meaning on the counted state. -/
theorem exec_tailWrites {s : State} {m : Fin 4} (h : s.reaches (pgETH m) = true) (req : Requester) (r : Fin 4) (v : Word) :
    exec (.txrTailWrite req m r v) s = .next (s.counted.txTail m r (bits v (11, 0))) ∧
    exec (.rxrTailWrite req m r v) s = .next (s.counted.rxTail m r (bits v (11, 0))) :=
  ⟨congrArg Host.Outcome.next (State.gate_eq h _), congrArg Host.Outcome.next (State.gate_eq h _)⟩

/-! ### The choice of the next frame (R331, R334) -/

section
variable {s a : State} {m x : Nat} {u : TxUnit}

theorem State.txStart_reached (hactive : s.active (pgETH m) = true) (hready : (s.ringsSettle m).macReady m = true)
    (hreach : (s.ringsSettle m).reach (timeOfUnits ((s.ringsSettle m).nextStart m ((s.ringsSettle m).macOf m).sendEnd)) = some a) :
    s.txStart m = a.txStartNow m := by
  simp [State.txStart, hactive, hready, State.atTime_reached hreach]

/-- With no placed frame, no burst and no preempted frame the best one that waits starts. -/
theorem State.txStartNow_best (hplaced : s.nextPlaced m = none) (hhalted : (s.macOf m).halted = none)
    (hburst : (s.macOf m).burst = none) (hbest : bestOf (s.macOf m).served (s.ready m (unitsOf s.tln.now)) = some u) :
    s.txStartNow m = s.plainStart m (unitsOf s.tln.now) u := by
  simp [State.txStartNow, State.txOther, hplaced, hhalted, hburst, hbest]

theorem State.plainStart_muted (h : s.muted u = true) : s.plainStart m x u = s.takeHead m u := if_pos h

theorem State.plainStart_plain (h : s.muted u = false) (hlaunch : u.launch = none) :
    s.plainStart m x u = (s.takeHead m u).txBegin m (s.startFrom m x) u := by
  simp [State.plainStart, State.unplacedNote, h, hlaunch]

/-- A frame too late to be placed is counted, by its ring and for the MAC. -/
def State.unplacedCounted (s : State) (m : Nat) (u : TxUnit) : State :=
  (if u.src < 4 then s.inc (pgETH m) (Eth.TXR_UNPLACED u.src) else s).count (720 + 8 * m + 7) 1

theorem State.plainStart_unplaced (h : s.muted u = false) {l : Nat} (hlaunch : u.launch = some l) : s.plainStart m x u
    = ((s.unplacedCounted m u).takeHead m u).txBegin m (s.startFrom m x) { u with launch := none, status := 5 } := by
  simp [State.plainStart, State.unplacedNote, State.unplacedCounted, h, hlaunch]

theorem State.reg_unplacedCounted (s : State) (m : Fin 4) (hsrc : u.src < 4) :
    (s.unplacedCounted m u).reg (pgETH m) (Eth.TXR_UNPLACED u.src) = s.reg (pgETH m) (Eth.TXR_UNPLACED u.src) + 1 := by
  rw [State.unplacedCounted, if_pos hsrc, (State.count_same _ _ _).reg (countKey_eth m (by simp only [Eth.TXR_UNPLACED]; omega)),
    State.inc_eq, State.reg_setReg_self]

end

/-! ### Placed frames (R335, R341) -/

section
variable {s a : State} {m l : Nat} {u : TxUnit}

theorem State.placedLaunch_reached (hactive : s.active (pgETH m) = true) (hplaced : (s.ringsSettle m).nextPlaced m = some u)
    (hlaunch : u.launch = some l) (hreach : (s.ringsSettle m).reach (timeOfUnits l) = some a) :
    s.placedLaunch m = a.placedStart m u := by
  simp [State.placedLaunch, hactive, hplaced, hlaunch, State.atTime_reached hreach]

/-- A placed frame for which the medium is free starts exactly at its launch. -/
theorem State.placedStart_starts (hlaunch : u.launch = some l) (htime : unitsOf s.tln.now ≤ l) (hbusy : s.srcBusy m u.src = false)
    (hmuted : s.muted u = false) (hready : (s.makeWay m l u).macReady m = true) (hheld : (s.makeWay m l u).held m = false)
    (hnext : (s.makeWay m l u).nextStart m ((s.makeWay m l u).macOf m).sendEnd ≤ l) :
    s.placedStart m u = ((((s.makeWay m l u).takeHead m u).modMac m (fun y => { y with lastPlaced := some l, phase := l })).txBegin m l u) := by
  simp [State.placedStart, State.takePlaced, hlaunch, htime, hbusy, hmuted, hready, hheld, hnext]

theorem State.preempt_leaves (s : State) (m c : Nat) :
    ((s.preempt m c).macOf m).sending = none ∧ ((s.preempt m c).macOf m).sendEnd = c := by
  unfold State.preempt
  dsimp only
  split
  · rw [State.macOf_modMac]
    exact ⟨rfl, rfl⟩
  · rw [State.inc_eq, State.macOf_setReg, State.macOf_modMac]
    exact ⟨rfl, rfl⟩

theorem State.makeWay_cuts (hexpress : u.express = true) (hcut : s.canPreempt m (s.cutFor m l) = true) :
    s.makeWay m l u = s.preempt m (s.cutFor m l) := by
  simp [State.makeWay, hexpress, hcut]

theorem State.makeWay_waits (h : u.express = false ∨ s.canPreempt m (s.cutFor m l) = false) : s.makeWay m l u = s := by
  rcases h with h | h <;> simp [State.makeWay, h]

end

/-! ### A frame starts (R331) -/

section
variable (s : State) (m x : Nat) {u : TxUnit}

/-- A frame that no clock corrects is in transmission from now on. -/
def State.underway (u : TxUnit) : State :=
  s.modMac m (fun y => { y with
    sending := some { u with frames := u.frames.headD [] :: u.frames.drop 1, first := some (u.first.getD (s.txStamp m x)) }
    sendAt := x
    sendEnd := s.frameEnd m x (u.frames.headD [])
    served := u.src })

theorem State.txBegin_eq (hntm : u.src ≠ 5) (hbridge : u.src ≠ 6) : s.txBegin m x u
    = (let t := (s.underway m x u).emitEdges (.eth m x (padFrame (u.frames.headD [])))
      if u.src = 7 then t.inc (pgETH m) Eth.PAUSE_TX else t) := by
  simp [State.txBegin, State.underway, hntm, hbridge]

theorem State.txBegin_leaves (hntm : u.src ≠ 5) (hbridge : u.src ≠ 6) : let t := s.txBegin m x u
    t.out = (Output.eth m x (padFrame (u.frames.headD []))).placed s.gridAt :: s.out ∧
    t.macOf m = (s.underway m x u).macOf m := by
  rw [State.txBegin_eq s m x hntm hbridge]
  dsimp only
  split
  · exact ⟨State.setReg_out _ _ _ _, (State.macOf_setReg _ _ _ _ _).trans (State.macOf_congr (State.emit_mac _ _) m)⟩
  · exact ⟨rfl, State.macOf_congr (State.emit_mac _ _) m⟩

end

/-! ### A frame ends (R338, R342) -/

/-- What the MAC has counted is as before, and so is the frame that it sends. -/
structure State.SparesSending (m : Fin 4) (s t : State) : Prop where
  counts : ∀ off, Eth.RX_GOOD ≤ off → off < 0x4000 → t.reg (pgETH m) off = s.reg (pgETH m) off
  sending : (t.macOf m).sending = (s.macOf m).sending

section
variable {m : Fin 4} {s t u : State}

theorem State.SparesSending.refl (s : State) : s.SparesSending m s := ⟨fun _ _ _ => rfl, rfl⟩

theorem State.SparesSending.trans (h : s.SparesSending m t) (g : t.SparesSending m u) : s.SparesSending m u :=
  ⟨fun off hlow hhigh => (g.counts off hlow hhigh).trans (h.counts off hlow hhigh), g.sending.trans h.sending⟩

theorem State.SparesMac.sparesSending (h : s.SparesMac m t) : s.SparesSending m t := by
  refine ⟨fun off hlow hhigh => h.regs off hhigh ?_, h.sending⟩
  simp only [txRingReg, Eth.RX_GOOD, Eth.RING_IRQ] at *
  omega

/-- A register of the MAC's first page. -/
theorem State.SparesSending.setReg (h : s.SparesSending m t) {off : Nat} {v : Word} (ho : off < Eth.RX_GOOD) :
    s.SparesSending m (t.setReg (pgETH m) off v) :=
  h.trans ⟨fun _ hlow _ => State.reg_setReg_off _ (by omega) _, congrArg MacState.sending (State.macOf_setReg _ _ _ _ _)⟩

theorem State.SparesSending.modMac (h : s.SparesSending m t) {f : MacState → MacState}
    (hf : (f (t.macOf m)).sending = (t.macOf m).sending) : s.SparesSending m (t.modMac m f) :=
  h.trans ⟨fun _ _ _ => State.reg_modMac _ _ _ _ _, (congrArg MacState.sending (State.macOf_modMac _ _ _)).trans hf⟩

theorem State.SparesSending.ite {p : Prop} [Decidable p] (h : s.SparesSending m t) (g : s.SparesSending m u) :
    s.SparesSending m (if p then t else u) := by
  split
  · exact h
  · exact g

theorem State.setPaused_sparesSending (s : State) (b : Bool) : s.SparesSending m (s.setPaused m b) :=
  ((State.SparesSending.refl s).setReg (by decide)).setReg (by decide)

theorem State.pauseFrom_sparesSending (s : State) (x q : Nat) : s.SparesSending m (s.pauseFrom m x q) := by
  have hpause (p : Option Nat) : s.SparesSending m (s.modMac m (fun y => { y with pauseEnd := p })) :=
    (State.SparesSending.refl s).modMac rfl
  exact ((hpause _).trans (State.setPaused_sparesSending _ _)).ite ((hpause _).trans (State.setPaused_sparesSending _ _))

/-- STATE of the MAC's pages. -/
theorem State.setGroupState_sparesSending (s : State) (n : Nat) : s.SparesSending m (s.setGroupState (pgETH m) n) := by
  simp only [State.setGroupState, pageInfo_pgETH]
  refine List.foldlRecOn (motive := s.SparesSending m) _ _ (.refl s) fun a ha k hk => ha.trans ?_
  have hk : k < 4 := List.mem_range.1 hk
  refine ⟨fun off hlow hhigh => State.reg_setReg_ne _ _ ?_, congrArg MacState.sending (State.macOf_setReg _ _ _ _ _)⟩
  simp only [regKey, Eth.RX_GOOD, PAGE_STATUS] at *
  omega

theorem State.macStopped_sparesSending (s : State) : s.SparesSending m (s.macStopped m) :=
  (s.setGroupState_sparesSending 2).ite (.refl s)

end

section
variable (s : State)

/-- The frame that has left counts. -/
def State.txCounted (m : Nat) (u : TxUnit) : State :=
  let a := ((s.inc (pgETH m) Eth.TX_GOOD).count (720 + 8 * m + 2) 1).count (720 + 8 * m + 3)
    ((padFrame (u.frames.headD [])).length + 4)
  if u.src = 4 then a.inc pgSTR Str.PACKETS else a

/-- Nothing is in transmission; the rest of its burst waits. -/
def State.txLeft (m : Nat) (u : TxUnit) : State :=
  s.modMac m (fun x => { x with
    sending := none
    burst := if u.frames.drop 1 = [] then x.burst else some { u with frames := u.frames.drop 1, launch := none } })

/-- A unit that has left as a whole is written back. -/
def State.txWritten (m : Nat) (u : TxUnit) : State := if u.frames.drop 1 = [] then s.unitDone m u u.status else s

/-- A pause that waited for the frame's end begins. -/
def State.pauseBegun (m : Nat) (y : MacState) : State :=
  match y.pauseNext with
  | some q => if y.halted.isNone then (s.modMac m (fun x => { x with pauseNext := none })).pauseFrom m y.sendEnd q else s
  | none => s

theorem State.txDoneAt_eq (m : Nat) (u : TxUnit) :
    s.txDoneAt m u = ((((s.txCounted m u).txLeft m u).txWritten m u).pauseBegun m (s.macOf m)).macStopped m := rfl

theorem State.txGood_txCounted (m : Fin 4) (u : TxUnit) :
    (s.txCounted m u).reg (pgETH m) Eth.TX_GOOD = s.reg (pgETH m) Eth.TX_GOOD + 1 := by
  have hgood : (((s.inc (pgETH m) Eth.TX_GOOD).count (720 + 8 * m + 2) 1).count (720 + 8 * m + 3)
      ((padFrame (u.frames.headD [])).length + 4)).reg (pgETH m) Eth.TX_GOOD = s.reg (pgETH m) Eth.TX_GOOD + 1 := by
    rw [((State.count_same _ _ _).trans (State.count_same _ _ _)).reg (countKey_eth m (by decide)), State.inc_eq,
      State.reg_setReg_self]
  unfold State.txCounted
  dsimp only
  split
  · refine (State.reg_setReg_ne _ _ ?_).trans hgood
    simp only [regKey, pgETH, pgSTR, Eth.TX_GOOD, Str.PACKETS]
    omega
  · exact hgood

theorem State.pauseBegun_sparesSending (m : Fin 4) (y : MacState) : s.SparesSending m (s.pauseBegun m y) := by
  unfold State.pauseBegun
  cases y.pauseNext with
  | none => exact .refl s
  | some q =>
    have hnext : s.SparesSending m (s.modMac m (fun x => { x with pauseNext := none })) := (State.SparesSending.refl s).modMac rfl
    exact (hnext.trans (State.pauseFrom_sparesSending _ _ _)).ite (.refl s)

theorem State.txDoneAt_leaves (m : Fin 4) (u : TxUnit) : ((s.txDoneAt m u).macOf m).sending = none ∧
    (s.txDoneAt m u).reg (pgETH m) Eth.TX_GOOD = s.reg (pgETH m) Eth.TX_GOOD + 1 := by
  let left : State := (s.txCounted m u).txLeft m u
  have hleft : (left.macOf m).sending = none := congrArg MacState.sending (State.macOf_modMac _ _ _)
  have hwritten : left.SparesSending m (left.txWritten m u) := (left.unitDone_sparesMac u u.status).sparesSending.ite (.refl left)
  have hends := (hwritten.trans (State.pauseBegun_sparesSending _ m (s.macOf m))).trans (State.macStopped_sparesSending _)
  rw [State.txDoneAt_eq]
  exact ⟨hends.sending.trans hleft, (hends.counts _ (by decide) (by decide)).trans (s.txGood_txCounted m u)⟩

theorem State.txDone_reached {s a : State} {m : Nat} {u : TxUnit} (hsending : (s.macOf m).sending = some u)
    (hreach : s.reach (timeOfUnits (s.macOf m).sendEnd) = some a) : s.txDone m = a.txDoneAt m u := by
  rw [State.txDone, hsending]
  exact State.atTime_reached hreach _

end

/-! ### Reception (R348) -/

theorem exec_macRxFrame {s : State} (h : s.aclkRuns = true) (m : Fin 4) (ago : Nat) (err : Fin 3) (corrected lost : Nat)
    (f : List Byte) : exec (.macRxFrame m ago err corrected lost f) s
      = .next ((s.fecCorrects m corrected).macRx m ago err lost f) := congrArg Host.Outcome.next (if_pos h)

/-- A good frame counts, by frames and by bytes. -/
def State.rxCounted (s : State) (m : Nat) (f : List Byte) : State :=
  ((((s.macMs m).modMac m (fun x => { x with msCount := x.msCount + 1 })).inc (pgETH m) Eth.RX_GOOD).count (720 + 8 * m) 1).count
    (720 + 8 * m + 1) (f.length + 4)

section
variable {s : State} {m ago err lost : Nat} {f : List Byte} (hactive : s.active (pgETH m) = true) (hlink : s.macLink m = true)
include hactive hlink

theorem State.macRx_uncorrected (hlost : lost ≠ 0) (hfec : s.rsFec m = true) : s.macRx m ago err lost f
    = (s.addReg (pgETH m) Eth.RX_FEC_UNCORR lost).count (720 + 8 * m + 4) 1 := by
  simp only [State.macRx, hactive, hlink, hlost, hfec, Bool.not_true, Bool.or_self, Bool.false_eq_true, if_false, ne_eq,
    not_false_eq_true, and_self, if_true]

section
variable (hfec : lost = 0 ∨ s.rsFec m = false)
include hfec

theorem State.macRx_code (herr : err = 2) : s.macRx m ago err lost f = s.rxBad m Eth.RX_CODE := by
  rcases hfec with hfec | hfec <;> simp [State.macRx, hactive, hlink, hfec, herr]

theorem State.macRx_runt (herr : err ≠ 2) (hlen : f.length < 60) : s.macRx m ago err lost f = s.rxBad m Eth.RX_RUNT := by
  rcases hfec with hfec | hfec <;> simp [State.macRx, hactive, hlink, hfec, herr, hlen]

theorem State.macRx_oversize (herr : err ≠ 2) (hmin : 60 ≤ f.length) (hlen : s.maxFrame m < f.length + 4) :
    s.macRx m ago err lost f = s.rxBad m Eth.RX_OVERSIZE := by
  rcases hfec with hfec | hfec <;> simp [State.macRx, hactive, hlink, hfec, herr, Nat.not_lt.2 hmin, hlen]

theorem State.macRx_fcs (herr : err = 1) (hmin : 60 ≤ f.length) (hmax : f.length + 4 ≤ s.maxFrame m) :
    s.macRx m ago err lost f = s.rxBad m Eth.RX_FCS := by
  rcases hfec with hfec | hfec <;>
    simp [State.macRx, hactive, hlink, hfec, herr, Nat.not_lt.2 hmin, Nat.not_lt.2 hmax]

/-- A good frame for which the receive queue has room. -/
theorem State.macRx_good (herr : err = 0) (hmin : 60 ≤ f.length) (hmax : f.length + 4 ≤ s.maxFrame m)
    (hroom : (((s.rxCounted m f).queuePacket 0 m f).queue 0 m).committed ≠ ((s.rxCounted m f).queue 0 m).committed) :
    s.macRx m ago err lost f = ((s.rxCounted m f).queuePacket 0 m f).rxDrain m ago
      (((s.rxCounted m f).queuePacket 0 m f).queue 0 m).committed := by
  unfold State.rxCounted at hroom ⊢
  rcases hfec with hfec | hfec <;>
    simp [-State.inc_eq, State.macRx, hactive, hlink, hfec, herr, Nat.not_lt.2 hmin, Nat.not_lt.2 hmax, hroom]

end

end

/-! ### Good frames (R349, R354) -/

section
variable (s : State) (m ago : Nat) {f : List Byte}

/-- The source of a frame is learned where the bridge forwards for the port and learns from it. -/
def State.sourceLearned (f : List Byte) : State :=
  if s.flag pgBR Br.BR_PORT (8 + m) && s.brPort m == 2 then s.learn m (macSrc f) else s

theorem State.handleFrame_pause (htype : etherType f = 0x8808) (hop : beAt f (etherEnd f) 2 = 1) :
    s.handleFrame m ago f = (s.sourceLearned m f).pauseRx m (beAt f (etherEnd f + 2) 2) :=
  (if_pos htype).trans (if_pos hop)

theorem State.handleFrame_control (htype : etherType f = 0x8808) (hop : beAt f (etherEnd f) 2 ≠ 1) :
    s.handleFrame m ago f = (s.sourceLearned m f).inc (pgETH m) Eth.RX_CTRL_DROP :=
  (if_pos htype).trans (if_neg hop)

theorem State.handleFrame_reserved (htype : etherType f ≠ 0x8808) (hlow : 0x0180C2000000 ≤ macDst f)
    (hhigh : macDst f ≤ 0x0180C200000F) (hport : s.brPort m ≠ 0) :
    s.handleFrame m ago f = (s.sourceLearned m f).toHost m (s.rxStamp m ago) f :=
  (if_neg htype).trans ((if_pos ⟨hlow, hhigh⟩).trans (if_neg hport))

end

end Sys2Proof.Machine

open Sys2Proof Sys2Proof.Machine

/-- Settles O28: each write, start, end and reception by the case that its conditions select. -/
theorem macsSendAndReceive : Obligations.MacsSendAndReceive := by
  refine ⟨fun s r m i v => ?_, fun s a m u => ?_, fun s a m u l => ?_, fun s m l u => ?_, fun s m x u hntm hbridge => ?_,
    fun s a m u hsending hreach => ?_, fun s0 m ago err corrected lost f => ?_, fun s m ago f => ?_⟩
  · intro a x hreach
    obtain ⟨htx, hrx⟩ := exec_tailWrites hreach r i v
    have hclock : s.counted.tln = s.tln := s.counted_tln
    exact ⟨fun hbelow => ⟨_, htx, hclock ▸ State.txTail_below hbelow⟩,
      fun hbeyond => htx.trans (congrArg Host.Outcome.next (State.txTail_beyond hbeyond)),
      fun hbelow => hrx.trans (congrArg Host.Outcome.next (State.rxTail_below hbelow)),
      fun hbeyond => hrx.trans (congrArg Host.Outcome.next (State.rxTail_beyond hbeyond))⟩
  · intro s0 x hactive hready hreach hplaced hhalted hburst hbest
    have hstart := (State.txStart_reached hactive hready hreach).trans (State.txStartNow_best hplaced hhalted hburst hbest)
    exact ⟨fun hmuted => congrArg Host.Outcome.next (hstart.trans (State.plainStart_muted hmuted)),
      fun hmuted hlaunch => congrArg Host.Outcome.next (hstart.trans (State.plainStart_plain hmuted hlaunch)),
      fun hmuted l hlaunch => ⟨a.unplacedCounted m u,
        congrArg Host.Outcome.next (hstart.trans (State.plainStart_unplaced hmuted hlaunch)), a.reg_unplacedCounted m⟩⟩
  · intro s0 b hactive hplaced hlaunch hreach htime hbusy hmuted hready hheld hnext
    exact congrArg Host.Outcome.next ((State.placedLaunch_reached hactive hplaced hlaunch hreach).trans
      (State.placedStart_starts hlaunch htime hbusy hmuted hready hheld hnext))
  · refine ⟨fun hexpress hcut => ?_, State.makeWay_waits⟩
    rw [State.makeWay_cuts hexpress hcut]
    exact s.preempt_leaves m _
  · obtain ⟨hout, hmac⟩ := s.txBegin_leaves m x hntm hbridge
    have hunderway := hmac.trans (s.macOf_modMac m _)
    exact ⟨hout, congrArg MacState.sendAt hunderway, congrArg MacState.sendEnd hunderway,
      congrArg (fun y => y.sending.map (·.src)) hunderway⟩
  · exact ⟨_, congrArg Host.Outcome.next (State.txDone_reached hsending hreach), a.txDoneAt_leaves m u⟩
  · intro s p n bad u haclk hactive hlink
    have hrun := exec_macRxFrame haclk m ago err corrected lost f
    refine ⟨fun hlost hfec => ?_, fun hfec => ⟨fun herr => ?_, fun herr hmin hmax => ?_, fun herr hlen => ?_,
      fun herr hmin hlen => ?_, fun herr hmin hmax hroom => ?_⟩⟩
    · exact hrun.trans (congrArg Host.Outcome.next (State.macRx_uncorrected hactive hlink hlost hfec))
    · exact hrun.trans (congrArg Host.Outcome.next (State.macRx_code hactive hlink hfec (congrArg Fin.val herr)))
    · exact hrun.trans (congrArg Host.Outcome.next (State.macRx_fcs hactive hlink hfec (congrArg Fin.val herr) hmin hmax))
    · exact hrun.trans (congrArg Host.Outcome.next (State.macRx_runt hactive hlink hfec (Nat.ne_of_lt herr) hlen))
    · exact hrun.trans (congrArg Host.Outcome.next (State.macRx_oversize hactive hlink hfec (Nat.ne_of_lt herr) hmin hlen))
    · exact hrun.trans (congrArg Host.Outcome.next (State.macRx_good hactive hlink hfec (congrArg Fin.val herr) hmin hmax hroom))
  · exact ⟨s.handleFrame_pause m ago, s.handleFrame_control m ago, s.handleFrame_reserved m ago⟩

end

section
/-!
Steps: the front of the queue, the idle tick and the queue that every command keeps (log entries 5 and 6), and O1, O2, O3 and O6.
-/
set_option Elab.async false
open Sys2Proof Sys2Proof.Machine

/-- Settles O1: the queue begins with the command, which `step` runs. -/
theorem stepRunsFrontCommand : Obligations.StepRunsFrontCommand := fun _ _ _ => rfl

/-- Settles O2: nothing waits, so `step` ticks; a tick without running time is none. -/
theorem idleStepIsATick : Obligations.IdleStepIsATick := by
  intro s hidle
  refine ⟨?_, fun hstill => ?_⟩
  · rw [Sys2Proof.Machine.step, hidle]
  · rw [State.tick, hstill]
    rfl

/-- Settles O3: the table spells no command, so no word places one. -/
theorem noWordSpellsACommand : Obligations.NoWordSpellsACommand := fun _ _ _ => ⟨rfl, rfl⟩

/-- Settles O6, from what `exec` keeps of a state whose parts are all free to change. -/
theorem commandsKeepTheQueue : Obligations.CommandsKeepTheQueue := by
  intro c s
  obtain ⟨t, ht⟩ := exec_answers c s
  have hkept := (exec_keeps c (s.keeps_parts 0) (Keep.off_of_and (Nat.zero_and _))).next t ht
  exact ⟨t, ht, hkept.queue⟩

end

section
/-!
The parent's registers and PORT_STATE (R422), and O60.
-/
set_option Elab.async false
namespace Sys2Proof.Machine

section
variable (s : State)

/-- Registers of network time are not mirrored (R555), so the partner is told of no write there. -/
theorem State.mirrorWrite_of_not_mirrored {page off : Nat} (h : mirroredReg page (plainOff off) = false) (r : Requester) (v : Word) :
    s.mirrorWrite r page off v = s := by
  rw [State.mirrorWrite, h]
  rfl

theorem mirroredReg_ntm (off : Nat) : mirroredReg pgNTM off = false := rfl

theorem mirroredReg_ntm_ports (off : Nat) : mirroredReg (pgNTM + 1) off = false := rfl

/-- A write of a register of PARENT_ID and PARENT_PORT by the host is dropped. -/
theorem State.plainWrite_parent {r : Requester} (h : isHost r = true) {off : Nat}
    (hoff : off = Ntm.PARENT_ID_LO ∨ off = Ntm.PARENT_ID_HI ∨ off = Ntm.PARENT_PORT) (v : Word) :
    s.plainWrite r ⟨.ntm, 0, 0⟩ pgNTM off v = s.fault pgNTM Ntm.F_OWNER_WRITE := by
  have howner : ownerFault r ⟨.ntm, 0, 0⟩ (0 * 0x1000 + off) = some Ntm.F_OWNER_WRITE := by
    rcases hoff with rfl | rfl | rfl <;> simp [ownerFault, h, parentOff, Ntm.PARENT_ID_LO, Ntm.PARENT_ID_HI, Ntm.PARENT_PORT]
  have hrow : ∃ w, rowAt ⟨.ntm, 0, 0⟩ off = some w := by
    rcases hoff with rfl | rfl | rfl <;> exact Option.isSome_iff_exists.1 (by decide +kernel)
  obtain ⟨w, hw⟩ := hrow
  simp only [State.plainWrite, hw, howner]
  rfl

/-- No register of PARENT_ID and PARENT_PORT acts when written. -/
theorem State.ownWrite_parent (r : Requester) {off : Nat}
    (hoff : off = Ntm.PARENT_ID_LO ∨ off = Ntm.PARENT_ID_HI ∨ off = Ntm.PARENT_PORT) (v : Word) :
    s.ownWrite r ⟨.ntm, 0, 0⟩ (0 * 0x1000 + off) v = none := by
  rcases hoff with rfl | rfl | rfl <;> rfl

/-- PORT_STATE acts when written. -/
theorem State.ownWrite_portState (r : Requester) (m : Fin 4) (v : Word) :
    s.ownWrite r ⟨.ntm, 0, 1⟩ (1 * 0x1000 + (Ntm.PORT_STATE m - 0x1000)) v = some (s.portStateWrite r m v) := by
  fin_cases m <;> rfl

theorem State.portStateWrite_host {r : Requester} (h : isHost r = true) (m : Nat) (v : Word) :
    s.portStateWrite r m v = s.fault pgNTM Ntm.F_OWNER_WRITE := by
  simp only [State.portStateWrite, h, if_true]

end

end Sys2Proof.Machine

open Sys2Proof Sys2Proof.Machine

/-- Settles O60: the three registers by the owner of a plain write, PORT_STATE by the write that acts. -/
theorem onlyTheFirmwareNamesTheParent : Obligations.OnlyTheFirmwareNamesTheParent := by
  intro s r v hhost
  refine ⟨fun off hoff haccepts => ?_, fun m haccepts => ?_, fun m hreaches => ?_⟩
  · have hlow : off < 0x800 ∧ 0x20 ≤ off := by rcases hoff with rfl | rfl | rfl <;> decide
    have htold : s.told r pgNTM off v = s.counted := State.mirrorWrite_of_not_mirrored _ (mirroredReg_ntm _) _ _
    rw [exec_registerWrite_page pageInfo_pgNTM (by omega), State.busWrite_eq haccepts pageInfo_pgNTM, htold]
    have hwrite : s.counted.regWrite r s.tln.now ⟨.ntm, 0, 0⟩ pgNTM off v = s.counted.plainWrite r ⟨.ntm, 0, 0⟩ pgNTM off v := by
      rw [State.regWrite, if_neg (by omega), if_neg (by omega), if_neg (by simp only [PAGE_CTRL]; omega),
        if_neg (by simp only [PAGE_COMMIT]; omega), if_neg (by omega), State.ownWrite_parent _ _ hoff]
      rfl
    rw [hwrite, State.plainWrite_parent _ hhost hoff]
  · have hoff : 0x20 ≤ Ntm.PORT_STATE m - 0x1000 ∧ Ntm.PORT_STATE m - 0x1000 < 0x800 := by
      simp only [Ntm.PORT_STATE]; omega
    have htold : s.told r (pgNTM + 1) (Ntm.PORT_STATE m - 0x1000) v = s.counted :=
      State.mirrorWrite_of_not_mirrored _ (mirroredReg_ntm_ports _) _ _
    rw [exec_registerWrite_page pageInfo_pgNTM_1 (by omega),
      State.busWrite_own haccepts pageInfo_pgNTM_1 hoff.1 hoff.2 (State.ownWrite_portState _ r m v), htold,
      State.portStateWrite_host _ hhost]
  · have hexec : exec (.portStateWrite r m v) s = .next (s.gate (pgNTM + 1) (fun a => a.portStateWrite r m v)) := rfl
    rw [hexec, State.gate_eq hreaches, State.portStateWrite_host _ hhost]

end

section
/-!
The interrupt controller: what raising an interrupt leaves of the services, and what a claim, a completion and a message do (R501 to
R520), and O37, O57 and O58.
-/
set_option Elab.async false
namespace Sys2Proof.Machine

/-- What a table reads that a write has left. -/
theorem Tab.get_of_set {α : Type} [DecidableEq α] {d : Nat → α} {x : Tab α} (t : Tab α) {k : Nat} {v : α} (h : x = Tab.set d t k v) :
    Tab.get d x k = v := by
  rw [h, Tab.get_set_self]

/-! ### Bits of the tables PENDING, ENABLE and IN_SERVICE -/

section
variable (s : State)

/-- A bit of a table after a write of a bit of the same table. -/
theorem State.icuBit_setIcuBit (table k j : Nat) (b : Bool) :
    (s.setIcuBit table k b).icuBit table j = if j = k then b else s.icuBit table j := by
  have hk : k % 32 < 32 := Nat.mod_lt _ (by decide)
  simp only [State.setIcuBit, State.icuBit]
  by_cases hword : j / 32 = k / 32
  · rw [hword]
    by_cases hbit : j % 32 = k % 32
    · have hjk : j = k := by omega
      rw [if_pos hjk, hbit]
      cases b
      · exact s.flag_setFlag_clear _ _ hk
      · exact s.flag_setFlag_self _ _ hk
    · rw [if_neg (by rintro rfl; exact hbit rfl)]
      exact s.flag_setFlag_of_ne _ _ hk hbit b
  · rw [if_neg (by rintro rfl; exact hword rfl)]
    simp only [State.flag, State.setFlag_eq]
    rw [State.reg_setReg_ne]
    simp only [ne_eq, regKey_same_page]
    omega

/-- A bit of a table is its register's. -/
theorem State.icuBit_congr {s t : State} {table k : Nat}
    (h : t.reg pgICU (table + 4 * (k / 32)) = s.reg pgICU (table + 4 * (k / 32))) : t.icuBit table k = s.icuBit table k := by
  simp only [State.icuBit, State.flag, h]

theorem State.icuBit_setReg_ne {table k page off : Nat} (v : Word) (h : regKey pgICU (table + 4 * (k / 32)) ≠ regKey page off) :
    (s.setReg page off v).icuBit table k = s.icuBit table k :=
  State.icuBit_congr (State.reg_setReg_ne _ _ h)

/-- A page of another block holds no bit of these tables. -/
theorem regKey_icu_ne {o page off : Nat} (ho : o < 0x4000) (hoff : off < 0x1000) (hp : page < pgICU ∨ pgICU + 4 ≤ page) :
    regKey pgICU o ≠ regKey page off := by
  simp only [regKey, pgICU] at *
  omega

end

/-! ### What raising interrupts leaves -/

/-- A bit of IN_SERVICE lies below offset 0x140, and so does one of PENDING. -/
abbrev serviceOff (off : Nat) : Prop := Icu.IN_SERVICE 0 ≤ off ∧ off < 0x140

/-- But for occurrences of the sources of `l`, registers from PENDING to IN_SERVICE, owners and levels are as before; what was PENDING
or latched is so still. -/
structure State.Raises (l : List Nat) (s t : State) : Prop where
  service : ∀ off, serviceOff off → t.reg pgICU off = s.reg pgICU off
  pending : ∀ k, k < 512 → s.icuBit (Icu.PENDING 0) k = true → t.icuBit (Icu.PENDING 0) k = true
  others : ∀ k, k < 512 → k ∉ l → t.icuBit (Icu.PENDING 0) k = s.icuBit (Icu.PENDING 0) k
  owner : t.icu.owner = s.icu.owner
  level : t.icu.level = s.icu.level
  latch : ∀ k, Tab.get (fun _ => false) s.icu.latch k = true → Tab.get (fun _ => false) t.icu.latch k = true

section
variable {s t u : State} {l : List Nat}

theorem State.Raises.refl (s : State) : s.Raises l s := ⟨fun _ _ => rfl, fun _ _ h => h, fun _ _ _ => rfl, rfl, rfl, fun _ h => h⟩

theorem State.Raises.trans (h : s.Raises l t) (g : t.Raises l u) : s.Raises l u :=
  ⟨fun off ho => (g.service off ho).trans (h.service off ho), fun k hk hp => g.pending k hk (h.pending k hk hp),
    fun k hk hl => (g.others k hk hl).trans (h.others k hk hl), g.owner.trans h.owner, g.level.trans h.level,
    fun k hl => g.latch k (h.latch k hl)⟩

/-- The bits of IN_SERVICE stay. -/
theorem State.Raises.inService (h : s.Raises l t) {k : Nat} (hk : k < 1024) :
    t.icuBit (Icu.IN_SERVICE 0) k = s.icuBit (Icu.IN_SERVICE 0) k :=
  State.icuBit_congr (h.service _ (by simp only [serviceOff, Icu.IN_SERVICE]; omega))

/-- An update that leaves the registers and, of the interrupt controller, owners, levels and latches. -/
theorem State.Raises.upd (h : s.Raises l t) (hlive : u.live = t.live) (howner : u.icu.owner = t.icu.owner)
    (hlevel : u.icu.level = t.icu.level) (hlatch : u.icu.latch = t.icu.latch) : s.Raises l u :=
  have hreg (off : Nat) : u.reg pgICU off = t.reg pgICU off := by rw [State.reg, hlive, State.reg]
  h.trans ⟨fun off _ => hreg off, fun _ _ hp => (State.icuBit_congr (hreg _)).trans hp, fun _ _ _ => State.icuBit_congr (hreg _),
    howner, hlevel, fun k hl => (congrArg (fun x => Tab.get _ x k) hlatch).trans hl⟩

theorem State.Raises.dmx (h : s.Raises l t) (x : Tab DmxState) : s.Raises l { t with dmx := x } := h.upd rfl rfl rfl rfl

theorem State.Raises.pmc (h : s.Raises l t) (x : PmcState) : s.Raises l { t with pmc := x } := h.upd rfl rfl rfl rfl

/-- A register of the tables from PENDING to IN_SERVICE. -/
abbrev serviceKey (k : Nat) : Prop := regKey pgICU 0x40 ≤ k ∧ k < regKey pgICU 0x140

theorem State.Raises.setReg (h : s.Raises l t) {page off : Nat} {v : Word} (hk : ¬serviceKey (regKey page off)) :
    s.Raises l (t.setReg page off v) := by
  have hkey (o : Nat) (hl : 0x40 ≤ o) (ho : o < 0x140) : regKey pgICU o ≠ regKey page off := fun he => hk (by
    rw [← he]; simp only [serviceKey, regKey]; omega)
  have hpending (k : Nat) (hk : k < 512) : (t.setReg page off v).icuBit (Icu.PENDING 0) k = t.icuBit (Icu.PENDING 0) k :=
    State.icuBit_setReg_ne _ _ (hkey _ (by simp only [Icu.PENDING]; omega) (by simp only [Icu.PENDING]; omega))
  refine h.trans ⟨fun o ho => State.reg_setReg_ne _ _ (hkey o ?_ ho.2), fun k hk hp => (hpending k hk).trans hp,
    fun k hk _ => hpending k hk, rfl, rfl, fun _ hl => hl⟩
  obtain ⟨hlow, _⟩ := ho
  simp only [Icu.IN_SERVICE] at hlow
  omega

theorem State.Raises.setPending (h : s.Raises l t) {k : Nat} (hk : k < 512) (hmem : k ∈ l) :
    s.Raises l (t.setIcuBit (Icu.PENDING 0) k true) := by
  refine h.trans ⟨fun o ho => State.reg_setReg_ne _ _ ?_, fun j _ hp => ?_, fun j _ hj => ?_, rfl, rfl, fun _ hl => hl⟩
  · obtain ⟨hl, _⟩ := ho
    simp only [ne_eq, regKey_same_page, Icu.PENDING, Icu.IN_SERVICE] at *
    omega
  · rw [State.icuBit_setIcuBit]
    split
    · rfl
    · exact hp
  · rw [State.icuBit_setIcuBit, if_neg fun he : j = k => hj (he ▸ hmem)]

theorem State.Raises.foldl {α : Type} {f : State → α → State} {x : List α} (h : s.Raises l t)
    (hf : ∀ y ∈ x, ∀ a : State, a.Raises l (f a y)) : s.Raises l (x.foldl f t) :=
  List.foldlRecOn (motive := s.Raises l) _ _ h fun a ha y hy => ha.trans (hf y hy a)

theorem not_serviceKey_srcCfg (k : Nat) : ¬serviceKey (regKey pgICU (srcCfg k)) := by
  simp only [serviceKey, regKey, srcCfg, Icu.SRC_CFG]
  omega

theorem not_serviceKey_page {page off : Nat} (hoff : off < 0x1000) (hp : page < pgICU ∨ pgICU < page) :
    ¬serviceKey (regKey page off) := by
  simp only [serviceKey, regKey, pgICU] at *
  omega

theorem State.occur_raises (s : State) {k : Nat} (hmem : k ∈ l) : s.Raises l (s.occur k) := by
  unfold State.occur
  split
  · exact .refl s
  next hsource =>
  have hk : k < 512 := isSource_lt (by simpa using hsource)
  split
  · refine ⟨fun _ _ => rfl, fun _ _ hp => hp, fun _ _ _ => rfl, rfl, rfl, fun j hl => ?_⟩
    rw [Tab.get_set]
    split
    · rfl
    · exact hl
  have hset := (State.Raises.refl s).setPending hk hmem
  dsimp only
  split
  · exact hset.setReg (not_serviceKey_srcCfg k)
  · exact hset

theorem State.notifyGroups_raises (s t : State) : t.Raises l (s.notifyGroups t) := by
  unfold State.notifyGroups
  refine (State.Raises.refl t).foldl fun g _ a => ?_
  split
  · exact (State.Raises.refl a).upd rfl rfl rfl rfl
  · exact .refl a

theorem State.fieldResume_raises (s : State) : s.Raises l s.fieldResume := by
  unfold State.fieldResume
  refine (State.Raises.refl s).foldl fun k hk a => ?_
  have hpage : pgICU < pgFLD k := by simp only [pgICU, pgFLD]; omega
  split
  · exact ((State.Raises.refl a).setReg (not_serviceKey_page (by decide) (.inr hpage))).setReg
      (not_serviceKey_page (by decide) (.inr hpage))
  · exact .refl a

theorem State.leaveDoze_raises (s : State) (seen pins : Nat) : s.Raises l (s.leaveDoze seen pins) := by
  have hwoken : s.Raises l ((s.loadWake 1 false seen pins).setSts pgPWR Pwr.S_PWR_STATE 0) :=
    ((((State.Raises.refl s).setReg (by decide)).setReg (by decide)).setReg (by decide)).setReg (by decide)
  unfold State.leaveDoze
  exact (hwoken.dmx _).trans (State.fieldResume_raises _)

/-- What follows from a change of the interrupt controller: at most the end of Doze with its interrupt 17 (R612). -/
theorem State.icuChange_raises (s : State) (f : State → State) (h17 : 17 ∈ l) : (f s).Raises l (s.icuChange f) := by
  have hnotified : (f s).Raises l (s.notifyGroups (f s)) := s.notifyGroups_raises (f s)
  unfold State.icuChange
  dsimp only
  split
  · exact ((hnotified.trans (State.leaveDoze_raises _ _ _)).trans (State.occur_raises _ h17)).trans (State.notifyGroups_raises _ _)
  · exact hnotified

theorem State.irq_raises (s : State) {k : Nat} (hmem : k ∈ l) (h17 : 17 ∈ l) : s.Raises l (s.irq k) :=
  (s.occur_raises hmem).trans (s.icuChange_raises (·.occur k) h17)

/-- The sources that counting may raise: a wrapped counter's, and the end of Doze. -/
def countSources : List Nat := [357, 17]

theorem State.counterWrapped_raises (s : State) (n : Nat) : s.Raises countSources (s.counterWrapped n) := by
  have hovf (a : State) (x : PmcState) :
      a.Raises countSources (State.setFlag { a with pmc := x } pgPMC (Pmc.OVF (n / 32)) (n % 32) true) :=
    ((State.Raises.refl a).pmc x).setReg (by simp only [serviceKey, regKey, pgICU, pgPMC, Pmc.OVF]; omega)
  unfold State.counterWrapped
  dsimp only
  split
  · exact (hovf _ _).trans (State.irq_raises _ (by decide) (by decide))
  · exact hovf _ _

theorem State.count_raises (s : State) (n k : Nat) : s.Raises countSources (s.count n k) := by
  unfold State.count
  split
  · exact .refl s
  dsimp only
  split
  · exact (State.Raises.refl s).pmc _
  · exact ((State.Raises.refl s).pmc _).trans (State.counterWrapped_raises _ _)

theorem State.counted_raises (s : State) : s.Raises countSources s.counted := s.count_raises 1222 1

end

/-! ### Occurrences (R504, R506, R514) -/

section
variable {s : State} {k : Nat}

theorem State.occur_pending (hsource : isSource k = true) (haclk : s.aclkRuns = true) :
    (s.occur k).icuBit (Icu.PENDING 0) k = true := by
  have hset : (s.setIcuBit (Icu.PENDING 0) k true).icuBit (Icu.PENDING 0) k = true := by
    rw [State.icuBit_setIcuBit, if_pos rfl]
  have hk := isSource_lt hsource
  simp only [State.occur, hsource, haclk, Bool.not_true, Bool.false_eq_true, if_false]
  split
  · refine (State.icuBit_setReg_ne _ _ ?_).trans hset
    simp only [ne_eq, regKey_same_page, Icu.PENDING, srcCfg, Icu.SRC_CFG]
    omega
  · exact hset

theorem State.irq_pending (hsource : isSource k = true) (haclk : s.aclkRuns = true) :
    (s.irq k).icuBit (Icu.PENDING 0) k = true :=
  (s.icuChange_raises (·.occur k) (l := [17]) (by decide)).pending k (isSource_lt hsource) (State.occur_pending hsource haclk)

theorem State.irq_latches (hsource : isSource k = true) (haclk : s.aclkRuns = false) :
    Tab.get (fun _ => false) (s.irq k).icu.latch k = true := by
  refine (s.icuChange_raises (·.occur k) (l := [17]) (by decide)).latch k ?_
  simp only [State.occur, hsource, haclk, Bool.not_true, Bool.not_false, Bool.false_eq_true, if_false, if_true]
  exact Tab.get_set_self _ _ _ _

theorem State.notifyGroups_live (s t : State) : (s.notifyGroups t).live = t.live := by
  unfold State.notifyGroups
  refine List.foldlRecOn (motive := fun a : State => a.live = t.live) _ _ rfl fun a ha g _ => ?_
  split <;> exact ha

/-- Outside Doze a change of the interrupt controller brings messages that fall due, and no register with it. -/
theorem State.icuChange_live {f : State → State} (h : (f s).pwrState ≠ 1) : (s.icuChange f).live = (f s).live := by
  have hlive := s.notifyGroups_live (f s)
  have hawake : (s.notifyGroups (f s)).pwrState ≠ 1 := by
    rw [State.pwrState, State.sts, State.fld, State.reg, hlive]
    exact h
  unfold State.icuChange
  rw [if_neg fun hdoze => hawake hdoze.1]
  exact hlive

/-- In ACCOUNT mode an occurrence counts, up to 255 (R506). -/
theorem State.irq_counts (hsource : isSource k = true) (haclk : s.aclkRuns = true) (haccount : s.accountMode k = true)
    (hawake : s.pwrState ≠ 1) :
    (s.irq k).fld pgICU (srcCfg k) (31, 24) = min 255 (s.fld pgICU (srcCfg k) (31, 24) + 1) := by
  have hoccur : s.occur k = (s.setIcuBit (Icu.PENDING 0) k true).setFld pgICU (srcCfg k) (31, 24)
      (min 255 (s.fld pgICU (srcCfg k) (31, 24) + 1)) := by
    simp only [State.occur, hsource, haclk, haccount, Bool.not_true, Bool.false_eq_true, if_false, if_true]
  have hpwr : (s.occur k).pwrState = s.pwrState := by
    have hne (off : Nat) (ho : off < 0x4000) : regKey pgPWR PAGE_STATUS ≠ regKey pgICU off :=
      (regKey_icu_ne ho (by decide) (.inl (by decide))).symm
    have hk := isSource_lt hsource
    rw [hoccur, State.pwrState, State.sts, State.fld, State.setFld_eq, State.reg_setReg_ne _ _ (hne _ ?_), State.setIcuBit,
      State.setFlag_eq, State.reg_setReg_ne _ _ (hne _ ?_)]
    · rfl
    · simp only [Icu.PENDING]; omega
    · simp only [srcCfg, Icu.SRC_CFG]; omega
  have hlive := State.icuChange_live (s := s) (f := (·.occur k)) (by rw [hpwr]; exact hawake)
  rw [State.irq, State.fld, State.reg, hlive, hoccur]
  have hself := State.reg_setReg_self (s.setIcuBit (Icu.PENDING 0) k true) pgICU (srcCfg k)
    (putBits ((s.setIcuBit (Icu.PENDING 0) k true).reg pgICU (srcCfg k)) (31, 24) (min 255 (s.fld pgICU (srcCfg k) (31, 24) + 1)))
  rw [State.reg] at hself
  rw [State.setFld_eq, hself, bits_putBits_same _ (by decide)]
  exact Nat.mod_eq_of_lt (Nat.lt_of_le_of_lt (Nat.min_le_left _ _) (by decide))

end

theorem exec_interruptEdge {k : Nat} (h : isLevelSource k = false) (s : State) : exec (.interruptEdge k) s = .next (s.irq k) := by
  have hexec : exec (.interruptEdge k) s = .next (if isLevelSource k then s else s.irq k) := rfl
  rw [hexec, h]
  rfl

/-- The level of a level source that is not in service becomes its PENDING (R505). -/
theorem State.setLevel_follows {s : State} {k : Nat} {b : Bool} (hsource : isSource k = true) (hlevel : isLevelSource k = true)
    (hold : Tab.get (fun _ => false) s.icu.level k ≠ b) (haclk : s.aclkRuns = true) (haccount : s.accountMode k = false)
    (hservice : s.icuBit (Icu.IN_SERVICE 0) k = false) :
    (s.setLevel k b).icuBit (Icu.PENDING 0) k = b ∧ Tab.get (fun _ => false) (s.setLevel k b).icu.level k = b := by
  have h17 : k ∉ [17] := by
    rw [List.mem_singleton]
    rintro rfl
    cases hlevel
  simp only [State.setLevel, hsource, haclk, haccount, hservice, hold, Bool.not_true, Bool.false_eq_true, if_false]
  generalize hx : ({ s with icu := { s.icu with level := Tab.set (fun _ => false) s.icu.level k b } } : State) = x
  have hraises := x.icuChange_raises (l := [17]) (·.setIcuBit (Icu.PENDING 0) k b) (by decide)
  refine ⟨?_, ?_⟩
  · rw [hraises.others k (isSource_lt hsource) h17, State.icuBit_setIcuBit, if_pos rfl]
  · rw [hraises.level, ← hx]
    exact Tab.get_set_self _ _ _ _

theorem exec_levelChange {k : Nat} (h : isLevelSource k = true) (b : Bool) (s : State) :
    exec (.levelChange k b) s = .next (s.setLevel k b) := by
  have hexec : exec (.levelChange k b) s = .next (if isLevelSource k then s.setLevel k b else s) := rfl
  rw [hexec, h]
  rfl

/-! ### Claims (R508, R509) -/

/-- The source in service for target `t`, its request taken. -/
def State.served (s : State) (t k : Nat) : State :=
  let b := (s.setIcuBit (Icu.PENDING 0) k false).setIcuBit (Icu.IN_SERVICE 0) k true
  { b with icu := { b.icu with owner := Tab.set (fun _ => 1024) b.icu.owner k t } }

theorem State.claimTop_none {s : State} {t : Nat} (h : s.icuTop t = none) : s.claimTop t = s := by
  rw [State.claimTop, h]

section
variable {s : State} {t k : Nat}

theorem State.claimTop_some (h : s.icuTop t = some k) : s.claimTop t =
    let x := (s.icuChange (·.served t k)).count 1223 1
    if t < 4 then x.count (752 + 4 * t + 3) 1 else x := by
  rw [State.claimTop, h]
  rfl

/-- A claim takes the top source into service for its target. -/
theorem State.claimTop_serves (h : s.icuTop t = some k) (hk : k < 1024) :
    (s.claimTop t).icuBit (Icu.IN_SERVICE 0) k = true ∧ Tab.get (fun _ => 1024) (s.claimTop t).icu.owner k = t ∧
      (s.claimTop t).out = s.out := by
  have hserved := (s.icuChange_raises (l := countSources) (·.served t k) (by decide)).trans (State.count_raises _ 1223 1)
  have hraises : (s.served t k).Raises countSources (s.claimTop t) := by
    rw [State.claimTop_some h]
    dsimp only
    split
    · exact hserved.trans (State.count_raises _ _ _)
    · exact hserved
  refine ⟨?_, ?_, ?_⟩
  · rw [hraises.inService hk]
    exact (State.icuBit_setIcuBit _ _ _ _ _).trans (if_pos rfl)
  · rw [hraises.owner]
    exact Tab.get_set_self _ _ _ _
  · exact (State.claimTop_keeps (s.keeps_parts 0x2000) (Keep.off_of_and (by decide))).out_eq

end

theorem State.best_mem {s : State} {l : List Nat} {b : Option Nat} {k : Nat} (h : s.best l b = some k) : k ∈ l ∨ b = some k := by
  induction l generalizing b with
  | nil => exact .inr h
  | cons x l ih =>
    cases b with
    | none =>
      rcases ih h with hmem | hx
      · exact .inl (List.mem_cons_of_mem _ hmem)
      · exact .inl (Option.some.inj hx ▸ List.mem_cons_self)
    | some y =>
      rcases ih h with hmem | hx
      · exact .inl (List.mem_cons_of_mem _ hmem)
      · have hk := Option.some.inj hx
        split at hk
        · exact .inl (hk ▸ List.mem_cons_self)
        · exact .inr (congrArg some hk)

/-- The candidates stand in the sixteen words of the tables. -/
theorem State.lt_of_mem_candidates {s : State} {k : Nat} (h : k ∈ s.candidates) : k < 512 := by
  simp only [State.candidates, List.mem_flatMap, List.mem_range] at h
  obtain ⟨w, hw, hmem⟩ := h
  split at hmem
  · cases hmem
  · simp only [List.mem_map, List.mem_filter, List.mem_range] at hmem
    obtain ⟨b, ⟨hb, _⟩, rfl⟩ := hmem
    omega

/-- The top source of a target is one of the 512. -/
theorem State.icuTop_lt {s : State} {t k : Nat} (h : s.icuTop t = some k) : k < 512 := by
  rw [State.icuTop] at h
  split at h
  · rcases State.best_mem h with hmem | hnone
    · exact State.lt_of_mem_candidates (List.mem_filter.1 hmem).1
    · cases hnone
  · cases h

section
variable {s : State} {r : Requester} {n : Fin 8}

theorem State.counted_out (s : State) : s.counted.out = s.out := s.counted_same.out

theorem exec_icuClaim (haclk : s.aclkRuns = true) : exec (.icuClaim r n) s = .next (s.counted.claimRead r n) := by
  have hexec : exec (.icuClaim r n) s = .next (s.access (fun a => a.claimRead r n)) := rfl
  rw [hexec, State.access_eq haclk]

theorem State.claimRead_top (hacts : actsFor r n = true) :
    s.claimRead r n = (s.claimTop n).emit (.read (BitVec.ofNat 32 ((s.icuTop n).getD 0x3FF))) := by
  rw [State.claimRead, if_pos hacts]

theorem State.claimRead_denied (hacts : actsFor r n = false) :
    s.claimRead r n = (s.fault pgICU Icu.F_BAD_ACCESS).emit (.read 0x3FF) := by
  rw [State.claimRead, hacts]
  rfl

end

/-! ### Completions (R505, R510) -/

section
variable {s : State} {r : Requester} {n : Fin 8} {k : Nat}

/-- What a completion ends: IN_SERVICE and the owner; an edge source keeps its PENDING. -/
theorem State.endService_leaves (s : State) (k : Nat) : (s.endService k).icuBit (Icu.IN_SERVICE 0) k = false ∧
    Tab.get (fun _ => 1024) (s.endService k).icu.owner k = 1024 ∧
    (isLevelSource k = false → (s.endService k).icuBit (Icu.PENDING 0) k = s.icuBit (Icu.PENDING 0) k) := by
  have hoff : s.icuBit (Icu.PENDING 0) k = (s.setIcuBit (Icu.IN_SERVICE 0) k false).icuBit (Icu.PENDING 0) k := by
    refine (State.icuBit_setReg_ne _ _ ?_).symm
    simp only [ne_eq, regKey_same_page, Icu.PENDING, Icu.IN_SERVICE]
    omega
  have hended : (s.setIcuBit (Icu.IN_SERVICE 0) k false).icuBit (Icu.IN_SERVICE 0) k = false := by
    rw [State.icuBit_setIcuBit, if_pos rfl]
  have hfree : Tab.get (fun _ => 1024) (Tab.set (fun _ => 1024) s.icu.owner k 1024) k = 1024 := Tab.get_set_self _ _ _ _
  unfold State.endService
  dsimp only
  split
  · next hresample =>
    refine ⟨(State.icuBit_setReg_ne _ _ ?_).trans hended, hfree, fun hedge => ?_⟩
    · simp only [ne_eq, regKey_same_page, Icu.PENDING, Icu.IN_SERVICE]
      omega
    · rw [hedge] at hresample
      cases hresample
  · exact ⟨hended, hfree, fun _ => hoff.symm⟩

theorem exec_icuComplete (h : s.reaches pgICU = true) (k : Fin 1024) :
    exec (.icuComplete r n k) s = .next (s.counted.completeWrite r n k) := by
  have hexec : exec (.icuComplete r n k) s = .next (s.gate pgICU (fun a => a.completeWrite r n k)) := rfl
  rw [hexec, State.gate_eq h]

theorem State.completeWrite_denied (hacts : actsFor r n = false) : s.completeWrite r n k = s.fault pgICU Icu.F_BAD_ACCESS := by
  rw [State.completeWrite, hacts]
  rfl

/-- The service of `k` is the target's. -/
abbrev State.Owns (s : State) (n k : Nat) : Prop :=
  s.icuBit (Icu.IN_SERVICE 0) k = true ∧ k < 512 ∧ Tab.get (fun _ => 1024) s.icu.owner k = n

theorem State.completeWrite_bad (hacts : actsFor r n = true) (h : ¬s.Owns n k) :
    s.completeWrite r n k = s.fault pgICU Icu.F_BAD_COMPLETE := by
  have hcond : (s.icuBit (Icu.IN_SERVICE 0) k && decide (k < 512) && Tab.get (fun _ => 1024) s.icu.owner k == n.val) = false := by
    rw [Bool.eq_false_iff]
    simpa [State.Owns, and_assoc] using h
  rw [State.completeWrite, hacts, hcond]
  rfl

/-- A completion by the owner ends the service; an edge source that is PENDING stays so (R504). -/
theorem State.completeWrite_ends (hacts : actsFor r n = true) (h : s.Owns n k) :
    (s.completeWrite r n k).icuBit (Icu.IN_SERVICE 0) k = false ∧
      Tab.get (fun _ => 1024) (s.completeWrite r n k).icu.owner k = 1024 ∧
      (isLevelSource k = false → s.icuBit (Icu.PENDING 0) k = true → (s.completeWrite r n k).icuBit (Icu.PENDING 0) k = true) := by
  obtain ⟨hservice, hk, howner⟩ := h
  have hended := s.icuChange_raises (l := [17]) (·.endService k) (by decide)
  have hraises : (s.endService k).Raises [17] (s.completeWrite r n k) := by
    simp only [State.completeWrite, hacts, hservice, hk, howner, Bool.not_true, Bool.false_eq_true, if_false, decide_true, Bool.and_true,
      beq_self_eq_true, if_true]
    split
    · exact hended.upd rfl rfl rfl rfl
    · exact hended
  obtain ⟨hend, hfree, hedge⟩ := s.endService_leaves k
  exact ⟨(hraises.inService (by omega)).trans hend, by rw [hraises.owner, hfree],
    fun hkind hp => hraises.pending k hk ((hedge hkind).trans hp)⟩

end

/-! ### Messages (R347, R516, R517) -/

section
variable {s : State} {g : Nat}

theorem State.msixSend_masked (hdue : Tab.get (fun _ => false) s.icu.due g = true) (hmask : s.msixMasked g = true) :
    s.msixSend g = (s.clearDue g).setFlag pgICU (Icu.MSIX_PBA 0) g true := by
  simp [State.msixSend, hdue, hmask]

theorem State.msixSend_held (hdue : Tab.get (fun _ => false) s.icu.due g = true) (hmask : s.msixMasked g = false)
    (hlink : s.icu.linkL0 = false) : s.msixSend g = { s.clearDue g with icu := { (s.clearDue g).icu with
      held := Tab.set (fun _ => false) (s.clearDue g).icu.held g true, exitL1 := (s.clearDue g).icu.exitL1 || (s.clearDue g).icu.linkL1 } } := by
  simp [State.msixSend, hdue, hmask, hlink]

theorem State.msixSend_sent (hdue : Tab.get (fun _ => false) s.icu.due g = true) (hmask : s.msixMasked g = false)
    (hlink : s.icu.linkL0 = true) : s.msixSend g = (s.clearDue g).emit (.msix g (s.reg pgICU (Icu.MSIX_TABLE (4 * g + 1)))
      (s.reg pgICU (Icu.MSIX_TABLE (4 * g))) (s.reg pgICU (Icu.MSIX_TABLE (4 * g + 2)))) := by
  simp [State.msixSend, hdue, hmask, hlink]

theorem State.clearDue_due (s : State) (g : Nat) : Tab.get (fun _ => false) (s.clearDue g).icu.due g = false :=
  Tab.get_of_set s.icu.due rfl

end

/-! ### A source far beyond the table -/

/-- Source 1 in ACCOUNT mode after reset: its SRC_CFG holds the ACCOUNT bit alone. -/
def countingOne : State := State.reset.setReg pgICU (srcCfg 1) 0x00010000

/-- The number whose IN_SERVICE bit would stand where the lowest bit of COUNT of source 1 stands. -/
def countBitOfOne : Nat := 32 * ((srcCfg 1 - Icu.IN_SERVICE 0) / 4) + 24

theorem countingOne_counts : (countingOne.irq 1).icuBit (Icu.IN_SERVICE 0) countBitOfOne = true ∧
    countingOne.icuBit (Icu.IN_SERVICE 0) countBitOfOne = false := by
  have hcount := State.irq_counts (s := countingOne) (k := 1) rfl rfl (by decide +kernel) (by decide +kernel)
  have hzero : countingOne.fld pgICU (srcCfg 1) (31, 24) = 0 := by decide +kernel
  rw [hzero] at hcount
  refine ⟨?_, by decide +kernel⟩
  have hbit (w : Word) (h : bits w (31, 24) = 1) : bit w 24 = true := by
    have htest := testBit_bits w (31, 24) (n := 0) (by decide)
    rw [h] at htest
    exact htest.symm
  exact hbit _ hcount

end Sys2Proof.Machine

open Sys2Proof Sys2Proof.Machine

/-- Refutes O57: the first clause speaks of the IN_SERVICE bit of every number j, also of those beyond the 512 of the table. In ACCOUNT
mode an occurrence of source 1 counts in its SRC_CFG, whose COUNT bit stands where the bit of j = 39480 would. -/
theorem not_edgesBecomePending : ¬ Obligations.EdgesBecomePending := by
  rintro ⟨hedge, _⟩
  obtain ⟨hset, hclear⟩ := countingOne_counts
  obtain ⟨t, ht, _, hkeeps, _⟩ := hedge countingOne 1 rfl rfl rfl
  rw [exec_interruptEdge rfl] at ht
  have hsame := hkeeps countBitOfOne
  rw [← Host.Outcome.next.inj ht, hset, hclear] at hsame
  cases hsame

/-- Settles O58: the end of the owner's service, and the fault of any other number. -/
theorem completionsEndServices : Obligations.CompletionsEndServices := by
  intro s r n k hreaches hacts
  refine ⟨fun howned => ?_, fun hother => ?_⟩
  · obtain ⟨hservice, howner, _⟩ := State.completeWrite_ends hacts howned
    exact ⟨_, exec_icuComplete hreaches k, hservice, howner⟩
  · rw [exec_icuComplete hreaches, State.completeWrite_bad hacts hother]

/-- Settles O37: occurrences, levels, claims, completions and messages, each by what its operation leaves. -/
theorem interruptsAct : Obligations.InterruptsAct := by
  refine ⟨fun s k hsource hedge => ?_, fun s k b hsource hlevel hold haclk haccount hservice => ?_, fun s r n => ?_, fun s r n k => ?_,
    fun s r k hreaches hsource => ?_, fun s g hdue => ?_⟩
  · refine ⟨fun haclk => ⟨_, exec_interruptEdge hedge s, State.irq_pending hsource haclk⟩,
      fun haclk haccount hawake => ⟨_, exec_interruptEdge hedge s, State.irq_counts hsource haclk haccount hawake⟩,
      fun haclk => ⟨_, exec_interruptEdge hedge s, State.irq_latches hsource haclk⟩⟩
  · exact ⟨_, exec_levelChange hlevel b s, State.setLevel_follows hsource hlevel hold haclk haccount hservice⟩
  · intro a haclk
    refine ⟨fun hacts k htop => ?_, fun hacts htop => ?_, fun hacts => ?_⟩
    · obtain ⟨hservice, howner, hout⟩ := State.claimTop_serves htop (Nat.lt_trans (State.icuTop_lt htop) (by decide))
      refine ⟨_, exec_icuClaim haclk, ?_⟩
      rw [State.claimRead_top hacts, htop]
      exact ⟨congrArg (List.cons _) (hout.trans s.counted_out), hservice, howner⟩
    · rw [exec_icuClaim haclk, State.claimRead_top hacts, htop, State.claimTop_none htop]
      rfl
    · rw [exec_icuClaim haclk, State.claimRead_denied hacts]
  · intro a hreaches
    refine ⟨fun hacts hservice hk howner => ?_, fun hacts _ howner => ?_, fun hacts => ?_⟩
    · obtain ⟨hend, hfree, _⟩ := State.completeWrite_ends hacts ⟨hservice, hk, howner⟩
      exact ⟨_, exec_icuComplete hreaches k, hend, hfree⟩
    · rw [exec_icuComplete hreaches, State.completeWrite_bad hacts fun howned => howner howned.2.2]
    · rw [exec_icuComplete hreaches, State.completeWrite_denied hacts]
  · refine ⟨_, congrArg Host.Outcome.next (State.gate_eq hreaches (·.countClr k)), ?_⟩
    rw [State.countClr, if_pos hsource, State.fld, State.setFld_eq, State.reg_setReg_self]
    exact bits_putBits_same _ (by decide) 0
  · refine ⟨fun hmask => ⟨_, rfl, ?_⟩, fun hmask hlink => ⟨_, rfl, ?_⟩, fun hmask hlink => ⟨_, rfl, ?_⟩⟩
    · rw [State.msixSend_masked hdue hmask]
      exact ⟨State.flag_setFlag_self _ _ _ (by omega), rfl, s.clearDue_due g⟩
    · rw [State.msixSend_held hdue hmask hlink]
      exact ⟨Tab.get_of_set (s.clearDue g).icu.held rfl, rfl, rfl, s.clearDue_due g⟩
    · rw [State.msixSend_sent hdue hmask hlink]
      exact ⟨s.clearDue_due g, rfl⟩

end

section
/-!
Frames by spans of register bits: what the shared operations may write, each told once as a list of spans.
-/
set_option Elab.async false
namespace Sys2Proof.Machine

/-! ### Register bits outside spans -/

/-- Bit `n` of the register of key `k` counts as number `32 * k + n`; a span is a range of such numbers. -/
abbrev Span : Type := Nat × Nat

/-- The registers from page `p` to before page `q`. -/
abbrev pageSpan (p q : Nat) : Span := (0x20000 * p, 0x20000 * q)

/-- One register. -/
abbrev regSpan (page off : Nat) : Span := (32 * regKey page off, 32 * regKey page off + 32)

/-- One field of a register. -/
abbrev fldSpan (page off : Nat) (f : Field) : Span := (32 * regKey page off + f.2, 32 * regKey page off + (f.1 + 1))

/-- The bits from `lo` to before `hi` lie in none of the spans. -/
abbrev spanClear (l : List Span) (lo hi : Nat) : Prop := ∀ i ∈ l, hi ≤ i.1 ∨ i.2 ≤ lo

/-- The register of key `k` lies in none of the spans. -/
abbrev clearOf (l : List Span) (k : Nat) : Prop := spanClear l (32 * k) (32 * k + 32)

/-- The field lies in none of the spans. -/
abbrev clearFld (l : List Span) (k : Nat) (f : Field) : Prop := spanClear l (32 * k + f.2) (32 * k + (f.1 + 1))

/-- Every span of `l` lies in one of `m`. -/
abbrev covered (l m : List Span) : Prop := ∀ i ∈ l, ∃ j ∈ m, j.1 ≤ i.1 ∧ i.2 ≤ j.2

/-- Register bits outside the spans of `l` are as before. -/
structure State.Within (l : List Span) (s t : State) : Prop where
  bits : ∀ k n, n < 32 → spanClear l (32 * k + n) (32 * k + (n + 1)) → bit (t.at k) n = bit (s.at k) n

/-- A field is what its bits are. -/
theorem bits_congr {v w : Word} {f : Field} (h : ∀ n, f.2 ≤ n → n ≤ f.1 → bit v n = bit w n) : bits v f = bits w f := by
  refine Nat.eq_of_testBit_eq fun n => ?_
  by_cases hn : n + f.2 ≤ f.1
  · rw [testBit_bits v f hn, testBit_bits w f hn, h (n + f.2) (by omega) hn]
  · have hout : decide (n < f.1 + 1 - f.2) = false := decide_eq_false (by omega)
    simp only [bits, Nat.testBit_mod_two_pow, hout, Bool.false_and]

section
variable {s t u : State} {l m : List Span}

theorem State.Within.refl (s : State) : s.Within l s := ⟨fun _ _ _ _ => rfl⟩

theorem State.Within.trans (h : s.Within l t) (g : t.Within l u) : s.Within l u :=
  ⟨fun k n hn hk => (g.bits k n hn hk).trans (h.bits k n hn hk)⟩

theorem State.Within.widen (h : s.Within l t) (hsub : covered l m) : s.Within m t := by
  refine ⟨fun k n hn hk => h.bits k n hn fun i hi => ?_⟩
  obtain ⟨j, hj, hlow, hhigh⟩ := hsub i hi
  have := hk j hj
  omega

theorem State.Within.mono (h : s.Within l t) (hsub : l ⊆ m) : s.Within m t :=
  h.widen fun i hi => ⟨i, hsub hi, Nat.le_refl _, Nat.le_refl _⟩

/-- Of two spreads the wider one holds for both. -/
theorem State.Within.andThen (h : s.Within m t) (g : t.Within l u) (hsub : l ⊆ m) : s.Within m u := h.trans (g.mono hsub)

theorem State.Within.at (h : s.Within l t) {k : Nat} (hk : clearOf l k) : t.at k = s.at k := by
  refine BitVec.eq_of_getLsbD_eq fun n hn => h.bits k n hn fun i hi => ?_
  have := hk i hi
  omega

theorem State.Within.reg (h : s.Within l t) {page off : Nat} (hk : clearOf l (regKey page off)) : t.reg page off = s.reg page off :=
  h.at hk

theorem State.Within.nat (h : s.Within l t) {page off : Nat} (hk : clearOf l (regKey page off)) : t.nat page off = s.nat page off := by
  rw [State.nat, h.reg hk, State.nat]

/-- A field outside the spans, of whatever else of its register they hold. -/
theorem State.Within.fldApart (h : s.Within l t) {page off : Nat} {f : Field} (hk : clearFld l (regKey page off) f)
    (hf : Field.fits f := by decide) : t.fld page off f = s.fld page off f := by
  refine bits_congr fun n hlow hhigh => h.bits _ n (Nat.lt_of_le_of_lt hhigh hf.2) fun i hi => ?_
  have := hk i hi
  omega

theorem State.Within.fld (h : s.Within l t) {page off : Nat} (hk : clearOf l (regKey page off)) (f : Field) :
    t.fld page off f = s.fld page off f := by
  rw [State.fld, h.reg hk, State.fld]

theorem State.Within.flag (h : s.Within l t) {page off : Nat} (hk : clearOf l (regKey page off)) (n : Nat) :
    t.flag page off n = s.flag page off n := by
  rw [State.flag, h.reg hk, State.flag]

/-- A bit outside the spans, of whatever else of its register they hold. -/
theorem State.Within.flagApart (h : s.Within l t) {page off n : Nat} (hk : clearFld l (regKey page off) (n, n)) (hn : n < 32 := by decide) :
    t.flag page off n = s.flag page off n := h.bits _ n hn hk

theorem State.Within.sts (h : s.Within l t) {page : Nat} (hk : clearOf l (regKey page PAGE_STATUS)) (f : Field) :
    t.sts page f = s.sts page f := h.fld hk f

/-- A field of a PAGE_STATUS that the spans may hold other fields of. -/
theorem State.Within.stsApart (h : s.Within l t) {page : Nat} {f : Field} (hk : clearFld l (regKey page PAGE_STATUS) f)
    (hf : Field.fits f := by decide) : t.sts page f = s.sts page f := h.fldApart hk hf

/-- An update of parts beside the registers. -/
theorem State.Within.upd (h : s.Within l t) (hlive : u.live = t.live) : s.Within l u :=
  h.trans ⟨fun k _ _ _ => by rw [State.at, hlive, State.at]⟩

theorem State.Within.setReg (h : s.Within l t) {page off : Nat} {v : Word}
    (hk : ∃ i ∈ l, i.1 ≤ 32 * regKey page off ∧ 32 * regKey page off + 32 ≤ i.2) : s.Within l (t.setReg page off v) := by
  refine h.trans ⟨fun k n hn hfar => congrArg (bit · n) (State.at_setReg_ne _ _ fun he => ?_)⟩
  obtain ⟨i, hi, hlow, hhigh⟩ := hk
  have := hfar i hi
  omega

/-- A write of a register that moves bits of one span alone. -/
theorem State.Within.setBits (h : s.Within l t) {page off : Nat} {v : Word} {i : Span} (hi : i ∈ l)
    (hv : ∀ n, n < 32 → (32 * regKey page off + n < i.1 ∨ i.2 ≤ 32 * regKey page off + n) → bit v n = bit (t.reg page off) n) :
    s.Within l (t.setReg page off v) := by
  refine h.trans ⟨fun k n hn hfar => ?_⟩
  by_cases hk : k = regKey page off
  · subst hk
    refine (congrArg (bit · n) (t.reg_setReg_self page off v)).trans (hv n hn ?_)
    have := hfar i hi
    omega
  · exact congrArg (bit · n) (State.at_setReg_ne _ _ hk)

/-- A write of one field. -/
theorem State.Within.setFld (h : s.Within l t) {page off n : Nat} {f : Field} (hi : fldSpan page off f ∈ l)
    (hf : Field.fits f := by decide) : s.Within l (t.setFld page off f n) :=
  h.setBits hi fun m _ hm => bit_putBits_of_apart _ hf _ (by dsimp only [fldSpan] at hm; omega)

/-- A write of one field of a PAGE_STATUS. -/
theorem State.Within.setSts (h : s.Within l t) {page n : Nat} {f : Field} (hi : fldSpan page PAGE_STATUS f ∈ l)
    (hf : Field.fits f := by decide) : s.Within l (t.setSts page f n) := h.setFld hi hf

/-- A write of one bit. -/
theorem State.Within.setFlag (h : s.Within l t) {page off n : Nat} {b : Bool} (hi : fldSpan page off (n, n) ∈ l)
    (hn : n < 32 := by decide) : s.Within l (t.setFlag page off n b) := by
  refine h.setBits hi fun m hm hfar => ?_
  have hne : m ≠ n := by
    dsimp only [fldSpan] at hfar
    omega
  cases b with
  | true => exact (bit_setBit _ _ _ hn).trans (by simp [hne])
  | false => exact (bit_clearBit _ _ _ hn).trans (by simp [hne])

theorem State.Within.ite {p : Prop} [Decidable p] (h : s.Within l t) (g : s.Within l u) : s.Within l (if p then t else u) := by
  split
  · exact h
  · exact g

theorem State.Within.foldl {α : Type} {f : State → α → State} {x : List α} (h : s.Within l t)
    (hf : ∀ y ∈ x, ∀ a : State, a.Within l (f a y)) : s.Within l (x.foldl f t) :=
  List.foldlRecOn (motive := s.Within l) _ _ h fun a ha y hy => ha.trans (hf y hy a)

end

/-! ### Interrupts, counters and faults -/

/-- A write on a page that a span holds whole. -/
theorem State.Within.setPage {s t : State} {l : List Span} (h : s.Within l t) {p q page off : Nat} {v : Word} (hmem : pageSpan p q ∈ l)
    (hlow : p ≤ page := by decide) (hhigh : page < q := by decide) (hoff : off < 0x1000 := by decide) :
    s.Within l (t.setReg page off v) :=
  h.setReg ⟨_, hmem, by simp only [regKey]; omega, by simp only [regKey]; omega⟩

/-- What raising an interrupt may write: ICU, and the ends of Doze in PWR, HTH and the status of FLD. -/
abbrev irqSpans : List Span := [pageSpan 8 12, fldSpan pgPWR PAGE_STATUS Pwr.S_PWR_STATE, regSpan pgHTH Hth.WAKE_RECORD,
  regSpan pgHTH Hth.WAKE_TICK_LO, regSpan pgHTH Hth.WAKE_TICK_HI, fldSpan (pgFLD 0) PAGE_STATUS (18, 16),
  fldSpan (pgFLD 1) PAGE_STATUS (18, 16), fldSpan (pgFLD 2) PAGE_STATUS (18, 16), fldSpan (pgFLD 3) PAGE_STATUS (18, 16),
  fldSpan (pgFLD 4) PAGE_STATUS (18, 16), fldSpan (pgFLD 5) PAGE_STATUS (18, 16), fldSpan (pgFLD 6) PAGE_STATUS (18, 16),
  fldSpan (pgFLD 7) PAGE_STATUS (18, 16)]

/-- The OVF registers. -/
abbrev ovfSpan : Span := (32 * regKey pgPMC 0x1100, 32 * regKey pgPMC 0x11C0)

/-- What counting may write: the same, and OVF. -/
abbrev countSpans : List Span := ovfSpan :: irqSpans

section
variable {s t u : State} {l m : List Span}

/-- A write of a field that a span of the same register holds. -/
theorem State.Within.setFldIn (h : s.Within l t) {page off n : Nat} {f g : Field} (hi : fldSpan page off g ∈ l)
    (hsub : g.2 ≤ f.2 ∧ f.1 ≤ g.1) (hf : Field.fits f := by decide) : s.Within l (t.setFld page off f n) :=
  h.setBits hi fun m _ hm => bit_putBits_of_apart _ hf _ (by dsimp only [fldSpan] at hm; omega)

theorem State.setIcuBit_within (table k : Nat) (b : Bool) (h : table < 0x100 := by decide) (hk : k < 512) :
    s.Within irqSpans (s.setIcuBit table k b) :=
  (State.Within.refl s).setReg ⟨_, List.mem_cons_self, by simp only [regKey, pgICU]; omega, by simp only [regKey, pgICU]; omega⟩

theorem State.occur_within (k : Nat) : s.Within irqSpans (s.occur k) := by
  unfold State.occur
  split
  · exact .refl s
  · next hs =>
    have hk : k < 512 := isSource_lt (by simpa using hs)
    have hset : s.Within irqSpans (s.setIcuBit (Icu.PENDING 0) k true) := s.setIcuBit_within _ _ _ (by decide) hk
    split
    · exact (State.Within.refl s).upd rfl
    · refine State.Within.ite (hset.setReg ⟨_, List.mem_cons_self, ?_, ?_⟩) hset
      · simp only [regKey, pgICU]
        omega
      · simp only [regKey, pgICU, srcCfg, Icu.SRC_CFG]
        omega

theorem State.notifyGroups_within (s t : State) : t.Within l (s.notifyGroups t) :=
  (State.Within.refl t).foldl fun _ _ a => State.Within.ite ((State.Within.refl a).upd rfl) (State.Within.refl a)

theorem State.fieldResume_within : s.Within irqSpans s.fieldResume := by
  refine (State.Within.refl s).foldl fun k hk a => State.Within.ite ?_ (State.Within.refl a)
  have hspan : fldSpan (pgFLD k) PAGE_STATUS (18, 16) ∈ irqSpans :=
    (show ∀ n < 8, fldSpan (pgFLD n) PAGE_STATUS (18, 16) ∈ irqSpans by decide) k (List.mem_range.1 hk)
  exact ((State.Within.refl a).setFldIn hspan (by decide)).setFldIn hspan (by decide)

theorem State.loadWake_within (from_ : Nat) (aborted : Bool) (seen pins : Nat) : s.Within irqSpans (s.loadWake from_ aborted seen pins) :=
  (((State.Within.refl s).setReg ⟨regSpan pgHTH Hth.WAKE_RECORD, by decide, Nat.le_refl _, Nat.le_refl _⟩).setReg
    ⟨regSpan pgHTH Hth.WAKE_TICK_LO, by decide, Nat.le_refl _, Nat.le_refl _⟩).setReg
    ⟨regSpan pgHTH Hth.WAKE_TICK_HI, by decide, Nat.le_refl _, Nat.le_refl _⟩

theorem State.leaveDoze_within (seen pins : Nat) : s.Within irqSpans (s.leaveDoze seen pins) := by
  have hdmx (a : State) (x : Tab DmxState) : a.Within irqSpans { a with dmx := x } := (State.Within.refl a).upd rfl
  have hstate : s.Within irqSpans ((s.loadWake 1 false seen pins).setSts pgPWR Pwr.S_PWR_STATE 0) :=
    (State.loadWake_within _ _ _ _).setSts (by decide)
  unfold State.leaveDoze
  exact (hstate.trans (hdmx _ _)).trans State.fieldResume_within

theorem State.icuChange_within {f : State → State} (hf : s.Within irqSpans (f s)) : s.Within irqSpans (s.icuChange f) := by
  have hnotify := hf.trans (s.notifyGroups_within (l := irqSpans) (f s))
  exact State.Within.ite (((hnotify.trans (State.leaveDoze_within _ _)).trans (State.occur_within _)).trans
    (State.notifyGroups_within _ _)) hnotify

theorem State.irq_within (k : Nat) : s.Within irqSpans (s.irq k) := State.icuChange_within (State.occur_within k)

theorem State.setLevel_within (k : Nat) (b : Bool) : s.Within irqSpans (s.setLevel k b) := by
  have hicu (a : State) (x : IcuState) : a.Within irqSpans { a with icu := x } := (State.Within.refl a).upd rfl
  have hlevel := hicu s { s.icu with level := Tab.set (fun _ => false) s.icu.level k b }
  unfold State.setLevel
  dsimp only
  split
  · exact .refl s
  · next hs =>
    have hk : k < 512 := isSource_lt (by simpa using hs)
    exact hlevel.ite (State.Within.ite ((hlevel.trans (hicu _ _)).ite hlevel)
      (State.Within.ite ((hlevel.trans (State.icuChange_within (State.occur_within _))).ite hlevel)
        (hlevel.ite (hlevel.trans (State.icuChange_within (State.setIcuBit_within _ _ _ (by decide) hk))))))

theorem State.Within.irq (h : s.Within l t) {k : Nat} (hsub : irqSpans ⊆ l) : s.Within l (t.irq k) :=
  h.andThen (State.irq_within k) hsub

theorem State.Within.setLevel (h : s.Within l t) {k : Nat} {b : Bool} (hsub : irqSpans ⊆ l) : s.Within l (t.setLevel k b) :=
  h.andThen (State.setLevel_within k b) hsub

theorem State.count_within (n k : Nat) : s.Within countSpans (s.count n k) := by
  have hpmc (a : State) (x : PmcState) : a.Within countSpans { a with pmc := x } := (State.Within.refl a).upd rfl
  have hirq : irqSpans ⊆ countSpans := List.subset_cons_self _ _
  unfold State.count
  split
  · exact .refl s
  · next hused =>
    have hn := counterUsed_lt (by simpa using hused)
    have hwrapped (a : State) : a.Within countSpans (a.counterWrapped n) := by
      have hset (b : State) : b.Within countSpans (b.setFlag pgPMC (Pmc.OVF (n / 32)) (n % 32) true) :=
        (State.Within.refl b).setReg ⟨_, List.mem_cons_self, by simp only [regKey, Pmc.OVF]; omega, by simp only [regKey, Pmc.OVF]; omega⟩
      exact (((hpmc a _).trans (hset _)).irq hirq).ite ((hpmc a _).trans (hset _))
    exact (hpmc s _).ite ((hpmc s _).trans (hwrapped _))

theorem State.Within.count (h : s.Within l t) {n k : Nat} (hsub : countSpans ⊆ l) : s.Within l (t.count n k) :=
  h.andThen (State.count_within n k) hsub

theorem State.counted_within (s : State) : s.Within countSpans s.counted := State.count_within _ _

/-- Beside its bit a fault raises an interrupt at most. -/
theorem State.faultHere_within (s : State) (page n : Nat) :
    (s.setFlag page PAGE_FAULT n true).Within irqSpans (s.faultHere page n) := by
  have hset := State.Within.refl (l := irqSpans) (s.setFlag page PAGE_FAULT n true)
  unfold State.faultHere
  cases pageInfo page with
  | none => exact hset
  | some i =>
    dsimp only
    cases faultIrq i n with
    | none => exact hset
    | some k => exact hset.ite (hset.irq (List.Subset.refl _))

theorem State.Within.faultHere (h : s.Within l t) {page n : Nat} {i : Span} (hmem : i ∈ l)
    (hlow : i.1 ≤ 32 * regKey page PAGE_FAULT + n) (hhigh : 32 * regKey page PAGE_FAULT + n < i.2) (hn : n < 32)
    (hirq : irqSpans ⊆ l) : s.Within l (t.faultHere page n) :=
  (h.setBits hmem fun m _ hm => (bit_setBit _ _ _ hn).trans (by simp [show m ≠ n by omega])).andThen
    (t.faultHere_within page n) hirq

/-- A fault that a page reports itself: one bit of PAGE_FAULT, and perhaps an interrupt. -/
theorem State.Within.faultBit (h : s.Within l t) {page n : Nat} {i : PageInfo} (hi : pageInfo page = some i)
    (hb : i.block.reported = false) (hmem : fldSpan page PAGE_FAULT (n, n) ∈ l) (hirq : irqSpans ⊆ l) (hn : n < 32 := by decide) :
    s.Within l (t.fault page n) := by
  rw [t.fault_eq_faultHere hi hb]
  exact h.faultHere hmem (Nat.le_refl _) (Nat.lt_succ_self _) hn hirq

/-- A fault that a page reports itself: a bit of PAGE_FAULT, and perhaps an interrupt. -/
theorem State.Within.fault (h : s.Within l t) {page n : Nat} {i : PageInfo} (hi : pageInfo page = some i) (hb : i.block.reported = false)
    (hsub : regSpan page PAGE_FAULT :: irqSpans ⊆ l) (hn : n < 32 := by decide) : s.Within l (t.fault page n) := by
  obtain ⟨hmem, hirq⟩ := List.cons_subset.1 hsub
  rw [t.fault_eq_faultHere hi hb]
  exact h.faultHere hmem (by dsimp only; omega) (by dsimp only; omega) hn hirq

/-- The bit that a fault sets. -/
theorem State.flag_fault (s : State) {page n : Nat} {i : PageInfo} (hi : pageInfo page = some i) (hb : i.block.reported = false)
    (hn : n < 32) (hk : clearOf irqSpans (regKey page PAGE_FAULT)) : (s.fault page n).flag page PAGE_FAULT n = true := by
  rw [s.fault_eq_faultHere hi hb, (s.faultHere_within page n).flag hk]
  exact s.flag_setFlag_self _ _ hn

end

/-! ### Parts that an operation leaves -/

section
variable {l : List Instr} {s t : State} {m : Nat} {c : Bool}

namespace State.Keeps

theorem shadow_eq (h : State.Keeps ⟨l, s, m, c⟩ t) (hm : m.testBit 2 = true := by decide) : t.shadow = s.shadow := h.shadowIs hm
theorem queues_eq (h : State.Keeps ⟨l, s, m, c⟩ t) (hm : m.testBit 6 = true := by decide) : t.queues = s.queues := h.queuesIs hm
theorem icu_eq (h : State.Keeps ⟨l, s, m, c⟩ t) (hm : m.testBit 8 = true := by decide) : t.icu = s.icu := h.icuIs hm
theorem evr_eq (h : State.Keeps ⟨l, s, m, c⟩ t) (hm : m.testBit 11 = true := by decide) : t.evr = s.evr := h.evrIs hm
theorem pmc_eq (h : State.Keeps ⟨l, s, m, c⟩ t) (hm : m.testBit 12 = true := by decide) : t.pmc = s.pmc := h.pmcIs hm
theorem cluster_eq (h : State.Keeps ⟨l, s, m, c⟩ t) (hm : m.testBit 22 = true := by decide) : t.cluster = s.cluster := h.clusterIs hm
theorem lamp_eq (h : State.Keeps ⟨l, s, m, c⟩ t) (hm : m.testBit 23 = true := by decide) : t.lamp = s.lamp := h.lampIs hm
theorem field_eq (h : State.Keeps ⟨l, s, m, c⟩ t) (hm : m.testBit 24 = true := by decide) : t.field = s.field := h.fieldIs hm
theorem ntm_eq (h : State.Keeps ⟨l, s, m, c⟩ t) (hm : m.testBit 29 = true := by decide) : t.ntm = s.ntm := h.ntmIs hm
theorem ing_eq (h : State.Keeps ⟨l, s, m, c⟩ t) (hm : m.testBit 30 = true := by decide) : t.ing = s.ing := h.ingIs hm
theorem str_eq (h : State.Keeps ⟨l, s, m, c⟩ t) (hm : m.testBit 31 = true := by decide) : t.str = s.str := h.strIs hm
theorem thm_eq (h : State.Keeps ⟨l, s, m, c⟩ t) (hm : m.testBit 35 = true := by decide) : t.thm = s.thm := h.thmIs hm
theorem cal_eq (h : State.Keeps ⟨l, s, m, c⟩ t) (hm : m.testBit 36 = true := by decide) : t.cal = s.cal := h.calIs hm
theorem fwu_eq (h : State.Keeps ⟨l, s, m, c⟩ t) (hm : m.testBit 37 = true := by decide) : t.fwu = s.fwu := h.fwuIs hm

end State.Keeps
end

end Sys2Proof.Machine
end

section
/-!
Queues (R482 to R498): what a write, a commit, a rewind, a pop and a setting leave of a queue and of its registers, and O36 and O56.
-/
set_option Elab.async false
namespace Sys2Proof.Machine

/-! ### Registers of a queue page -/

/-- What following the levels of QUE[j] may write: its PAGE_STATUS, and what an interrupt writes. -/
abbrev levelSpans (j : Nat) : List Span := regSpan (pgQUE j) PAGE_STATUS :: irqSpans

section
variable (s : State) (j q : Nat)

theorem State.queueLevels_within : s.Within (levelSpans j) (s.queueLevels j) := by
  refine State.Within.setLevel ((State.Within.refl s).foldl fun y _ a => ?_) (List.subset_cons_self _ _)
  exact (State.Within.refl a).setReg ⟨_, List.mem_cons_self, Nat.le_refl _, Nat.le_refl _⟩

/-- The settings and counts of a queue stay while interrupts are raised and levels followed. -/
theorem clearOf_levels {j : Nat} (hj : j < 16) {off : Nat} (hlow : 0x100 ≤ off) (hhigh : off < 0x1000) :
    clearOf (levelSpans j) (regKey (pgQUE j) off) := by
  simp only [clearOf, spanClear, levelSpans, irqSpans, pageSpan, regSpan, fldSpan, List.mem_cons, List.not_mem_nil, or_false, forall_eq_or_imp, forall_eq,
    regKey, pgQUE, PAGE_STATUS,
    pgPWR, pgHTH, pgFLD, Pwr.S_PWR_STATE, Hth.WAKE_RECORD, Hth.WAKE_TICK_LO, Hth.WAKE_TICK_HI]
  omega

theorem State.queueLevels_queues : (s.queueLevels j).queues = s.queues :=
  (State.queueLevels_keeps (s.keeps_parts 0x40) (Keep.off_of_and (by decide))).queues_eq

theorem State.queue_congr {s t : State} (h : t.queues = s.queues) (j q : Nat) : t.queue j q = s.queue j q := by
  rw [State.queue, h, State.queue]

@[simp] theorem State.queue_queueLevels (i : Nat) : (s.queueLevels i).queue j q = s.queue j q :=
  State.queue_congr (s.queueLevels_queues i) j q

@[simp] theorem State.queue_setQueue (x : Queue) : (s.setQueue j q x).queue j q = x := Tab.get_set_self _ _ _ _

@[simp] theorem State.queue_setReg (page off : Nat) (v : Word) : (s.setReg page off v).queue j q = s.queue j q :=
  State.queue_congr (State.setReg_queues _ _ _ _) j q

@[simp] theorem State.reg_setQueue (x : Queue) (page off : Nat) : (s.setQueue j q x).reg page off = s.reg page off := rfl

@[simp] theorem State.queue_irq (k : Nat) : (s.irq k).queue j q = s.queue j q :=
  State.queue_congr (s.irq_same k).count.queues j q

@[simp] theorem State.queue_counted : s.counted.queue j q = s.queue j q := State.queue_congr s.counted_same.queues j q

end

/-! ### One write (R483, R484, R488, R489) -/

section
variable {s : State} {j q depth : Nat} {d : List Byte} {last : Bool}

/-- A packet begun while EN is 0 counts in DROPS. -/
theorem State.queuePut_begun_off (hen : s.flag (pgQUE j) (Que.Q_CTRL q) 0 = false) (hin : (s.queue j q).inPacket = false) :
    s.queuePut j q depth d last = (s.queueDrop j q).setQueue j q
      (if last then (s.queue j q).endPacket else { s.queue j q with inPacket := true, lost := true }) := by
  simp only [State.queuePut, hen, hin, Bool.not_false, Bool.and_self, if_true]

/-- What goes on of a packet that is lost is ignored up to its end. -/
theorem State.queuePut_lost (hin : (s.queue j q).inPacket = true) (hlost : (s.queue j q).lost = true) :
    s.queuePut j q depth d last = if last then s.setQueue j q (s.queue j q).endPacket else s := by
  simp only [State.queuePut, hin, hlost, Bool.not_true, Bool.and_false, Bool.false_eq_true, if_false, if_true]

/-- The queue with a packet in progress. -/
def Queue.begun (x : Queue) : Queue := { x with inPacket := true }

/-- A write into an enabled queue whose packet is neither lost nor refused is placed. -/
theorem State.queuePut_placed (hen : s.flag (pgQUE j) (Que.Q_CTRL q) 0 = true) (hlost : (s.queue j q).lost = false)
    (hrefused : (s.queue j q).refused = false) :
    s.queuePut j q depth d last = (let r := (s.queue j q).begun.place depth d last
      if r.2 then
        (if last then ((s.queueError j q 8).queueDrop j q).setQueue j q r.1.dropTentative.endPacket else (s.queueError j q 8).setQueue j q r.1)
      else if last then (s.setQueue j q r.1.commit).inc (pgQUE j) (Que.Q_PACKETS q)
      else s.setQueue j q r.1) := by
  simp only [State.queuePut, hen, hlost, hrefused, Bool.not_true, Bool.false_and, Bool.false_eq_true, if_false, Queue.begun]

theorem Queue.place_gathers {x : Queue} (hfew : x.part.length + d.length < 32) :
    x.place depth d false = ({ x with part := x.part ++ d }, false) := by
  rw [Queue.place, if_pos ⟨by rw [List.length_append]; exact hfew, rfl⟩]

theorem Queue.place_adds {x : Queue} (hfull : 32 ≤ x.part.length + d.length ∨ last = true) (hroom : x.words.length < depth) :
    x.place depth d last = (x.addWord depth (QWord.pack (x.part ++ d) (x.tentative == 0) last), false) := by
  have hnot : ¬((x.part ++ d).length < 32 ∧ last = false) := by
    rw [List.length_append]
    rcases hfull with h | rfl
    · exact fun hx => absurd hx.1 (by omega)
    · exact fun hx => absurd hx.2 (by decide)
  rw [Queue.place, if_neg hnot, if_neg (by omega)]

theorem Queue.place_refused {x : Queue} (hfull : depth ≤ x.words.length) :
    x.place depth d true = ({ x with refused := true }, true) := by
  rw [Queue.place, if_neg fun hx => absurd hx.2 (by decide), if_pos hfull]

/-- The count of DROPS, of which the upper half holds PTR_RESETS. -/
theorem State.fld_queueDrop (s : State) : (s.queueDrop j q).fld (pgQUE j) (Que.Q_DROPS q) (15, 0)
    = (s.fld (pgQUE j) (Que.Q_DROPS q) (15, 0) + 1) % 65536 := by
  rw [State.fld, State.queueDrop, State.setFld_eq, State.reg_setReg_self]
  exact bits_putBits_same _ (by decide) _

end

theorem clearOf_irq_que {j off : Nat} (hj : j < 16) (hoff : off < 0x1000) : clearOf irqSpans (regKey (pgQUE j) off) := by
  simp only [clearOf, spanClear, irqSpans, pageSpan, List.mem_cons, List.not_mem_nil, or_false, forall_eq_or_imp, forall_eq, regKey, pgQUE,
    PAGE_STATUS, fldSpan, regSpan, pgPWR, pgHTH, pgFLD, Pwr.S_PWR_STATE, Hth.WAKE_RECORD, Hth.WAKE_TICK_LO, Hth.WAKE_TICK_HI]
  omega

theorem clearOf_count_que {j off : Nat} (hj : j < 16) (hoff : off < 0x1000) : clearOf countSpans (regKey (pgQUE j) off) := by
  simp only [clearOf, spanClear, countSpans, irqSpans, pageSpan, List.mem_cons, List.not_mem_nil, or_false, forall_eq_or_imp, forall_eq, regKey, pgQUE,
    PAGE_STATUS, fldSpan, regSpan, pgPMC, pgPWR, pgHTH, pgFLD, Pwr.S_PWR_STATE, Hth.WAKE_RECORD, Hth.WAKE_TICK_LO, Hth.WAKE_TICK_HI]
  omega

/-- A write into a queue whose pointer copies agree. -/
theorem State.queueWrite_sound {s : State} {j q : Nat} {i : QueueSpec} (hi : queueSpec j q = some i) (hx : (s.queue j q).sound = true)
    (d : List Byte) (last : Bool) : s.queueWrite j q d last = (s.queuePut j q i.depth d last).queueLevels j := by
  simp only [State.queueWrite, hi, hx, if_true]

section
variable {s : State} {j : Fin 16} {q : Fin 4} {i : QueueSpec} {d : List Byte} {last : Bool}

/-- While EN is 0, and the packet in progress is lost, a write leaves the words; one that begins a packet counts one drop (R489). -/
theorem State.queueWrite_off (hi : queueSpec j q = some i) (hx : (s.queue j q).sound = true)
    (hen : s.flag (pgQUE j) (Que.Q_CTRL q) 0 = false) (hstate : (s.queue j q).inPacket = false ∨ (s.queue j q).lost = true) :
    ((s.queueWrite j q d last).queue j q).words = (s.queue j q).words ∧
    ((s.queueWrite j q d last).queue j q).committed = (s.queue j q).committed ∧
    ((s.queueWrite j q d last).queue j q).inPacket = !last ∧
    (s.queueWrite j q d last).flag (pgQUE j) (Que.Q_STATUS q) 8 = s.flag (pgQUE j) (Que.Q_STATUS q) 8 ∧
    (s.queueWrite j q d last).fld (pgQUE j) (Que.Q_DROPS q) (15, 0)
      = (if (s.queue j q).inPacket then s.fld (pgQUE j) (Que.Q_DROPS q) (15, 0)
        else (s.fld (pgQUE j) (Que.Q_DROPS q) (15, 0) + 1) % 65536) := by
  have hlevels := (s.queuePut j q i.depth d last).queueLevels_within j
  have hoff {off : Nat} (hl : 0x100 ≤ off) (hh : off < 0x1000) := clearOf_levels j.isLt hl hh
  rw [State.queueWrite_sound hi hx, State.queue_queueLevels,
    hlevels.flag (hoff (by simp only [Que.Q_STATUS]; omega) (by simp only [Que.Q_STATUS]; omega)),
    hlevels.fld (hoff (by simp only [Que.Q_DROPS]; omega) (by simp only [Que.Q_DROPS]; omega))]
  cases hin : (s.queue j q).inPacket with
  | false =>
    rw [State.queuePut_begun_off hen hin, State.queue_setQueue]
    refine ⟨by cases last <;> rfl, by cases last <;> rfl, by cases last <;> rfl, ?_, State.fld_queueDrop s⟩
    rw [State.flag, State.reg_setQueue, State.queueDrop, State.setFld_eq, State.reg_setReg_ne, State.flag]
    simp only [ne_eq, regKey_same_page, Que.Q_STATUS, Que.Q_DROPS]
    omega
  | true =>
    have hlost : (s.queue j q).lost = true := hstate.resolve_left (by simp [hin])
    rw [State.queuePut_lost hin hlost]
    cases last with
    | true => rw [if_pos rfl, State.queue_setQueue]; exact ⟨rfl, rfl, rfl, rfl, rfl⟩
    | false => exact ⟨rfl, rfl, hin, rfl, rfl⟩

/-! ### The commands of the writer, the reader and the settings -/

theorem exec_queueWrite_hw (hi : queueSpec j q = some i) (hw : i.writer = 0) :
    exec (.queueWrite none j q d last) s = .next (s.queueWrite j q (i.written d last) last) := by
  have hexec : exec (.queueWrite none j q d last) s = .next (s.queueWriteBy none j q d last) := rfl
  rw [hexec]
  simp only [State.queueWriteBy, hi, hw, if_true]

variable {r : Requester}

theorem exec_queueWrite_by (h : s.reaches (pgQUE j) = true) (hi : queueSpec j q = some i) :
    exec (.queueWrite (some r) j q d last) s = .next (if mayUse i true r then s.counted.queueWrite j q (slice d 0 4) false
      else s.counted.queueDenied j q) := by
  have hexec : exec (.queueWrite (some r) j q d last) s = .next (s.gate (pgQUE j) (fun a => a.queueWriteBy (some r) j q d last)) := rfl
  rw [hexec, State.gate_eq h]
  simp only [State.queueWriteBy, hi]

theorem exec_qCommit (h : s.reaches (pgQUE j) = true) (hi : queueSpec j q = some i) (n : Fin 8) :
    exec (.qCommit r j q n) s = .next (if !mayUse i true r then s.counted.queueDenied j q
      else if 5 ≤ n.val then s.counted.badValue (pgQUE j) else s.counted.queueCommit j q (if n.val = 0 then 4 else n.val)) := by
  have hexec : exec (.qCommit r j q n) s = .next (s.gate (pgQUE j) (fun a => a.queueCommitBy r j q n)) := rfl
  rw [hexec, State.gate_eq h, State.queueCommitBy, hi]

theorem exec_qRewind (h : s.reaches (pgQUE j) = true) (hi : queueSpec j q = some i) :
    exec (.qRewind (some r) j q) s = .next (if mayUse i true r then s.counted.queueRewind j q else s.counted.queueDenied j q) := by
  have hexec : exec (.qRewind (some r) j q) s = .next (s.gate (pgQUE j) (fun a => a.queueRewindBy (some r) j q)) := rfl
  rw [hexec, State.gate_eq h]
  simp only [State.queueRewindBy, hi]

theorem exec_qPop (h : s.reaches (pgQUE j) = true) (hi : queueSpec j q = some i) :
    exec (.qPop r j q) s = .next (if mayUse i false r then s.counted.queuePop j q else s.counted.queueDenied j q) := by
  have hexec : exec (.qPop r j q) s = .next (s.gate (pgQUE j) (fun a => a.queuePopBy r j q)) := rfl
  rw [hexec, State.gate_eq h, State.queuePopBy, hi]

theorem exec_qCtrlWrite (h : s.reaches (pgQUE j) = true) (v : Word) :
    exec (.qCtrlWrite r j q v) s = .next (s.counted.queueCtrl j q v) := by
  have hexec : exec (.qCtrlWrite r j q v) s = .next (s.gate (pgQUE j) (fun a => a.queueCtrl j q v)) := rfl
  rw [hexec, State.gate_eq h]

/-- A setting in range: the bits of Q_CTRL that a write sets, and the queue kept or emptied by EN (R489, R496). -/
theorem State.queueCtrl_sets (hi : queueSpec j q = some i) {v : Word} (hpos : bits v Que.THRESH ≠ 0) (hmax : bits v Que.THRESH ≤ i.depth) :
    (s.queueCtrl j q v).reg (pgQUE j) (Que.Q_CTRL q) = (s.reg (pgQUE j) (Que.Q_CTRL q) &&& 0xFC000000) ||| (v &&& 0x00FFFC03) ∧
    (s.queueCtrl j q v).queue j q = (if bit v 0 then s.queue j q
      else { Queue.empty with inPacket := (s.queue j q).inPacket, lost := (s.queue j q).inPacket }) := by
  have hoff : clearOf (levelSpans j) (regKey (pgQUE j) (Que.Q_CTRL q)) :=
    clearOf_levels j.isLt (by simp only [Que.Q_CTRL]; omega) (by simp only [Que.Q_CTRL]; omega)
  simp only [State.queueCtrl, hi, hpos, Nat.not_lt.2 hmax, or_self, if_false]
  split
  · rw [(State.queueLevels_within _ _).reg hoff, State.reg_setReg_self, State.queue_queueLevels, State.queue_setReg]
    exact ⟨rfl, rfl⟩
  · rw [State.queueEmpty, (State.queueLevels_within _ _).reg hoff, State.reg_setQueue, State.reg_setReg_self,
      State.queue_queueLevels, State.queue_setQueue, State.queue_setReg]
    exact ⟨rfl, rfl⟩

theorem State.queueCtrl_bad (hi : queueSpec j q = some i) {v : Word} (hbad : bits v Que.THRESH = 0 ∨ i.depth < bits v Que.THRESH) :
    s.queueCtrl j q v = s.badValue (pgQUE j) := by
  simp only [State.queueCtrl, hi, hbad, if_true]

/-! ### Ends of a packet (R484, R486, R487) -/

theorem mapLast_length {α : Type} (f : α → α) (l : List α) : (mapLast f l).length = l.length := by
  induction l with
  | nil => rfl
  | cons x l ih =>
    cases l with
    | nil => rfl
    | cons y t => exact congrArg (· + 1) ih

/-- The end of a packet for which there is room: its words, of which the last may still be added. -/
theorem Queue.finish_fits {x : Queue} {depth : Nat} (hroom : x.part = [] ∨ x.words.length < depth) (n : Nat) :
    (x.finish depth n).2 = false ∧
      (x.finish depth n).1.words.length = if x.part = [] then x.words.length else x.words.length + 1 := by
  unfold Queue.finish
  split
  · exact ⟨rfl, mapLast_length _ _⟩
  · next hpart =>
    have hadds := Queue.place_adds (x := { x with part := x.part.take (x.part.length - 4 + n) }) (d := []) (last := true) (.inr rfl)
      (hroom.resolve_left hpart)
    rw [hadds]
    exact ⟨rfl, List.length_append⟩

/-- A commit makes the packet in progress visible and counts it (R486). -/
theorem State.queueCommit_shows (hi : queueSpec j q = some i) (hx : (s.queue j q).sound = true) (hin : (s.queue j q).inPacket = true)
    (hlost : (s.queue j q).lost = false) (hrefused : (s.queue j q).refused = false)
    (hroom : (s.queue j q).part = [] ∨ (s.queue j q).words.length < i.depth) (n : Nat) :
    ((s.queueCommit j q n).queue j q).inPacket = false ∧
    ((s.queueCommit j q n).queue j q).committed
      = (if (s.queue j q).part = [] then (s.queue j q).words.length else (s.queue j q).words.length + 1) ∧
    (s.queueCommit j q n).reg (pgQUE j) (Que.Q_PACKETS q) = s.reg (pgQUE j) (Que.Q_PACKETS q) + 1 := by
  obtain ⟨hfits, hwords⟩ := Queue.finish_fits hroom n
  have hcommit : s.queueCommit j q n = ((s.setQueue j q ((s.queue j q).finish i.depth n).1.commit).inc (pgQUE j)
      (Que.Q_PACKETS q)).queueLevels j := by
    simp only [State.queueCommit, hi, hx, hin, hlost, hrefused, hfits, Bool.not_true, Bool.false_eq_true, if_false]
  rw [hcommit, State.queue_queueLevels, State.inc_eq, State.queue_setReg, State.queue_setQueue,
    (State.queueLevels_within _ _).reg (clearOf_levels j.isLt (by simp only [Que.Q_PACKETS]; omega) (by simp only [Que.Q_PACKETS]; omega)),
    State.reg_setReg_self, State.reg_setQueue]
  exact ⟨rfl, hwords, rfl⟩

theorem State.queueRewind_drops (hx : (s.queue j q).sound = true) (hin : (s.queue j q).inPacket = true) :
    s.queueRewind j q = s.setQueue j q (s.queue j q).dropTentative.endPacket := by
  simp only [State.queueRewind, hx, hin, Bool.not_true, Bool.false_eq_true, if_false]

theorem State.queuePop_removes (hi : queueSpec j q = some i) (hx : (s.queue j q).sound = true) (hword : (s.queue j q).committed ≠ 0) :
    s.queuePop j q = (s.setQueue j q ((s.queue j q).pop i.depth)).queueLevels j := by
  simp only [State.queuePop, hi, hx, hword, Bool.not_true, Bool.false_eq_true, if_false]

/-! ### Writes into an enabled queue (R483, R484, R488) -/

/-- A write that does not complete a word. -/
theorem State.queueWrite_gathers (hi : queueSpec j q = some i) (hx : (s.queue j q).sound = true)
    (hen : s.flag (pgQUE j) (Que.Q_CTRL q) 0 = true) (hlost : (s.queue j q).lost = false) (hrefused : (s.queue j q).refused = false)
    (hfew : (s.queue j q).part.length + d.length < 32) :
    (s.queueWrite j q d false).queue j q = { s.queue j q with inPacket := true, part := (s.queue j q).part ++ d } := by
  rw [State.queueWrite_sound hi hx, State.queue_queueLevels, State.queuePut_placed hen hlost hrefused, Queue.place_gathers (x := (s.queue j q).begun) hfew]
  exact State.queue_setQueue _ _ _ _

/-- A write that completes a word, or ends its packet, with a place left: the word is added, and at the end the packet committed. -/
theorem State.queueWrite_adds (hi : queueSpec j q = some i) (hx : (s.queue j q).sound = true)
    (hen : s.flag (pgQUE j) (Que.Q_CTRL q) 0 = true) (hlost : (s.queue j q).lost = false) (hrefused : (s.queue j q).refused = false)
    (hfull : 32 ≤ (s.queue j q).part.length + d.length ∨ last = true) (hroom : (s.queue j q).words.length < i.depth) :
    ((s.queueWrite j q d last).queue j q).part = [] ∧
    ((s.queueWrite j q d last).queue j q).words
      = (s.queue j q).words ++ [QWord.pack ((s.queue j q).part ++ d) ((s.queue j q).tentative == 0) last] ∧
    ((s.queueWrite j q d last).queue j q).committed
      = if last then (s.queue j q).words.length + 1 else (s.queue j q).committed := by
  rw [State.queueWrite_sound hi hx, State.queue_queueLevels, State.queuePut_placed hen hlost hrefused, 
    Queue.place_adds (x := (s.queue j q).begun) hfull hroom]
  cases last with
  | true =>
    simp only [Bool.false_eq_true, if_false, if_true, State.inc_eq, State.queue_setReg, State.queue_setQueue]
    exact ⟨rfl, rfl, List.length_append⟩
  | false =>
    simp only [Bool.false_eq_true, if_false, State.queue_setQueue]
    exact ⟨rfl, rfl, rfl⟩

/-- The last write of a packet without a place for its word: OVERRUN, a drop, and nothing of the packet left. -/
theorem State.queueWrite_overruns (hi : queueSpec j q = some i) (hx : (s.queue j q).sound = true)
    (hen : s.flag (pgQUE j) (Que.Q_CTRL q) 0 = true) (hlost : (s.queue j q).lost = false) (hrefused : (s.queue j q).refused = false)
    (hfull : i.depth ≤ (s.queue j q).words.length) :
    (s.queueWrite j q d true).flag (pgQUE j) (Que.Q_STATUS q) 8 = true ∧
    ((s.queueWrite j q d true).queue j q).words = (s.queue j q).words.take (s.queue j q).committed ∧
    ((s.queueWrite j q d true).queue j q).inPacket = false ∧
    (s.queueWrite j q d true).fld (pgQUE j) (Que.Q_DROPS q) (15, 0) = (s.fld (pgQUE j) (Que.Q_DROPS q) (15, 0) + 1) % 65536 := by
  have hraised := State.irq_within (s := s.setFlag (pgQUE j) (Que.Q_STATUS q) 8 true) (308 + 2 * j.val)
  have hstatus := clearOf_irq_que (off := Que.Q_STATUS q) j.isLt (by simp only [Que.Q_STATUS]; omega)
  have hdrops := clearOf_irq_que (off := Que.Q_DROPS q) j.isLt (by simp only [Que.Q_DROPS]; omega)
  have hapart : regKey (pgQUE j) (Que.Q_STATUS q) ≠ regKey (pgQUE j) (Que.Q_DROPS q) := by
    simp only [ne_eq, regKey_same_page, Que.Q_STATUS, Que.Q_DROPS]
    omega
  have hlevels {off : Nat} (hl : 0x100 ≤ off) (hh : off < 0x1000) := clearOf_levels j.isLt hl hh
  rw [State.queueWrite_sound hi hx, State.queue_queueLevels,
    (State.queueLevels_within _ _).flag (hlevels (by simp only [Que.Q_STATUS]; omega) (by simp only [Que.Q_STATUS]; omega)),
    (State.queueLevels_within _ _).fld (hlevels (by simp only [Que.Q_DROPS]; omega) (by simp only [Que.Q_DROPS]; omega)),
    State.queuePut_placed hen hlost hrefused, Queue.place_refused (x := (s.queue j q).begun) hfull]
  simp only [if_true, State.queue_setQueue]
  refine ⟨?_, rfl, rfl, ?_⟩
  · rw [State.flag, State.reg_setQueue, State.queueDrop, State.setFld_eq, State.reg_setReg_ne _ _ hapart, State.queueError,
      hraised.reg hstatus]
    exact s.flag_setFlag_self _ _ (by decide)
  · have hdropped := State.fld_queueDrop (j := j) (q := q) (s.queueError j q 8)
    rw [State.fld] at hdropped ⊢
    rw [State.reg_setQueue, hdropped, State.queueError, hraised.fld hdrops, State.fld, State.setFlag_eq, State.reg_setReg_ne _ _ hapart.symm, State.fld]

end

end Sys2Proof.Machine

open Sys2Proof Sys2Proof.Machine

/-- Settles O56: a write while EN is 0 by what it leaves of the queue and of DROPS, and a setting of EN 0. -/
theorem disabledQueuesTakeNothing : Obligations.DisabledQueuesTakeNothing := by
  refine ⟨fun s j q d last i => ?_, fun s r j q i v hreaches hi hpos hmax hen => ?_⟩
  · intro x drops hi hx hen hstate
    refine ⟨fun hw => ⟨_, exec_queueWrite_hw hi hw, State.queueWrite_off hi hx hen hstate⟩, fun r hmay hreaches => ?_⟩
    have hrun := exec_queueWrite_by (d := d) (last := last) (r := r) hreaches hi
    rw [if_pos hmay] at hrun
    have hcount := s.counted_within
    have hreg {off : Nat} (ho : off < 0x1000) := clearOf_count_que j.isLt ho
    have hctrl := hreg (off := Que.Q_CTRL q) (by simp only [Que.Q_CTRL]; omega)
    have hstatus := hreg (off := Que.Q_STATUS q) (by simp only [Que.Q_STATUS]; omega)
    have hdrops := hreg (off := Que.Q_DROPS q) (by simp only [Que.Q_DROPS]; omega)
    have hleaves := State.queueWrite_off (s := s.counted) (d := slice d 0 4) (last := false) hi (by rwa [State.queue_counted])
      (by rwa [hcount.flag hctrl]) (by rwa [State.queue_counted])
    rw [State.queue_counted, hcount.flag hstatus, hcount.fld hdrops] at hleaves
    exact ⟨_, hrun, hleaves⟩
  · obtain ⟨hreg, hqueue⟩ := State.queueCtrl_sets (s := s.counted) hi hpos hmax
    have hbit : bit ((s.counted.reg (pgQUE j) (Que.Q_CTRL q) &&& 0xFC000000) ||| (v &&& 0x00FFFC03)) 0 = false := by
      rw [bit_eq] at hen ⊢
      simpa using hen
    rw [hen] at hqueue
    refine ⟨_, exec_qCtrlWrite hreaches v, ?_⟩
    rw [hqueue, State.flag, hreg]
    exact ⟨rfl, rfl, rfl, hbit⟩

/-- Settles O36: each access by what its operation leaves of the queue, on the counted state where a requester made it. -/
theorem queuesAct : Obligations.QueuesAct := by
  refine ⟨fun s j q d last i => ?_, fun s r j q i => ?_⟩
  · intro x e hi hw hx hen hlost hrefused
    have hrun := exec_queueWrite_hw (s := s) (d := d) (last := last) hi hw
    refine ⟨fun hfew hlast => ?_, fun hfull hroom => ?_, fun hlast hfull => ?_⟩
    · subst hlast
      refine ⟨_, hrun, ?_⟩
      rw [State.queueWrite_gathers hi hx hen hlost hrefused hfew]
      exact ⟨rfl, rfl, rfl⟩
    · exact ⟨_, hrun, State.queueWrite_adds hi hx hen hlost hrefused hfull hroom⟩
    · subst hlast
      exact ⟨_, hrun, State.queueWrite_overruns hi hx hen hlost hrefused hfull⟩
  · intro a x hreaches hi
    have hqueue : a.queue j q = x := s.queue_counted _ _
    have hcount := s.counted_within
    have hctrl := clearOf_count_que (off := Que.Q_CTRL q) j.isLt (by simp only [Que.Q_CTRL]; omega)
    have hpackets := clearOf_count_que (off := Que.Q_PACKETS q) j.isLt (by simp only [Que.Q_PACKETS]; omega)
    refine ⟨fun hmay => ⟨fun d last => ?_, fun n hn hx hin hlost hrefused hroom => ?_, fun hx hin => ?_⟩,
      fun hmay => ⟨fun d last => ?_, fun n => ?_, ?_⟩, fun hmay hx hword => ?_, fun hmay => ?_, fun v hpos hmax => ?_, fun v hbad => ?_⟩
    · rw [exec_queueWrite_by hreaches hi, if_pos hmay]
    · refine ⟨_, exec_qCommit hreaches hi n, ?_⟩
      rw [if_neg (by simp [hmay]), if_neg (by omega)]
      have hshows := State.queueCommit_shows (s := a) hi (by rwa [hqueue]) (by rwa [hqueue]) (by rwa [hqueue]) (by rwa [hqueue])
        (by rwa [hqueue]) (if n.val = 0 then 4 else n.val)
      rwa [hqueue, hcount.reg hpackets] at hshows
    · refine ⟨_, exec_qRewind hreaches hi, ?_⟩
      rw [if_pos hmay, State.queueRewind_drops (s := a) (by rwa [hqueue]) (by rwa [hqueue]), State.queue_setQueue, hqueue]
      exact ⟨rfl, rfl⟩
    · rw [exec_queueWrite_by hreaches hi, hmay]
      rfl
    · rw [exec_qCommit hreaches hi, hmay]
      rfl
    · rw [exec_qRewind hreaches hi, hmay]
      rfl
    · refine ⟨_, exec_qPop hreaches hi, ?_⟩
      rw [if_pos hmay, State.queuePop_removes (s := a) hi (by rwa [hqueue]) (by rwa [hqueue]), State.queue_queueLevels,
        State.queue_setQueue, hqueue]
      exact ⟨rfl, rfl⟩
    · rw [exec_qPop hreaches hi, hmay]
      rfl
    · obtain ⟨hreg, hset⟩ := State.queueCtrl_sets (s := a) hi hpos hmax
      rw [hcount.reg hctrl] at hreg
      rw [hqueue] at hset
      refine ⟨_, exec_qCtrlWrite hreaches v, hreg, fun hen => hset.trans (if_pos hen), fun hen => ?_⟩
      rw [hset, hen]
      exact ⟨rfl, rfl⟩
    · rw [exec_qCtrlWrite hreaches, State.queueCtrl_bad hi hbad]

end

section
/-!
Counters: what counting leaves of every counter, and what the CLR alias of an OVF register clears (R596), and O59.
-/
set_option Elab.async false
namespace Sys2Proof.Machine

section
variable {s : State} {n k : Nat}

/-! ### Counting (R594, R596) -/

theorem State.count_small (hused : counterUsed n = true) (hsmall : s.cnt n + k < 2 ^ 48) :
    s.count n k = { s with pmc := { s.pmc with cnt := Tab.set (fun _ => 0) s.pmc.cnt n ((s.cnt n + k) % 2 ^ 48) } } := by
  simp only [State.count, hused, Bool.not_true, Bool.false_eq_true, if_false, if_pos hsmall]

theorem State.count_wraps (hused : counterUsed n = true) (hwrap : 2 ^ 48 ≤ s.cnt n + k) :
    s.count n k
      = State.counterWrapped { s with pmc := { s.pmc with cnt := Tab.set (fun _ => 0) s.pmc.cnt n ((s.cnt n + k) % 2 ^ 48) } } n := by
  simp only [State.count, hused, Bool.not_true, Bool.false_eq_true, if_false, if_neg (Nat.not_lt.2 hwrap)]

/-- The WRAPS count of a counter (R596). -/
def State.wraps (s : State) (m : Nat) : Nat := Tab.get (fun _ => 0) s.pmc.wraps m

/-- The state of a wrap before its interrupt: WRAPS moved on and OVF set. -/
def State.overflowed (s : State) (n : Nat) : State :=
  State.setFlag { s with pmc := { s.pmc with wraps := Tab.set (fun _ => 0) s.pmc.wraps n (min 255 (s.wraps n + 1)) } }
    pgPMC (Pmc.OVF (n / 32)) (n % 32) true

theorem State.counterWrapped_eq (s : State) (n : Nat) :
    s.counterWrapped n = if s.flag pgPMC Pmc.PMC_CTRL 2 then (s.overflowed n).irq 357 else s.overflowed n := rfl

theorem State.counterWrapped_sameIrq (s : State) (n : Nat) : (s.overflowed n).SameButIrq (s.counterWrapped n) := by
  rw [State.counterWrapped_eq]
  split
  · exact State.irq_same _ _
  · exact .refl _

theorem State.counterWrapped_pmc (s : State) (n : Nat) :
    (s.counterWrapped n).pmc = { s.pmc with wraps := Tab.set (fun _ => 0) s.pmc.wraps n (min 255 (s.wraps n + 1)) } :=
  (s.counterWrapped_sameIrq n).pmc.trans rfl

theorem irqKey_ovf (hn : n < 1536) : irqKey (regKey pgPMC (Pmc.OVF (n / 32))) = false :=
  (show ∀ m < 48, irqKey (regKey pgPMC (Pmc.OVF m)) = false by decide +kernel) _ (by omega)

theorem State.counterWrapped_ovf (s : State) (hn : n < 1536) :
    (s.counterWrapped n).flag pgPMC (Pmc.OVF (n / 32)) (n % 32) = true := by
  rw [State.flag, (s.counterWrapped_sameIrq n).reg (irqKey_ovf hn)]
  exact State.flag_setFlag_self _ _ _ (Nat.mod_lt _ (by decide))

theorem State.counterWrapped_irq (haclk : s.aclkRuns = true) (hirq : s.flag pgPMC Pmc.PMC_CTRL 2 = true) :
    (s.counterWrapped n).icuBit (Icu.PENDING 0) 357 = true := by
  rw [State.counterWrapped_eq, if_pos hirq]
  exact State.irq_pending (by decide) haclk

/-! ### The CLR alias of OVF (R51, R596) -/

/-- Every word of OVF is an SC register whose 32 bits its aliases move. -/
theorem ovf_alias (hn : n < 1536) :
    aliasBits ⟨.pmc, 0, 1⟩ (pgPMC + 1) (Pmc.OVF (n / 32) - 0x1000) = BitVec.allOnes 32 ∧
      mirroredReg (pgPMC + 1) (plainOff (0xC00 + (Pmc.OVF (n / 32) - 0x1000))) = false :=
  (show ∀ m < 48, aliasBits ⟨.pmc, 0, 1⟩ (pgPMC + 1) (Pmc.OVF m - 0x1000) = BitVec.allOnes 32 ∧
    mirroredReg (pgPMC + 1) (plainOff (0xC00 + (Pmc.OVF m - 0x1000))) = false by decide +kernel) _ (by omega)

/-- A table without its entries that `p` names reads its default at a key of `p`. -/
theorem Tab.get_filter_of_not {α : Type} {d : Nat → α} {p : Nat × α → Bool} {m : Nat} (h : ∀ v, p (m, v) = false) :
    ∀ t : Tab α, Tab.get d (t.filter p) m = d m
  | [] => rfl
  | (i, v) :: t => by
    by_cases hi : i = m
    · rw [List.filter_cons_of_neg (by rw [hi, h]; decide), Tab.get_filter_of_not h t]
    · rw [List.filter_cons]
      split
      · rw [Tab.get, if_neg hi, Tab.get_filter_of_not h t]
      · exact Tab.get_filter_of_not h t

/-- Clearing bits of an OVF word: the OVF bit of a counter that it names is 0, and so is WRAPS. -/
theorem State.clearBits_ovf (s : State) {v : Word} (hn : n < 1536) (hv : bit v (n % 32) = true) :
    let t := s.clearBits ⟨.pmc, 0, 1⟩ (pgPMC + 1) (Pmc.OVF (n / 32) - 0x1000) v
    t.flag pgPMC (Pmc.OVF (n / 32)) (n % 32) = false ∧ t.wraps n = 0 := by
  intro t
  have hkey : regKey (pgPMC + 1) (Pmc.OVF (n / 32) - 0x1000) = regKey pgPMC (Pmc.OVF (n / 32)) := by
    simp only [regKey, Pmc.OVF]
    omega
  have hword : 0x1000 + (Pmc.OVF (n / 32) - 0x1000) = Pmc.OVF (n / 32) := by
    simp only [Pmc.OVF]
    omega
  have hrange : 0x1100 ≤ Pmc.OVF (n / 32) ∧ Pmc.OVF (n / 32) < 0x11C0 := by
    simp only [Pmc.OVF]
    omega
  have hindex : (Pmc.OVF (n / 32) - 0x1100) / 4 = n / 32 := by
    simp only [Pmc.OVF]
    omega
  have ht : t = (s.setReg (pgPMC + 1) (Pmc.OVF (n / 32) - 0x1000)
      (s.reg (pgPMC + 1) (Pmc.OVF (n / 32) - 0x1000) &&& ~~~ v)).clearHook ⟨.pmc, 0, 1⟩ (Pmc.OVF (n / 32)) v := by
    have hmask : v &&& aliasBits ⟨.pmc, 0, 1⟩ (pgPMC + 1) (Pmc.OVF (n / 32) - 0x1000) = v := by
      rw [(ovf_alias hn).1, BitVec.and_allOnes]
    simp [t, State.clearBits, hmask, hword]
  rw [ht, State.clearHook]
  simp only [if_pos hrange, hindex]
  refine ⟨?_, Tab.get_filter_of_not (fun w => by simp [hv]) _⟩
  have hreg : ∀ (a : State) (w : Word), (a.setReg (pgPMC + 1) (Pmc.OVF (n / 32) - 0x1000) w).at
      (regKey pgPMC (Pmc.OVF (n / 32))) = w := fun a w => by
    rw [← hkey]
    exact a.reg_setReg_self _ _ w
  refine (congrArg (bit · (n % 32)) (hreg s _)).trans ?_
  rw [bit_eq] at hv ⊢
  simp [hv]

/-- A same-cycle set of no bits and no captures leaves every register and every counter as it is. -/
theorem State.sameCycle_none (s : State) (off : Nat) (hfault : off ≠ PAGE_FAULT) (hstatus : off ≠ PAGE_STATUS) :
    (s.sameCycle (pgPMC + 1) off 0 []).flag = s.flag ∧ (s.sameCycle (pgPMC + 1) off 0 []).wraps = s.wraps := by
  have hkept : (s.setReg (pgPMC + 1) off (s.reg (pgPMC + 1) off)).flag = s.flag := by
    funext p o m
    refine congrArg (bit · m) ?_
    by_cases h : regKey p o = regKey (pgPMC + 1) off
    · exact ((congrArg (State.at _) h).trans (s.reg_setReg_self _ _ _)).trans (congrArg s.at h).symm
    · exact State.at_setReg_ne _ _ h
  unfold State.sameCycle
  simp only [pageInfo_pgPMC_1]
  split
  · simp [State.captureLoad, State.setBits, hfault, hstatus, hkept, -Nat.reduceAdd]
    rfl
  · exact ⟨rfl, rfl⟩

end

end Sys2Proof.Machine

open Sys2Proof Sys2Proof.Machine

/-- Settles O59: counting by its two cases, and the CLR alias on the state that the presence input and the count left. -/
theorem countersWrap : Obligations.CountersWrap := by
  refine ⟨fun s n k hused hk => ?_, fun s r n v low => ?_⟩
  · intro t wraps
    rcases Nat.lt_or_ge (s.cnt n + k) (2 ^ 48) with hsmall | hwrap
    · have ht : t = _ := State.count_small hused hsmall
      refine ⟨?_, fun m hm => ?_, fun h => absurd hsmall (Nat.not_lt.2 h), fun _ => ?_⟩
      · rw [ht]
        exact Tab.get_of_set s.pmc.cnt rfl
      · rw [ht]
        exact ⟨Tab.get_set_ne _ s.pmc.cnt _ hm, rfl⟩
      · rw [ht]
        exact ⟨rfl, rfl⟩
    · have ht : t = _ := State.count_wraps hused hwrap
      have hn : n < 1536 := Nat.lt_trans (counterUsed_lt hused) (by decide)
      have hpmc : t.pmc = _ := (congrArg State.pmc ht).trans (State.counterWrapped_pmc _ n)
      have hwraps (m : Nat) : wraps t m = Tab.get (fun _ => 0)
          (Tab.set (fun _ => 0) s.pmc.wraps n (min 255 (wraps s n + 1))) m := by
        simp only [wraps, hpmc]
        rfl
      have hcnt (m : Nat) : t.cnt m = Tab.get (fun _ => 0) (Tab.set (fun _ => 0) s.pmc.cnt n ((s.cnt n + k) % 2 ^ 48)) m := by
        rw [State.cnt, hpmc]
      refine ⟨?_, fun m hm => ⟨?_, ?_⟩, fun _ => ⟨?_, ?_, fun haclk hirq => ?_⟩,
        fun h => absurd h (Nat.not_lt.2 hwrap)⟩
      · rw [hcnt, Tab.get_set_self]
      · rw [hcnt, Tab.get_set_ne _ _ _ hm, State.cnt]
      · rw [hwraps, Tab.get_set_ne _ _ _ hm]
      · rw [ht]
        exact State.counterWrapped_ovf _ hn
      · rw [hwraps, Tab.get_set_self]
      · rw [ht]
        exact State.counterWrapped_irq haclk hirq
  · intro off haccepts hv
    have hmirror := (ovf_alias n.isLt).2
    have hrun : exec (.clrAliasWrite r (pgPMC + 1) off v 0 [] low) s
        = .next (((s.presence low).counted.clearBits ⟨.pmc, 0, 1⟩ (pgPMC + 1) off v).sameCycle (pgPMC + 1) off 0 []) := by
      have hwrite : (s.presence low).busWrite r (pgPMC + 1) (0xC00 + off) v
          = (s.presence low).counted.clearBits ⟨.pmc, 0, 1⟩ (pgPMC + 1) off v := by
        rw [State.busWrite_eq haccepts pageInfo_pgPMC_1, State.told, State.mirrorWrite_of_not_mirrored _ hmirror, State.regWrite,
          if_pos (Nat.le_add_right _ _), Nat.add_sub_cancel_left]
      exact congrArg (fun x : State => Host.Outcome.next (x.sameCycle (pgPMC + 1) off 0 [])) hwrite
    obtain ⟨hflag, hkept⟩ := State.sameCycle_none ((s.presence low).counted.clearBits ⟨.pmc, 0, 1⟩ (pgPMC + 1) off v) off
      (by simp only [off, Pmc.OVF, PAGE_FAULT]; omega) (by simp only [off, Pmc.OVF, PAGE_STATUS]; omega)
    obtain ⟨hclear, hwraps⟩ := (s.presence low).counted.clearBits_ovf n.isLt hv
    refine ⟨_, hrun, ?_, ?_⟩
    · rw [hflag]
      exact hclear
    · refine (congrFun hkept n.val).trans ?_
      exact hwraps

end

section
/-!
The merge, its sources and the stream engine (R373 to R383): what an apply, the loss of a source, a launch, a terminated stream and
discovery do, and O31.
-/
set_option Elab.async false
namespace Sys2Proof.Machine

/-! ### What the way to an instant leaves -/

section
variable {s a : State}

/-- Until an instant comes, all parts but the registers, interrupts, the timeline and the lines of DMX ports are as before. -/
theorem State.reach_parts {x : Nat} (h : s.reach x = some a) : State.Keeps ⟨s.pending, s, 0x7FFFDFF8F8, false⟩ a :=
  State.reach_keeps (s.keeps_parts 0x7FFFDFF8F8) (Keep.off_of_and (by decide)) a h

theorem State.atTick_reached {key step off : Nat} (h : s.reachTick key step off = some a) (f : State → State) :
    s.atTick key step off f = f a := by
  obtain ⟨b, hb, rfl⟩ := Option.map_eq_some_iff.1 h
  exact State.atTime_reached hb _

end

/-! ### Applies (R374, R375) -/

section
variable {s : State} {e : Nat}

theorem State.mergeBuild_busy (hon : s.mergeOn = true) (hbusy : s.epochBusy e = true) :
    s.mergeBuild e = s.setSts pgFIX Fix.S_MERGE_HELD 1 := by
  simp only [State.mergeBuild, hon, hbusy, Bool.not_true, Bool.false_eq_true, if_false, if_true]

/-- What an apply leaves last: the epoch, no MERGE_HELD, and LIVE_COUNT. -/
def State.mergeDone (s : State) (e live : Nat) : State :=
  ((s.setNat pgFIX Fix.MERGE_EPOCH (e % 2 ^ 32)).setSts pgFIX Fix.S_MERGE_HELD 0).setNat pgFIX Fix.LIVE_COUNT live

theorem State.mergeBuild_free (hon : s.mergeOn = true) (hfree : s.epochBusy e = false) :
    ∃ (a : State) (live : Nat), s.mergeBuild e = a.mergeDone e live := by
  simp only [State.mergeBuild, hon, hfree, Bool.not_true, Bool.false_eq_true, if_false]
  exact ⟨_, _, rfl⟩

theorem State.mergeEpoch_mergeDone (live : Nat) : (s.mergeDone e live).mergeEpoch = e % 2 ^ 32 := by
  rw [State.mergeEpoch, State.nat, State.mergeDone, State.setNat_eq, State.reg_setReg_ne _ _ (by decide), State.setSts_eq,
    State.reg_setReg_ne _ _ (by decide), State.setNat_eq, State.reg_setReg_self, BitVec.toNat_ofNat, Nat.mod_mod]

theorem State.mergeHeld_mergeDone (live : Nat) : (s.mergeDone e live).sts pgFIX Fix.S_MERGE_HELD = 0 := by
  rw [State.sts, State.fld, State.mergeDone, State.setNat_eq, State.reg_setReg_ne _ _ (by decide)]
  exact State.sts_setSts_self _ _ (by decide) 0

/-- An apply whose slot no job has captured. -/
theorem State.mergeBuild_applies (hon : s.mergeOn = true) (hfree : s.epochBusy e = false) :
    (s.mergeBuild e).mergeEpoch = e % 2 ^ 32 ∧ (s.mergeBuild e).sts pgFIX Fix.S_MERGE_HELD = 0 := by
  obtain ⟨a, live, hdone⟩ := State.mergeBuild_free hon hfree
  rw [hdone]
  exact ⟨State.mergeEpoch_mergeDone live, State.mergeHeld_mergeDone live⟩

theorem exec_mergeApply (s : State) : exec .mergeApply s = .next s.mergeTimed := rfl

/-- An apply of the device's own, held before or at the next millisecond. -/
theorem State.mergeTimed_own {a : State} (hown : s.isStandby = false)
    (ha : (if s.sts pgFIX Fix.S_MERGE_HELD = 1 then some s
      else if s.swathState s.mergeSwath = 2 then none else s.reachTick tickMerge MS 0) = some a) : s.mergeTimed = a.mergeApply := by
  simp only [State.mergeTimed, hown, Bool.false_eq_true, if_false]
  split at ha
  · next hheld => rw [if_pos hheld, Option.some.inj ha]
  · next hheld =>
    rw [if_neg hheld]
    split at ha
    · cases ha
    · next hrun => rw [if_neg hrun, State.atTick_reached ha]

theorem State.mergeTimed_follows (hstandby : s.isStandby = true) : s.mergeTimed = s.mergeFollowOne none := by
  simp only [State.mergeTimed, hstandby, if_true]

theorem State.mergeFollowOne_none (h : (s.mergeSpent (s.queue 3 0).committed).headPacket 3 0 = none) :
    s.mergeFollowOne none = s.mergeSpent (s.queue 3 0).committed := by
  simp only [State.mergeFollowOne, h]

theorem State.mergeFollowOne_some {d : List Byte} (h : (s.mergeSpent (s.queue 3 0).committed).headPacket 3 0 = some d) :
    s.mergeFollowOne none = (s.mergeSpent (s.queue 3 0).committed).mergeBuild (entryTag d) := by
  simp only [State.mergeFollowOne, h]

end

/-! ### Sources (R373) -/

section
variable {s a : State}

theorem State.mergeSources_dropSource (k : Nat) (cid : Option Nat) (port : Nat) :
    (s.dropSource k cid port).mergeSources k = (s.mergeSources k).filter (fun x => !x.is cid port) :=
  Tab.get_of_set s.merge.sources rfl

theorem State.sourceLoss_reached {k r c : Nat} {m : MergeSource}
    (hm : (s.mergeSources k).find? (fun m => m.place == r) = some m) (hc : m.cid = some c)
    (ha : s.reach ((s.queuedSeen k c).foldl max m.seen + s.fld pgFIX Fix.SRC_LOSS_MS (12, 0) * 1000000 * NS) = some a) :
    s.sourceLoss k r = a.dropSource k (some c) m.port := by
  simp only [State.sourceLoss, hm, hc]
  exact State.atTime_reached ha _

/-! ### Streams (R379 to R383) -/

theorem State.strUnderrun_reached {e : Nat} {l : Launch}
    (hl : earliest ((s.launches (keySTR e)).filter (fun l => l.choice.isNone)) = some l) (ha : s.reach (s.strCheckAt e l) = some a)
    (hsends : a.strSends e l.swath = true) :
    s.strUnderrun e = (a.strCheck e l).1.chooseLaunch (keySTR e) l (a.strCheck e l).2 := by
  simp only [State.strUnderrun, hl]
  exact (State.atTime_reached ha _).trans (if_pos hsends)

theorem State.strCheck_packed {e : Nat} {l : Launch} (h : a.strPacked e l.frame = true) : a.strCheck e l = (a, some l.frame) := if_pos h

theorem State.strCheck_missing {e : Nat} {l : Launch} (h : a.strPacked e l.frame = false) :
    a.strCheck e l = ((a.inc pgSTR Str.UNDERRUNS).fault pgSTR Str.F_UNDERRUN,
      if bit (a.streamWord e 0) 24 then none else (a.portOf (keySTR e)).emitted) := if_neg (by rw [h]; decide)

/-- A counted fault of the stream engine: the count moves on, and the launches owed stay. -/
theorem State.strFault_counts (a : State) : 
    ((a.inc pgSTR Str.UNDERRUNS).fault pgSTR Str.F_UNDERRUN).reg pgSTR Str.UNDERRUNS = a.reg pgSTR Str.UNDERRUNS + 1 ∧
      ((a.inc pgSTR Str.UNDERRUNS).fault pgSTR Str.F_UNDERRUN).launch = a.launch := by
  have hfault := (State.Within.refl (l := regSpan pgSTR PAGE_FAULT :: irqSpans) (a.inc pgSTR Str.UNDERRUNS)).fault
    (n := Str.F_UNDERRUN) pageInfo_pgSTR rfl (List.Subset.refl _)
  refine ⟨(hfault.reg (by decide)).trans (a.reg_setReg_self _ _ _), ?_⟩
  exact (State.fault_keeps ((a.inc pgSTR Str.UNDERRUNS).keeps_parts 0x8000) (Keep.off_of_and (by decide))).launch_eq.trans
    (State.setReg_launch _ _ _ _)

/-- A frame of a cell is built from registers and memory. -/
theorem State.cellFrame_congr {b : State} (hlive : b.live = a.live) (hmem : b.mem = a.mem) (hboot : b.boot = a.boot) (x : Entry)
    (g i n launch : Nat) (rep term : Bool) : b.cellFrame x g i n launch rep term = a.cellFrame x g i n launch rep term := by
  simp only [State.cellFrame, State.stageAt, State.mem_, State.reg, hlive, State.bytes_congr hmem hboot]

theorem State.strLaunch_reached {e g : Nat} {l : Launch} (hl : earliest (s.launches (keySTR e)) = some l)
    (hc : l.choice = some (some g)) (ha : s.reach (s.strCheckAt e l) = some a) (hsends : a.strSends e l.swath = true) :
    s.strLaunch e = (a.dropLaunch (keySTR e) l).strQueue e l g := by
  simp only [State.strLaunch, hl, hc, Option.any_some, Option.isNone_some, Bool.false_eq_true, if_false]
  exact (State.atTime_reached ha _).trans (if_pos hsends)

theorem State.waiting_macQueue_str (m : Nat) {u : TxUnit} (hu : u.src = 4) : ((s.macQueue m u).macOf m).waiting
    = insertUnit (u.launch.getD (unitsOf s.tln.now)) u (s.macOf m).waiting := by
  rw [State.macQueue, State.macOf_modMac]
  exact if_pos hu

theorem State.macQueue_parts (s : State) (m : Nat) (u : TxUnit) : State.Keeps ⟨s.pending, s, 0x80108000, false⟩ (s.macQueue m u) :=
  State.macQueue_keeps (s.keeps_parts 0x80108000) (Keep.off_of_and (by decide))

/-- What a launch leaves: the content emitted, no change of the launches, and its frames waiting in the order of launches. -/
theorem State.strQueue_leaves (s : State) (e : Nat) (l : Launch) (g : Nat) :
    let x := s.entryOf e
    let burst := strUnit x e (some l.at_)
      ((List.range x.segs).map (fun i => s.cellFrame x g i l.count l.at_ (l.repeated || g != l.frame) false))
    let mine := insertUnit l.at_ burst (s.macOf x.mac).waiting
    ((s.strQueue e l g).portOf (keySTR e)).emitted = some g ∧ (s.strQueue e l g).launch = s.launch ∧
    ((s.strQueue e l g).macOf x.mac).waiting = (if x.sync = 0 then mine
      else insertUnit (l.at_ + x.dataLead * LU) (strUnit x e (some (l.at_ + x.dataLead * LU)) [s.syncFrame x l.count]) mine) := by
  intro x burst mine
  let held : PortState := { s.portOf (keySTR e) with emitted := some g }
  have hqueue : s.strQueue e l g = if x.sync = 0 then (s.macQueue x.mac burst).setPort (keySTR e) held
      else ((s.macQueue x.mac burst).setPort (keySTR e) held).macQueue x.mac
        (strUnit x e (some (l.at_ + x.dataLead * LU)) [s.syncFrame x l.count]) := rfl
  have hlaunch : ((s.macQueue x.mac burst).setPort (keySTR e) held).launch = s.launch :=
    (s.macQueue_parts x.mac burst).launch_eq
  have hwaiting : (((s.macQueue x.mac burst).setPort (keySTR e) held).macOf x.mac).waiting = mine :=
    s.waiting_macQueue_str _ rfl
  rw [hqueue]
  split
  · exact ⟨congrArg PortState.emitted (State.portOf_setPort _ _ _), hlaunch, hwaiting⟩
  · refine ⟨?_, (State.macQueue_parts _ _ _).launch_eq.trans hlaunch, ?_⟩
    · rw [State.portOf_congr (State.macQueue_parts _ _ _).port_eq, State.portOf_setPort]
    · rw [State.waiting_macQueue_str _ rfl, hwaiting]
      rfl

/-- A send of a terminated stream: what is left to send, then its packets on the ACTIVE device. -/
theorem State.strTerminate_reached {k n x : Nat} (h : s.str.term.find? (fun y => y.1 == k) = some (k, n, x))
    (ha : s.reach x = some a) :
    let rest := s.str.term.filter (fun y => y.1 != k)
    let left := if 1 < n then rest ++ [(k, n - 1, a.tln.now + 1000000 * NS)] else rest
    let b : State := { a with str := { a.str with term := left } }
    s.strTerminate k = if b.stileHeld then (b.streamsOf k).foldl State.terminateEntry b else b := by
  intro rest left b
  have hrest : a.str.term.filter (fun y => y.1 != k) = rest := by rw [(State.reach_parts ha).str_eq]
  simp only [State.strTerminate, h]
  refine (State.atTime_reached ha _).trans ?_
  rw [hrest]

theorem State.terminateEntries_str (b : State) (l : List Nat) : (l.foldl State.terminateEntry b).str = b.str :=
  State.Keeps.str_eq (m := 0x80000000) (State.Keeps.foldl (b.keeps_parts _)
    fun _ _ ha => State.terminateEntry_keeps ha (Keep.off_of_and (by decide)))

/-- Discovery as a due instant makes it (R383). -/
def State.discoverNow (a : State) : State :=
  (List.range 4).foldl State.discoverMac { a with str := { a.str with discAt := some a.tln.now } }

theorem State.discover_due (hon : s.active pgSTR = true) (hsends : s.flag pgSTR Str.STR_CTRL 0 = true) (hheld : s.stileHeld = true)
    (ha : (match s.str.discAt with
      | none => some s
      | some x => s.reach (x + 10 * SEC * NS)) = some a) : s.discover = a.discoverNow := by
  simp only [State.discover, hon, hsends, hheld, Bool.not_true, Bool.or_self, Bool.false_eq_true, if_false]
  cases hdisc : s.str.discAt with
  | none =>
    rw [hdisc] at ha
    rw [← Option.some.inj ha]
    rfl
  | some x =>
    rw [hdisc] at ha
    exact State.atTime_reached ha _

theorem State.discoverNow_str (a : State) : a.discoverNow.str.discAt = some a.tln.now :=
  have hstr (b : State) : ((List.range 4).foldl State.discoverMac b).str = b.str :=
    State.Keeps.str_eq (m := 0x80000000) (State.Keeps.foldl (b.keeps_parts _)
      fun _ _ ha => State.discoverMac_keeps ha (Keep.off_of_and (by decide)))
  by rw [State.discoverNow, hstr]

end

end Sys2Proof.Machine

open Sys2Proof Sys2Proof.Machine

/-- Settles O31: each event by what it does in the state that its instant reaches. -/
theorem mergesAndStreamsAct : Obligations.MergesAndStreamsAct := by
  refine ⟨fun s a ha hown hon => ⟨fun hfree => ?_, fun hbusy => ?_⟩, fun s => ?_, fun s a k r m c hm hc ha => ?_,
    fun s a e l => ?_, fun s a e l g => ?_, fun s a k n x => ?_, fun s a hon hsends hheld ha => ?_⟩
  · obtain ⟨hepoch, hheld⟩ := State.mergeBuild_applies hon hfree
    exact ⟨_, (exec_mergeApply s).trans (congrArg _ (State.mergeTimed_own hown ha)), hepoch, hheld⟩
  · rw [exec_mergeApply, State.mergeTimed_own hown ha, State.mergeApply, State.mergeBuild_busy hon hbusy]
  · intro b hstandby
    have hrun : exec .mergeApply s = .next (s.mergeFollowOne none) := congrArg _ (State.mergeTimed_follows hstandby)
    refine ⟨fun hnone => ?_, fun d hd hon => ⟨fun hfree => ?_, fun hbusy => ?_⟩⟩
    · rw [hrun, State.mergeFollowOne_none hnone]
    · obtain ⟨hepoch, hheld⟩ := State.mergeBuild_applies hon hfree
      exact ⟨_, hrun.trans (congrArg _ (State.mergeFollowOne_some hd)), hepoch, hheld⟩
    · rw [hrun, State.mergeFollowOne_some hd, State.mergeBuild_busy hon hbusy]
  · have hkept := State.reach_parts ha
    refine ⟨_, congrArg Host.Outcome.next (State.sourceLoss_reached hm hc ha), hkept.mem_eq, ?_⟩
    rw [State.mergeSources_dropSource, State.mergeSources, hkept.merge_eq, State.mergeSources]
  · intro key hl ha hsends
    have hrun : exec (.strUnderrunCheck e) s = .next _ := congrArg Host.Outcome.next (State.strUnderrun_reached hl ha hsends)
    refine ⟨fun hpacked => ?_, fun hmissing => ?_⟩
    · rw [hrun, State.strCheck_packed hpacked]
    · obtain ⟨hcount, hlaunch⟩ := State.strFault_counts a
      rw [State.strCheck_missing hmissing] at hrun
      refine ⟨_, hrun, hcount, ?_⟩
      exact State.launches_chooseLaunch (hlaunch.trans (State.reach_parts ha).launch_eq) l _
  · intro key x rep hl hc ha hsends
    obtain ⟨hemitted, hlaunch, hwaiting⟩ := (a.dropLaunch key l).strQueue_leaves e l g
    have hkept := State.reach_parts ha
    refine ⟨_, congrArg Host.Outcome.next (State.strLaunch_reached hl hc ha hsends), hemitted, ?_, ?_⟩
    · rw [State.launches_congr hlaunch, State.dropLaunch, State.launches_setLaunches, State.launches_congr hkept.launch_eq]
    · intro burst mine
      have hmac : a.macOf x.mac = s.macOf x.mac := State.macOf_congr hkept.mac_eq _
      have hdropped : (a.dropLaunch key l).macOf = a.macOf := rfl
      have hentry : (a.dropLaunch key l).entryOf = a.entryOf := rfl
      have hframe : (a.dropLaunch key l).cellFrame = a.cellFrame := by
        funext x g i n launch r t
        exact State.cellFrame_congr (a := a) (b := a.dropLaunch key l) rfl rfl rfl x g i n launch r t
      rw [hentry, hframe, hdropped, hmac] at hwaiting
      exact hwaiting
  · intro rest left b hterm ha
    have hrun : exec (.streamTerminateSend k) s = .next _ := congrArg Host.Outcome.next (State.strTerminate_reached hterm ha)
    refine ⟨?_, fun hheld => hrun.trans (congrArg Host.Outcome.next (if_pos hheld))⟩
    by_cases hheld : b.stileHeld = true
    · exact ⟨_, hrun.trans (congrArg Host.Outcome.next (if_pos hheld)), by rw [State.terminateEntries_str]⟩
    · exact ⟨_, hrun.trans (congrArg Host.Outcome.next (if_neg hheld)), rfl⟩
  · exact ⟨_, congrArg Host.Outcome.next (State.discover_due hon hsends hheld ha), a.discoverNow_str, rfl⟩

end

section
/-!
What the operations that blocks share may write: recorder triggers, messages to the partner, the timeline's states, pins and the
synchronisation of the pair.
-/
set_option Elab.async false
namespace Sys2Proof.Machine

/-! ### Recorder triggers (R583 to R586) -/

/-- What a trigger may write: its counts and faults, the pending queue's page, and what counting writes. -/
abbrev trigSpans : List Span := regSpan pgEVR Evr.LOST_TOTAL :: regSpan pgEVR Evr.PENDING_PEAK :: regSpan pgEVR Evr.DROPPED_TOTAL ::
  regSpan pgEVR Evr.FROZEN_EVENTS :: fldSpan pgEVR PAGE_FAULT (Evr.F_LOST, Evr.F_LOST) ::
  fldSpan pgEVR PAGE_FAULT (Evr.F_DROPPED, Evr.F_DROPPED) :: pageSpan (pgQUE 3) (pgQUE 4) :: countSpans

/-- What the frames of the Tsudex link may write: their counts, a BREAK, and what a trigger writes. -/
abbrev tellSpans : List Span := regSpan pgRED Red.TX_FRAMES :: regSpan pgRED Red.TX_BACKLOG :: regSpan pgRED Red.BREAKS ::
  fldSpan pgRED PAGE_FAULT (Red.F_BREAK, Red.F_BREAK) :: trigSpans

theorem irqSpans_subset_trig : irqSpans ⊆ trigSpans := by decide
theorem irqSpans_subset_tell : irqSpans ⊆ tellSpans := by decide
theorem countSpans_subset_trig : countSpans ⊆ trigSpans := by decide
theorem countSpans_subset_tell : countSpans ⊆ tellSpans := by decide
theorem trigSpans_subset_tell : trigSpans ⊆ tellSpans := by decide

/-- A write of one register that the spans hold. -/
theorem State.Within.write {s t : State} {l : List Span} (h : s.Within l t) {page off : Nat} {v : Word}
    (hmem : regSpan page off ∈ l := by decide) : s.Within l (t.setReg page off v) :=
  h.setReg ⟨_, hmem, Nat.le_refl _, Nat.le_refl _⟩

section
variable (s : State)

theorem State.queuePage_within {t : State} (h : s.Within trigSpans t) {off : Nat} {v : Word} (hoff : off < 0x1000 := by decide) :
    s.Within trigSpans (t.setReg (pgQUE 3) off v) :=
  h.setPage (p := pgQUE 3) (q := pgQUE 4) (by decide) (Nat.le_refl _) (by decide) hoff

theorem State.pending_levels : s.Within trigSpans (s.queueLevels 3) :=
  (s.queueLevels_within 3).widen (by decide)

theorem State.pending_error (b : Nat) : s.Within trigSpans (s.queueError 3 3 b) :=
  State.Within.irq (State.queuePage_within s (.refl s)) irqSpans_subset_trig

theorem State.pending_put (depth : Nat) (d : List Byte) (last : Bool) : s.Within trigSpans (s.queuePut 3 3 depth d last) := by
  have hset (a : State) (x : Queue) : a.Within trigSpans (a.setQueue 3 3 x) := (State.Within.refl a).upd rfl
  have hdrop (a : State) (x : Queue) : a.Within trigSpans ((a.queueDrop 3 3).setQueue 3 3 x) :=
    (a.queuePage_within (.refl a)).trans (hset _ _)
  have herror := s.pending_error 8
  have hkeep := State.Within.refl (l := trigSpans) s
  unfold State.queuePut
  dsimp only
  split
  · exact hdrop s _
  split
  · exact (hset s _).ite hkeep
  split
  · exact (hdrop s _).ite hkeep
  split
  · exact (herror.trans (hdrop _ _)).ite (herror.trans (hset _ _))
  · exact (s.queuePage_within (hset s _)).ite (hset s _)

theorem State.pending_reset (busy : Bool) : s.Within trigSpans (s.queuePtrReset 3 3 busy) := by
  have hset (a : State) (x : Queue) : a.Within trigSpans (a.setQueue 3 3 x) := (State.Within.refl a).upd rfl
  exact ((s.queuePage_within (hset s _)).trans (State.pending_error _ 9)).trans (State.pending_levels _)

theorem State.evrLost_within : s.Within trigSpans s.evrLost := by
  have hlost : s.Within trigSpans ((s.inc pgEVR Evr.LOST_TOTAL).fault pgEVR Evr.F_LOST) :=
    (State.Within.refl s).write.faultBit pageInfo_pgEVR rfl (by decide) irqSpans_subset_trig
  refine State.Within.count (hlost.upd ?_) countSpans_subset_trig
  rfl

theorem State.evrPushSound_within (code page kind group : Nat) : s.Within trigSpans (s.evrPushSound code page kind group) := by
  have hput := (s.pending_put 64 (pendingEntry code page kind group (stamp32 s.tln.now)) true).trans (State.pending_levels _)
  exact (hput.trans (State.evrLost_within _)).ite hput.write

theorem State.evrPush_within (code page kind group : Nat) : s.Within trigSpans (s.evrPush code page kind group) :=
  (s.evrPushSound_within code page kind group).ite
    (((s.pending_reset false).trans (State.evrLost_within _)).trans (State.evrPushSound_within _ _ _ _ _))

theorem State.trigger_within (code page : Nat) : s.Within trigSpans (s.trigger code page) := by
  have hdrop : s.Within trigSpans ((s.inc pgEVR Evr.DROPPED_TOTAL).fault pgEVR Evr.F_DROPPED) :=
    (State.Within.refl s).write.faultBit pageInfo_pgEVR rfl (by decide) irqSpans_subset_trig
  have hspent (x : Tab Nat) : s.Within trigSpans { s with evr := { s.evr with spent := x } } := (State.Within.refl s).upd rfl
  unfold State.trigger
  split
  · exact .refl s
  dsimp only
  split
  · exact .refl s
  split
  · exact hdrop.upd rfl
  split
  · exact (hspent _).write.upd rfl
  · exact (hspent _).trans (State.evrPush_within _ _ _ _ _)

/-! ### Messages to the partner (R538 to R545) -/

theorem State.tsxQueue_within (type plane : Nat) (payload : List Byte) : s.Within tellSpans (s.tsxQueue type plane payload) := by
  have hred (x : RedState) : s.Within tellSpans { s with red := x } := (State.Within.refl s).upd rfl
  have hput (a : State) (lane : Nat) (f : TsxFrame) : a.Within tellSpans (a.tsxPut lane f) := by
    have hemit (o : Output) : a.Within tellSpans (a.emit o) := (State.Within.refl a).upd rfl
    exact (hemit _).write.count countSpans_subset_tell
  exact ((hred _).trans (hput _ _ _)).write

theorem State.tsxBreak_within : s.Within tellSpans s.tsxBreak := by
  have hreport (a : State) : a.Within tellSpans (((a.inc pgRED Red.BREAKS).fault pgRED Red.F_BREAK).trigger 0xE07 pgRED) :=
    ((State.Within.refl a).write.faultBit pageInfo_pgRED rfl (by decide) irqSpans_subset_tell).andThen (State.trigger_within _ _ _)
      trigSpans_subset_tell
  have hred (x : RedState) : s.Within tellSpans { s with red := x } := (State.Within.refl s).upd rfl
  exact State.Within.trans (((hred _).trans (State.tsxQueue_within _ _ _ _)).ite (hred _).write) (hreport _)

theorem State.tsxSend_within (type plane : Nat) (payload : List Byte) : s.Within tellSpans (s.tsxSend type plane payload) := by
  have hsent := s.tsxQueue_within type plane payload
  exact (State.Within.refl s).ite ((hsent.trans (State.tsxBreak_within _)).ite hsent)

theorem State.tell_within (type : Nat) (payload : List Byte) : s.Within tellSpans (s.tell type payload) :=
  (s.tsxSend_within type 0 payload).ite (.refl s)

theorem State.tellMem_within (a : Nat) (l : List Byte) (n : Nat) : s.Within tellSpans (s.tellMem a l n) := by
  fun_induction State.tellMem s a l n with
  | case1 => exact .refl _
  | case2 => exact .refl _
  | case3 s a l n _ ih => exact (s.tell_within _ _).trans ih

theorem State.setBytes_within {l : List Span} (a : Nat) (d : List Byte) : s.Within l (s.setBytes a d) :=
  (State.Within.refl s).upd (s.setBytes_live a d)

/-- A hardware write of memory, and what the partner is told of it. -/
theorem State.hwBytes_within (a : Nat) (d : List Byte) : s.Within tellSpans (s.hwBytes a d) := by
  have hset := s.setBytes_within (l := tellSpans) a d
  exact (State.Within.refl s).ite ((hset.trans (State.tellMem_within _ _ _ _)).ite hset)

end

/-! ### Swaths and the timeline's states (R79 to R89, R249, R550) -/

/-- What a change of the timeline's state may write: TLN, the Swaths, ALIGNED with its fault, and what an interrupt writes. -/
abbrev timeSpans : List Span := pageSpan 0x10 0x11 :: pageSpan 0x40 0x80 :: fldSpan pgRED Red.PAIR_STATE Red.ALIGNED ::
  fldSpan pgRED PAGE_FAULT (Red.F_ALIGN_LOST, Red.F_ALIGN_LOST) :: irqSpans

/-- What the loss of a time source may write: the end of a calibration run besides. -/
abbrev lostSpans : List Span := fldSpan pgCAL PAGE_STATUS Cal.S_CAL_BUSY :: fldSpan pgCAL PAGE_FAULT (Cal.F_NO_REF, Cal.F_NO_REF) ::
  timeSpans

theorem irqSpans_subset_time : irqSpans ⊆ timeSpans := by decide
theorem irqSpans_subset_lost : irqSpans ⊆ lostSpans := by decide
theorem timeSpans_subset_lost : timeSpans ⊆ lostSpans := by decide

section
variable {s t : State}

theorem State.Within.setTln (h : s.Within timeSpans t) {off : Nat} {v : Word} (hoff : off < 0x1000 := by decide) :
    s.Within timeSpans (t.setReg pgTLN off v) := h.setPage (p := 0x10) (q := 0x11) (by decide) (by decide) (by decide) hoff

theorem State.Within.setSwt (h : s.Within timeSpans t) {k : Nat} (hk : k < 16) {j off : Nat} {v : Word} (hj : j < 4)
    (hoff : off < 0x1000 := by decide) : s.Within timeSpans (t.setReg (pgSWT k + j) off v) :=
  h.setPage (p := 0x40) (q := 0x80) (by decide) (by simp only [pgSWT]; omega) (by simp only [pgSWT]; omega) hoff

end

section
variable (s : State)

theorem State.swathRefresh_within {k : Nat} (hk : k < 16) : s.Within timeSpans (s.swathRefresh k) := by
  have hgroup (n : Nat) : s.Within timeSpans (s.setGroupState (pgSWT k) n) := by
    have hinfo : pageInfo (pgSWT k) = some ⟨.swt, k, 0⟩ := pageInfo_pgSWT ⟨k, hk⟩
    simp only [State.setGroupState, hinfo]
    exact (State.Within.refl s).foldl fun j hj a => (State.Within.refl a).setSwt hk (List.mem_range.1 hj)
  exact (State.Within.refl s).ite ((hgroup 0).ite ((hgroup 2).ite (hgroup 1)))

theorem State.setSwathState_within {k : Nat} (hk : k < 16) (n : Nat) : s.Within timeSpans (s.setSwathState k n) :=
  (s.swathRefresh_within hk).ite
    ((((State.Within.refl s).setSwt hk (j := 0) (by decide)).trans (State.swathRefresh_within _ hk)).irq irqSpans_subset_time)

theorem State.tryArm_within {k : Nat} (hk : k < 16) : s.Within timeSpans (s.tryArm k) := by
  have hswath (x : SwtState) : s.Within timeSpans (s.setSwath k x) := (State.Within.refl s).upd rfl
  exact ((hswath _).trans (State.setSwathState_within _ hk 1)).ite (State.Within.refl s)

theorem State.lockFollow_within {k : Nat} (hk : k < 16) : s.Within timeSpans (s.lockFollow k) := by
  have hset (n : Nat) : s.Within timeSpans (s.setSts (pgSWT k) Swt.S_LOCK_OK n) :=
    (State.Within.refl s).setSwt hk (j := 0) (by decide)
  have hfault (a : State) : a.Within timeSpans (a.fault (pgSWT k) Swt.F_LOCK_LOST) := by
    rw [a.fault_eq_faultHere (pageInfo_pgSWT ⟨k, hk⟩) rfl]
    exact ((State.Within.refl a).setSwt hk (j := 0) (by decide)).andThen (State.faultHere_within _ _ _) irqSpans_subset_time
  exact (State.Within.refl s).ite (((hset _).trans (hfault _)).ite (hset _))

theorem State.swathLocks_within : s.Within timeSpans s.swathLocks :=
  ((State.Within.refl s).foldl fun _ hk a => a.lockFollow_within (List.mem_range.1 hk)).foldl fun _ hk a =>
    a.tryArm_within (List.mem_range.1 hk)

theorem State.alignFalls_within : s.Within timeSpans s.alignFalls := by
  have hset : s.Within timeSpans (s.setFld pgRED Red.PAIR_STATE Red.ALIGNED 0) := (State.Within.refl s).setFld (by decide)
  exact (State.Within.refl s).ite ((hset.faultBit pageInfo_pgRED rfl (by decide) irqSpans_subset_time).ite hset)

theorem State.alignRefresh_within : s.Within timeSpans s.alignRefresh :=
  (State.Within.refl s).ite (((State.Within.refl s).setFld (by decide)).ite s.alignFalls_within)

theorem State.setIncr_within (v : Int) : s.Within timeSpans (s.setIncr v) := (State.Within.refl s).setTln.setTln

theorem State.retune_within : s.Within timeSpans s.retune := by
  unfold State.retune
  split
  · exact s.setIncr_within _
  · exact s.setIncr_within _
  · exact .refl s
  · exact s.setIncr_within _

theorem State.enterTl_within (n : Nat) : s.Within timeSpans (s.enterTl n) := by
  have hset (x : TlnState) : s.Within timeSpans { s with tln := x } := (State.Within.refl s).upd rfl
  unfold State.enterTl
  split
  · exact hset _
  · exact hset _
  · exact hset _
  · exact (hset _).ite ((hset _).trans (State.setIncr_within _ _))
  · exact .refl s

theorem State.setTlState_within (n : Nat) : s.Within timeSpans (s.setTlState n) := by
  have htune : s.Within timeSpans ((s.enterTl n).setSts pgTLN Tln.S_TL_STATE n).retune :=
    (s.enterTl_within n).setTln.trans (State.retune_within _)
  have hnext := State.Within.ite (p := n = 2) htune (htune.trans (State.alignFalls_within _))
  exact hnext.ite ((hnext.irq irqSpans_subset_time).trans (State.swathLocks_within _))

theorem State.voidEvents_within : s.Within timeSpans s.voidEvents := (State.Within.refl s).upd rfl

theorem State.tlnSettle_within : s.Within timeSpans s.tlnSettle := (s.setTlState_within 1).ite (.refl s)

theorem State.slewEnd_within : s.Within timeSpans s.slewEnd := by
  have hslew (x : TlnState) : s.Within timeSpans { s with tln := x } := (State.Within.refl s).upd rfl
  exact (((hslew _).setTln.trans (State.retune_within _)).irq irqSpans_subset_time).ite (.refl s)

theorem State.tlnOff_within : s.Within timeSpans s.tlnOff :=
  ((s.enterTl_within 0).trans (State.retune_within _)).ite (s.setTlState_within 0)

theorem State.leapNow_within : s.Within timeSpans s.leapNow := (State.Within.refl s).setTln.setTln.irq irqSpans_subset_time

theorem State.tlnCommitted_within (old : Nat) : s.Within timeSpans (s.tlnCommitted old) := by
  have htln (a : State) (x : TlnState) : a.Within timeSpans { a with tln := x } := (State.Within.refl a).upd rfl
  have hpreload (a : State) : a.Within timeSpans { a with tln := { a.tln with preload := true } } := htln a _
  have hvoid := (htln s { s.tln with hasPrev := false, reachedLocked := false, lockedIncr := [] }).trans (State.voidEvents_within _)
  have hload := (hvoid.trans (State.slewEnd_within _)).trans (hpreload _)
  have htuned (b : State) (hb : s.Within timeSpans b) :
      s.Within timeSpans (if b.retune.leapArmed = true ∧ b.retune.leapAt ≤ b.retune.tln.now then b.retune.leapNow else b.retune) :=
    ((hb.trans (State.retune_within _)).trans (State.leapNow_within _)).ite (hb.trans (State.retune_within _))
  exact htuned _ (State.Within.ite (.refl s) (State.Within.ite (hvoid.trans (State.tlnOff_within _))
    ((hload.trans (State.setTlState_within _ 1)).ite hload)))

theorem State.calRefLost_within (src : Nat) : s.Within lostSpans (s.calRefLost src) := by
  unfold State.calRefLost
  split
  · exact .refl s
  · have hrun (x : CalState) : s.Within lostSpans { s with cal := x } := (State.Within.refl s).upd rfl
    exact (((hrun _).setSts (by decide)).faultBit pageInfo_pgCAL rfl (by decide) irqSpans_subset_lost).ite (.refl s)

theorem State.srcLost_within (src : Nat) : s.Within lostSpans (s.srcLost src) := by
  have htl (a : State) (n : Nat) : a.Within lostSpans (a.setTlState n) := (a.setTlState_within n).mono timeSpans_subset_lost
  have hcal := s.calRefLost_within src
  have hleft := State.Within.ite (p := (s.calRefLost src).tlnOn = true ∧ (s.calRefLost src).tlSrc = src)
    (hcal.andThen (State.voidEvents_within _) timeSpans_subset_lost) hcal
  exact ((hleft.trans (htl _ _)).ite ((hleft.trans (htl _ _)).ite hleft)).ite hleft

/-! ### Pins (R279, R309, R440, R447) -/

/-- What the pins tell of themselves: the status of PXP, DMX, FLD, LMP and LCL, and what an interrupt writes. -/
abbrev pinSpans : List Span := pageSpan 0x100 0x150 :: pageSpan 0x180 0x1A4 :: irqSpans

theorem irqSpans_subset_pin : irqSpans ⊆ pinSpans := by decide

theorem State.wireHolds_within {l : List Span} (w : Wire) (b : Bool) : s.Within l (s.wireHolds w b) := (State.Within.refl s).upd rfl

theorem State.setDriven_within {l : List Span} {page : Nat} {f : Field} (x : List Wire) (on : Bool)
    (hset : ∀ n, s.Within l (s.setSts page f n)) : s.Within l (s.setDriven page f x on) :=
  (hset _).ite ((hset _).foldl fun _ _ a => (State.Within.refl a).upd rfl)

theorem State.pxRefresh_within {k : Nat} (hk : k < 64) : s.Within pinSpans (s.pxRefresh k) := by
  have hsts (a : State) (f : Field) (n : Nat) : a.Within pinSpans (a.setSts (pgPXP k) f n) :=
    (State.Within.refl a).setPage (p := 0x100) (q := 0x150) (by decide) (by simp only [pgPXP]; omega) (by simp only [pgPXP]; omega)
  have hset := (hsts s Pxp.S_PIN_STATE (s.pxPin k).1).trans (State.setDriven_within _ [.px k] (s.pxPin k).2 (hsts _ Pxp.S_DRIVEN))
  exact (hset.trans (State.wireHolds_within _ _ _)).ite hset

theorem State.dmxRefresh_within {k : Nat} (hk : k < 12) : s.Within pinSpans (s.dmxRefresh k) := by
  have hsts (a : State) (f : Field) (n : Nat) : a.Within pinSpans (a.setSts (pgDMX k) f n) :=
    (State.Within.refl a).setPage (p := 0x100) (q := 0x150) (by decide) (by simp only [pgDMX]; omega) (by simp only [pgDMX]; omega)
  have hset := (hsts s Dmx.S_PIN_STATE (s.dmxPin k).1).trans
    (State.setDriven_within _ [.dmxTx k, .dmxDe k] (s.dmxPin k).2 (hsts _ Dmx.S_DRIVEN))
  exact ((hset.trans (State.wireHolds_within _ _ _)).trans (State.wireHolds_within _ _ _)).ite hset

theorem State.lampsDriven_within {n : Nat} (hn : n < 4) (x : Nat) : s.Within pinSpans (s.lampsDriven n x) := by
  have hpage (a : State) {p : Nat} (hlow : 0x180 ≤ p) (hhigh : p < 0x1A4) (f : Field) (v : Nat) :
      a.Within pinSpans (a.setSts p f v) := (State.Within.refl a).setPage (p := 0x180) (q := 0x1A4) (by decide) hlow hhigh
  have hcluster (a : State) (f : Field) (v : Nat) : a.Within pinSpans (a.setSts (pgLCL n) f v) :=
    hpage a (by simp only [pgLCL]; omega) (by simp only [pgLCL]; omega) f v
  refine State.Within.foldl ((hcluster s _ _).trans (State.setDriven_within _ _ _ (hcluster _ _))) fun k hk a => ?_
  simp only [channelsOf, List.mem_map, List.mem_range] at hk
  obtain ⟨i, hi, rfl⟩ := hk
  exact hpage a (by simp only [pgLMP]; omega) (by simp only [pgLMP]; omega) _ _

theorem State.lclChanged_within (n x : Nat) (at_ : Option Nat) : s.Within irqSpans (s.lclChanged n x at_) := by
  have hcluster (c : ClusterState) : s.Within irqSpans (s.setCluster n c) := (State.Within.refl s).upd rfl
  have hirq := (hcluster { s.clusterOf n with releasedAt := at_, keeperOff := false }).irq (k := 304 + n) (List.Subset.refl _)
  exact (hirq.foldl fun k _ a => a.wireHolds_within _ _).ite hirq

theorem State.lclRefresh_within {n : Nat} (hn : n < 4) : s.Within pinSpans (s.lclRefresh n) := by
  rw [State.lclRefresh_eq]
  exact (s.lampsDriven_within hn _).ite ((s.lampsDriven_within hn _).andThen (State.lclChanged_within _ n _ _) irqSpans_subset_pin)

theorem State.fldRefresh_within {k : Nat} (hk : k < 8) : s.Within irqSpans (s.fldRefresh k) := by
  have hspan : fldSpan (pgFLD k) PAGE_STATUS (18, 16) ∈ irqSpans :=
    (show ∀ n < 8, fldSpan (pgFLD n) PAGE_STATUS (18, 16) ∈ irqSpans by decide) k hk
  exact ((State.Within.refl s).setFldIn hspan (by decide)).trans
    (State.setDriven_within _ _ _ fun n => (State.Within.refl _).setFldIn hspan (by decide))

theorem State.pinsRefresh_within : s.Within pinSpans s.pinsRefresh :=
  State.Within.foldl (State.Within.foldl (State.Within.foldl (State.Within.foldl (State.Within.refl s)
    fun _ hk a => a.pxRefresh_within (List.mem_range.1 hk)) fun _ hk a => a.dmxRefresh_within (List.mem_range.1 hk))
    fun _ hk a => a.lclRefresh_within (List.mem_range.1 hk)) fun _ hk a =>
      (a.fldRefresh_within (List.mem_range.1 hk)).mono irqSpans_subset_pin

/-! ### SYNC_STATE (R550, R553, R554) -/

/-- What a change of SYNC_STATE may write. -/
abbrev syncSpans : List Span := fldSpan pgRED PAGE_STATUS Red.S_SYNC_STATE :: irqSpans

theorem State.setRed_within {l : List Span} (r : RedState) : s.Within l (s.setRed r) := (State.Within.refl s).upd rfl

theorem State.setSync_within (n : Nat) : s.Within syncSpans (s.setSync n) :=
  (State.Within.refl s).ite (((s.setRed_within _).setSts (by decide)).irq (List.subset_cons_self _ _))

theorem State.syncRefresh_within : s.Within syncSpans s.syncRefresh := (s.setSync_within _).ite (.refl s)

theorem State.unsync_within : s.Within syncSpans s.unsync := (s.setSync_within 0).ite (.refl s)

end

end Sys2Proof.Machine
end

section
/-!
Network time: what PTP ports send (R397 to R410, R419), and O32.
-/
set_option Elab.async false
namespace Sys2Proof.Machine

/-! ### Frames offered to a MAC -/

section
variable (s : State)

/-- A unit that is not STR's waits behind all others. -/
theorem State.waiting_macQueue_last (m : Nat) {u : TxUnit} (hu : u.src ≠ 4) :
    ((s.macQueue m u).macOf m).waiting = (s.macOf m).waiting ++ [u] := by
  rw [State.macQueue, State.macOf_modMac]
  exact if_neg hu

/-- What NTM offers for a message. -/
def State.ntmUnit (m type : Nat) (event : Bool) (launch : Option Nat) (d : List Byte) : TxUnit :=
  { TxUnit.plain 5 8 type event [(s.ptpFrame m event (type != 11) d).1] with
    launch := launch, chain := (s.ptpFrame m event (type != 11) d).2 }

theorem State.ntmSend_eq (m type : Nat) (event : Bool) (launch : Option Nat) (d : List Byte) :
    s.ntmSend m type event launch d = s.macQueue m (s.ntmUnit m type event launch d) := rfl

theorem State.waiting_ntmSend (m type : Nat) (event : Bool) (launch : Option Nat) (d : List Byte) :
    ((s.ntmSend m type event launch d).macOf m).waiting = (s.macOf m).waiting ++ [s.ntmUnit m type event launch d] := by
  rw [State.ntmSend_eq]
  exact s.waiting_macQueue_last m (show (5 : Nat) ≠ 4 by decide)

@[simp] theorem State.ntm_ntmSend (m type : Nat) (event : Bool) (launch : Option Nat) (d : List Byte) :
    (s.ntmSend m type event launch d).ntm = s.ntm := rfl

@[simp] theorem State.macOf_modNtm (f : NtmState → NtmState) (m : Nat) : (s.modNtm f).macOf m = s.macOf m := rfl

theorem State.ntmUnit_congr {s t : State} (h : t.live = s.live) (m type : Nat) (event : Bool) (launch : Option Nat) (d : List Byte) :
    t.ntmUnit m type event launch d = s.ntmUnit m type event launch d := by
  have hreg (p o : Nat) : t.reg p o = s.reg p o := by rw [State.reg, h, State.reg]
  simp only [State.ntmUnit, State.ptpFrame, State.portCtrl, State.macAddr, State.nat, State.fld, hreg]

/-! ### Sending (R402, R406, R407) -/

/-- The sequence numbers after a message of port `m`. -/
def NtmState.numbered (x : NtmState) (k : Nat) : NtmState :=
  { x with seqs := Tab.set (fun _ => 0) x.seqs k ((Tab.get (fun _ => 0) x.seqs k + 1) % 65536) }

theorem State.ptpSeqNo_eq (m type : Nat) :
    s.ptpSeqNo m type = (Tab.get (fun _ => 0) s.ntm.seqs (16 * m + type), s.modNtm (·.numbered (16 * m + type))) := rfl

/-- The instant of a port's next Sync. -/
def State.nextSync (m : Nat) : Nat :=
  let step := logUnits (s.logOf m Ntm.LOG_SYNC)
  let now := unitsOf s.tln.now
  let after := match Tab.get (fun _ => none) s.ntm.sentAt (2 * m) with
    | some l => max now l
    | none => now
  (after / step + 1) * step

/-- A port's Sync message. -/
def State.syncMessage (m : Nat) : List Byte :=
  s.ptpHead m 0 44 0 0 (Tab.get (fun _ => 0) s.ntm.seqs (16 * m)) 0 (unsign 8 (s.logOf m Ntm.LOG_SYNC)) ++ beBytes 10 0

@[simp] theorem State.ntm_modNtm (f : NtmState → NtmState) : (s.modNtm f).ntm = f s.ntm := by rw [State.modNtm]

@[simp] theorem State.live_modNtm (f : NtmState → NtmState) : (s.modNtm f).live = s.live := by rw [State.modNtm]

/-- The record with the next Delay_Req due at `t`. -/
def NtmState.drawn (x : NtmState) (t : Nat) : NtmState := { x with reqDrawn := x.reqDrawn + 1, reqDue := t }

theorem State.drawDelay_eq (m : Nat) : ∃ t, s.drawDelay m = s.modNtm (·.drawn t) := by
  unfold State.drawDelay
  exact ⟨_, rfl⟩

theorem State.req_drawDelay (m : Nat) : (s.drawDelay m).ntm.req = s.ntm.req := by
  obtain ⟨t, ht⟩ := s.drawDelay_eq m
  rw [ht, State.ntm_modNtm, NtmState.drawn]

theorem State.macOf_drawDelay (m n : Nat) : (s.drawDelay m).macOf n = s.macOf n := by
  obtain ⟨t, ht⟩ := s.drawDelay_eq m
  rw [ht, State.macOf_modNtm]

theorem State.live_drawDelay (m : Nat) : (s.drawDelay m).live = s.live := by
  obtain ⟨t, ht⟩ := s.drawDelay_eq m
  rw [ht, State.live_modNtm]

variable {s}

theorem State.syncSend_master {m : Nat} (hon : s.ptpOn m = true) (hmaster : s.portState m = 4) (htl : s.tlState ≠ 0) :
    s.syncSend m = ((s.modNtm (·.numbered (16 * m))).modNtm (fun x => { x with
      sentAt := Tab.set (fun _ => none) x.sentAt (2 * m) (some (s.nextSync m)) })).ntmSend m 0 true (some (s.nextSync m))
        (s.syncMessage m) := by
  have hgo : (!s.ptpOn m || s.portState m != 4 || s.tlState == 0) = false := by simp [hon, hmaster, htl]
  rw [State.syncSend, if_neg (by rw [hgo]; decide)]
  rfl

theorem State.announceSend_master {m : Nat} {a : State} (hon : s.ptpOn m = true) (hmaster : s.portState m = 4)
    (ha : (match Tab.get (fun _ => none) s.ntm.sentAt (2 * m + 1) with
      | some x => s.reach (timeOfUnits (x + logUnits (s.logOf m Ntm.LOG_ANNOUNCE)))
      | none => some s) = some a) : s.announceSend m = a.announceNow m := by
  have hgo : (!s.ptpOn m || s.portState m != 4) = false := by simp [hon, hmaster]
  rw [State.announceSend, if_neg (by rw [hgo]; decide)]
  cases hsent : Tab.get (fun _ => none) s.ntm.sentAt (2 * m + 1) with
  | some x =>
    rw [hsent] at ha
    exact State.atTime_reached ha _
  | none =>
    rw [hsent] at ha
    rw [← Option.some.inj ha]

/-- A Delay_Req has been numbered and waits for its answer. -/
def State.delayAsked (a : State) (m : Nat) : State :=
  (a.modNtm (·.numbered (16 * m + 1))).modNtm (fun x => { x with
    req := some ⟨Tab.get (fun _ => 0) a.ntm.seqs (16 * m + 1), a.tln.now, none⟩ })

/-- A port's Delay_Req message. -/
def State.delayReqMessage (a : State) (m : Nat) : List Byte :=
  a.ptpHead m 1 44 0 0 (Tab.get (fun _ => 0) a.ntm.seqs (16 * m + 1)) 1 0x7F ++ beBytes 10 0

/-- The message of an Announce of the state. -/
def State.announceMessage (a : State) (m : Nat) : List Byte :=
  let hi := a.reg pgNTM (Ntm.ANN_BASE_HI m)
  putAt (a.bytes (a.nat pgNTM (Ntm.ANN_BASE_LO m) / 64 * 64 + 2 ^ 32 * bits hi (7, 0)) (bits hi (23, 16))) 30
    (beBytes 2 (Tab.get (fun _ => 0) a.ntm.seqs (16 * m + 11)))

theorem State.announceNow_eq (a : State) (m : Nat) : a.announceNow m
    = ((a.modNtm (·.numbered (16 * m + 11))).modNtm (fun x => { x with
      sentAt := Tab.set (fun _ => none) x.sentAt (2 * m + 1) (some (unitsOf a.tln.now)) })).ntmSend m 11 false none
        (a.announceMessage m) := rfl

theorem State.delayReqSend_due {m : Nat} {a : State} (hslave : s.slavePort = some m) (hon : s.ptpOn m = true)
    (hnone : s.ntm.req = none) (ha : s.reach s.ntm.reqDue = some a) : 
    s.delayReqSend = ((a.delayAsked m).drawDelay m).ntmSend m 1 true none (a.delayReqMessage m) := by
  have hgo : (!s.ptpOn m || s.ntm.req.isSome) = false := by simp [hon, hnone]
  rw [State.delayReqSend]
  simp only [hslave]
  rw [if_neg (by rw [hgo]; decide)]
  refine (State.atTime_reached ha _).trans ?_
  simp only [State.ptpSeqNo_eq]
  rw [State.delayReqMessage, State.delayAsked]

theorem State.delayRespTimeout_due {m : Nat} {q : DelayReq} {a : State} (hslave : s.slavePort = some m) (hreq : s.ntm.req = some q)
    (ha : s.reach (q.at_ + logUnits (s.logOf m Ntm.LOG_DELAY_REQ + 1) * 2 ^ 48 / LU) = some a) :
    s.delayRespTimeout = (a.modNtm (fun x => { x with req := none })).inc pgNTM (Ntm.DRESP_MISSING m) := by
  simp only [State.delayRespTimeout, hslave, hreq]
  exact State.atTime_reached ha _

theorem State.delayRespSend_head {m : Nat} {d : List Byte} {rest : List (Nat × List Byte)} (h : s.ntm.replies = (m, d) :: rest) :
    s.delayRespSend = if s.ptpOn m && s.portState m == 4 then (s.modNtm (fun x => { x with replies := rest })).ntmSend m 9 false none d
      else s.modNtm (fun x => { x with replies := rest }) := by
  simp only [State.delayRespSend, h]

/-! ### The timestamp queue (R419) -/

theorem exec_tsqHiRead (haclk : s.aclkRuns = true) (r : Requester) : exec (.tsqHiRead r) s = .next s.counted.tsqRead :=
  congrArg Host.Outcome.next (State.access_eq haclk _)

theorem State.tsqRead_leaves (s : State) : s.tsqRead.out = .read (BitVec.ofNat 32 s.tsqHi) :: s.out ∧
    s.tsqRead.ntm.tsq = s.ntm.tsq.drop 1 ∧ s.tsqRead.nat pgNTM Ntm.TSQ_LEVEL = (s.ntm.tsq.length - 1) % 2 ^ 32 := by
  refine ⟨rfl, rfl, ?_⟩
  rw [State.tsqRead, State.tsqLevel, State.nat, State.setNat_eq, State.reg_setReg_self, BitVec.toNat_ofNat]
  exact congrArg (· % 2 ^ 32) List.length_drop

theorem State.tsqHi_counted (s : State) : s.counted.tsqHi = s.tsqHi := by
  rw [State.tsqHi, s.counted_same.ntm, s.counted_tln, State.tsqHi]

end

end Sys2Proof.Machine

open Sys2Proof Sys2Proof.Machine

/-- Settles O32: each message by the unit that it offers, in the state that its instant reaches. -/
theorem networkTimeSends : Obligations.NetworkTimeSends := by
  refine ⟨fun s m => ?_, fun s a m hon hmaster ha => ?_, fun s a m => ?_, fun s a m q hslave hreq ha => ?_, fun s m d rest hrest => ?_,
    fun s r haclk => ?_⟩
  · intro step now n d after hon hmaster htl
    refine ⟨_, s.ntmUnit m 0 true (some (s.nextSync m)) (s.syncMessage m),
      congrArg Host.Outcome.next (State.syncSend_master hon hmaster htl), ?_, rfl, rfl, rfl, ?_, ?_⟩
    · rw [State.waiting_ntmSend, State.ntmUnit_congr (s := s) (by rw [State.live_modNtm, State.live_modNtm]), State.macOf_modNtm,
        State.macOf_modNtm]
    · rw [State.ntm_ntmSend, State.ntm_modNtm]
      exact Tab.get_of_set _ rfl
    · rw [State.ntm_ntmSend, State.ntm_modNtm, State.ntm_modNtm]
      exact Tab.get_of_set _ rfl
  · have hmac : a.mac = s.mac := by
      split at ha
      · exact (State.reach_parts ha).mac_eq
      · rw [Option.some.inj ha]
    refine ⟨_, a.ntmUnit m 11 false none (a.announceMessage m),
      congrArg Host.Outcome.next (State.announceSend_master hon hmaster ha), rfl, ?_, rfl, rfl, ?_⟩
    · rw [State.announceNow_eq, State.waiting_ntmSend, State.ntmUnit_congr (s := a) (by rw [State.live_modNtm, State.live_modNtm]),
        State.macOf_modNtm, State.macOf_modNtm, State.macOf_congr hmac]
    · rw [State.announceNow_eq, State.ntm_ntmSend, State.ntm_modNtm]
      exact Tab.get_of_set _ rfl
  · intro n hslave hon hnone ha
    have hkept := State.reach_parts ha
    have hsend := State.delayReqSend_due hslave hon hnone ha
    refine ⟨_, a.ntmUnit m 1 true none (a.delayReqMessage m), congrArg Host.Outcome.next hsend, ?_, ?_, rfl, rfl, rfl⟩
    · rw [State.ntm_ntmSend, State.req_drawDelay, State.delayAsked, State.ntm_modNtm, hkept.ntm_eq]
    · have hmac : ((a.delayAsked m).drawDelay m).macOf m = s.macOf m := by
        rw [State.macOf_drawDelay, State.delayAsked, State.macOf_modNtm, State.macOf_modNtm, State.macOf_congr hkept.mac_eq]
      have hunit := State.ntmUnit_congr (s := a) (t := (a.delayAsked m).drawDelay m) (State.live_drawDelay _ _) m 1 true none (a.delayReqMessage m)
      rw [State.waiting_ntmSend, hunit, hmac]
  · refine ⟨_, congrArg Host.Outcome.next (State.delayRespTimeout_due hslave hreq ha), rfl, ?_⟩
    exact State.reg_setReg_self _ _ _ _
  · have hrun : exec .ptpDelayRespSend s = .next _ := congrArg Host.Outcome.next (State.delayRespSend_head hrest)
    refine ⟨fun hon hmaster => ?_, fun hoff => ?_⟩
    · refine ⟨_, s.ntmUnit m 9 false none d, hrun.trans (congrArg Host.Outcome.next (if_pos (by simp [hon, hmaster]))), rfl, ?_, rfl, rfl⟩
      rw [State.waiting_ntmSend, State.ntmUnit_congr (s := s) (State.live_modNtm _ _), State.macOf_modNtm]
    · refine ⟨_, hrun.trans (congrArg Host.Outcome.next (if_neg ?_)), rfl, rfl⟩
      rcases hoff with hoff | hoff <;> simp [hoff]
  · obtain ⟨hout, htsq, hlevel⟩ := s.counted.tsqRead_leaves
    rw [State.tsqHi_counted, State.counted_out] at hout
    rw [s.counted_same.ntm] at htsq hlevel
    exact ⟨_, exec_tsqHiRead haclk r, hout, htsq, hlevel⟩

end

section
/-!
Network time: what PTP ports do with the messages that they receive, and port states (R400 to R413, R422), and O33.
-/
set_option Elab.async false
namespace Sys2Proof.Machine

/-! ### The timestamp queue (R419) -/

section
variable (s : State)

@[simp] theorem State.ntm_irq (k : Nat) : (s.irq k).ntm = s.ntm := (s.irq_same k).count.ntm

@[simp] theorem State.ntm_inc (page off : Nat) : (s.inc page off).ntm = s.ntm := State.setReg_ntm _ _ _ _

theorem State.ntm_fault (page n : Nat) : (s.fault page n).ntm = s.ntm :=
  (State.fault_keeps (s.keeps_parts 0x20000000) (Keep.off_of_and (by decide))).ntm_eq

/-- A timestamp is pushed, or lost: nothing else of the record changes. -/
theorem State.ntm_tsqPush (m type seq dir u : Nat) : ∃ q, (s.tsqPush m type seq dir u).ntm = { s.ntm with tsq := q } := by
  unfold State.tsqPush
  split
  · exact ⟨s.ntm.tsq, rfl⟩
  split
  · exact ⟨s.ntm.tsq, s.ntm_fault _ _⟩
  dsimp only
  split
  · rw [State.ntm_irq]
    exact ⟨_, State.setReg_ntm _ _ _ _⟩
  · exact ⟨_, State.setReg_ntm _ _ _ _⟩

end

/-! ### Delay_Req on a MASTER port (R400, R403) -/

section
variable {s : State} {m ago o : Nat} {f : List Byte}

/-- The answers of port `m` in the present second. -/
def State.answers (s : State) (m : Nat) : Nat :=
  if Tab.get (fun _ => 0) s.ntm.answerSec m = s.tln.now / (SEC * NS) then Tab.get (fun _ => 0) s.ntm.answered m else 0

/-- One more answer, `d`, in the present second. -/
def State.answer (s : State) (m : Nat) (d : List Byte) : State :=
  s.modNtm (fun x => { x with
    answered := Tab.set (fun _ => 0) x.answered m (s.answers m + 1)
    answerSec := Tab.set (fun _ => 0) x.answerSec m (s.tln.now / (SEC * NS))
    replies := x.replies ++ [(m, d)] })

theorem State.delayReqRx_takes (hat : ptpAt f = some o) (hon : s.ptpOn m = true) (hsettled : s.settling m = false)
    (hmaster : s.portState m = 4) (hdomain : ptpDomain f o = s.fld pgNTM Ntm.NTM_CTRL Ntm.DOMAIN) (hfew : s.answers m < 4096) :
    ∃ d u, s.delayReqRx m ago f = (s.answer m d).tsqPush m 1 (ptpSeq f o) 0 u := by
  have hskip : ¬(s.portState m ≠ 4 ∨ ptpDomain f o ≠ s.fld pgNTM Ntm.NTM_CTRL Ntm.DOMAIN) := by
    rw [hmaster, hdomain]
    simp
  unfold State.delayReqRx
  simp only [hat, hon, hsettled, Bool.not_true, Bool.false_eq_true, if_false]
  rw [if_neg hskip]
  exact ⟨_, _, if_neg (Nat.not_le.2 hfew)⟩

theorem State.delayReqRx_excess (hat : ptpAt f = some o) (hon : s.ptpOn m = true) (hsettled : s.settling m = false)
    (hmaster : s.portState m = 4) (hdomain : ptpDomain f o = s.fld pgNTM Ntm.NTM_CTRL Ntm.DOMAIN) (hmany : 4096 ≤ s.answers m) :
    s.delayReqRx m ago f = s.inc pgNTM (Ntm.DREQ_DROP m) := by
  have hskip : ¬(s.portState m ≠ 4 ∨ ptpDomain f o ≠ s.fld pgNTM Ntm.NTM_CTRL Ntm.DOMAIN) := by
    rw [hmaster, hdomain]
    simp
  unfold State.delayReqRx
  simp only [hat, hon, hsettled, Bool.not_true, Bool.false_eq_true, if_false]
  rw [if_neg hskip]
  exact if_pos hmany

/-! ### Sync and Follow_Up (R409, R412) -/

/-- A Sync that the port may take. -/
def State.syncGood (s : State) (m : Nat) (f : List Byte) (o : Nat) : Bool :=
  (s.portState m == 2 || s.portState m == 3) && s.fromParent f o && s.seqLater (ptpSeq f o)

theorem State.syncGood_iff : s.syncGood m f o = true
    ↔ (s.portState m = 2 ∨ s.portState m = 3) ∧ s.fromParent f o = true ∧ s.seqLater (ptpSeq f o) = true := by
  simp [State.syncGood, and_assoc]

theorem State.syncRx_eq (hat : ptpAt f = some o) (hon : s.ptpOn m = true) (hsettled : s.settling m = false) :
    s.syncRx m ago f = if s.syncGood m f o then
        (if ptpTwoStep f o then s.syncMissed.modNtm (fun x => { x with sync := some ⟨ptpSeq f o, ptpCorr f o, s.rxStamp m ago⟩ })
          else s.syncMissed.syncAccept m (ptpSeq f o) (ptpTime f o) (ptpCorr f o) (s.rxStamp m ago))
      else s.inc pgNTM Ntm.SYNC_REJECTED := by
  unfold State.syncRx
  simp only [hat, hon, hsettled, Bool.not_true, Bool.false_eq_true, if_false]
  change (if (!s.syncGood m f o) = true then _ else _) = _
  cases s.syncGood m f o <;> rfl

theorem State.followUpRx_completes {y : OpenSync} (hat : ptpAt f = some o) (hy : s.ntm.sync = some y) (hon : s.ptpOn m = true)
    (hslave : s.portState m = 2 ∨ s.portState m = 3) (hparent : s.fromParent f o = true) (hseq : ptpSeq f o = y.seq) :
    s.followUpRx m f = s.syncAccept m y.seq (ptpTime f o) (y.corr + ptpCorr f o) y.rx.toNat := by
  unfold State.followUpRx
  simp only [hat, hy]
  exact if_pos (by simpa [hon, hparent, hseq] using hslave)

/-- The record after an accepted Sync. -/
def NtmState.synchronised (x : NtmState) (seq rx now : Nat) (ms : Int) : NtmState :=
  { x with lastSeq := some seq, sync := none, ms := some ms, lastRx := some rx, synced := now }

theorem State.ntm_sample (kind inst : Nat) (v : Int) : (s.sample kind inst v).ntm = s.ntm :=
  (State.sample_keeps (s.keeps_parts 0x20000000) (Keep.off_of_and (by decide))).ntm_eq

/-- What follows an accepted Sync leaves its record, but for the timestamp queue. -/
theorem State.ntm_syncAccept (seq : Nat) (t1 corr : Int) (rx : Nat) : ∃ q, (s.syncAccept m seq t1 corr rx).ntm
    = { s.ntm.synchronised seq rx s.tln.now (fix16 rx - t1 - corr - 256 * signed 32 (s.nat pgNTM (Ntm.ASYM m))) with tsq := q } := by
  have hpush (a : State) := a.ntm_tsqPush m 0 seq 0 rx
  have hgained (a : State) : a.ptpGained.ntm = a.ntm :=
    (State.ptpGained_keeps (a.keeps_parts 0x20000000) (Keep.off_of_and (by decide))).ntm_eq
  have hservo (a : State) (e : Rat) (i : Option Rat) : (a.servoEvent e i).ntm = a.ntm :=
    (State.servoEvent_keeps (a.keeps_parts 0x20000000) (Keep.off_of_and (by decide))).ntm_eq
  unfold State.syncAccept
  dsimp only
  generalize hs1 : State.modNtm s _ = s1
  have hn1 : s1.ntm = s.ntm.synchronised seq rx s.tln.now (fix16 rx - t1 - corr - 256 * signed 32 (s.nat pgNTM (Ntm.ASYM m))) := by
    rw [← hs1, State.ntm_modNtm, NtmState.synchronised]
  obtain ⟨q, hq⟩ := hpush (s1.inc pgNTM (Ntm.SYNC_RX m))
  rw [State.ntm_inc, hn1] at hq
  refine ⟨q, ?_⟩
  split
  · rw [State.ntm_inc, hq]
  · split
    · rw [hservo, hgained, State.ntm_sample, State.setNat_eq, State.setReg_ntm, hq]
    · rw [hgained, State.ntm_sample, State.setNat_eq, State.setReg_ntm, hq]

/-! ### Delay_Resp (R410, R411) -/

/-- The delay becomes `v`, with its deviation. -/
def State.delayKept (s : State) (m : Nat) (v dev : Rat) : State :=
  ((s.modNtm (fun x => { x with delay := some v, outliers := 0, devs := (dev :: x.devs).take 16 })).setNat pgNTM
    Ntm.MEAN_DELAY (unsign 32 (satSigned 32 (roundOpen 411 v.num v.den)))).ptpUncert m

/-- A delay sample is told to the recorder. -/
abbrev State.delayTold (s : State) (d : Rat) : State := s.sample 2 0 (satSigned 32 (roundOpen 411 d.num d.den))

/-- A sample gives the delay, which the first one is, or counts as an outlier. -/
theorem State.delaySample_cases (d : Rat) :
    (∃ v dev, s.delaySample m d = (s.delayTold d).delayKept m v dev ∧ (s.ntm.delay = none → v = d)) ∨
    (s.delaySample m d = ((s.delayTold d).modNtm (fun x => { x with outliers := x.outliers + 1 })).inc pgNTM Ntm.DELAY_OUTLIERS ∧
      s.ntm.delay ≠ none) := by
  have hsample : (s.delayTold d).ntm = s.ntm := State.ntm_sample _ _ _
  unfold State.delaySample
  extract_lets s1 keep
  split
  · exact .inl ⟨d, 0, rfl, fun _ => rfl⟩
  · next old hold =>
    have hsome : s.ntm.delay = some old := (congrArg NtmState.delay hsample.symm).trans hold
    have hne : s.ntm.delay ≠ none := by simp [hsome]
    extract_lets dev limit
    split
    · split
      · exact .inl ⟨d, dev, rfl, fun h => absurd h hne⟩
      · exact .inr ⟨rfl, hne⟩
    · exact .inl ⟨_, dev, rfl, fun h => absurd h hne⟩

theorem State.ntm_delayKept (v dev : Rat) : (s.delayKept m v dev).ntm
    = { s.ntm with delay := some v, outliers := 0, devs := (dev :: s.ntm.devs).take 16 } := by
  rw [State.delayKept, State.ptpUncert, State.setNat_eq, State.setReg_ntm, State.setNat_eq, State.setReg_ntm, State.ntm_modNtm]

theorem State.ntm_delaySample (d : Rat) : (s.delaySample m d).ntm.req = s.ntm.req ∧
    (s.ntm.delay = none → (s.delaySample m d).ntm.delay = some d) := by
  have hsample : (s.delayTold d).ntm = s.ntm := State.ntm_sample _ _ _
  rcases s.delaySample_cases (m := m) d with ⟨v, dev, hrun, hfirst⟩ | ⟨hrun, hsome⟩
  · rw [hrun, State.ntm_delayKept, hsample]
    exact ⟨rfl, fun h => congrArg some (hfirst h)⟩
  · rw [hrun, State.ntm_inc, State.ntm_modNtm, hsample]
    exact ⟨rfl, fun h => absurd h hsome⟩

theorem State.delayRespRx_matches {q : DelayReq} {ms t3 : Int} (hat : ptpAt f = some o) (hreq : s.ntm.req = some q)
    (hms : s.ntm.ms = some ms) (hsent : q.sent = some t3) (hon : s.ptpOn m = true) (hslave : s.slavePort = some m)
    (hdomain : ptpDomain f o = s.fld pgNTM Ntm.NTM_CTRL Ntm.DOMAIN)
    (hown : beAt f (o + 44) 10 = (s.nat pgNTM Ntm.CLOCK_ID_HI * 2 ^ 32 + s.nat pgNTM Ntm.CLOCK_ID_LO) * 65536 + m + 1)
    (hseq : ptpSeq f o = q.seq) :
    s.delayRespRx m f = (s.modNtm (fun x => { x with req := none })).delaySample m (((ms
      + (ptpTime f o - fix16 t3.toNat - ptpCorr f o + 256 * signed 32 (s.nat pgNTM (Ntm.ASYM m))) : Int) : Rat) / 512) := by
  unfold State.delayRespRx
  simp only [hat, hreq, hms, hsent]
  exact if_pos (by simp [hon, hslave, hdomain, hown, hseq])

end

/-! ### Port states and the loss of the source (R405, R413) -/

/-- What the states of the ports may write: PTP_UNCERT, SLAVE_PORT, PTP_VALID, SYNC_LOST, and what a lost source brings. -/
abbrev portSpans : List Span := regSpan pgNTM Ntm.PTP_UNCERT :: regSpan pgNTM Ntm.SLAVE_PORT ::
  fldSpan pgNTM PAGE_STATUS Ntm.S_PTP_VALID :: fldSpan pgNTM PAGE_FAULT (Ntm.F_SYNC_LOST, Ntm.F_SYNC_LOST) :: lostSpans

theorem irqSpans_subset_port : irqSpans ⊆ portSpans := by decide
theorem lostSpans_subset_port : lostSpans ⊆ portSpans := by decide

section
variable (s : State)

/-- What a source that is lost brings after its status bit. -/
theorem State.sourceLost_within : s.Within (fldSpan pgNTM PAGE_FAULT (Ntm.F_SYNC_LOST, Ntm.F_SYNC_LOST) :: lostSpans)
    (((s.irq 269).fault pgNTM Ntm.F_SYNC_LOST).srcLost 1) :=
  (((State.Within.refl s).irq (by decide)).faultBit pageInfo_pgNTM rfl (by decide) (by decide)).andThen (State.srcLost_within _ 1)
    (List.subset_cons_self _ _)

theorem State.ptpLost_invalid : s.ptpLost.ptpValid = false := by
  by_cases hvalid : s.ptpValid = true
  · have hlost : s.ptpLost = (((s.setSts pgNTM Ntm.S_PTP_VALID 0).irq 269).fault pgNTM Ntm.F_SYNC_LOST).srcLost 1 := by
      rw [State.ptpLost, hvalid]
      rfl
    rw [hlost, State.ptpValid, (State.sourceLost_within _).stsApart (by decide), State.sts_setSts_self _ _ (by decide)]
    rfl
  · rw [Bool.not_eq_true] at hvalid
    rw [State.ptpLost, hvalid]
    exact hvalid

theorem State.ptpLost_within : s.Within portSpans s.ptpLost :=
  (State.Within.refl s).ite (((State.Within.refl s).setSts (by decide)).andThen (State.sourceLost_within _) (by decide))

theorem State.modNtm_within {l : List Span} (f : NtmState → NtmState) : s.Within l (s.modNtm f) :=
  (State.Within.refl s).upd (s.live_modNtm f)

theorem State.calibrate_within (m : Nat) : s.Within portSpans (s.calibrate m) := by
  have hdrop (a : State) : a.Within portSpans a.dropDelay := (a.modNtm_within _).write
  exact ((s.modNtm_within _).trans (hdrop _)).upd (State.live_drawDelay _ _)

theorem State.slaveRefresh_within : s.Within portSpans s.slaveRefresh :=
  (State.Within.refl s).ite ((State.Within.refl s).write.irq irqSpans_subset_port)

/-- The firmware names a port's state. -/
theorem State.portState_portStateWrite {r : Requester} {m : Fin 4} {v : Word} (hr : isHost r = false) (hn : bits v (2, 0) ≠ 7)
    (hslave : decide (bits v (2, 0) = 2 ∨ bits v (2, 0) = 3) = true → s.slavePort.any (fun k => k != m.val) = false) :
    (s.portStateWrite r m.val v).portState m.val = bits v (2, 0) := by
  have hbad : ((bits v (2, 0) == 2 || bits v (2, 0) == 3) && s.slavePort.any (fun k => k != m.val)) = false := by
    by_cases hs : bits v (2, 0) = 2 ∨ bits v (2, 0) = 3
    · rw [hslave (decide_eq_true hs), Bool.and_false]
    · rw [show (bits v (2, 0) == 2 || bits v (2, 0) == 3) = false by simpa using hs, Bool.false_and]
  have hset : (s.setFld pgNTM (Ntm.PORT_STATE m.val) (2, 0) (bits v (2, 0))).portState m.val = bits v (2, 0) := by
    rw [State.portState, State.fld, State.setFld_eq, State.reg_setReg_self, bits_putBits_same _ (by decide)]
    exact Nat.mod_eq_of_lt (Nat.mod_lt _ (by decide))
  have hclear : clearOf portSpans (regKey pgNTM (Ntm.PORT_STATE m.val)) :=
    (show ∀ n : Fin 4, clearOf portSpans (regKey pgNTM (Ntm.PORT_STATE n.val)) by decide +kernel) m
  have hframe (a b : State) (h : a.Within portSpans b) : b.portState m.val = a.portState m.val := h.fld hclear _
  unfold State.portStateWrite
  simp only [hr, Bool.false_eq_true, if_false, if_neg hn, hbad]
  refine (hframe _ _ ?_).trans hset
  have hcal (a b : State) (h : a.Within portSpans b) := h.trans (b.calibrate_within m.val)
  have hentered := State.Within.refl (l := portSpans) (s.setFld pgNTM (Ntm.PORT_STATE m.val) (2, 0) (bits v (2, 0)))
  refine State.Within.trans (State.Within.ite (State.Within.trans ?_ ((State.ptpLost_within _).trans (State.modNtm_within _ _))) ?_)
    (State.slaveRefresh_within _)
  · exact (hcal _ _ hentered).ite ((hcal _ _ hentered).ite hentered)
  · exact (hcal _ _ hentered).ite ((hcal _ _ hentered).ite hentered)

theorem exec_portStateWrite {s : State} (h : s.reaches (pgNTM + 1) = true) (r : Requester) (m : Fin 4) (v : Word) :
    exec (.portStateWrite r m v) s = .next (s.counted.portStateWrite r m.val v) :=
  congrArg Host.Outcome.next (State.gate_eq h _)

theorem State.syncLoss_due {s a : State} {m : Nat} (hslave : s.slavePort = some m) (hvalid : s.ptpValid = true)
    (ha : s.reach (s.ntm.synced + max 1 (s.fld pgNTM Ntm.DELAY_CTRL Ntm.SYNC_LOSS) * logUnits (s.logOf m Ntm.LOG_SYNC) * 2 ^ 48 / LU)
      = some a) : s.syncLoss = a.ptpLost := by
  simp only [State.syncLoss, hslave, hvalid, Bool.not_true, Bool.false_eq_true, if_false]
  exact State.atTime_reached ha _

end

/-- A frame that comes while ACLK runs. -/
theorem ifClocked {s : State} (haclk : s.aclkRuns = true) (t : State) :
    (Host.Outcome.next (if s.aclkRuns then t else s) : Host.Outcome State Fault Refusal) = .next t := by
  rw [if_pos haclk]

end Sys2Proof.Machine

open Sys2Proof Sys2Proof.Machine

/-- Settles O33: each message by what its acceptance leaves of the record. -/
theorem networkTimeReceives : Obligations.NetworkTimeReceives := by
  refine ⟨fun s m ago f o => ?_, fun s m ago f o => ?_, fun s m f o y haclk hat hy hon hslave hparent hseq => ?_,
    fun s m seq rx t1 corr => ?_, fun s m f o q ms t3 => ?_, fun s a m => ?_, fun s r m v => ?_⟩
  · intro sec n haclk hat hon hsettled hmaster hdomain
    refine ⟨fun hfew => ?_, fun hmany => ?_⟩
    · obtain ⟨d, u, hrun⟩ := State.delayReqRx_takes (ago := ago) hat hon hsettled hmaster hdomain hfew
      obtain ⟨q, hq⟩ := (s.answer m.val d).ntm_tsqPush m.val 1 (ptpSeq f o) 0 u
      rw [State.answer, State.ntm_modNtm] at hq
      refine ⟨_, d, (ifClocked haclk _).trans (congrArg Host.Outcome.next hrun), ?_, ?_, ?_⟩
      · rw [State.answer, hq]
      · rw [State.answer, hq]
        exact Tab.get_of_set _ rfl
      · rw [State.answer, hq]
        exact Tab.get_of_set _ rfl
    · exact (ifClocked haclk _).trans (congrArg Host.Outcome.next (State.delayReqRx_excess hat hon hsettled hmaster hdomain hmany))
  · intro rx seq haclk hat hon hsettled
    have hrun : exec (.ptpSyncRx m ago f) s = .next _ :=
      (ifClocked haclk _).trans (congrArg Host.Outcome.next (State.syncRx_eq (ago := ago) hat hon hsettled))
    refine ⟨fun hslave hparent hlater => ?_, fun hbad => ?_⟩
    · rw [if_pos (State.syncGood_iff.2 ⟨hslave, hparent, hlater⟩)] at hrun
      refine ⟨fun htwo => ?_, fun hone => ?_⟩
      · rw [if_pos htwo] at hrun
        exact ⟨_, hrun, by rw [State.ntm_modNtm]⟩
      · rw [if_neg (by rw [hone]; decide)] at hrun
        exact hrun
    · rw [if_neg (by rw [State.syncGood_iff]; rintro ⟨hslave, hparent, hlater⟩; simp [hparent, seq, hlater] at hbad; omega)] at hrun
      exact hrun
  · exact (ifClocked haclk _).trans (congrArg Host.Outcome.next (State.followUpRx_completes hat hy hon hslave hparent hseq))
  · intro t
    obtain ⟨q, hq⟩ := State.ntm_syncAccept (s := s) (m := m) seq t1 corr rx
    rw [hq]
    exact ⟨rfl, rfl, rfl, rfl⟩
  · intro own sm haclk hat hreq hms hsent hon hslave hdomain hown hseq
    obtain ⟨hleft, hfirst⟩ := State.ntm_delaySample (s := s.modNtm (fun x => { x with req := none })) (m := m.val)
      (((ms + sm : Int) : Rat) / 512)
    rw [State.ntm_modNtm] at hleft hfirst
    exact ⟨_, (ifClocked haclk _).trans (congrArg Host.Outcome.next
      (State.delayRespRx_matches hat hreq hms hsent hon hslave hdomain hown hseq)), hleft, hfirst⟩
  · intro n hslave hvalid ha
    exact ⟨_, congrArg Host.Outcome.next (State.syncLoss_due hslave hvalid ha), a.ptpLost_invalid⟩
  · intro a n slave hreaches
    have hrun := exec_portStateWrite hreaches r m v
    refine ⟨fun hhost => ?_, fun hfirm hn hslave => ⟨_, hrun, ?_⟩, fun hfirm hn => ?_, fun hfirm hs hother => ?_⟩
    · rw [hrun, State.portStateWrite, if_pos hhost]
    · exact s.counted.portState_portStateWrite hfirm hn hslave
    · rw [hrun, State.portStateWrite]
      simp only [hfirm, Bool.false_eq_true, if_false]
      rw [if_pos hn]
    · have hne : bits v (2, 0) ≠ 7 := by
        have := of_decide_eq_true hs
        omega
      have hbad : ((bits v (2, 0) == 2 || bits v (2, 0) == 3) && s.counted.slavePort.any (fun k => k != m.val)) = true := by
        rw [Bool.and_eq_true]
        exact ⟨by simpa using of_decide_eq_true hs, hother⟩
      rw [hrun, State.portStateWrite]
      simp only [hfirm, Bool.false_eq_true, if_false, if_neg hne, hbad, if_true]
      rfl

end

section
/-!
The rails of the Stile: what a change of role and a message to the partner leave of the pair's state, and O38.
-/
set_option Elab.async false
namespace Sys2Proof.Machine

/-! ### The parts of the pair's state that messages leave -/

/-- The pair's state without the queues of messages, the synchronisation's own parts and the scene. -/
def RedState.rails (r : RedState) : RedState :=
  { r with txNext := 0, unacked := [], copying := false, syncedSince := none, ownDigests := [], peerDigests := [], cutover := none,
           convergeAt := none, asked := false, scene := [] }

section
variable {s t u : State}

/-- The rails, the claim, a planned swap and the lanes are as before. -/
structure State.SameRails (s t : State) : Prop where
  same : t.red.rails = s.red.rails

theorem State.SameRails.refl (s : State) : s.SameRails s := ⟨rfl⟩
theorem State.SameRails.trans (h : s.SameRails t) (g : t.SameRails u) : s.SameRails u := ⟨g.same.trans h.same⟩
theorem State.SameRails.upd (h : s.SameRails t) (hred : u.red = t.red) : s.SameRails u :=
  ⟨(congrArg RedState.rails hred).trans h.same⟩

theorem State.SameRails.setReg (h : s.SameRails t) {page off : Nat} {v : Word} : s.SameRails (t.setReg page off v) :=
  h.upd (State.setReg_red _ _ _ _)

theorem State.SameRails.ite {p : Prop} [Decidable p] (h : s.SameRails t) (g : s.SameRails u) : s.SameRails (if p then t else u) := by
  split
  · exact h
  · exact g

theorem State.SameRails.foldl {α : Type} {f : State → α → State} {l : List α} (h : s.SameRails t)
    (hf : ∀ x ∈ l, ∀ a : State, a.SameRails (f a x)) : s.SameRails (l.foldl f t) :=
  List.foldlRecOn (motive := s.SameRails) _ _ h fun a ha x hx => ha.trans (hf x hx a)

theorem State.SameRails.own (h : s.SameRails t) : t.red.own = s.red.own :=
  show t.red.rails.own = s.red.rails.own from congrArg RedState.own h.same
theorem State.SameRails.peer (h : s.SameRails t) : t.red.peer = s.red.peer :=
  show t.red.rails.peer = s.red.rails.peer from congrArg RedState.peer h.same
theorem State.SameRails.claiming (h : s.SameRails t) : t.red.claiming = s.red.claiming :=
  show t.red.rails.claiming = s.red.rails.claiming from congrArg RedState.claiming h.same
theorem State.SameRails.plan (h : s.SameRails t) : t.red.plan = s.red.plan :=
  show t.red.rails.plan = s.red.rails.plan from congrArg RedState.plan h.same
theorem State.SameRails.pathCheck (h : s.SameRails t) : t.red.pathCheck = s.red.pathCheck :=
  show t.red.rails.pathCheck = s.red.rails.pathCheck from congrArg RedState.pathCheck h.same
theorem State.SameRails.lastSwap (h : s.SameRails t) : t.red.lastSwap = s.red.lastSwap :=
  show t.red.rails.lastSwap = s.red.rails.lastSwap from congrArg RedState.lastSwap h.same
theorem State.SameRails.wanted (h : s.SameRails t) : t.red.wanted = s.red.wanted :=
  show t.red.rails.wanted = s.red.rails.wanted from congrArg RedState.wanted h.same
theorem State.SameRails.skipLocal (h : s.SameRails t) : t.red.skipLocal = s.red.skipLocal :=
  show t.red.rails.skipLocal = s.red.rails.skipLocal from congrArg RedState.skipLocal h.same

end

section
variable (s : State)

theorem State.red_trigger (code page : Nat) : (s.trigger code page).red = s.red :=
  (State.trigger_keeps (s.keeps_parts 0x2000000) (Keep.off_of_and (by decide))).red_eq

theorem State.red_count (n k : Nat) : (s.count n k).red = s.red :=
  (State.count_keeps (s.keeps_parts 0x2000000) (Keep.off_of_and (by decide))).red_eq

theorem State.red_irq (k : Nat) : (s.irq k).red = s.red :=
  (State.irq_keeps (s.keeps_parts 0x2000000) (Keep.off_of_and (by decide))).red_eq

theorem State.red_fault (page n : Nat) : (s.fault page n).red = s.red :=
  (State.fault_keeps (s.keeps_parts 0x2000000) (Keep.off_of_and (by decide))).red_eq

theorem State.red_pinsRefresh : s.pinsRefresh.red = s.red :=
  (State.pinsRefresh_keeps (s.keeps_parts 0x2000000) (Keep.off_of_and (by decide))).red_eq

theorem State.red_roleSource : s.roleSource.red = s.red :=
  (State.roleSource_keeps (s.keeps_parts 0x2000000) (Keep.off_of_and (by decide))).red_eq

theorem State.red_alignRefresh : s.alignRefresh.red = s.red :=
  (State.alignRefresh_keeps (s.keeps_parts 0x2000000) (Keep.off_of_and (by decide))).red_eq

theorem State.red_dmxRefresh (k : Nat) : (s.dmxRefresh k).red = s.red :=
  (State.dmxRefresh_keeps (s.keeps_parts 0x2000000) (Keep.off_of_and (by decide))).red_eq

theorem State.red_rdmCut (k : Nat) (hold : Bool) : (s.rdmCut k hold).red = s.red :=
  (State.rdmCut_keeps (s.keeps_parts 0x2000000) (Keep.off_of_and (by decide))).red_eq

theorem State.setRed_rails {r : RedState} (h : r.rails = s.red.rails) : s.SameRails (s.setRed r) := ⟨h⟩

theorem State.tsxQueue_rails (type plane : Nat) (payload : List Byte) : s.SameRails (s.tsxQueue type plane payload) := by
  have hput (a : State) (lane : Nat) (f : TsxFrame) : a.SameRails (a.tsxPut lane f) :=
    State.SameRails.upd (.refl a) (State.red_count _ _ _)
  have hqueue (n : Nat) (l : List TsxFrame) : s.SameRails { s with red := { s.red with txNext := n, unacked := l } } := ⟨rfl⟩
  exact (hqueue _ _).trans (State.SameRails.upd (hput _ _ _) rfl)

theorem State.tsxBreak_rails : s.SameRails s.tsxBreak := by
  have hdrop (l : List TsxFrame) : s.SameRails { s with red := { s.red with unacked := l, copying := false } } := ⟨rfl⟩
  have hback (a : State) : a.SameRails a.tsxBacklog := ⟨rfl⟩
  have hreport (a : State) : a.SameRails (((a.inc pgRED Red.BREAKS).fault pgRED Red.F_BREAK).trigger 0xE07 pgRED) :=
    State.SameRails.upd (State.SameRails.upd (t := a.inc pgRED Red.BREAKS) ⟨rfl⟩ (State.red_fault _ _ _)) (State.red_trigger _ _ _)
  exact State.SameRails.trans (State.SameRails.ite ((hdrop _).trans (State.tsxQueue_rails _ _ _ _)) ((hdrop _).trans (hback _)))
    (hreport _)

theorem State.tsxSend_rails (type plane : Nat) (payload : List Byte) : s.SameRails (s.tsxSend type plane payload) := by
  have hsent := s.tsxQueue_rails type plane payload
  exact (State.SameRails.refl s).ite ((hsent.trans (State.tsxBreak_rails _)).ite hsent)

theorem State.tell_rails (type : Nat) (payload : List Byte) : s.SameRails (s.tell type payload) :=
  (s.tsxSend_rails type 0 payload).ite (.refl s)

theorem State.setSync_rails (n : Nat) : s.SameRails (s.setSync n) := by
  have hset (r : RedState) (h : r.rails = s.red.rails) : s.SameRails (((s.setRed r).setSts pgRED Red.S_SYNC_STATE n).irq 342) :=
    State.SameRails.upd (t := (s.setRed r).setSts pgRED Red.S_SYNC_STATE n) ⟨h⟩ (State.red_irq _ _)
  unfold State.setSync
  split
  · exact .refl s
  · exact hset _ rfl

theorem State.syncRefresh_rails : s.SameRails s.syncRefresh := (s.setSync_rails _).ite (.refl s)

theorem State.unsync_rails : s.SameRails s.unsync := (s.setSync_rails 0).ite (.refl s)

theorem State.rdmDone_rails (k n : Nat) : s.SameRails (s.rdmDone k n) := by
  have hset : s.SameRails ((s.setOutcome k n).setSts (pgDMX k) Dmx.S_RDM_DONE 1) := (State.SameRails.refl s).setReg.setReg
  have hdone : s.SameRails ((((s.setOutcome k n).setSts (pgDMX k) Dmx.S_RDM_DONE 1).irq (208 + k)).count (512 + 4 * k + 2) 1) :=
    (hset.upd (State.red_irq _ _)).upd (State.red_count _ _ _)
  exact hdone.trans (State.tell_rails _ _ _)

theorem State.rdmAbort_rails (k : Nat) : s.SameRails (s.rdmAbort k) := by
  have hcut : s.SameRails (if s.rdmOutcome k = 2 then s.rdmCut k false else s) :=
    State.SameRails.ite (State.SameRails.upd (.refl s) (State.red_rdmCut _ _ _)) (.refl s)
  exact (State.SameRails.upd (hcut.trans (State.rdmDone_rails _ _ _)) (State.red_dmxRefresh _ _)).ite (.refl s)

theorem State.roleOutputs_rails (lost : Bool) : s.SameRails (s.roleOutputs lost) := by
  have hrdm : s.SameRails ((List.range 12).foldl State.rdmAbort s) := (State.SameRails.refl s).foldl fun k _ a => a.rdmAbort_rails k
  have hfield (a : State) (k : Nat) (x : FieldState) : a.SameRails (a.setField k x) := ⟨rfl⟩
  have hpx (a : State) (k : Nat) : a.SameRails (a.pxSampling k) :=
    State.SameRails.upd (.refl a) (State.pxSampling_keeps (a.keeps_parts 0x2000000) (Keep.off_of_and (by decide))).red_eq
  exact (hrdm.foldl fun k _ a => (hfield a k _).ite (.refl a)).ite (hrdm.foldl fun k _ a => hpx a k)

/-! ### The registers that a change of role may write -/

/-- What a change of role brings beside the rails themselves. -/
abbrev roleSpans : List Span := fldSpan pgRED PAGE_STATUS Red.S_SYNC_STATE :: (pinSpans ++ tellSpans ++ timeSpans)

theorem irqSpans_subset_role : irqSpans ⊆ roleSpans := by decide
theorem pinSpans_subset_role : pinSpans ⊆ roleSpans := by decide
theorem tellSpans_subset_role : tellSpans ⊆ roleSpans := by decide
theorem trigSpans_subset_role : trigSpans ⊆ roleSpans := by decide
theorem countSpans_subset_role : countSpans ⊆ roleSpans := by decide
theorem timeSpans_subset_role : timeSpans ⊆ roleSpans := by decide
theorem syncSpans_subset_role : syncSpans ⊆ roleSpans := by decide

theorem State.rdmCut_within {l : List Span} (k : Nat) (hold : Bool) : s.Within l (s.rdmCut k hold) := by
  have hdmx (a : State) (x : DmxState) : a.Within l (a.setDmx k x) := (State.Within.refl a).upd rfl
  unfold State.rdmCut
  dsimp only
  split
  · exact .refl s
  · exact ((State.Within.refl s).ite ((s.wireHolds_within _ _).trans (State.wireHolds_within _ _ _))).trans (hdmx _ _)

theorem State.rdmDone_within {k : Nat} (hk : k < 12) (n : Nat) : s.Within roleSpans (s.rdmDone k n) := by
  have hset (a : State) (off : Nat) (v : Word) (hoff : off < 0x1000) : a.Within roleSpans (a.setReg (pgDMX k) off v) :=
    (State.Within.refl a).setPage (p := 0x100) (q := 0x150) (by decide) (by simp only [pgDMX]; omega) (by simp only [pgDMX]; omega) hoff
  have hdone : s.Within roleSpans
      ((((s.setOutcome k n).setSts (pgDMX k) Dmx.S_RDM_DONE 1).irq (208 + k)).count (512 + 4 * k + 2) 1) :=
    (((hset s Dmx.RDM_RESULT _ (by decide)).trans (hset _ PAGE_STATUS _ (by decide))).irq irqSpans_subset_role).count
      countSpans_subset_role
  exact hdone.andThen (State.tell_within _ _ _) tellSpans_subset_role

theorem State.rdmAbort_within {k : Nat} (hk : k < 12) : s.Within roleSpans (s.rdmAbort k) := by
  have hcut : s.Within roleSpans (if s.rdmOutcome k = 2 then s.rdmCut k false else s) := (s.rdmCut_within k false).ite (.refl s)
  exact ((hcut.trans (State.rdmDone_within _ hk 7)).andThen (State.dmxRefresh_within _ hk) pinSpans_subset_role).ite (.refl s)

theorem State.roleOutputs_within (lost : Bool) : s.Within roleSpans (s.roleOutputs lost) := by
  have hrdm : s.Within roleSpans ((List.range 12).foldl State.rdmAbort s) :=
    (State.Within.refl s).foldl fun _ hk a => a.rdmAbort_within (List.mem_range.1 hk)
  have hfield (a : State) (k : Nat) (x : FieldState) : a.Within roleSpans (a.setField k x) := (State.Within.refl a).upd rfl
  have hport (a : State) (k : Nat) (x : PortState) : a.Within roleSpans (a.setPort k x) := (State.Within.refl a).upd rfl
  exact (hrdm.foldl fun k _ a => (hfield a k _).ite (.refl a)).ite (hrdm.foldl fun k _ a => (State.Within.refl a).ite (hport a _ _))

theorem State.roleSource_within : s.Within timeSpans s.roleSource := by
  have hset (v w : Word) : s.Within timeSpans ((s.setReg pgTLN Tln.TL_MODE v).setShd pgTLN Tln.TL_MODE w) :=
    (State.Within.setTln (.refl s)).upd rfl
  exact (State.Within.refl s).ite (((hset _ _).trans (State.tlnCommitted_within _ _)).trans (State.alignRefresh_within _))

/-- What follows a change of role. -/
def State.roleTaken (s : State) (lost : Bool) : State :=
  (((s.roleOutputs lost).trigger 0xE01 pgRED).count 1477 1).roleSource.syncRefresh.pinsRefresh

theorem State.roleTaken_within (lost : Bool) : s.Within roleSpans (s.roleTaken lost) :=
  (((((s.roleOutputs_within lost).andThen (State.trigger_within _ _ _) trigSpans_subset_role).count countSpans_subset_role).andThen
    (State.roleSource_within _) timeSpans_subset_role).andThen (State.syncRefresh_within _) syncSpans_subset_role).andThen
    (State.pinsRefresh_within _) pinSpans_subset_role

theorem State.roleTaken_rails (lost : Bool) : s.SameRails (s.roleTaken lost) :=
  State.SameRails.upd (State.SameRails.trans (State.SameRails.upd (State.SameRails.upd (State.SameRails.upd (s.roleOutputs_rails lost)
    (State.red_trigger _ _ _)) (State.red_count _ _ _)) (State.red_roleSource _)) (State.syncRefresh_rails _)) (State.red_pinsRefresh _)

/-! ### A change of the rails -/

/-- What a change of the rails may write. -/
abbrev railSpans : List Span := fldSpan pgRED PAGE_STATUS Red.S_STILE_STATE :: fldSpan pgRED PAGE_STATUS Red.S_ROLE ::
  fldSpan pgRED Red.PAIR_STATE Red.OWN_RAIL :: fldSpan pgRED Red.PAIR_STATE Red.PEER_RAIL :: roleSpans

theorem irqSpans_subset_rail : irqSpans ⊆ railSpans := by decide
theorem roleSpans_subset_rail : roleSpans ⊆ railSpans := by decide

/-- PAIR_STATE follows the rails. -/
def State.railsRead (s : State) (r : RedState) : State :=
  ((s.setRed { r with peerSeen := r.peerSeen || r.peer }).setFld pgRED Red.PAIR_STATE Red.OWN_RAIL
    (if r.own then 1 else 0)).setFld pgRED Red.PAIR_STATE Red.PEER_RAIL (if r.peer then 1 else 0)

/-- STILE_STATE and ROLE follow the rails. -/
def State.stileTold (s : State) (n : Nat) : State :=
  ((s.setSts pgRED Red.S_STILE_STATE n).setSts pgRED Red.S_ROLE (if n = 1 then 1 else 0)).irq 341

variable (r : RedState)

theorem State.setRails_eq : s.setRails r
    = if s.sts pgRED Red.S_STILE_STATE = r.stile then s.railsRead r
      else if s.sts pgRED Red.S_STILE_STATE = 1 ∨ r.stile = 1 then
        ((s.railsRead r).stileTold r.stile).roleTaken (s.sts pgRED Red.S_STILE_STATE == 1)
      else (s.railsRead r).stileTold r.stile := rfl

theorem State.railsRead_within : s.Within railSpans (s.railsRead r) := by
  have hred : s.Within railSpans (s.setRed { r with peerSeen := r.peerSeen || r.peer }) := s.setRed_within _
  exact (hred.setFld (by decide)).setFld (by decide)

theorem State.stileTold_within (n : Nat) : s.Within railSpans (s.stileTold n) :=
  (((State.Within.refl s).setSts (by decide)).setSts (by decide)).irq irqSpans_subset_rail

theorem State.setRails_within : s.Within railSpans (s.setRails r) := by
  have hread := s.railsRead_within r
  have htold := hread.trans (State.stileTold_within _ r.stile)
  rw [State.setRails_eq]
  exact hread.ite ((htold.andThen (State.roleTaken_within _ _) roleSpans_subset_rail).ite htold)

theorem State.red_stileTold (n : Nat) : (s.stileTold n).red = s.red := by
  rw [State.stileTold, State.red_irq, State.setSts_eq, State.setReg_red, State.setSts_eq, State.setReg_red]

/-- The rails, and what stands beside them, are those given. -/
theorem State.setRails_rails : (s.railsRead r).SameRails (s.setRails r) := by
  have htold : (s.railsRead r).SameRails ((s.railsRead r).stileTold r.stile) := State.SameRails.upd (.refl _) (State.red_stileTold _ _)
  rw [State.setRails_eq]
  exact (State.SameRails.refl _).ite ((htold.trans (State.roleTaken_rails _ _)).ite htold)

theorem RedState.stile_lt : r.stile < 4 := by
  unfold RedState.stile
  split
  · decide
  · split <;> decide

/-- STILE_STATE reads what the rails are. -/
theorem State.stile_setRails : (s.setRails r).sts pgRED Red.S_STILE_STATE = r.stile := by
  have htold (a : State) : (a.stileTold r.stile).sts pgRED Red.S_STILE_STATE = r.stile := by
    have hrole : (a.setSts pgRED Red.S_STILE_STATE r.stile).Within (fldSpan pgRED PAGE_STATUS Red.S_ROLE :: irqSpans)
        (a.stileTold r.stile) := ((State.Within.refl _).setSts (by decide)).irq (List.subset_cons_self _ _)
    have hset : (a.setSts pgRED Red.S_STILE_STATE r.stile).sts pgRED Red.S_STILE_STATE = r.stile % 2 ^ (1 + 1) :=
      State.sts_setSts_self a pgRED (by decide) _
    exact (hrole.stsApart (by decide)).trans (hset.trans (Nat.mod_eq_of_lt r.stile_lt))
  rw [State.setRails_eq]
  split
  · next hsame =>
    have hread : s.Within [fldSpan pgRED Red.PAIR_STATE Red.OWN_RAIL, fldSpan pgRED Red.PAIR_STATE Red.PEER_RAIL] (s.railsRead r) := by
      have hred : s.Within [fldSpan pgRED Red.PAIR_STATE Red.OWN_RAIL, fldSpan pgRED Red.PAIR_STATE Red.PEER_RAIL]
        (s.setRed { r with peerSeen := r.peerSeen || r.peer }) := s.setRed_within _
      exact (hred.setFld (by decide)).setFld (by decide)
    exact (hread.stsApart (by decide)).trans hsame
  · split
    · exact ((State.roleTaken_within _ _).stsApart (by decide)).trans (htold _)
    · exact htold _

theorem State.stileHeld_setRails : (s.setRails r).stileHeld = (r.stile == 1) := by
  rw [State.stileHeld, State.stile_setRails]

end

end Sys2Proof.Machine
end

section
/-!
The Stile's claims, releases and FALLBACK (R529 to R537, R562), and O38.
-/
set_option Elab.async false
namespace Sys2Proof.Machine

section
variable (s : State)

/-! ### FALLBACK leaves the rails (R562) -/

/-- What entering FALLBACK may write: FALLBACK itself and the Swaths. -/
abbrev fallbackSpans : List Span := [fldSpan pgRED PAGE_STATUS Red.S_FALLBACK, pageSpan 0x40 0x80]

theorem State.setPort_within {l : List Span} (key : Nat) (p : PortState) : s.Within l (s.setPort key p) := (State.Within.refl s).upd rfl

theorem State.setSwath_within {l : List Span} (k : Nat) (w : SwtState) : s.Within l (s.setSwath k w) := (State.Within.refl s).upd rfl

theorem State.scenePx_within {l : List Span} (d : List Byte) (g j : Nat) : s.Within l (s.scenePx d g j) :=
  (s.setPort_within _ _).ite ((s.setBytes_within _ _).trans (State.setPort_within _ _ _))

theorem State.sceneDmx_within {l : List Span} (d : List Byte) (g j : Nat) : s.Within l (s.sceneDmx d g j) :=
  (s.setPort_within _ _).ite (s.setPort_within _ _)

theorem State.showScene_within {l : List Span} (k g : Nat) : s.Within l (s.showScene k g) :=
  State.Within.trans (State.Within.foldl (State.Within.foldl (State.Within.foldl (State.Within.refl s) fun _ _ a => a.scenePx_within _ _ _)
    fun _ _ a => a.sceneDmx_within _ _ _) fun _ _ a => a.setPort_within _ _) (State.setRed_within _ _)

theorem State.cancelStarts_within {k : Nat} (hk : k < 16) : s.Within fallbackSpans (s.cancelStarts k) := by
  obtain ⟨w, -, heq⟩ := s.cancelStarts_eq k
  have hset (a : State) (off : Nat) (v : Word) (hoff : off < 0x1000) : a.Within fallbackSpans (a.setReg (pgSWT k) off v) :=
    (State.Within.refl a).setPage (p := 0x40) (q := 0x80) (by decide) (by simp only [pgSWT]; omega) (by simp only [pgSWT]; omega) hoff
  have htimes (a : State) (v : TimeVal) : a.Within fallbackSpans (a.setTimeRegs (pgSWT k) Swt.NEXT_START_S_LO v) :=
    (((hset a _ _ (by decide)).trans (hset _ _ _ (by decide))).trans (hset _ _ _ (by decide))).trans (hset _ _ _ (by decide))
  have hnext (a : State) : a.Within fallbackSpans (a.nextStartRegs k) := by
    unfold State.nextStartRegs
    split
    · exact hset a _ _ (by decide)
    · exact (htimes a _).trans (hset _ _ _ (by decide))
  have hlaunch (a : State) (key : Nat) (x : List Launch) : a.Within fallbackSpans (a.setLaunches key x) := (State.Within.refl a).upd rfl
  rw [heq]
  exact ((s.setSwath_within k w).trans (hnext _)).trans ((State.Within.refl _).foldl fun _ _ a => hlaunch a _ _)

theorem State.fallbackSwath_within {k : Nat} (hk : k < 16) : s.Within fallbackSpans (s.fallbackSwath k) := by
  have hcancel := s.cancelStarts_within hk
  exact (State.Within.refl s).ite ((hcancel.trans (State.setSwath_within _ _ _)).ite
    ((hcancel.trans (State.showScene_within _ _ _)).trans (State.setSwath_within _ _ _)))

theorem State.enterFallback_within : s.Within fallbackSpans s.enterFallback := by
  have hset : s.Within fallbackSpans (s.setSts pgRED Red.S_FALLBACK 1) := (State.Within.refl s).setSts (by decide)
  exact hset.foldl fun _ hk a => a.fallbackSwath_within (List.mem_range.1 hk)

theorem State.showScene_rails (k g : Nat) : s.SameRails (s.showScene k g) := by
  have hpx (a : State) (l : List Byte) (j : Nat) : a.SameRails (a.scenePx l g j) :=
    (State.SameRails.refl a).upd (State.scenePx_keeps (a.keeps_parts 0x2000000) (Keep.off_of_and (by decide))).red_eq
  have hdmx (a : State) (l : List Byte) (j : Nat) : a.SameRails (a.sceneDmx l g j) :=
    (State.SameRails.refl a).upd (State.sceneDmx_keeps (a.keeps_parts 0x2000000) (Keep.off_of_and (by decide))).red_eq
  have hlcl (a : State) (l : List Byte) (n : Nat) : a.SameRails (a.sceneLcl l g n) :=
    (State.SameRails.refl a).upd (State.sceneLcl_keeps (a.keeps_parts 0x2000000) (Keep.off_of_and (by decide))).red_eq
  have hscene (a : State) (l : List Nat) : a.SameRails (a.setRed { a.red with scene := l }) := ⟨rfl⟩
  exact State.SameRails.trans (State.SameRails.foldl (State.SameRails.foldl (State.SameRails.foldl (.refl s) fun j _ a => hpx a _ j)
    fun j _ a => hdmx a _ j) fun n _ a => hlcl a _ n) (hscene _ _)

theorem State.fallbackSwath_rails (k : Nat) : s.SameRails (s.fallbackSwath k) := by
  have hcancel : s.SameRails (s.cancelStarts k) :=
    (State.SameRails.refl s).upd (State.cancelStarts_keeps (s.keeps_parts 0x2000000) (Keep.off_of_and (by decide))).red_eq
  have hswath (a : State) (w : SwtState) : a.SameRails (a.setSwath k w) := ⟨rfl⟩
  exact (State.SameRails.refl s).ite ((hcancel.trans (hswath _ _)).ite ((hcancel.trans (State.showScene_rails _ _ _)).trans (hswath _ _)))

theorem State.enterFallback_rails : s.SameRails s.enterFallback := by
  have hset : s.SameRails (s.setSts pgRED Red.S_FALLBACK 1) := (State.SameRails.refl s).setReg
  exact hset.foldl fun k _ a => a.fallbackSwath_rails k

/-! ### Faults and counts of the pair -/

theorem State.stileHeld_congr {s t : State} (h : t.sts pgRED Red.S_STILE_STATE = s.sts pgRED Red.S_STILE_STATE) :
    t.stileHeld = s.stileHeld := by rw [State.stileHeld, h, State.stileHeld]

/-- A fault of the pair and its record. -/
theorem State.fault_trigger_within {n : Nat} (code : Nat) (hn : n < 32 := by decide) :
    s.Within (fldSpan pgRED PAGE_FAULT (n, n) :: trigSpans) ((s.fault pgRED n).trigger code pgRED) :=
  ((State.Within.refl s).faultBit pageInfo_pgRED rfl List.mem_cons_self
    (List.Subset.trans irqSpans_subset_trig (List.subset_cons_self _ _)) hn).andThen (State.trigger_within _ _ _) (List.subset_cons_self _ _)

theorem State.red_fault_trigger (n code : Nat) : ((s.fault pgRED n).trigger code pgRED).red = s.red := by
  rw [State.red_trigger, State.red_fault]

/-- What a planned swap without PATH_FAULT counts and marks. -/
abbrev swapSpans : List Span := regSpan pgRED Red.SWAP_COUNT :: fldSpan pgRED PAGE_STATUS Red.S_DRILL_DUE :: countSpans

theorem State.swapDone_within : s.Within swapSpans s.swapDone := by
  have hcount : s.Within swapSpans (((s.inc pgRED Red.SWAP_COUNT).irq 344).count 1480 1) :=
    ((State.Within.refl s).write.irq (by decide)).count (by decide)
  exact (hcount.trans (State.setRed_within _ _)).setSts (by decide)

theorem State.red_swapDone : s.swapDone.red = { s.red with lastSwap := some s.tln.now } := by
  have hsame := ((s.inc pgRED Red.SWAP_COUNT).irq_same 344).count.trans (State.count_same _ 1480 1)
  rw [State.swapDone, State.setSts_eq, State.setReg_red]
  show { (((s.inc pgRED Red.SWAP_COUNT).irq 344).count 1480 1).red with
    lastSwap := some (((s.inc pgRED Red.SWAP_COUNT).irq 344).count 1480 1).tln.now } = _
  rw [hsame.red, hsame.tln]
  rfl

end

/-! ### The events of the Stile -/

section
variable {s a : State}

theorem RedState.stile_held (r : RedState) : (r.stile == 1) = (r.own && !r.claiming && !r.peer) := by
  unfold RedState.stile
  cases r.own <;> cases r.claiming <;> cases r.peer <;> rfl

theorem State.stileHeld_setRails_iff (r : RedState) : (s.setRails r).stileHeld = (r.own && !r.claiming && !r.peer) :=
  s.stileHeld_setRails r ▸ r.stile_held

theorem State.own_setRails (s : State) (r : RedState) : (s.setRails r).red.own = r.own := (s.setRails_rails r).own
theorem State.peer_setRails (s : State) (r : RedState) : (s.setRails r).red.peer = r.peer := (s.setRails_rails r).peer
theorem State.claiming_setRails (s : State) (r : RedState) : (s.setRails r).red.claiming = r.claiming := (s.setRails_rails r).claiming

theorem State.releaseStile_own (hown : s.red.own = true) :
    s.releaseStile = s.setRails { s.red with own := false, claiming := false, holdoffFrom := s.tln.now } := if_pos hown

/-- SYNC_STATE does not move the rails. -/
theorem State.setSync_stile (s : State) (n : Nat) : (s.setSync n).stileHeld = s.stileHeld :=
  State.stileHeld_congr ((s.setSync_within n).stsApart (by decide))

theorem State.setSync_ite (s : State) {p : Prop} [Decidable p] (n : Nat) :
    s.SameRails (if p then s.setSync n else s) ∧ (if p then s.setSync n else s).stileHeld = s.stileHeld := by
  split
  · exact ⟨s.setSync_rails n, s.setSync_stile n⟩
  · exact ⟨.refl s, rfl⟩

theorem State.peerFall_rails (hpeer : s.red.peer = true) : s.peerFall.red.peer = false ∧
    s.peerFall.red.own = (s.red.own || s.mayFastClaim) ∧
      s.peerFall.stileHeld = ((s.red.own || s.mayFastClaim) && !s.red.claiming) := by
  have hfall (t : State) (ht : t = s.setRails { s.red with peer := false, holdoffFrom := s.tln.now, own := s.red.own || s.mayFastClaim }) :
      t.red.peer = false ∧ t.red.own = (s.red.own || s.mayFastClaim) ∧
        t.stileHeld = ((s.red.own || s.mayFastClaim) && !s.red.claiming) := by
    subst ht
    exact ⟨State.peer_setRails _ _, State.own_setRails _ _, (State.stileHeld_setRails_iff _).trans (Bool.and_true _)⟩
  have hswap (t : State) : (t.setRed { t.red with plan := none }).swapDone.red.peer = t.red.peer ∧
      (t.setRed { t.red with plan := none }).swapDone.red.own = t.red.own ∧
        (t.setRed { t.red with plan := none }).swapDone.stileHeld = t.stileHeld := by
    rw [State.red_swapDone]
    exact ⟨rfl, rfl, State.stileHeld_congr (((t.setRed_within _).trans (State.swapDone_within _)).stsApart (by decide))⟩
  unfold State.peerFall
  rw [if_neg (by simp [hpeer])]
  dsimp only
  generalize hr : s.setRails { s.red with peer := false, holdoffFrom := s.tln.now, own := s.red.own || s.mayFastClaim } = t
  obtain ⟨hpeer', hown', hheld'⟩ := hfall t hr.symm
  obtain ⟨hpeer₂, hown₂, hheld₂⟩ := hswap t
  split
  · obtain ⟨hrails, hheld⟩ := State.setSync_ite (t.setRed { t.red with plan := none }).swapDone
      (p := (!(t.setRed { t.red with plan := none }).swapDone.stileHeld) = true ∧
        (t.setRed { t.red with plan := none }).swapDone.syncState = 1) 2
    exact ⟨hrails.peer.trans (hpeer₂.trans hpeer'), hrails.own.trans (hown₂.trans hown'), hheld.trans (hheld₂.trans hheld')⟩
  · obtain ⟨hrails, hheld⟩ := State.setSync_ite t (p := (!t.stileHeld) = true ∧ t.syncState = 1) 2
    exact ⟨hrails.peer.trans hpeer', hrails.own.trans hown', hheld.trans hheld'⟩

theorem State.peerRise_rails (hpeer : s.red.peer = false) : s.peerRise.red.peer = true ∧ s.peerRise.red.claiming = false ∧
    s.peerRise.red.own = (s.red.own && !s.red.claiming) ∧ s.peerRise.stileHeld = false := by
  have hrise (r : RedState) (hr : r.peer = true) (hc : r.claiming = false) : (s.setRails r).red.peer = true ∧
      (s.setRails r).red.claiming = false ∧ (s.setRails r).red.own = r.own ∧ (s.setRails r).stileHeld = false :=
    ⟨(State.peer_setRails _ _).trans hr, (State.claiming_setRails _ _).trans hc, State.own_setRails _ _,
      (State.stileHeld_setRails_iff _).trans (by simp [hr])⟩
  have hsync (t : State) : t.SameRails (if (!t.stileHeld) = true ∧ t.syncState = 2 then t.setSync 0 else t) ∧
      (if (!t.stileHeld) = true ∧ t.syncState = 2 then t.setSync 0 else t).stileHeld = t.stileHeld := State.setSync_ite t 0
  unfold State.peerRise
  rw [if_neg (by simp [hpeer])]
  dsimp only
  split
  · next hclaim =>
    obtain ⟨hp, hc, ho, hh⟩ := hrise { s.red with peer := true, own := false, claiming := false, holdoffFrom := s.tln.now } rfl rfl
    obtain ⟨hrails, hheld⟩ := hsync (s.setRails { s.red with peer := true, own := false, claiming := false, holdoffFrom := s.tln.now })
    exact ⟨hrails.peer.trans hp, hrails.claiming.trans hc, hrails.own.trans (ho.trans (by simp [hclaim])), hheld.trans hh⟩
  · next hclaim =>
    have hclaim' : s.red.claiming = false := by simpa using hclaim
    obtain ⟨hp, hc, ho, hh⟩ := hrise { s.red with peer := true } rfl hclaim'
    obtain ⟨hrails, hheld⟩ := hsync (s.setRails { s.red with peer := true })
    exact ⟨hrails.peer.trans hp, hrails.claiming.trans hc, hrails.own.trans (ho.trans (by simp [hclaim'])), hheld.trans hh⟩

theorem State.holdoffClaim_reached (hclaim : s.claimEnabled = true) (hown : s.red.own = false) (hpeer : s.red.peer = false)
    (hdie : s.dev.dieFenced = false) (hpage : s.pageState pgRED ≠ 3) (haclk : s.aclkRuns = true)
    (h : s.reach (s.red.holdoffFrom + s.holdoffNs * NS) = some a) :
    s.holdoffClaim = a.setRails { a.red with own := true, claiming := true, holdoffFrom := a.tln.now } := by
  have hpage' : (s.pageState pgRED == 3) = false := by simpa using hpage
  unfold State.holdoffClaim
  rw [if_neg (by simp [hclaim, hown, hpeer, hdie, hpage', haclk]), State.atTime_reached h _]

theorem State.coldTakeover_leaves (s : State) : s.SameRails s.coldTakeover ∧ s.coldTakeover.stileHeld = s.stileHeld := by
  have hcount : ((s.fault pgRED Red.F_COLD_TAKEOVER).inc pgRED Red.COLD_TAKEOVERS).SameRails
      (((s.fault pgRED Red.F_COLD_TAKEOVER).inc pgRED Red.COLD_TAKEOVERS).trigger 0xE02 pgRED) :=
    (State.SameRails.refl _).upd (State.red_trigger _ _ _)
  have hfault : s.SameRails ((s.fault pgRED Red.F_COLD_TAKEOVER).inc pgRED Red.COLD_TAKEOVERS) :=
    ((State.SameRails.refl s).upd (State.red_fault _ _ _)).setReg
  have hwithin : s.Within (fldSpan pgRED PAGE_FAULT (Red.F_COLD_TAKEOVER, Red.F_COLD_TAKEOVER) :: regSpan pgRED Red.COLD_TAKEOVERS ::
      fldSpan pgRED PAGE_STATUS Red.S_FALLBACK :: pageSpan 0x40 0x80 :: trigSpans) s.coldTakeover :=
    ((((State.Within.refl s).faultBit pageInfo_pgRED rfl (by decide) (by decide)).write.andThen (State.trigger_within _ _ _)
      (by decide)).andThen (State.enterFallback_within _) (by decide))
  exact ⟨(hfault.trans hcount).trans (State.enterFallback_rails _), State.stileHeld_congr (hwithin.stsApart (by decide))⟩

theorem State.holdoffConfirm_reached (hclaim : s.red.claiming = true) (hown : s.red.own = true) (hpeer : s.red.peer = false)
    (h : s.reach (s.red.holdoffFrom + 100 * NS) = some a) : s.holdoffConfirm.red.claiming = false ∧
      s.holdoffConfirm.red.own = true ∧ s.holdoffConfirm.stileHeld = true := by
  have hred : a.red = s.red := (State.reach_parts h).red_eq
  obtain ⟨hrails, hheld⟩ := (a.setRails { a.red with claiming := false }).coldTakeover_leaves
  have hset : (a.setRails { a.red with claiming := false }).red.claiming = false ∧
      (a.setRails { a.red with claiming := false }).red.own = true ∧ (a.setRails { a.red with claiming := false }).stileHeld = true :=
    ⟨State.claiming_setRails _ _, (State.own_setRails _ _).trans (by rw [hred]; exact hown),
      (State.stileHeld_setRails_iff _).trans (by simp [hred, hown, hpeer])⟩
  unfold State.holdoffConfirm
  rw [if_neg (by simp [hclaim, hpeer]), State.atTime_reached h _]
  dsimp only
  split
  · exact ⟨hrails.claiming.trans hset.1, hrails.own.trans hset.2.1, hheld.trans hset.2.2⟩
  · exact hset

theorem State.stileConflict_releases (hstile : s.sts pgRED Red.S_STILE_STATE = 2) (hown : s.red.own = true) :
    s.stileConflict.red.own = false ∧ s.stileConflict.stileHeld = false ∧
      s.stileConflict.reg pgRED Red.CONFLICTS = s.reg pgRED Red.CONFLICTS + 1 := by
  have heq : s.stileConflict = (((s.inc pgRED Red.CONFLICTS).fault pgRED Red.F_STILE_CONFLICT).trigger 0xE03 pgRED).releaseStile :=
    if_neg (by simp [hstile])
  have hown' : (((s.inc pgRED Red.CONFLICTS).fault pgRED Red.F_STILE_CONFLICT).trigger 0xE03 pgRED).red.own = true := by
    rw [State.red_fault_trigger]
    exact hown
  rw [heq, State.releaseStile_own hown']
  refine ⟨State.own_setRails _ _, (State.stileHeld_setRails_iff _), ?_⟩
  rw [(State.setRails_within _ _).reg (by decide), (State.fault_trigger_within _ _).reg (by decide)]
  exact State.reg_setReg_self _ _ _ _

end

end Sys2Proof.Machine

open Sys2Proof Sys2Proof.Machine

/-- Settles O38: a change of the rails sets STILE_STATE by the rails alone, and what follows a change of role leaves both. -/
theorem theStileDecidesTheRole : Obligations.TheStileDecidesTheRole := by
  unfold Obligations.TheStileDecidesTheRole
  refine ⟨fun s hpeer => ⟨_, rfl, State.peerFall_rails hpeer⟩, fun s hpeer => ⟨_, rfl, State.peerRise_rails hpeer⟩,
    fun s a hclaim hown hpeer hdie hpage haclk h => ⟨_, rfl, ?_⟩,
    fun s a hclaim hown hpeer h => ⟨_, rfl, State.holdoffConfirm_reached hclaim hown hpeer h⟩,
    fun s hstile hown => ⟨_, rfl, State.stileConflict_releases hstile hown⟩, fun s v hview => ⟨fun hdiff => ?_, fun hpeer hown => ?_⟩⟩
  · rw [State.holdoffClaim_reached hclaim hown hpeer hdie hpage haclk h]
    exact ⟨State.own_setRails _ _, State.claiming_setRails _ _, (State.stileHeld_setRails_iff _).trans (by simp)⟩
  · show Host.Outcome.next s.stileMismatch = _
    simp only [State.stileMismatch, hview]
    rw [if_pos (by simpa using hdiff)]
  · show Host.Outcome.next s.stileMismatch = _
    simp only [State.stileMismatch, hview]
    rw [if_neg (by simp [hpeer, hown])]

end

section
/-!
PAIR_ACTION, planned swaps, the drill and the peer's time (R554, R558, R562 to R569, R571), and O42.
-/
set_option Elab.async false
namespace Sys2Proof.Machine

section
variable (s : State)

/-! ### Registers of the pair -/

theorem State.fld_setFld_same (page off : Nat) {f : Field} (hf : Field.fits f := by decide) (n : Nat) :
    (s.setFld page off f n).fld page off f = n % 2 ^ (f.1 + 1 - f.2) := by
  rw [State.setFld, State.fld, State.reg_setReg_self, bits_putBits_same _ hf]

theorem State.nat_setNat_same (page off n : Nat) : (s.setNat page off n).nat page off = n % 2 ^ 32 := by
  rw [State.setNat_eq, State.nat, State.reg_setReg_self, BitVec.toNat_ofNat]

/-- Registers of one page written in turn read what each was given. -/
theorem State.nat_setNats {page : Nat} {o v : Nat → Nat} (ho : ∀ i j, o i = o j → i = j) {n j : Nat} (hj : j < n) :
    ((List.range n).foldl (fun a i => a.setNat page (o i) (v i)) s).nat page (o j) = v j % 2 ^ 32 := by
  induction n with
  | zero => exact absurd hj (Nat.not_lt_zero _)
  | succ n ih =>
    rw [List.range_succ, List.foldl_append, List.foldl_cons, List.foldl_nil]
    by_cases heq : j = n
    · rw [heq, State.nat_setNat_same]
    · have hne : regKey page (o j) ≠ regKey page (o n) := fun h => heq (ho j n (Nat.add_left_cancel h))
      rw [State.setNat_eq, State.nat, State.reg_setReg_ne _ _ hne]
      exact ih (by omega)

theorem State.detached_setFld (n : Nat) : (s.setFld pgRED Red.PAIR_STATE Red.DETACHED n).detached = (n % 2 == 1) := by
  rw [State.detached, State.fld_setFld_same]
  rfl

theorem State.differs_setFld (n : Nat) : (s.setFld pgRED Red.PAIR_STATE Red.DIFFERS n).differs = (n % 2 == 1) := by
  rw [State.differs, State.fld_setFld_same]
  rfl

/-! ### Resynchronisation (R554, R558) -/

theorem State.resyncCheck_within : s.Within tellSpans s.resyncCheck :=
  State.Within.ite ((s.setRed_within _).trans (State.tsxSend_within _ _ _ _)) (.refl s)

theorem State.resyncCheck_rails : s.SameRails s.resyncCheck := by
  have hask : s.SameRails (s.setRed { s.red with asked := true }) := ⟨rfl⟩
  exact (hask.trans (State.tsxSend_rails _ _ _ _)).ite (.refl s)

/-- DETACHED ends, and the maps tell whether the devices differ. -/
def State.rejoined (s : State) : State :=
  (s.setFld pgRED Red.PAIR_STATE Red.DETACHED 0).setFld pgRED Red.PAIR_STATE Red.DIFFERS (if s.nothingLocal then 0 else 1)

/-- The maps of local pages and ranges are emptied. -/
def State.pagesShared (s : State) (n : Nat) : State := (List.range n).foldl (fun a w => a.setNat pgRED (Red.LOCAL_PAGES w) 0) s
def State.allShared (s : State) : State :=
  (((s.pagesShared 32).setNat pgRED Red.LOCAL_RANGES_LO 0).setNat pgRED Red.LOCAL_RANGES_HI 0).setFld pgRED Red.PAIR_STATE Red.DIFFERS 0

/-- A resynchronisation is asked for. -/
def State.wants (s : State) (wanted skip : Bool) : State := (s.setRed { s.red with wanted := wanted, skipLocal := skip }).resyncCheck

theorem State.resync_eq : s.resync = if s.detached then s.rejoined.wants true true
    else s.allShared.wants (s.syncState == 0 || s.syncState == 4) false := rfl

theorem State.wants_within (wanted skip : Bool) : s.Within tellSpans (s.wants wanted skip) :=
  (s.setRed_within _).trans (State.resyncCheck_within _)

theorem State.red_wants (wanted skip : Bool) : (s.wants wanted skip).red.wanted = wanted ∧ (s.wants wanted skip).red.skipLocal = skip :=
  ⟨(State.resyncCheck_rails _).wanted, (State.resyncCheck_rails _).skipLocal⟩

theorem State.detached_wants (wanted skip : Bool) : (s.wants wanted skip).detached = s.detached := by
  rw [State.detached, (s.wants_within wanted skip).fld (by decide), State.detached]

theorem State.differs_wants (wanted skip : Bool) : (s.wants wanted skip).differs = s.differs := by
  rw [State.differs, (s.wants_within wanted skip).fld (by decide), State.differs]

theorem State.detached_rejoined : s.rejoined.detached = false := by
  have hdiffers : (s.setFld pgRED Red.PAIR_STATE Red.DETACHED 0).Within [fldSpan pgRED Red.PAIR_STATE Red.DIFFERS] s.rejoined :=
    (State.Within.refl _).setFld (by decide)
  rw [State.detached, hdiffers.fldApart (by decide)]
  exact s.detached_setFld 0

theorem State.pagesShared_nat {n w : Nat} (hw : w < n) : (s.pagesShared n).nat pgRED (Red.LOCAL_PAGES w) = 0 :=
  s.nat_setNats (o := Red.LOCAL_PAGES) (v := fun _ => 0) (fun i j h => by simp only [Red.LOCAL_PAGES] at h; omega) hw

theorem State.nothingLocal_iff : s.nothingLocal = true ↔ (∀ w < 32, s.nat pgRED (Red.LOCAL_PAGES w) = 0) ∧
    s.nat pgRED Red.LOCAL_RANGES_LO = 0 ∧ s.nat pgRED Red.LOCAL_RANGES_HI = 0 := by
  simp only [State.nothingLocal, Bool.and_eq_true, List.all_eq_true, List.mem_range, beq_iff_eq, and_assoc]

theorem State.nothingLocal_allShared : s.allShared.nothingLocal = true := by
  have hrest : (s.pagesShared 32).Within
      [regSpan pgRED Red.LOCAL_RANGES_LO, regSpan pgRED Red.LOCAL_RANGES_HI, fldSpan pgRED Red.PAIR_STATE Red.DIFFERS] s.allShared :=
    ((State.Within.refl _).write.write).setFld (by decide)
  have hpages : ∀ w, w < 32 → s.allShared.nat pgRED (Red.LOCAL_PAGES w) = 0 := fun w hw =>
    (hrest.nat ((show ∀ n < 32, clearOf [regSpan pgRED Red.LOCAL_RANGES_LO, regSpan pgRED Red.LOCAL_RANGES_HI,
      fldSpan pgRED Red.PAIR_STATE Red.DIFFERS] (regKey pgRED (Red.LOCAL_PAGES n)) by decide) w hw)).trans (s.pagesShared_nat hw)
  have hdiffers (a : State) : a.Within [fldSpan pgRED Red.PAIR_STATE Red.DIFFERS] (a.setFld pgRED Red.PAIR_STATE Red.DIFFERS 0) :=
    (State.Within.refl _).setFld (by decide)
  have hhi : s.allShared.nat pgRED Red.LOCAL_RANGES_HI = 0 :=
    ((hdiffers _).nat (by decide)).trans (State.nat_setNat_same _ _ _ _)
  have hlo : s.allShared.nat pgRED Red.LOCAL_RANGES_LO = 0 := by
    refine ((hdiffers _).nat (by decide)).trans ?_
    rw [State.setNat_eq, State.nat, State.reg_setReg_ne _ _ (by decide)]
    exact State.nat_setNat_same _ _ _ _
  exact (State.nothingLocal_iff _).2 ⟨hpages, hlo, hhi⟩

theorem State.nothingLocal_wants (h : s.nothingLocal = true) (wanted skip : Bool) : (s.wants wanted skip).nothingLocal = true := by
  obtain ⟨hpages, hlo, hhi⟩ := s.nothingLocal_iff.1 h
  have hwants := s.wants_within wanted skip
  have hclear : ∀ w < 32, clearOf tellSpans (regKey pgRED (Red.LOCAL_PAGES w)) := by decide
  exact (State.nothingLocal_iff _).2 ⟨fun w hw => (hwants.nat (hclear w hw)).trans (hpages w hw),
    (hwants.nat (by decide)).trans hlo, (hwants.nat (by decide)).trans hhi⟩

/-! ### DETACH, and the end of FALLBACK -/

theorem State.syncState_setSync (n : Nat) : (s.setSync n).syncState = if s.syncState = n then s.syncState else n % 8 := by
  unfold State.setSync
  split
  · rfl
  · have hirq (a : State) : (a.irq 342).syncState = a.syncState := (a.irq_within 342).sts (by decide) _
    refine (hirq _).trans ?_
    exact State.sts_setSts_self _ pgRED (by decide) n

theorem State.unsync_leaves_synced (h : s.stileHeld = false) : s.unsync.syncState ≠ 3 := by
  unfold State.unsync
  split
  · rw [State.syncState_setSync]
    split
    · next h0 => rw [h0]; decide
    · decide
  · next hrun =>
    intro h3
    exact hrun (by simp [h, h3])

theorem State.detach_standby (h : s.stileHeld = false) : s.detach.detached = true ∧ s.detach.syncState ≠ 3 := by
  have heq : s.detach = s.unsync.setFld pgRED Red.PAIR_STATE Red.DETACHED 1 := if_neg (by simp [h])
  have hset : s.unsync.Within [fldSpan pgRED Red.PAIR_STATE Red.DETACHED] (s.unsync.setFld pgRED Red.PAIR_STATE Red.DETACHED 1) :=
    (State.Within.refl _).setFld (by decide)
  have hsync : (s.unsync.setFld pgRED Red.PAIR_STATE Red.DETACHED 1).syncState = s.unsync.syncState := hset.sts (by decide) _
  rw [heq]
  exact ⟨State.detached_setFld _ 1, hsync ▸ s.unsync_leaves_synced h⟩

theorem State.fallbackEnd_leaves : s.fallbackEnd.fallback = false ∧ s.fallbackEnd.red.scene = [] := by
  refine ⟨?_, ?_⟩
  · rw [State.fallback, State.fallbackEnd, State.sts_setSts_self _ _ (by decide)]
    rfl
  · exact congrArg RedState.scene (State.setReg_red _ _ _ _)

theorem State.safeStore_eq : s.safeStore
    = if sceneValid (s.bytes (address8 (s.reg pgRED Red.SAFE_ADDR_LO) (s.reg pgRED Red.SAFE_ADDR_HI)) SAFE_LEN) = true then
        s.setBytes SAFE_AT (s.bytes (address8 (s.reg pgRED Red.SAFE_ADDR_LO) (s.reg pgRED Red.SAFE_ADDR_HI)) SAFE_LEN)
      else s.fault pgRED Red.F_SAFE_BAD := rfl

/-! ### Planned swaps -/

theorem State.roleMsg_within (op : Nat) (t : Option Nat) : s.Within tellSpans (s.roleMsg op t) := s.tsxSend_within _ _ _

theorem State.cancelSwap_leaves : s.cancelSwap.red.plan = none ∧ s.cancelSwap.flag pgRED PAGE_FAULT Red.F_SWAP_FAIL = true := by
  have hmsg : (s.setRed { s.red with plan := none }).SameRails ((s.setRed { s.red with plan := none }).roleMsg 4 none) :=
    State.tsxSend_rails _ _ _ _
  refine ⟨?_, ?_⟩
  · rw [State.cancelSwap, State.swapFailed, State.red_fault_trigger]
    exact hmsg.plan
  · rw [State.cancelSwap, State.swapFailed, (State.trigger_within _ _ _).flag (by decide)]
    exact State.flag_fault _ pageInfo_pgRED rfl (by decide) (by decide)

end

section
variable {s a : State} {x : Nat}

theorem State.reach_stileHeld (h : s.reach x = some a) : a.stileHeld = s.stileHeld :=
  congrArg (fun w => bits w Red.S_STILE_STATE == 1) (State.reach_reg_red h PAGE_STATUS)

/-- The state in which a planned swap releases the Stile. -/
def State.swapPassed (s : State) (x : Nat) : State :=
  ((s.setTimeRegs pgRED Red.SWAP_S_LO (gridTimeVal x)).setRed
    { (s.setTimeRegs pgRED Red.SWAP_S_LO (gridTimeVal x)).red with plan := none, pathCheck := some x }).setNat pgRED Red.PATH_MISMATCHES 0

theorem State.red_swapPassed (s : State) : (s.swapPassed x).red = { s.red with plan := none, pathCheck := some x } := by
  have htimes : (s.setTimeRegs pgRED Red.SWAP_S_LO (gridTimeVal x)).red = s.red := by
    simp only [State.setTimeRegs, State.setNat_eq, State.setReg_red]
  rw [State.swapPassed, State.setNat_eq, State.setReg_red, htimes]
  rfl

theorem State.swapInstant_reached {asked : Nat} {acked : Bool} (hplan : s.red.plan = some ⟨asked, some x, acked⟩)
    (h : s.reach (timeOfUnits x) = some a) : s.swapInstant
      = if (!s.stileHeld) = true then a.setTimeRegs pgRED Red.SWAP_S_LO (gridTimeVal x)
        else if acked = true then (a.swapPassed x).releaseStile else a.cancelSwap := by
  unfold State.swapInstant
  rw [hplan]
  dsimp only
  rw [State.atTime_reached h _, State.reach_stileHeld h]
  rfl

theorem State.swapSearchEnd_reached {asked : Nat} {acked : Bool} (hplan : s.red.plan = some ⟨asked, none, acked⟩)
    (hheld : s.stileHeld = true) (h : s.reach (asked + SEC * NS) = some a) : s.swapSearchEnd = a.cancelSwap := by
  unfold State.swapSearchEnd
  rw [hplan]
  dsimp only
  rw [if_pos hheld, State.atTime_reached h _]

/-- A release keeps the plan and the path's check that stand. -/
theorem State.releaseStile_leaves (s : State) (hown : s.red.own = true) : s.releaseStile.red.own = false ∧
    s.releaseStile.stileHeld = false ∧ s.releaseStile.red.plan = s.red.plan ∧ s.releaseStile.red.pathCheck = s.red.pathCheck := by
  rw [State.releaseStile_own hown]
  exact ⟨State.own_setRails _ _, State.stileHeld_setRails_iff _, (State.setRails_rails _ _).plan, (State.setRails_rails _ _).pathCheck⟩

/-- A path that did not answer is a fault of the path and of the swap. -/
def State.pathFails (s : State) : State := (s.setRed { s.red with pathCheck := none }).swapFailed.fault pgRED Red.F_PATH_FAULT

theorem State.swapPathCheck_reached (hcheck : s.red.pathCheck = some x) (h : s.reach (timeOfUnits (x + 10 * LU)) = some a) :
    s.swapPathCheck = if a.red.peer = true then a
      else if (a.pathFails.claimEnabled && !a.pathFails.dev.dieFenced && a.pathFails.pageState pgRED != 3) = true then
        a.pathFails.setRails { a.pathFails.red with own := true }
      else a.pathFails := by
  unfold State.swapPathCheck
  rw [hcheck]
  exact State.atTime_reached h _

theorem State.red_pathFails (s : State) : s.pathFails.red = { s.red with pathCheck := none } := by
  rw [State.pathFails, State.red_fault, State.swapFailed, State.red_fault_trigger]
  rfl

theorem State.dev_pathFails (s : State) : s.pathFails.dev = s.dev := by
  have hfailed (b : State) : (b.swapFailed.fault pgRED Red.F_PATH_FAULT).dev = b.dev :=
    (State.fault_keeps (State.trigger_keeps (State.fault_keeps (b.keeps_parts 0x80) (Keep.off_of_and (by decide)))
      (Keep.off_of_and (by decide))) (Keep.off_of_and (by decide))).dev_eq
  exact hfailed _

theorem State.pathFails_within (s : State) : s.Within (fldSpan pgRED PAGE_FAULT (Red.F_PATH_FAULT, Red.F_PATH_FAULT) ::
    fldSpan pgRED PAGE_FAULT (Red.F_SWAP_FAIL, Red.F_SWAP_FAIL) :: trigSpans) s.pathFails :=
  ((s.setRed_within _).andThen (State.fault_trigger_within _ _) (List.subset_cons_self _ _)).faultBit pageInfo_pgRED rfl (by decide)
    (by decide)

theorem State.flag_pathFails (s : State) : s.pathFails.flag pgRED PAGE_FAULT Red.F_PATH_FAULT = true :=
  State.flag_fault _ pageInfo_pgRED rfl (by decide) (by decide)

theorem State.setRails_pathFails (s : State) (r : RedState) (hr : r.pathCheck = none) :
    (s.pathFails.setRails r).red.pathCheck = none ∧ (s.pathFails.setRails r).flag pgRED PAGE_FAULT Red.F_PATH_FAULT = true :=
  ⟨(State.setRails_rails _ _).pathCheck.trans hr, ((State.setRails_within _ _).flagApart (by decide)).trans s.flag_pathFails⟩

/-- The peer rail stayed low: the check ends with PATH_FAULT, and a device that may claim raises its own rail again. -/
theorem State.swapPathCheck_fails (hcheck : s.red.pathCheck = some x) (h : s.reach (timeOfUnits (x + 10 * LU)) = some a)
    (hpeer : s.red.peer = false) : s.swapPathCheck.red.pathCheck = none ∧
      s.swapPathCheck.flag pgRED PAGE_FAULT Red.F_PATH_FAULT = true ∧
      (s.claimEnabled = true → s.dev.dieFenced = false → s.pageState pgRED ≠ 3 → s.swapPathCheck.red.own = true) := by
  have hparts := State.reach_parts h
  have hclaim : a.pathFails.claimEnabled = s.claimEnabled := by
    rw [State.claimEnabled, a.pathFails_within.fld (by decide), State.fld, State.reach_reg_red h]
    rfl
  have hpage : a.pathFails.pageState pgRED = s.pageState pgRED := by
    rw [State.pageState, a.pathFails_within.fld (by decide), State.fld, State.reach_reg_red h]
    rfl
  rw [State.swapPathCheck_reached hcheck h, if_neg (by rw [hparts.red_eq, hpeer]; exact Bool.false_ne_true), hclaim, hpage,
    State.dev_pathFails, hparts.dev_eq]
  split
  · obtain ⟨hnone, hflag⟩ := a.setRails_pathFails { a.pathFails.red with own := true } (congrArg RedState.pathCheck a.red_pathFails)
    exact ⟨hnone, hflag, fun _ _ _ => State.own_setRails _ _⟩
  · next hno =>
    refine ⟨congrArg RedState.pathCheck a.red_pathFails, a.flag_pathFails, fun hc hd hp => absurd ?_ hno⟩
    simp [hc, hd, hp]

theorem State.pathCheckEnd_reached {n : Nat} (hcheck : s.red.pathCheck = some x) (h : s.reach (timeOfUnits (x + 1000000 * LU)) = some a) :
    s.pathCheckEnd n = if n % 2 ^ 32 = 0 then ((a.setRed { a.red with pathCheck := none }).setNat pgRED Red.PATH_MISMATCHES n).swapDone
      else (((a.setRed { a.red with pathCheck := none }).setNat pgRED Red.PATH_MISMATCHES n).fault pgRED Red.F_PATH_FAULT).trigger
        0xE05 pgRED := by
  unfold State.pathCheckEnd
  rw [hcheck]
  exact State.atTime_reached h _

theorem State.pathCheckEnd_leaves {n : Nat} (hcheck : s.red.pathCheck = some x)
    (h : s.reach (timeOfUnits (x + 1000000 * LU)) = some a) : (s.pathCheckEnd n).red.pathCheck = none ∧
      (s.pathCheckEnd n).nat pgRED Red.PATH_MISMATCHES = n % 2 ^ 32 ∧
      (n % 2 ^ 32 = 0 → (s.pathCheckEnd n).reg pgRED Red.SWAP_COUNT = s.reg pgRED Red.SWAP_COUNT + 1 ∧
        (s.pathCheckEnd n).red.lastSwap = some a.tln.now ∧ (s.pathCheckEnd n).sts pgRED Red.S_DRILL_DUE = 0) ∧
      (n % 2 ^ 32 ≠ 0 → (s.pathCheckEnd n).flag pgRED PAGE_FAULT Red.F_PATH_FAULT = true) := by
  have hset : a.Within [regSpan pgRED Red.PATH_MISMATCHES]
      ((a.setRed { a.red with pathCheck := none }).setNat pgRED Red.PATH_MISMATCHES n) := (a.setRed_within _).write
  have hred : ((a.setRed { a.red with pathCheck := none }).setNat pgRED Red.PATH_MISMATCHES n).red.pathCheck = none := rfl
  have htln : ((a.setRed { a.red with pathCheck := none }).setNat pgRED Red.PATH_MISMATCHES n).tln = a.tln := rfl
  have hnat := State.nat_setNat_same (a.setRed { a.red with pathCheck := none }) pgRED Red.PATH_MISMATCHES n
  have hcount := (hset.reg (page := pgRED) (off := Red.SWAP_COUNT) (by decide)).trans (State.reach_reg_red h _)
  rw [State.pathCheckEnd_reached hcheck h]
  generalize (a.setRed { a.red with pathCheck := none }).setNat pgRED Red.PATH_MISMATCHES n = b at hred htln hnat hcount
  by_cases hn : n % 2 ^ 32 = 0
  · rw [if_pos hn]
    have hdone : b.swapDone.reg pgRED Red.SWAP_COUNT = b.reg pgRED Red.SWAP_COUNT + 1 := by
      have hrest : (b.inc pgRED Red.SWAP_COUNT).Within (fldSpan pgRED PAGE_STATUS Red.S_DRILL_DUE :: countSpans) b.swapDone :=
        ((((State.Within.refl _).irq (by decide)).count (by decide)).trans (State.setRed_within _ _)).setSts (by decide)
      exact (hrest.reg (by decide)).trans (State.reg_setReg_self _ _ _ _)
    refine ⟨(congrArg RedState.pathCheck b.red_swapDone).trans hred, (b.swapDone_within.nat (by decide)).trans hnat,
      fun _ => ⟨hdone.trans (by rw [hcount]), (congrArg RedState.lastSwap b.red_swapDone).trans (by rw [htln]), ?_⟩, fun h0 => absurd hn h0⟩
    exact State.sts_setSts_self _ pgRED (by decide) 0
  · rw [if_neg hn]
    refine ⟨(congrArg RedState.pathCheck (b.red_fault_trigger _ _)).trans hred,
      ((b.fault_trigger_within _).nat (by decide)).trans hnat, fun h0 => absurd h0 hn, fun _ => ?_⟩
    exact ((State.trigger_within _ _ _).flag (by decide) _).trans (State.flag_fault _ pageInfo_pgRED rfl (by decide) (by decide))

theorem State.revertExpire_reached (hsince : s.red.syncedSince = some x) (hrole : s.dev.roleB = false) (hheld : s.stileHeld = false)
    (hsync : s.syncState = 3) (hdiffers : s.differs = false) (hen : s.fld pgRED Red.PAIR_CTRL Red.REVERT_EN = 1)
    (h : s.reach (x + s.fld pgRED Red.REVERT_HOLD (15, 0) * SEC * NS) = some a) : s.revertExpire = a.roleMsg 5 none := by
  unfold State.revertExpire
  rw [hsince]
  dsimp only
  rw [if_neg (by simp [hrole, hheld, hsync, hdiffers, hen]), State.atTime_reached h _]

theorem State.drillExpire_reached (hlast : s.red.lastSwap = some x) (hdue : s.sts pgRED Red.S_DRILL_DUE ≠ 1)
    (h : s.reach (x + 604801 * SEC * NS) = some a) : s.drillExpire = (a.setSts pgRED Red.S_DRILL_DUE 1).irq 345 := by
  unfold State.drillExpire
  rw [hlast]
  dsimp only
  rw [if_neg hdue, State.atTime_reached h _]

/-! ### The peer's time (R87, R549) -/

theorem State.enterTl_peerValid (s : State) (n : Nat) : (s.enterTl n).tln.peerValid = s.tln.peerValid := by
  unfold State.enterTl
  split
  · rfl
  · rfl
  · rfl
  · dsimp only
    split
    · rfl
    · rfl
  · rfl

theorem State.srcLost_peerValid (s : State) (src : Nat) : (s.srcLost src).tln.peerValid = s.tln.peerValid := by
  have hcal : (s.calRefLost src).tln.peerValid = s.tln.peerValid :=
    congrArg TlnState.peerValid (State.calRefLost_keeps (s.keeps_parts 0x200) (Keep.off_of_and (by decide))).tln_eq
  have hset (b : State) (n : Nat) : (b.setTlState n).tln.peerValid = b.tln.peerValid :=
    (congrArg TlnState.peerValid (b.setTlState_tln n)).trans (b.enterTl_peerValid n)
  have hvoid (b : State) : (if b.tlnOn ∧ b.tlSrc = src then b.voidEvents else b).tln.peerValid = b.tln.peerValid := by
    split <;> rfl
  unfold State.srcLost
  dsimp only
  refine Eq.trans ?_ ((hvoid (s.calRefLost src)).trans hcal)
  generalize (if (s.calRefLost src).tlnOn = true ∧ (s.calRefLost src).tlSrc = src then (s.calRefLost src).voidEvents
    else s.calRefLost src) = b
  split
  · split
    · exact hset _ _
    · split
      · exact hset _ _
      · rfl
  · rfl

/-- PEER is no valid source any more. -/
def State.peerInvalid (s : State) : State := { s with tln := { s.tln with peerValid := false } }

theorem State.peerTimeLost_eq (s : State) :
    s.peerTimeLost = if s.tln.peerValid = true then (s.peerInvalid.srcLost 8).alignRefresh else s := rfl

theorem State.peerTimeLost_invalid (s : State) : s.peerTimeLost.tln.peerValid = false := by
  rw [State.peerTimeLost_eq]
  split
  · exact (congrArg TlnState.peerValid
      (State.alignRefresh_keeps ((s.peerInvalid.srcLost 8).keeps_parts 0x200) (Keep.off_of_and (by decide))).tln_eq).trans
      (s.peerInvalid.srcLost_peerValid 8)
  · next hv => simpa using hv

theorem State.peerLost_reached (hvalid : s.tln.peerValid = true) (hlast : s.red.lastExchange = some x)
    (h : s.reach (x + 3000000 * NS) = some a) : s.peerLost = a.peerTimeLost := by
  unfold State.peerLost
  rw [if_neg (by simp [hvalid]), hlast]
  exact State.atTime_reached h _

end

/-! ### PAIR_ACTION as commands -/

section
variable {s : State} (h : s.reaches pgRED = true) (r : Requester)
include h

theorem exec_swap : exec (.swap r) s = .next s.counted.swapRequest := congrArg Host.Outcome.next (State.gate_eq h _)
theorem exec_resync : exec (.resync r) s = .next s.counted.resync := congrArg Host.Outcome.next (State.gate_eq h _)
theorem exec_detach : exec (.detach r) s = .next s.counted.detach := congrArg Host.Outcome.next (State.gate_eq h _)
theorem exec_fallbackEnd : exec (.fallbackEnd r) s = .next s.counted.fallbackEnd := congrArg Host.Outcome.next (State.gate_eq h _)
theorem exec_safeStore : exec (.safeStore r) s = .next s.counted.safeStore := congrArg Host.Outcome.next (State.gate_eq h _)

end

end Sys2Proof.Machine

open Sys2Proof Sys2Proof.Machine

/-- Settles O42: each action and each instant does what its definition says, and the messages and records that follow leave the rails,
the plan and the maps. -/
theorem swapsAndResynchronisationsAct : Obligations.SwapsAndResynchronisationsAct := by
  unfold Obligations.SwapsAndResynchronisationsAct
  refine ⟨fun s r h => ?_, fun s a asked x acked hplan h => ?_, fun s a asked acked hplan hheld h => ?_, State.cancelSwap_leaves,
    fun s a x hcheck h => ?_, fun s a x n hcheck h => ⟨_, rfl, State.pathCheckEnd_leaves hcheck h⟩,
    fun s a x hsince hrole hheld hsync hdiffers hen h => congrArg Host.Outcome.next
      (State.revertExpire_reached hsince hrole hheld hsync hdiffers hen h),
    fun s a x hlast hdue h => ⟨_, rfl, ?_⟩, fun s a x hvalid hlast h => ⟨_, rfl, ?_⟩, fun s r haclk => ?_⟩
  · refine ⟨fun hheld => (exec_swap h r).trans (congrArg Host.Outcome.next (if_pos hheld)),
      fun hheld => (exec_swap h r).trans (congrArg Host.Outcome.next (if_neg (by simp [hheld]))),
      fun hdet => ⟨_, exec_resync h r, ?_⟩, fun hdet => ⟨_, exec_resync h r, ?_⟩,
      fun hheld => (exec_detach h r).trans (congrArg Host.Outcome.next (if_pos hheld)),
      fun hheld => ⟨_, exec_detach h r, State.detach_standby _ hheld⟩, ⟨_, exec_fallbackEnd h r, State.fallbackEnd_leaves _⟩,
      fun hgood => ?_, fun hbad => ?_⟩
    · rw [State.resync_eq, if_pos hdet, State.detached_wants]
      exact ⟨State.detached_rejoined _, State.red_wants _ _ _⟩
    · rw [State.resync_eq, if_neg (by simp [hdet]), State.differs_wants]
      exact ⟨State.differs_setFld _ 0, State.nothingLocal_wants _ (State.nothingLocal_allShared _) _ _, State.red_wants _ _ _⟩
    · rw [exec_safeStore h r, State.safeStore_eq, if_pos hgood]
    · rw [exec_safeStore h r, State.safeStore_eq, if_neg (by rw [hbad]; exact Bool.false_ne_true)]
  · refine ⟨fun hheld hown hack => ⟨_, rfl, ?_⟩, fun hheld hack => congrArg Host.Outcome.next ?_,
      fun hheld => congrArg Host.Outcome.next ?_⟩
    · rw [State.swapInstant_reached hplan h, if_neg (by simp [hheld]), if_pos hack]
      have hown' : (a.swapPassed x).red.own = true := by
        rw [State.red_swapPassed, (State.reach_parts h).red_eq]
        exact hown
      obtain ⟨hlow, hfree, hplan', hcheck⟩ := State.releaseStile_leaves _ hown'
      rw [State.red_swapPassed] at hplan' hcheck
      exact ⟨hlow, hfree, hplan', hcheck⟩
    · rw [State.swapInstant_reached hplan h, if_neg (by simp [hheld]), if_neg (by simp [hack])]
    · rw [State.swapInstant_reached hplan h, if_pos (by simp [hheld])]
  · exact congrArg Host.Outcome.next (State.swapSearchEnd_reached hplan hheld h)
  · have hpeer : a.red.peer = s.red.peer := congrArg RedState.peer (State.reach_parts h).red_eq
    refine ⟨fun hhigh => congrArg Host.Outcome.next ?_, fun hlow => ⟨_, rfl, State.swapPathCheck_fails hcheck h hlow⟩⟩
    rw [State.swapPathCheck_reached hcheck h, if_pos (hpeer.trans hhigh)]
  · rw [State.drillExpire_reached hlast hdue h, (State.irq_within _).sts (by decide), State.sts_setSts_self _ _ (by decide)]
    rfl
  · rw [State.peerLost_reached hvalid hlast h]
    exact State.peerTimeLost_invalid a
  · refine ⟨_, congrArg Host.Outcome.next (State.access_eq haclk _), State.nat_setNat_same _ _ _ _, ?_⟩
    have hreg : s.counted.reg pgRED Red.LAG_MAX = s.reg pgRED Red.LAG_MAX := s.counted_within.reg (by decide)
    show Output.read (s.counted.reg pgRED Red.LAG_MAX) :: s.counted.out = _
    rw [hreg, State.counted_out]

end

section
/-!
Lanes and frames of the Tsudex link: what a frame's arrival, an acknowledgement, a loss of the link and a resending do (R526, R537 to
R541, R549), and O39.
-/
set_option Elab.async false
namespace Sys2Proof.Machine

/-! ### Fields of a payload -/

theorem leVal_lt (l : List Byte) : leVal l < 256 ^ l.length := by
  induction l with
  | nil => exact Nat.one_pos
  | cons b t ih =>
    have hb : b.toNat < 256 := b.isLt
    rw [leVal, List.length_cons, Nat.pow_succ]
    omega

theorem length_slice (l : List Byte) (o n : Nat) : (slice l o n).length = n := by
  simp only [slice, List.length_append, List.length_replicate, List.length_take]
  omega

theorem beAt_lt (l : List Byte) (o n : Nat) : beAt l o n < 256 ^ n := by
  have h := leVal_lt (slice l o n).reverse
  rwa [List.length_reverse, length_slice] at h

theorem beAt_mod_word (l : List Byte) (o : Nat) : beAt l o 4 % 2 ^ 32 = beAt l o 4 := Nat.mod_eq_of_lt (beAt_lt l o 4)

/-- A field behind a payload's first byte, which a row of its own names. -/
theorem slice_withOp (op : Nat) (p : List Byte) (o n : Nat) : slice (withOp op p) (o + 1) n = slice (p.drop 1) o n := by
  have hdrop : (withOp op p).drop (o + 1) = (p.drop 1).drop o := rfl
  rw [slice, slice, hdrop]

theorem beAt_withOp (op : Nat) (p : List Byte) (o n : Nat) : beAt (withOp op p) (o + 1) n = beAt (p.drop 1) o n := by
  rw [beAt, slice_withOp, beAt]

theorem beAt_withOp_zero (op : Nat) (p : List Byte) : beAt (withOp op p) 0 1 = op % 256 := by
  show (BitVec.ofNat 8 op).toNat + 256 * 0 = op % 256
  rw [BitVec.toNat_ofNat, Nat.mul_zero, Nat.add_zero]

/-! ### The loss of the link (R541, R544) -/

/-- What the link's state may write as it changes. -/
abbrev linkSpans : List Span := regSpan pgRED Red.LANE_STATUS :: fldSpan pgRED PAGE_STATUS Red.S_LINK_STATE ::
  fldSpan pgRED PAGE_FAULT (Red.F_LINK_LOST, Red.F_LINK_LOST) :: pageSpan pgFWU (pgFWU + 1) ::
  fldSpan pgRED PAGE_STATUS Red.S_SYNC_STATE :: (pinSpans ++ tellSpans ++ lostSpans)

theorem irqSpans_subset_link : irqSpans ⊆ linkSpans := by decide
theorem pinSpans_subset_link : pinSpans ⊆ linkSpans := by decide
theorem trigSpans_subset_link : trigSpans ⊆ linkSpans := by decide
theorem tellSpans_subset_link : tellSpans ⊆ linkSpans := by decide
theorem lostSpans_subset_link : lostSpans ⊆ linkSpans := by decide
theorem timeSpans_subset_link : timeSpans ⊆ linkSpans := by decide
theorem syncSpans_subset_link : syncSpans ⊆ linkSpans := by decide

section
variable (s : State)

theorem State.modFwu_within {l : List Span} (f : FwuState → FwuState) : s.Within l (s.modFwu f) := (State.Within.refl s).upd rfl

theorem State.setMem_within {l : List Span} (a n v : Nat) : s.Within l (s.setMem a n v) := s.setBytes_within _ _

/-- What FWU's own registers may be written by. -/
abbrev fwuSpans : List Span := pageSpan pgFWU (pgFWU + 1) :: irqSpans

theorem irqSpans_subset_fwu : irqSpans ⊆ fwuSpans := List.subset_cons_self _ _

theorem State.fwuReg_within {off : Nat} (v : Word) (hoff : off < 0x1000 := by decide) : s.Within fwuSpans (s.setReg pgFWU off v) :=
  (State.Within.refl s).setPage (p := pgFWU) (q := pgFWU + 1) List.mem_cons_self (Nat.le_refl _) (Nat.lt_succ_self _) hoff

theorem State.setStage_within (n : Nat) : s.Within fwuSpans (s.setStage n) :=
  (State.Within.refl s).ite (((s.fwuReg_within _).trans (State.fwuReg_within _ _)).irq irqSpans_subset_fwu)

theorem State.fwuFault_within {n : Nat} : s.Within fwuSpans (s.fault pgFWU n) := by
  rw [s.fault_eq_faultHere pageInfo_pgFWU rfl]
  exact (s.fwuReg_within _).trans ((State.faultHere_within _ _ _).mono irqSpans_subset_fwu)

theorem State.stageEnd_within (bad : Option (Nat × Nat)) : s.Within fwuSpans (s.stageEnd bad) := by
  have hmod (f : FwuState → FwuState) : s.Within fwuSpans (s.modFwu f) := s.modFwu_within f
  have hreason (a : State) (r b : Nat) : a.Within fwuSpans (a.setReason r b) := a.fwuReg_within _
  cases bad with
  | none => exact ((hmod _).trans (hreason _ _ _)).trans (State.setStage_within _ _)
  | some b =>
    have hmagic (a : State) : a.Within fwuSpans (a.shelfMagic 0) := a.setMem_within _ _ _
    exact ((((hmod _).trans (hmagic _)).trans (hreason _ _ _)).trans (State.fwuFault_within _)).trans (State.setStage_within _ _)

theorem State.imageLinkLost_within : s.Within fwuSpans s.imageLinkLost := by
  have hstop : s.Within fwuSpans s.sendStop := s.modFwu_within _
  exact ((hstop.trans (State.stageEnd_within _ _)).ite hstop).ite hstop

theorem State.peerTimeLost_within : s.Within lostSpans s.peerTimeLost := by
  have hlost : s.Within lostSpans s.peerInvalid := (State.Within.refl s).upd rfl
  exact ((hlost.trans (State.srcLost_within _ 8)).andThen (State.alignRefresh_within _) timeSpans_subset_lost).ite (.refl s)

/-- The loss of the link has been recorded, and the stream given up or the synchronisation lost. -/
def State.linkBroken (s : State) : State :=
  let t := ((s.fault pgRED Red.F_LINK_LOST).trigger 0xE07 pgRED).peerTimeLost
  if t.stileHeld then t.tsxBreak else t.unsync

/-- The partner is not known any more. -/
def State.partnerGone (s : State) : State := s.setRed { s.red with view := none, asked := false, t1 := none }

theorem State.linkFell_eq : s.linkFell = s.linkBroken.partnerGone.syncRefresh.imageLinkLost := rfl

theorem State.linkBroken_within : s.Within linkSpans s.linkBroken := by
  have hlost : s.Within linkSpans ((s.fault pgRED Red.F_LINK_LOST).trigger 0xE07 pgRED).peerTimeLost :=
    (((State.Within.refl s).faultBit pageInfo_pgRED rfl (by decide) irqSpans_subset_link).andThen (State.trigger_within _ _ _)
      trigSpans_subset_link).andThen (State.peerTimeLost_within _) lostSpans_subset_link
  exact (hlost.andThen (State.tsxBreak_within _) tellSpans_subset_link).ite
    (hlost.andThen (State.unsync_within _) syncSpans_subset_link)

theorem State.linkFell_within : s.Within linkSpans s.linkFell :=
  ((s.linkBroken_within.trans (State.setRed_within _ _)).andThen (State.syncRefresh_within _) syncSpans_subset_link).andThen
    (State.imageLinkLost_within _) (by decide)

theorem State.linkBroken_rails : s.SameRails s.linkBroken := by
  have hlost : s.SameRails ((s.fault pgRED Red.F_LINK_LOST).trigger 0xE07 pgRED).peerTimeLost :=
    ((State.SameRails.refl s).upd (s.red_fault_trigger _ _)).upd
      (State.peerTimeLost_keeps (State.keeps_parts _ 0x2000000) (Keep.off_of_and (by decide))).red_eq
  exact (hlost.trans (State.tsxBreak_rails _)).ite (hlost.trans (State.unsync_rails _))

/-- The lanes are as before. -/
structure State.SameLanes (s t : State) : Prop where
  lock0 : t.red.lock0 = s.red.lock0
  lock1 : t.red.lock1 = s.red.lock1
  up0 : t.red.up0 = s.red.up0
  up1 : t.red.up1 = s.red.up1

variable {s} in
theorem State.SameLanes.trans {t u : State} (h : s.SameLanes t) (g : t.SameLanes u) : s.SameLanes u :=
  ⟨g.lock0.trans h.lock0, g.lock1.trans h.lock1, g.up0.trans h.up0, g.up1.trans h.up1⟩

variable {s} in
theorem State.SameRails.lanes {t : State} (h : s.SameRails t) : s.SameLanes t :=
  ⟨show t.red.rails.lock0 = s.red.rails.lock0 from congrArg RedState.lock0 h.same,
    show t.red.rails.lock1 = s.red.rails.lock1 from congrArg RedState.lock1 h.same,
    show t.red.rails.up0 = s.red.rails.up0 from congrArg RedState.up0 h.same,
    show t.red.rails.up1 = s.red.rails.up1 from congrArg RedState.up1 h.same⟩

theorem State.linkFell_lanes : s.SameLanes s.linkFell := by
  have hgone (a : State) : a.SameLanes a.partnerGone := ⟨rfl, rfl, rfl, rfl⟩
  have himage (a : State) : a.SameRails a.imageLinkLost :=
    (State.SameRails.refl a).upd (State.imageLinkLost_keeps (a.keeps_parts 0x2000000) (Keep.off_of_and (by decide))).red_eq
  rw [State.linkFell_eq]
  exact ((s.linkBroken_rails.lanes.trans (hgone _)).trans (State.syncRefresh_rails _).lanes).trans (himage _).lanes

/-- LANE_STATUS follows the lanes. -/
def State.lanesRead (s : State) : State :=
  let b (x : Bool) (n : Nat) : Nat := if x then n else 0
  s.setNat pgRED Red.LANE_STATUS (b s.red.lock0 1 + b s.red.up0 2 + b s.red.lock1 4 + b s.red.up1 8)

/-- LINK_STATE changes. -/
def State.linkTold (s : State) (n : Nat) : State := (s.setSts pgRED Red.S_LINK_STATE n).irq 343

theorem State.linkRefresh_eq : s.linkRefresh
    = if s.linkState = s.red.linkNow then s.lanesRead
      else (if s.red.linkNow = 0 then (s.lanesRead.linkTold s.red.linkNow).linkFell
        else (s.lanesRead.linkTold s.red.linkNow).syncRefresh).pinsRefresh := rfl

theorem State.linkRefresh_within : s.Within linkSpans s.linkRefresh := by
  have hread : s.Within linkSpans s.lanesRead := (State.Within.refl s).write
  have htold : s.Within linkSpans (s.lanesRead.linkTold s.red.linkNow) := (hread.setSts (by decide)).irq irqSpans_subset_link
  rw [State.linkRefresh_eq]
  exact hread.ite (((htold.trans (State.linkFell_within _)).ite
    (htold.andThen (State.syncRefresh_within _) syncSpans_subset_link)).andThen (State.pinsRefresh_within _) pinSpans_subset_link)

theorem State.linkRefresh_lanes : s.SameLanes s.linkRefresh := by
  have hread : s.SameRails s.lanesRead := (State.SameRails.refl s).setReg
  have htold : s.SameRails (s.lanesRead.linkTold s.red.linkNow) := hread.setReg.upd (State.red_irq _ _)
  have hpins (a : State) : a.SameLanes a.pinsRefresh := ((State.SameRails.refl a).upd a.red_pinsRefresh).lanes
  rw [State.linkRefresh_eq]
  split
  · exact hread.lanes
  · split
    · exact (htold.lanes.trans (State.linkFell_lanes _)).trans (hpins _)
    · exact (htold.trans (State.syncRefresh_rails _)).lanes.trans (hpins _)

theorem State.laneLock_lock (lane : Fin 2) (lock : Bool) :
    (if lane = 0 then (s.laneLock lane.val lock).red.lock0 else (s.laneLock lane.val lock).red.lock1)
      = (lock && s.laneOn lane.val && s.aclkRuns) := by
  unfold State.laneLock
  match lane with
  | 0 => exact (State.linkRefresh_lanes _).lock0
  | 1 => exact (State.linkRefresh_lanes _).lock1

theorem State.laneQuiet_up (lane : Fin 2) :
    (if lane = 0 then (s.laneQuiet lane.val).red.up0 else (s.laneQuiet lane.val).red.up1) = false := by
  unfold State.laneQuiet
  match lane with
  | 0 => exact (State.linkRefresh_lanes _).up0
  | 1 => exact (State.linkRefresh_lanes _).up1

/-! ### Sending again (R540) -/

theorem State.out_tsxPut (lane : Nat) (f : TsxFrame) : (s.tsxPut lane f).out = .tsx lane (s.tsxBytes f) :: s.out :=
  (State.count_same _ 1472 1).out

theorem State.tsxPut_within (lane : Nat) (f : TsxFrame) : s.Within (regSpan pgRED Red.TX_FRAMES :: countSpans) (s.tsxPut lane f) := by
  have hemit (o : Output) : s.Within (regSpan pgRED Red.TX_FRAMES :: countSpans) (s.emit o) := (State.Within.refl s).upd rfl
  exact (hemit _).write.count (List.subset_cons_self _ _)

/-- The frame is `from_` or a later one. -/
def sentFrom (from_ : Nat) (f : TsxFrame) : Bool := decide ((f.seq + 2 ^ 32 - from_) % 2 ^ 32 < 2 ^ 31)

/-- The frames from `from_` onward are counted as sent once more. -/
def resentFrames (from_ : Nat) (l : List TsxFrame) : List TsxFrame :=
  l.map (fun f => if sentFrom from_ f then { f with resent := f.resent + 1 } else f)

theorem sentFrom_resent (from_ : Nat) (f : TsxFrame) :
    sentFrom from_ (if sentFrom from_ f then { f with resent := f.resent + 1 } else f) = sentFrom from_ f := by
  have hseq (b : Bool) : (if b then { f with resent := f.resent + 1 } else f).seq = f.seq := by cases b <;> rfl
  exact congrArg (fun n => decide ((n + 2 ^ 32 - from_) % 2 ^ 32 < 2 ^ 31)) (hseq _)

theorem length_sentFrom_resentFrames (from_ : Nat) (l : List TsxFrame) :
    ((resentFrames from_ l).filter (sentFrom from_)).length = (l.filter (sentFrom from_)).length := by
  have hlate : sentFrom from_ ∘ (fun f => if sentFrom from_ f then { f with resent := f.resent + 1 } else f) = sentFrom from_ := by
    funext f
    rw [Function.comp_apply, sentFrom_resent]
  rw [resentFrames, List.filter_map, List.length_map, hlate]

/-- The frames have left again. -/
def State.framesAgain (s : State) (from_ : Nat) : State :=
  ((resentFrames from_ s.red.unacked).filter (sentFrom from_)).foldl (fun a f => a.tsxPut a.tsxLane f)
    (s.setRed { s.red with unacked := resentFrames from_ s.red.unacked })

/-- They are counted. -/
def State.framesCounted (s : State) (from_ : Nat) : State :=
  let n := ((resentFrames from_ s.red.unacked).filter (sentFrom from_)).length
  ((s.framesAgain from_).addReg pgRED Red.RETX_COUNT n).count 1474 n

theorem State.resendFrom_eq (from_ : Nat) : s.resendFrom from_
    = if ((resentFrames from_ s.red.unacked).filter (sentFrom from_)).any (fun f => decide (16 ≤ f.resent)) then
        ((s.framesCounted from_).setRed { (s.framesCounted from_).red with dead := true }).linkRefresh
      else s.framesCounted from_ := rfl

theorem State.resendFrom_counts (from_ : Nat) : (s.resendFrom from_).reg pgRED Red.RETX_COUNT
    = s.reg pgRED Red.RETX_COUNT + BitVec.ofNat 32 (s.red.unacked.filter (sentFrom from_)).length := by
  have hsent : s.Within (regSpan pgRED Red.TX_FRAMES :: countSpans) (s.framesAgain from_) :=
    (s.setRed_within _).foldl fun f _ a => a.tsxPut_within _ f
  have hcounted : (s.framesCounted from_).reg pgRED Red.RETX_COUNT
      = s.reg pgRED Red.RETX_COUNT + BitVec.ofNat 32 (s.red.unacked.filter (sentFrom from_)).length := by
    refine ((State.count_within 1474 _).reg (by decide)).trans ?_
    rw [State.addReg, State.reg_setReg_self, hsent.reg (by decide), length_sentFrom_resentFrames]
  have hlink (a : State) (r : RedState) : a.Within linkSpans (a.setRed r).linkRefresh :=
    (a.setRed_within r).trans (State.linkRefresh_within _)
  rw [State.resendFrom_eq]
  split
  · exact ((hlink _ _).reg (by decide)).trans hcounted
  · exact hcounted

/-! ### A frame arrives (R526, R540) -/

variable {s} {m : TsxMsg}

theorem State.rxFrame_bad (hlane : s.laneOn m.lane.val = true) (haclk : s.aclkRuns = true) (hbad : m.good = false) (f : State → State) :
    s.rxFrame m f = (((s.inc pgRED Red.RX_FRAMES).count 1473 1).inc pgRED Red.CRC_ERRORS).count 1475 1 := by
  unfold State.rxFrame
  rw [if_neg (by simp [hlane, haclk])]
  exact if_pos (by simp [hbad])

theorem State.rxFrame_heard (h : s.hears m = true) (f : State → State) : s.rxFrame m f = f (s.heard m) := by
  simp only [State.hears, Bool.and_eq_true] at h
  obtain ⟨⟨hlane, haclk⟩, hgood⟩ := h
  unfold State.rxFrame
  rw [if_neg (by simp [hlane, haclk])]
  exact if_neg (by simp [hgood])

/-- The view that a HELLO gives. -/
def helloView (p : List Byte) : PeerView :=
  ⟨beAt p 16 1 == 1, beAt p 17 1 == 1, (beAt p 18 1).testBit 0, (beAt p 18 1).testBit 1, beAt p 19 1 % 8⟩

/-- The partner's identity and view have come. -/
def State.peerNamed (s : State) (p : List Byte) : State :=
  (List.range 4).foldl (fun a j => a.setNat pgRED (Red.PEER_ID0 + 4 * j) (beAt p (12 - 4 * j) 4))
    (s.setRed { s.red with view := some (helloView p) })

/-- Two devices of one role are a fault; the standby of them does not claim. -/
def State.clashTold (s : State) (clash : Bool) : State :=
  if clash && !s.flag pgRED PAGE_FAULT Red.F_ROLE_CLASH then s.fault pgRED Red.F_ROLE_CLASH else s
def State.clashYields (s : State) (clash : Bool) : State :=
  if clash && !s.stileHeld && s.claimEnabled then
    (s.setBoth pgRED Red.PAIR_CTRL (clearBit (s.reg pgRED Red.PAIR_CTRL) 0)).claimChanged true else s

/-- A partner of another identity is a fault. -/
def State.partnerTold (s : State) : State :=
  if ((List.range 4).all (fun j => s.knownPeer j == s.reg pgRED (Red.PEER_ID0 + 4 * j))
      && (List.range 4).any (fun j => s.knownPeer j != 0)) || s.flag pgRED PAGE_FAULT Red.F_PARTNER_NEW then s
  else (s.fault pgRED Red.F_PARTNER_NEW).trigger 0xE06 pgRED

theorem State.peerHello_eq (s : State) (p : List Byte) : s.peerHello p
    = (((s.peerNamed p).clashTold ((beAt p 16 1 == 1) == s.dev.roleB)).clashYields ((beAt p 16 1 == 1) == s.dev.roleB)).partnerTold.syncRefresh :=
  rfl

/-- What a HELLO may write beside the partner's identity. -/
abbrev helloSpans : List Span := regSpan pgRED Red.PAIR_CTRL :: fldSpan pgRED PAGE_FAULT (Red.F_ROLE_CLASH, Red.F_ROLE_CLASH) ::
  fldSpan pgRED PAGE_FAULT (Red.F_PARTNER_NEW, Red.F_PARTNER_NEW) :: railSpans

theorem State.clashTold_within (s : State) (clash : Bool) : s.Within helloSpans (s.clashTold clash) :=
  ((State.Within.refl s).faultBit pageInfo_pgRED rfl (by decide) (by decide)).ite (.refl s)

theorem State.releaseStile_within (s : State) : s.Within railSpans s.releaseStile := (s.setRails_within _).ite (.refl s)

theorem State.claimChanged_within (s : State) (was : Bool) : s.Within railSpans (s.claimChanged was) :=
  s.releaseStile_within.ite ((s.setRed_within _).ite (.refl s))

theorem State.clashYields_within (s : State) (clash : Bool) : s.Within helloSpans (s.clashYields clash) := by
  have hboth (v : Word) : s.Within helloSpans (s.setBoth pgRED Red.PAIR_CTRL v) :=
    (State.Within.write (t := s) (v := v) (page := pgRED) (off := Red.PAIR_CTRL) (.refl s)).upd rfl
  exact ((hboth _).andThen (State.claimChanged_within _ true) (by decide)).ite (.refl s)

theorem State.partnerTold_within (s : State) : s.Within helloSpans s.partnerTold :=
  (State.Within.refl s).ite (((State.Within.refl s).faultBit pageInfo_pgRED rfl (by decide) (by decide)).andThen
    (State.trigger_within _ _ _) (by decide))

theorem State.setRails_view (s : State) (r : RedState) : (s.setRails r).red.view = r.view :=
  show (s.setRails r).red.rails.view = ((s.railsRead r).red.rails).view from congrArg RedState.view (s.setRails_rails r).same

theorem State.claimChanged_view (s : State) (was : Bool) : (s.claimChanged was).red.view = s.red.view := by
  have hrelease : s.releaseStile.red.view = s.red.view := by
    unfold State.releaseStile
    split
    · exact s.setRails_view _
    · rfl
  unfold State.claimChanged
  split
  · exact hrelease
  · split
    · rfl
    · rfl

theorem State.clashTold_view (s : State) (clash : Bool) : (s.clashTold clash).red.view = s.red.view := by
  unfold State.clashTold
  split
  · rw [State.red_fault]
  · rfl

theorem State.clashYields_view (s : State) (clash : Bool) : (s.clashYields clash).red.view = s.red.view := by
  unfold State.clashYields
  split
  · exact State.claimChanged_view _ _
  · rfl

theorem State.partnerTold_view (s : State) : s.partnerTold.red.view = s.red.view := by
  unfold State.partnerTold
  split
  · rfl
  · rw [State.red_fault_trigger]

theorem State.syncRefresh_view (s : State) : s.syncRefresh.red.view = s.red.view :=
  show s.syncRefresh.red.rails.view = s.red.rails.view from congrArg RedState.view s.syncRefresh_rails.same

theorem State.peerNamed_view (s : State) (p : List Byte) : (s.peerNamed p).red.view = some (helloView p) := by
  refine List.foldlRecOn (motive := fun a : State => a.red.view = some (helloView p)) _ _ rfl fun a ha j _ => ?_
  rw [State.setNat_eq, State.setReg_red]
  exact ha

theorem State.peerHello_view (s : State) (p : List Byte) : (s.peerHello p).red.view = some (helloView p) := by
  rw [State.peerHello_eq, State.syncRefresh_view, State.partnerTold_view, State.clashYields_view, State.clashTold_view,
    State.peerNamed_view]

theorem State.peerHello_id (s : State) (p : List Byte) {j : Nat} (hj : j < 4) :
    (s.peerHello p).nat pgRED (Red.PEER_ID0 + 4 * j) = beAt p (12 - 4 * j) 4 := by
  have hrest : (s.peerNamed p).Within helloSpans (s.peerHello p) := by
    rw [State.peerHello_eq]
    exact (((State.clashTold_within _ _).trans (State.clashYields_within _ _)).trans (State.partnerTold_within _)).andThen
      (State.syncRefresh_within _) (by decide)
  have hclear := (show ∀ n < 4, clearOf helloSpans (regKey pgRED (Red.PEER_ID0 + 4 * n)) by decide) j hj
  refine (hrest.nat hclear).trans ?_
  refine (State.nat_setNats (o := fun j => Red.PEER_ID0 + 4 * j) (v := fun j => beAt p (12 - 4 * j) 4) _ (fun i j h => ?_) hj).trans
    (beAt_mod_word _ _)
  omega

/-! ### The exchange of time (R549) -/

/-- What an exchange brings the timeline: PEER is valid while the link stands, and a servo event. -/
def State.peerServo (s : State) (e : Rat) (t : Option Rat) : State :=
  let b := ({ s with tln := { s.tln with peerValid := s.linkUp } }).tlnSettle
  ((if b.tlSrc = 8 then b.servoEvent e t else b).alignRefresh).resyncCheck

theorem State.peerServo_rails (s : State) (e : Rat) (t : Option Rat) : s.SameRails (s.peerServo e t) := by
  have hsettle (a : State) : a.SameRails a.tlnSettle :=
    (State.SameRails.refl a).upd (State.tlnSettle_keeps (a.keeps_parts 0x2000000) (Keep.off_of_and (by decide))).red_eq
  have hservo (a : State) : a.SameRails (a.servoEvent e t) :=
    (State.SameRails.refl a).upd (State.servoEvent_keeps (a.keeps_parts 0x2000000) (Keep.off_of_and (by decide))).red_eq
  have hvalid (x : TlnState) : s.SameRails { s with tln := x } := ⟨rfl⟩
  have halign (a : State) : a.SameRails a.alignRefresh := (State.SameRails.refl a).upd a.red_alignRefresh
  have hstart := (hvalid { s.tln with peerValid := s.linkUp }).trans (hsettle _)
  exact (((hstart.trans (hservo _)).ite hstart).trans (halign _)).trans (State.resyncCheck_rails _)

theorem State.red_sample (s : State) (kind inst : Nat) (v : Int) : (s.sample kind inst v).red = s.red :=
  (State.sample_keeps (s.keeps_parts 0x2000000) (Keep.off_of_and (by decide))).red_eq

/-- A matching answer completes the exchange. -/
theorem State.peerExchange_completes {p : List Byte} (hheld : s.stileHeld = false)
    (ht1 : s.red.t1 = some (TimeVal.ofWire (slice p 0 12)).q8.toNat) :
    ∃ (b : State) (e : Rat) (t : Option Rat), s.peerExchange p = b.peerServo e t ∧ b.red.t1 = none ∧
      b.red.lastExchange = some s.tln.now := by
  unfold State.peerExchange
  dsimp only
  rw [if_neg (by simp [ht1, hheld])]
  refine ⟨_, _, _, rfl, ?_, ?_⟩
  · rw [State.red_sample]
    rfl
  · rw [State.red_sample]
    rfl

theorem State.peerExchange_red {p : List Byte} (hheld : s.stileHeld = false)
    (ht1 : s.red.t1 = some (TimeVal.ofWire (slice p 0 12)).q8.toNat) :
    (s.peerExchange p).red.t1 = none ∧ (s.peerExchange p).red.lastExchange = some s.tln.now := by
  obtain ⟨b, e, t, heq, hb, hlast⟩ := State.peerExchange_completes hheld ht1
  have hrails := (b.peerServo_rails e t).same
  rw [heq]
  exact ⟨(show (b.peerServo e t).red.rails.t1 = b.red.rails.t1 from congrArg RedState.t1 hrails).trans hb,
    (show (b.peerServo e t).red.rails.lastExchange = b.red.rails.lastExchange from congrArg RedState.lastExchange hrails).trans hlast⟩

end

section
variable {s a : State}

theorem State.out_tsxLink (s : State) (lane type : Nat) (d : List Byte) :
    (s.tsxLink lane type d).out = .tsx lane (s.tsxBytes ⟨0, type, 3, s.nat pgRED Red.SYNC_GEN, d, 0⟩) :: s.out := s.out_tsxPut _ _

theorem State.red_tsxLink (s : State) (lane type : Nat) (d : List Byte) : (s.tsxLink lane type d).red = s.red := State.red_count _ _ _

theorem State.reachTick_leaves {key step off : Nat} (h : s.reachTick key step off = some a) : a.red = s.red ∧ a.out = s.out ∧
    ∀ o, a.nat pgRED o = s.nat pgRED o := by
  obtain ⟨b, hb, rfl⟩ := Option.map_eq_some_iff.1 h
  exact ⟨(State.reach_parts hb).red_eq, (State.reach_leaves hb).1, fun o => congrArg BitVec.toNat (State.reach_reg_red hb o)⟩

theorem State.sendTimeReq_reached (hheld : s.stileHeld = false) (hlink : s.linkUp = true) (h : s.reachTick tickPair MS 0 = some a) :
    s.sendTimeReq.red.t1 = some a.tsxStamp.q8.toNat ∧
      s.sendTimeReq.out = .tsx s.tsxLane (s.tsxBytes ⟨0, 0x04, 3, s.nat pgRED Red.SYNC_GEN, a.tsxStamp.wireBytes, 0⟩) :: s.out := by
  obtain ⟨hred, hout, hnat⟩ := State.reachTick_leaves h
  have heq : s.sendTimeReq
      = (a.setRed { a.red with t1 := some a.tsxStamp.q8.toNat }).tsxLink a.tsxLane 0x04 a.tsxStamp.wireBytes := by
    unfold State.sendTimeReq
    rw [if_neg (by simp [hheld, hlink]), State.atTick_reached h]
  have hlane : a.tsxLane = s.tsxLane := by rw [State.tsxLane, hred, State.tsxLane]
  have hbytes (f : TsxFrame) : (a.setRed { a.red with t1 := some a.tsxStamp.q8.toNat }).tsxBytes f = s.tsxBytes f := by
    simp only [State.tsxBytes, State.setRed, hred]
  rw [heq, State.red_tsxLink, State.out_tsxLink, hbytes, hlane]
  refine ⟨rfl, ?_⟩
  show Output.tsx s.tsxLane (s.tsxBytes ⟨0, 0x04, 3, a.nat pgRED Red.SYNC_GEN, a.tsxStamp.wireBytes, 0⟩) :: a.out = _
  rw [hnat, hout]

theorem State.retxTimeout_sends {f : TsxFrame} {rest : List TsxFrame} (hf : s.red.unacked = f :: rest) (hlink : s.linkUp = true) :
    s.retxTimeout = s.resendFrom f.seq := by
  unfold State.retxTimeout
  rw [hf]
  exact if_pos hlink

end

end Sys2Proof.Machine

open Sys2Proof Sys2Proof.Machine

/-- Settles O39: what a frame, a lane and an exchange do, the loss of the link in between leaving the lanes and the counts alone. -/
theorem linkFramesAct : Obligations.LinkFramesAct := by
  unfold Obligations.LinkFramesAct
  refine ⟨fun s m k hlane haclk hbad c hc => ?_, fun s m h => ?_, fun s a m hheld hlink h => ⟨_, ?_, State.sendTimeReq_reached hheld hlink h⟩,
    fun s lane hlane haclk => ⟨_, congrArg Host.Outcome.next (if_pos (by simp [hlane, haclk])), State.out_tsxLink _ _ _ _⟩,
    fun s lane lock => ⟨_, rfl, s.laneLock_lock lane lock⟩, fun s lane => ⟨_, rfl, s.laneQuiet_up lane⟩,
    fun s f rest hf hlink => ⟨_, rfl, ?_⟩⟩
  · have hframe (g : State → State) : Host.Outcome.next (s.rxFrame m g) = (Host.Outcome.next
        ((((s.inc pgRED Red.RX_FRAMES).count 1473 1).inc pgRED Red.CRC_ERRORS).count 1475 1) : Host.Outcome State Fault Refusal) :=
      congrArg Host.Outcome.next (State.rxFrame_bad hlane haclk hbad g)
    simp only [List.mem_cons, List.not_mem_nil, or_false] at hc
    rcases hc with rfl | rfl | rfl | rfl | rfl | rfl | rfl | rfl | rfl | rfl | rfl | rfl | rfl | rfl | rfl | rfl | rfl | rfl | rfl |
      rfl | rfl | rfl | rfl | rfl | rfl | rfl | rfl | rfl | rfl | rfl
    all_goals exact hframe _
  · refine ⟨congrArg Host.Outcome.next (State.rxFrame_heard h _),
      ⟨_, congrArg Host.Outcome.next (State.rxFrame_heard h _), State.peerHello_view _ _, fun j hj => State.peerHello_id _ _ hj⟩,
      congrArg Host.Outcome.next (State.rxFrame_heard h _),
      fun hheld => congrArg Host.Outcome.next ((if_pos hheld).trans (State.rxFrame_heard h _)),
      fun hheld ht1 => ⟨_, congrArg Host.Outcome.next (State.rxFrame_heard h _), State.peerExchange_red hheld ht1⟩⟩
  · exact congrArg Host.Outcome.next (if_neg (by simp [hheld]))
  · rw [State.retxTimeout_sends hf hlink]
    exact State.resendFrom_counts _ _

end

section
/-!
The delivery of sequenced frames, and what the messages of roles, synchronisation and management do (R540, R554 to R556, R564, R593,
R645): O41; and O40, whose clause on mirrored memory leaves out the register-image part.
-/
set_option Elab.async false
namespace Sys2Proof.Machine

/-! ### Delivery in turn (R540) -/

section
variable {s : State} {m : TsxMsg}

/-- The frame that a message carries. -/
def framed (m : TsxMsg) (type plane : Nat) (payload : List Byte) : TsxFrame :=
  ⟨m.seq % 2 ^ 32, type, plane, m.gen % 2 ^ 32, payload, 0⟩

theorem State.rxSequenced_next (s : State) (lane : Nat) {f : TsxFrame} (h : f.seq = s.red.rxNext) :
    s.rxSequenced lane f = s.deliverFrom f (s.red.rxHeld.length + 1) := by
  have hturn : (f.seq + 2 ^ 32 - s.red.rxNext) % 2 ^ 32 = 0 := by rw [h, Nat.add_sub_cancel_left, Nat.mod_self]
  exact if_pos hturn

/-- The frame expected next is delivered, and the held ones after it. -/
theorem State.rxSeq_next (h : s.takesNext m = true) (type plane : Nat) (payload : List Byte) :
    s.rxSeq m type plane payload = s.andHeld ((s.expecting m).deliver (framed m type plane payload)) m := by
  simp only [State.takesNext, Bool.and_eq_true, beq_iff_eq] at h
  obtain ⟨hheard, hnext⟩ := h
  rw [State.rxSeq, State.rxFrame_heard hheard, State.rxSequenced_next _ _ (by exact hnext)]
  rfl

/-- A frame of the control or management plane is delivered whatever its generation. -/
theorem State.deliver_control {b : State} {plane : Nat} (hplane : plane ≠ 0) (p : List Byte) :
    b.deliver (framed m 0x20 plane p) = b.rxRole p ∧ b.deliver (framed m 0x21 plane p) = b.rxSync p ∧
    b.deliver (framed m 0x30 plane p) = b.rxThermal p ∧ b.deliver (framed m 0x31 plane p) = b.rxRecord p ∧
    b.deliver (framed m 0x32 plane p) = b.imageRx p :=
  ⟨if_neg fun h => hplane h.1, if_neg fun h => hplane h.1, if_neg fun h => hplane h.1, if_neg fun h => hplane h.1,
    if_neg fun h => hplane h.1⟩

theorem exec_role (h : s.takesNext m = true) (op : Nat) :
    s.rxSeq m 0x20 1 (withOp op m.payload) = s.andHeld ((s.expecting m).rxRole (withOp op m.payload)) m := by
  rw [State.rxSeq_next h, (State.deliver_control Nat.one_ne_zero _).1]

theorem exec_sync (h : s.takesNext m = true) (op : Nat) :
    s.rxSeq m 0x21 1 (withOp op m.payload) = s.andHeld ((s.expecting m).rxSync (withOp op m.payload)) m := by
  rw [State.rxSeq_next h, (State.deliver_control Nat.one_ne_zero _).2.1]

theorem exec_image (h : s.takesNext m = true) (op : Nat) :
    s.rxSeq m 0x32 2 (withOp op m.payload) = s.andHeld ((s.expecting m).imageRx (withOp op m.payload)) m := by
  rw [State.rxSeq_next h, (State.deliver_control (by decide) _).2.2.2.2]

theorem exec_thermal (h : s.takesNext m = true) :
    s.rxSeq m 0x30 2 m.payload = s.andHeld ((s.expecting m).rxThermal m.payload) m := by
  rw [State.rxSeq_next h, (State.deliver_control (by decide) _).2.2.1]

theorem exec_record (h : s.takesNext m = true) :
    s.rxSeq m 0x31 2 m.payload = s.andHeld ((s.expecting m).rxRecord m.payload) m := by
  rw [State.rxSeq_next h, (State.deliver_control (by decide) _).2.2.2.1]

end

/-! ### ROLE and SYNC by their OP -/

section
variable (s : State) (p : List Byte)

theorem State.rxRole_swapReq : s.rxRole (withOp 1 p) = s.planSwap := by simp [State.rxRole, beAt_withOp_zero]
theorem State.rxRole_swapAt : s.rxRole (withOp 2 p) = s.rxSwapAt (withOp 2 p) := by simp [State.rxRole, beAt_withOp_zero]
theorem State.rxRole_swapAck : s.rxRole (withOp 3 p) = s.rxSwapAck := by simp [State.rxRole, beAt_withOp_zero]
theorem State.rxRole_revertReq : s.rxRole (withOp 5 p) = s.planSwap := by simp [State.rxRole, beAt_withOp_zero]
theorem State.rxRole_swapCancel (h : s.stileHeld = false) : s.rxRole (withOp 4 p) = s.setRed { s.red with plan := none } := by
  simp [State.rxRole, beAt_withOp_zero, h]

theorem State.rxSync_resyncReq : s.rxSync (withOp 1 p) = s.beginCopy := by simp [State.rxSync, beAt_withOp_zero]
theorem State.rxSync_copyBegin : s.rxSync (withOp 2 p) = s.copyBegun (beAt (p.drop 1) 3 4) := by
  simp [State.rxSync, beAt_withOp_zero, beAt_withOp 2 p 3 4]
theorem State.rxSync_break : s.rxSync (withOp 4 p) = s.unsync := by simp [State.rxSync, beAt_withOp_zero]
theorem State.rxSync_converged : s.rxSync (withOp 5 p) = s.rxConverged (withOp 5 p) := by simp [State.rxSync, beAt_withOp_zero]

theorem slice_drop_one (o n : Nat) : slice (p.drop 1) o n = slice p (o + 1) n := by
  rw [slice, slice, List.drop_drop, Nat.add_comm 1 o]

theorem State.rxSync_cutover (h : s.stileHeld = false) (hsync : s.syncState = 1) : s.rxSync (withOp 3 p)
    = s.setRed { s.red with cutover := some (roundGrid (((TimeVal.ofWire (slice p 8 12)).units : Nat) : Int)).toNat } := by
  have hslice : slice (withOp 3 p) 8 12 = slice p 8 12 := (slice_withOp 3 p 7 12).trans (slice_drop_one p 7 12)
  simp [State.rxSync, beAt_withOp_zero, h, hsync, hslice]

/-! ### Copies and synchronisation (R554, R555) -/

theorem State.syncState_setNat_gen (n : Nat) : (s.setNat pgRED Red.SYNC_GEN n).syncState = s.syncState := by
  have hset : s.Within [regSpan pgRED Red.SYNC_GEN] (s.setNat pgRED Red.SYNC_GEN n) := (State.Within.refl s).write
  exact hset.sts (by decide) _

/-- A following device that takes COPY_BEGIN is COPYING in the generation named. -/
theorem State.copyBegun_follows (h : s.stileHeld = false) (gen : Nat) :
    (s.copyBegun gen).syncState = 1 ∧ (s.copyBegun gen).nat pgRED Red.SYNC_GEN = gen % 2 ^ 32 := by
  have hred (a : State) (r : RedState) : (a.setRed r).syncState = a.syncState := (a.setRed_within (l := []) r).sts (by decide) _
  have hone : ((s.setSync 0).setSync 1).syncState = 1 := by
    rw [State.syncState_setSync]
    split
    · next h1 => exact h1
    · rfl
  unfold State.copyBegun
  rw [if_neg (by simp [h])]
  exact ⟨(State.syncState_setNat_gen _ _).trans ((hred _ _).trans hone), State.nat_setNat_same _ _ _ _⟩

theorem State.pumpCopy_within (n : Nat) : s.Within (regSpan pgRED Red.COPY_DONE :: tellSpans) (s.pumpCopy n) := by
  induction n generalizing s with
  | zero => exact .refl s
  | succ n ih =>
    unfold State.pumpCopy
    split
    · exact .refl s
    · split
      · exact .refl s
      · have hsent (c : CopySpan) (i : Nat) : s.Within (regSpan pgRED Red.COPY_DONE :: tellSpans) (s.tsxSend 0x22 0 (s.copyBlock c i)) :=
          (s.tsxSend_within _ _ _).mono (List.subset_cons_self _ _)
        exact (((hsent _ _).trans (State.setRed_within _ _)).write).trans (ih _)

/-- COPY_BEGIN has been sent in a new generation. -/
theorem State.beginCopy_generation (hheld : s.stileHeld = true) (hlink : s.linkUp = true) :
    s.beginCopy.reg pgRED Red.SYNC_GEN = s.reg pgRED Red.SYNC_GEN + 1 ∧ s.beginCopy.stileHeld = true := by
  have hrest (a : State) (r : RedState) (d : State → List Byte) (n : State → Nat) :
      a.Within (regSpan pgRED Red.COPY_TOTAL :: regSpan pgRED Red.COPY_DONE :: tellSpans)
        (((((a.setRed r).tsxSend 0x21 1 (d (a.setRed r))).setNat pgRED Red.COPY_TOTAL
          (n ((a.setRed r).tsxSend 0x21 1 (d (a.setRed r))))).setNat pgRED Red.COPY_DONE 0).pumpCopy 64) :=
    ((((a.setRed_within r).andThen (State.tsxSend_within _ _ _ _) (by decide)).write).write).andThen (State.pumpCopy_within _ _) (by decide)
  have hbegun : (s.inc pgRED Red.SYNC_GEN).Within (regSpan pgRED Red.COPY_TOTAL :: regSpan pgRED Red.COPY_DONE :: tellSpans) s.beginCopy := by
    unfold State.beginCopy
    rw [if_neg (by simp [hheld, hlink])]
    exact hrest _ _ (fun b => beBytes 1 2 ++ beBytes 3 0 ++ beBytes 4 (b.nat pgRED Red.SYNC_GEN) ++ b.nowWire)
      (fun b => copyKib b.copySpans)
  have hinc : s.Within [regSpan pgRED Red.SYNC_GEN] (s.inc pgRED Red.SYNC_GEN) := (State.Within.refl s).write
  exact ⟨(hbegun.reg (by decide)).trans (State.reg_setReg_self _ _ _ _),
    (State.stileHeld_congr (hbegun.sts (by decide) _)).trans ((State.stileHeld_congr (hinc.sts (by decide) _)).trans hheld)⟩

/-- The standby is synchronised in some way. -/
def State.takesPart (s : State) : Bool := !s.stileHeld && (s.syncState == 1 || s.syncState == 3 || s.syncState == 4)

theorem State.unsync_takesPart (h : s.takesPart = true) : s.unsync.syncState = 0 := by
  have heq : s.unsync = s.setSync 0 := if_pos h
  rw [heq, State.syncState_setSync]
  split
  · next h0 => exact h0
  · rfl

theorem State.dropOut_eq : s.dropOut = if s.takesPart = true then (s.fault pgRED Red.F_LAG).unsync else s := rfl

theorem State.takesPart_iff : s.takesPart = true ↔ s.stileHeld = false ∧ (s.syncState = 1 ∨ s.syncState = 3 ∨ s.syncState = 4) := by
  simp [State.takesPart, or_assoc]

theorem State.planSwap_searches (hheld : s.stileHeld = true) (hplan : s.red.plan = none) (hcheck : s.red.pathCheck = none)
    (hrun : s.swathState (s.fld pgRED Red.PAIR_CTRL Red.SWAP_SWATH) = 2) :
    s.planSwap = s.setRed { s.red with plan := some ⟨s.tln.now, none, false⟩ } := by
  unfold State.planSwap
  rw [if_neg (by simp [hheld, hplan, hcheck])]
  exact if_pos hrun

theorem State.rxSwapAck_acks {asked x : Nat} {done : Bool} (hheld : s.stileHeld = true) (hplan : s.red.plan = some ⟨asked, some x, done⟩)
    (hearly : s.tln.now + 10000 * NS ≤ timeOfUnits x) : s.rxSwapAck = s.setRed { s.red with plan := some ⟨asked, some x, true⟩ } := by
  unfold State.rxSwapAck
  rw [hplan]
  exact if_pos ⟨hheld, hearly⟩

end

/-! ### Mirrored memory (R545, R46) -/

/-- A mirrored byte of the register-image part is dropped, as any write of it is. -/
theorem State.setMirrored_image (s : State) {a : Nat} (h : isImage a = true) (b : Byte) : s.setMirrored a [b] = s := by
  have hset : s.setByte a b = s := if_neg (by simp [h])
  simp only [State.setMirrored, hset, ite_self]

theorem State.byte_rxMemWrite_image (s : State) {p : List Byte} {b : Byte} (hd : p.drop 8 = [b])
    (h : isImage (beAt p 0 8 % 2 ^ 40) = true) (x : Nat) : (s.rxMemWrite p).byte x = s.byte x := by
  have hkept : s.rxMemWrite p = s.count 1476 1 := by
    rw [State.rxMemWrite, hd, s.setMirrored_image h]
    rfl
  have hsame := s.count_same 1476 1
  rw [hkept, State.byte, State.byte, hsame.mem, hsame.boot]

end Sys2Proof.Machine

open Sys2Proof Sys2Proof.Machine

/-- Settles O41: a frame in its turn reaches the function of its TYPE and OP, and those of roles and copies set what they name. -/
theorem rolesAndManagementAreTold : Obligations.RolesAndManagementAreTold := by
  unfold Obligations.RolesAndManagementAreTold
  refine ⟨fun s m h => ?_, fun s => s.planSwap_searches, fun s asked x done hheld hplan hearly => s.rxSwapAck_acks hheld hplan hearly,
    fun s gen h => s.copyBegun_follows h gen, fun s => s.beginCopy_generation, fun s => ⟨fun hheld hsync => ?_, fun hout => ?_⟩⟩
  · have hto {t u : State} (ht : t = s.andHeld u m) {v : State} (hv : u = v) :
        (Host.Outcome.next t : Host.Outcome State Fault Refusal) = .next (s.andHeld v m) := by rw [ht, hv]
    exact ⟨hto (exec_role h 1) (State.rxRole_swapReq _ _), hto (exec_role h 2) (State.rxRole_swapAt _ _),
      hto (exec_role h 3) (State.rxRole_swapAck _ _), fun hheld => hto (exec_role h 4) (State.rxRole_swapCancel _ _ hheld),
      hto (exec_role h 5) (State.rxRole_revertReq _ _), hto (exec_sync h 1) (State.rxSync_resyncReq _ _),
      hto (exec_sync h 2) (State.rxSync_copyBegin _ _), fun hheld hsync => hto (exec_sync h 3) (State.rxSync_cutover _ _ hheld hsync),
      hto (exec_sync h 4) (State.rxSync_break _ _), hto (exec_sync h 5) (State.rxSync_converged _ _), hto (exec_thermal h) rfl,
      hto (exec_record h) rfl, hto (exec_image h 1) rfl, hto (exec_image h 2) rfl, hto (exec_image h 3) rfl, hto (exec_image h 4) rfl⟩
  · have hfollows := s.takesPart_iff.2 ⟨hheld, hsync⟩
    exact ⟨s.unsync_takesPart hfollows, congrArg Host.Outcome.next (s.dropOut_eq.trans (if_pos hfollows))⟩
  · refine congrArg Host.Outcome.next (s.dropOut_eq.trans (if_neg fun hfollows => ?_))
    obtain ⟨hheld, hsync⟩ := s.takesPart_iff.1 hfollows
    rcases hout with hout | ⟨h1, h3, h4⟩
    · exact Bool.false_ne_true (hheld.symm.trans hout)
    · exact hsync.elim h1 fun h => h.elim h3 h4

/-- Refutes O40: a mirrored byte addressed to the register-image part of FeRAM is dropped (R46), where the clause on memory has it
stored. -/
theorem not_lockstepIsApplied : ¬ Obligations.LockstepIsApplied := by
  unfold Obligations.LockstepIsApplied
  rintro ⟨-, hmem, -⟩
  have hbyte := hmem State.reset ([0, 0, 0, 0, 1, 0xF0, 0, 0] ++ [1]) 0x1F00000
  rw [State.byte_rxMemWrite_image State.reset (b := 1) rfl (by decide)] at hbyte
  revert hbyte
  decide

end

section
/-!
Field ports: releases, attempts, collisions, the end of a frame, and PLCA (R434 to R442): O34.
-/
set_option Elab.async false
namespace Sys2Proof.Machine

/-! ### A packet leaves a queue -/

section
variable (s : State)

/-- What taking a packet from a queue may write: the queue pages, and what a trigger writes. -/
abbrev popSpans : List Span := pageSpan (pgQUE 0) (pgQUE 16) :: trigSpans

theorem irqSpans_subset_pop : irqSpans ⊆ popSpans := by decide

variable {j : Nat} (hj : j < 16) (q : Nat)
include hj

theorem State.quePage_within {off : Nat} (v : Word) (hoff : off < 0x1000) : s.Within popSpans (s.setReg (pgQUE j) off v) :=
  (State.Within.refl s).setPage (p := pgQUE 0) (q := pgQUE 16) List.mem_cons_self (by simp only [pgQUE]; omega)
    (by simp only [pgQUE]; omega) hoff

theorem State.levels_pop : s.Within popSpans (s.queueLevels j) :=
  ((State.Within.refl s).foldl fun _ _ a => a.quePage_within hj _ (by decide)).setLevel irqSpans_subset_pop

theorem State.queuePop_within (hq : q < 4) : s.Within popSpans (s.queuePop j q) := by
  have hset (x : Queue) : s.Within popSpans (s.setQueue j q x) := (State.Within.refl s).upd rfl
  have hdrops (a : State) (v : Word) : a.Within popSpans (a.setReg (pgQUE j) (Que.Q_DROPS q) v) :=
    a.quePage_within hj v ((show ∀ n < 4, Que.Q_DROPS n < 0x1000 by decide) q hq)
  have herror (a : State) (b : Nat) : a.Within popSpans (a.queueError j q b) :=
    (a.quePage_within hj _ ((show ∀ n < 4, Que.Q_STATUS n < 0x1000 by decide) q hq)).irq irqSpans_subset_pop
  have hupset (b : Bool) : s.Within popSpans (s.queueUpset j q b) :=
    ((((hset _).trans (hdrops _ _)).trans (herror _ _)).trans (State.levels_pop _ hj)).andThen (State.trigger_within _ _ _)
      (List.subset_cons_self _ _)
  unfold State.queuePop
  split
  · exact .refl s
  · exact (hupset _).ite ((State.Within.refl s).ite ((hset _).trans (State.levels_pop _ hj)))

theorem State.popTimes_within (hq : q < 4) (n : Nat) : s.Within popSpans (s.popTimes j q n) := by
  induction n generalizing s with
  | zero => exact .refl s
  | succ n ih => exact (s.queuePop_within hj q hq).trans (ih _)

theorem State.popPacket_within (hq : q < 4) : s.Within popSpans (s.popPacket j q) := s.popTimes_within hj q hq _

omit hj in
theorem timePage_que (off : Nat) : timePage (regKey (pgQUE j) off / 0x1000) = false :=
  timePage_late (by simp only [pgSTR, pgQUE]; omega)

omit hj in
/-- Taking a packet does not enter or leave Doze by itself. -/
theorem State.queuePop_steady {P : Nat → Bool} : s.Steady P (s.queuePop j q) := by
  have hset (x : Queue) : s.Steady P (s.setQueue j q x) := (State.Steady.refl s).upd rfl
  have hupset (b : Bool) : s.Steady P (s.queueUpset j q b) :=
    (((State.Steady.setReg (hset _) (timePage_que _)).trans (State.Steady.irq (State.Steady.setReg (.refl _) (timePage_que _)))).trans
      (State.queueLevels_steady _ j)).trans (State.trigger_steady _ _ _)
  unfold State.queuePop
  split
  · exact .refl s
  · exact (hupset _).ite ((State.Steady.refl s).ite ((hset _).trans (State.queueLevels_steady _ j)))

omit hj in
theorem State.popPacket_steady {P : Nat → Bool} : s.Steady P (s.popPacket j q) := by
  have htimes (n : Nat) (a : State) : a.Steady P (a.popTimes j q n) := by
    induction n generalizing a with
    | zero => exact .refl a
    | succ n ih => exact (a.queuePop_steady q).trans (ih _)
  exact htimes _ s

end

/-! ### Slots and releases (R434, R435) -/

section
variable {s a : State} {k : Fin 8} {l : Launch}

@[simp] theorem State.fieldOf_setField (s : State) (k : Nat) (v : FieldState) : (s.setField k v).fieldOf k = v := Tab.get_set_self _ _ _ _

theorem State.fieldOf_congr {t : State} (h : t.field = s.field) (k : Nat) : t.fieldOf k = s.fieldOf k := by
  rw [State.fieldOf, h, State.fieldOf]

theorem State.fldSlotCheck_reached (hl : earliest ((s.launches (keyFLD k)).filter (fun l => l.choice.isNone)) = some l)
    (h : s.reach (timeOfUnits (l.at_ - 2000 * LU)) = some a) (hmay : a.mayLaunch (keyFLD k) (pgFLD k) l.swath = true) :
    s.fldSlotCheck k = (a.checkSlot (keyFLD k) (pgFLD k) Fld.UNDERRUNS Fld.F_UNDERRUN (a.flag (pgFLD k) Fld.FLD_MODE 3) l.frame).1.chooseLaunch
      (keyFLD k) l (a.checkSlot (keyFLD k) (pgFLD k) Fld.UNDERRUNS Fld.F_UNDERRUN (a.flag (pgFLD k) Fld.FLD_MODE 3) l.frame).2 :=
  State.slotCheckAt_reached _ hl h hmay

/-- What a field port's own counts and faults may write. -/
abbrev fieldSpans (k : Nat) : List Span := regSpan (pgFLD k) Fld.LATE_COLLS :: regSpan (pgFLD k) Fld.EXCESS_COLLS ::
  regSpan (pgFLD k) PAGE_FAULT :: regSpan (pgFLD k) PAGE_STATUS :: tellSpans

theorem irqSpans_subset_fld (k : Nat) : irqSpans ⊆ fieldSpans k := by
  refine List.Subset.trans irqSpans_subset_tell ?_
  simp only [fieldSpans]
  exact fun x hx => List.mem_cons_of_mem _ (List.mem_cons_of_mem _ (List.mem_cons_of_mem _ (List.mem_cons_of_mem _ hx)))

theorem tellSpans_subset_fld (k : Nat) : tellSpans ⊆ fieldSpans k :=
  fun _ hx => List.mem_cons_of_mem _ (List.mem_cons_of_mem _ (List.mem_cons_of_mem _ (List.mem_cons_of_mem _ hx)))

theorem clearOf_port (k : Fin 8) {off : Nat} (h : off = Fld.ATTEMPTS ∨ off = Fld.COLLISIONS ∨ off = Fld.TX_FRAMES ∨ off = Fld.UNDERRUNS) :
    clearOf (fieldSpans k) (regKey (pgFLD k) off) := by
  have hall : ∀ k : Fin 8, ∀ off ∈ [Fld.ATTEMPTS, Fld.COLLISIONS, Fld.TX_FRAMES, Fld.UNDERRUNS],
      clearOf (fieldSpans k) (regKey (pgFLD k) off) := by decide
  exact hall k off (by simpa using h)

theorem State.fault_port (s : State) (k : Fin 8) (n : Nat) (hn : n < 32 := by decide) :
    s.Within (fieldSpans k) (s.fault (pgFLD k) n) := by
  rw [s.fault_eq_faultHere (pageInfo_pgFLD k) rfl]
  exact State.Within.faultHere (.refl s) (i := regSpan (pgFLD k) PAGE_FAULT) (by simp) (by dsimp only [regSpan]; omega)
    (by dsimp only [regSpan]; omega) hn (irqSpans_subset_fld k)

theorem State.fldSlotCheck_holds (hl : earliest ((s.launches (keyFLD k)).filter (fun l => l.choice.isNone)) = some l)
    (h : s.reach (timeOfUnits (l.at_ - 2000 * LU)) = some a) (hmay : a.mayLaunch (keyFLD k) (pgFLD k) l.swath = true)
    (hslot : (a.portOf (keyFLD k)).holds l.frame = true) : s.fldSlotCheck k = a.chooseLaunch (keyFLD k) l (some l.frame) := by
  rw [State.fldSlotCheck_reached hl h hmay, State.checkSlot_holds hslot]

theorem State.fldSlotCheck_missing (hl : earliest ((s.launches (keyFLD k)).filter (fun l => l.choice.isNone)) = some l)
    (h : s.reach (timeOfUnits (l.at_ - 2000 * LU)) = some a) (hmay : a.mayLaunch (keyFLD k) (pgFLD k) l.swath = true)
    (hslot : (a.portOf (keyFLD k)).holds l.frame = false) :
    (s.fldSlotCheck k).reg (pgFLD k) Fld.UNDERRUNS = a.reg (pgFLD k) Fld.UNDERRUNS + 1 := by
  rw [State.fldSlotCheck_reached hl h hmay, State.checkSlot_missing hslot]
  exact ((State.fault_port (a.inc (pgFLD k) Fld.UNDERRUNS) k Fld.F_UNDERRUN).reg (clearOf_port k (by simp))).trans (State.reg_setReg_self _ _ _ _)

theorem State.slotFrames_congr {t : State} (hmem : t.mem = s.mem) (hboot : t.boot = s.boot) (x n : Nat) :
    t.slotFrames x n = s.slotFrames x n := by
  induction n generalizing x with
  | zero => rfl
  | succ n ih => simp only [State.slotFrames, State.mem_, State.bytes_congr hmem hboot, ih]

theorem State.fldFrames_congr {t : State} (hmem : t.mem = s.mem) (hboot : t.boot = s.boot) (hport : t.port = s.port) (k slot : Nat) :
    t.fldFrames k slot = s.fldFrames k slot := by
  rw [State.fldFrames, State.portOf_congr hport, State.slotFrames_congr hmem hboot, State.fldFrames]

theorem State.fldStale_parts (s : State) (k n : Nat) : State.Keeps ⟨s.pending, s, 0x7FFFDFE680, false⟩ (s.fldStale k n) :=
  State.fldStale_keeps (s.keeps_parts 0x7FFFDFE680) (Keep.off_of_and (by decide))

/-- A release: the frames of the slot are those to send, and the content is the one shown. -/
theorem State.fldRelease_leaves (s : State) (k g : Nat) : let t := s.fldRelease k g
    (t.fieldOf k).released = s.fldFrames k (g % 2) ∧ (t.portOf (keyFLD k)).emitted = some g ∧ t.launch = s.launch := by
  have hframes (n : Nat) : (s.fldStale k n).fldFrames k (g % 2) = s.fldFrames k (g % 2) := by
    have hmem := State.fldStale_keeps (k := k) (n := n) (s.keeps_parts 0x800000010) (Keep.off_of_and (by decide))
    have hkept := s.fldStale_parts k n
    exact State.fldFrames_congr (State.fldStale_keeps (s.keeps_parts 0x10) (Keep.off_of_and (by decide))).mem_eq hkept.boot_eq
      hkept.port_eq k _
  have hlaunch (n : Nat) : (s.fldStale k n).launch = s.launch := (s.fldStale_parts k n).launch_eq
  unfold State.fldRelease
  dsimp only
  refine ⟨?_, ?_, hlaunch _⟩
  · exact (congrArg FieldState.released (State.fieldOf_setField _ _ _)).trans (hframes _)
  · exact congrArg PortState.emitted (State.portOf_setPort _ _ _)

theorem State.fldReleaseNext_reached {g : Nat} (hl : earliest (s.launches (keyFLD k)) = some l) (hc : l.choice = some (some g))
    (h : s.reach (timeOfUnits l.at_) = some a) (hactive : a.active (pgFLD k) = true) (hsched : a.fldSched k = true)
    (hrun : a.swathState l.swath = 2) (hheld : a.stileHeld = true) (hfall : a.fallback = false) :
    s.fldReleaseNext k = (a.dropLaunch (keyFLD k) l).fldRelease k g := by
  unfold State.fldReleaseNext
  simp only [hl, hc, Option.any_some, Option.isNone_some, Bool.false_eq_true, if_false, State.atTime_reached h]
  exact if_pos (by simp [hactive, hsched, hrun, hheld, hfall])

theorem State.fldReleaseNext_leaves {g : Nat} (hl : earliest (s.launches (keyFLD k)) = some l) (hc : l.choice = some (some g))
    (h : s.reach (timeOfUnits l.at_) = some a) (hactive : a.active (pgFLD k) = true) (hsched : a.fldSched k = true)
    (hrun : a.swathState l.swath = 2) (hheld : a.stileHeld = true) (hfall : a.fallback = false) :
    ((s.fldReleaseNext k).fieldOf k).released = a.fldFrames k (g % 2) ∧ ((s.fldReleaseNext k).portOf (keyFLD k)).emitted = some g ∧
      (s.fldReleaseNext k).launches (keyFLD k) = (s.launches (keyFLD k)).filter (fun x => x != l) := by
  obtain ⟨hreleased, hemitted, hlaunch⟩ := (a.dropLaunch (keyFLD k) l).fldRelease_leaves k g
  have hframes : (a.dropLaunch (keyFLD k) l).fldFrames k (g % 2) = a.fldFrames k (g % 2) :=
    State.fldFrames_congr (s := a) (t := a.dropLaunch (keyFLD k) l) rfl rfl rfl k _
  rw [State.fldReleaseNext_reached hl hc h hactive hsched hrun hheld hfall]
  exact ⟨hreleased.trans hframes, hemitted, State.launches_dropLaunch hlaunch (State.reach_leaves_ports h).2.1⟩

end

/-! ### Attempts (R436) -/

section
variable {s : State} {k : Fin 8}

theorem State.fldNext_released {k : Nat} {d : List Byte} {rest : List (List Byte)} (hcurrent : (s.fieldOf k).current = none)
    (hreleased : (s.fieldOf k).released = d :: rest) :
    s.fldNext k = some (⟨d, true, 0⟩, s.setField k { s.fieldOf k with released := rest }) := by
  simp only [State.fldNext, hcurrent, hreleased]

/-- What taking the next frame leaves of the device. -/
structure State.TakesFrame (s b : State) : Prop where
  tln : b.tln = s.tln
  out : b.out = s.out
  dev : b.dev = s.dev
  pwr : b.pwr = s.pwr
  regs : s.Within popSpans b
  doze : s.pwrState ≠ 1 → b.pwrState = s.pwrState

theorem State.fldNext_takes {f : FieldFrame} {b : State} (h : s.fldNext k = some (f, b)) : s.TakesFrame b := by
  have hqueue : (fldQueue k).1 < 16 ∧ (fldQueue k).2 < 4 := by simp only [fldQueue]; omega
  have hpop : s.TakesFrame (s.popPacket (fldQueue k).1 (fldQueue k).2) := by
    have hkept := State.popPacket_keeps (j := (fldQueue k).1) (q2 := (fldQueue k).2) (s.keeps_parts 0x7FFFDFE680)
      (Keep.off_of_and (by decide))
    exact ⟨hkept.tln_eq, hkept.out_eq, hkept.dev_eq, hkept.pwr_eq, s.popPacket_within hqueue.1 _ hqueue.2,
      fun hdoze => (s.popPacket_steady (P := fun _ => true) _).pwrState hdoze rfl⟩
  unfold State.fldNext at h
  dsimp only at h
  split at h
  · cases h
    exact ⟨rfl, rfl, rfl, rfl, .refl s, fun _ => rfl⟩
  · split at h
    · cases h
      exact ⟨rfl, rfl, rfl, rfl, (State.Within.refl s).upd rfl, fun _ => rfl⟩
    · simp only [Option.map_eq_some_iff, Prod.mk.injEq] at h
      obtain ⟨d, -, -, rfl⟩ := h
      exact hpop

theorem State.fldOn_congr {t : State} {k : Nat} (hctrl : t.enabled (pgFLD k) = s.enabled (pgFLD k))
    (hstate : t.pageState (pgFLD k) = s.pageState (pgFLD k)) (hheld : t.stileHeld = s.stileHeld) (hdev : t.dev = s.dev)
    (hpwr : t.pwr = s.pwr) (hdoze : t.pwrState = s.pwrState) : t.fldOn k = s.fldOn k := by
  simp only [State.fldOn, State.wiredOff, State.aclkRuns, hctrl, hstate, hheld, hdev, hpwr, hdoze]

theorem State.TakesFrame.fldOn {b : State} (h : s.TakesFrame b) (hon : s.fldOn k = true) : b.fldOn k = true := by
  have hdoze : s.pwrState ≠ 1 := by
    simp only [State.fldOn, Bool.and_eq_true, bne_iff_ne] at hon
    exact hon.2
  have hctrl : ∀ n : Fin 8, clearOf popSpans (regKey (pgFLD n) PAGE_CTRL) := by decide
  have hstate : ∀ n : Fin 8, clearFld popSpans (regKey (pgFLD n) PAGE_STATUS) (1, 0) := by decide
  exact (State.fldOn_congr (h.regs.flag (hctrl k) 0) (h.regs.fldApart (hstate k)) (State.stileHeld_congr (h.regs.sts (by decide) _)) h.dev
    h.pwr (h.doze hdoze)).trans hon

theorem State.TakesFrame.gridAt {b : State} (h : s.TakesFrame b) : b.gridAt = s.gridAt := by
  refine State.gridAt_congr h.tln ?_
  rw [State.incr, h.regs.nat (by decide), h.regs.fld (by decide), State.incr]

theorem State.fieldOf_fldRefresh (s : State) (k n : Nat) : (s.fldRefresh k).fieldOf n = s.fieldOf n :=
  State.fieldOf_congr (State.fldRefresh_keeps (s.keeps_parts 0x1000000) (Keep.off_of_and (by decide))).field_eq n

theorem State.out_setDriven (s : State) (page : Nat) (f : Field) (w : Wire) (on : Bool) :
    ∃ pins, (s.setDriven page f [w] on).out = pins ++ s.out ∧ ∀ o ∈ pins, o = .driver w on s.tln.now := by
  unfold State.setDriven
  dsimp only
  split
  · exact ⟨[], rfl, fun _ ho => absurd ho List.not_mem_nil⟩
  · exact ⟨[.driver w on s.tln.now], rfl, fun _ ho => List.mem_singleton.1 ho⟩

/-- The pins of a port whose transmitter is on: at most its driver comes on. -/
theorem State.out_fldRefresh (hon : s.fldOn k = true) : ∃ pins, (s.fldRefresh k).out = pins ++ s.out ∧
    ∀ o ∈ pins, o = .driver (.field k) true s.tln.now := by
  have h := State.out_setDriven (s.setSts (pgFLD k) Fld.S_PIN_STATE (if !s.fldOn k then 3 else if (s.fieldOf k).onWire then 1 else 0))
    (pgFLD k) Fld.S_DRIVEN (.field k) (s.fldOn k)
  rwa [← State.fldRefresh, hon] at h

/-- The frame `f` is on the wire, and its edges have not left. -/
def State.frameBegun (s : State) (k : Nat) (f : FieldFrame) : State :=
  (s.setField k { s.fieldOf k with current := some f, onWire := true, waitUntil := 0 }).inc (pgFLD k) Fld.ATTEMPTS

theorem State.fldAttempt_begins {f : FieldFrame} {b : State} (hon : s.fldOn k = true) (hactive : s.active (pgFLD k) = true)
    (hwire : (s.fieldOf k).onWire = false) (hwait : (s.fieldOf k).waitUntil ≤ unitsOf s.tln.now) (hnext : s.fldNext k = some (f, b)) :
    s.fldAttempt k = ((b.frameBegun k f).emitEdges (.field k (unitsOf (b.frameBegun k f).tln.now) f.data)).fldRefresh k := by
  have hgo : ¬ (s.fldOn k = false ∨ s.active (pgFLD k) = false ∨ (s.fieldOf k).onWire = true ∨
      unitsOf s.tln.now < (s.fieldOf k).waitUntil) := by simp [hon, hactive, hwire, hwait]
  have htln : (b.frameBegun k f).tln = s.tln := (State.fldNext_takes hnext).tln
  rw [htln]
  unfold State.fldAttempt
  dsimp only
  rw [if_neg hgo, hnext]
  rfl

theorem State.frameBegun_parts (s : State) (k : Nat) (f : FieldFrame) : let t := s.frameBegun k f
    t.tln = s.tln ∧ t.out = s.out ∧ t.dev = s.dev ∧ t.pwr = s.pwr ∧ (t.fieldOf k).current = some f ∧ (t.fieldOf k).onWire = true := by
  have hfield : (s.frameBegun k f).fieldOf k = { s.fieldOf k with current := some f, onWire := true, waitUntil := 0 } :=
    State.fieldOf_setField _ _ _
  exact ⟨rfl, rfl, rfl, rfl, congrArg FieldState.current hfield, congrArg FieldState.onWire hfield⟩

theorem State.frameBegun_within (s : State) (f : FieldFrame) : s.Within [regSpan (pgFLD k) Fld.ATTEMPTS] (s.frameBegun k f) := by
  have hset (x : FieldState) : s.Within [regSpan (pgFLD k) Fld.ATTEMPTS] (s.setField k x) := (State.Within.refl s).upd rfl
  exact (hset _).write (hmem := List.mem_cons_self)

theorem State.fldAttempt_leaves {f : FieldFrame} {b : State} (hon : s.fldOn k = true) (hactive : s.active (pgFLD k) = true)
    (hwire : (s.fieldOf k).onWire = false) (hwait : (s.fieldOf k).waitUntil ≤ unitsOf s.tln.now) (hnext : s.fldNext k = some (f, b)) :
    ((s.fldAttempt k).fieldOf k).current = some f ∧ ((s.fldAttempt k).fieldOf k).onWire = true ∧
      (s.fldAttempt k).reg (pgFLD k) Fld.ATTEMPTS = s.reg (pgFLD k) Fld.ATTEMPTS + 1 ∧
      ∃ pins, (s.fldAttempt k).out = pins ++ (Output.field k (unitsOf s.tln.now) f.data).placed s.gridAt :: s.out ∧
        ∀ o ∈ pins, o = .driver (.field k) true s.tln.now := by
  have htake := State.fldNext_takes hnext
  obtain ⟨htln, hout, hdev, hpwr, hcurrent, honWire⟩ := b.frameBegun_parts k f
  have hbegun := b.frameBegun_within (k := k) f
  have hclear : ∀ n : Fin 8, ∀ key ∈ [regKey (pgFLD n) PAGE_CTRL, regKey (pgFLD n) PAGE_STATUS, regKey pgRED PAGE_STATUS,
      regKey pgPWR PAGE_STATUS, regKey pgTLN Tln.INCR_LO, regKey pgTLN Tln.INCR_HI],
      clearOf [regSpan (pgFLD n) Fld.ATTEMPTS] key := by decide
  have hgrid : (b.frameBegun k f).gridAt = s.gridAt := by
    refine Eq.trans (State.gridAt_congr htln ?_) htake.gridAt
    rw [State.incr, hbegun.nat (hclear k _ (by simp)), hbegun.fld (hclear k _ (by simp)), State.incr]
  have hon' : (b.frameBegun k f).fldOn k = true :=
    (State.fldOn_congr (hbegun.flag (hclear k _ (by simp)) 0) (hbegun.fld (hclear k _ (by simp)) _)
      (State.stileHeld_congr (hbegun.sts (hclear k _ (by simp)) _)) hdev hpwr (hbegun.sts (hclear k _ (by simp)) _)).trans
      (htake.fldOn hon)
  have hcount : (b.frameBegun k f).reg (pgFLD k) Fld.ATTEMPTS = s.reg (pgFLD k) Fld.ATTEMPTS + 1 := by
    have hpop := (show ∀ n : Fin 8, clearOf popSpans (regKey (pgFLD n) Fld.ATTEMPTS) by decide) k
    exact (State.reg_setReg_self _ _ _ _).trans (congrArg (· + 1) (htake.regs.reg hpop))
  rw [State.fldAttempt_begins hon hactive hwire hwait hnext, htln, htake.tln]
  generalize b.frameBegun k f = u at *
  obtain ⟨pins, hpins, hpin⟩ := State.out_fldRefresh (s := u.emitEdges (.field k (unitsOf s.tln.now) f.data)) hon'
  have hirq := (show ∀ n : Fin 8, clearOf irqSpans (regKey (pgFLD n) Fld.ATTEMPTS) by decide) k
  rw [State.fieldOf_fldRefresh, (State.fldRefresh_within _ k.isLt).reg hirq]
  refine ⟨hcurrent, honWire, hcount, pins, ?_, fun o ho => (hpin o ho).trans ?_⟩
  · rw [hpins, State.emitEdges, State.emit_out, hgrid, hout, htake.out]
  · show Output.driver (.field k) true u.tln.now = _
    rw [htln, htake.tln]

theorem State.fldBackoffEnd_reached {k : Nat} {a : State} (hcurrent : (s.fieldOf k).current ≠ none) (hwire : (s.fieldOf k).onWire = false)
    (h : s.reach (timeOfUnits (s.fieldOf k).waitUntil) = some a) : s.fldBackoffEnd k = a.fldAttempt k := by
  unfold State.fldBackoffEnd
  dsimp only
  rw [if_neg (by simp [hwire, hcurrent]), State.atTime_reached h _]

/-! ### Collisions and ends (R437, R438, R441) -/

/-- The partner follows, a STOP takes effect, and the pin follows. -/
def State.frameEnded (s : State) (k : Nat) : State := ((s.fldTell k).fldStopped k).fldRefresh k

theorem State.frameEnded_within (s : State) (k : Fin 8) : s.Within (fieldSpans k) (s.frameEnded k) := by
  have htell : s.Within (fieldSpans k) (s.fldTell k) := (s.tell_within _ _).mono (tellSpans_subset_fld k)
  have hstate (a : State) : a.Within (fieldSpans k) (a.fldStopped k) :=
    (State.Within.write (.refl a) (hmem := by simp)).ite (.refl a)
  exact (htell.trans (hstate _)).andThen (State.fldRefresh_within _ k.isLt) (irqSpans_subset_fld k)

theorem State.fieldOf_frameEnded (s : State) (k n : Nat) : (s.frameEnded k).fieldOf n = s.fieldOf n :=
  State.fieldOf_congr (State.fldRefresh_keeps (State.fldStopped_keeps (State.fldTell_keeps (s.keeps_parts 0x1000000)
    (Keep.off_of_and (by decide))) (Keep.off_of_and (by decide))) (Keep.off_of_and (by decide))).field_eq n

/-- What becomes of the frame that collided for the `n`-th time. -/
def State.collided (s : State) (k n r : Nat) (late : Bool) (c : FieldFrame) (x : FieldState) (now : Nat) : State :=
  if late then ((s.setField k { x with current := none, onWire := false }).inc (pgFLD k) Fld.LATE_COLLS).fault (pgFLD k) Fld.F_LATE_COLL
  else if 16 ≤ n then
    ((s.setField k { x with current := none, onWire := false }).inc (pgFLD k) Fld.EXCESS_COLLS).fault (pgFLD k) Fld.F_EXCESS_COLL
  else s.setField k { x with current := some { c with collisions := n }, onWire := false, waitUntil := now + r * FLD_SLOT }

theorem State.fldCollision_eq {late : Bool} {c : FieldFrame} (hcurrent : (s.fieldOf k).current = some c)
    (hwire : (s.fieldOf k).onWire = true) (hon : s.fldOn k = true) : s.fldCollision k late
      = (((s.inc (pgFLD k) Fld.COLLISIONS).count (560 + 4 * k + 2) 1).collided k (c.collisions + 1)
        (backoffDraw (s.reg pgRED Red.PAIR_SEED_LO) (s.reg pgRED Red.PAIR_SEED_HI) (s.reg (pgFLD k) Fld.MAC_ADDR_LO)
          (s.reg (pgFLD k) Fld.ATTEMPTS - 1) (c.collisions + 1)) late c (s.fieldOf k) (unitsOf s.tln.now)).frameEnded k := by
  unfold State.fldCollision
  dsimp only
  rw [hcurrent]
  dsimp only
  rw [if_neg (by simp [hwire, hon])]
  rfl

theorem State.collided_within (s : State) (n r : Nat) (late : Bool) (c : FieldFrame) (x : FieldState) (now : Nat) :
    s.Within (fieldSpans k) (s.collided k n r late c x now) := by
  have hset (y : FieldState) : s.Within (fieldSpans k) (s.setField k y) := (State.Within.refl s).upd rfl
  exact (((hset _).write (hmem := by simp)).trans (State.fault_port _ k _)).ite
    ((((hset _).write (hmem := by simp)).trans (State.fault_port _ k _)).ite (hset _))

theorem State.field_fault (s : State) (page n : Nat) : (s.fault page n).field = s.field :=
  (State.fault_keeps (s.keeps_parts 0x1000000) (Keep.off_of_and (by decide))).field_eq

theorem State.fieldOf_collided (s : State) (n r : Nat) (late : Bool) (c : FieldFrame) (x : FieldState) (now : Nat) :
    (s.collided k n r late c x now).fieldOf k
      = if late = true ∨ 16 ≤ n then { x with current := none, onWire := false }
        else { x with current := some { c with collisions := n }, onWire := false, waitUntil := now + r * FLD_SLOT } := by
  have hdrop (off b : Nat) : (((s.setField k { x with current := none, onWire := false }).inc (pgFLD k) off).fault (pgFLD k) b).fieldOf k
      = { x with current := none, onWire := false } :=
    (State.fieldOf_congr (State.field_fault _ _ _) k).trans (State.fieldOf_setField _ _ _)
  unfold State.collided
  by_cases hlate : late = true
  · rw [if_pos hlate, if_pos (Or.inl hlate), hdrop]
  · by_cases hn : 16 ≤ n
    · rw [if_neg hlate, if_pos hn, if_pos (Or.inr hn), hdrop]
    · rw [if_neg hlate, if_neg hn, if_neg (not_or.2 ⟨hlate, hn⟩), State.fieldOf_setField]

theorem State.fldCollision_leaves {late : Bool} {c : FieldFrame} (hcurrent : (s.fieldOf k).current = some c)
    (hwire : (s.fieldOf k).onWire = true) (hon : s.fldOn k = true) : let t := s.fldCollision k late
    let r := backoffDraw (s.reg pgRED Red.PAIR_SEED_LO) (s.reg pgRED Red.PAIR_SEED_HI) (s.reg (pgFLD k) Fld.MAC_ADDR_LO)
      (s.reg (pgFLD k) Fld.ATTEMPTS - 1) (c.collisions + 1)
    (t.fieldOf k).onWire = false ∧ t.reg (pgFLD k) Fld.COLLISIONS = s.reg (pgFLD k) Fld.COLLISIONS + 1 ∧
      (late = true ∨ 16 ≤ c.collisions + 1 → (t.fieldOf k).current = none) ∧
      (late = false → c.collisions + 1 < 16 → (t.fieldOf k).current = some { c with collisions := c.collisions + 1 } ∧
        (t.fieldOf k).waitUntil = unitsOf s.tln.now + r * FLD_SLOT) := by
  have hcount : ((s.inc (pgFLD k) Fld.COLLISIONS).count (560 + 4 * k + 2) 1).reg (pgFLD k) Fld.COLLISIONS
      = s.reg (pgFLD k) Fld.COLLISIONS + 1 :=
    ((State.count_within _ _).reg ((show ∀ n : Fin 8, clearOf countSpans (regKey (pgFLD n) Fld.COLLISIONS) by decide) k)).trans
      (State.reg_setReg_self _ _ _ _)
  dsimp only
  rw [State.fldCollision_eq hcurrent hwire hon, State.fieldOf_frameEnded, State.fieldOf_collided,
    (State.frameEnded_within _ k).reg (clearOf_port k (by simp)), (State.collided_within _ _ _ _ _ _ _).reg (clearOf_port k (by simp))]
  refine ⟨?_, hcount, fun hdrop => ?_, fun hlate hfew => ?_⟩
  · split <;> rfl
  · rw [if_pos hdrop]
  · rw [if_neg (by simp [hlate]; omega)]
    exact ⟨rfl, rfl⟩

theorem State.fldDone_leaves (hwire : (s.fieldOf k).onWire = true) : ((s.fldDone k).fieldOf k).current = none ∧
    ((s.fldDone k).fieldOf k).onWire = false ∧ (s.fldDone k).reg (pgFLD k) Fld.TX_FRAMES = s.reg (pgFLD k) Fld.TX_FRAMES + 1 := by
  have heq : s.fldDone k = (((s.setField k { s.fieldOf k with current := none, onWire := false }).inc (pgFLD k) Fld.TX_FRAMES).count
      (560 + 4 * k) 1).frameEnded k := if_neg (by simp [hwire])
  have hfield : ((((s.setField k { s.fieldOf k with current := none, onWire := false }).inc (pgFLD k) Fld.TX_FRAMES).count
      (560 + 4 * k) 1).fieldOf k) = { s.fieldOf k with current := none, onWire := false } :=
    (State.fieldOf_congr (State.count_same _ _ _).field k).trans (State.fieldOf_setField _ _ _)
  rw [heq, State.fieldOf_frameEnded, hfield, (State.frameEnded_within _ k).reg (clearOf_port k (by simp))]
  refine ⟨rfl, rfl, ?_⟩
  exact ((State.count_within _ _).reg ((show ∀ n : Fin 8, clearOf countSpans (regKey (pgFLD n) Fld.TX_FRAMES) by decide) k)).trans
    (State.reg_setReg_self _ _ _ _)

/-! ### PLCA (R442) -/

theorem State.fldPlca_changes {on : Bool} {v : Nat} (hv : v = if on = true ∧ s.flag (pgFLD k) Fld.FLD_MODE 0 = true then 1 else 0)
    (hne : s.sts (pgFLD k) Fld.S_PLCA_STATUS ≠ v) : (s.fldPlca k on).sts (pgFLD k) Fld.S_PLCA_STATUS = v ∧
      (v = 0 → (s.fldPlca k on).flag (pgFLD k) PAGE_FAULT Fld.F_PLCA_DOWN = true) := by
  have hsmall : v % 2 ^ (19 + 1 - 19) = v := by
    rw [hv]
    split <;> rfl
  have hset : ((s.setSts (pgFLD k) Fld.S_PLCA_STATUS v).irq (260 + k)).sts (pgFLD k) Fld.S_PLCA_STATUS = v := by
    have hclear := (show ∀ n : Fin 8, clearFld irqSpans (regKey (pgFLD n) PAGE_STATUS) Fld.S_PLCA_STATUS by decide) k
    exact ((State.irq_within _).stsApart hclear).trans ((State.sts_setSts_self _ _ (by decide) _).trans hsmall)
  have hfault (a : State) : (a.fault (pgFLD k) Fld.F_PLCA_DOWN).sts (pgFLD k) Fld.S_PLCA_STATUS = a.sts (pgFLD k) Fld.S_PLCA_STATUS ∧
      (a.fault (pgFLD k) Fld.F_PLCA_DOWN).flag (pgFLD k) PAGE_FAULT Fld.F_PLCA_DOWN = true := by
    have hclear := (show ∀ n : Fin 8, clearFld irqSpans (regKey (pgFLD n) PAGE_STATUS) Fld.S_PLCA_STATUS ∧
      regKey (pgFLD n) PAGE_STATUS ≠ regKey (pgFLD n) PAGE_FAULT ∧ clearOf irqSpans (regKey (pgFLD n) PAGE_FAULT) by decide) k
    refine ⟨?_, State.flag_fault a (pageInfo_pgFLD k) rfl (by decide) hclear.2.2⟩
    rw [a.fault_eq_faultHere (pageInfo_pgFLD k) rfl, (State.faultHere_within _ _ _).stsApart hclear.1]
    exact congrArg (bits · Fld.S_PLCA_STATUS) (State.reg_setReg_ne _ _ hclear.2.1)
  have heq : s.fldPlca k on = if v = 0 then ((s.setSts (pgFLD k) Fld.S_PLCA_STATUS v).irq (260 + k)).fault (pgFLD k) Fld.F_PLCA_DOWN
      else (s.setSts (pgFLD k) Fld.S_PLCA_STATUS v).irq (260 + k) := by
    have hv' : (if (on && s.flag (pgFLD k) Fld.FLD_MODE 0) = true then 1 else 0) = v := by rw [hv]; simp
    unfold State.fldPlca
    dsimp only
    rw [hv', if_neg hne]
  rw [heq]
  split
  · exact ⟨(hfault _).1.trans hset, fun _ => (hfault _).2⟩
  · next hone => exact ⟨hset, fun h => absurd h hone⟩

/-! ### Reception (R439) -/

variable {good : Bool} {ago : Nat} {d : List Byte}

theorem State.fldReceive_on (hon : s.fldOn k = true) (hpage : s.pageState (pgFLD k) ≠ 0) : s.fldReceive k good ago d
    = if good = false ∨ d.length < 60 ∨ 1518 < d.length then s.inc (pgFLD k) Fld.RX_BAD
      else if s.fldAccepts k d = true then s.fldTake k (s.tln.now - ago * NS) d else s := by
  unfold State.fldReceive
  dsimp only
  rw [if_neg (by simp [hon, hpage])]

end

end Sys2Proof.Machine

open Sys2Proof Sys2Proof.Machine

/-- Settles O34: each event of a port does what its definition says, and what the queues, the partner and the pins do besides leaves
the port's counts and frames. -/
theorem fieldPortsAct : Obligations.FieldPortsAct := by
  unfold Obligations.FieldPortsAct
  refine ⟨fun s a k l hl h hmay => ⟨fun hslot => congrArg Host.Outcome.next (State.fldSlotCheck_holds hl h hmay hslot),
      fun hslot => ⟨_, rfl, State.fldSlotCheck_missing hl h hmay hslot⟩⟩,
    fun s a k l g hl hc h hactive hsched hrun hheld hfall =>
      ⟨_, rfl, State.fldReleaseNext_leaves hl hc h hactive hsched hrun hheld hfall⟩,
    fun s k f b hon hactive hwire hwait hnext => ⟨_, rfl, State.fldAttempt_leaves hon hactive hwire hwait hnext⟩,
    fun s k d rest hcurrent hreleased => ⟨_, State.fldNext_released hcurrent hreleased, congrArg FieldState.released
      (State.fieldOf_setField _ _ _)⟩,
    fun s a k hcurrent hwire h => congrArg Host.Outcome.next (State.fldBackoffEnd_reached hcurrent hwire h),
    fun s k late c hcurrent hwire hon => ⟨_, rfl, State.fldCollision_leaves hcurrent hwire hon⟩,
    fun s k hwire => ⟨_, rfl, State.fldDone_leaves hwire⟩, fun s k good ago d hon hpage => ⟨fun hbad => ?_, fun hgood hlow hhigh hok => ?_,
      fun hgood hlow hhigh hok => ?_⟩,
    fun s k on hne => ⟨_, rfl, State.fldPlca_changes rfl hne⟩⟩
  · exact congrArg Host.Outcome.next ((State.fldReceive_on hon hpage).trans (if_pos hbad))
  · have hfit : ¬ (good = false ∨ d.length < 60 ∨ 1518 < d.length) := by simp [hgood, hlow, hhigh]
    exact congrArg Host.Outcome.next ((State.fldReceive_on hon hpage).trans ((if_neg hfit).trans (if_pos hok)))
  · have hfit : ¬ (good = false ∨ d.length < 60 ∨ 1518 < d.length) := by simp [hgood, hlow, hhigh]
    exact congrArg Host.Outcome.next ((State.fldReceive_on hon hpage).trans ((if_neg hfit).trans (if_neg (by simp [hok]))))

end

section
/-!
Reads and writes of the counters, the counter dump, and T_PEAK (R595, R598 to R600, R662): O44.
-/
set_option Elab.async false
namespace Sys2Proof.Machine

/-! ### Counters as they are read and written -/

section
variable (s : State)

/-- Counting moves the counts and WRAPS alone. -/
theorem State.pmc_count (n k : Nat) : ∃ c w, (s.count n k).pmc = { s.pmc with cnt := c, wraps := w } := by
  unfold State.count
  split
  · exact ⟨_, _, rfl⟩
  · dsimp only
    split
    · exact ⟨_, _, rfl⟩
    · exact ⟨_, _, State.counterWrapped_pmc _ n⟩

theorem State.counted_hiStage : s.counted.pmc.hiStage = s.pmc.hiStage := by
  obtain ⟨c, w, h⟩ := s.pmc_count 1222 1
  rw [State.counted, h]

theorem State.cntLatch_pmc (r n : Nat) : (s.cntLatch r n).pmc.cnt = s.pmc.cnt ∧
    Tab.get (fun _ => 0) (s.cntLatch r n).pmc.hiLatch r
      = if counterUsed n then s.cnt n / 2 ^ 32 + 2 ^ 16 * Tab.get (fun _ => 0) s.pmc.wraps n else 0 :=
  ⟨rfl, Tab.get_set_self _ _ _ _⟩

theorem State.cntLoad_used {n : Nat} (h : counterUsed n = true) (r : Nat) (v : Word) :
    (s.cntLoad r n v).cnt n = v.toNat + 2 ^ 32 * Tab.get (fun _ => 0) s.pmc.hiStage r := by
  rw [State.cntLoad, if_pos h]
  exact Tab.get_set_self _ _ _ _

theorem State.cntLoad_unused {n : Nat} (h : counterUsed n = false) (r : Nat) (v : Word) : s.cntLoad r n v = s :=
  if_neg (by simp [h])

theorem State.cntStage_pmc (r : Nat) (v : Word) : (s.cntStage r v).pmc.cnt = s.pmc.cnt ∧
    Tab.get (fun _ => 0) (s.cntStage r v).pmc.hiStage r = v.toNat % 2 ^ 16 := ⟨rfl, Tab.get_set_self _ _ _ _⟩

/-! ### The dump (R598 to R600) -/

theorem length_leBytes (n x : Nat) : (leBytes n x).length = n := by
  induction n generalizing x with
  | zero => rfl
  | succ n ih => rw [leBytes, List.length_cons, ih]

theorem length_dumpHeader (kind : Nat) (coasted : Bool) (time first count : Nat) :
    (s.dumpHeader kind coasted time first count).length = 32 := by
  simp only [State.dumpHeader, TimeVal.memBytes, List.length_append, length_leBytes]

theorem length_dumpEntries (first count : Nat) : ((List.range count).flatMap (fun i => s.dumpEntry (first + i))).length = 8 * count := by
  induction count with
  | zero => rfl
  | succ n ih =>
    rw [List.range_succ, List.flatMap_append, List.length_append, ih, List.flatMap_cons, List.flatMap_nil, List.append_nil,
      State.dumpEntry, length_leBytes]
    omega

theorem length_padTo {n : Nat} {l : List Byte} (h : l.length ≤ n) : (padTo n l).length = n := by
  rw [padTo, List.length_append, List.length_replicate]
  omega

/-- The bytes of a dump with one period's counters. -/
def State.dumpRecord (s : State) (time first count : Nat) : List Byte :=
  s.dumpHeader 1 (s.tlState == 4) time first count ++ (List.range count).flatMap (fun i => s.dumpEntry (first + i))

/-- The size of its record. -/
def dumpRoom (count : Nat) : Nat := ceilDiv (32 + 8 * count) 64 * 64

theorem length_dumpRecord (time first count : Nat) : (padTo (dumpRoom count) (s.dumpRecord time first count)).length = dumpRoom count := by
  refine length_padTo ?_
  rw [State.dumpRecord, List.length_append, length_dumpHeader, length_dumpEntries]
  simp only [dumpRoom, ceilDiv]
  omega

/-- What the bytes of a dump may write of the registers. -/
theorem State.hwBytes_bytes {a : Nat} {l : List Byte} (hfree : s.hwSuppressed a l.length = false)
    (hmem : ∀ i, i < l.length → isMemory (a + i) = true ∧ isImage (a + i) = false) : (s.hwBytes a l).bytes a l.length = l := by
  have heq : s.hwBytes a l = (s.setBytes a l).hwTell a l := if_neg (by simp [hfree])
  have hboot : ((s.setBytes a l).hwTell a l).boot = (s.setBytes a l).boot :=
    (State.hwTell_keeps ((s.setBytes a l).keeps_parts 0x400000000) (Keep.off_of_and (by decide))).boot_eq
  rw [heq, State.bytes_congr (State.hwTell_mem _ _ _) hboot]
  exact State.bytes_setBytes hmem

theorem dramSpan_memory {base size x n : Nat} (h : dramSpan base size = true) (hfit : x + n ≤ size) (i : Nat) (hi : i < n) :
    isMemory (base + x + i) = true ∧ isImage (base + x + i) = false := by
  unfold dramSpan DRAM_BASE DRAM_END at h
  unfold isMemory isImage FERAM_BASE DRAM_BASE DRAM_END
  norm_num at h ⊢
  omega

/-- No gap is to be recorded before a dump. -/
def State.gapDone (s : State) : State := { s with pmc := { s.pmc with gapCause := 0 } }

/-- The ring moves on behind a record, and nothing of it is skipped. -/
def State.dumpMoved (s : State) : State := { s with pmc := { s.pmc with skipped := 0 } }.inc pgPMC Pmc.DUMP_SEQ

/-- A dump has been made at instant `t`. -/
def State.dumpNoted (s : State) (t : Nat) : State := { s with pmc := { s.pmc with lastDump := t } }

theorem State.dumpAdvance_room {n : Nat} (h : s.nat pgPMC Pmc.DUMP_WR + n < s.dumpSize) :
    s.dumpAdvance n = s.dumpMoved.setNat pgPMC Pmc.DUMP_WR (s.nat pgPMC Pmc.DUMP_WR + n) := if_pos h

theorem State.dumpGap_none (h : s.pmc.gapCause = 0) (t : Nat) : s.dumpGap t = s.gapDone := if_pos (Or.inl h)

theorem State.dumpPut_room {n : Nat} (h : n ≤ s.dumpSize - s.nat pgPMC Pmc.DUMP_WR) (time : Nat) (f : State → List Byte) :
    s.dumpPut n time f = (s.hwBytes (s.dumpBase + s.nat pgPMC Pmc.DUMP_WR) (padTo n (f s))).dumpAdvance n := by
  unfold State.dumpPut
  dsimp only
  rw [if_pos h]

/-- The record of a dump that the ring holds without a turn. -/
theorem State.dumpAt_fits {t first count : Nat} (hfirst : first = s.fld pgPMC Pmc.DUMP_RANGE (10, 0))
    (hcount : count = s.fld pgPMC Pmc.DUMP_RANGE (26, 16)) (hgap : s.pmc.gapCause = 0)
    (hroom : s.nat pgPMC Pmc.DUMP_WR + dumpRoom count < s.dumpSize) : s.dumpAt t false
      = ((s.gapDone.hwBytes (s.dumpBase + s.nat pgPMC Pmc.DUMP_WR) (padTo (dumpRoom count) (s.dumpRecord t first count))).dumpAdvance
          (dumpRoom count)).dumpNoted t := by
  subst hfirst hcount
  unfold State.dumpAt
  dsimp only
  rw [if_neg (by simp only [Bool.false_or, decide_eq_true_eq]; simp only [dumpRoom] at hroom; omega), s.dumpGap_none hgap]
  refine congrArg (State.dumpNoted · t) ((s.gapDone.dumpPut_room ?_ t _).trans ?_)
  · show ceilDiv (32 + 8 * s.fld pgPMC Pmc.DUMP_RANGE (26, 16)) 64 * 64 ≤ s.dumpSize - s.nat pgPMC Pmc.DUMP_WR
    simp only [dumpRoom] at hroom
    omega
  · rfl

theorem State.dumpDone_bytes (w t x n : Nat) : ((s.dumpMoved.setNat pgPMC Pmc.DUMP_WR w).dumpNoted t).bytes x n = s.bytes x n :=
  State.bytes_congr (s := s) (t := (s.dumpMoved.setNat pgPMC Pmc.DUMP_WR w).dumpNoted t) rfl rfl _ _

theorem State.dumpSize_lt : s.dumpSize < 2 ^ 32 := by
  have h : s.fld pgPMC Pmc.DUMP_SIZE (19, 0) < 2 ^ 20 := Nat.mod_lt _ (by decide)
  rw [State.dumpSize]
  omega

/-- A dump that fits writes its header and its counters at DUMP_WR, and the ring moves on behind them. -/
theorem State.dumpAt_leaves {t first count : Nat} (hfirst : first = s.fld pgPMC Pmc.DUMP_RANGE (10, 0))
    (hcount : count = s.fld pgPMC Pmc.DUMP_RANGE (26, 16)) (hgap : s.pmc.gapCause = 0)
    (hroom : s.nat pgPMC Pmc.DUMP_WR + dumpRoom count < s.dumpSize) (hspan : dramSpan s.dumpBase s.dumpSize = true)
    (hfree : s.hwSuppressed (s.dumpBase + s.nat pgPMC Pmc.DUMP_WR) (dumpRoom count) = false) :
    let u := s.dumpAt t false
    u.nat pgPMC Pmc.DUMP_WR = s.nat pgPMC Pmc.DUMP_WR + dumpRoom count ∧
      u.reg pgPMC Pmc.DUMP_SEQ = s.reg pgPMC Pmc.DUMP_SEQ + 1 ∧ u.pmc.lastDump = t ∧ u.pmc.skipped = 0 ∧
      u.bytes (s.dumpBase + s.nat pgPMC Pmc.DUMP_WR) (dumpRoom count) = padTo (dumpRoom count) (s.dumpRecord t first count) := by
  have hlen := length_dumpRecord s t first count
  generalize hl : padTo (dumpRoom count) (s.dumpRecord t first count) = l at *
  generalize hx : s.dumpBase + s.nat pgPMC Pmc.DUMP_WR = x at *
  have hwrite : s.gapDone.Within tellSpans (s.gapDone.hwBytes x l) := s.gapDone.hwBytes_within x l
  have hwr : (s.gapDone.hwBytes x l).nat pgPMC Pmc.DUMP_WR = s.nat pgPMC Pmc.DUMP_WR := hwrite.nat (by decide)
  have hsize : (s.gapDone.hwBytes x l).dumpSize = s.dumpSize := congrArg (· * 4096) (hwrite.fld (by decide) _)
  have hseq : (s.gapDone.hwBytes x l).reg pgPMC Pmc.DUMP_SEQ = s.reg pgPMC Pmc.DUMP_SEQ := hwrite.reg (by decide)
  have hbytes : (s.gapDone.hwBytes x l).bytes x (dumpRoom count) = l := by
    rw [← hlen]
    refine State.hwBytes_bytes _ (by rw [hlen]; exact hfree) fun i hi => ?_
    rw [← hx]
    exact dramSpan_memory hspan (by omega) i hi
  dsimp only
  rw [s.dumpAt_fits hfirst hcount hgap hroom, hl, hx]
  generalize s.gapDone.hwBytes x l = b at hwrite hwr hsize hseq hbytes ⊢
  rw [b.dumpAdvance_room (by rw [hwr, hsize]; exact hroom), hwr]
  refine ⟨?_, ?_, rfl, rfl, (b.dumpDone_bytes ..).trans hbytes⟩
  · refine (State.nat_setNat_same _ _ _ _).trans (Nat.mod_eq_of_lt ?_)
    have := s.dumpSize_lt
    omega
  · refine Eq.trans (State.reg_setReg_ne _ _ (by decide)) ?_
    exact (State.reg_setReg_self _ _ _ _).trans (by rw [← hseq]; rfl)

end

section
variable {s a : State}

theorem State.counterDump_reached {busy : Bool} (hen : s.enabled pgPMC = true) (hdump : s.flag pgPMC Pmc.PMC_CTRL 0 = true)
    (hstep : s.fld pgPMC Pmc.DUMP_PERIOD (29, 0) * NS ≠ 0)
    (h : s.reachTick tickDump (s.fld pgPMC Pmc.DUMP_PERIOD (29, 0) * NS) 0 = some a) : s.counterDump busy = a.dumpAt a.tln.now busy := by
  unfold State.counterDump
  dsimp only
  rw [if_neg (by simpa [hen, hdump] using hstep), State.atTick_reached h]

/-- The registers of a late page, memory and the counters are as before at the instant of a tick. -/
theorem State.reachTick_pmc {key step off : Nat} (h : s.reachTick key step off = some a) : a.pmc = s.pmc ∧ a.mem = s.mem ∧
    ∀ o < 0x1000, a.reg pgPMC o = s.reg pgPMC o := by
  obtain ⟨b, hb, rfl⟩ := Option.map_eq_some_iff.1 h
  have hparts := State.reach_parts hb
  refine ⟨hparts.pmc_eq, (State.reach_leaves hb).2, fun o ho => ?_⟩
  refine Eq.trans (show (b.ticked key).at (regKey pgPMC o) = b.at (regKey pgPMC o) from rfl) ?_
  exact State.reach_at (key := regKey pgPMC o) hb (by simp only [regKey, pgPMC]; norm_num [irqKey]; omega)
    (by simp only [regKey, pgPMC, pgSYN]; omega)

theorem State.dumpSkip_leaves (s : State) : s.dumpSkip.reg pgPMC Pmc.DUMP_SKIPS = s.reg pgPMC Pmc.DUMP_SKIPS + 1 ∧
    s.dumpSkip.mem = s.mem ∧ s.dumpSkip.pmc.skipped = s.pmc.skipped + 1 := ⟨State.reg_setReg_self _ _ _ _, rfl, rfl⟩

theorem State.dumpAt_busy (s : State) (t : Nat) : s.dumpAt t true = s.dumpSkip := by
  unfold State.dumpAt
  exact if_pos (by rw [Bool.true_or])

theorem State.clearTPeak_peak (s : State) : s.clearTPeak.reg pgTHM Thm.T_PEAK = s.reg pgTHM Thm.T_DIE := State.reg_setReg_self _ _ _ _

end

end Sys2Proof.Machine

open Sys2Proof Sys2Proof.Machine

/-- Settles O44: reads latch, writes stage and load, a dump that fits stands in memory behind DUMP_WR's old value. -/
theorem countersAct : Obligations.CountersAct := by
  unfold Obligations.CountersAct
  refine ⟨fun s r n haclk => ?_, fun s r n v h => ⟨fun hused => ?_, fun hfree => ?_, ?_⟩,
    fun s a busy hen hdump hstep h => ⟨fun hbusy => ?_, fun hbusy hgap hroom hspan hfree => ?_⟩, fun s r haclk => ?_⟩
  · obtain ⟨hcnt, hlatch⟩ := (s.counted.emit (.read (BitVec.ofNat 32 (s.counted.cnt n % 2 ^ 32)))).cntLatch_pmc (reqCode r) n
    refine ⟨_, congrArg Host.Outcome.next (State.access_eq haclk _), ?_, hlatch, hcnt⟩
    exact congrArg (List.cons _) s.counted_out
  · refine ⟨_, congrArg Host.Outcome.next (State.gate_eq h _), ?_⟩
    rw [State.cntLoad_used _ hused, State.counted_hiStage]
  · exact congrArg Host.Outcome.next ((State.gate_eq h _).trans (State.cntLoad_unused _ hfree _ _))
  · obtain ⟨hcnt, hstage⟩ := s.counted.cntStage_pmc (reqCode r) v
    exact ⟨_, congrArg Host.Outcome.next (State.gate_eq h _), hstage, hcnt⟩
  · obtain ⟨hpmc, hmem, hreg⟩ := State.reachTick_pmc h
    obtain ⟨hskips, hmem', hskipped⟩ := a.dumpSkip_leaves
    refine ⟨_, congrArg Host.Outcome.next (State.counterDump_reached hen hdump hstep h), ?_⟩
    rw [hbusy, State.dumpAt_busy]
    exact ⟨hskips.trans (by rw [hreg _ (by decide)]), hmem'.trans hmem, hskipped.trans (by rw [hpmc])⟩
  · obtain ⟨hpmc, -, hreg⟩ := State.reachTick_pmc h
    have hnat {o : Nat} (ho : o < 0x1000) : s.nat pgPMC o = a.nat pgPMC o := (congrArg BitVec.toNat (hreg o ho)).symm
    have hfld {o : Nat} (ho : o < 0x1000) (f : Field) : s.fld pgPMC o f = a.fld pgPMC o f := (congrArg (bits · f) (hreg o ho)).symm
    have hbase : s.dumpBase = a.dumpBase := by rw [State.dumpBase, hnat (by decide), hfld (by decide), State.dumpBase]
    have hsize : s.dumpSize = a.dumpSize := by rw [State.dumpSize, hfld (by decide), State.dumpSize]
    refine ⟨_, congrArg Host.Outcome.next (State.counterDump_reached hen hdump hstep h), ?_⟩
    subst hbusy
    have hwr := hnat (o := Pmc.DUMP_WR) (by decide)
    obtain ⟨hmoved, hseq, hlast, hskipped, hbytes⟩ := a.dumpAt_leaves (t := a.tln.now)
      (hfld (o := Pmc.DUMP_RANGE) (by decide) (10, 0)) (hfld (o := Pmc.DUMP_RANGE) (by decide) (26, 16)) (by rw [hpmc]; exact hgap)
      (by rw [← hwr, ← hsize]; exact hroom) (by rw [← hbase, ← hsize]; exact hspan) (by rw [← hbase, ← hwr]; exact hfree)
    rw [← hbase, ← hwr] at hbytes
    exact ⟨hmoved.trans (by rw [hwr]; rfl), hseq.trans (by rw [hreg _ (by decide)]), hlast, hskipped, hbytes⟩
  · exact ⟨_, congrArg Host.Outcome.next (State.access_eq haclk _), congrArg₂ List.cons (congrArg Output.read (s.counted_within.reg (by decide)))
      s.counted_out, (State.clearTPeak_peak _).trans (s.counted_within.reg (by decide))⟩

end

section
/-!
Triggers, records, statistics spans, freeze, erase and scan of the event recorder (R577 to R605): what a trigger does and leaves.
-/
set_option Elab.async false
namespace Sys2Proof.Machine

/-! ### What a trigger leaves of the recorder -/

/-- The recorder's state apart from what triggers spend and count. -/
def EvrState.book (e : EvrState) : EvrState := { e with spent := [], dropped := 0, lost := 0 }

/-- The record in progress, the freeze, the spans and the trigger memory are as before. -/
structure State.SameBook (s t : State) : Prop where
  same : t.evr.book = s.evr.book

section
variable {s t u : State}

theorem State.SameBook.refl (s : State) : s.SameBook s := ⟨rfl⟩
theorem State.SameBook.trans (h : s.SameBook t) (g : t.SameBook u) : s.SameBook u := ⟨g.same.trans h.same⟩
theorem State.SameBook.upd (h : s.SameBook t) (hevr : u.evr = t.evr) : s.SameBook u := ⟨(congrArg EvrState.book hevr).trans h.same⟩
theorem State.SameBook.writing (h : s.SameBook t) : t.evr.writing = s.evr.writing :=
  show t.evr.book.writing = s.evr.book.writing from congrArg EvrState.writing h.same
theorem State.SameBook.freezing (h : s.SameBook t) : t.evr.freezing = s.evr.freezing :=
  show t.evr.book.freezing = s.evr.book.freezing from congrArg EvrState.freezing h.same
theorem State.SameBook.stats (h : s.SameBook t) : t.evr.stats = s.evr.stats :=
  show t.evr.book.stats = s.evr.book.stats from congrArg EvrState.stats h.same

theorem State.SameBook.ite {p : Prop} [Decidable p] (h : s.SameBook t) (g : s.SameBook u) : s.SameBook (if p then t else u) := by
  split
  · exact h
  · exact g

end

section
variable (s : State)

theorem State.evr_irq (k : Nat) : (s.irq k).evr = s.evr :=
  (State.irq_keeps (s.keeps_parts 0x800) (Keep.off_of_and (by decide))).evr_eq

theorem State.evr_count (n k : Nat) : (s.count n k).evr = s.evr :=
  (State.count_keeps (s.keeps_parts 0x800) (Keep.off_of_and (by decide))).evr_eq

theorem State.evr_fault (page n : Nat) : (s.fault page n).evr = s.evr :=
  (State.fault_keeps (s.keeps_parts 0x800) (Keep.off_of_and (by decide))).evr_eq

theorem State.evr_counted : s.counted.evr = s.evr := s.evr_count 1222 1

theorem State.tln_fault (page n : Nat) : (s.fault page n).tln = s.tln :=
  (State.fault_keeps (s.keeps_parts 0x200) (Keep.off_of_and (by decide))).tln_eq

theorem State.mem_trigger (code page : Nat) : (s.trigger code page).mem = s.mem :=
  (State.trigger_keeps (s.keeps_parts 0x10) (Keep.off_of_and (by decide))).mem_eq

theorem State.boot_trigger (code page : Nat) : (s.trigger code page).boot = s.boot :=
  (State.trigger_keeps (s.keeps_parts 0x400000000) (Keep.off_of_and (by decide))).boot_eq

theorem State.mem_fault (page n : Nat) : (s.fault page n).mem = s.mem :=
  (State.fault_keeps (s.keeps_parts 0x10) (Keep.off_of_and (by decide))).mem_eq

/-- One lost event more for the next record. -/
def State.evrMiss : State := { s with evr := { s.evr with lost := min 65535 (s.evr.lost + 1) } }

/-- One dropped trigger more for the next record. -/
def State.evrDrop : State := { s with evr := { s.evr with dropped := min 65535 (s.evr.dropped + 1) } }

theorem State.evrMiss_book : s.SameBook s.evrMiss := ⟨rfl⟩
theorem State.evrDrop_book : s.SameBook s.evrDrop := ⟨rfl⟩

theorem State.evrLost_eq : s.evrLost = ((s.inc pgEVR Evr.LOST_TOTAL).fault pgEVR Evr.F_LOST).evrMiss.count 1225 1 := rfl

theorem State.evrLost_book : s.SameBook s.evrLost := by
  have hfault : s.SameBook ((s.inc pgEVR Evr.LOST_TOTAL).fault pgEVR Evr.F_LOST) := (State.SameBook.refl s).upd (State.evr_fault _ _ _)
  rw [s.evrLost_eq]
  exact (hfault.trans (State.evrMiss_book _)).upd (State.evr_count _ _ _)

theorem State.evrPushSound_book (code page kind group : Nat) : s.SameBook (s.evrPushSound code page kind group) := by
  have hput : ((s.queuePut 3 3 64 (pendingEntry code page kind group (stamp32 s.tln.now)) true).queueLevels 3).evr = s.evr :=
    (State.queueLevels_keeps (State.queuePut_keeps (s.keeps_parts 0x800) (Keep.off_of_and (by decide))) (Keep.off_of_and (by decide))).evr_eq
  exact (((State.SameBook.refl s).upd hput).trans (State.evrLost_book _)).ite ((State.SameBook.refl s).upd hput)

theorem State.evrPush_book (code page kind group : Nat) : s.SameBook (s.evrPush code page kind group) := by
  have hreset : (s.queuePtrReset 3 3 false).evr = s.evr :=
    (State.queuePtrReset_keeps (s.keeps_parts 0x800) (Keep.off_of_and (by decide))).evr_eq
  exact (s.evrPushSound_book code page kind group).ite
    ((((State.SameBook.refl s).upd hreset).trans (State.evrLost_book _)).trans (State.evrPushSound_book _ _ _ _ _))

/-! ### The branches of a trigger (R584) -/

/-- A trigger without a token. -/
def State.trigDropped : State := ((s.inc pgEVR Evr.DROPPED_TOTAL).fault pgEVR Evr.F_DROPPED).evrDrop

/-- A token of `code` is spent. -/
def State.trigSpent (code : Nat) : State :=
  { s with evr := { s.evr with spent := Tab.set (fun _ => 0) s.evr.spent code (Tab.get (fun _ => 0) s.evr.spent code + 1) } }

/-- A trigger while the recorder is frozen. -/
def State.trigFrozen : State := (s.inc pgEVR Evr.FROZEN_EVENTS).evrMiss

theorem State.trigger_off {code : Nat} (page : Nat) (h : s.enabled pgEVR = false ∨ bit (s.trigWord code) 0 = false) :
    s.trigger code page = s := by
  unfold State.trigger
  by_cases hen : s.enabled pgEVR = true
  · have hword := h.resolve_left (by simp [hen])
    rw [if_neg (by simp [hen])]
    exact if_pos (by simp [hword])
  · exact if_pos (by simp [hen])

theorem State.trigger_on {code : Nat} (page : Nat) (hen : s.enabled pgEVR = true) (hword : bit (s.trigWord code) 0 = true) :
    s.trigger code page = if bits (s.trigWord code) (23, 16) ≤ Tab.get (fun _ => 0) s.evr.spent code then s.trigDropped
      else if s.sts pgEVR Evr.S_FROZEN = 1 then (s.trigSpent code).trigFrozen else (s.trigSpent code).evrPush code page 0 0 := by
  unfold State.trigger
  rw [if_neg (by simp [hen])]
  exact if_neg (by simp [hword])

theorem State.trigger_book (code page : Nat) : s.SameBook (s.trigger code page) := by
  by_cases h : s.enabled pgEVR = true ∧ bit (s.trigWord code) 0 = true
  · obtain ⟨hen, hword⟩ := h
    rw [s.trigger_on page hen hword]
    have hdrop : s.SameBook s.trigDropped :=
      ((State.SameBook.refl s).upd (State.evr_fault (s.inc pgEVR Evr.DROPPED_TOTAL) pgEVR Evr.F_DROPPED)).trans (State.evrDrop_book _)
    have hspent : s.SameBook (s.trigSpent code) := ⟨rfl⟩
    have hfrozen : (s.trigSpent code).SameBook (s.trigSpent code).trigFrozen := ⟨rfl⟩
    exact hdrop.ite ((hspent.trans hfrozen).ite (hspent.trans (State.evrPush_book _ _ _ _ _)))
  · rw [s.trigger_off page (by simpa [or_iff_not_imp_left] using h)]
    exact .refl s

/-! ### A pending entry (R585) -/

/-- The pending queue with one entry more. -/
def Queue.withEntry (x : Queue) (d : List Byte) : Queue := (x.begun.addWord 64 (QWord.pack (x.part ++ d) (x.tentative == 0) true)).commit

theorem State.evrPushSound_placed {code page kind group : Nat} (hen : s.flag (pgQUE 3) (Que.Q_CTRL 3) 0 = true)
    (hlost : (s.queue 3 3).lost = false) (hrefused : (s.queue 3 3).refused = false) (hroom : (s.queue 3 3).words.length < 64)
    (hcommitted : (s.queue 3 3).committed = (s.queue 3 3).words.length) :
    (s.evrPushSound code page kind group).queue 3 3
      = (s.queue 3 3).withEntry (pendingEntry code page kind group (stamp32 s.tln.now)) := by
  have hput : (s.queuePut 3 3 64 (pendingEntry code page kind group (stamp32 s.tln.now)) true).queue 3 3
      = (s.queue 3 3).withEntry (pendingEntry code page kind group (stamp32 s.tln.now)) := by
    rw [State.queuePut_placed hen hlost hrefused, Queue.place_adds (x := (s.queue 3 3).begun) (.inr rfl) hroom]
    simp only [Bool.false_eq_true, if_false, if_true, State.inc_eq, State.queue_setReg, State.queue_setQueue]
    rfl
  unfold State.evrPushSound
  dsimp only
  rw [if_neg]
  · exact (State.queue_queueLevels _ _ _ _).trans hput
  · rw [State.queue_queueLevels, hput, hcommitted]
    have hlen : ((s.queue 3 3).withEntry (pendingEntry code page kind group (stamp32 s.tln.now))).committed
      = (s.queue 3 3).words.length + 1 := List.length_append
    omega

/-- The pending queue takes an entry: it is enabled and sound, nothing of a packet is in progress, and it has a place left. -/
structure State.CanPush (s : State) : Prop where
  on : s.flag (pgQUE 3) (Que.Q_CTRL 3) 0 = true
  sound : (s.queue 3 3).sound = true
  lost : (s.queue 3 3).lost = false
  refused : (s.queue 3 3).refused = false
  part : (s.queue 3 3).part = []
  committed : (s.queue 3 3).committed = (s.queue 3 3).words.length
  room : (s.queue 3 3).words.length < 64

/-- An entry pushed is the last word, and it is committed. -/
theorem State.evrPush_adds (h : s.CanPush) (code page kind group : Nat) :
    ((s.evrPush code page kind group).queue 3 3).words = (s.queue 3 3).words
      ++ [QWord.pack (pendingEntry code page kind group (stamp32 s.tln.now)) ((s.queue 3 3).tentative == 0) true] ∧
    ((s.evrPush code page kind group).queue 3 3).committed = (s.queue 3 3).words.length + 1 := by
  have heq : s.evrPush code page kind group = s.evrPushSound code page kind group := if_pos h.sound
  rw [heq, s.evrPushSound_placed h.on h.lost h.refused h.room h.committed]
  refine ⟨?_, List.length_append⟩
  show (s.queue 3 3).words ++ [QWord.pack ((s.queue 3 3).part ++ _) _ true] = _
  rw [h.part, List.nil_append]

theorem State.spent_evrPush {code page kind group : Nat} (h : s.CanPush) : (s.evrPush code page kind group).evr = s.evr := by
  have heq : s.evrPush code page kind group = s.evrPushSound code page kind group := if_pos h.sound
  have hput : ((s.queuePut 3 3 64 (pendingEntry code page kind group (stamp32 s.tln.now)) true).queueLevels 3).evr = s.evr :=
    (State.queueLevels_keeps (State.queuePut_keeps (s.keeps_parts 0x800) (Keep.off_of_and (by decide))) (Keep.off_of_and (by decide))).evr_eq
  obtain ⟨-, hcount⟩ := s.evrPush_adds h code page kind group
  rw [heq] at hcount ⊢
  unfold State.evrPushSound at hcount ⊢
  dsimp only at hcount ⊢
  split at hcount
  · next hsame =>
    have hlost : ((((s.queuePut 3 3 64 (pendingEntry code page kind group (stamp32 s.tln.now)) true).queueLevels 3).evrLost).queue 3 3)
      = ((s.queuePut 3 3 64 (pendingEntry code page kind group (stamp32 s.tln.now)) true).queueLevels 3).queue 3 3 :=
      State.queue_congr ((State.evrLost_keeps (State.keeps_parts _ 0x40) (Keep.off_of_and (by decide))).queues_eq) 3 3
    rw [hlost, hsame, h.committed] at hcount
    omega
  · next hmoved =>
    rw [if_neg hmoved]
    exact hput

end

end Sys2Proof.Machine
end

section
/-!
Triggers, records, statistics spans, freeze, erase and scan of the event recorder (R577 to R605): O43.
-/
set_option Elab.async false
namespace Sys2Proof.Machine

section
variable {s a : State}

/-! ### Triggers and tokens (R584) -/

theorem exec_recorderTrigger (haclk : s.aclkRuns = true) (code : Fin 4096) (page : Fin 1024) :
    exec (.recorderTrigger code page) s = .next (s.trigger code.val page.val) := congrArg Host.Outcome.next (if_pos haclk)

theorem State.trigDropped_leaves (s : State) : s.trigDropped.reg pgEVR Evr.DROPPED_TOTAL = s.reg pgEVR Evr.DROPPED_TOTAL + 1 ∧
    s.trigDropped.flag pgEVR PAGE_FAULT Evr.F_DROPPED = true ∧ s.trigDropped.evr.dropped = min 65535 (s.evr.dropped + 1) ∧
    s.trigDropped.queue 3 3 = s.queue 3 3 := by
  have hw := (s.inc pgEVR Evr.DROPPED_TOTAL).faultHere_within pgEVR Evr.F_DROPPED
  refine ⟨?_, ?_, ?_, ?_⟩
  · exact (hw.reg (by decide)).trans ((State.reg_setReg_ne _ _ (by decide)).trans (State.reg_setReg_self _ _ _ _))
  · exact State.flag_fault (s.inc pgEVR Evr.DROPPED_TOTAL) pageInfo_pgEVR rfl (by decide) (by decide)
  · exact congrArg (fun e => min 65535 (e.dropped + 1)) (State.evr_fault (s.inc pgEVR Evr.DROPPED_TOTAL) pgEVR Evr.F_DROPPED)
  · exact State.queue_congr ((State.fault_keeps (State.keeps_parts _ 0x40) (Keep.off_of_and (by decide))).queues_eq
      (s := s.inc pgEVR Evr.DROPPED_TOTAL)) 3 3

theorem State.trigFrozen_leaves (s : State) (code : Nat) :
    (s.trigSpent code).trigFrozen.reg pgEVR Evr.FROZEN_EVENTS = s.reg pgEVR Evr.FROZEN_EVENTS + 1 ∧
    (s.trigSpent code).trigFrozen.queue 3 3 = s.queue 3 3 :=
  ⟨State.reg_setReg_self _ _ _ _, rfl⟩

theorem State.trigSpent_canPush (h : s.CanPush) (code : Nat) : (s.trigSpent code).CanPush := ⟨h.1, h.2, h.3, h.4, h.5, h.6, h.7⟩

/-- A token of `code` is given back. -/
def State.tokenBack (s : State) (code : Nat) : State :=
  { s with evr := { s.evr with spent := Tab.set (fun _ => 0) s.evr.spent code (Tab.get (fun _ => 0) s.evr.spent code - 1) } }

theorem State.trigSpent_spent (s : State) (code : Nat) :
    Tab.get (fun _ => 0) (s.trigSpent code).evr.spent code = Tab.get (fun _ => 0) s.evr.spent code + 1 :=
  Tab.get_set_self (fun _ => 0) s.evr.spent code (Tab.get (fun _ => 0) s.evr.spent code + 1)

theorem State.tokenBack_spent (s : State) (code : Nat) :
    Tab.get (fun _ => 0) (s.tokenBack code).evr.spent code = Tab.get (fun _ => 0) s.evr.spent code - 1 :=
  Tab.get_set_self (fun _ => 0) s.evr.spent code (Tab.get (fun _ => 0) s.evr.spent code - 1)

/-- At the instant of a tick the recorder's state and memory are as before, and so are its registers. -/
theorem State.reachTick_evr {key step off : Nat} (h : s.reachTick key step off = some a) : a.evr = s.evr ∧ a.mem = s.mem := by
  obtain ⟨b, hb, rfl⟩ := Option.map_eq_some_iff.1 h
  exact ⟨(State.reach_parts hb).evr_eq, (State.reach_leaves hb).2⟩

theorem State.refill_reached {code : Nat} (hspent : Tab.get (fun _ => 0) s.evr.spent code ≠ 0)
    (h : s.reachTick code (2 ^ bits (s.trigWord code) (27, 24) * MS) 0 = some a) : s.refill code = a.tokenBack code := by
  unfold State.refill
  dsimp only
  rw [if_neg hspent, State.atTick_reached h]
  rfl

/-! ### Records (R577, R581, R585) -/

theorem drawer_memory {d i : Nat} (hi : i < 512) : isMemory (drawerAt d + i) = true ∧ isImage (drawerAt d + i) = false := by
  have hmod : d % 4096 < 4096 := Nat.mod_lt _ (by decide)
  unfold isMemory isImage drawerAt FERAM_BASE DRAM_BASE DRAM_END
  norm_num
  omega

theorem State.nextRecord_eq {w : QWord} (hhead : (s.queue 3 3).head = some w) (hmay : s.mayRecord = true) : s.nextRecord
    = (let e := leAt w.data 0 8
       let ns := extendStamp (s.tln.now / NS) (e / 2 ^ 32)
       let time : TimeVal := ⟨ns / SEC, ns % SEC, 0⟩
       let seq := s.nat pgEVR Evr.NEXT_SEQ
       let b := s.queuePop 3 3
       if e.testBit 22 then
         (b.takeSpan (e / 2 ^ 23 % 8)).2.beginRecord
           ⟨seq, (b.takeSpan (e / 2 ^ 23 % 8)).2.statRecord time (e / 2 ^ 23 % 8) (b.takeSpan (e / 2 ^ 23 % 8)).1, 0, some (e / 2 ^ 23 % 8)⟩
       else b.beginRecord ⟨seq, b.snapshotRecord time (e % 4096) (e / 2 ^ 12 % 1024), e % 4096, none⟩) := by
  unfold State.nextRecord
  rw [hhead]
  exact if_neg (by simp [hmay])

/-- The record in progress is `d`. -/
def State.recordHeld (s : State) (d : Drawer) : State :=
  { s with evr := { s.evr with writing := some d, dropped := 0, lost := 0, thawed := false } }

/-- The record in progress is `d`, and WRITING says so. -/
def State.recordMarked (s : State) (d : Drawer) : State := (s.recordHeld d).setSts pgEVR Evr.S_WRITING 1

theorem State.beginRecord_eq (s : State) (d : Drawer) :
    s.beginRecord d = (s.setBytes (drawerAt d.seq) (leBytes 4 0 ++ d.data.drop 4)).recordMarked d := rfl

theorem State.byte_recordMarked (s : State) (d : Drawer) (x : Nat) : (s.recordMarked d).byte x = s.byte x :=
  (State.byte_congr (State.setReg_mem (s.recordHeld d) _ _ _) (State.setReg_boot (s.recordHeld d) _ _ _) x).trans rfl

theorem State.beginRecord_leaves (s : State) (d : Drawer) : (s.beginRecord d).evr.writing = some d ∧
    (s.beginRecord d).sts pgEVR Evr.S_WRITING = 1 ∧ ∀ i, i < 4 → (s.beginRecord d).byte (drawerAt d.seq + i) = 0 := by
  rw [s.beginRecord_eq]
  refine ⟨rfl, State.sts_setSts_self _ _ (by decide) 1, fun i hi => ?_⟩
  obtain ⟨hmem, himage⟩ := drawer_memory (d := d.seq) (show i < 512 by omega)
  rw [State.byte_recordMarked, State.byte_setBytes (by rw [List.length_append, length_leBytes]; omega) hmem himage,
    List.getD_append _ _ _ _ (by rw [length_leBytes]; omega)]
  interval_cases i <;> rfl

/-- The record is complete, and the recorder free. -/
def State.recordFree (s : State) : State := { s with evr := { s.evr with writing := none } }

theorem State.freezing_recordFree (s : State) : s.recordFree.evr.freezing = s.evr.freezing := rfl

/-- The recorder's registers after the record with number `n`. -/
def State.recordCounted (s : State) (n : Nat) : State :=
  ((s.setNextSeq (n + 1)).recordFree.setSts pgEVR Evr.S_WRITING 0).inc pgEVR Evr.RECORDS

theorem State.mem_setNextSeq (s : State) (n : Nat) : (s.setNextSeq n).mem = s.mem := by
  rw [State.setNextSeq, State.setNat, State.setNat, State.setReg_mem, State.setReg_mem]

theorem State.boot_setNextSeq (s : State) (n : Nat) : (s.setNextSeq n).boot = s.boot := by
  rw [State.setNextSeq, State.setNat, State.setNat, State.setReg_boot, State.setReg_boot]

theorem State.byte_recordCounted (s : State) (n x : Nat) : (s.recordCounted n).byte x = s.byte x := by
  have hmem : (s.recordCounted n).mem = s.mem := by
    rw [State.recordCounted, State.inc_eq, State.setReg_mem, State.setSts, State.setFld, State.setReg_mem]
    exact s.mem_setNextSeq (n + 1)
  have hboot : (s.recordCounted n).boot = s.boot := by
    rw [State.recordCounted, State.inc_eq, State.setReg_boot, State.setSts, State.setFld, State.setReg_boot]
    exact s.boot_setNextSeq (n + 1)
  exact State.byte_congr hmem hboot x

/-- MAGIC is written, and the recorder's registers follow. -/
def State.recordClosed (s : State) (d : Drawer) : State := (s.setBytes (drawerAt d.seq) (d.data.take 4)).recordCounted d.seq

theorem State.recordClosed_eq (s : State) (d : Drawer) :
    s.recordClosed d = (s.setBytes (drawerAt d.seq) (d.data.take 4)).recordCounted d.seq := rfl

/-- Interrupts and the partner are told of a complete record. -/
def State.recordTold (s : State) (d : Drawer) : State :=
  match d.group with
  | some g => (s.inc pgEVR (Evr.STAT_RECORDS g)).irq 355
  | none => (if bit (s.trigWord d.code) 1 then s.irq 354 else s).crossRef d

theorem State.endRecord_eq {d : Drawer} (h : s.evr.writing = some d) : s.endRecord
    = if (((s.recordClosed d).count 1224 1).recordTold d).evr.freezing then (((s.recordClosed d).count 1224 1).recordTold d).setFrozen true
      else ((s.recordClosed d).count 1224 1).recordTold d := by
  unfold State.endRecord
  rw [h]
  rfl

/-- What completing a record leaves: the recorder's state apart from its counts, memory, and most registers. -/
structure State.RecordKept (s t : State) : Prop where
  book : s.SameBook t
  mem : t.mem = s.mem
  boot : t.boot = s.boot
  low : ∀ o, o < 0x1000 → clearOf tellSpans (regKey pgEVR o) → t.reg pgEVR o = s.reg pgEVR o

theorem State.RecordKept.trans {t u : State} (h : s.RecordKept t) (g : t.RecordKept u) : s.RecordKept u :=
  ⟨h.book.trans g.book, g.mem.trans h.mem, g.boot.trans h.boot, fun o ho hk => (g.low o ho hk).trans (h.low o ho hk)⟩

theorem State.recordKept_irq (s : State) (k : Nat) : s.RecordKept (s.irq k) := by
  have hparts := State.irq_keeps (k := k) (s.keeps_parts 0x400000010) (Keep.off_of_and (by decide))
  exact ⟨(State.SameBook.refl s).upd (s.evr_irq k), hparts.mem_eq, hparts.boot_eq,
    fun o _ hk => ((State.irq_within k).mono irqSpans_subset_tell).reg hk⟩

theorem State.recordKept_count (s : State) (n k : Nat) : s.RecordKept (s.count n k) := by
  have hparts := State.count_keeps (n := n) (k := k) (s.keeps_parts 0x400000010) (Keep.off_of_and (by decide))
  exact ⟨(State.SameBook.refl s).upd (s.evr_count n k), hparts.mem_eq, hparts.boot_eq,
    fun o _ hk => ((State.count_within n k).mono countSpans_subset_tell).reg hk⟩

theorem State.tsxQueue_book (s : State) (type plane : Nat) (payload : List Byte) : s.SameBook (s.tsxQueue type plane payload) :=
  (State.SameBook.refl s).upd ((State.tsxQueue_keeps (s.keeps_parts 0x800) (Keep.off_of_and (by decide))).evr_eq)

theorem State.tsxBreak_book (s : State) : s.SameBook s.tsxBreak := by
  have hreport (a : State) : a.SameBook (((a.inc pgRED Red.BREAKS).fault pgRED Red.F_BREAK).trigger 0xE07 pgRED) :=
    ((State.SameBook.refl a).upd (State.evr_fault (a.inc pgRED Red.BREAKS) pgRED Red.F_BREAK)).trans (State.trigger_book _ _ _)
  have hred (x : RedState) : s.SameBook (s.setRed x) := ⟨rfl⟩
  exact State.SameBook.trans (((hred _).trans (State.tsxQueue_book _ _ _ _)).ite ((hred _).upd (State.setReg_evr _ _ _ _))) (hreport _)

theorem State.tsxSend_book (s : State) (type plane : Nat) (payload : List Byte) : s.SameBook (s.tsxSend type plane payload) :=
  (State.SameBook.refl s).ite (((s.tsxQueue_book type plane payload).trans (State.tsxBreak_book _)).ite (s.tsxQueue_book type plane payload))

theorem State.recordKept_crossRef (s : State) (d : Drawer) : s.RecordKept (s.crossRef d) := by
  unfold State.crossRef
  split
  · have hparts := State.tsxSend_keeps (type := 0x31) (plane := 2) (payload := beBytes 4 d.seq ++ beBytes 2 d.code ++ beBytes 2 0
      ++ (TimeVal.ofMem (slice d.data 8 12)).wireBytes) (s.keeps_parts 0x400000010) (Keep.off_of_and (by decide))
    exact ⟨s.tsxSend_book _ _ _, hparts.mem_eq, hparts.boot_eq, fun o _ hk => (s.tsxSend_within _ _ _).reg hk⟩
  · exact ⟨.refl s, rfl, rfl, fun _ _ _ => rfl⟩

theorem State.recordKept_told (s : State) (d : Drawer) : s.RecordKept (s.recordTold d) := by
  unfold State.recordTold
  split
  · next g _ =>
    have hinc : s.RecordKept (s.inc pgEVR (Evr.STAT_RECORDS g)) := by
      refine ⟨⟨rfl⟩, rfl, rfl, fun o ho _ => State.reg_setReg_ne _ _ ?_⟩
      simp only [regKey, Evr.STAT_RECORDS]
      omega
    exact hinc.trans (State.recordKept_irq _ _)
  · split
    · exact (s.recordKept_irq 354).trans (State.recordKept_crossRef _ _)
    · exact s.recordKept_crossRef d

/-! ### Freeze (R590) -/

/-- The freeze has begun now. -/
def State.frozenNow (s : State) : State := { s with evr := { s.evr with freezing := false, frozenAt := s.tln.now } }

theorem State.setFrozen_true (s : State) : s.setFrozen true = (s.frozenNow.setSts pgEVR Evr.S_FROZEN 1).irq 353 := rfl
theorem State.setFrozen_false (s : State) : s.setFrozen false = (s.setSts pgEVR Evr.S_FROZEN 0).irq 353 := rfl

/-- What changing FROZEN may write. -/
abbrev frozenSpans : List Span := fldSpan pgEVR PAGE_STATUS Evr.S_FROZEN :: irqSpans

theorem State.setFrozen_within (s : State) (b : Bool) : s.Within frozenSpans (s.setFrozen b) := by
  cases b
  · exact ((State.Within.refl s).setSts List.mem_cons_self).irq (List.subset_cons_self _ _)
  · have hnow : s.Within frozenSpans s.frozenNow := (State.Within.refl s).upd rfl
    exact (hnow.setSts List.mem_cons_self).irq (List.subset_cons_self _ _)

theorem State.sts_setFrozen_frozen (s : State) : (s.setFrozen true).sts pgEVR Evr.S_FROZEN = 1 :=
  ((State.irq_within 353).sts (by decide) _).trans (State.sts_setSts_self _ _ (by decide) 1)

theorem State.sts_setFrozen_thawed (s : State) : (s.setFrozen false).sts pgEVR Evr.S_FROZEN = 0 :=
  ((State.irq_within 353).sts (by decide) _).trans (State.sts_setSts_self _ _ (by decide) 0)

theorem State.evr_setFrozen_frozen (s : State) : (s.setFrozen true).evr = s.frozenNow.evr := by
  rw [s.setFrozen_true, State.evr_irq]
  exact State.setReg_evr _ _ _ _

theorem State.evr_setFrozen_thawed (s : State) : (s.setFrozen false).evr = s.evr := by
  rw [s.setFrozen_false, State.evr_irq]
  exact State.setReg_evr _ _ _ _

theorem State.parts_setFrozen (s : State) : (s.setFrozen true).mem = s.mem ∧ (s.setFrozen true).boot = s.boot := by
  have h := State.recordKept_irq (s.frozenNow.setSts pgEVR Evr.S_FROZEN 1) 353
  rw [s.setFrozen_true]
  exact ⟨h.mem.trans (State.setReg_mem _ _ _ _), h.boot.trans (State.setReg_boot _ _ _ _)⟩

/-- A record closed: MAGIC stands in its Drawer, and the recorder is free for the next. -/
theorem State.recordCounted_leaves (s : State) (n : Nat) : (s.recordCounted n).evr = s.recordFree.evr ∧
    (s.recordCounted n).sts pgEVR Evr.S_WRITING = 0 ∧ (s.recordCounted n).nat pgEVR Evr.NEXT_SEQ = (n + 1) % 2 ^ 32 ∧
    (s.recordCounted n).nat pgEVR Evr.WR_DRAWER = (n + 1) % 4096 ∧
    (s.recordCounted n).reg pgEVR Evr.RECORDS = s.reg pgEVR Evr.RECORDS + 1 := by
  have hfree (page off : Nat) : (s.setNextSeq (n + 1)).recordFree.reg page off = (s.setNextSeq (n + 1)).reg page off := rfl
  have hseq : (s.recordCounted n).reg pgEVR Evr.NEXT_SEQ = BitVec.ofNat 32 ((n + 1) % 2 ^ 32) := by
    refine (State.reg_setReg_ne _ _ (by decide)).trans ((State.reg_setReg_ne _ _ (by decide)).trans ((hfree _ _).trans ?_))
    exact (State.reg_setReg_ne _ _ (by decide)).trans (State.reg_setReg_self _ _ _ _)
  have hdrawer : (s.recordCounted n).reg pgEVR Evr.WR_DRAWER = BitVec.ofNat 32 ((n + 1) % 4096) := by
    refine (State.reg_setReg_ne _ _ (by decide)).trans ((State.reg_setReg_ne _ _ (by decide)).trans ((hfree _ _).trans ?_))
    exact State.reg_setReg_self _ _ _ _
  refine ⟨(State.setReg_evr _ _ _ _).trans ((State.setReg_evr _ _ _ _).trans ?_), ?_, ?_, ?_, ?_⟩
  · have hnext : (s.setNextSeq (n + 1)).evr = s.evr := (State.setReg_evr _ _ _ _).trans (State.setReg_evr _ _ _ _)
    rw [State.recordFree, hnext, State.recordFree]
  · exact (congrArg (bits · Evr.S_WRITING) (State.reg_setReg_ne _ _ (by decide))).trans (State.sts_setSts_self _ _ (by decide) 0)
  · rw [State.nat, hseq, BitVec.toNat_ofNat, Nat.mod_mod]
  · rw [State.nat, hdrawer, BitVec.toNat_ofNat, Nat.mod_eq_of_lt (by omega)]
  · refine (State.reg_setReg_self _ _ _ _).trans (congrArg (· + 1) ?_)
    refine (State.reg_setReg_ne _ _ (by decide)).trans ((hfree _ _).trans ?_)
    exact (State.reg_setReg_ne _ _ (by decide)).trans (State.reg_setReg_ne _ _ (by decide))

theorem State.recordClosed_byte (s : State) {d : Drawer} (hlen : 4 ≤ d.data.length) {i : Nat} (hi : i < 4) :
    (s.recordClosed d).byte (drawerAt d.seq + i) = d.data.getD i 0 := by
  obtain ⟨hmem, himage⟩ := drawer_memory (d := d.seq) (show i < 512 by omega)
  rw [s.recordClosed_eq, State.byte_recordCounted, State.byte_setBytes (by rw [List.length_take]; omega) hmem himage]
  simp [List.getD, hi]

/-- A completed record: MAGIC stands in its Drawer, and the recorder is ready for the next. -/
theorem State.endRecord_leaves {d : Drawer} (h : s.evr.writing = some d) (hlen : 4 ≤ d.data.length) :
    s.endRecord.evr.writing = none ∧ s.endRecord.sts pgEVR Evr.S_WRITING = 0 ∧
    s.endRecord.nat pgEVR Evr.NEXT_SEQ = (d.seq + 1) % 2 ^ 32 ∧ s.endRecord.nat pgEVR Evr.WR_DRAWER = (d.seq + 1) % 4096 ∧
    s.endRecord.reg pgEVR Evr.RECORDS = s.reg pgEVR Evr.RECORDS + 1 ∧
    (∀ i, i < 4 → s.endRecord.byte (drawerAt d.seq + i) = d.data.getD i 0) ∧
    (s.evr.freezing = true → s.endRecord.sts pgEVR Evr.S_FROZEN = 1) := by
  have hset : s.Within [] (s.setBytes (drawerAt d.seq) (d.data.take 4)) := s.setBytes_within _ _
  have hevr : (s.setBytes (drawerAt d.seq) (d.data.take 4)).evr = s.evr :=
    (State.setBytes_keeps (s.keeps_parts 0x800) (Keep.off_of_and (by decide))).evr_eq
  have hkept : (s.recordClosed d).RecordKept (((s.recordClosed d).count 1224 1).recordTold d) :=
    ((s.recordClosed d).recordKept_count 1224 1).trans (State.recordKept_told _ _)
  have hbyte (i : Nat) (hi : i < 4) := s.recordClosed_byte hlen hi
  obtain ⟨hfree, hsts, hseq, hdrawer, hrecords⟩ := (s.setBytes (drawerAt d.seq) (d.data.take 4)).recordCounted_leaves d.seq
  rw [hset.reg (by decide)] at hrecords
  have hwriting : (s.recordClosed d).evr.writing = none := congrArg EvrState.writing hfree
  have hfreezing : (s.recordClosed d).evr.freezing = s.evr.freezing :=
    (congrArg EvrState.freezing hfree).trans ((State.freezing_recordFree _).trans (congrArg EvrState.freezing hevr))
  rw [← s.recordClosed_eq] at hsts hseq hdrawer hrecords
  rw [State.endRecord_eq h]
  generalize ((s.recordClosed d).count 1224 1).recordTold d = t at hkept ⊢
  generalize s.recordClosed d = c at hkept hbyte hsts hseq hdrawer hrecords hwriting hfreezing
  have hreg {o : Nat} (ho : o < 0x1000) (hk : clearOf tellSpans (regKey pgEVR o)) : t.reg pgEVR o = c.reg pgEVR o := hkept.low o ho hk
  have hsts' : t.sts pgEVR Evr.S_WRITING = 0 := (congrArg (bits · Evr.S_WRITING) (hreg (by decide) (by decide))).trans hsts
  have hseq' : t.nat pgEVR Evr.NEXT_SEQ = (d.seq + 1) % 2 ^ 32 := (congrArg BitVec.toNat (hreg (by decide) (by decide))).trans hseq
  have hdrawer' : t.nat pgEVR Evr.WR_DRAWER = (d.seq + 1) % 4096 := (congrArg BitVec.toNat (hreg (by decide) (by decide))).trans hdrawer
  have hrecords' : t.reg pgEVR Evr.RECORDS = s.reg pgEVR Evr.RECORDS + 1 := (hreg (by decide) (by decide)).trans hrecords
  have hbyte' (i : Nat) (hi : i < 4) : t.byte (drawerAt d.seq + i) = d.data.getD i 0 :=
    (State.byte_congr hkept.mem hkept.boot _).trans (hbyte i hi)
  split
  · have hfrozen := t.setFrozen_within true
    obtain ⟨hmem, hboot⟩ := t.parts_setFrozen
    refine ⟨(congrArg EvrState.writing t.evr_setFrozen_frozen).trans (hkept.book.writing.trans hwriting),
      (hfrozen.stsApart (by decide)).trans hsts', (hfrozen.nat (by decide)).trans hseq', (hfrozen.nat (by decide)).trans hdrawer',
      (hfrozen.reg (by decide)).trans hrecords', fun i hi => (State.byte_congr hmem hboot _).trans (hbyte' i hi),
      fun _ => t.sts_setFrozen_frozen⟩
  · next hoff =>
    exact ⟨hkept.book.writing.trans hwriting, hsts', hseq', hdrawer', hrecords', hbyte',
      fun hf => absurd (hkept.book.freezing.trans (hfreezing.trans hf)) hoff⟩

end

end Sys2Proof.Machine
end

section
/-!
Statistics spans, freeze, erase and scan, and the trigger memory (R583, R589 to R592, R603): O43.
-/
set_option Elab.async false
namespace Sys2Proof.Machine

section
variable {s a : State}

/-! ### Spans (R589) -/

theorem State.spanClose_reached {g : Nat} (hon : s.flag pgEVR (Evr.STAT_CTRL g) 0 = true)
    (hstep : s.fld pgEVR (Evr.STAT_CTRL g) (27, 16) * SEC * NS ≠ 0)
    (h : s.reachTick (tickSpan g) (s.fld pgEVR (Evr.STAT_CTRL g) (27, 16) * SEC * NS) 0 = some a) :
    s.spanClose g = ((List.range 4).foldl State.macMs a).closeSpan g (a.statCfg g) := by
  unfold State.spanClose
  dsimp only
  rw [if_neg (by simpa [hon] using hstep), State.atTick_reached h, State.closeNow]

theorem State.closeSpan_pushed {g : Nat} (cfg : List (Word × Word)) (hen : s.enabled pgEVR = true) (hthawed : s.sts pgEVR Evr.S_FROZEN ≠ 1)
    (h : s.CanPush) : s.closeSpan g cfg = (s.evrPush 0 pgEVR 1 g).setStatGroup g
      ⟨(s.evrPush 0 pgEVR 1 g).tln.now, List.replicate 5 StatQuantity.empty, ((s.evrPush 0 pgEVR 1 g).statGroup g).closed
        ++ [⟨((s.evrPush 0 pgEVR 1 g).statGroup g).began, cfg, ((s.evrPush 0 pgEVR 1 g).statGroup g).open_⟩]⟩ := by
  obtain ⟨-, hcount⟩ := s.evrPush_adds h 0 pgEVR 1 g
  unfold State.closeSpan
  rw [if_neg (by simp [hen, hthawed])]
  dsimp only
  rw [if_neg (by rw [hcount, h.committed]; omega)]

theorem State.statGroup_setStatGroup (s : State) (g : Nat) (v : StatGroup) : (s.setStatGroup g v).statGroup g = v := Tab.get_set_self _ _ _ _

theorem State.closeSpan_group {g : Nat} (cfg : List (Word × Word)) (hen : s.enabled pgEVR = true) (hthawed : s.sts pgEVR Evr.S_FROZEN ≠ 1)
    (h : s.CanPush) : (s.closeSpan g cfg).statGroup g = ⟨s.tln.now, List.replicate 5 StatQuantity.empty,
      (s.statGroup g).closed ++ [⟨(s.statGroup g).began, cfg, (s.statGroup g).open_⟩]⟩ := by
  have htln : (s.evrPush 0 pgEVR 1 g).tln = s.tln :=
    (State.evrPush_keeps (s.keeps_parts 0x200) (Keep.off_of_and (by decide))).tln_eq
  have hgroup : (s.evrPush 0 pgEVR 1 g).statGroup g = s.statGroup g := by
    rw [State.statGroup, (s.evrPush_book 0 pgEVR 1 g).stats, State.statGroup]
  rw [State.closeSpan_pushed cfg hen hthawed h, State.statGroup_setStatGroup, htln, hgroup]

/-! ### Freeze and thaw (R590) -/

theorem State.freeze_now (hoff : s.evr.freezing = false) (hthawed : s.sts pgEVR Evr.S_FROZEN ≠ 1) (hidle : s.evr.writing = none) :
    s.freeze = s.setFrozen true := by
  unfold State.freeze
  rw [if_neg (by simp [hoff, hthawed]), if_neg (by simp [hidle])]

/-- The freeze waits for the record in progress. -/
def State.freezeWaits (s : State) : State := { s with evr := { s.evr with freezing := true } }

theorem State.freeze_waits (hoff : s.evr.freezing = false) (hthawed : s.sts pgEVR Evr.S_FROZEN ≠ 1) (hbusy : s.evr.writing ≠ none) :
    s.freeze = s.freezeWaits := by
  unfold State.freeze
  rw [if_neg (by simp [hoff, hthawed]), if_pos (Option.isSome_iff_ne_none.2 hbusy)]
  rfl

/-- The next record says that the recorder was thawed. -/
def State.thawNoted (s : State) : State := { s with evr := { s.evr with thawed := true } }

theorem State.thaw_frozen (hoff : s.evr.freezing = false) (hfrozen : s.sts pgEVR Evr.S_FROZEN = 1) : s.thaw = s.thawNoted.setFrozen false := by
  unfold State.thaw
  rw [if_neg (by simp [hoff]), if_pos hfrozen]
  rfl

theorem State.thawed_leaves (s : State) : (s.thawNoted.setFrozen false).sts pgEVR Evr.S_FROZEN = 0 ∧
    (s.thawNoted.setFrozen false).evr.thawed = true :=
  ⟨State.sts_setFrozen_thawed _, congrArg EvrState.thawed (State.evr_setFrozen_thawed s.thawNoted)⟩

theorem State.freezeExpire_reached (hfrozen : s.sts pgEVR Evr.S_FROZEN = 1)
    (h : s.reach (s.evr.frozenAt + s.fld pgEVR Evr.EVR_CTRL (31, 16) * SEC * NS) = some a) :
    s.freezeExpire = (a.thaw.fault pgEVR Evr.F_FREEZE_EXPIRED).trigger 0x802 pgEVR := by
  unfold State.freezeExpire
  rw [if_neg (by rw [hfrozen]; decide), State.atTime_reached h]

/-- What a fault of the recorder and its trigger may write. -/
abbrev evrFaultSpans (n : Nat) : List Span := fldSpan pgEVR PAGE_FAULT (n, n) :: trigSpans

theorem State.evrFault_within (s : State) {n : Nat} (hn : n < 32) (code : Nat) :
    s.Within (evrFaultSpans n) ((s.fault pgEVR n).trigger code pgEVR) :=
  ((State.Within.refl s).faultBit pageInfo_pgEVR rfl List.mem_cons_self
    (fun _ hi => List.mem_cons_of_mem _ (irqSpans_subset_trig hi)) hn).andThen (State.trigger_within _ _ _) (List.subset_cons_self _ _)

theorem State.flag_evrFault (s : State) {n : Nat} (hn : n < 32) (code : Nat) (hk : clearFld trigSpans (regKey pgEVR PAGE_FAULT) (n, n)) :
    ((s.fault pgEVR n).trigger code pgEVR).flag pgEVR PAGE_FAULT n = true :=
  ((State.trigger_within _ _ _).flagApart hk hn).trans (State.flag_fault s pageInfo_pgEVR rfl hn (by decide))

/-! ### Erase (R591) -/

theorem State.erase_begins (hlow : s.dev.presenceLow = true) (hfrozen : s.sts pgEVR Evr.S_FROZEN = 1) :
    s.erase = s.setSts pgEVR Evr.S_ERASING 1 := if_pos (by simp [hlow, hfrozen])

theorem State.erase_refused (h : s.dev.presenceLow = false ∨ s.sts pgEVR Evr.S_FROZEN ≠ 1) :
    s.erase = (s.fault pgEVR Evr.F_GUARD_REFUSED).trigger 0x844 pgEVR := by
  refine if_neg fun hx => ?_
  simp only [Bool.and_eq_true, beq_iff_eq] at hx
  rcases h with hlow | hthawed
  · exact Bool.false_ne_true (hlow.symm.trans hx.1)
  · exact hthawed hx.2

theorem State.dev_counted (s : State) : s.counted.dev = s.dev :=
  (State.count_keeps (s.keeps_parts 0x80) (Keep.off_of_and (by decide))).dev_eq

theorem State.mem_counted (s : State) : s.counted.mem = s.mem :=
  (State.count_keeps (s.keeps_parts 0x10) (Keep.off_of_and (by decide))).mem_eq

theorem exec_erase (r : Requester) (low : Bool) (h : s.reaches pgEVR = true) :
    exec (.erase r low) s = .next (s.presence low).counted.erase :=
  congrArg Host.Outcome.next (State.gate_eq ((s.reaches_presence low pgEVR).trans h) _)

theorem State.sts_presence (s : State) (low : Bool) (f : Field) : (s.presence low).counted.sts pgEVR f = s.sts pgEVR f :=
  ((s.presence low).counted_within.sts (by decide) f).trans rfl

theorem State.mem_presence (s : State) (low : Bool) : (s.presence low).counted.mem = s.mem := (s.presence low).mem_counted

theorem State.eraseRecord_cases (s : State) : s.eraseRecord = s.trigger 0x803 pgEVR ∨
    s.eraseRecord = (s.trigSpent 0x803).evrPush 0x803 pgEVR 0 0 := by
  unfold State.eraseRecord
  dsimp only
  split
  · exact .inl rfl
  · exact .inr rfl

/-- The record of an erase leaves memory, and the registers that it does not count in. -/
theorem State.eraseRecord_leaves (s : State) : s.Within trigSpans s.eraseRecord ∧ ∀ x, s.eraseRecord.byte x = s.byte x := by
  rcases s.eraseRecord_cases with h | h
  · rw [h]
    exact ⟨s.trigger_within _ _, State.byte_congr (s.mem_trigger _ _) (s.boot_trigger _ _)⟩
  · have hparts := State.evrPush_keeps (code := 0x803) (page := pgEVR) (kind := 0) (group := 0)
      ((s.trigSpent 0x803).keeps_parts 0x400000010) (Keep.off_of_and (by decide))
    have hspent : s.Within trigSpans (s.trigSpent 0x803) := (State.Within.refl s).upd rfl
    rw [h]
    exact ⟨hspent.trans (State.evrPush_within _ _ _ _ _),
      fun x => (State.byte_congr hparts.mem_eq hparts.boot_eq x).trans (State.byte_congr (t := s.trigSpent 0x803) rfl rfl x)⟩

theorem memDefault_feram {x : Nat} (hlow : drawerAt 0 ≤ x) (hhigh : x < drawerAt 0 + 0x200000) : memDefault x = 0 ∧ isImage x = false := by
  unfold drawerAt FERAM_BASE at hlow hhigh
  unfold memDefault isImage FERAM_BASE
  norm_num at hlow hhigh ⊢
  omega

theorem State.byte_erased (s : State) {x : Nat} (hlow : drawerAt 0 ≤ x) (hhigh : x < drawerAt 0 + 0x200000) :
    (((s.zeroBytes (drawerAt 0) 0x200000).setSts pgEVR Evr.S_ERASING 0).eraseRecord).byte x = 0 := by
  obtain ⟨hdefault, himage⟩ := memDefault_feram hlow hhigh
  rw [(State.eraseRecord_leaves _).2, State.setSts, State.setFld, State.byte_congr (State.setReg_mem _ _ _ _) (State.setReg_boot _ _ _ _),
    State.byte_zeroBytes,
    if_pos ⟨hlow, hhigh, by rw [himage, Bool.false_and]⟩, hdefault]

/-! ### The scan (R592) -/

/-- The scan is over. -/
def State.scanned (s : State) : State := { s with evr := { s.evr with scanDue := false } }

/-- The scan's results in the registers. -/
def State.scanCounted (s : State) (n torn : Nat) : State :=
  ((s.setNextSeq n).setNat pgEVR Evr.TORN_FOUND torn).scanned.setSts pgEVR Evr.S_SCANNING 0

theorem State.scanEnd_eq (s : State) (last : Option Nat) (torn : Nat) : s.scanEnd last torn
    = (if torn = 0 then s.scanCounted ((last.map (· + 1)).getD 0) torn
       else (s.scanCounted ((last.map (· + 1)).getD 0) torn).fault pgEVR Evr.F_TORN).trigger 0x801 pgEVR := rfl

theorem State.scanCounted_leaves (s : State) (n : Nat) {torn : Nat} (htorn : torn < 2 ^ 32) :
    (s.scanCounted n torn).sts pgEVR Evr.S_SCANNING = 0 ∧ (s.scanCounted n torn).nat pgEVR Evr.NEXT_SEQ = n % 2 ^ 32 ∧
    (s.scanCounted n torn).nat pgEVR Evr.TORN_FOUND = torn := by
  have hfree (page off : Nat) : ((s.setNextSeq n).setNat pgEVR Evr.TORN_FOUND torn).scanned.reg page off
    = ((s.setNextSeq n).setNat pgEVR Evr.TORN_FOUND torn).reg page off := rfl
  have hseq : (s.scanCounted n torn).reg pgEVR Evr.NEXT_SEQ = BitVec.ofNat 32 (n % 2 ^ 32) := by
    refine (State.reg_setReg_ne _ _ (by decide)).trans ((hfree _ _).trans ((State.reg_setReg_ne _ _ (by decide)).trans ?_))
    exact (State.reg_setReg_ne _ _ (by decide)).trans (State.reg_setReg_self _ _ _ _)
  have hfound : (s.scanCounted n torn).reg pgEVR Evr.TORN_FOUND = BitVec.ofNat 32 torn :=
    (State.reg_setReg_ne _ _ (by decide)).trans ((hfree _ _).trans (State.reg_setReg_self _ _ _ _))
  refine ⟨State.sts_setSts_self _ _ (by decide) 0, ?_, ?_⟩
  · rw [State.nat, hseq, BitVec.toNat_ofNat, Nat.mod_mod]
  · rw [State.nat, hfound, BitVec.toNat_ofNat, Nat.mod_eq_of_lt htorn]

theorem State.scanRing_torn (s : State) (n : Nat) : (s.scanRing n).2 ≤ n := by
  induction n with
  | zero => exact Nat.le_refl _
  | succ n ih =>
    rw [State.scanRing]
    generalize s.scanRing n = r at ih ⊢
    obtain ⟨last, torn⟩ := r
    dsimp only at ih ⊢
    split
    · cases last <;> exact Nat.le_succ_of_le ih
    · split
      · exact Nat.le_succ_of_le ih
      · exact Nat.succ_le_succ ih

theorem State.scanEnd_leaves (s : State) (last : Option Nat) {torn : Nat} (htorn : torn < 2 ^ 32) :
    (s.scanEnd last torn).sts pgEVR Evr.S_SCANNING = 0 ∧
    (s.scanEnd last torn).nat pgEVR Evr.NEXT_SEQ = ((last.map (· + 1)).getD 0) % 2 ^ 32 ∧
    (s.scanEnd last torn).nat pgEVR Evr.TORN_FOUND = torn ∧
    (torn ≠ 0 → (s.scanEnd last torn).flag pgEVR PAGE_FAULT Evr.F_TORN = true) := by
  obtain ⟨hsts, hseq, hfound⟩ := s.scanCounted_leaves ((last.map (· + 1)).getD 0) htorn
  rw [s.scanEnd_eq]
  generalize s.scanCounted ((last.map (· + 1)).getD 0) torn = c at hsts hseq hfound ⊢
  have hkept : c.Within (evrFaultSpans Evr.F_TORN) ((if torn = 0 then c else c.fault pgEVR Evr.F_TORN).trigger 0x801 pgEVR) := by
    split
    · exact (c.trigger_within 0x801 pgEVR).mono (List.subset_cons_self _ _)
    · exact c.evrFault_within (by decide) 0x801
  refine ⟨(hkept.sts (by decide) _).trans hsts, (hkept.nat (by decide)).trans hseq, (hkept.nat (by decide)).trans hfound, fun hne => ?_⟩
  rw [if_neg hne]
  exact c.flag_evrFault (by decide) 0x801 (by decide)

/-! ### The trigger memory (R583, R603) -/

/-- Word `k` of the trigger memory is written. -/
def State.trigSet (s : State) (k : Nat) (w : Word) : State :=
  { s with evr := { s.evr with
      trig := Tab.set trigReset s.evr.trig k w
      spent := if s.trigWord k != w then Tab.set (fun _ => 0) s.evr.spent k 0 else s.evr.spent } }

theorem State.trigStep_leaves (s : State) : s.trigStep.evr = s.evr ∧ s.trigStep.mem = s.mem ∧ s.trigStep.out = s.out := by
  have h := State.trigStep_keeps (s.keeps_parts 0x2810) (Keep.off_of_and (by decide))
  exact ⟨h.evr_eq, h.mem_eq, h.out_eq⟩

theorem State.trigWrite_taken {v : Word} (hlow : s.fld pgEVR Evr.TRIG_ADDR (12, 0) < 8176)
    (hok : s.fld pgEVR Evr.TRIG_ADDR (12, 0) < 4096 ∨ listWordOk v = true) : s.trigWrite v
      = (s.trigSet (s.fld pgEVR Evr.TRIG_ADDR (12, 0))
          (if s.fld pgEVR Evr.TRIG_ADDR (12, 0) < 4096 then v &&& 0x0FFFFF03 else v)).trigStep := by
  unfold State.trigWrite
  dsimp only
  rw [if_neg (by omega), if_neg]
  · rfl
  · rintro ⟨hlist, hbad⟩
    rcases hok with h | h
    · omega
    · exact Bool.false_ne_true (hbad.symm.trans h)

theorem State.trigSet_word (s : State) (k : Nat) (w : Word) : (s.trigSet k w).trigWord k = w ∧ (s.trigSet k w).mem = s.mem :=
  ⟨Tab.get_set_self _ _ _ _, rfl⟩

theorem State.trigWrite_leaves {v : Word} (hlow : s.fld pgEVR Evr.TRIG_ADDR (12, 0) < 8176)
    (hok : s.fld pgEVR Evr.TRIG_ADDR (12, 0) < 4096 ∨ listWordOk v = true) :
    (s.trigWrite v).trigWord (s.fld pgEVR Evr.TRIG_ADDR (12, 0)) = (if s.fld pgEVR Evr.TRIG_ADDR (12, 0) < 4096 then v &&& 0x0FFFFF03 else v) ∧
    (s.trigWrite v).mem = s.mem := by
  rw [State.trigWrite_taken hlow hok]
  generalize (if s.fld pgEVR Evr.TRIG_ADDR (12, 0) < 4096 then v &&& 0x0FFFFF03 else v) = w
  obtain ⟨hword, hmem⟩ := s.trigSet_word (s.fld pgEVR Evr.TRIG_ADDR (12, 0)) w
  obtain ⟨hevr, hmem', -⟩ := (s.trigSet (s.fld pgEVR Evr.TRIG_ADDR (12, 0)) w).trigStep_leaves
  exact ⟨(congrArg (fun e => Tab.get trigReset (EvrState.trig e) _) hevr).trans hword, hmem'.trans hmem⟩

end

end Sys2Proof.Machine

open Sys2Proof Sys2Proof.Machine

/-- Settles O43, clause by clause: triggers, records, spans, the freeze, erase, scan, and the trigger memory. -/
theorem recorderActs : Obligations.RecorderActs := by
  unfold Obligations.RecorderActs
  refine ⟨fun s code page haclk hen hword => ⟨fun hnone => ?_, fun hsome hfrozen => ?_, fun hsome hthawed hq hsound hlost hrefused hpart hcom hroom => ?_⟩,
    fun s code page h => ?_, fun s a code hspent h => ?_, fun s w hhead hmay => ⟨fun hkind => ?_, fun hkind => ?_⟩,
    fun s d hwriting haclk hlen => ?_, fun s a g hon hstep h => ?_, fun s g cfg hen hthawed hq hsound hlost hrefused hpart hcom hroom => ?_,
    fun s r h hoff => ⟨fun hthawed hidle => ?_, fun hthawed hbusy => ?_, fun hfrozen => ?_⟩, fun s a hfrozen hoff h => ?_,
    fun s r low h => ⟨fun hlow hfrozen => ?_, fun hbad => ?_⟩, fun s haclk herasing => ?_, fun s haclk hscanning => ?_,
    fun s r v => ⟨fun h hlow hok => ?_, fun haclk hlow => ?_, fun haclk => ?_⟩⟩
  · refine ⟨_, exec_recorderTrigger haclk code page, ?_⟩
    rw [s.trigger_on page.val hen hword, if_pos hnone]
    exact s.trigDropped_leaves
  · refine ⟨_, exec_recorderTrigger haclk code page, ?_⟩
    rw [s.trigger_on page.val hen hword, if_neg (by omega), if_pos hfrozen]
    exact s.trigFrozen_leaves code.val
  · have hpush := s.trigSpent_canPush ⟨hq, hsound, hlost, hrefused, hpart, hcom, hroom⟩ code.val
    obtain ⟨hwords, hcommitted⟩ := (s.trigSpent code.val).evrPush_adds hpush code.val page.val 0 0
    refine ⟨_, exec_recorderTrigger haclk code page, ?_⟩
    rw [s.trigger_on page.val hen hword, if_neg (by omega), if_neg hthawed]
    refine ⟨?_, hwords, hcommitted⟩
    rw [State.spent_evrPush _ hpush]
    exact s.trigSpent_spent code.val
  · have hexec : exec (.recorderTrigger code page) s = .next (if s.aclkRuns then s.trigger code.val page.val else s) := rfl
    rw [hexec, s.trigger_off page.val h]
    exact congrArg Host.Outcome.next (ite_self s)
  · obtain ⟨hevr, hmem⟩ := State.reachTick_evr h
    refine ⟨_, congrArg Host.Outcome.next (State.refill_reached hspent h), ?_, hmem⟩
    rw [← hevr]
    exact a.tokenBack_spent code.val
  · refine ⟨_, congrArg Host.Outcome.next (State.nextRecord_eq hhead hmay), ?_⟩
    dsimp only
    rw [if_neg (by simp [hkind])]
    exact State.beginRecord_leaves _ _
  · refine ⟨_, congrArg Host.Outcome.next (State.nextRecord_eq hhead hmay), ?_⟩
    dsimp only
    rw [if_pos hkind]
    obtain ⟨hwriting, hsts, -⟩ := State.beginRecord_leaves ((s.queuePop 3 3).takeSpan (leAt w.data 0 8 / 2 ^ 23 % 8)).2
      ⟨s.nat pgEVR Evr.NEXT_SEQ, _, 0, some (leAt w.data 0 8 / 2 ^ 23 % 8)⟩
    exact ⟨hsts, _, hwriting, rfl, rfl⟩
  · exact ⟨_, congrArg Host.Outcome.next (if_pos haclk), State.endRecord_leaves hwriting hlen⟩
  · exact congrArg Host.Outcome.next (State.spanClose_reached hon hstep h)
  · exact State.closeSpan_group cfg hen hthawed ⟨hq, hsound, hlost, hrefused, hpart, hcom, hroom⟩
  · have hthawed' : s.counted.sts pgEVR Evr.S_FROZEN ≠ 1 := by rwa [s.counted_within.sts (by decide)]
    refine ⟨_, congrArg Host.Outcome.next (State.gate_eq h _), ?_⟩
    rw [State.freeze_now (by rw [s.evr_counted, hoff]) hthawed' (by rw [s.evr_counted, hidle])]
    exact ⟨State.sts_setFrozen_frozen _, (congrArg EvrState.frozenAt (State.evr_setFrozen_frozen _)).trans (congrArg TlnState.now s.counted_tln)⟩
  · have hthawed' : s.counted.sts pgEVR Evr.S_FROZEN ≠ 1 := by rwa [s.counted_within.sts (by decide)]
    refine ⟨_, congrArg Host.Outcome.next (State.gate_eq h _), ?_⟩
    rw [State.freeze_waits (by rw [s.evr_counted, hoff]) hthawed' (by rwa [s.evr_counted])]
    exact ⟨rfl, s.counted_within.sts (by decide) _⟩
  · have hfrozen' : s.counted.sts pgEVR Evr.S_FROZEN = 1 := by rwa [s.counted_within.sts (by decide)]
    refine ⟨_, congrArg Host.Outcome.next (State.gate_eq h _), ?_⟩
    rw [State.thaw_frozen (by rw [s.evr_counted, hoff]) hfrozen']
    exact s.counted.thawed_leaves
  · have hevr : a.evr = s.evr := (State.reach_parts h).evr_eq
    have hfrozen' : a.sts pgEVR Evr.S_FROZEN = 1 :=
      (congrArg (bits · Evr.S_FROZEN) (State.reach_at (key := regKey pgEVR PAGE_STATUS) h (by decide) (by decide))).trans hfrozen
    refine ⟨_, congrArg Host.Outcome.next (State.freezeExpire_reached hfrozen h), ?_, State.flag_evrFault _ (by decide) _ (by decide)⟩
    rw [(State.evrFault_within _ (by decide) _).sts (by decide), State.thaw_frozen (by rw [hevr, hoff]) hfrozen']
    exact a.thawed_leaves.1
  · refine ⟨_, exec_erase r low h, ?_⟩
    rw [State.erase_begins (by rw [State.dev_counted]; exact hlow) (by rw [s.sts_presence, hfrozen])]
    exact ⟨State.sts_setSts_self _ _ (by decide) 1, (State.setReg_mem _ _ _ _).trans (s.mem_presence low)⟩
  · refine ⟨_, exec_erase r low h, ?_⟩
    rw [State.erase_refused (by rw [State.dev_counted, s.sts_presence]; exact hbad)]
    exact ⟨State.flag_evrFault _ (by decide) _ (by decide), ((State.evrFault_within _ (by decide) _).sts (by decide) _).trans (s.sts_presence low _),
      (State.mem_trigger _ _ _).trans ((State.mem_fault _ _ _).trans (s.mem_presence low))⟩
  · have hdone : s.eraseDone = ((s.zeroBytes (drawerAt 0) 0x200000).setSts pgEVR Evr.S_ERASING 0).eraseRecord := if_neg herasing
    refine ⟨_, congrArg Host.Outcome.next (if_pos haclk), ?_, fun x hlow hhigh => ?_⟩
    · rw [hdone, (State.eraseRecord_leaves _).1.sts (by decide)]
      exact State.sts_setSts_self _ _ (by decide) 0
    · rw [hdone, State.byte_erased s hlow hhigh]
  · have hdone : s.scanDone = s.scanEnd (s.scanRing 4096).1 (s.scanRing 4096).2 := if_neg hscanning
    have htorn : (s.scanRing 4096).2 < 2 ^ 32 := Nat.lt_of_le_of_lt (s.scanRing_torn 4096) (by decide)
    refine ⟨_, congrArg Host.Outcome.next (if_pos haclk), ?_⟩
    rw [hdone]
    generalize s.scanRing 4096 = ring at htorn ⊢
    exact s.scanEnd_leaves ring.1 htorn
  · have haddr : s.counted.fld pgEVR Evr.TRIG_ADDR (12, 0) = s.fld pgEVR Evr.TRIG_ADDR (12, 0) := s.counted_within.fld (by decide) _
    obtain ⟨hword, hmem⟩ := s.counted.trigWrite_leaves (v := v) (by rwa [haddr]) (by rwa [haddr])
    rw [haddr] at hword
    exact ⟨_, congrArg Host.Outcome.next (State.gate_eq h _), hword, hmem.trans s.mem_counted⟩
  · have haddr : s.counted.fld pgEVR Evr.TRIG_ADDR (12, 0) = s.fld pgEVR Evr.TRIG_ADDR (12, 0) := s.counted_within.fld (by decide) _
    obtain ⟨hevr, -, hout⟩ := (s.counted.emit (.read s.counted.trigData)).trigStep_leaves
    have hdata : s.counted.trigData = s.trigWord (s.fld pgEVR Evr.TRIG_ADDR (12, 0)) := by
      rw [State.trigData, haddr, State.trigWord, s.evr_counted]
      exact if_pos hlow
    refine ⟨_, congrArg Host.Outcome.next (State.access_eq haclk _), hout.trans ?_, hevr.trans s.evr_counted⟩
    rw [hdata]
    exact congrArg (List.cons _) s.counted_out
  · refine ⟨_, congrArg Host.Outcome.next (State.access_eq haclk _), ?_, ?_⟩
    · exact congrArg₂ List.cons (congrArg Output.read (s.counted_within.reg (by decide))) s.counted_out
    · exact congrArg BitVec.toNat (State.reg_setReg_self _ _ _ _)

end

section
/-!
Requests of power states, and the entry into Retain and Heath (R610 to R617, R625 to R629): O45.
-/
set_option Elab.async false
namespace Sys2Proof.Machine

/-! ### Refusals and abandoned entries (R610, R616) -/

section
variable (s : State)

theorem State.pwr_irq (k : Nat) : (s.irq k).pwr = s.pwr :=
  (State.irq_keeps (s.keeps_parts 0x100000000) (Keep.off_of_and (by decide))).pwr_eq

theorem State.pwr_counted : s.counted.pwr = s.pwr :=
  (State.count_keeps (s.keeps_parts 0x100000000) (Keep.off_of_and (by decide))).pwr_eq

theorem State.pwrState_setSts {n : Nat} (hn : n < 8) : (s.setSts pgPWR Pwr.S_PWR_STATE n).pwrState = n := by
  refine (State.sts_setSts_self s pgPWR (by decide) n).trans ?_
  exact Nat.mod_eq_of_lt hn

/-- PWR_STATE as it was set, for a state other than Doze. -/
theorem State.pwrState_setPwrState {n : Nat} (hn : n < 8) (hawake : n ≠ 1) : (s.setPwrState n).pwrState = n := by
  unfold State.setPwrState
  split
  · next h => exact h
  · have hset := s.pwrState_setSts hn
    exact ((State.irq_steady (P := fun _ => true) _ 17).pwrState (by rwa [hset]) rfl).trans hset

theorem State.pwr_setPwrState (n : Nat) : (s.setPwrState n).pwr = s.pwr := by
  unfold State.setPwrState
  split
  · rfl
  · exact (State.pwr_irq _ _).trans (State.setReg_pwr _ _ _ _)

theorem State.setPwrState_within (n : Nat) : s.Within irqSpans (s.setPwrState n) :=
  (State.Within.refl s).ite (((State.Within.refl s).setSts (by decide)).irq (List.Subset.refl _))

theorem State.refusePwr_leaves {c : Nat} (hc : c < 6) : (s.refusePwr c).nat pgPWR Pwr.LAST_REFUSE = c ∧
    (s.refusePwr c).flag pgPWR PAGE_FAULT Pwr.F_REFUSED = true ∧ (s.refusePwr c).pwr = s.pwr := by
  have hfault : (s.setNat pgPWR Pwr.LAST_REFUSE c).Within (fldSpan pgPWR PAGE_FAULT (Pwr.F_REFUSED, Pwr.F_REFUSED) :: irqSpans)
      (s.refusePwr c) := (State.Within.refl _).faultBit pageInfo_pgPWR rfl List.mem_cons_self (List.subset_cons_self _ _)
  refine ⟨(hfault.nat (by decide)).trans ((State.nat_setNat_same _ _ _ _).trans (Nat.mod_eq_of_lt (by omega))),
    State.flag_fault _ pageInfo_pgPWR rfl (by decide) (by decide), ?_⟩
  exact (State.fault_sleep _ _ _).1.trans (State.setReg_pwr _ _ _ _)

/-- A fault of PWR leaves PWR_STATE outside Doze. -/
theorem State.pwrState_fault {n : Nat} (hawake : s.pwrState ≠ 1) : (s.fault pgPWR n).pwrState = s.pwrState := by
  have hset : (s.setFlag pgPWR PAGE_FAULT n true).pwrState = s.pwrState :=
    congrArg (bits · Pwr.S_PWR_STATE) (State.reg_setReg_ne _ _ (by decide))
  have hirq : s.fault pgPWR n = (s.setFlag pgPWR PAGE_FAULT n true).irq 16 := by
    rw [s.fault_eq_faultHere pageInfo_pgPWR rfl, State.faultHere, pageInfo_pgPWR]
    rfl
  rw [hirq]
  exact ((State.irq_steady (P := fun _ => true) _ 16).pwrState (by rwa [hset]) rfl).trans hset

/-- The wake that ends an entry is loaded, and the device is on again. -/
def State.entryWoken (seen pins : Nat) : State :=
  (s.loadWake 0 true seen pins).setPwr { s.pwr with phase := .on, msgDone := false, recDone := false }

theorem State.abortEntry_eq (seen pins : Nat) : s.abortEntry seen pins
    = (((s.entryWoken seen pins).inc pgPWR Pwr.ABORTS).setPwrState 0).fault pgPWR Pwr.F_SLEEP_ABORTED := rfl

theorem State.entryWoken_within (seen pins : Nat) : s.Within irqSpans (s.entryWoken seen pins) :=
  (s.loadWake_within 0 true seen pins).upd rfl

theorem State.abortEntry_leaves (seen pins : Nat) : (s.abortEntry seen pins).pwr.phase = .on ∧ (s.abortEntry seen pins).pwrState = 0 ∧
    (s.abortEntry seen pins).reg pgPWR Pwr.ABORTS = s.reg pgPWR Pwr.ABORTS + 1 := by
  have hphase : (s.entryWoken seen pins).pwr.phase = .on := rfl
  have haborts : (s.entryWoken seen pins).reg pgPWR Pwr.ABORTS = s.reg pgPWR Pwr.ABORTS := (s.entryWoken_within seen pins).reg (by decide)
  rw [s.abortEntry_eq]
  generalize s.entryWoken seen pins = w at hphase haborts ⊢
  have hstate := (w.inc pgPWR Pwr.ABORTS).pwrState_setPwrState (n := 0) (by decide) (by decide)
  have hwithin : (w.inc pgPWR Pwr.ABORTS).Within (fldSpan pgPWR PAGE_FAULT (Pwr.F_SLEEP_ABORTED, Pwr.F_SLEEP_ABORTED) :: irqSpans)
      (((w.inc pgPWR Pwr.ABORTS).setPwrState 0).fault pgPWR Pwr.F_SLEEP_ABORTED) :=
    ((State.setPwrState_within _ 0).mono (List.subset_cons_self _ _)).faultBit pageInfo_pgPWR rfl List.mem_cons_self (List.subset_cons_self _ _)
  refine ⟨?_, (State.pwrState_fault _ (by rw [hstate]; decide)).trans hstate, (hwithin.reg (by decide)).trans ?_⟩
  · rw [(State.fault_sleep _ _ _).1, State.pwr_setPwrState, State.inc_eq, State.setReg_pwr, hphase]
  · exact (State.reg_setReg_self _ _ _ _).trans (congrArg (· + 1) haborts)

/-! ### Requests (R611 to R613) -/

theorem State.pwrRequest_refused {n seen pins c : Nat} (h : s.pwrCause n = some c) : s.pwrRequest n seen pins = s.refusePwr c := by
  rw [State.pwrRequest, h]

theorem State.pwrRequest_run (h : s.pwrCause 0 = none) : s.pwrRequest 0 0 0 = (s.leaveDoze (0x40 + (s.recognised 0 0).1 % 64)
    (s.recognised 0 0).2).irq 17 := by
  rw [State.pwrRequest, h]
  exact if_pos rfl

theorem State.pwrRequest_woken {n seen pins : Nat} (hn : n ≠ 0) (h : s.pwrCause n = none) (hw : (s.recognised seen pins).1 ≠ 0) :
    s.pwrRequest n seen pins = s.abortEntry (s.recognised seen pins).1 (s.recognised seen pins).2 := by
  rw [State.pwrRequest, h]
  exact (if_neg hn).trans (if_pos hw)

theorem State.pwrRequest_doze {seen pins : Nat} (h : s.pwrCause 1 = none) (hw : (s.recognised seen pins).1 = 0) :
    s.pwrRequest 1 seen pins = s.enterDoze := by
  rw [State.pwrRequest, h]
  exact (if_neg (by decide)).trans ((if_neg fun hne => hne hw).trans (if_pos rfl))

theorem State.pwrRequest_sleep {n seen pins : Nat} (hn : 2 ≤ n) (h : s.pwrCause n = none) (hw : (s.recognised seen pins).1 = 0) :
    s.pwrRequest n seen pins = s.beginEntry n := by
  rw [State.pwrRequest, h]
  exact (if_neg (by omega)).trans ((if_neg fun hne => hne hw).trans (if_neg (by omega)))

/-- The loss timers of DMX ports go on `d` later. -/
def State.dozeLate (d : Nat) : State :=
  { s with dmx := s.dmx.map (fun (e : Nat × DmxState) => (e.1, { e.2 with lastRx := e.2.lastRx + d })) }

theorem State.leaveDoze_eq (seen pins : Nat) : s.leaveDoze seen pins
    = (((s.loadWake 1 false seen pins).setSts pgPWR Pwr.S_PWR_STATE 0).dozeLate (s.tln.now - s.pwr.dozeAt)).fieldResume := rfl

theorem State.pwrState_dozeLate (d : Nat) : (s.dozeLate d).pwrState = s.pwrState := rfl

theorem State.pwrState_fieldResume (h : s.pwrState = 0) : s.fieldResume.pwrState = 0 :=
  ((State.fieldResume_steady (P := fun _ => true) s).pwrState (by rw [h]; decide) rfl).trans h

theorem State.pwrState_leaveDoze (seen pins : Nat) : (s.leaveDoze seen pins).pwrState = 0 := by
  rw [s.leaveDoze_eq]
  refine State.pwrState_fieldResume _ ?_
  rw [State.pwrState_dozeLate]
  exact State.pwrState_setSts _ (by decide)

/-- Step 1 of an entry, before the rings are flushed. -/
def State.entryBegun (n : Nat) : State :=
  (s.setPwr { s.pwr with phase := .entering, target := n, msgDone := false, recDone := false }).setPwrState 2

theorem State.beginEntry_eq (n : Nat) : s.beginEntry n = (List.range 4).foldl (fun a m => (List.range 8).foldl (fun b i => b.ringFlush m i) a)
    ((if s.pwrState = 1 then (s.leaveDoze 0x40 0).setSts pgPWR Pwr.S_PWR_STATE 1 else s).entryBegun n) := rfl

/-- The power sequencer is as before, and a device outside Doze stays in its state. -/
structure State.SamePower (s t : State) : Prop where
  pwr : t.pwr = s.pwr
  steady : s.Steady (fun _ => true) t

theorem State.SamePower.trans {s t u : State} (h : s.SamePower t) (g : t.SamePower u) : s.SamePower u :=
  ⟨g.pwr.trans h.pwr, h.steady.trans g.steady⟩

theorem State.SamePower.foldl {α : Type} {f : State → α → State} {l : List α} (hf : ∀ x ∈ l, ∀ a : State, a.SamePower (f a x)) :
    s.SamePower (l.foldl f s) :=
  List.foldlRecOn (motive := s.SamePower) _ _ ⟨rfl, .refl s⟩ fun _ ha x hx => ha.trans (hf x hx _)

theorem State.ringFlush_power {m i : Nat} (hm : m < 4) (hi : i < 8) : s.SamePower (s.ringFlush m i) := by
  have hirq : timePage (regKey (pgETH m) Eth.RING_IRQ / 0x1000) = false :=
    (show ∀ m : Fin 4, timePage (regKey (pgETH m) Eth.RING_IRQ / 0x1000) = false by decide) ⟨m, hm⟩
  have hpend : timePage (regKey (pgETH m) (pendOff i) / 0x1000) = false :=
    (show ∀ m : Fin 4, ∀ i : Fin 8, timePage (regKey (pgETH m) (pendOff i) / 0x1000) = false by decide) ⟨m, hm⟩ ⟨i, hi⟩
  have hmac (a : State) (f : MacState → MacState) : a.Steady (fun _ => true) (a.modMac m f) := (State.Steady.refl a).upd rfl
  refine ⟨(State.ringFlush_keeps (s.keeps_parts 0x100000000) (Keep.off_of_and (by decide))).pwr_eq, ?_⟩
  have hset : s.Steady (fun _ => true) ((s.setFlag (pgETH m) Eth.RING_IRQ (i % 4 + 8 * (i / 4)) true).setNat (pgETH m) (pendOff i) 0) :=
    ((State.Steady.refl s).setReg hirq).setReg hpend
  exact (State.Steady.refl s).ite ((hset.trans (hmac _ _)).trans (State.setLevel_steady _ _ _))

/-- A request of Retain or Heath that no source aborts: the entry has begun. -/
theorem State.beginEntry_leaves (n : Nat) : (s.beginEntry n).pwr.phase = .entering ∧ (s.beginEntry n).pwr.target = n ∧
    (s.beginEntry n).pwrState = 2 := by
  rw [s.beginEntry_eq]
  generalize (if s.pwrState = 1 then (s.leaveDoze 0x40 0).setSts pgPWR Pwr.S_PWR_STATE 1 else s) = b
  have hstate : (b.entryBegun n).pwrState = 2 := State.pwrState_setPwrState _ (by decide) (by decide)
  have hpwr : (b.entryBegun n).pwr = { b.pwr with phase := .entering, target := n, msgDone := false, recDone := false } :=
    State.pwr_setPwrState _ 2
  have hfold : (b.entryBegun n).SamePower ((List.range 4).foldl (fun a m => (List.range 8).foldl (fun b i => b.ringFlush m i) a) (b.entryBegun n)) :=
    State.SamePower.foldl _ fun m hm a => State.SamePower.foldl _ fun i hi c =>
      c.ringFlush_power (List.mem_range.1 hm) (List.mem_range.1 hi)
  refine ⟨by rw [hfold.pwr, hpwr], by rw [hfold.pwr, hpwr], (hfold.steady.pwrState (by rw [hstate]; decide) rfl).trans hstate⟩

/-! ### The release of the Stile (R613) -/

theorem State.red_clearScheduler (n : Nat) : (s.clearScheduler n).red = s.red :=
  (State.clearScheduler_keeps (s.keeps_parts 0x2000000) (Keep.off_of_and (by decide))).red_eq

theorem State.tellMem_rails (a : Nat) (l : List Byte) (n : Nat) : s.SameRails (s.tellMem a l n) := by
  fun_induction State.tellMem s a l n with
  | case1 => exact .refl _
  | case2 => exact .refl _
  | case3 s a l n _ ih => exact (s.tell_rails _ _).trans ih

theorem State.hwBytes_rails (a : Nat) (d : List Byte) : s.SameRails (s.hwBytes a d) := by
  have hset : s.SameRails (s.setBytes a d) :=
    State.SameRails.upd (.refl s) (State.setBytes_keeps (s.keeps_parts 0x2000000) (Keep.off_of_and (by decide))).red_eq
  exact (State.SameRails.refl s).ite ((hset.trans (State.tellMem_rails _ _ _ _)).ite hset)

theorem State.doseSat_rails (m tile c : Nat) : s.SameRails (s.doseSat m tile c) :=
  State.SameRails.upd (.refl s) (State.doseSat_keeps (s.keeps_parts 0x2000000) (Keep.off_of_and (by decide))).red_eq

theorem State.setLimits_rails (n count : Nat) : s.SameRails (s.setLimits n count) :=
  State.SameRails.upd (.refl s) (State.setLimits_keeps (s.keeps_parts 0x2000000) (Keep.off_of_and (by decide))).red_eq

/-- A fold that carries a state with other results. -/
theorem State.foldl_fst_rails {α β : Type} {f : State × β → α → State × β} {l : List α} (x : State × β)
    (hf : ∀ (acc : State × β) (a : α), acc.1.SameRails (f acc a).1) : x.1.SameRails (l.foldl f x).1 :=
  List.foldlRecOn (motive := fun acc => x.1.SameRails acc.1) _ _ (.refl _) fun acc ha a _ => ha.trans (hf acc a)

theorem State.flushTile_rails (m base tile sumSlot d slot : Nat) (add : Bool) : s.SameRails (s.flushTile m base tile sumSlot d slot add).1 := by
  refine State.SameRails.trans (State.foldl_fst_rails (s, 0, 0, 0) fun acc c => ?_) (State.hwBytes_rails _ _ _)
  exact ((State.hwBytes_rails _ _ _).trans (State.hwBytes_rails _ _ _)).trans ((State.doseSat_rails _ _ _ _).ite (.refl _))

theorem State.flush_rails (m d g slot : Nat) (add : Bool) : s.SameRails (s.flush m d g slot add) := by
  unfold State.flush
  refine State.SameRails.trans ?_ (State.setLimits_rails _ _ _)
  exact State.foldl_fst_rails (s, 0) fun acc t => acc.1.flushTile_rails _ _ _ _ _ _ _

theorem State.flushAtLeave_rails (k now : Nat) : s.SameRails (s.flushAtLeave k now) := by
  unfold State.flushAtLeave
  dsimp only
  split
  · exact (s.flush_rails _ _ _ _ _).ite (.refl s)
  · exact .refl s

theorem State.enterStopped_rails (k : Nat) : s.SameRails (s.enterStopped k) := by
  have hcut (a : State) (key : Nat) : a.SameRails (a.cutOutput key) :=
    State.SameRails.upd (.refl a) (State.cutOutput_keeps (a.keeps_parts 0x2000000) (Keep.off_of_and (by decide))).red_eq
  have hcancel (a : State) : a.SameRails (a.cancelStarts k) :=
    State.SameRails.upd (.refl a) (State.cancelStarts_keeps (a.keeps_parts 0x2000000) (Keep.off_of_and (by decide))).red_eq
  have hset (a : State) (w : SwtState) : a.SameRails (a.setSwath k w) :=
    State.SameRails.upd (.refl a) (State.setSwath_keeps (a.keeps_parts 0x2000000) (Keep.off_of_and (by decide))).red_eq
  have hend (a : State) : a.SameRails (a.endHold k) :=
    State.SameRails.upd (.refl a) (State.endHold_keeps (a.keeps_parts 0x2000000) (Keep.off_of_and (by decide))).red_eq
  have hstate (a : State) : a.SameRails ((a.setSwathState k 0).strStopped k) :=
    State.SameRails.upd (.refl a) (State.strStopped_keeps (State.setSwathState_keeps (a.keeps_parts 0x2000000)
      (Keep.off_of_and (by decide))) (Keep.off_of_and (by decide))).red_eq
  have hmaster (a : State) : a.SameRails (a.masterLeft k) :=
    State.SameRails.upd (.refl a) (State.masterLeft_keeps (a.keeps_parts 0x2000000) (Keep.off_of_and (by decide))).red_eq
  have hlast (a : State) : a.SameRails a.swathLocks.pinsRefresh.commitAllIdle :=
    State.SameRails.upd (.refl a) (State.commitAllIdle_keeps (State.pinsRefresh_keeps (State.swathLocks_keeps (a.keeps_parts 0x2000000)
      (Keep.off_of_and (by decide))) (Keep.off_of_and (by decide))) (Keep.off_of_and (by decide))).red_eq
  unfold State.enterStopped
  dsimp only
  refine State.SameRails.trans ?_ (hlast _)
  refine State.SameRails.trans ?_ ((hmaster _).ite (.refl _))
  refine State.SameRails.trans ?_ (hstate _)
  refine State.SameRails.trans ?_ ((hend _).ite (.refl _))
  refine State.SameRails.trans ?_ (hset _ _)
  refine State.SameRails.trans ?_ (State.SameRails.foldl (.refl _) fun o _ a => hcut a o.1)
  exact ((s.flushAtLeave_rails k _).ite (.refl s)).trans (hcancel _)

/-- Swaths and schedulers stop once the Stile is released. -/
def State.workStopped : State := (List.range 4).foldl State.clearScheduler
  ((List.range 16).foldl (fun a k => if a.swathState k = 0 then a else a.enterStopped k) s)

theorem bits_clearBit_zero (w : Word) : bits (clearBit w 0) (0, 0) = 0 := by
  have hbit : (bits (clearBit w 0) (0, 0)).testBit 0 = false := by
    rw [testBit_bits _ _ (by decide)]
    exact (bit_clearBit w 0 0 (by decide)).trans rfl
  have hlt : bits (clearBit w 0) (0, 0) < 2 := Nat.mod_lt _ (by decide)
  rw [Nat.testBit_zero] at hbit
  simp at hbit
  omega

/-- CLAIM_EN cleared. -/
def State.claimOff : State := s.setBoth pgRED Red.PAIR_CTRL (clearBit (s.reg pgRED Red.PAIR_CTRL) 0)

theorem State.claimOff_leaves : s.claimOff.red = s.red ∧ s.claimOff.claimEnabled = false := by
  have hreg : s.claimOff.reg pgRED Red.PAIR_CTRL = clearBit (s.reg pgRED Red.PAIR_CTRL) 0 :=
    (State.reg_setBoth _ _ _ _ _ _).trans (if_pos rfl)
  refine ⟨rfl, ?_⟩
  rw [State.claimEnabled, State.fld, hreg, Red.CLAIM_EN, bits_clearBit_zero]
  rfl

theorem State.releaseAll_eq : s.releaseAll
    = s.releaseStile.workStopped.claimOff := rfl

theorem State.workStopped_rails : s.SameRails s.workStopped :=
  ((State.SameRails.refl s).foldl fun k _ a => (State.SameRails.refl a).ite (a.enterStopped_rails k)).foldl fun n _ a =>
    (State.SameRails.refl a).upd (a.red_clearScheduler n)

theorem State.releaseStile_low : s.releaseStile.red.own = false := s.releaseStile_released.own

theorem State.releaseAll_leaves : s.releaseAll.red.own = false ∧ s.releaseAll.claimEnabled = false := by
  have hown : s.releaseStile.workStopped.red.own = false := s.releaseStile.workStopped_rails.own.trans s.releaseStile_low
  rw [s.releaseAll_eq]
  generalize s.releaseStile.workStopped = w at hown ⊢
  obtain ⟨hred, hclaim⟩ := w.claimOff_leaves
  exact ⟨by rw [hred, hown], hclaim⟩

/-! ### The capture and the sleep (R613, R617) -/

/-- The state at the Heath tick edge of the capture. -/
def State.captureEdge : State :=
  if s.timeRuns then s.advance (s.hth.edge + ((s.ticksSince + 1) * TICK : Nat)).toNat else s.passTicks 1

/-- The timeline is captured. -/
def State.withCapture (c : Captured) : State := { s with boot := { s.boot with captured := some c } }

/-- The timeline is captured, with the tick in the island's registers. -/
def State.captureTold : State :=
  let c : Captured := ⟨s.tln.now, s.uncert, s.htick⟩
  (((s.withCapture c).setNat pgHTH Hth.SLEEP_TICK_LO (c.tick % 2 ^ 32)).setNat pgHTH Hth.SLEEP_TICK_HI (c.tick / 2 ^ 32)).xtSeen

theorem State.captureTime_eq : s.captureTime = s.captureEdge.captureTold := by
  unfold State.captureTime
  generalize h : s.captureEdge = e
  unfold State.captureEdge at h
  extract_lets t s1 c
  have hedge : s1 = e := h
  clear_value s1
  subst hedge
  rfl

theorem State.captureTold_within : s.Within [pageSpan pgHTH (pgHTH + 1)] s.captureTold := by
  have hboot (c : Captured) : s.Within [pageSpan pgHTH (pgHTH + 1)] (s.withCapture c) := (State.Within.refl s).upd rfl
  have hpage {t : State} (h : s.Within [pageSpan pgHTH (pgHTH + 1)] t) {off : Nat} {v : Word} (hoff : off < 0x1000) :
      s.Within [pageSpan pgHTH (pgHTH + 1)] (t.setReg pgHTH off v) :=
    h.setPage List.mem_cons_self (Nat.le_refl _) (by decide) hoff
  exact hpage (hpage (hpage (hboot _) (by decide)) (by decide)) (by decide)

theorem State.captureTold_parts : s.captureTold.tln = s.tln ∧ s.captureTold.hth = s.hth ∧ s.captureTold.mem = s.mem ∧
    s.captureTold.pwr = s.pwr ∧ s.captureTold.boot.captured = some ⟨s.tln.now, s.uncert, s.htick⟩ := by
  unfold State.captureTold
  dsimp only
  generalize (⟨s.tln.now, s.uncert, s.htick⟩ : Captured) = c
  have hxt (a : State) : a.xtSeen = a.setReg pgHTH PAGE_STATUS (putBits (a.reg pgHTH PAGE_STATUS) Hth.S_XT32_OK 1) := rfl
  rw [hxt, State.setNat_eq, State.setNat_eq]
  refine ⟨?_, ?_, ?_, ?_, ?_⟩
  · rw [State.setReg_tln, State.setReg_tln, State.setReg_tln, State.withCapture]
  · rw [State.setReg_hth, State.setReg_hth, State.setReg_hth, State.withCapture]
  · rw [State.setReg_mem, State.setReg_mem, State.setReg_mem, State.withCapture]
  · rw [State.setReg_pwr, State.setReg_pwr, State.setReg_pwr, State.withCapture]
  · rw [State.setReg_boot, State.setReg_boot, State.setReg_boot, State.withCapture]

theorem State.uncert_congr {t : State} (htln : t.tln = s.tln) (hdrift : t.nat pgTLN Tln.HOLD_DRIFT = s.nat pgTLN Tln.HOLD_DRIFT)
    (hstate : t.tlState = s.tlState) : t.uncert = s.uncert := by
  rw [State.uncert, htln, hdrift, hstate, State.uncert]

theorem State.htick_congr {t : State} (htln : t.tln = s.tln) (hhth : t.hth = s.hth) : t.htick = s.htick := by
  rw [State.htick, State.ticksSince, htln, hhth, State.htick, State.ticksSince]

/-- What the capture keeps is what its state reads. -/
theorem State.captureTime_captured :
    s.captureTime.boot.captured = some ⟨s.captureTime.tln.now, s.captureTime.uncert, s.captureTime.htick⟩ := by
  rw [s.captureTime_eq]
  generalize s.captureEdge = e
  obtain ⟨htln, hhth, -, -, hcaptured⟩ := e.captureTold_parts
  rw [hcaptured, State.uncert_congr e htln (e.captureTold_within.nat (by decide)) (e.captureTold_within.sts (by decide) _),
    State.htick_congr e htln hhth, htln]

theorem State.captureTime_parts : s.captureTime.mem = s.mem ∧ s.captureTime.pwr = s.pwr := by
  have h := State.captureTime_keeps (s.keeps_parts 0x100000010) (Keep.off_of_and (by decide))
  exact ⟨h.mem_eq, h.pwr_eq⟩

/-- How a sleep is counted. -/
def State.sleepCounted (heath : Bool) : State := if heath then s.setSts pgHTH Hth.S_REG_MODE 1 else s.count 1410 1

/-- The clocks stop, the rails fall, and the links go down. -/
def State.sleepNow (heath : Bool) : State :=
  let s2 := s.setRed { s.red with lock0 := false, lock1 := false, up0 := false, up1 := false }
  { s2 with
    pwr := { s2.pwr with phase := .asleep, coreOn := false, ioOn := !heath, wakeN := false, msgDone := false, recDone := false },
    tln := { s2.tln with stopped := true },
    icu := { s2.icu with linkL0 := false, linkL1 := false, exitL1 := false }
    dev := { s2.dev with gpioDir := 0 } }

theorem State.fallAsleep_eq : s.fallAsleep = ((s.sleepCounted (s.pwr.target == 3)).sleepNow (s.pwr.target == 3)).pinsRefresh := rfl

theorem State.sleepNow_leaves (heath : Bool) : (s.sleepNow heath).pwr.phase = .asleep ∧ (s.sleepNow heath).pwr.coreOn = false ∧
    (s.sleepNow heath).pwr.ioOn = !heath ∧ (s.sleepNow heath).tln.stopped = true ∧ (s.sleepNow heath).boot = s.boot ∧
    (s.sleepNow heath).mem = s.mem ∧ (s.sleepNow heath).live = s.live := ⟨rfl, rfl, rfl, rfl, rfl, rfl, rfl⟩

theorem State.sleepCounted_parts (heath : Bool) : (s.sleepCounted heath).boot = s.boot ∧ (s.sleepCounted heath).mem = s.mem ∧
    (s.sleepCounted heath).nat pgPWR Pwr.ENTRY_US = s.nat pgPWR Pwr.ENTRY_US := by
  cases heath with
  | true => exact ⟨State.setReg_boot _ _ _ _, State.setReg_mem _ _ _ _, congrArg BitVec.toNat (State.reg_setReg_ne _ _ (by decide))⟩
  | false =>
    have h := State.count_keeps (n := 1410) (k := 1) (s.keeps_parts 0x400000010) (Keep.off_of_and (by decide))
    have heq : s.sleepCounted false = s.count 1410 1 := if_neg Bool.false_ne_true
    rw [heq]
    have hcount : s.Within countSpans (s.count 1410 1) := State.count_within _ _
    exact ⟨h.boot_eq, h.mem_eq, hcount.nat (by decide)⟩

theorem State.fallAsleep_leaves : s.fallAsleep.pwr.phase = .asleep ∧ s.fallAsleep.pwr.coreOn = false ∧
    s.fallAsleep.pwr.ioOn = !(s.pwr.target == 3) ∧ s.fallAsleep.tln.stopped = true ∧ s.fallAsleep.boot = s.boot ∧
    s.fallAsleep.mem = s.mem ∧ s.fallAsleep.nat pgPWR Pwr.ENTRY_US = s.nat pgPWR Pwr.ENTRY_US := by
  obtain ⟨hboot, hmem, hentry⟩ := s.sleepCounted_parts (s.pwr.target == 3)
  obtain ⟨hphase, hcore, hio, hstopped, hboot', hmem', hlive⟩ := (s.sleepCounted (s.pwr.target == 3)).sleepNow_leaves (s.pwr.target == 3)
  rw [s.fallAsleep_eq]
  generalize s.sleepCounted (s.pwr.target == 3) = c at *
  have hslept : (c.sleepNow (s.pwr.target == 3)).nat pgPWR Pwr.ENTRY_US = c.nat pgPWR Pwr.ENTRY_US := by
    rw [State.nat, State.reg, hlive, State.nat, State.reg]
  generalize c.sleepNow (s.pwr.target == 3) = n at *
  have h := State.pinsRefresh_keeps (n.keeps_parts 0x500000210) (Keep.off_of_and (by decide))
  rw [h.pwr_eq, h.tln_eq, h.boot_eq, h.mem_eq, (n.pinsRefresh_within).nat (by decide)]
  exact ⟨hphase, hcore, hio, hstopped, hboot'.trans hboot, hmem'.trans hmem, hslept.trans hentry⟩

/-- The image of a Heath entry. -/
def State.imageStored : State := { s with boot := { s.boot with image := s.registerImage, stored := true, restore := true } }

theorem State.storeImage_eq : s.storeImage = ((s.addReg pgPWR Pwr.MSG_DROPPED s.messagesDue.length).setNat pgHTH Hth.LOST_AT_SLEEP
    (min 65535 (s.queue 3 3).committed)).imageStored := rfl

theorem State.storeImage_leaves : s.storeImage.boot.captured = s.boot.captured ∧ s.storeImage.mem = s.mem ∧ s.storeImage.pwr = s.pwr ∧
    s.storeImage.nat pgPWR Pwr.ENTRY_US = s.nat pgPWR Pwr.ENTRY_US := by
  have himage (a : State) : a.imageStored.boot.captured = a.boot.captured ∧ a.imageStored.mem = a.mem ∧ a.imageStored.pwr = a.pwr ∧
    ∀ page off, a.imageStored.reg page off = a.reg page off := ⟨rfl, rfl, rfl, fun _ _ => rfl⟩
  rw [s.storeImage_eq]
  generalize min 65535 (s.queue 3 3).committed = n
  obtain ⟨hcaptured, hmem, hpwr, hreg⟩ := himage ((s.addReg pgPWR Pwr.MSG_DROPPED s.messagesDue.length).setNat pgHTH Hth.LOST_AT_SLEEP n)
  refine ⟨hcaptured.trans ?_, hmem.trans ?_, hpwr.trans ?_, (congrArg BitVec.toNat (hreg _ _)).trans ?_⟩
  · rw [State.setNat_eq, State.setReg_boot, State.addReg, State.setReg_boot]
  · rw [State.setNat_eq, State.setReg_mem, State.addReg, State.setReg_mem]
  · rw [State.setNat_eq, State.setReg_pwr, State.addReg, State.setReg_pwr]
  · exact congrArg BitVec.toNat ((State.reg_setReg_ne _ _ (by decide)).trans (State.reg_setReg_ne _ _ (by decide)))

/-- Steps 5 to 8 without an alarm: the device sleeps with its timeline captured. -/
theorem State.entryCapture_sleeps (n : Nat) (h : s.pwr.phase = .released)
    (halarm : s.captureTime.alarmOn = false ∨ s.captureTime.htick < s.captureTime.alarm) : s.entryCapture n
      = (if s.pwr.target = 3 then (s.captureTime.setNat pgPWR Pwr.ENTRY_US (min 0xFFFFFFFF n)).storeImage
         else s.captureTime.setNat pgPWR Pwr.ENTRY_US (min 0xFFFFFFFF n)).fallAsleep := by
  unfold State.entryCapture
  rw [if_neg (not_not.2 h)]
  dsimp only
  refine if_neg ?_
  rintro ⟨hon, hle⟩
  rcases halarm with hoff | hlater
  · exact Bool.false_ne_true (hoff.symm.trans hon)
  · exact absurd hle (Nat.not_le.2 hlater)

theorem State.entryCapture_aborts (n : Nat) (h : s.pwr.phase = .released) (hon : s.captureTime.alarmOn = true)
    (hle : s.captureTime.alarm ≤ s.captureTime.htick) : s.entryCapture n = s.captureTime.abortEntry 4 0 := by
  unfold State.entryCapture
  rw [if_neg (not_not.2 h)]
  exact if_pos ⟨hon, hle⟩

theorem State.entryCapture_leaves {n : Nat} (h : s.pwr.phase = .released)
    (halarm : s.captureTime.alarmOn = false ∨ s.captureTime.htick < s.captureTime.alarm) (htarget : s.pwr.target = 2 ∨ s.pwr.target = 3) :
    (s.entryCapture n).pwr.phase = .asleep ∧ (s.entryCapture n).pwr.coreOn = false ∧
    (s.entryCapture n).pwr.ioOn = (s.pwr.target == 2) ∧ (s.entryCapture n).tln.stopped = true ∧
    (s.entryCapture n).boot.captured = some ⟨s.captureTime.tln.now, s.captureTime.uncert, s.captureTime.htick⟩ ∧
    (s.entryCapture n).nat pgPWR Pwr.ENTRY_US = min 0xFFFFFFFF n ∧ (s.entryCapture n).mem = s.mem := by
  have hio : (s.pwr.target == 2) = !(s.pwr.target == 3) := by rcases htarget with ht | ht <;> rw [ht] <;> rfl
  obtain ⟨hmem, hpwr⟩ := s.captureTime_parts
  have hcaptured := s.captureTime_captured
  rw [State.entryCapture_sleeps s n h halarm, hio, ← hcaptured, ← hmem, ← hpwr]
  generalize s.captureTime = c
  have hset : (c.setNat pgPWR Pwr.ENTRY_US (min 0xFFFFFFFF n)).nat pgPWR Pwr.ENTRY_US = min 0xFFFFFFFF n :=
    (State.nat_setNat_same _ _ _ _).trans (Nat.mod_eq_of_lt (by omega))
  have hparts : (c.setNat pgPWR Pwr.ENTRY_US (min 0xFFFFFFFF n)).pwr = c.pwr ∧ (c.setNat pgPWR Pwr.ENTRY_US (min 0xFFFFFFFF n)).boot = c.boot ∧
      (c.setNat pgPWR Pwr.ENTRY_US (min 0xFFFFFFFF n)).mem = c.mem :=
    ⟨State.setReg_pwr _ _ _ _, State.setReg_boot _ _ _ _, State.setReg_mem _ _ _ _⟩
  generalize c.setNat pgPWR Pwr.ENTRY_US (min 0xFFFFFFFF n) = e at hset hparts ⊢
  obtain ⟨hpwr', hboot', hmem'⟩ := hparts
  split
  · obtain ⟨hkept, hmem'', hpwr'', hentry⟩ := e.storeImage_leaves
    obtain ⟨hphase, hcore, hrail, hstopped, hboot, hmemory, hus⟩ := e.storeImage.fallAsleep_leaves
    refine ⟨hphase, hcore, by rw [hrail, hpwr'', hpwr'], hstopped, ?_, hus.trans (hentry.trans hset), hmemory.trans (hmem''.trans hmem')⟩
    rw [hboot, hkept, hboot']
  · obtain ⟨hphase, hcore, hrail, hstopped, hboot, hmemory, hus⟩ := e.fallAsleep_leaves
    exact ⟨hphase, hcore, by rw [hrail, hpwr'], hstopped, by rw [hboot, hboot'], hus.trans hset, hmemory.trans hmem'⟩

/-! ### The limits of an entry (R613) -/

theorem State.flag_pwrFault {n : Nat} (hn : n < 32) : (s.fault pgPWR n).flag pgPWR PAGE_FAULT n = true :=
  State.flag_fault s pageInfo_pgPWR rfl hn (by decide)

theorem State.entryProceed_drained (h : s.pwr.phase = .entering) (hdrained : s.drained = true) :
    s.entryProceed = s.releaseAll.setPwr { s.releaseAll.pwr with phase := .released } :=
  if_neg (by simp [h, hdrained])

theorem State.entryProceed_leaves (h : s.pwr.phase = .entering) (hdrained : s.drained = true) :
    s.entryProceed.pwr.phase = .released ∧ s.entryProceed.red.own = false ∧ s.entryProceed.claimEnabled = false := by
  have hset (a : State) (p : PwrState) : (a.setPwr p).pwr = p ∧ (a.setPwr p).red = a.red ∧ (a.setPwr p).claimEnabled = a.claimEnabled :=
    ⟨rfl, rfl, rfl⟩
  obtain ⟨hown, hclaim⟩ := s.releaseAll_leaves
  rw [s.entryProceed_drained h hdrained]
  generalize s.releaseAll = r at hown hclaim ⊢
  obtain ⟨hpwr, hred, hclaim'⟩ := hset r { r.pwr with phase := .released }
  exact ⟨by rw [hpwr], by rw [hred, hown], hclaim'.trans hclaim⟩

end

end Sys2Proof.Machine

open Sys2Proof Sys2Proof.Machine

/-- Settles O45: the requests by their cause, the abandoned entry, the limits, the release of the Stile, and the capture. -/
theorem powerStatesAreEntered : Obligations.PowerStatesAreEntered := by
  unfold Obligations.PowerStatesAreEntered
  refine ⟨fun s r seen pins h => ?_, fun s c hc => s.refusePwr_leaves hc, fun s seen pins => s.abortEntry_leaves seen pins,
    fun s hentering => ⟨fun hopen hdue => ?_, fun hopen hbusy => ?_, fun hdrained => ?_, fun hbusy => ?_⟩,
    fun s n hreleased => ⟨fun hon hle => ?_, fun halarm htarget => ?_⟩⟩
  · have hgate {f : State → State} : s.gate pgPWR f = f s.counted := State.gate_eq h f
    refine ⟨fun c hc => congrArg Host.Outcome.next (hgate.trans (State.pwrRequest_refused _ hc)),
      fun c hc => congrArg Host.Outcome.next (hgate.trans (State.pwrRequest_refused _ hc)),
      fun c hc => congrArg Host.Outcome.next (hgate.trans (State.pwrRequest_refused _ hc)),
      fun c hc => congrArg Host.Outcome.next (hgate.trans (State.pwrRequest_refused _ hc)),
      fun hc => ⟨_, congrArg Host.Outcome.next (hgate.trans (State.pwrRequest_run _ hc)), ?_, ?_⟩,
      fun hc hw => congrArg Host.Outcome.next (hgate.trans (State.pwrRequest_doze _ hc hw)),
      fun hc hw => congrArg Host.Outcome.next (hgate.trans (State.pwrRequest_woken _ (by decide) hc hw)),
      fun hc hw => congrArg Host.Outcome.next (hgate.trans (State.pwrRequest_woken _ (by decide) hc hw)),
      fun hc hw => congrArg Host.Outcome.next (hgate.trans (State.pwrRequest_woken _ (by decide) hc hw)),
      fun hc hw => ⟨_, congrArg Host.Outcome.next (hgate.trans (State.pwrRequest_sleep _ (by decide) hc hw)), State.beginEntry_leaves _ _⟩,
      fun hc hw => ⟨_, congrArg Host.Outcome.next (hgate.trans (State.pwrRequest_sleep _ (by decide) hc hw)), State.beginEntry_leaves _ _⟩⟩
    · have hrun := s.counted.pwrState_leaveDoze (0x40 + (s.counted.recognised 0 0).1 % 64) (s.counted.recognised 0 0).2
      exact ((State.irq_steady (P := fun _ => true) _ 17).pwrState (by rw [hrun]; decide) rfl).trans hrun
    · have hkept := State.irq_keeps (k := 17) (State.leaveDoze_keeps (seen := 0x40 + (s.counted.recognised 0 0).1 % 64)
        (pins := (s.counted.recognised 0 0).2) (s.counted.keeps_parts 0x10) (Keep.off_of_and (by decide))) (Keep.off_of_and (by decide))
      exact hkept.mem_eq.trans s.mem_counted
  · refine ⟨_, congrArg Host.Outcome.next (if_pos (by simp [hentering, hopen, hdue])), ?_, State.flag_pwrFault _ (by decide)⟩
    exact (State.fault_sleep _ _ _).1
  · refine ⟨_, congrArg Host.Outcome.next (if_pos (by simp [hentering, hopen, hbusy])), ?_, State.flag_pwrFault _ (by decide)⟩
    exact (State.fault_sleep _ _ _).1
  · exact ⟨_, rfl, s.entryProceed_leaves hentering hdrained⟩
  · exact congrArg Host.Outcome.next (if_pos (.inr hbusy))
  · exact congrArg Host.Outcome.next (s.entryCapture_aborts n hreleased hon hle)
  · obtain ⟨hphase, hcore, hio, hstopped, hcaptured, hus, hmem⟩ := s.entryCapture_leaves (n := n) hreleased halarm htarget
    refine ⟨_, rfl, hphase, hcore, hio, hstopped, ?_, hcaptured, hus, hmem⟩
    rw [State.timeRuns, hstopped, Bool.not_true, Bool.and_false]

end

section
/-!
Measurements of temperature, throttling, the shutdown and the restart (R630 to R645): O47.
-/
set_option Elab.async false
namespace Sys2Proof.Machine

/-! ### Signed fields -/

theorem signed_unsign {v : Int} (hlow : -32768 ≤ v) (hhigh : v < 32768) : signed 16 (unsign 16 v) = v := by
  unfold signed unsign
  norm_num
  split <;> omega

theorem unsign_lt (v : Int) : unsign 16 v < 65536 := by
  unfold unsign
  norm_num
  omega

theorem signed_mod (x : Nat) : signed 16 (x % 65536) = signed 16 x := by
  unfold signed
  norm_num

/-- Two signed values in one register. -/
def pairWord (lo hi : Int) : Nat := unsign 16 lo + 2 ^ 16 * unsign 16 hi

theorem bits_pairWord_low (lo hi : Int) : bits (BitVec.ofNat 32 (pairWord lo hi)) (15, 0) = unsign 16 lo := by
  have hl := unsign_lt lo
  have hh := unsign_lt hi
  simp only [bits, pairWord, BitVec.toNat_ofNat]
  norm_num
  omega

theorem bits_pairWord_high (lo hi : Int) : bits (BitVec.ofNat 32 (pairWord lo hi)) (31, 16) = unsign 16 hi := by
  have hl := unsign_lt lo
  have hh := unsign_lt hi
  simp only [bits, pairWord, BitVec.toNat_ofNat]
  norm_num
  omega

/-! ### What the way to an instant may write -/

/-- The pages of SYN, and what interrupts write. -/
abbrev reachSpans : List Span := pageSpan (pgSYN 0) (pgSYN 8) :: irqSpans

section
variable {s a : State}

theorem State.synPulseEnd_within {k : Nat} (hk : k < 8) (x : Nat) : s.Within reachSpans (s.synPulseEnd k x) := by
  have hset {t u : State} (h : t.Within reachSpans u) {v : Word} : t.Within reachSpans (u.setReg (pgSYN k) PAGE_STATUS v) :=
    h.setPage List.mem_cons_self (by simp only [pgSYN]; omega) (by simp only [pgSYN]; omega) (by decide)
  have hsyn (c : Tab SynState) : s.Within reachSpans { s with syn := c } := (State.Within.refl s).upd rfl
  unfold State.synPulseEnd
  dsimp only
  refine State.Within.ite ?_ (.refl s)
  refine State.Within.ite ?_ (hsyn _)
  exact (hset (hsyn _)).ite ((hset (hset (hsyn _))).irq (List.subset_cons_self _ _))

theorem State.advance_within (x : Nat) : s.Within reachSpans (s.advance x) := by
  have hslew : s.Within reachSpans (s.slewAccrue x) :=
    (State.Within.refl s).upd (State.slewAccrue_keeps (s.keeps_parts 0x2) (Keep.off_of_and (by decide))).live_eq
  have hnow (b : State) (c : TlnState) : b.Within reachSpans { b with tln := c } := (State.Within.refl b).upd rfl
  unfold State.advance
  dsimp only
  refine State.Within.foldl (hslew.trans (hnow _ _)) fun k hk b => b.synPulseEnd_within ?_ x
  have hcases : k = 3 ∨ k = 5 ∨ k = 7 := by simpa using hk
  omega

/-- At an instant that the timeline reaches, registers beside SYN and the interrupts are as before. -/
theorem State.reach_within {x : Nat} (h : s.reach x = some a) : s.Within reachSpans a := by
  unfold State.reach at h
  split at h
  · cases h
    exact .refl _
  · split at h
    · cases h
      exact State.advance_within _
    · cases h

theorem State.reachTick_within {key step off : Nat} (h : s.reachTick key step off = some a) : s.Within reachSpans a := by
  obtain ⟨b, hb, rfl⟩ := Option.map_eq_some_iff.1 h
  exact (State.reach_within hb).upd rfl

theorem State.reachTick_parts {key step off : Nat} (h : s.reachTick key step off = some a) : a.pwr = s.pwr ∧ a.thm = s.thm ∧
    a.cal = s.cal ∧ a.boot = s.boot ∧ a.red = s.red := by
  obtain ⟨b, hb, rfl⟩ := Option.map_eq_some_iff.1 h
  have hparts := State.reach_parts hb
  exact ⟨hparts.pwr_eq, hparts.thm_eq, hparts.cal_eq, hparts.boot_eq, hparts.red_eq⟩

end

/-! ### What the parts of a measurement may write -/

/-- What a round's votes may write. -/
abbrev voteSpans : List Span := [regSpan pgTHM Thm.T_REGION01, regSpan pgTHM Thm.T_REGION23,
  fldSpan pgTHM Thm.T_CORE_ANALOG (15, 0), fldSpan pgTHM Thm.T_DIE (15, 0), fldSpan pgTHM Thm.T_PEAK (15, 0),
  regSpan pgTHM Thm.REPLICA_STATE]

/-- What the zones and levels that follow may write. -/
abbrev zoneSpans : List Span := regSpan pgTHM Thm.THROTTLE :: fldSpan pgTHM PAGE_STATUS Thm.S_ZONE ::
  fldSpan pgTHM PAGE_STATUS Thm.S_THROTTLING :: fldSpan pgTHM PAGE_STATUS Thm.S_HEATING :: regSpan pgTHM PAGE_FAULT :: tellSpans

theorem tellSpans_subset_zone : tellSpans ⊆ zoneSpans := by decide
theorem trigSpans_subset_zone : trigSpans ⊆ zoneSpans := by decide
theorem irqSpans_subset_zone : irqSpans ⊆ zoneSpans := by decide

section
variable (s : State)

theorem State.modThm_within {l : List Span} (f : ThmState → ThmState) : s.Within l (s.modThm f) := (State.Within.refl s).upd rfl

theorem State.thmFault_within {n : Nat} (hn : n < 32 := by decide) : s.Within zoneSpans (s.fault pgTHM n) :=
  (State.Within.refl s).fault pageInfo_pgTHM rfl (by decide) hn

theorem State.thmTrigger_within (code : Nat) : s.Within zoneSpans (s.trigger code pgTHM) :=
  (s.trigger_within code pgTHM).mono trigSpans_subset_zone

theorem State.sensorFault_within {n : Nat} (hn : n < 32 := by decide) : s.Within zoneSpans (s.sensorFault n) :=
  (State.Within.refl s).ite ((s.thmFault_within hn).trans (State.thmTrigger_within _ _))

theorem State.writeHistory_within {l : List Span} (kind : Nat) : s.Within l (s.writeHistory kind) := by
  have hcal (a : State) (f : CalState → CalState) : a.Within l (a.modCal f) := (State.Within.refl a).upd rfl
  unfold State.writeHistory
  extract_lets l'
  refine State.Within.trans ?_ (hcal _ _)
  exact s.setBytes_within _ _

/-- How many rounds in a row replica `i` has stood apart, this one counted. -/
def State.apartRounds (t : Thermals) (i : Nat) : Nat := if standsApart t i then Tab.get (fun _ => 0) s.thm.apart i + 1 else 0

/-- Replica `i` has stood apart in `n` rounds. -/
def State.apartSet (i n : Nat) : State := s.modThm (fun x => { x with apart := Tab.set (fun _ => 0) x.apart i (min 10 n) })

/-- Replica `i` is excluded. -/
def State.replicaOut (i : Nat) : State := { s with cal := { s.cal with excluded := Tab.set (fun _ => false) s.cal.excluded i true } }

theorem State.judge_eq (t : Thermals) (i : Nat) : s.judge t i
    = if s.apartRounds t i < 10 ∨ s.excluded i ∨ s.elementForced (164 + i) then s.apartSet i (s.apartRounds t i)
      else (((s.apartSet i (s.apartRounds t i)).replicaOut i).sensorFault Thm.F_REPLICA_EXCLUDED).writeHistory 3 := rfl

theorem State.judge_within (t : Thermals) (i : Nat) : s.Within zoneSpans (s.judge t i) := by
  have hset (n : Nat) : s.Within zoneSpans (s.apartSet i n) := s.modThm_within _
  have hout (a : State) : a.Within zoneSpans (a.replicaOut i) := (State.Within.refl a).upd rfl
  rw [s.judge_eq]
  exact (hset _).ite ((((hset _).trans (hout _)).trans (State.sensorFault_within _)).trans (State.writeHistory_within _ _))

theorem State.judged_within (t : Thermals) : s.Within zoneSpans ((List.range 15).foldl (fun x i => x.judge t i) s) :=
  (State.Within.refl s).foldl fun i _ a => a.judge_within t i

theorem State.throttleRefresh_within : s.Within zoneSpans s.throttleRefresh := by
  have hset (v n : Nat) : s.Within zoneSpans ((s.setNat pgTHM Thm.THROTTLE v).setSts pgTHM Thm.S_THROTTLING n) :=
    (State.Within.refl s).write.setSts (by decide)
  exact (hset _ _).foldl fun n _ a =>
    (State.Within.refl a).ite (((State.Within.refl a).irq irqSpans_subset_zone).trans (State.thmTrigger_within _ _))

theorem State.enterRow_within (entered : Bool) {fault : Option Nat} (thresh : Nat) (code : Option Nat) (hf : ∀ n ∈ fault, n < 32) :
    s.Within zoneSpans (s.enterRow entered fault thresh code) := by
  have hthm : s.Within zoneSpans (s.modThm (fun x => { x with thresh := thresh })) := s.modThm_within _
  unfold State.enterRow
  dsimp only
  refine (State.Within.refl s).ite ?_
  cases fault with
  | none => cases code with
    | none => exact hthm
    | some c => exact hthm.trans (State.thmTrigger_within _ _)
  | some n => cases code with
    | none => exact hthm.trans (State.thmFault_within _ (hf n rfl))
    | some c => exact (hthm.trans (State.thmFault_within _ (hf n rfl))).trans (State.thmTrigger_within _ _)

theorem State.heaterRefresh_within : s.Within zoneSpans s.heaterRefresh :=
  (State.Within.refl s).ite ((State.Within.refl s).setSts (by decide))

theorem State.sendThermal_within : s.Within zoneSpans s.sendThermal := (s.tsxSend_within _ _ _).mono tellSpans_subset_zone

/-- The thermal state with its rows as the votes have them. -/
def State.zoneRows : ThmState :=
  let t := s.tDie
  let x := s.thm
  { x with
    lowHold := holdsRow x.lowHold (t ≤ -720) (-608 ≤ t)
    lowWarn := holdsRow x.lowWarn (t ≤ -608) (-576 ≤ t)
    highWarn := holdsRow x.highWarn (2240 ≤ t) (t ≤ 2160)
    highThrottle := holdsRow x.highThrottle (s.votes.any (fun v => 2368 ≤ v) || s.dramHot)
      (s.votes.all (fun v => v ≤ 2288) && !s.dramHot)
    hot := (List.range 5).foldl (fun (a : Tab Bool) k =>
      let v := s.votes.getD k 0
      Tab.set (fun _ => false) a k (holdsRow (Tab.get (fun _ => false) a k) (2368 ≤ v) (v ≤ 2288))) x.hot }

/-- The rows that begin to hold, from thermal state `x` to `y`. -/
def State.rowsEntered (x y : ThmState) : State :=
  ((((s.modThm (fun _ => y)).enterRow (y.lowWarn && !x.lowWarn) (some Thm.F_LOW_WARN) 1 none).enterRow
    (y.lowHold && !x.lowHold) none 0 none).enterRow (y.highWarn && !x.highWarn) (some Thm.F_HIGH_WARN) 2 (some 0x810)).enterRow
      (y.highThrottle && !x.highThrottle) (some Thm.F_HIGH_THROTTLE) 3 (some 0x811)

theorem State.zoneRefresh_eq : s.zoneRefresh
    = (if s.sts pgTHM Thm.S_ZONE = s.zoneRows.zone then (s.rowsEntered s.thm s.zoneRows).throttleRefresh
       else (((s.rowsEntered s.thm s.zoneRows).throttleRefresh.setSts pgTHM Thm.S_ZONE s.zoneRows.zone).irq 25).sendThermal).heaterRefresh := by
  unfold State.zoneRefresh State.rowsEntered State.zoneRows
  rfl

theorem State.rowsEntered_within (x y : ThmState) : s.Within zoneSpans (s.rowsEntered x y) := by
  have hbit {n : Nat} (hn : n < 32) : ∀ m ∈ some n, m < 32 := fun m hm => Option.some.inj hm ▸ hn
  have hthm : s.Within zoneSpans (s.modThm (fun _ => y)) := s.modThm_within _
  exact (((hthm.trans (State.enterRow_within _ _ _ _ (hbit (by decide)))).trans (State.enterRow_within _ _ _ _ (by simp))).trans
    (State.enterRow_within _ _ _ _ (hbit (by decide)))).trans (State.enterRow_within _ _ _ _ (hbit (by decide)))

theorem State.zoneRefresh_within : s.Within zoneSpans s.zoneRefresh := by
  have hrows := (s.rowsEntered_within s.thm s.zoneRows).trans (State.throttleRefresh_within _)
  rw [s.zoneRefresh_eq]
  generalize (s.rowsEntered s.thm s.zoneRows).throttleRefresh = r at hrows ⊢
  have hzone : s.Within zoneSpans ((r.setSts pgTHM Thm.S_ZONE s.zoneRows.zone).irq 25) :=
    (hrows.setSts (by decide)).irq irqSpans_subset_zone
  exact (hrows.ite (hzone.trans (State.sendThermal_within _))).trans (State.heaterRefresh_within _)

end

end Sys2Proof.Machine
end

section
/-!
Measurements of temperature, throttling, the shutdown and the restart (R630 to R645): O47.
-/
set_option Elab.async false
namespace Sys2Proof.Machine

section
variable (s : State)

/-! ### The thermal state through the zones -/

theorem State.thm_throttleRefresh : s.throttleRefresh.thm = s.thm :=
  (State.throttleRefresh_keeps (s.keeps_parts 0x800000000) (Keep.off_of_and (by decide))).thm_eq

theorem State.thm_fault (page n : Nat) : (s.fault page n).thm = s.thm :=
  (State.fault_keeps (s.keeps_parts 0x800000000) (Keep.off_of_and (by decide))).thm_eq

theorem State.thm_trigger (code page : Nat) : (s.trigger code page).thm = s.thm :=
  (State.trigger_keeps (s.keeps_parts 0x800000000) (Keep.off_of_and (by decide))).thm_eq

theorem State.thm_sendThermal : s.sendThermal.thm = s.thm :=
  (State.sendThermal_keeps (s.keeps_parts 0x800000000) (Keep.off_of_and (by decide))).thm_eq

theorem State.thm_heaterRefresh : s.heaterRefresh.thm = s.thm :=
  (State.heaterRefresh_keeps (s.keeps_parts 0x800000000) (Keep.off_of_and (by decide))).thm_eq

theorem State.thm_zoneSet (n : Nat) : ((s.setSts pgTHM Thm.S_ZONE n).irq 25).thm = s.thm :=
  (State.irq_keeps (State.setSts_keeps (s.keeps_parts 0x800000000) (Keep.off_of_and (by decide))) (Keep.off_of_and (by decide))).thm_eq

theorem State.apart_enterRow (entered : Bool) (fault : Option Nat) (thresh : Nat) (code : Option Nat) :
    (s.enterRow entered fault thresh code).thm.apart = s.thm.apart := by
  have hthm : (s.modThm (fun x => { x with thresh := thresh })).thm.apart = s.thm.apart := rfl
  unfold State.enterRow
  dsimp only
  split
  · rfl
  · cases fault with
    | none => cases code with
      | none => exact hthm
      | some c => exact (congrArg ThmState.apart (State.thm_trigger _ _ _)).trans hthm
    | some n => cases code with
      | none => exact (congrArg ThmState.apart (State.thm_fault _ _ _)).trans hthm
      | some c =>
        exact (congrArg ThmState.apart ((State.thm_trigger _ _ _).trans (State.thm_fault _ _ _))).trans hthm

theorem State.apart_rowsEntered (x y : ThmState) : (s.rowsEntered x y).thm.apart = y.apart := by
  unfold State.rowsEntered
  rw [State.apart_enterRow, State.apart_enterRow, State.apart_enterRow, State.apart_enterRow]
  rfl

theorem State.apart_zoneRefresh : s.zoneRefresh.thm.apart = s.thm.apart := by
  have hrows : (s.rowsEntered s.thm s.zoneRows).throttleRefresh.thm.apart = s.thm.apart := by
    rw [State.thm_throttleRefresh, State.apart_rowsEntered]
    rfl
  rw [s.zoneRefresh_eq, State.thm_heaterRefresh]
  generalize (s.rowsEntered s.thm s.zoneRows).throttleRefresh = r at hrows ⊢
  split
  · exact hrows
  · rw [State.thm_sendThermal, State.thm_zoneSet, hrows]

/-- Zones leave the power sequencer, memory, the device's own state and the start. -/
theorem State.zoneRefresh_parts : s.zoneRefresh.pwr = s.pwr ∧ s.zoneRefresh.mem = s.mem := by
  have h := State.zoneRefresh_keeps (s.keeps_parts 0x100000010) (Keep.off_of_and (by decide))
  exact ⟨h.pwr_eq, h.mem_eq⟩

/-! ### Votes (R632, R633) -/

/-- The registers of a round's votes. -/
def State.votesSet (v0 v1 v2 v3 v4 die peak : Int) (replicas : Nat) : State :=
  (((((s.setNat pgTHM Thm.T_REGION01 (pairWord v0 v1)).setNat pgTHM Thm.T_REGION23 (pairWord v2 v3)).setFld pgTHM Thm.T_CORE_ANALOG (15, 0)
    (unsign 16 v4)).setFld pgTHM Thm.T_DIE (15, 0) (unsign 16 die)).setFld pgTHM Thm.T_PEAK (15, 0) (unsign 16 peak)).setNat pgTHM
      Thm.REPLICA_STATE replicas

/-- The temperatures of units, as a round has them. -/
def State.unitsSet (t : Thermals) : State :=
  s.modThm (fun x => { x with unit := t.units.foldl (fun (a : Tab Nat) (e : Nat × Int) =>
    if isUnitPage e.1 then Tab.set (fun _ => 0x8000) a e.1 (unsign 16 e.2) else a) x.unit })

/-- The largest of the votes. -/
def State.dieVote (t : Thermals) : Int :=
  max (max (s.voteOf t 0) (s.voteOf t 1)) (max (max (s.voteOf t 2) (s.voteOf t 3)) (s.voteOf t 4))

theorem State.loadVotes_eq (t : Thermals) : s.loadVotes t
    = (s.votesSet (s.voteOf t 0) (s.voteOf t 1) (s.voteOf t 2) (s.voteOf t 3) (s.voteOf t 4) (s.dieVote t)
        (max (signed 16 (s.fld pgTHM Thm.T_PEAK (15, 0))) (s.dieVote t)) (s.replicaState t)).unitsSet t := by
  unfold State.loadVotes State.votesSet State.unitsSet State.dieVote pairWord
  rfl

theorem State.votesSet_within (v0 v1 v2 v3 v4 die peak : Int) (replicas : Nat) :
    s.Within voteSpans (s.votesSet v0 v1 v2 v3 v4 die peak replicas) :=
  ((((((State.Within.refl s).write).write).setFld (by decide)).setFld (by decide)).setFld (by decide)).write

theorem State.votesSet_reads {v0 v1 v2 v3 v4 die : Int} (peak : Int) (replicas : Nat)
    (h0 : -32768 ≤ v0 ∧ v0 < 32768) (h1 : -32768 ≤ v1 ∧ v1 < 32768) (h2 : -32768 ≤ v2 ∧ v2 < 32768) (h3 : -32768 ≤ v3 ∧ v3 < 32768)
    (h4 : -32768 ≤ v4 ∧ v4 < 32768) (hdie : -32768 ≤ die ∧ die < 32768) :
    (s.votesSet v0 v1 v2 v3 v4 die peak replicas).votes = [v0, v1, v2, v3, v4] ∧
    (s.votesSet v0 v1 v2 v3 v4 die peak replicas).tDie = die := by
  have hpair {a : State} {o : Nat} {x y : Int} (h : a.reg pgTHM o = BitVec.ofNat 32 (pairWord x y)) (hx : -32768 ≤ x ∧ x < 32768)
      (hy : -32768 ≤ y ∧ y < 32768) : signed 16 (a.fld pgTHM o (15, 0)) = x ∧ signed 16 (a.fld pgTHM o (31, 16)) = y := by
    rw [State.fld, State.fld, h, bits_pairWord_low, bits_pairWord_high]
    exact ⟨signed_unsign hx.1 hx.2, signed_unsign hy.1 hy.2⟩
  have hlow {a : State} {o : Nat} {w : Word} {x : Int} (h : a.reg pgTHM o = putBits w (15, 0) (unsign 16 x)) (hx : -32768 ≤ x ∧ x < 32768) :
      signed 16 (a.fld pgTHM o (15, 0)) = x := by
    rw [State.fld, h, bits_putBits_same _ (by decide)]
    exact (signed_mod _).trans (signed_unsign hx.1 hx.2)
  have h01 : (s.votesSet v0 v1 v2 v3 v4 die peak replicas).reg pgTHM Thm.T_REGION01 = BitVec.ofNat 32 (pairWord v0 v1) := by
    refine (State.reg_setReg_ne _ _ (by decide)).trans ((State.reg_setReg_ne _ _ (by decide)).trans ((State.reg_setReg_ne _ _ (by decide)).trans ?_))
    exact (State.reg_setReg_ne _ _ (by decide)).trans ((State.reg_setReg_ne _ _ (by decide)).trans (State.reg_setReg_self _ _ _ _))
  have h23 : (s.votesSet v0 v1 v2 v3 v4 die peak replicas).reg pgTHM Thm.T_REGION23 = BitVec.ofNat 32 (pairWord v2 v3) := by
    refine (State.reg_setReg_ne _ _ (by decide)).trans ((State.reg_setReg_ne _ _ (by decide)).trans ((State.reg_setReg_ne _ _ (by decide)).trans ?_))
    exact (State.reg_setReg_ne _ _ (by decide)).trans (State.reg_setReg_self _ _ _ _)
  obtain ⟨hv0, hv1⟩ := hpair h01 h0 h1
  obtain ⟨hv2, hv3⟩ := hpair h23 h2 h3
  have hv4 : signed 16 ((s.votesSet v0 v1 v2 v3 v4 die peak replicas).fld pgTHM Thm.T_CORE_ANALOG (15, 0)) = v4 := by
    refine hlow ((State.reg_setReg_ne _ _ (by decide)).trans ((State.reg_setReg_ne _ _ (by decide)).trans
      ((State.reg_setReg_ne _ _ (by decide)).trans (State.reg_setReg_self _ _ _ _)))) h4
  have hvd : signed 16 ((s.votesSet v0 v1 v2 v3 v4 die peak replicas).fld pgTHM Thm.T_DIE (15, 0)) = die := by
    refine hlow ((State.reg_setReg_ne _ _ (by decide)).trans ((State.reg_setReg_ne _ _ (by decide)).trans (State.reg_setReg_self _ _ _ _))) hdie
  refine ⟨?_, hvd⟩
  rw [State.votes, hv0, hv1, hv2, hv3, hv4]

/-- Votes and the analog reading, as zones leave them. -/
structure State.SameVotes (s t : State) : Prop where
  votes : t.votes = s.votes
  die : t.tDie = s.tDie
  analog : t.tAnalog = s.tAnalog

theorem State.Within.sameVotes {s t : State} (h : s.Within zoneSpans t) : s.SameVotes t := by
  have h01 (f : Field) : t.fld pgTHM Thm.T_REGION01 f = s.fld pgTHM Thm.T_REGION01 f := h.fld (by decide) f
  have h23 (f : Field) : t.fld pgTHM Thm.T_REGION23 f = s.fld pgTHM Thm.T_REGION23 f := h.fld (by decide) f
  have hcore (f : Field) : t.fld pgTHM Thm.T_CORE_ANALOG f = s.fld pgTHM Thm.T_CORE_ANALOG f := h.fld (by decide) f
  have hdie (f : Field) : t.fld pgTHM Thm.T_DIE f = s.fld pgTHM Thm.T_DIE f := h.fld (by decide) f
  refine ⟨?_, ?_, ?_⟩
  · rw [State.votes, h01, h01, h23, h23, hcore, State.votes]
  · rw [State.tDie, hdie, State.tDie]
  · rw [State.tAnalog, hcore, State.tAnalog]

theorem State.SameVotes.trans {s t u : State} (h : s.SameVotes t) (g : t.SameVotes u) : s.SameVotes u :=
  ⟨g.votes.trans h.votes, g.die.trans h.die, g.analog.trans h.analog⟩

theorem State.unitsSet_leaves (t : Thermals) : s.SameVotes (s.unitsSet t) ∧ (s.unitsSet t).thm.apart = s.thm.apart ∧
    (s.unitsSet t).pwr = s.pwr := ⟨⟨rfl, rfl, rfl⟩, rfl, rfl⟩

/-- The votes of a round as they read, and what loading them leaves. -/
theorem State.loadVotes_leaves (t : Thermals) (h : ∀ k, k < 5 → -32768 ≤ s.voteOf t k ∧ s.voteOf t k < 32768) :
    (s.loadVotes t).votes = (List.range 5).map (s.voteOf t) ∧ (s.loadVotes t).tDie = s.dieVote t ∧
    (s.loadVotes t).tAnalog = s.tAnalog ∧ (s.loadVotes t).thm.apart = s.thm.apart ∧ (s.loadVotes t).pwr = s.pwr := by
  have hdie : -32768 ≤ s.dieVote t ∧ s.dieVote t < 32768 := by
    have h0 := h 0 (by decide)
    have h1 := h 1 (by decide)
    have h2 := h 2 (by decide)
    have h3 := h 3 (by decide)
    have h4 := h 4 (by decide)
    unfold State.dieVote
    omega
  rw [s.loadVotes_eq]
  obtain ⟨hvotes, hdie'⟩ := s.votesSet_reads (max (signed 16 (s.fld pgTHM Thm.T_PEAK (15, 0))) (s.dieVote t)) (s.replicaState t)
    (h 0 (by decide)) (h 1 (by decide)) (h 2 (by decide)) (h 3 (by decide)) (h 4 (by decide)) hdie
  have hwithin := s.votesSet_within (s.voteOf t 0) (s.voteOf t 1) (s.voteOf t 2) (s.voteOf t 3) (s.voteOf t 4) (s.dieVote t)
    (max (signed 16 (s.fld pgTHM Thm.T_PEAK (15, 0))) (s.dieVote t)) (s.replicaState t)
  have hparts : (s.votesSet (s.voteOf t 0) (s.voteOf t 1) (s.voteOf t 2) (s.voteOf t 3) (s.voteOf t 4) (s.dieVote t)
      (max (signed 16 (s.fld pgTHM Thm.T_PEAK (15, 0))) (s.dieVote t)) (s.replicaState t)).thm = s.thm ∧
      (s.votesSet (s.voteOf t 0) (s.voteOf t 1) (s.voteOf t 2) (s.voteOf t 3) (s.voteOf t 4) (s.dieVote t)
      (max (signed 16 (s.fld pgTHM Thm.T_PEAK (15, 0))) (s.dieVote t)) (s.replicaState t)).pwr = s.pwr := by
    unfold State.votesSet State.setNat State.setFld
    simp only [State.setReg_thm, State.setReg_pwr, and_self]
  generalize s.votesSet (s.voteOf t 0) (s.voteOf t 1) (s.voteOf t 2) (s.voteOf t 3) (s.voteOf t 4) (s.dieVote t)
    (max (signed 16 (s.fld pgTHM Thm.T_PEAK (15, 0))) (s.dieVote t)) (s.replicaState t) = u at hvotes hdie' hwithin hparts ⊢
  obtain ⟨hsame, hapart, hpwr⟩ := u.unitsSet_leaves t
  have hanalog : u.tAnalog = s.tAnalog := congrArg (signed 16) (hwithin.fldApart (by decide))
  exact ⟨hsame.votes.trans hvotes, hsame.die.trans hdie', hsame.analog.trans hanalog, hapart.trans (congrArg ThmState.apart hparts.1),
    hpwr.trans hparts.2⟩

theorem State.loadVotes_within (t : Thermals) : s.Within voteSpans (s.loadVotes t) := by
  rw [s.loadVotes_eq]
  have hunits (a : State) : a.Within voteSpans (a.unitsSet t) := a.modThm_within _
  exact (s.votesSet_within _ _ _ _ _ _ _ _).trans (hunits _)

/-! ### A round (R630, R641) -/

/-- A state with the replicas of a round judged. -/
def State.judged (t : Thermals) : State := (List.range 15).foldl (fun x i => x.judge t i) s

/-- While a region is throttled a round adds its millisecond to THROTTLE_MS. -/
def State.throttleMs : State := if s.sts pgTHM Thm.S_THROTTLING = 1 then s.inc pgTHM Thm.THROTTLE_MS else s

theorem State.measureNow_eq {t : Thermals} (h : t.broken = []) :
    s.measureNow t = (((s.judged t).loadVotes t).throttleMs).zoneRefresh.shutdownCheck := by
  unfold State.measureNow
  rw [if_pos h]
  rfl

theorem State.pwr_judge (t : Thermals) (i : Nat) : (s.judge t i).pwr = s.pwr :=
  (State.judge_keeps (s.keeps_parts 0x100000000) (Keep.off_of_and (by decide))).pwr_eq

theorem State.pwr_judged (t : Thermals) : (s.judged t).pwr = s.pwr :=
  List.foldlRecOn (motive := fun (a : State) => a.pwr = s.pwr) _ _ rfl fun a ha i _ => (a.pwr_judge t i).trans ha

theorem State.throttleMs_leaves : s.SameVotes s.throttleMs ∧ s.throttleMs.thm = s.thm ∧ s.throttleMs.pwr = s.pwr ∧
    s.Within [regSpan pgTHM Thm.THROTTLE_MS] s.throttleMs := by
  have hset : s.Within [regSpan pgTHM Thm.THROTTLE_MS] (s.inc pgTHM Thm.THROTTLE_MS) := (State.Within.refl s).write
  have hsame : s.SameVotes (s.inc pgTHM Thm.THROTTLE_MS) := by
    refine ⟨?_, ?_, ?_⟩
    · rw [State.votes, hset.fld (by decide), hset.fld (by decide), hset.fld (by decide), hset.fld (by decide), hset.fld (by decide), State.votes]
    · rw [State.tDie, hset.fld (by decide), State.tDie]
    · rw [State.tAnalog, hset.fld (by decide), State.tAnalog]
  unfold State.throttleMs
  split
  · exact ⟨hsame, State.setReg_thm _ _ _ _, State.setReg_pwr _ _ _ _, hset⟩
  · exact ⟨⟨rfl, rfl, rfl⟩, rfl, rfl, .refl s⟩

theorem State.shutdownCheck_cool (h : s.votes.all (fun x => decide (x < 2528)) = true) (ha : s.tAnalog < 2528) : s.shutdownCheck = s := by
  refine if_neg ?_
  simp only [State.mustShutDown, Bool.or_eq_true, List.any_eq_true, decide_eq_true_eq, not_or, not_exists, not_and, not_le]
  simp only [List.all_eq_true, decide_eq_true_eq] at h
  exact ⟨h, ha⟩

theorem State.shutdownCheck_hot (h : (∃ x ∈ s.votes, 2528 ≤ x) ∨ 2528 ≤ s.tAnalog) : s.shutdownCheck = s.thermalShutdown := by
  refine if_pos ?_
  simpa only [State.mustShutDown, Bool.or_eq_true, List.any_eq_true, decide_eq_true_eq] using h

/-- The die is held in reset with VCORE off. -/
def State.dieStopped : State :=
  { s with
    pwr := { s.pwr with phase := .shutdown, coreOn := false, ioOn := true }
    tln := { s.tln with stopped := true }
    dev := { s.dev with faultN := true } }

theorem State.thermalShutdown_eq : s.thermalShutdown
    = (((s.openDie.modThm (fun x => { x with thresh := 4 })).sendThermal.shutdownRecord).hardReset false 0x20).dieStopped.pinsRefresh := rfl

theorem State.dieStopped_leaves : s.dieStopped.pwr.phase = .shutdown ∧ s.dieStopped.pwr.coreOn = false ∧ s.dieStopped.dev.faultN = true :=
  ⟨rfl, rfl, rfl⟩

theorem State.thermalShutdown_leaves : s.thermalShutdown.pwr.phase = .shutdown ∧ s.thermalShutdown.pwr.coreOn = false ∧
    s.thermalShutdown.dev.faultN = true := by
  rw [s.thermalShutdown_eq]
  generalize ((s.openDie.modThm (fun x => { x with thresh := 4 })).sendThermal.shutdownRecord).hardReset false 0x20 = b
  have h := State.pinsRefresh_keeps (b.dieStopped.keeps_parts 0x100000080) (Keep.off_of_and (by decide))
  rw [h.pwr_eq, h.dev_eq]
  exact b.dieStopped_leaves

/-- A round before the check of the shutdown. -/
def State.roundDone (t : Thermals) : State := ((s.judged t).loadVotes t).throttleMs.zoneRefresh

theorem State.roundDone_leaves {t : Thermals} (h : ∀ k, k < 5 → -32768 ≤ (s.judged t).voteOf t k ∧ (s.judged t).voteOf t k < 32768) :
    (s.roundDone t).votes = (List.range 5).map ((s.judged t).voteOf t) ∧ (s.roundDone t).tDie = (s.judged t).dieVote t ∧
    (s.roundDone t).tAnalog = s.tAnalog ∧ (s.roundDone t).thm.apart = (s.judged t).thm.apart ∧ (s.roundDone t).pwr = s.pwr := by
  have hjudged : s.SameVotes (s.judged t) := (s.judged_within t).sameVotes
  obtain ⟨hvotes, hdie, hanalog, hapart, hpwr⟩ := (s.judged t).loadVotes_leaves t h
  obtain ⟨hsame, hthm, hpwr', -⟩ := ((s.judged t).loadVotes t).throttleMs_leaves
  have hzone := ((s.judged t).loadVotes t).throttleMs.zoneRefresh_within.sameVotes
  obtain ⟨hpwr'', -⟩ := ((s.judged t).loadVotes t).throttleMs.zoneRefresh_parts
  have hall := hsame.trans hzone
  refine ⟨hall.votes.trans hvotes, hall.die.trans hdie, hall.analog.trans (hanalog.trans hjudged.analog), ?_, ?_⟩
  · rw [State.roundDone, State.apart_zoneRefresh, hthm, hapart]
  · rw [State.roundDone, hpwr'', hpwr', hpwr, s.pwr_judged]

theorem State.roundDone_start (t : Thermals) : (s.roundDone t).reg pgSYS Sys.START_STEP = s.reg pgSYS Sys.START_STEP := by
  obtain ⟨-, -, -, hms⟩ := ((s.judged t).loadVotes t).throttleMs_leaves
  rw [State.roundDone, (State.zoneRefresh_within _).reg (by decide), hms.reg (by decide), (State.loadVotes_within _ _).reg (by decide),
    State.judged, (s.judged_within t).reg (by decide)]

/-- A start that waits for no measurement goes on as it was. -/
theorem State.startRoot_past (h : s.aclkRuns = false ∨ s.startStep ≠ 5) : s.startRoot = s := by
  refine if_pos ?_
  rcases h with h | h <;> simp [h]

theorem State.releaseHold_none (h : s.aclkRuns = false ∨ s.lowHeld = false) : s.releaseHold = s := by
  refine if_neg ?_
  rcases h with h | h <;> simp [h]

end

section
variable {s a : State}

theorem State.thermalMeasure_reached {t : Thermals} (haclk : s.aclkRuns = true) (hruns : s.timeRuns = true)
    (h : s.reachTick tickThermal MS 0 = some a) : s.thermalMeasure t = a.measureNow t := by
  unfold State.thermalMeasure
  rw [if_neg (by simp [haclk]), if_pos hruns, State.atTick_reached h]

/-- Without heat the device stays on with the votes of the round. -/
theorem State.thermalMeasure_cool {t : Thermals} (haclk : s.aclkRuns = true) (hruns : s.timeRuns = true) (hstep : s.startStep ≠ 5)
    (hheld : s.lowHeld = false) (h : s.reachTick tickThermal MS 0 = some a) (hbroken : t.broken = []) (hanalog : a.tAnalog < 2528)
    (hvotes : ∀ k, k < 5 → -32768 ≤ (a.judged t).voteOf t k ∧ (a.judged t).voteOf t k < 2528) :
    exec (.thermalMeasure t) s = .next (a.roundDone t) := by
  have hrange (k : Nat) (hk : k < 5) : -32768 ≤ (a.judged t).voteOf t k ∧ (a.judged t).voteOf t k < 32768 :=
    ⟨(hvotes k hk).1, by have := (hvotes k hk).2; omega⟩
  obtain ⟨hv, -, ha, -, -⟩ := a.roundDone_leaves hrange
  have hcool : (a.roundDone t).shutdownCheck = a.roundDone t := by
    refine State.shutdownCheck_cool _ ?_ (by rw [ha]; exact hanalog)
    rw [hv]
    simp only [List.all_map, List.all_eq_true, List.mem_range, Function.comp_apply, decide_eq_true_eq]
    exact fun k hk => (hvotes k hk).2
  have hreg : (a.roundDone t).reg pgSYS Sys.START_STEP = s.reg pgSYS Sys.START_STEP :=
    (a.roundDone_start t).trans ((State.reachTick_within h).reg (by decide))
  have heq : s.thermalMeasure t = a.roundDone t := by
    rw [State.thermalMeasure_reached haclk hruns h, State.measureNow_eq a hbroken]
    exact hcool
  refine congrArg Host.Outcome.next ?_
  rw [heq, State.startRoot_past _ (.inr (by rw [State.startStep, State.fld, hreg]; exact hstep)),
    State.releaseHold_none _ (.inr (by rw [State.lowHeld, State.flag, hreg]; exact hheld))]

theorem State.aclkRuns_stopped {b : State} (h : b.pwr.phase = .shutdown) : b.aclkRuns = false := by
  rw [State.aclkRuns, h]
  rfl

/-- With a hot vote the device shuts down. -/
theorem State.thermalMeasure_hot {t : Thermals} (haclk : s.aclkRuns = true) (hruns : s.timeRuns = true)
    (h : s.reachTick tickThermal MS 0 = some a) (hbroken : t.broken = [])
    (hrange : ∀ k, k < 5 → -32768 ≤ (a.judged t).voteOf t k ∧ (a.judged t).voteOf t k < 32768)
    (hhot : ∃ k, k < 5 ∧ 2528 ≤ (a.judged t).voteOf t k) :
    exec (.thermalMeasure t) s = .next (a.roundDone t).thermalShutdown := by
  obtain ⟨hv, -, -, -, -⟩ := a.roundDone_leaves hrange
  have hcheck : (a.roundDone t).shutdownCheck = (a.roundDone t).thermalShutdown := by
    obtain ⟨k, hk, hle⟩ := hhot
    refine State.shutdownCheck_hot _ (.inl ⟨(a.judged t).voteOf t k, ?_, hle⟩)
    rw [hv]
    exact List.mem_map_of_mem (List.mem_range.2 hk)
  have hstopped := State.aclkRuns_stopped (a.roundDone t).thermalShutdown_leaves.1
  refine congrArg Host.Outcome.next ?_
  rw [State.thermalMeasure_reached haclk hruns h, State.measureNow_eq a hbroken]
  refine Eq.trans (congrArg (fun b : State => b.startRoot.releaseHold) hcheck) ?_
  rw [State.startRoot_past _ (.inl hstopped), State.releaseHold_none _ (.inl hstopped)]

/-! ### The analog sensor (R634, R642, R643) -/

/-- The analog reading in its register. -/
def State.analogSet (s : State) (v : Int) : State := s.setFld pgTHM Thm.T_CORE_ANALOG (31, 16) (unsign 16 v)

theorem State.analogSet_leaves (s : State) {v : Int} (hv : -32768 ≤ v ∧ v < 32768) : (s.analogSet v).votes = s.votes ∧
    (s.analogSet v).tAnalog = v ∧ (s.analogSet v).pwr = s.pwr ∧ (s.analogSet v).mem = s.mem := by
  have hset : s.Within [fldSpan pgTHM Thm.T_CORE_ANALOG (31, 16)] (s.analogSet v) := (State.Within.refl s).setFld (by decide)
  have hread : (s.analogSet v).tAnalog = v := by
    rw [State.tAnalog, State.analogSet, State.fld_setFld_same]
    exact (signed_mod _).trans (signed_unsign hv.1 hv.2)
  refine ⟨?_, hread, State.setReg_pwr _ _ _ _, State.setReg_mem _ _ _ _⟩
  rw [State.votes, hset.fld (by decide), hset.fld (by decide), hset.fld (by decide), hset.fld (by decide), hset.fldApart (by decide), State.votes]

/-- How many measurements in a row the analog sensor has differed from T_DIE, `v` counted. -/
def State.disagreed (s : State) (v : Int) : Nat :=
  if s.fld pgTHM Thm.T_DIE (15, 0) != 0x8000 && decide (240 < (v - s.tDie).natAbs) then s.thm.disagree + 1 else 0

/-- A sensor that disagrees is reported. -/
def State.disagreeNoted (s : State) (n : Nat) : State :=
  let s3 := s.modThm (fun x => { x with disagree := min 11 n })
  if 11 ≤ n then s3.sensorFault Thm.F_SENSOR_DISAGREE else s3

theorem State.disagreeNoted_leaves (s : State) (n : Nat) : s.SameVotes (s.disagreeNoted n) ∧ (s.disagreeNoted n).pwr = s.pwr ∧
    (s.disagreeNoted n).mem = s.mem := by
  have hthm (f : ThmState → ThmState) : s.Within zoneSpans (s.modThm f) ∧ (s.modThm f).pwr = s.pwr ∧ (s.modThm f).mem = s.mem :=
    ⟨s.modThm_within f, rfl, rfl⟩
  obtain ⟨hwithin, hpwr, hmem⟩ := hthm (fun x => { x with disagree := min 11 n })
  unfold State.disagreeNoted
  dsimp only
  generalize s.modThm (fun x => { x with disagree := min 11 n }) = b at hwithin hpwr hmem ⊢
  have h := State.sensorFault_keeps (n := Thm.F_SENSOR_DISAGREE) (b.keeps_parts 0x100000010) (Keep.off_of_and (by decide))
  split
  · exact ⟨(hwithin.trans (State.sensorFault_within _)).sameVotes, h.pwr_eq.trans hpwr, h.mem_eq.trans hmem⟩
  · exact ⟨hwithin.sameVotes, hpwr, hmem⟩

/-- A broken analog sensor is reported. -/
def State.brokenNoted (s : State) (broken : Bool) : State := if broken then s.sensorFault Thm.F_SENSOR_BROKEN else s

theorem State.brokenNoted_same (s : State) (broken : Bool) : s.SameVotes (s.brokenNoted broken) :=
  ((s.sensorFault_within (by decide)).ite (.refl s)).sameVotes

theorem State.analogMeasure_on (value : Int) (broken : Bool) (hio : s.pwr.ioOn = true) (haclk : s.aclkRuns = true) :
    s.analogMeasure value broken = (((s.analogSet (if broken then HOT else value)).brokenNoted broken).disagreeNoted
      (s.disagreed (if broken then HOT else value))).shutdownCheck := by
  have hphase : s.pwr.phase ≠ .shutdown := by
    intro h
    rw [State.aclkRuns_stopped h] at haclk
    exact Bool.false_ne_true haclk
  unfold State.analogMeasure
  rw [if_neg (by simp [hio]), if_neg hphase, if_neg (by simp [haclk])]
  rfl

theorem State.analogMeasure_stopped (value : Int) (broken : Bool) (hio : s.pwr.ioOn = true) (hphase : s.pwr.phase = .shutdown) :
    s.analogMeasure value broken
      = s.modThm (fun x => { x with cool := if (if broken then HOT else value) ≤ 2080 then x.cool + 1 else 0 }) := by
  unfold State.analogMeasure
  rw [if_neg (by simp [hio]), if_pos hphase]

theorem State.analogMeasure_cool {v : Int} (hio : s.pwr.ioOn = true) (haclk : s.aclkRuns = true)
    (hvotes : s.votes.all (fun x => decide (x < 2528)) = true) (hlow : -32768 ≤ v) (hhigh : v < 2528) :
    (s.analogMeasure v false).tAnalog = v ∧ (s.analogMeasure v false).pwr = s.pwr ∧ (s.analogMeasure v false).mem = s.mem := by
  obtain ⟨hv, ha, hpwr, hmem⟩ := s.analogSet_leaves (v := v) ⟨hlow, by omega⟩
  obtain ⟨hsame, hpwr', hmem'⟩ := (s.analogSet v).disagreeNoted_leaves (s.disagreed v)
  have heq : s.analogMeasure v false = ((s.analogSet v).disagreeNoted (s.disagreed v)).shutdownCheck :=
    State.analogMeasure_on v false hio haclk
  rw [heq, State.shutdownCheck_cool _ (by rw [hsame.votes, hv]; exact hvotes) (by rw [hsame.analog, ha]; exact hhigh)]
  exact ⟨hsame.analog.trans ha, hpwr'.trans hpwr, hmem'.trans hmem⟩

theorem State.analogMeasure_hot {v : Int} {broken : Bool} (hio : s.pwr.ioOn = true) (haclk : s.aclkRuns = true)
    (h : broken = true ∨ (2528 ≤ v ∧ v < 32768)) : (s.analogMeasure v broken).pwr.phase = .shutdown ∧
    (s.analogMeasure v broken).pwr.coreOn = false ∧ (s.analogMeasure v broken).dev.faultN = true := by
  have hvalue : 2528 ≤ (if broken then HOT else v) ∧ (if broken then HOT else v) < 32768 := by
    cases broken with
    | true => exact ⟨show (2528 : Int) ≤ HOT by decide, show HOT < 32768 by decide⟩
    | false => exact h.resolve_left Bool.false_ne_true
  obtain ⟨-, ha, -, -⟩ := s.analogSet_leaves (v := if broken then HOT else v) ⟨by omega, hvalue.2⟩
  rw [State.analogMeasure_on v broken hio haclk]
  generalize (if broken then HOT else v) = value at ha hvalue ⊢
  have hsame := ((s.analogSet value).brokenNoted_same broken).trans
    (((s.analogSet value).brokenNoted broken).disagreeNoted_leaves (s.disagreed value)).1
  rw [State.shutdownCheck_hot _ (.inr (by rw [hsame.analog, ha]; exact hvalue.1))]
  exact State.thermalShutdown_leaves _

/-! ### Throttling (R638, R639) -/

/-- The automatic level of region `n` is `v`. -/
def State.levelSet (s : State) (n v : Nat) : State := s.modThm (fun x => { x with level := Tab.set (fun _ => 0) x.level n v })

theorem State.level_levelSet (s : State) (n v : Nat) : Tab.get (fun _ => 0) (s.setLevel_ n v).thm.level n = v := by
  have heq : s.setLevel_ n v = (s.levelSet n v).throttleRefresh := rfl
  rw [heq, State.thm_throttleRefresh]
  exact Tab.get_set_self _ _ _ _

theorem State.throttleUpdate_hot {n : Nat} (haclk : s.aclkRuns = true) (hhot : s.tooHot n = true)
    (h : s.reachTick (tickRise n) (100 * MS) 0 = some a) : s.throttleUpdate n
      = if Tab.get (fun _ => 0) s.thm.level n < s.fld pgTHM Thm.THM_CTRL (1, 0) then a.setLevel_ n (Tab.get (fun _ => 0) s.thm.level n + 1)
        else a := by
  have hctrl : a.fld pgTHM Thm.THM_CTRL (1, 0) = s.fld pgTHM Thm.THM_CTRL (1, 0) := (State.reachTick_within h).fld (by decide) _
  unfold State.throttleUpdate
  dsimp only
  rw [if_neg (by simp [haclk]), if_pos hhot, State.atTick_reached h, hctrl]

theorem State.throttleUpdate_cooled {n : Nat} (haclk : s.aclkRuns = true) (hhot : s.tooHot n = false) (hcooled : s.cooled n = true)
    (hlevel : 0 < Tab.get (fun _ => 0) s.thm.level n) (h : s.reachTick (tickFall n) (1000 * MS) 0 = some a) :
    s.throttleUpdate n = a.setLevel_ n (Tab.get (fun _ => 0) s.thm.level n - 1) := by
  unfold State.throttleUpdate
  dsimp only
  rw [if_neg (by simp [haclk]), if_neg (by simp [hhot]), if_pos ⟨hcooled, hlevel⟩, State.atTick_reached h]

theorem State.throttleUpdate_none {n : Nat} (haclk : s.aclkRuns = true) (hhot : s.tooHot n = false)
    (h : s.cooled n = false ∨ Tab.get (fun _ => 0) s.thm.level n = 0) : s.throttleUpdate n = s := by
  unfold State.throttleUpdate
  dsimp only
  rw [if_neg (by simp [haclk]), if_neg (by simp [hhot]), if_neg]
  rintro ⟨hcooled, hlevel⟩
  rcases h with h | h
  · exact Bool.false_ne_true (h.symm.trans hcooled)
  · omega

/-! ### DRAM (R644), and the partner (R645) -/

/-- The refresh rates and DRAM_HOT in the registers. -/
def State.dramSet (s : State) (r0 r1 : Nat) (hot : Bool) : State :=
  (s.setNat pgTHM Thm.DRAM_RATE (r0 + 256 * r1)).setSts pgTHM Thm.S_DRAM_HOT (if hot then 1 else 0)

theorem State.dramRate_eq (s : State) (r0 r1 : Nat) (hot : Bool) (haclk : s.aclkRuns = true) (htrained : s.boot.trained = true) :
    s.dramRate r0 r1 hot
      = (if hot && !s.dramHot then (s.dramSet r0 r1 hot).fault pgTHM Thm.F_DRAM_HOT else s.dramSet r0 r1 hot).zoneRefresh := by
  unfold State.dramRate
  rw [if_neg (by simp [haclk, htrained])]
  rfl

theorem State.dramRate_leaves (s : State) {r0 r1 : Nat} (h0 : r0 < 8) (h1 : r1 < 8) (hot : Bool) (haclk : s.aclkRuns = true)
    (htrained : s.boot.trained = true) : (s.dramRate r0 r1 hot).nat pgTHM Thm.DRAM_RATE = r0 + 256 * r1 ∧
      (s.dramRate r0 r1 hot).dramHot = hot ∧ (s.dramRate r0 r1 hot).mem = s.mem := by
  have hrate : (s.dramSet r0 r1 hot).nat pgTHM Thm.DRAM_RATE = r0 + 256 * r1 :=
    (congrArg BitVec.toNat (State.reg_setReg_ne _ _ (by decide))).trans
      ((State.nat_setNat_same _ _ _ _).trans (Nat.mod_eq_of_lt (by omega)))
  have hsts : (s.dramSet r0 r1 hot).dramHot = hot := by
    have hset := State.sts_setSts_self (s.setNat pgTHM Thm.DRAM_RATE (r0 + 256 * r1)) pgTHM (f := Thm.S_DRAM_HOT) (by decide)
      (if hot then 1 else 0)
    rw [State.dramHot, State.dramSet, hset]
    cases hot <;> rfl
  have hmem : (s.dramSet r0 r1 hot).mem = s.mem := by
    rw [State.dramSet, State.setSts, State.setFld, State.setReg_mem, State.setNat_eq, State.setReg_mem]
  rw [s.dramRate_eq r0 r1 hot haclk htrained]
  generalize s.dramSet r0 r1 hot = b at hrate hsts hmem ⊢
  have hfault : b.Within zoneSpans (if hot && !s.dramHot then b.fault pgTHM Thm.F_DRAM_HOT else b) := (b.thmFault_within).ite (.refl b)
  have hmem' : (if hot && !s.dramHot then b.fault pgTHM Thm.F_DRAM_HOT else b).mem = b.mem := by
    split
    · exact b.mem_fault _ _
    · rfl
  generalize (if hot && !s.dramHot then b.fault pgTHM Thm.F_DRAM_HOT else b) = c at hfault hmem' ⊢
  have hzone := hfault.trans c.zoneRefresh_within
  refine ⟨(hzone.nat (by decide)).trans hrate, ?_, c.zoneRefresh_parts.2.trans (hmem'.trans hmem)⟩
  rw [State.dramHot, hzone.stsApart (by decide)]
  exact hsts

theorem State.unacked_tsxQueue (s : State) (type plane : Nat) (payload : List Byte) : (s.tsxQueue type plane payload).red.unacked
    = s.red.unacked ++ [⟨s.red.txNext, type, plane, s.nat pgRED Red.SYNC_GEN, payload, 0⟩] := by
  have hput (a : State) (lane : Nat) (f : TsxFrame) : (a.tsxPut lane f).tsxBacklog.red = a.red :=
    (State.setReg_red _ _ _ _).trans ((State.red_count _ _ _).trans (State.setReg_red _ _ _ _))
  unfold State.tsxQueue
  dsimp only
  rw [hput]

theorem State.unacked_tsxSend (type plane : Nat) (payload : List Byte) (hlink : s.linkUp = true)
    (hroom : s.red.unacked.length < 1023 ∨ s.stileHeld = false) : (s.tsxSend type plane payload).red.unacked
      = s.red.unacked ++ [⟨s.red.txNext, type, plane, s.nat pgRED Red.SYNC_GEN, payload, 0⟩] := by
  have hlength : ¬(1024 ≤ (s.tsxQueue type plane payload).red.unacked.length ∧ s.stileHeld = true) := by
    rintro ⟨hfull, hheld⟩
    rw [State.unacked_tsxQueue, List.length_append, List.length_singleton] at hfull
    rcases hroom with h | h
    · omega
    · exact Bool.false_ne_true (h.symm.trans hheld)
  unfold State.tsxSend
  dsimp only
  rw [if_neg (by simp [hlink]), if_neg hlength, State.unacked_tsxQueue]

theorem State.tsxSend_down (type plane : Nat) (payload : List Byte) (hlink : s.linkUp = false) : s.tsxSend type plane payload = s :=
  if_pos (by simp [hlink])

theorem State.thermalRestart_cool (hphase : s.pwr.phase = .shutdown) (hcool : 101 ≤ s.thm.cool) :
    s.thermalRestart = s.setPwr { s.pwr with phase := .coreRising, target := 4, coreOn := true } := if_pos ⟨hphase, hcool⟩

theorem State.thermalRestart_waits (hcool : s.thm.cool < 101) : s.thermalRestart = s := if_neg fun h => absurd h.2 (by omega)

end

end Sys2Proof.Machine
open Sys2Proof Sys2Proof.Machine

/-- Settles O47: the round with and without heat, the analog sensor, the restart, the levels, the DRAM rates, and the message. -/
theorem temperatureActs : Obligations.TemperatureActs := by
  unfold Obligations.TemperatureActs
  refine ⟨fun s a th haclk hruns hstep hheld h hbroken hanalog => ⟨fun hvotes => ?_, fun hrange hhot => ?_⟩,
    fun s v broken hio => ⟨fun haclk hvotes hbroken hlow hhigh => ?_, fun haclk h => ?_, fun hphase => ?_⟩,
    fun s hphase => ⟨fun hcool => ?_, fun hcool => ?_⟩,
    fun s a n haclk => ⟨fun hhot h hlevel => ?_, fun hhot h hlevel => ?_, fun hhot hcooled hlevel h => ?_, fun hhot h => ?_⟩,
    fun s r0 r1 hot haclk htrained => ⟨_, rfl, s.dramRate_leaves r0.isLt r1.isLt hot haclk htrained⟩,
    fun s haclk => ⟨fun hlink hroom => ?_, fun hlink => ?_⟩⟩
  · obtain ⟨hv, hdie, -, hapart, hpwr⟩ := a.roundDone_leaves (t := th) fun k hk =>
      ⟨(hvotes k hk).1, by have := (hvotes k hk).2; exact Int.lt_trans this (by decide)⟩
    refine ⟨_, State.thermalMeasure_cool haclk hruns hstep hheld h hbroken hanalog hvotes, hv, hdie, hapart, ?_⟩
    rw [State.aclkRuns, hpwr, (State.reachTick_parts h).1]
    exact haclk
  · exact ⟨_, State.thermalMeasure_hot haclk hruns h hbroken hrange hhot, State.thermalShutdown_leaves _⟩
  · subst hbroken
    exact ⟨_, rfl, State.analogMeasure_cool hio haclk hvotes hlow hhigh⟩
  · exact ⟨_, rfl, State.analogMeasure_hot hio haclk h⟩
  · exact ⟨_, congrArg Host.Outcome.next (State.analogMeasure_stopped v broken hio hphase), rfl, rfl⟩
  · exact ⟨_, congrArg Host.Outcome.next (State.thermalRestart_cool hphase hcool), rfl, rfl, rfl⟩
  · exact congrArg Host.Outcome.next (State.thermalRestart_waits hcool)
  · refine ⟨_, congrArg Host.Outcome.next (State.throttleUpdate_hot haclk hhot h), ?_⟩
    rw [if_pos hlevel]
    exact State.level_levelSet _ _ _
  · refine congrArg Host.Outcome.next ((State.throttleUpdate_hot haclk hhot h).trans ?_)
    exact if_neg (Nat.not_lt.2 hlevel)
  · exact ⟨_, congrArg Host.Outcome.next (State.throttleUpdate_cooled haclk hhot hcooled hlevel h), State.level_levelSet _ _ _⟩
  · exact congrArg Host.Outcome.next (State.throttleUpdate_none haclk hhot h)
  · exact ⟨_, congrArg Host.Outcome.next (if_pos haclk), State.unacked_tsxSend _ _ _ hlink hroom⟩
  · exact congrArg Host.Outcome.next ((if_pos haclk).trans (State.tsxSend_down _ _ _ hlink))

end

section
/-!
Margins, VCORE, redundant elements, calibration runs and overrides (R646 to R659): what their parts leave.
-/
set_option Elab.async false
namespace Sys2Proof.Machine

/-! ### Calibration apart from the number of the next history record -/

/-- The calibration state apart from the history's number. -/
def CalState.held (c : CalState) : CalState := { c with nextSeq := 0 }

/-- The calibration state is as before but for the history's number. -/
structure State.SameCal (s t : State) : Prop where
  same : t.cal.held = s.cal.held

section
variable {s t u : State}

theorem State.SameCal.refl (s : State) : s.SameCal s := ⟨rfl⟩
theorem State.SameCal.trans (h : s.SameCal t) (g : t.SameCal u) : s.SameCal u := ⟨g.same.trans h.same⟩
theorem State.SameCal.upd (h : s.SameCal t) (hcal : u.cal = t.cal) : s.SameCal u := ⟨(congrArg CalState.held hcal).trans h.same⟩
theorem State.SameCal.chain (h : s.SameCal t) : t.cal.chain = s.cal.chain :=
  show t.cal.held.chain = s.cal.held.chain from congrArg CalState.chain h.same
theorem State.SameCal.pair (h : s.SameCal t) : t.cal.pair = s.cal.pair :=
  show t.cal.held.pair = s.cal.held.pair from congrArg CalState.pair h.same
theorem State.SameCal.vref (h : s.SameCal t) : t.cal.vref = s.cal.vref :=
  show t.cal.held.vref = s.cal.held.vref from congrArg CalState.vref h.same
theorem State.SameCal.forced (h : s.SameCal t) : t.cal.forced = s.cal.forced :=
  show t.cal.held.forced = s.cal.held.forced from congrArg CalState.forced h.same
theorem State.SameCal.run (h : s.SameCal t) : t.cal.run = s.cal.run :=
  show t.cal.held.run = s.cal.held.run from congrArg CalState.run h.same
theorem State.SameCal.analog (h : s.SameCal t) : t.cal.analog = s.cal.analog :=
  show t.cal.held.analog = s.cal.held.analog from congrArg CalState.analog h.same

end

section
variable (s : State)

theorem State.modCal_within {l : List Span} (f : CalState → CalState) : s.Within l (s.modCal f) := (State.Within.refl s).upd rfl

theorem State.cal_irq (k : Nat) : (s.irq k).cal = s.cal :=
  (State.irq_keeps (s.keeps_parts 0x1000000000) (Keep.off_of_and (by decide))).cal_eq

theorem State.cal_fault (page n : Nat) : (s.fault page n).cal = s.cal :=
  (State.fault_keeps (s.keeps_parts 0x1000000000) (Keep.off_of_and (by decide))).cal_eq

theorem State.cal_trigger (code page : Nat) : (s.trigger code page).cal = s.cal :=
  (State.trigger_keeps (s.keeps_parts 0x1000000000) (Keep.off_of_and (by decide))).cal_eq

theorem State.cal_counted : s.counted.cal = s.cal :=
  (State.count_keeps (s.keeps_parts 0x1000000000) (Keep.off_of_and (by decide))).cal_eq

/-- The history's number moves on. -/
def State.historyNext : State := s.modCal (fun c => { c with nextSeq := (c.nextSeq + 1) % 2 ^ 32 })

theorem State.writeHistory_eq (kind : Nat) : s.writeHistory kind = (s.setBytes (historyAt s.cal.nextSeq)
    (putAt (s.historyBody kind) 0xFC (leBytes 4 (crc32c (s.historyBody kind)).toNat))).historyNext := by
  unfold State.writeHistory
  extract_lets l
  rfl

theorem State.historyNext_cal : s.SameCal s.historyNext := ⟨rfl⟩

theorem State.writeHistory_cal (kind : Nat) : s.SameCal (s.writeHistory kind) := by
  rw [s.writeHistory_eq]
  generalize putAt (s.historyBody kind) 0xFC (leBytes 4 (crc32c (s.historyBody kind)).toNat) = l
  have hset : s.SameCal (s.setBytes (historyAt s.cal.nextSeq) l) :=
    (State.SameCal.refl s).upd (State.setBytes_keeps (s.keeps_parts 0x1000000000) (Keep.off_of_and (by decide))).cal_eq
  exact hset.trans (State.historyNext_cal _)

/-- A fault of CAL. -/
theorem State.calFault_within {l : List Span} {n : Nat} (hn : n < 32) (hmem : fldSpan pgCAL PAGE_FAULT (n, n) ∈ l) (hirq : irqSpans ⊆ l) :
    s.Within l (s.fault pgCAL n) := (State.Within.refl s).faultBit pageInfo_pgCAL rfl hmem hirq hn

theorem State.flag_calFault {n : Nat} (hn : n < 32) : (s.fault pgCAL n).flag pgCAL PAGE_FAULT n = true :=
  State.flag_fault s pageInfo_pgCAL rfl hn (by decide)

/-! ### Margins and wait cycles (R646, R648) -/

/-- What steps of VCORE and ageing floors may write. -/
abbrev stepSpans : List Span := regSpan pgCAL Cal.VCORE_SET :: fldSpan pgCAL PAGE_STATUS Cal.S_AT_VMAX ::
  fldSpan pgCAL PAGE_STATUS Cal.S_AVS_BUSY :: regSpan pgCAL Cal.AVS_STEPS :: fldSpan pgCAL PAGE_FAULT (Cal.F_AGE_LIMIT, Cal.F_AGE_LIMIT) ::
  trigSpans

theorem trigSpans_subset_step : trigSpans ⊆ stepSpans := by decide
theorem irqSpans_subset_step : irqSpans ⊆ stepSpans := by decide

theorem State.setVcore_within (mv : Nat) : s.Within stepSpans (s.setVcore mv) := ((State.Within.refl s).write).setSts (by decide)

theorem State.askVcore_within (mv : Nat) : s.Within stepSpans (s.askVcore mv) := by
  have hcal (a : State) (f : CalState → CalState) : a.Within stepSpans (a.modCal f) := a.modCal_within f
  exact ((s.setVcore_within mv).trans (hcal _ _)).setSts (by decide)

theorem State.avsStep_within (mv : Nat) : s.Within stepSpans (s.avsStep mv) :=
  (((s.askVcore_within mv).write).andThen (State.trigger_within _ _ _) trigSpans_subset_step).trans (State.writeHistory_within _ _)

theorem State.replan_within : s.Within stepSpans s.replan := by
  have hcal (a : State) (f : CalState → CalState) : a.Within stepSpans (a.modCal f) := a.modCal_within f
  unfold State.replan
  extract_lets now set step areas s1
  have h1 : s.Within stepSpans s1 := hcal _ _
  exact h1.ite ((h1.trans (State.avsStep_within _ _)).ite (((h1.trans (hcal _ _)).trans (State.avsStep_within _ _)).ite h1))

theorem State.ageFloor_within (a : Nat) : s.Within stepSpans (s.ageFloor a) := by
  have hcal (b : State) (f : CalState → CalState) : b.Within stepSpans (b.modCal f) := b.modCal_within f
  have hage (b : State) : b.Within stepSpans (b.calFault Cal.F_AGE_LIMIT (some 0x821)) :=
    (State.Within.refl b).ite ((b.calFault_within (by decide) (by decide) irqSpans_subset_step).andThen (State.trigger_within _ _ _)
      trigSpans_subset_step)
  unfold State.ageFloor
  extract_lets m now on since s1
  have h1 : s.Within stepSpans s1 := hcal _ _
  exact ((h1.trans (hage _)).trans (hcal _ _)).ite ((h1.trans (hcal _ _)).ite h1)

/-- Whether a PLU waits after a measurement of its slack. -/
def State.waits (slack : Nat) (was : Bool) : Bool := if slack < s.marginLow then true else if s.marginLow + 10 < slack then false else was

theorem State.pluWait_eq (i slack : Nat) : s.pluWait i slack
    = if s.waits slack (s.flag pgCAL Cal.PLU_WAIT i) = s.flag pgCAL Cal.PLU_WAIT i then s
      else (s.setFlag pgCAL Cal.PLU_WAIT i (s.waits slack (s.flag pgCAL Cal.PLU_WAIT i))).setFlag (pgPLU i) PAGE_STATUS 17
        (s.waits slack (s.flag pgCAL Cal.PLU_WAIT i)) := rfl

theorem State.flag_setFlag_any (page off : Nat) {n : Nat} (hn : n < 32) (b : Bool) : (s.setFlag page off n b).flag page off n = b := by
  cases b
  · exact s.flag_setFlag_clear page off hn
  · exact s.flag_setFlag_self page off hn

theorem regKey_plu_ne {i off : Nat} (hi : i < 32) (hoff : off < 0x1000) : regKey pgCAL off ≠ regKey (pgPLU i) PAGE_STATUS := by
  simp only [regKey, pgCAL, pgPLU, PAGE_STATUS]
  omega

theorem State.pluWait_reg {i off : Nat} (hi : i < 32) (slack : Nat) (hoff : off < 0x1000) (hne : off ≠ Cal.PLU_WAIT) :
    (s.pluWait i slack).reg pgCAL off = s.reg pgCAL off := by
  rw [s.pluWait_eq]
  split
  · rfl
  · rw [State.setFlag_eq, State.reg_setReg_ne _ _ (regKey_plu_ne hi hoff), State.setFlag_eq, State.reg_setReg_ne]
    simp only [regKey]
    omega

theorem State.pluWait_flag {i j : Nat} (hi : i < 32) (slack : Nat) : (s.pluWait i slack).flag pgCAL Cal.PLU_WAIT j
    = if j = i then s.waits slack (s.flag pgCAL Cal.PLU_WAIT i) else s.flag pgCAL Cal.PLU_WAIT j := by
  have hplu (a : State) (b : Bool) : (a.setFlag (pgPLU i) PAGE_STATUS 17 b).flag pgCAL Cal.PLU_WAIT j = a.flag pgCAL Cal.PLU_WAIT j := by
    rw [State.flag, State.setFlag_eq, State.reg_setReg_ne _ _ (regKey_plu_ne hi (by decide)), State.flag]
  rw [s.pluWait_eq]
  split
  · next hsame =>
    split
    · next hj => rw [hj, hsame]
    · rfl
  · rw [hplu]
    split
    · next hj => rw [hj, State.flag_setFlag_any _ _ _ hi]
    · next hj => exact State.flag_setFlag_of_ne _ _ _ hi hj _

/-- The wait cycles of the PLUs measured so far. -/
theorem State.pluWaits_leaves (slack : Nat → Nat) (n : Nat) (hn : n ≤ 32) :
    (∀ off, off < 0x1000 → off ≠ Cal.PLU_WAIT → ((List.range n).foldl (fun a i => a.pluWait i (slack i)) s).reg pgCAL off = s.reg pgCAL off) ∧
    ∀ j, ((List.range n).foldl (fun a i => a.pluWait i (slack i)) s).flag pgCAL Cal.PLU_WAIT j
      = if j < n then s.waits (slack j) (s.flag pgCAL Cal.PLU_WAIT j) else s.flag pgCAL Cal.PLU_WAIT j := by
  induction n with
  | zero => exact ⟨fun _ _ _ => rfl, fun _ => rfl⟩
  | succ n ih =>
    obtain ⟨hreg, hflag⟩ := ih (by omega)
    rw [List.range_succ, List.foldl_append, List.foldl_cons, List.foldl_nil]
    generalize (List.range n).foldl (fun a i => a.pluWait i (slack i)) s = b at hreg hflag ⊢
    have hlow : b.marginLow = s.marginLow := congrArg (bits · (7, 0)) (hreg Cal.MARGIN_CFG (by decide) (by decide))
    have hwaits (k : Nat) (w : Bool) : b.waits k w = s.waits k w := by rw [State.waits, hlow, State.waits]
    refine ⟨fun off ho hne => (b.pluWait_reg (by omega) _ ho hne).trans (hreg off ho hne), fun j => ?_⟩
    rw [b.pluWait_flag (by omega), hflag, hflag, hwaits, if_neg (Nat.lt_irrefl n)]
    by_cases hj : j = n
    · rw [if_pos hj, if_pos (by omega), hj]
    · rw [if_neg hj]
      by_cases hlt : j < n
      · rw [if_pos hlt, if_pos (by omega)]
      · rw [if_neg hlt, if_neg (by omega)]

theorem packFields_lt (w : Nat) (f : Nat → Nat) (n : Nat) : packFields w f n < 2 ^ (w * n) := by
  induction n with
  | zero => exact Nat.one_pos
  | succ n ih =>
    have hmod : f n % 2 ^ w < 2 ^ w := Nat.mod_lt _ (Nat.two_pow_pos w)
    have hmul : (f n % 2 ^ w + 1) * 2 ^ (w * n) ≤ 2 ^ w * 2 ^ (w * n) := Nat.mul_le_mul_right _ hmod
    have hpow : 2 ^ w * 2 ^ (w * n) = 2 ^ (w * (n + 1)) := by rw [← Nat.pow_add, Nat.mul_succ, Nat.add_comm]
    rw [packFields]
    rw [Nat.add_mul, Nat.one_mul, hpow] at hmul
    omega

/-- The margins in their registers. -/
def State.marginsSet (slack : List Nat) : State :=
  (s.setNat pgCAL Cal.MARGIN (packFields 8 (fun a => min 255 (slack.getD a 255)) 4)).setNat pgCAL Cal.MARGIN_CORE (min 255 (slack.getD 4 255))

/-- The wait cycles after a measurement. -/
def State.waitsSet (plus : List Nat) : State := (List.range 32).foldl (fun a i => a.pluWait i (plus.getD i 255)) s

/-- The steps and ageing floors after a measurement. -/
def State.agesSet : State := (List.range 5).foldl State.ageFloor s.replan

theorem State.marginMeasure_eq (slack plus : List Nat) : s.marginMeasure slack plus = ((s.marginsSet slack).waitsSet plus).agesSet := rfl

theorem State.agesSet_within : s.Within stepSpans s.agesSet := s.replan_within.foldl fun a _ b => b.ageFloor_within a

theorem State.marginsSet_leaves (slack : List Nat) :
    (s.marginsSet slack).nat pgCAL Cal.MARGIN = packFields 8 (fun k => min 255 (slack.getD k 255)) 4 ∧
    (s.marginsSet slack).nat pgCAL Cal.MARGIN_CORE = min 255 (slack.getD 4 255) ∧ (s.marginsSet slack).marginLow = s.marginLow ∧
    ∀ j, (s.marginsSet slack).flag pgCAL Cal.PLU_WAIT j = s.flag pgCAL Cal.PLU_WAIT j := by
  have hlt := packFields_lt 8 (fun k => min 255 (slack.getD k 255)) 4
  have hset : s.Within [regSpan pgCAL Cal.MARGIN, regSpan pgCAL Cal.MARGIN_CORE] (s.marginsSet slack) := ((State.Within.refl s).write).write
  refine ⟨?_, (State.nat_setNat_same _ _ _ _).trans (Nat.mod_eq_of_lt (by omega)), hset.fld (by decide) _, fun j => hset.flag (by decide) j⟩
  exact (congrArg BitVec.toNat (State.reg_setReg_ne _ _ (by decide))).trans ((State.nat_setNat_same _ _ _ _).trans (Nat.mod_eq_of_lt hlt))

/-- A measurement of margins as it stands in the registers. -/
theorem State.marginMeasure_leaves (slack plus : List Nat) :
    let t := (s.marginMeasure slack plus).throttleRefresh
    t.nat pgCAL Cal.MARGIN_CORE = min 255 (slack.getD 4 255) ∧
      t.nat pgCAL Cal.MARGIN = packFields 8 (fun k => min 255 (slack.getD k 255)) 4 ∧
      ∀ i, i < 32 → t.flag pgCAL Cal.PLU_WAIT i = s.waits (plus.getD i 255) (s.flag pgCAL Cal.PLU_WAIT i) := by
  obtain ⟨hmargin, hcore, hlow, hflags⟩ := s.marginsSet_leaves slack
  obtain ⟨hreg, hflag⟩ := (s.marginsSet slack).pluWaits_leaves (fun i => plus.getD i 255) 32 (Nat.le_refl _)
  dsimp only
  rw [s.marginMeasure_eq]
  have hfold : (List.range 32).foldl (fun a i => a.pluWait i (plus.getD i 255)) (s.marginsSet slack) = (s.marginsSet slack).waitsSet plus := rfl
  rw [hfold] at hreg hflag
  generalize (s.marginsSet slack).waitsSet plus = b at hreg hflag ⊢
  have hages := b.agesSet_within
  have hzone := b.agesSet.throttleRefresh_within
  refine ⟨?_, ?_, fun i hi => ?_⟩
  · rw [hzone.nat (by decide), hages.nat (by decide), State.nat, hreg _ (by decide) (by decide)]
    exact hcore
  · rw [hzone.nat (by decide), hages.nat (by decide), State.nat, hreg _ (by decide) (by decide)]
    exact hmargin
  · rw [hzone.flag (by decide), hages.flag (by decide), hflag, if_pos hi, hflags, State.waits, hlow, State.waits]

end

end Sys2Proof.Machine
end

section
/-!
VCORE requests, chains, runs and overrides of calibration (R650 to R659): O48.
-/
set_option Elab.async false
namespace Sys2Proof.Machine

section
variable (s : State)

/-- A trigger of CAL's recorder code, as the spans it may write. -/
theorem State.reg_calTrigger (code : Nat) {off : Nat} (hk : clearOf trigSpans (regKey pgCAL off)) :
    (s.trigger code pgCAL).reg pgCAL off = s.reg pgCAL off := (s.trigger_within code pgCAL).reg hk

theorem State.cal_modCal (f : CalState → CalState) : (s.modCal f).cal = f s.cal := rfl

theorem State.cal_setSts (page : Nat) (f : Field) (n : Nat) : (s.setSts page f n).cal = s.cal := State.setReg_cal s _ _ _

/-! ### VCORE requests (R650) -/

/-- The reading of VCORE enters its register. -/
def State.vcoreRead (mv ma : Nat) : State := s.setNat pgCAL Cal.VCORE_READ (mv % 1024 + 2 ^ 16 * (ma % 2 ^ 16))

/-- A VCORE request is over, with or without an error. -/
def State.avsOver (failed : Bool) : State :=
  (s.modCal (fun c => { c with avsStopped := failed || c.avsStopped, avsAsked := none })).setSts pgCAL Cal.S_AVS_BUSY 0

theorem State.avsError_eq : s.avsError = (s.avsOver true).fault pgCAL Cal.F_AVS_ERROR := rfl

theorem State.avsOver_cal (failed : Bool) : (s.avsOver failed).cal = { s.cal with avsStopped := failed || s.cal.avsStopped, avsAsked := none } := by
  rw [State.avsOver, State.cal_setSts, State.cal_modCal]

theorem State.sts_avsOver (failed : Bool) : (s.avsOver failed).sts pgCAL Cal.S_AVS_BUSY = 0 :=
  State.sts_setSts_self _ _ (by decide) 0

theorem State.avsError_leaves : s.avsError.cal.avsStopped = true ∧ s.avsError.cal.avsAsked = none ∧
    s.avsError.sts pgCAL Cal.S_AVS_BUSY = 0 ∧ s.avsError.flag pgCAL PAGE_FAULT Cal.F_AVS_ERROR = true := by
  have hcal : s.avsError.cal = (s.avsOver true).cal := (congrArg State.cal s.avsError_eq).trans (State.cal_fault _ _ _)
  have hover := s.avsOver_cal true
  have hwithin : (s.avsOver true).Within (fldSpan pgCAL PAGE_FAULT (Cal.F_AVS_ERROR, Cal.F_AVS_ERROR) :: irqSpans) s.avsError :=
    State.calFault_within _ (by decide) (by decide) (by decide)
  refine ⟨?_, ?_, (hwithin.sts (by decide) _).trans (s.sts_avsOver true), State.flag_calFault _ (by decide)⟩
  · rw [hcal, hover, Bool.true_or]
  · rw [hcal, hover]

theorem State.avsFailed_leaves (mv ma : Nat) : let t := ((s.vcoreRead mv ma).avsError).trigger 0x823 pgCAL
    t.cal.avsStopped = true ∧ t.cal.avsAsked = none ∧ t.sts pgCAL Cal.S_AVS_BUSY = 0 ∧
      t.flag pgCAL PAGE_FAULT Cal.F_AVS_ERROR = true := by
  obtain ⟨hstopped, hasked, hbusy, hflag⟩ := (s.vcoreRead mv ma).avsError_leaves
  dsimp only
  generalize (s.vcoreRead mv ma).avsError = a at hstopped hasked hbusy hflag ⊢
  have htrig := a.trigger_within 0x823 pgCAL
  rw [a.cal_trigger]
  exact ⟨hstopped, hasked, (htrig.sts (by decide) _).trans hbusy, (htrig.flag (by decide) _).trans hflag⟩

/-- A VCORE request settles. -/
def State.avsSettled (mv ma : Nat) : State :=
  (((s.vcoreRead mv ma).modCal (fun c => { c with avsAsked := none })).setSts pgCAL Cal.S_AVS_BUSY 0).irq 42

theorem State.avsSettled_leaves (mv ma : Nat) : (s.avsSettled mv ma).cal.avsAsked = none ∧ (s.avsSettled mv ma).sts pgCAL Cal.S_AVS_BUSY = 0 ∧
    (s.avsSettled mv ma).nat pgCAL Cal.VCORE_READ = mv % 1024 + 2 ^ 16 * (ma % 2 ^ 16) := by
  have hread : (s.vcoreRead mv ma).nat pgCAL Cal.VCORE_READ = mv % 1024 + 2 ^ 16 * (ma % 2 ^ 16) :=
    (State.nat_setNat_same _ _ _ _).trans (Nat.mod_eq_of_lt (by omega))
  unfold State.avsSettled
  generalize s.vcoreRead mv ma = a at hread ⊢
  have hcal : ((a.modCal (fun c => { c with avsAsked := none })).setSts pgCAL Cal.S_AVS_BUSY 0).cal = { a.cal with avsAsked := none } := by
    rw [State.cal_setSts, State.cal_modCal]
  have hbusy : ((a.modCal (fun c => { c with avsAsked := none })).setSts pgCAL Cal.S_AVS_BUSY 0).sts pgCAL Cal.S_AVS_BUSY = 0 :=
    State.sts_setSts_self _ _ (by decide) 0
  have hset : a.Within [regSpan pgCAL PAGE_STATUS] ((a.modCal (fun c => { c with avsAsked := none })).setSts pgCAL Cal.S_AVS_BUSY 0) :=
    (a.modCal_within _).write
  generalize (a.modCal (fun c => { c with avsAsked := none })).setSts pgCAL Cal.S_AVS_BUSY 0 = b at hcal hbusy hset ⊢
  have hirq := State.irq_within (s := b) 42
  refine ⟨by rw [b.cal_irq, hcal], (hirq.sts (by decide) _).trans hbusy, (hirq.nat (by decide)).trans ((hset.nat (by decide)).trans hread)⟩

section
variable {s} {t0 : Nat} (hask : s.cal.avsAsked = some t0) (mv ma : Nat)
include hask

theorem State.avsSettle_error : s.avsSettle mv ma true = ((s.vcoreRead mv ma).avsError).trigger 0x823 pgCAL := by
  unfold State.avsSettle State.vcoreRead
  rw [hask]
  dsimp only
  rw [if_pos rfl]

theorem State.avsSettle_near {a : State} (hruns : s.timeRuns = true)
    (hnear : ((mv : Int) - s.fld pgCAL Cal.VCORE_SET (9, 0)).natAbs ≤ 10) (h : s.reach (t0 + 200000 * NS) = some a) :
    s.avsSettle mv ma false = a.avsSettled mv ma := by
  unfold State.avsSettle State.avsSettled State.vcoreRead
  rw [hask]
  dsimp only
  rw [if_neg Bool.false_ne_true, if_pos (decide_eq_true hnear), State.atOrNow, if_pos hruns, State.atTime_reached h]

theorem State.avsSettle_far {a : State} (hruns : s.timeRuns = true)
    (hfar : 10 < ((mv : Int) - s.fld pgCAL Cal.VCORE_SET (9, 0)).natAbs) (h : s.reach (t0 + 1000000 * NS) = some a) :
    s.avsSettle mv ma false = ((a.vcoreRead mv ma).avsError).trigger 0x823 pgCAL := by
  unfold State.avsSettle State.vcoreRead
  rw [hask]
  dsimp only
  rw [if_neg Bool.false_ne_true, if_neg (by simp; omega), State.atOrNow, if_pos hruns, State.atTime_reached h]

end

/-! ### Chains (R652, R654) -/

/-- The place of the smallest value after `n` places: the first one once it is among them, and an earlier place before. -/
theorem leastAt_upTo {e : Nat → Nat} {b m : Nat} (hb : b < m) (hleast : ∀ k, k < m → e b ≤ e k ∧ (e k = e b → b ≤ k)) (n : Nat) (hn : n ≤ m) :
    let r := (List.range n).foldl (fun b i => if e i < e b then i else b) 0
    (b < n ∨ b = 0 → r = b) ∧ (n ≤ b → b ≠ 0 → r < b) := by
  induction n with
  | zero =>
    simp only [List.range_zero, List.foldl_nil]
    omega
  | succ n ih =>
    have ih := ih (by omega)
    simp only [List.range_succ, List.foldl_append, List.foldl_cons, List.foldl_nil]
    dsimp only at ih
    generalize (List.range n).foldl (fun b i => if e i < e b then i else b) 0 = r at ih ⊢
    obtain ⟨hfound, hbefore⟩ := ih
    have hlast := hleast n hn
    by_cases hin : b < n ∨ b = 0
    · rw [hfound hin, if_neg (by omega)]
      omega
    · have hr := hbefore (by omega) (by omega)
      have hsmall := hleast r (by omega)
      by_cases hb : b = n
      · rw [if_pos (by subst hb; omega)]
        omega
      · split <;> omega

/-- The first of the smallest of four values. -/
theorem leastAt_four {e : Nat → Nat} {b : Nat} (hb : b < 4) (hleast : ∀ k, k < 4 → e b ≤ e k ∧ (e k = e b → b ≤ k)) :
    leastAt ((List.range 4).map e) = b := by
  have hget (k : Nat) (hk : k < 4) : ((List.range 4).map e).getD k 0 = e k := by
    rw [List.getD_eq_getElem _ _ (by simpa using hk), List.getElem_map, List.getElem_range]
  rw [leastAt, List.length_map, List.length_range]
  exact (leastAt_upTo (e := fun k => ((List.range 4).map e).getD k 0) (m := 4) hb
    (fun k hk => by simpa only [hget k hk, hget b hb] using hleast k hk) 4 (Nat.le_refl _)).1 (.inl hb)

/-- Interpolator `i` takes chain `b`. -/
def State.takeChain (i b : Nat) : State := s.modCal (fun x => { x with chain := Tab.set (fun _ => 0) x.chain i b })

theorem State.chainOf_takeChain (i b : Nat) : (s.takeChain i b).chainOf i = b := Tab.get_set_self _ _ _ _

theorem State.reselected_leaves : s.SameCal s.reselected ∧ s.reselected.reg pgCAL Cal.RESELECTS = s.reg pgCAL Cal.RESELECTS + 1 ∧
    s.Within (regSpan pgCAL Cal.RESELECTS :: trigSpans) s.reselected := by
  have hirqs : irqSpans ⊆ trigSpans := irqSpans_subset_trig
  have hinc : s.SameCal (s.inc pgCAL Cal.RESELECTS) := ⟨congrArg CalState.held (State.setReg_cal _ _ _ _)⟩
  have hreg : (s.inc pgCAL Cal.RESELECTS).reg pgCAL Cal.RESELECTS = s.reg pgCAL Cal.RESELECTS + 1 := State.reg_setReg_self _ _ _ _
  have hset : s.Within (regSpan pgCAL Cal.RESELECTS :: trigSpans) (s.inc pgCAL Cal.RESELECTS) := (State.Within.refl s).write
  unfold State.reselected
  generalize s.inc pgCAL Cal.RESELECTS = a at hinc hreg hset ⊢
  have htold : a.Within trigSpans (((a.trigger 0x822 pgCAL).writeHistory 3).irq 43) :=
    (((a.trigger_within 0x822 pgCAL).trans (State.writeHistory_within _ 3))).irq hirqs
  refine ⟨((hinc.upd (a.cal_trigger 0x822 pgCAL)).trans (State.writeHistory_cal _ 3)).upd (State.cal_irq _ 43),
    (htold.reg (by decide)).trans hreg, hset.andThen htold (List.subset_cons_self _ _)⟩

/-- The fault of an element without a good chain. -/
def State.exhausted : State := s.calFault Cal.F_ELEMENT_EXHAUSTED none

theorem State.exhausted_leaves : s.exhausted.cal = s.cal ∧ s.exhausted.flag pgCAL PAGE_FAULT Cal.F_ELEMENT_EXHAUSTED = true := by
  unfold State.exhausted State.calFault
  split
  · next hset => exact ⟨rfl, hset⟩
  · exact ⟨s.cal_fault _ _, s.flag_calFault (by decide)⟩

section
variable {s} {i b : Nat} {errs : List Nat} (hon : s.flag pgCAL Cal.CAL_CTRL 2 = true)
  (hfree : Tab.get (fun _ => false) s.cal.forced i = false) (hleast : leastAt ((List.range 4).map (fun k => errs.getD k 0)) = b)
include hon hfree hleast

theorem State.chainMeasure_eq : s.chainMeasure i errs
    = (if 30 < errs.getD b 0 then (if b = s.chainOf i then s.exhausted else State.reselected (s.exhausted.takeChain i b))
      else if 30 < errs.getD (s.chainOf i) 0 ∧ errs.getD b 0 ≤ 15 then (s.takeChain i b).reselected else s) := by
  have htake : s.exhausted.takeChain i b = { s.exhausted with cal := (s.takeChain i b).cal } := by
    have hcal := s.exhausted_leaves.1
    generalize s.exhausted = x at hcal ⊢
    unfold State.takeChain State.modCal
    rw [hcal]
  rw [htake]
  unfold State.chainMeasure
  extract_lets c e best take s1
  have hbest : best = b := hleast
  have hs1 : s1 = if 30 < errs.getD b 0 then s.exhausted else s := by rw [← hbest]; rfl
  have htk : take = s.takeChain i b := by rw [← hbest]; rfl
  rw [if_neg (by rw [hon]; decide), if_neg (by rw [hfree]; decide), hs1, htk, hbest]
  by_cases hhigh : 30 < errs.getD b 0
  · rw [if_pos hhigh, if_pos hhigh, if_pos hhigh]
  · rw [if_neg hhigh, if_neg hhigh, if_neg hhigh]

theorem State.chainMeasure_replaced (hbad : 30 < errs.getD (s.chainOf i) 0) (hgood : errs.getD b 0 ≤ 15) :
    (s.chainMeasure i errs).chainOf i = b ∧ (s.chainMeasure i errs).reg pgCAL Cal.RESELECTS = s.reg pgCAL Cal.RESELECTS + 1 := by
  rw [State.chainMeasure_eq hon hfree hleast, if_neg (by omega), if_pos ⟨hbad, hgood⟩]
  obtain ⟨hcal, hcount, -⟩ := (s.takeChain i b).reselected_leaves
  refine ⟨?_, hcount.trans rfl⟩
  rw [State.chainOf, hcal.chain]
  exact s.chainOf_takeChain i b

theorem State.chainMeasure_exhausted (hbad : 30 < errs.getD b 0) :
    (s.chainMeasure i errs).chainOf i = b ∧ (s.chainMeasure i errs).flag pgCAL PAGE_FAULT Cal.F_ELEMENT_EXHAUSTED = true := by
  obtain ⟨hsame, hflag⟩ := s.exhausted_leaves
  rw [State.chainMeasure_eq hon hfree hleast, if_pos hbad]
  split
  · next hb =>
    refine ⟨?_, hflag⟩
    rw [State.chainOf, hsame]
    exact hb.symm
  · obtain ⟨hcal, -, hwithin⟩ := (s.exhausted.takeChain i b).reselected_leaves
    refine ⟨?_, (hwithin.flag (by decide) _).trans hflag⟩
    rw [State.chainOf, hcal.chain]
    exact State.chainOf_takeChain _ i b

theorem State.chainMeasure_kept (hgood : errs.getD b 0 ≤ 30) (hkeep : errs.getD (s.chainOf i) 0 ≤ 30 ∨ 15 < errs.getD b 0) :
    s.chainMeasure i errs = s := by
  rw [State.chainMeasure_eq hon hfree hleast, if_neg (by omega), if_neg (by omega)]

end

end

end Sys2Proof.Machine
end

section
/-!
Calibration runs and overrides (R653 to R659): O48.
-/
set_option Elab.async false
namespace Sys2Proof.Machine

section
variable (s : State)

/-! ### Runs begin and end (R656, R659) -/

theorem State.runEnds_leaves : s.runEnds.cal = { s.cal with run := none, analog := false } ∧ s.runEnds.sts pgCAL Cal.S_CAL_BUSY = 0 ∧
    s.Within [fldSpan pgCAL PAGE_STATUS Cal.S_CAL_BUSY] s.runEnds ∧ s.runEnds.mem = s.mem := by
  have hsts : s.runEnds.sts pgCAL Cal.S_CAL_BUSY = 0 := State.sts_setSts_self _ _ (by decide) 0
  have hwithin : s.Within [fldSpan pgCAL PAGE_STATUS Cal.S_CAL_BUSY] s.runEnds := (s.modCal_within _).setSts (by decide)
  refine ⟨?_, hsts, hwithin, (State.runEnds_keeps (s.keeps_parts 0x10) (Keep.off_of_and (by decide))).mem_eq⟩
  rw [State.runEnds, State.cal_setSts, State.cal_modCal]

/-- A time run begins. -/
def State.timeRunBegun (src : Nat) : State :=
  (s.modCal (fun c => { c with run := some ⟨src, s.fld pgCAL Cal.WINDOW_S (9, 0), s.tln.now⟩ })).setSts pgCAL Cal.S_CAL_BUSY 1

theorem State.runTime_begins (hidle : s.calRunning = false) (href : s.refPresent (s.fld pgCAL Cal.CAL_CTRL (1, 0)) = true) :
    s.runTime = s.timeRunBegun (s.fld pgCAL Cal.CAL_CTRL (1, 0)) := by
  unfold State.runTime
  dsimp only
  rw [if_neg (by rw [hidle]; decide), if_neg (by rw [href]; decide), State.timeRunBegun]

theorem State.runTime_noRef (hidle : s.calRunning = false) (href : s.refPresent (s.fld pgCAL Cal.CAL_CTRL (1, 0)) = false) :
    s.runTime = s.fault pgCAL Cal.F_NO_REF := by
  unfold State.runTime
  dsimp only
  rw [if_neg (by rw [hidle]; decide), if_pos (by rw [href]; decide)]

theorem State.runTime_running (hrun : s.calRunning = true) : s.runTime = s := by
  unfold State.runTime
  dsimp only
  rw [if_pos hrun]

theorem State.timeRunBegun_leaves (src : Nat) :
    (s.timeRunBegun src).cal.run = some ⟨src, s.fld pgCAL Cal.WINDOW_S (9, 0), s.tln.now⟩ ∧
    (s.timeRunBegun src).sts pgCAL Cal.S_CAL_BUSY = 1 := by
  have hsts : (s.timeRunBegun src).sts pgCAL Cal.S_CAL_BUSY = 1 := State.sts_setSts_self _ _ (by decide) 1
  refine ⟨?_, hsts⟩
  rw [State.timeRunBegun, State.cal_setSts, State.cal_modCal]

theorem State.runAnalog_begins (hidle : s.calRunning = false) :
    s.runAnalog.cal.analog = true ∧ s.runAnalog.sts pgCAL Cal.S_CAL_BUSY = 2 := by
  unfold State.runAnalog
  rw [if_neg (by rw [hidle]; decide)]
  refine ⟨?_, State.sts_setSts_self _ _ (by decide) 2⟩
  rw [State.cal_setSts, State.cal_modCal]

theorem State.runAnalog_running (hrun : s.calRunning = true) : s.runAnalog = s := if_pos hrun

theorem State.dailyAnalog_reached {a : State} (hon : s.flag pgCAL Cal.CAL_CTRL 3 = true)
    (h : s.reachTick tickAnalog (86400 * SEC * NS) 0 = some a) : s.dailyAnalog = a.runAnalog := by
  unfold State.dailyAnalog
  rw [if_neg (by rw [hon]; decide), State.atTick_reached h]

theorem State.calRunning_congr {t : State} (h : t.cal = s.cal) : t.calRunning = s.calRunning := by
  rw [State.calRunning, h, State.calRunning]

/-! ### Completed runs (R657, R658) -/

/-- What a completed operation of calibration writes. -/
abbrev doneSpans : List Span := regSpan pgCAL Cal.CAL_COUNT :: regSpan pgCAL Cal.CAL_LAST_S_LO :: regSpan pgCAL Cal.CAL_LAST_S_HI ::
  regSpan pgCAL Cal.CAL_LAST_NS :: trigSpans

theorem State.calCounted_leaves : s.calCounted.cal = s.cal ∧ s.calCounted.reg pgCAL Cal.CAL_COUNT = s.reg pgCAL Cal.CAL_COUNT + 1 ∧
    s.Within doneSpans s.calCounted := by
  have hcal : s.calCounted.cal = s.cal := (State.calCounted_keeps (s.keeps_parts 0x1000000000) (Keep.off_of_and (by decide))).cal_eq
  have hinc : (s.inc pgCAL Cal.CAL_COUNT).reg pgCAL Cal.CAL_COUNT = s.reg pgCAL Cal.CAL_COUNT + 1 := State.reg_setReg_self _ _ _ _
  have hset : s.Within doneSpans (s.inc pgCAL Cal.CAL_COUNT) := (State.Within.refl s).write
  refine ⟨hcal, ?_, ?_⟩
  · unfold State.calCounted
    dsimp only
    generalize s.inc pgCAL Cal.CAL_COUNT = a at hinc ⊢
    rw [State.setNat, State.setNat, State.setNat, State.reg_setReg_ne _ _ (by decide), State.reg_setReg_ne _ _ (by decide),
      State.reg_setReg_ne _ _ (by decide)]
    exact hinc
  · unfold State.calCounted
    dsimp only
    generalize s.inc pgCAL Cal.CAL_COUNT = a at hset ⊢
    exact hset.write.write.write

/-- An operation of calibration is counted, recorded and written to the history. -/
def State.calRecorded (code kind : Nat) : State := (s.calCounted.trigger code pgCAL).writeHistory kind

theorem State.calRecorded_leaves (code kind : Nat) : s.SameCal (s.calRecorded code kind) ∧
    (s.calRecorded code kind).reg pgCAL Cal.CAL_COUNT = s.reg pgCAL Cal.CAL_COUNT + 1 ∧ s.Within doneSpans (s.calRecorded code kind) := by
  obtain ⟨hcal, hcount, hset⟩ := s.calCounted_leaves
  unfold State.calRecorded
  generalize s.calCounted = a at hcal hcount hset ⊢
  have htold : a.Within trigSpans ((a.trigger code pgCAL).writeHistory kind) := (a.trigger_within code pgCAL).trans (State.writeHistory_within _ kind)
  have hsame : s.SameCal a := (State.SameCal.refl s).upd hcal
  exact ⟨(hsame.upd (a.cal_trigger code pgCAL)).trans (State.writeHistory_cal _ kind), (htold.reg (by decide)).trans hcount,
    hset.andThen htold (by decide)⟩

theorem State.runDone_eq (kind : Nat) : s.runDone kind = (s.runEnds.calRecorded 0x830 kind).irq 41 := rfl

theorem State.runDone_leaves (kind : Nat) : (s.runDone kind).cal.run = none ∧ (s.runDone kind).cal.analog = false ∧
    (s.runDone kind).cal.pair = s.cal.pair ∧ (s.runDone kind).cal.vref = s.cal.vref ∧
    (s.runDone kind).sts pgCAL Cal.S_CAL_BUSY = 0 ∧ (s.runDone kind).reg pgCAL Cal.CAL_COUNT = s.reg pgCAL Cal.CAL_COUNT + 1 ∧
    s.Within (fldSpan pgCAL PAGE_STATUS Cal.S_CAL_BUSY :: doneSpans) (s.runDone kind) := by
  obtain ⟨hcal, hbusy, hended, -⟩ := s.runEnds_leaves
  rw [s.runDone_eq]
  generalize s.runEnds = a at hcal hbusy hended ⊢
  obtain ⟨hsame, hcount, hrec⟩ := a.calRecorded_leaves 0x830 kind
  generalize a.calRecorded 0x830 kind = b at hsame hcount hrec ⊢
  have hirq : b.Within doneSpans (b.irq 41) := (State.irq_within 41).mono (by decide)
  have hall : a.Within doneSpans (b.irq 41) := hrec.trans hirq
  refine ⟨?_, ?_, ?_, ?_, (hall.sts (by decide) _).trans hbusy, ?_, ?_⟩
  · rw [b.cal_irq, hsame.run, hcal]
  · rw [b.cal_irq, hsame.analog, hcal]
  · rw [b.cal_irq, hsame.pair, hcal]
  · rw [b.cal_irq, hsame.vref, hcal]
  · exact ((State.irq_within (s := b) 41).reg (by decide)).trans (hcount.trans (congrArg (· + 1) (hended.reg (by decide))))
  · exact (hended.mono (by decide)).trans (hall.mono (List.subset_cons_self _ _))

/-! ### The window of a time run (R657, R658) -/

theorem signed_unsign_crystal {x : Int} (h : x.natAbs ≤ 100000) : signed 32 (unsign 32 x) = x := by
  unfold signed unsign
  norm_num
  split <;> omega

theorem unsign_crystal_lt (x : Int) : unsign 32 x < 2 ^ 32 := by
  unfold unsign
  norm_num
  omega

/-- The errors and uncertainties of both crystals, and the source of the run. -/
def State.errorsSet (src xtal unc xt32 unc32 : Nat) : State :=
  ((((s.setNat pgCAL Cal.XTAL_ERR xtal).setNat pgCAL Cal.XTAL_UNC unc).setNat pgCAL Cal.XT32_ERR xt32).setNat pgCAL Cal.XT32_UNC
    unc32).modCal (fun c => { c with src := src })

theorem State.errorsSet_leaves (src xtal unc xt32 unc32 : Nat) : (s.errorsSet src xtal unc xt32 unc32).nat pgCAL Cal.XTAL_ERR = xtal % 2 ^ 32 ∧
    (s.errorsSet src xtal unc xt32 unc32).reg pgCAL Cal.CAL_COUNT = s.reg pgCAL Cal.CAL_COUNT := by
  have hset : s.Within [regSpan pgCAL Cal.XTAL_ERR, regSpan pgCAL Cal.XTAL_UNC, regSpan pgCAL Cal.XT32_ERR, regSpan pgCAL Cal.XT32_UNC]
      ((((s.setNat pgCAL Cal.XTAL_ERR xtal).setNat pgCAL Cal.XTAL_UNC unc).setNat pgCAL Cal.XT32_ERR xt32).setNat pgCAL Cal.XT32_UNC unc32) :=
    (State.Within.refl s).write.write.write.write
  have herr : (((((s.setNat pgCAL Cal.XTAL_ERR xtal).setNat pgCAL Cal.XTAL_UNC unc).setNat pgCAL Cal.XT32_ERR xt32).setNat pgCAL Cal.XT32_UNC
      unc32)).nat pgCAL Cal.XTAL_ERR = xtal % 2 ^ 32 := by
    have hfirst : (s.setNat pgCAL Cal.XTAL_ERR xtal).nat pgCAL Cal.XTAL_ERR = xtal % 2 ^ 32 := State.nat_setNat_same _ _ _ _
    generalize s.setNat pgCAL Cal.XTAL_ERR xtal = a at hfirst ⊢
    have hrest : a.Within [regSpan pgCAL Cal.XTAL_UNC, regSpan pgCAL Cal.XT32_ERR, regSpan pgCAL Cal.XT32_UNC]
        (((a.setNat pgCAL Cal.XTAL_UNC unc).setNat pgCAL Cal.XT32_ERR xt32).setNat pgCAL Cal.XT32_UNC unc32) :=
      (State.Within.refl a).write.write.write
    exact (hrest.nat (by decide)).trans hfirst
  unfold State.errorsSet
  generalize (((s.setNat pgCAL Cal.XTAL_ERR xtal).setNat pgCAL Cal.XTAL_UNC unc).setNat pgCAL Cal.XT32_ERR xt32).setNat pgCAL Cal.XT32_UNC
    unc32 = b at hset herr ⊢
  have hcal : b.Within [] (b.modCal (fun c => { c with src := src })) := b.modCal_within _
  exact ⟨(hcal.nat (by decide)).trans herr, (hcal.reg (by decide)).trans (hset.reg (by decide))⟩

section
variable {s} {x : TimeRun} (hrun : s.cal.run = some x) (nt d : Nat)
include hrun

theorem State.windowEnd_range (hfar : 100000 < (crystalErrors x.secs nt d).1.natAbs) :
    s.windowEnd nt d = s.runEnds.fault pgCAL Cal.F_REF_RANGE := by
  unfold State.windowEnd
  rw [hrun]
  dsimp only
  rw [if_pos hfar]

theorem State.windowEnd_taken (hnear : (crystalErrors x.secs nt d).1.natAbs ≤ 100000) : ∃ unc xt32 unc32,
    s.windowEnd nt d = ((s.errorsSet x.src (unsign 32 (crystalErrors x.secs nt d).1) unc xt32 unc32).runDone 1).loadIncrFree := by
  unfold State.windowEnd
  rw [hrun]
  dsimp only
  rw [if_neg (by omega)]
  exact ⟨_, _, _, by rw [State.errorsSet]⟩

end

/-- What the resident firmware writes as it loads INCR_FREE. -/
abbrev incrSpans : List Span := fldSpan pgHTH PAGE_STATUS Hth.S_TK_VALID :: timeSpans

theorem State.setBoth_within {l : List Span} {page off : Nat} (v : Word) (hspan : regSpan page off ∈ l) :
    s.Within l (s.setBoth page off v) := ((State.Within.refl s).write hspan (v := v)).upd rfl

theorem State.loadIncrFree_within : s.Within incrSpans s.loadIncrFree := by
  have hhth (a : State) (x : HthState) : a.Within incrSpans { a with hth := x } := (State.Within.refl a).upd rfl
  unfold State.loadIncrFree
  extract_lets err v s1
  have hset (a : State) (off : Nat) (x : Word) (hoff : off < 0x1000) : a.Within timeSpans (a.setBoth pgTLN off x) :=
    ((State.Within.refl a).setTln (v := x) hoff).upd rfl
  have h1 : s.Within incrSpans s1 :=
    (((hset _ _ _ (by decide)).trans (hset _ _ _ (by decide))).trans (State.retune_within _)).mono (List.subset_cons_self _ _)
  exact h1.ite ((h1.trans (hhth _ _)).setSts (by decide))

theorem State.cal_loadIncrFree : s.loadIncrFree.cal = s.cal :=
  (State.loadIncrFree_keeps (s.keeps_parts 0x1000000000) (Keep.off_of_and (by decide))).cal_eq

theorem State.windowTaken_leaves (src unc xt32 unc32 : Nat) {xtal : Int} (hnear : xtal.natAbs ≤ 100000) :
    let t := ((s.errorsSet src (unsign 32 xtal) unc xt32 unc32).runDone 1).loadIncrFree
    t.cal.run = none ∧ t.sts pgCAL Cal.S_CAL_BUSY = 0 ∧ signed 32 (t.nat pgCAL Cal.XTAL_ERR) = xtal ∧
      t.reg pgCAL Cal.CAL_COUNT = s.reg pgCAL Cal.CAL_COUNT + 1 := by
  obtain ⟨herr, hcount⟩ := s.errorsSet_leaves src (unsign 32 xtal) unc xt32 unc32
  dsimp only
  generalize s.errorsSet src (unsign 32 xtal) unc xt32 unc32 = a at herr hcount ⊢
  obtain ⟨hrun, -, -, -, hbusy, hdone, hwithin⟩ := a.runDone_leaves 1
  generalize a.runDone 1 = b at hrun hbusy hdone hwithin ⊢
  have hload := b.loadIncrFree_within
  refine ⟨by rw [b.cal_loadIncrFree, hrun], (hload.sts (by decide) _).trans hbusy, ?_, ?_⟩
  · rw [hload.nat (by decide), hwithin.nat (by decide), herr, Nat.mod_eq_of_lt (unsign_crystal_lt xtal), signed_unsign_crystal hnear]
  · rw [hload.reg (by decide), hdone, hcount]

/-! ### Analog runs (R653, R659) -/

/-- The pair that channel `c` takes. -/
def State.pairTaken (codes : List (List (Int × Nat))) (c : Nat) : Nat :=
  if Tab.get (fun _ => false) s.cal.forced (128 + c) then s.pairOf c else leastAt ((codes.getD c []).map pairScore)

/-- The code of the pair that channel `c` takes. -/
def State.codeTaken (codes : List (List (Int × Nat))) (c : Nat) : Int × Nat := (codes.getD c []).getD (s.pairTaken codes c) (0, vrefInit)

/-- The offset of a pair's code in its register. -/
def offsetCode (e : Int × Nat) : Nat := unsign 8 (satSigned 8 e.1)

/-- Channel `c` has pair `p`, offset `off` and reference `v`. -/
def State.pairSet (c p off v : Nat) : State :=
  s.modCal (fun x => { x with pair := Tab.set (fun _ => 0) x.pair c p, off := Tab.set (fun _ => 0) x.off c off,
                              vref := Tab.set (fun _ => vrefInit) x.vref c v })

theorem State.analogChannel_eq (codes : List (List (Int × Nat))) (c : Nat) : s.analogChannel codes c
    = if (s.codeTaken codes c).2 < 3950 ∨ 4050 < (s.codeTaken codes c).2 then s.fault pgCAL Cal.F_VREF_OUT
      else if s.pairTaken codes c = s.pairOf c then
        (s.pairSet c (s.pairTaken codes c) (offsetCode (s.codeTaken codes c)) (s.codeTaken codes c).2).setNat pgCAL Cal.VREF_CODE
          ((s.codeTaken codes c).2 + 2 ^ 16 * unsign 12 (signed 8 (offsetCode (s.codeTaken codes c))))
      else ((s.pairSet c (s.pairTaken codes c) (offsetCode (s.codeTaken codes c)) (s.codeTaken codes c).2).setNat pgCAL Cal.VREF_CODE
          ((s.codeTaken codes c).2 + 2 ^ 16 * unsign 12 (signed 8 (offsetCode (s.codeTaken codes c))))).reselected := by
  unfold State.analogChannel State.codeTaken State.pairTaken State.pairSet offsetCode
  rfl

/-- What an analog run's channels write. -/
abbrev channelSpans : List Span := regSpan pgCAL Cal.VREF_CODE :: fldSpan pgCAL PAGE_FAULT (Cal.F_VREF_OUT, Cal.F_VREF_OUT) ::
  regSpan pgCAL Cal.RESELECTS :: trigSpans

/-- What channel `c` of an analog run does: its own entries alone are written. -/
structure State.ChannelDone (s t : State) (codes : List (List (Int × Nat))) (c : Nat) : Prop where
  within : s.Within channelSpans t
  forced : t.cal.forced = s.cal.forced
  pairNe : ∀ j, j ≠ c → t.pairOf j = s.pairOf j
  vrefNe : ∀ j, j ≠ c → Tab.get (fun _ => vrefInit) t.cal.vref j = Tab.get (fun _ => vrefInit) s.cal.vref j
  taken : 3950 ≤ (s.codeTaken codes c).2 → (s.codeTaken codes c).2 ≤ 4050 →
    t.pairOf c = s.pairTaken codes c ∧ Tab.get (fun _ => vrefInit) t.cal.vref c = (s.codeTaken codes c).2

theorem State.analogChannel_done (codes : List (List (Int × Nat))) (c : Nat) : s.ChannelDone (s.analogChannel codes c) codes c := by
  rw [s.analogChannel_eq]
  generalize hp : s.pairTaken codes c = p
  generalize he : s.codeTaken codes c = e
  split
  · next hout =>
    have hcal := s.cal_fault pgCAL Cal.F_VREF_OUT
    refine ⟨s.calFault_within (by decide) (by decide) (by decide), by rw [hcal], fun j _ => by rw [State.pairOf, hcal, State.pairOf],
      fun j _ => by rw [hcal], fun hlow hhigh => ?_⟩
    rw [he] at hlow hhigh
    omega
  · generalize e.2 + 2 ^ 16 * unsign 12 (signed 8 (offsetCode e)) = w
    generalize offsetCode e = o
    have hset : s.Within channelSpans (s.pairSet c p o e.2) := s.modCal_within _
    have hcode : s.Within channelSpans ((s.pairSet c p o e.2).setNat pgCAL Cal.VREF_CODE w) := hset.write
    have hcal : ((s.pairSet c p o e.2).setNat pgCAL Cal.VREF_CODE w).cal = (s.pairSet c p o e.2).cal := State.setReg_cal _ _ _ _
    have hforced : (s.pairSet c p o e.2).cal.forced = s.cal.forced := rfl
    have hpair : (s.pairSet c p o e.2).cal.pair = Tab.set (fun _ => 0) s.cal.pair c p := rfl
    have hvref : (s.pairSet c p o e.2).cal.vref = Tab.set (fun _ => vrefInit) s.cal.vref c e.2 := rfl
    have hdone {t : State} (hw : s.Within channelSpans t) (hc : ((s.pairSet c p o e.2).setNat pgCAL Cal.VREF_CODE w).SameCal t) :
        s.ChannelDone t codes c := by
      refine ⟨hw, by rw [hc.forced, hcal, hforced], fun j hj => ?_, fun j hj => ?_, fun _ _ => ⟨?_, ?_⟩⟩
      · rw [State.pairOf, hc.pair, hcal, hpair, Tab.get_set_ne _ _ _ hj, State.pairOf]
      · rw [hc.vref, hcal, hvref, Tab.get_set_ne _ _ _ hj]
      · rw [State.pairOf, hc.pair, hcal, hpair, Tab.get_set_self, hp]
      · rw [hc.vref, hcal, hvref, Tab.get_set_self, he]
    split
    · exact hdone hcode (.refl _)
    · obtain ⟨hsame, -, hre⟩ := ((s.pairSet c p o e.2).setNat pgCAL Cal.VREF_CODE w).reselected_leaves
      exact hdone (hcode.andThen hre (by decide)) hsame

theorem State.codeTaken_congr {t : State} (hforced : t.cal.forced = s.cal.forced) (codes : List (List (Int × Nat))) {c : Nat}
    (hpair : t.pairOf c = s.pairOf c) : t.pairTaken codes c = s.pairTaken codes c ∧ t.codeTaken codes c = s.codeTaken codes c := by
  have hp : t.pairTaken codes c = s.pairTaken codes c := by rw [State.pairTaken, hforced, hpair, State.pairTaken]
  exact ⟨hp, by rw [State.codeTaken, hp, State.codeTaken]⟩

/-- The first `n` channels of an analog run. -/
theorem State.analogChannels_leave (codes : List (List (Int × Nat))) (n : Nat) :
    let t := (List.range n).foldl (fun a c => a.analogChannel codes c) s
    s.Within channelSpans t ∧ t.cal.forced = s.cal.forced ∧ (∀ c, n ≤ c → t.pairOf c = s.pairOf c) ∧
    ∀ c, c < n → 3950 ≤ (s.codeTaken codes c).2 → (s.codeTaken codes c).2 ≤ 4050 →
      t.pairOf c = s.pairTaken codes c ∧ Tab.get (fun _ => vrefInit) t.cal.vref c = (s.codeTaken codes c).2 := by
  induction n with
  | zero => exact ⟨.refl s, rfl, fun _ _ => rfl, fun _ h => absurd h (Nat.not_lt_zero _)⟩
  | succ n ih =>
    dsimp only at ih ⊢
    rw [List.range_succ, List.foldl_append, List.foldl_cons, List.foldl_nil]
    generalize (List.range n).foldl (fun a c => a.analogChannel codes c) s = a at ih ⊢
    obtain ⟨hwithin, hforced, hlater, htaken⟩ := ih
    have hdone := a.analogChannel_done codes n
    refine ⟨hwithin.trans hdone.within, hdone.forced.trans hforced, fun c hc => (hdone.pairNe c (by omega)).trans (hlater c (by omega)),
      fun c hc hlow hhigh => ?_⟩
    by_cases hcn : c = n
    · subst hcn
      obtain ⟨hp, he⟩ := s.codeTaken_congr hforced codes (hlater c (Nat.le_refl c))
      rw [← hp, ← he]
      exact hdone.taken (by rw [he]; exact hlow) (by rw [he]; exact hhigh)
    · obtain ⟨hp, hv⟩ := htaken c (by omega) hlow hhigh
      exact ⟨(hdone.pairNe c hcn).trans hp, (hdone.vrefNe c hcn).trans hv⟩

theorem State.analogDone_leaves (codes : List (List (Int × Nat))) (hrun : s.cal.analog = true) :
    (s.analogDone codes).cal.analog = false ∧ (s.analogDone codes).sts pgCAL Cal.S_CAL_BUSY = 0 ∧
    (s.analogDone codes).reg pgCAL Cal.CAL_COUNT = s.reg pgCAL Cal.CAL_COUNT + 1 ∧
    ∀ c, c < 36 → 3950 ≤ (s.codeTaken codes c).2 → (s.codeTaken codes c).2 ≤ 4050 →
      (s.analogDone codes).pairOf c = s.pairTaken codes c ∧
      Tab.get (fun _ => vrefInit) (s.analogDone codes).cal.vref c = (s.codeTaken codes c).2 := by
  obtain ⟨hwithin, -, -, htaken⟩ := s.analogChannels_leave codes 36
  unfold State.analogDone
  rw [if_neg (by rw [hrun]; decide)]
  generalize (List.range 36).foldl (fun a c => a.analogChannel codes c) s = a at hwithin htaken ⊢
  obtain ⟨-, hoff, hpair, hvref, hbusy, hcount, -⟩ := a.runDone_leaves 2
  refine ⟨hoff, hbusy, hcount.trans (congrArg (· + 1) (hwithin.reg (by decide))), fun c hc hlow hhigh => ?_⟩
  rw [State.pairOf, hpair, hvref]
  exact htaken c hc hlow hhigh

/-! ### Overrides (R655) -/

/-- An override forces element `e`, or frees it. -/
def State.forceElement (e : Nat) (on : Bool) : State := s.modCal (fun c => { c with forced := Tab.set (fun _ => false) c.forced e on })

/-- The selection that an override makes. -/
def State.selectElement (kind index cand : Nat) : State := s.modCal (fun c =>
  match kind with
  | 0 => { c with chain := Tab.set (fun _ => 0) c.chain index cand }
  | 1 => { c with pair := Tab.set (fun _ => 0) c.pair index cand }
  | _ => { c with excluded := Tab.set (fun _ => false) c.excluded index (cand == 1) })

theorem State.override_crystal (index cand : Nat) (auto : Bool) : s.override 3 index cand auto
    = (s.setReg pgCAL Cal.XTAL_ERR (s.reg pgCAL Cal.OVR_VALUE)).setNat pgCAL Cal.XTAL_UNC (s.fld pgCAL Cal.CAL_REF_UNC (15, 0)) := rfl

theorem State.override_xt32 (index cand : Nat) (auto : Bool) : s.override 4 index cand auto
    = (s.setReg pgCAL Cal.XT32_ERR (s.reg pgCAL Cal.OVR_VALUE)).setNat pgCAL Cal.XT32_UNC (s.fld pgCAL Cal.CAL_REF_UNC (15, 0)) := rfl

theorem State.override_element {kind : Nat} (index cand : Nat) (auto : Bool) (h3 : kind ≠ 3) (h4 : kind ≠ 4) :
    s.override kind index cand auto = if auto then s.forceElement (elementOf kind index) (!auto)
      else (s.forceElement (elementOf kind index) (!auto)).selectElement kind index cand := by
  unfold State.override State.selectElement
  dsimp only
  rw [if_neg h3, if_neg h4]
  rfl

theorem State.selectElement_forced (kind index cand : Nat) : (s.selectElement kind index cand).cal.forced = s.cal.forced := by
  unfold State.selectElement
  rw [State.cal_modCal]
  split <;> rfl

theorem State.override_leaves (kind index cand : Nat) (auto : Bool) :
    (s.override kind index cand auto).reg pgCAL Cal.CAL_COUNT = s.reg pgCAL Cal.CAL_COUNT ∧
    (kind = 3 → (s.override kind index cand auto).reg pgCAL Cal.XTAL_ERR = s.reg pgCAL Cal.OVR_VALUE) ∧
    (kind < 3 → Tab.get (fun _ => false) (s.override kind index cand auto).cal.forced (elementOf kind index) = !auto) ∧
    (kind = 0 → auto = false → (s.override kind index cand auto).chainOf index = cand) := by
  by_cases h3 : kind = 3
  · subst h3
    rw [s.override_crystal]
    refine ⟨?_, fun _ => ?_, fun h => absurd h (by decide), fun h => absurd h (by decide)⟩
    · exact (State.reg_setReg_ne _ _ (by decide)).trans (State.reg_setReg_ne _ _ (by decide))
    · exact (State.reg_setReg_ne _ _ (by decide)).trans (State.reg_setReg_self _ _ _ _)
  by_cases h4 : kind = 4
  · subst h4
    rw [s.override_xt32]
    refine ⟨?_, fun h => absurd h (by decide), fun h => absurd h (by decide), fun h => absurd h (by decide)⟩
    exact (State.reg_setReg_ne _ _ (by decide)).trans (State.reg_setReg_ne _ _ (by decide))
  rw [s.override_element index cand auto h3 h4]
  have hforce : Tab.get (fun _ => false) (s.forceElement (elementOf kind index) (!auto)).cal.forced (elementOf kind index) = !auto :=
    Tab.get_set_self _ _ _ _
  have hreg : (s.forceElement (elementOf kind index) (!auto)).reg pgCAL Cal.CAL_COUNT = s.reg pgCAL Cal.CAL_COUNT := rfl
  generalize s.forceElement (elementOf kind index) (!auto) = a at hforce hreg ⊢
  have hselect : a.Within [] (a.selectElement kind index cand) := a.modCal_within _
  split
  · next hauto => exact ⟨hreg, fun h => absurd h h3, fun _ => hforce, fun _ h => absurd (hauto.symm.trans h) (by decide)⟩
  · refine ⟨(hselect.reg (by decide)).trans hreg, fun h => absurd h h3, fun _ => ?_, fun hkind _ => ?_⟩
    · rw [a.selectElement_forced]
      exact hforce
    · subst hkind
      exact Tab.get_set_self _ _ _ _

theorem State.ovrWrite_high (hhigh : s.dev.presenceLow = false) :
    s.ovrWrite = (s.fault pgCAL Cal.F_GUARD_REFUSED).trigger 0x844 pgCAL := by
  unfold State.ovrWrite
  dsimp only
  rw [if_pos (by rw [hhigh]; decide)]

section
variable {s} (hlow : s.dev.presenceLow = true)
include hlow

theorem State.ovrWrite_bad (hbad : overrideOk (bits (s.reg pgCAL Cal.OVR_SEL) (2, 0)) (bits (s.reg pgCAL Cal.OVR_SEL) (14, 8))
    (bits (s.reg pgCAL Cal.OVR_SEL) (18, 16)) = false) : s.ovrWrite = s.badValue pgCAL := by
  unfold State.ovrWrite
  dsimp only
  rw [if_neg (by rw [hlow]; decide), if_pos (by rw [hbad]; decide)]

theorem State.ovrWrite_good (hok : overrideOk (bits (s.reg pgCAL Cal.OVR_SEL) (2, 0)) (bits (s.reg pgCAL Cal.OVR_SEL) (14, 8))
    (bits (s.reg pgCAL Cal.OVR_SEL) (18, 16)) = true) : s.ovrWrite
      = (s.override (bits (s.reg pgCAL Cal.OVR_SEL) (2, 0)) (bits (s.reg pgCAL Cal.OVR_SEL) (14, 8))
          (bits (s.reg pgCAL Cal.OVR_SEL) (18, 16)) (bit (s.reg pgCAL Cal.OVR_SEL) 19)).calRecorded 0x831 5 := by
  unfold State.ovrWrite
  dsimp only
  rw [if_neg (by rw [hlow]; decide), if_neg (by rw [hok]; decide), State.calRecorded]

end

theorem State.calRefused_leaves (n : Nat) (hn : n < 32) (code : Nat) :
    ((s.fault pgCAL n).trigger code pgCAL).flag pgCAL PAGE_FAULT n = true ∧ ((s.fault pgCAL n).trigger code pgCAL).cal = s.cal ∧
    ((s.fault pgCAL n).trigger code pgCAL).mem = s.mem := by
  refine ⟨((State.trigger_within _ _ _).flag (by decide) _).trans (s.flag_calFault hn), ?_, ?_⟩
  · rw [State.cal_trigger, State.cal_fault]
  · rw [State.mem_trigger, State.mem_fault]

end

/-! ### The commands -/

section
variable {s : State} (haclk : s.aclkRuns = true)
include haclk

theorem exec_marginMeasure (slack plus : List Nat) : exec (.marginMeasure slack plus) s = .next (s.marginMeasure slack plus).throttleRefresh :=
  congrArg Host.Outcome.next (if_pos haclk)

theorem exec_avsSettle (mv ma : Nat) (error : Bool) : exec (.avsSettle mv ma error) s = .next (s.avsSettle mv ma error) :=
  congrArg Host.Outcome.next (if_pos haclk)

theorem exec_pmbAlert (fault : Bool) : exec (.pmbAlert fault) s = .next (s.pmbAlert fault) := congrArg Host.Outcome.next (if_pos haclk)

theorem exec_chainMeasure (i : Fin 128) (errs : List Nat) : exec (.chainMeasure i errs) s = .next (s.chainMeasure i.val errs) :=
  congrArg Host.Outcome.next (if_pos haclk)

theorem exec_calWindowEnd (nt d : Nat) : exec (.calWindowEnd nt d) s = .next (s.windowEnd nt d) := congrArg Host.Outcome.next (if_pos haclk)

theorem exec_analogRunDone (codes : List (List (Int × Nat))) : exec (.analogRunDone codes) s = .next (s.analogDone codes) :=
  congrArg Host.Outcome.next (if_pos haclk)

end

section
variable {s : State} (hreach : s.reaches pgCAL = true) (r : Requester)
include hreach

theorem exec_runTime : exec (.runTime r) s = .next s.counted.runTime := congrArg Host.Outcome.next (State.gate_eq hreach _)

theorem exec_runAnalog : exec (.runAnalog (some r)) s = .next s.counted.runAnalog := congrArg Host.Outcome.next (State.gate_eq hreach _)

theorem exec_calAbort : exec (.calAbort r) s = .next s.counted.runEnds := congrArg Host.Outcome.next (State.gate_eq hreach _)

theorem exec_ovrWrite (low : Bool) : exec (.ovrWrite r low) s = .next (s.presence low).counted.ovrWrite :=
  congrArg Host.Outcome.next (State.gate_eq ((s.reaches_presence low pgCAL).trans hreach) _)

end

theorem exec_runAnalog_daily (s : State) : exec (.runAnalog none) s = .next s.dailyAnalog := rfl

/-- A register of CAL as an operation behind PRESENCE_N finds it. -/
theorem State.reg_presence (s : State) (low : Bool) {off : Nat} (hk : clearOf countSpans (regKey pgCAL off)) :
    (s.presence low).counted.reg pgCAL off = s.reg pgCAL off := (s.presence low).counted_within.reg hk

theorem State.cal_presence (s : State) (low : Bool) : (s.presence low).counted.cal = s.cal := (s.presence low).cal_counted

theorem State.low_presence (s : State) (low : Bool) : (s.presence low).counted.dev.presenceLow = low := by
  rw [State.dev_counted]
  rfl

section
variable (s : State)

/-! ### Clause by clause -/

theorem avsSettle_acts {t0 : Nat} (a : State) (mv ma : Nat) (hask : s.cal.avsAsked = some t0) (haclk : s.aclkRuns = true) :
    (∃ t, exec (.avsSettle mv ma true) s = .next t ∧ t.cal.avsStopped = true ∧ t.cal.avsAsked = none ∧
      t.sts pgCAL Cal.S_AVS_BUSY = 0 ∧ t.flag pgCAL PAGE_FAULT Cal.F_AVS_ERROR = true) ∧
    (s.timeRuns = true → ((mv : Int) - s.fld pgCAL Cal.VCORE_SET (9, 0)).natAbs ≤ 10 → s.reach (t0 + 200000 * NS) = some a →
      ∃ t, exec (.avsSettle mv ma false) s = .next t ∧ t.cal.avsAsked = none ∧ t.sts pgCAL Cal.S_AVS_BUSY = 0 ∧
        t.nat pgCAL Cal.VCORE_READ = mv % 1024 + 2 ^ 16 * (ma % 2 ^ 16)) ∧
    (s.timeRuns = true → 10 < ((mv : Int) - s.fld pgCAL Cal.VCORE_SET (9, 0)).natAbs → s.reach (t0 + 1000000 * NS) = some a →
      ∃ t, exec (.avsSettle mv ma false) s = .next t ∧ t.cal.avsStopped = true ∧
        t.flag pgCAL PAGE_FAULT Cal.F_AVS_ERROR = true) := by
  rw [exec_avsSettle haclk, exec_avsSettle haclk, State.avsSettle_error hask]
  refine ⟨⟨_, rfl, s.avsFailed_leaves mv ma⟩, fun hruns hnear h => ?_, fun hruns hfar h => ?_⟩
  · rw [State.avsSettle_near hask mv ma hruns hnear h]
    exact ⟨_, rfl, a.avsSettled_leaves mv ma⟩
  · rw [State.avsSettle_far hask mv ma hruns hfar h]
    obtain ⟨hstopped, -, -, hflag⟩ := a.avsFailed_leaves mv ma
    exact ⟨_, rfl, hstopped, hflag⟩

theorem chainMeasure_acts (haclk : s.aclkRuns = true) {i : Fin 128} {errs : List Nat} (hon : s.flag pgCAL Cal.CAL_CTRL 2 = true)
    (hfree : Tab.get (fun _ => false) s.cal.forced i.val = false) {b : Nat} (hb : b < 4)
    (hleast : ∀ k, k < 4 → errs.getD b 0 ≤ errs.getD k 0 ∧ (errs.getD k 0 = errs.getD b 0 → b ≤ k)) :
    (30 < errs.getD (s.chainOf i.val) 0 → errs.getD b 0 ≤ 15 → ∃ t, exec (.chainMeasure i errs) s = .next t ∧ t.chainOf i.val = b ∧
      t.reg pgCAL Cal.RESELECTS = s.reg pgCAL Cal.RESELECTS + 1) ∧
    (30 < errs.getD b 0 → ∃ t, exec (.chainMeasure i errs) s = .next t ∧ t.chainOf i.val = b ∧
      t.flag pgCAL PAGE_FAULT Cal.F_ELEMENT_EXHAUSTED = true) ∧
    (errs.getD b 0 ≤ 30 → errs.getD (s.chainOf i.val) 0 ≤ 30 ∨ 15 < errs.getD b 0 → exec (.chainMeasure i errs) s = .next s) := by
  have hfirst := leastAt_four (e := fun k => errs.getD k 0) hb hleast
  rw [exec_chainMeasure haclk]
  refine ⟨fun hbad hgood => ?_, fun hbad => ?_, fun hgood hkeep => ?_⟩
  · exact ⟨_, rfl, State.chainMeasure_replaced hon hfree hfirst hbad hgood⟩
  · exact ⟨_, rfl, State.chainMeasure_exhausted hon hfree hfirst hbad⟩
  · rw [State.chainMeasure_kept hon hfree hfirst hgood hkeep]

theorem runs_act (r : Requester) (hreach : s.reaches pgCAL = true) :
    (s.calRunning = false → s.counted.refPresent (s.counted.fld pgCAL Cal.CAL_CTRL (1, 0)) = true → ∃ t, exec (.runTime r) s = .next t ∧
      t.cal.run = some ⟨s.counted.fld pgCAL Cal.CAL_CTRL (1, 0), s.fld pgCAL Cal.WINDOW_S (9, 0), s.tln.now⟩ ∧
      t.sts pgCAL Cal.S_CAL_BUSY = 1) ∧
    (s.calRunning = false → s.counted.refPresent (s.counted.fld pgCAL Cal.CAL_CTRL (1, 0)) = false →
      exec (.runTime r) s = .next (s.counted.fault pgCAL Cal.F_NO_REF)) ∧
    (s.calRunning = false → ∃ t, exec (.runAnalog (some r)) s = .next t ∧ t.cal.analog = true ∧ t.sts pgCAL Cal.S_CAL_BUSY = 2) ∧
    (s.calRunning = true → exec (.runTime r) s = .next s.counted ∧ exec (.runAnalog (some r)) s = .next s.counted) ∧
    ∃ t, exec (.calAbort r) s = .next t ∧ t.cal.run = none ∧ t.cal.analog = false ∧ t.sts pgCAL Cal.S_CAL_BUSY = 0 ∧
      t.reg pgCAL Cal.XTAL_ERR = s.reg pgCAL Cal.XTAL_ERR ∧ t.mem = s.mem := by
  have hrunning : s.counted.calRunning = s.calRunning := s.calRunning_congr s.cal_counted
  have hwindow : s.counted.fld pgCAL Cal.WINDOW_S (9, 0) = s.fld pgCAL Cal.WINDOW_S (9, 0) := s.counted_within.fld (by decide) _
  have hnow : s.counted.tln.now = s.tln.now := by rw [State.counted_tln]
  have herr : s.counted.reg pgCAL Cal.XTAL_ERR = s.reg pgCAL Cal.XTAL_ERR := s.counted_within.reg (by decide)
  have hmem := s.mem_counted
  rw [exec_runTime hreach, exec_runAnalog hreach, exec_calAbort hreach, ← hrunning, ← hwindow, ← hnow]
  generalize s.counted = a at herr hmem ⊢
  refine ⟨fun hidle href => ?_, fun hidle href => ?_, fun hidle => ⟨_, rfl, a.runAnalog_begins hidle⟩, fun hrun => ?_, ?_⟩
  · rw [a.runTime_begins hidle href]
    exact ⟨_, rfl, a.timeRunBegun_leaves _⟩
  · rw [a.runTime_noRef hidle href]
  · rw [a.runTime_running hrun, a.runAnalog_running hrun]
    exact ⟨rfl, rfl⟩
  · obtain ⟨hcal, hbusy, hwithin, hkept⟩ := a.runEnds_leaves
    exact ⟨_, rfl, by rw [hcal], by rw [hcal], hbusy, (hwithin.reg (by decide)).trans herr, hkept.trans hmem⟩

theorem State.windowRange_leaves : let t := s.runEnds.fault pgCAL Cal.F_REF_RANGE
    t.cal.run = none ∧ t.sts pgCAL Cal.S_CAL_BUSY = 0 ∧ t.flag pgCAL PAGE_FAULT Cal.F_REF_RANGE = true ∧
      t.reg pgCAL Cal.XTAL_ERR = s.reg pgCAL Cal.XTAL_ERR := by
  obtain ⟨hcal, hbusy, hwithin, -⟩ := s.runEnds_leaves
  dsimp only
  generalize s.runEnds = a at hcal hbusy hwithin ⊢
  have hfault : a.Within (fldSpan pgCAL PAGE_FAULT (Cal.F_REF_RANGE, Cal.F_REF_RANGE) :: irqSpans) (a.fault pgCAL Cal.F_REF_RANGE) :=
    a.calFault_within (by decide) (by decide) (by decide)
  exact ⟨by rw [a.cal_fault, hcal], (hfault.sts (by decide) _).trans hbusy, a.flag_calFault (by decide),
    (hfault.reg (by decide)).trans (hwithin.reg (by decide))⟩

theorem calWindowEnd_acts {x : TimeRun} (nt d : Nat) (hrun : s.cal.run = some x) (haclk : s.aclkRuns = true) :
    (100000 < (crystalErrors x.secs nt d).1.natAbs → ∃ t, exec (.calWindowEnd nt d) s = .next t ∧ t.cal.run = none ∧
      t.sts pgCAL Cal.S_CAL_BUSY = 0 ∧ t.flag pgCAL PAGE_FAULT Cal.F_REF_RANGE = true ∧ t.reg pgCAL Cal.XTAL_ERR = s.reg pgCAL Cal.XTAL_ERR) ∧
    ((crystalErrors x.secs nt d).1.natAbs ≤ 100000 → ∃ t, exec (.calWindowEnd nt d) s = .next t ∧ t.cal.run = none ∧
      t.sts pgCAL Cal.S_CAL_BUSY = 0 ∧ signed 32 (t.nat pgCAL Cal.XTAL_ERR) = (crystalErrors x.secs nt d).1 ∧
      t.reg pgCAL Cal.CAL_COUNT = s.reg pgCAL Cal.CAL_COUNT + 1) := by
  rw [exec_calWindowEnd haclk]
  refine ⟨fun hfar => ?_, fun hnear => ?_⟩
  · rw [State.windowEnd_range hrun nt d hfar]
    exact ⟨_, rfl, s.windowRange_leaves⟩
  · obtain ⟨unc, xt32, unc32, htaken⟩ := State.windowEnd_taken hrun nt d hnear
    rw [htaken]
    exact ⟨_, rfl, s.windowTaken_leaves x.src unc xt32 unc32 hnear⟩

theorem ovrWrite_acts (r : Requester) (low : Bool) (hreach : s.reaches pgCAL = true) :
    (low = false → ∃ t, exec (.ovrWrite r low) s = .next t ∧ t.flag pgCAL PAGE_FAULT Cal.F_GUARD_REFUSED = true ∧ t.cal = s.cal ∧
      t.mem = s.mem) ∧
    (low = true → overrideOk (bits (s.reg pgCAL Cal.OVR_SEL) (2, 0)) (bits (s.reg pgCAL Cal.OVR_SEL) (14, 8))
        (bits (s.reg pgCAL Cal.OVR_SEL) (18, 16)) = true →
      ∃ t, exec (.ovrWrite r low) s = .next t ∧ t.reg pgCAL Cal.CAL_COUNT = s.reg pgCAL Cal.CAL_COUNT + 1 ∧
        (bits (s.reg pgCAL Cal.OVR_SEL) (2, 0) = 3 → t.reg pgCAL Cal.XTAL_ERR = s.reg pgCAL Cal.OVR_VALUE) ∧
        (bits (s.reg pgCAL Cal.OVR_SEL) (2, 0) < 3 → Tab.get (fun _ => false) t.cal.forced
          (elementOf (bits (s.reg pgCAL Cal.OVR_SEL) (2, 0)) (bits (s.reg pgCAL Cal.OVR_SEL) (14, 8))) = !bit (s.reg pgCAL Cal.OVR_SEL) 19) ∧
        (bits (s.reg pgCAL Cal.OVR_SEL) (2, 0) = 0 → bit (s.reg pgCAL Cal.OVR_SEL) 19 = false →
          t.chainOf (bits (s.reg pgCAL Cal.OVR_SEL) (14, 8)) = bits (s.reg pgCAL Cal.OVR_SEL) (18, 16))) ∧
    (low = true → overrideOk (bits (s.reg pgCAL Cal.OVR_SEL) (2, 0)) (bits (s.reg pgCAL Cal.OVR_SEL) (14, 8))
        (bits (s.reg pgCAL Cal.OVR_SEL) (18, 16)) = false →
      ∃ t, exec (.ovrWrite r low) s = .next t ∧ t.flag pgCAL PAGE_FAULT F_BAD_VALUE = true ∧ t.cal = s.cal ∧ t.mem = s.mem) := by
  have hsel : (s.presence low).counted.reg pgCAL Cal.OVR_SEL = s.reg pgCAL Cal.OVR_SEL := s.reg_presence low (by decide)
  have hval : (s.presence low).counted.reg pgCAL Cal.OVR_VALUE = s.reg pgCAL Cal.OVR_VALUE := s.reg_presence low (by decide)
  have hcount : (s.presence low).counted.reg pgCAL Cal.CAL_COUNT = s.reg pgCAL Cal.CAL_COUNT := s.reg_presence low (by decide)
  have hcal := s.cal_presence low
  have hmem := s.mem_presence low
  have hpin := s.low_presence low
  rw [exec_ovrWrite hreach, ← hsel, ← hval, ← hcount, ← hcal, ← hmem]
  generalize (s.presence low).counted = a at hpin ⊢
  refine ⟨fun hoff => ?_, fun hon hok => ?_, fun hon hbad => ?_⟩
  · rw [a.ovrWrite_high (hpin.trans hoff)]
    exact ⟨_, rfl, a.calRefused_leaves _ (by decide) _⟩
  · rw [State.ovrWrite_good (hpin.trans hon) hok]
    obtain ⟨hcounted, herr, hforce, hchain⟩ := a.override_leaves (bits (a.reg pgCAL Cal.OVR_SEL) (2, 0))
      (bits (a.reg pgCAL Cal.OVR_SEL) (14, 8)) (bits (a.reg pgCAL Cal.OVR_SEL) (18, 16)) (bit (a.reg pgCAL Cal.OVR_SEL) 19)
    generalize a.override (bits (a.reg pgCAL Cal.OVR_SEL) (2, 0)) (bits (a.reg pgCAL Cal.OVR_SEL) (14, 8))
      (bits (a.reg pgCAL Cal.OVR_SEL) (18, 16)) (bit (a.reg pgCAL Cal.OVR_SEL) 19) = b at hcounted herr hforce hchain ⊢
    obtain ⟨hsame, hrec, hwithin⟩ := b.calRecorded_leaves 0x831 5
    refine ⟨_, rfl, hrec.trans (congrArg (· + 1) hcounted), fun hk => (hwithin.reg (by decide)).trans (herr hk), fun hk => ?_, fun hk hset => ?_⟩
    · rw [hsame.forced]
      exact hforce hk
    · rw [State.chainOf, hsame.chain]
      exact hchain hk hset
  · rw [State.ovrWrite_bad (hpin.trans hon) hbad]
    exact ⟨_, rfl, a.flag_calFault (by decide), a.cal_fault _ _, a.mem_fault _ _⟩

theorem marginMeasure_acts (slack plus : List Nat) (haclk : s.aclkRuns = true) :
    ∃ t, exec (.marginMeasure slack plus) s = .next t ∧ t.nat pgCAL Cal.MARGIN_CORE = min 255 (slack.getD 4 255) ∧
      t.nat pgCAL Cal.MARGIN = packFields 8 (fun k => min 255 (slack.getD k 255)) 4 ∧
      ∀ i, i < 32 →
        (plus.getD i 255 < s.marginLow → t.flag pgCAL Cal.PLU_WAIT i = true) ∧
        (s.marginLow + 10 < plus.getD i 255 → t.flag pgCAL Cal.PLU_WAIT i = false) ∧
        (s.marginLow ≤ plus.getD i 255 → plus.getD i 255 ≤ s.marginLow + 10 →
          t.flag pgCAL Cal.PLU_WAIT i = s.flag pgCAL Cal.PLU_WAIT i) := by
  obtain ⟨hcore, hmargin, hwait⟩ := s.marginMeasure_leaves slack plus
  rw [exec_marginMeasure haclk]
  refine ⟨_, rfl, hcore, hmargin, fun i hi => ⟨fun hlow => ?_, fun hhigh => ?_, fun hlow hhigh => ?_⟩⟩
  · rw [hwait i hi, State.waits, if_pos hlow]
  · rw [hwait i hi, State.waits, if_neg (by omega), if_pos hhigh]
  · rw [hwait i hi, State.waits, if_neg (by omega), if_neg (by omega)]

theorem pmbAlert_acts (haclk : s.aclkRuns = true) : exec (.pmbAlert false) s = .next (s.trigger 0x823 pgCAL) ∧
    exec (.pmbAlert true) s = .next (s.avsError.trigger 0x823 pgCAL) ∧ s.avsError.cal.avsStopped = true := by
  rw [exec_pmbAlert haclk, exec_pmbAlert haclk, State.pmbAlert, State.pmbAlert, if_pos rfl, if_neg Bool.false_ne_true]
  exact ⟨rfl, rfl, s.avsError_leaves.1⟩

theorem analogRunDone_acts (codes : List (List (Int × Nat))) (hrun : s.cal.analog = true) (haclk : s.aclkRuns = true) :
    ∃ t, exec (.analogRunDone codes) s = .next t ∧ t.cal.analog = false ∧ t.sts pgCAL Cal.S_CAL_BUSY = 0 ∧
      t.reg pgCAL Cal.CAL_COUNT = s.reg pgCAL Cal.CAL_COUNT + 1 ∧
      ∀ c, c < 36 → 3950 ≤ (s.codeTaken codes c).2 → (s.codeTaken codes c).2 ≤ 4050 →
        t.pairOf c = s.pairTaken codes c ∧ Tab.get (fun _ => vrefInit) t.cal.vref c = (s.codeTaken codes c).2 := by
  rw [exec_analogRunDone haclk]
  exact ⟨_, rfl, s.analogDone_leaves codes hrun⟩

theorem dailyAnalog_acts {a : State} (hon : s.flag pgCAL Cal.CAL_CTRL 3 = true)
    (h : s.reachTick tickAnalog (86400 * SEC * NS) 0 = some a) (hidle : s.calRunning = false) :
    ∃ t, exec (.runAnalog none) s = .next t ∧ t.cal.analog = true ∧ t.sts pgCAL Cal.S_CAL_BUSY = 2 := by
  obtain ⟨-, -, hcal, -⟩ := State.reachTick_parts h
  rw [exec_runAnalog_daily, s.dailyAnalog_reached hon h]
  exact ⟨_, rfl, a.runAnalog_begins ((s.calRunning_congr hcal).trans hidle)⟩

end

end Sys2Proof.Machine

open Sys2Proof Sys2Proof.Machine

/-- Settles O48, clause by clause: margins, VCORE requests, alerts, chains, the begin, abort and end of runs, and overrides. -/
theorem calibrationActs : Obligations.CalibrationActs := by
  unfold Obligations.CalibrationActs
  refine ⟨fun s slack plus haclk => marginMeasure_acts s slack plus haclk,
    fun s a t0 mv ma hask haclk => avsSettle_acts s a mv ma hask haclk, fun s haclk => pmbAlert_acts s haclk,
    fun s i errs haclk hon _ hfree _ hb hleast => chainMeasure_acts s haclk hon hfree hb hleast, fun s r hreach => runs_act s r hreach,
    fun s a hon h hidle => dailyAnalog_acts s hon h hidle, fun s x nt d hrun haclk => calWindowEnd_acts s nt d hrun haclk,
    fun s codes hrun haclk => analogRunDone_acts s codes hrun haclk, fun s r low hreach => ovrWrite_acts s r low hreach⟩
end

section
/-!
Staging, activation and the Golden write (R677 to R689): what their parts leave.
-/
set_option Elab.async false
namespace Sys2Proof.Machine

/-! ### The slots and the journal (R668, R684) -/

/-- The head of a slot lies in memory, apart from the register image. -/
theorem slot_memory {n i : Nat} (hn : n < 3) (hi : i < 0x400000) : isMemory (slotBase n + i) = true ∧ isImage (slotBase n + i) = false := by
  unfold isMemory isImage slotBase FERAM_BASE DRAM_BASE DRAM_END
  norm_num
  omega

/-- The journal lies behind the Shelf slot's head. -/
theorem journal_after {x : Nat} (hx : x < JOURNAL_A) (b : Bool) : x < if b then JOURNAL_B else JOURNAL_A := by
  unfold JOURNAL_A at hx
  unfold JOURNAL_A JOURNAL_B
  cases b
  · exact hx
  · exact Nat.lt_of_lt_of_le hx (by simp only [if_true]; omega)

theorem slot_before_journal {n i : Nat} (hn : n < 3) (hi : i < 0x4F80) : slotBase n + i < JOURNAL_A := by
  unfold JOURNAL_A slotBase
  omega

section
variable (s : State)

theorem State.journalWrite_within {l : List Span} (phase next : Nat) (time : List Byte) : s.Within l (s.journalWrite phase next time) := by
  unfold State.journalWrite
  extract_lets h gen l'
  exact s.setBytes_within _ _

theorem State.journalWrite_byte (phase next : Nat) (time : List Byte) {x : Nat} (hx : x < JOURNAL_A) :
    (s.journalWrite phase next time).byte x = s.byte x := by
  unfold State.journalWrite
  extract_lets h gen l'
  exact State.byte_setBytes_of (.inl (journal_after hx _))

theorem State.journalWrite_parts (phase next : Nat) (time : List Byte) : (s.journalWrite phase next time).fwu = s.fwu ∧
    (s.journalWrite phase next time).pwr = s.pwr ∧ (s.journalWrite phase next time).tln = s.tln := by
  have h := State.journalWrite_keeps (phase := phase) (next := next) (time := time) (s.keeps_parts 0x2100000200) (Keep.off_of_and (by decide))
  exact ⟨h.fwu_eq, h.pwr_eq, h.tln_eq⟩

theorem State.imageHeader_congr {t : State} (h : ∀ x, t.byte x = s.byte x) (a n : Nat) : t.bytes a n = s.bytes a n := by
  induction n generalizing a with
  | zero => rfl
  | succ n ih => rw [State.bytes, State.bytes, h, ih]

theorem State.deviceId_congr {t : State} (hdev : ∀ j, j < 4 → t.nat pgFWU (Fwu.DEV_ID j) = s.nat pgFWU (Fwu.DEV_ID j)) :
    t.deviceId = s.deviceId := by
  have hfold (n : Nat) (hn : n ≤ 4) : (List.range n).foldl (fun a j => a + t.nat pgFWU (Fwu.DEV_ID j) * 2 ^ (32 * j)) 0
      = (List.range n).foldl (fun a j => a + s.nat pgFWU (Fwu.DEV_ID j) * 2 ^ (32 * j)) 0 := by
    induction n with
    | zero => rfl
    | succ n ih =>
      rw [List.range_succ, List.foldl_append, List.foldl_append, ih (by omega), List.foldl_cons, List.foldl_nil, List.foldl_cons,
        List.foldl_nil, hdev n (by omega)]
  exact hfold 4 (Nat.le_refl _)

section
variable {s} {t : State} (h : ∀ x, t.byte x = s.byte x) (hfwu : t.fwu = s.fwu)
include h hfwu

theorem State.blockOk_congr (base : Nat) (head : List Byte) (i : Nat) : t.blockOk base head i = s.blockOk base head i := by
  have hkey (k : Nat) : t.keyOf k = s.keyOf k := by rw [State.keyOf, hfwu, State.keyOf]
  have hplain : t.imagePlain base head i = s.imagePlain base head i := by
    unfold State.imagePlain
    rw [hkey, s.imageHeader_congr h, s.imageHeader_congr h]
  unfold State.blockOk
  rw [hplain]

/-- The checks of an image depend on memory, the fuses and the device's identity alone. -/
theorem State.imageFault_congr (hdev : ∀ j, j < 4 → t.nat pgFWU (Fwu.DEV_ID j) = s.nat pgFWU (Fwu.DEV_ID j)) (base : Nat) :
    t.imageFault base = s.imageFault base := by
  have hheader : t.imageHeader base = s.imageHeader base := s.imageHeader_congr h _ _
  have hkey (head : List Byte) : t.keyOk head = s.keyOk head := by
    simp only [State.keyOk, State.keyDone, State.pubDone, State.keyRevoked, State.pubOf, hfwu]
  have hsignature (head : List Byte) : t.signatureOk base head = s.signatureOk base head := by
    unfold State.signatureOk State.imageTags
    rw [s.imageHeader_congr h]
  have htarget (head : List Byte) : t.targetOk head = s.targetOk head := by
    unfold State.targetOk
    rw [s.deviceId_congr hdev]
  have hblock (head : List Byte) : (fun i => !t.blockOk base head i) = fun i => !s.blockOk base head i :=
    funext fun i => congrArg (!·) (State.blockOk_congr h hfwu base head i)
  unfold State.imageFault
  dsimp only
  rw [hheader, hkey, hsignature, htarget, hfwu, hblock]

end

/-- The reasons of R672 fit their field. -/
theorem State.imageFault_reason {base : Nat} {x : Nat × Nat} (h : s.imageFault base = some x) : x.1 < 16 := by
  unfold State.imageFault at h
  dsimp only at h
  split at h
  · cases h; decide
  split at h
  · cases h; decide
  split at h
  · cases h; decide
  split at h
  · cases h; decide
  split at h
  · cases h; decide
  · obtain ⟨i, -, rfl⟩ := Option.map_eq_some_iff.1 h
    exact (by decide : 6 < 16)

/-! ### States of staging and activation (R677, R680) -/

/-- What a change of STAGE_STATE writes. -/
abbrev stageSpans : List Span := regSpan pgFWU Fwu.SHELF_VERSION :: fldSpan pgFWU PAGE_STATUS Fwu.S_STAGE_STATE :: irqSpans

/-- What a change of ACT_STATE writes. -/
abbrev actSpans : List Span := fldSpan pgFWU PAGE_STATUS Fwu.S_ACT_STATE :: irqSpans

theorem State.stage_within (n : Nat) : s.Within stageSpans (s.setStage n) :=
  (State.Within.refl s).ite (((State.Within.refl s).write.setSts (by decide)).irq (by decide))

theorem State.setAct_within (n : Nat) : s.Within actSpans (s.setAct n) :=
  (State.Within.refl s).ite (((State.Within.refl s).setSts (by decide)).irq (by decide))

theorem State.stageState_setStage {n : Nat} (hn : n < 8) : (s.setStage n).stageState = n := by
  unfold State.setStage
  split
  · next h => exact h
  · refine ((State.irq_within 49).sts (by decide) _).trans ((State.sts_setSts_self _ _ (by decide) n).trans ?_)
    exact Nat.mod_eq_of_lt hn

theorem State.actState_setAct {n : Nat} (hn : n < 8) : (s.setAct n).actState = n := by
  unfold State.setAct
  split
  · next h => exact h
  · refine ((State.irq_within 50).sts (by decide) _).trans ((State.sts_setSts_self _ _ (by decide) n).trans ?_)
    exact Nat.mod_eq_of_lt hn

/-- What the steps of staging leave: memory, the fuses and what holds the die. -/
structure State.FwuKept (s t : State) : Prop where
  mem : t.mem = s.mem
  boot : t.boot = s.boot
  fwu : t.fwu = s.fwu
  pwr : t.pwr = s.pwr
  tln : t.tln = s.tln

theorem State.FwuKept.refl (s : State) : s.FwuKept s := ⟨rfl, rfl, rfl, rfl, rfl⟩

theorem State.FwuKept.trans {s t u : State} (h : s.FwuKept t) (g : t.FwuKept u) : s.FwuKept u :=
  ⟨g.mem.trans h.mem, g.boot.trans h.boot, g.fwu.trans h.fwu, g.pwr.trans h.pwr, g.tln.trans h.tln⟩

theorem State.FwuKept.byte {s t : State} (h : s.FwuKept t) (x : Nat) : t.byte x = s.byte x := State.byte_congr h.mem h.boot x

theorem State.setStage_kept (n : Nat) : s.FwuKept (s.setStage n) := by
  have h := State.setStage_keeps (n := n) (s.keeps_parts 0x2500000210) (Keep.off_of_and (by decide))
  exact ⟨h.mem_eq, h.boot_eq, h.fwu_eq, h.pwr_eq, h.tln_eq⟩

theorem State.setAct_kept (n : Nat) : s.FwuKept (s.setAct n) := by
  have h := State.setAct_keeps (n := n) (s.keeps_parts 0x2500000210) (Keep.off_of_and (by decide))
  exact ⟨h.mem_eq, h.boot_eq, h.fwu_eq, h.pwr_eq, h.tln_eq⟩

theorem State.fault_kept (page n : Nat) : s.FwuKept (s.fault page n) := by
  have h := State.fault_keeps (page := page) (n := n) (s.keeps_parts 0x2500000210) (Keep.off_of_and (by decide))
  exact ⟨h.mem_eq, h.boot_eq, h.fwu_eq, h.pwr_eq, h.tln_eq⟩

theorem State.trigger_kept (code page : Nat) : s.FwuKept (s.trigger code page) := by
  have h := State.trigger_keeps (code := code) (page := page) (s.keeps_parts 0x2500000210) (Keep.off_of_and (by decide))
  exact ⟨h.mem_eq, h.boot_eq, h.fwu_eq, h.pwr_eq, h.tln_eq⟩

theorem State.counted_kept : s.FwuKept s.counted := by
  have h := State.count_keeps (n := 1222) (k := 1) (s.keeps_parts 0x2500000210) (Keep.off_of_and (by decide))
  exact ⟨h.mem_eq, h.boot_eq, h.fwu_eq, h.pwr_eq, h.tln_eq⟩

theorem State.setNat_kept (page off n : Nat) : s.FwuKept (s.setNat page off n) :=
  ⟨State.setReg_mem s _ _ _, State.setReg_boot s _ _ _, State.setReg_fwu s _ _ _, State.setReg_pwr s _ _ _, State.setReg_tln s _ _ _⟩

end

/-! ### Staging (R677 to R679) -/

section
variable (s : State)

/-- The staging is not the partner's. -/
def State.stageOwn : State := s.modFwu (fun f => { f with peerStage := false, peerMagic := [] })

theorem State.stageOwn_leaves : s.stageOwn.fwu.peerStage = false ∧ s.stageOwn.mem = s.mem ∧ s.stageOwn.boot = s.boot ∧
    (∀ l, s.Within l s.stageOwn) := ⟨rfl, rfl, rfl, fun _ => s.modFwu_within _⟩

theorem State.stageEnd_none : s.stageEnd none = (s.stageOwn.setReason 0 0).setStage 2 := rfl
theorem State.stageEnd_some (r b : Nat) : s.stageEnd (some (r, b))
    = (((s.stageOwn.shelfMagic 0).setReason r b).fault pgFWU Fwu.F_STAGE_BAD).setStage 3 := rfl

theorem State.shelfMagic_byte {i : Nat} (hi : i < 4) : (s.shelfMagic 0).byte (slotBase 2 + i) = 0 := by
  obtain ⟨hmem, himage⟩ := slot_memory (n := 2) (by decide) (show i < 0x400000 by omega)
  rw [State.shelfMagic, State.setMem, State.byte_setBytes (by rw [length_leBytes]; exact hi) hmem himage]
  interval_cases i <;> rfl

theorem State.setReason_info (r b : Nat) (hr : r < 16) : (s.setReason r b).fld pgFWU Fwu.FWU_INFO (3, 0) = r := by
  have hreg : (s.setReason r b).reg pgFWU Fwu.FWU_INFO = BitVec.ofNat 32 (r + 2 ^ 16 * (b % 1024)) := State.reg_setReg_self _ _ _ _
  rw [State.fld, hreg]
  simp only [bits, BitVec.toNat_ofNat]
  norm_num
  omega

/-- A staging that ends BAD. -/
theorem State.stageBad_leaves {r : Nat} (b : Nat) (hr : r < 16) : (s.stageEnd (some (r, b))).stageState = 3 ∧
    (s.stageEnd (some (r, b))).fld pgFWU Fwu.FWU_INFO (3, 0) = r ∧
    (s.stageEnd (some (r, b))).flag pgFWU PAGE_FAULT Fwu.F_STAGE_BAD = true ∧
    (∀ i, i < 4 → (s.stageEnd (some (r, b))).byte (slotBase 2 + i) = 0) ∧ (s.stageEnd (some (r, b))).fwu.peerStage = false := by
  rw [s.stageEnd_some]
  have hmagic (i : Nat) (hi : i < 4) := s.stageOwn.shelfMagic_byte hi
  have hpeer : (s.stageOwn.shelfMagic 0).fwu.peerStage = false := by
    have hkeeps := State.setBytes_keeps (a := slotBase 2) (a2 := leBytes 4 0) (s.stageOwn.keeps_parts 0x2000000000) (Keep.off_of_and (by decide))
    exact (congrArg FwuState.peerStage hkeeps.fwu_eq).trans s.stageOwn_leaves.1
  generalize s.stageOwn.shelfMagic 0 = a at hmagic hpeer ⊢
  have hinfo := a.setReason_info r b hr
  have hset : a.FwuKept (a.setReason r b) := a.setNat_kept _ _ _
  generalize a.setReason r b = c at hinfo hset ⊢
  have hbad : (c.fault pgFWU Fwu.F_STAGE_BAD).flag pgFWU PAGE_FAULT Fwu.F_STAGE_BAD = true :=
    State.flag_fault c pageInfo_pgFWU rfl (by decide) (by decide)
  have hfault : c.Within (fldSpan pgFWU PAGE_FAULT (Fwu.F_STAGE_BAD, Fwu.F_STAGE_BAD) :: irqSpans) (c.fault pgFWU Fwu.F_STAGE_BAD) :=
    (State.Within.refl c).faultBit pageInfo_pgFWU rfl (by decide) (by decide) (by decide)
  have hkept := hset.trans (c.fault_kept pgFWU Fwu.F_STAGE_BAD)
  generalize c.fault pgFWU Fwu.F_STAGE_BAD = d at hbad hfault hkept ⊢
  have hstage := d.stage_within 3
  have hall := hkept.trans (d.setStage_kept 3)
  refine ⟨d.stageState_setStage (by decide), (hstage.fld (by decide) _).trans ((hfault.fld (by decide) _).trans hinfo),
    (hstage.flag (by decide) _).trans hbad, fun i hi => (hall.byte _).trans (hmagic i hi), ?_⟩
  rw [hall.fwu]
  exact hpeer

theorem imageVersion_lt (h : List Byte) : imageVersion h < 2 ^ 32 := by
  have hlt := leVal_lt (slice h 0x18 4)
  rw [length_slice] at hlt
  exact hlt

/-- A staging that ends VALID. -/
theorem State.stageValid_leaves (hstage : s.stageState = 1) : (s.stageEnd none).stageState = 2 ∧ (s.stageEnd none).mem = s.mem ∧
    (s.stageEnd none).nat pgFWU Fwu.SHELF_VERSION = imageVersion (s.imageHeader (slotBase 2)) := by
  obtain ⟨-, hmem, hboot, hwithin⟩ := s.stageOwn_leaves
  rw [s.stageEnd_none]
  generalize s.stageOwn = a at hmem hboot hwithin ⊢
  have hset : a.FwuKept (a.setReason 0 0) := a.setNat_kept _ _ _
  have hreason : a.Within [regSpan pgFWU Fwu.FWU_INFO] (a.setReason 0 0) := (State.Within.refl a).write
  have hstill : (a.setReason 0 0).stageState = 1 := (hreason.sts (by decide) _).trans (((hwithin []).sts (by decide) _).trans hstage)
  have hheader : (a.setReason 0 0).imageHeader (slotBase 2) = s.imageHeader (slotBase 2) :=
    State.bytes_congr (hset.mem.trans hmem) (hset.boot.trans hboot) _ _
  have hmem' := hset.mem.trans hmem
  generalize a.setReason 0 0 = c at hstill hheader hmem' ⊢
  refine ⟨c.stageState_setStage (by decide), (c.setStage_kept 2).mem.trans hmem', ?_⟩
  unfold State.setStage
  rw [if_neg (by rw [hstill]; decide), if_pos rfl, hheader]
  generalize hv : imageVersion (s.imageHeader (slotBase 2)) = v
  have hlt : v < 2 ^ 32 := hv ▸ imageVersion_lt _
  have hver : (c.setNat pgFWU Fwu.SHELF_VERSION v).nat pgFWU Fwu.SHELF_VERSION = v :=
    (State.nat_setNat_same _ _ _ _).trans (Nat.mod_eq_of_lt hlt)
  generalize c.setNat pgFWU Fwu.SHELF_VERSION v = d at hver ⊢
  have hrest : d.Within (fldSpan pgFWU PAGE_STATUS Fwu.S_STAGE_STATE :: irqSpans) ((d.setSts pgFWU Fwu.S_STAGE_STATE 2).irq 49) := ((State.Within.refl d).setSts (by decide)).irq (by decide)
  exact (hrest.nat (by decide)).trans hver

end

end Sys2Proof.Machine
end

section
/-!
Activation, the Golden write, fuses and the partner's identity (R674 to R693): O49.
-/
set_option Elab.async false
namespace Sys2Proof.Machine

section
variable (s : State)

/-! ### Staging begins and ends (R677, R678) -/

/-- What a staging is told at its begin. -/
def State.stageNoted (peer : Bool) (at_ len : Nat) : State :=
  s.modFwu (fun f => { f with peerStage := peer, peerMagic := [0, 0, 0, 0], stageAt := at_, stageLen := len })

theorem State.stageBegin_refused (h : s.sealOpen = true) (peer : Bool) : s.stageBegin peer = s.refuseAct 7 := if_pos h

theorem State.stageBegin_busy (hseal : s.sealOpen = false) (h : s.stageState = 1 ∨ s.actState ≠ 0 ∨ s.fwu.golden = true) (peer : Bool) :
    s.stageBegin peer = s.refuseAct 10 := by
  unfold State.stageBegin
  rw [if_neg (by rw [hseal]; decide), if_pos h]

/-- A copy to the partner is given up before a staging. -/
def State.sendGiven : State := if s.fwu.sending.isSome then s.sendStop.tsxSend 0x32 2 (beBytes 1 4 ++ beBytes 7 0) else s

theorem State.stageBegin_eq (hseal : s.sealOpen = false) (h : ¬(s.stageState = 1 ∨ s.actState ≠ 0 ∨ s.fwu.golden = true)) (peer : Bool) :
    s.stageBegin peer = ((((s.sendGiven.setStage 1).shelfMagic 0).journalPut 0).journalPut 0).stageNoted peer
      (s.addr pgFWU Fwu.STAGE_ADDR_LO Fwu.STAGE_ADDR_HI) (s.fld pgFWU Fwu.STAGE_LEN (22, 0)) := by
  unfold State.stageBegin
  rw [if_neg (by rw [hseal]; decide), if_neg h]
  rfl

theorem State.stageBegun_leaves (peer : Bool) (at_ len : Nat) :
    let t := ((((s.setStage 1).shelfMagic 0).journalPut 0).journalPut 0).stageNoted peer at_ len
    t.stageState = 1 ∧ t.fwu.peerStage = peer ∧ t.fwu.stageAt = at_ ∧ t.fwu.stageLen = len ∧
      ∀ i, i < 4 → t.byte (slotBase 2 + i) = 0 := by
  have hstage := s.stageState_setStage (n := 1) (by decide)
  dsimp only
  generalize s.setStage 1 = a at hstage ⊢
  have hmagic (i : Nat) (hi : i < 4) := a.shelfMagic_byte hi
  have hset : a.Within [] (a.shelfMagic 0) := a.setMem_within _ _ _
  generalize a.shelfMagic 0 = b at hmagic hset ⊢
  have hjournal : b.Within [] ((b.journalPut 0).journalPut 0) := (b.journalWrite_within 0 0 []).trans (State.journalWrite_within _ 0 0 [])
  have hbyte (i : Nat) (hi : i < 4) : ((b.journalPut 0).journalPut 0).byte (slotBase 2 + i) = 0 := by
    have hx : slotBase 2 + i < JOURNAL_A := slot_before_journal (by decide) (by omega)
    exact (State.journalWrite_byte _ 0 0 [] hx).trans ((b.journalWrite_byte 0 0 [] hx).trans (hmagic i hi))
  generalize (b.journalPut 0).journalPut 0 = c at hjournal hbyte ⊢
  refine ⟨?_, rfl, rfl, rfl, hbyte⟩
  exact (hjournal.sts (by decide) _).trans ((hset.sts (by decide) _).trans hstage)

section
variable {s} (hstage : s.stageState = 1)
include hstage

theorem State.stageDone_size (hown : s.fwu.peerStage = false)
    (hsize : (dramSpan s.fwu.stageAt s.fwu.stageLen && s.fwu.stageLen == imageLength (s.imageHeader s.fwu.stageAt)) = false) :
    s.stageDone = s.stageEnd (some (8, 0)) := by
  unfold State.stageDone
  dsimp only
  rw [if_neg (by rw [hown, hstage]; decide), bne, ← Bool.not_and, hsize, if_pos Bool.not_false]

theorem State.stageDone_copied (hown : s.fwu.peerStage = false)
    (hsize : (dramSpan s.fwu.stageAt s.fwu.stageLen && s.fwu.stageLen == imageLength (s.imageHeader s.fwu.stageAt)) = true) :
    s.stageDone = (s.shelfBytes 0 (s.bytes s.fwu.stageAt s.fwu.stageLen)).stageEnd
      ((s.shelfBytes 0 (s.bytes s.fwu.stageAt s.fwu.stageLen)).imageFault (slotBase 2)) := by
  unfold State.stageDone
  dsimp only
  rw [if_neg (by rw [hown, hstage]; decide), bne, ← Bool.not_and, hsize, if_neg (by decide)]

end

theorem State.shelfBytes_live (o : Nat) (l : List Byte) : (s.shelfBytes o l).live = s.live := by
  exact (State.shelfBytes_keeps (o := o) (a := l) (s.keeps_parts 0x2) (Keep.off_of_and (by decide))).live_eq

theorem State.shelfBytes_stage (o : Nat) (l : List Byte) : (s.shelfBytes o l).stageState = s.stageState :=
  ((State.Within.refl (l := []) s).upd (s.shelfBytes_live o l)).sts (by decide) _

/-! ### Activation (R680 to R683) -/

theorem State.mustDefer_within {l : List Span} {t : State} (h : s.Within l t) (hctrl : clearOf l (regKey pgFWU Fwu.FWU_CTRL))
    (htl : clearOf l (regKey pgTLN PAGE_STATUS)) (hred : clearOf l (regKey pgRED PAGE_STATUS)) : t.mustDefer = s.mustDefer := by
  have htime : t.tlState = s.tlState := h.sts htl _
  have hstile : t.stileHeld = s.stileHeld := congrArg (· == 1) (h.sts hred _)
  rw [State.mustDefer, h.flag hctrl, h.flag hctrl, htime, hstile, State.mustDefer]

theorem State.dieReset_leaves (haclk : s.aclkRuns = true) (cause : Nat) :
    (s.dieReset cause).boot.cause = cause ∧ (s.dieReset cause).evr.writing = none ∧ (s.dieReset cause).stileHeld = false := by
  obtain ⟨hcause, -⟩ := s.hardReset_boot false cause
  have hevr : (s.hardReset false cause).evr.writing = none := by
    obtain ⟨b, heq, hwriting⟩ : ∃ b : State, s.hardReset false cause = (b.railBits.setFld pgCLK Clk.CLK_STATUS (3, 3)
        (s.fld pgSYS Sys.SYS_CFG (0, 0))).setSts pgTLN Tln.S_TL_STATE (if s.timeKept.isSome then 4 else 0) ∧ b.railBits.evr.writing = none :=
      ⟨_, rfl, rfl⟩
    rw [heq, State.setSts_eq, State.setReg_evr, State.setFld_eq, State.setReg_evr, hwriting]
  have hstile : (s.hardReset false cause).stileHeld = false := by
    have hreg := s.reg_hardReset_of_ne false cause (page := pgRED) (off := PAGE_STATUS) (by decide) (by decide) (by decide) (by decide) (by decide)
    rw [State.stileHeld, State.sts, State.fld, hreg]
    decide
  unfold State.dieReset
  rw [if_neg (by rw [haclk]; decide)]
  generalize s.hardReset false cause = a at hcause hevr hstile ⊢
  unfold State.beginStart
  split
  · have hset : a.Within [regSpan pgSYS Sys.START_STEP] (a.setNat pgSYS Sys.START_STEP 2) := (State.Within.refl a).write
    refine ⟨?_, ?_, (congrArg (· == 1) (hset.sts (by decide) _)).trans hstile⟩
    · rw [State.setNat, State.setReg_boot, hcause]
    · rw [State.setNat, State.setReg_evr, hevr]
  · exact ⟨hcause, hevr, hstile⟩

theorem State.actReached_defers (h : s.mustDefer = true) : s.actReached.actState = 2 := by
  rw [State.actReached, if_pos h]
  exact s.actState_setAct (by decide)

theorem State.actReached_resets (h : s.mustDefer = false) (haclk : s.aclkRuns = true) :
    s.actReached.boot.cause = 0x40 ∧ s.actReached.evr.writing = none ∧ s.actReached.stileHeld = false := by
  rw [State.actReached, if_neg (by rw [h]; decide)]
  refine State.dieReset_leaves _ ?_ 0x40
  have hput : (s.journalPut 2).pwr = s.pwr := (s.journalWrite_parts 2 0 []).2.1
  have hact : ((s.journalPut 2).setAct 3).pwr = (s.journalPut 2).pwr := (State.setAct_kept _ 3).pwr
  generalize (s.journalPut 2).setAct 3 = a at hact ⊢
  have htold : (a.trigger 0x841 pgFWU).pwr = a.pwr := (a.trigger_kept 0x841 pgFWU).pwr
  generalize a.trigger 0x841 pgFWU = b at htold ⊢
  have hwritten : b.writeRecords.pwr = b.pwr := (State.writeRecords_keeps (b.keeps_parts 0x100000000) (Keep.off_of_and (by decide))).pwr_eq
  rw [State.aclkRuns, hwritten, htold, hact, hput]
  exact haclk

/-- What an ACTIVATE of the mode of FWU_CTRL does with a VALID Shelf. -/
theorem State.activate_valid (hseal : s.sealOpen = false) (hidle : s.actState = 0) (hgolden : s.fwu.golden = false) (hstage : s.stageState = 2)
    (hsys : ¬(s.sysState = 3 ∧ s.fld pgFWU Fwu.FWU_CTRL (5, 4) ≠ 2)) : s.activate
      = if s.fld pgFWU Fwu.FWU_CTRL (5, 4) = 1 then (s.journalPut 2).setAct 3
        else if s.fld pgFWU Fwu.FWU_CTRL (5, 4) = 2 then ((s.journalWrite 1 0 (timeValOf s.tln.now).memBytes).setAct 1).actReached
        else if SEC ≤ s.actTime.ns then s.badValue pgFWU
        else (s.journalWrite 1 0 s.actTime.memBytes).setAct 1 := by
  unfold State.activate
  dsimp only
  rw [if_neg (by rw [hseal]; decide), if_neg (by rw [hidle, hgolden]; decide), if_neg (by rw [hstage]; decide), if_neg hsys]

theorem State.activate_seal (hseal : s.sealOpen = true) : s.activate = s.refuseAct 7 := by
  unfold State.activate
  dsimp only
  rw [if_pos hseal]

theorem State.activate_busy (hseal : s.sealOpen = false) (h : s.actState ≠ 0 ∨ s.fwu.golden = true) : s.activate = s.refuseAct 10 := by
  unfold State.activate
  dsimp only
  rw [if_neg (by rw [hseal]; decide), if_pos h]

theorem State.activate_refused (hseal : s.sealOpen = false) (hidle : s.actState = 0) (hgolden : s.fwu.golden = false)
    (h : s.stageState ≠ 2 ∨ s.sysState = 3 ∧ s.fld pgFWU Fwu.FWU_CTRL (5, 4) ≠ 2) : s.activate = s.refuseAct 0 := by
  unfold State.activate
  dsimp only
  rw [if_neg (by rw [hseal]; decide), if_neg (by rw [hidle, hgolden]; decide)]
  by_cases hstage : s.stageState = 2
  · rw [if_neg (not_not.2 hstage), if_pos (h.resolve_left (not_not.2 hstage))]
  · rw [if_pos hstage]

/-- An activation at once first arms the present time. -/
theorem State.armed_leaves (time : List Byte) : ((s.journalWrite 1 0 time).setAct 1).mustDefer = s.mustDefer ∧
    ((s.journalWrite 1 0 time).setAct 1).pwr = s.pwr ∧ ((s.journalWrite 1 0 time).setAct 1).actState = 1 := by
  have hall : s.Within actSpans ((s.journalWrite 1 0 time).setAct 1) := (s.journalWrite_within 1 0 time).trans (State.setAct_within _ 1)
  exact ⟨s.mustDefer_within hall (by decide) (by decide) (by decide),
    (State.setAct_kept _ 1).pwr.trans (s.journalWrite_parts 1 0 time).2.1, State.actState_setAct _ (by decide)⟩

/-! ### CANCEL (R679, R683) -/

theorem State.fwuCancel_staging (hstage : s.stageState = 1) : s.fwuCancel.stageState = 3 ∧ s.fwuCancel.fwu.peerStage = false := by
  obtain ⟨hbad, -, -, -, hpeer⟩ := s.stageBad_leaves (r := 9) 0 (by decide)
  unfold State.fwuCancel State.stageAbort
  rw [if_pos hstage]
  dsimp only
  generalize s.stageEnd (some (9, 0)) = a at hbad hpeer ⊢
  split
  · have hall : a.Within actSpans ((a.journalPut 0).setAct 0) := (a.journalWrite_within 0 0 []).trans (State.setAct_within _ 0)
    refine ⟨(hall.stsApart (by decide)).trans hbad, ?_⟩
    rw [(State.setAct_kept _ 0).fwu, State.journalPut, (a.journalWrite_parts 0 0 []).1]
    exact hpeer
  · exact ⟨hbad, hpeer⟩

theorem State.fwuCancel_armed (hstage : s.stageState ≠ 1) (harmed : s.actState = 1 ∨ s.actState = 2) : s.fwuCancel.actState = 0 := by
  unfold State.fwuCancel State.stageAbort
  rw [if_neg hstage]
  dsimp only
  rw [if_pos harmed]
  exact State.actState_setAct _ (by decide)

theorem State.fwuCancel_idle (hstage : s.stageState ≠ 1) (h1 : s.actState ≠ 1) (h2 : s.actState ≠ 2) : s.fwuCancel = s := by
  unfold State.fwuCancel State.stageAbort
  rw [if_neg hstage]
  dsimp only
  rw [if_neg (not_or.2 ⟨h1, h2⟩)]

theorem State.sendPeer_sends (hstage : s.stageState = 2) (hup : s.linkUp = true) (hidle : s.fwu.sending = none) :
    s.sendPeer = ((s.tsxSend 0x32 2 (imageMsg 1 0 [])).modFwu (fun f => { f with sending := some 0 })).pumpImage 64 := by
  unfold State.sendPeer
  rw [if_neg (by rw [hstage, hup, hidle]; decide)]

theorem State.sendPeer_idle (h : s.stageState ≠ 2 ∨ s.linkUp = false) : s.sendPeer = s :=
  if_pos (h.imp_right .inl)

/-! ### The partner's identity (R693) -/

theorem Tab.get_setAll (f : Nat → Word) (l : Tab Word) (n j : Nat) (hj : j < n) :
    Tab.get (fun _ => 0) ((List.range n).foldl (fun (a : Tab Word) j => Tab.set (fun _ => 0) a j (f j)) l) j = f j := by
  induction n with
  | zero => exact absurd hj (Nat.not_lt_zero _)
  | succ n ih =>
    rw [List.range_succ, List.foldl_append, List.foldl_cons, List.foldl_nil, Tab.get_set]
    split
    · next h => rw [h]
    · next h => exact ih (by omega)

theorem State.partnerAccept_leaves : s.partnerAccept.mem = s.mem ∧
    ∀ j, j < 4 → s.partnerAccept.knownPeer j = s.reg pgRED (Red.PEER_ID0 + 4 * j) :=
  ⟨rfl, fun j hj => Tab.get_setAll (fun j => s.reg pgRED (Red.PEER_ID0 + 4 * j)) s.fwu.known 4 j hj⟩

/-! ### The Golden write (R688, R689) -/

theorem State.goldenWrite_high (h : s.dev.presenceLow = false) : s.goldenWrite = s.guardRefused := by
  rw [State.goldenWrite, if_pos (by rw [h]; decide)]

theorem State.fuseProg_high (h : s.dev.presenceLow = false) : s.fuseProg = s.guardRefused.clearKeyData := by
  unfold State.fuseProg
  dsimp only
  rw [if_pos (by rw [h]; decide)]

section
variable {s} (hlow : s.dev.presenceLow = true)
include hlow

theorem State.goldenWrite_seal (hseal : s.sealOpen = true) : s.goldenWrite = s.refuseAct 7 := by
  rw [State.goldenWrite, if_neg (by rw [hlow]; decide), if_pos hseal]

theorem State.fuseProg_seal (hseal : s.sealOpen = true) : s.fuseProg = (s.refuseAct 7).clearKeyData := by
  unfold State.fuseProg
  dsimp only
  rw [if_neg (by rw [hlow]; decide), if_pos hseal]

theorem State.goldenWrite_busy (hseal : s.sealOpen = false) (h : s.fwu.golden = true ∨ s.actState ≠ 0 ∨ s.stageState = 1) :
    s.goldenWrite = s.refuseAct 10 := by
  rw [State.goldenWrite, if_neg (by rw [hlow]; decide), if_neg (by rw [hseal]; decide), if_pos]
  rcases h with h | h | h <;> simp [h]

theorem State.goldenWrite_noActive (hseal : s.sealOpen = false) (h : s.imageFault (slotBase 1) ≠ none) : s.goldenWrite = s.refuseAct 10 := by
  rw [State.goldenWrite, if_neg (by rw [hlow]; decide), if_neg (by rw [hseal]; decide), if_pos]
  rw [Option.isSome_iff_ne_none.2 h, Bool.or_true]

/-- The Golden slot is being written. -/
def State.goldenBegun (s : State) : State :=
  (((s.setMem (slotBase 0) 4 0).journalPut 4).copyProgress 0).modFwu (fun f => { f with golden := true })

theorem State.goldenWrite_begins (hseal : s.sealOpen = false) (hgolden : s.fwu.golden = false) (hidle : s.actState = 0)
    (hstage : s.stageState = 2) (hactive : s.imageFault (slotBase 1) = none) : s.goldenWrite = s.goldenBegun := by
  rw [State.goldenWrite, if_neg (by rw [hlow]; decide), if_neg (by rw [hseal]; decide),
    if_neg (by rw [hgolden, hidle, hstage, hactive]; decide), if_neg (not_not.2 hstage), State.goldenBegun]

theorem State.fuseProg_programs (hseal : s.sealOpen = false) (hidle : s.fwu.fusing = none)
    (hfree : s.fuseTaken (s.fld pgFWU Fwu.FUSE_SEL (1, 0)) (s.fld pgFWU Fwu.FUSE_SEL (5, 4)) = false) : s.fuseProg
      = (s.modFwu (fun f => { f with fusing := some (s.fld pgFWU Fwu.FUSE_SEL (1, 0), s.fld pgFWU Fwu.FUSE_SEL (5, 4)),
                                     fuseData := s.fuseBytes (s.fld pgFWU Fwu.FUSE_SEL (5, 4)) })).setSts pgFWU Fwu.S_FUSE_BUSY 1 := by
  unfold State.fuseProg
  dsimp only
  rw [if_neg (by rw [hlow]; decide), if_neg (by rw [hseal]; decide), if_neg (by rw [hidle, hfree]; decide)]

theorem State.fuseProg_taken (hseal : s.sealOpen = false) (h : s.fwu.fusing ≠ none ∨
    s.fuseTaken (s.fld pgFWU Fwu.FUSE_SEL (1, 0)) (s.fld pgFWU Fwu.FUSE_SEL (5, 4)) = true) :
    s.fuseProg = (s.badValue pgFWU).clearKeyData := by
  unfold State.fuseProg
  dsimp only
  rw [if_neg (by rw [hlow]; decide), if_neg (by rw [hseal]; decide), if_pos]
  rcases h with h | h
  · rw [Option.isSome_iff_ne_none.2 h, Bool.true_or]
  · rw [h, Bool.or_true]

end

theorem State.goldenBegun_leaves : s.goldenBegun.fwu.golden = true ∧ ∀ i, i < 4 → s.goldenBegun.byte (slotBase 0 + i) = 0 := by
  have hmagic (i : Nat) (hi : i < 4) : (s.setMem (slotBase 0) 4 0).byte (slotBase 0 + i) = 0 := by
    obtain ⟨hmem, himage⟩ := slot_memory (n := 0) (by decide) (show i < 0x400000 by omega)
    rw [State.setMem, State.byte_setBytes (by rw [length_leBytes]; exact hi) hmem himage]
    interval_cases i <;> rfl
  unfold State.goldenBegun
  generalize s.setMem (slotBase 0) 4 0 = a at hmagic ⊢
  have hput (i : Nat) (hi : i < 4) : (a.journalPut 4).byte (slotBase 0 + i) = 0 :=
    (a.journalWrite_byte 4 0 [] (slot_before_journal (by decide) (by omega))).trans (hmagic i hi)
  generalize a.journalPut 4 = b at hput ⊢
  have hcopy : b.FwuKept (b.copyProgress 0) := b.setNat_kept _ _ _
  generalize b.copyProgress 0 = c at hcopy ⊢
  exact ⟨rfl, fun i hi => (hcopy.byte _).trans (hput i hi)⟩

theorem State.getD_bytes (a n i : Nat) (hi : i < n) : (s.bytes a n).getD i 0 = s.byte (a + i) := by
  induction n generalizing a i with
  | zero => exact absurd hi (Nat.not_lt_zero _)
  | succ n ih =>
    rw [State.bytes]
    cases i with
    | zero => rfl
    | succ i => exact (ih (a + 1) i (by omega)).trans (by rw [Nat.add_assoc, Nat.add_comm 1])

theorem State.length_bytes (a n : Nat) : (s.bytes a n).length = n := by
  induction n generalizing a with
  | zero => rfl
  | succ n ih => rw [State.bytes, List.length_cons, ih]

theorem State.copySlot_head (next : Nat) {i : Nat} (hi : i < 0x4F80) : (s.copySlot 0 next).byte (slotBase 0 + i) = s.byte (slotBase 2 + i) := by
  obtain ⟨hmem, himage⟩ := slot_memory (n := 0) (by decide) (show i < 0x400000 by omega)
  have hlen := s.length_bytes (slotBase 2) 0x4F80
  have hget := s.getD_bytes (slotBase 2) 0x4F80 i hi
  unfold State.copySlot
  extract_lets len from_
  generalize s.bytes (slotBase 2) 0x4F80 = l at hlen hget ⊢
  rw [State.byte_setBytes (by rw [List.length_append, hlen]; omega) hmem himage, List.getD_append _ _ _ _ (by rw [hlen]; exact hi), hget]

/-- The copy of the Golden write is over. -/
def State.goldenOver : State := s.modFwu (fun f => { f with golden := false })

theorem State.goldenOver_leaves : s.goldenOver.fwu.golden = false ∧ s.goldenOver.mem = s.mem ∧ s.goldenOver.boot = s.boot := ⟨rfl, rfl, rfl⟩

theorem State.goldenDone_eq : s.goldenDone = ((((s.copySlot 0 s.journalNext).copyProgress
    (imageBlocks (s.imageHeader (slotBase 2)))).journalPut 0).goldenOver).trigger 0x842 pgFWU := rfl

theorem State.goldenDone_leaves : s.goldenDone.fwu.golden = false ∧
    ∀ i, i < 0x4F80 → s.goldenDone.byte (slotBase 0 + i) = s.byte (slotBase 2 + i) := by
  have hhead (i : Nat) (hi : i < 0x4F80) := s.copySlot_head s.journalNext hi
  rw [s.goldenDone_eq]
  generalize s.copySlot 0 s.journalNext = a at hhead ⊢
  generalize imageBlocks (s.imageHeader (slotBase 2)) = n
  have hcopy : a.FwuKept (a.copyProgress n) := a.setNat_kept _ _ _
  generalize a.copyProgress n = b at hcopy ⊢
  have hput (i : Nat) (hi : i < 0x4F80) : (b.journalPut 0).byte (slotBase 0 + i) = b.byte (slotBase 0 + i) :=
    b.journalWrite_byte 0 0 [] (slot_before_journal (by decide) hi)
  generalize b.journalPut 0 = c at hput ⊢
  obtain ⟨hgolden, hmem, hboot⟩ := c.goldenOver_leaves
  generalize c.goldenOver = d at hgolden hmem hboot ⊢
  have htold := d.trigger_kept 0x842 pgFWU
  refine ⟨?_, fun i hi => ?_⟩
  · rw [htold.fwu]
    exact hgolden
  · rw [htold.byte, State.byte_congr hmem hboot, hput i hi, hcopy.byte, hhead i hi]

/-! ### Fuses (R674 to R676) -/

/-- The element that a FUSE_PROG has programmed. -/
def State.fuseSet (slot kind : Nat) (d : List Byte) : State := s.modFwu (fun f =>
  let g := { f with fusing := none, fuseData := [] }
  match kind with
  | 0 => { g with keyDone := Tab.set (fun _ => false) g.keyDone slot true,
                  key := Tab.set (fun n => if n = 0 then Config.factoryKey else []) g.key slot d }
  | 1 => { g with pubDone := Tab.set (fun _ => false) g.pubDone slot true,
                  pub := Tab.set (fun n => if n = 0 then Config.factoryPub else []) g.pub slot d }
  | _ => { g with revoked := Tab.set (fun _ => false) g.revoked slot true })

theorem State.fuseDone_eq {slot kind : Nat} (h : s.fwu.fusing = some (slot, kind)) :
    s.fuseDone = (((s.fuseSet slot kind s.fwu.fuseData).clearKeyData).setSts pgFWU Fwu.S_FUSE_BUSY 0).irq 51 := by
  unfold State.fuseDone
  rw [h]
  rfl

theorem State.fuseSet_leaves {slot kind : Nat} (d : List Byte) (hkind : kind < 3) : (s.fuseSet slot kind d).fwu.fusing = none ∧
    (kind = 0 → (s.fuseSet slot kind d).keyDone slot = true ∧ (s.fuseSet slot kind d).keyOf slot = d) ∧
    (kind = 1 → (s.fuseSet slot kind d).pubDone slot = true ∧ (s.fuseSet slot kind d).pubOf slot = d) ∧
    (kind = 2 → (s.fuseSet slot kind d).keyRevoked slot = true) := by
  have hcases : kind = 0 ∨ kind = 1 ∨ kind = 2 := by omega
  rcases hcases with rfl | rfl | rfl
  · have hdone : (s.fuseSet slot 0 d).fwu.keyDone = Tab.set (fun _ => false) s.fwu.keyDone slot true := rfl
    have hkey : (s.fuseSet slot 0 d).fwu.key = Tab.set (fun n => if n = 0 then Config.factoryKey else []) s.fwu.key slot d := rfl
    refine ⟨rfl, fun _ => ⟨?_, ?_⟩, fun h => absurd h (by decide), fun h => absurd h (by decide)⟩
    · rw [State.keyDone, hdone, Tab.get_set_self]
    · rw [State.keyOf, hkey, Tab.get_set_self]
  · have hdone : (s.fuseSet slot 1 d).fwu.pubDone = Tab.set (fun _ => false) s.fwu.pubDone slot true := rfl
    have hpub : (s.fuseSet slot 1 d).fwu.pub = Tab.set (fun n => if n = 0 then Config.factoryPub else []) s.fwu.pub slot d := rfl
    refine ⟨rfl, fun h => absurd h (by decide), fun _ => ⟨?_, ?_⟩, fun h => absurd h (by decide)⟩
    · rw [State.pubDone, hdone, Tab.get_set_self]
    · rw [State.pubOf, hpub, Tab.get_set_self]
  · have hrevoked : (s.fuseSet slot 2 d).fwu.revoked = Tab.set (fun _ => false) s.fwu.revoked slot true := rfl
    refine ⟨rfl, fun h => absurd h (by decide), fun h => absurd h (by decide), fun _ => ?_⟩
    rw [State.keyRevoked, hrevoked, Tab.get_set_self]

theorem State.clearKeyData_leaves : s.clearKeyData.fwu = s.fwu ∧ ∀ j, j < 8 → s.clearKeyData.reg pgFWU (Fwu.KEY_DATA j) = 0 := by
  refine ⟨(State.clearKeyData_keeps (s.keeps_parts 0x2000000000) (Keep.off_of_and (by decide))).fwu_eq, ?_⟩
  have hfold (n : Nat) : ∀ j, j < n →
      ((List.range n).foldl (fun (a : State) j => a.setReg pgFWU (Fwu.KEY_DATA j) 0) s).reg pgFWU (Fwu.KEY_DATA j) = 0 := by
    induction n with
    | zero => exact fun j hj => absurd hj (Nat.not_lt_zero _)
    | succ n ih =>
      intro j hj
      rw [List.range_succ, List.foldl_append, List.foldl_cons, List.foldl_nil]
      by_cases hjn : j = n
      · rw [hjn]
        exact State.reg_setReg_self _ _ _ _
      · rw [State.reg_setReg_ne _ _ (by simp only [regKey, Fwu.KEY_DATA]; omega)]
        exact ih j (by omega)
  exact hfold 8

theorem clearOf_keyData {j : Nat} (hj : j < 8) : clearOf irqSpans (regKey pgFWU (Fwu.KEY_DATA j)) := by
  interval_cases j <;> decide

theorem State.fuseDone_leaves {slot kind : Nat} (h : s.fwu.fusing = some (slot, kind)) (hkind : kind < 3) :
    s.fuseDone.fwu.fusing = none ∧ s.fuseDone.sts pgFWU Fwu.S_FUSE_BUSY = 0 ∧
      (kind = 0 → s.fuseDone.keyDone slot = true ∧ s.fuseDone.keyOf slot = s.fwu.fuseData) ∧
      (kind = 1 → s.fuseDone.pubDone slot = true ∧ s.fuseDone.pubOf slot = s.fwu.fuseData) ∧
      (kind = 2 → s.fuseDone.keyRevoked slot = true) ∧
      ∀ j, j < 8 → s.fuseDone.reg pgFWU (Fwu.KEY_DATA j) = 0 := by
  obtain ⟨hnone, hkey, hpub, hrevoked⟩ := s.fuseSet_leaves (slot := slot) s.fwu.fuseData hkind
  rw [s.fuseDone_eq h]
  generalize s.fuseSet slot kind s.fwu.fuseData = a at hnone hkey hpub hrevoked ⊢
  obtain ⟨hfwu, hclear⟩ := a.clearKeyData_leaves
  generalize a.clearKeyData = b at hfwu hclear ⊢
  have hbusy : (b.setSts pgFWU Fwu.S_FUSE_BUSY 0).sts pgFWU Fwu.S_FUSE_BUSY = 0 := State.sts_setSts_self _ _ (by decide) 0
  have hset : (b.setSts pgFWU Fwu.S_FUSE_BUSY 0).fwu = b.fwu := State.setReg_fwu _ _ _ _
  have hkept (j : Nat) : (b.setSts pgFWU Fwu.S_FUSE_BUSY 0).reg pgFWU (Fwu.KEY_DATA j) = b.reg pgFWU (Fwu.KEY_DATA j) :=
    State.reg_setReg_ne _ _ (by simp only [regKey, Fwu.KEY_DATA, PAGE_STATUS]; omega)
  generalize b.setSts pgFWU Fwu.S_FUSE_BUSY 0 = c at hbusy hset hkept ⊢
  have hirq : (c.irq 51).fwu = c.fwu := (State.irq_keeps (k := 51) (c.keeps_parts 0x2000000000) (Keep.off_of_and (by decide))).fwu_eq
  have hall : (c.irq 51).fwu = a.fwu := hirq.trans (hset.trans hfwu)
  refine ⟨by rw [hall, hnone], ((State.irq_within 51).sts (by decide) _).trans hbusy, fun hk => ?_, fun hk => ?_, fun hk => ?_, fun j hj => ?_⟩
  · rw [State.keyDone, State.keyOf, hall]
    exact hkey hk
  · rw [State.pubDone, State.pubOf, hall]
    exact hpub hk
  · rw [State.keyRevoked, hall]
    exact hrevoked hk
  · rw [(State.irq_within 51).reg (clearOf_keyData hj), hkept, hclear j hj]

end

end Sys2Proof.Machine
end

section
/-!
Firmware update, command by command (R674 to R694): O49.
-/
set_option Elab.async false
namespace Sys2Proof.Machine

/-! ### The commands -/

section
variable {s : State} (hreach : s.reaches pgFWU = true) (r : Requester)
include hreach

theorem exec_stage : exec (.stage r) s = .next (s.counted.stageBegin false) := congrArg Host.Outcome.next (State.gate_eq hreach _)
theorem exec_activate : exec (.activate r) s = .next s.counted.activate := congrArg Host.Outcome.next (State.gate_eq hreach _)
theorem exec_fwuCancel : exec (.fwuCancel r) s = .next s.counted.fwuCancel := congrArg Host.Outcome.next (State.gate_eq hreach _)
theorem exec_sendPeer : exec (.sendPeer r) s = .next s.counted.sendPeer := congrArg Host.Outcome.next (State.gate_eq hreach _)
theorem exec_partnerAccept : exec (.partnerAccept r) s = .next s.counted.partnerAccept := congrArg Host.Outcome.next (State.gate_eq hreach _)

theorem exec_goldenWrite (low : Bool) : exec (.goldenWrite r low) s = .next (s.presence low).counted.goldenWrite :=
  congrArg Host.Outcome.next (State.gate_eq ((s.reaches_presence low pgFWU).trans hreach) _)

theorem exec_fuseProg (low : Bool) : exec (.fuseProg r low) s = .next (s.presence low).counted.fuseProg :=
  congrArg Host.Outcome.next (State.gate_eq ((s.reaches_presence low pgFWU).trans hreach) _)

end

/-! ### What an access finds -/

/-- The firmware's registers and parts are in `t` as in `s`. -/
structure State.SameFirmware (s t : State) : Prop where
  sealed : t.sealOpen = s.sealOpen
  stage : t.stageState = s.stageState
  act : t.actState = s.actState
  regs : ∀ off, clearOf countSpans (regKey pgFWU off) → t.reg pgFWU off = s.reg pgFWU off
  fwu : t.fwu = s.fwu
  byte : ∀ x, t.byte x = s.byte x

theorem State.sameFirmware_counted (s : State) : s.SameFirmware s.counted := by
  have hcount := s.counted_within
  have hkept := s.counted_kept
  exact ⟨hcount.flag (by decide) _, hcount.sts (by decide) _, hcount.sts (by decide) _, fun _ hk => hcount.reg hk, hkept.fwu, hkept.byte⟩

theorem State.sameFirmware_presence (s : State) (low : Bool) : s.SameFirmware (s.presence low).counted := by
  obtain ⟨hseal, hstage, hact, hregs, hfwu, hbyte⟩ := (s.presence low).sameFirmware_counted
  exact ⟨hseal, hstage, hact, hregs, hfwu, hbyte⟩

section
variable {s t : State} (h : s.SameFirmware t)
include h

theorem State.SameFirmware.imageFault (base : Nat) : t.imageFault base = s.imageFault base := by
  refine State.imageFault_congr h.byte h.fwu (fun j hj => ?_) base
  refine congrArg BitVec.toNat (h.regs _ ?_)
  interval_cases j <;> decide

theorem State.SameFirmware.fuseTaken (slot kind : Nat) : t.fuseTaken slot kind = s.fuseTaken slot kind := by
  unfold State.fuseTaken State.keyDone State.pubDone State.keyRevoked
  rw [h.fwu]

theorem State.SameFirmware.fuseBytes (kind : Nat) : t.fuseBytes kind = s.fuseBytes kind := by
  have hkey (j : Nat) (hj : j < 8) : t.nat pgFWU (Fwu.KEY_DATA j) = s.nat pgFWU (Fwu.KEY_DATA j) :=
    congrArg BitVec.toNat (h.regs _ (by interval_cases j <;> decide))
  have hpub (j : Nat) (hj : j < 12) : t.nat pgFWU (Fwu.PUB_DATA j) = s.nat pgFWU (Fwu.PUB_DATA j) :=
    congrArg BitVec.toNat (h.regs _ (by interval_cases j <;> decide))
  unfold State.fuseBytes
  split
  · refine List.flatMap_congr fun j hj => ?_
    rw [hkey j (by simp only [List.mem_cons, List.not_mem_nil, or_false] at hj; omega)]
  · refine List.flatMap_congr fun j hj => ?_
    rw [hpub j (List.mem_range.1 hj)]
  · rfl

end

/-! ### Clause by clause -/

section
variable (s : State)

/-- Clauses of STAGE and ACTIVATE, of the state in which they act. -/
theorem State.stage_acts (hseal : s.sealOpen = false) :
    (s.stageState = 1 ∨ s.actState ≠ 0 ∨ s.fwu.golden = true → s.stageBegin false = s.refuseAct 10) ∧
    (s.stageState ≠ 1 → s.actState = 0 → s.fwu.golden = false → (s.stageBegin false).stageState = 1 ∧
      (s.stageBegin false).fwu.peerStage = false ∧
      (s.stageBegin false).fwu.stageAt = s.addr pgFWU Fwu.STAGE_ADDR_LO Fwu.STAGE_ADDR_HI ∧
      (s.stageBegin false).fwu.stageLen = s.fld pgFWU Fwu.STAGE_LEN (22, 0) ∧ ∀ i, i < 4 → (s.stageBegin false).byte (slotBase 2 + i) = 0) := by
  refine ⟨fun hbusy => s.stageBegin_busy hseal hbusy false, fun hstage hact hgolden => ?_⟩
  rw [s.stageBegin_eq hseal (by rw [hact, hgolden]; simpa using hstage) false]
  exact s.sendGiven.stageBegun_leaves false _ _

theorem State.activate_acts (haclk : s.aclkRuns = true) (hseal : s.sealOpen = false) (hidle : s.actState = 0) (hgolden : s.fwu.golden = false) :
    (s.stageState ≠ 2 ∨ (s.sysState = 3 ∧ s.fld pgFWU Fwu.FWU_CTRL (5, 4) ≠ 2) → s.activate = s.refuseAct 0) ∧
    (s.stageState = 2 → s.sysState ≠ 3 →
      (s.fld pgFWU Fwu.FWU_CTRL (5, 4) = 0 → s.actTime.ns < SEC → s.activate.actState = 1) ∧
      (s.fld pgFWU Fwu.FWU_CTRL (5, 4) = 1 → s.activate.actState = 3)) ∧
    (s.stageState = 2 → s.fld pgFWU Fwu.FWU_CTRL (5, 4) = 2 → s.mustDefer = true → s.activate.actState = 2) ∧
    (s.stageState = 2 → s.fld pgFWU Fwu.FWU_CTRL (5, 4) = 2 → s.mustDefer = false →
      s.activate.boot.cause = 0x40 ∧ s.activate.evr.writing = none ∧ s.activate.stileHeld = false) := by
  have hvalid := s.activate_valid hseal hidle hgolden
  obtain ⟨hdefer, hpwr, -⟩ := s.armed_leaves (timeValOf s.tln.now).memBytes
  refine ⟨s.activate_refused hseal hidle hgolden, fun hstage hsys => ⟨fun hmode htime => ?_, fun hmode => ?_⟩, fun hstage hmode hwait => ?_,
    fun hstage hmode hwait => ?_⟩
  · rw [hvalid hstage (fun h => hsys h.1), if_neg (by rw [hmode]; decide), if_neg (by rw [hmode]; decide), if_neg (by omega)]
    exact State.actState_setAct _ (by decide)
  · rw [hvalid hstage (fun h => hsys h.1), if_pos hmode]
    exact State.actState_setAct _ (by decide)
  · rw [hvalid hstage (fun h => h.2 hmode), if_neg (by rw [hmode]; decide), if_pos hmode]
    exact State.actReached_defers _ (hdefer.trans hwait)
  · rw [hvalid hstage (fun h => h.2 hmode), if_neg (by rw [hmode]; decide), if_pos hmode]
    exact State.actReached_resets _ (hdefer.trans hwait) (by rw [State.aclkRuns, hpwr]; exact haclk)

theorem stage_clauses (r : Requester) (hreach : s.reaches pgFWU = true) :
    (s.sealOpen = true → exec (.stage r) s = .next (s.counted.refuseAct 7) ∧ exec (.activate r) s = .next (s.counted.refuseAct 7)) ∧
    (s.sealOpen = false →
      (s.stageState = 1 ∨ s.actState ≠ 0 ∨ s.fwu.golden = true → exec (.stage r) s = .next (s.counted.refuseAct 10)) ∧
      (s.stageState ≠ 1 → s.actState = 0 → s.fwu.golden = false →
        ∃ t, exec (.stage r) s = .next t ∧ t.stageState = 1 ∧ t.fwu.peerStage = false ∧
          t.fwu.stageAt = s.addr pgFWU Fwu.STAGE_ADDR_LO Fwu.STAGE_ADDR_HI ∧
          t.fwu.stageLen = s.fld pgFWU Fwu.STAGE_LEN (22, 0) ∧ ∀ i, i < 4 → t.byte (slotBase 2 + i) = 0) ∧
      (s.actState ≠ 0 ∨ s.fwu.golden = true → exec (.activate r) s = .next (s.counted.refuseAct 10)) ∧
      (s.actState = 0 → s.fwu.golden = false →
        (s.stageState ≠ 2 ∨ (s.sysState = 3 ∧ s.fld pgFWU Fwu.FWU_CTRL (5, 4) ≠ 2) →
          exec (.activate r) s = .next (s.counted.refuseAct 0)) ∧
        (s.stageState = 2 → s.sysState ≠ 3 →
          (s.fld pgFWU Fwu.FWU_CTRL (5, 4) = 0 → s.actTime.ns < SEC → ∃ t, exec (.activate r) s = .next t ∧ t.actState = 1) ∧
          (s.fld pgFWU Fwu.FWU_CTRL (5, 4) = 1 → ∃ t, exec (.activate r) s = .next t ∧ t.actState = 3)) ∧
        (s.stageState = 2 → s.fld pgFWU Fwu.FWU_CTRL (5, 4) = 2 → s.counted.mustDefer = true →
          ∃ t, exec (.activate r) s = .next t ∧ t.actState = 2) ∧
        (s.stageState = 2 → s.fld pgFWU Fwu.FWU_CTRL (5, 4) = 2 → s.counted.mustDefer = false →
          ∃ t, exec (.activate r) s = .next t ∧ t.boot.cause = 0x40 ∧ t.evr.writing = none ∧ t.stileHeld = false))) := by
  obtain ⟨hseal, hstage, hact, hregs, hfwu, -⟩ := s.sameFirmware_counted
  have hcount := s.counted_within
  have haclk : s.counted.aclkRuns = true := by rw [State.aclkRuns, s.counted_kept.pwr]; exact State.aclkRuns_of_reaches hreach
  have haddr : s.counted.addr pgFWU Fwu.STAGE_ADDR_LO Fwu.STAGE_ADDR_HI = s.addr pgFWU Fwu.STAGE_ADDR_LO Fwu.STAGE_ADDR_HI := by
    rw [State.addr, hcount.nat (by decide), hcount.nat (by decide), State.addr]
  have hlen : s.counted.fld pgFWU Fwu.STAGE_LEN (22, 0) = s.fld pgFWU Fwu.STAGE_LEN (22, 0) := hcount.fld (by decide) _
  have hmode : s.counted.fld pgFWU Fwu.FWU_CTRL (5, 4) = s.fld pgFWU Fwu.FWU_CTRL (5, 4) := hcount.fld (by decide) _
  have hsys : s.counted.sysState = s.sysState := hcount.fld (by decide) _
  have htime : s.counted.actTime = s.actTime := by
    rw [State.actTime, hcount.nat (by decide), hcount.fld (by decide), hcount.fld (by decide), State.actTime]
  rw [exec_stage hreach, exec_activate hreach, ← hseal, ← hstage, ← hact, ← hfwu, ← haddr, ← hlen, ← hmode, ← hsys, ← htime]
  generalize s.counted = a at haclk ⊢
  refine ⟨fun hopen => ⟨?_, ?_⟩, fun hshut => ⟨fun hbusy => ?_, fun hidle hact' hgolden => ?_, fun hbusy => ?_, fun hact' hgolden => ?_⟩⟩
  · rw [a.stageBegin_refused hopen]
  · rw [a.activate_seal hopen]
  · rw [(a.stage_acts hshut).1 hbusy]
  · exact ⟨_, rfl, (a.stage_acts hshut).2 hidle hact' hgolden⟩
  · rw [a.activate_busy hshut hbusy]
  · obtain ⟨hrefused, htimed, hwaits, hnow⟩ := a.activate_acts haclk hshut hact' hgolden
    refine ⟨fun h => by rw [hrefused h], fun h2 h3 => ⟨fun hm ht => ⟨_, rfl, (htimed h2 h3).1 hm ht⟩, fun hm => ⟨_, rfl, (htimed h2 h3).2 hm⟩⟩,
      fun h2 hm hd => ⟨_, rfl, hwaits h2 hm hd⟩, fun h2 hm hd => ⟨_, rfl, hnow h2 hm hd⟩⟩

theorem cancel_clauses (r : Requester) (hreach : s.reaches pgFWU = true) :
    (s.stageState = 1 → ∃ t, exec (.fwuCancel r) s = .next t ∧ t.stageState = 3 ∧ t.fwu.peerStage = false) ∧
    (s.stageState ≠ 1 → s.actState = 1 ∨ s.actState = 2 → ∃ t, exec (.fwuCancel r) s = .next t ∧ t.actState = 0) ∧
    (s.stageState ≠ 1 → s.actState ≠ 1 → s.actState ≠ 2 → exec (.fwuCancel r) s = .next s.counted) ∧
    (s.counted.stageState = 2 → s.counted.linkUp = true → s.counted.fwu.sending = none →
      exec (.sendPeer r) s = .next (((s.counted.tsxSend 0x32 2 (imageMsg 1 0 [])).modFwu (fun f => { f with sending := some 0 })).pumpImage 64)) ∧
    (s.counted.stageState ≠ 2 ∨ s.counted.linkUp = false → exec (.sendPeer r) s = .next s.counted) ∧
    ∃ t, exec (.partnerAccept r) s = .next t ∧ t.mem = s.mem ∧ ∀ j, j < 4 → t.knownPeer j = s.reg pgRED (Red.PEER_ID0 + 4 * j) := by
  obtain ⟨-, hstage, hact, -⟩ := s.sameFirmware_counted
  have hpeer (j : Nat) (hj : j < 4) : s.counted.reg pgRED (Red.PEER_ID0 + 4 * j) = s.reg pgRED (Red.PEER_ID0 + 4 * j) :=
    s.counted_within.reg (by interval_cases j <;> decide)
  have hmem := s.mem_counted
  rw [exec_fwuCancel hreach, exec_sendPeer hreach, exec_partnerAccept hreach, ← hstage, ← hact]
  generalize s.counted = a at hpeer hmem ⊢
  obtain ⟨hkept, hknown⟩ := a.partnerAccept_leaves
  refine ⟨fun h => ⟨_, rfl, a.fwuCancel_staging h⟩, fun h harmed => ⟨_, rfl, a.fwuCancel_armed h harmed⟩,
    fun h h1 h2 => by rw [a.fwuCancel_idle h h1 h2], fun h hup hidle => by rw [a.sendPeer_sends h hup hidle],
    fun h => by rw [a.sendPeer_idle h], ⟨_, rfl, hkept.trans hmem, fun j hj => (hknown j hj).trans (hpeer j hj)⟩⟩

theorem exec_stageDone (haclk : s.aclkRuns = true) : exec .stageDone s = .next s.stageDone := congrArg Host.Outcome.next (if_pos haclk)

theorem stageDone_clauses (haclk : s.aclkRuns = true) (hstage : s.stageState = 1) (hown : s.fwu.peerStage = false) :
    ((dramSpan s.fwu.stageAt s.fwu.stageLen && s.fwu.stageLen == imageLength (s.imageHeader s.fwu.stageAt)) = false →
      ∃ t, exec .stageDone s = .next t ∧ t.stageState = 3 ∧ t.fld pgFWU Fwu.FWU_INFO (3, 0) = 8 ∧
        t.flag pgFWU PAGE_FAULT Fwu.F_STAGE_BAD = true) ∧
    ((dramSpan s.fwu.stageAt s.fwu.stageLen && s.fwu.stageLen == imageLength (s.imageHeader s.fwu.stageAt)) = true →
      ∃ t, exec .stageDone s = .next t ∧
      ((s.shelfBytes 0 (s.bytes s.fwu.stageAt s.fwu.stageLen)).imageFault (slotBase 2) = none → t.stageState = 2 ∧
        t.mem = (s.shelfBytes 0 (s.bytes s.fwu.stageAt s.fwu.stageLen)).mem ∧ t.nat pgFWU Fwu.SHELF_VERSION
          = imageVersion ((s.shelfBytes 0 (s.bytes s.fwu.stageAt s.fwu.stageLen)).imageHeader (slotBase 2))) ∧
      ∀ x ∈ (s.shelfBytes 0 (s.bytes s.fwu.stageAt s.fwu.stageLen)).imageFault (slotBase 2),
        t.stageState = 3 ∧ t.fld pgFWU Fwu.FWU_INFO (3, 0) = x.1 ∧
        t.flag pgFWU PAGE_FAULT Fwu.F_STAGE_BAD = true ∧ ∀ i, i < 4 → t.byte (slotBase 2 + i) = 0) := by
  rw [exec_stageDone s haclk]
  refine ⟨fun hsize => ?_, fun hsize => ?_⟩
  · rw [State.stageDone_size hstage hown hsize]
    obtain ⟨hbad, hinfo, hflag, -⟩ := s.stageBad_leaves (r := 8) 0 (by decide)
    exact ⟨_, rfl, hbad, hinfo, hflag⟩
  · rw [State.stageDone_copied hstage hown hsize]
    have hstill := (s.shelfBytes_stage 0 (s.bytes s.fwu.stageAt s.fwu.stageLen)).trans hstage
    generalize s.shelfBytes 0 (s.bytes s.fwu.stageAt s.fwu.stageLen) = u at hstill ⊢
    refine ⟨_, rfl, fun hgood => ?_, fun x hx => ?_⟩
    · rw [hgood]
      exact u.stageValid_leaves hstill
    · have hx' : u.imageFault (slotBase 2) = some x := hx
      obtain ⟨hbad, hinfo, hflag, hbyte, -⟩ := u.stageBad_leaves (r := x.1) x.2 (u.imageFault_reason hx')
      rw [hx']
      exact ⟨hbad, hinfo, hflag, hbyte⟩

theorem actTime_clauses {a : State} (hact : s.actState = 1) (haclk : s.aclkRuns = true) (h : s.reach s.journalTime = some a) :
    (a.mustDefer = true → ∃ t, exec .actTimeReached s = .next t ∧ t.actState = 2) ∧
    (a.mustDefer = false → ∃ t, exec .actTimeReached s = .next t ∧ t.boot.cause = 0x40 ∧ t.evr.writing = none) := by
  have hexec : exec .actTimeReached s = .next a.actReached := by
    refine congrArg Host.Outcome.next ?_
    rw [State.actTimeCome, if_pos ⟨hact, haclk⟩, State.atTime_reached h]
  rw [hexec]
  refine ⟨fun hwait => ⟨_, rfl, a.actReached_defers hwait⟩, fun hgo => ?_⟩
  obtain ⟨hcause, hwriting, -⟩ := a.actReached_resets hgo (by rw [State.aclkRuns, (State.reach_parts h).pwr_eq]; exact haclk)
  exact ⟨_, rfl, hcause, hwriting⟩

theorem deferred_clauses (hact : s.actState = 2) (haclk : s.aclkRuns = true) :
    (s.mustDefer = false → ∃ t, exec .actDeferredRelease s = .next t ∧ t.boot.cause = 0x40 ∧ t.evr.writing = none) ∧
    (s.mustDefer = true → exec .actDeferredRelease s = .next s) := by
  have hexec : exec .actDeferredRelease s = .next s.actReached := by
    refine congrArg Host.Outcome.next ?_
    rw [State.actRelease, if_pos ⟨hact, haclk⟩]
  rw [hexec]
  refine ⟨fun hgo => ?_, fun hwait => ?_⟩
  · obtain ⟨hcause, hwriting, -⟩ := s.actReached_resets hgo haclk
    exact ⟨_, rfl, hcause, hwriting⟩
  · rw [State.actReached, if_pos hwait, State.setAct, if_pos hact]

theorem guarded_clauses (r : Requester) (low : Bool) (hreach : s.reaches pgFWU = true) :
    (low = false → exec (.goldenWrite r low) s = .next (s.presence low).counted.guardRefused ∧
      exec (.fuseProg r low) s = .next (s.presence low).counted.guardRefused.clearKeyData) ∧
    (low = true → s.sealOpen = true → exec (.goldenWrite r low) s = .next ((s.presence low).counted.refuseAct 7) ∧
      exec (.fuseProg r low) s = .next ((s.presence low).counted.refuseAct 7).clearKeyData) ∧
    (low = true → s.sealOpen = false → s.fwu.golden = false → s.actState = 0 → s.stageState = 2 →
      ∃ t, exec (.goldenWrite r low) s = .next t ∧
        if s.imageFault (slotBase 1) = none then t.fwu.golden = true ∧ ∀ i, i < 4 → t.byte (slotBase 0 + i) = 0
        else t = (s.presence low).counted.refuseAct 10) ∧
    (low = true → s.sealOpen = false → s.fwu.golden = true ∨ s.actState ≠ 0 ∨ s.stageState = 1 →
      exec (.goldenWrite r low) s = .next ((s.presence low).counted.refuseAct 10)) ∧
    (low = true → s.sealOpen = false → s.fwu.fusing = none →
      s.fuseTaken (s.fld pgFWU Fwu.FUSE_SEL (1, 0)) (s.fld pgFWU Fwu.FUSE_SEL (5, 4)) = false →
      ∃ t, exec (.fuseProg r low) s = .next t ∧
        t.fwu.fusing = some (s.fld pgFWU Fwu.FUSE_SEL (1, 0), s.fld pgFWU Fwu.FUSE_SEL (5, 4)) ∧
        t.fwu.fuseData = s.fuseBytes (s.fld pgFWU Fwu.FUSE_SEL (5, 4)) ∧ t.sts pgFWU Fwu.S_FUSE_BUSY = 1) ∧
    (low = true → s.sealOpen = false →
      s.fwu.fusing ≠ none ∨ s.fuseTaken (s.fld pgFWU Fwu.FUSE_SEL (1, 0)) (s.fld pgFWU Fwu.FUSE_SEL (5, 4)) = true →
      exec (.fuseProg r low) s = .next ((s.presence low).counted.badValue pgFWU).clearKeyData) := by
  have hsame := s.sameFirmware_presence low
  have hpin := s.low_presence low
  have hsel (f : Field) : (s.presence low).counted.fld pgFWU Fwu.FUSE_SEL f = s.fld pgFWU Fwu.FUSE_SEL f :=
    congrArg (bits · f) (hsame.regs _ (by decide))
  rw [exec_goldenWrite hreach, exec_fuseProg hreach, ← hsame.sealed, ← hsame.stage, ← hsame.act, ← hsame.fwu, ← hsel, ← hsel,
    ← hsame.imageFault, ← hsame.fuseTaken, ← hsame.fuseBytes]
  generalize (s.presence low).counted = a at hpin ⊢
  refine ⟨fun hoff => ?_, fun hon hopen => ?_, fun hon hshut hgolden hact hstage => ?_, fun hon hshut hbusy => ?_,
    fun hon hshut hidle hfree => ?_, fun hon hshut hbad => ?_⟩
  · rw [a.goldenWrite_high (hpin.trans hoff), a.fuseProg_high (hpin.trans hoff)]
    exact ⟨rfl, rfl⟩
  · rw [State.goldenWrite_seal (hpin.trans hon) hopen, State.fuseProg_seal (hpin.trans hon) hopen]
    exact ⟨rfl, rfl⟩
  · by_cases hactive : a.imageFault (slotBase 1) = none
    · rw [State.goldenWrite_begins (hpin.trans hon) hshut hgolden hact hstage hactive]
      refine ⟨_, rfl, ?_⟩
      rw [if_pos hactive]
      exact a.goldenBegun_leaves
    · rw [State.goldenWrite_noActive (hpin.trans hon) hshut hactive]
      refine ⟨_, rfl, ?_⟩
      rw [if_neg hactive]
  · rw [State.goldenWrite_busy (hpin.trans hon) hshut hbusy]
  · rw [State.fuseProg_programs (hpin.trans hon) hshut hidle hfree]
    refine ⟨_, rfl, ?_, ?_, State.sts_setSts_self _ _ (by decide) 1⟩
    · rw [State.setSts_eq, State.setReg_fwu]
      rfl
    · rw [State.setSts_eq, State.setReg_fwu]
      rfl
  · rw [State.fuseProg_taken (hpin.trans hon) hshut hbad]

theorem exec_goldenWriteDone (haclk : s.aclkRuns = true) (hgolden : s.fwu.golden = true) :
    exec .goldenWriteDone s = .next s.goldenDone := by
  refine congrArg Host.Outcome.next (if_pos ?_)
  rw [haclk, hgolden, Bool.and_self]

theorem exec_fuseDone (haclk : s.aclkRuns = true) : exec .fuseDone s = .next s.fuseDone := congrArg Host.Outcome.next (if_pos haclk)

end

end Sys2Proof.Machine

open Sys2Proof Sys2Proof.Machine

/-- Settles O49, clause by clause: staging, activation, CANCEL, the copy to the partner, the Golden write, fuses and the partner's identity. -/
theorem firmwareActs : Obligations.FirmwareActs := by
  unfold Obligations.FirmwareActs
  refine ⟨fun s r hreach => ?_, fun s haclk hstage hown => stageDone_clauses s haclk hstage hown,
    fun s a hact haclk h => actTime_clauses s hact haclk h, fun s hact haclk => deferred_clauses s hact haclk,
    fun s r low hreach => guarded_clauses s r low hreach, fun s haclk hgolden => ?_, fun s slot kind haclk hfusing hkind => ?_⟩
  · obtain ⟨hopen, hshut⟩ := stage_clauses s r hreach
    exact ⟨hopen, hshut, cancel_clauses s r hreach⟩
  · rw [exec_goldenWriteDone s haclk hgolden]
    exact ⟨_, rfl, s.goldenDone_leaves⟩
  · rw [exec_fuseDone s haclk]
    exact ⟨_, rfl, s.fuseDone_leaves hfusing hkind⟩
end

section
/-!
Lamp channels: samples and what follows from them (R456 to R459), and the steps of a period (R454).
-/
set_option Elab.async false
namespace Sys2Proof.Machine

/-! ### Steps of a period (R454) -/

/-- Steps and carry of a period add up to its duty, whatever the number of steps is. -/
theorem pwmSteps_addUp {d : Nat} (per : Nat) (carry : Int) (due : Bool) (hd : d ≠ 0) :
    (((pwmSteps d per carry due).1 * 65535 : Nat) : Int) + (pwmSteps d per carry due).2 = ((d * per : Nat) : Int) + carry := by
  unfold pwmSteps
  rw [if_neg hd]
  extract_lets x n0 n1 n2 n3
  have h2 : 0 ≤ n2 := by
    simp only [n2]
    split <;> omega
  have h3 : 0 ≤ n3 := by
    simp only [n3]
    split <;> omega
  have hx : x = ((d * per : Nat) : Int) + carry := rfl
  have hsteps : ((n3.toNat * 65535 : Nat) : Int) = n3 * 65535 := by
    rw [Nat.cast_mul, Int.toNat_of_nonneg h3]
    rfl
  dsimp only
  rw [hsteps, ← hx]
  omega

/-! ### Parts of a lamp -/

/-- What a channel knows of its latest samples. -/
def LampState.sensed (x : LampState) : Nat × Bool × Nat := (x.lastOn, x.hasOn, x.lastOff)

theorem LampState.eq_of_sensed {x y : LampState} (h : x.sensed = y.sensed) : x.lastOn = y.lastOn ∧ x.hasOn = y.hasOn ∧ x.lastOff = y.lastOff := by
  simpa only [LampState.sensed, Prod.mk.injEq] using h

section
variable (s : State)

@[simp] theorem State.lampOf_setLamp (k : Nat) (v : LampState) : (s.setLamp k v).lampOf k = v := Tab.get_set_self _ _ _ _

theorem State.lampOf_congr {t : State} (h : t.lamp = s.lamp) (k : Nat) : t.lampOf k = s.lampOf k := by
  rw [State.lampOf, h, State.lampOf]

@[simp] theorem State.clusterOf_setCluster (n : Nat) (v : ClusterState) : (s.setCluster n v).clusterOf n = v := Tab.get_set_self _ _ _ _

theorem State.clusterOf_congr {t : State} (h : t.cluster = s.cluster) (n : Nat) : t.clusterOf n = s.clusterOf n := by
  rw [State.clusterOf, h, State.clusterOf]

theorem State.setLamp_within {l : List Span} (k : Nat) (v : LampState) : s.Within l (s.setLamp k v) := (State.Within.refl s).upd rfl

theorem State.setCluster_within {l : List Span} (n : Nat) (v : ClusterState) : s.Within l (s.setCluster n v) := (State.Within.refl s).upd rfl

theorem State.sample_within {l : List Span} (kind inst : Nat) (v : Int) : s.Within l (s.sample kind inst v) :=
  (State.Within.refl s).upd (State.sample_keeps (s.keeps_parts 0x2) (Keep.off_of_and (by decide))).live_eq

theorem State.sample_parts (kind inst : Nat) (v : Int) : (s.sample kind inst v).lamp = s.lamp ∧ (s.sample kind inst v).cluster = s.cluster := by
  have h := State.sample_keeps (kind := kind) (inst := inst) (v := v) (s.keeps_parts 0xC00000) (Keep.off_of_and (by decide))
  exact ⟨h.lamp_eq, h.cluster_eq⟩

theorem State.tellSense_within (cls index code : Nat) : s.Within tellSpans (s.tellSense cls index code) := s.tell_within _ _

theorem State.tellSense_parts (cls index code : Nat) : (s.tellSense cls index code).lamp = s.lamp ∧
    (s.tellSense cls index code).cluster = s.cluster := by
  have h := State.tellSense_keeps (cls := cls) (index := index) (code := code) (s.keeps_parts 0xC00000) (Keep.off_of_and (by decide))
  exact ⟨h.lamp_eq, h.cluster_eq⟩

end

/-! ### Diagnosis (R457, R458) -/

/-- What the diagnosis of a channel writes. -/
abbrev diagSpans (k : Nat) : List Span := fldSpan (pgLMP k) PAGE_STATUS Lmp.S_DIAG_STATE :: regSpan (pgLMP k) Lmp.OPEN_COUNT ::
  regSpan (pgLMP k) Lmp.SHORT_COUNT :: regSpan (pgLMP k) PAGE_FAULT :: tellSpans

theorem tellSpans_subset_diag (k : Nat) : tellSpans ⊆ diagSpans k :=
  fun _ hx => List.mem_cons_of_mem _ (List.mem_cons_of_mem _ (List.mem_cons_of_mem _ (List.mem_cons_of_mem _ hx)))

theorem irqSpans_subset_diag (k : Nat) : irqSpans ⊆ diagSpans k := List.Subset.trans irqSpans_subset_tell (tellSpans_subset_diag k)
theorem countSpans_subset_diag (k : Nat) : countSpans ⊆ diagSpans k := List.Subset.trans countSpans_subset_tell (tellSpans_subset_diag k)

theorem clearOf_lamp (k : Fin 32) {off : Nat} (h : off = Lmp.SENSE_LAST ∨ off = Lmp.LAST_SAMPLE) :
    clearOf (diagSpans k) (regKey (pgLMP k) off) := by
  have hall : ∀ k : Fin 32, ∀ off ∈ [Lmp.SENSE_LAST, Lmp.LAST_SAMPLE], clearOf (diagSpans k) (regKey (pgLMP k) off) := by decide
  exact hall k off (by simpa using h)

theorem clearOf_lampStatus (k : Fin 32) : clearOf tellSpans (regKey (pgLMP k) PAGE_STATUS) := by
  revert k
  decide

section
variable (s : State) (k : Nat)

theorem State.setDiag_within (n : Nat) : s.Within (diagSpans k) (s.setDiag k n) :=
  (State.Within.refl s).ite ((((State.Within.refl s).setSts List.mem_cons_self).irq (irqSpans_subset_diag k)).count (countSpans_subset_diag k))

theorem State.setDiag_lamp (n : Nat) : (s.setDiag k n).lamp = s.lamp :=
  (State.setDiag_keeps (s.keeps_parts 0x800000) (Keep.off_of_and (by decide))).lamp_eq

end

section
variable (s : State) (k : Fin 32)

theorem State.lampFault_within (n : Nat) (hn : n < 32 := by decide) : s.Within (diagSpans k) (s.fault (pgLMP k) n) := by
  rw [s.fault_eq_faultHere (pageInfo_pgLMP k) rfl]
  exact State.Within.faultHere (.refl s) (i := regSpan (pgLMP k) PAGE_FAULT) (by simp) (by dsimp only [regSpan]; omega)
    (by dsimp only [regSpan]; omega) hn (irqSpans_subset_diag k)

theorem State.lampFault_lamp (n : Nat) : (s.fault (pgLMP k) n).lamp = s.lamp :=
  (State.fault_keeps (s.keeps_parts 0x800000) (Keep.off_of_and (by decide))).lamp_eq

/-- A diagnosis leaves what the channel knows of its samples. -/
theorem State.enterDiag_leaves (cls t : Nat) : s.Within (diagSpans k) (s.enterDiag k cls t) ∧
    ((s.enterDiag k cls t).lampOf k).sensed = (s.lampOf k).sensed := by
  have hset := s.setDiag_within k cls
  have hlamp := s.setDiag_lamp k cls
  have hcount (a : State) (off : Nat) (hoff : regSpan (pgLMP k) off ∈ diagSpans k) (n : Nat) (hn : n < 32) :
      a.Within (diagSpans k) ((a.inc (pgLMP k) off).fault (pgLMP k) n) ∧ ((a.inc (pgLMP k) off).fault (pgLMP k) n).lamp = a.lamp := by
    have hinc : a.Within (diagSpans k) (a.inc (pgLMP k) off) := (State.Within.refl a).write hoff
    exact ⟨hinc.trans (State.lampFault_within _ k n hn), (State.lampFault_lamp _ k n).trans (State.setReg_lamp _ _ _ _)⟩
  unfold State.enterDiag
  dsimp only
  split
  · exact ⟨.refl s, rfl⟩
  generalize s.setDiag k cls = a at hset hlamp ⊢
  have hkeep {t : State} (hw : a.Within (diagSpans k) t) (hl : t.lamp = a.lamp) :
      s.Within (diagSpans k) t ∧ (t.lampOf k).sensed = (s.lampOf k).sensed :=
    ⟨hset.trans hw, congrArg LampState.sensed (s.lampOf_congr (hl.trans hlamp) k)⟩
  split
  · obtain ⟨hw, hl⟩ := hcount a Lmp.OPEN_COUNT (by simp) Lmp.F_OPEN (by decide)
    exact hkeep hw hl
  · obtain ⟨hw, hl⟩ := hcount a Lmp.SHORT_COUNT (by simp) Lmp.F_SHORT (by decide)
    split
    · obtain ⟨hw', hl'⟩ := hkeep hw hl
      refine ⟨hw'.trans (State.setLamp_within _ _ _), ?_⟩
      rw [State.lampOf_setLamp]
      exact hl'
    · exact hkeep hw hl
  · exact hkeep (a.lampFault_within k _) (a.lampFault_lamp k _)
  · exact hkeep (.refl a) rfl

/-! ### Samples (R456, R457) -/

/-- A sample is counted and enters the statistics, and the diagnosis follows it. -/
def State.sampleJudged (s : State) (k : Nat) (on : Bool) (code t : Nat) : State :=
  let s2 := (if on then s.count (592 + 4 * k + 2) 1 else s).sample (if on then 8 else 9) k code
  let cls := s2.sampleClass k on code
  if cls = 0 then s2
  else
    let y := s2.lampOf k
    let len := if y.runClass = cls then y.runLength + 1 else 1
    let s3 := s2.setLamp k { y with runClass := cls, runLength := len }
    if s3.fld (pgLMP k) Lmp.SENSE_CFG (19, 16) ≤ len then s3.enterDiag k cls t else s3

/-- An on-sample enters the registers. -/
def State.onTaken (s : State) (k code t : Nat) : State :=
  ((s.setFld (pgLMP k) Lmp.SENSE_LAST (11, 0) code).setNat (pgLMP k) Lmp.LAST_SAMPLE (t / LU % 2 ^ 32)).setLamp k
    { s.lampOf k with lastOn := t, hasOn := true }

/-- An off-sample enters the registers. -/
def State.offTaken (s : State) (k code t : Nat) : State :=
  (s.setFld (pgLMP k) Lmp.SENSE_LAST (27, 16) code).setLamp k { s.lampOf k with lastOff := t }

theorem State.lampSample_on {s : State} {k : Nat} (hen : s.enabled (pgLMP k) = true) (code t : Nat) :
    s.lampSample k true code t = (s.onTaken k code t).sampleJudged k true code t := by
  unfold State.lampSample
  dsimp only
  rw [if_neg (by rw [hen]; decide)]
  rfl

theorem State.lampSample_off {s : State} {k : Nat} (hen : s.enabled (pgLMP k) = true) (code t : Nat) :
    s.lampSample k false code t = (s.offTaken k code t).sampleJudged k false code t := by
  unfold State.lampSample
  dsimp only
  rw [if_neg (by rw [hen]; decide)]
  rfl

theorem State.sampleJudged_leaves (on : Bool) (code t : Nat) : s.Within (diagSpans k) (s.sampleJudged k on code t) ∧
    ((s.sampleJudged k on code t).lampOf k).sensed = (s.lampOf k).sensed := by
  have hcount : s.Within (diagSpans k) (if on then s.count (592 + 4 * k + 2) 1 else s) ∧
      (if on then s.count (592 + 4 * k + 2) 1 else s).lamp = s.lamp := by
    split
    · exact ⟨(State.Within.refl s).count (countSpans_subset_diag k),
        (State.count_keeps (s.keeps_parts 0x800000) (Keep.off_of_and (by decide))).lamp_eq⟩
    · exact ⟨.refl s, rfl⟩
  unfold State.sampleJudged
  dsimp only
  generalize (if on then s.count (592 + 4 * k + 2) 1 else s) = a at hcount ⊢
  have hsample : s.Within (diagSpans k) (a.sample (if on then 8 else 9) k code) := hcount.1.trans (a.sample_within _ _ _)
  have hlamp : (a.sample (if on then 8 else 9) k code).lamp = s.lamp := (a.sample_parts _ _ _).1.trans hcount.2
  generalize a.sample (if on then 8 else 9) k code = b at hsample hlamp ⊢
  split
  · exact ⟨hsample, congrArg LampState.sensed (s.lampOf_congr hlamp k)⟩
  generalize (if (b.lampOf k).runClass = b.sampleClass k on code then (b.lampOf k).runLength + 1 else 1) = len
  generalize hrun : ({ b.lampOf k with runClass := b.sampleClass k on code, runLength := len } : LampState) = y
  have hy : y.sensed = (s.lampOf k).sensed := by
    rw [← hrun, ← s.lampOf_congr hlamp k]
    rfl
  have hset : s.Within (diagSpans k) (b.setLamp k y) ∧ ((b.setLamp k y).lampOf k).sensed = (s.lampOf k).sensed :=
    ⟨hsample.trans (b.setLamp_within _ _), (congrArg LampState.sensed (b.lampOf_setLamp k y)).trans hy⟩
  split
  · obtain ⟨hw, hl⟩ := (b.setLamp k y).enterDiag_leaves k (b.sampleClass k on code) t
    exact ⟨hset.1.trans hw, hl.trans hset.2⟩
  · exact hset

end

end Sys2Proof.Machine
end

section
/-!
Lamp clusters and channels: launches, period boundaries, samples, RETRY, temperatures and derating (R451 to R470): O35.
-/
set_option Elab.async false
namespace Sys2Proof.Machine

/-! ### Ways to an instant leave the lamps -/

section
variable {s a : State}

theorem clearOf_reachLamp (k : Fin 32) {off : Nat} (h : off = PAGE_CTRL ∨ off = PAGE_STATUS) : clearOf reachSpans (regKey (pgLMP k) off) := by
  have hall : ∀ k : Fin 32, ∀ off ∈ [PAGE_CTRL, PAGE_STATUS], clearOf reachSpans (regKey (pgLMP k) off) := by decide
  exact hall k off (by simpa using h)

theorem clearOf_reachCluster (n : Fin 4) {off : Nat} (h : off = Lcl.LCL_MODE ∨ off = Lcl.DERATE_T ∨ off = Lcl.DERATE_MIN ∨ off = Lcl.TRIP) :
    clearOf reachSpans (regKey (pgLCL n) off) := by
  have hall : ∀ n : Fin 4, ∀ off ∈ [Lcl.LCL_MODE, Lcl.DERATE_T, Lcl.DERATE_MIN, Lcl.TRIP], clearOf reachSpans (regKey (pgLCL n) off) := by
    decide
  exact hall n off (by simpa using h)

theorem State.reach_lamps {x : Nat} (h : s.reach x = some a) : a.lamp = s.lamp ∧ a.cluster = s.cluster ∧ a.port = s.port ∧ a.launch = s.launch := by
  have hparts := State.reach_parts h
  exact ⟨hparts.lamp_eq, hparts.cluster_eq, hparts.port_eq, hparts.launch_eq⟩

theorem State.reachTick_cluster {key step off : Nat} (h : s.reachTick key step off = some a) : a.cluster = s.cluster := by
  obtain ⟨b, hb, rfl⟩ := Option.map_eq_some_iff.1 h
  exact (State.reach_parts hb).cluster_eq

/-! ### Slot check and launch (R451) -/

section
variable {n : Fin 4} {l : Launch}

theorem State.lampSlotCheck_reached (hl : earliest ((s.launches (keyLCL n)).filter (fun l => l.choice.isNone)) = some l)
    (h : s.reach (timeOfUnits (l.at_ - 2000 * LU)) = some a) (hmay : a.mayLaunch (keyLCL n) (pgLCL n) l.swath = true) :
    s.lampSlotCheck n = (a.checkSlot (keyLCL n) (pgLCL n) Lcl.UNDERRUNS Lcl.F_UNDERRUN (a.flag (pgLCL n) Lcl.LCL_MODE 2) l.frame).1.chooseLaunch
      (keyLCL n) l (a.checkSlot (keyLCL n) (pgLCL n) Lcl.UNDERRUNS Lcl.F_UNDERRUN (a.flag (pgLCL n) Lcl.LCL_MODE 2) l.frame).2 :=
  State.slotCheckAt_reached _ hl h hmay

theorem State.lampSlotCheck_holds (hl : earliest ((s.launches (keyLCL n)).filter (fun l => l.choice.isNone)) = some l)
    (h : s.reach (timeOfUnits (l.at_ - 2000 * LU)) = some a) (hmay : a.mayLaunch (keyLCL n) (pgLCL n) l.swath = true)
    (hslot : (a.portOf (keyLCL n)).holds l.frame = true) : s.lampSlotCheck n = a.chooseLaunch (keyLCL n) l (some l.frame) := by
  rw [State.lampSlotCheck_reached hl h hmay, State.checkSlot_holds hslot]

/-- What a fault of a lamp cluster writes. -/
abbrev clusterSpans (n : Nat) : List Span := regSpan (pgLCL n) PAGE_FAULT :: irqSpans

theorem State.clusterFault_within (s : State) (n : Fin 4) (b : Nat) (hb : b < 32 := by decide) :
    s.Within (clusterSpans n) (s.fault (pgLCL n) b) := by
  rw [s.fault_eq_faultHere (pageInfo_pgLCL n) rfl]
  exact State.Within.faultHere (.refl s) (i := regSpan (pgLCL n) PAGE_FAULT) (by simp) (by dsimp only [regSpan]; omega)
    (by dsimp only [regSpan]; omega) hb (List.subset_cons_self _ _)

theorem clearOf_cluster (n : Fin 4) {off : Nat} (h : off = Lcl.UNDERRUNS ∨ off = Lcl.TEMP) : clearOf (clusterSpans n) (regKey (pgLCL n) off) := by
  have hall : ∀ n : Fin 4, ∀ off ∈ [Lcl.UNDERRUNS, Lcl.TEMP], clearOf (clusterSpans n) (regKey (pgLCL n) off) := by decide
  exact hall n off (by simpa using h)

theorem State.lampSlotCheck_missing (hl : earliest ((s.launches (keyLCL n)).filter (fun l => l.choice.isNone)) = some l)
    (h : s.reach (timeOfUnits (l.at_ - 2000 * LU)) = some a) (hmay : a.mayLaunch (keyLCL n) (pgLCL n) l.swath = true)
    (hslot : (a.portOf (keyLCL n)).holds l.frame = false) :
    (s.lampSlotCheck n).reg (pgLCL n) Lcl.UNDERRUNS = a.reg (pgLCL n) Lcl.UNDERRUNS + 1 := by
  rw [State.lampSlotCheck_reached hl h hmay, State.checkSlot_missing hslot]
  exact ((State.clusterFault_within (a.inc (pgLCL n) Lcl.UNDERRUNS) n Lcl.F_UNDERRUN).reg (clearOf_cluster n (.inl rfl))).trans
    (State.reg_setReg_self _ _ _ _)

/-- The values of the engines that a launch takes. -/
def ClusterState.enginesAt (c : ClusterState) (l : Launch) : List Nat :=
  ((c.fixedV.find? (fun e => e.1 == l.start)).map (·.2)).getD (c.engines.map (·.v))

theorem State.lampTake_leaves (s : State) (n : Nat) (l : Launch) (g : Nat) :
    ((s.lampTake n l (some g)).portOf (keyLCL n)).emitted = some g ∧ (s.lampTake n l (some g)).launch = s.launch ∧
    ((s.lampTake n l (some g)).clusterOf n).launched = (s.clusterOf n).launched
      ++ [(l.at_, some (writeBuf 8 [] 0 ((s.portOf (keyLCL n)).buf (g % 2))), (s.clusterOf n).enginesAt l)] :=
  ⟨congrArg PortState.emitted (State.portOf_setPort _ _ _), rfl, congrArg ClusterState.launched (State.clusterOf_setCluster _ _ _)⟩

theorem State.lampLaunch_reached {g : Nat} (hl : earliest (s.launches (keyLCL n)) = some l) (hc : l.choice = some (some g))
    (h : s.reach (timeOfUnits l.at_) = some a) (hmay : a.mayLaunch (keyLCL n) (pgLCL n) l.swath = true) :
    s.lampLaunch n = (a.dropLaunch (keyLCL n) l).lampTake n l (some g) := by
  unfold State.lampLaunch
  simp only [hl, hc, Option.any_some, Option.isNone_some, Bool.false_eq_true, if_false, State.atTime_reached h, Option.getD_some]
  exact if_pos hmay

theorem State.lampLaunch_leaves {g : Nat} (hl : earliest (s.launches (keyLCL n)) = some l) (hc : l.choice = some (some g))
    (h : s.reach (timeOfUnits l.at_) = some a) (hmay : a.mayLaunch (keyLCL n) (pgLCL n) l.swath = true) :
    ((s.lampLaunch n).portOf (keyLCL n)).emitted = some g ∧
    (s.lampLaunch n).launches (keyLCL n) = (s.launches (keyLCL n)).filter (fun x => x != l) ∧
    ((s.lampLaunch n).clusterOf n).launched = (s.clusterOf n).launched
      ++ [(l.at_, some (writeBuf 8 [] 0 ((s.portOf (keyLCL n)).buf (g % 2))), (s.clusterOf n).enginesAt l)] := by
  obtain ⟨-, hcluster, hport, hlaunch⟩ := State.reach_lamps h
  obtain ⟨hemitted, hkept, hlaunched⟩ := (a.dropLaunch (keyLCL n) l).lampTake_leaves n l g
  have hc' : (a.dropLaunch (keyLCL n) l).clusterOf n = s.clusterOf n := s.clusterOf_congr (t := a.dropLaunch (keyLCL n) l) hcluster n
  have hp' : (a.dropLaunch (keyLCL n) l).portOf (keyLCL n) = s.portOf (keyLCL n) :=
    State.portOf_congr (t := a.dropLaunch (keyLCL n) l) hport _
  rw [hc', hp'] at hlaunched
  rw [State.lampLaunch_reached hl hc h hmay]
  exact ⟨hemitted, State.launches_dropLaunch hkept hlaunch, hlaunched⟩

end

/-! ### Period boundaries (R452) -/

/-- A cluster's boundary is `t`. -/
def State.BoundaryIs (s : State) (n t : Nat) : Prop := (s.clusterOf n).boundary = t

section
variable {n t : Nat}

theorem State.BoundaryIs.upd {b : State} (h : s.BoundaryIs n t) (hc : b.cluster = s.cluster) : b.BoundaryIs n t :=
  (congrArg ClusterState.boundary (s.clusterOf_congr hc n)).trans h

theorem State.BoundaryIs.derating (h : s.BoundaryIs n t) : (s.deratingApply n).BoundaryIs n t := by
  have hset (c : ClusterState) (hc : c.boundary = t) : (s.setCluster n c).BoundaryIs n t :=
    (congrArg ClusterState.boundary (s.clusterOf_setCluster n c)).trans hc
  unfold State.deratingApply
  dsimp only
  split
  · exact h
  · next d trip _ =>
    generalize hb : s.setCluster n { s.clusterOf n with update := none, tripped := trip } = b
    have hbound : b.BoundaryIs n t := hb ▸ hset _ h
    generalize (if d < 32768 then 1 else 0) = m
    have hregs : ((b.setNat (pgLCL n) Lcl.DERATE d).setSts (pgLCL n) Lcl.S_DERATING m).BoundaryIs n t :=
      hbound.upd ((State.setReg_cluster _ _ _ _).trans (State.setReg_cluster _ _ _ _))
    generalize (b.setNat (pgLCL n) Lcl.DERATE d).setSts (pgLCL n) Lcl.S_DERATING m = c at hregs ⊢
    split
    · have hinc : (c.inc (pgLCL n) Lcl.TRIPS).BoundaryIs n t := hregs.upd (State.setReg_cluster _ _ _ _)
      have hfault := hinc.upd (State.fault_keeps (page := pgLCL n) (n := Lcl.F_TRIP)
        ((c.inc (pgLCL n) Lcl.TRIPS).keeps_parts 0x400000) (Keep.off_of_and (by decide))).cluster_eq
      exact hfault.upd (State.count_keeps (State.keeps_parts _ 0x400000) (Keep.off_of_and (by decide))).cluster_eq
    · exact hregs

theorem State.setDriven_cluster (s : State) (page : Nat) (f : Field) (w : List Wire) (on : Bool) :
    (s.setDriven page f w on).cluster = s.cluster :=
  (State.setDriven_keeps (s.keeps_parts 0x400000) (Keep.off_of_and (by decide))).cluster_eq

theorem State.driven_cluster (s : State) (l : List Nat) (on : Nat) :
    (l.foldl (fun a k => a.setSts (pgLMP k) Lmp.S_DRIVEN on) s).cluster = s.cluster :=
  (State.Keeps.foldl (s.keeps_parts 0x400000) fun _ _ ha => State.setSts_keeps ha (Keep.off_of_and (by decide))).cluster_eq

theorem State.gatesOff_cluster (s : State) (l : List Nat) : (l.foldl State.gateOff s).cluster = s.cluster :=
  (State.Keeps.foldl (s.keeps_parts 0x400000) fun _ _ ha => State.gateOff_keeps ha (Keep.off_of_and (by decide))).cluster_eq

theorem State.setReleased_boundary (s : State) (h : s.BoundaryIs n t) (at_ : Option Nat) :
    (s.setCluster n { s.clusterOf n with releasedAt := at_, keeperOff := false }).BoundaryIs n t := by
  rw [State.BoundaryIs, State.clusterOf_setCluster]
  exact h

theorem State.BoundaryIs.refresh (h : s.BoundaryIs n t) : (s.lclRefresh n).BoundaryIs n t := by
  unfold State.lclRefresh
  extract_lets x on s1 s2 c s3
  have h1 : s1.cluster = s.cluster := (State.setDriven_cluster _ _ _ _ _).trans (State.setReg_cluster _ _ _ _)
  have h2 : s2.cluster = s1.cluster := State.driven_cluster s1 (channelsOf n) on
  have hs2 : s2.BoundaryIs n t := h.upd (h2.trans h1)
  have hs3 : s3.BoundaryIs n t := by
    simp only [s3, c]
    clear_value s1 s2
    have hset := s2.setReleased_boundary hs2 (if x = 0 then some s.tln.now else none)
    exact hset.upd (State.irq_keeps (State.keeps_parts _ 0x400000) (Keep.off_of_and (by decide))).cluster_eq
  clear_value s1 s2 c s3
  split
  · exact hs2
  · split
    · exact hs3.upd (State.gatesOff_cluster s3 (channelsOf n))
    · exact hs3

/-- The boundary is over for the cluster's carries. -/
def State.carryKept (s : State) (n : Nat) : State := { s with red := { s.red with carryReset := s.red.carryReset.filter (· != n) } }

theorem State.pwmBoundaryAt_boundary (s : State) (n t : Nat) : (s.pwmBoundaryAt n t).BoundaryIs n t := by
  unfold State.pwmBoundaryAt
  extract_lets c0 s1 s2 s3 st s4 s5 s6 r
  have hfirst : (s.setCluster n { (s.clusterOf n).forceUpTo t with boundary := t }).BoundaryIs n t :=
    congrArg ClusterState.boundary (s.clusterOf_setCluster n _)
  have hs1 : s1.BoundaryIs n t := hfirst.derating
  clear_value s1
  have hs2 : s2.BoundaryIs n t := by
    simp only [s2]
    split
    · exact hs1.upd (State.setReg_cluster _ _ _ _)
    · exact hs1
  clear_value s2
  have hs3 : s3.BoundaryIs n t := hs2.refresh
  clear_value s3
  have hcount (a : State) (ha : a.BoundaryIs n t) (k : Nat) : (a.count k 1).BoundaryIs n t :=
    ha.upd (State.count_keeps (a.keeps_parts 0x400000) (Keep.off_of_and (by decide))).cluster_eq
  have hs4 : s4.BoundaryIs n t := hcount s3 hs3 _
  clear_value s4
  have hs5 : s5.BoundaryIs n t := by
    simp only [s5]
    split
    · exact hcount s4 hs4 _
    · exact hs4
  clear_value s5
  have hs6 : s6.BoundaryIs n t :=
    hs5.upd (State.Keeps.foldl (s5.keeps_parts 0x400000) fun a _ ha => State.lampPeriod_keeps ha (Keep.off_of_and (by decide))).cluster_eq
  clear_value s6
  exact hs6.upd (b := s6.carryKept n) rfl

end

theorem State.pwmBoundary_reached {n : Nat} (h : s.reach (timeOfUnits (s.nextBoundary n)) = some a) :
    s.pwmBoundary n = a.pwmBoundaryAt n (s.nextBoundary n) := State.atTime_reached h _

end

end Sys2Proof.Machine
end

section
/-!
Samples, RETRY, temperatures and derating of lamp clusters (R456 to R470): O35.
-/
set_option Elab.async false
namespace Sys2Proof.Machine

/-! ### Samples of the holder (R456, R472) -/

theorem clearOf_tellLamp (k : Fin 32) {off : Nat} (h : off = Lmp.SENSE_LAST ∨ off = Lmp.LAST_SAMPLE) :
    clearOf tellSpans (regKey (pgLMP k) off) := by
  have hall : ∀ k : Fin 32, ∀ off ∈ [Lmp.SENSE_LAST, Lmp.LAST_SAMPLE], clearOf tellSpans (regKey (pgLMP k) off) := by decide
  exact hall k off (by simpa using h)

section
variable (s : State) (k : Fin 32)

theorem State.onTaken_leaves (code t : Nat) : (s.onTaken k code t).fld (pgLMP k) Lmp.SENSE_LAST (11, 0) = code % 4096 ∧
    (s.onTaken k code t).nat (pgLMP k) Lmp.LAST_SAMPLE = t / LU % 2 ^ 32 ∧ ((s.onTaken k code t).lampOf k).lastOn = t ∧
    ((s.onTaken k code t).lampOf k).hasOn = true := by
  have hfirst : (s.setFld (pgLMP k) Lmp.SENSE_LAST (11, 0) code).fld (pgLMP k) Lmp.SENSE_LAST (11, 0) = code % 4096 :=
    State.fld_setFld_same _ _ _ (by decide) _
  unfold State.onTaken
  generalize s.setFld (pgLMP k) Lmp.SENSE_LAST (11, 0) code = b at hfirst ⊢
  have hne : regKey (pgLMP k) Lmp.SENSE_LAST ≠ regKey (pgLMP k) Lmp.LAST_SAMPLE := by
    simp only [regKey, Lmp.SENSE_LAST, Lmp.LAST_SAMPLE]
    omega
  have hcode : (b.setNat (pgLMP k) Lmp.LAST_SAMPLE (t / LU % 2 ^ 32)).fld (pgLMP k) Lmp.SENSE_LAST (11, 0) = code % 4096 :=
    (congrArg (bits · (11, 0)) (State.reg_setReg_ne _ _ hne)).trans hfirst
  have htime : (b.setNat (pgLMP k) Lmp.LAST_SAMPLE (t / LU % 2 ^ 32)).nat (pgLMP k) Lmp.LAST_SAMPLE = t / LU % 2 ^ 32 :=
    (State.nat_setNat_same _ _ _ _).trans (Nat.mod_mod _ _)
  generalize b.setNat (pgLMP k) Lmp.LAST_SAMPLE (t / LU % 2 ^ 32) = c at hcode htime ⊢
  generalize hv : ({ s.lampOf k with lastOn := t, hasOn := true } : LampState) = v
  have hset : c.Within [] (c.setLamp k v) := c.setLamp_within _ _
  refine ⟨(hset.fld (by simp [clearOf]) _).trans hcode, (hset.nat (by simp [clearOf])).trans htime, ?_, ?_⟩
  · rw [State.lampOf_setLamp, ← hv]
  · rw [State.lampOf_setLamp, ← hv]

theorem State.offTaken_leaves (code t : Nat) : (s.offTaken k code t).fld (pgLMP k) Lmp.SENSE_LAST (27, 16) = code % 4096 ∧
    ((s.offTaken k code t).lampOf k).lastOff = t := by
  have hfirst : (s.setFld (pgLMP k) Lmp.SENSE_LAST (27, 16) code).fld (pgLMP k) Lmp.SENSE_LAST (27, 16) = code % 4096 :=
    State.fld_setFld_same _ _ _ (by decide) _
  unfold State.offTaken
  generalize s.setFld (pgLMP k) Lmp.SENSE_LAST (27, 16) code = b at hfirst ⊢
  generalize hv : ({ s.lampOf k with lastOff := t } : LampState) = v
  have hset : b.Within [] (b.setLamp k v) := b.setLamp_within _ _
  refine ⟨(hset.fld (by simp [clearOf]) _).trans hfirst, ?_⟩
  rw [State.lampOf_setLamp, ← hv]

/-- The partner is told of a judged sample: its registers and its instant are as the sample left them. -/
theorem State.sampleTold_leaves (on : Bool) (code t cls : Nat) :
    let u := (s.sampleJudged k on code t).tellSense cls k code
    (∀ off, off = Lmp.SENSE_LAST ∨ off = Lmp.LAST_SAMPLE → u.reg (pgLMP k) off = s.reg (pgLMP k) off) ∧
      (u.lampOf k).sensed = (s.lampOf k).sensed := by
  obtain ⟨hwithin, hsensed⟩ := s.sampleJudged_leaves k on code t
  dsimp only
  generalize s.sampleJudged k on code t = a at hwithin hsensed ⊢
  have htold := a.tellSense_within cls k code
  refine ⟨fun off hoff => (htold.reg (clearOf_tellLamp k hoff)).trans (hwithin.reg (clearOf_lamp k hoff)), ?_⟩
  exact (congrArg LampState.sensed (a.lampOf_congr (a.tellSense_parts cls k code).1 k)).trans hsensed

theorem State.onSample_leaves {a : State} (hen : a.enabled (pgLMP k) = true) (code t : Nat) :
    let u := (a.lampSample k true code t).tellSense 0 k code
    u.fld (pgLMP k) Lmp.SENSE_LAST (11, 0) = code % 4096 ∧ u.nat (pgLMP k) Lmp.LAST_SAMPLE = t / LU % 2 ^ 32 ∧
      (u.lampOf k).lastOn = t ∧ (u.lampOf k).hasOn = true := by
  obtain ⟨hcode, htime, hlast, hhas⟩ := a.onTaken_leaves k code t
  rw [State.lampSample_on hen]
  generalize a.onTaken k code t = b at hcode htime hlast hhas ⊢
  obtain ⟨hreg, hsensed⟩ := b.sampleTold_leaves k true code t 0
  generalize (b.sampleJudged k true code t).tellSense 0 k code = c at hreg hsensed ⊢
  obtain ⟨hon, hsome, -⟩ := LampState.eq_of_sensed hsensed
  exact ⟨(congrArg (bits · (11, 0)) (hreg _ (.inl rfl))).trans hcode, (congrArg BitVec.toNat (hreg _ (.inr rfl))).trans htime,
    hon.trans hlast, hsome.trans hhas⟩

theorem State.offSample_leaves {a : State} (hen : a.enabled (pgLMP k) = true) (code t : Nat) :
    let u := (a.lampSample k false code t).tellSense 1 k code
    u.fld (pgLMP k) Lmp.SENSE_LAST (27, 16) = code % 4096 ∧ (u.lampOf k).lastOff = t := by
  obtain ⟨hcode, hlast⟩ := a.offTaken_leaves k code t
  rw [State.lampSample_off hen]
  generalize a.offTaken k code t = b at hcode hlast ⊢
  obtain ⟨hreg, hsensed⟩ := b.sampleTold_leaves k false code t 1
  generalize (b.sampleJudged k false code t).tellSense 1 k code = c at hreg hsensed ⊢
  obtain ⟨-, -, hoff⟩ := LampState.eq_of_sensed hsensed
  exact ⟨(congrArg (bits · (27, 16)) (hreg _ (.inl rfl))).trans hcode, hoff.trans hlast⟩

end

section
variable {s a : State} {k : Fin 32}

theorem State.onSample_reached (code : Nat) (hsense : s.senses k = true) (hlong : 40000 ≤ (s.lampOf k).pulse)
    (hedge : (s.lampOf k).pulseAt ≠ (s.lampOf k).prevEnd) (hnew : (s.lampOf k).hasOn = true → (s.lampOf k).lastOn < (s.lampOf k).pulseAt)
    (h : s.reach (timeOfUnits ((s.lampOf k).pulseAt + s.senseDelay k)) = some a) : s.onSample k code
      = if a.channelTaken k then a
        else (a.lampSample k true code ((s.lampOf k).pulseAt + s.senseDelay k)).tellSense 0 k code := by
  unfold State.onSample
  dsimp only
  have hfree : ((s.lampOf k).hasOn && decide ((s.lampOf k).pulseAt ≤ (s.lampOf k).lastOn)) = false := by
    cases hhas : (s.lampOf k).hasOn
    · rfl
    · simpa using hnew hhas
  rw [if_neg (by simp [hsense, hedge, hfree]; omega), State.atTime_reached h]

theorem State.offSample_reached (code : Nat) (hsense : s.senses k = true) (hpulse : (s.lampOf k).pulse ≠ 0)
    (hgap : (s.lampOf k).pulse + 40000 ≤ s.fld (pgLCL (k / 8)) Lcl.PWM_PERIOD (23, 0))
    (hnew : (s.lampOf k).lastOff ≤ (s.lampOf k).pulseAt + 64 * (s.lampOf k).pulse)
    (h : s.reach (timeOfUnits ((s.lampOf k).pulseAt + 64 * (s.lampOf k).pulse + s.senseDelay k)) = some a) : s.offSample k code
      = if a.channelTaken k then a
        else (a.lampSample k false code ((s.lampOf k).pulseAt + 64 * (s.lampOf k).pulse + s.senseDelay k)).tellSense 1 k code := by
  unfold State.offSample
  dsimp only
  rw [if_neg (by simp [hsense, hpulse]; omega), State.atTime_reached h]

theorem State.enabled_reach {x : Nat} (h : s.reach x = some a) (hen : s.enabled (pgLMP k) = true) : a.enabled (pgLMP k) = true :=
  ((State.reach_within h).flag (clearOf_reachLamp k (.inl rfl)) 0).trans hen

theorem onSample_acts (code : Fin 4096) (hsense : s.senses k = true) (hen : s.enabled (pgLMP k) = true)
    (hlong : 40000 ≤ (s.lampOf k).pulse) (hedge : (s.lampOf k).pulseAt ≠ (s.lampOf k).prevEnd)
    (hnew : (s.lampOf k).hasOn = true → (s.lampOf k).lastOn < (s.lampOf k).pulseAt)
    (h : s.reach (timeOfUnits ((s.lampOf k).pulseAt + s.senseDelay k)) = some a) :
    (a.channelTaken k = false → ∃ t, exec (.lampOnSample k code) s = .next t ∧
      t.fld (pgLMP k) Lmp.SENSE_LAST (11, 0) = s.calCode k code % 4096 ∧
      t.nat (pgLMP k) Lmp.LAST_SAMPLE = ((s.lampOf k).pulseAt + s.senseDelay k) / LU % 2 ^ 32 ∧
      (t.lampOf k).lastOn = (s.lampOf k).pulseAt + s.senseDelay k ∧ (t.lampOf k).hasOn = true) ∧
    (a.channelTaken k = true → exec (.lampOnSample k code) s = .next a) := by
  have hexec : exec (.lampOnSample k code) s = .next (s.onSample k (s.calCode k code)) := rfl
  have hena := State.enabled_reach h hen
  rw [hexec, State.onSample_reached _ hsense hlong hedge hnew h]
  generalize (s.lampOf k).pulseAt + s.senseDelay k = t
  generalize s.calCode k code = c
  refine ⟨fun hfree => ?_, fun htaken => ?_⟩
  · rw [if_neg (by rw [hfree]; decide)]
    exact ⟨_, rfl, State.onSample_leaves k hena c t⟩
  · rw [if_pos htaken]

theorem offSample_acts (code : Fin 4096) (hsense : s.senses k = true) (hen : s.enabled (pgLMP k) = true)
    (hpulse : (s.lampOf k).pulse ≠ 0)
    (hgap : (s.lampOf k).pulse + 40000 ≤ s.fld (pgLCL (k / 8)) Lcl.PWM_PERIOD (23, 0))
    (hnew : (s.lampOf k).lastOff ≤ (s.lampOf k).pulseAt + 64 * (s.lampOf k).pulse)
    (h : s.reach (timeOfUnits ((s.lampOf k).pulseAt + 64 * (s.lampOf k).pulse + s.senseDelay k)) = some a) :
    (a.channelTaken k = false → ∃ t, exec (.lampOffSample k code) s = .next t ∧
      t.fld (pgLMP k) Lmp.SENSE_LAST (27, 16) = s.calCode k code % 4096 ∧
      (t.lampOf k).lastOff = (s.lampOf k).pulseAt + 64 * (s.lampOf k).pulse + s.senseDelay k) ∧
    (a.channelTaken k = true → exec (.lampOffSample k code) s = .next a) := by
  have hexec : exec (.lampOffSample k code) s = .next (s.offSample k (s.calCode k code)) := rfl
  have hena := State.enabled_reach h hen
  rw [hexec, State.offSample_reached _ hsense hpulse hgap hnew h]
  generalize (s.lampOf k).pulseAt + 64 * (s.lampOf k).pulse + s.senseDelay k = t
  generalize s.calCode k code = c
  refine ⟨fun hfree => ?_, fun htaken => ?_⟩
  · rw [if_neg (by rw [hfree]; decide)]
    exact ⟨_, rfl, State.offSample_leaves k hena c t⟩
  · rw [if_pos htaken]

/-! ### UNKNOWN and RETRY (R458, R459) -/

theorem clearOf_countLamp (k : Fin 32) : clearOf countSpans (regKey (pgLMP k) PAGE_STATUS) := by
  revert k
  decide

theorem clearFld_latched (k : Fin 32) : clearFld (diagSpans k) (regKey (pgLMP k) PAGE_STATUS) Lmp.S_LATCHED := by
  revert k
  decide

theorem State.diag_setDiag (s : State) (k : Fin 32) {n : Nat} (hn : n < 8) : (s.setDiag k n).sts (pgLMP k) Lmp.S_DIAG_STATE = n := by
  unfold State.setDiag
  split
  · next h => exact h
  · have hset : (s.setSts (pgLMP k) Lmp.S_DIAG_STATE n).sts (pgLMP k) Lmp.S_DIAG_STATE = n :=
      (State.sts_setSts_self _ _ (by decide) n).trans (Nat.mod_eq_of_lt hn)
    generalize s.setSts (pgLMP k) Lmp.S_DIAG_STATE n = b at hset ⊢
    have hcount : b.Within countSpans ((b.irq (272 + k)).count (592 + 4 * k + 3) 1) :=
      ((State.irq_within _).mono (List.subset_cons_self _ _)).trans (State.count_within _ _)
    exact (hcount.sts (clearOf_countLamp k) _).trans hset

theorem State.diagUnknown_leaves (s : State) (k : Fin 32) : (s.diagUnknown k).sts (pgLMP k) Lmp.S_DIAG_STATE = 0 ∧
    (s.diagUnknown k).lampOf k = { s.lampOf k with runClass := 0, runLength := 0 } ∧ s.Within (diagSpans k) (s.diagUnknown k) := by
  unfold State.diagUnknown
  generalize hv : ({ s.lampOf k with runClass := 0, runLength := 0 } : LampState) = v
  refine ⟨State.diag_setDiag _ k (by decide), ?_, (s.setLamp_within k v).trans (State.setDiag_within _ _ _)⟩
  rw [State.lampOf_congr (s.setLamp k v) (State.setDiag_lamp _ _ _), State.lampOf_setLamp]

theorem diagTimeout_acts (hhas : (s.lampOf k).hasOn = true) (hfree : s.sts (pgLMP k) Lmp.S_LATCHED ≠ 1)
    (h : s.reach (timeOfUnits ((s.lampOf k).lastOn + s.fld (pgLCL (k / 8)) Lcl.PROBE_MS (15, 0) * 1000000 * LU
      + 64 * s.fld (pgLCL (k / 8)) Lcl.PWM_PERIOD (23, 0))) = some a) :
    ∃ t, exec (.diagTimeout k) s = .next t ∧ t.sts (pgLMP k) Lmp.S_DIAG_STATE = 0 ∧ (t.lampOf k).hasOn = false ∧
      (t.lampOf k).runLength = 0 := by
  have hout : s.diagTimeout k = (a.setLamp k { a.lampOf k with hasOn := false }).diagUnknown k := by
    unfold State.diagTimeout
    dsimp only
    rw [if_neg (by simp [hhas, hfree]), State.atTime_reached h]
  refine ⟨_, congrArg Host.Outcome.next hout, ?_⟩
  obtain ⟨hdiag, hlamp, -⟩ := (a.setLamp k { a.lampOf k with hasOn := false }).diagUnknown_leaves k
  refine ⟨hdiag, ?_, ?_⟩
  · rw [hlamp, State.lampOf_setLamp]
  · rw [hlamp]

theorem State.ownWrite_lampAction (s : State) (r : Requester) (k : Nat) :
    s.ownWrite r ⟨.lmp, k, 0⟩ (0 * 0x1000 + Lmp.LMP_ACTION) 1 = some (s.retryWrite k) := rfl

theorem State.retryWrite_leaves (s : State) (k : Fin 32) (hlatched : s.sts (pgLMP k) Lmp.S_LATCHED = 1) :
    (s.retryWrite k).sts (pgLMP k) Lmp.S_LATCHED = 0 ∧ (s.retryWrite k).sts (pgLMP k) Lmp.S_DIAG_STATE = 0 ∧
    ((s.retryWrite k).lampOf k).retryAt = some (unitsOf s.tln.now + 20000 * LU) := by
  have hretry : s.lampRetry k = ((s.setSts (pgLMP k) Lmp.S_LATCHED 0).setLamp k
      { (s.setSts (pgLMP k) Lmp.S_LATCHED 0).lampOf k with retryAt := some (unitsOf s.tln.now + 20000 * LU) }).diagUnknown k := by
    unfold State.lampRetry
    rw [if_neg (by rw [hlatched]; decide)]
  have hclear : (s.setSts (pgLMP k) Lmp.S_LATCHED 0).sts (pgLMP k) Lmp.S_LATCHED = 0 := State.sts_setSts_self _ _ (by decide) 0
  unfold State.retryWrite
  rw [hretry]
  generalize s.setSts (pgLMP k) Lmp.S_LATCHED 0 = b at hclear ⊢
  generalize hv : ({ b.lampOf k with retryAt := some (unitsOf s.tln.now + 20000 * LU) } : LampState) = v
  have hat : v.retryAt = some (unitsOf s.tln.now + 20000 * LU) := hv ▸ rfl
  have hset : b.Within [] (b.setLamp k v) := b.setLamp_within _ _
  have hlamp' : (b.setLamp k v).lampOf k = v := b.lampOf_setLamp k v
  generalize b.setLamp k v = c at hset hlamp' ⊢
  obtain ⟨hdiag, hlamp, hwithin⟩ := c.diagUnknown_leaves k
  generalize c.diagUnknown k = d at hdiag hlamp hwithin ⊢
  have htold : d.Within tellSpans (d.tellOutcome 2 k (beBytes 4 1)) := d.tell_within _ _
  have hkept : (d.tellOutcome 2 k (beBytes 4 1)).lamp = d.lamp :=
    (State.tellOutcome_keeps (d.keeps_parts 0x800000) (Keep.off_of_and (by decide))).lamp_eq
  refine ⟨?_, (htold.sts (clearOf_lampStatus k) _).trans hdiag, ?_⟩
  · refine (htold.sts (clearOf_lampStatus k) _).trans ((hwithin.stsApart (clearFld_latched k)).trans ?_)
    exact (hset.sts (by simp [clearOf]) _).trans hclear
  · rw [State.lampOf_congr d hkept, hlamp, hlamp']
    exact hat

theorem State.told_tln (s : State) (r : Requester) (page off : Nat) (v : Word) : (s.told r page off v).tln = s.tln :=
  (State.mirrorWrite_keeps (State.count_keeps (s.keeps_parts 0x200) (Keep.off_of_and (by decide))) (Keep.off_of_and (by decide))).tln_eq

theorem retry_acts (r : Requester) (h : s.accepts r (pgLMP k) Lmp.LMP_ACTION = true)
    (hlatched : (s.told r (pgLMP k) Lmp.LMP_ACTION 1).sts (pgLMP k) Lmp.S_LATCHED = 1) :
    ∃ t, exec (.retry r k) s = .next t ∧ t.sts (pgLMP k) Lmp.S_LATCHED = 0 ∧ t.sts (pgLMP k) Lmp.S_DIAG_STATE = 0 ∧
      (t.lampOf k).retryAt = some (unitsOf s.tln.now + 20000 * LU) := by
  have hwrite : s.busWrite r (pgLMP k) Lmp.LMP_ACTION 1 = (s.told r (pgLMP k) Lmp.LMP_ACTION 1).retryWrite k :=
    State.busWrite_own h (pageInfo_pgLMP k) (by decide) (by decide) (State.ownWrite_lampAction _ _ _)
  have hleft := State.retryWrite_leaves _ k hlatched
  rw [s.told_tln] at hleft
  exact ⟨_, congrArg Host.Outcome.next hwrite, hleft⟩

end

/-! ### Temperatures and derating (R468 to R470) -/

section
variable {s a : State} {n : Fin 4}

theorem keeperOff_acts {x : Nat} (hrel : (s.clusterOf n).releasedAt = some x) (h : s.reach (x + 1000000 * NS) = some a) :
    ∃ t, exec (.keeperOff n) s = .next t ∧ (t.clusterOf n).keeperOff = true := by
  have hout : s.keeperEnds n = a.setCluster n { a.clusterOf n with keeperOff := true } := by
    unfold State.keeperEnds
    rw [hrel]
    exact State.atTime_reached h _
  refine ⟨_, congrArg Host.Outcome.next hout, ?_⟩
  rw [State.clusterOf_setCluster]

theorem unsign_sixteen_lt (v : Int) : unsign 16 v < 2 ^ 32 := Nat.lt_trans (unsign_lt v) (by decide)

theorem clearOf_tellCluster (n : Fin 4) {off : Nat} (h : off = Lcl.TEMP ∨ off = PAGE_FAULT) : clearOf tellSpans (regKey (pgLCL n) off) := by
  have hall : ∀ n : Fin 4, ∀ off ∈ [Lcl.TEMP, PAGE_FAULT], clearOf tellSpans (regKey (pgLCL n) off) := by decide
  exact hall n off (by simpa using h)

theorem clearOf_irqCluster (n : Fin 4) : clearOf irqSpans (regKey (pgLCL n) PAGE_FAULT) := by
  revert n
  decide

theorem State.tsnsTake_leaves (s : State) (n : Nat) (t : Int) : (s.tsnsTake n t).nat (pgLCL n) Lcl.TEMP = unsign 16 t ∧
    ((s.tsnsTake n t).clusterOf n).measured = some t := by
  have htemp : (s.setNat (pgLCL n) Lcl.TEMP (unsign 16 t)).nat (pgLCL n) Lcl.TEMP = unsign 16 t :=
    (State.nat_setNat_same _ _ _ _).trans (Nat.mod_eq_of_lt (unsign_sixteen_lt t))
  unfold State.tsnsTake
  generalize s.setNat (pgLCL n) Lcl.TEMP (unsign 16 t) = b at htemp ⊢
  generalize hc : ({ s.clusterOf n with measured := some t } : ClusterState) = c
  have hset : b.Within [] (b.setCluster n c) := b.setCluster_within n c
  have hcluster : (b.setCluster n c).clusterOf n = c := b.clusterOf_setCluster n c
  generalize b.setCluster n c = d at hset hcluster ⊢
  have hsample : d.Within [] (d.sample 10 n t) := d.sample_within _ _ _
  refine ⟨(hsample.nat (by simp [clearOf])).trans ((hset.nat (by simp [clearOf])).trans htemp), ?_⟩
  rw [State.clusterOf_congr d (d.sample_parts 10 n t).2, hcluster, ← hc]

/-- A measurement as it stands: a broken sensor is reported besides. -/
def State.tsnsJudged (s : State) (n : Nat) (t : Int) (broken : Bool) : State :=
  if broken then (s.tsnsTake n t).fault (pgLCL n) Lcl.F_SENSOR_BROKEN else s.tsnsTake n t

theorem State.tsnsJudged_leaves (s : State) (n : Fin 4) (t : Int) (broken : Bool) (code : Nat) :
    let u := (s.tsnsJudged n t broken).tellSense 2 n code
    u.nat (pgLCL n) Lcl.TEMP = unsign 16 t ∧ (u.clusterOf n).measured = some t ∧
      (broken = true → u.flag (pgLCL n) PAGE_FAULT Lcl.F_SENSOR_BROKEN = true) := by
  obtain ⟨htemp, hmeasured⟩ := s.tsnsTake_leaves n t
  unfold State.tsnsJudged
  dsimp only
  generalize s.tsnsTake n t = b at htemp hmeasured ⊢
  have hfault := b.clusterFault_within n Lcl.F_SENSOR_BROKEN
  have hkept : (b.fault (pgLCL n) Lcl.F_SENSOR_BROKEN).cluster = b.cluster :=
    (State.fault_keeps (b.keeps_parts 0x400000) (Keep.off_of_and (by decide))).cluster_eq
  have hjudged : (if broken then b.fault (pgLCL n) Lcl.F_SENSOR_BROKEN else b).nat (pgLCL n) Lcl.TEMP = unsign 16 t ∧
      ((if broken then b.fault (pgLCL n) Lcl.F_SENSOR_BROKEN else b).clusterOf n).measured = some t ∧
      (broken = true → (if broken then b.fault (pgLCL n) Lcl.F_SENSOR_BROKEN else b).flag (pgLCL n) PAGE_FAULT Lcl.F_SENSOR_BROKEN = true) := by
    cases broken
    · exact ⟨htemp, hmeasured, fun hb => absurd hb Bool.false_ne_true⟩
    · refine ⟨(hfault.nat (clearOf_cluster n (.inr rfl))).trans htemp, ?_,
        fun _ => State.flag_fault b (pageInfo_pgLCL n) rfl (by decide) (clearOf_irqCluster n)⟩
      exact (congrArg ClusterState.measured (b.clusterOf_congr hkept n)).trans hmeasured
  generalize (if broken then b.fault (pgLCL n) Lcl.F_SENSOR_BROKEN else b) = c at hjudged ⊢
  obtain ⟨h1, h2, h3⟩ := hjudged
  have htold := c.tellSense_within 2 n code
  refine ⟨(htold.nat (clearOf_tellCluster n (.inl rfl))).trans h1, ?_,
    fun hb => (htold.flag (clearOf_tellCluster n (.inr rfl)) _).trans (h3 hb)⟩
  exact (congrArg ClusterState.measured (c.clusterOf_congr (c.tellSense_parts 2 n code).2 n)).trans h2

theorem tsnsMeasure_acts (v1 v2 : Nat) (hmode : s.fld (pgLCL n) Lcl.LCL_MODE Lcl.TSNS_MODE ≠ 0) (hheld : s.stileHeld = true)
    (hen : s.enabled (pgLCL n) = true) (h : s.reachTick (tickSense n) (10 * MS) (5 * MS) = some a) :
    (a.channelTaken (32 + n) = false → ∃ t, exec (.tsnsMeasure n v1 v2) s = .next t ∧
      t.nat (pgLCL n) Lcl.TEMP = unsign 16 (a.tsnsValue n v1 v2).1 ∧ (t.clusterOf n).measured = some (a.tsnsValue n v1 v2).1 ∧
      ((a.tsnsValue n v1 v2).2 = true → t.flag (pgLCL n) PAGE_FAULT Lcl.F_SENSOR_BROKEN = true)) ∧
    (a.channelTaken (32 + n) = true → exec (.tsnsMeasure n v1 v2) s = .next a) := by
  have hout : s.tsnsMeasure n v1 v2 = if a.channelTaken (32 + n) then a
      else (a.tsnsJudged n (a.tsnsValue n v1 v2).1 (a.tsnsValue n v1 v2).2).tellSense 2 n (unsign 16 (a.tsnsValue n v1 v2).1) := by
    unfold State.tsnsMeasure State.tsnsJudged
    rw [if_neg (by rw [hheld, hen]; simpa using hmode), State.atTick_reached h]
  have hexec : exec (.tsnsMeasure n v1 v2) s = .next (s.tsnsMeasure n v1 v2) := rfl
  rw [hexec, hout]
  refine ⟨fun hfree => ?_, fun htaken => ?_⟩
  · rw [if_neg (by rw [hfree]; decide)]
    exact ⟨_, rfl, a.tsnsJudged_leaves n _ _ _⟩
  · rw [if_pos htaken]

theorem State.derateUpdate_reached (h : s.reachTick (tickDerate n) (10 * MS) 0 = some a) : s.derateUpdate n = a.derateNow n :=
  State.atTick_reached h _

theorem State.derateNow_none (hmode : s.fld (pgLCL n) Lcl.LCL_MODE Lcl.TSNS_MODE = 0) :
    ((s.derateNow n).clusterOf n).update = some (32768, false) := by
  unfold State.derateNow
  dsimp only
  rw [if_pos hmode]
  dsimp only
  rw [State.clusterOf_setCluster]

theorem State.derateNow_some {x : Int} (hmode : s.fld (pgLCL n) Lcl.LCL_MODE Lcl.TSNS_MODE ≠ 0)
    (hx : (s.clusterOf n).measured = some x) : ∃ trip, ((s.derateNow n).clusterOf n).update
      = some (derateOf (tempOf (s.reg (pgLCL n) Lcl.DERATE_T) (15, 0)) (tempOf (s.reg (pgLCL n) Lcl.DERATE_T) (31, 16))
        (s.fld (pgLCL n) Lcl.DERATE_MIN (15, 0)) x, trip) := by
  unfold State.derateNow
  dsimp only
  rw [if_neg hmode, hx]
  dsimp only
  rw [State.clusterOf_setCluster]
  exact ⟨_, rfl⟩

theorem derateUpdate_acts (h : s.reachTick (tickDerate n) (10 * MS) 0 = some a) :
    (s.fld (pgLCL n) Lcl.LCL_MODE Lcl.TSNS_MODE = 0 →
      ∃ t, exec (.derateUpdate n) s = .next t ∧ (t.clusterOf n).update = some (32768, false)) ∧
    (∀ x, s.fld (pgLCL n) Lcl.LCL_MODE Lcl.TSNS_MODE ≠ 0 → (s.clusterOf n).measured = some x →
      ∃ t trip, exec (.derateUpdate n) s = .next t ∧ (t.clusterOf n).update
        = some (derateOf (tempOf (s.reg (pgLCL n) Lcl.DERATE_T) (15, 0)) (tempOf (s.reg (pgLCL n) Lcl.DERATE_T) (31, 16))
            (s.fld (pgLCL n) Lcl.DERATE_MIN (15, 0)) x, trip)) := by
  have hreg {off : Nat} (ho : off = Lcl.LCL_MODE ∨ off = Lcl.DERATE_T ∨ off = Lcl.DERATE_MIN ∨ off = Lcl.TRIP) :
      a.reg (pgLCL n) off = s.reg (pgLCL n) off := (State.reachTick_within h).reg (clearOf_reachCluster n ho)
  have hmode : a.fld (pgLCL n) Lcl.LCL_MODE Lcl.TSNS_MODE = s.fld (pgLCL n) Lcl.LCL_MODE Lcl.TSNS_MODE :=
    congrArg (bits · Lcl.TSNS_MODE) (hreg (by simp))
  have hleast : a.fld (pgLCL n) Lcl.DERATE_MIN (15, 0) = s.fld (pgLCL n) Lcl.DERATE_MIN (15, 0) :=
    congrArg (bits · (15, 0)) (hreg (by simp))
  have hexec : exec (.derateUpdate n) s = .next (a.derateNow n) := congrArg Host.Outcome.next (State.derateUpdate_reached h)
  rw [hexec, ← hmode, ← hleast, ← hreg (off := Lcl.DERATE_T) (by simp), ← s.clusterOf_congr (State.reachTick_cluster h) n]
  refine ⟨fun hnone => ⟨_, rfl, State.derateNow_none hnone⟩, fun x hsome hx => ?_⟩
  obtain ⟨trip, hupdate⟩ := State.derateNow_some hsome hx
  exact ⟨_, trip, rfl, hupdate⟩

end

end Sys2Proof.Machine

open Sys2Proof Sys2Proof.Machine

/-- Settles O35, clause by clause: slot checks and launches, period boundaries and steps, samples, UNKNOWN, RETRY, keepers,
temperatures and derating. -/
theorem lampsAct : Obligations.LampsAct := by
  unfold Obligations.LampsAct
  refine ⟨fun s a n l hl h hmay => ⟨fun hslot => ?_, fun hslot => ?_⟩, fun s a n l g hl hc h hmay => ?_, fun s a n hruns h => ?_,
    fun d per carry due hd => pwmSteps_addUp per carry due hd,
    fun s a k code hsense hen hlong hedge hnew h => onSample_acts code hsense hen hlong hedge hnew h,
    fun s a k code hsense hen hpulse hgap hnew h => offSample_acts code hsense hen hpulse hgap hnew h,
    fun s a k hhas hfree h => diagTimeout_acts hhas hfree h, fun s r k h hlatched => retry_acts r h hlatched,
    fun s a n x hrel h => keeperOff_acts hrel h, fun s a n v1 v2 hmode hheld hen h => tsnsMeasure_acts v1 v2 hmode hheld hen h,
    fun s a n h => derateUpdate_acts h⟩
  · exact congrArg Host.Outcome.next (State.lampSlotCheck_holds hl h hmay hslot)
  · exact ⟨_, rfl, State.lampSlotCheck_missing hl h hmay hslot⟩
  · exact ⟨_, (s.clusterOf n.val).enginesAt l, rfl, State.lampLaunch_leaves hl hc h hmay⟩
  · refine ⟨_, congrArg Host.Outcome.next ((if_pos hruns).trans (State.pwmBoundary_reached h)), rfl, ?_⟩
    exact a.pwmBoundaryAt_boundary _ _
end
